-- ==== Sys2Proof/Word.lean ====
section
/-! DEFINITION. The bytes and register words of the block. -/
namespace Sys2Proof

/-- One byte of a packet, a frame or a stored image. -/
abbrev Byte := BitVec 8

/-- A run of bytes, first byte first. -/
abbrev Bytes := List Byte

/-- One register of the register window (R4). -/
abbrev Word := BitVec 32

end Sys2Proof
end

