-- ==== Sys2Proof/Machine/PartsAudio.lean ====
section
/-! DEFINITION. The audio ports and their groups: configuration and state (chapter 15). -/
namespace Sys2Proof.Machine
open Sys2Proof

/-- AUD_PORT_CONFIGURE (R482). -/
structure AudCfg where
  mode : Nat := 0
  domain : Nat := 0
  flags : Nat := 0
  rate : Nat := 0
  slots : Nat := 0
  width : Nat := 0
  fsync : Nat := 0
  txMask : Nat := 0
  rxMask : Nat := 0
  txRing : Nat := 0xFF
  rxRing : Nat := 0xFF
  bufFrames : Nat := 0
  runIn : Nat := 64
  localOffset : Int := 0
  jamMinute : Nat := 0
  darsGrade : Nat := 0
  userBits : Nat := 0
  offset : Int := 0
  status : Bytes := List.replicate 24 0#8
  deriving DecidableEq, Repr, Inhabited

/-- A transmit buffer in a port's queue: its descriptor index, first frame, and records (R466, R467). -/
structure AudBuf where
  desc : Nat := 0
  index : Nat := 0
  records : List Bytes := []
  deriving DecidableEq, Repr, Inhabited

/-- A receive buffer in fill (R466, R467). -/
structure AudFill where
  index : Nat := 0
  stamp : Nat := 0
  flags : Nat := 0
  records : List Bytes := []
  deriving DecidableEq, Repr, Inhabited

/-- One audio port at run time (R463 to R478, R485). -/
structure AudRun where
  /-- The port takes part in its group's run; and its clocks have started (R473). -/
  active : Bool := false
  begun : Bool := false
  /-- The frame at the pin. -/
  index : Nat := 0
  /-- The records read for boundaries to come, by frame; none for a zero frame (R475). -/
  sched : List (Nat × Option Bytes) := []
  /-- The frame whose record has been read last. -/
  readUpTo : Nat := 0
  /-- The tick of that read (R480). -/
  readAt : Option Nat := none
  events : Nat := 0
  inUnder : Bool := false
  inOver : Bool := false
  rxLocked : Bool := false
  /-- Z preambles in a row since the receiver searched for lock (R469). -/
  zRun : Nat := 0
  gap : Bool := false
  queue : List AudBuf := []
  fill : Option AudFill := none
  rxCount : Nat := 0
  underruns : Nat := 0
  lateFrames : Nat := 0
  horizonDrops : Nat := 0
  overruns : Nat := 0
  stopDiscards : Nat := 0
  rxErrors : Nat := 0
  rxFreq : Int := 0
  lastRx : Nat := 0
  /-- The step epoch of that stamp, while the next one can measure the rate from it. -/
  rxChain : Option Nat := none
  /-- The latest boundary in counter time, 2⁻¹⁶ ns (R467). -/
  stampAt : Nat := 0
  /-- The instant of the latest boundary at the pin, in ps of the model's clock (R478). -/
  lastPs : Nat := 0
  deriving DecidableEq, Repr, Inhabited

/-- A group that runs: START_INDEX and STOP_INDEX; `started` once frame s has been at the pins (R473, R474). -/
structure GroupRun where
  running : Bool := false
  started : Bool := false
  start : Nat := 0
  stop : Option Nat := none
  deriving DecidableEq, Repr, Inhabited

/-- The audio block. -/
structure AudPart where
  ports : List AudRun := List.replicate 4 {}
  groups : List GroupRun := List.replicate 4 {}
  deriving DecidableEq, Repr, Inhabited

end Sys2Proof.Machine
end

