-- ==== Sys2Proof/Machine/PartsBoot.lean ====
section
/-! DEFINITION. The state of the clock root, of supplies, reset, straps and boot, and the fault record (chapters 07 and 18). -/
namespace Sys2Proof.Machine
open Sys2Proof

/-- One entry of the fault record, and its instant (R570, R571, R573). -/
structure FaultEntry where
  ps : Nat := 0
  cause : Nat := 0
  claim : Nat := 0
  powerCycle : Nat := 0
  opTime : Nat := 0
  detail : Nat := 0
  deriving DecidableEq, Repr, Inhabited

/-- The groups of pins whose stand in reset, before the claim opens and in loss of lock is given in one table (R565): the outputs,
TOD_TX and the audio pins; the lanes of NET_TX and PL_TX; CLAIM_TX; CLAIM_OWN; INT_N; BPLL_LOCK; the idle pins of FSPI, GSPI and
OSC_CTL; the data pins of HSPI. -/
inductive PadGroup where
  | outputs
  | lanes
  | claimTx
  | claimOwn
  | intN
  | bpllLock
  | serial
  | hostSpi
  deriving DecidableEq, Repr, Inhabited

/-- How a group of pins stands: high-impedance with its keepers off, off, low, driven high while idle, high-impedance where SHARED and
as configured elsewhere, idle where SHARED and as configured elsewhere, or as the chapter that owns it gives (R565). -/
inductive PadStand where
  | highZ
  | off
  | low
  | idleHigh
  | sharedHighZ
  | sharedIdle
  | owned
  deriving DecidableEq, Repr, Inhabited

/-- An image in load from the host (R561): its ID, the next block number and the bytes so far. -/
structure LoadImage where
  id : Nat := 0
  nextBlock : Nat := 0
  data : Bytes := []
  deriving DecidableEq, Repr, Inhabited

/-- Supplies, reset, straps, boot and the watch domain's records (R552 to R574). -/
structure BootPart where
  /-- VDDIO stands at or above 1.45 V (R553). -/
  vddio : Bool := true
  powerGood : Bool := true
  /-- RESET_N is low until this instant (R554). -/
  resetLow : Nat := 0
  /-- A thermal hold stands (R557). -/
  thermalHold : Bool := false
  /-- Device reset stands. -/
  inReset : Bool := true
  /-- BOOT_STATE.STAGE (R559). -/
  stage : Nat := 0
  cmdReady : Bool := false
  /-- Straps as sampled at the end of reset (R558). -/
  pairId : Bool := false
  bootSrc : Nat := 0
  spiQuad : Bool := false
  resetCause : Nat := 0
  faults : List FaultEntry := []
  faultOverflow : Bool := false
  thermalWarn : Bool := false
  hostBoot : Bool := false
  copyB : Bool := false
  configImageError : Bool := false
  configErrorIndex : Nat := 0xFFFF
  /-- The boot configuration image has been executed (R562). -/
  configDone : Bool := false
  /-- The claim has opened, or a self-fault has dropped it, since the latest device reset (R384, R563). -/
  claimSpent : Bool := false
  /-- The instant at which device reset ended, and µs from there to READY (R573). -/
  resetEnd : Nat := 0
  bootTime : Nat := 0
  /-- TEMP_MAX in 0.125 °C (R573). -/
  tempMax : Int := 0
  /-- Images in load from the host, rising ID, and the images that boot has taken, by ID (R560, R561). -/
  loads : List LoadImage := []
  images : List (Nat × Bytes) := []
  /-- Versions that the ROM and the images report (R521). -/
  romVersion : Nat := 0
  dealerVersion : Nat := 0
  trickVersion : Nat := 0
  gnssVersion : Nat := 0
  /-- The instant of the reset that follows a watchdog expiry (R556). -/
  watchdogReset : Option Nat := none
  /-- PCIE_PERST_N is high, and PCIe link training has started (R557). -/
  perst : Bool := true
  training : Bool := false
  deriving DecidableEq, Repr, Inhabited

/-- The Base PLL and its disturbances (R193 to R203, R221). -/
structure RootPart where
  /-- The PLL is locked. -/
  locked : Bool := false
  /-- The loss-of-lock state stands (R201, R202). -/
  lost : Bool := false
  /-- SYSOSC nominal code 0–4 (R193). -/
  code : Nat := 0
  excursion : Bool := false
  excursionCount : Nat := 0
  /-- LOCK_TIME in µs (R221). -/
  lockTime : Nat := 0
  /-- The instant at which SYSOSC was measured (R193). -/
  detected : Nat := 0
  /-- The instant since which lock has held without excursion. -/
  lockedSince : Nat := 0
  deriving DecidableEq, Repr, Inhabited

end Sys2Proof.Machine
end

