-- ==== Sys2Proof/Machine/PartsDpll.lean ====
section
/-! DEFINITION. DPLLs, holdover, the Meld and the bound engine: configuration and state (chapters 04 and 05). -/
namespace Sys2Proof.Machine
open Sys2Proof

/-- DPLL_CONFIGURE of one domain with the reset values of the T-DPLL; `bw` differs for an F-DPLL (R131). -/
structure DpllCfg where
  returnStep : Bool := false
  holdSource : Nat := 0
  holdAvg : Nat := 2
  holdGuard : Nat := 1
  lockTime : Nat := 3
  damping : Nat := 5120
  bw : Nat := 10000
  acqBw : Nat := 0
  lockPhase : Nat := 655360
  slewLimit : Nat := 922337203685
  returnSlew : Nat := 1844674407371
  freqSlew : Nat := 0
  freqStepDetect : Nat := 110
  holdoverSpec : Nat := 1000000
  cat1 : Nat := 10000000
  cat2 : Nat := 100000000
  deriving DecidableEq, Repr, Inhabited

/-- HOLD_MODEL_SET (R133). `holdClock` is a SOURCE_ID, 0 for SYSOSC. -/
structure HoldCfg where
  holdClock : Nat := 0
  atomic : Bool := false
  useLearned : Bool := false
  resetLearning : Bool := false
  learnHours : Nat := 24
  aSup : Nat := 0
  dSup : Nat := 0
  qSup : Nat := 0
  steerMode : Nat := 0
  steerExp : Nat := 0
  relative : Bool := false
  ackRequired : Bool := false
  steerPeriod : Nat := 0
  oscBaud : Nat := 0
  steerMax : Nat := 0
  steerTol : Nat := 0
  pref : Bytes := []
  suffix : Bytes := []
  ack : Bytes := []
  deriving DecidableEq, Repr, Inhabited

/-- The DPLL states (R105). -/
inductive DpllState where
  | freeRun
  | acquiring
  | locked
  | holdover
  | returning
  deriving DecidableEq, Repr, Inhabited

/-- A phase error that reached a DPLL in the estimate interval in progress: epoch, stamp and error (R123). -/
structure FreqPoint where
  epoch : Nat
  stamp : Nat
  err : Int
  deriving DecidableEq, Repr, Inhabited

/-- One DPLL (R101 to R132). -/
structure DpllRun where
  state : DpllState := .freeRun
  everLocked : Bool := false
  rateClamped : Bool := false
  phaseErr : Int := 0
  /-- The integral path, fractional frequency in 2⁻⁹⁶ (R600). -/
  integ : Int := 0
  /-- The next sample is a first sample in the sense of R600. -/
  first : Bool := true
  /-- The next sample sets a build-out (R106, R107). -/
  buildPending : Bool := false
  prevStamp : Nat := 0
  prevEpoch : Nat := 0
  /-- The F-DPLL build-out register, 2⁻¹⁶ ns (R107). -/
  buildOut : Int := 0
  /-- A return or an accepted jump is being slewed out (R105). -/
  returnSlewing : Bool := false
  holdFreq : Int := 0
  /-- Entry to HOLDOVER: its instant, the sum of the counter's increments there, and the Meld's frequency and drift of HOLD_CLOCK at it
  (R110, R112, R132). -/
  holdPs : Nat := 0
  holdInc : Nat := 0
  predFreq : Int := 0
  predDrift : Int := 0
  lockCount : Nat := 0
  /-- Since when the phase error has stayed within LOCK_PHASE (R104). -/
  lockSince : Option Nat := none
  lastJump : Int := 0
  lastJumpSource : Nat := 0
  /-- Entry to ACQUIRING or RETURNING, and the rate words since, newest first, with their start instants (R109). -/
  acqSince : Option Nat := none
  rateHist : List (Nat × Nat) := []
  /-- Estimate interval in progress, its points, and the latest estimate in 2⁻⁶⁴ (R123). -/
  estStart : Option Nat := none
  points : List FreqPoint := []
  lastEst : Option Int := none
  deriving DecidableEq, Repr, Inhabited

/-- The holdover model, learning and steering (R109 to R127, R134). -/
structure HoldRun where
  learned : Bool := false
  /-- Locked time accumulated towards LEARN_HOURS, in ps; and since when it runs. -/
  learnedPs : Nat := 0
  learnSince : Option Nat := none
  aLearned : Nat := 0
  dLearned : Nat := 0
  qLearned : Nat := 0
  /-- Floors that a commit during holdover sets until the next LOCKED (R114). -/
  aFloor : Nat := 0
  dFloor : Nat := 0
  qFloor : Nat := 0
  /-- The holdover origin: the sum of the counter's increments at the origin (R112). -/
  origin : Option Int := none
  /-- B0 in 2⁻⁸ ps; none is unbounded. -/
  b0 : Option Nat := none
  originLearned : Bool := false
  absent : Bool := false
  /-- Unbounded causes of R116 that stand: clamp, HOLD_CLOCK failed, HOLD_CLOCK left the Meld. -/
  clampStands : Bool := false
  failedStands : Bool := false
  leftStands : Bool := false
  /-- Since the origin: HOLD_CLOCK failed a hard check; a FREQ_STEP was detected; consistency failed (R120). -/
  clockFailed : Bool := false
  freqStepped : Bool := false
  /-- The instant of the latest FREQ_STEP (R128). -/
  stepPs : Option Nat := none
  /-- A source that JUMP_ACCEPT has made the choice while its latest sample could not be used, and whether a step was asked for
  (R122, R601). -/
  accepted : Option (Nat × Bool) := none
  consistFailed : Bool := false
  horizonPassed : Bool := false
  coverHours : Nat := 0
  predFreq : Int := 0
  predDrift : Int := 0
  steerCount : Nat := 0
  steerNoack : Nat := 0
  oscFault : Bool := false
  /-- The next steering period, the command being sent with its step in 2⁻⁶⁴, and the end of the wait for its ACK. -/
  steerAt : Option Nat := none
  steerSending : Option Int := none
  steerAckBy : Option Nat := none
  steerStep : Int := 0
  /-- The last absolute setting sent, in steering units. -/
  steerSetting : Int := 0
  clockClass : Nat := 248
  deriving DecidableEq, Repr, Inhabited

/-- MELD_CONFIGURE (R164). -/
structure MeldCfg where
  enable : Bool := false
  gateK : Nat := 80
  weightTau : Nat := 1000
  gateCount : Nat := 16
  voteK : Nat := 48
  consistK : Nat := 80
  outlierClear : Nat := 7
  deriving DecidableEq, Repr, Inhabited

/-- MELD_CLOCK_SET of one slot; `sourceId` 0 in slots 1–7 is empty (R165). -/
structure MeldSlotCfg where
  role : Nat := 0
  sourceId : Nat := 0
  ensemble : Bool := false
  witness : Bool := false
  wpm : Nat := 0
  q1 : Nat := 0
  q2 : Nat := 0
  q3 : Nat := 0
  y0 : Nat := 0
  d0 : Nat := 0
  deriving DecidableEq, Repr, Inhabited

/-- A Meld member's estimates: phase in 2⁻⁴⁸ ns, frequency in 2⁻⁶⁴, drift in 2⁻⁹⁶ s⁻¹ (R139, R166). -/
structure MeldEst where
  phase : Int := 0
  freq : Int := 0
  drift : Int := 0
  deriving DecidableEq, Repr, Inhabited

/-- The estimates and the covariance at an update, with its raw instant: where the time of a phase split began (R146). -/
structure PhaseBase where
  ps : Nat := 0
  est : List MeldEst := []
  cov : List (List Int) := []
  deriving DecidableEq, Repr, Inhabited

/-- A Meld member at run time (R140 to R148, R166). -/
structure MeldMember where
  initialised : Bool := false
  /-- The source has had a hard check failure since the latest initialisation (R143). -/
  stale : Bool := false
  est : MeldEst := {}
  weight : Nat := 0
  gateRejects : Nat := 0
  outlier : Bool := false
  /-- Since when the outlier's residual has stayed small (R147). -/
  outlierSmall : Option Nat := none
  residual : Int := 0
  /-- A phase vote named the member: where its split began (R147). -/
  outlierBase : Option PhaseBase := none
  reinitCount : Nat := 0
  /-- Samples since the latest update instant: sum of phases and their number (R140). -/
  sum : Int := 0
  count : Nat := 0
  /-- Steering to absorb at the next update: step, and added uncertainty (R144, R127). -/
  steer : Int := 0
  steerUnc : Nat := 0
  deriving DecidableEq, Repr, Inhabited

/-- A vote that is due: the two candidates by SOURCE_ID, whether the split is by phase, when it was raised, and where a phase split
began (R90, R146). -/
structure VoteDue where
  p : Nat
  q : Nat
  byPhase : Bool
  at_ : Nat
  base : Option PhaseBase := none
  deriving DecidableEq, Repr, Inhabited

/-- The Meld (R136 to R150, R166). The covariance is a 24 by 24 table, state 3·slot + k, in products of the units of the
states. -/
structure MeldRun where
  slots : List MeldMember := List.replicate 8 {}
  cov : List (List Int) := []
  updateCount : Nat := 0
  lastUpdate : Nat := 0
  lastUpdatePs : Nat := 0
  /-- The instant at which the latest update completed. -/
  donePs : Option Nat := none
  lastVote : Nat := 0
  lastVoteSource : Nat := 0
  vote : List VoteDue := []
  /-- Steering commands sent while the update in progress ran, as slot, step and uncertainty; and those that the update before had to
  leave to this one (R144). -/
  steerCut : List (Nat × Int × Nat) := []
  steerHeld : List (Nat × Int × Nat) := []
  /-- The update in progress: counter instant, raw instant, and per slot the mean phase and sample number. -/
  busy : Option (Nat × Nat) := none
  /-- Frequencies of the members against raw time, 2⁻⁶⁴ (R110). -/
  rawFreq : List Int := []
  meas : List (Option (Int × Nat)) := []
  /-- Ensemble time minus raw time, 2⁻⁴⁸ ns, by update, newest first (R141, R79). -/
  ensHist : List (Nat × Int) := []
  /-- States and covariance frozen at the origin, with its raw instant (R148). -/
  frozen : List MeldEst := []
  frozenCov : List (List Int) := []
  frozenPs : Nat := 0
  frozenUsable : List Bool := []
  reinitHold : Bool := false
  /-- Hadamard accumulation: phase of HOLD_CLOCK against the selected candidate by update, 2⁻⁴⁸ ns (R149). -/
  learnPhase : List (Nat × Int) := []
  deriving DecidableEq, Repr, Inhabited

/-- Per-source bound settings (R168). -/
structure BoundSrcCfg where
  halfPath : Bool := false
  asymAllow : Nat := 0
  extraUnc : Nat := 0
  deriving DecidableEq, Repr, Inhabited

/-- BOUND_POLICY global settings (R168). -/
structure BoundCfg where
  nTrack : Nat := 16
  alertLevel : Nat := 0xFFFFFFFFFF
  deriving DecidableEq, Repr, Inhabited

/-- One sample in the tracking window: claimed uncertainty in ps, stamping uncertainty in 2⁻⁸ ps, phase error, instant (R152). -/
structure TrackEntry where
  unc : Nat
  stampUnc : Nat
  err : Int
  ps : Nat
  deriving DecidableEq, Repr, Inhabited

/-- The terms kept from the previous candidate until the new one's first sample, in 2⁻⁸ ps; none is unbounded (R152). -/
structure HeldTerms where
  unc : Option Nat := none
  stamp : Nat := 0
  asym : Nat := 0
  track : Nat := 0
  deriving DecidableEq, Repr, Inhabited

/-- The bound engine (R151 to R160). -/
structure BoundRun where
  window : List TrackEntry := []
  held : Option HeldTerms := none
  /-- The mean path delay at the candidate's latest sample (R154). -/
  delay : Int := 0
  /-- The measured instant of the candidate's last sample (R155). -/
  lastSamplePs : Nat := 0
  /-- DIST in 2⁻⁸ ps and F_DIST in 2⁻⁶⁴ with the instant of the latest disturbance (R158). -/
  dist : Nat := 0
  fDist : Nat := 0
  distAt : Nat := 0
  /-- The contributions that stand: amount in 2⁻⁸ ps, frequency in 2⁻⁶⁴, and instant of each (R158). -/
  parts : List (Nat × Nat × Nat) := []
  /-- A root excursion keeps the bound unbounded: until cleared as DIST is, or until LOCKED (R158). -/
  excTrack : Bool := false
  excAt : Nat := 0
  excHold : Bool := false
  wasUnbounded : Bool := true
  wasAbove : Bool := false
  deriving DecidableEq, Repr, Inhabited

end Sys2Proof.Machine
end

