-- ==== Sys2Proof/Machine/PartsPort.lean ====
section
/-! DEFINITION. Network ports: configuration and state (chapter 09), and the frames that wait on them. -/
namespace Sys2Proof.Machine
open Sys2Proof

/-- The four Suits (R284). -/
inductive Suit where
  | spades
  | hearts
  | diamonds
  | clubs
  deriving DecidableEq, Repr, Inhabited

/-- The request kinds (R286). -/
inductive Kind where
  | ptpInput
  | delayReq
  | pdelayReq
  | signaling
  | ptpScheduled
  | ntpPlain
  | ntpSymmetric
  | nts
  | kod
  | receipt
  deriving DecidableEq, Repr, Inhabited

/-- PORT_CONFIGURE (R279). -/
structure PortCfg where
  mode : Nat := 0
  fec : Nat := 0
  flags : Nat := 0
  defaultPrio : Nat := 0
  maxFrame : Nat := 1522
  /-- MAC_ADDR in network order. -/
  mac : Nat := 0
  rxDelay : Int := 0
  txDelay : Int := 0
  boardUnc : Nat := 0
  deriving DecidableEq, Repr, Inhabited

/-- PORT_FLOW_CONTROL (R281). -/
structure FlowCfg where
  rxMode : Nat := 0
  rxPfcMask : Nat := 0xFF
  txPfcMask : Nat := 0
  spadesPrio : Nat := 0
  quanta : Nat := 0xFFFF
  xoff : List Nat := [0, 0, 0, 0, 0, 0, 0, 0]
  xon : List Nat := [0, 0, 0, 0, 0, 0, 0, 0]
  deriving DecidableEq, Repr, Inhabited

/-- PORT_SYNCE (R282). -/
structure SynceCfg where
  txDomain : Nat := 0
  flags : Nat := 8
  lockedQl : Nat := 8
  holdoverQl : Nat := 8
  freerunQl : Nat := 15
  clockId : Nat := 0
  deriving DecidableEq, Repr, Inhabited

/-- PERF_WINDOW_SET of one port (R551). -/
structure WinCfg where
  w0 : Nat := 3
  w1 : Nat := 6
  deriving DecidableEq, Repr, Inhabited

/-- The five states of a port (R253). -/
inductive PortState where
  | disabled
  | calibrating
  | down
  | aligning
  | up
  deriving DecidableEq, Repr, Inhabited

/-- INSERT of a time at egress (R260, R261): format, offsets, and the reference time of PTP_CORR in 2⁻¹⁶ ns. -/
structure Insert where
  fmt : Nat := 0
  tsOffset : Nat := 0
  csumOffset : Nat := 0
  corrOffset : Nat := 0
  refTime : Nat := 0
  deriving DecidableEq, Repr, Inhabited

/-- What a queued frame is, and what its egress report is for (R260, R295, R321, R511). -/
inductive TxTag where
  /-- The response to an admitted request: its promise origin in ps, and the NTP instance or PTP instance. -/
  | response (kind : Kind) (origin inst : Nat)
  /-- A two-step Sync: instance, binding port, sequenceId, client grant or none for multicast. -/
  | sync (inst port seq : Nat) (grant : Option Nat)
  /-- A two-step Pdelay_Resp: instance, port, the request's frame. -/
  | pdelayResp (inst port : Nat) (request : Bytes) (origin : Nat)
  /-- A slave-side Delay_Req or Pdelay_Req: instance, port, sequenceId, launch written. -/
  | delayReq (inst port seq : Nat)
  /-- Any other engine message. -/
  | engine (inst : Nat)
  /-- A frame of a transmit ring: ring, index of its FIRST and of its LAST descriptor, REPORT. -/
  | host (ring first last : Nat) (report : Bool)
  deriving DecidableEq, Repr

/-- A frame that waits on a port, without its FCS. -/
structure TxFrame where
  bytes : Bytes
  prio : Nat
  /-- L as it is written into a LAUNCH-form frame, 2⁻¹⁶ ns. -/
  stamp : Nat := 0
  /-- A host frame that missed its launch and is sent with LATE_SEND_TRUE (R263). -/
  late : Bool := false
  /-- The launch instant in ps of the model's clock; none for an untimed frame. -/
  launch : Option Nat := none
  launchForm : Bool := false
  insert : Option Insert := none
  tag : TxTag
  suit : Option Suit := none
  /-- The bound that the frame carries, in 2⁻⁸ ps; none when it carries none (R25), and the half unit of its format that
  the bound served with it adds (R57, R156). -/
  bound : Option Nat := none
  halfUnit : Nat := 0
  cells : Nat := 0
  deriving DecidableEq, Repr

/-- One bandwidth window (R275), with its number since raw time 0. -/
structure Window where
  idx : Nat := 0
  count : Nat := 0
  last : Nat := 0
  peak : Nat := 0
  /-- The latest completed window with a count: its number and count. -/
  back : Nat × Nat := (0, 0)
  deriving DecidableEq, Repr, Inhabited

/-- One port (R248 to R283). -/
structure PortRun where
  state : PortState := .disabled
  calOk : Bool := false
  everCal : Bool := false
  anDone : Bool := false
  /-- PAUSE as the partner advertised it in Clause 37 (R266). -/
  partnerPause : Bool := false
  /-- EVENTS of PORT_STATUS. -/
  events : Nat := 0
  /-- Priorities on which Spades arrived since the port last entered UP (R270). -/
  learned : Nat := 0
  /-- Priorities with XOFF standing, and the instants of the next refresh (R269). -/
  xoff : Nat := 0
  refresh : List Nat := [0, 0, 0, 0, 0, 0, 0, 0]
  /-- Ingress occupancy in bytes by priority (R269). -/
  occupancy : List Nat := [0, 0, 0, 0, 0, 0, 0, 0]
  /-- Received pause frames that take effect: instant and (priority, quanta) (R267). -/
  pauses : List (Nat × List (Nat × Nat)) := []
  /-- The end of each priority's pause, and the instant since which it is paused. -/
  pausedUntil : List (Option Nat) := [none, none, none, none, none, none, none, none]
  pausedSince : List Nat := [0, 0, 0, 0, 0, 0, 0, 0]
  /-- Paused time in ps (R268). -/
  paused : List Nat := [0, 0, 0, 0, 0, 0, 0, 0]
  rxQl : Nat := 0
  txQl : Nat := 15
  /-- The end of the 5 s without an ESMC PDU; validity, form, originator and cascade counts of the latest PDU (R273, R274). -/
  esmcBy : Option Nat := none
  esmcValid : Bool := false
  extendedRx : Bool := false
  esmcOrigin : Nat := 0
  esmcCounts : Nat × Nat := (0, 0)
  /-- The next information PDU, and the instants of the PDUs of the last second (R274). -/
  esmcNext : Nat := 0
  esmcSent : List Nat := []
  /-- Fixed and variable delays in force, 2⁻¹⁶ ns (R256, R259). -/
  dTx : Int := 0
  dRx : Int := 0
  /-- The parts of D_TX and D_RX that the last alignment measured (R259), and those that the replica delay line corrects (R258). -/
  vari : Int × Int := (0, 0)
  adj : Int × Int := (0, 0)
  rxFreq : Int := 0
  /-- Temperatures in 0.125 °C. -/
  calTemp : Int := 0
  temp : Int := 0
  /-- W0 and W1 of the receive direction, then of the transmit direction (R275). -/
  windows : List Window := [{}, {}, {}, {}]
  timed : List TxFrame := []
  untimed : List TxFrame := []
  /-- The instant at which the line is free of the frame before and its gap. -/
  lineFree : Nat := 0
  /-- Committed launches as (launch in ps, bytes with FCS) (R293). -/
  calendar : List (Nat × Nat) := []
  deriving DecidableEq, Repr, Inhabited

end Sys2Proof.Machine
end

