-- ==== Sys2Proof/Machine/PartsPtp.lean ====
section
/-! DEFINITION. The PTP service: configuration and state (chapter 11). -/
namespace Sys2Proof.Machine
open Sys2Proof

/-- PTP_INSTANCE_CREATE and PTP_INSTANCE_CONFIGURE (R342, R343). -/
structure PtpCfg where
  profile : Nat := 0
  role : Nat := 0
  domain : Nat := 0
  flags : Nat := 0
  clockId : Nat := 0
  priority1 : Nat := 128
  priority2 : Nat := 128
  localPriority : Nat := 128
  logSync : Int := -3
  logAnnounce : Int := 0
  logDelay : Int := -3
  announceTimeout : Nat := 3
  cfgFlags : Nat := 0
  authMode : Nat := 0
  txSa : Nat := 0
  delayAvg : Nat := 16
  variance : Nat := 0xFFFF
  accuracyTable : List Nat := [0, 0, 0, 0, 0, 0]
  grantLimit : Nat := 0
  maxDuration : Nat := 300
  minLogSync : Int := 0
  maxLogSync : Int := 0
  minLogAnnounce : Int := 0
  maxLogAnnounce : Int := 0
  minLogDelay : Int := 0
  maxLogDelay : Int := 0
  syncPhase : Int := 0
  smRateNum : Nat := 0
  smRateDen : Nat := 0
  smLocalOffset : Int := 0
  deriving DecidableEq, Repr, Inhabited

/-- An upstream master of a unicast client (R333, R345). -/
structure Upstream where
  addr : Nat := 0
  localPriority : Nat := 0
  deriving DecidableEq, Repr, Inhabited

/-- PTP_PORT_BIND (R345). -/
structure BindCfg where
  inst : Nat := 0
  port : Nat := 0
  transport : Nat := 0
  portMode : Nat := 0
  flags : Nat := 0
  localPriority : Nat := 0
  rateLimit : Nat := 0
  upDuration : Nat := 0
  upLogAnnounce : Int := 0
  upLogSync : Int := 0
  upLogDelay : Int := 0
  ipv6Scope : Nat := 14
  asymmetry : Int := 0
  upstreams : List Upstream := []
  deriving DecidableEq, Repr, Inhabited

/-- A security association (R334, R349); `key` is copied at commit. -/
structure SaCfg where
  alg : Nat := 0
  zeroCorr : Bool := false
  spp : Nat := 0
  slot : Nat := 0
  keyId : Nat := 0
  salt : Nat := 0
  /-- Loads of this association so far: a commit copies the key when it changes. -/
  loads : Nat := 0
  deriving DecidableEq, Repr, Inhabited

/-- What an Announce says (R316, R317). -/
structure Announce where
  source : Nat := 0
  gmPriority1 : Nat := 0
  gmClass : Nat := 0
  gmAccuracy : Nat := 0
  gmVariance : Nat := 0
  gmPriority2 : Nat := 0
  gmIdentity : Nat := 0
  stepsRemoved : Nat := 0
  timeSource : Nat := 0
  utcOffset : Int := 0
  flags : Nat := 0
  /-- The path trace TLV's identities (R322). -/
  path : List Nat := []
  deriving DecidableEq, Repr, Inhabited

/-- A foreign master on a binding: its latest Announce, its localPriority, its logMessageInterval and the instants of its latest
Announces, newest first (R316). -/
structure Foreign where
  ann : Announce := {}
  localPriority : Nat := 128
  /-- The source's address, for a unicast client's upstream (R333). -/
  addr : Nat := 0
  logInterval : Int := 0
  times : List Nat := []
  deriving DecidableEq, Repr, Inhabited

/-- The IEEE 1588-2019 port states (R316). -/
inductive PtpState where
  | initializing
  | faulty
  | disabled
  | listening
  | preMaster
  | master
  | passive
  | uncalibrated
  | slave
  deriving DecidableEq, Repr, Inhabited

/-- A Sync that waits for its Follow_Up, or the latest Sync: sequenceId, ingress stamp, epoch, correction, deadline, flags (R323). -/
structure SyncWait where
  seq : Nat := 0
  stamp : Nat := 0
  epoch : Nat := 0
  correction : Int := 0
  deadline : Nat := 0
  ps : Nat := 0
  /-- The trusted BOUND of the Sync's own TLV, in ps (R327). -/
  bound : Option Nat := none
  deriving DecidableEq, Repr, Inhabited

/-- A Follow_Up that came before its Sync: sequenceId, timestamp with correction, trusted BOUND (R323, R327). -/
structure FollowWait where
  seq : Nat := 0
  t1c : Int := 0
  bound : Option Nat := none
  deriving DecidableEq, Repr, Inhabited

/-- One binding at run time (R311 to R326, R346). -/
structure BindRun where
  state : PtpState := .initializing
  foreign : List Foreign := []
  /-- The instant of the latest Announce from the parent, for the timeout (R316). -/
  announceAt : Nat := 0
  /-- The oldest Sync that waits for its Follow_Up, and those after it (R323). -/
  sync : Option SyncWait := none
  later : List SyncWait := []
  /-- The latest Follow_Up whose Sync has not been taken yet. -/
  follow : Option FollowWait := none
  /-- t1 + correction, t2 and epoch of the latest complete Sync (R323, R324). -/
  lastSync : Option (Int × Nat × Nat) := none
  /-- The delay request in flight: sequenceId, t3 or t1, epoch (R324). -/
  request : Option (Nat × Nat × Nat) := none
  /-- A two-step Pdelay_Resp that waits for its Follow_Up: sequenceId, t2 less corrections, t4 (R324). -/
  pdelay : Option (Nat × Int × Nat) := none
  /-- The Sync interval of the parent and of the granted or own delay requests, log₂ s (R323, R324). -/
  syncLog : Int := 0
  delayLog : Int := 0
  /-- The latest valid exchange delays, newest first, and the instant of the newest (R324). -/
  delays : List Int := []
  delayAt : Nat := 0
  goodSamples : Nat := 0
  asCapable : Bool := false
  authFails : Nat := 0
  noGrant : Nat := 0
  rateExcess : Nat := 0
  grantsDenied : Nat := 0
  followupTimeouts : Nat := 0
  announceTimeouts : Nat := 0
  deriving DecidableEq, Repr, Inhabited

/-- A unicast client's request state for one upstream and message type (R333). -/
structure UpGrant where
  inst : Nat := 0
  port : Nat := 0
  upstream : Nat := 0
  mtype : Nat := 0
  granted : Bool := false
  /-- The instant of renewal, or of the next request; none while an answer is awaited. -/
  renewAt : Option Nat := none
  deriving DecidableEq, Repr, Inhabited

/-- One grant of the table (R329). `expiry` is raw time in ms, not reduced. -/
structure Grant where
  addr : Nat := 0
  v6 : Bool := false
  expiry : Nat := 0
  phase : Nat := 0
  seqBase : Nat := 0
  neighbour : Nat := 0
  inst : Nat := 0
  port : Nat := 0
  mtype : Nat := 0
  logInterval : Int := 0
  cancelSent : Bool := false
  /-- A Delay_Req has been answered under this grant, so that PHASE holds its raw time (R332). -/
  answered : Bool := false
  deriving DecidableEq, Repr, Inhabited

/-- One neighbour (R328). -/
structure Neighbour where
  port : Nat := 0
  mac : Nat := 0
  tags : Bytes := []
  deriving DecidableEq, Repr, Inhabited

/-- One instance at run time (R325, R326, R346). -/
structure PtpRun where
  tracking : Bool := false
  /-- The binding's port that is SLAVE or UNCALIBRATED, and the parent's Announce. -/
  parent : Option (Nat × Announce) := none
  clockClassSent : Nat := 0
  accuracySent : Nat := 0
  /-- j of the latest sample; its instant is `sampleAt`. -/
  lastOffset : Int := 0
  upstreamFreq : Int := 0
  unc : Nat := 0
  uncFromTlv : Bool := false
  samples : Nat := 0
  sampleAt : Nat := 0
  /-- A sample that is formed and not yet delivered is discarded on a change of master (R340). -/
  lastSample : Option (Nat × Int) := none
  deriving DecidableEq, Repr, Inhabited

/-- A security association in force: its key and its invocation counter (R334). -/
structure SaRun where
  key : Bytes := []
  counter : Nat := 0
  deriving DecidableEq, Repr, Inhabited

/-- The PTP service (R310 to R349). -/
structure PtpPart where
  insts : List PtpRun := List.replicate 64 {}
  /-- Bindings by 16·instance + port. -/
  binds : List (Nat × BindRun) := []
  grants : List (Nat × Grant) := []
  neighbours : List (Nat × Neighbour) := []
  sas : List (Nat × SaRun) := []
  upGrants : List UpGrant := []
  /-- The hand in which AUTH_FAIL was raised (R336). -/
  authHand : Option Nat := none
  deriving DecidableEq, Repr, Inhabited

end Sys2Proof.Machine
end

