-- ==== Sys2Proof/Machine/PartsRef.lean ====
section
/-! DEFINITION. References, monitors and selectors: configuration and state (chapter 03). -/
namespace Sys2Proof.Machine
open Sys2Proof

/-- REF_CONFIGURE of one source (R94). Offsets are in 2⁻¹⁶ ns, bounds in ps. -/
structure RefCfg where
  enable : Bool := false
  mode : Nat := 0
  edge : Nat := 0
  inputMode : Nat := 0
  glitchNs : Nat := 0
  todLabel : Nat := 0
  freqNum : Nat := 0
  freqDen : Nat := 0
  divider : Nat := 0
  todBaud : Nat := 0
  compensation : Int := 0
  claimed : Nat := 0
  deriving DecidableEq, Repr, Inhabited

/-- REF_QUALIFY_POLICY of one source with its reset values (R95). -/
structure RefPol where
  freqWindow : Nat := 1
  losCount : Nat := 3
  qualTime : Nat := 4
  wtr : Nat := 9
  monBasis : Nat := 0
  qlRankMax : Nat := 0
  softSet : Nat := 11000
  softClear : Nat := 8800
  hardSet : Nat := 55000
  hardClear : Nat := 44000
  pulseWindow : Nat := 65536000
  phaseJump : Nat := 6553600
  phaseLimit : Nat := 65536000
  maxUncertainty : Nat := 0xFFFFFFFFFF
  clockClassMax : Nat := 0
  deriving DecidableEq, Repr, Inhabited

/-- The qualification states (R82). -/
inductive RefState where
  | disabled
  | failed
  | qualifying
  | qualified
  | wtr
  | suspect
  deriving DecidableEq, Repr, Inhabited

/-- The kind of a standing jump finding (R119). -/
inductive Finding where
  | jump
  | jumpAlert
  deriving DecidableEq, Repr, Inhabited

/-- A pulse of a PULSE_TOD pin that waits for its sentence: its stamp, its instant, its step epoch, and whether time was
valid at it (R75). -/
structure TodPulse where
  stamp : Nat
  ps : Nat
  epoch : Nat
  timeValid : Bool
  deriving DecidableEq, Repr, Inhabited

/-- The run-time state of one source (R75 to R85, R96, R598, R599). -/
structure RefRun where
  state : RefState := .disabled
  soft : Bool := false
  hasQualified : Bool := false
  freqValid : Bool := false
  phaseValid : Bool := false
  finding : Option Finding := none
  /-- CAUSE bits 0–8, and CAUSE at the latest disqualification (R96). -/
  cause : Nat := 0
  lastCause : Nat := 0
  events : Nat := 0
  /-- Measured frequency, 2⁻⁶⁴ (R79). -/
  freq : Int := 0
  /-- Latest phase offset, 2⁻¹⁶ ns, with the stamp and step epoch of its sample (R96, R81). -/
  phase : Int := 0
  hasSample : Bool := false
  stamp : Nat := 0
  epoch : Nat := 0
  /-- The instant of the latest sample in the model's clock. -/
  samplePs : Nat := 0
  /-- The latest sample's phase offset counts for PHASE_JUMP (R81, R598). -/
  jumpBase : Bool := false
  claimed : Nat := 0
  stampUnc : Nat := 0
  pathDelay : Int := 0
  /-- Nominal sample period in ps (R103, R600). -/
  period : Nat := 1000000000000
  samples : Nat := 0
  /-- The instant of entry to QUALIFIED (R84). -/
  qualifiedAt : Nat := 0
  /-- Deadline of the QUAL_TIME or WTR timer that runs (R82, R83). -/
  timer : Option Nat := none
  /-- Next expected instant in the model's clock, and consecutive misses (R599). -/
  expected : Option Nat := none
  misses : Nat := 0
  /-- The step epoch of the latest event that ACTIVITY judged (R599). -/
  actEpoch : Nat := 0
  /-- The instant of the standing jump finding (R128). -/
  findingPs : Nat := 0
  /-- Start of the frequency window in progress, and updates made in it (R79). -/
  winStart : Nat := 0
  winUpdates : Nat := 0
  winDone : Bool := false
  /-- Phase against raw time by instant, newest first: (instant in ps, source time minus raw time in 2⁻¹⁶ ns) (R79). -/
  hist : List (Nat × Int) := []
  /-- Nominal periods counted from the source's own events (R79, R102). -/
  nomCount : Nat := 0
  /-- Sums of the counter's increments at the latest updates, newest first, with their instants (R598). -/
  marks : List (Nat × Nat) := []
  /-- PULSE_TOD: the instant of the latest pulse, the pulse that waits for its sentence, the UTC second of the sentence
  that labels the next pulse, and the latest label (R75, R76). -/
  pulsePs : Option Nat := none
  awaiting : Option TodPulse := none
  pendUtc : Option Nat := none
  lastLabel : Option Nat := none
  /-- The counter's mean frequency over the last complete window, 2⁻⁶⁴ (R598). -/
  counterFreq : Int := 0
  /-- The source block reports samples and health (R78): health of its own kind. -/
  healthOk : Bool := true
  /-- The ESMC rank, or the upstream clockClass, that SOURCE_HEALTH compares (R78). -/
  rank : Nat := 0
  /-- Samples since a new configuration (R82 CONFIG). -/
  configPending : Bool := false
  deriving DecidableEq, Repr, Inhabited

/-- One slate entry: source ordinal, bid and LOCKOUT (R86, R97). -/
structure SlateEntry where
  ord : Nat := 0
  bid : Nat := 0
  lockout : Bool := false
  deriving DecidableEq, Repr, Inhabited

/-- SEL_CONFIGURE of one domain (R97). -/
structure SelCfg where
  revertive : Bool := true
  meldVote : Bool := false
  splitTime : Nat := 7
  splitFreq : Nat := 0
  splitPhase : Nat := 0
  slate : List SlateEntry := []
  deriving DecidableEq, Repr, Inhabited

/-- The mode of a selector (R87). -/
inductive SelMode where
  | automatic
  | manual
  | none
  deriving DecidableEq, Repr, Inhabited

/-- A pair of equal-bid candidates under comparison, by source ordinal (R89). -/
structure SplitPair where
  a : Nat
  b : Nat
  byPhase : Bool
  /-- The update at which the difference began to exceed the limit. -/
  since : Nat
  /-- Where a phase split began (R146). -/
  base : Option PhaseBase := none
  raised : Bool := false
  deriving DecidableEq, Repr, Inhabited

/-- One selector (R87 to R92, R99). The candidate number and its source are kept together. -/
structure SelRun where
  mode : SelMode := .automatic
  pick : Option Nat := none
  selected : Option Nat := none
  selectedOrd : Option Nat := none
  /-- The latest candidate that was selected (R316). -/
  lastOrd : Option Nat := none
  switchCount : Nat := 0
  lastSwitch : Nat := 0
  splits : List SplitPair := []
  deriving DecidableEq, Repr, Inhabited

end Sys2Proof.Machine
end

