-- ==== Sys2Proof/Machine/PartsScore.lean ====
section
/-! DEFINITION. The Scorecard, the performance filters and the flash: configuration and state (chapter 17). -/
namespace Sys2Proof.Machine
open Sys2Proof

/-- The layout of the flash by its density (R530). -/
inductive FlashKind where
  | unsupported
  | small
  | large
  deriving DecidableEq, Repr, Inhabited

/-- REC_CONFIGURE (R546). -/
structure RecCfg where
  enable : Bool := true
  occLimit : Nat := 16
  repeatSeconds : Nat := 60
  deriving DecidableEq, Repr, Inhabited

/-- PERF_FILTER_SET of one filtered counter (R542, R550); `loads` counts its commands. -/
structure FilterCfg where
  eventType : Nat := 0
  bytes : Bool := false
  priv : Nat := 0
  suits : Nat := 0
  ports : Nat := 0
  masters : Nat := 0
  addrLow : Nat := 0
  addrHigh : Nat := 0
  loads : Nat := 0
  deriving DecidableEq, Repr, Inhabited

/-- A record of a page (R533). `lastPs` is the instant of its last occurrence. -/
structure Rec where
  code : Nat := 0
  flags : Nat := 0
  powerCycle : Nat := 0
  taiSec : Nat := 0
  taiNs : Nat := 0
  opTime : Nat := 0
  count : Nat := 0
  excess : Nat := 0
  min : Int := 0
  max : Int := 0
  hist : List Nat := [0, 0, 0, 0, 0, 0, 0]
  lastPs : Nat := 0
  deriving DecidableEq, Repr, Inhabited

/-- A page of the hourly or the daily ring (R531), with the programmed bits of an hourly page's boot tally (R532). A torn
page fails its CRC. -/
structure Page where
  daily : Bool := false
  seq : Nat := 0
  opStart : Nat := 0
  opEnd : Nat := 0
  powerCycle : Nat := 0
  flags : Nat := 0
  taiEnd : Nat := 0
  omitted : Nat := 0
  carryIn : Nat := 0
  written : Nat := 0
  records : List Rec := []
  tally : Nat := 0
  torn : Bool := false
  deriving DecidableEq, Repr, Inhabited

/-- An hourly page in write: its slot, the attempt, the start, and what follows it (R536, R537). -/
structure Writing where
  page : Page := {}
  slot : Nat := 0
  attempt : Nat := 1
  start : Nat := 0
  forced : Bool := false
  deriving DecidableEq, Repr, Inhabited

/-- The Scorecard at run time (R529 to R540). -/
structure ScorePart where
  /-- Operating time in ps, from which OP_TIME counts (R529). -/
  opPs : Nat := 0
  powerCycle : Nat := 0
  kind : FlashKind := .unsupported
  /-- SAMPLE and RATE records of the interval by code, and occurrence records in time order. -/
  samples : List (Nat × Rec) := []
  occs : List Rec := []
  omitted : List Nat := []
  /-- RECORD_LIMITED has been raised in this interval (R535). -/
  limited : Bool := false
  opStart : Nat := 0
  /-- The RATE events of the hand in progress: refusals, bound cancels, pause drops, key changes (R534). -/
  handCounts : List Nat := [0, 0, 0, 0]
  /-- Carry counts by code and DETAIL (R536). -/
  carry : List (Nat × Int × Nat) := []
  writing : Option Writing := none
  /-- Snapshots that wait for the page before them. -/
  waiting : List Writing := []
  dailyDue : Bool := false
  credits : Nat := 0
  deriving DecidableEq, Repr, Inhabited

/-- The external flash (R443, R530): it keeps its contents over every reset. -/
structure FlashPart where
  /-- Density in MiB as SFDP gives it; 0 without SFDP. -/
  density : Nat := 64
  /-- Pages by slot, and the next slot of each ring. -/
  hourly : List (Nat × Page) := []
  hourlyHead : Nat := 0
  daily : List (Nat × Page) := []
  dailyHead : Nat := 0
  /-- Kitty banks 0 and 1; empty when erased. -/
  bank0 : Bytes := []
  bank1 : Bytes := []
  deriving DecidableEq, Repr, Inhabited

end Sys2Proof.Machine
end

