-- ==== Sys2Proof/Machine/PartsTime.lean ====
section
/-! DEFINITION. The state of the time scale: the counter, steps, slews, the leap table (chapter 02). -/
namespace Sys2Proof.Machine

/-- The time counter: whole seconds, nanoseconds, and a fraction in 2⁻⁴⁸ ns (R32). -/
structure Counter where
  sec : Nat := 0
  ns : Nat := 0
  frac : Nat := 0
  deriving DecidableEq, Repr, Inhabited

/-- What a scheduled change does: step by an offset in 2⁻¹⁶ ns, or load a time with its claimed bound (R43). -/
inductive PendKind where
  | step (offset : Int)
  | set (time bound : Nat)
  deriving DecidableEq, Repr, Inhabited

/-- The pending host step or set and its APPLY_AT, a time in 2⁻¹⁶ ns (R43). -/
structure PendChange where
  kind : PendKind
  applyAt : Nat
  deriving DecidableEq, Repr, Inhabited

/-- Who started the slew in progress (R33, R46). -/
inductive SlewOwner where
  | host
  | tdpll
  deriving DecidableEq, Repr, Inhabited

/-- Where a leap entry came from (R69). -/
inductive LeapSource where
  | host
  | gnss
  | ptp
  | irig
  deriving DecidableEq, Repr, Inhabited

/-- An announced leap: the first TAI second of the new offset, and that offset (R50). -/
structure LeapEntry where
  leapTai : Nat
  newOffset : Int
  source : LeapSource := .host
  deriving DecidableEq, Repr, Inhabited

/-- The retained past entry with the offset that preceded it (R50, R52). -/
structure PastLeap where
  entry : LeapEntry
  preceding : Int
  deriving DecidableEq, Repr, Inhabited

/-- The time scale at an instant: what a stretch of the counter's course begins with (R38). -/
structure Stretch where
  ps : Nat := 0
  total : Nat := 0
  rate : Nat := 0
  slewing : Bool := false
  slewRem : Int := 0
  slewInc : Nat := 0
  epoch : Nat := 0
  deriving DecidableEq, Repr, Inhabited

/-- The time scale (R32 to R58). -/
structure TimePart where
  counter : Counter := {}
  /-- RATE, 2⁻⁴⁸ ns per tick (R34, R35). -/
  rate : Nat := 450359962737050
  /-- Rate words of the frequency domains A, B, C (R39). -/
  fdomRate : List Nat := [450359962737050, 450359962737050, 450359962737050]
  /-- Phase accumulators of the frequency domains, in 2⁻⁴⁸ ns (R39). -/
  fdomAcc : List Nat := [0, 0, 0]
  /-- A slew runs (R46). -/
  slewing : Bool := false
  slewOwner : SlewOwner := .host
  /-- Remaining slew offset, 2⁻⁴⁸ ns (R46). -/
  slewRem : Int := 0
  /-- Magnitude of SLEW_INC, 2⁻⁴⁸ ns per tick (R46). -/
  slewInc : Nat := 0
  /-- The latest slew of the T-DPLL that no other slew or state has ended early: its first instant in ps, its offset in
  2⁻⁴⁸ ns, and its SLEW_INC (R106). -/
  lastSlew : Option (Nat × Int × Nat) := none
  /-- Time is valid (R40). -/
  valid : Bool := false
  /-- Step epoch, 32 bits (R23). -/
  stepEpoch : Nat := 0
  pend : Option PendChange := none
  /-- CURRENT_OFFSET (R50). -/
  currentOffset : Int := 37
  utcConfirmed : Bool := false
  /-- POLICY is AUTO (R50). -/
  policyAuto : Bool := true
  /-- Future leap entries, rising LEAP_TAI, at most 8 (R50). -/
  future : List LeapEntry := []
  past : Option PastLeap := none
  /-- The tick of the latest step or set, and by how much it moved the counter, 2⁻¹⁶ ns (R213, and LAST_STEP of R400). -/
  lastStepTick : Option Nat := none
  lastStep : Int := 0
  /-- The Reference Timestamp of R353, 2⁻¹⁶ ns; 0 for none. -/
  refTime : Nat := 0
  /-- A TIME_SET has loaded the counter (R319). -/
  hostSet : Bool := false
  /-- SMEAR_START in seconds (R58). -/
  smearStart : Int := -43200
  /-- The latest course of the counter: the instants at which a stretch of one rate, slew and epoch began, newest first. The model's
  own field (R22, R38). -/
  course : List Stretch := []
  /-- The latest second whose sentence the gate has withheld, and the step epoch of that boundary (R216, R217). The model's own
  field. -/
  todWithheld : Option (Nat × Nat) := none
  deriving DecidableEq, Repr, Inhabited

end Sys2Proof.Machine
end

