-- ==== Sys2Proof/Machine/PartsPair.lean ====
section
/-! DEFINITION. The redundant pair: configuration, state, and the items of a hand snapshot (chapter 13). -/
namespace Sys2Proof.Machine
open Sys2Proof

/-- A mirrored command whose two statuses are to be compared: answered here, and by the partner (R406). -/
structure MirrorWait where
  opcode : Nat := 0
  tag : Nat := 0
  own : Option Nat := none
  partner : Option Nat := none
  deriving DecidableEq, Repr, Inhabited

/-- A compare entry (R411, R423): TDC stop channel, output, TAP_DELAY in 2⁻¹⁶ ns. -/
structure CompareCfg where
  channel : Nat := 0
  output : Nat := 0
  tap : Int := 0
  deriving DecidableEq, Repr, Inhabited

/-- PAIR_CONFIGURE (R423). Limits are offset magnitudes in 2⁻¹⁶ ns, PL_ASYM_UNC is in ps. -/
structure PairCfg where
  mode : Nat := 0
  /-- AUTO_RESYNC, SEIZE_ENABLE, LANE0_ENABLE, LANE1_ENABLE. -/
  flags : Nat := 15
  margin : Nat := 2
  compareCount : Nat := 3
  lockstepHands : Nat := 256
  followBw : Nat := 100000000
  plAsym : Int := 0
  plAsymUnc : Nat := 0
  compareLimit : Nat := 65536
  trimLimit : Nat := 6554
  joinLimit : Nat := 65536
  entries : List CompareCfg := []
  deriving DecidableEq, Repr, Inhabited

/-- SYNC_STATE (R407, R424). -/
inductive SyncState where
  | single
  | alone
  | paired
  | joining
  | copying
  | lockstep
  | synced
  deriving DecidableEq, Repr, Inhabited

/-- The bound terms of a snapshot, with what evaluates them forward (R157, R160, R404): causes of an unbounded bound,
TRACKING or not, UNC to TRACK, SLEW, DIST, the frequency of WANDER with its Q1 and Q2 and the last sample's instant, B0, the
model, and the elapsed holdover at the capture in 2⁻⁴⁸ ns. -/
structure SnapBound where
  causes : Nat := 0
  track : Bool := false
  terms : HeldTerms := {}
  slew : Nat := 0
  dist : Nat := 0
  freq : Nat := 0
  q1 : Nat := 0
  q2 : Nat := 0
  lastPs : Nat := 0
  b0 : Option Nat := none
  a : Nat := 0
  d : Nat := 0
  q : Nat := 0
  elapsed : Nat := 0
  deriving DecidableEq, Repr, Inhabited

/-- A hand snapshot (R29, R48, R145, R404). `ps` is the capture in raw time of the chip that captured it, `rate` its rate word. -/
structure Snapshot where
  hand : Nat := 0
  ps : Nat := 0
  rate : Nat := 0
  /-- The counter, the rate words of the frequency domains and the step epoch: they serve to check alignment (R29, R404). -/
  counter : Counter := {}
  fdomRate : List Nat := []
  stepEpoch : Nat := 0
  meld : MeldRun := {}
  hold : HoldRun := {}
  /-- Grants that changed since the last confirmed snapshot: their new entries, or none when they ended. -/
  grants : List (Nat × Option Grant) := []
  /-- The neighbours that these grants name (R328). -/
  neighbours : List (Nat × Neighbour) := []
  /-- PREVIOUS, CURRENT and NEXT epochs by NTP instance. -/
  epochs : List (Nat × Nat × Nat) := []
  /-- The PAIR-scope accumulators of the Scorecard. -/
  samples : List (Nat × Rec) := []
  occs : List Rec := []
  future : List LeapEntry := []
  past : Option PastLeap := none
  currentOffset : Int := 37
  smearStart : Int := 0
  pend : Option PendChange := none
  slewing : Bool := false
  slewOwner : SlewOwner := .host
  slewRem : Int := 0
  slewInc : Nat := 0
  /-- State of each DPLL; of each selector its mode, its pick, and the SOURCE_ID that it has selected. -/
  dplls : List DpllState := []
  modes : List (SelMode × Option Nat) := []
  selected : List Nat := []
  bound : SnapBound := {}
  deriving DecidableEq, Repr, Inhabited

/-- An input of the Declarer's state outside the timing loops, as LOCKSTEP_INPUT carries it (R408): a host command with its
parameters, a grant operation, a rotation of an NTP instance, the leap table with CURRENT_OFFSET, a selector's choice by SOURCE_ID,
and a recorder occurrence. -/
inductive LockInput where
  | command (opcode : Nat) (tag : Nat) (params : Bytes)
  | grant (key : Nat) (g : Option Grant)
  | neighbour (key : Nat) (n : Option Neighbour)
  | rotation (inst : Nat)
  | leap (future : List LeapEntry) (past : Option PastLeap) (currentOffset : Int)
  | selection (domain : Nat) (source : Nat)
  | occurrence (code : Nat) (detail : Int)
  deriving DecidableEq, Repr

/-- What the latest heartbeat said (R398). -/
structure HbView where
  flags : Nat := 0
  sync : Nat := 0
  claimSent : Nat := 0
  claimSeen : Nat := 0
  stepEpoch : Nat := 0
  bound : Nat := 0xFFFFFFFFFF
  mode : Nat := 0
  tState : Nat := 0
  clockClass : Nat := 0
  selected : List Nat := [0, 0, 0, 0]
  hand : Nat := 0
  snapAck : Nat := 0
  deriving DecidableEq, Repr, Inhabited

/-- A Partner-link lane (R396, R398, R400). -/
structure LaneRun where
  state : PortState := .disabled
  calOk : Bool := false
  temp : Int := 0
  calTemp : Int := 0
  dTx : Int := 0
  dRx : Int := 0
  /-- The parts of D_TX and D_RX that the last alignment measured, and those that the replica delay line corrects (R258, R259). -/
  vari : Int × Int := (0, 0)
  adj : Int × Int := (0, 0)
  /-- SEQ of the next heartbeat sent, and SEQ, egress stamp and step epoch of those sent lately, newest first. -/
  seq : Nat := 0
  sent : List (Nat × Nat × Nat) := []
  /-- SEQ, ingress stamp and the step epochs of both chips of the latest heartbeat received. -/
  got : Option (Nat × Nat × Nat × Nat) := none
  deriving DecidableEq, Repr, Inhabited

/-- A compare entry at run time (R411, R412, R424). -/
structure CompareRun where
  failRun : Nat := 0
  trimLimited : Bool := false
  checks : Nat := 0
  lastDiff : Int := 0
  sum : Int := 0
  n : Nat := 0
  deriving DecidableEq, Repr, Inhabited

/-- A self-test item (R413, R428). -/
structure TestItem where
  result : Nat := 2
  detail : Nat := 0
  failures : Nat := 0
  lastRun : Nat := 0
  deriving DecidableEq, Repr, Inhabited

/-- The pair logic and the claim (R383 to R428). -/
structure PairRun where
  /-- The shared-output enable (R30, R386). -/
  enable : Bool := false
  /-- A change of the enable that is to come: its new value and its instant (R391). -/
  edge : Option (Bool × Nat) := none
  /-- The enable has risen since the latest device reset: service has opened (R567). -/
  opened : Bool := false
  /-- The claim is open, that is live (R384, R563). -/
  live : Bool := false
  yielded : Bool := false
  pref : Nat := 3
  seizing : Bool := false
  /-- The own claim in force; the claim of the last frame sent; a higher claim that is to take force, with its instant (R391). -/
  force : Nat := 0
  sent : Nat := 0
  rising : Option (Nat × Nat) := none
  lastLive : Nat := 0
  /-- The received claim in force, and how the line stands (R390). -/
  rx : Option Nat := none
  quiet : Bool := false
  absent : Bool := false
  rxAt : Nat := 0
  /-- Own frames in a row that failed readback (R393). -/
  readFails : Nat := 0
  /-- Heartbeats in a row that report a dual drive (R419). -/
  dual : Nat := 0
  sync : SyncState := .single
  heard : Bool := false
  heardAt : Nat := 0
  /-- RESYNC_FAILED has stopped the resynchronisation until PAIR_RESYNC (R407). -/
  stopped : Bool := false
  conflict : Bool := false
  partner : HbView := {}
  lanes : List LaneRun := [{}, {}]
  hbNext : Nat := 0
  theta : Int := 0
  delay : Int := 0
  joinCount : Nat := 0
  /-- The time has been set from the partner, and the F accumulators loaded, since JOINING (R402). -/
  timeSet : Bool := false
  lockRun : Nat := 0
  lockFails : Nat := 0
  mismatches : Nat := 0
  switchovers : Nat := 0
  lastSwitch : Nat := 0
  lastFinding : Nat := 0
  /-- The snapshot captured at the latest boundary, its instant, and whether it has been sent (R29, R404). -/
  captured : Option Snapshot := none
  boundary : Nat := 0
  boundaryInc : Nat := 0
  snapSent : Bool := false
  /-- The latest snapshot applied, and the boundary after which it came; SNAP_ACK. -/
  applied : Option Snapshot := none
  appliedAt : Nat := 0
  /-- The sum of the counter's increments at that boundary (R112). -/
  appliedInc : Nat := 0
  snapAck : Nat := 0
  /-- The grants as the Dummy has confirmed them, and the deltas sent since by hand (R404). -/
  ackGrants : List (Nat × Grant) := []
  sentGrants : List (Nat × List (Nat × Option Grant)) := []
  /-- The keys of the grants that await a snapshot, oldest first (R404). -/
  grantOrder : List Nat := []
  snapshotsApplied : Nat := 0
  snapLate : Nat := 0
  grantDeferred : Nat := 0
  hbMissed : Nat := 0
  mirrors : List MirrorWait := []
  mirrorOpcode : Nat := 0
  mirrorTag : Nat := 0
  mirrorStatus : Nat := 0
  /-- A mirrored commit has executed at this instant and applies at a boundary (R406). -/
  commitFrom : Option Nat := none
  /-- PAIR_SWITCH waits for the fall of the enable since this instant (R426). -/
  switchAt : Option Nat := none
  rows : List CompareRun := []
  /-- The trims of domains T, A, B and C, 2⁻¹⁶ ns (R412). -/
  trims : List Int := [0, 0, 0, 0]
  tests : List TestItem := List.replicate 7 {}
  deriving DecidableEq, Repr, Inhabited

end Sys2Proof.Machine
end

