-- ==== Sys2Proof/Syntax.lean ====
section
/-! DEFINITION. The commands of the block, one constructor per row of the table of operations. -/
namespace Sys2Proof

/-- Where a command packet comes from (R493, R496): a PCIe command ring, the register path of an
interface, the partner over the Partner link (R406), or the boot configuration image (R562). -/
inductive Src where
  | ring (c : Nat)
  | pcieReg
  | spiReg
  | partner
  | image
  deriving DecidableEq, Repr

/-- A command packet as it reaches the Dealer, without its opcode, which the row gives (R492).
`time` is the instant at which the packet reaches the queue, in picoseconds of the model's clock. -/
structure Req where
  time : Nat
  src : Src
  tag : BitVec 16
  length : BitVec 16
  flags : BitVec 8
  /-- Header bytes 8 to 15, which a command leaves 0. -/
  reserved : BitVec 64
  /-- The parameter bytes, in packet order. -/
  params : Bytes
  deriving DecidableEq, Repr

/-- The two host interfaces (R489). -/
inductive Iface where
  | pcie
  | spi
  deriving DecidableEq, Repr

/-- What an IRIG-B frame says (R73, R77): day of the year, time of day, the two-digit year of IEEE 1344 when it is
present, and the IEEE 1344 control bits when they are present. -/
structure IrigFrame where
  day : Nat
  hour : Nat
  minute : Nat
  second : Nat
  year : Option Nat
  /-- Time-quality code, local offset in half hours, leap pending, and the pending leap deletes a second. -/
  control : Option (Nat × Int × Bool × Bool)
  deriving DecidableEq, Repr

/-- What comes with a stamped event of a source (R73, R77): a pulse and its width in ps, a stamped edge, an IRIG-B
on-time mark with its frame or none on a parse error, or a sample of a source block with its phase offset in 2⁻¹⁶ ns,
whether the phase is valid, its claimed uncertainty in ps and its health. -/
inductive SampleData where
  | pulse (widthPs : Nat)
  | edge
  | irig (frame : Option IrigFrame)
  | block (offset : Int) (phaseOk : Bool) (unc : Nat) (healthy : Bool)
  deriving DecidableEq, Repr

/-- What a channel measures of one satellite at an epoch (R177, R182): the residual against the counter time at the pins in
2⁻¹⁶ ns, of the held position or of the point that a `SatFix` gives, after the correction for the satellite's clock and before those
for the atmosphere; the direction to the satellite as a unit vector in 2⁻³⁰; and what the loops report. -/
structure SatMeas where
  prn : Nat
  residual : Int
  los : Int × Int × Int
  cn0 : Nat
  elevation : Nat
  azimuth : Nat
  doppler : Int
  bitSync : Bool
  deriving DecidableEq, Repr

/-- The point, in mm, about which the four-state solution of an epoch is linear (R183). -/
structure SatFix where
  x : Int
  y : Int
  z : Int
  deriving DecidableEq, Repr

/-- A comparison of the Base PLL's detector (R199): its instant in ps, and the magnitude of its phase error in ps. -/
structure Comparison where
  time : Nat
  errPs : Nat
  deriving DecidableEq, Repr

/-- An edge on a TDC input (R227): the width of its pulse in ps, and whether it rises. -/
structure EdgePulse where
  width : Nat
  rising : Bool
  deriving DecidableEq, Repr

/-- The end of a skew calibration (R239): its instant in ps, and the measured skews of the nine input paths in 2⁻¹⁶ ns, in the order
of the inputs. -/
structure SkewResult where
  time : Nat
  skews : List Int
  deriving DecidableEq, Repr

/-- A reading of a lane (R258): its temperature in 0.125 °C, and what its replica delay line corrects on D_TX and D_RX against the last
full calibration, in 2⁻¹⁶ ns. -/
structure LaneReading where
  temp : Int
  dTx : Int
  dRx : Int
  deriving DecidableEq, Repr

/-- One sample of the front end (R169): the instant of the rising edge of GNSS_CLK in ps, and the sign and magnitude bits of GNSS_I
and of GNSS_Q. -/
structure GnssBits where
  edge : Nat
  signI : Bool
  magI : Bool
  signQ : Bool
  magQ : Bool
  deriving DecidableEq, Repr

/-- The commands, events and register accesses of the block: one constructor per row of the table of operations. -/
inductive Instr where
  /-- SYS_IDENTIFY (R521). Returns part, revision, life-cycle state, serial, straps, MAC base, firmware versions and PCIe link. -/
  | sysIdentify (q : Req)
  /-- SYS_STATUS (R573). Returns boot stage, flags, reset cause, rails, power and the fault record, and clears the record with CLEAR_FAULTS. -/
  | sysStatus (q : Req)
  /-- SYS_RESET_BLOCK (R574). Starts the reset of one GNSS, TDC, port, audio-group or Partner-link-lane block; the reply follows completion. -/
  | sysResetBlock (q : Req)
  /-- BLOCK_RESET_DONE (R574). A block reset requested by SYS_RESET_BLOCK completes, the reply is sent and BLOCK_RESET_DONE is raised. -/
  | blockResetDone (t : Nat) (block : Nat) (index : Nat)
  /-- SYS_CONFIG_COMMIT (R522). Checks the shadow set, then commits it to the working set on one TCLK tick and computes CONFIG_DIGEST; or validates only, or discards the shadow set. -/
  | sysConfigCommit (q : Req)
  /-- SYS_CONFIG_DIGEST (R523). Returns CONFIG_DIGEST, the commit count, the shadow-dirty flag and the time of the last commit. -/
  | sysConfigDigest (q : Req)
  /-- SYS_ECHO (R524). Returns its parameters unchanged, with the arrival and start times. -/
  | sysEcho (q : Req)
  /-- ROOT_STATUS (R221). Returns the Base PLL lock word, divider, phase-error statistics and watch-oscillator frequency. -/
  | rootStatus (q : Req)
  /-- OUT_CONFIGURE (R222). Writes the shadow configuration of one output synthesizer. -/
  | outConfigure (q : Req)
  /-- OUT_ENABLE (R223). Enables the outputs of a mask at START_AT, or disables them after the period in progress. -/
  | outEnable (q : Req)
  /-- OUTPUT_START (R210). An enabled output starts at its first rising edge at or after START_AT. -/
  | outputStart (n : Nat)
  /-- OUT_ALIGN (R212). Arms a one-shot alignment of an output to a REFIN pulse, or cancels the alignment in progress. -/
  | outAlign (q : Req)
  /-- ALIGN_PULSE (R212). The first stamped pulse after OUT_ALIGN sets d and changes the output's OFFSET by a step or a slew. -/
  | alignPulse (n : Nat) (t : Nat)
  /-- ALIGN_TIMEOUT (R212). No usable pulse arrives within TIMEOUT; ALIGN_FAILED is raised and nothing changes. -/
  | alignTimeout (n : Nat)
  /-- ALIGN_DONE (R212). The alignment slew or step completes and ALIGN_DONE is raised. -/
  | alignDone (n : Nat)
  /-- OUT_STATUS (R225). Returns the state, flags, OFFSET, alignment and next edge of one output. -/
  | outStatus (q : Req)
  /-- TODOUT_CONFIGURE (R226). Writes the shadow configuration of the serial time-of-day output. -/
  | todoutConfigure (q : Req)
  /-- REF_CONFIGURE (R94). Writes the shadow configuration of one reference source. -/
  | refConfigure (q : Req)
  /-- REF_STATUS (R96). Returns the qualification state, causes, events, frequency and phase of a source, or the event bitmap, and clears events on request. -/
  | refStatus (q : Req)
  /-- REF_QUALIFY_POLICY (R95). Writes the shadow monitor and qualification policy of one source. -/
  | refQualifyPolicy (q : Req)
  /-- SEL_CONFIGURE (R97). Writes the shadow slate, flags and split settings of one selector. -/
  | selConfigure (q : Req)
  /-- SEL_SELECT (R98). Sets a selector to MANUAL with a pick, to AUTOMATIC, or to NONE. -/
  | selSelect (q : Req)
  /-- SEL_STATUS (R99). Returns a selector's mode, choice, eligibility, splits and slate entries. -/
  | selStatus (q : Req)
  /-- SEL_FORCE_RESTORE (R100). Ends the WTR or running QUAL_TIME timer of a source and moves it to QUALIFIED. -/
  | selForceRestore (q : Req)
  /-- DPLL_CONFIGURE (R131). Writes the shadow loop, holdover and clockClass settings of one DPLL. -/
  | dpllConfigure (q : Req)
  /-- DPLL_STATUS (R132). Returns the state, phase error, frequency, hold frequency, slew and jump data of one DPLL. -/
  | dpllStatus (q : Req)
  /-- TIME_READ (R63). The Dealer latches its own bank and returns the time, bound, rate, step epoch, slew and pending step. -/
  | timeRead (q : Req)
  /-- TIME_SET (R45). Loads the counter on one tick, or schedules the load, and marks time valid. -/
  | timeSet (q : Req)
  /-- TIME_STEP (R42). Steps the counter by OFFSET, schedules a step, or cancels a pending step or set. -/
  | timeStep (q : Req)
  /-- TIME_SLEW (R47). Starts or merges a host slew, or cancels the remaining slew offset. -/
  | timeSlew (q : Req)
  /-- LEAP_CONFIGURE (R69). Sets CURRENT_OFFSET, the policy, the smear start and the future leap table, or only reads them. -/
  | leapConfigure (q : Req)
  /-- HOLD_MODEL_SET (R133). Writes the shadow holdover model, HOLD_CLOCK and steering settings. -/
  | holdModelSet (q : Req)
  /-- HOLD_MODEL_READ (R134). Returns the effective and learned model, prediction, origin values and steering counts. -/
  | holdModelRead (q : Req)
  /-- JUMP_ACCEPT (R122). Moves a SUSPECT source to QUALIFIED; if it is chosen, the T-DPLL steps or returns to it. -/
  | jumpAccept (q : Req)
  /-- MELD_CONFIGURE (R164). Writes the shadow Meld enable, gate, weighting, vote and consistency settings. -/
  | meldConfigure (q : Req)
  /-- MELD_CLOCK_SET (R165). Writes the shadow content of one Meld slot. -/
  | meldClockSet (q : Req)
  /-- MELD_STATUS (R166). Returns the Meld header and the estimates of every slot. -/
  | meldStatus (q : Req)
  /-- BOUND_READ (R167). Returns the bound mode, every bound term and the port term. -/
  | boundRead (q : Req)
  /-- BOUND_POLICY (R168). Writes the shadow global and per-source bound settings, or reads them. -/
  | boundPolicy (q : Req)
  /-- GNSS_CONFIGURE (R188). Writes the shadow GNSS baseband configuration. -/
  | gnssConfigure (q : Req)
  /-- GNSS_AID (R176). Checks a position, time, almanac, ephemeris or UTC aid and applies it at the next measurement epoch. -/
  | gnssAid (q : Req)
  /-- GNSS_STATUS (R191). Returns the receiver state, the latest sample and per-satellite rows. -/
  | gnssStatus (q : Req)
  /-- GNSS_SURVEY (R190). Restarts a survey or holds a given position at the next measurement epoch. -/
  | gnssSurvey (q : Req)
  /-- GNSS_NAV_DATA (R192). Returns stored almanac, ephemeris or UTC words in the GNSS_AID layout. -/
  | gnssNavData (q : Req)
  /-- TDC_CONFIGURE (R244). Writes the shadow configuration of one TDC input. -/
  | tdcConfigure (q : Req)
  /-- TDC_ARM (R245). Arms or disarms stop channels, or starts skew calibration. -/
  | tdcArm (q : Req)
  /-- TDC_ARM_START (R233). A channel armed with START_AT starts measuring when the counter reaches START_AT. -/
  | tdcArmStart (c : Nat)
  /-- TDC_READ (R246). Removes up to MAX entries from a raw buffer and returns them. -/
  | tdcRead (q : Req)
  /-- TDC_STATS (R247). Returns the statistics of the last completed block or of the block in progress. -/
  | tdcStats (q : Req)
  /-- PORT_CONFIGURE (R279). Writes the shadow mode, FEC, flags, address and delays of one port. -/
  | portConfigure (q : Req)
  /-- PORT_CALIBRATE (R280). Starts a full calibration of a port; the reply follows its end. -/
  | portCalibrate (q : Req)
  /-- PORT_FLOW_CONTROL (R281). Writes the shadow pause and PFC settings of one port. -/
  | portFlowControl (q : Req)
  /-- PORT_SYNCE (R282). Writes the shadow SyncE transmit domain and ESMC settings of one port. -/
  | portSynce (q : Req)
  /-- PORT_STATUS (R283). Returns a port's state, uncertainty, delays, counters and windows, and clears events or peaks on request. -/
  | portStatus (q : Req)
  /-- SVC_CONFIGURE (R307). Writes the shadow buffer partition, service addresses and Clubs bucket. -/
  | svcConfigure (q : Req)
  /-- SVC_ADMISSION (R308). Writes or reads the engine mask, reserves, launch targets and receipt limit. -/
  | svcAdmission (q : Req)
  /-- SVC_STATUS (R309). Returns admission flags, buffer use, turnaround maxima and per-Suit counters. -/
  | svcStatus (q : Req)
  /-- RING_CONFIGURE (R525). Writes the shadow use and parameters of one receive, transmit or event ring. -/
  | ringConfigure (q : Req)
  /-- RING_STATUS (R526). Returns a ring's indices, fault cause and counters. -/
  | ringStatus (q : Req)
  /-- PTP_INSTANCE_CREATE (R342). Creates a PTP instance in the shadow configuration with its fixed profile, role and identity. -/
  | ptpInstanceCreate (q : Req)
  /-- PTP_INSTANCE_CONFIGURE (R343). Writes the shadow changeable settings of a PTP instance. -/
  | ptpInstanceConfigure (q : Req)
  /-- PTP_INSTANCE_DELETE (R344). Deletes a PTP instance with its bindings and grants, optionally cancelling the grants first. -/
  | ptpInstanceDelete (q : Req)
  /-- PTP_PORT_BIND (R345). Binds an instance to a port with a transport, or unbinds it. -/
  | ptpPortBind (q : Req)
  /-- PTP_STATUS (R346). Returns an instance's parent, tracking data, sent quality and per-binding counters. -/
  | ptpStatus (q : Req)
  /-- PTP_GRANT_QUERY (R347). Returns grant entries of an instance from a cursor or for one address. -/
  | ptpGrantQuery (q : Req)
  /-- PTP_GRANT_REVOKE (R348). Removes grants of the selected types, optionally sending CANCEL first. -/
  | ptpGrantRevoke (q : Req)
  /-- PTP_SA_LOAD (R349). Loads a security association from a Kitty slot at commit, or erases it. -/
  | ptpSaLoad (q : Req)
  /-- NTP_CONFIGURE (R375). Writes the shadow settings of one NTP instance. -/
  | ntpConfigure (q : Req)
  /-- NTP_RATE_POLICY (R376). Writes or reads the rate-limit policy and exempt prefixes. -/
  | ntpRatePolicy (q : Req)
  /-- NTP_STATUS (R377). Returns an NTP instance's current fields, epochs and counters. -/
  | ntpStatus (q : Req)
  /-- NTS_KEY_LOAD (R378). Loads or erases an NTS server key or a symmetric key at commit. -/
  | ntsKeyLoad (q : Req)
  /-- NTS_KEY_ROTATE (R379). Rotates an instance's server keys now, schedules a rotation, or cancels one. -/
  | ntsKeyRotate (q : Req)
  /-- SCHEDULED_ROTATION (R362). A scheduled rotation reaches its ROTATE_AT: PREVIOUS takes CURRENT, CURRENT takes NEXT, and KEY_ROTATED is raised. -/
  | scheduledRotation (inst : Nat)
  /-- NTS_COOKIE_MINT (R380). Mints up to eight cookies under CURRENT for host-supplied keys. -/
  | ntsCookieMint (q : Req)
  /-- RCPT_CONFIGURE (R381). Writes the shadow receipt enable, UDP port and signing-key slot. -/
  | rcptConfigure (q : Req)
  /-- RCPT_STATUS (R382). Returns receipt state, key, latest batch and counters. -/
  | rcptStatus (q : Req)
  /-- PAIR_CONFIGURE (R423). Writes the shadow pair mode, margins, limits and compare entries. -/
  | pairConfigure (q : Req)
  /-- PAIR_STATUS (R424). Returns role, synchronisation state, claims, alignment and compare rows. -/
  | pairStatus (q : Req)
  /-- PAIR_CLAIM_SET (R425). Sets PREF, which takes force under the claim rules. -/
  | pairClaimSet (q : Req)
  /-- PAIR_SWITCH (R426). On a Declarer, sends SWITCH_REQUEST to the partner; the reply follows the enable falling or a timeout. -/
  | pairSwitch (q : Req)
  /-- PAIR_RESYNC (R427). A Dummy enters JOINING, or LOCKSTEP with VERIFY; a Declarer forwards the command. -/
  | pairResync (q : Req)
  /-- PAIR_SELFTEST_REPORT (R428). Returns the result of each self-test item. -/
  | pairSelftestReport (q : Req)
  /-- KEY_WRITE (R454). Writes a key into a Kitty slot, optionally requesting persistence. -/
  | keyWrite (q : Req)
  /-- KEY_ERASE (R455). Zeroes one slot or every slot, optionally requesting persistence. -/
  | keyErase (q : Req)
  /-- KEY_INFO (R456). Returns a slot's state and KCV, or the Kitty summary and occupancy bitmap. -/
  | keyInfo (q : Req)
  /-- LC_STATUS (R457). Returns the life-cycle state, pending advance, burned roots, serial and identity key. -/
  | lcStatus (q : Req)
  /-- LC_ADVANCE (R431). Zeroises keys, burns the target root, blows the state row and replies with ADVANCE_PENDING. -/
  | lcAdvance (q : Req)
  /-- ATTEST_QUOTE (R448). Assembles a quote in hardware from one tick with the given nonce and signs it with the alias key. -/
  | attestQuote (q : Req)
  /-- ATTEST_MEASUREMENTS (R460). Reads the measurement registers, or extends MR6 or MR7 with a digest. -/
  | attestMeasurements (q : Req)
  /-- AUD_PORT_CONFIGURE (R482). Writes the shadow configuration of one audio port. -/
  | audPortConfigure (q : Req)
  /-- AUD_GROUP_CONFIGURE (R483). Writes the shadow membership of one audio group. -/
  | audGroupConfigure (q : Req)
  /-- AUD_GROUP_START (R473). Starts a group's clocks at boundary s − RUN_IN, with s the first data frame. -/
  | audGroupStart (q : Req)
  /-- AUD_GROUP_STOP (R474). Makes e − 1 the last data frame of a group. -/
  | audGroupStop (q : Req)
  /-- AUD_STATUS (R485). Returns an audio port's state, index, counters and receive rate, and clears events on request. -/
  | audStatus (q : Req)
  /-- REC_CONFIGURE (R546). Writes the shadow Scorecard enable, occurrence limit and repeat interval. -/
  | recConfigure (q : Req)
  /-- REC_READ (R547). Returns a live, hourly or daily page header and its records. -/
  | recRead (q : Req)
  /-- REC_COMMIT_NOW (R548). Forces a commit of the live interval, spending a credit; the reply follows the write. -/
  | recCommitNow (q : Req)
  /-- PERF_READ (R549). Returns up to 128 performance counters from one tick. -/
  | perfRead (q : Req)
  /-- PERF_FILTER_SET (R550). Writes the shadow filter of one filtered counter. -/
  | perfFilterSet (q : Req)
  /-- PERF_WINDOW_SET (R551). Writes the shadow bandwidth-window lengths of a port or of all ports. -/
  | perfWindowSet (q : Req)
  /-- BAD_OPCODE (R528). A command whose opcode is not in the index is answered BAD_OPCODE. -/
  | badOpcode (opcode : Nat) (q : Req)
  /-- TIME_LATCH_LO_READ (R60). A read of TIME_LATCH_LO latches the counter, offset, flags, step epoch and bound into the interface's bank. -/
  | timeLatchLoRead (i : Iface) (t : Nat)
  /-- RESULT_STATUS_READ (R500). A read of RESULT_STATUS copies the selected slot into the bank and increments its READ_COUNT. -/
  | resultStatusRead (i : Iface) (t : Nat)
  /-- CMD_SUBMIT (R501). A write of CMD_CTRL.GO submits CMD_BUF to the Dealer queue, or refuses it when its slot is pending. -/
  | cmdSubmit (i : Iface) (t : Nat)
  /-- HOST_LOAD_BLOCK (R561). In HOST_WAIT, a write of CMD_CTRL.GO submits CMD_BUF as a boot-image load block or an end block. -/
  | hostLoadBlock (i : Iface) (t : Nat)
  /-- IRQ_CAUSE_CLEAR (R513). A W1C write to a cause register clears the written bits unless hardware sets them on the same tick. -/
  | irqCauseClear (i : Iface) (t : Nat) (off : Nat) (value : Word)
  /-- RING_CTRL_WRITE (R504). A write of RING_CTRL enables a ring, resetting its producer indices, or disables it after the work in progress and clears FAULT. -/
  | ringCtrlWrite (i : Iface) (t : Nat) (r : Nat) (value : Word)
  /-- DOORBELL_WRITE (R503). A write of RING_DB, TSQ_DB or REPLY_DB posts or frees ring entries. -/
  | doorbellWrite (i : Iface) (t : Nat) (off : Nat) (value : Word)
  /-- REGISTER_WRITE (R6). A write to a register that has no row of its own updates its RW fields. -/
  | registerWrite (i : Iface) (t : Nat) (off : Nat) (size : Nat) (value : Nat)
  /-- MSIX_UNMASK (R515). Unmasking the vector or function sends a pending message when the condition is still true. -/
  | msixUnmask (t : Nat) (vec : Bool) (func : Bool)
  /-- CMD_RING_FETCH (R505). The Carko fetches a command from a command ring when it is posted, the queue has room and the reply ring has a free entry. -/
  | cmdRingFetch (c : Nat) (t : Nat) (entry : Bytes)
  /-- QUEUE_TIMEOUT (R497). A non-URGENT command that has not started 100 ms after arrival is answered BUSY_RETRY. -/
  | queueTimeout (k : Nat)
  /-- RX_RING_DELIVER (R508). A Clubs frame or audio buffer at the head of its delivery queue reserves descriptors and is written by DMA, or is dropped whole as ring-short. -/
  | rxRingDeliver (r : Nat) (t : Nat)
  /-- TX_FETCH (R509). The Carko fetches a transmit frame when buffer can take it whole, and rejects a malformed one. -/
  | txFetch (r : Nat) (t : Nat) (descs : List Bytes) (data : Bytes)
  /-- EVENT_ENTRY_WRITE (R506). The Dealer writes an event-ring entry for a cause bit's 0→1 transition, or discards it when the ring is full. -/
  | eventEntryWrite (r : Nat) (t : Nat)
  /-- DMA_COMPLETION_ERROR (R504). A DMA transfer ends in a completion error, poisoned completion or timeout, and the ring faults. -/
  | dmaCompletionError (r : Nat) (t : Nat)
  /-- RING_IRQ_HOLDOFF (R518). A ring's holdoff ends and its second-level interrupt bit is set. -/
  | ringIrqHoldoff (r : Nat)
  /-- PCIE_RESET (R519). A PCIe function-level reset, hot reset, PERST or link-down resets rings, doorbells and the PCIe bank and aborts DMA. -/
  | pcieReset (t : Nat) (perst : Bool)
  /-- HAND_BOUNDARY (R27). The counter passes a multiple of 1 ms; a hand closes, the snapshot is captured and per-hand accumulators are sampled. -/
  | handBoundary (temp : Int) (rootPhase : Int)
  /-- REF_SAMPLE (R78). A stamped sample of a source reaches its monitor, is checked, may change qualification and selection, and reaches the DPLL. -/
  | refSample (src : Nat) (t : Nat) (d : SampleData)
  /-- ZDA_SENTENCE (R75). A ZDA sentence received on TOD_RX is accepted as a pulse label, or rejected with TOD_REJECTED. -/
  | zdaSentence (t : Nat) (framingOk : Bool) (sentence : Bytes)
  /-- ACTIVITY_MISS (R599). An expected instant passes with no event in its window; after LOS_COUNT misses the source fails ACTIVITY. -/
  | activityMiss (src : Nat)
  /-- FREQ_UPDATE (R79). The frequency measurement of a source is updated at each tenth of FREQ_WINDOW and the frequency checks are applied. -/
  | freqUpdate (src : Nat)
  /-- QUAL_TIME_EXPIRY (R82). A QUALIFYING source's QUAL_TIME timer expires and it becomes QUALIFIED. -/
  | qualTimeExpiry (src : Nat)
  /-- WTR_EXPIRY (R82). A source's WTR timer expires and it becomes QUALIFIED. -/
  | wtrExpiry (src : Nat)
  /-- SPLIT_TIMER (R89). An equal-bid pair has disagreed for SPLIT_TIME; SPLIT is raised and a vote may be requested. -/
  | splitTimer (domain : Nat) (a : Nat) (b : Nat) (byPhase : Bool)
  /-- DPLL_LOCK (R104). The phase error has stayed within LOCK_PHASE for LOCK_TIME; the DPLL enters LOCKED. -/
  | dpllLock (domain : Nat)
  /-- FREQ_STEP_ESTIMATE (R123). An estimate interval ends; a change of at least FREQ_STEP_DETECT raises FREQ_STEP and a bound disturbance. -/
  | freqStepEstimate (domain : Nat)
  /-- STEER_SENT (R126). The last stop bit of a steering command is sent and the step is passed to the Meld. -/
  | steerSent (t : Nat)
  /-- STEER_ACK (R144). The ACK bytes arrive on OSC_CTL_RX and the step stands as known. -/
  | steerAck (t : Nat) (received : Bytes)
  /-- MELD_UPDATE_DONE (R140). A Meld update completes; ensemble time, votes, outliers, consistency and hold prediction follow. -/
  | meldUpdateDone (t : Nat)
  /-- OUTLIER_CLEAR_EXPIRY (R147). A named source's residual has stayed small for OUTLIER_CLEAR; MELD_OUTLIER passes. -/
  | outlierClearExpiry (slot : Nat)
  /-- GNSS_EPOCH (R183). A measurement epoch is solved, with the residual check and claimed uncertainty. -/
  | gnssEpoch (meas : List SatMeas) (fix : Option SatFix)
  /-- GNSS_SAMPLE (R182). The epoch's GNSS sample is delivered to the monitor. -/
  | gnssSample (t : Nat)
  /-- GNSS_CLOCK_FIT (R171). A block of 16,368 sample stamps is fitted and its frequency is checked. -/
  | gnssClockFit (t : Nat) (block : List GnssBits)
  /-- CLK_FAULT (R171). No GNSS_CLK edge for 1 µs or a fitted frequency out of range; the receiver returns to ACQUIRE. -/
  | clkFault (t : Nat)
  /-- ACQUISITION_DWELL (R174). A parallel acquisition dwell for one PRN completes. -/
  | acquisitionDwell (t : Nat) (prn : Nat) (found : Option (Int × Int))
  /-- CHANNEL_LOCK_LOST (R177). A channel's C/N0 has stayed below 22 dB-Hz for 1 s and it loses lock. -/
  | channelLockLost (t : Nat) (prn : Nat)
  /-- REACQUIRE_TIMEOUT (R177). A narrowed reacquisition runs 30 s and the PRN returns to the general search. -/
  | reacquireTimeout (prn : Nat)
  /-- NAV_NEW (R176). A broadcast ephemeris or almanac decode completes and replaces aided data. -/
  | navNew (t : Nat) (kind : Nat) (prn : Nat) (words : Bytes)
  /-- BPLL_LOCK (R196). The detector error stays within ±150 ps for 1,000 comparisons and lock is declared. -/
  | bpllLock (t : Nat) (freqHz : Nat)
  /-- LOSS_OF_LOCK (R201). A missing SYSOSC edge or large detector error gates the clocks, drops the claim and tri-states the outputs. -/
  | lossOfLock (t : Nat) (detail : Nat)
  /-- EXCURSION (R200). A detector error between 150 ps and 1.5 ns makes the bound unbounded. -/
  | excursion (t : Comparison)
  /-- EXCURSION_END (R200). The error stays within ±150 ps for 1,000 comparisons and the excursion ends. -/
  | excursionEnd (t : Nat)
  /-- OUTPUT_RISING_EDGE (R208). At a scheduled rising edge the gate is evaluated and a period starts or the output idles. -/
  | outputRisingEdge (n : Nat)
  /-- IRIG_FRAME (R214). An IRIG-B frame starts at an on-time mark with time and quality code. -/
  | irigFrame (n : Nat)
  /-- PLACER_CAL_LOST (R218). An output's placer calibration fails and PLACER_CAL_LOST is raised. -/
  | placerCalLost (n : Nat) (t : Nat)
  /-- TDC_EDGE (R227). An edge on a TDC input is stamped and paired, and a completed interval enters statistics and buffer. -/
  | tdcEdge (inp : Nat) (t : Nat) (width : EdgePulse)
  /-- TDC_ORPHAN (R232). A stop waits 0.5 s with no start and is counted as an orphan. -/
  | tdcOrphan (c : Nat)
  /-- TDC_GATE_END (R237). A frequency gate ends and the fitted frequency becomes a result. -/
  | tdcGateEnd (c : Nat)
  /-- TDC_CAL_LOST (R238). An input's interpolator calibration fails and CAL_LOST is raised. -/
  | tdcCalLost (inp : Nat) (t : Nat)
  /-- TDC_CAL_DONE (R239). Skew calibration completes and CAL_DONE is raised. -/
  | tdcCalDone (t : SkewResult)
  /-- FRAME_RX (R250). A frame's FCS verdict arrives; the MAC filters it and the classifier sorts it into a Suit. -/
  | frameRx (port : Nat) (t : Nat) (fcsOk : Bool) (bytes : Bytes)
  /-- ADMISSION_DECISION (R290). Admission admits the request with a thread, lane and launch slot, or refuses it. -/
  | admissionDecision (t : Nat)
  /-- TRICK_JOB (R288). A Trick engine thread runs a job until completion or a crypto-lane call. -/
  | trickJob (h : Nat)
  /-- CRYPTO_LANE_DONE (R288). A crypto lane returns and its job becomes ready. -/
  | cryptoLaneDone (h : Nat)
  /-- TIMED_LAUNCH (R25). A timed frame reaches its launch instant and is sent, or is dropped as late, pause or bound-cancel. -/
  | timedLaunch (port : Nat)
  /-- FRAME_TX (R263). An untimed or timed frame starts and completes on the line, with its egress stamp, INSERT or REPORT. -/
  | frameTx (port : Nat) (t : Nat)
  /-- PAUSE_EFFECT (R267). 50 ns after a pause frame, the paused priorities stop and their timers load. -/
  | pauseEffect (port : Nat)
  /-- PAUSE_EXPIRY (R267). A priority's pause timer reaches 0 and the priority is released. -/
  | pauseExpiry (port : Nat) (prio : Nat)
  /-- PFC_XOFF (R269). Ingress occupancy reaches XOFF and a PFC XOFF is sent. -/
  | pfcXoff (port : Nat) (prio : Nat) (t : Nat)
  /-- PFC_XOFF_REFRESH (R269). Every PFC_QUANTA/2 while occupancy stays at or above XON, a new XOFF is sent. -/
  | pfcXoffRefresh (port : Nat) (prio : Nat)
  /-- PFC_XON (R269). Occupancy falls below XON and PFC time 0 is sent. -/
  | pfcXon (port : Nat) (prio : Nat) (t : Nat)
  /-- BLOCK_LOCK (R253). A DOWN port gains block lock or synchronisation and enters ALIGNING. -/
  | blockLock (port : Nat) (t : Nat) (rxFreq : Int) (an : Option Bool)
  /-- ALIGNMENT_DONE (R259). The variable delays are measured, or time out, and the port goes UP. -/
  | alignmentDone (port : Nat) (t : Nat) (ok : Bool) (dTx : Int) (dRx : Int)
  /-- LINK_LOSS (R253). A port loses lock or alignment, goes DOWN and discards its queued frames. -/
  | linkLoss (port : Nat) (t : Nat)
  /-- CALIBRATION_END (R256). A full calibration ends, passed or failed, and the port goes DOWN. -/
  | calibrationEnd (port : Nat) (t : Nat) (passed : Bool) (temp : Int) (dTx : Int) (dRx : Int)
  /-- CAL_LOST (R258). A port loses calibration from temperature, replica fault or variable-delay failure. -/
  | calLost (port : Nat) (t : Nat) (temp : LaneReading) (fault : Bool)
  /-- SYNCE_SAMPLE (R271). An edge of the divided recovered clock is stamped as a SYNCE sample. -/
  | synceSample (port : Nat) (t : Nat)
  /-- ESMC_TIMEOUT (R273). No ESMC PDU for 5 s; the rank becomes 15. -/
  | esmcTimeout (port : Nat)
  /-- ESMC_TX (R274). Each second a port sends an ESMC information PDU. -/
  | esmcTx (port : Nat)
  /-- ESMC_EVENT_TX (R274). A change of transmitted QL sends an event PDU within 100 ms. -/
  | esmcEventTx (port : Nat) (t : Nat)
  /-- WINDOW_END (R275). A bandwidth window ends; its count becomes LAST and may raise PEAK. -/
  | windowEnd (port : Nat) (w : Nat)
  /-- ENGINE_FAULT (R303). A Trick engine is declared faulty, its jobs are dropped and its threads leave admission. -/
  | engineFault (e : Nat) (t : Nat)
  /-- SCHEDULED_PRESENT (R297). 2,000 ns before a scheduled PTP instant, its job is presented to admission or skipped. -/
  | scheduledPresent (inst : Nat) (port : Nat) (mtype : Nat) (grant : Option Nat)
  /-- BATCH_SIGNED (R369). The Ed25519 signature of a batch completes and its responses are built. -/
  | batchSigned (t : Nat)
  /-- ANNOUNCE_TIMEOUT (R316). ANNOUNCE_TIMEOUT intervals pass without an Announce from the parent and it is lost. -/
  | announceTimeout (inst : Nat) (port : Nat)
  /-- FOLLOWUP_TIMEOUT (R323). A Sync's Follow_Up does not arrive in time and the Sync is discarded. -/
  | followupTimeout (inst : Nat) (port : Nat)
  /-- SYNC_TIMEOUT (R326). Three Sync intervals pass without a sample and tracking is lost. -/
  | syncTimeout (inst : Nat)
  /-- PATH_DELAY_TIMEOUT (R324). 16 delay intervals pass without a valid exchange and the mean path delay becomes invalid. -/
  | pathDelayTimeout (inst : Nat) (port : Nat)
  /-- GRANT_EXPIRY (R331). A grant reaches EXPIRY and is removed. -/
  | grantExpiry (k : Nat)
  /-- ST2059_METADATA (R322). At every second plus 500 ms an ST2059 master port sends its synchronization metadata message. -/
  | st2059Metadata (inst : Nat)
  /-- UPSTREAM_RENEW (R333). A quarter of a client grant's duration remains and it is renewed. -/
  | upstreamRenew (inst : Nat) (port : Nat) (up : Nat) (mtype : Nat)
  /-- UPSTREAM_RETRY (R333). 16 s after a denial the client repeats its grant request. -/
  | upstreamRetry (inst : Nat) (port : Nat) (up : Nat) (mtype : Nat)
  /-- CLAIM_FRAME_TX (R389). A claim frame is sent on CLAIM_TX and read back for readback check. -/
  | claimFrameTx (t : Nat) (readback : Option Nat)
  /-- CLAIM_FRAME_RX (R390). A valid claim frame is received on CLAIM_RX. -/
  | claimFrameRx (t : Nat) (claim : Nat)
  /-- CLAIM_QUIET (R390). No transition on CLAIM_RX for 180 ns is read as claim 0x00. -/
  | claimQuiet (t : Nat)
  /-- SELF_FAULT (R31). A block declares a self-fault; the fault record and health update, and listed causes drop the claim. -/
  | selfFault (t : Nat) (cause : Nat) (detail : Nat)
  /-- HEARTBEAT_RX (R400). A heartbeat is received; θ forms a PARTNER sample and states advance. -/
  | heartbeatRx (lane : Nat) (t : Nat) (fcsOk : Bool) (payload : Bytes)
  /-- SNAPSHOT_TX (R404). The Declarer sends a captured snapshot during the next hand. -/
  | snapshotTx (t : Nat)
  /-- SNAPSHOT_APPLY (R404). A verified snapshot is applied on one tick by the Dummy. -/
  | snapshotApply (t : Nat) (snap : Machine.Snapshot)
  /-- COPY_VERIFIED (R407). The bulk copy is verified and the Dummy enters LOCKSTEP. -/
  | copyVerified (t : Nat) (snap : Machine.Snapshot) (neighbours : List (Nat × Machine.Neighbour))
  /-- LOCKSTEP_INPUT_RX (R408). The Dummy processes a forwarded Declarer input in order. -/
  | lockstepInputRx (t : Nat) (inp : Machine.LockInput)
  /-- LOCKSTEP_COMPARE (R408). After a hand's inputs, the Dummy compares snapshot digests. -/
  | lockstepCompare (t : Nat) (digest : Bytes)
  /-- MIRROR_RX (R406). A mirrored command from the partner is executed in order. -/
  | mirrorRx (opcode : Nat) (q : Req)
  /-- MIRROR_REPLY_RX (R406). The partner's status for a mirrored command arrives; a difference raises MIRROR_MISMATCH. -/
  | mirrorReplyRx (t : Nat) (opcode : Nat) (tag : Nat) (status : Nat)
  /-- SWITCH_REQUEST_RX (R414). A Dummy receives SWITCH_REQUEST and seizes if permitted. -/
  | switchRequestRx (t : Nat) (force : Bool)
  /-- COMPARE_CHECK (R411). At a shadow rising edge the compared output is checked; trim updates every 64 results. -/
  | compareCheck (k : Nat) (t : Nat) (x : Option Int)
  /-- SELFTEST_RUN (R413). A self-test item completes a run and passes or fails. -/
  | selftestRun (item : Nat) (t : Nat) (passed : Bool) (detail : Nat)
  /-- PERSIST_DONE (R444). An image write completes and reads back, or fails. -/
  | persistDone (t : Nat) (ok : Bool)
  /-- KITTY_LOAD (R447). At boot the wrap engine loads the newest valid image or starts empty. -/
  | kittyLoad (t : Nat)
  /-- AUDIO_FRAME_BOUNDARY (R463). A port's frame boundary k plays a frame and advances the group state. -/
  | audioFrameBoundary (port : Nat)
  /-- AUDIO_TX_READ (R475). At boundary k − 2 the port reads frame k or schedules a zero frame. -/
  | audioTxRead (port : Nat)
  /-- AUDIO_BUFFER_HEAD (R476). A transmit buffer reaches the ring head and late or far frames are discarded. -/
  | audioBufferHead (port : Nat) (t : Nat) (desc : Nat) (data : Bytes)
  /-- AUDIO_RX_FRAME (R477). A received frame is stored or counted as overrun. -/
  | audioRxFrame (port : Nat) (t : Nat) (record : Option Bytes)
  /-- AES3_SAMPLE (R470). A received Z preamble stamp forms an AP source sample. -/
  | aes3Sample (port : Nat) (t : Nat)
  /-- PAGE_WRITTEN (R536). A Scorecard page write completes and PAGE_COMMITTED is raised. -/
  | pageWritten (t : Nat)
  /-- PAGE_WRITE_TIMEOUT (R537). A page write does not complete in 10 s or fails readback and is retried or discarded. -/
  | pageWriteTimeout (t : Nat) (readback : Bool)
  /-- DAILY_COMMIT (R538). Every 24 operating hours a daily page is built, written and old pages relocated. -/
  | dailyCommit (t : Nat)
  /-- POWER_ON (R570). VDDIO rises through 1.45 V and the fault record clears. -/
  | powerOn (t : Nat)
  /-- POWER_GOOD_RISE (R552). All rails stay in window for 1 ms and power-good rises. -/
  | powerGoodRise (t : Nat)
  /-- POWER_GOOD_FALL (R553). A rail leaves its window for 2 µs; POWER_GOOD fault and device reset. -/
  | powerGoodFall (t : Nat) (rails : Nat)
  /-- RESET_N_ASSERT (R554). RESET_N low for 150 ns starts a device reset. -/
  | resetNAssert (t : Nat) (width : Nat)
  /-- RESET_END (R558). Reset ends, straps are sampled and boot starts. -/
  | resetEnd (t : Nat) (pairId : Bool) (bootSrc : Nat) (quad : Bool)
  /-- WATCHDOG_EXPIRY (R556). The 500 ms watchdog expires; WATCHDOG fault and claim drop. -/
  | watchdogExpiry (t : Nat)
  /-- THERMAL_SHUTDOWN (R557). A die sensor reaches 125 °C and the chip is held in reset. -/
  | thermalShutdown (t : Nat) (temp : Int)
  /-- THERMAL_RELEASE (R557). The sensor falls to 115 °C and the hold is released. -/
  | thermalRelease (t : Nat) (temp : Int)
  /-- THERMAL_WARN (R557). The die reaches 105 °C and THERMAL_WARN is raised. -/
  | thermalWarn (t : Nat) (temp : Int)
  /-- FUSE_READ (R433). Boot reads fuses and completes an interrupted advance. -/
  | fuseRead (t : Nat)
  /-- SRAM_TEST (R559). SRAM is cleared and march-tested. -/
  | sramTest (t : Nat) (ok : Bool)
  /-- IMAGE_LOAD (R560). Boot images are read, checked and measured, or boot falls back or halts. -/
  | imageLoad (t : Nat) (a : Bytes) (b : Bytes)
  /-- KEY_DERIVE (R436). MR5 is extended, keys are derived and the alias endorsed. -/
  | keyDerive (t : Nat)
  /-- DEALER_START (R559). The Dealer and Trick engines start and the Kitty load begins. -/
  | dealerStart (t : Nat) (density : Nat)
  /-- CONFIG_IMAGE_EXEC (R562). The Dealer executes the boot configuration image's packets. -/
  | configImageExec (t : Nat)
  /-- READY (R559). CMD_READY is set and commands are accepted. -/
  | ready (t : Nat)
  /-- CLAIM_OPEN (R563). With CMD_READY and the Kitty load done, the claim becomes live. -/
  | claimOpen (t : Nat)
  /-- LINK_TRAINING_START (R557). PCIe link training starts after power-good, lock and PERST release. -/
  | linkTrainingStart (t : Nat)
  /-- NO_STAMPED_EDGE (R78). A FREQUENCY or SYNCE source has no stamped edge for 4 stamped periods, or for 1 µs where that is longer, and fails ACTIVITY. -/
  | noStampedEdge (src : Nat)
  /-- DARS_LOCK_LOST (R469). An AES3 receiver's input stops or its preambles go missing, so it loses frame lock and its AP source fails SOURCE_HEALTH. -/
  | darsLockLost (port : Nat) (t : Nat)
  /-- GSPI_WRITES_DONE (R173). The last GSPI_COUNT word has been written to the front end, and acquisition starts. -/
  | gspiWritesDone (t : Nat)
  /-- CLASS_CHANGE (R124). The counter bound, growing during HOLDOVER, crosses HOLDOVER_SPEC, CAT1_LIMIT or CAT2_LIMIT; clockClass changes and CLASS_CHANGE is raised. -/
  | classChange (t : Nat)
  /-- BOUND_ALERT (R163). The counter bound, growing with time through G(t) or WANDER, rises above ALERT_LEVEL and BOUND_ALERT is raised. -/
  | boundAlert (t : Nat)
  /-- ADVANCE_DONE (R431). The root burn, readback and state-row fuses of LC_ADVANCE complete; the reply is sent with ADVANCE_PENDING and ADVANCE_DONE is raised, or INTERNAL_FAULT. -/
  | advanceDone (t : Nat) (firstOk : Bool) (spareOk : Bool)
  /-- QUOTE_SIGNED (R451). The Ed25519 signer finishes a quote's signature, and the ATTEST_QUOTE reply is returned. -/
  | quoteSigned (t : Nat)
  /-- POWER_REMOVED (R553). VDDIO falls below 1.45 V; the watch domain, fault record and every pad lose power, and the claim wire is left to its board resistor. -/
  | powerRemoved (t : Nat)
  /-- THERMAL_WARN_CLEAR (R557). The hottest die sensor falls to 100 °C and SYS_STATUS.THERMAL_WARN clears. -/
  | thermalWarnClear (t : Nat) (temp : Int)
  /-- PCIE_LINK_UP (R557). PCIe link training completes and the link comes up, so DMA and BAR0 accesses over PCIe become possible. -/
  | pcieLinkUp (t : Nat) (width : Nat) (gen : Nat)
  /-- SCHEDULED_STEP_APPLY (R43). A pending step or set is applied on the first tick at which the counter reaches its APPLY_AT. -/
  | scheduledStepApply
  /-- SLEW_DONE (R46). The remaining slew offset is exhausted, the last remainder is added and the slew ends. -/
  | slewDone
  /-- LEAP_APPLIED (R52). The counter passes a future entry's LEAP_TAI, CURRENT_OFFSET takes NEW_OFFSET and the entry becomes the retained past entry. -/
  | leapApplied
  /-- PAIR_SWITCH_TIMEOUT (R426). No enable fall 10 ms after SWITCH_REQUEST; PAIR_SWITCH replies with timeout. -/
  | pairSwitchTimeout
  /-- MODEL_LEARNED (R117). LEARN_HOURS of locked time accumulate and the model becomes LEARNED. -/
  | modelLearned
  /-- STEER_PERIOD (R126). STEER_PERIOD elapses and a steering command starts on OSC_CTL_TX. -/
  | steerPeriod
  /-- STEER_NOACK (R127). No ACK within 1 s; the step is treated as unknown, LEARNED clears and OSC_FAULT is raised. -/
  | steerNoack
  /-- MELD_UPDATE (R140). A 16 Hz update instant starts the joint Kalman update. -/
  | meldUpdate
  /-- HORIZON (R150). A holdover passes COVER_HOURS and HORIZON is raised. -/
  | horizon
  /-- SURVEY_SECOND (R181). A counter second adds a position to the survey accumulators; completion leads to HOLD. -/
  | surveySecond
  /-- TOD_SENTENCE (R216). DELAY after a second boundary, a ZDA sentence is sent on TOD_TX or withheld by its gate. -/
  | todSentence
  /-- SHED_END (R300). Free shared cells stay above SHED_FREE + 1,024 for 1 ms and shedding ends. -/
  | shedEnd
  /-- BATCH_CLOSE (R296). A receipt batch closes at 4,096 leaves or 8.0 ms. -/
  | batchClose
  /-- CLAIM_ABSENT (R390). No valid frame or quiet line for 4 µs; the partner is absent. -/
  | claimAbsent
  /-- CLAIM_IN_FORCE (R391). A raised own claim takes force 220 ns after its frame. -/
  | claimInForce
  /-- ENABLE_RISE (R415). The shared-output enable rises; the chip becomes Declarer and opens admission. -/
  | enableRise
  /-- ENABLE_FALL (R416). The enable falls; the live chip becomes Dummy and enters JOINING. -/
  | enableFall
  /-- HEARTBEAT_TX (R398). Every 1 µs a heartbeat is sent on each UP lane. -/
  | heartbeatTx
  /-- HEARTBEAT_LOST (R399). No heartbeat for 8 µs; PARTNER_LOST is raised and a Dummy may seize. -/
  | heartbeatLost
  /-- SNAP_LATE (R404). A snapshot not verified 900 µs after its boundary is discarded. -/
  | snapLate
  /-- MIRRORED_COMMIT (R406). A mirrored commit applies at the first hand boundary 100 µs after execution. -/
  | mirroredCommit
  /-- PERSIST_WRITE (R444). 10 s after the latest or 60 s after the earliest persist request, a Kitty image write starts. -/
  | persistWrite
  /-- CREDIT_ACCRUE (R445). Each 4 h of operating time adds a persist credit. -/
  | creditAccrue
  /-- RETENTION_REWRITE (R446). After 365 days without a write, the newest image is rewritten. -/
  | retentionRewrite
  /-- HOURLY_COMMIT (R536). At an operating-hour boundary the accumulators are snapshotted and a page write starts. -/
  | hourlyCommit
  /-- WATCHDOG_RESET (R556). 1 ms after watchdog expiry a device reset starts. -/
  | watchdogReset
  deriving DecidableEq, Repr

end Sys2Proof
end

