-- ==== Sys2Proof/Machine/PartsGnss.lean ====
section
/-! DEFINITION. The GNSS baseband: configuration and state (chapter 06). -/
namespace Sys2Proof.Machine
open Sys2Proof

/-- GNSS_CONFIGURE with its reset values (R188). -/
structure GnssCfg where
  enable : Bool := false
  flags : Nat := 0
  solRate : Nat := 0
  elevMask : Nat := 10
  cn0Mask : Nat := 30
  ionFrac : Nat := 128
  gspiClk : Nat := 0
  ifFreq : Int := 0
  wnBase : Nat := 2304
  cableDelay : Int := 0
  frontendDelay : Int := 0
  calUnc : Nat := 0
  residLimit : Nat := 1966080
  sFloor : Nat := 3000
  gspiWords : List Nat := []
  deriving DecidableEq, Repr, Inhabited

/-- The receiver states (R179). -/
inductive GnssState where
  | off
  | acquire
  | survey
  | hold
  deriving DecidableEq, Repr, Inhabited

/-- Stored navigation words of one kind: bytes in the GNSS_AID layout, and whether they were broadcast (R176, R192). -/
structure NavItem where
  words : Bytes := []
  broadcast : Bool := false
  deriving DecidableEq, Repr, Inhabited

/-- A tracking channel that holds a PRN (R177, R191). -/
structure GnssChan where
  prn : Nat := 0
  channel : Nat := 0
  bitSync : Bool := false
  used : Bool := false
  excluded : Bool := false
  cn0 : Nat := 0
  elevation : Nat := 0
  azimuth : Nat := 0
  doppler : Int := 0
  /-- rᵢ at the latest epoch, 2⁻¹⁶ ns. -/
  residual : Int := 0
  deriving DecidableEq, Repr, Inhabited

/-- Three coordinates in mm. -/
abbrev Position := Int × Int × Int

/-- A block of 16,368 samples: the least-squares line through the stamps of their edges, as a first time (the delays taken off) in
2⁻¹⁶ ns and a period as a quotient, and the samples as complex values (R169 to R172). -/
structure GnssBlock where
  start : Int := 0
  periodNum : Int := 0
  periodDen : Int := 1
  samples : List (Int × Int) := []
  deriving DecidableEq, Repr, Inhabited

/-- A change of state that waits for the next measurement epoch (R179). -/
inductive GnssChange where
  | start
  | stop
  | restart
  deriving DecidableEq, Repr

/-- GNSS_SURVEY (R190). -/
structure SurveyCmd where
  fixed : Bool := false
  surveyMin : Nat := 60
  surveyMax : Nat := 1440
  surveyLimit : Nat := 500
  posUnc : Nat := 0
  pos : Int × Int × Int := (0, 0, 0)
  deriving DecidableEq, Repr, Inhabited

/-- A sample that is solved and not yet delivered: epoch stamp and offset in 2⁻¹⁶ ns, U in ps, step epoch, instant (R182). -/
structure GnssDue where
  stamp : Nat
  offset : Int
  unc : Nat
  epoch : Nat
  ps : Nat
  deriving DecidableEq, Repr, Inhabited

/-- The GNSS baseband (R169 to R192). -/
structure GnssRun where
  state : GnssState := .off
  /-- The survey setting in force, and one that takes effect at the next measurement epoch. -/
  setting : SurveyCmd := {}
  survey : Option SurveyCmd := none
  gspiBusy : Bool := false
  /-- A commit's change of state, which the next measurement epoch takes (R179). -/
  change : Option GnssChange := none
  /-- The latest block of samples (R169 to R171). -/
  block : GnssBlock := {}
  channels : List GnssChan := []
  /-- Lost PRNs in narrowed search with the end of the 30 s (R177). -/
  reacquire : List (Nat × Nat) := []
  /-- Navigation words by 64·TYPE + PRN. -/
  nav : List (Nat × NavItem) := []
  /-- Accepted aids that apply at the next measurement epoch. -/
  aids : List (Nat × Bytes) := []
  timeAid : Option (Nat × Nat) := none
  posAid : Option Bytes := none
  /-- Held position in mm and its uncertainty. -/
  heldPos : Int × Int × Int := (0, 0, 0)
  heldUnc : Nat := 0
  /-- Survey accumulators: positions, sums and sums of squares by axis, elapsed seconds (R181). -/
  accCount : Nat := 0
  accSum : Int × Int × Int := (0, 0, 0)
  accSquare : Nat := 0
  elapsed : Nat := 0
  /-- The survey second that waits to be counted, and the solution nearest it (R181). -/
  secondDue : Bool := false
  lastPos : Option (Int × Int × Int) := none
  /-- The latest solved position with the epochs since, and the epochs since a second whose nearest solution is still open (R181). -/
  recentPos : Option (Nat × Int × Int × Int) := none
  openSecond : Option Nat := none
  timingFix : Bool := false
  /-- The latest epoch had a timing fix (R180). -/
  hadFix : Bool := false
  firstFix : Bool := false
  clkFault : Bool := false
  clkOffset : Int := 0
  weekFromCounter : Bool := false
  week : Nat := 0
  used : Nat := 0
  lastEpoch : Nat := 0
  phase : Int := 0
  unc : Nat := 0
  due : Option GnssDue := none
  deriving DecidableEq, Repr, Inhabited

end Sys2Proof.Machine
end

