-- ==== Sys2Proof/Machine/PartsOut.lean ====
section
/-! DEFINITION. The output synthesizers and the serial time of day: configuration and state (chapter 07). -/
namespace Sys2Proof.Machine
open Sys2Proof

/-- OUT_CONFIGURE of one output (R222). -/
structure OutCfg where
  mode : Nat := 0
  domain : Nat := 0
  driver : Nat := 0
  cmosN : Nat := 0
  drive : Nat := 2
  flags : Nat := 0
  gate : Nat := 0
  freqNum : Nat := 0
  freqDen : Nat := 0
  period : Nat := 0
  width : Nat := 0
  irigCode : Nat := 0
  localOffset : Int := 0
  offset : Int := 0
  gateBound : Nat := 0
  /-- How often OUT_CONFIGURE has named the output: tells a new OUT_CONFIGURE of equal values (R212). The model's own field. -/
  serial : Nat := 0
  deriving DecidableEq, Repr, Inhabited

/-- What a leg of an output puts out: nothing, the waveform, or its complement (R207, R222). -/
inductive Leg where
  | off
  | direct
  | inverted
  deriving DecidableEq, Repr, Inhabited

/-- STATE of an output (R225). -/
inductive OutState where
  | disabled
  | waiting
  | running
  | gated
  deriving DecidableEq, Repr, Inhabited

/-- An alignment in progress (R212, R224): before its pulse the source, ALIGN_OFFSET and deadline; after it the remainder. -/
structure Align where
  ord : Nat := 0
  alignOffset : Int := 0
  step : Bool := false
  slew : Nat := 0
  deadline : Nat := 0
  /-- The pulse has come. -/
  found : Bool := false
  /-- What remains to be added to OFFSET, 2⁻¹⁶ ns. -/
  remaining : Int := 0
  /-- The part of 2⁻¹⁶ ns that the slew has left over from the edges before, 2⁻⁴⁸ of it. -/
  carry : Nat := 0
  deriving DecidableEq, Repr, Inhabited

/-- One output (R204 to R213, R225). -/
structure OutRun where
  state : OutState := .disabled
  /-- The configuration in force: that of the working set from the next rising edge on (R210). -/
  cfg : OutCfg := {}
  /-- A commit waits for the next rising edge. -/
  stale : Bool := false
  startAt : Nat := 0
  periods : Nat := 0
  /-- OFFSET in force, 2⁻¹⁶ ns. -/
  offset : Int := 0
  align : Option Align := none
  lastD : Int := 0
  /-- The trim of the pair in force on a shared output, and its instant (R412). -/
  trim : Int := 0
  trimAt : Nat := 0
  placerOk : Bool := true
  /-- GATED has been raised for this closing. -/
  gateNoted : Bool := false
  /-- The latest rising edge in the model's clock, ps, and the end of its width. -/
  prevRise : Option Nat := none
  fallAt : Nat := 0
  /-- The latest edge instant that has been dealt with, 2⁻⁴⁸ ns of domain time. The model's own field. -/
  served : Int := 0
  deriving DecidableEq, Repr, Inhabited

/-- TODOUT_CONFIGURE (R226). -/
structure TodCfg where
  enable : Bool := false
  flags : Nat := 0
  /-- Two characters, first in the low byte: "GP". -/
  talker : Nat := 0x5047
  baud : Nat := 9600
  delay : Nat := 100
  localOffset : Int := 0
  gate : Nat := 0
  gateBound : Nat := 0
  deriving DecidableEq, Repr, Inhabited

end Sys2Proof.Machine
end

