-- ==== Sys2Proof/Machine/PartsHost.lean ====
section
/-! DEFINITION. The state of the host interface: register banks, rings, result slots, the Dealer queue, the interrupt
tree (chapter 16), and what a step puts out. -/
namespace Sys2Proof.Machine
open Sys2Proof

/-- What a step puts out at the block's edge: register read data, DMA writes, frames, pin patterns, link words. -/
inductive Output where
  /-- Data of a register read. -/
  | readData (i : Iface) (w : Word)
  /-- The message of MSI-X vector 0 (R515). -/
  | msix
  /-- A reply-ring entry written by DMA (R505). -/
  | replyEntry (ring index : Nat) (entry : Bytes)
  /-- An event-ring entry written by DMA (R506). -/
  | eventEntry (ring index : Nat) (entry : Bytes)
  /-- A transmit timestamp-queue entry written by DMA (R511). -/
  | tsqEntry (ring index : Nat) (entry : Bytes)
  /-- Receive data and one completed descriptor, bytes 8 to 31 (R507). -/
  | rxWrite (ring index : Nat) (desc data : Bytes)
  /-- STATUS of a transmit descriptor (R509). -/
  | txStatus (ring index status : Nat)
  /-- A frame on a network port, with its egress stamp (R254). -/
  | frame (port : Nat) (stamp : Nat) (bytes : Bytes)
  /-- What a port advertises by Clause 37: PAUSE and ASM_DIR (R266). -/
  | advert (port : Nat) (pause : Bool)
  /-- A PFC frame on a network port, with the instant at which it starts (R269, R294). -/
  | pauseFrame (port : Nat) (start : Nat) (mask : Nat) (quanta : Nat)
  /-- Bytes on a serial pin: TOD_TX, OSC_CTL_TX, GSPI, NAV (R126, R173, R216). -/
  | serial (line : String) (bytes : Bytes)
  /-- A period of an output: its rising and falling edge in ps of domain time, and what its pins P and N carry (R206, R207). -/
  | period (output : Nat) (rise fall : Nat) (p n : Leg)
  /-- A frame of an IRIG-B output: its on-time mark in ps, its elements, and what its pins P and N carry (R207, R214). -/
  | irig (output : Nat) (mark : Nat) (elements : List Nat) (p n : Leg)
  /-- An output holds its idle level: high-impedance, or low (R208). -/
  | idle (output : Nat) (highZ : Bool)
  /-- The pad keeper of a shared output turns on or off (R211, R395). -/
  | keeper (output : Nat) (on : Bool)
  /-- How each group of pins stands from now on (R565). -/
  | pads (stands : List (PadGroup × PadStand))
  /-- A pin that is high but for one low pulse of `low` ps in each `cycle` ps (R197). -/
  | pulses (name : String) (low cycle : Nat)
  /-- A level or an edge of a named pin. -/
  | pin (name : String) (level : Nat)
  /-- A claim frame on CLAIM_TX (R389). -/
  | claim (value : Nat)
  /-- Levels of CLAIM_TX, half a bit time each (R389). -/
  | claimLine (levels : List Nat)
  /-- A message on the Partner link (R397): its lane, or none when it is striped. -/
  | link (lane : Option Nat) (kind : String) (bytes : Bytes)
  /-- An input that the Declarer forwards in LOCKSTEP, with its tick in ps (R408). -/
  | lockInput (ps : Nat) (x : LockInput)
  /-- A snapshot sent to the partner (R404). -/
  | snapshot (x : Snapshot)
  /-- An audio frame at a port's boundary (R463). -/
  | audio (port : Nat) (index : Nat) (bytes : Bytes)
  /-- The clocks of a PCM frame: its bit periods, for how many FSYNC is active from the boundary, for how many slot 0 is late; the
  word clock of I2S is low while it is active; data change on the rising edge of an inverted bit clock (R465). -/
  | audioClocks (port index bits active late : Nat) (wordLow invert : Bool)
  /-- The pins of an audio port idle: high-impedance, or low (R461). -/
  | audioIdle (port : Nat) (highZ : Bool)
  /-- The pad keepers of a shared audio port turn on or off (R395, R479). -/
  | audioKeeper (port : Nat) (on : Bool)
  /-- The flash at a 4-byte address: 4 KiB sectors erased there, before what the next output programs there (R530). -/
  | flashAt (addr sectors : Nat)
  /-- A page, an image or a boot tally programmed into the flash (R443, R532, R536). -/
  | flash (what : String) (bytes : Bytes)
  deriving DecidableEq, Repr

/-- One result slot (R498, R499): the latest result, and whether a newer command of the slot is pending. -/
structure Slot where
  pending : Bool := false
  opcode : Nat := 0
  tag : Nat := 0
  length : Nat := 0
  flags : Nat := 0
  source : Nat := 0
  status : Nat := 0
  readCount : Nat := 0
  detail : Nat := 0
  data : Bytes := []
  deriving DecidableEq, Repr, Inhabited

/-- The live-time latch of one interface (R60). -/
structure LatchBank where
  lo : Word := 0
  ns : Word := 0
  secLo : Word := 0
  secHi : Word := 0
  boundLo : Word := 0xFFFFFFFF
  boundHi : Word := 0xFF
  count : Word := 0
  deriving DecidableEq, Repr, Inhabited

/-- The registers that each interface has for itself (R489, R502). -/
structure IfBank where
  scratch : Word := 0
  select : BitVec 8 := 0
  go : Bool := false
  /-- The tick on which a 1 was written to GO while it stood (R8). -/
  goAgain : Option Nat := none
  submitStatus : BitVec 8 := 0
  /-- The copy that RESULT_STATUS latched (R500). -/
  result : Slot := {}
  /-- CMD_BUF as bytes, 512 of them. -/
  cmdBuf : Bytes := List.replicate 512 0#8
  latch : LatchBank := {}
  deriving DecidableEq, Repr, Inhabited

/-- A command in the Dealer queue (R496) with its arrival in counter time and in the model's clock. -/
structure QEntry where
  opcode : Nat
  req : Req
  arrived : Nat
  arrivedPs : Nat
  deriving DecidableEq, Repr

/-- What a started command waits for when its reply follows a hardware action (R496). -/
inductive WaitKey where
  | portCalibrate (port : Nat)
  | pairSwitch
  | claimSet
  | pairResync
  | lcAdvance
  | quote
  | blockReset (block index : Nat)
  | recCommit
  | timeChange
  | mirroredCommit
  | outAlign (output : Nat)
  deriving DecidableEq, Repr

/-- A started command whose reply is to come. -/
structure Wait where
  key : WaitKey
  opcode : Nat
  req : Req
  /-- The reply-ring write is discarded (R519). -/
  muted : Bool := false
  /-- Data kept for the reply. -/
  data : Bytes := []
  deriving DecidableEq, Repr

/-- An event-ring entry that is due (R506). -/
structure EventDue where
  cls : Nat
  bitNo : Nat
  time : Nat
  epoch : Nat
  index : Nat
  deriving DecidableEq, Repr, Inhabited

/-- A frame or audio buffer on a receive ring's delivery queue (R508). -/
structure RxItem where
  data : Bytes := []
  stamp : Nat := 0
  uncal : Bool := false
  code : Nat := 0
  port : Nat := 0
  prio : Nat := 0
  deriving DecidableEq, Repr, Inhabited

/-- One ring (R503 to R512, R526). -/
structure Ring where
  baseLo : Word := 0
  baseHi : Word := 0
  holdoff : Nat := 0
  logSize : Nat := 0
  fault : Bool := false
  enable : Bool := false
  /-- HEAD and SECOND, the Carko's indices, modulo 2¹⁶. -/
  head : Nat := 0
  second : Nat := 0
  /-- RING_DB, and TSQ_DB or REPLY_DB. -/
  db : Nat := 0
  secondDb : Nat := 0
  /-- The tick of the latest write of RING_DB, and the index before that tick's writes (R520). -/
  dbBefore : Option (Nat × Nat) := none
  /-- Descriptors fetched for transmission, and the spans of frames that ended ahead of their turn, as first and last index. -/
  fetched : Nat := 0
  ended : List (Nat × Nat) := []
  faultCause : Nat := 0
  items : Nat := 0
  bytes : Nat := 0
  ringShort : Nat := 0
  tsqOverflows : Nat := 0
  lateDrops : Nat := 0
  eventsLost : Nat := 0
  lostBefore : Bool := false
  overflowBefore : Bool := false
  /-- Entries written since enable (R506). -/
  seq : Nat := 0
  /-- The instant at which the ring's second-level bit is to be set (R518). -/
  holdUntil : Option Nat := none
  queue : List RxItem := []
  due : List EventDue := []
  deriving DecidableEq, Repr, Inhabited

/-- The host interface (R486 to R526). -/
structure HostPart where
  pcie : IfBank := {}
  spi : IfBank := {}
  rings : List Ring := List.replicate 256 {}
  /-- IRQ_CAUSE_n without the read-only summaries, and IRQ_ENABLE_n (R516). -/
  cause : List Word := List.replicate 16 0
  enable : List Word := List.replicate 16 0
  /-- The second-level causes and enables (R518). -/
  second : List Word := List.replicate 8 0
  secondEn : List Word := List.replicate 8 0
  pinEn : Bool := false
  msixEn : Bool := false
  /-- MSI-X vector and function masks and the pending bit (R515). -/
  vecMask : Bool := true
  funcMask : Bool := false
  msixPend : Bool := false
  queue : List QEntry := []
  slots : List Slot := List.replicate 256 {}
  waits : List Wait := []
  /-- SYS_CONFIG_COMMIT (R522, R523). -/
  commitCount : Nat := 0
  lastCommit : Nat := 0
  committed : Bool := false
  digest : Bytes := List.replicate 48 0#8
  /-- PCIe link (R521); 0 with no link. -/
  linkWidth : Nat := 0
  linkGen : Nat := 0
  busMaster : Bool := false
  noRingDrops : Nat := 0
  /-- The next command ring of the round robin (R496). -/
  nextRing : Nat := 0
  /-- The tick of the latest set of a cause bit by hardware, and the bits set on it: 32 × word + bit, the second-level words
  from 16 on (R7). -/
  setTick : Nat := 0
  setBits : List Nat := []
  deriving DecidableEq, Repr, Inhabited

/-- RING_CONFIGURE (R525). -/
structure RingCfg where
  use : Nat := 0
  bufCode : Nat := 0
  priority : Nat := 0
  port : Nat := 0
  codeMask : Nat := 0
  portMask : Nat := 0
  classMask : Nat := 0
  deriving DecidableEq, Repr, Inhabited

end Sys2Proof.Machine
end

