-- ==== Sys2Proof/Machine/PartsKitty.lean ====
section
/-! DEFINITION. The Kitty, the life cycle and attestation: state (chapter 14). -/
namespace Sys2Proof.Machine
open Sys2Proof

/-- A FULL slot (R439). -/
structure KittySlot where
  label : Nat := 0
  key : Bytes := []
  deriving DecidableEq, Repr, Inhabited

/-- An image write in progress (R444). `waits`: a page that started earlier still uses the flash (R536). -/
structure KittyWrite where
  bank : Nat := 0
  seq : Nat := 0
  image : Bytes := []
  start : Nat := 0
  waits : Bool := false
  deriving DecidableEq, Repr, Inhabited

/-- The Kitty (R439 to R447). -/
structure KittyPart where
  /-- FULL slots by number. -/
  slots : List (Nat × KittySlot) := []
  /-- The tick of the latest write or erase, and the slots as they stood before it (R452). -/
  before : Option (Nat × List (Nat × KittySlot)) := none
  writesTotal : Nat := 0
  writesReset : Nat := 0
  /-- The load of R447 has completed; and it found a valid image. -/
  loadDone : Bool := false
  loaded : Bool := false
  /-- IMAGE_SEQ of the next image, and of the newest valid one with its bank (R447, R456). -/
  nextSeq : Nat := 0
  imageSeq : Nat := 0
  imageBank : Option Nat := none
  /-- The earliest and the latest pending persist request (R444). -/
  persist : Option (Nat × Nat) := none
  deferred : Bool := false
  writing : Option KittyWrite := none
  /-- Credits at an operating time, in ps of operating time: 4 hours each (R445). -/
  credit : Nat := 0
  creditAt : Nat := 0
  erases0 : Nat := 0
  erases1 : Nat := 0
  /-- Operating time of the newest image (R446, R456). -/
  imageOp : Nat := 0
  deriving DecidableEq, Repr, Inhabited

/-- One root bank of the fuses: its first and its spare position, and whether the first was abandoned (R432). -/
structure RootBank where
  first : Option Bytes := none
  spare : Option Bytes := none
  abandoned : Bool := false
  deriving DecidableEq, Repr, Inhabited

/-- What the fuses hold for the calibration of a port: the package route from ball to loopback in each direction, and the range of
each delay, in 2⁻¹⁶ ns (R256, R257). -/
structure CalFuse where
  routeTx : Int := 0
  routeRx : Int := 0
  txMin : Int := -(2 ^ 63)
  txMax : Int := 2 ^ 63 - 1
  rxMin : Int := -(2 ^ 63)
  rxMax : Int := 2 ^ 63 - 1
  deriving DecidableEq, Repr, Inhabited

/-- The fuses (R429 to R433): blown fuses of the state rows PROVISION to SCRAP, root banks, the serial number. -/
structure FusePart where
  rows : List Nat := [0, 0, 0, 0]
  roots : List RootBank := [{}, {}, {}]
  serial : Nat := 0
  /-- By port, then by lane of the Partner link. -/
  cal : List CalFuse := List.replicate 18 {}
  deriving DecidableEq, Repr, Inhabited

/-- The life-cycle state in force, an advance that is pending, and attestation (R429 to R460). -/
structure AttestPart where
  /-- 0 BLANK, 1 PROVISION, 2 FIELD, 3 RETURN, 4 SCRAP. -/
  lc : Nat := 0
  advance : Option Nat := none
  mrs : List Bytes := List.replicate 8 (List.replicate 48 0#8)
  mr6Count : Nat := 0
  mr7Count : Nat := 0
  devicePub : Bytes := List.replicate 32 0#8
  aliasSeed : Bytes := []
  aliasPub : Bytes := List.replicate 32 0#8
  endorsement : Bytes := List.replicate 64 0#8
  deriving DecidableEq, Repr, Inhabited

end Sys2Proof.Machine
end

