-- ==== Sys2Proof/Machine/PartsNtp.lean ====
section
/-! DEFINITION. NTP, NTS and receipts: configuration and state (chapter 12). -/
namespace Sys2Proof.Machine
open Sys2Proof

/-- NTP_CONFIGURE (R375). -/
structure NtpCfg where
  enable : Bool := false
  flags : Nat := 0
  stratum : Nat := 1
  degradedStratum : Nat := 2
  degradedClass : Nat := 140
  unsyncClass : Nat := 248
  addrMask : Nat := 0
  portMask : Nat := 0
  refid : Nat := 0
  deriving DecidableEq, Repr, Inhabited

/-- An exempt prefix (R376). -/
structure Exempt where
  v6 : Bool := false
  len : Nat := 0
  addr : Nat := 0
  deriving DecidableEq, Repr, Inhabited

/-- NTP_RATE_POLICY (R376). -/
structure RateCfg where
  action : Nat := 0
  kodPoll : Nat := 10
  ipv6Prefix : Nat := 64
  rate : Nat := 64
  burst : Nat := 16
  kodInterval : Nat := 1000
  exempt : List Exempt := []
  deriving DecidableEq, Repr, Inhabited

/-- A key of the shadow set: the Kitty slot it is copied from at commit, and how often it has been loaded (R378). -/
structure KeyLoad where
  slot : Nat := 0
  loads : Nat := 0
  deriving DecidableEq, Repr, Inhabited

/-- NTS_KEY_LOAD for one instance: NEXT's epoch (0 for empty), its slot, a count of changes that a commit compares, and
the epochs that the next commit erases (R378). -/
structure NextLoad where
  epoch : Nat := 0
  slot : Nat := 0
  loads : Nat := 0
  erased : List Nat := []
  deriving DecidableEq, Repr, Inhabited

/-- RCPT_CONFIGURE (R381). -/
structure RcptCfg where
  enable : Bool := false
  udpPort : Nat := 40123
  slot : Nat := 0
  /-- RCPT_CONFIGURE commands so far: a commit copies the key when it changes. -/
  loads : Nat := 0
  deriving DecidableEq, Repr, Inhabited

/-- A server key with its epoch; 0 is empty (R361). -/
structure NtsKey where
  epoch : Nat := 0
  key : Bytes := []
  deriving DecidableEq, Repr, Inhabited

/-- One NTP instance at run time (R361, R377). -/
structure NtpRun where
  previous : NtsKey := {}
  current : NtsKey := {}
  next : NtsKey := {}
  /-- ROTATE_AT of a pending rotation, 2⁻¹⁶ ns (R379). -/
  rotateAt : Option Nat := none
  plain : Nat := 0
  symmetric : Nat := 0
  nts : Nat := 0
  kodRate : Nat := 0
  ntsNak : Nat := 0
  cryptoNak : Nat := 0
  notServed : Nat := 0
  deriving DecidableEq, Repr, Inhabited

/-- One token bucket: tokens in units of 1/(16·10¹²), the instant of the last refill, the latest KoD (R364, R365). -/
structure Bucket where
  tokens : Nat := 0
  at_ : Nat := 0
  kodAt : Option Nat := none
  deriving DecidableEq, Repr, Inhabited

/-- One admitted receipt of a batch (R296, R367). -/
structure Receipt where
  /-- Bytes 0 to 75 of the response. -/
  head : Bytes := []
  port : Nat := 0
  prio : Nat := 0
  frame : Bytes := []
  tIn : Nat := 0
  bound : Nat := 0
  /-- The admitted request, and whether its job was discarded: the leaf stays, no response is sent (R303). -/
  request : Nat := 0
  dropped : Bool := false
  deriving DecidableEq, Repr, Inhabited

/-- A batch of receipts (R370): its id, the key it opened with, the ingress instant of its first leaf, its leaves in order. -/
structure Batch where
  id : Nat := 0
  seed : Bytes := []
  first : Nat := 0
  leaves : List Receipt := []
  deriving DecidableEq, Repr, Inhabited

/-- NTP, NTS and receipts (R350 to R382). -/
structure NtpPart where
  insts : List NtpRun := List.replicate 16 {}
  /-- Symmetric keys by instance and key identifier: instance·2³² + KEY_ID (R357). -/
  symKeys : List (Nat × Bytes) := []
  /-- The hash key of the rate table (R363). -/
  hashKey : Nat := 0
  /-- The buckets that have been charged, by number; every other one holds what `idle` holds (R364). -/
  buckets : List (Nat × Bucket) := []
  idle : Bucket := { tokens := 16 * (16 * 10 ^ 12) }
  rateDrops : Nat := 0
  malformed : Nat := 0
  /-- The hands in which RATE_LIMITED, NTS_NAK, AUTH_FAIL and MALFORMED were raised. -/
  rateHand : Option Nat := none
  nakHand : Option Nat := none
  authHand : Option Nat := none
  malHand : Option Nat := none
  /-- The receipt signing key copied at commit; empty for none (R371, R440). -/
  seed : Bytes := []
  open_ : Option Batch := none
  /-- Closed batches that await their signature (R296). -/
  closed : List Batch := []
  lastBatchId : Nat := 0
  lastBatchSize : Nat := 0
  lastRoot : Bytes := List.replicate 32 0#8
  batches : Nat := 0
  issued : Nat := 0
  rcptMalformed : Nat := 0
  noTime : Nat := 0
  noKey : Nat := 0
  boundCancels : Nat := 0
  /-- Receipts admitted and not yet launched (R296). -/
  pending : Nat := 0
  deriving DecidableEq, Repr, Inhabited

end Sys2Proof.Machine
end

