-- ==== Sys2Proof/Machine/PartsSvc.lean ====
section
/-! DEFINITION. The packet service: configuration and state (chapter 10). -/
namespace Sys2Proof.Machine
open Sys2Proof

/-- A service address entry (R285, R307). -/
structure SvcAddr where
  v6 : Bool := false
  vlan : Nat := 0
  /-- The address as a number: 32 bits for IPv4, 128 for IPv6. -/
  addr : Nat := 0
  deriving DecidableEq, Repr, Inhabited

/-- SVC_CONFIGURE (R307). -/
structure SvcCfg where
  resSpades : Nat := 2048
  resHearts : Nat := 2048
  resDiamonds : Nat := 8192
  resClubs : Nat := 4096
  resTx : Nat := 4096
  capDiamonds : Nat := 16384
  capClubs : Nat := 8192
  shedFree : Nat := 4096
  clubsRate : Nat := 0
  clubsBurst : Nat := 0
  mirrorClubs : Bool := false
  deriving DecidableEq, Repr, Inhabited

/-- SVC_ADMISSION (R308). -/
structure AdmCfg where
  engineMask : Nat := 0xFFFF
  spadesReserve : Nat := 400
  heartsReserve : Nat := 200
  targetPtp : Nat := 1600
  targetNtp : Nat := 1800
  targetNts : Nat := 3500
  rcptMax : Nat := 24576
  deriving DecidableEq, Repr, Inhabited

/-- Crypto lane types (R286). -/
inductive LaneType where
  | aes
  | hmac
  deriving DecidableEq, Repr, Inhabited

/-- What a scheduled or received job is about, beyond its frame. -/
inductive JobWork where
  /-- A received request or message. -/
  | frame
  /-- A scheduled multicast or unicast transmission: instance, binding port, messageType, grant or upstream index, and the
  scheduled instant as counter time in 2⁻¹⁶ ns with its sequenceId. -/
  | scheduled (inst port mtype : Nat) (grant : Option Nat) (instant seq : Nat)
  /-- A Signaling message of an instance to one address; the request's frame holds its TLVs. -/
  | signal (inst port mac ip : Nat) (tags : Bytes)
  deriving DecidableEq, Repr, Inhabited

/-- A request that waits for admission, or the request of a job. Instants are in ps; stamps in 2⁻¹⁶ ns. -/
structure Request where
  id : Nat := 0
  port : Nat := 0
  prio : Nat := 0
  suit : Suit := .spades
  kind : Kind := .ptpInput
  work : JobWork := .frame
  frame : Bytes := []
  tIn : Nat := 0
  tV : Nat := 0
  stamp : Nat := 0
  epoch : Nat := 0
  /-- The PTP or NTP instance. -/
  inst : Nat := 0
  /-- The Kiss-o'-Death to send: 0 none, 1 RATE, 2 NTSN. -/
  kiss : Nat := 0
  /-- Annex P: 0 none, 1 HMAC, 2 GMAC (R286). -/
  annexP : Nat := 0
  /-- The server keys in force at the admission decision (R362). -/
  keys : List NtsKey := []
  /-- The counter's bound at T_in, 2⁻⁸ ps, and the bound engine's mode there (R338). -/
  boundIn : Option Nat := none
  modeIn : Nat := 0
  /-- Bytes of the response with its FCS, 0 for none. -/
  respLen : Nat := 0
  cells : Nat := 0
  deriving DecidableEq, Repr, Inhabited

/-- A job on a thread (R288). -/
structure Job where
  req : Request := {}
  thread : Nat := 0
  /-- Compute in ps: in all, before the lane call, and done so far. -/
  c : Nat := 0
  before : Nat := 0
  done : Nat := 0
  /-- The lane: type, number, occupancy and latency in ps. -/
  lane : Option (LaneType × Nat × Nat × Nat) := none
  laneCalled : Bool := false
  /-- The lane completion as admission committed it, and as it is once the lane has been called. -/
  lanePred : Nat := 0
  laneDone : Nat := 0
  occEnd : Option Nat := none
  /-- L in ps, 0 for none, and the promise origin. -/
  launch : Nat := 0
  origin : Nat := 0
  respCells : Nat := 0
  deriving DecidableEq, Repr, Inhabited

/-- One thread (R288, R289): jobs by number. -/
structure Thread where
  /-- The running job with the start of its stretch of compute. -/
  running : Option (Nat × Nat) := none
  /-- A Spades or Hearts job that holds the thread on a lane. -/
  holding : Option Nat := none
  p : List Nat := []
  d : List Nat := []
  ready : List Nat := []
  released : List Nat := []
  /-- Admissions of the last 4,000 ns: instant, Suit, C in ps. -/
  used : List (Nat × Suit × Nat) := []
  deriving DecidableEq, Repr, Inhabited

/-- The sixteen counters of a Suit, in the order of R309. -/
abbrev SuitCounters := List Nat

/-- The packet service (R284 to R309). -/
structure SvcRun where
  /-- Faulty engines by bit (R303). -/
  faulty : Nat := 0
  waiting : List Request := []
  jobs : List (Nat × Job) := []
  nextId : Nat := 0
  threads : List Thread := List.replicate 64 {}
  /-- The instants at which the AES and the HMAC lanes are free. -/
  aesFree : List Nat := List.replicate 16 0
  hmacFree : List Nat := List.replicate 8 0
  /-- Cells by Suit and of host transmit frames (R298, R299). -/
  cells : List Nat := [0, 0, 0, 0]
  txCells : Nat := 0
  shedding : Bool := false
  /-- Since when the free cells have stayed at or above SHED_FREE + 1,024 (R300). -/
  freeSince : Option Nat := none
  /-- Clubs tokens in units of one frame-second/10¹², and when they were filled (R301). -/
  tokens : Nat := 0
  tokensAt : Nat := 0
  /-- The hand in which CLUBS_SHED was raised, and in which a request was refused. -/
  shedHand : Option Nat := none
  refusalHand : Option Nat := none
  maxTurn2 : Nat := 0
  maxTurn4 : Nat := 0
  counters : List SuitCounters := List.replicate 4 (List.replicate 16 0)
  deriving DecidableEq, Repr, Inhabited

end Sys2Proof.Machine
end

