-- ==== Sys2Proof/Machine/PartsTdc.lean ====
section
/-! DEFINITION. The time-interval and frequency measurement: configuration and state (chapter 08). -/
namespace Sys2Proof.Machine
open Sys2Proof

/-- TDC_CONFIGURE of one input (R244). -/
structure TdcCfg where
  enable : Bool := false
  edge : Nat := 0
  mode : Nat := 0
  refSel : Nat := 0
  gate : Nat := 3
  basis : Nat := 0
  glitchNs : Nat := 0
  freqNum : Nat := 0
  freqDen : Nat := 0
  compensation : Int := 0
  deriving DecidableEq, Repr, Inhabited

/-- One input (R227, R238). -/
structure TdcInput where
  calOk : Bool := true
  /-- The instant of the previous stamped edge. -/
  lastPs : Option Nat := none
  /-- The measured skew of the input's path, 2⁻¹⁶ ns, which every later stamp is corrected by (R239). -/
  skew : Int := 0
  deriving DecidableEq, Repr, Inhabited

/-- A stamped edge: stamp, step epoch, and whether its input had lost calibration (R227, R238). -/
structure TdcStamp where
  stamp : Int := 0
  epoch : Nat := 0
  uncal : Bool := false
  deriving DecidableEq, Repr, Inhabited

/-- A block of results (R233, R234). -/
structure TdcBlock where
  count : Nat := 0
  sum : Int := 0
  square : Nat := 0
  min : Int := 0
  max : Int := 0
  lastStamp : Int := 0
  uncal : Bool := false
  /-- The mode that a completed block was taken in (R235, R247). -/
  mode : Nat := 0
  deriving DecidableEq, Repr, Inhabited

/-- One raw result (R236, R246). -/
structure TdcRaw where
  value : Int
  stamp : Int
  uncal : Bool
  deriving DecidableEq, Repr, Inhabited

/-- Whether a stop channel measures (R233, R247). -/
inductive TdcState where
  | disarmed
  | waiting
  | armed
  deriving DecidableEq, Repr, Inhabited

/-- One stop channel (R229 to R237, R241). -/
structure TdcChan where
  state : TdcState := .disarmed
  aborted : Bool := false
  n : Nat := 0
  continuous : Bool := false
  raw : Bool := false
  startAt : Nat := 0
  /-- The arming instant, 2⁻¹⁶ ns. -/
  armedFrom : Int := 0
  /-- Starts of the last second, oldest first, and stops that wait for their next start. -/
  starts : List TdcStamp := []
  stops : List TdcStamp := []
  /-- The instant of the previous accepted internal edge (R228). -/
  internalPs : Option Nat := none
  block : TdcBlock := {}
  last : Option TdcBlock := none
  blockCount : Nat := 0
  buffer : List TdcRaw := []
  dropped : Nat := 0
  rawFull : Bool := false
  orphans : Nat := 0
  stepDiscards : Nat := 0
  overruns : Nat := 0
  /-- FREQUENCY mode: the gate in progress by its start and end in the basis, 2⁻¹⁶ ns, its step epoch, and its edges as
  (index, stamp), newest first (R237). -/
  gateStart : Nat := 0
  gateEnd : Nat := 0
  gateEpoch : Nat := 0
  edges : List (Nat × Int) := []
  gateUncal : Bool := false
  /-- Edges that already belong to the next gate (R237). -/
  late : List (Nat × Int) := []
  lateUncal : Bool := false
  /-- The output whose comparison owns the channel (R241). -/
  owner : Option Nat := none
  deriving DecidableEq, Repr, Inhabited

/-- The TDC (R227 to R247). -/
structure TdcRun where
  inputs : List TdcInput := List.replicate 9 {}
  chans : List TdcChan := List.replicate 8 {}
  calibrating : Bool := false
  /-- Skew calibration has run. -/
  calibrated : Bool := false
  deriving DecidableEq, Repr, Inhabited

end Sys2Proof.Machine
end

