-- ==== Sys2Proof/Machine/State.lean ====
section
/-! DEFINITION. The state of the block: everything the spec gives it, as plain data, and its value after reset. -/
namespace Sys2Proof.Machine
open Sys2Proof

/-- MAC_BASE of the fuses. DESIGN CHOICE: a value of the part, which the spec leaves to each chip. -/
def fuseMacBase : Nat := 0x020000000000

/-- The configuration set: one copy is the shadow set, one the working set (R21, R522). -/
structure Cfg where
  refs : List RefCfg := List.replicate 98 {}
  pols : List RefPol := List.replicate 98 {}
  sels : List SelCfg := List.replicate 4 {}
  dplls : List DpllCfg := ({} : DpllCfg) :: List.replicate 3 { bw := 10000000, slewLimit := 0, returnSlew := 0, holdoverSpec := 0, cat1 := 0, cat2 := 0 }
  hold : HoldCfg := {}
  meld : MeldCfg := {}
  meldSlots : List MeldSlotCfg :=
    { ensemble := true, witness := true, q1 := 7922817, q2 := 102084710076282, y0 := 1844674407371, d0 := 792281625142644 } ::
      List.replicate 7 {}
  bound : BoundCfg := {}
  boundSrc : List BoundSrcCfg :=
    List.replicate 29 ({} : BoundSrcCfg) ++ List.replicate 64 ({ halfPath := true } : BoundSrcCfg) ++ List.replicate 5 ({} : BoundSrcCfg)
  rings : List RingCfg := List.replicate 256 {}
  pair : PairCfg := {}
  gnss : GnssCfg := {}
  outs : List OutCfg := List.replicate 16 {}
  tod : TodCfg := {}
  tdc : List TdcCfg := List.replicate 9 {}
  /-- MAC_ADDR is reset from fuses: MAC_BASE + n (R279). -/
  ports : List PortCfg := (List.range 16).map fun n => { mac := fuseMacBase + n }
  flows : List FlowCfg := List.replicate 16 {}
  synces : List SynceCfg := List.replicate 16 {}
  windows : List WinCfg := List.replicate 16 {}
  svc : SvcCfg := {}
  svcAddrs : List (List SvcAddr) := List.replicate 16 []
  adm : AdmCfg := {}
  /-- Instances that exist, by number (R310). -/
  ptp : List (Nat × PtpCfg) := []
  /-- Instances whose deletion awaits the commit, with SEND_CANCEL (R344). -/
  ptpGone : List (Nat × Bool) := []
  binds : List BindCfg := []
  sas : List (Nat × SaCfg) := []
  ntp : List NtpCfg := ({ enable := true } : NtpCfg) :: List.replicate 15 {}
  rate : RateCfg := {}
  ntsNext : List NextLoad := List.replicate 16 {}
  symKeys : List (Nat × KeyLoad) := []
  rcpt : RcptCfg := {}
  aud : List AudCfg := List.replicate 4 {}
  /-- Membership masks of the audio groups (R483). -/
  audGroups : List Nat := [0, 0, 0, 0]
  rec_ : RecCfg := {}
  filters : List FilterCfg := List.replicate 32 {}
  deriving DecidableEq, Repr, Inhabited

/-- The hand cycle (R27, R28, R398). -/
structure HandPart where
  /-- HAND, the hand number, modulo 2³². -/
  number : Nat := 0
  /-- The tick of the latest hand boundary. -/
  lastTick : Option Nat := none
  deriving DecidableEq, Repr, Inhabited

/-- Why the machine stops with a fault. -/
inductive Fault where
  /-- RESET_N low for 60 ns or more and less than 150 ns: R554 forbids the pulse and R3 leaves what follows undefined. Raised by RESET_N_ASSERT. Safe. -/
  | resetPulseUnspecified
  deriving DecidableEq, Repr

/-- Why a row has no meaning. -/
inductive Refusal where
  /-- The row is not modelled: raised by the arms of `exec` that have no meaning. Safe. -/
  | notModelled (mnemonic : String)
  deriving DecidableEq, Repr

/-- The state of the block. -/
structure State where
  /-- The commands that wait, first in, first out. -/
  pending : List Instr := []
  /-- The model's clock in picoseconds of nominal TCLK. -/
  now : Nat := 0
  /-- What the latest command put out. The model's own field. -/
  out : List Output := []
  /-- How many free values have been used. The model's own field. -/
  free : Nat := 0
  time : TimePart := {}
  /-- The sum of the counter's increments since reset, 2⁻⁴⁸ ns (R112). -/
  incSum : Nat := 0
  host : HostPart := {}
  boot : BootPart := {}
  root : RootPart := {}
  refs : List RefRun := List.replicate 98 {}
  sels : List SelRun := List.replicate 4 {}
  dplls : List DpllRun := List.replicate 4 {}
  hold : HoldRun := {}
  meld : MeldRun := {}
  /-- The Meld as it was before its latest completed update (R128, R162). -/
  meldBefore : MeldRun := {}
  bound : BoundRun := {}
  pair : PairRun := {}
  gnss : GnssRun := {}
  outs : List OutRun := List.replicate 16 {}
  tdc : TdcRun := {}
  ports : List PortRun := List.replicate 16 {}
  svc : SvcRun := {}
  ptp : PtpPart := {}
  ntp : NtpPart := {}
  kitty : KittyPart := {}
  fuse : FusePart := {}
  attest : AttestPart := {}
  aud : AudPart := {}
  score : ScorePart := {}
  flash : FlashPart := {}
  hand : HandPart := {}
  /-- Performance counters by number; an unlisted counter is 0 (R541). -/
  perf : List (Nat × Nat) := []
  shadow : Cfg := {}
  work : Cfg := {}
  deriving DecidableEq, Repr, Inhabited

/-- The machine right after device reset, before the straps are sampled. -/
def State.reset : State := {}

end Sys2Proof.Machine
end

