-- ==== Sys2Proof/Decode.lean ====
section
/-! DEFINITION. Words of the table of operations: no row of the table gives its command any bits, so no word spells a command. -/
namespace Sys2Proof

/-- The command that a word of `nbits` bits spells by the table's bits: none, because the table gives no row bits. A command of
this block is a packet, an event or a register access, not a word. -/
def decodeTableWord (_nbits _w : Nat) : Option Instr := none

end Sys2Proof
end

