-- ==== Sys2Proof/Config.lean ====
section
/-! DEFINITION. What the spec leaves open: constants without a body, which no proof can see into. -/
namespace Sys2Proof.Config
open Sys2Proof Sys2Proof.Machine

/-- A value that the spec leaves open, fresh for each use: the argument is the state's count of such uses. -/
opaque freeNat : Nat → Nat

/-- The keyed hash of the rate table (R363), from the hash key and a source address: the function is not given. -/
opaque keyedHash : Nat → Nat → Nat

/-- The SHA-256 digest of snapshot items that LOCKSTEP compares (R408): the encoding of the items is not given. -/
opaque snapDigest : Snapshot → Bytes

/-- SHA-384 of the boot ROM image (R437): the image is not given. -/
opaque romDigest : List (BitVec 8)

/-- The encoding of the working configuration set that CONFIG_DIGEST hashes (R438): it is not published. -/
opaque configEncoding : Cfg → List (BitVec 8)

/-- The version that an image reports when it starts, from its ID, 0 for the boot ROM, and its bytes (R521): Gelrov's choice. -/
opaque versionOf : Nat → List (BitVec 8) → Nat

/-- What MR5 is extended with, before its digest, from the straps, the life-cycle state and the configuration image (R437): the
encoding is not given. -/
opaque bootText : Nat → Nat → List (BitVec 8) → List (BitVec 8)

/-- What IS-GPS-200, which the spec names and does not print, makes of an almanac's or ephemeris's words at a position in mm and a GPS
second: the elevation in degrees and the Doppler shift in Hz of its satellite (R174). -/
opaque satView : List (BitVec 8) → Int × Int × Int → Nat → Int × Int

/-- The uncertainty that the counter's frequency adds to the search for a carrier, in Hz, at an instant (R174): no value is stated. -/
opaque freqUncertainty : Nat → Nat

/-- The ionospheric model of IS-GPS-200, which the spec names and does not print: the delay in ps, from the words of the parameters, a
position in mm, elevation and azimuth in degrees, and a GPS second (R178). -/
opaque ionoDelay : List (BitVec 8) → Int × Int × Int → Nat → Nat → Nat → Nat

/-- The Saastamoinen zenith delay for a standard atmosphere, which the spec names and does not print: ps, from a position in mm (R178). -/
opaque zenithDelay : Int × Int × Int → Nat

/-- The tropospheric delay at elevation 0, where 1/sin(elevation) has no value: ps, from a position in mm (R178). -/
opaque horizonDelay : Int × Int × Int → Nat

/-- The weight of a satellite in the four-state solution, from its elevation and C/N0: none is stated (R183). -/
opaque satWeight : Nat → Nat → Nat

/-- The mean of no positions and its uncertainty, from the elapsed seconds of the survey: neither is stated (R181). -/
opaque emptySurvey : Nat → (Int × Int × Int) × Nat

end Sys2Proof.Config
end

