-- ==== Sys2Proof/Machine/Bytes.lean ====
section
/-! DEFINITION. Byte order, bit fields, signed fields, list update, rounding: the helpers the meanings share. -/
namespace Sys2Proof.Machine
open Sys2Proof

/-- `n` bytes of `w`, least significant byte first (R4). -/
def leBytes : Nat → Nat → Bytes
  | 0, _ => []
  | n + 1, w => BitVec.ofNat 8 w :: leBytes n (w / 256)

/-- `n` bytes of `w`, most significant byte first (network order). -/
def beBytes (n w : Nat) : Bytes := (leBytes n w).reverse

/-- The number that bytes spell, least significant byte first. -/
def fromLE : Bytes → Nat
  | [] => 0
  | b :: bs => b.toNat + 256 * fromLE bs

/-- The number that bytes spell, most significant byte first. -/
def fromBE (bs : Bytes) : Nat := fromLE bs.reverse

/-- `n` zero bytes. -/
def zeros (n : Nat) : Bytes := List.replicate n 0#8

/-- `len` bytes of `bs` from offset `off`; a byte beyond the end reads 0. -/
def slice (bs : Bytes) (off len : Nat) : Bytes :=
  (((bs.drop off).take len) ++ zeros len).take len

/-- The unsigned little-endian field of `size` bytes at `off`. -/
def fld (bs : Bytes) (off size : Nat) : Nat := fromLE (slice bs off size)

/-- The unsigned network-order field of `size` bytes at `off`. -/
def fldBE (bs : Bytes) (off size : Nat) : Nat := fromBE (slice bs off size)

/-- The two's-complement value of the low `bits` bits of `w`. -/
def toSigned (bits w : Nat) : Int :=
  if 2 * (w % 2 ^ bits) < 2 ^ bits then (w % 2 ^ bits : Nat) else (w % 2 ^ bits : Nat) - (2 ^ bits : Nat)

/-- The low `bits` bits of the two's-complement form of `v`. -/
def ofSigned (bits : Nat) (v : Int) : Nat := (v % (2 ^ bits : Nat)).toNat

/-- The signed little-endian field of `size` bytes at `off`. -/
def fldI (bs : Bytes) (off size : Nat) : Int := toSigned (8 * size) (fld bs off size)

/-- A signed field of `n` bytes, least significant byte first. -/
def leInt (n : Nat) (v : Int) : Bytes := leBytes n (ofSigned (8 * n) v)

/-- Bit `k` of a number. -/
def bit (w k : Nat) : Bool := w.testBit k

/-- 1 or 0. -/
def b2n (b : Bool) : Nat := if b then 1 else 0

/-- Bits packed into a number, bit 0 first. -/
def packBits : List Bool → Nat
  | [] => 0
  | b :: bs => b2n b + 2 * packBits bs

/-- The positions below `n` at which `w` has a 1. -/
def onesBelow (n w : Nat) : List Nat := (List.range n).filter (fun k => bit w k)

/-- `w` with bit `k` set. -/
def setBit (w k : Nat) : Nat := if bit w k then w else w + 2 ^ k

/-- `w` with bit `k` clear. -/
def clrBit (w k : Nat) : Nat := if bit w k then w - 2 ^ k else w

/-- Apply `f` to entry `i` of a list. -/
def upd {α : Type} (l : List α) (i : Nat) (f : α → α) : List α := l.modify i f

/-- Entry `i` of a list, or the type's default entry. -/
def nth {α : Type} [Inhabited α] (l : List α) (i : Nat) : α := l.getD i default

/-- Insert by a strict order, after the entries that are not above. -/
def insertBy {α : Type} (lt : α → α → Bool) (x : α) : List α → List α
  | [] => [x]
  | y :: ys => if lt x y then x :: y :: ys else y :: insertBy lt x ys

/-- A list sorted by a strict order, equal entries in their given order. -/
def sortBy {α : Type} (lt : α → α → Bool) (l : List α) : List α :=
  l.foldl (fun acc x => insertBy lt x acc) []

/-- Set the value of a key in a list of pairs with rising keys. -/
def putKey {β : Type} (k : Nat) (v : β) : List (Nat × β) → List (Nat × β)
  | [] => [(k, v)]
  | (k', v') :: r => if k < k' then (k, v) :: (k', v') :: r
                     else if k = k' then (k, v) :: r else (k', v') :: putKey k v r

/-- Remove a key from a list of pairs. -/
def delKey {β : Type} (k : Nat) (l : List (Nat × β)) : List (Nat × β) := l.filter (fun p => p.1 != k)

/-- The value of a key in a list of pairs. -/
def getKey {β : Type} (k : Nat) : List (Nat × β) → Option β
  | [] => none
  | (k', v) :: r => if k = k' then some v else getKey k r

/-- The keys of a list of pairs rise strictly. -/
def risingKeys {β : Type} : List (Nat × β) → Bool
  | [] => true
  | [_] => true
  | a :: b :: r => decide (a.1 < b.1) && risingKeys (b :: r)

/-- Quotient rounded up. -/
def ceilDiv (a b : Nat) : Nat := (a + b - 1) / b

/-- Quotient rounded to the nearest, an exact half away from zero (R596). -/
def roundDiv (a b : Nat) : Nat := (2 * a + b) / (2 * b)

/-- Signed quotient rounded to the nearest, an exact half away from zero (R596). -/
def roundDivI (a : Int) (b : Nat) : Int :=
  if a < 0 then - (roundDiv a.natAbs b : Nat) else (roundDiv a.natAbs b : Nat)

/-- Signed quotient truncated toward zero. -/
def truncDivI (a : Int) (b : Nat) : Int :=
  if a < 0 then - ((a.natAbs / b : Nat) : Int) else ((a.natAbs / b : Nat) : Int)

/-- Bisection for the integer square root: at most `fuel` halvings between `lo` and `hi`. -/
def isqrtGo : Nat → Nat → Nat → Nat → Nat
  | 0, _, lo, _ => lo
  | fuel + 1, n, lo, hi =>
    if hi ≤ lo + 1 then lo
    else
      let m := (lo + hi) / 2
      if m * m ≤ n then isqrtGo fuel n m hi else isqrtGo fuel n lo m

/-- The integer square root, rounded down. -/
def isqrt (n : Nat) : Nat := isqrtGo (n.log2 / 2 + 3) n 0 (2 ^ (n.log2 / 2 + 1))

/-- The integer square root, rounded up. -/
def isqrtUp (n : Nat) : Nat :=
  let r := isqrt n
  if r * r = n then r else r + 1

/-- A signed value held between two ends. -/
def clampI (lo hi v : Int) : Int := if v < lo then lo else if hi < v then hi else v

end Sys2Proof.Machine
end

