-- ==== Sys2Proof/Machine/Flags.lean ====
section
/-! DEFINITION. The interrupt flags: the causes with their summaries, the summary, the raw view, the condition and INT_N (R513 to R517). -/
namespace Sys2Proof.Machine
open Sys2Proof

/-- IRQ_CAUSE_n with the summary bits of class 0 (R517). -/
def causeWord (h : HostPart) (n : Nat) : Word :=
  let base := h.cause.getD n 0
  if n = 0 then
    let act := fun k => (h.second.getD k 0) &&& (h.secondEn.getD k 0) != 0#32
    base ||| BitVec.ofNat 32 (packBits
      [act 0 || act 1 || act 2, act 3 || act 4 || act 5, act 6, act 7])
  else base

/-- IRQ_SUMMARY (R513). -/
def irqSummary (h : HostPart) : Nat :=
  packBits ((List.range 16).map fun n => causeWord h n &&& (h.enable.getD n 0) != 0#32)

/-- IRQ_RAW (R513). -/
def irqRaw (h : HostPart) : Nat := packBits ((List.range 16).map fun n => causeWord h n != 0#32)

/-- The interrupt condition (R513). -/
def irqCond (h : HostPart) : Bool := irqSummary h != 0

/-- INT_N is driven low (R514, R201). -/
def intNLow (s : State) : Bool := s.root.lost || (irqCond s.host && s.host.pinEn && !s.boot.inReset)

end Sys2Proof.Machine
end

