-- ==== Sys2Proof/Machine/Sources.lean ====
section
/-! DEFINITION. Source identifiers and ordinals (R70). -/
namespace Sys2Proof.Machine
open Sys2Proof

/-- The ordinal of a SOURCE_ID. -/
def ordOf (id : Nat) : Option Nat :=
  let ty := id / 256
  let ix := id % 256
  if ty = 1 ∧ ix < 12 then some ix
  else if ty = 2 ∧ ix < 16 then some (12 + ix)
  else if ty = 3 ∧ ix = 0 then some 28
  else if ty = 4 ∧ ix < 64 then some (29 + ix)
  else if ty = 5 ∧ ix = 0 then some 93
  else if ty = 6 ∧ ix < 4 then some (94 + ix)
  else none

/-- The SOURCE_ID of an ordinal. -/
def idOf (o : Nat) : Nat :=
  if o < 12 then 0x100 + o
  else if o < 28 then 0x200 + (o - 12)
  else if o = 28 then 0x300
  else if o < 93 then 0x400 + (o - 29)
  else if o = 93 then 0x500
  else 0x600 + (o - 94)

/-- The type of a source by ordinal. -/
inductive SrcKind where
  | refin
  | synce
  | gnss
  | ptp
  | partner
  | ap
  deriving DecidableEq, Repr

def kindOf (o : Nat) : SrcKind :=
  if o < 12 then .refin else if o < 28 then .synce else if o = 28 then .gnss
  else if o < 93 then .ptp else if o = 93 then .partner else .ap

end Sys2Proof.Machine
end

