-- ==== Sys2Proof/Machine/Ops.lean ====
section
/-! DEFINITION. The named operations over the state: the clock, stamps, interrupt causes, rings and outputs. -/
namespace Sys2Proof.Machine
open Sys2Proof

/-! ### Time values -/

/-- Picoseconds of a TCLK tick at the nominal 625 MHz. -/
def tickPs : Nat := 1600

/-- Picoseconds in a millisecond, a second. -/
def msPs : Nat := 1000000000
def secPs : Nat := 1000000000000

/-- Units of 2⁻¹⁶ ns in a second. -/
def tsSec : Nat := 65536000000000

/-- A counter value as one number in 2⁻⁴⁸ ns (R32). -/
def Counter.total (c : Counter) : Nat := (c.sec * 1000000000 + c.ns) * 2 ^ 48 + c.frac

/-- The counter of a number in 2⁻⁴⁸ ns; SECONDS keeps 48 bits (R32, R33). -/
def counterOf (t : Nat) : Counter :=
  { sec := (t / 2 ^ 48 / 1000000000) % 2 ^ 48, ns := (t / 2 ^ 48) % 1000000000, frac := t % 2 ^ 48 }

/-- A time in 2⁻¹⁶ ns from the 12 bytes of a Timestamp96 taken as one number (R10). -/
def tsOfField (v : Nat) : Nat := ((v / 2 ^ 48) * 1000000000 + v / 65536 % 2 ^ 32) * 65536 + v % 65536

/-- NANOSECONDS of a Timestamp96 field is in range (R10). -/
def tsFieldOk (v : Nat) : Bool := decide (v / 65536 % 2 ^ 32 ≤ 999999999)

/-- The 12 bytes of a time in 2⁻¹⁶ ns (R10). -/
def tsBytes (t : Nat) : Bytes :=
  leBytes 2 (t % 65536) ++ leBytes 4 (t / 65536 % 1000000000) ++ leBytes 6 (t / tsSec)

/-- The unbounded value of a bound in ps (R14). -/
def unboundedPs : Nat := 0xFFFFFFFFFF

/-- A bound in 2⁻⁸ ps as the value reported in ps: rounded up, unbounded at or above the last value (R14, R15, R159). -/
def boundPs (b : Option Nat) : Nat :=
  match b with
  | none => unboundedPs
  | some v => min (ceilDiv v 256) unboundedPs

/-- The 8 bytes of a bound in ps (R16). -/
def boundBytes (b : Option Nat) : Bytes := leBytes 8 (boundPs b)

/-- A bound field in ps as 2⁻⁸ ps; the unbounded value is none. -/
def boundOfPs (v : Nat) : Option Nat := if v ≥ unboundedPs then none else some (v * 256)

/-- The magnitude of an offset in 2⁻¹⁶ ns as a bound in 2⁻⁸ ps, rounded up (R159). -/
def offBound (o : Int) : Nat := ceilDiv (o.natAbs * 256000) 65536

/-- An offset held to the range of R11, and whether it had to be (R12). -/
def satOffset (o : Int) : Int := clampI (-(2 ^ 63 : Nat)) ((2 ^ 63 - 1 : Nat)) o

/-- The seconds of a timer code (R85). -/
def timerSec (c : Nat) : Nat :=
  ([0, 1, 2, 5, 10, 20, 30, 60, 120, 300, 600, 720, 900, 1800, 3600] : List Nat).getD c 0

/-! ### The clock -/

/-- The root-derived clocks run (R19, R201, R555). -/
def running (s : State) : Bool := s.root.locked && !s.root.lost && !s.boot.inReset && s.boot.powerGood

/-- How much of the slew `n` ticks add, without sign (R46). -/
def slewPart (t : TimePart) (n : Nat) : Nat :=
  if t.slewing then
    if t.slewInc = 0 then t.slewRem.natAbs
    else if n ≤ t.slewRem.natAbs / t.slewInc then n * t.slewInc else t.slewRem.natAbs
  else 0

/-- A magnitude with the sign of another value. -/
def withSign (sg : Int) (m : Nat) : Int := if sg < 0 then -(m : Int) else (m : Int)

/-- The counter, the slew and the frequency domains after `n` more ticks (R33, R39, R46). -/
def tickTime (n : Nat) (t : TimePart) : TimePart :=
  let a := withSign t.slewRem (slewPart t n)
  { t with
    counter := counterOf ((t.counter.total : Int) + (n * t.rate : Nat) + a).toNat
    slewRem := t.slewRem - a
    fdomAcc := List.zipWith (fun acc r => acc + n * r) t.fdomAcc t.fdomRate }

/-- How far back the course of the counter is kept: longer than a frame lasts on a line, and than a block of the baseband's samples. -/
def coursePs : Nat := 2000000000

/-- The stretch of the counter's course that begins at an instant. -/
def stretchAt (ps : Nat) (t : TimePart) : Stretch :=
  { ps := ps, total := t.counter.total, rate := t.rate, slewing := t.slewing, slewRem := t.slewRem, slewInc := t.slewInc, epoch := t.stepEpoch }

/-- A stretch goes on: no change of rate or epoch, and no slew at either end. -/
def sameStretch (e : Stretch) (t : TimePart) : Bool :=
  e.rate == t.rate && e.epoch == t.stepEpoch && !e.slewing && !t.slewing

/-- The course of the counter as time leaves an instant: a change of rate, slew or epoch begins a new stretch (R22, R38). -/
def courseOn (ps : Nat) (t : TimePart) : List Stretch :=
  match t.course with
  | [] => [stretchAt ps t]
  | e :: es =>
    if sameStretch e t then e :: es
    else
      let late := fun (e : Stretch) => decide (e.ps + coursePs > ps)
      stretchAt ps t :: (e :: es).takeWhile late ++ ((e :: es).dropWhile late).take 1

/-- The model's clock moves to the instant `ps` when that is later, and the time scale with it (R33). -/
def moveTo (ps : Nat) (s : State) : State :=
  if ps ≤ s.now then s
  else if running s then
    let n := ps / tickPs - s.now / tickPs
    { s with
      now := ps
      time := tickTime n { s.time with course := courseOn s.now s.time }
      score := { s.score with opPs := s.score.opPs + (ps - s.now) }
      incSum := ((s.incSum : Int) + (n * s.time.rate : Nat) + withSign s.time.slewRem (slewPart s.time n)).toNat }
  else { s with now := ps }

/-- What a block on a root-derived clock does: nothing while the root is out of lock (R19). -/
def whileRunning (f : State → State) (s : State) : State := if running s then f s else s

/-- The INC that the next tick adds (R33). -/
def nextInc (t : TimePart) : Nat := ((t.rate : Int) + withSign t.slewRem (slewPart t 1)).toNat

/-- The counter at the latest tick, in 2⁻¹⁶ ns (R32). -/
def curTs (s : State) : Nat := s.time.counter.total / 2 ^ 32

/-- The stamp of an event at the present instant, between two ticks (R38). -/
def stampNow (s : State) : Nat :=
  (s.time.counter.total + s.now % tickPs * nextInc s.time / tickPs) / 2 ^ 32

/-- The stamp of an instant of a stretch, and its epoch (R38). -/
def stretchStamp (e : Stretch) (ps : Nat) : Nat × Nat :=
  let t := tickTime (ps / tickPs - e.ps / tickPs)
    { counter := counterOf e.total, rate := e.rate, slewing := e.slewing, slewRem := e.slewRem, slewInc := e.slewInc }
  ((t.counter.total + ps % tickPs * nextInc t / tickPs) / 2 ^ 32, e.epoch)

/-- The counter in 2⁻¹⁶ ns and the step epoch at an instant not later than now, by the course of the counter (R22, R23, R38, R49). -/
def pastStamp (s : State) (ps : Nat) : Nat × Nat :=
  match (if ps < s.now then s.time.course.find? (fun e => decide (e.ps ≤ ps)) else none) with
  | some e => stretchStamp e ps
  | none =>
  let back := (s.now - ps) * nextInc s.time / tickPs
  let v : Int := ((s.time.counter.total + s.now % tickPs * nextInc s.time / tickPs : Nat) : Int) - back
  let stepped := match s.time.lastStepTick with | some k => decide (ps / tickPs < k) | none => false
  if stepped then ((v / (2 ^ 32 : Nat) - s.time.lastStep).toNat, (s.time.stepEpoch + 2 ^ 32 - 1) % 2 ^ 32)
  else ((v / (2 ^ 32 : Nat)).toNat, s.time.stepEpoch)

/-- Raw time at an instant, 2⁻¹⁶ ns (R138). -/
def rawTs (ps : Nat) : Nat := ps * 65536 / 1000

/-- FREQ of a rate word (R36). -/
def freqOfRate (r : Nat) : Int := (r : Int) * 40960 - (2 ^ 64 : Nat)

/-- The rate word of a FREQ value, to the nearest unit (R36). -/
def rateOfFreq (f : Int) : Int := roundDivI (f + (2 ^ 64 : Nat)) 40960

/-- The nominal rate word and the ends of its range (R35, R37). -/
def rateNom : Nat := 450359962737050
def rateMin : Nat := 450314926740776
def rateMax : Nat := 450404998733324

/-- Output. -/
def emit (o : Output) (s : State) : State := { s with out := s.out ++ [o] }

/-- The Declarer's partner is in LOCKSTEP and gets its inputs (R408). -/
def forwardsInputs (s : State) : Bool :=
  s.work.pair.mode == 1 && s.pair.enable && s.pair.sync == .paired && s.pair.partner.sync == 5

/-- An input of the Declarer's state outside the timing loops goes to a partner in LOCKSTEP (R408). -/
def forward (x : LockInput) (s : State) : State := if forwardsInputs s then emit (.lockInput s.now x) s else s

/-- A fresh free value (a value the spec leaves open). -/
def freeVal (s : State) : Nat := Config.freeNat s.free
def useFree (s : State) : State := { s with free := s.free + 1 }

/-- The slots as they stood before the writes and erases of this tick: what a commit copies and an image holds (R452). -/
def slotsThen (s : State) : List (Nat × KittySlot) :=
  match s.kitty.before with
  | some (at_, l) => if at_ = s.now then l else s.kitty.slots
  | none => s.kitty.slots

/-! ### Counters and interrupt causes -/

/-- Add to a performance counter, modulo 2⁴⁸ (R541). -/
def bumpBy (n k : Nat) (s : State) : State :=
  { s with perf := putKey n (((getKey n s.perf).getD 0 + k) % 2 ^ 48) s.perf }

/-- Count one event (R541). -/
def bump (n : Nat) (s : State) : State := bumpBy n 1 s

/-- A 48-bit counter of a record counts `k` more. -/
def add48 (v k : Nat) : Nat := (v + k) % 2 ^ 48

/-- Send the MSI-X message, or hold it while masked (R515). -/
def msixSend (s : State) : State :=
  if s.host.msixEn then
    if s.host.vecMask || s.host.funcMask then { s with host := { s.host with msixPend := true } }
    else bump 39 (emit .msix s)
  else s

/-- After a change of causes or enables: the message goes when the condition has become true (R515). -/
def irqEdge (before : Bool) (s : State) : State :=
  if irqCond s.host && !before then msixSend s else s

/-- Rings of one kind (R503). -/
def isRx (r : Nat) : Bool := decide (r < 96)
def isTx (r : Nat) : Bool := decide (96 ≤ r ∧ r < 192)
def isCmd (r : Nat) : Bool := decide (192 ≤ r ∧ r < 224)
def isEvt (r : Nat) : Bool := decide (224 ≤ r ∧ r < 256)

def ringOf (s : State) (r : Nat) : Ring := nth s.host.rings r

/-- RING_DB as it stood before the writes of this tick: what a reservation on the tick uses (R520). -/
def dbThen (s : State) (g : Ring) : Nat :=
  match g.dbBefore with
  | some (t, v) => if t = s.now / tickPs then v else g.db
  | none => g.db

def updRing (r : Nat) (f : Ring → Ring) (s : State) : State :=
  { s with host := { s.host with rings := upd s.host.rings r f } }

/-- Hardware sets a cause bit on this tick (R7). -/
def noteCause (key : Nat) (s : State) : State :=
  let tick := s.now / tickPs
  { s with host := { s.host with setTick := tick, setBits := if s.host.setTick = tick then key :: s.host.setBits else [key] } }

/-- Set bit `i` of second-level word `k` (R518). -/
def setSecond (k i : Nat) (s : State) : State :=
  let s := noteCause (512 + 32 * k + i) s
  let before := irqCond s.host
  irqEdge before { s with host := { s.host with second := upd s.host.second k (· ||| BitVec.ofNat 32 (2 ^ i)) } }

/-- The second-level word and bit of a ring (R518). -/
def secondOf (r : Nat) : Nat × Nat :=
  if r < 192 then (r / 32, r % 32) else if r < 224 then (6, r - 192) else (7, r - 224)

/-- An event of a ring: its second-level bit is set at once, or after the holdoff (R518). -/
def ringEvent (r : Nat) (s : State) : State :=
  let (k, i) := secondOf r
  if (s.host.second.getD k 0).getLsbD i then (if (ringOf s r).holdoff = 0 then noteCause (512 + 32 * k + i) s else s)
  else if (ringOf s r).holdoff = 0 then setSecond k i s
  else if (ringOf s r).holdUntil.isSome then s
  else updRing r (fun g => { g with holdUntil := some (s.now + g.holdoff * 1000000) }) s

/-- Event-ring entries become due on every enabled event ring that reports the class (R506). -/
def eventDue (e : EventDue) (s : State) : State :=
  (List.range 32).foldl (fun s k =>
    let c := nth s.work.rings (224 + k)
    if (ringOf s (224 + k)).enable && c.use == 2 && bit c.classMask e.cls then
      updRing (224 + k) (fun g => { g with due := g.due ++ [e] }) s
    else s) s

/-- INDEX of an event entry: of classes 3, 8, 10 and 14 the one whose event set the bit (R506). -/
def eventIndex (c idx : Nat) : Nat := if c = 3 ∨ c = 8 ∨ c = 10 ∨ c = 14 then idx else 0

/-- A condition sets bit `b` of IRQ_CAUSE_c; `idx` is the event entry's INDEX (R506, R513, R541). -/
def setCause (c b idx : Nat) (s : State) : State :=
  let s1 := noteCause (32 * c + b) (bump (64 * c + b) s)
  if (s.host.cause.getD c 0).getLsbD b then s1
  else
    let before := irqCond s.host
    let s2 := { s1 with host := { s1.host with cause := upd s1.host.cause c (· ||| BitVec.ofNat 32 (2 ^ b)) } }
    irqEdge before (eventDue { cls := c, bitNo := b, time := curTs s, epoch := s.time.stepEpoch, index := eventIndex c idx } s2)

/-! ### The pair's role -/

/-- In pair mode, a chip whose shared-output enable is false is the Dummy (R386). -/
def isDummy (s : State) : Bool := s.work.pair.mode == 1 && !s.pair.enable

/-- Service is closed: on a Dummy, and before the enable has first risen (R304, R567). -/
def svcClosed (s : State) : Bool := isDummy s || !s.pair.opened

/-! ### The Scorecard's accumulators (R529 to R535) -/

/-- The unit of OP_TIME, 1/1,024 h, in ps (R529). -/
def opUnit : Nat := 3515625000000

def opTime (s : State) : Nat := s.score.opPs / opUnit % 2 ^ 32

def updScore (f : ScorePart → ScorePart) (s : State) : State := { s with score := f s.score }

/-- Codes of PAIR scope (R534). -/
def pairCode (c : Nat) : Bool :=
  decide (c ≥ 0x40) || ([0x01, 0x02, 0x03, 0x10, 0x11, 0x12, 0x20, 0x23, 0x24, 0x25, 0x26, 0x27, 0x2B] : List Nat).contains c

/-- A code accumulates on this chip (R530, R540, R546). -/
def recording (c : Nat) (s : State) : Bool :=
  s.work.rec_.enable && s.score.kind != .unsupported && !(pairCode c && isDummy s)

/-- A record that names the present instant (R529, R533). -/
def recordNow (c : Nat) (s : State) : Rec :=
  let v := s.time.valid
  { code := c, flags := b2n v, powerCycle := s.score.powerCycle, taiSec := if v then s.time.counter.sec else 0
    taiNs := if v then s.time.counter.ns else 0, opTime := opTime s, lastPs := s.now }

/-- A record takes the present instant as the one it names. -/
def nameNow (r : Rec) (s : State) : Rec :=
  let x := recordNow r.code s
  { r with flags := (if bit x.flags 0 then setBit r.flags 0 else clrBit r.flags 0), powerCycle := x.powerCycle, taiSec := x.taiSec
           taiNs := x.taiNs, opTime := x.opTime }

/-- A value held to the signed 32-bit range, and whether it had to be (R533). -/
def sat32 (v : Int) : Int := clampI (-(2 ^ 31 : Nat)) ((2 ^ 31 - 1 : Nat)) v

/-- A 32-bit count that saturates. -/
def sat32Nat (n : Nat) : Nat := min n (2 ^ 32 - 1)

/-- The bin of a value: LOG bins with a base, or the six edges of LINEAR bins (R534). -/
def logBin (base : Nat) (v : Int) : Nat := ((List.range 6).filter fun k => decide (base * 10 ^ k ≤ v.natAbs)).length
def linBin (edges : List Int) (v : Int) : Nat := (edges.filter fun e => decide (e ≤ v)).length

/-- The bin of a code's value (R534); temperatures are in 0.125 °C. -/
def codeBin (c : Nat) (v : Int) : Nat :=
  if c = 0x04 then linBin [-120, 80, 280, 480, 680, 880] v
  else logBin (if c = 0x01 ∨ c = 0x06 then 10 else if c = 0x05 then 1000 else 1) v

/-- One value enters a record's extremes and histogram (R533). -/
def takeValue (r : Rec) (v : Int) : Rec :=
  let w := sat32 v
  let blank := r.hist.all (· == 0)
  { r with
    flags := if w = v then r.flags else setBit r.flags 5
    min := if blank then w else min r.min w
    max := if blank then w else max r.max w
    hist := upd r.hist (codeBin r.code v) (fun n => sat32Nat (n + 1)) }

/-- The value sets the extreme of the larger magnitude (R533). -/
def setsExtreme (r : Rec) (v : Int) : Bool :=
  r.hist.all (· == 0) || (decide (v < r.min) && decide (v.natAbs > r.max.natAbs)) || (decide (r.max < v) && decide (v.natAbs > r.min.natAbs))

/-- A SAMPLE code takes one value (R534). -/
def addSample (c : Nat) (v : Int) (s : State) : State :=
  if !recording c s then s
  else
    let r := (getKey c s.score.samples).getD { code := c }
    let r := if setsExtreme r v then nameNow r s else r
    updScore (fun x => { x with samples := putKey c { takeValue r v with count := sat32Nat (r.count + 1) } x.samples }) s

/-- An event of a RATE code: 0 refusals, 1 bound cancels, 2 pause drops, 3 key changes (R534). -/
def noteRate (k : Nat) (s : State) : State :=
  let c := 0x10 + k
  if !recording c s then s
  else
    let r := (getKey c s.score.samples).getD { code := c }
    let r := if r.count = 0 ∧ s.score.handCounts.getD k 0 = 0 then nameNow r s else r
    updScore (fun x => { x with samples := putKey c r x.samples, handCounts := upd x.handCounts k (· + 1) }) s

/-- A RATE code takes the number of its events of a closing hand (R534). -/
def addRate (k : Nat) (s : State) : State :=
  let c := 0x10 + k
  if !recording c s then updScore (fun x => { x with handCounts := upd x.handCounts k (fun _ => 0) }) s
  else
    let n := s.score.handCounts.getD k 0
    let r := (getKey c s.score.samples).getD { code := c }
    updScore (fun x => { x with
      samples := putKey c { takeValue r n with count := sat32Nat (r.count + n) } x.samples
      handCounts := upd x.handCounts k (fun _ => 0) }) s

/-- Records that a page holds (R530). -/
def pageRoom : FlashKind → Nat
  | .large => 254
  | .small => 62
  | .unsupported => 0

/-- Change the latest occurrence record of a code. -/
def updLatest (c : Nat) (f : Rec → Rec) (l : List Rec) : List Rec :=
  match l.reverse.findIdx? (fun r => r.code == c) with
  | none => l
  | some i => upd l (l.length - 1 - i) f

/-- The latest occurrence record of a code. -/
def latestOcc (c : Nat) (l : List Rec) : Option Rec := l.reverse.find? (fun r => r.code == c && bit r.flags 1)

/-- An occurrence repeats a record (R535). -/
def repeats (s : State) (d : Int) (r : Rec) : Bool := r.min == d && decide (s.now ≤ r.lastPs + s.work.rec_.repeatSeconds * 1000000000000)

/-- A carry count grows by one (R536). -/
def addCarry (c : Nat) (d : Int) (l : List (Nat × Int × Nat)) : List (Nat × Int × Nat) :=
  if l.any (fun e => e.1 == c && e.2.1 == d) then l.map (fun e => if e.1 = c ∧ e.2.1 = d then (c, d, e.2.2 + 1) else e)
  else l ++ [(c, d, 1)]

/-- A snapshot's latest record of a code takes the instant of a repeat (R536). -/
def touchPage (c ps : Nat) (w : Writing) : Writing :=
  { w with page := { w.page with records := updLatest c (fun q => { q with lastPs := ps }) w.page.records } }

/-- An occurrence that finds no record of its own: it opens one, or is counted in its code's latest record, or in OMITTED (R535). -/
def openOcc (c : Nat) (d : Int) (s : State) : State :=
  let x := s.score
  if x.samples.length + x.occs.length < pageRoom x.kind then
    let r := recordNow c s
    updScore (fun x => { x with occs := x.occs ++ [{ r with flags := setBit r.flags 1, count := 1, min := d, max := d }] }) s
  else match latestOcc c x.occs with
  | some r => updScore (fun x => { x with occs := updLatest c (fun q => { q with
      excess := sat32Nat (q.excess + 1), flags := if r.min = d then q.flags else setBit q.flags 4, lastPs := s.now }) x.occs }) s
  | none => updScore (fun x => { x with omitted := if x.omitted.contains c then x.omitted else x.omitted ++ [c] }) s

/-- An occurrence of a code with its DETAIL (R535, R536). -/
def occur (c : Nat) (detail : Int) (s : State) : State :=
  if !recording c s then s
  else
    let s := if pairCode c then forward (.occurrence c detail) s else s
    let d := sat32 detail
    let x := s.score
    match x.kind, latestOcc c x.occs with
    | .large, some _ =>
      if (x.occs.filter (fun r => r.code == c)).length < s.work.rec_.occLimit then openOcc c d s
      else
        let s := bump (64 * 15 + 33) (updScore (fun x => { x with occs := updLatest c (fun q => { q with
          excess := sat32Nat (q.excess + 1), flags := setBit q.flags 3, lastPs := s.now }) x.occs }) s)
        if x.limited then s else setCause 15 3 0 (updScore (fun x => { x with limited := true }) s)
    | .small, some r =>
      if repeats s d r then
        bump (64 * 15 + 32) (updScore (fun x => { x with occs := updLatest c (fun q => { q with
          excess := sat32Nat (q.excess + 1), lastPs := s.now }) x.occs }) s)
      else openOcc c d s
    | .small, none =>
      match latestOcc c ((x.writing.toList ++ x.waiting).flatMap fun w => w.page.records) with
      | some r =>
        if repeats s d r then
          bump (64 * 15 + 34) (updScore (fun x => { x with
            carry := addCarry c d x.carry, writing := x.writing.map (touchPage c s.now), waiting := x.waiting.map (touchPage c s.now) }) s)
        else openOcc c d s
      | none => openOcc c d s
    | _, _ => openOcc c d s

/-- The Scorecard code and DETAIL of an interrupt condition that is an occurrence (R534). -/
def causeOcc (c b idx : Nat) (s : State) : Option (Nat × Int) :=
  if c = 2 ∧ b = 0 then some (0x28, 0)
  else if c = 3 ∧ b = 0 then some (0x23, idOf idx)
  else if c = 3 ∧ 4 ≤ b ∧ b ≤ 7 then
    some (0x24, ((b - 4) * 65536 + (match (nth s.sels (b - 4)).selectedOrd with | some o => idOf o | none => 0) : Nat))
  else if c = 4 ∧ b = 7 then some (0x25, 0)
  else if c = 4 ∧ 19 ≤ b ∧ b ≤ 21 then some (0x25, ((b - 18 : Nat) : Int))
  else if c = 4 ∧ b = 9 then some (0x26, ((nth s.dplls 0).lastJumpSource : Int))
  else if c = 8 ∧ b = 1 then some (0x29, idx)
  else if c = 8 ∧ b = 3 then some (0x2A, idx)
  else if c = 9 ∧ b = 2 then some (0x21, idx)
  else none

/-- A condition occurs: its cause bit, its counter, its event entries and its Scorecard record (R506, R513, R534, R541). -/
def raiseIdx (c b idx : Nat) (s : State) : State :=
  let s := setCause c b idx s
  match causeOcc c b idx s with
  | some (code, d) => occur code d s
  | none => s

def raise (c b : Nat) (s : State) : State := raiseIdx c b 0 s

/-! ### Rings -/

/-- A ring faults with a cause (R504). -/
def ringFault (r cause : Nat) (s : State) : State :=
  raise 0 8 (updRing r (fun g => { g with enable := false, fault := true, faultCause := cause, due := [] }) s)

/-- DMA runs (R486). -/
def dmaOn (s : State) : Bool := running s && s.host.linkWidth != 0 && s.host.busMaster

/-- Entries of a ring: N = 2^LOG_SIZE (R503). -/
def ringSize (g : Ring) : Nat := 2 ^ g.logSize

/-- Distance between free-running 16-bit indices. -/
def idxDist (a b : Nat) : Nat := (a + 65536 - b % 65536) % 65536

/-- The bytes of a reply header (R493). -/
def replyHeader (opcode : Nat) (q : Req) (words status detail source : Nat) : Bytes :=
  leBytes 2 opcode ++ leBytes 2 q.tag.toNat ++ leBytes 2 words ++ leBytes 1 q.flags.toNat ++ leBytes 1 source ++
    zeros 4 ++ leBytes 1 status ++ [0#8] ++ leBytes 2 detail

/-- SOURCE of a reply (R493). -/
def sourceByte : Src → Nat
  | .ring c => c % 64
  | .pcieReg => 63
  | .spiReg => 64
  | .partner => 128
  | .image => 0

/-- A reply-ring entry is written and the producer advances (R505). -/
def replyRingWrite (c : Nat) (entry : Bytes) (s : State) : State :=
  let r := 192 + c
  if (ringOf s r).enable then
    ringEvent r (updRing r (fun g => { g with second := (g.second + 1) % 65536 })
      (emit (.replyEntry r (ringOf s r).second entry) s))
  else s

end Sys2Proof.Machine
end

