-- ==== Sys2Proof/Machine/Operands.lean ====
section
/-! DEFINITION. The operand forms: the format checks of a command packet's parameters, and source identifiers. -/
namespace Sys2Proof.Machine
open Sys2Proof

/-! ### STATUS codes (R495) -/

def stDone : Nat := 0x00
def stPending : Nat := 0x01
def stBusyRetry : Nat := 0x02
def stBadOpcode : Nat := 0x10
def stBadParam : Nat := 0x11
def stBadState : Nat := 0x12
def stLifecycle : Nat := 0x13
def stResource : Nat := 0x20
def stNotOwner : Nat := 0x21
def stInternal : Nat := 0x30

/-! ### Format checks (R494) -/

/-- One field of a layout: offset, size, whether it is reserved, and its range. -/
structure Fld where
  off : Nat
  size : Nat
  rsv : Bool
  ok : Nat → Bool

/-- A field with a range. -/
def F (off size : Nat) (ok : Nat → Bool) : Fld := { off, size, rsv := false, ok }

/-- A field that takes any value. -/
def anyF (off size : Nat) : Fld := F off size (fun _ => true)

/-- A reserved field (R5). -/
def rsvF (off size : Nat) : Fld := { off, size, rsv := true, ok := fun v => v == 0 }

/-- A field from `lo` to `hi`. -/
def inF (off size lo hi : Nat) : Fld := F off size (fun v => decide (lo ≤ v ∧ v ≤ hi))

/-- A field that must be 0. -/
def zeroF (off size : Nat) : Fld := F off size (fun v => v == 0)

/-- A field that must be 0 unless a condition holds, and then lies from `lo` to `hi`. -/
def whenF (c : Bool) (off size lo hi : Nat) : Fld :=
  F off size (fun v => if c then decide (lo ≤ v ∧ v ≤ hi) else v == 0)

/-- A field of a group whose SET flag is clear is refused as a reserved field is (R68, R168, R308, R376). -/
def setIf (set : Bool) (off size : Nat) (ok : Nat → Bool) : Fld := if set then F off size ok else rsvF off size

/-- The same with a range. -/
def setF (set : Bool) (off size lo hi : Nat) : Fld := setIf set off size (fun v => decide (lo ≤ v ∧ v ≤ hi))

/-- A Timestamp96 field (R10). -/
def tsF (off : Nat) : Fld := F off 12 tsFieldOk

/-- A bound field: bits [63:40] are 0 (R16). -/
def boundF (off : Nat) : Fld := F off 8 (fun v => decide (v < 2 ^ 40))

/-- A positive magnitude in the offset format (R80). -/
def magF (off : Nat) : Fld := F off 8 (fun v => decide (0 < v ∧ v < 2 ^ 63))

/-- A timer code (R85). -/
def timerF (off : Nat) : Fld := inF off 1 0 14

/-- The offset of the first byte that is not 0 from offset `off` on. -/
def firstNonZero : Bytes → Nat → Nat → Option Nat
  | _, _, 0 => none
  | p, off, n + 1 => if p.getD off 0#8 != 0#8 then some off else firstNonZero p (off + 1) n

/-- DETAIL of the first field that fails, in the order of the list (R494). -/
def checkFlds (p : Bytes) : List Fld → Option Nat
  | [] => none
  | f :: fs =>
    if f.ok (fld p f.off f.size) then checkFlds p fs
    else if f.rsv then (firstNonZero p f.off f.size).orElse fun _ => some f.off
    else some f.off

/-- Bytes of the parameters, by LENGTH. -/
def paramLen (q : Req) : Nat := 4 * q.length.toNat

/-- The header check (R494). -/
def headerBad (q : Req) : Bool :=
  decide (q.length.toNat > 124) || q.reserved != 0#64 || decide (q.flags.toNat ≥ 8)

/-- The format checks in the order of R494: the header, the fixed part, the entries, the words beyond. -/
def formatCheck (q : Req) (fixed : Nat) (fs : List Fld) (ents esz : Nat) (efs : Nat → List Fld) : Option Nat :=
  if headerBad q then some 0xFFFF
  else if paramLen q < fixed then some 0xFFFF
  else match checkFlds q.params fs with
  | some d => some d
  | none =>
    let need := fixed + ents * esz
    if paramLen q < need then some 0xFFFF
    else match checkFlds q.params ((List.range ents).flatMap efs) with
    | some d => some d
    | none => firstNonZero q.params need (paramLen q - need)

/-! ### Answers of a command -/

/-- What executing a command comes to: done with reply data, refused, refused after a change that its description
states, or a reply that follows a hardware action (R495, R496). -/
inductive Answer where
  | done (data : Bytes) (s : State)
  | refuse (status detail : Nat)
  | refuseWith (status detail : Nat) (s : State)
  | later (s : State)
  deriving DecidableEq

/-- Go on when the format checks pass (R494). -/
def checked (q : Req) (fixed : Nat) (fs : List Fld) (k : Answer) : Answer :=
  match formatCheck q fixed fs 0 0 (fun _ => []) with
  | some d => .refuse stBadParam d
  | none => k

/-- The same with repeated entries. -/
def checkedN (q : Req) (fixed : Nat) (fs : List Fld) (ents esz : Nat) (efs : Nat → List Fld) (k : Answer) : Answer :=
  match formatCheck q fixed fs ents esz efs with
  | some d => .refuse stBadParam d
  | none => k

/-- Refuse with a status when a condition holds. -/
def refuseIf (c : Bool) (status detail : Nat) (k : Answer) : Answer := if c then .refuse status detail else k

/-! ### Sources (R70) -/

/-- A SOURCE_ID field that must name a source (R70). -/
def srcF (off : Nat) : Fld := F off 2 (fun v => (ordOf v).isSome)

end Sys2Proof.Machine
end

