-- ==== Sys2Proof/Machine/FaultOps.lean ====
section
/-! DEFINITION. The fault record, and the dropping of the claim (R31, R384, R392, R570). -/
namespace Sys2Proof.Machine
open Sys2Proof

def updPair (f : PairRun → PairRun) (s : State) : State := { s with pair := f s.pair }

/-- A fault enters the record; a ninth replaces entry 7 (R570). -/
def recordFault (cause detail : Nat) (s : State) : State :=
  let e : FaultEntry := { ps := s.now, cause, claim := s.pair.force, powerCycle := s.score.powerCycle, opTime := opTime s, detail }
  { s with boot :=
    if s.boot.faults.length < 8 then { s.boot with faults := s.boot.faults ++ [e] }
    else { s.boot with faults := s.boot.faults.take 7 ++ [e], faultOverflow := true } }

/-- The stand of a group of pins (R565). -/
def padStand (s : State) (g : PadGroup) : PadStand :=
  if s.boot.inReset then (match g with | .lanes => .off | _ => .highZ)
  else if s.root.lost then
    match g with
    | .outputs | .serial | .hostSpi => .highZ
    | .lanes => .off
    | .claimTx | .claimOwn | .intN => .low
    | .bpllLock => .owned
  else if !s.boot.claimSpent then
    match g with
    | .outputs => .sharedHighZ
    | .lanes => .sharedIdle
    | .claimTx | .claimOwn => .low
    | .serial => .idleHigh
    | .intN | .bpllLock | .hostSpi => .owned
  else .owned

/-- The table of the pins' stands as the chip is now (R565). -/
def padTable (s : State) : List (PadGroup × PadStand) :=
  ([.outputs, .lanes, .claimTx, .claimOwn, .intN, .bpllLock, .serial, .hostSpi] : List PadGroup).map fun g => (g, padStand s g)

/-- The pins take their stands (R555, R565). -/
def setPads (s : State) : State := emit (.pads (padTable s)) s

/-- The enable has changed: the time of the change and the Scorecard's record (R415, R424, R534). -/
def noteEdge (rise : Bool) (s : State) : State :=
  occur 0x22 (if rise then 1 else 0) (updPair (fun p => { p with lastSwitch := curTs s }) s)

/-- The claim is dropped: the shared drivers and CLAIM_OWN go first, then CLAIM_TX is driven low (R384, R392). -/
def dropClaim (s : State) : State :=
  if !s.pair.live then s
  else
    let was := s.pair.enable
    let s := emit (.pin "CLAIM_TX" 0) (emit (.pin "CLAIM_OWN" 0) s)
    let s := updPair (fun p => { p with
      live := false, enable := false, edge := none, rising := none, seizing := false, readFails := 0
      lastLive := p.force, force := 0, sent := 0 }) s
    if was then noteEdge false s else s

/-- The self-faults that drop the claim (R31): loss of lock, Dealer lockstep, watchdog, power-good, claim readback, thermal. -/
def dropsClaim (cause : Nat) : Bool := decide (1 ≤ cause ∧ cause ≤ 6)

/-- A block declares a self-fault (R31, R570). -/
def selfFault (cause detail : Nat) (s : State) : State :=
  let s := recordFault cause detail s
  let s := if cause = 5 then raise 12 15 s else s
  if dropsClaim cause then dropClaim { s with boot := { s.boot with claimSpent := true } } else s

end Sys2Proof.Machine
end

