-- ==== Sys2Proof/Machine/Dealer.lean ====
section
/-! DEFINITION. The Dealer: the queue, result slots, replies, and the running of a command packet (R492 to R501). -/
namespace Sys2Proof.Machine
open Sys2Proof

/-- A meaning of a command: from the counter time of its arrival, its packet and the state, its answer. -/
abbrev Handler := Req → State → Answer

/-- REPLY, URGENT and MIRROR of a packet (R492). -/
def wantsReply (q : Req) : Bool := q.flags.getLsbD 0
def isUrgent (q : Req) : Bool := q.flags.getLsbD 1
def isMirrored (q : Req) : Bool := q.flags.getLsbD 2

/-- The result slot of a command (R498). -/
def slotOf (q : Req) : Nat := q.tag.toNat % 256

/-- A command of this source uses a result slot (R406, R498, R562). -/
def usesSlot (q : Req) : Bool := match q.src with | .partner => false | .image => false | _ => true

def updSlot (k : Nat) (f : Slot → Slot) (s : State) : State :=
  { s with host := { s.host with slots := upd s.host.slots k f } }

/-- A Declarer-only action on a Dummy is answered NOT_OWNER (R495, R528). -/
def declarerOnly (s : State) (k : Answer) : Answer := refuseIf (isDummy s) stNotOwner 0 k

/-- The result of a completed command in its slot (R499). -/
def slotResult (opcode : Nat) (q : Req) (status detail : Nat) (data : Bytes) : Slot :=
  { pending := false, opcode, tag := q.tag.toNat, length := data.length / 4, flags := q.flags.toNat,
    source := sourceByte q.src, status, readCount := 0, detail, data }

/-- The bank of an interface. -/
def bankOf (s : State) : Iface → IfBank
  | .pcie => s.host.pcie
  | .spi => s.host.spi

def updBank (i : Iface) (f : IfBank → IfBank) (s : State) : State :=
  match i with
  | .pcie => { s with host := { s.host with pcie := f s.host.pcie } }
  | .spi => { s with host := { s.host with spi := f s.host.spi } }

/-- The interface of a register-path command. -/
def ifaceOf : Src → Option Iface
  | .pcieReg => some .pcie
  | .spiReg => some .spi
  | _ => none

/-- MIRROR_MISMATCH: the opcode, tag and partner status are recorded, 0xFF when the partner is not heard (R406, R424). -/
def mirrorMismatch (opcode tag status : Nat) (s : State) : State :=
  raise 12 11 (updPair (fun p => { p with mirrorOpcode := opcode, mirrorTag := tag, mirrorStatus := status }) s)

/-- Once both statuses of a mirrored command are known they are compared; NOT_OWNER is no mismatch (R406). -/
def settleMirrors (s : State) : State :=
  let both := fun (m : MirrorWait) => m.own.isSome && m.partner.isSome
  let ready := s.pair.mirrors.filter both
  ready.foldl (fun s m =>
    if m.own = m.partner ∨ m.own = some stNotOwner ∨ m.partner = some stNotOwner then s
    else mirrorMismatch m.opcode m.tag (m.partner.getD 0xFF) s) (updPair (fun p => { p with mirrors := p.mirrors.filter (fun m => !both m) }) s)

/-- The status that this chip answered a mirrored command with is kept until the partner's arrives (R406). -/
def noteMirror (opcode : Nat) (q : Req) (status : Nat) (s : State) : State :=
  settleMirrors (updPair (fun p => { p with
    mirrors := p.mirrors.map fun m =>
      if m.opcode = opcode ∧ m.tag = q.tag.toNat ∧ m.own.isNone then { m with own := some status } else m }) s)

/-- A command with the MIRROR flag is forwarded to the partner when this chip, in pair mode, starts it for its own host (R406). -/
def forwardMirror (opcode : Nat) (q : Req) (s : State) : State :=
  if !isMirrored q || s.work.pair.mode != 1 || q.src == .partner || q.src == .image then s
  else if s.pair.heard then
    emit (.link none "MIRROR" (leBytes 2 opcode ++ leBytes 2 q.tag.toNat ++ leBytes 2 q.length.toNat ++ leBytes 1 q.flags.toNat ++ q.params))
      (updPair (fun p => { p with mirrors := p.mirrors ++ [{ opcode, tag := q.tag.toNat }] }) s)
  else mirrorMismatch opcode q.tag.toNat 0xFF s

/-- A host command that the Declarer has executed is an input for a partner in LOCKSTEP (R408). -/
def forwardCommand (opcode : Nat) (q : Req) (s : State) : State :=
  match q.src with
  | .partner => s
  | .image => s
  | _ => forward (.command opcode q.tag.toNat q.params) s

/-- A reply: into the result slot, and to where the command came from (R499, R501, R505). `muted` drops the
reply-ring write (R519). -/
def replyWith (muted : Bool) (opcode : Nat) (q : Req) (status detail : Nat) (data : Bytes) (s : State) : State :=
  let data := data ++ zeros ((4 - data.length % 4) % 4)
  let s := bump 33 s
  let s := if status = stBusyRetry then bump 34 s else s
  let s := if usesSlot q then updSlot (slotOf q) (fun _ => slotResult opcode q status detail data) s else s
  let s := if isMirrored q then noteMirror opcode q status s else forwardCommand opcode q s
  match q.src with
  | .ring c =>
    let s := updRing (192 + c) (fun g => { g with items := add48 g.items 1 }) s
    if wantsReply q && !muted then
      replyRingWrite c (replyHeader opcode q (data.length / 4) status detail (sourceByte q.src) ++ data) s
    else s
  | .pcieReg => raise 0 4 s
  | .spiReg => raise 0 4 s
  | .partner =>
    emit (.link none "MIRROR_REPLY" (leBytes 2 opcode ++ leBytes 2 q.tag.toNat ++ leBytes 1 status)) s
  | .image => s

def reply (opcode : Nat) (q : Req) (status detail : Nat) (data : Bytes) (s : State) : State :=
  replyWith false opcode q status detail data s

/-- The queue has accepted or refused the packet of an interface: GO clears, unless software sets it on this very tick (R8, R501). -/
def endGo (i : Iface) (status : BitVec 8) (s : State) : State :=
  updBank i (fun b => { b with go := b.go && b.goAgain == some (s.now / tickPs), goAgain := none, submitStatus := status }) s

/-- A submission is refused because its slot is pending (R498, R501, R505). -/
def refuseSlot (opcode : Nat) (q : Req) (s : State) : State :=
  let s := raise 0 11 s
  match q.src with
  | .ring c => replyRingWrite c (replyHeader opcode q 0 stResource 0 (sourceByte q.src)) s
  | .pcieReg => endGo .pcie 0x20 s
  | .spiReg => endGo .spi 0x20 s
  | _ => s

/-- The queue accepts a command: its slot becomes pending (R498, R499). -/
def acceptCmd (opcode : Nat) (q : Req) (s : State) : State :=
  let s := bump 32 s
  let s := if usesSlot q then
      updSlot (slotOf q) (fun r => { r with pending := true, opcode, tag := q.tag.toNat, status := stPending, readCount := 0, detail := 0 }) s
    else s
  { s with host := { s.host with
      queue := s.host.queue ++ [{ opcode, req := q, arrived := curTs s, arrivedPs := s.now }] } }

/-- The slot of a submission is free (R498). -/
def slotFree (q : Req) (s : State) : Bool := !usesSlot q || !(nth s.host.slots (slotOf q)).pending

/-- A packet reaches the queue: accepted, or refused (R498). -/
def submit (opcode : Nat) (q : Req) (s : State) : State :=
  if !slotFree q s then refuseSlot opcode q s
  else
    let s := acceptCmd opcode q s
    match ifaceOf q.src with
    | some i => endGo i 0 s
    | none => s

/-- The entry that the Dealer starts next: URGENT ones first, each in order of arrival (R496). -/
def nextEntry (l : List QEntry) : Option QEntry :=
  match l.find? (fun e => isUrgent e.req) with
  | some e => some e
  | none => l.head?

/-- Start a command and answer it; the status is PENDING when the reply follows later. -/
def startCmd (opcode : Nat) (h : Nat → Handler) (arrived : Nat) (q : Req) (s : State) : Nat × State :=
  let s := forwardMirror opcode q s
  if headerBad q then (stBadParam, reply opcode q stBadParam 0xFFFF [] s)
  else match h arrived q s with
  | .done data t => (stDone, reply opcode q stDone 0 data t)
  | .refuse st d => (st, reply opcode q st d [] s)
  | .refuseWith st d t => (st, reply opcode q st d [] t)
  | .later t => (stPending, t)

/-- The Dealer accepts and executes commands (R501, R559, R19). -/
def accepting (s : State) : Bool := running s && s.boot.cmdReady

/-- The packet that bytes hold, as it reaches the queue now: its opcode and the rest (R492). -/
def packetOf (src : Src) (b : Bytes) (ps : Nat) : Nat × Req :=
  (fld b 0 2, { time := ps, src, tag := BitVec.ofNat 16 (fld b 2 2), length := BitVec.ofNat 16 (fld b 4 2), flags := BitVec.ofNat 8 (fld b 6 1)
                reserved := BitVec.ofNat 64 (fld b 8 8), params := slice b 16 (4 * min (fld b 4 2) 124) })

/-- The source of an interface's register path. -/
def regSrc : Iface → Src
  | .pcie => .pcieReg
  | .spi => .spiReg

/-- A packet in CMD_BUF whose GO stands reaches the queue once commands are accepted and the queue has room; GO that is set again on
that tick submits it once more (R8, R496, R501). -/
def trySubmit (i : Iface) (s : State) : State :=
  if !(bankOf s i).go || !accepting s then s
  else
    let (op, q) := packetOf (regSrc i) (bankOf s i).cmdBuf s.now
    if slotFree q s && decide (s.host.queue.length ≥ 256) then s
    else
      let t := submit op q s
      if (bankOf t i).go then submit op q t else t

/-- The register paths that wait, PCIe before SPI (R520). -/
def acceptGo (s : State) : State := trySubmit .spi (trySubmit .pcie s)

/-- The entry of the queue that is this very packet. -/
def queued (opcode : Nat) (q : Req) (l : List QEntry) : Option QEntry :=
  l.find? (fun e => e.opcode == opcode && e.req == q)

/-- Take an entry from the queue and start it. -/
def startEntry (e : QEntry) (h : Nat → Handler) (s : State) : State :=
  acceptGo (startCmd e.opcode h e.arrived e.req { s with host := { s.host with queue := s.host.queue.erase e } }).2

/-- Begin a command: outputs of the command before are gone, and the time moves on. -/
def begin_ (ps : Nat) (s : State) : State := moveTo ps { s with out := [] }

/-- A command row. A packet that waits in the queue starts when it is the next entry; a packet that does not wait
there arrives now, and starts at once when nothing stands before it. -/
def runCmdAt (opcode : Nat) (h : Nat → Handler) (q : Req) (s : State) : State :=
  let s := begin_ q.time s
  if !accepting s then s
  else match queued opcode q s.host.queue with
  | some e => if nextEntry s.host.queue = some e then startEntry e h s else s
  | none =>
    if !slotFree q s then refuseSlot opcode q s
    else if s.host.queue.length ≥ 256 then s
    else
      let s := submit opcode q s
      match queued opcode q s.host.queue with
      | some e => if nextEntry s.host.queue = some e then startEntry e h s else s
      | none => s

def runCmd (opcode : Nat) (h : Handler) (q : Req) (s : State) : State := runCmdAt opcode (fun _ => h) q s

/-- A started command waits for a hardware action. -/
def addWait (w : Wait) (s : State) : State := { s with host := { s.host with waits := s.host.waits ++ [w] } }

/-- The hardware action of a started command has ended: its reply is sent. -/
def finishWait (key : WaitKey) (status detail : Nat) (data : Bytes) (s : State) : State :=
  match s.host.waits.find? (fun w => w.key == key) with
  | none => s
  | some w =>
    replyWith w.muted w.opcode w.req status detail data
      { s with host := { s.host with waits := s.host.waits.erase w } }

/-- A command of this kind waits. -/
def waitsFor (key : WaitKey) (s : State) : Bool := s.host.waits.any (fun w => w.key == key)

end Sys2Proof.Machine
end

