-- ==== Sys2Proof/Machine/BoundOps.lean ====
section
/-! DEFINITION. The bound engine: growth, wander, the terms of the counter's bound, disturbances, clockClass (R111 to
R116, R124, R151 to R163). -/
namespace Sys2Proof.Machine
open Sys2Proof

/-- The T-DPLL and its selected source. -/
def tdpll (s : State) : DpllRun := nth s.dplls 0
def tSelected (s : State) : Option Nat := (nth s.sels 0).selectedOrd

/-- The states of TRACKING mode (R151). -/
def tracking : DpllState → Bool
  | .acquiring => true
  | .locked => true
  | .returning => true
  | .freeRun => false
  | .holdover => false

/-- T-DPLL in free-run or holdover (R41). -/
def steerable (s : State) : Bool := !tracking (tdpll s).state

/-! ### Holdover growth -/

/-- Effective model values: supplied, raised by learned ones and by the floors of R114 (R111, R114). -/
def aEff (s : State) : Nat :=
  max s.hold.aFloor (if s.work.hold.useLearned && s.hold.learned then max s.work.hold.aSup s.hold.aLearned else s.work.hold.aSup)
def dEff (s : State) : Nat :=
  max s.hold.dFloor (if s.work.hold.useLearned && s.hold.learned then max s.work.hold.dSup s.hold.dLearned else s.work.hold.dSup)
def qEff (s : State) : Nat :=
  max s.hold.qFloor (if s.work.hold.useLearned && s.hold.learned then max s.work.hold.qSup s.hold.qLearned else s.work.hold.qSup)

/-- G for an elapsed time in 2⁻⁴⁸ ns, in 2⁻⁸ ps, each term rounded up (R112, R159). -/
def growthOf (a d q t : Nat) : Nat :=
  ceilDiv (a * t * 256000) (2 ^ 112) +
  ceilDiv (d * t * t * (128 * 10 ^ 12)) (2 ^ 96 * (2 ^ 48 * 10 ^ 9) * (2 ^ 48 * 10 ^ 9)) +
  isqrtUp (ceilDiv (262144 * 10 ^ 15 * q * t) (2 ^ 144))

/-- The counter's increments from now to a later instant (R112, R157). -/
def incTo (ps : Nat) (s : State) : Nat := (ps / tickPs - s.now / tickPs) * nextInc s.time

/-- Elapsed time since the holdover origin at an instant, 2⁻⁴⁸ ns (R112). -/
def holdElapsedAt (ps : Nat) (s : State) : Nat :=
  match s.hold.origin with
  | none => 0
  | some o => ((s.incSum : Int) - o).toNat + incTo ps s

/-- G at an instant (R112). -/
def growthAt (ps : Nat) (s : State) : Nat := growthOf (aEff s) (dEff s) (qEff s) (holdElapsedAt ps s)

/-! ### Tracking terms -/

/-- WANDER for a frequency magnitude in 2⁻⁶⁴ and τ in ps, in 2⁻⁸ ps (R155, R159). -/
def wanderOf (f q1 q2 tau : Nat) : Nat :=
  ceilDiv (f * tau * 256) (2 ^ 64) +
  isqrtUp (ceilDiv (262144 * (q1 * tau * (3 * 2 ^ 32 * 10 ^ 24) + q2 * tau * tau * tau)) (3 * 2 ^ 128 * 10 ^ 12))

/-- τ of R155 at an instant, in ps, counted in whole ticks. -/
def tauAt (ps : Nat) (s : State) : Nat := (ps / tickPs - s.bound.lastSamplePs / tickPs) * tickPs

/-- WANDER at an instant (R155). -/
def wanderAt (ps : Nat) (s : State) : Nat :=
  let z := nth s.work.meldSlots 0
  wanderOf (((tdpll s).lastEst.getD 0).natAbs + s.bound.fDist) z.q1 z.q2 (tauAt ps s)

/-- The larger of two bounds; none is unbounded. -/
def maxB : Option Nat → Option Nat → Option Nat
  | some a, some b => some (max a b)
  | _, _ => none

/-- The sum of two bounds. -/
def addB : Option Nat → Option Nat → Option Nat
  | some a, some b => some (a + b)
  | _, _ => none

/-- Half the magnitude of a path delay in 2⁻¹⁶ ns, in 2⁻⁸ ps, rounded up (R154, R159). -/
def halfDelay (d : Int) : Nat := ceilDiv (d.natAbs * 128000) 65536

/-- ASYM of a candidate with its mean path delay at its latest sample, in 2⁻⁸ ps (R154, R401). -/
def asymOf (s : State) (o : Nat) (delay : Int) : Nat :=
  if o = 93 then s.work.pair.plAsymUnc * 256
  else (nth s.work.boundSrc o).asymAllow * 256 + (if (nth s.work.boundSrc o).halfPath then halfDelay delay else 0)

/-- UNC, STAMP, ASYM and TRACK in force (R151, R152). -/
def trackTerms (s : State) : HeldTerms :=
  match s.bound.held, tSelected s with
  | some h, _ => h
  | none, none => {}
  | none, some o =>
    let r := nth s.refs o
    let w := s.bound.window.take s.work.bound.nTrack
    { unc := addB (w.foldl (fun u e => maxB u (boundOfPs e.unc)) (boundOfPs r.claimed)) (boundOfPs (nth s.work.boundSrc o).extraUnc)
      stamp := w.foldl (fun m e => max m e.stampUnc) r.stampUnc
      asym := asymOf s o s.bound.delay
      track := w.foldl (fun m e => max m (offBound e.err)) 0 }

/-- What remains of a slew after some ticks, as a bound in 2⁻⁸ ps, rounded up (R46, R108). -/
def slewLeft (rem : Int) (inc ticks : Nat) : Nat := ceilDiv ((rem.natAbs - ticks * inc) * 256000) (2 ^ 48)

/-- SLEW at an instant: the remaining offset of the T-DPLL's own slew, rounded up (R108, R151, R157). -/
def slewTermAt (ps : Nat) (s : State) : Nat :=
  if s.time.slewing && s.time.slewOwner == .tdpll then slewLeft s.time.slewRem s.time.slewInc (ps / tickPs - s.now / tickPs) else 0

/-- SLEW now. -/
def slewTerm (s : State) : Nat := slewTermAt s.now s

/-- A sum that reaches the last value is unbounded (R14, R159). -/
def capB : Option Nat → Option Nat
  | none => none
  | some v => if v ≥ unboundedPs * 256 then none else some v

/-- The TRACKING sum at an instant (R151). -/
def trackingSum (ps : Nat) (s : State) : Option Nat :=
  let t := trackTerms s
  addB t.unc (some (t.stamp + t.asym + t.track + wanderAt ps s + slewTermAt ps s + s.bound.dist))

/-- Unbounded causes that stand, as BOUND_READ.CAUSE without bit 6 (R167). -/
def boundCauses (s : State) : Nat :=
  let tr := tracking (tdpll s).state
  packBits [!s.time.valid, !tr && s.time.valid && s.hold.absent, !tr && s.hold.clampStands, !tr && s.hold.failedStands,
    !tr && s.hold.leftStands, s.bound.excHold || s.bound.excTrack]

/-- The counter's bound of this chip's own terms, at an instant (R112, R151, R157). -/
def ownBoundAt (ps : Nat) (s : State) : Option Nat :=
  if boundCauses s != 0 then none
  else if tracking (tdpll s).state then capB (trackingSum ps s)
  else capB (addB s.hold.b0 (some (growthAt ps s)))

/-- The bound of the latest applied snapshot at an instant (R157, R160). -/
def snapBoundAt (ps : Nat) (s : State) : Option Nat :=
  match s.pair.applied with
  | none => none
  | some x =>
    let b := x.bound
    if b.causes != 0 then none
    else if b.track then
      let tau := (ps / tickPs - b.lastPs / tickPs) * tickPs
      capB (addB b.terms.unc (some (b.terms.stamp + b.terms.asym + b.terms.track + wanderOf b.freq b.q1 b.q2 tau +
        (if b.slew = 0 then 0 else slewLeft x.slewRem x.slewInc (ps / tickPs - s.pair.appliedAt / tickPs)) + b.dist)))
    else capB (addB b.b0 (some (growthOf b.a b.d b.q (b.elapsed + (s.incSum - s.pair.appliedInc) + incTo ps s))))

/-- WANDER of a Dummy, with the sums of the two chips' Q1 and Q2 (R401). -/
def dummyWanderAt (ps : Nat) (s : State) : Nat :=
  let z := nth s.work.meldSlots 0
  let (q1, q2) := match s.pair.applied with | some x => (x.bound.q1, x.bound.q2) | none => (0, 0)
  wanderOf (((tdpll s).lastEst.getD 0).natAbs + s.bound.fDist) (z.q1 + q1) (z.q2 + q2) (tauAt ps s)

/-- The alignment term of a Dummy (R160, R409). -/
def alignTermAt (ps : Nat) (s : State) : Nat :=
  let t := trackTerms s
  t.stamp + t.asym + t.track + dummyWanderAt ps s + slewTermAt ps s + s.bound.dist

/-- The bound of a Dummy that follows its partner (R160, R401, R409). -/
def dummyBoundAt (ps : Nat) (s : State) : Option Nat :=
  if s.bound.excTrack || s.bound.excHold || !s.time.valid then none
  else capB (addB (maxB (trackTerms s).unc (snapBoundAt ps s)) (some (alignTermAt ps s)))

/-- The counter's bound at an instant, in 2⁻⁸ ps; none is unbounded. -/
def counterBoundAt (ps : Nat) (s : State) : Option Nat :=
  if isDummy s && tracking (tdpll s).state then dummyBoundAt ps s else ownBoundAt ps s

/-- The counter's bound now. -/
def counterBound (s : State) : Option Nat := counterBoundAt s.now s

/-- MODE of BOUND_READ: 0 UNBOUNDED, 1 TRACKING, 2 HOLDOVER (R167). -/
def boundMode (s : State) : Nat :=
  if (counterBound s).isNone then 0 else if tracking (tdpll s).state then 1 else 2

/-- An origin is in force: HOLDOVER, or FREE_RUN with a finite bound (R105, R112, R134). -/
def originInForce (s : State) : Bool :=
  (tdpll s).state == .holdover || ((tdpll s).state == .freeRun && (counterBound s).isSome)

/-! ### clockClass, alerts -/

/-- The T-DPLL's clockClass (R124). -/
def classOf (s : State) : Nat :=
  let d := tdpll s
  let c := nth s.work.dplls 0
  if !s.time.valid || !d.everLocked then 248
  else match d.state with
  | .locked => 6
  | .freeRun => 248
  | _ =>
    let b := boundPs (counterBound s)
    if b ≥ unboundedPs then 160
    else if b ≤ c.holdoverSpec then 7 else if b ≤ c.cat1 then 140 else if b ≤ c.cat2 then 150 else 160

/-- The bound stands above ALERT_LEVEL (R163, R168). -/
def aboveAlert (s : State) : Bool := decide (boundPs (counterBound s) > s.work.bound.alertLevel)

/-- After a change that bears on the bound: BOUND_UNBOUNDED, BOUND_ALERT and CLASS_CHANGE are raised on the change (R124, R163). -/
def settleBound (s : State) : State :=
  let u := (counterBound s).isNone
  let a := aboveAlert s
  let s1 := if u && !s.bound.wasUnbounded then raise 5 7 s else s
  let s2 := if a && !s.bound.wasAbove then raise 5 8 s1 else s1
  let c := classOf s
  let s3 := if c != s.hold.clockClass then raise 4 11 s2 else s2
  { s3 with bound := { s3.bound with wasUnbounded := u, wasAbove := a }, hold := { s3.hold with clockClass := c } }

/-! ### Disturbances (R158) -/

/-- Raise the bound by an amount in 2⁻⁸ ps and a frequency allowance, in the column of the T-DPLL's state. -/
def disturb (amount freq : Nat) (s : State) : State :=
  raise 5 6 (if tracking (tdpll s).state then
    { s with bound := { s.bound with
        dist := s.bound.dist + amount, fDist := max s.bound.fDist freq, distAt := s.now, parts := (amount, freq, s.now) :: s.bound.parts } }
  else { s with hold := { s.hold with b0 := s.hold.b0.map (· + amount) } })

/-- The tracking window restarts (R152, R158). -/
def restartWindow (s : State) : State := { s with bound := { s.bound with window := [] } }

/-- The whole tracking window was taken after an instant (R158). -/
def windowAfter (at_ : Nat) (s : State) : Bool :=
  let w := s.bound.window.take s.work.bound.nTrack
  decide (w.length ≥ s.work.bound.nTrack) && w.all (fun e => decide (e.ps > at_))

/-- The contributions of DIST and F_DIST whose window is full clear; those that stand make up what is left (R158). -/
def clearParts (s : State) : State :=
  let gone := s.bound.parts.filter fun p => windowAfter p.2.2 s
  let left := s.bound.parts.filter fun p => !windowAfter p.2.2 s
  let s := if gone.isEmpty then s else
    { s with bound := { s.bound with
        parts := left, dist := s.bound.dist - gone.foldl (fun n p => n + p.1) 0, fDist := left.foldl (fun n p => max n p.2.1) 0 } }
  if s.bound.excTrack && windowAfter s.bound.excAt s then { s with bound := { s.bound with excTrack := false } } else s

/-- DIST, F_DIST and a root excursion clear once LOCKED with a full window taken after the disturbance, each for itself (R158). -/
def clearDist (s : State) : State :=
  if (tdpll s).state != .locked then s
  else if windowAfter s.bound.distAt s then { s with bound := { s.bound with dist := 0, fDist := 0, excTrack := false, parts := [] } }
  else clearParts s

/-- COVER_HOURS from the effective model and HOLD_CLOCK's parameters and 2σ uncertainties (R150). -/
def coverHoursOf (a d q q1 q2 q3 ah dh : Nat) : Nat :=
  if q < q1 ∨ a < ah ∨ d < dh then 0
  else
    let ta := if q2 = 0 then 65535 * 3600 else 3 * (a - ah) * (a - ah) / (4 * q2)
    let td := if q3 = 0 then 65535 * 3600 else 20 * (d - dh) * (d - dh) / (16 * q3 * 2 ^ 32)
    min 65535 (min ta td / 3600)

/-- The Meld slot that holds a SOURCE_ID; SYSOSC is slot 0 (R136). -/
def meldSlotOf (c : Cfg) (id : Nat) : Option Nat :=
  if id = 0 then some 0
  else ((List.range 8).drop 1).find? (fun k => (nth c.meldSlots k).sourceId == id)

/-- Entry (i, j) of a covariance table. -/
def covAt (c : List (List Int)) (i j : Nat) : Int := (c.getD i []).getD j 0

/-- 2σ of a state of the Meld, rounded up. -/
def twoSigma (c : List (List Int)) (i : Nat) : Nat := 2 * isqrtUp (covAt c i i).toNat

/-- A slot is occupied (R136). -/
def slotUsed (s : State) (k : Nat) : Bool := k == 0 || (nth s.work.meldSlots k).sourceId != 0

/-- A member is usable: its source has no standing hard check failure other than MELD_OUTLIER, bit 7 (R143). -/
def memberUsable (s : State) (k : Nat) : Bool :=
  k == 0 || (slotUsed s k &&
    (match ordOf (nth s.work.meldSlots k).sourceId with
     | none => false
     | some o => (nth s.refs o).state != .disabled && clrBit (nth s.refs o).cause 7 == 0))

/-- The Meld by its latest update completed before the present tick (R128, R148, R162). -/
def meldThen (s : State) : MeldRun := if s.meld.donePs = some s.now then s.meldBefore else s.meld

/-- Set the holdover origin on this tick (R105, R112, R113, R120, R148, R150). -/
def setOrigin (b0 : Option Nat) (s : State) : State :=
  let k := (meldSlotOf s.work s.work.hold.holdClock).getD 0
  let c := nth s.work.meldSlots k
  let m := meldThen s
  let cover := if s.work.meld.enable then
      coverHoursOf (aEff s) (dEff s) (qEff s) c.q1 c.q2 c.q3 (twoSigma m.cov (3 * k + 1)) (twoSigma m.cov (3 * k + 2))
    else 0
  { s with
    hold := { s.hold with
      origin := some s.incSum
      b0 := b0
      originLearned := s.hold.learned
      absent := aEff s == 0 && dEff s == 0 && qEff s == 0
      clockFailed := false
      freqStepped := false
      consistFailed := false
      horizonPassed := false
      coverHours := cover
      predFreq := (nth m.slots k).est.freq
      predDrift := (nth m.slots k).est.drift }
    meld := { s.meld with
      frozen := m.slots.map (·.est)
      frozenCov := m.cov
      frozenPs := s.now
      frozenUsable := (List.range 8).map (memberUsable s)
      reinitHold := false } }

end Sys2Proof.Machine
end

