-- ==== Sys2Proof/Machine/Filter.lean ====
section
/-! DEFINITION. The arithmetic of the Meld: the joint Kalman filter and the Hadamard fit (R139 to R142, R146, R149). State 3·slot + k of
the filter is phase in 2⁻⁴⁸ ns (k = 0), frequency in 2⁻⁶⁴ (1) or drift in 2⁻⁹⁶ s⁻¹ (2) of a slot's clock. -/
namespace Sys2Proof.Machine
open Sys2Proof

/-- A linear form over the states: coefficients by state, over `formDen`. -/
abbrev Form := List (Nat × Int)

/-- The common denominator of the coefficients of propagation. -/
def formDen : Int := (2 ^ 97 * 10 ^ 24 : Nat)

/-- What a frequency, a drift add to the phase, and a drift to the frequency, over `t` ps, as coefficients over `formDen` (R139). -/
def phaseOfFreq (t : Nat) : Int := (2 ^ 81 * 10 ^ 21 * t : Nat)
def phaseOfDrift (t : Nat) : Int := (2 ^ 48 * 10 ^ 9 * t * t : Nat)
def freqOfDrift (t : Nat) : Int := (2 ^ 65 * 10 ^ 12 * t : Nat)

/-- A state after `t` ps as a form over the states before (R139). -/
def stepForm (t i : Nat) : Form :=
  if i % 3 = 0 then [(i, formDen), (i + 1, phaseOfFreq t), (i + 2, phaseOfDrift t)]
  else if i % 3 = 1 then [(i, formDen), (i + 1, freqOfDrift t)]
  else [(i, formDen)]

/-- The value of a form at states, and the covariance of two forms, without their denominators. -/
def formAt (x : List Int) (f : Form) : Int := f.foldl (fun a e => a + e.2 * x.getD e.1 0) 0
def formCov (c : List (List Int)) (f g : Form) : Int := f.foldl (fun a e => g.foldl (fun a h => a + e.2 * h.2 * covAt c e.1 h.1) a) 0

/-- The covariance that the diffusion of a slot's clock adds over `t` ps, between its states `a` ≤ `b` (R139). -/
def diffusion (c : MeldSlotCfg) (t a b : Nat) : Nat :=
  match a, b with
  | 0, 0 => c.q1 * t * 10 ^ 6 + c.q2 * t * t * t / (3 * 2 ^ 32 * 10 ^ 18) + c.q3 * t * t * t * t * t / (20 * 2 ^ 64 * 10 ^ 42)
  | 0, 1 => roundDiv (c.q2 * t * t) (2 * 2 ^ 16 * 10 ^ 15) + roundDiv (c.q3 * t * t * t * t) (8 * 2 ^ 48 * 10 ^ 39)
  | 0, 2 => roundDiv (c.q3 * t * t * t) (6 * 2 ^ 16 * 10 ^ 27)
  | 1, 1 => roundDiv (c.q2 * t) (10 ^ 12) + roundDiv (c.q3 * t * t * t) (3 * 2 ^ 32 * 10 ^ 36)
  | 1, 2 => roundDiv (c.q3 * t * t) (2 * 10 ^ 24)
  | 2, 2 => roundDiv (c.q3 * t * 2 ^ 32) (10 ^ 12)
  | _, _ => 0

/-- A table over the 24 states. -/
def covTable (f : Nat → Nat → Int) : List (List Int) := (List.range 24).map fun i => (List.range 24).map fun j => f i j

/-- States and covariance `t` ps later (R139, R140). -/
def predict (cfg : List MeldSlotCfg) (t : Nat) (x : List Int) (c : List (List Int)) : List Int × List (List Int) :=
  ((List.range 24).map fun i => roundDivI (formAt x (stepForm t i)) formDen.toNat,
   covTable fun i j => roundDivI (formCov c (stepForm t i) (stepForm t j)) (formDen * formDen).toNat +
    (if i / 3 = j / 3 then (diffusion (nth cfg (i / 3)) t (min (i % 3) (j % 3)) (max (i % 3) (j % 3)) : Nat) else 0))

/-- The covariance of the difference of a slot's phase from that of slot 0 with every state (R138). -/
def obsCov (c : List (List Int)) (k i : Nat) : Int := covAt c i (3 * k) - covAt c i 0

/-- The variance of the mean of `n` samples of a slot, in (2⁻⁴⁸ ns)² (R140). -/
def sampleVar (cfg : MeldSlotCfg) (n : Nat) : Nat := ceilDiv (cfg.wpm * cfg.wpm * 2 ^ 64) (max 1 n)

/-- The innovation of a measured phase in 2⁻⁴⁸ ns, and its predicted variance (R142). -/
def innovation (cfg : MeldSlotCfg) (k : Nat) (z : Int) (n : Nat) (x : List Int) (c : List (List Int)) : Int × Int :=
  (z - (x.getD (3 * k) 0 - x.getD 0 0), max 1 (obsCov c k (3 * k) - obsCov c k 0 + (sampleVar cfg n : Nat)))

/-- The normalised innovation exceeds GATE_K/16 (R142). -/
def gated (gateK : Nat) (v : Int × Int) : Bool := decide (16 * v.1 * (16 * v.1) > (gateK : Int) * gateK * v.2)

/-- One measurement is absorbed (R140). -/
def absorb (cfg : MeldSlotCfg) (k : Nat) (z : Int) (n : Nat) (s : List Int × List (List Int)) : List Int × List (List Int) :=
  let v := innovation cfg k z n s.1 s.2
  (s.1.zipIdx.map fun (a, i) => a + roundDivI (obsCov s.2 k i * v.1) v.2.toNat,
   covTable fun i j => covAt s.2 i j - roundDivI (obsCov s.2 k i * obsCov s.2 k j) v.2.toNat)

/-- A slot starts over with a measured phase: its frequency and drift are kept, and their covariances are those of Y0 and D0 (R142). -/
def restartSlot (cfg : MeldSlotCfg) (k : Nat) (z : Int) (n : Nat) (s : List Int × List (List Int)) : List Int × List (List Int) :=
  let base := fun (i j : Nat) => covAt s.2 (if i = 3 * k then 0 else i) (if j = 3 * k then 0 else j)
  let seed := fun (w : Nat) => ((w / 2 * (w / 2) : Nat) : Int)
  (s.1.zipIdx.map fun (a, i) => if i = 3 * k then z + s.1.getD 0 0 else a,
   covTable fun i j =>
    if i = 3 * k ∧ j = 3 * k then covAt s.2 0 0 + (sampleVar cfg n : Nat)
    else if i = 3 * k + 1 ∧ j = 3 * k + 1 then seed cfg.y0
    else if i = 3 * k + 2 ∧ j = 3 * k + 2 then seed cfg.d0
    else if (i / 3 = k ∧ i % 3 ≠ 0) ∨ (j / 3 = k ∧ j % 3 ≠ 0) then 0
    else base i j)

/-- The covariance of a Meld that starts: slot 0 has its seeds (R139). -/
def seedCov (cfg : MeldSlotCfg) : List (List Int) :=
  covTable fun i j => if i = 1 ∧ j = 1 then (cfg.y0 / 2 * (cfg.y0 / 2) : Nat) else if i = 2 ∧ j = 2 then (cfg.d0 / 2 * (cfg.d0 / 2) : Nat) else 0

/-- Weights that stand for ensemble time: those of the ENSEMBLE members, or slot 0 alone, in 2⁻⁶⁴ (R141). -/
def gaugeOf (raw : List Nat) : List Nat :=
  let sum := raw.foldl (· + ·) 0
  if sum = 0 then [2 ^ 64] else raw.map fun w => roundDiv (w * 2 ^ 64) sum

/-- The weighted mean of the states of one kind. -/
def gaugeMean (w : List Nat) (kind : Nat) (x : List Int) : Int :=
  roundDivI (w.zipIdx.foldl (fun a e => a + (e.1 : Int) * x.getD (3 * e.2 + kind) 0) 0) (w.foldl (· + ·) 0)

/-- Frequencies and drifts are stated against ensemble time: their weighted means are 0 (R141). -/
def gaugeRates (w : List Nat) (used : List Bool) (x : List Int) : List Int :=
  let y := gaugeMean w 1 x
  let d := gaugeMean w 2 x
  x.zipIdx.map fun (a, i) => if !used.getD (i / 3) false then a else if i % 3 = 1 then a - y else if i % 3 = 2 then a - d else a

/-- Phases are changed by what they have moved against their weighted mean: ensemble time takes no innovation (R141). -/
def gaugePhases (w : List Nat) (used : List Bool) (before x : List Int) : List Int :=
  let m := gaugeMean w 0 x - gaugeMean w 0 before
  x.zipIdx.map fun (a, i) => if used.getD (i / 3) false && i % 3 == 0 then a - m else a

/-- The covariance against ensemble time (R141). -/
def gaugeCov (w : List Nat) (used : List Bool) (c : List (List Int)) : List (List Int) :=
  let t : Int := (w.foldl (· + ·) 0 : Nat)
  let form := fun (i : Nat) => if used.getD (i / 3) false then (i, t) :: w.zipIdx.map fun e => (3 * e.2 + i % 3, -(e.1 : Int)) else [(i, t)]
  covTable fun i j => roundDivI (formCov c (form i) (form j)) (t * t).toNat

/-- The flat states of the slots, and back. -/
def flatten (l : List MeldEst) : List Int := (List.range 8).flatMap fun k => let e := nth l k; [e.phase, e.freq, e.drift]
def unflatten (x : List Int) (k : Nat) : MeldEst :=
  { phase := x.getD (3 * k) 0, freq := x.getD (3 * k + 1) 0, drift := x.getD (3 * k + 2) 0 }

/-! ### The Hadamard fit (R149) -/

/-- Runs of phases that follow one another by less than one and a half update intervals, newest first. -/
def learnRuns : List (Nat × Int) → List (List (Nat × Int))
  | [] => []
  | e :: es =>
    match learnRuns es with
    | (f :: fs) :: rs => if e.1 < f.1 + 93750000000 then (e :: f :: fs) :: rs else [e] :: (f :: fs) :: rs
    | rs => [e] :: rs

/-- Every `m`-th value of a list. -/
def everyNth (m : Nat) (l : List Int) : List Int := (l.zipIdx.filter fun e => e.2 % m == 0).map (·.1)

/-- The squares of the third differences of phases, summed, and their number. -/
def thirdSums : List Int → Nat × Nat
  | a :: b :: c :: d :: l =>
    let r := thirdSums (b :: c :: d :: l)
    let v := d - 3 * c + 3 * b - a
    (r.1 + v.natAbs * v.natAbs, r.2 + 1)
  | _ => (0, 0)

/-- τ²·σ²_H at 2ᵏ updates with the number of its terms, when the accumulation has at least 16 such intervals (R149). -/
def hadamardAt (runs : List (List Int)) (k : Nat) : Option (Nat × Nat) :=
  let subs := runs.map (everyNth (2 ^ k))
  let s := subs.foldl (fun a l => let r := thirdSums l; (a.1 + r.1, a.2 + r.2)) (0, 0)
  if subs.foldl (fun a l => a + (l.length - 1)) 0 < 16 ∨ s.2 = 0 then none else some (roundDiv s.1 (6 * s.2), s.2)

/-- The determinant of a symmetric or other 3 by 3 table, given by rows. -/
def det3 (a b c d e f g h i : Int) : Int := a * (e * i - f * h) - b * (d * i - f * g) + c * (d * h - e * g)

/-- Q_LEARNED of accumulated phases in 2⁻⁴⁸ ns: the fit of a + b·τ + c·τ³ to τ²·σ²_H with weights n/(2·v²), b plus twice its standard
error, in 2⁻⁹⁶ s (R149). -/
def hadamardFit (l : List (Nat × Int)) : Nat :=
  let runs := (learnRuns l).map fun r => r.map (·.2)
  let pts := (List.range 17).filterMap fun k => (hadamardAt runs k).map fun v => (((2 ^ k : Nat) : Int), (max 1 v.1 : Nat), v.2)
  let w := fun (v n : Nat) => ((n * 2 ^ 500 / (2 * v * v) : Nat) : Int)
  let m := fun (p : Nat) => pts.foldl (fun a e => a + w e.2.1 e.2.2 * e.1 ^ p) 0
  let r := fun (p : Nat) => pts.foldl (fun a e => a + w e.2.1 e.2.2 * (e.2.1 : Nat) * e.1 ^ p) 0
  let det := det3 (m 0) (m 1) (m 3) (m 1) (m 2) (m 4) (m 3) (m 4) (m 6)
  if det ≤ 0 ∨ pts.length < 3 then 0
  else
    let b := roundDivI (det3 (m 0) (r 0) (m 3) (m 1) (r 1) (m 4) (m 3) (r 3) (m 6)) det.toNat
    let cof := m 0 * m 6 - m 3 * m 3
    let se := isqrtUp (ceilDiv (cof * (2 ^ 500 : Nat)).toNat det.toNat)
    ceilDiv ((b + 2 * se) * 16).toNat (10 ^ 18)

end Sys2Proof.Machine
end

