-- ==== Sys2Proof/Machine/HandOps.lean ====
section
/-! DEFINITION. The closing of a hand, and what every step of the counter does (R23, R27, R28). -/
namespace Sys2Proof.Machine
open Sys2Proof

/-- A hand closes and the hand number advances (R27, R28). -/
def closeHand (s : State) : State :=
  let s := if s.svc.refusalHand = some s.hand.number then raise 9 0 s else s
  { s with hand := { s.hand with number := (s.hand.number + 1) % 2 ^ 32 } }

/-- The number of the millisecond of a counter value (R27). -/
def msOf (c : Counter) : Nat := c.sec * 1000 + c.ns / 1000000

/-- The counter passed a multiple of one millisecond with the increment of the present tick, and the boundary has not been taken (R27). -/
def passedBoundary (c : Counter) (s : State) : Bool :=
  decide (c.total ≥ 1000000 * 2 ^ 48 ∧ c.total % (1000000 * 2 ^ 48) < nextInc s.time) && s.hand.lastTick != some (s.now / tickPs) &&
    s.time.lastStepTick != some (s.now / tickPs)

/-- After the counter has been changed on one tick: the step epoch, the hand, the windows and STEP_APPLIED (R23, R28, R81, R152). -/
def afterStep (before : Counter) (s : State) : State :=
  let own := passedBoundary before s
  let s := { s with
    time := { s.time with
      stepEpoch := (s.time.stepEpoch + 1) % 2 ^ 32
      lastStepTick := some (s.now / tickPs)
      lastStep := ((s.time.counter.total : Int) - before.total) / (2 ^ 32 : Nat) } }
  let s := restartWindow s
  let s := { s with refs := s.refs.map fun r => { r with
    winStart := s.now, winUpdates := 0, winDone := r.winDone, hist := [], jumpBase := false, marks := (s.now, s.incSum) :: r.marks } }
  let s := if own || msOf before ≠ msOf s.time.counter then closeHand s else s
  raise 4 1 s

/-- The counter steps by an offset in 2⁻¹⁶ ns on this tick (R42). -/
def stepCounter (off : Int) (s : State) : State :=
  let c := s.time.counter
  occur 0x2B 0 (afterStep c { s with time := { s.time with counter := counterOf ((c.total : Int) + off * (2 ^ 32 : Nat)).toNat } })

/-- A step would leave the range of SECONDS (R42). -/
def stepOutOfRange (off : Int) (s : State) : Bool :=
  let v := (s.time.counter.total : Int) + off * (2 ^ 32 : Nat)
  decide (v < 0) || decide (v ≥ ((2 ^ 48 * 1000000000 * 2 ^ 48 : Nat) : Int))

/-- The counter is loaded with a time in 2⁻¹⁶ ns and time is marked valid (R40, R45). -/
def loadCounter (ts : Nat) (s : State) : State :=
  let c := s.time.counter
  let was := s.time.valid
  let s := occur 0x2B 1 (afterStep c { s with time := { s.time with counter := counterOf (ts * 2 ^ 32), valid := true } })
  if was then s else raise 4 0 s

/-- The remaining slew is discarded (R45, R47, R128). -/
def dropSlew (s : State) : State := { s with time := { s.time with slewing := false, slewRem := 0, slewInc := 0, lastSlew := none } }

/-- SLEW_INC of a rate limit (R46). -/
def slewIncOf (limit : Nat) : Nat := limit / 40960

/-- A slew runs with a remaining offset in 2⁻⁴⁸ ns (R46). -/
def runSlew (owner : SlewOwner) (rem : Int) (limit : Nat) (s : State) : State :=
  let inc := slewIncOf limit
  let last := if owner == .tdpll then some (s.now, rem, inc) else none
  { s with time := { s.time with slewing := true, slewOwner := owner, slewRem := rem, slewInc := inc, lastSlew := last } }

/-- A pending step or set is cancelled (R44). -/
def cancelPending (s : State) : State :=
  match s.time.pend with
  | none => s
  | some _ => raise 4 2 { s with time := { s.time with pend := none } }

/-- The bound side of a set by the host: B0 is the claimed bound and the origin moves to this tick (R115, R158). -/
def setBound (bnd : Nat) (s : State) : State := raise 5 6 (setOrigin (boundOfPs bnd) s)

/-- The bound side of a step or slew by the host: B0 grows by its magnitude (R115, R158). -/
def widenB0 (off : Int) (s : State) : State :=
  raise 5 6 { s with hold := { s.hold with b0 := s.hold.b0.map (· + offBound off) } }

/-- A host step is applied (R42, R115). -/
def hostStep (off : Int) (s : State) : State := settleBound (widenB0 off (stepCounter off s))

/-- A host set is the reference instant of NTP, and marks time as hand set (R319, R353). -/
def noteSet (ts : Nat) (s : State) : State := { s with time := { s.time with refTime := ts, hostSet := true } }

/-- A host set is applied (R45, R115). -/
def hostSet (ts bnd : Nat) (s : State) : State :=
  settleBound (setBound bnd (dropSlew (noteSet ts (loadCounter ts s))))

/-! ### UTC (R50 to R58) -/

/-- The latest future entry at or before a second. -/
def latestFuture (l : List LeapEntry) (sec : Nat) : Option LeapEntry :=
  l.foldl (fun m e => if e.leapTai ≤ sec then some e else m) none

/-- The offset in force at a TAI second (R52). -/
def offsetInForce (t : TimePart) (sec : Nat) : Int :=
  match latestFuture t.future sec with
  | some e => e.newOffset
  | none =>
    match t.past with
    | some p => if p.entry.leapTai ≤ sec then p.entry.newOffset else p.preceding
    | none => t.currentOffset

/-- The offset in force now. -/
def offsetNow (s : State) : Int := offsetInForce s.time s.time.counter.sec

/-- The offsets that precede the future entries, in order, with the retained past entry in front (R58). -/
def smearEntries (t : TimePart) : List (Nat × Int × Int) :=
  let past := match t.past with | some p => [(p.entry.leapTai, p.preceding, p.entry.newOffset)] | none => []
  let fut := (t.future.foldl (fun (a : List (Nat × Int × Int) × Int) e =>
    (a.1 ++ [(e.leapTai, a.2, e.newOffset)], e.newOffset)) ([], t.currentOffset)).1
  past ++ fut

/-- The smear window that holds a time in 2⁻¹⁶ ns: its start second, old and new offset (R58). -/
def smearAt (t : TimePart) (ts : Nat) : Option (Int × Int × Int) :=
  ((smearEntries t).find? fun e =>
    let w0 : Int := (e.1 : Int) + t.smearStart
    decide (w0 * (tsSec : Int) ≤ (ts : Int)) && decide ((ts : Int) < (w0 + 86400) * (tsSec : Int))).map
      fun e => ((e.1 : Int) + t.smearStart, e.2.1, e.2.2)

/-- A leap entry fits after the one before it: the entry-acceptance rule (R51). -/
def leapOk (prevOffset : Int) (prevTai : Option Nat) (e : LeapEntry) : Bool :=
  ((e.newOffset - prevOffset).natAbs == 1) && ((e.leapTai : Int) - e.newOffset) % 86400 == 0 &&
  (match prevTai with | none => true | some p => decide (e.leapTai ≥ p + 86400))

/-- A sorted list of entries passes R51, the first against an offset. -/
def leapsOk : Int → Option Nat → List LeapEntry → Bool
  | _, _, [] => true
  | off, prev, e :: es => leapOk off prev e && leapsOk e.newOffset (some e.leapTai) es

/-- What an AUTO source announces: its current offset, and a leap with its second and new offset (R54). -/
structure LeapNews where
  offset : Option Int := none
  leap : Option (Nat × Int) := none
  source : LeapSource := .gnss

/-- A current offset from an AUTO source: it confirms or conflicts (R55). -/
def takeOffset (o : Int) (s : State) : State :=
  if o = s.time.currentOffset then { s with time := { s.time with utcConfirmed := true } } else raise 4 5 s

/-- The leap table and CURRENT_OFFSET as the Declarer forwards them (R408). -/
def forwardLeap (s : State) : State := forward (.leap s.time.future s.time.past s.time.currentOffset) s

/-- A leap from an AUTO source: passed, known, conflicting, without room, or entered (R51, R55). -/
def takeLeap (sec : Nat) (off : Int) (src : LeapSource) (s : State) : State :=
  let t := s.time
  if t.future.any (fun e => e.leapTai = sec ∧ e.newOffset = off) then s
  else if (match t.past with | some p => decide (p.entry.leapTai = sec ∧ p.entry.newOffset = off) | none => false) then s
  else if sec ≤ t.counter.sec then
    if offsetInForce t sec = off then s else raise 4 5 s
  else
    let e : LeapEntry := { leapTai := sec, newOffset := off, source := src }
    let l := insertBy (fun a b => decide (a.leapTai < b.leapTai)) e t.future
    if t.future.length < 8 && leapsOk t.currentOffset (t.past.map (·.entry.leapTai)) l then
      forwardLeap { s with time := { t with future := l } }
    else raise 4 5 s

/-- UTC information of the T-DPLL's selected candidate under policy AUTO (R54, R55). -/
def takeLeapNews (n : LeapNews) (s : State) : State :=
  if !s.time.policyAuto then s
  else
    let s := match n.offset with | some o => takeOffset o s | none => s
    match n.leap with | some (sec, off) => takeLeap sec off n.source s | none => s

end Sys2Proof.Machine
end

