-- ==== Sys2Proof/Machine/DpllOps.lean ====
section
/-! DEFINITION. The DPLLs: rate words, the loop filter, entry to and exit from holdover, samples (R101 to R123, R600). -/
namespace Sys2Proof.Machine
open Sys2Proof

/-- A sample as a source block or stamper delivers it to the monitor: stamp and phase offset in 2⁻¹⁶ ns, validity of
the phase, claimed uncertainty in ps, stamping uncertainty in 2⁻⁸ ps, mean path delay, nominal period in ps. -/
structure Sample where
  stamp : Nat := 0
  offset : Int := 0
  phaseOk : Bool := true
  unc : Nat := 0
  stampUnc : Nat := 0
  pathDelay : Int := 0
  period : Nat := 1000000000000
  /-- The exact nominal period in ps as a quotient (R79). -/
  perNum : Nat := 1000000000000
  perDen : Nat := 1
  /-- The source's own time by its events, for a source without time of day, in 2⁻¹⁶ ns (R102). -/
  nomTime : Int := 0
  /-- A FREQUENCY or PHASE source: its samples carry no time of day of their own. -/
  freqOnly : Bool := false
  /-- The step epoch of the stamp, when it may differ from the present one (R23, R186). -/
  ep : Option Nat := none
  /-- The time from the stamped instant to the delivery, in ps (R182). -/
  lag : Nat := 0
  /-- The event has been counted, and its ACTIVITY judged, at its own instant (R96, R599). -/
  counted : Bool := false
  deriving DecidableEq, Repr, Inhabited

def updDpll (d : Nat) (f : DpllRun → DpllRun) (s : State) : State := { s with dplls := upd s.dplls d f }
def dpllOf (s : State) (d : Nat) : DpllRun := nth s.dplls d
def dpllCfg (s : State) (d : Nat) : DpllCfg := nth s.work.dplls d

/-- The rate word of a domain. -/
def rateOf (s : State) (d : Nat) : Nat := if d = 0 then s.time.rate else s.time.fdomRate.getD (d - 1) rateNom

/-- A rate word is applied to a domain, clamped to its range; the clamp is reported (R37, R39, R600). -/
def setRate (d : Nat) (r : Int) (s : State) : State :=
  let v := (clampI (rateMin : Int) (rateMax : Int) r).toNat
  let clamped := decide (r < (rateMin : Int)) || decide ((rateMax : Int) < r)
  let s := if d = 0 then { s with time := { s.time with rate := v } }
    else { s with time := { s.time with fdomRate := s.time.fdomRate.set (d - 1) v } }
  let s := updDpll d (fun x => { x with rateClamped := clamped, rateHist := (s.now, v) :: x.rateHist }) s
  let s := bump (64 * 4 + 32) s
  if clamped then raise 4 12 s else s

/-- The loop's natural frequency in 2⁻⁶⁴ s⁻¹ for a bandwidth in µHz and a damping in 1/1,024 (R600). -/
def omegaN (bw damping : Nat) : Nat :=
  let a := (1048576 + 2 * damping * damping) * 2 ^ 64 / 1048576
  let root := isqrt ((a + isqrt (a * a + 2 ^ 128)) * 2 ^ 64)
  115904311329233965478 * bw / 1000000 * 2 ^ 64 / root

/-- The effective bandwidth for a bandwidth and a sample period in ps (R103). -/
def effBw (bw period : Nat) : Nat := min bw (50000000000000000 / max 1 period)

/-- The bandwidth that the loop's state asks for (R104). -/
def wantBw (c : DpllCfg) (st : DpllState) : Nat :=
  match st with
  | .acquiring => if c.acqBw = 0 then c.bw else c.acqBw
  | .returning => if c.acqBw = 0 then c.bw else c.acqBw
  | _ => c.bw

/-- The bandwidth that a domain's loop is to run at, before the limit by the sample rate (R104, R402). -/
def bwAsked (s : State) (d : Nat) : Nat :=
  if d = 0 ∧ isDummy s then s.work.pair.followBw else wantBw (dpllCfg s d) (dpllOf s d).state

/-- The integral path after a sample with error `e` and spacing `dt`, both in 2⁻¹⁶ ns; the path is in 2⁻⁹⁶ (R600). -/
def integNext (wn : Nat) (i e dt : Int) : Int :=
  i + roundDivI ((wn * wn / 2 ^ 64 : Nat) * e * dt * (2 ^ 32 : Nat)) (tsSec * tsSec)

/-- The frequency that the filter asks for, in 2⁻⁶⁴ (R600). -/
def loopFreq (wn damping : Nat) (i e : Int) : Int :=
  roundDivI i (2 ^ 32) + roundDivI ((2 * damping * wn / 1024 : Nat) * e) tsSec

/-- The limit that FREQ_SLEW sets on a change of frequency over `dt` in 2⁻¹⁶ ns (R101). -/
def slewFreq (limit : Nat) (old new dt : Int) : Int :=
  if limit = 0 then new
  else
    let m : Int := (limit : Int) * dt.natAbs / (tsSec : Int)
    clampI (old - m) (old + m) new

/-- The mean rate word over a window that ends at `stop` and begins at `start`, in ps, from the history (R109). -/
def meanRate (hist : List (Nat × Nat)) (start stop : Nat) : Option Nat :=
  let go := hist.foldl (fun (acc : Nat × Nat × Nat) (e : Nat × Nat) =>
    let hi := min acc.1 stop
    let lo := max e.1 start
    let w := (hi - lo) / tickPs
    (e.1, acc.2.1 + w * e.2, acc.2.2 + w)) (stop, 0, 0)
  if go.2.2 = 0 then none else some (roundDiv go.2.1 go.2.2)

/-- HOLD_AVG and HOLD_GUARD in ps by code (R109). -/
def holdAvgPs (c : Nat) : Nat := ([1, 10, 100, 1000] : List Nat).getD c 0 * secPs
def holdGuardPs (c : Nat) : Nat := ([0, 1, 10, 100] : List Nat).getD c 0 * secPs

/-- The hold frequency as a rate word on entry to HOLDOVER with HOLD_SOURCE 0 (R109). -/
def holdRate (d : Nat) (s : State) : Nat :=
  let c := dpllCfg s d
  let x := dpllOf s d
  let stop := s.now - holdGuardPs c.holdGuard
  let start := max (x.acqSince.getD s.now) (stop - holdAvgPs c.holdAvg)
  (meanRate x.rateHist start stop).getD (rateOf s d)

/-- Learning pauses: the locked time so far is kept (R117). -/
def pauseLearning (s : State) : State :=
  match s.hold.learnSince with
  | none => s
  | some t => { s with hold := { s.hold with learnedPs := s.hold.learnedPs + (s.now - t), learnSince := none } }

/-- Learning restarts from nothing: LEARNED clears (R117, R127, R164). -/
def restartLearning (s : State) : State :=
  { s with
    hold := { s.hold with learned := false, learnedPs := 0, aLearned := 0, dLearned := 0, qLearned := 0
                          learnSince := s.hold.learnSince.map (fun _ => s.now) }
    meld := { s.meld with learnPhase := [] } }

/-- The choice of a domain becomes none; `b` is the counter's bound on the last tick before (R105, R109, R112). -/
def dpllNone (d : Nat) (b : Option Nat) (s : State) : State :=
  let x := dpllOf s d
  if !tracking x.state then s
  else if d = 0 ∨ x.everLocked then
    let s := if (dpllCfg s d).holdSource = 0 then setRate d (holdRate d s) s else s
    let m := meldThen s
    let k := (meldSlotOf s.work s.work.hold.holdClock).getD 0
    let s := updDpll d (fun x => { x with
      state := .holdover, holdFreq := freqOfRate (rateOf s d), lockSince := none, returnSlewing := false, buildPending := false
      holdPs := s.now, holdInc := s.incSum, predFreq := (nth m.slots k).est.freq, predDrift := (nth m.slots k).est.drift }) s
    if d = 0 then
      let s := if s.time.slewing && s.time.slewOwner == .tdpll then dropSlew s else s
      let s := pauseLearning s
      raise 4 7 (setOrigin b { s with bound := { s.bound with held := none } })
    else raise 4 (18 + d) s
  else setRate d rateNom (updDpll d (fun x => { x with state := .freeRun, lockSince := none }) s)

/-- What every entry to ACQUIRING or RETURNING sets. The lock timer waits for a phase error of the new state; the history
of the rate word runs from the last entry to ACQUIRING, or from the first entry of all (R104, R109, R123, R600). -/
def enterTracking (d : Nat) (st : DpllState) (s : State) : State :=
  updDpll d (fun x => { x with
    state := st, integ := freqOfRate (rateOf s d) * (2 ^ 32 : Nat), first := true, buildPending := false
    returnSlewing := (st == .returning), lockSince := none, phaseErr := 0
    acqSince := if st == .acquiring || x.acqSince.isNone then some s.now else x.acqSince
    rateHist := if st == .acquiring || x.acqSince.isNone then [(s.now, rateOf s d)] else x.rateHist, estStart := none, points := [] }) s

/-- A source is a PHASE source (R70). -/
def isPhaseSrc (c : Cfg) (o : Nat) : Bool := kindOf o == .refin && (nth c.refs o).mode == 0

/-- A sample's phase can still be compared: it was valid, and no step has come since (R81, R601). -/
def phaseUsable (s : State) (o : Nat) : Bool :=
  let r := nth s.refs o
  r.hasSample && r.phaseValid && r.epoch == s.time.stepEpoch

/-- The tracking side of the bound starts with a candidate (R152, R158). -/
def startTrackBound (o : Nat) (s : State) : State :=
  let r := nth s.refs o
  { s with
    bound := { s.bound with window := [], held := none, lastSamplePs := r.samplePs, delay := r.pathDelay }
    hold := { s.hold with origin := none } }

/-- The T-DPLL leaves free-run or holdover for the candidate `o`: with a load, or else with a step or a slew (R105, R121, R122, R128). -/
def tEnterBy (o : Nat) (unb step : Bool) (s : State) : State :=
  if !phaseUsable s o then s
  else
    let j := (nth s.refs o).phase
    let s := dropSlew (cancelPending s)
    let s := { s with time := { s.time with refTime := (nth s.refs o).stamp } }
    if unb then
      let s := if isPhaseSrc s.work o then stepCounter j s else loadCounter ((curTs s : Int) + j).toNat s
      let s := startTrackBound o (enterTracking 0 .acquiring s)
      raise 5 6 { s with bound := { s.bound with dist := 0, fDist := 0, parts := [] }
                         hold := { s.hold with absent := false, clampStands := false, failedStands := false, leftStands := false } }
    else if step then
      disturb (offBound j) 0 (startTrackBound o (enterTracking 0 .acquiring (stepCounter j s)))
    else
      raise 4 8 (startTrackBound o (enterTracking 0 .returning
        (runSlew .tdpll (j * (2 ^ 32 : Nat)) (dpllCfg s 0).returnSlew s)))

/-- The selector's candidate is taken: with an unbounded bound it loads the counter (R105). -/
def tEnter (o : Nat) (step : Bool) (s : State) : State := tEnterBy o (counterBound s).isNone step s

/-- A candidate that JUMP_ACCEPT names is taken by a step or by a slew, whatever the bound; without valid time it loads the counter
(R105, R122). -/
def tAccept (o : Nat) (step : Bool) (s : State) : State := tEnterBy o (!s.time.valid) step { s with hold := { s.hold with accepted := none } }

/-- An F-DPLL leaves free-run or holdover: the phase is built out and the held frequency kept (R105, R107). -/
def fEnter (d : Nat) (s : State) : State :=
  updDpll d (fun x => { x with buildPending := true }) (enterTracking d .acquiring s)

/-- The selector hands another candidate to a DPLL that tracks (R104, R105, R106, R107). `held` are the terms of the
candidate before (R152). -/
def dpllSwitch (d : Nat) (held : HeldTerms) (s : State) : State :=
  let s := updDpll d (fun x => { x with buildPending := true, first := true, lockSince := none }) s
  if d = 0 then { s with bound := { s.bound with held := some held } } else s

/-- The accumulator of an F-domain `lag` ps before the present instant, 2⁻¹⁶ ns (R39, R102). -/
def fdomNow (s : State) (d lag : Nat) : Int :=
  ((s.time.fdomAcc.getD (d - 1) 0 + s.now % tickPs * rateOf s d / tickPs - lag * rateOf s d / tickPs) / 2 ^ 32 : Nat)

/-- The loop filter takes one phase error; `stamp` is the sample's stamp in the domain's time (R600, R103). -/
def loopSample (d : Nat) (e : Int) (stamp period : Nat) (s : State) : State :=
  let x := dpllOf s d
  let c := dpllCfg s d
  let wn := omegaN (effBw (bwAsked s d) period) c.damping
  let dt : Int := if x.first || x.prevEpoch != s.time.stepEpoch then (period * 65536 / 1000 : Nat) else (stamp : Int) - x.prevStamp
  let i := integNext wn x.integ e dt
  let f := slewFreq c.freqSlew (freqOfRate (rateOf s d)) (loopFreq wn c.damping i e) dt
  let s := setRate d (rateOfFreq f) s
  updDpll d (fun x => { x with integ := i, first := false, prevStamp := stamp, prevEpoch := s.time.stepEpoch
                               phaseErr := e }) s

/-- The lock timer runs while the phase error stays within LOCK_PHASE (R104). -/
def lockTrack (d : Nat) (e : Int) (s : State) : State :=
  let c := dpllCfg s d
  updDpll d (fun x =>
    if e.natAbs > c.lockPhase then { x with lockSince := none }
    else if x.returnSlewing then x
    else { x with lockSince := some (x.lockSince.getD s.now) }) s

/-- The point of the frequency estimate (R123). -/
def estPoint (d : Nat) (e : Int) (stamp : Nat) (s : State) : State :=
  updDpll d (fun x => { x with estStart := some (x.estStart.getD s.now)
                               points := { epoch := s.time.stepEpoch, stamp, err := e } :: x.points }) s

/-- The remaining offset of the T-DPLL's own slew `lag` ps before the present instant, 2⁻⁴⁸ ns (R46, R106). -/
def slewRemAt (lag : Nat) (s : State) : Int :=
  if lag = 0 then (if s.time.slewing && s.time.slewOwner == .tdpll then s.time.slewRem else 0)
  else match s.time.lastSlew with
    | some (start, off, inc) => withSign off (off.natAbs - ((s.now - lag) / tickPs - start / tickPs) * inc)
    | none => 0

/-- A sample of the T-DPLL's selected candidate reaches the loop (R106, R152, R600). -/
def tSample (o : Nat) (p : Sample) (s : State) : State :=
  let s := { s with time := { s.time with refTime := p.stamp } }
  let x := tdpll s
  let build := x.buildPending
  let s := if build then
      startTrackBound o (updDpll 0 (fun x => { x with buildPending := false, returnSlewing := x.state == .returning })
        (runSlew .tdpll (p.offset * (2 ^ 32 : Nat)) (dpllCfg s 0).slewLimit s))
    else s
  let rem := truncDivI (slewRemAt p.lag s) (2 ^ 32)
  let e := p.offset - rem
  let s := loopSample 0 e p.stamp p.period s
  let s := estPoint 0 e p.stamp (lockTrack 0 e s)
  clearDist { s with bound := { s.bound with
    held := none
    window := ({ unc := p.unc, stampUnc := p.stampUnc, err := e, ps := s.now - p.lag } :: s.bound.window).take s.work.bound.nTrack
    delay := p.pathDelay
    lastSamplePs := s.now - p.lag } }

/-- A sample of an F-DPLL's selected candidate reaches the loop (R102, R107, R600). -/
def fSample (d : Nat) (p : Sample) (s : State) : State :=
  let acc := fdomNow s d p.lag
  let off := (if p.freqOnly then p.nomTime else (p.stamp : Int) + p.offset) - acc
  let s := if (dpllOf s d).buildPending then
      updDpll d (fun x => { x with buildPending := false, buildOut := off }) s else s
  let e := off - (dpllOf s d).buildOut
  estPoint d e acc.toNat (lockTrack d e (loopSample d e acc.toNat p.period s))

/-- The least-squares slope of the points, common over the epochs, in 2⁻⁶⁴; none without two points of one epoch (R123). -/
def slopeOf (pts : List FreqPoint) : Option Int :=
  let epochs := (pts.map (·.epoch)).eraseDups
  let groups := (epochs.map fun e => pts.filter (fun p => p.epoch == e)).filter (fun g => decide (g.length ≥ 2))
  let den := groups.foldl (fun a g => a * g.length) 1
  let sums := groups.foldl (fun (a : Int × Int) g =>
    let n : Int := g.length
    let x0 : Int := (g.headD default).stamp
    let sx := g.foldl (fun t p => t + ((p.stamp : Int) - x0)) 0
    let sy := g.foldl (fun t p => t + p.err) 0
    let sxy := g.foldl (fun t p => t + ((p.stamp : Int) - x0) * p.err) 0
    let sxx := g.foldl (fun t p => t + ((p.stamp : Int) - x0) * ((p.stamp : Int) - x0)) 0
    let w : Int := (den / g.length : Nat)
    (a.1 + (n * sxy - sx * sy) * w, a.2 + (n * sxx - sx * sx) * w)) (0, 0)
  if sums.2 ≤ 0 then none else some (roundDivI (sums.1 * (2 ^ 64 : Nat)) sums.2.toNat)

/-- The length of an estimate interval in ps (R123). -/
def estLen (period : Nat) : Nat := max 62500000000 (4 * period)

/-- A domain enters LOCKED (R104, R105, R113, R114, R116, R158). -/
def enterLocked (d : Nat) (s : State) : State :=
  let s := updDpll d (fun x => { x with state := .locked, everLocked := true, lockCount := (x.lockCount + 1) % 2 ^ 32 }) s
  if d = 0 then
    let s := { s with
      hold := { s.hold with absent := false, clampStands := false, failedStands := false, leftStands := false
                            aFloor := 0, dFloor := 0, qFloor := 0
                            learnSince := if s.work.meld.enable then some s.now else none }
      bound := { s.bound with excHold := false } }
    raise 4 6 (clearDist s)
  else raise 4 (15 + d) s

end Sys2Proof.Machine
end

