-- ==== Sys2Proof/Machine/RefOps.lean ====
section
/-! DEFINITION. Monitors, qualification and selection: checks, state changes, jump findings, the choice, splits (R70 to
R92, R119 to R122, R598 to R601). -/
namespace Sys2Proof.Machine
open Sys2Proof

def refOf (s : State) (o : Nat) : RefRun := nth s.refs o
def refCfg (s : State) (o : Nat) : RefCfg := nth s.work.refs o
def refPol (s : State) (o : Nat) : RefPol := nth s.work.pols o
def updRef (o : Nat) (f : RefRun → RefRun) (s : State) : State := { s with refs := upd s.refs o f }

/-- The class of a source (R70). -/
inductive SrcClass where
  | time
  | phase
  | freq
  deriving DecidableEq, Repr

/-- A PTP instance that is configured as frequency-only (R70). -/
def ptpFreqOnly (c : Cfg) (i : Nat) : Bool := match getKey i c.ptp with | some p => bit p.flags 1 | none => false

def classOfSrc (c : Cfg) (o : Nat) : SrcClass :=
  match kindOf o with
  | .refin => if (nth c.refs o).mode = 0 then .phase else if (nth c.refs o).mode = 1 then .freq else .time
  | .synce => .freq
  | .gnss => .time
  | .ptp => if ptpFreqOnly c (o - 29) then .freq else .time
  | .partner => .time
  | .ap => .freq

/-- CAUSE bits (R96). -/
def cActivity : Nat := 0
def cFreqHard : Nat := 1
def cPhaseJump : Nat := 2
def cPhaseLimit : Nat := 3
def cUncertainty : Nat := 4
def cHealth : Nat := 5
def cTodLabel : Nat := 6
def cOutlier : Nat := 7
def cConfig : Nat := 8

/-- Set or clear a bit of a mask. -/
def putBit (w k : Nat) (v : Bool) : Nat := if v then setBit w k else clrBit w k

/-- A latched event of a source (R96), and its summary cause of class 3 (R93). -/
def refEvent (o ev : Nat) (cause : Option Nat) (s : State) : State :=
  let s := updRef o (fun r => { r with events := setBit r.events ev }) s
  match cause with
  | some b => raiseIdx 3 b o s
  | none => s

/-- Start the WTR timer (R82). -/
def startWtr (o : Nat) (s : State) : State :=
  updRef o (fun r => { r with state := .wtr, finding := none, timer := some (s.now + timerSec (refPol s o).wtr * secPs) }) s

/-- A source enters QUALIFIED (R82, R84). -/
def toQualified (o : Nat) (s : State) : State :=
  refEvent o 0 (some 12) (updRef o (fun r => { r with
    state := .qualified, hasQualified := true, qualifiedAt := s.now, timer := none, finding := none }) s)

/-- HOLD_CLOCK has failed a hard check (R105, R116, R120). -/
def holdClockFails (o : Nat) (s : State) : State :=
  if idOf o = s.work.hold.holdClock then
    { s with hold := { s.hold with clockFailed := true, failedStands := s.hold.failedStands || originInForce s } }
  else s

/-- A member of the Meld whose source has a standing hard check failure is to be re-initialised once it is usable again (R143). -/
def staleMember (o cause : Nat) (s : State) : State :=
  match (if clrBit cause cOutlier = 0 then none else meldSlotOf s.work (idOf o)) with
  | some (k + 1) => { s with meld := { s.meld with slots := upd s.meld.slots (k + 1) (fun m => { m with stale := true }) } }
  | _ => s

/-- Some check of a source fails that did not fail before. -/
def newlyFails (old new : Nat) : Bool := (List.range 9).any fun k => bit new k && !bit old k

/-- The qualification state machine takes the standing hard checks of a source (R82, R91). -/
def applyCause (o cause : Nat) (s : State) : State :=
  let r := refOf s o
  let s := updRef o (fun r => { r with cause := cause }) s
  let s := if newlyFails r.cause cause then holdClockFails o s else s
  let s := staleMember o cause s
  match r.state with
  | .disabled => s
  | .qualified =>
    if cause = 0 then s
    else refEvent o 1 (some 0) (updRef o (fun r => { r with state := .failed, lastCause := cause, timer := none }) s)
  | .qualifying => if cause = 0 then s else updRef o (fun r => { r with state := .failed, timer := none }) s
  | .wtr => if cause = 0 then s else updRef o (fun r => { r with state := .failed, timer := none }) s
  | .failed =>
    if cause ≠ 0 then s
    else if r.hasQualified then startWtr o s
    else updRef o (fun r => { r with
      state := .qualifying,
      timer := if r.freqValid then some (s.now + timerSec (refPol s o).qualTime * secPs) else none }) s
  | .suspect =>
    -- a check that failed before the finding does not fail again while it stands
    if (List.range 9).any (fun k => bit cause k && !bit r.cause k && k != cPhaseLimit && k != cPhaseJump) then
      updRef o (fun r => { r with state := .failed, finding := none, timer := none }) s
    else s

/-- One check of a source passes or fails outside a sample, and the state follows. -/
def setCheck (o k : Nat) (fails : Bool) (s : State) : State :=
  if (refOf s o).state = .disabled then s else applyCause o (putBit (refOf s o).cause k fails) s

/-- The block of a source reports no samples, as its health has failed: ACTIVITY and SOURCE_HEALTH (R78). -/
def sourceSilent (o : Nat) (s : State) : State :=
  if (refOf s o).state = .disabled then s else applyCause o (putBit (putBit (refOf s o).cause cActivity true) cHealth true) s

/-! ### Jump findings (R119, R120) -/

/-- ATOMIC_AGREE (R120). -/
def atomicAgree (s : State) : Bool :=
  s.work.hold.atomic && s.hold.originLearned && !s.hold.clockFailed && !s.hold.freqStepped && !s.hold.consistFailed

/-- A source stands in the T-DPLL's slate. -/
def inTSlate (s : State) (o : Nat) : Bool := (nth s.work.sels 0).slate.any (fun e => e.ord == o)

/-- The T-DPLL judges samples of this source now (R119). -/
def judges (o : Nat) (s : State) : Bool :=
  let r := refOf s o
  let st := (tdpll s).state
  inTSlate s o && classOfSrc s.work o != .freq &&
  (r.state == .qualified || r.state == .wtr || r.state == .failed || r.state == .suspect) &&
  (st == .holdover || (st == .freeRun && (counterBound s).isSome) || (st == .returning && tSelected s != some o))

/-- A phase offset lies within the sum of the counter's bound and the claimed uncertainty (R119). -/
def withinBound (j : Int) (u : Nat) (s : State) : Bool :=
  match addB (counterBound s) (boundOfPs u) with
  | none => true
  | some b => decide (j.natAbs * 256000 ≤ b * 65536)

/-- The kind of a standing finding: a JUMP of the tick of a FREQ_STEP is a JUMP_ALERT (R119, R128). -/
def findingOf (s : State) (r : RefRun) : Option Finding :=
  if r.finding == some .jump && s.hold.stepPs == some r.findingPs then some .jumpAlert else r.finding

/-- A jump finding against a source (R119). -/
def makeFinding (o : Nat) (j : Int) (u : Nat) (s : State) : State :=
  let agree := atomicAgree s
  let s := updRef o (fun r => { r with
    state := .suspect, timer := none, finding := some (if agree then .jump else .jumpAlert), findingPs := s.now }) s
  let s := refEvent o 4 (some 2) s
  let s := updDpll 0 (fun x => { x with lastJump := j, lastJumpSource := idOf o }) s
  if agree then raise 4 9 s
  else raise 4 10 { s with hold := { s.hold with b0 := maxB s.hold.b0 (some (offBound j + u * 256)) } }

/-- The T-DPLL withdraws its finding: the source goes to WTR (R82, R119). -/
def withdrawFinding (o : Nat) (s : State) : State := startWtr o s

/-- The T-DPLL judges a sample (R119). -/
def judge (o : Nat) (j : Int) (u : Nat) (s : State) : State :=
  if !judges o s then s
  else
    let r := refOf s o
    if withinBound j u s then
      if r.state == .suspect && findingOf s r == some .jump then withdrawFinding o s else s
    else if r.state != .suspect then makeFinding o j u s else s

/-! ### Selection (R86 to R92) -/

/-- A slate entry is eligible (R71, R86, R88, R92). -/
def eligible (s : State) (d : Nat) (e : SlateEntry) : Bool :=
  (refOf s e.ord).state == .qualified && e.bid != 0 && !e.lockout &&
  (match classOfSrc s.work e.ord with
   | .time => true
   | .phase => d != 0 || s.time.valid
   | .freq => d != 0) &&
  kindOf e.ord != .partner

/-- The numbers of the eligible candidates of a domain. -/
def eligibles (s : State) (d : Nat) : List Nat :=
  let sl := (nth s.work.sels d).slate
  (List.range sl.length).filter fun k => eligible s d (nth sl k)

/-- Seniority: whole milliseconds since the entry to QUALIFIED (R84). -/
def seniority (r : RefRun) (s : State) : Nat := (s.now - r.qualifiedAt) / msPs

/-- Among candidates of one bid: greatest seniority, then lowest number (R88). -/
def senior (s : State) (sl : List SlateEntry) : List Nat → Option Nat
  | [] => none
  | k :: ks =>
    match senior s sl ks with
    | none => some k
    | some m =>
      if seniority (refOf s (nth sl k).ord) s < seniority (refOf s (nth sl m).ord) s then some m else some k

/-- The choice of a selector (R88). -/
def choose (s : State) (d : Nat) : Option Nat :=
  let c := nth s.work.sels d
  let r := nth s.sels d
  let el := eligibles s d
  let cur := r.selected
  let curOk := match cur with | some k => el.contains k | none => false
  if r.mode == .none || el.isEmpty then none
  else if r.mode == .manual && (match r.pick with | some k => el.contains k | none => false) then r.pick
  else if !c.revertive && curOk then cur
  else
    let best := el.foldl (fun m k => min m (nth c.slate k).bid) 256
    let tied := el.filter fun k => (nth c.slate k).bid == best
    if (match cur with | some k => tied.contains k | none => false) then cur else senior s c.slate tied

/-- The T-DPLL in free-run or holdover takes its chosen candidate (R105, R601). -/
def tTake (o : Nat) (s : State) : State :=
  if tracking (tdpll s).state then s
  else match s.hold.accepted with
    | some (a, step) => if a = o then tAccept o step s else tEnter o (dpllCfg s 0).returnStep s
    | none => tEnter o (dpllCfg s 0).returnStep s

/-- A change of choice is recorded and handed to the domain's DPLL (R88). -/
def switchTo (d : Nat) (k : Option Nat) (s : State) : State :=
  let held := trackTerms s
  let b := counterBound s
  let o := k.map fun k => (nth (nth s.work.sels d).slate k).ord
  let s := if d = 0 then { s with hold := { s.hold with accepted := none } } else s
  let s := { s with sels := upd s.sels d (fun r => { r with
    selected := k, selectedOrd := o, lastOrd := o.orElse fun _ => r.lastOrd, switchCount := (r.switchCount + 1) % 2 ^ 32, lastSwitch := curTs s }) }
  let s := forward (.selection d ((o.map idOf).getD 0)) s
  match o with
  | none => dpllNone d b (raise 3 (8 + d) s)
  | some o =>
    let s := raise 3 (4 + d) s
    if tracking (dpllOf s d).state then dpllSwitch d held s
    else if d = 0 then tTake o s else fEnter d s

/-- The ordinal of PARTNER (R70). -/
def partnerOrd : Nat := 93

/-- The states of a Dummy that follows its partner (R402, R407). -/
def following : SyncState → Bool
  | .joining => true
  | .copying => true
  | .lockstep => true
  | .synced => true
  | _ => false

/-- On a Dummy that follows its partner the pair logic holds PARTNER as the selected candidate of a selector (R92, R402). -/
def dummySel (d : Nat) (s : State) : State :=
  let o := if following s.pair.sync then some partnerOrd else none
  if (nth s.sels d).selectedOrd = o then s
  else
    let held := trackTerms s
    let b := counterBound s
    let s := { s with sels := upd s.sels d (fun r => { r with selected := none, selectedOrd := o, lastOrd := o.orElse fun _ => r.lastOrd }) }
    match o with
    | none => dpllNone d b s
    | some _ => if tracking (dpllOf s d).state then dpllSwitch d held s else s

/-- A selector evaluates its choice. A candidate that the T-DPLL would take from free-run or holdover is judged first,
and a finding against it makes the selector evaluate again (R88, R119, R128). -/
def evalSel : Nat → Nat → State → State
  | 0, _, s => s
  | fuel + 1, d, s =>
    if isDummy s then dummySel d s
    else
    let k := choose s d
    let o := k.map fun k => (nth (nth s.work.sels d).slate k).ord
    if k = (nth s.sels d).selected ∧ o = (nth s.sels d).selectedOrd then s
    else match d, o with
    | 0, some o =>
      if !tracking (tdpll s).state && phaseUsable s o then
        let s' := judge o (refOf s o).phase (refOf s o).claimed s
        if (refOf s' o).state == .suspect then evalSel fuel 0 s' else switchTo 0 k s'
      else switchTo 0 k s
    | d, _ => switchTo d k s

/-- A pair in comparison still stands: its limit is not 0, and both are qualified, not locked out, and of one non-zero bid (R89). -/
def pairStands (s : State) (d : Nat) (p : SplitPair) : Bool :=
  let sl := (nth s.work.sels d).slate
  (if p.byPhase then (nth s.work.sels d).splitPhase else (nth s.work.sels d).splitFreq) != 0 &&
  match sl.find? (fun e => e.ord == p.a), sl.find? (fun e => e.ord == p.b) with
  | some x, some y =>
    (refOf s p.a).state == .qualified && (refOf s p.b).state == .qualified && !x.lockout && !y.lockout &&
      x.bid == y.bid && x.bid != 0
  | _, _ => false

/-- Splits whose pair no longer stands clear (R89). -/
def cleanSplits (s : State) : State :=
  { s with sels := (List.range 4).map fun d =>
      let r := nth s.sels d
      { r with splits := r.splits.filter (pairStands s d) } }

/-- Every selector evaluates its choice after the changes of a tick; splits and the bound follow (R88, R89). -/
def evalAll (s : State) : State :=
  settleBound (cleanSplits ((List.range 4).foldl (fun s d => evalSel 40 d s) s))

/-- The difference of two candidates for a split (R89). -/
def splitDiff (s : State) (a b : Nat) (byPhase : Bool) : Nat :=
  if byPhase then ((refOf s a).phase - (refOf s b).phase).natAbs
  else ((refOf s a).freq - (refOf s b).freq).natAbs

/-- The Meld's estimates now, as the base of a phase split (R146). -/
def phaseBase (s : State) : Option PhaseBase :=
  if s.work.meld.enable then some { ps := s.meld.lastUpdatePs, est := s.meld.slots.map (·.est), cov := s.meld.cov } else none

/-- The comparison of the pairs that hold the source `o`, at an update of that source (R89). -/
def splitUpdate (d o : Nat) (byPhase : Bool) (s : State) : State :=
  let c := nth s.work.sels d
  let limit := if byPhase then c.splitPhase else c.splitFreq * 2 ^ 24
  if limit = 0 then s
  else c.slate.foldl (fun s e =>
    let p : SplitPair := { a := min o e.ord, b := max o e.ord, byPhase, since := s.now, base := if byPhase then phaseBase s else none }
    let valid := if byPhase then phaseUsable s o && phaseUsable s e.ord else (refOf s o).freqValid && (refOf s e.ord).freqValid
    if e.ord = o || !pairStands s d p || !valid then s
    else
      let diff := splitDiff s o e.ord byPhase
      let same := fun (q : SplitPair) => q.a == p.a && q.b == p.b && q.byPhase == byPhase
      { s with sels := upd s.sels d (fun r =>
        match r.splits.find? same with
        | none => if diff > limit then { r with splits := r.splits ++ [p] } else r
        | some q =>
          if q.raised then (if diff ≤ limit / 2 then { r with splits := r.splits.filter (fun x => !same x) } else r)
          else if diff > limit then r else { r with splits := r.splits.filter (fun x => !same x) }) }) s

/-! ### Monitors (R78, R79, R598, R599) -/

/-- The frequency of a source against the counter, 2⁻⁶⁴ (R598). -/
def freqVsCounter (r : RefRun) : Int := if r.freqValid then r.freq - r.counterFreq else 0

/-- PHASE_JUMP of a new offset (R78, R598). -/
def phaseJumps (r : RefRun) (pol : RefPol) (p : Sample) : Bool :=
  let dt : Int := (p.stamp : Int) - r.stamp
  let pred := r.phase + roundDivI (freqVsCounter r * dt) (2 ^ 64)
  decide ((p.offset - pred).natAbs > pol.phaseJump)

/-- PHASE_LIMIT of a new offset, with the ambiguity of a PHASE label (R72, R78). -/
def phaseExceeds (c : SrcClass) (pol : RefPol) (p : Sample) : Bool :=
  decide (p.offset.natAbs > pol.phaseLimit) ||
    (c == .phase && decide (2 * p.offset.natAbs * 1000 * p.perDen ≥ p.perNum * 65536))

/-- The health of a source as its own block reports it (R78). -/
def healthFails (s : State) (o : Nat) : Bool :=
  let r := refOf s o
  let pol := refPol s o
  !r.healthOk ||
  (match kindOf o with
   | .synce => pol.qlRankMax != 0 && decide (r.rank > pol.qlRankMax)
   | .ptp => !(nth s.ptp.insts (o - 29)).tracking || (pol.clockClassMax != 0 && decide (r.rank > pol.clockClassMax))
   | _ => false)

/-- Samples go to the Meld while their source is a member (R138, R140). -/
def meldTake (o : Nat) (phase : Int) (s : State) : State :=
  match meldSlotOf s.work (idOf o) with
  | none => s
  | some k =>
    if s.work.meld.enable && k != 0 then
      { s with meld := { s.meld with slots := upd s.meld.slots k (fun m => { m with sum := m.sum + phase, count := m.count + 1 }) } }
    else s

/-- FREQ_WINDOW in ps (R79). -/
def winPs (c : Nat) : Nat := ([1, 10, 100, 1000] : List Nat).getD c 1 * secPs

/-- The samples, newest first, that can still be the nearest to the start of the window or lie within 1 % of it (R79). -/
def keepHist (win now : Nat) (l : List (Nat × Int)) : List (Nat × Int) :=
  let late := fun (e : Nat × Int) => decide (e.1 + win + win / 50 ≥ now)
  l.takeWhile late ++ (l.dropWhile late).take 1

/-- When a sample has put the T-DPLL into HOLDOVER, B0 is the bound before that sample (R112). -/
def originBound (before : Option Nat) (wasTracking : Bool) (s : State) : State :=
  if wasTracking && (tdpll s).state == .holdover then { s with hold := { s.hold with b0 := before } } else s

/-- A sample is delivered to its source's monitor: counted, checked and recorded; the state follows; the T-DPLL judges
it; the selectors evaluate; and it reaches the DPLLs that have the source selected (R24, R78, R82, R119, R601). `todFail`
and `parseFail` are the results of the checks that need the source's own text. -/
def deliver (o : Nat) (p : Sample) (todFail : Bool) (s : State) : State :=
  let r := refOf s o
  if r.state = .disabled then s
  else
    let before := counterBound s
    let pol := refPol s o
    let cls := classOfSrc s.work o
    let at_ := s.now - p.lag
    let ep := p.ep.getD s.time.stepEpoch
    let fresh := ep == s.time.stepEpoch
    let count := if r.hasSample then r.nomCount + roundDiv ((at_ - r.samplePs) * p.perDen) p.perNum else r.nomCount
    let nom : Int := (count * p.perNum * 65536 / (p.perDen * 1000) : Nat)
    let p := { p with nomTime := nom, freqOnly := cls != .time }
    let rawPhase := (if cls == .time then (p.stamp : Int) + p.offset else nom) - rawTs at_
    let measured := cls != .time || p.phaseOk
    let timed := cls != .freq
    let jump := timed && r.state == .qualified && r.jumpBase && r.epoch == ep && p.phaseOk && phaseJumps r pol p
    let limit := timed && p.phaseOk && fresh && s.time.valid && (tdpll s).state == .locked && tSelected s != some o && phaseExceeds cls pol p
    let unc := timed && decide (p.unc > pol.maxUncertainty)
    let cause := putBit (putBit (putBit (putBit (putBit (putBit (putBit r.cause cActivity (p.counted && bit r.cause cActivity)) cPhaseJump jump)
      cPhaseLimit limit) cUncertainty unc) cHealth (healthFails s o)) cTodLabel todFail) cConfig false
    let s := updRef o (fun r => { r with
      samples := if p.counted then r.samples else (r.samples + 1) % 2 ^ 32, hasSample := true,
      winStart := if r.hasSample then r.winStart else at_, winUpdates := if r.hasSample then r.winUpdates else 0,
      marks := if r.hasSample then r.marks else [(at_, s.incSum - p.lag / tickPs * nextInc s.time)], stamp := p.stamp, epoch := ep,
      samplePs := at_, phase := if timed && p.phaseOk then p.offset else 0, phaseValid := timed && p.phaseOk,
      jumpBase := timed && p.phaseOk, claimed := p.unc, stampUnc := p.stampUnc, pathDelay := p.pathDelay,
      period := p.period, nomCount := count,
      hist := if measured then (at_, rawPhase) :: keepHist (winPs pol.freqWindow) s.now r.hist else r.hist }) s
    let s := if measured then meldTake o rawPhase s else s
    let s := bump (64 * 3 + (if cause = 0 then 32 else 33)) s
    let wasTracking := tracking (tdpll s).state
    let s := applyCause o cause s
    let s := if p.phaseOk && fresh && !isDummy s then judge o p.offset p.unc s else s
    let wasSel := tSelected s == some o
    let s := originBound before wasTracking (evalAll s)
    let s := splitUpdate 0 o true s
    let follow := isDummy s && o == partnerOrd
    let pass := cause = 0 && (follow || (refOf s o).state == .qualified)
    let s := if pass && wasSel && tSelected s == some o && !wasTracking then tTake o s
      else if pass && tSelected s == some o && wasTracking && cls != .freq && p.phaseOk && fresh then tSample o p s else s
    let s := ([1, 2, 3] : List Nat).foldl (fun s d =>
      if pass && !follow && (nth s.sels d).selectedOrd == some o && tracking (dpllOf s d).state then fSample d p s else s) s
    settleBound s

/-- The least-squares value at an end instant of samples near it, with 16 more fraction bits; `none` without samples (R79). -/
def endValue (pts : List (Nat × Int)) (stop near : Nat) : Option Int :=
  let close := pts.filter fun e => decide (e.1 ≤ stop + near ∧ stop ≤ e.1 + near)
  match close with
  | [] =>
    (pts.foldl (fun (m : Option (Nat × Int)) e => match m with
      | none => some e
      | some x => if ((e.1 : Int) - stop).natAbs < ((x.1 : Int) - stop).natAbs then some e else some x) none).map (fun e => e.2 * 65536)
  | _ =>
    let n : Int := close.length
    let sx := close.foldl (fun a e => a + ((e.1 : Int) - stop)) 0
    let sy := close.foldl (fun a e => a + e.2) 0
    let sxy := close.foldl (fun a e => a + ((e.1 : Int) - stop) * e.2) 0
    let sxx := close.foldl (fun a e => a + ((e.1 : Int) - stop) * ((e.1 : Int) - stop)) 0
    let den := n * sxx - sx * sx
    if den ≤ 0 then some (roundDivI (sy * 65536) close.length)
    else some (roundDivI ((sy * den - (n * sxy - sx * sy) * sx) * 65536) (n * den).toNat)

/-- The mean fractional frequency over a window that ends now, 2⁻⁶⁴ (R79). -/
def windowFreq (pts : List (Nat × Int)) (now win : Nat) : Int :=
  match endValue pts now (win / 100), endValue pts (now - win) (win / 100) with
  | some b, some a => roundDivI ((b - a) * (2 ^ 48 : Nat) * 1000) (win * 65536)
  | _, _ => 0

end Sys2Proof.Machine
end

