-- ==== Sys2Proof/Machine/Time.lean ====
section
/-! DEFINITION. The meanings of the time-scale rows: TIME_ and LEAP_ commands, scheduled changes, slews, leaps, the
live-time latch and the hand boundary (chapter 02). -/
namespace Sys2Proof.Machine
open Sys2Proof Host

/-- Change the shadow set (R496, R522). -/
def shadowed (f : Cfg → Cfg) (s : State) : State := { s with shadow := f s.shadow }

/-- The answer of a command that only writes the shadow set. -/
def writes (f : Cfg → Cfg) (s : State) : Answer := .done [] (shadowed f s)

/-- The meaning of a command row. -/
def cmdRow (opcode : Nat) (h : Handler) (q : Req) (s : State) : Outcome State Fault Refusal := .next (runCmd opcode h q s)

/-- Ticks until the counter reaches a value in 2⁻⁴⁸ ns (R33, R46). -/
def ticksTo (target : Nat) (s : State) : Nat :=
  let d := target - s.time.counter.total
  let t := s.time
  if t.slewing then
    let full := t.slewRem.natAbs / max 1 t.slewInc
    let r1 := ((t.rate : Int) + withSign t.slewRem t.slewInc).toNat
    if d ≤ full * r1 then ceilDiv d (max 1 r1)
    else max (full + 1) (ceilDiv ((d : Int) - t.slewRem).toNat (max 1 t.rate))
  else ceilDiv d (max 1 t.rate)

/-- The instant of the n-th tick from now. -/
def tickAfter (n : Nat) (s : State) : Nat := (s.now / tickPs + n) * tickPs

/-- Time moves on until the counter reaches a value in 2⁻⁴⁸ ns. -/
def moveToCounter (target : Nat) (s : State) : State := moveTo (tickAfter (ticksTo target s) s) s

/-- Time moves on by one tick. -/
def nextTick (s : State) : State := moveTo (tickAfter 1 s) s

/-- Bits [6:0] of TIME_LATCH_LO (R60). -/
def timeFlags (s : State) : Nat :=
  packBits [s.time.valid, s.time.slewing && s.time.slewRem != 0, s.time.pend.isSome, !s.time.future.isEmpty,
    (smearAt s.time (curTs s)).isSome, steerable s, s.time.utcConfirmed]

/-- Remaining slew offset in the offset format (R46). -/
def slewRemaining (s : State) : Int := if s.time.slewing then truncDivI s.time.slewRem (2 ^ 32) else 0

/-! ### TIME_READ (R63) -/

def timeReadReply (s : State) : Bytes :=
  tsBytes (curTs s) ++ leBytes 4 (timeFlags s) ++ boundBytes (counterBound s) ++ leBytes 8 s.time.rate ++
  leInt 8 (freqOfRate s.time.rate) ++ leBytes 4 s.time.stepEpoch ++ leInt 2 (offsetNow s) ++ zeros 2 ++
  leInt 8 (slewRemaining s) ++
  leInt 8 (match s.time.pend with | some { kind := .step o, applyAt := _ } => o | _ => 0) ++
  tsBytes (match s.time.pend with | some p => p.applyAt | none => 0) ++ zeros 4

def hTimeRead : Handler := fun q s => checked q 0 [] (.done (timeReadReply s) s)

def execTimeRead (q : Req) (s : State) : Outcome State Fault Refusal := cmdRow 0x0410 hTimeRead q s

/-! ### TIME_SET and TIME_STEP (R41 to R45, R64 to R66) -/

def timeChangeReply (appliedAt epoch flags : Nat) : Bytes := tsBytes appliedAt ++ leBytes 4 epoch ++ leBytes 4 flags

def nextEpoch (s : State) : Nat := (s.time.stepEpoch + 1) % 2 ^ 32

/-- Host time commands are taken only by a Declarer or a single chip in free-run or holdover (R41). -/
def hostMayMove (s : State) (k : Answer) : Answer := declarerOnly s (refuseIf (!steerable s) stBadState 0 k)

/-- When a set has made time valid, PHASE candidates have become eligible, and the selectors evaluate (R71, R88). -/
def evalNewlyValid (was : Bool) (s : State) : State := if was then s else evalAll s

def hTimeSet : Handler := fun q s =>
  checked q 32 [tsF 0, tsF 12, boundF 24] <|
  let time := tsOfField (fld q.params 0 12)
  let at_ := tsOfField (fld q.params 12 12)
  let bnd := fld q.params 24 8
  hostMayMove s <|
  if at_ = 0 then
    let t := nextTick s
    let t' := hostSet time bnd (cancelPending t)
    .done (timeChangeReply (curTs t) t'.time.stepEpoch 0) (evalNewlyValid s.time.valid t')
  else
    refuseIf (s.time.pend.isSome || decide (at_ ≤ curTs s)) stBadState 0 <|
    .done (timeChangeReply 0 (nextEpoch s) 1) { s with time := { s.time with pend := some { kind := .set time bnd, applyAt := at_ } } }

def execTimeSet (q : Req) (s : State) : Outcome State Fault Refusal := cmdRow 0x0411 hTimeSet q s

def stepFields (p : Bytes) : List Fld :=
  let cancel := bit (fld p 20 4) 0
  [F 0 8 (fun v => !cancel || v == 0), F 8 12 (fun v => tsFieldOk v && (!cancel || v == 0)), inF 20 4 0 1]

def hTimeStep : Handler := fun q s =>
  let cancel := bit (fld q.params 20 4) 0
  checked q 24 (stepFields q.params) <|
  let off := fldI q.params 0 8
  let at_ := tsOfField (fld q.params 8 12)
  hostMayMove s <|
  if cancel then
    match s.time.pend with
    | none => .done (timeChangeReply 0 s.time.stepEpoch 0) s
    | some _ => .done (timeChangeReply 0 s.time.stepEpoch 2) (cancelPending s)
  else if at_ = 0 then
    let t := nextTick s
    refuseIf (stepOutOfRange off t) stBadParam 0 <|
    let t' := hostStep off t
    .done (timeChangeReply (curTs t) t'.time.stepEpoch 0) t'
  else
    refuseIf (decide ((at_ : Int) + off < 0) || decide ((at_ : Int) + off ≥ ((2 ^ 48 * tsSec : Nat) : Int))) stBadParam 0 <|
    refuseIf (s.time.pend.isSome || decide (at_ ≤ curTs s)) stBadState 0 <|
    .done (timeChangeReply 0 (nextEpoch s) 1) { s with time := { s.time with pend := some { kind := .step off, applyAt := at_ } } }

def execTimeStep (q : Req) (s : State) : Outcome State Fault Refusal := cmdRow 0x0412 hTimeStep q s

/-- On to the tick on which a pending change is applied: the first whose count is at or past APPLY_AT, which after a step that passed
it is the tick after the step's (R43). -/
def toApply (applyAt : Nat) (s : State) : State :=
  if decide (applyAt * 2 ^ 32 ≤ s.time.counter.total) && s.time.lastStepTick == some (s.now / tickPs) then nextTick s
  else moveToCounter (applyAt * 2 ^ 32) s

/-- The machine on the tick of a pending change, the change no longer pending. -/
def takePend (applyAt : Nat) (s : State) : State :=
  let t := toApply applyAt s
  { t with time := { t.time with pend := none } }

/-- A pending change takes effect on the current tick. -/
def applyChange (k : PendKind) (s : State) : State :=
  match k with
  | .step off => hostStep off s
  | .set time bnd => evalNewlyValid s.time.valid (hostSet time bnd s)

/-- The pending step or set is applied on the first tick at which the counter has reached APPLY_AT; one that a step has carried the
counter to is applied on the tick after (R43). -/
def applyPending (s : State) : State :=
  match s.time.pend with
  | none => s
  | some p => applyChange p.kind (takePend p.applyAt s)

def execScheduledStepApply (s : State) : Outcome State Fault Refusal := .next (whileRunning applyPending { s with out := [] })

/-! ### TIME_SLEW (R46, R47, R67) -/

/-- The end of a slew in counter time at nominal TCLK, held to the last Timestamp96 (R67). -/
def slewEnd (s : State) : Nat :=
  let n := s.time.slewRem.natAbs / max 1 s.time.slewInc + 1
  min (((s.time.counter.total : Int) + (n * s.time.rate : Nat) + s.time.slewRem).toNat / 2 ^ 32) (2 ^ 48 * tsSec - 1)

def slewFields (p : Bytes) : List Fld :=
  let cancel := bit (fld p 16 4) 0
  [F 0 8 (fun v => !cancel || v == 0),
   F 8 8 (fun v => if cancel then v == 0 else decide (40960 ≤ v ∧ v ≤ 1844674407370955)), inF 16 4 0 1]

def hTimeSlew : Handler := fun q s =>
  let cancel := bit (fld q.params 16 4) 0
  checked q 20 (slewFields q.params) <|
  let off := fldI q.params 0 8
  let limit := fld q.params 8 8
  hostMayMove s <|
  let prev := slewRemaining s
  if cancel then .done (leInt 8 prev ++ zeros 24) (settleBound (nextTick (dropSlew s)))
  else
    let rem := (if s.time.slewing then s.time.slewRem else 0) + off * (2 ^ 32 : Nat)
    refuseIf (decide (rem < -((2 ^ 63 * 2 ^ 32 : Nat) : Int)) || decide (rem > (((2 ^ 63 - 1) * 2 ^ 32 : Nat) : Int))) stBadParam 0 <|
    let r := runSlew .host rem limit s
    .done (leInt 8 prev ++ leInt 8 (slewRemaining r) ++ tsBytes (slewEnd r) ++ zeros 4) (settleBound (widenB0 off (nextTick r)))

def execTimeSlew (q : Req) (s : State) : Outcome State Fault Refusal := cmdRow 0x0413 hTimeSlew q s

/-- The slew ends: the last remainder is added and SLEW_DONE is raised; a return can then lock (R46, R105). -/
def endSlew (s : State) : State :=
  if !s.time.slewing then s
  else
    let s := if s.time.slewRem = 0 then s else moveTo (tickAfter (s.time.slewRem.natAbs / max 1 s.time.slewInc + 1) s) s
    let s := raise 4 3 { dropSlew s with time := { (dropSlew s).time with lastSlew := s.time.lastSlew } }
    let s := updDpll 0 (fun x =>
      if x.returnSlewing then { x with returnSlewing := false, lockSince := if x.phaseErr.natAbs ≤ (dpllCfg s 0).lockPhase then some s.now else none }
      else x) s
    settleBound s

def execSlewDone (s : State) : Outcome State Fault Refusal := .next (whileRunning endSlew { s with out := [] })

/-! ### Leaps (R50 to R55, R68, R69) -/

def leapSrcCode : LeapSource → Nat
  | .host => 0
  | .gnss => 1
  | .ptp => 2
  | .irig => 3

/-- The reply of LEAP_CONFIGURE (R69). -/
def leapReply (s : State) : Bytes :=
  leInt 2 s.time.currentOffset ++ leBytes 1 (b2n s.time.policyAuto) ++ leBytes 1 (if s.time.utcConfirmed then 16 else 0) ++
  leInt 4 s.time.smearStart ++ leBytes 2 s.time.future.length ++ zeros 6 ++
  s.time.future.flatMap fun e => leBytes 8 e.leapTai ++ leInt 2 e.newOffset ++ leBytes 2 (leapSrcCode e.source) ++ zeros 4

def leapEntryAt (p : Bytes) (k : Nat) : LeapEntry :=
  { leapTai := fld p (16 + 16 * k) 8, newOffset := fldI p (24 + 16 * k) 2, source := .host }

def leapFields (p : Bytes) : List Fld :=
  let fl := fld p 3 1
  [setIf (bit fl 0) 0 2 (fun _ => true), setF (bit fl 3) 2 1 0 1, inF 3 1 0 15,
   setIf (bit fl 2) 4 4 (fun v => decide (-86400 ≤ toSigned 32 v ∧ toSigned 32 v ≤ 0)), whenF (bit fl 1) 8 2 0 8, rsvF 10 6]

def leapEntryFields (k : Nat) : List Fld :=
  [F (16 + 16 * k) 8 (fun v => decide (v < 2 ^ 48)), anyF (24 + 16 * k) 2, zeroF (26 + 16 * k) 2, rsvF (28 + 16 * k) 4]

/-- How many entries a LEAP_CONFIGURE gives (R68). -/
def leapCount (p : Bytes) : Nat := if bit (fld p 3 1) 1 then min 8 (fld p 8 2) else 0

/-- DETAIL of the first entry, in rising LEAP_TAI, that the entry-acceptance rule refuses (R51, R69, R494). -/
def leapFault : Int → Option Nat → List (Nat × LeapEntry) → Nat
  | _, _, [] => 0
  | off, prev, (k, e) :: es =>
    if (e.newOffset - off).natAbs ≠ 1 then 24 + 16 * k
    else if leapOk off prev e then leapFault e.newOffset (some e.leapTai) es
    else 16 + 16 * k

def hLeapConfigure : Handler := fun q s =>
  let p := q.params
  let fl := fld p 3 1
  let n := leapCount p
  checkedN q 16 (leapFields p) n 16 leapEntryFields <|
  let t := s.time
  let cur := if bit fl 0 then fldI p 0 2 else t.currentOffset
  let given := sortBy (fun (a b : Nat × LeapEntry) => decide (a.2.leapTai < b.2.leapTai)) ((List.range n).map fun k => (k, leapEntryAt p k))
  let fut := if bit fl 1 then given.map (·.2) else t.future
  let stale := (List.range n).find? fun k => decide ((leapEntryAt p k).leapTai * tsSec ≤ curTs s)
  refuseIf (bit fl 1 && stale.isSome) stBadParam (16 + 16 * stale.getD 0) <|
  refuseIf ((bit fl 0 || bit fl 1) && !leapsOk cur none fut) stBadParam (if bit fl 1 then leapFault cur none given else 0) <|
  let s' := { s with time := { t with
    currentOffset := cur
    utcConfirmed := t.utcConfirmed || bit fl 0
    policyAuto := if bit fl 3 then fld p 2 1 == 1 else t.policyAuto
    smearStart := if bit fl 2 then fldI p 4 4 else t.smearStart
    future := fut } }
  .done (leapReply s') s'

def execLeapConfigure (q : Req) (s : State) : Outcome State Fault Refusal := cmdRow 0x0414 hLeapConfigure q s

/-- The counter passes the LEAP_TAI of the first future entry (R52). -/
def applyLeap (s : State) : State :=
  match s.time.future with
  | [] => s
  | e :: es =>
    let s := moveToCounter (e.leapTai * 1000000000 * 2 ^ 48) s
    occur 0x2B 2 <| raise 4 4 <| forwardLeap { s with time := { s.time with
      currentOffset := e.newOffset, past := some { entry := e, preceding := s.time.currentOffset }, future := es } }

def execLeapApplied (s : State) : Outcome State Fault Refusal := .next (whileRunning applyLeap { s with out := [] })

/-! ### The live-time latch (R60) -/

/-- The register window answers from STAGE 2 on, while the root is locked (R19, R559). -/
def windowAnswers (s : State) : Bool := running s && decide (s.boot.stage ≥ 2)

/-- An interface answers: PCIe only while its link is up (R487, R559). -/
def answers (s : State) (i : Iface) : Bool := windowAnswers s && (i == .spi || s.host.linkWidth != 0)

/-- The values that a latch takes (R60). -/
def latchOf (count : Word) (s : State) : LatchBank :=
  let c := s.time.counter
  let b := boundPs (counterBound s)
  { lo := BitVec.ofNat 32 (c.frac / 2 ^ 32 * 65536 + s.time.stepEpoch % 256 * 256 + timeFlags s)
    ns := BitVec.ofNat 32 c.ns
    secLo := BitVec.ofNat 32 c.sec
    secHi := BitVec.ofNat 32 (ofSigned 16 (offsetNow s) * 65536 + c.sec / 2 ^ 32)
    boundLo := BitVec.ofNat 32 b
    boundHi := BitVec.ofNat 32 (b / 2 ^ 32)
    count := count }

/-- A read of TIME_LATCH_LO on an interface at an instant. -/
def latchRead (i : Iface) (ps : Nat) (s : State) : State :=
  let s := begin_ ps s
  if !answers s i then s
  else
    let l := latchOf ((bankOf s i).latch.count + 1) s
    emit (.readData i l.lo) (updBank i (fun b => { b with latch := l }) s)

def execTimeLatchLoRead (i : Iface) (t : Nat) (s : State) : Outcome State Fault Refusal := .next (latchRead i t s)

end Sys2Proof.Machine
end

