-- ==== Sys2Proof/Machine/Ref.lean ====
section
/-! DEFINITION. The meanings of the reference and selection rows (chapter 03). -/
namespace Sys2Proof.Machine
open Sys2Proof Host

/-! ### Calendar -/

/-- A leap year of the Gregorian calendar. -/
def isLeapYear (y : Nat) : Bool := (y % 4 == 0 && y % 100 != 0) || y % 400 == 0

/-- Days from 1970-01-01 to January 1 of a year. -/
def daysToYear (y : Nat) : Nat :=
  let z := y - 1
  (z * 365 + z / 4 - z / 100 + z / 400) - 719162

/-- Days of a year before the first of a month. -/
def daysToMonth (y m : Nat) : Nat :=
  (([31, if isLeapYear y then 29 else 28, 31, 30, 31, 30, 31, 31, 30, 31, 30, 31] : List Nat).take (m - 1)).foldl (· + ·) 0

/-- The UTC count of a date and time of day, seconds since 1970. -/
def utcCount (y m d hh mm ss : Nat) : Nat := (daysToYear y + daysToMonth y m + (d - 1)) * 86400 + hh * 3600 + mm * 60 + ss

/-- The year and the day of the year (from 1) of a day count from 1970: at most `fuel` years on. -/
def yearOfGo : Nat → Nat → Nat → Nat × Nat
  | 0, y, d => (y, d + 1)
  | f + 1, y, d => let n := if isLeapYear y then 366 else 365
                   if d < n then (y, d + 1) else yearOfGo f (y + 1) (d - n)

/-- Whole cycles of 400 years are taken off first. -/
def yearOf (days : Nat) : Nat × Nat :=
  let c := days / 146097
  let r := yearOfGo 400 1970 (days % 146097)
  (r.1 + 400 * c, r.2)

/-! ### ZDA sentences (R75) -/

def isDigit (b : Byte) : Bool := decide (48 ≤ b.toNat ∧ b.toNat ≤ 57)

/-- The number that decimal digits spell; none when a character is no digit or there is none. -/
def decimal (bs : Bytes) : Option Nat :=
  if bs.isEmpty || !bs.all isDigit then none else some (bs.foldl (fun a b => a * 10 + (b.toNat - 48)) 0)

/-- A hexadecimal digit. -/
def hexDigit (b : Byte) : Option Nat :=
  if isDigit b then some (b.toNat - 48)
  else if 65 ≤ b.toNat ∧ b.toNat ≤ 70 then some (b.toNat - 55)
  else if 97 ≤ b.toNat ∧ b.toNat ≤ 102 then some (b.toNat - 87) else none

/-- The fields of a sentence body, split at commas. -/
def splitCommas : Bytes → List Bytes
  | [] => [[]]
  | b :: bs =>
    if b = 44#8 then [] :: splitCommas bs
    else match splitCommas bs with
      | [] => [[b]]
      | f :: fs => (b :: f) :: fs

/-- The UTC count of a well-formed ZDA sentence with a correct checksum (R75). -/
def parseZda (bs : Bytes) : Option Nat :=
  match bs with
  | b0 :: rest =>
    let body := rest.takeWhile (fun b => b != 42#8)
    let tail := rest.drop body.length
    let sum := body.foldl (fun a b => a ^^^ b) 0#8
    match tail with
    | [_, h, l, cr, lf] =>
      match hexDigit h, hexDigit l with
      | some h, some l =>
        if b0 = 36#8 ∧ cr = 13#8 ∧ lf = 10#8 ∧ sum.toNat = 16 * h + l then
          match splitCommas body with
          | [id, tm, dd, mo, yy, _, _] =>
            let hms := tm.take 6
            let frac := tm.drop 6
            match decimal (hms.take 2), decimal ((hms.drop 2).take 2), decimal (hms.drop 4), decimal dd, decimal mo, decimal yy with
            | some hh, some mi, some ss, some d, some m, some y =>
              if id.length = 5 ∧ id.drop 2 = [90#8, 68#8, 65#8] ∧ hms.length = 6 ∧
                  (frac = [] ∨ (frac.head? = some 46#8 ∧ (decimal (frac.drop 1)).isSome)) ∧
                  hh < 24 ∧ mi < 60 ∧ ss ≤ 60 ∧ (ss < 60 ∨ (hh = 23 ∧ mi = 59)) ∧
                  1 ≤ m ∧ m ≤ 12 ∧ 1 ≤ d ∧ d ≤ 31 ∧ yy.length = 4 ∧ y ≥ 1970 then
                some (utcCount y m d hh mi ss)
              else none
            | _, _, _, _, _, _ => none
          | _ => none
        else none
      | _, _ => none
    | _ => none
  | [] => none

/-- The enabled pin in PULSE_TOD mode (R75). -/
def todPin (s : State) : Option Nat :=
  (List.range 12).find? fun o => (refCfg s o).enable && (refCfg s o).mode == 3

/-! ### Samples of a source (R72 to R77) -/

/-- A pulse window in ps. -/
def windowPs (w : Nat) : Nat := w * 1000 / 65536

/-- The nominal period of a REFIN's stamped events as a quotient in ps (R73). -/
def refinPeriod (c : RefCfg) : Nat × Nat :=
  if c.mode = 0 then (secPs * max 1 c.freqDen, max 1 c.freqNum)
  else if c.mode = 1 then (secPs * max 1 c.freqDen * max 1 c.divider, max 1 c.freqNum)
  else (secPs, 1)

/-- The claimed uncertainty of an IEEE 1344 time-quality code in ps. PRESUMED from the standard; 0xF is a fault, unbounded.
A value above the bound format is its last value (R14). -/
def tqPs (code : Nat) : Nat :=
  if code = 0 then 0 else if code ≤ 11 then min (1000 * 10 ^ (code - 1)) unboundedPs else unboundedPs

/-- The expected instants of the ACTIVITY check after an event at this instant (R599). -/
def activityEvent (o : Nat) (perNum perDen : Nat) (s : State) : State :=
  let w := windowPs (refPol s o).pulseWindow
  updRef o (fun r =>
    let next := some (s.now + perNum / perDen)
    let fresh := r.actEpoch == s.time.stepEpoch
    let r := { r with actEpoch := s.time.stepEpoch }
    match r.expected with
    | none => { r with expected := next, misses := 0 }
    | some e =>
      if bit r.cause cActivity || !fresh then { r with expected := next, misses := 0 }
      else if e ≤ s.now + w ∧ s.now ≤ e + w then { r with expected := next, misses := 0 }
      else r) s

/-- The TAI second of an IRIG-B frame, when its year is known, with the leap that its control bits announce (R54, R77). -/
def irigLabel (f : IrigFrame) (s : State) : Option Nat :=
  let counterYear := (yearOf ((((s.time.counter.sec : Int) - offsetNow s).toNat) / 86400)).1
  let year := match f.year with
    | some y => some (2000 + y)
    | none => if s.time.valid then some counterYear else none
  year.map fun y =>
    let local_ : Int := ((daysToYear y + (f.day - 1)) * 86400 + f.hour * 3600 + f.minute * 60 + f.second : Nat)
    let off := match f.control with | some (_, half, _, _) => half * 1800 | none => 0
    let utc := local_ - off
    let o := if s.time.valid then offsetNow s else s.time.currentOffset
    (utc + o).toNat

/-- The leap that IEEE 1344 control bits announce at the next UTC midnight (R54). -/
def irigLeap (f : IrigFrame) (tai : Nat) (s : State) : LeapNews :=
  match f.control with
  | some (_, _, true, del) =>
    let o := offsetInForce s.time tai
    let utc := (tai : Int) - o
    let next := (utc / 86400 + 1) * 86400
    let new := if del then o - 1 else o + 1
    { leap := some ((next + new).toNat, new), source := .irig }
  | _ => { source := .irig }

/-- A pulse of a PULSE_TOD pin has its accepted label: the TOD_LABEL check judges it and its sample is delivered (R75, R76). -/
def todUse (o : Nat) (p : TodPulse) (utc : Nat) (s : State) : State :=
  let off := if p.timeValid then offsetInForce s.time (p.stamp / tsSec) else s.time.currentOffset
  let lab := ((utc : Int) + off).toNat
  let phase := ((lab * tsSec : Nat) : Int) - p.stamp
  let apart := match (refOf s o).lastLabel with | some a => a + 1 != lab | none => false
  let far := p.timeValid && p.epoch == s.time.stepEpoch && decide (phase.natAbs * 2 > tsSec)
  deliver o { stamp := p.stamp, offset := phase, unc := (refCfg s o).claimed, stampUnc := 2560, ep := some p.epoch
              lag := s.now - p.ps, counted := true } (apart || far)
    (updRef o (fun r => { r with lastLabel := some lab }) s)

/-- A pulse on a PULSE_TOD pin: it counts and shows activity at once, takes the label that a sentence before it gave
(TOD_LABEL 1) or waits for the sentence after it (TOD_LABEL 0); a pulse that has no accepted label fails TOD_LABEL (R75, R76). -/
def todPulse (o stamp : Nat) (s : State) : State :=
  let r := refOf s o
  let p : TodPulse := { stamp, ps := s.now, epoch := s.time.stepEpoch, timeValid := s.time.valid }
  let next := (refCfg s o).todLabel == 1
  let missing := if next then r.pendUtc.isNone else r.awaiting.isSome
  let s := updRef o (fun r => { r with
    samples := (r.samples + 1) % 2 ^ 32, pulsePs := some s.now, awaiting := if next then none else some p, pendUtc := none }) s
  let s := applyCause o (putBit (putBit (putBit r.cause cActivity false) cConfig false) cTodLabel (missing || bit r.cause cTodLabel)) s
  match next, r.pendUtc with
  | true, some utc => todUse o p utc s
  | _, _ => evalAll s

/-- A ZDA sentence arrives whole at an instant (R75, R76). -/
def zdaSentence (ps : Nat) (framingOk : Bool) (bs : Bytes) (s : State) : State :=
  let s := begin_ ps s
  match todPin s with
  | none => s
  | some o =>
    let r := refOf s o
    let inTime := match r.pulsePs with
      | some p => decide (p + 10 * msPs ≤ s.now ∧ s.now ≤ p + 900 * msPs)
      | none => false
    match (if framingOk && inTime then parseZda bs else none) with
    | none => refEvent o 7 none s
    | some utc =>
      if (refCfg s o).todLabel = 1 then updRef o (fun r => { r with pendUtc := some utc }) s
      else match r.awaiting with
        | some p => todUse o p utc (updRef o (fun r => { r with awaiting := none }) s)
        | none => s

def execZdaSentence (t : Nat) (framingOk : Bool) (sentence : Bytes) (s : State) : Outcome State Fault Refusal :=
  .next (if running s then zdaSentence t framingOk sentence s else begin_ t s)

/-- A stamped event of a REFIN or a sample of a source block reaches the monitor (R72 to R78). -/
def refSample (src ps : Nat) (d : SampleData) (s : State) : State :=
  let s := begin_ ps s
  match ordOf src with
  | none => s
  | some o =>
    let c := refCfg s o
    if !running s || (refOf s o).state == .disabled then s
    else
      let stamp := ((stampNow s : Int) - c.compensation).toNat
      let (pn, pd) := refinPeriod c
      let base : Sample := { stamp, unc := c.claimed, stampUnc := 2560, period := pn / pd, perNum := pn, perDen := pd }
      match kindOf o, d with
      | .refin, .pulse w =>
        if c.mode ≠ 0 ∧ c.mode ≠ 3 then s
        else if c.glitchNs ≠ 0 ∧ w < c.glitchNs * 1000 then bump (64 * 3 + 34) (refEvent o 6 none s)
        else if c.mode = 0 then
          let p := pn * 65536 / (pd * 1000)
          let label := (stamp + p / 2) / p * p
          deliver o { base with offset := (label : Int) - stamp } false (activityEvent o pn pd s)
        else todPulse o stamp (activityEvent o pn pd s)
      | .refin, .edge =>
        if c.mode ≠ 1 then s
        else
          let s := updRef o (fun r => { r with expected := some (s.now + max 1000000 (4 * pn / pd)) }) s
          deliver o { base with phaseOk := false, stampUnc := 0 } false s
      | .refin, .irig f =>
        if c.mode ≠ 2 then s
        else
          let lab := f.bind fun f => irigLabel f s
          let tq := match f with | some { day := _, hour := _, minute := _, second := _, year := _, control := some (q, _, _, _) } => tqPs q | _ => 0
          let off : Int := match lab with | some l => ((l * tsSec : Nat) : Int) - stamp | none => 0
          let s := updRef o (fun r => { r with healthOk := lab.isSome }) (activityEvent o pn pd s)
          let s := deliver o { base with offset := off, phaseOk := lab.isSome, unc := max c.claimed tq } false s
          match f, lab with
          | some f, some l => if tSelected s = some o ∧ (refOf s o).state = .qualified then takeLeapNews (irigLeap f l s) s else s
          | _, _ => s
      | .refin, .block _ _ _ _ => s
      | _, .block off ok unc healthy =>
        let r := refOf s o
        let s := updRef o (fun r => { r with healthOk := healthy }) s
        deliver o { stamp := stampNow s, offset := off, phaseOk := ok, unc, period := r.period, perNum := r.period, perDen := 1 } false s
      | _, _ => s

def execRefSample (src t : Nat) (d : SampleData) (s : State) : Outcome State Fault Refusal := .next (refSample src t d s)

/-- An expected instant passes with no event in its window (R599). -/
def activityMiss (src : Nat) (s : State) : State :=
  match ordOf src with
  | none => s
  | some o =>
    let r := refOf s o
    match r.expected, (kindOf o == .refin && (refCfg s o).mode != 1 && r.state != .disabled) with
    | some e, true =>
      let pol := refPol s o
      let (pn, pd) := refinPeriod (refCfg s o)
      let s := moveTo (e + windowPs pol.pulseWindow) s
      if r.misses + 1 ≥ pol.losCount then
        evalAll (setCheck o cActivity true (updRef o (fun r => { r with expected := none, misses := 0 }) s))
      else updRef o (fun r => { r with expected := some (e + pn / pd), misses := r.misses + 1 }) s
    | _, _ => s

def execActivityMiss (src : Nat) (s : State) : Outcome State Fault Refusal := .next (whileRunning (activityMiss src) { s with out := [] })

/-- No stamped edge for four stamped periods of a FREQUENCY or SYNCE source (R78). -/
def noStampedEdge (src : Nat) (s : State) : State :=
  match ordOf src with
  | none => s
  | some o =>
    let r := refOf s o
    match r.expected, (classOfSrc s.work o == .freq && r.state != .disabled) with
    | some e, true =>
      let s := moveTo e s
      evalAll (setCheck o cActivity true (updRef o (fun r => { r with expected := none }) s))
    | _, _ => s

def execNoStampedEdge (src : Nat) (s : State) : Outcome State Fault Refusal := .next (whileRunning (noStampedEdge src) { s with out := [] })

/-- The frequency of ensemble time against raw time over the last window, 2⁻⁶⁴ (R79, R141). -/
def ensembleFreq (s : State) (win : Nat) : Int :=
  let h := s.meld.ensHist
  match h.head?, h.find? (fun e => decide (e.1 + win ≤ s.now)) with
  | some a, some b => if a.1 ≤ b.1 then 0 else roundDivI ((a.2 - b.2) * (2 ^ 16 : Nat) * 1000) (a.1 - b.1)
  | _, _ => 0

/-- FREQ_HARD and FREQ_SOFT with their hysteresis (R78). -/
def freqFails (was : Bool) (set clr : Nat) (f : Int) : Bool :=
  if was then decide (f.natAbs > clr * 2 ^ 24) else decide (f.natAbs ≥ set * 2 ^ 24)

/-- The frequency measurement is updated and the frequency checks act on it (R79, R82, R83, R89, R598). -/
def freqUpdate (src : Nat) (s : State) : State :=
  match ordOf src with
  | none => s
  | some o =>
    let r := refOf s o
    let pol := refPol s o
    let win := winPs pol.freqWindow
    if r.state == .disabled || !r.hasSample then s
    else
      let s := moveTo (r.winStart + (r.winUpdates + 1) * (win / 10)) s
      let inc := s.incSum
      let s := updRef o (fun r => { r with
        winUpdates := r.winUpdates + 1
        marks := (s.now, inc) :: r.marks.filter (fun m => decide (m.1 + win + win / 5 ≥ s.now)) }) s
      if r.winUpdates + 1 < 10 || r.hist.isEmpty then s
      else
        let ens := if pol.monBasis = 1 then ensembleFreq s win else 0
        let f := windowFreq (refOf s o).hist s.now win - ens
        let old := (refOf s o).marks.find? (fun m => decide (m.1 + win ≤ s.now))
        let cf := match old with
          | some m => roundDivI ((inc - m.2 : Nat) * (40960 * tickPs : Nat)) (max 1 (s.now - m.1)) - (2 ^ 64 : Nat) - ens
          | none => freqOfRate s.time.rate - ens
        let s := updRef o (fun r => { r with
          freq := f, freqValid := true, winDone := true, counterFreq := cf
          timer := if r.state == .qualifying && !r.freqValid then some (s.now + timerSec pol.qualTime * secPs) else r.timer }) s
        let soft := freqFails r.soft pol.softSet pol.softClear f
        let s := if soft && !r.soft then refEvent o 2 (some 1) s else if !soft && r.soft then refEvent o 3 none s else s
        let s := updRef o (fun r => { r with soft := soft }) s
        let s := setCheck o cFreqHard (freqFails (bit r.cause cFreqHard) pol.hardSet pol.hardClear f) s
        let s := evalAll s
        ([0, 1, 2, 3] : List Nat).foldl (fun s d => splitUpdate d o false s) s

def execFreqUpdate (src : Nat) (s : State) : Outcome State Fault Refusal := .next (whileRunning (freqUpdate src) { s with out := [] })

/-- A QUAL_TIME timer expires (R82, R83). -/
def qualTimeExpiry (src : Nat) (s : State) : State :=
  match ordOf src with
  | none => s
  | some o =>
    match (refOf s o).state, (refOf s o).timer with
    | .qualifying, some d => evalAll (toQualified o (moveTo d s))
    | _, _ => s

def execQualTimeExpiry (src : Nat) (s : State) : Outcome State Fault Refusal := .next (whileRunning (qualTimeExpiry src) { s with out := [] })

/-- A WTR timer expires (R82). -/
def wtrExpiry (src : Nat) (s : State) : State :=
  match ordOf src with
  | none => s
  | some o =>
    match (refOf s o).state, (refOf s o).timer with
    | .wtr, some d => evalAll (toQualified o (moveTo d s))
    | _, _ => s

def execWtrExpiry (src : Nat) (s : State) : Outcome State Fault Refusal := .next (whileRunning (wtrExpiry src) { s with out := [] })

/-- An equal-bid pair has disagreed for SPLIT_TIME (R89, R90). -/
def splitTimer (d a b : Nat) (byPhase : Bool) (s : State) : State :=
  let is := fun (p : SplitPair) => p.a == a && p.b == b && p.byPhase == byPhase && !p.raised
  match (nth s.sels d).splits.find? is with
  | none => s
  | some p =>
    let c := nth s.work.sels d
    let s := moveTo (p.since + timerSec c.splitTime * secPs) s
    let s := { s with sels := upd s.sels d (fun r => { r with
      splits := r.splits.map fun q => if is q then { q with raised := true } else q }) }
    let s := raiseIdx 3 3 a s
    let others := (List.range 8).filter fun k =>
      let id := (nth s.work.meldSlots k).sourceId
      (k == 0 || id != 0) && id != idOf a && id != idOf b
    if c.meldVote && s.work.meld.enable && !others.isEmpty && !isDummy s then
      { s with meld := { s.meld with vote := s.meld.vote ++ [{ p := idOf a, q := idOf b, byPhase, at_ := s.now, base := p.base }] } }
    else s

def execSplitTimer (domain a b : Nat) (byPhase : Bool) (s : State) : Outcome State Fault Refusal :=
  .next (whileRunning (splitTimer domain a b byPhase) { s with out := [] })

/-! ### REF_CONFIGURE (R94) -/

/-- FREQ_NUM of a REFIN fits its mode (R73, R94). -/
def freqNumOk (refin : Bool) (mode den num : Nat) : Bool :=
  if !refin then num == 0
  else if mode = 0 then decide (1 ≤ num ∧ num ≤ 10000000 ∧ 1000000000 % num = 0)
  else if mode = 1 then den == 0 || decide (den ≤ num ∧ num ≤ 800000000 * den)
  else num == 1

/-- DIVIDER of a REFIN fits its mode (R73, R94). -/
def dividerOk (refin : Bool) (mode num den div : Nat) : Bool :=
  if !refin then div == 0
  else if mode = 1 then decide (1 ≤ div ∧ div ≤ 16777216 ∧ den * div ≤ num ∧ num ≤ 10000000 * (den * div))
  else div == 1

def refCfgFields (p : Bytes) : List Fld :=
  let o := (ordOf (fld p 0 2)).getD 0
  let refin := kindOf o == .refin
  let mode := fld p 3 1
  let num := fld p 8 4
  let den := fld p 12 4
  [srcF 0, inF 2 1 0 1, whenF refin 3 1 0 3, whenF (refin && mode != 2) 4 1 0 1, whenF refin 5 1 0 1,
   whenF (refin && (mode == 0 || mode == 3)) 6 1 0 255, whenF (refin && mode == 3) 7 1 0 1,
   F 8 4 (freqNumOk refin mode den),
   F 12 4 (fun v => if !refin then v == 0 else if mode == 1 then decide (1 ≤ v) else v == 1),
   F 16 4 (dividerOk refin mode num den), whenF (refin && mode == 3) 20 4 9600 921600,
   F 24 8 (fun v => refin || v == 0), F 32 8 (fun v => if refin && mode != 1 then decide (v < 2 ^ 40) else v == 0)]

def refCfgOf (p : Bytes) : RefCfg :=
  { enable := fld p 2 1 == 1, mode := fld p 3 1, edge := fld p 4 1, inputMode := fld p 5 1, glitchNs := fld p 6 1
    todLabel := fld p 7 1, freqNum := fld p 8 4, freqDen := fld p 12 4, divider := fld p 16 4, todBaud := fld p 20 4
    compensation := fldI p 24 8, claimed := fld p 32 8 }

def hRefConfigure : Handler := fun q s =>
  checked q 40 (refCfgFields q.params) <|
  let o := (ordOf (fld q.params 0 2)).getD 0
  let c' := { s.shadow with refs := s.shadow.refs.set o (refCfgOf q.params) }
  refuseIf (decide (((List.range 12).filter fun k => (nth c'.refs k).enable && (nth c'.refs k).mode == 3).length > 1))
    stResource 0 <|
  writes (fun _ => c') s

def execRefConfigure (q : Req) (s : State) : Outcome State Fault Refusal := cmdRow 0x0300 hRefConfigure q s

/-! ### REF_QUALIFY_POLICY (R80, R95) -/

def refPolFields (p : Bytes) : List Fld :=
  let o := (ordOf (fld p 0 2)).getD 0
  let softSet := fld p 8 4
  let hardSet := fld p 16 4
  [srcF 0, inF 2 1 0 3, inF 3 1 1 15, timerF 4, timerF 5, inF 6 1 0 1, whenF (kindOf o == .synce) 7 1 0 255,
   F 8 4 (fun v => decide (v ≤ hardSet)), F 12 4 (fun v => decide (v ≤ softSet)), anyF 16 4,
   F 20 4 (fun v => decide (v ≤ hardSet)), magF 24, magF 32, magF 40, boundF 48,
   whenF (kindOf o == .ptp) 56 1 0 255, rsvF 57 7]

def refPolOf (p : Bytes) : RefPol :=
  { freqWindow := fld p 2 1, losCount := fld p 3 1, qualTime := fld p 4 1, wtr := fld p 5 1, monBasis := fld p 6 1
    qlRankMax := fld p 7 1, softSet := fld p 8 4, softClear := fld p 12 4, hardSet := fld p 16 4, hardClear := fld p 20 4
    pulseWindow := fld p 24 8, phaseJump := fld p 32 8, phaseLimit := fld p 40 8, maxUncertainty := fld p 48 8
    clockClassMax := fld p 56 1 }

def hRefQualifyPolicy : Handler := fun q s =>
  checked q 64 (refPolFields q.params) <|
  refuseIf (fld q.params 6 1 == 1 && !s.shadow.meld.enable) stBadState 0 <|
  writes (fun c => { c with pols := c.pols.set ((ordOf (fld q.params 0 2)).getD 0) (refPolOf q.params) }) s

def execRefQualifyPolicy (q : Req) (s : State) : Outcome State Fault Refusal := cmdRow 0x0302 hRefQualifyPolicy q s

/-! ### REF_STATUS (R96) -/

def refStateCode : RefState → Nat
  | .disabled => 0
  | .failed => 1
  | .qualifying => 2
  | .qualified => 3
  | .wtr => 4
  | .suspect => 5

def refStatusReply (s : State) (o : Nat) : Bytes :=
  let r := refOf s o
  let inMeld := (meldSlotOf s.work (idOf o)).isSome
  let unconf := kindOf o == .refin && (refCfg s o).mode == 3 && !s.time.utcConfirmed
  leBytes 2 (idOf o) ++ leBytes 1 (refStateCode r.state) ++
  leBytes 1 (packBits [r.soft, r.hasQualified, unconf, r.freqValid, r.phaseValid, inMeld]) ++
  leBytes 2 r.cause ++ leBytes 2 r.events ++ leInt 8 r.freq ++ leInt 8 (if r.phaseValid then satOffset r.phase else 0) ++
  leBytes 8 r.claimed ++ leBytes 8 (if r.state == .qualified then seniority r s else 0) ++
  leBytes 4 (match r.state, r.timer with
    | .qualifying, some d => ceilDiv (d - s.now) msPs
    | .wtr, some d => ceilDiv (d - s.now) msPs
    | _, _ => 0) ++
  leBytes 4 r.samples ++ leBytes 2 r.lastCause ++ zeros 6

def hRefStatus : Handler := fun q s =>
  checked q 4 [F 0 2 (fun v => v == 0xFFFF || (ordOf v).isSome), inF 2 2 0 1] <|
  let clr := bit (fld q.params 2 2) 0
  if fld q.params 0 2 = 0xFFFF then
    .done (leBytes 16 (packBits (s.refs.map fun r => r.events != 0)))
      (if clr then { s with refs := s.refs.map fun r => { r with events := 0 } } else s)
  else
    let o := (ordOf (fld q.params 0 2)).getD 0
    .done (refStatusReply s o) (if clr then updRef o (fun r => { r with events := 0 }) s else s)

def execRefStatus (q : Req) (s : State) : Outcome State Fault Refusal := cmdRow 0x0301 hRefStatus q s

/-! ### Selectors: SEL_CONFIGURE, SEL_SELECT, SEL_STATUS, SEL_FORCE_RESTORE (R97 to R100) -/

def slateAt (p : Bytes) (k : Nat) : SlateEntry :=
  { ord := (ordOf (fld p (16 + 4 * k) 2)).getD 0, bid := fld p (18 + 4 * k) 1, lockout := bit (fld p (19 + 4 * k) 1) 0 }

/-- A source fits the domain of a slate (R71). -/
def classFits (c : Cfg) (d o : Nat) : Bool := d != 0 || classOfSrc c o != .freq

/-- No source before entry `k` is the same (R97). -/
def freshSource (p : Bytes) (k : Nat) : Bool := (List.range k).all fun j => (slateAt p j).ord != (slateAt p k).ord

def hSelConfigure : Handler := fun q s =>
  let p := q.params
  let d := fld p 0 1
  let n := min 32 (fld p 3 1)
  checkedN q 16 [inF 0 1 0 3, inF 1 1 0 3, timerF 2, inF 3 1 0 32, anyF 4 4, whenF (d == 0) 8 8 0 (2 ^ 63 - 1)] n 4
    (fun k => [F (16 + 4 * k) 2 (fun v => match ordOf v with
        | none => false
        | some o => freshSource p k && classFits s.shadow d o), anyF (18 + 4 * k) 1, inF (19 + 4 * k) 1 0 1]) <|
  let x : SelCfg :=
    { revertive := bit (fld p 1 1) 0, meldVote := bit (fld p 1 1) 1, splitTime := fld p 2 1, splitFreq := fld p 4 4
      splitPhase := fld p 8 8, slate := (List.range n).map (slateAt p) }
  writes (fun c => { c with sels := c.sels.set d x }) s

def execSelConfigure (q : Req) (s : State) : Outcome State Fault Refusal := cmdRow 0x0310 hSelConfigure q s

def optByte (o : Option Nat) : Bytes := leBytes 1 (o.getD 0xFF)

def hSelSelect : Handler := fun q s =>
  let p := q.params
  let d := fld p 0 1
  let act := fld p 1 1
  checked q 4 [inF 0 1 0 3, inF 1 1 0 2, whenF (act == 0) 2 1 0 31, rsvF 3 1] <|
  declarerOnly s <|
  let sl := (nth s.work.sels d).slate
  let k := fld p 2 1
  refuseIf (act == 0 && (decide (k ≥ sl.length) || (nth sl k).bid == 0 || (nth sl k).lockout)) stBadParam 2 <|
  let t := nextTick s
  let t := { t with sels := upd t.sels d (fun r => { r with
    mode := if act = 0 then .manual else if act = 1 then .automatic else .none
    pick := if act = 0 then some k else none }) }
  let t := evalAll t
  let sel := (nth t.sels d).selected
  .done (optByte sel ++ leBytes 1 (b2n (act == 0 && sel != some k)) ++ zeros 2) t

def execSelSelect (q : Req) (s : State) : Outcome State Fault Refusal := cmdRow 0x0311 hSelSelect q s

def selModeCode : SelMode → Nat
  | .automatic => 0
  | .manual => 1
  | .none => 2

def selStatusReply (s : State) (d : Nat) : Bytes :=
  let r := nth s.sels d
  let sl := (nth s.work.sels d).slate
  let split := packBits (sl.map fun e => r.splits.any fun p => p.raised && (p.a == e.ord || p.b == e.ord))
  leBytes 1 d ++ leBytes 1 (selModeCode r.mode) ++ optByte r.selected ++ optByte r.pick ++
  leBytes 4 (packBits (sl.map (eligible s d))) ++ leBytes 4 split ++ leBytes 4 r.switchCount ++ tsBytes r.lastSwitch ++
  leBytes 1 sl.length ++ zeros 3 ++
  sl.flatMap fun e =>
    let x := refOf s e.ord
    leBytes 2 (idOf e.ord) ++ leBytes 1 e.bid ++ leBytes 1 (refStateCode x.state) ++
    leBytes 1 (packBits [e.lockout, x.soft, bit x.cause cOutlier]) ++ zeros 3

def hSelStatus : Handler := fun q s =>
  checked q 4 [inF 0 1 0 3, rsvF 1 3] <| .done (selStatusReply s (fld q.params 0 1)) s

def execSelStatus (q : Req) (s : State) : Outcome State Fault Refusal := cmdRow 0x0312 hSelStatus q s

def hSelForceRestore : Handler := fun q s =>
  checked q 4 [srcF 0, rsvF 2 2] <|
  let o := (ordOf (fld q.params 0 2)).getD 0
  let t := nextTick s
  let r := refOf t o
  refuseIf (!((r.state == .wtr || r.state == .qualifying) && r.timer.isSome)) stBadState 0 <|
  .done [] (evalAll (refEvent o 5 none (toQualified o t)))

def execSelForceRestore (q : Req) (s : State) : Outcome State Fault Refusal := cmdRow 0x0313 hSelForceRestore q s

end Sys2Proof.Machine
end

