-- ==== Sys2Proof/Machine/TdcOps.lean ====
section
/-! DEFINITION. The TDC: stamping, pairing, blocks, gates (R227 to R238). -/
namespace Sys2Proof.Machine
open Sys2Proof

def chanOf (s : State) (c : Nat) : TdcChan := nth s.tdc.chans c
def updChan (c : Nat) (f : TdcChan → TdcChan) (s : State) : State :=
  { s with tdc := { s.tdc with chans := upd s.tdc.chans c f } }

/-- The configuration of a stop channel: that of the pair logic while it owns the channel (R241). -/
def chanCfg (s : State) (c : Nat) : TdcCfg :=
  match (chanOf s c).owner with
  | some o => { enable := true, refSel := o + 1, compensation := (nth s.work.tdc (c + 1)).compensation }
  | none => nth s.work.tdc (c + 1)

/-- Half a second in 2⁻¹⁶ ns. -/
def halfSec : Int := 32768000000000

/-- What an overrun does on a channel (R227, R228). -/
def overrun (c : Nat) (s : State) : State := updChan c (fun h => { h with overruns := (h.overruns + 1) % 2 ^ 32 }) s

/-- A pair across a step, or a gate with a step, is discarded (R231, R237). -/
def stepDiscard (c : Nat) (s : State) : State :=
  raise 7 4 (bump (64 * 7 + 34) (updChan c (fun h => { h with stepDiscards := (h.stepDiscards + 1) % 2 ^ 32 }) s))

/-- An orphan is counted (R229, R232, R237). -/
def orphan (c : Nat) (s : State) : State :=
  raise 7 3 (bump (64 * 7 + 33) (updChan c (fun h => { h with orphans := (h.orphans + 1) % 2 ^ 32 }) s))

/-- A block with one more result (R234). -/
def blockAdd (b : TdcBlock) (v stamp : Int) (uncal : Bool) : TdcBlock :=
  { count := b.count + 1, sum := b.sum + v, square := b.square + (v * v).toNat
    min := if b.count = 0 then v else min b.min v
    max := if b.count = 0 then v else max b.max v
    lastStamp := stamp, uncal := b.uncal || uncal, mode := b.mode }

/-- A result enters the statistics and the raw buffer; a full block is latched (R233, R236). -/
def addResult (c : Nat) (v stamp : Int) (uncal : Bool) (s : State) : State :=
  let s := bump (64 * 7 + 32) s
  let h := chanOf s c
  let s := if !h.raw then s
    else if h.buffer.length < 1024 then
      let s := updChan c (fun h => { h with buffer := h.buffer ++ [{ value := v, stamp, uncal }] }) s
      if h.buffer.length + 1 = 1024 then raise 7 1 (updChan c (fun h => { h with rawFull := true }) s) else s
    else bump (64 * 7 + 35) (updChan c (fun h => { h with dropped := (h.dropped + 1) % 2 ^ 32 }) s)
  let b := blockAdd h.block v stamp uncal
  if b.count ≥ h.n then
    raise 7 0 (updChan c (fun h => { h with
      block := {}, last := some { b with mode := (chanCfg s c).mode }, blockCount := (h.blockCount + 1) % 2 ^ 32
      state := if h.continuous then h.state else .disarmed
      stops := if h.continuous then h.stops else [] }) s)
  else updChan c (fun h => { h with block := b }) s

/-- The interval of a pair in ps (R230). -/
def intervalOf (stop start : TdcStamp) : Int :=
  clampI (-500000000000) 499999999999 (roundDivI ((stop.stamp - start.stamp) * 1000) 65536)

/-- A stop and a start are paired (R230, R231). -/
def pairUp (c : Nat) (stop start : TdcStamp) (s : State) : State :=
  if stop.epoch != start.epoch then stepDiscard c s
  else addResult c (intervalOf stop start) stop.stamp (stop.uncal || start.uncal) s

/-- The latest start, in the order of arrival, with a stamp at or before `x` (R229). -/
def startBefore (l : List TdcStamp) (x : Int) : Option TdcStamp := l.reverse.find? fun a => decide (a.stamp ≤ x)

/-- The next start after stamp `x` that stands already, its stamp moved by COMPENSATION: one of the same step epoch (R229, R231). -/
def startAfter (l : List TdcStamp) (x : Int) (epoch : Nat) : Option TdcStamp :=
  l.find? fun a => decide (x < a.stamp) && a.epoch == epoch

/-- A stop of an armed INTERVAL channel (R229). -/
def takeStop (c : Nat) (p : TdcStamp) (s : State) : State :=
  let h := chanOf s c
  let near := match startBefore h.starts p.stamp with
    | some a => if p.stamp - a.stamp < halfSec then some a else none
    | none => none
  match near with
  | some a => pairUp c p a s
  | none =>
    match startAfter h.starts p.stamp p.epoch with
    | some a => if a.stamp - p.stamp ≤ halfSec then pairUp c p a s else orphan c s
    | none => updChan c (fun h => { h with stops := h.stops ++ [p] }) s

/-- A start decides a waiting stop: it comes after the stop, at it or less than half a second before it, or after a step
(R229 to R231). -/
def decides (a p : TdcStamp) : Bool := decide (p.stamp - a.stamp < halfSec) || p.epoch != a.epoch

/-- A start of an armed INTERVAL channel: the waiting stops that it decides are paired or orphaned in order (R229 to R231). -/
def takeStart (c : Nat) (a : TdcStamp) (s : State) : State :=
  let h := chanOf s c
  let (ready, rest) := h.stops.partition (decides a)
  let s := updChan c (fun h => { h with
    starts := h.starts.filter (fun b => decide (b.stamp + 2 * halfSec ≥ a.stamp)) ++ [a], stops := rest }) s
  ready.foldl (fun s p =>
    if (chanOf s c).state != .armed then s
    else if a.stamp - p.stamp ≤ halfSec || p.epoch != a.epoch then pairUp c p a s else orphan c s) s

/-- An armed channel takes part with a stamp (R233). -/
def takesPart (s : State) (c : Nat) (p : TdcStamp) : Bool :=
  let h := chanOf s c
  h.state == .armed && decide (p.stamp ≥ h.armedFrom)

/-- The internal edge of an output's period, at instant `at_` in ps, reaches the channels that use it; a picosecond of rounding does not
make an edge of 10 MHz too early (R228). -/
def internalEdge (n : Nat) (stamp : Int) (at_ : Nat) (s : State) : State :=
  (List.range 8).foldl (fun s c =>
    let g := chanCfg s c
    if g.enable && g.mode == 0 && g.refSel == n + 1 then
      let h := chanOf s c
      let close := match h.internalPs with | some p => decide (at_ < p + 99999) | none => false
      if close then raise 7 2 (overrun c s)
      else
        let p : TdcStamp := { stamp, epoch := s.time.stepEpoch }
        let s := updChan c (fun h => { h with internalPs := some at_ }) s
        if takesPart s c p then takeStart c p s else s
    else s) s

/-! ### Frequency mode (R237) -/

/-- The gate length in 2⁻¹⁶ ns. -/
def gateLen (code : Nat) : Nat := 10 ^ code * 65536000000

/-- The nominal period in 2⁻¹⁶ ns as a quotient. -/
def nomPeriod (g : TdcCfg) : Nat × Nat := (g.freqDen * tsSec, max 1 g.freqNum)

/-- The present value of the basis of a channel. -/
def basisNow (s : State) (g : TdcCfg) : Nat := if g.basis = 0 then curTs s else rawTs s.now

/-- A gate opens with the edges that have come in it already. -/
def gateAt (c start : Nat) (edges : List (Nat × Int)) (uncal : Bool) (s : State) : State :=
  updChan c (fun h => { h with
    gateStart := start, gateEnd := start + gateLen (chanCfg s c).gate, gateEpoch := s.time.stepEpoch
    edges, gateUncal := uncal, late := [], lateUncal := false }) s

/-- The first gate opens at the first boundary from now on (R237). -/
def openGate (c : Nat) (s : State) : State :=
  let g := chanCfg s c
  gateAt c (ceilDiv (basisNow s g) (gateLen g.gate) * gateLen g.gate) [] false s

/-- An edge of an armed FREQUENCY channel (R237). -/
def takeEdge (c : Nat) (stamp : Int) (uncal : Bool) (s : State) : State :=
  let h := chanOf s c
  let (pn, pd) := nomPeriod (chanCfg s c)
  if stamp < h.gateStart then s
  else
    let e := match h.late ++ h.edges with
      | [] => (0, stamp)
      | (k, p) :: _ => (k + roundDiv ((stamp - p).toNat * pd) pn, stamp)
    updChan c (fun h =>
      if stamp < h.gateEnd then { h with edges := e :: h.edges, gateUncal := h.gateUncal || uncal }
      else { h with late := e :: h.late, lateUncal := h.lateUncal || uncal }) s

/-- The least-squares frequency offset of indexed stamps, 2⁻⁶⁴ (R237). -/
def fitFreq (g : TdcCfg) (l : List (Nat × Int)) : Int :=
  let (pn, pd) := nomPeriod g
  let n : Int := l.length
  let x0 := match l.getLast? with | some e => e.2 | none => 0
  let si := l.foldl (fun a e => a + (e.1 : Int)) 0
  let sx := l.foldl (fun a e => a + (e.2 - x0)) 0
  let sii := l.foldl (fun a e => a + (e.1 : Int) * e.1) 0
  let six := l.foldl (fun a e => a + (e.1 : Int) * (e.2 - x0)) 0
  let a := n * six - si * sx
  let b := n * sii - si * si
  if a ≤ 0 then 0 else roundDivI ((pn : Int) * b * (2 ^ 64 : Nat)) ((pd : Int) * a).toNat - (2 ^ 64 : Nat)

/-- The counter has stepped since the gate of a channel with BASIS 0 opened (R237). -/
def gateStepped (s : State) (c : Nat) : Bool := (chanCfg s c).basis == 0 && (chanOf s c).gateEpoch != s.time.stepEpoch

/-- A gate ends and gives its result, and the next one follows on it; a gate with a step is discarded, and the next one opens at the
first boundary of the stepped counter (R237). -/
def gateEnds (c : Nat) (s : State) : State :=
  let h := chanOf s c
  let g := chanCfg s c
  if gateStepped s c then openGate c (stepDiscard c s)
  else gateAt c h.gateEnd h.late h.lateUncal
    (if h.edges.length < 2 then orphan c s else addResult c (fitFreq g h.edges) h.gateEnd h.gateUncal s)

end Sys2Proof.Machine
end

