-- ==== Sys2Proof/Machine/Out.lean ====
section
/-! DEFINITION. The meanings of the rows of the clock root's status, the output synthesizers, IRIG-B and the serial time of
day (chapter 07). -/
namespace Sys2Proof.Machine
open Sys2Proof Host

def outOf (s : State) (n : Nat) : OutRun := nth s.outs n
def updOut (n : Nat) (f : OutRun → OutRun) (s : State) : State := { s with outs := upd s.outs n f }

/-! ### ROOT_STATUS and excursions (R199, R200, R221) -/

def rootN (code : Nat) : Nat := ([500, 250, 200, 125, 100] : List Nat).getD code 0
def rootIcp (code : Nat) : Nat := ([1000, 500, 400, 250, 200] : List Nat).getD code 0

/-- The analogue figures of the reply are free values: the detector's rms and peak, VTUNE and WOSC_FREQ. -/
def rootStatusReply (s : State) : Bytes :=
  let r := s.root
  leBytes 4 (b2n r.locked + 2 * b2n r.excursion + 4 * r.code) ++ leBytes 2 (rootN r.code) ++ leBytes 2 (rootIcp r.code) ++
  leBytes 4 (Config.freeNat s.free) ++ leBytes 4 (Config.freeNat (s.free + 1)) ++ leBytes 4 (Config.freeNat (s.free + 2)) ++
  leBytes 4 r.excursionCount ++ leBytes 4 r.lockTime ++ leBytes 4 (Config.freeNat (s.free + 3)) ++
  leBytes 8 ((s.now - r.lockedSince) / msPs)

def hRootStatus : Handler := fun q s => checked q 0 [] (.done (rootStatusReply s) { s with free := s.free + 4 })

def execRootStatus (q : Req) (s : State) : Outcome State Fault Refusal := cmdRow 0x0200 hRootStatus q s

/-- A detector error between 150 ps and 1.5 ns: the bound becomes unbounded (R158, R200). -/
def excursion (s : State) : State :=
  if !running s || s.root.excursion then s
  else
    let tr := tracking (tdpll s).state
    let s := raise 2 0 { s with
      root := { s.root with excursion := true, excursionCount := (s.root.excursionCount + 1) % 2 ^ 32 }
      bound := { s.bound with
        excTrack := s.bound.excTrack || tr
        excHold := s.bound.excHold || !tr
        excAt := if tr then s.now else s.bound.excAt } }
    settleBound (raise 5 6 s)

/-- The error has stayed small for 1,000 comparisons (R200). -/
def excursionEnd (s : State) : State :=
  if s.root.excursion then raise 2 1 { s with root := { s.root with excursion := false } } else s

def execExcursionEnd (t : Nat) (s : State) : Outcome State Fault Refusal := .next (whileRunning excursionEnd (begin_ t s))

/-! ### Edges (R204 to R206, R209) -/

/-- OFFSET with the trim in force (R204, R412). -/
def offsetOf (o : OutRun) : Int := o.offset + o.trim

/-- One second in 2⁻⁴⁸ ns. -/
def unitSec : Nat := 1000000000 * 2 ^ 48

/-- A millisecond in units of 2⁻⁴⁸ ns. -/
def msUnits : Nat := 1000000 * 2 ^ 48

/-- The period of an output as a quotient of units of 2⁻⁴⁸ ns (R204). -/
def periodOf (c : OutCfg) : Nat × Nat :=
  if c.mode = 2 then (max 1 c.period * 2 ^ 48, 1)
  else if c.mode = 4 then (unitSec, 1)
  else (max 1 c.freqDen * unitSec, max 1 c.freqNum)

/-- Domain time in 2⁻⁴⁸ ns (R205). -/
def domainTime (s : State) (d : Nat) : Nat := if d = 0 then s.time.counter.total else s.time.fdomAcc.getD (d - 1) 0

/-- An offset in 2⁻¹⁶ ns as units of 2⁻⁴⁸ ns. -/
def offUnits (o : Int) : Int := o * (2 ^ 32 : Nat)

/-- The number k of the first rising edge after domain time `x` (R204). -/
def edgeIndex (c : OutCfg) (offset x : Int) : Int := ((x - offUnits offset) * (periodOf c).2) / ((periodOf c).1 : Int) + 1

/-- The exact instant of half edge `j`, the rising edge of number j/2, as a numerator over twice the period's denominator, in
2⁻⁴⁸ ns (R204, R206). -/
def halfEdge (c : OutCfg) (offset j : Int) : Int := j * (periodOf c).1 + 2 * offUnits offset * (periodOf c).2

/-- An exact instant in units of `unit` 2⁻⁴⁸ ns per `per`, rounded once (R206). -/
def edgeIn (c : OutCfg) (offset j : Int) (per unit : Nat) : Int := roundDivI (halfEdge c offset j * per) (2 * (periodOf c).2 * unit)

/-- The instant of half edge `j` to the nearest picosecond of domain time (R206). -/
def edgePs (c : OutCfg) (offset j : Int) : Nat := (edgeIn c offset j 1000 (2 ^ 48)).toNat

/-- The falling edge of the period of edge `k` (R204). -/
def fallPs (c : OutCfg) (offset k : Int) : Nat :=
  if c.mode = 1 then edgePs c offset (2 * k + 1) else edgePs c offset (2 * k) + c.width * 1000

/-- The first unit of 2⁻⁴⁸ ns at which edge `k` has come. -/
def edgeUnits (c : OutCfg) (offset k : Int) : Int := -((-(halfEdge c offset (2 * k))) / ((2 * (periodOf c).2 : Nat) : Int))

/-- The domain time after which the next edge of an output counts: the edges of a tick are those after the tick before, less those
that the output has dealt with; a step starts anew at the stepped counter (R209, R219). -/
def edgeFloor (s : State) (o : OutRun) : Int :=
  let x : Int := domainTime s o.cfg.domain
  let lo := x - rateOf s o.cfg.domain
  if o.cfg.domain = 0 && s.time.lastStepTick == some (s.now / tickPs) then x
  else if decide (lo < o.served ∧ o.served ≤ x) then o.served
  else lo

/-- The domain time after which the first edge of an enabled output counts: that of START_AT, or of the present tick (R210). -/
def startFloor (s : State) (o : OutRun) : Int :=
  let c : Int := s.time.counter.total
  let at_ : Int := (o.startAt * 2 ^ 32 : Nat)
  let d := o.cfg.domain
  if c - rateOf s 0 < at_ then
    if d = 0 then at_ - 1 else (domainTime s d : Int) - (c - at_) * rateOf s d / (max 1 (rateOf s 0) : Nat) - 1
  else (domainTime s d : Int) - 1

/-- The number of an output's next edge: its first since it was enabled, or the one after those dealt with (R209, R210). -/
def nextEdge (s : State) (o : OutRun) : Int :=
  edgeIndex o.cfg (offsetOf o) (if o.prevRise.isNone && o.state != .gated then startFloor s o else edgeFloor s o)

/-- The instant in the model's clock of a domain time on the present tick. -/
def edgeWhen (s : State) (d : Nat) (e : Int) : Nat := s.now - ((domainTime s d : Int) - e).toNat * tickPs / max 1 (rateOf s d)

/-- Time moves on until domain time reaches a value. -/
def moveToDomain (d : Nat) (target : Int) (s : State) : State :=
  if d = 0 then moveToCounter target.toNat s
  else moveTo (tickAfter (ceilDiv (target.toNat - domainTime s d) (max 1 (rateOf s d))) s) s

/-- A gate is open (R208). -/
def gateOpen (s : State) (gate bnd : Nat) : Bool :=
  gate == 0 || (s.time.valid && (gate == 1 || decide (boundPs (counterBound s) ≤ bnd)))

def outShared (c : OutCfg) : Bool := bit c.flags 0

/-- A driver is on: the output is not shared, or the shared-output enable is true (R211). -/
def driverOn (s : State) (c : OutCfg) : Bool := c.mode != 0 && (!outShared c || s.pair.enable) && !s.root.lost

/-- What the pins P and N of an output carry (R207, R222): a differential pair carries the complement on N. -/
def outLegs (c : OutCfg) : Leg × Leg :=
  let p : Leg := if bit c.flags 1 then .inverted else .direct
  let q : Leg := if bit c.flags 1 then .direct else .inverted
  (p, if c.driver != 0 then q else if c.cmosN = 1 then q else if c.cmosN = 2 then p else .off)

/-- The pad keeper of a shared output is on: the chip is the Dummy in pair mode with a live claim, and does not drive (R211, R395). -/
def keeperOn (s : State) (c : OutCfg) : Bool :=
  outShared c && c.mode != 0 && isDummy s && s.pair.live && !driverOn s c && !s.root.lost

/-- The pad keepers of a shared audio port are on as those of a shared output are (R479). -/
def audKeeperOn (s : State) : Bool := isDummy s && s.pair.live && !s.pair.enable && !s.root.lost

/-- The keepers of the shared outputs and audio ports as the shared-output enable changes (R395, R479). -/
def emitKeepers (s : State) : State :=
  let s := (List.range 16).foldl (fun s n =>
    let c := (nth s.outs n).cfg
    if outShared c && c.mode != 0 then emit (.keeper n (keeperOn s c)) s else s) s
  (List.range 4).foldl (fun s p =>
    let c := nth s.work.aud p
    if bit c.flags 0 && c.mode != 0 then emit (.audioKeeper p (audKeeperOn s)) s else s) s

/-- An edge at instant `at_` follows the previous rising edge by less than half a period, or falls inside the width in progress
(R209). -/
def tooEarly (o : OutRun) (at_ : Nat) : Bool :=
  match o.prevRise with
  | none => false
  | some p => decide (2 * (at_ - p) * (periodOf o.cfg).2 * 2 ^ 48 < (periodOf o.cfg).1 * 1000) || decide (at_ < o.fallAt)

/-- The committed configuration takes effect (R210). -/
def takeCfg (n : Nat) (s : State) : State :=
  let c := nth s.work.outs n
  let s := if (outOf s n).stale then finishWait (.outAlign n) stBadState 0 [] s else s
  updOut n (fun o => if o.stale then { o with cfg := c, offset := c.offset, align := none, stale := false, state := if c.mode = 0 then .disabled else o.state } else o) s

/-- One step of an alignment at a rising edge (R212). -/
def alignEdge (n : Nat) (s : State) : State :=
  let o := outOf s n
  match o.align with
  | some a =>
    if !a.found || a.remaining = 0 then s
    else
      let most := (periodOf o.cfg).1 * a.slew / ((periodOf o.cfg).2 * 2 ^ 48) + a.carry
      let all := a.step || decide (a.remaining.natAbs ≤ most / 2 ^ 48)
      let part : Int := if all then a.remaining else withSign a.remaining (most / 2 ^ 48)
      updOut n (fun o => { o with
        offset := o.offset + part
        served := if a.step then o.served else o.served + offUnits part
        align := some { a with remaining := a.remaining - part, carry := if all then 0 else most % 2 ^ 48 } }) s
  | none => s

/-- The trim of the pair that an output's domain has (R412). -/
def trimTarget (s : State) (c : OutCfg) : Int := if outShared c && s.work.pair.mode == 1 then s.pair.trims.getD c.domain 0 else 0

/-- The trim in force moves towards its target at 1.0 × 10⁻⁷ (R412). -/
def trimEdge (n : Nat) (s : State) : State :=
  let o := outOf s n
  let d := trimTarget s o.cfg - o.trim
  let most := (s.now - o.trimAt) * 65536 / 10000000000
  let part := if d.natAbs ≤ most then d else withSign d most
  updOut n (fun o => { o with trim := o.trim + part, trimAt := s.now, served := o.served + offUnits part }) s

/-- A period starts at instant `at_` of the model's clock and is high for `width` ps (R208, R209). -/
def startPeriod (n at_ width : Nat) (s : State) : State :=
  updOut n (fun o => { o with
    state := .running, gateNoted := false, prevRise := some at_, fallAt := at_ + width, periods := (o.periods + 1) % 2 ^ 32 }) s

/-- A closed gate: the output idles, and GATED is raised once (R208). -/
def closeGate (n : Nat) (s : State) : State :=
  let o := outOf s n
  let s := if o.gateNoted then s else raise 2 5 (emit (.idle n (bit o.cfg.flags 2)) s)
  updOut n (fun o => { o with state := .gated, gateNoted := true }) s

/-- A rising edge of a running output: the gate is evaluated and a period starts, or the output idles (R208, R209). -/
def risingEdge (n : Nat) (s : State) : State :=
  let old := outOf s n
  let o := old
  let k := nextEdge s o
  let d := o.cfg.domain
  let e := edgeUnits o.cfg (offsetOf o) k
  let rise := edgePs o.cfg (offsetOf o) (2 * k)
  let s := moveToDomain d e s
  let at_ := edgeWhen s d e
  let stamp : Int := if d = 0 then edgeIn o.cfg (offsetOf o) (2 * k) 1 (2 ^ 32) else (pastStamp s at_).1
  let s := trimEdge n (takeCfg n (updOut n (fun o => { o with served := e }) s))
  let o := outOf s n
  if o.state == .disabled || o.cfg.mode = 0 || o.cfg.mode = 4 then s
  else if !gateOpen s o.cfg.gate o.cfg.gateBound then closeGate n s
  else if tooEarly o at_ then s
  else
    let s := internalEdge n stamp at_ s
    let fall := if o.cfg = old.cfg then fallPs old.cfg (offsetOf old) k
      else rise + (if o.cfg.mode = 1 then roundDiv ((periodOf o.cfg).1 * 1000) (2 * (periodOf o.cfg).2 * 2 ^ 48) else o.cfg.width * 1000)
    let s := if driverOn s o.cfg then emit (.period n rise fall (outLegs o.cfg).1 (outLegs o.cfg).2) s else s
    alignEdge n (startPeriod n at_ (if o.cfg.mode = 1 then 0 else o.cfg.width * 1000) s)

def outputEdge (n : Nat) (s : State) : State :=
  if running s && ((outOf s n).state == .running || (outOf s n).state == .gated) && (outOf s n).cfg.mode != 4 then risingEdge n s else s

def execOutputRisingEdge (n : Nat) (s : State) : Outcome State Fault Refusal := .next (outputEdge n { s with out := [] })

/-- An enabled output starts at its first rising edge at or after START_AT (R210). -/
def outputStart (n : Nat) (s : State) : State :=
  if running s && (outOf s n).state == .waiting then
    let at_ := (outOf s n).startAt * 2 ^ 32
    let s := if s.time.counter.total < at_ then moveToCounter at_ s else s
    let s := updOut n (fun o => { o with state := .running }) s
    if (outOf s n).cfg.mode = 4 then s else risingEdge n s
  else s

def execOutputStart (n : Nat) (s : State) : Outcome State Fault Refusal := .next (outputStart n { s with out := [] })

/-- A committed change of an output: at its next rising edge when it runs, and at once otherwise (R210). -/
def outCommit (old : List OutCfg) (s : State) : State :=
  (List.range 16).foldl (fun s n =>
    if nth old n == nth s.work.outs n then s
    else
      let s := updOut n (fun o => { o with stale := true }) s
      if (outOf s n).state == .disabled || (outOf s n).state == .waiting then takeCfg n s else s) s

/-! ### OUT_CONFIGURE, OUT_ENABLE, OUT_STATUS (R222, R223, R225) -/

/-- Driver limit in Hz (R207). -/
def driverMax (d : Nat) : Nat := ([250000000, 625000000, 400000000, 625000000] : List Nat).getD d 0

def outFields (p : Bytes) : List Fld :=
  let mode := fld p 1 1
  let drv := fld p 3 1
  let num := fld p 8 4
  let fr := mode == 1 || mode == 3
  let irig := mode == 4
  [inF 0 1 0 15, inF 1 1 0 4, whenF (mode == 1) 2 1 0 3, (if irig then zeroF 3 1 else inF 3 1 0 3), whenF (drv == 0) 4 1 0 2,
   whenF (drv == 0) 5 1 0 3, F 6 1 (fun v => decide (v < 32) && (irig || decide (v < 8))), whenF (mode != 0) 7 1 0 2,
   whenF fr 8 4 1 625000000,
   F 12 4 (fun v => if fr then decide (1 ≤ v ∧ v ≤ 2 * num ∧ num ≤ (if mode = 3 then 10000000 else driverMax drv) * v) else v == 0),
   whenF (mode == 2) 16 8 100 2000000000,
   F 24 4 (fun v => if mode = 2 then decide (4 ≤ v ∧ v + 4 ≤ fld p 16 8)
     else if mode = 3 then decide (4 ≤ v ∧ (v + 4) * num ≤ fld p 12 4 * 1000000000) else v == 0),
   whenF irig 28 1 0 7, rsvF 29 1,
   F 30 2 (fun v => if irig then decide ((toSigned 16 v).natAbs ≤ 900) && toSigned 16 v % 30 == 0 else v == 0),
   F 32 8 (fun v => if mode = 0 then v == 0 else decide ((toSigned 64 v).natAbs ≤ tsSec)),
   F 40 8 (fun v => if fld p 7 1 = 2 then decide (v < 2 ^ 40) else v == 0)]

def outCfgOf (p : Bytes) : OutCfg :=
  { mode := fld p 1 1, domain := fld p 2 1, driver := fld p 3 1, cmosN := fld p 4 1, drive := fld p 5 1, flags := fld p 6 1
    gate := fld p 7 1, freqNum := fld p 8 4, freqDen := fld p 12 4, period := fld p 16 8, width := fld p 24 4
    irigCode := fld p 28 1, localOffset := fldI p 30 2, offset := fldI p 32 8, gateBound := fld p 40 8 }

def hOutConfigure : Handler := fun q s =>
  let n := fld q.params 0 1
  checked q 48 (outFields q.params) <|
  writes (fun c => { c with outs := c.outs.set n { outCfgOf q.params with serial := (nth c.outs n).serial + 1 } }) s

def execOutConfigure (q : Req) (s : State) : Outcome State Fault Refusal := cmdRow 0x0210 hOutConfigure q s

def enableFields (p : Bytes) : List Fld :=
  [anyF 0 2, inF 2 1 0 1, rsvF 3 1, F 4 12 (fun v => tsFieldOk v && (fld p 2 1 == 1 || v == 0))]

def hOutEnable : Handler := fun q s =>
  let mask := fld q.params 0 2
  let en := fld q.params 2 1 == 1
  checked q 16 (enableFields q.params) <|
  refuseIf (en && (onesBelow 16 mask).any (fun n => (outOf s n).cfg.mode == 0)) stBadState 0 <|
  let at_ := tsOfField (fld q.params 4 12)
  let s := nextTick s
  .done [] ((onesBelow 16 mask).foldl (fun s n => updOut n (fun o =>
    if en then
      (if o.state == .disabled || o.state == .waiting then { o with state := .waiting, startAt := at_, periods := 0, gateNoted := false, prevRise := none } else o)
    else { o with state := .disabled }) s) s)

def execOutEnable (q : Req) (s : State) : Outcome State Fault Refusal := cmdRow 0x0211 hOutEnable q s

def outStateCode : OutState → Nat
  | .disabled => 0
  | .waiting => 1
  | .running => 2
  | .gated => 3

/-- An output idles at its idle level. -/
def outIdle (o : OutRun) : Bool := o.state != .running

/-- PIN_DRIVEN (R208, R211, R225). -/
def pinDriven (s : State) (o : OutRun) : Bool := driverOn s o.cfg && !(outIdle o && bit o.cfg.flags 2)

/-- INTEGER_RELATED (R206). -/
def integerRelated (o : OutRun) : Bool :=
  let c := o.cfg
  c.mode != 0 && o.offset * 1000 % 65536 == 0 &&
  (if c.mode = 2 then c.period * 1000 % 800 == 0
   else if c.mode = 4 then true
   else (max 1 c.freqDen * 1000000000000) % (800 * max 1 c.freqNum) == 0)

def outStatusReply (s : State) (n : Nat) : Bytes :=
  let o := outOf s n
  let rem := match o.align with | some a => a.remaining | none => 0
  let next := if o.state == .disabled || o.cfg.mode == 0 || o.cfg.domain != 0 then 0
    else (edgeIn o.cfg (offsetOf o) (2 * edgeIndex o.cfg (offsetOf o) (if o.state == .waiting then startFloor s o else s.time.counter.total)) 1 (2 ^ 32)).toNat
  leBytes 1 n ++ leBytes 1 (outStateCode o.state) ++
  leBytes 1 (packBits [pinDriven s o, outShared o.cfg, o.placerOk, o.align.isSome, integerRelated o]) ++ leBytes 1 o.cfg.mode ++
  leBytes 4 o.periods ++ leInt 8 o.offset ++ leInt 8 rem ++ leInt 8 o.lastD ++ tsBytes next ++ zeros 4

def hOutStatus : Handler := fun q s =>
  checked q 4 [inF 0 1 0 15, rsvF 1 3] (.done (outStatusReply s (fld q.params 0 1)) s)

def execOutStatus (q : Req) (s : State) : Outcome State Fault Refusal := cmdRow 0x0213 hOutStatus q s

/-! ### OUT_ALIGN (R212, R213, R224) -/

/-- A source is a REFIN in PULSE or PULSE_TOD mode. -/
def pulseSource (c : Cfg) (o : Nat) : Bool := kindOf o == .refin && ((nth c.refs o).mode == 0 || (nth c.refs o).mode == 3)

def alignReply (d offset : Int) : Bytes := leInt 8 d ++ leInt 8 offset

def alignFields (p : Bytes) : List Fld :=
  let cancel := fld p 1 1 == 1
  [inF 0 1 0 15, inF 1 1 0 1,
   F 2 2 (fun v => if cancel then v == 0 else (match ordOf v with | some o => kindOf o == .refin | none => false)),
   whenF (!cancel) 4 1 0 1, rsvF 5 3, F 8 8 (fun v => !cancel || v == 0),
   F 16 8 (fun v => if cancel || bit (fld p 4 1) 0 then v == 0 else decide (40960 ≤ v ∧ v ≤ 1844674407370955)),
   whenF (!cancel) 24 4 1 60000]

def hOutAlign : Handler := fun q s =>
  let p := q.params
  let n := fld p 0 1
  let cancel := fld p 1 1 == 1
  let step := bit (fld p 4 1) 0
  checked q 28 (alignFields p) <|
  let o := outOf s n
  if cancel then
    let rem := match o.align with | some a => a.remaining | none => 0
    let s := updOut n (fun o => { o with align := none }) (nextTick s)
    .done (alignReply rem o.offset) (finishWait (.outAlign n) stBadState 0 [] s)
  else
    let ord := (ordOf (fld p 2 2)).getD 0
    refuseIf o.align.isSome stBadState 0 <|
    refuseIf (o.cfg.mode = 0 ∨ o.cfg.mode = 4) stBadState 0 <|
    refuseIf (!pulseSource s.work ord || (refOf s ord).state == .disabled || bit (refOf s ord).cause cActivity) stBadState 0 <|
    let s := nextTick s
    .later (addWait { key := .outAlign n, opcode := 0x0212, req := q } (updOut n (fun o => { o with align := some {
      ord, alignOffset := fldI p 8 8, step, slew := fld p 16 8, deadline := s.now + fld p 24 4 * msPs } }) s))

def execOutAlign (q : Req) (s : State) : Outcome State Fault Refusal := cmdRow 0x0212 hOutAlign q s

/-- d of an output against a stamp in domain time, 2⁻¹⁶ ns, in (−P/2, P/2] (R212). -/
def alignD (c : OutCfg) (offset : Int) (x : Int) : Int :=
  let (pn, pd) := periodOf c
  let y := (x - offUnits offset) * pd
  let k := (2 * y + pn) / (2 * pn : Int)
  roundDivI (k * pn - y) (pd * 2 ^ 32)

/-- The first stamped pulse after OUT_ALIGN (R212, R213). -/
def alignPulse (n ps : Nat) (s : State) : State :=
  let s := begin_ ps s
  let o := outOf s n
  match o.align with
  | none => s
  | some a =>
    if a.found || !running s || s.time.lastStepTick == some (s.now / tickPs) then s
    else
      let comp := (refCfg s a.ord).compensation
      let x : Int := (if o.cfg.domain = 0 then offUnits (stampNow s)
          else (domainTime s o.cfg.domain : Int) + (s.now % tickPs * rateOf s o.cfg.domain / tickPs : Nat)) +
        offUnits (a.alignOffset - comp)
      let d := alignD o.cfg (offsetOf o) x
      let s := updOut n (fun o => { o with lastD := d, align := some { a with found := true, remaining := -d } }) s
      finishWait (.outAlign n) stDone 0 (alignReply d (o.offset - d)) s

def execAlignPulse (n t : Nat) (s : State) : Outcome State Fault Refusal := .next (alignPulse n t s)

/-- No stamped pulse within TIMEOUT (R212). -/
def alignTimeout (n : Nat) (s : State) : State :=
  match (outOf s n).align with
  | none => s
  | some a =>
    if a.found then s
    else finishWait (.outAlign n) stBadState 0 [] (raise 2 3 (updOut n (fun o => { o with align := none }) (moveTo a.deadline s)))

def execAlignTimeout (n : Nat) (s : State) : Outcome State Fault Refusal := .next (whileRunning (alignTimeout n) { s with out := [] })

/-- The slew or the step of an alignment is complete (R212). -/
def alignDone (n : Nat) (s : State) : State :=
  match (outOf s n).align with
  | none => s
  | some a => if a.found && a.remaining == 0 then raise 2 2 (updOut n (fun o => { o with align := none }) s) else s

def execAlignDone (n : Nat) (s : State) : Outcome State Fault Refusal := .next (whileRunning (alignDone n) { s with out := [] })

/-- The placer calibration of an output fails (R218). -/
def placerLost (n : Nat) (s : State) : State :=
  if (outOf s n).placerOk then raise 2 4 (updOut n (fun o => { o with placerOk := false }) s) else s

def execPlacerCalLost (n t : Nat) (s : State) : Outcome State Fault Refusal := .next (whileRunning (placerLost n) (begin_ t s))

/-! ### Labels in hours, minutes and seconds (R53) -/

/-- The UTC count that labels a TAI second, and whether it is the second 60 of a positive leap (R52, R53). -/
def utcLabel (t : TimePart) (sec : Nat) : Int × Bool :=
  match (smearEntries t).find? (fun e => e.1 = sec + 1 ∧ e.2.2 > e.2.1) with
  | some e => ((sec : Int) - e.2.1 - 1, true)
  | none => ((sec : Int) - offsetInForce t sec, false)

/-- Year, day of year, hour, minute, second of a count with the second-60 flag. -/
structure Civil where
  year : Nat
  day : Nat
  hour : Nat
  minute : Nat
  second : Nat

def civilOf (count : Int) (leap : Bool) : Civil :=
  let c := count.toNat
  let (y, d) := yearOf (c / 86400)
  { year := y, day := d, hour := c / 3600 % 24, minute := c / 60 % 60, second := c % 60 + b2n leap }

/-- Month and day of a day of the year. -/
def monthDay (y d : Nat) : Nat × Nat :=
  let m := ((List.range 13).drop 1).foldl (fun m k => if daysToMonth y k < d then k else m) 1
  (m, d - daysToMonth y m)

/-! ### IRIG-B (R214, R215). Bit places are those of IRIG Standard 200 and IEEE 1344. -/

/-- BCD digit bits, least significant first. -/
def bcd (v n : Nat) : List Nat := (List.range n).map fun k => v / 2 ^ k % 2

/-- The time-quality code for a bound and a placement accuracy in ps (R215). -/
def qualityCode (bnd : Option Nat) (placer : Nat) (calOk : Bool) : Nat :=
  match bnd with
  | none => 15
  | some b =>
    let v := ceilDiv b 256 + placer
    if !calOk then 15
    else (((List.range 12).drop 1).find? fun k => decide (v ≤ 1000 * 10 ^ (k - 1))).getD 15

/-- The elements at positions 50 to 78 of the IEEE 1344 extension: year, leap pending and sign, daylight saving, local offset,
quality and parity of the elements before. -/
def ieee1344 (c : Civil) (pending minus : Bool) (loc : Int) (quality : Nat) : List Nat × List Nat × List Nat :=
  let half := loc.natAbs / 30
  (bcd (c.year % 10) 4 ++ [0] ++ bcd (c.year / 10 % 10) 4,
   [b2n pending, b2n minus, 0, 0, b2n (decide (loc < 0))] ++ bcd (half / 2) 4,
   [half % 2] ++ bcd quality 4)

/-- The 100 elements of a frame: 0, 1 and 2 for a position identifier (R214). -/
def irigElements (code : Nat) (c : Civil) (ext : Option (List Nat × List Nat × List Nat)) : List Nat :=
  let hasYear := code ≥ 4
  let hasSbs := code = 0 ∨ code = 3 ∨ code = 4 ∨ code = 7
  let sbs := c.hour * 3600 + c.minute * 60 + c.second
  let year := bcd (c.year % 10) 4 ++ [0] ++ bcd (c.year / 10 % 10) 4
  let row5 := match ext with | some e => e.1 | none => if hasYear then year else List.replicate 9 0
  let row6 := match ext with | some e => e.2.1 | none => List.replicate 9 0
  let time := [2] ++ bcd (c.second % 10) 4 ++ [0] ++ bcd (c.second / 10) 3 ++ [2] ++
    bcd (c.minute % 10) 4 ++ [0] ++ bcd (c.minute / 10) 3 ++ [0, 2] ++
    bcd (c.hour % 10) 4 ++ [0] ++ bcd (c.hour / 10) 2 ++ [0, 0, 2] ++
    bcd (c.day % 10) 4 ++ [0] ++ bcd (c.day / 10 % 10) 4 ++ [2] ++
    bcd (c.day / 100) 2 ++ List.replicate 7 0 ++ [2]
  let upto := time ++ row5 ++ [2] ++ row6 ++ [2]
  let row7 := match ext with
    | some e => e.2.2 ++ [(upto ++ e.2.2).foldl (fun a b => if b = 1 then 1 - a else a) 0] ++ List.replicate 3 0
    | none => List.replicate 9 0
  upto ++ row7 ++ [2] ++ (if hasSbs then bcd sbs 9 ++ [2] ++ bcd (sbs / 512) 8 ++ [0] else List.replicate 9 0 ++ [2] ++ List.replicate 9 0) ++ [2]

/-- The placement accuracy in ps (R218). -/
def placementPs (driver : Nat) : Nat := if driver = 0 then 100 else 40

/-- The frame of an on-time mark: the label, the pending leap and the quality (R214, R215). -/
def irigFrameOf (s : State) (o : OutRun) (sec : Nat) : List Nat :=
  let c := o.cfg
  let tai := bit c.flags 4
  let (u, leap) := if tai then ((sec : Int), false) else utcLabel s.time sec
  let civ := civilOf (u + (if tai then 0 else c.localOffset * 60)) leap
  let (pend, minus) := match s.time.future.head? with
    | some e => (decide (e.leapTai ≤ sec + 60), decide (e.newOffset < s.time.currentOffset))
    | none => (false, false)
  let q := qualityCode (counterBound s) (placementPs c.driver) o.placerOk
  irigElements c.irigCode civ (if bit c.flags 3 then some (ieee1344 civ pend minus (if tai then 0 else c.localOffset) q) else none)

/-- An IRIG-B frame starts at an on-time mark (R208, R214). -/
def irigFrame (n : Nat) (s : State) : State :=
  let o := outOf s n
  if !running s || (o.state != .running && o.state != .gated) || o.cfg.mode != 4 then s
  else
    let k := nextEdge s o
    let e := edgeUnits o.cfg (offsetOf o) k
    let mark := edgePs o.cfg (offsetOf o) (2 * k)
    let stamp := edgeIn o.cfg (offsetOf o) (2 * k) 1 (2 ^ 32)
    let s := moveToDomain 0 e s
    let at_ := edgeWhen s 0 e
    let s := takeCfg n (updOut n (fun o => { o with served := e }) s)
    let o := outOf s n
    if o.state == .disabled || o.cfg.mode != 4 then s
    else if !gateOpen s o.cfg.gate o.cfg.gateBound then closeGate n s
    else if tooEarly o at_ then s
    else
      let s := internalEdge n stamp at_ s
      let s := if driverOn s o.cfg then
          emit (.irig n mark (irigFrameOf s o k.toNat) (outLegs o.cfg).1 (outLegs o.cfg).2) s else s
      startPeriod n at_ 0 s

def execIrigFrame (n : Nat) (s : State) : Outcome State Fault Refusal := .next (irigFrame n { s with out := [] })

/-! ### Serial time of day (R216, R217, R226) -/

def todFields (p : Bytes) : List Fld :=
  let upper := fun v => decide (65 ≤ v ∧ v ≤ 90)
  [inF 0 1 0 1, inF 1 1 0 3, F 2 2 (fun v => upper (v % 256) && upper (v / 256)), inF 4 4 9600 921600,
   F 8 4 (fun v => decide (10 ≤ v ∧ v + ceilDiv 390000 (max 1 (fld p 4 4)) ≤ 900)),
   F 12 2 (fun v => decide ((toSigned 16 v).natAbs ≤ 900)), inF 14 1 0 2, rsvF 15 1,
   F 16 8 (fun v => if fld p 14 1 = 2 then decide (v < 2 ^ 40) else v == 0)]

def todCfgOf (p : Bytes) : TodCfg :=
  { enable := fld p 0 1 == 1, flags := fld p 1 1, talker := fld p 2 2, baud := fld p 4 4, delay := fld p 8 4
    localOffset := fldI p 12 2, gate := fld p 14 1, gateBound := fld p 16 8 }

def hTodoutConfigure : Handler := fun q s =>
  checked q 24 (todFields q.params) (writes (fun c => { c with tod := todCfgOf q.params }) s)

def execTodoutConfigure (q : Req) (s : State) : Outcome State Fault Refusal := cmdRow 0x0220 hTodoutConfigure q s

def digit (v : Nat) : Byte := BitVec.ofNat 8 (48 + v % 10)
def twoDigits (v : Nat) : Bytes := [digit (v / 10), digit v]
def hexUpper (v : Nat) : Byte := BitVec.ofNat 8 (if v < 10 then 48 + v else 55 + v)

/-- The ZDA sentence of a second (R216). -/
def zdaText (talker : Nat) (c : Civil) (loc : Int) : Bytes :=
  let (m, d) := monthDay c.year c.day
  let comma : Byte := 44#8
  let body : Bytes := [BitVec.ofNat 8 talker, BitVec.ofNat 8 (talker / 256), 90#8, 68#8, 65#8, comma] ++
    twoDigits c.hour ++ twoDigits c.minute ++ twoDigits c.second ++ [46#8, 48#8, 48#8, comma] ++ twoDigits d ++ [comma] ++
    twoDigits m ++ [comma] ++ twoDigits (c.year / 100) ++ twoDigits c.year ++ [comma] ++
    (if loc < 0 then [45#8] else []) ++ twoDigits (loc.natAbs / 60) ++ [comma] ++ twoDigits (loc.natAbs % 60)
  let x := (body.foldl (· ^^^ ·) 0#8).toNat
  [36#8] ++ body ++ [42#8, hexUpper (x / 16), hexUpper (x % 16), 13#8, 10#8]

/-- A sentence leaves on TOD_TX when this chip drives the pin (R216, R217). -/
def sendTod (c : TodCfg) (text : Bytes) (s : State) : State :=
  if (!bit c.flags 0 || s.pair.enable) && !s.root.lost then emit (.serial "TOD_TX" text) s else s

/-- At second `b` the gate is looked at; DELAY later the sentence is sent (R216, R217). -/
def todGated (c : TodCfg) (b delay : Nat) (s : State) : State :=
  if !gateOpen s c.gate c.gateBound then raise 2 6 { s with time := { s.time with todWithheld := some (b, s.time.stepEpoch) } }
  else
    let (u, leap) := utcLabel s.time (b + (if bit c.flags 1 then 1 else 0))
    sendTod c (zdaText c.talker (civilOf u leap) c.localOffset) (moveToCounter (b * unitSec + delay) s)

/-- Time moves on to a second's boundary that lies ahead. -/
def toSecond (b : Nat) (s : State) : State := if b * unitSec > s.time.counter.total then moveToCounter (b * unitSec) s else s

/-- The second whose sentence comes next, with its DELAY in 2⁻⁴⁸ ns: a withheld second is not judged again (R216, R217). -/
def todNext (c : TodCfg) (delay : Nat) (s : State) : State :=
  let b := (s.time.counter.total + unitSec - delay) / unitSec
  let b := if s.time.todWithheld == some (b, s.time.stepEpoch) then b + 1 else b
  todGated c b delay (toSecond b s)

/-- The sentence of the next second is sent, or withheld by its gate (R208, R216, R217). -/
def todSentence (s : State) : State :=
  if !running s || !s.work.tod.enable then s else todNext s.work.tod (s.work.tod.delay * msUnits) s

def execTodSentence (s : State) : Outcome State Fault Refusal := .next (todSentence { s with out := [] })

end Sys2Proof.Machine
end

