-- ==== Sys2Proof/Machine/Net.lean ====
section
/-! DEFINITION. Ethernet, IP and UDP as the classifier reads them and as the engines write them (R250, R284, R285). -/
namespace Sys2Proof.Machine
open Sys2Proof

/-- The one's-complement sum of 16-bit words, an odd last byte padded with 0. -/
def onesSum : Bytes → Nat
  | [] => 0
  | [a] => a.toNat * 256
  | a :: b :: r => a.toNat * 256 + b.toNat + onesSum r

/-- Carries folded into 16 bits. -/
def foldCarry (n : Nat) : Nat :=
  let a := n % 65536 + n / 65536
  let b := a % 65536 + a / 65536
  b % 65536 + b / 65536

/-- The Internet checksum of bytes. -/
def inetSum (b : Bytes) : Nat := 65535 - foldCarry (onesSum b)

/-- A frame's Ethernet header: addresses, the tags as they stand, the outermost TCI, the EtherType, the payload. -/
structure EthView where
  da : Nat
  sa : Nat
  tags : Bytes
  tci : Option Nat
  etype : Nat
  payload : Bytes
  deriving DecidableEq, Repr, Inhabited

/-- The tags in front of the EtherType: TPIDs 0x8100 and 0x88A8 (R250). -/
def splitTags : Nat → Bytes → Bytes × Bytes
  | 0, b => ([], b)
  | n + 1, b =>
    if fldBE b 0 2 = 0x8100 ∨ fldBE b 0 2 = 0x88A8 then
      let (t, r) := splitTags n (b.drop 4)
      (b.take 4 ++ t, r)
    else ([], b)

/-- The Ethernet header of a frame. -/
def ethOf (f : Bytes) : EthView :=
  let (tags, rest) := splitTags (f.length / 4) (f.drop 12)
  { da := fldBE f 0 6, sa := fldBE f 6 6, tags
    tci := if tags.isEmpty then none else some (fldBE tags 2 2)
    etype := fldBE rest 0 2, payload := rest.drop 2 }

/-- A group address: broadcast or multicast. -/
def isGroup (mac : Nat) : Bool := bit mac 40

/-- A UDP datagram: family, addresses, ports, traffic class, payload. -/
structure UdpView where
  v6 : Bool
  src : Nat
  dst : Nat
  tclass : Nat
  sport : Nat
  dport : Nat
  payload : Bytes
  deriving DecidableEq, Repr, Inhabited

/-- What the classifier finds above Ethernet (R284 rows 1 and 2). -/
inductive IpView where
  | malformed
  | special
  | udp (u : UdpView)
  | other
  deriving DecidableEq, Repr

/-- The pseudo-header of a datagram. -/
def pseudo (v6 : Bool) (src dst len : Nat) : Bytes :=
  if v6 then beBytes 16 src ++ beBytes 16 dst ++ beBytes 4 len ++ [0#8, 0#8, 0#8, 17#8]
  else beBytes 4 src ++ beBytes 4 dst ++ [0#8, 17#8] ++ beBytes 2 len

/-- A UDP datagram of the IP payload `d` (R284 row 1). -/
def udpOf (v6 : Bool) (src dst tclass : Nat) (d : Bytes) : IpView :=
  let len := fldBE d 4 2
  if d.length < 8 ∨ len ≠ d.length then .malformed
  else if fldBE d 6 2 ≠ 0 ∧ foldCarry (onesSum (pseudo v6 src dst len ++ d)) ≠ 65535 then .malformed
  else .udp { v6, src, dst, tclass, sport := fldBE d 0 2, dport := fldBE d 2 2, payload := d.drop 8 }

/-- The IP packet fills the frame, or the frame is padded to its minimum of 60 bytes before the FCS. -/
def fillsFrame (frameLen avail need : Nat) : Bool := avail == need || (decide (need < avail) && decide (frameLen ≤ 60))

/-- What stands above Ethernet in a frame. -/
def ipOf (frameLen : Nat) (e : EthView) : IpView :=
  let p := e.payload
  if e.etype = 0x0800 then
    let ihl := fldBE p 0 1 % 16 * 4
    let total := fldBE p 2 2
    if fldBE p 0 1 / 16 ≠ 4 ∨ ihl < 20 ∨ p.length < ihl ∨ total < ihl ∨ !fillsFrame frameLen p.length total then .malformed
    else if foldCarry (onesSum (p.take ihl)) ≠ 65535 then .malformed
    else if ihl ≠ 20 ∨ fldBE p 6 2 % 0x4000 ≠ 0 then .special
    else if fldBE p 9 1 = 17 then udpOf false (fldBE p 12 4) (fldBE p 16 4) (fldBE p 1 1) ((p.take total).drop 20)
    else .other
  else if e.etype = 0x86DD then
    let plen := fldBE p 4 2
    let nh := fldBE p 6 1
    if fldBE p 0 1 / 16 ≠ 6 ∨ p.length < 40 ∨ !fillsFrame frameLen p.length (40 + plen) then .malformed
    else if nh = 17 then udpOf true (fldBE p 8 16) (fldBE p 24 16) (fldBE p 0 2 / 16 % 256) ((p.take (40 + plen)).drop 40)
    else if nh = 0 ∨ nh = 43 ∨ nh = 44 ∨ nh = 50 ∨ nh = 51 ∨ nh = 60 ∨ nh = 135 ∨ nh = 139 ∨ nh = 140 then .special
    else .other
  else .other

/-- CRC-32 of IEEE 802.3, reflected, before the final complement. -/
def crc32Bit (r : Nat) : Nat → Nat
  | 0 => r
  | n + 1 => crc32Bit (if r % 2 = 1 then (r / 2) ^^^ 0xEDB88320 else r / 2) n

def crc32 (bs : Bytes) : Nat := 0xFFFFFFFF - bs.foldl (fun r b => crc32Bit (r ^^^ b.toNat) 8) 0xFFFFFFFF

/-- A frame padded to the minimum length before its FCS. -/
def padMin (b : Bytes) : Bytes := b ++ zeros (60 - b.length)

/-- A frame as the MAC sends it: padded, with its FCS, whose bytes stand least significant first (R252). -/
def padFrame (b : Bytes) : Bytes := padMin b ++ leBytes 4 (crc32 (padMin b))

/-- A frame from its parts. -/
def ethFrame (da sa : Nat) (tags : Bytes) (etype : Nat) (payload : Bytes) : Bytes :=
  padMin (beBytes 6 da ++ beBytes 6 sa ++ tags ++ beBytes 2 etype ++ payload)

/-- A UDP datagram with its checksum. -/
def udpBytes (v6 : Bool) (src dst sport dport : Nat) (payload : Bytes) : Bytes :=
  let len := 8 + payload.length
  let d := fun (c : Nat) => beBytes 2 sport ++ beBytes 2 dport ++ beBytes 2 len ++ beBytes 2 c ++ payload
  let c := inetSum (pseudo v6 src dst len ++ d 0)
  d (if c = 0 then 65535 else c)

/-- An IP packet with a UDP datagram: identification 0, DF, TTL and hop limit 64. -/
def ipBytes (v6 : Bool) (src dst tclass sport dport : Nat) (payload : Bytes) : Bytes :=
  let u := udpBytes v6 src dst sport dport payload
  if v6 then
    beBytes 4 (0x60000000 + tclass * 2 ^ 20) ++ beBytes 2 u.length ++ [17#8, 64#8] ++ beBytes 16 src ++ beBytes 16 dst ++ u
  else
    let h := fun (c : Nat) => beBytes 1 0x45 ++ beBytes 1 tclass ++ beBytes 2 (20 + u.length) ++ beBytes 2 0 ++ beBytes 2 0x4000 ++
      [64#8, 17#8] ++ beBytes 2 c ++ beBytes 4 src ++ beBytes 4 dst
    h (inetSum (h 0)) ++ u

/-- The EtherType of a family. -/
def ipType (v6 : Bool) : Nat := if v6 then 0x86DD else 0x0800

/-- A whole frame with a UDP datagram. -/
def udpFrame (da sa : Nat) (tags : Bytes) (u : UdpView) : Bytes :=
  ethFrame da sa tags (ipType u.v6) (ipBytes u.v6 u.src u.dst u.tclass u.sport u.dport u.payload)

/-- Bytes of a frame with a UDP payload of a length, with its FCS. -/
def udpFrameLen (v6 : Bool) (tags n : Nat) : Nat := max 60 (14 + tags + (if v6 then 48 else 28) + n) + 4

end Sys2Proof.Machine
end

