-- ==== Sys2Proof/Machine/PortOps.lean ====
section
/-! DEFINITION. Ports: figures of the modes, states, pause, windows, ESMC quality, calendars, and the dropping of queued
frames (R248 to R277, R293, R294). -/
namespace Sys2Proof.Machine
open Sys2Proof

def portOf (s : State) (p : Nat) : PortRun := nth s.ports p
def portCfg (s : State) (p : Nat) : PortCfg := nth s.work.ports p
def updPort (p : Nat) (f : PortRun → PortRun) (s : State) : State := { s with ports := upd s.ports p f }

/-- Byte time of a mode in ps (R248). -/
def byteTime (mode : Nat) : Nat := ([0, 8000, 800, 320, 80] : List Nat).getD mode 0

/-- Launch grid step of a mode in ps (R262). -/
def gridStep (mode : Nat) : Nat := ([1, 16000, 6400, 2560, 640] : List Nat).getD mode 1

/-- A pause quantum of a mode in ps (R267). -/
def quantumPs (mode : Nat) : Nat := ([0, 512000, 51200, 20480, 5120] : List Nat).getD mode 0

def portByte (s : State) (p : Nat) : Nat := byteTime (portCfg s p).mode

/-- An instant rounded up to the launch grid of a port, which follows SCLK, or the frequency domain that TX_DOMAIN selects (R249,
R262). -/
def gridUp (s : State) (p ps : Nat) : Nat :=
  let g := gridStep (portCfg s p).mode
  match (nth s.work.synces p).txDomain with
  | 0 => ceilDiv ps g * g
  | d + 1 =>
    let acc := s.time.fdomAcc.getD d 0 * 1000
    let rate := max 1 (s.time.fdomRate.getD d 0) * 1000
    let tick := s.now / tickPs * tickPs
    let step := g * 2 ^ 48
    max ps (tick + ceilDiv ((ceilDiv (acc + (ps - tick) * rate / tickPs) step * step - acc) * tickPs) rate)

/-- The timestamp uncertainty of a mode in ps (R255). -/
def modeUnc (mode : Nat) (cal : Bool) : Nat :=
  if cal then ([0, 400, 100, 60, 150] : List Nat).getD mode 0 else ([0, 4000, 1600, 1200, 1500] : List Nat).getD mode 0

/-- The timestamp uncertainty in force on a port, 2⁻⁸ ps; a disabled port has none (R255). -/
def portUnc (s : State) (p : Nat) : Option Nat :=
  let c := portCfg s p
  if c.mode = 0 then none else some ((modeUnc c.mode (portOf s p).calOk + c.boardUnc) * 256)

/-- A delay in the offset format as ps (R255). -/
def delayPs (d : Int) : Int := roundDivI (d * 1000) 65536

/-- Flags of PORT_CONFIGURE (R279). -/
def an37 (c : PortCfg) : Bool := bit c.flags 0
def promiscuous (c : PortCfg) : Bool := bit c.flags 1
def sharedLane (c : PortCfg) : Bool := bit c.flags 2
def autoRecal (c : PortCfg) : Bool := bit c.flags 3
def lateSendTrue (c : PortCfg) : Bool := bit c.flags 6

/-- The performance counter `j` of a port (R541). -/
def portCount (p j : Nat) (s : State) : State :=
  let s := bump (1024 + 16 * p + j) s
  if j = 9 then occur 0x20 p s
  else if j = 11 then noteRate 0 s
  else if j = 13 then noteRate 1 s
  else if j = 8 then noteRate 2 s
  else s
def portCounter (s : State) (p j : Nat) : Nat := (getKey (1024 + 16 * p + j) s.perf).getD 0

/-- A port event: latched in PORT_STATUS and summarised in class 8 (R278). `ev` is the bit of EVENTS. -/
def portEvent (p ev : Nat) (s : State) : State :=
  let irq := ([0, 1, 2, 3, 4, 5, 6, 7, 8] : List Nat).getD ev 0
  raiseIdx 8 irq p (updPort p (fun r => { r with events := setBit r.events ev }) s)

/-- The port sends frames (R253, R276). -/
def txEnabled (s : State) (p : Nat) : Bool :=
  (portOf s p).state == .up && !(sharedLane (portCfg s p) && svcClosed s)

/-! ### Cells of the packet buffer (R298, R299, R300) -/

def suitNo : Suit → Nat
  | .spades => 0
  | .hearts => 1
  | .diamonds => 2
  | .clubs => 3

def suitRes (c : SvcCfg) : Suit → Nat
  | .spades => c.resSpades
  | .hearts => c.resHearts
  | .diamonds => c.resDiamonds
  | .clubs => c.resClubs

def suits : List Suit := [.spades, .hearts, .diamonds, .clubs]

/-- Cells of the shared pool in a partition (R298). -/
def sharedPool (c : SvcCfg) : Int := 48000 - c.resSpades - c.resHearts - c.resDiamonds - c.resClubs - c.resTx

/-- Cells held by a Suit, and those beyond its reservation. -/
def suitCells (s : State) (u : Suit) : Nat := s.svc.cells.getD (suitNo u) 0
def suitOver (s : State) (u : Suit) (extra : Nat) : Nat := suitCells s u + extra - suitRes s.work.svc u

/-- Free cells of the shared pool (R298, R309). -/
def sharedFree (s : State) : Nat :=
  (sharedPool s.work.svc - ((suits.foldl (fun a u => a + suitOver s u 0) 0 + (s.svc.txCells - s.work.svc.resTx) : Nat) : Int)).toNat

/-- The cap of a Suit on the shared pool (R299). -/
def sharedCap (s : State) : Suit → Nat
  | .diamonds => s.work.svc.capDiamonds
  | .clubs => s.work.svc.capClubs
  | .spades => 49152
  | .hearts => 49152

/-- A Suit can take `n` more cells (R299). -/
def canTake (s : State) (u : Suit) (n : Nat) : Bool :=
  decide (suitOver s u n ≤ sharedCap s u) && decide (suitOver s u n - suitOver s u 0 ≤ sharedFree s)

/-- Cells of a number of bytes (R298). -/
def cellsOf (bytes : Nat) : Nat := ceilDiv bytes 256

/-- After a change of cells: shedding begins, and the stretch of free cells that ends it (R300). -/
def shedCheck (s : State) : State :=
  let free := sharedFree s
  let s := if free < s.work.svc.shedFree && !s.svc.shedding then raise 9 4 { s with svc := { s.svc with shedding := true } } else s
  let since := if s.svc.shedding && decide (free ≥ s.work.svc.shedFree + 1024) then
      some (s.svc.freeSince.getD s.now) else none
  { s with svc := { s.svc with freeSince := since } }

def takeCells (u : Suit) (n : Nat) (s : State) : State :=
  shedCheck { s with svc := { s.svc with cells := upd s.svc.cells (suitNo u) (· + n) } }
def freeCells (u : Suit) (n : Nat) (s : State) : State :=
  shedCheck { s with svc := { s.svc with cells := upd s.svc.cells (suitNo u) (· - n) } }

/-- A counter of a Suit (R309). -/
def suitCount (u : Suit) (k : Nat) (s : State) : State :=
  { s with svc := { s.svc with counters := upd s.svc.counters (suitNo u) (fun l => upd l k (fun v => add48 v 1)) } }

/-- The filtered counters of a frame event count it: 5 classified, 6 admitted, 7 refused, 8 answered (R542). -/
def filterFrame (ty : Nat) (u : Suit) (p bytes : Nat) (s : State) : State :=
  (List.range 32).foldl (fun s f =>
    let c := nth s.work.filters f
    if c.eventType = ty ∧ (c.suits = 0 ∨ bit c.suits (suitNo u)) ∧ (c.ports = 0 ∨ bit c.ports p) then
      bumpBy (1280 + f) (if c.bytes then bytes else 1) s
    else s) s

/-- Host transmit cells. -/
def freeTx (n : Nat) (s : State) : State := shedCheck { s with svc := { s.svc with txCells := s.svc.txCells - n } }

/-- The cells of a queued frame are released when it has left or has been dropped (R299). -/
def releaseFrame (f : TxFrame) (s : State) : State :=
  match f.suit with
  | some u => freeCells u f.cells s
  | none => freeTx f.cells s

/-! ### Bandwidth windows (R275) -/

/-- Window `w` of a port: receive W0 and W1, then transmit W0 and W1. -/
def windowLen (s : State) (p w : Nat) : Nat :=
  let c := nth s.work.windows p
  10 ^ (6 + (if w % 2 = 0 then c.w0 else c.w1))

/-- A window moves on to the one numbered `k`: the completed count becomes LAST and may raise PEAK. -/
def rollWindow (k : Nat) (w : Window) : Window :=
  if k ≤ w.idx then w
  else { idx := k, count := 0, last := if k = w.idx + 1 then w.count else 0, peak := max w.peak w.count
         back := if w.count = 0 then w.back else (w.idx, w.count) }

/-- A window counts bytes for the window numbered `k`. A frame that began in a completed one belongs there: no other frame has begun
since. -/
def countWindow (k bytes : Nat) (w : Window) : Window :=
  if k < w.idx then
    let n := (if w.back.1 = k then w.back.2 else 0) + bytes
    { w with last := if k + 1 = w.idx then n else w.last, peak := max w.peak n, back := (k, n) }
  else
    let w := rollWindow k w
    { w with count := w.count + bytes }

/-- A frame's line bytes count in the window in which its stamp falls. -/
def countLine (p w at_ bytes : Nat) (s : State) : State :=
  updPort p (fun r => { r with windows := upd r.windows w (countWindow (at_ / windowLen s p w) bytes) }) s

/-- Both windows of a direction count a frame of `len` bytes with its FCS. -/
def countFrame (p : Nat) (tx : Bool) (at_ len : Nat) (s : State) : State :=
  let b := if tx then 2 else 0
  countLine p (b + 1) at_ (len + 20) (countLine p b at_ (len + 20) s)

/-! ### Ingress occupancy and PFC (R269, R270) -/

/-- The Spades mask of a port (R270). -/
def spadesMask (s : State) (p : Nat) : Nat := (nth s.work.flows p).spadesPrio ||| (portOf s p).learned

/-- Priorities for which the port may send PFC (R269). -/
def mayPause (s : State) (p k : Nat) : Bool :=
  let f := nth s.work.flows p
  f.rxMode == 2 && bit f.txPfcMask k && !bit (spadesMask s p) k

/-- The line time of a launch: from 8 byte times before to 12 byte times after its frame (R293). -/
def lineSpan (bt : Nat) (e : Nat × Nat) : Nat × Nat := (e.1 - 8 * bt, e.1 + (e.2 + 12) * bt)

/-- Committed line time of a port, in rising order. -/
def committedSpans (s : State) (p : Nat) : List (Nat × Nat) :=
  sortBy (fun a b => decide (a.1 < b.1)) ((portOf s p).calendar.map (lineSpan (portByte s p)))

/-- The first instant from `t` on at which `len` ps of line time lie in a free span. -/
def freeSpan (len t : Nat) (spans : List (Nat × Nat)) : Nat := spans.foldl (fun t e => if e.1 < t + len ∧ t < e.2 then e.2 else t) t

/-- When a PFC frame starts: after the frame in transmission, in a free span that holds it whole (R269, R294). -/
def pfcStart (s : State) (p : Nat) : Nat := freeSpan (84 * portByte s p) (max s.now (portOf s p).lineFree) (committedSpans s p)

/-- The calendar with a PFC frame entered, and without what is past. -/
def pfcCalendar (s : State) (p : Nat) (r : PortRun) : List (Nat × Nat) :=
  r.calendar.filter (fun e => decide (s.now < (lineSpan (portByte s p) e).2)) ++ [(pfcStart s p + 8 * portByte s p, 64)]

/-- A PFC frame for one priority: it takes its line time ahead of every other frame (R269, R294). -/
def sendPfc (p k quanta : Nat) (s : State) : State :=
  if !txEnabled s p then s
  else
    let bt := portByte s p
    let start := pfcStart s p
    emit (.pauseFrame p start (2 ^ k) quanta)
      (countFrame p true (((start + 8 * bt : Nat) : Int) + delayPs (portCfg s p).txDelay).toNat 64
        (updPort p (fun r => { r with calendar := pfcCalendar s p r }) (portCount p 5 s)))

def addOccupancy (p k n : Nat) (s : State) : State := updPort p (fun r => { r with occupancy := upd r.occupancy k (· + n) }) s
def subOccupancy (p k n : Nat) (s : State) : State := updPort p (fun r => { r with occupancy := upd r.occupancy k (· - n) }) s

/-- A Spades frame arrived on a priority: it enters the mask, and a standing XOFF is lifted (R270, R277). -/
def learnSpades (p k : Nat) (s : State) : State :=
  if bit (spadesMask s p) k then s
  else
    let standing := bit (portOf s p).xoff k
    let s := portEvent p 7 (updPort p (fun r => { r with learned := setBit r.learned k }) s)
    if standing then sendPfc p k 0 (updPort p (fun r => { r with xoff := clrBit r.xoff k }) s) else s

/-! ### Received pause (R266, R267, R268) -/

def isPaused (s : State) (p k : Nat) : Bool := ((portOf s p).pausedUntil.getD k none).isSome

/-- A priority is released: its paused time is counted (R267, R268). -/
def releasePrio (k : Nat) (s : State) (p : Nat) : State :=
  if !isPaused s p k then s
  else updPort p (fun r => { r with
    pausedUntil := upd r.pausedUntil k (fun _ => none)
    paused := upd r.paused k (· + (s.now - r.pausedSince.getD k 0)) }) s

/-- A pause of a priority is loaded, or a time of 0 releases it (R267). -/
def loadPause (p k quanta : Nat) (s : State) : State :=
  if quanta = 0 then releasePrio k s p
  else
    let fresh := !isPaused s p k
    updPort p (fun r => { r with
      pausedUntil := upd r.pausedUntil k (fun _ => some (s.now + quanta * quantumPs (portCfg s p).mode))
      pausedSince := if fresh then upd r.pausedSince k (fun _ => s.now) else r.pausedSince }) s

/-- PAUSED_NS of a priority at present, in ns (R268). -/
def pausedNs (s : State) (p k : Nat) : Nat :=
  let r := portOf s p
  (r.paused.getD k 0 + (if isPaused s p k then s.now - r.pausedSince.getD k 0 else 0)) / 1000 % 2 ^ 48

/-! ### Leaving UP, calibrating (R253, R256, R265) -/

/-- A receipt response that will never be launched is pending no longer (R296). -/
def receiptGone (k : Kind) (s : State) : State :=
  if k == .receipt then { s with ntp := { s.ntp with pending := s.ntp.pending - 1 } } else s

/-- HEAD passes the frames that have ended in their turn. -/
def passEnded : Nat → Ring → Ring
  | 0, g => g
  | n + 1, g =>
    match g.ended.find? (fun e => e.1 == g.head) with
    | none => g
    | some e => passEnded n { g with head := (e.2 + 1) % 65536, ended := g.ended.erase e }

/-- An entry of a transmit timestamp queue (R511, R512). -/
def tsqWrite (p r first : Nat) (late dropped : Bool) (stamp : Nat) (s : State) : State :=
  let g := ringOf s r
  if !g.enable || first ≥ 65536 then s
  else if idxDist g.second g.secondDb ≥ 64 then
    raise 0 6 (bump 36 (updRing r (fun g => { g with tsqOverflows := add48 g.tsqOverflows 1, overflowBefore := true }) s))
  else
    let unc := match portUnc s p with | some u => min 0xFFFFFFFF (boundPs (some u)) | none => 0xFFFFFFFF
    let e := leBytes 2 first ++ leBytes 1 p ++ leBytes 1 (packBits [late, dropped, !(portOf s p).calOk, g.overflowBefore]) ++
      leBytes 4 s.time.stepEpoch ++ tsBytes (if dropped then 0 else stamp) ++ leBytes 4 unc ++ zeros 8
    ringEvent r (updRing r (fun g => { g with second := (g.second + 1) % 65536, overflowBefore := false }) (emit (.tsqEntry r g.second e) s))

/-- A host frame has ended with an OUTCOME (R509, R511). -/
def hostDone (p r first last : Nat) (report late : Bool) (outcome stamp : Nat) (s : State) : State :=
  let s := if report then tsqWrite p r first late (decide (outcome ≥ 2)) stamp s else s
  let s := if outcome = 2 then updRing r (fun g => { g with lateDrops := add48 g.lateDrops 1 }) s else s
  if !(ringOf s r).enable || first ≥ 65536 then s
  else
    ringEvent r (updRing r (fun g => passEnded 65536 { g with ended := g.ended ++ [(first, last)], items := add48 g.items 1 })
      (emit (.txStatus r last (0x80 + outcome)) s))

/-- One queued frame is discarded as a link drop (R265, R295). -/
def linkDrop (p : Nat) (s : State) (f : TxFrame) : State :=
  let s := releaseFrame f (portCount p 6 s)
  match f.tag, f.suit with
  | .response k _ _, some u => receiptGone k (suitCount u 13 s)
  | .pdelayResp _ _ _ _, some u => suitCount u 13 s
  | .host r a b rep, _ => hostDone p r a b rep false 3 0 s
  | _, _ => s

/-- Every queued frame of a port is discarded (R265). -/
def dropQueued (p : Nat) (s : State) : State :=
  let r := portOf s p
  let s := (r.timed ++ r.untimed).foldl (linkDrop p) s
  updPort p (fun r => { r with timed := [], untimed := [], calendar := [] }) s

/-- A port leaves its state for another: queued frames are discarded, and LINK_DOWN is raised once for each UP (R253, R265). -/
def leaveTo (p : Nat) (st : PortState) (s : State) : State :=
  let was := (portOf s p).state
  let s := updPort p (fun r => { r with state := st }) s
  if was == .up then portEvent p 1 (dropQueued p s) else s

/-- A port enters CALIBRATING: the variable delays are dropped (R253, R259). -/
def toCalibrating (p : Nat) (s : State) : State :=
  updPort p (fun r => { r with dTx := r.dTx - r.vari.1, dRx := r.dRx - r.vari.2, vari := (0, 0) }) (dropQueued p (leaveTo p .calibrating s))

/-- D_TX and D_RX of a full calibration, from the loop delay and the receive delay measured (R256). -/
def calDelays (s : State) (k : Nat) (dLoop dRx : Int) : Int × Int :=
  let f := nth s.fuse.cal k
  (dLoop - dRx + f.routeTx, dRx + f.routeRx)

/-- Both delays lie in their fused ranges (R257). -/
def calInRange (s : State) (k : Nat) (d : Int × Int) : Bool :=
  let f := nth s.fuse.cal k
  decide (f.txMin ≤ d.1 ∧ d.1 ≤ f.txMax ∧ f.rxMin ≤ d.2 ∧ d.2 ≤ f.rxMax)

/-- STAMP of the candidates that run on a port follows its figure (R153, R158). -/
def raiseStamps (p : Nat) (s : State) : State :=
  match portUnc s p with
  | none => s
  | some u =>
    { s with refs := (List.range 98).map fun o =>
        let r := nth s.refs o
        let mine := kindOf o == .ptp && (match (nth s.ptp.insts (o - 29)).parent with | some (q, _) => q == p | none => false)
        if mine then { r with stampUnc := max r.stampUnc u } else r }

/-- A port loses its calibration (R258, R158). A DISABLED port has nothing to recalibrate: only a commit leads out of it (R253). -/
def loseCal (p : Nat) (s : State) : State :=
  let s := raise 5 6 (raiseStamps p (portEvent p 3 (updPort p (fun r => { r with calOk := false }) s)))
  settleBound (if autoRecal (portCfg s p) && (portOf s p).state != .disabled then toCalibrating p s else s)

/-! ### Quality levels (R273, R274) -/

/-- The rank of an SSM code and an enhanced SSM code. -/
def rankOf (ssm : Nat) (enh : Option Nat) : Nat :=
  let plain := match enh with | none => true | some e => e == 0xFF
  match ssm with
  | 0x2 => if enh = some 0x21 then 1 else if enh = some 0x20 then 2 else if enh = some 0x23 then 3 else if plain then 4 else 15
  | 0x4 => if plain then 5 else 15
  | 0x8 => if plain then 6 else 15
  | 0xB => if enh = some 0x22 then 7 else if plain then 8 else 15
  | _ => 15

/-- The SSM code and the enhanced SSM code of a rank. -/
def codesOf (rank : Nat) : Nat × Nat :=
  match rank with
  | 1 => (2, 0x21)
  | 2 => (2, 0x20)
  | 3 => (2, 0x23)
  | 4 => (2, 0xFF)
  | 5 => (4, 0xFF)
  | 6 => (8, 0xFF)
  | 7 => (0xB, 0x22)
  | 8 => (0xB, 0xFF)
  | _ => (0xF, 0xFF)

/-- Flags of PORT_SYNCE (R282). -/
def esmcRxOn (s : State) (p : Nat) : Bool := bit (nth s.work.synces p).flags 0
def esmcTxOn (s : State) (p : Nat) : Bool := bit (nth s.work.synces p).flags 1

/-- The quality that a port transmits: rank, originator clock identity, cascaded eEEC and EEC counts (R274). -/
def txQuality (s : State) (p : Nat) : Nat × Nat × Nat × Nat :=
  let c := nth s.work.synces p
  let d : DpllRun := nth s.dplls c.txDomain
  let src := (nth s.sels c.txDomain).selectedOrd
  let synce : Bool := match src with | some o => kindOf o == SrcKind.synce | none => false
  let own := fun (rank : Nat) => (rank, c.clockId, 0, 0)
  if c.txDomain = 0 then own c.freerunQl
  else if bit c.flags 3 && src == some (12 + p) then own 15
  else match d.state with
  | .locked | .acquiring =>
    if synce then
      let q := nth s.ports (src.getD 12 - 12)
      (q.rxQl, q.esmcOrigin, (q.esmcCounts.1 + (if bit c.flags 2 then 1 else 0)) % 256, q.esmcCounts.2)
    else if d.state == .locked then own c.lockedQl
    else if d.everLocked then own c.holdoverQl else own c.freerunQl
  | .holdover => own c.holdoverQl
  | .freeRun => own c.freerunQl
  | .returning => own c.holdoverQl

/-- A received rank reaches the port and its SYNCE source (R95, R273). -/
def setRank (p rank : Nat) (s : State) : State :=
  let changed := (portOf s p).rxQl ≠ rank
  let s := updPort p (fun r => { r with rxQl := rank }) s
  let s := if changed then portEvent p 6 s else s
  let o := 12 + p
  let s := updRef o (fun r => { r with rank := rank }) s
  evalAll (setCheck o cHealth (healthFails s o) s)

/-! ### Stamps -/

/-- The counter in 2⁻¹⁶ ns that an instant not earlier than now will have, at the present rate. -/
def futureStamp (s : State) (ps : Nat) : Nat :=
  (s.time.counter.total + (ps - s.now / tickPs * tickPs) * nextInc s.time / tickPs) / 2 ^ 32

/-! ### The launch calendar (R293, R294) -/

/-- Committed launches and the host's timed frames of a port, as (launch, bytes with FCS). -/
def committed (s : State) (p : Nat) : List (Nat × Nat) :=
  let r := portOf s p
  r.calendar ++ r.timed.filterMap fun f =>
    match f.tag, f.launch with
    | .host _ _ _ _, some l => some (l, f.bytes.length + 4)
    | _, _ => none

/-- The run of line time, without a free span of 84 byte times, that a new span joins (R294): a fold over spans in rising order. -/
def joinRun (gap : Nat) (spans : List (Nat × Nat)) (x : Nat × Nat) : Nat × Nat :=
  let r := spans.foldl (fun (a : Nat × Nat) e => if e.2 + gap > a.1 ∧ e.1 < a.2 + gap then (min a.1 e.1, max a.2 e.2) else a) x
  spans.reverse.foldl (fun (a : Nat × Nat) e => if e.2 + gap > a.1 ∧ e.1 < a.2 + gap then (min a.1 e.1, max a.2 e.2) else a) r

/-- The end of what stands in the way of a launch, if something does. -/
def inTheWay (bt : Nat) (pfc : Bool) (spans : List (Nat × Nat)) (x : Nat × Nat) : Option Nat :=
  match spans.find? (fun e => decide (e.1 < x.2 ∧ x.1 < e.2)) with
  | some e => some (e.2 + 8 * bt)
  | none =>
    let r := joinRun (84 * bt) spans x
    if pfc && r != x && decide (r.2 - r.1 > 120000) then
      some ((spans.foldl (fun m e => if e.1 < x.2 + 84 * bt then max m e.2 else m) x.1) + (84 + 8) * bt)
    else none

/-- The first grid instant from `l` on at which a frame fits the calendar. -/
def fitLaunch (s : State) (p bytes : Nat) (spans : List (Nat × Nat)) : Nat → Nat → Nat
  | 0, l => l
  | n + 1, l =>
    let bt := portByte s p
    match inTheWay bt ((nth s.work.flows p).txPfcMask != 0) spans (lineSpan bt (l, bytes)) with
    | none => l
    | some e => fitLaunch s p bytes spans n (gridUp s p (max e (l + 1)))

/-- The first launch instant at or after `l0` for a frame of `bytes` with its FCS (R290, R293, R294). -/
def findLaunch (s : State) (p bytes l0 : Nat) : Nat :=
  let bt := portByte s p
  let spans := sortBy (fun a b => decide (a.1 < b.1)) ((committed s p).map (lineSpan bt))
  fitLaunch s p bytes spans (2 * spans.length + 2) l0

/-! ### Queues (R263, R264) -/

/-- Timed frames stand in launch order. -/
def beforeTimed (a b : TxFrame) : Bool := decide (a.launch.getD 0 < b.launch.getD 0)

/-- A frame enters its port's queue; one beyond the horizon of 100 ms is discarded (R263, R264). -/
def enqueue (p : Nat) (f : TxFrame) (s : State) : State :=
  match f.launch with
  | none => updPort p (fun r => { r with untimed := r.untimed ++ [f] }) s
  | some l =>
    if l > s.now + 100 * msPs then
      let s := releaseFrame f (portEvent p 8 (portCount p 7 s))
      match f.tag with
      | .host r a b rep => hostDone p r a b rep false 4 0 s
      | .response k _ _ => receiptGone k s
      | _ => s
    else updPort p (fun r => { r with timed := insertBy beforeTimed f r.timed }) s

end Sys2Proof.Machine
end

