-- ==== Sys2Proof/Machine/AudOps.lean ====
section
/-! DEFINITION. The audio ports: rates, boundaries, frames at the pins, buffers, groups (R461 to R479). -/
namespace Sys2Proof.Machine
open Sys2Proof

def audOf (s : State) (p : Nat) : AudRun := nth s.aud.ports p
def audCfg (s : State) (p : Nat) : AudCfg := nth s.work.aud p
def updAud (p : Nat) (f : AudRun → AudRun) (s : State) : State := { s with aud := { s.aud with ports := upd s.aud.ports p f } }
def audGroup (s : State) (g : Nat) : GroupRun := nth s.aud.groups g
def updGroup (g : Nat) (f : GroupRun → GroupRun) (s : State) : State := { s with aud := { s.aud with groups := upd s.aud.groups g f } }

/-- Bits of FLAGS (R482). -/
def audShared (c : AudCfg) : Bool := bit c.flags 0
def audDars (c : AudCfg) : Bool := bit c.flags 2
def audTai (c : AudCfg) : Bool := bit c.flags 3
def audDrop (c : AudCfg) : Bool := bit c.flags 4
def audHighZ (c : AudCfg) : Bool := bit c.flags 5
def audTx (c : AudCfg) : Bool := bit c.flags 6
def audRx (c : AudCfg) : Bool := bit c.flags 7

/-- Fs of a RATE code (R462). -/
def fsOf (code : Nat) : Nat :=
  ([8000, 11025, 16000, 22050, 32000, 44100, 48000, 64000, 88200, 96000, 176400, 192000] : List Nat).getD code 8000

/-- Frames per second as a quotient: Fs, or the LTC rate (R462). -/
def frameRate (c : AudCfg) : Nat × Nat :=
  if c.mode = 4 then ([(24, 1), (25, 1), (30000, 1001), (30, 1)] : List (Nat × Nat)).getD c.rate (24, 1) else (fsOf c.rate, 1)

/-- Boundary k in units of 2⁻⁴⁸ ns of domain time, rounded up to a unit (R206, R463). -/
def boundaryAt (c : AudCfg) (k : Int) : Int :=
  let (n, d) := frameRate c
  let e : Int := -((-(k * d * unitSec)) / (n : Int))
  e + offUnits c.offset

/-- Boundary k as a Timestamp96 value. -/
def boundaryTs (c : AudCfg) (k : Nat) : Nat :=
  let (n, d) := frameRate c
  (roundDivI ((k * d * tsSec : Nat) : Int) n + c.offset).toNat

/-- A frame period in units of 2⁻⁴⁸ ns, rounded up. -/
def framePeriod (c : AudCfg) : Nat := ceilDiv ((frameRate c).2 * unitSec) (frameRate c).1

/-- An instant follows the latest boundary at the pin by less than half a frame period (R478). -/
def halfPeriod (c : AudCfg) (r : AudRun) (at_ : Nat) : Bool :=
  r.begun && decide (2 * (at_ - r.lastPs) * (frameRate c).1 < (frameRate c).2 * secPs)

/-- The first boundary after domain time `x` (R463, R478). -/
def firstAfter (c : AudCfg) (x : Int) : Int :=
  let (n, d) := frameRate c
  ((x - offUnits c.offset) * n) / ((d * unitSec : Nat) : Int) + 1

/-- The domain time of a port. -/
def audTime (s : State) (p : Nat) : Nat := domainTime s (audCfg s p).domain

/-- The index of the latest boundary. -/
def timeline (s : State) (p : Nat) : Int := firstAfter (audCfg s p) (audTime s p) - 1

/-- The group of a port (R483). -/
def groupOfPort (c : Cfg) (p : Nat) : Option Nat := (List.range 4).find? fun g => bit (c.audGroups.getD g 0) p

/-- The members of a group. -/
def membersOf (c : Cfg) (g : Nat) : List Nat := onesBelow 4 (c.audGroups.getD g 0)

/-- The ring that a port's configuration holds in each direction (R482). -/
def audTxRing (c : AudCfg) : Option Nat := if (c.mode = 1 ∨ c.mode = 2 ∨ c.mode = 3) ∧ c.txRing ≠ 0xFF then some (96 + c.txRing) else none
def audRxRing (c : AudCfg) : Option Nat := if c.mode ≠ 0 ∧ c.rxRing ≠ 0xFF then some c.rxRing else none

/-- The audio port that holds a ring (R482, R525). -/
def audioHolder (c : Cfg) (r : Nat) : Option Nat :=
  (List.range 4).find? fun p => audTxRing (nth c.aud p) == some r || audRxRing (nth c.aud p) == some r

/-- A port event: its latched bit, the cause and the event entry (R481, R485, R506). -/
def audEvent (p b : Nat) (s : State) : State := raiseIdx 14 b p (updAud p (fun a => { a with events := setBit a.events b }) s)

/-- The pins of a port are driven by this chip (R211, R461, R479). -/
def audDriven (s : State) (p : Nat) : Bool :=
  let c := audCfg s p
  (!audShared c || s.pair.enable) && !s.root.lost && ((audOf s p).begun || !audHighZ c)

/-! ### Frames at the pins (R465, R468, R471) -/

/-- The record's word of a slot in a mask; 0 outside it (R466). -/
def slotWord (mask : Nat) (rec_ : Bytes) (slot : Nat) : Nat :=
  if bit mask slot then fld rec_ (4 * (onesBelow slot mask).length) 4 else 0

/-- A PCM frame: each sample in the first WIDTH bits of its slot (R465). -/
def pcmFrame (c : AudCfg) (rec_ : Bytes) : Bytes :=
  (List.range c.slots).flatMap fun k =>
    let w := slotWord c.txMask rec_ k
    leBytes 4 (w / 2 ^ (32 - c.width) * 2 ^ (32 - c.width))

/-- One step of the channel-status CRC, bit 0 first: x⁸ + x⁴ + x³ + x² + 1. PRESUMED, AES3. -/
def crcBit (r : Nat) : Nat → Nat
  | 0 => r
  | n + 1 => crcBit (if r % 2 = 1 then (r / 2) ^^^ 0xB8 else r / 2) n

/-- The CRC of the first 23 channel-status bytes, preset to ones. -/
def statusCrc (bs : Bytes) : Nat := bs.foldl (fun r b => crcBit (r ^^^ b.toNat) 8) 0xFF

/-- The channel-status block as it is sent (R468). -/
def statusBlock (c : AudCfg) : Bytes :=
  let b := if audDars c then upd c.status 4 (fun x => BitVec.ofNat 8 (x.toNat / 4 * 4 + c.darsGrade)) else c.status
  b.take 23 ++ [BitVec.ofNat 8 (statusCrc (b.take 23))]

/-- A subframe: V and U of the word, C of the block, the parity bit in bit 4 and the Z preamble in bit 3 (R463, R468). -/
def subframe (c : AudCfg) (k w : Nat) (z : Bool) : Bytes :=
  let i := k % 192
  let cbit := b2n (bit ((statusBlock c).getD (i / 8) 0#8).toNat (i % 8))
  let v := w / 256 * 256 + w / 64 % 4 * 64 + cbit * 32
  let par := (onesBelow 32 v).length % 2
  leBytes 4 (v + 16 * par + 8 * b2n (z && i == 0))

def aesFrame (c : AudCfg) (k : Nat) (rec_ : Bytes) : Bytes := subframe c k (fld rec_ 0 4) true ++ subframe c k (fld rec_ 4 4) false

/-- A record of zeros, which in AES3 has V set (R468, R475). -/
def zeroRecord (c : AudCfg) : Bytes := if c.mode = 3 then leBytes 4 128 ++ leBytes 4 128 else zeros (4 * (onesBelow 16 c.txMask).length)

/-- Frames from midnight to a minute in drop-frame counting, and the address of a count: minutes and frame in the minute. -/
def dropBase (m : Nat) : Nat := 1800 * m - 2 * (m - m / 10)

def dropAddress (n : Nat) : Nat × Nat :=
  let n := n % 2589408
  let tens := n / 17982
  let r := n % 17982
  if r < 1800 then (tens * 10, r) else (tens * 10 + 1 + (r - 1800) / 1798, (r - 1800) % 1798 + 2)

/-- The address of the m-th frame after a jam at a minute: second of the day and frame (R471). -/
def jamAddress (drop : Bool) (minute m : Nat) : Nat × Nat :=
  if !drop then ((minute * 60 + m / 30) % 86400, m % 30)
  else if minute % 10 = 0 then
    let (mi, f) := dropAddress (dropBase minute + m)
    (mi * 60 + f / 30, f % 30)
  else if m < 2 then (minute * 60, m)
  else
    let (mi, f) := dropAddress (dropBase minute + m)
    (mi * 60 + f / 30, f % 30)

/-- The local count of a TAI second: UTC with LOCAL_OFFSET, or TAI; with the second-60 flag (R53, R471). -/
def ltcLocal (s : State) (c : AudCfg) (sec : Nat) : Int × Bool :=
  if audTai c then ((sec : Int), false)
  else
    let (u, leap) := utcLabel s.time sec
    (u + c.localOffset * 60, leap)

/-- The TAI second of the latest jam instant at or before a second (R471). -/
def jamSecond (s : State) (c : AudCfg) (sec : Nat) : Nat :=
  let (l, _) := ltcLocal s c sec
  let day := l - l % 86400
  let j := if day + c.jamMinute * 60 ≤ l then day + c.jamMinute * 60 else day - 86400 + c.jamMinute * 60
  let t := ((sec : Int) - (l - j)).toNat
  ((t : Int) + (j - (ltcLocal s c t).1)).toNat

/-- Hours, minutes, seconds and frames of frame n (R471). -/
def ltcAddress (s : State) (c : AudCfg) (n : Nat) : Nat × Nat × Nat × Nat :=
  let (num, den) := frameRate c
  let sec := n * den / num
  if c.rate = 2 then
    let n0 := ceilDiv (jamSecond s c sec * num) den
    let n0 := if n0 ≤ n then n0 else ceilDiv (jamSecond s c (sec - 1) * num) den
    let (d, f) := jamAddress (audDrop c) c.jamMinute (n - n0)
    (d / 3600, d / 60 % 60, d % 60, f)
  else
    let (l, leap) := ltcLocal s c sec
    let d := (l % 86400).toNat
    (d / 3600, d / 60 % 60, d % 60 + b2n leap, n % num)

/-- The 80 bits of a timecode frame. Bit places are those of SMPTE ST 12-1. PRESUMED. -/
def ltcBits (s : State) (c : AudCfg) (n : Nat) : Nat :=
  let (h, m, sec, f) := ltcAddress s c n
  let ub := fun k => c.userBits / 16 ^ k % 16
  let at25 := c.rate = 1
  let base := f % 10 + ub 0 * 2 ^ 4 + f / 10 * 2 ^ 8 + b2n (audDrop c) * 2 ^ 10 + ub 1 * 2 ^ 12 +
    sec % 10 * 2 ^ 16 + ub 2 * 2 ^ 20 + sec / 10 * 2 ^ 24 + ub 3 * 2 ^ 28 + m % 10 * 2 ^ 32 + ub 4 * 2 ^ 36 + m / 10 * 2 ^ 40 +
    ub 5 * 2 ^ 44 + h % 10 * 2 ^ 48 + ub 6 * 2 ^ 52 + h / 10 * 2 ^ 56 + ub 7 * 2 ^ 60 + 0xBFFC * 2 ^ 64
  if (onesBelow 80 base).length % 2 = 0 then base else base + 2 ^ (if at25 then 59 else 27)

/-- The bytes of frame k at the pins (R465, R468, R471). -/
def frameBytes (s : State) (c : AudCfg) (k : Nat) (rec_ : Bytes) : Bytes :=
  if c.mode = 3 then aesFrame c k rec_ else if c.mode = 4 then leBytes 10 (ltcBits s c k) else pcmFrame c rec_

/-! ### Transmit buffers (R466, R467, R475, R476) -/

/-- The port has finished with a transmit buffer (R509). -/
def bufferDone (p desc : Nat) (s : State) : State :=
  match audTxRing (audCfg s p) with
  | some r => hostDone p r desc desc false false 0 0 s
  | none => s

/-- The records of a well-formed transmit buffer with the index of the first (R466, R467). -/
def parseBuffer (c : AudCfg) (data : Bytes) : Option (Nat × List Bytes) :=
  let n := fld data 8 2
  let size := 4 * (onesBelow 16 c.txMask).length
  if data.length < 32 ∨ n = 0 ∨ n > 4096 ∨ data.length < 32 + n * size then none
  else some (fld data 0 8, (List.range n).map fun k => slice data (32 + k * size) size)

/-- The record of frame k in a queue of buffers. -/
def recordOf (q : List AudBuf) (k : Nat) : Option Bytes :=
  (q.find? fun b => decide (b.index ≤ k ∧ k < b.index + b.records.length)).bind fun b => b.records[k - b.index]?

/-- Buffers whose last frame has been played are finished (R509). -/
def finishPlayed (p k : Nat) (s : State) : State :=
  let gone := (audOf s p).queue.filter fun b => decide (b.index + b.records.length ≤ k + 1)
  gone.foldl (fun s b => bufferDone p b.desc s)
    (updAud p (fun a => { a with queue := a.queue.filter fun b => !decide (b.index + b.records.length ≤ k + 1) }) s)

/-- The record of frame k is read, or a zero frame is scheduled (R475). -/
def readRecord (p k : Nat) (s : State) : State :=
  updAud p (fun a => { a with readUpTo := k, readAt := some s.now, sched := putKey k (recordOf a.queue k) a.sched }) s

/-! ### Receive buffers (R467, R477) -/

/-- A receive buffer with its header goes to its ring (R466, R467, R508). -/
def deliverFill (p : Nat) (s : State) : State :=
  match (audOf s p).fill, audRxRing (audCfg s p) with
  | some f, some r =>
    let data := leBytes 8 f.index ++ leBytes 2 f.records.length ++ leBytes 2 f.flags ++ zeros 4 ++ tsBytes f.stamp ++ zeros 4 ++ f.records.flatten
    updAud p (fun a => { a with fill := none })
      (updRing r (fun g => { g with queue := g.queue ++ [{ data, code := 0x10, port := p }] }) s)
  | _, _ => updAud p (fun a => { a with fill := none }) s

/-- A descriptor of a receive ring is free for a new audio buffer (R477, R508). -/
def rxRoom (s : State) (r : Nat) : Bool :=
  let g := ringOf s r
  g.enable && decide (idxDist g.db g.head ≥ g.queue.length + 1)

/-- A received record is stored, or the frame is an overrun (R466, R477). -/
def storeRecord (p index stamp : Nat) (rec_ : Bytes) (s : State) : State :=
  let a := audOf s p
  let c := audCfg s p
  let s := match a.fill, audRxRing c with
    | none, some r => if rxRoom s r then updAud p (fun a => { a with
        fill := some { index, stamp, flags := b2n a.gap }, gap := false, inOver := false }) s else s
    | _, _ => s
  match (audOf s p).fill with
  | none =>
    let s := bump (64 * 14 + 34) (updAud p (fun a => { a with overruns := add48 a.overruns 1, gap := true, inOver := true }) s)
    if a.inOver then s else audEvent p 4 s
  | some f =>
    let s := updAud p (fun a => { a with fill := some { f with records := f.records ++ [rec_] } }) s
    if f.records.length + 1 ≥ c.bufFrames then deliverFill p s else s

/-! ### Groups (R473, R474) -/

/-- The clocks of a port's frame k (R465). -/
def frameClocks (p k : Nat) (c : AudCfg) : Output :=
  let n := c.slots * 32
  if c.mode = 2 then .audioClocks p k n (n / 2) 1 true (bit c.flags 1)
  else .audioClocks p k n (if c.fsync % 4 = 0 then 1 else if c.fsync % 4 = 1 then 32 else n / 2) (c.fsync / 4 % 2) false (bit c.flags 1)

/-- The idle level of a port that this chip drives (R461, R479). -/
def idlePort (p : Nat) (s : State) : State :=
  let c := audCfg s p
  if (!audShared c || s.pair.enable) && !s.root.lost then emit (.audioIdle p (audHighZ c)) s else s

/-- A port's pins go idle: unplayed buffers are discarded and the partly filled buffer is delivered (R474). -/
def stopPort (p : Nat) (s : State) : State :=
  let q := (audOf s p).queue
  let s := q.foldl (fun s b => bufferDone p b.desc s) s
  idlePort p <| deliverFill p (updAud p (fun a => { a with
    active := false, begun := false, sched := [], queue := [], inUnder := false, stopDiscards := add48 a.stopDiscards q.length }) s)

/-- No member of a group runs any more: GROUP_STOPPED (R474). -/
def settleGroup (g p : Nat) (s : State) : State :=
  if (audGroup s g).running && (membersOf s.work g).all (fun m => !(audOf s m).active) then
    audEvent p 1 (updGroup g (fun _ => {}) s)
  else updAud p (fun a => { a with events := setBit a.events 1 }) s

/-- Frame k starts at the pins (R463, R473, R475). -/
def playFrame (g p k : Nat) (s : State) : State :=
  let c := audCfg s p
  let a := audOf s p
  let gr := audGroup s g
  let first := decide (k ≥ gr.start) && (!a.begun || decide (a.index < gr.start))
  let s := if !first then s
    else
      let s := updAud p (fun a => { a with events := setBit a.events 0 }) s
      if gr.started then s else audEvent p 0 (updGroup g (fun x => { x with started := true }) s)
  let data := if audTx c && decide (k ≥ gr.start) then (getKey k a.sched).getD none else none
  let short := audTx c && c.mode != 4 && decide (k ≥ gr.start) && data.isNone
  let s := if !short then s
    else
      let s := bump (64 * 14 + 32) (updAud p (fun a => { a with underruns := add48 a.underruns 1 }) s)
      if a.inUnder then s else audEvent p 2 s
  let s := if audDriven s p && (c.mode != 4 || audTx c) then
      let s := if c.mode = 1 ∨ c.mode = 2 then emit (frameClocks p k c) s else s
      emit (.audio p k (frameBytes s c k (data.getD (zeroRecord c)))) s else s
  finishPlayed p k (updAud p (fun a => { a with
    begun := true, index := k, inUnder := short, lastPs := edgeWhen s c.domain (boundaryAt c k)
    stampAt := if c.domain = 0 then boundaryTs c k else curTs s
    sched := a.sched.filter fun e => decide (e.1 > k) }) s)

/-- Boundary k lies on the present tick. -/
def onTick (s : State) (p : Nat) (k : Int) : Bool :=
  let c := audCfg s p
  let b := boundaryAt c k
  decide (b ≤ audTime s p) && decide ((audTime s p : Int) < b + rateOf s c.domain)

/-- The boundary that comes next: one on this tick that has not been taken, or the first after it (R463, R478, R480). -/
def nextBoundary (s : State) (p : Nat) (first : Int) : Int :=
  let a := audOf s p
  let k := timeline s p
  let taken := a.begun && decide (s.now < a.lastPs + tickPs)
  max first (if onTick s p k && !taken then k else k + 1)

/-- A frame boundary of a port (R463, R473 to R478). -/
def frameBoundary (p : Nat) (s : State) : State :=
  if !running s || !(audOf s p).active then s
  else match groupOfPort s.work p with
  | none => s
  | some g =>
    let gr := audGroup s g
    let c := audCfg s p
    let k := nextBoundary s p ((gr.start : Int) - c.runIn)
    let s := moveToDomain c.domain (boundaryAt c k) s
    if halfPeriod c (audOf s p) (edgeWhen s c.domain (boundaryAt c k)) then s
    else match gr.stop with
    | some e => if (e : Int) ≤ k then settleGroup g p (stopPort p s) else playFrame g p k.toNat s
    | none => playFrame g p k.toNat s

/-- The read for the frame two boundaries ahead (R475). -/
def txRead (p : Nat) (s : State) : State :=
  let a := audOf s p
  let c := audCfg s p
  if !running s || !a.active || c.mode = 4 || !audTx c then s
  else
    let k := (timeline s p).toNat
    if a.readUpTo < k + 2 then readRecord p (k + 2) s
    else readRecord p (k + 3) (moveToDomain c.domain (boundaryAt c (k + 1)) s)

/-- The last frame whose read instant has passed. A read of this very tick takes a buffer that reaches the head on it (R476, R480). -/
def readPassed (r : AudRun) (now k : Nat) : Nat :=
  if r.active then max (if r.readAt = some now then r.readUpTo - 1 else r.readUpTo) (k + 1) else k + 1

/-- The read of this very tick again, after a buffer has reached the head (R480). -/
def rereadRecord (p : Nat) (s : State) : State :=
  let a := audOf s p
  if a.active && a.readAt == some s.now then readRecord p a.readUpTo s else s

/-- A transmit buffer reaches the head of its ring (R466, R476, R480, R509). -/
def takeBuffer (p desc : Nat) (data : Bytes) (s : State) : State :=
  let c := audCfg s p
  match audTxRing c with
  | none => s
  | some r =>
    let g := ringOf s r
    if !dmaOn s || !g.enable || idxDist g.db g.fetched = 0 || desc ≠ g.fetched then s
    else
      let s := updRing r (fun g => { g with fetched := (g.fetched + 1) % 65536, bytes := add48 g.bytes data.length }) s
      match parseBuffer c data with
      | none => bufferDone p desc s
      | some (first, recs) =>
        let k := (timeline s p).toNat
        if first > k + fsOf c.rate then
          bufferDone p desc (audEvent p 8 (updAud p (fun a => { a with horizonDrops := add48 a.horizonDrops 1 }) s))
        else
          let passed := readPassed (audOf s p) s.now k
          let late := min recs.length (passed + 1 - first)
          let s := if late = 0 then s
            else audEvent p 3 (bumpBy (64 * 14 + 33) late (updAud p (fun a => { a with lateFrames := add48 a.lateFrames late }) s))
          if late = recs.length then bufferDone p desc s
          else rereadRecord p (updAud p (fun a => { a with queue := a.queue ++ [{ desc, index := first + late, records := recs.drop late }] }) s)

/-! ### Reception (R468 to R472, R477) -/

/-- A received frame rate against the counter, 2⁻⁶⁴: the nominal interval over the measured one. -/
def rxRate (num den dt : Nat) : Int := if dt = 0 then 0 else roundDivI (((num * tsSec * 2 ^ 64 : Nat) : Int) - ((dt * den * 2 ^ 64 : Nat) : Int)) (dt * den)

/-- The bits of RX_ERRORS in an AES3 record: subframes with errors (R468, R485). -/
def subframeErrors (rec_ : Bytes) : Nat := b2n (bit (fld rec_ 0 4) 4) + b2n (bit (fld rec_ 4 4) 4)

/-- The slots of a received PCM frame that RX_MASK holds (R466). -/
def pickSlots (c : AudCfg) (wire : Bytes) : Bytes := ((List.range c.slots).filter (bit c.rxMask)).flatMap fun k => slice wire (4 * k) 4

/-- The port stores data: its frames run past the run-in (R473). -/
def pastRunIn (s : State) (p : Nat) : Bool :=
  match groupOfPort s.work p with
  | some g => (audOf s p).begun && decide ((audOf s p).index ≥ (audGroup s g).start)
  | none => false

/-- A timecode frame whose sync word follows its 64 data bits (R472). -/
def ltcWhole (w : Bytes) : Bool := fld w 8 2 == 0xBFFC

/-- The two words of a received AES3 frame, bits 2 to 0 clear (R468). -/
def aesRecord (w : Bytes) : Bytes := leBytes 4 (fld w 0 4 / 8 * 8) ++ leBytes 4 (fld w 4 4 / 8 * 8)

/-- A stamp of the receiver, and the rate that it measures from the one before it (R469, R485). -/
def rxStamp (p num den : Nat) (chained : Bool) (st : Nat) (s : State) : State :=
  updAud p (fun a => { a with
    lastRx := st, rxChain := some s.time.stepEpoch
    rxFreq := if chained && a.rxChain == some s.time.stepEpoch then rxRate num den (st - a.lastRx) else a.rxFreq }) s

/-- A frame has been received (R466 to R472, R477); `none` stands for a timecode frame that does not decode. -/
def rxFrame (p : Nat) (wire : Option Bytes) (s : State) : State :=
  let c := audCfg s p
  let a := audOf s p
  let wire := if c.mode = 4 then wire.filter ltcWhole else wire
  if !running s || !audRx c || c.mode = 0 then s
  else match c.mode, wire with
  | 4, none => audEvent p 7 (updAud p (fun a => { a with rxErrors := add48 a.rxErrors 1, gap := true, rxChain := none }) s)
  | 4, some w =>
    let st := stampNow s
    let (n, d) := frameRate c
    let s := rxStamp p d n true st s
    if !pastRunIn s p then s
    else storeRecord p a.rxCount st (slice w 0 10 ++ zeros 6) (updAud p (fun a => { a with rxCount := a.rxCount + 1 }) s)
  | 3, some w =>
    let s := updAud p (fun a => { a with rxErrors := add48 a.rxErrors (subframeErrors w) }) s
    if !a.rxLocked then updAud p (fun a => { a with gap := true }) s
    else if !a.begun then s
    else
      let s' := updAud p (fun a => { a with rxCount := a.rxCount + 1 }) s
      if pastRunIn s p then storeRecord p a.rxCount (stampNow s) (aesRecord w) s' else s'
  | _, some w => if pastRunIn s p then storeRecord p a.index a.stampAt (pickSlots c w) s else s
  | _, none => s

/-- The ordinal of source APn (R70). -/
def apOrd (p : Nat) : Nat := 94 + p

/-- The health that a port reports for its source (R78, R470). -/
def apHealth (p : Nat) (s : State) : State :=
  let c := audCfg s p
  let ok := c.mode == 3 && audRx c && (audOf s p).rxLocked
  let s := updRef (apOrd p) (fun r => { r with healthOk := ok }) s
  if ok then setCheck (apOrd p) cHealth false s else sourceSilent (apOrd p) s

/-- A Z preamble has been received: frame lock after two whole blocks, and a sample of source APn (R469, R470). -/
def aesSample (p : Nat) (s : State) : State :=
  let c := audCfg s p
  if !running s || c.mode ≠ 3 || !audRx c then s
  else
    let st := stampNow s
    let fs := fsOf c.rate
    let was := (audOf s p).rxLocked
    let s := rxStamp p 192 fs (decide ((audOf s p).zRun ≠ 0)) st s
    let s := updAud p (fun a => { a with zRun := min 3 (a.zRun + 1), rxLocked := a.rxLocked || decide (a.zRun + 1 ≥ 3) }) s
    let s := if !was && (audOf s p).rxLocked then audEvent p 5 (apHealth p s) else s
    let o := apOrd p
    if (refOf s o).state == .disabled then s
    else
      let stamp := (st : Int) - (refCfg s o).compensation
      let per := 192 * secPs / fs
      let s := updRef o (fun r => { r with expected := some (s.now + 4 * per) }) s
      deliver o { stamp := stamp.toNat, offset := 0, unc := 0, stampUnc := 0, phaseOk := false, period := per, perNum := 192 * secPs, perDen := fs } false s

/-- A preamble is missing or misplaced (R469, R470). -/
def aesLost (p : Nat) (s : State) : State :=
  let c := audCfg s p
  if !running s || c.mode ≠ 3 || !audRx c then s
  else if !(audOf s p).rxLocked then updAud p (fun a => { a with zRun := 0 }) s
  else
    let s := updAud p (fun a => { a with
      zRun := 0, rxLocked := false, gap := true
      fill := a.fill.map fun f => { f with flags := setBit f.flags 1 } }) s
    evalAll (apHealth p (audEvent p 6 s))

/-- A port's receiver and run-time state start over (R470, R522). -/
def resetReceiver (p : Nat) (s : State) : State :=
  updAud p (fun a => { a with zRun := 0, rxLocked := false, lastRx := 0, rxChain := none, rxFreq := 0 }) s

/-- A committed change of the audio configuration (R470, R522). -/
def audCommit (old : Cfg) (s : State) : State :=
  (List.range 4).foldl (fun s p =>
    let s := if nth old.aud p == nth s.work.aud p then s else resetReceiver p (idlePort p s)
    apHealth p s) s

/-- The members of a group agree: one domain, one rate, and timecode only with timecode (R473). -/
def membersAgree (c : Cfg) (mask : Nat) : Bool :=
  match onesBelow 4 mask with
  | [] => true
  | m :: ms => ms.all fun k =>
    let x := nth c.aud m
    let y := nth c.aud k
    x.domain == y.domain && x.rate == y.rate && (x.mode == 4) == (y.mode == 4)

end Sys2Proof.Machine
end

