-- ==== Sys2Proof/Machine/Audio.lean ====
section
/-! DEFINITION. The meanings of the audio rows (chapter 15). -/
namespace Sys2Proof.Machine
open Sys2Proof Host

/-! ### AUD_PORT_CONFIGURE and AUD_GROUP_CONFIGURE (R482, R483) -/

/-- The FLAGS bits that a mode uses (R482). -/
def audFlagMask (mode rate : Nat) : Nat :=
  match mode with
  | 0 => 0x21
  | 1 => 0xE3
  | 2 => 0xE3
  | 3 => 0xE5
  | _ => if rate = 2 then 0xF9 else 0xE9

/-- The RATE codes of a mode (R461). -/
def audRateOk (mode v : Nat) : Bool :=
  if mode = 0 then v == 0 else if mode = 3 then decide (4 ≤ v ∧ v ≤ 11 ∧ v ≠ 7) else if mode = 4 then decide (v ≤ 3) else decide (v ≤ 11)

/-- A ring that the port may hold: none, or one without another port or use (R482). -/
def audRingOk (c : Cfg) (p r : Nat) : Bool :=
  (nth c.rings r).use == 0 && (match audioHolder c r with | some q => q == p | none => true)

def audFields (c : Cfg) (p : Bytes) : List Fld :=
  let port := fld p 0 1
  let mode := fld p 1 1
  let fl := fld p 3 1
  let rate := fld p 4 1
  let slots := fld p 5 1
  let pcm := mode == 1 || mode == 2
  let ltc := mode == 4
  let mask := fun v => if mode = 1 then decide (v < 2 ^ slots) else if mode = 2 then decide (v < 4) else if mode = 3 then v == 3 else v == 0
  let fr := frameRate { mode, rate }
  [inF 0 1 0 3, inF 1 1 0 4, whenF (pcm || mode == 3) 2 1 0 3, F 3 1 (fun v => v &&& audFlagMask mode rate == v),
   F 4 1 (audRateOk mode),
   F 5 1 (fun v => if mode = 1 then decide (1 ≤ v ∧ v ≤ 16 ∧ fsOf rate * v * 32 ≤ 49152000) else if mode = 2 ∨ mode = 3 then v == 2 else v == 0),
   F 6 1 (fun v => if pcm then v == 16 || v == 20 || v == 24 || v == 32 else v == 0),
   F 7 1 (fun v => if mode = 1 then decide (v < 8 ∧ v % 4 ≠ 3) else v == 0), F 8 2 mask, F 10 2 mask,
   F 12 1 (fun v => v == 0xFF || (if pcm || mode == 3 then decide (v < 96) && audRingOk c port (96 + v) else v == 0)),
   F 13 1 (fun v => v == 0xFF || (if mode = 0 then v == 0 else decide (v < 96) && audRingOk c port v)),
   whenF (mode != 0) 14 2 1 4096, whenF (pcm || mode == 3) 16 2 0 4096,
   F 18 2 (fun v => if ltc then decide ((toSigned 16 v).natAbs ≤ 900) else v == 0), whenF (ltc && rate == 2) 20 2 0 1439,
   whenF (bit fl 2) 22 1 1 2, rsvF 23 1, F 24 4 (fun v => ltc || v == 0), rsvF 28 4,
   F 32 8 (fun v => if mode = 0 then v == 0 else decide ((toSigned 64 v).natAbs * 2 * fr.1 ≤ tsSec * fr.2)),
   F 40 24 (fun v => if mode = 3 then decide (v < 256 ^ 23) else v == 0)]

def audCfgOf (p : Bytes) : AudCfg :=
  { mode := fld p 1 1, domain := fld p 2 1, flags := fld p 3 1, rate := fld p 4 1, slots := fld p 5 1, width := fld p 6 1
    fsync := fld p 7 1, txMask := fld p 8 2, rxMask := fld p 10 2, txRing := fld p 12 1, rxRing := fld p 13 1
    bufFrames := fld p 14 2, runIn := fld p 16 2, localOffset := fldI p 18 2, jamMinute := fld p 20 2, darsGrade := fld p 22 1
    userBits := fld p 24 4, offset := fldI p 32 8, status := slice p 40 24 }

/-- The group of a port runs (R480). -/
def portRuns (s : State) (p : Nat) : Bool :=
  match groupOfPort s.work p with | some g => (audGroup s g).running | none => false

def hAudPortConfigure : Handler := fun q s =>
  let p := fld q.params 0 1
  checked q 64 (audFields s.shadow q.params) <|
  refuseIf (portRuns s p) stBadState 0 <|
  writes (fun c => { c with aud := c.aud.set p (audCfgOf q.params) }) s

def execAudPortConfigure (q : Req) (s : State) : Outcome State Fault Refusal := cmdRow 0x0E00 hAudPortConfigure q s

/-- The fields of AUD_GROUP_CONFIGURE (R483). -/
def groupFields (c : Cfg) (p : Bytes) : List Fld :=
  let free := fun m => (List.range 4).all fun k => k == fld p 0 1 || (c.audGroups.getD k 0) &&& m == 0
  [inF 0 1 0 3, F 1 1 (fun m => decide (m < 16) && free m && membersAgree c m), rsvF 2 2]

def hAudGroupConfigure : Handler := fun q s =>
  let g := fld q.params 0 1
  checked q 4 (groupFields s.shadow q.params) <|
  refuseIf (audGroup s g).running stBadState 0 <|
  writes (fun c => { c with audGroups := c.audGroups.set g (fld q.params 1 1) }) s

def execAudGroupConfigure (q : Req) (s : State) : Outcome State Fault Refusal := cmdRow 0x0E01 hAudGroupConfigure q s

/-! ### AUD_GROUP_START and AUD_GROUP_STOP (R473, R474, R484) -/

/-- The first index whose boundary lies at least one frame period after this instant (R473, R474). -/
def periodAhead (s : State) (p : Nat) : Int :=
  let c := audCfg s p
  firstAfter c ((audTime s p : Int) + framePeriod c - 1)

/-- The reply: the index and, on domain T, its boundary (R484). -/
def groupReply (s : State) (p k : Nat) : Bytes :=
  let c := audCfg s p
  leBytes 8 k ++ (if c.domain = 0 then tsBytes (boundaryTs c k) else zeros 12) ++ zeros 4

/-- A port starts over with its group (R473): the read of the frame after next is still to come. -/
def armPort (p : Nat) (s : State) : State :=
  updAud p (fun a => { a with
    active := true, begun := false, index := 0, sched := [], readUpTo := (timeline s p).toNat + 1
    inUnder := false, inOver := false, gap := false, fill := none, rxCount := 0 }) s

def hAudGroupStart : Handler := fun q s =>
  let g := fld q.params 0 1
  let idx := fld q.params 8 8
  checked q 16 [inF 0 1 0 3, rsvF 1 7, anyF 8 8] <|
  let ms := membersOf s.work g
  refuseIf ((audGroup s g).running || ms.isEmpty || ms.any (fun p => (audCfg s p).mode == 0)) stBadState 0 <|
  let t := nextTick s
  let first := ms.foldl (fun (m : Int) p => max m (periodAhead t p + (audCfg t p).runIn)) 0
  refuseIf (idx != 0 && decide ((idx : Int) < first)) stBadState 0 <|
  let k := if idx = 0 then first.toNat else idx
  let t := updGroup g (fun _ => { running := true, start := k }) (ms.foldl (fun s p => armPort p s) t)
  .done (groupReply t (ms.headD 0) k) t

def execAudGroupStart (q : Req) (s : State) : Outcome State Fault Refusal := cmdRow 0x0E02 hAudGroupStart q s

/-- The first boundary at least one frame period ahead for every running member (R474). -/
def firstStop (s : State) (g : Nat) : Int :=
  ((membersOf s.work g).filter fun p => (audOf s p).active).foldl (fun (m : Int) p => max m (periodAhead s p)) 0

def hAudGroupStop : Handler := fun q s =>
  let g := fld q.params 0 1
  let idx := fld q.params 8 8
  checked q 16 [inF 0 1 0 3, rsvF 1 7, anyF 8 8] <|
  refuseIf (!(audGroup s g).running) stBadState 0 <|
  let t := nextTick s
  let ms := (membersOf t.work g).filter fun p => (audOf t p).active
  let first := firstStop t g
  refuseIf (idx != 0 && decide ((idx : Int) < first)) stBadState 0 <|
  let k := if idx = 0 then first.toNat else idx
  let t := updGroup g (fun x => { x with stop := some k }) t
  .done (groupReply t (ms.headD 0) k) t

def execAudGroupStop (q : Req) (s : State) : Outcome State Fault Refusal := cmdRow 0x0E03 hAudGroupStop q s

/-! ### AUD_STATUS (R485) -/

def audStateCode (s : State) (p : Nat) : Nat :=
  let a := audOf s p
  if (audCfg s p).mode = 0 then 0
  else if !a.begun then 1
  else match groupOfPort s.work p with
  | some g => if a.index < (audGroup s g).start then 2 else 3
  | none => 3

def audStatusReply (s : State) (p : Nat) : Bytes :=
  let a := audOf s p
  let c := audCfg s p
  let rx := c.mode == 3 || c.mode == 4
  leBytes 1 p ++ leBytes 1 (audStateCode s p) ++ leBytes 1 ((groupOfPort s.work p).getD 0xFF) ++
  leBytes 1 (packBits [audDriven s p, a.rxLocked, a.inUnder]) ++ leBytes 2 a.events ++ zeros 2 ++ leBytes 8 (if a.begun then a.index else 0) ++
  leBytes 8 a.underruns ++ leBytes 8 a.lateFrames ++ leBytes 8 a.horizonDrops ++ leBytes 8 a.overruns ++ leBytes 8 a.stopDiscards ++
  leBytes 8 a.rxErrors ++ leInt 8 (if rx then a.rxFreq else 0) ++ tsBytes a.lastRx ++ zeros 4

def hAudStatus : Handler := fun q s =>
  let p := fld q.params 0 1
  checked q 4 [inF 0 1 0 3, inF 1 1 0 1, rsvF 2 2] <|
  .done (audStatusReply s p) (if fld q.params 1 1 = 1 then updAud p (fun a => { a with events := 0 }) s else s)

def execAudStatus (q : Req) (s : State) : Outcome State Fault Refusal := cmdRow 0x0E04 hAudStatus q s

/-! ### The ports' own events -/

def execAudioFrameBoundary (port : Nat) (s : State) : Outcome State Fault Refusal := .next (frameBoundary port { s with out := [] })

def execAudioTxRead (port : Nat) (s : State) : Outcome State Fault Refusal := .next (txRead port { s with out := [] })

def execAudioBufferHead (port t desc : Nat) (data : Bytes) (s : State) : Outcome State Fault Refusal :=
  .next (whileRunning (takeBuffer port desc data) (begin_ t s))

def execAudioRxFrame (port t : Nat) (record : Option Bytes) (s : State) : Outcome State Fault Refusal := .next (rxFrame port record (begin_ t s))

def execAes3Sample (port t : Nat) (s : State) : Outcome State Fault Refusal := .next (aesSample port (begin_ t s))

def execDarsLockLost (port t : Nat) (s : State) : Outcome State Fault Refusal := .next (aesLost port (begin_ t s))

end Sys2Proof.Machine
end

