-- ==== Sys2Proof/Machine/LinkOps.lean ====
section
/-! DEFINITION. The two lanes of the Partner link: ports 16 and 17 of the calibration and lock events (R396). -/
namespace Sys2Proof.Machine
open Sys2Proof

def laneOf (s : State) (n : Nat) : LaneRun := nth s.pair.lanes n
def updLane (n : Nat) (f : LaneRun → LaneRun) (s : State) : State := updPair (fun p => { p with lanes := upd p.lanes n f }) s

/-- A lane carries traffic (R396). -/
def laneUp (s : State) (n : Nat) : Bool := (laneOf s n).state == .up

/-- A lane is enabled by PAIR_CONFIGURE in pair mode (R407, R423). -/
def laneOn (c : PairCfg) (n : Nat) : Bool := c.mode == 1 && bit c.flags (2 + n)

/-- A lane leaves its state: LANE_DOWN is raised when it was UP (R422). -/
def laneTo (n : Nat) (st : PortState) (s : State) : State :=
  let was := laneUp s n
  let s := updLane n (fun l => { l with state := st, got := if st == .up then l.got else none }) s
  if was && st != .up then raise 12 9 s else s

/-- The full calibration of a lane ends (R256, R257, R396). -/
def laneCalEnd (n : Nat) (seen : Bool) (temp dLoop dRx : Int) (s : State) : State :=
  let d := calDelays s (16 + n) dLoop dRx
  if (laneOf s n).state != .calibrating || !running s then s
  else updLane n (fun l =>
    if seen && calInRange s (16 + n) d then
      { l with state := .down, calOk := true, temp := temp, calTemp := temp, dTx := d.1, dRx := d.2, vari := (0, 0), adj := (0, 0) }
    else { l with state := .down, calOk := false, temp := temp, dTx := l.dTx - l.vari.1, dRx := l.dRx - l.vari.2, vari := (0, 0) }) s

/-- Block lock of a lane (R253, R396). -/
def laneLock (n : Nat) (s : State) : State :=
  if (laneOf s n).state != .down || !running s then s else updLane n (fun l => { l with state := .aligning }) s

/-- The variable delays of a lane are measured (R259, R396). -/
def laneAligned (n : Nat) (ok : Bool) (dTx dRx : Int) (s : State) : State :=
  if (laneOf s n).state != .aligning || !running s then s
  else updLane n (fun l => { l with state := .up, calOk := l.calOk && ok
                                    dTx := l.dTx - l.vari.1 + (if ok then dTx else 0), dRx := l.dRx - l.vari.2 + (if ok then dRx else 0)
                                    vari := if ok then (dTx, dRx) else (0, 0) }) s

/-- A lane loses block lock or alignment (R253, R396). -/
def laneLoss (n : Nat) (s : State) : State :=
  if (laneOf s n).state == .up || (laneOf s n).state == .aligning then laneTo n .down s else s

/-- The temperature of a lane is read, or its replica measurement faults (R258, R396). -/
def laneCalLost (n : Nat) (x : LaneReading) (fault : Bool) (s : State) : State :=
  updLane n (fun l =>
    if l.calOk && !(fault || decide ((x.temp - l.calTemp).natAbs > 320)) then
      { l with temp := x.temp, dTx := l.dTx - l.adj.1 + x.dTx, dRx := l.dRx - l.adj.2 + x.dRx, adj := (x.dTx, x.dRx) }
    else { l with temp := x.temp, calOk := false }) s

end Sys2Proof.Machine
end

