-- ==== Sys2Proof/Machine/Crypto.lean ====
section
/-! DEFINITION. The standard algorithms that the spec names: SHA-256, SHA-384, SHA-512, HMAC and HKDF, AES with CMAC, SIV, GCM's
GMAC, and Ed25519 signatures, from FIPS 180-4, FIPS 197, SP 800-38B, SP 800-38D, RFC 2104, RFC 5297, RFC 5869 and RFC 8032. -/
namespace Sys2Proof.Machine
open Sys2Proof

/-! ### The SHA-2 family -/

/-- A word of `w` bits rotated right. -/
def rotr (w : Nat) (x : BitVec w) (n : Nat) : BitVec w := x.rotateRight n

/-- What tells SHA-256 and SHA-512 apart: word size, rounds, rotation amounts, round constants. -/
structure ShaKind (w : Nat) where
  k : List Nat
  s0 : Nat × Nat × Nat
  s1 : Nat × Nat × Nat
  b0 : Nat × Nat × Nat
  b1 : Nat × Nat × Nat

/-- A small sigma: two rotations and a shift. -/
def smallSigma (w : Nat) (r : Nat × Nat × Nat) (x : BitVec w) : BitVec w := rotr w x r.1 ^^^ rotr w x r.2.1 ^^^ (x >>> r.2.2)

/-- A big sigma: three rotations. -/
def bigSigma (w : Nat) (r : Nat × Nat × Nat) (x : BitVec w) : BitVec w := rotr w x r.1 ^^^ rotr w x r.2.1 ^^^ rotr w x r.2.2

/-- The message schedule, newest word first: `n` more words. -/
def shaSchedule (w : Nat) (k : ShaKind w) : Nat → List (BitVec w) → List (BitVec w)
  | 0, l => l
  | n + 1, l =>
    shaSchedule w k n ((smallSigma w k.s1 (l.getD 1 0) + l.getD 6 0 + smallSigma w k.s0 (l.getD 14 0) + l.getD 15 0) :: l)

/-- One round on the eight working words. -/
def shaRound (w : Nat) (k : ShaKind w) (v : List (BitVec w)) (kw : Nat × BitVec w) : List (BitVec w) :=
  match v with
  | [a, b, c, d, e, f, g, h] =>
    let t1 := h + bigSigma w k.b1 e + ((e &&& f) ^^^ (~~~e &&& g)) + BitVec.ofNat w kw.1 + kw.2
    let t2 := bigSigma w k.b0 a + ((a &&& b) ^^^ (a &&& c) ^^^ (b &&& c))
    [t1 + t2, a, b, c, d + t1, e, f, g]
  | _ => v

/-- The digest state after one block of sixteen words. -/
def shaBlock (w : Nat) (k : ShaKind w) (st : List (BitVec w)) (block : List (BitVec w)) : List (BitVec w) :=
  let sched := (shaSchedule w k (k.k.length - 16) block.reverse).reverse
  List.zipWith (· + ·) st ((k.k.zip sched).foldl (shaRound w k) st)

/-- Chunks of `n` entries. -/
def chunksGo {α : Type} (n : Nat) : Nat → List α → List (List α)
  | 0, _ => []
  | f + 1, l => if l.isEmpty then [] else l.take n :: chunksGo n f (l.drop n)
def chunks {α : Type} (n : Nat) (l : List α) : List (List α) := chunksGo n (l.length + 1) l

/-- The padded message: a 1 bit, zeros, the length in bits. -/
def shaPad (wordBytes : Nat) (m : Bytes) : Bytes :=
  let block := 16 * wordBytes
  let used := m.length + 1 + 2 * wordBytes
  m ++ [0x80#8] ++ zeros ((block - used % block) % block) ++ beBytes (2 * wordBytes) (8 * m.length)

/-- The digest words of a message. -/
def shaWords (w : Nat) (k : ShaKind w) (init : List Nat) (m : Bytes) : List (BitVec w) :=
  let wb := w / 8
  (chunks (16 * wb) (shaPad wb m)).foldl
    (fun st b => shaBlock w k st ((chunks wb b).map fun x => BitVec.ofNat w (fromBE x))) (init.map (BitVec.ofNat w))

def shaBytes (w : Nat) (l : List (BitVec w)) : Bytes := l.flatMap fun x => beBytes (w / 8) x.toNat

def k256 : List Nat :=
  [0x428a2f98, 0x71374491, 0xb5c0fbcf, 0xe9b5dba5, 0x3956c25b, 0x59f111f1, 0x923f82a4, 0xab1c5ed5] ++
  [0xd807aa98, 0x12835b01, 0x243185be, 0x550c7dc3, 0x72be5d74, 0x80deb1fe, 0x9bdc06a7, 0xc19bf174] ++
  [0xe49b69c1, 0xefbe4786, 0x0fc19dc6, 0x240ca1cc, 0x2de92c6f, 0x4a7484aa, 0x5cb0a9dc, 0x76f988da] ++
  [0x983e5152, 0xa831c66d, 0xb00327c8, 0xbf597fc7, 0xc6e00bf3, 0xd5a79147, 0x06ca6351, 0x14292967] ++
  [0x27b70a85, 0x2e1b2138, 0x4d2c6dfc, 0x53380d13, 0x650a7354, 0x766a0abb, 0x81c2c92e, 0x92722c85] ++
  [0xa2bfe8a1, 0xa81a664b, 0xc24b8b70, 0xc76c51a3, 0xd192e819, 0xd6990624, 0xf40e3585, 0x106aa070] ++
  [0x19a4c116, 0x1e376c08, 0x2748774c, 0x34b0bcb5, 0x391c0cb3, 0x4ed8aa4a, 0x5b9cca4f, 0x682e6ff3] ++
  [0x748f82ee, 0x78a5636f, 0x84c87814, 0x8cc70208, 0x90befffa, 0xa4506ceb, 0xbef9a3f7, 0xc67178f2]

def k512 : List Nat :=
  [0x428a2f98d728ae22, 0x7137449123ef65cd, 0xb5c0fbcfec4d3b2f, 0xe9b5dba58189dbbc] ++
  [0x3956c25bf348b538, 0x59f111f1b605d019, 0x923f82a4af194f9b, 0xab1c5ed5da6d8118] ++
  [0xd807aa98a3030242, 0x12835b0145706fbe, 0x243185be4ee4b28c, 0x550c7dc3d5ffb4e2] ++
  [0x72be5d74f27b896f, 0x80deb1fe3b1696b1, 0x9bdc06a725c71235, 0xc19bf174cf692694] ++
  [0xe49b69c19ef14ad2, 0xefbe4786384f25e3, 0x0fc19dc68b8cd5b5, 0x240ca1cc77ac9c65] ++
  [0x2de92c6f592b0275, 0x4a7484aa6ea6e483, 0x5cb0a9dcbd41fbd4, 0x76f988da831153b5] ++
  [0x983e5152ee66dfab, 0xa831c66d2db43210, 0xb00327c898fb213f, 0xbf597fc7beef0ee4] ++
  [0xc6e00bf33da88fc2, 0xd5a79147930aa725, 0x06ca6351e003826f, 0x142929670a0e6e70] ++
  [0x27b70a8546d22ffc, 0x2e1b21385c26c926, 0x4d2c6dfc5ac42aed, 0x53380d139d95b3df] ++
  [0x650a73548baf63de, 0x766a0abb3c77b2a8, 0x81c2c92e47edaee6, 0x92722c851482353b] ++
  [0xa2bfe8a14cf10364, 0xa81a664bbc423001, 0xc24b8b70d0f89791, 0xc76c51a30654be30] ++
  [0xd192e819d6ef5218, 0xd69906245565a910, 0xf40e35855771202a, 0x106aa07032bbd1b8] ++
  [0x19a4c116b8d2d0c8, 0x1e376c085141ab53, 0x2748774cdf8eeb99, 0x34b0bcb5e19b48a8] ++
  [0x391c0cb3c5c95a63, 0x4ed8aa4ae3418acb, 0x5b9cca4f7763e373, 0x682e6ff3d6b2b8a3] ++
  [0x748f82ee5defb2fc, 0x78a5636f43172f60, 0x84c87814a1f0ab72, 0x8cc702081a6439ec] ++
  [0x90befffa23631e28, 0xa4506cebde82bde9, 0xbef9a3f7b2c67915, 0xc67178f2e372532b] ++
  [0xca273eceea26619c, 0xd186b8c721c0c207, 0xeada7dd6cde0eb1e, 0xf57d4f7fee6ed178] ++
  [0x06f067aa72176fba, 0x0a637dc5a2c898a6, 0x113f9804bef90dae, 0x1b710b35131c471b] ++
  [0x28db77f523047d84, 0x32caab7b40c72493, 0x3c9ebe0a15c9bebc, 0x431d67c49c100d4c] ++
  [0x4cc5d4becb3e42b6, 0x597f299cfc657e2a, 0x5fcb6fab3ad6faec, 0x6c44198c4a475817]

def sha256Kind : ShaKind 32 := { k := k256, s0 := (7, 18, 3), s1 := (17, 19, 10), b0 := (2, 13, 22), b1 := (6, 11, 25) }
def sha512Kind : ShaKind 64 := { k := k512, s0 := (1, 8, 7), s1 := (19, 61, 6), b0 := (28, 34, 39), b1 := (14, 18, 41) }

def sha256 (m : Bytes) : Bytes :=
  shaBytes 32 (shaWords 32 sha256Kind
    [0x6a09e667, 0xbb67ae85, 0x3c6ef372, 0xa54ff53a, 0x510e527f, 0x9b05688c, 0x1f83d9ab, 0x5be0cd19] m)

def sha512 (m : Bytes) : Bytes :=
  shaBytes 64 (shaWords 64 sha512Kind
    ([0x6a09e667f3bcc908, 0xbb67ae8584caa73b, 0x3c6ef372fe94f82b, 0xa54ff53a5f1d36f1] ++
  [0x510e527fade682d1, 0x9b05688c2b3e6c1f, 0x1f83d9abfb41bd6b, 0x5be0cd19137e2179]) m)

def sha384 (m : Bytes) : Bytes :=
  (shaBytes 64 (shaWords 64 sha512Kind
    ([0xcbbb9d5dc1059ed8, 0x629a292a367cd507, 0x9159015a3070dd17, 0x152fecd8f70e5939] ++
  [0x67332667ffc00b31, 0x8eb44a8768581511, 0xdb0c2e0d64f98fa7, 0x47b5481dbefa4fa4]) m)).take 48

/-- HMAC over a hash with a block of `block` bytes. -/
def hmacOf (hash : Bytes → Bytes) (block : Nat) (key m : Bytes) : Bytes :=
  let k := if key.length > block then hash key else key
  let k := k ++ zeros (block - k.length)
  hash (k.map (· ^^^ 0x5c#8) ++ hash (k.map (· ^^^ 0x36#8) ++ m))

def hmacSha256 (key m : Bytes) : Bytes := hmacOf sha256 64 key m
def hmacSha384 (key m : Bytes) : Bytes := hmacOf sha384 128 key m

/-- The output blocks of HKDF-Expand. -/
def hkdfGo (hmac : Bytes → Bytes → Bytes) (prk info : Bytes) : Nat → Nat → Bytes → Bytes
  | 0, _, _ => []
  | n + 1, i, t =>
    let t' := hmac prk (t ++ info ++ [BitVec.ofNat 8 i])
    t' ++ hkdfGo hmac prk info n (i + 1) t'

/-- HKDF-Expand with a hash of `hlen` bytes. -/
def hkdfExpand (hmac : Bytes → Bytes → Bytes) (hlen : Nat) (prk info : Bytes) (len : Nat) : Bytes :=
  (hkdfGo hmac prk info (ceilDiv len hlen) 1 []).take len

/-! ### AES -/

def sbox : List Nat :=
  [0x63, 0x7c, 0x77, 0x7b, 0xf2, 0x6b, 0x6f, 0xc5, 0x30, 0x01, 0x67, 0x2b, 0xfe, 0xd7, 0xab, 0x76] ++
  [0xca, 0x82, 0xc9, 0x7d, 0xfa, 0x59, 0x47, 0xf0, 0xad, 0xd4, 0xa2, 0xaf, 0x9c, 0xa4, 0x72, 0xc0] ++
  [0xb7, 0xfd, 0x93, 0x26, 0x36, 0x3f, 0xf7, 0xcc, 0x34, 0xa5, 0xe5, 0xf1, 0x71, 0xd8, 0x31, 0x15] ++
  [0x04, 0xc7, 0x23, 0xc3, 0x18, 0x96, 0x05, 0x9a, 0x07, 0x12, 0x80, 0xe2, 0xeb, 0x27, 0xb2, 0x75] ++
  [0x09, 0x83, 0x2c, 0x1a, 0x1b, 0x6e, 0x5a, 0xa0, 0x52, 0x3b, 0xd6, 0xb3, 0x29, 0xe3, 0x2f, 0x84] ++
  [0x53, 0xd1, 0x00, 0xed, 0x20, 0xfc, 0xb1, 0x5b, 0x6a, 0xcb, 0xbe, 0x39, 0x4a, 0x4c, 0x58, 0xcf] ++
  [0xd0, 0xef, 0xaa, 0xfb, 0x43, 0x4d, 0x33, 0x85, 0x45, 0xf9, 0x02, 0x7f, 0x50, 0x3c, 0x9f, 0xa8] ++
  [0x51, 0xa3, 0x40, 0x8f, 0x92, 0x9d, 0x38, 0xf5, 0xbc, 0xb6, 0xda, 0x21, 0x10, 0xff, 0xf3, 0xd2] ++
  [0xcd, 0x0c, 0x13, 0xec, 0x5f, 0x97, 0x44, 0x17, 0xc4, 0xa7, 0x7e, 0x3d, 0x64, 0x5d, 0x19, 0x73] ++
  [0x60, 0x81, 0x4f, 0xdc, 0x22, 0x2a, 0x90, 0x88, 0x46, 0xee, 0xb8, 0x14, 0xde, 0x5e, 0x0b, 0xdb] ++
  [0xe0, 0x32, 0x3a, 0x0a, 0x49, 0x06, 0x24, 0x5c, 0xc2, 0xd3, 0xac, 0x62, 0x91, 0x95, 0xe4, 0x79] ++
  [0xe7, 0xc8, 0x37, 0x6d, 0x8d, 0xd5, 0x4e, 0xa9, 0x6c, 0x56, 0xf4, 0xea, 0x65, 0x7a, 0xae, 0x08] ++
  [0xba, 0x78, 0x25, 0x2e, 0x1c, 0xa6, 0xb4, 0xc6, 0xe8, 0xdd, 0x74, 0x1f, 0x4b, 0xbd, 0x8b, 0x8a] ++
  [0x70, 0x3e, 0xb5, 0x66, 0x48, 0x03, 0xf6, 0x0e, 0x61, 0x35, 0x57, 0xb9, 0x86, 0xc1, 0x1d, 0x9e] ++
  [0xe1, 0xf8, 0x98, 0x11, 0x69, 0xd9, 0x8e, 0x94, 0x9b, 0x1e, 0x87, 0xe9, 0xce, 0x55, 0x28, 0xdf] ++
  [0x8c, 0xa1, 0x89, 0x0d, 0xbf, 0xe6, 0x42, 0x68, 0x41, 0x99, 0x2d, 0x0f, 0xb0, 0x54, 0xbb, 0x16]

def subByte (b : Byte) : Byte := BitVec.ofNat 8 (sbox.getD b.toNat 0)

/-- Multiplication by x in the field of AES. -/
def xtime (b : Byte) : Byte := (b <<< 1) ^^^ (if b.getLsbD 7 then 0x1b#8 else 0#8)

def xorBytes (a b : Bytes) : Bytes := List.zipWith (· ^^^ ·) a b

/-- The key schedule in words of four bytes, newest first: `n` more words for a key of `nk` words. -/
def aesExpand (nk : Nat) : Nat → Nat → Byte → List Bytes → List Bytes
  | 0, _, _, l => l
  | n + 1, i, rcon, l =>
    let t := l.getD 0 []
    let t1 := if i % nk = 0 then xorBytes (((t.drop 1) ++ t.take 1).map subByte) [rcon, 0#8, 0#8, 0#8]
      else if nk > 6 ∧ i % nk = 4 then t.map subByte else t
    aesExpand nk n (i + 1) (if i % nk = 0 then xtime rcon else rcon) (xorBytes (l.getD (nk - 1) []) t1 :: l)

/-- The round keys of 16 bytes, first round first. -/
def aesKeys (key : Bytes) : List Bytes :=
  let nk := key.length / 4
  (chunks 4 (aesExpand nk (4 * (nk + 7) - nk) nk 1#8 (chunks 4 key).reverse).reverse).map List.flatten

def shiftRows (s : Bytes) : Bytes := (List.range 16).map fun k => s.getD ((k + 4 * (k % 4)) % 16) 0#8

def mixColumn (c : Bytes) : Bytes :=
  match c with
  | [a, b, d, e] =>
    let t := a ^^^ b ^^^ d ^^^ e
    [a ^^^ t ^^^ xtime (a ^^^ b), b ^^^ t ^^^ xtime (b ^^^ d), d ^^^ t ^^^ xtime (d ^^^ e), e ^^^ t ^^^ xtime (e ^^^ a)]
  | _ => c

/-- The rounds after the first key: the last one has no column mixing. -/
def aesRounds : List Bytes → Bytes → Bytes
  | [], s => s
  | [k], s => xorBytes (shiftRows (s.map subByte)) k
  | k :: ks, s => aesRounds ks (xorBytes ((chunks 4 (shiftRows (s.map subByte))).flatMap mixColumn) k)

/-- One block encrypted under a key of 16 or 32 bytes. -/
def aesBlock (key block : Bytes) : Bytes :=
  match aesKeys key with
  | [] => block
  | k :: ks => aesRounds ks (xorBytes block k)

/-- Doubling of a block. -/
def dbl (b : Bytes) : Bytes :=
  let v := fromBE b
  beBytes 16 ((2 * v) % 2 ^ 128 ^^^ (if v ≥ 2 ^ 127 then 0x87 else 0))

/-- Chaining over the whole blocks. -/
def cbcMac (key : Bytes) (blocks : List Bytes) : Bytes := blocks.foldl (fun a b => aesBlock key (xorBytes a b)) (zeros 16)

/-- AES-CMAC. -/
def aesCmac (key m : Bytes) : Bytes :=
  let k1 := dbl (aesBlock key (zeros 16))
  let n := if m.isEmpty then 1 else ceilDiv m.length 16
  let last := m.drop (16 * (n - 1))
  let lastBlock := if last.length = 16 then xorBytes last k1
    else xorBytes (last ++ [0x80#8] ++ zeros (15 - last.length)) (dbl k1)
  cbcMac key (chunks 16 (m.take (16 * (n - 1))) ++ [lastBlock])

/-- Key stream of AES in counter mode from a start block. -/
def aesCtr (key iv m : Bytes) : Bytes :=
  ((List.range (ceilDiv m.length 16)).flatMap fun i => aesBlock key (beBytes 16 ((fromBE iv + i) % 2 ^ 128))).zipWith (· ^^^ ·) m

/-- S2V of RFC 5297 over associated strings and a final string. -/
def s2v (key : Bytes) (ads : List Bytes) (m : Bytes) : Bytes :=
  let d := ads.foldl (fun d a => xorBytes (dbl d) (aesCmac key a)) (aesCmac key (zeros 16))
  if m.length ≥ 16 then
    aesCmac key (m.take (m.length - 16) ++ xorBytes (m.drop (m.length - 16)) d)
  else aesCmac key (xorBytes (dbl d) (m ++ [0x80#8] ++ zeros (15 - m.length)))

/-- The synthetic IV with the two bits of RFC 5297 cleared. -/
def sivCounter (v : Bytes) : Bytes := beBytes 16 (fromBE v &&& 0xffffffffffffffff7fffffff7fffffff)

/-- AES-SIV seal: synthetic IV, then the encryption. -/
def sivSeal (key : Bytes) (ads : List Bytes) (m : Bytes) : Bytes :=
  let h := key.length / 2
  let v := s2v (key.take h) ads m
  v ++ aesCtr (key.drop h) (sivCounter v) m

/-- AES-SIV open: none when the synthetic IV does not verify. -/
def sivOpen (key : Bytes) (ads : List Bytes) (c : Bytes) : Option Bytes :=
  if c.length < 16 then none
  else
    let h := key.length / 2
    let v := c.take 16
    let m := aesCtr (key.drop h) (sivCounter v) (c.drop 16)
    if s2v (key.take h) ads m = v then some m else none

/-- Multiplication in the field of GCM, `n` more bits of the first factor, which is read from its most significant bit. -/
def ghashMul : Nat → Nat → Nat → Nat → Nat
  | 0, _, _, z => z
  | n + 1, x, v, z =>
    ghashMul n x (if v % 2 = 1 then (v / 2) ^^^ (0xe1 <<< 120) else v / 2) (if x.testBit n then z ^^^ v else z)

/-- GHASH over padded blocks. -/
def ghash (h : Nat) (blocks : List Bytes) : Nat := blocks.foldl (fun y b => ghashMul 128 (y ^^^ fromBE (slice b 0 16)) h 0) 0

/-- The GCM tag of associated data and a ciphertext under a 12-byte IV. -/
def gcmTag (key iv aad c : Bytes) : Bytes :=
  let h := fromBE (aesBlock key (zeros 16))
  let s := ghash h (chunks 16 aad ++ chunks 16 c ++ [beBytes 8 (8 * aad.length) ++ beBytes 8 (8 * c.length)])
  xorBytes (beBytes 16 s) (aesBlock key (iv ++ [0#8, 0#8, 0#8, 1#8]))

/-- The GMAC tag of associated data under a 12-byte IV. -/
def aesGmac (key iv aad : Bytes) : Bytes := gcmTag key iv aad []

/-- AES-GCM encryption, and decryption, of a text under a 12-byte IV. -/
def gcmCrypt (key iv m : Bytes) : Bytes := aesCtr key (iv ++ [0#8, 0#8, 0#8, 2#8]) m

/-! ### Ed25519 -/

def edP : Nat := 2 ^ 255 - 19
def edL : Nat := 2 ^ 252 + 27742317777372353535851937790883648493

/-- Modular power by the bits of the exponent, most significant of `n` first. -/
def powModGo (b e m : Nat) : Nat → Nat → Nat
  | 0, a => a
  | n + 1, a => powModGo b e m n (if e.testBit n then a * a % m * b % m else a * a % m)
def powMod (b e m : Nat) : Nat := powModGo (b % m) e m (e.log2 + 1) 1

def edD : Nat := (edP - 121665) * powMod 121666 (edP - 2) edP % edP

/-- A point in extended coordinates. -/
structure EdPoint where
  x : Nat
  y : Nat
  z : Nat
  t : Nat

def edZero : EdPoint := { x := 0, y := 1, z := 1, t := 0 }

def edBase : EdPoint :=
  let x := 15112221349535400772501151409588531511454012693041857206046113283949847762202
  let y := 46316835694926478169428394003475163141307993866256225615783033603165251855960
  { x, y, z := 1, t := x * y % edP }

def edAdd (a b : EdPoint) : EdPoint :=
  let p := edP
  let u := (a.y + p - a.x) * (b.y + p - b.x) % p
  let v := (a.y + a.x) * (b.y + b.x) % p
  let c := 2 * a.t * b.t % p * edD % p
  let d := 2 * a.z * b.z % p
  let e := (v + p - u) % p
  let f := (d + p - c) % p
  let g := (d + c) % p
  let h := (v + u) % p
  { x := e * f % p, y := g * h % p, z := f * g % p, t := e * h % p }

/-- A multiple of a point, by the bits of the scalar, most significant of `n` first. -/
def edMulGo (k : Nat) (b : EdPoint) : Nat → EdPoint → EdPoint
  | 0, a => a
  | n + 1, a => let d := edAdd a a; edMulGo k b n (if k.testBit n then edAdd d b else d)
def edMul (k : Nat) (b : EdPoint) : EdPoint := edMulGo k b 256 edZero

/-- The 32 bytes of a point. -/
def edEncode (a : EdPoint) : Bytes :=
  let zi := powMod a.z (edP - 2) edP
  leBytes 32 (a.y * zi % edP + a.x * zi % edP % 2 * 2 ^ 255)

/-- The secret scalar and the prefix of a seed. -/
def edSecret (seed : Bytes) : Nat × Bytes :=
  let h := sha512 seed
  let a := fromLE (h.take 32)
  (a % 2 ^ 254 / 8 * 8 + 2 ^ 254, h.drop 32)

def edPublic (seed : Bytes) : Bytes := edEncode (edMul (edSecret seed).1 edBase)

def edSign (seed m : Bytes) : Bytes :=
  let (a, pre) := edSecret seed
  let pub := edPublic seed
  let r := fromLE (sha512 (pre ++ m)) % edL
  let rb := edEncode (edMul r edBase)
  let k := fromLE (sha512 (rb ++ pub ++ m)) % edL
  rb ++ leBytes 32 ((r + k * a) % edL)

end Sys2Proof.Machine
end

