-- ==== Sys2Proof/Machine/NtpOps.lean ====
section
/-! DEFINITION. NTP, NTS and receipts: sorting, rate limit, response headers, cookies, trees (R350 to R371). -/
namespace Sys2Proof.Machine
open Sys2Proof

def updNtp (f : NtpPart → NtpPart) (s : State) : State := { s with ntp := f s.ntp }
def ntpCfg (s : State) (i : Nat) : NtpCfg := nth s.work.ntp i
def ntpRun (s : State) (i : Nat) : NtpRun := nth s.ntp.insts i
def updNtpRun (i : Nat) (f : NtpRun → NtpRun) (s : State) : State := updNtp (fun n => { n with insts := upd n.insts i f }) s

/-! ### Served bound -/

/-- The bound served on a port at an instant, without a format's half unit, 2⁻⁸ ps (R156, R157). -/
def servedBound (s : State) (p ps : Nat) : Option Nat := capB (addB (counterBoundAt ps s) (portUnc s p))

/-- Half a unit of the NTP format, 2⁻³³ s, in 2⁻⁸ ps, rounded up (R57, R159). -/
def ntpHalf : Nat := 29803

/-- The type code of the T-DPLL's selected candidate, 0 for none (R70). -/
def sourceType (s : State) : Nat := match tSelected s with | some o => idOf o / 256 | none => 0

/-! ### Time in NTP format (R52, R56, R58) -/

/-- The offset a format that counts seconds takes at a TAI second: NEW_OFFSET already in the second before a positive leap
(R53), the offset in force otherwise (R52). -/
def countOffset (t : TimePart) (sec : Nat) : Int :=
  match (smearEntries t).find? (fun e => e.1 = sec + 1 ∧ e.2.2 > e.2.1) with
  | some e => e.2.2
  | none => offsetInForce t sec

/-- UTC as a format that counts seconds serves it, in 2⁻¹⁶ ns (R53, R56). -/
def utcPlain (s : State) (ts : Nat) : Int := (ts : Int) - countOffset s.time (ts / tsSec) * (tsSec : Nat)

/-- UTC as a smearing instance serves it, in 2⁻¹⁶ ns (R58). -/
def utcSmeared (s : State) (ts : Nat) : Int :=
  match smearAt s.time ts with
  | some (w0, o, n) => roundDivI (((ts : Int) - o * (tsSec : Nat)) * 86400 - (n - o) * ((ts : Int) - w0 * (tsSec : Nat))) 86400
  | none =>
    let l := smearEntries s.time
    let first := match l with | e :: _ => e.2.1 | [] => s.time.currentOffset
    let off := l.foldl (fun a e =>
      if ((e.1 : Int) + s.time.smearStart + 86400) * (tsSec : Nat) ≤ (ts : Int) then e.2.2 else a) first
    (ts : Int) - off * (tsSec : Nat)

/-- The 64-bit NTP form of a time (R56). -/
def ntpOf (utc : Int) : Nat :=
  let f := roundDiv ((utc % (tsSec : Nat)).toNat * 2 ^ 32) tsSec
  ((utc / (tsSec : Nat) + 2208988800).toNat % 2 ^ 32 * 2 ^ 32 + f) % 2 ^ 64

/-- A counter time in an instance's NTP form. -/
def ntpTime (s : State) (i ts : Nat) : Nat := ntpOf (if bit (ntpCfg s i).flags 0 then utcSmeared s ts else utcPlain s ts)

/-! ### The response header (R353 to R356) -/

/-- Four ASCII bytes as a number. -/
def refGps : Nat := 0x47505300
def refPtp : Nat := 0x50545000
def refPps : Nat := 0x50505300
def refIrig : Nat := 0x49524947
def refAtom : Nat := 0x41544F4D
def refLocl : Nat := 0x4C4F434C
def refInit : Nat := 0x494E4954
def refRate : Nat := 0x52415445
def refNtsn : Nat := 0x4E54534E

/-- Reference ID by the T-DPLL's selected candidate (R354). -/
def refIdNow (s : State) (c : NtpCfg) : Nat :=
  if c.refid ≠ 0 then c.refid
  else
    let local_ := if (tdpll s).state == .holdover && s.work.hold.atomic then refAtom else refLocl
    if !tracking (tdpll s).state then local_
    else match tSelected s with
    | none => local_
    | some o =>
      match kindOf o with
      | .gnss => refGps
      | .ptp => refPtp
      | .refin => if (refCfg s o).mode = 2 then refIrig else refPps
      | _ => refLocl

/-- LI for an instant of counter time (R355). -/
def leapNow (s : State) (c : NtpCfg) (ts : Nat) : Nat :=
  if bit c.flags 0 then 0
  else match s.time.future.find? (fun e => decide (ts < e.leapTai * tsSec)) with
  | none => 0
  | some e =>
    if e.leapTai * tsSec ≤ ts + 86400 * tsSec then
      if e.newOffset > offsetInForce s.time (ts / tsSec) then 1 else 2
    else 0

/-- LI, stratum and Reference ID for a transmit time: the class and the bound are those of this tick (R354, R373). -/
def ntpStatusNow (s : State) (i ts : Nat) : Nat × Nat × Nat :=
  let c := ntpCfg s i
  let k := classOf s
  if (counterBound s).isNone || decide (k ≥ c.unsyncClass) || (!s.time.utcConfirmed && !bit c.flags 3) then (3, 16, refInit)
  else if k ≥ c.degradedClass then (leapNow s c ts, c.degradedStratum, refIdNow s c)
  else (leapNow s c ts, c.stratum, refIdNow s c)

/-- Root Dispersion of a bound that includes the half unit, in 2⁻¹⁶ s rounded up (R15, R356). -/
def rootDispersion (b : Option Nat) : Nat :=
  match b with
  | none => 0xFFFFFFFF
  | some v => min 0xFFFFFFFF (ceilDiv (v * 65536) (256 * 10 ^ 12))

/-- A Root Dispersion as the bound it carries, 2⁻⁸ ps (R25). -/
def dispersionBound (u : Nat) : Nat := u * (256 * 10 ^ 12) / 65536

/-- The header of a served response, and the bound it carries. `ver` and `poll` are the request's, `xmit` its Transmit
Timestamp, `tin` its T_in, `l` the launch time, `lps` the launch instant (R353). -/
def ntpHeader (s : State) (i port ver poll xmit tin l lps : Nat) : Bytes × Nat :=
  let (li, stratum, refid) := ntpStatusNow s i l
  let u := rootDispersion (capB (addB (servedBound s port lps) (some ntpHalf)))
  (beBytes 1 (li * 64 + ver * 8 + 4) ++ beBytes 1 stratum ++ beBytes 1 poll ++ [0xE0#8] ++ beBytes 4 0 ++ beBytes 4 u ++ beBytes 4 refid ++
    beBytes 8 (if s.time.refTime = 0 then 0 else ntpTime s i s.time.refTime) ++ beBytes 8 xmit ++ beBytes 8 (ntpTime s i tin) ++
    beBytes 8 (ntpTime s i l), dispersionBound u)

/-- The header of a Kiss-o'-Death (R353). -/
def kodHeader (code ver poll xmit : Nat) : Bytes :=
  beBytes 1 (3 * 64 + ver * 8 + 4) ++ [0#8] ++ beBytes 1 poll ++ [0xE0#8] ++ beBytes 4 0 ++ beBytes 4 0xFFFFFFFF ++ beBytes 4 code ++
  beBytes 8 0 ++ beBytes 8 xmit ++ beBytes 8 xmit ++ beBytes 8 xmit

/-! ### Extension fields (R352, R358; RFC 7822) -/

/-- A sequence of extension fields as (type, whole field); none when it is not one. -/
def extFields : Nat → Bytes → Option (List (Nat × Bytes))
  | 0, _ => none
  | n + 1, b =>
    if b.isEmpty then some []
    else
      let len := fldBE b 2 2
      if b.length < 4 ∨ len < 16 ∨ len % 4 ≠ 0 ∨ len > b.length ∨ (len = b.length ∧ len < 28) then none
      else (extFields n (b.drop len)).map fun r => (fldBE b 0 2, b.take len) :: r

/-- The extension fields of an NTP payload. -/
def ntpFields (u : Bytes) : Option (List (Nat × Bytes)) := extFields (u.length / 16 + 1) (u.drop 48)

def fieldsOf (ty : Nat) (l : List (Nat × Bytes)) : List Bytes := (l.filter (fun f => f.1 == ty)).map (·.2)

/-- An NTS request is well formed (R358). -/
def ntsFormOk (l : List (Nat × Bytes)) : Bool :=
  let uid := fieldsOf 0x0104 l
  let ck := fieldsOf 0x0204 l
  let ph := fieldsOf 0x0304 l
  let au := fieldsOf 0x0404 l
  uid.length == 1 && uid.all (fun f => decide (36 ≤ f.length ∧ f.length ≤ 260)) && ck.length == 1 && ck.all (fun f => f.length == 104) &&
  decide (ph.length ≤ 7) && ph.all (fun f => f.length == 104) && au.length == 1 && (l.getLast?.map (·.1)) == some 0x0404 &&
  au.all (fun f => decide (16 ≤ fldBE f 4 2 ∧ fldBE f 4 2 ≤ 64 ∧ 8 + fldBE f 4 2 ≤ f.length))

/-- The cookie's KEY_ID: instance and epoch (R359). -/
def cookieKeyId (f : Bytes) : Nat := fldBE f 4 4

/-- The server key of an epoch among those in force. -/
def keyOfEpoch (l : List NtsKey) (ep : Nat) : Option Bytes :=
  (l.find? (fun k => k.epoch != 0 && k.epoch == ep)).map (·.key)

/-- The server keys of an instance. -/
def ntsKeys (s : State) (i : Nat) : List NtsKey := [(ntpRun s i).previous, (ntpRun s i).current, (ntpRun s i).next]

/-! ### The rate limit (R363 to R365) -/

/-- An address lies in an exempt prefix (R364, R376). -/
def isExempt (s : State) (v6 : Bool) (a : Nat) : Bool :=
  let w := if v6 then 128 else 32
  s.work.rate.exempt.any fun e => e.v6 == v6 && a / 2 ^ (w - e.len) == e.addr / 2 ^ (w - e.len)

/-- The bucket of an address (R363). -/
def bucketOf (s : State) (v6 : Bool) (a : Nat) : Nat :=
  let m := if v6 then a / 2 ^ (128 - s.work.rate.ipv6Prefix) * 2 ^ (128 - s.work.rate.ipv6Prefix) else a
  Config.keyedHash s.ntp.hashKey m % 2 ^ 20

/-- One token in units of 1/(16·10¹²). -/
def oneToken : Nat := 16 * 10 ^ 12

/-- The tokens of a bucket under a rate policy at an instant of raw time (R364). -/
def refilled (r : RateCfg) (now : Nat) (b : Bucket) : Nat := min (r.burst * oneToken) (b.tokens + r.rate * (now - b.at_))

/-- A numbered bucket (R363). -/
def bucketAt (s : State) (k : Nat) : Bucket := (getKey k s.ntp.buckets).getD s.ntp.idle

/-- A bucket's tokens now. -/
def tokensNow (s : State) (k : Nat) : Nat := refilled s.work.rate s.now (bucketAt s k)

/-- Every bucket is settled under the policy that a commit replaces (R364, R373). -/
def settleBuckets (old : RateCfg) (s : State) : State :=
  let f := fun (b : Bucket) => { b with tokens := refilled old s.now b, at_ := s.now }
  updNtp (fun n => { n with buckets := n.buckets.map fun e => (e.1, f e.2), idle := f n.idle }) s

/-- Every bucket is full (R364, R372). -/
def fillBuckets (s : State) : State :=
  updNtp (fun n => { n with buckets := [], idle := { tokens := s.work.rate.burst * oneToken, at_ := s.now } }) s

/-- Charge one token: whether the request is within rate (R364). -/
def chargeToken (v6 : Bool) (a : Nat) (s : State) : Bool × State :=
  if isExempt s v6 a then (true, s)
  else
    let k := bucketOf s v6 a
    let t := tokensNow s k
    let kod := (bucketAt s k).kodAt
    if t < oneToken then (false, s)
    else (true, updNtp (fun n => { n with buckets := putKey k { tokens := t - oneToken, at_ := s.now, kodAt := kod } n.buckets }) s)

/-- A cause that is raised once in a hand: the new hand mark (R336, R365, R374). -/
def onceInHand (cls b : Nat) (last : Option Nat) (s : State) : Option Nat × State :=
  if last = some s.hand.number then (last, s) else (some s.hand.number, raise cls b s)

/-- A request was over rate in this hand (R365). -/
def noteOverRate (s : State) : State :=
  let (h, s) := onceInHand 11 0 s.ntp.rateHand s
  updNtp (fun n => { n with rateHand := h }) s

def noteNak (s : State) : State :=
  let (h, s) := onceInHand 11 2 s.ntp.nakHand s
  updNtp (fun n => { n with nakHand := h }) s

def noteNtpAuth (s : State) : State :=
  let (h, s) := onceInHand 11 1 s.ntp.authHand s
  updNtp (fun n => { n with authHand := h }) s

def noteMalformed (s : State) : State :=
  let (h, s) := onceInHand 11 6 s.ntp.malHand s
  updNtp (fun n => { n with malHand := h }) s

/-- A bucket may send a RATE KoD now, and has sent it (R365). -/
def takeKod (v6 : Bool) (a : Nat) (s : State) : Bool × State :=
  let k := bucketOf s v6 a
  let b := bucketAt s k
  let free := match b.kodAt with | some x => decide (x + s.work.rate.kodInterval * msPs ≤ s.now) | none => true
  if free then (true, updNtp (fun n => { n with buckets := putKey k { b with kodAt := some s.now } n.buckets }) s) else (false, s)

/-! ### Sorting a request (R352) -/

/-- What the classifier makes of an NTP frame. `len` is the length of the response's UDP payload. -/
inductive NtpSort where
  | drop
  | clubs (code : Nat)
  | serve (kind : Kind) (kiss len : Nat)
  deriving DecidableEq, Repr

/-- The length of an NTS response's payload: header, Unique Identifier, Authenticator with 1 + p cookies (R360). -/
def ntsLen (l : List (Nat × Bytes)) : Nat :=
  let uid := (fieldsOf 0x0104 l).foldl (fun a f => a + f.length) 0
  48 + uid + 40 + 104 * (1 + (fieldsOf 0x0304 l).length)

/-- Rows 2 to 8 (R352): none is dropped and counted MALFORMED. -/
def sortRows (s : State) (i : Nat) (u : Bytes) : Option NtpSort :=
  let c := ntpCfg s i
  let ver := fldBE u 0 1 / 8 % 8
  let n := u.length - 48
  let fields := if ver = 4 then ntpFields u else none
  let cookie := match fields with | some l => !(fieldsOf 0x0204 l).isEmpty | none => false
  let nak := NtpSort.serve .kod 2 (48 + (match fields with | some l => ((fieldsOf 0x0104 l).headD []).length | none => 0))
  if cookie then
    if bit c.flags 2 then
      let l := fields.getD []
      if !ntsFormOk l then none
      else
        let id := cookieKeyId ((fieldsOf 0x0204 l).headD [])
        if id / 2 ^ 28 = i ∧ (keyOfEpoch (ntsKeys s i) (id % 2 ^ 28)).isSome ∧ (ntpRun s i).current.epoch ≠ 0 then
          some (.serve .nts 0 (ntsLen l))
        else some nak
    else some nak
  else if n = 20 ∧ bit c.flags 1 ∧ (getKey (i * 2 ^ 32 + fldBE u 48 4) s.ntp.symKeys).isSome then some (.serve .ntpSymmetric 0 68)
  else if n = 20 ∨ n = 24 then some (.clubs 5)
  else if fields.isSome && n != 0 then some (.serve .ntpPlain 0 48)
  else if n = 0 then some (.serve .ntpPlain 0 48)
  else none

/-- The sort of an NTP request with its charge and its counters (R350, R352, R364, R365). -/
def sortNtp (i : Nat) (u : UdpView) (s : State) : NtpSort × State :=
  let (ok, s) := chargeToken u.v6 u.src s
  let s := if ok then s else noteOverRate s
  if !(ntpCfg s i).enable then (.drop, updNtpRun i (fun r => { r with notServed := add48 r.notServed 1 }) s)
  else
    let row := sortRows s i u.payload
    let rateDrop := fun (s : State) => (NtpSort.drop, updNtp (fun n => { n with rateDrops := add48 n.rateDrops 1 }) (bump (64 * 11 + 38) s))
    if !ok && s.work.rate.action != 0 then
      match row with
      | some (.serve .ntpPlain _ _) =>
        if s.work.rate.action = 2 then
          let (may, s) := takeKod u.v6 u.src s
          if may then
            (.serve .kod 1 48, bump (64 * 11 + 35) (updNtpRun i (fun r => { r with kodRate := add48 r.kodRate 1 }) s))
          else rateDrop s
        else rateDrop s
      | _ => rateDrop s
    else
      match row with
      | none => (.drop, noteMalformed (updNtp (fun n => { n with malformed := add48 n.malformed 1 }) s))
      | some (.serve k kiss len) =>
        let s := match k with
          | .ntpPlain => bump (64 * 11 + 32) (updNtpRun i (fun r => { r with plain := add48 r.plain 1 }) s)
          | .ntpSymmetric => bump (64 * 11 + 33) (updNtpRun i (fun r => { r with symmetric := add48 r.symmetric 1 }) s)
          | .nts => bump (64 * 11 + 34) (updNtpRun i (fun r => { r with nts := add48 r.nts 1 }) s)
          | _ => noteNak (bump (64 * 11 + 36) (updNtpRun i (fun r => { r with ntsNak := add48 r.ntsNak 1 }) s))
        (.serve k kiss len, s)
      | some r => (r, s)

/-! ### Cookies and NTS responses (R359, R360) -/

/-- A fresh 16-byte nonce from the random generator: a free value. -/
def freshNonce (s : State) : Bytes × State := (beBytes 16 (freeVal s % 2 ^ 128), useFree s)

/-- A cookie for two keys under an instance's CURRENT key (R359). -/
def mintCookie (i : Nat) (c2s s2c : Bytes) (s : State) : Bytes × State :=
  let k := (ntpRun s i).current
  let (nonce, s) := freshNonce s
  let ad := beBytes 4 (i * 2 ^ 28 + k.epoch)
  (ad ++ nonce ++ sivSeal k.key [ad, nonce] (c2s ++ s2c), s)

/-- Several cookies, each in its NTS Cookie field. -/
def mintFields : Nat → Nat → Bytes → Bytes → State → Bytes × State
  | 0, _, _, _, s => ([], s)
  | n + 1, i, a, b, s =>
    let (c, s) := mintCookie i a b s
    let (r, s) := mintFields n i a b s
    (beBytes 2 0x0204 ++ beBytes 2 104 ++ c ++ r, s)

/-- The keys that a cookie holds: C2S and S2C (R359). -/
def openCookie (i : Nat) (keys : List NtsKey) (f : Bytes) : Option (Bytes × Bytes) :=
  let c := f.drop 4
  if fldBE c 0 4 / 2 ^ 28 ≠ i then none
  else match keyOfEpoch keys (fldBE c 0 4 % 2 ^ 28) with
  | none => none
  | some k => (sivOpen k [c.take 4, slice c 4 16] (c.drop 20)).map fun m => (m.take 32, m.drop 32)

/-- The Authenticator of a request verifies under C2S (R360). -/
def authOk (c2s : Bytes) (u : Bytes) (au : Bytes) : Bool :=
  let nl := fldBE au 4 2
  let nonce := slice au 8 nl
  let start := 8 + ceilDiv nl 4 * 4
  let ct := slice au start (fldBE au 6 2)
  decide (start + fldBE au 6 2 ≤ au.length) && decide (fldBE au 6 2 ≥ 16) && (sivOpen c2s [u.take (u.length - au.length), nonce] ct).isSome

/-- The payload of an NTS response, none for a request that does not verify (R360). -/
def ntsPayload (i : Nat) (keys : List NtsKey) (header u : Bytes) (s : State) : Option Bytes × State :=
  let l := (ntpFields u).getD []
  let uid := (fieldsOf 0x0104 l).headD []
  match openCookie i keys ((fieldsOf 0x0204 l).headD []) with
  | none => (none, s)
  | some (c2s, s2c) =>
    if !authOk c2s u ((fieldsOf 0x0404 l).headD []) || (ntpRun s i).current.epoch == 0 then (none, s)
    else
      let (cookies, s) := mintFields (1 + (fieldsOf 0x0304 l).length) i c2s s2c s
      let (nonce, s) := freshNonce s
      let ct := sivSeal s2c [header ++ uid, nonce] cookies
      (some (header ++ uid ++ beBytes 2 0x0404 ++ beBytes 2 (24 + ct.length) ++ beBytes 2 16 ++ beBytes 2 ct.length ++ nonce ++ ct), s)

/-- The payload of a response of kinds NTP_PLAIN to KOD with the bound it carries (R353, R357, R360). -/
def ntpPayload (q : Request) (u : Bytes) (l lps : Nat) (s : State) : Bytes × Option Nat × State :=
  let ver := fldBE u 0 1 / 8 % 8
  let poll := fldBE u 2 1
  let xmit := fldBE u 40 8
  let (h, b) := ntpHeader s q.inst q.port ver poll xmit q.stamp l lps
  let uid := match ntpFields u with | some f => (fieldsOf 0x0104 f).headD [] | none => []
  match q.kind with
  | .kod =>
    if q.kiss = 1 then (kodHeader refRate ver (max poll s.work.rate.kodPoll) xmit, none, s)
    else (kodHeader refNtsn ver poll xmit ++ uid, none, s)
  | .ntpSymmetric =>
    match getKey (q.inst * 2 ^ 32 + fldBE u 48 4) s.ntp.symKeys with
    | some k =>
      if aesCmac (k.take 16) (u.take 48) = slice u 52 16 then (h ++ slice u 48 4 ++ aesCmac (k.take 16) h, some b, s)
      else (h ++ zeros 4, some b, noteNtpAuth (bump (64 * 11 + 37)
        (updNtpRun q.inst (fun r => { r with cryptoNak := add48 r.cryptoNak 1 }) s)))
    | none => (h ++ zeros 4, some b, noteNtpAuth (bump (64 * 11 + 37)
        (updNtpRun q.inst (fun r => { r with cryptoNak := add48 r.cryptoNak 1 }) s)))
  | .nts =>
    match ntsPayload q.inst q.keys h u s with
    | (some p, s) => (p, some b, s)
    | (none, s) =>
      (kodHeader refNtsn ver poll xmit ++ uid, none, noteNtpAuth (noteNak (bump (64 * 11 + 36)
        (updNtpRun q.inst (fun r => { r with ntsNak := add48 r.ntsNak 1 }) s))))
  | _ => (h, some b, s)

/-! ### Receipts (R366 to R371) -/

/-- The largest power of two below n, for n at least 2. -/
def splitSize (n : Nat) : Nat := 2 ^ ((n - 1).log2)

/-- The Merkle tree hash of leaf hashes (RFC 9162). -/
def treeHash : Nat → List Bytes → Bytes
  | 0, _ => zeros 32
  | _ + 1, [] => sha256 []
  | _ + 1, [h] => h
  | n + 1, l =>
    let k := splitSize l.length
    sha256 ([1#8] ++ treeHash n (l.take k) ++ treeHash n (l.drop k))

/-- The inclusion path of leaf `m`, from the leaf upwards (RFC 9162). -/
def treePath : Nat → Nat → List Bytes → List Bytes
  | 0, _, _ => []
  | _ + 1, _, [] => []
  | _ + 1, _, [_] => []
  | n + 1, m, l =>
    let k := splitSize l.length
    if m < k then treePath n m (l.take k) ++ [treeHash (n + 1) (l.drop k)]
    else treePath n (m - k) (l.drop k) ++ [treeHash (n + 1) (l.take k)]

/-- KEY_ID of a signing key (R367). -/
def rcptKeyId (seed : Bytes) : Bytes := (sha256 (edPublic seed)).take 8

/-- A receipt request of the exact form of R366. -/
def rcptFormOk (u : Bytes) : Bool :=
  u.length == 564 && u.getD 0 0#8 == 1#8 && u.getD 1 0#8 == 1#8 && slice u 2 2 == zeros 2 && u.drop 36 == zeros 528

/-- The time of a receipt, network order (R367). -/
def tsBytesBE (ts : Nat) : Bytes := beBytes 6 (ts / tsSec) ++ beBytes 4 (ts / 65536 % 1000000000) ++ beBytes 2 (ts % 65536)

/-- A bound in ps of five bytes. -/
def bound5 (b : Option Nat) : Bytes := beBytes 5 (boundPs b)

/-- BATCH_ID of a first leaf's time (R370). -/
def batchIdOf (ts : Nat) : Nat := ts / 65536

/-- The open batch is closed (R296, R370). -/
def closeBatch (s : State) : State :=
  match s.ntp.open_ with
  | none => s
  | some b => updNtp (fun n => { n with open_ := none, closed := n.closed ++ [b] }) s

/-- A receipt is admitted: its record joins the open batch, or opens one when none is open or the open one has reached its limit
(R296, R368, R369, R370). -/
def addReceipt (q : Request) (nonce : Bytes) (s : State) : State :=
  let b := servedBound s q.port (q.tIn + 10 * msPs)
  let s := match s.ntp.open_ with | some o => if s.now ≥ o.first + 8 * msPs then closeBatch s else s | none => s
  let op := s.ntp.open_.getD { id := batchIdOf q.stamp, seed := s.ntp.seed, first := q.tIn }
  let fl := packBits [boundMode s == 1, boundMode s == 2, s.time.utcConfirmed]
  let head := [1#8, 2#8] ++ beBytes 1 fl ++ beBytes 1 (sourceType s) ++ nonce ++ tsBytesBE q.stamp ++
    beBytes 2 (ofSigned 16 (offsetInForce s.time (q.stamp / tsSec))) ++ beBytes 1 (q.epoch % 256) ++ bound5 b ++
    beBytes 8 op.id ++ beBytes 4 op.leaves.length ++ rcptKeyId op.seed
  let r : Receipt := { head, port := q.port, prio := q.prio, frame := q.frame, tIn := q.tIn, bound := boundPs b * 256, request := q.id }
  let op := { op with leaves := op.leaves ++ [r] }
  let s := updNtp (fun n => { n with open_ := some op, pending := n.pending + 1 }) s
  if op.leaves.length ≥ 4096 then closeBatch s else s

/-- Line bytes of the receipts pending on a port (R296). -/
def rcptLineBytes (s : State) (p : Nat) : Nat :=
  let inBatch := fun (b : Batch) => b.leaves.foldl (fun a r => if r.port = p then a + (r.frame.length + 24) else a) 0
  let queued := (portOf s p).timed.foldl (fun a f => match f.tag with | .response .receipt _ _ => a + (f.bytes.length + 24) | _ => a) 0
  (match s.ntp.open_ with | some b => inBatch b | none => 0) + s.ntp.closed.foldl (fun a b => a + inBatch b) 0 + queued

/-- A signed batch: the responses' payloads in leaf order, the root (R367, R369). -/
def signBatch (b : Batch) : List Bytes × Bytes :=
  let hashes := b.leaves.map fun r => sha256 ([0#8] ++ r.head)
  let root := treeHash 13 hashes
  let n := b.leaves.length
  let msg := [0x49#8, 0x53#8, 0x4F#8, 0x54#8, 0x48#8, 0x2D#8, 0x52#8, 0x43#8, 0x50#8, 0x54#8, 0x2D#8, 0x42#8, 0x54#8, 0x43#8, 0x48#8, 0x31#8] ++
    beBytes 8 b.id ++ beBytes 4 n ++ rcptKeyId b.seed ++ root
  let sig := edSign b.seed msg
  ((List.range n).map fun k =>
    let path := treePath 13 k hashes
    (nth b.leaves k).head ++ beBytes 4 n ++ beBytes 1 path.length ++ zeros 3 ++ root ++ slice path.flatten 0 384 ++ sig, root)

end Sys2Proof.Machine
end

