-- ==== Sys2Proof/Machine/PtpOps.lean ====
section
/-! DEFINITION. The PTP service: messages, addresses, datasets, BMCA, tracking, grants (R310 to R340). The layouts that the
spec takes from IEEE 1588-2019, ITU-T G.8275, IEEE 802.1AS and SMPTE ST 2059-2 by name are those of the standards. -/
namespace Sys2Proof.Machine
open Sys2Proof

def updPtp (f : PtpPart → PtpPart) (s : State) : State := { s with ptp := f s.ptp }
def instCfg (s : State) (i : Nat) : Option PtpCfg := getKey i s.work.ptp
def instRun (s : State) (i : Nat) : PtpRun := nth s.ptp.insts i
def updInst (i : Nat) (f : PtpRun → PtpRun) (s : State) : State := updPtp (fun n => { n with insts := upd n.insts i f }) s
def bindCfg (s : State) (i p : Nat) : Option BindCfg := s.work.binds.find? (fun b => b.inst == i && b.port == p)
def bindRun (s : State) (i p : Nat) : BindRun := (getKey (16 * i + p) s.ptp.binds).getD {}
def updBind (i p : Nat) (f : BindRun → BindRun) (s : State) : State :=
  updPtp (fun n => { n with binds := putKey (16 * i + p) (f ((getKey (16 * i + p) n.binds).getD {})) n.binds }) s

/-- Flags of a binding (R345). -/
def servesUnicast (b : BindCfg) : Bool := bit b.flags 0
def sendsMulticast (b : BindCfg) : Bool := bit b.flags 1
def unicastClient (b : BindCfg) : Bool := bit b.flags 3

/-- Flags of an instance (R342, R343). -/
def twoStep (c : PtpCfg) : Bool := bit c.flags 0
def freqOnlyInst (c : PtpCfg) : Bool := bit c.flags 1
def slaveOnly (c : PtpCfg) : Bool := bit c.flags 2
def boundTlvOn (c : PtpCfg) : Bool := bit c.cfgFlags 0
def trustTlv (c : PtpCfg) : Bool := bit c.cfgFlags 1
def accTableOn (c : PtpCfg) : Bool := bit c.cfgFlags 2

/-- Peer-to-peer profiles (R314). -/
def isP2P (c : PtpCfg) : Bool := c.profile == 1 || c.profile == 4

/-- An interval of log₂ seconds in ps. -/
def logPs (l : Int) : Nat := if l < 0 then secPs / 2 ^ l.natAbs else secPs * 2 ^ l.natAbs

/-! ### Message types and layouts (IEEE 1588-2019 clause 13) -/

def mSync : Nat := 0
def mDelayReq : Nat := 1
def mPdelayReq : Nat := 2
def mPdelayResp : Nat := 3
def mFollowUp : Nat := 8
def mDelayResp : Nat := 9
def mPdelayFu : Nat := 10
def mAnnounce : Nat := 11
def mSignaling : Nat := 12
def mManagement : Nat := 13

def controlField (m : Nat) : Nat := if m = 0 then 0 else if m = 1 then 1 else if m = 8 then 2 else if m = 9 then 3 else if m = 13 then 4 else 5

/-- Where the TLVs of a message type begin. -/
def tlvStart (m : Nat) : Nat :=
  if m = 0 ∨ m = 1 ∨ m = 8 ∨ m = 12 then 44 else if m = 11 then 64 else if m = 13 then 48 else 54

/-- The parts of a message. -/
structure PtpMsg where
  mtype : Nat := 0
  flags : Nat := 0
  corr : Int := 0
  seq : Nat := 0
  log : Int := 0x7F
  body : Bytes := []
  tlvs : Bytes := []
  deriving DecidableEq, Repr, Inhabited

/-- The bytes of a message; `extra` bytes of a TLV are still to follow (R313). -/
def ptpBytes (c : PtpCfg) (p : Nat) (m : PtpMsg) (extra : Nat) : Bytes :=
  beBytes 1 ((if c.profile = 4 then 16 else 0) + m.mtype) ++ [0x12#8] ++ beBytes 2 (34 + m.body.length + m.tlvs.length + extra) ++
  beBytes 1 c.domain ++ [0#8] ++ beBytes 2 m.flags ++ beBytes 8 (ofSigned 64 m.corr) ++ zeros 4 ++ beBytes 8 c.clockId ++ beBytes 2 (p + 1) ++
  beBytes 2 m.seq ++ beBytes 1 (controlField m.mtype) ++ beBytes 1 (ofSigned 8 m.log) ++ m.body ++ m.tlvs

/-- Seconds and nanoseconds of a timestamp. -/
def ts80 (ts : Nat) : Bytes := beBytes 6 (ts / tsSec) ++ beBytes 4 (ts / 65536 % 1000000000)

/-- A timestamp's part below a nanosecond. -/
def subNs (ts : Nat) : Int := (ts % 65536 : Nat)

/-- The time of a timestamp field, 2⁻¹⁶ ns. -/
def ts80Of (b : Bytes) (off : Nat) : Nat := (fldBE b off 6 * 1000000000 + fldBE b (off + 6) 4) * 65536

/-- The fields of a received message. -/
def msgType (m : Bytes) : Nat := fldBE m 0 1 % 16
def msgDomain (m : Bytes) : Nat := fldBE m 4 1
def msgFlags (m : Bytes) : Nat := fldBE m 6 2
def msgCorr (m : Bytes) : Int := toSigned 64 (fldBE m 8 8)
def msgSource (m : Bytes) : Nat := fldBE m 20 10
def msgSeq (m : Bytes) : Nat := fldBE m 30 2
def msgLog (m : Bytes) : Int := toSigned 8 (fldBE m 33 1)

/-- TLVs as (type, offset in the message, value). -/
def tlvsGo : Nat → Nat → Bytes → List (Nat × Nat × Bytes)
  | 0, _, _ => []
  | n + 1, off, b =>
    if b.length < 4 then []
    else
      let len := fldBE b 2 2
      if b.length < 4 + len then [] else (fldBE b 0 2, off, slice b 4 len) :: tlvsGo n (off + 4 + len) (b.drop (4 + len))

/-- The TLVs of a message within its messageLength. -/
def tlvsOf (m : Bytes) : List (Nat × Nat × Bytes) :=
  let st := tlvStart (msgType m)
  tlvsGo (m.length / 4 + 1) st ((m.take (fldBE m 2 2)).drop st)

/-! ### The Gelrov bound TLV (R337, R338) -/

/-- The TLV for a served bound, at a step epoch and a mode of the bound engine. -/
def boundTlv (s : State) (b : Option Nat) (epoch mode : Nat) : Bytes :=
  beBytes 2 0x8000 ++ beBytes 2 16 ++ [0x7A#8, 0xC3#8, 0x0E#8, 0x00#8, 0x00#8, 0x01#8, 0x01#8] ++
  beBytes 1 (packBits [mode == 1, mode == 2, s.time.valid]) ++ bound5 b ++ beBytes 1 (epoch % 256) ++ beBytes 1 (sourceType s) ++ [0#8]

/-- The BOUND of a message's TLV, in ps. -/
def tlvBound (m : Bytes) : Option Nat :=
  ((tlvsOf m).find? (fun t => t.1 == 0x8000 && t.2.2.length == 16 && t.2.2.take 7 == [0x7A#8, 0xC3#8, 0x0E#8, 0x00#8, 0x00#8, 0x01#8, 0x01#8])).map
    fun t => fldBE t.2.2 8 5

/-- A bound as the message carries it: whole ps rounded up, in 2⁻⁸ ps. -/
def carriedBound (b : Option Nat) : Nat := boundPs b * 256

/-! ### Authentication (R334 to R336) -/

def saCfg (s : State) (k : Nat) : Option SaCfg := getKey k s.work.sas
def saRun (s : State) (k : Nat) : SaRun := (getKey k s.ptp.sas).getD {}

/-- Bytes of the AUTHENTICATION TLV of an algorithm. -/
def authLen (alg : Nat) : Nat := if alg = 1 then 26 else 38

/-- The TLV that an instance will append: its bytes (R335). -/
def sealLen (s : State) (c : PtpCfg) : Nat :=
  if c.authMode = 0 then 0 else match saCfg s c.txSa with | some a => authLen a.alg | none => 0

/-- The algorithm whose lane work sealing adds: 0 none, 1 HMAC, 2 GMAC (R286). -/
def txAuth (s : State) (c : PtpCfg) : Nat :=
  if c.authMode = 0 then 0 else match saCfg s c.txSa with | some a => if a.alg = 1 then 1 else 2 | none => 0

/-- correctionField as 8 zero bytes (R335). -/
def zeroCorr (m : Bytes) : Bytes := m.take 8 ++ zeros 8 ++ m.drop 16

/-- The ICV over the bytes of a message through keyID or the vector. -/
def icvOf (a : SaCfg) (key iv m : Bytes) : Bytes :=
  let m := if a.zeroCorr then zeroCorr m else m
  if a.alg = 1 then (hmacSha256 key m).take 16 else aesGmac (if a.alg = 2 then key.take 16 else key) iv m

/-- A message sealed as the instance is set up to seal it. -/
def sealMsg (c : PtpCfg) (p : Nat) (m : PtpMsg) (s : State) : Bytes × State :=
  if c.authMode = 0 then (ptpBytes c p m 0, s)
  else match saCfg s c.txSa with
  | none => (ptpBytes c p m 0, s)
  | some a =>
    let r := saRun s c.txSa
    let iv := if a.alg = 1 then [] else beBytes 4 a.salt ++ beBytes 8 r.counter
    let pre := ptpBytes c p m (authLen a.alg) ++ beBytes 2 0x8009 ++ beBytes 2 (authLen a.alg - 4) ++ beBytes 1 a.spp ++ [0#8] ++
      beBytes 4 a.keyId ++ iv
    let s := if a.alg = 1 then s
      else updPtp (fun n => { n with sas := putKey c.txSa { r with counter := (r.counter + 1) % 2 ^ 64 } n.sas }) s
    (pre ++ icvOf a r.key iv pre, s)

/-- The association of a received message's TLV: its number with the TLV, when it is known. -/
def authTlv (m : Bytes) : Option (Nat × Bytes) := ((tlvsOf m).find? (fun t => t.1 == 0x8009)).map (·.2)

def saOf (s : State) (v : Bytes) : Option (Nat × SaCfg) :=
  s.work.sas.find? (fun e => e.2.spp == fldBE v 0 1 && e.2.keyId == fldBE v 2 4)

/-- The algorithm whose lane work a received message adds: 0 none, 1 HMAC, 2 GMAC (R286). -/
def authCost (s : State) (c : PtpCfg) (m : Bytes) : Nat :=
  if c.authMode = 0 then 0
  else match authTlv m with
  | none => 0
  | some (_, v) => match saOf s v with | some (_, a) => if a.alg = 1 then 1 else 2 | none => 0

/-- A message passes the authentication of its instance, and it was authenticated (R336). -/
def authCheck (s : State) (c : PtpCfg) (m : Bytes) : Bool × Bool :=
  if c.authMode = 0 then (true, false)
  else
    let req := c.authMode == 2
    match authTlv m with
    | none => (!req, false)
    | some (off, v) =>
      if fldBE v 1 1 ≠ 0 then (!req, false)
      else match saOf s v with
      | none => (!req, false)
      | some (k, a) =>
        if v.length ≠ authLen a.alg - 4 then (false, false)
        else
          let iv := if a.alg = 1 then [] else slice v 6 12
          let ok := icvOf a (saRun s k).key iv (m.take (off + 10 + iv.length)) == slice v (6 + iv.length) 16
          (ok, ok)

/-- An authentication discard (R336). -/
def authDiscard (i p : Nat) (s : State) : State :=
  let (h, s) := onceInHand 10 7 s.ptp.authHand (updBind i p (fun b => { b with authFails := (b.authFails + 1) % 2 ^ 32 }) s)
  updPtp (fun n => { n with authHand := h }) s

/-! ### Addresses (R312) -/

/-- A received PTP frame: transport, addresses, tags, message. -/
structure PtpView where
  transport : Nat
  da : Nat
  sa : Nat
  src : Nat
  dst : Nat
  tags : Bytes
  msg : Bytes
  deriving DecidableEq, Repr, Inhabited

/-- A frame that is PTP by EtherType or UDP port (R284 row 4). -/
def ptpView (f : Bytes) : Option PtpView :=
  let e := ethOf f
  if e.etype = 0x88F7 then some { transport := 0, da := e.da, sa := e.sa, src := 0, dst := 0, tags := e.tags, msg := e.payload }
  else match ipOf f.length e with
  | .udp u =>
    if u.dport = 319 ∨ u.dport = 320 then
      some { transport := if u.v6 then 2 else 1, da := e.da, sa := e.sa, src := u.src, dst := u.dst, tags := e.tags, msg := u.payload }
    else none
  | _ => none

/-- A frame is at service address entry `a` of a port (R285). -/
def atEntry (s : State) (p : Nat) (v6 : Bool) (da dst : Nat) (tci : Option Nat) (a : SvcAddr) : Bool :=
  a.v6 == v6 && a.addr == dst && da == (portCfg s p).mac &&
  (if bit a.vlan 15 then true
   else match tci with
   | none => bit a.vlan 12
   | some t => !bit a.vlan 12 && t % 4096 == a.vlan % 4096)

/-- The number of the service address entry that a frame is at. -/
def svcEntry (s : State) (p : Nat) (v6 : Bool) (da dst : Nat) (tci : Option Nat) : Option Nat :=
  let l := nth s.work.svcAddrs p
  (List.range l.length).find? fun k => atEntry s p v6 da dst tci (nth l k)

/-- The first service address of a family on a port; the unspecified address without one (R312). -/
def svcAddrOf (s : State) (p : Nat) (v6 : Bool) : Nat :=
  match (nth s.work.svcAddrs p).find? (fun a => a.v6 == v6) with
  | some a => a.addr
  | none => 0

def tciOf (tags : Bytes) : Option Nat := if tags.isEmpty then none else some (fldBE tags 2 2)

def peerType (m : Nat) : Bool := m == 2 || m == 3 || m == 10

/-- The multicast address of a message type: MAC and IP (R312). -/
def groupOf (transport scope : Nat) (nonforward : Bool) (m : Nat) : Nat × Nat :=
  match transport with
  | 0 => (if nonforward || peerType m then 0x0180C200000E else 0x011B19000000, 0)
  | 1 => if peerType m then (0x01005E00006B, 0xE000006B) else (0x01005E000181, 0xE0000181)
  | _ => if peerType m then (0x33330000006B, 0xFF02 * 2 ^ 112 + 0x6B)
         else (0x333300000181, (0xFF00 + scope) * 2 ^ 112 + 0x181)

/-- The frame is at a multicast PTP address of a binding. -/
def atGroup (b : BindCfg) (v : PtpView) : Bool :=
  v.transport == b.transport &&
  (if b.transport = 0 then v.da == (groupOf 0 0 (bit b.flags 2) (msgType v.msg)).1
   else v.dst == (groupOf b.transport b.ipv6Scope false (msgType v.msg)).2)

/-- The frame is at a unicast PTP address of a port. -/
def atUnicast (s : State) (p : Nat) (v : PtpView) : Bool :=
  if v.transport = 0 then v.da == (portCfg s p).mac
  else (svcEntry s p (v.transport == 2) v.da v.dst (tciOf v.tags)).isSome

/-- The binding whose PTP address a frame is at (R284, R312). -/
def bindingFor (s : State) (p : Nat) (v : PtpView) : Option BindCfg :=
  if fldBE v.msg 1 1 % 16 ≠ 2 then none
  else s.work.binds.find? fun b =>
    b.port == p && b.transport == v.transport && (match instCfg s b.inst with | some c => c.domain == msgDomain v.msg | none => false) &&
    (atGroup b v || atUnicast s p v)

/-- The frame is at a PTP address, whatever is bound (R284 row 5). -/
def atPtpAddress (s : State) (p : Nat) (v : PtpView) : Bool :=
  atUnicast s p v ||
  (match v.transport with
   | 0 => v.da == 0x011B19000000 || v.da == 0x0180C200000E
   | 1 => v.dst == 0xE0000181 || v.dst == 0xE000006B
   | _ => v.dst == 0xFF02 * 2 ^ 112 + 0x6B || (decide (v.dst % 2 ^ 112 = 0x181) && v.dst / 2 ^ 116 == 0xFF0))

/-- Where a message goes: the binding's group, or one neighbour. -/
inductive PtpDest where
  | group
  | one (mac ip : Nat) (tags : Bytes)
  deriving DecidableEq, Repr

/-- The frame of a message on a binding (R312). -/
def ptpFrame (s : State) (b : BindCfg) (d : PtpDest) (mtype : Nat) (msg : Bytes) : Bytes :=
  let (gm, gi) := groupOf b.transport b.ipv6Scope (bit b.flags 2) mtype
  let (mac, ip, tags) := match d with | .group => (gm, gi, []) | .one m a t => (m, a, t)
  let my := (portCfg s b.port).mac
  if b.transport = 0 then ethFrame mac my tags 0x88F7 msg
  else
    let v6 := b.transport == 2
    let port := if mtype < 8 then 319 else 320
    udpFrame mac my tags { v6, src := svcAddrOf s b.port v6, dst := ip, tclass := 0, sport := port, dport := port, payload := msg }

/-- Bytes of such a frame with its FCS. -/
def ptpFrameLen (transport tags msgLen : Nat) : Nat :=
  max 60 (14 + tags + (match transport with | 0 => 0 | 1 => 28 | _ => 48) + msgLen) + 4

/-! ### Accuracy, datasets (R316 to R319) -/

/-- The limits of the clockAccuracy codes from 0x17 on, in ps (R318). -/
def accLimits : List Nat :=
  [1, 3, 10, 25, 100, 250, 1000, 2500, 10000, 25000, 100000, 250000, 1000000, 2500000, 10000000, 25000000, 100000000, 250000000,
   1000000000, 2500000000, 10000000000, 25000000000, 100000000000, 250000000000, 1000000000000, 10000000000000]

/-- The limit of a code in 2⁻⁸ ps; none is unbounded (R318). 0x18 stands for 2.5 ps. -/
def accLimit (code : Nat) : Option Nat :=
  if code = 0x18 then some 640
  else if 0x17 ≤ code ∧ code ≤ 0x30 then some (accLimits.getD (code - 0x17) 0 * 256)
  else none

/-- The smallest code whose limit is at least a bound (R318). -/
def accCode (b : Option Nat) : Nat :=
  match b with
  | none => 0xFE
  | some v =>
    match (List.range 26).find? (fun k => match accLimit (0x17 + k) with | some l => decide (v ≤ l) | none => false) with
    | some k => 0x17 + k
    | none => 0xFE

/-- The entry of ACCURACY_TABLE for a clockClass (R318, R343). -/
def accEntry (c : PtpCfg) (cls : Nat) : Nat :=
  match ([6, 7, 140, 150, 160, 248] : List Nat).findIdx? (· == cls) with
  | some k => c.accuracyTable.getD k 0
  | none => 0xFE

/-- clockAccuracy carried with a clockClass, at an instant, on a port (R318). -/
def accuracyNow (s : State) (c : PtpCfg) (p ps cls : Nat) : Nat :=
  if accTableOn c then accEntry c cls else accCode (servedBound s p ps)

/-- timeSource of the own dataset (R319). -/
def timeSourceNow (s : State) : Nat :=
  match (tdpll s).state with
  | .holdover => if s.work.hold.atomic then 0x10 else 0xA0
  | .freeRun => if s.time.hostSet then 0x60 else 0xA0
  | _ =>
    match tSelected s with
    | none => 0xA0
    | some o =>
      match kindOf o with
      | .gnss => 0x20
      | .ptp => 0x40
      | .refin => if (refCfg s o).mode = 0 then 0x90 else 0x39
      | _ => 0x90

/-- leap61, leap59, currentUtcOffsetValid and ptpTimescale as flag bits (R319). -/
def utcFlags (s : State) : Nat :=
  let near := match s.time.future.filter (fun e => decide (e.leapTai > s.time.counter.sec)) with
    | e :: _ =>
      if e.leapTai > s.time.counter.sec + 86400 then 0
      else if e.newOffset = offsetNow s + 1 then 1 else if e.newOffset = offsetNow s - 1 then 2 else 0
    | [] => 0
  near + (if s.time.utcConfirmed then 4 else 0) + 8

/-- clockClass of the local dataset D0 (R316). -/
def d0Class (s : State) (c : PtpCfg) : Nat :=
  let isPtp := fun (o : Option Nat) => match o with | some k => kindOf k == SrcKind.ptp | none => false
  let st := (tdpll s).state
  if slaveOnly c then 255
  else if isPtp (tSelected s) then 248
  else if (st == .holdover || st == .returning || st == .acquiring) && isPtp (nth s.sels 0).lastOrd then 248
  else classOf s

/-- The instance forwards the parent's dataset (R317). -/
def forwards (s : State) (i : Nat) : Bool :=
  (instRun s i).tracking && tSelected s == some (29 + i) && (tdpll s).state == .locked &&
  (match (instRun s i).parent with | some (p, _) => (bindRun s i p).state == .slave | none => false)

/-- The Announce of an instance on a port for a launch instant (R317, R318, R319). -/
def announceOf (s : State) (i : Nat) (c : PtpCfg) (p ps : Nat) : Announce :=
  match forwards s i, (instRun s i).parent with
  | true, some (_, a) =>
    { a with gmAccuracy := accuracyNow s c p ps a.gmClass, stepsRemoved := a.stepsRemoved + 1, utcOffset := offsetNow s
             flags := utcFlags s + a.flags / 16 % 4 * 16, path := a.path ++ [c.clockId] }
  | _, _ =>
    let cls := classOf s
    let tr := (tdpll s).state == .locked && (cls == 6 || cls == 7)
    { gmPriority1 := c.priority1, gmClass := cls, gmAccuracy := accuracyNow s c p ps cls
      gmVariance := if cls = 6 then c.variance else 0xFFFF
      gmPriority2 := c.priority2, gmIdentity := c.clockId, stepsRemoved := 0, timeSource := timeSourceNow s, utcOffset := offsetNow s
      flags := utcFlags s + (if tr then 0x30 else 0), path := [c.clockId] }

/-- The body of an Announce. -/
def announceBody (a : Announce) : Bytes :=
  zeros 10 ++ beBytes 2 (ofSigned 16 a.utcOffset) ++ [0#8] ++ beBytes 1 a.gmPriority1 ++ beBytes 1 a.gmClass ++ beBytes 1 a.gmAccuracy ++
  beBytes 2 a.gmVariance ++ beBytes 1 a.gmPriority2 ++ beBytes 8 a.gmIdentity ++ beBytes 2 a.stepsRemoved ++ beBytes 1 a.timeSource

/-- What a received Announce says. -/
def announceIn (m : Bytes) : Announce :=
  { source := msgSource m, gmPriority1 := fldBE m 47 1, gmClass := fldBE m 48 1, gmAccuracy := fldBE m 49 1, gmVariance := fldBE m 50 2
    gmPriority2 := fldBE m 52 1, gmIdentity := fldBE m 53 8, stepsRemoved := fldBE m 61 2, timeSource := fldBE m 63 1
    utcOffset := toSigned 16 (fldBE m 44 2), flags := msgFlags m
    path := match (tlvsOf m).find? (fun t => t.1 == 8) with
      | some t => (List.range (t.2.2.length / 8)).map fun k => fldBE t.2.2 (8 * k) 8
      | none => [] }

/-! ### BMCA (R316) -/

/-- What the BMCA compares: the Announce, localPriority, and the receiving port number. -/
structure Rank where
  ann : Announce
  localPriority : Nat
  port : Nat
  deriving DecidableEq, Repr, Inhabited

/-- Lexicographic comparison of attributes: the first that differ decide. -/
def lexLt : List Nat → List Nat → Bool
  | a :: as, b :: bs => if a < b then true else if b < a then false else lexLt as bs
  | _, _ => false

def alternateBmca (c : PtpCfg) : Bool := c.profile == 2 || c.profile == 3

def rankKey1 (c : PtpCfg) (a : Rank) : List Nat :=
  if alternateBmca c then [a.ann.gmClass, a.ann.gmAccuracy, a.ann.gmVariance, a.ann.gmPriority2, a.localPriority]
  else [a.ann.gmPriority1, a.ann.gmClass, a.ann.gmAccuracy, a.ann.gmVariance, a.ann.gmPriority2, a.ann.gmIdentity]

/-- The comparison by path: steps, source, receiving port. -/
def rankKey2 (a : Rank) : List Nat := [a.ann.stepsRemoved, a.ann.source, a.port]

/-- Two datasets are compared by path (IEEE 1588-2019 9.3.4; ITU-T G.8275.1 6.3.7). -/
def byPath (c : PtpCfg) (a b : Rank) : Bool :=
  if alternateBmca c then rankKey1 c a == rankKey1 c b && (decide (a.ann.gmClass ≤ 127) || a.ann.gmIdentity == b.ann.gmIdentity)
  else a.ann.gmIdentity == b.ann.gmIdentity

/-- The first dataset is better than the second. -/
def better (c : PtpCfg) (a b : Rank) : Bool :=
  if byPath c a b then lexLt (rankKey2 a) (rankKey2 b)
  else lexLt (rankKey1 c a ++ [a.ann.gmIdentity]) (rankKey1 c b ++ [b.ann.gmIdentity])

/-- The first dataset is better by topology only. -/
def betterByTopology (c : PtpCfg) (a b : Rank) : Bool :=
  byPath c a b && better c a b &&
  (a.ann.stepsRemoved == b.ann.stepsRemoved ||
   (a.ann.stepsRemoved + 1 == b.ann.stepsRemoved && decide (c.clockId > b.ann.source / 65536)))

def bestOf (c : PtpCfg) (l : List Rank) : Option Rank :=
  l.foldl (fun m a => match m with | none => some a | some b => if better c a b then some a else some b) none

/-- A foreign master has sent 2 Announces within 4 of its intervals (R316). -/
def foreignOk (s : State) (f : Foreign) : Bool :=
  match f.times with
  | _ :: b :: _ => decide (b + 4 * logPs f.logInterval ≥ s.now)
  | _ => false

/-- The best qualified foreign master of a binding. -/
def portBest (s : State) (i : Nat) (c : PtpCfg) (p : Nat) : Option Rank :=
  bestOf c (((bindRun s i p).foreign.filter (foreignOk s)).map fun f => { ann := f.ann, localPriority := f.localPriority, port := p })

/-- D0 as a rank. -/
def d0Rank (s : State) (c : PtpCfg) (p : Nat) : Rank :=
  let cls := d0Class s c
  { ann := { source := c.clockId * 65536, gmPriority1 := c.priority1, gmClass := cls, gmAccuracy := accuracyNow s c p s.now cls
             gmVariance := if cls = 6 then c.variance else 0xFFFF, gmPriority2 := c.priority2, gmIdentity := c.clockId }
    localPriority := c.localPriority, port := 0 }

/-- Bindings of an instance in ascending port order. -/
def bindsOf (s : State) (i : Nat) : List BindCfg :=
  sortBy (fun a b => decide (a.port < b.port)) (s.work.binds.filter (fun b => b.inst == i))

/-- What the BMCA decides for a binding: MASTER, PASSIVE, or SLAVE (IEEE 1588-2019 9.3.3). -/
def decideState (c : PtpCfg) (d0 : Rank) (eb er : Option Rank) (p : Nat) : PtpState :=
  if c.profile ≠ 4 ∧ 1 ≤ d0.ann.gmClass ∧ d0.ann.gmClass ≤ 127 then
    match er with
    | none => .master
    | some r => if better c d0 r then .master else .passive
  else match eb with
  | none => .master
  | some e =>
    if better c d0 e then .master
    else if e.port = p then .slave
    else match er with
    | none => .master
    | some r => if betterByTopology c e r then .passive else .master

/-- The decision as the roles and port modes of an instance allow it (R315). -/
def allowState (c : PtpCfg) (b : BindCfg) (st : PtpState) : PtpState :=
  if b.portMode = 1 then .master
  else if (slaveOnly c || b.portMode == 2) && (st == .master || st == .passive) then .listening
  else st

/-- A bound port changes its PTP state (R341). -/
def setBindState (i p : Nat) (st : PtpState) (s : State) : State :=
  if (bindRun s i p).state = st then s else raiseIdx 10 0 i (updBind i p (fun b => { b with state := st }) s)

/-- The source of an instance. -/
def ptpOrd (i : Nat) : Nat := 29 + i

/-- The instance's source fails or passes SOURCE_HEALTH with its tracking (R118, R325). -/
def ptpHealth (i : Nat) (ok : Bool) (s : State) : State :=
  let s := updRef (ptpOrd i) (fun r => { r with healthOk := ok }) s
  if ok then s else evalAll (setCheck (ptpOrd i) cHealth true s)

/-- Tracking ends: the history of path delays is cleared (R326). -/
def dropTracking (i p : Nat) (s : State) : State :=
  let s := updInst i (fun r => { r with tracking := false }) s
  ptpHealth i false (updBind i p (fun b => { b with
    delays := [], goodSamples := 0, sync := none, later := [], follow := none, lastSync := none, request := none, pdelay := none }) s)

/-- Loss of the master (R326). -/
def loseMaster (i p : Nat) (s : State) : State :=
  raiseIdx 10 2 i (dropTracking i p (updInst i (fun r => { r with parent := none }) s))

/-! ### Signaling as a client (R333) -/

/-- A Signaling message waits for admission 2,000 ns before its instant (R297, R333). -/
def presentSignal (i p mac ip : Nat) (tags tlvs : Bytes) (s : State) : State :=
  let auth := match instCfg s i with | some c => txAuth s c | none => 0
  let tr := match bindCfg s i p with | some b => b.transport | none => 1
  let extra := match instCfg s i with | some c => sealLen s c | none => 0
  let q : Request := { id := s.svc.nextId, port := p, prio := (portCfg s p).defaultPrio, suit := .hearts, kind := .ptpScheduled
                       work := .signal i p mac ip tags, frame := tlvs, tIn := s.now + 2000000, tV := s.now, inst := i, annexP := auth
                       respLen := ptpFrameLen tr tags.length (44 + tlvs.length + extra) }
  { s with svc := { s.svc with waiting := s.svc.waiting ++ [q], nextId := s.svc.nextId + 1 } }

def requestTlv (mtype : Nat) (log : Int) (dur : Nat) : Bytes :=
  beBytes 2 4 ++ beBytes 2 6 ++ beBytes 1 (mtype * 16) ++ beBytes 1 (ofSigned 8 log) ++ beBytes 4 dur
def grantTlv (mtype : Nat) (log : Nat) (dur : Nat) : Bytes :=
  beBytes 2 5 ++ beBytes 2 8 ++ beBytes 1 (mtype * 16) ++ beBytes 1 log ++ beBytes 4 dur ++ [0#8, 1#8]
def cancelTlv (mtype : Nat) : Bytes := beBytes 2 6 ++ beBytes 2 2 ++ beBytes 1 (mtype * 16) ++ [0#8]
def ackTlv (mtype : Nat) : Bytes := beBytes 2 7 ++ beBytes 2 2 ++ beBytes 1 (mtype * 16) ++ [0#8]

/-- The MAC address of an upstream: the spec gives no way to learn it, so it is a free value. -/
def upstreamMac (s : State) : Nat × State := (freeVal s % 2 ^ 48, useFree s)

/-- A client asks an upstream for a grant of one type (R333). -/
def askUpstream (i p k mtype : Nat) (s : State) : State :=
  match bindCfg s i p with
  | none => s
  | some b =>
    let log := if mtype = mAnnounce then b.upLogAnnounce else if mtype = mSync then b.upLogSync else b.upLogDelay
    let (mac, s) := upstreamMac s
    let s := updPtp (fun n => { n with upGrants := n.upGrants.map fun g =>
      if g.inst = i ∧ g.port = p ∧ g.upstream = k ∧ g.mtype = mtype then { g with renewAt := none } else g }) s
    presentSignal i p mac (nth b.upstreams k).addr [] (requestTlv mtype log b.upDuration) s

/-- The upstream of an address. -/
def upstreamOf (b : BindCfg) (addr : Nat) : Option Nat := b.upstreams.findIdx? (fun u => u.addr == addr)

/-- A client's parent changes: the former parent's Sync and Delay_Resp grants are cancelled, the new parent is asked (R333). -/
def clientParent (i p : Nat) (addr : Option Nat) (s : State) : State :=
  match bindCfg s i p with
  | none => s
  | some b =>
    if !unicastClient b then s
    else
      let k := addr.bind (upstreamOf b)
      let mine := fun (g : UpGrant) => g.inst == i && g.port == p && g.mtype != mAnnounce
      let old := s.ptp.upGrants.filter (fun g => mine g && some g.upstream != k)
      let s := old.foldl (fun s g =>
        if g.granted then
          let (mac, s) := upstreamMac s
          presentSignal i p mac (nth b.upstreams g.upstream).addr [] (cancelTlv g.mtype) s
        else s) s
      let s := updPtp (fun n => { n with upGrants := n.upGrants.filter (fun g => !(mine g && some g.upstream != k)) }) s
      match k with
      | none => s
      | some k =>
        if s.ptp.upGrants.any (fun g => mine g && g.upstream == k) then s
        else
          let s := updPtp (fun n => { n with upGrants := n.upGrants ++
            [{ inst := i, port := p, upstream := k, mtype := mSync }, { inst := i, port := p, upstream := k, mtype := mDelayResp }] }) s
          askUpstream i p k mDelayResp (askUpstream i p k mSync s)

/-- The source address of a binding's foreign master. -/
def foreignAddr (s : State) (i p src : Nat) : Option Nat :=
  ((bindRun s i p).foreign.find? (fun f => f.ann.source == src)).map (·.addr)

/-- A new parent, or none, as the BMCA decides (R326). -/
def takeParent (i : Nat) (new : Option (Nat × Announce)) (s : State) : State :=
  match (instRun s i).parent, new with
  | none, none => s
  | none, some (p, a) =>
    let s := raiseIdx 10 1 i (updInst i (fun r => { r with parent := some (p, a) }) s)
    clientParent i p (foreignAddr s i p a.source) (setBindState i p .uncalibrated s)
  | some (p, _), none =>
    let was := (instRun s i).tracking
    let s := clientParent i p none (dropTracking i p (updInst i (fun r => { r with parent := none }) s))
    if was then raiseIdx 10 2 i s else s
  | some (p, a), some (p', b) =>
    let moved := p != p' || a.source != b.source
    let changed := moved || a.gmIdentity != b.gmIdentity || decide ((a.stepsRemoved : Int) - b.stepsRemoved > 1) ||
      decide ((b.stepsRemoved : Int) - a.stepsRemoved > 1)
    let s := updInst i (fun r => { r with parent := some (p', b) }) s
    if !changed then s
    else
      let s := raiseIdx 10 1 i (dropTracking i p s)
      let s := if p != p' then clientParent i p none (dropTracking i p' s) else s
      clientParent i p' (foreignAddr s i p' b.source) (setBindState i p' .uncalibrated s)

/-- The BMCA of an instance; `expired` is a port whose receipt timeout has passed (R316). -/
def runBmca (i : Nat) (expired : Option Nat) (s : State) : State :=
  match instCfg s i with
  | none => s
  | some c =>
    if c.role = 0 then s
    else
      let bs := bindsOf s i
      let er := fun (p : Nat) => portBest s i c p
      let eb := bestOf c ((bs.filter (fun b => b.portMode != 1)).filterMap fun b => er b.port)
      let pick := fun (b : BindCfg) =>
        let cur := (bindRun s i b.port).state
        if cur = .initializing ∨ cur = .disabled ∨ cur = .faulty then cur
        else if cur = .listening ∧ (er b.port).isNone ∧ expired ≠ some b.port ∧ b.portMode ≠ 1 then cur
        else allowState c b (decideState c (d0Rank s c b.port) eb (er b.port) b.port)
      let slave := (bs.filter (fun b => pick b == .slave)).head?
      let new := match slave, eb with | some b, some e => some (b.port, e.ann) | _, _ => none
      let s := bs.foldl (fun s b =>
        match pick b with
        | .slave => if slave = some b then s else setBindState i b.port .passive s
        | st => setBindState i b.port st s) s
      let s := takeParent i new s
      match new with
      | some (p, _) =>
        let st := (bindRun s i p).state
        if st == .slave || st == .uncalibrated then s else setBindState i p .uncalibrated s
      | none => s

/-- A binding starts: MASTER on a GRANDMASTER, otherwise LISTENING (R315, R316). -/
def startBind (i p : Nat) (s : State) : State :=
  match instCfg s i, bindCfg s i p with
  | some c, some b =>
    if (portOf s p).state != .up || (bindRun s i p).state != .initializing then s
    else
      let s := updBind i p (fun r => { r with announceAt := s.now }) s
      let s := setBindState i p (if c.role = 0 || b.portMode = 1 then .master else .listening) s
      if unicastClient b && c.role != 0 && b.portMode != 1 then
        updPtp (fun n => { n with upGrants := n.upGrants.filter (fun g => !(g.inst == i && g.port == p)) ++
          (List.range b.upstreams.length).map fun k =>
            { inst := i, port := p, upstream := k, mtype := mAnnounce, renewAt := some s.now } }) s
      else s
  | _, _ => s

/-- The bindings of a port start when it reaches UP (R311). -/
def startPort (p : Nat) (s : State) : State := (s.work.binds.filter (fun b => b.port == p)).foldl (fun s b => startBind b.inst p s) s

/-! ### Tracking (R323 to R327) -/

/-- mean_path_delay of a binding; none while it is not valid (R324). -/
def meanDelay (s : State) (i p : Nat) : Option Int :=
  let l := (bindRun s i p).delays
  if l.isEmpty then none else some (roundDivI (l.foldl (· + ·) 0) l.length)

/-- The interval of delay requests of a binding, log₂ s: as granted, as announced, or as configured. -/
def delayLogOf (s : State) (i p : Nat) : Int :=
  match bindCfg s i p, instCfg s i with
  | some b, some c => if unicastClient b then b.upLogDelay else c.logDelay
  | _, _ => 0

/-- A complete exchange delay is taken, or discarded below 0 or above 10 ms (R324). -/
def addDelay (i p : Nat) (d : Int) (s : State) : State :=
  if d < 0 ∨ d > 655360000000 then s
  else
    let n := match instCfg s i with | some c => c.delayAvg | none => 1
    updBind i p (fun b => { b with delays := (d :: b.delays).take n, delayAt := s.now, asCapable := decide (d ≤ 52428800) }) s

/-- The BOUND of a message's TLV in ps, when the instance trusts it (R327). -/
def trustedBound (c : PtpCfg) (m : Bytes) (authed : Bool) : Option Nat :=
  if trustTlv c && (c.authMode != 2 || authed) then tlvBound m else none

/-- The claimed uncertainty of a sample in ps, and whether it came from a TLV (R327). -/
def sampleUnc (s : State) (i : Nat) (tlv : Option Nat) : Nat × Bool :=
  match tlv with
  | some b => (b, true)
  | none =>
    match (instRun s i).parent with
    | some (_, a) => (boundPs (accLimit a.gmAccuracy), false)
    | none => (unboundedPs, false)

/-- The parent's latest Announce has ptpTimescale TRUE, or FREQ_ONLY is set (R325). -/
def parentScale (s : State) (i : Nat) (c : PtpCfg) : Bool :=
  match (instRun s i).parent with
  | some (_, a) => bit a.flags 3 || freqOnlyInst c
  | none => false

/-- One complete Sync: the sample goes to the instance's source (R323, R325, R327). -/
def ptpSample (i p : Nat) (c : PtpCfg) (t1c : Int) (w : SyncWait) (unc : Nat × Bool) (s : State) : State :=
  let asym := match bindCfg s i p with | some b => b.asymmetry | none => 0
  let mpd := meanDelay s i p
  let ok := mpd.isSome && !freqOnlyInst c
  let j := satOffset (t1c + mpd.getD 0 + asym - w.stamp)
  let s := updBind i p (fun b => { b with
    lastSync := some (t1c + asym, w.stamp, w.epoch)
    goodSamples := if ok || freqOnlyInst c then b.goodSamples + 1 else 0 }) s
  let s := if (bindRun s i p).state == .uncalibrated && decide ((bindRun s i p).goodSamples ≥ 8) then
      setBindState i p .slave s else s
  let track := (bindRun s i p).state == .slave && parentScale s i c
  let gained := track && !(instRun s i).tracking
  let s := updInst i (fun r => { r with
    tracking := track, lastOffset := j, unc := unc.1, uncFromTlv := unc.2, samples := (r.samples + 1) % 2 ^ 32, sampleAt := s.now }) s
  let s := if gained then raiseIdx 10 3 i s else s
  let log := (bindRun s i p).syncLog
  let o := ptpOrd i
  let s := updRef o (fun r => { r with healthOk := track, rank := match (instRun s i).parent with | some (_, a) => a.gmClass | none => 0 }) s
  let (pn, pd) : Nat × Nat := if log < 0 then (secPs, 2 ^ log.natAbs) else (secPs * 2 ^ log.natAbs, 1)
  let s := deliver o { stamp := w.stamp, offset := j, phaseOk := ok, unc := unc.1, stampUnc := (portUnc s p).getD 0
                       pathDelay := mpd.getD 0, period := pn / pd, perNum := pn, perDen := pd, ep := some w.epoch, lag := s.now - w.ps } false s
  updInst i (fun r => { r with upstreamFreq := if (refOf s o).freqValid then freqVsCounter (refOf s o) else r.upstreamFreq }) s

/-- The port takes Sync and Announce of this instance: a GPTP port only while it is asCapable (R322). -/
def takesPtp (s : State) (i p : Nat) (c : PtpCfg) : Bool := c.profile != 4 || (bindRun s i p).asCapable

/-- A Sync waits for its Follow_Up behind those that wait already (R323). -/
def waitSync (i p : Nat) (w : SyncWait) (s : State) : State :=
  updBind i p (fun b => if b.sync.isNone then { b with sync := some w } else { b with later := b.later ++ [w] }) s

/-- The Syncs of a binding that wait for their Follow_Ups, oldest first. -/
def waitingSyncs (b : BindRun) : List SyncWait := b.sync.toList ++ b.later

/-- A Sync waits no longer. -/
def unwait (seq : Nat) (b : BindRun) : BindRun :=
  let l := (waitingSyncs b).filter fun w => w.seq != seq
  { b with sync := l.head?, later := l.tail }

/-- A Sync of the parent (R323). -/
def takeSync (q : Request) (c : PtpCfg) (m : Bytes) (authed : Bool) (s : State) : State :=
  let i := q.inst
  let p := q.port
  let st := (bindRun s i p).state
  match (instRun s i).parent with
  | none => s
  | some (pp, a) =>
    if pp ≠ p ∨ a.source ≠ msgSource m ∨ !(st == .slave || st == .uncalibrated) then s
    else
      let log := if msgLog m = 0x7F then (match bindCfg s i p with | some b => b.upLogSync | none => 0) else msgLog m
      let s := updBind i p (fun b => { b with syncLog := log }) s
      let w : SyncWait := { seq := msgSeq m, stamp := q.stamp, epoch := q.epoch, correction := msgCorr m, ps := q.tIn
                            deadline := q.tIn + min (logPs log) secPs, bound := trustedBound c m authed }
      if !bit (msgFlags m) 9 then ptpSample i p c ((ts80Of m 34 : Nat) + msgCorr m) w (sampleUnc s i w.bound) s
      else match (bindRun s i p).follow with
      | some f =>
        if f.seq = w.seq then
          ptpSample i p c (f.t1c + w.correction) w (sampleUnc s i (w.bound <|> f.bound)) (updBind i p (fun b => { b with follow := none }) s)
        else waitSync i p w s
      | none => waitSync i p w s

/-- A Follow_Up of the parent's waiting Sync (R323). -/
def takeFollowUp (q : Request) (c : PtpCfg) (m : Bytes) (authed : Bool) (s : State) : State :=
  match (instRun s q.inst).parent with
  | none => s
  | some (pp, a) =>
    if pp ≠ q.port ∨ a.source ≠ msgSource m then s
    else
      let t1c : Int := (ts80Of m 34 : Nat) + msgCorr m
      match (waitingSyncs (bindRun s q.inst q.port)).find? (fun w => w.seq == msgSeq m) with
      | some w =>
        ptpSample q.inst q.port c (t1c + w.correction) w (sampleUnc s q.inst (w.bound <|> trustedBound c m authed))
          (updBind q.inst q.port (unwait w.seq) s)
      | none => updBind q.inst q.port (fun b => { b with follow := some { seq := msgSeq m, t1c, bound := trustedBound c m authed } }) s

/-- A Delay_Resp for the port's own request (R324). -/
def takeDelayResp (q : Request) (c : PtpCfg) (m : Bytes) (s : State) : State :=
  match (bindRun s q.inst q.port).request, (bindRun s q.inst q.port).lastSync with
  | some (seq, t3, e3), some (t1c, t2, e2) =>
    if seq ≠ msgSeq m ∨ fldBE m 44 8 ≠ c.clockId ∨ fldBE m 52 2 ≠ q.port + 1 then s
    else
      let s := updBind q.inst q.port (fun b => { b with request := none }) s
      if e3 ≠ e2 then s
      else addDelay q.inst q.port (roundDivI (((t2 : Int) - t1c) + ((ts80Of m 34 : Nat) - (t3 : Int) - msgCorr m)) 2) s
  | _, _ => s

/-- A Pdelay_Resp for the port's own request (R324). -/
def takePdelayResp (q : Request) (c : PtpCfg) (m : Bytes) (s : State) : State :=
  match (bindRun s q.inst q.port).request with
  | some (seq, t1, e1) =>
    if seq ≠ msgSeq m ∨ fldBE m 44 8 ≠ c.clockId ∨ fldBE m 52 2 ≠ q.port + 1 then s
    else if e1 ≠ q.epoch then updBind q.inst q.port (fun b => { b with request := none }) s
    else
      let asym := match bindCfg s q.inst q.port with | some b => b.asymmetry | none => 0
      let corr := msgCorr m + asym
      if bit (msgFlags m) 9 then
        updBind q.inst q.port (fun b => { b with pdelay := some (seq, ((ts80Of m 34 : Nat) : Int) - corr, q.stamp) }) s
      else
        addDelay q.inst q.port (roundDivI ((q.stamp : Int) - t1 - corr) 2) (updBind q.inst q.port (fun b => { b with request := none }) s)
  | none => s

/-- A Pdelay_Resp_Follow_Up (R324). -/
def takePdelayFu (q : Request) (c : PtpCfg) (m : Bytes) (s : State) : State :=
  match (bindRun s q.inst q.port).request, (bindRun s q.inst q.port).pdelay with
  | some (_, t1, _), some (seq, t2, t4) =>
    if seq ≠ msgSeq m ∨ fldBE m 44 8 ≠ c.clockId ∨ fldBE m 52 2 ≠ q.port + 1 then s
    else
      addDelay q.inst q.port (roundDivI ((t4 : Int) - t1 - ((ts80Of m 34 : Nat) - t2) - msgCorr m) 2)
        (updBind q.inst q.port (fun b => { b with request := none, pdelay := none }) s)
  | _, _ => s

/-- UTC information of the parent's Announce, when the instance is the T-DPLL's qualified selection (R54). -/
def ptpLeapNews (s : State) (a : Announce) : LeapNews :=
  let midnight : Int := ((s.time.counter.sec : Int) - offsetNow s) / 86400 * 86400 + 86400
  let leap := fun (off : Int) => some ((midnight + off).toNat, off)
  { offset := if bit a.flags 2 then some a.utcOffset else none
    leap := if bit a.flags 0 then leap (offsetNow s + 1) else if bit a.flags 1 then leap (offsetNow s - 1) else none
    source := .ptp }

/-- The parent's latest Announce decides whether the instance tracks (R325). -/
def trackAnnounce (i p : Nat) (c : PtpCfg) (s : State) : State :=
  let r := instRun s i
  let fresh := (bindRun s i p).lastSync.isSome && decide (s.now < r.sampleAt + 3 * logPs (bindRun s i p).syncLog)
  let track := (bindRun s i p).state == .slave && fresh && parentScale s i c
  if track = r.tracking then s
  else
    let s := ptpHealth i track (updInst i (fun r => { r with tracking := track }) s)
    if track then raiseIdx 10 3 i s else s

/-- An Announce (R316, R326). -/
def takeAnnounce (q : Request) (c : PtpCfg) (m : Bytes) (src : Nat) (s : State) : State :=
  let i := q.inst
  let p := q.port
  let a := announceIn m
  match bindCfg s i p with
  | none => s
  | some b =>
    if c.role = 0 ∨ b.portMode = 1 ∨ a.source / 65536 = c.clockId ∨ a.stepsRemoved ≥ 255 ∨ bit a.flags 8 then s
    else
      let log := if msgLog m = 0x7F then b.upLogAnnounce else msgLog m
      let lp := match if unicastClient b then upstreamOf b src else none with
        | some k => (nth b.upstreams k).localPriority
        | none => b.localPriority
      let s := updBind i p (fun r =>
        let old := r.foreign.find? (fun f => f.ann.source == a.source)
        let f : Foreign := { ann := a, localPriority := lp, addr := src, logInterval := log
                             times := s.now :: (match old with | some o => o.times.take 3 | none => []) }
        { r with foreign := r.foreign.filter (fun f => f.ann.source != a.source) ++ [f]
                 announceAt := match (instRun s i).parent with
                   | some (pp, x) => if pp = p ∧ x.source ≠ a.source then r.announceAt else s.now
                   | none => s.now }) s
      let s := runBmca i none s
      match (instRun s i).parent with
      | some (pp, x) =>
        if pp = p ∧ x.source = a.source then
          let s := trackAnnounce i p c (updRef (ptpOrd i) (fun r => { r with rank := a.gmClass }) s)
          let s := evalAll (setCheck (ptpOrd i) cHealth (healthFails s (ptpOrd i)) s)
          if tSelected s == some (ptpOrd i) && (refOf s (ptpOrd i)).state == .qualified then takeLeapNews (ptpLeapNews s a) s else s
        else s
      | none => s

/-! ### Grants (R328 to R332) -/

/-- Raw time in ms (R138, R329). -/
def rawMs (s : State) : Nat := s.now / msPs

/-- The grant of an address for a type. -/
def findGrant (s : State) (i : Nat) (v6 : Bool) (addr mtype : Nat) : Option (Nat × Grant) :=
  s.ptp.grants.find? (fun e => e.2.inst == i && e.2.v6 == v6 && e.2.addr == addr && e.2.mtype == mtype)

/-- The first number that no key of a table holds. -/
def freeKey {β : Type} : Nat → List (Nat × β) → Nat
  | k, [] => k
  | k, (k', _) :: r => if k = k' then freeKey (k + 1) r else k

/-- The grant table's entry of a key, as the Declarer forwards it with the neighbour that it names (R408). -/
def forwardGrant (k : Nat) (s : State) : State :=
  let g := getKey k s.ptp.grants
  let s := match g with
    | some g => forward (.neighbour g.neighbour (getKey g.neighbour s.ptp.neighbours)) s
    | none => s
  forward (.grant k g) s

/-- A neighbour that no grant names is freed (R328). -/
def freeNeighbours (s : State) : State :=
  updPtp (fun n => { n with neighbours := n.neighbours.filter fun e => n.grants.any fun g => g.2.neighbour == e.1 }) s

def dropGrant (k : Nat) (s : State) : State :=
  forwardGrant k (freeNeighbours (updPtp (fun n => { n with grants := delKey k n.grants }) s))

/-- A rate of 2^−log in units of 2⁻¹⁶ per second. -/
def rateUnits (log : Int) : Nat := 2 ^ ((16 : Int) - log).toNat

/-- The granted rate of a binding in units of 2⁻¹⁶ per second, without one grant (R330). -/
def grantedRate (s : State) (i p : Nat) (without : Option Nat) : Nat :=
  s.ptp.grants.foldl (fun a e => if e.2.inst = i ∧ e.2.port = p ∧ some e.1 ≠ without then a + rateUnits e.2.logInterval else a) 0

/-- An interval of log₂ s in units of 8 ns. -/
def logUnits (l : Int) : Nat := logPs l / 8000

/-- PHASE and SEQ_BASE of a new grant: the phase is the Carko's choice, a free value; the first instant has sequenceId 0 (R330). -/
def freshPhase (s : State) (log : Int) (mtype : Nat) : Nat × Nat × State :=
  if mtype = mDelayResp then (0, 0, s)
  else
    let ph := freeVal s % logUnits log
    let t := (curTs s : Int) - (ph * 524288 : Nat)
    let step : Int := (logUnits log * 524288 : Nat)
    (ph, ((65536 - (t / step + 1) % 65536) % 65536).toNat, useFree s)

/-- The range of an interval for a message type (R330, R343). -/
def logRange (c : PtpCfg) (mtype : Nat) : Int × Int :=
  if mtype = mSync then (c.minLogSync, c.maxLogSync) else if mtype = mAnnounce then (c.minLogAnnounce, c.maxLogAnnounce)
  else (c.minLogDelay, c.maxLogDelay)

/-- A grant is denied (R330). -/
def denyGrant (i p mtype log : Nat) (full : Bool) (s : State) : Bytes × State :=
  let s := raise 10 4 (updBind i p (fun b => { b with grantsDenied := (b.grantsDenied + 1) % 2 ^ 32 }) s)
  (grantTlv mtype log 0, if full then raise 10 5 s else s)

/-- One REQUEST_UNICAST_TRANSMISSION TLV is answered (R330). -/
def grantRequest (q : Request) (c : PtpCfg) (b : BindCfg) (v : PtpView) (t : Bytes) (s : State) : Bytes × State :=
  let i := q.inst
  let p := q.port
  let mtype := fldBE t 0 1 / 16
  let logB := fldBE t 1 1
  let log := toSigned 8 logB
  let dur := fldBE t 2 4
  let v6 := v.transport == 2
  if !servesUnicast b || !(mtype == mSync || mtype == mAnnounce || mtype == mDelayResp) then denyGrant i p mtype logB false s
  else if log < (logRange c mtype).1 ∨ log > (logRange c mtype).2 then denyGrant i p mtype logB false s
  else
    let old := findGrant s i v6 v.src mtype
    let nb := s.ptp.neighbours.find? (fun e => e.2.port == p && e.2.mac == v.sa && e.2.tags == v.tags)
    let mine := (s.ptp.grants.filter (fun e => e.2.inst == i)).length
    if old.isNone && (decide (s.ptp.grants.length ≥ 1048576) || (c.grantLimit != 0 && decide (mine ≥ c.grantLimit)) ||
        (nb.isNone && decide (s.ptp.neighbours.length ≥ 65536))) then denyGrant i p mtype logB true s
    else if grantedRate s i p (old.map (·.1)) + rateUnits log > b.rateLimit * 65536 then denyGrant i p mtype logB false s
    else
      let give := min dur c.maxDuration
      let full := decide (s.ptp.neighbours.length ≥ 65536)
      let nk := match nb, old with
        | some e, _ => e.1
        | none, some (_, g) => if full then g.neighbour else freeKey 0 s.ptp.neighbours
        | none, none => freeKey 0 s.ptp.neighbours
      let s := if nb.isSome || (full && old.isSome) then s else updPtp (fun n => { n with neighbours := putKey nk { port := p, mac := v.sa, tags := v.tags } n.neighbours }) s
      let expiry := rawMs s + give * 1000
      match old with
      | some (k, g) =>
        let same := g.logInterval == log && g.port == p
        let (ph, sb, s) := if same then (g.phase, g.seqBase, s) else freshPhase s log mtype
        let g := { g with expiry := expiry, phase := ph, seqBase := sb, neighbour := nk, port := p, logInterval := log, cancelSent := false }
        (grantTlv mtype logB give, forwardGrant k (freeNeighbours (updPtp (fun n => { n with grants := putKey k g n.grants }) s)))
      | none =>
        let (ph, sb, s) := freshPhase s log mtype
        let g : Grant := { addr := v.src, v6, expiry, phase := ph, seqBase := sb, neighbour := nk, inst := i, port := p, mtype, logInterval := log }
        let k := freeKey 0 s.ptp.grants
        (grantTlv mtype logB give, bump (64 * 10 + 35) (forwardGrant k (updPtp (fun n => { n with grants := putKey k g n.grants }) s)))

/-- A GRANT TLV answers a client's request (R333). -/
def takeGrant (q : Request) (b : BindCfg) (v : PtpView) (t : Bytes) (s : State) : State :=
  match upstreamOf b v.src with
  | none => s
  | some k =>
    let mtype := fldBE t 0 1 / 16
    let dur := fldBE t 2 4
    let f := fun (g : UpGrant) =>
      if g.inst = q.inst ∧ g.port = q.port ∧ g.upstream = k ∧ g.mtype = mtype then
        (if dur = 0 then { g with granted := false, renewAt := some (s.now + 16 * secPs) }
         else { g with granted := true, renewAt := some (s.now + dur * secPs * 3 / 4) })
      else g
    let s := updPtp (fun n => { n with upGrants := n.upGrants.map f }) s
    if dur = 0 then raiseIdx 10 6 q.inst s else s

/-- One TLV of a Signaling message: the TLV that answers it, and the state (R330, R331, R333). -/
def signalTlv (q : Request) (c : PtpCfg) (b : BindCfg) (v : PtpView) (t : Nat × Nat × Bytes) (s : State) : Bytes × State :=
  let mtype := fldBE t.2.2 0 1 / 16
  let v6 := v.transport == 2
  match t.1 with
  | 4 => grantRequest q c b v t.2.2 s
  | 5 => ([], if unicastClient b then takeGrant q b v t.2.2 s else s)
  | 6 =>
    let s := match findGrant s q.inst v6 v.src mtype with | some (k, _) => dropGrant k s | none => s
    let s := match if unicastClient b then upstreamOf b v.src else none with
      | some k => updPtp (fun n => { n with upGrants := n.upGrants.map fun g =>
          if g.inst = q.inst ∧ g.port = q.port ∧ g.upstream = k ∧ g.mtype = mtype then
            { g with granted := false, renewAt := some (s.now + 16 * secPs) } else g }) s
      | none => s
    (ackTlv mtype, s)
  | 7 => ([], match findGrant s q.inst v6 v.src mtype with | some (k, g) => if g.cancelSent then dropGrant k s else s | none => s)
  | _ => ([], s)

/-- The bytes of the TLVs that answer a Signaling message (R330). -/
def signalAnswerLen (m : Bytes) : Nat :=
  (tlvsOf m).foldl (fun a t => a + (if t.1 = 4 then 12 else if t.1 = 6 then 6 else 0)) 0

/-- The check of a unicast Delay_Req against the grant table, before admission (R332). -/
def delayReqOk (i p : Nat) (v : PtpView) (tIn : Nat) (s : State) : Bool × State :=
  match findGrant s i (v.transport == 2) v.src mDelayResp with
  | none => (false, bump (64 * 10 + 37) (updBind i p (fun b => { b with noGrant := (b.noGrant + 1) % 2 ^ 32 }) s))
  | some (_, g) =>
    if g.cancelSent then (false, bump (64 * 10 + 37) (updBind i p (fun b => { b with noGrant := (b.noGrant + 1) % 2 ^ 32 }) s))
    else
      let gap := (tIn / 8000 + 2 ^ 32 - g.phase) % 2 ^ 32
      if g.answered ∧ 2 * gap < logUnits g.logInterval then
        (false, bump (64 * 10 + 38) (updBind i p (fun b => { b with rateExcess := (b.rateExcess + 1) % 2 ^ 32 }) s))
      else (true, s)

/-! ### Building messages (R320, R321, R322) -/

/-- A built frame: bytes, what it is, the bound it carries, LAUNCH form. -/
structure Built where
  bytes : Bytes
  tag : TxTag
  bound : Option Nat := none
  launchForm : Bool := false
  deriving DecidableEq, Repr

/-- The IEEE 802.1AS Follow_Up information TLV (R322). -/
def gptpTlv (s : State) : Bytes :=
  beBytes 2 3 ++ beBytes 2 28 ++ [0x00#8, 0x80#8, 0xC2#8, 0x00#8, 0x00#8, 0x01#8] ++ beBytes 4 0 ++ beBytes 2 (s.time.stepEpoch % 65536) ++
  beBytes 12 (ofSigned 96 s.time.lastStep) ++ beBytes 4 0

/-- The destination of a scheduled message: a grant's neighbour, or the group. -/
def grantDest (s : State) (g : Option Nat) : PtpDest :=
  match g.bind (fun k => getKey k s.ptp.grants) with
  | some e => let n := (getKey e.neighbour s.ptp.neighbours).getD {}; .one n.mac e.addr n.tags
  | none => .group

/-- The length of a message with its TLVs, for the reservation of its frame. -/
def msgLen (s : State) (i p : Nat) (c : PtpCfg) (mtype : Nat) : Nat :=
  let bt := if boundTlvOn c && (mtype == mAnnounce || mtype == mDelayResp || mtype == mPdelayResp || mtype == mPdelayFu ||
      mtype == mFollowUp || (mtype == mSync && !twoStep c)) then 20 else 0
  let gp := if c.profile = 4 then (if mtype = mFollowUp then 32 else if mtype = mAnnounce then 4 + 8 * (announceOf s i c p s.now).path.length else 0) else 0
  tlvStart mtype + bt + gp + sealLen s c

/-- A one-step or two-step Sync for a launch time `l` at the instant `lps` (R321). -/
def buildSync (i p : Nat) (c : PtpCfg) (b : BindCfg) (g : Option Nat) (seq l lps : Nat) (s : State) : Built × State :=
  let uni := g.isSome
  let bd := servedBound s p lps
  let tlv := if boundTlvOn c && !twoStep c then boundTlv s bd s.time.stepEpoch (boundMode s) else []
  let m : PtpMsg := { mtype := mSync, flags := (if twoStep c then 0x0200 else 0) + (if uni then 0x0400 else 0)
                      corr := if twoStep c then 0 else subNs l, seq, log := if uni then 0x7F else c.logSync
                      body := if twoStep c then zeros 10 else ts80 l, tlvs := tlv }
  let (bytes, s) := sealMsg c p m s
  ({ bytes := ptpFrame s b (grantDest s g) mSync bytes, tag := if twoStep c then .sync i p seq g else .engine i
     bound := if tlv.isEmpty then none else some (carriedBound bd), launchForm := !twoStep c }, bump (64 * 10 + 32) s)

/-- The Follow_Up of a Sync that left with the egress stamp `l` and the bound reported with it (R321, R322, R338). -/
def buildFollowUp (p : Nat) (c : PtpCfg) (b : BindCfg) (g : Option Nat) (seq l : Nat) (s : State) : Bytes × State :=
  let uni := g.isSome
  let tlv := (if c.profile = 4 then gptpTlv s else []) ++
    (if boundTlvOn c then boundTlv s (servedBound s p s.now) s.time.stepEpoch (boundMode s) else [])
  let m : PtpMsg := { mtype := mFollowUp, flags := if uni then 0x0400 else 0, corr := subNs l, seq, log := if uni then 0x7F else c.logSync
                      body := ts80 l, tlvs := tlv }
  let (bytes, s) := sealMsg c p m s
  (ptpFrame s b (grantDest s g) mFollowUp bytes, s)

/-- An Announce for a launch (R317, R318, R321, R338). -/
def buildAnnounce (i p : Nat) (c : PtpCfg) (b : BindCfg) (g : Option Nat) (seq lps : Nat) (s : State) : Built × State :=
  let a := announceOf s i c p lps
  let bd := servedBound s p lps
  let tlv := (if c.profile = 4 then beBytes 2 8 ++ beBytes 2 (8 * a.path.length) ++ a.path.flatMap (beBytes 8) else []) ++
    (if boundTlvOn c then boundTlv s bd s.time.stepEpoch (boundMode s) else [])
  let uni := g.isSome
  let m : PtpMsg := { mtype := mAnnounce, flags := a.flags + (if uni then 0x0400 else 0), seq, log := if uni then 0x7F else c.logAnnounce
                      body := announceBody a, tlvs := tlv }
  let (bytes, s) := sealMsg c p m s
  let s := updInst i (fun r => { r with clockClassSent := a.gmClass, accuracySent := a.gmAccuracy }) s
  let carried := if boundTlvOn c then some (carriedBound bd)
    else if accTableOn c then none else accLimit a.gmAccuracy
  ({ bytes := ptpFrame s b (grantDest s g) mAnnounce bytes, tag := .engine i, bound := carried }, bump (64 * 10 + 34) s)

/-- A slave-side Delay_Req or Pdelay_Req (R321, R324). -/
def buildDelayReq (i p : Nat) (c : PtpCfg) (b : BindCfg) (seq l : Nat) (s : State) : Built × State :=
  let p2p := isP2P c
  let dest : PtpDest × State := if unicastClient b then
      match (instRun s i).parent.bind (fun x => foreignAddr s i p x.2.source) with
      | some a => let (mac, s) := upstreamMac s; (.one mac a [], s)
      | none => (.group, s)
    else (.group, s)
  let s := dest.2
  let mt := if p2p then mPdelayReq else mDelayReq
  let m : PtpMsg := { mtype := mt, flags := if unicastClient b then 0x0400 else 0, corr := -b.asymmetry, seq
                      body := ts80 l ++ (if p2p then zeros 10 else []) }
  let (bytes, s) := sealMsg c p m s
  ({ bytes := ptpFrame s b dest.1 mt bytes, tag := .delayReq i p seq, launchForm := false }, s)

/-- A Signaling message to one address. -/
def buildSignal (i p mac ip : Nat) (tags tlvs : Bytes) (c : PtpCfg) (b : BindCfg) (s : State) : Built × State :=
  let m : PtpMsg := { mtype := mSignaling, flags := 0x0400, body := List.replicate 10 0xFF#8, tlvs }
  let (bytes, s) := sealMsg c p m s
  ({ bytes := ptpFrame s b (.one mac ip tags) mSignaling bytes, tag := .engine i }, s)

/-- Where the answer to a frame goes: to its sender when it came unicast, to the group otherwise. -/
def answerDest (v : PtpView) (b : BindCfg) : PtpDest × Bool := if atGroup b v then (.group, false) else (.one v.sa v.src v.tags, true)

/-- A Delay_Resp (R321, R338). -/
def buildDelayResp (q : Request) (origin : Nat) (c : PtpCfg) (b : BindCfg) (v : PtpView) (s : State) : Built × State :=
  let (d, uni) := answerDest v b
  let bd := capB (addB q.boundIn (portUnc s q.port))
  let tlv := if boundTlvOn c then boundTlv s bd q.epoch q.modeIn else []
  let m : PtpMsg := { mtype := mDelayResp, flags := if uni then 0x0400 else 0, corr := msgCorr v.msg - subNs q.stamp, seq := msgSeq v.msg
                      log := if uni then 0x7F else c.logDelay, body := ts80 q.stamp ++ slice v.msg 20 10, tlvs := tlv }
  let (bytes, s) := sealMsg c q.port m s
  let s := match findGrant s q.inst (v.transport == 2) v.src mDelayResp with
    | some (k, g) =>
      if uni then
        forwardGrant k (updPtp (fun n => { n with grants := putKey k { g with phase := q.tIn / 8000 % 2 ^ 32, answered := true } n.grants }) s)
      else s
    | none => s
  ({ bytes := ptpFrame s b d mDelayResp bytes, tag := .response .delayReq origin q.inst
     bound := if tlv.isEmpty then none else some (carriedBound bd) }, bump (64 * 10 + 33) s)

/-- GPTP always uses two-step peer delay (R321). -/
def pdelayTwoStep (c : PtpCfg) : Bool := twoStep c || c.profile == 4

/-- A Pdelay_Resp for a launch time `l` (R321, R338). -/
def buildPdelayResp (q : Request) (origin l : Nat) (c : PtpCfg) (b : BindCfg) (v : PtpView) (s : State) : Built × State :=
  let (d, uni) := answerDest v b
  let two := pdelayTwoStep c
  let bd := capB (addB q.boundIn (portUnc s q.port))
  let tlv := if boundTlvOn c then boundTlv s bd q.epoch q.modeIn else []
  let m : PtpMsg := { mtype := mPdelayResp, flags := (if two then 0x0200 else 0) + (if uni then 0x0400 else 0)
                      corr := if two then -(subNs q.stamp) else msgCorr v.msg + l - q.stamp
                      seq := msgSeq v.msg, body := (if two then ts80 q.stamp else zeros 10) ++ slice v.msg 20 10, tlvs := tlv }
  let (bytes, s) := sealMsg c q.port m s
  ({ bytes := ptpFrame s b d mPdelayResp bytes
     tag := if two then .pdelayResp q.inst q.port q.frame origin else .response .pdelayReq origin q.inst
     bound := if tlv.isEmpty then none else some (carriedBound bd), launchForm := !two }, s)

/-- The Pdelay_Resp_Follow_Up of an egress stamp (R321). -/
def buildPdelayFu (p : Nat) (c : PtpCfg) (b : BindCfg) (v : PtpView) (l : Nat) (s : State) : Bytes × State :=
  let (d, uni) := answerDest v b
  let tlv := if boundTlvOn c then boundTlv s (servedBound s p s.now) s.time.stepEpoch (boundMode s) else []
  let m : PtpMsg := { mtype := mPdelayFu, flags := if uni then 0x0400 else 0, corr := msgCorr v.msg + subNs l, seq := msgSeq v.msg
                      body := ts80 l ++ slice v.msg 20 10, tlvs := tlv }
  let (bytes, s) := sealMsg c p m s
  (ptpFrame s b d mPdelayFu bytes, s)

/-- The answer to a Signaling message, none when nothing is to be answered. -/
def buildSignalResp (q : Request) (origin : Nat) (c : PtpCfg) (b : BindCfg) (v : PtpView) (s : State) : Option Built × State :=
  let target := slice v.msg 34 10
  if target != List.replicate 10 0xFF#8 && target != beBytes 8 c.clockId ++ beBytes 2 (q.port + 1) then (none, s)
  else
    let (tlvs, s) := (tlvsOf v.msg).foldl (fun (a : Bytes × State) t => let (x, s) := signalTlv q c b v t a.2; (a.1 ++ x, s)) ([], s)
    if tlvs.isEmpty then (none, s)
    else
      let m : PtpMsg := { mtype := mSignaling, flags := 0x0400, seq := msgSeq v.msg, body := slice v.msg 20 10, tlvs }
      let (bytes, s) := sealMsg c q.port m s
      (some { bytes := ptpFrame s b (.one v.sa v.src v.tags) mSignaling bytes, tag := .response .signaling origin q.inst }, s)

/-- The SMPTE ST 2059-2 synchronization metadata message (R322). -/
def buildMetadata (p : Nat) (c : PtpCfg) (b : BindCfg) (seq : Nat) (s : State) : Bytes × State :=
  let lock : Nat := match (tdpll s).state with | .locked => 4 | .returning => 3 | .acquiring => 2 | _ => 1
  let (jump, at_) : Int × Nat := match s.time.future.filter (fun e => decide (e.leapTai > s.time.counter.sec)) with
    | e :: _ => (e.newOffset - offsetNow s, e.leapTai)
    | [] => (0, 0)
  let data := beBytes 4 c.smRateNum ++ beBytes 4 c.smRateDen ++ beBytes 1 lock ++ [0#8] ++ beBytes 4 (ofSigned 32 c.smLocalOffset) ++
    beBytes 4 (ofSigned 32 jump) ++ beBytes 6 at_ ++ zeros 18
  let tlv := beBytes 2 3 ++ beBytes 2 48 ++ [0x68#8, 0x97#8, 0xE8#8, 0x00#8, 0x00#8, 0x01#8] ++ data
  let m : PtpMsg := { mtype := mManagement, seq, body := List.replicate 10 0xFF#8 ++ [0#8, 0#8, 3#8, 0#8], tlvs := tlv }
  let (bytes, s) := sealMsg c p m s
  (ptpFrame s b .group mManagement bytes, s)

end Sys2Proof.Machine
end

