-- ==== Sys2Proof/Machine/Port.lean ====
section
/-! DEFINITION. The meanings of the network ports' rows (chapter 09). -/
namespace Sys2Proof.Machine
open Sys2Proof Host

/-! ### Commands (R279 to R283) -/

/-- A port does not exist while a lower port of its group runs 100GBASE-R4 (R248). -/
def portExists (c : Cfg) (p : Nat) : Bool := p % 4 == 0 || (nth c.ports (p / 4 * 4)).mode != 4

/-- FEC is allowed for a mode (R248). -/
def fecOk (mode fec : Nat) : Bool :=
  match mode with
  | 2 => decide (fec ≤ 1)
  | 3 => decide (fec ≤ 2)
  | 4 => fec == 0 || fec == 2
  | _ => fec == 0

def portCfgOf (p : Bytes) : PortCfg :=
  { mode := fld p 1 1, fec := fld p 2 1, flags := fld p 3 1, defaultPrio := fld p 4 1, maxFrame := fld p 6 2
    mac := fldBE p 8 6, rxDelay := fldI p 16 8, txDelay := fldI p 24 8, boardUnc := fld p 32 8 }

/-- The fields of PORT_CONFIGURE (R279). -/
def portFields (p : Bytes) : List Fld :=
  [inF 0 1 0 15, F 1 1 (fun v => decide (v ≤ 4) && (v != 4 || fld p 0 1 % 4 == 0)), F 2 1 (fecOk (fld p 1 1)), inF 3 1 0 127,
    inF 4 1 0 7, rsvF 5 1, inF 6 2 1518 9216, anyF 8 6, rsvF 14 2, anyF 16 8, anyF 24 8, F 32 8 (fun v => decide (v < unboundedPs))]

def hPortConfigure : Handler := fun q s =>
  let p := q.params
  let n := fld p 0 1
  let mode := fld p 1 1
  checked q 40 (portFields p) <|
  refuseIf (!portExists s.shadow n) stBadState 0 <|
  refuseIf (mode == 4 && [1, 2, 3].any (fun k => (nth s.shadow.ports (n + k)).mode != 0)) stBadState 0 <|
  writes (fun c => { c with ports := upd c.ports n fun _ => portCfgOf p }) s

def execPortConfigure (q : Req) (s : State) : Outcome State Fault Refusal := cmdRow 0x0800 hPortConfigure q s

def hPortCalibrate : Handler := fun q s =>
  let n := fld q.params 0 1
  checked q 4 [inF 0 1 0 15, rsvF 1 3] <|
  refuseIf ((portOf s n).state == .disabled || (portOf s n).state == .calibrating) stBadState 0 <|
  .later (addWait { key := .portCalibrate n, opcode := 0x0802, req := q } (toCalibrating n s))

def execPortCalibrate (q : Req) (s : State) : Outcome State Fault Refusal := cmdRow 0x0802 hPortCalibrate q s

def flowCfgOf (p : Bytes) : FlowCfg :=
  { rxMode := fld p 1 1, rxPfcMask := fld p 2 1, txPfcMask := fld p 3 1, spadesPrio := fld p 4 1, quanta := fld p 6 2
    xoff := (List.range 8).map fun k => fld p (8 + 8 * k) 4
    xon := (List.range 8).map fun k => fld p (12 + 8 * k) 4 }

/-- The fields of PORT_FLOW_CONTROL (R281). -/
def flowFields (p : Bytes) : List Fld :=
  let tx := fld p 3 1
  [inF 0 1 0 15, inF 1 1 0 2, anyF 2 1, F 3 1 (fun v => v == 0 || fld p 1 1 == 2), F 4 1 (fun v => v &&& tx == 0), rsvF 5 1,
    F 6 2 (fun v => v != 0 || tx == 0)]

/-- XOFF and XON of priority `k`. -/
def flowEntryFields (p : Bytes) (k : Nat) : List Fld :=
  [inF (8 + 8 * k) 4 0 4194304, F (12 + 8 * k) 4 (fun v => !bit (fld p 3 1) k || decide (v < fld p (8 + 8 * k) 4))]

def hPortFlowControl : Handler := fun q s =>
  let p := q.params
  checkedN q 8 (flowFields p) 8 8 (flowEntryFields p) <|
  writes (fun c => { c with flows := upd c.flows (fld p 0 1) fun _ => flowCfgOf p }) s

def execPortFlowControl (q : Req) (s : State) : Outcome State Fault Refusal := cmdRow 0x0803 hPortFlowControl q s

/-- A quality rank of R273. -/
def rankF (off : Nat) : Fld := F off 1 (fun v => decide (1 ≤ v ∧ v ≤ 8) || v == 15)

def synceCfgOf (p : Bytes) : SynceCfg :=
  { txDomain := fld p 1 1, flags := fld p 2 1, lockedQl := fld p 3 1, holdoverQl := fld p 4 1, freerunQl := fld p 5 1, clockId := fldBE p 8 8 }

def hPortSynce : Handler := fun q s =>
  let p := q.params
  checked q 16 [inF 0 1 0 15, inF 1 1 0 3, inF 2 1 0 15, rankF 3, rankF 4, rankF 5, rsvF 6 2, anyF 8 8] <|
  writes (fun c => { c with synces := upd c.synces (fld p 0 1) fun _ => synceCfgOf p }) s

def execPortSynce (q : Req) (s : State) : Outcome State Fault Refusal := cmdRow 0x0804 hPortSynce q s

def portStateCode : PortState → Nat
  | .disabled => 0
  | .calibrating => 1
  | .down => 2
  | .aligning => 3
  | .up => 4

/-- PAUSED: 0xFF in LINK mode while the partner pauses (R283). -/
def pausedMask (s : State) (p : Nat) : Nat := packBits ((List.range 8).map (isPaused s p))

/-- The windows of a port as they stand now (R275). -/
def windowNow (s : State) (p w : Nat) : Window := rollWindow (s.now / windowLen s p w) (nth (portOf s p).windows w)

/-- The reply of PORT_STATUS (R283). -/
def portStatusReply (s : State) (p : Nat) : Bytes :=
  let c := portCfg s p
  let r := portOf s p
  let cnt := fun (j : Nat) => leBytes 8 (portCounter s p j)
  let win := fun (w : Nat) => leBytes 8 (windowNow s p w).last ++ leBytes 8 (windowNow s p w).peak
  leBytes 1 p ++ leBytes 1 (portStateCode r.state) ++ leBytes 1 c.mode ++ leBytes 1 c.fec ++
  leBytes 2 (packBits [r.calOk, r.everCal, r.anDone, r.partnerPause, sharedLane c, txEnabled s p, r.esmcValid, r.extendedRx]) ++
  leBytes 2 r.events ++ leBytes 1 (spadesMask s p) ++ leBytes 1 r.xoff ++ leBytes 1 (pausedMask s p) ++ leBytes 1 r.rxQl ++
  leBytes 1 r.txQl ++ zeros 3 ++ boundBytes (portUnc s p) ++ leInt 8 r.dTx ++ leInt 8 r.dRx ++ leInt 8 r.rxFreq ++
  leInt 2 r.calTemp ++ leInt 2 r.temp ++ zeros 4 ++
  cnt 0 ++ cnt 1 ++ cnt 2 ++ cnt 3 ++ cnt 4 ++ cnt 5 ++ cnt 6 ++ cnt 7 ++ cnt 8 ++ cnt 9 ++
  (List.range 8).flatMap (fun k => leBytes 8 (pausedNs s p k)) ++
  win 0 ++ win 1 ++ win 2 ++ win 3 ++ leBytes 1 (nth s.work.windows p).w0 ++ leBytes 1 (nth s.work.windows p).w1 ++ zeros 6

/-- CLEAR_EVENTS and CLEAR_PEAKS (R275, R283). -/
def clearPort (fl p : Nat) (s : State) : State :=
  let s := if bit fl 0 then updPort p (fun r => { r with events := 0 }) s else s
  if bit fl 1 then updPort p (fun r => { r with
    windows := (List.range 4).map fun w => { windowNow s p w with peak := 0 } }) s else s

def hPortStatus : Handler := fun q s =>
  let n := fld q.params 0 1
  let fl := fld q.params 1 1
  checked q 4 [F 0 1 (fun v => decide (v ≤ 15) || v == 0xFF), inF 1 1 0 3, rsvF 2 2] <|
  if n = 0xFF then
    .done (leBytes 2 (packBits ((List.range 16).map fun k => (portOf s k).events != 0)))
      ((List.range 16).foldl (fun s k => clearPort fl k s) s)
  else .done (portStatusReply s n) (clearPort fl n s)

def execPortStatus (q : Req) (s : State) : Outcome State Fault Refusal := cmdRow 0x0801 hPortStatus q s

/-! ### What a commit does to ports (R253, R279) -/

/-- A change that recalibrates: MODE, FEC or either polarity. -/
def recalChange (a b : PortCfg) : Bool := a.mode != b.mode || a.fec != b.fec || a.flags / 16 % 4 != b.flags / 16 % 4

/-- The reply of PORT_CALIBRATE (R280). -/
def calReply (s : State) (p : Nat) (passed : Bool) (dTx dRx : Int) : Bytes :=
  leBytes 1 (if passed then 0 else 1) ++ zeros 3 ++ leInt 2 (portOf s p).temp ++ zeros 2 ++ leInt 8 dTx ++ leInt 8 dRx

/-- A port goes to DISABLED (R253). -/
def toDisabled (p : Nat) (s : State) : State :=
  let s := dropQueued p (leaveTo p .disabled s)
  finishWait (.portCalibrate p) stDone 0 (calReply s p false 0 0)
    (updPort p (fun r => { r with anDone := false, partnerPause := false }) s)

def portCommit (old : Cfg) (s : State) : State :=
  (List.range 16).foldl (fun s p =>
    let a := nth old.ports p
    let b := portCfg s p
    let w0 := nth old.windows p
    let s := if w0 = nth s.work.windows p then s else
      updPort p (fun r => { r with windows := (List.range 4).map fun w => { idx := s.now / windowLen s p w } }) s
    let s := if (nth old.synces p).flags % 2 = 0 && esmcRxOn s p then updPort p (fun r => { r with esmcBy := some (s.now + 5 * secPs) }) s
      else if esmcRxOn s p then s
      else updPort p (fun r => { r with esmcBy := none, esmcValid := false, extendedRx := false }) s
    let s := if !esmcRxOn s p && (portOf s p).rxQl != 0 then setRank p 0 (updRef (12 + p) (fun r => { r with healthOk := true }) s) else s
    if b.mode = 0 then (if (portOf s p).state == .disabled then s else toDisabled p s)
    else if (portOf s p).state == .disabled then updPort p (fun r => { r with state := .calibrating }) s
    else if recalChange a b then toCalibrating p s
    else s) s

/-! ### Port states (R253 to R259) -/

/-- A port in DOWN with AN37 advertises pause to its partner, in LINK mode only (R266). -/
def advertise (p : Nat) (s : State) : State :=
  if an37 (portCfg s p) && (portCfg s p).mode == 1 then emit (.advert p ((nth s.work.flows p).rxMode == 1)) s else s

/-- A full calibration ends: the markers were seen or not, with the loop delay and the receive delay (R253, R256, R257, R280). -/
def calibrationEnd (p ps : Nat) (seen : Bool) (temp dLoop dRxLoop : Int) (s : State) : State :=
  let s := begin_ ps s
  if (portOf s p).state != .calibrating || !running s then s
  else
    let (dTx, dRx) := calDelays s p dLoop dRxLoop
    let passed := seen && calInRange s p (dTx, dRx)
    let was := (portOf s p).calOk
    let s := updPort p (fun r =>
      if passed then { r with state := .down, temp := temp, calOk := true, everCal := true, calTemp := temp, dTx := dTx, dRx := dRx, adj := (0, 0) }
      else { r with state := .down, temp := temp, calOk := false }) s
    let s := if was && !passed then raise 5 6 (raiseStamps p s) else s
    let s := if passed then portEvent p 2 s else portEvent p 4 s
    advertise p (settleBound (finishWait (.portCalibrate p) stDone 0 (calReply s p passed dTx dRx) s))

def execCalibrationEnd (port t : Nat) (passed : Bool) (temp dTx dRx : Int) (s : State) : Outcome State Fault Refusal :=
  .next (if port < 16 then calibrationEnd port t passed temp dTx dRx s else laneCalEnd (port - 16) passed temp dTx dRx (begin_ t s))

/-- Block lock or synchronisation of a line within 200 × 10⁻⁶ (R249, R253). `an` is Clause 37: complete, with the partner's PAUSE. -/
def blockLock (p ps : Nat) (rxFreq : Int) (an : Option Bool) (s : State) : State :=
  let s := begin_ ps s
  if (portOf s p).state != .down || !running s || decide (rxFreq.natAbs > 3689348814741910) then s
  else if an37 (portCfg s p) && an.isNone then s
  else updPort p (fun r => { r with
    state := .aligning, rxFreq := rxFreq
    anDone := an37 (portCfg s p)
    partnerPause := an37 (portCfg s p) && an == some true }) s

def execBlockLock (port t : Nat) (rxFreq : Int) (an : Option Bool) (s : State) : Outcome State Fault Refusal :=
  .next (if port < 16 then blockLock port t rxFreq an s else laneLock (port - 16) (begin_ t s))

/-- The variable delays are measured, or their measurement fails (R253, R258, R259). -/
def alignmentDone (p ps : Nat) (ok : Bool) (dTx dRx : Int) (s : State) : State :=
  let s := begin_ ps s
  if (portOf s p).state != .aligning || !running s then s
  else
    let s := portEvent p 0 (updPort p (fun r => { r with
      state := .up, learned := 0
      dTx := r.dTx - r.vari.1 + (if ok then dTx else 0)
      dRx := r.dRx - r.vari.2 + (if ok then dRx else 0)
      vari := if ok then (dTx, dRx) else (0, 0)
      esmcBy := if esmcRxOn s p then some (r.esmcBy.getD (s.now + 5 * secPs)) else none
      esmcNext := s.now }) s)
    startPort p (if !ok && (portOf s p).calOk then loseCal p s else s)

def execAlignmentDone (port t : Nat) (ok : Bool) (dTx dRx : Int) (s : State) : Outcome State Fault Refusal :=
  .next (if port < 16 then alignmentDone port t ok dTx dRx s else laneAligned (port - 16) ok dTx dRx (begin_ t s))

/-- Block lock, synchronisation or alignment is lost, or Clause 37 restarts (R253, R265). -/
def linkLoss (p ps : Nat) (s : State) : State :=
  let s := begin_ ps s
  if (portOf s p).state == .up || (portOf s p).state == .aligning then
    advertise p (updPort p (fun r => { r with anDone := false, partnerPause := false }) (dropQueued p (leaveTo p .down s)))
  else s

def execLinkLoss (port t : Nat) (s : State) : Outcome State Fault Refusal := .next (if !running s then begin_ t s else if port < 16 then linkLoss port t s else laneLoss (port - 16) (begin_ t s))

/-- The lane temperature and the replica delay line are read, or the replica measurement faults (R258): 40 °C are 320 units. -/
def calLost (p ps : Nat) (x : LaneReading) (fault : Bool) (s : State) : State :=
  let s := updPort p (fun r => { r with temp := x.temp }) (begin_ ps s)
  let r := portOf s p
  if !r.calOk then s
  else if fault || decide ((x.temp - r.calTemp).natAbs > 320) then loseCal p s
  else updPort p (fun r => { r with dTx := r.dTx - r.adj.1 + x.dTx, dRx := r.dRx - r.adj.2 + x.dRx, adj := (x.dTx, x.dRx) }) s

def execCalLost (port t : Nat) (temp : LaneReading) (fault : Bool) (s : State) : Outcome State Fault Refusal :=
  .next (if !running s then begin_ t s else if port < 16 then calLost port t temp fault s else laneCalLost (port - 16) temp fault (begin_ t s))

/-! ### SyncE and ESMC (R271 to R274) -/

/-- An edge of the divided recovered clock, 390.625 kHz: a sample of source SYNCEn (R271). -/
def synceSample (p ps : Nat) (s : State) : State :=
  let s := begin_ ps s
  let o := 12 + p
  let st := (portOf s p).state
  if !running s || !(st == .aligning || st == .up) || (refOf s o).state == .disabled then s
  else
    let stamp := (stampNow s : Int) - (refCfg s o).compensation
    let s := updRef o (fun r => { r with expected := some (s.now + 10240000) }) s
    deliver o { stamp := stamp.toNat, offset := 0, unc := 0, stampUnc := 0, phaseOk := false, period := 2560000, perNum := 2560000, perDen := 1 } false s

def execSynceSample (port t : Nat) (s : State) : Outcome State Fault Refusal := .next (synceSample port t s)

/-- No ESMC PDU for 5 s (R273). -/
def esmcTimeout (p : Nat) (s : State) : State :=
  match (portOf s p).esmcBy with
  | none => s
  | some d =>
    let s := moveTo d s
    if !esmcRxOn s p then s
    else setRank p 15 (updRef (12 + p) (fun r => { r with healthOk := false })
      (portEvent p 5 (updPort p (fun r => { r with esmcBy := none, esmcValid := false, extendedRx := false }) s)))

def execEsmcTimeout (port : Nat) (s : State) : Outcome State Fault Refusal := .next (whileRunning (esmcTimeout port) { s with out := [] })

/-- An ESMC PDU of ITU-T G.8264 with the quality the port transmits (R274). -/
def esmcPdu (s : State) (p : Nat) (event : Bool) : Bytes :=
  let (rank, origin, ee, ec) := txQuality s p
  let (ssm, enh) := codesOf rank
  let ext := if bit (nth s.work.synces p).flags 2 then
      [0x02#8] ++ beBytes 2 20 ++ beBytes 1 enh ++ beBytes 8 origin ++ [0#8] ++ beBytes 1 ee ++ beBytes 1 ec ++ zeros 5
    else []
  ethFrame 0x0180C2000002 (portCfg s p).mac [] 0x8809
    ([0x0A#8, 0x00#8, 0x19#8, 0xA7#8, 0x00#8, 0x01#8, (if event then 0x18#8 else 0x10#8)] ++ zeros 3 ++
     [0x01#8] ++ beBytes 2 4 ++ beBytes 1 ssm ++ ext)

/-- An ESMC PDU is queued on its port. -/
def sendEsmc (p : Nat) (event : Bool) (s : State) : State :=
  let f : TxFrame := { bytes := esmcPdu s p event, prio := (portCfg s p).defaultPrio, tag := .engine 64, suit := some .hearts, cells := 1 }
  enqueue p f (takeCells .hearts 1 (updPort p (fun r => { r with
    txQl := (txQuality s p).1
    esmcSent := s.now :: r.esmcSent.filter (fun x => decide (x + secPs > s.now)) }) s))

/-- A further ESMC PDU keeps to 10 in a second (R274). -/
def esmcRoom (s : State) (p : Nat) : Bool :=
  decide (((portOf s p).esmcSent.filter (fun x => decide (x + secPs > s.now))).length < 10)

/-- The information PDU of each second (R274). -/
def esmcTx (p : Nat) (s : State) : State :=
  if !esmcTxOn s p || (portOf s p).state != .up then s
  else
    let s := moveTo (portOf s p).esmcNext s
    let s := updPort p (fun r => { r with esmcNext := max s.now r.esmcNext + secPs }) s
    if txEnabled s p && esmcRoom s p then sendEsmc p false s else s

def execEsmcTx (port : Nat) (s : State) : Outcome State Fault Refusal := .next (whileRunning (esmcTx port) { s with out := [] })

/-- The event PDU after a change of the transmitted quality (R274). -/
def esmcEventTx (p ps : Nat) (s : State) : State :=
  let s := begin_ ps s
  if esmcTxOn s p && txEnabled s p && (txQuality s p).1 != (portOf s p).txQl && esmcRoom s p then sendEsmc p true s else s

def execEsmcEventTx (port t : Nat) (s : State) : Outcome State Fault Refusal := .next (if running s then esmcEventTx port t s else begin_ t s)

/-! ### Windows (R275) -/

/-- A bandwidth window ends. -/
def windowEnd (p w : Nat) (s : State) : State :=
  if w ≥ 4 then s
  else
    let len := windowLen s p w
    let s := moveTo (((nth (portOf s p).windows w).idx + 1) * len) s
    updPort p (fun r => { r with windows := upd r.windows w (rollWindow (s.now / len)) }) s

def execWindowEnd (port w : Nat) (s : State) : Outcome State Fault Refusal := .next (whileRunning (windowEnd port w) { s with out := [] })

/-! ### Pause and PFC (R266 to R270) -/

/-- A received pause takes effect 50 ns after its FCS (R267). -/
def pauseEffect (p : Nat) (s : State) : State :=
  match (portOf s p).pauses with
  | [] => s
  | (at_, l) :: rest =>
    let s := updPort p (fun r => { r with pauses := rest }) (moveTo at_ s)
    l.foldl (fun s e => loadPause p e.1 e.2 s) s

def execPauseEffect (port : Nat) (s : State) : Outcome State Fault Refusal := .next (whileRunning (pauseEffect port) { s with out := [] })

/-- A priority's timer reaches 0 (R267). -/
def pauseExpiry (p k : Nat) (s : State) : State :=
  match (portOf s p).pausedUntil.getD k none with
  | none => s
  | some e => releasePrio k (moveTo e s) p

def execPauseExpiry (port prio : Nat) (s : State) : Outcome State Fault Refusal := .next (whileRunning (pauseExpiry port prio) { s with out := [] })

/-- The instant of the next XOFF: half of PFC_QUANTA on (R269). -/
def refreshAt (s : State) (p : Nat) : Nat := s.now + (nth s.work.flows p).quanta * quantumPs (portCfg s p).mode / 2

/-- Occupancy has reached XOFF (R269). -/
def pfcXoff (p k ps : Nat) (s : State) : State :=
  let s := begin_ ps s
  let f := nth s.work.flows p
  if mayPause s p k && !bit (portOf s p).xoff k && decide ((portOf s p).occupancy.getD k 0 ≥ f.xoff.getD k 0) && txEnabled s p then
    sendPfc p k f.quanta (updPort p (fun r => { r with
      xoff := setBit r.xoff k, refresh := upd r.refresh k (fun _ => refreshAt s p) }) s)
  else s

def execPfcXoff (port prio t : Nat) (s : State) : Outcome State Fault Refusal := .next (if running s then pfcXoff port prio t s else begin_ t s)

/-- A new XOFF while occupancy stays at or above XON (R269). -/
def pfcRefresh (p k : Nat) (s : State) : State :=
  if !bit (portOf s p).xoff k then s
  else
    let s := moveTo ((portOf s p).refresh.getD k 0) s
    let f := nth s.work.flows p
    if !mayPause s p k then updPort p (fun r => { r with xoff := clrBit r.xoff k }) s
    else if (portOf s p).occupancy.getD k 0 ≥ f.xon.getD k 0 then
      sendPfc p k f.quanta (updPort p (fun r => { r with refresh := upd r.refresh k (fun _ => refreshAt s p) }) s)
    else s

def execPfcXoffRefresh (port prio : Nat) (s : State) : Outcome State Fault Refusal := .next (whileRunning (pfcRefresh port prio) { s with out := [] })

/-- Occupancy has fallen below XON (R269). -/
def pfcXon (p k ps : Nat) (s : State) : State :=
  let s := begin_ ps s
  if bit (portOf s p).xoff k && decide ((portOf s p).occupancy.getD k 0 < (nth s.work.flows p).xon.getD k 0) then
    let t := updPort p (fun r => { r with xoff := clrBit r.xoff k }) s
    if mayPause s p k then sendPfc p k 0 t else t
  else s

def execPfcXon (port prio t : Nat) (s : State) : Outcome State Fault Refusal := .next (if running s then pfcXon port prio t s else begin_ t s)

end Sys2Proof.Machine
end

