-- ==== Sys2Proof/Machine/SvcOps.lean ====
section
/-! DEFINITION. The packet service: costs, classification, admission, threads and lanes, the leaving of frames (R284 to R304). -/
namespace Sys2Proof.Machine
open Sys2Proof

def updSvc (f : SvcRun → SvcRun) (s : State) : State := { s with svc := f s.svc }

/-! ### Costs (R286), in ps -/

def kindC : Kind → Nat
  | .ptpInput => 120000
  | .delayReq => 160000
  | .pdelayReq => 200000
  | .signaling => 400000
  | .ptpScheduled => 120000
  | .ntpPlain => 140000
  | .ntpSymmetric => 180000
  | .nts => 420000
  | .kod => 100000
  | .receipt => 200000

/-- C of a request with its Annex P addition. -/
def reqC (q : Request) : Nat := kindC q.kind + (if q.annexP = 0 then 0 else 60000)

/-- The lane work of a request: type, O, LAT. -/
def reqLane (q : Request) : Option (LaneType × Nat × Nat) :=
  match q.kind with
  | .ntpSymmetric => some (.aes, 100000, 250000)
  | .nts => some (.aes, 400000, 1000000)
  | .receipt => some (.hmac, 100000, 200000)
  | _ => if q.annexP = 1 then some (.hmac, 150000, 300000) else if q.annexP = 2 then some (.aes, 60000, 200000) else none

/-- The promise of a kind. -/
def promiseOf : Kind → Nat
  | .nts => 4000000
  | _ => 2000000

/-- The launch target of a kind (R286, R308). -/
def targetOf (a : AdmCfg) : Kind → Nat
  | .nts => a.targetNts * 1000
  | .ntpPlain => a.targetNtp * 1000
  | .ntpSymmetric => a.targetNtp * 1000
  | .kod => a.targetNtp * 1000
  | _ => a.targetPtp * 1000

/-- The request has a response with a launch time. -/
def hasResponse (q : Request) : Bool := q.kind != .receipt && q.kind != .ptpInput && q.respLen != 0

/-- The promise origin in ps (R291). -/
def originOf (s : State) (q : Request) : Nat := if (portCfg s q.port).mode = 1 then q.tV else q.tIn

/-! ### Refusals -/

/-- The performance counter of a refusal, and the mark of the hand (R306, R309). `k` is the counter of R309. -/
def countRefusal (q : Request) (k : Nat) (s : State) : State :=
  updSvc (fun v => { v with refusalHand := some s.hand.number }) (filterFrame 7 q.suit q.port (q.frame.length + 4) (portCount q.port 11 (suitCount q.suit k s)))

/-- A request's cells and its share of the port's occupancy are released (R269, R299). -/
def releaseRequest (q : Request) (s : State) : State :=
  let s := if q.cells = 0 then s else freeCells q.suit q.cells s
  match q.work with
  | .frame => subOccupancy q.port q.prio (q.frame.length + 4) s
  | _ => s

/-- A schedule skip (R297). -/
def scheduleSkip (s : State) : State := bump (64 * 9 + 33) s

/-- A refusal: counted, and the request's cells freed on the decision tick (R290). -/
def refuseReq (q : Request) (k : Nat) (s : State) : State :=
  let s := releaseRequest q (countRefusal q k s)
  let s := if k = 9 then raise 9 6 s else s
  if q.kind = .ptpScheduled then scheduleSkip s else s

/-! ### Loads of threads and lanes (R289) -/

def jobOf (s : State) (j : Nat) : Job := (getKey j s.svc.jobs).getD {}
def updJob (j : Nat) (f : Job → Job) (s : State) : State :=
  updSvc (fun v => { v with jobs := v.jobs.map fun e => if e.1 = j then (e.1, f e.2) else e }) s
def threadOf (s : State) (h : Nat) : Thread := nth s.svc.threads h
def updThread (h : Nat) (f : Thread → Thread) (s : State) : State := updSvc (fun v => { v with threads := upd v.threads h f }) s

def remaining (s : State) (j : Nat) : Nat := (jobOf s j).c - (jobOf s j).done
def sumC (s : State) (l : List Nat) : Nat := l.foldl (fun a j => a + remaining s j) 0

def runOf (s : State) (h : Nat) : Nat :=
  let t := threadOf s h
  (match t.running with | some (j, st) => remaining s j - (s.now - st) | none => 0) +
  (match t.holding with | some j => remaining s j + ((jobOf s j).laneDone - s.now) | none => 0)
def resOf (s : State) (h : Nat) : Nat := sumC s (threadOf s h).released + sumC s (threadOf s h).ready
def bpOf (s : State) (h : Nat) : Nat := sumC s (threadOf s h).p
def bdOf (s : State) (h : Nat) : Nat := sumC s (threadOf s h).d

/-- C admitted to a thread for a Suit in the last 4,000 ns. -/
def usedOf (s : State) (h : Nat) (u : Suit) : Nat :=
  (threadOf s h).used.foldl (fun a e => if e.2.1 == u && decide (s.now < e.1 + 4000000) then a + e.2.2 else a) 0

def laneCount : LaneType → Nat
  | .aes => 16
  | .hmac => 8

/-- LB of a lane. -/
def lbOf (s : State) (ty : LaneType) (k : Nat) : Nat :=
  s.svc.jobs.foldl (fun a e =>
    match e.2.lane with
    | some (t, n, o, _) => if t == ty && n == k && (match e.2.occEnd with | some x => decide (s.now < x) | none => true) then a + o else a
    | none => a) 0

/-- The least-loaded lane of a type, the lowest on a tie, with its load. -/
def bestLane (s : State) (ty : LaneType) : Nat × Nat :=
  (List.range (laneCount ty)).foldl (fun (m : Nat × Nat) k => let b := lbOf s ty k; if b < m.2 then (k, b) else m) (0, lbOf s ty 0)

/-- Engines in service: enabled and not faulty (R303). -/
def engineUsable (s : State) (e : Nat) : Bool := bit s.work.adm.engineMask e && !bit s.svc.faulty e
def usableThreads (s : State) : List Nat := (List.range 64).filter fun h => engineUsable s (h / 4)

/-- Threads in the order in which admission tries them (R290). -/
def threadOrder (s : State) : List Nat :=
  (sortBy (fun (a b : Nat × Nat) => decide (a.2 < b.2)) ((usableThreads s).map fun h => (h, runOf s h + resOf s h + bpOf s h + bdOf s h))).map (·.1)

/-- The reserve test of a thread (R290). -/
def reserveOk (s : State) (q : Request) (h : Nat) : Bool :=
  match q.suit with
  | .spades => decide (usedOf s h .spades + reqC q ≤ s.work.adm.spadesReserve * 1000)
  | .hearts => decide (usedOf s h .hearts + reqC q ≤ s.work.adm.heartsReserve * 1000)
  | _ => true

/-- The wait of a request on a thread (R290). -/
def waitOf (s : State) (q : Request) (h : Nat) : Nat :=
  match q.suit with
  | .spades => runOf s h + resOf s h + bpOf s h
  | .hearts => runOf s h + resOf s h + bpOf s h
  | _ => runOf s h + resOf s h + bpOf s h + bdOf s h + (s.work.adm.spadesReserve + s.work.adm.heartsReserve) * 1000

/-- What admission decides. -/
inductive Verdict where
  /-- The counter of R309 of the reason. -/
  | refuse (k : Nat)
  /-- Thread, lane, launch instant at the ball or 0. -/
  | take (h : Nat) (lane : Option (LaneType × Nat × Nat × Nat)) (launch : Nat)
  deriving DecidableEq, Repr

/-- l0 at the ball: the promise origin plus the target, or the scheduled instant, rounded up to the grid (R262, R290, R297). -/
def firstLaunch (s : State) (q : Request) : Nat :=
  let d := delayPs (portCfg s q.port).txDelay
  let base := if q.kind = .ptpScheduled then q.tIn else originOf s q + targetOf s.work.adm q.kind
  gridUp s q.port ((base : Int) - d).toNat

/-- The latest launch at the ball (R290, R297). -/
def lastLaunch (s : State) (q : Request) : Nat :=
  let d := delayPs (portCfg s q.port).txDelay
  let base := if q.kind = .ptpScheduled then q.tIn + 1000000 else originOf s q + promiseOf q.kind
  ((base : Int) - d).toNat

/-- The deadline of the work (R290, R296, R297). -/
def deadlineOf (s : State) (q : Request) : Nat :=
  if q.kind = .ptpScheduled then q.tIn - 80000
  else if hasResponse q then ((firstLaunch s q : Int) + delayPs (portCfg s q.port).txDelay - 80000).toNat
  else q.tV + 4000000

/-- Receipts pending allow another one on this port (R296). -/
def receiptRoom (s : State) (q : Request) : Bool :=
  let bt := portByte s q.port
  decide (s.ntp.pending < s.work.adm.rcptMax) && decide ((rcptLineBytes s q.port + q.frame.length + 24) * bt ≤ 1500000000)

/-- The decision of admission at the present instant (R290 to R297, R300). -/
def decideReq (s : State) (q : Request) : Verdict :=
  let rc := cellsOf q.respLen
  let timed := hasResponse q
  if q.kind = .receipt ∧ !receiptRoom s q then .refuse 9
  else if q.suit = .diamonds ∧ sharedFree s < s.work.svc.shedFree then .refuse 3
  else if timed ∧ !canTake s q.suit rc then .refuse 2
  else
    let l0 := firstLaunch s q
    let held := timed && (match (portOf s q.port).pausedUntil.getD q.prio none with | some e => decide (e > l0) | none => false)
    if held then .refuse 8
    else
      let order := threadOrder s
      let lane := (reqLane q).map fun e => let (k, b) := bestLane s e.1; (e.1, k, e.2.1, e.2.2, b)
      let lw := match lane with | some (_, _, _, _, b) => b | none => 0
      let lat := match lane with | some (_, _, _, t, _) => t | none => 0
      let dl := deadlineOf s q
      let passes := fun (w : Nat) (h : Nat) => reserveOk s q h && decide (s.now + waitOf s q h + reqC q + w + lat ≤ dl)
      match order.find? (passes lw) with
      | none =>
        if !order.isEmpty && order.all (fun h => !reserveOk s q h) then .refuse 4
        else if order.any (passes 0) then .refuse 6
        else .refuse 5
      | some h =>
        let ln := lane.map fun (t, k, o, l, _) => (t, k, o, l)
        if !timed then .take h ln 0
        else
          let l := findLaunch s q.port q.respLen l0
          if l > lastLaunch s q then .refuse 7 else .take h ln l

/-! ### Running (R288) -/

/-- Compute before the call of a lane: one third of C, as the trace of *Architecture* shows for NTS. -/
def beforeLane (q : Request) : Nat := reqC q / 3

/-- A Diamonds job may start or resume on a thread: it ends before the lane completion of every job released before it (R288). -/
def mayStart (s : State) (h j : Nat) : Bool :=
  ((threadOf s h).released ++ (threadOf s h).ready).all fun r => decide (j ≤ r) || decide (s.now + remaining s j < (jobOf s r).lanePred)

/-- A job starts or resumes on a thread; when it first starts, it has read its request (R299). -/
def startJob (h j : Nat) (s : State) : State :=
  let first := (jobOf s j).done == 0
  let s := updThread h (fun t => { t with
    running := some (j, s.now), p := t.p.erase j, d := t.d.erase j, ready := t.ready.erase j, holding := if t.holding = some j then none else t.holding }) s
  if first then releaseRequest (jobOf s j).req s else s

/-- A free thread takes work: ready released jobs, then the head of P, then the head of D (R288). -/
def dispatch (h : Nat) (s : State) : State :=
  let t := threadOf s h
  if t.running.isSome || t.holding.isSome then s
  else
    match t.ready.find? (mayStart s h), t.p.head?, t.d.head?.filter (mayStart s h) with
    | some j, _, _ => startJob h j s
    | none, some j, _ => startJob h j s
    | none, none, some j => startJob h j s
    | none, none, none => s

/-- An admitted request is committed: thread, lane, charges, cells, launch slot (R290). -/
def commitJob (q : Request) (h : Nat) (lane : Option (LaneType × Nat × Nat × Nat)) (launch : Nat) (s : State) : State :=
  let j := s.svc.nextId
  let rc := if hasResponse q then cellsOf q.respLen else 0
  let lw := match lane with | some (t, _, _, _) => (bestLane s t).2 | none => 0
  let lat := match lane with | some (_, _, _, l) => l | none => 0
  let keys := if q.kind = .nts then ntsKeys s q.inst else []
  let origin := if q.kind = .ptpScheduled then 0 else originOf s q
  let job : Job := { req := { q with keys := keys }, thread := h, c := reqC q, before := if lane.isSome then beforeLane q else reqC q, lane
                     lanePred := s.now + waitOf s q h + beforeLane q + lw + lat, launch, origin, respCells := rc }
  let s := updSvc (fun v => { v with jobs := putKey j job v.jobs, nextId := j + 1 }) s
  let s := updThread h (fun t => { t with
    p := if q.suit = .diamonds then t.p else t.p ++ [j]
    d := if q.suit = .diamonds then t.d ++ [j] else t.d
    used := t.used.filter (fun e => decide (s.now < e.1 + 4000000)) ++ [(s.now, q.suit, reqC q)] }) s
  let s := filterFrame 6 q.suit q.port (q.frame.length + 4) <| portCount q.port 10 (suitCount q.suit 1 (if rc = 0 then s else takeCells q.suit rc s))
  let s := if launch = 0 then s else updPort q.port (fun r => { r with calendar := r.calendar ++ [(launch, q.respLen)] }) s
  let s := if q.kind = .receipt then addReceipt q (match ipOf q.frame.length (ethOf q.frame) with | .udp u => slice u.payload 4 32 | _ => []) s else s
  dispatch h s

/-- A job's reserved launch slot and response cells are released (R336). -/
def releaseSlot (j : Job) (s : State) : State :=
  let s := if j.respCells = 0 then s else freeCells j.req.suit j.respCells s
  if j.launch = 0 then s
  else updPort j.req.port (fun r => { r with calendar := r.calendar.filter (fun e => e.1 != j.launch) }) s

/-! ### What a completed job does -/

/-- L as it is written: the counter at the launch instant plus TX_DELAY (R255, R287). -/
def stampOfLaunch (s : State) (p launch : Nat) : Nat := ((futureStamp s launch : Int) + (portCfg s p).txDelay).toNat

/-- The bytes of a job's response are queued with its launch time (R287). -/
def queueBuilt (j : Job) (b : Built) (half : Nat) (s : State) : State :=
  enqueue j.req.port { bytes := b.bytes, prio := j.req.prio, stamp := stampOfLaunch s j.req.port j.launch, launch := some j.launch
                       launchForm := b.launchForm, tag := b.tag, suit := some j.req.suit, bound := b.bound, halfUnit := half
                       cells := j.respCells } s

/-- A received PTP message or request (R321 to R336). -/
def ptpJob (j : Job) (s : State) : State :=
  let q := j.req
  match ptpView q.frame, instCfg s q.inst, bindCfg s q.inst q.port with
  | some v, some c, some b =>
    let (ok, authed) := authCheck s c v.msg
    if !ok then authDiscard q.inst q.port (releaseSlot j s)
    else
      let master := (bindRun s q.inst q.port).state == .master
      match q.kind with
      | .delayReq =>
        if isP2P c || !master || j.launch = 0 then releaseSlot j s
        else let (x, s) := buildDelayResp q j.origin c b v s; queueBuilt j x 0 s
      | .pdelayReq =>
        if !isP2P c || j.launch = 0 then releaseSlot j s
        else let (x, s) := buildPdelayResp q j.origin (stampOfLaunch s q.port j.launch) c b v s; queueBuilt j x 0 s
      | .signaling =>
        match buildSignalResp q j.origin c b v s with
        | (some x, s) => if j.launch = 0 then releaseSlot j s else queueBuilt j x 0 s
        | (none, s) => releaseSlot j s
      | _ =>
        match msgType v.msg with
        | 0 => if takesPtp s q.inst q.port c then takeSync q c v.msg authed s else s
        | 8 => if takesPtp s q.inst q.port c then takeFollowUp q c v.msg authed s else s
        | 9 => if isP2P c then s else takeDelayResp q c v.msg s
        | 3 => if isP2P c then takePdelayResp q c v.msg s else s
        | 10 => if isP2P c then takePdelayFu q c v.msg s else s
        | 11 => if takesPtp s q.inst q.port c then takeAnnounce q c v.msg v.src s else s
        | _ => s
  | _, _, _ => releaseSlot j s

/-- ESMC PDU of ITU-T G.8264: destination, EtherType, subtype, OUI, ITU subtype, version (R273). -/
def isEsmc (e : EthView) : Bool :=
  e.da == 0x0180C2000002 && e.etype == 0x8809 && slice e.payload 0 6 == [0x0A#8, 0x00#8, 0x19#8, 0xA7#8, 0x00#8, 0x01#8] &&
  fldBE e.payload 6 1 / 16 == 1

/-- The rank, origin and cascade counts of an ESMC PDU (R273, R274). -/
def esmcQuality (e : EthView) : Nat × Bool × Nat × Nat × Nat :=
  let t := e.payload.drop 10
  let ssm := if fldBE t 0 1 = 1 ∧ fldBE t 1 2 = 4 then fldBE t 3 1 % 16 else 0xF
  let x := t.drop 4
  if fldBE x 0 1 = 2 ∧ fldBE x 1 2 = 20 then (rankOf ssm (some (fldBE x 3 1)), true, fldBE x 4 8, fldBE x 13 1, fldBE x 14 1)
  else (rankOf ssm none, false, 0, 0, 0)

/-- An ESMC PDU has been taken (R273). -/
def esmcJob (q : Request) (s : State) : State :=
  let (rank, ext, origin, ee, ec) := esmcQuality (ethOf q.frame)
  setRank q.port rank (updRef (12 + q.port) (fun r => { r with healthOk := true }) (updPort q.port (fun r => { r with
    esmcBy := some (q.tV + 5 * secPs), esmcValid := true, extendedRx := ext, esmcOrigin := origin, esmcCounts := (ee, ec) }) s))

/-- A scheduled transmission (R297, R320, R321). -/
def scheduledJob (j : Job) (s : State) : State :=
  let q := j.req
  let l := stampOfLaunch s q.port j.launch
  match q.work with
  | .scheduled i p mtype g _ seq =>
    match instCfg s i, bindCfg s i p with
    | some c, some b =>
      if g.isSome && (g.bind (fun k => getKey k s.ptp.grants)).isNone then releaseSlot j s
      else if mtype = mSync then let (x, s) := buildSync i p c b g seq l j.launch s; queueBuilt j x 0 s
      else if mtype = mAnnounce then let (x, s) := buildAnnounce i p c b g seq j.launch s; queueBuilt j x 0 s
      else let (x, s) := buildDelayReq i p c b seq l s; queueBuilt j x 0 s
    | _, _ => releaseSlot j s
  | .signal i p mac ip tags =>
    match instCfg s i, bindCfg s i p with
    | some c, some b => let (x, s) := buildSignal i p mac ip tags q.frame c b s; queueBuilt j x 0 s
    | _, _ => releaseSlot j s
  | .frame => releaseSlot j s

/-- The frame of an NTP or receipt response: the request's addresses and ports swapped, its tags and class kept (R287, R367). -/
def answerFrame (s : State) (p : Nat) (f payload : Bytes) : Bytes :=
  let e := ethOf f
  match ipOf f.length e with
  | .udp u => udpFrame e.sa (portCfg s p).mac e.tags { u with src := u.dst, dst := u.src, sport := u.dport, dport := u.sport, payload }
  | _ => []

/-- An NTP request's response (R287, R353 to R360). -/
def ntpJob (j : Job) (s : State) : State :=
  let q := j.req
  match ipOf q.frame.length (ethOf q.frame) with
  | .udp u =>
    let (pl, b, s) := ntpPayload q u.payload (stampOfLaunch s q.port j.launch) j.launch s
    queueBuilt j { bytes := answerFrame s q.port q.frame pl, tag := .response q.kind j.origin q.inst, bound := b, launchForm := true } ntpHalf s
  | _ => releaseSlot j s

/-- A job has completed. -/
def finishJob (j : Job) (s : State) : State :=
  match j.req.kind with
  | .ptpScheduled => scheduledJob j s
  | .receipt => s
  | .ptpInput => if isEsmc (ethOf j.req.frame) then esmcJob j.req s else ptpJob j s
  | .delayReq => ptpJob j s
  | .pdelayReq => ptpJob j s
  | .signaling => ptpJob j s
  | _ => ntpJob j s

/-- The running job of a thread ends its stretch: it calls its lane, or completes (R288). -/
def endStretch (h : Nat) (s : State) : State :=
  match (threadOf s h).running with
  | none => s
  | some (j, st) =>
    let jb := jobOf s j
    let calls := jb.lane.isSome && !jb.laneCalled
    let goal := if calls then jb.before else jb.c
    let s := moveTo (st + (goal - jb.done)) s
    let s := updThread h (fun t => { t with running := none }) (updJob j (fun x => { x with done := goal }) s)
    match calls, jb.lane with
    | true, some (ty, k, o, lat) =>
      let free := match ty with | .aes => s.svc.aesFree.getD k 0 | .hmac => s.svc.hmacFree.getD k 0
      let start := max s.now free
      let s := updSvc (fun v => match ty with
        | .aes => { v with aesFree := upd v.aesFree k (fun _ => start + o) }
        | .hmac => { v with hmacFree := upd v.hmacFree k (fun _ => start + o) }) s
      let s := updJob j (fun x => { x with laneCalled := true, occEnd := some (start + o), laneDone := start + lat }) s
      let s := updThread h (fun t =>
        if jb.req.suit = .diamonds then { t with released := t.released ++ [j] } else { t with holding := some j }) s
      dispatch h s
    | _, _ => dispatch h (finishJob jb (updSvc (fun v => { v with jobs := delKey j v.jobs }) s))

/-- The earliest lane completion of a thread's jobs. -/
def nextLaneDone (s : State) (h : Nat) : Option Nat :=
  let t := threadOf s h
  let l := t.released ++ (match t.holding with | some j => [j] | none => [])
  l.foldl (fun m j => match m with | none => some j | some k => if (jobOf s j).laneDone < (jobOf s k).laneDone then some j else m) none

/-- A lane returns (R288). -/
def laneReturn (h : Nat) (s : State) : State :=
  match nextLaneDone s h with
  | none => s
  | some j =>
    let s := moveTo (jobOf s j).laneDone s
    if (threadOf s h).holding = some j then startJob h j s
    else
      dispatch h (updThread h (fun t => { t with
        released := t.released.erase j, ready := insertBy (fun a b => decide (a < b)) j t.ready }) s)

/-! ### Leaving frames (R25, R26, R254, R260 to R263, R295) -/

/-- A word at a checksum offset changes so that the sum of the datagram stays (R261). -/
def fixChecksum (off : Nat) (old new : Bytes) : Bytes :=
  if off = 0 then new
  else
    let w := fldBE new off 2
    let unit := if off % 2 = 0 then 1 else 256
    let d := (w + unit * (onesSum old % 65535 + 65535 - onesSum new % 65535)) % 65535
    new.take off ++ beBytes 2 (if d = 0 then 65535 else d) ++ new.drop (off + 2)

/-- Bytes replaced at an offset. -/
def putBytes (off : Nat) (v b : Bytes) : Bytes := b.take off ++ v ++ b.drop (off + v.length)

/-- Add to the 64-bit correctionField at an offset. -/
def addCorr (off : Nat) (d : Int) (b : Bytes) : Bytes :=
  putBytes off (beBytes 8 (ofSigned 64 (toSigned 64 (fldBE b off 8) + d))) b

/-- INSERT of an egress stamp (R261). -/
def applyInsert (s : State) (i : Insert) (stamp : Nat) (b : Bytes) : Bytes :=
  let x := match i.fmt with
    | 0 => addCorr i.corrOffset (subNs stamp) (putBytes i.tsOffset (ts80 stamp) b)
    | 1 => addCorr i.tsOffset ((stamp : Int) - i.refTime) b
    | 2 => putBytes i.tsOffset (beBytes 8 (ntpOf (utcPlain s stamp))) b
    | _ => putBytes i.tsOffset (tsBytes stamp) b
  fixChecksum i.csumOffset b x

/-- An engine message without a launch time is queued (R321). -/
def queueEngine (p : Nat) (bytes : Bytes) (i : Nat) (u : Suit) (s : State) : State :=
  let n := cellsOf (bytes.length + 4)
  enqueue p { bytes, prio := (portCfg s p).defaultPrio, tag := .engine i, suit := some u, cells := n } (takeCells u n s)

/-- MAX_TURN of an answered request (R309). -/
def noteTurn (k : Kind) (turnPs : Nat) (s : State) : State :=
  let ns := ceilDiv turnPs 1000
  if k = .nts then updSvc (fun v => { v with maxTurn4 := max v.maxTurn4 ns }) s
  else if k = .receipt then s
  else updSvc (fun v => { v with maxTurn2 := max v.maxTurn2 ns }) s

/-- What follows the egress of a frame: its outcome, its report (R260, R295, R321). -/
def afterEgress (p : Nat) (f : TxFrame) (stamp plane : Nat) (s : State) : State :=
  let answered := fun (k : Kind) (origin : Nat) (s : State) =>
    noteTurn k (plane - origin) (filterFrame 8 (f.suit.getD .spades) p (f.bytes.length + 4) (portCount p 12 (suitCount (f.suit.getD .spades) 10 s)))
  match f.tag with
  | .response k origin _ =>
    let s := answered k origin s
    if k = .receipt then bump (64 * 11 + 39) (receiptGone k (updNtp (fun n => { n with issued := add48 n.issued 1 }) s)) else s
  | .sync i bp seq g =>
    match instCfg s i, bindCfg s i bp with
    | some c, some b => let (x, s) := buildFollowUp bp c b g seq stamp s; queueEngine p x i .spades s
    | _, _ => s
  | .pdelayResp i bp req origin =>
    let s := answered .pdelayReq origin s
    match instCfg s i, bindCfg s i bp, ptpView req with
    | some c, some b, some v => let (x, s) := buildPdelayFu bp c b v stamp s; queueEngine p x i .spades s
    | _, _, _ => s
  | .delayReq i bp seq => updBind i bp (fun b => { b with request := some (seq, stamp, s.time.stepEpoch), pdelay := none }) s
  | .engine _ => s
  | .host r a b rep => hostDone p r a b rep f.late (if f.late then 1 else 0) stamp s

/-- A frame leaves: its first bit is at the ball now (R254, R255, R263). -/
def sendFrame (p : Nat) (f : TxFrame) (s : State) : State :=
  let c := portCfg s p
  let len := max 60 f.bytes.length + 4
  let bt := byteTime c.mode
  let stamp := if f.launchForm && f.launch.isSome then f.stamp else ((stampNow s : Int) + c.txDelay).toNat
  let bytes := match f.insert with | some i => applyInsert s i stamp f.bytes | none => f.bytes
  let plane := ((s.now : Int) + delayPs c.txDelay).toNat
  let s := emit (.frame p stamp (padFrame bytes)) (updPort p (fun r => { r with lineFree := s.now + (len + 12) * bt }) s)
  afterEgress p f stamp plane (countFrame p true plane len (releaseFrame f (portCount p 3 s)))

/-- A timed frame is taken off its queue and the calendar. -/
def unqueue (p : Nat) (f : TxFrame) (s : State) : State :=
  updPort p (fun r => { r with timed := r.timed.erase f, calendar := r.calendar.filter (fun e => some e.1 != f.launch) }) s

/-- A Trick engine response that missed its launch: late or paused (R26, R263, R295). -/
def missResponse (p : Nat) (f : TxFrame) (paused : Bool) (s : State) : State :=
  let s := releaseFrame f (portCount p (if paused then 8 else 9) s)
  let out := fun (s : State) =>
    let s := match f.suit with | some u => suitCount u (if paused then 11 else 14) s | none => s
    if paused then s else raise 9 1 s
  match f.tag with
  | .response k _ _ => receiptGone k (out s)
  | .pdelayResp _ _ _ _ => out s
  | _ => s

/-- A host frame that missed its launch (R263). -/
def missHost (p : Nat) (f : TxFrame) (s : State) : State :=
  match f.tag with
  | .host r a b rep =>
    if lateSendTrue (portCfg s p) && !f.launchForm then
      updPort p (fun x => { x with untimed := { f with launch := none, late := true } :: x.untimed }) s
    else hostDone p r a b rep false 2 0 (releaseFrame f (portCount p 9 s))
  | _ => s

/-- A bound cancel (R25, R295). -/
def boundCancel (p : Nat) (f : TxFrame) (s : State) : State :=
  let s := raise 9 3 (releaseFrame f (portCount p 13 s))
  let s := match f.suit with | some u => suitCount u 12 s | none => s
  match f.tag with
  | .response .receipt _ _ => receiptGone .receipt (updNtp (fun n => { n with boundCancels := add48 n.boundCancels 1 }) s)
  | _ => s

/-- The bound in force is above the bound that a frame carries (R25). -/
def boundRisen (s : State) (p : Nat) (f : TxFrame) : Bool :=
  match f.bound with
  | none => false
  | some b =>
    if b ≥ unboundedPs * 256 then false
    else match capB (addB (servedBound s p s.now) (some f.halfUnit)) with
      | none => true
      | some v => decide (v > b)

def isHost (f : TxFrame) : Bool := match f.tag with | .host _ _ _ _ => true | _ => false

/-- The head of a port's timed queue reaches its launch instant (R25, R26, R263, R277, R293). -/
def timedLaunch (p : Nat) (s : State) : State :=
  match (portOf s p).timed with
  | [] => s
  | f :: _ =>
    let l := f.launch.getD 0
    let s := moveTo l s
    let s := unqueue p f s
    let paused := isPaused s p f.prio
    let bt := portByte s p
    let span := lineSpan bt (l, f.bytes.length + 4)
    let clash := isHost f && (portOf s p).calendar.any (fun e => let x := lineSpan bt e; decide (x.1 < span.2 ∧ span.1 < x.2))
    let late := decide (s.now > l) || decide ((portOf s p).lineFree > l) || clash || !txEnabled s p
    if paused || late then (if isHost f then missHost p f s else missResponse p f paused s)
    else if boundRisen s p f then boundCancel p f s
    else sendFrame p f s

/-- The untimed frame that may start: strict priority, not paused (R263). -/
def nextUntimed (s : State) (p : Nat) : Option TxFrame :=
  let l := (portOf s p).untimed.filter fun f => !isPaused s p f.prio
  l.foldl (fun m f => match m with | none => some f | some g => if f.prio > g.prio then some f else m) none

/-- An untimed frame starts when it fits before the next timed launch (R263). -/
def untimedTx (p ps : Nat) (s : State) : State :=
  let s := begin_ ps s
  match nextUntimed s p with
  | none => s
  | some f =>
    let bt := portByte s p
    let start := (committedSpans s p).foldl (fun t e => if e.1 ≤ t ∧ t < e.2 then e.2 else t) (max s.now (portOf s p).lineFree) + 8 * bt
    let stop := start + (max 60 f.bytes.length + 4 + 12) * bt
    let launches := (portOf s p).timed.filterMap (·.launch) ++ (portOf s p).calendar.map (·.1)
    let fits := launches.all (fun l => decide (l < s.now ∨ stop + 8 * bt ≤ l))
    if !txEnabled s p || !fits then s
    else sendFrame p f (updPort p (fun r => { r with untimed := r.untimed.erase f }) (moveTo start s))

end Sys2Proof.Machine
end

