-- ==== Sys2Proof/Machine/Svc.lean ====
section
/-! DEFINITION. The meanings of the packet service's rows (chapter 10). -/
namespace Sys2Proof.Machine
open Sys2Proof Host

/-! ### Receiving and classifying (R250, R251, R284, R299, R301, R304) -/

/-- What the rows of R284 make of a frame. -/
inductive Rough where
  | malformed
  | clubs (code : Nat)
  | esmc
  | ptp (b : BindCfg) (v : PtpView)
  | ntp (inst : Nat) (u : UdpView)
  | receipt (u : UdpView)
  deriving DecidableEq, Repr

/-- The NTP instance that owns a service address entry of a port (R350). -/
def ownerOf (s : State) (p k : Nat) : Nat :=
  ((List.range 16).find? fun i => bit (nth s.work.ntp i).portMask p && bit (nth s.work.ntp i).addrMask k).getD 0

/-- Rows 4 and 5 for a PTP frame. -/
def roughPtp (s : State) (p : Nat) (v : PtpView) : Option Rough :=
  match bindingFor s p v with
  | some b =>
    let m := msgType v.msg
    if m = 13 then some (.clubs 2)
    else if m ≤ 3 ∨ (8 ≤ m ∧ m ≤ 12) then some (.ptp b v)
    else some (.clubs 0)
  | none => if atPtpAddress s p v then some (.clubs 3) else none

/-- The rows of R284 in order. -/
def roughOf (s : State) (p : Nat) (f : Bytes) : Rough :=
  let e := ethOf f
  let tci := tciOf e.tags
  match ipOf f.length e with
  | .malformed => .malformed
  | .special => .clubs 1
  | ip =>
    if isEsmc e then (if esmcRxOn s p then .esmc else .clubs 6)
    else match (ptpView f).bind (roughPtp s p) with
    | some r => r
    | none =>
      match ip with
      | .udp u =>
        match svcEntry s p u.v6 e.da u.dst tci with
        | none => .clubs 0
        | some k =>
          if u.dport = 123 then
            let ver := fldBE u.payload 0 1 / 8 % 8
            if u.payload.length ≥ 48 ∧ (ver = 3 ∨ ver = 4) ∧ fldBE u.payload 0 1 % 8 = 3 then .ntp (ownerOf s p k) u else .clubs 4
          else if u.dport = s.work.rcpt.udpPort then .receipt u
          else .clubs 0
      | _ => .clubs 0

/-- A Clubs frame that finds no buffer: a BUFFER refusal (R299). -/
def clubsRefusal (p len : Nat) (s : State) : State := filterFrame 7 .clubs p len (suitCount .clubs 2 s)

/-- A frame is charged to its Suit, or dropped (R299); `none` when it was dropped. -/
def chargeFrame (u : Suit) (p prio len : Nat) (s : State) : Option State :=
  let n := cellsOf len
  if canTake s u n then some (addOccupancy p prio len (takeCells u n s)) else none

/-- The Clubs tokens at present (R301), in units of 1/10¹² of a frame. -/
def clubsTokens (s : State) : Nat :=
  min (s.work.svc.clubsBurst * 10 ^ 12) (s.svc.tokens + s.work.svc.clubsRate * (s.now - s.svc.tokensAt))

/-- A Clubs shed (R301). -/
def clubsShed (s : State) : State :=
  let (h, s) := onceInHand 9 7 s.svc.shedHand (bump (64 * 9 + 35) (suitCount .clubs 15 s))
  updSvc (fun v => { v with shedHand := h }) s

/-- The receive ring of a Clubs frame (R507). -/
def ringFor (s : State) (p code : Nat) : Option Nat :=
  (List.range 96).find? fun r =>
    let c := nth s.work.rings r
    (ringOf s r).enable && c.use == 1 && bit c.portMask p && bit c.codeMask code

/-- A Clubs frame: the bucket, its ring, its cells (R299, R301, R507). -/
def takeClubs (p prio code : Nat) (f : Bytes) (stamp : Nat) (s : State) : State :=
  let s := filterFrame 5 .clubs p (f.length + 4) (suitCount .clubs 0 s)
  let rate := s.work.svc.clubsRate
  let tok := clubsTokens s
  if rate ≠ 0 ∧ tok < 10 ^ 12 then clubsShed s
  else
    let s := if rate = 0 then s else updSvc (fun v => { v with tokens := tok - 10 ^ 12, tokensAt := s.now }) s
    match ringFor s p code with
    | none => raise 0 10 (bump 38 { s with host := { s.host with noRingDrops := add48 s.host.noRingDrops 1 } })
    | some r =>
      match chargeFrame .clubs p prio (f.length + 4) s with
      | none => clubsRefusal p (f.length + 4) s
      | some s =>
        filterFrame 6 .clubs p (f.length + 4) <| suitCount .clubs 1 (updRing r (fun g => { g with
          queue := g.queue ++ [{ data := f, stamp, uncal := !(portOf s p).calOk, code, port := p, prio }] }) s)

/-- A request joins those that wait for admission, in the order of FCS verdicts and of ports (R290, R305). -/
def awaitAdmission (q : Request) (s : State) : State :=
  updSvc (fun v => { v with
    waiting := insertBy (fun a b => decide (a.tV < b.tV) || (a.tV == b.tV && decide (a.port < b.port))) { q with id := v.nextId } v.waiting
    nextId := v.nextId + 1 }) s

/-- A frame of a request's Suit has been classified (R284, R542). -/
def classified (q : Request) (s : State) : State := filterFrame 5 q.suit q.port (q.frame.length + 4) (suitCount q.suit 0 s)

/-- A request is charged and waits for admission, or is refused for buffer (R290, R299). -/
def takeRequest (q : Request) (s : State) : State :=
  let s := classified q s
  match chargeFrame q.suit q.port q.prio (q.frame.length + 4) s with
  | none => countRefusal q 2 s
  | some s => awaitAdmission { q with cells := cellsOf (q.frame.length + 4) } s

/-- The kind and the response length of a PTP message on a binding (R286). -/
def ptpKind (s : State) (b : BindCfg) (v : PtpView) : Kind × Nat :=
  match instCfg s b.inst with
  | none => (.ptpInput, 0)
  | some c =>
    let len := fun (n : Nat) => ptpFrameLen b.transport v.tags.length n
    let ml := msgLen s b.inst b.port c
    match msgType v.msg with
    | 1 => (.delayReq, len (ml mDelayResp))
    | 2 => (.pdelayReq, len (ml mPdelayResp))
    | 12 =>
      let n := signalAnswerLen v.msg
      (.signaling, if n = 0 then 0 else len (44 + n + sealLen s c))
    | _ => (.ptpInput, 0)

/-- A PTP frame of a bound instance (R284, R286, R332). -/
def takePtp (q : Request) (b : BindCfg) (v : PtpView) (s : State) : State :=
  let m := msgType v.msg
  let (kind, len) := ptpKind s b v
  let annexP := match instCfg s b.inst with | some c => authCost s c v.msg | none => 0
  let suit : Suit := if m ≤ 3 then .spades else .hearts
  let s := if suit = .spades then learnSpades q.port q.prio s else s
  let (ok, s) := if m = 1 ∧ servesUnicast b ∧ !atGroup b v then delayReqOk b.inst q.port v q.tIn s else (true, s)
  if !ok then classified { q with suit } s
  else takeRequest { q with suit, kind, inst := b.inst, annexP, respLen := len } s

/-- A Diamonds frame for NTP (R350, R352). -/
def takeNtp (q : Request) (inst : Nat) (u : UdpView) (stamp : Nat) (s : State) : State :=
  match sortNtp inst u s with
  | (.drop, s) => classified { q with suit := .diamonds } s
  | (.clubs code, s) => takeClubs q.port q.prio code q.frame stamp s
  | (.serve kind kiss len, s) =>
    takeRequest { q with suit := .diamonds, kind, inst, kiss, respLen := udpFrameLen u.v6 (ethOf q.frame).tags.length len } s

/-- A Diamonds frame for receipts (R364, R366). -/
def takeReceipt (q : Request) (u : UdpView) (s : State) : State :=
  let (ok, s) := chargeToken u.v6 u.src s
  let s := if ok then s else noteOverRate s
  let drop := classified { q with suit := .diamonds }
  if !ok && s.work.rate.action != 0 then
    drop (updNtp (fun n => { n with rateDrops := add48 n.rateDrops 1 }) (bump (64 * 11 + 38) s))
  else if !rcptFormOk u.payload then drop (noteMalformed (updNtp (fun n => { n with rcptMalformed := add48 n.rcptMalformed 1 }) s))
  else if !s.time.valid then drop (updNtp (fun n => { n with noTime := add48 n.noTime 1 }) s)
  else if !s.work.rcpt.enable || s.ntp.seed.isEmpty then drop (raise 11 5 (updNtp (fun n => { n with noKey := add48 n.noKey 1 }) s))
  else takeRequest { q with suit := .diamonds, kind := .receipt, respLen := q.frame.length + 4 } s

/-- A frame that a Dummy discards has been classified, and its priority joins the Spades mask (R270, R304). -/
def discarded (q : Request) (r : Rough) (s : State) : State :=
  let u : Suit := match r with
    | .ptp _ v => if msgType v.msg ≤ 3 then .spades else .hearts
    | _ => .diamonds
  classified { q with suit := u } (if u = .spades then learnSpades q.port q.prio s else s)

/-- A frame that the MAC passes on is classified (R284, R304). -/
def classify (p ps : Nat) (f : Bytes) (s : State) : State :=
  let e := ethOf f
  let c := portCfg s p
  let prio := match e.tci with | some t => t / 8192 % 8 | none => c.defaultPrio
  let ball := s.now - (f.length + 4) * byteTime c.mode
  let plane := ((ball : Int) - delayPs c.rxDelay).toNat
  let (raw, epoch) := pastStamp s ball
  let stamp := ((raw : Int) - c.rxDelay).toNat
  let q : Request := { port := p, prio, frame := f, tIn := plane, tV := ps, stamp, epoch, boundIn := counterBoundAt ball s, modeIn := boundMode s }
  let dummy := svcClosed s
  match roughOf s p f with
  | .malformed => bump (64 * 9 + 32) s
  | .clubs code =>
    if dummy && sharedLane c then (if s.work.svc.mirrorClubs then takeClubs p prio 7 f stamp s else s)
    else takeClubs p prio code f stamp s
  | .esmc => takeRequest { q with suit := .hearts, kind := .ptpInput } s
  | r =>
    if dummy then bump (64 * 9 + 34) (discarded q r s)
    else match r with
    | .ptp b v => takePtp q b v s
    | .ntp i u => takeNtp q i u stamp s
    | .receipt u => takeReceipt q u s
    | _ => s

/-- A MAC control frame: pause and PFC take effect 50 ns later (R250, R266, R267). -/
def macControl (p : Nat) (f : Bytes) (s : State) : State :=
  let op := fldBE f 14 2
  let mode := (nth s.work.flows p).rxMode
  let due := fun (l : List (Nat × Nat)) (s : State) => updPort p (fun r => { r with pauses := r.pauses ++ [(s.now + 50000, l)] }) s
  if op = 0x0001 then
    let s := portCount p 4 s
    if mode = 1 then due ((List.range 8).map fun k => (k, fldBE f 16 2)) s else s
  else if op = 0x0101 then
    let s := portCount p 4 s
    let v := fldBE f 16 2
    if mode = 2 then
      due ((onesBelow 8 (v &&& (nth s.work.flows p).rxPfcMask)).map fun k => (k, fldBE f (18 + 2 * k) 2)) s
    else s
  else portCount p 2 s

/-- A frame's FCS verdict (R250, R251). `f` is the frame without its FCS. -/
def frameRx (p ps : Nat) (fcsOk : Bool) (f : Bytes) (s : State) : State :=
  let s := begin_ ps s
  let c := portCfg s p
  let len := f.length + 4
  if (portOf s p).state != .up || !running s then s
  else
    let y := s
    let s := countFrame p false (((s.now - len * byteTime c.mode : Nat) : Int) - delayPs c.rxDelay).toNat len s
    if len < 64 ∨ len > c.maxFrame then portCount p 2 s
    else if !fcsOk then portCount p 1 y
    else if fldBE f 12 2 = 0x8808 then macControl p f s
    else if promiscuous c || fldBE f 0 6 == c.mac || isGroup (fldBE f 0 6) then classify p ps f (portCount p 0 s)
    else s

def execFrameRx (port t : Nat) (fcsOk : Bool) (bytes : Bytes) (s : State) : Outcome State Fault Refusal :=
  .next (frameRx port t fcsOk bytes s)

/-! ### Admission and jobs (R288 to R297) -/

/-- Admission decides the first waiting request (R290, R297, R304, R339). -/
def admissionDecision (ps : Nat) (s : State) : State :=
  let s := begin_ ps s
  match s.svc.waiting with
  | [] => s
  | q :: rest =>
    let s := updSvc (fun v => { v with waiting := rest }) s
    if svcClosed s && !isEsmc (ethOf q.frame) then
      if q.kind = .ptpScheduled then scheduleSkip s else bump (64 * 9 + 34) (releaseRequest q s)
    else match decideReq s q with
    | .refuse k => refuseReq q k s
    | .take h lane l => commitJob q h lane l s

def execAdmissionDecision (t : Nat) (s : State) : Outcome State Fault Refusal := .next (if running s then admissionDecision t s else begin_ t s)

def execTrickJob (h : Nat) (s : State) : Outcome State Fault Refusal := .next (whileRunning (endStretch h) { s with out := [] })

def execCryptoLaneDone (h : Nat) (s : State) : Outcome State Fault Refusal := .next (whileRunning (laneReturn h) { s with out := [] })

def execTimedLaunch (port : Nat) (s : State) : Outcome State Fault Refusal := .next (whileRunning (timedLaunch port) { s with out := [] })

def execFrameTx (port t : Nat) (s : State) : Outcome State Fault Refusal := .next (if running s then untimedTx port t s else begin_ t s)

/-- Free cells have stayed high for 1 ms (R300). -/
def shedEnd (s : State) : State :=
  match s.svc.shedding, s.svc.freeSince with
  | true, some t => raise 9 5 (updSvc (fun v => { v with shedding := false, freeSince := none }) (moveTo (t + msPs) s))
  | _, _ => s

def execShedEnd (s : State) : Outcome State Fault Refusal := .next (whileRunning shedEnd { s with out := [] })

/-- The receipt of a request whose job is discarded stays a leaf of its batch and is never sent (R295, R303). -/
def dropReceipt (q : Request) (s : State) : State :=
  let mark := fun (b : Batch) => { b with leaves := b.leaves.map fun r => if r.request = q.id then { r with dropped := true } else r }
  receiptGone .receipt (updNtp (fun n => { n with open_ := n.open_.map mark, closed := n.closed.map mark }) s)

/-- One job of a faulty engine is discarded (R295, R303). -/
def faultDrop (s : State) (j : Nat) : State :=
  let jb := jobOf s j
  let s := if jb.done = 0 && (match (threadOf s jb.thread).running with | some (k, _) => k != j | none => true) then releaseRequest jb.req s else s
  let s := bump (64 * 9 + 36) (suitCount jb.req.suit 15 (releaseSlot jb s))
  let s := if jb.req.kind == .receipt then dropReceipt jb.req s else s
  let s := if jb.launch = 0 && jb.req.kind != .receipt then s else raise 9 1 s
  updSvc (fun v => { v with jobs := delKey j v.jobs }) s

/-- A Trick engine is declared faulty (R303). -/
def engineFault (e ps : Nat) (s : State) : State :=
  let s := begin_ ps s
  if e ≥ 16 || bit s.svc.faulty e then s
  else
    let js := (s.svc.jobs.filter (fun x => x.2.thread / 4 == e)).map (·.1)
    let s := js.foldl faultDrop s
    let s := ([0, 1, 2, 3] : List Nat).foldl (fun s t => updThread (4 * e + t) (fun _ => {}) s) s
    selfFault 7 e (raiseIdx 9 2 e (updSvc (fun v => { v with faulty := setBit v.faulty e }) s))

def execEngineFault (e t : Nat) (s : State) : Outcome State Fault Refusal := .next (if running s then engineFault e t s else begin_ t s)

/-! ### Scheduled transmissions (R297, R320) -/

/-- Interval in 2⁻¹⁶ ns, phase in 2⁻¹⁶ ns and SEQ_BASE of a schedule; none when it does not run (R314, R320, R331, R340). -/
def scheduleOf (s : State) (i p mtype : Nat) (g : Option Nat) : Option (Nat × Nat × Nat) :=
  match instCfg s i, bindCfg s i p with
  | some c, some b =>
    let st := (bindRun s i p).state
    let per := fun (l : Int) => logPs l * 65536 / 1000
    match g with
    | some k =>
      match getKey k s.ptp.grants with
      | some e =>
        if e.inst = i ∧ e.port = p ∧ e.mtype = mtype ∧ mtype ≠ mDelayResp ∧ !e.cancelSent ∧ st = .master ∧ e.expiry > rawMs s then
          some (per e.logInterval, e.phase * 524288, e.seqBase)
        else none
      | none => none
    | none =>
      if mtype = mSync ∧ st = .master ∧ sendsMulticast b ∧ takesPtp s i p c then some (per c.logSync, c.syncPhase.toNat, 0)
      else if mtype = mAnnounce ∧ st = .master ∧ sendsMulticast b ∧ takesPtp s i p c then some (per c.logAnnounce, 0, 0)
      else if mtype = mDelayReq ∧ !isP2P c ∧ (st = .slave ∨ st = .uncalibrated) ∧ !freqOnlyInst c then some (per (delayLogOf s i p), 0, 0)
      else if mtype = mPdelayReq ∧ isP2P c ∧ st ≠ .initializing then some (per c.logDelay, 0, 0)
      else none
  | _, _ => none

/-- A scheduled instant's job is presented 2,000 ns ahead (R297, R320). -/
def scheduledPresent (i p mtype : Nat) (g : Option Nat) (s : State) : State :=
  if (portOf s p).state != .up || !running s then s
  else match scheduleOf s i p mtype g, instCfg s i, bindCfg s i p with
  | some (per, phase, base), some c, some b =>
    let cur := curTs s
    let k := ((cur : Int) + 131072000 - phase) / (per : Int) + 1
    let inst := (k * per + phase).toNat
    let s := moveToCounter ((inst - 131072000) * 2 ^ 32) s
    if (scheduleOf s i p mtype g).isNone then s
    else if svcClosed s then scheduleSkip s
    else
      let ps := s.now + (inst * 2 ^ 32 - s.time.counter.total) * tickPs / max 1 (nextInc s.time)
      let tags := match grantDest s g with | .one _ _ t => t | .group => []
      let prio := if tags.isEmpty then (portCfg s p).defaultPrio else fldBE tags 2 2 / 8192 % 8
      awaitAdmission { port := p, prio, suit := if mtype = mSync then .spades else .hearts, kind := .ptpScheduled
                       work := .scheduled i p mtype g inst ((base + k.toNat) % 65536), tIn := ps, tV := s.now, inst := i, annexP := txAuth s c
                       respLen := ptpFrameLen b.transport tags.length (msgLen s i p c mtype) } s
  | _, _, _ => s

def execScheduledPresent (inst port mtype : Nat) (grant : Option Nat) (s : State) : Outcome State Fault Refusal :=
  .next (scheduledPresent inst port mtype grant { s with out := [] })

/-! ### Receipts (R296, R369) -/

/-- The open batch reaches 8.0 ms after its first leaf (R296). -/
def batchClose (s : State) : State :=
  match s.ntp.open_ with
  | none => s
  | some b => closeBatch (moveTo (b.first + 8 * msPs) s)

def execBatchClose (s : State) : Outcome State Fault Refusal := .next (whileRunning batchClose { s with out := [] })

/-- One response of a signed batch takes its launch slot (R296). -/
def sendReceipt (s : State) (x : Receipt × Bytes) : State :=
  let (r, payload) := x
  let bytes := answerFrame s r.port r.frame payload
  let l := findLaunch s r.port (bytes.length + 4) (gridUp s r.port (s.now + 80000))
  let f : TxFrame := { bytes, prio := r.prio, stamp := stampOfLaunch s r.port l, launch := some l, tag := .response .receipt r.tIn 0
                       suit := some .diamonds, bound := some r.bound }
  if r.dropped then s
  else if (portOf s r.port).state != .up then linkDrop r.port s f
  else enqueue r.port f (updPort r.port (fun g => { g with calendar := g.calendar ++ [(l, bytes.length + 4)] }) s)

/-- The signature of the oldest closed batch completes (R296, R367, R369). -/
def batchSigned (ps : Nat) (s : State) : State :=
  let s := begin_ ps s
  match s.ntp.closed with
  | [] => s
  | b :: rest =>
    let (payloads, root) := signBatch b
    let s := bump (64 * 11 + 40) (updNtp (fun n => { n with
      closed := rest, lastBatchId := b.id, lastBatchSize := b.leaves.length, lastRoot := root, batches := add48 n.batches 1 }) s)
    (b.leaves.zip payloads).foldl sendReceipt s

def execBatchSigned (t : Nat) (s : State) : Outcome State Fault Refusal := .next (if running s then batchSigned t s else begin_ t s)

/-! ### Commands (R307 to R309) -/

def svcAddrAt (p : Bytes) (k : Nat) : SvcAddr :=
  let v6 := fld p (48 + 24 * k) 1 == 6
  { v6, vlan := fld p (50 + 24 * k) 2, addr := fldBE p (56 + 24 * k) (if v6 then 16 else 4) }

/-- The address entries of SVC_CONFIGURE. -/
def svcEntries (p : Bytes) : Nat := if bit (fld p 0 1) 1 then min 8 (fld p 2 1) else 0

/-- The fields of SVC_CONFIGURE (R307). -/
def svcFields (p : Bytes) : List Fld :=
  let buf := bit (fld p 0 1) 0
  let port := bit (fld p 0 1) 1
  let clubs := bit (fld p 0 1) 2
  let pool : Int := 48000 - fld p 4 4 - fld p 8 4 - fld p 12 4 - fld p 16 4 - fld p 20 4
  let capOk := fun (v : Nat) => if buf then decide (pool < 0) || decide ((v : Int) ≤ pool) else v == 0
  [inF 0 1 0 15, whenF port 1 1 0 15, whenF port 2 1 0 8, rsvF 3 1,
    F 4 4 (fun v => if buf then decide (pool ≥ 0) else v == 0), whenF buf 8 4 0 49152, whenF buf 12 4 0 49152, whenF buf 16 4 0 49152,
    whenF buf 20 4 0 49152, F 24 4 capOk, F 28 4 capOk, whenF buf 32 4 0 0xFFFFFFFF, whenF clubs 36 4 0 0xFFFFFFFF,
    F 40 4 (fun v => if clubs && fld p 36 4 != 0 then decide (1 ≤ v ∧ v ≤ 65535) else clubs || v == 0), rsvF 44 4]

/-- The fields of an address entry (R307). -/
def svcAddrFields (p : Bytes) (k : Nat) : List Fld :=
  [F (48 + 24 * k) 1 (fun v => v == 4 || v == 6), rsvF (49 + 24 * k) 1, F (50 + 24 * k) 2 (fun v => v / 8192 % 4 == 0), rsvF (52 + 24 * k) 4,
    F (56 + 24 * k) 16 (fun _ => fld p (48 + 24 * k) 1 != 4 || fld p (60 + 24 * k) 12 == 0)]

/-- What SVC_CONFIGURE writes into the shadow set (R307). -/
def svcApply (p : Bytes) (c : Cfg) : Cfg :=
  let v := c.svc
  let v := if bit (fld p 0 1) 0 then
      { v with
        resSpades := fld p 4 4, resHearts := fld p 8 4, resDiamonds := fld p 12 4, resClubs := fld p 16 4
        resTx := fld p 20 4, capDiamonds := fld p 24 4, capClubs := fld p 28 4, shedFree := fld p 32 4 } else v
  let v := if bit (fld p 0 1) 2 then { v with clubsRate := fld p 36 4, clubsBurst := fld p 40 4 } else v
  { c with
    svc := { v with mirrorClubs := bit (fld p 0 1) 3 }
    svcAddrs := if bit (fld p 0 1) 1 then upd c.svcAddrs (fld p 1 1) (fun _ => (List.range (svcEntries p)).map (svcAddrAt p)) else c.svcAddrs }

def hSvcConfigure : Handler := fun q s =>
  checkedN q 48 (svcFields q.params) (svcEntries q.params) 24 (svcAddrFields q.params) <| writes (svcApply q.params) s

def execSvcConfigure (q : Req) (s : State) : Outcome State Fault Refusal := cmdRow 0x0900 hSvcConfigure q s

/-- The reply of SVC_ADMISSION (R308). -/
def admReply (a : AdmCfg) : Bytes :=
  zeros 2 ++ leBytes 2 a.engineMask ++ leBytes 4 a.spadesReserve ++ leBytes 4 a.heartsReserve ++ leBytes 2 a.targetPtp ++ leBytes 2 a.targetNtp ++
  leBytes 2 a.targetNts ++ zeros 2 ++ leBytes 4 a.rcptMax ++ zeros 8

/-- The fields of SVC_ADMISSION against the values in force (R308). -/
def admFields (old : AdmCfg) (p : Bytes) : List Fld :=
  let fl := fld p 0 1
  let rs := bit fl 0
  let tg := bit fl 1
  let sr := if rs then fld p 4 4 else old.spadesReserve
  let hr := if rs then fld p 8 4 else old.heartsReserve
  let tn := if tg then fld p 14 2 else old.targetNtp
  let ts := if tg then fld p 16 2 else old.targetNts
  let limNtp := decide (900 + sr + hr ≤ tn ∧ tn ≤ 1950)
  let limNts := decide (2200 + sr + hr ≤ ts ∧ ts ≤ 3950)
  [inF 0 1 0 15, rsvF 1 1, setIf (bit fl 2) 2 2 (fun v => v != 0),
    setIf rs 4 4 (fun v => decide (v + hr ≤ 1050) && (tg || (limNtp && limNts))),
    setIf rs 8 4 (fun _ => true), setF tg 12 2 1200 1950, setIf tg 14 2 (fun _ => limNtp),
    setIf tg 16 2 (fun _ => limNts), rsvF 18 2, setF (bit fl 3) 20 4 1 24576, rsvF 24 8]

/-- What SVC_ADMISSION writes (R308). -/
def admApply (p : Bytes) (c : AdmCfg) : AdmCfg :=
  let fl := fld p 0 1
  { c with
      engineMask := if bit fl 2 then fld p 2 2 else c.engineMask
      spadesReserve := if bit fl 0 then fld p 4 4 else c.spadesReserve
      heartsReserve := if bit fl 0 then fld p 8 4 else c.heartsReserve
      targetPtp := if bit fl 1 then fld p 12 2 else c.targetPtp
      targetNtp := if bit fl 1 then fld p 14 2 else c.targetNtp
      targetNts := if bit fl 1 then fld p 16 2 else c.targetNts
      rcptMax := if bit fl 3 then fld p 20 4 else c.rcptMax }

def hSvcAdmission : Handler := fun q s =>
  checked q 32 (admFields s.work.adm q.params) <|
  if fld q.params 0 1 = 0 then .done (admReply s.work.adm) s
  else .done (admReply s.work.adm) (shadowed (fun c => { c with adm := admApply q.params c.adm }) s)

def execSvcAdmission (q : Req) (s : State) : Outcome State Fault Refusal := cmdRow 0x0901 hSvcAdmission q s

def perfOf (s : State) (n : Nat) : Nat := (getKey n s.perf).getD 0

/-- The reply of SVC_STATUS (R309). -/
def svcStatusReply (s : State) : Bytes :=
  let v := s.svc
  let empty := s.work.svc.clubsRate != 0 && decide (clubsTokens s < 10 ^ 12)
  leBytes 1 (packBits [v.shedding, running s && !svcClosed s, empty]) ++ zeros 1 ++
  leBytes 2 (packBits ((List.range 16).map (engineUsable s))) ++ leBytes 4 (sharedFree s) ++
  suits.flatMap (fun u => leBytes 4 (suitCells s u)) ++ leBytes 4 v.txCells ++ leBytes 4 s.ntp.pending ++ leBytes 4 v.maxTurn2 ++
  leBytes 4 v.maxTurn4 ++ leBytes 8 (perfOf s (64 * 9 + 32)) ++ leBytes 8 (perfOf s (64 * 9 + 33)) ++ leBytes 8 (perfOf s (64 * 9 + 34)) ++
  v.counters.flatMap (fun l => l.flatMap (leBytes 8))

def hSvcStatus : Handler := fun q s => checked q 0 [] (.done (svcStatusReply s) s)

def execSvcStatus (q : Req) (s : State) : Outcome State Fault Refusal := cmdRow 0x0902 hSvcStatus q s

/-- What a commit does to the service: a new Clubs bucket starts full (R301). -/
def svcCommit (old : Cfg) (s : State) : State :=
  let c := s.work.svc
  let s := if c.clubsRate ≠ old.svc.clubsRate ∨ c.clubsBurst ≠ old.svc.clubsBurst then
      updSvc (fun v => { v with tokens := c.clubsBurst * 10 ^ 12, tokensAt := s.now }) s else s
  shedCheck s

end Sys2Proof.Machine
end

