-- ==== Sys2Proof/Machine/Ptp.lean ====
section
/-! DEFINITION. The meanings of the PTP rows (chapter 11). -/
namespace Sys2Proof.Machine
open Sys2Proof Host

/-! ### Profiles (R314) -/

/-- Ranges of a profile. -/
structure Profile where
  l2 : Bool
  udp4 : Bool
  udp6 : Bool
  domLo : Nat
  domHi : Nat
  /-- Unicast negotiation: 0 none, 1 allowed, 2 required. -/
  unicast : Nat
  sync : Int × Int
  announce : Int × Int
  delay : Int × Int

def profileOf (n : Nat) : Profile :=
  match n with
  | 0 => { l2 := true, udp4 := true, udp6 := true, domLo := 0, domHi := 127, unicast := 1, sync := (-7, 1), announce := (-3, 4), delay := (-7, 5) }
  | 1 => { l2 := true, udp4 := true, udp6 := true, domLo := 0, domHi := 127, unicast := 0, sync := (-7, 1), announce := (-3, 4), delay := (-7, 5) }
  | 2 => { l2 := true, udp4 := false, udp6 := false, domLo := 24, domHi := 43, unicast := 0, sync := (-4, -4), announce := (-3, -3), delay := (-4, -4) }
  | 3 => { l2 := false, udp4 := true, udp6 := true, domLo := 44, domHi := 63, unicast := 2, sync := (-7, 0), announce := (-3, 0), delay := (-7, 0) }
  | 4 => { l2 := true, udp4 := false, udp6 := false, domLo := 0, domHi := 0, unicast := 0, sync := (-7, 1), announce := (-3, 1), delay := (-7, 1) }
  | 5 => { l2 := false, udp4 := true, udp6 := false, domLo := 0, domHi := 127, unicast := 1, sync := (-7, -1), announce := (-3, 1), delay := (-7, 5) }
  | _ => { l2 := false, udp4 := true, udp6 := false, domLo := 0, domHi := 127, unicast := 0, sync := (-4, 1), announce := (-3, 4), delay := (-3, 5) }

/-- A signed log₂ byte within a range. -/
def logF (off : Nat) (r : Int × Int) : Fld := F off 1 (fun v => decide (r.1 ≤ toSigned 8 v ∧ toSigned 8 v ≤ r.2))

/-! ### Instances (R342 to R344) -/

/-- A new instance with the reset values of R343. -/
def newInst (profile role domain flags clockId : Nat) : PtpCfg :=
  let pr := profileOf profile
  let ls : Int := if profile = 2 then -4 else -3
  { profile, role, domain, flags, clockId, logSync := ls, logAnnounce := if profile = 2 then -3 else 0, logDelay := ls
    minLogSync := pr.sync.1, maxLogSync := pr.sync.2, minLogAnnounce := pr.announce.1, maxLogAnnounce := pr.announce.2
    minLogDelay := pr.delay.1, maxLogDelay := pr.delay.2 }

/-- The fields of PTP_INSTANCE_CREATE (R342). -/
def createFields (p : Bytes) : List Fld :=
  let pr := profileOf (fld p 1 1)
  let role := fld p 2 1
  [inF 0 1 0 63, inF 1 1 0 6, inF 2 1 0 2, inF 3 1 pr.domLo pr.domHi,
    F 4 1 (fun v => decide (v < 8) && (!bit v 2 || role == 1) && !(bit v 1 && role == 0)), rsvF 5 3,
    F 8 8 (fun v => v != 0 && v != 2 ^ 64 - 1)]

def hPtpCreate : Handler := fun q s =>
  let p := q.params
  let i := fld p 0 1
  checked q 16 (createFields p) <|
  refuseIf (getKey i s.shadow.ptp).isSome stBadState 0 <|
  writes (fun c => { c with ptp := putKey i (newInst (fld p 1 1) (fld p 2 1) (fld p 3 1) (fld p 4 1) (fldBE p 8 8)) c.ptp }) s

def execPtpInstanceCreate (q : Req) (s : State) : Outcome State Fault Refusal := cmdRow 0x0A00 hPtpCreate q s

/-- The changeable settings of R343. -/
def instSettings (c : PtpCfg) (p : Bytes) : PtpCfg :=
  { c with
    priority1 := fld p 1 1
    priority2 := fld p 2 1
    localPriority := fld p 3 1
    logSync := fldI p 4 1
    logAnnounce := fldI p 5 1
    logDelay := fldI p 6 1
    announceTimeout := fld p 7 1
    cfgFlags := fld p 8 1
    authMode := fld p 9 1
    txSa := fld p 10 1
    delayAvg := fld p 11 1
    variance := fld p 12 2
    accuracyTable := (List.range 6).map fun k => fld p (16 + k) 1
    grantLimit := fld p 24 4
    maxDuration := fld p 28 4
    minLogSync := fldI p 32 1
    maxLogSync := fldI p 33 1
    minLogAnnounce := fldI p 34 1
    maxLogAnnounce := fldI p 35 1
    minLogDelay := fldI p 36 1
    maxLogDelay := fldI p 37 1
    syncPhase := fldI p 40 8
    smRateNum := fld p 48 2
    smRateDen := fld p 50 2
    smLocalOffset := fldI p 52 4 }

/-- The fields of PTP_INSTANCE_CONFIGURE of an instance (R343). -/
def instFields (sas : List (Nat × SaCfg)) (c : PtpCfg) (p : Bytes) : List Fld :=
    let pr := profileOf c.profile
    let sm := c.profile == 5
    let interval : Nat := logPs (fldI p 4 1) * 65536 / 1000
    let range := fun (lo hi : Nat) (r : Int × Int) => [logF lo r, F hi 1 (fun v =>
      decide (toSigned 8 v ≤ r.2) && decide (fldI p lo 1 ≤ toSigned 8 v))]
    [inF 0 1 0 63, anyF 1 1, anyF 2 1, inF 3 1 1 255, logF 4 pr.sync, logF 5 pr.announce, logF 6 pr.delay, inF 7 1 2 10, inF 8 1 0 7,
      inF 9 1 0 2, F 10 1 (fun v => fld p 9 1 == 0 || (getKey v sas).isSome), inF 11 1 1 64, anyF 12 2, rsvF 14 2, anyF 16 6, rsvF 22 2,
      F 24 4 (fun v => v == 0 || (pr.unicast != 0 && decide (v ≤ 1048576))), inF 28 4 10 1000] ++
      range 32 33 pr.sync ++ range 34 35 pr.announce ++ range 36 37 pr.delay ++
      [rsvF 38 2, F 40 8 (fun v => decide (v ≤ interval)), F 48 2 (fun v => sm || v == 0), F 50 2 (fun v => sm || v == 0), F 52 4 (fun v => sm || v == 0)]

/-- The fields of PTP_INSTANCE_CONFIGURE whose range no profile sets (R343, R494). -/
def anyInstFields : List Fld :=
  [inF 0 1 0 63, inF 3 1 1 255, inF 7 1 2 10, inF 8 1 0 7, inF 9 1 0 2, inF 11 1 1 64, rsvF 14 2, rsvF 22 2, inF 28 4 10 1000, rsvF 38 2]

def hPtpConfigure : Handler := fun q s =>
  let p := q.params
  let i := fld p 0 1
  match getKey i s.shadow.ptp with
  | none => checked q 56 anyInstFields (.refuse stBadState 0)
  | some c =>
    checked q 56 (instFields s.shadow.sas c p) <|
    writes (fun k => { k with ptp := putKey i (instSettings c p) k.ptp }) s

def execPtpInstanceConfigure (q : Req) (s : State) : Outcome State Fault Refusal := cmdRow 0x0A01 hPtpConfigure q s

def hPtpDelete : Handler := fun q s =>
  let i := fld q.params 0 1
  checked q 4 [inF 0 1 0 63, inF 1 1 0 1, rsvF 2 2] <|
  refuseIf (getKey i s.shadow.ptp).isNone stBadState 0 <|
  writes (fun c => { c with ptp := delKey i c.ptp, binds := c.binds.filter (fun b => b.inst != i)
                            ptpGone := c.ptpGone ++ [(i, bit (fld q.params 1 1) 0)] }) s

def execPtpInstanceDelete (q : Req) (s : State) : Outcome State Fault Refusal := cmdRow 0x0A02 hPtpDelete q s

/-! ### Bindings (R311, R345) -/

def transportOk (pr : Profile) (t : Nat) : Bool := (t == 0 && pr.l2) || (t == 1 && pr.udp4) || (t == 2 && pr.udp6)

def bindCfgOf (p : Bytes) : BindCfg :=
  let v6 := fld p 3 1 == 2
  { inst := fld p 0 1, port := fld p 1 1, transport := fld p 3 1, portMode := fld p 4 1, flags := fld p 5 1, localPriority := fld p 6 1
    rateLimit := fld p 8 4, upDuration := fld p 12 2, upLogAnnounce := fldI p 14 1, upLogSync := fldI p 15 1, upLogDelay := fldI p 16 1
    ipv6Scope := fld p 17 1, asymmetry := fldI p 24 8
    upstreams := (List.range (min 4 (fld p 7 1))).map fun k =>
      { addr := fldBE p (32 + 24 * k) (if v6 then 16 else 4), localPriority := fld p (48 + 24 * k) 1 } }

/-- Same instance and port. -/
def sameBind (a b : BindCfg) : Bool := a.inst == b.inst && a.port == b.port

/-- The fields of PTP_PORT_BIND of an instance (R345). -/
def bindFields (c : PtpCfg) (p : Bytes) : List Fld :=
  let pr := profileOf c.profile
  let fl := fld p 5 1
  let uc := bit fl 3
  let upLog := fun (off : Nat) (r : Int × Int) => F off 1 (fun v => if uc then decide (r.1 ≤ toSigned 8 v ∧ toSigned 8 v ≤ r.2) else v == 0)
  [inF 0 1 0 63, inF 1 1 0 15, inF 2 1 0 1, F 3 1 (transportOk pr),
    F 4 1 (fun v => decide (v ≤ 2) && (c.role != 0 || v == 1)),
    F 5 1 (fun v => decide (v < 16) && !(bit v 1 && bit v 3) && !(bit v 3 && fld p 7 1 == 0) &&
      (pr.unicast != 0 || (!bit v 0 && !bit v 3)) && (pr.unicast != 2 || bit v 0 || bit v 3) && (fld p 3 1 != 0 || (!bit v 0 && !bit v 3))),
    inF 6 1 1 255, whenF uc 7 1 1 4, F 8 4 (fun v => bit fl 0 || v == 0), whenF uc 12 2 10 1000, upLog 14 pr.announce, upLog 15 pr.sync,
    upLog 16 pr.delay, inF 17 1 2 14, rsvF 18 6, anyF 24 8]

/-- The fields of an upstream entry (R345). -/
def upstreamFields (p : Bytes) (k : Nat) : List Fld :=
  [F (32 + 24 * k) 16 (fun _ => fld p 3 1 == 2 || fld p (36 + 24 * k) 12 == 0), inF (48 + 24 * k) 1 1 255, rsvF (49 + 24 * k) 7]

/-- The bindings of other instances and ports. -/
def otherBinds (c : Cfg) (i n : Nat) : List BindCfg := c.binds.filter (fun b => !(b.inst == i && b.port == n))

def hPtpBind : Handler := fun q s =>
  let p := q.params
  let i := fld p 0 1
  let n := fld p 1 1
  let bind := fld p 2 1 == 1
  match getKey i s.shadow.ptp with
  | none => checked q 4 [inF 0 1 0 63, inF 1 1 0 15, inF 2 1 0 1] (.refuse stBadState 0)
  | some c =>
    if !bind then
      checked q 4 [inF 0 1 0 63, inF 1 1 0 15, inF 2 1 0 1] <|
      refuseIf (!s.shadow.binds.any (fun b => b.inst == i && b.port == n)) stBadState 0 <|
      writes (fun k => { k with binds := otherBinds k i n }) s
    else
      let others := otherBinds s.shadow i n
      let mine := others.filter (fun b => b.inst == i)
      let clash := others.any fun b => b.port == n && b.transport == fld p 3 1 &&
        (match getKey b.inst s.shadow.ptp with | some d => d.domain == c.domain | none => false)
      checkedN q 32 (bindFields c p) (min 4 (fld p 7 1)) 24 (upstreamFields p) <|
      refuseIf (clash || (c.role == 1 && !mine.isEmpty) || (c.role == 2 && decide (mine.length ≥ 8))) stBadParam 0 <|
      refuseIf (decide ((others.filter (fun b => b.port == n)).length ≥ 8) || decide (others.length ≥ 256)) stResource 0 <|
      writes (fun k => { k with binds := otherBinds k i n ++ [bindCfgOf p] }) s

def execPtpPortBind (q : Req) (s : State) : Outcome State Fault Refusal := cmdRow 0x0A03 hPtpBind q s

/-! ### Status (R346) -/

/-- The portState enumeration of IEEE 1588-2019. -/
def ptpStateCode : PtpState → Nat
  | .initializing => 1
  | .faulty => 2
  | .disabled => 3
  | .listening => 4
  | .preMaster => 5
  | .master => 6
  | .passive => 7
  | .uncalibrated => 8
  | .slave => 9

/-- The port of an instance's parent. -/
def parentPort (s : State) (i : Nat) : Option Nat := (instRun s i).parent.map (·.1)

def bindRow (s : State) (b : BindCfg) : Bytes :=
  let r := bindRun s b.inst b.port
  leBytes 1 b.port ++ leBytes 1 (ptpStateCode r.state) ++ zeros 2 ++ leBytes 4 (grantedRate s b.inst b.port none / 65536) ++ leBytes 4 r.authFails ++
  leBytes 4 r.noGrant ++ leBytes 4 r.rateExcess ++ leBytes 4 r.grantsDenied ++ leBytes 4 r.followupTimeouts ++ leBytes 4 r.announceTimeouts

/-- The upstream's time against the counter: j of the latest sample, extrapolated at the kept rate while the instance does not
track (R326, R346). -/
def upstreamOffset (s : State) (i : Nat) : Int :=
  let r := instRun s i
  if r.tracking || r.samples == 0 then r.lastOffset
  else satOffset (r.lastOffset + roundDivI (r.upstreamFreq * ((s.now - r.sampleAt : Nat) * 65536 / 1000)) (2 ^ 64))

def ptpStatusReply (s : State) (i : Nat) : Bytes :=
  let r := instRun s i
  let mpd := (parentPort s i).bind (meanDelay s i)
  let (pi, steps, gm, cls, acc) := match r.parent with
    | some (_, a) => (a.source, a.stepsRemoved, a.gmIdentity, a.gmClass, a.gmAccuracy)
    | none => (0, 0, 0, 0, 0)
  let bs := bindsOf s i
  leBytes 1 i ++ leBytes 1 (packBits [(instCfg s i).isSome, r.tracking, mpd.isSome, forwards s i, tSelected s == some (ptpOrd i), r.uncFromTlv]) ++
  leBytes 1 r.clockClassSent ++ leBytes 1 r.accuracySent ++ beBytes 10 pi ++ leBytes 2 steps ++ beBytes 8 gm ++ leBytes 1 cls ++ leBytes 1 acc ++
  leBytes 1 bs.length ++ zeros 5 ++ leInt 8 (mpd.getD 0) ++ leInt 8 (upstreamOffset s i) ++ leInt 8 r.upstreamFreq ++ leBytes 8 r.unc ++
  leBytes 4 ((s.ptp.grants.filter (fun e => e.2.inst == i)).length) ++ leBytes 4 r.samples ++ bs.flatMap (bindRow s)

def hPtpStatus : Handler := fun q s => checked q 4 [inF 0 1 0 63, rsvF 1 3] (.done (ptpStatusReply s (fld q.params 0 1)) s)

def execPtpStatus (q : Req) (s : State) : Outcome State Fault Refusal := cmdRow 0x0A04 hPtpStatus q s

/-! ### Grants (R329, R347, R348) -/

/-- An address field: IPv4 in its first 4 bytes. -/
def addrField (v6 : Bool) (a : Nat) : Bytes := if v6 then beBytes 16 a else beBytes 4 a ++ zeros 12

/-- A grant entry as R329 lays it out. -/
def grantBytes (g : Grant) : Bytes :=
  addrField g.v6 g.addr ++ leBytes 4 g.expiry ++ leBytes 4 g.phase ++ leBytes 2 g.seqBase ++ leBytes 2 g.neighbour ++
  leBytes 1 (g.inst + (if g.v6 then 64 else 0) + 128) ++ leBytes 1 (g.port * 16 + g.mtype) ++ leInt 1 g.logInterval ++ leBytes 1 (b2n g.cancelSent)

/-- The fields of PTP_GRANT_QUERY (R347). -/
def queryFields (p : Bytes) : List Fld :=
  let by_ := bit (fld p 1 1) 0
  [inF 0 1 0 63, inF 1 1 0 1, F 2 1 (fun v => if by_ then v == 4 || v == 6 else v == 0), inF 3 1 1 32, anyF 4 4,
    F 8 16 (fun v => by_ || v == 0)]

def hGrantQuery : Handler := fun q s =>
  let p := q.params
  let i := fld p 0 1
  let by_ := bit (fld p 1 1) 0
  let v6 := fld p 2 1 == 6
  checked q 24 (queryFields p) <|
  let addr := fldBE p 8 (if v6 then 16 else 4)
  let l := s.ptp.grants.filter fun e => e.2.inst == i && decide (e.1 ≥ fld p 4 4) && (!by_ || (e.2.v6 == v6 && e.2.addr == addr))
  let part := l.take (fld p 3 1)
  let more := decide (l.length > part.length)
  let next := match part.getLast? with | some e => e.1 + 1 | none => fld p 4 4
  .done (leBytes 1 part.length ++ leBytes 1 (b2n more) ++ zeros 2 ++ leBytes 4 next ++ leBytes 4 (rawMs s) ++ zeros 4 ++
    part.flatMap fun e => grantBytes e.2) s

def execPtpGrantQuery (q : Req) (s : State) : Outcome State Fault Refusal := cmdRow 0x0A10 hGrantQuery q s

/-- CANCEL is sent for a grant (R331). -/
def cancelGrant (k : Nat) (s : State) : State :=
  match getKey k s.ptp.grants with
  | none => s
  | some g =>
    let n := (getKey g.neighbour s.ptp.neighbours).getD {}
    presentSignal g.inst g.port n.mac g.addr n.tags (cancelTlv g.mtype) s

/-- A grant is revoked: with SEND_CANCEL it awaits the acknowledgement and serves no more (R329, R331). -/
def revoke (cancel : Bool) (s : State) (k : Nat) : State :=
  if cancel then
    let s := cancelGrant k s
    forwardGrant k (updPtp (fun n => { n with
      grants := n.grants.map fun e => if e.1 = k then (e.1, { e.2 with cancelSent := true }) else e }) s)
  else dropGrant k s

/-- The fields of PTP_GRANT_REVOKE (R348). -/
def revokeFields (p : Bytes) : List Fld :=
  let all := bit (fld p 1 1) 0
  [inF 0 1 0 63, inF 1 1 0 3, inF 2 1 0 7, F 3 1 (fun v => if all then v == 0 else v == 4 || v == 6), F 4 16 (fun v => !all || v == 0)]

def hGrantRevoke : Handler := fun q s =>
  let p := q.params
  let i := fld p 0 1
  let all := bit (fld p 1 1) 0
  let mask := fld p 2 1
  let v6 := fld p 3 1 == 6
  checked q 20 (revokeFields p) <|
  declarerOnly s <|
  let addr := fldBE p 4 (if v6 then 16 else 4)
  let hit := s.ptp.grants.filter fun e =>
    e.2.inst == i && !e.2.cancelSent && (all || (e.2.v6 == v6 && e.2.addr == addr)) &&
    ((bit mask 0 && e.2.mtype == mSync) || (bit mask 1 && e.2.mtype == mAnnounce) || (bit mask 2 && e.2.mtype == mDelayResp))
  .done (leBytes 4 hit.length ++ zeros 4) ((hit.map (·.1)).foldl (revoke (bit (fld p 1 1) 1)) s)

def execPtpGrantRevoke (q : Req) (s : State) : Outcome State Fault Refusal := cmdRow 0x0A11 hGrantRevoke q s

/-- A grant reaches EXPIRY (R331). -/
def grantExpiry (k : Nat) (s : State) : State :=
  match getKey k s.ptp.grants with
  | none => s
  | some g => bump (64 * 10 + 36) (dropGrant k (moveTo (g.expiry * msPs) s))

def execGrantExpiry (k : Nat) (s : State) : Outcome State Fault Refusal := .next (whileRunning (grantExpiry k) { s with out := [] })

/-! ### Security associations (R334, R349) -/

/-- The contents of a Kitty slot that is FULL (R439). -/
def kittyKey (s : State) (n : Nat) : Option Bytes := (getKey n s.kitty.slots).map (·.key)

/-- The key that a commit copies from a slot, as the slot stood before the commands of this tick (R440, R452). -/
def keyCopy (s : State) (n : Nat) : Option Bytes := (getKey n (slotsThen s)).map (·.key)

/-- The fields of PTP_SA_LOAD (R349). -/
def saFields (p : Bytes) : List Fld :=
  let erase := fld p 1 1 == 1
  [anyF 0 1, inF 1 1 0 1, F 2 1 (fun v => if erase then v == 0 else decide (1 ≤ v ∧ v ≤ 3)), whenF (!erase) 3 1 0 1,
    F 4 1 (fun v => !erase || v == 0), rsvF 5 1, whenF (!erase) 6 2 0 4095, F 8 4 (fun v => !erase || v == 0),
    F 12 4 (fun v => if erase || fld p 2 1 == 1 then v == 0 else true)]

def hSaLoad : Handler := fun q s =>
  let p := q.params
  let k := fld p 0 1
  let erase := fld p 1 1 == 1
  let alg := fld p 2 1
  let used := s.shadow.ptp.any fun e => e.2.authMode != 0 && e.2.txSa == k
  checked q 16 (saFields p) <|
  if erase then
    refuseIf used stBadState 0 <| writes (fun c => { c with sas := delKey k c.sas }) s
  else
    refuseIf (kittyKey s (fld p 6 2)).isNone stBadState 0 <|
    refuseIf (s.shadow.sas.any (fun e => e.1 != k && e.2.spp == fld p 4 1 && e.2.keyId == fld p 8 4)) stBadParam 4 <|
    let n := match getKey k s.shadow.sas with | some a => a.loads + 1 | none => (getKey k s.work.sas).elim 1 (fun a => a.loads + 1)
    writes (fun c => { c with
      sas := putKey k { alg, zeroCorr := fld p 3 1 == 1, spp := fld p 4 1, slot := fld p 6 2, keyId := fld p 8 4, salt := fld p 12 4, loads := n } c.sas }) s

def execPtpSaLoad (q : Req) (s : State) : Outcome State Fault Refusal := cmdRow 0x0A20 hSaLoad q s

/-! ### What a commit does to PTP (R310, R331, R344, R345, R349) -/

/-- A Signaling message built under the configuration before a commit (R21, R340). -/
def signalAs (old : Cfg) (i p mac ip : Nat) (tags tlvs : Bytes) (c : PtpCfg) (b : BindCfg) (s : State) : Bytes × State :=
  let r := buildSignal i p mac ip tags tlvs c b { s with work := old }
  (r.1.bytes, { r.2 with work := s.work })

/-- CANCEL is sent for a grant of an instance that a commit deletes, in the form of its settings before the commit (R340, R344). -/
def cancelNow (old : Cfg) (k : Nat) (s : State) : State :=
  match getKey k s.ptp.grants with
  | none => s
  | some g =>
    match getKey g.inst old.ptp, old.binds.find? (fun b => b.inst == g.inst && b.port == g.port) with
    | some c, some b =>
      let n := (getKey g.neighbour s.ptp.neighbours).getD {}
      let (x, s) := signalAs old g.inst g.port n.mac g.addr n.tags (cancelTlv g.mtype) c b s
      queueEngine g.port x g.inst .hearts s
    | _, _ => s

/-- An instance is gone: its grants end, its source fails ACTIVITY (R310, R331, R344). -/
def endInst (old : Cfg) (i : Nat) (cancel : Bool) (s : State) : State :=
  let ks := (s.ptp.grants.filter (fun e => e.2.inst == i)).map (·.1)
  let s := if cancel && !svcClosed s then ks.foldl (fun s k => cancelNow old k s) s else s
  let s := ks.foldl (fun s k => dropGrant k s) s
  let s := updPtp (fun n => { n with
    insts := upd n.insts i (fun _ => {}), binds := n.binds.filter (fun e => e.1 / 16 != i)
    upGrants := n.upGrants.filter (fun g => g.inst != i) }) s
  evalAll (setCheck (ptpOrd i) cActivity true (updRef (ptpOrd i) (fun r => { r with healthOk := false, rank := 0 }) s))

/-- A binding is gone: its grants end. -/
def endBind (i p : Nat) (s : State) : State :=
  let ks := (s.ptp.grants.filter (fun e => e.2.inst == i && e.2.port == p)).map (·.1)
  let s := ks.foldl (fun s k => dropGrant k s) s
  let s := match (instRun s i).parent with
    | some (pp, _) => if pp = p then loseMaster i p s else s
    | none => s
  updPtp (fun n => { n with binds := delKey (16 * i + p) n.binds, upGrants := n.upGrants.filter (fun g => !(g.inst == i && g.port == p)) }) s

def ptpCommit (old : Cfg) (s : State) : State :=
  let gone := s.work.ptpGone
  let s := { s with work := { s.work with ptpGone := [] }, shadow := { s.shadow with ptpGone := [] } }
  let s := gone.foldl (fun s e => if (getKey e.1 old.ptp).isSome then endInst old e.1 e.2 s else s) s
  let s := old.binds.foldl (fun s b => if s.work.binds.any (fun x => sameBind x b && x.transport == b.transport) then s else endBind b.inst b.port s) s
  let s := s.work.binds.foldl (fun s b =>
    if (getKey (16 * b.inst + b.port) s.ptp.binds).isSome then s else startBind b.inst b.port (updBind b.inst b.port id s)) s
  let s := s.work.ptp.foldl (fun s e =>
    if (getKey e.1 old.ptp).isSome && !gone.any (fun x => x.1 == e.1) then s else ptpHealth e.1 false s) s
  let sas := s.work.sas.map fun (e : Nat × SaCfg) =>
    let was : Option Nat := (getKey e.1 old.sas).map (·.loads)
    if was = some e.2.loads then (e.1, saRun s e.1) else (e.1, ({ key := (keyCopy s e.2.slot).getD [], counter := 0 } : SaRun))
  updPtp (fun n => { n with sas := sas }) s

/-! ### Timers (R316, R322 to R326, R333) -/

/-- The deadline of an Announce receipt timeout (R316). -/
def announceDeadline (s : State) (i p : Nat) (c : PtpCfg) : Nat :=
  let log := match (instRun s i).parent with
    | some (pp, a) => if pp = p then (((bindRun s i p).foreign.find? (fun f => f.ann.source == a.source)).map (·.logInterval)).getD c.logAnnounce else c.logAnnounce
    | none => c.logAnnounce
  (bindRun s i p).announceAt + c.announceTimeout * logPs log

/-- ANNOUNCE_TIMEOUT intervals without an Announce (R316, R326). -/
def announceTimeout (i p : Nat) (s : State) : State :=
  match instCfg s i, bindCfg s i p with
  | some c, some _ =>
    let st := (bindRun s i p).state
    if !(st == .listening || st == .passive || st == .uncalibrated || st == .slave) then s
    else
      let s := moveTo (announceDeadline s i p c) s
      let s := updBind i p (fun b => { b with announceAt := s.now }) s
      match (instRun s i).parent with
      | some (pp, a) =>
        if pp = p then
          let s := updBind i p (fun b => { b with
            foreign := b.foreign.filter (fun f => f.ann.source != a.source), announceTimeouts := (b.announceTimeouts + 1) % 2 ^ 32 }) s
          runBmca i (some p) (clientParent i p none (loseMaster i p s))
        else runBmca i (some p) s
      | none => runBmca i (some p) s
  | _, _ => s

def execAnnounceTimeout (inst port : Nat) (s : State) : Outcome State Fault Refusal := .next (whileRunning (announceTimeout inst port) { s with out := [] })

/-- The oldest waiting Sync's Follow_Up has not arrived (R323). -/
def followupTimeout (i p : Nat) (s : State) : State :=
  match (bindRun s i p).sync with
  | none => s
  | some w =>
    bump (64 * 10 + 39) (updBind i p (fun b => { b with sync := b.later.head?, later := b.later.tail, followupTimeouts := (b.followupTimeouts + 1) % 2 ^ 32 }) (moveTo w.deadline s))

def execFollowupTimeout (inst port : Nat) (s : State) : Outcome State Fault Refusal := .next (whileRunning (followupTimeout inst port) { s with out := [] })

/-- Three Sync intervals without a sample since the parent's latest one (R325, R326). -/
def syncTimeout (i : Nat) (s : State) : State :=
  match (instRun s i).parent with
  | none => s
  | some (p, _) =>
    if !(instRun s i).tracking && (bindRun s i p).lastSync.isNone then s
    else
      let s := moveTo ((instRun s i).sampleAt + 3 * logPs (bindRun s i p).syncLog) s
      runBmca i (some p) (loseMaster i p s)

def execSyncTimeout (inst : Nat) (s : State) : Outcome State Fault Refusal := .next (whileRunning (syncTimeout inst) { s with out := [] })

/-- 16 delay intervals without a valid exchange (R324). -/
def pathDelayTimeout (i p : Nat) (s : State) : State :=
  let r := bindRun s i p
  if r.delays.isEmpty then s
  else updBind i p (fun b => { b with delays := [], asCapable := false }) (moveTo (r.delayAt + 16 * logPs (delayLogOf s i p)) s)

def execPathDelayTimeout (inst port : Nat) (s : State) : Outcome State Fault Refusal := .next (whileRunning (pathDelayTimeout inst port) { s with out := [] })

/-- The metadata message of an ST2059 instance, at a second plus 500 ms (R322). -/
def st2059Metadata (i : Nat) (s : State) : State :=
  match instCfg s i with
  | none => s
  | some c =>
    if c.profile ≠ 5 ∨ !running s then s
    else
      let sec := s.time.counter.total / 2 ^ 48
      let target := (sec + 500000000) / 1000000000 * 1000000000 + 500000000
      let s := moveToCounter (target * 2 ^ 48) s
      (bindsOf s i).foldl (fun s b =>
        if (bindRun s i b.port).state == .master && (portOf s b.port).state == .up && !svcClosed s then
          let (x, s) := buildMetadata b.port c b (s.time.counter.sec % 65536) s
          queueEngine b.port x i .hearts s
        else s) s

def execSt2059Metadata (inst : Nat) (s : State) : Outcome State Fault Refusal := .next (st2059Metadata inst { s with out := [] })

/-- The client state of an upstream and type. -/
def upGrantOf (s : State) (i p k mtype : Nat) : Option UpGrant :=
  s.ptp.upGrants.find? fun g => g.inst == i && g.port == p && g.upstream == k && g.mtype == mtype

/-- A client's request falls due: a renewal, or a repetition (R333). -/
def upstreamDue (granted : Bool) (i p k mtype : Nat) (s : State) : State :=
  match upGrantOf s i p k mtype with
  | none => s
  | some g =>
    match g.renewAt with
    | none => s
    | some d => if g.granted = granted then askUpstream i p k mtype (moveTo d s) else s

def execUpstreamRenew (inst port up mtype : Nat) (s : State) : Outcome State Fault Refusal :=
  .next (whileRunning (upstreamDue true inst port up mtype) { s with out := [] })

def execUpstreamRetry (inst port up mtype : Nat) (s : State) : Outcome State Fault Refusal :=
  .next (whileRunning (upstreamDue false inst port up mtype) { s with out := [] })

/-- Slave-capable ports restart from INITIALIZING when the chip becomes Declarer (R339). -/
def restartSlaves (s : State) : State :=
  s.work.binds.foldl (fun s b =>
    match instCfg s b.inst with
    | some c =>
      if c.role = 0 ∨ b.portMode = 1 then s
      else
        let s := match (instRun s b.inst).parent with | some (p, _) => if p = b.port then loseMaster b.inst b.port s else s | none => s
        startBind b.inst b.port (setBindState b.inst b.port .initializing (updBind b.inst b.port (fun r => { r with foreign := [] }) s))
    | none => s) s

end Sys2Proof.Machine
end

