-- ==== Sys2Proof/Machine/Ntp.lean ====
section
/-! DEFINITION. The meanings of the NTP, NTS and receipt commands and of the scheduled rotation (chapter 12). -/
namespace Sys2Proof.Machine
open Sys2Proof Host

/-! ### NTP_CONFIGURE (R350, R354, R375) -/

/-- A clockClass that a policy may name (R354). -/
def policyClass (v : Nat) : Bool := v == 140 || v == 150 || v == 160 || v == 248

/-- Another instance of the shadow set claims an entry of these masks (R350). -/
def entryClash (s : State) (i addr port : Nat) : Bool :=
  (List.range 16).any fun j =>
    let c := nth s.shadow.ntp j
    j != i && (c.addrMask &&& addr) != 0 && (c.portMask &&& port) != 0

/-- The fields of NTP_CONFIGURE (R375). -/
def ntpCfgFields (s : State) (p : Bytes) : List Fld :=
  [inF 0 1 0 15, inF 1 1 0 1, inF 2 1 0 15, inF 3 1 1 15, inF 4 1 (fld p 3 1) 15,
    F 5 1 policyClass, F 6 1 (fun v => policyClass v && decide (fld p 5 1 ≤ v)),
    F 7 1 (fun v => !entryClash s (fld p 0 1) v (fld p 8 2)), anyF 8 2, rsvF 10 2, anyF 12 4]

def hNtpConfigure : Handler := fun q s =>
  let p := q.params
  let i := fld p 0 1
  checked q 16 (ntpCfgFields s p) <|
  writes (fun c => { c with ntp := upd c.ntp i (fun _ =>
    { enable := fld p 1 1 == 1, flags := fld p 2 1, stratum := fld p 3 1, degradedStratum := fld p 4 1, degradedClass := fld p 5 1
      unsyncClass := fld p 6 1, addrMask := fld p 7 1, portMask := fld p 8 2, refid := fldBE p 12 4 }) }) s

def execNtpConfigure (q : Req) (s : State) : Outcome State Fault Refusal := cmdRow 0x0B00 hNtpConfigure q s

/-! ### NTP_RATE_POLICY (R363 to R365, R376) -/

/-- The reply of NTP_RATE_POLICY: the values in force (R376). -/
def rateReply (r : RateCfg) : Bytes :=
  [0#8] ++ leBytes 1 r.action ++ leBytes 1 r.kodPoll ++ leBytes 1 r.ipv6Prefix ++ leBytes 4 r.rate ++ leBytes 2 r.burst ++
  leBytes 1 r.exempt.length ++ [0#8] ++ leBytes 4 r.kodInterval ++
  r.exempt.flatMap fun e => leBytes 1 (if e.v6 then 6 else 4) ++ leBytes 1 e.len ++ zeros 2 ++
    (if e.v6 then beBytes 16 e.addr else beBytes 4 e.addr ++ zeros 12)

/-- Entry `k` of the exempt list. -/
def exemptAt (p : Bytes) (k : Nat) : Exempt :=
  let v6 := fld p (16 + 20 * k) 1 == 6
  { v6, len := fld p (17 + 20 * k) 1, addr := fldBE p (20 + 20 * k) (if v6 then 16 else 4) }

/-- The fields of NTP_RATE_POLICY, and those of an exempt entry (R376). -/
def rateFields (p : Bytes) : List Fld :=
  let set := fld p 0 1 == 1
  [inF 0 1 0 1, setF set 1 1 0 2, setF set 2 1 0 17, setF set 3 1 32 128, setF set 4 4 1 1048576, setF set 8 2 1 65535,
    setF set 10 1 0 16, rsvF 11 1, setF set 12 4 1 60000]
def exemptFields (p : Bytes) (k : Nat) : List Fld :=
  [F (16 + 20 * k) 1 (fun v => v == 4 || v == 6), inF (17 + 20 * k) 1 0 (if fld p (16 + 20 * k) 1 = 6 then 128 else 32),
    rsvF (18 + 20 * k) 2, anyF (20 + 20 * k) 16]

def hNtpRatePolicy : Handler := fun q s =>
  let p := q.params
  let set := fld p 0 1 == 1
  let n := if set then min 16 (fld p 10 1) else 0
  checkedN q 16 (rateFields p) n 20 (exemptFields p) <|
  let s' := if set then
      shadowed (fun c => { c with rate :=
        { action := fld p 1 1, kodPoll := fld p 2 1, ipv6Prefix := fld p 3 1, rate := fld p 4 4, burst := fld p 8 2
          kodInterval := fld p 12 4, exempt := (List.range n).map (exemptAt p) } }) s
    else s
  .done (rateReply s.work.rate) s'

def execNtpRatePolicy (q : Req) (s : State) : Outcome State Fault Refusal := cmdRow 0x0B01 hNtpRatePolicy q s

/-! ### NTP_STATUS (R377) -/

def ntpStatusReply (i : Nat) (s : State) : Bytes :=
  let c := ntpCfg s i
  let r := ntpRun s i
  let (li, stratum, refid) := ntpStatusNow s i (curTs s)
  let smearing := bit c.flags 0 && (smearAt s.time (curTs s)).isSome
  leBytes 1 i ++ leBytes 1 (packBits [c.enable, smearing, stratum == 16, r.rotateAt.isSome]) ++ leBytes 1 stratum ++ leBytes 1 li ++
  beBytes 4 refid ++ leBytes 4 (rootDispersion (capB (addB (counterBound s) (some ntpHalf)))) ++
  leBytes 4 r.previous.epoch ++ leBytes 4 r.current.epoch ++ leBytes 4 r.next.epoch ++
  leBytes 8 r.plain ++ leBytes 8 r.symmetric ++ leBytes 8 r.nts ++ leBytes 8 r.kodRate ++ leBytes 8 r.ntsNak ++ leBytes 8 r.cryptoNak ++
  leBytes 8 r.notServed ++ leBytes 8 s.ntp.rateDrops ++ leBytes 8 s.ntp.malformed

def hNtpStatus : Handler := fun q s =>
  checked q 4 [inF 0 1 0 15, rsvF 1 3] (.done (ntpStatusReply (fld q.params 0 1) s) s)

def execNtpStatus (q : Req) (s : State) : Outcome State Fault Refusal := cmdRow 0x0B02 hNtpStatus q s

/-! ### NTS_KEY_LOAD (R361, R378) -/

/-- The epoch of NEXT as the shadow set has it. -/
def shadowNext (s : State) (i : Nat) : Nat :=
  let n := nth s.shadow.ntsNext i
  if n.loads = (nth s.work.ntsNext i).loads then (ntpRun s i).next.epoch else n.epoch

def updNext (i : Nat) (f : NextLoad → NextLoad) (c : Cfg) : Cfg := { c with ntsNext := upd c.ntsNext i f }

/-- The fields of NTS_KEY_LOAD (R378). -/
def keyLoadFields (s : State) (p : Bytes) : List Fld :=
  let sym := fld p 0 1 == 1
  let i := fld p 1 1
  let erase := fld p 2 1 == 1
  let held := (getKey (i * 2 ^ 32 + fld p 8 4) s.shadow.symKeys).isSome
  let idOk := fun (v : Nat) =>
    erase || (if sym then v != 0 && !held else decide (1 ≤ v ∧ v < 2 ^ 28 ∧ (ntpRun s i).current.epoch < v))
  [inF 0 1 0 1, inF 1 1 0 15, inF 2 1 0 1, rsvF 3 1, whenF (!erase) 4 2 0 4095, rsvF 6 2, F 8 4 idOk]

def hNtsKeyLoad : Handler := fun q s =>
  let p := q.params
  let sym := fld p 0 1 == 1
  let i := fld p 1 1
  let erase := fld p 2 1 == 1
  let id := fld p 8 4
  let cur := (ntpRun s i).current.epoch
  let k := i * 2 ^ 32 + id
  checked q 12 (keyLoadFields s p) <|
  refuseIf (!erase && (kittyKey s (fld p 4 2)).isNone) stBadState 0 <|
  refuseIf (erase && !sym && id == cur && cur != 0) stBadState 0 <|
  refuseIf (!erase && sym && decide (s.shadow.symKeys.length ≥ 1024)) stResource 0 <|
  if sym then
    if erase then writes (fun c => { c with symKeys := delKey k c.symKeys }) s
    else
      let n := 1 + (match getKey k s.work.symKeys with | some e => e.loads | none => 0)
      writes (fun c => { c with symKeys := putKey k { slot := fld p 4 2, loads := n } c.symKeys }) s
  else if erase then
    let isNext := id != 0 && shadowNext s i == id
    writes (updNext i (fun n =>
      if isNext then { n with epoch := 0, slot := 0, loads := n.loads + 1, erased := n.erased ++ [id] }
      else { n with erased := n.erased ++ [id] })) s
  else writes (updNext i (fun n => { n with epoch := id, slot := fld p 4 2, loads := n.loads + 1 })) s

def execNtsKeyLoad (q : Req) (s : State) : Outcome State Fault Refusal := cmdRow 0x0B10 hNtsKeyLoad q s

/-! ### Rotation (R43, R362, R379) -/

/-- A rotation on this tick (R362). -/
def rotate (i : Nat) (s : State) : State :=
  let s := forward (.rotation i) (updNtpRun i (fun r => { r with previous := r.current, current := r.next, next := {} }) s)
  raiseIdx 11 3 i s

/-- The reply of NTS_KEY_ROTATE. -/
def rotateReply (pr cu nx flags : Nat) : Bytes := leBytes 4 pr ++ leBytes 4 cu ++ leBytes 4 nx ++ leBytes 1 flags ++ zeros 3

/-- The fields of NTS_KEY_ROTATE (R379). -/
def rotateFields (p : Bytes) : List Fld :=
  [inF 0 1 0 15, inF 1 1 0 1, rsvF 2 2, F 4 12 (fun v => tsFieldOk v && (fld p 1 1 != 1 || v == 0))]

def hNtsKeyRotate : Handler := fun q s =>
  let p := q.params
  let i := fld p 0 1
  let cancel := fld p 1 1 == 1
  checked q 16 (rotateFields p) <|
  let at_ := tsOfField (fld p 4 12)
  let r := ntpRun s i
  declarerOnly s <|
  if cancel then
    .done (rotateReply r.previous.epoch r.current.epoch r.next.epoch (if r.rotateAt.isSome then 2 else 0))
      (updNtpRun i (fun r => { r with rotateAt := none }) s)
  else
    refuseIf (r.next.epoch == 0) stBadState 0 <|
    if at_ = 0 then
      let t := rotate i (nextTick s)
      let r := ntpRun t i
      .done (rotateReply r.previous.epoch r.current.epoch r.next.epoch 0) t
    else
      refuseIf (r.rotateAt.isSome || decide (at_ ≤ curTs s)) stBadState 0 <|
      .done (rotateReply r.current.epoch r.next.epoch 0 1) (updNtpRun i (fun r => { r with rotateAt := some at_ }) s)

def execNtsKeyRotate (q : Req) (s : State) : Outcome State Fault Refusal := cmdRow 0x0B11 hNtsKeyRotate q s

/-- The pending rotation of an instance acts on the first tick at which the counter has reached its time (R43, R379). -/
def scheduledRotation (i : Nat) (s : State) : State :=
  match (ntpRun s i).rotateAt with
  | none => s
  | some a => rotate i (updNtpRun i (fun r => { r with rotateAt := none }) (moveToCounter (a * 2 ^ 32) s))

def execScheduledRotation (inst : Nat) (s : State) : Outcome State Fault Refusal := .next (whileRunning (scheduledRotation inst) { s with out := [] })

/-! ### NTS_COOKIE_MINT (R359, R380) -/

/-- Several cookies in a row. -/
def mintCookies : Nat → Nat → Bytes → Bytes → State → Bytes × State
  | 0, _, _, _, s => ([], s)
  | n + 1, i, a, b, s =>
    let (c, s) := mintCookie i a b s
    let (r, s) := mintCookies n i a b s
    (c ++ r, s)

def hNtsCookieMint : Handler := fun q s =>
  let p := q.params
  let i := fld p 0 1
  checked q 72 [inF 0 1 0 15, inF 1 1 1 8, inF 2 2 15 15, rsvF 4 4, anyF 8 32, anyF 40 32] <|
  let cur := (ntpRun s i).current
  refuseIf (!bit (ntpCfg s i).flags 2 || cur.epoch == 0) stBadState 0 <|
  let (b, t) := mintCookies (fld p 1 1) i (slice p 8 32) (slice p 40 32) (nextTick s)
  .done (beBytes 4 (i * 2 ^ 28 + cur.epoch) ++ leBytes 1 (fld p 1 1) ++ zeros 3 ++ b) t

def execNtsCookieMint (q : Req) (s : State) : Outcome State Fault Refusal := cmdRow 0x0B12 hNtsCookieMint q s

/-! ### Receipts (R371, R381, R382) -/

def hRcptConfigure : Handler := fun q s =>
  let p := q.params
  checked q 8 [inF 0 1 0 1, rsvF 1 1, F 2 2 (fun v => v != 0 && v != 123 && v != 319 && v != 320), inF 4 2 0 4095, rsvF 6 2] <|
  refuseIf (fld p 0 1 == 1 && (kittyKey s (fld p 4 2)).isNone) stBadState 0 <|
  writes (fun c => { c with rcpt := { enable := fld p 0 1 == 1, udpPort := fld p 2 2, slot := fld p 4 2, loads := c.rcpt.loads + 1 } }) s

def execRcptConfigure (q : Req) (s : State) : Outcome State Fault Refusal := cmdRow 0x0B20 hRcptConfigure q s

def rcptStatusReply (s : State) : Bytes :=
  let n := s.ntp
  let have_ := !n.seed.isEmpty
  leBytes 1 (packBits [s.work.rcpt.enable, have_, n.open_.isSome]) ++ [0#8] ++ leBytes 2 s.work.rcpt.udpPort ++ leBytes 4 n.pending ++
  (if have_ then rcptKeyId n.seed else zeros 8) ++ (if have_ then edPublic n.seed else zeros 32) ++
  leBytes 8 n.lastBatchId ++ leBytes 4 n.lastBatchSize ++ zeros 4 ++ n.lastRoot ++
  leBytes 8 n.batches ++ leBytes 8 n.issued ++ leBytes 8 n.rcptMalformed ++ leBytes 8 n.noTime ++ leBytes 8 n.noKey ++ leBytes 8 n.boundCancels

def hRcptStatus : Handler := fun q s => checked q 0 [] (.done (rcptStatusReply s) s)

def execRcptStatus (q : Req) (s : State) : Outcome State Fault Refusal := cmdRow 0x0B21 hRcptStatus q s

/-! ### What a commit does to NTP (R371, R378) -/

/-- The server keys of one instance after a commit. -/
def ntsCommit (old : Cfg) (s : State) (i : Nat) (r : NtpRun) : NtpRun :=
  let n := nth s.work.ntsNext i
  let r := if n.loads = (nth old.ntsNext i).loads then r
    else { r with next := if n.epoch = 0 then {} else { epoch := n.epoch, key := (keyCopy s n.slot).getD [] } }
  if n.erased.contains r.previous.epoch then { r with previous := {} } else r

/-- The symmetric keys after a commit. -/
def symCommit (old : Cfg) (s : State) : List (Nat × Bytes) :=
  s.work.symKeys.map fun (e : Nat × KeyLoad) =>
    let was : Option Nat := (getKey e.1 old.symKeys).map (·.loads)
    if was = some e.2.loads then (e.1, (getKey e.1 s.ntp.symKeys).getD [])
    else (e.1, (keyCopy s e.2.slot).getD [])

/-- No erasure stays in a configuration set. -/
def erasedDone (c : Cfg) : Cfg := { c with ntsNext := c.ntsNext.map (fun n => { n with erased := [] }) }

/-- A commit of another rate policy settles the buckets under the one before it (R373). -/
def rateCommit (old : Cfg) (s : State) : State := if s.work.rate = old.rate then s else settleBuckets old.rate s

def ntpCommit (old : Cfg) (s : State) : State :=
  let s := updNtp (fun n => { n with
    insts := (List.range 16).map (fun i => ntsCommit old s i (nth n.insts i))
    symKeys := symCommit old s }) s
  let s := rateCommit old s
  let s := { s with work := erasedDone s.work, shadow := erasedDone s.shadow }
  let c := s.work.rcpt
  let s := if c.slot ≠ old.rcpt.slot ∨ (!c.enable && old.rcpt.enable) then closeBatch s else s
  if c.loads = old.rcpt.loads then s else updNtp (fun n => { n with seed := (keyCopy s c.slot).getD [] }) s

end Sys2Proof.Machine
end

