-- ==== Sys2Proof/Machine/Bound.lean ====
section
/-! DEFINITION. The meanings of BOUND_READ and BOUND_POLICY (chapter 05). -/
namespace Sys2Proof.Machine
open Sys2Proof Host

/-- A field of a bound in 2⁻⁸ ps when it is shown, 0 otherwise. -/
def shownBound (c : Bool) (b : Option Nat) : Bytes := if c then boundBytes b else zeros 8

/-- The reply of BOUND_READ from one tick (R151, R155, R156, R167). -/
def boundReadReply (port : Nat) (s : State) : Bytes :=
  let b := counterBound s
  let m := boundMode s
  let tr := m == 1
  let ho := m == 2
  let t := trackTerms s
  let pt : Option Nat := if port = 0xFF then some 0 else portUnc s port
  let sat := boundCauses s == 0 && b.isNone
  tsBytes (curTs s) ++ leBytes 1 m ++ leBytes 1 port ++ leBytes 2 (boundCauses s + (if sat then 64 else 0)) ++ boundBytes b ++
  shownBound tr t.unc ++ shownBound tr (some t.stamp) ++ shownBound tr (some t.asym) ++ shownBound tr (some t.track) ++
  shownBound tr (some (wanderAt s.now s)) ++ shownBound tr (some (slewTerm s)) ++ shownBound tr (some s.bound.dist) ++
  shownBound ho s.hold.b0 ++ shownBound ho (some (growthAt s.now s)) ++ shownBound (m != 0) pt ++
  boundBytes (capB (addB b pt)) ++ leBytes 8 (if tr then tauAt s.now s / 1000 else 0) ++
  leBytes 2 (match tSelected s with | some o => idOf o | none => 0) ++ zeros 6

def hBoundRead : Handler := fun q s =>
  checked q 4 [F 0 1 (fun v => decide (v < 16) || v == 0xFF), rsvF 1 3] (.done (boundReadReply (fld q.params 0 1) s) s)

def execBoundRead (q : Req) (s : State) : Outcome State Fault Refusal := cmdRow 0x0510 hBoundRead q s

/-- The reply of BOUND_POLICY: the values in force (R168). -/
def boundPolicyReply (id : Nat) (c : Cfg) : Bytes :=
  let e : BoundSrcCfg := match ordOf id with | some o => nth c.boundSrc o | none => {}
  [0#8] ++ leBytes 1 c.bound.nTrack ++ leBytes 2 id ++ leBytes 1 (if e.halfPath then 1 else 0) ++ zeros 3 ++
  leBytes 8 e.asymAllow ++ leBytes 8 e.extraUnc ++ leBytes 8 c.bound.alertLevel

/-- A TIME or PHASE source of a configuration (R70, R168). -/
def timeOrPhase (c : Cfg) (o : Nat) : Bool := classOfSrc c o != .freq

/-- The fields of BOUND_POLICY against a shadow set (R168). -/
def boundPolicyFields (c : Cfg) (p : Bytes) : List Fld :=
  let g := bit (fld p 0 1) 0
  let so := bit (fld p 0 1) 1
  let srcOk := fun (v : Nat) => match ordOf v with
    | some o => !so || timeOrPhase c o
    | none => v == 0 && !so
  let isPtp := match ordOf (fld p 2 2) with | some o => kindOf o == .ptp | none => false
  [inF 0 1 0 3, setF g 1 1 4 255, F 2 2 srcOk, setIf so 4 1 (fun v => v == 0 || (v == 1 && isPtp)), rsvF 5 3,
    setIf so 8 8 (fun v => decide (v < 2 ^ 40)), setIf so 16 8 (fun v => decide (v < 2 ^ 40)),
    setIf g 24 8 (fun v => decide (v < 2 ^ 40))]

def hBoundPolicy : Handler := fun q s =>
  let p := q.params
  let g := bit (fld p 0 1) 0
  let so := bit (fld p 0 1) 1
  let id := fld p 2 2
  checked q 32 (boundPolicyFields s.shadow p) <|
  let s' := if fld p 0 1 = 0 then s else shadowed (fun c =>
    let c := if g then { c with bound := { nTrack := fld p 1 1, alertLevel := fld p 24 8 } } else c
    match so, ordOf id with
    | true, some o => { c with boundSrc := upd c.boundSrc o (fun _ =>
        { halfPath := fld p 4 1 == 1, asymAllow := fld p 8 8, extraUnc := fld p 16 8 }) }
    | _, _ => c) s
  .done (boundPolicyReply id s.work) s'

def execBoundPolicy (q : Req) (s : State) : Outcome State Fault Refusal := cmdRow 0x0511 hBoundPolicy q s

end Sys2Proof.Machine
end

