-- ==== Sys2Proof/Machine/Gnss.lean ====
section
/-! DEFINITION. The meanings of the GNSS baseband's rows (chapter 06). -/
namespace Sys2Proof.Machine
open Sys2Proof Host

/-- The ordinal of the GNSS source. -/
def gnssOrd : Nat := 28

def updGnss (f : GnssRun → GnssRun) (s : State) : State := { s with gnss := f s.gnss }

/-! ### Navigation words (R176, R184, R185). The field places are those of IS-GPS-200. -/

/-- Data word `k` of a stored page or of three stored subframes. -/
def navWord (w : Bytes) (k : Nat) : Nat := fld w (4 * k) 4

def navKey (kind prn : Nat) : Nat := 64 * kind + prn

def ephIodc (w : Bytes) : Nat := navWord w 7 / 65536
def ephIode2 (w : Bytes) : Nat := navWord w 12 / 65536
def ephIode3 (w : Bytes) : Nat := navWord w 29 / 65536
/-- toe in seconds of the week. -/
def ephToe (w : Bytes) : Nat := navWord w 19 / 256 % 65536 * 16
def ephWeek (w : Bytes) : Nat := navWord w 2 / 2 ^ 14
def ephHealth (w : Bytes) : Nat := navWord w 2 / 4 % 64

/-- The GPS week and the seconds of week of the counter (R178). -/
def gpsSec (s : State) : Nat := s.time.counter.sec - 315964819
def gpsWeek (s : State) : Nat := gpsSec s / 604800

/-- The full week of a 10-bit week number (R184). -/
def resolveWeek (s : State) (wn : Nat) : Nat :=
  if s.time.valid then
    let base := gpsWeek s - 512
    base + (wn + 1024 - base % 1024) % 1024
  else
    let base := s.work.gnss.wnBase
    base + (wn + 1024 - base % 1024) % 1024

/-- The distance in seconds of a toe in a full week from the present GPS time. A toe within 4 h of the start of a week may belong to
the week after the one in which it was sent. -/
def toeDistance (s : State) (week toe : Nat) : Nat :=
  let d := fun (w : Nat) => (((604800 * w + toe : Nat) : Int) - gpsSec s).natAbs
  if toe ≤ 14400 then min (d week) (d (week + 1)) else d week

/-- While time is known, an ephemeris whose toe lies more than 4 h away is stale (R176). -/
def ephStale (s : State) (w : Bytes) : Bool := s.time.valid && decide (toeDistance s (resolveWeek s (ephWeek w)) (ephToe w) > 14400)

/-- The current offset and the leap that the UTC parameters give (R185). -/
def gnssLeapNews (s : State) : LeapNews :=
  match getKey (navKey 5 0) s.gnss.nav with
  | none => {}
  | some n =>
    let w8 := navWord n.words 8
    let ls := toSigned 8 (w8 / 65536)
    let lsf := toSigned 8 (navWord n.words 9 / 65536)
    let wk := if s.time.valid then gpsWeek s else s.gnss.week
    let base := wk - 127
    let full := base + (w8 / 256 % 256 + 256 - base % 256) % 256
    let tai : Int := 315964819 + 604800 * full + 86400 * (w8 % 256 : Nat) + lsf
    { offset := some (ls + 19)
      leap := if lsf = ls then none else some (tai.toNat, lsf + 19)
      source := .gnss }

/-- Navigation words are stored; an ephemeris resolves the week (R176, R184). -/
def storeNav (key : Nat) (item : NavItem) (s : State) : State :=
  let s := updGnss (fun g => { g with nav := putKey key item g.nav }) s
  if key / 64 = 4 then
    updGnss (fun g => { g with week := resolveWeek s (ephWeek item.words), weekFromCounter := s.time.valid }) s
  else s

/-- Broadcast words of this kind are stored. -/
def hasBroadcast (s : State) (key : Nat) : Bool :=
  match getKey key s.gnss.nav with
  | some n => n.broadcast
  | none => false

/-- Accepted aids apply where no broadcast words stand (R176). -/
def applyAids (s : State) : State :=
  let l := s.gnss.aids
  l.foldl (fun s a => if hasBroadcast s a.1 then s else storeNav a.1 { words := a.2, broadcast := false } s)
    (updGnss (fun g => { g with aids := [] }) s)

/-! ### Receiver states (R179) -/

/-- All channels are dropped. -/
def dropChannels (s : State) : State := updGnss (fun g => { g with channels := [], reacquire := [], due := none }) s

/-- The survey accumulators are cleared (R179). -/
def clearSurvey (s : State) : State :=
  updGnss (fun g => { g with accCount := 0, accSum := (0, 0, 0), accSquare := 0, elapsed := 0, secondDue := false, lastPos := none
                             recentPos := none, openSecond := none }) s

/-- The given position is held. -/
def holdGiven (s : State) : State :=
  updGnss (fun g => { g with state := .hold, heldPos := g.setting.pos, heldUnc := g.setting.posUnc }) s

/-- A waiting GNSS_SURVEY takes effect (R179, R190). -/
def applySurvey (s : State) : State :=
  match s.gnss.survey with
  | none => s
  | some c =>
    let s := updGnss (fun g => { g with setting := c, survey := none }) s
    if c.fixed then (if s.gnss.state == .off then s else holdGiven s)
    else if s.gnss.state == .survey || s.gnss.state == .hold then clearSurvey (updGnss (fun g => { g with state := .survey }) s)
    else s

/-- The source has no samples and fails SOURCE_HEALTH (R78, R171, R180). -/
def gnssUnhealthy (s : State) : State :=
  let s := updRef gnssOrd (fun r => { r with healthOk := false }) s
  evalAll (sourceSilent gnssOrd s)

/-- An epoch without a timing fix (R180). -/
def noFix (s : State) : State :=
  let s := bump (64 * 6 + 33) s
  let s := if s.gnss.hadFix then raise 6 3 s else s
  gnssUnhealthy (updGnss (fun g => { g with timingFix := false, hadFix := false, used := 0 }) s)

/-- Words for the front end when the baseband leaves OFF (R173). -/
def gspiWords (s : State) : State :=
  let c := s.work.gnss
  let s := c.gspiWords.foldl (fun s w => emit (.serial "GSPI" (beBytes 4 w)) s) s
  updGnss (fun g => { g with gspiBusy := !c.gspiWords.isEmpty }) s

/-- The baseband goes to OFF (R179). -/
def gnssToOff (s : State) : State :=
  gnssUnhealthy (dropChannels (updGnss (fun g => { g with state := .off, timingFix := false, firstFix := false, used := 0, gspiBusy := false }) s))

/-- The baseband leaves OFF (R173, R179). -/
def gnssStart (s : State) : State := gspiWords (updGnss (fun g => { g with state := .acquire }) s)

/-- The change of state that a commit asks for, and the next measurement epoch takes (R179). -/
def gnssChange (old : GnssCfg) (s : State) : Option GnssChange :=
  let c := s.work.gnss
  let off := s.gnss.state == .off
  if !c.enable then (if off then none else some .stop)
  else if off then some .start
  else if c.ifFreq != old.ifFreq || c.flags != old.flags || s.gnss.change == some .stop then some .restart
  else s.gnss.change

def gnssCommit (old : GnssCfg) (s : State) : State :=
  updGnss (fun g => { g with change := gnssChange old s }) s

/-- The change of state that waits takes effect (R179). -/
def takeChange (s : State) : State :=
  let t := updGnss (fun g => { g with change := none }) s
  match s.gnss.change with
  | none => s
  | some .start => gnssStart t
  | some .stop => gnssToOff t
  | some .restart => gnssStart (gnssToOff t)

/-! ### The timing solution (R178, R182, R183) -/

/-- A satellite's stored ephemeris is valid and healthy (R178). -/
def satUsable (s : State) (m : SatMeas) : Bool :=
  let c := s.work.gnss
  s.gnss.channels.any (fun ch => ch.prn == m.prn) && m.bitSync && decide (m.elevation ≥ c.elevMask) && decide (m.cn0 ≥ c.cn0Mask) &&
  (match getKey (navKey 4 m.prn) s.gnss.nav with
   | none => false
   | some n => !ephStale s n.words && ephHealth n.words == 0)

/-- Ionospheric parameters are stored (R183). -/
def hasIono (s : State) : Bool := (getKey (navKey 5 0) s.gnss.nav).isSome

/-- The modelled ionospheric delay of a satellite in ps, where parameters are stored (R178). -/
def ionoOf (s : State) (m : SatMeas) : Nat :=
  match getKey (navKey 5 0) s.gnss.nav with
  | some n => Config.ionoDelay n.words s.gnss.heldPos m.elevation m.azimuth (gpsSec s)
  | none => 0

/-- sin of an angle from 0 to 90 degrees in 2⁻³⁰, by its series. -/
def sinDeg (deg : Nat) : Nat :=
  let q : Int := 1099511627776
  let x : Int := (deg * 3454217652358 / 180 : Nat)
  let x2 := x * x / q
  let f : Int → Nat → Int := fun a n => q - x2 * a / (q * n)
  (x * f (f (f (f (f (f q 156) 110) 72) 42) 20) 6 / q / 1024).toNat

/-- The modelled tropospheric delay of a satellite in ps: the zenith delay over the sine of the elevation (R178). -/
def tropoOf (s : State) (m : SatMeas) : Nat :=
  if m.elevation = 0 then Config.horizonDelay s.gnss.heldPos
  else ceilDiv (Config.zenithDelay s.gnss.heldPos * 2 ^ 30) (max 1 (sinDeg m.elevation))

/-- The residual of a measurement against compensated counter time, after the ionospheric and tropospheric corrections (R172, R178,
R182). -/
def compResidual (s : State) (m : SatMeas) : Int :=
  m.residual + roundDivI ((ionoOf s m + tropoOf s m : Nat) * 65536) 1000 + s.work.gnss.cableDelay + s.work.gnss.frontendDelay

/-- Twice the median of residuals: the middle one, or the mean of the two middle ones. -/
def median2 (l : List Int) : Int :=
  let l := sortBy (fun a b => decide (a < b)) l
  l.getD ((l.length - 1) / 2) 0 + l.getD (l.length / 2) 0

/-- 2·σ of n residuals with a floor in ps, rounded up (R183). -/
def twoSigmaOf (l : List Int) (sFloor : Nat) : Nat :=
  let n := l.length
  let sum : Int := l.foldl (· + ·) 0
  let sq : Int := l.foldl (fun a r => a + r * r) 0
  if n ≤ 1 then 4 * sFloor
  else
    max (isqrtUp (ceilDiv (4 * sFloor * sFloor) n))
      (isqrtUp (ceilDiv (4 * ((n : Int) * sq - sum * sum).toNat * 1000000) (n * n * (n - 1) * 2 ^ 32)))

/-- ION and TROPO over the satellites used, rounded up (R183). -/
def atmosphere (s : State) (u : List SatMeas) : Nat :=
  let n := u.length
  (if hasIono s then ceilDiv (s.work.gnss.ionFrac * u.foldl (fun a m => a + ionoOf s m) 0) (256 * n) else 50000) +
    ceilDiv (u.foldl (fun a m => a + tropoOf s m) 0) (16 * n)

/-- The sample of HOLD: the offset and U, with the satellites used (R183). -/
def holdSolve (s : State) (u : List SatMeas) : List SatMeas × Int × Nat :=
  let rs := u.map (compResidual s)
  let n := u.length
  (u, roundDivI (rs.foldl (· + ·) 0) n,
   twoSigmaOf rs s.work.gnss.sFloor + atmosphere s u + ceilDiv (s.gnss.heldUnc * 1000000000) 299792458 + 20 + s.work.gnss.calUnc)

/-- The determinant of the first `n` rows and columns, by its first row. -/
def det : Nat → List (List Int) → Int
  | 0, _ => 1
  | n + 1, m =>
    (List.range (n + 1)).foldl (fun a k =>
      let r := (m.headD []).getD k 0
      a + (if k % 2 = 0 then r else -r) * det n ((m.drop 1).map fun l => l.eraseIdx k)) 0

/-- The coefficients of the four-state model for a satellite: the direction, by which a displacement toward it makes its signal early,
and the clock (R183). -/
def satRow (m : SatMeas) : List Int := [m.los.1, m.los.2.1, m.los.2.2, 2 ^ 30]

/-- A weighted sum over the satellites. -/
def satSum (u : List SatMeas) (w f : SatMeas → Int) : Int := u.foldl (fun a m => a + w m * f m) 0

/-- The normal matrix of the four-state model under weights. -/
def normalMatrix (u : List SatMeas) (w : SatMeas → Int) : List (List Int) :=
  (List.range 4).map fun i => (List.range 4).map fun j => satSum u w fun m => (satRow m).getD i 0 * (satRow m).getD j 0

/-- The weight of a satellite: the spec states none. -/
def satWeightOf (m : SatMeas) : Int := 1 + (Config.satWeight m.elevation m.cn0 : Nat)

/-- A four-state solution: position in mm, clock term in 2⁻¹⁶ ns, TDOP in 1/65,536, and the sum of the squared post-fit residuals in
(2⁻¹⁶ ns)² (R183). -/
structure FourState where
  pos : Int × Int × Int
  clock : Int
  tdop : Nat
  squares : Nat

/-- The four-state weighted least-squares solution, about a point (R183). There is none where the directions leave it open. -/
def fourState (s : State) (u : List SatMeas) (f : SatFix) : Option FourState :=
  let n := normalMatrix u satWeightOf
  let r := (List.range 4).map fun i => satSum u satWeightOf fun m => (satRow m).getD i 0 * compResidual s m
  let d := det 4 n
  if u.length < 4 ∨ d ≤ 0 then none
  else
    let v := (List.range 4).map fun k => det 4 (n.zipWith (fun l b => l.set k b) r)
    let n1 := normalMatrix u fun _ => 1
    let mm := fun (c : Nat) => roundDivI (v.getD c 0 * 2 ^ 30 * 299792458) (d.toNat * 65536000000)
    let post := fun (m : SatMeas) => compResidual s m - roundDivI ((List.range 4).foldl (fun a k => a + (satRow m).getD k 0 * v.getD k 0) 0) d.toNat
    some {
      pos := (f.x + mm 0, f.y + mm 1, f.z + mm 2)
      clock := roundDivI (v.getD 3 0 * 2 ^ 30) d.toNat
      tdop := isqrtUp (ceilDiv ((det 3 n1).toNat * 2 ^ 92) (max 1 (det 4 n1).toNat))
      squares := u.foldl (fun a m => a + (post m).natAbs ^ 2) 0 }

/-- The sample of SURVEY (R183). -/
def surveySolve (s : State) (u : List SatMeas) (f : FourState) : Int × Nat :=
  let n := u.length
  let sf := s.work.gnss.sFloor
  let two := if n ≤ 4 then ceilDiv (4 * sf * f.tdop) 65536
    else max (ceilDiv (2 * sf * f.tdop) 65536) (isqrtUp (ceilDiv (4 * f.squares * 1000000 * f.tdop * f.tdop) ((n - 4) * 2 ^ 64)))
  (f.clock, two + atmosphere s u + 20 + s.work.gnss.calUnc)

/-- A solved epoch: the sample waits for its delivery (R182). -/
def solved (offset : Int) (unc : Nat) (usedPrns : List Nat) (s : State) : State :=
  let s := bump (64 * 6 + 32) s
  let s := if s.gnss.firstFix then s else raise 6 1 s
  updGnss (fun g => { g with
    timingFix := true, hadFix := true, firstFix := true, used := usedPrns.length, phase := satOffset offset, unc := unc
    channels := g.channels.map fun c => { c with used := usedPrns.contains c.prn }
    due := some { stamp := curTs s, offset := satOffset offset, unc := min unc unboundedPs, epoch := s.time.stepEpoch, ps := s.now } }) s

/-- The residual check and the sample in HOLD (R183). -/
def holdEpoch (u : List SatMeas) (s : State) : State :=
  let m2 := median2 (u.map (compResidual s))
  let out := if u.length ≥ 3 then
      u.filter fun m => decide ((2 * compResidual s m - m2).natAbs > 2 * s.work.gnss.residLimit) else []
  let keep := u.filter fun m => !out.contains m
  let s := out.foldl (fun s _ => raise 6 4 s) s
  let s := updGnss (fun g => { g with channels := g.channels.map fun c => { c with excluded := out.any (fun m => m.prn == c.prn) } }) s
  if 2 * out.length > u.length then noFix (raise 6 5 s)
  else if keep.isEmpty then noFix s
  else
    let (k, t, unc) := holdSolve s keep
    solved t unc (k.map (·.prn)) s

/-- What one channel reports at an epoch. -/
def measChan (s : State) (meas : List SatMeas) (c : GnssChan) : GnssChan :=
  match meas.find? (fun m => m.prn == c.prn) with
  | none => { c with used := false, excluded := false }
  | some m => { c with bitSync := m.bitSync, cn0 := m.cn0, elevation := m.elevation, azimuth := m.azimuth, doppler := m.doppler,
                       residual := compResidual s m, used := false, excluded := false }

/-- What the channels report at an epoch. -/
def takeMeas (meas : List SatMeas) (s : State) : State :=
  updGnss (fun g => { g with channels := g.channels.map (measChan s meas) }) s

/-- Solutions per second. -/
def solPerSec (c : GnssCfg) : Nat := 2 ^ c.solRate

/-- The next measurement epoch as a counter value in 2⁻⁴⁸ ns (R182). -/
def epochTarget (s : State) : Nat :=
  let step := 1000000000 / solPerSec s.work.gnss * 2 ^ 48
  (s.time.counter.total / step + 1) * step

/-- The solution nearest a counter second is known at an epoch, with the position of that epoch if it was solved: the one at the
second, else the nearer of the latest before it and the first after it, within half a second (R181). -/
def noteSecond (n : Nat) (atSecond : Bool) (pos : Option (Int × Int × Int)) (g : GnssRun) : GnssRun :=
  let before := match g.recentPos with
    | some (k, p) => if 2 * (k + 1) ≤ n then some (k + 1, p) else none
    | none => none
  let g := { g with recentPos := match pos with | some p => some (0, p) | none => before }
  let due := fun (p : Option (Int × Int × Int)) => { g with secondDue := true, lastPos := p, openSecond := none }
  if atSecond then
    if pos.isSome || n = 1 then due pos
    else { g with openSecond := some 0 }
  else match g.openSecond with
  | none => g
  | some k =>
    let k := k + 1
    let early := match before with | some (b, p) => if b - k ≤ k then some p else none | none => none
    if early.isSome then due early
    else if pos.isSome then due pos
    else if 2 * k ≥ n then due none
    else { g with openSecond := some k }

/-- An epoch in a receiver state, with the position it solves (R179 to R183). -/
def solveEpoch (u : List SatMeas) (fix : Option SatFix) (s : State) : Option Position × State :=
  match s.gnss.state with
  | .off => (none, s)
  | .acquire =>
    let s := noFix s
    (none, if s.gnss.setting.fixed then
      if u.isEmpty then s else raise 6 1 (holdGiven (updGnss (fun g => { g with firstFix := true }) s))
    else if u.length ≥ 4 then clearSurvey (updGnss (fun g => { g with state := .survey }) s) else s)
  | .survey =>
    match fix.bind (fourState s u) with
    | some f =>
      let r := surveySolve s u f
      (some f.pos, solved r.1 r.2 (u.map (·.prn)) s)
    | none => (none, noFix s)
  | .hold => (none, holdEpoch u s)

/-- The machine at its next measurement epoch, with what takes effect there (R176, R179, R182). -/
def openEpoch (s : State) : State :=
  let s := applyAids (applySurvey (takeChange (moveToCounter (epochTarget s) s)))
  updGnss (fun g => { g with lastEpoch := curTs s }) s

/-- A survey's count of seconds at an epoch. -/
def surveyEpoch (pos : Option (Int × Int × Int)) (s : State) : State :=
  let n := solPerSec s.work.gnss
  if s.gnss.state == .survey then updGnss (noteSecond n (decide (s.time.counter.ns < 1000000000 / n)) pos) s else s

/-- A measurement epoch is solved (R179 to R183). -/
def gnssEpoch (meas : List SatMeas) (fix : Option SatFix) (s : State) : State :=
  if (s.gnss.state == .off && s.gnss.change.isNone) || !running s then s
  else
    let s := openEpoch s
    if s.gnss.state == .off then s
    else if s.gnss.clkFault then noFix s
    else
      let s := takeMeas meas s
      let r := solveEpoch (meas.filter (satUsable s)) fix s
      surveyEpoch r.1 r.2

def execGnssEpoch (meas : List SatMeas) (fix : Option SatFix) (s : State) : Outcome State Fault Refusal :=
  .next (gnssEpoch meas fix { s with out := [] })

/-- The epoch's sample is delivered to the monitor (R182). -/
def gnssSample (ps : Nat) (s : State) : State :=
  match s.gnss.due with
  | none => s
  | some d =>
    let s := moveTo ps s
    let per := secPs / solPerSec s.work.gnss
    let s := updRef gnssOrd (fun r => { r with healthOk := true, misses := 0 }) (updGnss (fun g => { g with due := none }) s)
    let s := deliver gnssOrd { stamp := d.stamp, offset := d.offset, unc := d.unc, period := per, perNum := per, perDen := 1
                               ep := some d.epoch, lag := s.now - d.ps } false s
    if tSelected s == some gnssOrd && (refOf s gnssOrd).state == .qualified then takeLeapNews (gnssLeapNews s) s else s

def execGnssSample (t : Nat) (s : State) : Outcome State Fault Refusal := .next (whileRunning (gnssSample t) { s with out := [] })

/-! ### The sample clock (R171) -/

/-- The sample clock faults: channels are dropped and the receiver acquires anew (R171, R179). -/
def clkFault (s : State) : State :=
  if s.gnss.clkFault then s
  else
    let s := updGnss (fun g => { g with clkFault := true, timingFix := false }) (raise 6 6 s)
    let s := if s.gnss.state == .off then s else dropChannels (updGnss (fun g => { g with state := .acquire }) s)
    gnssUnhealthy s

def execClkFault (t : Nat) (s : State) : Outcome State Fault Refusal := .next (whileRunning clkFault (begin_ t s))

/-- A level of a component: sign and magnitude, the sign inverted or not (R169). -/
def level (invert sign mag : Bool) : Int :=
  let m : Int := if mag then 3 else 1
  if sign != invert then -m else m

/-- A sample as a complex value: I + jQ, or I − jQ with SPEC_INV (R169, R170). -/
def sampleOf (flags : Nat) (b : GnssBits) : Int × Int :=
  let q := level (bit flags 1) b.signQ b.magQ
  (level (bit flags 0) b.signI b.magI, if bit flags 2 then -q else q)

/-- The least-squares line through stamps against their numbers: its value at 0 and its slope, each a quotient (R171). -/
def lineFit (l : List Int) : (Int × Int) × Int × Int :=
  let n : Int := l.length
  let (_, sk, skk, sy, sky) := l.foldl (fun (k, a, b, c, d) y => (k + 1, a + k, b + k * k, c + y, d + k * y)) ((0 : Int), (0 : Int), (0 : Int), (0 : Int), (0 : Int))
  let den := n * skk - sk * sk
  ((sy * skk - sky * sk, den), n * sky - sk * sy, den)

/-- The frequency offset from 16.368 MHz, in 2⁻⁶⁴, of a clock with this period in 2⁻¹⁶ ns (R171). -/
def clockOffset (num den : Int) : Int :=
  roundDivI (2 ^ 64 * (65536 * 1000000 * den - 16368 * num)) (max 1 (16368 * num).toNat)

/-- A block of samples with the line through the stamps of its edges, and the frequency offset of the line; no line is drawn through
stamps of two step epochs (R23, R169 to R172). -/
def takeBlock (l : List GnssBits) (s : State) : GnssBlock × Option Int :=
  let st := l.map fun b => pastStamp s b.edge
  let c := s.work.gnss
  let ((a, d), num, den) := lineFit (st.map fun e => (e.1 : Int))
  let one := st.all fun e => e.2 == s.time.stepEpoch
  ({ start := roundDivI a (max 1 d.toNat) - c.cableDelay - c.frontendDelay, periodNum := num, periodDen := den, samples := l.map (sampleOf c.flags) },
   if one && decide (den > 0) then some (clockOffset num den) else none)

/-- A fitted frequency is checked against 100 × 10⁻⁶ (R171). -/
def checkClock (offset : Int) (s : State) : State :=
  let s := updGnss (fun g => { g with clkOffset := offset }) s
  if offset.natAbs > 1844674407370955 then clkFault s else updGnss (fun g => { g with clkFault := false }) s

/-- A block of 16,368 samples is complete: the stamps of its edges are fitted and the frequency is checked (R169 to R172). -/
def clockFit (ps : Nat) (l : List GnssBits) (s : State) : State :=
  let x := begin_ ps s
  let b := takeBlock l x
  match b.2 with
  | none => updGnss (fun g => { g with block := b.1 }) x
  | some o => checkClock o (updGnss (fun g => { g with block := b.1 }) x)

def execGnssClockFit (t : Nat) (block : List GnssBits) (s : State) : Outcome State Fault Refusal := .next (if running s then clockFit t block s else begin_ t s)

/-- The front end has its words; acquisition starts (R173). -/
def execGspiWritesDone (t : Nat) (s : State) : Outcome State Fault Refusal :=
  .next (whileRunning (updGnss (fun g => { g with gspiBusy := false })) (begin_ t s))

/-! ### Acquisition and tracking (R174, R176, R177) -/

/-- The lowest channel that holds no PRN. -/
def freeChannel (l : List GnssChan) : Option Nat := (List.range 48).find? fun k => l.all fun c => c.channel != k

/-- Channels in ascending PRN. -/
def insertChan (c : GnssChan) (l : List GnssChan) : List GnssChan := insertBy (fun a b => decide (a.prn < b.prn)) c l

/-- The time in force as aiding with its uncertainty in ps: the counter while time is valid and its bound finite, else a TIME aid
(R175). -/
def timeAiding (s : State) : Option (Nat × Nat) :=
  if s.time.valid then
    let b := boundPs (counterBound s)
    if b < unboundedPs then some (curTs s / tsSec, b) else none
  else s.gnss.timeAid.map fun a => (a.1 / tsSec, a.2)

/-- The position in force as aiding with its uncertainty in mm: the held one in HOLD, else a POSITION aid (R175). -/
def posAiding (s : State) : Option ((Int × Int × Int) × Nat) :=
  if s.gnss.state == .hold then some (s.gnss.heldPos, s.gnss.heldUnc)
  else s.gnss.posAid.map fun p => ((fldI p 4 8, fldI p 12 8, fldI p 20 8), fld p 0 4)

/-- The words that aid the search for a PRN, and whether they are an ephemeris: a valid ephemeris, else an almanac (R174). -/
def satAiding (s : State) (prn : Nat) : Option (Bytes × Bool) :=
  match (getKey (navKey 4 prn) s.gnss.nav).filter (fun n => !ephStale s n.words) with
  | some n => some (n.words, true)
  | none => (getKey (navKey 3 prn) s.gnss.nav).map fun n => (n.words, false)

/-- The search for a PRN: the centre and half span of the carrier in Hz, and the half span of the code in chips where it is not full. -/
structure Search where
  centre : Int
  span : Nat
  code : Option Nat
  deriving DecidableEq, Repr

/-- The search space for a PRN under the aiding in force, none where it is not searched (R174). The unaided span is 5,000 Hz and
2 × 10⁻⁶ of 1,575.42 MHz, rounded up. -/
def searchFor (s : State) (prn : Nat) : Option Search :=
  let c := s.work.gnss
  match timeAiding s, posAiding s, satAiding s prn with
  | some (sec, tu), some (pos, pu), some (w, eph) =>
    if tu ≤ secPs ∧ pu ≤ 100000000 then
      let v := Config.satView w pos (sec - 315964819)
      if v.1 > c.elevMask then
        some { centre := c.ifFreq + v.2, span := 150 + Config.freqUncertainty s.now
               code := if eph && decide (tu ≤ 10000000) && decide (pu ≤ 3000000) then some 64 else none }
      else none
    else some { centre := c.ifFreq, span := 8151, code := none }
  | _, _, _ => some { centre := c.ifFreq, span := 8151, code := none }

/-- A signal at a carrier in Hz and a code phase in chips from the predicted one lies in the space searched for its PRN; one that is
searched for again after its loss is (R174, R177). -/
def inSearch (s : State) (prn : Nat) (at_ : Int × Int) : Bool :=
  s.gnss.reacquire.any (fun r => r.1 == prn) ||
  match searchFor s prn with
  | none => false
  | some v => decide ((at_.1 - v.centre).natAbs ≤ v.span) && (match v.code with | some c => decide (at_.2.natAbs ≤ c) | none => true)

/-- A dwell may give a PRN a channel (R173, R174, R177). -/
def canAcquire (g : GnssRun) (prn : Nat) : Bool :=
  g.state != .off && !g.clkFault && !g.gspiBusy && prn != 0 && decide (prn ≤ 32) && !g.channels.any (fun c => c.prn == prn)

/-- A PRN has its channel. -/
def assignChannel (prn k : Nat) (s : State) : State :=
  updGnss (fun g => { g with channels := insertChan { prn, channel := k } g.channels, reacquire := g.reacquire.filter (fun r => r.1 != prn) }) s

/-- A dwell for one PRN completes; a PRN that is found, at a carrier and a code phase, gets a channel (R174, R177). -/
def dwell (ps prn : Nat) (found : Option (Int × Int)) (s : State) : State :=
  let s := begin_ ps s
  match found, freeChannel s.gnss.channels with
  | some f, some k => if canAcquire s.gnss prn && inSearch s prn f then assignChannel prn k s else s
  | _, _ => s

def execAcquisitionDwell (t prn : Nat) (found : Option (Int × Int)) (s : State) : Outcome State Fault Refusal := .next (if running s then dwell t prn found s else begin_ t s)

/-- A channel loses lock: its PRN is searched narrowly for 30 s (R177). -/
def lockLost (ps prn : Nat) (s : State) : State :=
  let s := begin_ ps s
  if s.gnss.channels.any (fun c => c.prn == prn) then
    updGnss (fun g => { g with channels := g.channels.filter (fun c => c.prn != prn), reacquire := g.reacquire ++ [(prn, s.now + 30 * secPs)] }) s
  else s

def execChannelLockLost (t prn : Nat) (s : State) : Outcome State Fault Refusal := .next (if running s then lockLost t prn s else begin_ t s)

/-- The narrowed search has run 30 s: the PRN returns to the general search (R177). -/
def reacquireTimeout (prn : Nat) (s : State) : State :=
  match s.gnss.reacquire.find? (fun r => r.1 == prn) with
  | none => s
  | some r => updGnss (fun g => { g with reacquire := g.reacquire.filter (fun r => r.1 != prn) }) (moveTo r.2 s)

def execReacquireTimeout (prn : Nat) (s : State) : Outcome State Fault Refusal := .next (whileRunning (reacquireTimeout prn) { s with out := [] })

/-- Navigation words without words 1 and 2 of each subframe, which carry no data of their kind (R189). -/
def navData (w : Bytes) : Bytes := [8, 48, 88].flatMap fun k => slice w k 32

/-- A page or an ephemeris is decoded; it replaces aided words (R176, R185, R187). -/
def navNew (ps kind prn : Nat) (words : Bytes) (s : State) : State :=
  let s := begin_ ps s
  if s.gnss.state == .off then s
  else
    let key := navKey kind (if kind = 5 then 0 else prn)
    let old := (getKey key s.gnss.nav).map fun n => (navData n.words, n.broadcast || kind == 5)
    let same := old == some (navData words, true)
    let s' := storeNav key { words, broadcast := true } s
    if kind = 5 then (if same then s' else raise 6 7 s')
    else if kind = 3 ∨ kind = 4 then (if same then s' else raise 6 0 s')
    else s

def execNavNew (t kind prn : Nat) (words : Bytes) (s : State) : Outcome State Fault Refusal := .next (if running s then navNew t kind prn words s else begin_ t s)

/-! ### The survey (R181) -/

/-- P_UNC in mm, rounded up: twice the root sum of the axis variances over √max(1, E / 60). -/
def pUnc (g : GnssRun) : Nat :=
  let n := g.accCount
  if n = 0 then (Config.emptySurvey g.elapsed).2
  else
    let (a, b, c) := g.accSum
    let num := (n * g.accSquare : Nat) - (a * a + b * b + c * c)
    isqrtUp (ceilDiv (4 * num.toNat * 60) (n * n * max 60 g.elapsed))

/-- The mean of the accumulated positions. -/
def surveyMean (g : GnssRun) : Int × Int × Int :=
  let (a, b, c) := g.accSum
  if g.accCount = 0 then (Config.emptySurvey g.elapsed).1 else (roundDivI a g.accCount, roundDivI b g.accCount, roundDivI c g.accCount)

/-- The survey is complete (R181). -/
def surveyDone (g : GnssRun) : Bool :=
  (g.accCount != 0 && decide (g.elapsed ≥ 60 * g.setting.surveyMin) && decide (pUnc g ≤ g.setting.surveyLimit)) ||
    decide (g.elapsed ≥ 60 * g.setting.surveyMax)

/-- A counter second of the survey (R181, R186). -/
def surveySecond (s : State) : State :=
  if s.gnss.state != .survey || !s.gnss.secondDue then s
  else
    let s := updGnss (fun g =>
      match g.lastPos with
      | none => { g with elapsed := g.elapsed + 1, secondDue := false }
      | some (x, y, z) =>
        { g with elapsed := g.elapsed + 1, secondDue := false, accCount := g.accCount + 1
                 accSum := (g.accSum.1 + x, g.accSum.2.1 + y, g.accSum.2.2 + z)
                 accSquare := g.accSquare + (x * x + y * y + z * z).toNat }) s
    if surveyDone s.gnss && s.gnss.survey.isNone then
      raise 6 2 (updGnss (fun g => { g with state := .hold, heldPos := surveyMean g, heldUnc := pUnc g }) s)
    else s

def execSurveySecond (s : State) : Outcome State Fault Refusal := .next (whileRunning surveySecond { s with out := [] })

/-! ### Commands (R188 to R192) -/

def gnssFields : List Fld :=
  [inF 0 1 0 1, inF 1 1 0 7, inF 2 1 0 4, inF 3 1 0 45, inF 4 1 22 45, anyF 5 1, inF 6 1 0 16, inF 7 1 0 2,
   F 8 4 (fun v => decide ((toSigned 32 v).natAbs ≤ 4000000)), inF 12 2 0 8191, rsvF 14 2, anyF 16 8, anyF 24 8, boundF 32,
   magF 40, inF 48 4 100 100000, rsvF 52 4]

def gnssCfgOf (p : Bytes) : GnssCfg :=
  { enable := fld p 0 1 == 1, flags := fld p 1 1, solRate := fld p 2 1, elevMask := fld p 3 1, cn0Mask := fld p 4 1
    ionFrac := fld p 5 1, gspiClk := fld p 7 1, ifFreq := fldI p 8 4, wnBase := fld p 12 2, cableDelay := fldI p 16 8
    frontendDelay := fldI p 24 8, calUnc := fld p 32 8, residLimit := fld p 40 8, sFloor := fld p 48 4
    gspiWords := (List.range (min 16 (fld p 6 1))).map fun k => fld p (56 + 4 * k) 4 }

def hGnssConfigure : Handler := fun q s =>
  checkedN q 56 gnssFields (min 16 (fld q.params 6 1)) 4 (fun k => [anyF (56 + 4 * k) 4]) <|
  refuseIf ((gnssCfgOf q.params).enable && (getKey 4 s.boot.images).isNone) stBadState 0 <|
  writes (fun c => { c with gnss := gnssCfgOf q.params }) s

def execGnssConfigure (q : Req) (s : State) : Outcome State Fault Refusal := cmdRow 0x0600 hGnssConfigure q s

/-- The body of an aid by TYPE (R189). -/
def aidFields (ty : Nat) : List Fld :=
  let words := fun n => (List.range n).map fun k => F (4 + 4 * k) 4 (fun v => decide (v < 2 ^ 24))
  if ty = 1 then [anyF 4 4, anyF 8 8, anyF 16 8, anyF 24 8]
  else if ty = 2 then [tsF 4, F 16 8 (fun v => decide (v < unboundedPs))]
  else if ty = 4 then words 30
  else words 10

def aidLen (ty : Nat) : Nat := if ty = 1 then 32 else if ty = 2 then 24 else if ty = 4 then 124 else 44

/-- The fields of GNSS_AID (R189). -/
def aidAll (p : Bytes) : List Fld :=
  let ty := fld p 0 1
  [inF 0 1 1 5, whenF (ty == 3 || ty == 4) 1 1 1 32, rsvF 2 2] ++ aidFields ty

def aidReply (r : Nat) : Bytes := leBytes 1 r ++ zeros 3

def hGnssAid : Handler := fun q s =>
  let p := q.params
  let ty := fld p 0 1
  checked q (aidLen ty) (aidAll p) <|
  let key := navKey ty (fld p 1 1)
  let body := slice p 4 (aidLen ty - 4)
  if ty = 1 then .done (aidReply 0) (updGnss (fun g => { g with posAid := some body }) s)
  else if ty = 2 then
    refuseIf s.time.valid stBadState 0 <|
    .done (aidReply 0) (updGnss (fun g => { g with timeAid := some (tsOfField (fld p 4 12), fld p 16 8) }) s)
  else if ty = 4 then
    refuseIf (decide (ephIodc body % 256 ≠ ephIode2 body)) stBadParam 52 <|
    refuseIf (decide (ephIodc body % 256 ≠ ephIode3 body)) stBadParam 120 <|
    if ephStale s body then .done (aidReply 2) (raise 6 8 s)
    else match getKey key s.gnss.nav with
    | some { words := w, broadcast := true } =>
      if ephToe w = ephToe body ∧ ephIode2 w ≠ ephIode2 body then .done (aidReply 3) (raise 6 8 s) else .done (aidReply 1) s
    | _ => .done (aidReply 0) (updGnss (fun g => { g with aids := g.aids ++ [(key, body)] }) s)
  else if hasBroadcast s key then .done (aidReply 1) s
  else .done (aidReply 0) (updGnss (fun g => { g with aids := g.aids ++ [(key, body)] }) s)

def execGnssAid (q : Req) (s : State) : Outcome State Fault Refusal := cmdRow 0x0601 hGnssAid q s

/-- The fields of GNSS_SURVEY (R190). -/
def surveyFields (p : Bytes) : List Fld :=
  let fixed := fld p 0 1 == 1
  let sv : Nat → Nat → Fld := fun o n => F o n (fun v => fixed || v == 0)
  [inF 0 1 0 1, rsvF 1 3, inF 4 2 1 65535, F 6 2 (fun v => decide (fld p 4 2 ≤ v ∧ 1 ≤ v)), F 8 4 (fun v => decide (1 ≤ v)),
    F 12 4 (fun v => !fixed || v != 0), sv 16 8, sv 24 8, sv 32 8]

def hGnssSurvey : Handler := fun q s =>
  let p := q.params
  let fixed := fld p 0 1 == 1
  checked q 40 (surveyFields p) <|
  .done [] (updGnss (fun g => { g with survey := some {
    fixed, surveyMin := fld p 4 2, surveyMax := fld p 6 2, surveyLimit := fld p 8 4, posUnc := if fixed then fld p 12 4 else 0
    pos := (fldI p 16 8, fldI p 24 8, fldI p 32 8) } }) s)

def execGnssSurvey (q : Req) (s : State) : Outcome State Fault Refusal := cmdRow 0x0603 hGnssSurvey q s

def gnssStateCode : GnssState → Nat
  | .off => 0
  | .acquire => 1
  | .survey => 2
  | .hold => 3

def gnssRow (s : State) (c : GnssChan) : Bytes :=
  let n := getKey (navKey 4 c.prn) s.gnss.nav
  leBytes 1 c.prn ++ leBytes 1 c.channel ++
  leBytes 1 (packBits [c.used, c.excluded, n.isSome, (match n with | some n => ephHealth n.words == 0 | none => false),
    (match n with | some n => !n.broadcast | none => false), c.bitSync]) ++
  leBytes 1 c.cn0 ++ leBytes 1 c.elevation ++ [0#8] ++ leBytes 2 c.azimuth ++ leInt 4 c.doppler ++
  leInt 4 (roundDivI (c.residual * 1000) 65536)

def gnssStatusReply (s : State) : Bytes :=
  let g := s.gnss
  let (x, y, z) := if g.state == .survey then surveyMean g else g.heldPos
  let has := hasIono s
  leBytes 1 (gnssStateCode g.state) ++ leBytes 1 (b2n g.setting.fixed) ++ leBytes 1 g.channels.length ++ leBytes 1 g.used ++
  leBytes 4 (packBits [g.timingFix, has, has, g.clkFault, g.weekFromCounter]) ++ tsBytes g.lastEpoch ++ zeros 4 ++
  leInt 8 g.phase ++ leBytes 8 (min g.unc unboundedPs) ++ leBytes 4 (if g.state == .survey then g.elapsed else 0) ++
  leBytes 4 (if g.state == .survey then pUnc g else g.heldUnc) ++ leInt 8 x ++ leInt 8 y ++ leInt 8 z ++
  leInt 8 g.clkOffset ++ leBytes 2 g.week ++ leBytes 1 (min 32 g.channels.length) ++ zeros 5 ++
  (g.channels.take 32).flatMap (gnssRow s)

def hGnssStatus : Handler := fun q s => checked q 0 [] (.done (gnssStatusReply s) s)

def execGnssStatus (q : Req) (s : State) : Outcome State Fault Refusal := cmdRow 0x0602 hGnssStatus q s

def hGnssNavData : Handler := fun q s =>
  let ty := fld q.params 0 1
  let prn := fld q.params 1 1
  checked q 4 [inF 0 1 3 5, whenF (ty == 3 || ty == 4) 1 1 1 32, rsvF 2 2] <|
  let n := getKey (navKey ty prn) s.gnss.nav
  let len := aidLen ty - 4
  .done (leBytes 1 ty ++ leBytes 1 prn ++ leBytes 1 (packBits [n.isSome, (match n with | some n => n.broadcast | none => false)]) ++
    [0#8] ++ (match n with | some n => slice n.words 0 len | none => zeros len)) s

def execGnssNavData (q : Req) (s : State) : Outcome State Fault Refusal := cmdRow 0x0604 hGnssNavData q s

end Sys2Proof.Machine
end

