-- ==== Sys2Proof/Machine/KittyOps.lean ====
section
/-! DEFINITION. Life-cycle states, derived keys, measurements, the Kitty's image and its credits (R429 to R451). -/
namespace Sys2Proof.Machine
open Sys2Proof

def updKitty (f : KittyPart → KittyPart) (s : State) : State := { s with kitty := f s.kitty }
def updAttest (f : AttestPart → AttestPart) (s : State) : State := { s with attest := f s.attest }

/-! ### Life cycle and roots (R429 to R433) -/

/-- The root of a bank: its first position, or its spare when the first was abandoned (R432). -/
def bankRoot (b : RootBank) : Option Bytes := if b.abandoned then b.spare else b.first.or b.spare

/-- The root in use: none in BLANK and SCRAP, and none while an advance blocks it (R429, R431). -/
def rootOf (s : State) : Option Bytes :=
  if s.attest.lc = 0 ∨ s.attest.lc ≥ 4 ∨ s.attest.advance.isSome then none else bankRoot (nth s.fuse.roots (s.attest.lc - 1))

/-- The state that the fuse rows give: a row counts when any of its fuses is blown (R433). -/
def lcOfRows (rows : List Nat) : Nat := (List.range 4).foldl (fun m k => if rows.getD k 0 ≠ 0 then k + 1 else m) 0

/-- Full debug is open in BLANK, PROVISION and RETURN (R429). -/
def debugOpen (s : State) : Bool := s.attest.lc == 0 || s.attest.lc == 1 || s.attest.lc == 3

/-! ### Derivation (R435) -/

def ascii (t : String) : Bytes := t.toList.map fun c => BitVec.ofNat 8 c.toNat

/-- The key-derivation function of R435. -/
def kdf (k : Bytes) (label : String) (context : Bytes) : Bytes :=
  hmacSha256 k (beBytes 4 1 ++ ascii label ++ [0#8] ++ context ++ beBytes 4 256)

def serialBytes (s : State) : Bytes := beBytes 8 s.fuse.serial
def lcByte (s : State) : Bytes := leBytes 1 s.attest.lc

/-- The wrap key of the state in force; none where no root is in use (R435, R447). -/
def wrapKey (s : State) : Option Bytes := (rootOf s).map fun r => kdf r "ISOTH-KITTY-WRAP" (serialBytes s ++ lcByte s)

/-- A measurement register takes a digest (R437). -/
def extend (k : Nat) (d : Bytes) (s : State) : State := updAttest (fun a => { a with mrs := upd a.mrs k fun m => sha384 (m ++ d) }) s

/-- The device and alias keys and the endorsement (R435, R436, R450). -/
def deriveKeys (s : State) : State :=
  match rootOf s with
  | none => s
  | some r =>
    let mr := fun k => nth s.attest.mrs k
    let cdi0 := kdf r "ISOTH-CDI0" (serialBytes s ++ mr 0)
    let dev := kdf cdi0 "ISOTH-DEVICE-ID" (serialBytes s ++ lcByte s)
    let cdi1 := kdf cdi0 "ISOTH-CDI1" (mr 1 ++ mr 2 ++ mr 3 ++ mr 4 ++ mr 5)
    let ali := kdf cdi1 "ISOTH-ALIAS" (serialBytes s ++ lcByte s)
    let pub := edPublic ali
    let msg := ascii "ISOTH-ALIAS-V1" ++ zeros 2 ++ serialBytes s ++ lcByte s ++ (List.range 6).flatMap mr ++ pub
    updAttest (fun a => { a with devicePub := edPublic dev, aliasSeed := ali, aliasPub := pub, endorsement := edSign dev msg }) s

/-! ### Credits (R445) -/

/-- The operating time of one persist credit, in ps. -/
def creditPs : Nat := 4 * 3600 * secPs

/-- Credits held, in ps of operating time (R445). -/
def creditNow (s : State) : Nat := min (256 * creditPs) (s.kitty.credit + (s.score.opPs - s.kitty.creditAt))

/-- CREDITS in units of 1/16 (R443, R456). -/
def creditUnits (s : State) : Nat := creditNow s * 16 / creditPs

/-! ### Images (R443, R447) -/

/-- The 512-byte occupancy map (R443). -/
def occupancy (slots : List (Nat × KittySlot)) : Bytes :=
  (List.range 512).map fun b => BitVec.ofNat 8 (packBits ((List.range 8).map fun k => (getKey (8 * b + k) slots).isSome))

/-- The plain text of an image: occupancy, labels, keys. -/
def imageBody (slots : List (Nat × KittySlot)) : Bytes :=
  let at_ := fun k => (getKey k slots).getD { key := zeros 32 }
  occupancy slots ++ ((List.range 4096).flatMap fun k => leBytes 2 (at_ k).label) ++ ((List.range 4096).flatMap fun k => slice (at_ k).key 0 32)

/-- Erases of a bank so far. -/
def bankErases (k : KittyPart) (b : Nat) : Nat := if b = 0 then k.erases0 else k.erases1

/-- Bytes 0 to 63 of an image (R443). -/
def imageHead (bank seq iv erases credits : Nat) (s : State) : Bytes :=
  ascii "KITY" ++ leBytes 2 1 ++ lcByte s ++ leBytes 1 bank ++ leBytes 8 s.fuse.serial ++ leBytes 8 seq ++ leBytes 4 s.kitty.writesTotal ++
  leBytes 4 iv ++ leBytes 4 erases ++ leBytes 4 credits ++ zeros 24

/-- The IV of an image (R443). -/
def imageIv (seq iv : Nat) : Bytes := beBytes 8 seq ++ leBytes 4 iv

/-- A whole image (R443). -/
def imageOf (key head body : Bytes) : Bytes :=
  let iv := imageIv (fld head 16 8) (fld head 28 4)
  let c := gcmCrypt key iv body
  head ++ c ++ gcmTag key iv head c

/-- A bank holds an image of this chip and state that verifies (R447). -/
def imageValid (key img : Bytes) (s : State) : Bool :=
  let head := img.take 64
  let c := slice img 64 139776
  img.length == 139856 && img.take 4 == ascii "KITY" && fld img 6 1 == s.attest.lc && fld img 8 8 == s.fuse.serial &&
    gcmTag key (imageIv (fld head 16 8) (fld head 28 4)) head c == img.drop 139840

/-- The plain text of an image. -/
def imageText (key img : Bytes) : Bytes := gcmCrypt key (imageIv (fld img 16 8) (fld img 28 4)) (slice img 64 139776)

/-- The slots that a plain text names FULL. -/
def slotsOf (body : Bytes) : List (Nat × KittySlot) :=
  ((List.range 4096).filter fun k => bit (body.getD (k / 8) 0#8).toNat (k % 8)).map fun k =>
    (k, { label := fld body (512 + 2 * k) 2, key := slice body (8704 + 32 * k) 32 })

def flashBank (s : State) (b : Nat) : Bytes := if b = 0 then s.flash.bank0 else s.flash.bank1
def setBank (b : Nat) (img : Bytes) (s : State) : State :=
  { s with flash := if b = 0 then { s.flash with bank0 := img } else { s.flash with bank1 := img } }

/-- Sectors of the flash are erased at an address, and bytes are programmed there (R530). -/
def burn (what : String) (addr sectors : Nat) (b : Bytes) (s : State) : State := emit (.flash what b) (emit (.flashAt addr sectors) s)

/-- Address of a Kitty bank, which is 40 sectors (R443, R530). -/
def bankAddr (b : Nat) : Nat := 0x00400000 + b * 0x28000

/-- The bank of the write in progress is erased and programmed (R444). -/
def programImage (s : State) : State :=
  match s.kitty.writing with
  | none => s
  | some w => burn "KITTY" (bankAddr w.bank) 40 w.image (setBank w.bank [] (updKitty (fun k => { k with writing := some { w with waits := false } }) s))

/-- An image write uses the flash (R536). -/
def kittyUses (s : State) : Bool := match s.kitty.writing with | some w => !w.waits | none => false

/-- An image write starts: a credit is spent, the image is fixed, and the bank is erased and programmed once no page that started
earlier uses the flash (R443 to R445, R536). -/
def startImage (body : Bytes) (s : State) : State :=
  match wrapKey s with
  | none => s
  | some key =>
    let k := s.kitty
    let bank := match k.imageBank with | some b => 1 - b | none => 0
    let er := bankErases k bank + 1
    let credit := creditNow s - creditPs
    let head := imageHead bank k.nextSeq (freeVal s % 2 ^ 32) er (credit * 16 / creditPs) s
    let img := imageOf key head body
    let waits := s.score.writing.isSome
    let s := updKitty (fun k => { k with
      writing := some { bank, seq := k.nextSeq, image := img, start := s.now, waits }, nextSeq := k.nextSeq + 1, persist := none
      deferred := false, credit := credit, creditAt := s.score.opPs
      erases0 := if bank = 0 then er else k.erases0, erases1 := if bank = 1 then er else k.erases1 }) (useFree s)
    if waits then s else programImage s

/-- A write is due: it starts, or is deferred for want of a credit (R445). -/
def dueImage (body : Bytes) (s : State) : State :=
  if creditNow s ≥ creditPs then startImage body s
  else if s.kitty.deferred then s
  else raise 13 4 (updKitty (fun k => { k with deferred := true }) s)

/-- 365 days of operating time without an image (R446). -/
def retentionPs : Nat := 365 * 86400 * secPs

/-- The newest image's plain text (R446). -/
def newestText (s : State) : Option Bytes :=
  match s.kitty.imageBank, wrapKey s with
  | some b, some key => some (imageText key (flashBank s b))
  | _, _ => none

/-! ### Zeroising (R431) -/

/-- Receipts in batches that have not been signed. -/
def unsigned (n : NtpPart) : Nat := (n.open_.toList ++ n.closed).foldl (fun a b => a + b.leaves.length) 0

/-- Every key goes: Kitty slots and the consumers' copies, and with the receipt signing key the batches that it would sign (R431). -/
def zeroise (s : State) : State :=
  let s := updKitty (fun k => { k with slots := [], before := none, persist := none, deferred := false }) s
  let s := updNtp (fun n => { n with
    insts := n.insts.map (fun r => { r with previous := {}, current := {}, next := {} }), symKeys := [], seed := []
    open_ := none, closed := [], pending := n.pending - unsigned n }) s
  { s with ptp := { s.ptp with sas := s.ptp.sas.map fun e => (e.1, { e.2 with key := [] }) } }

/-! ### Quotes (R448 to R450) -/

/-- EPOCH_DIGEST (R449). -/
def epochDigest (s : State) : Bytes :=
  sha256 (s.ntp.insts.flatMap fun r => leBytes 4 r.previous.epoch ++ leBytes 4 r.current.epoch ++ leBytes 4 r.next.epoch)

/-- Bytes 0 to 687 of a quote, from one tick (R448). -/
def quoteBody (nonce : Bytes) (s : State) : Bytes :=
  ascii "ISQ1" ++ leBytes 1 1 ++ lcByte s ++
  leBytes 1 (packBits [s.time.valid, isDummy s, s.kitty.loaded, debugOpen s, s.kitty.persist.isSome]) ++ zeros 1 ++ serialBytes s ++
  slice nonce 0 32 ++ tsBytes (curTs s) ++ leInt 2 (offsetNow s) ++ zeros 2 ++ boundBytes (counterBound s) ++ leBytes 8 s.kitty.imageSeq ++
  leBytes 4 s.kitty.writesReset ++ leBytes 4 s.kitty.writesTotal ++ leBytes 4 s.time.stepEpoch ++ leBytes 2 s.kitty.slots.length ++ zeros 2 ++
  epochDigest s ++ s.host.digest ++ s.attest.mrs.flatMap id ++ s.attest.devicePub ++ s.attest.aliasPub ++ s.attest.endorsement

/-- Quotes assembled on this tick, in the state `before`, take what changes on it: an extension applies first, and DUMMY shows the role
after a change (R452). -/
def refreshQuotes (before s : State) : State :=
  { s with host := { s.host with waits := s.host.waits.map fun w =>
      let nonce := slice w.req.params 0 32
      if w.key == .quote && w.data == quoteBody nonce before then { w with data := quoteBody nonce s } else w } }

/-- SIGNATURE of a quote (R450). -/
def quoteSign (body : Bytes) (s : State) : Bytes := edSign s.attest.aliasSeed (ascii "ISOTH-QUOTE-V1" ++ zeros 2 ++ body)

end Sys2Proof.Machine
end

