-- ==== Sys2Proof/Machine/Dpll.lean ====
section
/-! DEFINITION. The meanings of the DPLL, holdover, jump and steering rows (chapter 04). -/
namespace Sys2Proof.Machine
open Sys2Proof Host

/-! ### DPLL_CONFIGURE and DPLL_STATUS (R131, R132) -/

/-- A slew rate limit (R46). -/
def slewF (t : Bool) (off : Nat) : Fld :=
  F off 8 (fun v => if t then decide (40960 ≤ v ∧ v ≤ 1844674407370955) else v == 0)

def dpllFields (p : Bytes) : List Fld :=
  let t := fld p 0 1 == 0
  let bw := fld p 8 4
  let cat1 := fld p 64 8
  let cat2 := fld p 72 8
  [inF 0 1 0 3, F 1 1 (fun v => decide (v < 4) && (t || !bit v 0)), inF 2 1 0 3, inF 3 1 0 3, timerF 4, rsvF 5 1,
   inF 6 2 512 8192, inF 8 4 100 1000000000, F 12 4 (fun v => v == 0 || decide (bw ≤ v ∧ v ≤ 1000000000)), magF 16,
   slewF t 24, slewF t 32, anyF 40 8, anyF 48 4, rsvF 52 4,
   F 56 8 (fun v => if t then decide (v < 2 ^ 40 ∧ v ≤ cat1) else v == 0),
   F 64 8 (fun v => if t then decide (v < 2 ^ 40 ∧ v ≤ cat2) else v == 0),
   F 72 8 (fun v => if t then decide (v < 2 ^ 40) else v == 0)]

def dpllCfgOf (p : Bytes) : DpllCfg :=
  { returnStep := bit (fld p 1 1) 0, holdSource := b2n (bit (fld p 1 1) 1), holdAvg := fld p 2 1, holdGuard := fld p 3 1
    lockTime := fld p 4 1, damping := fld p 6 2, bw := fld p 8 4, acqBw := fld p 12 4, lockPhase := fld p 16 8
    slewLimit := fld p 24 8, returnSlew := fld p 32 8, freqSlew := fld p 40 8, freqStepDetect := fld p 48 4
    holdoverSpec := fld p 56 8, cat1 := fld p 64 8, cat2 := fld p 72 8 }

def hDpllConfigure : Handler := fun q s =>
  let x := dpllCfgOf q.params
  checked q 80 (dpllFields q.params) <|
  refuseIf (x.holdSource == 1 && !s.shadow.meld.enable || x.holdSource == 0 && s.shadow.hold.holdClock != 0) stBadState 0 <|
  writes (fun c => { c with dplls := c.dplls.set (fld q.params 0 1) x }) s

def execDpllConfigure (q : Req) (s : State) : Outcome State Fault Refusal := cmdRow 0x0400 hDpllConfigure q s

def dpllStateCode : DpllState → Nat
  | .freeRun => 0
  | .acquiring => 1
  | .locked => 2
  | .holdover => 3
  | .returning => 4

/-- The model is absent: A, D and Q are all 0 (R113). -/
def modelAbsent (s : State) : Bool := aEff s == 0 && dEff s == 0 && qEff s == 0

/-- Milliseconds since the holdover origin, by the counter's increments (R112). -/
def holdElapsedMs (s : State) : Nat := holdElapsedAt s.now s / 2 ^ 48 / 1000000

/-- The effective bandwidth of a domain: limited by the sample rate of its candidate, when it has one (R103, R132). -/
def effNow (s : State) (d : Nat) : Nat :=
  match (nth s.sels d).selectedOrd with
  | some o => effBw (bwAsked s d) (refOf s o).period
  | none => bwAsked s d

/-- BW_LIMITED: the sample rate of the candidate keeps the loop below BW (R103). -/
def bwLimited (s : State) (d : Nat) : Bool :=
  let bw := if d = 0 ∧ isDummy s then s.work.pair.followBw else (dpllCfg s d).bw
  match (nth s.sels d).selectedOrd with
  | some o => decide (effBw bw (refOf s o).period < bw)
  | none => false

def dpllStatusReply (s : State) (d : Nat) : Bytes :=
  let x := dpllOf s d
  let alert := d == 0 && ((nth s.work.sels 0).slate.any fun e => findingOf s (refOf s e.ord) == some .jumpAlert)
  let held := x.state == .holdover
  leBytes 1 d ++ leBytes 1 (dpllStateCode x.state) ++ optByte (nth s.sels d).selected ++
  leBytes 1 (if d = 0 then classOf s else 0) ++
  leBytes 4 (packBits [x.everLocked, x.rateClamped, bwLimited s d, alert, modelAbsent s, isDummy s]) ++
  leInt 8 (satOffset x.phaseErr) ++ leInt 8 (freqOfRate (rateOf s d)) ++ leInt 8 (if held then x.holdFreq else 0) ++
  leInt 8 (if d = 0 then (if s.time.slewOwner == .tdpll then slewRemaining s else 0) else satOffset x.buildOut) ++
  leBytes 4 (effNow s d) ++ leBytes 4 x.lockCount ++ leBytes 8 (if held then (if d = 0 then holdElapsedMs s else (s.incSum - x.holdInc) / 2 ^ 48 / 1000000) else 0) ++
  leInt 8 (satOffset x.lastJump) ++ leBytes 2 x.lastJumpSource ++ zeros 6

def hDpllStatus : Handler := fun q s =>
  checked q 4 [inF 0 1 0 3, rsvF 1 3] <| .done (dpllStatusReply s (fld q.params 0 1)) s

def execDpllStatus (q : Req) (s : State) : Outcome State Fault Refusal := cmdRow 0x0401 hDpllStatus q s

/-! ### HOLD_MODEL_SET and HOLD_MODEL_READ (R133, R134) -/

/-- Bytes beyond a length are 0. -/
def tailZero (off size len : Nat) : Fld := F off size (fun v => decide (v < 256 ^ len))

def holdFields (p : Bytes) : List Fld :=
  let on := fld p 32 1 == 1
  let ackReq := bit (fld p 34 1) 1
  [F 0 2 (fun v => v == 0 || (ordOf v).isSome), inF 2 1 0 7, rsvF 3 1, inF 4 2 1 8760, rsvF 6 2, anyF 8 8, anyF 16 8,
   anyF 24 8, inF 32 1 0 1, whenF on 33 1 9 15, whenF on 34 1 0 3, whenF on 35 1 1 168, whenF on 36 4 1200 115200,
   whenF on 40 4 1 (2 ^ 32 - 1), whenF on 44 1 0 12, whenF on 45 1 0 4, whenF (on && ackReq) 46 1 1 8, whenF on 47 1 0 255,
   tailZero 48 12 (if on then fld p 44 1 else 0), tailZero 60 4 (if on then fld p 45 1 else 0),
   tailZero 64 8 (if on then fld p 46 1 else 0)]

def holdCfgOf (p : Bytes) : HoldCfg :=
  { holdClock := fld p 0 2, atomic := bit (fld p 2 1) 0, useLearned := bit (fld p 2 1) 1, resetLearning := bit (fld p 2 1) 2
    learnHours := fld p 4 2, aSup := fld p 8 8, dSup := fld p 16 8, qSup := fld p 24 8, steerMode := fld p 32 1
    steerExp := fld p 33 1, relative := bit (fld p 34 1) 0, ackRequired := bit (fld p 34 1) 1, steerPeriod := fld p 35 1
    oscBaud := fld p 36 4, steerMax := fld p 40 4, steerTol := fld p 47 1, pref := slice p 48 (fld p 44 1)
    suffix := slice p 60 (fld p 45 1), ack := slice p 64 (fld p 46 1) }

def hHoldModelSet : Handler := fun q s =>
  let x := holdCfgOf q.params
  checked q 72 (holdFields q.params) <|
  refuseIf (meldSlotOf s.shadow x.holdClock).isNone stBadState 0 <|
  writes (fun c => { c with hold := x }) s

def execHoldModelSet (q : Req) (s : State) : Outcome State Fault Refusal := cmdRow 0x0420 hHoldModelSet q s

/-- Whole hours of locked time accumulated, saturating (R134). -/
def learnedHours (s : State) : Nat :=
  let run := match s.hold.learnSince with | some t => s.now - t | none => 0
  min 8760 ((s.hold.learnedPs + run) / (3600 * secPs))

def holdReadReply (s : State) : Bytes :=
  let h := s.hold
  let on := originInForce s
  let now_ := (nth s.meld.slots ((meldSlotOf s.work s.work.hold.holdClock).getD 0)).est
  leBytes 2 s.work.hold.holdClock ++
  leBytes 1 (packBits [h.learned, h.originLearned, atomicAgree s, h.oscFault, modelAbsent s]) ++ zeros 1 ++
  leBytes 4 (learnedHours s) ++ leBytes 8 (aEff s) ++ leBytes 8 (dEff s) ++ leBytes 8 (qEff s) ++
  leBytes 8 (if h.learned then h.aLearned else 0) ++ leBytes 8 (if h.learned then h.dLearned else 0) ++
  leBytes 8 (if h.learned then h.qLearned else 0) ++ leInt 8 (if on then h.predFreq else now_.freq) ++
  leInt 8 (if on then h.predDrift else now_.drift) ++
  leBytes 8 (if on then holdElapsedMs s else 0) ++ boundBytes h.b0 ++ boundBytes (some (growthAt s.now s)) ++
  leBytes 4 h.steerCount ++ leBytes 4 h.steerNoack

def hHoldModelRead : Handler := fun q s => checked q 0 [] (.done (holdReadReply s) s)

def execHoldModelRead (q : Req) (s : State) : Outcome State Fault Refusal := cmdRow 0x0421 hHoldModelRead q s

/-! ### JUMP_ACCEPT (R122, R135) -/

/-- The T-DPLL takes the accepted source on this tick without judging it, when the selector chooses it (R122). -/
def acceptChoice (o : Nat) (step : Bool) (s : State) : State :=
  let k := choose s 0
  let ko := k.map fun k => (nth (nth s.work.sels 0).slate k).ord
  if ko = some o ∧ (nth s.sels 0).selectedOrd ≠ some o ∧ !tracking (tdpll s).state then
    let s := { s with sels := upd s.sels 0 (fun r => { r with
      selected := k, selectedOrd := ko, lastOrd := ko, switchCount := (r.switchCount + 1) % 2 ^ 32, lastSwitch := curTs s }) }
    let s := raise 3 4 s
    if phaseUsable s o then tAccept o step s else { s with hold := { s.hold with accepted := some (o, step) } }
  else s

def hJumpAccept : Handler := fun q s =>
  checked q 4 [srcF 0, inF 2 1 0 1, rsvF 3 1] <|
  declarerOnly s <|
  let o := (ordOf (fld q.params 0 2)).getD 0
  let step := bit (fld q.params 2 1) 0
  let t := nextTick s
  refuseIf ((refOf t o).state != .suspect) stBadState 0 <|
  let j := (refOf t o).phase
  let was := t.time.stepEpoch
  let t := evalAll (acceptChoice o step (toQualified o (updRef o (fun r => { r with
    cause := clrBit (clrBit r.cause cPhaseJump) cPhaseLimit }) t)))
  let sel := tSelected t == some o
  .done (leInt 8 (satOffset j) ++ leBytes 1 (packBits [sel, sel && step && t.time.stepEpoch != was]) ++ zeros 7) t

def execJumpAccept (q : Req) (s : State) : Outcome State Fault Refusal := cmdRow 0x0422 hJumpAccept q s

/-! ### Lock, frequency steps, learning -/

/-- The phase error has stayed within LOCK_PHASE for LOCK_TIME (R104, R105). -/
def dpllLock (d : Nat) (s : State) : State :=
  let x := dpllOf s d
  if d = 0 && isDummy s then s
  else match x.lockSince, (x.state == .acquiring || (x.state == .returning && !x.returnSlewing)) with
  | some t0, true =>
    settleBound (enterLocked d (moveTo (t0 + timerSec (dpllCfg s d).lockTime * secPs) s))
  | _, _ => s

def execDpllLock (domain : Nat) (s : State) : Outcome State Fault Refusal := .next (whileRunning (dpllLock domain) { s with out := [] })

/-- The source of the estimate interval in progress: the selected one, or the one before on the tick of HOLDOVER entry (R123, R162). -/
def estSource (d : Nat) (s : State) : Option Nat := (nth s.sels d).selectedOrd.or (nth s.sels d).lastOrd

/-- The estimate interval runs: in the tracking states, and on the tick of HOLDOVER entry when it ends there (R123, R162). -/
def estRuns (d : Nat) (s : State) : Bool :=
  let x := dpllOf s d
  tracking x.state || (x.state == .holdover && x.holdPs == s.now &&
    (match x.estStart, estSource d s with | some t0, some o => t0 + estLen (refOf s o).period == s.now | _, _ => false))

/-- A JUMP finding of this very tick, after a FREQ_STEP on it, is a JUMP_ALERT: it is raised, and B0 covers the candidate (R119, R128). -/
def lateAlerts (s : State) : State :=
  (nth s.work.sels 0).slate.foldl (fun s e =>
    let r := refOf s e.ord
    if r.state == .suspect && r.finding == some .jump && r.findingPs == s.now && s.hold.stepPs == some s.now then
      raise 4 10 { s with hold := { s.hold with b0 := maxB s.hold.b0 (some (offBound r.phase + r.claimed * 256)) } }
    else s) s

/-- An estimate interval ends (R123, R158). -/
def freqStepEstimate (d : Nat) (s : State) : State :=
  let x := dpllOf s d
  match x.estStart, estSource d s, estRuns d s with
  | some t0, some o, true =>
    let len := estLen (refOf s o).period
    let s := moveTo (t0 + len) s
    let est := slopeOf (dpllOf s d).points
    let s := updDpll d (fun x => { x with estStart := some (t0 + len), points := [], lastEst := est.or x.lastEst }) s
    match est, x.lastEst with
    | some e, some p =>
      let dy := (e - p).natAbs
      let det := (dpllCfg s d).freqStepDetect
      if det ≠ 0 ∧ dy ≥ det * 2 ^ 24 then
        let s := occur 0x27 d (raise 4 13 s)
        settleBound (disturb (ceilDiv (dy * (2 * len + 62500000000) * 256) (2 ^ 64)) dy (lateAlerts
          { s with hold := { s.hold with freqStepped := true, stepPs := some s.now } }))
      else settleBound s
    | _, _ => settleBound s
  | _, _, _ => s

def execFreqStepEstimate (domain : Nat) (s : State) : Outcome State Fault Refusal :=
  .next (whileRunning (freqStepEstimate domain) { s with out := [] })

/-- The values that the Meld has learned of HOLD_CLOCK (R117, R149). -/
def learnValues (s : State) : State :=
  let k := (meldSlotOf s.work s.work.hold.holdClock).getD 0
  { s with hold := { s.hold with
    aLearned := twoSigma s.meld.cov (3 * k + 1)
    dLearned := twoSigma s.meld.cov (3 * k + 2)
    qLearned := hadamardFit s.meld.learnPhase } }

/-- LEARN_HOURS of locked time have accumulated (R117). -/
def modelLearned (s : State) : State :=
  match s.hold.learnSince, s.hold.learned with
  | some t, false =>
    let s := moveTo (t + (s.work.hold.learnHours * 3600 * secPs - s.hold.learnedPs)) s
    raise 4 15 (learnValues { s with hold := { s.hold with learned := true, oscFault := false } })
  | _, _ => s

def execModelLearned (s : State) : Outcome State Fault Refusal := .next (whileRunning modelLearned { s with out := [] })

/-! ### Steering of the atomic oscillator (R125 to R127, R144) -/

/-- Decimal digits of a number in ASCII: at most `fuel` of them. -/
def digitsGo : Nat → Nat → Bytes → Bytes
  | 0, _, acc => acc
  | f + 1, n, acc => if n < 10 then BitVec.ofNat 8 (48 + n) :: acc else digitsGo f (n / 10) (BitVec.ofNat 8 (48 + n % 10) :: acc)

def decimalOf (n : Nat) : Bytes := digitsGo 40 n []

/-- A signed decimal integer with a leading minus sign when negative (R125). -/
def signedDecimal (v : Int) : Bytes := if v < 0 then 45#8 :: decimalOf v.natAbs else decimalOf v.natAbs

/-- The correction of the Meld's estimate of HOLD_CLOCK in steering units, limited (R126). -/
def steerValue (s : State) : Int :=
  let k := (meldSlotOf s.work s.work.hold.holdClock).getD 0
  let m : Int := s.work.hold.steerMax
  clampI (-m) m (roundDivI (-(nth s.meld.slots k).est.freq * (10 ^ s.work.hold.steerExp : Nat)) (2 ^ 64))

/-- STEER_PERIOD elapses: a command starts while the T-DPLL is LOCKED, the model is LEARNED and the chip is no Dummy (R126, R129). -/
def steerPeriod (s : State) : State :=
  match s.hold.steerAt with
  | none => s
  | some d =>
    let s := moveTo d s
    let s := { s with hold := { s.hold with steerAt := some (d + s.work.hold.steerPeriod * 3600 * secPs) } }
    let v := steerValue s
    if s.work.hold.steerMode = 1 ∧ (tdpll s).state = .locked ∧ s.hold.learned ∧ !isDummy s ∧ v ≠ 0 ∧ s.hold.steerSending.isNone then
      let c := s.work.hold
      let setting := s.hold.steerSetting + v
      let shown := if c.relative then v else setting
      emit (.serial "OSC_CTL_TX" (c.pref ++ signedDecimal shown ++ c.suffix))
        { s with hold := { s.hold with
          steerSending := some (roundDivI (v * (2 ^ 64 : Nat)) (10 ^ c.steerExp))
          steerSetting := setting } }
    else s

def execSteerPeriod (s : State) : Outcome State Fault Refusal := .next (whileRunning steerPeriod { s with out := [] })

/-- The Meld takes a frequency step of HOLD_CLOCK and an uncertainty at its next update (R126, R127, R144). -/
def meldSteer (step : Int) (unc : Nat) (s : State) : State :=
  let k := (meldSlotOf s.work s.work.hold.holdClock).getD 0
  { s with meld := { s.meld with slots := upd s.meld.slots k (fun m => { m with steer := m.steer + step, steerUnc := m.steerUnc + unc }) } }

/-- A command sent while an update runs belongs to the update after it (R144). -/
def cutSteer (step : Int) (unc : Nat) (s : State) : State :=
  match s.meld.busy with
  | none => s
  | some _ =>
    let k := (meldSlotOf s.work s.work.hold.holdClock).getD 0
    { s with meld := { s.meld with steerCut := (k, step, unc) :: s.meld.steerCut } }

/-- The uncertainty that STEER_TOL gives a step (R126). -/
def steerTolUnc (s : State) (step : Int) : Nat := ceilDiv (step.natAbs * s.work.hold.steerTol) 256

/-- The last stop bit of a steering command is sent (R126). -/
def steerSent (ps : Nat) (s : State) : State :=
  let s := begin_ ps s
  match s.hold.steerSending with
  | none => s
  | some step =>
    let s := bump (64 * 4 + 33) { s with hold := { s.hold with
      steerSending := none, steerStep := step, steerCount := (s.hold.steerCount + 1) % 2 ^ 32 } }
    if s.work.hold.ackRequired then { s with hold := { s.hold with steerAckBy := some (s.now + secPs) } }
    else cutSteer step (steerTolUnc s step) (meldSteer step (steerTolUnc s step) s)

def execSteerSent (t : Nat) (s : State) : Outcome State Fault Refusal := .next (if running s then steerSent t s else begin_ t s)

/-- The ACK bytes arrive on OSC_CTL_RX (R127, R144). -/
def steerAck (ps : Nat) (bs : Bytes) (s : State) : State :=
  let s := begin_ ps s
  match s.hold.steerAckBy with
  | none => s
  | some d =>
    if s.now ≤ d ∧ bs = s.work.hold.ack then
      meldSteer s.hold.steerStep (steerTolUnc s s.hold.steerStep) { s with hold := { s.hold with steerAckBy := none } }
    else s

def execSteerAck (t : Nat) (received : Bytes) (s : State) : Outcome State Fault Refusal := .next (if running s then steerAck t received s else begin_ t s)

/-- No ACK within 1 s: the step is unknown (R127). -/
def steerNoack (s : State) : State :=
  match s.hold.steerAckBy with
  | none => s
  | some d =>
    let s := moveTo d s
    let s := { s with hold := { s.hold with
      steerAckBy := none, steerNoack := (s.hold.steerNoack + 1) % 2 ^ 32, oscFault := true } }
    raise 4 14 (bump (64 * 4 + 34) (restartLearning (meldSteer 0 s.hold.steerStep.natAbs s)))

def execSteerNoack (s : State) : Outcome State Fault Refusal := .next (whileRunning steerNoack { s with out := [] })

/-! ### Growth of the bound with time (R124, R163) -/

/-- The bound has grown at an instant: class and alert follow it. -/
def boundGrown (ps : Nat) (s : State) : State := settleBound (begin_ ps s)

def execClassChange (t : Nat) (s : State) : Outcome State Fault Refusal := .next (if running s then boundGrown t s else begin_ t s)

/-- The bound is looked at, at an instant, for the alert (R163). -/
def execBoundAlert (t : Nat) (s : State) : Outcome State Fault Refusal := .next (whileRunning settleBound (begin_ t s))

end Sys2Proof.Machine
end

