-- ==== Sys2Proof/Machine/Tdc.lean ====
section
/-! DEFINITION. The meanings of the TDC's rows (chapter 08). -/
namespace Sys2Proof.Machine
open Sys2Proof Host

/-- An edge on an input with its polarity and the width of its pulse: stamped, filtered and taken by the channels that use it
(R227, R228, R237). -/
def tdcEdge (inp ps : Nat) (pulse : EdgePulse) (s : State) : State :=
  let s := begin_ ps s
  let owned := inp ≥ 1 && (chanOf s (inp - 1)).owner.isSome
  let g := if inp = 0 then nth s.work.tdc 0 else chanCfg s (inp - 1)
  if !running s || inp > 8 || !(g.enable || owned) || pulse.rising != (g.edge == 0) then s
  else
    let i := nth s.tdc.inputs inp
    let users := if inp = 0 then (List.range 8).filter fun c => (chanCfg s c).enable && (chanCfg s c).mode == 0 && (chanCfg s c).refSel == 0
      else [inp - 1]
    let close := match i.lastPs with | some p => decide (s.now < p + 100000) | none => false
    if close || (g.glitchNs != 0 && decide (pulse.width < g.glitchNs * 1000)) then
      raise 7 2 (users.foldl (fun s c => overrun c s) s)
    else
      let s := { s with tdc := { s.tdc with inputs := upd s.tdc.inputs inp (fun x => { x with lastPs := some s.now }) } }
      let p : TdcStamp := { stamp := (stampNow s : Int) - i.skew - g.compensation, epoch := s.time.stepEpoch, uncal := !i.calOk }
      users.foldl (fun s c =>
        if !takesPart s c p then s
        else if inp = 0 then takeStart c p s
        else if g.mode = 0 then takeStop c p s
        else takeEdge c (if g.basis = 0 then p.stamp else (rawTs s.now : Int) - i.skew - g.compensation) p.uncal s) s

def execTdcEdge (inp t : Nat) (pulse : EdgePulse) (s : State) : Outcome State Fault Refusal := .next (tdcEdge inp t pulse s)

/-- The oldest waiting stop has waited half a second on the counter (R232). -/
def tdcOrphan (c : Nat) (s : State) : State :=
  match (chanOf s c).stops with
  | [] => s
  | p :: rest =>
    let s := moveToCounter ((p.stamp + halfSec).toNat * 2 ^ 32) s
    orphan c (updChan c (fun h => { h with stops := rest }) s)

def execTdcOrphan (c : Nat) (s : State) : Outcome State Fault Refusal := .next (whileRunning (tdcOrphan c) { s with out := [] })

/-- The gate of an armed FREQUENCY channel ends, or a step has spoilt it (R237). -/
def tdcGateEnd (c : Nat) (s : State) : State :=
  let h := chanOf s c
  let g := chanCfg s c
  if h.state != .armed || g.mode != 1 then s
  else
    let s := if gateStepped s c then s else if g.basis = 0 then moveToCounter (h.gateEnd * 2 ^ 32) s else moveTo (ceilDiv (h.gateEnd * 1000) 65536) s
    gateEnds c s

def execTdcGateEnd (c : Nat) (s : State) : Outcome State Fault Refusal := .next (whileRunning (tdcGateEnd c) { s with out := [] })

/-- The interpolator calibration of an input fails (R238). -/
def tdcCalLost (inp : Nat) (s : State) : State :=
  if (nth s.tdc.inputs inp).calOk then
    raise 7 6 { s with tdc := { s.tdc with inputs := upd s.tdc.inputs inp (fun x => { x with calOk := false }) } }
  else s

def execTdcCalLost (inp t : Nat) (s : State) : Outcome State Fault Refusal := .next (whileRunning (tdcCalLost inp) (begin_ t s))

/-- The inputs with the skews measured of their paths, 2⁻¹⁶ ns, in the order of the inputs (R239). -/
def withSkews (l : List TdcInput) (skews : List Int) : List TdcInput :=
  l.zipIdx.map fun x => { x.1 with skew := skews.getD x.2 0 }

/-- Skew calibration completes: every later stamp is corrected by the measured skews (R239). -/
def tdcCalDone (skews : List Int) (s : State) : State :=
  if s.tdc.calibrating then
    raise 7 5 { s with tdc := { s.tdc with inputs := withSkews s.tdc.inputs skews, calibrating := false, calibrated := true } }
  else s

def execTdcCalDone (r : SkewResult) (s : State) : Outcome State Fault Refusal :=
  .next (whileRunning (tdcCalDone r.skews) (begin_ r.time s))

/-! ### Arming (R233, R245) -/

/-- A channel starts to measure on this tick. -/
def armNow (c : Nat) (from_ : Int) (s : State) : State :=
  let s := updChan c (fun h => { h with state := .armed, armedFrom := from_ }) s
  if (chanCfg s c).mode = 1 then openGate c s else s

/-- A channel is armed afresh: its buffer and counters clear (R233, R236). -/
def armChan (c n : Nat) (continuous raw : Bool) (at_ : Nat) (s : State) : State :=
  let s := updChan c (fun h => { h with
    state := .waiting, aborted := false, n, continuous, raw, startAt := at_, starts := [], stops := [], block := {}
    blockCount := 0, buffer := [], dropped := 0, rawFull := false, orphans := 0, stepDiscards := 0, overruns := 0, edges := [] }) s
  if at_ = 0 then armNow c (curTs s) s else s

/-- A channel stops to measure; its block in progress is discarded (R233). -/
def disarmChan (c : Nat) (s : State) : State :=
  updChan c (fun h => { h with state := .disarmed, starts := [], stops := [], block := {}, edges := [] }) s

/-- The counter reaches START_AT (R233). -/
def tdcArmStart (c : Nat) (s : State) : State :=
  let h := chanOf s c
  if h.state != .waiting then s
  else
    let s := moveToCounter (h.startAt * 2 ^ 32) s
    armNow c h.startAt s

def execTdcArmStart (c : Nat) (s : State) : Outcome State Fault Refusal := .next (whileRunning (tdcArmStart c) { s with out := [] })

/-- The fields of TDC_ARM (R245). -/
def armFields (p : Bytes) : List Fld :=
  let act := fld p 1 1
  let arm := act == 0
  [F 0 1 (fun v => act != 2 || v == 0), inF 1 1 0 2, F 2 1 (fun v => if arm then decide (v < 4) else v == 0), rsvF 3 1,
    whenF arm 4 4 1 16777216, F 8 12 (fun v => tsFieldOk v && (arm || v == 0)), rsvF 20 4]

def hTdcArm : Handler := fun q s =>
  let p := q.params
  let act := fld p 1 1
  let chans := onesBelow 8 (fld p 0 1)
  checked q 24 (armFields p) <|
  let at_ := tsOfField (fld p 8 12)
  refuseIf (act != 2 && chans.any (fun c => (chanOf s c).owner.isSome)) stResource 0 <|
  if act = 2 then
    refuseIf (s.tdc.chans.any (fun h => h.state != .disarmed)) stBadState 0 <|
    .done [] { s with tdc := { s.tdc with calibrating := true } }
  else if act = 1 then .done [] (chans.foldl (fun s c => disarmChan c s) (nextTick s))
  else
    refuseIf (chans.any fun c => (chanOf s c).state != .disarmed || !(chanCfg s c).enable) stBadState 0 <|
    refuseIf (at_ != 0 && decide (at_ ≤ curTs s)) stBadState 0 <|
    .done [] (chans.foldl (fun s c => armChan c (fld p 4 4) (bit (fld p 2 1) 0) (bit (fld p 2 1) 1) at_ s) (nextTick s))

def execTdcArm (q : Req) (s : State) : Outcome State Fault Refusal := cmdRow 0x0701 hTdcArm q s

/-! ### TDC_CONFIGURE (R244) and its commit (R242) -/

/-- An output's rising edges come at 10 MHz at most. -/
def slowOutput (c : OutCfg) : Bool := (c.mode != 1 && c.mode != 3) || decide (c.freqNum ≤ 10000000 * c.freqDen)

def tdcFields (c : Cfg) (p : Bytes) : List Fld :=
  let stop := fld p 0 1 != 0
  let freq := stop && fld p 3 1 == 1
  [inF 0 1 0 8, inF 1 1 0 1, inF 2 1 0 1, whenF stop 3 1 0 1,
   F 4 1 (fun v => if stop && !freq then decide (v ≤ 16) && (v == 0 || slowOutput (nth c.outs (v - 1))) else v == 0),
   F 5 1 (fun v => if freq then decide (v ≤ 4) && decide (fld p 8 4 * 10 ^ v ≥ 2000 * fld p 12 4) else v == 0),
   whenF freq 6 1 0 1, anyF 7 1,
   F 8 4 (fun v => if freq then decide (1 ≤ v ∧ v ≤ 10000000 * fld p 12 4) else v == 0),
   F 12 4 (fun v => if freq then decide (1 ≤ v) else v == 0), anyF 16 8]

def tdcCfgOf (p : Bytes) : TdcCfg :=
  { enable := fld p 1 1 == 1, edge := fld p 2 1, mode := fld p 3 1, refSel := fld p 4 1, gate := fld p 5 1, basis := fld p 6 1
    glitchNs := fld p 7 1, freqNum := fld p 8 4, freqDen := fld p 12 4, compensation := fldI p 16 8 }

def hTdcConfigure : Handler := fun q s =>
  let i := fld q.params 0 1
  checked q 24 (tdcFields s.shadow q.params) <|
  refuseIf (i ≥ 1 && (chanOf s (i - 1)).owner.isSome) stResource 0 <|
  writes (fun c => { c with tdc := c.tdc.set i (tdcCfgOf q.params) }) s

def execTdcConfigure (q : Req) (s : State) : Outcome State Fault Refusal := cmdRow 0x0700 hTdcConfigure q s

/-- A commit that changes an armed channel or its start input disarms the channel (R242). -/
def tdcCommit (old : List TdcCfg) (s : State) : State :=
  (List.range 8).foldl (fun s c =>
    let new := nth s.work.tdc (c + 1)
    let changed := nth old (c + 1) != new || (new.mode == 0 && new.refSel == 0 && nth old 0 != nth s.work.tdc 0)
    if changed && (chanOf s c).owner.isNone && (chanOf s c).state != .disarmed then
      updChan c (fun h => { h with aborted := true }) (disarmChan c s)
    else s) s

/-! ### TDC_READ and TDC_STATS (R246, R247) -/

def hTdcRead : Handler := fun q s =>
  let c := fld q.params 0 1
  checked q 4 [inF 0 1 0 7, inF 1 1 1 32, rsvF 2 2] <|
  refuseIf (chanOf s c).owner.isSome stResource 0 <|
  let h := chanOf s c
  let l := h.buffer.take (fld q.params 1 1)
  let rest := h.buffer.drop (fld q.params 1 1)
  .done (leBytes 1 l.length ++ leBytes 1 (packBits [!rest.isEmpty, h.rawFull]) ++ zeros 2 ++ leBytes 4 h.dropped ++
    l.flatMap fun e => leInt 8 e.value ++ tsBytes e.stamp.toNat ++ leBytes 1 (b2n e.uncal) ++ zeros 3)
    (updChan c (fun h => { h with buffer := rest, rawFull := h.rawFull && l.isEmpty }) s)

def execTdcRead (q : Req) (s : State) : Outcome State Fault Refusal := cmdRow 0x0702 hTdcRead q s

/-- MEAN of a block in the units of R235. -/
def blockMean (b : TdcBlock) : Int :=
  if b.count = 0 then 0 else roundDivI (b.sum * (if b.mode = 0 then 256 else 1)) b.count

/-- STDDEV of a block, to the nearest unit (R234, R235). -/
def blockSd (b : TdcBlock) : Nat :=
  if b.count ≤ 1 then 0
  else
    let num := ((b.count * b.square : Nat) - b.sum * b.sum).toNat * (if b.mode = 0 then 65536 else 1)
    (isqrt (4 * num / (b.count * (b.count - 1))) + 1) / 2

def tdcStateCode (s : State) (h : TdcChan) : Nat :=
  match h.state with
  | .disarmed => if s.tdc.calibrating then 3 else 0
  | .waiting => 1
  | .armed => 2

def tdcStatsReply (s : State) (c : Nat) (running : Bool) : Bytes :=
  let h := chanOf s c
  let g := chanCfg s c
  let b := if running then { h.block with mode := g.mode } else h.last.getD { mode := g.mode }
  let calOk := (nth s.tdc.inputs (c + 1)).calOk
  leBytes 1 c ++ leBytes 1 (tdcStateCode s h) ++ leBytes 1 b.mode ++
  leBytes 1 (packBits [if running then b.count != 0 else h.last.isSome, h.owner.isSome, b.uncal, h.aborted, running, calOk]) ++
  leBytes 4 h.n ++ leBytes 4 b.count ++ leBytes 4 h.blockCount ++ leInt 8 (blockMean b) ++ leBytes 8 (blockSd b) ++
  leInt 8 b.min ++ leInt 8 b.max ++ tsBytes b.lastStamp.toNat ++ leBytes 4 h.orphans ++ leBytes 4 h.stepDiscards ++ leBytes 4 h.overruns

def hTdcStats : Handler := fun q s =>
  checked q 4 [inF 0 1 0 7, inF 1 1 0 1, rsvF 2 2] (.done (tdcStatsReply s (fld q.params 0 1) (fld q.params 1 1 == 1)) s)

def execTdcStats (q : Req) (s : State) : Outcome State Fault Refusal := cmdRow 0x0703 hTdcStats q s

end Sys2Proof.Machine
end

