-- ==== Sys2Proof/Machine/PairOps.lean ====
section
/-! DEFINITION. The claim, the shared-output enable, joining, taking over, findings (R383 to R395, R402, R407, R410, R414 to R416). -/
namespace Sys2Proof.Machine
open Sys2Proof

/-! ### The claim (R383 to R391) -/

/-- Shared ports that are not whole: configured, and not UP or without CAL_OK (R385). -/
def lanesDown (s : State) : Nat :=
  ((List.range 16).filter fun n =>
    let c := portCfg s n
    let r := portOf s n
    c.mode != 0 && sharedLane c && !(r.state == .up && r.calOk)).length

/-- Shared outputs without placer calibration (R385, R413). -/
def placersBad (s : State) : Nat :=
  ((List.range 16).filter fun n => (nth s.work.outs n).mode != 0 && outShared (nth s.work.outs n) && !(outOf s n).placerOk).length

/-- A self-test item stands failed (R413). -/
def testsBad (s : State) : Bool := s.pair.tests.any fun t => t.result == 1

/-- HEALTH of a live claim (R385). -/
def health (s : State) : Nat :=
  let down := min 6 (onesBelow 16 s.svc.faulty).length + min 2 (lanesDown s) + min 2 (placersBad s) +
    (if s.work.pair.mode == 1 && !(laneUp s 0 && laneUp s 1) then 1 else 0) + (if testsBad s then 4 else 0) +
    (if isDummy s && s.pair.sync != .synced then 8 else 0) + (if isDummy s then s.work.pair.margin else 0)
  max 1 (15 - down)

/-- A claim of a preference and a health with the PAIR_ID strap (R383). -/
def claimOf (pref hl : Nat) (s : State) : Nat := pref * 32 + hl * 2 + b2n s.boot.pairId

/-- The claim that the next frame carries (R383, R387). -/
def claimNow (s : State) : Nat := claimOf (if s.pair.seizing then 7 else s.pair.pref) (health s) s

/-- What R30 says of the claims in force. -/
def mayEnable (p : PairRun) : Bool :=
  p.live && (p.absent || (match p.rx with | some c => decide (p.force > c) | none => false))

/-- R30 is evaluated: a rise of the enable comes `delay` ps later, a fall at once (R391). -/
def settleEnable (delay : Nat) (s : State) : State :=
  let want := mayEnable s.pair
  updPair (fun p =>
    if want == p.enable then { p with edge := none }
    else match p.edge with
      | some (v, _) => if v == want then p else { p with edge := some (want, s.now + (if want then delay else 0)) }
      | none => { p with edge := some (want, s.now + (if want then delay else 0)) }) s

/-- A chip that seizes stops when the partner has given way (R388). -/
def settleSeize (s : State) : State :=
  let p := s.pair
  let gone := p.absent || (match p.rx with
    | some c => c == 0 || (decide (c / 32 < 7) && decide (c < claimOf p.pref (health s) s))
    | none => false)
  if p.seizing && gone then updPair (fun p => { p with seizing := false }) s else s

/-- A claim is received from the partner (R390, R391). -/
def takeClaim (c : Nat) (quiet : Bool) (s : State) : State :=
  settleEnable (if quiet then 0 else 150000)
    (settleSeize (updPair (fun p => { p with rx := some c, quiet, absent := false, rxAt := s.now }) s))

/-- The command that waits for its claim to take force is answered (R425). -/
def claimSetDone (s : State) : State :=
  if s.pair.rising.isNone && s.pair.force == s.pair.sent then finishWait .claimSet stDone 0 (leBytes 1 s.pair.force ++ zeros 3) s else s

/-- A frame has been sent completely: a lower claim takes force, a higher one after 220 ns (R391). -/
def claimSent (c : Nat) (s : State) : State :=
  let s := updPair (fun p =>
    let p := { p with sent := c }
    if c > p.force then { p with rising := some (c, s.now + 220000) } else { p with force := c, rising := none }) s
  claimSetDone (settleEnable 0 s)

/-! ### Joining and following (R402, R407) -/

/-- The pair logic puts every DPLL in FREE_RUN and makes the counter's bound unbounded (R402). -/
def freeAll (s : State) : State :=
  let s := ([0, 1, 2, 3] : List Nat).foldl (fun s d => updDpll d (fun x => { x with
    state := .freeRun, lockSince := none, returnSlewing := false, buildPending := false, estStart := none, points := [] }) s) s
  { s with
    hold := { s.hold with origin := none, b0 := none, absent := false, clampStands := false, failedStands := false, leftStands := false }
    bound := { s.bound with window := [], held := none, dist := 0, fDist := 0 } }

/-- The pair logic takes the stop channels that it compares on, and runs the skew calibration (R241, R411, R413). -/
def ownChannels (s : State) : State :=
  let s := s.work.pair.entries.foldl (fun s e =>
    updChan e.channel (fun h => { h with owner := some e.output })
      (armNow e.channel (curTs s) (disarmChan e.channel (updChan e.channel (fun h => { h with
        owner := some e.output, n := 16777216, continuous := true, raw := false, buffer := [], dropped := 0, rawFull := false
        aborted := false, blockCount := 0, orphans := 0, stepDiscards := 0, overruns := 0 }) s)))) s
  { s with tdc := { s.tdc with calibrating := true } }

/-- The chip becomes Declarer: the owned channels go back to the host (R241). -/
def releaseChannels (s : State) : State :=
  let owned := (List.range 8).filter fun c => (chanOf s c).owner.isSome
  let s := owned.foldl (fun s c => updChan c (fun h => { h with owner := none, buffer := [], dropped := 0, rawFull := false }) (disarmChan c s)) s
  if owned.isEmpty then s else raise 7 7 s

/-- Entry to JOINING (R402, R407). -/
def enterJoining (s : State) : State :=
  let s := updPair (fun p => { p with sync := .joining, joinCount := 0, timeSet := false, lockRun := 0, applied := none }) s
  settleBound (evalAll (ownChannels (freeAll (dropSlew s))))

/-! ### The enable rises (R410, R415) -/

/-- The bound and the T-DPLL of a new Declarer (R410). `b` is the Dummy's bound on the tick before, `was` its synchronisation. -/
def takeOver (b : Option Nat) (was : SyncState) (s : State) : State :=
  if was != .synced then
    let s := freeAll s
    { s with time := { s.time with valid := s.time.valid && s.pair.timeSet } }
  else if s.pair.partner.tState = 1 ∨ s.pair.partner.tState = 2 ∨ s.pair.partner.tState = 4 then
    let t := trackTerms s
    let rest := t.stamp + t.asym + t.track + wanderAt s.now s + slewTerm s + s.bound.dist
    let s := updDpll 0 (fun x => { x with state := .locked }) s
    { s with bound := { s.bound with held := some { t with unc := b.map (· - rest) } } }
  else
    let x := match s.pair.applied with | some x => x.bound | none => {}
    let s := { s with hold := { s.hold with
      aFloor := max s.hold.aFloor x.a, dFloor := max s.hold.dFloor x.d, qFloor := max s.hold.qFloor x.q } }
    let s := if (dpllCfg s 0).holdSource = 0 then setRate 0 (holdRate 0 s) s else s
    let s := updDpll 0 (fun d => { d with
      state := if s.pair.partner.tState = 0 then .freeRun else .holdover
      holdFreq := freqOfRate (rateOf s 0), lockSince := none, returnSlewing := false, buildPending := false, estStart := none, points := [] }) s
    { s with
      hold := { s.hold with b0 := b.map (· - growthAt s.now s) }
      bound := { s.bound with held := none } }

/-- Each selector starts from the candidate that the old Declarer last had selected, when it is eligible here (R92). -/
def startSelectors (s : State) : State :=
  { s with sels := (List.range 4).map fun d =>
      let r := nth s.sels d
      let id := s.pair.partner.selected.getD d 0
      let sl := (nth s.work.sels d).slate
      { r with selected := (eligibles s d).find? fun k => id != 0 && idOf (nth sl k).ord == id } }

/-- The enable rises on a chip that was the Dummy (R410, R415). -/
def roleDeclarer (s : State) : State :=
  let b := counterBound s
  let was := s.pair.sync
  let s := updPair (fun p => { p with enable := true, edge := none, sync := if p.heard then .paired else .alone, captured := none }) s
  let s := takeOver b was s
  let s := startSelectors s
  let s := restartSlaves (releaseChannels s)
  settleBound (evalAll (fillBuckets s))

/-- The enable rises (R395, R415). -/
def enableRise (s : State) : State :=
  match s.pair.edge with
  | some (true, at_) =>
    let s := moveTo at_ s
    let s := refreshQuotes s (if isDummy s then roleDeclarer s else updPair (fun p => { p with enable := true, edge := none }) s)
    let s := updPair (fun p => { p with switchovers := (p.switchovers + 1) % 2 ^ 32, dual := 0, opened := true }) s
    emitKeepers (emit (.pin "CLAIM_OWN" 1) (raise 12 0 (noteEdge true s)))
  | _ => s

/-- The enable falls while the chip remains live (R416, R426). -/
def enableFall (s : State) : State :=
  match s.pair.edge with
  | some (false, at_) =>
    let s := moveTo at_ s
    let s := refreshQuotes s (updPair (fun p => { p with enable := false, edge := none, switchAt := none }) s)
    let s := emitKeepers (emit (.pin "CLAIM_OWN" 0) (raise 12 1 (noteEdge false s)))
    let s := finishWait .pairSwitch stDone 0 (zeros 4) s
    if s.work.pair.mode == 1 then enterJoining s else s
  | _ => s

/-! ### Findings (R387, R414) -/

/-- A finding of the Dummy: it seizes when it is permitted to (R387, R414). A claim that drops on the same tick governs (R421). -/
def trySeize (finding : Nat) (force : Bool) (s : State) : State :=
  let p := s.pair
  if !isDummy s || (match p.edge with | some (v, _) => v | none => false) then s
  else
    let s := updPair (fun p => { p with lastFinding := finding }) s
    if bit s.work.pair.flags 1 && (p.sync == .synced || force) && !testsBad s && p.live then
      raise 12 6 (updPair (fun p => { p with seizing := true }) s)
    else raise 12 7 s

/-! ### Codes and values of the link (R398, R424) -/

def syncCode : SyncState → Nat
  | .single => 0
  | .alone => 1
  | .paired => 2
  | .joining => 3
  | .copying => 4
  | .lockstep => 5
  | .synced => 6

/-- The phase of an F accumulator in the offset format (R398). -/
def domainPhase (s : State) (d : Nat) : Int := toSigned 64 ((fdomNow s d 0).toNat % 2 ^ 64)

/-- SOURCE_ID of a selector's candidate, 0 for none. -/
def selectedId (s : State) (d : Nat) : Nat := match (nth s.sels d).selectedOrd with | some o => idOf o | none => 0

/-- A partner's claim is in force (R390). -/
def seenValid (p : PairRun) : Bool := p.rx.isSome && !p.absent

/-- A heartbeat of a lane (R398). -/
def heartbeat (n : Nat) (s : State) : Bytes :=
  let p := s.pair
  let l := laneOf s n
  let (es, ei) := match l.got with | some (q, st, _, _) => (q, st) | none => (0, 0)
  leBytes 1 (packBits [p.enable, p.seizing, seenValid p, s.boot.pairId]) ++ leBytes 1 (syncCode p.sync) ++ leBytes 1 p.force ++
  leBytes 1 (p.rx.getD 0) ++ leBytes 4 l.seq ++ tsBytes (stampNow s) ++ leBytes 4 es ++ tsBytes ei ++ leBytes 4 s.time.stepEpoch ++
  leInt 8 (satOffset s.time.lastStep) ++ boundBytes (counterBound s) ++ leBytes 1 (boundMode s) ++ leBytes 1 (dpllStateCode (tdpll s).state) ++
  leBytes 1 (classOf s) ++ zeros 1 ++ ((List.range 4).flatMap fun d => leBytes 2 (selectedId s d)) ++
  (([1, 2, 3] : List Nat).flatMap fun d => leInt 8 (domainPhase s d)) ++ leBytes 4 s.hand.number ++ leBytes 4 (if isDummy s then p.snapAck else 0) ++ zeros 28

/-- What a heartbeat says (R398). -/
def hbViewOf (h : Bytes) : HbView :=
  { flags := fld h 0 1, sync := fld h 1 1, claimSent := fld h 2 1, claimSeen := fld h 3 1, stepEpoch := fld h 36 4
    bound := fld h 48 8, mode := fld h 56 1, tState := fld h 57 1, clockClass := fld h 58 1
    selected := (List.range 4).map fun d => fld h (60 + 2 * d) 2, hand := fld h 92 4, snapAck := fld h 96 4 }

/-- A self-test item has run (R413). -/
def testRan (item : Nat) (ok : Bool) (detail : Nat) (s : State) : State :=
  let was := (nth s.pair.tests item).result
  let s := updPair (fun p => { p with tests := upd p.tests item fun t =>
    { t with result := if ok then 0 else 1, detail := if ok then 0 else detail, lastRun := (s.now - s.boot.resetEnd) / msPs
             failures := if ok then t.failures else (t.failures + 1) % 2 ^ 32 } }) s
  if ok || was == 1 then s else occur 0x2C item (raise 12 8 s)

end Sys2Proof.Machine
end

