-- ==== Sys2Proof/Machine/PairSnap.lean ====
section
/-! DEFINITION. The hand snapshot: its capture, its translation into the own raw time, its application (R29, R48, R145, R403 to R405, R408). -/
namespace Sys2Proof.Machine
open Sys2Proof

/-! ### Capture (R29, R404) -/

/-- The bound-engine terms at the boundary (R29, R157). -/
def captureBound (s : State) : SnapBound :=
  let z := nth s.work.meldSlots 0
  { causes := boundCauses s, track := tracking (tdpll s).state, terms := trackTerms s, slew := slewTerm s, dist := s.bound.dist
    freq := ((tdpll s).lastEst.getD 0).natAbs + s.bound.fDist, q1 := z.q1, q2 := z.q2, lastPs := s.bound.lastSamplePs
    b0 := s.hold.b0, a := aEff s, d := dEff s, q := qEff s, elapsed := holdElapsedAt s.now s }

/-- The PREVIOUS, CURRENT and NEXT epochs of every instance (R29, R361). -/
def captureEpochs (s : State) : List (Nat × Nat × Nat) := s.ntp.insts.map fun r => (r.previous.epoch, r.current.epoch, r.next.epoch)

/-- Grants as the partner needs them against those that it has confirmed: changed and new ones, and ended ones (R404). -/
def grantDeltas (s : State) : List (Nat × Option Grant) :=
  ((s.ptp.grants.filter fun e => getKey e.1 s.pair.ackGrants != some e.2).map fun e => (e.1, some e.2)) ++
  ((s.pair.ackGrants.filter fun e => (getKey e.1 s.ptp.grants).isNone).map fun e => (e.1, none))

/-- Grant deltas that one snapshot holds (R404). -/
def deltaLimit (s : State) : Nat := if laneUp s 0 && laneUp s 1 then 65536 else 24576

/-- The neighbours that the grants of some deltas name (R328). -/
def neighboursOf (l : List (Nat × Option Grant)) (s : State) : List (Nat × Neighbour) :=
  s.ptp.neighbours.filter fun e => l.any fun g => g.2.any fun g => g.neighbour == e.1

/-- A snapshot of the present tick with the given grant entries. -/
def snapshotWith (grants : List (Nat × Option Grant)) (s : State) : Snapshot :=
  { hand := s.hand.number, ps := s.now, rate := s.time.rate, counter := s.time.counter, fdomRate := s.time.fdomRate
    stepEpoch := s.time.stepEpoch, meld := meldThen s, hold := s.hold, grants := grants, neighbours := neighboursOf grants s, epochs := captureEpochs s
    samples := s.score.samples.filter (fun e => pairCode e.1), occs := s.score.occs.filter (fun r => pairCode r.code)
    future := s.time.future, past := s.time.past, currentOffset := s.time.currentOffset, smearStart := s.time.smearStart
    pend := s.time.pend, slewing := s.time.slewing, slewOwner := s.time.slewOwner, slewRem := s.time.slewRem, slewInc := s.time.slewInc
    dplls := s.dplls.map (·.state), modes := s.sels.map (fun r => (r.mode, r.pick)), selected := (List.range 4).map (selectedId s)
    bound := captureBound s }

/-- The boundary that closes a hand captures one snapshot, on either chip (R29, R404, R408). -/
def capture (s : State) : State :=
  if s.work.pair.mode != 1 then s
  else
    let ds := grantDeltas s
    let order := s.pair.grantOrder.filter (fun k => ds.any fun e => e.1 == k)
    let order := order ++ (ds.map (·.1)).filter (fun k => !order.contains k)
    let take := order.take (deltaLimit s)
    let gs := take.filterMap fun k => ds.find? fun e => e.1 == k
    let deferred := order.length - take.length
    let s := if isDummy s then s else bumpBy (64 * 12 + 35) deferred s
    updPair (fun p => { p with
      captured := some (snapshotWith gs s), boundary := s.now, boundaryInc := s.incSum, snapSent := false, grantOrder := order
      grantDeferred := if isDummy s then p.grantDeferred else (p.grantDeferred + deferred) % 2 ^ 32 }) s

/-- A list of grants with deltas applied. -/
def applyDeltas (ds : List (Nat × Option Grant)) (l : List (Nat × Grant)) : List (Nat × Grant) :=
  ds.foldl (fun l e => match e.2 with | some g => putKey e.1 g l | none => delKey e.1 l) l

/-- SNAP_ACK confirms the deltas of a snapshot that was sent (R404). -/
def takeAck (hand : Nat) (s : State) : State :=
  match s.pair.sentGrants.find? (fun e => e.1 == hand) with
  | none => s
  | some e => updPair (fun p => { p with
      ackGrants := applyDeltas e.2 p.ackGrants
      sentGrants := (p.sentGrants.dropWhile (fun x => x.1 != hand)).drop 1 }) s

/-! ### Translation (R403) -/

/-- An instant of the Declarer's clock in this chip's clock: the boundary is common to both. -/
def toOwn (x : Snapshot) (s : State) (ps : Nat) : Nat := ((s.pair.boundary : Int) + ps - x.ps).toNat

/-- How far the Declarer's raw time is ahead of the own one, 2⁻¹⁶ ns (R403). -/
def rawAhead (x : Snapshot) (s : State) : Int := (rawTs x.ps : Int) - rawTs s.pair.boundary - s.pair.theta

/-- The Meld state of a snapshot against the own raw time: phases and frequencies shift so that their differences from slot 0, which is
the own SYSOSC estimate, are against the own raw time (R403). The own estimate of slot 0 at an origin is that of the origin's first
snapshot (R145). -/
def ownMeld (x : Snapshot) (s : State) : MeldRun :=
  let z := (nth s.meld.slots 0).est
  let z' := (nth x.meld.slots 0).est
  let df := freqOfRate s.time.rate - freqOfRate x.rate
  let dp := rawAhead x s * (2 ^ 32 : Nat) + (z.phase - z'.phase)
  let est := fun (e : MeldEst) => { e with phase := e.phase + dp, freq := e.freq + df + (z.freq - z'.freq) }
  let base := fun (b : PhaseBase) => { b with ps := toOwn x s b.ps }
  let m := x.meld
  { m with
    slots := m.slots.zipIdx.map fun (a, k) =>
      let own := nth s.meld.slots k
      { a with est := if k = 0 then own.est else est a.est, sum := own.sum, count := own.count, steer := own.steer, steerUnc := own.steerUnc
               outlierSmall := a.outlierSmall.map (toOwn x s), outlierBase := a.outlierBase.map base }
    lastUpdatePs := toOwn x s m.lastUpdatePs
    donePs := s.meld.donePs
    busy := s.meld.busy
    meas := s.meld.meas
    vote := []
    steerCut := s.meld.steerCut
    steerHeld := s.meld.steerHeld
    rawFreq := m.rawFreq.zipIdx.map fun (f, k) => if k = 0 then s.meld.rawFreq.getD 0 f else f + df
    ensHist := m.ensHist.map fun e => (toOwn x s e.1, e.2 + rawAhead x s * (2 ^ 32 : Nat))
    frozen := m.frozen.zipIdx.map fun (e, k) =>
      if k = 0 then (if s.hold.origin.isSome then (s.meld.frozen.head?).getD z else z) else est e
    frozenPs := toOwn x s m.frozenPs
    learnPhase := m.learnPhase.map fun e => (toOwn x s e.1, e.2) }

/-- MELD_OUTLIER standings of a Dummy are the Declarer's (R145). -/
def takeOutliers (m : MeldRun) (s : State) : State :=
  (List.range 8).foldl (fun s k =>
    match ordOf (nth s.work.meldSlots k).sourceId with
    | some o => if (nth s.work.meldSlots k).sourceId = 0 then s else setCheck o cOutlier (nth m.slots k).outlier s
    | none => s) s

/-- The holdover side of a snapshot: learning, the origin with its elapsed time, and B0 (R145, R404). -/
def ownHold (x : Snapshot) (s : State) : HoldRun :=
  let h := x.hold
  { s.hold with
    learned := h.learned, learnedPs := h.learnedPs, learnSince := h.learnSince.map (toOwn x s)
    aLearned := h.aLearned, dLearned := h.dLearned, qLearned := h.qLearned, aFloor := h.aFloor, dFloor := h.dFloor, qFloor := h.qFloor
    origin := h.origin.map fun _ => (s.pair.boundaryInc : Int) - x.bound.elapsed
    b0 := h.b0, originLearned := h.originLearned, absent := h.absent
    clockFailed := h.clockFailed, freqStepped := h.freqStepped, consistFailed := h.consistFailed, horizonPassed := h.horizonPassed
    coverHours := h.coverHours, predFreq := h.predFreq, predDrift := h.predDrift }

/-- A grant of the Declarer with its expiry and its last request in the own raw time (R329). -/
def ownGrant (x : Snapshot) (s : State) (g : Grant) : Grant :=
  let d : Int := (x.ps : Int) - s.pair.boundary
  { g with expiry := ((g.expiry : Int) - d / (msPs : Nat)).toNat
           phase := if g.answered then (((g.phase : Int) - d / 8000) % (2 ^ 32 : Nat)).toNat else g.phase }

/-- The server keys of an instance under the epochs that a snapshot names, and whether a key is missing (R372). -/
def ownKeys (e : Nat × Nat × Nat) (r : NtpRun) : NtpRun × Bool :=
  let have_ := [r.previous, r.current, r.next]
  let pick := fun (n : Nat) => match have_.find? (fun k => n != 0 && k.epoch == n) with | some k => k | none => {}
  let miss := fun (n : Nat) => n != 0 && (pick n).epoch == 0
  let next := if e.2.2 = 0 ∧ r.next.epoch ≠ e.1 ∧ r.next.epoch ≠ e.2.1 then r.next else pick e.2.2
  ({ r with previous := pick e.1, current := pick e.2.1, next }, miss e.1 || miss e.2.1 || miss e.2.2)

/-- The key epochs of a snapshot are taken over; a missing key raises KEY_MISSING (R372, R404). -/
def takeEpochs (x : Snapshot) (s : State) : State :=
  let rs := s.ntp.insts.zipIdx.map fun (r, i) => match x.epochs[i]? with | some e => ownKeys e r | none => (r, false)
  let s := { s with ntp := { s.ntp with insts := rs.map (·.1) } }
  if rs.any (·.2) then raise 11 4 s else s

/-- The PAIR-scope accumulators are those of the snapshot (R404, R540). -/
def takeScore (x : Snapshot) (s : State) : State :=
  let own := fun (r : Rec) => { r with lastPs := toOwn x s r.lastPs }
  updScore (fun v => { v with
    samples := x.samples.foldl (fun l e => putKey e.1 (own e.2) l) (v.samples.filter fun e => !pairCode e.1)
    occs := (v.occs.filter fun r => !pairCode r.code) ++ x.occs.map own }) s

/-- The leap table, pending change and slew of a snapshot (R48, R404). The counter and the rate words are not loaded. -/
def takeTime (x : Snapshot) (s : State) : State :=
  { s with time := { s.time with
    future := x.future, past := x.past, currentOffset := x.currentOffset, smearStart := x.smearStart, pend := x.pend
    slewing := x.slewing, slewOwner := x.slewOwner, slewRem := x.slewRem, slewInc := x.slewInc } }

/-- Every item of a snapshot is applied, on one tick (R29, R145, R404). -/
def applyItems (x : Snapshot) (s : State) : State :=
  let x' := { x with bound := { x.bound with lastPs := toOwn x s x.bound.lastPs } }
  let m := ownMeld x s
  let s := takeOutliers m { s with meld := m, hold := ownHold x s }
  let s := { s with
    ptp := { s.ptp with
      grants := applyDeltas (x.grants.map fun e => (e.1, e.2.map (ownGrant x s))) s.ptp.grants
      neighbours := x.neighbours.foldl (fun l e => putKey e.1 e.2 l) s.ptp.neighbours }
    sels := s.sels.zipIdx.map fun (r, d) => match x.modes[d]? with | some (md, pk) => { r with mode := md, pick := pk } | none => r }
  let s := takeTime x (takeScore x (takeEpochs x (freeNeighbours s)))
  let s := updPair (fun p => { p with applied := some x', appliedAt := p.boundary, appliedInc := p.boundaryInc, snapAck := x.hand }) s
  settleBound s

/-! ### LOCKSTEP (R408) -/

/-- The items that LOCKSTEP compares: without counter, rate words, Meld phases and frequencies, and bound terms. -/
def lockItems (x : Snapshot) : Snapshot :=
  { x with
    hand := 0, ps := 0, rate := 0, counter := {}, fdomRate := [], stepEpoch := 0, bound := {}, hold := { x.hold with learnSince := none }
    meld := { x.meld with
      slots := x.meld.slots.map fun m => { m with est := { m.est with phase := 0, freq := 0 } }
      frozen := x.meld.frozen.map fun e => { e with phase := 0, freq := 0 }
      rawFreq := [], ensHist := [], learnPhase := [], meas := [], lastUpdatePs := 0, frozenPs := 0, donePs := none, busy := none, steerCut := [], steerHeld := [] } }

/-- The digest of the own snapshot of the latest boundary (R408). -/
def lockDigest (s : State) : Option Bytes := s.pair.captured.map fun x => Config.snapDigest (lockItems x)

end Sys2Proof.Machine
end

