-- ==== Sys2Proof/Machine/ScoreOps.lean ====
section
/-! DEFINITION. The Scorecard's pages and commits, and the counters that exist (R529 to R543). -/
namespace Sys2Proof.Machine
open Sys2Proof

/-! ### Bytes of pages (R531 to R533) -/

/-- The 64 bytes of a record (R533). -/
def recBytes (r : Rec) : Bytes :=
  leBytes 2 r.code ++ leBytes 1 r.flags ++ leBytes 3 r.powerCycle ++ leBytes 6 r.taiSec ++ leBytes 4 r.taiNs ++ leBytes 4 r.opTime ++
  leBytes 4 r.count ++ leBytes 4 r.excess ++ leInt 4 r.min ++ leInt 4 r.max ++ r.hist.flatMap (leBytes 4)

/-- Bytes of a page, and records that a daily page holds (R530). -/
def pageSize (daily : Bool) (k : FlashKind) : Nat :=
  match k, daily with
  | .large, false => 16384
  | .large, true => 2048
  | _, false => 4096
  | _, true => 1024

/-- Address of an hourly or a daily page (R530). -/
def pageAddr (daily : Bool) (k : FlashKind) (slot : Nat) : Nat :=
  (if daily then (if k = .large then 0x01450000 else 0x00850000) else 0x00450000) + slot * pageSize daily k

def dailyRoom (k : FlashKind) : Nat := if k = .large then 31 else 15

/-- The 64-byte header with a CRC (R531). -/
def headerBytes (p : Page) (crc : Nat) : Bytes :=
  ascii (if p.daily then "SCD1" else "SCH1") ++ leBytes 4 p.seq ++ leBytes 4 p.opStart ++ leBytes 4 p.opEnd ++ leBytes 3 p.powerCycle ++
  leBytes 1 p.flags ++ tsBytes p.taiEnd ++ leBytes 2 p.records.length ++ leBytes 2 p.omitted ++ leBytes 4 p.carryIn ++ leBytes 4 p.written ++
  zeros 16 ++ leBytes 4 crc

/-- The records and the erased units after them, without the boot tally. -/
def pageBody (p : Page) (k : FlashKind) : Bytes :=
  let recs := p.records.flatMap recBytes
  recs ++ List.replicate (pageSize p.daily k - 64 - (if p.daily then 0 else 64) - recs.length) 0xFF#8

def pageCrc (p : Page) (k : FlashKind) : Nat := crc32 (headerBytes p 0 ++ pageBody p k)

/-- The page as it is programmed; an hourly page ends with its boot tally of ones (R531, R532). -/
def pageBytes (p : Page) (k : FlashKind) : Bytes :=
  headerBytes p (pageCrc p k) ++ pageBody p k ++ (if p.daily then [] else List.replicate 64 0xFF#8)

/-! ### The page of an interval (R535, R536, R540) -/

/-- The first record of a code and DETAIL. -/
def findOcc (c : Nat) (d : Int) (l : List Rec) : Option Nat := l.findIdx? fun r => r.code == c && bit r.flags 1 && r.min == d

/-- A carry count enters a page's records: into the first record of its code and DETAIL, or a record of its own (R536). -/
def enterCarry (room : Nat) (fresh : Nat → Rec) (acc : List Rec × List Nat) (e : Nat × Int × Nat) : List Rec × List Nat :=
  let (l, om) := acc
  let (c, d, n) := e
  match findOcc c d l with
  | some i => (upd l i (fun r => { r with excess := sat32Nat (r.excess + n), flags := setBit r.flags 2 }), om)
  | none =>
    if l.length < room then (l ++ [{ fresh c with flags := setBit (setBit (fresh c).flags 1) 2, excess := sat32Nat n, min := d, max := d }], om)
    else match latestOcc c l with
    | some _ => (updLatest c (fun r => { r with excess := sat32Nat (r.excess + n), flags := setBit (setBit r.flags 2) 4 }) l, om)
    | none => (l, if om.contains c then om else om ++ [c])

/-- A record belongs in this chip's page: a Dummy leaves the PAIR codes out (R540). -/
def inPage (s : State) (c : Nat) : Bool := !(pairCode c && isDummy s)

/-- SEQ of the next hourly page: one more than the newest valid or waiting page (R531). -/
def nextPageSeq (s : State) : Nat :=
  let waiting := (s.score.writing.toList ++ s.score.waiting).map (·.page.seq)
  (waiting ++ ((s.flash.hourly.filter fun e => !e.2.torn).map (·.2.seq))).foldl max 0 + 1

/-- The page of the interval in progress, as of the present tick. -/
def livePage (forced : Bool) (s : State) : Page :=
  let x := s.score
  let room := pageRoom x.kind
  let samples := (x.samples.map (·.2)).filter fun r => inPage s r.code
  let occs := x.occs.filter fun r => inPage s r.code
  let kept := occs.take (room - samples.length)
  let om := (occs.drop (room - samples.length)).foldl (fun om r => if om.contains r.code then om else om ++ [r.code]) x.omitted
  let (recs, om) := x.carry.foldl (enterCarry room fun c => recordNow c s) (samples ++ kept, om)
  { seq := nextPageSeq s, opStart := x.opStart, opEnd := opTime s, powerCycle := x.powerCycle
    flags := packBits [s.time.valid, forced, x.kind == .large], taiEnd := if s.time.valid then curTs s else 0
    omitted := om.length, carryIn := (x.carry.map (·.2.2)).sum, records := recs }

/-! ### Commits (R536, R537) -/

/-- The Scorecard accumulates and commits (R530, R546). -/
def scoreOn (s : State) : Bool := s.work.rec_.enable && s.score.kind != .unsupported

/-- The slot of a page is erased and programmed (R536). -/
def burnHourly (w : Writing) (k : FlashKind) (s : State) : State :=
  burn "HOURLY" (pageAddr false k w.slot) (pageSize false k / 4096) (pageBytes w.page k) s

/-- The next snapshot is written when neither a page nor an image is in write: its slot is erased and programmed (R536). -/
def startPage (s : State) : State :=
  match s.score.writing, s.score.waiting with
  | none, w :: ws =>
    if kittyUses s then s else
    let w := { w with slot := s.flash.hourlyHead % 1024, page := { w.page with written := opTime s } }
    burnHourly w s.score.kind
      { s with
        score := { s.score with writing := some w, waiting := ws }
        flash := { s.flash with hourly := delKey w.slot s.flash.hourly } }
  | _, _ => s

/-- An image write that waits for the flash started before every page that waits (R536). -/
def kittyTurn (s : State) : Bool :=
  match s.kitty.writing with
  | none => false
  | some w => w.waits && s.score.waiting.all fun p => decide (w.start < p.start)

/-- A page has left the flash: what started first follows it (R536). -/
def serveFlash (s : State) : State := if kittyTurn s then programImage s else startPage s

/-- One commit: the snapshot is taken, the accumulators are cleared, and the page is written (R536). -/
def commitPage (forced : Bool) (s : State) : State :=
  let p := livePage forced s
  let keep := fun c => !inPage s c
  let s := updScore (fun x => { x with
    waiting := x.waiting ++ [{ page := p, start := s.now, forced }]
    samples := x.samples.filter (fun e => keep e.1), occs := x.occs.filter (fun r => keep r.code), omitted := [], limited := false
    opStart := opTime s, carry := [] }) s
  startPage (if p.omitted = 0 then s else raise 15 4 s)

/-- An operating hour in ps. -/
def hourPs : Nat := 1024 * opUnit

/-- The hour boundary of this tick has not been committed yet. -/
def hourDue (s : State) : Bool := s.score.opPs % hourPs == 0 && s.score.opStart != opTime s

/-- The commit of an hour boundary (R536, R538). -/
def hourCommit (s : State) : State :=
  let s := updScore (fun x => { x with credits := min 24 (x.credits + 1) }) s
  if !scoreOn s then updScore (fun x => { x with opStart := opTime s }) s
  else
    let day := opTime s % 24576 == 0
    updScore (fun x => { x with dailyDue := x.dailyDue || day }) (commitPage false s)

/-- The hourly page has been read back (R536). -/
def pageWritten (s : State) : State :=
  match s.score.writing with
  | none => s
  | some w =>
    let s := raise 15 0 { s with
      score := { s.score with writing := none }
      flash := { s.flash with hourly := putKey w.slot w.page s.flash.hourly, hourlyHead := (w.slot + 1) % 1024 } }
    serveFlash (finishWait .recCommit stDone 0 (leBytes 4 w.page.seq ++ leBytes 4 w.page.opEnd) s)

/-- A write is not complete in time, or fails its readback: the following slot is tried once, then the page is lost (R537). -/
def pageFailed (readback : Bool) (s : State) : State :=
  match s.score.writing with
  | none => s
  | some w =>
    let s := if readback then s else moveTo (w.start + 10 * secPs) s
    let s := { s with flash := { s.flash with
      hourly := putKey w.slot { w.page with torn := true } s.flash.hourly, hourlyHead := (w.slot + 1) % 1024 } }
    if w.attempt = 1 then
      let slot := (w.slot + 1) % 1024
      let w := { w with page := { w.page with written := opTime s }, slot, attempt := 2, start := s.now }
      bump (64 * 15 + 35) (burnHourly w s.score.kind { s with
        score := { s.score with writing := some w }
        flash := { s.flash with hourly := delKey slot s.flash.hourly } })
    else
      let s := raise 15 2 (updScore (fun x => { x with writing := none }) s)
      serveFlash (finishWait .recCommit stInternal (freeVal s) [] (useFree s))

/-! ### Daily pages (R538, R539) -/

/-- Two records of one code merge; an occurrence record counts its EXCESS too (R538). -/
def mergeRec (a b : Rec) : Rec :=
  let blank := fun (r : Rec) => !bit r.flags 1 && r.hist.all (· == 0)
  let lo := if blank a then b.min else if blank b then a.min else min a.min b.min
  let hi := if blank a then b.max else if blank b then a.max else max a.max b.max
  let far := fun (r : Rec) => max r.min.natAbs r.max.natAbs
  let named := if blank a || (!blank b && decide (far b > far a)) then b else a
  { named with
    flags := b2n (bit named.flags 0) + (a.flags ||| b.flags) / 2 * 2
    count := sat32Nat (a.count + b.count), excess := sat32Nat (a.excess + b.excess), min := lo, max := hi
    hist := List.zipWith (fun x y => sat32Nat (x + y)) a.hist b.hist }

/-- A page's record as it enters the daily merge. -/
def dailyForm (r : Rec) : Rec := if bit r.flags 1 then { r with count := sat32Nat (r.count + r.excess) } else r

def mergeInto (l : List (Nat × Rec)) (r : Rec) : List (Nat × Rec) :=
  match getKey r.code l with
  | some a => putKey r.code (mergeRec a (dailyForm r)) l
  | none => putKey r.code (dailyForm r) l

/-- Pages of the daily ring in a sector (R530). -/
def sectorPages (k : FlashKind) : Nat := if k = .large then 2 else 4

/-- A daily page is written at the head; the oldest sector is erased when the head finds none erased (R539). -/
def writeDaily (p : Page) (s : State) : State :=
  let k := s.score.kind
  let slot := s.flash.dailyHead % 16384
  let n := sectorPages k
  let ring := if slot % n = 0 then s.flash.daily.filter (fun e => e.1 / n != slot / n) else s.flash.daily
  let p := { p with written := opTime s }
  burn "DAILY" (pageAddr true k slot) (b2n (ring.length < s.flash.daily.length)) (pageBytes p k) { s with flash := { s.flash with daily := putKey slot p ring, dailyHead := (slot + 1) % 16384 } }

/-- A later copy of this page stands in the ring (R539). -/
def copied (l : List (Nat × Page)) (e : Nat × Page) : Bool :=
  l.any fun x => x.1 != e.1 && x.2.seq == e.2.seq && !x.2.torn && bit x.2.flags 3 && decide (x.2.written > e.2.written)

/-- Sectors whose pages have all been relocated are erased (R539). -/
def eraseTail (s : State) : State :=
  let n := sectorPages s.score.kind
  let l := s.flash.daily
  let gone := fun (e : Nat × Page) => (l.filter fun x => x.1 / n == e.1 / n).all (copied l)
  let sectors := ((l.filter gone).map (·.1 / n)).eraseDups
  let s := sectors.foldl (fun s k => emit (.flashAt (pageAddr true s.score.kind (k * n)) 1) s) s
  { s with flash := { s.flash with daily := l.filter fun e => !gone e } }

/-- 17,520 hours in units of OP_TIME. -/
def renewUnits : Nat := 17520 * 1024

/-- Up to 32 of the oldest daily pages are relocated (R539). -/
def relocateOld (s : State) : State :=
  let l := s.flash.daily
  let old := l.filter fun e => !e.2.torn && !copied l e && decide (e.2.written + renewUnits ≤ opTime s)
  let old := (sortBy (fun a b => decide (a.2.written < b.2.written) || (a.2.written == b.2.written && decide (a.2.seq < b.2.seq))) old).take 32
  eraseTail (old.foldl (fun s e => writeDaily { e.2 with flags := setBit e.2.flags 3 } s) s)

/-- SEQ of the next daily page (R531). -/
def nextDaySeq (s : State) : Nat := ((s.flash.daily.filter fun e => !e.2.torn).map (·.2.seq)).foldl max 0 + 1

/-- The daily page from the hourly pages of the last 24,576 units (R538). -/
def dayPage (s : State) : Page :=
  let stop := opTime s / 24576 * 24576
  let pages := (s.flash.hourly.filter fun e => !e.2.torn && decide (e.2.opStart + 24576 ≥ stop ∧ e.2.opStart < stop)).map (·.2)
  let merged := (pages.foldl (fun l p => p.records.foldl mergeInto l) []).map (·.2)
  let room := dailyRoom s.score.kind
  { daily := true, seq := nextDaySeq s, opStart := stop - 24576, opEnd := stop, powerCycle := s.score.powerCycle
    flags := packBits [s.time.valid, false, s.score.kind == .large], taiEnd := if s.time.valid then curTs s else 0
    omitted := (merged.drop room).length, records := merged.take room }

/-- The daily commit, when neither a page nor an image is in write (R536, R538, R539). -/
def dayCommit (s : State) : State :=
  if !s.score.dailyDue || s.score.writing.isSome || kittyUses s || !scoreOn s then s
  else
    let p := dayPage s
    let s := if p.omitted = 0 then s else raise 15 4 s
    relocateOld (raise 15 1 (writeDaily p (updScore (fun x => { x with dailyDue := false }) s)))

/-! ### Boot (R529, R530, R532, R539) -/

/-- The layout of a density in MiB (R530). -/
def kindOfDensity (d : Nat) : FlashKind := if d = 32 then .small else if d = 64 ∨ d = 128 ∨ d = 256 then .large else .unsupported

/-- The page in write is torn when power or reset stops it (R571). -/
def tearPage (s : State) : State :=
  match s.score.writing with
  | none => s
  | some w => { s with flash := { s.flash with hourly := putKey w.slot { w.page with torn := true } s.flash.hourly, hourlyHead := (w.slot + 1) % 1024 } }

/-- The newest valid page of a ring with its slot (R539). -/
def newestPage (l : List (Nat × Page)) : Option (Nat × Page) :=
  l.foldl (fun m e => if e.2.torn then m else match m with
    | none => some e
    | some x => if e.2.seq > x.2.seq || (e.2.seq == x.2.seq && decide (e.2.written > x.2.written)) then some e else some x) none

/-- The Scorecard starts at boot: the layout, the rings, OP_TIME, POWER_CYCLE and the boot tally (R529, R530, R532, R539). -/
def scoreBoot (density : Nat) (s : State) : State :=
  let k := kindOfDensity density
  let s := { s with score := { s.score with kind := k }, flash := { s.flash with density := density } }
  if k = .unsupported then raise 15 6 s
  else
    let torn := (s.flash.hourly ++ s.flash.daily).any fun e => e.2.torn
    let valid := fun (l : List (Nat × Page)) => l.filter fun e => !e.2.torn
    let s := if torn then raise 15 5 { s with flash := { s.flash with hourly := valid s.flash.hourly, daily := valid s.flash.daily } } else s
    let dhead := match newestPage s.flash.daily with | some e => (e.1 + 1) % 16384 | none => 0
    let s := { s with flash := { s.flash with dailyHead := dhead } }
    match newestPage s.flash.hourly with
    | none => commitPage false { s with flash := { s.flash with hourlyHead := 0 } }
    | some (slot, p) =>
      let s := { s with
        flash := { s.flash with hourlyHead := (slot + 1) % 1024 }
        score := { s.score with
          opPs := s.score.opPs + p.opEnd * opUnit, opStart := p.opEnd, powerCycle := min 0xFFFFFF (p.powerCycle + p.tally + 1) } }
      if p.tally ≥ 512 then commitPage false s
      else
        burn "TALLY" (pageAddr false k slot + pageSize false k - 64) 0 (leBytes 64 (2 ^ 512 - 2 ^ (p.tally + 1)))
          { s with flash := { s.flash with hourly := putKey slot { p with tally := p.tally + 1 } s.flash.hourly } }

/-! ### Counters (R541, R542) -/

/-- The bits of IRQ_CAUSE_c that have a condition, without the summaries of class 0. -/
def causeBits (c : Nat) : Nat :=
  ([0xFF0, 0x3F, 0x7F, 0x1FFF, 0x3FFFFF, 0x1FF, 0x1FF, 0xFF, 0x1FF, 0xFF, 0xFF, 0x7F, 0xFFFF, 0x7F, 0x1FF, 0x7F] : List Nat).getD c 0

/-- How many further events a class has (R541). -/
def furtherEvents (c : Nat) : Nat := ([8, 0, 0, 3, 3, 2, 2, 4, 0, 5, 8, 9, 5, 3, 3, 4] : List Nat).getD c 0

/-- A counter exists (R541). -/
def perfExists (n : Nat) : Bool :=
  if n < 1024 then (if n % 64 < 32 then bit (causeBits (n / 64)) (n % 64) else decide (n % 64 < 32 + furtherEvents (n / 64)))
  else if n < 1280 then decide (n < 1024 + 16 * 14)
  else decide (n < 1312)

/-- A filtered counter counts events inside the chip whose number the spec does not give: fabric, ECC, DMA, crypto lanes. -/
def innerFilter (s : State) (f : Nat) : Bool :=
  let t := (nth s.work.filters f).eventType
  decide (t < 5) || t == 9

/-- The value of a counter; that of a filter over events inside the chip is a free value. -/
def perfValue (s : State) (k n : Nat) : Nat :=
  if 1280 ≤ n && innerFilter s (n - 1280) then Config.freeNat (s.free + k) % 2 ^ 48 else (getKey n s.perf).getD 0

/-- The commit of the filters: a counter whose filter has been set starts from 0 (R542). -/
def filterCommit (old : List FilterCfg) (s : State) : State :=
  (List.range 32).foldl (fun s f => if nth old f == nth s.work.filters f then s else { s with perf := putKey (1280 + f) 0 s.perf }) s

/-! ### The samples of a hand (R534) -/

/-- A bound in ns, rounded up; unbounded as the largest value (R534). -/
def boundNs (b : Option Nat) : Int := match b with | some v => (ceilDiv v 256000 : Nat) | none => 0x7FFFFFFF

/-- The values that the SAMPLE and RATE codes take at a hand boundary (R534). -/
def handSamples (temp rootPhase : Int) (s : State) : State :=
  let s := addSample 1 (roundDivI ((tdpll s).phaseErr * 1000) 65536) s
  let s := addSample 2 (boundNs (counterBound s)) s
  let s := addSample 3 (roundDivI (freqOfRate s.time.rate * 1000000000000) (2 ^ 64)) s
  let s := addSample 5 rootPhase (addSample 4 temp s)
  let s := if s.work.pair.mode == 1 then addSample 6 (roundDivI (s.pair.theta * 1000) 65536) s else s
  let s := (List.range 4).foldl (fun s k => addRate k s) s
  (List.range 16).foldl (fun s p => if (portOf s p).state == .up then addSample (0x40 + p) (boundNs (servedBound s p s.now)) s else s) s

end Sys2Proof.Machine
end

