-- ==== Sys2Proof/Machine/Kitty.lean ====
section
/-! DEFINITION. The meanings of the rows of keys, life cycle and attestation (chapter 14). -/
namespace Sys2Proof.Machine
open Sys2Proof Host

/-! ### Keys (R439 to R442, R454 to R456) -/

/-- Until the Kitty has loaded, key commands answer BUSY_RETRY with a hint (R447, R495). -/
def kittyReady (s : State) (k : Answer) : Answer :=
  if s.kitty.loadDone then k else .refuseWith stBusyRetry (1 + freeVal s % 65535) (useFree s)

/-- The lockstep-mirrored flag is refused (R434, R441). -/
def noMirror (q : Req) (k : Answer) : Answer := refuseIf (isMirrored q) stBadParam 0xFFFF k

/-- The states in which a key command runs (R429, R454). -/
def keyAllowed (persist : Bool) (s : State) (k : Answer) : Answer :=
  refuseIf (s.attest.advance.isSome || s.attest.lc == 4 || (persist && s.attest.lc == 0)) stLifecycle s.attest.lc k

/-- The key check value (R439). -/
def kcv (key : Bytes) : Bytes := (sha256 (ascii "ISOTH-KCV" ++ key)).take 4

/-- What every write and erase counts, and the slots that it replaces (R442, R444, R452, R534). -/
def countWrite (persist : Bool) (l : List (Nat × KittySlot)) (s : State) : State :=
  updKitty (fun k => { k with
    slots := l, before := some (s.now, slotsThen s), writesTotal := (k.writesTotal + 1) % 2 ^ 32, writesReset := (k.writesReset + 1) % 2 ^ 32
    persist := if persist then some ((k.persist.elim s.now (·.1)), s.now) else k.persist }) (noteRate 3 s)

def hKeyWrite : Handler := fun q s =>
  let p := q.params
  let n := fld p 0 2
  let per := bit (fld p 2 1) 0
  checked q 40 [inF 0 2 0 4095, inF 2 1 0 3, rsvF 3 1, anyF 4 2, rsvF 6 2, anyF 8 32] <|
  noMirror q <| kittyReady s <| keyAllowed per s <|
  refuseIf ((getKey n s.kitty.slots).isSome && !bit (fld p 2 1) 1) stBadState 0 <|
  let key := slice p 8 32
  let s := nextTick s
  let s := countWrite per (putKey n { label := fld p 4 2, key } s.kitty.slots) (bump (64 * 13 + 32) s)
  .done (kcv key ++ leBytes 4 s.kitty.writesTotal) s

def execKeyWrite (q : Req) (s : State) : Outcome State Fault Refusal := cmdRow 0x0D00 hKeyWrite q s

/-- The fields of KEY_ERASE (R455). -/
def eraseFields (p : Bytes) : List Fld :=
  [F 0 2 (fun v => if bit (fld p 2 1) 1 then v == 0 else decide (v ≤ 4095)), inF 2 1 0 3, rsvF 3 1]

def hKeyErase : Handler := fun q s =>
  let p := q.params
  let all := bit (fld p 2 1) 1
  let per := bit (fld p 2 1) 0
  checked q 4 (eraseFields p) <|
  noMirror q <| kittyReady s <| keyAllowed per s <|
  let s := nextTick s
  let s := countWrite per (if all then [] else delKey (fld p 0 2) s.kitty.slots) (bump (64 * 13 + 33) s)
  .done (zeros 4 ++ leBytes 4 s.kitty.writesTotal) s

def execKeyErase (q : Req) (s : State) : Outcome State Fault Refusal := cmdRow 0x0D01 hKeyErase q s

def keyInfoReply (n : Nat) (s : State) : Bytes :=
  let k := s.kitty
  let sum := n == 0xFFFF
  let x := if sum then none else getKey n k.slots
  leBytes 2 n ++ leBytes 1 (b2n x.isSome) ++
  leBytes 1 (packBits [k.loaded, k.persist.isSome, k.deferred, k.writing.isSome]) ++
  leBytes 2 (x.elim 0 (·.label)) ++ leBytes 2 k.slots.length ++ (match x with | some e => kcv e.key | none => zeros 4) ++
  leBytes 4 k.writesTotal ++ leBytes 4 k.writesReset ++ leBytes 4 (creditUnits s) ++ leBytes 8 k.imageSeq ++
  leBytes 1 (k.imageBank.getD 0xFF) ++ zeros 3 ++ leBytes 4 k.erases0 ++ leBytes 4 k.erases1 ++
  leBytes 4 (if k.imageBank.isSome then (s.score.opPs - k.imageOp) / (86400 * secPs) else 0) ++
  (if sum then occupancy k.slots else [])

def hKeyInfo : Handler := fun q s =>
  checked q 4 [F 0 2 (fun v => decide (v ≤ 4095) || v == 0xFFFF), rsvF 2 2] <|
  kittyReady s <| .done (keyInfoReply (fld q.params 0 2) s) s

def execKeyInfo (q : Req) (s : State) : Outcome State Fault Refusal := cmdRow 0x0D02 hKeyInfo q s

/-! ### Persistence (R444 to R447) -/

/-- The image of all pending requests is due: a request of this very tick is not in it, and stays pending (R444, R452). -/
def dueKitty (s : State) : State :=
  let late := match s.kitty.persist with | some (_, last) => decide (last = s.now) | none => false
  let t := dueImage (imageBody (slotsThen s)) s
  if late && t.kitty.writing.isSome then updKitty (fun k => { k with persist := some (s.now, s.now) }) t else t

/-- A persist request has stood for its time (R444). -/
def persistWrite (s : State) : State :=
  match s.kitty.persist with
  | none => s
  | some (first, last) =>
    if s.kitty.writing.isSome || !running s then s
    else
      let s := moveTo (min (last + 10 * secPs) (first + 60 * secPs)) s
      dueKitty s

def execPersistWrite (s : State) : Outcome State Fault Refusal := .next (persistWrite { s with out := [] })

/-- An image has been read back (R444), and a page that waited for the flash follows it (R536). -/
def persistDone (ps : Nat) (ok : Bool) (s : State) : State :=
  let s := begin_ ps s
  match s.kitty.writing with
  | none => s
  | some w =>
    if w.waits then s else
    let s := updKitty (fun k => { k with writing := none }) s
    startPage <|
      if ok then
        raise 13 2 (setBank w.bank w.image (updKitty (fun k => { k with imageSeq := w.seq, imageBank := some w.bank, imageOp := s.score.opPs }) s))
      else raise 13 3 (updKitty (fun k => { k with persist := some (k.persist.elim (s.now, s.now) id) }) s)

def execPersistDone (t : Nat) (ok : Bool) (s : State) : Outcome State Fault Refusal := .next (if running s then persistDone t ok s else begin_ t s)

/-- The retention rewrite is due (R446). -/
def retentionDue (s : State) : Bool := s.kitty.imageBank.isSome && decide (s.score.opPs ≥ s.kitty.imageOp + retentionPs)

/-- The next whole credit accrues, and a deferred write starts (R445, R452). -/
def creditAccrue (s : State) : State :=
  if !running s || creditNow s ≥ 256 * creditPs then s
  else
    let s := moveTo (s.now + (creditPs - creditNow s % creditPs)) s
    if !s.kitty.deferred || s.kitty.writing.isSome then s
    else if s.kitty.persist.isSome then dueKitty s
    else if retentionDue s then (match newestText s with | some b => dueImage b s | none => s)
    else s

def execCreditAccrue (s : State) : Outcome State Fault Refusal := .next (creditAccrue { s with out := [] })

/-- 365 days of operating time have passed without an image (R446). -/
def retentionRewrite (s : State) : State :=
  if !running s || s.kitty.imageBank.isNone || s.kitty.writing.isSome then s
  else
    let s := moveTo (s.now + (s.kitty.imageOp + retentionPs - s.score.opPs)) s
    match newestText s with
    | some b =>
      let p := s.kitty.persist
      updKitty (fun k => { k with persist := p }) (dueImage b s)
    | none => s

def execRetentionRewrite (s : State) : Outcome State Fault Refusal := .next (retentionRewrite { s with out := [] })

/-- The wrap engine loads the newest valid image, or starts empty (R445, R447). -/
def kittyLoad (ps : Nat) (s : State) : State :=
  let s := begin_ ps s
  if s.kitty.loadDone || !running s || s.boot.stage < 7 || s.boot.stage = 15 then s
  else
    let fresh := updKitty (fun k => { k with
      loadDone := true, slots := [], writesTotal := 0, credit := 256 * creditPs, creditAt := s.score.opPs, nextSeq := max 1 k.nextSeq }) s
    match wrapKey s with
    | none => fresh
    | some key =>
      let heads := ([0, 1] : List Nat).filter fun b => decide ((flashBank s b).length ≥ 64)
      let top := heads.foldl (fun m b => max m (fld (flashBank s b) 16 8)) 0
      let er := fun b => if heads.contains b then fld (flashBank s b) 32 4 else 0
      let ok := heads.filter fun b => imageValid key (flashBank s b) s
      let best := ok.foldl (fun (m : Option Nat) b => match m with
        | none => some b
        | some x => if fld (flashBank s b) 16 8 > fld (flashBank s x) 16 8 then some b else some x) none
      let fresh := updKitty (fun k => { k with nextSeq := top + 1, erases0 := er 0, erases1 := er 1 }) fresh
      match best with
      | none => raise 13 1 fresh
      | some b =>
        let img := flashBank s b
        raise 13 0 (updKitty (fun k => { k with
          loaded := true, slots := slotsOf (imageText key img), writesTotal := fld img 24 4, imageSeq := fld img 16 8, imageBank := some b
          credit := min (256 * creditPs) (fld img 36 4 * creditPs / 16), imageOp := s.score.opPs }) fresh)

def execKittyLoad (t : Nat) (s : State) : Outcome State Fault Refusal := .next (kittyLoad t s)

/-! ### Life cycle (R431 to R434, R457, R458) -/

def rootsBurned (s : State) : Nat := packBits (s.fuse.roots.map fun b => (bankRoot b).isSome)

def lcStatusReply (s : State) : Bytes :=
  let a := s.attest
  let spare := s.fuse.roots.any fun b => b.abandoned && b.spare.isSome
  leBytes 1 a.lc ++ leBytes 1 (packBits [a.advance.isSome, debugOpen s, spare]) ++ leBytes 1 (a.advance.getD 0xFF) ++
  leBytes 1 (rootsBurned s) ++ zeros 4 ++ serialBytes s ++ (if a.lc = 0 ∨ a.lc ≥ 4 then zeros 32 else a.devicePub)

def hLcStatus : Handler := fun q s => checked q 0 [] (.done (lcStatusReply s) s)

def execLcStatus (q : Req) (s : State) : Outcome State Fault Refusal := cmdRow 0x0D10 hLcStatus q s

/-- CONFIRM of a target (R458). -/
def confirmOf (t : Nat) : Nat := ([0x50524F56, 0x4649454C, 0x52455455, 0x53435241] : List Nat).getD (t - 1) 0

/-- The fields of LC_ADVANCE (R458). -/
def advanceFields (p : Bytes) : List Fld := [inF 0 1 1 4, rsvF 1 3, F 4 4 (fun v => v == confirmOf (fld p 0 1))]

def hLcAdvance : Handler := fun q s =>
  let t := fld q.params 0 1
  checked q 8 (advanceFields q.params) <|
  noMirror q <|
  refuseIf (s.attest.advance.isSome || s.attest.lc == 4 || (t != s.attest.lc + 1 && t != 4)) stBadState 0 <|
  let s := zeroise (nextTick s)
  .later (addWait { key := .lcAdvance, opcode := 0x0D11, req := q } (updAttest (fun a => { a with advance := some t }) s))

def execLcAdvance (q : Req) (s : State) : Outcome State Fault Refusal := cmdRow 0x0D11 hLcAdvance q s

/-- Burn the state row of a target and answer (R431). -/
def advanceReply (t pos : Nat) (s : State) : State :=
  let s := { s with fuse := { s.fuse with rows := s.fuse.rows.set (t - 1) 0xFF } }
  finishWait .lcAdvance stDone 0 (leBytes 1 pos ++ zeros 3) (occur 0x2F t (raise 13 5 s))

def setRoot (t : Nat) (f : RootBank → RootBank) (s : State) : State := { s with fuse := { s.fuse with roots := upd s.fuse.roots (t - 1) f } }

/-- The burn, the readback and the state row of an advance complete (R431, R432). -/
def advanceDone (ps : Nat) (firstOk spareOk : Bool) (s : State) : State :=
  let s := begin_ ps s
  match s.attest.advance, waitsFor .lcAdvance s with
  | some t, true =>
    if t = 4 then advanceReply 4 0xFF s
    else
      let b := nth s.fuse.roots (t - 1)
      let root := beBytes 32 (freeVal s % 2 ^ 256)
      match bankRoot b with
      | some _ => advanceReply t (if b.first.isSome && !b.abandoned then 0 else 1) s
      | none =>
        if firstOk && !b.abandoned then advanceReply t 0 (setRoot t (fun b => { b with first := some root }) (useFree s))
        else if spareOk then advanceReply t 1 (setRoot t (fun b => { b with abandoned := true, spare := some root }) (useFree s))
        else finishWait .lcAdvance stInternal (freeVal s % 65536) [] (setRoot t (fun b => { b with abandoned := true }) (useFree s))
  | _, _ => s

def execAdvanceDone (t : Nat) (firstOk spareOk : Bool) (s : State) : Outcome State Fault Refusal := .next (advanceDone t firstOk spareOk s)

/-! ### Attestation (R448 to R451, R459, R460) -/

def hAttestQuote : Handler := fun q s =>
  checked q 32 [anyF 0 32] <|
  refuseIf (s.attest.lc == 0 || s.attest.lc == 4 || s.attest.advance.isSome) stLifecycle s.attest.lc <|
  let s := nextTick s
  .later (addWait { key := .quote, opcode := 0x0D20, req := q, data := quoteBody (slice q.params 0 32) s } s)

def execAttestQuote (q : Req) (s : State) : Outcome State Fault Refusal := cmdRow 0x0D20 hAttestQuote q s

/-- The signer finishes the oldest quote (R451). -/
def quoteSigned (ps : Nat) (s : State) : State :=
  let s := begin_ ps s
  match s.host.waits.find? (fun w => w.key == .quote) with
  | none => s
  | some w => finishWait .quote stDone 0 (w.data ++ quoteSign w.data s) (bump (64 * 13 + 34) s)

def execQuoteSigned (t : Nat) (s : State) : Outcome State Fault Refusal := .next (if running s then quoteSigned t s else begin_ t s)

def measurementsReply (s : State) : Bytes :=
  s.attest.mrs.flatMap id ++ leBytes 4 s.attest.mr6Count ++ leBytes 4 s.attest.mr7Count ++ s.host.digest

/-- The fields of ATTEST_MEASUREMENTS (R460). -/
def measureFields (p : Bytes) : List Fld :=
  let ext := fld p 0 1 == 1
  [inF 0 1 0 1, F 1 1 (fun v => if ext then v == 6 || v == 7 else v == 0), rsvF 2 2, F 4 48 (fun v => ext || v == 0)]

def hAttestMeasurements : Handler := fun q s =>
  let p := q.params
  let ext := fld p 0 1 == 1
  let r := fld p 1 1
  checked q 52 (measureFields p) <|
  if !ext then .done (measurementsReply s) s
  else
    let s := nextTick s
    let s := refreshQuotes s (extend r (slice p 4 48) s)
    let s := raise 13 6 (updAttest (fun a => if r = 6 then { a with mr6Count := (a.mr6Count + 1) % 2 ^ 32 } else { a with mr7Count := (a.mr7Count + 1) % 2 ^ 32 }) s)
    .done (measurementsReply s) s

def execAttestMeasurements (q : Req) (s : State) : Outcome State Fault Refusal := cmdRow 0x0D21 hAttestMeasurements q s

end Sys2Proof.Machine
end

