-- ==== Sys2Proof/Machine/Pair.lean ====
section
/-! DEFINITION. The meanings of the pair's rows (chapter 13), but for those that run another command. -/
namespace Sys2Proof.Machine
open Sys2Proof Host

/-! ### Claim frames (R389 to R393) -/

/-- A claim that has dropped takes the enable with it: in pair mode the chip joins as the Dummy (R386, R407). -/
def afterDrop (before s : State) : State :=
  if before.pair.enable && !s.pair.enable && s.work.pair.mode == 1 && running s then enterJoining s else s

/-- A bit in Manchester code, as the levels of its halves: 0 falls and 1 rises at mid-bit (R389). -/
def manchester (b : Bool) : List Nat := if b then [0, 1] else [1, 0]

/-- A claim frame on CLAIM_TX, as the levels of its 24 half bit times: SYNC, the claim, odd parity, END (R389). -/
def claimLine (c : Nat) : List Nat :=
  let bits := (List.range 8).map fun k => bit c (7 - k)
  let parity := (bits.filter id).length % 2 == 0
  [1, 1, 0, 0] ++ (bits ++ [parity, true]).flatMap manchester

/-- Each chip in pair mode, or alone, sends claim frames while its claim is live; each is read back (R389, R391, R393). -/
def claimFrameTx (ps : Nat) (readback : Option Nat) (s : State) : State :=
  let s := begin_ ps s
  if !s.pair.live then s
  else
    let c := claimNow s
    let s := emit (.claimLine (claimLine c)) (emit (.claim c) s)
    if readback == some c then claimSent c (updPair (fun p => { p with readFails := 0 }) s)
    else if s.pair.readFails + 1 ≥ 2 then afterDrop s (selfFault 5 c s)
    else claimSent c (updPair (fun p => { p with readFails := p.readFails + 1 }) s)

def execClaimFrameTx (t : Nat) (readback : Option Nat) (s : State) : Outcome State Fault Refusal := .next (claimFrameTx t readback s)

/-- A valid frame is received (R390, R391). -/
def claimFrameRx (ps claim : Nat) (s : State) : State := takeClaim (claim % 256) false (begin_ ps s)

def execClaimFrameRx (t claim : Nat) (s : State) : Outcome State Fault Refusal := .next (claimFrameRx t claim s)

/-- The line has been quiet for 180 ns: a claim of 0x00 (R390). -/
def claimQuiet (ps : Nat) (s : State) : State := takeClaim 0 true (begin_ ps s)

def execClaimQuiet (t : Nat) (s : State) : Outcome State Fault Refusal := .next (claimQuiet t s)

/-- Neither a frame nor a quiet line for 4 µs (R390). -/
def claimAbsent (s : State) : State :=
  if s.pair.quiet || s.pair.absent then s
  else
    let s := moveTo (s.pair.rxAt + 4000000) s
    settleEnable 0 (settleSeize (updPair (fun p => { p with absent := true, rx := none }) s))

def execClaimAbsent (s : State) : Outcome State Fault Refusal := .next (claimAbsent { s with out := [] })

/-- A higher own claim takes force (R391). -/
def claimInForce (s : State) : State :=
  match s.pair.rising with
  | none => s
  | some (c, at_) =>
    let s := moveTo at_ s
    claimSetDone (settleEnable 0 (settleSeize (updPair (fun p => { p with force := c, rising := none }) s)))

def execClaimInForce (s : State) : Outcome State Fault Refusal := .next (claimInForce { s with out := [] })

def execEnableRise (s : State) : Outcome State Fault Refusal := .next (enableRise { s with out := [] })

def execEnableFall (s : State) : Outcome State Fault Refusal := .next (enableFall { s with out := [] })

/-- A block declares a self-fault (R31, R570). An uncorrectable SRAM error stands as a failed SRAM test (R413). -/
def selfFaultRow (ps cause detail : Nat) (s : State) : State :=
  let s := begin_ ps s
  if cause = 0 ∨ cause > 8 then s
  else if cause = 7 then engineFault detail ps s
  else
    let s := afterDrop s (selfFault cause detail s)
    if cause = 8 then testRan 2 false 0 s else s

def execSelfFault (t cause detail : Nat) (s : State) : Outcome State Fault Refusal := .next (selfFaultRow t cause detail s)

/-! ### Heartbeats (R397 to R402) -/

/-- A heartbeat goes out on each lane that is UP (R397, R398). -/
def heartbeatTx (s : State) : State :=
  if s.work.pair.mode != 1 || !running s || !(laneUp s 0 || laneUp s 1) then s
  else
    let s := moveTo s.pair.hbNext s
    let s := updPair (fun p => { p with hbNext := s.now + 1000000 }) s
    ([0, 1] : List Nat).foldl (fun s n =>
      if laneUp s n then
        let s := emit (.link (some n) "HEARTBEAT" (heartbeat n s)) s
        bump (64 * 12 + 32) (updLane n (fun l => { l with
          sent := ((l.seq, stampNow s, s.time.stepEpoch) :: l.sent).take 64, seq := (l.seq + 1) % 2 ^ 32 }) s)
      else s) s

def execHeartbeatTx (s : State) : Outcome State Fault Refusal := .next (heartbeatTx { s with out := [] })

/-- Heartbeats of a lane that did not arrive (R424). -/
def noteMissed (n seq : Nat) (s : State) : State :=
  match (laneOf s n).got with
  | none => s
  | some (q, _, _, _) =>
    let gap := (seq + 2 ^ 32 - q - 1) % 2 ^ 32
    if gap = 0 ∨ gap ≥ 2 ^ 31 then s
    else bumpBy (64 * 12 + 33) gap (updPair (fun p => { p with hbMissed := (p.hbMissed + gap) % 2 ^ 32 }) s)

/-- The partner is heard (R399, R407). -/
def hearPartner (s : State) : State :=
  let was := s.pair.heard
  let s := updPair (fun p => { p with heard := true, heardAt := s.now }) s
  let s := updRef 93 (fun r => { r with healthOk := true }) s
  if was then s else raise 12 3 s

/-- The heartbeat shows the partner's strap (R394). -/
def checkStrap (v : HbView) (s : State) : State :=
  let same := bit v.flags 3 == s.boot.pairId
  if same && !s.pair.conflict then raise 12 13 (updPair (fun p => { p with conflict := true }) s)
  else updPair (fun p => { p with conflict := same }) s

/-- ALONE ends when the partner is heard (R394, R407). -/
def leaveAlone (s : State) : State :=
  if s.pair.sync != .alone || s.pair.conflict then s
  else if !isDummy s then updPair (fun p => { p with sync := .paired }) s
  else if bit s.work.pair.flags 0 then enterJoining s else s

/-- θ and d of a heartbeat, 2⁻¹⁶ ns, when its stamps carry one epoch on each chip (R400). -/
def linkOffsets (n : Nat) (h : Bytes) (s : State) : Option (Int × Int) :=
  let l := laneOf s n
  match l.sent.find? (fun e => e.1 == fld h 20 4), l.got with
  | some (_, t3, e3), some (_, _, own, their) =>
    if e3 != s.time.stepEpoch || own != s.time.stepEpoch || their != fld h 36 4 then none
    else
      let t1 : Int := tsOfField (fld h 8 12)
      let t4 : Int := tsOfField (fld h 24 12)
      let f := (stampNow s : Int) - t1
      let b := t4 - t3
      let a := if s.boot.pairId then s.work.pair.plAsym else -s.work.pair.plAsym
      some (roundDivI (f - b) 2 - a, roundDivI (f + b) 2)
  | _, _ => none

/-- STAMP of a PARTNER sample in 2⁻⁸ ps (R401). -/
def linkStampUnc (n : Nat) (s : State) : Nat := if (laneOf s n).calOk then 120 * 256 else 2400 * 256

/-- The epoch of the Declarer is taken over: the counter steps by LAST_STEP when the Declarer's has (R402). -/
def followEpoch (h : Bytes) (s : State) : State :=
  let e := fld h 36 4
  if !isDummy s || !following s.pair.sync || !s.pair.timeSet || e = s.time.stepEpoch then s
  else
    let s := stepCounter (fldI h 40 8) (nextTick s)
    settleBound { s with time := { s.time with stepEpoch := e } }

/-- The first sample after JOINING has set the time: the epoch is the Declarer's, and each F accumulator takes its domain's phase (R402). -/
def firstLoad (h : Bytes) (s : State) : State :=
  let lag := max 0 s.pair.delay
  let s := { s with time := { s.time with
    stepEpoch := fld h 36 4
    fdomAcc := (List.range 3).map fun k =>
      ((fldI h (68 + 8 * k) 8 * (2 ^ 32 : Nat) + lag * (2 ^ 32 : Nat)) % (2 ^ 96 : Nat)).toNat } }
  let s := updPair (fun p => { p with timeSet := true }) s
  updRef 93 (fun r => { r with epoch := s.time.stepEpoch })
    (([1, 2, 3] : List Nat).foldl (fun s d => enterTracking d .acquiring s) s)

/-- The F-DPLLs of a Dummy take the Declarer's phases (R402). -/
def fFollow (h : Bytes) (s : State) : State :=
  let lag := (max 0 s.pair.delay * 1000 / 65536).toNat
  ([1, 2, 3] : List Nat).foldl (fun s d =>
    if tracking (dpllOf s d).state then
      let acc := fdomNow s d lag
      let e := toSigned 64 ((fldI h (60 + 8 * d) 8 - acc) % (2 ^ 64 : Nat)).toNat
      estPoint d e acc.toNat (lockTrack d e (loopSample d e acc.toNat 1000000 s))
    else s) s

/-- The lock criterion of R402, and COPYING (R407). -/
def joinCheck (theta : Int) (s : State) : State :=
  let within := decide (theta.natAbs ≤ s.work.pair.joinLimit)
  let s := updPair (fun p => { p with joinCount := if within then p.joinCount + 1 else 0 }) s
  if s.pair.joinCount < 1000 || tSelected s != some partnerOrd then s
  else
    let s := if (tdpll s).state == .acquiring || (tdpll s).state == .returning then settleBound (enterLocked 0 s) else s
    if s.pair.sync == .joining && !s.pair.stopped && (tdpll s).state == .locked then updPair (fun p => { p with sync := .copying }) s else s

/-- A PARTNER sample of a heartbeat (R400 to R402, R413 item 6). -/
def partnerSample (n : Nat) (h : Bytes) (theta delay : Int) (s : State) : State :=
  let s := updPair (fun p => { p with theta, delay }) s
  let was := tracking (tdpll s).state
  let s := deliver partnerOrd { stamp := stampNow s, offset := -theta, unc := fld h 48 8, stampUnc := linkStampUnc n s, pathDelay := delay
                                period := 1000000, perNum := 1000000 } false s
  if !isDummy s || !following s.pair.sync then s
  else
    let s := if !s.pair.timeSet then (if tracking (tdpll s).state && !was then firstLoad h s else s) else fFollow h s
    let s := if s.pair.timeSet then joinCheck theta s else s
    if s.pair.sync == .synced then testRan 6 (decide (theta.natAbs ≤ 4 * s.work.pair.joinLimit)) 0 s else s

/-- A Declarer that sees its partner drive against its own claim yields; a yielded chip claims again once it is seen (R419). -/
def dualDrive (v : HbView) (s : State) : State :=
  let p := s.pair
  if p.yielded then
    if bit v.flags 2 && v.claimSeen == p.lastLive then updPair (fun p => { p with live := true, yielded := false }) s else s
  else if p.enable && bit v.flags 0 && (!bit v.flags 2 || decide (v.claimSeen < p.force)) then
    if p.dual + 1 ≥ 2 then
      let t := updPair (fun p => { p with dual := 0, yielded := true }) (raise 12 12 (dropClaim s))
      afterDrop s t
    else updPair (fun p => { p with dual := p.dual + 1 }) s
  else updPair (fun p => { p with dual := 0 }) s

/-- A Declarer sends the full copy when the partner enters COPYING (R397, R407). -/
def bulkCopy (v : HbView) (s : State) : State :=
  if !isDummy s && v.sync == 4 && s.pair.partner.sync != 4 then
    emit (.snapshot (snapshotWith (s.ptp.grants.map fun e => (e.1, some e.2)) s)) (emit (.link none "BULK" []) s)
  else s

/-- A heartbeat arrives on a lane (R398 to R402, R404, R407, R419). -/
def heartbeatRx (n ps : Nat) (fcsOk : Bool) (h : Bytes) (s : State) : State :=
  let s := begin_ ps s
  if s.work.pair.mode != 1 || !running s || !laneUp s n || !fcsOk then s
  else
    let v := hbViewOf h
    let s := noteMissed n (fld h 4 4) s
    let off := linkOffsets n h s
    let s := updLane n (fun l => { l with got := some (fld h 4 4, stampNow s, s.time.stepEpoch, v.stepEpoch) }) s
    let s := bulkCopy v (leaveAlone (checkStrap v (hearPartner s)))
    let s := dualDrive v (takeAck v.snapAck (updPair (fun p => { p with partner := v }) s))
    let s := match off with | some (theta, d) => partnerSample n h theta d s | none => s
    followEpoch h s

def execHeartbeatRx (lane t : Nat) (fcsOk : Bool) (payload : Bytes) (s : State) : Outcome State Fault Refusal :=
  .next (heartbeatRx lane t fcsOk payload s)

/-- No heartbeat for 8 µs (R399, R406, R407, R414). -/
def heartbeatLost (s : State) : State :=
  if !s.pair.heard then s
  else
    let s := moveTo (s.pair.heardAt + 8000000) s
    let s := raise 12 2 (updPair (fun p => { p with heard := false }) s)
    let s := sourceSilent 93 (updRef 93 (fun r => { r with healthOk := false }) s)
    let late := s.pair.mirrors.filter (fun m => m.partner.isNone)
    let s := late.foldl (fun s m => mirrorMismatch m.opcode m.tag 0xFF s) (updPair (fun p => { p with mirrors := p.mirrors.filter (fun m => m.partner.isSome) }) s)
    let s := if isDummy s then trySeize 2 false s else s
    let s := if s.pair.sync == .paired || (following s.pair.sync && !s.pair.seizing) then updPair (fun p => { p with sync := .alone }) s else s
    settleBound (evalAll s)

def execHeartbeatLost (s : State) : Outcome State Fault Refusal := .next (whileRunning heartbeatLost { s with out := [] })

/-! ### Snapshots (R404, R407, R408) -/

/-- The Declarer sends the snapshot of the latest boundary (R404). -/
def snapshotTx (ps : Nat) (s : State) : State :=
  let s := begin_ ps s
  match s.pair.captured, (s.work.pair.mode == 1 && !isDummy s && s.pair.heard && !s.pair.snapSent) with
  | some x, true =>
    emit (.snapshot x) (updPair (fun p => { p with
      snapSent := true, sentGrants := (p.sentGrants ++ [(x.hand, x.grants)]).drop (p.sentGrants.length - 1023) }) s)
  | _, _ => s

def execSnapshotTx (t : Nat) (s : State) : Outcome State Fault Refusal := .next (if running s then snapshotTx t s else begin_ t s)

/-- The states in which a Dummy takes snapshots. -/
def takesSnapshots (s : State) : Bool := isDummy s && (s.pair.sync == .copying || s.pair.sync == .lockstep || s.pair.sync == .synced)

/-- A snapshot has verified: it is applied when it comes in time (R404). -/
def snapshotApply (ps : Nat) (x : Snapshot) (s : State) : State :=
  let s := begin_ ps s
  if !running s || !takesSnapshots s || s.pair.appliedAt == s.pair.boundary || decide (s.now > s.pair.boundary + 900000000) then s
  else bump (64 * 12 + 34) (updPair (fun p => { p with snapshotsApplied := (p.snapshotsApplied + 1) % 2 ^ 32 }) (applyItems x (nextTick s)))

def execSnapshotApply (t : Nat) (snap : Snapshot) (s : State) : Outcome State Fault Refusal := .next (snapshotApply t snap s)

/-- No snapshot has verified 900 µs after the boundary (R404). -/
def snapshotLate (s : State) : State :=
  if !takesSnapshots s || s.pair.appliedAt == s.pair.boundary then s
  else
    let s := moveTo (s.pair.boundary + 900000000) s
    raise 12 10 (updPair (fun p => { p with appliedAt := p.boundary, snapLate := (p.snapLate + 1) % 2 ^ 32 }) s)

def execSnapLate (s : State) : Outcome State Fault Refusal := .next (whileRunning snapshotLate { s with out := [] })

/-- The full copy has verified: every item, the grants and the neighbours (R407). -/
def copyVerified (ps : Nat) (x : Snapshot) (nb : List (Nat × Neighbour)) (s : State) : State :=
  let s := begin_ ps s
  if !running s || !isDummy s || s.pair.sync != .copying then s
  else
    let s := applyItems x { s with ptp := { s.ptp with grants := [], neighbours := nb } }
    updPair (fun p => { p with sync := .lockstep, lockRun := 0 }) s

def execCopyVerified (t : Nat) (snap : Snapshot) (neighbours : List (Nat × Neighbour)) (s : State) : Outcome State Fault Refusal :=
  .next (copyVerified t snap neighbours s)

/-- A hand boundary in LOCKSTEP: the Declarer's digest against the own one (R407, R408). -/
def lockstepCompare (ps : Nat) (digest : Bytes) (s : State) : State :=
  let s := begin_ ps s
  if !isDummy s || s.pair.sync != .lockstep then s
  else if lockDigest s = some digest then
    let s := updPair (fun p => { p with lockRun := p.lockRun + 1, lockFails := 0 }) s
    if s.pair.lockRun ≥ s.work.pair.lockstepHands then raise 12 4 (updPair (fun p => { p with sync := .synced }) s) else s
  else
    let s := bump (64 * 12 + 36) (updPair (fun p => { p with
      lockRun := 0, lockFails := p.lockFails + 1, mismatches := (p.mismatches + 1) % 2 ^ 32 }) s)
    if s.pair.lockFails ≥ 3 then
      enterJoining (raise 12 5 (updPair (fun p => { p with stopped := true, lockFails := 0 }) s))
    else updPair (fun p => { p with sync := .copying }) s

def execLockstepCompare (t : Nat) (digest : Bytes) (s : State) : Outcome State Fault Refusal := .next (if running s then lockstepCompare t digest s else begin_ t s)

/-- The partner's status of a mirrored command (R406). -/
def mirrorReplyRx (ps opcode tag status : Nat) (s : State) : State :=
  let s := begin_ ps s
  let hit := fun (m : MirrorWait) => m.opcode == opcode && m.tag == tag && m.partner.isNone
  match s.pair.mirrors.findIdx? hit with
  | none => s
  | some i => settleMirrors (updPair (fun p => { p with mirrors := upd p.mirrors i (fun m => { m with partner := some (status % 256) }) }) s)

def execMirrorReplyRx (t opcode tag status : Nat) (s : State) : Outcome State Fault Refusal := .next (if running s then mirrorReplyRx t opcode tag status s else begin_ t s)

/-! ### Findings and self-tests (R411 to R414) -/

/-- The Declarer asks for a switch (R414, R426). -/
def switchRequestRx (ps : Nat) (force : Bool) (s : State) : State := trySeize 3 force (begin_ ps s)

def execSwitchRequestRx (t : Nat) (force : Bool) (s : State) : Outcome State Fault Refusal := .next (if running s then switchRequestRx t force s else begin_ t s)

/-- 64 results of an entry make a trim, or show that it is out of its limit (R412). -/
def trimUpdate (k : Nat) (e : CompareCfg) (s : State) : State :=
  let r := nth s.pair.rows k
  if r.n < 64 then s
  else
    let m := roundDivI r.sum 64
    let s := updPair (fun p => { p with rows := upd p.rows k fun r => { r with sum := 0, n := 0, trimLimited := decide (m.natAbs > s.work.pair.trimLimit) } }) s
    if m.natAbs ≤ s.work.pair.trimLimit then
      let d := (nth s.work.outs e.output).domain
      updPair (fun p => { p with trims := upd p.trims d (· + m) }) s
    else raise 12 14 s

/-- A check at a shadow rising edge: the interval, or none when no stop pairs (R411). -/
def compareCheck (k ps : Nat) (x : Option Int) (s : State) : State :=
  let s := begin_ ps s
  match s.work.pair.entries[k]?, (isDummy s && running s) with
  | some e, true =>
    let d := x.map (· - e.tap)
    let bad := match d with | some d => decide (d.natAbs > s.work.pair.compareLimit) | none => true
    let s := updPair (fun p => { p with rows := upd p.rows k fun r => { r with
      failRun := if bad then r.failRun + 1 else 0, checks := (r.checks + 1) % 2 ^ 32, lastDiff := d.getD r.lastDiff
      sum := r.sum + d.getD 0, n := if d.isSome then r.n + 1 else r.n } }) s
    let s := if (nth s.pair.rows k).failRun = s.work.pair.compareCount then trySeize 1 false s else s
    trimUpdate k e s
  | _, _ => s

def execCompareCheck (k t : Nat) (x : Option Int) (s : State) : Outcome State Fault Refusal := .next (compareCheck k t x s)

/-- A self-test item runs in this role (R413). -/
def testRole (item : Nat) (s : State) : Bool :=
  if item = 2 ∨ item = 3 ∨ item = 5 then true
  else if item = 6 then isDummy s && s.pair.sync == .synced
  else decide (item < 6) && isDummy s

/-- A self-test item completes. What the state decides by itself is taken from the state: placers, owned channels, alignment (R413). -/
def selftestRun (item ps : Nat) (passed : Bool) (detail : Nat) (s : State) : State :=
  let s := begin_ ps s
  if !running s || !testRole item s then s
  else
    let ok := if item = 3 then placersBad s == 0
      else if item = 4 then (List.range 8).all fun c => (chanOf s c).owner.isNone || ((nth s.tdc.inputs (c + 1)).calOk && (nth s.tdc.inputs 0).calOk)
      else if item = 6 then decide (s.pair.theta.natAbs ≤ 4 * s.work.pair.joinLimit)
      else passed
    let s := if item = 0 ∧ !ok then (onesBelow 16 detail).foldl (fun s e => engineFault e s.now s) s else s
    testRan item ok (if item ≤ 1 then detail % 65536 else 0) s

def execSelftestRun (item t : Nat) (passed : Bool) (detail : Nat) (s : State) : Outcome State Fault Refusal :=
  .next (selftestRun item t passed detail s)

/-! ### Commands (R423 to R428) -/

def pairFields (p : Bytes) : List Fld :=
  [inF 0 1 0 1, F 1 1 (fun v => decide (v < 16) && (fld p 0 1 == 0 || decide (v / 4 ≠ 0))), inF 2 1 0 7, inF 3 1 1 255, inF 4 2 16 65535,
   inF 6 1 0 8, rsvF 7 1, inF 8 4 1000000 1000000000, rsvF 12 4, anyF 16 8, F 24 8 (fun v => decide (v < unboundedPs)),
   F 32 8 (fun v => decide (v < 2 ^ 63)), F 40 8 (fun v => decide (v < 2 ^ 63)), F 48 8 (fun v => decide (v < 2 ^ 63))]

def pairEntryFields (c : Cfg) (p : Bytes) (k : Nat) : List Fld :=
  [F (56 + 16 * k) 1 (fun v => decide (v < 8) && (List.range k).all fun j => fld p (56 + 16 * j) 1 != v),
   F (57 + 16 * k) 1 (fun v => decide (v < 16) && outShared (nth c.outs v) && slowOutput (nth c.outs v)),
   rsvF (58 + 16 * k) 6, anyF (64 + 16 * k) 8]

def pairCfgOf (p : Bytes) : PairCfg :=
  { mode := fld p 0 1, flags := fld p 1 1, margin := fld p 2 1, compareCount := fld p 3 1, lockstepHands := fld p 4 2, followBw := fld p 8 4
    plAsym := fldI p 16 8, plAsymUnc := fld p 24 8, compareLimit := fld p 32 8, trimLimit := fld p 40 8, joinLimit := fld p 48 8
    entries := (List.range (fld p 6 1)).map fun k =>
      { channel := fld p (56 + 16 * k) 1, output := fld p (57 + 16 * k) 1, tap := fldI p (64 + 16 * k) 8 } }

def hPairConfigure : Handler := fun q s =>
  checkedN q 56 (pairFields q.params) (min 8 (fld q.params 6 1)) 16 (pairEntryFields s.shadow q.params) <|
  writes (fun c => { c with pair := pairCfgOf q.params }) s

def execPairConfigure (q : Req) (s : State) : Outcome State Fault Refusal := cmdRow 0x0C00 hPairConfigure q s

def pairRow (s : State) (k : Nat) : Bytes :=
  let e := nth s.work.pair.entries k
  let r := nth s.pair.rows k
  leBytes 1 e.channel ++ leBytes 1 e.output ++ leBytes 1 (min 255 r.failRun) ++ leBytes 1 (b2n r.trimLimited) ++ leBytes 4 r.checks ++
  leInt 8 (satOffset r.lastDiff) ++ leInt 8 (satOffset (s.pair.trims.getD (nth s.work.outs e.output).domain 0))

def pairStatusReply (s : State) : Bytes :=
  let p := s.pair
  leBytes 1 (b2n (isDummy s)) ++ leBytes 1 (syncCode p.sync) ++ leBytes 1 p.force ++ leBytes 1 (p.rx.getD 0) ++ leBytes 1 p.partner.sync ++
  leBytes 1 (packBits [laneUp s 0, laneUp s 1, (laneOf s 0).calOk, (laneOf s 1).calOk]) ++
  leBytes 2 (packBits [p.enable, p.seizing, p.quiet, p.absent, p.yielded, p.heard, !testsBad s, p.conflict]) ++
  leBytes 1 (p.sent / 2 % 16) ++ leBytes 1 p.lastFinding ++ zeros 2 ++ leBytes 4 p.switchovers ++ tsBytes p.lastSwitch ++
  leBytes 4 p.mismatches ++ leInt 8 (satOffset p.theta) ++ leInt 8 (satOffset p.delay) ++
  (if isDummy s && following p.sync then boundBytes (some (alignTermAt s.now s)) else zeros 8) ++
  leBytes 4 p.snapshotsApplied ++ leBytes 4 p.snapLate ++ leBytes 4 p.grantDeferred ++ leBytes 4 p.hbMissed ++
  leBytes 2 p.mirrorOpcode ++ leBytes 2 p.mirrorTag ++ leBytes 1 p.mirrorStatus ++ zeros 3 ++
  (List.range s.work.pair.entries.length).flatMap (pairRow s)

def hPairStatus : Handler := fun q s => checked q 0 [] (.done (pairStatusReply s) s)

def execPairStatus (q : Req) (s : State) : Outcome State Fault Refusal := cmdRow 0x0C01 hPairStatus q s

def hPairClaimSet : Handler := fun q s =>
  checked q 4 [inF 0 1 0 6, rsvF 1 3] <|
  let s := updPair (fun p => { p with pref := fld q.params 0 1 }) s
  if s.pair.live then .later (addWait { key := .claimSet, opcode := 0x0C02, req := q } s)
  else .done (leBytes 1 s.pair.force ++ zeros 3) s

def execPairClaimSet (q : Req) (s : State) : Outcome State Fault Refusal := cmdRow 0x0C02 hPairClaimSet q s

def hPairSwitch : Handler := fun q s =>
  checked q 4 [inF 0 1 0 1, rsvF 1 3] <|
  let force := fld q.params 0 1 == 1
  declarerOnly s <|
  refuseIf (!s.pair.heard || (s.pair.partner.sync != 6 && !force)) stBadState 0 <|
  let s := emit (.link none "SWITCH_REQUEST" [BitVec.ofNat 8 (b2n force)]) (updPair (fun p => { p with switchAt := some s.now }) s)
  .later (addWait { key := .pairSwitch, opcode := 0x0C03, req := q } s)

def execPairSwitch (q : Req) (s : State) : Outcome State Fault Refusal := cmdRow 0x0C03 hPairSwitch q s

/-- The enable has not fallen 10 ms after the request (R426). -/
def pairSwitchTimeout (s : State) : State :=
  match s.pair.switchAt with
  | none => s
  | some t =>
    let s := moveTo (t + 10 * msPs) s
    finishWait .pairSwitch stDone 0 ([2#8] ++ zeros 3) (updPair (fun p => { p with switchAt := none }) s)

def execPairSwitchTimeout (s : State) : Outcome State Fault Refusal := .next (whileRunning pairSwitchTimeout { s with out := [] })

def hPairResync : Handler := fun q s =>
  checked q 4 [inF 0 1 0 1, rsvF 1 3] <|
  let verify := fld q.params 0 1 == 1
  let sy := if isDummy s then s.pair.sync == .synced else s.pair.partner.sync == 6
  refuseIf (s.work.pair.mode != 1 || !s.pair.heard || (verify && !sy)) stBadState 0 <|
  if !isDummy s then
    .done [] (if isMirrored q then s else emit (.link none "MIRROR" (leBytes 2 0x0C04 ++ leBytes 2 q.tag.toNat ++ leBytes 2 1 ++ leBytes 1 q.flags.toNat ++ q.params)) s)
  else
    let s := updPair (fun p => { p with stopped := false, lockFails := 0 }) s
    .done [] (if verify then updPair (fun p => { p with sync := .lockstep, lockRun := 0 }) s else enterJoining (nextTick s))

def execPairResync (q : Req) (s : State) : Outcome State Fault Refusal := cmdRow 0x0C04 hPairResync q s

def testRow (s : State) (k : Nat) : Bytes :=
  let t := nth s.pair.tests k
  leBytes 1 k ++ leBytes 1 (if testRole k s then t.result else 2) ++ leBytes 2 t.detail ++ leBytes 4 t.failures ++ leBytes 8 t.lastRun

def hPairSelftestReport : Handler := fun q s => checked q 0 [] (.done ((List.range 7).flatMap (testRow s)) s)

def execPairSelftestReport (q : Req) (s : State) : Outcome State Fault Refusal := cmdRow 0x0C05 hPairSelftestReport q s

/-! ### The commit (R407, R423) -/

/-- The lanes and the monitor of PARTNER start with pair mode (R396, R399, R407). -/
def pairStart (s : State) : State :=
  let s := updPair (fun p => { p with
    sync := .alone, heard := false, conflict := false, partner := {}, stopped := false, lockFails := 0, hbNext := s.now, captured := none
    boundary := s.now, appliedAt := s.now, applied := none, ackGrants := [], sentGrants := [], grantOrder := []
    lanes := p.lanes.zipIdx.map fun (l, n) => if laneOn s.work.pair n then { l with state := .calibrating, got := none, sent := [] } else { l with state := .disabled } }) s
  let s := if isDummy s then ownChannels s else s
  updRef 93 (fun r => if r.state == .disabled then { r with state := .failed, cause := setBit 0 cActivity } else r) s

/-- Pair mode ends: the link is off, and nothing of the Dummy stays (R407). -/
def pairStop (s : State) : State :=
  let s := releaseChannels s
  let s := updPair (fun p => { p with
    sync := .single, heard := false, seizing := false, conflict := false, mirrors := [], partner := {}, applied := none, captured := none
    lanes := p.lanes.map fun l => { l with state := .disabled, got := none, sent := [] } }) s
  let s := if (refCfg s 93).enable then s else updRef 93 (fun r => { r with state := .disabled, cause := 0, timer := none }) s
  evalAll s

/-- A lane after a commit in pair mode (R396, R423). -/
def relane (c : PairCfg) (x : LaneRun × Nat) : LaneRun :=
  if laneOn c x.2 then (if x.1.state == .disabled then { x.1 with state := .calibrating } else x.1)
  else { x.1 with state := .disabled, got := none }

/-- A commit of PAIR_CONFIGURE (R407, R411, R423). -/
def pairCommit (old : PairCfg) (s : State) : State :=
  let new := s.work.pair
  if new = old then s
  else
    let s := if new.entries == old.entries then s
      else updPair (fun p => { p with rows := new.entries.map fun _ => {} }) s
    if old.mode = 0 ∧ new.mode = 1 then pairStart s
    else if old.mode = 1 ∧ new.mode = 0 then pairStop s
    else
      let s := updPair (fun p => { p with lanes := p.lanes.zipIdx.map (relane new) }) s
      if new.mode = 1 ∧ isDummy s ∧ new.entries ≠ old.entries then ownChannels (releaseChannels s) else s

end Sys2Proof.Machine
end

