-- ==== Sys2Proof/Machine/Score.lean ====
section
/-! DEFINITION. The meanings of the hand boundary (R27) and of the Scorecard's rows (chapter 17). -/
namespace Sys2Proof.Machine
open Sys2Proof Host

/-! ### The hand boundary (R27, R29, R534) -/

/-- NANOSECONDS passes a multiple of 1,000,000 on the present tick, which is no step tick, and the boundary has not been taken (R27, R28). -/
def boundaryDue (s : State) : Bool :=
  let n := s.time.counter.total
  decide (n ≥ msUnits ∧ n % msUnits < nextInc s.time) && s.time.lastStepTick != some (s.now / tickPs) && s.hand.lastTick != some (s.now / tickPs)

/-- Time moves on to the next hand boundary (R27). -/
def toBoundary (s : State) : State :=
  if boundaryDue s then s else moveToCounter ((s.time.counter.total / msUnits + 1) * msUnits) s

/-- A hand boundary: samples are taken, the hand closes, the snapshot is captured. -/
def handBoundary (temp rootPhase : Int) (s : State) : State :=
  if !running s then s
  else
    let s := toBoundary s
    let s := { s with boot := { s.boot with tempMax := temp }, hand := { s.hand with lastTick := some (s.now / tickPs) } }
    capture (closeHand (handSamples temp rootPhase s))

def execHandBoundary (temp rootPhase : Int) (s : State) : Outcome State Fault Refusal := .next (handBoundary temp rootPhase { s with out := [] })

/-! ### Commits (R536 to R539) -/

/-- OP_TIME reaches a multiple of 1,024 (R536). -/
def hourlyCommit (s : State) : State :=
  if !running s then s
  else if hourDue s then hourCommit s
  else hourCommit (moveTo (s.now + (hourPs - s.score.opPs % hourPs)) s)

def execHourlyCommit (s : State) : Outcome State Fault Refusal := .next (hourlyCommit { s with out := [] })

def execPageWritten (t : Nat) (s : State) : Outcome State Fault Refusal := .next (whileRunning pageWritten (begin_ t s))

def execPageWriteTimeout (t : Nat) (readback : Bool) (s : State) : Outcome State Fault Refusal := .next (whileRunning (pageFailed readback) (begin_ t s))

def execDailyCommit (t : Nat) (s : State) : Outcome State Fault Refusal := .next (whileRunning dayCommit (begin_ t s))

def hRecCommitNow : Handler := fun q s =>
  checked q 0 [] <|
  refuseIf (s.score.writing.isSome || !s.score.waiting.isEmpty || !scoreOn s) stBadState 0 <|
  let w : Wait := { key := .recCommit, opcode := 0x0F02, req := q }
  if hourDue s then .later (hourCommit (addWait w s))
  else
    refuseIf (s.score.credits == 0) stResource 0 <|
    .later (commitPage true (updScore (fun x => { x with credits := x.credits - 1 }) (addWait w s)))

def execRecCommitNow (q : Req) (s : State) : Outcome State Fault Refusal := cmdRow 0x0F02 hRecCommitNow q s

/-! ### REC_CONFIGURE and REC_READ (R546, R547) -/

def hRecConfigure : Handler := fun q s =>
  let p := q.params
  checked q 4 [inF 0 1 0 1, inF 1 1 1 255, inF 2 2 1 3600] <|
  writes (fun c => { c with rec_ := { enable := fld p 0 1 == 1, occLimit := fld p 1 1, repeatSeconds := fld p 2 2 } }) s

def execRecConfigure (q : Req) (s : State) : Outcome State Fault Refusal := cmdRow 0x0F00 hRecConfigure q s

/-- The valid page of a ring with a SEQ, or the newest (R547). -/
def pageBySeq (l : List (Nat × Page)) (seq : Nat) : Option Page :=
  (newestPage (if seq = 0xFFFFFFFF then l else l.filter fun e => e.2.seq == seq)).map (·.2)

/-- The header and the records asked for (R547). -/
def pageReply (p : Page) (crc max first : Nat) : Bytes := headerBytes p crc ++ ((p.records.drop first).take max).flatMap recBytes

/-- The fields of REC_READ (R547). -/
def recReadFields (p : Bytes) : List Fld := [inF 0 1 0 2, inF 1 1 1 16, anyF 2 2, F 4 4 (fun v => fld p 0 1 != 0 || v == 0)]

def hRecRead : Handler := fun q s =>
  let area := fld q.params 0 1
  let max := fld q.params 1 1
  let first := fld q.params 2 2
  let seq := fld q.params 4 4
  checked q 8 (recReadFields q.params) <|
  if area = 0 then .done (pageReply (livePage false s) 0 max first) s
  else match pageBySeq (if area = 1 then s.flash.hourly else s.flash.daily) seq with
  | some p => .done (pageReply p (pageCrc p s.score.kind) max first) s
  | none => .refuse stBadState 0

def execRecRead (q : Req) (s : State) : Outcome State Fault Refusal := cmdRow 0x0F01 hRecRead q s

/-! ### PERF_READ, PERF_FILTER_SET, PERF_WINDOW_SET (R549 to R551) -/

/-- One entry: the counter, and EXISTS (R549). -/
def perfEntry (s : State) (k n : Nat) : Bytes := leBytes 8 (if perfExists n then 2 ^ 63 + perfValue s k n else 0)

def hPerfRead : Handler := fun q s =>
  let start := fld q.params 0 2
  let n := fld q.params 2 2
  checked q 4 [anyF 0 2, inF 2 2 1 128] <|
  .done (leBytes 2 start ++ leBytes 2 n ++ tsBytes (curTs s) ++ (List.range n).flatMap fun k => perfEntry s k (start + k))
    { s with free := s.free + n }

def execPerfRead (q : Req) (s : State) : Outcome State Fault Refusal := cmdRow 0x0F10 hPerfRead q s

def filterFields (p : Bytes) : List Fld :=
  let t := fld p 1 1
  let low := fld p 16 8
  let addr := decide (t < 5)
  let frame := decide (5 ≤ t ∧ t ≤ 8)
  let priv := t == 0 || t == 1 || t == 9
  [inF 0 1 0 31, inF 1 1 0 9, inF 2 1 0 1, whenF priv 3 1 0 7, whenF frame 4 1 0 15, rsvF 5 1, whenF frame 6 2 0 65535,
   whenF (addr || t == 9) 8 4 0 (2 ^ 23 - 1), rsvF 12 4, whenF addr 16 8 0 (2 ^ 64 - 1),
   F 24 8 (fun v => if addr then decide (low ≤ v) else v == 0)]

def hPerfFilterSet : Handler := fun q s =>
  let p := q.params
  checked q 32 (filterFields p) <|
  writes (fun c => { c with filters := upd c.filters (fld p 0 1) fun f =>
    { eventType := fld p 1 1, bytes := fld p 2 1 == 1, priv := fld p 3 1, suits := fld p 4 1, ports := fld p 6 2, masters := fld p 8 4
      addrLow := fld p 16 8, addrHigh := fld p 24 8, loads := f.loads + 1 } }) s

def execPerfFilterSet (q : Req) (s : State) : Outcome State Fault Refusal := cmdRow 0x0F11 hPerfFilterSet q s

def hPerfWindowSet : Handler := fun q s =>
  let p := q.params
  let port := fld p 0 1
  checked q 4 [F 0 1 (fun v => decide (v < 16) || v == 0xFF), inF 1 1 0 6, inF 2 1 0 6, rsvF 3 1] <|
  writes (fun c => { c with windows := c.windows.zipIdx.map fun (w, n) =>
    if port = 0xFF ∨ port = n then { w0 := fld p 1 1, w1 := fld p 2 1 } else w }) s

def execPerfWindowSet (q : Req) (s : State) : Outcome State Fault Refusal := cmdRow 0x0F12 hPerfWindowSet q s

end Sys2Proof.Machine
end

