-- ==== Sys2Proof/Machine/Commit.lean ====
section
/-! DEFINITION. SYS_CONFIG_COMMIT: the conditions of every chapter, and what each part does when the shadow set becomes the
working set (R21, R522). -/
namespace Sys2Proof.Machine
open Sys2Proof

/-! ### Conditions (R71, R165, R168, R473, R482, R522, R525) -/

/-- BUF_SIZE of a receive ring (R525). -/
def bufSize (c : RingCfg) : Nat := 256 * 2 ^ c.bufCode

/-- Every source of every slate fits its domain (R71). -/
def slatesFit (c : Cfg) : Bool := (List.range 4).all fun d => (nth c.sels d).slate.all fun e => classFits c d e.ord

/-- Some member contributes to ensemble time (R165). -/
def ensembleLeft (c : Cfg) : Bool := (List.range 8).any fun k => (nth c.meldSlots k).ensemble && (k == 0 || (nth c.meldSlots k).sourceId != 0)

/-- The reset values of the per-source bound settings (R168). -/
def boundSrcReset (o : Nat) : BoundSrcCfg := if kindOf o = .ptp then { halfPath := true } else {}

/-- Only TIME and PHASE sources have per-source bound settings (R168). -/
def boundSrcFit (c : Cfg) : Bool := (List.range 98).all fun o => nth c.boundSrc o == boundSrcReset o || timeOrPhase c o

/-- Transmit rings with a use name ports that exist (R525). -/
def ringPortsExist (c : Cfg) : Bool :=
  (List.range 96).all fun t => (nth c.rings (96 + t)).use != 1 || portExists c (nth c.rings (96 + t)).port

/-- Bytes of an audio receive buffer (R466, R467). -/
def audBufBytes (c : AudCfg) : Nat := 32 + c.bufFrames * (if c.mode = 4 then 16 else 4 * (onesBelow 16 c.rxMask).length)

/-- Every audio receive buffer fits its ring's BUF_SIZE (R522). -/
def audBuffersFit (c : Cfg) : Bool :=
  (List.range 4).all fun p => match audRxRing (nth c.aud p) with
    | some r => decide (audBufBytes (nth c.aud p) ≤ bufSize (nth c.rings r))
    | none => true

/-- No ring serves two uses (R522). -/
def ringsSingle (c : Cfg) : Bool :=
  (List.range 192).all fun r =>
    let holders := (List.range 4).filter fun p => audTxRing (nth c.aud p) == some r || audRxRing (nth c.aud p) == some r
    decide (holders.length + (if (nth c.rings r).use = 0 then 0 else 1) ≤ 1)

/-- The members of every audio group agree, and a port is in one group (R473, R483). -/
def groupsAgree (c : Cfg) : Bool :=
  (List.range 4).all (fun g => membersAgree c (c.audGroups.getD g 0)) &&
  (List.range 4).all fun p => decide (((List.range 4).filter fun g => bit (c.audGroups.getD g 0) p).length ≤ 1)

/-- A running group keeps its configuration (R480). -/
def runningKept (s : State) (c : Cfg) : Bool :=
  (List.range 4).all fun g => !(audGroup s g).running ||
    (c.audGroups.getD g 0 == s.work.audGroups.getD g 0 && (membersOf s.work g).all fun p => nth c.aud p == audCfg s p)

/-- The first condition that a configuration fails: its STATUS and the opcode of the setting (R522). -/
def commitFails (s : State) (c : Cfg) : Option (Nat × Nat) :=
  if !slatesFit c then some (stBadParam, 0x0310)
  else if !ensembleLeft c then some (stBadParam, 0x0501)
  else if !boundSrcFit c then some (stBadParam, 0x0511)
  else if !ringPortsExist c then some (stBadState, 0x0910)
  else if !ringsSingle c then some (stBadParam, 0x0E00)
  else if !audBuffersFit c then some (stBadParam, 0x0E00)
  else if !groupsAgree c then some (stBadParam, 0x0E01)
  else if !runningKept s c then some (stBadState, 0x0E00)
  else none

/-! ### References and selectors (R79, R82, R97) -/

/-- A source as its monitor starts (R82): ACTIVITY fails until the first event. -/
def freshRef (r : RefRun) (cause : Nat) : RefRun :=
  { state := .failed, cause, lastCause := r.lastCause, events := r.events, samples := r.samples, healthOk := r.healthOk, rank := r.rank }

/-- The settings of a source whose change starts it over (R82). -/
def restarts (a b : RefCfg) : Bool :=
  a.mode != b.mode || a.edge != b.edge || a.freqNum != b.freqNum || a.freqDen != b.freqDen || a.divider != b.divider

/-- One source after a commit (R79, R82). PARTNER is monitored in pair mode too (R399). -/
def refCommit (old : Cfg) (o : Nat) (s : State) : State :=
  let a := nth old.refs o
  let b := refCfg s o
  let r := refOf s o
  let on := b.enable || (o == partnerOrd && s.work.pair.mode == 1)
  if !on then
    if r.state == .disabled then s
    else staleMember o 1 <| updRef o (fun r => { r with
      state := .disabled, cause := 0, soft := false, timer := none, finding := none, expected := none, misses := 0 }) s
  else if r.state == .disabled then
    updRef o (fun r => { freshRef r (putBit (setBit 0 cActivity) cHealth (healthFails s o)) with claimed := b.claimed }) s
  else
    let s := if restarts a b then updRef o (fun r => freshRef r (setBit r.cause cConfig)) s else s
    let s := if kindOf o == .refin && (restarts a b || a.claimed != b.claimed) then updRef o (fun r => { r with claimed := b.claimed }) s else s
    if (nth old.pols o).freqWindow = (refPol s o).freqWindow then s
    else updRef o (fun r => { r with winStart := s.now, winUpdates := 0, hist := [], marks := [(s.now, s.incSum)] }) s

/-- The position of a source in a slate. -/
def slatePos (l : List SlateEntry) (o : Nat) : Option Nat := l.findIdx? fun e => e.ord == o

/-- A selector's candidates follow their sources into the new slate; a pick whose source is gone is discarded (R97). -/
def selCommit (old : Cfg) (d : Nat) (s : State) : State :=
  let a := (nth old.sels d).slate
  let b := (nth s.work.sels d).slate
  if a == b then s
  else { s with sels := upd s.sels d fun r =>
    let pick := r.pick.bind fun k => slatePos b (nth a k).ord
    { r with
      selected := r.selectedOrd.bind fun o => slatePos b o
      pick := pick
      mode := if r.mode == .manual && pick.isNone then .automatic else r.mode } }

/-! ### The Meld and the holdover model (R114, R116, R117, R147, R164) -/

/-- A member leaves its slot, or the Meld is reset: its states go and MELD_OUTLIER passes (R147). -/
def dropMember (old : Cfg) (k : Nat) (s : State) : State :=
  let was := (nth s.meld.slots k).outlier
  let s := { s with meld := { s.meld with slots := upd s.meld.slots k (fun _ => {}), meas := upd s.meld.meas k (fun _ => none)
                                          cov := covTable fun i j => if i / 3 = k ∨ j / 3 = k then 0 else covAt s.meld.cov i j } }
  match ordOf (nth old.meldSlots k).sourceId with
  | some o => if was then setCheck o cOutlier false s else s
  | none => s

/-- Disabling resets the Meld, enabling starts it, and a slot that takes another source starts over (R147, R164, R165). -/
def meldCommit (old : Cfg) (s : State) : State :=
  let changed := (List.range 8).filter fun k => (nth old.meldSlots k).sourceId != (nth s.work.meldSlots k).sourceId
  let s := changed.foldl (fun s k => dropMember old k s) s
  if old.meld.enable && !s.work.meld.enable then
    let s := (List.range 8).foldl (fun s k => dropMember old k s) s
    let s := restartLearning { s with meld := {} }
    { s with hold := { s.hold with learnSince := none } }
  else if !old.meld.enable && s.work.meld.enable then
    { s with
      meld := { lastUpdatePs := s.now, cov := seedCov (nth s.work.meldSlots 0), slots := upd (List.replicate 8 {}) 0 (fun m => { m with initialised := true }) }
      hold := { s.hold with learnSince := if (tdpll s).state == .locked then some s.now else none } }
  else s

/-- The floors of the effective values, raised when the growth that runs is kept over the commit (R114). -/
def raiseFloors (keep : Bool) (floors : Nat × Nat × Nat) (s : State) : State :=
  if keep then { s with hold := { s.hold with
    aFloor := max s.hold.aFloor floors.1, dFloor := max s.hold.dFloor floors.2.1, qFloor := max s.hold.qFloor floors.2.2 } }
  else s

/-- The steering period starts, goes on or ends with its settings (R126). -/
def commitSteer (a b : HoldCfg) (s : State) : State :=
  if b.steerMode = 0 then { s with hold := { s.hold with steerAt := none } }
  else if a.steerMode = 1 ∧ a.steerPeriod = b.steerPeriod then s
  else { s with hold := { s.hold with steerAt := some (s.now + b.steerPeriod * 3600 * secPs) } }

/-- Learning starts again when HOLD_CLOCK changes or RESET_LEARNING asks for it (R117, R133). -/
def commitLearning (a b : HoldCfg) (s : State) : State :=
  if a.holdClock ≠ b.holdClock ∨ b.resetLearning then restartLearning s else s

/-- RESET_LEARNING acts once. -/
def clearReset (c : Cfg) : Cfg := { c with hold := { c.hold with resetLearning := false } }

/-- The same in both sets. -/
def clearResets (s : State) : State := { s with work := clearReset s.work, shadow := clearReset s.shadow }

/-- HOLD_CLOCK has left the Meld during holdover, or during FREE_RUN with a finite bound (R105, R116). -/
def noteLeft (left : Bool) (s : State) : State := if left then { s with hold := { s.hold with leftStands := true } } else s

/-- A committed HOLD_MODEL_SET (R114, R116, R117, R126). `floors` are A, D and Q before the commit. -/
def holdCommit (old : Cfg) (floors : Nat × Nat × Nat) (s : State) : State :=
  let a := old.hold
  let b := s.work.hold
  let t := (tdpll s).state
  let kept := t == .holdover || t == .returning || (t == .freeRun && s.hold.origin.isSome && s.hold.b0.isSome)
  let s := if a == b then s else commitSteer a b (commitLearning a b (raiseFloors kept floors s))
  let s := clearResets s
  noteLeft (originInForce s && (meldSlotOf old a.holdClock).isSome && (meldSlotOf s.work a.holdClock).isNone) s

/-! ### The commit -/

/-- A configuration set without the model's counts of loads: what CONFIG_DIGEST hashes (R438). -/
def digestView (c : Cfg) : Cfg :=
  { c with
    filters := c.filters.map fun f => { f with loads := 0 }
    sas := c.sas.map fun e => (e.1, { e.2 with loads := 0 })
    ntsNext := c.ntsNext.map fun n => { n with loads := 0 }
    symKeys := c.symKeys.map fun e => (e.1, { e.2 with loads := 0 })
    rcpt := { c.rcpt with loads := 0 } }

/-- The shadow set becomes the working set on this tick, and every part takes it (R21, R522). -/
def applyCommit (s : State) : State :=
  let old := s.work
  let floors := (aEff s, dEff s, qEff s)
  let s := { s with work := s.shadow }
  let s := (List.range 98).foldl (fun s o => refCommit old o s) s
  let s := (List.range 4).foldl (fun s d => selCommit old d s) s
  let s := holdCommit old floors (meldCommit old s)
  let s := gnssCommit old.gnss (outCommit old.outs (tdcCommit old.tdc s))
  let s := ntpCommit old (ptpCommit old (svcCommit old (portCommit old s)))
  let s := filterCommit old.filters (audCommit old (pairCommit old.pair s))
  let s := settleBound (evalAll s)
  { s with host := { s.host with
    commitCount := (s.host.commitCount + 1) % 2 ^ 32, lastCommit := curTs s, committed := true
    digest := sha384 (Config.configEncoding (digestView s.work)) } }

/-- The reply of SYS_CONFIG_COMMIT (R522). -/
def commitReply (s : State) (time : Nat) : Bytes := tsBytes time ++ leBytes 4 s.host.commitCount ++ s.host.digest

/-- The check and the commit on one tick (R522). -/
def tryCommit (s : State) : Except (Nat × Nat) State :=
  match commitFails s s.shadow with
  | some e => .error e
  | none => .ok (applyCommit s)

def hSysConfigCommit : Handler := fun q s =>
  let fl := fld q.params 0 1
  checked q 4 [inF 0 1 0 2, rsvF 1 3] <|
  if fl = 2 then
    let s := { s with shadow := s.work }
    .done (commitReply s 0) s
  else if fl = 1 then
    match commitFails s s.shadow with
    | some (st, op) => .refuse st op
    | none => .done (commitReply s 0) s
  else if s.work.pair.mode == 1 && (isMirrored q || q.src == .partner) then
    .later (addWait { key := .mirroredCommit, opcode := 0x0103, req := q }
      (updPair (fun p => { p with commitFrom := p.commitFrom.orElse fun _ => some s.now }) s))
  else
    match tryCommit (nextTick s) with
    | .error (st, op) => .refuse st op
    | .ok t => .done (commitReply t t.host.lastCommit) t

def execSysConfigCommit (q : Req) (s : State) : Host.Outcome State Fault Refusal := cmdRow 0x0103 hSysConfigCommit q s

/-- The commits that wait for a hand boundary are made, in order (R406). -/
def commitWaiting : Nat → State → State
  | 0, s => s
  | n + 1, s =>
    if !waitsFor .mirroredCommit s then s
    else match tryCommit s with
    | .error (st, op) => commitWaiting n (finishWait .mirroredCommit st op [] s)
    | .ok t => commitWaiting n (finishWait .mirroredCommit stDone 0 (commitReply t t.host.lastCommit) t)

/-- Time has passed to an instant, where it lies ahead. -/
def waitUntil (t : Nat) (s : State) : State := if s.now < t then moveTo t s else s

/-- The present tick is a hand boundary. -/
def onHand (s : State) : Bool := decide (s.time.counter.total ≥ msUnits ∧ s.time.counter.total % msUnits < nextInc s.time)

/-- The present tick where it is a hand boundary, else the next boundary. -/
def handFrom (s : State) : State := if onHand s then s else toBoundary s

/-- The first hand boundary that comes at least 100 µs after a mirrored commit executed (R406). -/
def mirroredCommit (s : State) : State :=
  match s.pair.commitFrom with
  | none => s
  | some t =>
    if !running s then s
    else
      let s := handFrom (waitUntil (t + 100000000) s)
      commitWaiting s.host.waits.length (updPair (fun p => { p with commitFrom := none }) s)

def execMirroredCommit (s : State) : Host.Outcome State Fault Refusal := .next (mirroredCommit { s with out := [] })

end Sys2Proof.Machine
end

