-- ==== Sys2Proof/Machine/Rings.lean ====
section
/-! DEFINITION. The rings: enabling, doorbells, fetching, delivery, event entries, interrupts and resets (R503 to R512, R518,
R519). -/
namespace Sys2Proof.Machine
open Host Sys2Proof

/-! ### Ring registers (R503, R504) -/

/-- LOG_SIZE lies in the range of the ring's kind (R503). -/
def logOk (r l : Nat) : Bool := if isCmd r then decide (2 ≤ l ∧ l ≤ 8) else decide (4 ≤ l ∧ l ≤ 15)

/-- A host index implies more outstanding entries than the ring holds (R504, R512). -/
def tooMany (r : Nat) (g : Ring) : Bool :=
  if isEvt r then decide (idxDist g.head g.db > ringSize g)
  else decide (idxDist g.db g.head > ringSize g) || (isTx r && decide (idxDist g.second g.secondDb > 64)) ||
    (isCmd r && decide (idxDist g.second g.secondDb > ringSize g))

/-- The doorbell of what the host consumes: RING_DB of an event ring, TSQ_DB, REPLY_DB. -/
def consumerDb (r : Nat) (g : Ring) : Nat := if isEvt r then g.db else g.secondDb

/-- The cause of a fault at enable, if there is one (R504, R526). -/
def enableFault (r : Nat) (g : Ring) : Option Nat :=
  if !logOk r g.logSize then some 5
  else if consumerDb r g ≠ 0 then some 4
  else if tooMany r g then some 3
  else none

/-- What a ring fetched in an earlier life names no descriptor of the present one. -/
def staleTag (r : Nat) (f : TxFrame) : TxFrame :=
  match f.tag with
  | .host r' a b rep => if r' = r ∧ a < 65536 then { f with tag := .host r' (a + 65536) b rep } else f
  | _ => f

def staleBuf (b : AudBuf) : AudBuf := { b with desc := if b.desc < 65536 then b.desc + 65536 else b.desc }

def staleAud (s : State) (r p : Nat) : AudRun :=
  let a := audOf s p
  if audTxRing (audCfg s p) = some r then { a with queue := a.queue.map staleBuf } else a

def dropStale (r : Nat) (s : State) : State :=
  { s with
    ports := s.ports.map fun p => { p with timed := p.timed.map (staleTag r), untimed := p.untimed.map (staleTag r) }
    aud := { s.aud with ports := (List.range 4).map (staleAud s r) } }

/-- ENABLE goes from 0 to 1: the Carko's indices start from 0, and the ring may fault at once (R504). -/
def ringEnable (r : Nat) (s : State) : State :=
  let s := updRing r (fun g => { g with enable := true, head := 0, second := 0, fetched := 0, ended := [], seq := 0 }) (dropStale r s)
  match enableFault r (ringOf s r) with
  | some c => ringFault r c s
  | none => s

/-- The host stops a ring; FAULT clears, and entries that are due are discarded (R504, R520). -/
def ringDisable (r : Nat) (s : State) : State := updRing r (fun g => { g with enable := false, fault := false, due := [] }) s

/-- A write of RING_CTRL (R503, R504). -/
def ringCtrl (r v : Nat) (s : State) : State :=
  let was := (ringOf s r).enable
  let s := updRing r (fun g => { g with holdoff := v / 2 ^ 20 % 4096, logSize := if was then g.logSize else v / 256 % 16 }) s
  if bit v 0 then (if was then s else ringEnable r s) else ringDisable r s

/-- A doorbell is written: a host index that leaves too many entries outstanding faults the ring (R503, R504). -/
def doorbell (r v : Nat) (second : Bool) (s : State) : State :=
  let s := updRing r (fun g =>
    if second then { g with secondDb := v % 65536 } else { g with db := v % 65536, dbBefore := some (s.now / tickPs, dbThen s g) }) s
  if (ringOf s r).enable && tooMany r (ringOf s r) then ringFault r 3 s else s

/-! ### Command rings (R496, R505) -/

/-- A command ring has a command that can be fetched (R505). -/
def canFetch (s : State) (c : Nat) : Bool :=
  let g := ringOf s (192 + c)
  g.enable && idxDist g.db g.head != 0 && decide (idxDist g.second g.secondDb < ringSize g)

/-- The command ring whose turn it is (R496). -/
def turnOf (s : State) : Option Nat := ((List.range 32).map fun k => (s.host.nextRing + k) % 32).find? (canFetch s)

/-- A command is fetched from a command ring and reaches the queue (R496, R505). -/
def cmdRingFetch (c ps : Nat) (entry : Bytes) (s : State) : State :=
  let s := begin_ ps s
  if !dmaOn s || !accepting s || decide (s.host.queue.length ≥ 256) || turnOf s != some c then s
  else
    let (op, q) := packetOf (.ring c) entry s.now
    let s := updRing (192 + c) (fun g => { g with head := (g.head + 1) % 65536 }) s
    submit op q { s with host := { s.host with nextRing := (c + 1) % 32 } }

def execCmdRingFetch (c t : Nat) (entry : Bytes) (s : State) : Outcome State Fault Refusal := .next (if running s then cmdRingFetch c t entry s else begin_ t s)

/-- Statistics export gives way after 10 ms in the queue, every other command after 100 ms (R497, R543). -/
def queueLimit (opcode : Nat) : Nat := if opcode = 0x0F01 ∨ opcode = 0x0F10 then 10 * msPs else 100 * msPs

/-- A retry hint in ms, which the spec leaves to the Dealer's prediction (R495, R497). -/
def retryHint (s : State) : Nat := freeVal s % 65535 + 1

/-- The command at place `k` of the queue has waited too long (R497). -/
def queueTimeout (k : Nat) (s : State) : State :=
  match s.host.queue[k]? with
  | none => s
  | some e =>
    if isUrgent e.req || !accepting s then s
    else
      let s := moveTo (e.arrivedPs + queueLimit e.opcode) s
      let hint := retryHint s
      acceptGo (reply e.opcode e.req stBusyRetry hint [] (useFree { s with host := { s.host with queue := s.host.queue.erase e } }))

def execQueueTimeout (k : Nat) (s : State) : Outcome State Fault Refusal := .next (whileRunning (queueTimeout k) { s with out := [] })

/-! ### Receive rings (R507, R508) -/

/-- Bytes 8 to 31 of the k-th of n descriptors of an item (R507). -/
def rxDesc (x : RxItem) (size n k : Nat) : Bytes :=
  let first := k == 0
  leBytes 4 (min size (x.data.length - k * size)) ++ leBytes 4 (if first then x.data.length else 0) ++
  tsBytes (if first && x.code != 0x10 then x.stamp else 0) ++ leBytes 1 (packBits [true, first, k + 1 == n, x.uncal]) ++
  leBytes 1 x.code ++ leBytes 1 x.port ++ leBytes 1 (if first then n else 0)

/-- The buffer of a Clubs frame is released (R299). -/
def releaseItem (x : RxItem) (s : State) : State :=
  if x.code = 0x10 then s
  else freeCells .clubs (cellsOf (x.data.length + 4)) (subOccupancy x.port x.prio (x.data.length + 4) s)

/-- A frame is dropped whole for want of descriptors; an audio buffer that is lost is no ring-short drop (R508). -/
def ringShort (r : Nat) (x : RxItem) (s : State) : State :=
  if x.code = 0x10 then s
  else raise 0 5 (bump 35 (updRing r (fun g => { g with ringShort := add48 g.ringShort 1 }) (releaseItem x s)))

/-- Descriptors of an item: one for an audio buffer (R508). -/
def descsFor (x : RxItem) (size : Nat) : Nat := if x.code = 0x10 then 1 else ceilDiv x.data.length size

/-- The head of a receive ring's delivery queue: its descriptors are reserved, by the index before this tick's writes but for an
audio buffer, which takes one freed on the tick (R480, R520), and written from last to first, or it is dropped (R508). -/
def rxDeliver (r ps : Nat) (s : State) : State :=
  let s := begin_ ps s
  match (ringOf s r).queue with
  | [] => s
  | x :: rest =>
    if !running s || ((ringOf s r).enable && !dmaOn s) then s
    else
      let s := updRing r (fun g => { g with queue := rest }) s
      let g := ringOf s r
      let size := if x.code = 0x10 then max 1 x.data.length else bufSize (nth s.work.rings r)
      let n := descsFor x size
      let db := if x.code = 0x10 then g.db else dbThen s g
      if !g.enable || idxDist db g.head < n then ringShort r x s
      else
        let s := (List.range n).reverse.foldl (fun s k =>
          emit (.rxWrite r ((g.head + k) % 65536) (rxDesc x size n k) ((x.data.drop (k * size)).take size)) s) s
        ringEvent r (updRing r (fun g => { g with head := (g.head + n) % 65536, items := add48 g.items 1, bytes := add48 g.bytes x.data.length })
          (releaseItem x s))

def execRxRingDeliver (r t : Nat) (s : State) : Outcome State Fault Refusal := .next (rxDeliver r t s)

/-! ### Transmit rings (R509 to R512) -/

/-- A transmit descriptor (R509). -/
def dFlags (d : Bytes) : Nat := fld d 12 1

/-- The chain of descriptors from the next to be fetched: broken, incomplete, or whole (R504, R509). -/
inductive Chain where
  | broken
  | partly
  | whole
  deriving DecidableEq, Repr

def chainRest : List Bytes → Chain
  | [] => .partly
  | d :: ds =>
    if bit (dFlags d) 0 || fld d 8 4 == 0 then .broken
    else if bit (dFlags d) 1 then (if ds.isEmpty then .whole else .broken)
    else chainRest ds

def chainOf : List Bytes → Chain
  | [] => .partly
  | d :: ds =>
    if !bit (dFlags d) 0 || fld d 8 4 == 0 then .broken
    else if bit (dFlags d) 1 then (if ds.isEmpty then .whole else .broken)
    else chainRest ds

/-- Bytes of the time field of a TS_FORMAT (R261). -/
def timeFieldLen (fmt : Nat) : Nat := ([10, 8, 8, 12] : List Nat).getD fmt 0

/-- A frame is rejected (R509). -/
def txRejected (maxFrame len : Nat) (d : Bytes) : Bool :=
  let f := dFlags d
  decide (len > maxFrame - 4) || (bit f 3 && (!bit f 2 || bit f 4)) ||
  (bit f 4 && (decide (fld d 14 2 + timeFieldLen (f / 64) > len) || (f / 64 == 0 && decide (fld d 30 2 + 8 > len)) ||
    (fld d 28 2 != 0 && decide (fld d 28 2 + 2 > len))))

/-- Host frames can take `n` more cells, from RES_TX or the shared pool (R298, R509). -/
def txRoom (s : State) (n : Nat) : Bool :=
  decide ((s.svc.txCells + n - s.work.svc.resTx) - (s.svc.txCells - s.work.svc.resTx) ≤ sharedFree s)

/-- The instant at the ball of a launch time, at the present rate, on the port's grid (R255, R262, R510). -/
def launchPs (s : State) (p ts : Nat) : Nat :=
  let d : Int := ((ts : Int) - (portCfg s p).txDelay) * (2 ^ 32 : Nat) - s.time.counter.total
  let at_ : Int := (s.now / tickPs * tickPs : Nat) + d * (tickPs : Int) / (max 1 (nextInc s.time) : Nat)
  gridUp s p at_.toNat

/-- The frame that a FIRST descriptor describes (R509, R510). The reference time of PTP_CORR is a free value. -/
def hostFrame (s : State) (r n cells : Nat) (d data : Bytes) : TxFrame :=
  let c := nth s.work.rings r
  let f := dFlags d
  let first := (ringOf s r).fetched
  let launch := if bit f 2 then some (launchPs s c.port (tsOfField (fld d 16 12))) else none
  { bytes := data, prio := c.priority, stamp := match launch with | some l => stampOfLaunch s c.port l | none => 0
    launch, launchForm := bit f 3
    insert := if bit f 4 then some { fmt := f / 64, tsOffset := fld d 14 2, csumOffset := fld d 28 2, corrOffset := fld d 30 2, refTime := freeVal s }
      else none
    tag := .host r first ((first + n + 65535) % 65536) (bit f 5), cells }

/-- A transmit frame is fetched, rejected, or waits (R504, R509). -/
def txFetch (r ps : Nat) (descs : List Bytes) (data : Bytes) (s : State) : State :=
  let s := begin_ ps s
  let g := ringOf s r
  let c := nth s.work.rings r
  if !dmaOn s || !isTx r || !g.enable || c.use != 1 || decide (idxDist g.db g.fetched < descs.length) then s
  else match descs, chainOf descs with
  | _, .broken => ringFault r 2 s
  | d :: _, .whole =>
    if data.length ≠ (descs.map fun x => fld x 8 4).foldl (· + ·) 0 then s
    else
      let n := descs.length
      let cells := cellsOf (data.length + 4)
      let took := updRing r (fun g => { g with fetched := (g.fetched + n) % 65536, bytes := add48 g.bytes data.length }) s
      if txRejected (portCfg s c.port).maxFrame data.length d then
        hostDone c.port r g.fetched ((g.fetched + n + 65535) % 65536) (bit (dFlags d) 5) false 5 0 took
      else if !txRoom s cells then s
      else
        let f := hostFrame s r n cells d data
        let s := if bit (dFlags d) 4 then useFree took else took
        enqueue c.port f (shedCheck { s with svc := { s.svc with txCells := s.svc.txCells + cells } })
  | _, _ => s

def execTxFetch (r t : Nat) (descs : List Bytes) (data : Bytes) (s : State) : Outcome State Fault Refusal := .next (if running s then txFetch r t descs data s else begin_ t s)

/-! ### Event rings (R506) -/

/-- An event entry (R506). -/
def eventBytes (g : Ring) (e : EventDue) : Bytes :=
  leBytes 4 g.seq ++ leBytes 1 e.cls ++ leBytes 1 e.bitNo ++ leBytes 1 (b2n g.lostBefore) ++ zeros 1 ++ tsBytes e.time ++
  leBytes 4 e.epoch ++ leBytes 2 e.index ++ zeros 6

/-- The Dealer writes the oldest entry that is due on a ring, or discards it when the ring is full (R506). -/
def eventWrite (r ps : Nat) (s : State) : State :=
  let s := begin_ ps s
  let g := ringOf s r
  if !dmaOn s || !g.enable then s
  else match g.due with
  | [] => s
  | e :: rest =>
    let s := updRing r (fun g => { g with due := rest }) s
    if idxDist g.head g.db ≥ ringSize g then
      raise 0 7 (bump 37 (updRing r (fun g => { g with eventsLost := add48 g.eventsLost 1, lostBefore := true }) s))
    else
      ringEvent r (updRing r (fun g => { g with
        head := (g.head + 1) % 65536, seq := (g.seq + 1) % 2 ^ 32, items := add48 g.items 1, lostBefore := false })
        (emit (.eventEntry r g.head (eventBytes g e)) s))

def execEventEntryWrite (r t : Nat) (s : State) : Outcome State Fault Refusal := .next (if running s then eventWrite r t s else begin_ t s)

/-! ### Faults, holdoff and resets (R504, R518, R519) -/

/-- A DMA transfer of a ring fails; a receive frame in progress is lost as ring-short (R504). -/
def dmaError (r ps : Nat) (s : State) : State :=
  let s := begin_ ps s
  if !dmaOn s || !(ringOf s r).enable then s
  else
    let s := ringFault r 1 s
    match (ringOf s r).queue with
    | x :: rest => if isRx r then ringShort r x (updRing r (fun g => { g with queue := rest }) s) else s
    | [] => s

def execDmaCompletionError (r t : Nat) (s : State) : Outcome State Fault Refusal := .next (if running s then dmaError r t s else begin_ t s)

/-- The holdoff of a ring's interrupt ends (R518). -/
def holdoffEnd (r : Nat) (s : State) : State :=
  match (ringOf s r).holdUntil with
  | none => s
  | some d =>
    let s := moveTo d s
    let (k, i) := secondOf r
    setSecond k i (updRing r (fun g => { g with holdUntil := none }) s)

def execRingIrqHoldoff (r : Nat) (s : State) : Outcome State Fault Refusal := .next (whileRunning (holdoffEnd r) { s with out := [] })

/-- A ring command that has not started is discarded: its slot says that it was not executed (R519). -/
def discardEntry (s : State) (e : QEntry) : State :=
  updSlot (slotOf e.req) (fun _ => slotResult e.opcode e.req stBusyRetry 1 []) s

def fromRing (q : Req) : Bool := match q.src with | .ring _ => true | _ => false

/-- A function-level reset, a hot reset or a link-down (R519); `down` when the link itself goes down. -/
def pcieReset (down : Bool) (s : State) : State :=
  let gone := s.host.queue.filter fun e => fromRing e.req
  let s := gone.foldl discardEntry s
  { s with
    host := { s.host with
      pcie := {}, msixEn := false, msixPend := false, vecMask := true, funcMask := false, busMaster := false
      linkWidth := if down then 0 else s.host.linkWidth, linkGen := if down then 0 else s.host.linkGen
      rings := s.host.rings.map fun g => { g with enable := false, db := 0, secondDb := 0, dbBefore := none, due := [] }
      queue := s.host.queue.filter fun e => !fromRing e.req
      waits := s.host.waits.map fun w => if fromRing w.req then { w with muted := true } else w }
    boot := { s.boot with perst := s.boot.perst && !down, training := s.boot.training && !down } }

/-- PCIE_PERST_N low or a link-down takes the link, a function-level or hot reset leaves it (R519, R557). -/
def execPcieReset (t : Nat) (perst : Bool) (s : State) : Outcome State Fault Refusal := .next (acceptGo (pcieReset perst (begin_ t s)))

/-- Link training starts: power is good, the Base PLL is locked and PCIE_PERST_N is high (R557). -/
def linkTraining (ps : Nat) (s : State) : State :=
  let s := begin_ ps s
  if running s && s.boot.powerGood then { s with boot := { s.boot with training := true, perst := true } } else s

def execLinkTrainingStart (t : Nat) (s : State) : Outcome State Fault Refusal := .next (linkTraining t s)

/-- The link comes up at a width and a generation, and the host enables DMA (R486, R521, R557). -/
def linkUp (ps width gen : Nat) (s : State) : State :=
  let s := begin_ ps s
  if running s && s.boot.training && ([1, 2, 4] : List Nat).contains width && decide (1 ≤ gen ∧ gen ≤ 4) then
    { s with host := { s.host with linkWidth := width, linkGen := gen, busMaster := true } }
  else s

def execPcieLinkUp (t width gen : Nat) (s : State) : Outcome State Fault Refusal := .next (linkUp t width gen s)

/-! ### RING_CONFIGURE and RING_STATUS (R525, R526) -/

/-- The fields that a ring's kind uses (R525). -/
def ringFields (r : Nat) : List Fld :=
  [F 0 2 (fun v => decide (v < 192 ∨ (224 ≤ v ∧ v < 256))), F 2 1 (fun v => v == 0 || v == (if isEvt r then 2 else 1)), rsvF 3 1,
   whenF (isRx r) 4 1 0 12, whenF (isTx r) 5 1 0 7, whenF (isTx r) 6 1 0 15, whenF (isRx r) 7 1 0 255, whenF (isRx r) 8 2 0 65535,
   whenF (isEvt r) 10 2 0 65535, rsvF 12 4]

def ringCfgOf (p : Bytes) : RingCfg :=
  { use := fld p 2 1, bufCode := fld p 4 1, priority := fld p 5 1, port := fld p 6 1, codeMask := fld p 7 1, portMask := fld p 8 2
    classMask := fld p 10 2 }

def hRingConfigure : Handler := fun q s =>
  let p := q.params
  let r := fld p 0 2
  checked q 16 (ringFields r) <|
  refuseIf (audioHolder s.shadow r).isSome stBadState 0 <|
  writes (fun c => { c with rings := c.rings.set r (ringCfgOf p) }) s

def execRingConfigure (q : Req) (s : State) : Outcome State Fault Refusal := cmdRow 0x0910 hRingConfigure q s

/-- USE of a ring (R526). -/
def ringUse (s : State) (r : Nat) : Nat :=
  if isCmd r then 4 else if (audioHolder s.work r).isSome then 3 else (nth s.work.rings r).use

def ringStatusReply (s : State) (r : Nat) : Bytes :=
  let g := ringOf s r
  leBytes 2 r ++ leBytes 1 (ringUse s r) ++ leBytes 1 (packBits [g.enable, g.fault]) ++ leBytes 2 g.head ++ leBytes 2 g.db ++
  leBytes 2 g.second ++ leBytes 2 g.secondDb ++ leBytes 1 g.faultCause ++ zeros 3 ++ leBytes 8 g.items ++ leBytes 8 g.bytes ++
  leBytes 8 g.ringShort ++ leBytes 8 g.tsqOverflows ++ leBytes 8 g.lateDrops ++ leBytes 8 g.eventsLost ++
  leBytes 8 (if isRx r then s.host.noRingDrops else 0)

def hRingStatus : Handler := fun q s => checked q 4 [inF 0 2 0 255, rsvF 2 2] <| .done (ringStatusReply s (fld q.params 0 2)) s

def execRingStatus (q : Req) (s : State) : Outcome State Fault Refusal := cmdRow 0x0911 hRingStatus q s

end Sys2Proof.Machine
end

