-- ==== Sys2Proof/Machine/BootOps.lean ====
section
/-! DEFINITION. Device reset, boot images, and their loading from the host (R552 to R562). -/
namespace Sys2Proof.Machine
open Sys2Proof

def updBoot (f : BootPart → BootPart) (s : State) : State := { s with boot := f s.boot }

/-! ### Device reset (R554, R555) -/

/-- Everything returns to its reset value but the fuses, the fault record and the flash; the claim is dropped first, and the pins take
their stand of reset. `cause` is RESET_CAUSE (R555, R565, R573). The hash key of the rate table is drawn anew (R363). -/
def deviceReset (cause : Nat) (s : State) : State :=
  let s := dropClaim s
  setPads { State.reset with
    pending := s.pending, now := s.now, out := s.out, free := s.free + 1, ntp := { hashKey := freeVal s }
    flash := (tearPage s).flash
    fuse := s.fuse
    attest := { lc := lcOfRows s.fuse.rows }
    boot := {
      vddio := s.boot.vddio, powerGood := s.boot.powerGood, resetLow := s.boot.resetLow, thermalHold := s.boot.thermalHold
      perst := s.boot.perst, faults := s.boot.faults, faultOverflow := s.boot.faultOverflow, resetCause := cause } }

/-- A self-fault that ends in device reset. -/
def faultReset (fault detail cause : Nat) (s : State) : State := deviceReset cause (selfFault fault detail s)

/-! ### Boot images (R437, R560) -/

/-- The largest size of an image by ID. -/
def imageLimit (id : Nat) : Nat := ([0, 61440, 1179648, 524288, 262144, 65536] : List Nat).getD id 0

/-- The entries of a directory, as ID, OFFSET, LENGTH and CRC. -/
def dirEntries (c : Bytes) : List (Nat × Nat × Nat × Nat) :=
  (List.range (fld c 6 2)).map fun k => (fld c (16 + 16 * k) 1, fld c (20 + 16 * k) 4, fld c (24 + 16 * k) 4, fld c (28 + 16 * k) 4)

/-- The images of a copy, by rising ID. -/
def copyImages (c : Bytes) : List (Nat × Bytes) := (dirEntries c).foldr (fun e l => putKey e.1 (slice c e.2.1 e.2.2.1) l) []

/-- A copy is valid (R560). -/
def copyValid (c : Bytes) : Bool :=
  c.take 4 == ascii "ISBT" && decide (3 ≤ fld c 6 2 ∧ fld c 6 2 ≤ 5) && crc32 (slice c 0 4092) == fld c 4092 4 &&
  (dirEntries c).all (fun e =>
    decide (1 ≤ e.1 ∧ e.1 ≤ 5) && decide (e.2.2.1 ≤ imageLimit e.1) && decide (e.2.1 + e.2.2.1 ≤ 0x200000) &&
    crc32 (slice c e.2.1 e.2.2.1) == e.2.2.2) &&
  ([1, 2, 3] : List Nat).all fun id => (dirEntries c).any fun e => e.1 == id

/-- MR1 to MR4 take the images as loaded; an absent image extends nothing (R437). -/
def measureImages (l : List (Nat × Bytes)) (s : State) : State :=
  ([1, 2, 3, 4] : List Nat).foldl (fun s id => match getKey id l with | some b => extend id (sha384 b) s | none => s) s

/-- Boot goes on with images: they are measured, and the keys are derived next (R559 to R561). -/
def takeImages (l : List (Nat × Bytes)) (s : State) : State :=
  updBoot (fun b => { b with images := l, loads := [], stage := 6 }) (measureImages l s)

/-! ### Loading from the host (R561) -/

/-- A load block is in order, with its rules kept. -/
def blockOk (l : List LoadImage) (b : Bytes) : Bool :=
  let id := fld b 0 1
  let n := fld b 4 4
  let have_ := l.find? (fun x => x.id == id)
  decide (1 ≤ id ∧ id ≤ 5) && decide (1 ≤ n ∧ n ≤ 496) && fld b 8 8 == 0 &&
  fld b 1 3 == (match have_ with | some x => x.nextBlock | none => 0) &&
  decide ((match have_ with | some x => x.data.length | none => 0) + n ≤ imageLimit id)

/-- A block's data enter its image. -/
def addBlock (b : Bytes) (l : List LoadImage) : List LoadImage :=
  let id := fld b 0 1
  let d := slice b 16 (fld b 4 4)
  if l.any (fun x => x.id == id) then l.map fun x => if x.id = id then { x with nextBlock := x.nextBlock + 1, data := x.data ++ d } else x
  else l ++ [{ id, nextBlock := 1, data := d }]

/-- Images 1, 2 and 3 are there. -/
def loadComplete (l : List LoadImage) : Bool := ([1, 2, 3] : List Nat).all fun id => l.any fun x => x.id == id

/-- The outcome of a load block, in SUBMIT_STATUS. -/
def loadBlock (i : Iface) (s : State) : State :=
  let b := (bankOf s i).cmdBuf
  let status := fun (v : Nat) (s : State) => updBank i (fun x => { x with submitStatus := BitVec.ofNat 8 v }) s
  if fld b 0 1 = 0xFF then
    if fld b 4 4 = 0 ∧ fld b 8 8 = 0 ∧ loadComplete s.boot.loads then
      status 0 (raise 1 3 (takeImages (s.boot.loads.foldl (fun l x => putKey x.id x.data l) []) (updBoot (fun b => { b with hostBoot := true }) s)))
    else status 0x11 s
  else if blockOk s.boot.loads b then status 0 (updBoot (fun x => { x with loads := addBlock b x.loads }) s)
  else status 0x11 s

end Sys2Proof.Machine
end

