-- ==== Sys2Proof/Machine/Window.lean ====
section
/-! DEFINITION. The register window: reads, writes, and the rows that access registers (R487 to R491, R500 to R502, R513 to R518). -/
namespace Sys2Proof.Machine
open Host Sys2Proof

/-! ### What a register reads as (R490, R491, R502, R516) -/

/-- STRAPS (R491). -/
def strapBits (s : State) : Nat := b2n s.boot.pairId + 2 * s.boot.bootSrc + 8 * b2n s.boot.spiQuad

/-- BOOT_STATE (R491). -/
def bootState (s : State) : Nat := s.boot.stage + 16 * s.attest.lc + 128 * b2n s.boot.cmdReady

/-- RESULT_STATUS of a latched result (R502). -/
def resultWord (x : Slot) : Nat := x.status + 256 * x.readCount + 65536 * x.detail

/-- A register of a ring (R503). -/
def ringReg (g : Ring) : Nat → Nat
  | 0 => g.baseLo.toNat
  | 1 => g.baseHi.toNat
  | 2 => b2n g.enable + 2 * b2n g.fault + 256 * g.logSize + 2 ^ 20 * g.holdoff
  | _ => g.head + 65536 * g.second

/-- An interrupt register (R516 to R518). -/
def irqReg (h : HostPart) (off : Nat) : Nat :=
  if off = 0x2000 then irqSummary h
  else if off = 0x2004 then irqRaw h
  else if off = 0x2008 then b2n h.pinEn + 2 * b2n h.msixEn
  else if 0x2010 ≤ off ∧ off < 0x2090 then
    (if off % 8 = 0 then causeWord h ((off - 0x2010) / 8) else h.enable.getD ((off - 0x2010) / 8) 0).toNat
  else if 0x2100 ≤ off ∧ off < 0x2120 then (h.second.getD ((off - 0x2100) / 4) 0).toNat
  else if 0x2140 ≤ off ∧ off < 0x2160 then (h.secondEn.getD ((off - 0x2140) / 4) 0).toNat
  else 0

/-- A register of the live-time latch, as latched (R60). -/
def latchReg (l : LatchBank) (k : Nat) : Nat :=
  (([l.lo, l.ns, l.secLo, l.secHi, l.boundLo, l.boundHi, l.count] : List Word).getD k 0).toNat

/-- What a word of the register window holds for an interface; a reserved offset reads 0. RESULT_STATUS and TIME_LATCH_LO latch
first, in rows of their own (R60, R490, R500). -/
def regValue (s : State) (i : Iface) (off : Nat) : Nat :=
  let b := bankOf s i
  if off % 4 ≠ 0 then 0
  else if off = 0x0000 then 0x9624A000 + (match i with | .pcie => 0 | .spi => 1)
  else if off = 0x0004 then s.fuse.serial % 2 ^ 32
  else if off = 0x0008 then s.fuse.serial / 2 ^ 32 % 2 ^ 32
  else if off = 0x000C then strapBits s
  else if off = 0x0010 then bootState s
  else if off = 0x0014 then s.boot.dealerVersion
  else if off = 0x0018 then b.scratch.toNat
  else if 0x0100 ≤ off ∧ off < 0x0500 then (ringOf s ((off - 0x0100) / 4)).db
  else if 0x0500 ≤ off ∧ off < 0x0680 then (ringOf s (96 + (off - 0x0500) / 4)).secondDb
  else if 0x0680 ≤ off ∧ off < 0x0700 then (ringOf s (192 + (off - 0x0680) / 4)).secondDb
  else if 0x1000 ≤ off ∧ off < 0x2000 then ringReg (ringOf s ((off - 0x1000) / 16)) (off % 16 / 4)
  else if 0x2000 ≤ off ∧ off < 0x3000 then irqReg s.host off
  else if off = 0x3000 then b.select.toNat
  else if off = 0x3004 then b2n b.go + 256 * b.submitStatus.toNat
  else if off = 0x3010 then resultWord b.result
  else if off = 0x3014 then b.result.opcode + 65536 * b.result.tag
  else if off = 0x3018 then b.result.length + 65536 * b.result.flags + 2 ^ 24 * b.result.source
  else if 0x3100 ≤ off ∧ off < 0x3600 then
    (if (off - 0x3100) / 4 < b.result.length then fld b.result.data (off - 0x3100) 4 else 0)
  else if 0x4000 ≤ off ∧ off < 0x401C then latchReg b.latch ((off - 0x4000) / 4)
  else 0

/-! ### What a write of a word does (R6, R490) -/

/-- The bits of an interrupt word that hardware has set on this very tick (R7, R520). -/
def freshBits (s : State) (word : Nat) : Word :=
  if s.host.setTick = s.now / tickPs then BitVec.ofNat 32 (packBits ((List.range 32).map fun b => s.host.setBits.contains (32 * word + b)))
  else 0

/-- A W1C write: the written bits clear, but those that hardware sets on this tick (R6, R7). -/
def w1c (fresh v old : Word) : Word := old &&& ~~~(v &&& ~~~fresh)

/-- A write of an interrupt register (R513 to R518). -/
def irqWrite (off : Nat) (v : Word) (s : State) : State :=
  let h := s.host
  if off = 0x2008 then { s with host := { h with pinEn := v.getLsbD 0, msixEn := v.getLsbD 1 } }
  else if 0x2010 ≤ off ∧ off < 0x2090 then
    let n := (off - 0x2010) / 8
    if off % 8 = 0 then { s with host := { h with cause := upd h.cause n (w1c (freshBits s n) v) } }
    else { s with host := { h with enable := upd h.enable n fun _ => v &&& BitVec.ofNat 32 (causeBits n + (if n = 0 then 15 else 0)) } }
  else if 0x2100 ≤ off ∧ off < 0x2120 then
    let k := (off - 0x2100) / 4
    { s with host := { h with second := upd h.second k (w1c (freshBits s (16 + k)) v) } }
  else if 0x2140 ≤ off ∧ off < 0x2160 then { s with host := { h with secondEn := upd h.secondEn ((off - 0x2140) / 4) fun _ => v } }
  else s

/-- A write of 1 to GO: a load block in HOST_WAIT, a packet otherwise (R501, R561). -/
def goWrite (i : Iface) (s : State) : State :=
  if s.boot.stage = 5 then loadBlock i s else trySubmit i (updBank i (fun b => { b with go := true, goAgain := none }) s)

/-- Four bytes of CMD_BUF, unless GO stands (R501). -/
def bufWrite (i : Iface) (k : Nat) (v : Word) (s : State) : State :=
  updBank i (fun b => if b.go then b else { b with cmdBuf := b.cmdBuf.take (4 * k) ++ leBytes 4 v.toNat ++ b.cmdBuf.drop (4 * k + 4) }) s

/-- A register of a ring is written (R503). -/
def ringRegWrite (r k : Nat) (v : Word) (s : State) : State :=
  if k = 0 then updRing r (fun g => if g.enable then g else { g with baseLo := v &&& 0xFFFFF000 }) s
  else if k = 1 then updRing r (fun g => if g.enable then g else { g with baseHi := v }) s
  else if k = 2 then ringCtrl r v.toNat s
  else s

/-- A word is written to the register window. A write to 0x2000 to 0x2FFF that leaves the condition true sends the message (R515). -/
def writeWord (i : Iface) (off : Nat) (v : Word) (s : State) : State :=
  if off = 0x0018 then updBank i (fun b => { b with scratch := v }) s
  else if 0x0100 ≤ off ∧ off < 0x0500 then doorbell ((off - 0x0100) / 4) v.toNat false s
  else if 0x0500 ≤ off ∧ off < 0x0680 then doorbell (96 + (off - 0x0500) / 4) v.toNat true s
  else if 0x0680 ≤ off ∧ off < 0x0700 then doorbell (192 + (off - 0x0680) / 4) v.toNat true s
  else if 0x1000 ≤ off ∧ off < 0x2000 then ringRegWrite ((off - 0x1000) / 16) (off % 16 / 4) v s
  else if 0x2000 ≤ off ∧ off < 0x3000 then
    let s := irqWrite off v s
    if irqCond s.host then msixSend s else s
  else if off = 0x3000 then updBank i (fun b => { b with select := v.setWidth 8 }) s
  else if off = 0x3004 then
    (if !v.getLsbD 0 then s
     else if (bankOf s i).go then updBank i (fun b => { b with goAgain := some (s.now / tickPs) }) s
     else goWrite i s)
  else if 0x3600 ≤ off ∧ off < 0x3800 then bufWrite i ((off - 0x3600) / 4) v s
  else s

/-- Consecutive words from the lowest address on (R487, R488). -/
def writeWords (i : Iface) (off value n : Nat) (s : State) : State :=
  (List.range n).foldl (fun s k =>
    if off + 4 * k < 65536 then writeWord i (off + 4 * k) (BitVec.ofNat 32 (value / 2 ^ (32 * k))) s else s) s

/-- A write access: whole words over host SPI; 32 bits or aligned 64 bits over PCIe, and ACCESS_ERROR for any other (R487, R488). -/
def writeAccess (i : Iface) (off size value : Nat) (s : State) : State :=
  match i with
  | .spi => writeWords .spi (off % 65536 / 4 * 4) value (size / 4) s
  | .pcie =>
    if (size = 4 ∧ off % 4 = 0) ∨ (size = 8 ∧ off % 8 = 0) then writeWords .pcie (off % 65536) value (size / 4) s
    else raise 0 9 s

/-- A register access at an instant, when the interface answers (R19, R487, R559). -/
def accessAt (i : Iface) (ps : Nat) (f : State → State) (s : State) : State :=
  let s := begin_ ps s
  if answers s i then f s else s

/-! ### Rows -/

def execRegisterWrite (i : Iface) (t off size value : Nat) (s : State) : Outcome State Fault Refusal :=
  .next (accessAt i t (writeAccess i off size value) s)

/-- A W1C register of either level (R516 to R518). -/
def isCauseReg (off : Nat) : Bool :=
  (decide (0x2010 ≤ off ∧ off < 0x2090) && off % 8 == 0) || (decide (0x2100 ≤ off ∧ off < 0x2120) && off % 4 == 0)

def execIrqCauseClear (i : Iface) (t off : Nat) (value : Word) (s : State) : Outcome State Fault Refusal :=
  .next (accessAt i t (fun s => if isCauseReg off then writeWord i off value s else s) s)

def execRingCtrlWrite (i : Iface) (t r : Nat) (value : Word) (s : State) : Outcome State Fault Refusal :=
  .next (accessAt i t (fun s => if r < 256 then writeWord i (0x1008 + 16 * r) value s else s) s)

def execDoorbellWrite (i : Iface) (t off : Nat) (value : Word) (s : State) : Outcome State Fault Refusal :=
  .next (accessAt i t (fun s => if 0x0100 ≤ off ∧ off < 0x0700 ∧ off % 4 = 0 then writeWord i off value s else s) s)

def execCmdSubmit (i : Iface) (t : Nat) (s : State) : Outcome State Fault Refusal :=
  .next (accessAt i t (fun s => if s.boot.stage = 5 then s else writeWord i 0x3004 1 s) s)

def execHostLoadBlock (i : Iface) (t : Nat) (s : State) : Outcome State Fault Refusal :=
  .next (accessAt i t (fun s => if s.boot.stage = 5 then loadBlock i s else s) s)

/-- The slot that RESULT_SELECT names is copied into the bank; a completed result counts the read (R500). -/
def latchResult (i : Iface) (s : State) : State :=
  let k := (bankOf s i).select.toNat
  let x := nth s.host.slots k
  let y := if x.pending || x == {} then x else { x with readCount := min 255 (x.readCount + 1) }
  emit (.readData i (BitVec.ofNat 32 (resultWord y))) (updBank i (fun b => { b with result := y }) (updSlot k (fun _ => y) s))

def execResultStatusRead (i : Iface) (t : Nat) (s : State) : Outcome State Fault Refusal := .next (accessAt i t (latchResult i) s)

/-- The masks of the vector and of the function are set; a pending message goes once both are clear and the condition is true (R515). -/
def msixMask (vec func : Bool) (s : State) : State :=
  let s := { s with host := { s.host with vecMask := vec, funcMask := func } }
  if vec || func || !s.host.msixPend then s
  else
    let s := { s with host := { s.host with msixPend := false } }
    if irqCond s.host then msixSend s else s

def execMsixUnmask (t : Nat) (vec func : Bool) (s : State) : Outcome State Fault Refusal :=
  .next (accessAt .pcie t (msixMask vec func) s)

/-! ### SYS_IDENTIFY, SYS_CONFIG_DIGEST, SYS_ECHO (R521, R523, R524) -/

def identifyReply (s : State) : Bytes :=
  leBytes 2 0x9624 ++ leBytes 1 0xA0 ++ leBytes 1 s.attest.lc ++ beBytes 8 s.fuse.serial ++ leBytes 1 (strapBits s) ++ zeros 3 ++
  beBytes 6 fuseMacBase ++ zeros 2 ++ leBytes 4 s.boot.romVersion ++ leBytes 4 s.boot.dealerVersion ++ leBytes 4 s.boot.trickVersion ++
  leBytes 4 s.boot.gnssVersion ++ leBytes 1 (s.host.linkWidth + 16 * s.host.linkGen) ++ zeros 7

def hSysIdentify : Handler := fun q s => checked q 0 [] (.done (identifyReply s) s)

def execSysIdentify (q : Req) (s : State) : Outcome State Fault Refusal := cmdRow 0x0100 hSysIdentify q s

def digestReply (s : State) : Bytes :=
  s.host.digest ++ leBytes 4 s.host.commitCount ++ leBytes 1 (b2n (s.shadow != s.work)) ++ zeros 3 ++
  tsBytes (if s.host.committed then s.host.lastCommit else 0) ++ zeros 4

def hSysConfigDigest : Handler := fun q s => checked q 0 [] (.done (digestReply s) s)

def execSysConfigDigest (q : Req) (s : State) : Outcome State Fault Refusal := cmdRow 0x0104 hSysConfigDigest q s

/-- SYS_ECHO of a command that arrived at a counter time: its parameters are not checked (R524). -/
def hSysEcho (arrived : Nat) : Handler := fun q s =>
  .done (tsBytes arrived ++ tsBytes (curTs s) ++ zeros 8 ++ slice q.params 0 (4 * q.length.toNat)) s

def execSysEcho (q : Req) (s : State) : Outcome State Fault Refusal := .next (runCmdAt 0x0105 hSysEcho q s)

end Sys2Proof.Machine
end

