-- ==== Sys2Proof/Machine/Boot.lean ====
section
/-! DEFINITION. Supplies, reset, the Base PLL, boot stages, thermal events, SYS_STATUS and SYS_RESET_BLOCK (R193 to R202, R552 to
R574). -/
namespace Sys2Proof.Machine
open Host Sys2Proof

/-! ### Supplies (R552, R553, R570) -/

/-- VDDIO rises through 1.45 V: the fault record is empty, and the chip stands in device reset until power is good (R552, R570). -/
def powerOn (s : State) : State :=
  updBoot (fun b => { b with
    vddio := true, powerGood := false, resetLow := 0, thermalHold := false, faults := [], faultOverflow := false }) (deviceReset 0 s)

def execPowerOn (t : Nat) (s : State) : Outcome State Fault Refusal := .next (powerOn (begin_ t s))

/-- Every rail has stayed inside its window for 1 ms (R552). -/
def powerGoodRise (s : State) : State := if s.boot.vddio then updBoot (fun b => { b with powerGood := true }) s else s

def execPowerGoodRise (t : Nat) (s : State) : Outcome State Fault Refusal := .next (powerGoodRise (begin_ t s))

/-- Rails have left their windows for 2 µs: bit n of `rails` is rail n (R552, R553, R570). -/
def powerGoodFall (rails : Nat) (s : State) : State :=
  if !s.boot.powerGood || rails % 128 = 0 then s
  else updBoot (fun b => { b with powerGood := false }) (faultReset 4 (rails % 128) 1 s)

def execPowerGoodFall (t rails : Nat) (s : State) : Outcome State Fault Refusal := .next (powerGoodFall rails (begin_ t s))

/-- VDDIO falls below 1.45 V: the watch domain, the fault record and every pad lose power (R553). -/
def powerRemoved (s : State) : State :=
  let s := emit (.pin "CLAIM_OWN" 0) (updPair (fun p => { p with live := false, enable := false }) s)
  updBoot (fun b => { b with vddio := false, powerGood := false, thermalHold := false, faults := [], faultOverflow := false }) (deviceReset 0 s)

def execPowerRemoved (t : Nat) (s : State) : Outcome State Fault Refusal := .next (powerRemoved (begin_ t s))

/-! ### Reset (R554 to R558) -/

/-- RESET_N is low for a width in ns: ignored below 60 ns, a device reset from 150 ns on, and undefined between (R3, R554). -/
def execResetNAssert (t width : Nat) (s : State) : Outcome State Fault Refusal :=
  if width < 60 then .next (begin_ t s)
  else if width < 150 then .fault .resetPulseUnspecified
  else .next (updBoot (fun b => { b with resetLow := t + width * 1000 }) (deviceReset 2 (begin_ t s)))

/-- Device reset ends when power is good, RESET_N is high and no thermal hold stands: the straps are sampled (R554, R558). -/
def resetEnd (pairId : Bool) (bootSrc : Nat) (quad : Bool) (s : State) : State :=
  if !s.boot.inReset || !s.boot.powerGood || s.boot.thermalHold || decide (s.now < s.boot.resetLow) then s
  else
    let s := updBoot (fun b => { b with
      inReset := false, stage := 1, pairId, bootSrc := bootSrc % 4, spiQuad := quad, resetEnd := s.now }) s
    setPads (emit (.pin "BPLL_LOCK" 0) (emit (.pin "CLAIM_OWN" 0) (emit (.pin "CLAIM_TX" 0)
      { s with root := { s.root with detected := s.now }, pair := { s.pair with rxAt := s.now } })))

def execResetEnd (t : Nat) (pairId : Bool) (bootSrc : Nat) (quad : Bool) (s : State) : Outcome State Fault Refusal :=
  .next (resetEnd pairId bootSrc quad (begin_ t s))

/-- The watchdog expires: the claim drops, and a device reset follows in 1 ms, but not out of the loss-of-lock state (R556, R571). -/
def watchdogExpiry (s : State) : State :=
  if s.boot.inReset then s
  else
    let t := afterDrop s (selfFault 3 0 s)
    if t.root.lost then t else updBoot (fun b => { b with watchdogReset := some (t.now + msPs) }) t

def execWatchdogExpiry (t : Nat) (s : State) : Outcome State Fault Refusal := .next (watchdogExpiry (begin_ t s))

/-- 1 ms after the watchdog expired (R202, R556). -/
def watchdogReset (s : State) : State :=
  match s.boot.watchdogReset with
  | none => s
  | some d =>
    let s := updBoot (fun b => { b with watchdogReset := none }) (moveTo d s)
    if s.root.lost then s else deviceReset 3 s

def execWatchdogReset (s : State) : Outcome State Fault Refusal := .next (watchdogReset { s with out := [] })

/-! ### Temperature (R557); temperatures are in 0.125 °C -/

def thermalShutdown (temp : Int) (s : State) : State :=
  if !s.boot.vddio || s.boot.thermalHold || temp < 1000 then s
  else updBoot (fun b => { b with thermalHold := true }) (faultReset 6 temp.toNat 4 s)

def execThermalShutdown (t : Nat) (temp : Int) (s : State) : Outcome State Fault Refusal := .next (thermalShutdown temp (begin_ t s))

def thermalRelease (temp : Int) (s : State) : State := if temp ≤ 920 then updBoot (fun b => { b with thermalHold := false }) s else s

def execThermalRelease (t : Nat) (temp : Int) (s : State) : Outcome State Fault Refusal := .next (thermalRelease temp (begin_ t s))

def thermalWarn (temp : Int) (s : State) : State :=
  if !running s || s.boot.thermalWarn || temp < 840 then s
  else raise 1 4 (updBoot (fun b => { b with thermalWarn := true, tempMax := temp }) s)

def execThermalWarn (t : Nat) (temp : Int) (s : State) : Outcome State Fault Refusal := .next (thermalWarn temp (begin_ t s))

def thermalWarnClear (temp : Int) (s : State) : State :=
  if temp ≤ 800 then updBoot (fun b => { b with thermalWarn := false, tempMax := temp }) s else s

def execThermalWarnClear (t : Nat) (temp : Int) (s : State) : Outcome State Fault Refusal := .next (thermalWarnClear temp (begin_ t s))

/-! ### The Base PLL (R193, R196, R201, R202) -/

/-- The nominal frequencies of SYSOSC by code (R193). -/
def sysoscHz : List Nat := [10000000, 20000000, 25000000, 40000000, 50000000]

/-- The code of the nominal nearest a measurement; none beyond 6 % (R193). -/
def sysoscCode (f : Nat) : Option Nat :=
  let d := fun (k : Nat) => ((f : Int) - (sysoscHz.getD k 0 : Nat)).natAbs
  let best := ([1, 2, 3, 4] : List Nat).foldl (fun m k => if d k < d m then k else m) 0
  if 100 * d best > 6 * sysoscHz.getD best 0 then none else some best

/-- The low pulse of BPLL_LOCK in a detector cycle with a phase error of `err` ps: rounded up to 1.6 ns, and at least 1.6 ns (R197). -/
def lockPulse (err : Nat) : Nat := max 1600 (ceilDiv err 1600 * 1600)

/-- Lock is declared. In the loss-of-lock state only BPLL_LOCK follows (R193, R196, R197, R202). -/
def bpllLock (f : Nat) (s : State) : State :=
  if s.boot.inReset || !s.boot.powerGood || s.root.locked then s
  else match sysoscCode f with
  | none => { s with root := { s.root with lost := true } }
  | some c =>
    let s := emit (.pulses "BPLL_LOCK" (lockPulse 150) (roundDiv 1000000000000 (max 1 f))) s
    if s.root.lost then { s with root := { s.root with locked := true } }
    else updBoot (fun b => { b with stage := if b.stage = 1 then 2 else b.stage }) { s with root := { s.root with
      locked := true, code := c, lockTime := (s.now - s.root.detected) / 1000000, lockedSince := s.now } }

def execBpllLock (t freqHz : Nat) (s : State) : Outcome State Fault Refusal := .next (bpllLock freqHz (begin_ t s))

/-- Loss of lock: the clocks stop, the fault is recorded, the claim drops; the chip stays so until reset. A PLL that had locked again
in that state only loses its lock (R197, R201, R202). -/
def lossOfLock (detail : Nat) (s : State) : State :=
  if s.boot.inReset || !s.root.locked then s
  else if s.root.lost then emit (.pin "BPLL_LOCK" 0) { s with root := { s.root with locked := false } }
  else
    let s := selfFault 1 (detail % 2) s
    setPads (emit (.pin "INT_N" 0) (emit (.pin "BPLL_LOCK" 0) { s with root := { s.root with
      locked := false, lost := true, excursion := false } }))

def execLossOfLock (t detail : Nat) (s : State) : Outcome State Fault Refusal := .next (lossOfLock detail (begin_ t s))

/-- The class of one comparison of the detector, by the magnitude of its phase error in ps (R199). -/
inductive DetectorClass where
  | normal
  | excursion
  | loss
  deriving DecidableEq, Repr

def detectorClass (errPs : Nat) : DetectorClass := if errPs ≤ 150 then .normal else if errPs ≤ 1500 then .excursion else .loss

/-- A comparison of the detector whose phase error leaves ±150 ps (R199 to R201). -/
def comparison (errPs : Nat) (s : State) : State :=
  match detectorClass errPs with
  | .normal => s
  | .excursion => excursion s
  | .loss => lossOfLock 1 s

def execExcursion (c : Comparison) (s : State) : Outcome State Fault Refusal := .next (comparison c.errPs (begin_ c.time s))

/-! ### Boot stages (R559, R563) -/

/-- Boot moves on from one stage. -/
def atStage (n : Nat) (f : State → State) (s : State) : State := if running s && s.boot.stage == n then f s else s

/-- The fuses are read; an interrupted advance is completed (R433). -/
def fuseRead (s : State) : State :=
  let rows := s.fuse.rows.map fun r => if r = 0 then 0 else 8
  updBoot (fun b => { b with stage := 3 })
    { s with fuse := { s.fuse with rows := rows }, attest := { s.attest with lc := lcOfRows rows, advance := none } }

def execFuseRead (t : Nat) (s : State) : Outcome State Fault Refusal := .next (atStage 2 fuseRead (begin_ t s))

def execSramTest (t : Nat) (ok : Bool) (s : State) : Outcome State Fault Refusal :=
  .next (atStage 3 (updBoot fun b => { b with stage := if ok then 4 else 15 }) (begin_ t s))

/-- The ROM chooses the newer valid copy, waits for the host, or halts (R558, R560, R561). -/
def imageLoad (a b : Bytes) (s : State) : State :=
  let s := extend 0 Config.romDigest s
  let wait := updBoot (fun x => { x with stage := 5 }) s
  if s.boot.bootSrc = 2 then wait
  else if s.boot.bootSrc = 3 then updBoot (fun x => { x with stage := 15 }) s
  else
    let useB := copyValid b && (!copyValid a || decide (fld b 8 4 > fld a 8 4))
    if copyValid a || copyValid b then
      let s := takeImages (copyImages (if useB then b else a)) (updBoot (fun x => { x with copyB := useB }) s)
      if useB then raise 1 3 s else s
    else if s.boot.bootSrc = 1 then wait
    else updBoot (fun x => { x with stage := 15 }) s

def execImageLoad (t : Nat) (a b : Bytes) (s : State) : Outcome State Fault Refusal := .next (atStage 4 (imageLoad a b) (begin_ t s))

def bootImage (s : State) (id : Nat) : Bytes := (getKey id s.boot.images).getD []

/-- MR5 is extended, and the keys are derived (R436, R437). -/
def keyDerive (s : State) : State :=
  updBoot (fun b => { b with stage := 7 })
    (deriveKeys (extend 5 (sha384 (Config.bootText (strapBits s) s.attest.lc (bootImage s 5))) s))

def execKeyDerive (t : Nat) (s : State) : Outcome State Fault Refusal := .next (atStage 6 keyDerive (begin_ t s))

/-- The version of an image: 0 for an absent one (R521). -/
def imageVersion (s : State) (id : Nat) : Nat := match getKey id s.boot.images with | some b => Config.versionOf id b % 2 ^ 32 | none => 0

/-- The engines start: the Scorecard opens, and the faults on record become occurrences (R529, R534, R559, R570). -/
def dealerStart (density : Nat) (s : State) : State :=
  let s := updBoot (fun b => { b with
    stage := 8, romVersion := Config.versionOf 0 Config.romDigest % 2 ^ 32
    dealerVersion := imageVersion s 2, trickVersion := imageVersion s 3, gnssVersion := imageVersion s 4 }) s
  let s := scoreBoot density s
  let s := if s.boot.resetCause = 0 then occur 0x2E 0 s else s
  let s := s.boot.faults.foldl (fun s e => occur 0x2D e.cause s) s
  if s.boot.faults.isEmpty then s else raise 1 2 s

def execDealerStart (t density : Nat) (s : State) : Outcome State Fault Refusal := .next (atStage 7 (dealerStart density) (begin_ t s))

/-- CMD_READY is set; packets whose GO waits reach the queue (R501, R559). -/
def ready (s : State) : State :=
  if !s.boot.configDone && (getKey 5 s.boot.images).isSome then s
  else acceptGo (raise 1 0 (updBoot (fun b => { b with stage := 9, cmdReady := true, bootTime := (s.now - b.resetEnd) / 1000000 }) s))

def execReady (t : Nat) (s : State) : Outcome State Fault Refusal := .next (atStage 8 ready (begin_ t s))

/-- The claim opens once CMD_READY is 1 and the Kitty load has completed (R563). -/
def claimOpen (s : State) : State :=
  if !running s || !s.boot.cmdReady || !s.kitty.loadDone || s.boot.claimSpent then s
  else setPads (updBoot (fun b => { b with claimSpent := true }) (updPair (fun p => { p with
    live := true, enable := false, force := 0, sent := 0 }) s))

def execClaimOpen (t : Nat) (s : State) : Outcome State Fault Refusal := .next (claimOpen (begin_ t s))

/-! ### SYS_STATUS (R573) -/

/-- BLOCKS_POWERED: a block that configuration disables is power-gated (R568). -/
def blocksPowered (s : State) : Nat :=
  let c := s.work
  let mode := fun n => (nth c.ports n).mode
  packBits (((List.range 16).map fun n => mode n != 0 || mode (n / 4 * 4) == 4) ++
    [laneOn c.pair 0, laneOn c.pair 1, c.gnss.enable, c.tdc.any (·.enable), c.aud.any fun a => a.mode != 0])

/-- A thread holds work. -/
def threadBusy (t : Thread) : Bool :=
  t.running.isSome || t.holding.isSome || !t.p.isEmpty || !t.d.isEmpty || !t.ready.isEmpty || !t.released.isEmpty

/-- ENGINES_POWERED: an engine that ENGINE_MASK removes is gated once its queued work is done (R303, R568). -/
def enginesPowered (s : State) : Nat :=
  packBits ((List.range 16).map fun e =>
    bit s.work.adm.engineMask e || (List.range 4).any fun k => threadBusy (nth s.svc.threads (4 * e + k)))

def outputsPowered (s : State) : Nat := packBits (s.work.outs.map fun o => o.mode != 0)

def statusFlags (s : State) : Nat :=
  packBits [s.boot.cmdReady, s.pair.live, s.pair.enable, !svcClosed s, s.time.valid, s.kitty.loaded, s.boot.hostBoot, s.boot.copyB
    , s.boot.thermalWarn, (getKey 4 s.boot.images).isSome, s.boot.configImageError, s.boot.faultOverflow]

def faultRow (e : FaultEntry) : Bytes :=
  leBytes 1 e.cause ++ leBytes 1 e.claim ++ zeros 2 ++ leBytes 3 e.powerCycle ++ zeros 1 ++ leBytes 4 e.opTime ++ leBytes 4 e.detail

/-- The reply; RAIL_MV and POWER_MW are measurements, and free values. -/
def sysStatusReply (s : State) : Bytes :=
  leBytes 1 s.boot.stage ++ leBytes 1 s.attest.lc ++ leBytes 2 (statusFlags s) ++ leBytes 1 s.boot.resetCause ++
  leBytes 1 s.boot.faults.length ++ leBytes 2 s.boot.configErrorIndex ++ leBytes 4 s.boot.bootTime ++ leBytes 4 (opTime s) ++
  leBytes 3 s.score.powerCycle ++ zeros 1 ++ leInt 2 s.boot.tempMax ++ zeros 2 ++
  ((List.range 7).flatMap fun k => leBytes 2 (Config.freeNat (s.free + k))) ++ zeros 2 ++ leBytes 4 (Config.freeNat (s.free + 7)) ++
  leBytes 4 (blocksPowered s) ++ leBytes 2 (enginesPowered s) ++ leBytes 2 (outputsPowered s) ++ zeros 12 ++ s.boot.faults.flatMap faultRow

/-- What a clearing leaves of the fault record: a fault recorded on the same tick is kept (R571). -/
def newFaults (s : State) : List FaultEntry := s.boot.faults.filter fun e => e.ps / tickPs == s.now / tickPs

def hSysStatus : Handler := fun q s =>
  checked q 4 [inF 0 1 0 1, rsvF 1 3] <|
  let t := { s with free := s.free + 8 }
  .done (sysStatusReply s) (if fld q.params 0 1 = 1 then updBoot (fun b => { b with faults := newFaults s, faultOverflow := false }) t else t)

def execSysStatus (q : Req) (s : State) : Outcome State Fault Refusal := cmdRow 0x0101 hSysStatus q s

/-! ### SYS_RESET_BLOCK (R574) -/

/-- The largest INDEX of a BLOCK. -/
def blockIndexMax (b : Nat) : Nat := ([0, 0, 0, 15, 3, 1] : List Nat).getD b 0

/-- The state refuses the reset of a block. -/
def blockRefused (b i : Nat) (s : State) : Bool :=
  match b with
  | 1 => s.gnss.state == .off
  | 2 => s.tdc.chans.any fun h => h.owner.isSome
  | 3 => !portExists s.work i || (portOf s i).state == .disabled
  | 4 => !(audGroup s i).running
  | _ => s.work.pair.mode == 1 && !laneUp s (1 - i)

/-- What the reset of a block does; that of the baseband takes effect at the next measurement epoch (R179). -/
def resetBlock (b i : Nat) (s : State) : State :=
  match b with
  | 1 => updGnss (fun g => { g with
      nav := [], aids := [], timeAid := none, posAid := none, change := if g.change = some .stop then some .stop else some .restart }) s
  | 2 =>
    let s := (List.range 8).foldl (fun s c => updChan c (fun h => { h with buffer := [], rawFull := false }) (disarmChan c s)) s
    { s with tdc := { s.tdc with calibrating := true } }
  | 3 => if (portOf s i).state == .calibrating then s else toCalibrating i s
  | 4 =>
    let k := (firstStop s i).toNat
    (membersOf s.work i).foldl (fun s p => resetReceiver p s) (updGroup i (fun x => { x with stop := some k }) s)
  | _ => if laneOn s.work.pair i then laneTo i .calibrating s else s

/-- The reset of a block has completed. -/
def blockSettled (b i : Nat) (s : State) : Bool :=
  match b with
  | 1 => s.gnss.change.isNone && !s.gnss.gspiBusy
  | 2 => !s.tdc.calibrating
  | 3 => (portOf s i).state != .calibrating
  | 4 => !(audGroup s i).running
  | _ => (laneOf s i).state != .calibrating

def hSysResetBlock : Handler := fun q s =>
  let b := fld q.params 0 1
  let i := fld q.params 1 1
  checked q 4 [inF 0 1 1 5, inF 1 1 0 (blockIndexMax b), rsvF 2 2] <|
  refuseIf (blockRefused b i s) stBadState 0 <|
  .later (addWait { key := .blockReset b i, opcode := 0x0102, req := q } (resetBlock b i s))

def execSysResetBlock (q : Req) (s : State) : Outcome State Fault Refusal := cmdRow 0x0102 hSysResetBlock q s

def blockResetDone (b i : Nat) (s : State) : State :=
  if running s && waitsFor (.blockReset b i) s && blockSettled b i s then raise 1 5 (finishWait (.blockReset b i) stDone 0 [] s) else s

def execBlockResetDone (t block index : Nat) (s : State) : Outcome State Fault Refusal := .next (blockResetDone block index (begin_ t s))

end Sys2Proof.Machine
end

