-- ==== Sys2Proof/Machine/Meld.lean ====
section
/-! DEFINITION. The meanings of the Meld rows (chapter 05). -/
namespace Sys2Proof.Machine
open Sys2Proof Host

/-! ### MELD_CONFIGURE, MELD_CLOCK_SET, MELD_STATUS (R164 to R166) -/

def hMeldConfigure : Handler := fun q s =>
  let p := q.params
  checked q 16 [inF 0 1 0 1, inF 1 1 32 255, inF 2 2 1 65535, inF 4 1 1 255, inF 5 1 16 255, inF 6 1 16 255, timerF 7, rsvF 8 8] <|
  refuseIf (fld p 0 1 == 0 && ((s.shadow.dplls.any fun d => d.holdSource == 1) || (s.shadow.pols.any fun r => r.monBasis == 1)))
    stBadState 0 <|
  let x : MeldCfg := { enable := fld p 0 1 == 1, gateK := fld p 1 1, weightTau := fld p 2 2, gateCount := fld p 4 1
                       voteK := fld p 5 1, consistK := fld p 6 1, outlierClear := fld p 7 1 }
  writes (fun c => { c with meld := x }) s

def execMeldConfigure (q : Req) (s : State) : Outcome State Fault Refusal := cmdRow 0x0500 hMeldConfigure q s

/-- A source that a slot of this role may hold (R137). -/
def meldSourceOk (c : Cfg) (role id : Nat) : Bool :=
  match ordOf id with
  | none => false
  | some o => kindOf o != .partner && (role != 0 || (kindOf o == .refin && decide ((nth c.refs o).mode ≤ 1)))

def meldSlotFields (c : Cfg) (p : Bytes) : List Fld :=
  let slot := fld p 0 1
  let role := fld p 1 1
  let id := fld p 2 2
  let empty := slot != 0 && id == 0
  let held := id != 0 && ((List.range 8).any fun k => k != slot && (nth c.meldSlots k).sourceId == id)
  let noNoise := bit (fld p 4 1) 0 && fld p 16 8 == 0 && fld p 24 8 == 0 && fld p 32 8 == 0
  let z := fun off => F off 8 (fun v => !empty || v == 0)
  [inF 0 1 0 7, F 1 1 (fun v => decide (v ≤ 1) && (v == 0 || (slot != 0 && !empty))),
   F 2 2 (fun v => v == 0 || (slot != 0 && meldSourceOk c role v && !held)),
   F 4 1 (fun v => decide (v ≤ 3) && (v == 0 || !empty) && (id == 0 || role == 0 || !bit v 0)), rsvF 5 3, F 8 8 (fun v => if slot == 0 || empty then v == 0 else decide (v < 2 ^ 63)),
   F 16 8 (fun v => (!empty || v == 0) && !noNoise), z 24, z 32, z 40, z 48]

def meldSlotCfgOf (p : Bytes) : MeldSlotCfg :=
  { role := fld p 1 1, sourceId := fld p 2 2, ensemble := bit (fld p 4 1) 0, witness := bit (fld p 4 1) 1, wpm := fld p 8 8
    q1 := fld p 16 8, q2 := fld p 24 8, q3 := fld p 32 8, y0 := fld p 40 8, d0 := fld p 48 8 }

def hMeldClockSet : Handler := fun q s =>
  let slot := fld q.params 0 1
  let x := meldSlotCfgOf q.params
  checked q 56 (meldSlotFields s.shadow q.params) <|
  let old := (nth s.shadow.meldSlots slot).sourceId
  refuseIf (slot != 0 && old != 0 && old == s.shadow.hold.holdClock && x.sourceId != old && (tdpll s).state != .holdover)
    stBadState 0 <|
  writes (fun c => { c with meldSlots := c.meldSlots.set slot x }) s

def execMeldClockSet (q : Req) (s : State) : Outcome State Fault Refusal := cmdRow 0x0501 hMeldClockSet q s

def meldRow (s : State) (k : Nat) : Bytes :=
  let c := nth s.work.meldSlots k
  let m := nth s.meld.slots k
  if !slotUsed s k then zeros 64
  else
    leBytes 2 c.sourceId ++ leBytes 1 c.role ++
    leBytes 1 (packBits [c.ensemble, c.witness, memberUsable s k, m.outlier, c.sourceId == s.work.hold.holdClock, m.initialised]) ++
    leBytes 2 m.weight ++ leBytes 2 m.gateRejects ++ leInt 8 (satOffset (roundDivI m.est.phase (2 ^ 32))) ++ leInt 8 m.est.freq ++
    leInt 8 m.est.drift ++ leBytes 8 (twoSigma s.meld.cov (3 * k + 1)) ++ leBytes 8 (twoSigma s.meld.cov (3 * k + 2)) ++
    leInt 8 m.residual ++ leBytes 4 m.reinitCount ++ zeros 4

def meldStatusReply (s : State) : Bytes :=
  let m := s.meld
  let used := (List.range 8).filter (slotUsed s)
  let wit := used.filter fun k => (nth s.work.meldSlots k).witness && memberUsable s k
  leBytes 1 (b2n s.work.meld.enable) ++ leBytes 1 used.length ++ leBytes 1 wit.length ++ leBytes 1 m.lastVote ++
  leBytes 2 m.lastVoteSource ++
  leBytes 2 (packBits [!s.hold.consistFailed, s.hold.horizonPassed, s.hold.learnSince.isSome && !s.hold.learned]) ++
  leBytes 4 m.updateCount ++ leBytes 4 (if (tdpll s).state == .holdover then s.hold.coverHours else 0) ++
  tsBytes m.lastUpdate ++ zeros 4 ++ (List.range 8).flatMap (meldRow s)

def hMeldStatus : Handler := fun q s => checked q 0 [] (.done (meldStatusReply s) s)

def execMeldStatus (q : Req) (s : State) : Outcome State Fault Refusal := cmdRow 0x0502 hMeldStatus q s

/-! ### Updates (R138 to R149) -/

/-- The next update instant of the counter, in 2⁻⁴⁸ ns (R140). -/
def nextUpdate (s : State) : Nat :=
  let ns := s.time.counter.sec * 1000000000 + s.time.counter.ns
  (ns / 62500000 + 1) * 62500000 * 2 ^ 48

/-- An update that does not take place because the Meld is disabled counts as failed while an origin is in force (R148). -/
def missedUpdate (s : State) : State :=
  if !originInForce s then s
  else
    let s := moveToCounter (nextUpdate s) s
    if s.hold.consistFailed then s else raise 5 4 { s with hold := { s.hold with consistFailed := true } }

/-- An update instant starts an update: the measurements since the instant before are taken (R140, R143). -/
def meldUpdate (s : State) : State :=
  if !running s || s.meld.busy.isSome then s
  else if !s.work.meld.enable then missedUpdate s
  else
    let s := moveToCounter (nextUpdate s) s
    let meas := (List.range 8).map fun k =>
      let m := nth s.meld.slots k
      if k != 0 && m.count != 0 && memberUsable s k then some (roundDivI m.sum m.count, m.count) else none
    { s with meld := { s.meld with
      busy := some (curTs s, s.now)
      meas := meas
      slots := s.meld.slots.map fun m => { m with sum := 0, count := 0 } } }

def execMeldUpdate (s : State) : Outcome State Fault Refusal := .next (meldUpdate { s with out := [] })

/-- σ² of a member at WEIGHT_TAU, times 60·τ, in 2⁻¹⁶⁰ (R141). -/
def memberVar (c : MeldSlotCfg) (tau : Nat) : Nat :=
  60 * c.q1 * 2 ^ 64 + 20 * c.q2 * tau * tau * 2 ^ 32 + 3 * c.q3 * tau * tau * tau * tau

/-- A member is usable and has been initialised since it became so (R143). -/
def memberReady (s : State) (k : Nat) : Bool :=
  k == 0 || (memberUsable s k && (nth s.meld.slots k).initialised && !(nth s.meld.slots k).stale)

/-- The raw weight of a usable ENSEMBLE member (R141). -/
def rawWeight (s : State) (k : Nat) : Nat :=
  let c := nth s.work.meldSlots k
  if c.ensemble && slotUsed s k && memberReady s k then 2 ^ 400 / max 1 (memberVar c s.work.meld.weightTau) else 0

/-- Ensemble weights in 2⁻¹⁵ (R141, R166). -/
def weights (s : State) : List Nat :=
  let raw := (List.range 8).map (rawWeight s)
  let sum := raw.foldl (· + ·) 0
  raw.map fun w => if sum = 0 then 0 else roundDiv (w * 32768) sum

/-- The weights of witnesses: those of the ensemble, or equal ones where no witness has any (R146). -/
def witnessWeights (s : State) (wit : List Nat) : List (Nat × Nat) :=
  let w := wit.map fun k => (k, rawWeight s k)
  let sum := w.foldl (fun a e => a + e.2) 0
  if sum = 0 then wit.map fun k => (k, 1) else w.map fun e => (e.1, roundDiv (e.2 * 2 ^ 64) sum)

/-- The residual of a slot against witnesses as a weighted sum: slots with their weights (R146). -/
def residualOf (s : State) (slot : Nat) (wit : List Nat) : List (Nat × Int) :=
  let w := witnessWeights s wit
  (slot, (w.foldl (fun a e => a + e.2) 0 : Nat)) :: w.map fun e => (e.1, -(e.2 : Int))

/-- The residual of a candidate's frequency against witnesses, in 2⁻⁶⁴, and whether its magnitude exceeds `num`/`den` standard
deviations (R146, R147). -/
def freqResidual (s : State) (slot : Nat) (wit : List Nat) (num den : Nat) : Int × Bool :=
  let g := residualOf s slot wit
  let sum := g.foldl (fun a e => a + e.2 * (nth s.meld.slots e.1).est.freq) 0
  let var := g.foldl (fun a x => g.foldl (fun a y => a + x.2 * y.2 * covAt s.meld.cov (3 * x.1 + 1) (3 * y.1 + 1)) a) 0
  let d : Int := den
  let n : Int := num
  (roundDivI sum (g.headD (0, 0)).2.toNat, decide (d * d * sum * sum > n * n * var))

/-- The same of the change of the estimated phase since the update at which the split began: its variance is what the estimates of that
update and the diffusion since give. The residual is the change over the time between, as a frequency in 2⁻⁶⁴ (R146, R166). -/
def phaseResidual (s : State) (slot : Nat) (wit : List Nat) (base : PhaseBase) (num den : Nat) : Int × Bool :=
  let g := residualOf s slot wit
  let t := s.meld.lastUpdatePs - base.ps
  let sum := g.foldl (fun a e => a + e.2 * ((nth s.meld.slots e.1).est.phase - (nth base.est e.1).phase)) 0
  let form : Form := g.flatMap fun e => [(3 * e.1 + 1, e.2 * phaseOfFreq t), (3 * e.1 + 2, e.2 * phaseOfDrift t)]
  let noise := g.foldl (fun a e => a + e.2 * e.2 * Int.ofNat (diffusion (nth s.work.meldSlots e.1) t 0 0)) (0 : Int)
  let var := formCov base.cov form form + noise * formDen * formDen
  let d : Int := den * formDen
  let n : Int := num
  (roundDivI (sum * (2 ^ 16 * 1000 : Nat)) (max 1 ((g.headD (0, 0)).2.toNat * t)), decide (d * d * sum * sum > n * n * var))

/-- The residual that a vote or a standing outlier uses (R146, R147). -/
def residual (s : State) (slot : Nat) (wit : List Nat) (base : Option PhaseBase) (num den : Nat) : Int × Bool :=
  match base with
  | some b => phaseResidual s slot wit b num den
  | none => freqResidual s slot wit num den

/-- The usable witnesses besides two sources (R137, R146). -/
def witnesses (s : State) (p q : Nat) : List Nat :=
  (List.range 8).filter fun k =>
    let c := nth s.work.meldSlots k
    slotUsed s k && c.witness && memberReady s k && c.sourceId != p && c.sourceId != q

/-- A vote ends with its result (R146, R166). -/
def voteDone (code src : Nat) (s : State) : State :=
  raise 5 0 { s with meld := { s.meld with lastVote := code, lastVoteSource := src } }

/-- A vote has named a slot's source, or none (R146, R147). -/
def voteNamed (named : Option (Nat × Nat)) (base : Option PhaseBase) (s : State) : State :=
  match named with
  | none => voteDone 2 0 s
  | some (slot, id) =>
    let s := raise 5 1 { s with meld := { s.meld with
      slots := upd s.meld.slots slot (fun m => { m with outlier := true, outlierSmall := none, outlierBase := base }) } }
    voteDone 1 id (match ordOf id with | some o => setCheck o cOutlier true s | none => s)

/-- A vote is computed and its result acts (R90, R146, R147). -/
def computeVote (v : VoteDue) (s : State) : State :=
  let wit := witnesses s v.p v.q
  if wit.isEmpty then voteDone 3 0 s
  else match meldSlotOf s.work v.p, meldSlotOf s.work v.q with
  | some a, some b =>
    let k := s.work.meld.voteK
    let base := if v.byPhase then some (v.base.getD {}) else none
    let ra := residual s a wit base k 16
    let rb := residual s b wit base k 16
    let s := { s with meld := { s.meld with
      slots := upd (upd s.meld.slots a (fun m => { m with residual := ra.1 })) b (fun m => { m with residual := rb.1 }) } }
    voteNamed (if ra.2 && !rb.2 then some (a, v.p) else if rb.2 && !ra.2 then some (b, v.q) else none) base s
  | _, _ => voteDone 2 0 s

/-- Residuals of standing outliers, and since when they have stayed small; a Dummy's are the Declarer's (R145, R147). -/
def outlierResiduals (s : State) : State :=
  if isDummy s then s
  else { s with meld := { s.meld with slots := (List.range 8).map fun k =>
    let m := nth s.meld.slots k
    if m.outlier then
      let id := (nth s.work.meldSlots k).sourceId
      let r := residual s k (witnesses s id id) m.outlierBase s.work.meld.voteK 32
      { m with residual := r.1, outlierSmall := if r.2 then none else some (m.outlierSmall.getD s.now) }
    else m } }

/-- The consistency of HOLD_CLOCK with one oscillator witness since the origin (R148). -/
def consistWith (s : State) (h w : Nat) : Bool :=
  let mh := if h = 0 then some 0 else ((s.meld.meas.getD h none).map (·.1))
  let mw := if w = 0 then some 0 else ((s.meld.meas.getD w none).map (·.1))
  match mh, mw with
  | some a, some b =>
    let t := s.now - s.meld.frozenPs
    let f := fun k => nth s.meld.frozen k
    let dd := formDen
    let gy := phaseOfFreq t
    let gd := phaseOfDrift t
    let pred := dd * ((f h).phase - (f w).phase) + gy * ((f h).freq - (f w).freq) + gd * ((f h).drift - (f w).drift)
    let g := [(3 * h, dd), (3 * h + 1, gy), (3 * h + 2, gd), (3 * w, -dd), (3 * w + 1, -gy), (3 * w + 2, -gd)]
    let noise := fun k => ((diffusion (nth s.work.meldSlots k) t 0 0 : Nat) : Int)
    let var := formCov s.meld.frozenCov g g + (noise h + noise w) * dd * dd
    let diff := 16 * (dd * (a - b) * (2 ^ 32 : Nat) - pred)
    let k : Int := s.work.meld.consistK
    decide (diff * diff ≤ k * k * var)
  | _, _ => true

/-- The consistency test at an update (R120, R148). -/
def consistTest (s : State) : State :=
  if !originInForce s then s
  else
    let h := (meldSlotOf s.work s.work.hold.holdClock).getD 0
    let wit := (List.range 8).filter fun k =>
      let c := nth s.work.meldSlots k
      k != h && slotUsed s k && c.witness && c.role == 0 && memberReady s k && s.meld.frozenUsable.getD k false
    let ok := !s.meld.reinitHold && wit.all (consistWith s h)
    if ok || s.hold.consistFailed then s
    else raise 5 4 { s with hold := { s.hold with consistFailed := true } }

/-- A frequency estimate after the time since an origin, with its drift (R110). -/
def predictedFreq (freq drift : Int) (dt : Nat) : Int := freq + roundDivI (drift * dt) (10 ^ 12 * 2 ^ 32)

/-- The prediction for HOLD_CLOCK that a domain in holdover follows: the T-DPLL's from the origin, an F-DPLL's from its own entry; none
where the domain does not follow it (R105, R110, R116). -/
def followed (d : Nat) (s : State) : Option Int :=
  let x := dpllOf s d
  let stopped := s.hold.failedStands || s.hold.leftStands
  if (dpllCfg s d).holdSource ≠ 1 ∨ stopped = true then none
  else if d = 0 then (if originInForce s then some s.hold.predFreq else none)
  else if x.state = .holdover then some (predictedFreq x.predFreq x.predDrift (s.now - x.holdPs)) else none

/-- The prediction of HOLD_CLOCK steers the domains with HOLD_SOURCE 1 in holdover: the domain's frequency against TCLK is that of
HOLD_CLOCK less what HOLD_CLOCK is predicted to run fast (R105, R110, R116, R132). -/
def holdSteer (s : State) : State :=
  let h := (meldSlotOf s.work s.work.hold.holdClock).getD 0
  let s := if originInForce s then
      { s with hold := { s.hold with predFreq := predictedFreq (nth s.meld.frozen h).freq s.hold.predDrift (s.now - s.meld.frozenPs) } } else s
  (List.range 4).foldl (fun s d =>
    match followed d s with
    | none => s
    | some p =>
      let s := setRate d (rateOfFreq (s.meld.rawFreq.getD h 0 - p)) s
      let s := updDpll d (fun x => { x with holdFreq := freqOfRate (rateOf s d) }) s
      if d = 0 ∧ (dpllOf s 0).rateClamped then { s with hold := { s.hold with clampStands := true } } else s) s

/-- A member takes the values of the filter. -/
def setEstimates (x : List Int) (c : List (List Int)) (s : State) : State :=
  { s with meld := { s.meld with cov := c, slots := (List.range 8).map fun k => { nth s.meld.slots k with est := unflatten x k } } }

/-- The states and the covariance of the slots. -/
def estimates (s : State) : List Int × List (List Int) := (flatten (s.meld.slots.map (·.est)), s.meld.cov)

/-- A member is re-initialised with a measured phase in 2⁻¹⁶ ns and the number of its samples (R142, R143). -/
def reinitMember (k : Nat) (phase : Int) (n : Nat) (s : State) : State :=
  let r := restartSlot (nth s.work.meldSlots k) k (phase * (2 ^ 32 : Nat)) n (estimates s)
  let s := setEstimates r.1 r.2 s
  { s with meld := { s.meld with
      slots := upd s.meld.slots k (fun m => { m with initialised := true, stale := false, gateRejects := 0 })
      reinitHold := s.meld.reinitHold || (nth s.work.meldSlots k).sourceId == s.work.hold.holdClock } }

/-- The steering that an update takes of a slot: what has been sent up to its instant (R144). -/
def steerOf (m : MeldRun) (k : Nat) : Int × Nat :=
  let cut := m.steerCut.filter fun e => e.1 == k
  let held := m.steerHeld.filter fun e => e.1 == k
  let r := nth m.slots k
  (r.steer + held.foldl (fun a e => a + e.2.1) 0 - cut.foldl (fun a e => a + e.2.1) 0,
   r.steerUnc + held.foldl (fun a e => a + e.2.2) 0 - cut.foldl (fun a e => a + e.2.2) 0)

/-- Steering enters the frequency estimate and its uncertainty (R126, R127, R144). -/
def enterSteer (s : State) : State :=
  let m := s.meld
  { s with meld := { m with
    cov := m.cov.zipIdx.map fun (row, i) => row.zipIdx.map fun (v, j) =>
      if i = j ∧ i % 3 = 1 then v + ((steerOf m (i / 3)).2 * (steerOf m (i / 3)).2 : Nat) else v
    steerCut := [], steerHeld := m.steerCut
    slots := m.slots.zipIdx.map fun (r, k) => { r with est := { r.est with freq := r.est.freq + (steerOf m k).1 }, steer := 0, steerUnc := 0 } } }

/-- The slots in use. -/
def usedSlots (s : State) : List Bool := (List.range 8).map (slotUsed s)

/-- Ensemble time and every estimate are carried over the raw time since the update before (R139 to R141). The result is the state, and
how far ensemble time has moved against raw time, in 2⁻⁴⁸ ns. -/
def predictUpdate (dt : Nat) (s : State) : Int × State :=
  let g := gaugeOf ((List.range 8).map (rawWeight s))
  let x := gaugeRates g (usedSlots s) (estimates s).1
  let c := gaugeCov g (usedSlots s) (estimates s).2
  let p := predict s.work.meldSlots dt x c
  (x.getD 0 0 - p.1.getD 0 0, setEstimates p.1 p.2 s)

/-- Members that have become usable, or have their first measurement, are re-initialised with it, without an event (R143). -/
def updateMembers (meas : List (Option (Int × Nat))) (s : State) : State :=
  (List.range 8).foldl (fun s k =>
    match meas.getD k none with
    | some (ph, n) => if memberUsable s k && !memberReady s k then reinitMember k ph n s else s
    | none => s) { s with meld := { s.meld with slots := upd s.meld.slots 0 (fun m => { m with initialised := true }) } }

/-- The members whose measurement the update is to absorb: those that were ready before it. -/
def toAbsorb (ready : List Bool) (meas : List (Option (Int × Nat))) : List (Option (Int × Nat)) :=
  meas.zipIdx.map fun (x, k) => if ready.getD k false then x.map (fun e => (e.1 * (2 ^ 32 : Nat), e.2)) else none

/-- The measurements that the gate rejects (R142). -/
def rejected (meas : List (Option (Int × Nat))) (s : State) : List Bool :=
  meas.zipIdx.map fun (x, k) => match x with
    | some (z, n) => gated s.work.meld.gateK (innovation (nth s.work.meldSlots k) k z n (estimates s).1 (estimates s).2)
    | none => false

/-- The measurements that pass are absorbed, and the phases stay stated against ensemble time (R140, R141). -/
def absorbAll (meas : List (Option (Int × Nat))) (out : List Bool) (s : State) : State :=
  let e := meas.zipIdx.foldl (fun e (x, k) => match x with
    | some (z, n) => if out.getD k false then e else absorb (nth s.work.meldSlots k) k z n e
    | none => e) (estimates s)
  setEstimates (gaugePhases (gaugeOf ((List.range 8).map (rawWeight s))) (usedSlots s) (estimates s).1 e.1) e.2 s

/-- An update has its results: weights, frequencies against raw time, and ensemble time (R140, R141). -/
def closeUpdate (inst raw : Nat) (adv : Int) (s : State) : State :=
  let m := s.meld
  let w := weights s
  bump (64 * 5 + 32) { s with meld := { m with
    slots := (List.range 8).map fun k => { nth m.slots k with weight := w.getD k 0 }
    rawFreq := (List.range 8).map fun k => (nth m.slots k).est.freq - (nth m.slots 0).est.freq
    ensHist := (s.now, ((m.ensHist.headD (0, 0)).2 + adv)) :: m.ensHist.filter (fun e => decide (e.1 + 1100 * secPs ≥ s.now))
    busy := none
    lastUpdate := inst
    lastUpdatePs := raw
    donePs := some s.now
    updateCount := (m.updateCount + 1) % 2 ^ 32 } }

/-- The run of rejections of a member, or none when its innovation passed. -/
def setRejects (k n : Nat) (s : State) : State :=
  { s with meld := { s.meld with slots := upd s.meld.slots k (fun m => { m with gateRejects := n }) } }

/-- A member whose rejections have reached GATE_COUNT is re-initialised (R142, R143). -/
def gateReinit (k : Nat) (ph : Int) (n : Nat) (s : State) : State :=
  raise 5 3 (reinitMember k ph n { s with meld := { s.meld with slots := upd s.meld.slots k (fun m => { m with reinitCount := (m.reinitCount + 1) % 2 ^ 32 }) } })

/-- The gate: rejections are counted, and a member whose run reaches GATE_COUNT starts over (R142). -/
def gateMembers (meas taken : List (Option (Int × Nat))) (out : List Bool) (s : State) : State :=
  (List.range 8).foldl (fun s k =>
    match taken.getD k none, meas.getD k none with
    | some _, some (ph, n) =>
      if out.getD k false then
        let s := bump (64 * 5 + 33) s
        let c := (nth s.meld.slots k).gateRejects + 1
        if c ≥ s.work.meld.gateCount then gateReinit k ph n s else setRejects k c s
      else setRejects k 0 s
    | _, _ => s) s

/-- Learning takes the phase of HOLD_CLOCK against the T-DPLL's selected candidate after an update, both against raw time (R149). -/
def learnUpdate (s : State) : State :=
  let h := (meldSlotOf s.work s.work.hold.holdClock).getD 0
  if s.hold.learnSince.isSome then
    let x := (nth s.meld.slots h).est.phase - (nth s.meld.slots 0).est.phase
    let cand := match tSelected s with | some o => ((refOf s o).hist.headD (0, 0)).2 | none => 0
    let s := { s with meld := { s.meld with learnPhase := (s.now, x - cand * (2 ^ 32 : Nat)) :: s.meld.learnPhase } }
    if s.hold.learned then learnValues s else s
  else s

/-- The votes asked for before an update's instant are computed after it, not on a Dummy (R90, R145, R146). -/
def dueVotes (raw : Nat) (s : State) : State :=
  if isDummy s then s
  else
    let due := s.meld.vote.filter fun v => decide (v.at_ ≤ raw)
    due.foldl (fun s v => computeVote v s) { s with meld := { s.meld with vote := s.meld.vote.filter fun v => decide (raw < v.at_) } }

/-- What an update changes once its filter has run: consistency, outliers, votes and learning (R144 to R149). -/
def afterUpdate (raw : Nat) (s : State) : State :=
  let s := consistTest s
  learnUpdate (dueVotes raw (outlierResiduals { s with meld := { s.meld with reinitHold := false } }))

/-- The filter of an update: steering, prediction, re-initialisation, the gate and the measurements (R138 to R144). -/
def runFilter (inst raw : Nat) (s : State) : State :=
  let meas := s.meld.meas
  let ready := (List.range 8).map (memberReady s)
  let p := predictUpdate (raw - s.meld.lastUpdatePs) (enterSteer s)
  let s := updateMembers meas p.2
  let taken := toAbsorb ready meas
  let out := rejected taken s
  closeUpdate inst raw p.1 (gateMembers meas taken out (absorbAll taken out s))

/-- A Meld update completes (R140 to R149, R162). -/
def meldUpdateDone (ps : Nat) (s : State) : State :=
  let s := begin_ ps s
  match s.meld.busy with
  | none => s
  | some (inst, raw) => evalAll (holdSteer (afterUpdate raw (runFilter inst raw { s with meldBefore := { s.meld with busy := none } })))

def execMeldUpdateDone (t : Nat) (s : State) : Outcome State Fault Refusal := .next (if running s then meldUpdateDone t s else begin_ t s)

/-- A named source's residual has stayed small for OUTLIER_CLEAR (R147). -/
def outlierClear (slot : Nat) (s : State) : State :=
  let m := nth s.meld.slots slot
  match m.outlier, m.outlierSmall, ordOf (nth s.work.meldSlots slot).sourceId with
  | true, some t, some o =>
    let s := moveTo (t + timerSec s.work.meld.outlierClear * secPs) s
    let s := raise 5 2 { s with meld := { s.meld with slots := upd s.meld.slots slot (fun m => { m with outlier := false, outlierSmall := none, residual := 0 }) } }
    evalAll (setCheck o cOutlier false s)
  | _, _, _ => s

def execOutlierClearExpiry (slot : Nat) (s : State) : Outcome State Fault Refusal := .next (whileRunning (outlierClear slot) { s with out := [] })

/-- A holdover passes COVER_HOURS (R150). -/
def horizon (s : State) : State :=
  match s.hold.origin, (originInForce s && s.work.meld.enable && !s.hold.horizonPassed) with
  | some o, true =>
    let target : Int := o + (s.hold.coverHours * 3600 * 10 ^ 9 * 2 ^ 48 : Nat)
    let s := moveTo (tickAfter (ceilDiv (target - s.incSum).toNat (max 1 (nextInc s.time))) s) s
    settleBound (raise 5 5 { s with hold := { s.hold with horizonPassed := true } })
  | _, _ => s

def execHorizon (s : State) : Outcome State Fault Refusal := .next (whileRunning horizon { s with out := [] })

end Sys2Proof.Machine
end

