-- ==== Sys2Proof/Machine/Commands.lean ====
section
/-! DEFINITION. The opcode index and what runs packets by their opcode: the boot configuration image, mirrored commands, LOCKSTEP
inputs, and an opcode outside the index (R406, R408, R528, R562). -/
namespace Sys2Proof.Machine
open Host Sys2Proof

/-- The opcode index (R528): the meaning of each opcode, which takes the counter time of the command's arrival. -/
def handlerOf (opcode : Nat) : Option (Nat → Handler) :=
  match opcode with
  | 0x0100 => some (fun _ => hSysIdentify)
  | 0x0101 => some (fun _ => hSysStatus)
  | 0x0102 => some (fun _ => hSysResetBlock)
  | 0x0103 => some (fun _ => hSysConfigCommit)
  | 0x0104 => some (fun _ => hSysConfigDigest)
  | 0x0105 => some hSysEcho
  | 0x0200 => some (fun _ => hRootStatus)
  | 0x0210 => some (fun _ => hOutConfigure)
  | 0x0211 => some (fun _ => hOutEnable)
  | 0x0212 => some (fun _ => hOutAlign)
  | 0x0213 => some (fun _ => hOutStatus)
  | 0x0220 => some (fun _ => hTodoutConfigure)
  | 0x0300 => some (fun _ => hRefConfigure)
  | 0x0301 => some (fun _ => hRefStatus)
  | 0x0302 => some (fun _ => hRefQualifyPolicy)
  | 0x0310 => some (fun _ => hSelConfigure)
  | 0x0311 => some (fun _ => hSelSelect)
  | 0x0312 => some (fun _ => hSelStatus)
  | 0x0313 => some (fun _ => hSelForceRestore)
  | 0x0400 => some (fun _ => hDpllConfigure)
  | 0x0401 => some (fun _ => hDpllStatus)
  | 0x0410 => some (fun _ => hTimeRead)
  | 0x0411 => some (fun _ => hTimeSet)
  | 0x0412 => some (fun _ => hTimeStep)
  | 0x0413 => some (fun _ => hTimeSlew)
  | 0x0414 => some (fun _ => hLeapConfigure)
  | 0x0420 => some (fun _ => hHoldModelSet)
  | 0x0421 => some (fun _ => hHoldModelRead)
  | 0x0422 => some (fun _ => hJumpAccept)
  | 0x0500 => some (fun _ => hMeldConfigure)
  | 0x0501 => some (fun _ => hMeldClockSet)
  | 0x0502 => some (fun _ => hMeldStatus)
  | 0x0510 => some (fun _ => hBoundRead)
  | 0x0511 => some (fun _ => hBoundPolicy)
  | 0x0600 => some (fun _ => hGnssConfigure)
  | 0x0601 => some (fun _ => hGnssAid)
  | 0x0602 => some (fun _ => hGnssStatus)
  | 0x0603 => some (fun _ => hGnssSurvey)
  | 0x0604 => some (fun _ => hGnssNavData)
  | 0x0700 => some (fun _ => hTdcConfigure)
  | 0x0701 => some (fun _ => hTdcArm)
  | 0x0702 => some (fun _ => hTdcRead)
  | 0x0703 => some (fun _ => hTdcStats)
  | 0x0800 => some (fun _ => hPortConfigure)
  | 0x0801 => some (fun _ => hPortStatus)
  | 0x0802 => some (fun _ => hPortCalibrate)
  | 0x0803 => some (fun _ => hPortFlowControl)
  | 0x0804 => some (fun _ => hPortSynce)
  | 0x0900 => some (fun _ => hSvcConfigure)
  | 0x0901 => some (fun _ => hSvcAdmission)
  | 0x0902 => some (fun _ => hSvcStatus)
  | 0x0910 => some (fun _ => hRingConfigure)
  | 0x0911 => some (fun _ => hRingStatus)
  | 0x0A00 => some (fun _ => hPtpCreate)
  | 0x0A01 => some (fun _ => hPtpConfigure)
  | 0x0A02 => some (fun _ => hPtpDelete)
  | 0x0A03 => some (fun _ => hPtpBind)
  | 0x0A04 => some (fun _ => hPtpStatus)
  | 0x0A10 => some (fun _ => hGrantQuery)
  | 0x0A11 => some (fun _ => hGrantRevoke)
  | 0x0A20 => some (fun _ => hSaLoad)
  | 0x0B00 => some (fun _ => hNtpConfigure)
  | 0x0B01 => some (fun _ => hNtpRatePolicy)
  | 0x0B02 => some (fun _ => hNtpStatus)
  | 0x0B10 => some (fun _ => hNtsKeyLoad)
  | 0x0B11 => some (fun _ => hNtsKeyRotate)
  | 0x0B12 => some (fun _ => hNtsCookieMint)
  | 0x0B20 => some (fun _ => hRcptConfigure)
  | 0x0B21 => some (fun _ => hRcptStatus)
  | 0x0C00 => some (fun _ => hPairConfigure)
  | 0x0C01 => some (fun _ => hPairStatus)
  | 0x0C02 => some (fun _ => hPairClaimSet)
  | 0x0C03 => some (fun _ => hPairSwitch)
  | 0x0C04 => some (fun _ => hPairResync)
  | 0x0C05 => some (fun _ => hPairSelftestReport)
  | 0x0D00 => some (fun _ => hKeyWrite)
  | 0x0D01 => some (fun _ => hKeyErase)
  | 0x0D02 => some (fun _ => hKeyInfo)
  | 0x0D10 => some (fun _ => hLcStatus)
  | 0x0D11 => some (fun _ => hLcAdvance)
  | 0x0D20 => some (fun _ => hAttestQuote)
  | 0x0D21 => some (fun _ => hAttestMeasurements)
  | 0x0E00 => some (fun _ => hAudPortConfigure)
  | 0x0E01 => some (fun _ => hAudGroupConfigure)
  | 0x0E02 => some (fun _ => hAudGroupStart)
  | 0x0E03 => some (fun _ => hAudGroupStop)
  | 0x0E04 => some (fun _ => hAudStatus)
  | 0x0F00 => some (fun _ => hRecConfigure)
  | 0x0F01 => some (fun _ => hRecRead)
  | 0x0F02 => some (fun _ => hRecCommitNow)
  | 0x0F10 => some (fun _ => hPerfRead)
  | 0x0F11 => some (fun _ => hPerfFilterSet)
  | 0x0F12 => some (fun _ => hPerfWindowSet)
  | _ => none

/-- An opcode outside the index, after the header check (R494, R528). -/
def hBadOpcode : Handler := fun _ _ => .refuse stBadOpcode 0

/-- The meaning of an opcode. -/
def meaningOf (opcode : Nat) : Nat → Handler := (handlerOf opcode).getD fun _ => hBadOpcode

/-- A packet whose opcode is not in the index; of one that is, this row says nothing. -/
def execBadOpcode (opcode : Nat) (q : Req) (s : State) : Outcome State Fault Refusal :=
  .next (if (handlerOf opcode).isSome then s else runCmd opcode hBadOpcode q s)

/-! ### The boot configuration image (R562) -/

/-- The packets of an image: it ends at its length, or at a header whose OPCODE is 0. -/
def packetsOf : Nat → Bytes → List Bytes
  | 0, _ => []
  | n + 1, b =>
    if b.length < 16 ∨ fld b 0 2 = 0 then []
    else
      let size := 16 + 4 * fld b 4 2
      b.take size :: packetsOf n (b.drop size)

/-- A packet that the image may not hold: MIRROR set, a KEY_WRITE or an LC_ADVANCE. -/
def imageForbids (opcode : Nat) (q : Req) : Bool := isMirrored q || opcode == 0x0D00 || opcode == 0x0D11

/-- The first packet that is refused is recorded (R562). -/
def imageError (k : Nat) (s : State) : State :=
  if s.boot.configImageError then s else raise 1 1 (updBoot (fun b => { b with configImageError := true, configErrorIndex := k % 65536 }) s)

/-- One packet of the image. -/
def imagePacket (k : Nat) (b : Bytes) (s : State) : State :=
  let (op, q) := packetOf .image b s.now
  if !headerBad q && imageForbids op q then imageError k (reply op q stBadState 0 [] s)
  else
    let (st, s) := startCmd op (meaningOf op) (curTs s) q s
    if st = stDone ∨ st = stPending then s else imageError k s

/-- The Dealer executes the packets of image 5 in order (R562). -/
def configImage (s : State) : State :=
  if s.boot.configDone then s
  else
    let b := bootImage s 5
    let l := packetsOf b.length b
    updBoot (fun b => { b with configDone := true }) (l.zipIdx.foldl (fun s x => imagePacket x.2 x.1 s) s)

def execConfigImageExec (t : Nat) (s : State) : Outcome State Fault Refusal := .next (atStage 8 configImage (begin_ t s))

/-! ### Mirrored commands (R406) -/

/-- A mirrored command from the partner is executed, in pair mode, in the order of arrival; its status goes back over the link. -/
def mirrorRx (opcode : Nat) (q : Req) (s : State) : State :=
  if s.work.pair.mode != 1 then begin_ q.time s else runCmdAt opcode (meaningOf opcode) { q with src := .partner } s

def execMirrorRx (opcode : Nat) (q : Req) (s : State) : Outcome State Fault Refusal := .next (mirrorRx opcode q s)

/-! ### LOCKSTEP inputs (R408) -/

/-- The host commands that change what a snapshot holds. -/
def lockCommands : List Nat := [0x0311, 0x0411, 0x0412, 0x0413, 0x0414, 0x0422, 0x0A11, 0x0B11]

/-- A host command of the Declarer acts on the Dummy's snapshot items as it acts on the Declarer's; counter, rates and outputs stay
those of the Dummy. -/
def lockCommand (opcode tag : Nat) (params : Bytes) (s : State) : State :=
  if !lockCommands.contains opcode then s
  else
    let q : Req := { time := s.now, src := .partner, tag := BitVec.ofNat 16 tag, length := BitVec.ofNat 16 (params.length / 4), flags := 0
                     reserved := 0, params }
    let take := fun (t : State) =>
      let b := moveTo t.now s
      { b with
        time := { b.time with
          future := t.time.future, past := t.time.past, currentOffset := t.time.currentOffset, smearStart := t.time.smearStart
          pend := t.time.pend, slewing := t.time.slewing, slewOwner := t.time.slewOwner, slewRem := t.time.slewRem, slewInc := t.time.slewInc }
        sels := t.sels.zipIdx.map fun (r, d) => { nth b.sels d with mode := r.mode, pick := r.pick }
        hold := t.hold, ntp := t.ntp, ptp := { b.ptp with grants := t.ptp.grants }, score := t.score }
    match meaningOf opcode (curTs s) q { s with pair := { s.pair with enable := true } } with
    | .done _ t => take t
    | .later t => take t
    | .refuseWith _ _ t => take t
    | .refuse _ _ => s

/-- One forwarded input. -/
def lockInput (x : LockInput) (s : State) : State :=
  match x with
  | .command op tag params => lockCommand op tag params s
  | .grant k (some g) => updPtp (fun n => { n with grants := putKey k g n.grants }) s
  | .grant k none => updPtp (fun n => { n with grants := delKey k n.grants }) s
  | .neighbour k (some n) => updPtp (fun p => { p with neighbours := putKey k n p.neighbours }) s
  | .neighbour k none => updPtp (fun p => { p with neighbours := delKey k p.neighbours }) s
  | .rotation i => rotate i s
  | .leap f p o => { s with time := { s.time with future := f, past := p, currentOffset := o } }
  | .selection d src => updPair (fun p => { p with partner := { p.partner with selected := upd p.partner.selected d fun _ => src } }) s
  | .occurrence c d =>
    let t := occur c d { s with pair := { s.pair with enable := true } }
    { s with score := t.score, host := t.host, perf := t.perf, out := t.out }

/-- In LOCKSTEP the Dummy processes the Declarer's inputs in its order (R408). -/
def lockstepInput (ps : Nat) (x : LockInput) (s : State) : State :=
  let s := begin_ ps s
  if running s && isDummy s && s.pair.sync == .lockstep then lockInput x s else s

def execLockstepInputRx (t : Nat) (inp : LockInput) (s : State) : Outcome State Fault Refusal := .next (lockstepInput t inp s)

end Sys2Proof.Machine
end

