-- ==== Sys2Proof/Machine/Dispatch.lean ====
section
/-! DEFINITION. One arm per row of the table of operations: each a direct call of that row's own meaning. -/
namespace Sys2Proof.Machine
open Host

def exec (i : Instr) (s : State) : Host.Outcome State Fault Refusal :=
  match i with
  | .sysIdentify q => Sys2Proof.Machine.execSysIdentify q s
  | .sysStatus q => Sys2Proof.Machine.execSysStatus q s
  | .sysResetBlock q => Sys2Proof.Machine.execSysResetBlock q s
  | .blockResetDone t block index => Sys2Proof.Machine.execBlockResetDone t block index s
  | .sysConfigCommit q => Sys2Proof.Machine.execSysConfigCommit q s
  | .sysConfigDigest q => Sys2Proof.Machine.execSysConfigDigest q s
  | .sysEcho q => Sys2Proof.Machine.execSysEcho q s
  | .rootStatus q => Sys2Proof.Machine.execRootStatus q s
  | .outConfigure q => Sys2Proof.Machine.execOutConfigure q s
  | .outEnable q => Sys2Proof.Machine.execOutEnable q s
  | .outputStart n => Sys2Proof.Machine.execOutputStart n s
  | .outAlign q => Sys2Proof.Machine.execOutAlign q s
  | .alignPulse n t => Sys2Proof.Machine.execAlignPulse n t s
  | .alignTimeout n => Sys2Proof.Machine.execAlignTimeout n s
  | .alignDone n => Sys2Proof.Machine.execAlignDone n s
  | .outStatus q => Sys2Proof.Machine.execOutStatus q s
  | .todoutConfigure q => Sys2Proof.Machine.execTodoutConfigure q s
  | .refConfigure q => Sys2Proof.Machine.execRefConfigure q s
  | .refStatus q => Sys2Proof.Machine.execRefStatus q s
  | .refQualifyPolicy q => Sys2Proof.Machine.execRefQualifyPolicy q s
  | .selConfigure q => Sys2Proof.Machine.execSelConfigure q s
  | .selSelect q => Sys2Proof.Machine.execSelSelect q s
  | .selStatus q => Sys2Proof.Machine.execSelStatus q s
  | .selForceRestore q => Sys2Proof.Machine.execSelForceRestore q s
  | .dpllConfigure q => Sys2Proof.Machine.execDpllConfigure q s
  | .dpllStatus q => Sys2Proof.Machine.execDpllStatus q s
  | .timeRead q => Sys2Proof.Machine.execTimeRead q s
  | .timeSet q => Sys2Proof.Machine.execTimeSet q s
  | .timeStep q => Sys2Proof.Machine.execTimeStep q s
  | .timeSlew q => Sys2Proof.Machine.execTimeSlew q s
  | .leapConfigure q => Sys2Proof.Machine.execLeapConfigure q s
  | .holdModelSet q => Sys2Proof.Machine.execHoldModelSet q s
  | .holdModelRead q => Sys2Proof.Machine.execHoldModelRead q s
  | .jumpAccept q => Sys2Proof.Machine.execJumpAccept q s
  | .meldConfigure q => Sys2Proof.Machine.execMeldConfigure q s
  | .meldClockSet q => Sys2Proof.Machine.execMeldClockSet q s
  | .meldStatus q => Sys2Proof.Machine.execMeldStatus q s
  | .boundRead q => Sys2Proof.Machine.execBoundRead q s
  | .boundPolicy q => Sys2Proof.Machine.execBoundPolicy q s
  | .gnssConfigure q => Sys2Proof.Machine.execGnssConfigure q s
  | .gnssAid q => Sys2Proof.Machine.execGnssAid q s
  | .gnssStatus q => Sys2Proof.Machine.execGnssStatus q s
  | .gnssSurvey q => Sys2Proof.Machine.execGnssSurvey q s
  | .gnssNavData q => Sys2Proof.Machine.execGnssNavData q s
  | .tdcConfigure q => Sys2Proof.Machine.execTdcConfigure q s
  | .tdcArm q => Sys2Proof.Machine.execTdcArm q s
  | .tdcArmStart c => Sys2Proof.Machine.execTdcArmStart c s
  | .tdcRead q => Sys2Proof.Machine.execTdcRead q s
  | .tdcStats q => Sys2Proof.Machine.execTdcStats q s
  | .portConfigure q => Sys2Proof.Machine.execPortConfigure q s
  | .portCalibrate q => Sys2Proof.Machine.execPortCalibrate q s
  | .portFlowControl q => Sys2Proof.Machine.execPortFlowControl q s
  | .portSynce q => Sys2Proof.Machine.execPortSynce q s
  | .portStatus q => Sys2Proof.Machine.execPortStatus q s
  | .svcConfigure q => Sys2Proof.Machine.execSvcConfigure q s
  | .svcAdmission q => Sys2Proof.Machine.execSvcAdmission q s
  | .svcStatus q => Sys2Proof.Machine.execSvcStatus q s
  | .ringConfigure q => Sys2Proof.Machine.execRingConfigure q s
  | .ringStatus q => Sys2Proof.Machine.execRingStatus q s
  | .ptpInstanceCreate q => Sys2Proof.Machine.execPtpInstanceCreate q s
  | .ptpInstanceConfigure q => Sys2Proof.Machine.execPtpInstanceConfigure q s
  | .ptpInstanceDelete q => Sys2Proof.Machine.execPtpInstanceDelete q s
  | .ptpPortBind q => Sys2Proof.Machine.execPtpPortBind q s
  | .ptpStatus q => Sys2Proof.Machine.execPtpStatus q s
  | .ptpGrantQuery q => Sys2Proof.Machine.execPtpGrantQuery q s
  | .ptpGrantRevoke q => Sys2Proof.Machine.execPtpGrantRevoke q s
  | .ptpSaLoad q => Sys2Proof.Machine.execPtpSaLoad q s
  | .ntpConfigure q => Sys2Proof.Machine.execNtpConfigure q s
  | .ntpRatePolicy q => Sys2Proof.Machine.execNtpRatePolicy q s
  | .ntpStatus q => Sys2Proof.Machine.execNtpStatus q s
  | .ntsKeyLoad q => Sys2Proof.Machine.execNtsKeyLoad q s
  | .ntsKeyRotate q => Sys2Proof.Machine.execNtsKeyRotate q s
  | .scheduledRotation inst => Sys2Proof.Machine.execScheduledRotation inst s
  | .ntsCookieMint q => Sys2Proof.Machine.execNtsCookieMint q s
  | .rcptConfigure q => Sys2Proof.Machine.execRcptConfigure q s
  | .rcptStatus q => Sys2Proof.Machine.execRcptStatus q s
  | .pairConfigure q => Sys2Proof.Machine.execPairConfigure q s
  | .pairStatus q => Sys2Proof.Machine.execPairStatus q s
  | .pairClaimSet q => Sys2Proof.Machine.execPairClaimSet q s
  | .pairSwitch q => Sys2Proof.Machine.execPairSwitch q s
  | .pairResync q => Sys2Proof.Machine.execPairResync q s
  | .pairSelftestReport q => Sys2Proof.Machine.execPairSelftestReport q s
  | .keyWrite q => Sys2Proof.Machine.execKeyWrite q s
  | .keyErase q => Sys2Proof.Machine.execKeyErase q s
  | .keyInfo q => Sys2Proof.Machine.execKeyInfo q s
  | .lcStatus q => Sys2Proof.Machine.execLcStatus q s
  | .lcAdvance q => Sys2Proof.Machine.execLcAdvance q s
  | .attestQuote q => Sys2Proof.Machine.execAttestQuote q s
  | .attestMeasurements q => Sys2Proof.Machine.execAttestMeasurements q s
  | .audPortConfigure q => Sys2Proof.Machine.execAudPortConfigure q s
  | .audGroupConfigure q => Sys2Proof.Machine.execAudGroupConfigure q s
  | .audGroupStart q => Sys2Proof.Machine.execAudGroupStart q s
  | .audGroupStop q => Sys2Proof.Machine.execAudGroupStop q s
  | .audStatus q => Sys2Proof.Machine.execAudStatus q s
  | .recConfigure q => Sys2Proof.Machine.execRecConfigure q s
  | .recRead q => Sys2Proof.Machine.execRecRead q s
  | .recCommitNow q => Sys2Proof.Machine.execRecCommitNow q s
  | .perfRead q => Sys2Proof.Machine.execPerfRead q s
  | .perfFilterSet q => Sys2Proof.Machine.execPerfFilterSet q s
  | .perfWindowSet q => Sys2Proof.Machine.execPerfWindowSet q s
  | .badOpcode opcode q => Sys2Proof.Machine.execBadOpcode opcode q s
  | .timeLatchLoRead bus t => Sys2Proof.Machine.execTimeLatchLoRead bus t s
  | .resultStatusRead bus t => Sys2Proof.Machine.execResultStatusRead bus t s
  | .cmdSubmit bus t => Sys2Proof.Machine.execCmdSubmit bus t s
  | .hostLoadBlock bus t => Sys2Proof.Machine.execHostLoadBlock bus t s
  | .irqCauseClear bus t off value => Sys2Proof.Machine.execIrqCauseClear bus t off value s
  | .ringCtrlWrite bus t r value => Sys2Proof.Machine.execRingCtrlWrite bus t r value s
  | .doorbellWrite bus t off value => Sys2Proof.Machine.execDoorbellWrite bus t off value s
  | .registerWrite bus t off size value => Sys2Proof.Machine.execRegisterWrite bus t off size value s
  | .msixUnmask t vec func => Sys2Proof.Machine.execMsixUnmask t vec func s
  | .cmdRingFetch c t entry => Sys2Proof.Machine.execCmdRingFetch c t entry s
  | .queueTimeout k => Sys2Proof.Machine.execQueueTimeout k s
  | .rxRingDeliver r t => Sys2Proof.Machine.execRxRingDeliver r t s
  | .txFetch r t descs data => Sys2Proof.Machine.execTxFetch r t descs data s
  | .eventEntryWrite r t => Sys2Proof.Machine.execEventEntryWrite r t s
  | .dmaCompletionError r t => Sys2Proof.Machine.execDmaCompletionError r t s
  | .ringIrqHoldoff r => Sys2Proof.Machine.execRingIrqHoldoff r s
  | .pcieReset t perst => Sys2Proof.Machine.execPcieReset t perst s
  | .handBoundary temp rootPhase => Sys2Proof.Machine.execHandBoundary temp rootPhase s
  | .refSample src t d => Sys2Proof.Machine.execRefSample src t d s
  | .zdaSentence t framingOk sentence => Sys2Proof.Machine.execZdaSentence t framingOk sentence s
  | .activityMiss src => Sys2Proof.Machine.execActivityMiss src s
  | .freqUpdate src => Sys2Proof.Machine.execFreqUpdate src s
  | .qualTimeExpiry src => Sys2Proof.Machine.execQualTimeExpiry src s
  | .wtrExpiry src => Sys2Proof.Machine.execWtrExpiry src s
  | .splitTimer domain a b byPhase => Sys2Proof.Machine.execSplitTimer domain a b byPhase s
  | .dpllLock domain => Sys2Proof.Machine.execDpllLock domain s
  | .freqStepEstimate domain => Sys2Proof.Machine.execFreqStepEstimate domain s
  | .steerSent t => Sys2Proof.Machine.execSteerSent t s
  | .steerAck t received => Sys2Proof.Machine.execSteerAck t received s
  | .meldUpdateDone t => Sys2Proof.Machine.execMeldUpdateDone t s
  | .outlierClearExpiry slot => Sys2Proof.Machine.execOutlierClearExpiry slot s
  | .gnssEpoch meas fix => Sys2Proof.Machine.execGnssEpoch meas fix s
  | .gnssSample t => Sys2Proof.Machine.execGnssSample t s
  | .gnssClockFit t offset => Sys2Proof.Machine.execGnssClockFit t offset s
  | .clkFault t => Sys2Proof.Machine.execClkFault t s
  | .acquisitionDwell t prn found => Sys2Proof.Machine.execAcquisitionDwell t prn found s
  | .channelLockLost t prn => Sys2Proof.Machine.execChannelLockLost t prn s
  | .reacquireTimeout prn => Sys2Proof.Machine.execReacquireTimeout prn s
  | .navNew t kind prn words => Sys2Proof.Machine.execNavNew t kind prn words s
  | .bpllLock t freqHz => Sys2Proof.Machine.execBpllLock t freqHz s
  | .lossOfLock t detail => Sys2Proof.Machine.execLossOfLock t detail s
  | .excursion t => Sys2Proof.Machine.execExcursion t s
  | .excursionEnd t => Sys2Proof.Machine.execExcursionEnd t s
  | .outputRisingEdge n => Sys2Proof.Machine.execOutputRisingEdge n s
  | .irigFrame n => Sys2Proof.Machine.execIrigFrame n s
  | .placerCalLost n t => Sys2Proof.Machine.execPlacerCalLost n t s
  | .tdcEdge inp t width => Sys2Proof.Machine.execTdcEdge inp t width s
  | .tdcOrphan c => Sys2Proof.Machine.execTdcOrphan c s
  | .tdcGateEnd c => Sys2Proof.Machine.execTdcGateEnd c s
  | .tdcCalLost inp t => Sys2Proof.Machine.execTdcCalLost inp t s
  | .tdcCalDone t => Sys2Proof.Machine.execTdcCalDone t s
  | .frameRx port t fcsOk bytes => Sys2Proof.Machine.execFrameRx port t fcsOk bytes s
  | .admissionDecision t => Sys2Proof.Machine.execAdmissionDecision t s
  | .trickJob h => Sys2Proof.Machine.execTrickJob h s
  | .cryptoLaneDone h => Sys2Proof.Machine.execCryptoLaneDone h s
  | .timedLaunch port => Sys2Proof.Machine.execTimedLaunch port s
  | .frameTx port t => Sys2Proof.Machine.execFrameTx port t s
  | .pauseEffect port => Sys2Proof.Machine.execPauseEffect port s
  | .pauseExpiry port prio => Sys2Proof.Machine.execPauseExpiry port prio s
  | .pfcXoff port prio t => Sys2Proof.Machine.execPfcXoff port prio t s
  | .pfcXoffRefresh port prio => Sys2Proof.Machine.execPfcXoffRefresh port prio s
  | .pfcXon port prio t => Sys2Proof.Machine.execPfcXon port prio t s
  | .blockLock port t rxFreq an => Sys2Proof.Machine.execBlockLock port t rxFreq an s
  | .alignmentDone port t ok dTx dRx => Sys2Proof.Machine.execAlignmentDone port t ok dTx dRx s
  | .linkLoss port t => Sys2Proof.Machine.execLinkLoss port t s
  | .calibrationEnd port t passed temp dTx dRx => Sys2Proof.Machine.execCalibrationEnd port t passed temp dTx dRx s
  | .calLost port t temp fault => Sys2Proof.Machine.execCalLost port t temp fault s
  | .synceSample port t => Sys2Proof.Machine.execSynceSample port t s
  | .esmcTimeout port => Sys2Proof.Machine.execEsmcTimeout port s
  | .esmcTx port => Sys2Proof.Machine.execEsmcTx port s
  | .esmcEventTx port t => Sys2Proof.Machine.execEsmcEventTx port t s
  | .windowEnd port w => Sys2Proof.Machine.execWindowEnd port w s
  | .engineFault e t => Sys2Proof.Machine.execEngineFault e t s
  | .scheduledPresent inst port mtype grant => Sys2Proof.Machine.execScheduledPresent inst port mtype grant s
  | .batchSigned t => Sys2Proof.Machine.execBatchSigned t s
  | .announceTimeout inst port => Sys2Proof.Machine.execAnnounceTimeout inst port s
  | .followupTimeout inst port => Sys2Proof.Machine.execFollowupTimeout inst port s
  | .syncTimeout inst => Sys2Proof.Machine.execSyncTimeout inst s
  | .pathDelayTimeout inst port => Sys2Proof.Machine.execPathDelayTimeout inst port s
  | .grantExpiry k => Sys2Proof.Machine.execGrantExpiry k s
  | .st2059Metadata inst => Sys2Proof.Machine.execSt2059Metadata inst s
  | .upstreamRenew inst port up mtype => Sys2Proof.Machine.execUpstreamRenew inst port up mtype s
  | .upstreamRetry inst port up mtype => Sys2Proof.Machine.execUpstreamRetry inst port up mtype s
  | .claimFrameTx t readback => Sys2Proof.Machine.execClaimFrameTx t readback s
  | .claimFrameRx t claim => Sys2Proof.Machine.execClaimFrameRx t claim s
  | .claimQuiet t => Sys2Proof.Machine.execClaimQuiet t s
  | .selfFault t cause detail => Sys2Proof.Machine.execSelfFault t cause detail s
  | .heartbeatRx lane t fcsOk payload => Sys2Proof.Machine.execHeartbeatRx lane t fcsOk payload s
  | .snapshotTx t => Sys2Proof.Machine.execSnapshotTx t s
  | .snapshotApply t snap => Sys2Proof.Machine.execSnapshotApply t snap s
  | .copyVerified t snap neighbours => Sys2Proof.Machine.execCopyVerified t snap neighbours s
  | .lockstepInputRx t inp => Sys2Proof.Machine.execLockstepInputRx t inp s
  | .lockstepCompare t digest => Sys2Proof.Machine.execLockstepCompare t digest s
  | .mirrorRx opcode q => Sys2Proof.Machine.execMirrorRx opcode q s
  | .mirrorReplyRx t opcode tag status => Sys2Proof.Machine.execMirrorReplyRx t opcode tag status s
  | .switchRequestRx t force => Sys2Proof.Machine.execSwitchRequestRx t force s
  | .compareCheck k t x => Sys2Proof.Machine.execCompareCheck k t x s
  | .selftestRun item t passed detail => Sys2Proof.Machine.execSelftestRun item t passed detail s
  | .persistDone t ok => Sys2Proof.Machine.execPersistDone t ok s
  | .kittyLoad t => Sys2Proof.Machine.execKittyLoad t s
  | .audioFrameBoundary port => Sys2Proof.Machine.execAudioFrameBoundary port s
  | .audioTxRead port => Sys2Proof.Machine.execAudioTxRead port s
  | .audioBufferHead port t desc data => Sys2Proof.Machine.execAudioBufferHead port t desc data s
  | .audioRxFrame port t record => Sys2Proof.Machine.execAudioRxFrame port t record s
  | .aes3Sample port t => Sys2Proof.Machine.execAes3Sample port t s
  | .pageWritten t => Sys2Proof.Machine.execPageWritten t s
  | .pageWriteTimeout t readback => Sys2Proof.Machine.execPageWriteTimeout t readback s
  | .dailyCommit t => Sys2Proof.Machine.execDailyCommit t s
  | .powerOn t => Sys2Proof.Machine.execPowerOn t s
  | .powerGoodRise t => Sys2Proof.Machine.execPowerGoodRise t s
  | .powerGoodFall t rails => Sys2Proof.Machine.execPowerGoodFall t rails s
  | .resetNAssert t width => Sys2Proof.Machine.execResetNAssert t width s
  | .resetEnd t pairId bootSrc quad => Sys2Proof.Machine.execResetEnd t pairId bootSrc quad s
  | .watchdogExpiry t => Sys2Proof.Machine.execWatchdogExpiry t s
  | .thermalShutdown t temp => Sys2Proof.Machine.execThermalShutdown t temp s
  | .thermalRelease t temp => Sys2Proof.Machine.execThermalRelease t temp s
  | .thermalWarn t temp => Sys2Proof.Machine.execThermalWarn t temp s
  | .fuseRead t => Sys2Proof.Machine.execFuseRead t s
  | .sramTest t ok => Sys2Proof.Machine.execSramTest t ok s
  | .imageLoad t a b => Sys2Proof.Machine.execImageLoad t a b s
  | .keyDerive t => Sys2Proof.Machine.execKeyDerive t s
  | .dealerStart t density => Sys2Proof.Machine.execDealerStart t density s
  | .configImageExec t => Sys2Proof.Machine.execConfigImageExec t s
  | .ready t => Sys2Proof.Machine.execReady t s
  | .claimOpen t => Sys2Proof.Machine.execClaimOpen t s
  | .linkTrainingStart t => Sys2Proof.Machine.execLinkTrainingStart t s
  | .noStampedEdge src => Sys2Proof.Machine.execNoStampedEdge src s
  | .darsLockLost port t => Sys2Proof.Machine.execDarsLockLost port t s
  | .gspiWritesDone t => Sys2Proof.Machine.execGspiWritesDone t s
  | .classChange t => Sys2Proof.Machine.execClassChange t s
  | .boundAlert t => Sys2Proof.Machine.execBoundAlert t s
  | .advanceDone t firstOk spareOk => Sys2Proof.Machine.execAdvanceDone t firstOk spareOk s
  | .quoteSigned t => Sys2Proof.Machine.execQuoteSigned t s
  | .powerRemoved t => Sys2Proof.Machine.execPowerRemoved t s
  | .thermalWarnClear t temp => Sys2Proof.Machine.execThermalWarnClear t temp s
  | .pcieLinkUp t width gen => Sys2Proof.Machine.execPcieLinkUp t width gen s
  | .scheduledStepApply => Sys2Proof.Machine.execScheduledStepApply s
  | .slewDone => Sys2Proof.Machine.execSlewDone s
  | .leapApplied => Sys2Proof.Machine.execLeapApplied s
  | .pairSwitchTimeout => Sys2Proof.Machine.execPairSwitchTimeout s
  | .modelLearned => Sys2Proof.Machine.execModelLearned s
  | .steerPeriod => Sys2Proof.Machine.execSteerPeriod s
  | .steerNoack => Sys2Proof.Machine.execSteerNoack s
  | .meldUpdate => Sys2Proof.Machine.execMeldUpdate s
  | .horizon => Sys2Proof.Machine.execHorizon s
  | .surveySecond => Sys2Proof.Machine.execSurveySecond s
  | .todSentence => Sys2Proof.Machine.execTodSentence s
  | .shedEnd => Sys2Proof.Machine.execShedEnd s
  | .batchClose => Sys2Proof.Machine.execBatchClose s
  | .claimAbsent => Sys2Proof.Machine.execClaimAbsent s
  | .claimInForce => Sys2Proof.Machine.execClaimInForce s
  | .enableRise => Sys2Proof.Machine.execEnableRise s
  | .enableFall => Sys2Proof.Machine.execEnableFall s
  | .heartbeatTx => Sys2Proof.Machine.execHeartbeatTx s
  | .heartbeatLost => Sys2Proof.Machine.execHeartbeatLost s
  | .snapLate => Sys2Proof.Machine.execSnapLate s
  | .mirroredCommit => Sys2Proof.Machine.execMirroredCommit s
  | .persistWrite => Sys2Proof.Machine.execPersistWrite s
  | .creditAccrue => Sys2Proof.Machine.execCreditAccrue s
  | .retentionRewrite => Sys2Proof.Machine.execRetentionRewrite s
  | .hourlyCommit => Sys2Proof.Machine.execHourlyCommit s
  | .watchdogReset => Sys2Proof.Machine.execWatchdogReset s

end Sys2Proof.Machine
end

