-- ==== Sys2Proof/Machine/Step.lean ====
section
/-! DEFINITION. One step of the block: the command at the front of the queue, or one tick of the clock (R33). -/
namespace Sys2Proof.Machine
open Host Sys2Proof

/-- One tick of TCLK with nothing commanded. DESIGN CHOICE: time passes on an empty queue. -/
def idle (s : State) : State := moveTo ((s.now / tickPs + 1) * tickPs) { s with out := [] }

/-- The front command is taken from the queue and has its effect; on an empty queue one tick passes. -/
def step (s : State) : Host.Outcome State Fault Refusal :=
  match s.pending with
  | [] => .next (idle s)
  | c :: rest => exec c { s with pending := rest }

/-- The state with the command that a word spells at the front of its queue. -/
def State.withFetchWord (s : State) (nbits w : Nat) : State :=
  match decodeTableWord nbits w with
  | some c => { s with pending := c :: s.pending }
  | none => s

end Sys2Proof.Machine
end

