-- ==== Sys2Proof/Safety.lean ====
section
/-! DEFINITION. The terms in which statements speak of a run: when the Dealer starts a command at once and from which state, the
block without its bookkeeping, and the boot invariant. -/
namespace Sys2Proof.Machine
open Sys2Proof Host

/-- The state from which a command starts when nothing stands before it: time has moved on to its arrival, and the packet, accepted
where it did not wait in the queue yet, has left the queue (R496, R498). -/
def started (opcode : Nat) (q : Req) (s : State) : State :=
  let s := begin_ q.time s
  let s := if (queued opcode q s.host.queue).isSome then s else submit opcode q s
  { s with host := { s.host with queue := [] } }

/-- The Dealer starts this packet at once: it accepts commands, no other packet waits, the packet's result slot is free, its header
passes the check, and it asks for no mirroring (R494, R496, R498, R559). -/
def startsAt (opcode : Nat) (q : Req) (s : State) : Bool :=
  let x := begin_ q.time s
  accepting x && !headerBad q && !isMirrored q &&
  (match x.host.queue with
   | [] => slotFree q x
   | [e] => e.opcode == opcode && e.req == q
   | _ => false) &&
  !(started opcode q s).host.pcie.go && !(started opcode q s).host.spi.go

/-- The arrival of a packet in counter time: as the queue has it where it waits there, else the counter now (R496). -/
def arrivalOf (opcode : Nat) (q : Req) (s : State) : Nat :=
  let x := begin_ q.time s
  match queued opcode q x.host.queue with
  | some e => e.arrived
  | none => curTs x

/-- The parameters pass the format checks of R494: no fault in the header, the fixed part, or the words beyond. -/
abbrev fits (q : Req) (fixed : Nat) (fs : List Fld) : Prop := formatCheck q fixed fs 0 0 (fun _ => []) = none

/-- The same with repeated entries. -/
abbrev fitsN (q : Req) (fixed : Nat) (fs : List Fld) (ents esz : Nat) (efs : Nat → List Fld) : Prop :=
  formatCheck q fixed fs ents esz efs = none

/-- The command is done: its reply says DONE with these data, and this is the state that it leaves otherwise (R495, R499). -/
def done (opcode : Nat) (q : Req) (data : Bytes) (s : State) : Outcome State Fault Refusal :=
  .next (reply opcode q stDone 0 data s)

/-- The host part without what replies and interrupts change in it: result slots, rings, causes and the interrupt message. -/
def hostBase (h : HostPart) : HostPart :=
  { h with slots := [], rings := [], cause := [], second := [], setTick := 0, setBits := [], msixPend := false }

/-- The block without the bookkeeping of replies and interrupts, the performance counters and the outputs of the step. -/
def base (s : State) : State := { s with host := hostBase s.host, perf := [], out := [] }

/-- The same without the Scorecard's accumulators. -/
def plain (s : State) : State := { base s with score := {} }

/-- A cause bit stands, where the state holds its word (R513). -/
abbrev causeStands (c b : Nat) (s : State) : Prop := c < s.host.cause.length → (s.host.cause.getD c 0).getLsbD b = true

/-- What a step of another row leaves alone: the queue of commands, the stage of startup, the life-cycle state, and both
configuration sets. -/
def kept (s : State) : (List Instr × Nat × Bool × Bool × Nat) × Cfg × Cfg :=
  ((s.pending, s.boot.stage, s.boot.cmdReady, s.boot.inReset, s.attest.lc), s.shadow, s.work)

/-- The rows that may write a configuration set or move the stages of boot or the life cycle: command packets, packets of the partner
and of the boot image, register accesses, and the rows of boot, of supplies and of reset. -/
def mayConfigure : Instr → Bool
  | .timeRead _ | .timeSet _ | .timeStep _ | .timeSlew _ | .leapConfigure _ | .refConfigure _ | .refQualifyPolicy _ | .refStatus _
  | .selConfigure _ | .selSelect _ | .selStatus _ | .selForceRestore _ | .dpllConfigure _ | .dpllStatus _ | .holdModelSet _
  | .holdModelRead _ | .jumpAccept _ | .meldConfigure _ | .meldClockSet _ | .meldStatus _ | .gnssConfigure _ | .gnssAid _
  | .gnssSurvey _ | .gnssStatus _ | .gnssNavData _ | .rootStatus _ | .outConfigure _ | .outEnable _ | .outStatus _ | .outAlign _
  | .todoutConfigure _ | .tdcArm _ | .tdcConfigure _ | .tdcRead _ | .tdcStats _ | .portConfigure _ | .portCalibrate _
  | .portFlowControl _ | .portSynce _ | .portStatus _ | .svcConfigure _ | .svcAdmission _ | .svcStatus _ | .ptpInstanceCreate _
  | .ptpInstanceConfigure _ | .ptpInstanceDelete _ | .ptpPortBind _ | .ptpStatus _ | .ptpGrantQuery _ | .ptpGrantRevoke _
  | .ptpSaLoad _ | .ntpConfigure _ | .ntpRatePolicy _ | .ntpStatus _ | .ntsKeyLoad _ | .ntsKeyRotate _ | .ntsCookieMint _
  | .rcptConfigure _ | .rcptStatus _ | .boundRead _ | .boundPolicy _ | .pairConfigure _ | .pairStatus _ | .pairClaimSet _
  | .pairSwitch _ | .pairResync _ | .pairSelftestReport _ | .keyWrite _ | .keyErase _ | .keyInfo _ | .lcStatus _ | .lcAdvance _
  | .attestQuote _ | .attestMeasurements _ | .audPortConfigure _ | .audGroupConfigure _ | .audGroupStart _ | .audGroupStop _
  | .audStatus _ | .recCommitNow _ | .recConfigure _ | .recRead _ | .perfRead _ | .perfFilterSet _ | .perfWindowSet _
  | .sysConfigCommit _ | .mirroredCommit | .ringConfigure _ | .ringStatus _ | .registerWrite _ _ _ _ _ | .irqCauseClear _ _ _ _
  | .ringCtrlWrite _ _ _ _ | .doorbellWrite _ _ _ _ | .cmdSubmit _ _ | .hostLoadBlock _ _ | .resultStatusRead _ _
  | .msixUnmask _ _ _ | .sysIdentify _ | .sysConfigDigest _ | .sysEcho _ | .powerOn _ | .powerGoodFall _ _ | .powerRemoved _
  | .resetNAssert _ _ | .resetEnd _ _ _ _ | .watchdogReset | .thermalShutdown _ _ | .bpllLock _ _ | .fuseRead _ | .sramTest _ _
  | .imageLoad _ _ _ | .keyDerive _ | .dealerStart _ _ | .ready _ | .sysStatus _ | .sysResetBlock _ | .badOpcode _ _
  | .configImageExec _ | .mirrorRx _ _ | .lockstepInputRx _ _ => true
  | _ => false

/-- The rows that the watch domain, the supplies, the pins and the fuse logic bring about without a root-derived clock (R19). -/
def watchClocked : Instr → Bool
  | .powerOn _ | .powerGoodRise _ | .powerGoodFall _ _ | .powerRemoved _ | .resetNAssert _ _ | .resetEnd _ _ _ _ | .watchdogExpiry _
  | .watchdogReset | .thermalShutdown _ _ | .thermalRelease _ _ | .thermalWarn _ _ | .thermalWarnClear _ _ | .bpllLock _ _
  | .lossOfLock _ _ | .claimFrameTx _ _ | .claimFrameRx _ _ | .claimQuiet _ | .claimAbsent | .claimInForce | .enableRise | .enableFall
  | .selfFault _ _ _ | .advanceDone _ _ _ | .pcieReset _ _ => true
  | _ => false

/-- The startup stages and the life cycle of a chip: the Dealer accepts commands at READY only, device reset is stage 0, and the
life-cycle state is one of the five (R19, R450, R559). -/
abbrev bootOk (s : State) : Prop :=
  (s.boot.stage ≤ 9 ∨ s.boot.stage = 15) ∧ (s.boot.cmdReady = true → s.boot.stage = 9) ∧
  (s.boot.inReset = true ↔ s.boot.stage = 0) ∧ s.attest.lc ≤ 4

end Sys2Proof.Machine
end

