-- ==== Sys2Proof/Certificates/Slice0/Obligations.lean ====
section
/-! DEFINITION. The statements for the provers, by chapter of the spec: each command and event with its conditions and its effect, what it
leaves alone, the reset values, and the invariants that every step keeps. -/
open Sys2Proof Sys2Proof.Machine Host

/-- The queue rule of a block. -/
def Obligations.StepRunsTheFrontCommand : Prop :=
  (∀ (c : Instr) (rest : List Instr) (s : State), s.pending = c :: rest → step s = exec c { s with pending := rest }) ∧
  (∀ s : State, s.pending = [] → step s = .next (idle s)) ∧
  (∀ (nbits w : Nat) (s : State), decodeTableWord nbits w = none ∧ s.withFetchWord nbits w = s)

/-- The state right after reset, and device reset (R555, R559, R573). -/
def Obligations.DeviceResetLeavesResetValues : Prop :=
  (State.reset.pending = [] ∧ State.reset.boot.inReset = true ∧ State.reset.boot.stage = 0 ∧ running State.reset = false ∧
    State.reset.time.counter.total = 0 ∧ State.reset.time.valid = false ∧
    (∀ w, w ∈ State.reset.host.cause → w = 0#32) ∧ (∀ w, w ∈ State.reset.host.enable → w = 0#32) ∧ State.reset.host.cause.length = 16 ∧
    (∀ g, g ∈ State.reset.host.rings → g.enable = false) ∧ State.reset.host.rings.length = 256 ∧
    (∀ x, x ∈ State.reset.host.slots → x.pending = false) ∧ State.reset.host.slots.length = 256 ∧
    State.reset.shadow = State.reset.work ∧ State.reset.pair.live = false) ∧
  (∀ (cause : Nat) (s : State), let t := deviceReset cause s
    t.pending = s.pending ∧ t.now = s.now ∧ t.root = State.reset.root ∧ t.time = State.reset.time ∧ t.host = State.reset.host ∧
    t.refs = State.reset.refs ∧ t.sels = State.reset.sels ∧ t.dplls = State.reset.dplls ∧ t.hold = State.reset.hold ∧
    t.shadow = State.reset.shadow ∧ t.work = State.reset.work ∧ t.pair = State.reset.pair ∧ t.fuse = s.fuse ∧
    t.attest.lc = lcOfRows s.fuse.rows ∧ t.boot.faults = s.boot.faults ∧ t.boot.resetCause = cause ∧ t.boot.inReset = true ∧ t.boot.stage = 0 ∧
    t.boot.cmdReady = false ∧ t.boot.powerGood = s.boot.powerGood ∧ t.boot.vddio = s.boot.vddio ∧ t.boot.thermalHold = s.boot.thermalHold)

/-- BAD_OPCODE, the header check, a slot that is pending, and the reply (R492 to R499, R528). -/
def Obligations.DealerAnswersEveryPacket : Prop :=
  (∀ (op : Nat) (q : Req) (s : State), handlerOf op = none → startsAt op q s = true →
    exec (.badOpcode op q) s = .next (reply op q 0x10 0 [] (started op q s))) ∧
  (∀ (op : Nat) (h : Nat → Handler) (q : Req) (s : State), let x := begin_ q.time s
    accepting x = true → headerBad q = true → isMirrored q = false → x.host.queue = [] → slotFree q x = true →
    (started op q s).host.pcie.go = false → (started op q s).host.spi.go = false →
    runCmdAt op h q s = reply op q 0x11 0xFFFF [] (started op q s)) ∧
  (∀ (op : Nat) (h : Nat → Handler) (q : Req) (s : State), let x := begin_ q.time s
    accepting x = true → queued op q x.host.queue = none → usesSlot q = true → (nth x.host.slots (slotOf q)).pending = true →
    let t := runCmdAt op h q s
    causeStands 0 11 t ∧ t.host.queue = x.host.queue ∧ t.host.slots = x.host.slots ∧
    plain t = plain { x with host := { x.host with pcie := t.host.pcie, spi := t.host.spi } }) ∧
  (∀ (op : Nat) (q : Req) (st d : Nat) (data : Bytes) (s : State), isMirrored q = false → usesSlot q = true → slotOf q < s.host.slots.length →
    let t := reply op q st d data s
    let r := nth t.host.slots (slotOf q)
    r.pending = false ∧ r.opcode = op ∧ r.tag = q.tag.toNat ∧ r.status = st ∧ r.detail = d ∧ r.readCount = 0 ∧ r.data.take data.length = data ∧
    r.data.length = (data.length + 3) / 4 * 4 ∧ r.length = r.data.length / 4 ∧
    (∀ k, k ≠ slotOf q → t.host.slots[k]? = s.host.slots[k]?) ∧ base t = base s)

/-- SYS_IDENTIFY, SYS_STATUS, SYS_CONFIG_DIGEST and SYS_ECHO (R521, R523, R524, R573). -/
def Obligations.SystemReportsComplete : Prop :=
  (∀ (q : Req) (s : State), startsAt 0x0100 q s = true → fits q 0 [] →
    let x := started 0x0100 q s
    ∃ data, exec (.sysIdentify q) s = done 0x0100 q data x ∧ data.length = 48 ∧ fld data 0 2 = 0x9624 ∧ fld data 2 1 = 0xA0 ∧
      fld data 3 1 = x.attest.lc % 256 ∧ fld data 12 1 = (b2n x.boot.pairId + 2 * x.boot.bootSrc + 8 * b2n x.boot.spiQuad) % 256 ∧
      fld data 24 4 = x.boot.romVersion % 2 ^ 32 ∧ fld data 28 4 = x.boot.dealerVersion % 2 ^ 32 ∧
      fld data 40 1 = (x.host.linkWidth + 16 * x.host.linkGen) % 256) ∧
  (∀ (q : Req) (s : State), startsAt 0x0101 q s = true → fits q 4 [inF 0 1 0 1, rsvF 1 3] →
    let x := started 0x0101 q s
    ∃ data, exec (.sysStatus q) s = done 0x0101 q data { x with
        free := x.free + 8
        boot := if fld q.params 0 1 = 1 then { x.boot with faults := x.boot.faults.filter fun e => e.ps / tickPs == x.now / tickPs, faultOverflow := false } else x.boot } ∧
      data.length = 64 + 16 * x.boot.faults.length ∧ fld data 0 1 = x.boot.stage % 256 ∧ fld data 1 1 = x.attest.lc % 256 ∧
      (fld data 2 2).testBit 0 = x.boot.cmdReady ∧ (fld data 2 2).testBit 1 = x.pair.live ∧ (fld data 2 2).testBit 2 = x.pair.enable ∧
      (fld data 2 2).testBit 4 = x.time.valid ∧ fld data 4 1 = x.boot.resetCause % 256 ∧ fld data 5 1 = x.boot.faults.length % 256 ∧
      fld data 8 4 = x.boot.bootTime % 2 ^ 32) ∧
  (∀ (q : Req) (s : State), startsAt 0x0104 q s = true → fits q 0 [] →
    let x := started 0x0104 q s
    ∃ data, exec (.sysConfigDigest q) s = done 0x0104 q data x ∧ data.take x.host.digest.length = x.host.digest ∧
      fld data x.host.digest.length 4 = x.host.commitCount % 2 ^ 32 ∧
      fld data (x.host.digest.length + 4) 1 = (if x.shadow = x.work then 0 else 1)) ∧
  (∀ (q : Req) (s : State), startsAt 0x0105 q s = true → (begin_ q.time s).host.queue = [] →
    let x := started 0x0105 q s
    ∃ data, exec (.sysEcho q) s = done 0x0105 q data x ∧ data.take 12 = tsBytes (curTs x) ∧ slice data 12 12 = tsBytes (curTs x) ∧
      data.drop 32 = slice q.params 0 (4 * q.length.toNat))

/-- SYS_CONFIG_COMMIT and MIRRORED_COMMIT (R21, R406, R522). -/
def Obligations.ConfigurationIsCommitted : Prop :=
  (∀ (q : Req) (s : State), startsAt 0x0103 q s = true → fits q 4 [inF 0 1 0 2, rsvF 1 3] →
    let x := started 0x0103 q s
    let y := nextTick x
    (fld q.params 0 1 = 2 → ∃ data, exec (.sysConfigCommit q) s = done 0x0103 q data { x with shadow := x.work } ∧ fld data 12 4 = x.host.commitCount % 2 ^ 32) ∧
    (fld q.params 0 1 = 1 → commitFails x x.shadow = none → ∃ data, exec (.sysConfigCommit q) s = done 0x0103 q data x ∧ fld data 12 4 = x.host.commitCount % 2 ^ 32) ∧
    (fld q.params 0 1 = 1 → ∀ st op, commitFails x x.shadow = some (st, op) → exec (.sysConfigCommit q) s = .next (reply 0x0103 q st op [] x)) ∧
    (fld q.params 0 1 = 0 → x.work.pair.mode ≠ 1 ∨ q.src ≠ .partner →
      (commitFails y x.shadow = none → ∃ data e, exec (.sysConfigCommit q) s = done 0x0103 q data e ∧ e.work = e.shadow ∧
        e.work.refs = x.shadow.refs ∧ e.work.sels = x.shadow.sels ∧ e.work.dplls = x.shadow.dplls ∧ e.work.meld = x.shadow.meld ∧
        e.work.gnss = x.shadow.gnss ∧ e.work.outs = x.shadow.outs ∧ e.work.tdc = x.shadow.tdc ∧ e.work.ports = x.shadow.ports ∧
        e.work.svc = x.shadow.svc ∧ e.work.ptp = x.shadow.ptp ∧ e.work.ntp = x.shadow.ntp ∧ e.work.pair = x.shadow.pair ∧
        e.work.rings = x.shadow.rings ∧ e.work.aud = x.shadow.aud ∧ e.work.rec_ = x.shadow.rec_ ∧
        e.host.committed = true ∧ fld data 12 4 = e.host.commitCount % 2 ^ 32) ∧
      (∀ st op, commitFails y x.shadow = some (st, op) → exec (.sysConfigCommit q) s = .next (reply 0x0103 q st op [] x))) ∧
    (fld q.params 0 1 = 0 → x.work.pair.mode = 1 → q.src = .partner → exec (.sysConfigCommit q) s = .next { x with
      host := { x.host with waits := x.host.waits ++ [{ key := .mirroredCommit, opcode := 0x0103, req := q }] }
      pair := { x.pair with commitFrom := x.pair.commitFrom.orElse fun _ => some x.now } })) ∧
  (∀ (s : State) (t : Nat) (w : Wait), running s = true → s.pair.commitFrom = some t → s.host.waits = [w] → w.key = .mirroredCommit →
    let y : State := handFrom (waitUntil (t + 100000000) { s with out := [] })
    let z : State := { y with pair := { y.pair with commitFrom := none } }
    (∀ st op, commitFails z z.shadow = some (st, op) → exec .mirroredCommit s = .next (finishWait .mirroredCommit st op [] z)) ∧
    (commitFails z z.shadow = none → ∃ e, exec .mirroredCommit s = .next (finishWait .mirroredCommit 0 0 (commitReply e e.host.lastCommit) e) ∧
      e = applyCommit z))

/-- SYS_RESET_BLOCK and BLOCK_RESET_DONE (R574). -/
def Obligations.BlocksAreReset : Prop :=
  (∀ (q : Req) (s : State), startsAt 0x0102 q s = true →
    let b := fld q.params 0 1
    let i := fld q.params 1 1
    let x := started 0x0102 q s
    fits q 4 [inF 0 1 1 5, inF 1 1 0 (blockIndexMax b), rsvF 2 2] →
    (blockRefused b i x = true → exec (.sysResetBlock q) s = .next (reply 0x0102 q 0x12 0 [] x)) ∧
    (blockRefused b i x = false → ∃ t', exec (.sysResetBlock q) s = .next t' ∧ kept t' = kept x ∧ waitsFor (.blockReset b i) t' = true ∧
      (b = 1 → t'.gnss.change = (if x.gnss.change = some .stop then some .stop else some .restart) ∧ t'.gnss.nav = []) ∧
      (b = 2 → t'.tdc.calibrating = true) ∧ (b = 3 → i < x.ports.length → (portOf t' i).state = .calibrating) ∧
      (b = 4 → i < x.aud.groups.length → (audGroup t' i).stop ≠ none) ∧
      (b = 5 → i < x.pair.lanes.length → laneOn x.work.pair i = true → (laneOf t' i).state = .calibrating))) ∧
  (∀ (t b i : Nat) (s : State) (w : Wait), let x := begin_ t s
    running x = true → x.host.waits.find? (fun w => w.key == .blockReset b i) = some w → isMirrored w.req = false → blockSettled b i x = true →
    ∃ t', exec (.blockResetDone t b i) s = .next t' ∧ causeStands 1 5 t' ∧ t'.host.waits = x.host.waits.erase w ∧
      plain t' = plain { x with host := { x.host with waits := t'.host.waits } })

/-- RATE_NOM and RATE after device reset (R35). -/
def Obligations.NominalRateAfterReset : Prop :=
  rateNom = 0x000199999999999A ∧ rateNom = 450359962737050 ∧ 10 * rateNom ≤ 16 * 2 ^ 48 + 5 ∧ 16 * 2 ^ 48 ≤ 10 * rateNom + 5 ∧
  State.reset.time.rate = rateNom ∧ ∀ (cause : Nat) (s : State), (deviceReset cause s).time.rate = rateNom

/-- FREQ of a rate word, and back (R36). -/
def Obligations.FrequencyOfRateWord : Prop :=
  (∀ r : Nat, freqOfRate r = (r : Int) * 40960 - 2 ^ 64) ∧ (∀ r : Nat, rateOfFreq (freqOfRate r) = r) ∧
  (∀ f : Int, 0 ≤ f + 2 ^ 64 → 40960 * rateOfFreq f ≤ f + 2 ^ 64 + 20480 ∧ f + 2 ^ 64 < 40960 * rateOfFreq f + 20480)

/-- The tick (R33, R39, R46) that an idle step is (a choice of the model). -/
def Obligations.TickAddsTheIncrement : Prop :=
  ∀ s : State, s.pending = [] →
    ∃ t, step s = .next t ∧ t.now = (s.now / 1600 + 1) * 1600 ∧
      (running s = false → t = { s with now := t.now, out := [] }) ∧
      (running s = true →
        t = { s with now := t.now, time := t.time, score := t.score, incSum := t.incSum, out := [] } ∧
        t.time = { s.time with counter := t.time.counter, slewRem := t.time.slewRem, fdomAcc := t.time.fdomAcc, course := t.time.course } ∧
        t.time.fdomAcc = List.zipWith (fun acc r => acc + r) s.time.fdomAcc s.time.fdomRate ∧
        (s.time.slewing = false → t.time.slewRem = s.time.slewRem ∧ t.incSum = s.incSum + s.time.rate ∧
          (s.time.counter.total + s.time.rate < 2 ^ 48 * 1000000000 * 2 ^ 48 → t.time.counter.total = s.time.counter.total + s.time.rate)) ∧
        (s.time.slewing = true → 0 < s.time.slewInc → s.time.slewInc ≤ s.time.rate →
          let m := min s.time.slewInc s.time.slewRem.natAbs
          t.time.slewRem.natAbs + m = s.time.slewRem.natAbs ∧
          (s.time.slewRem < 0 → t.time.slewRem = s.time.slewRem + m ∧
            (s.time.counter.total + s.time.rate < 2 ^ 48 * 1000000000 * 2 ^ 48 → t.time.counter.total + m = s.time.counter.total + s.time.rate)) ∧
          (0 ≤ s.time.slewRem → t.time.slewRem = s.time.slewRem - m ∧
            (s.time.counter.total + s.time.rate + m < 2 ^ 48 * 1000000000 * 2 ^ 48 → t.time.counter.total = s.time.counter.total + s.time.rate + m))))

/-- TIME_READ and TIME_LATCH_LO_READ (R10, R16, R60, R63). -/
def Obligations.TimeIsReadFromOneTick : Prop :=
  (∀ (q : Req) (s : State), startsAt 0x0410 q s = true → fits q 0 [] →
    let x := started 0x0410 q s
    let c := x.time.counter
    ∃ data, exec (.timeRead q) s = done 0x0410 q data x ∧ data.length = 80 ∧
      (c.sec < 2 ^ 48 → c.ns < 1000000000 → c.frac < 2 ^ 48 →
        fld data 0 2 = c.frac / 2 ^ 32 ∧ fld data 2 4 = c.ns ∧ fld data 6 6 = c.sec) ∧
      (fld data 12 4).testBit 0 = x.time.valid ∧ fld data 16 8 = boundPs (counterBound x) % 2 ^ 64 ∧ fld data 24 8 = x.time.rate % 2 ^ 64 ∧
      fld data 32 8 = (((x.time.rate : Int) * 40960 - 2 ^ 64) % 2 ^ 64).toNat ∧ fld data 40 4 = x.time.stepEpoch % 2 ^ 32 ∧
      fld data 44 2 = (offsetInForce x.time c.sec % 2 ^ 16).toNat) ∧
  (∀ (i : Iface) (t : Nat) (s : State), let x := begin_ t s
    answers x i = true →
    ∃ t', exec (.timeLatchLoRead i t) s = .next t' ∧ ∃ w : Word, t'.out = [.readData i w] ∧ w.toNat % 2 = b2n x.time.valid ∧
      let l := (bankOf t' i).latch
      l.lo = w ∧ l.ns.toNat = x.time.counter.ns % 2 ^ 32 ∧ l.secLo.toNat = x.time.counter.sec % 2 ^ 32 ∧
      l.count = (bankOf x i).latch.count + 1 ∧
      l.boundLo.toNat = boundPs (counterBound x) % 2 ^ 32 ∧
      t' = { updBank i (fun b => { b with latch := l }) x with out := t'.out })

/-- TIME_SET, TIME_STEP and SCHEDULED_STEP_APPLY (R41 to R45, R64 to R66). -/
def Obligations.TimeIsSetAndStepped : Prop :=
  (∀ (q : Req) (s : State), startsAt 0x0411 q s = true → fits q 32 [tsF 0, tsF 12, boundF 24] →
    let x := started 0x0411 q s
    let y := nextTick x
    let p := q.params
    isDummy x = false → tracking (tdpll x).state = false →
    (tsOfField (fld p 12 12) = 0 → ∃ data e, exec (.timeSet q) s = done 0x0411 q data (if x.time.valid then e else evalAll e) ∧
      e.time.counter = counterOf (tsOfField (fld p 0 12) * 2 ^ 32) ∧ e.time.valid = true ∧ e.time.slewing = false ∧ e.time.slewRem = 0 ∧ e.time.pend = none ∧
      e.time.stepEpoch = (x.time.stepEpoch + 1) % 2 ^ 32 ∧ e.hold.b0 = (if fld p 24 8 ≥ 0xFFFFFFFFFF then none else some (fld p 24 8 * 256)) ∧
      causeStands 4 1 e ∧ (x.time.pend.isSome = true → causeStands 4 2 e) ∧ (x.time.valid = false → causeStands 4 0 e) ∧
      data.length = 20 ∧ fld data 12 4 = e.time.stepEpoch ∧ fld data 16 4 = 0 ∧
      plain e = plain { y with time := e.time, hold := e.hold, meld := e.meld, bound := e.bound, refs := e.refs, hand := e.hand }) ∧
    (curTs x < tsOfField (fld p 12 12) → x.time.pend = none → ∃ data, exec (.timeSet q) s = done 0x0411 q data { x with
      time := { x.time with pend := some { kind := .set (tsOfField (fld p 0 12)) (fld p 24 8), applyAt := tsOfField (fld p 12 12) } } } ∧
      data.length = 20 ∧ fld data 16 4 = 1)) ∧
  (∀ (q : Req) (s : State), startsAt 0x0412 q s = true → fits q 24 (stepFields q.params) →
    let x := started 0x0412 q s
    let y := nextTick x
    let p := q.params
    isDummy x = false → tracking (tdpll x).state = false →
    (tsOfField (fld p 8 12) = 0 → (fld p 20 4).testBit 0 = false → stepOutOfRange (fldI p 0 8) y = false → ∃ data e, exec (.timeStep q) s = done 0x0412 q data e ∧
      (e.time.counter.total : Int) = y.time.counter.total + fldI p 0 8 * 2 ^ 32 ∧ e.time.stepEpoch = (x.time.stepEpoch + 1) % 2 ^ 32 ∧
      e.time.pend = x.time.pend ∧ e.time.valid = x.time.valid ∧ e.time.slewRem = y.time.slewRem ∧
      e.hold.b0 = x.hold.b0.map (· + offBound (fldI p 0 8)) ∧ causeStands 4 1 e ∧ data.length = 20 ∧ fld data 12 4 = e.time.stepEpoch ∧ fld data 16 4 = 0 ∧
      plain e = plain { y with time := e.time, hold := e.hold, bound := e.bound, refs := e.refs, hand := e.hand }) ∧
    ((fld p 20 4).testBit 0 = true → ∀ c, x.time.pend = some c → ∃ data e, exec (.timeStep q) s = done 0x0412 q data e ∧ causeStands 4 2 e ∧
      fld data 16 4 = 2 ∧ plain e = plain { x with time := { x.time with pend := none } })) ∧
  (∀ (q : Req) (s : State), startsAt 0x0412 q s = true → fits q 24 (stepFields q.params) →
    let x := started 0x0412 q s
    isDummy x = false → tracking (tdpll x).state = true →
    exec (.timeStep q) s = .next (reply 0x0412 q 0x12 0 [] x)) ∧
  (∀ (s : State) (off : Int) (at_ : Nat), running s = true → s.time.pend = some { kind := .step off, applyAt := at_ } →
    let y := moveToCounter (at_ * 2 ^ 32) { s with out := [] }
    stepOutOfRange off y = false →
    ∃ t', exec .scheduledStepApply s = .next t' ∧ t'.time.pend = none ∧ (t'.time.counter.total : Int) = y.time.counter.total + off * 2 ^ 32 ∧
      t'.time.stepEpoch = (s.time.stepEpoch + 1) % 2 ^ 32 ∧ causeStands 4 1 t' ∧
      plain t' = plain { y with time := t'.time, hold := t'.hold, bound := t'.bound, refs := t'.refs, hand := t'.hand })

/-- TIME_SLEW and SLEW_DONE (R46, R47, R67). -/
def Obligations.SlewsRunAndEnd : Prop :=
  (∀ (q : Req) (s : State), startsAt 0x0413 q s = true → fits q 20 (slewFields q.params) →
    let x := started 0x0413 q s
    let p := q.params
    let old := if x.time.slewing then x.time.slewRem else 0
    isDummy x = false → tracking (tdpll x).state = false →
    ((fld p 16 4).testBit 0 = false → -(2 ^ 95) ≤ old + fldI p 0 8 * 2 ^ 32 → old + fldI p 0 8 * 2 ^ 32 ≤ (2 ^ 63 - 1) * 2 ^ 32 →
      let y := nextTick { x with time := { x.time with
        slewing := true, slewOwner := .host, slewRem := old + fldI p 0 8 * 2 ^ 32, slewInc := fld p 8 8 / 40960 } }
      ∃ data e, exec (.timeSlew q) s = done 0x0413 q data e ∧ e.time = y.time ∧
        data.length = 32 ∧ fldI data 8 8 = truncDivI (old + fldI p 0 8 * 2 ^ 32) (2 ^ 32) ∧
        plain e = plain { y with hold := e.hold, bound := e.bound }) ∧
    ((fld p 16 4).testBit 0 = true →
      let y := nextTick { x with time := { x.time with slewing := false, slewRem := 0, slewInc := 0 } }
      ∃ data e, exec (.timeSlew q) s = done 0x0413 q data e ∧ e.time = y.time ∧ data.length = 32 ∧ fld data 8 8 = 0 ∧
        plain e = plain { y with hold := e.hold, bound := e.bound })) ∧
  (∀ s : State, running s = true → s.time.slewing = true →
    ∃ t', exec .slewDone s = .next t' ∧ t'.time.slewing = false ∧ t'.time.slewRem = 0 ∧ t'.time.stepEpoch = s.time.stepEpoch ∧ causeStands 4 3 t' ∧
      plain t' = plain { s with now := t'.now, time := t'.time, incSum := t'.incSum, dplls := t'.dplls, hold := t'.hold, bound := t'.bound })

/-- LEAP_CONFIGURE and LEAP_APPLIED (R50 to R52, R68, R69). -/
def Obligations.LeapTable : Prop :=
  (∀ (q : Req) (s : State), startsAt 0x0414 q s = true → fitsN q 16 (leapFields q.params) (leapCount q.params) 16 leapEntryFields →
    let x := started 0x0414 q s
    (fld q.params 3 1 = 0 → ∃ data, exec (.leapConfigure q) s = done 0x0414 q data x ∧ data.length = 16 + 16 * x.time.future.length ∧
      fld data 0 2 = (x.time.currentOffset % 2 ^ 16).toNat ∧ fld data 2 1 = b2n x.time.policyAuto ∧ fld data 8 2 = x.time.future.length % 2 ^ 16) ∧
    (fld q.params 3 1 = 1 → leapsOk (fldI q.params 0 2) none x.time.future = true → ∃ data, exec (.leapConfigure q) s = done 0x0414 q data { x with
      time := { x.time with currentOffset := fldI q.params 0 2, utcConfirmed := true } })) ∧
  (∀ (s : State) (e : LeapEntry) (es : List LeapEntry), running s = true → s.time.future = e :: es →
    ∃ t', exec .leapApplied s = .next t' ∧ t'.time.currentOffset = e.newOffset ∧ t'.time.future = es ∧
      t'.time.past = some { entry := e, preceding := s.time.currentOffset } ∧ t'.time.stepEpoch = s.time.stepEpoch ∧ causeStands 4 4 t' ∧
      (es = [] → ∀ sec, offsetInForce t'.time sec = if e.leapTai ≤ sec then e.newOffset else s.time.currentOffset) ∧
      plain t' = plain { s with now := t'.now, time := t'.time, incSum := t'.incSum })

/-- REF_CONFIGURE, REF_QUALIFY_POLICY and REF_STATUS (R93 to R96). -/
def Obligations.ReferencesAreConfigured : Prop :=
  (∀ (q : Req) (s : State) (o : Nat), startsAt 0x0300 q s = true → fits q 40 (refCfgFields q.params) →
    let x := started 0x0300 q s
    let p := q.params
    let c : RefCfg :=
      { enable := fld p 2 1 == 1, mode := fld p 3 1, edge := fld p 4 1, inputMode := fld p 5 1, glitchNs := fld p 6 1, todLabel := fld p 7 1
        freqNum := fld p 8 4, freqDen := fld p 12 4, divider := fld p 16 4, todBaud := fld p 20 4, compensation := fldI p 24 8, claimed := fld p 32 8 }
    let refs := x.shadow.refs.set o c
    let tods := (List.range 12).filter fun k => (nth refs k).enable && (nth refs k).mode == 3
    ordOf (fld p 0 2) = some o →
    (tods.length ≤ 1 → exec (.refConfigure q) s = done 0x0300 q [] { x with shadow := { x.shadow with refs := refs } }) ∧
    (1 < tods.length → exec (.refConfigure q) s = .next (reply 0x0300 q 0x20 0 [] x))) ∧
  (∀ (q : Req) (s : State) (o : Nat), startsAt 0x0302 q s = true → fits q 64 (refPolFields q.params) →
    let x := started 0x0302 q s
    let p := q.params
    let c : RefPol :=
      { freqWindow := fld p 2 1, losCount := fld p 3 1, qualTime := fld p 4 1, wtr := fld p 5 1, monBasis := fld p 6 1, qlRankMax := fld p 7 1
        softSet := fld p 8 4, softClear := fld p 12 4, hardSet := fld p 16 4, hardClear := fld p 20 4, pulseWindow := fld p 24 8
        phaseJump := fld p 32 8, phaseLimit := fld p 40 8, maxUncertainty := fld p 48 8, clockClassMax := fld p 56 1 }
    ordOf (fld p 0 2) = some o →
    (fld p 6 1 ≠ 1 ∨ x.shadow.meld.enable = true → exec (.refQualifyPolicy q) s = done 0x0302 q [] { x with shadow := { x.shadow with pols := x.shadow.pols.set o c } }) ∧
    (fld p 6 1 = 1 → x.shadow.meld.enable = false → exec (.refQualifyPolicy q) s = .next (reply 0x0302 q 0x12 0 [] x))) ∧
  (∀ (q : Req) (s : State), startsAt 0x0301 q s = true →
    fits q 4 [F 0 2 (fun v => v == 0xFFFF || (ordOf v).isSome), inF 2 2 0 1] →
    let x := started 0x0301 q s
    (∀ (o : Nat) (r : RefRun), fld q.params 0 2 ≠ 0xFFFF → ordOf (fld q.params 0 2) = some o → x.refs[o]? = some r →
      ∃ data, exec (.refStatus q) s = done 0x0301 q data (if (fld q.params 2 2).testBit 0 then { x with refs := x.refs.set o { r with events := 0 } } else x) ∧
        data.length = 56 ∧ fld data 0 2 = idOf o % 65536 ∧ fld data 2 1 = (match r.state with
          | .disabled => 0 | .failed => 1 | .qualifying => 2 | .qualified => 3 | .wtr => 4 | .suspect => 5) ∧
        fld data 4 2 = r.cause % 65536 ∧ fld data 6 2 = r.events % 65536 ∧ fld data 24 8 = r.claimed % 2 ^ 64 ∧
        fld data 44 4 = r.samples % 2 ^ 32 ∧ fld data 48 2 = r.lastCause % 65536) ∧
    (fld q.params 0 2 = 0xFFFF → ∃ data, exec (.refStatus q) s = done 0x0301 q data
      (if (fld q.params 2 2).testBit 0 then { x with refs := x.refs.map fun r => { r with events := 0 } } else x) ∧ data.length = 16))

/-- SEL_CONFIGURE, SEL_SELECT, SEL_STATUS and SEL_FORCE_RESTORE (R87, R97 to R100). -/
def Obligations.SelectorsAreCommanded : Prop :=
  (∀ (q : Req) (s : State), startsAt 0x0310 q s = true →
    let x := started 0x0310 q s
    let p := q.params
    let d := fld p 0 1
    let n := min 32 (fld p 3 1)
    fitsN q 16 [inF 0 1 0 3, inF 1 1 0 3, timerF 2, inF 3 1 0 32, anyF 4 4, whenF (d == 0) 8 8 0 (2 ^ 63 - 1)] n 4
      (fun k => [F (16 + 4 * k) 2 (fun v => match ordOf v with
          | none => false
          | some o => freshSource p k && classFits x.shadow d o), anyF (18 + 4 * k) 1, inF (19 + 4 * k) 1 0 1]) →
    let c : SelCfg :=
      { revertive := (fld p 1 1).testBit 0, meldVote := (fld p 1 1).testBit 1, splitTime := fld p 2 1, splitFreq := fld p 4 4, splitPhase := fld p 8 8
        slate := (List.range n).map fun k =>
          { ord := (ordOf (fld p (16 + 4 * k) 2)).getD 0, bid := fld p (18 + 4 * k) 1, lockout := (fld p (19 + 4 * k) 1).testBit 0 } }
    exec (.selConfigure q) s = done 0x0310 q [] { x with shadow := { x.shadow with sels := x.shadow.sels.set d c } }) ∧
  (∀ (q : Req) (s : State) (r : SelRun), startsAt 0x0311 q s = true →
    let x := started 0x0311 q s
    let y := nextTick x
    let p := q.params
    let d := fld p 0 1
    let act := fld p 1 1
    let k := fld p 2 1
    let sl := (nth x.work.sels d).slate
    let bad := act = 0 ∧ (sl.length ≤ k ∨ (nth sl k).bid = 0 ∨ (nth sl k).lockout = true)
    fits q 4 [inF 0 1 0 3, inF 1 1 0 2, whenF (act == 0) 2 1 0 31, rsvF 3 1] →
    (isDummy x = true → exec (.selSelect q) s = .next (reply 0x0311 q 0x21 0 [] x)) ∧
    (isDummy x = false → bad → exec (.selSelect q) s = .next (reply 0x0311 q 0x11 2 [] x)) ∧
    (isDummy x = false → ¬ bad → y.sels[d]? = some r →
      ∃ data e r', exec (.selSelect q) s = done 0x0311 q data e ∧ e = evalAll { y with sels := y.sels.set d r' } ∧ data.length = 4 ∧
        r' = { r with mode := if act = 0 then .manual else if act = 1 then .automatic else .none, pick := if act = 0 then some k else none } ∧
        fld data 0 1 = ((nth e.sels d).selected.getD 0xFF) % 256)) ∧
  (∀ (q : Req) (s : State), startsAt 0x0312 q s = true → fits q 4 [inF 0 1 0 3, rsvF 1 3] →
    let x := started 0x0312 q s
    let d := fld q.params 0 1
    let r := nth x.sels d
    ∃ data, exec (.selStatus q) s = done 0x0312 q data x ∧ fld data 0 1 = d % 256 ∧
      fld data 1 1 = (match r.mode with | .automatic => 0 | .manual => 1 | .none => 2) ∧ fld data 2 1 = (r.selected.getD 0xFF) % 256 ∧
      fld data 12 4 = r.switchCount % 2 ^ 32 ∧ fld data 28 1 = (nth x.work.sels d).slate.length % 256) ∧
  (∀ (q : Req) (s : State) (o : Nat), startsAt 0x0313 q s = true → fits q 4 [srcF 0, rsvF 2 2] → ordOf (fld q.params 0 2) = some o →
    let x := started 0x0313 q s
    let y := nextTick x
    let r := refOf y o
    ((r.state = .wtr ∨ r.state = .qualifying) → r.timer.isSome = true →
      exec (.selForceRestore q) s = done 0x0313 q [] (evalAll (refEvent o 5 none (toQualified o y)))) ∧
    (¬ (r.state = .wtr ∨ r.state = .qualifying) ∨ r.timer = none → exec (.selForceRestore q) s = .next (reply 0x0313 q 0x12 0 [] x)))

/-- The choice of a selector (R71, R86 to R88, R92). -/
def Obligations.SelectorChoice : Prop :=
  ∀ (s : State) (d : Nat),
    let c := nth s.work.sels d
    let r := nth s.sels d
    (r.mode = .none ∨ eligibles s d = [] → choose s d = none) ∧
    (∀ k, choose s d = some k → k ∈ eligibles s d) ∧
    (∀ k, k ∈ eligibles s d → k < c.slate.length ∧ (refOf s (nth c.slate k).ord).state = .qualified ∧ (nth c.slate k).bid ≠ 0 ∧
      (nth c.slate k).lockout = false ∧ (d = 0 → classOfSrc s.work (nth c.slate k).ord ≠ .freq) ∧
      (d = 0 → classOfSrc s.work (nth c.slate k).ord = .phase → s.time.valid = true)) ∧
    (∀ k, r.mode = .manual → r.pick = some k → k ∈ eligibles s d → choose s d = some k) ∧
    (∀ k, r.mode = .automatic → c.revertive = false → r.selected = some k → k ∈ eligibles s d → choose s d = some k) ∧
    (r.mode = .automatic → c.revertive = true → (∀ e, e ∈ c.slate → e.bid < 256) →
      (eligibles s d ≠ [] → ∃ k, choose s d = some k) ∧
      (∀ k j, choose s d = some k → j ∈ eligibles s d → (nth c.slate k).bid ≤ (nth c.slate j).bid) ∧
      (∀ k, r.selected = some k → k ∈ eligibles s d → (∀ j, j ∈ eligibles s d → (nth c.slate k).bid ≤ (nth c.slate j).bid) → choose s d = some k))

/-- REF_SAMPLE, ZDA_SENTENCE, ACTIVITY_MISS, NO_STAMPED_EDGE, FREQ_UPDATE, QUAL_TIME_EXPIRY, WTR_EXPIRY and SPLIT_TIMER. -/
def Obligations.ReferenceEvents : Prop :=
  (∀ (src t w o : Nat) (s : State) (r : RefRun), let x := begin_ t s
    let c := nth x.work.refs o
    let p := 1000000000000 * max 1 c.freqDen * 65536 / (max 1 c.freqNum * 1000)
    ordOf src = some o → kindOf o = .refin → running x = true → x.refs[o]? = some r → r.state ≠ .disabled → c.mode = 0 →
    (c.glitchNs ≠ 0 → w < c.glitchNs * 1000 → ∃ t', exec (.refSample src t (.pulse w)) s = .next t' ∧
      plain t' = plain { x with refs := x.refs.set o { r with events := setBit r.events 6 } }) ∧
    (c.glitchNs = 0 ∨ c.glitchNs * 1000 ≤ w → 0 < p → ∃ y v, exec (.refSample src t (.pulse w)) s = .next (deliver o v false y) ∧ y = { x with refs := y.refs } ∧
      (∀ k, k ≠ o → y.refs[k]? = x.refs[k]?) ∧ v.stamp = ((stampNow x : Int) - c.compensation).toNat ∧ v.unc = c.claimed ∧ v.phaseOk = true ∧
      2 * v.offset ≤ p ∧ -(p : Int) ≤ 2 * v.offset + 1 ∧ ∃ n : Nat, v.offset + v.stamp = n * p)) ∧
  (∀ (t o : Nat) (ok : Bool) (b : Bytes) (s : State) (r : RefRun), running s = true → let x := begin_ t s
    todPin x = some o → x.refs[o]? = some r →
    (ok = false ∨ parseZda b = none ∨ r.pulsePs = none → exec (.zdaSentence t ok b) s = .next { x with refs := x.refs.set o { r with events := setBit r.events 7 } }) ∧
    (∀ utc p, ok = true → parseZda b = some utc → r.pulsePs = some p → p + 10000000000 ≤ x.now → x.now ≤ p + 900000000000 →
      ((nth x.work.refs o).todLabel = 1 → exec (.zdaSentence t ok b) s = .next { x with refs := x.refs.set o { r with pendUtc := some utc } }) ∧
      (∀ w, (nth x.work.refs o).todLabel = 0 → r.awaiting = some w → ∃ v bad tai, exec (.zdaSentence t ok b) s =
          .next (deliver o v bad { x with refs := x.refs.set o { r with awaiting := none, lastLabel := some tai } }) ∧
        v.stamp = w.stamp ∧ v.lag = x.now - w.ps ∧ v.ep = some w.epoch ∧ v.offset = (tai * 65536000000000 : Nat) - (w.stamp : Int) ∧
        (w.timeValid = false → (tai : Int) = max 0 ((utc : Int) + x.time.currentOffset)) ∧
        (∀ l, r.lastLabel = some l → l + 1 ≠ tai → bad = true)))) ∧
  (∀ (src o e : Nat) (s : State) (r : RefRun), running s = true →
    let pol := nth s.work.pols o
    let y := moveTo (e + pol.pulseWindow * 1000 / 65536) { s with out := [] }
    ordOf src = some o → kindOf o = .refin → (nth s.work.refs o).mode ≠ 1 → s.refs[o]? = some r → r.state ≠ .disabled → r.expected = some e →
    (r.misses + 1 < pol.losCount → ∃ next, exec (.activityMiss src) s = .next { y with refs := y.refs.set o { r with expected := some next, misses := r.misses + 1 } } ∧ e ≤ next) ∧
    (pol.losCount ≤ r.misses + 1 → ∃ z, exec (.activityMiss src) s = .next (evalAll z) ∧ (refOf z o).cause.testBit 0 = true ∧ (refOf z o).expected = none ∧
      (r.state = .qualified → (refOf z o).state = .failed ∧ causeStands 3 0 z) ∧ kept z = kept s)) ∧
  (∀ (src o e : Nat) (s : State) (r : RefRun), running s = true →
    ordOf src = some o → classOfSrc s.work o = .freq → s.refs[o]? = some r → r.state ≠ .disabled → r.expected = some e →
    ∃ z, exec (.noStampedEdge src) s = .next (evalAll z) ∧ (refOf z o).cause.testBit 0 = true ∧ (refOf z o).expected = none ∧
      (r.state = .qualified → (refOf z o).state = .failed ∧ causeStands 3 0 z) ∧ kept z = kept s) ∧
  (∀ (src o : Nat) (s : State) (r : RefRun), running s = true →
    let win := winPs (nth s.work.pols o).freqWindow
    let y := moveTo (r.winStart + (r.winUpdates + 1) * (win / 10)) { s with out := [] }
    ordOf src = some o → s.refs[o]? = some r → r.state ≠ .disabled → r.hasSample = true → r.winUpdates + 1 < 10 →
    ∃ marks, exec (.freqUpdate src) s = .next { y with refs := y.refs.set o { r with winUpdates := r.winUpdates + 1, marks := (y.now, y.incSum) :: marks } }) ∧
  (∀ (src o d : Nat) (s : State) (r : RefRun), running s = true →
    let y := moveTo d { s with out := [] }
    ordOf src = some o → s.refs[o]? = some r → r.timer = some d →
    let z := toQualified o y
    (r.state = .qualifying → exec (.qualTimeExpiry src) s = .next (evalAll z)) ∧ (r.state = .wtr → exec (.wtrExpiry src) s = .next (evalAll z)) ∧
    causeStands 3 12 z ∧ plain z = plain { y with refs := y.refs.set o { r with
      state := .qualified, hasQualified := true, qualifiedAt := y.now, timer := none, finding := none, events := setBit r.events 0 } }) ∧
  (∀ (d a b : Nat) (ph : Bool) (s : State) (p : SplitPair) (r : SelRun), running s = true →
    let is := fun (p : SplitPair) => p.a == a && p.b == b && p.byPhase == ph && !p.raised
    let y := moveTo (p.since + timerSec (nth s.work.sels d).splitTime * 1000000000000) { s with out := [] }
    s.sels[d]? = some r → r.splits.find? is = some p →
    ∃ t', exec (.splitTimer d a b ph) s = .next t' ∧ causeStands 3 3 t' ∧
      t'.sels = s.sels.set d { r with splits := r.splits.map fun q => if is q then { q with raised := true } else q } ∧
      ((nth s.work.sels d).meldVote = false → t'.meld = s.meld) ∧
      plain t' = plain { y with sels := t'.sels, meld := { y.meld with vote := t'.meld.vote } })

/-- DPLL_CONFIGURE, DPLL_STATUS, HOLD_MODEL_SET, HOLD_MODEL_READ and JUMP_ACCEPT (R122, R131 to R135). -/
def Obligations.LoopAndHoldoverCommands : Prop :=
  (∀ (q : Req) (s : State), startsAt 0x0400 q s = true → fits q 80 (dpllFields q.params) →
    let x := started 0x0400 q s
    let p := q.params
    let c : DpllCfg :=
      { returnStep := (fld p 1 1).testBit 0, holdSource := b2n ((fld p 1 1).testBit 1), holdAvg := fld p 2 1, holdGuard := fld p 3 1
        lockTime := fld p 4 1, damping := fld p 6 2, bw := fld p 8 4, acqBw := fld p 12 4, lockPhase := fld p 16 8
        slewLimit := fld p 24 8, returnSlew := fld p 32 8, freqSlew := fld p 40 8, freqStepDetect := fld p 48 4
        holdoverSpec := fld p 56 8, cat1 := fld p 64 8, cat2 := fld p 72 8 }
    let bad := (c.holdSource = 1 ∧ x.shadow.meld.enable = false) ∨ (c.holdSource = 0 ∧ x.shadow.hold.holdClock ≠ 0)
    (¬ bad → exec (.dpllConfigure q) s = done 0x0400 q [] { x with shadow := { x.shadow with dplls := x.shadow.dplls.set (fld p 0 1) c } }) ∧
    (bad → exec (.dpllConfigure q) s = .next (reply 0x0400 q 0x12 0 [] x))) ∧
  (∀ (q : Req) (s : State), startsAt 0x0401 q s = true → fits q 4 [inF 0 1 0 3, rsvF 1 3] →
    let x := started 0x0401 q s
    let d := fld q.params 0 1
    let r := nth x.dplls d
    ∃ data, exec (.dpllStatus q) s = done 0x0401 q data x ∧ data.length = 72 ∧ fld data 0 1 = d % 256 ∧
      fld data 1 1 = (match r.state with | .freeRun => 0 | .acquiring => 1 | .locked => 2 | .holdover => 3 | .returning => 4) ∧
      fld data 2 1 = ((nth x.sels d).selected.getD 0xFF) % 256 ∧ (d = 0 → fld data 3 1 = classOf x % 256) ∧ (d ≠ 0 → fld data 3 1 = 0) ∧
      (fld data 4 4).testBit 0 = r.everLocked ∧ (fld data 4 4).testBit 1 = r.rateClamped ∧ (fld data 4 4).testBit 5 = isDummy x ∧
      fld data 40 4 = effNow x d % 2 ^ 32 ∧ fld data 44 4 = r.lockCount % 2 ^ 32 ∧ fld data 64 2 = r.lastJumpSource % 2 ^ 16) ∧
  (∀ (q : Req) (s : State), startsAt 0x0420 q s = true → fits q 72 (holdFields q.params) →
    let x := started 0x0420 q s
    let p := q.params
    let c : HoldCfg :=
      { holdClock := fld p 0 2, atomic := (fld p 2 1).testBit 0, useLearned := (fld p 2 1).testBit 1, resetLearning := (fld p 2 1).testBit 2
        learnHours := fld p 4 2, aSup := fld p 8 8, dSup := fld p 16 8, qSup := fld p 24 8, steerMode := fld p 32 1
        steerExp := fld p 33 1, relative := (fld p 34 1).testBit 0, ackRequired := (fld p 34 1).testBit 1, steerPeriod := fld p 35 1
        oscBaud := fld p 36 4, steerMax := fld p 40 4, steerTol := fld p 47 1, pref := slice p 48 (fld p 44 1)
        suffix := slice p 60 (fld p 45 1), ack := slice p 64 (fld p 46 1) }
    (meldSlotOf x.shadow c.holdClock ≠ none → exec (.holdModelSet q) s = done 0x0420 q [] { x with shadow := { x.shadow with hold := c } }) ∧
    (meldSlotOf x.shadow c.holdClock = none → exec (.holdModelSet q) s = .next (reply 0x0420 q 0x12 0 [] x))) ∧
  (∀ (q : Req) (s : State), startsAt 0x0421 q s = true → fits q 0 [] →
    let x := started 0x0421 q s
    ∃ data, exec (.holdModelRead q) s = done 0x0421 q data x ∧ data.length = 104 ∧ fld data 0 2 = x.work.hold.holdClock % 2 ^ 16 ∧
      (fld data 2 1).testBit 0 = x.hold.learned ∧ (fld data 2 1).testBit 3 = x.hold.oscFault ∧
      fld data 8 8 = aEff x % 2 ^ 64 ∧ fld data 16 8 = dEff x % 2 ^ 64 ∧ fld data 24 8 = qEff x % 2 ^ 64 ∧
      fld data 96 4 = x.hold.steerCount % 2 ^ 32 ∧ fld data 100 4 = x.hold.steerNoack % 2 ^ 32) ∧
  (∀ (q : Req) (s : State) (o : Nat), startsAt 0x0422 q s = true → fits q 4 [srcF 0, inF 2 1 0 1, rsvF 3 1] → ordOf (fld q.params 0 2) = some o →
    let x := started 0x0422 q s
    let y := nextTick x
    (isDummy x = true → exec (.jumpAccept q) s = .next (reply 0x0422 q 0x21 0 [] x)) ∧
    (isDummy x = false → (refOf y o).state ≠ .suspect → exec (.jumpAccept q) s = .next (reply 0x0422 q 0x12 0 [] x)) ∧
    (isDummy x = false → (refOf y o).state = .suspect → ∃ data e, exec (.jumpAccept q) s = done 0x0422 q data e ∧ data.length = 16 ∧
      e = evalAll (acceptChoice o ((fld q.params 2 1).testBit 0) (toQualified o (updRef o (fun r => { r with cause := clrBit (clrBit r.cause 2) 3 }) y))) ∧
      (-(2 ^ 63) ≤ (refOf y o).phase → (refOf y o).phase < 2 ^ 63 → fldI data 0 8 = (refOf y o).phase) ∧
      (fld data 8 1).testBit 0 = (tSelected e == some o)))

/-- DPLL_LOCK, FREQ_STEP_ESTIMATE, MODEL_LEARNED, CLASS_CHANGE and BOUND_ALERT. -/
def Obligations.LoopsLockAndLearn : Prop :=
  (∀ (d t0 : Nat) (s : State) (r : DpllRun), running s = true → s.dplls[d]? = some r → r.lockSince = some t0 → (d = 0 → isDummy s = false) → d < 4 →
    r.state = .acquiring ∨ (r.state = .returning ∧ r.returnSlewing = false) →
    let y := moveTo (t0 + timerSec (nth s.work.dplls d).lockTime * 1000000000000) { s with out := [] }
    ∃ t', exec (.dpllLock d) s = .next t' ∧ t'.dplls = s.dplls.set d { r with state := .locked, everLocked := true, lockCount := (r.lockCount + 1) % 2 ^ 32 } ∧
      causeStands 4 (if d = 0 then 6 else 15 + d) t' ∧
      (d = 0 → t'.hold.absent = false ∧ t'.hold.clampStands = false ∧ t'.hold.failedStands = false ∧ t'.hold.leftStands = false ∧
        t'.hold.aFloor = 0 ∧ t'.hold.dFloor = 0 ∧ t'.hold.qFloor = 0 ∧ t'.bound.excHold = false) ∧
      plain t' = plain { y with dplls := t'.dplls, hold := t'.hold, bound := t'.bound }) ∧
  (∀ (s : State), running s = true → isDummy s = true → exec (.dpllLock 0) s = .next { s with out := [] }) ∧
  (∀ (d t0 o : Nat) (s : State) (r : DpllRun), running s = true → s.dplls[d]? = some r → r.estStart = some t0 → (nth s.sels d).selectedOrd = some o → tracking r.state = true →
    let len := max 62500000000 (4 * (nth s.refs o).period)
    let y := moveTo (t0 + len) { s with out := [] }
    (r.lastEst = none ∨ slopeOf r.points = none → ∃ t', exec (.freqStepEstimate d) s = .next t' ∧
      t'.dplls = s.dplls.set d { r with estStart := some (t0 + len), points := [], lastEst := (slopeOf r.points).or r.lastEst } ∧
      plain t' = plain { y with dplls := t'.dplls, bound := t'.bound, hold := { y.hold with clockClass := t'.hold.clockClass } }) ∧
    (∀ e p, slopeOf r.points = some e → r.lastEst = some p → (nth s.work.dplls d).freqStepDetect ≠ 0 →
      (nth s.work.dplls d).freqStepDetect * 2 ^ 24 ≤ (e - p).natAbs → ∃ t', exec (.freqStepEstimate d) s = .next t' ∧ causeStands 4 13 t' ∧
      t'.dplls = s.dplls.set d { r with estStart := some (t0 + len), points := [], lastEst := some e } ∧
      (d = 0 → t'.hold.freqStepped = true ∧ causeStands 5 6 t') ∧ plain t' = plain { y with dplls := t'.dplls, bound := t'.bound, hold := t'.hold })) ∧
  (∀ (s : State) (t0 : Nat), running s = true → s.hold.learnSince = some t0 → s.hold.learned = false →
    let y := moveTo (t0 + (s.work.hold.learnHours * 3600000000000000 - s.hold.learnedPs)) { s with out := [] }
    ∃ t', exec .modelLearned s = .next t' ∧ causeStands 4 15 t' ∧ t'.hold = { y.hold with
      learned := true, oscFault := false, aLearned := t'.hold.aLearned, dLearned := t'.hold.dLearned, qLearned := t'.hold.qLearned } ∧
      plain t' = plain { y with hold := t'.hold }) ∧
  (∀ (t : Nat) (s : State), running s = true → let x := begin_ t s
    ∃ t', exec (.classChange t) s = .next t' ∧ exec (.boundAlert t) s = .next t' ∧ t'.hold = { x.hold with clockClass := classOf x } ∧
      (classOf x ≠ x.hold.clockClass → causeStands 4 11 t') ∧
      (x.bound.wasAbove = false → x.work.bound.alertLevel < boundPs (counterBound x) → causeStands 5 8 t') ∧
      plain t' = plain { x with hold := t'.hold, bound := t'.bound })

/-- HOLDOVER begins, or FREE_RUN, when the choice becomes none (R88, R105, R109, R112, R148). -/
def Obligations.HoldoverBegins : Prop :=
  (∀ (n k : Nat) (s : State) (r : DpllRun) (v : SelRun), let t := evalSel (n + 1) 0 s
    let c := nth s.work.dplls 0
    isDummy s = false → s.dplls[0]? = some r → s.sels[0]? = some v → v.selected = some k → choose s 0 = none → tracking r.state = true →
    (tdpll t).state = .holdover ∧ (tdpll t).holdFreq = freqOfRate t.time.rate ∧ (tdpll t).lockSince = none ∧
    t.hold.b0 = counterBound s ∧ t.hold.origin = some s.incSum ∧ t.hold.originLearned = s.hold.learned ∧ t.meld.frozenPs = s.now ∧
    (s.time.slewing = true → s.time.slewOwner = .tdpll → t.time.slewing = false ∧ t.time.slewRem = 0) ∧
    (c.holdSource ≠ 0 → t.time.rate = s.time.rate) ∧
    (c.holdSource = 0 → ∀ w, meanRate r.rateHist (max (r.acqSince.getD s.now) (s.now - holdGuardPs c.holdGuard - holdAvgPs c.holdAvg)) (s.now - holdGuardPs c.holdGuard) = some w →
      rateMin ≤ w → w ≤ rateMax → t.time.rate = w) ∧
    (nth t.sels 0).selected = none ∧ (nth t.sels 0).switchCount = (v.switchCount + 1) % 2 ^ 32 ∧ (nth t.sels 0).lastSwitch = curTs s ∧
    causeStands 3 8 t ∧ causeStands 4 7 t ∧
    plain t = plain { s with dplls := t.dplls, sels := t.sels, time := t.time, hold := t.hold, meld := t.meld, bound := t.bound }) ∧
  (∀ (n d k : Nat) (s : State) (r : DpllRun) (v : SelRun), let t := evalSel (n + 1) d s
    0 < d → d < 4 → isDummy s = false → s.dplls[d]? = some r → s.sels[d]? = some v → v.selected = some k → choose s d = none → tracking r.state = true →
    (r.everLocked = true → (dpllOf t d).state = .holdover ∧ (dpllOf t d).holdFreq = freqOfRate (rateOf t d) ∧ causeStands 4 (18 + d) t) ∧
    (r.everLocked = false → (dpllOf t d).state = .freeRun ∧ (s.time.fdomRate.length = 3 → rateOf t d = 450359962737050)) ∧
    (nth t.sels d).selected = none ∧ (nth t.sels d).switchCount = (v.switchCount + 1) % 2 ^ 32 ∧ causeStands 3 (8 + d) t ∧
    plain t = plain { s with dplls := t.dplls, sels := t.sels, time := { s.time with fdomRate := t.time.fdomRate } })

/-- STEER_PERIOD, STEER_SENT, STEER_ACK and STEER_NOACK (R125 to R127, R129, R144). -/
def Obligations.OscillatorIsSteered : Prop :=
  (∀ (s : State) (d : Nat), running s = true → s.hold.steerAt = some d →
    let y := moveTo d { s with out := [] }
    let c := s.work.hold
    let next := some (d + c.steerPeriod * 3600000000000000)
    let v := steerValue y
    (-(c.steerMax : Int) ≤ v ∧ v ≤ c.steerMax) ∧
    (c.steerMode = 1 → (tdpll s).state = .locked → s.hold.learned = true → isDummy s = false → v ≠ 0 → s.hold.steerSending = none →
      ∃ step, exec .steerPeriod s = .next { y with
        hold := { y.hold with steerAt := next, steerSending := some step, steerSetting := s.hold.steerSetting + v }
        out := [.serial "OSC_CTL_TX" (c.pref ++ signedDecimal (if c.relative then v else s.hold.steerSetting + v) ++ c.suffix)] }) ∧
    (c.steerMode ≠ 1 ∨ (tdpll s).state ≠ .locked ∨ s.hold.learned = false ∨ isDummy s = true ∨ v = 0 ∨ s.hold.steerSending ≠ none →
      exec .steerPeriod s = .next { y with hold := { y.hold with steerAt := next } })) ∧
  (∀ (t : Nat) (s : State) (step : Int) (k : Nat) (m : MeldMember), running s = true → let x := begin_ t s
    x.hold.steerSending = some step → meldSlotOf x.work x.work.hold.holdClock = some k → x.meld.slots[k]? = some m →
    let h : HoldRun := { x.hold with steerSending := none, steerStep := step, steerCount := (x.hold.steerCount + 1) % 2 ^ 32 }
    (x.work.hold.ackRequired = true → ∃ t', exec (.steerSent t) s = .next t' ∧ plain t' = plain { x with hold := { h with steerAckBy := some (x.now + 1000000000000) } }) ∧
    (x.work.hold.ackRequired = false → ∃ t' u, exec (.steerSent t) s = .next t' ∧ plain t' = plain { x with hold := h, meld := t'.meld } ∧
      t'.meld.slots = x.meld.slots.set k { m with steer := m.steer + step, steerUnc := m.steerUnc + u } ∧
      step.natAbs * x.work.hold.steerTol ≤ 256 * u)) ∧
  (∀ (t by_ : Nat) (b : Bytes) (s : State) (k : Nat) (m : MeldMember), running s = true → let x := begin_ t s
    x.hold.steerAckBy = some by_ → x.now ≤ by_ → meldSlotOf x.work x.work.hold.holdClock = some k → x.meld.slots[k]? = some m →
    (b = x.work.hold.ack → ∃ u, exec (.steerAck t b) s = .next { x with
      hold := { x.hold with steerAckBy := none }
      meld := { x.meld with slots := x.meld.slots.set k { m with steer := m.steer + x.hold.steerStep, steerUnc := m.steerUnc + u } } }) ∧
    (b ≠ x.work.hold.ack → exec (.steerAck t b) s = .next x)) ∧
  (∀ (s : State) (d : Nat), running s = true → s.hold.steerAckBy = some d →
    let y := moveTo d { s with out := [] }
    ∃ t', exec .steerNoack s = .next t' ∧ causeStands 4 14 t' ∧ t'.hold.steerAckBy = none ∧ t'.hold.steerNoack = (s.hold.steerNoack + 1) % 2 ^ 32 ∧
      t'.hold.oscFault = true ∧ t'.hold.learned = false ∧ t'.hold.learnedPs = 0 ∧ plain t' = plain { y with hold := t'.hold, meld := t'.meld })

/-- MELD_CONFIGURE, MELD_CLOCK_SET, MELD_STATUS, BOUND_READ and BOUND_POLICY (R164 to R168). -/
def Obligations.MeldAndBoundCommands : Prop :=
  (∀ (q : Req) (s : State), startsAt 0x0500 q s = true →
    fits q 16 [inF 0 1 0 1, inF 1 1 32 255, inF 2 2 1 65535, inF 4 1 1 255, inF 5 1 16 255, inF 6 1 16 255, timerF 7, rsvF 8 8] →
    let x := started 0x0500 q s
    let p := q.params
    let needed := (∃ d, d ∈ x.shadow.dplls ∧ d.holdSource = 1) ∨ (∃ r, r ∈ x.shadow.pols ∧ r.monBasis = 1)
    (fld p 0 1 = 1 ∨ ¬ needed → exec (.meldConfigure q) s = done 0x0500 q [] { x with shadow := { x.shadow with meld :=
      { enable := fld p 0 1 == 1, gateK := fld p 1 1, weightTau := fld p 2 2, gateCount := fld p 4 1, voteK := fld p 5 1
        consistK := fld p 6 1, outlierClear := fld p 7 1 } } }) ∧
    (fld p 0 1 = 0 → needed → exec (.meldConfigure q) s = .next (reply 0x0500 q 0x12 0 [] x))) ∧
  (∀ (q : Req) (s : State), startsAt 0x0501 q s = true →
    let x := started 0x0501 q s
    let p := q.params
    let slot := fld p 0 1
    let old := (nth x.shadow.meldSlots slot).sourceId
    let bad := slot ≠ 0 ∧ old ≠ 0 ∧ old = x.shadow.hold.holdClock ∧ fld p 2 2 ≠ old ∧ (tdpll x).state ≠ .holdover
    let c : MeldSlotCfg :=
      { role := fld p 1 1, sourceId := fld p 2 2, ensemble := (fld p 4 1).testBit 0, witness := (fld p 4 1).testBit 1, wpm := fld p 8 8
        q1 := fld p 16 8, q2 := fld p 24 8, q3 := fld p 32 8, y0 := fld p 40 8, d0 := fld p 48 8 }
    fits q 56 (meldSlotFields x.shadow p) →
    (¬ bad → exec (.meldClockSet q) s = done 0x0501 q [] { x with shadow := { x.shadow with meldSlots := x.shadow.meldSlots.set slot c } }) ∧
    (bad → exec (.meldClockSet q) s = .next (reply 0x0501 q 0x12 0 [] x))) ∧
  (∀ (q : Req) (s : State), startsAt 0x0502 q s = true → fits q 0 [] →
    let x := started 0x0502 q s
    ∃ data, exec (.meldStatus q) s = done 0x0502 q data x ∧ fld data 0 1 = b2n x.work.meld.enable ∧ fld data 3 1 = x.meld.lastVote % 256 ∧
      fld data 4 2 = x.meld.lastVoteSource % 65536 ∧ (fld data 6 2).testBit 1 = x.hold.horizonPassed ∧ fld data 8 4 = x.meld.updateCount % 2 ^ 32) ∧
  (∀ (q : Req) (s : State), startsAt 0x0510 q s = true → fits q 4 [F 0 1 (fun v => decide (v < 16) || v == 0xFF), rsvF 1 3] →
    let x := started 0x0510 q s
    ∃ data, exec (.boundRead q) s = done 0x0510 q data x ∧ data.length = 128 ∧ fld data 12 1 = boundMode x ∧ fld data 13 1 = fld q.params 0 1 % 256 ∧
      fld data 16 8 = boundPs (counterBound x) % 2 ^ 64 ∧ (counterBound x = none → fld data 16 8 = 0xFFFFFFFFFF ∧ fld data 12 1 = 0) ∧
      (boundMode x = 1 → fld data 72 8 = boundPs (some x.bound.dist) % 2 ^ 64) ∧ (boundMode x ≠ 2 → fld data 80 8 = 0 ∧ fld data 88 8 = 0) ∧
      (boundMode x ≠ 1 → fld data 24 8 = 0)) ∧
  (∀ (q : Req) (s : State), startsAt 0x0511 q s = true →
    let x := started 0x0511 q s
    let p := q.params
    let id := fld p 2 2
    fits q 32 (boundPolicyFields x.shadow p) →
    ∃ data sh, exec (.boundPolicy q) s = done 0x0511 q data { x with shadow := sh } ∧ data.length = 32 ∧
      fld data 1 1 = x.work.bound.nTrack % 256 ∧ fld data 2 2 = id % 65536 ∧ fld data 24 8 = x.work.bound.alertLevel % 2 ^ 64 ∧
      sh = { x.shadow with bound := sh.bound, boundSrc := sh.boundSrc } ∧
      sh.bound = (if (fld p 0 1).testBit 0 then { nTrack := fld p 1 1, alertLevel := fld p 24 8 } else x.shadow.bound) ∧
      (∀ o e, ordOf id = some o → x.shadow.boundSrc[o]? = some e → sh.boundSrc[o]? = some (if (fld p 0 1).testBit 1 then
        { halfPath := fld p 4 1 == 1, asymAllow := fld p 8 8, extraUnc := fld p 16 8 } else e)))

/-- MELD_UPDATE, MELD_UPDATE_DONE, OUTLIER_CLEAR_EXPIRY and HORIZON (R140 to R150, R162). -/
def Obligations.MeldRuns : Prop :=
  (∀ (s : State), s.work.meld.enable = true → running s = true → s.meld.busy = none →
    let y := moveToCounter (nextUpdate { s with out := [] }) { s with out := [] }
    ∃ t', exec .meldUpdate s = .next t' ∧ t' = { y with meld := t'.meld } ∧ t'.meld = { s.meld with busy := some (curTs y, y.now), meas := t'.meld.meas, slots := t'.meld.slots } ∧
      t'.meld.slots = s.meld.slots.map (fun m => { m with sum := 0, count := 0 }) ∧ t'.meld.meas.length = 8 ∧ t'.meld.meas.head? = some none ∧
      ∀ k m, 0 < k → k < 8 → s.meld.slots[k]? = some m → t'.meld.meas[k]? = some (
        if m.count ≠ 0 ∧ memberUsable y k = true then some (roundDivI m.sum m.count, m.count) else none)) ∧
  (∀ (t inst raw : Nat) (s : State), running s = true → let x := begin_ t s
    x.meld.busy = some (inst, raw) →
    ∃ t' z, exec (.meldUpdateDone t) s = .next t' ∧ t' = evalAll z ∧ kept t' = kept x ∧ z.meld.busy = none ∧ z.meld.lastUpdate = inst ∧ z.meld.lastUpdatePs = raw ∧
      z.meld.updateCount = (x.meld.updateCount + 1) % 2 ^ 32 ∧ z.meld.slots.length = 8 ∧ ∀ m, m ∈ z.meld.slots → m.steer = 0 ∧ m.steerUnc = 0) ∧
  (∀ (k t0 o : Nat) (s : State) (m : MeldMember), running s = true → s.meld.slots[k]? = some m → m.outlier = true → m.outlierSmall = some t0 →
    ordOf (nth s.work.meldSlots k).sourceId = some o →
    let y := moveTo (t0 + timerSec s.work.meld.outlierClear * 1000000000000) { s with out := [] }
    ∃ z, exec (.outlierClearExpiry k) s = .next (evalAll z) ∧ causeStands 5 2 z ∧
      z.meld = { y.meld with slots := y.meld.slots.set k { m with outlier := false, outlierSmall := none, residual := 0 } } ∧
      ((refOf s o).state ≠ .disabled → o < s.refs.length → (refOf z o).cause.testBit 7 = false)) ∧
  (∀ (s : State) (o : Int), running s = true → s.hold.origin = some o → originInForce s = true → s.work.meld.enable = true → s.hold.horizonPassed = false →
    ∃ t', exec .horizon s = .next t' ∧ t'.hold.horizonPassed = true ∧ causeStands 5 5 t' ∧ kept t' = kept s ∧ t'.meld = s.meld ∧ t'.refs = s.refs ∧ t'.sels = s.sels ∧
      t'.dplls = s.dplls)

/-- GNSS_CONFIGURE, GNSS_AID, GNSS_SURVEY, GNSS_STATUS and GNSS_NAV_DATA (R176, R188 to R192). -/
def Obligations.BasebandCommands : Prop :=
  (∀ (q : Req) (s : State), startsAt 0x0600 q s = true →
    let x := started 0x0600 q s
    let p := q.params
    let n := min 16 (fld p 6 1)
    fitsN q 56 gnssFields n 4 (fun k => [anyF (56 + 4 * k) 4]) →
    let c : GnssCfg :=
      { enable := fld p 0 1 == 1, flags := fld p 1 1, solRate := fld p 2 1, elevMask := fld p 3 1, cn0Mask := fld p 4 1, ionFrac := fld p 5 1
        gspiClk := fld p 7 1, ifFreq := fldI p 8 4, wnBase := fld p 12 2, cableDelay := fldI p 16 8, frontendDelay := fldI p 24 8
        calUnc := fld p 32 8, residLimit := fld p 40 8, sFloor := fld p 48 4, gspiWords := (List.range n).map fun k => fld p (56 + 4 * k) 4 }
    (fld p 0 1 ≠ 1 ∨ getKey 4 x.boot.images ≠ none → exec (.gnssConfigure q) s = done 0x0600 q [] { x with shadow := { x.shadow with gnss := c } }) ∧
    (fld p 0 1 = 1 → getKey 4 x.boot.images = none → exec (.gnssConfigure q) s = .next (reply 0x0600 q 0x12 0 [] x))) ∧
  (∀ (q : Req) (s : State), startsAt 0x0601 q s = true → fits q (aidLen (fld q.params 0 1)) (aidAll q.params) →
    let x := started 0x0601 q s
    let p := q.params
    let ty := fld p 0 1
    let key := 64 * ty + fld p 1 1
    let body := slice p 4 (aidLen ty - 4)
    (ty = 1 → ∃ data, exec (.gnssAid q) s = done 0x0601 q data { x with gnss := { x.gnss with posAid := some body } } ∧ data.length = 4 ∧ fld data 0 1 = 0) ∧
    (ty = 2 → x.time.valid = false → ∃ data, exec (.gnssAid q) s = done 0x0601 q data { x with gnss := { x.gnss with
      timeAid := some (tsOfField (fld p 4 12), fld p 16 8) } } ∧ data.length = 4 ∧ fld data 0 1 = 0) ∧
    (ty = 2 → x.time.valid = true → exec (.gnssAid q) s = .next (reply 0x0601 q 0x12 0 [] x)) ∧
    (ty = 4 → ephIodc body % 256 ≠ ephIode2 body → exec (.gnssAid q) s = .next (reply 0x0601 q 0x11 52 [] x)) ∧
    (ty = 3 ∨ ty = 5 → hasBroadcast x key = false → ∃ data, exec (.gnssAid q) s = done 0x0601 q data { x with gnss := { x.gnss with
      aids := x.gnss.aids ++ [(key, body)] } } ∧ data.length = 4 ∧ fld data 0 1 = 0) ∧
    (ty = 3 ∨ ty = 5 → hasBroadcast x key = true → ∃ data, exec (.gnssAid q) s = done 0x0601 q data x ∧ data.length = 4 ∧ fld data 0 1 = 1) ∧
    (ty = 4 → ephIodc body % 256 = ephIode2 body → ephIodc body % 256 = ephIode3 body → ephStale x body = false → getKey key x.gnss.nav = none →
      ∃ data, exec (.gnssAid q) s = done 0x0601 q data { x with gnss := { x.gnss with aids := x.gnss.aids ++ [(key, body)] } } ∧ fld data 0 1 = 0)) ∧
  (∀ (q : Req) (s : State), startsAt 0x0603 q s = true → fits q 40 (surveyFields q.params) →
    let x := started 0x0603 q s
    let p := q.params
    let c : SurveyCmd := { fixed := fld p 0 1 == 1, surveyMin := fld p 4 2, surveyMax := fld p 6 2, surveyLimit := fld p 8 4, posUnc := fld p 12 4, pos := (fldI p 16 8, fldI p 24 8, fldI p 32 8) }
    exec (.gnssSurvey q) s = done 0x0603 q [] { x with gnss := { x.gnss with survey := some c } }) ∧
  (∀ (q : Req) (s : State), startsAt 0x0602 q s = true → fits q 0 [] →
    let x := started 0x0602 q s
    ∃ data, exec (.gnssStatus q) s = done 0x0602 q data x ∧ data.length = 88 + 16 * min 32 x.gnss.channels.length ∧
      fld data 0 1 = (match x.gnss.state with | .off => 0 | .acquire => 1 | .survey => 2 | .hold => 3) ∧
      fld data 2 1 = x.gnss.channels.length % 256 ∧ fld data 3 1 = x.gnss.used % 256 ∧ (fld data 4 4).testBit 0 = x.gnss.timingFix ∧
      (fld data 4 4).testBit 3 = x.gnss.clkFault ∧ fld data 32 8 = min x.gnss.unc unboundedPs ∧ fld data 80 2 = x.gnss.week % 65536) ∧
  (∀ (q : Req) (s : State), startsAt 0x0604 q s = true →
    fits q 4 [inF 0 1 3 5, whenF (fld q.params 0 1 == 3 || fld q.params 0 1 == 4) 1 1 1 32, rsvF 2 2] →
    let x := started 0x0604 q s
    let ty := fld q.params 0 1
    let n := getKey (64 * ty + fld q.params 1 1) x.gnss.nav
    ∃ data, exec (.gnssNavData q) s = done 0x0604 q data x ∧ fld data 0 1 = ty % 256 ∧ (fld data 2 1).testBit 0 = n.isSome ∧
      (∀ item, n = some item → data.drop 4 = slice item.words 0 (aidLen ty - 4)))

/-- GNSS_EPOCH, GNSS_SAMPLE, GNSS_CLOCK_FIT, CLK_FAULT, ACQUISITION_DWELL, CHANNEL_LOCK_LOST, REACQUIRE_TIMEOUT, NAV_NEW, SURVEY_SECOND and GSPI_WRITES_DONE. -/
def Obligations.BasebandRuns : Prop :=
  (∀ (meas : List SatMeas) (fix : Option SatFix) (s : State),
    (s.gnss.state = .off → s.gnss.change = none → exec (.gnssEpoch meas fix) s = .next { s with out := [] }) ∧
    (running s = true →
      s.gnss.state = .acquire → s.gnss.clkFault = false → s.gnss.survey = none → s.gnss.change = none → s.gnss.setting.fixed = true →
      s.gnss.aids = [] → (∃ m, m ∈ meas ∧ satUsable (moveToCounter (epochTarget { s with out := [] }) { s with out := [] }) m = true) →
      ∃ t', exec (.gnssEpoch meas fix) s = .next t' ∧ t'.gnss.state = .hold ∧ t'.gnss.heldPos = s.gnss.setting.pos ∧ t'.gnss.firstFix = true ∧
        causeStands 6 1 t' ∧ kept t' = kept s)) ∧
  (∀ (t : Nat) (s : State) (d : GnssDue), running s = true → s.gnss.due = some d →
    let y := moveTo t { s with out := [] }
    ∃ t' p z, exec (.gnssSample t) s = .next t' ∧ kept t' = kept s ∧ p.stamp = d.stamp ∧ p.offset = d.offset ∧ p.unc = d.unc ∧ p.ep = some d.epoch ∧ p.lag = y.now - d.ps ∧
        z = deliver 28 p false { y with
          refs := upd y.refs 28 (fun r => { r with healthOk := true, misses := 0 }), gnss := { y.gnss with due := none } } ∧
        (t' = z ∨ t' = takeLeapNews (gnssLeapNews z) z)) ∧
  (∀ (t : Nat) (block : List GnssBits) (s : State), running s = true → let x := begin_ t s
    let b := (takeBlock block x).1
    (takeBlock block x).2 = none → exec (.gnssClockFit t block) s = .next { x with gnss := { x.gnss with block := b } }) ∧
  (∀ (t : Nat) (block : List GnssBits) (off : Int) (s : State), running s = true → let x := begin_ t s
    let b := (takeBlock block x).1
    (takeBlock block x).2 = some off →
    (off.natAbs ≤ 1844674407370955 → exec (.gnssClockFit t block) s = .next { x with gnss := { x.gnss with block := b, clkOffset := off, clkFault := false } }) ∧
    (1844674407370955 < off.natAbs → x.gnss.clkFault = false → ∃ t', exec (.gnssClockFit t block) s = .next t' ∧ t'.gnss.clkFault = true ∧
      t'.gnss.clkOffset = off ∧ t'.gnss.block = b ∧ t'.gnss.timingFix = false ∧ causeStands 6 6 t' ∧ kept t' = kept x)) ∧
  (∀ (t : Nat) (s : State), running s = true → let x := begin_ t s
    x.gnss.clkFault = false → ∃ t', exec (.clkFault t) s = .next t' ∧ t'.gnss.clkFault = true ∧ t'.gnss.timingFix = false ∧ causeStands 6 6 t' ∧
      (x.gnss.state ≠ .off → t'.gnss.state = .acquire ∧ t'.gnss.channels = [] ∧ t'.gnss.due = none) ∧ kept t' = kept x) ∧
  (∀ (t prn : Nat) (at_ : Int × Int) (s : State), running s = true → s.gnss.posAid = none → s.gnss.state ≠ .hold →
    (at_.1 - s.work.gnss.ifFreq).natAbs ≤ 8151 → inSearch s prn at_ = true ∧ exec (.acquisitionDwell t prn none) s = .next (begin_ t s)) ∧
  (∀ (t prn k : Nat) (at_ : Int × Int) (s : State), running s = true → let x := begin_ t s
    x.gnss.state ≠ .off → x.gnss.clkFault = false → x.gnss.gspiBusy = false → 0 < prn → prn ≤ 32 → (∀ c, c ∈ x.gnss.channels → c.prn ≠ prn) →
    freeChannel x.gnss.channels = some k → inSearch x prn at_ = true →
    ∃ t', exec (.acquisitionDwell t prn (some at_)) s = .next t' ∧ k < 48 ∧ (∀ c, c ∈ x.gnss.channels → c.channel ≠ k) ∧
      ({ prn := prn, channel := k } : GnssChan) ∈ t'.gnss.channels ∧ t'.gnss.channels.length = x.gnss.channels.length + 1 ∧
      t' = { x with gnss := { x.gnss with channels := t'.gnss.channels, reacquire := x.gnss.reacquire.filter (fun r => r.1 != prn) } }) ∧
  (∀ (t prn : Nat) (s : State) (c : GnssChan), running s = true → let x := begin_ t s
    c ∈ x.gnss.channels → c.prn = prn → exec (.channelLockLost t prn) s = .next { x with gnss := { x.gnss with
      channels := x.gnss.channels.filter (fun c => c.prn != prn), reacquire := x.gnss.reacquire ++ [(prn, x.now + 30000000000000)] } }) ∧
  (∀ (prn : Nat) (s : State) (r : Nat × Nat), running s = true → s.gnss.reacquire.find? (fun r => r.1 == prn) = some r →
    let y := moveTo r.2 { s with out := [] }
    exec (.reacquireTimeout prn) s = .next { y with gnss := { y.gnss with reacquire := y.gnss.reacquire.filter (fun r => r.1 != prn) } }) ∧
  (∀ (t kind prn : Nat) (words : Bytes) (s : State), running s = true → let x := begin_ t s
    let key := 64 * kind + (if kind = 5 then 0 else prn)
    x.gnss.state ≠ .off → kind = 3 ∨ kind = 4 ∨ kind = 5 →
    ∃ t', exec (.navNew t kind prn words) s = .next t' ∧ getKey key t'.gnss.nav = some { words := words, broadcast := true } ∧
      (getKey key x.gnss.nav = none → causeStands 6 (if kind = 5 then 7 else 0) t') ∧
      plain t' = plain { x with gnss := { x.gnss with nav := t'.gnss.nav, week := t'.gnss.week, weekFromCounter := t'.gnss.weekFromCounter } }) ∧
  (∀ (s : State), running s = true → s.gnss.state = .survey → s.gnss.secondDue = true →
    ∃ t', exec .surveySecond s = .next t' ∧ t'.gnss.elapsed = s.gnss.elapsed + 1 ∧ t'.gnss.secondDue = false ∧
      (s.gnss.lastPos = none → t'.gnss.accCount = s.gnss.accCount) ∧ (s.gnss.lastPos ≠ none → t'.gnss.accCount = s.gnss.accCount + 1) ∧
      (t'.gnss.state = .survey ∨ t'.gnss.state = .hold ∧ causeStands 6 2 t' ∧ t'.gnss.heldPos = surveyMean t'.gnss) ∧
      plain t' = plain { s with gnss := t'.gnss }) ∧
  (∀ (t : Nat) (s : State), running s = true → let x := begin_ t s
    exec (.gspiWritesDone t) s = .next { x with gnss := { x.gnss with gspiBusy := false } })

/-- ROOT_STATUS, BPLL_LOCK, LOSS_OF_LOCK, EXCURSION and EXCURSION_END (R193, R199 to R201, R220, R221). -/
def Obligations.RootRowsComplete : Prop :=
  (∀ (q : Req) (s : State), startsAt 0x0200 q s = true → fits q 0 [] →
    let x := started 0x0200 q s
    ∃ data, exec (.rootStatus q) s = done 0x0200 q data { x with free := x.free + 4 } ∧ data.length = 40 ∧
      fld data 0 4 = (b2n x.root.locked + 2 * b2n x.root.excursion + 4 * x.root.code) % 2 ^ 32 ∧
      (x.root.code = 0 → fld data 4 2 = 500 ∧ fld data 6 2 = 1000) ∧ (x.root.code = 1 → fld data 4 2 = 250 ∧ fld data 6 2 = 500) ∧
      (x.root.code = 2 → fld data 4 2 = 200 ∧ fld data 6 2 = 400) ∧ (x.root.code = 3 → fld data 4 2 = 125 ∧ fld data 6 2 = 250) ∧
      (x.root.code = 4 → fld data 4 2 = 100 ∧ fld data 6 2 = 200) ∧
      fld data 20 4 = x.root.excursionCount % 2 ^ 32 ∧ fld data 24 4 = x.root.lockTime % 2 ^ 32 ∧
      fld data 32 8 = (x.now - x.root.lockedSince) / 1000000000 % 2 ^ 64) ∧
  (∀ (t f : Nat) (s : State) (code hz : Nat), [(0, 10000000), (1, 20000000), (2, 25000000), (3, 40000000), (4, 50000000)].contains (code, hz) = true →
    94 * hz ≤ 100 * f ∧ 100 * f ≤ 106 * hz →
    let x := begin_ t s
    x.boot.inReset = false → x.boot.powerGood = true → x.root.locked = false → x.root.lost = false →
    ∃ t', exec (.bpllLock t f) s = .next t' ∧
      base t' = base { x with
        root := { x.root with locked := true, code := code, lockTime := (x.now - x.root.detected) / 1000000, lockedSince := x.now }
        boot := { x.boot with stage := if x.boot.stage = 1 then 2 else x.boot.stage } }) ∧
  (∀ (t detail : Nat) (s : State), let x := begin_ t s
    running x = true →
    ∃ t', exec (.lossOfLock t detail) s = .next t' ∧ running t' = false ∧ t'.root.lost = true ∧ t'.root.locked = false ∧
      t'.boot.claimSpent = true ∧ t'.pair.live = false ∧ (x.pair.live = true → t'.pair.enable = false) ∧
      plain t' = plain { x with root := { x.root with locked := false, lost := true, excursion := false }, boot := t'.boot, pair := t'.pair }) ∧
  (∀ (t err : Nat) (s : State), let x := begin_ t s
    running x = true → x.root.excursion = false → 150 < err ∧ err ≤ 1500 →
    ∃ t', exec (.excursion { time := t, errPs := err }) s = .next t' ∧ counterBound t' = none ∧ causeStands 2 0 t' ∧
      plain t' = plain { x with
        root := { x.root with excursion := true, excursionCount := (x.root.excursionCount + 1) % 2 ^ 32 }
        bound := t'.bound, hold := { x.hold with clockClass := t'.hold.clockClass } }) ∧
  (∀ (t : Nat) (s : State), running s = true → let x := begin_ t s
    x.root.excursion = true →
    ∃ t', exec (.excursionEnd t) s = .next t' ∧ causeStands 2 1 t' ∧
      plain t' = plain { x with root := { x.root with excursion := false } }) ∧
  (∀ (i : Instr) (s : State), running s = false → watchClocked i = false →
    ∃ t', exec i s = .next t' ∧ t' = { s with now := t'.now, out := t'.out })

/-- OUT_CONFIGURE, TODOUT_CONFIGURE and OUT_STATUS (R222, R225, R226). -/
def Obligations.OutputConfigurationAndStatus : Prop :=
  (∀ (q : Req) (s : State), startsAt 0x0210 q s = true → fits q 48 (outFields q.params) →
    let x := started 0x0210 q s
    let p := q.params
    let c : OutCfg :=
      { mode := fld p 1 1, domain := fld p 2 1, driver := fld p 3 1, cmosN := fld p 4 1, drive := fld p 5 1, flags := fld p 6 1, gate := fld p 7 1
        freqNum := fld p 8 4, freqDen := fld p 12 4, period := fld p 16 8, width := fld p 24 4, irigCode := fld p 28 1
        localOffset := fldI p 30 2, offset := fldI p 32 8, gateBound := fld p 40 8, serial := (nth x.shadow.outs (fld p 0 1)).serial + 1 }
    exec (.outConfigure q) s = done 0x0210 q [] { x with shadow := { x.shadow with outs := x.shadow.outs.set (fld p 0 1) c } }) ∧
  (∀ (q : Req) (s : State), startsAt 0x0220 q s = true → fits q 24 (todFields q.params) →
    let x := started 0x0220 q s
    let p := q.params
    exec (.todoutConfigure q) s = done 0x0220 q [] { x with shadow := { x.shadow with tod :=
      { enable := fld p 0 1 == 1, flags := fld p 1 1, talker := fld p 2 2, baud := fld p 4 4, delay := fld p 8 4
        localOffset := fldI p 12 2, gate := fld p 14 1, gateBound := fld p 16 8 } } }) ∧
  (∀ (q : Req) (s : State), startsAt 0x0213 q s = true → fits q 4 [inF 0 1 0 15, rsvF 1 3] →
    let x := started 0x0213 q s
    let o := nth x.outs (fld q.params 0 1)
    ∃ data, exec (.outStatus q) s = done 0x0213 q data x ∧ data.length = 48 ∧
      fld data 0 1 = fld q.params 0 1 % 256 ∧
      fld data 1 1 = (match o.state with | .disabled => 0 | .waiting => 1 | .running => 2 | .gated => 3) ∧
      (fld data 2 1).testBit 1 = o.cfg.flags.testBit 0 ∧ (fld data 2 1).testBit 2 = o.placerOk ∧ (fld data 2 1).testBit 3 = o.align.isSome ∧
      fld data 3 1 = o.cfg.mode % 256 ∧ fld data 4 4 = o.periods % 2 ^ 32 ∧
      (-(2 ^ 63) ≤ o.offset → o.offset < 2 ^ 63 → fldI data 8 8 = o.offset) ∧
      (-(2 ^ 63) ≤ o.lastD → o.lastD < 2 ^ 63 → fldI data 24 8 = o.lastD))

/-- OUT_ENABLE, OUTPUT_START, OUTPUT_RISING_EDGE, IRIG_FRAME and TOD_SENTENCE (R208, R210, R211, R214, R216, R217, R223). -/
def Obligations.OutputsRunAndAreGated : Prop :=
  (∀ (q : Req) (s : State), startsAt 0x0211 q s = true → fits q 16 (enableFields q.params) →
    let x := started 0x0211 q s
    (fld q.params 2 1 ≠ 1 ∨ ∀ n, n < 16 → (fld q.params 0 2).testBit n = true → (nth x.outs n).cfg.mode ≠ 0) →
    ∃ e, exec (.outEnable q) s = done 0x0211 q [] e ∧ e = { nextTick x with outs := e.outs } ∧
      ∀ n o, x.outs[n]? = some o → e.outs[n]? = some (
        if n < 16 ∧ (fld q.params 0 2).testBit n = true then
          if fld q.params 2 1 = 0 then { o with state := .disabled }
          else if o.state = .disabled ∨ o.state = .waiting then
            { o with state := .waiting, startAt := tsOfField (fld q.params 4 12), periods := 0, gateNoted := false, prevRise := none }
          else o
        else o)) ∧
  (∀ (n : Nat) (s : State) (o : OutRun), running s = true → s.outs[n]? = some o → o.state = .waiting → o.cfg.mode = 4 →
    ∃ t', exec (.outputStart n) s = .next t' ∧ kept t' = kept s ∧ t'.outs = s.outs.set n { o with state := .running } ∧
      (o.startAt * 2 ^ 32 ≤ s.time.counter.total → t'.now = s.now)) ∧
  (∀ (n : Nat) (s : State) (o : OutRun), running s = true → s.outs[n]? = some o → o.state = .running ∨ o.state = .gated →
    o.cfg.mode = 1 ∨ o.cfg.mode = 2 ∨ o.cfg.mode = 3 → o.stale = false →
    (o.cfg.gate = 0 → o.prevRise = none → ∃ t' o', exec (.outputRisingEdge n) s = .next t' ∧ kept t' = kept s ∧ t'.outs[n]? = some o' ∧
      o'.state = .running ∧ o'.periods = (o.periods + 1) % 2 ^ 32 ∧ o'.cfg = o.cfg ∧ ∀ m, m ≠ n → t'.outs[m]? = s.outs[m]?) ∧
    (o.cfg.gate = 1 → s.time.valid = false → ∃ t' o', exec (.outputRisingEdge n) s = .next t' ∧ kept t' = kept s ∧ t'.outs[n]? = some o' ∧
      o'.state = .gated ∧ o'.periods = o.periods ∧ o'.cfg = o.cfg ∧ (o.gateNoted = false → causeStands 2 5 t') ∧
      ∀ m, m ≠ n → t'.outs[m]? = s.outs[m]?)) ∧
  (∀ (n : Nat) (s : State) (o : OutRun), running s = true → s.outs[n]? = some o → o.state = .running ∨ o.state = .gated →
    o.cfg.mode = 4 → o.stale = false →
    (o.cfg.gate = 0 → (∀ p, o.prevRise = some p → p + 500000001600 ≤ s.now ∧ o.fallAt + 1600 ≤ s.now) → ∃ t' o', exec (.irigFrame n) s = .next t' ∧ kept t' = kept s ∧ t'.outs[n]? = some o' ∧
      o'.state = .running ∧ o'.periods = (o.periods + 1) % 2 ^ 32 ∧ o'.cfg = o.cfg ∧ ∀ m, m ≠ n → t'.outs[m]? = s.outs[m]?) ∧
    (o.cfg.gate = 1 → s.time.valid = false → ∃ t' o', exec (.irigFrame n) s = .next t' ∧ kept t' = kept s ∧ t'.outs[n]? = some o' ∧
      o'.state = .gated ∧ o'.periods = o.periods ∧ o'.cfg = o.cfg ∧ (o.gateNoted = false → causeStands 2 5 t') ∧
      ∀ m, m ≠ n → t'.outs[m]? = s.outs[m]?)) ∧
  (∀ (s : State), running s = true → s.work.tod.enable = true →
    (s.work.tod.gate = 0 → s.work.tod.flags.testBit 0 = false → ∃ t' text, exec .todSentence s = .next t' ∧ kept t' = kept s ∧
      t'.out = [.serial "TOD_TX" text] ∧ 38 ≤ text.length ∧ text.length ≤ 39 ∧ t'.outs = s.outs) ∧
    (s.work.tod.gate = 1 → s.time.valid = false → ∃ t', exec .todSentence s = .next t' ∧ kept t' = kept s ∧ causeStands 2 6 t' ∧ t'.outs = s.outs))

/-- OUT_ALIGN, ALIGN_PULSE, ALIGN_TIMEOUT, ALIGN_DONE and PLACER_CAL_LOST (R212, R213, R218, R224). -/
def Obligations.OutputAlignment : Prop :=
  (∀ (q : Req) (s : State) (o : OutRun) (ord : Nat), startsAt 0x0212 q s = true →
    let p := q.params
    let n := fld p 0 1
    let x := started 0x0212 q s
    fits q 28 (alignFields p) → fld p 1 1 = 0 → ordOf (fld p 2 2) = some ord →
    x.outs[n]? = some o → o.align = none → o.cfg.mode = 1 ∨ o.cfg.mode = 2 ∨ o.cfg.mode = 3 →
    (nth x.work.refs ord).mode = 0 ∨ (nth x.work.refs ord).mode = 3 → (nth x.refs ord).state ≠ .disabled → (nth x.refs ord).cause.testBit cActivity = false →
    ∃ t', exec (.outAlign q) s = .next t' ∧
      t'.outs = x.outs.set n { o with align := some { ord, alignOffset := fldI p 8 8, step := (fld p 4 1).testBit 0, slew := fld p 16 8, deadline := (nextTick x).now + fld p 24 4 * 1000000000 } } ∧
      t'.host.waits = x.host.waits ++ [{ key := .outAlign n, opcode := 0x0212, req := q }] ∧
      t' = { nextTick x with outs := t'.outs, host := { x.host with waits := t'.host.waits } }) ∧
  (∀ (q : Req) (s : State) (o : OutRun) (a : Align), startsAt 0x0212 q s = true →
    let p := q.params
    let n := fld p 0 1
    let x := started 0x0212 q s
    fits q 28 (alignFields p) → fld p 1 1 = 1 →
    x.outs[n]? = some o → o.align = some a →
    ∃ t', exec (.outAlign q) s = .next t' ∧ kept t' = kept x ∧ t'.outs = x.outs.set n { o with align := none } ∧
      (usesSlot q = true → slotOf q < x.host.slots.length → ∃ r, t'.host.slots[slotOf q]? = some r ∧ r.status = 0 ∧ r.data = leInt 8 a.remaining ++ leInt 8 o.offset)) ∧
  (∀ (n t : Nat) (s : State) (o : OutRun) (a : Align), let x := begin_ t s
    running x = true → x.outs[n]? = some o → o.align = some a → a.found = false → x.time.lastStepTick ≠ some (x.now / 1600) →
    ∃ t' d, exec (.alignPulse n t) s = .next t' ∧ kept t' = kept x ∧
      t'.outs = x.outs.set n { o with lastD := d, align := some { a with found := true, remaining := -d } }) ∧
  (∀ (n : Nat) (s : State) (o : OutRun) (a : Align), running s = true → s.outs[n]? = some o → o.align = some a → a.found = false →
    ∃ t', exec (.alignTimeout n) s = .next t' ∧ kept t' = kept s ∧ t'.outs = s.outs.set n { o with align := none } ∧ a.deadline ≤ t'.now ∧
      causeStands 2 3 t') ∧
  (∀ (n : Nat) (s : State) (o : OutRun) (a : Align), running s = true → s.outs[n]? = some o → o.align = some a → a.found = true → a.remaining = 0 →
    ∃ t', exec (.alignDone n) s = .next t' ∧ causeStands 2 2 t' ∧ plain t' = plain { s with outs := s.outs.set n { o with align := none } }) ∧
  (∀ (n t : Nat) (s : State) (o : OutRun), running s = true → let x := begin_ t s
    x.outs[n]? = some o → o.placerOk = true →
    ∃ t', exec (.placerCalLost n t) s = .next t' ∧ causeStands 2 4 t' ∧ plain t' = plain { x with outs := x.outs.set n { o with placerOk := false } })

/-- TDC_CONFIGURE, TDC_ARM, TDC_READ and TDC_STATS (R233, R236, R239, R241, R244 to R247). -/
def Obligations.TdcCommands : Prop :=
  (∀ (q : Req) (s : State), startsAt 0x0700 q s = true →
    let x := started 0x0700 q s
    let p := q.params
    let i := fld p 0 1
    fits q 24 (tdcFields x.shadow p) →
    let c : TdcCfg :=
      { enable := fld p 1 1 == 1, edge := fld p 2 1, mode := fld p 3 1, refSel := fld p 4 1, gate := fld p 5 1, basis := fld p 6 1
        glitchNs := fld p 7 1, freqNum := fld p 8 4, freqDen := fld p 12 4, compensation := fldI p 16 8 }
    (i = 0 ∨ (chanOf x (i - 1)).owner = none →
      exec (.tdcConfigure q) s = done 0x0700 q [] { x with shadow := { x.shadow with tdc := x.shadow.tdc.set i c } }) ∧
    (i ≠ 0 → (chanOf x (i - 1)).owner ≠ none → exec (.tdcConfigure q) s = .next (reply 0x0700 q 0x20 0 [] x))) ∧
  (∀ (q : Req) (s : State), startsAt 0x0701 q s = true → fits q 24 (armFields q.params) →
    let x := started 0x0701 q s
    let p := q.params
    let act := fld p 1 1
    let named : Nat → Bool := fun c => decide (c < 8) && bit (fld p 0 1) c
    let at_ := tsOfField (fld p 8 12)
    let y := nextTick x
    (act ≠ 2 → (∃ c, c < 8 ∧ named c ∧ (chanOf x c).owner ≠ none) → exec (.tdcArm q) s = .next (reply 0x0701 q 0x20 0 [] x)) ∧
    (act = 0 → (∀ c, c < 8 → named c → (chanOf x c).owner = none ∧ (chanOf x c).state = .disarmed ∧ (nth x.work.tdc (c + 1)).enable = true) →
      at_ = 0 ∨ curTs x < at_ →
      ∃ t', exec (.tdcArm q) s = done 0x0701 q [] t' ∧ t' = { y with tdc := { y.tdc with chans := t'.tdc.chans } } ∧
        (∀ c, ¬ named c → t'.tdc.chans[c]? = x.tdc.chans[c]?) ∧
        (∀ c h, named c → t'.tdc.chans[c]? = some h → h.state = (if at_ = 0 then .armed else .waiting) ∧ h.startAt = at_ ∧
          (at_ = 0 → h.armedFrom = curTs y) ∧ h.n = fld p 4 4 ∧ h.continuous = (fld p 2 1).testBit 0 ∧ h.raw = (fld p 2 1).testBit 1 ∧
          h.buffer = [] ∧ h.block = {} ∧ h.blockCount = 0 ∧ h.dropped = 0 ∧ h.orphans = 0 ∧ h.stepDiscards = 0 ∧ h.overruns = 0)) ∧
    (act = 0 → (∀ c, c < 8 → named c → (chanOf x c).owner = none) →
      (∃ c, c < 8 ∧ named c ∧ ((chanOf x c).state ≠ .disarmed ∨ (nth x.work.tdc (c + 1)).enable = false)) ∨ at_ ≠ 0 ∧ at_ ≤ curTs x →
      exec (.tdcArm q) s = .next (reply 0x0701 q 0x12 0 [] x)) ∧
    (act = 1 → (∀ c, c < 8 → named c → (chanOf x c).owner = none) →
      ∃ t', exec (.tdcArm q) s = done 0x0701 q [] t' ∧ t' = { y with tdc := { y.tdc with chans := t'.tdc.chans } } ∧
        (∀ c, ¬ named c → t'.tdc.chans[c]? = x.tdc.chans[c]?) ∧
        (∀ c h, named c → x.tdc.chans[c]? = some h →
          t'.tdc.chans[c]? = some { h with state := .disarmed, starts := [], stops := [], block := {}, edges := [] })) ∧
    (act = 2 → (∀ h, h ∈ x.tdc.chans → h.state = .disarmed) →
      exec (.tdcArm q) s = done 0x0701 q [] { x with tdc := { x.tdc with calibrating := true } }) ∧
    (act = 2 → (∃ h, h ∈ x.tdc.chans ∧ h.state ≠ .disarmed) → exec (.tdcArm q) s = .next (reply 0x0701 q 0x12 0 [] x))) ∧
  (∀ (q : Req) (s : State) (h : TdcChan), startsAt 0x0702 q s = true → fits q 4 [inF 0 1 0 7, inF 1 1 1 32, rsvF 2 2] →
    let x := started 0x0702 q s
    let c := fld q.params 0 1
    let n := fld q.params 1 1
    x.tdc.chans[c]? = some h →
    (h.owner ≠ none → exec (.tdcRead q) s = .next (reply 0x0702 q 0x20 0 [] x)) ∧
    (h.owner = none → ∃ data, exec (.tdcRead q) s = done 0x0702 q data { x with tdc := { x.tdc with chans := x.tdc.chans.set c { h with
        buffer := h.buffer.drop n, rawFull := h.rawFull && h.buffer.isEmpty } } } ∧
      data.length = 8 + 24 * min n h.buffer.length ∧ fld data 0 1 = min n h.buffer.length % 256 ∧
      (fld data 1 1).testBit 0 = decide (n < h.buffer.length) ∧ (fld data 1 1).testBit 1 = h.rawFull ∧ fld data 4 4 = h.dropped % 2 ^ 32)) ∧
  (∀ (q : Req) (s : State), startsAt 0x0703 q s = true → fits q 4 [inF 0 1 0 7, inF 1 1 0 1, rsvF 2 2] →
    let x := started 0x0703 q s
    let h := chanOf x (fld q.params 0 1)
    let b := if fld q.params 1 1 = 1 then h.block else h.last.getD {}
    ∃ data, exec (.tdcStats q) s = done 0x0703 q data x ∧ data.length = 72 ∧ fld data 0 1 = fld q.params 0 1 % 256 ∧
      fld data 1 1 = (match h.state with | .disarmed => if x.tdc.calibrating then 3 else 0 | .waiting => 1 | .armed => 2) ∧
      (fld data 3 1).testBit 1 = h.owner.isSome ∧ (fld data 3 1).testBit 3 = h.aborted ∧ fld data 4 4 = h.n % 2 ^ 32 ∧
      fld data 8 4 = b.count % 2 ^ 32 ∧ fld data 12 4 = h.blockCount % 2 ^ 32 ∧ fld data 32 8 = (b.min % 2 ^ 64).toNat ∧
      fld data 40 8 = (b.max % 2 ^ 64).toNat ∧ fld data 60 4 = h.orphans % 2 ^ 32 ∧ fld data 64 4 = h.stepDiscards % 2 ^ 32 ∧ fld data 68 4 = h.overruns % 2 ^ 32)

/-- TDC_EDGE, TDC_ARM_START, TDC_ORPHAN, TDC_GATE_END, TDC_CAL_LOST and TDC_CAL_DONE (R227 to R239). -/
def Obligations.TdcMeasures : Prop :=
  (∀ (c t : Nat) (pulse : EdgePulse) (s : State) (h : TdcChan) (i : TdcInput), let x := begin_ t s
    let g := nth x.work.tdc (c + 1)
    let p : TdcStamp := { stamp := (stampNow x : Int) - i.skew - g.compensation, epoch := x.time.stepEpoch, uncal := !i.calOk }
    let is := x.tdc.inputs.set (c + 1) { i with lastPs := some x.now }
    let with_ : List TdcInput → TdcChan → State := fun is h => { x with tdc := { x.tdc with inputs := is, chans := x.tdc.chans.set c h } }
    running x = true → c < 8 → x.tdc.chans[c]? = some h → x.tdc.inputs[c + 1]? = some i → h.owner = none → g.enable = true → g.mode = 0 →
    (pulse.rising = true ↔ g.edge = 0) →
    ((∃ l ∈ i.lastPs, x.now < l + 100000) → ∃ t', exec (.tdcEdge (c + 1) t pulse) s = .next t' ∧ causeStands 7 2 t' ∧
      plain t' = plain (with_ x.tdc.inputs { h with overruns := (h.overruns + 1) % 2 ^ 32 })) ∧
    ((∀ l ∈ i.lastPs, l + 100000 ≤ x.now) → g.glitchNs = 0 ∨ g.glitchNs * 1000 ≤ pulse.width → h.state = .armed → h.armedFrom ≤ p.stamp →
      (h.starts = [] → ∃ t', exec (.tdcEdge (c + 1) t pulse) s = .next t' ∧ plain t' = plain (with_ is { h with stops := h.stops ++ [p] })) ∧
      (∀ (a : TdcStamp) (v : Int), h.starts = [a] → a.epoch = x.time.stepEpoch → a.stamp ≤ p.stamp → p.stamp - a.stamp < halfSec →
        v = clampI (-500000000000) 499999999999 (roundDivI ((p.stamp - a.stamp) * 1000) 65536) → h.raw = false → h.block.count + 1 < h.n →
        ∃ t', exec (.tdcEdge (c + 1) t pulse) s = .next t' ∧ plain t' = plain (with_ is { h with block := blockAdd h.block v p.stamp (p.uncal || a.uncal) }) ∧
          (blockAdd h.block v p.stamp (p.uncal || a.uncal)).count = h.block.count + 1 ∧ (blockAdd h.block v p.stamp (p.uncal || a.uncal)).sum = h.block.sum + v))) ∧
  (∀ (c : Nat) (s : State) (h : TdcChan), running s = true → s.tdc.chans[c]? = some h → h.state = .waiting →
    let y := moveToCounter (h.startAt * 2 ^ 32) { s with out := [] }
    ∃ t', exec (.tdcArmStart c) s = .next t' ∧ (chanOf t' c).state = .armed ∧ (chanOf t' c).armedFrom = h.startAt ∧
      ((chanCfg s c).mode ≠ 1 → t' = { y with tdc := { y.tdc with chans := y.tdc.chans.set c { h with state := .armed, armedFrom := h.startAt } } })) ∧
  (∀ (c : Nat) (s : State) (h : TdcChan) (p : TdcStamp) (rest : List TdcStamp), running s = true → s.tdc.chans[c]? = some h → h.stops = p :: rest →
    let y := moveToCounter ((p.stamp + halfSec).toNat * 2 ^ 32) { s with out := [] }
    ∃ t', exec (.tdcOrphan c) s = .next t' ∧ causeStands 7 3 t' ∧
      plain t' = plain { y with tdc := { y.tdc with chans := y.tdc.chans.set c { h with stops := rest, orphans := (h.orphans + 1) % 2 ^ 32 } } }) ∧
  (∀ (c : Nat) (s : State) (h : TdcChan), running s = true → s.tdc.chans[c]? = some h → h.state = .armed → (chanCfg s c).mode = 1 → (chanCfg s c).basis = 0 →
    let g := chanCfg s c
    let y := if h.gateEpoch = s.time.stepEpoch then moveToCounter (h.gateEnd * 2 ^ 32) { s with out := [] } else { s with out := [] }
    ∃ t', exec (.tdcGateEnd c) s = .next t' ∧
      (let k := chanOf t' c
       k.gateEnd = k.gateStart + 10 ^ g.gate * 65536000000 ∧
       (h.gateEpoch = s.time.stepEpoch → k.gateStart = h.gateEnd ∧ k.edges = h.late) ∧
       (h.gateEpoch ≠ s.time.stepEpoch → k.edges = [] ∧ curTs y ≤ k.gateStart ∧ k.gateStart < curTs y + 10 ^ g.gate * 65536000000 ∧ k.stepDiscards = (h.stepDiscards + 1) % 2 ^ 32 ∧ k.block = h.block ∧ causeStands 7 4 t') ∧
       (h.gateEpoch = s.time.stepEpoch → h.edges.length < 2 → k.orphans = (h.orphans + 1) % 2 ^ 32 ∧ k.block = h.block ∧ causeStands 7 3 t') ∧
       (h.gateEpoch = s.time.stepEpoch → 2 ≤ h.edges.length → h.block.count + 1 < h.n → k.block = blockAdd h.block (fitFreq g h.edges) h.gateEnd h.gateUncal)) ∧
      plain t' = plain { y with tdc := { y.tdc with chans := t'.tdc.chans } }) ∧
  (∀ (inp t : Nat) (s : State) (i : TdcInput), running s = true → let x := begin_ t s
    x.tdc.inputs[inp]? = some i → i.calOk = true → ∃ t', exec (.tdcCalLost inp t) s = .next t' ∧ causeStands 7 6 t' ∧
      plain t' = plain { x with tdc := { x.tdc with inputs := x.tdc.inputs.set inp { i with calOk := false } } }) ∧
  (∀ (t : Nat) (skews : List Int) (s : State), running s = true → let x := begin_ t s
    x.tdc.calibrating = true → ∃ t', exec (.tdcCalDone { time := t, skews := skews }) s = .next t' ∧ causeStands 7 5 t' ∧
      (∀ (n : Nat) (i : TdcInput), x.tdc.inputs[n]? = some i → t'.tdc.inputs[n]? = some { i with skew := skews.getD n 0 }) ∧
      plain t' = plain { x with tdc := { x.tdc with inputs := t'.tdc.inputs, calibrating := false, calibrated := true } })

/-- PORT_CONFIGURE, PORT_CALIBRATE, PORT_FLOW_CONTROL, PORT_SYNCE and PORT_STATUS (R248, R253, R279 to R283). -/
def Obligations.PortCommands : Prop :=
  (∀ (q : Req) (s : State), startsAt 0x0800 q s = true → fits q 40 (portFields q.params) →
    let x := started 0x0800 q s
    let p := q.params
    let n := fld p 0 1
    let c : PortCfg := { mode := fld p 1 1, fec := fld p 2 1, flags := fld p 3 1, defaultPrio := fld p 4 1, maxFrame := fld p 6 2, mac := fldBE p 8 6, rxDelay := fldI p 16 8, txDelay := fldI p 24 8, boardUnc := fld p 32 8 }
    let absent := n % 4 ≠ 0 ∧ (nth x.shadow.ports (n / 4 * 4)).mode = 4
    let taken := fld p 1 1 = 4 ∧ ((nth x.shadow.ports (n + 1)).mode ≠ 0 ∨ (nth x.shadow.ports (n + 2)).mode ≠ 0 ∨ (nth x.shadow.ports (n + 3)).mode ≠ 0)
    (¬ absent → ¬ taken → exec (.portConfigure q) s = done 0x0800 q [] { x with shadow := { x.shadow with ports := upd x.shadow.ports n (fun _ => c) } }) ∧
    (absent ∨ taken → exec (.portConfigure q) s = .next (reply 0x0800 q 0x12 0 [] x))) ∧
  (∀ (q : Req) (s : State) (r : PortRun), startsAt 0x0802 q s = true → fits q 4 [inF 0 1 0 15, rsvF 1 3] →
    let x := started 0x0802 q s
    let n := fld q.params 0 1
    x.ports[n]? = some r →
    (r.state ≠ .disabled → r.state ≠ .calibrating → ∃ t', exec (.portCalibrate q) s = .next t' ∧ kept t' = kept x ∧
      (portOf t' n).state = .calibrating ∧ (portOf t' n).timed = [] ∧ (portOf t' n).untimed = [] ∧ (portOf t' n).calendar = [] ∧
      (r.state = .up → causeStands 8 1 t') ∧ ({ key := .portCalibrate n, opcode := 0x0802, req := q } : Wait) ∈ t'.host.waits) ∧
    (r.state = .disabled ∨ r.state = .calibrating → exec (.portCalibrate q) s = .next (reply 0x0802 q 0x12 0 [] x))) ∧
  (∀ (q : Req) (s : State), startsAt 0x0803 q s = true → fitsN q 8 (flowFields q.params) 8 8 (flowEntryFields q.params) →
    let x := started 0x0803 q s
    let p := q.params
    let c : FlowCfg :=
      { rxMode := fld p 1 1, rxPfcMask := fld p 2 1, txPfcMask := fld p 3 1, spadesPrio := fld p 4 1, quanta := fld p 6 2
        xoff := [fld p 8 4, fld p 16 4, fld p 24 4, fld p 32 4, fld p 40 4, fld p 48 4, fld p 56 4, fld p 64 4]
        xon := [fld p 12 4, fld p 20 4, fld p 28 4, fld p 36 4, fld p 44 4, fld p 52 4, fld p 60 4, fld p 68 4] }
    exec (.portFlowControl q) s = done 0x0803 q [] { x with shadow := { x.shadow with flows := upd x.shadow.flows (fld p 0 1) (fun _ => c) } }) ∧
  (∀ (q : Req) (s : State), startsAt 0x0804 q s = true →
    fits q 16 [inF 0 1 0 15, inF 1 1 0 3, inF 2 1 0 15, rankF 3, rankF 4, rankF 5, rsvF 6 2, anyF 8 8] →
    let x := started 0x0804 q s
    let p := q.params
    let c : SynceCfg := { txDomain := fld p 1 1, flags := fld p 2 1, lockedQl := fld p 3 1, holdoverQl := fld p 4 1, freerunQl := fld p 5 1, clockId := fldBE p 8 8 }
    exec (.portSynce q) s = done 0x0804 q [] { x with shadow := { x.shadow with synces := upd x.shadow.synces (fld p 0 1) (fun _ => c) } }) ∧
  (∀ (q : Req) (s : State), startsAt 0x0801 q s = true → fits q 4 [F 0 1 (fun v => decide (v ≤ 15) || v == 0xFF), inF 1 1 0 3, rsvF 2 2] →
    let x := started 0x0801 q s
    let n := fld q.params 0 1
    let r := portOf x n
    let c := portCfg x n
    (n ≠ 0xFF → ∃ data t', exec (.portStatus q) s = done 0x0801 q data t' ∧ (fld q.params 1 1 = 0 → t' = x) ∧
      (fld q.params 1 1 = 1 → t' = { x with ports := upd x.ports n (fun r => { r with events := 0 }) }) ∧
      t' = { x with ports := t'.ports } ∧ data.length = 272 ∧
      fld data 0 1 = n % 256 ∧ fld data 1 1 = (match r.state with | .disabled => 0 | .calibrating => 1 | .down => 2 | .aligning => 3 | .up => 4) ∧
      fld data 2 1 = c.mode % 256 ∧ (fld data 4 2).testBit 0 = r.calOk ∧ (fld data 4 2).testBit 1 = r.everCal ∧ (fld data 4 2).testBit 5 = txEnabled x n ∧
      fld data 6 2 = r.events % 65536 ∧ fld data 8 1 = spadesMask x n % 256 ∧ fld data 9 1 = r.xoff % 256 ∧ fld data 11 1 = r.rxQl % 256 ∧
      fld data 16 8 = boundPs (portUnc x n) % 2 ^ 64 ∧ fld data 56 8 = portCounter x n 0 % 2 ^ 64 ∧ fld data 200 8 = (windowNow x n 0).last % 2 ^ 64 ∧
      fld data 264 1 = (nth x.work.windows n).w0 % 256) ∧
    (n = 0xFF → ∃ data t', exec (.portStatus q) s = done 0x0801 q data t' ∧ t' = { x with ports := t'.ports } ∧
      (fld q.params 1 1 = 0 → t' = x) ∧ data.length = 2 ∧ ∀ k, k < 16 → (fld data 0 2).testBit k = ((portOf x k).events != 0)))

/-- CALIBRATION_END, BLOCK_LOCK, ALIGNMENT_DONE, LINK_LOSS, CAL_LOST, SYNCE_SAMPLE, ESMC_TIMEOUT, ESMC_TX and ESMC_EVENT_TX. -/
def Obligations.PortStates : Prop :=
  (∀ (p t : Nat) (ok : Bool) (temp dLoop dRx : Int) (s : State) (r : PortRun), let x := begin_ t s
    let f := nth x.fuse.cal p
    let dTx := dLoop - dRx + f.routeTx
    let dRx' := dRx + f.routeRx
    let inRange := f.txMin ≤ dTx ∧ dTx ≤ f.txMax ∧ f.rxMin ≤ dRx' ∧ dRx' ≤ f.rxMax
    p < 16 → running x = true → x.ports[p]? = some r → r.state = .calibrating →
    (ok = true → inRange → ∃ t', exec (.calibrationEnd p t ok temp dLoop dRx) s = .next t' ∧ kept t' = kept x ∧ causeStands 8 2 t' ∧
      t'.ports = x.ports.set p { r with state := .down, temp := temp, calOk := true, everCal := true, calTemp := temp, dTx := dTx, dRx := dRx', adj := (0, 0), events := setBit r.events 2 }) ∧
    (ok = false ∨ ¬ inRange → ∃ t', exec (.calibrationEnd p t ok temp dLoop dRx) s = .next t' ∧ kept t' = kept x ∧ causeStands 8 4 t' ∧
      t'.ports = x.ports.set p { r with state := .down, temp := temp, calOk := false, events := setBit r.events 4 })) ∧
  (∀ (p t : Nat) (f : Int) (an : Option Bool) (s : State) (r : PortRun), let x := begin_ t s
    p < 16 → running x = true → x.ports[p]? = some r → r.state = .down → f.natAbs ≤ 3689348814741910 →
    (an37 (portCfg x p) = false → exec (.blockLock p t f an) s = .next { x with ports := x.ports.set p { r with state := .aligning, rxFreq := f, anDone := false, partnerPause := false } }) ∧
    (an37 (portCfg x p) = true → an = none → exec (.blockLock p t f an) s = .next x) ∧
    (∀ b, an37 (portCfg x p) = true → an = some b → exec (.blockLock p t f an) s = .next { x with ports := x.ports.set p { r with state := .aligning, rxFreq := f, anDone := true, partnerPause := b } })) ∧
  (∀ (p t : Nat) (dTx dRx : Int) (s : State) (r : PortRun), let x := begin_ t s
    p < 16 → running x = true → x.ports[p]? = some r → r.state = .aligning →
    ∃ t', exec (.alignmentDone p t true dTx dRx) s = .next t' ∧ kept t' = kept x ∧ causeStands 8 0 t' ∧ (portOf t' p).state = .up ∧
      (portOf t' p).dTx = r.dTx - r.vari.1 + dTx ∧ (portOf t' p).dRx = r.dRx - r.vari.2 + dRx ∧ (portOf t' p).vari = (dTx, dRx) ∧ (portOf t' p).learned = 0) ∧
  (∀ (p t : Nat) (s : State) (r : PortRun), running s = true → let x := begin_ t s
    p < 16 → x.ports[p]? = some r →
    (r.state = .aligning → ∃ t', exec (.linkLoss p t) s = .next t' ∧ kept t' = kept x ∧ (portOf t' p).state = .down ∧
      (portOf t' p).timed = [] ∧ (portOf t' p).untimed = [] ∧ (portOf t' p).calendar = [] ∧ (portOf t' p).anDone = false ∧
      (r.timed = [] → r.untimed = [] → t' = { x with ports := x.ports.set p { r with state := .down, anDone := false, partnerPause := false, calendar := [] }, out := t'.out })) ∧
    (r.state = .up → ∃ t', exec (.linkLoss p t) s = .next t' ∧ kept t' = kept x ∧ causeStands 8 1 t' ∧ (portOf t' p).state = .down ∧
      (portOf t' p).timed = [] ∧ (portOf t' p).untimed = [] ∧ (portOf t' p).calendar = [] ∧ (portOf t' p).anDone = false) ∧
    (r.state = .disabled ∨ r.state = .calibrating ∨ r.state = .down → exec (.linkLoss p t) s = .next x)) ∧
  (∀ (p t : Nat) (y : LaneReading) (fault : Bool) (s : State) (r : PortRun), running s = true → let x := begin_ t s
    p < 16 → x.ports[p]? = some r →
    (r.calOk = false → exec (.calLost p t y fault) s = .next { x with ports := x.ports.set p { r with temp := y.temp } }) ∧
    (r.calOk = true → fault = false → (y.temp - r.calTemp).natAbs ≤ 320 →
      exec (.calLost p t y fault) s = .next { x with ports := x.ports.set p { r with temp := y.temp, dTx := r.dTx - r.adj.1 + y.dTx, dRx := r.dRx - r.adj.2 + y.dRx, adj := (y.dTx, y.dRx) } }) ∧
    (r.calOk = true → fault = true ∨ 320 < (y.temp - r.calTemp).natAbs →
      ∃ t', exec (.calLost p t y fault) s = .next t' ∧ kept t' = kept x ∧ causeStands 8 3 t' ∧ causeStands 5 6 t' ∧ (portOf t' p).calOk = false ∧
        (portOf t' p).temp = y.temp ∧ (autoRecal (portCfg x p) = true → r.state ≠ .disabled → (portOf t' p).state = .calibrating))) ∧
  (∀ (n t : Nat) (s : State) (l : LaneRun), let x := begin_ t s
    let with_ : LaneRun → State := fun l => { x with pair := { x.pair with lanes := x.pair.lanes.set n l } }
    x.pair.lanes[n]? = some l → running x = true →
    (l.state = .calibrating → ∀ temp dLoop dRx, calInRange x (16 + n) (calDelays x (16 + n) dLoop dRx) = true →
      exec (.calibrationEnd (16 + n) t true temp dLoop dRx) s = .next (with_ { l with state := .down, calOk := true, temp := temp, calTemp := temp, dTx := dLoop - dRx + (nth x.fuse.cal (16 + n)).routeTx, dRx := dRx + (nth x.fuse.cal (16 + n)).routeRx, vari := (0, 0), adj := (0, 0) })) ∧
    (l.state = .down → ∀ f an, exec (.blockLock (16 + n) t f an) s = .next (with_ { l with state := .aligning })) ∧
    (l.state = .aligning → ∀ dTx dRx, exec (.alignmentDone (16 + n) t true dTx dRx) s = .next (with_ { l with state := .up, dTx := l.dTx - l.vari.1 + dTx, dRx := l.dRx - l.vari.2 + dRx, vari := (dTx, dRx) })) ∧
    (l.state = .up → ∃ t', exec (.linkLoss (16 + n) t) s = .next t' ∧ causeStands 12 9 t' ∧ plain t' = plain (with_ { l with state := .down, got := none })) ∧
    (∀ y, exec (.calLost (16 + n) t y true) s = .next (with_ { l with temp := y.temp, calOk := false }))) ∧
  (∀ (p t : Nat) (s : State) (r : PortRun) (f : RefRun), let x := begin_ t s
    running x = true → x.ports[p]? = some r → r.state = .aligning ∨ r.state = .up → x.refs[12 + p]? = some f → f.state ≠ .disabled → f.hasSample = true →
    ∃ q, exec (.synceSample p t) s = .next (deliver (12 + p) q false { x with refs := x.refs.set (12 + p) { f with expected := some (x.now + 10240000) } }) ∧
      q.phaseOk = false ∧ q.period = 2560000 ∧ q.stamp = ((stampNow x : Int) - (refCfg x (12 + p)).compensation).toNat) ∧
  (∀ (p d : Nat) (s : State) (r : PortRun), running s = true → s.ports[p]? = some r → r.esmcBy = some d → esmcRxOn s p = true →
    ∃ t', exec (.esmcTimeout p) s = .next t' ∧ kept t' = kept s ∧ causeStands 8 5 t' ∧ (portOf t' p).rxQl = 15 ∧ (portOf t' p).esmcBy = none ∧
      (portOf t' p).esmcValid = false) ∧
  (∀ (p : Nat) (s : State) (r : PortRun), running s = true → s.ports[p]? = some r → r.state = .up → esmcTxOn s p = true →
    let y := moveTo r.esmcNext { s with out := [] }
    txEnabled y p = true → esmcRoom y p = true →
    ∃ t' f, exec (.esmcTx p) s = .next t' ∧ kept t' = kept s ∧ (portOf t' p).untimed = r.untimed ++ [f] ∧ f.bytes = esmcPdu y p false ∧
      (portOf t' p).txQl = (txQuality y p).1 ∧ (portOf t' p).esmcNext = max y.now r.esmcNext + 1000000000000) ∧
  (∀ (p t : Nat) (s : State) (r : PortRun), running s = true → let x := begin_ t s
    x.ports[p]? = some r → esmcTxOn x p = true → txEnabled x p = true → esmcRoom x p = true → (txQuality x p).1 ≠ r.txQl →
    ∃ t' f, exec (.esmcEventTx p t) s = .next t' ∧ kept t' = kept x ∧ (portOf t' p).untimed = r.untimed ++ [f] ∧ f.bytes = esmcPdu x p true ∧
      (portOf t' p).txQl = (txQuality x p).1)

/-- PAUSE_EFFECT, PAUSE_EXPIRY, PFC_XOFF, PFC_XOFF_REFRESH, PFC_XON and WINDOW_END (R267 to R269, R275). -/
def Obligations.PauseAndWindows : Prop :=
  (∀ (p at_ k n : Nat) (s : State) (r : PortRun) (rest : List (Nat × List (Nat × Nat))), running s = true → s.ports[p]? = some r → r.pauses = (at_, [(k, n)]) :: rest → k < r.pausedUntil.length →
    let y := moveTo at_ { s with out := [] }
    (0 < n → ∃ t', exec (.pauseEffect p) s = .next t' ∧ t' = { y with ports := t'.ports } ∧
      t'.ports = y.ports.set p { r with pauses := rest, pausedSince := (portOf t' p).pausedSince, pausedUntil := r.pausedUntil.set k (some (y.now + n * quantumPs (portCfg s p).mode)) } ∧
      (r.pausedUntil[k]? = some none → k < r.pausedSince.length → (portOf t' p).pausedSince = r.pausedSince.set k y.now)) ∧
    (n = 0 → ∃ t', exec (.pauseEffect p) s = .next t' ∧ t' = { y with ports := t'.ports } ∧
      (portOf t' p).pausedUntil = r.pausedUntil.set k none ∧ (portOf t' p).pauses = rest)) ∧
  (∀ (p k e w u : Nat) (s : State) (r : PortRun), running s = true → s.ports[p]? = some r → r.pausedUntil[k]? = some (some e) → r.pausedSince[k]? = some w → r.paused[k]? = some u →
    let y := moveTo e { s with out := [] }
    exec (.pauseExpiry p k) s = .next { y with ports := y.ports.set p { r with pausedUntil := r.pausedUntil.set k none, paused := r.paused.set k (u + (y.now - w)) } }) ∧
  (∀ (p k t : Nat) (s : State) (r : PortRun), running s = true → let x := begin_ t s
    let f := nth x.work.flows p
    x.ports[p]? = some r → mayPause x p k = true → r.xoff.testBit k = false → f.xoff.getD k 0 ≤ r.occupancy.getD k 0 → txEnabled x p = true →
    ∃ t', exec (.pfcXoff p k t) s = .next t' ∧ Output.pauseFrame p (pfcStart x p) (2 ^ k) f.quanta ∈ t'.out ∧
      plain t' = plain { x with ports := x.ports.set p { r with xoff := setBit r.xoff k, refresh := upd r.refresh k (fun _ => x.now + f.quanta * quantumPs (portCfg x p).mode / 2), windows := (portOf t' p).windows, calendar := pfcCalendar x p r } }) ∧
  (∀ (p k : Nat) (s : State) (r : PortRun), running s = true → s.ports[p]? = some r → r.xoff.testBit k = true → (nth s.work.flows p).xon.getD k 0 ≤ r.occupancy.getD k 0 →
    let y := moveTo (r.refresh.getD k 0) { s with out := [] }
    let f := nth y.work.flows p
    txEnabled y p = true → mayPause y p k = true →
    ∃ t', exec (.pfcXoffRefresh p k) s = .next t' ∧ Output.pauseFrame p (pfcStart y p) (2 ^ k) f.quanta ∈ t'.out ∧
      plain t' = plain { y with ports := y.ports.set p { r with refresh := upd r.refresh k (fun _ => y.now + f.quanta * quantumPs (portCfg y p).mode / 2), windows := (portOf t' p).windows, calendar := pfcCalendar y p r } }) ∧
  (∀ (p k t : Nat) (s : State) (r : PortRun), running s = true → let x := begin_ t s
    x.ports[p]? = some r → r.xoff.testBit k = true → r.occupancy.getD k 0 < (nth x.work.flows p).xon.getD k 0 → txEnabled x p = true → mayPause x p k = true →
    ∃ t', exec (.pfcXon p k t) s = .next t' ∧ Output.pauseFrame p (pfcStart x p) (2 ^ k) 0 ∈ t'.out ∧
      plain t' = plain { x with ports := x.ports.set p { r with xoff := clrBit r.xoff k, windows := (portOf t' p).windows, calendar := pfcCalendar x p r } }) ∧
  (∀ (p k t : Nat) (s : State) (r : PortRun), running s = true → s.ports[p]? = some r → r.xoff.testBit k = true →
    let x := begin_ t s
    let y := moveTo (r.refresh.getD k 0) { s with out := [] }
    (mayPause y p k = false → exec (.pfcXoffRefresh p k) s = .next { y with ports := y.ports.set p { r with xoff := clrBit r.xoff k } }) ∧
    (mayPause x p k = false → r.occupancy.getD k 0 < (nth x.work.flows p).xon.getD k 0 →
      exec (.pfcXon p k t) s = .next { x with ports := x.ports.set p { r with xoff := clrBit r.xoff k } })) ∧
  (∀ (p w : Nat) (s : State) (r : PortRun) (v : Window), running s = true → s.ports[p]? = some r → w < 4 → r.windows[w]? = some v →
    let y := moveTo ((v.idx + 1) * windowLen s p w) { s with out := [] }
    y.now / windowLen s p w = v.idx + 1 →
    exec (.windowEnd p w) s = .next { y with ports := y.ports.set p { r with windows := r.windows.set w { idx := v.idx + 1, count := 0, last := v.count, peak := max v.peak v.count, back := if v.count = 0 then v.back else (v.idx, v.count) } } })

/-- FRAME_RX, TIMED_LAUNCH and FRAME_TX (R25, R250, R251, R263, R266, R267, R277, R284, R293, R299, R301, R507). -/
def Obligations.FramesInAndOut : Prop :=
  (∀ (p t : Nat) (ok : Bool) (f : Bytes) (s : State), let x := begin_ t s
    let len := f.length + 4
    let c := portCfg x p
    let y := countFrame p false (((x.now - len * byteTime c.mode : Nat) : Int) - delayPs c.rxDelay).toNat len x
    let z := portCount p 0 y
    (portOf x p).state = .up → running x = true →
    (len < 64 ∨ c.maxFrame < len → exec (.frameRx p t ok f) s = .next (portCount p 2 y)) ∧
    (64 ≤ len → len ≤ c.maxFrame → ok = false → exec (.frameRx p t ok f) s = .next (portCount p 1 x)) ∧
    (64 ≤ len → len ≤ c.maxFrame → ok = true → fldBE f 12 2 = 0x8808 → fldBE f 14 2 = 1 → (nth x.work.flows p).rxMode = 1 →
      ∃ t', exec (.frameRx p t ok f) s = .next t' ∧ kept t' = kept x ∧
        (portOf t' p).pauses = (portOf x p).pauses ++ [(x.now + 50000, (List.range 8).map fun k => (k, fldBE f 16 2))]) ∧
    (64 ≤ len → len ≤ c.maxFrame → ok = true → fldBE f 12 2 = 0x8808 → fldBE f 14 2 = 0x0101 → (nth x.work.flows p).rxMode = 2 →
      ∃ t', exec (.frameRx p t ok f) s = .next t' ∧ kept t' = kept x ∧ (portOf t' p).pauses = (portOf x p).pauses ++
        [(x.now + 50000, (onesBelow 8 (fldBE f 16 2 &&& (nth x.work.flows p).rxPfcMask)).map fun k => (k, fldBE f (18 + 2 * k) 2))]) ∧
    (64 ≤ len → len ≤ c.maxFrame → ok = true → fldBE f 12 2 ≠ 0x8808 → promiscuous c = false → fldBE f 0 6 ≠ c.mac → isGroup (fldBE f 0 6) = false →
      exec (.frameRx p t ok f) s = .next y) ∧
    (64 ≤ len → len ≤ c.maxFrame → ok = true → fldBE f 12 2 ≠ 0x8808 → promiscuous c = true ∨ fldBE f 0 6 = c.mac ∨ isGroup (fldBE f 0 6) = true →
      (∀ code, roughOf z p f = .clubs code → svcClosed x = false ∨ sharedLane c = false → x.work.svc.clubsRate = 0 →
        (ringFor x p code = none → ∃ t', exec (.frameRx p t ok f) s = .next t' ∧ kept t' = kept x ∧ causeStands 0 10 t' ∧
          t'.host.noRingDrops = add48 x.host.noRingDrops 1) ∧
        (∀ r, ringFor x p code = some r → canTake x .clubs (cellsOf len) = true →
          ∃ t' e, exec (.frameRx p t ok f) s = .next t' ∧ kept t' = kept x ∧ (ringOf t' r).queue = (ringOf x r).queue ++ [e] ∧
            e.data = f ∧ e.code = code ∧ e.port = p)) ∧
      (roughOf z p f = .esmc → canTake x .hearts (cellsOf len) = true →
        ∃ t' q, exec (.frameRx p t ok f) s = .next t' ∧ kept t' = kept x ∧ q ∈ t'.svc.waiting ∧ t'.svc.waiting.length = x.svc.waiting.length + 1 ∧
          q.frame = f ∧ q.port = p ∧ q.suit = .hearts ∧ q.tV = t))) ∧
  (∀ (p l : Nat) (s : State) (f : TxFrame) (rest : List TxFrame), running s = true → (portOf s p).timed = f :: rest → f.launch = some l →
    let y := moveTo l { s with out := [] }
    let onTime := y.now ≤ l ∧ (portOf y p).lineFree ≤ l ∧ txEnabled y p = true
    (isPaused y p f.prio = false → onTime → isHost f = false → f.bound = none → f.insert = none →
      ∃ t' stamp, exec (.timedLaunch p) s = .next t' ∧ kept t' = kept s ∧ (portOf t' p).timed = rest ∧ Output.frame p stamp (padFrame f.bytes) ∈ t'.out ∧
        (f.launchForm = true → stamp = f.stamp)) ∧
    (isPaused y p f.prio = true → isHost f = false → ∃ t', exec (.timedLaunch p) s = .next t' ∧ kept t' = kept s ∧ (portOf t' p).timed = rest) ∧
    (∀ k o i, isPaused y p f.prio = false → ¬ onTime → f.tag = .response k o i →
      ∃ t', exec (.timedLaunch p) s = .next t' ∧ kept t' = kept s ∧ (portOf t' p).timed = rest ∧ causeStands 9 1 t') ∧
    (isPaused y p f.prio = false → onTime → isHost f = false → boundRisen (unqueue p f y) p f = true →
      ∃ t', exec (.timedLaunch p) s = .next t' ∧ kept t' = kept s ∧ (portOf t' p).timed = rest ∧ causeStands 9 3 t') ∧
    (isHost f = true → f.launchForm = false → lateSendTrue (portCfg s p) = true → isPaused y p f.prio = true ∨ ¬ onTime →
      ∃ t', exec (.timedLaunch p) s = .next t' ∧ kept t' = kept s ∧ (portOf t' p).timed = rest ∧
        (portOf t' p).untimed = { f with launch := none, late := true } :: (portOf s p).untimed)) ∧
  (∀ (p t : Nat) (s : State), running s = true → let x := begin_ t s
    (nextUntimed x p = none → exec (.frameTx p t) s = .next x) ∧
    (∀ (f : TxFrame) (i : Nat), nextUntimed x p = some f → txEnabled x p = true → (portOf x p).timed = [] → (portOf x p).calendar = [] → f.insert = none → f.tag = .engine i →
      ∃ t' stamp, exec (.frameTx p t) s = .next t' ∧ kept t' = kept x ∧ (portOf t' p).untimed = (portOf x p).untimed.erase f ∧
        Output.frame p stamp (padFrame f.bytes) ∈ t'.out ∧ max x.now (portOf x p).lineFree + 8 * portByte x p ≤ t'.now))

/-- SVC_CONFIGURE, SVC_ADMISSION, SVC_STATUS, ADMISSION_DECISION, TRICK_JOB, CRYPTO_LANE_DONE, SCHEDULED_PRESENT, SHED_END and ENGINE_FAULT. -/
def Obligations.ServiceRuns : Prop :=
  (∀ (q : Req) (s : State), startsAt 0x0900 q s = true → fitsN q 48 (svcFields q.params) (svcEntries q.params) 24 (svcAddrFields q.params) →
    let x := started 0x0900 q s
    let p := q.params
    let buf := (fld p 0 1).testBit 0
    let clubs := (fld p 0 1).testBit 2
    let l := if (fld p 0 1).testBit 1 = true then upd x.shadow.svcAddrs (fld p 1 1) (fun _ => (List.range (min 8 (fld p 2 1))).map (svcAddrAt p)) else x.shadow.svcAddrs
    ∃ c, exec (.svcConfigure q) s = done 0x0900 q [] { x with shadow := { x.shadow with svc := c, svcAddrs := l } } ∧
      c = { resSpades := if buf then fld p 4 4 else x.shadow.svc.resSpades, resHearts := if buf then fld p 8 4 else x.shadow.svc.resHearts,
            resDiamonds := if buf then fld p 12 4 else x.shadow.svc.resDiamonds, resClubs := if buf then fld p 16 4 else x.shadow.svc.resClubs,
            resTx := if buf then fld p 20 4 else x.shadow.svc.resTx, capDiamonds := if buf then fld p 24 4 else x.shadow.svc.capDiamonds,
            capClubs := if buf then fld p 28 4 else x.shadow.svc.capClubs, shedFree := if buf then fld p 32 4 else x.shadow.svc.shedFree,
            clubsRate := if clubs then fld p 36 4 else x.shadow.svc.clubsRate, clubsBurst := if clubs then fld p 40 4 else x.shadow.svc.clubsBurst,
            mirrorClubs := (fld p 0 1).testBit 3 }) ∧
  (∀ (q : Req) (s : State), startsAt 0x0901 q s = true →
    let x := started 0x0901 q s
    let a := x.work.adm
    fits q 32 (admFields a q.params) →
    ∃ data, exec (.svcAdmission q) s = done 0x0901 q data (if fld q.params 0 1 = 0 then x else { x with shadow := { x.shadow with adm := admApply q.params x.shadow.adm } }) ∧
      data.length = 32 ∧ fld data 2 2 = a.engineMask % 65536 ∧ fld data 4 4 = a.spadesReserve % 2 ^ 32 ∧ fld data 8 4 = a.heartsReserve % 2 ^ 32 ∧
      fld data 12 2 = a.targetPtp % 65536 ∧ fld data 14 2 = a.targetNtp % 65536 ∧ fld data 16 2 = a.targetNts % 65536 ∧ fld data 20 4 = a.rcptMax % 2 ^ 32) ∧
  (∀ (q : Req) (s : State), startsAt 0x0902 q s = true → fits q 0 [] →
    let x := started 0x0902 q s
    ∃ data, exec (.svcStatus q) s = done 0x0902 q data x ∧ (fld data 0 1).testBit 0 = x.svc.shedding ∧ fld data 4 4 = sharedFree x % 2 ^ 32 ∧
      fld data 8 4 = suitCells x .spades % 2 ^ 32 ∧ fld data 24 4 = x.svc.txCells % 2 ^ 32 ∧ fld data 28 4 = x.ntp.pending % 2 ^ 32) ∧
  (∀ (t : Nat) (s : State) (q : Request) (rest : List Request), running s = true → let x := begin_ t s
    let y : State := { x with svc := { x.svc with waiting := rest } }
    (x.svc.waiting = [] → exec (.admissionDecision t) s = .next x) ∧
    (x.svc.waiting = q :: rest → svcClosed x = false →
      ∃ t', exec (.admissionDecision t) s = .next t' ∧ kept t' = kept x ∧ t'.svc.waiting = rest ∧
        (∀ k, decideReq y q = .refuse k → t'.svc.jobs = x.svc.jobs) ∧
        (∀ h lane l, decideReq y q = .take h lane l → ∃ j, getKey x.svc.nextId t'.svc.jobs = some j ∧ j.thread = h ∧ j.launch = l ∧ j.lane = lane ∧
          j.c = reqC q ∧ j.req.frame = q.frame ∧ t'.svc.nextId = x.svc.nextId + 1))) ∧
  (∀ (h j w : Nat) (s : State) (b : Job), running s = true → (threadOf s h).running = some (j, w) → getKey j s.svc.jobs = some b →
    (b.lane = none ∨ b.laneCalled = true → ∃ t', exec (.trickJob h) s = .next t' ∧ kept t' = kept s ∧ getKey j t'.svc.jobs = none) ∧
    (∀ k o lat f, b.lane = some (.hmac, k, o, lat) → b.laneCalled = false → s.svc.hmacFree[k]? = some f →
      let y := moveTo (w + (b.before - b.done)) { s with out := [] }
      ∃ t' c, exec (.trickJob h) s = .next t' ∧ kept t' = kept s ∧ getKey j t'.svc.jobs = some c ∧ c.laneCalled = true ∧ c.done = b.before ∧
        c.laneDone = max y.now f + lat ∧ t'.svc.hmacFree = s.svc.hmacFree.set k (max y.now f + o))) ∧
  (∀ (h j : Nat) (s : State) (th : Thread), running s = true → s.svc.threads[h]? = some th → th.holding = some j → nextLaneDone s h = some j →
    let y := moveTo (jobOf s j).laneDone { s with out := [] }
    ∃ t', exec (.cryptoLaneDone h) s = .next t' ∧ kept t' = kept s ∧ (threadOf t' h).running = some (j, y.now) ∧ (threadOf t' h).holding = none) ∧
  (∀ (i p mtype per phase base : Nat) (g : Option Nat) (s : State) (c : PtpCfg) (b : BindCfg), (portOf s p).state = .up → running s = true → 0 < per →
    scheduleOf { s with out := [] } i p mtype g = some (per, phase, base) → instCfg s i = some c → bindCfg s i p = some b → svcClosed s = false →
    let k := ((curTs s : Int) + 131072000 - phase) / (per : Int) + 1
    let at_ := (k * per + phase).toNat
    (scheduleOf (moveToCounter ((at_ - 131072000) * 2 ^ 32) { s with out := [] }) i p mtype g).isSome = true →
    ∃ t' q seq, exec (.scheduledPresent i p mtype g) s = .next t' ∧ kept t' = kept s ∧ q ∈ t'.svc.waiting ∧
      t'.svc.waiting.length = s.svc.waiting.length + 1 ∧ q.kind = .ptpScheduled ∧ q.port = p ∧ q.work = .scheduled i p mtype g at_ seq ∧
      curTs s + 131072000 < at_ ∧ at_ ≤ curTs s + 131072000 + per ∧ ((at_ : Int) - phase) % per = 0) ∧
  (∀ (s : State) (f : Nat), running s = true → s.svc.shedding = true → s.svc.freeSince = some f →
    let y := moveTo (f + 1000000000) { s with out := [] }
    ∃ t', exec .shedEnd s = .next t' ∧ causeStands 9 5 t' ∧ plain t' = plain { y with svc := { y.svc with shedding := false, freeSince := none } }) ∧
  (∀ (e t : Nat) (s : State), running s = true → let x := begin_ t s
    e < 16 → x.svc.faulty.testBit e = false →
    ∃ t', exec (.engineFault e t) s = .next t' ∧ causeStands 9 2 t' ∧ t'.svc.faulty.testBit e = true ∧ (t'.shadow, t'.work, t'.pending) = (x.shadow, x.work, x.pending) ∧
      (∀ k, k < 4 → threadOf t' (4 * e + k) = {}) ∧ (∀ j b, (j, b) ∈ x.svc.jobs → b.thread / 4 = e → getKey j t'.svc.jobs = none))

/-- PTP_INSTANCE_CREATE, _CONFIGURE and _DELETE, PTP_PORT_BIND, PTP_STATUS, PTP_GRANT_QUERY, PTP_GRANT_REVOKE and PTP_SA_LOAD (R342 to R349). -/
def Obligations.PtpCommands : Prop :=
  (∀ (q : Req) (s : State), startsAt 0x0A00 q s = true → fits q 16 (createFields q.params) →
    let x := started 0x0A00 q s
    let p := q.params
    let i := fld p 0 1
    (getKey i x.shadow.ptp = none → ∃ c, exec (.ptpInstanceCreate q) s = done 0x0A00 q [] { x with shadow := { x.shadow with ptp := putKey i c x.shadow.ptp } } ∧
      c.profile = fld p 1 1 ∧ c.role = fld p 2 1 ∧ c.domain = fld p 3 1 ∧ c.flags = fld p 4 1 ∧ c.clockId = fldBE p 8 8) ∧
    (getKey i x.shadow.ptp ≠ none → exec (.ptpInstanceCreate q) s = .next (reply 0x0A00 q 0x12 0 [] x))) ∧
  (∀ (q : Req) (s : State) (c : PtpCfg), startsAt 0x0A01 q s = true →
    let x := started 0x0A01 q s
    let p := q.params
    let i := fld p 0 1
    (getKey i x.shadow.ptp = some c → fits q 56 (instFields x.shadow.sas c p) →
      ∃ d, exec (.ptpInstanceConfigure q) s = done 0x0A01 q [] { x with shadow := { x.shadow with ptp := putKey i d x.shadow.ptp } } ∧
      d.profile = c.profile ∧ d.role = c.role ∧ d.domain = c.domain ∧ d.flags = c.flags ∧ d.clockId = c.clockId ∧
      d.priority1 = fld p 1 1 ∧ d.priority2 = fld p 2 1 ∧ d.localPriority = fld p 3 1 ∧ d.logSync = fldI p 4 1 ∧ d.logAnnounce = fldI p 5 1 ∧
      d.logDelay = fldI p 6 1 ∧ d.announceTimeout = fld p 7 1 ∧ d.cfgFlags = fld p 8 1 ∧ d.authMode = fld p 9 1 ∧ d.txSa = fld p 10 1 ∧
      d.delayAvg = fld p 11 1 ∧ d.variance = fld p 12 2 ∧ d.grantLimit = fld p 24 4 ∧ d.maxDuration = fld p 28 4 ∧ d.syncPhase = fldI p 40 8) ∧
    (getKey i x.shadow.ptp = none → fits q 56 [inF 0 1 0 63] → exec (.ptpInstanceConfigure q) s = .next (reply 0x0A01 q 0x12 0 [] x))) ∧
  (∀ (q : Req) (s : State), startsAt 0x0A02 q s = true → fits q 4 [inF 0 1 0 63, inF 1 1 0 1, rsvF 2 2] →
    let x := started 0x0A02 q s
    let i := fld q.params 0 1
    (getKey i x.shadow.ptp ≠ none → exec (.ptpInstanceDelete q) s = done 0x0A02 q [] { x with shadow := { x.shadow with
      ptp := delKey i x.shadow.ptp, binds := x.shadow.binds.filter (fun b => b.inst != i), ptpGone := x.shadow.ptpGone ++ [(i, (fld q.params 1 1).testBit 0)] } }) ∧
    (getKey i x.shadow.ptp = none → exec (.ptpInstanceDelete q) s = .next (reply 0x0A02 q 0x12 0 [] x))) ∧
  (∀ (q : Req) (s : State) (c : PtpCfg), startsAt 0x0A03 q s = true →
    let x := started 0x0A03 q s
    let p := q.params
    let i := fld p 0 1
    let n := fld p 1 1
    let others : List BindCfg := otherBinds x.shadow i n
    let mine : List BindCfg := others.filter (fun b => b.inst == i)
    let clash : Prop := ∃ b, b ∈ others ∧ b.port = n ∧ b.transport = fld p 3 1 ∧ ∃ d ∈ getKey b.inst x.shadow.ptp, d.domain = c.domain
    let tooMany : Prop := c.role = 1 ∧ mine ≠ [] ∨ c.role = 2 ∧ 8 ≤ mine.length
    let full : Prop := 8 ≤ (others.filter (fun (b : BindCfg) => b.port == n)).length ∨ 256 ≤ others.length
    getKey i x.shadow.ptp = some c →
    (fld p 2 1 = 1 → fitsN q 32 (bindFields c p) (min 4 (fld p 7 1)) 24 (upstreamFields p) →
      (¬ clash → ¬ tooMany → ¬ full → ∃ b, exec (.ptpPortBind q) s = done 0x0A03 q [] { x with shadow := { x.shadow with binds := others ++ [b] } } ∧
        b.inst = i ∧ b.port = n ∧ b.transport = fld p 3 1 ∧ b.portMode = fld p 4 1 ∧ b.flags = fld p 5 1 ∧ b.localPriority = fld p 6 1 ∧
        b.rateLimit = fld p 8 4 ∧ b.upDuration = fld p 12 2 ∧ b.asymmetry = fldI p 24 8 ∧ b.upstreams.length = min 4 (fld p 7 1)) ∧
      (clash ∨ tooMany → exec (.ptpPortBind q) s = .next (reply 0x0A03 q 0x11 0 [] x)) ∧
      (¬ clash → ¬ tooMany → full → exec (.ptpPortBind q) s = .next (reply 0x0A03 q 0x20 0 [] x))) ∧
    (fld p 2 1 = 0 → fits q 4 [inF 0 1 0 63, inF 1 1 0 15, inF 2 1 0 1] →
      ((∃ b, b ∈ x.shadow.binds ∧ b.inst = i ∧ b.port = n) → exec (.ptpPortBind q) s = done 0x0A03 q [] { x with shadow := { x.shadow with binds := others } }) ∧
      ((¬ ∃ b, b ∈ x.shadow.binds ∧ b.inst = i ∧ b.port = n) → exec (.ptpPortBind q) s = .next (reply 0x0A03 q 0x12 0 [] x)))) ∧
  (∀ (q : Req) (s : State), startsAt 0x0A04 q s = true → fits q 4 [inF 0 1 0 63, rsvF 1 3] →
    let x := started 0x0A04 q s
    let i := fld q.params 0 1
    let r := instRun x i
    ∃ data, exec (.ptpStatus q) s = done 0x0A04 q data x ∧ data.length = 72 + 32 * (bindsOf x i).length ∧ fld data 0 1 = i % 256 ∧
      (fld data 1 1).testBit 0 = (instCfg x i).isSome ∧ (fld data 1 1).testBit 1 = r.tracking ∧ fld data 2 1 = r.clockClassSent % 256 ∧
      fld data 3 1 = r.accuracySent % 256 ∧ fld data 26 1 = (bindsOf x i).length % 256 ∧ fld data 56 8 = r.unc % 2 ^ 64 ∧
      fld data 64 4 = (x.ptp.grants.filter (fun e => e.2.inst == i)).length % 2 ^ 32 ∧ fld data 68 4 = r.samples % 2 ^ 32) ∧
  (∀ (q : Req) (s : State), startsAt 0x0A10 q s = true → fits q 24 (queryFields q.params) →
    let x := started 0x0A10 q s
    let p := q.params
    let v6 := fld p 2 1 == 6
    let l : List (Nat × Grant) := x.ptp.grants.filter (fun e => e.2.inst == fld p 0 1 && decide (fld p 4 4 ≤ e.1) && (!(bit (fld p 1 1) 0) || (e.2.v6 == v6 && e.2.addr == fldBE p 8 (if v6 then 16 else 4))))
    ∃ data, exec (.ptpGrantQuery q) s = done 0x0A10 q data x ∧ data.length = 16 + 32 * min (fld p 3 1) l.length ∧
      fld data 0 1 = min (fld p 3 1) l.length % 256 ∧ fld data 1 1 = (if fld p 3 1 < l.length then 1 else 0) ∧ fld data 8 4 = rawMs x % 2 ^ 32) ∧
  (∀ (q : Req) (s : State), startsAt 0x0A11 q s = true → fits q 20 (revokeFields q.params) →
    let x := started 0x0A11 q s
    let p := q.params
    let v6 := fld p 3 1 == 6
    let hits : List (Nat × Grant) := x.ptp.grants.filter (fun e => e.2.inst == fld p 0 1 && !e.2.cancelSent && (bit (fld p 1 1) 0 || (e.2.v6 == v6 && e.2.addr == fldBE p 4 (if v6 then 16 else 4))) &&
      ((bit (fld p 2 1) 0 && e.2.mtype == 0) || (bit (fld p 2 1) 1 && e.2.mtype == 11) || (bit (fld p 2 1) 2 && e.2.mtype == 9)))
    (isDummy x = true → exec (.ptpGrantRevoke q) s = .next (reply 0x0A11 q 0x21 0 [] x)) ∧
    (isDummy x = false → ∃ data t', exec (.ptpGrantRevoke q) s = done 0x0A11 q data t' ∧ data.length = 8 ∧ fld data 0 4 = hits.length % 2 ^ 32 ∧
      kept t' = kept x ∧ (∀ e, e ∈ x.ptp.grants → (∀ g, g ∈ hits → g.1 ≠ e.1) → e ∈ t'.ptp.grants) ∧
      ((fld p 1 1).testBit 1 = false → ∀ e, e ∈ hits → getKey e.1 t'.ptp.grants = none) ∧
      ((fld p 1 1).testBit 1 = true → ∀ e, e ∈ hits → (e.1, { e.2 with cancelSent := true }) ∈ t'.ptp.grants))) ∧
  (∀ (q : Req) (s : State), startsAt 0x0A20 q s = true → fits q 16 (saFields q.params) →
    let x := started 0x0A20 q s
    let p := q.params
    let k := fld p 0 1
    let used : Prop := ∃ e, e ∈ x.shadow.ptp ∧ e.2.authMode ≠ 0 ∧ e.2.txSa = k
    let twin : Prop := ∃ e, e ∈ x.shadow.sas ∧ e.1 ≠ k ∧ e.2.spp = fld p 4 1 ∧ e.2.keyId = fld p 8 4
    (fld p 1 1 = 1 → ¬ used → exec (.ptpSaLoad q) s = done 0x0A20 q [] { x with shadow := { x.shadow with sas := delKey k x.shadow.sas } }) ∧
    (fld p 1 1 = 1 → used → exec (.ptpSaLoad q) s = .next (reply 0x0A20 q 0x12 0 [] x)) ∧
    (fld p 1 1 = 0 → kittyKey x (fld p 6 2) = none → exec (.ptpSaLoad q) s = .next (reply 0x0A20 q 0x12 0 [] x)) ∧
    (fld p 1 1 = 0 → kittyKey x (fld p 6 2) ≠ none → twin → exec (.ptpSaLoad q) s = .next (reply 0x0A20 q 0x11 4 [] x)) ∧
    (fld p 1 1 = 0 → kittyKey x (fld p 6 2) ≠ none → ¬ twin → ∃ n, exec (.ptpSaLoad q) s = done 0x0A20 q [] { x with shadow := { x.shadow with
      sas := putKey k { alg := fld p 2 1, zeroCorr := fld p 3 1 == 1, spp := fld p 4 1, slot := fld p 6 2, keyId := fld p 8 4, salt := fld p 12 4, loads := n } x.shadow.sas } }))

/-- ANNOUNCE_TIMEOUT, FOLLOWUP_TIMEOUT, SYNC_TIMEOUT, PATH_DELAY_TIMEOUT, GRANT_EXPIRY, ST2059_METADATA, UPSTREAM_RENEW and UPSTREAM_RETRY. -/
def Obligations.PtpTimers : Prop :=
  (∀ (i p : Nat) (s : State) (c : PtpCfg) (b : BindCfg) (a : Announce), running s = true → instCfg s i = some c → bindCfg s i p = some b →
    (bindRun s i p).state = .listening ∨ (bindRun s i p).state = .passive ∨ (bindRun s i p).state = .uncalibrated ∨ (bindRun s i p).state = .slave →
    ∃ t', exec (.announceTimeout i p) s = .next t' ∧ kept t' = kept s ∧
      ((instRun s i).parent = some (p, a) → causeStands 10 2 t' ∧ (bindRun t' i p).announceTimeouts = ((bindRun s i p).announceTimeouts + 1) % 2 ^ 32 ∧
        (instRun t' i).tracking = false) ∧
      ((instRun s i).parent = none → (bindRun t' i p).announceTimeouts = (bindRun s i p).announceTimeouts)) ∧
  (∀ (i p : Nat) (s : State) (w : SyncWait), running s = true → (bindRun s i p).sync = some w →
    let y := moveTo w.deadline { s with out := [] }
    let r := bindRun s i p
    ∃ t', exec (.followupTimeout i p) s = .next t' ∧ plain t' = plain { y with ptp := { y.ptp with
      binds := putKey (16 * i + p) { r with sync := r.later.head?, later := r.later.tail, followupTimeouts := (r.followupTimeouts + 1) % 2 ^ 32 } y.ptp.binds } }) ∧
  (∀ (i p : Nat) (s : State) (a : Announce), running s = true → (instRun s i).parent = some (p, a) → (instRun s i).tracking = true →
    ∃ t', exec (.syncTimeout i) s = .next t' ∧ kept t' = kept s ∧ causeStands 10 2 t' ∧ (instRun t' i).tracking = false) ∧
  (∀ (i p : Nat) (s : State), running s = true → (bindRun s i p).delays ≠ [] →
    let y := moveTo ((bindRun s i p).delayAt + 16 * logPs (delayLogOf { s with out := [] } i p)) { s with out := [] }
    exec (.pathDelayTimeout i p) s = .next { y with ptp := { y.ptp with binds := putKey (16 * i + p) { bindRun s i p with delays := [], asCapable := false } y.ptp.binds } }) ∧
  (∀ (k : Nat) (s : State) (g : Grant), running s = true → getKey k s.ptp.grants = some g →
    let y := moveTo (g.expiry * 1000000000) { s with out := [] }
    ∃ t', exec (.grantExpiry k) s = .next t' ∧ getKey k t'.ptp.grants = none ∧ (∀ j, j ≠ k → getKey j t'.ptp.grants = getKey j s.ptp.grants) ∧
      plain t' = plain { y with ptp := { y.ptp with grants := t'.ptp.grants, neighbours := t'.ptp.neighbours } }) ∧
  (∀ (i : Nat) (s : State) (c : PtpCfg), instCfg s i = some c → c.profile = 5 → running s = true →
    let target := (s.time.counter.total / 2 ^ 48 + 500000000) / 1000000000 * 1000000000 + 500000000
    let y := moveToCounter (target * 2 ^ 48) { s with out := [] }
    (bindsOf s i = [] → exec (.st2059Metadata i) s = .next y) ∧
    (∀ b, bindsOf s i = [b] → (bindRun s i b.port).state = .master → (portOf s b.port).state = .up → svcClosed s = false →
      ∃ t' f, exec (.st2059Metadata i) s = .next t' ∧ kept t' = kept s ∧ (portOf t' b.port).untimed = (portOf s b.port).untimed ++ [f] ∧ f.tag = .engine i)) ∧
  (∀ (i p k m d : Nat) (s : State) (g : UpGrant) (b : BindCfg), running s = true → upGrantOf s i p k m = some g → g.renewAt = some d → bindCfg s i p = some b →
    let log := if m = 11 then b.upLogAnnounce else if m = 0 then b.upLogSync else b.upLogDelay
    (g.granted = true → ∃ t' q mac, exec (.upstreamRenew i p k m) s = .next t' ∧ kept t' = kept s ∧ t'.svc.waiting = s.svc.waiting ++ [q] ∧
      q.work = .signal i p mac (nth b.upstreams k).addr [] ∧ q.frame = requestTlv m log b.upDuration) ∧
    (g.granted = false → ∃ t' q mac, exec (.upstreamRetry i p k m) s = .next t' ∧ kept t' = kept s ∧ t'.svc.waiting = s.svc.waiting ++ [q] ∧
      q.work = .signal i p mac (nth b.upstreams k).addr [] ∧ q.frame = requestTlv m log b.upDuration))

/-- NTP_CONFIGURE, NTP_RATE_POLICY, NTP_STATUS, NTS_KEY_LOAD, NTS_KEY_ROTATE, NTS_COOKIE_MINT, RCPT_CONFIGURE and RCPT_STATUS (R375 to R382). -/
def Obligations.TimeServiceCommands : Prop :=
  (∀ (q : Req) (s : State), startsAt 0x0B00 q s = true →
    let x := started 0x0B00 q s
    let p := q.params
    fits q 16 (ntpCfgFields x p) →
    let c : NtpCfg := { enable := fld p 1 1 == 1, flags := fld p 2 1, stratum := fld p 3 1, degradedStratum := fld p 4 1, degradedClass := fld p 5 1, unsyncClass := fld p 6 1, addrMask := fld p 7 1, portMask := fld p 8 2, refid := fldBE p 12 4 }
    exec (.ntpConfigure q) s = done 0x0B00 q [] { x with shadow := { x.shadow with ntp := upd x.shadow.ntp (fld p 0 1) (fun _ => c) } }) ∧
  (∀ (q : Req) (s : State), startsAt 0x0B01 q s = true →
    let x := started 0x0B01 q s
    let p := q.params
    let n := if fld p 0 1 = 1 then min 16 (fld p 10 1) else 0
    fitsN q 16 (rateFields p) n 20 (exemptFields p) →
    let c : RateCfg := { action := fld p 1 1, kodPoll := fld p 2 1, ipv6Prefix := fld p 3 1, rate := fld p 4 4, burst := fld p 8 2, kodInterval := fld p 12 4, exempt := (List.range n).map (exemptAt p) }
    let r := x.work.rate
    ∃ data, exec (.ntpRatePolicy q) s = done 0x0B01 q data (if fld p 0 1 = 1 then { x with shadow := { x.shadow with rate := c } } else x) ∧
      data.length = 16 + 20 * r.exempt.length ∧ fld data 1 1 = r.action % 256 ∧ fld data 2 1 = r.kodPoll % 256 ∧ fld data 4 4 = r.rate % 2 ^ 32 ∧
      fld data 8 2 = r.burst % 65536 ∧ fld data 10 1 = r.exempt.length % 256 ∧ fld data 12 4 = r.kodInterval % 2 ^ 32) ∧
  (∀ (q : Req) (s : State), startsAt 0x0B02 q s = true → fits q 4 [inF 0 1 0 15, rsvF 1 3] →
    let x := started 0x0B02 q s
    let i := fld q.params 0 1
    let r := ntpRun x i
    ∃ data, exec (.ntpStatus q) s = done 0x0B02 q data x ∧ data.length = 96 ∧ fld data 0 1 = i % 256 ∧ (fld data 1 1).testBit 0 = (ntpCfg x i).enable ∧
      (fld data 1 1).testBit 3 = r.rotateAt.isSome ∧ fld data 12 4 = r.previous.epoch % 2 ^ 32 ∧ fld data 16 4 = r.current.epoch % 2 ^ 32 ∧
      fld data 20 4 = r.next.epoch % 2 ^ 32 ∧ fld data 24 8 = r.plain % 2 ^ 64 ∧ fld data 32 8 = r.symmetric % 2 ^ 64 ∧ fld data 40 8 = r.nts % 2 ^ 64 ∧
      fld data 72 8 = r.notServed % 2 ^ 64 ∧ fld data 80 8 = x.ntp.rateDrops % 2 ^ 64 ∧ fld data 88 8 = x.ntp.malformed % 2 ^ 64) ∧
  (∀ (q : Req) (s : State), startsAt 0x0B10 q s = true →
    let x := started 0x0B10 q s
    let p := q.params
    let i := fld p 1 1
    let id := fld p 8 4
    let k := i * 2 ^ 32 + id
    let slot := fld p 4 2
    fits q 12 (keyLoadFields x p) →
    (fld p 2 1 = 0 → kittyKey x slot = none → exec (.ntsKeyLoad q) s = .next (reply 0x0B10 q 0x12 0 [] x)) ∧
    (fld p 2 1 = 0 → kittyKey x slot ≠ none → fld p 0 1 = 1 → 1024 ≤ x.shadow.symKeys.length → exec (.ntsKeyLoad q) s = .next (reply 0x0B10 q 0x20 0 [] x)) ∧
    (fld p 2 1 = 0 → kittyKey x slot ≠ none → fld p 0 1 = 1 → x.shadow.symKeys.length < 1024 →
      ∃ n, exec (.ntsKeyLoad q) s = done 0x0B10 q [] { x with shadow := { x.shadow with symKeys := putKey k { slot := slot, loads := n } x.shadow.symKeys } }) ∧
    (fld p 2 1 = 0 → kittyKey x slot ≠ none → fld p 0 1 = 0 →
      exec (.ntsKeyLoad q) s = done 0x0B10 q [] { x with shadow := { x.shadow with ntsNext := upd x.shadow.ntsNext i (fun n => { n with epoch := id, slot := slot, loads := n.loads + 1 }) } }) ∧
    (fld p 2 1 = 1 → fld p 0 1 = 1 → exec (.ntsKeyLoad q) s = done 0x0B10 q [] { x with shadow := { x.shadow with symKeys := delKey k x.shadow.symKeys } }) ∧
    (fld p 2 1 = 1 → fld p 0 1 = 0 → id = (ntpRun x i).current.epoch → id ≠ 0 → exec (.ntsKeyLoad q) s = .next (reply 0x0B10 q 0x12 0 [] x)) ∧
    (fld p 2 1 = 1 → fld p 0 1 = 0 → id ≠ (ntpRun x i).current.epoch ∨ id = 0 →
      ∃ l, exec (.ntsKeyLoad q) s = done 0x0B10 q [] { x with shadow := { x.shadow with ntsNext := l } } ∧ (∀ j, j ≠ i → l[j]? = x.shadow.ntsNext[j]?) ∧
        ∀ n, x.shadow.ntsNext[i]? = some n → ∃ m, l[i]? = some m ∧ m.erased = n.erased ++ [id] ∧ (id ≠ 0 → shadowNext x i = id → m.epoch = 0) ∧ (shadowNext x i ≠ id → m.epoch = n.epoch))) ∧
  (∀ (q : Req) (s : State) (r : NtpRun), startsAt 0x0B11 q s = true → fits q 16 (rotateFields q.params) →
    let x := started 0x0B11 q s
    let p := q.params
    let i := fld p 0 1
    let at_ := tsOfField (fld p 4 12)
    x.ntp.insts[i]? = some r →
    (isDummy x = true → exec (.ntsKeyRotate q) s = .next (reply 0x0B11 q 0x21 0 [] x)) ∧
    (isDummy x = false → fld p 1 1 = 1 → ∃ data, exec (.ntsKeyRotate q) s = done 0x0B11 q data { x with ntp := { x.ntp with insts := x.ntp.insts.set i { r with rotateAt := none } } } ∧
      data.length = 16 ∧ fld data 4 4 = r.current.epoch % 2 ^ 32) ∧
    (isDummy x = false → fld p 1 1 = 0 → r.next.epoch = 0 → exec (.ntsKeyRotate q) s = .next (reply 0x0B11 q 0x12 0 [] x)) ∧
    (isDummy x = false → fld p 1 1 = 0 → r.next.epoch ≠ 0 → at_ = 0 →
      let y := nextTick x
      ∃ data t', exec (.ntsKeyRotate q) s = done 0x0B11 q data t' ∧ causeStands 11 3 t' ∧ data.length = 16 ∧ fld data 0 4 = r.current.epoch % 2 ^ 32 ∧
        fld data 4 4 = r.next.epoch % 2 ^ 32 ∧ plain t' = plain { y with ntp := { y.ntp with insts := y.ntp.insts.set i { r with previous := r.current, current := r.next, next := {} } } }) ∧
    (isDummy x = false → fld p 1 1 = 0 → r.next.epoch ≠ 0 → at_ ≠ 0 → r.rotateAt ≠ none ∨ at_ ≤ curTs x → exec (.ntsKeyRotate q) s = .next (reply 0x0B11 q 0x12 0 [] x)) ∧
    (isDummy x = false → fld p 1 1 = 0 → r.next.epoch ≠ 0 → at_ ≠ 0 → r.rotateAt = none → curTs x < at_ →
      ∃ data, exec (.ntsKeyRotate q) s = done 0x0B11 q data { x with ntp := { x.ntp with insts := x.ntp.insts.set i { r with rotateAt := some at_ } } } ∧
        fld data 0 4 = r.current.epoch % 2 ^ 32 ∧ fld data 4 4 = r.next.epoch % 2 ^ 32 ∧ fld data 12 1 = 1)) ∧
  (∀ (q : Req) (s : State), startsAt 0x0B12 q s = true → fits q 72 [inF 0 1 0 15, inF 1 1 1 8, inF 2 2 15 15, rsvF 4 4, anyF 8 32, anyF 40 32] →
    let x := started 0x0B12 q s
    let i := fld q.params 0 1
    let e := (ntpRun x i).current.epoch
    let able : Prop := (ntpCfg x i).flags.testBit 2 = true ∧ e ≠ 0
    (¬ able → exec (.ntsCookieMint q) s = .next (reply 0x0B12 q 0x12 0 [] x)) ∧
    (able → ∃ data t', exec (.ntsCookieMint q) s = done 0x0B12 q data t' ∧ t' = { nextTick x with free := t'.free } ∧
      fldBE data 0 4 = (i * 2 ^ 28 + e) % 2 ^ 32 ∧ fld data 4 1 = fld q.params 1 1 % 256)) ∧
  (∀ (q : Req) (s : State), startsAt 0x0B20 q s = true →
    fits q 8 [inF 0 1 0 1, rsvF 1 1, F 2 2 (fun v => v != 0 && v != 123 && v != 319 && v != 320), inF 4 2 0 4095, rsvF 6 2] →
    let x := started 0x0B20 q s
    let p := q.params
    (fld p 0 1 = 1 → kittyKey x (fld p 4 2) = none → exec (.rcptConfigure q) s = .next (reply 0x0B20 q 0x12 0 [] x)) ∧
    (fld p 0 1 = 0 ∨ kittyKey x (fld p 4 2) ≠ none → ∃ n, exec (.rcptConfigure q) s = done 0x0B20 q [] { x with shadow := { x.shadow with rcpt := { enable := fld p 0 1 == 1, udpPort := fld p 2 2, slot := fld p 4 2, loads := n } } })) ∧
  (∀ (q : Req) (s : State), startsAt 0x0B21 q s = true → fits q 0 [] →
    let x := started 0x0B21 q s
    ∃ data, exec (.rcptStatus q) s = done 0x0B21 q data x ∧ (fld data 0 1).testBit 0 = x.work.rcpt.enable ∧ (fld data 0 1).testBit 2 = x.ntp.open_.isSome ∧
      fld data 2 2 = x.work.rcpt.udpPort % 65536 ∧ fld data 4 4 = x.ntp.pending % 2 ^ 32)

/-- SCHEDULED_ROTATION, BATCH_CLOSE and BATCH_SIGNED (R43, R296, R362, R367, R379). -/
def Obligations.RotationsAndBatches : Prop :=
  (∀ (i a : Nat) (s : State) (r : NtpRun), running s = true → s.ntp.insts[i]? = some r → r.rotateAt = some a →
    let y := moveToCounter (a * 2 ^ 32) { s with out := [] }
    ∃ t', exec (.scheduledRotation i) s = .next t' ∧ causeStands 11 3 t' ∧
      plain t' = plain { y with ntp := { y.ntp with insts := y.ntp.insts.set i { r with previous := r.current, current := r.next, next := {}, rotateAt := none } } }) ∧
  (∀ (s : State) (b : Batch), running s = true → s.ntp.open_ = some b →
    let y := moveTo (b.first + 8000000000) { s with out := [] }
    exec .batchClose s = .next { y with ntp := { y.ntp with open_ := none, closed := y.ntp.closed ++ [b] } }) ∧
  (∀ (t : Nat) (s : State), running s = true → let x := begin_ t s
    (x.ntp.closed = [] → exec (.batchSigned t) s = .next x) ∧
    (∀ b rest, x.ntp.closed = b :: rest → ∃ t', exec (.batchSigned t) s = .next t' ∧ kept t' = kept x ∧ t'.ntp.closed = rest ∧ t'.ntp.lastBatchId = b.id ∧
      t'.ntp.lastBatchSize = b.leaves.length ∧ t'.ntp.batches = add48 x.ntp.batches 1 ∧
      (∀ r, b.leaves = [r] → (portOf x r.port).state = .up → ∃ e, e ∈ (portOf t' r.port).calendar ∧ x.now + 80000 ≤ e.1)))

/-- PAIR_CONFIGURE, PAIR_STATUS, PAIR_CLAIM_SET, PAIR_SWITCH, PAIR_SWITCH_TIMEOUT, PAIR_RESYNC and PAIR_SELFTEST_REPORT (R423 to R428). -/
def Obligations.PairCommands : Prop :=
  (∀ (q : Req) (s : State), startsAt 0x0C00 q s = true →
    let x := started 0x0C00 q s
    let p := q.params
    fitsN q 56 (pairFields p) (min 8 (fld p 6 1)) 16 (pairEntryFields x.shadow p) →
    let es : List CompareCfg := (List.range (fld p 6 1)).map fun k => { channel := fld p (56 + 16 * k) 1, output := fld p (57 + 16 * k) 1, tap := fldI p (64 + 16 * k) 8 }
    let c : PairCfg := { mode := fld p 0 1, flags := fld p 1 1, margin := fld p 2 1, compareCount := fld p 3 1, lockstepHands := fld p 4 2, followBw := fld p 8 4, plAsym := fldI p 16 8, plAsymUnc := fld p 24 8, compareLimit := fld p 32 8, trimLimit := fld p 40 8, joinLimit := fld p 48 8, entries := es }
    exec (.pairConfigure q) s = done 0x0C00 q [] { x with shadow := { x.shadow with pair := c } }) ∧
  (∀ (q : Req) (s : State), startsAt 0x0C01 q s = true → fits q 0 [] →
    let x := started 0x0C01 q s
    ∃ data, exec (.pairStatus q) s = done 0x0C01 q data x ∧ data.length = 80 + 24 * x.work.pair.entries.length ∧ fld data 0 1 = (if isDummy x then 1 else 0) ∧
      fld data 1 1 = (match x.pair.sync with | .single => 0 | .alone => 1 | .paired => 2 | .joining => 3 | .copying => 4 | .lockstep => 5 | .synced => 6) ∧
      fld data 2 1 = x.pair.force % 256 ∧ (fld data 6 2).testBit 0 = x.pair.enable ∧ (fld data 6 2).testBit 1 = x.pair.seizing ∧ (fld data 6 2).testBit 5 = x.pair.heard ∧
      fld data 9 1 = x.pair.lastFinding % 256 ∧ fld data 12 4 = x.pair.switchovers % 2 ^ 32 ∧ fld data 28 4 = x.pair.mismatches % 2 ^ 32 ∧
      fld data 56 4 = x.pair.snapshotsApplied % 2 ^ 32 ∧ fld data 68 4 = x.pair.hbMissed % 2 ^ 32 ∧ fld data 72 2 = x.pair.mirrorOpcode % 65536) ∧
  (∀ (q : Req) (s : State), startsAt 0x0C02 q s = true → fits q 4 [inF 0 1 0 6, rsvF 1 3] →
    let x := started 0x0C02 q s
    (x.pair.live = false → ∃ data, exec (.pairClaimSet q) s = done 0x0C02 q data { x with pair := { x.pair with pref := fld q.params 0 1 } } ∧
      data.length = 4 ∧ fld data 0 1 = x.pair.force % 256) ∧
    (x.pair.live = true → exec (.pairClaimSet q) s = .next { x with pair := { x.pair with pref := fld q.params 0 1 }, host := { x.host with waits := x.host.waits ++ [{ key := .claimSet, opcode := 0x0C02, req := q }] } })) ∧
  (∀ (q : Req) (s : State), startsAt 0x0C03 q s = true → fits q 4 [inF 0 1 0 1, rsvF 1 3] →
    let x := started 0x0C03 q s
    let able : Prop := x.pair.heard = true ∧ (x.pair.partner.sync = 6 ∨ fld q.params 0 1 = 1)
    (isDummy x = true → exec (.pairSwitch q) s = .next (reply 0x0C03 q 0x21 0 [] x)) ∧
    (isDummy x = false → ¬ able → exec (.pairSwitch q) s = .next (reply 0x0C03 q 0x12 0 [] x)) ∧
    (isDummy x = false → able → ∃ t', exec (.pairSwitch q) s = .next t' ∧ t'.pair = { x.pair with switchAt := some x.now } ∧
      t'.host.waits = x.host.waits ++ [{ key := .pairSwitch, opcode := 0x0C03, req := q }] ∧
      t' = { x with pair := t'.pair, out := t'.out, host := { x.host with waits := t'.host.waits } } ∧
      Output.link none "SWITCH_REQUEST" [BitVec.ofNat 8 (if fld q.params 0 1 = 1 then 1 else 0)] ∈ t'.out)) ∧
  (∀ (s : State) (a : Nat), running s = true → s.pair.switchAt = some a →
    ∃ t', exec .pairSwitchTimeout s = .next t' ∧ kept t' = kept s ∧ t'.pair.switchAt = none ∧ t'.now = (moveTo (a + 10000000000) { s with out := [] }).now ∧
      ∀ w, s.host.waits = [w] → w.key = .pairSwitch → t'.host.waits = []) ∧
  (∀ (q : Req) (s : State), startsAt 0x0C04 q s = true → fits q 4 [inF 0 1 0 1, rsvF 1 3] →
    let x := started 0x0C04 q s
    let verify : Prop := fld q.params 0 1 = 1
    let synced : Prop := if isDummy x then x.pair.sync = .synced else x.pair.partner.sync = 6
    let able : Prop := x.work.pair.mode = 1 ∧ x.pair.heard = true ∧ (verify → synced)
    (¬ able → exec (.pairResync q) s = .next (reply 0x0C04 q 0x12 0 [] x)) ∧
    (able → isDummy x = false → ∃ b, exec (.pairResync q) s = done 0x0C04 q [] { x with out := x.out ++ [.link none "MIRROR" b] }) ∧
    (able → isDummy x = true → verify → exec (.pairResync q) s = done 0x0C04 q [] { x with pair := { x.pair with stopped := false, lockFails := 0, sync := .lockstep, lockRun := 0 } }) ∧
    (able → isDummy x = true → ¬ verify → ∃ t', exec (.pairResync q) s = done 0x0C04 q [] t' ∧ kept t' = kept x ∧ t'.pair.sync = .joining ∧
      t'.pair.stopped = false ∧ t'.pair.timeSet = false ∧ t'.pair.joinCount = 0)) ∧
  (∀ (q : Req) (s : State), startsAt 0x0C05 q s = true → fits q 0 [] →
    let x := started 0x0C05 q s
    ∃ data, exec (.pairSelftestReport q) s = done 0x0C05 q data x ∧ data.length = 112 ∧ ∀ k, k < 7 → fld data (16 * k) 1 = k ∧
      fld data (16 * k + 1) 1 = (if testRole k x then (nth x.pair.tests k).result else 2) % 256 ∧ fld data (16 * k + 4) 4 = (nth x.pair.tests k).failures % 2 ^ 32)

/-- CLAIM_FRAME_TX, CLAIM_FRAME_RX, CLAIM_QUIET, CLAIM_ABSENT, CLAIM_IN_FORCE, ENABLE_RISE, ENABLE_FALL and SELF_FAULT. -/
def Obligations.ClaimsAndEnable : Prop :=
  (∀ (t : Nat) (r : Option Nat) (s : State), let x := begin_ t s
    let c := claimNow x
    (x.pair.live = false → exec (.claimFrameTx t r) s = .next x) ∧
    (x.pair.live = true → r = some c → ∃ t', exec (.claimFrameTx t r) s = .next t' ∧ kept t' = kept x ∧ Output.claim c ∈ t'.out ∧ t'.pair.readFails = 0 ∧ t'.pair.sent = c ∧
      (c ≤ x.pair.force → t'.pair.force = c ∧ t'.pair.rising = none) ∧ (x.pair.force < c → t'.pair.force = x.pair.force ∧ t'.pair.rising = some (c, x.now + 220000))) ∧
    (x.pair.live = true → r ≠ some c → x.pair.readFails = 0 → ∃ t', exec (.claimFrameTx t r) s = .next t' ∧ kept t' = kept x ∧ t'.pair.readFails = 1 ∧ t'.pair.live = true) ∧
    (x.pair.live = true → r ≠ some c → 1 ≤ x.pair.readFails → ∃ t', exec (.claimFrameTx t r) s = .next t' ∧ kept t' = kept x ∧ t'.pair.live = false ∧ t'.pair.enable = false ∧
      t'.boot.claimSpent = true ∧ causeStands 12 15 t')) ∧
  (∀ (t c : Nat) (s : State), let x := begin_ t s
    (∃ t', exec (.claimFrameRx t c) s = .next t' ∧ t' = { x with pair := t'.pair } ∧ t'.pair.rx = some (c % 256) ∧ t'.pair.quiet = false ∧ t'.pair.absent = false ∧
      t'.pair.rxAt = x.now ∧ t'.pair.enable = x.pair.enable ∧ (x.pair.live = true → c % 256 < x.pair.force → x.pair.enable = false → x.pair.edge = none → t'.pair.edge = some (true, x.now + 150000)) ∧
      (x.pair.force ≤ c % 256 → x.pair.enable = true → x.pair.edge = none → t'.pair.edge = some (false, x.now))) ∧
    (∃ t', exec (.claimQuiet t) s = .next t' ∧ t' = { x with pair := t'.pair } ∧ t'.pair.rx = some 0 ∧ t'.pair.quiet = true ∧ t'.pair.absent = false ∧
      (x.pair.live = true → 0 < x.pair.force → x.pair.enable = false → x.pair.edge = none → t'.pair.edge = some (true, x.now)))) ∧
  (∀ (s : State), s.pair.quiet = false → s.pair.absent = false →
    let y := moveTo (s.pair.rxAt + 4000000) { s with out := [] }
    ∃ t', exec .claimAbsent s = .next t' ∧ t' = { y with pair := t'.pair } ∧ t'.pair.absent = true ∧ t'.pair.rx = none ∧
      (s.pair.live = true → s.pair.enable = false → s.pair.edge = none → t'.pair.edge = some (true, y.now))) ∧
  (∀ (s : State) (c a : Nat), s.pair.rising = some (c, a) →
    ∃ t', exec .claimInForce s = .next t' ∧ kept t' = kept s ∧ t'.pair.force = c ∧ t'.pair.rising = none ∧ t'.now = (moveTo a { s with out := [] }).now) ∧
  (∀ (s : State) (a : Nat), s.pair.edge = some (true, a) →
    ∃ t', exec .enableRise s = .next t' ∧ kept t' = kept s ∧ t'.pair.enable = true ∧ t'.pair.opened = true ∧
      t'.pair.switchovers = (s.pair.switchovers + 1) % 2 ^ 32 ∧ causeStands 12 0 t' ∧ Output.pin "CLAIM_OWN" 1 ∈ t'.out) ∧
  (∀ (s : State) (a : Nat), s.pair.edge = some (false, a) →
    ∃ t', exec .enableFall s = .next t' ∧ kept t' = kept s ∧ t'.pair.enable = false ∧ t'.pair.switchAt = none ∧ causeStands 12 1 t' ∧
      Output.pin "CLAIM_OWN" 0 ∈ t'.out ∧ (s.work.pair.mode = 1 → t'.pair.sync = .joining)) ∧
  (∀ (t cause detail : Nat) (s : State), let x := begin_ t s
    (1 ≤ cause → cause ≤ 6 → x.boot.faults.length < 8 → ∃ t' e, exec (.selfFault t cause detail) s = .next t' ∧ kept t' = kept x ∧ t'.boot.faults = x.boot.faults ++ [e] ∧
      e.cause = cause ∧ e.detail = detail ∧ e.claim = x.pair.force ∧ t'.boot.claimSpent = true ∧ t'.pair.live = false ∧ (x.pair.live = true → t'.pair.enable = false)) ∧
    (cause = 8 → ∃ t', exec (.selfFault t cause detail) s = .next t' ∧ kept t' = kept x ∧ t'.pair.live = x.pair.live ∧ (2 < x.pair.tests.length → (nth t'.pair.tests 2).result = 1)) ∧
    (cause = 0 ∨ 8 < cause → exec (.selfFault t cause detail) s = .next x))

/-- HEARTBEAT_TX, _RX and _LOST, SNAPSHOT_TX and _APPLY, SNAP_LATE, COPY_VERIFIED, LOCKSTEP_COMPARE, LOCKSTEP_INPUT_RX, MIRROR_RX,
MIRROR_REPLY_RX, SWITCH_REQUEST_RX, COMPARE_CHECK and SELFTEST_RUN (R397 to R399, R404, R406 to R408, R411 to R414). -/
def Obligations.PairSynchronises : Prop :=
  (∀ (s : State), s.work.pair.mode = 1 → running s = true → laneUp s 0 = true ∨ laneUp s 1 = true →
    ∃ t', exec .heartbeatTx s = .next t' ∧ kept t' = kept s ∧ t'.pair.hbNext = (moveTo s.pair.hbNext { s with out := [] }).now + 1000000 ∧
      ∀ n l, n < 2 → s.pair.lanes[n]? = some l → l.state = .up → (laneOf t' n).seq = (l.seq + 1) % 2 ^ 32 ∧ ∃ b, Output.link (some n) "HEARTBEAT" b ∈ t'.out ∧ fld b 4 4 = l.seq % 2 ^ 32) ∧
  (∀ (n t : Nat) (h : Bytes) (s : State), let x := begin_ t s
    exec (.heartbeatRx n t false h) s = .next x ∧
    (x.work.pair.mode = 1 → running x = true → laneUp x n = true → ∃ t', exec (.heartbeatRx n t true h) s = .next t' ∧ kept t' = kept x ∧ t'.pair.heard = true ∧
      t'.pair.partner = hbViewOf h ∧ (x.pair.heard = false → causeStands 12 3 t'))) ∧
  (∀ (s : State), running s = true →
    (s.pair.heard = false → exec .heartbeatLost s = .next { s with out := [] }) ∧
    (s.pair.heard = true → ∃ t', exec .heartbeatLost s = .next t' ∧ kept t' = kept s ∧ t'.pair.heard = false ∧ causeStands 12 2 t' ∧
      (s.pair.sync = .paired → t'.pair.sync = .alone))) ∧
  (∀ (t : Nat) (s : State), running s = true → let x := begin_ t s
    (∀ c, x.pair.captured = some c → x.work.pair.mode = 1 → isDummy x = false → x.pair.heard = true → x.pair.snapSent = false →
      ∃ t', exec (.snapshotTx t) s = .next t' ∧ t' = { x with pair := t'.pair, out := x.out ++ [.snapshot c] } ∧
        t'.pair = { x.pair with snapSent := true, sentGrants := t'.pair.sentGrants }) ∧
    (x.pair.captured = none ∨ x.work.pair.mode ≠ 1 ∨ isDummy x = true ∨ x.pair.heard = false ∨ x.pair.snapSent = true → exec (.snapshotTx t) s = .next x)) ∧
  (∀ (t : Nat) (s : State) (c : Snapshot), running s = true → let x := begin_ t s
    (takesSnapshots x = true → x.pair.appliedAt ≠ x.pair.boundary → x.now ≤ x.pair.boundary + 900000000 →
      ∃ t', exec (.snapshotApply t c) s = .next t' ∧ kept t' = kept x ∧ t'.pair.snapAck = c.hand ∧ t'.pair.appliedAt = x.pair.boundary ∧
        t'.pair.snapshotsApplied = (x.pair.snapshotsApplied + 1) % 2 ^ 32 ∧ t'.time.future = c.future ∧ t'.time.past = c.past ∧
        t'.time.currentOffset = c.currentOffset ∧ t'.time.smearStart = c.smearStart ∧ t'.time.pend = c.pend ∧ t'.time.slewing = c.slewing ∧
        t'.time.slewOwner = c.slewOwner ∧ t'.time.slewRem = c.slewRem ∧ t'.time.slewInc = c.slewInc) ∧
    (takesSnapshots x = false ∨ x.pair.appliedAt = x.pair.boundary ∨ x.pair.boundary + 900000000 < x.now → exec (.snapshotApply t c) s = .next x)) ∧
  (∀ (s : State), running s = true →
    (takesSnapshots s = true → s.pair.appliedAt ≠ s.pair.boundary →
      let y := moveTo (s.pair.boundary + 900000000) { s with out := [] }
      ∃ t', exec .snapLate s = .next t' ∧ causeStands 12 10 t' ∧
        plain t' = plain { y with pair := { y.pair with appliedAt := y.pair.boundary, snapLate := (y.pair.snapLate + 1) % 2 ^ 32 } }) ∧
    (takesSnapshots s = false ∨ s.pair.appliedAt = s.pair.boundary → exec .snapLate s = .next { s with out := [] })) ∧
  (∀ (t : Nat) (c : Snapshot) (nb : List (Nat × Neighbour)) (s : State), running s = true → let x := begin_ t s
    (isDummy x = true → x.pair.sync = .copying →
      ∃ t', exec (.copyVerified t c nb) s = .next t' ∧ kept t' = kept x ∧ t'.pair.sync = .lockstep ∧ t'.pair.lockRun = 0 ∧
        t'.pair.snapAck = c.hand ∧ t'.time.future = c.future ∧ t'.time.past = c.past ∧ t'.time.currentOffset = c.currentOffset ∧
        t'.time.pend = c.pend ∧ t'.time.slewing = c.slewing ∧ t'.time.slewRem = c.slewRem) ∧
    (isDummy x = false ∨ x.pair.sync ≠ .copying → exec (.copyVerified t c nb) s = .next x)) ∧
  (∀ (t : Nat) (d : Bytes) (s : State), running s = true → let x := begin_ t s
    isDummy x = true → x.pair.sync = .lockstep →
    (lockDigest x = some d → x.pair.lockRun + 1 < x.work.pair.lockstepHands →
      exec (.lockstepCompare t d) s = .next { x with pair := { x.pair with lockRun := x.pair.lockRun + 1, lockFails := 0 } }) ∧
    (lockDigest x = some d → x.work.pair.lockstepHands ≤ x.pair.lockRun + 1 → ∃ t', exec (.lockstepCompare t d) s = .next t' ∧ causeStands 12 4 t' ∧
      plain t' = plain { x with pair := { x.pair with lockRun := x.pair.lockRun + 1, lockFails := 0, sync := .synced } }) ∧
    (lockDigest x ≠ some d → x.pair.lockFails < 2 → ∃ t', exec (.lockstepCompare t d) s = .next t' ∧
      plain t' = plain { x with pair := { x.pair with lockRun := 0, lockFails := x.pair.lockFails + 1, mismatches := (x.pair.mismatches + 1) % 2 ^ 32, sync := .copying } }) ∧
    (lockDigest x ≠ some d → 2 ≤ x.pair.lockFails → ∃ t', exec (.lockstepCompare t d) s = .next t' ∧ kept t' = kept x ∧ causeStands 12 5 t' ∧
      t'.pair.sync = .joining ∧ t'.pair.stopped = true ∧ t'.pair.lockFails = 0 ∧ t'.pair.mismatches = (x.pair.mismatches + 1) % 2 ^ 32)) ∧
  (∀ (t : Nat) (s : State), running s = true → let x := begin_ t s
    (isDummy x = true → x.pair.sync = .lockstep →
      (∀ k g, exec (.lockstepInputRx t (.grant k (some g))) s = .next { x with ptp := { x.ptp with grants := putKey k g x.ptp.grants } }) ∧
      (∀ k, exec (.lockstepInputRx t (.grant k none)) s = .next { x with ptp := { x.ptp with grants := delKey k x.ptp.grants } }) ∧
      (∀ f p o, exec (.lockstepInputRx t (.leap f p o)) s = .next { x with time := { x.time with future := f, past := p, currentOffset := o } }) ∧
      (∀ i, ∃ t', exec (.lockstepInputRx t (.rotation i)) s = .next t' ∧ causeStands 11 3 t' ∧ (i < x.ntp.insts.length → (ntpRun t' i).current = (ntpRun x i).next)) ∧
      (∀ d src, ∃ t', exec (.lockstepInputRx t (.selection d src)) s = .next t' ∧ t' = { x with pair := { x.pair with partner := t'.pair.partner } } ∧
        (d < x.pair.partner.selected.length → t'.pair.partner.selected[d]? = some src)) ∧
      (∀ op tag p, ∃ t', exec (.lockstepInputRx t (.command op tag p)) s = .next t' ∧ t'.pair = x.pair ∧ t'.outs = x.outs ∧ t'.time.rate = x.time.rate ∧
        (lockCommands.contains op = false → t' = x))) ∧
    (isDummy x = false ∨ x.pair.sync ≠ .lockstep → ∀ i, exec (.lockstepInputRx t i) s = .next x)) ∧
  (∀ (op : Nat) (q : Req) (s : State),
    let q' := { q with src := .partner }
    let x := started op q' s
    (s.work.pair.mode ≠ 1 → exec (.mirrorRx op q) s = .next (begin_ q.time s)) ∧
    (s.work.pair.mode = 1 → startsAt op q' s = true →
      (∀ (data : Bytes) (y : State), meaningOf op (arrivalOf op q' s) q' x = .done data y → y.host.pcie = x.host.pcie → y.host.spi = x.host.spi → exec (.mirrorRx op q) s = done op q' data y) ∧
      (∀ st d, meaningOf op (arrivalOf op q' s) q' x = .refuse st d → exec (.mirrorRx op q) s = .next (reply op q' st d [] x)) ∧
      (∀ y : State, meaningOf op (arrivalOf op q' s) q' x = .later y → y.host.pcie = x.host.pcie → y.host.spi = x.host.spi → exec (.mirrorRx op q) s = .next y))) ∧
  (∀ (t op tag st : Nat) (s : State) (m : MirrorWait), running s = true → let x := begin_ t s
    x.pair.mirrors = [m] → m.partner = none →
    (m.opcode = op → m.tag = tag → m.own = none → exec (.mirrorReplyRx t op tag st) s = .next { x with pair := { x.pair with mirrors := [{ m with partner := some (st % 256) }] } }) ∧
    (∀ o, m.opcode = op → m.tag = tag → m.own = some o → o = st % 256 ∨ o = 0x21 ∨ st % 256 = 0x21 → exec (.mirrorReplyRx t op tag st) s = .next { x with pair := { x.pair with mirrors := [] } }) ∧
    (∀ o, m.opcode = op → m.tag = tag → m.own = some o → o ≠ st % 256 → o ≠ 0x21 → st % 256 ≠ 0x21 → ∃ t', exec (.mirrorReplyRx t op tag st) s = .next t' ∧ causeStands 12 11 t' ∧
      plain t' = plain { x with pair := { x.pair with mirrors := [], mirrorOpcode := op, mirrorTag := tag, mirrorStatus := st % 256 } }) ∧
    (m.opcode ≠ op ∨ m.tag ≠ tag → exec (.mirrorReplyRx t op tag st) s = .next x)) ∧
  (∀ (t : Nat) (f : Bool) (s : State), running s = true → let x := begin_ t s
    let may : Prop := x.work.pair.flags.testBit 1 = true ∧ (x.pair.sync = .synced ∨ f = true) ∧ testsBad x = false ∧ x.pair.live = true
    (isDummy x = true → x.pair.edge = none → may → ∃ t', exec (.switchRequestRx t f) s = .next t' ∧ causeStands 12 6 t' ∧
      plain t' = plain { x with pair := { x.pair with lastFinding := 3, seizing := true } }) ∧
    (isDummy x = true → x.pair.edge = none → ¬ may → ∃ t', exec (.switchRequestRx t f) s = .next t' ∧ causeStands 12 7 t' ∧
      plain t' = plain { x with pair := { x.pair with lastFinding := 3 } }) ∧
    (isDummy x = false → exec (.switchRequestRx t f) s = .next x)) ∧
  (∀ (k t : Nat) (s : State) (e : CompareCfg) (r : CompareRun), running s = true → let x := begin_ t s
    x.work.pair.entries[k]? = some e → x.pair.rows[k]? = some r → isDummy x = true →
    let row : CompareRun → State := fun r => { x with pair := { x.pair with rows := x.pair.rows.set k r } }
    (∀ v : Int, r.n < 63 →
      let ok : Prop := (v - e.tap).natAbs ≤ x.work.pair.compareLimit
      let z : CompareRun := { r with checks := (r.checks + 1) % 2 ^ 32, lastDiff := v - e.tap, sum := r.sum + (v - e.tap), n := r.n + 1 }
      (ok → 0 < x.work.pair.compareCount → exec (.compareCheck k t (some v)) s = .next (row { z with failRun := 0 })) ∧
      (¬ ok → r.failRun + 1 ≠ x.work.pair.compareCount → exec (.compareCheck k t (some v)) s = .next (row { z with failRun := r.failRun + 1 })) ∧
      (¬ ok → r.failRun + 1 = x.work.pair.compareCount → x.pair.edge = none → x.work.pair.flags.testBit 1 = true → x.pair.sync = .synced → testsBad x = false → x.pair.live = true →
        ∃ t', exec (.compareCheck k t (some v)) s = .next t' ∧ causeStands 12 6 t' ∧
          plain t' = plain { row { z with failRun := r.failRun + 1 } with pair := { (row { z with failRun := r.failRun + 1 }).pair with lastFinding := 1, seizing := true } })) ∧
    (r.n < 64 → r.failRun + 1 ≠ x.work.pair.compareCount →
      exec (.compareCheck k t none) s = .next (row { r with failRun := r.failRun + 1, checks := (r.checks + 1) % 2 ^ 32 }))) ∧
  (∀ (i t d : Nat) (s : State) (v : TestItem), running s = true → let x := begin_ t s
    i = 2 ∨ i = 5 → x.pair.tests[i]? = some v →
    exec (.selftestRun i t true d) s = .next { x with pair := { x.pair with tests := x.pair.tests.set i { v with result := 0, detail := 0, lastRun := (x.now - x.boot.resetEnd) / 1000000000 } } } ∧
    ∃ t', exec (.selftestRun i t false d) s = .next t' ∧ (v.result ≠ 1 → causeStands 12 8 t') ∧
      t'.pair = { x.pair with tests := x.pair.tests.set i { v with result := 1, detail := 0, lastRun := (x.now - x.boot.resetEnd) / 1000000000, failures := (v.failures + 1) % 2 ^ 32 } })

/-- KEY_WRITE, KEY_ERASE, KEY_INFO, PERSIST_WRITE, PERSIST_DONE, CREDIT_ACCRUE, RETENTION_REWRITE and KITTY_LOAD. -/
def Obligations.KeysAndImages : Prop :=
  (∀ (q : Req) (s : State), startsAt 0x0D00 q s = true → fits q 40 [inF 0 2 0 4095, inF 2 1 0 3, rsvF 3 1, anyF 4 2, rsvF 6 2, anyF 8 32] →
    let x := started 0x0D00 q s
    let p := q.params
    let n := fld p 0 2
    let per := (fld p 2 1).testBit 0
    let able : Prop := x.attest.advance = none ∧ x.attest.lc ≠ 4 ∧ (per = true → x.attest.lc ≠ 0)
    let y := nextTick x
    let per' := if per then some (x.kitty.persist.elim y.now (·.1), y.now) else x.kitty.persist
    (x.kitty.loadDone = false → ∃ d, 1 ≤ d ∧ d ≤ 65535 ∧ exec (.keyWrite q) s = .next (reply 0x0D00 q 0x02 d [] { x with free := x.free + 1 })) ∧
    (x.kitty.loadDone = true → ¬ able → exec (.keyWrite q) s = .next (reply 0x0D00 q 0x13 x.attest.lc [] x)) ∧
    (x.kitty.loadDone = true → able → getKey n x.kitty.slots ≠ none → (fld p 2 1).testBit 1 = false → exec (.keyWrite q) s = .next (reply 0x0D00 q 0x12 0 [] x)) ∧
    (x.kitty.loadDone = true → able → getKey n x.kitty.slots = none ∨ (fld p 2 1).testBit 1 = true →
      ∃ t', exec (.keyWrite q) s = done 0x0D00 q (kcv (slice p 8 32) ++ leBytes 4 ((x.kitty.writesTotal + 1) % 2 ^ 32)) t' ∧
        plain t' = plain { y with kitty := { y.kitty with slots := putKey n { label := fld p 4 2, key := slice p 8 32 } y.kitty.slots, writesTotal := (x.kitty.writesTotal + 1) % 2 ^ 32, writesReset := (x.kitty.writesReset + 1) % 2 ^ 32, before := some (y.now, slotsThen y), persist := per' } })) ∧
  (∀ (q : Req) (s : State), startsAt 0x0D01 q s = true → fits q 4 (eraseFields q.params) →
    let x := started 0x0D01 q s
    let p := q.params
    let per := (fld p 2 1).testBit 0
    let able : Prop := x.attest.advance = none ∧ x.attest.lc ≠ 4 ∧ (per = true → x.attest.lc ≠ 0)
    let y := nextTick x
    let per' := if per then some (x.kitty.persist.elim y.now (·.1), y.now) else x.kitty.persist
    let l := if (fld p 2 1).testBit 1 = true then [] else delKey (fld p 0 2) x.kitty.slots
    (x.kitty.loadDone = true → ¬ able → exec (.keyErase q) s = .next (reply 0x0D01 q 0x13 x.attest.lc [] x)) ∧
    (x.kitty.loadDone = true → able → ∃ t', exec (.keyErase q) s = done 0x0D01 q (zeros 4 ++ leBytes 4 ((x.kitty.writesTotal + 1) % 2 ^ 32)) t' ∧
      plain t' = plain { y with kitty := { y.kitty with slots := l, writesTotal := (x.kitty.writesTotal + 1) % 2 ^ 32, writesReset := (x.kitty.writesReset + 1) % 2 ^ 32, before := some (y.now, slotsThen y), persist := per' } })) ∧
  (∀ (q : Req) (s : State), startsAt 0x0D02 q s = true → fits q 4 [F 0 2 (fun v => decide (v ≤ 4095) || v == 0xFFFF), rsvF 2 2] →
    let x := started 0x0D02 q s
    let n := fld q.params 0 2
    (x.kitty.loadDone = false → ∃ d, 1 ≤ d ∧ d ≤ 65535 ∧ exec (.keyInfo q) s = .next (reply 0x0D02 q 0x02 d [] { x with free := x.free + 1 })) ∧
    (x.kitty.loadDone = true → ∃ data, exec (.keyInfo q) s = done 0x0D02 q data x ∧ fld data 0 2 = n % 65536 ∧
      fld data 2 1 = (if n ≠ 0xFFFF ∧ getKey n x.kitty.slots ≠ none then 1 else 0) ∧ (fld data 3 1).testBit 0 = x.kitty.loaded ∧ (fld data 3 1).testBit 1 = x.kitty.persist.isSome ∧
      (∀ e, n ≠ 0xFFFF → getKey n x.kitty.slots = some e → fld data 4 2 = e.label % 65536) ∧ fld data 6 2 = x.kitty.slots.length % 65536)) ∧
  (∀ (s : State) (f l : Nat), s.kitty.persist = some (f, l) → s.kitty.writing = none → running s = true →
    let y := moveTo (min (l + 10000000000000) (f + 60000000000000)) { s with out := [] }
    let bank := match s.kitty.imageBank with | some b => 1 - b | none => 0
    (creditPs ≤ creditNow y → wrapKey y ≠ none → ∃ t' w, exec .persistWrite s = .next t' ∧ kept t' = kept s ∧ t'.kitty.writing = some w ∧ w.bank = bank ∧ w.seq = s.kitty.nextSeq ∧
      t'.kitty.nextSeq = s.kitty.nextSeq + 1 ∧ t'.kitty.persist = (if l = y.now then some (l, l) else none) ∧ t'.kitty.credit = creditNow y - creditPs ∧ w.waits = s.score.writing.isSome ∧
      (s.score.writing = none → flashBank t' bank = [] ∧ Output.flash "KITTY" w.image ∈ t'.out) ∧ (s.score.writing ≠ none → t'.flash = s.flash)) ∧
    (creditNow y < creditPs → s.kitty.deferred = false → ∃ t', exec .persistWrite s = .next t' ∧ causeStands 13 4 t' ∧ plain t' = plain { y with kitty := { y.kitty with deferred := true } })) ∧
  (∀ (t : Nat) (s : State) (w : KittyWrite), running s = true → let x := begin_ t s
    x.kitty.writing = some w →
    (w.waits = true → ∀ ok, exec (.persistDone t ok) s = .next x) ∧
    (w.waits = false → ∃ t', exec (.persistDone t true) s = .next t' ∧ kept t' = kept x ∧ causeStands 13 2 t' ∧ t'.kitty.writing = none ∧ t'.kitty.imageSeq = w.seq ∧ t'.kitty.imageBank = some w.bank ∧
      flashBank t' w.bank = w.image) ∧
    (w.waits = false → ∃ t', exec (.persistDone t false) s = .next t' ∧ causeStands 13 3 t' ∧ kept t' = kept x ∧
      t'.kitty = { x.kitty with writing := none, persist := some (x.kitty.persist.elim (x.now, x.now) id) } ∧
      (x.score.waiting = [] → plain t' = plain { x with kitty := t'.kitty }))) ∧
  (∀ (s : State), running s = true → creditNow s < 256 * creditPs →
    let y := moveTo (s.now + (creditPs - creditNow s % creditPs)) { s with out := [] }
    (s.kitty.deferred = false → exec .creditAccrue s = .next y) ∧
    (s.kitty.deferred = true → s.kitty.writing = none → s.kitty.persist ≠ none → creditPs ≤ creditNow y → wrapKey y ≠ none →
      ∃ t', exec .creditAccrue s = .next t' ∧ kept t' = kept s ∧ t'.kitty.writing.isSome = true ∧ t'.kitty.deferred = false)) ∧
  (∀ (s : State) (b : Nat), running s = true → s.kitty.imageBank = some b → s.kitty.writing = none →
    let y := moveTo (s.now + (s.kitty.imageOp + retentionPs - s.score.opPs)) { s with out := [] }
    creditPs ≤ creditNow y → wrapKey y ≠ none → ∃ t', exec .retentionRewrite s = .next t' ∧ kept t' = kept s ∧ t'.kitty.writing.isSome = true ∧ t'.kitty.persist = s.kitty.persist) ∧
  (∀ (t : Nat) (s : State), let x := begin_ t s
    x.kitty.loadDone = false → running x = true → 7 ≤ x.boot.stage → x.boot.stage ≠ 15 →
    (wrapKey x = none → exec (.kittyLoad t) s = .next { x with kitty := { x.kitty with loadDone := true, slots := [], writesTotal := 0, credit := 256 * creditPs, creditAt := x.score.opPs, nextSeq := max 1 x.kitty.nextSeq } }) ∧
    (wrapKey x ≠ none → x.flash.bank0.length < 64 → x.flash.bank1.length < 64 → ∃ t', exec (.kittyLoad t) s = .next t' ∧ kept t' = kept x ∧ causeStands 13 1 t' ∧ t'.kitty.loadDone = true ∧
      t'.kitty.slots = [] ∧ t'.kitty.loaded = x.kitty.loaded) ∧
    (∀ k, wrapKey x = some k → imageValid k x.flash.bank0 x = true → x.flash.bank1.length < 64 → ∃ t', exec (.kittyLoad t) s = .next t' ∧ kept t' = kept x ∧ causeStands 13 0 t' ∧
      t'.kitty.loaded = true ∧ t'.kitty.slots = slotsOf (imageText k x.flash.bank0) ∧ t'.kitty.imageBank = some 0 ∧ t'.kitty.imageSeq = fld x.flash.bank0 16 8))

/-- LC_STATUS, LC_ADVANCE, ADVANCE_DONE, ATTEST_QUOTE, QUOTE_SIGNED and ATTEST_MEASUREMENTS (R429 to R432, R437, R448 to R451, R457 to R460). -/
def Obligations.LifeCycleAndQuotes : Prop :=
  (∀ (q : Req) (s : State), startsAt 0x0D10 q s = true → fits q 0 [] →
    let x := started 0x0D10 q s
    ∃ data, exec (.lcStatus q) s = done 0x0D10 q data x ∧ fld data 0 1 = x.attest.lc % 256 ∧ (fld data 1 1).testBit 0 = x.attest.advance.isSome ∧
      (fld data 1 1).testBit 1 = debugOpen x ∧ fld data 2 1 = x.attest.advance.getD 0xFF % 256 ∧ fld data 3 1 = rootsBurned x % 256) ∧
  (∀ (q : Req) (s : State), startsAt 0x0D11 q s = true → fits q 8 (advanceFields q.params) →
    let x := started 0x0D11 q s
    let t := fld q.params 0 1
    let able : Prop := x.attest.advance = none ∧ x.attest.lc ≠ 4 ∧ (t = x.attest.lc + 1 ∨ t = 4)
    (¬ able → exec (.lcAdvance q) s = .next (reply 0x0D11 q 0x12 0 [] x)) ∧
    (able → ∃ t', exec (.lcAdvance q) s = .next t' ∧ kept t' = kept x ∧ t'.attest = { x.attest with advance := some t } ∧ t'.kitty.slots = [] ∧ t'.kitty.persist = none ∧
      t'.ntp.symKeys = [] ∧ t'.ntp.seed = [] ∧ (∀ r, r ∈ t'.ntp.insts → r.previous = {} ∧ r.current = {} ∧ r.next = {}) ∧ (∀ e, e ∈ t'.ptp.sas → e.2.key = []) ∧
      t'.host.waits = x.host.waits ++ [{ key := .lcAdvance, opcode := 0x0D11, req := q }])) ∧
  (∀ (t k : Nat) (a b : Bool) (s : State) (r : RootBank), let x := begin_ t s
    x.attest.advance = some k → waitsFor .lcAdvance x = true →
    (k = 4 → ∃ t', exec (.advanceDone t a b) s = .next t' ∧ kept t' = kept x ∧ causeStands 13 5 t' ∧ t'.fuse = { x.fuse with rows := x.fuse.rows.set 3 0xFF }) ∧
    (1 ≤ k → k ≤ 3 → x.fuse.roots[k - 1]? = some r → bankRoot r = none → r.abandoned = false → a = true →
      ∃ t' root, exec (.advanceDone t a b) s = .next t' ∧ kept t' = kept x ∧ causeStands 13 5 t' ∧
        t'.fuse = { x.fuse with rows := x.fuse.rows.set (k - 1) 0xFF, roots := x.fuse.roots.set (k - 1) { r with first := some root } } ∧ root.length = 32) ∧
    (1 ≤ k → k ≤ 3 → x.fuse.roots[k - 1]? = some r → bankRoot r = none → a = false ∨ r.abandoned = true → b = true →
      ∃ t' root, exec (.advanceDone t a b) s = .next t' ∧ kept t' = kept x ∧ causeStands 13 5 t' ∧
        t'.fuse = { x.fuse with rows := x.fuse.rows.set (k - 1) 0xFF, roots := x.fuse.roots.set (k - 1) { r with abandoned := true, spare := some root } }) ∧
    (1 ≤ k → k ≤ 3 → x.fuse.roots[k - 1]? = some r → bankRoot r = none → a = false → b = false →
      ∃ t', exec (.advanceDone t a b) s = .next t' ∧ kept t' = kept x ∧ t'.fuse = { x.fuse with roots := x.fuse.roots.set (k - 1) { r with abandoned := true } })) ∧
  (∀ (q : Req) (s : State), startsAt 0x0D20 q s = true → fits q 32 [anyF 0 32] →
    let x := started 0x0D20 q s
    let able : Prop := x.attest.lc ≠ 0 ∧ x.attest.lc ≠ 4 ∧ x.attest.advance = none
    let y := nextTick x
    (¬ able → exec (.attestQuote q) s = .next (reply 0x0D20 q 0x13 x.attest.lc [] x)) ∧
    (able → exec (.attestQuote q) s = .next { y with host := { y.host with waits := y.host.waits ++ [{ key := .quote, opcode := 0x0D20, req := q, data := quoteBody (slice q.params 0 32) y }] } })) ∧
  (∀ (t : Nat) (s : State) (w : Wait), running s = true → let x := begin_ t s
    x.host.waits = [w] → w.key = .quote → w.muted = false → isMirrored w.req = false → w.data.length = 688 →
    ∃ t', exec (.quoteSigned t) s = .next t' ∧ kept t' = kept x ∧ t'.host.waits = [] ∧ (usesSlot w.req = true → slotOf w.req < x.host.slots.length →
      ∃ r, t'.host.slots[slotOf w.req]? = some r ∧ r.status = 0 ∧ r.data = w.data ++ quoteSign w.data x)) ∧
  (∀ (q : Req) (s : State), startsAt 0x0D21 q s = true → fits q 52 (measureFields q.params) →
    let x := started 0x0D21 q s
    let p := q.params
    let r := fld p 1 1
    (fld p 0 1 = 0 → exec (.attestMeasurements q) s = done 0x0D21 q (x.attest.mrs.flatMap id ++ leBytes 4 x.attest.mr6Count ++ leBytes 4 x.attest.mr7Count ++ x.host.digest) x) ∧
    (∀ m, fld p 0 1 = 1 → x.attest.mrs[r]? = some m → ∃ data t', exec (.attestMeasurements q) s = done 0x0D21 q data t' ∧ kept t' = kept x ∧ causeStands 13 6 t' ∧
      t'.attest.mrs = x.attest.mrs.set r (sha384 (m ++ slice p 4 48)) ∧ (r = 6 → t'.attest.mr6Count = (x.attest.mr6Count + 1) % 2 ^ 32) ∧ (r = 7 → t'.attest.mr7Count = (x.attest.mr7Count + 1) % 2 ^ 32) ∧
      data = t'.attest.mrs.flatMap id ++ leBytes 4 t'.attest.mr6Count ++ leBytes 4 t'.attest.mr7Count ++ t'.host.digest))

/-- AUD_PORT_CONFIGURE, AUD_GROUP_CONFIGURE, AUD_GROUP_START, AUD_GROUP_STOP and AUD_STATUS (R482 to R485). -/
def Obligations.AudioCommands : Prop :=
  (∀ (q : Req) (s : State), startsAt 0x0E00 q s = true →
    let x := started 0x0E00 q s
    let p := q.params
    let n := fld p 0 1
    fits q 64 (audFields x.shadow p) →
    let c : AudCfg := { mode := fld p 1 1, domain := fld p 2 1, flags := fld p 3 1, rate := fld p 4 1, slots := fld p 5 1, width := fld p 6 1, fsync := fld p 7 1, txMask := fld p 8 2, rxMask := fld p 10 2, txRing := fld p 12 1, rxRing := fld p 13 1, bufFrames := fld p 14 2, runIn := fld p 16 2, localOffset := fldI p 18 2, jamMinute := fld p 20 2, darsGrade := fld p 22 1, userBits := fld p 24 4, offset := fldI p 32 8, status := slice p 40 24 }
    (∀ g, groupOfPort x.work n = some g → (audGroup x g).running = true → exec (.audPortConfigure q) s = .next (reply 0x0E00 q 0x12 0 [] x)) ∧
    ((∀ g ∈ groupOfPort x.work n, (audGroup x g).running = false) →
      exec (.audPortConfigure q) s = done 0x0E00 q [] { x with shadow := { x.shadow with aud := x.shadow.aud.set n c } })) ∧
  (∀ (q : Req) (s : State), startsAt 0x0E01 q s = true →
    let x := started 0x0E01 q s
    let p := q.params
    let g := fld p 0 1
    fits q 4 (groupFields x.shadow p) →
    ((audGroup x g).running = true → exec (.audGroupConfigure q) s = .next (reply 0x0E01 q 0x12 0 [] x)) ∧
    ((audGroup x g).running = false →
      exec (.audGroupConfigure q) s = done 0x0E01 q [] { x with shadow := { x.shadow with audGroups := x.shadow.audGroups.set g (fld p 1 1) } })) ∧
  (∀ (q : Req) (s : State), startsAt 0x0E02 q s = true → fits q 16 [inF 0 1 0 3, rsvF 1 7, anyF 8 8] →
    let x := started 0x0E02 q s
    let g := fld q.params 0 1
    let idx := fld q.params 8 8
    let ms := membersOf x.work g
    let y := nextTick x
    let first := ms.foldl (fun (m : Int) p => max m (periodAhead y p + (audCfg y p).runIn)) 0
    let k := if idx = 0 then first.toNat else idx
    ((audGroup x g).running = true ∨ ms = [] ∨ (∃ p ∈ ms, (audCfg x p).mode = 0) → exec (.audGroupStart q) s = .next (reply 0x0E02 q 0x12 0 [] x)) ∧
    ((audGroup x g).running = false → ms ≠ [] → (∀ p ∈ ms, (audCfg x p).mode ≠ 0) → idx ≠ 0 → (idx : Int) < first →
      exec (.audGroupStart q) s = .next (reply 0x0E02 q 0x12 0 [] x)) ∧
    ((audGroup x g).running = false → ms ≠ [] → (∀ p ∈ ms, (audCfg x p).mode ≠ 0) → idx = 0 ∨ first ≤ idx →
      ∃ a data, exec (.audGroupStart q) s = done 0x0E02 q data { y with aud := a } ∧ data.length = 24 ∧ fld data 0 8 = k % 2 ^ 64 ∧
        (∀ r, x.aud.groups[g]? = some r → a.groups = x.aud.groups.set g { running := true, start := k }) ∧
        (∀ p, p ∉ ms → a.ports[p]? = x.aud.ports[p]?) ∧
        (∀ p r, p ∈ ms → x.aud.ports[p]? = some r → ∃ t, a.ports[p]? = some t ∧ t.active = true ∧ t.begun = false ∧ t.index = 0 ∧ t.sched = [] ∧ t.fill = none ∧
          t.queue = r.queue ∧ t.events = r.events ∧ t.underruns = r.underruns ∧ t.lateFrames = r.lateFrames ∧ t.overruns = r.overruns ∧ t.rxErrors = r.rxErrors))) ∧
  (∀ (q : Req) (s : State), startsAt 0x0E03 q s = true → fits q 16 [inF 0 1 0 3, rsvF 1 7, anyF 8 8] →
    let x := started 0x0E03 q s
    let g := fld q.params 0 1
    let idx := fld q.params 8 8
    let y := nextTick x
    let first := ((membersOf y.work g).filter fun p => (audOf y p).active).foldl (fun (m : Int) p => max m (periodAhead y p)) 0
    let k := if idx = 0 then first.toNat else idx
    ((audGroup x g).running = false → exec (.audGroupStop q) s = .next (reply 0x0E03 q 0x12 0 [] x)) ∧
    ((audGroup x g).running = true → idx ≠ 0 → (idx : Int) < first → exec (.audGroupStop q) s = .next (reply 0x0E03 q 0x12 0 [] x)) ∧
    (∀ r, x.aud.groups[g]? = some r → r.running = true → idx = 0 ∨ first ≤ idx →
      ∃ data, exec (.audGroupStop q) s = done 0x0E03 q data { y with aud := { y.aud with groups := x.aud.groups.set g { r with stop := some k } } } ∧
        data.length = 24 ∧ fld data 0 8 = k % 2 ^ 64)) ∧
  (∀ (q : Req) (s : State) (r : AudRun), startsAt 0x0E04 q s = true → fits q 4 [inF 0 1 0 3, inF 1 1 0 1, rsvF 2 2] →
    let x := started 0x0E04 q s
    let p := fld q.params 0 1
    x.aud.ports[p]? = some r →
    ∃ data, exec (.audStatus q) s = done 0x0E04 q data (if fld q.params 1 1 = 1 then { x with aud := { x.aud with ports := x.aud.ports.set p { r with events := 0 } } } else x) ∧
      data.length = 88 ∧ fld data 0 1 = p % 256 ∧ ((audCfg x p).mode = 0 → fld data 1 1 = 0) ∧ ((audCfg x p).mode ≠ 0 → r.begun = false → fld data 1 1 = 1) ∧
      (∀ g, groupOfPort x.work p = some g → (audCfg x p).mode ≠ 0 → r.begun = true →
        fld data 1 1 = if r.index < (audGroup x g).start then 2 else 3) ∧
      fld data 2 1 = ((groupOfPort x.work p).getD 0xFF) % 256 ∧ (fld data 3 1).testBit 1 = r.rxLocked ∧ (fld data 3 1).testBit 2 = r.inUnder ∧
      fld data 4 2 = r.events % 65536 ∧ fld data 8 8 = (if r.begun then r.index else 0) % 2 ^ 64 ∧ fld data 16 8 = r.underruns % 2 ^ 64 ∧
      fld data 24 8 = r.lateFrames % 2 ^ 64 ∧ fld data 32 8 = r.horizonDrops % 2 ^ 64 ∧ fld data 40 8 = r.overruns % 2 ^ 64 ∧
      fld data 48 8 = r.stopDiscards % 2 ^ 64 ∧ fld data 56 8 = r.rxErrors % 2 ^ 64)

/-- AUDIO_FRAME_BOUNDARY, AUDIO_TX_READ, AUDIO_BUFFER_HEAD, AUDIO_RX_FRAME, AES3_SAMPLE and DARS_LOCK_LOST (R463 to R480). -/
def Obligations.AudioFrames : Prop :=
  (∀ (p g : Nat) (s : State) (r : AudRun), let y := { s with out := [] }
    s.aud.ports[p]? = some r → (running s = false ∨ r.active = false → exec (.audioFrameBoundary p) s = .next y) ∧
    (running s = true → r.active = true → groupOfPort s.work p = some g →
      let c := audCfg s p
      let k := nextBoundary y p (((audGroup s g).start : Int) - c.runIn)
      let z := moveToDomain c.domain (boundaryAt c k) y
      (halfPeriod c r (edgeWhen z c.domain (boundaryAt c k)) = true → exec (.audioFrameBoundary p) s = .next z) ∧
      (halfPeriod c r (edgeWhen z c.domain (boundaryAt c k)) = false →
        ((audGroup s g).stop = none ∨ (∃ e ∈ (audGroup s g).stop, k < (e : Int)) →
          ∃ t' b, exec (.audioFrameBoundary p) s = .next t' ∧ kept t' = kept z ∧ t'.aud.ports[p]? = some b ∧ b.active = true ∧ b.begun = true ∧ b.index = k.toNat ∧
            (audTx c = true → c.mode ≠ 4 → (audGroup s g).start ≤ k.toNat → (getKey k.toNat r.sched).getD none = none →
              b.inUnder = true ∧ b.underruns = add48 r.underruns 1 ∧ (r.inUnder = false → causeStands 14 2 t')) ∧
            ((audGroup s g).start ≤ k.toNat → r.begun = false → (audGroup s g).started = false → g < s.aud.groups.length →
              (audGroup t' g).started = true ∧ causeStands 14 0 t')) ∧
        (∀ e : Nat, (audGroup s g).stop = some e → (e : Int) ≤ k →
          ∃ t' b, exec (.audioFrameBoundary p) s = .next t' ∧ kept t' = kept z ∧ t'.aud.ports[p]? = some b ∧ b.active = false ∧ b.begun = false ∧ b.queue = [] ∧
            b.stopDiscards = add48 r.stopDiscards r.queue.length ∧
            ((audGroup s g).running = true → (∀ m ∈ membersOf s.work g, m ≠ p → (audOf s m).active = false) → causeStands 14 1 t'))))) ∧
  (∀ (p : Nat) (s : State) (r : AudRun), let y := { s with out := [] }
    let c := audCfg s p
    let k := (timeline y p).toNat
    s.aud.ports[p]? = some r → running s = true → r.active = true → c.mode ≠ 4 → audTx c = true →
    (r.readUpTo < k + 2 → exec (.audioTxRead p) s = .next { y with aud := { y.aud with ports := y.aud.ports.set p { r with readUpTo := k + 2, readAt := some y.now, sched := putKey (k + 2) (recordOf r.queue (k + 2)) r.sched } } }) ∧
    (k + 2 ≤ r.readUpTo → let z := moveToDomain c.domain (boundaryAt c (k + 1)) y
      exec (.audioTxRead p) s = .next { z with aud := { z.aud with ports := z.aud.ports.set p { r with readUpTo := k + 3, readAt := some z.now, sched := putKey (k + 3) (recordOf r.queue (k + 3)) r.sched } } })) ∧
  (∀ (p t desc n : Nat) (data : Bytes) (s : State) (r : AudRun), running s = true → let x := begin_ t s
    let c := audCfg x p
    let ring := ringOf x n
    x.aud.ports[p]? = some r → audTxRing c = some n → n < x.host.rings.length → dmaOn x = true → ring.enable = true → idxDist ring.db ring.fetched ≠ 0 → desc = ring.fetched →
    ∃ t', exec (.audioBufferHead p t desc data) s = .next t' ∧ kept t' = kept x ∧ (ringOf t' n).fetched = (ring.fetched + 1) % 65536 ∧
      (∀ first recs, parseBuffer c data = some (first, recs) →
        let k := (timeline x p).toNat
        let passed := readPassed r x.now k
        (k + fsOf c.rate < first → (nth t'.aud.ports p).horizonDrops = add48 r.horizonDrops 1 ∧ (nth t'.aud.ports p).queue = r.queue ∧ causeStands 14 8 t') ∧
        (passed < first → first ≤ k + fsOf c.rate → recs ≠ [] →
          (nth t'.aud.ports p).queue = r.queue ++ [{ desc := desc, index := first, records := recs }] ∧ (nth t'.aud.ports p).lateFrames = r.lateFrames) ∧
        (first ≤ passed → first ≤ k + fsOf c.rate → recs.length ≤ passed + 1 - first → recs ≠ [] →
          (nth t'.aud.ports p).queue = r.queue ∧ (nth t'.aud.ports p).lateFrames = add48 r.lateFrames recs.length ∧ causeStands 14 3 t')) ∧
      (parseBuffer c data = none → t'.aud = x.aud)) ∧
  (∀ (p t n : Nat) (w : Bytes) (s : State) (r : AudRun), let x := begin_ t s
    let c := audCfg x p
    x.aud.ports[p]? = some r → running x = true → audRx c = true → c.mode = 1 ∨ c.mode = 2 →
    (pastRunIn x p = false → exec (.audioRxFrame p t (some w)) s = .next x) ∧
    (pastRunIn x p = true → r.fill = none → audRxRing c = some n → rxRoom x n = false →
      ∃ t', exec (.audioRxFrame p t (some w)) s = .next t' ∧ (r.inOver = false → causeStands 14 4 t') ∧
        plain t' = plain { x with aud := { x.aud with ports := x.aud.ports.set p { r with overruns := add48 r.overruns 1, gap := true, inOver := true, events := if r.inOver then r.events else setBit r.events 4 } } }) ∧
    (∀ f, pastRunIn x p = true → r.fill = some f → f.records.length + 1 < c.bufFrames →
      exec (.audioRxFrame p t (some w)) s = .next { x with aud := { x.aud with ports := x.aud.ports.set p { r with fill := some { f with records := f.records ++ [pickSlots c w] } } } })) ∧
  (∀ (p t : Nat) (s : State) (r : AudRun), let x := begin_ t s
    let c := audCfg x p
    x.aud.ports[p]? = some r → running x = true → c.mode = 3 → audRx c = true →
    (∃ t' b, exec (.aes3Sample p t) s = .next t' ∧ kept t' = kept x ∧ t'.aud.ports[p]? = some b ∧ b.zRun = min 3 (r.zRun + 1) ∧ b.lastRx = stampNow x ∧
      (b.rxLocked = true ↔ r.rxLocked = true ∨ 3 ≤ r.zRun + 1) ∧ (r.rxLocked = false → 3 ≤ r.zRun + 1 → causeStands 14 5 t')) ∧
    (r.rxLocked = false → exec (.darsLockLost p t) s = .next { x with aud := { x.aud with ports := x.aud.ports.set p { r with zRun := 0 } } }) ∧
    (r.rxLocked = true → ∃ t' b, exec (.darsLockLost p t) s = .next t' ∧ kept t' = kept x ∧ causeStands 14 6 t' ∧ t'.aud.ports[p]? = some b ∧
      b.zRun = 0 ∧ b.rxLocked = false ∧ b.gap = true))

/-- RESULT_STATUS_READ, CMD_SUBMIT, HOST_LOAD_BLOCK, IRQ_CAUSE_CLEAR, REGISTER_WRITE and MSIX_UNMASK (R6, R7, R498 to R501, R513 to R518, R561). -/
def Obligations.RegisterWindow : Prop :=
  (∀ (bus : Iface) (t : Nat) (s : State) (r : Slot), let x := begin_ t s
    let k := (bankOf x bus).select.toNat
    answers x bus = true → x.host.slots[k]? = some r → r ≠ {} →
    ∃ t' w r', exec (.resultStatusRead bus t) s = .next t' ∧ t'.out = [.readData bus w] ∧
      r' = (if r.pending then r else { r with readCount := min 255 (r.readCount + 1) }) ∧
      w.toNat = (r'.status + 256 * r'.readCount + 65536 * r'.detail) % 2 ^ 32 ∧ (bankOf t' bus).result = r' ∧ t'.host.slots = x.host.slots.set k r' ∧
      base t' = base (updBank bus (fun b => { b with result := r' }) x)) ∧
  (∀ (bus : Iface) (t : Nat) (s : State), let x := begin_ t s
    let p := packetOf (regSrc bus) (bankOf x bus).cmdBuf x.now
    answers x bus = true → accepting x = true → x.boot.stage ≠ 5 → (bankOf x bus).go = false →
    (slotFree p.2 x = true → x.host.queue.length < 256 → ∃ t', exec (.cmdSubmit bus t) s = .next t' ∧
      t'.host.queue = x.host.queue ++ [{ opcode := p.1, req := p.2, arrived := curTs x, arrivedPs := x.now }] ∧
      (bankOf t' bus).go = false ∧ (bankOf t' bus).submitStatus = 0#8 ∧ kept t' = kept x) ∧
    (slotFree p.2 x = false → ∃ t', exec (.cmdSubmit bus t) s = .next t' ∧ t'.host.queue = x.host.queue ∧
      (bankOf t' bus).go = false ∧ (bankOf t' bus).submitStatus = 0x20#8 ∧ causeStands 0 11 t' ∧ kept t' = kept x)) ∧
  (∀ (bus : Iface) (t : Nat) (s : State), let x := begin_ t s
    let b := (bankOf x bus).cmdBuf
    answers x bus = true → x.boot.stage = 5 → fld b 0 1 ≠ 255 →
    (blockOk x.boot.loads b = true → exec (.hostLoadBlock bus t) s = .next (updBank bus (fun y => { y with submitStatus := 0#8 })
      { x with boot := { x.boot with loads := addBlock b x.boot.loads } })) ∧
    (blockOk x.boot.loads b = false → exec (.hostLoadBlock bus t) s = .next (updBank bus (fun y => { y with submitStatus := 0x11#8 }) x))) ∧
  (∀ (bus : Iface) (t n : Nat) (v old : Word) (s : State), let x := begin_ t s
    answers x bus = true →
    (n < 16 → x.host.cause[n]? = some old → ∃ t' new, exec (.irqCauseClear bus t (0x2010 + 8 * n) v) s = .next t' ∧
      t'.host.cause = x.host.cause.set n new ∧ t'.host.second = x.host.second ∧ base t' = base x ∧
      ∀ b, b < 32 → new.getLsbD b = (old.getLsbD b && !(v.getLsbD b && !(decide (x.host.setTick = x.now / 1600) && x.host.setBits.contains (32 * n + b))))) ∧
    (n < 8 → x.host.second[n]? = some old → ∃ t' new, exec (.irqCauseClear bus t (0x2100 + 4 * n) v) s = .next t' ∧
      t'.host.second = x.host.second.set n new ∧ t'.host.cause = x.host.cause ∧ base t' = base x ∧
      ∀ b, b < 32 → new.getLsbD b = (old.getLsbD b && !(v.getLsbD b && !(decide (x.host.setTick = x.now / 1600) && x.host.setBits.contains (32 * (16 + n) + b)))))) ∧
  (∀ (bus : Iface) (t v : Nat) (s : State), let x := begin_ t s
    answers x bus = true → v < 2 ^ 32 →
    exec (.registerWrite bus t 0x0018 4 v) s = .next (updBank bus (fun b => { b with scratch := BitVec.ofNat 32 v }) x) ∧
    exec (.registerWrite bus t 0x3000 4 v) s = .next (updBank bus (fun b => { b with select := BitVec.ofNat 8 v }) x) ∧
    (∀ (k : Nat) (old : Word), k < 8 → x.host.secondEn[k]? = some old → ∃ t', exec (.registerWrite bus t (0x2140 + 4 * k) 4 v) s = .next t' ∧
      base t' = base { x with host := { x.host with secondEn := x.host.secondEn.set k (BitVec.ofNat 32 v) } })) ∧
  (∀ (t off size v : Nat) (s : State), let x := begin_ t s
    answers x .pcie = true → ¬ (size = 4 ∧ off % 4 = 0) → ¬ (size = 8 ∧ off % 8 = 0) →
    ∃ t', exec (.registerWrite .pcie t off size v) s = .next t' ∧ causeStands 0 9 t' ∧ base t' = base x) ∧
  (∀ (t : Nat) (vec func : Bool) (s : State), let x := begin_ t s
    answers x .pcie = true → ∃ t', exec (.msixUnmask t vec func) s = .next t' ∧ base t' = base { x with host := { x.host with vecMask := vec, funcMask := func } } ∧
      (vec = false → func = false → x.host.msixPend = true → t'.host.msixPend = false ∧
        (irqCond x.host = true → x.host.msixEn = true → t'.out = [.msix]))) ∧
  (∀ (bus : Iface) (t off size v : Nat) (s : State), answers (begin_ t s) bus = false → exec (.registerWrite bus t off size v) s = .next (begin_ t s))

/-- RING_CONFIGURE, RING_STATUS, RING_CTRL_WRITE and DOORBELL_WRITE (R503, R504, R512, R525, R526). -/
def Obligations.RingsAreControlled : Prop :=
  (∀ (q : Req) (s : State), startsAt 0x0910 q s = true → fits q 16 (ringFields (fld q.params 0 2)) →
    let x := started 0x0910 q s
    let p := q.params
    let c : RingCfg := { use := fld p 2 1, bufCode := fld p 4 1, priority := fld p 5 1, port := fld p 6 1, codeMask := fld p 7 1, portMask := fld p 8 2, classMask := fld p 10 2 }
    ((audioHolder x.shadow (fld p 0 2)).isSome = false →
      exec (.ringConfigure q) s = done 0x0910 q [] { x with shadow := { x.shadow with rings := x.shadow.rings.set (fld p 0 2) c } }) ∧
    ((audioHolder x.shadow (fld p 0 2)).isSome = true → exec (.ringConfigure q) s = .next (reply 0x0910 q 0x12 0 [] x))) ∧
  (∀ (q : Req) (s : State), startsAt 0x0911 q s = true → fits q 4 [inF 0 2 0 255, rsvF 2 2] →
    let x := started 0x0911 q s
    let r := fld q.params 0 2
    let g := nth x.host.rings r
    ∃ data, exec (.ringStatus q) s = done 0x0911 q data x ∧ data.length = 72 ∧ fld data 0 2 = r % 65536 ∧ fld data 3 1 = b2n g.enable + 2 * b2n g.fault ∧
      fld data 4 2 = g.head % 65536 ∧ fld data 6 2 = g.db % 65536 ∧ fld data 8 2 = g.second % 65536 ∧ fld data 10 2 = g.secondDb % 65536 ∧
      fld data 12 1 = g.faultCause % 256 ∧ fld data 16 8 = g.items % 2 ^ 64 ∧ fld data 24 8 = g.bytes % 2 ^ 64) ∧
  (∀ (bus : Iface) (t r : Nat) (v : Word) (s : State) (g : Ring), let x := begin_ t s
    let l := v.toNat / 256 % 16
    answers x bus = true → r < 256 → x.host.rings[r]? = some g →
    (v.getLsbD 0 = true → g.enable = false →
      ((if 192 ≤ r ∧ r < 224 then 2 ≤ l ∧ l ≤ 8 else 4 ≤ l ∧ l ≤ 15) → (if r < 224 then g.secondDb = 0 ∧ g.db ≤ 2 ^ l else g.db = 0) → ∃ t' g', exec (.ringCtrlWrite bus t r v) s = .next t' ∧
        t'.host.rings = x.host.rings.set r g' ∧ g' = { g with
          enable := true, head := 0, second := 0, fetched := 0, ended := [], seq := 0, logSize := l, holdoff := v.toNat / 2 ^ 20 % 4096 } ∧
        base t' = base { x with ports := t'.ports, aud := t'.aud }) ∧
      ((if 192 ≤ r ∧ r < 224 then ¬ (2 ≤ l ∧ l ≤ 8) else ¬ (4 ≤ l ∧ l ≤ 15)) → ∃ t' g', exec (.ringCtrlWrite bus t r v) s = .next t' ∧
        t'.host.rings[r]? = some g' ∧ g'.enable = false ∧ g'.fault = true ∧ g'.faultCause = 5 ∧ causeStands 0 8 t')) ∧
    (v.getLsbD 0 = false → ∃ t' g', exec (.ringCtrlWrite bus t r v) s = .next t' ∧ t'.host.rings = x.host.rings.set r g' ∧
      g'.enable = false ∧ g'.fault = false ∧ g'.due = [] ∧ g'.head = g.head ∧ g'.db = g.db ∧ base t' = base x)) ∧
  (∀ (bus : Iface) (t r : Nat) (v : Word) (s : State) (g : Ring), let x := begin_ t s
    answers x bus = true → r < 256 → x.host.rings[r]? = some g →
    let n := v.toNat % 65536
    (g.enable = false ∨ tooMany r { g with db := n } = false → ∃ t', exec (.doorbellWrite bus t (0x0100 + 4 * r) v) s = .next t' ∧
      t' = { x with host := { x.host with rings := x.host.rings.set r { g with db := n, dbBefore := some (x.now / tickPs, dbThen x g) } } }) ∧
    (96 ≤ r → r < 224 → g.enable = false ∨ tooMany r { g with secondDb := n } = false → exec (.doorbellWrite bus t (0x0500 + 4 * (r - 96)) v) s = .next
      { x with host := { x.host with rings := x.host.rings.set r { g with secondDb := n } } }) ∧
    (g.enable = true → (if r < 224 then idxDist n g.head else idxDist g.head n) > 2 ^ g.logSize → ∃ t' g', exec (.doorbellWrite bus t (0x0100 + 4 * r) v) s = .next t' ∧
      t'.host.rings[r]? = some g' ∧ g'.enable = false ∧ g'.fault = true ∧ g'.faultCause = 3 ∧ causeStands 0 8 t' ∧ base t' = base x))

/-- CMD_RING_FETCH, QUEUE_TIMEOUT, RX_RING_DELIVER, EVENT_ENTRY_WRITE and RING_IRQ_HOLDOFF (R496 to R498, R505 to R508, R518). -/
def Obligations.RingsAreServed : Prop :=
  (∀ (c t : Nat) (entry : Bytes) (s : State) (g : Ring), running s = true → let x := begin_ t s
    let p := packetOf (.ring c) entry x.now
    dmaOn x = true → accepting x = true → x.host.queue.length < 256 → turnOf x = some c → x.host.rings[192 + c]? = some g → slotFree p.2 x = true →
    ∃ t', exec (.cmdRingFetch c t entry) s = .next t' ∧
      t'.host.queue = x.host.queue ++ [{ opcode := p.1, req := p.2, arrived := curTs x, arrivedPs := x.now }] ∧
      t'.host.rings = x.host.rings.set (192 + c) { g with head := (g.head + 1) % 65536 } ∧ t'.host.nextRing = (c + 1) % 32 ∧ kept t' = kept x) ∧
  (∀ (k : Nat) (s : State) (e : QEntry), running s = true → s.host.queue[k]? = some e → isUrgent e.req = false → isMirrored e.req = false → accepting s = true →
    s.host.pcie.go = false → s.host.spi.go = false →
    let y := moveTo (e.arrivedPs + (if e.opcode = 0x0F01 ∨ e.opcode = 0x0F10 then 10000000000 else 100000000000)) { s with out := [] }
    exec (.queueTimeout k) s = .next (reply e.opcode e.req 0x02 (Config.freeNat y.free % 65535 + 1) []
      { y with free := y.free + 1, host := { y.host with queue := y.host.queue.erase e } })) ∧
  (∀ (r t : Nat) (s : State) (g : Ring) (item : RxItem) (rest : List RxItem), let x := begin_ t s
    x.host.rings[r]? = some g → g.queue = item :: rest → dmaOn x = true → g.enable = true →
    let db := if item.code = 0x10 then g.db else dbThen x g
    let n := if item.code = 0x10 then 1 else ceilDiv item.data.length (256 * 2 ^ (nth x.work.rings r).bufCode)
    (n ≤ idxDist db g.head → ∃ t' g', exec (.rxRingDeliver r t) s = .next t' ∧ kept t' = kept x ∧ t'.host.rings[r]? = some g' ∧
      g'.queue = rest ∧ g'.head = (g.head + n) % 65536 ∧ g'.items = (g.items + 1) % 2 ^ 48 ∧ g'.bytes = (g.bytes + item.data.length) % 2 ^ 48) ∧
    (idxDist db g.head < n → item.code ≠ 0x10 → ∃ t' g', exec (.rxRingDeliver r t) s = .next t' ∧ kept t' = kept x ∧ t'.host.rings[r]? = some g' ∧
      g'.queue = rest ∧ g'.head = g.head ∧ g'.items = g.items ∧ g'.ringShort = (g.ringShort + 1) % 2 ^ 48 ∧ causeStands 0 5 t')) ∧
  (∀ (r t : Nat) (s : State) (g : Ring) (e : EventDue) (rest : List EventDue), running s = true → let x := begin_ t s
    x.host.rings[r]? = some g → g.due = e :: rest → dmaOn x = true → g.enable = true →
    (idxDist g.head g.db < 2 ^ g.logSize → ∃ t' g' o, exec (.eventEntryWrite r t) s = .next t' ∧ base t' = base x ∧ t'.host.rings[r]? = some g' ∧
      g'.due = rest ∧ g'.head = (g.head + 1) % 65536 ∧ g'.seq = (g.seq + 1) % 2 ^ 32 ∧ g'.items = (g.items + 1) % 2 ^ 48 ∧ g'.lostBefore = false ∧
      t'.out.head? = some (.eventEntry r g.head o) ∧ fld o 0 4 = g.seq % 2 ^ 32 ∧ fld o 4 1 = e.cls % 256 ∧ fld o 5 1 = e.bitNo % 256 ∧
      fld o 24 2 = e.index % 65536) ∧
    (2 ^ g.logSize ≤ idxDist g.head g.db → ∃ t' g', exec (.eventEntryWrite r t) s = .next t' ∧ base t' = base x ∧ t'.host.rings[r]? = some g' ∧
      g'.head = g.head ∧ g'.eventsLost = (g.eventsLost + 1) % 2 ^ 48 ∧ g'.lostBefore = true ∧ causeStands 0 7 t')) ∧
  (∀ (r d : Nat) (s : State) (g : Ring), running s = true → s.host.rings[r]? = some g → g.holdUntil = some d → r < 256 →
    let y := moveTo d { s with out := [] }
    ∃ t', exec (.ringIrqHoldoff r) s = .next t' ∧ t'.host.rings = s.host.rings.set r { g with holdUntil := none } ∧
      (∀ k i, secondOf r = (k, i) → k < y.host.second.length → (t'.host.second.getD k 0).getLsbD i = true) ∧ base t' = base y)

/-- TX_FETCH, DMA_COMPLETION_ERROR, PCIE_RESET, LINK_TRAINING_START and PCIE_LINK_UP (R504, R509, R510, R519, R521, R557). -/
def Obligations.TransferAndLink : Prop :=
  (∀ (r t : Nat) (d : Bytes) (ds : List Bytes) (data : Bytes) (s : State) (g : Ring) (port : PortRun), running s = true → let x := begin_ t s
    let c := nth x.work.rings r
    let n := (d :: ds).length
    let cells := cellsOf (data.length + 4)
    dmaOn x = true → 96 ≤ r → r < 192 → x.host.rings[r]? = some g → g.enable = true → c.use = 1 → n ≤ idxDist g.db g.fetched →
    (chainOf (d :: ds) = .whole → data.length = ((d :: ds).map fun y => fld y 8 4).foldl (· + ·) 0 → txRejected (portCfg x c.port).maxFrame data.length d = false →
      txRoom x cells = true → (fld d 12 1).testBit 2 = false → x.ports[c.port]? = some port →
      ∃ t' g' f port', exec (.txFetch r t (d :: ds) data) s = .next t' ∧ kept t' = kept x ∧ t'.host.rings[r]? = some g' ∧
        g'.fetched = (g.fetched + n) % 65536 ∧ g'.bytes = (g.bytes + data.length) % 2 ^ 48 ∧ g'.head = g.head ∧
        t'.svc.txCells = x.svc.txCells + cells ∧ t'.ports = x.ports.set c.port port' ∧ port' = { port with untimed := port.untimed ++ [f] } ∧
        f.bytes = data ∧ f.prio = c.priority ∧ f.launch = none ∧ f.cells = cells) ∧
    (chainOf (d :: ds) = .broken → ∃ t' g', exec (.txFetch r t (d :: ds) data) s = .next t' ∧ base t' = base x ∧ t'.host.rings[r]? = some g' ∧
      g'.enable = false ∧ g'.fault = true ∧ g'.faultCause = 2 ∧ causeStands 0 8 t')) ∧
  (∀ (r t : Nat) (s : State) (g : Ring), running s = true → let x := begin_ t s
    dmaOn x = true → x.host.rings[r]? = some g → g.enable = true →
    ∃ t' g', exec (.dmaCompletionError r t) s = .next t' ∧ kept t' = kept x ∧ t'.host.rings[r]? = some g' ∧
      g'.enable = false ∧ g'.fault = true ∧ g'.faultCause = 1 ∧ causeStands 0 8 t') ∧
  (∀ (t : Nat) (down : Bool) (s : State), let x := begin_ t s
    x.host.spi.go = false → ∃ t', exec (.pcieReset t down) s = .next t' ∧ kept t' = kept x ∧ t'.host.pcie = ({} : IfBank) ∧ t'.host.spi = x.host.spi ∧
      t'.host.msixEn = false ∧ t'.host.msixPend = false ∧ t'.host.vecMask = true ∧ t'.host.funcMask = false ∧ t'.host.busMaster = false ∧
      (down = true → t'.host.linkWidth = 0 ∧ t'.host.linkGen = 0) ∧ (down = false → t'.host.linkWidth = x.host.linkWidth ∧ t'.host.linkGen = x.host.linkGen) ∧
      (∀ (r : Nat) (g : Ring), x.host.rings[r]? = some g → t'.host.rings[r]? = some { g with enable := false, db := 0, secondDb := 0, dbBefore := none, due := [] }) ∧
      (∀ e, e ∈ t'.host.queue → fromRing e.req = false) ∧ (∀ w, w ∈ t'.host.waits → fromRing w.req = true → w.muted = true)) ∧
  (∀ (t : Nat) (s : State), let x := begin_ t s
    running x = true → exec (.linkTrainingStart t) s = .next { x with boot := { x.boot with training := true, perst := true } }) ∧
  (∀ (t width gen : Nat) (s : State), let x := begin_ t s
    running x = true → x.boot.training = true → width = 1 ∨ width = 2 ∨ width = 4 → 1 ≤ gen → gen ≤ 4 →
    exec (.pcieLinkUp t width gen) s = .next { x with host := { x.host with linkWidth := width, linkGen := gen, busMaster := true } })

/-- REC_CONFIGURE, REC_COMMIT_NOW, REC_READ, PERF_READ, PERF_FILTER_SET and PERF_WINDOW_SET (R546 to R551). -/
def Obligations.ScorecardCommands : Prop :=
  (∀ (q : Req) (s : State), startsAt 0x0F00 q s = true → fits q 4 [inF 0 1 0 1, inF 1 1 1 255, inF 2 2 1 3600] →
    let x := started 0x0F00 q s
    let p := q.params
    exec (.recConfigure q) s = done 0x0F00 q [] { x with shadow := { x.shadow with rec_ := { enable := fld p 0 1 == 1, occLimit := fld p 1 1, repeatSeconds := fld p 2 2 } } }) ∧
  (∀ (q : Req) (s : State), startsAt 0x0F02 q s = true → fits q 0 [] →
    let x := started 0x0F02 q s
    let w : Wait := { key := .recCommit, opcode := 0x0F02, req := q }
    (x.score.writing ≠ none ∨ x.score.waiting ≠ [] ∨ scoreOn x = false → exec (.recCommitNow q) s = .next (reply 0x0F02 q 0x12 0 [] x)) ∧
    (x.score.writing = none → x.score.waiting = [] → scoreOn x = true →
      (hourDue x = false → x.score.credits = 0 → exec (.recCommitNow q) s = .next (reply 0x0F02 q 0x20 0 [] x)) ∧
      (hourDue x = true ∨ 0 < x.score.credits →
        ∃ t' v, exec (.recCommitNow q) s = .next t' ∧ kept t' = kept x ∧ t'.host.waits = x.host.waits ++ [w] ∧
          (kittyUses x = true → t'.score.writing = none ∧ t'.score.waiting = [v]) ∧
          (kittyUses x = false → t'.score.writing = some v ∧ t'.score.waiting = [] ∧ v.slot = x.flash.hourlyHead % 1024 ∧ ∃ b, .flash "HOURLY" b ∈ t'.out) ∧
          v.page.opStart = x.score.opStart ∧ v.page.opEnd = opTime x ∧ v.forced = !hourDue x ∧
          t'.score.opStart = opTime x ∧ t'.score.carry = [] ∧ t'.score.credits = if hourDue x then min 24 (x.score.credits + 1) else x.score.credits - 1))) ∧
  (∀ (q : Req) (s : State), startsAt 0x0F01 q s = true →
    let x := started 0x0F01 q s
    let area := fld q.params 0 1
    let seq := fld q.params 4 4
    let l := if area = 1 then x.flash.hourly else x.flash.daily
    fits q 8 (recReadFields q.params) →
    (area ≠ 0 → pageBySeq l seq = none → exec (.recRead q) s = .next (reply 0x0F01 q 0x12 0 [] x)) ∧
    (∀ g, area ≠ 0 ∧ pageBySeq l seq = some g ∨ area = 0 ∧ g = livePage false x →
      ∃ data, exec (.recRead q) s = done 0x0F01 q data x ∧ 64 ≤ data.length ∧ fld data 0 4 = (if g.daily then 0x31444353 else 0x31484353) ∧
        ((∀ r ∈ g.records, r.hist.length = 7) → data.length = 64 + 64 * min (fld q.params 1 1) (g.records.length - fld q.params 2 2)) ∧
        fld data 4 4 = g.seq % 2 ^ 32 ∧ fld data 8 4 = g.opStart % 2 ^ 32 ∧ fld data 12 4 = g.opEnd % 2 ^ 32 ∧ fld data 16 3 = g.powerCycle % 2 ^ 24 ∧
        fld data 19 1 = g.flags % 256 ∧ fld data 32 2 = g.records.length % 65536 ∧ fld data 34 2 = g.omitted % 65536 ∧ fld data 36 4 = g.carryIn % 2 ^ 32 ∧ fld data 40 4 = g.written % 2 ^ 32)) ∧
  (∀ (q : Req) (s : State), startsAt 0x0F10 q s = true → fits q 4 [anyF 0 2, inF 2 2 1 128] →
    let x := started 0x0F10 q s
    let b := fld q.params 0 2
    let n := fld q.params 2 2
    ∃ data, exec (.perfRead q) s = done 0x0F10 q data { x with free := x.free + n } ∧ data.length = 16 + 8 * n ∧ fld data 0 2 = b % 65536 ∧ fld data 2 2 = n % 65536 ∧
      ∀ i, i < n → (perfExists (b + i) = false → fld data (16 + 8 * i) 8 = 0) ∧
        (perfExists (b + i) = true → b + i < 1280 ∨ innerFilter x (b + i - 1280) = false → fld data (16 + 8 * i) 8 = (2 ^ 63 + (getKey (b + i) x.perf).getD 0) % 2 ^ 64) ∧
        (perfExists (b + i) = true → 1280 ≤ b + i → innerFilter x (b + i - 1280) = true → 2 ^ 63 ≤ fld data (16 + 8 * i) 8)) ∧
  (∀ (q : Req) (s : State) (o : FilterCfg), startsAt 0x0F11 q s = true → fits q 32 (filterFields q.params) →
    let x := started 0x0F11 q s
    let p := q.params
    x.shadow.filters[fld p 0 1]? = some o →
    let f : FilterCfg := { eventType := fld p 1 1, bytes := fld p 2 1 == 1, priv := fld p 3 1, suits := fld p 4 1, ports := fld p 6 2, masters := fld p 8 4, addrLow := fld p 16 8, addrHigh := fld p 24 8, loads := o.loads + 1 }
    exec (.perfFilterSet q) s = done 0x0F11 q [] { x with shadow := { x.shadow with filters := x.shadow.filters.set (fld p 0 1) f } }) ∧
  (∀ (q : Req) (s : State), startsAt 0x0F12 q s = true → fits q 4 [F 0 1 (fun v => decide (v < 16) || v == 0xFF), inF 1 1 0 6, inF 2 1 0 6, rsvF 3 1] →
    let x := started 0x0F12 q s
    let p := q.params
    ∃ l, exec (.perfWindowSet q) s = done 0x0F12 q [] { x with shadow := { x.shadow with windows := l } } ∧ l.length = x.shadow.windows.length ∧
      ∀ n w, x.shadow.windows[n]? = some w → l[n]? = some (if fld p 0 1 = 0xFF ∨ fld p 0 1 = n then { w0 := fld p 1 1, w1 := fld p 2 1 } else w))

/-- HAND_BOUNDARY, HOURLY_COMMIT, PAGE_WRITTEN, PAGE_WRITE_TIMEOUT and DAILY_COMMIT (R27, R29, R536 to R539). -/
def Obligations.HandsAndPages : Prop :=
  (∀ (temp ph : Int) (s : State), let y := { s with out := [] }
    let z := toBoundary y
    (running s = false → exec (.handBoundary temp ph) s = .next y) ∧
    (running s = true → ∃ t', exec (.handBoundary temp ph) s = .next t' ∧ kept t' = kept z ∧ t'.time = z.time ∧ t'.now = z.now ∧ t'.boot.tempMax = temp ∧
      t'.hand.number = (s.hand.number + 1) % 2 ^ 32 ∧ t'.hand.lastTick = some (z.now / tickPs) ∧ (s.svc.refusalHand = some s.hand.number → causeStands 9 0 t') ∧
      (s.work.pair.mode ≠ 1 → t'.pair.captured = s.pair.captured) ∧
      (s.work.pair.mode = 1 → t'.pair.boundary = z.now ∧ t'.pair.snapSent = false ∧ ∃ c, t'.pair.captured = some c ∧ c.hand = t'.hand.number ∧ c.ps = z.now ∧ c.rate = z.time.rate))) ∧
  (∀ (s : State), let y := { s with out := [] }
    let z := if hourDue y then y else moveTo (s.now + (hourPs - s.score.opPs % hourPs)) y
    let n := min 24 (s.score.credits + 1)
    (running s = false → exec .hourlyCommit s = .next y) ∧
    (running s = true → scoreOn s = false → exec .hourlyCommit s = .next { z with score := { z.score with credits := n, opStart := opTime z } }) ∧
    (running s = true → scoreOn s = true → ∃ t', exec .hourlyCommit s = .next t' ∧ kept t' = kept z ∧ t'.score.credits = n ∧ t'.score.opStart = opTime z ∧ t'.score.carry = [] ∧
      t'.score.dailyDue = (s.score.dailyDue || opTime z % 24576 == 0) ∧
      (∀ w, s.score.writing = some w → t'.score.writing = some w ∧ ∃ v, t'.score.waiting = s.score.waiting ++ [v] ∧ v.page.opStart = s.score.opStart ∧ v.page.opEnd = opTime z) ∧
      (kittyUses s = true → s.score.writing = none → ∃ v, t'.score.writing = none ∧ t'.score.waiting = s.score.waiting ++ [v] ∧ v.page.opStart = s.score.opStart ∧ v.page.opEnd = opTime z) ∧
      (kittyUses s = false → s.score.writing = none → s.score.waiting = [] → ∃ v b, t'.score.writing = some v ∧ t'.score.waiting = [] ∧ v.page.opStart = s.score.opStart ∧ v.page.opEnd = opTime z ∧
        v.slot = s.flash.hourlyHead % 1024 ∧ .flash "HOURLY" b ∈ t'.out))) ∧
  (∀ (t : Nat) (s : State), running s = true → let x := begin_ t s
    (x.score.writing = none → exec (.pageWritten t) s = .next x) ∧
    (∀ w, x.score.writing = some w → x.score.waiting = [] → ∃ t', exec (.pageWritten t) s = .next t' ∧ kept t' = kept x ∧ causeStands 15 0 t' ∧ t'.score.writing = none ∧
      (∀ k, kittyTurn x = true → x.kitty.writing = some k → kittyUses t' = true ∧ .flash "KITTY" k.image ∈ t'.out ∧ flashBank t' k.bank = []) ∧
      (kittyTurn x = false → t'.flash = { x.flash with hourly := putKey w.slot w.page x.flash.hourly, hourlyHead := (w.slot + 1) % 1024 }) ∧
      (∀ v, x.host.waits = [v] → v.key = .recCommit → t'.host.waits = []) ∧ ((∀ v ∈ x.host.waits, v.key ≠ .recCommit) → plain t' = plain { x with flash := t'.flash, kitty := t'.kitty }))) ∧
  (∀ (t : Nat) (back : Bool) (s : State), running s = true → let x := begin_ t s
    (x.score.writing = none → exec (.pageWriteTimeout t back) s = .next x) ∧
    (∀ w, x.score.writing = some w →
      let y := if back then x else moveTo (w.start + 10000000000000) x
      let k := (w.slot + 1) % 1024
      (w.attempt = 1 → ∃ t' b, exec (.pageWriteTimeout t back) s = .next t' ∧ .flash "HOURLY" b ∈ t'.out ∧
        plain t' = plain { y with flash := { y.flash with hourly := delKey k (putKey w.slot { w.page with torn := true } y.flash.hourly), hourlyHead := k } } ∧
        t'.score = { y.score with writing := some { w with page := { w.page with written := opTime y }, slot := k, attempt := 2, start := y.now } }) ∧
      (w.attempt ≠ 1 → x.score.waiting = [] → ∃ t', exec (.pageWriteTimeout t back) s = .next t' ∧ kept t' = kept y ∧ causeStands 15 2 t' ∧ t'.score.writing = none ∧
        (kittyTurn y = false → t'.flash = { y.flash with hourly := putKey w.slot { w.page with torn := true } y.flash.hourly, hourlyHead := k })))) ∧
  (∀ (t : Nat) (s : State), running s = true → let x := begin_ t s
    (x.score.dailyDue = false ∨ x.score.writing ≠ none ∨ kittyUses x = true ∨ scoreOn x = false → exec (.dailyCommit t) s = .next x) ∧
    (x.score.dailyDue = true → x.score.writing = none → kittyUses x = false → scoreOn x = true → ∃ t' b, exec (.dailyCommit t) s = .next t' ∧ kept t' = kept x ∧ causeStands 15 1 t' ∧
      t'.score = { x.score with dailyDue := false } ∧ t'.flash.hourly = x.flash.hourly ∧ .flash "DAILY" b ∈ t'.out))

/-- POWER_ON, POWER_GOOD_RISE, POWER_GOOD_FALL, POWER_REMOVED, RESET_N_ASSERT, RESET_END, WATCHDOG_EXPIRY and WATCHDOG_RESET. -/
def Obligations.SuppliesAndReset : Prop :=
  (∀ (t : Nat) (s : State), let x := begin_ t s
    let y := deviceReset 0 x
    exec (.powerOn t) s = .next { y with boot := { y.boot with
      vddio := true, powerGood := false, resetLow := 0, thermalHold := false, faults := [], faultOverflow := false } }) ∧
  (∀ (cause : Nat) (s : State), (deviceReset cause s).out.getLast? = some (.pads [(.outputs, .highZ), (.lanes, .off), (.claimTx, .highZ), (.claimOwn, .highZ), (.intN, .highZ),
    (.bpllLock, .highZ), (.serial, .highZ), (.hostSpi, .highZ)])) ∧
  (∀ (t : Nat) (s : State), let x := begin_ t s
    x.boot.vddio = true → exec (.powerGoodRise t) s = .next { x with boot := { x.boot with powerGood := true } }) ∧
  (∀ (t rails : Nat) (s : State), let x := begin_ t s
    x.boot.powerGood = true → rails % 128 ≠ 0 → ∃ t', exec (.powerGoodFall t rails) s = .next t' ∧ running t' = false ∧ t'.boot.powerGood = false ∧
      t'.boot.inReset = true ∧ t'.boot.stage = 0 ∧ t'.boot.resetCause = 1 ∧ t'.pair.live = false ∧ t'.work = ({} : Cfg) ∧ t'.fuse = x.fuse ∧
      (x.boot.faults.length < 8 → t'.boot.faults = x.boot.faults ++ [{
        ps := x.now, cause := 4, claim := x.pair.force, powerCycle := x.score.powerCycle, opTime := opTime x, detail := rails % 128 }])) ∧
  (∀ (t : Nat) (s : State), let x := begin_ t s
    ∃ t', exec (.powerRemoved t) s = .next t' ∧ running t' = false ∧ t'.boot.vddio = false ∧ t'.boot.powerGood = false ∧ t'.boot.faults = [] ∧
      t'.boot.inReset = true ∧ t'.pair.live = false ∧ t'.work = ({} : Cfg) ∧ t'.fuse = x.fuse ∧ t'.pending = x.pending) ∧
  (∀ (t width : Nat) (s : State), let x := begin_ t s
    let y := deviceReset 2 x
    (width < 60 → exec (.resetNAssert t width) s = .next x) ∧
    (60 ≤ width → width < 150 → exec (.resetNAssert t width) s = .fault .resetPulseUnspecified) ∧
    (150 ≤ width → exec (.resetNAssert t width) s = .next { y with boot := { y.boot with resetLow := t + width * 1000 } })) ∧
  (∀ (t bootSrc : Nat) (pairId quad : Bool) (s : State), let x := begin_ t s
    x.boot.inReset = true → x.boot.powerGood = true → x.boot.thermalHold = false → x.boot.resetLow ≤ x.now →
    exec (.resetEnd t pairId bootSrc quad) s = .next { x with
      boot := { x.boot with inReset := false, stage := 1, pairId := pairId, bootSrc := bootSrc % 4, spiQuad := quad, resetEnd := x.now }
      root := { x.root with detected := x.now }, pair := { x.pair with rxAt := x.now }
      out := [.pin "CLAIM_TX" 0, .pin "CLAIM_OWN" 0, .pin "BPLL_LOCK" 0, .pads [(.outputs, if x.root.lost then .highZ else if x.boot.claimSpent then .owned else .sharedHighZ),
        (.lanes, if x.root.lost then .off else if x.boot.claimSpent then .owned else .sharedIdle), (.claimTx, if x.root.lost || !x.boot.claimSpent then .low else .owned),
        (.claimOwn, if x.root.lost || !x.boot.claimSpent then .low else .owned), (.intN, if x.root.lost then .low else .owned), (.bpllLock, .owned),
        (.serial, if x.root.lost then .highZ else if x.boot.claimSpent then .owned else .idleHigh), (.hostSpi, if x.root.lost then .highZ else .owned)]] }) ∧
  (∀ (t : Nat) (s : State), let x := begin_ t s
    x.boot.inReset = false → x.root.lost = false → ∃ t', exec (.watchdogExpiry t) s = .next t' ∧ t'.boot.watchdogReset = some (x.now + 1000000000) ∧
      t'.pair.live = false ∧ t'.boot.claimSpent = true ∧ kept t' = kept x ∧
      (x.boot.faults.length < 8 → t'.boot.faults.length = x.boot.faults.length + 1)) ∧
  (∀ (d : Nat) (s : State), s.boot.watchdogReset = some d → let y := moveTo d { s with out := [] }
    let z : State := { y with boot := { y.boot with watchdogReset := none } }
    exec .watchdogReset s = .next (if y.root.lost then z else deviceReset 3 z))

/-- THERMAL_SHUTDOWN, THERMAL_RELEASE, THERMAL_WARN and THERMAL_WARN_CLEAR (R557, R570). -/
def Obligations.ThermalEvents : Prop :=
  (∀ (t : Nat) (temp : Int) (s : State), let x := begin_ t s
    x.boot.vddio = true → x.boot.thermalHold = false → 1000 ≤ temp → ∃ t', exec (.thermalShutdown t temp) s = .next t' ∧
      t'.boot.thermalHold = true ∧ t'.boot.inReset = true ∧ t'.boot.resetCause = 4 ∧ t'.pair.live = false ∧ running t' = false ∧
      t'.work = ({} : Cfg) ∧ t'.fuse = x.fuse) ∧
  (∀ (t : Nat) (temp : Int) (s : State), let x := begin_ t s
    (temp ≤ 920 → exec (.thermalRelease t temp) s = .next { x with boot := { x.boot with thermalHold := false } }) ∧
    (920 < temp → exec (.thermalRelease t temp) s = .next x)) ∧
  (∀ (t : Nat) (temp : Int) (s : State), let x := begin_ t s
    running x = true → x.boot.thermalWarn = false → 840 ≤ temp → ∃ t', exec (.thermalWarn t temp) s = .next t' ∧ causeStands 1 4 t' ∧
      plain t' = plain { x with boot := { x.boot with thermalWarn := true, tempMax := temp } }) ∧
  (∀ (t : Nat) (temp : Int) (s : State), let x := begin_ t s
    temp ≤ 800 → exec (.thermalWarnClear t temp) s = .next { x with boot := { x.boot with thermalWarn := false, tempMax := temp } })

/-- FUSE_READ, SRAM_TEST, IMAGE_LOAD, KEY_DERIVE, DEALER_START, CONFIG_IMAGE_EXEC, READY and CLAIM_OPEN. -/
def Obligations.BootStages : Prop :=
  (∀ (t : Nat) (s : State), let x := begin_ t s
    running x = true → x.boot.stage = 2 → ∃ rows, exec (.fuseRead t) s = .next { x with
      boot := { x.boot with stage := 3 }, fuse := { x.fuse with rows := rows }, attest := { x.attest with lc := lcOfRows rows, advance := none } } ∧
      rows = x.fuse.rows.map fun r => if r = 0 then 0 else 8) ∧
  (∀ (t : Nat) (ok : Bool) (s : State), let x := begin_ t s
    running x = true → x.boot.stage = 3 → exec (.sramTest t ok) s = .next { x with boot := { x.boot with stage := if ok then 4 else 15 } }) ∧
  (∀ (t : Nat) (a b : Bytes) (s : State), let x := begin_ t s
    running x = true → x.boot.stage = 4 → ∃ t', exec (.imageLoad t a b) s = .next t' ∧
      plain t' = plain { x with boot := t'.boot, attest := { x.attest with mrs := t'.attest.mrs } } ∧
      (x.boot.bootSrc = 2 → t'.boot.stage = 5) ∧ (x.boot.bootSrc = 3 → t'.boot.stage = 15) ∧
      (x.boot.bootSrc ≠ 2 → x.boot.bootSrc ≠ 3 → copyValid a = true → copyValid b = false → t'.boot.stage = 6 ∧ t'.boot.copyB = false ∧ t'.boot.images = copyImages a) ∧
      (x.boot.bootSrc ≠ 2 → x.boot.bootSrc ≠ 3 → copyValid a = false → copyValid b = true → t'.boot.stage = 6 ∧ t'.boot.copyB = true ∧ t'.boot.images = copyImages b ∧ causeStands 1 3 t') ∧
      (x.boot.bootSrc ≠ 2 → x.boot.bootSrc ≠ 3 → copyValid a = false → copyValid b = false → t'.boot.stage = if x.boot.bootSrc = 1 then 5 else 15)) ∧
  (∀ (t : Nat) (s : State), let x := begin_ t s
    running x = true → x.boot.stage = 6 → ∃ t', exec (.keyDerive t) s = .next t' ∧ t' = { x with boot := { x.boot with stage := 7 }, attest := t'.attest } ∧
      t'.attest.lc = x.attest.lc ∧ ∀ k, k ≠ 5 → t'.attest.mrs[k]? = x.attest.mrs[k]?) ∧
  (∀ (t density : Nat) (s : State), let x := begin_ t s
    running x = true → x.boot.stage = 7 → ∃ t', exec (.dealerStart t density) s = .next t' ∧ t'.boot.stage = 8 ∧
      plain t' = plain { x with boot := t'.boot, flash := t'.flash } ∧ (x.boot.faults ≠ [] → causeStands 1 2 t')) ∧
  (∀ (t : Nat) (s : State), let x := begin_ t s
    running x = true → x.boot.stage = 8 →
    (x.boot.configDone = true → exec (.configImageExec t) s = .next x) ∧
    (x.boot.configDone = false → ∃ t', exec (.configImageExec t) s = .next t' ∧ t'.boot.configDone = true ∧
      (getKey 5 x.boot.images = none → t' = { x with boot := { x.boot with configDone := true } }))) ∧
  (∀ (t : Nat) (s : State), let x := begin_ t s
    running x = true → x.boot.stage = 8 → x.boot.configDone = true ∨ getKey 5 x.boot.images = none → x.host.pcie.go = false → x.host.spi.go = false →
    ∃ t', exec (.ready t) s = .next t' ∧ causeStands 1 0 t' ∧
      plain t' = plain { x with boot := { x.boot with stage := 9, cmdReady := true, bootTime := (x.now - x.boot.resetEnd) / 1000000 } }) ∧
  (∀ (t : Nat) (s : State), let x := begin_ t s
    running x = true → x.boot.cmdReady = true → x.kitty.loadDone = true → x.boot.claimSpent = false →
    exec (.claimOpen t) s = .next { x with
      boot := { x.boot with claimSpent := true }, pair := { x.pair with live := true, enable := false, force := 0, sent := 0 }, out := [.pads (padTable { x with boot := { x.boot with claimSpent := true } })] }) ∧
  (∀ (t density : Nat) (ok : Bool) (s : State), let x := begin_ t s
    (x.boot.stage ≠ 2 → exec (.fuseRead t) s = .next x) ∧ (x.boot.stage ≠ 3 → exec (.sramTest t ok) s = .next x) ∧
    (x.boot.stage ≠ 6 → exec (.keyDerive t) s = .next x) ∧ (x.boot.stage ≠ 7 → exec (.dealerStart t density) s = .next x))

/-- The premise of the invariant of every step. -/
def Obligations.BootInvariantAtReset : Prop := bootOk State.reset

/-- Every step keeps what boot promises: CMD_READY only at stage 9, device reset exactly at stage 0, a legal stage and life cycle. -/
def Obligations.EveryStepKeepsTheBootInvariant : Prop :=
  ∀ s t : State, bootOk s → step s = .next t → bootOk t

/-- What happens of itself writes no configuration and moves no boot stage. -/
def Obligations.EventsWriteNoConfiguration : Prop :=
  ∀ (c : Instr) (s t : State), mayConfigure c = false → exec c s = .next t → kept t = kept s

/-- The effect of a command leaves the model's queue alone. -/
def Obligations.NoCommandTouchesTheQueue : Prop :=
  ∀ (c : Instr) (s t : State), exec c s = .next t → t.pending = s.pending
end

