-- ==== Sys2Proof/Laws/Base.lean ====
section
/-! SUPPORT. What the shared operations leave alone: everything but the bookkeeping that `base` and `plain` set aside. -/
namespace Sys2Proof.Machine
open Sys2Proof Host

theorem base_host {s : State} {h : HostPart} (e : hostBase h = hostBase s.host) : base { s with host := h } = base s := by
  unfold base; rw [e]
theorem base_out (s : State) (o : List Output) : base { s with out := o } = base s := rfl
theorem base_perf (s : State) (p : List (Nat × Nat)) : base { s with perf := p } = base s := rfl
theorem base_ite {c : Prop} [Decidable c] (a b : State) : base (if c then a else b) = if c then base a else base b := by split <;> rfl
theorem base_foldl {α : Type} (g : State → α → State) (h : ∀ s x, base (g s x) = base s) (l : List α) (s : State) : base (l.foldl g s) = base s := by
  induction l generalizing s with
  | nil => rfl
  | cons a l ih => exact (ih _).trans (h _ _)
theorem plain_base {s t : State} (h : base t = base s) : plain t = plain s := by unfold plain; rw [h]
theorem plain_score (s : State) (p : ScorePart) : plain { s with score := p } = plain s := rfl
theorem plain_ite {c : Prop} [Decidable c] (a b : State) : plain (if c then a else b) = if c then plain a else plain b := by split <;> rfl

@[simp] theorem base_emit (o : Output) (s : State) : base (emit o s) = base s := rfl
@[simp] theorem base_bumpBy (n k : Nat) (s : State) : base (bumpBy n k s) = base s := rfl
@[simp] theorem base_bump (n : Nat) (s : State) : base (bump n s) = base s := base_bumpBy n 1 s
@[simp] theorem base_msixSend (s : State) : base (msixSend s) = base s := by
  unfold msixSend
  split
  · split
    · exact base_host rfl
    · rw [base_bump, base_emit]
  · rfl
@[simp] theorem base_irqEdge (b : Bool) (s : State) : base (irqEdge b s) = base s := by
  unfold irqEdge; rw [base_ite, base_msixSend, ite_self]
@[simp] theorem base_updRing (r : Nat) (f : Ring → Ring) (s : State) : base (updRing r f s) = base s := base_host rfl
@[simp] theorem base_updSlot (k : Nat) (f : Slot → Slot) (s : State) : base (updSlot k f s) = base s := base_host rfl
@[simp] theorem base_noteCause (k : Nat) (s : State) : base (noteCause k s) = base s := base_host rfl
@[simp] theorem base_setSecond (k i : Nat) (s : State) : base (setSecond k i s) = base s := by
  unfold setSecond
  exact (base_irqEdge _ _).trans ((base_host rfl).trans (base_noteCause _ _))
@[simp] theorem base_ringEvent (r : Nat) (s : State) : base (ringEvent r s) = base s := by
  unfold ringEvent
  simp only [base_ite, base_setSecond, base_updRing, base_noteCause, ite_self]
@[simp] theorem base_eventDue (e : EventDue) (s : State) : base (eventDue e s) = base s := by
  unfold eventDue
  refine base_foldl _ (fun s k => ?_) _ _
  simp only [base_ite, base_updRing, ite_self]
@[simp] theorem base_setCause (c b i : Nat) (s : State) : base (setCause c b i s) = base s := by
  have h1 : base (noteCause (32 * c + b) (bump (64 * c + b) s)) = base s := by rw [base_noteCause, base_bump]
  unfold setCause
  revert h1
  generalize noteCause (32 * c + b) (bump (64 * c + b) s) = x
  intro h1
  dsimp only
  split
  · exact h1
  · rw [base_irqEdge, base_eventDue]; exact (base_host rfl).trans h1
@[simp] theorem base_replyRingWrite (c : Nat) (e : Bytes) (s : State) : base (replyRingWrite c e s) = base s := by
  unfold replyRingWrite
  dsimp only
  split
  · rw [base_ringEvent, base_updRing, base_emit]
  · rfl
theorem raise_reply (s : State) : raise 0 4 s = setCause 0 4 0 s := rfl
@[simp] theorem base_forward (x : LockInput) (s : State) : base (forward x s) = base s := by unfold forward; split <;> simp
@[simp] theorem base_forwardCommand (op : Nat) (q : Req) (s : State) : base (forwardCommand op q s) = base s := by
  unfold forwardCommand; split <;> simp
/-- A reply changes result slots, rings, causes, counters and outputs only; a mirrored command's also the wait for its twin. -/
theorem base_reply (op : Nat) (q : Req) (st d : Nat) (data : Bytes) (s : State) (h : isMirrored q = false) :
    base (reply op q st d data s) = base s := by
  have h1 : ∀ x : State, base (if st = stBusyRetry then bump 34 x else x) = base x := by
    intro x; simp only [base_ite, base_bump, ite_self]
  have h2 : ∀ (x : State) (f : Slot → Slot), base (if usesSlot q then updSlot (slotOf q) f x else x) = base x := by
    intro x f; simp only [base_ite, base_updSlot, ite_self]
  unfold reply replyWith
  dsimp only
  rw [h]
  simp only [Bool.false_eq_true, if_false]
  split
  · split
    · rw [base_replyRingWrite, base_updRing, base_forwardCommand, h2, h1, base_bump]
    · rw [base_updRing, base_forwardCommand, h2, h1, base_bump]
  · rw [raise_reply, base_setCause, base_forwardCommand, h2, h1, base_bump]
  · rw [raise_reply, base_setCause, base_forwardCommand, h2, h1, base_bump]
  · rw [base_emit, base_forwardCommand, h2, h1, base_bump]
  · rw [base_forwardCommand, h2, h1, base_bump]
@[simp] theorem plain_updScore (f : ScorePart → ScorePart) (s : State) : plain (updScore f s) = plain s := rfl
@[simp] theorem plain_addSample (c : Nat) (v : Int) (s : State) : plain (addSample c v s) = plain s := by
  unfold addSample; dsimp only; split <;> simp
@[simp] theorem plain_noteRate (k : Nat) (s : State) : plain (noteRate k s) = plain s := by
  unfold noteRate; dsimp only; split <;> simp
@[simp] theorem plain_bump (n : Nat) (s : State) : plain (bump n s) = plain s := plain_base (base_bump n s)
@[simp] theorem plain_emit (o : Output) (s : State) : plain (emit o s) = plain s := plain_base (base_emit o s)
@[simp] theorem plain_forward (x : LockInput) (s : State) : plain (forward x s) = plain s := plain_base (base_forward x s)
@[simp] theorem plain_setCause (c b i : Nat) (s : State) : plain (setCause c b i s) = plain s := plain_base (base_setCause c b i s)
@[simp] theorem plain_openOcc (c : Nat) (d : Int) (s : State) : plain (openOcc c d s) = plain s := by
  unfold openOcc; dsimp only; split
  · rw [plain_updScore]
  · split <;> rw [plain_updScore]
@[simp] theorem plain_occur (c : Nat) (d : Int) (s : State) : plain (occur c d s) = plain s := by
  unfold occur; dsimp only
  repeat' split
  all_goals simp only [plain_updScore, plain_openOcc, plain_bump, plain_setCause, plain_forward]
@[simp] theorem plain_raiseIdx (c b i : Nat) (s : State) : plain (raiseIdx c b i s) = plain s := by
  unfold raiseIdx; dsimp only; split
  · rw [plain_occur, plain_setCause]
  · rw [plain_setCause]
@[simp] theorem plain_raise (c b : Nat) (s : State) : plain (raise c b s) = plain s := plain_raiseIdx c b 0 s

end Sys2Proof.Machine
end

