-- ==== Sys2Proof/Laws/Fields.lean ====
section
/-! SUPPORT. The fields of the state after the operations that raise causes and take Scorecard values: each holds what it held. -/
namespace Sys2Proof.Machine
open Sys2Proof Host

/-- States that agree but for bookkeeping agree in every other field. -/
theorem pending_of_plain {s t : State} (h : plain t = plain s) : t.pending = s.pending := by
  have e : (plain t).pending = (plain s).pending := by rw [h]
  exact e
theorem now_of_plain {s t : State} (h : plain t = plain s) : t.now = s.now := by
  have e : (plain t).now = (plain s).now := by rw [h]
  exact e
theorem free_of_plain {s t : State} (h : plain t = plain s) : t.free = s.free := by
  have e : (plain t).free = (plain s).free := by rw [h]
  exact e

theorem time_of_plain {s t : State} (h : plain t = plain s) : t.time = s.time := by
  have e : (plain t).time = (plain s).time := by rw [h]
  exact e
theorem incSum_of_plain {s t : State} (h : plain t = plain s) : t.incSum = s.incSum := by
  have e : (plain t).incSum = (plain s).incSum := by rw [h]
  exact e
theorem boot_of_plain {s t : State} (h : plain t = plain s) : t.boot = s.boot := by
  have e : (plain t).boot = (plain s).boot := by rw [h]
  exact e
theorem root_of_plain {s t : State} (h : plain t = plain s) : t.root = s.root := by
  have e : (plain t).root = (plain s).root := by rw [h]
  exact e
theorem refs_of_plain {s t : State} (h : plain t = plain s) : t.refs = s.refs := by
  have e : (plain t).refs = (plain s).refs := by rw [h]
  exact e
theorem sels_of_plain {s t : State} (h : plain t = plain s) : t.sels = s.sels := by
  have e : (plain t).sels = (plain s).sels := by rw [h]
  exact e
theorem dplls_of_plain {s t : State} (h : plain t = plain s) : t.dplls = s.dplls := by
  have e : (plain t).dplls = (plain s).dplls := by rw [h]
  exact e
theorem hold_of_plain {s t : State} (h : plain t = plain s) : t.hold = s.hold := by
  have e : (plain t).hold = (plain s).hold := by rw [h]
  exact e
theorem meld_of_plain {s t : State} (h : plain t = plain s) : t.meld = s.meld := by
  have e : (plain t).meld = (plain s).meld := by rw [h]
  exact e
theorem meldBefore_of_plain {s t : State} (h : plain t = plain s) : t.meldBefore = s.meldBefore := by
  have e : (plain t).meldBefore = (plain s).meldBefore := by rw [h]
  exact e
theorem bound_of_plain {s t : State} (h : plain t = plain s) : t.bound = s.bound := by
  have e : (plain t).bound = (plain s).bound := by rw [h]
  exact e
theorem pair_of_plain {s t : State} (h : plain t = plain s) : t.pair = s.pair := by
  have e : (plain t).pair = (plain s).pair := by rw [h]
  exact e
theorem gnss_of_plain {s t : State} (h : plain t = plain s) : t.gnss = s.gnss := by
  have e : (plain t).gnss = (plain s).gnss := by rw [h]
  exact e
theorem outs_of_plain {s t : State} (h : plain t = plain s) : t.outs = s.outs := by
  have e : (plain t).outs = (plain s).outs := by rw [h]
  exact e
theorem tdc_of_plain {s t : State} (h : plain t = plain s) : t.tdc = s.tdc := by
  have e : (plain t).tdc = (plain s).tdc := by rw [h]
  exact e
theorem ports_of_plain {s t : State} (h : plain t = plain s) : t.ports = s.ports := by
  have e : (plain t).ports = (plain s).ports := by rw [h]
  exact e
theorem svc_of_plain {s t : State} (h : plain t = plain s) : t.svc = s.svc := by
  have e : (plain t).svc = (plain s).svc := by rw [h]
  exact e
theorem ptp_of_plain {s t : State} (h : plain t = plain s) : t.ptp = s.ptp := by
  have e : (plain t).ptp = (plain s).ptp := by rw [h]
  exact e
theorem ntp_of_plain {s t : State} (h : plain t = plain s) : t.ntp = s.ntp := by
  have e : (plain t).ntp = (plain s).ntp := by rw [h]
  exact e
theorem kitty_of_plain {s t : State} (h : plain t = plain s) : t.kitty = s.kitty := by
  have e : (plain t).kitty = (plain s).kitty := by rw [h]
  exact e
theorem fuse_of_plain {s t : State} (h : plain t = plain s) : t.fuse = s.fuse := by
  have e : (plain t).fuse = (plain s).fuse := by rw [h]
  exact e
theorem attest_of_plain {s t : State} (h : plain t = plain s) : t.attest = s.attest := by
  have e : (plain t).attest = (plain s).attest := by rw [h]
  exact e
theorem aud_of_plain {s t : State} (h : plain t = plain s) : t.aud = s.aud := by
  have e : (plain t).aud = (plain s).aud := by rw [h]
  exact e
theorem flash_of_plain {s t : State} (h : plain t = plain s) : t.flash = s.flash := by
  have e : (plain t).flash = (plain s).flash := by rw [h]
  exact e
theorem hand_of_plain {s t : State} (h : plain t = plain s) : t.hand = s.hand := by
  have e : (plain t).hand = (plain s).hand := by rw [h]
  exact e
theorem shadow_of_plain {s t : State} (h : plain t = plain s) : t.shadow = s.shadow := by
  have e : (plain t).shadow = (plain s).shadow := by rw [h]
  exact e
theorem work_of_plain {s t : State} (h : plain t = plain s) : t.work = s.work := by
  have e : (plain t).work = (plain s).work := by rw [h]
  exact e
@[simp] theorem raise_pending (c b : Nat) (s : State) : (raise c b s).pending = s.pending := pending_of_plain (plain_raise c b s)
@[simp] theorem raise_now (c b : Nat) (s : State) : (raise c b s).now = s.now := now_of_plain (plain_raise c b s)
@[simp] theorem raise_free (c b : Nat) (s : State) : (raise c b s).free = s.free := free_of_plain (plain_raise c b s)
@[simp] theorem raise_time (c b : Nat) (s : State) : (raise c b s).time = s.time := time_of_plain (plain_raise c b s)
@[simp] theorem raise_incSum (c b : Nat) (s : State) : (raise c b s).incSum = s.incSum := incSum_of_plain (plain_raise c b s)
@[simp] theorem raise_boot (c b : Nat) (s : State) : (raise c b s).boot = s.boot := boot_of_plain (plain_raise c b s)
@[simp] theorem raise_root (c b : Nat) (s : State) : (raise c b s).root = s.root := root_of_plain (plain_raise c b s)
@[simp] theorem raise_refs (c b : Nat) (s : State) : (raise c b s).refs = s.refs := refs_of_plain (plain_raise c b s)
@[simp] theorem raise_sels (c b : Nat) (s : State) : (raise c b s).sels = s.sels := sels_of_plain (plain_raise c b s)
@[simp] theorem raise_dplls (c b : Nat) (s : State) : (raise c b s).dplls = s.dplls := dplls_of_plain (plain_raise c b s)
@[simp] theorem raise_hold (c b : Nat) (s : State) : (raise c b s).hold = s.hold := hold_of_plain (plain_raise c b s)
@[simp] theorem raise_meld (c b : Nat) (s : State) : (raise c b s).meld = s.meld := meld_of_plain (plain_raise c b s)
@[simp] theorem raise_meldBefore (c b : Nat) (s : State) : (raise c b s).meldBefore = s.meldBefore := meldBefore_of_plain (plain_raise c b s)
@[simp] theorem raise_bound (c b : Nat) (s : State) : (raise c b s).bound = s.bound := bound_of_plain (plain_raise c b s)
@[simp] theorem raise_pair (c b : Nat) (s : State) : (raise c b s).pair = s.pair := pair_of_plain (plain_raise c b s)
@[simp] theorem raise_gnss (c b : Nat) (s : State) : (raise c b s).gnss = s.gnss := gnss_of_plain (plain_raise c b s)
@[simp] theorem raise_outs (c b : Nat) (s : State) : (raise c b s).outs = s.outs := outs_of_plain (plain_raise c b s)
@[simp] theorem raise_tdc (c b : Nat) (s : State) : (raise c b s).tdc = s.tdc := tdc_of_plain (plain_raise c b s)
@[simp] theorem raise_ports (c b : Nat) (s : State) : (raise c b s).ports = s.ports := ports_of_plain (plain_raise c b s)
@[simp] theorem raise_svc (c b : Nat) (s : State) : (raise c b s).svc = s.svc := svc_of_plain (plain_raise c b s)
@[simp] theorem raise_ptp (c b : Nat) (s : State) : (raise c b s).ptp = s.ptp := ptp_of_plain (plain_raise c b s)
@[simp] theorem raise_ntp (c b : Nat) (s : State) : (raise c b s).ntp = s.ntp := ntp_of_plain (plain_raise c b s)
@[simp] theorem raise_kitty (c b : Nat) (s : State) : (raise c b s).kitty = s.kitty := kitty_of_plain (plain_raise c b s)
@[simp] theorem raise_fuse (c b : Nat) (s : State) : (raise c b s).fuse = s.fuse := fuse_of_plain (plain_raise c b s)
@[simp] theorem raise_attest (c b : Nat) (s : State) : (raise c b s).attest = s.attest := attest_of_plain (plain_raise c b s)
@[simp] theorem raise_aud (c b : Nat) (s : State) : (raise c b s).aud = s.aud := aud_of_plain (plain_raise c b s)
@[simp] theorem raise_flash (c b : Nat) (s : State) : (raise c b s).flash = s.flash := flash_of_plain (plain_raise c b s)
@[simp] theorem raise_hand (c b : Nat) (s : State) : (raise c b s).hand = s.hand := hand_of_plain (plain_raise c b s)
@[simp] theorem raise_shadow (c b : Nat) (s : State) : (raise c b s).shadow = s.shadow := shadow_of_plain (plain_raise c b s)
@[simp] theorem raise_work (c b : Nat) (s : State) : (raise c b s).work = s.work := work_of_plain (plain_raise c b s)
@[simp] theorem raiseIdx_pending (c b i : Nat) (s : State) : (raiseIdx c b i s).pending = s.pending := pending_of_plain (plain_raiseIdx c b i s)
@[simp] theorem raiseIdx_now (c b i : Nat) (s : State) : (raiseIdx c b i s).now = s.now := now_of_plain (plain_raiseIdx c b i s)
@[simp] theorem raiseIdx_free (c b i : Nat) (s : State) : (raiseIdx c b i s).free = s.free := free_of_plain (plain_raiseIdx c b i s)
@[simp] theorem raiseIdx_time (c b i : Nat) (s : State) : (raiseIdx c b i s).time = s.time := time_of_plain (plain_raiseIdx c b i s)
@[simp] theorem raiseIdx_incSum (c b i : Nat) (s : State) : (raiseIdx c b i s).incSum = s.incSum := incSum_of_plain (plain_raiseIdx c b i s)
@[simp] theorem raiseIdx_boot (c b i : Nat) (s : State) : (raiseIdx c b i s).boot = s.boot := boot_of_plain (plain_raiseIdx c b i s)
@[simp] theorem raiseIdx_root (c b i : Nat) (s : State) : (raiseIdx c b i s).root = s.root := root_of_plain (plain_raiseIdx c b i s)
@[simp] theorem raiseIdx_refs (c b i : Nat) (s : State) : (raiseIdx c b i s).refs = s.refs := refs_of_plain (plain_raiseIdx c b i s)
@[simp] theorem raiseIdx_sels (c b i : Nat) (s : State) : (raiseIdx c b i s).sels = s.sels := sels_of_plain (plain_raiseIdx c b i s)
@[simp] theorem raiseIdx_dplls (c b i : Nat) (s : State) : (raiseIdx c b i s).dplls = s.dplls := dplls_of_plain (plain_raiseIdx c b i s)
@[simp] theorem raiseIdx_hold (c b i : Nat) (s : State) : (raiseIdx c b i s).hold = s.hold := hold_of_plain (plain_raiseIdx c b i s)
@[simp] theorem raiseIdx_meld (c b i : Nat) (s : State) : (raiseIdx c b i s).meld = s.meld := meld_of_plain (plain_raiseIdx c b i s)
@[simp] theorem raiseIdx_meldBefore (c b i : Nat) (s : State) : (raiseIdx c b i s).meldBefore = s.meldBefore := meldBefore_of_plain (plain_raiseIdx c b i s)
@[simp] theorem raiseIdx_bound (c b i : Nat) (s : State) : (raiseIdx c b i s).bound = s.bound := bound_of_plain (plain_raiseIdx c b i s)
@[simp] theorem raiseIdx_pair (c b i : Nat) (s : State) : (raiseIdx c b i s).pair = s.pair := pair_of_plain (plain_raiseIdx c b i s)
@[simp] theorem raiseIdx_gnss (c b i : Nat) (s : State) : (raiseIdx c b i s).gnss = s.gnss := gnss_of_plain (plain_raiseIdx c b i s)
@[simp] theorem raiseIdx_outs (c b i : Nat) (s : State) : (raiseIdx c b i s).outs = s.outs := outs_of_plain (plain_raiseIdx c b i s)
@[simp] theorem raiseIdx_tdc (c b i : Nat) (s : State) : (raiseIdx c b i s).tdc = s.tdc := tdc_of_plain (plain_raiseIdx c b i s)
@[simp] theorem raiseIdx_ports (c b i : Nat) (s : State) : (raiseIdx c b i s).ports = s.ports := ports_of_plain (plain_raiseIdx c b i s)
@[simp] theorem raiseIdx_svc (c b i : Nat) (s : State) : (raiseIdx c b i s).svc = s.svc := svc_of_plain (plain_raiseIdx c b i s)
@[simp] theorem raiseIdx_ptp (c b i : Nat) (s : State) : (raiseIdx c b i s).ptp = s.ptp := ptp_of_plain (plain_raiseIdx c b i s)
@[simp] theorem raiseIdx_ntp (c b i : Nat) (s : State) : (raiseIdx c b i s).ntp = s.ntp := ntp_of_plain (plain_raiseIdx c b i s)
@[simp] theorem raiseIdx_kitty (c b i : Nat) (s : State) : (raiseIdx c b i s).kitty = s.kitty := kitty_of_plain (plain_raiseIdx c b i s)
@[simp] theorem raiseIdx_fuse (c b i : Nat) (s : State) : (raiseIdx c b i s).fuse = s.fuse := fuse_of_plain (plain_raiseIdx c b i s)
@[simp] theorem raiseIdx_attest (c b i : Nat) (s : State) : (raiseIdx c b i s).attest = s.attest := attest_of_plain (plain_raiseIdx c b i s)
@[simp] theorem raiseIdx_aud (c b i : Nat) (s : State) : (raiseIdx c b i s).aud = s.aud := aud_of_plain (plain_raiseIdx c b i s)
@[simp] theorem raiseIdx_flash (c b i : Nat) (s : State) : (raiseIdx c b i s).flash = s.flash := flash_of_plain (plain_raiseIdx c b i s)
@[simp] theorem raiseIdx_hand (c b i : Nat) (s : State) : (raiseIdx c b i s).hand = s.hand := hand_of_plain (plain_raiseIdx c b i s)
@[simp] theorem raiseIdx_shadow (c b i : Nat) (s : State) : (raiseIdx c b i s).shadow = s.shadow := shadow_of_plain (plain_raiseIdx c b i s)
@[simp] theorem raiseIdx_work (c b i : Nat) (s : State) : (raiseIdx c b i s).work = s.work := work_of_plain (plain_raiseIdx c b i s)
@[simp] theorem setCause_pending (c b i : Nat) (s : State) : (setCause c b i s).pending = s.pending := pending_of_plain (plain_setCause c b i s)
@[simp] theorem setCause_now (c b i : Nat) (s : State) : (setCause c b i s).now = s.now := now_of_plain (plain_setCause c b i s)
@[simp] theorem setCause_free (c b i : Nat) (s : State) : (setCause c b i s).free = s.free := free_of_plain (plain_setCause c b i s)
@[simp] theorem setCause_time (c b i : Nat) (s : State) : (setCause c b i s).time = s.time := time_of_plain (plain_setCause c b i s)
@[simp] theorem setCause_incSum (c b i : Nat) (s : State) : (setCause c b i s).incSum = s.incSum := incSum_of_plain (plain_setCause c b i s)
@[simp] theorem setCause_boot (c b i : Nat) (s : State) : (setCause c b i s).boot = s.boot := boot_of_plain (plain_setCause c b i s)
@[simp] theorem setCause_root (c b i : Nat) (s : State) : (setCause c b i s).root = s.root := root_of_plain (plain_setCause c b i s)
@[simp] theorem setCause_refs (c b i : Nat) (s : State) : (setCause c b i s).refs = s.refs := refs_of_plain (plain_setCause c b i s)
@[simp] theorem setCause_sels (c b i : Nat) (s : State) : (setCause c b i s).sels = s.sels := sels_of_plain (plain_setCause c b i s)
@[simp] theorem setCause_dplls (c b i : Nat) (s : State) : (setCause c b i s).dplls = s.dplls := dplls_of_plain (plain_setCause c b i s)
@[simp] theorem setCause_hold (c b i : Nat) (s : State) : (setCause c b i s).hold = s.hold := hold_of_plain (plain_setCause c b i s)
@[simp] theorem setCause_meld (c b i : Nat) (s : State) : (setCause c b i s).meld = s.meld := meld_of_plain (plain_setCause c b i s)
@[simp] theorem setCause_meldBefore (c b i : Nat) (s : State) : (setCause c b i s).meldBefore = s.meldBefore := meldBefore_of_plain (plain_setCause c b i s)
@[simp] theorem setCause_bound (c b i : Nat) (s : State) : (setCause c b i s).bound = s.bound := bound_of_plain (plain_setCause c b i s)
@[simp] theorem setCause_pair (c b i : Nat) (s : State) : (setCause c b i s).pair = s.pair := pair_of_plain (plain_setCause c b i s)
@[simp] theorem setCause_gnss (c b i : Nat) (s : State) : (setCause c b i s).gnss = s.gnss := gnss_of_plain (plain_setCause c b i s)
@[simp] theorem setCause_outs (c b i : Nat) (s : State) : (setCause c b i s).outs = s.outs := outs_of_plain (plain_setCause c b i s)
@[simp] theorem setCause_tdc (c b i : Nat) (s : State) : (setCause c b i s).tdc = s.tdc := tdc_of_plain (plain_setCause c b i s)
@[simp] theorem setCause_ports (c b i : Nat) (s : State) : (setCause c b i s).ports = s.ports := ports_of_plain (plain_setCause c b i s)
@[simp] theorem setCause_svc (c b i : Nat) (s : State) : (setCause c b i s).svc = s.svc := svc_of_plain (plain_setCause c b i s)
@[simp] theorem setCause_ptp (c b i : Nat) (s : State) : (setCause c b i s).ptp = s.ptp := ptp_of_plain (plain_setCause c b i s)
@[simp] theorem setCause_ntp (c b i : Nat) (s : State) : (setCause c b i s).ntp = s.ntp := ntp_of_plain (plain_setCause c b i s)
@[simp] theorem setCause_kitty (c b i : Nat) (s : State) : (setCause c b i s).kitty = s.kitty := kitty_of_plain (plain_setCause c b i s)
@[simp] theorem setCause_fuse (c b i : Nat) (s : State) : (setCause c b i s).fuse = s.fuse := fuse_of_plain (plain_setCause c b i s)
@[simp] theorem setCause_attest (c b i : Nat) (s : State) : (setCause c b i s).attest = s.attest := attest_of_plain (plain_setCause c b i s)
@[simp] theorem setCause_aud (c b i : Nat) (s : State) : (setCause c b i s).aud = s.aud := aud_of_plain (plain_setCause c b i s)
@[simp] theorem setCause_flash (c b i : Nat) (s : State) : (setCause c b i s).flash = s.flash := flash_of_plain (plain_setCause c b i s)
@[simp] theorem setCause_hand (c b i : Nat) (s : State) : (setCause c b i s).hand = s.hand := hand_of_plain (plain_setCause c b i s)
@[simp] theorem setCause_shadow (c b i : Nat) (s : State) : (setCause c b i s).shadow = s.shadow := shadow_of_plain (plain_setCause c b i s)
@[simp] theorem setCause_work (c b i : Nat) (s : State) : (setCause c b i s).work = s.work := work_of_plain (plain_setCause c b i s)
@[simp] theorem occur_pending (c : Nat) (d : Int) (s : State) : (occur c d s).pending = s.pending := pending_of_plain (plain_occur c d s)
@[simp] theorem occur_now (c : Nat) (d : Int) (s : State) : (occur c d s).now = s.now := now_of_plain (plain_occur c d s)
@[simp] theorem occur_free (c : Nat) (d : Int) (s : State) : (occur c d s).free = s.free := free_of_plain (plain_occur c d s)
@[simp] theorem occur_time (c : Nat) (d : Int) (s : State) : (occur c d s).time = s.time := time_of_plain (plain_occur c d s)
@[simp] theorem occur_incSum (c : Nat) (d : Int) (s : State) : (occur c d s).incSum = s.incSum := incSum_of_plain (plain_occur c d s)
@[simp] theorem occur_boot (c : Nat) (d : Int) (s : State) : (occur c d s).boot = s.boot := boot_of_plain (plain_occur c d s)
@[simp] theorem occur_root (c : Nat) (d : Int) (s : State) : (occur c d s).root = s.root := root_of_plain (plain_occur c d s)
@[simp] theorem occur_refs (c : Nat) (d : Int) (s : State) : (occur c d s).refs = s.refs := refs_of_plain (plain_occur c d s)
@[simp] theorem occur_sels (c : Nat) (d : Int) (s : State) : (occur c d s).sels = s.sels := sels_of_plain (plain_occur c d s)
@[simp] theorem occur_dplls (c : Nat) (d : Int) (s : State) : (occur c d s).dplls = s.dplls := dplls_of_plain (plain_occur c d s)
@[simp] theorem occur_hold (c : Nat) (d : Int) (s : State) : (occur c d s).hold = s.hold := hold_of_plain (plain_occur c d s)
@[simp] theorem occur_meld (c : Nat) (d : Int) (s : State) : (occur c d s).meld = s.meld := meld_of_plain (plain_occur c d s)
@[simp] theorem occur_meldBefore (c : Nat) (d : Int) (s : State) : (occur c d s).meldBefore = s.meldBefore := meldBefore_of_plain (plain_occur c d s)
@[simp] theorem occur_bound (c : Nat) (d : Int) (s : State) : (occur c d s).bound = s.bound := bound_of_plain (plain_occur c d s)
@[simp] theorem occur_pair (c : Nat) (d : Int) (s : State) : (occur c d s).pair = s.pair := pair_of_plain (plain_occur c d s)
@[simp] theorem occur_gnss (c : Nat) (d : Int) (s : State) : (occur c d s).gnss = s.gnss := gnss_of_plain (plain_occur c d s)
@[simp] theorem occur_outs (c : Nat) (d : Int) (s : State) : (occur c d s).outs = s.outs := outs_of_plain (plain_occur c d s)
@[simp] theorem occur_tdc (c : Nat) (d : Int) (s : State) : (occur c d s).tdc = s.tdc := tdc_of_plain (plain_occur c d s)
@[simp] theorem occur_ports (c : Nat) (d : Int) (s : State) : (occur c d s).ports = s.ports := ports_of_plain (plain_occur c d s)
@[simp] theorem occur_svc (c : Nat) (d : Int) (s : State) : (occur c d s).svc = s.svc := svc_of_plain (plain_occur c d s)
@[simp] theorem occur_ptp (c : Nat) (d : Int) (s : State) : (occur c d s).ptp = s.ptp := ptp_of_plain (plain_occur c d s)
@[simp] theorem occur_ntp (c : Nat) (d : Int) (s : State) : (occur c d s).ntp = s.ntp := ntp_of_plain (plain_occur c d s)
@[simp] theorem occur_kitty (c : Nat) (d : Int) (s : State) : (occur c d s).kitty = s.kitty := kitty_of_plain (plain_occur c d s)
@[simp] theorem occur_fuse (c : Nat) (d : Int) (s : State) : (occur c d s).fuse = s.fuse := fuse_of_plain (plain_occur c d s)
@[simp] theorem occur_attest (c : Nat) (d : Int) (s : State) : (occur c d s).attest = s.attest := attest_of_plain (plain_occur c d s)
@[simp] theorem occur_aud (c : Nat) (d : Int) (s : State) : (occur c d s).aud = s.aud := aud_of_plain (plain_occur c d s)
@[simp] theorem occur_flash (c : Nat) (d : Int) (s : State) : (occur c d s).flash = s.flash := flash_of_plain (plain_occur c d s)
@[simp] theorem occur_hand (c : Nat) (d : Int) (s : State) : (occur c d s).hand = s.hand := hand_of_plain (plain_occur c d s)
@[simp] theorem occur_shadow (c : Nat) (d : Int) (s : State) : (occur c d s).shadow = s.shadow := shadow_of_plain (plain_occur c d s)
@[simp] theorem occur_work (c : Nat) (d : Int) (s : State) : (occur c d s).work = s.work := work_of_plain (plain_occur c d s)
@[simp] theorem noteRate_pending (k : Nat) (s : State) : (noteRate k s).pending = s.pending := pending_of_plain (plain_noteRate k s)
@[simp] theorem noteRate_now (k : Nat) (s : State) : (noteRate k s).now = s.now := now_of_plain (plain_noteRate k s)
@[simp] theorem noteRate_free (k : Nat) (s : State) : (noteRate k s).free = s.free := free_of_plain (plain_noteRate k s)
@[simp] theorem noteRate_time (k : Nat) (s : State) : (noteRate k s).time = s.time := time_of_plain (plain_noteRate k s)
@[simp] theorem noteRate_incSum (k : Nat) (s : State) : (noteRate k s).incSum = s.incSum := incSum_of_plain (plain_noteRate k s)
@[simp] theorem noteRate_boot (k : Nat) (s : State) : (noteRate k s).boot = s.boot := boot_of_plain (plain_noteRate k s)
@[simp] theorem noteRate_root (k : Nat) (s : State) : (noteRate k s).root = s.root := root_of_plain (plain_noteRate k s)
@[simp] theorem noteRate_refs (k : Nat) (s : State) : (noteRate k s).refs = s.refs := refs_of_plain (plain_noteRate k s)
@[simp] theorem noteRate_sels (k : Nat) (s : State) : (noteRate k s).sels = s.sels := sels_of_plain (plain_noteRate k s)
@[simp] theorem noteRate_dplls (k : Nat) (s : State) : (noteRate k s).dplls = s.dplls := dplls_of_plain (plain_noteRate k s)
@[simp] theorem noteRate_hold (k : Nat) (s : State) : (noteRate k s).hold = s.hold := hold_of_plain (plain_noteRate k s)
@[simp] theorem noteRate_meld (k : Nat) (s : State) : (noteRate k s).meld = s.meld := meld_of_plain (plain_noteRate k s)
@[simp] theorem noteRate_meldBefore (k : Nat) (s : State) : (noteRate k s).meldBefore = s.meldBefore := meldBefore_of_plain (plain_noteRate k s)
@[simp] theorem noteRate_bound (k : Nat) (s : State) : (noteRate k s).bound = s.bound := bound_of_plain (plain_noteRate k s)
@[simp] theorem noteRate_pair (k : Nat) (s : State) : (noteRate k s).pair = s.pair := pair_of_plain (plain_noteRate k s)
@[simp] theorem noteRate_gnss (k : Nat) (s : State) : (noteRate k s).gnss = s.gnss := gnss_of_plain (plain_noteRate k s)
@[simp] theorem noteRate_outs (k : Nat) (s : State) : (noteRate k s).outs = s.outs := outs_of_plain (plain_noteRate k s)
@[simp] theorem noteRate_tdc (k : Nat) (s : State) : (noteRate k s).tdc = s.tdc := tdc_of_plain (plain_noteRate k s)
@[simp] theorem noteRate_ports (k : Nat) (s : State) : (noteRate k s).ports = s.ports := ports_of_plain (plain_noteRate k s)
@[simp] theorem noteRate_svc (k : Nat) (s : State) : (noteRate k s).svc = s.svc := svc_of_plain (plain_noteRate k s)
@[simp] theorem noteRate_ptp (k : Nat) (s : State) : (noteRate k s).ptp = s.ptp := ptp_of_plain (plain_noteRate k s)
@[simp] theorem noteRate_ntp (k : Nat) (s : State) : (noteRate k s).ntp = s.ntp := ntp_of_plain (plain_noteRate k s)
@[simp] theorem noteRate_kitty (k : Nat) (s : State) : (noteRate k s).kitty = s.kitty := kitty_of_plain (plain_noteRate k s)
@[simp] theorem noteRate_fuse (k : Nat) (s : State) : (noteRate k s).fuse = s.fuse := fuse_of_plain (plain_noteRate k s)
@[simp] theorem noteRate_attest (k : Nat) (s : State) : (noteRate k s).attest = s.attest := attest_of_plain (plain_noteRate k s)
@[simp] theorem noteRate_aud (k : Nat) (s : State) : (noteRate k s).aud = s.aud := aud_of_plain (plain_noteRate k s)
@[simp] theorem noteRate_flash (k : Nat) (s : State) : (noteRate k s).flash = s.flash := flash_of_plain (plain_noteRate k s)
@[simp] theorem noteRate_hand (k : Nat) (s : State) : (noteRate k s).hand = s.hand := hand_of_plain (plain_noteRate k s)
@[simp] theorem noteRate_shadow (k : Nat) (s : State) : (noteRate k s).shadow = s.shadow := shadow_of_plain (plain_noteRate k s)
@[simp] theorem noteRate_work (k : Nat) (s : State) : (noteRate k s).work = s.work := work_of_plain (plain_noteRate k s)
@[simp] theorem addSample_pending (c : Nat) (v : Int) (s : State) : (addSample c v s).pending = s.pending := pending_of_plain (plain_addSample c v s)
@[simp] theorem addSample_now (c : Nat) (v : Int) (s : State) : (addSample c v s).now = s.now := now_of_plain (plain_addSample c v s)
@[simp] theorem addSample_free (c : Nat) (v : Int) (s : State) : (addSample c v s).free = s.free := free_of_plain (plain_addSample c v s)
@[simp] theorem addSample_time (c : Nat) (v : Int) (s : State) : (addSample c v s).time = s.time := time_of_plain (plain_addSample c v s)
@[simp] theorem addSample_incSum (c : Nat) (v : Int) (s : State) : (addSample c v s).incSum = s.incSum := incSum_of_plain (plain_addSample c v s)
@[simp] theorem addSample_boot (c : Nat) (v : Int) (s : State) : (addSample c v s).boot = s.boot := boot_of_plain (plain_addSample c v s)
@[simp] theorem addSample_root (c : Nat) (v : Int) (s : State) : (addSample c v s).root = s.root := root_of_plain (plain_addSample c v s)
@[simp] theorem addSample_refs (c : Nat) (v : Int) (s : State) : (addSample c v s).refs = s.refs := refs_of_plain (plain_addSample c v s)
@[simp] theorem addSample_sels (c : Nat) (v : Int) (s : State) : (addSample c v s).sels = s.sels := sels_of_plain (plain_addSample c v s)
@[simp] theorem addSample_dplls (c : Nat) (v : Int) (s : State) : (addSample c v s).dplls = s.dplls := dplls_of_plain (plain_addSample c v s)
@[simp] theorem addSample_hold (c : Nat) (v : Int) (s : State) : (addSample c v s).hold = s.hold := hold_of_plain (plain_addSample c v s)
@[simp] theorem addSample_meld (c : Nat) (v : Int) (s : State) : (addSample c v s).meld = s.meld := meld_of_plain (plain_addSample c v s)
@[simp] theorem addSample_meldBefore (c : Nat) (v : Int) (s : State) : (addSample c v s).meldBefore = s.meldBefore := meldBefore_of_plain (plain_addSample c v s)
@[simp] theorem addSample_bound (c : Nat) (v : Int) (s : State) : (addSample c v s).bound = s.bound := bound_of_plain (plain_addSample c v s)
@[simp] theorem addSample_pair (c : Nat) (v : Int) (s : State) : (addSample c v s).pair = s.pair := pair_of_plain (plain_addSample c v s)
@[simp] theorem addSample_gnss (c : Nat) (v : Int) (s : State) : (addSample c v s).gnss = s.gnss := gnss_of_plain (plain_addSample c v s)
@[simp] theorem addSample_outs (c : Nat) (v : Int) (s : State) : (addSample c v s).outs = s.outs := outs_of_plain (plain_addSample c v s)
@[simp] theorem addSample_tdc (c : Nat) (v : Int) (s : State) : (addSample c v s).tdc = s.tdc := tdc_of_plain (plain_addSample c v s)
@[simp] theorem addSample_ports (c : Nat) (v : Int) (s : State) : (addSample c v s).ports = s.ports := ports_of_plain (plain_addSample c v s)
@[simp] theorem addSample_svc (c : Nat) (v : Int) (s : State) : (addSample c v s).svc = s.svc := svc_of_plain (plain_addSample c v s)
@[simp] theorem addSample_ptp (c : Nat) (v : Int) (s : State) : (addSample c v s).ptp = s.ptp := ptp_of_plain (plain_addSample c v s)
@[simp] theorem addSample_ntp (c : Nat) (v : Int) (s : State) : (addSample c v s).ntp = s.ntp := ntp_of_plain (plain_addSample c v s)
@[simp] theorem addSample_kitty (c : Nat) (v : Int) (s : State) : (addSample c v s).kitty = s.kitty := kitty_of_plain (plain_addSample c v s)
@[simp] theorem addSample_fuse (c : Nat) (v : Int) (s : State) : (addSample c v s).fuse = s.fuse := fuse_of_plain (plain_addSample c v s)
@[simp] theorem addSample_attest (c : Nat) (v : Int) (s : State) : (addSample c v s).attest = s.attest := attest_of_plain (plain_addSample c v s)
@[simp] theorem addSample_aud (c : Nat) (v : Int) (s : State) : (addSample c v s).aud = s.aud := aud_of_plain (plain_addSample c v s)
@[simp] theorem addSample_flash (c : Nat) (v : Int) (s : State) : (addSample c v s).flash = s.flash := flash_of_plain (plain_addSample c v s)
@[simp] theorem addSample_hand (c : Nat) (v : Int) (s : State) : (addSample c v s).hand = s.hand := hand_of_plain (plain_addSample c v s)
@[simp] theorem addSample_shadow (c : Nat) (v : Int) (s : State) : (addSample c v s).shadow = s.shadow := shadow_of_plain (plain_addSample c v s)
@[simp] theorem addSample_work (c : Nat) (v : Int) (s : State) : (addSample c v s).work = s.work := work_of_plain (plain_addSample c v s)
/-- The passing of time moves the clock, the time scale, the sum of increments and the operating time. -/
theorem moveTo_only (ps : Nat) (s : State) : ∃ n v c i, moveTo ps s = { s with now := n, time := v, score := c, incSum := i } := by
  unfold moveTo
  split
  · exact ⟨_, _, _, _, rfl⟩
  · split
    · exact ⟨_, _, _, _, rfl⟩
    · exact ⟨_, _, _, _, rfl⟩
@[simp] theorem moveTo_pending (ps : Nat) (s : State) : (moveTo ps s).pending = s.pending := by
  obtain ⟨n, v, c, i, e⟩ := moveTo_only ps s; rw [e]
@[simp] theorem begin_pending (ps : Nat) (s : State) : (begin_ ps s).pending = s.pending := moveTo_pending ps _
@[simp] theorem moveTo_free (ps : Nat) (s : State) : (moveTo ps s).free = s.free := by
  obtain ⟨n, v, c, i, e⟩ := moveTo_only ps s; rw [e]
@[simp] theorem begin_free (ps : Nat) (s : State) : (begin_ ps s).free = s.free := moveTo_free ps _
@[simp] theorem moveTo_host (ps : Nat) (s : State) : (moveTo ps s).host = s.host := by
  obtain ⟨n, v, c, i, e⟩ := moveTo_only ps s; rw [e]
@[simp] theorem begin_host (ps : Nat) (s : State) : (begin_ ps s).host = s.host := moveTo_host ps _
@[simp] theorem moveTo_boot (ps : Nat) (s : State) : (moveTo ps s).boot = s.boot := by
  obtain ⟨n, v, c, i, e⟩ := moveTo_only ps s; rw [e]
@[simp] theorem begin_boot (ps : Nat) (s : State) : (begin_ ps s).boot = s.boot := moveTo_boot ps _
@[simp] theorem moveTo_root (ps : Nat) (s : State) : (moveTo ps s).root = s.root := by
  obtain ⟨n, v, c, i, e⟩ := moveTo_only ps s; rw [e]
@[simp] theorem begin_root (ps : Nat) (s : State) : (begin_ ps s).root = s.root := moveTo_root ps _
@[simp] theorem moveTo_refs (ps : Nat) (s : State) : (moveTo ps s).refs = s.refs := by
  obtain ⟨n, v, c, i, e⟩ := moveTo_only ps s; rw [e]
@[simp] theorem begin_refs (ps : Nat) (s : State) : (begin_ ps s).refs = s.refs := moveTo_refs ps _
@[simp] theorem moveTo_sels (ps : Nat) (s : State) : (moveTo ps s).sels = s.sels := by
  obtain ⟨n, v, c, i, e⟩ := moveTo_only ps s; rw [e]
@[simp] theorem begin_sels (ps : Nat) (s : State) : (begin_ ps s).sels = s.sels := moveTo_sels ps _
@[simp] theorem moveTo_dplls (ps : Nat) (s : State) : (moveTo ps s).dplls = s.dplls := by
  obtain ⟨n, v, c, i, e⟩ := moveTo_only ps s; rw [e]
@[simp] theorem begin_dplls (ps : Nat) (s : State) : (begin_ ps s).dplls = s.dplls := moveTo_dplls ps _
@[simp] theorem moveTo_hold (ps : Nat) (s : State) : (moveTo ps s).hold = s.hold := by
  obtain ⟨n, v, c, i, e⟩ := moveTo_only ps s; rw [e]
@[simp] theorem begin_hold (ps : Nat) (s : State) : (begin_ ps s).hold = s.hold := moveTo_hold ps _
@[simp] theorem moveTo_meld (ps : Nat) (s : State) : (moveTo ps s).meld = s.meld := by
  obtain ⟨n, v, c, i, e⟩ := moveTo_only ps s; rw [e]
@[simp] theorem begin_meld (ps : Nat) (s : State) : (begin_ ps s).meld = s.meld := moveTo_meld ps _
@[simp] theorem moveTo_meldBefore (ps : Nat) (s : State) : (moveTo ps s).meldBefore = s.meldBefore := by
  obtain ⟨n, v, c, i, e⟩ := moveTo_only ps s; rw [e]
@[simp] theorem begin_meldBefore (ps : Nat) (s : State) : (begin_ ps s).meldBefore = s.meldBefore := moveTo_meldBefore ps _
@[simp] theorem moveTo_bound (ps : Nat) (s : State) : (moveTo ps s).bound = s.bound := by
  obtain ⟨n, v, c, i, e⟩ := moveTo_only ps s; rw [e]
@[simp] theorem begin_bound (ps : Nat) (s : State) : (begin_ ps s).bound = s.bound := moveTo_bound ps _
@[simp] theorem moveTo_pair (ps : Nat) (s : State) : (moveTo ps s).pair = s.pair := by
  obtain ⟨n, v, c, i, e⟩ := moveTo_only ps s; rw [e]
@[simp] theorem begin_pair (ps : Nat) (s : State) : (begin_ ps s).pair = s.pair := moveTo_pair ps _
@[simp] theorem moveTo_gnss (ps : Nat) (s : State) : (moveTo ps s).gnss = s.gnss := by
  obtain ⟨n, v, c, i, e⟩ := moveTo_only ps s; rw [e]
@[simp] theorem begin_gnss (ps : Nat) (s : State) : (begin_ ps s).gnss = s.gnss := moveTo_gnss ps _
@[simp] theorem moveTo_outs (ps : Nat) (s : State) : (moveTo ps s).outs = s.outs := by
  obtain ⟨n, v, c, i, e⟩ := moveTo_only ps s; rw [e]
@[simp] theorem begin_outs (ps : Nat) (s : State) : (begin_ ps s).outs = s.outs := moveTo_outs ps _
@[simp] theorem moveTo_tdc (ps : Nat) (s : State) : (moveTo ps s).tdc = s.tdc := by
  obtain ⟨n, v, c, i, e⟩ := moveTo_only ps s; rw [e]
@[simp] theorem begin_tdc (ps : Nat) (s : State) : (begin_ ps s).tdc = s.tdc := moveTo_tdc ps _
@[simp] theorem moveTo_ports (ps : Nat) (s : State) : (moveTo ps s).ports = s.ports := by
  obtain ⟨n, v, c, i, e⟩ := moveTo_only ps s; rw [e]
@[simp] theorem begin_ports (ps : Nat) (s : State) : (begin_ ps s).ports = s.ports := moveTo_ports ps _
@[simp] theorem moveTo_svc (ps : Nat) (s : State) : (moveTo ps s).svc = s.svc := by
  obtain ⟨n, v, c, i, e⟩ := moveTo_only ps s; rw [e]
@[simp] theorem begin_svc (ps : Nat) (s : State) : (begin_ ps s).svc = s.svc := moveTo_svc ps _
@[simp] theorem moveTo_ptp (ps : Nat) (s : State) : (moveTo ps s).ptp = s.ptp := by
  obtain ⟨n, v, c, i, e⟩ := moveTo_only ps s; rw [e]
@[simp] theorem begin_ptp (ps : Nat) (s : State) : (begin_ ps s).ptp = s.ptp := moveTo_ptp ps _
@[simp] theorem moveTo_ntp (ps : Nat) (s : State) : (moveTo ps s).ntp = s.ntp := by
  obtain ⟨n, v, c, i, e⟩ := moveTo_only ps s; rw [e]
@[simp] theorem begin_ntp (ps : Nat) (s : State) : (begin_ ps s).ntp = s.ntp := moveTo_ntp ps _
@[simp] theorem moveTo_kitty (ps : Nat) (s : State) : (moveTo ps s).kitty = s.kitty := by
  obtain ⟨n, v, c, i, e⟩ := moveTo_only ps s; rw [e]
@[simp] theorem begin_kitty (ps : Nat) (s : State) : (begin_ ps s).kitty = s.kitty := moveTo_kitty ps _
@[simp] theorem moveTo_fuse (ps : Nat) (s : State) : (moveTo ps s).fuse = s.fuse := by
  obtain ⟨n, v, c, i, e⟩ := moveTo_only ps s; rw [e]
@[simp] theorem begin_fuse (ps : Nat) (s : State) : (begin_ ps s).fuse = s.fuse := moveTo_fuse ps _
@[simp] theorem moveTo_attest (ps : Nat) (s : State) : (moveTo ps s).attest = s.attest := by
  obtain ⟨n, v, c, i, e⟩ := moveTo_only ps s; rw [e]
@[simp] theorem begin_attest (ps : Nat) (s : State) : (begin_ ps s).attest = s.attest := moveTo_attest ps _
@[simp] theorem moveTo_aud (ps : Nat) (s : State) : (moveTo ps s).aud = s.aud := by
  obtain ⟨n, v, c, i, e⟩ := moveTo_only ps s; rw [e]
@[simp] theorem begin_aud (ps : Nat) (s : State) : (begin_ ps s).aud = s.aud := moveTo_aud ps _
@[simp] theorem moveTo_flash (ps : Nat) (s : State) : (moveTo ps s).flash = s.flash := by
  obtain ⟨n, v, c, i, e⟩ := moveTo_only ps s; rw [e]
@[simp] theorem begin_flash (ps : Nat) (s : State) : (begin_ ps s).flash = s.flash := moveTo_flash ps _
@[simp] theorem moveTo_hand (ps : Nat) (s : State) : (moveTo ps s).hand = s.hand := by
  obtain ⟨n, v, c, i, e⟩ := moveTo_only ps s; rw [e]
@[simp] theorem begin_hand (ps : Nat) (s : State) : (begin_ ps s).hand = s.hand := moveTo_hand ps _
@[simp] theorem moveTo_perf (ps : Nat) (s : State) : (moveTo ps s).perf = s.perf := by
  obtain ⟨n, v, c, i, e⟩ := moveTo_only ps s; rw [e]
@[simp] theorem begin_perf (ps : Nat) (s : State) : (begin_ ps s).perf = s.perf := moveTo_perf ps _
@[simp] theorem moveTo_shadow (ps : Nat) (s : State) : (moveTo ps s).shadow = s.shadow := by
  obtain ⟨n, v, c, i, e⟩ := moveTo_only ps s; rw [e]
@[simp] theorem begin_shadow (ps : Nat) (s : State) : (begin_ ps s).shadow = s.shadow := moveTo_shadow ps _
@[simp] theorem moveTo_work (ps : Nat) (s : State) : (moveTo ps s).work = s.work := by
  obtain ⟨n, v, c, i, e⟩ := moveTo_only ps s; rw [e]
@[simp] theorem begin_work (ps : Nat) (s : State) : (begin_ ps s).work = s.work := moveTo_work ps _
@[simp] theorem running_moveTo (ps : Nat) (s : State) : running (moveTo ps s) = running s := by simp [running]
@[simp] theorem running_raise (c b : Nat) (s : State) : running (raise c b s) = running s := by simp [running]

@[simp] theorem raise_hostBase (c b : Nat) (s : State) : hostBase (raise c b s).host = hostBase s.host := by
  have e : (plain (raise c b s)).host = (plain s).host := by rw [plain_raise]
  exact e
@[simp] theorem raiseIdx_hostBase (c b i : Nat) (s : State) : hostBase (raiseIdx c b i s).host = hostBase s.host := by
  have e : (plain (raiseIdx c b i s)).host = (plain s).host := by rw [plain_raiseIdx]
  exact e
@[simp] theorem setCause_hostBase (c b i : Nat) (s : State) : hostBase (setCause c b i s).host = hostBase s.host := by
  have e : (plain (setCause c b i s)).host = (plain s).host := by rw [plain_setCause]
  exact e
@[simp] theorem occur_hostBase (c : Nat) (d : Int) (s : State) : hostBase (occur c d s).host = hostBase s.host := by
  have e : (plain (occur c d s)).host = (plain s).host := by rw [plain_occur]
  exact e
@[simp] theorem noteRate_hostBase (k : Nat) (s : State) : hostBase (noteRate k s).host = hostBase s.host := by
  have e : (plain (noteRate k s)).host = (plain s).host := by rw [plain_noteRate]
  exact e
@[simp] theorem addSample_hostBase (c : Nat) (v : Int) (s : State) : hostBase (addSample c v s).host = hostBase s.host := by
  have e : (plain (addSample c v s)).host = (plain s).host := by rw [plain_addSample]
  exact e

/-- Two states agree but for bookkeeping when every other field agrees. -/
theorem plain_ext {s t : State}
    (pending_ : t.pending = s.pending)
    (now_ : t.now = s.now)
    (free_ : t.free = s.free)
    (time_ : t.time = s.time)
    (incSum_ : t.incSum = s.incSum)
    (boot_ : t.boot = s.boot)
    (root_ : t.root = s.root)
    (refs_ : t.refs = s.refs)
    (sels_ : t.sels = s.sels)
    (dplls_ : t.dplls = s.dplls)
    (hold_ : t.hold = s.hold)
    (meld_ : t.meld = s.meld)
    (meldBefore_ : t.meldBefore = s.meldBefore)
    (bound_ : t.bound = s.bound)
    (pair_ : t.pair = s.pair)
    (gnss_ : t.gnss = s.gnss)
    (outs_ : t.outs = s.outs)
    (tdc_ : t.tdc = s.tdc)
    (ports_ : t.ports = s.ports)
    (svc_ : t.svc = s.svc)
    (ptp_ : t.ptp = s.ptp)
    (ntp_ : t.ntp = s.ntp)
    (kitty_ : t.kitty = s.kitty)
    (fuse_ : t.fuse = s.fuse)
    (attest_ : t.attest = s.attest)
    (aud_ : t.aud = s.aud)
    (flash_ : t.flash = s.flash)
    (hand_ : t.hand = s.hand)
    (shadow_ : t.shadow = s.shadow)
    (work_ : t.work = s.work)
    (host_ : hostBase t.host = hostBase s.host) : plain t = plain s := by
  cases s; cases t
  simp only at *
  subst pending_ now_ free_ time_ incSum_ boot_ root_ refs_ sels_ dplls_ hold_ meld_ meldBefore_ bound_ pair_ gnss_ outs_ tdc_ ports_ svc_ ptp_ ntp_ kitty_ fuse_ attest_ aud_ flash_ hand_ shadow_ work_
  unfold plain base
  rw [host_]

/-! ### Cause bits -/

theorem length_msixSend (s : State) : (msixSend s).host.cause = s.host.cause := by
  unfold msixSend; repeat' split
  all_goals rfl
theorem cause_irqEdge (b : Bool) (s : State) : (irqEdge b s).host.cause = s.host.cause := by
  unfold irqEdge; split
  · exact length_msixSend s
  · rfl
theorem cause_eventDue (e : EventDue) (s : State) : (eventDue e s).host.cause = s.host.cause := by
  unfold eventDue
  generalize List.range 32 = l
  induction l generalizing s with
  | nil => rfl
  | cons a l ih =>
    rw [List.foldl_cons, ih]
    dsimp only
    split <;> rfl

/-- Raising a condition sets its bit in its word, and clears none. -/
theorem cause_setCause (c b i : Nat) (s : State) : (setCause c b i s).host.cause = s.host.cause ∧ (s.host.cause.getD c 0).getLsbD b = true ∨
    (setCause c b i s).host.cause = upd s.host.cause c (· ||| BitVec.ofNat 32 (2 ^ b)) := by
  unfold setCause
  dsimp only
  split
  · rename_i h; exact .inl ⟨rfl, h⟩
  · rw [cause_irqEdge, cause_eventDue]; exact .inr rfl

theorem getD_upd (l : List Word) (c d : Nat) (w : Word) :
    (upd l c (· ||| w)).getD d 0 = if c = d ∧ d < l.length then l.getD d 0 ||| w else l.getD d 0 := by
  simp only [List.getD_eq_getElem?_getD, upd, List.getElem?_modify]
  by_cases h : d < l.length
  · simp only [List.getElem?_eq_getElem h, h, and_true]
    split <;> simp
  · rw [List.getElem?_eq_none (by omega)]; simp [h]

theorem stands_setCause_self (c b i : Nat) (s : State) (hb : b < 32) : causeStands c b (setCause c b i s) := by
  rcases cause_setCause c b i s with h | h
  · intro _; rw [h.1]; exact h.2
  · intro hl
    rw [h] at hl ⊢
    have hl' : c < s.host.cause.length := by simpa [upd] using hl
    rw [getD_upd, if_pos ⟨rfl, hl'⟩]
    simp only [BitVec.getLsbD_or, BitVec.getLsbD_ofNat, Nat.testBit_two_pow_self, hb, decide_true, Bool.and_self, Bool.or_true]

theorem stands_setCause {c b : Nat} {s : State} (c' b' i : Nat) (h : causeStands c b s) : causeStands c b (setCause c' b' i s) := by
  rcases cause_setCause c' b' i s with e | e
  · intro hl; rw [e.1] at hl ⊢; exact h hl
  · intro hl
    rw [e] at hl ⊢
    have hl' : c < s.host.cause.length := by simpa [upd] using hl
    rw [getD_upd]
    split
    · rw [BitVec.getLsbD_or, h hl', Bool.true_or]
    · exact h hl'

theorem cause_openOcc (c : Nat) (d : Int) (s : State) : (openOcc c d s).host.cause = s.host.cause := by
  unfold openOcc; dsimp only; repeat' split
  all_goals rfl
theorem host_forward (x : LockInput) (s : State) : (forward x s).host = s.host := by unfold forward; split <;> rfl
theorem host_forwardCommand (o : Nat) (q : Req) (s : State) : (forwardCommand o q s).host = s.host := by
  unfold forwardCommand; split <;> first | rfl | exact host_forward _ _
theorem stands_occur {c b : Nat} {s : State} (k : Nat) (d : Int) (h : causeStands c b s) : causeStands c b (occur k d s) := by
  unfold occur; dsimp only
  split
  · exact h
  have hy : causeStands c b (if pairCode k then forward (.occurrence k d) s else s) := by
    split
    · intro hl; rw [host_forward] at hl ⊢; exact h hl
    · exact h
  revert hy
  generalize (if pairCode k then forward (.occurrence k d) s else s) = y
  intro hy
  have ho : ∀ x : State, x.host.cause = y.host.cause → causeStands c b x := by
    intro x e hl; rw [e] at hl ⊢; exact hy hl
  repeat' split
  all_goals first
    | exact hy
    | exact ho _ (cause_openOcc _ _ _)
    | exact ho _ rfl
    | exact stands_setCause _ _ _ (ho _ rfl)
theorem stands_raiseIdx {c b : Nat} {s : State} (c' b' i : Nat) (h : causeStands c b s) : causeStands c b (raiseIdx c' b' i s) := by
  unfold raiseIdx; dsimp only; split
  · exact stands_occur _ _ (stands_setCause _ _ _ h)
  · exact stands_setCause _ _ _ h
theorem stands_raiseIdx_self (c b i : Nat) (s : State) (hb : b < 32) : causeStands c b (raiseIdx c b i s) := by
  unfold raiseIdx; dsimp only; split
  · exact stands_occur _ _ (stands_setCause_self c b i s hb)
  · exact stands_setCause_self c b i s hb
theorem stands_raise {c b : Nat} {s : State} (c' b' : Nat) (h : causeStands c b s) : causeStands c b (raise c' b' s) := stands_raiseIdx c' b' 0 h
theorem stands_raise_self (c b : Nat) (s : State) (hb : b < 32) : causeStands c b (raise c b s) := stands_raiseIdx_self c b 0 s hb
/-- The causes are as they were where the host part is. -/
theorem stands_host {c b : Nat} {s t : State} (e : t.host = s.host) (h : causeStands c b s) : causeStands c b t := by
  unfold causeStands at h ⊢; rw [e]; exact h

/-! ### Replies keep the cause bits that stand -/

theorem stands_of_cause {c b : Nat} {s t : State} (e : t.host.cause = s.host.cause) (h : causeStands c b s) : causeStands c b t := by
  unfold causeStands at h ⊢; rw [e]; exact h
theorem cause_setSecond (k i : Nat) (s : State) : (setSecond k i s).host.cause = s.host.cause := by
  unfold setSecond; dsimp only; rw [cause_irqEdge]; rfl
theorem cause_ringEvent (r : Nat) (s : State) : (ringEvent r s).host.cause = s.host.cause := by
  unfold ringEvent
  generalize secondOf r = p
  obtain ⟨k, i⟩ := p
  dsimp only
  split
  · split <;> rfl
  · split
    · exact cause_setSecond _ _ _
    · split <;> rfl
theorem cause_replyRingWrite (c : Nat) (e : Bytes) (s : State) : (replyRingWrite c e s).host.cause = s.host.cause := by
  unfold replyRingWrite
  dsimp only
  split
  · rw [cause_ringEvent]; rfl
  · rfl
theorem stands_mirrorMismatch {c b : Nat} {s : State} (o t st : Nat) (h : causeStands c b s) : causeStands c b (mirrorMismatch o t st s) := by
  unfold mirrorMismatch; exact stands_raise _ _ (stands_host rfl h)
theorem stands_foldl {α : Type} {c b : Nat} (f : State → α → State) (hf : ∀ x a, causeStands c b x → causeStands c b (f x a)) (l : List α) {s : State}
    (h : causeStands c b s) : causeStands c b (l.foldl f s) := by
  induction l generalizing s with
  | nil => exact h
  | cons a l ih => exact ih (hf _ _ h)
theorem stands_noteMirror {c b : Nat} {s : State} (o : Nat) (q : Req) (st : Nat) (h : causeStands c b s) : causeStands c b (noteMirror o q st s) := by
  unfold noteMirror settleMirrors
  dsimp only
  refine stands_foldl _ (fun x a hx => ?_) _ ?_
  · split
    · exact hx
    · exact stands_mirrorMismatch _ _ _ hx
  · exact stands_host rfl h
theorem stands_replyWith {c b : Nat} {s : State} (m : Bool) (o : Nat) (q : Req) (st d : Nat) (data : Bytes) (h : causeStands c b s) :
    causeStands c b (replyWith m o q st d data s) := by
  have h1 : causeStands c b (if st = stBusyRetry then bump 34 (bump 33 s) else bump 33 s) := by
    split <;> exact stands_of_cause rfl h
  unfold replyWith
  dsimp only
  revert h1
  generalize (if st = stBusyRetry then bump 34 (bump 33 s) else bump 33 s) = x
  intro h1
  have h2 : ∀ f, causeStands c b (if usesSlot q then updSlot (slotOf q) f x else x) := by
    intro f; split <;> exact stands_of_cause rfl h1
  have h3 : ∀ y, causeStands c b y → causeStands c b (if isMirrored q then noteMirror o q st y else forwardCommand o q y) := by
    intro y hy; split
    · exact stands_noteMirror _ _ _ hy
    · exact stands_host (host_forwardCommand _ _ _) hy
  split
  · split
    · exact stands_of_cause (cause_replyRingWrite _ _ _) (stands_of_cause rfl (h3 _ (h2 _)))
    · exact stands_of_cause rfl (h3 _ (h2 _))
  · exact stands_raise _ _ (h3 _ (h2 _))
  · exact stands_raise _ _ (h3 _ (h2 _))
  · exact stands_of_cause rfl (h3 _ (h2 _))
  · exact h3 _ (h2 _)
theorem stands_finishWait {c b : Nat} {s : State} (k : WaitKey) (st d : Nat) (data : Bytes) (h : causeStands c b s) :
    causeStands c b (finishWait k st d data s) := by
  unfold finishWait
  split
  · exact h
  · exact stands_replyWith _ _ _ _ _ _ (stands_of_cause rfl h)

end Sys2Proof.Machine
end

