-- ==== Sys2Proof/Laws/Bound.lean ====
section
/-! SUPPORT. The bound after a change that bears on it (R124, R158, R163). -/
namespace Sys2Proof.Machine
open Sys2Proof Host

/-- While an excursion stands in either column the counter's bound is unbounded. -/
theorem counterBound_exc (s : State) (h : (s.bound.excHold || s.bound.excTrack) = true) : counterBound s = none := by
  unfold counterBound counterBoundAt
  split
  · unfold dummyBoundAt
    rw [if_pos (by cases h1 : s.bound.excTrack <;> simp_all)]
  · unfold ownBoundAt
    rw [if_pos]
    have : ∀ l : List Bool, packBits (l ++ [true]) ≠ 0 := by
      intro l
      induction l with
      | nil => decide
      | cons b l ih => simp only [List.cons_append, packBits]; omega
    unfold boundCauses
    dsimp only
    rw [h]
    simp only [bne_iff_ne, ne_eq]
    exact this [_, _, _, _, _]

/-- What settles with the bound: the alerts' memory and the clockClass. -/
theorem settleBound_frame (s : State) : plain (settleBound s) = plain { s with
    bound := { s.bound with wasUnbounded := (counterBound s).isNone, wasAbove := aboveAlert s }
    hold := { s.hold with clockClass := classOf s } } := by
  have h : ∀ x : State, plain x = plain s → plain { x with
      bound := { x.bound with wasUnbounded := (counterBound s).isNone, wasAbove := aboveAlert s }
      hold := { x.hold with clockClass := classOf s } } = plain { s with
      bound := { s.bound with wasUnbounded := (counterBound s).isNone, wasAbove := aboveAlert s }
      hold := { s.hold with clockClass := classOf s } } := by
    intro x hx
    rw [bound_of_plain hx, hold_of_plain hx]
    exact congrArg (fun y : State => { y with
      bound := { s.bound with wasUnbounded := (counterBound s).isNone, wasAbove := aboveAlert s }
      hold := { s.hold with clockClass := classOf s } }) hx
  unfold settleBound
  dsimp only
  refine h _ ?_
  split <;> split <;> split <;> simp only [plain_raise]
theorem settleBound_bound (s : State) : (settleBound s).bound = { s.bound with wasUnbounded := (counterBound s).isNone, wasAbove := aboveAlert s } :=
  bound_of_plain (s := { s with
    bound := { s.bound with wasUnbounded := (counterBound s).isNone, wasAbove := aboveAlert s }
    hold := { s.hold with clockClass := classOf s } }) (settleBound_frame s)
theorem settleBound_hold (s : State) : (settleBound s).hold = { s.hold with clockClass := classOf s } :=
  hold_of_plain (s := { s with
    bound := { s.bound with wasUnbounded := (counterBound s).isNone, wasAbove := aboveAlert s }
    hold := { s.hold with clockClass := classOf s } }) (settleBound_frame s)
theorem stands_settleBound {c b : Nat} {s : State} (h : causeStands c b s) : causeStands c b (settleBound s) := by
  unfold settleBound
  dsimp only
  refine stands_host rfl ?_
  split <;> split <;> split <;> (repeat refine stands_raise _ _ ?_) <;> exact h

end Sys2Proof.Machine
end

