-- ==== Sys2Proof/Laws/Bytes.lean ====
section
/-! SUPPORT. Fields of reply data, and entries of lists after an update. -/
namespace Sys2Proof.Machine
open Sys2Proof

@[simp] theorem leBytes_length (n v : Nat) : (leBytes n v).length = n := by
  induction n generalizing v with
  | zero => rfl
  | succ n ih => simp [leBytes, ih]
@[simp] theorem leInt_length (n : Nat) (v : Int) : (leInt n v).length = n := leBytes_length n _
@[simp] theorem zeros_length (n : Nat) : (zeros n).length = n := List.length_replicate

theorem fromLE_leBytes (n v : Nat) : fromLE (leBytes n v) = v % 256 ^ n := by
  induction n generalizing v with
  | zero => simp [leBytes, fromLE, Nat.mod_one]
  | succ n ih =>
    have h : v % (256 * 256 ^ n) = v % 256 + 256 * (v / 256 % 256 ^ n) := Nat.mod_mul
    have e : (BitVec.ofNat 8 v).toNat = v % 256 := by simp
    simp only [leBytes, fromLE, ih, e]
    rw [Nat.pow_succ, Nat.mul_comm (256 ^ n) 256, h]

/-- A field past the first part of the data lies in the rest. -/
theorem fld_skip {a r : Bytes} {k j n : Nat} (h : a.length = k) (hj : k ≤ j) : fld (a ++ r) j n = fld r (j - k) n := by
  subst h
  simp only [fld, slice, List.drop_append, List.drop_eq_nil_of_le hj, List.nil_append]

/-- The first field of the data. -/
theorem fld_here {a r : Bytes} {n : Nat} (h : a.length = n) : fld (a ++ r) 0 n = fromLE a := by
  subst h
  simp [fld, slice, zeros]

theorem fld_all {a : Bytes} {n : Nat} (h : a.length = n) : fld a 0 n = fromLE a := by
  have := fld_here (r := []) h
  simpa using this

theorem fld_le_here (n v : Nat) (r : Bytes) : fld (leBytes n v ++ r) 0 n = v % 256 ^ n :=
  (fld_here (leBytes_length n v)).trans (fromLE_leBytes n v)
theorem fld_le_all (n v : Nat) : fld (leBytes n v) 0 n = v % 256 ^ n :=
  (fld_all (leBytes_length n v)).trans (fromLE_leBytes n v)

theorem toSigned_ofSigned (n : Nat) (v : Int) (h0 : 0 < n) (h1 : -(2 ^ (n - 1) : Nat) ≤ v) (h2 : v < (2 ^ (n - 1) : Nat)) :
    toSigned n (ofSigned n v % 2 ^ n) = v := by
  obtain ⟨m, rfl⟩ : ∃ m, n = m + 1 := ⟨n - 1, by omega⟩
  simp only [Nat.add_sub_cancel] at h1 h2
  have hp : (2 ^ (m + 1) : Nat) = 2 * 2 ^ m := by rw [Nat.pow_succ, Nat.mul_comm]
  have hpos : 0 < (2 ^ m : Nat) := Nat.two_pow_pos m
  unfold toSigned ofSigned
  rw [hp]
  generalize (2 ^ m : Nat) = p at *
  simp only [Nat.mod_mod]
  rcases Int.lt_or_le v 0 with hv | hv
  · have e : v % ((2 * p : Nat) : Int) = v + (2 * p : Nat) := by
      have := Int.emod_eq_of_lt (a := v + (2 * p : Nat)) (b := ((2 * p : Nat) : Int)) (by omega) (by omega)
      rw [← this]; simp
    rw [e]
    have e2 : (v + (2 * p : Nat)).toNat % (2 * p) = (v + (2 * p : Nat)).toNat := Nat.mod_eq_of_lt (by omega)
    rw [e2]
    split <;> omega
  · have e : v % ((2 * p : Nat) : Int) = v := Int.emod_eq_of_lt hv (by omega)
    rw [e]
    have e2 : v.toNat % (2 * p) = v.toNat := Nat.mod_eq_of_lt (by omega)
    rw [e2]
    split <;> omega

@[simp] theorem upd_length {α : Type} (l : List α) (i : Nat) (f : α → α) : (upd l i f).length = l.length := by simp [upd]
theorem upd_get {α : Type} (l : List α) (i j : Nat) (f : α → α) :
    (upd l i f)[j]? = if i = j then l[j]?.map f else l[j]? := by
  unfold upd
  rw [List.getElem?_modify]
  split <;> simp

/-- Updates at different places, one after the other, reach each of the places once. -/
theorem foldl_upd_get {α : Type} (f : α → α) (is : List Nat) (h : is.Nodup) (l : List α) (j : Nat) :
    (is.foldl (fun l i => upd l i f) l)[j]? = if j ∈ is then l[j]?.map f else l[j]? := by
  induction is generalizing l with
  | nil => simp
  | cons i is ih =>
    simp only [List.nodup_cons] at h
    simp only [List.foldl_cons, ih h.2, upd_get, List.mem_cons]
    by_cases e : i = j
    · subst e; simp [h.1]
    · have : ¬ j = i := fun x => e x.symm
      simp [e, this]

theorem nth_of_get {α : Type} [Inhabited α] {l : List α} {i : Nat} {a : α} (h : l[i]? = some a) : nth l i = a := by
  simp [nth, h]
theorem upd_of_get {α : Type} {l : List α} {i : Nat} {a : α} {f : α → α} (h : l[i]? = some a) : upd l i f = l.set i (f a) := by
  refine List.ext_getElem? fun j => ?_
  rw [upd_get, List.getElem?_set]
  have hi : i < l.length := by
    rcases Nat.lt_or_ge i l.length with x | x
    · exact x
    · rw [List.getElem?_eq_none x] at h; cases h
  by_cases e : i = j
  · subst e
    have e2 : l[i] = a := by rw [List.getElem?_eq_getElem hi] at h; exact Option.some.inj h
    simp [hi, e2]
  · simp [e]
theorem onesBelow_nodup (n w : Nat) : (onesBelow n w).Nodup := (List.nodup_range).filter _
theorem mem_onesBelow (n w k : Nat) : k ∈ onesBelow n w ↔ k < n ∧ w.testBit k = true := by
  simp [onesBelow, bit]

end Sys2Proof.Machine
end

