-- ==== Sys2Proof/Laws/Dealer.lean ====
section
/-! SUPPORT. How a command row runs where the Dealer starts its packet at once (R494 to R501). -/
namespace Sys2Proof.Machine
open Sys2Proof Host

theorem trySubmit_off (i : Iface) (s : State) (h : (bankOf s i).go = false) : trySubmit i s = s := by
  simp [trySubmit, h]

theorem acceptGo_off {s : State} (h1 : s.host.pcie.go = false) (h2 : s.host.spi.go = false) : acceptGo s = s := by
  unfold acceptGo
  rw [trySubmit_off .pcie s h1, trySubmit_off .spi s h2]

theorem nextEntry_one (e : QEntry) : nextEntry [e] = some e := by
  unfold nextEntry
  by_cases h : isUrgent e.req <;> simp [h]

theorem queued_one {op : Nat} {q : Req} {e : QEntry} (h1 : e.opcode = op) (h2 : e.req = q) : queued op q [e] = some e := by
  simp [queued, h1, h2]

theorem submit_queue (op : Nat) (q : Req) (s : State) (h : slotFree q s = true) :
    (submit op q s).host.queue = s.host.queue ++ [{ opcode := op, req := q, arrived := curTs s, arrivedPs := s.now }] := by
  have hq : (acceptCmd op q s).host.queue = s.host.queue ++ [{ opcode := op, req := q, arrived := curTs s, arrivedPs := s.now }] := by
    unfold acceptCmd
    by_cases hu : usesSlot q <;> simp [hu, bump, bumpBy, updSlot, curTs]
  unfold submit
  rw [h]
  simp only [Bool.not_true, Bool.false_eq_true, if_false]
  cases ifaceOf q.src with
  | none => exact hq
  | some i => cases i <;> exact hq

/-- Where the Dealer starts a packet at once, the row is the start of that packet from `started`. -/
theorem runCmdAt_starts {op : Nat} {q : Req} {s : State} (h : Nat → Handler) (hs : startsAt op q s = true) :
    runCmdAt op h q s = acceptGo (startCmd op h (arrivalOf op q s) q (started op q s)).2 := by
  unfold startsAt at hs
  unfold runCmdAt started arrivalOf
  revert hs
  generalize hx : begin_ q.time s = x
  intro hs
  simp only [Bool.and_eq_true, Bool.not_eq_true'] at hs
  obtain ⟨⟨⟨⟨⟨ha, _⟩, _⟩, hq⟩, _⟩, _⟩ := hs
  simp only [ha, Bool.not_true, Bool.false_eq_true, if_false]
  split at hq
  · rename_i e
    have hn : queued op q x.host.queue = none := by rw [e]; rfl
    have hl : ¬ x.host.queue.length ≥ 256 := by rw [e]; decide
    have hsub : (submit op q x).host.queue = [{ opcode := op, req := q, arrived := curTs x, arrivedPs := x.now }] := by
      rw [submit_queue op q x hq, e]; rfl
    simp only [hn, hq, Bool.not_true, Bool.false_eq_true, if_false, hl, hsub, queued_one, nextEntry_one, if_true, Option.isSome_none]
    unfold startEntry
    simp only [hsub, List.erase_cons_head]
  · rename_i e0 e
    simp only [Bool.and_eq_true, beq_iff_eq] at hq
    have hn : queued op q x.host.queue = some e0 := by rw [e]; exact queued_one hq.1 hq.2
    rw [hn, e, nextEntry_one]
    simp only [if_true, Option.isSome_some]
    unfold startEntry
    simp only [e, List.erase_cons_head, hq.1, hq.2]
  · cases hq

theorem forwardMirror_off {op : Nat} {q : Req} (s : State) (h : isMirrored q = false) : forwardMirror op q s = s := by
  simp [forwardMirror, h]

theorem startsAt_header {op : Nat} {q : Req} {s : State} (hs : startsAt op q s = true) : headerBad q = false := by
  unfold startsAt at hs; simp only [Bool.and_eq_true, Bool.not_eq_true'] at hs; exact hs.1.1.1.1.2
theorem startsAt_mirror {op : Nat} {q : Req} {s : State} (hs : startsAt op q s = true) : isMirrored q = false := by
  unfold startsAt at hs; simp only [Bool.and_eq_true, Bool.not_eq_true'] at hs; exact hs.1.1.1.2
theorem startsAt_pcie {op : Nat} {q : Req} {s : State} (hs : startsAt op q s = true) : (started op q s).host.pcie.go = false := by
  unfold startsAt at hs; simp only [Bool.and_eq_true, Bool.not_eq_true'] at hs; exact hs.1.2
theorem startsAt_spi {op : Nat} {q : Req} {s : State} (hs : startsAt op q s = true) : (started op q s).host.spi.go = false := by
  unfold startsAt at hs; simp only [Bool.and_eq_true, Bool.not_eq_true'] at hs; exact hs.2
/-! What is left alone by replies: the register banks of the interfaces. -/
theorem banks_of_base {s t : State} (h : base t = base s) : t.host.pcie = s.host.pcie ∧ t.host.spi = s.host.spi :=
  have h1 : (base t).host.pcie = (base s).host.pcie := by rw [h]
  have h2 : (base t).host.spi = (base s).host.spi := by rw [h]
  ⟨h1, h2⟩

/-- A command that starts at once and is done is answered DONE, and nothing else follows. -/
theorem runCmdAt_done {op : Nat} {q : Req} {s e : State} {h : Nat → Handler} {data : Bytes} (hs : startsAt op q s = true)
    (hd : h (arrivalOf op q s) q (started op q s) = .done data e) (hp : e.host.pcie = (started op q s).host.pcie) (hq : e.host.spi = (started op q s).host.spi) :
    (Outcome.next (runCmdAt op h q s) : Outcome State Fault Refusal) = done op q data e := by
  have ha := runCmdAt_starts h hs
  have hb := banks_of_base (base_reply op q stDone 0 data e (startsAt_mirror hs))
  rw [ha]
  unfold startCmd done
  simp only [forwardMirror_off _ (startsAt_mirror hs), startsAt_header hs, hd, Bool.false_eq_true, if_false]
  rw [acceptGo_off]
  · rw [hb.1, hp]; exact startsAt_pcie hs
  · rw [hb.2, hq]; exact startsAt_spi hs

theorem runCmd_done {op : Nat} {q : Req} {s e : State} {h : Handler} {data : Bytes} (hs : startsAt op q s = true)
    (hd : h q (started op q s) = .done data e) (hp : e.host.pcie = (started op q s).host.pcie) (hq : e.host.spi = (started op q s).host.spi) :
    (Outcome.next (runCmd op h q s) : Outcome State Fault Refusal) = done op q data e :=
  runCmdAt_done (h := fun _ => h) hs hd hp hq

/-- A command that starts at once and is refused is answered with its status, and changes nothing else. -/
theorem runCmd_refused {op : Nat} {q : Req} {s : State} {h : Handler} {st d : Nat} (hs : startsAt op q s = true)
    (hd : h q (started op q s) = .refuse st d) : runCmd op h q s = reply op q st d [] (started op q s) := by
  have ha := runCmdAt_starts (fun _ => h) hs
  have hb := banks_of_base (base_reply op q st d [] (started op q s) (startsAt_mirror hs))
  unfold runCmd
  rw [ha]
  unfold startCmd
  simp only [forwardMirror_off _ (startsAt_mirror hs), startsAt_header hs, hd, Bool.false_eq_true, if_false]
  rw [acceptGo_off]
  · rw [hb.1]; exact startsAt_pcie hs
  · rw [hb.2]; exact startsAt_spi hs

/-- A command whose reply follows a hardware action leaves its state, and no reply yet. -/
theorem runCmd_later {op : Nat} {q : Req} {s e : State} {h : Handler} (hs : startsAt op q s = true)
    (hd : h q (started op q s) = .later e) (hp : e.host.pcie = (started op q s).host.pcie) (hq : e.host.spi = (started op q s).host.spi) :
    runCmd op h q s = e := by
  have ha := runCmdAt_starts (fun _ => h) hs
  unfold runCmd
  rw [ha]
  unfold startCmd
  simp only [forwardMirror_off _ (startsAt_mirror hs), startsAt_header hs, hd, Bool.false_eq_true, if_false]
  rw [acceptGo_off]
  · rw [hp]; exact startsAt_pcie hs
  · rw [hq]; exact startsAt_spi hs

theorem checked_of {q : Req} {fixed : Nat} {fs : List Fld} {k : Answer} (h : fits q fixed fs) : checked q fixed fs k = k := by
  unfold checked; rw [show formatCheck q fixed fs 0 0 (fun _ => []) = none from h]
theorem checkedN_of {q : Req} {fixed : Nat} {fs : List Fld} {n m : Nat} {efs : Nat → List Fld} {k : Answer} (h : fitsN q fixed fs n m efs) :
    checkedN q fixed fs n m efs k = k := by
  unfold checkedN; rw [show formatCheck q fixed fs n m efs = none from h]
theorem refuseIf_not {c : Bool} {st d : Nat} {k : Answer} (h : c = false) : refuseIf c st d k = k := by rw [h]; rfl
theorem checkFlds_ok {p : Bytes} {fs : List Fld} (h : checkFlds p fs = none) {f : Fld} (hf : f ∈ fs) : f.ok (fld p f.off f.size) = true := by
  induction fs with
  | nil => cases hf
  | cons g gs ih =>
    unfold checkFlds at h
    split at h
    · rename_i hg
      rcases List.mem_cons.mp hf with rfl | hm
      · exact hg
      · exact ih h hm
    · split at h
      · rename_i hn
        cases e : firstNonZero p g.off g.size <;> simp [e] at h
      · cases h
/-- Each field of a packet that passes the checks is in its range. -/
theorem fits_ok {q : Req} {n : Nat} {fs : List Fld} (h : fits q n fs) {f : Fld} (hf : f ∈ fs) : f.ok (fld q.params f.off f.size) = true := by
  unfold fits formatCheck at h
  split at h
  · cases h
  · split at h
    · cases h
    · split at h
      · cases h
      · rename_i hc; exact checkFlds_ok hc hf

end Sys2Proof.Machine
end

