-- ==== Sys2Proof/Laws/Faults.lean ====
section
/-! SUPPORT. What a self-fault changes: the fault record, and the pair's claim (R31, R570). -/
namespace Sys2Proof.Machine
open Sys2Proof Host

theorem plain_updPair (f : PairRun → PairRun) (s : State) : plain (updPair f s) = plain { s with pair := f s.pair } := rfl

/-- A dropped claim is not live, and the shared-output enable that it had is gone. -/
theorem dropClaim_pair (s : State) : (dropClaim s).pair.live = false ∧ (s.pair.live = true → (dropClaim s).pair.enable = false) := by
  unfold dropClaim
  split
  · rename_i h
    have h' : s.pair.live = false := by simpa using h
    exact ⟨h', fun x => by rw [h'] at x; cases x⟩
  · dsimp only
    split
    · unfold noteEdge; rw [occur_pair]; exact ⟨rfl, fun _ => rfl⟩
    · exact ⟨rfl, fun _ => rfl⟩
theorem dropClaim_frame (s : State) : plain (dropClaim s) = plain { s with pair := (dropClaim s).pair } := by
  unfold dropClaim
  split
  · rfl
  · dsimp only
    split
    · unfold noteEdge; rw [plain_occur, occur_pair]; rfl
    · rfl
theorem recordFault_frame (c d : Nat) (s : State) : recordFault c d s = { s with boot := (recordFault c d s).boot } := by
  unfold recordFault; dsimp only
theorem recordFault_keeps (c d : Nat) (s : State) :
    (recordFault c d s).boot.inReset = s.boot.inReset ∧ (recordFault c d s).boot.powerGood = s.boot.powerGood ∧
    (recordFault c d s).boot.claimSpent = s.boot.claimSpent := by
  unfold recordFault; dsimp only; split <;> exact ⟨rfl, rfl, rfl⟩
/-- A self-fault of a cause that drops the claim. -/
theorem selfFault_drops (c d : Nat) (s : State) (h : dropsClaim c = true) :
    (selfFault c d s).boot.claimSpent = true ∧ (selfFault c d s).pair.live = false ∧
    (s.pair.live = true → (selfFault c d s).pair.enable = false) ∧
    (selfFault c d s).boot.inReset = s.boot.inReset ∧ (selfFault c d s).boot.powerGood = s.boot.powerGood ∧
    plain (selfFault c d s) = plain { s with boot := (selfFault c d s).boot, pair := (selfFault c d s).pair } := by
  have hb : ∀ x : State, (dropClaim x).boot = x.boot := by
    intro x; exact boot_of_plain (s := { x with pair := (dropClaim x).pair }) (dropClaim_frame x)
  have key : ∀ x : State, plain x = plain { s with boot := x.boot, pair := x.pair } → x.pair = s.pair → x.boot.inReset = s.boot.inReset → x.boot.powerGood = s.boot.powerGood →
      let y := dropClaim { x with boot := { x.boot with claimSpent := true } }
      y.boot.claimSpent = true ∧ y.pair.live = false ∧ (s.pair.live = true → y.pair.enable = false) ∧
      y.boot.inReset = s.boot.inReset ∧ y.boot.powerGood = s.boot.powerGood ∧ plain y = plain { s with boot := y.boot, pair := y.pair } := by
    intro x hx hp h1 h2 y
    have hy : y.boot = { x.boot with claimSpent := true } := hb _
    refine ⟨by rw [hy], (dropClaim_pair _).1, fun e => (dropClaim_pair _).2 (by rw [hp]; exact e), by rw [hy]; exact h1, by rw [hy]; exact h2, ?_⟩
    refine (dropClaim_frame _).trans ?_
    have : plain { x with boot := y.boot, pair := y.pair } = { plain x with boot := y.boot, pair := y.pair } := rfl
    rw [hy] at this ⊢
    exact this.trans (by rw [hx]; rfl)
  unfold selfFault
  dsimp only
  rw [if_pos h]
  obtain ⟨r1, r2, _⟩ := recordFault_keeps c d s
  have rf := recordFault_frame c d s
  have rp : (recordFault c d s).pair = s.pair := by rw [rf]
  split
  · refine key _ ?_ ?_ ?_ ?_
    · rw [plain_raise, raise_boot, raise_pair]; rw [rf]
    · rw [raise_pair, rp]
    · rw [raise_boot, r1]
    · rw [raise_boot, r2]
  · refine key _ ?_ rp r1 r2
    rw [rf]

end Sys2Proof.Machine
end

