-- ==== Sys2Proof/Laws/KeptTime.lean ====
section
/-! SUPPORT. What the operations leave alone, as `kept` says it, one lemma each: Ops, FaultOps, Dealer, BoundOps, HandOps, DpllOps, RefOps, Time, Ref, Dpll, Meld. -/
set_option linter.unusedSimpArgs false
set_option linter.unusedVariables false
namespace Sys2Proof.Machine
open Sys2Proof Host

theorem kept_eta (s : State) : ((s.pending, s.boot.stage, s.boot.cmdReady, s.boot.inReset, s.attest.lc), s.shadow, s.work) = kept s := Eq.trans rfl rfl
theorem kept_ite {c : Prop} [Decidable c] (a b : State) : kept (if c then a else b) = if c then kept a else kept b := by split <;> rfl
theorem kept_foldl2 {α β : Type} (g : β × State → α → β × State) (h : ∀ a x, kept (g a x).2 = kept a.2) (l : List α) (a : β × State) : kept (l.foldl g a).2 = kept a.2 := by
  induction l generalizing a with
  | nil => exact Eq.trans rfl rfl
  | cons b l ih => simp only [List.foldl_cons, ih, h]
theorem kept_foldl {α : Type} (g : State → α → State) (h : ∀ s x, kept (g s x) = kept s) (l : List α) (s : State) : kept (l.foldl g s) = kept s := by
  induction l generalizing s with
  | nil => rfl
  | cons a l ih => simp only [List.foldl_cons, ih, h]
theorem kept_mk (x0) (x1) (x2) (x3) (x4) (x5) (x6) (x7) (x8) (x9) (x10) (x11) (x12) (x13) (x14) (x15) (x16) (x17) (x18) (x19) (x20) (x21) (x22) (x23) (x24) (x25) (x26) (x27) (x28) (x29) (x30) (x31) (x32) (x33) : kept (State.mk x0 x1 x2 x3 x4 x5 x6 x7 x8 x9 x10 x11 x12 x13 x14 x15 x16 x17 x18 x19 x20 x21 x22 x23 x24 x25 x26 x27 x28 x29 x30 x31 x32 x33) = ((x0, x7.stage, x7.cmdReady, x7.inReset, x26.lc), x32, x33) := Eq.trans rfl rfl

theorem kept_moveTo (ps : Nat) (s : State) : kept (moveTo ps s) = kept s := by
  simp only [moveTo, kept_mk, kept_eta, ite_self, kept_ite]
theorem kept_whileRunning {f : State → State} (h : ∀ s, kept (f s) = kept s) (s : State) : kept (whileRunning f s) = kept s := by
  unfold whileRunning; split
  · exact h s
  · rfl
theorem kept_emit (o : Output) (s : State) : kept (emit o s) = kept s := by
  simp only [emit, kept_mk, kept_eta, ite_self, kept_ite]
theorem kept_forward (x : LockInput) (s : State) : kept (forward x s) = kept s := by
  simp only [forward, kept_mk, kept_eta, ite_self, kept_ite, kept_emit]
theorem kept_useFree (s : State) : kept (useFree s) = kept s := by
  simp only [useFree, kept_mk, kept_eta, ite_self, kept_ite]
theorem kept_bumpBy (n k : Nat) (s : State) : kept (bumpBy n k s) = kept s := by
  simp only [bumpBy, kept_mk, kept_eta, ite_self, kept_ite]
theorem kept_bump (n : Nat) (s : State) : kept (bump n s) = kept s := by
  simp only [bump, kept_mk, kept_eta, ite_self, kept_ite, kept_bumpBy]
theorem kept_msixSend (s : State) : kept (msixSend s) = kept s := by
  simp only [msixSend, kept_mk, kept_eta, ite_self, kept_ite, kept_bump, kept_emit]
theorem kept_irqEdge (before : Bool) (s : State) : kept (irqEdge before s) = kept s := by
  simp only [irqEdge, kept_mk, kept_eta, ite_self, kept_ite, kept_msixSend]
theorem kept_updRing (r : Nat) (f : Ring → Ring) (s : State) : kept (updRing r f s) = kept s := by
  simp only [updRing, kept_mk, kept_eta, ite_self, kept_ite]
theorem kept_noteCause (key : Nat) (s : State) : kept (noteCause key s) = kept s := by
  simp only [noteCause, kept_mk, kept_eta, ite_self, kept_ite]
theorem kept_setSecond (k i : Nat) (s : State) : kept (setSecond k i s) = kept s := by
  simp only [setSecond, kept_mk, kept_eta, ite_self, kept_ite, kept_irqEdge, kept_noteCause]
theorem kept_ringEvent (r : Nat) (s : State) : kept (ringEvent r s) = kept s := by
  simp only [ringEvent, kept_mk, kept_eta, ite_self, kept_ite, kept_noteCause, kept_setSecond, kept_updRing]
theorem kept_eventDue (e : EventDue) (s : State) : kept (eventDue e s) = kept s := by
  unfold eventDue
  repeat' first
    | with_reducible rfl
    | (simp only [kept_mk, kept_eta, ite_self, kept_ite, kept_updRing, *]; done)
    | (simp only [kept_mk, kept_eta, ite_self, kept_ite, kept_updRing]; done)
    | (first | (intro x) | (lift_lets; intro x)
       first
        | (have hx : kept x = kept s := by
             first
               | (simp only [x, kept_mk, kept_eta, ite_self, kept_ite, kept_updRing, *]; done)
               | (dsimp only [x]
                  repeat' first
                    | with_reducible rfl
                    | (simp only [kept_mk, kept_eta, ite_self, kept_ite, kept_updRing, *]; done)
                    | (refine (kept_foldl _ (fun s x => ?_) _ _).trans ?_)
                    | split
                  done)
           clear_value x)
        | (have hx : ∀ y, kept (x y) = kept y := by
             intro y; simp only [x, kept_mk, kept_eta, ite_self, kept_ite, kept_updRing, *]; done
           clear_value x)
        | (have hx : ∀ y, kept (x y).2 = kept y := by
             intro y; simp only [x, kept_mk, kept_eta, ite_self, kept_ite, kept_updRing, *]; done
           clear_value x)
        | (have hx : ∀ a b y, kept (x a b y) = kept y := by
             intro a b y; simp only [x, kept_mk, kept_eta, ite_self, kept_ite, kept_updRing, *]; done
           clear_value x)
        | clear_value x)
    | (refine (kept_foldl _ (fun s x => ?_) _ _).trans ?_)
    | (simp only [kept_mk, kept_eta, ite_self, kept_ite, kept_updRing]; refine (kept_foldl _ (fun s x => ?_) _ _).trans ?_)
    | split
theorem kept_setCause (c b idx : Nat) (s : State) : kept (setCause c b idx s) = kept s := by
  simp only [setCause, kept_mk, kept_eta, ite_self, kept_ite, kept_bump, kept_eventDue, kept_irqEdge, kept_noteCause]
theorem kept_updScore (f : ScorePart → ScorePart) (s : State) : kept (updScore f s) = kept s := by
  simp only [updScore, kept_mk, kept_eta, ite_self, kept_ite]
theorem kept_addSample (c : Nat) (v : Int) (s : State) : kept (addSample c v s) = kept s := by
  simp only [addSample, kept_mk, kept_eta, ite_self, kept_ite, kept_updScore]
theorem kept_noteRate (k : Nat) (s : State) : kept (noteRate k s) = kept s := by
  simp only [noteRate, kept_mk, kept_eta, ite_self, kept_ite, kept_updScore]
theorem kept_addRate (k : Nat) (s : State) : kept (addRate k s) = kept s := by
  simp only [addRate, kept_mk, kept_eta, ite_self, kept_ite, kept_updScore]
theorem kept_openOcc (c : Nat) (d : Int) (s : State) : kept (openOcc c d s) = kept s := by
  unfold openOcc
  dsimp only
  repeat' split
  all_goals (first | with_reducible rfl | (simp only [kept_mk, kept_eta, ite_self, kept_ite, kept_updScore]; done))
theorem kept_occur (c : Nat) (detail : Int) (s : State) : kept (occur c detail s) = kept s := by
  unfold occur
  dsimp only
  repeat' split
  all_goals (first | with_reducible rfl | (simp only [kept_mk, kept_eta, ite_self, kept_ite, kept_bump, kept_forward, kept_openOcc, kept_setCause, kept_updScore]; done))
theorem kept_raiseIdx (c b idx : Nat) (s : State) : kept (raiseIdx c b idx s) = kept s := by
  unfold raiseIdx
  dsimp only
  repeat' split
  all_goals (first | with_reducible rfl | (simp only [kept_mk, kept_eta, ite_self, kept_ite, kept_occur, kept_setCause]; done))
theorem kept_raise (c b : Nat) (s : State) : kept (raise c b s) = kept s := by
  simp only [raise, kept_mk, kept_eta, ite_self, kept_ite, kept_raiseIdx]
theorem kept_ringFault (r cause : Nat) (s : State) : kept (ringFault r cause s) = kept s := by
  simp only [ringFault, kept_mk, kept_eta, ite_self, kept_ite, kept_raise, kept_updRing]
theorem kept_replyRingWrite (c : Nat) (entry : Bytes) (s : State) : kept (replyRingWrite c entry s) = kept s := by
  simp only [replyRingWrite, kept_mk, kept_eta, ite_self, kept_ite, kept_emit, kept_ringEvent, kept_updRing]
theorem kept_updPair (f : PairRun → PairRun) (s : State) : kept (updPair f s) = kept s := by
  simp only [updPair, kept_mk, kept_eta, ite_self, kept_ite]
theorem kept_recordFault (cause detail : Nat) (s : State) : kept (recordFault cause detail s) = kept s := by
  unfold recordFault
  dsimp only
  repeat' split
  all_goals (first | with_reducible rfl | (simp only [kept_mk, kept_eta, ite_self, kept_ite]; done))
theorem kept_setPads (s : State) : kept (setPads s) = kept s := by
  simp only [setPads, kept_mk, kept_eta, ite_self, kept_ite, kept_emit]
theorem kept_noteEdge (rise : Bool) (s : State) : kept (noteEdge rise s) = kept s := by
  simp only [noteEdge, kept_mk, kept_eta, ite_self, kept_ite, kept_occur, kept_updPair]
theorem kept_dropClaim (s : State) : kept (dropClaim s) = kept s := by
  simp only [dropClaim, kept_mk, kept_eta, ite_self, kept_ite, kept_emit, kept_noteEdge, kept_updPair]
theorem kept_selfFault (cause detail : Nat) (s : State) : kept (selfFault cause detail s) = kept s := by
  simp only [selfFault, kept_mk, kept_eta, ite_self, kept_ite, kept_dropClaim, kept_raise, kept_recordFault]
theorem kept_updSlot (k : Nat) (f : Slot → Slot) (s : State) : kept (updSlot k f s) = kept s := by
  simp only [updSlot, kept_mk, kept_eta, ite_self, kept_ite]
theorem kept_updBank (i : Iface) (f : IfBank → IfBank) (s : State) : kept (updBank i f s) = kept s := by
  unfold updBank
  dsimp only
  repeat' split
  all_goals (first | with_reducible rfl | (simp only [kept_mk, kept_eta, ite_self, kept_ite]; done))
theorem kept_mirrorMismatch (opcode tag status : Nat) (s : State) : kept (mirrorMismatch opcode tag status s) = kept s := by
  simp only [mirrorMismatch, kept_mk, kept_eta, ite_self, kept_ite, kept_raise, kept_updPair]
theorem kept_settleMirrors (s : State) : kept (settleMirrors s) = kept s := by
  unfold settleMirrors
  refine (kept_foldl _ (fun s m => ?_) _ _).trans (kept_updPair _ _)
  split
  · rfl
  · exact kept_mirrorMismatch _ _ _ _
theorem kept_noteMirror (opcode : Nat) (q : Req) (status : Nat) (s : State) : kept (noteMirror opcode q status s) = kept s := by
  simp only [noteMirror, kept_mk, kept_eta, ite_self, kept_ite, kept_settleMirrors, kept_updPair]
theorem kept_forwardMirror (opcode : Nat) (q : Req) (s : State) : kept (forwardMirror opcode q s) = kept s := by
  simp only [forwardMirror, kept_mk, kept_eta, ite_self, kept_ite, kept_emit, kept_mirrorMismatch, kept_updPair]
theorem kept_forwardCommand (opcode : Nat) (q : Req) (s : State) : kept (forwardCommand opcode q s) = kept s := by
  unfold forwardCommand
  repeat' split
  all_goals (first | with_reducible rfl | (simp only [kept_mk, kept_eta, ite_self, kept_ite, kept_forward]; done))
theorem kept_replyWith (muted : Bool) (opcode : Nat) (q : Req) (status detail : Nat) (data : Bytes) (s : State) : kept (replyWith muted opcode q status detail data s) = kept s := by
  unfold replyWith
  dsimp only
  repeat' split
  all_goals (first | with_reducible rfl | (simp only [kept_mk, kept_eta, ite_self, kept_ite, kept_bump, kept_emit, kept_forwardCommand, kept_noteMirror, kept_raise, kept_replyRingWrite, kept_updRing, kept_updSlot]; done))
theorem kept_reply (opcode : Nat) (q : Req) (status detail : Nat) (data : Bytes) (s : State) : kept (reply opcode q status detail data s) = kept s := by
  simp only [reply, kept_mk, kept_eta, ite_self, kept_ite, kept_replyWith]
theorem kept_endGo (i : Iface) (status : BitVec 8) (s : State) : kept (endGo i status s) = kept s := by
  simp only [endGo, kept_mk, kept_eta, ite_self, kept_ite, kept_updBank]
theorem kept_refuseSlot (opcode : Nat) (q : Req) (s : State) : kept (refuseSlot opcode q s) = kept s := by
  unfold refuseSlot
  dsimp only
  repeat' split
  all_goals (first | with_reducible rfl | (simp only [kept_mk, kept_eta, ite_self, kept_ite, kept_endGo, kept_raise, kept_replyRingWrite]; done))
theorem kept_acceptCmd (opcode : Nat) (q : Req) (s : State) : kept (acceptCmd opcode q s) = kept s := by
  simp only [acceptCmd, kept_mk, kept_eta, ite_self, kept_ite, kept_bump, kept_updSlot]
theorem kept_submit (opcode : Nat) (q : Req) (s : State) : kept (submit opcode q s) = kept s := by
  unfold submit
  dsimp only
  repeat' split
  all_goals (first | with_reducible rfl | (simp only [kept_mk, kept_eta, ite_self, kept_ite, kept_acceptCmd, kept_endGo, kept_refuseSlot]; done))
theorem kept_trySubmit (i : Iface) (s : State) : kept (trySubmit i s) = kept s := by
  simp only [trySubmit, kept_mk, kept_eta, ite_self, kept_ite, kept_submit]
theorem kept_acceptGo (s : State) : kept (acceptGo s) = kept s := by
  simp only [acceptGo, kept_mk, kept_eta, ite_self, kept_ite, kept_trySubmit]
theorem kept_begin_ (ps : Nat) (s : State) : kept (begin_ ps s) = kept s := by
  simp only [begin_, kept_mk, kept_eta, ite_self, kept_ite, kept_moveTo]
theorem kept_addWait (w : Wait) (s : State) : kept (addWait w s) = kept s := by
  simp only [addWait, kept_mk, kept_eta, ite_self, kept_ite]
theorem kept_finishWait (key : WaitKey) (status detail : Nat) (data : Bytes) (s : State) : kept (finishWait key status detail data s) = kept s := by
  unfold finishWait
  dsimp only
  repeat' split
  all_goals (first | with_reducible rfl | (simp only [kept_mk, kept_eta, ite_self, kept_ite, kept_replyWith]; done))
theorem kept_settleBound (s : State) : kept (settleBound s) = kept s := by
  unfold settleBound
  dsimp only
  repeat' split
  all_goals (first | with_reducible rfl | (simp only [kept_mk, kept_eta, ite_self, kept_ite, kept_raise]; done))
theorem kept_disturb (amount freq : Nat) (s : State) : kept (disturb amount freq s) = kept s := by
  simp only [disturb, kept_mk, kept_eta, ite_self, kept_ite, kept_raise]
theorem kept_restartWindow (s : State) : kept (restartWindow s) = kept s := by
  simp only [restartWindow, kept_mk, kept_eta, ite_self, kept_ite]
theorem kept_clearParts (s : State) : kept (clearParts s) = kept s := by
  simp only [clearParts, kept_mk, kept_eta, ite_self, kept_ite]
theorem kept_clearDist (s : State) : kept (clearDist s) = kept s := by
  simp only [clearDist, kept_mk, kept_eta, ite_self, kept_ite, kept_clearParts]
theorem kept_setOrigin (b0 : Option Nat) (s : State) : kept (setOrigin b0 s) = kept s := by
  unfold setOrigin
  dsimp only
  repeat' split
  all_goals (first | with_reducible rfl | (simp only [kept_mk, kept_eta, ite_self, kept_ite]; done))
theorem kept_closeHand (s : State) : kept (closeHand s) = kept s := by
  simp only [closeHand, kept_mk, kept_eta, ite_self, kept_ite, kept_raise]
theorem kept_afterStep (before : Counter) (s : State) : kept (afterStep before s) = kept s := by
  unfold afterStep
  dsimp only
  repeat' split
  all_goals (first | with_reducible rfl | (simp only [kept_mk, kept_eta, ite_self, kept_ite, kept_closeHand, kept_raise, kept_restartWindow]; done))
theorem kept_stepCounter (off : Int) (s : State) : kept (stepCounter off s) = kept s := by
  simp only [stepCounter, kept_mk, kept_eta, ite_self, kept_ite, kept_afterStep, kept_occur]
theorem kept_loadCounter (ts : Nat) (s : State) : kept (loadCounter ts s) = kept s := by
  simp only [loadCounter, kept_mk, kept_eta, ite_self, kept_ite, kept_afterStep, kept_occur, kept_raise]
theorem kept_dropSlew (s : State) : kept (dropSlew s) = kept s := by
  simp only [dropSlew, kept_mk, kept_eta, ite_self, kept_ite]
theorem kept_runSlew (owner : SlewOwner) (rem : Int) (limit : Nat) (s : State) : kept (runSlew owner rem limit s) = kept s := by
  simp only [runSlew, kept_mk, kept_eta, ite_self, kept_ite]
theorem kept_cancelPending (s : State) : kept (cancelPending s) = kept s := by
  unfold cancelPending
  dsimp only
  repeat' split
  all_goals (first | with_reducible rfl | (simp only [kept_mk, kept_eta, ite_self, kept_ite, kept_raise]; done))
theorem kept_setBound (bnd : Nat) (s : State) : kept (setBound bnd s) = kept s := by
  simp only [setBound, kept_mk, kept_eta, ite_self, kept_ite, kept_raise, kept_setOrigin]
theorem kept_widenB0 (off : Int) (s : State) : kept (widenB0 off s) = kept s := by
  simp only [widenB0, kept_mk, kept_eta, ite_self, kept_ite, kept_raise]
theorem kept_hostStep (off : Int) (s : State) : kept (hostStep off s) = kept s := by
  simp only [hostStep, kept_mk, kept_eta, ite_self, kept_ite, kept_settleBound, kept_stepCounter, kept_widenB0]
theorem kept_noteSet (ts : Nat) (s : State) : kept (noteSet ts s) = kept s := by
  simp only [noteSet, kept_mk, kept_eta, ite_self, kept_ite]
theorem kept_hostSet (ts bnd : Nat) (s : State) : kept (hostSet ts bnd s) = kept s := by
  simp only [hostSet, kept_mk, kept_eta, ite_self, kept_ite, kept_dropSlew, kept_loadCounter, kept_noteSet, kept_setBound, kept_settleBound]
theorem kept_takeOffset (o : Int) (s : State) : kept (takeOffset o s) = kept s := by
  simp only [takeOffset, kept_mk, kept_eta, ite_self, kept_ite, kept_raise]
theorem kept_forwardLeap (s : State) : kept (forwardLeap s) = kept s := by
  simp only [forwardLeap, kept_mk, kept_eta, ite_self, kept_ite, kept_forward]
theorem kept_takeLeap (sec : Nat) (off : Int) (src : LeapSource) (s : State) : kept (takeLeap sec off src s) = kept s := by
  simp only [takeLeap, kept_mk, kept_eta, ite_self, kept_ite, kept_forwardLeap, kept_raise]
theorem kept_takeLeapNews (n : LeapNews) (s : State) : kept (takeLeapNews n s) = kept s := by
  unfold takeLeapNews
  dsimp only
  repeat' split
  all_goals (first | with_reducible rfl | (simp only [kept_mk, kept_eta, ite_self, kept_ite, kept_takeLeap, kept_takeOffset]; done))
theorem kept_updDpll (d : Nat) (f : DpllRun → DpllRun) (s : State) : kept (updDpll d f s) = kept s := by
  simp only [updDpll, kept_mk, kept_eta, ite_self, kept_ite]
theorem kept_setRate (d : Nat) (r : Int) (s : State) : kept (setRate d r s) = kept s := by
  unfold setRate
  dsimp only
  repeat' split
  all_goals (first | with_reducible rfl | (simp only [kept_mk, kept_eta, ite_self, kept_ite, kept_bump, kept_raise, kept_updDpll]; done))
theorem kept_pauseLearning (s : State) : kept (pauseLearning s) = kept s := by
  unfold pauseLearning
  dsimp only
  repeat' split
  all_goals (first | with_reducible rfl | (simp only [kept_mk, kept_eta, ite_self, kept_ite]; done))
theorem kept_restartLearning (s : State) : kept (restartLearning s) = kept s := by
  simp only [restartLearning, kept_mk, kept_eta, ite_self, kept_ite]
theorem kept_dpllNone (d : Nat) (b : Option Nat) (s : State) : kept (dpllNone d b s) = kept s := by
  unfold dpllNone
  dsimp only
  repeat' split
  all_goals (first | with_reducible rfl | (simp only [kept_mk, kept_eta, ite_self, kept_ite, kept_dropSlew, kept_pauseLearning, kept_raise, kept_setOrigin, kept_setRate, kept_updDpll]; done))
theorem kept_enterTracking (d : Nat) (st : DpllState) (s : State) : kept (enterTracking d st s) = kept s := by
  simp only [enterTracking, kept_mk, kept_eta, ite_self, kept_ite, kept_updDpll]
theorem kept_startTrackBound (o : Nat) (s : State) : kept (startTrackBound o s) = kept s := by
  simp only [startTrackBound, kept_mk, kept_eta, ite_self, kept_ite]
theorem kept_tEnterBy (o : Nat) (unb step : Bool) (s : State) : kept (tEnterBy o unb step s) = kept s := by
  unfold tEnterBy
  dsimp only
  repeat' split
  all_goals (first | with_reducible rfl | (simp only [kept_mk, kept_eta, ite_self, kept_ite, kept_cancelPending, kept_disturb, kept_dropSlew, kept_enterTracking, kept_loadCounter, kept_raise, kept_runSlew, kept_startTrackBound, kept_stepCounter]; done))
theorem kept_tEnter (o : Nat) (step : Bool) (s : State) : kept (tEnter o step s) = kept s := by
  simp only [tEnter, kept_mk, kept_eta, ite_self, kept_ite, kept_tEnterBy]
theorem kept_tAccept (o : Nat) (step : Bool) (s : State) : kept (tAccept o step s) = kept s := by
  simp only [tAccept, kept_mk, kept_eta, ite_self, kept_ite, kept_tEnterBy]
theorem kept_fEnter (d : Nat) (s : State) : kept (fEnter d s) = kept s := by
  simp only [fEnter, kept_mk, kept_eta, ite_self, kept_ite, kept_enterTracking, kept_updDpll]
theorem kept_dpllSwitch (d : Nat) (held : HeldTerms) (s : State) : kept (dpllSwitch d held s) = kept s := by
  simp only [dpllSwitch, kept_mk, kept_eta, ite_self, kept_ite, kept_updDpll]
theorem kept_loopSample (d : Nat) (e : Int) (stamp period : Nat) (s : State) : kept (loopSample d e stamp period s) = kept s := by
  unfold loopSample
  dsimp only
  repeat' split
  all_goals (first | with_reducible rfl | (simp only [kept_mk, kept_eta, ite_self, kept_ite, kept_setRate, kept_updDpll]; done))
theorem kept_lockTrack (d : Nat) (e : Int) (s : State) : kept (lockTrack d e s) = kept s := by
  simp only [lockTrack, kept_mk, kept_eta, ite_self, kept_ite, kept_updDpll]
theorem kept_estPoint (d : Nat) (e : Int) (stamp : Nat) (s : State) : kept (estPoint d e stamp s) = kept s := by
  simp only [estPoint, kept_mk, kept_eta, ite_self, kept_ite, kept_updDpll]
theorem kept_tSample (o : Nat) (p : Sample) (s : State) : kept (tSample o p s) = kept s := by
  unfold tSample
  dsimp only
  repeat' split
  all_goals (first | with_reducible rfl | (simp only [kept_mk, kept_eta, ite_self, kept_ite, kept_clearDist, kept_estPoint, kept_lockTrack, kept_loopSample, kept_runSlew, kept_startTrackBound, kept_updDpll]; done))
theorem kept_fSample (d : Nat) (p : Sample) (s : State) : kept (fSample d p s) = kept s := by
  unfold fSample
  dsimp only
  repeat' split
  all_goals (first | with_reducible rfl | (simp only [kept_mk, kept_eta, ite_self, kept_ite, kept_estPoint, kept_lockTrack, kept_loopSample, kept_updDpll]; done))
theorem kept_enterLocked (d : Nat) (s : State) : kept (enterLocked d s) = kept s := by
  simp only [enterLocked, kept_mk, kept_eta, ite_self, kept_ite, kept_clearDist, kept_raise, kept_updDpll]
theorem kept_updRef (o : Nat) (f : RefRun → RefRun) (s : State) : kept (updRef o f s) = kept s := by
  simp only [updRef, kept_mk, kept_eta, ite_self, kept_ite]
theorem kept_refEvent (o ev : Nat) (cause : Option Nat) (s : State) : kept (refEvent o ev cause s) = kept s := by
  unfold refEvent
  dsimp only
  repeat' split
  all_goals (first | with_reducible rfl | (simp only [kept_mk, kept_eta, ite_self, kept_ite, kept_raiseIdx, kept_updRef]; done))
theorem kept_startWtr (o : Nat) (s : State) : kept (startWtr o s) = kept s := by
  simp only [startWtr, kept_mk, kept_eta, ite_self, kept_ite, kept_updRef]
theorem kept_toQualified (o : Nat) (s : State) : kept (toQualified o s) = kept s := by
  simp only [toQualified, kept_mk, kept_eta, ite_self, kept_ite, kept_refEvent, kept_updRef]
theorem kept_holdClockFails (o : Nat) (s : State) : kept (holdClockFails o s) = kept s := by
  simp only [holdClockFails, kept_mk, kept_eta, ite_self, kept_ite]
theorem kept_staleMember (o cause : Nat) (s : State) : kept (staleMember o cause s) = kept s := by
  unfold staleMember
  dsimp only
  repeat' split
  all_goals (first | with_reducible rfl | (simp only [kept_mk, kept_eta, ite_self, kept_ite]; done))
theorem kept_applyCause (o cause : Nat) (s : State) : kept (applyCause o cause s) = kept s := by
  unfold applyCause
  dsimp only
  repeat' split
  all_goals (first | with_reducible rfl | (simp only [kept_mk, kept_eta, ite_self, kept_ite, kept_holdClockFails, kept_refEvent, kept_staleMember, kept_startWtr, kept_updRef]; done))
theorem kept_setCheck (o k : Nat) (fails : Bool) (s : State) : kept (setCheck o k fails s) = kept s := by
  simp only [setCheck, kept_mk, kept_eta, ite_self, kept_ite, kept_applyCause]
theorem kept_sourceSilent (o : Nat) (s : State) : kept (sourceSilent o s) = kept s := by
  simp only [sourceSilent, kept_mk, kept_eta, ite_self, kept_ite, kept_applyCause]
theorem kept_makeFinding (o : Nat) (j : Int) (u : Nat) (s : State) : kept (makeFinding o j u s) = kept s := by
  unfold makeFinding
  dsimp only
  repeat' split
  all_goals (first | with_reducible rfl | (simp only [kept_mk, kept_eta, ite_self, kept_ite, kept_raise, kept_refEvent, kept_updDpll, kept_updRef]; done))
theorem kept_withdrawFinding (o : Nat) (s : State) : kept (withdrawFinding o s) = kept s := by
  simp only [withdrawFinding, kept_mk, kept_eta, ite_self, kept_ite, kept_startWtr]
theorem kept_judge (o : Nat) (j : Int) (u : Nat) (s : State) : kept (judge o j u s) = kept s := by
  simp only [judge, kept_mk, kept_eta, ite_self, kept_ite, kept_makeFinding, kept_withdrawFinding]
theorem kept_tTake (o : Nat) (s : State) : kept (tTake o s) = kept s := by
  unfold tTake
  repeat' split
  all_goals (first | with_reducible rfl | (simp only [kept_mk, kept_eta, ite_self, kept_ite, kept_tAccept, kept_tEnter]; done))
theorem kept_switchTo (d : Nat) (k : Option Nat) (s : State) : kept (switchTo d k s) = kept s := by
  unfold switchTo
  dsimp only
  repeat' split
  all_goals (first | with_reducible rfl | (simp only [kept_mk, kept_eta, ite_self, kept_ite, kept_dpllNone, kept_dpllSwitch, kept_fEnter, kept_forward, kept_raise, kept_tTake]; done))
theorem kept_dummySel (d : Nat) (s : State) : kept (dummySel d s) = kept s := by
  unfold dummySel
  dsimp only
  repeat' split
  all_goals (first | with_reducible rfl | (simp only [kept_mk, kept_eta, ite_self, kept_ite, kept_dpllNone, kept_dpllSwitch]; done))
theorem kept_cleanSplits (s : State) : kept (cleanSplits s) = kept s := by
  simp only [cleanSplits, kept_mk, kept_eta, ite_self, kept_ite]
theorem kept_evalSel (n d : Nat) (s : State) : kept (evalSel n d s) = kept s := by
  induction n generalizing d s with
  | zero => rfl
  | succ n ih =>
    unfold evalSel
    try lift_lets
    repeat' first
      | with_reducible rfl
      | (simp only [ih, kept_dummySel, kept_switchTo, kept_judge, ite_self, *]; done)
      | (intro x; first
          | (have hx : kept x = kept s := by simp only [x, kept_judge]
             clear_value x)
          | clear_value x)
      | split
      | lift_lets
theorem kept_evalAll (s : State) : kept (evalAll s) = kept s := by
  unfold evalAll
  rw [kept_settleBound, kept_cleanSplits]
  exact kept_foldl _ (fun s d => kept_evalSel 40 d s) _ _
theorem kept_splitUpdate (d o : Nat) (byPhase : Bool) (s : State) : kept (splitUpdate d o byPhase s) = kept s := by
  unfold splitUpdate
  repeat' first
    | with_reducible rfl
    | (simp only [kept_mk, kept_eta, ite_self, kept_ite, *]; done)
    | (simp only [kept_mk, kept_eta, ite_self, kept_ite]; done)
    | (first | (intro x) | (lift_lets; intro x)
       first
        | (have hx : kept x = kept s := by
             first
               | (simp only [x, kept_mk, kept_eta, ite_self, kept_ite, *]; done)
               | (dsimp only [x]
                  repeat' first
                    | with_reducible rfl
                    | (simp only [kept_mk, kept_eta, ite_self, kept_ite, *]; done)
                    | (refine (kept_foldl _ (fun s x => ?_) _ _).trans ?_)
                    | split
                  done)
           clear_value x)
        | (have hx : ∀ y, kept (x y) = kept y := by
             intro y; simp only [x, kept_mk, kept_eta, ite_self, kept_ite, *]; done
           clear_value x)
        | (have hx : ∀ y, kept (x y).2 = kept y := by
             intro y; simp only [x, kept_mk, kept_eta, ite_self, kept_ite, *]; done
           clear_value x)
        | (have hx : ∀ a b y, kept (x a b y) = kept y := by
             intro a b y; simp only [x, kept_mk, kept_eta, ite_self, kept_ite, *]; done
           clear_value x)
        | clear_value x)
    | (refine (kept_foldl _ (fun s x => ?_) _ _).trans ?_)
    | (simp only [kept_mk, kept_eta, ite_self, kept_ite]; refine (kept_foldl _ (fun s x => ?_) _ _).trans ?_)
    | split
theorem kept_meldTake (o : Nat) (phase : Int) (s : State) : kept (meldTake o phase s) = kept s := by
  unfold meldTake
  dsimp only
  repeat' split
  all_goals (first | with_reducible rfl | (simp only [kept_mk, kept_eta, ite_self, kept_ite]; done))
theorem kept_originBound (before : Option Nat) (wasTracking : Bool) (s : State) : kept (originBound before wasTracking s) = kept s := by
  simp only [originBound, kept_mk, kept_eta, ite_self, kept_ite]
theorem kept_deliver (o : Nat) (p : Sample) (todFail : Bool) (s : State) : kept (deliver o p todFail s) = kept s := by
  unfold deliver
  repeat' first
    | with_reducible rfl
    | (simp only [kept_mk, kept_eta, ite_self, kept_ite, kept_applyCause, kept_bump, kept_evalAll, kept_fSample, kept_judge, kept_meldTake, kept_originBound, kept_settleBound, kept_splitUpdate, kept_tSample, kept_tTake, kept_updRef, *]; done)
    | (simp only [kept_mk, kept_eta, ite_self, kept_ite, kept_applyCause, kept_bump, kept_evalAll, kept_fSample, kept_judge, kept_meldTake, kept_originBound, kept_settleBound, kept_splitUpdate, kept_tSample, kept_tTake, kept_updRef]; done)
    | (first | (intro x) | (lift_lets; intro x)
       first
        | (have hx : kept x = kept s := by
             first
               | (simp only [x, kept_mk, kept_eta, ite_self, kept_ite, kept_applyCause, kept_bump, kept_evalAll, kept_fSample, kept_judge, kept_meldTake, kept_originBound, kept_settleBound, kept_splitUpdate, kept_tSample, kept_tTake, kept_updRef, *]; done)
               | (dsimp only [x]
                  repeat' first
                    | with_reducible rfl
                    | (simp only [kept_mk, kept_eta, ite_self, kept_ite, kept_applyCause, kept_bump, kept_evalAll, kept_fSample, kept_judge, kept_meldTake, kept_originBound, kept_settleBound, kept_splitUpdate, kept_tSample, kept_tTake, kept_updRef, *]; done)
                    | (refine (kept_foldl _ (fun s x => ?_) _ _).trans ?_)
                    | split
                  done)
           clear_value x)
        | (have hx : ∀ y, kept (x y) = kept y := by
             intro y; simp only [x, kept_mk, kept_eta, ite_self, kept_ite, kept_applyCause, kept_bump, kept_evalAll, kept_fSample, kept_judge, kept_meldTake, kept_originBound, kept_settleBound, kept_splitUpdate, kept_tSample, kept_tTake, kept_updRef, *]; done
           clear_value x)
        | (have hx : ∀ y, kept (x y).2 = kept y := by
             intro y; simp only [x, kept_mk, kept_eta, ite_self, kept_ite, kept_applyCause, kept_bump, kept_evalAll, kept_fSample, kept_judge, kept_meldTake, kept_originBound, kept_settleBound, kept_splitUpdate, kept_tSample, kept_tTake, kept_updRef, *]; done
           clear_value x)
        | (have hx : ∀ a b y, kept (x a b y) = kept y := by
             intro a b y; simp only [x, kept_mk, kept_eta, ite_self, kept_ite, kept_applyCause, kept_bump, kept_evalAll, kept_fSample, kept_judge, kept_meldTake, kept_originBound, kept_settleBound, kept_splitUpdate, kept_tSample, kept_tTake, kept_updRef, *]; done
           clear_value x)
        | clear_value x)
    | (refine (kept_foldl _ (fun s x => ?_) _ _).trans ?_)
    | (simp only [kept_mk, kept_eta, ite_self, kept_ite, kept_applyCause, kept_bump, kept_evalAll, kept_fSample, kept_judge, kept_meldTake, kept_originBound, kept_settleBound, kept_splitUpdate, kept_tSample, kept_tTake, kept_updRef]; refine (kept_foldl _ (fun s x => ?_) _ _).trans ?_)
    | split
theorem kept_moveToCounter (target : Nat) (s : State) : kept (moveToCounter target s) = kept s := by
  simp only [moveToCounter, kept_mk, kept_eta, ite_self, kept_ite, kept_moveTo]
theorem kept_nextTick (s : State) : kept (nextTick s) = kept s := by
  simp only [nextTick, kept_mk, kept_eta, ite_self, kept_ite, kept_moveTo]
theorem kept_evalNewlyValid (was : Bool) (s : State) : kept (evalNewlyValid was s) = kept s := by
  simp only [evalNewlyValid, kept_mk, kept_eta, ite_self, kept_ite, kept_evalAll]
theorem kept_toApply (applyAt : Nat) (s : State) : kept (toApply applyAt s) = kept s := by
  simp only [toApply, kept_mk, kept_eta, ite_self, kept_ite, kept_moveToCounter, kept_nextTick]
theorem kept_takePend (applyAt : Nat) (s : State) : kept (takePend applyAt s) = kept s := by
  simp only [takePend, kept_mk, kept_eta, ite_self, kept_ite, kept_toApply]
theorem kept_applyChange (k : PendKind) (s : State) : kept (applyChange k s) = kept s := by
  unfold applyChange
  repeat' split
  all_goals (first | with_reducible rfl | (simp only [kept_mk, kept_eta, ite_self, kept_ite, kept_evalNewlyValid, kept_hostSet, kept_hostStep]; done))
theorem kept_applyPending (s : State) : kept (applyPending s) = kept s := by
  unfold applyPending
  repeat' split
  all_goals (first | with_reducible rfl | (simp only [kept_mk, kept_eta, ite_self, kept_ite, kept_applyChange, kept_takePend]; done))
theorem kept_endSlew (s : State) : kept (endSlew s) = kept s := by
  simp only [endSlew, kept_mk, kept_eta, ite_self, kept_ite, kept_dropSlew, kept_moveTo, kept_raise, kept_settleBound, kept_updDpll]
theorem kept_applyLeap (s : State) : kept (applyLeap s) = kept s := by
  unfold applyLeap
  dsimp only
  repeat' split
  all_goals (first | with_reducible rfl | (simp only [kept_mk, kept_eta, ite_self, kept_ite, kept_forwardLeap, kept_moveToCounter, kept_occur, kept_raise]; done))
theorem kept_latchRead (i : Iface) (ps : Nat) (s : State) : kept (latchRead i ps s) = kept s := by
  simp only [latchRead, kept_mk, kept_eta, ite_self, kept_ite, kept_begin_, kept_emit, kept_updBank]
theorem kept_activityEvent (o : Nat) (perNum perDen : Nat) (s : State) : kept (activityEvent o perNum perDen s) = kept s := by
  unfold activityEvent
  dsimp only
  repeat' split
  all_goals (first | with_reducible rfl | (simp only [kept_mk, kept_eta, ite_self, kept_ite, kept_updRef]; done))
theorem kept_todUse (o : Nat) (p : TodPulse) (utc : Nat) (s : State) : kept (todUse o p utc s) = kept s := by
  unfold todUse
  dsimp only
  repeat' split
  all_goals (first | with_reducible rfl | (simp only [kept_mk, kept_eta, ite_self, kept_ite, kept_deliver, kept_updRef]; done))
theorem kept_todPulse (o stamp : Nat) (s : State) : kept (todPulse o stamp s) = kept s := by
  unfold todPulse
  dsimp only
  repeat' split
  all_goals (first | with_reducible rfl | (simp only [kept_mk, kept_eta, ite_self, kept_ite, kept_applyCause, kept_evalAll, kept_todUse, kept_updRef]; done))
theorem kept_zdaSentence (ps : Nat) (framingOk : Bool) (bs : Bytes) (s : State) : kept (zdaSentence ps framingOk bs s) = kept s := by
  unfold zdaSentence
  dsimp only
  repeat' split
  all_goals (first | with_reducible rfl | (simp only [kept_mk, kept_eta, ite_self, kept_ite, kept_begin_, kept_refEvent, kept_todUse, kept_updRef]; done))
theorem kept_refSample (src ps : Nat) (d : SampleData) (s : State) : kept (refSample src ps d s) = kept s := by
  unfold refSample
  dsimp only
  repeat' split
  all_goals (first | with_reducible rfl | (simp only [kept_mk, kept_eta, ite_self, kept_ite, kept_activityEvent, kept_begin_, kept_bump, kept_deliver, kept_refEvent, kept_takeLeapNews, kept_todPulse, kept_updRef]; done))
theorem kept_activityMiss (src : Nat) (s : State) : kept (activityMiss src s) = kept s := by
  unfold activityMiss
  dsimp only
  repeat' split
  all_goals (first | with_reducible rfl | (simp only [kept_mk, kept_eta, ite_self, kept_ite, kept_evalAll, kept_moveTo, kept_setCheck, kept_updRef]; done))
theorem kept_noStampedEdge (src : Nat) (s : State) : kept (noStampedEdge src s) = kept s := by
  unfold noStampedEdge
  dsimp only
  repeat' split
  all_goals (first | with_reducible rfl | (simp only [kept_mk, kept_eta, ite_self, kept_ite, kept_evalAll, kept_moveTo, kept_setCheck, kept_updRef]; done))
theorem kept_freqUpdate (src : Nat) (s : State) : kept (freqUpdate src s) = kept s := by
  unfold freqUpdate
  repeat' first
    | with_reducible rfl
    | (simp only [kept_mk, kept_eta, ite_self, kept_ite, kept_evalAll, kept_moveTo, kept_refEvent, kept_setCheck, kept_splitUpdate, kept_updRef, *]; done)
    | (simp only [kept_mk, kept_eta, ite_self, kept_ite, kept_evalAll, kept_moveTo, kept_refEvent, kept_setCheck, kept_splitUpdate, kept_updRef]; done)
    | (first | (intro x) | (lift_lets; intro x)
       first
        | (have hx : kept x = kept s := by
             first
               | (simp only [x, kept_mk, kept_eta, ite_self, kept_ite, kept_evalAll, kept_moveTo, kept_refEvent, kept_setCheck, kept_splitUpdate, kept_updRef, *]; done)
               | (dsimp only [x]
                  repeat' first
                    | with_reducible rfl
                    | (simp only [kept_mk, kept_eta, ite_self, kept_ite, kept_evalAll, kept_moveTo, kept_refEvent, kept_setCheck, kept_splitUpdate, kept_updRef, *]; done)
                    | (refine (kept_foldl _ (fun s x => ?_) _ _).trans ?_)
                    | split
                  done)
           clear_value x)
        | (have hx : ∀ y, kept (x y) = kept y := by
             intro y; simp only [x, kept_mk, kept_eta, ite_self, kept_ite, kept_evalAll, kept_moveTo, kept_refEvent, kept_setCheck, kept_splitUpdate, kept_updRef, *]; done
           clear_value x)
        | (have hx : ∀ y, kept (x y).2 = kept y := by
             intro y; simp only [x, kept_mk, kept_eta, ite_self, kept_ite, kept_evalAll, kept_moveTo, kept_refEvent, kept_setCheck, kept_splitUpdate, kept_updRef, *]; done
           clear_value x)
        | (have hx : ∀ a b y, kept (x a b y) = kept y := by
             intro a b y; simp only [x, kept_mk, kept_eta, ite_self, kept_ite, kept_evalAll, kept_moveTo, kept_refEvent, kept_setCheck, kept_splitUpdate, kept_updRef, *]; done
           clear_value x)
        | clear_value x)
    | (refine (kept_foldl _ (fun s x => ?_) _ _).trans ?_)
    | (simp only [kept_mk, kept_eta, ite_self, kept_ite, kept_evalAll, kept_moveTo, kept_refEvent, kept_setCheck, kept_splitUpdate, kept_updRef]; refine (kept_foldl _ (fun s x => ?_) _ _).trans ?_)
    | split
theorem kept_qualTimeExpiry (src : Nat) (s : State) : kept (qualTimeExpiry src s) = kept s := by
  unfold qualTimeExpiry
  repeat' split
  all_goals (first | with_reducible rfl | (simp only [kept_mk, kept_eta, ite_self, kept_ite, kept_evalAll, kept_moveTo, kept_toQualified]; done))
theorem kept_wtrExpiry (src : Nat) (s : State) : kept (wtrExpiry src s) = kept s := by
  unfold wtrExpiry
  repeat' split
  all_goals (first | with_reducible rfl | (simp only [kept_mk, kept_eta, ite_self, kept_ite, kept_evalAll, kept_moveTo, kept_toQualified]; done))
theorem kept_splitTimer (d a b : Nat) (byPhase : Bool) (s : State) : kept (splitTimer d a b byPhase s) = kept s := by
  unfold splitTimer
  repeat' first
    | with_reducible rfl
    | (simp only [kept_mk, kept_eta, ite_self, kept_ite, kept_moveTo, kept_raiseIdx, *]; done)
    | (simp only [kept_mk, kept_eta, ite_self, kept_ite, kept_moveTo, kept_raiseIdx]; done)
    | (first | (intro x) | (lift_lets; intro x)
       first
        | (have hx : kept x = kept s := by
             first
               | (simp only [x, kept_mk, kept_eta, ite_self, kept_ite, kept_moveTo, kept_raiseIdx, *]; done)
               | (dsimp only [x]
                  repeat' first
                    | with_reducible rfl
                    | (simp only [kept_mk, kept_eta, ite_self, kept_ite, kept_moveTo, kept_raiseIdx, *]; done)
                    | (refine (kept_foldl _ (fun s x => ?_) _ _).trans ?_)
                    | split
                  done)
           clear_value x)
        | (have hx : ∀ y, kept (x y) = kept y := by
             intro y; simp only [x, kept_mk, kept_eta, ite_self, kept_ite, kept_moveTo, kept_raiseIdx, *]; done
           clear_value x)
        | (have hx : ∀ y, kept (x y).2 = kept y := by
             intro y; simp only [x, kept_mk, kept_eta, ite_self, kept_ite, kept_moveTo, kept_raiseIdx, *]; done
           clear_value x)
        | (have hx : ∀ a b y, kept (x a b y) = kept y := by
             intro a b y; simp only [x, kept_mk, kept_eta, ite_self, kept_ite, kept_moveTo, kept_raiseIdx, *]; done
           clear_value x)
        | clear_value x)
    | (refine (kept_foldl _ (fun s x => ?_) _ _).trans ?_)
    | (simp only [kept_mk, kept_eta, ite_self, kept_ite, kept_moveTo, kept_raiseIdx]; refine (kept_foldl _ (fun s x => ?_) _ _).trans ?_)
    | split
theorem kept_acceptChoice (o : Nat) (step : Bool) (s : State) : kept (acceptChoice o step s) = kept s := by
  unfold acceptChoice
  dsimp only
  repeat' split
  all_goals (first | with_reducible rfl | (simp only [kept_mk, kept_eta, ite_self, kept_ite, kept_raise, kept_tAccept]; done))
theorem kept_dpllLock (d : Nat) (s : State) : kept (dpllLock d s) = kept s := by
  unfold dpllLock
  dsimp only
  repeat' split
  all_goals (first | with_reducible rfl | (simp only [kept_mk, kept_eta, ite_self, kept_ite, kept_enterLocked, kept_moveTo, kept_settleBound]; done))
theorem kept_lateAlerts (s : State) : kept (lateAlerts s) = kept s := by
  unfold lateAlerts
  repeat' first
    | with_reducible rfl
    | (simp only [kept_mk, kept_eta, ite_self, kept_ite, kept_raise, *]; done)
    | (simp only [kept_mk, kept_eta, ite_self, kept_ite, kept_raise]; done)
    | (first | (intro x) | (lift_lets; intro x)
       first
        | (have hx : kept x = kept s := by
             first
               | (simp only [x, kept_mk, kept_eta, ite_self, kept_ite, kept_raise, *]; done)
               | (dsimp only [x]
                  repeat' first
                    | with_reducible rfl
                    | (simp only [kept_mk, kept_eta, ite_self, kept_ite, kept_raise, *]; done)
                    | (refine (kept_foldl _ (fun s x => ?_) _ _).trans ?_)
                    | split
                  done)
           clear_value x)
        | (have hx : ∀ y, kept (x y) = kept y := by
             intro y; simp only [x, kept_mk, kept_eta, ite_self, kept_ite, kept_raise, *]; done
           clear_value x)
        | (have hx : ∀ y, kept (x y).2 = kept y := by
             intro y; simp only [x, kept_mk, kept_eta, ite_self, kept_ite, kept_raise, *]; done
           clear_value x)
        | (have hx : ∀ a b y, kept (x a b y) = kept y := by
             intro a b y; simp only [x, kept_mk, kept_eta, ite_self, kept_ite, kept_raise, *]; done
           clear_value x)
        | clear_value x)
    | (refine (kept_foldl _ (fun s x => ?_) _ _).trans ?_)
    | (simp only [kept_mk, kept_eta, ite_self, kept_ite, kept_raise]; refine (kept_foldl _ (fun s x => ?_) _ _).trans ?_)
    | split
theorem kept_freqStepEstimate (d : Nat) (s : State) : kept (freqStepEstimate d s) = kept s := by
  unfold freqStepEstimate
  dsimp only
  repeat' split
  all_goals (first | with_reducible rfl | (simp only [kept_mk, kept_eta, ite_self, kept_ite, kept_disturb, kept_lateAlerts, kept_moveTo, kept_occur, kept_raise, kept_settleBound, kept_updDpll]; done))
theorem kept_learnValues (s : State) : kept (learnValues s) = kept s := by
  simp only [learnValues, kept_mk, kept_eta, ite_self, kept_ite]
theorem kept_modelLearned (s : State) : kept (modelLearned s) = kept s := by
  unfold modelLearned
  dsimp only
  repeat' split
  all_goals (first | with_reducible rfl | (simp only [kept_mk, kept_eta, ite_self, kept_ite, kept_learnValues, kept_moveTo, kept_raise]; done))
theorem kept_steerPeriod (s : State) : kept (steerPeriod s) = kept s := by
  unfold steerPeriod
  dsimp only
  repeat' split
  all_goals (first | with_reducible rfl | (simp only [kept_mk, kept_eta, ite_self, kept_ite, kept_emit, kept_moveTo]; done))
theorem kept_meldSteer (step : Int) (unc : Nat) (s : State) : kept (meldSteer step unc s) = kept s := by
  simp only [meldSteer, kept_mk, kept_eta, ite_self, kept_ite]
theorem kept_cutSteer (step : Int) (unc : Nat) (s : State) : kept (cutSteer step unc s) = kept s := by
  unfold cutSteer
  dsimp only
  repeat' split
  all_goals (first | with_reducible rfl | (simp only [kept_mk, kept_eta, ite_self, kept_ite]; done))
theorem kept_steerSent (ps : Nat) (s : State) : kept (steerSent ps s) = kept s := by
  unfold steerSent
  dsimp only
  repeat' split
  all_goals (first | with_reducible rfl | (simp only [kept_mk, kept_eta, ite_self, kept_ite, kept_begin_, kept_bump, kept_cutSteer, kept_meldSteer]; done))
theorem kept_steerAck (ps : Nat) (bs : Bytes) (s : State) : kept (steerAck ps bs s) = kept s := by
  unfold steerAck
  dsimp only
  repeat' split
  all_goals (first | with_reducible rfl | (simp only [kept_mk, kept_eta, ite_self, kept_ite, kept_begin_, kept_meldSteer]; done))
theorem kept_steerNoack (s : State) : kept (steerNoack s) = kept s := by
  unfold steerNoack
  dsimp only
  repeat' split
  all_goals (first | with_reducible rfl | (simp only [kept_mk, kept_eta, ite_self, kept_ite, kept_bump, kept_meldSteer, kept_moveTo, kept_raise, kept_restartLearning]; done))
theorem kept_boundGrown (ps : Nat) (s : State) : kept (boundGrown ps s) = kept s := by
  simp only [boundGrown, kept_mk, kept_eta, ite_self, kept_ite, kept_begin_, kept_settleBound]
theorem kept_missedUpdate (s : State) : kept (missedUpdate s) = kept s := by
  simp only [missedUpdate, kept_mk, kept_eta, ite_self, kept_ite, kept_moveToCounter, kept_raise]
theorem kept_meldUpdate (s : State) : kept (meldUpdate s) = kept s := by
  simp only [meldUpdate, kept_mk, kept_eta, ite_self, kept_ite, kept_missedUpdate, kept_moveToCounter]
theorem kept_voteDone (code src : Nat) (s : State) : kept (voteDone code src s) = kept s := by
  simp only [voteDone, kept_mk, kept_eta, ite_self, kept_ite, kept_raise]
theorem kept_voteNamed (named : Option (Nat × Nat)) (base : Option PhaseBase) (s : State) : kept (voteNamed named base s) = kept s := by
  unfold voteNamed
  dsimp only
  repeat' split
  all_goals (first | with_reducible rfl | (simp only [kept_mk, kept_eta, ite_self, kept_ite, kept_raise, kept_setCheck, kept_voteDone]; done))
theorem kept_computeVote (v : VoteDue) (s : State) : kept (computeVote v s) = kept s := by
  unfold computeVote
  dsimp only
  repeat' split
  all_goals simp only [kept_voteNamed, kept_voteDone, kept_mk, kept_eta]
theorem kept_outlierResiduals (s : State) : kept (outlierResiduals s) = kept s := by
  simp only [outlierResiduals, kept_mk, kept_eta, ite_self, kept_ite]
theorem kept_consistTest (s : State) : kept (consistTest s) = kept s := by
  unfold consistTest
  dsimp only
  repeat' split
  all_goals (first | with_reducible rfl | (simp only [kept_mk, kept_eta, ite_self, kept_ite, kept_raise]; done))
theorem kept_holdSteer (s : State) : kept (holdSteer s) = kept s := by
  unfold holdSteer
  repeat' first
    | with_reducible rfl
    | (simp only [kept_mk, kept_eta, ite_self, kept_ite, kept_setRate, kept_updDpll, *]; done)
    | (simp only [kept_mk, kept_eta, ite_self, kept_ite, kept_setRate, kept_updDpll]; done)
    | (first | (intro x) | (lift_lets; intro x)
       first
        | (have hx : kept x = kept s := by
             first
               | (simp only [x, kept_mk, kept_eta, ite_self, kept_ite, kept_setRate, kept_updDpll, *]; done)
               | (dsimp only [x]
                  repeat' first
                    | with_reducible rfl
                    | (simp only [kept_mk, kept_eta, ite_self, kept_ite, kept_setRate, kept_updDpll, *]; done)
                    | (refine (kept_foldl _ (fun s x => ?_) _ _).trans ?_)
                    | split
                  done)
           clear_value x)
        | (have hx : ∀ y, kept (x y) = kept y := by
             intro y; simp only [x, kept_mk, kept_eta, ite_self, kept_ite, kept_setRate, kept_updDpll, *]; done
           clear_value x)
        | (have hx : ∀ y, kept (x y).2 = kept y := by
             intro y; simp only [x, kept_mk, kept_eta, ite_self, kept_ite, kept_setRate, kept_updDpll, *]; done
           clear_value x)
        | (have hx : ∀ a b y, kept (x a b y) = kept y := by
             intro a b y; simp only [x, kept_mk, kept_eta, ite_self, kept_ite, kept_setRate, kept_updDpll, *]; done
           clear_value x)
        | clear_value x)
    | (refine (kept_foldl _ (fun s x => ?_) _ _).trans ?_)
    | (simp only [kept_mk, kept_eta, ite_self, kept_ite, kept_setRate, kept_updDpll]; refine (kept_foldl _ (fun s x => ?_) _ _).trans ?_)
    | split
theorem kept_setEstimates (x : List Int) (c : List (List Int)) (s : State) : kept (setEstimates x c s) = kept s := by
  simp only [setEstimates, kept_mk, kept_eta, ite_self, kept_ite]
theorem kept_reinitMember (k : Nat) (phase : Int) (n : Nat) (s : State) : kept (reinitMember k phase n s) = kept s := by
  simp only [reinitMember, kept_mk, kept_eta, ite_self, kept_ite, kept_setEstimates]
theorem kept_enterSteer (s : State) : kept (enterSteer s) = kept s := by
  simp only [enterSteer, kept_mk, kept_eta, ite_self, kept_ite]
theorem kept_predictUpdate (dt : Nat) (s : State) : kept (predictUpdate dt s).2 = kept s := by
  unfold predictUpdate
  dsimp only
  repeat' split
  all_goals (first | with_reducible rfl | (simp only [kept_mk, kept_eta, ite_self, kept_ite, kept_setEstimates]; done))
theorem kept_predictUpdate_of {dt : Nat} {s : State} {u0} {tt : State} (h : predictUpdate dt s = (u0, tt)) : kept tt = kept s := by
  have e := kept_predictUpdate dt s
  rw [h] at e; exact e
theorem kept_updateMembers (meas : List (Option (Int × Nat))) (s : State) : kept (updateMembers meas s) = kept s := by
  unfold updateMembers
  repeat' first
    | with_reducible rfl
    | (simp only [kept_mk, kept_eta, ite_self, kept_ite, kept_reinitMember, *]; done)
    | (simp only [kept_mk, kept_eta, ite_self, kept_ite, kept_reinitMember]; done)
    | (first | (intro x) | (lift_lets; intro x)
       first
        | (have hx : kept x = kept s := by
             first
               | (simp only [x, kept_mk, kept_eta, ite_self, kept_ite, kept_reinitMember, *]; done)
               | (dsimp only [x]
                  repeat' first
                    | with_reducible rfl
                    | (simp only [kept_mk, kept_eta, ite_self, kept_ite, kept_reinitMember, *]; done)
                    | (refine (kept_foldl _ (fun s x => ?_) _ _).trans ?_)
                    | split
                  done)
           clear_value x)
        | (have hx : ∀ y, kept (x y) = kept y := by
             intro y; simp only [x, kept_mk, kept_eta, ite_self, kept_ite, kept_reinitMember, *]; done
           clear_value x)
        | (have hx : ∀ y, kept (x y).2 = kept y := by
             intro y; simp only [x, kept_mk, kept_eta, ite_self, kept_ite, kept_reinitMember, *]; done
           clear_value x)
        | (have hx : ∀ a b y, kept (x a b y) = kept y := by
             intro a b y; simp only [x, kept_mk, kept_eta, ite_self, kept_ite, kept_reinitMember, *]; done
           clear_value x)
        | clear_value x)
    | (refine (kept_foldl _ (fun s x => ?_) _ _).trans ?_)
    | (simp only [kept_mk, kept_eta, ite_self, kept_ite, kept_reinitMember]; refine (kept_foldl _ (fun s x => ?_) _ _).trans ?_)
    | split
theorem kept_absorbAll (meas : List (Option (Int × Nat))) (out : List Bool) (s : State) : kept (absorbAll meas out s) = kept s := by
  simp only [absorbAll, kept_mk, kept_eta, ite_self, kept_ite, kept_setEstimates]
theorem kept_closeUpdate (inst raw : Nat) (adv : Int) (s : State) : kept (closeUpdate inst raw adv s) = kept s := by
  simp only [closeUpdate, kept_mk, kept_eta, ite_self, kept_ite, kept_bump]
theorem kept_setRejects (k n : Nat) (s : State) : kept (setRejects k n s) = kept s := by
  simp only [setRejects, kept_mk, kept_eta, ite_self, kept_ite]
theorem kept_gateReinit (k : Nat) (ph : Int) (n : Nat) (s : State) : kept (gateReinit k ph n s) = kept s := by
  simp only [gateReinit, kept_mk, kept_eta, ite_self, kept_ite, kept_raise, kept_reinitMember]
theorem kept_gateMembers (meas taken : List (Option (Int × Nat))) (out : List Bool) (s : State) : kept (gateMembers meas taken out s) = kept s := by
  unfold gateMembers
  repeat' first
    | with_reducible rfl
    | (simp only [kept_mk, kept_eta, ite_self, kept_ite, kept_bump, kept_gateReinit, kept_setRejects, *]; done)
    | (simp only [kept_mk, kept_eta, ite_self, kept_ite, kept_bump, kept_gateReinit, kept_setRejects]; done)
    | (first | (intro x) | (lift_lets; intro x)
       first
        | (have hx : kept x = kept s := by
             first
               | (simp only [x, kept_mk, kept_eta, ite_self, kept_ite, kept_bump, kept_gateReinit, kept_setRejects, *]; done)
               | (dsimp only [x]
                  repeat' first
                    | with_reducible rfl
                    | (simp only [kept_mk, kept_eta, ite_self, kept_ite, kept_bump, kept_gateReinit, kept_setRejects, *]; done)
                    | (refine (kept_foldl _ (fun s x => ?_) _ _).trans ?_)
                    | split
                  done)
           clear_value x)
        | (have hx : ∀ y, kept (x y) = kept y := by
             intro y; simp only [x, kept_mk, kept_eta, ite_self, kept_ite, kept_bump, kept_gateReinit, kept_setRejects, *]; done
           clear_value x)
        | (have hx : ∀ y, kept (x y).2 = kept y := by
             intro y; simp only [x, kept_mk, kept_eta, ite_self, kept_ite, kept_bump, kept_gateReinit, kept_setRejects, *]; done
           clear_value x)
        | (have hx : ∀ a b y, kept (x a b y) = kept y := by
             intro a b y; simp only [x, kept_mk, kept_eta, ite_self, kept_ite, kept_bump, kept_gateReinit, kept_setRejects, *]; done
           clear_value x)
        | clear_value x)
    | (refine (kept_foldl _ (fun s x => ?_) _ _).trans ?_)
    | (simp only [kept_mk, kept_eta, ite_self, kept_ite, kept_bump, kept_gateReinit, kept_setRejects]; refine (kept_foldl _ (fun s x => ?_) _ _).trans ?_)
    | split
theorem kept_learnUpdate (s : State) : kept (learnUpdate s) = kept s := by
  unfold learnUpdate
  dsimp only
  repeat' split
  all_goals (first | with_reducible rfl | (simp only [kept_mk, kept_eta, ite_self, kept_ite, kept_learnValues]; done))
theorem kept_dueVotes (raw : Nat) (s : State) : kept (dueVotes raw s) = kept s := by
  unfold dueVotes
  repeat' first
    | with_reducible rfl
    | (simp only [kept_mk, kept_eta, ite_self, kept_ite, kept_computeVote, *]; done)
    | (simp only [kept_mk, kept_eta, ite_self, kept_ite, kept_computeVote]; done)
    | (first | (intro x) | (lift_lets; intro x)
       first
        | (have hx : kept x = kept s := by
             first
               | (simp only [x, kept_mk, kept_eta, ite_self, kept_ite, kept_computeVote, *]; done)
               | (dsimp only [x]
                  repeat' first
                    | with_reducible rfl
                    | (simp only [kept_mk, kept_eta, ite_self, kept_ite, kept_computeVote, *]; done)
                    | (refine (kept_foldl _ (fun s x => ?_) _ _).trans ?_)
                    | split
                  done)
           clear_value x)
        | (have hx : ∀ y, kept (x y) = kept y := by
             intro y; simp only [x, kept_mk, kept_eta, ite_self, kept_ite, kept_computeVote, *]; done
           clear_value x)
        | (have hx : ∀ y, kept (x y).2 = kept y := by
             intro y; simp only [x, kept_mk, kept_eta, ite_self, kept_ite, kept_computeVote, *]; done
           clear_value x)
        | (have hx : ∀ a b y, kept (x a b y) = kept y := by
             intro a b y; simp only [x, kept_mk, kept_eta, ite_self, kept_ite, kept_computeVote, *]; done
           clear_value x)
        | clear_value x)
    | (refine (kept_foldl _ (fun s x => ?_) _ _).trans ?_)
    | (simp only [kept_mk, kept_eta, ite_self, kept_ite, kept_computeVote]; refine (kept_foldl _ (fun s x => ?_) _ _).trans ?_)
    | split
theorem kept_afterUpdate (raw : Nat) (s : State) : kept (afterUpdate raw s) = kept s := by
  simp only [afterUpdate, kept_mk, kept_eta, ite_self, kept_ite, kept_consistTest, kept_dueVotes, kept_learnUpdate, kept_outlierResiduals]
theorem kept_runFilter (inst raw : Nat) (s : State) : kept (runFilter inst raw s) = kept s := by
  unfold runFilter
  dsimp only
  repeat' split
  all_goals (first | with_reducible rfl | (simp only [kept_mk, kept_eta, ite_self, kept_ite, kept_absorbAll, kept_closeUpdate, kept_enterSteer, kept_gateMembers, kept_predictUpdate, kept_updateMembers]; done))
theorem kept_meldUpdateDone (ps : Nat) (s : State) : kept (meldUpdateDone ps s) = kept s := by
  unfold meldUpdateDone
  dsimp only
  repeat' split
  all_goals (first | with_reducible rfl | (simp only [kept_mk, kept_eta, ite_self, kept_ite, kept_afterUpdate, kept_begin_, kept_evalAll, kept_holdSteer, kept_runFilter]; done))
theorem kept_outlierClear (slot : Nat) (s : State) : kept (outlierClear slot s) = kept s := by
  have key : ∀ (o : Nat) (x : State), kept x = kept s → kept (evalAll (setCheck o cOutlier false (raise 5 2 { x with meld := { x.meld with slots := upd x.meld.slots slot (fun m => { m with outlier := false, outlierSmall := none, residual := 0 }) } }))) = kept s := by
    intro o x h
    simp only [kept_evalAll, kept_setCheck, kept_raise, kept_mk, kept_eta, h]
  unfold outlierClear
  dsimp only
  split
  · exact key _ _ (kept_moveTo _ _)
  · rfl
theorem kept_horizon (s : State) : kept (horizon s) = kept s := by
  unfold horizon
  dsimp only
  repeat' split
  all_goals (first | with_reducible rfl | (simp only [kept_mk, kept_eta, ite_self, kept_ite, kept_moveTo, kept_raise, kept_settleBound]; done))

end Sys2Proof.Machine
end

