-- ==== Sys2Proof/Laws/KeptMeld.lean ====
section
/-! SUPPORT. What the operations leave alone, as `kept` says it, one lemma each: Gnss, TdcOps, Out, Tdc, PortOps, NtpOps, PtpOps. -/
set_option linter.unusedSimpArgs false
set_option linter.unusedVariables false
namespace Sys2Proof.Machine
open Sys2Proof Host

theorem kept_updGnss (f : GnssRun → GnssRun) (s : State) : kept (updGnss f s) = kept s := by
  simp only [updGnss, kept_mk, kept_eta, ite_self, kept_ite]
theorem kept_storeNav (key : Nat) (item : NavItem) (s : State) : kept (storeNav key item s) = kept s := by
  simp only [storeNav, kept_mk, kept_eta, ite_self, kept_ite, kept_updGnss]
theorem kept_applyAids (s : State) : kept (applyAids s) = kept s := by
  unfold applyAids
  repeat' first
    | with_reducible rfl
    | (simp only [kept_mk, kept_eta, ite_self, kept_ite, kept_storeNav, kept_updGnss, *]; done)
    | (simp only [kept_mk, kept_eta, ite_self, kept_ite, kept_storeNav, kept_updGnss]; done)
    | (first | (intro x) | (lift_lets; intro x)
       first
        | (have hx : kept x = kept s := by
             first
               | (simp only [x, kept_mk, kept_eta, ite_self, kept_ite, kept_storeNav, kept_updGnss, *]; done)
               | (dsimp only [x]
                  repeat' first
                    | with_reducible rfl
                    | (simp only [kept_mk, kept_eta, ite_self, kept_ite, kept_storeNav, kept_updGnss, *]; done)
                    | (refine (kept_foldl _ (fun s x => ?_) _ _).trans ?_)
                    | split
                  done)
           clear_value x)
        | (have hx : ∀ y, kept (x y) = kept y := by
             intro y; simp only [x, kept_mk, kept_eta, ite_self, kept_ite, kept_storeNav, kept_updGnss, *]; done
           clear_value x)
        | (have hx : ∀ y, kept (x y).2 = kept y := by
             intro y; simp only [x, kept_mk, kept_eta, ite_self, kept_ite, kept_storeNav, kept_updGnss, *]; done
           clear_value x)
        | (have hx : ∀ a b y, kept (x a b y) = kept y := by
             intro a b y; simp only [x, kept_mk, kept_eta, ite_self, kept_ite, kept_storeNav, kept_updGnss, *]; done
           clear_value x)
        | clear_value x)
    | (refine (kept_foldl _ (fun s x => ?_) _ _).trans ?_)
    | (simp only [kept_mk, kept_eta, ite_self, kept_ite, kept_storeNav, kept_updGnss]; refine (kept_foldl _ (fun s x => ?_) _ _).trans ?_)
    | split
theorem kept_dropChannels (s : State) : kept (dropChannels s) = kept s := by
  simp only [dropChannels, kept_mk, kept_eta, ite_self, kept_ite, kept_updGnss]
theorem kept_clearSurvey (s : State) : kept (clearSurvey s) = kept s := by
  simp only [clearSurvey, kept_mk, kept_eta, ite_self, kept_ite, kept_updGnss]
theorem kept_holdGiven (s : State) : kept (holdGiven s) = kept s := by
  simp only [holdGiven, kept_mk, kept_eta, ite_self, kept_ite, kept_updGnss]
theorem kept_applySurvey (s : State) : kept (applySurvey s) = kept s := by
  unfold applySurvey
  dsimp only
  repeat' split
  all_goals (first | with_reducible rfl | (simp only [kept_mk, kept_eta, ite_self, kept_ite, kept_clearSurvey, kept_holdGiven, kept_updGnss]; done))
theorem kept_gnssUnhealthy (s : State) : kept (gnssUnhealthy s) = kept s := by
  simp only [gnssUnhealthy, kept_mk, kept_eta, ite_self, kept_ite, kept_evalAll, kept_sourceSilent, kept_updRef]
theorem kept_noFix (s : State) : kept (noFix s) = kept s := by
  simp only [noFix, kept_mk, kept_eta, ite_self, kept_ite, kept_bump, kept_gnssUnhealthy, kept_raise, kept_updGnss]
theorem kept_gspiWords (s : State) : kept (gspiWords s) = kept s := by
  unfold gspiWords
  repeat' first
    | with_reducible rfl
    | (simp only [kept_mk, kept_eta, ite_self, kept_ite, kept_emit, kept_updGnss, *]; done)
    | (simp only [kept_mk, kept_eta, ite_self, kept_ite, kept_emit, kept_updGnss]; done)
    | (first | (intro x) | (lift_lets; intro x)
       first
        | (have hx : kept x = kept s := by
             first
               | (simp only [x, kept_mk, kept_eta, ite_self, kept_ite, kept_emit, kept_updGnss, *]; done)
               | (dsimp only [x]
                  repeat' first
                    | with_reducible rfl
                    | (simp only [kept_mk, kept_eta, ite_self, kept_ite, kept_emit, kept_updGnss, *]; done)
                    | (refine (kept_foldl _ (fun s x => ?_) _ _).trans ?_)
                    | split
                  done)
           clear_value x)
        | (have hx : ∀ y, kept (x y) = kept y := by
             intro y; simp only [x, kept_mk, kept_eta, ite_self, kept_ite, kept_emit, kept_updGnss, *]; done
           clear_value x)
        | (have hx : ∀ y, kept (x y).2 = kept y := by
             intro y; simp only [x, kept_mk, kept_eta, ite_self, kept_ite, kept_emit, kept_updGnss, *]; done
           clear_value x)
        | (have hx : ∀ a b y, kept (x a b y) = kept y := by
             intro a b y; simp only [x, kept_mk, kept_eta, ite_self, kept_ite, kept_emit, kept_updGnss, *]; done
           clear_value x)
        | clear_value x)
    | (refine (kept_foldl _ (fun s x => ?_) _ _).trans ?_)
    | (simp only [kept_mk, kept_eta, ite_self, kept_ite, kept_emit, kept_updGnss]; refine (kept_foldl _ (fun s x => ?_) _ _).trans ?_)
    | split
theorem kept_gnssToOff (s : State) : kept (gnssToOff s) = kept s := by
  simp only [gnssToOff, kept_mk, kept_eta, ite_self, kept_ite, kept_dropChannels, kept_gnssUnhealthy, kept_updGnss]
theorem kept_gnssStart (s : State) : kept (gnssStart s) = kept s := by
  simp only [gnssStart, kept_mk, kept_eta, ite_self, kept_ite, kept_gspiWords, kept_updGnss]
theorem kept_gnssCommit (old : GnssCfg) (s : State) : kept (gnssCommit old s) = kept s := by
  simp only [gnssCommit, kept_mk, kept_eta, ite_self, kept_ite, kept_updGnss]
theorem kept_takeChange (s : State) : kept (takeChange s) = kept s := by
  unfold takeChange
  dsimp only
  repeat' split
  all_goals (first | with_reducible rfl | (simp only [kept_mk, kept_eta, ite_self, kept_ite, kept_gnssStart, kept_gnssToOff, kept_updGnss]; done))
theorem kept_solved (offset : Int) (unc : Nat) (usedPrns : List Nat) (s : State) : kept (solved offset unc usedPrns s) = kept s := by
  simp only [solved, kept_mk, kept_eta, ite_self, kept_ite, kept_bump, kept_raise, kept_updGnss]
theorem kept_holdEpoch (u : List SatMeas) (s : State) : kept (holdEpoch u s) = kept s := by
  unfold holdEpoch
  repeat' first
    | with_reducible rfl
    | (simp only [kept_mk, kept_eta, ite_self, kept_ite, kept_noFix, kept_raise, kept_solved, kept_updGnss, *]; done)
    | (simp only [kept_mk, kept_eta, ite_self, kept_ite, kept_noFix, kept_raise, kept_solved, kept_updGnss]; done)
    | (first | (intro x) | (lift_lets; intro x)
       first
        | (have hx : kept x = kept s := by
             first
               | (simp only [x, kept_mk, kept_eta, ite_self, kept_ite, kept_noFix, kept_raise, kept_solved, kept_updGnss, *]; done)
               | (dsimp only [x]
                  repeat' first
                    | with_reducible rfl
                    | (simp only [kept_mk, kept_eta, ite_self, kept_ite, kept_noFix, kept_raise, kept_solved, kept_updGnss, *]; done)
                    | (refine (kept_foldl _ (fun s x => ?_) _ _).trans ?_)
                    | split
                  done)
           clear_value x)
        | (have hx : ∀ y, kept (x y) = kept y := by
             intro y; simp only [x, kept_mk, kept_eta, ite_self, kept_ite, kept_noFix, kept_raise, kept_solved, kept_updGnss, *]; done
           clear_value x)
        | (have hx : ∀ y, kept (x y).2 = kept y := by
             intro y; simp only [x, kept_mk, kept_eta, ite_self, kept_ite, kept_noFix, kept_raise, kept_solved, kept_updGnss, *]; done
           clear_value x)
        | (have hx : ∀ a b y, kept (x a b y) = kept y := by
             intro a b y; simp only [x, kept_mk, kept_eta, ite_self, kept_ite, kept_noFix, kept_raise, kept_solved, kept_updGnss, *]; done
           clear_value x)
        | clear_value x)
    | (refine (kept_foldl _ (fun s x => ?_) _ _).trans ?_)
    | (simp only [kept_mk, kept_eta, ite_self, kept_ite, kept_noFix, kept_raise, kept_solved, kept_updGnss]; refine (kept_foldl _ (fun s x => ?_) _ _).trans ?_)
    | split
theorem kept_takeMeas (meas : List SatMeas) (s : State) : kept (takeMeas meas s) = kept s := by
  simp only [takeMeas, kept_mk, kept_eta, ite_self, kept_ite, kept_updGnss]
theorem kept_solveEpoch (u : List SatMeas) (fix : Option SatFix) (s : State) : kept (solveEpoch u fix s).2 = kept s := by
  unfold solveEpoch
  dsimp only
  repeat' split
  all_goals (first | with_reducible rfl | (simp only [kept_mk, kept_eta, ite_self, kept_ite, kept_clearSurvey, kept_holdEpoch, kept_holdGiven, kept_noFix, kept_raise, kept_solved, kept_updGnss]; done))
theorem kept_solveEpoch_of {u : List SatMeas} {fix : Option SatFix} {s : State} {u0} {tt : State} (h : solveEpoch u fix s = (u0, tt)) : kept tt = kept s := by
  have e := kept_solveEpoch u fix s
  rw [h] at e; exact e
theorem kept_openEpoch (s : State) : kept (openEpoch s) = kept s := by
  simp only [openEpoch, kept_mk, kept_eta, ite_self, kept_ite, kept_applyAids, kept_applySurvey, kept_moveToCounter, kept_takeChange, kept_updGnss]
theorem kept_surveyEpoch (pos : Option (Int × Int × Int)) (s : State) : kept (surveyEpoch pos s) = kept s := by
  simp only [surveyEpoch, kept_mk, kept_eta, ite_self, kept_ite, kept_updGnss]
theorem kept_gnssEpoch (meas : List SatMeas) (fix : Option SatFix) (s : State) : kept (gnssEpoch meas fix s) = kept s := by
  simp only [gnssEpoch, kept_mk, kept_eta, ite_self, kept_ite, kept_noFix, kept_openEpoch, kept_solveEpoch, kept_surveyEpoch, kept_takeMeas]
theorem kept_gnssSample (ps : Nat) (s : State) : kept (gnssSample ps s) = kept s := by
  unfold gnssSample
  dsimp only
  repeat' split
  all_goals (first | with_reducible rfl | (simp only [kept_mk, kept_eta, ite_self, kept_ite, kept_deliver, kept_moveTo, kept_takeLeapNews, kept_updGnss, kept_updRef]; done))
theorem kept_clkFault (s : State) : kept (clkFault s) = kept s := by
  simp only [clkFault, kept_mk, kept_eta, ite_self, kept_ite, kept_dropChannels, kept_gnssUnhealthy, kept_raise, kept_updGnss]
theorem kept_checkClock (offset : Int) (s : State) : kept (checkClock offset s) = kept s := by
  simp only [checkClock, kept_mk, kept_eta, ite_self, kept_ite, kept_clkFault, kept_updGnss]
theorem kept_clockFit (ps : Nat) (l : List GnssBits) (s : State) : kept (clockFit ps l s) = kept s := by
  unfold clockFit
  dsimp only
  repeat' split
  all_goals (first | with_reducible rfl | (simp only [kept_mk, kept_eta, ite_self, kept_ite, kept_begin_, kept_checkClock, kept_updGnss]; done))
theorem kept_assignChannel (prn k : Nat) (s : State) : kept (assignChannel prn k s) = kept s := by
  simp only [assignChannel, kept_mk, kept_eta, ite_self, kept_ite, kept_updGnss]
theorem kept_dwell (ps prn : Nat) (found : Option (Int × Int)) (s : State) : kept (dwell ps prn found s) = kept s := by
  unfold dwell
  dsimp only
  repeat' split
  all_goals (first | with_reducible rfl | (simp only [kept_mk, kept_eta, ite_self, kept_ite, kept_assignChannel, kept_begin_]; done))
theorem kept_lockLost (ps prn : Nat) (s : State) : kept (lockLost ps prn s) = kept s := by
  simp only [lockLost, kept_mk, kept_eta, ite_self, kept_ite, kept_begin_, kept_updGnss]
theorem kept_reacquireTimeout (prn : Nat) (s : State) : kept (reacquireTimeout prn s) = kept s := by
  unfold reacquireTimeout
  repeat' split
  all_goals (first | with_reducible rfl | (simp only [kept_mk, kept_eta, ite_self, kept_ite, kept_moveTo, kept_updGnss]; done))
theorem kept_navNew (ps kind prn : Nat) (words : Bytes) (s : State) : kept (navNew ps kind prn words s) = kept s := by
  unfold navNew
  dsimp only
  repeat' split
  all_goals (first | with_reducible rfl | (simp only [kept_mk, kept_eta, ite_self, kept_ite, kept_begin_, kept_raise, kept_storeNav]; done))
theorem kept_surveySecond (s : State) : kept (surveySecond s) = kept s := by
  simp only [surveySecond, kept_mk, kept_eta, ite_self, kept_ite, kept_raise, kept_updGnss]
theorem kept_updChan (c : Nat) (f : TdcChan → TdcChan) (s : State) : kept (updChan c f s) = kept s := by
  simp only [updChan, kept_mk, kept_eta, ite_self, kept_ite]
theorem kept_overrun (c : Nat) (s : State) : kept (overrun c s) = kept s := by
  simp only [overrun, kept_mk, kept_eta, ite_self, kept_ite, kept_updChan]
theorem kept_stepDiscard (c : Nat) (s : State) : kept (stepDiscard c s) = kept s := by
  simp only [stepDiscard, kept_mk, kept_eta, ite_self, kept_ite, kept_bump, kept_raise, kept_updChan]
theorem kept_orphan (c : Nat) (s : State) : kept (orphan c s) = kept s := by
  simp only [orphan, kept_mk, kept_eta, ite_self, kept_ite, kept_bump, kept_raise, kept_updChan]
theorem kept_addResult (c : Nat) (v stamp : Int) (uncal : Bool) (s : State) : kept (addResult c v stamp uncal s) = kept s := by
  unfold addResult
  dsimp only
  repeat' split
  all_goals (first | with_reducible rfl | (simp only [kept_mk, kept_eta, ite_self, kept_ite, kept_bump, kept_raise, kept_updChan]; done))
theorem kept_pairUp (c : Nat) (stop start : TdcStamp) (s : State) : kept (pairUp c stop start s) = kept s := by
  simp only [pairUp, kept_mk, kept_eta, ite_self, kept_ite, kept_addResult, kept_stepDiscard]
theorem kept_takeStop (c : Nat) (p : TdcStamp) (s : State) : kept (takeStop c p s) = kept s := by
  unfold takeStop
  dsimp only
  repeat' split
  all_goals (first | with_reducible rfl | (simp only [kept_mk, kept_eta, ite_self, kept_ite, kept_orphan, kept_pairUp, kept_updChan]; done))
theorem kept_takeStart (c : Nat) (a : TdcStamp) (s : State) : kept (takeStart c a s) = kept s := by
  unfold takeStart
  repeat' first
    | with_reducible rfl
    | (simp only [kept_mk, kept_eta, ite_self, kept_ite, kept_orphan, kept_pairUp, kept_updChan, *]; done)
    | (simp only [kept_mk, kept_eta, ite_self, kept_ite, kept_orphan, kept_pairUp, kept_updChan]; done)
    | (first | (intro x) | (lift_lets; intro x)
       first
        | (have hx : kept x = kept s := by
             first
               | (simp only [x, kept_mk, kept_eta, ite_self, kept_ite, kept_orphan, kept_pairUp, kept_updChan, *]; done)
               | (dsimp only [x]
                  repeat' first
                    | with_reducible rfl
                    | (simp only [kept_mk, kept_eta, ite_self, kept_ite, kept_orphan, kept_pairUp, kept_updChan, *]; done)
                    | (refine (kept_foldl _ (fun s x => ?_) _ _).trans ?_)
                    | split
                  done)
           clear_value x)
        | (have hx : ∀ y, kept (x y) = kept y := by
             intro y; simp only [x, kept_mk, kept_eta, ite_self, kept_ite, kept_orphan, kept_pairUp, kept_updChan, *]; done
           clear_value x)
        | (have hx : ∀ y, kept (x y).2 = kept y := by
             intro y; simp only [x, kept_mk, kept_eta, ite_self, kept_ite, kept_orphan, kept_pairUp, kept_updChan, *]; done
           clear_value x)
        | (have hx : ∀ a b y, kept (x a b y) = kept y := by
             intro a b y; simp only [x, kept_mk, kept_eta, ite_self, kept_ite, kept_orphan, kept_pairUp, kept_updChan, *]; done
           clear_value x)
        | clear_value x)
    | (refine (kept_foldl _ (fun s x => ?_) _ _).trans ?_)
    | (simp only [kept_mk, kept_eta, ite_self, kept_ite, kept_orphan, kept_pairUp, kept_updChan]; refine (kept_foldl _ (fun s x => ?_) _ _).trans ?_)
    | split
theorem kept_internalEdge (n : Nat) (stamp : Int) (at_ : Nat) (s : State) : kept (internalEdge n stamp at_ s) = kept s := by
  unfold internalEdge
  repeat' first
    | with_reducible rfl
    | (simp only [kept_mk, kept_eta, ite_self, kept_ite, kept_overrun, kept_raise, kept_takeStart, kept_updChan, *]; done)
    | (simp only [kept_mk, kept_eta, ite_self, kept_ite, kept_overrun, kept_raise, kept_takeStart, kept_updChan]; done)
    | (first | (intro x) | (lift_lets; intro x)
       first
        | (have hx : kept x = kept s := by
             first
               | (simp only [x, kept_mk, kept_eta, ite_self, kept_ite, kept_overrun, kept_raise, kept_takeStart, kept_updChan, *]; done)
               | (dsimp only [x]
                  repeat' first
                    | with_reducible rfl
                    | (simp only [kept_mk, kept_eta, ite_self, kept_ite, kept_overrun, kept_raise, kept_takeStart, kept_updChan, *]; done)
                    | (refine (kept_foldl _ (fun s x => ?_) _ _).trans ?_)
                    | split
                  done)
           clear_value x)
        | (have hx : ∀ y, kept (x y) = kept y := by
             intro y; simp only [x, kept_mk, kept_eta, ite_self, kept_ite, kept_overrun, kept_raise, kept_takeStart, kept_updChan, *]; done
           clear_value x)
        | (have hx : ∀ y, kept (x y).2 = kept y := by
             intro y; simp only [x, kept_mk, kept_eta, ite_self, kept_ite, kept_overrun, kept_raise, kept_takeStart, kept_updChan, *]; done
           clear_value x)
        | (have hx : ∀ a b y, kept (x a b y) = kept y := by
             intro a b y; simp only [x, kept_mk, kept_eta, ite_self, kept_ite, kept_overrun, kept_raise, kept_takeStart, kept_updChan, *]; done
           clear_value x)
        | clear_value x)
    | (refine (kept_foldl _ (fun s x => ?_) _ _).trans ?_)
    | (simp only [kept_mk, kept_eta, ite_self, kept_ite, kept_overrun, kept_raise, kept_takeStart, kept_updChan]; refine (kept_foldl _ (fun s x => ?_) _ _).trans ?_)
    | split
theorem kept_gateAt (c start : Nat) (edges : List (Nat × Int)) (uncal : Bool) (s : State) : kept (gateAt c start edges uncal s) = kept s := by
  simp only [gateAt, kept_mk, kept_eta, ite_self, kept_ite, kept_updChan]
theorem kept_openGate (c : Nat) (s : State) : kept (openGate c s) = kept s := by
  simp only [openGate, kept_mk, kept_eta, ite_self, kept_ite, kept_gateAt]
theorem kept_takeEdge (c : Nat) (stamp : Int) (uncal : Bool) (s : State) : kept (takeEdge c stamp uncal s) = kept s := by
  simp only [takeEdge, kept_mk, kept_eta, ite_self, kept_ite, kept_updChan]
theorem kept_gateEnds (c : Nat) (s : State) : kept (gateEnds c s) = kept s := by
  simp only [gateEnds, kept_mk, kept_eta, ite_self, kept_ite, kept_addResult, kept_gateAt, kept_openGate, kept_orphan, kept_stepDiscard]
theorem kept_updOut (n : Nat) (f : OutRun → OutRun) (s : State) : kept (updOut n f s) = kept s := by
  simp only [updOut, kept_mk, kept_eta, ite_self, kept_ite]
theorem kept_excursion (s : State) : kept (excursion s) = kept s := by
  simp only [excursion, kept_mk, kept_eta, ite_self, kept_ite, kept_raise, kept_settleBound]
theorem kept_excursionEnd (s : State) : kept (excursionEnd s) = kept s := by
  simp only [excursionEnd, kept_mk, kept_eta, ite_self, kept_ite, kept_excursion, kept_raise]
theorem kept_moveToDomain (d : Nat) (target : Int) (s : State) : kept (moveToDomain d target s) = kept s := by
  simp only [moveToDomain, kept_mk, kept_eta, ite_self, kept_ite, kept_moveTo, kept_moveToCounter]
theorem kept_emitKeepers (s : State) : kept (emitKeepers s) = kept s := by
  unfold emitKeepers
  repeat' first
    | with_reducible rfl
    | (simp only [kept_mk, kept_eta, ite_self, kept_ite, kept_emit, *]; done)
    | (simp only [kept_mk, kept_eta, ite_self, kept_ite, kept_emit]; done)
    | (first | (intro x) | (lift_lets; intro x)
       first
        | (have hx : kept x = kept s := by
             first
               | (simp only [x, kept_mk, kept_eta, ite_self, kept_ite, kept_emit, *]; done)
               | (dsimp only [x]
                  repeat' first
                    | with_reducible rfl
                    | (simp only [kept_mk, kept_eta, ite_self, kept_ite, kept_emit, *]; done)
                    | (refine (kept_foldl _ (fun s x => ?_) _ _).trans ?_)
                    | split
                  done)
           clear_value x)
        | (have hx : ∀ y, kept (x y) = kept y := by
             intro y; simp only [x, kept_mk, kept_eta, ite_self, kept_ite, kept_emit, *]; done
           clear_value x)
        | (have hx : ∀ y, kept (x y).2 = kept y := by
             intro y; simp only [x, kept_mk, kept_eta, ite_self, kept_ite, kept_emit, *]; done
           clear_value x)
        | (have hx : ∀ a b y, kept (x a b y) = kept y := by
             intro a b y; simp only [x, kept_mk, kept_eta, ite_self, kept_ite, kept_emit, *]; done
           clear_value x)
        | clear_value x)
    | (refine (kept_foldl _ (fun s x => ?_) _ _).trans ?_)
    | (simp only [kept_mk, kept_eta, ite_self, kept_ite, kept_emit]; refine (kept_foldl _ (fun s x => ?_) _ _).trans ?_)
    | split
theorem kept_takeCfg (n : Nat) (s : State) : kept (takeCfg n s) = kept s := by
  simp only [takeCfg, kept_mk, kept_eta, ite_self, kept_ite, kept_finishWait, kept_updOut]
theorem kept_alignEdge (n : Nat) (s : State) : kept (alignEdge n s) = kept s := by
  unfold alignEdge
  dsimp only
  repeat' split
  all_goals (first | with_reducible rfl | (simp only [kept_mk, kept_eta, ite_self, kept_ite, kept_updOut]; done))
theorem kept_trimEdge (n : Nat) (s : State) : kept (trimEdge n s) = kept s := by
  unfold trimEdge
  dsimp only
  repeat' split
  all_goals (first | with_reducible rfl | (simp only [kept_mk, kept_eta, ite_self, kept_ite, kept_updOut]; done))
theorem kept_startPeriod (n at_ width : Nat) (s : State) : kept (startPeriod n at_ width s) = kept s := by
  simp only [startPeriod, kept_mk, kept_eta, ite_self, kept_ite, kept_updOut]
theorem kept_closeGate (n : Nat) (s : State) : kept (closeGate n s) = kept s := by
  simp only [closeGate, kept_mk, kept_eta, ite_self, kept_ite, kept_emit, kept_raise, kept_updOut]
theorem kept_risingEdge (n : Nat) (s : State) : kept (risingEdge n s) = kept s := by
  unfold risingEdge
  dsimp only
  repeat' split
  all_goals (first | with_reducible rfl | (simp only [kept_mk, kept_eta, ite_self, kept_ite, kept_alignEdge, kept_closeGate, kept_emit, kept_internalEdge, kept_moveToDomain, kept_startPeriod, kept_takeCfg, kept_trimEdge, kept_updOut]; done))
theorem kept_outputEdge (n : Nat) (s : State) : kept (outputEdge n s) = kept s := by
  simp only [outputEdge, kept_mk, kept_eta, ite_self, kept_ite, kept_risingEdge]
theorem kept_outputStart (n : Nat) (s : State) : kept (outputStart n s) = kept s := by
  simp only [outputStart, kept_mk, kept_eta, ite_self, kept_ite, kept_moveToCounter, kept_risingEdge, kept_updOut]
theorem kept_outCommit (old : List OutCfg) (s : State) : kept (outCommit old s) = kept s := by
  unfold outCommit
  repeat' first
    | with_reducible rfl
    | (simp only [kept_mk, kept_eta, ite_self, kept_ite, kept_takeCfg, kept_updOut, *]; done)
    | (simp only [kept_mk, kept_eta, ite_self, kept_ite, kept_takeCfg, kept_updOut]; done)
    | (first | (intro x) | (lift_lets; intro x)
       first
        | (have hx : kept x = kept s := by
             first
               | (simp only [x, kept_mk, kept_eta, ite_self, kept_ite, kept_takeCfg, kept_updOut, *]; done)
               | (dsimp only [x]
                  repeat' first
                    | with_reducible rfl
                    | (simp only [kept_mk, kept_eta, ite_self, kept_ite, kept_takeCfg, kept_updOut, *]; done)
                    | (refine (kept_foldl _ (fun s x => ?_) _ _).trans ?_)
                    | split
                  done)
           clear_value x)
        | (have hx : ∀ y, kept (x y) = kept y := by
             intro y; simp only [x, kept_mk, kept_eta, ite_self, kept_ite, kept_takeCfg, kept_updOut, *]; done
           clear_value x)
        | (have hx : ∀ y, kept (x y).2 = kept y := by
             intro y; simp only [x, kept_mk, kept_eta, ite_self, kept_ite, kept_takeCfg, kept_updOut, *]; done
           clear_value x)
        | (have hx : ∀ a b y, kept (x a b y) = kept y := by
             intro a b y; simp only [x, kept_mk, kept_eta, ite_self, kept_ite, kept_takeCfg, kept_updOut, *]; done
           clear_value x)
        | clear_value x)
    | (refine (kept_foldl _ (fun s x => ?_) _ _).trans ?_)
    | (simp only [kept_mk, kept_eta, ite_self, kept_ite, kept_takeCfg, kept_updOut]; refine (kept_foldl _ (fun s x => ?_) _ _).trans ?_)
    | split
theorem kept_alignPulse (n ps : Nat) (s : State) : kept (alignPulse n ps s) = kept s := by
  unfold alignPulse
  dsimp only
  repeat' split
  all_goals (first | with_reducible rfl | (simp only [kept_mk, kept_eta, ite_self, kept_ite, kept_begin_, kept_finishWait, kept_updOut]; done))
theorem kept_alignTimeout (n : Nat) (s : State) : kept (alignTimeout n s) = kept s := by
  unfold alignTimeout
  repeat' split
  all_goals (first | with_reducible rfl | (simp only [kept_mk, kept_eta, ite_self, kept_ite, kept_finishWait, kept_moveTo, kept_raise, kept_updOut]; done))
theorem kept_alignDone (n : Nat) (s : State) : kept (alignDone n s) = kept s := by
  unfold alignDone
  repeat' split
  all_goals (first | with_reducible rfl | (simp only [kept_mk, kept_eta, ite_self, kept_ite, kept_raise, kept_updOut]; done))
theorem kept_placerLost (n : Nat) (s : State) : kept (placerLost n s) = kept s := by
  simp only [placerLost, kept_mk, kept_eta, ite_self, kept_ite, kept_raise, kept_updOut]
theorem kept_irigFrame (n : Nat) (s : State) : kept (irigFrame n s) = kept s := by
  unfold irigFrame
  dsimp only
  repeat' split
  all_goals (first | with_reducible rfl | (simp only [kept_mk, kept_eta, ite_self, kept_ite, kept_closeGate, kept_emit, kept_internalEdge, kept_moveToDomain, kept_startPeriod, kept_takeCfg, kept_updOut]; done))
theorem kept_sendTod (c : TodCfg) (text : Bytes) (s : State) : kept (sendTod c text s) = kept s := by
  simp only [sendTod, kept_mk, kept_eta, ite_self, kept_ite, kept_emit]
theorem kept_todGated (c : TodCfg) (b delay : Nat) (s : State) : kept (todGated c b delay s) = kept s := by
  simp only [todGated, kept_mk, kept_eta, ite_self, kept_ite, kept_moveToCounter, kept_raise, kept_sendTod]
theorem kept_toSecond (b : Nat) (s : State) : kept (toSecond b s) = kept s := by
  simp only [toSecond, kept_mk, kept_eta, ite_self, kept_ite, kept_moveToCounter]
theorem kept_todNext (c : TodCfg) (delay : Nat) (s : State) : kept (todNext c delay s) = kept s := by
  simp only [todNext, kept_mk, kept_eta, ite_self, kept_ite, kept_toSecond, kept_todGated]
theorem kept_todSentence (s : State) : kept (todSentence s) = kept s := by
  simp only [todSentence, kept_mk, kept_eta, ite_self, kept_ite, kept_todNext]
theorem kept_tdcEdge (inp ps : Nat) (pulse : EdgePulse) (s : State) : kept (tdcEdge inp ps pulse s) = kept s := by
  unfold tdcEdge
  repeat' first
    | with_reducible rfl
    | (simp only [kept_mk, kept_eta, ite_self, kept_ite, kept_begin_, kept_overrun, kept_raise, kept_takeEdge, kept_takeStart, kept_takeStop, *]; done)
    | (simp only [kept_mk, kept_eta, ite_self, kept_ite, kept_begin_, kept_overrun, kept_raise, kept_takeEdge, kept_takeStart, kept_takeStop]; done)
    | (first | (intro x) | (lift_lets; intro x)
       first
        | (have hx : kept x = kept s := by
             first
               | (simp only [x, kept_mk, kept_eta, ite_self, kept_ite, kept_begin_, kept_overrun, kept_raise, kept_takeEdge, kept_takeStart, kept_takeStop, *]; done)
               | (dsimp only [x]
                  repeat' first
                    | with_reducible rfl
                    | (simp only [kept_mk, kept_eta, ite_self, kept_ite, kept_begin_, kept_overrun, kept_raise, kept_takeEdge, kept_takeStart, kept_takeStop, *]; done)
                    | (refine (kept_foldl _ (fun s x => ?_) _ _).trans ?_)
                    | split
                  done)
           clear_value x)
        | (have hx : ∀ y, kept (x y) = kept y := by
             intro y; simp only [x, kept_mk, kept_eta, ite_self, kept_ite, kept_begin_, kept_overrun, kept_raise, kept_takeEdge, kept_takeStart, kept_takeStop, *]; done
           clear_value x)
        | (have hx : ∀ y, kept (x y).2 = kept y := by
             intro y; simp only [x, kept_mk, kept_eta, ite_self, kept_ite, kept_begin_, kept_overrun, kept_raise, kept_takeEdge, kept_takeStart, kept_takeStop, *]; done
           clear_value x)
        | (have hx : ∀ a b y, kept (x a b y) = kept y := by
             intro a b y; simp only [x, kept_mk, kept_eta, ite_self, kept_ite, kept_begin_, kept_overrun, kept_raise, kept_takeEdge, kept_takeStart, kept_takeStop, *]; done
           clear_value x)
        | clear_value x)
    | (refine (kept_foldl _ (fun s x => ?_) _ _).trans ?_)
    | (simp only [kept_mk, kept_eta, ite_self, kept_ite, kept_begin_, kept_overrun, kept_raise, kept_takeEdge, kept_takeStart, kept_takeStop]; refine (kept_foldl _ (fun s x => ?_) _ _).trans ?_)
    | split
theorem kept_tdcOrphan (c : Nat) (s : State) : kept (tdcOrphan c s) = kept s := by
  unfold tdcOrphan
  dsimp only
  repeat' split
  all_goals (first | with_reducible rfl | (simp only [kept_mk, kept_eta, ite_self, kept_ite, kept_moveToCounter, kept_orphan, kept_updChan]; done))
theorem kept_tdcGateEnd (c : Nat) (s : State) : kept (tdcGateEnd c s) = kept s := by
  simp only [tdcGateEnd, kept_mk, kept_eta, ite_self, kept_ite, kept_gateEnds, kept_moveTo, kept_moveToCounter]
theorem kept_tdcCalLost (inp : Nat) (s : State) : kept (tdcCalLost inp s) = kept s := by
  simp only [tdcCalLost, kept_mk, kept_eta, ite_self, kept_ite, kept_raise]
theorem kept_tdcCalDone (skews : List Int) (s : State) : kept (tdcCalDone skews s) = kept s := by
  simp only [tdcCalDone, kept_mk, kept_eta, ite_self, kept_ite, kept_raise]
theorem kept_armNow (c : Nat) (from_ : Int) (s : State) : kept (armNow c from_ s) = kept s := by
  simp only [armNow, kept_mk, kept_eta, ite_self, kept_ite, kept_openGate, kept_updChan]
theorem kept_armChan (c n : Nat) (continuous raw : Bool) (at_ : Nat) (s : State) : kept (armChan c n continuous raw at_ s) = kept s := by
  simp only [armChan, kept_mk, kept_eta, ite_self, kept_ite, kept_armNow, kept_updChan]
theorem kept_disarmChan (c : Nat) (s : State) : kept (disarmChan c s) = kept s := by
  simp only [disarmChan, kept_mk, kept_eta, ite_self, kept_ite, kept_updChan]
theorem kept_tdcArmStart (c : Nat) (s : State) : kept (tdcArmStart c s) = kept s := by
  simp only [tdcArmStart, kept_mk, kept_eta, ite_self, kept_ite, kept_armNow, kept_moveToCounter]
theorem kept_tdcCommit (old : List TdcCfg) (s : State) : kept (tdcCommit old s) = kept s := by
  unfold tdcCommit
  repeat' first
    | with_reducible rfl
    | (simp only [kept_mk, kept_eta, ite_self, kept_ite, kept_disarmChan, kept_updChan, *]; done)
    | (simp only [kept_mk, kept_eta, ite_self, kept_ite, kept_disarmChan, kept_updChan]; done)
    | (first | (intro x) | (lift_lets; intro x)
       first
        | (have hx : kept x = kept s := by
             first
               | (simp only [x, kept_mk, kept_eta, ite_self, kept_ite, kept_disarmChan, kept_updChan, *]; done)
               | (dsimp only [x]
                  repeat' first
                    | with_reducible rfl
                    | (simp only [kept_mk, kept_eta, ite_self, kept_ite, kept_disarmChan, kept_updChan, *]; done)
                    | (refine (kept_foldl _ (fun s x => ?_) _ _).trans ?_)
                    | split
                  done)
           clear_value x)
        | (have hx : ∀ y, kept (x y) = kept y := by
             intro y; simp only [x, kept_mk, kept_eta, ite_self, kept_ite, kept_disarmChan, kept_updChan, *]; done
           clear_value x)
        | (have hx : ∀ y, kept (x y).2 = kept y := by
             intro y; simp only [x, kept_mk, kept_eta, ite_self, kept_ite, kept_disarmChan, kept_updChan, *]; done
           clear_value x)
        | (have hx : ∀ a b y, kept (x a b y) = kept y := by
             intro a b y; simp only [x, kept_mk, kept_eta, ite_self, kept_ite, kept_disarmChan, kept_updChan, *]; done
           clear_value x)
        | clear_value x)
    | (refine (kept_foldl _ (fun s x => ?_) _ _).trans ?_)
    | (simp only [kept_mk, kept_eta, ite_self, kept_ite, kept_disarmChan, kept_updChan]; refine (kept_foldl _ (fun s x => ?_) _ _).trans ?_)
    | split
theorem kept_updPort (p : Nat) (f : PortRun → PortRun) (s : State) : kept (updPort p f s) = kept s := by
  simp only [updPort, kept_mk, kept_eta, ite_self, kept_ite]
theorem kept_portCount (p j : Nat) (s : State) : kept (portCount p j s) = kept s := by
  simp only [portCount, kept_mk, kept_eta, ite_self, kept_ite, kept_bump, kept_noteRate, kept_occur]
theorem kept_portEvent (p ev : Nat) (s : State) : kept (portEvent p ev s) = kept s := by
  simp only [portEvent, kept_mk, kept_eta, ite_self, kept_ite, kept_raiseIdx, kept_updPort]
theorem kept_shedCheck (s : State) : kept (shedCheck s) = kept s := by
  simp only [shedCheck, kept_mk, kept_eta, ite_self, kept_ite, kept_raise]
theorem kept_takeCells (u : Suit) (n : Nat) (s : State) : kept (takeCells u n s) = kept s := by
  simp only [takeCells, kept_mk, kept_eta, ite_self, kept_ite, kept_shedCheck]
theorem kept_freeCells (u : Suit) (n : Nat) (s : State) : kept (freeCells u n s) = kept s := by
  simp only [freeCells, kept_mk, kept_eta, ite_self, kept_ite, kept_shedCheck]
theorem kept_suitCount (u : Suit) (k : Nat) (s : State) : kept (suitCount u k s) = kept s := by
  simp only [suitCount, kept_mk, kept_eta, ite_self, kept_ite]
theorem kept_filterFrame (ty : Nat) (u : Suit) (p bytes : Nat) (s : State) : kept (filterFrame ty u p bytes s) = kept s := by
  unfold filterFrame
  repeat' first
    | with_reducible rfl
    | (simp only [kept_mk, kept_eta, ite_self, kept_ite, kept_bumpBy, *]; done)
    | (simp only [kept_mk, kept_eta, ite_self, kept_ite, kept_bumpBy]; done)
    | (first | (intro x) | (lift_lets; intro x)
       first
        | (have hx : kept x = kept s := by
             first
               | (simp only [x, kept_mk, kept_eta, ite_self, kept_ite, kept_bumpBy, *]; done)
               | (dsimp only [x]
                  repeat' first
                    | with_reducible rfl
                    | (simp only [kept_mk, kept_eta, ite_self, kept_ite, kept_bumpBy, *]; done)
                    | (refine (kept_foldl _ (fun s x => ?_) _ _).trans ?_)
                    | split
                  done)
           clear_value x)
        | (have hx : ∀ y, kept (x y) = kept y := by
             intro y; simp only [x, kept_mk, kept_eta, ite_self, kept_ite, kept_bumpBy, *]; done
           clear_value x)
        | (have hx : ∀ y, kept (x y).2 = kept y := by
             intro y; simp only [x, kept_mk, kept_eta, ite_self, kept_ite, kept_bumpBy, *]; done
           clear_value x)
        | (have hx : ∀ a b y, kept (x a b y) = kept y := by
             intro a b y; simp only [x, kept_mk, kept_eta, ite_self, kept_ite, kept_bumpBy, *]; done
           clear_value x)
        | clear_value x)
    | (refine (kept_foldl _ (fun s x => ?_) _ _).trans ?_)
    | (simp only [kept_mk, kept_eta, ite_self, kept_ite, kept_bumpBy]; refine (kept_foldl _ (fun s x => ?_) _ _).trans ?_)
    | split
theorem kept_freeTx (n : Nat) (s : State) : kept (freeTx n s) = kept s := by
  simp only [freeTx, kept_mk, kept_eta, ite_self, kept_ite, kept_shedCheck]
theorem kept_releaseFrame (f : TxFrame) (s : State) : kept (releaseFrame f s) = kept s := by
  unfold releaseFrame
  repeat' split
  all_goals (first | with_reducible rfl | (simp only [kept_mk, kept_eta, ite_self, kept_ite, kept_freeCells, kept_freeTx]; done))
theorem kept_countLine (p w at_ bytes : Nat) (s : State) : kept (countLine p w at_ bytes s) = kept s := by
  simp only [countLine, kept_mk, kept_eta, ite_self, kept_ite, kept_updPort]
theorem kept_countFrame (p : Nat) (tx : Bool) (at_ len : Nat) (s : State) : kept (countFrame p tx at_ len s) = kept s := by
  simp only [countFrame, kept_mk, kept_eta, ite_self, kept_ite, kept_countLine]
theorem kept_sendPfc (p k quanta : Nat) (s : State) : kept (sendPfc p k quanta s) = kept s := by
  simp only [sendPfc, kept_mk, kept_eta, ite_self, kept_ite, kept_countFrame, kept_emit, kept_portCount, kept_updPort]
theorem kept_addOccupancy (p k n : Nat) (s : State) : kept (addOccupancy p k n s) = kept s := by
  simp only [addOccupancy, kept_mk, kept_eta, ite_self, kept_ite, kept_updPort]
theorem kept_subOccupancy (p k n : Nat) (s : State) : kept (subOccupancy p k n s) = kept s := by
  simp only [subOccupancy, kept_mk, kept_eta, ite_self, kept_ite, kept_updPort]
theorem kept_learnSpades (p k : Nat) (s : State) : kept (learnSpades p k s) = kept s := by
  simp only [learnSpades, kept_mk, kept_eta, ite_self, kept_ite, kept_portEvent, kept_sendPfc, kept_updPort]
theorem kept_releasePrio (k : Nat) (s : State) (p : Nat) : kept (releasePrio k s p) = kept s := by
  simp only [releasePrio, kept_mk, kept_eta, ite_self, kept_ite, kept_updPort]
theorem kept_loadPause (p k quanta : Nat) (s : State) : kept (loadPause p k quanta s) = kept s := by
  simp only [loadPause, kept_mk, kept_eta, ite_self, kept_ite, kept_releasePrio, kept_updPort]
theorem kept_receiptGone (k : Kind) (s : State) : kept (receiptGone k s) = kept s := by
  simp only [receiptGone, kept_mk, kept_eta, ite_self, kept_ite]
theorem kept_tsqWrite (p r first : Nat) (late dropped : Bool) (stamp : Nat) (s : State) : kept (tsqWrite p r first late dropped stamp s) = kept s := by
  simp only [tsqWrite, kept_mk, kept_eta, ite_self, kept_ite, kept_bump, kept_emit, kept_raise, kept_ringEvent, kept_updRing]
theorem kept_hostDone (p r first last : Nat) (report late : Bool) (outcome stamp : Nat) (s : State) : kept (hostDone p r first last report late outcome stamp s) = kept s := by
  simp only [hostDone, kept_mk, kept_eta, ite_self, kept_ite, kept_emit, kept_ringEvent, kept_tsqWrite, kept_updRing]
theorem kept_linkDrop (p : Nat) (s : State) (f : TxFrame) : kept (linkDrop p s f) = kept s := by
  unfold linkDrop
  dsimp only
  repeat' split
  all_goals (first | with_reducible rfl | (simp only [kept_mk, kept_eta, ite_self, kept_ite, kept_hostDone, kept_portCount, kept_receiptGone, kept_releaseFrame, kept_suitCount]; done))
theorem kept_dropQueued (p : Nat) (s : State) : kept (dropQueued p s) = kept s := by
  unfold dropQueued
  repeat' first
    | with_reducible rfl
    | (simp only [kept_mk, kept_eta, ite_self, kept_ite, kept_linkDrop, kept_updPort, *]; done)
    | (simp only [kept_mk, kept_eta, ite_self, kept_ite, kept_linkDrop, kept_updPort]; done)
    | (first | (intro x) | (lift_lets; intro x)
       first
        | (have hx : kept x = kept s := by
             first
               | (simp only [x, kept_mk, kept_eta, ite_self, kept_ite, kept_linkDrop, kept_updPort, *]; done)
               | (dsimp only [x]
                  repeat' first
                    | with_reducible rfl
                    | (simp only [kept_mk, kept_eta, ite_self, kept_ite, kept_linkDrop, kept_updPort, *]; done)
                    | (refine (kept_foldl _ (fun s x => ?_) _ _).trans ?_)
                    | split
                  done)
           clear_value x)
        | (have hx : ∀ y, kept (x y) = kept y := by
             intro y; simp only [x, kept_mk, kept_eta, ite_self, kept_ite, kept_linkDrop, kept_updPort, *]; done
           clear_value x)
        | (have hx : ∀ y, kept (x y).2 = kept y := by
             intro y; simp only [x, kept_mk, kept_eta, ite_self, kept_ite, kept_linkDrop, kept_updPort, *]; done
           clear_value x)
        | (have hx : ∀ a b y, kept (x a b y) = kept y := by
             intro a b y; simp only [x, kept_mk, kept_eta, ite_self, kept_ite, kept_linkDrop, kept_updPort, *]; done
           clear_value x)
        | clear_value x)
    | (refine (kept_foldl _ (fun s x => ?_) _ _).trans ?_)
    | (simp only [kept_mk, kept_eta, ite_self, kept_ite, kept_linkDrop, kept_updPort]; refine (kept_foldl _ (fun s x => ?_) _ _).trans ?_)
    | split
theorem kept_leaveTo (p : Nat) (st : PortState) (s : State) : kept (leaveTo p st s) = kept s := by
  simp only [leaveTo, kept_mk, kept_eta, ite_self, kept_ite, kept_dropQueued, kept_portEvent, kept_updPort]
theorem kept_toCalibrating (p : Nat) (s : State) : kept (toCalibrating p s) = kept s := by
  simp only [toCalibrating, kept_mk, kept_eta, ite_self, kept_ite, kept_dropQueued, kept_leaveTo, kept_updPort]
theorem kept_raiseStamps (p : Nat) (s : State) : kept (raiseStamps p s) = kept s := by
  unfold raiseStamps
  dsimp only
  repeat' split
  all_goals (first | with_reducible rfl | (simp only [kept_mk, kept_eta, ite_self, kept_ite]; done))
theorem kept_loseCal (p : Nat) (s : State) : kept (loseCal p s) = kept s := by
  simp only [loseCal, kept_mk, kept_eta, ite_self, kept_ite, kept_portEvent, kept_raise, kept_raiseStamps, kept_settleBound, kept_toCalibrating, kept_updPort]
theorem kept_setRank (p rank : Nat) (s : State) : kept (setRank p rank s) = kept s := by
  unfold setRank
  dsimp only
  repeat' split
  all_goals (first | with_reducible rfl | (simp only [kept_mk, kept_eta, ite_self, kept_ite, kept_evalAll, kept_portEvent, kept_setCheck, kept_updPort, kept_updRef]; done))
theorem kept_enqueue (p : Nat) (f : TxFrame) (s : State) : kept (enqueue p f s) = kept s := by
  unfold enqueue
  dsimp only
  repeat' split
  all_goals (first | with_reducible rfl | (simp only [kept_mk, kept_eta, ite_self, kept_ite, kept_hostDone, kept_portCount, kept_portEvent, kept_receiptGone, kept_releaseFrame, kept_updPort]; done))
theorem kept_updNtp (f : NtpPart → NtpPart) (s : State) : kept (updNtp f s) = kept s := by
  simp only [updNtp, kept_mk, kept_eta, ite_self, kept_ite]
theorem kept_updNtpRun (i : Nat) (f : NtpRun → NtpRun) (s : State) : kept (updNtpRun i f s) = kept s := by
  simp only [updNtpRun, kept_mk, kept_eta, ite_self, kept_ite, kept_updNtp]
theorem kept_settleBuckets (old : RateCfg) (s : State) : kept (settleBuckets old s) = kept s := by
  simp only [settleBuckets, kept_mk, kept_eta, ite_self, kept_ite, kept_updNtp]
theorem kept_fillBuckets (s : State) : kept (fillBuckets s) = kept s := by
  simp only [fillBuckets, kept_mk, kept_eta, ite_self, kept_ite, kept_updNtp]
theorem kept_chargeToken (v6 : Bool) (a : Nat) (s : State) : kept (chargeToken v6 a s).2 = kept s := by
  unfold chargeToken
  dsimp only
  repeat' split
  all_goals (first | with_reducible rfl | (simp only [kept_mk, kept_eta, ite_self, kept_ite, kept_updNtp]; done))
theorem kept_chargeToken_of {v6 : Bool} {a : Nat} {s : State} {u0} {tt : State} (h : chargeToken v6 a s = (u0, tt)) : kept tt = kept s := by
  have e := kept_chargeToken v6 a s
  rw [h] at e; exact e
theorem kept_onceInHand (cls b : Nat) (last : Option Nat) (s : State) : kept (onceInHand cls b last s).2 = kept s := by
  unfold onceInHand
  repeat' split
  all_goals (first | with_reducible rfl | (simp only [kept_mk, kept_eta, ite_self, kept_ite, kept_raise]; done))
theorem kept_onceInHand_of {cls b : Nat} {last : Option Nat} {s : State} {u0} {tt : State} (h : onceInHand cls b last s = (u0, tt)) : kept tt = kept s := by
  have e := kept_onceInHand cls b last s
  rw [h] at e; exact e
theorem kept_noteOverRate (s : State) : kept (noteOverRate s) = kept s := by
  simp only [noteOverRate, kept_mk, kept_eta, ite_self, kept_ite, kept_onceInHand, kept_updNtp]
theorem kept_noteNak (s : State) : kept (noteNak s) = kept s := by
  simp only [noteNak, kept_mk, kept_eta, ite_self, kept_ite, kept_onceInHand, kept_updNtp]
theorem kept_noteNtpAuth (s : State) : kept (noteNtpAuth s) = kept s := by
  simp only [noteNtpAuth, kept_mk, kept_eta, ite_self, kept_ite, kept_onceInHand, kept_updNtp]
theorem kept_noteMalformed (s : State) : kept (noteMalformed s) = kept s := by
  simp only [noteMalformed, kept_mk, kept_eta, ite_self, kept_ite, kept_onceInHand, kept_updNtp]
theorem kept_takeKod (v6 : Bool) (a : Nat) (s : State) : kept (takeKod v6 a s).2 = kept s := by
  unfold takeKod
  dsimp only
  repeat' split
  all_goals (first | with_reducible rfl | (simp only [kept_mk, kept_eta, ite_self, kept_ite, kept_updNtp]; done))
theorem kept_takeKod_of {v6 : Bool} {a : Nat} {s : State} {u0} {tt : State} (h : takeKod v6 a s = (u0, tt)) : kept tt = kept s := by
  have e := kept_takeKod v6 a s
  rw [h] at e; exact e
theorem kept_sortNtp (i : Nat) (u : UdpView) (s : State) : kept (sortNtp i u s).2 = kept s := by
  unfold sortNtp
  dsimp only
  repeat' split
  all_goals (first | with_reducible rfl | (simp only [kept_mk, kept_eta, ite_self, kept_ite, kept_bump, kept_chargeToken, kept_noteMalformed, kept_noteNak, kept_noteOverRate, kept_takeKod, kept_updNtp, kept_updNtpRun]; done))
theorem kept_sortNtp_of {i : Nat} {u : UdpView} {s : State} {u0} {tt : State} (h : sortNtp i u s = (u0, tt)) : kept tt = kept s := by
  have e := kept_sortNtp i u s
  rw [h] at e; exact e
theorem kept_freshNonce (s : State) : kept (freshNonce s).2 = kept s := by
  simp only [freshNonce, kept_mk, kept_eta, ite_self, kept_ite, kept_useFree]
theorem kept_freshNonce_of {s : State} {u0} {tt : State} (h : freshNonce s = (u0, tt)) : kept tt = kept s := by
  have e := kept_freshNonce s
  rw [h] at e; exact e
theorem kept_mintCookie (i : Nat) (c2s s2c : Bytes) (s : State) : kept (mintCookie i c2s s2c s).2 = kept s :=
  kept_freshNonce s
theorem kept_mintCookie_of {i : Nat} {c2s s2c : Bytes} {s : State} {u0} {tt : State} (h : mintCookie i c2s s2c s = (u0, tt)) : kept tt = kept s := by
  have e := kept_mintCookie i c2s s2c s
  rw [h] at e; exact e
theorem kept_mintFields (n i : Nat) (a b : Bytes) (s : State) : kept (mintFields n i a b s).2 = kept s := by
  induction n generalizing s with
  | zero => rfl
  | succ n ih => exact (ih _).trans (kept_mintCookie i a b s)
theorem kept_ntsPayload (i : Nat) (keys : List NtsKey) (header u : Bytes) (s : State) : kept (ntsPayload i keys header u s).2 = kept s := by
  unfold ntsPayload
  dsimp only
  split
  · rfl
  · split
    · rfl
    · exact (kept_freshNonce _).trans (kept_mintFields _ _ _ _ _)
theorem kept_ntsPayload_of {i : Nat} {keys : List NtsKey} {header u : Bytes} {s : State} {u0} {tt : State} (h : ntsPayload i keys header u s = (u0, tt)) : kept tt = kept s := by
  have e := kept_ntsPayload i keys header u s
  rw [h] at e; exact e
theorem kept_ntpPayload (q : Request) (u : Bytes) (l lps : Nat) (s : State) : kept (ntpPayload q u l lps s).2.2 = kept s := by
  unfold ntpPayload
  repeat' first
    | with_reducible rfl
    | (simp only [kept_mk, kept_eta, ite_self, kept_ite, kept_bump, kept_noteNak, kept_noteNtpAuth, kept_ntsPayload, kept_updNtpRun, *]; done)
    | (simp only [kept_mk, kept_eta, ite_self, kept_ite, kept_bump, kept_noteNak, kept_noteNtpAuth, kept_ntsPayload, kept_updNtpRun]; done)
    | (rename_i hq; have hx := kept_ntsPayload_of hq; clear hq)
    | (first | (intro x) | (lift_lets; intro x)
       first
        | (have hx : kept x = kept s := by
             first
               | (simp only [x, kept_mk, kept_eta, ite_self, kept_ite, kept_bump, kept_noteNak, kept_noteNtpAuth, kept_ntsPayload, kept_updNtpRun, *]; done)
               | (dsimp only [x]
                  repeat' first
                    | with_reducible rfl
                    | (simp only [kept_mk, kept_eta, ite_self, kept_ite, kept_bump, kept_noteNak, kept_noteNtpAuth, kept_ntsPayload, kept_updNtpRun, *]; done)
                    | (refine (kept_foldl _ (fun s x => ?_) _ _).trans ?_)
                    | split
                  done)
           clear_value x)
        | (have hx : ∀ y, kept (x y) = kept y := by
             intro y; simp only [x, kept_mk, kept_eta, ite_self, kept_ite, kept_bump, kept_noteNak, kept_noteNtpAuth, kept_ntsPayload, kept_updNtpRun, *]; done
           clear_value x)
        | (have hx : ∀ y, kept (x y).2 = kept y := by
             intro y; simp only [x, kept_mk, kept_eta, ite_self, kept_ite, kept_bump, kept_noteNak, kept_noteNtpAuth, kept_ntsPayload, kept_updNtpRun, *]; done
           clear_value x)
        | (have hx : ∀ a b y, kept (x a b y) = kept y := by
             intro a b y; simp only [x, kept_mk, kept_eta, ite_self, kept_ite, kept_bump, kept_noteNak, kept_noteNtpAuth, kept_ntsPayload, kept_updNtpRun, *]; done
           clear_value x)
        | clear_value x)
    | (refine (kept_foldl _ (fun s x => ?_) _ _).trans ?_)
    | (simp only [kept_mk, kept_eta, ite_self, kept_ite, kept_bump, kept_noteNak, kept_noteNtpAuth, kept_ntsPayload, kept_updNtpRun]; refine (kept_foldl _ (fun s x => ?_) _ _).trans ?_)
    | split
theorem kept_ntpPayload_of {q : Request} {u : Bytes} {l lps : Nat} {s : State} {u0 u1} {tt : State} (h : ntpPayload q u l lps s = (u0, u1, tt)) : kept tt = kept s := by
  have e := kept_ntpPayload q u l lps s
  rw [h] at e; exact e
theorem kept_closeBatch (s : State) : kept (closeBatch s) = kept s := by
  unfold closeBatch
  repeat' split
  all_goals (first | with_reducible rfl | (simp only [kept_mk, kept_eta, ite_self, kept_ite, kept_updNtp]; done))
theorem kept_addReceipt (q : Request) (nonce : Bytes) (s : State) : kept (addReceipt q nonce s) = kept s := by
  unfold addReceipt
  dsimp only
  repeat' split
  all_goals (first | with_reducible rfl | (simp only [kept_mk, kept_eta, ite_self, kept_ite, kept_closeBatch, kept_updNtp]; done))
theorem kept_updPtp (f : PtpPart → PtpPart) (s : State) : kept (updPtp f s) = kept s := by
  simp only [updPtp, kept_mk, kept_eta, ite_self, kept_ite]
theorem kept_updInst (i : Nat) (f : PtpRun → PtpRun) (s : State) : kept (updInst i f s) = kept s := by
  simp only [updInst, kept_mk, kept_eta, ite_self, kept_ite, kept_updPtp]
theorem kept_updBind (i p : Nat) (f : BindRun → BindRun) (s : State) : kept (updBind i p f s) = kept s := by
  simp only [updBind, kept_mk, kept_eta, ite_self, kept_ite, kept_updPtp]
theorem kept_sealMsg (c : PtpCfg) (p : Nat) (m : PtpMsg) (s : State) : kept (sealMsg c p m s).2 = kept s := by
  unfold sealMsg
  dsimp only
  repeat' split
  all_goals (first | with_reducible rfl | (simp only [kept_mk, kept_eta, ite_self, kept_ite, kept_updPtp]; done))
theorem kept_sealMsg_of {c : PtpCfg} {p : Nat} {m : PtpMsg} {s : State} {u0} {tt : State} (h : sealMsg c p m s = (u0, tt)) : kept tt = kept s := by
  have e := kept_sealMsg c p m s
  rw [h] at e; exact e
theorem kept_authDiscard (i p : Nat) (s : State) : kept (authDiscard i p s) = kept s := by
  simp only [authDiscard, kept_mk, kept_eta, ite_self, kept_ite, kept_onceInHand, kept_updBind, kept_updPtp]
theorem kept_setBindState (i p : Nat) (st : PtpState) (s : State) : kept (setBindState i p st s) = kept s := by
  simp only [setBindState, kept_mk, kept_eta, ite_self, kept_ite, kept_raiseIdx, kept_updBind]
theorem kept_ptpHealth (i : Nat) (ok : Bool) (s : State) : kept (ptpHealth i ok s) = kept s := by
  simp only [ptpHealth, kept_mk, kept_eta, ite_self, kept_ite, kept_evalAll, kept_setCheck, kept_updRef]
theorem kept_dropTracking (i p : Nat) (s : State) : kept (dropTracking i p s) = kept s := by
  simp only [dropTracking, kept_mk, kept_eta, ite_self, kept_ite, kept_ptpHealth, kept_updBind, kept_updInst]
theorem kept_loseMaster (i p : Nat) (s : State) : kept (loseMaster i p s) = kept s := by
  simp only [loseMaster, kept_mk, kept_eta, ite_self, kept_ite, kept_dropTracking, kept_raiseIdx, kept_updInst]
theorem kept_presentSignal (i p mac ip : Nat) (tags tlvs : Bytes) (s : State) : kept (presentSignal i p mac ip tags tlvs s) = kept s := by
  unfold presentSignal
  dsimp only
  repeat' split
  all_goals (first | with_reducible rfl | (simp only [kept_mk, kept_eta, ite_self, kept_ite]; done))
theorem kept_upstreamMac (s : State) : kept (upstreamMac s).2 = kept s := by
  simp only [upstreamMac, kept_mk, kept_eta, ite_self, kept_ite, kept_useFree]
theorem kept_upstreamMac_of {s : State} {u0} {tt : State} (h : upstreamMac s = (u0, tt)) : kept tt = kept s := by
  have e := kept_upstreamMac s
  rw [h] at e; exact e
theorem kept_askUpstream (i p k mtype : Nat) (s : State) : kept (askUpstream i p k mtype s) = kept s := by
  unfold askUpstream
  dsimp only
  repeat' split
  all_goals (first | with_reducible rfl | (simp only [kept_mk, kept_eta, ite_self, kept_ite, kept_presentSignal, kept_updPtp, kept_upstreamMac]; done))
theorem kept_clientParent (i p : Nat) (addr : Option Nat) (s : State) : kept (clientParent i p addr s) = kept s := by
  unfold clientParent
  repeat' first
    | with_reducible rfl
    | (simp only [kept_mk, kept_eta, ite_self, kept_ite, kept_askUpstream, kept_presentSignal, kept_updPtp, kept_upstreamMac, *]; done)
    | (simp only [kept_mk, kept_eta, ite_self, kept_ite, kept_askUpstream, kept_presentSignal, kept_updPtp, kept_upstreamMac]; done)
    | (rename_i hq; have hx := kept_upstreamMac_of hq; clear hq)
    | (first | (intro x) | (lift_lets; intro x)
       first
        | (have hx : kept x = kept s := by
             first
               | (simp only [x, kept_mk, kept_eta, ite_self, kept_ite, kept_askUpstream, kept_presentSignal, kept_updPtp, kept_upstreamMac, *]; done)
               | (dsimp only [x]
                  repeat' first
                    | with_reducible rfl
                    | (simp only [kept_mk, kept_eta, ite_self, kept_ite, kept_askUpstream, kept_presentSignal, kept_updPtp, kept_upstreamMac, *]; done)
                    | (refine (kept_foldl _ (fun s x => ?_) _ _).trans ?_)
                    | split
                  done)
           clear_value x)
        | (have hx : ∀ y, kept (x y) = kept y := by
             intro y; simp only [x, kept_mk, kept_eta, ite_self, kept_ite, kept_askUpstream, kept_presentSignal, kept_updPtp, kept_upstreamMac, *]; done
           clear_value x)
        | (have hx : ∀ y, kept (x y).2 = kept y := by
             intro y; simp only [x, kept_mk, kept_eta, ite_self, kept_ite, kept_askUpstream, kept_presentSignal, kept_updPtp, kept_upstreamMac, *]; done
           clear_value x)
        | (have hx : ∀ a b y, kept (x a b y) = kept y := by
             intro a b y; simp only [x, kept_mk, kept_eta, ite_self, kept_ite, kept_askUpstream, kept_presentSignal, kept_updPtp, kept_upstreamMac, *]; done
           clear_value x)
        | clear_value x)
    | (refine (kept_foldl _ (fun s x => ?_) _ _).trans ?_)
    | (simp only [kept_mk, kept_eta, ite_self, kept_ite, kept_askUpstream, kept_presentSignal, kept_updPtp, kept_upstreamMac]; refine (kept_foldl _ (fun s x => ?_) _ _).trans ?_)
    | split
theorem kept_takeParent (i : Nat) (new : Option (Nat × Announce)) (s : State) : kept (takeParent i new s) = kept s := by
  unfold takeParent
  dsimp only
  repeat' split
  all_goals (first | with_reducible rfl | (simp only [kept_mk, kept_eta, ite_self, kept_ite, kept_clientParent, kept_dropTracking, kept_raiseIdx, kept_setBindState, kept_updInst]; done))
theorem kept_runBmca (i : Nat) (expired : Option Nat) (s : State) : kept (runBmca i expired s) = kept s := by
  unfold runBmca
  repeat' first
    | with_reducible rfl
    | (simp only [kept_mk, kept_eta, ite_self, kept_ite, kept_setBindState, kept_takeParent, *]; done)
    | (simp only [kept_mk, kept_eta, ite_self, kept_ite, kept_setBindState, kept_takeParent]; done)
    | (first | (intro x) | (lift_lets; intro x)
       first
        | (have hx : kept x = kept s := by
             first
               | (simp only [x, kept_mk, kept_eta, ite_self, kept_ite, kept_setBindState, kept_takeParent, *]; done)
               | (dsimp only [x]
                  repeat' first
                    | with_reducible rfl
                    | (simp only [kept_mk, kept_eta, ite_self, kept_ite, kept_setBindState, kept_takeParent, *]; done)
                    | (refine (kept_foldl _ (fun s x => ?_) _ _).trans ?_)
                    | split
                  done)
           clear_value x)
        | (have hx : ∀ y, kept (x y) = kept y := by
             intro y; simp only [x, kept_mk, kept_eta, ite_self, kept_ite, kept_setBindState, kept_takeParent, *]; done
           clear_value x)
        | (have hx : ∀ y, kept (x y).2 = kept y := by
             intro y; simp only [x, kept_mk, kept_eta, ite_self, kept_ite, kept_setBindState, kept_takeParent, *]; done
           clear_value x)
        | (have hx : ∀ a b y, kept (x a b y) = kept y := by
             intro a b y; simp only [x, kept_mk, kept_eta, ite_self, kept_ite, kept_setBindState, kept_takeParent, *]; done
           clear_value x)
        | clear_value x)
    | (refine (kept_foldl _ (fun s x => ?_) _ _).trans ?_)
    | (simp only [kept_mk, kept_eta, ite_self, kept_ite, kept_setBindState, kept_takeParent]; refine (kept_foldl _ (fun s x => ?_) _ _).trans ?_)
    | split
theorem kept_startBind (i p : Nat) (s : State) : kept (startBind i p s) = kept s := by
  unfold startBind
  dsimp only
  repeat' split
  all_goals (first | with_reducible rfl | (simp only [kept_mk, kept_eta, ite_self, kept_ite, kept_setBindState, kept_updBind, kept_updPtp]; done))
theorem kept_startPort (p : Nat) (s : State) : kept (startPort p s) = kept s := by
  unfold startPort
  repeat' first
    | with_reducible rfl
    | (simp only [kept_mk, kept_eta, ite_self, kept_ite, kept_startBind, *]; done)
    | (simp only [kept_mk, kept_eta, ite_self, kept_ite, kept_startBind]; done)
    | (first | (intro x) | (lift_lets; intro x)
       first
        | (have hx : kept x = kept s := by
             first
               | (simp only [x, kept_mk, kept_eta, ite_self, kept_ite, kept_startBind, *]; done)
               | (dsimp only [x]
                  repeat' first
                    | with_reducible rfl
                    | (simp only [kept_mk, kept_eta, ite_self, kept_ite, kept_startBind, *]; done)
                    | (refine (kept_foldl _ (fun s x => ?_) _ _).trans ?_)
                    | split
                  done)
           clear_value x)
        | (have hx : ∀ y, kept (x y) = kept y := by
             intro y; simp only [x, kept_mk, kept_eta, ite_self, kept_ite, kept_startBind, *]; done
           clear_value x)
        | (have hx : ∀ y, kept (x y).2 = kept y := by
             intro y; simp only [x, kept_mk, kept_eta, ite_self, kept_ite, kept_startBind, *]; done
           clear_value x)
        | (have hx : ∀ a b y, kept (x a b y) = kept y := by
             intro a b y; simp only [x, kept_mk, kept_eta, ite_self, kept_ite, kept_startBind, *]; done
           clear_value x)
        | clear_value x)
    | (refine (kept_foldl _ (fun s x => ?_) _ _).trans ?_)
    | (simp only [kept_mk, kept_eta, ite_self, kept_ite, kept_startBind]; refine (kept_foldl _ (fun s x => ?_) _ _).trans ?_)
    | split
theorem kept_addDelay (i p : Nat) (d : Int) (s : State) : kept (addDelay i p d s) = kept s := by
  simp only [addDelay, kept_mk, kept_eta, ite_self, kept_ite, kept_updBind]
theorem kept_ptpSample (i p : Nat) (c : PtpCfg) (t1c : Int) (w : SyncWait) (unc : Nat × Bool) (s : State) : kept (ptpSample i p c t1c w unc s) = kept s := by
  unfold ptpSample
  dsimp only
  repeat' split
  all_goals (first | with_reducible rfl | (simp only [kept_mk, kept_eta, ite_self, kept_ite, kept_deliver, kept_raiseIdx, kept_setBindState, kept_updBind, kept_updInst, kept_updRef]; done))
theorem kept_waitSync (i p : Nat) (w : SyncWait) (s : State) : kept (waitSync i p w s) = kept s := by
  simp only [waitSync, kept_mk, kept_eta, ite_self, kept_ite, kept_updBind]
theorem kept_takeSync (q : Request) (c : PtpCfg) (m : Bytes) (authed : Bool) (s : State) : kept (takeSync q c m authed s) = kept s := by
  unfold takeSync
  dsimp only
  repeat' split
  all_goals (first | with_reducible rfl | (simp only [kept_mk, kept_eta, ite_self, kept_ite, kept_ptpSample, kept_updBind, kept_waitSync]; done))
theorem kept_takeFollowUp (q : Request) (c : PtpCfg) (m : Bytes) (authed : Bool) (s : State) : kept (takeFollowUp q c m authed s) = kept s := by
  unfold takeFollowUp
  dsimp only
  repeat' split
  all_goals (first | with_reducible rfl | (simp only [kept_mk, kept_eta, ite_self, kept_ite, kept_ptpSample, kept_updBind]; done))
theorem kept_takeDelayResp (q : Request) (c : PtpCfg) (m : Bytes) (s : State) : kept (takeDelayResp q c m s) = kept s := by
  unfold takeDelayResp
  dsimp only
  repeat' split
  all_goals (first | with_reducible rfl | (simp only [kept_mk, kept_eta, ite_self, kept_ite, kept_addDelay, kept_updBind]; done))
theorem kept_takePdelayResp (q : Request) (c : PtpCfg) (m : Bytes) (s : State) : kept (takePdelayResp q c m s) = kept s := by
  unfold takePdelayResp
  dsimp only
  repeat' split
  all_goals (first | with_reducible rfl | (simp only [kept_mk, kept_eta, ite_self, kept_ite, kept_addDelay, kept_updBind]; done))
theorem kept_takePdelayFu (q : Request) (c : PtpCfg) (m : Bytes) (s : State) : kept (takePdelayFu q c m s) = kept s := by
  unfold takePdelayFu
  repeat' split
  all_goals (first | with_reducible rfl | (simp only [kept_mk, kept_eta, ite_self, kept_ite, kept_addDelay, kept_updBind]; done))
theorem kept_trackAnnounce (i p : Nat) (c : PtpCfg) (s : State) : kept (trackAnnounce i p c s) = kept s := by
  unfold trackAnnounce
  dsimp only
  repeat' split
  all_goals (first | with_reducible rfl | (simp only [kept_mk, kept_eta, ite_self, kept_ite, kept_ptpHealth, kept_raiseIdx, kept_updInst]; done))
theorem kept_takeAnnounce (q : Request) (c : PtpCfg) (m : Bytes) (src : Nat) (s : State) : kept (takeAnnounce q c m src s) = kept s := by
  unfold takeAnnounce
  dsimp only
  repeat' split
  all_goals (first | with_reducible rfl | (simp only [kept_mk, kept_eta, ite_self, kept_ite, kept_evalAll, kept_runBmca, kept_setCheck, kept_takeLeapNews, kept_trackAnnounce, kept_updBind, kept_updRef]; done))
theorem kept_forwardGrant (k : Nat) (s : State) : kept (forwardGrant k s) = kept s := by
  unfold forwardGrant
  dsimp only
  repeat' split
  all_goals (first | with_reducible rfl | (simp only [kept_mk, kept_eta, ite_self, kept_ite, kept_forward]; done))
theorem kept_freeNeighbours (s : State) : kept (freeNeighbours s) = kept s := by
  simp only [freeNeighbours, kept_mk, kept_eta, ite_self, kept_ite, kept_updPtp]
theorem kept_dropGrant (k : Nat) (s : State) : kept (dropGrant k s) = kept s := by
  simp only [dropGrant, kept_mk, kept_eta, ite_self, kept_ite, kept_forwardGrant, kept_freeNeighbours, kept_updPtp]
theorem kept_freshPhase (s : State) (log : Int) (mtype : Nat) : kept (freshPhase s log mtype).2.2 = kept s := by
  unfold freshPhase
  dsimp only
  repeat' split
  all_goals (first | with_reducible rfl | (simp only [kept_mk, kept_eta, ite_self, kept_ite, kept_useFree]; done))
theorem kept_freshPhase_of {s : State} {log : Int} {mtype : Nat} {u0 u1} {tt : State} (h : freshPhase s log mtype = (u0, u1, tt)) : kept tt = kept s := by
  have e := kept_freshPhase s log mtype
  rw [h] at e; exact e
theorem kept_denyGrant (i p mtype log : Nat) (full : Bool) (s : State) : kept (denyGrant i p mtype log full s).2 = kept s := by
  simp only [denyGrant, kept_mk, kept_eta, ite_self, kept_ite, kept_raise, kept_updBind]
theorem kept_denyGrant_of {i p mtype log : Nat} {full : Bool} {s : State} {u0} {tt : State} (h : denyGrant i p mtype log full s = (u0, tt)) : kept tt = kept s := by
  have e := kept_denyGrant i p mtype log full s
  rw [h] at e; exact e
theorem kept_grantRequest (q : Request) (c : PtpCfg) (b : BindCfg) (v : PtpView) (t : Bytes) (s : State) : kept (grantRequest q c b v t s).2 = kept s := by
  unfold grantRequest
  dsimp only
  repeat' split
  all_goals (first | with_reducible rfl | (simp only [kept_mk, kept_eta, ite_self, kept_ite, kept_bump, kept_denyGrant, kept_forwardGrant, kept_freeNeighbours, kept_freshPhase, kept_updPtp]; done))
theorem kept_grantRequest_of {q : Request} {c : PtpCfg} {b : BindCfg} {v : PtpView} {t : Bytes} {s : State} {u0} {tt : State} (h : grantRequest q c b v t s = (u0, tt)) : kept tt = kept s := by
  have e := kept_grantRequest q c b v t s
  rw [h] at e; exact e
theorem kept_takeGrant (q : Request) (b : BindCfg) (v : PtpView) (t : Bytes) (s : State) : kept (takeGrant q b v t s) = kept s := by
  unfold takeGrant
  dsimp only
  repeat' split
  all_goals (first | with_reducible rfl | (simp only [kept_mk, kept_eta, ite_self, kept_ite, kept_raiseIdx, kept_updPtp]; done))
theorem kept_signalTlv (q : Request) (c : PtpCfg) (b : BindCfg) (v : PtpView) (t : Nat × Nat × Bytes) (s : State) : kept (signalTlv q c b v t s).2 = kept s := by
  unfold signalTlv
  dsimp only
  repeat' split
  all_goals (first | with_reducible rfl | (simp only [kept_mk, kept_eta, ite_self, kept_ite, kept_dropGrant, kept_grantRequest, kept_takeGrant, kept_updPtp]; done))
theorem kept_signalTlv_of {q : Request} {c : PtpCfg} {b : BindCfg} {v : PtpView} {t : Nat × Nat × Bytes} {s : State} {u0} {tt : State} (h : signalTlv q c b v t s = (u0, tt)) : kept tt = kept s := by
  have e := kept_signalTlv q c b v t s
  rw [h] at e; exact e
theorem kept_delayReqOk (i p : Nat) (v : PtpView) (tIn : Nat) (s : State) : kept (delayReqOk i p v tIn s).2 = kept s := by
  unfold delayReqOk
  dsimp only
  repeat' split
  all_goals (first | with_reducible rfl | (simp only [kept_mk, kept_eta, ite_self, kept_ite, kept_bump, kept_updBind]; done))
theorem kept_delayReqOk_of {i p : Nat} {v : PtpView} {tIn : Nat} {s : State} {u0} {tt : State} (h : delayReqOk i p v tIn s = (u0, tt)) : kept tt = kept s := by
  have e := kept_delayReqOk i p v tIn s
  rw [h] at e; exact e
theorem kept_buildSync (i p : Nat) (c : PtpCfg) (b : BindCfg) (g : Option Nat) (seq l lps : Nat) (s : State) : kept (buildSync i p c b g seq l lps s).2 = kept s := by
  unfold buildSync
  dsimp only
  repeat' split
  all_goals (first | with_reducible rfl | (simp only [kept_mk, kept_eta, ite_self, kept_ite, kept_bump, kept_sealMsg]; done))
theorem kept_buildSync_of {i p : Nat} {c : PtpCfg} {b : BindCfg} {g : Option Nat} {seq l lps : Nat} {s : State} {u0} {tt : State} (h : buildSync i p c b g seq l lps s = (u0, tt)) : kept tt = kept s := by
  have e := kept_buildSync i p c b g seq l lps s
  rw [h] at e; exact e
theorem kept_buildFollowUp (p : Nat) (c : PtpCfg) (b : BindCfg) (g : Option Nat) (seq l : Nat) (s : State) : kept (buildFollowUp p c b g seq l s).2 = kept s := by
  unfold buildFollowUp
  dsimp only
  repeat' split
  all_goals (first | with_reducible rfl | (simp only [kept_mk, kept_eta, ite_self, kept_ite, kept_sealMsg]; done))
theorem kept_buildFollowUp_of {p : Nat} {c : PtpCfg} {b : BindCfg} {g : Option Nat} {seq l : Nat} {s : State} {u0} {tt : State} (h : buildFollowUp p c b g seq l s = (u0, tt)) : kept tt = kept s := by
  have e := kept_buildFollowUp p c b g seq l s
  rw [h] at e; exact e
theorem kept_buildAnnounce (i p : Nat) (c : PtpCfg) (b : BindCfg) (g : Option Nat) (seq lps : Nat) (s : State) : kept (buildAnnounce i p c b g seq lps s).2 = kept s := by
  unfold buildAnnounce
  dsimp only
  repeat' split
  all_goals (first | with_reducible rfl | (simp only [kept_mk, kept_eta, ite_self, kept_ite, kept_bump, kept_sealMsg, kept_updInst]; done))
theorem kept_buildAnnounce_of {i p : Nat} {c : PtpCfg} {b : BindCfg} {g : Option Nat} {seq lps : Nat} {s : State} {u0} {tt : State} (h : buildAnnounce i p c b g seq lps s = (u0, tt)) : kept tt = kept s := by
  have e := kept_buildAnnounce i p c b g seq lps s
  rw [h] at e; exact e
theorem kept_buildDelayReq (i p : Nat) (c : PtpCfg) (b : BindCfg) (seq l : Nat) (s : State) : kept (buildDelayReq i p c b seq l s).2 = kept s := by
  have key : ∀ (dest : PtpDest × State) (mt : Nat) (m : PtpMsg), kept dest.2 = kept s →
      kept (let (bytes, t) := sealMsg c p m dest.2; (({ bytes := ptpFrame t b dest.1 mt bytes, tag := .delayReq i p seq, launchForm := false } : Built), t)).2 = kept s := by
    intro dest mt m h
    exact (kept_sealMsg c p m dest.2).trans h
  unfold buildDelayReq
  refine key _ _ _ ?_
  split
  · split
    · exact kept_upstreamMac s
    · rfl
  · rfl
theorem kept_buildDelayReq_of {i p : Nat} {c : PtpCfg} {b : BindCfg} {seq l : Nat} {s : State} {u0} {tt : State} (h : buildDelayReq i p c b seq l s = (u0, tt)) : kept tt = kept s := by
  have e := kept_buildDelayReq i p c b seq l s
  rw [h] at e; exact e
theorem kept_buildSignal (i p mac ip : Nat) (tags tlvs : Bytes) (c : PtpCfg) (b : BindCfg) (s : State) : kept (buildSignal i p mac ip tags tlvs c b s).2 = kept s := by
  simp only [buildSignal, kept_mk, kept_eta, ite_self, kept_ite, kept_sealMsg]
theorem kept_buildSignal_of {i p mac ip : Nat} {tags tlvs : Bytes} {c : PtpCfg} {b : BindCfg} {s : State} {u0} {tt : State} (h : buildSignal i p mac ip tags tlvs c b s = (u0, tt)) : kept tt = kept s := by
  have e := kept_buildSignal i p mac ip tags tlvs c b s
  rw [h] at e; exact e
theorem kept_buildDelayResp (q : Request) (origin : Nat) (c : PtpCfg) (b : BindCfg) (v : PtpView) (s : State) : kept (buildDelayResp q origin c b v s).2 = kept s := by
  unfold buildDelayResp
  dsimp only
  repeat' split
  all_goals (first | with_reducible rfl | (simp only [kept_mk, kept_eta, ite_self, kept_ite, kept_bump, kept_forwardGrant, kept_sealMsg, kept_updPtp]; done))
theorem kept_buildDelayResp_of {q : Request} {origin : Nat} {c : PtpCfg} {b : BindCfg} {v : PtpView} {s : State} {u0} {tt : State} (h : buildDelayResp q origin c b v s = (u0, tt)) : kept tt = kept s := by
  have e := kept_buildDelayResp q origin c b v s
  rw [h] at e; exact e
theorem kept_buildPdelayResp (q : Request) (origin l : Nat) (c : PtpCfg) (b : BindCfg) (v : PtpView) (s : State) : kept (buildPdelayResp q origin l c b v s).2 = kept s := by
  unfold buildPdelayResp
  dsimp only
  repeat' split
  all_goals (first | with_reducible rfl | (simp only [kept_mk, kept_eta, ite_self, kept_ite, kept_sealMsg]; done))
theorem kept_buildPdelayResp_of {q : Request} {origin l : Nat} {c : PtpCfg} {b : BindCfg} {v : PtpView} {s : State} {u0} {tt : State} (h : buildPdelayResp q origin l c b v s = (u0, tt)) : kept tt = kept s := by
  have e := kept_buildPdelayResp q origin l c b v s
  rw [h] at e; exact e
theorem kept_buildPdelayFu (p : Nat) (c : PtpCfg) (b : BindCfg) (v : PtpView) (l : Nat) (s : State) : kept (buildPdelayFu p c b v l s).2 = kept s := by
  unfold buildPdelayFu
  dsimp only
  repeat' split
  all_goals (first | with_reducible rfl | (simp only [kept_mk, kept_eta, ite_self, kept_ite, kept_sealMsg]; done))
theorem kept_buildPdelayFu_of {p : Nat} {c : PtpCfg} {b : BindCfg} {v : PtpView} {l : Nat} {s : State} {u0} {tt : State} (h : buildPdelayFu p c b v l s = (u0, tt)) : kept tt = kept s := by
  have e := kept_buildPdelayFu p c b v l s
  rw [h] at e; exact e
theorem kept_buildSignalResp (q : Request) (origin : Nat) (c : PtpCfg) (b : BindCfg) (v : PtpView) (s : State) : kept (buildSignalResp q origin c b v s).2 = kept s := by
  have e := kept_foldl2 (fun (a : Bytes × State) t => let (x, s) := signalTlv q c b v t a.2; (a.1 ++ x, s)) (fun a t => kept_signalTlv q c b v t a.2) (tlvsOf v.msg) (([] : Bytes), s)
  unfold buildSignalResp
  dsimp only
  split
  · rfl
  · revert e
    generalize List.foldl (fun (a : Bytes × State) t => let (x, s) := signalTlv q c b v t a.2; (a.1 ++ x, s)) (([] : Bytes), s) (tlvsOf v.msg) = r
    intro e
    split
    · exact e
    · exact (kept_sealMsg _ _ _ _).trans e
theorem kept_buildSignalResp_of {q : Request} {origin : Nat} {c : PtpCfg} {b : BindCfg} {v : PtpView} {s : State} {u0} {tt : State} (h : buildSignalResp q origin c b v s = (u0, tt)) : kept tt = kept s := by
  have e := kept_buildSignalResp q origin c b v s
  rw [h] at e; exact e
theorem kept_buildMetadata (p : Nat) (c : PtpCfg) (b : BindCfg) (seq : Nat) (s : State) : kept (buildMetadata p c b seq s).2 = kept s := by
  unfold buildMetadata
  dsimp only
  repeat' split
  all_goals (first | with_reducible rfl | (simp only [kept_mk, kept_eta, ite_self, kept_ite, kept_sealMsg]; done))
theorem kept_buildMetadata_of {p : Nat} {c : PtpCfg} {b : BindCfg} {seq : Nat} {s : State} {u0} {tt : State} (h : buildMetadata p c b seq s = (u0, tt)) : kept tt = kept s := by
  have e := kept_buildMetadata p c b seq s
  rw [h] at e; exact e

end Sys2Proof.Machine
end

