-- ==== Sys2Proof/Laws/KeptNet.lean ====
section
/-! SUPPORT. What the operations leave alone, as `kept` says it, one lemma each: LinkOps, Port, SvcOps, Svc, Ptp, Ntp, KittyOps, PairOps, PairSnap, Pair. -/
set_option linter.unusedSimpArgs false
set_option linter.unusedVariables false
namespace Sys2Proof.Machine
open Sys2Proof Host

theorem kept_updLane (n : Nat) (f : LaneRun → LaneRun) (s : State) : kept (updLane n f s) = kept s := by
  simp only [updLane, kept_mk, kept_eta, ite_self, kept_ite, kept_updPair]
theorem kept_laneTo (n : Nat) (st : PortState) (s : State) : kept (laneTo n st s) = kept s := by
  simp only [laneTo, kept_mk, kept_eta, ite_self, kept_ite, kept_raise, kept_updLane]
theorem kept_laneCalEnd (n : Nat) (seen : Bool) (temp dLoop dRx : Int) (s : State) : kept (laneCalEnd n seen temp dLoop dRx s) = kept s := by
  simp only [laneCalEnd, kept_mk, kept_eta, ite_self, kept_ite, kept_updLane]
theorem kept_laneLock (n : Nat) (s : State) : kept (laneLock n s) = kept s := by
  simp only [laneLock, kept_mk, kept_eta, ite_self, kept_ite, kept_updLane]
theorem kept_laneAligned (n : Nat) (ok : Bool) (dTx dRx : Int) (s : State) : kept (laneAligned n ok dTx dRx s) = kept s := by
  simp only [laneAligned, kept_mk, kept_eta, ite_self, kept_ite, kept_updLane]
theorem kept_laneLoss (n : Nat) (s : State) : kept (laneLoss n s) = kept s := by
  simp only [laneLoss, kept_mk, kept_eta, ite_self, kept_ite, kept_laneTo]
theorem kept_laneCalLost (n : Nat) (x : LaneReading) (fault : Bool) (s : State) : kept (laneCalLost n x fault s) = kept s := by
  simp only [laneCalLost, kept_mk, kept_eta, ite_self, kept_ite, kept_updLane]
theorem kept_clearPort (fl p : Nat) (s : State) : kept (clearPort fl p s) = kept s := by
  simp only [clearPort, kept_mk, kept_eta, ite_self, kept_ite, kept_updPort]
theorem kept_toDisabled (p : Nat) (s : State) : kept (toDisabled p s) = kept s := by
  simp only [toDisabled, kept_mk, kept_eta, ite_self, kept_ite, kept_dropQueued, kept_finishWait, kept_leaveTo, kept_updPort]
theorem kept_portCommit (old : Cfg) (s : State) : kept (portCommit old s) = kept s := by
  unfold portCommit
  repeat' first
    | with_reducible rfl
    | (simp only [kept_mk, kept_eta, ite_self, kept_ite, kept_setRank, kept_toCalibrating, kept_toDisabled, kept_updPort, kept_updRef, *]; done)
    | (simp only [kept_mk, kept_eta, ite_self, kept_ite, kept_setRank, kept_toCalibrating, kept_toDisabled, kept_updPort, kept_updRef]; done)
    | (first | (intro x) | (lift_lets; intro x)
       first
        | (have hx : kept x = kept s := by
             first
               | (simp only [x, kept_mk, kept_eta, ite_self, kept_ite, kept_setRank, kept_toCalibrating, kept_toDisabled, kept_updPort, kept_updRef, *]; done)
               | (dsimp only [x]
                  repeat' first
                    | with_reducible rfl
                    | (simp only [kept_mk, kept_eta, ite_self, kept_ite, kept_setRank, kept_toCalibrating, kept_toDisabled, kept_updPort, kept_updRef, *]; done)
                    | (refine (kept_foldl _ (fun s x => ?_) _ _).trans ?_)
                    | split
                  done)
           clear_value x)
        | (have hx : ∀ y, kept (x y) = kept y := by
             intro y; simp only [x, kept_mk, kept_eta, ite_self, kept_ite, kept_setRank, kept_toCalibrating, kept_toDisabled, kept_updPort, kept_updRef, *]; done
           clear_value x)
        | (have hx : ∀ y, kept (x y).2 = kept y := by
             intro y; simp only [x, kept_mk, kept_eta, ite_self, kept_ite, kept_setRank, kept_toCalibrating, kept_toDisabled, kept_updPort, kept_updRef, *]; done
           clear_value x)
        | (have hx : ∀ a b y, kept (x a b y) = kept y := by
             intro a b y; simp only [x, kept_mk, kept_eta, ite_self, kept_ite, kept_setRank, kept_toCalibrating, kept_toDisabled, kept_updPort, kept_updRef, *]; done
           clear_value x)
        | clear_value x)
    | (refine (kept_foldl _ (fun s x => ?_) _ _).trans ?_)
    | (simp only [kept_mk, kept_eta, ite_self, kept_ite, kept_setRank, kept_toCalibrating, kept_toDisabled, kept_updPort, kept_updRef]; refine (kept_foldl _ (fun s x => ?_) _ _).trans ?_)
    | split
theorem kept_advertise (p : Nat) (s : State) : kept (advertise p s) = kept s := by
  simp only [advertise, kept_mk, kept_eta, ite_self, kept_ite, kept_emit]
theorem kept_calibrationEnd (p ps : Nat) (seen : Bool) (temp dLoop dRxLoop : Int) (s : State) : kept (calibrationEnd p ps seen temp dLoop dRxLoop s) = kept s := by
  unfold calibrationEnd
  dsimp only
  repeat' split
  all_goals (first | with_reducible rfl | (simp only [kept_mk, kept_eta, ite_self, kept_ite, kept_advertise, kept_begin_, kept_finishWait, kept_portEvent, kept_raise, kept_raiseStamps, kept_settleBound, kept_updPort]; done))
theorem kept_blockLock (p ps : Nat) (rxFreq : Int) (an : Option Bool) (s : State) : kept (blockLock p ps rxFreq an s) = kept s := by
  simp only [blockLock, kept_mk, kept_eta, ite_self, kept_ite, kept_begin_, kept_updPort]
theorem kept_alignmentDone (p ps : Nat) (ok : Bool) (dTx dRx : Int) (s : State) : kept (alignmentDone p ps ok dTx dRx s) = kept s := by
  simp only [alignmentDone, kept_mk, kept_eta, ite_self, kept_ite, kept_begin_, kept_loseCal, kept_portEvent, kept_startPort, kept_updPort]
theorem kept_linkLoss (p ps : Nat) (s : State) : kept (linkLoss p ps s) = kept s := by
  simp only [linkLoss, kept_mk, kept_eta, ite_self, kept_ite, kept_advertise, kept_begin_, kept_dropQueued, kept_leaveTo, kept_updPort]
theorem kept_calLost (p ps : Nat) (x : LaneReading) (fault : Bool) (s : State) : kept (calLost p ps x fault s) = kept s := by
  simp only [calLost, kept_mk, kept_eta, ite_self, kept_ite, kept_begin_, kept_loseCal, kept_updPort]
theorem kept_synceSample (p ps : Nat) (s : State) : kept (synceSample p ps s) = kept s := by
  unfold synceSample
  dsimp only
  repeat' split
  all_goals (first | with_reducible rfl | (simp only [kept_mk, kept_eta, ite_self, kept_ite, kept_begin_, kept_deliver, kept_updRef]; done))
theorem kept_esmcTimeout (p : Nat) (s : State) : kept (esmcTimeout p s) = kept s := by
  unfold esmcTimeout
  dsimp only
  repeat' split
  all_goals (first | with_reducible rfl | (simp only [kept_mk, kept_eta, ite_self, kept_ite, kept_moveTo, kept_portEvent, kept_setRank, kept_updPort, kept_updRef]; done))
theorem kept_sendEsmc (p : Nat) (event : Bool) (s : State) : kept (sendEsmc p event s) = kept s := by
  simp only [sendEsmc, kept_mk, kept_eta, ite_self, kept_ite, kept_enqueue, kept_takeCells, kept_updPort]
theorem kept_esmcTx (p : Nat) (s : State) : kept (esmcTx p s) = kept s := by
  simp only [esmcTx, kept_mk, kept_eta, ite_self, kept_ite, kept_moveTo, kept_sendEsmc, kept_updPort]
theorem kept_esmcEventTx (p ps : Nat) (s : State) : kept (esmcEventTx p ps s) = kept s := by
  simp only [esmcEventTx, kept_mk, kept_eta, ite_self, kept_ite, kept_begin_, kept_sendEsmc]
theorem kept_windowEnd (p w : Nat) (s : State) : kept (windowEnd p w s) = kept s := by
  simp only [windowEnd, kept_mk, kept_eta, ite_self, kept_ite, kept_moveTo, kept_updPort]
theorem kept_pauseEffect (p : Nat) (s : State) : kept (pauseEffect p s) = kept s := by
  unfold pauseEffect
  repeat' first
    | with_reducible rfl
    | (simp only [kept_mk, kept_eta, ite_self, kept_ite, kept_loadPause, kept_moveTo, kept_updPort, *]; done)
    | (simp only [kept_mk, kept_eta, ite_self, kept_ite, kept_loadPause, kept_moveTo, kept_updPort]; done)
    | (first | (intro x) | (lift_lets; intro x)
       first
        | (have hx : kept x = kept s := by
             first
               | (simp only [x, kept_mk, kept_eta, ite_self, kept_ite, kept_loadPause, kept_moveTo, kept_updPort, *]; done)
               | (dsimp only [x]
                  repeat' first
                    | with_reducible rfl
                    | (simp only [kept_mk, kept_eta, ite_self, kept_ite, kept_loadPause, kept_moveTo, kept_updPort, *]; done)
                    | (refine (kept_foldl _ (fun s x => ?_) _ _).trans ?_)
                    | split
                  done)
           clear_value x)
        | (have hx : ∀ y, kept (x y) = kept y := by
             intro y; simp only [x, kept_mk, kept_eta, ite_self, kept_ite, kept_loadPause, kept_moveTo, kept_updPort, *]; done
           clear_value x)
        | (have hx : ∀ y, kept (x y).2 = kept y := by
             intro y; simp only [x, kept_mk, kept_eta, ite_self, kept_ite, kept_loadPause, kept_moveTo, kept_updPort, *]; done
           clear_value x)
        | (have hx : ∀ a b y, kept (x a b y) = kept y := by
             intro a b y; simp only [x, kept_mk, kept_eta, ite_self, kept_ite, kept_loadPause, kept_moveTo, kept_updPort, *]; done
           clear_value x)
        | clear_value x)
    | (refine (kept_foldl _ (fun s x => ?_) _ _).trans ?_)
    | (simp only [kept_mk, kept_eta, ite_self, kept_ite, kept_loadPause, kept_moveTo, kept_updPort]; refine (kept_foldl _ (fun s x => ?_) _ _).trans ?_)
    | split
theorem kept_pauseExpiry (p k : Nat) (s : State) : kept (pauseExpiry p k s) = kept s := by
  unfold pauseExpiry
  repeat' split
  all_goals (first | with_reducible rfl | (simp only [kept_mk, kept_eta, ite_self, kept_ite, kept_moveTo, kept_releasePrio]; done))
theorem kept_pfcXoff (p k ps : Nat) (s : State) : kept (pfcXoff p k ps s) = kept s := by
  simp only [pfcXoff, kept_mk, kept_eta, ite_self, kept_ite, kept_begin_, kept_sendPfc, kept_updPort]
theorem kept_pfcRefresh (p k : Nat) (s : State) : kept (pfcRefresh p k s) = kept s := by
  simp only [pfcRefresh, kept_mk, kept_eta, ite_self, kept_ite, kept_moveTo, kept_sendPfc, kept_updPort]
theorem kept_pfcXon (p k ps : Nat) (s : State) : kept (pfcXon p k ps s) = kept s := by
  simp only [pfcXon, kept_mk, kept_eta, ite_self, kept_ite, kept_begin_, kept_sendPfc, kept_updPort]
theorem kept_updSvc (f : SvcRun → SvcRun) (s : State) : kept (updSvc f s) = kept s := by
  simp only [updSvc, kept_mk, kept_eta, ite_self, kept_ite]
theorem kept_countRefusal (q : Request) (k : Nat) (s : State) : kept (countRefusal q k s) = kept s := by
  simp only [countRefusal, kept_mk, kept_eta, ite_self, kept_ite, kept_filterFrame, kept_portCount, kept_suitCount, kept_updSvc]
theorem kept_releaseRequest (q : Request) (s : State) : kept (releaseRequest q s) = kept s := by
  unfold releaseRequest
  dsimp only
  repeat' split
  all_goals (first | with_reducible rfl | (simp only [kept_mk, kept_eta, ite_self, kept_ite, kept_freeCells, kept_subOccupancy]; done))
theorem kept_scheduleSkip (s : State) : kept (scheduleSkip s) = kept s := by
  simp only [scheduleSkip, kept_mk, kept_eta, ite_self, kept_ite, kept_bump]
theorem kept_refuseReq (q : Request) (k : Nat) (s : State) : kept (refuseReq q k s) = kept s := by
  simp only [refuseReq, kept_mk, kept_eta, ite_self, kept_ite, kept_countRefusal, kept_raise, kept_releaseRequest, kept_scheduleSkip]
theorem kept_updJob (j : Nat) (f : Job → Job) (s : State) : kept (updJob j f s) = kept s := by
  simp only [updJob, kept_mk, kept_eta, ite_self, kept_ite, kept_updSvc]
theorem kept_updThread (h : Nat) (f : Thread → Thread) (s : State) : kept (updThread h f s) = kept s := by
  simp only [updThread, kept_mk, kept_eta, ite_self, kept_ite, kept_updSvc]
theorem kept_startJob (h j : Nat) (s : State) : kept (startJob h j s) = kept s := by
  simp only [startJob, kept_mk, kept_eta, ite_self, kept_ite, kept_releaseRequest, kept_updThread]
theorem kept_dispatch (h : Nat) (s : State) : kept (dispatch h s) = kept s := by
  unfold dispatch
  dsimp only
  repeat' split
  all_goals (first | with_reducible rfl | (simp only [kept_mk, kept_eta, ite_self, kept_ite, kept_startJob]; done))
theorem kept_commitJob (q : Request) (h : Nat) (lane : Option (LaneType × Nat × Nat × Nat)) (launch : Nat) (s : State) : kept (commitJob q h lane launch s) = kept s := by
  unfold commitJob
  repeat' first
    | with_reducible rfl
    | (simp only [kept_mk, kept_eta, ite_self, kept_ite, kept_addReceipt, kept_dispatch, kept_filterFrame, kept_portCount, kept_suitCount, kept_takeCells, kept_updPort, kept_updSvc, kept_updThread, *]; done)
    | (simp only [kept_mk, kept_eta, ite_self, kept_ite, kept_addReceipt, kept_dispatch, kept_filterFrame, kept_portCount, kept_suitCount, kept_takeCells, kept_updPort, kept_updSvc, kept_updThread]; done)
    | (first | (intro x) | (lift_lets; intro x)
       first
        | (have hx : kept x = kept s := by
             first
               | (simp only [x, kept_mk, kept_eta, ite_self, kept_ite, kept_addReceipt, kept_dispatch, kept_filterFrame, kept_portCount, kept_suitCount, kept_takeCells, kept_updPort, kept_updSvc, kept_updThread, *]; done)
               | (dsimp only [x]
                  repeat' first
                    | with_reducible rfl
                    | (simp only [kept_mk, kept_eta, ite_self, kept_ite, kept_addReceipt, kept_dispatch, kept_filterFrame, kept_portCount, kept_suitCount, kept_takeCells, kept_updPort, kept_updSvc, kept_updThread, *]; done)
                    | (refine (kept_foldl _ (fun s x => ?_) _ _).trans ?_)
                    | split
                  done)
           clear_value x)
        | (have hx : ∀ y, kept (x y) = kept y := by
             intro y; simp only [x, kept_mk, kept_eta, ite_self, kept_ite, kept_addReceipt, kept_dispatch, kept_filterFrame, kept_portCount, kept_suitCount, kept_takeCells, kept_updPort, kept_updSvc, kept_updThread, *]; done
           clear_value x)
        | (have hx : ∀ y, kept (x y).2 = kept y := by
             intro y; simp only [x, kept_mk, kept_eta, ite_self, kept_ite, kept_addReceipt, kept_dispatch, kept_filterFrame, kept_portCount, kept_suitCount, kept_takeCells, kept_updPort, kept_updSvc, kept_updThread, *]; done
           clear_value x)
        | (have hx : ∀ a b y, kept (x a b y) = kept y := by
             intro a b y; simp only [x, kept_mk, kept_eta, ite_self, kept_ite, kept_addReceipt, kept_dispatch, kept_filterFrame, kept_portCount, kept_suitCount, kept_takeCells, kept_updPort, kept_updSvc, kept_updThread, *]; done
           clear_value x)
        | clear_value x)
    | (refine (kept_foldl _ (fun s x => ?_) _ _).trans ?_)
    | (simp only [kept_mk, kept_eta, ite_self, kept_ite, kept_addReceipt, kept_dispatch, kept_filterFrame, kept_portCount, kept_suitCount, kept_takeCells, kept_updPort, kept_updSvc, kept_updThread]; refine (kept_foldl _ (fun s x => ?_) _ _).trans ?_)
    | split
theorem kept_releaseSlot (j : Job) (s : State) : kept (releaseSlot j s) = kept s := by
  simp only [releaseSlot, kept_mk, kept_eta, ite_self, kept_ite, kept_freeCells, kept_updPort]
theorem kept_queueBuilt (j : Job) (b : Built) (half : Nat) (s : State) : kept (queueBuilt j b half s) = kept s := by
  simp only [queueBuilt, kept_mk, kept_eta, ite_self, kept_ite, kept_enqueue]
theorem kept_ptpJob (j : Job) (s : State) : kept (ptpJob j s) = kept s := by
  unfold ptpJob
  repeat' first
    | with_reducible rfl
    | (simp only [kept_mk, kept_eta, ite_self, kept_ite, kept_authDiscard, kept_buildDelayResp, kept_buildPdelayResp, kept_buildSignalResp, kept_queueBuilt, kept_releaseSlot, kept_takeAnnounce, kept_takeDelayResp, kept_takeFollowUp, kept_takePdelayFu, kept_takePdelayResp, kept_takeSync, *]; done)
    | (simp only [kept_mk, kept_eta, ite_self, kept_ite, kept_authDiscard, kept_buildDelayResp, kept_buildPdelayResp, kept_buildSignalResp, kept_queueBuilt, kept_releaseSlot, kept_takeAnnounce, kept_takeDelayResp, kept_takeFollowUp, kept_takePdelayFu, kept_takePdelayResp, kept_takeSync]; done)
    | (rename_i hq; have hx := kept_buildDelayResp_of hq; clear hq)
    | (rename_i hq; have hx := kept_buildPdelayResp_of hq; clear hq)
    | (rename_i hq; have hx := kept_buildSignalResp_of hq; clear hq)
    | (first | (intro x) | (lift_lets; intro x)
       first
        | (have hx : kept x = kept s := by
             first
               | (simp only [x, kept_mk, kept_eta, ite_self, kept_ite, kept_authDiscard, kept_buildDelayResp, kept_buildPdelayResp, kept_buildSignalResp, kept_queueBuilt, kept_releaseSlot, kept_takeAnnounce, kept_takeDelayResp, kept_takeFollowUp, kept_takePdelayFu, kept_takePdelayResp, kept_takeSync, *]; done)
               | (dsimp only [x]
                  repeat' first
                    | with_reducible rfl
                    | (simp only [kept_mk, kept_eta, ite_self, kept_ite, kept_authDiscard, kept_buildDelayResp, kept_buildPdelayResp, kept_buildSignalResp, kept_queueBuilt, kept_releaseSlot, kept_takeAnnounce, kept_takeDelayResp, kept_takeFollowUp, kept_takePdelayFu, kept_takePdelayResp, kept_takeSync, *]; done)
                    | (refine (kept_foldl _ (fun s x => ?_) _ _).trans ?_)
                    | split
                  done)
           clear_value x)
        | (have hx : ∀ y, kept (x y) = kept y := by
             intro y; simp only [x, kept_mk, kept_eta, ite_self, kept_ite, kept_authDiscard, kept_buildDelayResp, kept_buildPdelayResp, kept_buildSignalResp, kept_queueBuilt, kept_releaseSlot, kept_takeAnnounce, kept_takeDelayResp, kept_takeFollowUp, kept_takePdelayFu, kept_takePdelayResp, kept_takeSync, *]; done
           clear_value x)
        | (have hx : ∀ y, kept (x y).2 = kept y := by
             intro y; simp only [x, kept_mk, kept_eta, ite_self, kept_ite, kept_authDiscard, kept_buildDelayResp, kept_buildPdelayResp, kept_buildSignalResp, kept_queueBuilt, kept_releaseSlot, kept_takeAnnounce, kept_takeDelayResp, kept_takeFollowUp, kept_takePdelayFu, kept_takePdelayResp, kept_takeSync, *]; done
           clear_value x)
        | (have hx : ∀ a b y, kept (x a b y) = kept y := by
             intro a b y; simp only [x, kept_mk, kept_eta, ite_self, kept_ite, kept_authDiscard, kept_buildDelayResp, kept_buildPdelayResp, kept_buildSignalResp, kept_queueBuilt, kept_releaseSlot, kept_takeAnnounce, kept_takeDelayResp, kept_takeFollowUp, kept_takePdelayFu, kept_takePdelayResp, kept_takeSync, *]; done
           clear_value x)
        | clear_value x)
    | (refine (kept_foldl _ (fun s x => ?_) _ _).trans ?_)
    | (simp only [kept_mk, kept_eta, ite_self, kept_ite, kept_authDiscard, kept_buildDelayResp, kept_buildPdelayResp, kept_buildSignalResp, kept_queueBuilt, kept_releaseSlot, kept_takeAnnounce, kept_takeDelayResp, kept_takeFollowUp, kept_takePdelayFu, kept_takePdelayResp, kept_takeSync]; refine (kept_foldl _ (fun s x => ?_) _ _).trans ?_)
    | split
theorem kept_esmcJob (q : Request) (s : State) : kept (esmcJob q s) = kept s := by
  simp only [esmcJob, kept_mk, kept_eta, ite_self, kept_ite, kept_setRank, kept_updPort, kept_updRef]
theorem kept_scheduledJob (j : Job) (s : State) : kept (scheduledJob j s) = kept s := by
  unfold scheduledJob
  dsimp only
  repeat' split
  all_goals (first | with_reducible rfl | (simp only [kept_mk, kept_eta, ite_self, kept_ite, kept_buildAnnounce, kept_buildDelayReq, kept_buildSignal, kept_buildSync, kept_queueBuilt, kept_releaseSlot]; done))
theorem kept_ntpJob (j : Job) (s : State) : kept (ntpJob j s) = kept s := by
  unfold ntpJob
  dsimp only
  repeat' split
  all_goals (first | with_reducible rfl | (simp only [kept_mk, kept_eta, ite_self, kept_ite, kept_ntpPayload, kept_queueBuilt, kept_releaseSlot]; done))
theorem kept_finishJob (j : Job) (s : State) : kept (finishJob j s) = kept s := by
  unfold finishJob
  repeat' split
  all_goals (first | with_reducible rfl | (simp only [kept_mk, kept_eta, ite_self, kept_ite, kept_esmcJob, kept_ntpJob, kept_ptpJob, kept_scheduledJob]; done))
theorem kept_endStretch (h : Nat) (s : State) : kept (endStretch h s) = kept s := by
  unfold endStretch
  split
  · rfl
  · dsimp only
    split
    · simp only [kept_dispatch, kept_updThread, kept_updJob, kept_updSvc, kept_moveTo]
    · simp only [kept_dispatch, kept_updThread, kept_updJob, kept_updSvc, kept_moveTo, kept_finishJob]
theorem kept_laneReturn (h : Nat) (s : State) : kept (laneReturn h s) = kept s := by
  unfold laneReturn
  dsimp only
  repeat' split
  all_goals (first | with_reducible rfl | (simp only [kept_mk, kept_eta, ite_self, kept_ite, kept_dispatch, kept_moveTo, kept_startJob, kept_updThread]; done))
theorem kept_queueEngine (p : Nat) (bytes : Bytes) (i : Nat) (u : Suit) (s : State) : kept (queueEngine p bytes i u s) = kept s := by
  simp only [queueEngine, kept_mk, kept_eta, ite_self, kept_ite, kept_enqueue, kept_takeCells]
theorem kept_noteTurn (k : Kind) (turnPs : Nat) (s : State) : kept (noteTurn k turnPs s) = kept s := by
  simp only [noteTurn, kept_mk, kept_eta, ite_self, kept_ite, kept_updSvc]
theorem kept_afterEgress (p : Nat) (f : TxFrame) (stamp plane : Nat) (s : State) : kept (afterEgress p f stamp plane s) = kept s := by
  have ha : ∀ (k : Kind) (origin : Nat) (y : State), kept (noteTurn k (plane - origin) (filterFrame 8 (f.suit.getD .spades) p (f.bytes.length + 4) (portCount p 12 (suitCount (f.suit.getD .spades) 10 y)))) = kept y := by
    intro k o y; simp only [kept_noteTurn, kept_filterFrame, kept_portCount, kept_suitCount]
  unfold afterEgress
  dsimp only
  split
  · split
    · simp only [kept_bump, kept_receiptGone, kept_updNtp, ha]
    · exact ha _ _ _
  · split
    · exact (kept_queueEngine _ _ _ _ _).trans (kept_buildFollowUp _ _ _ _ _ _ _)
    · rfl
  · split
    · exact (kept_queueEngine _ _ _ _ _).trans ((kept_buildPdelayFu _ _ _ _ _ _).trans (ha _ _ _))
    · exact ha _ _ _
  · exact kept_updBind _ _ _ _
  · rfl
  · exact kept_hostDone _ _ _ _ _ _ _ _ _
theorem kept_sendFrame (p : Nat) (f : TxFrame) (s : State) : kept (sendFrame p f s) = kept s := by
  unfold sendFrame
  dsimp only
  repeat' split
  all_goals (first | with_reducible rfl | (simp only [kept_mk, kept_eta, ite_self, kept_ite, kept_afterEgress, kept_countFrame, kept_emit, kept_portCount, kept_releaseFrame, kept_updPort]; done))
theorem kept_unqueue (p : Nat) (f : TxFrame) (s : State) : kept (unqueue p f s) = kept s := by
  simp only [unqueue, kept_mk, kept_eta, ite_self, kept_ite, kept_updPort]
theorem kept_missResponse (p : Nat) (f : TxFrame) (paused : Bool) (s : State) : kept (missResponse p f paused s) = kept s := by
  unfold missResponse
  dsimp only
  repeat' split
  all_goals (first | with_reducible rfl | (simp only [kept_mk, kept_eta, ite_self, kept_ite, kept_portCount, kept_raise, kept_receiptGone, kept_releaseFrame, kept_suitCount]; done))
theorem kept_missHost (p : Nat) (f : TxFrame) (s : State) : kept (missHost p f s) = kept s := by
  unfold missHost
  repeat' split
  all_goals (first | with_reducible rfl | (simp only [kept_mk, kept_eta, ite_self, kept_ite, kept_hostDone, kept_portCount, kept_releaseFrame, kept_updPort]; done))
theorem kept_boundCancel (p : Nat) (f : TxFrame) (s : State) : kept (boundCancel p f s) = kept s := by
  unfold boundCancel
  dsimp only
  repeat' split
  all_goals (first | with_reducible rfl | (simp only [kept_mk, kept_eta, ite_self, kept_ite, kept_portCount, kept_raise, kept_receiptGone, kept_releaseFrame, kept_suitCount, kept_updNtp]; done))
theorem kept_timedLaunch (p : Nat) (s : State) : kept (timedLaunch p s) = kept s := by
  unfold timedLaunch
  dsimp only
  repeat' split
  all_goals (first | with_reducible rfl | (simp only [kept_mk, kept_eta, ite_self, kept_ite, kept_boundCancel, kept_missHost, kept_missResponse, kept_moveTo, kept_sendFrame, kept_unqueue]; done))
theorem kept_untimedTx (p ps : Nat) (s : State) : kept (untimedTx p ps s) = kept s := by
  unfold untimedTx
  dsimp only
  repeat' split
  all_goals (first | with_reducible rfl | (simp only [kept_mk, kept_eta, ite_self, kept_ite, kept_begin_, kept_moveTo, kept_sendFrame, kept_updPort]; done))
theorem kept_clubsRefusal (p len : Nat) (s : State) : kept (clubsRefusal p len s) = kept s := by
  simp only [clubsRefusal, kept_mk, kept_eta, ite_self, kept_ite, kept_filterFrame, kept_suitCount]
theorem kept_clubsShed (s : State) : kept (clubsShed s) = kept s := by
  simp only [clubsShed, kept_mk, kept_eta, ite_self, kept_ite, kept_bump, kept_onceInHand, kept_suitCount, kept_updSvc]
theorem kept_chargeFrame {u : Suit} {p prio len : Nat} {s t : State} (h : chargeFrame u p prio len s = some t) : kept t = kept s := by
  unfold chargeFrame at h
  dsimp only at h
  split at h
  · rw [← Option.some.inj h]
    exact (kept_addOccupancy _ _ _ _).trans (kept_takeCells _ _ _)
  · cases h
theorem kept_takeClubs (p prio code : Nat) (f : Bytes) (stamp : Nat) (s : State) : kept (takeClubs p prio code f stamp s) = kept s := by
  have h0 : kept (filterFrame 5 .clubs p (f.length + 4) (suitCount .clubs 0 s)) = kept s := by simp only [kept_filterFrame, kept_suitCount]
  unfold takeClubs
  revert h0
  generalize filterFrame 5 .clubs p (f.length + 4) (suitCount .clubs 0 s) = x
  intro h0
  dsimp only
  split
  · exact (kept_clubsShed _).trans h0
  · have h1 : kept (if x.work.svc.clubsRate = 0 then x else updSvc (fun v => { v with tokens := clubsTokens x - 10 ^ 12, tokensAt := x.now }) x) = kept s := by
      simp only [kept_ite, kept_updSvc, ite_self, h0]
    revert h1
    generalize (if x.work.svc.clubsRate = 0 then x else updSvc (fun v => { v with tokens := clubsTokens x - 10 ^ 12, tokensAt := x.now }) x) = y
    intro h1
    split
    · simp only [kept_raise, kept_bump, kept_mk, kept_eta, h1]
    · split
      · exact (kept_clubsRefusal _ _ _).trans h1
      · rename_i hq
        simp only [kept_filterFrame, kept_suitCount, kept_updRing, kept_chargeFrame hq, h1]
theorem kept_awaitAdmission (q : Request) (s : State) : kept (awaitAdmission q s) = kept s := by
  simp only [awaitAdmission, kept_mk, kept_eta, ite_self, kept_ite, kept_updSvc]
theorem kept_classified (q : Request) (s : State) : kept (classified q s) = kept s := by
  simp only [classified, kept_mk, kept_eta, ite_self, kept_ite, kept_filterFrame, kept_suitCount]
theorem kept_takeRequest (q : Request) (s : State) : kept (takeRequest q s) = kept s := by
  unfold takeRequest
  dsimp only
  split
  · simp only [kept_countRefusal, kept_classified]
  · rename_i hq
    simp only [kept_awaitAdmission, kept_chargeFrame hq, kept_classified]
theorem kept_takePtp (q : Request) (b : BindCfg) (v : PtpView) (s : State) : kept (takePtp q b v s) = kept s := by
  unfold takePtp
  dsimp only
  generalize hx : (if (if msgType v.msg ≤ 3 then Suit.spades else Suit.hearts) = Suit.spades then learnSpades q.port q.prio s else s) = x
  have h1 : kept x = kept s := by rw [← hx]; simp only [kept_ite, kept_learnSpades, ite_self]
  have h2 : kept (if msgType v.msg = 1 ∧ servesUnicast b = true ∧ (!atGroup b v) = true then delayReqOk b.inst q.port v q.tIn x else (true, x)).2 = kept x := by
    split
    · exact kept_delayReqOk _ _ _ _ _
    · rfl
  revert h2
  generalize (if msgType v.msg = 1 ∧ servesUnicast b = true ∧ (!atGroup b v) = true then delayReqOk b.inst q.port v q.tIn x else (true, x)) = r
  intro h2
  split
  · exact (kept_classified _ _).trans (h2.trans h1)
  · exact (kept_takeRequest _ _).trans (h2.trans h1)
theorem kept_takeNtp (q : Request) (inst : Nat) (u : UdpView) (stamp : Nat) (s : State) : kept (takeNtp q inst u stamp s) = kept s := by
  unfold takeNtp
  repeat' first
    | with_reducible rfl
    | (simp only [kept_mk, kept_eta, ite_self, kept_ite, kept_classified, kept_sortNtp, kept_takeClubs, kept_takeRequest, *]; done)
    | (simp only [kept_mk, kept_eta, ite_self, kept_ite, kept_classified, kept_sortNtp, kept_takeClubs, kept_takeRequest]; done)
    | (rename_i hq; have hx := kept_sortNtp_of hq; clear hq)
    | (first | (intro x) | (lift_lets; intro x)
       first
        | (have hx : kept x = kept s := by
             first
               | (simp only [x, kept_mk, kept_eta, ite_self, kept_ite, kept_classified, kept_sortNtp, kept_takeClubs, kept_takeRequest, *]; done)
               | (dsimp only [x]
                  repeat' first
                    | with_reducible rfl
                    | (simp only [kept_mk, kept_eta, ite_self, kept_ite, kept_classified, kept_sortNtp, kept_takeClubs, kept_takeRequest, *]; done)
                    | (refine (kept_foldl _ (fun s x => ?_) _ _).trans ?_)
                    | split
                  done)
           clear_value x)
        | (have hx : ∀ y, kept (x y) = kept y := by
             intro y; simp only [x, kept_mk, kept_eta, ite_self, kept_ite, kept_classified, kept_sortNtp, kept_takeClubs, kept_takeRequest, *]; done
           clear_value x)
        | (have hx : ∀ y, kept (x y).2 = kept y := by
             intro y; simp only [x, kept_mk, kept_eta, ite_self, kept_ite, kept_classified, kept_sortNtp, kept_takeClubs, kept_takeRequest, *]; done
           clear_value x)
        | (have hx : ∀ a b y, kept (x a b y) = kept y := by
             intro a b y; simp only [x, kept_mk, kept_eta, ite_self, kept_ite, kept_classified, kept_sortNtp, kept_takeClubs, kept_takeRequest, *]; done
           clear_value x)
        | clear_value x)
    | (refine (kept_foldl _ (fun s x => ?_) _ _).trans ?_)
    | (simp only [kept_mk, kept_eta, ite_self, kept_ite, kept_classified, kept_sortNtp, kept_takeClubs, kept_takeRequest]; refine (kept_foldl _ (fun s x => ?_) _ _).trans ?_)
    | split
theorem kept_takeReceipt (q : Request) (u : UdpView) (s : State) : kept (takeReceipt q u s) = kept s := by
  simp only [takeReceipt, kept_mk, kept_eta, ite_self, kept_ite, kept_bump, kept_chargeToken, kept_classified, kept_noteMalformed, kept_noteOverRate, kept_raise, kept_takeRequest, kept_updNtp]
theorem kept_discarded (q : Request) (r : Rough) (s : State) : kept (discarded q r s) = kept s := by
  have h : ∀ u : Suit, kept (classified { q with suit := u } (if u = .spades then learnSpades q.port q.prio s else s)) = kept s := by
    intro u
    refine (kept_classified _ _).trans ?_
    split
    · exact kept_learnSpades _ _ _
    · rfl
  exact h _
theorem kept_classify (p ps : Nat) (f : Bytes) (s : State) : kept (classify p ps f s) = kept s := by
  unfold classify
  dsimp only
  repeat' split
  all_goals (first | with_reducible rfl | (simp only [kept_mk, kept_eta, ite_self, kept_ite, kept_bump, kept_discarded, kept_takeClubs, kept_takeNtp, kept_takePtp, kept_takeReceipt, kept_takeRequest]; done))
theorem kept_macControl (p : Nat) (f : Bytes) (s : State) : kept (macControl p f s) = kept s := by
  unfold macControl
  dsimp only
  repeat' split
  all_goals (first | with_reducible rfl | (simp only [kept_mk, kept_eta, ite_self, kept_ite, kept_portCount, kept_updPort]; done))
theorem kept_frameRx (p ps : Nat) (fcsOk : Bool) (f : Bytes) (s : State) : kept (frameRx p ps fcsOk f s) = kept s := by
  unfold frameRx
  dsimp only
  repeat' split
  all_goals (first | with_reducible rfl | (simp only [kept_mk, kept_eta, ite_self, kept_ite, kept_begin_, kept_classify, kept_countFrame, kept_macControl, kept_portCount]; done))
theorem kept_admissionDecision (ps : Nat) (s : State) : kept (admissionDecision ps s) = kept s := by
  unfold admissionDecision
  dsimp only
  repeat' split
  all_goals (first | with_reducible rfl | (simp only [kept_mk, kept_eta, ite_self, kept_ite, kept_begin_, kept_bump, kept_commitJob, kept_refuseReq, kept_releaseRequest, kept_scheduleSkip, kept_updSvc]; done))
theorem kept_shedEnd (s : State) : kept (shedEnd s) = kept s := by
  unfold shedEnd
  repeat' split
  all_goals (first | with_reducible rfl | (simp only [kept_mk, kept_eta, ite_self, kept_ite, kept_moveTo, kept_raise, kept_updSvc]; done))
theorem kept_dropReceipt (q : Request) (s : State) : kept (dropReceipt q s) = kept s := by
  simp only [dropReceipt, kept_mk, kept_eta, ite_self, kept_ite, kept_receiptGone, kept_updNtp]
theorem kept_faultDrop (s : State) (j : Nat) : kept (faultDrop s j) = kept s := by
  unfold faultDrop
  dsimp only
  repeat' split
  all_goals (first | with_reducible rfl | (simp only [kept_mk, kept_eta, ite_self, kept_ite, kept_bump, kept_dropReceipt, kept_raise, kept_releaseRequest, kept_releaseSlot, kept_suitCount, kept_updSvc]; done))
theorem kept_engineFault (e ps : Nat) (s : State) : kept (engineFault e ps s) = kept s := by
  unfold engineFault
  repeat' first
    | with_reducible rfl
    | (simp only [kept_mk, kept_eta, ite_self, kept_ite, kept_begin_, kept_faultDrop, kept_raiseIdx, kept_selfFault, kept_updSvc, kept_updThread, *]; done)
    | (simp only [kept_mk, kept_eta, ite_self, kept_ite, kept_begin_, kept_faultDrop, kept_raiseIdx, kept_selfFault, kept_updSvc, kept_updThread]; done)
    | (first | (intro x) | (lift_lets; intro x)
       first
        | (have hx : kept x = kept s := by
             first
               | (simp only [x, kept_mk, kept_eta, ite_self, kept_ite, kept_begin_, kept_faultDrop, kept_raiseIdx, kept_selfFault, kept_updSvc, kept_updThread, *]; done)
               | (dsimp only [x]
                  repeat' first
                    | with_reducible rfl
                    | (simp only [kept_mk, kept_eta, ite_self, kept_ite, kept_begin_, kept_faultDrop, kept_raiseIdx, kept_selfFault, kept_updSvc, kept_updThread, *]; done)
                    | (refine (kept_foldl _ (fun s x => ?_) _ _).trans ?_)
                    | split
                  done)
           clear_value x)
        | (have hx : ∀ y, kept (x y) = kept y := by
             intro y; simp only [x, kept_mk, kept_eta, ite_self, kept_ite, kept_begin_, kept_faultDrop, kept_raiseIdx, kept_selfFault, kept_updSvc, kept_updThread, *]; done
           clear_value x)
        | (have hx : ∀ y, kept (x y).2 = kept y := by
             intro y; simp only [x, kept_mk, kept_eta, ite_self, kept_ite, kept_begin_, kept_faultDrop, kept_raiseIdx, kept_selfFault, kept_updSvc, kept_updThread, *]; done
           clear_value x)
        | (have hx : ∀ a b y, kept (x a b y) = kept y := by
             intro a b y; simp only [x, kept_mk, kept_eta, ite_self, kept_ite, kept_begin_, kept_faultDrop, kept_raiseIdx, kept_selfFault, kept_updSvc, kept_updThread, *]; done
           clear_value x)
        | clear_value x)
    | (refine (kept_foldl _ (fun s x => ?_) _ _).trans ?_)
    | (simp only [kept_mk, kept_eta, ite_self, kept_ite, kept_begin_, kept_faultDrop, kept_raiseIdx, kept_selfFault, kept_updSvc, kept_updThread]; refine (kept_foldl _ (fun s x => ?_) _ _).trans ?_)
    | split
theorem kept_scheduledPresent (i p mtype : Nat) (g : Option Nat) (s : State) : kept (scheduledPresent i p mtype g s) = kept s := by
  unfold scheduledPresent
  dsimp only
  repeat' split
  all_goals (first | with_reducible rfl | (simp only [kept_mk, kept_eta, ite_self, kept_ite, kept_awaitAdmission, kept_moveToCounter, kept_scheduleSkip]; done))
theorem kept_batchClose (s : State) : kept (batchClose s) = kept s := by
  unfold batchClose
  repeat' split
  all_goals (first | with_reducible rfl | (simp only [kept_mk, kept_eta, ite_self, kept_ite, kept_closeBatch, kept_moveTo]; done))
theorem kept_sendReceipt (s : State) (x : Receipt × Bytes) : kept (sendReceipt s x) = kept s := by
  unfold sendReceipt
  dsimp only
  repeat' split
  all_goals (first | with_reducible rfl | (simp only [kept_mk, kept_eta, ite_self, kept_ite, kept_enqueue, kept_linkDrop, kept_updPort]; done))
theorem kept_batchSigned (ps : Nat) (s : State) : kept (batchSigned ps s) = kept s := by
  unfold batchSigned
  repeat' first
    | with_reducible rfl
    | (simp only [kept_mk, kept_eta, ite_self, kept_ite, kept_begin_, kept_bump, kept_sendReceipt, kept_updNtp, *]; done)
    | (simp only [kept_mk, kept_eta, ite_self, kept_ite, kept_begin_, kept_bump, kept_sendReceipt, kept_updNtp]; done)
    | (first | (intro x) | (lift_lets; intro x)
       first
        | (have hx : kept x = kept s := by
             first
               | (simp only [x, kept_mk, kept_eta, ite_self, kept_ite, kept_begin_, kept_bump, kept_sendReceipt, kept_updNtp, *]; done)
               | (dsimp only [x]
                  repeat' first
                    | with_reducible rfl
                    | (simp only [kept_mk, kept_eta, ite_self, kept_ite, kept_begin_, kept_bump, kept_sendReceipt, kept_updNtp, *]; done)
                    | (refine (kept_foldl _ (fun s x => ?_) _ _).trans ?_)
                    | split
                  done)
           clear_value x)
        | (have hx : ∀ y, kept (x y) = kept y := by
             intro y; simp only [x, kept_mk, kept_eta, ite_self, kept_ite, kept_begin_, kept_bump, kept_sendReceipt, kept_updNtp, *]; done
           clear_value x)
        | (have hx : ∀ y, kept (x y).2 = kept y := by
             intro y; simp only [x, kept_mk, kept_eta, ite_self, kept_ite, kept_begin_, kept_bump, kept_sendReceipt, kept_updNtp, *]; done
           clear_value x)
        | (have hx : ∀ a b y, kept (x a b y) = kept y := by
             intro a b y; simp only [x, kept_mk, kept_eta, ite_self, kept_ite, kept_begin_, kept_bump, kept_sendReceipt, kept_updNtp, *]; done
           clear_value x)
        | clear_value x)
    | (refine (kept_foldl _ (fun s x => ?_) _ _).trans ?_)
    | (simp only [kept_mk, kept_eta, ite_self, kept_ite, kept_begin_, kept_bump, kept_sendReceipt, kept_updNtp]; refine (kept_foldl _ (fun s x => ?_) _ _).trans ?_)
    | split
theorem kept_svcCommit (old : Cfg) (s : State) : kept (svcCommit old s) = kept s := by
  simp only [svcCommit, kept_mk, kept_eta, ite_self, kept_ite, kept_shedCheck, kept_updSvc]
theorem kept_cancelGrant (k : Nat) (s : State) : kept (cancelGrant k s) = kept s := by
  unfold cancelGrant
  dsimp only
  repeat' split
  all_goals (first | with_reducible rfl | (simp only [kept_mk, kept_eta, ite_self, kept_ite, kept_presentSignal]; done))
theorem kept_revoke (cancel : Bool) (s : State) (k : Nat) : kept (revoke cancel s k) = kept s := by
  simp only [revoke, kept_mk, kept_eta, ite_self, kept_ite, kept_cancelGrant, kept_dropGrant, kept_forwardGrant, kept_updPtp]
theorem kept_grantExpiry (k : Nat) (s : State) : kept (grantExpiry k s) = kept s := by
  unfold grantExpiry
  repeat' split
  all_goals (first | with_reducible rfl | (simp only [kept_mk, kept_eta, ite_self, kept_ite, kept_bump, kept_dropGrant, kept_moveTo]; done))
theorem kept_signalAs (old : Cfg) (i p mac ip : Nat) (tags tlvs : Bytes) (c : PtpCfg) (b : BindCfg) (s : State) : kept (signalAs old i p mac ip tags tlvs c b s).2 = kept s := by
  have h := kept_buildSignal i p mac ip tags tlvs c b { s with work := old }
  have h1 := congrArg (fun e => e.1) h
  have h2 := congrArg (fun e => e.2.1) h
  exact Prod.ext h1 (Prod.ext h2 rfl)
theorem kept_signalAs_of {old : Cfg} {i p mac ip : Nat} {tags tlvs : Bytes} {c : PtpCfg} {b : BindCfg} {s : State} {u0} {tt : State} (h : signalAs old i p mac ip tags tlvs c b s = (u0, tt)) : kept tt = kept s := by
  have e := kept_signalAs old i p mac ip tags tlvs c b s
  rw [h] at e; exact e
theorem kept_cancelNow (old : Cfg) (k : Nat) (s : State) : kept (cancelNow old k s) = kept s := by
  unfold cancelNow
  dsimp only
  repeat' split
  all_goals (first | with_reducible rfl | (simp only [kept_mk, kept_eta, ite_self, kept_ite, kept_queueEngine, kept_signalAs]; done))
theorem kept_endInst (old : Cfg) (i : Nat) (cancel : Bool) (s : State) : kept (endInst old i cancel s) = kept s := by
  unfold endInst
  repeat' first
    | with_reducible rfl
    | (simp only [kept_mk, kept_eta, ite_self, kept_ite, kept_cancelNow, kept_dropGrant, kept_evalAll, kept_setCheck, kept_updPtp, kept_updRef, *]; done)
    | (simp only [kept_mk, kept_eta, ite_self, kept_ite, kept_cancelNow, kept_dropGrant, kept_evalAll, kept_setCheck, kept_updPtp, kept_updRef]; done)
    | (first | (intro x) | (lift_lets; intro x)
       first
        | (have hx : kept x = kept s := by
             first
               | (simp only [x, kept_mk, kept_eta, ite_self, kept_ite, kept_cancelNow, kept_dropGrant, kept_evalAll, kept_setCheck, kept_updPtp, kept_updRef, *]; done)
               | (dsimp only [x]
                  repeat' first
                    | with_reducible rfl
                    | (simp only [kept_mk, kept_eta, ite_self, kept_ite, kept_cancelNow, kept_dropGrant, kept_evalAll, kept_setCheck, kept_updPtp, kept_updRef, *]; done)
                    | (refine (kept_foldl _ (fun s x => ?_) _ _).trans ?_)
                    | split
                  done)
           clear_value x)
        | (have hx : ∀ y, kept (x y) = kept y := by
             intro y; simp only [x, kept_mk, kept_eta, ite_self, kept_ite, kept_cancelNow, kept_dropGrant, kept_evalAll, kept_setCheck, kept_updPtp, kept_updRef, *]; done
           clear_value x)
        | (have hx : ∀ y, kept (x y).2 = kept y := by
             intro y; simp only [x, kept_mk, kept_eta, ite_self, kept_ite, kept_cancelNow, kept_dropGrant, kept_evalAll, kept_setCheck, kept_updPtp, kept_updRef, *]; done
           clear_value x)
        | (have hx : ∀ a b y, kept (x a b y) = kept y := by
             intro a b y; simp only [x, kept_mk, kept_eta, ite_self, kept_ite, kept_cancelNow, kept_dropGrant, kept_evalAll, kept_setCheck, kept_updPtp, kept_updRef, *]; done
           clear_value x)
        | clear_value x)
    | (refine (kept_foldl _ (fun s x => ?_) _ _).trans ?_)
    | (simp only [kept_mk, kept_eta, ite_self, kept_ite, kept_cancelNow, kept_dropGrant, kept_evalAll, kept_setCheck, kept_updPtp, kept_updRef]; refine (kept_foldl _ (fun s x => ?_) _ _).trans ?_)
    | split
theorem kept_endBind (i p : Nat) (s : State) : kept (endBind i p s) = kept s := by
  unfold endBind
  repeat' first
    | with_reducible rfl
    | (simp only [kept_mk, kept_eta, ite_self, kept_ite, kept_dropGrant, kept_loseMaster, kept_updPtp, *]; done)
    | (simp only [kept_mk, kept_eta, ite_self, kept_ite, kept_dropGrant, kept_loseMaster, kept_updPtp]; done)
    | (first | (intro x) | (lift_lets; intro x)
       first
        | (have hx : kept x = kept s := by
             first
               | (simp only [x, kept_mk, kept_eta, ite_self, kept_ite, kept_dropGrant, kept_loseMaster, kept_updPtp, *]; done)
               | (dsimp only [x]
                  repeat' first
                    | with_reducible rfl
                    | (simp only [kept_mk, kept_eta, ite_self, kept_ite, kept_dropGrant, kept_loseMaster, kept_updPtp, *]; done)
                    | (refine (kept_foldl _ (fun s x => ?_) _ _).trans ?_)
                    | split
                  done)
           clear_value x)
        | (have hx : ∀ y, kept (x y) = kept y := by
             intro y; simp only [x, kept_mk, kept_eta, ite_self, kept_ite, kept_dropGrant, kept_loseMaster, kept_updPtp, *]; done
           clear_value x)
        | (have hx : ∀ y, kept (x y).2 = kept y := by
             intro y; simp only [x, kept_mk, kept_eta, ite_self, kept_ite, kept_dropGrant, kept_loseMaster, kept_updPtp, *]; done
           clear_value x)
        | (have hx : ∀ a b y, kept (x a b y) = kept y := by
             intro a b y; simp only [x, kept_mk, kept_eta, ite_self, kept_ite, kept_dropGrant, kept_loseMaster, kept_updPtp, *]; done
           clear_value x)
        | clear_value x)
    | (refine (kept_foldl _ (fun s x => ?_) _ _).trans ?_)
    | (simp only [kept_mk, kept_eta, ite_self, kept_ite, kept_dropGrant, kept_loseMaster, kept_updPtp]; refine (kept_foldl _ (fun s x => ?_) _ _).trans ?_)
    | split
theorem kept_announceTimeout (i p : Nat) (s : State) : kept (announceTimeout i p s) = kept s := by
  unfold announceTimeout
  split
  · dsimp only
    split
    · rfl
    · split
      · split
        · simp only [kept_runBmca, kept_clientParent, kept_loseMaster, kept_updBind, kept_moveTo]
        · simp only [kept_runBmca, kept_updBind, kept_moveTo]
      · simp only [kept_runBmca, kept_updBind, kept_moveTo]
  · rfl
theorem kept_followupTimeout (i p : Nat) (s : State) : kept (followupTimeout i p s) = kept s := by
  unfold followupTimeout
  repeat' split
  all_goals (first | with_reducible rfl | (simp only [kept_mk, kept_eta, ite_self, kept_ite, kept_bump, kept_moveTo, kept_updBind]; done))
theorem kept_syncTimeout (i : Nat) (s : State) : kept (syncTimeout i s) = kept s := by
  unfold syncTimeout
  dsimp only
  repeat' split
  all_goals (first | with_reducible rfl | (simp only [kept_mk, kept_eta, ite_self, kept_ite, kept_loseMaster, kept_moveTo, kept_runBmca]; done))
theorem kept_pathDelayTimeout (i p : Nat) (s : State) : kept (pathDelayTimeout i p s) = kept s := by
  simp only [pathDelayTimeout, kept_mk, kept_eta, ite_self, kept_ite, kept_moveTo, kept_updBind]
theorem kept_st2059Metadata (i : Nat) (s : State) : kept (st2059Metadata i s) = kept s := by
  unfold st2059Metadata
  repeat' first
    | with_reducible rfl
    | (simp only [kept_mk, kept_eta, ite_self, kept_ite, kept_buildMetadata, kept_moveToCounter, kept_queueEngine, *]; done)
    | (simp only [kept_mk, kept_eta, ite_self, kept_ite, kept_buildMetadata, kept_moveToCounter, kept_queueEngine]; done)
    | (rename_i hq; have hx := kept_buildMetadata_of hq; clear hq)
    | (first | (intro x) | (lift_lets; intro x)
       first
        | (have hx : kept x = kept s := by
             first
               | (simp only [x, kept_mk, kept_eta, ite_self, kept_ite, kept_buildMetadata, kept_moveToCounter, kept_queueEngine, *]; done)
               | (dsimp only [x]
                  repeat' first
                    | with_reducible rfl
                    | (simp only [kept_mk, kept_eta, ite_self, kept_ite, kept_buildMetadata, kept_moveToCounter, kept_queueEngine, *]; done)
                    | (refine (kept_foldl _ (fun s x => ?_) _ _).trans ?_)
                    | split
                  done)
           clear_value x)
        | (have hx : ∀ y, kept (x y) = kept y := by
             intro y; simp only [x, kept_mk, kept_eta, ite_self, kept_ite, kept_buildMetadata, kept_moveToCounter, kept_queueEngine, *]; done
           clear_value x)
        | (have hx : ∀ y, kept (x y).2 = kept y := by
             intro y; simp only [x, kept_mk, kept_eta, ite_self, kept_ite, kept_buildMetadata, kept_moveToCounter, kept_queueEngine, *]; done
           clear_value x)
        | (have hx : ∀ a b y, kept (x a b y) = kept y := by
             intro a b y; simp only [x, kept_mk, kept_eta, ite_self, kept_ite, kept_buildMetadata, kept_moveToCounter, kept_queueEngine, *]; done
           clear_value x)
        | clear_value x)
    | (refine (kept_foldl _ (fun s x => ?_) _ _).trans ?_)
    | (simp only [kept_mk, kept_eta, ite_self, kept_ite, kept_buildMetadata, kept_moveToCounter, kept_queueEngine]; refine (kept_foldl _ (fun s x => ?_) _ _).trans ?_)
    | split
theorem kept_upstreamDue (granted : Bool) (i p k mtype : Nat) (s : State) : kept (upstreamDue granted i p k mtype s) = kept s := by
  unfold upstreamDue
  repeat' split
  all_goals (first | with_reducible rfl | (simp only [kept_mk, kept_eta, ite_self, kept_ite, kept_askUpstream, kept_moveTo]; done))
theorem kept_restartSlaves (s : State) : kept (restartSlaves s) = kept s := by
  unfold restartSlaves
  repeat' first
    | with_reducible rfl
    | (simp only [kept_mk, kept_eta, ite_self, kept_ite, kept_loseMaster, kept_setBindState, kept_startBind, kept_updBind, *]; done)
    | (simp only [kept_mk, kept_eta, ite_self, kept_ite, kept_loseMaster, kept_setBindState, kept_startBind, kept_updBind]; done)
    | (first | (intro x) | (lift_lets; intro x)
       first
        | (have hx : kept x = kept s := by
             first
               | (simp only [x, kept_mk, kept_eta, ite_self, kept_ite, kept_loseMaster, kept_setBindState, kept_startBind, kept_updBind, *]; done)
               | (dsimp only [x]
                  repeat' first
                    | with_reducible rfl
                    | (simp only [kept_mk, kept_eta, ite_self, kept_ite, kept_loseMaster, kept_setBindState, kept_startBind, kept_updBind, *]; done)
                    | (refine (kept_foldl _ (fun s x => ?_) _ _).trans ?_)
                    | split
                  done)
           clear_value x)
        | (have hx : ∀ y, kept (x y) = kept y := by
             intro y; simp only [x, kept_mk, kept_eta, ite_self, kept_ite, kept_loseMaster, kept_setBindState, kept_startBind, kept_updBind, *]; done
           clear_value x)
        | (have hx : ∀ y, kept (x y).2 = kept y := by
             intro y; simp only [x, kept_mk, kept_eta, ite_self, kept_ite, kept_loseMaster, kept_setBindState, kept_startBind, kept_updBind, *]; done
           clear_value x)
        | (have hx : ∀ a b y, kept (x a b y) = kept y := by
             intro a b y; simp only [x, kept_mk, kept_eta, ite_self, kept_ite, kept_loseMaster, kept_setBindState, kept_startBind, kept_updBind, *]; done
           clear_value x)
        | clear_value x)
    | (refine (kept_foldl _ (fun s x => ?_) _ _).trans ?_)
    | (simp only [kept_mk, kept_eta, ite_self, kept_ite, kept_loseMaster, kept_setBindState, kept_startBind, kept_updBind]; refine (kept_foldl _ (fun s x => ?_) _ _).trans ?_)
    | split
theorem kept_rotate (i : Nat) (s : State) : kept (rotate i s) = kept s := by
  simp only [rotate, kept_mk, kept_eta, ite_self, kept_ite, kept_forward, kept_raiseIdx, kept_updNtpRun]
theorem kept_scheduledRotation (i : Nat) (s : State) : kept (scheduledRotation i s) = kept s := by
  unfold scheduledRotation
  repeat' split
  all_goals (first | with_reducible rfl | (simp only [kept_mk, kept_eta, ite_self, kept_ite, kept_moveToCounter, kept_rotate, kept_updNtpRun]; done))
theorem kept_rateCommit (old : Cfg) (s : State) : kept (rateCommit old s) = kept s := by
  simp only [rateCommit, kept_mk, kept_eta, ite_self, kept_ite, kept_settleBuckets]
theorem kept_updKitty (f : KittyPart → KittyPart) (s : State) : kept (updKitty f s) = kept s := by
  simp only [updKitty, kept_mk, kept_eta, ite_self, kept_ite]
theorem kept_updAttest (f : AttestPart → AttestPart) (s : State) (h : (f s.attest).lc = s.attest.lc) : kept (updAttest f s) = kept s := by
  unfold updAttest
  rw [kept_mk, h]; exact kept_eta s
theorem kept_extend (k : Nat) (d : Bytes) (s : State) : kept (extend k d s) = kept s := by
  simp only [extend, kept_mk, kept_eta, ite_self, kept_ite, and_self, kept_updAttest]
theorem kept_deriveKeys (s : State) : kept (deriveKeys s) = kept s := by
  unfold deriveKeys
  dsimp only
  repeat' split
  all_goals (first | with_reducible rfl | (simp only [kept_mk, kept_eta, ite_self, kept_ite, and_self, kept_updAttest]; done))
theorem kept_setBank (b : Nat) (img : Bytes) (s : State) : kept (setBank b img s) = kept s := by
  simp only [setBank, kept_mk, kept_eta, ite_self, kept_ite]
theorem kept_burn (what : String) (addr sectors : Nat) (b : Bytes) (s : State) : kept (burn what addr sectors b s) = kept s := by
  simp only [burn, kept_mk, kept_eta, ite_self, kept_ite, kept_emit]
theorem kept_programImage (s : State) : kept (programImage s) = kept s := by
  unfold programImage
  repeat' split
  all_goals (first | with_reducible rfl | (simp only [kept_mk, kept_eta, ite_self, kept_ite, kept_burn, kept_setBank, kept_updKitty]; done))
theorem kept_startImage (body : Bytes) (s : State) : kept (startImage body s) = kept s := by
  unfold startImage
  dsimp only
  repeat' split
  all_goals (first | with_reducible rfl | (simp only [kept_mk, kept_eta, ite_self, kept_ite, kept_programImage, kept_updKitty, kept_useFree]; done))
theorem kept_dueImage (body : Bytes) (s : State) : kept (dueImage body s) = kept s := by
  simp only [dueImage, kept_mk, kept_eta, ite_self, kept_ite, kept_raise, kept_startImage, kept_updKitty]
theorem kept_zeroise (s : State) : kept (zeroise s) = kept s := by
  simp only [zeroise, kept_mk, kept_eta, ite_self, kept_ite, kept_updKitty, kept_updNtp]
theorem kept_refreshQuotes (before s : State) : kept (refreshQuotes before s) = kept s := by
  simp only [refreshQuotes, kept_mk, kept_eta, ite_self, kept_ite]
theorem kept_settleEnable (delay : Nat) (s : State) : kept (settleEnable delay s) = kept s := by
  simp only [settleEnable, kept_mk, kept_eta, ite_self, kept_ite, kept_updPair]
theorem kept_settleSeize (s : State) : kept (settleSeize s) = kept s := by
  simp only [settleSeize, kept_mk, kept_eta, ite_self, kept_ite, kept_updPair]
theorem kept_takeClaim (c : Nat) (quiet : Bool) (s : State) : kept (takeClaim c quiet s) = kept s := by
  simp only [takeClaim, kept_mk, kept_eta, ite_self, kept_ite, kept_settleEnable, kept_settleSeize, kept_updPair]
theorem kept_claimSetDone (s : State) : kept (claimSetDone s) = kept s := by
  simp only [claimSetDone, kept_mk, kept_eta, ite_self, kept_ite, kept_finishWait]
theorem kept_claimSent (c : Nat) (s : State) : kept (claimSent c s) = kept s := by
  simp only [claimSent, kept_mk, kept_eta, ite_self, kept_ite, kept_claimSetDone, kept_settleEnable, kept_updPair]
theorem kept_freeAll (s : State) : kept (freeAll s) = kept s := by
  unfold freeAll
  repeat' first
    | with_reducible rfl
    | (simp only [kept_mk, kept_eta, ite_self, kept_ite, kept_updDpll, *]; done)
    | (simp only [kept_mk, kept_eta, ite_self, kept_ite, kept_updDpll]; done)
    | (first | (intro x) | (lift_lets; intro x)
       first
        | (have hx : kept x = kept s := by
             first
               | (simp only [x, kept_mk, kept_eta, ite_self, kept_ite, kept_updDpll, *]; done)
               | (dsimp only [x]
                  repeat' first
                    | with_reducible rfl
                    | (simp only [kept_mk, kept_eta, ite_self, kept_ite, kept_updDpll, *]; done)
                    | (refine (kept_foldl _ (fun s x => ?_) _ _).trans ?_)
                    | split
                  done)
           clear_value x)
        | (have hx : ∀ y, kept (x y) = kept y := by
             intro y; simp only [x, kept_mk, kept_eta, ite_self, kept_ite, kept_updDpll, *]; done
           clear_value x)
        | (have hx : ∀ y, kept (x y).2 = kept y := by
             intro y; simp only [x, kept_mk, kept_eta, ite_self, kept_ite, kept_updDpll, *]; done
           clear_value x)
        | (have hx : ∀ a b y, kept (x a b y) = kept y := by
             intro a b y; simp only [x, kept_mk, kept_eta, ite_self, kept_ite, kept_updDpll, *]; done
           clear_value x)
        | clear_value x)
    | (refine (kept_foldl _ (fun s x => ?_) _ _).trans ?_)
    | (simp only [kept_mk, kept_eta, ite_self, kept_ite, kept_updDpll]; refine (kept_foldl _ (fun s x => ?_) _ _).trans ?_)
    | split
theorem kept_ownChannels (s : State) : kept (ownChannels s) = kept s := by
  unfold ownChannels
  repeat' first
    | with_reducible rfl
    | (simp only [kept_mk, kept_eta, ite_self, kept_ite, kept_armNow, kept_disarmChan, kept_updChan, *]; done)
    | (simp only [kept_mk, kept_eta, ite_self, kept_ite, kept_armNow, kept_disarmChan, kept_updChan]; done)
    | (first | (intro x) | (lift_lets; intro x)
       first
        | (have hx : kept x = kept s := by
             first
               | (simp only [x, kept_mk, kept_eta, ite_self, kept_ite, kept_armNow, kept_disarmChan, kept_updChan, *]; done)
               | (dsimp only [x]
                  repeat' first
                    | with_reducible rfl
                    | (simp only [kept_mk, kept_eta, ite_self, kept_ite, kept_armNow, kept_disarmChan, kept_updChan, *]; done)
                    | (refine (kept_foldl _ (fun s x => ?_) _ _).trans ?_)
                    | split
                  done)
           clear_value x)
        | (have hx : ∀ y, kept (x y) = kept y := by
             intro y; simp only [x, kept_mk, kept_eta, ite_self, kept_ite, kept_armNow, kept_disarmChan, kept_updChan, *]; done
           clear_value x)
        | (have hx : ∀ y, kept (x y).2 = kept y := by
             intro y; simp only [x, kept_mk, kept_eta, ite_self, kept_ite, kept_armNow, kept_disarmChan, kept_updChan, *]; done
           clear_value x)
        | (have hx : ∀ a b y, kept (x a b y) = kept y := by
             intro a b y; simp only [x, kept_mk, kept_eta, ite_self, kept_ite, kept_armNow, kept_disarmChan, kept_updChan, *]; done
           clear_value x)
        | clear_value x)
    | (refine (kept_foldl _ (fun s x => ?_) _ _).trans ?_)
    | (simp only [kept_mk, kept_eta, ite_self, kept_ite, kept_armNow, kept_disarmChan, kept_updChan]; refine (kept_foldl _ (fun s x => ?_) _ _).trans ?_)
    | split
theorem kept_releaseChannels (s : State) : kept (releaseChannels s) = kept s := by
  unfold releaseChannels
  repeat' first
    | with_reducible rfl
    | (simp only [kept_mk, kept_eta, ite_self, kept_ite, kept_disarmChan, kept_raise, kept_updChan, *]; done)
    | (simp only [kept_mk, kept_eta, ite_self, kept_ite, kept_disarmChan, kept_raise, kept_updChan]; done)
    | (first | (intro x) | (lift_lets; intro x)
       first
        | (have hx : kept x = kept s := by
             first
               | (simp only [x, kept_mk, kept_eta, ite_self, kept_ite, kept_disarmChan, kept_raise, kept_updChan, *]; done)
               | (dsimp only [x]
                  repeat' first
                    | with_reducible rfl
                    | (simp only [kept_mk, kept_eta, ite_self, kept_ite, kept_disarmChan, kept_raise, kept_updChan, *]; done)
                    | (refine (kept_foldl _ (fun s x => ?_) _ _).trans ?_)
                    | split
                  done)
           clear_value x)
        | (have hx : ∀ y, kept (x y) = kept y := by
             intro y; simp only [x, kept_mk, kept_eta, ite_self, kept_ite, kept_disarmChan, kept_raise, kept_updChan, *]; done
           clear_value x)
        | (have hx : ∀ y, kept (x y).2 = kept y := by
             intro y; simp only [x, kept_mk, kept_eta, ite_self, kept_ite, kept_disarmChan, kept_raise, kept_updChan, *]; done
           clear_value x)
        | (have hx : ∀ a b y, kept (x a b y) = kept y := by
             intro a b y; simp only [x, kept_mk, kept_eta, ite_self, kept_ite, kept_disarmChan, kept_raise, kept_updChan, *]; done
           clear_value x)
        | clear_value x)
    | (refine (kept_foldl _ (fun s x => ?_) _ _).trans ?_)
    | (simp only [kept_mk, kept_eta, ite_self, kept_ite, kept_disarmChan, kept_raise, kept_updChan]; refine (kept_foldl _ (fun s x => ?_) _ _).trans ?_)
    | split
theorem kept_enterJoining (s : State) : kept (enterJoining s) = kept s := by
  simp only [enterJoining, kept_mk, kept_eta, ite_self, kept_ite, kept_dropSlew, kept_evalAll, kept_freeAll, kept_ownChannels, kept_settleBound, kept_updPair]
theorem kept_takeOver (b : Option Nat) (was : SyncState) (s : State) : kept (takeOver b was s) = kept s := by
  unfold takeOver
  dsimp only
  repeat' split
  all_goals (first | with_reducible rfl | (simp only [kept_mk, kept_eta, ite_self, kept_ite, kept_freeAll, kept_setRate, kept_updDpll]; done))
theorem kept_startSelectors (s : State) : kept (startSelectors s) = kept s := by
  simp only [startSelectors, kept_mk, kept_eta, ite_self, kept_ite]
theorem kept_roleDeclarer (s : State) : kept (roleDeclarer s) = kept s := by
  unfold roleDeclarer
  dsimp only
  repeat' split
  all_goals (first | with_reducible rfl | (simp only [kept_mk, kept_eta, ite_self, kept_ite, kept_evalAll, kept_fillBuckets, kept_releaseChannels, kept_restartSlaves, kept_settleBound, kept_startSelectors, kept_takeOver, kept_updPair]; done))
theorem kept_enableRise (s : State) : kept (enableRise s) = kept s := by
  unfold enableRise
  dsimp only
  repeat' split
  all_goals (first | with_reducible rfl | (simp only [kept_mk, kept_eta, ite_self, kept_ite, kept_emit, kept_emitKeepers, kept_moveTo, kept_noteEdge, kept_raise, kept_refreshQuotes, kept_roleDeclarer, kept_updPair]; done))
theorem kept_enableFall (s : State) : kept (enableFall s) = kept s := by
  unfold enableFall
  dsimp only
  repeat' split
  all_goals (first | with_reducible rfl | (simp only [kept_mk, kept_eta, ite_self, kept_ite, kept_emit, kept_emitKeepers, kept_enterJoining, kept_finishWait, kept_moveTo, kept_noteEdge, kept_raise, kept_refreshQuotes, kept_updPair]; done))
theorem kept_trySeize (finding : Nat) (force : Bool) (s : State) : kept (trySeize finding force s) = kept s := by
  simp only [trySeize, kept_mk, kept_eta, ite_self, kept_ite, kept_raise, kept_updPair]
theorem kept_testRan (item : Nat) (ok : Bool) (detail : Nat) (s : State) : kept (testRan item ok detail s) = kept s := by
  simp only [testRan, kept_mk, kept_eta, ite_self, kept_ite, kept_occur, kept_raise, kept_updPair]
theorem kept_capture (s : State) : kept (capture s) = kept s := by
  unfold capture
  dsimp only
  repeat' split
  all_goals (first | with_reducible rfl | (simp only [kept_mk, kept_eta, ite_self, kept_ite, kept_bumpBy, kept_updPair]; done))
theorem kept_takeAck (hand : Nat) (s : State) : kept (takeAck hand s) = kept s := by
  unfold takeAck
  repeat' split
  all_goals (first | with_reducible rfl | (simp only [kept_mk, kept_eta, ite_self, kept_ite, kept_updPair]; done))
theorem kept_takeOutliers (m : MeldRun) (s : State) : kept (takeOutliers m s) = kept s := by
  unfold takeOutliers
  repeat' first
    | with_reducible rfl
    | (simp only [kept_mk, kept_eta, ite_self, kept_ite, kept_setCheck, *]; done)
    | (simp only [kept_mk, kept_eta, ite_self, kept_ite, kept_setCheck]; done)
    | (first | (intro x) | (lift_lets; intro x)
       first
        | (have hx : kept x = kept s := by
             first
               | (simp only [x, kept_mk, kept_eta, ite_self, kept_ite, kept_setCheck, *]; done)
               | (dsimp only [x]
                  repeat' first
                    | with_reducible rfl
                    | (simp only [kept_mk, kept_eta, ite_self, kept_ite, kept_setCheck, *]; done)
                    | (refine (kept_foldl _ (fun s x => ?_) _ _).trans ?_)
                    | split
                  done)
           clear_value x)
        | (have hx : ∀ y, kept (x y) = kept y := by
             intro y; simp only [x, kept_mk, kept_eta, ite_self, kept_ite, kept_setCheck, *]; done
           clear_value x)
        | (have hx : ∀ y, kept (x y).2 = kept y := by
             intro y; simp only [x, kept_mk, kept_eta, ite_self, kept_ite, kept_setCheck, *]; done
           clear_value x)
        | (have hx : ∀ a b y, kept (x a b y) = kept y := by
             intro a b y; simp only [x, kept_mk, kept_eta, ite_self, kept_ite, kept_setCheck, *]; done
           clear_value x)
        | clear_value x)
    | (refine (kept_foldl _ (fun s x => ?_) _ _).trans ?_)
    | (simp only [kept_mk, kept_eta, ite_self, kept_ite, kept_setCheck]; refine (kept_foldl _ (fun s x => ?_) _ _).trans ?_)
    | split
theorem kept_takeEpochs (x : Snapshot) (s : State) : kept (takeEpochs x s) = kept s := by
  simp only [takeEpochs, kept_mk, kept_eta, ite_self, kept_ite, kept_raise]
theorem kept_takeScore (x : Snapshot) (s : State) : kept (takeScore x s) = kept s := by
  simp only [takeScore, kept_mk, kept_eta, ite_self, kept_ite, kept_updScore]
theorem kept_takeTime (x : Snapshot) (s : State) : kept (takeTime x s) = kept s := by
  simp only [takeTime, kept_mk, kept_eta, ite_self, kept_ite]
theorem kept_applyItems (x : Snapshot) (s : State) : kept (applyItems x s) = kept s := by
  unfold applyItems
  dsimp only
  repeat' split
  all_goals (first | with_reducible rfl | (simp only [kept_mk, kept_eta, ite_self, kept_ite, kept_freeNeighbours, kept_settleBound, kept_takeEpochs, kept_takeOutliers, kept_takeScore, kept_takeTime, kept_updPair]; done))
theorem kept_afterDrop (before s : State) : kept (afterDrop before s) = kept s := by
  simp only [afterDrop, kept_mk, kept_eta, ite_self, kept_ite, kept_enterJoining]
theorem kept_claimFrameTx (ps : Nat) (readback : Option Nat) (s : State) : kept (claimFrameTx ps readback s) = kept s := by
  simp only [claimFrameTx, kept_mk, kept_eta, ite_self, kept_ite, kept_afterDrop, kept_begin_, kept_claimSent, kept_emit, kept_selfFault, kept_updPair]
theorem kept_claimFrameRx (ps claim : Nat) (s : State) : kept (claimFrameRx ps claim s) = kept s := by
  simp only [claimFrameRx, kept_mk, kept_eta, ite_self, kept_ite, kept_begin_, kept_takeClaim]
theorem kept_claimQuiet (ps : Nat) (s : State) : kept (claimQuiet ps s) = kept s := by
  simp only [claimQuiet, kept_mk, kept_eta, ite_self, kept_ite, kept_begin_, kept_takeClaim]
theorem kept_claimAbsent (s : State) : kept (claimAbsent s) = kept s := by
  simp only [claimAbsent, kept_mk, kept_eta, ite_self, kept_ite, kept_moveTo, kept_settleEnable, kept_settleSeize, kept_updPair]
theorem kept_claimInForce (s : State) : kept (claimInForce s) = kept s := by
  unfold claimInForce
  dsimp only
  repeat' split
  all_goals (first | with_reducible rfl | (simp only [kept_mk, kept_eta, ite_self, kept_ite, kept_claimSetDone, kept_moveTo, kept_settleEnable, kept_settleSeize, kept_updPair]; done))
theorem kept_selfFaultRow (ps cause detail : Nat) (s : State) : kept (selfFaultRow ps cause detail s) = kept s := by
  simp only [selfFaultRow, kept_mk, kept_eta, ite_self, kept_ite, kept_afterDrop, kept_begin_, kept_engineFault, kept_selfFault, kept_testRan]
theorem kept_heartbeatTx (s : State) : kept (heartbeatTx s) = kept s := by
  unfold heartbeatTx
  repeat' first
    | with_reducible rfl
    | (simp only [kept_mk, kept_eta, ite_self, kept_ite, kept_bump, kept_emit, kept_moveTo, kept_updLane, kept_updPair, *]; done)
    | (simp only [kept_mk, kept_eta, ite_self, kept_ite, kept_bump, kept_emit, kept_moveTo, kept_updLane, kept_updPair]; done)
    | (first | (intro x) | (lift_lets; intro x)
       first
        | (have hx : kept x = kept s := by
             first
               | (simp only [x, kept_mk, kept_eta, ite_self, kept_ite, kept_bump, kept_emit, kept_moveTo, kept_updLane, kept_updPair, *]; done)
               | (dsimp only [x]
                  repeat' first
                    | with_reducible rfl
                    | (simp only [kept_mk, kept_eta, ite_self, kept_ite, kept_bump, kept_emit, kept_moveTo, kept_updLane, kept_updPair, *]; done)
                    | (refine (kept_foldl _ (fun s x => ?_) _ _).trans ?_)
                    | split
                  done)
           clear_value x)
        | (have hx : ∀ y, kept (x y) = kept y := by
             intro y; simp only [x, kept_mk, kept_eta, ite_self, kept_ite, kept_bump, kept_emit, kept_moveTo, kept_updLane, kept_updPair, *]; done
           clear_value x)
        | (have hx : ∀ y, kept (x y).2 = kept y := by
             intro y; simp only [x, kept_mk, kept_eta, ite_self, kept_ite, kept_bump, kept_emit, kept_moveTo, kept_updLane, kept_updPair, *]; done
           clear_value x)
        | (have hx : ∀ a b y, kept (x a b y) = kept y := by
             intro a b y; simp only [x, kept_mk, kept_eta, ite_self, kept_ite, kept_bump, kept_emit, kept_moveTo, kept_updLane, kept_updPair, *]; done
           clear_value x)
        | clear_value x)
    | (refine (kept_foldl _ (fun s x => ?_) _ _).trans ?_)
    | (simp only [kept_mk, kept_eta, ite_self, kept_ite, kept_bump, kept_emit, kept_moveTo, kept_updLane, kept_updPair]; refine (kept_foldl _ (fun s x => ?_) _ _).trans ?_)
    | split
theorem kept_noteMissed (n seq : Nat) (s : State) : kept (noteMissed n seq s) = kept s := by
  unfold noteMissed
  dsimp only
  repeat' split
  all_goals (first | with_reducible rfl | (simp only [kept_mk, kept_eta, ite_self, kept_ite, kept_bumpBy, kept_updPair]; done))
theorem kept_hearPartner (s : State) : kept (hearPartner s) = kept s := by
  simp only [hearPartner, kept_mk, kept_eta, ite_self, kept_ite, kept_raise, kept_updPair, kept_updRef]
theorem kept_checkStrap (v : HbView) (s : State) : kept (checkStrap v s) = kept s := by
  simp only [checkStrap, kept_mk, kept_eta, ite_self, kept_ite, kept_raise, kept_updPair]
theorem kept_leaveAlone (s : State) : kept (leaveAlone s) = kept s := by
  simp only [leaveAlone, kept_mk, kept_eta, ite_self, kept_ite, kept_enterJoining, kept_updPair]
theorem kept_followEpoch (h : Bytes) (s : State) : kept (followEpoch h s) = kept s := by
  simp only [followEpoch, kept_mk, kept_eta, ite_self, kept_ite, kept_nextTick, kept_settleBound, kept_stepCounter]
theorem kept_firstLoad (h : Bytes) (s : State) : kept (firstLoad h s) = kept s := by
  have h0 : ∀ t : TimePart, kept { s with time := t } = kept s := by intro t; simp only [kept_mk, kept_eta]
  have key : ∀ x, kept x = kept s → kept (updRef 93 (fun r => { r with epoch := (updPair (fun p => { p with timeSet := true }) x).time.stepEpoch }) (([1, 2, 3] : List Nat).foldl (fun s d => enterTracking d .acquiring s) (updPair (fun p => { p with timeSet := true }) x))) = kept s := by
    intro x hx
    refine (kept_updRef _ _ _).trans ((kept_foldl _ (fun s d => kept_enterTracking d .acquiring s) _ _).trans ((kept_updPair _ _).trans hx))
  unfold firstLoad
  exact key _ (h0 _)
theorem kept_fFollow (h : Bytes) (s : State) : kept (fFollow h s) = kept s := by
  unfold fFollow
  repeat' first
    | with_reducible rfl
    | (simp only [kept_mk, kept_eta, ite_self, kept_ite, kept_estPoint, kept_lockTrack, kept_loopSample, *]; done)
    | (simp only [kept_mk, kept_eta, ite_self, kept_ite, kept_estPoint, kept_lockTrack, kept_loopSample]; done)
    | (first | (intro x) | (lift_lets; intro x)
       first
        | (have hx : kept x = kept s := by
             first
               | (simp only [x, kept_mk, kept_eta, ite_self, kept_ite, kept_estPoint, kept_lockTrack, kept_loopSample, *]; done)
               | (dsimp only [x]
                  repeat' first
                    | with_reducible rfl
                    | (simp only [kept_mk, kept_eta, ite_self, kept_ite, kept_estPoint, kept_lockTrack, kept_loopSample, *]; done)
                    | (refine (kept_foldl _ (fun s x => ?_) _ _).trans ?_)
                    | split
                  done)
           clear_value x)
        | (have hx : ∀ y, kept (x y) = kept y := by
             intro y; simp only [x, kept_mk, kept_eta, ite_self, kept_ite, kept_estPoint, kept_lockTrack, kept_loopSample, *]; done
           clear_value x)
        | (have hx : ∀ y, kept (x y).2 = kept y := by
             intro y; simp only [x, kept_mk, kept_eta, ite_self, kept_ite, kept_estPoint, kept_lockTrack, kept_loopSample, *]; done
           clear_value x)
        | (have hx : ∀ a b y, kept (x a b y) = kept y := by
             intro a b y; simp only [x, kept_mk, kept_eta, ite_self, kept_ite, kept_estPoint, kept_lockTrack, kept_loopSample, *]; done
           clear_value x)
        | clear_value x)
    | (refine (kept_foldl _ (fun s x => ?_) _ _).trans ?_)
    | (simp only [kept_mk, kept_eta, ite_self, kept_ite, kept_estPoint, kept_lockTrack, kept_loopSample]; refine (kept_foldl _ (fun s x => ?_) _ _).trans ?_)
    | split
theorem kept_joinCheck (theta : Int) (s : State) : kept (joinCheck theta s) = kept s := by
  simp only [joinCheck, kept_mk, kept_eta, ite_self, kept_ite, kept_enterLocked, kept_settleBound, kept_updPair]
theorem kept_partnerSample (n : Nat) (h : Bytes) (theta delay : Int) (s : State) : kept (partnerSample n h theta delay s) = kept s := by
  unfold partnerSample
  dsimp only
  repeat' split
  all_goals (first | with_reducible rfl | (simp only [kept_mk, kept_eta, ite_self, kept_ite, kept_deliver, kept_fFollow, kept_firstLoad, kept_joinCheck, kept_testRan, kept_updPair]; done))
theorem kept_dualDrive (v : HbView) (s : State) : kept (dualDrive v s) = kept s := by
  simp only [dualDrive, kept_mk, kept_eta, ite_self, kept_ite, kept_afterDrop, kept_dropClaim, kept_raise, kept_updPair]
theorem kept_bulkCopy (v : HbView) (s : State) : kept (bulkCopy v s) = kept s := by
  simp only [bulkCopy, kept_mk, kept_eta, ite_self, kept_ite, kept_emit]
theorem kept_heartbeatRx (n ps : Nat) (fcsOk : Bool) (h : Bytes) (s : State) : kept (heartbeatRx n ps fcsOk h s) = kept s := by
  unfold heartbeatRx
  dsimp only
  repeat' split
  all_goals (first | with_reducible rfl | (simp only [kept_mk, kept_eta, ite_self, kept_ite, kept_begin_, kept_bulkCopy, kept_checkStrap, kept_dualDrive, kept_followEpoch, kept_hearPartner, kept_leaveAlone, kept_noteMissed, kept_partnerSample, kept_takeAck, kept_updLane, kept_updPair]; done))
theorem kept_heartbeatLost (s : State) : kept (heartbeatLost s) = kept s := by
  unfold heartbeatLost
  repeat' first
    | with_reducible rfl
    | (simp only [kept_mk, kept_eta, ite_self, kept_ite, kept_evalAll, kept_mirrorMismatch, kept_moveTo, kept_raise, kept_settleBound, kept_sourceSilent, kept_trySeize, kept_updPair, kept_updRef, *]; done)
    | (simp only [kept_mk, kept_eta, ite_self, kept_ite, kept_evalAll, kept_mirrorMismatch, kept_moveTo, kept_raise, kept_settleBound, kept_sourceSilent, kept_trySeize, kept_updPair, kept_updRef]; done)
    | (first | (intro x) | (lift_lets; intro x)
       first
        | (have hx : kept x = kept s := by
             first
               | (simp only [x, kept_mk, kept_eta, ite_self, kept_ite, kept_evalAll, kept_mirrorMismatch, kept_moveTo, kept_raise, kept_settleBound, kept_sourceSilent, kept_trySeize, kept_updPair, kept_updRef, *]; done)
               | (dsimp only [x]
                  repeat' first
                    | with_reducible rfl
                    | (simp only [kept_mk, kept_eta, ite_self, kept_ite, kept_evalAll, kept_mirrorMismatch, kept_moveTo, kept_raise, kept_settleBound, kept_sourceSilent, kept_trySeize, kept_updPair, kept_updRef, *]; done)
                    | (refine (kept_foldl _ (fun s x => ?_) _ _).trans ?_)
                    | split
                  done)
           clear_value x)
        | (have hx : ∀ y, kept (x y) = kept y := by
             intro y; simp only [x, kept_mk, kept_eta, ite_self, kept_ite, kept_evalAll, kept_mirrorMismatch, kept_moveTo, kept_raise, kept_settleBound, kept_sourceSilent, kept_trySeize, kept_updPair, kept_updRef, *]; done
           clear_value x)
        | (have hx : ∀ y, kept (x y).2 = kept y := by
             intro y; simp only [x, kept_mk, kept_eta, ite_self, kept_ite, kept_evalAll, kept_mirrorMismatch, kept_moveTo, kept_raise, kept_settleBound, kept_sourceSilent, kept_trySeize, kept_updPair, kept_updRef, *]; done
           clear_value x)
        | (have hx : ∀ a b y, kept (x a b y) = kept y := by
             intro a b y; simp only [x, kept_mk, kept_eta, ite_self, kept_ite, kept_evalAll, kept_mirrorMismatch, kept_moveTo, kept_raise, kept_settleBound, kept_sourceSilent, kept_trySeize, kept_updPair, kept_updRef, *]; done
           clear_value x)
        | clear_value x)
    | (refine (kept_foldl _ (fun s x => ?_) _ _).trans ?_)
    | (simp only [kept_mk, kept_eta, ite_self, kept_ite, kept_evalAll, kept_mirrorMismatch, kept_moveTo, kept_raise, kept_settleBound, kept_sourceSilent, kept_trySeize, kept_updPair, kept_updRef]; refine (kept_foldl _ (fun s x => ?_) _ _).trans ?_)
    | split
theorem kept_snapshotTx (ps : Nat) (s : State) : kept (snapshotTx ps s) = kept s := by
  unfold snapshotTx
  dsimp only
  repeat' split
  all_goals (first | with_reducible rfl | (simp only [kept_mk, kept_eta, ite_self, kept_ite, kept_begin_, kept_emit, kept_updPair]; done))
theorem kept_snapshotApply (ps : Nat) (x : Snapshot) (s : State) : kept (snapshotApply ps x s) = kept s := by
  simp only [snapshotApply, kept_mk, kept_eta, ite_self, kept_ite, kept_applyItems, kept_begin_, kept_bump, kept_nextTick, kept_updPair]
theorem kept_snapshotLate (s : State) : kept (snapshotLate s) = kept s := by
  simp only [snapshotLate, kept_mk, kept_eta, ite_self, kept_ite, kept_moveTo, kept_raise, kept_updPair]
theorem kept_copyVerified (ps : Nat) (x : Snapshot) (nb : List (Nat × Neighbour)) (s : State) : kept (copyVerified ps x nb s) = kept s := by
  simp only [copyVerified, kept_mk, kept_eta, ite_self, kept_ite, kept_applyItems, kept_begin_, kept_updPair]
theorem kept_lockstepCompare (ps : Nat) (digest : Bytes) (s : State) : kept (lockstepCompare ps digest s) = kept s := by
  simp only [lockstepCompare, kept_mk, kept_eta, ite_self, kept_ite, kept_begin_, kept_bump, kept_enterJoining, kept_raise, kept_updPair]
theorem kept_mirrorReplyRx (ps opcode tag status : Nat) (s : State) : kept (mirrorReplyRx ps opcode tag status s) = kept s := by
  unfold mirrorReplyRx
  dsimp only
  repeat' split
  all_goals (first | with_reducible rfl | (simp only [kept_mk, kept_eta, ite_self, kept_ite, kept_begin_, kept_settleMirrors, kept_updPair]; done))
theorem kept_switchRequestRx (ps : Nat) (force : Bool) (s : State) : kept (switchRequestRx ps force s) = kept s := by
  simp only [switchRequestRx, kept_mk, kept_eta, ite_self, kept_ite, kept_begin_, kept_trySeize]
theorem kept_trimUpdate (k : Nat) (e : CompareCfg) (s : State) : kept (trimUpdate k e s) = kept s := by
  unfold trimUpdate
  dsimp only
  repeat' split
  all_goals (first | with_reducible rfl | (simp only [kept_mk, kept_eta, ite_self, kept_ite, kept_raise, kept_updPair]; done))
theorem kept_compareCheck (k ps : Nat) (x : Option Int) (s : State) : kept (compareCheck k ps x s) = kept s := by
  unfold compareCheck
  dsimp only
  repeat' split
  all_goals (first | with_reducible rfl | (simp only [kept_mk, kept_eta, ite_self, kept_ite, kept_begin_, kept_trimUpdate, kept_trySeize, kept_updPair]; done))
theorem kept_selftestRun (item ps : Nat) (passed : Bool) (detail : Nat) (s : State) : kept (selftestRun item ps passed detail s) = kept s := by
  unfold selftestRun
  repeat' first
    | with_reducible rfl
    | (simp only [kept_mk, kept_eta, ite_self, kept_ite, kept_begin_, kept_engineFault, kept_testRan, *]; done)
    | (simp only [kept_mk, kept_eta, ite_self, kept_ite, kept_begin_, kept_engineFault, kept_testRan]; done)
    | (first | (intro x) | (lift_lets; intro x)
       first
        | (have hx : kept x = kept s := by
             first
               | (simp only [x, kept_mk, kept_eta, ite_self, kept_ite, kept_begin_, kept_engineFault, kept_testRan, *]; done)
               | (dsimp only [x]
                  repeat' first
                    | with_reducible rfl
                    | (simp only [kept_mk, kept_eta, ite_self, kept_ite, kept_begin_, kept_engineFault, kept_testRan, *]; done)
                    | (refine (kept_foldl _ (fun s x => ?_) _ _).trans ?_)
                    | split
                  done)
           clear_value x)
        | (have hx : ∀ y, kept (x y) = kept y := by
             intro y; simp only [x, kept_mk, kept_eta, ite_self, kept_ite, kept_begin_, kept_engineFault, kept_testRan, *]; done
           clear_value x)
        | (have hx : ∀ y, kept (x y).2 = kept y := by
             intro y; simp only [x, kept_mk, kept_eta, ite_self, kept_ite, kept_begin_, kept_engineFault, kept_testRan, *]; done
           clear_value x)
        | (have hx : ∀ a b y, kept (x a b y) = kept y := by
             intro a b y; simp only [x, kept_mk, kept_eta, ite_self, kept_ite, kept_begin_, kept_engineFault, kept_testRan, *]; done
           clear_value x)
        | clear_value x)
    | (refine (kept_foldl _ (fun s x => ?_) _ _).trans ?_)
    | (simp only [kept_mk, kept_eta, ite_self, kept_ite, kept_begin_, kept_engineFault, kept_testRan]; refine (kept_foldl _ (fun s x => ?_) _ _).trans ?_)
    | split
theorem kept_pairSwitchTimeout (s : State) : kept (pairSwitchTimeout s) = kept s := by
  unfold pairSwitchTimeout
  dsimp only
  repeat' split
  all_goals (first | with_reducible rfl | (simp only [kept_mk, kept_eta, ite_self, kept_ite, kept_finishWait, kept_moveTo, kept_updPair]; done))
theorem kept_pairStart (s : State) : kept (pairStart s) = kept s := by
  simp only [pairStart, kept_mk, kept_eta, ite_self, kept_ite, kept_ownChannels, kept_updPair, kept_updRef]
theorem kept_pairStop (s : State) : kept (pairStop s) = kept s := by
  simp only [pairStop, kept_mk, kept_eta, ite_self, kept_ite, kept_evalAll, kept_releaseChannels, kept_updPair, kept_updRef]
theorem kept_pairCommit (old : PairCfg) (s : State) : kept (pairCommit old s) = kept s := by
  simp only [pairCommit, kept_mk, kept_eta, ite_self, kept_ite, kept_ownChannels, kept_pairStart, kept_pairStop, kept_releaseChannels, kept_updPair]

end Sys2Proof.Machine
end

