-- ==== Sys2Proof/Laws/KeptPair.lean ====
section
/-! SUPPORT. What the operations leave alone, as `kept` says it, one lemma each: ScoreOps, Kitty, AudOps, Audio, Score, Commit, Rings, BootOps, Window, Boot, Commands, Step. -/
set_option linter.unusedSimpArgs false
set_option linter.unusedVariables false
namespace Sys2Proof.Machine
open Sys2Proof Host

theorem kept_burnHourly (w : Writing) (k : FlashKind) (s : State) : kept (burnHourly w k s) = kept s := by
  simp only [burnHourly, kept_mk, kept_eta, ite_self, kept_ite, kept_burn]
theorem kept_startPage (s : State) : kept (startPage s) = kept s := by
  unfold startPage
  dsimp only
  repeat' split
  all_goals (first | with_reducible rfl | (simp only [kept_mk, kept_eta, ite_self, kept_ite, kept_burnHourly]; done))
theorem kept_serveFlash (s : State) : kept (serveFlash s) = kept s := by
  simp only [serveFlash, kept_mk, kept_eta, ite_self, kept_ite, kept_programImage, kept_startPage]
theorem kept_commitPage (forced : Bool) (s : State) : kept (commitPage forced s) = kept s := by
  simp only [commitPage, kept_mk, kept_eta, ite_self, kept_ite, kept_raise, kept_startPage, kept_updScore]
theorem kept_hourCommit (s : State) : kept (hourCommit s) = kept s := by
  simp only [hourCommit, kept_mk, kept_eta, ite_self, kept_ite, kept_commitPage, kept_updScore]
theorem kept_pageWritten (s : State) : kept (pageWritten s) = kept s := by
  unfold pageWritten
  dsimp only
  repeat' split
  all_goals (first | with_reducible rfl | (simp only [kept_mk, kept_eta, ite_self, kept_ite, kept_finishWait, kept_raise, kept_serveFlash]; done))
theorem kept_pageFailed (readback : Bool) (s : State) : kept (pageFailed readback s) = kept s := by
  unfold pageFailed
  dsimp only
  repeat' split
  all_goals (first | with_reducible rfl | (simp only [kept_mk, kept_eta, ite_self, kept_ite, kept_bump, kept_burnHourly, kept_finishWait, kept_moveTo, kept_raise, kept_serveFlash, kept_updScore, kept_useFree]; done))
theorem kept_writeDaily (p : Page) (s : State) : kept (writeDaily p s) = kept s := by
  unfold writeDaily
  dsimp only
  repeat' split
  all_goals (first | with_reducible rfl | (simp only [kept_mk, kept_eta, ite_self, kept_ite, kept_burn]; done))
theorem kept_eraseTail (s : State) : kept (eraseTail s) = kept s := by
  unfold eraseTail
  repeat' first
    | with_reducible rfl
    | (simp only [kept_mk, kept_eta, ite_self, kept_ite, kept_emit, *]; done)
    | (simp only [kept_mk, kept_eta, ite_self, kept_ite, kept_emit]; done)
    | (first | (intro x) | (lift_lets; intro x)
       first
        | (have hx : kept x = kept s := by
             first
               | (simp only [x, kept_mk, kept_eta, ite_self, kept_ite, kept_emit, *]; done)
               | (dsimp only [x]
                  repeat' first
                    | with_reducible rfl
                    | (simp only [kept_mk, kept_eta, ite_self, kept_ite, kept_emit, *]; done)
                    | (refine (kept_foldl _ (fun s x => ?_) _ _).trans ?_)
                    | split
                  done)
           clear_value x)
        | (have hx : ∀ y, kept (x y) = kept y := by
             intro y; simp only [x, kept_mk, kept_eta, ite_self, kept_ite, kept_emit, *]; done
           clear_value x)
        | (have hx : ∀ y, kept (x y).2 = kept y := by
             intro y; simp only [x, kept_mk, kept_eta, ite_self, kept_ite, kept_emit, *]; done
           clear_value x)
        | (have hx : ∀ a b y, kept (x a b y) = kept y := by
             intro a b y; simp only [x, kept_mk, kept_eta, ite_self, kept_ite, kept_emit, *]; done
           clear_value x)
        | clear_value x)
    | (refine (kept_foldl _ (fun s x => ?_) _ _).trans ?_)
    | (simp only [kept_mk, kept_eta, ite_self, kept_ite, kept_emit]; refine (kept_foldl _ (fun s x => ?_) _ _).trans ?_)
    | split
theorem kept_relocateOld (s : State) : kept (relocateOld s) = kept s := by
  unfold relocateOld
  dsimp only
  rw [kept_eraseTail]
  exact kept_foldl _ (fun s e => kept_writeDaily _ s) _ _
theorem kept_dayCommit (s : State) : kept (dayCommit s) = kept s := by
  simp only [dayCommit, kept_mk, kept_eta, ite_self, kept_ite, kept_raise, kept_relocateOld, kept_updScore, kept_writeDaily]
theorem kept_tearPage (s : State) : kept (tearPage s) = kept s := by
  unfold tearPage
  dsimp only
  repeat' split
  all_goals (first | with_reducible rfl | (simp only [kept_mk, kept_eta, ite_self, kept_ite]; done))
theorem kept_scoreBoot (density : Nat) (s : State) : kept (scoreBoot density s) = kept s := by
  unfold scoreBoot
  dsimp only
  repeat' split
  all_goals (first | with_reducible rfl | (simp only [kept_mk, kept_eta, ite_self, kept_ite, kept_burn, kept_commitPage, kept_raise]; done))
theorem kept_filterCommit (old : List FilterCfg) (s : State) : kept (filterCommit old s) = kept s := by
  unfold filterCommit
  repeat' first
    | with_reducible rfl
    | (simp only [kept_mk, kept_eta, ite_self, kept_ite, *]; done)
    | (simp only [kept_mk, kept_eta, ite_self, kept_ite]; done)
    | (first | (intro x) | (lift_lets; intro x)
       first
        | (have hx : kept x = kept s := by
             first
               | (simp only [x, kept_mk, kept_eta, ite_self, kept_ite, *]; done)
               | (dsimp only [x]
                  repeat' first
                    | with_reducible rfl
                    | (simp only [kept_mk, kept_eta, ite_self, kept_ite, *]; done)
                    | (refine (kept_foldl _ (fun s x => ?_) _ _).trans ?_)
                    | split
                  done)
           clear_value x)
        | (have hx : ∀ y, kept (x y) = kept y := by
             intro y; simp only [x, kept_mk, kept_eta, ite_self, kept_ite, *]; done
           clear_value x)
        | (have hx : ∀ y, kept (x y).2 = kept y := by
             intro y; simp only [x, kept_mk, kept_eta, ite_self, kept_ite, *]; done
           clear_value x)
        | (have hx : ∀ a b y, kept (x a b y) = kept y := by
             intro a b y; simp only [x, kept_mk, kept_eta, ite_self, kept_ite, *]; done
           clear_value x)
        | clear_value x)
    | (refine (kept_foldl _ (fun s x => ?_) _ _).trans ?_)
    | (simp only [kept_mk, kept_eta, ite_self, kept_ite]; refine (kept_foldl _ (fun s x => ?_) _ _).trans ?_)
    | split
theorem kept_handSamples (temp rootPhase : Int) (s : State) : kept (handSamples temp rootPhase s) = kept s := by
  unfold handSamples
  repeat' first
    | with_reducible rfl
    | (simp only [kept_mk, kept_eta, ite_self, kept_ite, kept_addRate, kept_addSample, *]; done)
    | (simp only [kept_mk, kept_eta, ite_self, kept_ite, kept_addRate, kept_addSample]; done)
    | (first | (intro x) | (lift_lets; intro x)
       first
        | (have hx : kept x = kept s := by
             first
               | (simp only [x, kept_mk, kept_eta, ite_self, kept_ite, kept_addRate, kept_addSample, *]; done)
               | (dsimp only [x]
                  repeat' first
                    | with_reducible rfl
                    | (simp only [kept_mk, kept_eta, ite_self, kept_ite, kept_addRate, kept_addSample, *]; done)
                    | (refine (kept_foldl _ (fun s x => ?_) _ _).trans ?_)
                    | split
                  done)
           clear_value x)
        | (have hx : ∀ y, kept (x y) = kept y := by
             intro y; simp only [x, kept_mk, kept_eta, ite_self, kept_ite, kept_addRate, kept_addSample, *]; done
           clear_value x)
        | (have hx : ∀ y, kept (x y).2 = kept y := by
             intro y; simp only [x, kept_mk, kept_eta, ite_self, kept_ite, kept_addRate, kept_addSample, *]; done
           clear_value x)
        | (have hx : ∀ a b y, kept (x a b y) = kept y := by
             intro a b y; simp only [x, kept_mk, kept_eta, ite_self, kept_ite, kept_addRate, kept_addSample, *]; done
           clear_value x)
        | clear_value x)
    | (refine (kept_foldl _ (fun s x => ?_) _ _).trans ?_)
    | (simp only [kept_mk, kept_eta, ite_self, kept_ite, kept_addRate, kept_addSample]; refine (kept_foldl _ (fun s x => ?_) _ _).trans ?_)
    | split
theorem kept_countWrite (persist : Bool) (l : List (Nat × KittySlot)) (s : State) : kept (countWrite persist l s) = kept s := by
  simp only [countWrite, kept_mk, kept_eta, ite_self, kept_ite, kept_noteRate, kept_updKitty]
theorem kept_dueKitty (s : State) : kept (dueKitty s) = kept s := by
  simp only [dueKitty, kept_mk, kept_eta, ite_self, kept_ite, kept_dueImage, kept_updKitty]
theorem kept_persistWrite (s : State) : kept (persistWrite s) = kept s := by
  unfold persistWrite
  dsimp only
  repeat' split
  all_goals (first | with_reducible rfl | (simp only [kept_mk, kept_eta, ite_self, kept_ite, kept_dueKitty, kept_moveTo]; done))
theorem kept_persistDone (ps : Nat) (ok : Bool) (s : State) : kept (persistDone ps ok s) = kept s := by
  unfold persistDone
  dsimp only
  repeat' split
  all_goals (first | with_reducible rfl | (simp only [kept_mk, kept_eta, ite_self, kept_ite, kept_begin_, kept_raise, kept_setBank, kept_startPage, kept_updKitty]; done))
theorem kept_creditAccrue (s : State) : kept (creditAccrue s) = kept s := by
  unfold creditAccrue
  dsimp only
  repeat' split
  all_goals (first | with_reducible rfl | (simp only [kept_mk, kept_eta, ite_self, kept_ite, kept_dueImage, kept_dueKitty, kept_moveTo]; done))
theorem kept_retentionRewrite (s : State) : kept (retentionRewrite s) = kept s := by
  have key : ∀ x, kept x = kept s → kept (match newestText x with
      | some b => let p := x.kitty.persist; updKitty (fun k => { k with persist := p }) (dueImage b x)
      | none => x) = kept s := by
    intro x hx; split
    · exact ((kept_updKitty _ _).trans (kept_dueImage _ _)).trans hx
    · exact hx
  rw [retentionRewrite]
  split
  · rfl
  · exact key _ (kept_moveTo _ _)
theorem kept_kittyLoad (ps : Nat) (s : State) : kept (kittyLoad ps s) = kept s := by
  unfold kittyLoad
  dsimp only
  repeat' split
  all_goals (first | with_reducible rfl | (simp only [kept_mk, kept_eta, ite_self, kept_ite, kept_begin_, kept_raise, kept_updKitty]; done))
theorem kept_advanceReply (t pos : Nat) (s : State) : kept (advanceReply t pos s) = kept s := by
  simp only [advanceReply, kept_mk, kept_eta, ite_self, kept_ite, kept_finishWait, kept_occur, kept_raise]
theorem kept_setRoot (t : Nat) (f : RootBank → RootBank) (s : State) : kept (setRoot t f s) = kept s := by
  simp only [setRoot, kept_mk, kept_eta, ite_self, kept_ite]
theorem kept_advanceDone (ps : Nat) (firstOk spareOk : Bool) (s : State) : kept (advanceDone ps firstOk spareOk s) = kept s := by
  unfold advanceDone
  dsimp only
  repeat' split
  all_goals (first | with_reducible rfl | (simp only [kept_mk, kept_eta, ite_self, kept_ite, kept_advanceReply, kept_begin_, kept_finishWait, kept_setRoot, kept_useFree]; done))
theorem kept_quoteSigned (ps : Nat) (s : State) : kept (quoteSigned ps s) = kept s := by
  unfold quoteSigned
  dsimp only
  repeat' split
  all_goals (first | with_reducible rfl | (simp only [kept_mk, kept_eta, ite_self, kept_ite, kept_begin_, kept_bump, kept_finishWait]; done))
theorem kept_updAud (p : Nat) (f : AudRun → AudRun) (s : State) : kept (updAud p f s) = kept s := by
  simp only [updAud, kept_mk, kept_eta, ite_self, kept_ite]
theorem kept_updGroup (g : Nat) (f : GroupRun → GroupRun) (s : State) : kept (updGroup g f s) = kept s := by
  simp only [updGroup, kept_mk, kept_eta, ite_self, kept_ite]
theorem kept_audEvent (p b : Nat) (s : State) : kept (audEvent p b s) = kept s := by
  simp only [audEvent, kept_mk, kept_eta, ite_self, kept_ite, kept_raiseIdx, kept_updAud]
theorem kept_bufferDone (p desc : Nat) (s : State) : kept (bufferDone p desc s) = kept s := by
  unfold bufferDone
  repeat' split
  all_goals (first | with_reducible rfl | (simp only [kept_mk, kept_eta, ite_self, kept_ite, kept_hostDone]; done))
theorem kept_finishPlayed (p k : Nat) (s : State) : kept (finishPlayed p k s) = kept s := by
  unfold finishPlayed
  repeat' first
    | with_reducible rfl
    | (simp only [kept_mk, kept_eta, ite_self, kept_ite, kept_bufferDone, kept_updAud, *]; done)
    | (simp only [kept_mk, kept_eta, ite_self, kept_ite, kept_bufferDone, kept_updAud]; done)
    | (first | (intro x) | (lift_lets; intro x)
       first
        | (have hx : kept x = kept s := by
             first
               | (simp only [x, kept_mk, kept_eta, ite_self, kept_ite, kept_bufferDone, kept_updAud, *]; done)
               | (dsimp only [x]
                  repeat' first
                    | with_reducible rfl
                    | (simp only [kept_mk, kept_eta, ite_self, kept_ite, kept_bufferDone, kept_updAud, *]; done)
                    | (refine (kept_foldl _ (fun s x => ?_) _ _).trans ?_)
                    | split
                  done)
           clear_value x)
        | (have hx : ∀ y, kept (x y) = kept y := by
             intro y; simp only [x, kept_mk, kept_eta, ite_self, kept_ite, kept_bufferDone, kept_updAud, *]; done
           clear_value x)
        | (have hx : ∀ y, kept (x y).2 = kept y := by
             intro y; simp only [x, kept_mk, kept_eta, ite_self, kept_ite, kept_bufferDone, kept_updAud, *]; done
           clear_value x)
        | (have hx : ∀ a b y, kept (x a b y) = kept y := by
             intro a b y; simp only [x, kept_mk, kept_eta, ite_self, kept_ite, kept_bufferDone, kept_updAud, *]; done
           clear_value x)
        | clear_value x)
    | (refine (kept_foldl _ (fun s x => ?_) _ _).trans ?_)
    | (simp only [kept_mk, kept_eta, ite_self, kept_ite, kept_bufferDone, kept_updAud]; refine (kept_foldl _ (fun s x => ?_) _ _).trans ?_)
    | split
theorem kept_readRecord (p k : Nat) (s : State) : kept (readRecord p k s) = kept s := by
  simp only [readRecord, kept_mk, kept_eta, ite_self, kept_ite, kept_updAud]
theorem kept_deliverFill (p : Nat) (s : State) : kept (deliverFill p s) = kept s := by
  unfold deliverFill
  dsimp only
  repeat' split
  all_goals (first | with_reducible rfl | (simp only [kept_mk, kept_eta, ite_self, kept_ite, kept_updAud, kept_updRing]; done))
theorem kept_storeRecord (p index stamp : Nat) (rec_ : Bytes) (s : State) : kept (storeRecord p index stamp rec_ s) = kept s := by
  unfold storeRecord
  dsimp only
  repeat' split
  all_goals (first | with_reducible rfl | (simp only [kept_mk, kept_eta, ite_self, kept_ite, kept_audEvent, kept_bump, kept_deliverFill, kept_updAud]; done))
theorem kept_idlePort (p : Nat) (s : State) : kept (idlePort p s) = kept s := by
  simp only [idlePort, kept_mk, kept_eta, ite_self, kept_ite, kept_emit]
theorem kept_stopPort (p : Nat) (s : State) : kept (stopPort p s) = kept s := by
  unfold stopPort
  repeat' first
    | with_reducible rfl
    | (simp only [kept_mk, kept_eta, ite_self, kept_ite, kept_bufferDone, kept_deliverFill, kept_idlePort, kept_updAud, *]; done)
    | (simp only [kept_mk, kept_eta, ite_self, kept_ite, kept_bufferDone, kept_deliverFill, kept_idlePort, kept_updAud]; done)
    | (first | (intro x) | (lift_lets; intro x)
       first
        | (have hx : kept x = kept s := by
             first
               | (simp only [x, kept_mk, kept_eta, ite_self, kept_ite, kept_bufferDone, kept_deliverFill, kept_idlePort, kept_updAud, *]; done)
               | (dsimp only [x]
                  repeat' first
                    | with_reducible rfl
                    | (simp only [kept_mk, kept_eta, ite_self, kept_ite, kept_bufferDone, kept_deliverFill, kept_idlePort, kept_updAud, *]; done)
                    | (refine (kept_foldl _ (fun s x => ?_) _ _).trans ?_)
                    | split
                  done)
           clear_value x)
        | (have hx : ∀ y, kept (x y) = kept y := by
             intro y; simp only [x, kept_mk, kept_eta, ite_self, kept_ite, kept_bufferDone, kept_deliverFill, kept_idlePort, kept_updAud, *]; done
           clear_value x)
        | (have hx : ∀ y, kept (x y).2 = kept y := by
             intro y; simp only [x, kept_mk, kept_eta, ite_self, kept_ite, kept_bufferDone, kept_deliverFill, kept_idlePort, kept_updAud, *]; done
           clear_value x)
        | (have hx : ∀ a b y, kept (x a b y) = kept y := by
             intro a b y; simp only [x, kept_mk, kept_eta, ite_self, kept_ite, kept_bufferDone, kept_deliverFill, kept_idlePort, kept_updAud, *]; done
           clear_value x)
        | clear_value x)
    | (refine (kept_foldl _ (fun s x => ?_) _ _).trans ?_)
    | (simp only [kept_mk, kept_eta, ite_self, kept_ite, kept_bufferDone, kept_deliverFill, kept_idlePort, kept_updAud]; refine (kept_foldl _ (fun s x => ?_) _ _).trans ?_)
    | split
theorem kept_settleGroup (g p : Nat) (s : State) : kept (settleGroup g p s) = kept s := by
  simp only [settleGroup, kept_mk, kept_eta, ite_self, kept_ite, kept_audEvent, kept_updAud, kept_updGroup]
theorem kept_playFrame (g p k : Nat) (s : State) : kept (playFrame g p k s) = kept s := by
  unfold playFrame
  dsimp only
  repeat' split
  all_goals (first | with_reducible rfl | (simp only [kept_mk, kept_eta, ite_self, kept_ite, kept_audEvent, kept_bump, kept_emit, kept_finishPlayed, kept_updAud, kept_updGroup]; done))
theorem kept_frameBoundary (p : Nat) (s : State) : kept (frameBoundary p s) = kept s := by
  unfold frameBoundary
  dsimp only
  repeat' split
  all_goals (first | with_reducible rfl | (simp only [kept_mk, kept_eta, ite_self, kept_ite, kept_moveToDomain, kept_playFrame, kept_settleGroup, kept_stopPort]; done))
theorem kept_txRead (p : Nat) (s : State) : kept (txRead p s) = kept s := by
  simp only [txRead, kept_mk, kept_eta, ite_self, kept_ite, kept_moveToDomain, kept_readRecord]
theorem kept_rereadRecord (p : Nat) (s : State) : kept (rereadRecord p s) = kept s := by
  simp only [rereadRecord, kept_mk, kept_eta, ite_self, kept_ite, kept_readRecord]
theorem kept_takeBuffer (p desc : Nat) (data : Bytes) (s : State) : kept (takeBuffer p desc data s) = kept s := by
  unfold takeBuffer
  dsimp only
  repeat' split
  all_goals (first | with_reducible rfl | (simp only [kept_mk, kept_eta, ite_self, kept_ite, kept_audEvent, kept_bufferDone, kept_bumpBy, kept_rereadRecord, kept_updAud, kept_updRing]; done))
theorem kept_rxStamp (p num den : Nat) (chained : Bool) (st : Nat) (s : State) : kept (rxStamp p num den chained st s) = kept s := by
  simp only [rxStamp, kept_mk, kept_eta, ite_self, kept_ite, kept_updAud]
theorem kept_rxFrame (p : Nat) (wire : Option Bytes) (s : State) : kept (rxFrame p wire s) = kept s := by
  unfold rxFrame
  dsimp only
  repeat' split
  all_goals (first | with_reducible rfl | (simp only [kept_mk, kept_eta, ite_self, kept_ite, kept_audEvent, kept_rxStamp, kept_storeRecord, kept_updAud]; done))
theorem kept_apHealth (p : Nat) (s : State) : kept (apHealth p s) = kept s := by
  simp only [apHealth, kept_mk, kept_eta, ite_self, kept_ite, kept_setCheck, kept_sourceSilent, kept_updRef]
theorem kept_aesSample (p : Nat) (s : State) : kept (aesSample p s) = kept s := by
  unfold aesSample
  dsimp only
  repeat' split
  all_goals (first | with_reducible rfl | (simp only [kept_mk, kept_eta, ite_self, kept_ite, kept_apHealth, kept_audEvent, kept_deliver, kept_rxStamp, kept_updAud, kept_updRef]; done))
theorem kept_aesLost (p : Nat) (s : State) : kept (aesLost p s) = kept s := by
  simp only [aesLost, kept_mk, kept_eta, ite_self, kept_ite, kept_apHealth, kept_audEvent, kept_evalAll, kept_updAud]
theorem kept_resetReceiver (p : Nat) (s : State) : kept (resetReceiver p s) = kept s := by
  simp only [resetReceiver, kept_mk, kept_eta, ite_self, kept_ite, kept_updAud]
theorem kept_audCommit (old : Cfg) (s : State) : kept (audCommit old s) = kept s := by
  unfold audCommit
  repeat' first
    | with_reducible rfl
    | (simp only [kept_mk, kept_eta, ite_self, kept_ite, kept_apHealth, kept_idlePort, kept_resetReceiver, *]; done)
    | (simp only [kept_mk, kept_eta, ite_self, kept_ite, kept_apHealth, kept_idlePort, kept_resetReceiver]; done)
    | (first | (intro x) | (lift_lets; intro x)
       first
        | (have hx : kept x = kept s := by
             first
               | (simp only [x, kept_mk, kept_eta, ite_self, kept_ite, kept_apHealth, kept_idlePort, kept_resetReceiver, *]; done)
               | (dsimp only [x]
                  repeat' first
                    | with_reducible rfl
                    | (simp only [kept_mk, kept_eta, ite_self, kept_ite, kept_apHealth, kept_idlePort, kept_resetReceiver, *]; done)
                    | (refine (kept_foldl _ (fun s x => ?_) _ _).trans ?_)
                    | split
                  done)
           clear_value x)
        | (have hx : ∀ y, kept (x y) = kept y := by
             intro y; simp only [x, kept_mk, kept_eta, ite_self, kept_ite, kept_apHealth, kept_idlePort, kept_resetReceiver, *]; done
           clear_value x)
        | (have hx : ∀ y, kept (x y).2 = kept y := by
             intro y; simp only [x, kept_mk, kept_eta, ite_self, kept_ite, kept_apHealth, kept_idlePort, kept_resetReceiver, *]; done
           clear_value x)
        | (have hx : ∀ a b y, kept (x a b y) = kept y := by
             intro a b y; simp only [x, kept_mk, kept_eta, ite_self, kept_ite, kept_apHealth, kept_idlePort, kept_resetReceiver, *]; done
           clear_value x)
        | clear_value x)
    | (refine (kept_foldl _ (fun s x => ?_) _ _).trans ?_)
    | (simp only [kept_mk, kept_eta, ite_self, kept_ite, kept_apHealth, kept_idlePort, kept_resetReceiver]; refine (kept_foldl _ (fun s x => ?_) _ _).trans ?_)
    | split
theorem kept_armPort (p : Nat) (s : State) : kept (armPort p s) = kept s := by
  simp only [armPort, kept_mk, kept_eta, ite_self, kept_ite, kept_updAud]
theorem kept_toBoundary (s : State) : kept (toBoundary s) = kept s := by
  simp only [toBoundary, kept_mk, kept_eta, ite_self, kept_ite, kept_moveToCounter]
theorem kept_handBoundary (temp rootPhase : Int) (s : State) : kept (handBoundary temp rootPhase s) = kept s := by
  have key : ∀ x, kept x = kept s → kept (capture (closeHand (handSamples temp rootPhase { x with boot := { x.boot with tempMax := temp }, hand := { x.hand with lastTick := some (x.now / tickPs) } }))) = kept s := by
    intro x h
    simp only [kept_capture, kept_closeHand, kept_handSamples, kept_mk, kept_eta, h]
  unfold handBoundary
  split
  · rfl
  · exact key _ (kept_toBoundary s)
theorem kept_hourlyCommit (s : State) : kept (hourlyCommit s) = kept s := by
  simp only [hourlyCommit, kept_mk, kept_eta, ite_self, kept_ite, kept_hourCommit, kept_moveTo]
theorem kept_refCommit (old : Cfg) (o : Nat) (s : State) : kept (refCommit old o s) = kept s := by
  unfold refCommit
  dsimp only
  repeat' split
  all_goals (first | with_reducible rfl | (simp only [kept_mk, kept_eta, ite_self, kept_ite, kept_staleMember, kept_updRef]; done))
theorem kept_selCommit (old : Cfg) (d : Nat) (s : State) : kept (selCommit old d s) = kept s := by
  simp only [selCommit, kept_mk, kept_eta, ite_self, kept_ite]
theorem kept_dropMember (old : Cfg) (k : Nat) (s : State) : kept (dropMember old k s) = kept s := by
  unfold dropMember
  dsimp only
  repeat' split
  all_goals (first | with_reducible rfl | (simp only [kept_mk, kept_eta, ite_self, kept_ite, kept_setCheck]; done))
theorem kept_meldCommit (old : Cfg) (s : State) : kept (meldCommit old s) = kept s := by
  unfold meldCommit
  repeat' first
    | with_reducible rfl
    | (simp only [kept_mk, kept_eta, ite_self, kept_ite, kept_dropMember, kept_restartLearning, *]; done)
    | (simp only [kept_mk, kept_eta, ite_self, kept_ite, kept_dropMember, kept_restartLearning]; done)
    | (first | (intro x) | (lift_lets; intro x)
       first
        | (have hx : kept x = kept s := by
             first
               | (simp only [x, kept_mk, kept_eta, ite_self, kept_ite, kept_dropMember, kept_restartLearning, *]; done)
               | (dsimp only [x]
                  repeat' first
                    | with_reducible rfl
                    | (simp only [kept_mk, kept_eta, ite_self, kept_ite, kept_dropMember, kept_restartLearning, *]; done)
                    | (refine (kept_foldl _ (fun s x => ?_) _ _).trans ?_)
                    | split
                  done)
           clear_value x)
        | (have hx : ∀ y, kept (x y) = kept y := by
             intro y; simp only [x, kept_mk, kept_eta, ite_self, kept_ite, kept_dropMember, kept_restartLearning, *]; done
           clear_value x)
        | (have hx : ∀ y, kept (x y).2 = kept y := by
             intro y; simp only [x, kept_mk, kept_eta, ite_self, kept_ite, kept_dropMember, kept_restartLearning, *]; done
           clear_value x)
        | (have hx : ∀ a b y, kept (x a b y) = kept y := by
             intro a b y; simp only [x, kept_mk, kept_eta, ite_self, kept_ite, kept_dropMember, kept_restartLearning, *]; done
           clear_value x)
        | clear_value x)
    | (refine (kept_foldl _ (fun s x => ?_) _ _).trans ?_)
    | (simp only [kept_mk, kept_eta, ite_self, kept_ite, kept_dropMember, kept_restartLearning]; refine (kept_foldl _ (fun s x => ?_) _ _).trans ?_)
    | split
theorem kept_raiseFloors (keep : Bool) (floors : Nat × Nat × Nat) (s : State) : kept (raiseFloors keep floors s) = kept s := by
  simp only [raiseFloors, kept_mk, kept_eta, ite_self, kept_ite]
theorem kept_commitSteer (a b : HoldCfg) (s : State) : kept (commitSteer a b s) = kept s := by
  simp only [commitSteer, kept_mk, kept_eta, ite_self, kept_ite]
theorem kept_commitLearning (a b : HoldCfg) (s : State) : kept (commitLearning a b s) = kept s := by
  simp only [commitLearning, kept_mk, kept_eta, ite_self, kept_ite, kept_restartLearning]
theorem kept_noteLeft (left : Bool) (s : State) : kept (noteLeft left s) = kept s := by
  simp only [noteLeft, kept_mk, kept_eta, ite_self, kept_ite]
theorem kept_waitUntil (t : Nat) (s : State) : kept (waitUntil t s) = kept s := by
  simp only [waitUntil, kept_mk, kept_eta, ite_self, kept_ite, kept_moveTo]
theorem kept_handFrom (s : State) : kept (handFrom s) = kept s := by
  simp only [handFrom, kept_mk, kept_eta, ite_self, kept_ite, kept_toBoundary]
theorem kept_dropStale (r : Nat) (s : State) : kept (dropStale r s) = kept s := by
  simp only [dropStale, kept_mk, kept_eta, ite_self, kept_ite]
theorem kept_ringEnable (r : Nat) (s : State) : kept (ringEnable r s) = kept s := by
  unfold ringEnable
  dsimp only
  repeat' split
  all_goals (first | with_reducible rfl | (simp only [kept_mk, kept_eta, ite_self, kept_ite, kept_dropStale, kept_ringFault, kept_updRing]; done))
theorem kept_ringDisable (r : Nat) (s : State) : kept (ringDisable r s) = kept s := by
  simp only [ringDisable, kept_mk, kept_eta, ite_self, kept_ite, kept_updRing]
theorem kept_ringCtrl (r v : Nat) (s : State) : kept (ringCtrl r v s) = kept s := by
  simp only [ringCtrl, kept_mk, kept_eta, ite_self, kept_ite, kept_ringDisable, kept_ringEnable, kept_updRing]
theorem kept_doorbell (r v : Nat) (second : Bool) (s : State) : kept (doorbell r v second s) = kept s := by
  simp only [doorbell, kept_mk, kept_eta, ite_self, kept_ite, kept_ringFault, kept_updRing]
theorem kept_cmdRingFetch (c ps : Nat) (entry : Bytes) (s : State) : kept (cmdRingFetch c ps entry s) = kept s := by
  simp only [cmdRingFetch, kept_mk, kept_eta, ite_self, kept_ite, kept_begin_, kept_submit, kept_updRing]
theorem kept_queueTimeout (k : Nat) (s : State) : kept (queueTimeout k s) = kept s := by
  unfold queueTimeout
  dsimp only
  repeat' split
  all_goals (first | with_reducible rfl | (simp only [kept_mk, kept_eta, ite_self, kept_ite, kept_acceptGo, kept_moveTo, kept_reply, kept_useFree]; done))
theorem kept_releaseItem (x : RxItem) (s : State) : kept (releaseItem x s) = kept s := by
  simp only [releaseItem, kept_mk, kept_eta, ite_self, kept_ite, kept_freeCells, kept_subOccupancy]
theorem kept_ringShort (r : Nat) (x : RxItem) (s : State) : kept (ringShort r x s) = kept s := by
  simp only [ringShort, kept_mk, kept_eta, ite_self, kept_ite, kept_bump, kept_raise, kept_releaseItem, kept_updRing]
theorem kept_rxDeliver (r ps : Nat) (s : State) : kept (rxDeliver r ps s) = kept s := by
  unfold rxDeliver
  repeat' first
    | with_reducible rfl
    | (simp only [kept_mk, kept_eta, ite_self, kept_ite, kept_begin_, kept_emit, kept_releaseItem, kept_ringEvent, kept_ringShort, kept_updRing, *]; done)
    | (simp only [kept_mk, kept_eta, ite_self, kept_ite, kept_begin_, kept_emit, kept_releaseItem, kept_ringEvent, kept_ringShort, kept_updRing]; done)
    | (first | (intro x) | (lift_lets; intro x)
       first
        | (have hx : kept x = kept s := by
             first
               | (simp only [x, kept_mk, kept_eta, ite_self, kept_ite, kept_begin_, kept_emit, kept_releaseItem, kept_ringEvent, kept_ringShort, kept_updRing, *]; done)
               | (dsimp only [x]
                  repeat' first
                    | with_reducible rfl
                    | (simp only [kept_mk, kept_eta, ite_self, kept_ite, kept_begin_, kept_emit, kept_releaseItem, kept_ringEvent, kept_ringShort, kept_updRing, *]; done)
                    | (refine (kept_foldl _ (fun s x => ?_) _ _).trans ?_)
                    | split
                  done)
           clear_value x)
        | (have hx : ∀ y, kept (x y) = kept y := by
             intro y; simp only [x, kept_mk, kept_eta, ite_self, kept_ite, kept_begin_, kept_emit, kept_releaseItem, kept_ringEvent, kept_ringShort, kept_updRing, *]; done
           clear_value x)
        | (have hx : ∀ y, kept (x y).2 = kept y := by
             intro y; simp only [x, kept_mk, kept_eta, ite_self, kept_ite, kept_begin_, kept_emit, kept_releaseItem, kept_ringEvent, kept_ringShort, kept_updRing, *]; done
           clear_value x)
        | (have hx : ∀ a b y, kept (x a b y) = kept y := by
             intro a b y; simp only [x, kept_mk, kept_eta, ite_self, kept_ite, kept_begin_, kept_emit, kept_releaseItem, kept_ringEvent, kept_ringShort, kept_updRing, *]; done
           clear_value x)
        | clear_value x)
    | (refine (kept_foldl _ (fun s x => ?_) _ _).trans ?_)
    | (simp only [kept_mk, kept_eta, ite_self, kept_ite, kept_begin_, kept_emit, kept_releaseItem, kept_ringEvent, kept_ringShort, kept_updRing]; refine (kept_foldl _ (fun s x => ?_) _ _).trans ?_)
    | split
theorem kept_txFetch (r ps : Nat) (descs : List Bytes) (data : Bytes) (s : State) : kept (txFetch r ps descs data s) = kept s := by
  unfold txFetch
  dsimp only
  repeat' split
  all_goals (first | with_reducible rfl | (simp only [kept_mk, kept_eta, ite_self, kept_ite, kept_begin_, kept_enqueue, kept_hostDone, kept_ringFault, kept_shedCheck, kept_updRing, kept_useFree]; done))
theorem kept_eventWrite (r ps : Nat) (s : State) : kept (eventWrite r ps s) = kept s := by
  unfold eventWrite
  dsimp only
  repeat' split
  all_goals (first | with_reducible rfl | (simp only [kept_mk, kept_eta, ite_self, kept_ite, kept_begin_, kept_bump, kept_emit, kept_raise, kept_ringEvent, kept_updRing]; done))
theorem kept_dmaError (r ps : Nat) (s : State) : kept (dmaError r ps s) = kept s := by
  unfold dmaError
  dsimp only
  repeat' split
  all_goals (first | with_reducible rfl | (simp only [kept_mk, kept_eta, ite_self, kept_ite, kept_begin_, kept_ringFault, kept_ringShort, kept_updRing]; done))
theorem kept_holdoffEnd (r : Nat) (s : State) : kept (holdoffEnd r s) = kept s := by
  unfold holdoffEnd
  dsimp only
  repeat' split
  all_goals (first | with_reducible rfl | (simp only [kept_mk, kept_eta, ite_self, kept_ite, kept_moveTo, kept_setSecond, kept_updRing]; done))
theorem kept_discardEntry (s : State) (e : QEntry) : kept (discardEntry s e) = kept s := by
  simp only [discardEntry, kept_mk, kept_eta, ite_self, kept_ite, kept_updSlot]
theorem kept_pcieReset (down : Bool) (s : State) : kept (pcieReset down s) = kept s := by
  unfold pcieReset
  repeat' first
    | with_reducible rfl
    | (simp only [kept_mk, kept_eta, ite_self, kept_ite, kept_discardEntry, *]; done)
    | (simp only [kept_mk, kept_eta, ite_self, kept_ite, kept_discardEntry]; done)
    | (first | (intro x) | (lift_lets; intro x)
       first
        | (have hx : kept x = kept s := by
             first
               | (simp only [x, kept_mk, kept_eta, ite_self, kept_ite, kept_discardEntry, *]; done)
               | (dsimp only [x]
                  repeat' first
                    | with_reducible rfl
                    | (simp only [kept_mk, kept_eta, ite_self, kept_ite, kept_discardEntry, *]; done)
                    | (refine (kept_foldl _ (fun s x => ?_) _ _).trans ?_)
                    | split
                  done)
           clear_value x)
        | (have hx : ∀ y, kept (x y) = kept y := by
             intro y; simp only [x, kept_mk, kept_eta, ite_self, kept_ite, kept_discardEntry, *]; done
           clear_value x)
        | (have hx : ∀ y, kept (x y).2 = kept y := by
             intro y; simp only [x, kept_mk, kept_eta, ite_self, kept_ite, kept_discardEntry, *]; done
           clear_value x)
        | (have hx : ∀ a b y, kept (x a b y) = kept y := by
             intro a b y; simp only [x, kept_mk, kept_eta, ite_self, kept_ite, kept_discardEntry, *]; done
           clear_value x)
        | clear_value x)
    | (refine (kept_foldl _ (fun s x => ?_) _ _).trans ?_)
    | (simp only [kept_mk, kept_eta, ite_self, kept_ite, kept_discardEntry]; refine (kept_foldl _ (fun s x => ?_) _ _).trans ?_)
    | split
theorem kept_linkTraining (ps : Nat) (s : State) : kept (linkTraining ps s) = kept s := by
  simp only [linkTraining, kept_mk, kept_eta, ite_self, kept_ite, kept_begin_]
theorem kept_linkUp (ps width gen : Nat) (s : State) : kept (linkUp ps width gen s) = kept s := by
  simp only [linkUp, kept_mk, kept_eta, ite_self, kept_ite, kept_begin_]
theorem kept_updBoot (f : BootPart → BootPart) (s : State) (h : (f s.boot).stage = s.boot.stage ∧ (f s.boot).cmdReady = s.boot.cmdReady ∧ (f s.boot).inReset = s.boot.inReset) : kept (updBoot f s) = kept s := by
  obtain ⟨h1, h2, h3⟩ := h
  unfold updBoot
  rw [kept_mk, h1, h2, h3]; exact kept_eta s
theorem kept_measureImages (l : List (Nat × Bytes)) (s : State) : kept (measureImages l s) = kept s := by
  unfold measureImages
  repeat' first
    | with_reducible rfl
    | (simp only [kept_mk, kept_eta, ite_self, kept_ite, kept_extend, *]; done)
    | (simp only [kept_mk, kept_eta, ite_self, kept_ite, kept_extend]; done)
    | (first | (intro x) | (lift_lets; intro x)
       first
        | (have hx : kept x = kept s := by
             first
               | (simp only [x, kept_mk, kept_eta, ite_self, kept_ite, kept_extend, *]; done)
               | (dsimp only [x]
                  repeat' first
                    | with_reducible rfl
                    | (simp only [kept_mk, kept_eta, ite_self, kept_ite, kept_extend, *]; done)
                    | (refine (kept_foldl _ (fun s x => ?_) _ _).trans ?_)
                    | split
                  done)
           clear_value x)
        | (have hx : ∀ y, kept (x y) = kept y := by
             intro y; simp only [x, kept_mk, kept_eta, ite_self, kept_ite, kept_extend, *]; done
           clear_value x)
        | (have hx : ∀ y, kept (x y).2 = kept y := by
             intro y; simp only [x, kept_mk, kept_eta, ite_self, kept_ite, kept_extend, *]; done
           clear_value x)
        | (have hx : ∀ a b y, kept (x a b y) = kept y := by
             intro a b y; simp only [x, kept_mk, kept_eta, ite_self, kept_ite, kept_extend, *]; done
           clear_value x)
        | clear_value x)
    | (refine (kept_foldl _ (fun s x => ?_) _ _).trans ?_)
    | (simp only [kept_mk, kept_eta, ite_self, kept_ite, kept_extend]; refine (kept_foldl _ (fun s x => ?_) _ _).trans ?_)
    | split
theorem kept_irqWrite (off : Nat) (v : Word) (s : State) : kept (irqWrite off v s) = kept s := by
  simp only [irqWrite, kept_mk, kept_eta, ite_self, kept_ite]
theorem kept_bufWrite (i : Iface) (k : Nat) (v : Word) (s : State) : kept (bufWrite i k v s) = kept s := by
  simp only [bufWrite, kept_mk, kept_eta, ite_self, kept_ite, kept_updBank]
theorem kept_ringRegWrite (r k : Nat) (v : Word) (s : State) : kept (ringRegWrite r k v s) = kept s := by
  simp only [ringRegWrite, kept_mk, kept_eta, ite_self, kept_ite, kept_ringCtrl, kept_updRing]
theorem kept_latchResult (i : Iface) (s : State) : kept (latchResult i s) = kept s := by
  simp only [latchResult, kept_mk, kept_eta, ite_self, kept_ite, kept_emit, kept_updBank, kept_updSlot]
theorem kept_msixMask (vec func : Bool) (s : State) : kept (msixMask vec func s) = kept s := by
  simp only [msixMask, kept_mk, kept_eta, ite_self, kept_ite, kept_msixSend]
theorem kept_powerGoodRise (s : State) : kept (powerGoodRise s) = kept s := by
  simp only [powerGoodRise, kept_mk, kept_eta, ite_self, kept_ite, and_self, kept_updBoot]
theorem kept_watchdogExpiry (s : State) : kept (watchdogExpiry s) = kept s := by
  simp only [watchdogExpiry, kept_mk, kept_eta, ite_self, kept_ite, and_self, kept_afterDrop, kept_selfFault, kept_updBoot]
theorem kept_thermalRelease (temp : Int) (s : State) : kept (thermalRelease temp s) = kept s := by
  simp only [thermalRelease, kept_mk, kept_eta, ite_self, kept_ite, and_self, kept_updBoot]
theorem kept_thermalWarn (temp : Int) (s : State) : kept (thermalWarn temp s) = kept s := by
  simp only [thermalWarn, kept_mk, kept_eta, ite_self, kept_ite, and_self, kept_raise, kept_updBoot]
theorem kept_thermalWarnClear (temp : Int) (s : State) : kept (thermalWarnClear temp s) = kept s := by
  simp only [thermalWarnClear, kept_mk, kept_eta, ite_self, kept_ite, and_self, kept_thermalWarn, kept_updBoot]
theorem kept_lossOfLock (detail : Nat) (s : State) : kept (lossOfLock detail s) = kept s := by
  simp only [lossOfLock, kept_mk, kept_eta, ite_self, kept_ite, kept_emit, kept_excursion, kept_selfFault, kept_setPads]
theorem kept_comparison (errPs : Nat) (s : State) : kept (comparison errPs s) = kept s := by
  unfold comparison
  repeat' split
  all_goals (first | with_reducible rfl | (simp only [kept_mk, kept_eta, ite_self, kept_ite, kept_excursion, kept_lossOfLock]; done))
theorem kept_claimOpen (s : State) : kept (claimOpen s) = kept s := by
  simp only [claimOpen, kept_mk, kept_eta, ite_self, kept_ite, and_self, kept_setPads, kept_updBoot, kept_updPair]
theorem kept_resetBlock (b i : Nat) (s : State) : kept (resetBlock b i s) = kept s := by
  unfold resetBlock
  repeat' first
    | with_reducible rfl
    | (simp only [kept_mk, kept_eta, ite_self, kept_ite, kept_disarmChan, kept_laneTo, kept_resetReceiver, kept_toCalibrating, kept_updChan, kept_updGnss, kept_updGroup, *]; done)
    | (simp only [kept_mk, kept_eta, ite_self, kept_ite, kept_disarmChan, kept_laneTo, kept_resetReceiver, kept_toCalibrating, kept_updChan, kept_updGnss, kept_updGroup]; done)
    | (first | (intro x) | (lift_lets; intro x)
       first
        | (have hx : kept x = kept s := by
             first
               | (simp only [x, kept_mk, kept_eta, ite_self, kept_ite, kept_disarmChan, kept_laneTo, kept_resetReceiver, kept_toCalibrating, kept_updChan, kept_updGnss, kept_updGroup, *]; done)
               | (dsimp only [x]
                  repeat' first
                    | with_reducible rfl
                    | (simp only [kept_mk, kept_eta, ite_self, kept_ite, kept_disarmChan, kept_laneTo, kept_resetReceiver, kept_toCalibrating, kept_updChan, kept_updGnss, kept_updGroup, *]; done)
                    | (refine (kept_foldl _ (fun s x => ?_) _ _).trans ?_)
                    | split
                  done)
           clear_value x)
        | (have hx : ∀ y, kept (x y) = kept y := by
             intro y; simp only [x, kept_mk, kept_eta, ite_self, kept_ite, kept_disarmChan, kept_laneTo, kept_resetReceiver, kept_toCalibrating, kept_updChan, kept_updGnss, kept_updGroup, *]; done
           clear_value x)
        | (have hx : ∀ y, kept (x y).2 = kept y := by
             intro y; simp only [x, kept_mk, kept_eta, ite_self, kept_ite, kept_disarmChan, kept_laneTo, kept_resetReceiver, kept_toCalibrating, kept_updChan, kept_updGnss, kept_updGroup, *]; done
           clear_value x)
        | (have hx : ∀ a b y, kept (x a b y) = kept y := by
             intro a b y; simp only [x, kept_mk, kept_eta, ite_self, kept_ite, kept_disarmChan, kept_laneTo, kept_resetReceiver, kept_toCalibrating, kept_updChan, kept_updGnss, kept_updGroup, *]; done
           clear_value x)
        | clear_value x)
    | (refine (kept_foldl _ (fun s x => ?_) _ _).trans ?_)
    | (simp only [kept_mk, kept_eta, ite_self, kept_ite, kept_disarmChan, kept_laneTo, kept_resetReceiver, kept_toCalibrating, kept_updChan, kept_updGnss, kept_updGroup]; refine (kept_foldl _ (fun s x => ?_) _ _).trans ?_)
    | split
theorem kept_blockResetDone (b i : Nat) (s : State) : kept (blockResetDone b i s) = kept s := by
  simp only [blockResetDone, kept_mk, kept_eta, ite_self, kept_ite, kept_finishWait, kept_raise]
theorem kept_imageError (k : Nat) (s : State) : kept (imageError k s) = kept s := by
  simp only [imageError, kept_mk, kept_eta, ite_self, kept_ite, and_self, kept_raise, kept_updBoot]
theorem kept_idle (s : State) : kept (idle s) = kept s := by
  simp only [idle, kept_mk, kept_eta, ite_self, kept_ite, kept_moveTo]

end Sys2Proof.Machine
end

