-- ==== Sys2Proof/Laws/KeptHandlers.lean ====
section
/-! SUPPORT. What each command leaves alone: whatever it answers, the queue of commands, the stage of startup and the life-cycle state. -/
set_option linter.unusedSimpArgs false
set_option linter.unusedVariables false
namespace Sys2Proof.Machine
open Sys2Proof Host


def Answer.keeps (s : State) : Answer → Prop
  | .done _ t => (kept t).1 = (kept s).1
  | .later t => (kept t).1 = (kept s).1
  | .refuseWith _ _ t => (kept t).1 = (kept s).1
  | .refuse _ _ => True
theorem keeps_refuse (s : State) (a b : Nat) : (Answer.refuse a b).keeps s := True.intro
theorem keeps_done {s t : State} {d : Bytes} (h : (kept t).1 = (kept s).1) : (Answer.done d t).keeps s := h
theorem keeps_later {s t : State} (h : (kept t).1 = (kept s).1) : (Answer.later t).keeps s := h
theorem keeps_refuseWith {s t : State} {a b : Nat} (h : (kept t).1 = (kept s).1) : (Answer.refuseWith a b t).keeps s := h
theorem keeps_refuseIf {s : State} {c : Bool} {a b : Nat} {k : Answer} (h : k.keeps s) : (refuseIf c a b k).keeps s := by
  unfold refuseIf; split
  · exact True.intro
  · exact h
theorem keeps_checked {s : State} {q : Req} {n : Nat} {fs : List Fld} {k : Answer} (h : k.keeps s) : (checked q n fs k).keeps s := by
  unfold checked; split
  · exact True.intro
  · exact h
theorem keeps_checkedN {s : State} {q : Req} {n : Nat} {fs : List Fld} {m z : Nat} {e : Nat → List Fld} {k : Answer} (h : k.keeps s) : (checkedN q n fs m z e k).keeps s := by
  unfold checkedN; split
  · exact True.intro
  · exact h
theorem keeps_declarerOnly {s t : State} {k : Answer} (h : k.keeps s) : (declarerOnly t k).keeps s := keeps_refuseIf h
theorem keeps_hostMayMove {s t : State} {k : Answer} (h : k.keeps s) : (hostMayMove t k).keeps s := keeps_declarerOnly (keeps_refuseIf h)
theorem keeps_kittyReady {s : State} {k : Answer} (h : k.keeps s) : (kittyReady s k).keeps s := by
  unfold kittyReady; split
  · exact h
  · exact congrArg Prod.fst (kept_useFree s)
theorem keeps_noMirror {s : State} {q : Req} {k : Answer} (h : k.keeps s) : (noMirror q k).keeps s := by unfold noMirror; repeat (first | exact h | apply keeps_refuseIf)
theorem keeps_keyAllowed {s t : State} {b : Bool} {k : Answer} (h : k.keeps s) : (keyAllowed b t k).keeps s := by unfold keyAllowed; repeat (first | exact h | apply keeps_refuseIf)
theorem keeps_writes (f : Cfg → Cfg) (s : State) : (writes f s).keeps s := Eq.trans rfl rfl
theorem kept1_eta (s : State) : (s.pending, s.boot.stage, s.boot.cmdReady, s.boot.inReset, s.attest.lc) = (kept s).1 := Eq.trans rfl rfl
theorem kept1_shadowed (f : Cfg → Cfg) (s : State) : (kept (shadowed f s)).1 = (kept s).1 := Eq.trans rfl rfl
theorem kept1_mk_work (s : State) (a b : Cfg) : (kept { s with shadow := a, work := b }).1 = (kept s).1 := by simp only [kept_mk, kept1_eta]
theorem kept1_work (s : State) (a : Cfg) : (kept { s with work := a }).1 = (kept s).1 := by simp only [kept_mk, kept1_eta]
theorem kept1_ptpCommit (old : Cfg) (s : State) : (kept (ptpCommit old s)).1 = (kept s).1 := by
  have hu : ∀ (l : List (Nat × SaRun)) (y : State), kept (updPtp (fun n => { n with sas := l }) y) = kept y := fun l y => kept_updPtp _ _
  have h0 := kept1_mk_work s { s.shadow with ptpGone := [] } { s.work with ptpGone := [] }
  unfold ptpCommit
  revert h0
  generalize ({ s with work := { s.work with ptpGone := [] }, shadow := { s.shadow with ptpGone := [] } } : State) = x
  intro h0
  refine Eq.trans (congrArg Prod.fst ((hu _ _).trans ?_)) h0
  refine (kept_foldl _ (fun y b => ?_) _ _).trans ((kept_foldl _ (fun y b => ?_) _ _).trans ((kept_foldl _ (fun y b => ?_) _ _).trans (kept_foldl _ (fun y b => ?_) _ _)))
  · split
    · rfl
    · exact kept_ptpHealth _ _ _
  · split
    · rfl
    · exact (kept_startBind _ _ _).trans (kept_updBind _ _ _ _)
  · split
    · rfl
    · exact kept_endBind _ _ _
  · split
    · exact kept_endInst _ _ _ _
    · rfl
theorem kept1_ntpCommit (old : Cfg) (s : State) : (kept (ntpCommit old s)).1 = (kept s).1 := by
  have h0 : ∀ f, (kept (updNtp f s)).1 = (kept s).1 := fun f => congrArg Prod.fst (kept_updNtp f s)
  have h1 : ∀ (x : State), (kept x).1 = (kept s).1 → (kept { x with work := erasedDone x.work, shadow := erasedDone x.shadow }).1 = (kept s).1 :=
    fun x h => (kept1_mk_work x _ _).trans h
  have h2 : ∀ (x : State), (kept x).1 = (kept s).1 → (kept (let c := x.work.rcpt
      let y := if c.slot ≠ old.rcpt.slot ∨ (!c.enable && old.rcpt.enable) then closeBatch x else x
      if c.loads = old.rcpt.loads then y else updNtp (fun n => { n with seed := (keyCopy y c.slot).getD [] }) y)).1 = (kept s).1 := by
    intro x h
    dsimp only
    split <;> split <;> simp only [kept_updNtp, kept_closeBatch, h]
  unfold ntpCommit
  exact h2 _ (h1 _ ((congrArg Prod.fst (kept_rateCommit old _)).trans (h0 _)))
theorem kept1_ite {c : Prop} [Decidable c] (a b : State) : (kept (if c then a else b)).1 = if c then (kept a).1 else (kept b).1 := by split <;> rfl
theorem kept1_holdCommit (old : Cfg) (floors : Nat × Nat × Nat) (s : State) : (kept (holdCommit old floors s)).1 = (kept s).1 := by
  have hk : ∀ (c : Bool) (k : Bool) (a b : HoldCfg), kept (if c then s else commitSteer a b (commitLearning a b (raiseFloors k floors s))) = kept s := by
    intro c k a b
    simp only [kept_ite, kept_commitSteer, kept_commitLearning, kept_raiseFloors, ite_self]
  unfold holdCommit
  exact (congrArg Prod.fst (kept_noteLeft _ _)).trans ((kept1_mk_work _ _ _).trans (congrArg Prod.fst (hk _ _ _ _)))
theorem kept1_applyCommit (s : State) : (kept (applyCommit s)).1 = (kept s).1 := by
  have hh : ∀ (y : State) (h : HostPart), kept { y with host := h } = kept y := by intro y h; simp only [kept_mk, kept_eta]
  unfold applyCommit
  refine (congrArg Prod.fst (hh _ _)).trans ?_
  rw [kept_settleBound, kept_evalAll, kept_filterCommit, kept_audCommit, kept_pairCommit, kept1_ntpCommit, kept1_ptpCommit, kept_svcCommit, kept_portCommit,
    kept_gnssCommit, kept_outCommit, kept_tdcCommit, kept1_holdCommit, kept_meldCommit]
  refine (congrArg Prod.fst (kept_foldl _ (fun y d => kept_selCommit s.work d y) _ _)).trans ?_
  refine (congrArg Prod.fst (kept_foldl _ (fun y d => kept_refCommit s.work d y) _ _)).trans ?_
  exact kept1_work s _
theorem keeps_hTimeRead (q : Req) (s : State) : (hTimeRead q s).keeps s := by
  unfold hTimeRead
  try dsimp only
  repeat' first
    | with_reducible exact keeps_refuse _ _ _
    | with_reducible exact keeps_writes _ _
    | with_reducible refine keeps_checked ?_
    | with_reducible refine keeps_checkedN ?_
    | with_reducible refine keeps_refuseIf ?_
    | with_reducible refine keeps_declarerOnly ?_
    | with_reducible refine keeps_hostMayMove ?_
    | with_reducible refine keeps_kittyReady ?_
    | with_reducible refine keeps_noMirror ?_
    | with_reducible refine keeps_keyAllowed ?_
    | with_reducible refine keeps_done ?_
    | with_reducible refine keeps_later ?_
    | with_reducible refine keeps_refuseWith ?_
    | with_reducible rfl
    | (simp only [kept_mk, kept_eta, kept_ite, ite_self, kept1_shadowed, kept1_eta, and_self]; done)
    | with_reducible (refine congrArg Prod.fst ((kept_foldl _ (fun s x => ?_) _ _).trans ?_))
    | split
  done
theorem keeps_hTimeSet (q : Req) (s : State) : (hTimeSet q s).keeps s := by
  unfold hTimeSet
  try dsimp only
  repeat' first
    | with_reducible exact keeps_refuse _ _ _
    | with_reducible exact keeps_writes _ _
    | with_reducible refine keeps_checked ?_
    | with_reducible refine keeps_checkedN ?_
    | with_reducible refine keeps_refuseIf ?_
    | with_reducible refine keeps_declarerOnly ?_
    | with_reducible refine keeps_hostMayMove ?_
    | with_reducible refine keeps_kittyReady ?_
    | with_reducible refine keeps_noMirror ?_
    | with_reducible refine keeps_keyAllowed ?_
    | with_reducible refine keeps_done ?_
    | with_reducible refine keeps_later ?_
    | with_reducible refine keeps_refuseWith ?_
    | with_reducible rfl
    | (simp only [kept_mk, kept_eta, kept_ite, ite_self, kept1_shadowed, kept1_eta, and_self, kept_cancelPending, kept_evalNewlyValid, kept_hostSet, kept_nextTick]; done)
    | with_reducible (refine congrArg Prod.fst ((kept_foldl _ (fun s x => ?_) _ _).trans ?_))
    | split
  done
theorem keeps_hTimeStep (q : Req) (s : State) : (hTimeStep q s).keeps s := by
  unfold hTimeStep
  try dsimp only
  repeat' first
    | with_reducible exact keeps_refuse _ _ _
    | with_reducible exact keeps_writes _ _
    | with_reducible refine keeps_checked ?_
    | with_reducible refine keeps_checkedN ?_
    | with_reducible refine keeps_refuseIf ?_
    | with_reducible refine keeps_declarerOnly ?_
    | with_reducible refine keeps_hostMayMove ?_
    | with_reducible refine keeps_kittyReady ?_
    | with_reducible refine keeps_noMirror ?_
    | with_reducible refine keeps_keyAllowed ?_
    | with_reducible refine keeps_done ?_
    | with_reducible refine keeps_later ?_
    | with_reducible refine keeps_refuseWith ?_
    | with_reducible rfl
    | (simp only [kept_mk, kept_eta, kept_ite, ite_self, kept1_shadowed, kept1_eta, and_self, kept_cancelPending, kept_hostStep, kept_nextTick]; done)
    | with_reducible (refine congrArg Prod.fst ((kept_foldl _ (fun s x => ?_) _ _).trans ?_))
    | split
  done
theorem keeps_hTimeSlew (q : Req) (s : State) : (hTimeSlew q s).keeps s := by
  unfold hTimeSlew
  try dsimp only
  repeat' first
    | with_reducible exact keeps_refuse _ _ _
    | with_reducible exact keeps_writes _ _
    | with_reducible refine keeps_checked ?_
    | with_reducible refine keeps_checkedN ?_
    | with_reducible refine keeps_refuseIf ?_
    | with_reducible refine keeps_declarerOnly ?_
    | with_reducible refine keeps_hostMayMove ?_
    | with_reducible refine keeps_kittyReady ?_
    | with_reducible refine keeps_noMirror ?_
    | with_reducible refine keeps_keyAllowed ?_
    | with_reducible refine keeps_done ?_
    | with_reducible refine keeps_later ?_
    | with_reducible refine keeps_refuseWith ?_
    | with_reducible rfl
    | (simp only [kept_mk, kept_eta, kept_ite, ite_self, kept1_shadowed, kept1_eta, and_self, kept_dropSlew, kept_nextTick, kept_runSlew, kept_settleBound, kept_widenB0]; done)
    | with_reducible (refine congrArg Prod.fst ((kept_foldl _ (fun s x => ?_) _ _).trans ?_))
    | split
  done
theorem keeps_hLeapConfigure (q : Req) (s : State) : (hLeapConfigure q s).keeps s := by
  unfold hLeapConfigure
  try dsimp only
  repeat' first
    | with_reducible exact keeps_refuse _ _ _
    | with_reducible exact keeps_writes _ _
    | with_reducible refine keeps_checked ?_
    | with_reducible refine keeps_checkedN ?_
    | with_reducible refine keeps_refuseIf ?_
    | with_reducible refine keeps_declarerOnly ?_
    | with_reducible refine keeps_hostMayMove ?_
    | with_reducible refine keeps_kittyReady ?_
    | with_reducible refine keeps_noMirror ?_
    | with_reducible refine keeps_keyAllowed ?_
    | with_reducible refine keeps_done ?_
    | with_reducible refine keeps_later ?_
    | with_reducible refine keeps_refuseWith ?_
    | with_reducible rfl
    | (simp only [kept_mk, kept_eta, kept_ite, ite_self, kept1_shadowed, kept1_eta, and_self]; done)
    | with_reducible (refine congrArg Prod.fst ((kept_foldl _ (fun s x => ?_) _ _).trans ?_))
    | split
  done
theorem keeps_hRefConfigure (q : Req) (s : State) : (hRefConfigure q s).keeps s := by
  unfold hRefConfigure
  try dsimp only
  repeat' first
    | with_reducible exact keeps_refuse _ _ _
    | with_reducible exact keeps_writes _ _
    | with_reducible refine keeps_checked ?_
    | with_reducible refine keeps_checkedN ?_
    | with_reducible refine keeps_refuseIf ?_
    | with_reducible refine keeps_declarerOnly ?_
    | with_reducible refine keeps_hostMayMove ?_
    | with_reducible refine keeps_kittyReady ?_
    | with_reducible refine keeps_noMirror ?_
    | with_reducible refine keeps_keyAllowed ?_
    | with_reducible refine keeps_done ?_
    | with_reducible refine keeps_later ?_
    | with_reducible refine keeps_refuseWith ?_
    | with_reducible rfl
    | (simp only [kept_mk, kept_eta, kept_ite, ite_self, kept1_shadowed, kept1_eta, and_self]; done)
    | with_reducible (refine congrArg Prod.fst ((kept_foldl _ (fun s x => ?_) _ _).trans ?_))
    | split
  done
theorem keeps_hRefQualifyPolicy (q : Req) (s : State) : (hRefQualifyPolicy q s).keeps s := by
  unfold hRefQualifyPolicy
  try dsimp only
  repeat' first
    | with_reducible exact keeps_refuse _ _ _
    | with_reducible exact keeps_writes _ _
    | with_reducible refine keeps_checked ?_
    | with_reducible refine keeps_checkedN ?_
    | with_reducible refine keeps_refuseIf ?_
    | with_reducible refine keeps_declarerOnly ?_
    | with_reducible refine keeps_hostMayMove ?_
    | with_reducible refine keeps_kittyReady ?_
    | with_reducible refine keeps_noMirror ?_
    | with_reducible refine keeps_keyAllowed ?_
    | with_reducible refine keeps_done ?_
    | with_reducible refine keeps_later ?_
    | with_reducible refine keeps_refuseWith ?_
    | with_reducible rfl
    | (simp only [kept_mk, kept_eta, kept_ite, ite_self, kept1_shadowed, kept1_eta, and_self]; done)
    | with_reducible (refine congrArg Prod.fst ((kept_foldl _ (fun s x => ?_) _ _).trans ?_))
    | split
  done
theorem keeps_hRefStatus (q : Req) (s : State) : (hRefStatus q s).keeps s := by
  unfold hRefStatus
  try dsimp only
  repeat' first
    | with_reducible exact keeps_refuse _ _ _
    | with_reducible exact keeps_writes _ _
    | with_reducible refine keeps_checked ?_
    | with_reducible refine keeps_checkedN ?_
    | with_reducible refine keeps_refuseIf ?_
    | with_reducible refine keeps_declarerOnly ?_
    | with_reducible refine keeps_hostMayMove ?_
    | with_reducible refine keeps_kittyReady ?_
    | with_reducible refine keeps_noMirror ?_
    | with_reducible refine keeps_keyAllowed ?_
    | with_reducible refine keeps_done ?_
    | with_reducible refine keeps_later ?_
    | with_reducible refine keeps_refuseWith ?_
    | with_reducible rfl
    | (simp only [kept_mk, kept_eta, kept_ite, ite_self, kept1_shadowed, kept1_eta, and_self, kept_updRef]; done)
    | with_reducible (refine congrArg Prod.fst ((kept_foldl _ (fun s x => ?_) _ _).trans ?_))
    | split
  done
theorem keeps_hSelConfigure (q : Req) (s : State) : (hSelConfigure q s).keeps s := by
  unfold hSelConfigure
  try dsimp only
  repeat' first
    | with_reducible exact keeps_refuse _ _ _
    | with_reducible exact keeps_writes _ _
    | with_reducible refine keeps_checked ?_
    | with_reducible refine keeps_checkedN ?_
    | with_reducible refine keeps_refuseIf ?_
    | with_reducible refine keeps_declarerOnly ?_
    | with_reducible refine keeps_hostMayMove ?_
    | with_reducible refine keeps_kittyReady ?_
    | with_reducible refine keeps_noMirror ?_
    | with_reducible refine keeps_keyAllowed ?_
    | with_reducible refine keeps_done ?_
    | with_reducible refine keeps_later ?_
    | with_reducible refine keeps_refuseWith ?_
    | with_reducible rfl
    | (simp only [kept_mk, kept_eta, kept_ite, ite_self, kept1_shadowed, kept1_eta, and_self]; done)
    | with_reducible (refine congrArg Prod.fst ((kept_foldl _ (fun s x => ?_) _ _).trans ?_))
    | split
  done
theorem keeps_hSelSelect (q : Req) (s : State) : (hSelSelect q s).keeps s := by
  unfold hSelSelect
  try dsimp only
  repeat' first
    | with_reducible exact keeps_refuse _ _ _
    | with_reducible exact keeps_writes _ _
    | with_reducible refine keeps_checked ?_
    | with_reducible refine keeps_checkedN ?_
    | with_reducible refine keeps_refuseIf ?_
    | with_reducible refine keeps_declarerOnly ?_
    | with_reducible refine keeps_hostMayMove ?_
    | with_reducible refine keeps_kittyReady ?_
    | with_reducible refine keeps_noMirror ?_
    | with_reducible refine keeps_keyAllowed ?_
    | with_reducible refine keeps_done ?_
    | with_reducible refine keeps_later ?_
    | with_reducible refine keeps_refuseWith ?_
    | with_reducible rfl
    | (simp only [kept_mk, kept_eta, kept_ite, ite_self, kept1_shadowed, kept1_eta, and_self, kept_evalAll, kept_nextTick]; done)
    | with_reducible (refine congrArg Prod.fst ((kept_foldl _ (fun s x => ?_) _ _).trans ?_))
    | split
  done
theorem keeps_hSelStatus (q : Req) (s : State) : (hSelStatus q s).keeps s := by
  unfold hSelStatus
  try dsimp only
  repeat' first
    | with_reducible exact keeps_refuse _ _ _
    | with_reducible exact keeps_writes _ _
    | with_reducible refine keeps_checked ?_
    | with_reducible refine keeps_checkedN ?_
    | with_reducible refine keeps_refuseIf ?_
    | with_reducible refine keeps_declarerOnly ?_
    | with_reducible refine keeps_hostMayMove ?_
    | with_reducible refine keeps_kittyReady ?_
    | with_reducible refine keeps_noMirror ?_
    | with_reducible refine keeps_keyAllowed ?_
    | with_reducible refine keeps_done ?_
    | with_reducible refine keeps_later ?_
    | with_reducible refine keeps_refuseWith ?_
    | with_reducible rfl
    | (simp only [kept_mk, kept_eta, kept_ite, ite_self, kept1_shadowed, kept1_eta, and_self]; done)
    | with_reducible (refine congrArg Prod.fst ((kept_foldl _ (fun s x => ?_) _ _).trans ?_))
    | split
  done
theorem keeps_hSelForceRestore (q : Req) (s : State) : (hSelForceRestore q s).keeps s := by
  unfold hSelForceRestore
  try dsimp only
  repeat' first
    | with_reducible exact keeps_refuse _ _ _
    | with_reducible exact keeps_writes _ _
    | with_reducible refine keeps_checked ?_
    | with_reducible refine keeps_checkedN ?_
    | with_reducible refine keeps_refuseIf ?_
    | with_reducible refine keeps_declarerOnly ?_
    | with_reducible refine keeps_hostMayMove ?_
    | with_reducible refine keeps_kittyReady ?_
    | with_reducible refine keeps_noMirror ?_
    | with_reducible refine keeps_keyAllowed ?_
    | with_reducible refine keeps_done ?_
    | with_reducible refine keeps_later ?_
    | with_reducible refine keeps_refuseWith ?_
    | with_reducible rfl
    | (simp only [kept_mk, kept_eta, kept_ite, ite_self, kept1_shadowed, kept1_eta, and_self, kept_evalAll, kept_nextTick, kept_refEvent, kept_toQualified]; done)
    | with_reducible (refine congrArg Prod.fst ((kept_foldl _ (fun s x => ?_) _ _).trans ?_))
    | split
  done
theorem keeps_hDpllConfigure (q : Req) (s : State) : (hDpllConfigure q s).keeps s := by
  unfold hDpllConfigure
  try dsimp only
  repeat' first
    | with_reducible exact keeps_refuse _ _ _
    | with_reducible exact keeps_writes _ _
    | with_reducible refine keeps_checked ?_
    | with_reducible refine keeps_checkedN ?_
    | with_reducible refine keeps_refuseIf ?_
    | with_reducible refine keeps_declarerOnly ?_
    | with_reducible refine keeps_hostMayMove ?_
    | with_reducible refine keeps_kittyReady ?_
    | with_reducible refine keeps_noMirror ?_
    | with_reducible refine keeps_keyAllowed ?_
    | with_reducible refine keeps_done ?_
    | with_reducible refine keeps_later ?_
    | with_reducible refine keeps_refuseWith ?_
    | with_reducible rfl
    | (simp only [kept_mk, kept_eta, kept_ite, ite_self, kept1_shadowed, kept1_eta, and_self]; done)
    | with_reducible (refine congrArg Prod.fst ((kept_foldl _ (fun s x => ?_) _ _).trans ?_))
    | split
  done
theorem keeps_hDpllStatus (q : Req) (s : State) : (hDpllStatus q s).keeps s := by
  unfold hDpllStatus
  try dsimp only
  repeat' first
    | with_reducible exact keeps_refuse _ _ _
    | with_reducible exact keeps_writes _ _
    | with_reducible refine keeps_checked ?_
    | with_reducible refine keeps_checkedN ?_
    | with_reducible refine keeps_refuseIf ?_
    | with_reducible refine keeps_declarerOnly ?_
    | with_reducible refine keeps_hostMayMove ?_
    | with_reducible refine keeps_kittyReady ?_
    | with_reducible refine keeps_noMirror ?_
    | with_reducible refine keeps_keyAllowed ?_
    | with_reducible refine keeps_done ?_
    | with_reducible refine keeps_later ?_
    | with_reducible refine keeps_refuseWith ?_
    | with_reducible rfl
    | (simp only [kept_mk, kept_eta, kept_ite, ite_self, kept1_shadowed, kept1_eta, and_self]; done)
    | with_reducible (refine congrArg Prod.fst ((kept_foldl _ (fun s x => ?_) _ _).trans ?_))
    | split
  done
theorem keeps_hHoldModelSet (q : Req) (s : State) : (hHoldModelSet q s).keeps s := by
  unfold hHoldModelSet
  try dsimp only
  repeat' first
    | with_reducible exact keeps_refuse _ _ _
    | with_reducible exact keeps_writes _ _
    | with_reducible refine keeps_checked ?_
    | with_reducible refine keeps_checkedN ?_
    | with_reducible refine keeps_refuseIf ?_
    | with_reducible refine keeps_declarerOnly ?_
    | with_reducible refine keeps_hostMayMove ?_
    | with_reducible refine keeps_kittyReady ?_
    | with_reducible refine keeps_noMirror ?_
    | with_reducible refine keeps_keyAllowed ?_
    | with_reducible refine keeps_done ?_
    | with_reducible refine keeps_later ?_
    | with_reducible refine keeps_refuseWith ?_
    | with_reducible rfl
    | (simp only [kept_mk, kept_eta, kept_ite, ite_self, kept1_shadowed, kept1_eta, and_self]; done)
    | with_reducible (refine congrArg Prod.fst ((kept_foldl _ (fun s x => ?_) _ _).trans ?_))
    | split
  done
theorem keeps_hHoldModelRead (q : Req) (s : State) : (hHoldModelRead q s).keeps s := by
  unfold hHoldModelRead
  try dsimp only
  repeat' first
    | with_reducible exact keeps_refuse _ _ _
    | with_reducible exact keeps_writes _ _
    | with_reducible refine keeps_checked ?_
    | with_reducible refine keeps_checkedN ?_
    | with_reducible refine keeps_refuseIf ?_
    | with_reducible refine keeps_declarerOnly ?_
    | with_reducible refine keeps_hostMayMove ?_
    | with_reducible refine keeps_kittyReady ?_
    | with_reducible refine keeps_noMirror ?_
    | with_reducible refine keeps_keyAllowed ?_
    | with_reducible refine keeps_done ?_
    | with_reducible refine keeps_later ?_
    | with_reducible refine keeps_refuseWith ?_
    | with_reducible rfl
    | (simp only [kept_mk, kept_eta, kept_ite, ite_self, kept1_shadowed, kept1_eta, and_self]; done)
    | with_reducible (refine congrArg Prod.fst ((kept_foldl _ (fun s x => ?_) _ _).trans ?_))
    | split
  done
theorem keeps_hJumpAccept (q : Req) (s : State) : (hJumpAccept q s).keeps s := by
  unfold hJumpAccept
  try dsimp only
  repeat' first
    | with_reducible exact keeps_refuse _ _ _
    | with_reducible exact keeps_writes _ _
    | with_reducible refine keeps_checked ?_
    | with_reducible refine keeps_checkedN ?_
    | with_reducible refine keeps_refuseIf ?_
    | with_reducible refine keeps_declarerOnly ?_
    | with_reducible refine keeps_hostMayMove ?_
    | with_reducible refine keeps_kittyReady ?_
    | with_reducible refine keeps_noMirror ?_
    | with_reducible refine keeps_keyAllowed ?_
    | with_reducible refine keeps_done ?_
    | with_reducible refine keeps_later ?_
    | with_reducible refine keeps_refuseWith ?_
    | with_reducible rfl
    | (simp only [kept_mk, kept_eta, kept_ite, ite_self, kept1_shadowed, kept1_eta, and_self, kept_acceptChoice, kept_evalAll, kept_nextTick, kept_toQualified, kept_updRef]; done)
    | with_reducible (refine congrArg Prod.fst ((kept_foldl _ (fun s x => ?_) _ _).trans ?_))
    | split
  done
theorem keeps_hMeldConfigure (q : Req) (s : State) : (hMeldConfigure q s).keeps s := by
  unfold hMeldConfigure
  try dsimp only
  repeat' first
    | with_reducible exact keeps_refuse _ _ _
    | with_reducible exact keeps_writes _ _
    | with_reducible refine keeps_checked ?_
    | with_reducible refine keeps_checkedN ?_
    | with_reducible refine keeps_refuseIf ?_
    | with_reducible refine keeps_declarerOnly ?_
    | with_reducible refine keeps_hostMayMove ?_
    | with_reducible refine keeps_kittyReady ?_
    | with_reducible refine keeps_noMirror ?_
    | with_reducible refine keeps_keyAllowed ?_
    | with_reducible refine keeps_done ?_
    | with_reducible refine keeps_later ?_
    | with_reducible refine keeps_refuseWith ?_
    | with_reducible rfl
    | (simp only [kept_mk, kept_eta, kept_ite, ite_self, kept1_shadowed, kept1_eta, and_self]; done)
    | with_reducible (refine congrArg Prod.fst ((kept_foldl _ (fun s x => ?_) _ _).trans ?_))
    | split
  done
theorem keeps_hMeldClockSet (q : Req) (s : State) : (hMeldClockSet q s).keeps s := by
  unfold hMeldClockSet
  try dsimp only
  repeat' first
    | with_reducible exact keeps_refuse _ _ _
    | with_reducible exact keeps_writes _ _
    | with_reducible refine keeps_checked ?_
    | with_reducible refine keeps_checkedN ?_
    | with_reducible refine keeps_refuseIf ?_
    | with_reducible refine keeps_declarerOnly ?_
    | with_reducible refine keeps_hostMayMove ?_
    | with_reducible refine keeps_kittyReady ?_
    | with_reducible refine keeps_noMirror ?_
    | with_reducible refine keeps_keyAllowed ?_
    | with_reducible refine keeps_done ?_
    | with_reducible refine keeps_later ?_
    | with_reducible refine keeps_refuseWith ?_
    | with_reducible rfl
    | (simp only [kept_mk, kept_eta, kept_ite, ite_self, kept1_shadowed, kept1_eta, and_self]; done)
    | with_reducible (refine congrArg Prod.fst ((kept_foldl _ (fun s x => ?_) _ _).trans ?_))
    | split
  done
theorem keeps_hMeldStatus (q : Req) (s : State) : (hMeldStatus q s).keeps s := by
  unfold hMeldStatus
  try dsimp only
  repeat' first
    | with_reducible exact keeps_refuse _ _ _
    | with_reducible exact keeps_writes _ _
    | with_reducible refine keeps_checked ?_
    | with_reducible refine keeps_checkedN ?_
    | with_reducible refine keeps_refuseIf ?_
    | with_reducible refine keeps_declarerOnly ?_
    | with_reducible refine keeps_hostMayMove ?_
    | with_reducible refine keeps_kittyReady ?_
    | with_reducible refine keeps_noMirror ?_
    | with_reducible refine keeps_keyAllowed ?_
    | with_reducible refine keeps_done ?_
    | with_reducible refine keeps_later ?_
    | with_reducible refine keeps_refuseWith ?_
    | with_reducible rfl
    | (simp only [kept_mk, kept_eta, kept_ite, ite_self, kept1_shadowed, kept1_eta, and_self]; done)
    | with_reducible (refine congrArg Prod.fst ((kept_foldl _ (fun s x => ?_) _ _).trans ?_))
    | split
  done
theorem keeps_hGnssConfigure (q : Req) (s : State) : (hGnssConfigure q s).keeps s := by
  unfold hGnssConfigure
  try dsimp only
  repeat' first
    | with_reducible exact keeps_refuse _ _ _
    | with_reducible exact keeps_writes _ _
    | with_reducible refine keeps_checked ?_
    | with_reducible refine keeps_checkedN ?_
    | with_reducible refine keeps_refuseIf ?_
    | with_reducible refine keeps_declarerOnly ?_
    | with_reducible refine keeps_hostMayMove ?_
    | with_reducible refine keeps_kittyReady ?_
    | with_reducible refine keeps_noMirror ?_
    | with_reducible refine keeps_keyAllowed ?_
    | with_reducible refine keeps_done ?_
    | with_reducible refine keeps_later ?_
    | with_reducible refine keeps_refuseWith ?_
    | with_reducible rfl
    | (simp only [kept_mk, kept_eta, kept_ite, ite_self, kept1_shadowed, kept1_eta, and_self]; done)
    | with_reducible (refine congrArg Prod.fst ((kept_foldl _ (fun s x => ?_) _ _).trans ?_))
    | split
  done
theorem keeps_hGnssAid (q : Req) (s : State) : (hGnssAid q s).keeps s := by
  unfold hGnssAid
  try dsimp only
  repeat' first
    | with_reducible exact keeps_refuse _ _ _
    | with_reducible exact keeps_writes _ _
    | with_reducible refine keeps_checked ?_
    | with_reducible refine keeps_checkedN ?_
    | with_reducible refine keeps_refuseIf ?_
    | with_reducible refine keeps_declarerOnly ?_
    | with_reducible refine keeps_hostMayMove ?_
    | with_reducible refine keeps_kittyReady ?_
    | with_reducible refine keeps_noMirror ?_
    | with_reducible refine keeps_keyAllowed ?_
    | with_reducible refine keeps_done ?_
    | with_reducible refine keeps_later ?_
    | with_reducible refine keeps_refuseWith ?_
    | with_reducible rfl
    | (simp only [kept_mk, kept_eta, kept_ite, ite_self, kept1_shadowed, kept1_eta, and_self, kept_raise, kept_updGnss]; done)
    | with_reducible (refine congrArg Prod.fst ((kept_foldl _ (fun s x => ?_) _ _).trans ?_))
    | split
  done
theorem keeps_hGnssSurvey (q : Req) (s : State) : (hGnssSurvey q s).keeps s := by
  unfold hGnssSurvey
  try dsimp only
  repeat' first
    | with_reducible exact keeps_refuse _ _ _
    | with_reducible exact keeps_writes _ _
    | with_reducible refine keeps_checked ?_
    | with_reducible refine keeps_checkedN ?_
    | with_reducible refine keeps_refuseIf ?_
    | with_reducible refine keeps_declarerOnly ?_
    | with_reducible refine keeps_hostMayMove ?_
    | with_reducible refine keeps_kittyReady ?_
    | with_reducible refine keeps_noMirror ?_
    | with_reducible refine keeps_keyAllowed ?_
    | with_reducible refine keeps_done ?_
    | with_reducible refine keeps_later ?_
    | with_reducible refine keeps_refuseWith ?_
    | with_reducible rfl
    | (simp only [kept_mk, kept_eta, kept_ite, ite_self, kept1_shadowed, kept1_eta, and_self, kept_updGnss]; done)
    | with_reducible (refine congrArg Prod.fst ((kept_foldl _ (fun s x => ?_) _ _).trans ?_))
    | split
  done
theorem keeps_hGnssStatus (q : Req) (s : State) : (hGnssStatus q s).keeps s := by
  unfold hGnssStatus
  try dsimp only
  repeat' first
    | with_reducible exact keeps_refuse _ _ _
    | with_reducible exact keeps_writes _ _
    | with_reducible refine keeps_checked ?_
    | with_reducible refine keeps_checkedN ?_
    | with_reducible refine keeps_refuseIf ?_
    | with_reducible refine keeps_declarerOnly ?_
    | with_reducible refine keeps_hostMayMove ?_
    | with_reducible refine keeps_kittyReady ?_
    | with_reducible refine keeps_noMirror ?_
    | with_reducible refine keeps_keyAllowed ?_
    | with_reducible refine keeps_done ?_
    | with_reducible refine keeps_later ?_
    | with_reducible refine keeps_refuseWith ?_
    | with_reducible rfl
    | (simp only [kept_mk, kept_eta, kept_ite, ite_self, kept1_shadowed, kept1_eta, and_self]; done)
    | with_reducible (refine congrArg Prod.fst ((kept_foldl _ (fun s x => ?_) _ _).trans ?_))
    | split
  done
theorem keeps_hGnssNavData (q : Req) (s : State) : (hGnssNavData q s).keeps s := by
  unfold hGnssNavData
  try dsimp only
  repeat' first
    | with_reducible exact keeps_refuse _ _ _
    | with_reducible exact keeps_writes _ _
    | with_reducible refine keeps_checked ?_
    | with_reducible refine keeps_checkedN ?_
    | with_reducible refine keeps_refuseIf ?_
    | with_reducible refine keeps_declarerOnly ?_
    | with_reducible refine keeps_hostMayMove ?_
    | with_reducible refine keeps_kittyReady ?_
    | with_reducible refine keeps_noMirror ?_
    | with_reducible refine keeps_keyAllowed ?_
    | with_reducible refine keeps_done ?_
    | with_reducible refine keeps_later ?_
    | with_reducible refine keeps_refuseWith ?_
    | with_reducible rfl
    | (simp only [kept_mk, kept_eta, kept_ite, ite_self, kept1_shadowed, kept1_eta, and_self]; done)
    | with_reducible (refine congrArg Prod.fst ((kept_foldl _ (fun s x => ?_) _ _).trans ?_))
    | split
  done
theorem keeps_hRootStatus (q : Req) (s : State) : (hRootStatus q s).keeps s := by
  unfold hRootStatus
  try dsimp only
  repeat' first
    | with_reducible exact keeps_refuse _ _ _
    | with_reducible exact keeps_writes _ _
    | with_reducible refine keeps_checked ?_
    | with_reducible refine keeps_checkedN ?_
    | with_reducible refine keeps_refuseIf ?_
    | with_reducible refine keeps_declarerOnly ?_
    | with_reducible refine keeps_hostMayMove ?_
    | with_reducible refine keeps_kittyReady ?_
    | with_reducible refine keeps_noMirror ?_
    | with_reducible refine keeps_keyAllowed ?_
    | with_reducible refine keeps_done ?_
    | with_reducible refine keeps_later ?_
    | with_reducible refine keeps_refuseWith ?_
    | with_reducible rfl
    | (simp only [kept_mk, kept_eta, kept_ite, ite_self, kept1_shadowed, kept1_eta, and_self]; done)
    | with_reducible (refine congrArg Prod.fst ((kept_foldl _ (fun s x => ?_) _ _).trans ?_))
    | split
  done
theorem keeps_hOutConfigure (q : Req) (s : State) : (hOutConfigure q s).keeps s := by
  unfold hOutConfigure
  try dsimp only
  repeat' first
    | with_reducible exact keeps_refuse _ _ _
    | with_reducible exact keeps_writes _ _
    | with_reducible refine keeps_checked ?_
    | with_reducible refine keeps_checkedN ?_
    | with_reducible refine keeps_refuseIf ?_
    | with_reducible refine keeps_declarerOnly ?_
    | with_reducible refine keeps_hostMayMove ?_
    | with_reducible refine keeps_kittyReady ?_
    | with_reducible refine keeps_noMirror ?_
    | with_reducible refine keeps_keyAllowed ?_
    | with_reducible refine keeps_done ?_
    | with_reducible refine keeps_later ?_
    | with_reducible refine keeps_refuseWith ?_
    | with_reducible rfl
    | (simp only [kept_mk, kept_eta, kept_ite, ite_self, kept1_shadowed, kept1_eta, and_self]; done)
    | with_reducible (refine congrArg Prod.fst ((kept_foldl _ (fun s x => ?_) _ _).trans ?_))
    | split
  done
theorem keeps_hOutEnable (q : Req) (s : State) : (hOutEnable q s).keeps s := by
  unfold hOutEnable
  try dsimp only
  repeat' first
    | with_reducible exact keeps_refuse _ _ _
    | with_reducible exact keeps_writes _ _
    | with_reducible refine keeps_checked ?_
    | with_reducible refine keeps_checkedN ?_
    | with_reducible refine keeps_refuseIf ?_
    | with_reducible refine keeps_declarerOnly ?_
    | with_reducible refine keeps_hostMayMove ?_
    | with_reducible refine keeps_kittyReady ?_
    | with_reducible refine keeps_noMirror ?_
    | with_reducible refine keeps_keyAllowed ?_
    | with_reducible refine keeps_done ?_
    | with_reducible refine keeps_later ?_
    | with_reducible refine keeps_refuseWith ?_
    | with_reducible rfl
    | (simp only [kept_mk, kept_eta, kept_ite, ite_self, kept1_shadowed, kept1_eta, and_self, kept_nextTick, kept_updOut]; done)
    | with_reducible (refine congrArg Prod.fst ((kept_foldl _ (fun s x => ?_) _ _).trans ?_))
    | split
  done
theorem keeps_hOutStatus (q : Req) (s : State) : (hOutStatus q s).keeps s := by
  unfold hOutStatus
  try dsimp only
  repeat' first
    | with_reducible exact keeps_refuse _ _ _
    | with_reducible exact keeps_writes _ _
    | with_reducible refine keeps_checked ?_
    | with_reducible refine keeps_checkedN ?_
    | with_reducible refine keeps_refuseIf ?_
    | with_reducible refine keeps_declarerOnly ?_
    | with_reducible refine keeps_hostMayMove ?_
    | with_reducible refine keeps_kittyReady ?_
    | with_reducible refine keeps_noMirror ?_
    | with_reducible refine keeps_keyAllowed ?_
    | with_reducible refine keeps_done ?_
    | with_reducible refine keeps_later ?_
    | with_reducible refine keeps_refuseWith ?_
    | with_reducible rfl
    | (simp only [kept_mk, kept_eta, kept_ite, ite_self, kept1_shadowed, kept1_eta, and_self]; done)
    | with_reducible (refine congrArg Prod.fst ((kept_foldl _ (fun s x => ?_) _ _).trans ?_))
    | split
  done
theorem keeps_hOutAlign (q : Req) (s : State) : (hOutAlign q s).keeps s := by
  unfold hOutAlign
  try dsimp only
  repeat' first
    | with_reducible exact keeps_refuse _ _ _
    | with_reducible exact keeps_writes _ _
    | with_reducible refine keeps_checked ?_
    | with_reducible refine keeps_checkedN ?_
    | with_reducible refine keeps_refuseIf ?_
    | with_reducible refine keeps_declarerOnly ?_
    | with_reducible refine keeps_hostMayMove ?_
    | with_reducible refine keeps_kittyReady ?_
    | with_reducible refine keeps_noMirror ?_
    | with_reducible refine keeps_keyAllowed ?_
    | with_reducible refine keeps_done ?_
    | with_reducible refine keeps_later ?_
    | with_reducible refine keeps_refuseWith ?_
    | with_reducible rfl
    | (simp only [kept_mk, kept_eta, kept_ite, ite_self, kept1_shadowed, kept1_eta, and_self, kept_addWait, kept_finishWait, kept_nextTick, kept_updOut]; done)
    | with_reducible (refine congrArg Prod.fst ((kept_foldl _ (fun s x => ?_) _ _).trans ?_))
    | split
  done
theorem keeps_hTodoutConfigure (q : Req) (s : State) : (hTodoutConfigure q s).keeps s := by
  unfold hTodoutConfigure
  try dsimp only
  repeat' first
    | with_reducible exact keeps_refuse _ _ _
    | with_reducible exact keeps_writes _ _
    | with_reducible refine keeps_checked ?_
    | with_reducible refine keeps_checkedN ?_
    | with_reducible refine keeps_refuseIf ?_
    | with_reducible refine keeps_declarerOnly ?_
    | with_reducible refine keeps_hostMayMove ?_
    | with_reducible refine keeps_kittyReady ?_
    | with_reducible refine keeps_noMirror ?_
    | with_reducible refine keeps_keyAllowed ?_
    | with_reducible refine keeps_done ?_
    | with_reducible refine keeps_later ?_
    | with_reducible refine keeps_refuseWith ?_
    | with_reducible rfl
    | (simp only [kept_mk, kept_eta, kept_ite, ite_self, kept1_shadowed, kept1_eta, and_self]; done)
    | with_reducible (refine congrArg Prod.fst ((kept_foldl _ (fun s x => ?_) _ _).trans ?_))
    | split
  done
theorem keeps_hTdcArm (q : Req) (s : State) : (hTdcArm q s).keeps s := by
  unfold hTdcArm
  try dsimp only
  repeat' first
    | with_reducible exact keeps_refuse _ _ _
    | with_reducible exact keeps_writes _ _
    | with_reducible refine keeps_checked ?_
    | with_reducible refine keeps_checkedN ?_
    | with_reducible refine keeps_refuseIf ?_
    | with_reducible refine keeps_declarerOnly ?_
    | with_reducible refine keeps_hostMayMove ?_
    | with_reducible refine keeps_kittyReady ?_
    | with_reducible refine keeps_noMirror ?_
    | with_reducible refine keeps_keyAllowed ?_
    | with_reducible refine keeps_done ?_
    | with_reducible refine keeps_later ?_
    | with_reducible refine keeps_refuseWith ?_
    | with_reducible rfl
    | (simp only [kept_mk, kept_eta, kept_ite, ite_self, kept1_shadowed, kept1_eta, and_self, kept_armChan, kept_disarmChan, kept_nextTick]; done)
    | with_reducible (refine congrArg Prod.fst ((kept_foldl _ (fun s x => ?_) _ _).trans ?_))
    | split
  done
theorem keeps_hTdcConfigure (q : Req) (s : State) : (hTdcConfigure q s).keeps s := by
  unfold hTdcConfigure
  try dsimp only
  repeat' first
    | with_reducible exact keeps_refuse _ _ _
    | with_reducible exact keeps_writes _ _
    | with_reducible refine keeps_checked ?_
    | with_reducible refine keeps_checkedN ?_
    | with_reducible refine keeps_refuseIf ?_
    | with_reducible refine keeps_declarerOnly ?_
    | with_reducible refine keeps_hostMayMove ?_
    | with_reducible refine keeps_kittyReady ?_
    | with_reducible refine keeps_noMirror ?_
    | with_reducible refine keeps_keyAllowed ?_
    | with_reducible refine keeps_done ?_
    | with_reducible refine keeps_later ?_
    | with_reducible refine keeps_refuseWith ?_
    | with_reducible rfl
    | (simp only [kept_mk, kept_eta, kept_ite, ite_self, kept1_shadowed, kept1_eta, and_self]; done)
    | with_reducible (refine congrArg Prod.fst ((kept_foldl _ (fun s x => ?_) _ _).trans ?_))
    | split
  done
theorem keeps_hTdcRead (q : Req) (s : State) : (hTdcRead q s).keeps s := by
  unfold hTdcRead
  try dsimp only
  repeat' first
    | with_reducible exact keeps_refuse _ _ _
    | with_reducible exact keeps_writes _ _
    | with_reducible refine keeps_checked ?_
    | with_reducible refine keeps_checkedN ?_
    | with_reducible refine keeps_refuseIf ?_
    | with_reducible refine keeps_declarerOnly ?_
    | with_reducible refine keeps_hostMayMove ?_
    | with_reducible refine keeps_kittyReady ?_
    | with_reducible refine keeps_noMirror ?_
    | with_reducible refine keeps_keyAllowed ?_
    | with_reducible refine keeps_done ?_
    | with_reducible refine keeps_later ?_
    | with_reducible refine keeps_refuseWith ?_
    | with_reducible rfl
    | (simp only [kept_mk, kept_eta, kept_ite, ite_self, kept1_shadowed, kept1_eta, and_self, kept_updChan]; done)
    | with_reducible (refine congrArg Prod.fst ((kept_foldl _ (fun s x => ?_) _ _).trans ?_))
    | split
  done
theorem keeps_hTdcStats (q : Req) (s : State) : (hTdcStats q s).keeps s := by
  unfold hTdcStats
  try dsimp only
  repeat' first
    | with_reducible exact keeps_refuse _ _ _
    | with_reducible exact keeps_writes _ _
    | with_reducible refine keeps_checked ?_
    | with_reducible refine keeps_checkedN ?_
    | with_reducible refine keeps_refuseIf ?_
    | with_reducible refine keeps_declarerOnly ?_
    | with_reducible refine keeps_hostMayMove ?_
    | with_reducible refine keeps_kittyReady ?_
    | with_reducible refine keeps_noMirror ?_
    | with_reducible refine keeps_keyAllowed ?_
    | with_reducible refine keeps_done ?_
    | with_reducible refine keeps_later ?_
    | with_reducible refine keeps_refuseWith ?_
    | with_reducible rfl
    | (simp only [kept_mk, kept_eta, kept_ite, ite_self, kept1_shadowed, kept1_eta, and_self]; done)
    | with_reducible (refine congrArg Prod.fst ((kept_foldl _ (fun s x => ?_) _ _).trans ?_))
    | split
  done
theorem keeps_hPortConfigure (q : Req) (s : State) : (hPortConfigure q s).keeps s := by
  unfold hPortConfigure
  try dsimp only
  repeat' first
    | with_reducible exact keeps_refuse _ _ _
    | with_reducible exact keeps_writes _ _
    | with_reducible refine keeps_checked ?_
    | with_reducible refine keeps_checkedN ?_
    | with_reducible refine keeps_refuseIf ?_
    | with_reducible refine keeps_declarerOnly ?_
    | with_reducible refine keeps_hostMayMove ?_
    | with_reducible refine keeps_kittyReady ?_
    | with_reducible refine keeps_noMirror ?_
    | with_reducible refine keeps_keyAllowed ?_
    | with_reducible refine keeps_done ?_
    | with_reducible refine keeps_later ?_
    | with_reducible refine keeps_refuseWith ?_
    | with_reducible rfl
    | (simp only [kept_mk, kept_eta, kept_ite, ite_self, kept1_shadowed, kept1_eta, and_self]; done)
    | with_reducible (refine congrArg Prod.fst ((kept_foldl _ (fun s x => ?_) _ _).trans ?_))
    | split
  done
theorem keeps_hPortCalibrate (q : Req) (s : State) : (hPortCalibrate q s).keeps s := by
  unfold hPortCalibrate
  try dsimp only
  repeat' first
    | with_reducible exact keeps_refuse _ _ _
    | with_reducible exact keeps_writes _ _
    | with_reducible refine keeps_checked ?_
    | with_reducible refine keeps_checkedN ?_
    | with_reducible refine keeps_refuseIf ?_
    | with_reducible refine keeps_declarerOnly ?_
    | with_reducible refine keeps_hostMayMove ?_
    | with_reducible refine keeps_kittyReady ?_
    | with_reducible refine keeps_noMirror ?_
    | with_reducible refine keeps_keyAllowed ?_
    | with_reducible refine keeps_done ?_
    | with_reducible refine keeps_later ?_
    | with_reducible refine keeps_refuseWith ?_
    | with_reducible rfl
    | (simp only [kept_mk, kept_eta, kept_ite, ite_self, kept1_shadowed, kept1_eta, and_self, kept_addWait, kept_toCalibrating]; done)
    | with_reducible (refine congrArg Prod.fst ((kept_foldl _ (fun s x => ?_) _ _).trans ?_))
    | split
  done
theorem keeps_hPortFlowControl (q : Req) (s : State) : (hPortFlowControl q s).keeps s := by
  unfold hPortFlowControl
  try dsimp only
  repeat' first
    | with_reducible exact keeps_refuse _ _ _
    | with_reducible exact keeps_writes _ _
    | with_reducible refine keeps_checked ?_
    | with_reducible refine keeps_checkedN ?_
    | with_reducible refine keeps_refuseIf ?_
    | with_reducible refine keeps_declarerOnly ?_
    | with_reducible refine keeps_hostMayMove ?_
    | with_reducible refine keeps_kittyReady ?_
    | with_reducible refine keeps_noMirror ?_
    | with_reducible refine keeps_keyAllowed ?_
    | with_reducible refine keeps_done ?_
    | with_reducible refine keeps_later ?_
    | with_reducible refine keeps_refuseWith ?_
    | with_reducible rfl
    | (simp only [kept_mk, kept_eta, kept_ite, ite_self, kept1_shadowed, kept1_eta, and_self]; done)
    | with_reducible (refine congrArg Prod.fst ((kept_foldl _ (fun s x => ?_) _ _).trans ?_))
    | split
  done
theorem keeps_hPortSynce (q : Req) (s : State) : (hPortSynce q s).keeps s := by
  unfold hPortSynce
  try dsimp only
  repeat' first
    | with_reducible exact keeps_refuse _ _ _
    | with_reducible exact keeps_writes _ _
    | with_reducible refine keeps_checked ?_
    | with_reducible refine keeps_checkedN ?_
    | with_reducible refine keeps_refuseIf ?_
    | with_reducible refine keeps_declarerOnly ?_
    | with_reducible refine keeps_hostMayMove ?_
    | with_reducible refine keeps_kittyReady ?_
    | with_reducible refine keeps_noMirror ?_
    | with_reducible refine keeps_keyAllowed ?_
    | with_reducible refine keeps_done ?_
    | with_reducible refine keeps_later ?_
    | with_reducible refine keeps_refuseWith ?_
    | with_reducible rfl
    | (simp only [kept_mk, kept_eta, kept_ite, ite_self, kept1_shadowed, kept1_eta, and_self]; done)
    | with_reducible (refine congrArg Prod.fst ((kept_foldl _ (fun s x => ?_) _ _).trans ?_))
    | split
  done
theorem keeps_hPortStatus (q : Req) (s : State) : (hPortStatus q s).keeps s := by
  unfold hPortStatus
  try dsimp only
  repeat' first
    | with_reducible exact keeps_refuse _ _ _
    | with_reducible exact keeps_writes _ _
    | with_reducible refine keeps_checked ?_
    | with_reducible refine keeps_checkedN ?_
    | with_reducible refine keeps_refuseIf ?_
    | with_reducible refine keeps_declarerOnly ?_
    | with_reducible refine keeps_hostMayMove ?_
    | with_reducible refine keeps_kittyReady ?_
    | with_reducible refine keeps_noMirror ?_
    | with_reducible refine keeps_keyAllowed ?_
    | with_reducible refine keeps_done ?_
    | with_reducible refine keeps_later ?_
    | with_reducible refine keeps_refuseWith ?_
    | with_reducible rfl
    | (simp only [kept_mk, kept_eta, kept_ite, ite_self, kept1_shadowed, kept1_eta, and_self, kept_clearPort]; done)
    | with_reducible (refine congrArg Prod.fst ((kept_foldl _ (fun s x => ?_) _ _).trans ?_))
    | split
  done
theorem keeps_hSvcConfigure (q : Req) (s : State) : (hSvcConfigure q s).keeps s := by
  unfold hSvcConfigure
  try dsimp only
  repeat' first
    | with_reducible exact keeps_refuse _ _ _
    | with_reducible exact keeps_writes _ _
    | with_reducible refine keeps_checked ?_
    | with_reducible refine keeps_checkedN ?_
    | with_reducible refine keeps_refuseIf ?_
    | with_reducible refine keeps_declarerOnly ?_
    | with_reducible refine keeps_hostMayMove ?_
    | with_reducible refine keeps_kittyReady ?_
    | with_reducible refine keeps_noMirror ?_
    | with_reducible refine keeps_keyAllowed ?_
    | with_reducible refine keeps_done ?_
    | with_reducible refine keeps_later ?_
    | with_reducible refine keeps_refuseWith ?_
    | with_reducible rfl
    | (simp only [kept_mk, kept_eta, kept_ite, ite_self, kept1_shadowed, kept1_eta, and_self]; done)
    | with_reducible (refine congrArg Prod.fst ((kept_foldl _ (fun s x => ?_) _ _).trans ?_))
    | split
  done
theorem keeps_hSvcAdmission (q : Req) (s : State) : (hSvcAdmission q s).keeps s := by
  unfold hSvcAdmission
  try dsimp only
  repeat' first
    | with_reducible exact keeps_refuse _ _ _
    | with_reducible exact keeps_writes _ _
    | with_reducible refine keeps_checked ?_
    | with_reducible refine keeps_checkedN ?_
    | with_reducible refine keeps_refuseIf ?_
    | with_reducible refine keeps_declarerOnly ?_
    | with_reducible refine keeps_hostMayMove ?_
    | with_reducible refine keeps_kittyReady ?_
    | with_reducible refine keeps_noMirror ?_
    | with_reducible refine keeps_keyAllowed ?_
    | with_reducible refine keeps_done ?_
    | with_reducible refine keeps_later ?_
    | with_reducible refine keeps_refuseWith ?_
    | with_reducible rfl
    | (simp only [kept_mk, kept_eta, kept_ite, ite_self, kept1_shadowed, kept1_eta, and_self]; done)
    | with_reducible (refine congrArg Prod.fst ((kept_foldl _ (fun s x => ?_) _ _).trans ?_))
    | split
  done
theorem keeps_hSvcStatus (q : Req) (s : State) : (hSvcStatus q s).keeps s := by
  unfold hSvcStatus
  try dsimp only
  repeat' first
    | with_reducible exact keeps_refuse _ _ _
    | with_reducible exact keeps_writes _ _
    | with_reducible refine keeps_checked ?_
    | with_reducible refine keeps_checkedN ?_
    | with_reducible refine keeps_refuseIf ?_
    | with_reducible refine keeps_declarerOnly ?_
    | with_reducible refine keeps_hostMayMove ?_
    | with_reducible refine keeps_kittyReady ?_
    | with_reducible refine keeps_noMirror ?_
    | with_reducible refine keeps_keyAllowed ?_
    | with_reducible refine keeps_done ?_
    | with_reducible refine keeps_later ?_
    | with_reducible refine keeps_refuseWith ?_
    | with_reducible rfl
    | (simp only [kept_mk, kept_eta, kept_ite, ite_self, kept1_shadowed, kept1_eta, and_self]; done)
    | with_reducible (refine congrArg Prod.fst ((kept_foldl _ (fun s x => ?_) _ _).trans ?_))
    | split
  done
theorem keeps_hPtpCreate (q : Req) (s : State) : (hPtpCreate q s).keeps s := by
  unfold hPtpCreate
  try dsimp only
  repeat' first
    | with_reducible exact keeps_refuse _ _ _
    | with_reducible exact keeps_writes _ _
    | with_reducible refine keeps_checked ?_
    | with_reducible refine keeps_checkedN ?_
    | with_reducible refine keeps_refuseIf ?_
    | with_reducible refine keeps_declarerOnly ?_
    | with_reducible refine keeps_hostMayMove ?_
    | with_reducible refine keeps_kittyReady ?_
    | with_reducible refine keeps_noMirror ?_
    | with_reducible refine keeps_keyAllowed ?_
    | with_reducible refine keeps_done ?_
    | with_reducible refine keeps_later ?_
    | with_reducible refine keeps_refuseWith ?_
    | with_reducible rfl
    | (simp only [kept_mk, kept_eta, kept_ite, ite_self, kept1_shadowed, kept1_eta, and_self]; done)
    | with_reducible (refine congrArg Prod.fst ((kept_foldl _ (fun s x => ?_) _ _).trans ?_))
    | split
  done
theorem keeps_hPtpConfigure (q : Req) (s : State) : (hPtpConfigure q s).keeps s := by
  unfold hPtpConfigure
  try dsimp only
  repeat' first
    | with_reducible exact keeps_refuse _ _ _
    | with_reducible exact keeps_writes _ _
    | with_reducible refine keeps_checked ?_
    | with_reducible refine keeps_checkedN ?_
    | with_reducible refine keeps_refuseIf ?_
    | with_reducible refine keeps_declarerOnly ?_
    | with_reducible refine keeps_hostMayMove ?_
    | with_reducible refine keeps_kittyReady ?_
    | with_reducible refine keeps_noMirror ?_
    | with_reducible refine keeps_keyAllowed ?_
    | with_reducible refine keeps_done ?_
    | with_reducible refine keeps_later ?_
    | with_reducible refine keeps_refuseWith ?_
    | with_reducible rfl
    | (simp only [kept_mk, kept_eta, kept_ite, ite_self, kept1_shadowed, kept1_eta, and_self]; done)
    | with_reducible (refine congrArg Prod.fst ((kept_foldl _ (fun s x => ?_) _ _).trans ?_))
    | split
  done
theorem keeps_hPtpDelete (q : Req) (s : State) : (hPtpDelete q s).keeps s := by
  unfold hPtpDelete
  try dsimp only
  repeat' first
    | with_reducible exact keeps_refuse _ _ _
    | with_reducible exact keeps_writes _ _
    | with_reducible refine keeps_checked ?_
    | with_reducible refine keeps_checkedN ?_
    | with_reducible refine keeps_refuseIf ?_
    | with_reducible refine keeps_declarerOnly ?_
    | with_reducible refine keeps_hostMayMove ?_
    | with_reducible refine keeps_kittyReady ?_
    | with_reducible refine keeps_noMirror ?_
    | with_reducible refine keeps_keyAllowed ?_
    | with_reducible refine keeps_done ?_
    | with_reducible refine keeps_later ?_
    | with_reducible refine keeps_refuseWith ?_
    | with_reducible rfl
    | (simp only [kept_mk, kept_eta, kept_ite, ite_self, kept1_shadowed, kept1_eta, and_self]; done)
    | with_reducible (refine congrArg Prod.fst ((kept_foldl _ (fun s x => ?_) _ _).trans ?_))
    | split
  done
theorem keeps_hPtpBind (q : Req) (s : State) : (hPtpBind q s).keeps s := by
  unfold hPtpBind
  try dsimp only
  repeat' first
    | with_reducible exact keeps_refuse _ _ _
    | with_reducible exact keeps_writes _ _
    | with_reducible refine keeps_checked ?_
    | with_reducible refine keeps_checkedN ?_
    | with_reducible refine keeps_refuseIf ?_
    | with_reducible refine keeps_declarerOnly ?_
    | with_reducible refine keeps_hostMayMove ?_
    | with_reducible refine keeps_kittyReady ?_
    | with_reducible refine keeps_noMirror ?_
    | with_reducible refine keeps_keyAllowed ?_
    | with_reducible refine keeps_done ?_
    | with_reducible refine keeps_later ?_
    | with_reducible refine keeps_refuseWith ?_
    | with_reducible rfl
    | (simp only [kept_mk, kept_eta, kept_ite, ite_self, kept1_shadowed, kept1_eta, and_self]; done)
    | with_reducible (refine congrArg Prod.fst ((kept_foldl _ (fun s x => ?_) _ _).trans ?_))
    | split
  done
theorem keeps_hPtpStatus (q : Req) (s : State) : (hPtpStatus q s).keeps s := by
  unfold hPtpStatus
  try dsimp only
  repeat' first
    | with_reducible exact keeps_refuse _ _ _
    | with_reducible exact keeps_writes _ _
    | with_reducible refine keeps_checked ?_
    | with_reducible refine keeps_checkedN ?_
    | with_reducible refine keeps_refuseIf ?_
    | with_reducible refine keeps_declarerOnly ?_
    | with_reducible refine keeps_hostMayMove ?_
    | with_reducible refine keeps_kittyReady ?_
    | with_reducible refine keeps_noMirror ?_
    | with_reducible refine keeps_keyAllowed ?_
    | with_reducible refine keeps_done ?_
    | with_reducible refine keeps_later ?_
    | with_reducible refine keeps_refuseWith ?_
    | with_reducible rfl
    | (simp only [kept_mk, kept_eta, kept_ite, ite_self, kept1_shadowed, kept1_eta, and_self]; done)
    | with_reducible (refine congrArg Prod.fst ((kept_foldl _ (fun s x => ?_) _ _).trans ?_))
    | split
  done
theorem keeps_hGrantQuery (q : Req) (s : State) : (hGrantQuery q s).keeps s := by
  unfold hGrantQuery
  try dsimp only
  repeat' first
    | with_reducible exact keeps_refuse _ _ _
    | with_reducible exact keeps_writes _ _
    | with_reducible refine keeps_checked ?_
    | with_reducible refine keeps_checkedN ?_
    | with_reducible refine keeps_refuseIf ?_
    | with_reducible refine keeps_declarerOnly ?_
    | with_reducible refine keeps_hostMayMove ?_
    | with_reducible refine keeps_kittyReady ?_
    | with_reducible refine keeps_noMirror ?_
    | with_reducible refine keeps_keyAllowed ?_
    | with_reducible refine keeps_done ?_
    | with_reducible refine keeps_later ?_
    | with_reducible refine keeps_refuseWith ?_
    | with_reducible rfl
    | (simp only [kept_mk, kept_eta, kept_ite, ite_self, kept1_shadowed, kept1_eta, and_self]; done)
    | with_reducible (refine congrArg Prod.fst ((kept_foldl _ (fun s x => ?_) _ _).trans ?_))
    | split
  done
theorem keeps_hGrantRevoke (q : Req) (s : State) : (hGrantRevoke q s).keeps s := by
  unfold hGrantRevoke
  try dsimp only
  repeat' first
    | with_reducible exact keeps_refuse _ _ _
    | with_reducible exact keeps_writes _ _
    | with_reducible refine keeps_checked ?_
    | with_reducible refine keeps_checkedN ?_
    | with_reducible refine keeps_refuseIf ?_
    | with_reducible refine keeps_declarerOnly ?_
    | with_reducible refine keeps_hostMayMove ?_
    | with_reducible refine keeps_kittyReady ?_
    | with_reducible refine keeps_noMirror ?_
    | with_reducible refine keeps_keyAllowed ?_
    | with_reducible refine keeps_done ?_
    | with_reducible refine keeps_later ?_
    | with_reducible refine keeps_refuseWith ?_
    | with_reducible rfl
    | (simp only [kept_mk, kept_eta, kept_ite, ite_self, kept1_shadowed, kept1_eta, and_self, kept_revoke]; done)
    | with_reducible (refine congrArg Prod.fst ((kept_foldl _ (fun s x => ?_) _ _).trans ?_))
    | split
  done
theorem keeps_hSaLoad (q : Req) (s : State) : (hSaLoad q s).keeps s := by
  unfold hSaLoad
  try dsimp only
  repeat' first
    | with_reducible exact keeps_refuse _ _ _
    | with_reducible exact keeps_writes _ _
    | with_reducible refine keeps_checked ?_
    | with_reducible refine keeps_checkedN ?_
    | with_reducible refine keeps_refuseIf ?_
    | with_reducible refine keeps_declarerOnly ?_
    | with_reducible refine keeps_hostMayMove ?_
    | with_reducible refine keeps_kittyReady ?_
    | with_reducible refine keeps_noMirror ?_
    | with_reducible refine keeps_keyAllowed ?_
    | with_reducible refine keeps_done ?_
    | with_reducible refine keeps_later ?_
    | with_reducible refine keeps_refuseWith ?_
    | with_reducible rfl
    | (simp only [kept_mk, kept_eta, kept_ite, ite_self, kept1_shadowed, kept1_eta, and_self]; done)
    | with_reducible (refine congrArg Prod.fst ((kept_foldl _ (fun s x => ?_) _ _).trans ?_))
    | split
  done
theorem keeps_hNtpConfigure (q : Req) (s : State) : (hNtpConfigure q s).keeps s := by
  unfold hNtpConfigure
  try dsimp only
  repeat' first
    | with_reducible exact keeps_refuse _ _ _
    | with_reducible exact keeps_writes _ _
    | with_reducible refine keeps_checked ?_
    | with_reducible refine keeps_checkedN ?_
    | with_reducible refine keeps_refuseIf ?_
    | with_reducible refine keeps_declarerOnly ?_
    | with_reducible refine keeps_hostMayMove ?_
    | with_reducible refine keeps_kittyReady ?_
    | with_reducible refine keeps_noMirror ?_
    | with_reducible refine keeps_keyAllowed ?_
    | with_reducible refine keeps_done ?_
    | with_reducible refine keeps_later ?_
    | with_reducible refine keeps_refuseWith ?_
    | with_reducible rfl
    | (simp only [kept_mk, kept_eta, kept_ite, ite_self, kept1_shadowed, kept1_eta, and_self]; done)
    | with_reducible (refine congrArg Prod.fst ((kept_foldl _ (fun s x => ?_) _ _).trans ?_))
    | split
  done
theorem keeps_hNtpRatePolicy (q : Req) (s : State) : (hNtpRatePolicy q s).keeps s := by
  unfold hNtpRatePolicy
  try dsimp only
  repeat' first
    | with_reducible exact keeps_refuse _ _ _
    | with_reducible exact keeps_writes _ _
    | with_reducible refine keeps_checked ?_
    | with_reducible refine keeps_checkedN ?_
    | with_reducible refine keeps_refuseIf ?_
    | with_reducible refine keeps_declarerOnly ?_
    | with_reducible refine keeps_hostMayMove ?_
    | with_reducible refine keeps_kittyReady ?_
    | with_reducible refine keeps_noMirror ?_
    | with_reducible refine keeps_keyAllowed ?_
    | with_reducible refine keeps_done ?_
    | with_reducible refine keeps_later ?_
    | with_reducible refine keeps_refuseWith ?_
    | with_reducible rfl
    | (simp only [kept_mk, kept_eta, kept_ite, ite_self, kept1_shadowed, kept1_eta, and_self]; done)
    | with_reducible (refine congrArg Prod.fst ((kept_foldl _ (fun s x => ?_) _ _).trans ?_))
    | split
  done
theorem keeps_hNtpStatus (q : Req) (s : State) : (hNtpStatus q s).keeps s := by
  unfold hNtpStatus
  try dsimp only
  repeat' first
    | with_reducible exact keeps_refuse _ _ _
    | with_reducible exact keeps_writes _ _
    | with_reducible refine keeps_checked ?_
    | with_reducible refine keeps_checkedN ?_
    | with_reducible refine keeps_refuseIf ?_
    | with_reducible refine keeps_declarerOnly ?_
    | with_reducible refine keeps_hostMayMove ?_
    | with_reducible refine keeps_kittyReady ?_
    | with_reducible refine keeps_noMirror ?_
    | with_reducible refine keeps_keyAllowed ?_
    | with_reducible refine keeps_done ?_
    | with_reducible refine keeps_later ?_
    | with_reducible refine keeps_refuseWith ?_
    | with_reducible rfl
    | (simp only [kept_mk, kept_eta, kept_ite, ite_self, kept1_shadowed, kept1_eta, and_self]; done)
    | with_reducible (refine congrArg Prod.fst ((kept_foldl _ (fun s x => ?_) _ _).trans ?_))
    | split
  done
theorem keeps_hNtsKeyLoad (q : Req) (s : State) : (hNtsKeyLoad q s).keeps s := by
  unfold hNtsKeyLoad
  try dsimp only
  repeat' first
    | with_reducible exact keeps_refuse _ _ _
    | with_reducible exact keeps_writes _ _
    | with_reducible refine keeps_checked ?_
    | with_reducible refine keeps_checkedN ?_
    | with_reducible refine keeps_refuseIf ?_
    | with_reducible refine keeps_declarerOnly ?_
    | with_reducible refine keeps_hostMayMove ?_
    | with_reducible refine keeps_kittyReady ?_
    | with_reducible refine keeps_noMirror ?_
    | with_reducible refine keeps_keyAllowed ?_
    | with_reducible refine keeps_done ?_
    | with_reducible refine keeps_later ?_
    | with_reducible refine keeps_refuseWith ?_
    | with_reducible rfl
    | (simp only [kept_mk, kept_eta, kept_ite, ite_self, kept1_shadowed, kept1_eta, and_self]; done)
    | with_reducible (refine congrArg Prod.fst ((kept_foldl _ (fun s x => ?_) _ _).trans ?_))
    | split
  done
theorem keeps_hNtsKeyRotate (q : Req) (s : State) : (hNtsKeyRotate q s).keeps s := by
  unfold hNtsKeyRotate
  try dsimp only
  repeat' first
    | with_reducible exact keeps_refuse _ _ _
    | with_reducible exact keeps_writes _ _
    | with_reducible refine keeps_checked ?_
    | with_reducible refine keeps_checkedN ?_
    | with_reducible refine keeps_refuseIf ?_
    | with_reducible refine keeps_declarerOnly ?_
    | with_reducible refine keeps_hostMayMove ?_
    | with_reducible refine keeps_kittyReady ?_
    | with_reducible refine keeps_noMirror ?_
    | with_reducible refine keeps_keyAllowed ?_
    | with_reducible refine keeps_done ?_
    | with_reducible refine keeps_later ?_
    | with_reducible refine keeps_refuseWith ?_
    | with_reducible rfl
    | (simp only [kept_mk, kept_eta, kept_ite, ite_self, kept1_shadowed, kept1_eta, and_self, kept_nextTick, kept_rotate, kept_updNtpRun]; done)
    | with_reducible (refine congrArg Prod.fst ((kept_foldl _ (fun s x => ?_) _ _).trans ?_))
    | split
  done
theorem kept_mintCookies (n i : Nat) (a b : Bytes) (s : State) : kept (mintCookies n i a b s).2 = kept s := by
  induction n generalizing s with
  | zero => rfl
  | succ n ih => exact (ih _).trans (kept_mintCookie i a b s)
theorem keeps_hNtsCookieMint (q : Req) (s : State) : (hNtsCookieMint q s).keeps s := by
  unfold hNtsCookieMint
  exact keeps_checked (keeps_refuseIf (keeps_done (congrArg Prod.fst ((kept_mintCookies _ _ _ _ _).trans (kept_nextTick s)))))

theorem keeps_hRcptConfigure (q : Req) (s : State) : (hRcptConfigure q s).keeps s := by
  unfold hRcptConfigure
  try dsimp only
  repeat' first
    | with_reducible exact keeps_refuse _ _ _
    | with_reducible exact keeps_writes _ _
    | with_reducible refine keeps_checked ?_
    | with_reducible refine keeps_checkedN ?_
    | with_reducible refine keeps_refuseIf ?_
    | with_reducible refine keeps_declarerOnly ?_
    | with_reducible refine keeps_hostMayMove ?_
    | with_reducible refine keeps_kittyReady ?_
    | with_reducible refine keeps_noMirror ?_
    | with_reducible refine keeps_keyAllowed ?_
    | with_reducible refine keeps_done ?_
    | with_reducible refine keeps_later ?_
    | with_reducible refine keeps_refuseWith ?_
    | with_reducible rfl
    | (simp only [kept_mk, kept_eta, kept_ite, ite_self, kept1_shadowed, kept1_eta, and_self]; done)
    | with_reducible (refine congrArg Prod.fst ((kept_foldl _ (fun s x => ?_) _ _).trans ?_))
    | split
  done
theorem keeps_hRcptStatus (q : Req) (s : State) : (hRcptStatus q s).keeps s := by
  unfold hRcptStatus
  try dsimp only
  repeat' first
    | with_reducible exact keeps_refuse _ _ _
    | with_reducible exact keeps_writes _ _
    | with_reducible refine keeps_checked ?_
    | with_reducible refine keeps_checkedN ?_
    | with_reducible refine keeps_refuseIf ?_
    | with_reducible refine keeps_declarerOnly ?_
    | with_reducible refine keeps_hostMayMove ?_
    | with_reducible refine keeps_kittyReady ?_
    | with_reducible refine keeps_noMirror ?_
    | with_reducible refine keeps_keyAllowed ?_
    | with_reducible refine keeps_done ?_
    | with_reducible refine keeps_later ?_
    | with_reducible refine keeps_refuseWith ?_
    | with_reducible rfl
    | (simp only [kept_mk, kept_eta, kept_ite, ite_self, kept1_shadowed, kept1_eta, and_self]; done)
    | with_reducible (refine congrArg Prod.fst ((kept_foldl _ (fun s x => ?_) _ _).trans ?_))
    | split
  done
theorem keeps_hBoundRead (q : Req) (s : State) : (hBoundRead q s).keeps s := by
  unfold hBoundRead
  try dsimp only
  repeat' first
    | with_reducible exact keeps_refuse _ _ _
    | with_reducible exact keeps_writes _ _
    | with_reducible refine keeps_checked ?_
    | with_reducible refine keeps_checkedN ?_
    | with_reducible refine keeps_refuseIf ?_
    | with_reducible refine keeps_declarerOnly ?_
    | with_reducible refine keeps_hostMayMove ?_
    | with_reducible refine keeps_kittyReady ?_
    | with_reducible refine keeps_noMirror ?_
    | with_reducible refine keeps_keyAllowed ?_
    | with_reducible refine keeps_done ?_
    | with_reducible refine keeps_later ?_
    | with_reducible refine keeps_refuseWith ?_
    | with_reducible rfl
    | (simp only [kept_mk, kept_eta, kept_ite, ite_self, kept1_shadowed, kept1_eta, and_self]; done)
    | with_reducible (refine congrArg Prod.fst ((kept_foldl _ (fun s x => ?_) _ _).trans ?_))
    | split
  done
theorem keeps_hBoundPolicy (q : Req) (s : State) : (hBoundPolicy q s).keeps s := by
  unfold hBoundPolicy
  try dsimp only
  repeat' first
    | with_reducible exact keeps_refuse _ _ _
    | with_reducible exact keeps_writes _ _
    | with_reducible refine keeps_checked ?_
    | with_reducible refine keeps_checkedN ?_
    | with_reducible refine keeps_refuseIf ?_
    | with_reducible refine keeps_declarerOnly ?_
    | with_reducible refine keeps_hostMayMove ?_
    | with_reducible refine keeps_kittyReady ?_
    | with_reducible refine keeps_noMirror ?_
    | with_reducible refine keeps_keyAllowed ?_
    | with_reducible refine keeps_done ?_
    | with_reducible refine keeps_later ?_
    | with_reducible refine keeps_refuseWith ?_
    | with_reducible rfl
    | (simp only [kept_mk, kept_eta, kept_ite, ite_self, kept1_shadowed, kept1_eta, and_self]; done)
    | with_reducible (refine congrArg Prod.fst ((kept_foldl _ (fun s x => ?_) _ _).trans ?_))
    | split
  done
theorem keeps_hPairConfigure (q : Req) (s : State) : (hPairConfigure q s).keeps s := by
  unfold hPairConfigure
  try dsimp only
  repeat' first
    | with_reducible exact keeps_refuse _ _ _
    | with_reducible exact keeps_writes _ _
    | with_reducible refine keeps_checked ?_
    | with_reducible refine keeps_checkedN ?_
    | with_reducible refine keeps_refuseIf ?_
    | with_reducible refine keeps_declarerOnly ?_
    | with_reducible refine keeps_hostMayMove ?_
    | with_reducible refine keeps_kittyReady ?_
    | with_reducible refine keeps_noMirror ?_
    | with_reducible refine keeps_keyAllowed ?_
    | with_reducible refine keeps_done ?_
    | with_reducible refine keeps_later ?_
    | with_reducible refine keeps_refuseWith ?_
    | with_reducible rfl
    | (simp only [kept_mk, kept_eta, kept_ite, ite_self, kept1_shadowed, kept1_eta, and_self]; done)
    | with_reducible (refine congrArg Prod.fst ((kept_foldl _ (fun s x => ?_) _ _).trans ?_))
    | split
  done
theorem keeps_hPairStatus (q : Req) (s : State) : (hPairStatus q s).keeps s := by
  unfold hPairStatus
  try dsimp only
  repeat' first
    | with_reducible exact keeps_refuse _ _ _
    | with_reducible exact keeps_writes _ _
    | with_reducible refine keeps_checked ?_
    | with_reducible refine keeps_checkedN ?_
    | with_reducible refine keeps_refuseIf ?_
    | with_reducible refine keeps_declarerOnly ?_
    | with_reducible refine keeps_hostMayMove ?_
    | with_reducible refine keeps_kittyReady ?_
    | with_reducible refine keeps_noMirror ?_
    | with_reducible refine keeps_keyAllowed ?_
    | with_reducible refine keeps_done ?_
    | with_reducible refine keeps_later ?_
    | with_reducible refine keeps_refuseWith ?_
    | with_reducible rfl
    | (simp only [kept_mk, kept_eta, kept_ite, ite_self, kept1_shadowed, kept1_eta, and_self]; done)
    | with_reducible (refine congrArg Prod.fst ((kept_foldl _ (fun s x => ?_) _ _).trans ?_))
    | split
  done
theorem keeps_hPairClaimSet (q : Req) (s : State) : (hPairClaimSet q s).keeps s := by
  unfold hPairClaimSet
  try dsimp only
  repeat' first
    | with_reducible exact keeps_refuse _ _ _
    | with_reducible exact keeps_writes _ _
    | with_reducible refine keeps_checked ?_
    | with_reducible refine keeps_checkedN ?_
    | with_reducible refine keeps_refuseIf ?_
    | with_reducible refine keeps_declarerOnly ?_
    | with_reducible refine keeps_hostMayMove ?_
    | with_reducible refine keeps_kittyReady ?_
    | with_reducible refine keeps_noMirror ?_
    | with_reducible refine keeps_keyAllowed ?_
    | with_reducible refine keeps_done ?_
    | with_reducible refine keeps_later ?_
    | with_reducible refine keeps_refuseWith ?_
    | with_reducible rfl
    | (simp only [kept_mk, kept_eta, kept_ite, ite_self, kept1_shadowed, kept1_eta, and_self, kept_addWait, kept_updPair]; done)
    | with_reducible (refine congrArg Prod.fst ((kept_foldl _ (fun s x => ?_) _ _).trans ?_))
    | split
  done
theorem keeps_hPairSwitch (q : Req) (s : State) : (hPairSwitch q s).keeps s := by
  unfold hPairSwitch
  try dsimp only
  repeat' first
    | with_reducible exact keeps_refuse _ _ _
    | with_reducible exact keeps_writes _ _
    | with_reducible refine keeps_checked ?_
    | with_reducible refine keeps_checkedN ?_
    | with_reducible refine keeps_refuseIf ?_
    | with_reducible refine keeps_declarerOnly ?_
    | with_reducible refine keeps_hostMayMove ?_
    | with_reducible refine keeps_kittyReady ?_
    | with_reducible refine keeps_noMirror ?_
    | with_reducible refine keeps_keyAllowed ?_
    | with_reducible refine keeps_done ?_
    | with_reducible refine keeps_later ?_
    | with_reducible refine keeps_refuseWith ?_
    | with_reducible rfl
    | (simp only [kept_mk, kept_eta, kept_ite, ite_self, kept1_shadowed, kept1_eta, and_self, kept_addWait, kept_emit, kept_updPair]; done)
    | with_reducible (refine congrArg Prod.fst ((kept_foldl _ (fun s x => ?_) _ _).trans ?_))
    | split
  done
theorem keeps_hPairResync (q : Req) (s : State) : (hPairResync q s).keeps s := by
  unfold hPairResync
  try dsimp only
  repeat' first
    | with_reducible exact keeps_refuse _ _ _
    | with_reducible exact keeps_writes _ _
    | with_reducible refine keeps_checked ?_
    | with_reducible refine keeps_checkedN ?_
    | with_reducible refine keeps_refuseIf ?_
    | with_reducible refine keeps_declarerOnly ?_
    | with_reducible refine keeps_hostMayMove ?_
    | with_reducible refine keeps_kittyReady ?_
    | with_reducible refine keeps_noMirror ?_
    | with_reducible refine keeps_keyAllowed ?_
    | with_reducible refine keeps_done ?_
    | with_reducible refine keeps_later ?_
    | with_reducible refine keeps_refuseWith ?_
    | with_reducible rfl
    | (simp only [kept_mk, kept_eta, kept_ite, ite_self, kept1_shadowed, kept1_eta, and_self, kept_emit, kept_enterJoining, kept_nextTick, kept_updPair]; done)
    | with_reducible (refine congrArg Prod.fst ((kept_foldl _ (fun s x => ?_) _ _).trans ?_))
    | split
  done
theorem keeps_hPairSelftestReport (q : Req) (s : State) : (hPairSelftestReport q s).keeps s := by
  unfold hPairSelftestReport
  try dsimp only
  repeat' first
    | with_reducible exact keeps_refuse _ _ _
    | with_reducible exact keeps_writes _ _
    | with_reducible refine keeps_checked ?_
    | with_reducible refine keeps_checkedN ?_
    | with_reducible refine keeps_refuseIf ?_
    | with_reducible refine keeps_declarerOnly ?_
    | with_reducible refine keeps_hostMayMove ?_
    | with_reducible refine keeps_kittyReady ?_
    | with_reducible refine keeps_noMirror ?_
    | with_reducible refine keeps_keyAllowed ?_
    | with_reducible refine keeps_done ?_
    | with_reducible refine keeps_later ?_
    | with_reducible refine keeps_refuseWith ?_
    | with_reducible rfl
    | (simp only [kept_mk, kept_eta, kept_ite, ite_self, kept1_shadowed, kept1_eta, and_self]; done)
    | with_reducible (refine congrArg Prod.fst ((kept_foldl _ (fun s x => ?_) _ _).trans ?_))
    | split
  done
theorem keeps_hKeyWrite (q : Req) (s : State) : (hKeyWrite q s).keeps s := by
  unfold hKeyWrite
  try dsimp only
  repeat' first
    | with_reducible exact keeps_refuse _ _ _
    | with_reducible exact keeps_writes _ _
    | with_reducible refine keeps_checked ?_
    | with_reducible refine keeps_checkedN ?_
    | with_reducible refine keeps_refuseIf ?_
    | with_reducible refine keeps_declarerOnly ?_
    | with_reducible refine keeps_hostMayMove ?_
    | with_reducible refine keeps_kittyReady ?_
    | with_reducible refine keeps_noMirror ?_
    | with_reducible refine keeps_keyAllowed ?_
    | with_reducible refine keeps_done ?_
    | with_reducible refine keeps_later ?_
    | with_reducible refine keeps_refuseWith ?_
    | with_reducible rfl
    | (simp only [kept_mk, kept_eta, kept_ite, ite_self, kept1_shadowed, kept1_eta, and_self, kept_bump, kept_countWrite, kept_nextTick]; done)
    | with_reducible (refine congrArg Prod.fst ((kept_foldl _ (fun s x => ?_) _ _).trans ?_))
    | split
  done
theorem keeps_hKeyErase (q : Req) (s : State) : (hKeyErase q s).keeps s := by
  unfold hKeyErase
  try dsimp only
  repeat' first
    | with_reducible exact keeps_refuse _ _ _
    | with_reducible exact keeps_writes _ _
    | with_reducible refine keeps_checked ?_
    | with_reducible refine keeps_checkedN ?_
    | with_reducible refine keeps_refuseIf ?_
    | with_reducible refine keeps_declarerOnly ?_
    | with_reducible refine keeps_hostMayMove ?_
    | with_reducible refine keeps_kittyReady ?_
    | with_reducible refine keeps_noMirror ?_
    | with_reducible refine keeps_keyAllowed ?_
    | with_reducible refine keeps_done ?_
    | with_reducible refine keeps_later ?_
    | with_reducible refine keeps_refuseWith ?_
    | with_reducible rfl
    | (simp only [kept_mk, kept_eta, kept_ite, ite_self, kept1_shadowed, kept1_eta, and_self, kept_bump, kept_countWrite, kept_nextTick]; done)
    | with_reducible (refine congrArg Prod.fst ((kept_foldl _ (fun s x => ?_) _ _).trans ?_))
    | split
  done
theorem keeps_hKeyInfo (q : Req) (s : State) : (hKeyInfo q s).keeps s := by
  unfold hKeyInfo
  try dsimp only
  repeat' first
    | with_reducible exact keeps_refuse _ _ _
    | with_reducible exact keeps_writes _ _
    | with_reducible refine keeps_checked ?_
    | with_reducible refine keeps_checkedN ?_
    | with_reducible refine keeps_refuseIf ?_
    | with_reducible refine keeps_declarerOnly ?_
    | with_reducible refine keeps_hostMayMove ?_
    | with_reducible refine keeps_kittyReady ?_
    | with_reducible refine keeps_noMirror ?_
    | with_reducible refine keeps_keyAllowed ?_
    | with_reducible refine keeps_done ?_
    | with_reducible refine keeps_later ?_
    | with_reducible refine keeps_refuseWith ?_
    | with_reducible rfl
    | (simp only [kept_mk, kept_eta, kept_ite, ite_self, kept1_shadowed, kept1_eta, and_self]; done)
    | with_reducible (refine congrArg Prod.fst ((kept_foldl _ (fun s x => ?_) _ _).trans ?_))
    | split
  done
theorem keeps_hLcStatus (q : Req) (s : State) : (hLcStatus q s).keeps s := by
  unfold hLcStatus
  try dsimp only
  repeat' first
    | with_reducible exact keeps_refuse _ _ _
    | with_reducible exact keeps_writes _ _
    | with_reducible refine keeps_checked ?_
    | with_reducible refine keeps_checkedN ?_
    | with_reducible refine keeps_refuseIf ?_
    | with_reducible refine keeps_declarerOnly ?_
    | with_reducible refine keeps_hostMayMove ?_
    | with_reducible refine keeps_kittyReady ?_
    | with_reducible refine keeps_noMirror ?_
    | with_reducible refine keeps_keyAllowed ?_
    | with_reducible refine keeps_done ?_
    | with_reducible refine keeps_later ?_
    | with_reducible refine keeps_refuseWith ?_
    | with_reducible rfl
    | (simp only [kept_mk, kept_eta, kept_ite, ite_self, kept1_shadowed, kept1_eta, and_self]; done)
    | with_reducible (refine congrArg Prod.fst ((kept_foldl _ (fun s x => ?_) _ _).trans ?_))
    | split
  done
theorem keeps_hLcAdvance (q : Req) (s : State) : (hLcAdvance q s).keeps s := by
  unfold hLcAdvance
  try dsimp only
  repeat' first
    | with_reducible exact keeps_refuse _ _ _
    | with_reducible exact keeps_writes _ _
    | with_reducible refine keeps_checked ?_
    | with_reducible refine keeps_checkedN ?_
    | with_reducible refine keeps_refuseIf ?_
    | with_reducible refine keeps_declarerOnly ?_
    | with_reducible refine keeps_hostMayMove ?_
    | with_reducible refine keeps_kittyReady ?_
    | with_reducible refine keeps_noMirror ?_
    | with_reducible refine keeps_keyAllowed ?_
    | with_reducible refine keeps_done ?_
    | with_reducible refine keeps_later ?_
    | with_reducible refine keeps_refuseWith ?_
    | with_reducible rfl
    | (simp only [kept_mk, kept_eta, kept_ite, ite_self, kept1_shadowed, kept1_eta, and_self, kept_addWait, kept_nextTick, kept_updAttest, kept_zeroise]; done)
    | with_reducible (refine congrArg Prod.fst ((kept_foldl _ (fun s x => ?_) _ _).trans ?_))
    | split
  done
theorem keeps_hAttestQuote (q : Req) (s : State) : (hAttestQuote q s).keeps s := by
  unfold hAttestQuote
  try dsimp only
  repeat' first
    | with_reducible exact keeps_refuse _ _ _
    | with_reducible exact keeps_writes _ _
    | with_reducible refine keeps_checked ?_
    | with_reducible refine keeps_checkedN ?_
    | with_reducible refine keeps_refuseIf ?_
    | with_reducible refine keeps_declarerOnly ?_
    | with_reducible refine keeps_hostMayMove ?_
    | with_reducible refine keeps_kittyReady ?_
    | with_reducible refine keeps_noMirror ?_
    | with_reducible refine keeps_keyAllowed ?_
    | with_reducible refine keeps_done ?_
    | with_reducible refine keeps_later ?_
    | with_reducible refine keeps_refuseWith ?_
    | with_reducible rfl
    | (simp only [kept_mk, kept_eta, kept_ite, ite_self, kept1_shadowed, kept1_eta, and_self, kept_addWait, kept_nextTick]; done)
    | with_reducible (refine congrArg Prod.fst ((kept_foldl _ (fun s x => ?_) _ _).trans ?_))
    | split
  done
theorem keeps_hAttestMeasurements (q : Req) (s : State) : (hAttestMeasurements q s).keeps s := by
  unfold hAttestMeasurements
  try dsimp only
  repeat' first
    | with_reducible exact keeps_refuse _ _ _
    | with_reducible exact keeps_writes _ _
    | with_reducible refine keeps_checked ?_
    | with_reducible refine keeps_checkedN ?_
    | with_reducible refine keeps_refuseIf ?_
    | with_reducible refine keeps_declarerOnly ?_
    | with_reducible refine keeps_hostMayMove ?_
    | with_reducible refine keeps_kittyReady ?_
    | with_reducible refine keeps_noMirror ?_
    | with_reducible refine keeps_keyAllowed ?_
    | with_reducible refine keeps_done ?_
    | with_reducible refine keeps_later ?_
    | with_reducible refine keeps_refuseWith ?_
    | with_reducible rfl
    | (simp only [kept_mk, kept_eta, kept_ite, ite_self, kept1_shadowed, kept1_eta, and_self, kept_extend, kept_nextTick, kept_raise, kept_refreshQuotes, kept_updAttest]; done)
    | with_reducible (refine congrArg Prod.fst ((kept_foldl _ (fun s x => ?_) _ _).trans ?_))
    | split
  done
theorem keeps_hAudPortConfigure (q : Req) (s : State) : (hAudPortConfigure q s).keeps s := by
  unfold hAudPortConfigure
  try dsimp only
  repeat' first
    | with_reducible exact keeps_refuse _ _ _
    | with_reducible exact keeps_writes _ _
    | with_reducible refine keeps_checked ?_
    | with_reducible refine keeps_checkedN ?_
    | with_reducible refine keeps_refuseIf ?_
    | with_reducible refine keeps_declarerOnly ?_
    | with_reducible refine keeps_hostMayMove ?_
    | with_reducible refine keeps_kittyReady ?_
    | with_reducible refine keeps_noMirror ?_
    | with_reducible refine keeps_keyAllowed ?_
    | with_reducible refine keeps_done ?_
    | with_reducible refine keeps_later ?_
    | with_reducible refine keeps_refuseWith ?_
    | with_reducible rfl
    | (simp only [kept_mk, kept_eta, kept_ite, ite_self, kept1_shadowed, kept1_eta, and_self]; done)
    | with_reducible (refine congrArg Prod.fst ((kept_foldl _ (fun s x => ?_) _ _).trans ?_))
    | split
  done
theorem keeps_hAudGroupConfigure (q : Req) (s : State) : (hAudGroupConfigure q s).keeps s := by
  unfold hAudGroupConfigure
  try dsimp only
  repeat' first
    | with_reducible exact keeps_refuse _ _ _
    | with_reducible exact keeps_writes _ _
    | with_reducible refine keeps_checked ?_
    | with_reducible refine keeps_checkedN ?_
    | with_reducible refine keeps_refuseIf ?_
    | with_reducible refine keeps_declarerOnly ?_
    | with_reducible refine keeps_hostMayMove ?_
    | with_reducible refine keeps_kittyReady ?_
    | with_reducible refine keeps_noMirror ?_
    | with_reducible refine keeps_keyAllowed ?_
    | with_reducible refine keeps_done ?_
    | with_reducible refine keeps_later ?_
    | with_reducible refine keeps_refuseWith ?_
    | with_reducible rfl
    | (simp only [kept_mk, kept_eta, kept_ite, ite_self, kept1_shadowed, kept1_eta, and_self]; done)
    | with_reducible (refine congrArg Prod.fst ((kept_foldl _ (fun s x => ?_) _ _).trans ?_))
    | split
  done
theorem keeps_hAudGroupStart (q : Req) (s : State) : (hAudGroupStart q s).keeps s := by
  unfold hAudGroupStart
  exact keeps_checked (keeps_refuseIf (keeps_refuseIf (keeps_done (congrArg Prod.fst
    ((kept_updGroup _ _ _).trans ((kept_foldl _ (fun y p => kept_armPort p y) _ _).trans (kept_nextTick s)))))))

theorem keeps_hAudGroupStop (q : Req) (s : State) : (hAudGroupStop q s).keeps s := by
  unfold hAudGroupStop
  try dsimp only
  repeat' first
    | with_reducible exact keeps_refuse _ _ _
    | with_reducible exact keeps_writes _ _
    | with_reducible refine keeps_checked ?_
    | with_reducible refine keeps_checkedN ?_
    | with_reducible refine keeps_refuseIf ?_
    | with_reducible refine keeps_declarerOnly ?_
    | with_reducible refine keeps_hostMayMove ?_
    | with_reducible refine keeps_kittyReady ?_
    | with_reducible refine keeps_noMirror ?_
    | with_reducible refine keeps_keyAllowed ?_
    | with_reducible refine keeps_done ?_
    | with_reducible refine keeps_later ?_
    | with_reducible refine keeps_refuseWith ?_
    | with_reducible rfl
    | (simp only [kept_mk, kept_eta, kept_ite, ite_self, kept1_shadowed, kept1_eta, and_self, kept_nextTick, kept_updGroup]; done)
    | with_reducible (refine congrArg Prod.fst ((kept_foldl _ (fun s x => ?_) _ _).trans ?_))
    | split
  done
theorem keeps_hAudStatus (q : Req) (s : State) : (hAudStatus q s).keeps s := by
  unfold hAudStatus
  try dsimp only
  repeat' first
    | with_reducible exact keeps_refuse _ _ _
    | with_reducible exact keeps_writes _ _
    | with_reducible refine keeps_checked ?_
    | with_reducible refine keeps_checkedN ?_
    | with_reducible refine keeps_refuseIf ?_
    | with_reducible refine keeps_declarerOnly ?_
    | with_reducible refine keeps_hostMayMove ?_
    | with_reducible refine keeps_kittyReady ?_
    | with_reducible refine keeps_noMirror ?_
    | with_reducible refine keeps_keyAllowed ?_
    | with_reducible refine keeps_done ?_
    | with_reducible refine keeps_later ?_
    | with_reducible refine keeps_refuseWith ?_
    | with_reducible rfl
    | (simp only [kept_mk, kept_eta, kept_ite, ite_self, kept1_shadowed, kept1_eta, and_self, kept_updAud]; done)
    | with_reducible (refine congrArg Prod.fst ((kept_foldl _ (fun s x => ?_) _ _).trans ?_))
    | split
  done
theorem keeps_hRecCommitNow (q : Req) (s : State) : (hRecCommitNow q s).keeps s := by
  unfold hRecCommitNow
  try dsimp only
  repeat' first
    | with_reducible exact keeps_refuse _ _ _
    | with_reducible exact keeps_writes _ _
    | with_reducible refine keeps_checked ?_
    | with_reducible refine keeps_checkedN ?_
    | with_reducible refine keeps_refuseIf ?_
    | with_reducible refine keeps_declarerOnly ?_
    | with_reducible refine keeps_hostMayMove ?_
    | with_reducible refine keeps_kittyReady ?_
    | with_reducible refine keeps_noMirror ?_
    | with_reducible refine keeps_keyAllowed ?_
    | with_reducible refine keeps_done ?_
    | with_reducible refine keeps_later ?_
    | with_reducible refine keeps_refuseWith ?_
    | with_reducible rfl
    | (simp only [kept_mk, kept_eta, kept_ite, ite_self, kept1_shadowed, kept1_eta, and_self, kept_addWait, kept_commitPage, kept_hourCommit, kept_updScore]; done)
    | with_reducible (refine congrArg Prod.fst ((kept_foldl _ (fun s x => ?_) _ _).trans ?_))
    | split
  done
theorem keeps_hRecConfigure (q : Req) (s : State) : (hRecConfigure q s).keeps s := by
  unfold hRecConfigure
  try dsimp only
  repeat' first
    | with_reducible exact keeps_refuse _ _ _
    | with_reducible exact keeps_writes _ _
    | with_reducible refine keeps_checked ?_
    | with_reducible refine keeps_checkedN ?_
    | with_reducible refine keeps_refuseIf ?_
    | with_reducible refine keeps_declarerOnly ?_
    | with_reducible refine keeps_hostMayMove ?_
    | with_reducible refine keeps_kittyReady ?_
    | with_reducible refine keeps_noMirror ?_
    | with_reducible refine keeps_keyAllowed ?_
    | with_reducible refine keeps_done ?_
    | with_reducible refine keeps_later ?_
    | with_reducible refine keeps_refuseWith ?_
    | with_reducible rfl
    | (simp only [kept_mk, kept_eta, kept_ite, ite_self, kept1_shadowed, kept1_eta, and_self]; done)
    | with_reducible (refine congrArg Prod.fst ((kept_foldl _ (fun s x => ?_) _ _).trans ?_))
    | split
  done
theorem keeps_hRecRead (q : Req) (s : State) : (hRecRead q s).keeps s := by
  unfold hRecRead
  try dsimp only
  repeat' first
    | with_reducible exact keeps_refuse _ _ _
    | with_reducible exact keeps_writes _ _
    | with_reducible refine keeps_checked ?_
    | with_reducible refine keeps_checkedN ?_
    | with_reducible refine keeps_refuseIf ?_
    | with_reducible refine keeps_declarerOnly ?_
    | with_reducible refine keeps_hostMayMove ?_
    | with_reducible refine keeps_kittyReady ?_
    | with_reducible refine keeps_noMirror ?_
    | with_reducible refine keeps_keyAllowed ?_
    | with_reducible refine keeps_done ?_
    | with_reducible refine keeps_later ?_
    | with_reducible refine keeps_refuseWith ?_
    | with_reducible rfl
    | (simp only [kept_mk, kept_eta, kept_ite, ite_self, kept1_shadowed, kept1_eta, and_self]; done)
    | with_reducible (refine congrArg Prod.fst ((kept_foldl _ (fun s x => ?_) _ _).trans ?_))
    | split
  done
theorem keeps_hPerfRead (q : Req) (s : State) : (hPerfRead q s).keeps s := by
  unfold hPerfRead
  try dsimp only
  repeat' first
    | with_reducible exact keeps_refuse _ _ _
    | with_reducible exact keeps_writes _ _
    | with_reducible refine keeps_checked ?_
    | with_reducible refine keeps_checkedN ?_
    | with_reducible refine keeps_refuseIf ?_
    | with_reducible refine keeps_declarerOnly ?_
    | with_reducible refine keeps_hostMayMove ?_
    | with_reducible refine keeps_kittyReady ?_
    | with_reducible refine keeps_noMirror ?_
    | with_reducible refine keeps_keyAllowed ?_
    | with_reducible refine keeps_done ?_
    | with_reducible refine keeps_later ?_
    | with_reducible refine keeps_refuseWith ?_
    | with_reducible rfl
    | (simp only [kept_mk, kept_eta, kept_ite, ite_self, kept1_shadowed, kept1_eta, and_self]; done)
    | with_reducible (refine congrArg Prod.fst ((kept_foldl _ (fun s x => ?_) _ _).trans ?_))
    | split
  done
theorem keeps_hPerfFilterSet (q : Req) (s : State) : (hPerfFilterSet q s).keeps s := by
  unfold hPerfFilterSet
  try dsimp only
  repeat' first
    | with_reducible exact keeps_refuse _ _ _
    | with_reducible exact keeps_writes _ _
    | with_reducible refine keeps_checked ?_
    | with_reducible refine keeps_checkedN ?_
    | with_reducible refine keeps_refuseIf ?_
    | with_reducible refine keeps_declarerOnly ?_
    | with_reducible refine keeps_hostMayMove ?_
    | with_reducible refine keeps_kittyReady ?_
    | with_reducible refine keeps_noMirror ?_
    | with_reducible refine keeps_keyAllowed ?_
    | with_reducible refine keeps_done ?_
    | with_reducible refine keeps_later ?_
    | with_reducible refine keeps_refuseWith ?_
    | with_reducible rfl
    | (simp only [kept_mk, kept_eta, kept_ite, ite_self, kept1_shadowed, kept1_eta, and_self]; done)
    | with_reducible (refine congrArg Prod.fst ((kept_foldl _ (fun s x => ?_) _ _).trans ?_))
    | split
  done
theorem keeps_hPerfWindowSet (q : Req) (s : State) : (hPerfWindowSet q s).keeps s := by
  unfold hPerfWindowSet
  try dsimp only
  repeat' first
    | with_reducible exact keeps_refuse _ _ _
    | with_reducible exact keeps_writes _ _
    | with_reducible refine keeps_checked ?_
    | with_reducible refine keeps_checkedN ?_
    | with_reducible refine keeps_refuseIf ?_
    | with_reducible refine keeps_declarerOnly ?_
    | with_reducible refine keeps_hostMayMove ?_
    | with_reducible refine keeps_kittyReady ?_
    | with_reducible refine keeps_noMirror ?_
    | with_reducible refine keeps_keyAllowed ?_
    | with_reducible refine keeps_done ?_
    | with_reducible refine keeps_later ?_
    | with_reducible refine keeps_refuseWith ?_
    | with_reducible rfl
    | (simp only [kept_mk, kept_eta, kept_ite, ite_self, kept1_shadowed, kept1_eta, and_self]; done)
    | with_reducible (refine congrArg Prod.fst ((kept_foldl _ (fun s x => ?_) _ _).trans ?_))
    | split
  done
theorem keeps_hSysConfigCommit (q : Req) (s : State) : (hSysConfigCommit q s).keeps s := by
  unfold hSysConfigCommit
  refine keeps_checked ?_
  split
  · exact keeps_done (by simp only [kept_mk, kept1_eta])
  · split
    · split
      · exact keeps_refuse _ _ _
      · exact keeps_done rfl
    · split
      · exact keeps_later (congrArg Prod.fst ((kept_addWait _ _).trans (kept_updPair _ _)))
      · split
        · exact keeps_refuse _ _ _
        · rename_i h
          refine keeps_done ?_
          unfold tryCommit at h
          split at h
          · cases h
          · rw [← Except.ok.inj h, kept1_applyCommit, kept_nextTick]

theorem keeps_hRingConfigure (q : Req) (s : State) : (hRingConfigure q s).keeps s := by
  unfold hRingConfigure
  try dsimp only
  repeat' first
    | with_reducible exact keeps_refuse _ _ _
    | with_reducible exact keeps_writes _ _
    | with_reducible refine keeps_checked ?_
    | with_reducible refine keeps_checkedN ?_
    | with_reducible refine keeps_refuseIf ?_
    | with_reducible refine keeps_declarerOnly ?_
    | with_reducible refine keeps_hostMayMove ?_
    | with_reducible refine keeps_kittyReady ?_
    | with_reducible refine keeps_noMirror ?_
    | with_reducible refine keeps_keyAllowed ?_
    | with_reducible refine keeps_done ?_
    | with_reducible refine keeps_later ?_
    | with_reducible refine keeps_refuseWith ?_
    | with_reducible rfl
    | (simp only [kept_mk, kept_eta, kept_ite, ite_self, kept1_shadowed, kept1_eta, and_self]; done)
    | with_reducible (refine congrArg Prod.fst ((kept_foldl _ (fun s x => ?_) _ _).trans ?_))
    | split
  done
theorem keeps_hRingStatus (q : Req) (s : State) : (hRingStatus q s).keeps s := by
  unfold hRingStatus
  try dsimp only
  repeat' first
    | with_reducible exact keeps_refuse _ _ _
    | with_reducible exact keeps_writes _ _
    | with_reducible refine keeps_checked ?_
    | with_reducible refine keeps_checkedN ?_
    | with_reducible refine keeps_refuseIf ?_
    | with_reducible refine keeps_declarerOnly ?_
    | with_reducible refine keeps_hostMayMove ?_
    | with_reducible refine keeps_kittyReady ?_
    | with_reducible refine keeps_noMirror ?_
    | with_reducible refine keeps_keyAllowed ?_
    | with_reducible refine keeps_done ?_
    | with_reducible refine keeps_later ?_
    | with_reducible refine keeps_refuseWith ?_
    | with_reducible rfl
    | (simp only [kept_mk, kept_eta, kept_ite, ite_self, kept1_shadowed, kept1_eta, and_self]; done)
    | with_reducible (refine congrArg Prod.fst ((kept_foldl _ (fun s x => ?_) _ _).trans ?_))
    | split
  done
theorem keeps_hSysIdentify (q : Req) (s : State) : (hSysIdentify q s).keeps s := by
  unfold hSysIdentify
  try dsimp only
  repeat' first
    | with_reducible exact keeps_refuse _ _ _
    | with_reducible exact keeps_writes _ _
    | with_reducible refine keeps_checked ?_
    | with_reducible refine keeps_checkedN ?_
    | with_reducible refine keeps_refuseIf ?_
    | with_reducible refine keeps_declarerOnly ?_
    | with_reducible refine keeps_hostMayMove ?_
    | with_reducible refine keeps_kittyReady ?_
    | with_reducible refine keeps_noMirror ?_
    | with_reducible refine keeps_keyAllowed ?_
    | with_reducible refine keeps_done ?_
    | with_reducible refine keeps_later ?_
    | with_reducible refine keeps_refuseWith ?_
    | with_reducible rfl
    | (simp only [kept_mk, kept_eta, kept_ite, ite_self, kept1_shadowed, kept1_eta, and_self]; done)
    | with_reducible (refine congrArg Prod.fst ((kept_foldl _ (fun s x => ?_) _ _).trans ?_))
    | split
  done
theorem keeps_hSysConfigDigest (q : Req) (s : State) : (hSysConfigDigest q s).keeps s := by
  unfold hSysConfigDigest
  try dsimp only
  repeat' first
    | with_reducible exact keeps_refuse _ _ _
    | with_reducible exact keeps_writes _ _
    | with_reducible refine keeps_checked ?_
    | with_reducible refine keeps_checkedN ?_
    | with_reducible refine keeps_refuseIf ?_
    | with_reducible refine keeps_declarerOnly ?_
    | with_reducible refine keeps_hostMayMove ?_
    | with_reducible refine keeps_kittyReady ?_
    | with_reducible refine keeps_noMirror ?_
    | with_reducible refine keeps_keyAllowed ?_
    | with_reducible refine keeps_done ?_
    | with_reducible refine keeps_later ?_
    | with_reducible refine keeps_refuseWith ?_
    | with_reducible rfl
    | (simp only [kept_mk, kept_eta, kept_ite, ite_self, kept1_shadowed, kept1_eta, and_self]; done)
    | with_reducible (refine congrArg Prod.fst ((kept_foldl _ (fun s x => ?_) _ _).trans ?_))
    | split
  done
theorem keeps_hSysEcho (arrived : Nat) (q : Req) (s : State) : (hSysEcho arrived q s).keeps s := by
  unfold hSysEcho
  try dsimp only
  repeat' first
    | with_reducible exact keeps_refuse _ _ _
    | with_reducible exact keeps_writes _ _
    | with_reducible refine keeps_checked ?_
    | with_reducible refine keeps_checkedN ?_
    | with_reducible refine keeps_refuseIf ?_
    | with_reducible refine keeps_declarerOnly ?_
    | with_reducible refine keeps_hostMayMove ?_
    | with_reducible refine keeps_kittyReady ?_
    | with_reducible refine keeps_noMirror ?_
    | with_reducible refine keeps_keyAllowed ?_
    | with_reducible refine keeps_done ?_
    | with_reducible refine keeps_later ?_
    | with_reducible refine keeps_refuseWith ?_
    | with_reducible rfl
    | (simp only [kept_mk, kept_eta, kept_ite, ite_self, kept1_shadowed, kept1_eta, and_self]; done)
    | with_reducible (refine congrArg Prod.fst ((kept_foldl _ (fun s x => ?_) _ _).trans ?_))
    | split
  done
theorem keeps_hSysStatus (q : Req) (s : State) : (hSysStatus q s).keeps s := by
  unfold hSysStatus
  try dsimp only
  repeat' first
    | with_reducible exact keeps_refuse _ _ _
    | with_reducible exact keeps_writes _ _
    | with_reducible refine keeps_checked ?_
    | with_reducible refine keeps_checkedN ?_
    | with_reducible refine keeps_refuseIf ?_
    | with_reducible refine keeps_declarerOnly ?_
    | with_reducible refine keeps_hostMayMove ?_
    | with_reducible refine keeps_kittyReady ?_
    | with_reducible refine keeps_noMirror ?_
    | with_reducible refine keeps_keyAllowed ?_
    | with_reducible refine keeps_done ?_
    | with_reducible refine keeps_later ?_
    | with_reducible refine keeps_refuseWith ?_
    | with_reducible rfl
    | (simp only [kept_mk, kept_eta, kept_ite, ite_self, kept1_shadowed, kept1_eta, and_self, kept_updBoot]; done)
    | with_reducible (refine congrArg Prod.fst ((kept_foldl _ (fun s x => ?_) _ _).trans ?_))
    | split
  done
theorem keeps_hSysResetBlock (q : Req) (s : State) : (hSysResetBlock q s).keeps s := by
  unfold hSysResetBlock
  try dsimp only
  repeat' first
    | with_reducible exact keeps_refuse _ _ _
    | with_reducible exact keeps_writes _ _
    | with_reducible refine keeps_checked ?_
    | with_reducible refine keeps_checkedN ?_
    | with_reducible refine keeps_refuseIf ?_
    | with_reducible refine keeps_declarerOnly ?_
    | with_reducible refine keeps_hostMayMove ?_
    | with_reducible refine keeps_kittyReady ?_
    | with_reducible refine keeps_noMirror ?_
    | with_reducible refine keeps_keyAllowed ?_
    | with_reducible refine keeps_done ?_
    | with_reducible refine keeps_later ?_
    | with_reducible refine keeps_refuseWith ?_
    | with_reducible rfl
    | (simp only [kept_mk, kept_eta, kept_ite, ite_self, kept1_shadowed, kept1_eta, and_self, kept_addWait, kept_resetBlock]; done)
    | with_reducible (refine congrArg Prod.fst ((kept_foldl _ (fun s x => ?_) _ _).trans ?_))
    | split
  done
theorem keeps_hBadOpcode (q : Req) (s : State) : (hBadOpcode q s).keeps s := by
  unfold hBadOpcode
  try dsimp only
  repeat' first
    | with_reducible exact keeps_refuse _ _ _
    | with_reducible exact keeps_writes _ _
    | with_reducible refine keeps_checked ?_
    | with_reducible refine keeps_checkedN ?_
    | with_reducible refine keeps_refuseIf ?_
    | with_reducible refine keeps_declarerOnly ?_
    | with_reducible refine keeps_hostMayMove ?_
    | with_reducible refine keeps_kittyReady ?_
    | with_reducible refine keeps_noMirror ?_
    | with_reducible refine keeps_keyAllowed ?_
    | with_reducible refine keeps_done ?_
    | with_reducible refine keeps_later ?_
    | with_reducible refine keeps_refuseWith ?_
    | with_reducible rfl
    | (simp only [kept_mk, kept_eta, kept_ite, ite_self, kept1_shadowed, kept1_eta, and_self]; done)
    | with_reducible (refine congrArg Prod.fst ((kept_foldl _ (fun s x => ?_) _ _).trans ?_))
    | split
  done

end Sys2Proof.Machine
end

