-- ==== Sys2Proof/Laws/KeptRows.lean ====
section
/-! SUPPORT. The rows and the boot invariant: what every row keeps of the queue and of `bootOk`, and the rows that keep all of `kept`. -/
set_option linter.unusedSimpArgs false
set_option linter.unusedVariables false
namespace Sys2Proof.Machine
open Sys2Proof Host

def bootKept (s t : State) : Prop := t.pending = s.pending ∧ (bootOk s → bootOk t)
theorem bk_refl (s : State) : bootKept s s := ⟨Eq.refl _, id⟩
theorem bk_trans {a b c : State} (h : bootKept b c) (g : bootKept a b) : bootKept a c := ⟨h.1.trans g.1, h.2 ∘ g.2⟩
theorem bk_of {s t : State} (h : (kept t).1 = (kept s).1) : bootKept s t := by
  have h' := h
  unfold kept at h'
  simp only [Prod.mk.injEq] at h'
  obtain ⟨h0, h1, h2, h3, h4⟩ := h'
  refine ⟨h0, fun i => ?_⟩
  unfold bootOk
  rw [h1, h2, h3, h4]; exact i
theorem bk_kept {s t : State} (h : kept t = kept s) : bootKept s t := bk_of (congrArg Prod.fst h)
theorem bk_ite {c : Prop} [Decidable c] {s a b : State} (ha : c → bootKept s a) (hb : ¬ c → bootKept s b) : bootKept s (if c then a else b) := by
  split
  · exact ha ‹_›
  · exact hb ‹_›
theorem bk_foldl {α : Type} (g : State → α → State) (h : ∀ s x, bootKept s (g s x)) (l : List α) (s : State) : bootKept s (l.foldl g s) := by
  induction l generalizing s with
  | nil => exact bk_refl s
  | cons a l ih => exact bk_trans (ih _) (h s a)
theorem bk_updBoot {f : BootPart → BootPart} {s : State}
    (h : bootOk s → ((f s.boot).stage ≤ 9 ∨ (f s.boot).stage = 15) ∧ ((f s.boot).cmdReady = true → (f s.boot).stage = 9) ∧ ((f s.boot).inReset = true ↔ (f s.boot).stage = 0)) :
    bootKept s (updBoot f s) := ⟨Eq.refl _, fun i => ⟨(h i).1, (h i).2.1, (h i).2.2, i.2.2.2⟩⟩
theorem lcOfRows_le (r : List Nat) : lcOfRows r ≤ 4 := by
  have key : ∀ (l : List Nat) (m : Nat), m ≤ 4 → (∀ k ∈ l, k < 4) → l.foldl (fun m k => if r.getD k 0 ≠ 0 then k + 1 else m) m ≤ 4 := by
    intro l
    induction l with
    | nil => intro m h _; exact h
    | cons a l ih =>
      intro m h g
      refine ih _ ?_ (fun k hk => g k (List.mem_cons_of_mem _ hk))
      have := g a List.mem_cons_self
      dsimp only
      split <;> omega
  exact key _ 0 (Nat.zero_le _) (fun k hk => List.mem_range.1 hk)
theorem bk_deviceReset (c : Nat) (s : State) : bootKept s (deviceReset c s) := by
  have hp : (deviceReset c s).pending = (dropClaim s).pending := Eq.trans rfl rfl
  have hd : (dropClaim s).pending = s.pending := congrArg (fun x => x.1.1) (kept_dropClaim s)
  exact ⟨hp.trans hd, fun _ => ⟨Or.inl (Nat.zero_le _), fun h => Bool.noConfusion h, ⟨fun _ => Eq.refl _, fun _ => Eq.refl _⟩, lcOfRows_le _⟩⟩
theorem bk_faultReset (f d c : Nat) (s : State) : bootKept s (faultReset f d c s) := bk_trans (bk_deviceReset _ _) (bk_kept (kept_selfFault _ _ _))
/-- a boot change that leaves stage, ready and reset -/
theorem bk_same {f : BootPart → BootPart} {s : State} (h : (f s.boot).stage = s.boot.stage ∧ (f s.boot).cmdReady = s.boot.cmdReady ∧ (f s.boot).inReset = s.boot.inReset) : bootKept s (updBoot f s) :=
  bk_kept (kept_updBoot f s h)
/-- out of reset, not ready, the stage moves on -/
theorem bk_stage {f : BootPart → BootPart} {s : State} (h0 : bootOk s → s.boot.stage ≠ 0 ∧ s.boot.stage ≠ 9)
    (n : Nat) (e : (f s.boot).stage = n) (h1 : n ≠ 0) (h2 : n ≤ 9 ∨ n = 15) (h3 : (f s.boot).cmdReady = s.boot.cmdReady) (h4 : (f s.boot).inReset = s.boot.inReset) :
    bootKept s (updBoot f s) := by
  refine bk_updBoot fun i => ⟨by rw [e]; exact h2, fun hr => ?_, ?_⟩
  · rw [h3] at hr; exact absurd (i.2.1 hr) (h0 i).2
  · rw [h4]
    constructor
    · intro hr; exact absurd (i.2.2.1.1 hr) (h0 i).1
    · intro z; exact absurd (e.symm.trans z) h1
theorem bk_begin (ps : Nat) (s : State) : bootKept s (begin_ ps s) := bk_kept (kept_begin_ ps s)
theorem stage_of {s t : State} (h : kept t = kept s) : t.boot.stage = s.boot.stage := congrArg (fun x => x.1.2.1) h
theorem bk_accessAt (i : Iface) (ps : Nat) (f : State → State) (h : ∀ x, bootKept x (f x)) (s : State) : bootKept s (accessAt i ps f s) := by
  have h0 := bk_begin ps s
  unfold accessAt
  exact bk_ite (fun _ => bk_trans (h _) h0) (fun _ => h0)
theorem bk_atStage (n : Nat) (f : State → State) (h : ∀ x, x.boot.stage = n → bootKept x (f x)) (s : State) : bootKept s (atStage n f s) := by
  unfold atStage
  refine bk_ite (fun c => h _ ?_) (fun _ => bk_refl _)
  exact of_decide_eq_true (Bool.and_eq_true .. ▸ c).2
theorem bk_takeImages (l : List (Nat × Bytes)) (s : State) (h : s.boot.stage ≠ 0 ∧ s.boot.stage ≠ 9) : bootKept s (takeImages l s) := by
  have hm := kept_measureImages l s
  have hs := stage_of hm
  unfold takeImages
  refine bk_trans (bk_stage (fun _ => by rw [hs]; exact h) 6 rfl (by decide) (by decide) rfl rfl) (bk_kept hm)
theorem bk_loadBlock (i : Iface) (s : State) (h : s.boot.stage = 5) : bootKept s (loadBlock i s) := by
  have hu : ∀ (v : Nat) (y : State), kept (updBank i (fun x => { x with submitStatus := BitVec.ofNat 8 v }) y) = kept y := fun v y => kept_updBank _ _ _
  have hb : kept (updBoot (fun b => { b with hostBoot := true }) s) = kept s := kept_updBoot _ _ ⟨rfl, rfl, rfl⟩
  unfold loadBlock
  dsimp only
  refine bk_ite (fun _ => bk_ite (fun _ => ?_) (fun _ => bk_kept (hu _ _))) (fun _ => bk_ite (fun _ => ?_) (fun _ => bk_kept (hu _ _)))
  · refine bk_trans (bk_kept ((hu _ _).trans (kept_raise _ _ _))) (bk_trans (bk_takeImages _ _ ?_) (bk_kept hb))
    rw [stage_of hb, h]; decide
  · exact bk_kept ((hu _ _).trans (kept_updBoot _ _ ⟨rfl, rfl, rfl⟩))
theorem bk_goWrite (i : Iface) (s : State) : bootKept s (goWrite i s) := by
  unfold goWrite
  exact bk_ite (fun h => bk_loadBlock i s h) (fun _ => bk_kept ((kept_trySubmit _ _).trans (kept_updBank _ _ _)))
theorem bk_writeWord (i : Iface) (off : Nat) (v : Word) (s : State) : bootKept s (writeWord i off v s) := by
  unfold writeWord
  refine bk_ite (fun _ => bk_kept (kept_updBank _ _ _)) fun _ => bk_ite (fun _ => bk_kept (kept_doorbell _ _ _ _)) fun _ =>
    bk_ite (fun _ => bk_kept (kept_doorbell _ _ _ _)) fun _ => bk_ite (fun _ => bk_kept (kept_doorbell _ _ _ _)) fun _ =>
    bk_ite (fun _ => bk_kept (kept_ringRegWrite _ _ _ _)) fun _ => bk_ite (fun _ => ?_) fun _ =>
    bk_ite (fun _ => bk_kept (kept_updBank _ _ _)) fun _ => bk_ite (fun _ => bk_ite (fun _ => bk_refl s) fun _ => bk_ite (fun _ => bk_kept (kept_updBank _ _ _)) fun _ => bk_goWrite i s) fun _ =>
    bk_ite (fun _ => bk_kept (kept_bufWrite _ _ _ _)) fun _ => bk_refl s
  have h := bk_kept (kept_irqWrite off v s)
  exact bk_ite (fun _ => bk_trans (bk_kept (kept_msixSend _)) h) (fun _ => h)
theorem bk_writeWords (i : Iface) (off v n : Nat) (s : State) : bootKept s (writeWords i off v n s) := by
  unfold writeWords
  exact bk_foldl _ (fun s k => bk_ite (fun _ => bk_writeWord _ _ _ _) (fun _ => bk_refl _)) _ _
theorem bk_writeAccess (i : Iface) (off size v : Nat) (s : State) : bootKept s (writeAccess i off size v s) := by
  unfold writeAccess
  cases i with
  | spi => exact bk_writeWords _ _ _ _ _
  | pcie => exact bk_ite (fun _ => bk_writeWords _ _ _ _ _) (fun _ => bk_kept (kept_raise _ _ _))
theorem bk_powerOn (s : State) : bootKept s (powerOn s) := bk_trans (bk_same ⟨rfl, rfl, rfl⟩) (bk_deviceReset 0 s)
theorem bk_powerGoodFall (r : Nat) (s : State) : bootKept s (powerGoodFall r s) := by
  unfold powerGoodFall
  exact bk_ite (fun _ => bk_refl s) (fun _ => bk_trans (bk_same ⟨rfl, rfl, rfl⟩) (bk_faultReset _ _ _ _))
theorem bk_powerRemoved (s : State) : bootKept s (powerRemoved s) :=
  bk_trans (bk_same ⟨rfl, rfl, rfl⟩) (bk_trans (bk_deviceReset 0 _) (bk_kept ((kept_emit _ _).trans (kept_updPair _ _))))
theorem bk_resetEnd (p : Bool) (b : Nat) (u : Bool) (s : State) : bootKept s (resetEnd p b u s) := by
  have hr : ∀ (x : State) (r : RootPart) (q : PairRun), kept { x with root := r, pair := q } = kept x := by intro x r q; simp only [kept_mk, kept_eta]
  unfold resetEnd
  refine bk_ite (fun _ => bk_refl s) (fun _ => bk_trans (bk_kept ((kept_setPads _).trans ((kept_emit _ _).trans ((kept_emit _ _).trans ((kept_emit _ _).trans (hr _ _ _)))))) ?_)
  rename_i c
  refine bk_updBoot fun i => ⟨Or.inl (Nat.le_of_ble_eq_true rfl), fun h => ?_, ⟨fun h => Bool.noConfusion h, fun h => by cases h⟩⟩
  have e : s.boot.inReset = true := by
    revert c; cases s.boot.inReset <;> simp
  have z := i.2.2.1.1 e
  have := i.2.1 h
  omega
theorem bk_watchdogReset (s : State) : bootKept s (watchdogReset s) := by
  unfold watchdogReset
  split
  · exact bk_refl s
  · rename_i d _
    have h : kept (updBoot (fun b => { b with watchdogReset := none }) (moveTo d s)) = kept s := (kept_updBoot _ _ ⟨rfl, rfl, rfl⟩).trans (kept_moveTo d s)
    exact bk_ite (fun _ => bk_kept h) (fun _ => bk_trans (bk_deviceReset 3 _) (bk_kept h))
theorem bk_thermalShutdown (t : Int) (s : State) : bootKept s (thermalShutdown t s) := by
  unfold thermalShutdown
  exact bk_ite (fun _ => bk_refl s) (fun _ => bk_trans (bk_same ⟨rfl, rfl, rfl⟩) (bk_faultReset _ _ _ _))
theorem bk_lockStage (s : State) : bootKept s (updBoot (fun b => { b with stage := if b.stage = 1 then 2 else b.stage }) s) := by
  refine bk_updBoot fun i => ?_
  have i1 := i.1; have i2 := i.2.1; have i3 := i.2.2.1
  dsimp only at i1 i2 i3 ⊢
  split
  · rename_i c
    refine ⟨Or.inl (Nat.le_of_ble_eq_true rfl), fun h => ?_, ?_⟩
    · have := i2 h; omega
    · constructor
      · intro h; have := i3.1 h; omega
      · intro h; cases h
  · exact ⟨i1, i2, i3⟩
theorem bk_bpllLock (f : Nat) (s : State) : bootKept s (bpllLock f s) := by
  have hr : ∀ (x : State) (r : RootPart), kept { x with root := r } = kept x := by intro x r; simp only [kept_mk, kept_eta]
  unfold bpllLock
  refine bk_ite (fun _ => bk_refl s) (fun _ => ?_)
  split
  · exact bk_kept (hr _ _)
  · have he := kept_emit (.pulses "BPLL_LOCK" (lockPulse 150) (roundDiv 1000000000000 (max 1 f))) s
    revert he
    generalize emit (.pulses "BPLL_LOCK" (lockPulse 150) (roundDiv 1000000000000 (max 1 f))) s = x
    intro he
    dsimp only
    split
    · exact bk_kept ((hr _ _).trans he)
    · exact bk_trans (bk_lockStage _) (bk_kept ((hr _ _).trans he))
theorem bk_fuseRead (s : State) (h : s.boot.stage = 2) : bootKept s (fuseRead s) := by
  refine ⟨Eq.refl _, fun i => ⟨Or.inl (Nat.le_of_ble_eq_true rfl), fun hr => ?_, ?_, lcOfRows_le _⟩⟩
  · have := i.2.1 hr; omega
  · constructor
    · intro hr; have := i.2.2.1.1 hr; omega
    · intro hr; cases hr
theorem bk_sram (ok : Bool) (s : State) (h : s.boot.stage = 3) : bootKept s (updBoot (fun b => { b with stage := if ok then 4 else 15 }) s) := by
  cases ok
  · exact bk_stage (fun _ => by rw [h]; decide) 15 rfl (by decide) (by decide) rfl rfl
  · exact bk_stage (fun _ => by rw [h]; decide) 4 rfl (by decide) (by decide) rfl rfl
theorem bk_imageLoad (a b : Bytes) (s : State) (h : s.boot.stage = 4) : bootKept s (imageLoad a b s) := by
  have he := kept_extend 0 Config.romDigest s
  unfold imageLoad
  revert he
  generalize extend 0 Config.romDigest s = x
  intro he
  have hx := (stage_of he).trans h
  have hn : x.boot.stage ≠ 0 ∧ x.boot.stage ≠ 9 := by rw [hx]; decide
  have h5 : bootKept s (updBoot (fun y => { y with stage := 5 }) x) := bk_trans (bk_stage (fun _ => hn) 5 rfl (by decide) (by decide) rfl rfl) (bk_kept he)
  have h15 : bootKept s (updBoot (fun y => { y with stage := 15 }) x) := bk_trans (bk_stage (fun _ => hn) 15 rfl (by decide) (by decide) rfl rfl) (bk_kept he)
  have ht : ∀ (l : List (Nat × Bytes)) (u : Bool), bootKept s (takeImages l (updBoot (fun y => { y with copyB := u }) x)) := by
    intro l u
    have hu : kept (updBoot (fun y => { y with copyB := u }) x) = kept x := kept_updBoot _ _ ⟨rfl, rfl, rfl⟩
    exact bk_trans (bk_takeImages _ _ (by rw [stage_of hu]; exact hn)) (bk_kept (hu.trans he))
  dsimp only
  refine bk_ite (fun _ => h5) fun _ => bk_ite (fun _ => h15) fun _ => bk_ite (fun _ => ?_) fun _ => bk_ite (fun _ => h5) fun _ => h15
  exact bk_ite (fun _ => bk_trans (bk_kept (kept_raise _ _ _)) (ht _ _)) (fun _ => ht _ _)
theorem bk_keyDerive (s : State) (h : s.boot.stage = 6) : bootKept s (keyDerive s) := by
  have he := (kept_deriveKeys (extend 5 (sha384 (Config.bootText (strapBits s) s.attest.lc (bootImage s 5))) s)).trans (kept_extend _ _ s)
  unfold keyDerive
  exact bk_trans (bk_stage (fun _ => by rw [stage_of he, h]; decide) 7 rfl (by decide) (by decide) rfl rfl) (bk_kept he)
theorem bk_dealerStart (d : Nat) (s : State) (h : s.boot.stage = 7) : bootKept s (dealerStart d s) := by
  unfold dealerStart
  have h0 : bootKept s (updBoot (fun b => { b with
      stage := 8, romVersion := Config.versionOf 0 Config.romDigest % 2 ^ 32
      dealerVersion := imageVersion s 2, trickVersion := imageVersion s 3, gnssVersion := imageVersion s 4 }) s) :=
    bk_stage (fun _ => by rw [h]; decide) 8 rfl (by decide) (by decide) rfl rfl
  revert h0
  generalize updBoot (fun b => { b with
      stage := 8, romVersion := Config.versionOf 0 Config.romDigest % 2 ^ 32
      dealerVersion := imageVersion s 2, trickVersion := imageVersion s 3, gnssVersion := imageVersion s 4 }) s = x
  intro h0
  have h1 := bk_trans (bk_kept (kept_scoreBoot d x)) h0
  have key : ∀ z, bootKept s z → bootKept s (let y := z.boot.faults.foldl (fun s e => occur 0x2D e.cause s) z
      if y.boot.faults.isEmpty then y else raise 1 2 y) := by
    intro z hz
    have h3 := bk_trans (bk_foldl (fun s (e : FaultEntry) => occur 0x2D e.cause s) (fun s e => bk_kept (kept_occur _ _ _)) z.boot.faults z) hz
    exact bk_ite (fun _ => h3) (fun _ => bk_trans (bk_kept (kept_raise _ _ _)) h3)
  exact key _ (bk_ite (fun _ => bk_trans (bk_kept (kept_occur _ _ _)) h1) (fun _ => h1))
theorem bk_ready (s : State) (h : s.boot.stage = 8) : bootKept s (ready s) := by
  unfold ready
  refine bk_ite (fun _ => bk_refl s) fun _ => bk_trans (bk_kept ((kept_acceptGo _).trans (kept_raise _ _ _))) ?_
  refine bk_updBoot fun i => ⟨Or.inl (Nat.le_of_ble_eq_true rfl), fun _ => Eq.refl _, ?_⟩
  constructor
  · intro hr; have := i.2.2.1.1 hr; omega
  · intro hr; cases hr
theorem kept1_startCmd (op : Nat) (h : Nat → Handler) (hk : ∀ a q s, (h a q s).keeps s) (a : Nat) (q : Req) (s : State) : (kept (startCmd op h a q s).2).1 = (kept s).1 := by
  have h0 : (kept (forwardMirror op q s)).1 = (kept s).1 := congrArg Prod.fst (kept_forwardMirror op q s)
  unfold startCmd
  revert h0
  generalize forwardMirror op q s = x
  intro h0
  dsimp only
  split
  · exact (congrArg Prod.fst (kept_reply _ _ _ _ _ _)).trans h0
  · have hx := hk a q x
    split
    · rename_i e; rw [e] at hx; exact (congrArg Prod.fst (kept_reply _ _ _ _ _ _)).trans (Eq.trans hx h0)
    · exact (congrArg Prod.fst (kept_reply _ _ _ _ _ _)).trans h0
    · rename_i e; rw [e] at hx; exact (congrArg Prod.fst (kept_reply _ _ _ _ _ _)).trans (Eq.trans hx h0)
    · rename_i e; rw [e] at hx; exact Eq.trans hx h0
theorem kept1_startEntry (e : QEntry) (h : Nat → Handler) (hk : ∀ a q s, (h a q s).keeps s) (s : State) : (kept (startEntry e h s)).1 = (kept s).1 := by
  have h0 : ∀ (p : HostPart), kept { s with host := p } = kept s := by intro p; simp only [kept_mk, kept_eta]
  unfold startEntry
  rw [kept_acceptGo, kept1_startCmd _ _ hk, h0]
theorem kept1_runCmdAt (op : Nat) (h : Nat → Handler) (hk : ∀ a q s, (h a q s).keeps s) (q : Req) (s : State) : (kept (runCmdAt op h q s)).1 = (kept s).1 := by
  have h0 : (kept (begin_ q.time s)).1 = (kept s).1 := congrArg Prod.fst (kept_begin_ _ _)
  unfold runCmdAt
  revert h0
  generalize begin_ q.time s = x
  intro h0
  dsimp only
  split
  · exact h0
  · split
    · split
      · exact (kept1_startEntry _ _ hk _).trans h0
      · exact h0
    · split
      · exact (congrArg Prod.fst (kept_refuseSlot _ _ _)).trans h0
      · split
        · exact h0
        · have h1 := (congrArg Prod.fst (kept_submit op q x)).trans h0
          split
          · split
            · exact (kept1_startEntry _ _ hk _).trans h1
            · exact h1
          · exact h1
theorem kept1_runCmd (op : Nat) (h : Handler) (hk : ∀ q s, (h q s).keeps s) (q : Req) (s : State) : (kept (runCmd op h q s)).1 = (kept s).1 :=
  kept1_runCmdAt op _ (fun _ => hk) q s
theorem kept1_tryCommit {s t : State} (h : tryCommit s = .ok t) : (kept t).1 = (kept s).1 := by
  unfold tryCommit at h
  split at h
  · cases h
  · rw [← Except.ok.inj h]; exact kept1_applyCommit s
theorem kept1_commitWaiting (n : Nat) (s : State) : (kept (commitWaiting n s)).1 = (kept s).1 := by
  induction n generalizing s with
  | zero => rfl
  | succ n ih =>
    unfold commitWaiting
    split
    · rfl
    · split
      · exact (ih _).trans (congrArg Prod.fst (kept_finishWait _ _ _ _ _))
      · rename_i e
        exact (ih _).trans ((congrArg Prod.fst (kept_finishWait _ _ _ _ _)).trans (kept1_tryCommit e))
theorem kept1_mirroredCommit (s : State) : (kept (mirroredCommit s)).1 = (kept s).1 := by
  unfold mirroredCommit
  split
  · rfl
  · split
    · rfl
    · exact (kept1_commitWaiting _ _).trans (congrArg Prod.fst
        ((kept_updPair _ _).trans ((kept_handFrom _).trans (kept_waitUntil _ _))))
theorem keeps_handlerOf {op : Nat} {h : Nat → Handler} (e : handlerOf op = some h) (a : Nat) (q : Req) (s : State) : (h a q s).keeps s := by
  unfold handlerOf at e
  split at e
  all_goals first
    | (cases e; done)
    | (have e' := Option.some.inj e; subst e'; first
      | with_reducible exact keeps_hAttestMeasurements _ _
      | with_reducible exact keeps_hAttestQuote _ _
      | with_reducible exact keeps_hAudGroupConfigure _ _
      | with_reducible exact keeps_hAudGroupStart _ _
      | with_reducible exact keeps_hAudGroupStop _ _
      | with_reducible exact keeps_hAudPortConfigure _ _
      | with_reducible exact keeps_hAudStatus _ _
      | with_reducible exact keeps_hBoundPolicy _ _
      | with_reducible exact keeps_hBoundRead _ _
      | with_reducible exact keeps_hDpllConfigure _ _
      | with_reducible exact keeps_hDpllStatus _ _
      | with_reducible exact keeps_hGnssAid _ _
      | with_reducible exact keeps_hGnssConfigure _ _
      | with_reducible exact keeps_hGnssNavData _ _
      | with_reducible exact keeps_hGnssStatus _ _
      | with_reducible exact keeps_hGnssSurvey _ _
      | with_reducible exact keeps_hGrantQuery _ _
      | with_reducible exact keeps_hGrantRevoke _ _
      | with_reducible exact keeps_hHoldModelRead _ _
      | with_reducible exact keeps_hHoldModelSet _ _
      | with_reducible exact keeps_hJumpAccept _ _
      | with_reducible exact keeps_hKeyErase _ _
      | with_reducible exact keeps_hKeyInfo _ _
      | with_reducible exact keeps_hKeyWrite _ _
      | with_reducible exact keeps_hLcAdvance _ _
      | with_reducible exact keeps_hLcStatus _ _
      | with_reducible exact keeps_hLeapConfigure _ _
      | with_reducible exact keeps_hMeldClockSet _ _
      | with_reducible exact keeps_hMeldConfigure _ _
      | with_reducible exact keeps_hMeldStatus _ _
      | with_reducible exact keeps_hNtpConfigure _ _
      | with_reducible exact keeps_hNtpRatePolicy _ _
      | with_reducible exact keeps_hNtpStatus _ _
      | with_reducible exact keeps_hNtsCookieMint _ _
      | with_reducible exact keeps_hNtsKeyLoad _ _
      | with_reducible exact keeps_hNtsKeyRotate _ _
      | with_reducible exact keeps_hOutAlign _ _
      | with_reducible exact keeps_hOutConfigure _ _
      | with_reducible exact keeps_hOutEnable _ _
      | with_reducible exact keeps_hOutStatus _ _
      | with_reducible exact keeps_hPairClaimSet _ _
      | with_reducible exact keeps_hPairConfigure _ _
      | with_reducible exact keeps_hPairResync _ _
      | with_reducible exact keeps_hPairSelftestReport _ _
      | with_reducible exact keeps_hPairStatus _ _
      | with_reducible exact keeps_hPairSwitch _ _
      | with_reducible exact keeps_hPerfFilterSet _ _
      | with_reducible exact keeps_hPerfRead _ _
      | with_reducible exact keeps_hPerfWindowSet _ _
      | with_reducible exact keeps_hPortCalibrate _ _
      | with_reducible exact keeps_hPortConfigure _ _
      | with_reducible exact keeps_hPortFlowControl _ _
      | with_reducible exact keeps_hPortStatus _ _
      | with_reducible exact keeps_hPortSynce _ _
      | with_reducible exact keeps_hPtpBind _ _
      | with_reducible exact keeps_hPtpConfigure _ _
      | with_reducible exact keeps_hPtpCreate _ _
      | with_reducible exact keeps_hPtpDelete _ _
      | with_reducible exact keeps_hPtpStatus _ _
      | with_reducible exact keeps_hRcptConfigure _ _
      | with_reducible exact keeps_hRcptStatus _ _
      | with_reducible exact keeps_hRecCommitNow _ _
      | with_reducible exact keeps_hRecConfigure _ _
      | with_reducible exact keeps_hRecRead _ _
      | with_reducible exact keeps_hRefConfigure _ _
      | with_reducible exact keeps_hRefQualifyPolicy _ _
      | with_reducible exact keeps_hRefStatus _ _
      | with_reducible exact keeps_hRingConfigure _ _
      | with_reducible exact keeps_hRingStatus _ _
      | with_reducible exact keeps_hRootStatus _ _
      | with_reducible exact keeps_hSaLoad _ _
      | with_reducible exact keeps_hSelConfigure _ _
      | with_reducible exact keeps_hSelForceRestore _ _
      | with_reducible exact keeps_hSelSelect _ _
      | with_reducible exact keeps_hSelStatus _ _
      | with_reducible exact keeps_hSvcAdmission _ _
      | with_reducible exact keeps_hSvcConfigure _ _
      | with_reducible exact keeps_hSvcStatus _ _
      | with_reducible exact keeps_hSysConfigCommit _ _
      | with_reducible exact keeps_hSysConfigDigest _ _
      | with_reducible exact keeps_hSysIdentify _ _
      | with_reducible exact keeps_hSysResetBlock _ _
      | with_reducible exact keeps_hSysStatus _ _
      | with_reducible exact keeps_hTdcArm _ _
      | with_reducible exact keeps_hTdcConfigure _ _
      | with_reducible exact keeps_hTdcRead _ _
      | with_reducible exact keeps_hTdcStats _ _
      | with_reducible exact keeps_hTimeRead _ _
      | with_reducible exact keeps_hTimeSet _ _
      | with_reducible exact keeps_hTimeSlew _ _
      | with_reducible exact keeps_hTimeStep _ _
      | with_reducible exact keeps_hTodoutConfigure _ _
      | exact keeps_hSysEcho _ _ _)
theorem keeps_meaningOf (op a : Nat) (q : Req) (s : State) : (meaningOf op a q s).keeps s := by
  unfold meaningOf
  cases e : handlerOf op with
  | none => exact keeps_hBadOpcode q s
  | some h => exact keeps_handlerOf e a q s
theorem kept1_imagePacket (k : Nat) (b : Bytes) (s : State) : (kept (imagePacket k b s)).1 = (kept s).1 := by
  unfold imagePacket
  dsimp only
  split
  · exact congrArg Prod.fst ((kept_imageError _ _).trans (kept_reply _ _ _ _ _ _))
  · have h := kept1_startCmd (packetOf .image b s.now).1 (meaningOf (packetOf .image b s.now).1) (fun a q s => keeps_meaningOf _ a q s) (curTs s) (packetOf .image b s.now).2 s
    split
    · exact h
    · exact (congrArg Prod.fst (kept_imageError _ _)).trans h
theorem kept1_configImage (s : State) : (kept (configImage s)).1 = (kept s).1 := by
  unfold configImage
  split
  · rfl
  · have h : ∀ (l : List (Bytes × Nat)) (x : State), (kept (l.foldl (fun s x => imagePacket x.2 x.1 s) x)).1 = (kept x).1 := by
      intro l
      induction l with
      | nil => intro x; rfl
      | cons a l ih => intro x; exact (ih _).trans (kept1_imagePacket _ _ _)
    exact (congrArg Prod.fst (kept_updBoot _ _ ⟨rfl, rfl, rfl⟩)).trans (h _ _)

theorem kept1_lockCommand (op tag : Nat) (p : Bytes) (s : State) : (kept (lockCommand op tag p s)).1 = (kept s).1 := by
  unfold lockCommand
  split
  · rfl
  · dsimp only
    split
    all_goals first
      | rfl
      | (simp only [kept_mk, kept1_eta]; exact congrArg Prod.fst (kept_moveTo _ _))
theorem kept1_lockInput (x : LockInput) (s : State) : (kept (lockInput x s)).1 = (kept s).1 := by
  unfold lockInput
  split
  · exact kept1_lockCommand _ _ _ _
  · exact congrArg Prod.fst (kept_updPtp _ _)
  · exact congrArg Prod.fst (kept_updPtp _ _)
  · exact congrArg Prod.fst (kept_updPtp _ _)
  · exact congrArg Prod.fst (kept_updPtp _ _)
  · exact congrArg Prod.fst (kept_rotate _ _)
  · simp only [kept_mk, kept1_eta]
  · exact congrArg Prod.fst (kept_updPair _ _)
  · simp only [kept_mk, kept1_eta]
theorem kept1_lockstepInput (t : Nat) (x : LockInput) (s : State) : (kept (lockstepInput t x s)).1 = (kept s).1 := by
  have h0 : (kept (begin_ t s)).1 = (kept s).1 := congrArg Prod.fst (kept_begin_ _ _)
  unfold lockstepInput
  revert h0
  generalize begin_ t s = y
  intro h0
  dsimp only
  split
  · exact (kept1_lockInput _ _).trans h0
  · exact h0
theorem row_execTimeRead (q : Req) (s : State) {t' : State} (hx : execTimeRead q s = .next t') : bootKept s t' := by
  rw [← Outcome.next.inj hx]; exact bk_of (kept1_runCmd _ _ keeps_hTimeRead q s)
theorem row_execTimeSet (q : Req) (s : State) {t' : State} (hx : execTimeSet q s = .next t') : bootKept s t' := by
  rw [← Outcome.next.inj hx]; exact bk_of (kept1_runCmd _ _ keeps_hTimeSet q s)
theorem row_execTimeStep (q : Req) (s : State) {t' : State} (hx : execTimeStep q s = .next t') : bootKept s t' := by
  rw [← Outcome.next.inj hx]; exact bk_of (kept1_runCmd _ _ keeps_hTimeStep q s)
theorem same_execScheduledStepApply (s : State) {t' : State} (hx : execScheduledStepApply s = .next t') : kept t' = kept s := by
  rw [← Outcome.next.inj hx]
  refine (kept_whileRunning (fun x => ?_) _).trans ?_ <;> simp only [kept_mk, kept_eta, kept_ite, ite_self, and_self, kept_applyPending]
theorem row_execTimeSlew (q : Req) (s : State) {t' : State} (hx : execTimeSlew q s = .next t') : bootKept s t' := by
  rw [← Outcome.next.inj hx]; exact bk_of (kept1_runCmd _ _ keeps_hTimeSlew q s)
theorem same_execSlewDone (s : State) {t' : State} (hx : execSlewDone s = .next t') : kept t' = kept s := by
  rw [← Outcome.next.inj hx]
  refine (kept_whileRunning (fun x => ?_) _).trans ?_ <;> simp only [kept_mk, kept_eta, kept_ite, ite_self, and_self, kept_endSlew]
theorem row_execLeapConfigure (q : Req) (s : State) {t' : State} (hx : execLeapConfigure q s = .next t') : bootKept s t' := by
  rw [← Outcome.next.inj hx]; exact bk_of (kept1_runCmd _ _ keeps_hLeapConfigure q s)
theorem same_execLeapApplied (s : State) {t' : State} (hx : execLeapApplied s = .next t') : kept t' = kept s := by
  rw [← Outcome.next.inj hx]
  refine (kept_whileRunning (fun x => ?_) _).trans ?_ <;> simp only [kept_mk, kept_eta, kept_ite, ite_self, and_self, kept_applyLeap]
theorem same_execTimeLatchLoRead (i : Iface) (t : Nat) (s : State) {t' : State} (hx : execTimeLatchLoRead i t s = .next t') : kept t' = kept s := by
  rw [← Outcome.next.inj hx]
  first
    | (simp only [kept_mk, kept_eta, kept_ite, ite_self, and_self, kept_latchRead]; done)
    | (repeat' split
       all_goals simp only [kept_mk, kept_eta, kept_ite, ite_self, and_self, kept_latchRead])
theorem same_execZdaSentence (t : Nat) (framingOk : Bool) (sentence : Bytes) (s : State) {t' : State} (hx : execZdaSentence t framingOk sentence s = .next t') : kept t' = kept s := by
  rw [← Outcome.next.inj hx]
  first
    | (simp only [kept_mk, kept_eta, kept_ite, ite_self, and_self, kept_begin_, kept_zdaSentence]; done)
    | (repeat' split
       all_goals simp only [kept_mk, kept_eta, kept_ite, ite_self, and_self, kept_begin_, kept_zdaSentence])
theorem same_execRefSample (src t : Nat) (d : SampleData) (s : State) {t' : State} (hx : execRefSample src t d s = .next t') : kept t' = kept s := by
  rw [← Outcome.next.inj hx]
  first
    | (simp only [kept_mk, kept_eta, kept_ite, ite_self, and_self, kept_refSample]; done)
    | (repeat' split
       all_goals simp only [kept_mk, kept_eta, kept_ite, ite_self, and_self, kept_refSample])
theorem same_execActivityMiss (src : Nat) (s : State) {t' : State} (hx : execActivityMiss src s = .next t') : kept t' = kept s := by
  rw [← Outcome.next.inj hx]
  refine (kept_whileRunning (fun x => ?_) _).trans ?_ <;> simp only [kept_mk, kept_eta, kept_ite, ite_self, and_self, kept_activityMiss]
theorem same_execNoStampedEdge (src : Nat) (s : State) {t' : State} (hx : execNoStampedEdge src s = .next t') : kept t' = kept s := by
  rw [← Outcome.next.inj hx]
  refine (kept_whileRunning (fun x => ?_) _).trans ?_ <;> simp only [kept_mk, kept_eta, kept_ite, ite_self, and_self, kept_noStampedEdge]
theorem same_execFreqUpdate (src : Nat) (s : State) {t' : State} (hx : execFreqUpdate src s = .next t') : kept t' = kept s := by
  rw [← Outcome.next.inj hx]
  refine (kept_whileRunning (fun x => ?_) _).trans ?_ <;> simp only [kept_mk, kept_eta, kept_ite, ite_self, and_self, kept_freqUpdate]
theorem same_execQualTimeExpiry (src : Nat) (s : State) {t' : State} (hx : execQualTimeExpiry src s = .next t') : kept t' = kept s := by
  rw [← Outcome.next.inj hx]
  refine (kept_whileRunning (fun x => ?_) _).trans ?_ <;> simp only [kept_mk, kept_eta, kept_ite, ite_self, and_self, kept_qualTimeExpiry]
theorem same_execWtrExpiry (src : Nat) (s : State) {t' : State} (hx : execWtrExpiry src s = .next t') : kept t' = kept s := by
  rw [← Outcome.next.inj hx]
  refine (kept_whileRunning (fun x => ?_) _).trans ?_ <;> simp only [kept_mk, kept_eta, kept_ite, ite_self, and_self, kept_wtrExpiry]
theorem same_execSplitTimer (domain a b : Nat) (byPhase : Bool) (s : State) {t' : State} (hx : execSplitTimer domain a b byPhase s = .next t') : kept t' = kept s := by
  rw [← Outcome.next.inj hx]
  refine (kept_whileRunning (fun x => ?_) _).trans ?_ <;> simp only [kept_mk, kept_eta, kept_ite, ite_self, and_self, kept_splitTimer]
theorem row_execRefConfigure (q : Req) (s : State) {t' : State} (hx : execRefConfigure q s = .next t') : bootKept s t' := by
  rw [← Outcome.next.inj hx]; exact bk_of (kept1_runCmd _ _ keeps_hRefConfigure q s)
theorem row_execRefQualifyPolicy (q : Req) (s : State) {t' : State} (hx : execRefQualifyPolicy q s = .next t') : bootKept s t' := by
  rw [← Outcome.next.inj hx]; exact bk_of (kept1_runCmd _ _ keeps_hRefQualifyPolicy q s)
theorem row_execRefStatus (q : Req) (s : State) {t' : State} (hx : execRefStatus q s = .next t') : bootKept s t' := by
  rw [← Outcome.next.inj hx]; exact bk_of (kept1_runCmd _ _ keeps_hRefStatus q s)
theorem row_execSelConfigure (q : Req) (s : State) {t' : State} (hx : execSelConfigure q s = .next t') : bootKept s t' := by
  rw [← Outcome.next.inj hx]; exact bk_of (kept1_runCmd _ _ keeps_hSelConfigure q s)
theorem row_execSelSelect (q : Req) (s : State) {t' : State} (hx : execSelSelect q s = .next t') : bootKept s t' := by
  rw [← Outcome.next.inj hx]; exact bk_of (kept1_runCmd _ _ keeps_hSelSelect q s)
theorem row_execSelStatus (q : Req) (s : State) {t' : State} (hx : execSelStatus q s = .next t') : bootKept s t' := by
  rw [← Outcome.next.inj hx]; exact bk_of (kept1_runCmd _ _ keeps_hSelStatus q s)
theorem row_execSelForceRestore (q : Req) (s : State) {t' : State} (hx : execSelForceRestore q s = .next t') : bootKept s t' := by
  rw [← Outcome.next.inj hx]; exact bk_of (kept1_runCmd _ _ keeps_hSelForceRestore q s)
theorem row_execDpllConfigure (q : Req) (s : State) {t' : State} (hx : execDpllConfigure q s = .next t') : bootKept s t' := by
  rw [← Outcome.next.inj hx]; exact bk_of (kept1_runCmd _ _ keeps_hDpllConfigure q s)
theorem row_execDpllStatus (q : Req) (s : State) {t' : State} (hx : execDpllStatus q s = .next t') : bootKept s t' := by
  rw [← Outcome.next.inj hx]; exact bk_of (kept1_runCmd _ _ keeps_hDpllStatus q s)
theorem row_execHoldModelSet (q : Req) (s : State) {t' : State} (hx : execHoldModelSet q s = .next t') : bootKept s t' := by
  rw [← Outcome.next.inj hx]; exact bk_of (kept1_runCmd _ _ keeps_hHoldModelSet q s)
theorem row_execHoldModelRead (q : Req) (s : State) {t' : State} (hx : execHoldModelRead q s = .next t') : bootKept s t' := by
  rw [← Outcome.next.inj hx]; exact bk_of (kept1_runCmd _ _ keeps_hHoldModelRead q s)
theorem row_execJumpAccept (q : Req) (s : State) {t' : State} (hx : execJumpAccept q s = .next t') : bootKept s t' := by
  rw [← Outcome.next.inj hx]; exact bk_of (kept1_runCmd _ _ keeps_hJumpAccept q s)
theorem same_execDpllLock (domain : Nat) (s : State) {t' : State} (hx : execDpllLock domain s = .next t') : kept t' = kept s := by
  rw [← Outcome.next.inj hx]
  refine (kept_whileRunning (fun x => ?_) _).trans ?_ <;> simp only [kept_mk, kept_eta, kept_ite, ite_self, and_self, kept_dpllLock]
theorem same_execFreqStepEstimate (domain : Nat) (s : State) {t' : State} (hx : execFreqStepEstimate domain s = .next t') : kept t' = kept s := by
  rw [← Outcome.next.inj hx]
  refine (kept_whileRunning (fun x => ?_) _).trans ?_ <;> simp only [kept_mk, kept_eta, kept_ite, ite_self, and_self, kept_freqStepEstimate]
theorem same_execModelLearned (s : State) {t' : State} (hx : execModelLearned s = .next t') : kept t' = kept s := by
  rw [← Outcome.next.inj hx]
  refine (kept_whileRunning (fun x => ?_) _).trans ?_ <;> simp only [kept_mk, kept_eta, kept_ite, ite_self, and_self, kept_modelLearned]
theorem same_execSteerPeriod (s : State) {t' : State} (hx : execSteerPeriod s = .next t') : kept t' = kept s := by
  rw [← Outcome.next.inj hx]
  refine (kept_whileRunning (fun x => ?_) _).trans ?_ <;> simp only [kept_mk, kept_eta, kept_ite, ite_self, and_self, kept_steerPeriod]
theorem same_execSteerSent (t : Nat) (s : State) {t' : State} (hx : execSteerSent t s = .next t') : kept t' = kept s := by
  rw [← Outcome.next.inj hx]
  first
    | (simp only [kept_mk, kept_eta, kept_ite, ite_self, and_self, kept_begin_, kept_steerSent]; done)
    | (repeat' split
       all_goals simp only [kept_mk, kept_eta, kept_ite, ite_self, and_self, kept_begin_, kept_steerSent])
theorem same_execSteerAck (t : Nat) (received : Bytes) (s : State) {t' : State} (hx : execSteerAck t received s = .next t') : kept t' = kept s := by
  rw [← Outcome.next.inj hx]
  first
    | (simp only [kept_mk, kept_eta, kept_ite, ite_self, and_self, kept_begin_, kept_steerAck]; done)
    | (repeat' split
       all_goals simp only [kept_mk, kept_eta, kept_ite, ite_self, and_self, kept_begin_, kept_steerAck])
theorem same_execSteerNoack (s : State) {t' : State} (hx : execSteerNoack s = .next t') : kept t' = kept s := by
  rw [← Outcome.next.inj hx]
  refine (kept_whileRunning (fun x => ?_) _).trans ?_ <;> simp only [kept_mk, kept_eta, kept_ite, ite_self, and_self, kept_steerNoack]
theorem same_execClassChange (t : Nat) (s : State) {t' : State} (hx : execClassChange t s = .next t') : kept t' = kept s := by
  rw [← Outcome.next.inj hx]
  first
    | (simp only [kept_mk, kept_eta, kept_ite, ite_self, and_self, kept_begin_, kept_boundGrown]; done)
    | (repeat' split
       all_goals simp only [kept_mk, kept_eta, kept_ite, ite_self, and_self, kept_begin_, kept_boundGrown])
theorem same_execBoundAlert (t : Nat) (s : State) {t' : State} (hx : execBoundAlert t s = .next t') : kept t' = kept s := by
  rw [← Outcome.next.inj hx]
  refine (kept_whileRunning (fun x => ?_) _).trans ?_ <;> simp only [kept_mk, kept_eta, kept_ite, ite_self, and_self, kept_begin_, kept_settleBound]
theorem row_execMeldConfigure (q : Req) (s : State) {t' : State} (hx : execMeldConfigure q s = .next t') : bootKept s t' := by
  rw [← Outcome.next.inj hx]; exact bk_of (kept1_runCmd _ _ keeps_hMeldConfigure q s)
theorem row_execMeldClockSet (q : Req) (s : State) {t' : State} (hx : execMeldClockSet q s = .next t') : bootKept s t' := by
  rw [← Outcome.next.inj hx]; exact bk_of (kept1_runCmd _ _ keeps_hMeldClockSet q s)
theorem row_execMeldStatus (q : Req) (s : State) {t' : State} (hx : execMeldStatus q s = .next t') : bootKept s t' := by
  rw [← Outcome.next.inj hx]; exact bk_of (kept1_runCmd _ _ keeps_hMeldStatus q s)
theorem same_execMeldUpdate (s : State) {t' : State} (hx : execMeldUpdate s = .next t') : kept t' = kept s := by
  rw [← Outcome.next.inj hx]
  first
    | (simp only [kept_mk, kept_eta, kept_ite, ite_self, and_self, kept_meldUpdate]; done)
    | (repeat' split
       all_goals simp only [kept_mk, kept_eta, kept_ite, ite_self, and_self, kept_meldUpdate])
theorem same_execMeldUpdateDone (t : Nat) (s : State) {t' : State} (hx : execMeldUpdateDone t s = .next t') : kept t' = kept s := by
  rw [← Outcome.next.inj hx]
  first
    | (simp only [kept_mk, kept_eta, kept_ite, ite_self, and_self, kept_begin_, kept_meldUpdateDone]; done)
    | (repeat' split
       all_goals simp only [kept_mk, kept_eta, kept_ite, ite_self, and_self, kept_begin_, kept_meldUpdateDone])
theorem same_execOutlierClearExpiry (slot : Nat) (s : State) {t' : State} (hx : execOutlierClearExpiry slot s = .next t') : kept t' = kept s := by
  rw [← Outcome.next.inj hx]
  refine (kept_whileRunning (fun x => ?_) _).trans ?_ <;> simp only [kept_mk, kept_eta, kept_ite, ite_self, and_self, kept_outlierClear]
theorem same_execHorizon (s : State) {t' : State} (hx : execHorizon s = .next t') : kept t' = kept s := by
  rw [← Outcome.next.inj hx]
  refine (kept_whileRunning (fun x => ?_) _).trans ?_ <;> simp only [kept_mk, kept_eta, kept_ite, ite_self, and_self, kept_horizon]
theorem same_execGnssEpoch (meas : List SatMeas) (fix : Option SatFix) (s : State) {t' : State} (hx : execGnssEpoch meas fix s = .next t') : kept t' = kept s := by
  rw [← Outcome.next.inj hx]
  first
    | (simp only [kept_mk, kept_eta, kept_ite, ite_self, and_self, kept_gnssEpoch]; done)
    | (repeat' split
       all_goals simp only [kept_mk, kept_eta, kept_ite, ite_self, and_self, kept_gnssEpoch])
theorem same_execGnssSample (t : Nat) (s : State) {t' : State} (hx : execGnssSample t s = .next t') : kept t' = kept s := by
  rw [← Outcome.next.inj hx]
  refine (kept_whileRunning (fun x => ?_) _).trans ?_ <;> simp only [kept_mk, kept_eta, kept_ite, ite_self, and_self, kept_gnssSample]
theorem same_execClkFault (t : Nat) (s : State) {t' : State} (hx : execClkFault t s = .next t') : kept t' = kept s := by
  rw [← Outcome.next.inj hx]
  refine (kept_whileRunning (fun x => ?_) _).trans ?_ <;> simp only [kept_mk, kept_eta, kept_ite, ite_self, and_self, kept_begin_, kept_clkFault]
theorem same_execGnssClockFit (t : Nat) (block : List GnssBits) (s : State) {t' : State} (hx : execGnssClockFit t block s = .next t') : kept t' = kept s := by
  rw [← Outcome.next.inj hx]
  first
    | (simp only [kept_mk, kept_eta, kept_ite, ite_self, and_self, kept_begin_, kept_clockFit]; done)
    | (repeat' split
       all_goals simp only [kept_mk, kept_eta, kept_ite, ite_self, and_self, kept_begin_, kept_clockFit])
theorem same_execGspiWritesDone (t : Nat) (s : State) {t' : State} (hx : execGspiWritesDone t s = .next t') : kept t' = kept s := by
  rw [← Outcome.next.inj hx]
  refine (kept_whileRunning (fun x => ?_) _).trans ?_ <;> simp only [kept_mk, kept_eta, kept_ite, ite_self, and_self, kept_begin_, kept_updGnss]
theorem same_execAcquisitionDwell (t prn : Nat) (found : Option (Int × Int)) (s : State) {t' : State} (hx : execAcquisitionDwell t prn found s = .next t') : kept t' = kept s := by
  rw [← Outcome.next.inj hx]
  first
    | (simp only [kept_mk, kept_eta, kept_ite, ite_self, and_self, kept_begin_, kept_dwell]; done)
    | (repeat' split
       all_goals simp only [kept_mk, kept_eta, kept_ite, ite_self, and_self, kept_begin_, kept_dwell])
theorem same_execChannelLockLost (t prn : Nat) (s : State) {t' : State} (hx : execChannelLockLost t prn s = .next t') : kept t' = kept s := by
  rw [← Outcome.next.inj hx]
  first
    | (simp only [kept_mk, kept_eta, kept_ite, ite_self, and_self, kept_begin_, kept_lockLost]; done)
    | (repeat' split
       all_goals simp only [kept_mk, kept_eta, kept_ite, ite_self, and_self, kept_begin_, kept_lockLost])
theorem same_execReacquireTimeout (prn : Nat) (s : State) {t' : State} (hx : execReacquireTimeout prn s = .next t') : kept t' = kept s := by
  rw [← Outcome.next.inj hx]
  refine (kept_whileRunning (fun x => ?_) _).trans ?_ <;> simp only [kept_mk, kept_eta, kept_ite, ite_self, and_self, kept_reacquireTimeout]
theorem same_execNavNew (t kind prn : Nat) (words : Bytes) (s : State) {t' : State} (hx : execNavNew t kind prn words s = .next t') : kept t' = kept s := by
  rw [← Outcome.next.inj hx]
  first
    | (simp only [kept_mk, kept_eta, kept_ite, ite_self, and_self, kept_begin_, kept_navNew]; done)
    | (repeat' split
       all_goals simp only [kept_mk, kept_eta, kept_ite, ite_self, and_self, kept_begin_, kept_navNew])
theorem same_execSurveySecond (s : State) {t' : State} (hx : execSurveySecond s = .next t') : kept t' = kept s := by
  rw [← Outcome.next.inj hx]
  refine (kept_whileRunning (fun x => ?_) _).trans ?_ <;> simp only [kept_mk, kept_eta, kept_ite, ite_self, and_self, kept_surveySecond]
theorem row_execGnssConfigure (q : Req) (s : State) {t' : State} (hx : execGnssConfigure q s = .next t') : bootKept s t' := by
  rw [← Outcome.next.inj hx]; exact bk_of (kept1_runCmd _ _ keeps_hGnssConfigure q s)
theorem row_execGnssAid (q : Req) (s : State) {t' : State} (hx : execGnssAid q s = .next t') : bootKept s t' := by
  rw [← Outcome.next.inj hx]; exact bk_of (kept1_runCmd _ _ keeps_hGnssAid q s)
theorem row_execGnssSurvey (q : Req) (s : State) {t' : State} (hx : execGnssSurvey q s = .next t') : bootKept s t' := by
  rw [← Outcome.next.inj hx]; exact bk_of (kept1_runCmd _ _ keeps_hGnssSurvey q s)
theorem row_execGnssStatus (q : Req) (s : State) {t' : State} (hx : execGnssStatus q s = .next t') : bootKept s t' := by
  rw [← Outcome.next.inj hx]; exact bk_of (kept1_runCmd _ _ keeps_hGnssStatus q s)
theorem row_execGnssNavData (q : Req) (s : State) {t' : State} (hx : execGnssNavData q s = .next t') : bootKept s t' := by
  rw [← Outcome.next.inj hx]; exact bk_of (kept1_runCmd _ _ keeps_hGnssNavData q s)
theorem row_execRootStatus (q : Req) (s : State) {t' : State} (hx : execRootStatus q s = .next t') : bootKept s t' := by
  rw [← Outcome.next.inj hx]; exact bk_of (kept1_runCmd _ _ keeps_hRootStatus q s)
theorem same_execExcursionEnd (t : Nat) (s : State) {t' : State} (hx : execExcursionEnd t s = .next t') : kept t' = kept s := by
  rw [← Outcome.next.inj hx]
  refine (kept_whileRunning (fun x => ?_) _).trans ?_ <;> simp only [kept_mk, kept_eta, kept_ite, ite_self, and_self, kept_begin_, kept_excursionEnd]
theorem same_execOutputRisingEdge (n : Nat) (s : State) {t' : State} (hx : execOutputRisingEdge n s = .next t') : kept t' = kept s := by
  rw [← Outcome.next.inj hx]
  first
    | (simp only [kept_mk, kept_eta, kept_ite, ite_self, and_self, kept_outputEdge]; done)
    | (repeat' split
       all_goals simp only [kept_mk, kept_eta, kept_ite, ite_self, and_self, kept_outputEdge])
theorem same_execOutputStart (n : Nat) (s : State) {t' : State} (hx : execOutputStart n s = .next t') : kept t' = kept s := by
  rw [← Outcome.next.inj hx]
  first
    | (simp only [kept_mk, kept_eta, kept_ite, ite_self, and_self, kept_outputStart]; done)
    | (repeat' split
       all_goals simp only [kept_mk, kept_eta, kept_ite, ite_self, and_self, kept_outputStart])
theorem row_execOutConfigure (q : Req) (s : State) {t' : State} (hx : execOutConfigure q s = .next t') : bootKept s t' := by
  rw [← Outcome.next.inj hx]; exact bk_of (kept1_runCmd _ _ keeps_hOutConfigure q s)
theorem row_execOutEnable (q : Req) (s : State) {t' : State} (hx : execOutEnable q s = .next t') : bootKept s t' := by
  rw [← Outcome.next.inj hx]; exact bk_of (kept1_runCmd _ _ keeps_hOutEnable q s)
theorem row_execOutStatus (q : Req) (s : State) {t' : State} (hx : execOutStatus q s = .next t') : bootKept s t' := by
  rw [← Outcome.next.inj hx]; exact bk_of (kept1_runCmd _ _ keeps_hOutStatus q s)
theorem row_execOutAlign (q : Req) (s : State) {t' : State} (hx : execOutAlign q s = .next t') : bootKept s t' := by
  rw [← Outcome.next.inj hx]; exact bk_of (kept1_runCmd _ _ keeps_hOutAlign q s)
theorem same_execAlignPulse (n t : Nat) (s : State) {t' : State} (hx : execAlignPulse n t s = .next t') : kept t' = kept s := by
  rw [← Outcome.next.inj hx]
  first
    | (simp only [kept_mk, kept_eta, kept_ite, ite_self, and_self, kept_alignPulse]; done)
    | (repeat' split
       all_goals simp only [kept_mk, kept_eta, kept_ite, ite_self, and_self, kept_alignPulse])
theorem same_execAlignTimeout (n : Nat) (s : State) {t' : State} (hx : execAlignTimeout n s = .next t') : kept t' = kept s := by
  rw [← Outcome.next.inj hx]
  refine (kept_whileRunning (fun x => ?_) _).trans ?_ <;> simp only [kept_mk, kept_eta, kept_ite, ite_self, and_self, kept_alignTimeout]
theorem same_execAlignDone (n : Nat) (s : State) {t' : State} (hx : execAlignDone n s = .next t') : kept t' = kept s := by
  rw [← Outcome.next.inj hx]
  refine (kept_whileRunning (fun x => ?_) _).trans ?_ <;> simp only [kept_mk, kept_eta, kept_ite, ite_self, and_self, kept_alignDone]
theorem same_execPlacerCalLost (n t : Nat) (s : State) {t' : State} (hx : execPlacerCalLost n t s = .next t') : kept t' = kept s := by
  rw [← Outcome.next.inj hx]
  refine (kept_whileRunning (fun x => ?_) _).trans ?_ <;> simp only [kept_mk, kept_eta, kept_ite, ite_self, and_self, kept_begin_, kept_placerLost]
theorem same_execIrigFrame (n : Nat) (s : State) {t' : State} (hx : execIrigFrame n s = .next t') : kept t' = kept s := by
  rw [← Outcome.next.inj hx]
  first
    | (simp only [kept_mk, kept_eta, kept_ite, ite_self, and_self, kept_irigFrame]; done)
    | (repeat' split
       all_goals simp only [kept_mk, kept_eta, kept_ite, ite_self, and_self, kept_irigFrame])
theorem row_execTodoutConfigure (q : Req) (s : State) {t' : State} (hx : execTodoutConfigure q s = .next t') : bootKept s t' := by
  rw [← Outcome.next.inj hx]; exact bk_of (kept1_runCmd _ _ keeps_hTodoutConfigure q s)
theorem same_execTodSentence (s : State) {t' : State} (hx : execTodSentence s = .next t') : kept t' = kept s := by
  rw [← Outcome.next.inj hx]
  first
    | (simp only [kept_mk, kept_eta, kept_ite, ite_self, and_self, kept_todSentence]; done)
    | (repeat' split
       all_goals simp only [kept_mk, kept_eta, kept_ite, ite_self, and_self, kept_todSentence])
theorem same_execTdcEdge (inp t : Nat) (pulse : EdgePulse) (s : State) {t' : State} (hx : execTdcEdge inp t pulse s = .next t') : kept t' = kept s := by
  rw [← Outcome.next.inj hx]
  first
    | (simp only [kept_mk, kept_eta, kept_ite, ite_self, and_self, kept_tdcEdge]; done)
    | (repeat' split
       all_goals simp only [kept_mk, kept_eta, kept_ite, ite_self, and_self, kept_tdcEdge])
theorem same_execTdcOrphan (c : Nat) (s : State) {t' : State} (hx : execTdcOrphan c s = .next t') : kept t' = kept s := by
  rw [← Outcome.next.inj hx]
  refine (kept_whileRunning (fun x => ?_) _).trans ?_ <;> simp only [kept_mk, kept_eta, kept_ite, ite_self, and_self, kept_tdcOrphan]
theorem same_execTdcGateEnd (c : Nat) (s : State) {t' : State} (hx : execTdcGateEnd c s = .next t') : kept t' = kept s := by
  rw [← Outcome.next.inj hx]
  refine (kept_whileRunning (fun x => ?_) _).trans ?_ <;> simp only [kept_mk, kept_eta, kept_ite, ite_self, and_self, kept_tdcGateEnd]
theorem same_execTdcCalLost (inp t : Nat) (s : State) {t' : State} (hx : execTdcCalLost inp t s = .next t') : kept t' = kept s := by
  rw [← Outcome.next.inj hx]
  refine (kept_whileRunning (fun x => ?_) _).trans ?_ <;> simp only [kept_mk, kept_eta, kept_ite, ite_self, and_self, kept_begin_, kept_tdcCalLost]
theorem same_execTdcCalDone (r : SkewResult) (s : State) {t' : State} (hx : execTdcCalDone r s = .next t') : kept t' = kept s := by
  rw [← Outcome.next.inj hx]
  refine (kept_whileRunning (fun x => ?_) _).trans ?_ <;> simp only [kept_mk, kept_eta, kept_ite, ite_self, and_self, kept_begin_, kept_tdcCalDone]
theorem same_execTdcArmStart (c : Nat) (s : State) {t' : State} (hx : execTdcArmStart c s = .next t') : kept t' = kept s := by
  rw [← Outcome.next.inj hx]
  refine (kept_whileRunning (fun x => ?_) _).trans ?_ <;> simp only [kept_mk, kept_eta, kept_ite, ite_self, and_self, kept_tdcArmStart]
theorem row_execTdcArm (q : Req) (s : State) {t' : State} (hx : execTdcArm q s = .next t') : bootKept s t' := by
  rw [← Outcome.next.inj hx]; exact bk_of (kept1_runCmd _ _ keeps_hTdcArm q s)
theorem row_execTdcConfigure (q : Req) (s : State) {t' : State} (hx : execTdcConfigure q s = .next t') : bootKept s t' := by
  rw [← Outcome.next.inj hx]; exact bk_of (kept1_runCmd _ _ keeps_hTdcConfigure q s)
theorem row_execTdcRead (q : Req) (s : State) {t' : State} (hx : execTdcRead q s = .next t') : bootKept s t' := by
  rw [← Outcome.next.inj hx]; exact bk_of (kept1_runCmd _ _ keeps_hTdcRead q s)
theorem row_execTdcStats (q : Req) (s : State) {t' : State} (hx : execTdcStats q s = .next t') : bootKept s t' := by
  rw [← Outcome.next.inj hx]; exact bk_of (kept1_runCmd _ _ keeps_hTdcStats q s)
theorem row_execPortConfigure (q : Req) (s : State) {t' : State} (hx : execPortConfigure q s = .next t') : bootKept s t' := by
  rw [← Outcome.next.inj hx]; exact bk_of (kept1_runCmd _ _ keeps_hPortConfigure q s)
theorem row_execPortCalibrate (q : Req) (s : State) {t' : State} (hx : execPortCalibrate q s = .next t') : bootKept s t' := by
  rw [← Outcome.next.inj hx]; exact bk_of (kept1_runCmd _ _ keeps_hPortCalibrate q s)
theorem row_execPortFlowControl (q : Req) (s : State) {t' : State} (hx : execPortFlowControl q s = .next t') : bootKept s t' := by
  rw [← Outcome.next.inj hx]; exact bk_of (kept1_runCmd _ _ keeps_hPortFlowControl q s)
theorem row_execPortSynce (q : Req) (s : State) {t' : State} (hx : execPortSynce q s = .next t') : bootKept s t' := by
  rw [← Outcome.next.inj hx]; exact bk_of (kept1_runCmd _ _ keeps_hPortSynce q s)
theorem row_execPortStatus (q : Req) (s : State) {t' : State} (hx : execPortStatus q s = .next t') : bootKept s t' := by
  rw [← Outcome.next.inj hx]; exact bk_of (kept1_runCmd _ _ keeps_hPortStatus q s)
theorem same_execCalibrationEnd (port t : Nat) (passed : Bool) (temp dTx dRx : Int) (s : State) {t' : State} (hx : execCalibrationEnd port t passed temp dTx dRx s = .next t') : kept t' = kept s := by
  rw [← Outcome.next.inj hx]
  first
    | (simp only [kept_mk, kept_eta, kept_ite, ite_self, and_self, kept_begin_, kept_calibrationEnd, kept_laneCalEnd]; done)
    | (repeat' split
       all_goals simp only [kept_mk, kept_eta, kept_ite, ite_self, and_self, kept_begin_, kept_calibrationEnd, kept_laneCalEnd])
theorem same_execBlockLock (port t : Nat) (rxFreq : Int) (an : Option Bool) (s : State) {t' : State} (hx : execBlockLock port t rxFreq an s = .next t') : kept t' = kept s := by
  rw [← Outcome.next.inj hx]
  first
    | (simp only [kept_mk, kept_eta, kept_ite, ite_self, and_self, kept_begin_, kept_blockLock, kept_laneLock]; done)
    | (repeat' split
       all_goals simp only [kept_mk, kept_eta, kept_ite, ite_self, and_self, kept_begin_, kept_blockLock, kept_laneLock])
theorem same_execAlignmentDone (port t : Nat) (ok : Bool) (dTx dRx : Int) (s : State) {t' : State} (hx : execAlignmentDone port t ok dTx dRx s = .next t') : kept t' = kept s := by
  rw [← Outcome.next.inj hx]
  first
    | (simp only [kept_mk, kept_eta, kept_ite, ite_self, and_self, kept_alignmentDone, kept_begin_, kept_laneAligned]; done)
    | (repeat' split
       all_goals simp only [kept_mk, kept_eta, kept_ite, ite_self, and_self, kept_alignmentDone, kept_begin_, kept_laneAligned])
theorem same_execLinkLoss (port t : Nat) (s : State) {t' : State} (hx : execLinkLoss port t s = .next t') : kept t' = kept s := by
  rw [← Outcome.next.inj hx]
  first
    | (simp only [kept_mk, kept_eta, kept_ite, ite_self, and_self, kept_begin_, kept_laneLoss, kept_linkLoss]; done)
    | (repeat' split
       all_goals simp only [kept_mk, kept_eta, kept_ite, ite_self, and_self, kept_begin_, kept_laneLoss, kept_linkLoss])
theorem same_execCalLost (port t : Nat) (temp : LaneReading) (fault : Bool) (s : State) {t' : State} (hx : execCalLost port t temp fault s = .next t') : kept t' = kept s := by
  rw [← Outcome.next.inj hx]
  first
    | (simp only [kept_mk, kept_eta, kept_ite, ite_self, and_self, kept_begin_, kept_calLost, kept_laneCalLost]; done)
    | (repeat' split
       all_goals simp only [kept_mk, kept_eta, kept_ite, ite_self, and_self, kept_begin_, kept_calLost, kept_laneCalLost])
theorem same_execSynceSample (port t : Nat) (s : State) {t' : State} (hx : execSynceSample port t s = .next t') : kept t' = kept s := by
  rw [← Outcome.next.inj hx]
  first
    | (simp only [kept_mk, kept_eta, kept_ite, ite_self, and_self, kept_synceSample]; done)
    | (repeat' split
       all_goals simp only [kept_mk, kept_eta, kept_ite, ite_self, and_self, kept_synceSample])
theorem same_execEsmcTimeout (port : Nat) (s : State) {t' : State} (hx : execEsmcTimeout port s = .next t') : kept t' = kept s := by
  rw [← Outcome.next.inj hx]
  refine (kept_whileRunning (fun x => ?_) _).trans ?_ <;> simp only [kept_mk, kept_eta, kept_ite, ite_self, and_self, kept_esmcTimeout]
theorem same_execEsmcTx (port : Nat) (s : State) {t' : State} (hx : execEsmcTx port s = .next t') : kept t' = kept s := by
  rw [← Outcome.next.inj hx]
  refine (kept_whileRunning (fun x => ?_) _).trans ?_ <;> simp only [kept_mk, kept_eta, kept_ite, ite_self, and_self, kept_esmcTx]
theorem same_execEsmcEventTx (port t : Nat) (s : State) {t' : State} (hx : execEsmcEventTx port t s = .next t') : kept t' = kept s := by
  rw [← Outcome.next.inj hx]
  first
    | (simp only [kept_mk, kept_eta, kept_ite, ite_self, and_self, kept_begin_, kept_esmcEventTx]; done)
    | (repeat' split
       all_goals simp only [kept_mk, kept_eta, kept_ite, ite_self, and_self, kept_begin_, kept_esmcEventTx])
theorem same_execWindowEnd (port w : Nat) (s : State) {t' : State} (hx : execWindowEnd port w s = .next t') : kept t' = kept s := by
  rw [← Outcome.next.inj hx]
  refine (kept_whileRunning (fun x => ?_) _).trans ?_ <;> simp only [kept_mk, kept_eta, kept_ite, ite_self, and_self, kept_windowEnd]
theorem same_execPauseEffect (port : Nat) (s : State) {t' : State} (hx : execPauseEffect port s = .next t') : kept t' = kept s := by
  rw [← Outcome.next.inj hx]
  refine (kept_whileRunning (fun x => ?_) _).trans ?_ <;> simp only [kept_mk, kept_eta, kept_ite, ite_self, and_self, kept_pauseEffect]
theorem same_execPauseExpiry (port prio : Nat) (s : State) {t' : State} (hx : execPauseExpiry port prio s = .next t') : kept t' = kept s := by
  rw [← Outcome.next.inj hx]
  refine (kept_whileRunning (fun x => ?_) _).trans ?_ <;> simp only [kept_mk, kept_eta, kept_ite, ite_self, and_self, kept_pauseExpiry]
theorem same_execPfcXoff (port prio t : Nat) (s : State) {t' : State} (hx : execPfcXoff port prio t s = .next t') : kept t' = kept s := by
  rw [← Outcome.next.inj hx]
  first
    | (simp only [kept_mk, kept_eta, kept_ite, ite_self, and_self, kept_begin_, kept_pfcXoff]; done)
    | (repeat' split
       all_goals simp only [kept_mk, kept_eta, kept_ite, ite_self, and_self, kept_begin_, kept_pfcXoff])
theorem same_execPfcXoffRefresh (port prio : Nat) (s : State) {t' : State} (hx : execPfcXoffRefresh port prio s = .next t') : kept t' = kept s := by
  rw [← Outcome.next.inj hx]
  refine (kept_whileRunning (fun x => ?_) _).trans ?_ <;> simp only [kept_mk, kept_eta, kept_ite, ite_self, and_self, kept_pfcRefresh]
theorem same_execPfcXon (port prio t : Nat) (s : State) {t' : State} (hx : execPfcXon port prio t s = .next t') : kept t' = kept s := by
  rw [← Outcome.next.inj hx]
  first
    | (simp only [kept_mk, kept_eta, kept_ite, ite_self, and_self, kept_begin_, kept_pfcXon]; done)
    | (repeat' split
       all_goals simp only [kept_mk, kept_eta, kept_ite, ite_self, and_self, kept_begin_, kept_pfcXon])
theorem same_execFrameRx (port t : Nat) (fcsOk : Bool) (bytes : Bytes) (s : State) {t' : State} (hx : execFrameRx port t fcsOk bytes s = .next t') : kept t' = kept s := by
  rw [← Outcome.next.inj hx]
  first
    | (simp only [kept_mk, kept_eta, kept_ite, ite_self, and_self, kept_frameRx]; done)
    | (repeat' split
       all_goals simp only [kept_mk, kept_eta, kept_ite, ite_self, and_self, kept_frameRx])
theorem same_execAdmissionDecision (t : Nat) (s : State) {t' : State} (hx : execAdmissionDecision t s = .next t') : kept t' = kept s := by
  rw [← Outcome.next.inj hx]
  first
    | (simp only [kept_mk, kept_eta, kept_ite, ite_self, and_self, kept_admissionDecision, kept_begin_]; done)
    | (repeat' split
       all_goals simp only [kept_mk, kept_eta, kept_ite, ite_self, and_self, kept_admissionDecision, kept_begin_])
theorem same_execTrickJob (h : Nat) (s : State) {t' : State} (hx : execTrickJob h s = .next t') : kept t' = kept s := by
  rw [← Outcome.next.inj hx]
  refine (kept_whileRunning (fun x => ?_) _).trans ?_ <;> simp only [kept_mk, kept_eta, kept_ite, ite_self, and_self, kept_endStretch]
theorem same_execCryptoLaneDone (h : Nat) (s : State) {t' : State} (hx : execCryptoLaneDone h s = .next t') : kept t' = kept s := by
  rw [← Outcome.next.inj hx]
  refine (kept_whileRunning (fun x => ?_) _).trans ?_ <;> simp only [kept_mk, kept_eta, kept_ite, ite_self, and_self, kept_laneReturn]
theorem same_execTimedLaunch (port : Nat) (s : State) {t' : State} (hx : execTimedLaunch port s = .next t') : kept t' = kept s := by
  rw [← Outcome.next.inj hx]
  refine (kept_whileRunning (fun x => ?_) _).trans ?_ <;> simp only [kept_mk, kept_eta, kept_ite, ite_self, and_self, kept_timedLaunch]
theorem same_execFrameTx (port t : Nat) (s : State) {t' : State} (hx : execFrameTx port t s = .next t') : kept t' = kept s := by
  rw [← Outcome.next.inj hx]
  first
    | (simp only [kept_mk, kept_eta, kept_ite, ite_self, and_self, kept_begin_, kept_untimedTx]; done)
    | (repeat' split
       all_goals simp only [kept_mk, kept_eta, kept_ite, ite_self, and_self, kept_begin_, kept_untimedTx])
theorem same_execShedEnd (s : State) {t' : State} (hx : execShedEnd s = .next t') : kept t' = kept s := by
  rw [← Outcome.next.inj hx]
  refine (kept_whileRunning (fun x => ?_) _).trans ?_ <;> simp only [kept_mk, kept_eta, kept_ite, ite_self, and_self, kept_shedEnd]
theorem same_execEngineFault (e t : Nat) (s : State) {t' : State} (hx : execEngineFault e t s = .next t') : kept t' = kept s := by
  rw [← Outcome.next.inj hx]
  first
    | (simp only [kept_mk, kept_eta, kept_ite, ite_self, and_self, kept_begin_, kept_engineFault]; done)
    | (repeat' split
       all_goals simp only [kept_mk, kept_eta, kept_ite, ite_self, and_self, kept_begin_, kept_engineFault])
theorem same_execScheduledPresent (inst port mtype : Nat) (grant : Option Nat) (s : State) {t' : State} (hx : execScheduledPresent inst port mtype grant s = .next t') : kept t' = kept s := by
  rw [← Outcome.next.inj hx]
  first
    | (simp only [kept_mk, kept_eta, kept_ite, ite_self, and_self, kept_scheduledPresent]; done)
    | (repeat' split
       all_goals simp only [kept_mk, kept_eta, kept_ite, ite_self, and_self, kept_scheduledPresent])
theorem same_execBatchClose (s : State) {t' : State} (hx : execBatchClose s = .next t') : kept t' = kept s := by
  rw [← Outcome.next.inj hx]
  refine (kept_whileRunning (fun x => ?_) _).trans ?_ <;> simp only [kept_mk, kept_eta, kept_ite, ite_self, and_self, kept_batchClose]
theorem same_execBatchSigned (t : Nat) (s : State) {t' : State} (hx : execBatchSigned t s = .next t') : kept t' = kept s := by
  rw [← Outcome.next.inj hx]
  first
    | (simp only [kept_mk, kept_eta, kept_ite, ite_self, and_self, kept_batchSigned, kept_begin_]; done)
    | (repeat' split
       all_goals simp only [kept_mk, kept_eta, kept_ite, ite_self, and_self, kept_batchSigned, kept_begin_])
theorem row_execSvcConfigure (q : Req) (s : State) {t' : State} (hx : execSvcConfigure q s = .next t') : bootKept s t' := by
  rw [← Outcome.next.inj hx]; exact bk_of (kept1_runCmd _ _ keeps_hSvcConfigure q s)
theorem row_execSvcAdmission (q : Req) (s : State) {t' : State} (hx : execSvcAdmission q s = .next t') : bootKept s t' := by
  rw [← Outcome.next.inj hx]; exact bk_of (kept1_runCmd _ _ keeps_hSvcAdmission q s)
theorem row_execSvcStatus (q : Req) (s : State) {t' : State} (hx : execSvcStatus q s = .next t') : bootKept s t' := by
  rw [← Outcome.next.inj hx]; exact bk_of (kept1_runCmd _ _ keeps_hSvcStatus q s)
theorem row_execPtpInstanceCreate (q : Req) (s : State) {t' : State} (hx : execPtpInstanceCreate q s = .next t') : bootKept s t' := by
  rw [← Outcome.next.inj hx]; exact bk_of (kept1_runCmd _ _ keeps_hPtpCreate q s)
theorem row_execPtpInstanceConfigure (q : Req) (s : State) {t' : State} (hx : execPtpInstanceConfigure q s = .next t') : bootKept s t' := by
  rw [← Outcome.next.inj hx]; exact bk_of (kept1_runCmd _ _ keeps_hPtpConfigure q s)
theorem row_execPtpInstanceDelete (q : Req) (s : State) {t' : State} (hx : execPtpInstanceDelete q s = .next t') : bootKept s t' := by
  rw [← Outcome.next.inj hx]; exact bk_of (kept1_runCmd _ _ keeps_hPtpDelete q s)
theorem row_execPtpPortBind (q : Req) (s : State) {t' : State} (hx : execPtpPortBind q s = .next t') : bootKept s t' := by
  rw [← Outcome.next.inj hx]; exact bk_of (kept1_runCmd _ _ keeps_hPtpBind q s)
theorem row_execPtpStatus (q : Req) (s : State) {t' : State} (hx : execPtpStatus q s = .next t') : bootKept s t' := by
  rw [← Outcome.next.inj hx]; exact bk_of (kept1_runCmd _ _ keeps_hPtpStatus q s)
theorem row_execPtpGrantQuery (q : Req) (s : State) {t' : State} (hx : execPtpGrantQuery q s = .next t') : bootKept s t' := by
  rw [← Outcome.next.inj hx]; exact bk_of (kept1_runCmd _ _ keeps_hGrantQuery q s)
theorem row_execPtpGrantRevoke (q : Req) (s : State) {t' : State} (hx : execPtpGrantRevoke q s = .next t') : bootKept s t' := by
  rw [← Outcome.next.inj hx]; exact bk_of (kept1_runCmd _ _ keeps_hGrantRevoke q s)
theorem same_execGrantExpiry (k : Nat) (s : State) {t' : State} (hx : execGrantExpiry k s = .next t') : kept t' = kept s := by
  rw [← Outcome.next.inj hx]
  refine (kept_whileRunning (fun x => ?_) _).trans ?_ <;> simp only [kept_mk, kept_eta, kept_ite, ite_self, and_self, kept_grantExpiry]
theorem row_execPtpSaLoad (q : Req) (s : State) {t' : State} (hx : execPtpSaLoad q s = .next t') : bootKept s t' := by
  rw [← Outcome.next.inj hx]; exact bk_of (kept1_runCmd _ _ keeps_hSaLoad q s)
theorem same_execAnnounceTimeout (inst port : Nat) (s : State) {t' : State} (hx : execAnnounceTimeout inst port s = .next t') : kept t' = kept s := by
  rw [← Outcome.next.inj hx]
  refine (kept_whileRunning (fun x => ?_) _).trans ?_ <;> simp only [kept_mk, kept_eta, kept_ite, ite_self, and_self, kept_announceTimeout]
theorem same_execFollowupTimeout (inst port : Nat) (s : State) {t' : State} (hx : execFollowupTimeout inst port s = .next t') : kept t' = kept s := by
  rw [← Outcome.next.inj hx]
  refine (kept_whileRunning (fun x => ?_) _).trans ?_ <;> simp only [kept_mk, kept_eta, kept_ite, ite_self, and_self, kept_followupTimeout]
theorem same_execSyncTimeout (inst : Nat) (s : State) {t' : State} (hx : execSyncTimeout inst s = .next t') : kept t' = kept s := by
  rw [← Outcome.next.inj hx]
  refine (kept_whileRunning (fun x => ?_) _).trans ?_ <;> simp only [kept_mk, kept_eta, kept_ite, ite_self, and_self, kept_syncTimeout]
theorem same_execPathDelayTimeout (inst port : Nat) (s : State) {t' : State} (hx : execPathDelayTimeout inst port s = .next t') : kept t' = kept s := by
  rw [← Outcome.next.inj hx]
  refine (kept_whileRunning (fun x => ?_) _).trans ?_ <;> simp only [kept_mk, kept_eta, kept_ite, ite_self, and_self, kept_pathDelayTimeout]
theorem same_execSt2059Metadata (inst : Nat) (s : State) {t' : State} (hx : execSt2059Metadata inst s = .next t') : kept t' = kept s := by
  rw [← Outcome.next.inj hx]
  first
    | (simp only [kept_mk, kept_eta, kept_ite, ite_self, and_self, kept_st2059Metadata]; done)
    | (repeat' split
       all_goals simp only [kept_mk, kept_eta, kept_ite, ite_self, and_self, kept_st2059Metadata])
theorem same_execUpstreamRenew (inst port up mtype : Nat) (s : State) {t' : State} (hx : execUpstreamRenew inst port up mtype s = .next t') : kept t' = kept s := by
  rw [← Outcome.next.inj hx]
  refine (kept_whileRunning (fun x => ?_) _).trans ?_ <;> simp only [kept_mk, kept_eta, kept_ite, ite_self, and_self, kept_upstreamDue]
theorem same_execUpstreamRetry (inst port up mtype : Nat) (s : State) {t' : State} (hx : execUpstreamRetry inst port up mtype s = .next t') : kept t' = kept s := by
  rw [← Outcome.next.inj hx]
  refine (kept_whileRunning (fun x => ?_) _).trans ?_ <;> simp only [kept_mk, kept_eta, kept_ite, ite_self, and_self, kept_upstreamDue]
theorem row_execNtpConfigure (q : Req) (s : State) {t' : State} (hx : execNtpConfigure q s = .next t') : bootKept s t' := by
  rw [← Outcome.next.inj hx]; exact bk_of (kept1_runCmd _ _ keeps_hNtpConfigure q s)
theorem row_execNtpRatePolicy (q : Req) (s : State) {t' : State} (hx : execNtpRatePolicy q s = .next t') : bootKept s t' := by
  rw [← Outcome.next.inj hx]; exact bk_of (kept1_runCmd _ _ keeps_hNtpRatePolicy q s)
theorem row_execNtpStatus (q : Req) (s : State) {t' : State} (hx : execNtpStatus q s = .next t') : bootKept s t' := by
  rw [← Outcome.next.inj hx]; exact bk_of (kept1_runCmd _ _ keeps_hNtpStatus q s)
theorem row_execNtsKeyLoad (q : Req) (s : State) {t' : State} (hx : execNtsKeyLoad q s = .next t') : bootKept s t' := by
  rw [← Outcome.next.inj hx]; exact bk_of (kept1_runCmd _ _ keeps_hNtsKeyLoad q s)
theorem row_execNtsKeyRotate (q : Req) (s : State) {t' : State} (hx : execNtsKeyRotate q s = .next t') : bootKept s t' := by
  rw [← Outcome.next.inj hx]; exact bk_of (kept1_runCmd _ _ keeps_hNtsKeyRotate q s)
theorem same_execScheduledRotation (inst : Nat) (s : State) {t' : State} (hx : execScheduledRotation inst s = .next t') : kept t' = kept s := by
  rw [← Outcome.next.inj hx]
  refine (kept_whileRunning (fun x => ?_) _).trans ?_ <;> simp only [kept_mk, kept_eta, kept_ite, ite_self, and_self, kept_scheduledRotation]
theorem row_execNtsCookieMint (q : Req) (s : State) {t' : State} (hx : execNtsCookieMint q s = .next t') : bootKept s t' := by
  rw [← Outcome.next.inj hx]; exact bk_of (kept1_runCmd _ _ keeps_hNtsCookieMint q s)
theorem row_execRcptConfigure (q : Req) (s : State) {t' : State} (hx : execRcptConfigure q s = .next t') : bootKept s t' := by
  rw [← Outcome.next.inj hx]; exact bk_of (kept1_runCmd _ _ keeps_hRcptConfigure q s)
theorem row_execRcptStatus (q : Req) (s : State) {t' : State} (hx : execRcptStatus q s = .next t') : bootKept s t' := by
  rw [← Outcome.next.inj hx]; exact bk_of (kept1_runCmd _ _ keeps_hRcptStatus q s)
theorem row_execBoundRead (q : Req) (s : State) {t' : State} (hx : execBoundRead q s = .next t') : bootKept s t' := by
  rw [← Outcome.next.inj hx]; exact bk_of (kept1_runCmd _ _ keeps_hBoundRead q s)
theorem row_execBoundPolicy (q : Req) (s : State) {t' : State} (hx : execBoundPolicy q s = .next t') : bootKept s t' := by
  rw [← Outcome.next.inj hx]; exact bk_of (kept1_runCmd _ _ keeps_hBoundPolicy q s)
theorem same_execClaimFrameTx (t : Nat) (readback : Option Nat) (s : State) {t' : State} (hx : execClaimFrameTx t readback s = .next t') : kept t' = kept s := by
  rw [← Outcome.next.inj hx]
  first
    | (simp only [kept_mk, kept_eta, kept_ite, ite_self, and_self, kept_claimFrameTx]; done)
    | (repeat' split
       all_goals simp only [kept_mk, kept_eta, kept_ite, ite_self, and_self, kept_claimFrameTx])
theorem same_execClaimFrameRx (t claim : Nat) (s : State) {t' : State} (hx : execClaimFrameRx t claim s = .next t') : kept t' = kept s := by
  rw [← Outcome.next.inj hx]
  first
    | (simp only [kept_mk, kept_eta, kept_ite, ite_self, and_self, kept_claimFrameRx]; done)
    | (repeat' split
       all_goals simp only [kept_mk, kept_eta, kept_ite, ite_self, and_self, kept_claimFrameRx])
theorem same_execClaimQuiet (t : Nat) (s : State) {t' : State} (hx : execClaimQuiet t s = .next t') : kept t' = kept s := by
  rw [← Outcome.next.inj hx]
  first
    | (simp only [kept_mk, kept_eta, kept_ite, ite_self, and_self, kept_claimQuiet]; done)
    | (repeat' split
       all_goals simp only [kept_mk, kept_eta, kept_ite, ite_self, and_self, kept_claimQuiet])
theorem same_execClaimAbsent (s : State) {t' : State} (hx : execClaimAbsent s = .next t') : kept t' = kept s := by
  rw [← Outcome.next.inj hx]
  first
    | (simp only [kept_mk, kept_eta, kept_ite, ite_self, and_self, kept_claimAbsent]; done)
    | (repeat' split
       all_goals simp only [kept_mk, kept_eta, kept_ite, ite_self, and_self, kept_claimAbsent])
theorem same_execClaimInForce (s : State) {t' : State} (hx : execClaimInForce s = .next t') : kept t' = kept s := by
  rw [← Outcome.next.inj hx]
  first
    | (simp only [kept_mk, kept_eta, kept_ite, ite_self, and_self, kept_claimInForce]; done)
    | (repeat' split
       all_goals simp only [kept_mk, kept_eta, kept_ite, ite_self, and_self, kept_claimInForce])
theorem same_execEnableRise (s : State) {t' : State} (hx : execEnableRise s = .next t') : kept t' = kept s := by
  rw [← Outcome.next.inj hx]
  first
    | (simp only [kept_mk, kept_eta, kept_ite, ite_self, and_self, kept_enableRise]; done)
    | (repeat' split
       all_goals simp only [kept_mk, kept_eta, kept_ite, ite_self, and_self, kept_enableRise])
theorem same_execEnableFall (s : State) {t' : State} (hx : execEnableFall s = .next t') : kept t' = kept s := by
  rw [← Outcome.next.inj hx]
  first
    | (simp only [kept_mk, kept_eta, kept_ite, ite_self, and_self, kept_enableFall]; done)
    | (repeat' split
       all_goals simp only [kept_mk, kept_eta, kept_ite, ite_self, and_self, kept_enableFall])
theorem same_execSelfFault (t cause detail : Nat) (s : State) {t' : State} (hx : execSelfFault t cause detail s = .next t') : kept t' = kept s := by
  rw [← Outcome.next.inj hx]
  first
    | (simp only [kept_mk, kept_eta, kept_ite, ite_self, and_self, kept_selfFaultRow]; done)
    | (repeat' split
       all_goals simp only [kept_mk, kept_eta, kept_ite, ite_self, and_self, kept_selfFaultRow])
theorem same_execHeartbeatTx (s : State) {t' : State} (hx : execHeartbeatTx s = .next t') : kept t' = kept s := by
  rw [← Outcome.next.inj hx]
  first
    | (simp only [kept_mk, kept_eta, kept_ite, ite_self, and_self, kept_heartbeatTx]; done)
    | (repeat' split
       all_goals simp only [kept_mk, kept_eta, kept_ite, ite_self, and_self, kept_heartbeatTx])
theorem same_execHeartbeatRx (lane t : Nat) (fcsOk : Bool) (payload : Bytes) (s : State) {t' : State} (hx : execHeartbeatRx lane t fcsOk payload s = .next t') : kept t' = kept s := by
  rw [← Outcome.next.inj hx]
  first
    | (simp only [kept_mk, kept_eta, kept_ite, ite_self, and_self, kept_heartbeatRx]; done)
    | (repeat' split
       all_goals simp only [kept_mk, kept_eta, kept_ite, ite_self, and_self, kept_heartbeatRx])
theorem same_execHeartbeatLost (s : State) {t' : State} (hx : execHeartbeatLost s = .next t') : kept t' = kept s := by
  rw [← Outcome.next.inj hx]
  refine (kept_whileRunning (fun x => ?_) _).trans ?_ <;> simp only [kept_mk, kept_eta, kept_ite, ite_self, and_self, kept_heartbeatLost]
theorem same_execSnapshotTx (t : Nat) (s : State) {t' : State} (hx : execSnapshotTx t s = .next t') : kept t' = kept s := by
  rw [← Outcome.next.inj hx]
  first
    | (simp only [kept_mk, kept_eta, kept_ite, ite_self, and_self, kept_begin_, kept_snapshotTx]; done)
    | (repeat' split
       all_goals simp only [kept_mk, kept_eta, kept_ite, ite_self, and_self, kept_begin_, kept_snapshotTx])
theorem same_execSnapshotApply (t : Nat) (snap : Snapshot) (s : State) {t' : State} (hx : execSnapshotApply t snap s = .next t') : kept t' = kept s := by
  rw [← Outcome.next.inj hx]
  first
    | (simp only [kept_mk, kept_eta, kept_ite, ite_self, and_self, kept_snapshotApply]; done)
    | (repeat' split
       all_goals simp only [kept_mk, kept_eta, kept_ite, ite_self, and_self, kept_snapshotApply])
theorem same_execSnapLate (s : State) {t' : State} (hx : execSnapLate s = .next t') : kept t' = kept s := by
  rw [← Outcome.next.inj hx]
  refine (kept_whileRunning (fun x => ?_) _).trans ?_ <;> simp only [kept_mk, kept_eta, kept_ite, ite_self, and_self, kept_snapshotLate]
theorem same_execCopyVerified (t : Nat) (snap : Snapshot) (neighbours : List (Nat × Neighbour)) (s : State) {t' : State} (hx : execCopyVerified t snap neighbours s = .next t') : kept t' = kept s := by
  rw [← Outcome.next.inj hx]
  first
    | (simp only [kept_mk, kept_eta, kept_ite, ite_self, and_self, kept_copyVerified]; done)
    | (repeat' split
       all_goals simp only [kept_mk, kept_eta, kept_ite, ite_self, and_self, kept_copyVerified])
theorem same_execLockstepCompare (t : Nat) (digest : Bytes) (s : State) {t' : State} (hx : execLockstepCompare t digest s = .next t') : kept t' = kept s := by
  rw [← Outcome.next.inj hx]
  first
    | (simp only [kept_mk, kept_eta, kept_ite, ite_self, and_self, kept_begin_, kept_lockstepCompare]; done)
    | (repeat' split
       all_goals simp only [kept_mk, kept_eta, kept_ite, ite_self, and_self, kept_begin_, kept_lockstepCompare])
theorem same_execMirrorReplyRx (t opcode tag status : Nat) (s : State) {t' : State} (hx : execMirrorReplyRx t opcode tag status s = .next t') : kept t' = kept s := by
  rw [← Outcome.next.inj hx]
  first
    | (simp only [kept_mk, kept_eta, kept_ite, ite_self, and_self, kept_begin_, kept_mirrorReplyRx]; done)
    | (repeat' split
       all_goals simp only [kept_mk, kept_eta, kept_ite, ite_self, and_self, kept_begin_, kept_mirrorReplyRx])
theorem same_execSwitchRequestRx (t : Nat) (force : Bool) (s : State) {t' : State} (hx : execSwitchRequestRx t force s = .next t') : kept t' = kept s := by
  rw [← Outcome.next.inj hx]
  first
    | (simp only [kept_mk, kept_eta, kept_ite, ite_self, and_self, kept_begin_, kept_switchRequestRx]; done)
    | (repeat' split
       all_goals simp only [kept_mk, kept_eta, kept_ite, ite_self, and_self, kept_begin_, kept_switchRequestRx])
theorem same_execCompareCheck (k t : Nat) (x : Option Int) (s : State) {t' : State} (hx : execCompareCheck k t x s = .next t') : kept t' = kept s := by
  rw [← Outcome.next.inj hx]
  first
    | (simp only [kept_mk, kept_eta, kept_ite, ite_self, and_self, kept_compareCheck]; done)
    | (repeat' split
       all_goals simp only [kept_mk, kept_eta, kept_ite, ite_self, and_self, kept_compareCheck])
theorem same_execSelftestRun (item t : Nat) (passed : Bool) (detail : Nat) (s : State) {t' : State} (hx : execSelftestRun item t passed detail s = .next t') : kept t' = kept s := by
  rw [← Outcome.next.inj hx]
  first
    | (simp only [kept_mk, kept_eta, kept_ite, ite_self, and_self, kept_selftestRun]; done)
    | (repeat' split
       all_goals simp only [kept_mk, kept_eta, kept_ite, ite_self, and_self, kept_selftestRun])
theorem row_execPairConfigure (q : Req) (s : State) {t' : State} (hx : execPairConfigure q s = .next t') : bootKept s t' := by
  rw [← Outcome.next.inj hx]; exact bk_of (kept1_runCmd _ _ keeps_hPairConfigure q s)
theorem row_execPairStatus (q : Req) (s : State) {t' : State} (hx : execPairStatus q s = .next t') : bootKept s t' := by
  rw [← Outcome.next.inj hx]; exact bk_of (kept1_runCmd _ _ keeps_hPairStatus q s)
theorem row_execPairClaimSet (q : Req) (s : State) {t' : State} (hx : execPairClaimSet q s = .next t') : bootKept s t' := by
  rw [← Outcome.next.inj hx]; exact bk_of (kept1_runCmd _ _ keeps_hPairClaimSet q s)
theorem row_execPairSwitch (q : Req) (s : State) {t' : State} (hx : execPairSwitch q s = .next t') : bootKept s t' := by
  rw [← Outcome.next.inj hx]; exact bk_of (kept1_runCmd _ _ keeps_hPairSwitch q s)
theorem same_execPairSwitchTimeout (s : State) {t' : State} (hx : execPairSwitchTimeout s = .next t') : kept t' = kept s := by
  rw [← Outcome.next.inj hx]
  refine (kept_whileRunning (fun x => ?_) _).trans ?_ <;> simp only [kept_mk, kept_eta, kept_ite, ite_self, and_self, kept_pairSwitchTimeout]
theorem row_execPairResync (q : Req) (s : State) {t' : State} (hx : execPairResync q s = .next t') : bootKept s t' := by
  rw [← Outcome.next.inj hx]; exact bk_of (kept1_runCmd _ _ keeps_hPairResync q s)
theorem row_execPairSelftestReport (q : Req) (s : State) {t' : State} (hx : execPairSelftestReport q s = .next t') : bootKept s t' := by
  rw [← Outcome.next.inj hx]; exact bk_of (kept1_runCmd _ _ keeps_hPairSelftestReport q s)
theorem row_execKeyWrite (q : Req) (s : State) {t' : State} (hx : execKeyWrite q s = .next t') : bootKept s t' := by
  rw [← Outcome.next.inj hx]; exact bk_of (kept1_runCmd _ _ keeps_hKeyWrite q s)
theorem row_execKeyErase (q : Req) (s : State) {t' : State} (hx : execKeyErase q s = .next t') : bootKept s t' := by
  rw [← Outcome.next.inj hx]; exact bk_of (kept1_runCmd _ _ keeps_hKeyErase q s)
theorem row_execKeyInfo (q : Req) (s : State) {t' : State} (hx : execKeyInfo q s = .next t') : bootKept s t' := by
  rw [← Outcome.next.inj hx]; exact bk_of (kept1_runCmd _ _ keeps_hKeyInfo q s)
theorem same_execPersistWrite (s : State) {t' : State} (hx : execPersistWrite s = .next t') : kept t' = kept s := by
  rw [← Outcome.next.inj hx]
  first
    | (simp only [kept_mk, kept_eta, kept_ite, ite_self, and_self, kept_persistWrite]; done)
    | (repeat' split
       all_goals simp only [kept_mk, kept_eta, kept_ite, ite_self, and_self, kept_persistWrite])
theorem same_execPersistDone (t : Nat) (ok : Bool) (s : State) {t' : State} (hx : execPersistDone t ok s = .next t') : kept t' = kept s := by
  rw [← Outcome.next.inj hx]
  first
    | (simp only [kept_mk, kept_eta, kept_ite, ite_self, and_self, kept_begin_, kept_persistDone]; done)
    | (repeat' split
       all_goals simp only [kept_mk, kept_eta, kept_ite, ite_self, and_self, kept_begin_, kept_persistDone])
theorem same_execCreditAccrue (s : State) {t' : State} (hx : execCreditAccrue s = .next t') : kept t' = kept s := by
  rw [← Outcome.next.inj hx]
  first
    | (simp only [kept_mk, kept_eta, kept_ite, ite_self, and_self, kept_creditAccrue]; done)
    | (repeat' split
       all_goals simp only [kept_mk, kept_eta, kept_ite, ite_self, and_self, kept_creditAccrue])
theorem same_execRetentionRewrite (s : State) {t' : State} (hx : execRetentionRewrite s = .next t') : kept t' = kept s := by
  rw [← Outcome.next.inj hx]
  first
    | (simp only [kept_mk, kept_eta, kept_ite, ite_self, and_self, kept_retentionRewrite]; done)
    | (repeat' split
       all_goals simp only [kept_mk, kept_eta, kept_ite, ite_self, and_self, kept_retentionRewrite])
theorem same_execKittyLoad (t : Nat) (s : State) {t' : State} (hx : execKittyLoad t s = .next t') : kept t' = kept s := by
  rw [← Outcome.next.inj hx]
  first
    | (simp only [kept_mk, kept_eta, kept_ite, ite_self, and_self, kept_kittyLoad]; done)
    | (repeat' split
       all_goals simp only [kept_mk, kept_eta, kept_ite, ite_self, and_self, kept_kittyLoad])
theorem row_execLcStatus (q : Req) (s : State) {t' : State} (hx : execLcStatus q s = .next t') : bootKept s t' := by
  rw [← Outcome.next.inj hx]; exact bk_of (kept1_runCmd _ _ keeps_hLcStatus q s)
theorem row_execLcAdvance (q : Req) (s : State) {t' : State} (hx : execLcAdvance q s = .next t') : bootKept s t' := by
  rw [← Outcome.next.inj hx]; exact bk_of (kept1_runCmd _ _ keeps_hLcAdvance q s)
theorem same_execAdvanceDone (t : Nat) (firstOk spareOk : Bool) (s : State) {t' : State} (hx : execAdvanceDone t firstOk spareOk s = .next t') : kept t' = kept s := by
  rw [← Outcome.next.inj hx]
  first
    | (simp only [kept_mk, kept_eta, kept_ite, ite_self, and_self, kept_advanceDone]; done)
    | (repeat' split
       all_goals simp only [kept_mk, kept_eta, kept_ite, ite_self, and_self, kept_advanceDone])
theorem row_execAttestQuote (q : Req) (s : State) {t' : State} (hx : execAttestQuote q s = .next t') : bootKept s t' := by
  rw [← Outcome.next.inj hx]; exact bk_of (kept1_runCmd _ _ keeps_hAttestQuote q s)
theorem same_execQuoteSigned (t : Nat) (s : State) {t' : State} (hx : execQuoteSigned t s = .next t') : kept t' = kept s := by
  rw [← Outcome.next.inj hx]
  first
    | (simp only [kept_mk, kept_eta, kept_ite, ite_self, and_self, kept_begin_, kept_quoteSigned]; done)
    | (repeat' split
       all_goals simp only [kept_mk, kept_eta, kept_ite, ite_self, and_self, kept_begin_, kept_quoteSigned])
theorem row_execAttestMeasurements (q : Req) (s : State) {t' : State} (hx : execAttestMeasurements q s = .next t') : bootKept s t' := by
  rw [← Outcome.next.inj hx]; exact bk_of (kept1_runCmd _ _ keeps_hAttestMeasurements q s)
theorem row_execAudPortConfigure (q : Req) (s : State) {t' : State} (hx : execAudPortConfigure q s = .next t') : bootKept s t' := by
  rw [← Outcome.next.inj hx]; exact bk_of (kept1_runCmd _ _ keeps_hAudPortConfigure q s)
theorem row_execAudGroupConfigure (q : Req) (s : State) {t' : State} (hx : execAudGroupConfigure q s = .next t') : bootKept s t' := by
  rw [← Outcome.next.inj hx]; exact bk_of (kept1_runCmd _ _ keeps_hAudGroupConfigure q s)
theorem row_execAudGroupStart (q : Req) (s : State) {t' : State} (hx : execAudGroupStart q s = .next t') : bootKept s t' := by
  rw [← Outcome.next.inj hx]; exact bk_of (kept1_runCmd _ _ keeps_hAudGroupStart q s)
theorem row_execAudGroupStop (q : Req) (s : State) {t' : State} (hx : execAudGroupStop q s = .next t') : bootKept s t' := by
  rw [← Outcome.next.inj hx]; exact bk_of (kept1_runCmd _ _ keeps_hAudGroupStop q s)
theorem row_execAudStatus (q : Req) (s : State) {t' : State} (hx : execAudStatus q s = .next t') : bootKept s t' := by
  rw [← Outcome.next.inj hx]; exact bk_of (kept1_runCmd _ _ keeps_hAudStatus q s)
theorem same_execAudioFrameBoundary (port : Nat) (s : State) {t' : State} (hx : execAudioFrameBoundary port s = .next t') : kept t' = kept s := by
  rw [← Outcome.next.inj hx]
  first
    | (simp only [kept_mk, kept_eta, kept_ite, ite_self, and_self, kept_frameBoundary]; done)
    | (repeat' split
       all_goals simp only [kept_mk, kept_eta, kept_ite, ite_self, and_self, kept_frameBoundary])
theorem same_execAudioTxRead (port : Nat) (s : State) {t' : State} (hx : execAudioTxRead port s = .next t') : kept t' = kept s := by
  rw [← Outcome.next.inj hx]
  first
    | (simp only [kept_mk, kept_eta, kept_ite, ite_self, and_self, kept_txRead]; done)
    | (repeat' split
       all_goals simp only [kept_mk, kept_eta, kept_ite, ite_self, and_self, kept_txRead])
theorem same_execAudioBufferHead (port t desc : Nat) (data : Bytes) (s : State) {t' : State} (hx : execAudioBufferHead port t desc data s = .next t') : kept t' = kept s := by
  rw [← Outcome.next.inj hx]
  refine (kept_whileRunning (fun x => ?_) _).trans ?_ <;> simp only [kept_mk, kept_eta, kept_ite, ite_self, and_self, kept_begin_, kept_takeBuffer]
theorem same_execAudioRxFrame (port t : Nat) (record : Option Bytes) (s : State) {t' : State} (hx : execAudioRxFrame port t record s = .next t') : kept t' = kept s := by
  rw [← Outcome.next.inj hx]
  first
    | (simp only [kept_mk, kept_eta, kept_ite, ite_self, and_self, kept_begin_, kept_rxFrame]; done)
    | (repeat' split
       all_goals simp only [kept_mk, kept_eta, kept_ite, ite_self, and_self, kept_begin_, kept_rxFrame])
theorem same_execAes3Sample (port t : Nat) (s : State) {t' : State} (hx : execAes3Sample port t s = .next t') : kept t' = kept s := by
  rw [← Outcome.next.inj hx]
  first
    | (simp only [kept_mk, kept_eta, kept_ite, ite_self, and_self, kept_aesSample, kept_begin_]; done)
    | (repeat' split
       all_goals simp only [kept_mk, kept_eta, kept_ite, ite_self, and_self, kept_aesSample, kept_begin_])
theorem same_execDarsLockLost (port t : Nat) (s : State) {t' : State} (hx : execDarsLockLost port t s = .next t') : kept t' = kept s := by
  rw [← Outcome.next.inj hx]
  first
    | (simp only [kept_mk, kept_eta, kept_ite, ite_self, and_self, kept_aesLost, kept_begin_]; done)
    | (repeat' split
       all_goals simp only [kept_mk, kept_eta, kept_ite, ite_self, and_self, kept_aesLost, kept_begin_])
theorem same_execHandBoundary (temp rootPhase : Int) (s : State) {t' : State} (hx : execHandBoundary temp rootPhase s = .next t') : kept t' = kept s := by
  rw [← Outcome.next.inj hx]
  first
    | (simp only [kept_mk, kept_eta, kept_ite, ite_self, and_self, kept_handBoundary]; done)
    | (repeat' split
       all_goals simp only [kept_mk, kept_eta, kept_ite, ite_self, and_self, kept_handBoundary])
theorem same_execHourlyCommit (s : State) {t' : State} (hx : execHourlyCommit s = .next t') : kept t' = kept s := by
  rw [← Outcome.next.inj hx]
  first
    | (simp only [kept_mk, kept_eta, kept_ite, ite_self, and_self, kept_hourlyCommit]; done)
    | (repeat' split
       all_goals simp only [kept_mk, kept_eta, kept_ite, ite_self, and_self, kept_hourlyCommit])
theorem same_execPageWritten (t : Nat) (s : State) {t' : State} (hx : execPageWritten t s = .next t') : kept t' = kept s := by
  rw [← Outcome.next.inj hx]
  refine (kept_whileRunning (fun x => ?_) _).trans ?_ <;> simp only [kept_mk, kept_eta, kept_ite, ite_self, and_self, kept_begin_, kept_pageWritten]
theorem same_execPageWriteTimeout (t : Nat) (readback : Bool) (s : State) {t' : State} (hx : execPageWriteTimeout t readback s = .next t') : kept t' = kept s := by
  rw [← Outcome.next.inj hx]
  refine (kept_whileRunning (fun x => ?_) _).trans ?_ <;> simp only [kept_mk, kept_eta, kept_ite, ite_self, and_self, kept_begin_, kept_pageFailed]
theorem same_execDailyCommit (t : Nat) (s : State) {t' : State} (hx : execDailyCommit t s = .next t') : kept t' = kept s := by
  rw [← Outcome.next.inj hx]
  refine (kept_whileRunning (fun x => ?_) _).trans ?_ <;> simp only [kept_mk, kept_eta, kept_ite, ite_self, and_self, kept_begin_, kept_dayCommit]
theorem row_execRecCommitNow (q : Req) (s : State) {t' : State} (hx : execRecCommitNow q s = .next t') : bootKept s t' := by
  rw [← Outcome.next.inj hx]; exact bk_of (kept1_runCmd _ _ keeps_hRecCommitNow q s)
theorem row_execRecConfigure (q : Req) (s : State) {t' : State} (hx : execRecConfigure q s = .next t') : bootKept s t' := by
  rw [← Outcome.next.inj hx]; exact bk_of (kept1_runCmd _ _ keeps_hRecConfigure q s)
theorem row_execRecRead (q : Req) (s : State) {t' : State} (hx : execRecRead q s = .next t') : bootKept s t' := by
  rw [← Outcome.next.inj hx]; exact bk_of (kept1_runCmd _ _ keeps_hRecRead q s)
theorem row_execPerfRead (q : Req) (s : State) {t' : State} (hx : execPerfRead q s = .next t') : bootKept s t' := by
  rw [← Outcome.next.inj hx]; exact bk_of (kept1_runCmd _ _ keeps_hPerfRead q s)
theorem row_execPerfFilterSet (q : Req) (s : State) {t' : State} (hx : execPerfFilterSet q s = .next t') : bootKept s t' := by
  rw [← Outcome.next.inj hx]; exact bk_of (kept1_runCmd _ _ keeps_hPerfFilterSet q s)
theorem row_execPerfWindowSet (q : Req) (s : State) {t' : State} (hx : execPerfWindowSet q s = .next t') : bootKept s t' := by
  rw [← Outcome.next.inj hx]; exact bk_of (kept1_runCmd _ _ keeps_hPerfWindowSet q s)
theorem row_execSysConfigCommit (q : Req) (s : State) {t' : State} (hx : execSysConfigCommit q s = .next t') : bootKept s t' := by
  rw [← Outcome.next.inj hx]; exact bk_of (kept1_runCmd _ _ keeps_hSysConfigCommit q s)
theorem row_execMirroredCommit (s : State) {t' : State} (hx : execMirroredCommit s = .next t') : bootKept s t' := by
  rw [← Outcome.next.inj hx]
  have h0 : kept { s with out := [] } = kept s := by simp only [kept_mk, kept_eta]
  exact bk_of ((kept1_mirroredCommit _).trans (congrArg Prod.fst h0))
theorem same_execCmdRingFetch (c t : Nat) (entry : Bytes) (s : State) {t' : State} (hx : execCmdRingFetch c t entry s = .next t') : kept t' = kept s := by
  rw [← Outcome.next.inj hx]
  first
    | (simp only [kept_mk, kept_eta, kept_ite, ite_self, and_self, kept_begin_, kept_cmdRingFetch]; done)
    | (repeat' split
       all_goals simp only [kept_mk, kept_eta, kept_ite, ite_self, and_self, kept_begin_, kept_cmdRingFetch])
theorem same_execQueueTimeout (k : Nat) (s : State) {t' : State} (hx : execQueueTimeout k s = .next t') : kept t' = kept s := by
  rw [← Outcome.next.inj hx]
  refine (kept_whileRunning (fun x => ?_) _).trans ?_ <;> simp only [kept_mk, kept_eta, kept_ite, ite_self, and_self, kept_queueTimeout]
theorem same_execRxRingDeliver (r t : Nat) (s : State) {t' : State} (hx : execRxRingDeliver r t s = .next t') : kept t' = kept s := by
  rw [← Outcome.next.inj hx]
  first
    | (simp only [kept_mk, kept_eta, kept_ite, ite_self, and_self, kept_rxDeliver]; done)
    | (repeat' split
       all_goals simp only [kept_mk, kept_eta, kept_ite, ite_self, and_self, kept_rxDeliver])
theorem same_execTxFetch (r t : Nat) (descs : List Bytes) (data : Bytes) (s : State) {t' : State} (hx : execTxFetch r t descs data s = .next t') : kept t' = kept s := by
  rw [← Outcome.next.inj hx]
  first
    | (simp only [kept_mk, kept_eta, kept_ite, ite_self, and_self, kept_begin_, kept_txFetch]; done)
    | (repeat' split
       all_goals simp only [kept_mk, kept_eta, kept_ite, ite_self, and_self, kept_begin_, kept_txFetch])
theorem same_execEventEntryWrite (r t : Nat) (s : State) {t' : State} (hx : execEventEntryWrite r t s = .next t') : kept t' = kept s := by
  rw [← Outcome.next.inj hx]
  first
    | (simp only [kept_mk, kept_eta, kept_ite, ite_self, and_self, kept_begin_, kept_eventWrite]; done)
    | (repeat' split
       all_goals simp only [kept_mk, kept_eta, kept_ite, ite_self, and_self, kept_begin_, kept_eventWrite])
theorem same_execDmaCompletionError (r t : Nat) (s : State) {t' : State} (hx : execDmaCompletionError r t s = .next t') : kept t' = kept s := by
  rw [← Outcome.next.inj hx]
  first
    | (simp only [kept_mk, kept_eta, kept_ite, ite_self, and_self, kept_begin_, kept_dmaError]; done)
    | (repeat' split
       all_goals simp only [kept_mk, kept_eta, kept_ite, ite_self, and_self, kept_begin_, kept_dmaError])
theorem same_execRingIrqHoldoff (r : Nat) (s : State) {t' : State} (hx : execRingIrqHoldoff r s = .next t') : kept t' = kept s := by
  rw [← Outcome.next.inj hx]
  refine (kept_whileRunning (fun x => ?_) _).trans ?_ <;> simp only [kept_mk, kept_eta, kept_ite, ite_self, and_self, kept_holdoffEnd]
theorem same_execPcieReset (t : Nat) (perst : Bool) (s : State) {t' : State} (hx : execPcieReset t perst s = .next t') : kept t' = kept s := by
  rw [← Outcome.next.inj hx]
  first
    | (simp only [kept_mk, kept_eta, kept_ite, ite_self, and_self, kept_acceptGo, kept_begin_, kept_pcieReset]; done)
    | (repeat' split
       all_goals simp only [kept_mk, kept_eta, kept_ite, ite_self, and_self, kept_acceptGo, kept_begin_, kept_pcieReset])
theorem same_execLinkTrainingStart (t : Nat) (s : State) {t' : State} (hx : execLinkTrainingStart t s = .next t') : kept t' = kept s := by
  rw [← Outcome.next.inj hx]
  first
    | (simp only [kept_mk, kept_eta, kept_ite, ite_self, and_self, kept_linkTraining]; done)
    | (repeat' split
       all_goals simp only [kept_mk, kept_eta, kept_ite, ite_self, and_self, kept_linkTraining])
theorem same_execPcieLinkUp (t width gen : Nat) (s : State) {t' : State} (hx : execPcieLinkUp t width gen s = .next t') : kept t' = kept s := by
  rw [← Outcome.next.inj hx]
  first
    | (simp only [kept_mk, kept_eta, kept_ite, ite_self, and_self, kept_linkUp]; done)
    | (repeat' split
       all_goals simp only [kept_mk, kept_eta, kept_ite, ite_self, and_self, kept_linkUp])
theorem row_execRingConfigure (q : Req) (s : State) {t' : State} (hx : execRingConfigure q s = .next t') : bootKept s t' := by
  rw [← Outcome.next.inj hx]; exact bk_of (kept1_runCmd _ _ keeps_hRingConfigure q s)
theorem row_execRingStatus (q : Req) (s : State) {t' : State} (hx : execRingStatus q s = .next t') : bootKept s t' := by
  rw [← Outcome.next.inj hx]; exact bk_of (kept1_runCmd _ _ keeps_hRingStatus q s)
theorem row_execRegisterWrite (i : Iface) (t off size value : Nat) (s : State) {t' : State} (hx : execRegisterWrite i t off size value s = .next t') : bootKept s t' := by
  rw [← Outcome.next.inj hx]
  exact bk_accessAt _ _ _ (fun x => bk_writeAccess _ _ _ _ x) s
theorem row_execIrqCauseClear (i : Iface) (t off : Nat) (value : Word) (s : State) {t' : State} (hx : execIrqCauseClear i t off value s = .next t') : bootKept s t' := by
  rw [← Outcome.next.inj hx]
  exact bk_accessAt _ _ _ (fun x => bk_ite (fun _ => bk_writeWord _ _ _ x) (fun _ => bk_refl x)) s
theorem row_execRingCtrlWrite (i : Iface) (t r : Nat) (value : Word) (s : State) {t' : State} (hx : execRingCtrlWrite i t r value s = .next t') : bootKept s t' := by
  rw [← Outcome.next.inj hx]
  exact bk_accessAt _ _ _ (fun x => bk_ite (fun _ => bk_writeWord _ _ _ x) (fun _ => bk_refl x)) s
theorem row_execDoorbellWrite (i : Iface) (t off : Nat) (value : Word) (s : State) {t' : State} (hx : execDoorbellWrite i t off value s = .next t') : bootKept s t' := by
  rw [← Outcome.next.inj hx]
  exact bk_accessAt _ _ _ (fun x => bk_ite (fun _ => bk_writeWord _ _ _ x) (fun _ => bk_refl x)) s
theorem row_execCmdSubmit (i : Iface) (t : Nat) (s : State) {t' : State} (hx : execCmdSubmit i t s = .next t') : bootKept s t' := by
  rw [← Outcome.next.inj hx]
  exact bk_accessAt _ _ _ (fun x => bk_ite (fun _ => bk_refl x) (fun _ => bk_writeWord _ _ _ x)) s
theorem row_execHostLoadBlock (i : Iface) (t : Nat) (s : State) {t' : State} (hx : execHostLoadBlock i t s = .next t') : bootKept s t' := by
  rw [← Outcome.next.inj hx]
  exact bk_accessAt _ _ _ (fun x => bk_ite (fun h => bk_loadBlock _ x h) (fun _ => bk_refl x)) s
theorem row_execResultStatusRead (i : Iface) (t : Nat) (s : State) {t' : State} (hx : execResultStatusRead i t s = .next t') : bootKept s t' := by
  rw [← Outcome.next.inj hx]
  exact bk_accessAt _ _ _ (fun x => bk_kept (kept_latchResult _ x)) s
theorem row_execMsixUnmask (t : Nat) (vec func : Bool) (s : State) {t' : State} (hx : execMsixUnmask t vec func s = .next t') : bootKept s t' := by
  rw [← Outcome.next.inj hx]
  exact bk_accessAt _ _ _ (fun x => bk_kept (kept_msixMask _ _ x)) s
theorem row_execSysIdentify (q : Req) (s : State) {t' : State} (hx : execSysIdentify q s = .next t') : bootKept s t' := by
  rw [← Outcome.next.inj hx]; exact bk_of (kept1_runCmd _ _ keeps_hSysIdentify q s)
theorem row_execSysConfigDigest (q : Req) (s : State) {t' : State} (hx : execSysConfigDigest q s = .next t') : bootKept s t' := by
  rw [← Outcome.next.inj hx]; exact bk_of (kept1_runCmd _ _ keeps_hSysConfigDigest q s)
theorem row_execSysEcho (q : Req) (s : State) {t' : State} (hx : execSysEcho q s = .next t') : bootKept s t' := by
  rw [← Outcome.next.inj hx]
  exact bk_of (kept1_runCmdAt _ _ keeps_hSysEcho q s)
theorem row_execPowerOn (t : Nat) (s : State) {t' : State} (hx : execPowerOn t s = .next t') : bootKept s t' := by
  rw [← Outcome.next.inj hx]
  exact bk_trans (bk_powerOn _) (bk_begin t s)
theorem same_execPowerGoodRise (t : Nat) (s : State) {t' : State} (hx : execPowerGoodRise t s = .next t') : kept t' = kept s := by
  rw [← Outcome.next.inj hx]
  first
    | (simp only [kept_mk, kept_eta, kept_ite, ite_self, and_self, kept_begin_, kept_powerGoodRise]; done)
    | (repeat' split
       all_goals simp only [kept_mk, kept_eta, kept_ite, ite_self, and_self, kept_begin_, kept_powerGoodRise])
theorem row_execPowerGoodFall (t rails : Nat) (s : State) {t' : State} (hx : execPowerGoodFall t rails s = .next t') : bootKept s t' := by
  rw [← Outcome.next.inj hx]
  exact bk_trans (bk_powerGoodFall _ _) (bk_begin t s)
theorem row_execPowerRemoved (t : Nat) (s : State) {t' : State} (hx : execPowerRemoved t s = .next t') : bootKept s t' := by
  rw [← Outcome.next.inj hx]
  exact bk_trans (bk_powerRemoved _) (bk_begin t s)
theorem row_execResetNAssert (t width : Nat) (s : State) {t' : State} (hx : execResetNAssert t width s = .next t') : bootKept s t' := by
  unfold execResetNAssert at hx
  split at hx
  · rw [← Outcome.next.inj hx]; exact bk_begin t s
  · split at hx
    · cases hx
    · rw [← Outcome.next.inj hx]; exact bk_trans (bk_same ⟨rfl, rfl, rfl⟩) (bk_trans (bk_deviceReset 2 _) (bk_begin t s))
theorem row_execResetEnd (t : Nat) (pairId : Bool) (bootSrc : Nat) (quad : Bool) (s : State) {t' : State} (hx : execResetEnd t pairId bootSrc quad s = .next t') : bootKept s t' := by
  rw [← Outcome.next.inj hx]
  exact bk_trans (bk_resetEnd _ _ _ _) (bk_begin t s)
theorem same_execWatchdogExpiry (t : Nat) (s : State) {t' : State} (hx : execWatchdogExpiry t s = .next t') : kept t' = kept s := by
  rw [← Outcome.next.inj hx]
  first
    | (simp only [kept_mk, kept_eta, kept_ite, ite_self, and_self, kept_begin_, kept_watchdogExpiry]; done)
    | (repeat' split
       all_goals simp only [kept_mk, kept_eta, kept_ite, ite_self, and_self, kept_begin_, kept_watchdogExpiry])
theorem row_execWatchdogReset (s : State) {t' : State} (hx : execWatchdogReset s = .next t') : bootKept s t' := by
  rw [← Outcome.next.inj hx]
  have h0 : kept { s with out := [] } = kept s := by simp only [kept_mk, kept_eta]
  exact bk_trans (bk_watchdogReset _) (bk_kept h0)
theorem row_execThermalShutdown (t : Nat) (temp : Int) (s : State) {t' : State} (hx : execThermalShutdown t temp s = .next t') : bootKept s t' := by
  rw [← Outcome.next.inj hx]
  exact bk_trans (bk_thermalShutdown _ _) (bk_begin t s)
theorem same_execThermalRelease (t : Nat) (temp : Int) (s : State) {t' : State} (hx : execThermalRelease t temp s = .next t') : kept t' = kept s := by
  rw [← Outcome.next.inj hx]
  first
    | (simp only [kept_mk, kept_eta, kept_ite, ite_self, and_self, kept_begin_, kept_thermalRelease]; done)
    | (repeat' split
       all_goals simp only [kept_mk, kept_eta, kept_ite, ite_self, and_self, kept_begin_, kept_thermalRelease])
theorem same_execThermalWarn (t : Nat) (temp : Int) (s : State) {t' : State} (hx : execThermalWarn t temp s = .next t') : kept t' = kept s := by
  rw [← Outcome.next.inj hx]
  first
    | (simp only [kept_mk, kept_eta, kept_ite, ite_self, and_self, kept_begin_, kept_thermalWarn]; done)
    | (repeat' split
       all_goals simp only [kept_mk, kept_eta, kept_ite, ite_self, and_self, kept_begin_, kept_thermalWarn])
theorem same_execThermalWarnClear (t : Nat) (temp : Int) (s : State) {t' : State} (hx : execThermalWarnClear t temp s = .next t') : kept t' = kept s := by
  rw [← Outcome.next.inj hx]
  first
    | (simp only [kept_mk, kept_eta, kept_ite, ite_self, and_self, kept_begin_, kept_thermalWarnClear]; done)
    | (repeat' split
       all_goals simp only [kept_mk, kept_eta, kept_ite, ite_self, and_self, kept_begin_, kept_thermalWarnClear])
theorem row_execBpllLock (t freqHz : Nat) (s : State) {t' : State} (hx : execBpllLock t freqHz s = .next t') : bootKept s t' := by
  rw [← Outcome.next.inj hx]
  exact bk_trans (bk_bpllLock _ _) (bk_begin t s)
theorem same_execLossOfLock (t detail : Nat) (s : State) {t' : State} (hx : execLossOfLock t detail s = .next t') : kept t' = kept s := by
  rw [← Outcome.next.inj hx]
  first
    | (simp only [kept_mk, kept_eta, kept_ite, ite_self, and_self, kept_begin_, kept_lossOfLock]; done)
    | (repeat' split
       all_goals simp only [kept_mk, kept_eta, kept_ite, ite_self, and_self, kept_begin_, kept_lossOfLock])
theorem same_execExcursion (c : Comparison) (s : State) {t' : State} (hx : execExcursion c s = .next t') : kept t' = kept s := by
  rw [← Outcome.next.inj hx]
  first
    | (simp only [kept_mk, kept_eta, kept_ite, ite_self, and_self, kept_begin_, kept_comparison]; done)
    | (repeat' split
       all_goals simp only [kept_mk, kept_eta, kept_ite, ite_self, and_self, kept_begin_, kept_comparison])
theorem row_execFuseRead (t : Nat) (s : State) {t' : State} (hx : execFuseRead t s = .next t') : bootKept s t' := by
  rw [← Outcome.next.inj hx]
  exact bk_trans (bk_atStage _ _ (fun x e => bk_fuseRead x e) _) (bk_begin t s)
theorem row_execSramTest (t : Nat) (ok : Bool) (s : State) {t' : State} (hx : execSramTest t ok s = .next t') : bootKept s t' := by
  rw [← Outcome.next.inj hx]
  exact bk_trans (bk_atStage _ _ (fun x e => bk_sram ok x e) _) (bk_begin t s)
theorem row_execImageLoad (t : Nat) (a b : Bytes) (s : State) {t' : State} (hx : execImageLoad t a b s = .next t') : bootKept s t' := by
  rw [← Outcome.next.inj hx]
  exact bk_trans (bk_atStage _ _ (fun x e => bk_imageLoad a b x e) _) (bk_begin t s)
theorem row_execKeyDerive (t : Nat) (s : State) {t' : State} (hx : execKeyDerive t s = .next t') : bootKept s t' := by
  rw [← Outcome.next.inj hx]
  exact bk_trans (bk_atStage _ _ (fun x e => bk_keyDerive x e) _) (bk_begin t s)
theorem row_execDealerStart (t density : Nat) (s : State) {t' : State} (hx : execDealerStart t density s = .next t') : bootKept s t' := by
  rw [← Outcome.next.inj hx]
  exact bk_trans (bk_atStage _ _ (fun x e => bk_dealerStart density x e) _) (bk_begin t s)
theorem row_execReady (t : Nat) (s : State) {t' : State} (hx : execReady t s = .next t') : bootKept s t' := by
  rw [← Outcome.next.inj hx]
  exact bk_trans (bk_atStage _ _ (fun x e => bk_ready x e) _) (bk_begin t s)
theorem same_execClaimOpen (t : Nat) (s : State) {t' : State} (hx : execClaimOpen t s = .next t') : kept t' = kept s := by
  rw [← Outcome.next.inj hx]
  first
    | (simp only [kept_mk, kept_eta, kept_ite, ite_self, and_self, kept_begin_, kept_claimOpen]; done)
    | (repeat' split
       all_goals simp only [kept_mk, kept_eta, kept_ite, ite_self, and_self, kept_begin_, kept_claimOpen])
theorem row_execSysStatus (q : Req) (s : State) {t' : State} (hx : execSysStatus q s = .next t') : bootKept s t' := by
  rw [← Outcome.next.inj hx]; exact bk_of (kept1_runCmd _ _ keeps_hSysStatus q s)
theorem row_execSysResetBlock (q : Req) (s : State) {t' : State} (hx : execSysResetBlock q s = .next t') : bootKept s t' := by
  rw [← Outcome.next.inj hx]; exact bk_of (kept1_runCmd _ _ keeps_hSysResetBlock q s)
theorem same_execBlockResetDone (t block index : Nat) (s : State) {t' : State} (hx : execBlockResetDone t block index s = .next t') : kept t' = kept s := by
  rw [← Outcome.next.inj hx]
  first
    | (simp only [kept_mk, kept_eta, kept_ite, ite_self, and_self, kept_begin_, kept_blockResetDone]; done)
    | (repeat' split
       all_goals simp only [kept_mk, kept_eta, kept_ite, ite_self, and_self, kept_begin_, kept_blockResetDone])
theorem row_execBadOpcode (opcode : Nat) (q : Req) (s : State) {t' : State} (hx : execBadOpcode opcode q s = .next t') : bootKept s t' := by
  rw [← Outcome.next.inj hx]
  exact bk_ite (fun _ => bk_refl s) (fun _ => bk_of (kept1_runCmd _ _ keeps_hBadOpcode q s))
theorem row_execConfigImageExec (t : Nat) (s : State) {t' : State} (hx : execConfigImageExec t s = .next t') : bootKept s t' := by
  rw [← Outcome.next.inj hx]
  exact bk_trans (bk_atStage _ _ (fun x e => bk_of (kept1_configImage x)) _) (bk_begin t s)
theorem row_execMirrorRx (opcode : Nat) (q : Req) (s : State) {t' : State} (hx : execMirrorRx opcode q s = .next t') : bootKept s t' := by
  rw [← Outcome.next.inj hx]
  unfold mirrorRx
  exact bk_ite (fun _ => bk_begin _ s) (fun _ => bk_of (kept1_runCmdAt _ _ (keeps_meaningOf opcode) _ s))
theorem row_execLockstepInputRx (t : Nat) (inp : LockInput) (s : State) {t' : State} (hx : execLockstepInputRx t inp s = .next t') : bootKept s t' := by
  rw [← Outcome.next.inj hx]
  exact bk_of ((kept1_lockstepInput t inp s))

end Sys2Proof.Machine
end

