-- ==== Sys2Proof/Laws/State.lean ====
section
/-! SUPPORT. What each update of one part of the state does to each field: the part changes as the update says, every other field stays. -/
namespace Sys2Proof.Machine
open Sys2Proof

@[simp] theorem updAud_pending (p : Nat) (f : AudRun → AudRun) (s : State) : (updAud p f s).pending = s.pending := rfl
@[simp] theorem updAud_now (p : Nat) (f : AudRun → AudRun) (s : State) : (updAud p f s).now = s.now := rfl
@[simp] theorem updAud_out (p : Nat) (f : AudRun → AudRun) (s : State) : (updAud p f s).out = s.out := rfl
@[simp] theorem updAud_free (p : Nat) (f : AudRun → AudRun) (s : State) : (updAud p f s).free = s.free := rfl
@[simp] theorem updAud_time (p : Nat) (f : AudRun → AudRun) (s : State) : (updAud p f s).time = s.time := rfl
@[simp] theorem updAud_incSum (p : Nat) (f : AudRun → AudRun) (s : State) : (updAud p f s).incSum = s.incSum := rfl
@[simp] theorem updAud_host (p : Nat) (f : AudRun → AudRun) (s : State) : (updAud p f s).host = s.host := rfl
@[simp] theorem updAud_boot (p : Nat) (f : AudRun → AudRun) (s : State) : (updAud p f s).boot = s.boot := rfl
@[simp] theorem updAud_root (p : Nat) (f : AudRun → AudRun) (s : State) : (updAud p f s).root = s.root := rfl
@[simp] theorem updAud_refs (p : Nat) (f : AudRun → AudRun) (s : State) : (updAud p f s).refs = s.refs := rfl
@[simp] theorem updAud_sels (p : Nat) (f : AudRun → AudRun) (s : State) : (updAud p f s).sels = s.sels := rfl
@[simp] theorem updAud_dplls (p : Nat) (f : AudRun → AudRun) (s : State) : (updAud p f s).dplls = s.dplls := rfl
@[simp] theorem updAud_hold (p : Nat) (f : AudRun → AudRun) (s : State) : (updAud p f s).hold = s.hold := rfl
@[simp] theorem updAud_meld (p : Nat) (f : AudRun → AudRun) (s : State) : (updAud p f s).meld = s.meld := rfl
@[simp] theorem updAud_meldBefore (p : Nat) (f : AudRun → AudRun) (s : State) : (updAud p f s).meldBefore = s.meldBefore := rfl
@[simp] theorem updAud_bound (p : Nat) (f : AudRun → AudRun) (s : State) : (updAud p f s).bound = s.bound := rfl
@[simp] theorem updAud_pair (p : Nat) (f : AudRun → AudRun) (s : State) : (updAud p f s).pair = s.pair := rfl
@[simp] theorem updAud_gnss (p : Nat) (f : AudRun → AudRun) (s : State) : (updAud p f s).gnss = s.gnss := rfl
@[simp] theorem updAud_outs (p : Nat) (f : AudRun → AudRun) (s : State) : (updAud p f s).outs = s.outs := rfl
@[simp] theorem updAud_tdc (p : Nat) (f : AudRun → AudRun) (s : State) : (updAud p f s).tdc = s.tdc := rfl
@[simp] theorem updAud_ports (p : Nat) (f : AudRun → AudRun) (s : State) : (updAud p f s).ports = s.ports := rfl
@[simp] theorem updAud_svc (p : Nat) (f : AudRun → AudRun) (s : State) : (updAud p f s).svc = s.svc := rfl
@[simp] theorem updAud_ptp (p : Nat) (f : AudRun → AudRun) (s : State) : (updAud p f s).ptp = s.ptp := rfl
@[simp] theorem updAud_ntp (p : Nat) (f : AudRun → AudRun) (s : State) : (updAud p f s).ntp = s.ntp := rfl
@[simp] theorem updAud_kitty (p : Nat) (f : AudRun → AudRun) (s : State) : (updAud p f s).kitty = s.kitty := rfl
@[simp] theorem updAud_fuse (p : Nat) (f : AudRun → AudRun) (s : State) : (updAud p f s).fuse = s.fuse := rfl
@[simp] theorem updAud_attest (p : Nat) (f : AudRun → AudRun) (s : State) : (updAud p f s).attest = s.attest := rfl
@[simp] theorem updAud_score (p : Nat) (f : AudRun → AudRun) (s : State) : (updAud p f s).score = s.score := rfl
@[simp] theorem updAud_flash (p : Nat) (f : AudRun → AudRun) (s : State) : (updAud p f s).flash = s.flash := rfl
@[simp] theorem updAud_hand (p : Nat) (f : AudRun → AudRun) (s : State) : (updAud p f s).hand = s.hand := rfl
@[simp] theorem updAud_perf (p : Nat) (f : AudRun → AudRun) (s : State) : (updAud p f s).perf = s.perf := rfl
@[simp] theorem updAud_shadow (p : Nat) (f : AudRun → AudRun) (s : State) : (updAud p f s).shadow = s.shadow := rfl
@[simp] theorem updAud_work (p : Nat) (f : AudRun → AudRun) (s : State) : (updAud p f s).work = s.work := rfl

@[simp] theorem updGroup_pending (g : Nat) (f : GroupRun → GroupRun) (s : State) : (updGroup g f s).pending = s.pending := rfl
@[simp] theorem updGroup_now (g : Nat) (f : GroupRun → GroupRun) (s : State) : (updGroup g f s).now = s.now := rfl
@[simp] theorem updGroup_out (g : Nat) (f : GroupRun → GroupRun) (s : State) : (updGroup g f s).out = s.out := rfl
@[simp] theorem updGroup_free (g : Nat) (f : GroupRun → GroupRun) (s : State) : (updGroup g f s).free = s.free := rfl
@[simp] theorem updGroup_time (g : Nat) (f : GroupRun → GroupRun) (s : State) : (updGroup g f s).time = s.time := rfl
@[simp] theorem updGroup_incSum (g : Nat) (f : GroupRun → GroupRun) (s : State) : (updGroup g f s).incSum = s.incSum := rfl
@[simp] theorem updGroup_host (g : Nat) (f : GroupRun → GroupRun) (s : State) : (updGroup g f s).host = s.host := rfl
@[simp] theorem updGroup_boot (g : Nat) (f : GroupRun → GroupRun) (s : State) : (updGroup g f s).boot = s.boot := rfl
@[simp] theorem updGroup_root (g : Nat) (f : GroupRun → GroupRun) (s : State) : (updGroup g f s).root = s.root := rfl
@[simp] theorem updGroup_refs (g : Nat) (f : GroupRun → GroupRun) (s : State) : (updGroup g f s).refs = s.refs := rfl
@[simp] theorem updGroup_sels (g : Nat) (f : GroupRun → GroupRun) (s : State) : (updGroup g f s).sels = s.sels := rfl
@[simp] theorem updGroup_dplls (g : Nat) (f : GroupRun → GroupRun) (s : State) : (updGroup g f s).dplls = s.dplls := rfl
@[simp] theorem updGroup_hold (g : Nat) (f : GroupRun → GroupRun) (s : State) : (updGroup g f s).hold = s.hold := rfl
@[simp] theorem updGroup_meld (g : Nat) (f : GroupRun → GroupRun) (s : State) : (updGroup g f s).meld = s.meld := rfl
@[simp] theorem updGroup_meldBefore (g : Nat) (f : GroupRun → GroupRun) (s : State) : (updGroup g f s).meldBefore = s.meldBefore := rfl
@[simp] theorem updGroup_bound (g : Nat) (f : GroupRun → GroupRun) (s : State) : (updGroup g f s).bound = s.bound := rfl
@[simp] theorem updGroup_pair (g : Nat) (f : GroupRun → GroupRun) (s : State) : (updGroup g f s).pair = s.pair := rfl
@[simp] theorem updGroup_gnss (g : Nat) (f : GroupRun → GroupRun) (s : State) : (updGroup g f s).gnss = s.gnss := rfl
@[simp] theorem updGroup_outs (g : Nat) (f : GroupRun → GroupRun) (s : State) : (updGroup g f s).outs = s.outs := rfl
@[simp] theorem updGroup_tdc (g : Nat) (f : GroupRun → GroupRun) (s : State) : (updGroup g f s).tdc = s.tdc := rfl
@[simp] theorem updGroup_ports (g : Nat) (f : GroupRun → GroupRun) (s : State) : (updGroup g f s).ports = s.ports := rfl
@[simp] theorem updGroup_svc (g : Nat) (f : GroupRun → GroupRun) (s : State) : (updGroup g f s).svc = s.svc := rfl
@[simp] theorem updGroup_ptp (g : Nat) (f : GroupRun → GroupRun) (s : State) : (updGroup g f s).ptp = s.ptp := rfl
@[simp] theorem updGroup_ntp (g : Nat) (f : GroupRun → GroupRun) (s : State) : (updGroup g f s).ntp = s.ntp := rfl
@[simp] theorem updGroup_kitty (g : Nat) (f : GroupRun → GroupRun) (s : State) : (updGroup g f s).kitty = s.kitty := rfl
@[simp] theorem updGroup_fuse (g : Nat) (f : GroupRun → GroupRun) (s : State) : (updGroup g f s).fuse = s.fuse := rfl
@[simp] theorem updGroup_attest (g : Nat) (f : GroupRun → GroupRun) (s : State) : (updGroup g f s).attest = s.attest := rfl
@[simp] theorem updGroup_score (g : Nat) (f : GroupRun → GroupRun) (s : State) : (updGroup g f s).score = s.score := rfl
@[simp] theorem updGroup_flash (g : Nat) (f : GroupRun → GroupRun) (s : State) : (updGroup g f s).flash = s.flash := rfl
@[simp] theorem updGroup_hand (g : Nat) (f : GroupRun → GroupRun) (s : State) : (updGroup g f s).hand = s.hand := rfl
@[simp] theorem updGroup_perf (g : Nat) (f : GroupRun → GroupRun) (s : State) : (updGroup g f s).perf = s.perf := rfl
@[simp] theorem updGroup_shadow (g : Nat) (f : GroupRun → GroupRun) (s : State) : (updGroup g f s).shadow = s.shadow := rfl
@[simp] theorem updGroup_work (g : Nat) (f : GroupRun → GroupRun) (s : State) : (updGroup g f s).work = s.work := rfl

@[simp] theorem updBoot_boot (f : BootPart → BootPart) (s : State) : (updBoot f s).boot = f s.boot := rfl
@[simp] theorem updBoot_pending (f : BootPart → BootPart) (s : State) : (updBoot f s).pending = s.pending := rfl
@[simp] theorem updBoot_now (f : BootPart → BootPart) (s : State) : (updBoot f s).now = s.now := rfl
@[simp] theorem updBoot_out (f : BootPart → BootPart) (s : State) : (updBoot f s).out = s.out := rfl
@[simp] theorem updBoot_free (f : BootPart → BootPart) (s : State) : (updBoot f s).free = s.free := rfl
@[simp] theorem updBoot_time (f : BootPart → BootPart) (s : State) : (updBoot f s).time = s.time := rfl
@[simp] theorem updBoot_incSum (f : BootPart → BootPart) (s : State) : (updBoot f s).incSum = s.incSum := rfl
@[simp] theorem updBoot_host (f : BootPart → BootPart) (s : State) : (updBoot f s).host = s.host := rfl
@[simp] theorem updBoot_root (f : BootPart → BootPart) (s : State) : (updBoot f s).root = s.root := rfl
@[simp] theorem updBoot_refs (f : BootPart → BootPart) (s : State) : (updBoot f s).refs = s.refs := rfl
@[simp] theorem updBoot_sels (f : BootPart → BootPart) (s : State) : (updBoot f s).sels = s.sels := rfl
@[simp] theorem updBoot_dplls (f : BootPart → BootPart) (s : State) : (updBoot f s).dplls = s.dplls := rfl
@[simp] theorem updBoot_hold (f : BootPart → BootPart) (s : State) : (updBoot f s).hold = s.hold := rfl
@[simp] theorem updBoot_meld (f : BootPart → BootPart) (s : State) : (updBoot f s).meld = s.meld := rfl
@[simp] theorem updBoot_meldBefore (f : BootPart → BootPart) (s : State) : (updBoot f s).meldBefore = s.meldBefore := rfl
@[simp] theorem updBoot_bound (f : BootPart → BootPart) (s : State) : (updBoot f s).bound = s.bound := rfl
@[simp] theorem updBoot_pair (f : BootPart → BootPart) (s : State) : (updBoot f s).pair = s.pair := rfl
@[simp] theorem updBoot_gnss (f : BootPart → BootPart) (s : State) : (updBoot f s).gnss = s.gnss := rfl
@[simp] theorem updBoot_outs (f : BootPart → BootPart) (s : State) : (updBoot f s).outs = s.outs := rfl
@[simp] theorem updBoot_tdc (f : BootPart → BootPart) (s : State) : (updBoot f s).tdc = s.tdc := rfl
@[simp] theorem updBoot_ports (f : BootPart → BootPart) (s : State) : (updBoot f s).ports = s.ports := rfl
@[simp] theorem updBoot_svc (f : BootPart → BootPart) (s : State) : (updBoot f s).svc = s.svc := rfl
@[simp] theorem updBoot_ptp (f : BootPart → BootPart) (s : State) : (updBoot f s).ptp = s.ptp := rfl
@[simp] theorem updBoot_ntp (f : BootPart → BootPart) (s : State) : (updBoot f s).ntp = s.ntp := rfl
@[simp] theorem updBoot_kitty (f : BootPart → BootPart) (s : State) : (updBoot f s).kitty = s.kitty := rfl
@[simp] theorem updBoot_fuse (f : BootPart → BootPart) (s : State) : (updBoot f s).fuse = s.fuse := rfl
@[simp] theorem updBoot_attest (f : BootPart → BootPart) (s : State) : (updBoot f s).attest = s.attest := rfl
@[simp] theorem updBoot_aud (f : BootPart → BootPart) (s : State) : (updBoot f s).aud = s.aud := rfl
@[simp] theorem updBoot_score (f : BootPart → BootPart) (s : State) : (updBoot f s).score = s.score := rfl
@[simp] theorem updBoot_flash (f : BootPart → BootPart) (s : State) : (updBoot f s).flash = s.flash := rfl
@[simp] theorem updBoot_hand (f : BootPart → BootPart) (s : State) : (updBoot f s).hand = s.hand := rfl
@[simp] theorem updBoot_perf (f : BootPart → BootPart) (s : State) : (updBoot f s).perf = s.perf := rfl
@[simp] theorem updBoot_shadow (f : BootPart → BootPart) (s : State) : (updBoot f s).shadow = s.shadow := rfl
@[simp] theorem updBoot_work (f : BootPart → BootPart) (s : State) : (updBoot f s).work = s.work := rfl

@[simp] theorem updSlot_pending (k : Nat) (f : Slot → Slot) (s : State) : (updSlot k f s).pending = s.pending := rfl
@[simp] theorem updSlot_now (k : Nat) (f : Slot → Slot) (s : State) : (updSlot k f s).now = s.now := rfl
@[simp] theorem updSlot_out (k : Nat) (f : Slot → Slot) (s : State) : (updSlot k f s).out = s.out := rfl
@[simp] theorem updSlot_free (k : Nat) (f : Slot → Slot) (s : State) : (updSlot k f s).free = s.free := rfl
@[simp] theorem updSlot_time (k : Nat) (f : Slot → Slot) (s : State) : (updSlot k f s).time = s.time := rfl
@[simp] theorem updSlot_incSum (k : Nat) (f : Slot → Slot) (s : State) : (updSlot k f s).incSum = s.incSum := rfl
@[simp] theorem updSlot_boot (k : Nat) (f : Slot → Slot) (s : State) : (updSlot k f s).boot = s.boot := rfl
@[simp] theorem updSlot_root (k : Nat) (f : Slot → Slot) (s : State) : (updSlot k f s).root = s.root := rfl
@[simp] theorem updSlot_refs (k : Nat) (f : Slot → Slot) (s : State) : (updSlot k f s).refs = s.refs := rfl
@[simp] theorem updSlot_sels (k : Nat) (f : Slot → Slot) (s : State) : (updSlot k f s).sels = s.sels := rfl
@[simp] theorem updSlot_dplls (k : Nat) (f : Slot → Slot) (s : State) : (updSlot k f s).dplls = s.dplls := rfl
@[simp] theorem updSlot_hold (k : Nat) (f : Slot → Slot) (s : State) : (updSlot k f s).hold = s.hold := rfl
@[simp] theorem updSlot_meld (k : Nat) (f : Slot → Slot) (s : State) : (updSlot k f s).meld = s.meld := rfl
@[simp] theorem updSlot_meldBefore (k : Nat) (f : Slot → Slot) (s : State) : (updSlot k f s).meldBefore = s.meldBefore := rfl
@[simp] theorem updSlot_bound (k : Nat) (f : Slot → Slot) (s : State) : (updSlot k f s).bound = s.bound := rfl
@[simp] theorem updSlot_pair (k : Nat) (f : Slot → Slot) (s : State) : (updSlot k f s).pair = s.pair := rfl
@[simp] theorem updSlot_gnss (k : Nat) (f : Slot → Slot) (s : State) : (updSlot k f s).gnss = s.gnss := rfl
@[simp] theorem updSlot_outs (k : Nat) (f : Slot → Slot) (s : State) : (updSlot k f s).outs = s.outs := rfl
@[simp] theorem updSlot_tdc (k : Nat) (f : Slot → Slot) (s : State) : (updSlot k f s).tdc = s.tdc := rfl
@[simp] theorem updSlot_ports (k : Nat) (f : Slot → Slot) (s : State) : (updSlot k f s).ports = s.ports := rfl
@[simp] theorem updSlot_svc (k : Nat) (f : Slot → Slot) (s : State) : (updSlot k f s).svc = s.svc := rfl
@[simp] theorem updSlot_ptp (k : Nat) (f : Slot → Slot) (s : State) : (updSlot k f s).ptp = s.ptp := rfl
@[simp] theorem updSlot_ntp (k : Nat) (f : Slot → Slot) (s : State) : (updSlot k f s).ntp = s.ntp := rfl
@[simp] theorem updSlot_kitty (k : Nat) (f : Slot → Slot) (s : State) : (updSlot k f s).kitty = s.kitty := rfl
@[simp] theorem updSlot_fuse (k : Nat) (f : Slot → Slot) (s : State) : (updSlot k f s).fuse = s.fuse := rfl
@[simp] theorem updSlot_attest (k : Nat) (f : Slot → Slot) (s : State) : (updSlot k f s).attest = s.attest := rfl
@[simp] theorem updSlot_aud (k : Nat) (f : Slot → Slot) (s : State) : (updSlot k f s).aud = s.aud := rfl
@[simp] theorem updSlot_score (k : Nat) (f : Slot → Slot) (s : State) : (updSlot k f s).score = s.score := rfl
@[simp] theorem updSlot_flash (k : Nat) (f : Slot → Slot) (s : State) : (updSlot k f s).flash = s.flash := rfl
@[simp] theorem updSlot_hand (k : Nat) (f : Slot → Slot) (s : State) : (updSlot k f s).hand = s.hand := rfl
@[simp] theorem updSlot_perf (k : Nat) (f : Slot → Slot) (s : State) : (updSlot k f s).perf = s.perf := rfl
@[simp] theorem updSlot_shadow (k : Nat) (f : Slot → Slot) (s : State) : (updSlot k f s).shadow = s.shadow := rfl
@[simp] theorem updSlot_work (k : Nat) (f : Slot → Slot) (s : State) : (updSlot k f s).work = s.work := rfl

@[simp] theorem updBank_pending (i : Iface) (f : IfBank → IfBank) (s : State) : (updBank i f s).pending = s.pending := by cases i <;> rfl
@[simp] theorem updBank_now (i : Iface) (f : IfBank → IfBank) (s : State) : (updBank i f s).now = s.now := by cases i <;> rfl
@[simp] theorem updBank_out (i : Iface) (f : IfBank → IfBank) (s : State) : (updBank i f s).out = s.out := by cases i <;> rfl
@[simp] theorem updBank_free (i : Iface) (f : IfBank → IfBank) (s : State) : (updBank i f s).free = s.free := by cases i <;> rfl
@[simp] theorem updBank_time (i : Iface) (f : IfBank → IfBank) (s : State) : (updBank i f s).time = s.time := by cases i <;> rfl
@[simp] theorem updBank_incSum (i : Iface) (f : IfBank → IfBank) (s : State) : (updBank i f s).incSum = s.incSum := by cases i <;> rfl
@[simp] theorem updBank_boot (i : Iface) (f : IfBank → IfBank) (s : State) : (updBank i f s).boot = s.boot := by cases i <;> rfl
@[simp] theorem updBank_root (i : Iface) (f : IfBank → IfBank) (s : State) : (updBank i f s).root = s.root := by cases i <;> rfl
@[simp] theorem updBank_refs (i : Iface) (f : IfBank → IfBank) (s : State) : (updBank i f s).refs = s.refs := by cases i <;> rfl
@[simp] theorem updBank_sels (i : Iface) (f : IfBank → IfBank) (s : State) : (updBank i f s).sels = s.sels := by cases i <;> rfl
@[simp] theorem updBank_dplls (i : Iface) (f : IfBank → IfBank) (s : State) : (updBank i f s).dplls = s.dplls := by cases i <;> rfl
@[simp] theorem updBank_hold (i : Iface) (f : IfBank → IfBank) (s : State) : (updBank i f s).hold = s.hold := by cases i <;> rfl
@[simp] theorem updBank_meld (i : Iface) (f : IfBank → IfBank) (s : State) : (updBank i f s).meld = s.meld := by cases i <;> rfl
@[simp] theorem updBank_meldBefore (i : Iface) (f : IfBank → IfBank) (s : State) : (updBank i f s).meldBefore = s.meldBefore := by cases i <;> rfl
@[simp] theorem updBank_bound (i : Iface) (f : IfBank → IfBank) (s : State) : (updBank i f s).bound = s.bound := by cases i <;> rfl
@[simp] theorem updBank_pair (i : Iface) (f : IfBank → IfBank) (s : State) : (updBank i f s).pair = s.pair := by cases i <;> rfl
@[simp] theorem updBank_gnss (i : Iface) (f : IfBank → IfBank) (s : State) : (updBank i f s).gnss = s.gnss := by cases i <;> rfl
@[simp] theorem updBank_outs (i : Iface) (f : IfBank → IfBank) (s : State) : (updBank i f s).outs = s.outs := by cases i <;> rfl
@[simp] theorem updBank_tdc (i : Iface) (f : IfBank → IfBank) (s : State) : (updBank i f s).tdc = s.tdc := by cases i <;> rfl
@[simp] theorem updBank_ports (i : Iface) (f : IfBank → IfBank) (s : State) : (updBank i f s).ports = s.ports := by cases i <;> rfl
@[simp] theorem updBank_svc (i : Iface) (f : IfBank → IfBank) (s : State) : (updBank i f s).svc = s.svc := by cases i <;> rfl
@[simp] theorem updBank_ptp (i : Iface) (f : IfBank → IfBank) (s : State) : (updBank i f s).ptp = s.ptp := by cases i <;> rfl
@[simp] theorem updBank_ntp (i : Iface) (f : IfBank → IfBank) (s : State) : (updBank i f s).ntp = s.ntp := by cases i <;> rfl
@[simp] theorem updBank_kitty (i : Iface) (f : IfBank → IfBank) (s : State) : (updBank i f s).kitty = s.kitty := by cases i <;> rfl
@[simp] theorem updBank_fuse (i : Iface) (f : IfBank → IfBank) (s : State) : (updBank i f s).fuse = s.fuse := by cases i <;> rfl
@[simp] theorem updBank_attest (i : Iface) (f : IfBank → IfBank) (s : State) : (updBank i f s).attest = s.attest := by cases i <;> rfl
@[simp] theorem updBank_aud (i : Iface) (f : IfBank → IfBank) (s : State) : (updBank i f s).aud = s.aud := by cases i <;> rfl
@[simp] theorem updBank_score (i : Iface) (f : IfBank → IfBank) (s : State) : (updBank i f s).score = s.score := by cases i <;> rfl
@[simp] theorem updBank_flash (i : Iface) (f : IfBank → IfBank) (s : State) : (updBank i f s).flash = s.flash := by cases i <;> rfl
@[simp] theorem updBank_hand (i : Iface) (f : IfBank → IfBank) (s : State) : (updBank i f s).hand = s.hand := by cases i <;> rfl
@[simp] theorem updBank_perf (i : Iface) (f : IfBank → IfBank) (s : State) : (updBank i f s).perf = s.perf := by cases i <;> rfl
@[simp] theorem updBank_shadow (i : Iface) (f : IfBank → IfBank) (s : State) : (updBank i f s).shadow = s.shadow := by cases i <;> rfl
@[simp] theorem updBank_work (i : Iface) (f : IfBank → IfBank) (s : State) : (updBank i f s).work = s.work := by cases i <;> rfl

@[simp] theorem updDpll_dplls (d : Nat) (f : DpllRun → DpllRun) (s : State) : (updDpll d f s).dplls = upd s.dplls d f := rfl
@[simp] theorem updDpll_pending (d : Nat) (f : DpllRun → DpllRun) (s : State) : (updDpll d f s).pending = s.pending := rfl
@[simp] theorem updDpll_now (d : Nat) (f : DpllRun → DpllRun) (s : State) : (updDpll d f s).now = s.now := rfl
@[simp] theorem updDpll_out (d : Nat) (f : DpllRun → DpllRun) (s : State) : (updDpll d f s).out = s.out := rfl
@[simp] theorem updDpll_free (d : Nat) (f : DpllRun → DpllRun) (s : State) : (updDpll d f s).free = s.free := rfl
@[simp] theorem updDpll_time (d : Nat) (f : DpllRun → DpllRun) (s : State) : (updDpll d f s).time = s.time := rfl
@[simp] theorem updDpll_incSum (d : Nat) (f : DpllRun → DpllRun) (s : State) : (updDpll d f s).incSum = s.incSum := rfl
@[simp] theorem updDpll_host (d : Nat) (f : DpllRun → DpllRun) (s : State) : (updDpll d f s).host = s.host := rfl
@[simp] theorem updDpll_boot (d : Nat) (f : DpllRun → DpllRun) (s : State) : (updDpll d f s).boot = s.boot := rfl
@[simp] theorem updDpll_root (d : Nat) (f : DpllRun → DpllRun) (s : State) : (updDpll d f s).root = s.root := rfl
@[simp] theorem updDpll_refs (d : Nat) (f : DpllRun → DpllRun) (s : State) : (updDpll d f s).refs = s.refs := rfl
@[simp] theorem updDpll_sels (d : Nat) (f : DpllRun → DpllRun) (s : State) : (updDpll d f s).sels = s.sels := rfl
@[simp] theorem updDpll_hold (d : Nat) (f : DpllRun → DpllRun) (s : State) : (updDpll d f s).hold = s.hold := rfl
@[simp] theorem updDpll_meld (d : Nat) (f : DpllRun → DpllRun) (s : State) : (updDpll d f s).meld = s.meld := rfl
@[simp] theorem updDpll_meldBefore (d : Nat) (f : DpllRun → DpllRun) (s : State) : (updDpll d f s).meldBefore = s.meldBefore := rfl
@[simp] theorem updDpll_bound (d : Nat) (f : DpllRun → DpllRun) (s : State) : (updDpll d f s).bound = s.bound := rfl
@[simp] theorem updDpll_pair (d : Nat) (f : DpllRun → DpllRun) (s : State) : (updDpll d f s).pair = s.pair := rfl
@[simp] theorem updDpll_gnss (d : Nat) (f : DpllRun → DpllRun) (s : State) : (updDpll d f s).gnss = s.gnss := rfl
@[simp] theorem updDpll_outs (d : Nat) (f : DpllRun → DpllRun) (s : State) : (updDpll d f s).outs = s.outs := rfl
@[simp] theorem updDpll_tdc (d : Nat) (f : DpllRun → DpllRun) (s : State) : (updDpll d f s).tdc = s.tdc := rfl
@[simp] theorem updDpll_ports (d : Nat) (f : DpllRun → DpllRun) (s : State) : (updDpll d f s).ports = s.ports := rfl
@[simp] theorem updDpll_svc (d : Nat) (f : DpllRun → DpllRun) (s : State) : (updDpll d f s).svc = s.svc := rfl
@[simp] theorem updDpll_ptp (d : Nat) (f : DpllRun → DpllRun) (s : State) : (updDpll d f s).ptp = s.ptp := rfl
@[simp] theorem updDpll_ntp (d : Nat) (f : DpllRun → DpllRun) (s : State) : (updDpll d f s).ntp = s.ntp := rfl
@[simp] theorem updDpll_kitty (d : Nat) (f : DpllRun → DpllRun) (s : State) : (updDpll d f s).kitty = s.kitty := rfl
@[simp] theorem updDpll_fuse (d : Nat) (f : DpllRun → DpllRun) (s : State) : (updDpll d f s).fuse = s.fuse := rfl
@[simp] theorem updDpll_attest (d : Nat) (f : DpllRun → DpllRun) (s : State) : (updDpll d f s).attest = s.attest := rfl
@[simp] theorem updDpll_aud (d : Nat) (f : DpllRun → DpllRun) (s : State) : (updDpll d f s).aud = s.aud := rfl
@[simp] theorem updDpll_score (d : Nat) (f : DpllRun → DpllRun) (s : State) : (updDpll d f s).score = s.score := rfl
@[simp] theorem updDpll_flash (d : Nat) (f : DpllRun → DpllRun) (s : State) : (updDpll d f s).flash = s.flash := rfl
@[simp] theorem updDpll_hand (d : Nat) (f : DpllRun → DpllRun) (s : State) : (updDpll d f s).hand = s.hand := rfl
@[simp] theorem updDpll_perf (d : Nat) (f : DpllRun → DpllRun) (s : State) : (updDpll d f s).perf = s.perf := rfl
@[simp] theorem updDpll_shadow (d : Nat) (f : DpllRun → DpllRun) (s : State) : (updDpll d f s).shadow = s.shadow := rfl
@[simp] theorem updDpll_work (d : Nat) (f : DpllRun → DpllRun) (s : State) : (updDpll d f s).work = s.work := rfl

@[simp] theorem updPair_pair (f : PairRun → PairRun) (s : State) : (updPair f s).pair = f s.pair := rfl
@[simp] theorem updPair_pending (f : PairRun → PairRun) (s : State) : (updPair f s).pending = s.pending := rfl
@[simp] theorem updPair_now (f : PairRun → PairRun) (s : State) : (updPair f s).now = s.now := rfl
@[simp] theorem updPair_out (f : PairRun → PairRun) (s : State) : (updPair f s).out = s.out := rfl
@[simp] theorem updPair_free (f : PairRun → PairRun) (s : State) : (updPair f s).free = s.free := rfl
@[simp] theorem updPair_time (f : PairRun → PairRun) (s : State) : (updPair f s).time = s.time := rfl
@[simp] theorem updPair_incSum (f : PairRun → PairRun) (s : State) : (updPair f s).incSum = s.incSum := rfl
@[simp] theorem updPair_host (f : PairRun → PairRun) (s : State) : (updPair f s).host = s.host := rfl
@[simp] theorem updPair_boot (f : PairRun → PairRun) (s : State) : (updPair f s).boot = s.boot := rfl
@[simp] theorem updPair_root (f : PairRun → PairRun) (s : State) : (updPair f s).root = s.root := rfl
@[simp] theorem updPair_refs (f : PairRun → PairRun) (s : State) : (updPair f s).refs = s.refs := rfl
@[simp] theorem updPair_sels (f : PairRun → PairRun) (s : State) : (updPair f s).sels = s.sels := rfl
@[simp] theorem updPair_dplls (f : PairRun → PairRun) (s : State) : (updPair f s).dplls = s.dplls := rfl
@[simp] theorem updPair_hold (f : PairRun → PairRun) (s : State) : (updPair f s).hold = s.hold := rfl
@[simp] theorem updPair_meld (f : PairRun → PairRun) (s : State) : (updPair f s).meld = s.meld := rfl
@[simp] theorem updPair_meldBefore (f : PairRun → PairRun) (s : State) : (updPair f s).meldBefore = s.meldBefore := rfl
@[simp] theorem updPair_bound (f : PairRun → PairRun) (s : State) : (updPair f s).bound = s.bound := rfl
@[simp] theorem updPair_gnss (f : PairRun → PairRun) (s : State) : (updPair f s).gnss = s.gnss := rfl
@[simp] theorem updPair_outs (f : PairRun → PairRun) (s : State) : (updPair f s).outs = s.outs := rfl
@[simp] theorem updPair_tdc (f : PairRun → PairRun) (s : State) : (updPair f s).tdc = s.tdc := rfl
@[simp] theorem updPair_ports (f : PairRun → PairRun) (s : State) : (updPair f s).ports = s.ports := rfl
@[simp] theorem updPair_svc (f : PairRun → PairRun) (s : State) : (updPair f s).svc = s.svc := rfl
@[simp] theorem updPair_ptp (f : PairRun → PairRun) (s : State) : (updPair f s).ptp = s.ptp := rfl
@[simp] theorem updPair_ntp (f : PairRun → PairRun) (s : State) : (updPair f s).ntp = s.ntp := rfl
@[simp] theorem updPair_kitty (f : PairRun → PairRun) (s : State) : (updPair f s).kitty = s.kitty := rfl
@[simp] theorem updPair_fuse (f : PairRun → PairRun) (s : State) : (updPair f s).fuse = s.fuse := rfl
@[simp] theorem updPair_attest (f : PairRun → PairRun) (s : State) : (updPair f s).attest = s.attest := rfl
@[simp] theorem updPair_aud (f : PairRun → PairRun) (s : State) : (updPair f s).aud = s.aud := rfl
@[simp] theorem updPair_score (f : PairRun → PairRun) (s : State) : (updPair f s).score = s.score := rfl
@[simp] theorem updPair_flash (f : PairRun → PairRun) (s : State) : (updPair f s).flash = s.flash := rfl
@[simp] theorem updPair_hand (f : PairRun → PairRun) (s : State) : (updPair f s).hand = s.hand := rfl
@[simp] theorem updPair_perf (f : PairRun → PairRun) (s : State) : (updPair f s).perf = s.perf := rfl
@[simp] theorem updPair_shadow (f : PairRun → PairRun) (s : State) : (updPair f s).shadow = s.shadow := rfl
@[simp] theorem updPair_work (f : PairRun → PairRun) (s : State) : (updPair f s).work = s.work := rfl

@[simp] theorem updGnss_gnss (f : GnssRun → GnssRun) (s : State) : (updGnss f s).gnss = f s.gnss := rfl
@[simp] theorem updGnss_pending (f : GnssRun → GnssRun) (s : State) : (updGnss f s).pending = s.pending := rfl
@[simp] theorem updGnss_now (f : GnssRun → GnssRun) (s : State) : (updGnss f s).now = s.now := rfl
@[simp] theorem updGnss_out (f : GnssRun → GnssRun) (s : State) : (updGnss f s).out = s.out := rfl
@[simp] theorem updGnss_free (f : GnssRun → GnssRun) (s : State) : (updGnss f s).free = s.free := rfl
@[simp] theorem updGnss_time (f : GnssRun → GnssRun) (s : State) : (updGnss f s).time = s.time := rfl
@[simp] theorem updGnss_incSum (f : GnssRun → GnssRun) (s : State) : (updGnss f s).incSum = s.incSum := rfl
@[simp] theorem updGnss_host (f : GnssRun → GnssRun) (s : State) : (updGnss f s).host = s.host := rfl
@[simp] theorem updGnss_boot (f : GnssRun → GnssRun) (s : State) : (updGnss f s).boot = s.boot := rfl
@[simp] theorem updGnss_root (f : GnssRun → GnssRun) (s : State) : (updGnss f s).root = s.root := rfl
@[simp] theorem updGnss_refs (f : GnssRun → GnssRun) (s : State) : (updGnss f s).refs = s.refs := rfl
@[simp] theorem updGnss_sels (f : GnssRun → GnssRun) (s : State) : (updGnss f s).sels = s.sels := rfl
@[simp] theorem updGnss_dplls (f : GnssRun → GnssRun) (s : State) : (updGnss f s).dplls = s.dplls := rfl
@[simp] theorem updGnss_hold (f : GnssRun → GnssRun) (s : State) : (updGnss f s).hold = s.hold := rfl
@[simp] theorem updGnss_meld (f : GnssRun → GnssRun) (s : State) : (updGnss f s).meld = s.meld := rfl
@[simp] theorem updGnss_meldBefore (f : GnssRun → GnssRun) (s : State) : (updGnss f s).meldBefore = s.meldBefore := rfl
@[simp] theorem updGnss_bound (f : GnssRun → GnssRun) (s : State) : (updGnss f s).bound = s.bound := rfl
@[simp] theorem updGnss_pair (f : GnssRun → GnssRun) (s : State) : (updGnss f s).pair = s.pair := rfl
@[simp] theorem updGnss_outs (f : GnssRun → GnssRun) (s : State) : (updGnss f s).outs = s.outs := rfl
@[simp] theorem updGnss_tdc (f : GnssRun → GnssRun) (s : State) : (updGnss f s).tdc = s.tdc := rfl
@[simp] theorem updGnss_ports (f : GnssRun → GnssRun) (s : State) : (updGnss f s).ports = s.ports := rfl
@[simp] theorem updGnss_svc (f : GnssRun → GnssRun) (s : State) : (updGnss f s).svc = s.svc := rfl
@[simp] theorem updGnss_ptp (f : GnssRun → GnssRun) (s : State) : (updGnss f s).ptp = s.ptp := rfl
@[simp] theorem updGnss_ntp (f : GnssRun → GnssRun) (s : State) : (updGnss f s).ntp = s.ntp := rfl
@[simp] theorem updGnss_kitty (f : GnssRun → GnssRun) (s : State) : (updGnss f s).kitty = s.kitty := rfl
@[simp] theorem updGnss_fuse (f : GnssRun → GnssRun) (s : State) : (updGnss f s).fuse = s.fuse := rfl
@[simp] theorem updGnss_attest (f : GnssRun → GnssRun) (s : State) : (updGnss f s).attest = s.attest := rfl
@[simp] theorem updGnss_aud (f : GnssRun → GnssRun) (s : State) : (updGnss f s).aud = s.aud := rfl
@[simp] theorem updGnss_score (f : GnssRun → GnssRun) (s : State) : (updGnss f s).score = s.score := rfl
@[simp] theorem updGnss_flash (f : GnssRun → GnssRun) (s : State) : (updGnss f s).flash = s.flash := rfl
@[simp] theorem updGnss_hand (f : GnssRun → GnssRun) (s : State) : (updGnss f s).hand = s.hand := rfl
@[simp] theorem updGnss_perf (f : GnssRun → GnssRun) (s : State) : (updGnss f s).perf = s.perf := rfl
@[simp] theorem updGnss_shadow (f : GnssRun → GnssRun) (s : State) : (updGnss f s).shadow = s.shadow := rfl
@[simp] theorem updGnss_work (f : GnssRun → GnssRun) (s : State) : (updGnss f s).work = s.work := rfl

@[simp] theorem updKitty_kitty (f : KittyPart → KittyPart) (s : State) : (updKitty f s).kitty = f s.kitty := rfl
@[simp] theorem updKitty_pending (f : KittyPart → KittyPart) (s : State) : (updKitty f s).pending = s.pending := rfl
@[simp] theorem updKitty_now (f : KittyPart → KittyPart) (s : State) : (updKitty f s).now = s.now := rfl
@[simp] theorem updKitty_out (f : KittyPart → KittyPart) (s : State) : (updKitty f s).out = s.out := rfl
@[simp] theorem updKitty_free (f : KittyPart → KittyPart) (s : State) : (updKitty f s).free = s.free := rfl
@[simp] theorem updKitty_time (f : KittyPart → KittyPart) (s : State) : (updKitty f s).time = s.time := rfl
@[simp] theorem updKitty_incSum (f : KittyPart → KittyPart) (s : State) : (updKitty f s).incSum = s.incSum := rfl
@[simp] theorem updKitty_host (f : KittyPart → KittyPart) (s : State) : (updKitty f s).host = s.host := rfl
@[simp] theorem updKitty_boot (f : KittyPart → KittyPart) (s : State) : (updKitty f s).boot = s.boot := rfl
@[simp] theorem updKitty_root (f : KittyPart → KittyPart) (s : State) : (updKitty f s).root = s.root := rfl
@[simp] theorem updKitty_refs (f : KittyPart → KittyPart) (s : State) : (updKitty f s).refs = s.refs := rfl
@[simp] theorem updKitty_sels (f : KittyPart → KittyPart) (s : State) : (updKitty f s).sels = s.sels := rfl
@[simp] theorem updKitty_dplls (f : KittyPart → KittyPart) (s : State) : (updKitty f s).dplls = s.dplls := rfl
@[simp] theorem updKitty_hold (f : KittyPart → KittyPart) (s : State) : (updKitty f s).hold = s.hold := rfl
@[simp] theorem updKitty_meld (f : KittyPart → KittyPart) (s : State) : (updKitty f s).meld = s.meld := rfl
@[simp] theorem updKitty_meldBefore (f : KittyPart → KittyPart) (s : State) : (updKitty f s).meldBefore = s.meldBefore := rfl
@[simp] theorem updKitty_bound (f : KittyPart → KittyPart) (s : State) : (updKitty f s).bound = s.bound := rfl
@[simp] theorem updKitty_pair (f : KittyPart → KittyPart) (s : State) : (updKitty f s).pair = s.pair := rfl
@[simp] theorem updKitty_gnss (f : KittyPart → KittyPart) (s : State) : (updKitty f s).gnss = s.gnss := rfl
@[simp] theorem updKitty_outs (f : KittyPart → KittyPart) (s : State) : (updKitty f s).outs = s.outs := rfl
@[simp] theorem updKitty_tdc (f : KittyPart → KittyPart) (s : State) : (updKitty f s).tdc = s.tdc := rfl
@[simp] theorem updKitty_ports (f : KittyPart → KittyPart) (s : State) : (updKitty f s).ports = s.ports := rfl
@[simp] theorem updKitty_svc (f : KittyPart → KittyPart) (s : State) : (updKitty f s).svc = s.svc := rfl
@[simp] theorem updKitty_ptp (f : KittyPart → KittyPart) (s : State) : (updKitty f s).ptp = s.ptp := rfl
@[simp] theorem updKitty_ntp (f : KittyPart → KittyPart) (s : State) : (updKitty f s).ntp = s.ntp := rfl
@[simp] theorem updKitty_fuse (f : KittyPart → KittyPart) (s : State) : (updKitty f s).fuse = s.fuse := rfl
@[simp] theorem updKitty_attest (f : KittyPart → KittyPart) (s : State) : (updKitty f s).attest = s.attest := rfl
@[simp] theorem updKitty_aud (f : KittyPart → KittyPart) (s : State) : (updKitty f s).aud = s.aud := rfl
@[simp] theorem updKitty_score (f : KittyPart → KittyPart) (s : State) : (updKitty f s).score = s.score := rfl
@[simp] theorem updKitty_flash (f : KittyPart → KittyPart) (s : State) : (updKitty f s).flash = s.flash := rfl
@[simp] theorem updKitty_hand (f : KittyPart → KittyPart) (s : State) : (updKitty f s).hand = s.hand := rfl
@[simp] theorem updKitty_perf (f : KittyPart → KittyPart) (s : State) : (updKitty f s).perf = s.perf := rfl
@[simp] theorem updKitty_shadow (f : KittyPart → KittyPart) (s : State) : (updKitty f s).shadow = s.shadow := rfl
@[simp] theorem updKitty_work (f : KittyPart → KittyPart) (s : State) : (updKitty f s).work = s.work := rfl

@[simp] theorem updAttest_attest (f : AttestPart → AttestPart) (s : State) : (updAttest f s).attest = f s.attest := rfl
@[simp] theorem updAttest_pending (f : AttestPart → AttestPart) (s : State) : (updAttest f s).pending = s.pending := rfl
@[simp] theorem updAttest_now (f : AttestPart → AttestPart) (s : State) : (updAttest f s).now = s.now := rfl
@[simp] theorem updAttest_out (f : AttestPart → AttestPart) (s : State) : (updAttest f s).out = s.out := rfl
@[simp] theorem updAttest_free (f : AttestPart → AttestPart) (s : State) : (updAttest f s).free = s.free := rfl
@[simp] theorem updAttest_time (f : AttestPart → AttestPart) (s : State) : (updAttest f s).time = s.time := rfl
@[simp] theorem updAttest_incSum (f : AttestPart → AttestPart) (s : State) : (updAttest f s).incSum = s.incSum := rfl
@[simp] theorem updAttest_host (f : AttestPart → AttestPart) (s : State) : (updAttest f s).host = s.host := rfl
@[simp] theorem updAttest_boot (f : AttestPart → AttestPart) (s : State) : (updAttest f s).boot = s.boot := rfl
@[simp] theorem updAttest_root (f : AttestPart → AttestPart) (s : State) : (updAttest f s).root = s.root := rfl
@[simp] theorem updAttest_refs (f : AttestPart → AttestPart) (s : State) : (updAttest f s).refs = s.refs := rfl
@[simp] theorem updAttest_sels (f : AttestPart → AttestPart) (s : State) : (updAttest f s).sels = s.sels := rfl
@[simp] theorem updAttest_dplls (f : AttestPart → AttestPart) (s : State) : (updAttest f s).dplls = s.dplls := rfl
@[simp] theorem updAttest_hold (f : AttestPart → AttestPart) (s : State) : (updAttest f s).hold = s.hold := rfl
@[simp] theorem updAttest_meld (f : AttestPart → AttestPart) (s : State) : (updAttest f s).meld = s.meld := rfl
@[simp] theorem updAttest_meldBefore (f : AttestPart → AttestPart) (s : State) : (updAttest f s).meldBefore = s.meldBefore := rfl
@[simp] theorem updAttest_bound (f : AttestPart → AttestPart) (s : State) : (updAttest f s).bound = s.bound := rfl
@[simp] theorem updAttest_pair (f : AttestPart → AttestPart) (s : State) : (updAttest f s).pair = s.pair := rfl
@[simp] theorem updAttest_gnss (f : AttestPart → AttestPart) (s : State) : (updAttest f s).gnss = s.gnss := rfl
@[simp] theorem updAttest_outs (f : AttestPart → AttestPart) (s : State) : (updAttest f s).outs = s.outs := rfl
@[simp] theorem updAttest_tdc (f : AttestPart → AttestPart) (s : State) : (updAttest f s).tdc = s.tdc := rfl
@[simp] theorem updAttest_ports (f : AttestPart → AttestPart) (s : State) : (updAttest f s).ports = s.ports := rfl
@[simp] theorem updAttest_svc (f : AttestPart → AttestPart) (s : State) : (updAttest f s).svc = s.svc := rfl
@[simp] theorem updAttest_ptp (f : AttestPart → AttestPart) (s : State) : (updAttest f s).ptp = s.ptp := rfl
@[simp] theorem updAttest_ntp (f : AttestPart → AttestPart) (s : State) : (updAttest f s).ntp = s.ntp := rfl
@[simp] theorem updAttest_kitty (f : AttestPart → AttestPart) (s : State) : (updAttest f s).kitty = s.kitty := rfl
@[simp] theorem updAttest_fuse (f : AttestPart → AttestPart) (s : State) : (updAttest f s).fuse = s.fuse := rfl
@[simp] theorem updAttest_aud (f : AttestPart → AttestPart) (s : State) : (updAttest f s).aud = s.aud := rfl
@[simp] theorem updAttest_score (f : AttestPart → AttestPart) (s : State) : (updAttest f s).score = s.score := rfl
@[simp] theorem updAttest_flash (f : AttestPart → AttestPart) (s : State) : (updAttest f s).flash = s.flash := rfl
@[simp] theorem updAttest_hand (f : AttestPart → AttestPart) (s : State) : (updAttest f s).hand = s.hand := rfl
@[simp] theorem updAttest_perf (f : AttestPart → AttestPart) (s : State) : (updAttest f s).perf = s.perf := rfl
@[simp] theorem updAttest_shadow (f : AttestPart → AttestPart) (s : State) : (updAttest f s).shadow = s.shadow := rfl
@[simp] theorem updAttest_work (f : AttestPart → AttestPart) (s : State) : (updAttest f s).work = s.work := rfl

@[simp] theorem setBank_pending (b : Nat) (img : Bytes) (s : State) : (setBank b img s).pending = s.pending := rfl
@[simp] theorem setBank_now (b : Nat) (img : Bytes) (s : State) : (setBank b img s).now = s.now := rfl
@[simp] theorem setBank_out (b : Nat) (img : Bytes) (s : State) : (setBank b img s).out = s.out := rfl
@[simp] theorem setBank_free (b : Nat) (img : Bytes) (s : State) : (setBank b img s).free = s.free := rfl
@[simp] theorem setBank_time (b : Nat) (img : Bytes) (s : State) : (setBank b img s).time = s.time := rfl
@[simp] theorem setBank_incSum (b : Nat) (img : Bytes) (s : State) : (setBank b img s).incSum = s.incSum := rfl
@[simp] theorem setBank_host (b : Nat) (img : Bytes) (s : State) : (setBank b img s).host = s.host := rfl
@[simp] theorem setBank_boot (b : Nat) (img : Bytes) (s : State) : (setBank b img s).boot = s.boot := rfl
@[simp] theorem setBank_root (b : Nat) (img : Bytes) (s : State) : (setBank b img s).root = s.root := rfl
@[simp] theorem setBank_refs (b : Nat) (img : Bytes) (s : State) : (setBank b img s).refs = s.refs := rfl
@[simp] theorem setBank_sels (b : Nat) (img : Bytes) (s : State) : (setBank b img s).sels = s.sels := rfl
@[simp] theorem setBank_dplls (b : Nat) (img : Bytes) (s : State) : (setBank b img s).dplls = s.dplls := rfl
@[simp] theorem setBank_hold (b : Nat) (img : Bytes) (s : State) : (setBank b img s).hold = s.hold := rfl
@[simp] theorem setBank_meld (b : Nat) (img : Bytes) (s : State) : (setBank b img s).meld = s.meld := rfl
@[simp] theorem setBank_meldBefore (b : Nat) (img : Bytes) (s : State) : (setBank b img s).meldBefore = s.meldBefore := rfl
@[simp] theorem setBank_bound (b : Nat) (img : Bytes) (s : State) : (setBank b img s).bound = s.bound := rfl
@[simp] theorem setBank_pair (b : Nat) (img : Bytes) (s : State) : (setBank b img s).pair = s.pair := rfl
@[simp] theorem setBank_gnss (b : Nat) (img : Bytes) (s : State) : (setBank b img s).gnss = s.gnss := rfl
@[simp] theorem setBank_outs (b : Nat) (img : Bytes) (s : State) : (setBank b img s).outs = s.outs := rfl
@[simp] theorem setBank_tdc (b : Nat) (img : Bytes) (s : State) : (setBank b img s).tdc = s.tdc := rfl
@[simp] theorem setBank_ports (b : Nat) (img : Bytes) (s : State) : (setBank b img s).ports = s.ports := rfl
@[simp] theorem setBank_svc (b : Nat) (img : Bytes) (s : State) : (setBank b img s).svc = s.svc := rfl
@[simp] theorem setBank_ptp (b : Nat) (img : Bytes) (s : State) : (setBank b img s).ptp = s.ptp := rfl
@[simp] theorem setBank_ntp (b : Nat) (img : Bytes) (s : State) : (setBank b img s).ntp = s.ntp := rfl
@[simp] theorem setBank_kitty (b : Nat) (img : Bytes) (s : State) : (setBank b img s).kitty = s.kitty := rfl
@[simp] theorem setBank_fuse (b : Nat) (img : Bytes) (s : State) : (setBank b img s).fuse = s.fuse := rfl
@[simp] theorem setBank_attest (b : Nat) (img : Bytes) (s : State) : (setBank b img s).attest = s.attest := rfl
@[simp] theorem setBank_aud (b : Nat) (img : Bytes) (s : State) : (setBank b img s).aud = s.aud := rfl
@[simp] theorem setBank_score (b : Nat) (img : Bytes) (s : State) : (setBank b img s).score = s.score := rfl
@[simp] theorem setBank_hand (b : Nat) (img : Bytes) (s : State) : (setBank b img s).hand = s.hand := rfl
@[simp] theorem setBank_perf (b : Nat) (img : Bytes) (s : State) : (setBank b img s).perf = s.perf := rfl
@[simp] theorem setBank_shadow (b : Nat) (img : Bytes) (s : State) : (setBank b img s).shadow = s.shadow := rfl
@[simp] theorem setBank_work (b : Nat) (img : Bytes) (s : State) : (setBank b img s).work = s.work := rfl

@[simp] theorem updLane_pending (n : Nat) (f : LaneRun → LaneRun) (s : State) : (updLane n f s).pending = s.pending := rfl
@[simp] theorem updLane_now (n : Nat) (f : LaneRun → LaneRun) (s : State) : (updLane n f s).now = s.now := rfl
@[simp] theorem updLane_out (n : Nat) (f : LaneRun → LaneRun) (s : State) : (updLane n f s).out = s.out := rfl
@[simp] theorem updLane_free (n : Nat) (f : LaneRun → LaneRun) (s : State) : (updLane n f s).free = s.free := rfl
@[simp] theorem updLane_time (n : Nat) (f : LaneRun → LaneRun) (s : State) : (updLane n f s).time = s.time := rfl
@[simp] theorem updLane_incSum (n : Nat) (f : LaneRun → LaneRun) (s : State) : (updLane n f s).incSum = s.incSum := rfl
@[simp] theorem updLane_host (n : Nat) (f : LaneRun → LaneRun) (s : State) : (updLane n f s).host = s.host := rfl
@[simp] theorem updLane_boot (n : Nat) (f : LaneRun → LaneRun) (s : State) : (updLane n f s).boot = s.boot := rfl
@[simp] theorem updLane_root (n : Nat) (f : LaneRun → LaneRun) (s : State) : (updLane n f s).root = s.root := rfl
@[simp] theorem updLane_refs (n : Nat) (f : LaneRun → LaneRun) (s : State) : (updLane n f s).refs = s.refs := rfl
@[simp] theorem updLane_sels (n : Nat) (f : LaneRun → LaneRun) (s : State) : (updLane n f s).sels = s.sels := rfl
@[simp] theorem updLane_dplls (n : Nat) (f : LaneRun → LaneRun) (s : State) : (updLane n f s).dplls = s.dplls := rfl
@[simp] theorem updLane_hold (n : Nat) (f : LaneRun → LaneRun) (s : State) : (updLane n f s).hold = s.hold := rfl
@[simp] theorem updLane_meld (n : Nat) (f : LaneRun → LaneRun) (s : State) : (updLane n f s).meld = s.meld := rfl
@[simp] theorem updLane_meldBefore (n : Nat) (f : LaneRun → LaneRun) (s : State) : (updLane n f s).meldBefore = s.meldBefore := rfl
@[simp] theorem updLane_bound (n : Nat) (f : LaneRun → LaneRun) (s : State) : (updLane n f s).bound = s.bound := rfl
@[simp] theorem updLane_gnss (n : Nat) (f : LaneRun → LaneRun) (s : State) : (updLane n f s).gnss = s.gnss := rfl
@[simp] theorem updLane_outs (n : Nat) (f : LaneRun → LaneRun) (s : State) : (updLane n f s).outs = s.outs := rfl
@[simp] theorem updLane_tdc (n : Nat) (f : LaneRun → LaneRun) (s : State) : (updLane n f s).tdc = s.tdc := rfl
@[simp] theorem updLane_ports (n : Nat) (f : LaneRun → LaneRun) (s : State) : (updLane n f s).ports = s.ports := rfl
@[simp] theorem updLane_svc (n : Nat) (f : LaneRun → LaneRun) (s : State) : (updLane n f s).svc = s.svc := rfl
@[simp] theorem updLane_ptp (n : Nat) (f : LaneRun → LaneRun) (s : State) : (updLane n f s).ptp = s.ptp := rfl
@[simp] theorem updLane_ntp (n : Nat) (f : LaneRun → LaneRun) (s : State) : (updLane n f s).ntp = s.ntp := rfl
@[simp] theorem updLane_kitty (n : Nat) (f : LaneRun → LaneRun) (s : State) : (updLane n f s).kitty = s.kitty := rfl
@[simp] theorem updLane_fuse (n : Nat) (f : LaneRun → LaneRun) (s : State) : (updLane n f s).fuse = s.fuse := rfl
@[simp] theorem updLane_attest (n : Nat) (f : LaneRun → LaneRun) (s : State) : (updLane n f s).attest = s.attest := rfl
@[simp] theorem updLane_aud (n : Nat) (f : LaneRun → LaneRun) (s : State) : (updLane n f s).aud = s.aud := rfl
@[simp] theorem updLane_score (n : Nat) (f : LaneRun → LaneRun) (s : State) : (updLane n f s).score = s.score := rfl
@[simp] theorem updLane_flash (n : Nat) (f : LaneRun → LaneRun) (s : State) : (updLane n f s).flash = s.flash := rfl
@[simp] theorem updLane_hand (n : Nat) (f : LaneRun → LaneRun) (s : State) : (updLane n f s).hand = s.hand := rfl
@[simp] theorem updLane_perf (n : Nat) (f : LaneRun → LaneRun) (s : State) : (updLane n f s).perf = s.perf := rfl
@[simp] theorem updLane_shadow (n : Nat) (f : LaneRun → LaneRun) (s : State) : (updLane n f s).shadow = s.shadow := rfl
@[simp] theorem updLane_work (n : Nat) (f : LaneRun → LaneRun) (s : State) : (updLane n f s).work = s.work := rfl

@[simp] theorem updNtp_ntp (f : NtpPart → NtpPart) (s : State) : (updNtp f s).ntp = f s.ntp := rfl
@[simp] theorem updNtp_pending (f : NtpPart → NtpPart) (s : State) : (updNtp f s).pending = s.pending := rfl
@[simp] theorem updNtp_now (f : NtpPart → NtpPart) (s : State) : (updNtp f s).now = s.now := rfl
@[simp] theorem updNtp_out (f : NtpPart → NtpPart) (s : State) : (updNtp f s).out = s.out := rfl
@[simp] theorem updNtp_free (f : NtpPart → NtpPart) (s : State) : (updNtp f s).free = s.free := rfl
@[simp] theorem updNtp_time (f : NtpPart → NtpPart) (s : State) : (updNtp f s).time = s.time := rfl
@[simp] theorem updNtp_incSum (f : NtpPart → NtpPart) (s : State) : (updNtp f s).incSum = s.incSum := rfl
@[simp] theorem updNtp_host (f : NtpPart → NtpPart) (s : State) : (updNtp f s).host = s.host := rfl
@[simp] theorem updNtp_boot (f : NtpPart → NtpPart) (s : State) : (updNtp f s).boot = s.boot := rfl
@[simp] theorem updNtp_root (f : NtpPart → NtpPart) (s : State) : (updNtp f s).root = s.root := rfl
@[simp] theorem updNtp_refs (f : NtpPart → NtpPart) (s : State) : (updNtp f s).refs = s.refs := rfl
@[simp] theorem updNtp_sels (f : NtpPart → NtpPart) (s : State) : (updNtp f s).sels = s.sels := rfl
@[simp] theorem updNtp_dplls (f : NtpPart → NtpPart) (s : State) : (updNtp f s).dplls = s.dplls := rfl
@[simp] theorem updNtp_hold (f : NtpPart → NtpPart) (s : State) : (updNtp f s).hold = s.hold := rfl
@[simp] theorem updNtp_meld (f : NtpPart → NtpPart) (s : State) : (updNtp f s).meld = s.meld := rfl
@[simp] theorem updNtp_meldBefore (f : NtpPart → NtpPart) (s : State) : (updNtp f s).meldBefore = s.meldBefore := rfl
@[simp] theorem updNtp_bound (f : NtpPart → NtpPart) (s : State) : (updNtp f s).bound = s.bound := rfl
@[simp] theorem updNtp_pair (f : NtpPart → NtpPart) (s : State) : (updNtp f s).pair = s.pair := rfl
@[simp] theorem updNtp_gnss (f : NtpPart → NtpPart) (s : State) : (updNtp f s).gnss = s.gnss := rfl
@[simp] theorem updNtp_outs (f : NtpPart → NtpPart) (s : State) : (updNtp f s).outs = s.outs := rfl
@[simp] theorem updNtp_tdc (f : NtpPart → NtpPart) (s : State) : (updNtp f s).tdc = s.tdc := rfl
@[simp] theorem updNtp_ports (f : NtpPart → NtpPart) (s : State) : (updNtp f s).ports = s.ports := rfl
@[simp] theorem updNtp_svc (f : NtpPart → NtpPart) (s : State) : (updNtp f s).svc = s.svc := rfl
@[simp] theorem updNtp_ptp (f : NtpPart → NtpPart) (s : State) : (updNtp f s).ptp = s.ptp := rfl
@[simp] theorem updNtp_kitty (f : NtpPart → NtpPart) (s : State) : (updNtp f s).kitty = s.kitty := rfl
@[simp] theorem updNtp_fuse (f : NtpPart → NtpPart) (s : State) : (updNtp f s).fuse = s.fuse := rfl
@[simp] theorem updNtp_attest (f : NtpPart → NtpPart) (s : State) : (updNtp f s).attest = s.attest := rfl
@[simp] theorem updNtp_aud (f : NtpPart → NtpPart) (s : State) : (updNtp f s).aud = s.aud := rfl
@[simp] theorem updNtp_score (f : NtpPart → NtpPart) (s : State) : (updNtp f s).score = s.score := rfl
@[simp] theorem updNtp_flash (f : NtpPart → NtpPart) (s : State) : (updNtp f s).flash = s.flash := rfl
@[simp] theorem updNtp_hand (f : NtpPart → NtpPart) (s : State) : (updNtp f s).hand = s.hand := rfl
@[simp] theorem updNtp_perf (f : NtpPart → NtpPart) (s : State) : (updNtp f s).perf = s.perf := rfl
@[simp] theorem updNtp_shadow (f : NtpPart → NtpPart) (s : State) : (updNtp f s).shadow = s.shadow := rfl
@[simp] theorem updNtp_work (f : NtpPart → NtpPart) (s : State) : (updNtp f s).work = s.work := rfl

@[simp] theorem updNtpRun_pending (i : Nat) (f : NtpRun → NtpRun) (s : State) : (updNtpRun i f s).pending = s.pending := rfl
@[simp] theorem updNtpRun_now (i : Nat) (f : NtpRun → NtpRun) (s : State) : (updNtpRun i f s).now = s.now := rfl
@[simp] theorem updNtpRun_out (i : Nat) (f : NtpRun → NtpRun) (s : State) : (updNtpRun i f s).out = s.out := rfl
@[simp] theorem updNtpRun_free (i : Nat) (f : NtpRun → NtpRun) (s : State) : (updNtpRun i f s).free = s.free := rfl
@[simp] theorem updNtpRun_time (i : Nat) (f : NtpRun → NtpRun) (s : State) : (updNtpRun i f s).time = s.time := rfl
@[simp] theorem updNtpRun_incSum (i : Nat) (f : NtpRun → NtpRun) (s : State) : (updNtpRun i f s).incSum = s.incSum := rfl
@[simp] theorem updNtpRun_host (i : Nat) (f : NtpRun → NtpRun) (s : State) : (updNtpRun i f s).host = s.host := rfl
@[simp] theorem updNtpRun_boot (i : Nat) (f : NtpRun → NtpRun) (s : State) : (updNtpRun i f s).boot = s.boot := rfl
@[simp] theorem updNtpRun_root (i : Nat) (f : NtpRun → NtpRun) (s : State) : (updNtpRun i f s).root = s.root := rfl
@[simp] theorem updNtpRun_refs (i : Nat) (f : NtpRun → NtpRun) (s : State) : (updNtpRun i f s).refs = s.refs := rfl
@[simp] theorem updNtpRun_sels (i : Nat) (f : NtpRun → NtpRun) (s : State) : (updNtpRun i f s).sels = s.sels := rfl
@[simp] theorem updNtpRun_dplls (i : Nat) (f : NtpRun → NtpRun) (s : State) : (updNtpRun i f s).dplls = s.dplls := rfl
@[simp] theorem updNtpRun_hold (i : Nat) (f : NtpRun → NtpRun) (s : State) : (updNtpRun i f s).hold = s.hold := rfl
@[simp] theorem updNtpRun_meld (i : Nat) (f : NtpRun → NtpRun) (s : State) : (updNtpRun i f s).meld = s.meld := rfl
@[simp] theorem updNtpRun_meldBefore (i : Nat) (f : NtpRun → NtpRun) (s : State) : (updNtpRun i f s).meldBefore = s.meldBefore := rfl
@[simp] theorem updNtpRun_bound (i : Nat) (f : NtpRun → NtpRun) (s : State) : (updNtpRun i f s).bound = s.bound := rfl
@[simp] theorem updNtpRun_pair (i : Nat) (f : NtpRun → NtpRun) (s : State) : (updNtpRun i f s).pair = s.pair := rfl
@[simp] theorem updNtpRun_gnss (i : Nat) (f : NtpRun → NtpRun) (s : State) : (updNtpRun i f s).gnss = s.gnss := rfl
@[simp] theorem updNtpRun_outs (i : Nat) (f : NtpRun → NtpRun) (s : State) : (updNtpRun i f s).outs = s.outs := rfl
@[simp] theorem updNtpRun_tdc (i : Nat) (f : NtpRun → NtpRun) (s : State) : (updNtpRun i f s).tdc = s.tdc := rfl
@[simp] theorem updNtpRun_ports (i : Nat) (f : NtpRun → NtpRun) (s : State) : (updNtpRun i f s).ports = s.ports := rfl
@[simp] theorem updNtpRun_svc (i : Nat) (f : NtpRun → NtpRun) (s : State) : (updNtpRun i f s).svc = s.svc := rfl
@[simp] theorem updNtpRun_ptp (i : Nat) (f : NtpRun → NtpRun) (s : State) : (updNtpRun i f s).ptp = s.ptp := rfl
@[simp] theorem updNtpRun_kitty (i : Nat) (f : NtpRun → NtpRun) (s : State) : (updNtpRun i f s).kitty = s.kitty := rfl
@[simp] theorem updNtpRun_fuse (i : Nat) (f : NtpRun → NtpRun) (s : State) : (updNtpRun i f s).fuse = s.fuse := rfl
@[simp] theorem updNtpRun_attest (i : Nat) (f : NtpRun → NtpRun) (s : State) : (updNtpRun i f s).attest = s.attest := rfl
@[simp] theorem updNtpRun_aud (i : Nat) (f : NtpRun → NtpRun) (s : State) : (updNtpRun i f s).aud = s.aud := rfl
@[simp] theorem updNtpRun_score (i : Nat) (f : NtpRun → NtpRun) (s : State) : (updNtpRun i f s).score = s.score := rfl
@[simp] theorem updNtpRun_flash (i : Nat) (f : NtpRun → NtpRun) (s : State) : (updNtpRun i f s).flash = s.flash := rfl
@[simp] theorem updNtpRun_hand (i : Nat) (f : NtpRun → NtpRun) (s : State) : (updNtpRun i f s).hand = s.hand := rfl
@[simp] theorem updNtpRun_perf (i : Nat) (f : NtpRun → NtpRun) (s : State) : (updNtpRun i f s).perf = s.perf := rfl
@[simp] theorem updNtpRun_shadow (i : Nat) (f : NtpRun → NtpRun) (s : State) : (updNtpRun i f s).shadow = s.shadow := rfl
@[simp] theorem updNtpRun_work (i : Nat) (f : NtpRun → NtpRun) (s : State) : (updNtpRun i f s).work = s.work := rfl

@[simp] theorem emit_out (o : Output) (s : State) : (emit o s).out = s.out ++ [o] := rfl
@[simp] theorem emit_pending (o : Output) (s : State) : (emit o s).pending = s.pending := rfl
@[simp] theorem emit_now (o : Output) (s : State) : (emit o s).now = s.now := rfl
@[simp] theorem emit_free (o : Output) (s : State) : (emit o s).free = s.free := rfl
@[simp] theorem emit_time (o : Output) (s : State) : (emit o s).time = s.time := rfl
@[simp] theorem emit_incSum (o : Output) (s : State) : (emit o s).incSum = s.incSum := rfl
@[simp] theorem emit_host (o : Output) (s : State) : (emit o s).host = s.host := rfl
@[simp] theorem emit_boot (o : Output) (s : State) : (emit o s).boot = s.boot := rfl
@[simp] theorem emit_root (o : Output) (s : State) : (emit o s).root = s.root := rfl
@[simp] theorem emit_refs (o : Output) (s : State) : (emit o s).refs = s.refs := rfl
@[simp] theorem emit_sels (o : Output) (s : State) : (emit o s).sels = s.sels := rfl
@[simp] theorem emit_dplls (o : Output) (s : State) : (emit o s).dplls = s.dplls := rfl
@[simp] theorem emit_hold (o : Output) (s : State) : (emit o s).hold = s.hold := rfl
@[simp] theorem emit_meld (o : Output) (s : State) : (emit o s).meld = s.meld := rfl
@[simp] theorem emit_meldBefore (o : Output) (s : State) : (emit o s).meldBefore = s.meldBefore := rfl
@[simp] theorem emit_bound (o : Output) (s : State) : (emit o s).bound = s.bound := rfl
@[simp] theorem emit_pair (o : Output) (s : State) : (emit o s).pair = s.pair := rfl
@[simp] theorem emit_gnss (o : Output) (s : State) : (emit o s).gnss = s.gnss := rfl
@[simp] theorem emit_outs (o : Output) (s : State) : (emit o s).outs = s.outs := rfl
@[simp] theorem emit_tdc (o : Output) (s : State) : (emit o s).tdc = s.tdc := rfl
@[simp] theorem emit_ports (o : Output) (s : State) : (emit o s).ports = s.ports := rfl
@[simp] theorem emit_svc (o : Output) (s : State) : (emit o s).svc = s.svc := rfl
@[simp] theorem emit_ptp (o : Output) (s : State) : (emit o s).ptp = s.ptp := rfl
@[simp] theorem emit_ntp (o : Output) (s : State) : (emit o s).ntp = s.ntp := rfl
@[simp] theorem emit_kitty (o : Output) (s : State) : (emit o s).kitty = s.kitty := rfl
@[simp] theorem emit_fuse (o : Output) (s : State) : (emit o s).fuse = s.fuse := rfl
@[simp] theorem emit_attest (o : Output) (s : State) : (emit o s).attest = s.attest := rfl
@[simp] theorem emit_aud (o : Output) (s : State) : (emit o s).aud = s.aud := rfl
@[simp] theorem emit_score (o : Output) (s : State) : (emit o s).score = s.score := rfl
@[simp] theorem emit_flash (o : Output) (s : State) : (emit o s).flash = s.flash := rfl
@[simp] theorem emit_hand (o : Output) (s : State) : (emit o s).hand = s.hand := rfl
@[simp] theorem emit_perf (o : Output) (s : State) : (emit o s).perf = s.perf := rfl
@[simp] theorem emit_shadow (o : Output) (s : State) : (emit o s).shadow = s.shadow := rfl
@[simp] theorem emit_work (o : Output) (s : State) : (emit o s).work = s.work := rfl

@[simp] theorem useFree_free (s : State) : (useFree s).free = s.free + 1 := rfl
@[simp] theorem useFree_pending (s : State) : (useFree s).pending = s.pending := rfl
@[simp] theorem useFree_now (s : State) : (useFree s).now = s.now := rfl
@[simp] theorem useFree_out (s : State) : (useFree s).out = s.out := rfl
@[simp] theorem useFree_time (s : State) : (useFree s).time = s.time := rfl
@[simp] theorem useFree_incSum (s : State) : (useFree s).incSum = s.incSum := rfl
@[simp] theorem useFree_host (s : State) : (useFree s).host = s.host := rfl
@[simp] theorem useFree_boot (s : State) : (useFree s).boot = s.boot := rfl
@[simp] theorem useFree_root (s : State) : (useFree s).root = s.root := rfl
@[simp] theorem useFree_refs (s : State) : (useFree s).refs = s.refs := rfl
@[simp] theorem useFree_sels (s : State) : (useFree s).sels = s.sels := rfl
@[simp] theorem useFree_dplls (s : State) : (useFree s).dplls = s.dplls := rfl
@[simp] theorem useFree_hold (s : State) : (useFree s).hold = s.hold := rfl
@[simp] theorem useFree_meld (s : State) : (useFree s).meld = s.meld := rfl
@[simp] theorem useFree_meldBefore (s : State) : (useFree s).meldBefore = s.meldBefore := rfl
@[simp] theorem useFree_bound (s : State) : (useFree s).bound = s.bound := rfl
@[simp] theorem useFree_pair (s : State) : (useFree s).pair = s.pair := rfl
@[simp] theorem useFree_gnss (s : State) : (useFree s).gnss = s.gnss := rfl
@[simp] theorem useFree_outs (s : State) : (useFree s).outs = s.outs := rfl
@[simp] theorem useFree_tdc (s : State) : (useFree s).tdc = s.tdc := rfl
@[simp] theorem useFree_ports (s : State) : (useFree s).ports = s.ports := rfl
@[simp] theorem useFree_svc (s : State) : (useFree s).svc = s.svc := rfl
@[simp] theorem useFree_ptp (s : State) : (useFree s).ptp = s.ptp := rfl
@[simp] theorem useFree_ntp (s : State) : (useFree s).ntp = s.ntp := rfl
@[simp] theorem useFree_kitty (s : State) : (useFree s).kitty = s.kitty := rfl
@[simp] theorem useFree_fuse (s : State) : (useFree s).fuse = s.fuse := rfl
@[simp] theorem useFree_attest (s : State) : (useFree s).attest = s.attest := rfl
@[simp] theorem useFree_aud (s : State) : (useFree s).aud = s.aud := rfl
@[simp] theorem useFree_score (s : State) : (useFree s).score = s.score := rfl
@[simp] theorem useFree_flash (s : State) : (useFree s).flash = s.flash := rfl
@[simp] theorem useFree_hand (s : State) : (useFree s).hand = s.hand := rfl
@[simp] theorem useFree_perf (s : State) : (useFree s).perf = s.perf := rfl
@[simp] theorem useFree_shadow (s : State) : (useFree s).shadow = s.shadow := rfl
@[simp] theorem useFree_work (s : State) : (useFree s).work = s.work := rfl

@[simp] theorem bumpBy_pending (n k : Nat) (s : State) : (bumpBy n k s).pending = s.pending := rfl
@[simp] theorem bumpBy_now (n k : Nat) (s : State) : (bumpBy n k s).now = s.now := rfl
@[simp] theorem bumpBy_out (n k : Nat) (s : State) : (bumpBy n k s).out = s.out := rfl
@[simp] theorem bumpBy_free (n k : Nat) (s : State) : (bumpBy n k s).free = s.free := rfl
@[simp] theorem bumpBy_time (n k : Nat) (s : State) : (bumpBy n k s).time = s.time := rfl
@[simp] theorem bumpBy_incSum (n k : Nat) (s : State) : (bumpBy n k s).incSum = s.incSum := rfl
@[simp] theorem bumpBy_host (n k : Nat) (s : State) : (bumpBy n k s).host = s.host := rfl
@[simp] theorem bumpBy_boot (n k : Nat) (s : State) : (bumpBy n k s).boot = s.boot := rfl
@[simp] theorem bumpBy_root (n k : Nat) (s : State) : (bumpBy n k s).root = s.root := rfl
@[simp] theorem bumpBy_refs (n k : Nat) (s : State) : (bumpBy n k s).refs = s.refs := rfl
@[simp] theorem bumpBy_sels (n k : Nat) (s : State) : (bumpBy n k s).sels = s.sels := rfl
@[simp] theorem bumpBy_dplls (n k : Nat) (s : State) : (bumpBy n k s).dplls = s.dplls := rfl
@[simp] theorem bumpBy_hold (n k : Nat) (s : State) : (bumpBy n k s).hold = s.hold := rfl
@[simp] theorem bumpBy_meld (n k : Nat) (s : State) : (bumpBy n k s).meld = s.meld := rfl
@[simp] theorem bumpBy_meldBefore (n k : Nat) (s : State) : (bumpBy n k s).meldBefore = s.meldBefore := rfl
@[simp] theorem bumpBy_bound (n k : Nat) (s : State) : (bumpBy n k s).bound = s.bound := rfl
@[simp] theorem bumpBy_pair (n k : Nat) (s : State) : (bumpBy n k s).pair = s.pair := rfl
@[simp] theorem bumpBy_gnss (n k : Nat) (s : State) : (bumpBy n k s).gnss = s.gnss := rfl
@[simp] theorem bumpBy_outs (n k : Nat) (s : State) : (bumpBy n k s).outs = s.outs := rfl
@[simp] theorem bumpBy_tdc (n k : Nat) (s : State) : (bumpBy n k s).tdc = s.tdc := rfl
@[simp] theorem bumpBy_ports (n k : Nat) (s : State) : (bumpBy n k s).ports = s.ports := rfl
@[simp] theorem bumpBy_svc (n k : Nat) (s : State) : (bumpBy n k s).svc = s.svc := rfl
@[simp] theorem bumpBy_ptp (n k : Nat) (s : State) : (bumpBy n k s).ptp = s.ptp := rfl
@[simp] theorem bumpBy_ntp (n k : Nat) (s : State) : (bumpBy n k s).ntp = s.ntp := rfl
@[simp] theorem bumpBy_kitty (n k : Nat) (s : State) : (bumpBy n k s).kitty = s.kitty := rfl
@[simp] theorem bumpBy_fuse (n k : Nat) (s : State) : (bumpBy n k s).fuse = s.fuse := rfl
@[simp] theorem bumpBy_attest (n k : Nat) (s : State) : (bumpBy n k s).attest = s.attest := rfl
@[simp] theorem bumpBy_aud (n k : Nat) (s : State) : (bumpBy n k s).aud = s.aud := rfl
@[simp] theorem bumpBy_score (n k : Nat) (s : State) : (bumpBy n k s).score = s.score := rfl
@[simp] theorem bumpBy_flash (n k : Nat) (s : State) : (bumpBy n k s).flash = s.flash := rfl
@[simp] theorem bumpBy_hand (n k : Nat) (s : State) : (bumpBy n k s).hand = s.hand := rfl
@[simp] theorem bumpBy_shadow (n k : Nat) (s : State) : (bumpBy n k s).shadow = s.shadow := rfl
@[simp] theorem bumpBy_work (n k : Nat) (s : State) : (bumpBy n k s).work = s.work := rfl

@[simp] theorem updRing_pending (r : Nat) (f : Ring → Ring) (s : State) : (updRing r f s).pending = s.pending := rfl
@[simp] theorem updRing_now (r : Nat) (f : Ring → Ring) (s : State) : (updRing r f s).now = s.now := rfl
@[simp] theorem updRing_out (r : Nat) (f : Ring → Ring) (s : State) : (updRing r f s).out = s.out := rfl
@[simp] theorem updRing_free (r : Nat) (f : Ring → Ring) (s : State) : (updRing r f s).free = s.free := rfl
@[simp] theorem updRing_time (r : Nat) (f : Ring → Ring) (s : State) : (updRing r f s).time = s.time := rfl
@[simp] theorem updRing_incSum (r : Nat) (f : Ring → Ring) (s : State) : (updRing r f s).incSum = s.incSum := rfl
@[simp] theorem updRing_boot (r : Nat) (f : Ring → Ring) (s : State) : (updRing r f s).boot = s.boot := rfl
@[simp] theorem updRing_root (r : Nat) (f : Ring → Ring) (s : State) : (updRing r f s).root = s.root := rfl
@[simp] theorem updRing_refs (r : Nat) (f : Ring → Ring) (s : State) : (updRing r f s).refs = s.refs := rfl
@[simp] theorem updRing_sels (r : Nat) (f : Ring → Ring) (s : State) : (updRing r f s).sels = s.sels := rfl
@[simp] theorem updRing_dplls (r : Nat) (f : Ring → Ring) (s : State) : (updRing r f s).dplls = s.dplls := rfl
@[simp] theorem updRing_hold (r : Nat) (f : Ring → Ring) (s : State) : (updRing r f s).hold = s.hold := rfl
@[simp] theorem updRing_meld (r : Nat) (f : Ring → Ring) (s : State) : (updRing r f s).meld = s.meld := rfl
@[simp] theorem updRing_meldBefore (r : Nat) (f : Ring → Ring) (s : State) : (updRing r f s).meldBefore = s.meldBefore := rfl
@[simp] theorem updRing_bound (r : Nat) (f : Ring → Ring) (s : State) : (updRing r f s).bound = s.bound := rfl
@[simp] theorem updRing_pair (r : Nat) (f : Ring → Ring) (s : State) : (updRing r f s).pair = s.pair := rfl
@[simp] theorem updRing_gnss (r : Nat) (f : Ring → Ring) (s : State) : (updRing r f s).gnss = s.gnss := rfl
@[simp] theorem updRing_outs (r : Nat) (f : Ring → Ring) (s : State) : (updRing r f s).outs = s.outs := rfl
@[simp] theorem updRing_tdc (r : Nat) (f : Ring → Ring) (s : State) : (updRing r f s).tdc = s.tdc := rfl
@[simp] theorem updRing_ports (r : Nat) (f : Ring → Ring) (s : State) : (updRing r f s).ports = s.ports := rfl
@[simp] theorem updRing_svc (r : Nat) (f : Ring → Ring) (s : State) : (updRing r f s).svc = s.svc := rfl
@[simp] theorem updRing_ptp (r : Nat) (f : Ring → Ring) (s : State) : (updRing r f s).ptp = s.ptp := rfl
@[simp] theorem updRing_ntp (r : Nat) (f : Ring → Ring) (s : State) : (updRing r f s).ntp = s.ntp := rfl
@[simp] theorem updRing_kitty (r : Nat) (f : Ring → Ring) (s : State) : (updRing r f s).kitty = s.kitty := rfl
@[simp] theorem updRing_fuse (r : Nat) (f : Ring → Ring) (s : State) : (updRing r f s).fuse = s.fuse := rfl
@[simp] theorem updRing_attest (r : Nat) (f : Ring → Ring) (s : State) : (updRing r f s).attest = s.attest := rfl
@[simp] theorem updRing_aud (r : Nat) (f : Ring → Ring) (s : State) : (updRing r f s).aud = s.aud := rfl
@[simp] theorem updRing_score (r : Nat) (f : Ring → Ring) (s : State) : (updRing r f s).score = s.score := rfl
@[simp] theorem updRing_flash (r : Nat) (f : Ring → Ring) (s : State) : (updRing r f s).flash = s.flash := rfl
@[simp] theorem updRing_hand (r : Nat) (f : Ring → Ring) (s : State) : (updRing r f s).hand = s.hand := rfl
@[simp] theorem updRing_perf (r : Nat) (f : Ring → Ring) (s : State) : (updRing r f s).perf = s.perf := rfl
@[simp] theorem updRing_shadow (r : Nat) (f : Ring → Ring) (s : State) : (updRing r f s).shadow = s.shadow := rfl
@[simp] theorem updRing_work (r : Nat) (f : Ring → Ring) (s : State) : (updRing r f s).work = s.work := rfl

@[simp] theorem updScore_score (f : ScorePart → ScorePart) (s : State) : (updScore f s).score = f s.score := rfl
@[simp] theorem updScore_pending (f : ScorePart → ScorePart) (s : State) : (updScore f s).pending = s.pending := rfl
@[simp] theorem updScore_now (f : ScorePart → ScorePart) (s : State) : (updScore f s).now = s.now := rfl
@[simp] theorem updScore_out (f : ScorePart → ScorePart) (s : State) : (updScore f s).out = s.out := rfl
@[simp] theorem updScore_free (f : ScorePart → ScorePart) (s : State) : (updScore f s).free = s.free := rfl
@[simp] theorem updScore_time (f : ScorePart → ScorePart) (s : State) : (updScore f s).time = s.time := rfl
@[simp] theorem updScore_incSum (f : ScorePart → ScorePart) (s : State) : (updScore f s).incSum = s.incSum := rfl
@[simp] theorem updScore_host (f : ScorePart → ScorePart) (s : State) : (updScore f s).host = s.host := rfl
@[simp] theorem updScore_boot (f : ScorePart → ScorePart) (s : State) : (updScore f s).boot = s.boot := rfl
@[simp] theorem updScore_root (f : ScorePart → ScorePart) (s : State) : (updScore f s).root = s.root := rfl
@[simp] theorem updScore_refs (f : ScorePart → ScorePart) (s : State) : (updScore f s).refs = s.refs := rfl
@[simp] theorem updScore_sels (f : ScorePart → ScorePart) (s : State) : (updScore f s).sels = s.sels := rfl
@[simp] theorem updScore_dplls (f : ScorePart → ScorePart) (s : State) : (updScore f s).dplls = s.dplls := rfl
@[simp] theorem updScore_hold (f : ScorePart → ScorePart) (s : State) : (updScore f s).hold = s.hold := rfl
@[simp] theorem updScore_meld (f : ScorePart → ScorePart) (s : State) : (updScore f s).meld = s.meld := rfl
@[simp] theorem updScore_meldBefore (f : ScorePart → ScorePart) (s : State) : (updScore f s).meldBefore = s.meldBefore := rfl
@[simp] theorem updScore_bound (f : ScorePart → ScorePart) (s : State) : (updScore f s).bound = s.bound := rfl
@[simp] theorem updScore_pair (f : ScorePart → ScorePart) (s : State) : (updScore f s).pair = s.pair := rfl
@[simp] theorem updScore_gnss (f : ScorePart → ScorePart) (s : State) : (updScore f s).gnss = s.gnss := rfl
@[simp] theorem updScore_outs (f : ScorePart → ScorePart) (s : State) : (updScore f s).outs = s.outs := rfl
@[simp] theorem updScore_tdc (f : ScorePart → ScorePart) (s : State) : (updScore f s).tdc = s.tdc := rfl
@[simp] theorem updScore_ports (f : ScorePart → ScorePart) (s : State) : (updScore f s).ports = s.ports := rfl
@[simp] theorem updScore_svc (f : ScorePart → ScorePart) (s : State) : (updScore f s).svc = s.svc := rfl
@[simp] theorem updScore_ptp (f : ScorePart → ScorePart) (s : State) : (updScore f s).ptp = s.ptp := rfl
@[simp] theorem updScore_ntp (f : ScorePart → ScorePart) (s : State) : (updScore f s).ntp = s.ntp := rfl
@[simp] theorem updScore_kitty (f : ScorePart → ScorePart) (s : State) : (updScore f s).kitty = s.kitty := rfl
@[simp] theorem updScore_fuse (f : ScorePart → ScorePart) (s : State) : (updScore f s).fuse = s.fuse := rfl
@[simp] theorem updScore_attest (f : ScorePart → ScorePart) (s : State) : (updScore f s).attest = s.attest := rfl
@[simp] theorem updScore_aud (f : ScorePart → ScorePart) (s : State) : (updScore f s).aud = s.aud := rfl
@[simp] theorem updScore_flash (f : ScorePart → ScorePart) (s : State) : (updScore f s).flash = s.flash := rfl
@[simp] theorem updScore_hand (f : ScorePart → ScorePart) (s : State) : (updScore f s).hand = s.hand := rfl
@[simp] theorem updScore_perf (f : ScorePart → ScorePart) (s : State) : (updScore f s).perf = s.perf := rfl
@[simp] theorem updScore_shadow (f : ScorePart → ScorePart) (s : State) : (updScore f s).shadow = s.shadow := rfl
@[simp] theorem updScore_work (f : ScorePart → ScorePart) (s : State) : (updScore f s).work = s.work := rfl

@[simp] theorem updOut_outs (n : Nat) (f : OutRun → OutRun) (s : State) : (updOut n f s).outs = upd s.outs n f := rfl
@[simp] theorem updOut_pending (n : Nat) (f : OutRun → OutRun) (s : State) : (updOut n f s).pending = s.pending := rfl
@[simp] theorem updOut_now (n : Nat) (f : OutRun → OutRun) (s : State) : (updOut n f s).now = s.now := rfl
@[simp] theorem updOut_out (n : Nat) (f : OutRun → OutRun) (s : State) : (updOut n f s).out = s.out := rfl
@[simp] theorem updOut_free (n : Nat) (f : OutRun → OutRun) (s : State) : (updOut n f s).free = s.free := rfl
@[simp] theorem updOut_time (n : Nat) (f : OutRun → OutRun) (s : State) : (updOut n f s).time = s.time := rfl
@[simp] theorem updOut_incSum (n : Nat) (f : OutRun → OutRun) (s : State) : (updOut n f s).incSum = s.incSum := rfl
@[simp] theorem updOut_host (n : Nat) (f : OutRun → OutRun) (s : State) : (updOut n f s).host = s.host := rfl
@[simp] theorem updOut_boot (n : Nat) (f : OutRun → OutRun) (s : State) : (updOut n f s).boot = s.boot := rfl
@[simp] theorem updOut_root (n : Nat) (f : OutRun → OutRun) (s : State) : (updOut n f s).root = s.root := rfl
@[simp] theorem updOut_refs (n : Nat) (f : OutRun → OutRun) (s : State) : (updOut n f s).refs = s.refs := rfl
@[simp] theorem updOut_sels (n : Nat) (f : OutRun → OutRun) (s : State) : (updOut n f s).sels = s.sels := rfl
@[simp] theorem updOut_dplls (n : Nat) (f : OutRun → OutRun) (s : State) : (updOut n f s).dplls = s.dplls := rfl
@[simp] theorem updOut_hold (n : Nat) (f : OutRun → OutRun) (s : State) : (updOut n f s).hold = s.hold := rfl
@[simp] theorem updOut_meld (n : Nat) (f : OutRun → OutRun) (s : State) : (updOut n f s).meld = s.meld := rfl
@[simp] theorem updOut_meldBefore (n : Nat) (f : OutRun → OutRun) (s : State) : (updOut n f s).meldBefore = s.meldBefore := rfl
@[simp] theorem updOut_bound (n : Nat) (f : OutRun → OutRun) (s : State) : (updOut n f s).bound = s.bound := rfl
@[simp] theorem updOut_pair (n : Nat) (f : OutRun → OutRun) (s : State) : (updOut n f s).pair = s.pair := rfl
@[simp] theorem updOut_gnss (n : Nat) (f : OutRun → OutRun) (s : State) : (updOut n f s).gnss = s.gnss := rfl
@[simp] theorem updOut_tdc (n : Nat) (f : OutRun → OutRun) (s : State) : (updOut n f s).tdc = s.tdc := rfl
@[simp] theorem updOut_ports (n : Nat) (f : OutRun → OutRun) (s : State) : (updOut n f s).ports = s.ports := rfl
@[simp] theorem updOut_svc (n : Nat) (f : OutRun → OutRun) (s : State) : (updOut n f s).svc = s.svc := rfl
@[simp] theorem updOut_ptp (n : Nat) (f : OutRun → OutRun) (s : State) : (updOut n f s).ptp = s.ptp := rfl
@[simp] theorem updOut_ntp (n : Nat) (f : OutRun → OutRun) (s : State) : (updOut n f s).ntp = s.ntp := rfl
@[simp] theorem updOut_kitty (n : Nat) (f : OutRun → OutRun) (s : State) : (updOut n f s).kitty = s.kitty := rfl
@[simp] theorem updOut_fuse (n : Nat) (f : OutRun → OutRun) (s : State) : (updOut n f s).fuse = s.fuse := rfl
@[simp] theorem updOut_attest (n : Nat) (f : OutRun → OutRun) (s : State) : (updOut n f s).attest = s.attest := rfl
@[simp] theorem updOut_aud (n : Nat) (f : OutRun → OutRun) (s : State) : (updOut n f s).aud = s.aud := rfl
@[simp] theorem updOut_score (n : Nat) (f : OutRun → OutRun) (s : State) : (updOut n f s).score = s.score := rfl
@[simp] theorem updOut_flash (n : Nat) (f : OutRun → OutRun) (s : State) : (updOut n f s).flash = s.flash := rfl
@[simp] theorem updOut_hand (n : Nat) (f : OutRun → OutRun) (s : State) : (updOut n f s).hand = s.hand := rfl
@[simp] theorem updOut_perf (n : Nat) (f : OutRun → OutRun) (s : State) : (updOut n f s).perf = s.perf := rfl
@[simp] theorem updOut_shadow (n : Nat) (f : OutRun → OutRun) (s : State) : (updOut n f s).shadow = s.shadow := rfl
@[simp] theorem updOut_work (n : Nat) (f : OutRun → OutRun) (s : State) : (updOut n f s).work = s.work := rfl

@[simp] theorem updPort_ports (p : Nat) (f : PortRun → PortRun) (s : State) : (updPort p f s).ports = upd s.ports p f := rfl
@[simp] theorem updPort_pending (p : Nat) (f : PortRun → PortRun) (s : State) : (updPort p f s).pending = s.pending := rfl
@[simp] theorem updPort_now (p : Nat) (f : PortRun → PortRun) (s : State) : (updPort p f s).now = s.now := rfl
@[simp] theorem updPort_out (p : Nat) (f : PortRun → PortRun) (s : State) : (updPort p f s).out = s.out := rfl
@[simp] theorem updPort_free (p : Nat) (f : PortRun → PortRun) (s : State) : (updPort p f s).free = s.free := rfl
@[simp] theorem updPort_time (p : Nat) (f : PortRun → PortRun) (s : State) : (updPort p f s).time = s.time := rfl
@[simp] theorem updPort_incSum (p : Nat) (f : PortRun → PortRun) (s : State) : (updPort p f s).incSum = s.incSum := rfl
@[simp] theorem updPort_host (p : Nat) (f : PortRun → PortRun) (s : State) : (updPort p f s).host = s.host := rfl
@[simp] theorem updPort_boot (p : Nat) (f : PortRun → PortRun) (s : State) : (updPort p f s).boot = s.boot := rfl
@[simp] theorem updPort_root (p : Nat) (f : PortRun → PortRun) (s : State) : (updPort p f s).root = s.root := rfl
@[simp] theorem updPort_refs (p : Nat) (f : PortRun → PortRun) (s : State) : (updPort p f s).refs = s.refs := rfl
@[simp] theorem updPort_sels (p : Nat) (f : PortRun → PortRun) (s : State) : (updPort p f s).sels = s.sels := rfl
@[simp] theorem updPort_dplls (p : Nat) (f : PortRun → PortRun) (s : State) : (updPort p f s).dplls = s.dplls := rfl
@[simp] theorem updPort_hold (p : Nat) (f : PortRun → PortRun) (s : State) : (updPort p f s).hold = s.hold := rfl
@[simp] theorem updPort_meld (p : Nat) (f : PortRun → PortRun) (s : State) : (updPort p f s).meld = s.meld := rfl
@[simp] theorem updPort_meldBefore (p : Nat) (f : PortRun → PortRun) (s : State) : (updPort p f s).meldBefore = s.meldBefore := rfl
@[simp] theorem updPort_bound (p : Nat) (f : PortRun → PortRun) (s : State) : (updPort p f s).bound = s.bound := rfl
@[simp] theorem updPort_pair (p : Nat) (f : PortRun → PortRun) (s : State) : (updPort p f s).pair = s.pair := rfl
@[simp] theorem updPort_gnss (p : Nat) (f : PortRun → PortRun) (s : State) : (updPort p f s).gnss = s.gnss := rfl
@[simp] theorem updPort_outs (p : Nat) (f : PortRun → PortRun) (s : State) : (updPort p f s).outs = s.outs := rfl
@[simp] theorem updPort_tdc (p : Nat) (f : PortRun → PortRun) (s : State) : (updPort p f s).tdc = s.tdc := rfl
@[simp] theorem updPort_svc (p : Nat) (f : PortRun → PortRun) (s : State) : (updPort p f s).svc = s.svc := rfl
@[simp] theorem updPort_ptp (p : Nat) (f : PortRun → PortRun) (s : State) : (updPort p f s).ptp = s.ptp := rfl
@[simp] theorem updPort_ntp (p : Nat) (f : PortRun → PortRun) (s : State) : (updPort p f s).ntp = s.ntp := rfl
@[simp] theorem updPort_kitty (p : Nat) (f : PortRun → PortRun) (s : State) : (updPort p f s).kitty = s.kitty := rfl
@[simp] theorem updPort_fuse (p : Nat) (f : PortRun → PortRun) (s : State) : (updPort p f s).fuse = s.fuse := rfl
@[simp] theorem updPort_attest (p : Nat) (f : PortRun → PortRun) (s : State) : (updPort p f s).attest = s.attest := rfl
@[simp] theorem updPort_aud (p : Nat) (f : PortRun → PortRun) (s : State) : (updPort p f s).aud = s.aud := rfl
@[simp] theorem updPort_score (p : Nat) (f : PortRun → PortRun) (s : State) : (updPort p f s).score = s.score := rfl
@[simp] theorem updPort_flash (p : Nat) (f : PortRun → PortRun) (s : State) : (updPort p f s).flash = s.flash := rfl
@[simp] theorem updPort_hand (p : Nat) (f : PortRun → PortRun) (s : State) : (updPort p f s).hand = s.hand := rfl
@[simp] theorem updPort_perf (p : Nat) (f : PortRun → PortRun) (s : State) : (updPort p f s).perf = s.perf := rfl
@[simp] theorem updPort_shadow (p : Nat) (f : PortRun → PortRun) (s : State) : (updPort p f s).shadow = s.shadow := rfl
@[simp] theorem updPort_work (p : Nat) (f : PortRun → PortRun) (s : State) : (updPort p f s).work = s.work := rfl

@[simp] theorem updPtp_ptp (f : PtpPart → PtpPart) (s : State) : (updPtp f s).ptp = f s.ptp := rfl
@[simp] theorem updPtp_pending (f : PtpPart → PtpPart) (s : State) : (updPtp f s).pending = s.pending := rfl
@[simp] theorem updPtp_now (f : PtpPart → PtpPart) (s : State) : (updPtp f s).now = s.now := rfl
@[simp] theorem updPtp_out (f : PtpPart → PtpPart) (s : State) : (updPtp f s).out = s.out := rfl
@[simp] theorem updPtp_free (f : PtpPart → PtpPart) (s : State) : (updPtp f s).free = s.free := rfl
@[simp] theorem updPtp_time (f : PtpPart → PtpPart) (s : State) : (updPtp f s).time = s.time := rfl
@[simp] theorem updPtp_incSum (f : PtpPart → PtpPart) (s : State) : (updPtp f s).incSum = s.incSum := rfl
@[simp] theorem updPtp_host (f : PtpPart → PtpPart) (s : State) : (updPtp f s).host = s.host := rfl
@[simp] theorem updPtp_boot (f : PtpPart → PtpPart) (s : State) : (updPtp f s).boot = s.boot := rfl
@[simp] theorem updPtp_root (f : PtpPart → PtpPart) (s : State) : (updPtp f s).root = s.root := rfl
@[simp] theorem updPtp_refs (f : PtpPart → PtpPart) (s : State) : (updPtp f s).refs = s.refs := rfl
@[simp] theorem updPtp_sels (f : PtpPart → PtpPart) (s : State) : (updPtp f s).sels = s.sels := rfl
@[simp] theorem updPtp_dplls (f : PtpPart → PtpPart) (s : State) : (updPtp f s).dplls = s.dplls := rfl
@[simp] theorem updPtp_hold (f : PtpPart → PtpPart) (s : State) : (updPtp f s).hold = s.hold := rfl
@[simp] theorem updPtp_meld (f : PtpPart → PtpPart) (s : State) : (updPtp f s).meld = s.meld := rfl
@[simp] theorem updPtp_meldBefore (f : PtpPart → PtpPart) (s : State) : (updPtp f s).meldBefore = s.meldBefore := rfl
@[simp] theorem updPtp_bound (f : PtpPart → PtpPart) (s : State) : (updPtp f s).bound = s.bound := rfl
@[simp] theorem updPtp_pair (f : PtpPart → PtpPart) (s : State) : (updPtp f s).pair = s.pair := rfl
@[simp] theorem updPtp_gnss (f : PtpPart → PtpPart) (s : State) : (updPtp f s).gnss = s.gnss := rfl
@[simp] theorem updPtp_outs (f : PtpPart → PtpPart) (s : State) : (updPtp f s).outs = s.outs := rfl
@[simp] theorem updPtp_tdc (f : PtpPart → PtpPart) (s : State) : (updPtp f s).tdc = s.tdc := rfl
@[simp] theorem updPtp_ports (f : PtpPart → PtpPart) (s : State) : (updPtp f s).ports = s.ports := rfl
@[simp] theorem updPtp_svc (f : PtpPart → PtpPart) (s : State) : (updPtp f s).svc = s.svc := rfl
@[simp] theorem updPtp_ntp (f : PtpPart → PtpPart) (s : State) : (updPtp f s).ntp = s.ntp := rfl
@[simp] theorem updPtp_kitty (f : PtpPart → PtpPart) (s : State) : (updPtp f s).kitty = s.kitty := rfl
@[simp] theorem updPtp_fuse (f : PtpPart → PtpPart) (s : State) : (updPtp f s).fuse = s.fuse := rfl
@[simp] theorem updPtp_attest (f : PtpPart → PtpPart) (s : State) : (updPtp f s).attest = s.attest := rfl
@[simp] theorem updPtp_aud (f : PtpPart → PtpPart) (s : State) : (updPtp f s).aud = s.aud := rfl
@[simp] theorem updPtp_score (f : PtpPart → PtpPart) (s : State) : (updPtp f s).score = s.score := rfl
@[simp] theorem updPtp_flash (f : PtpPart → PtpPart) (s : State) : (updPtp f s).flash = s.flash := rfl
@[simp] theorem updPtp_hand (f : PtpPart → PtpPart) (s : State) : (updPtp f s).hand = s.hand := rfl
@[simp] theorem updPtp_perf (f : PtpPart → PtpPart) (s : State) : (updPtp f s).perf = s.perf := rfl
@[simp] theorem updPtp_shadow (f : PtpPart → PtpPart) (s : State) : (updPtp f s).shadow = s.shadow := rfl
@[simp] theorem updPtp_work (f : PtpPart → PtpPart) (s : State) : (updPtp f s).work = s.work := rfl

@[simp] theorem updInst_pending (i : Nat) (f : PtpRun → PtpRun) (s : State) : (updInst i f s).pending = s.pending := rfl
@[simp] theorem updInst_now (i : Nat) (f : PtpRun → PtpRun) (s : State) : (updInst i f s).now = s.now := rfl
@[simp] theorem updInst_out (i : Nat) (f : PtpRun → PtpRun) (s : State) : (updInst i f s).out = s.out := rfl
@[simp] theorem updInst_free (i : Nat) (f : PtpRun → PtpRun) (s : State) : (updInst i f s).free = s.free := rfl
@[simp] theorem updInst_time (i : Nat) (f : PtpRun → PtpRun) (s : State) : (updInst i f s).time = s.time := rfl
@[simp] theorem updInst_incSum (i : Nat) (f : PtpRun → PtpRun) (s : State) : (updInst i f s).incSum = s.incSum := rfl
@[simp] theorem updInst_host (i : Nat) (f : PtpRun → PtpRun) (s : State) : (updInst i f s).host = s.host := rfl
@[simp] theorem updInst_boot (i : Nat) (f : PtpRun → PtpRun) (s : State) : (updInst i f s).boot = s.boot := rfl
@[simp] theorem updInst_root (i : Nat) (f : PtpRun → PtpRun) (s : State) : (updInst i f s).root = s.root := rfl
@[simp] theorem updInst_refs (i : Nat) (f : PtpRun → PtpRun) (s : State) : (updInst i f s).refs = s.refs := rfl
@[simp] theorem updInst_sels (i : Nat) (f : PtpRun → PtpRun) (s : State) : (updInst i f s).sels = s.sels := rfl
@[simp] theorem updInst_dplls (i : Nat) (f : PtpRun → PtpRun) (s : State) : (updInst i f s).dplls = s.dplls := rfl
@[simp] theorem updInst_hold (i : Nat) (f : PtpRun → PtpRun) (s : State) : (updInst i f s).hold = s.hold := rfl
@[simp] theorem updInst_meld (i : Nat) (f : PtpRun → PtpRun) (s : State) : (updInst i f s).meld = s.meld := rfl
@[simp] theorem updInst_meldBefore (i : Nat) (f : PtpRun → PtpRun) (s : State) : (updInst i f s).meldBefore = s.meldBefore := rfl
@[simp] theorem updInst_bound (i : Nat) (f : PtpRun → PtpRun) (s : State) : (updInst i f s).bound = s.bound := rfl
@[simp] theorem updInst_pair (i : Nat) (f : PtpRun → PtpRun) (s : State) : (updInst i f s).pair = s.pair := rfl
@[simp] theorem updInst_gnss (i : Nat) (f : PtpRun → PtpRun) (s : State) : (updInst i f s).gnss = s.gnss := rfl
@[simp] theorem updInst_outs (i : Nat) (f : PtpRun → PtpRun) (s : State) : (updInst i f s).outs = s.outs := rfl
@[simp] theorem updInst_tdc (i : Nat) (f : PtpRun → PtpRun) (s : State) : (updInst i f s).tdc = s.tdc := rfl
@[simp] theorem updInst_ports (i : Nat) (f : PtpRun → PtpRun) (s : State) : (updInst i f s).ports = s.ports := rfl
@[simp] theorem updInst_svc (i : Nat) (f : PtpRun → PtpRun) (s : State) : (updInst i f s).svc = s.svc := rfl
@[simp] theorem updInst_ntp (i : Nat) (f : PtpRun → PtpRun) (s : State) : (updInst i f s).ntp = s.ntp := rfl
@[simp] theorem updInst_kitty (i : Nat) (f : PtpRun → PtpRun) (s : State) : (updInst i f s).kitty = s.kitty := rfl
@[simp] theorem updInst_fuse (i : Nat) (f : PtpRun → PtpRun) (s : State) : (updInst i f s).fuse = s.fuse := rfl
@[simp] theorem updInst_attest (i : Nat) (f : PtpRun → PtpRun) (s : State) : (updInst i f s).attest = s.attest := rfl
@[simp] theorem updInst_aud (i : Nat) (f : PtpRun → PtpRun) (s : State) : (updInst i f s).aud = s.aud := rfl
@[simp] theorem updInst_score (i : Nat) (f : PtpRun → PtpRun) (s : State) : (updInst i f s).score = s.score := rfl
@[simp] theorem updInst_flash (i : Nat) (f : PtpRun → PtpRun) (s : State) : (updInst i f s).flash = s.flash := rfl
@[simp] theorem updInst_hand (i : Nat) (f : PtpRun → PtpRun) (s : State) : (updInst i f s).hand = s.hand := rfl
@[simp] theorem updInst_perf (i : Nat) (f : PtpRun → PtpRun) (s : State) : (updInst i f s).perf = s.perf := rfl
@[simp] theorem updInst_shadow (i : Nat) (f : PtpRun → PtpRun) (s : State) : (updInst i f s).shadow = s.shadow := rfl
@[simp] theorem updInst_work (i : Nat) (f : PtpRun → PtpRun) (s : State) : (updInst i f s).work = s.work := rfl

@[simp] theorem updBind_pending (i p : Nat) (f : BindRun → BindRun) (s : State) : (updBind i p f s).pending = s.pending := rfl
@[simp] theorem updBind_now (i p : Nat) (f : BindRun → BindRun) (s : State) : (updBind i p f s).now = s.now := rfl
@[simp] theorem updBind_out (i p : Nat) (f : BindRun → BindRun) (s : State) : (updBind i p f s).out = s.out := rfl
@[simp] theorem updBind_free (i p : Nat) (f : BindRun → BindRun) (s : State) : (updBind i p f s).free = s.free := rfl
@[simp] theorem updBind_time (i p : Nat) (f : BindRun → BindRun) (s : State) : (updBind i p f s).time = s.time := rfl
@[simp] theorem updBind_incSum (i p : Nat) (f : BindRun → BindRun) (s : State) : (updBind i p f s).incSum = s.incSum := rfl
@[simp] theorem updBind_host (i p : Nat) (f : BindRun → BindRun) (s : State) : (updBind i p f s).host = s.host := rfl
@[simp] theorem updBind_boot (i p : Nat) (f : BindRun → BindRun) (s : State) : (updBind i p f s).boot = s.boot := rfl
@[simp] theorem updBind_root (i p : Nat) (f : BindRun → BindRun) (s : State) : (updBind i p f s).root = s.root := rfl
@[simp] theorem updBind_refs (i p : Nat) (f : BindRun → BindRun) (s : State) : (updBind i p f s).refs = s.refs := rfl
@[simp] theorem updBind_sels (i p : Nat) (f : BindRun → BindRun) (s : State) : (updBind i p f s).sels = s.sels := rfl
@[simp] theorem updBind_dplls (i p : Nat) (f : BindRun → BindRun) (s : State) : (updBind i p f s).dplls = s.dplls := rfl
@[simp] theorem updBind_hold (i p : Nat) (f : BindRun → BindRun) (s : State) : (updBind i p f s).hold = s.hold := rfl
@[simp] theorem updBind_meld (i p : Nat) (f : BindRun → BindRun) (s : State) : (updBind i p f s).meld = s.meld := rfl
@[simp] theorem updBind_meldBefore (i p : Nat) (f : BindRun → BindRun) (s : State) : (updBind i p f s).meldBefore = s.meldBefore := rfl
@[simp] theorem updBind_bound (i p : Nat) (f : BindRun → BindRun) (s : State) : (updBind i p f s).bound = s.bound := rfl
@[simp] theorem updBind_pair (i p : Nat) (f : BindRun → BindRun) (s : State) : (updBind i p f s).pair = s.pair := rfl
@[simp] theorem updBind_gnss (i p : Nat) (f : BindRun → BindRun) (s : State) : (updBind i p f s).gnss = s.gnss := rfl
@[simp] theorem updBind_outs (i p : Nat) (f : BindRun → BindRun) (s : State) : (updBind i p f s).outs = s.outs := rfl
@[simp] theorem updBind_tdc (i p : Nat) (f : BindRun → BindRun) (s : State) : (updBind i p f s).tdc = s.tdc := rfl
@[simp] theorem updBind_ports (i p : Nat) (f : BindRun → BindRun) (s : State) : (updBind i p f s).ports = s.ports := rfl
@[simp] theorem updBind_svc (i p : Nat) (f : BindRun → BindRun) (s : State) : (updBind i p f s).svc = s.svc := rfl
@[simp] theorem updBind_ntp (i p : Nat) (f : BindRun → BindRun) (s : State) : (updBind i p f s).ntp = s.ntp := rfl
@[simp] theorem updBind_kitty (i p : Nat) (f : BindRun → BindRun) (s : State) : (updBind i p f s).kitty = s.kitty := rfl
@[simp] theorem updBind_fuse (i p : Nat) (f : BindRun → BindRun) (s : State) : (updBind i p f s).fuse = s.fuse := rfl
@[simp] theorem updBind_attest (i p : Nat) (f : BindRun → BindRun) (s : State) : (updBind i p f s).attest = s.attest := rfl
@[simp] theorem updBind_aud (i p : Nat) (f : BindRun → BindRun) (s : State) : (updBind i p f s).aud = s.aud := rfl
@[simp] theorem updBind_score (i p : Nat) (f : BindRun → BindRun) (s : State) : (updBind i p f s).score = s.score := rfl
@[simp] theorem updBind_flash (i p : Nat) (f : BindRun → BindRun) (s : State) : (updBind i p f s).flash = s.flash := rfl
@[simp] theorem updBind_hand (i p : Nat) (f : BindRun → BindRun) (s : State) : (updBind i p f s).hand = s.hand := rfl
@[simp] theorem updBind_perf (i p : Nat) (f : BindRun → BindRun) (s : State) : (updBind i p f s).perf = s.perf := rfl
@[simp] theorem updBind_shadow (i p : Nat) (f : BindRun → BindRun) (s : State) : (updBind i p f s).shadow = s.shadow := rfl
@[simp] theorem updBind_work (i p : Nat) (f : BindRun → BindRun) (s : State) : (updBind i p f s).work = s.work := rfl

@[simp] theorem updRef_refs (o : Nat) (f : RefRun → RefRun) (s : State) : (updRef o f s).refs = upd s.refs o f := rfl
@[simp] theorem updRef_pending (o : Nat) (f : RefRun → RefRun) (s : State) : (updRef o f s).pending = s.pending := rfl
@[simp] theorem updRef_now (o : Nat) (f : RefRun → RefRun) (s : State) : (updRef o f s).now = s.now := rfl
@[simp] theorem updRef_out (o : Nat) (f : RefRun → RefRun) (s : State) : (updRef o f s).out = s.out := rfl
@[simp] theorem updRef_free (o : Nat) (f : RefRun → RefRun) (s : State) : (updRef o f s).free = s.free := rfl
@[simp] theorem updRef_time (o : Nat) (f : RefRun → RefRun) (s : State) : (updRef o f s).time = s.time := rfl
@[simp] theorem updRef_incSum (o : Nat) (f : RefRun → RefRun) (s : State) : (updRef o f s).incSum = s.incSum := rfl
@[simp] theorem updRef_host (o : Nat) (f : RefRun → RefRun) (s : State) : (updRef o f s).host = s.host := rfl
@[simp] theorem updRef_boot (o : Nat) (f : RefRun → RefRun) (s : State) : (updRef o f s).boot = s.boot := rfl
@[simp] theorem updRef_root (o : Nat) (f : RefRun → RefRun) (s : State) : (updRef o f s).root = s.root := rfl
@[simp] theorem updRef_sels (o : Nat) (f : RefRun → RefRun) (s : State) : (updRef o f s).sels = s.sels := rfl
@[simp] theorem updRef_dplls (o : Nat) (f : RefRun → RefRun) (s : State) : (updRef o f s).dplls = s.dplls := rfl
@[simp] theorem updRef_hold (o : Nat) (f : RefRun → RefRun) (s : State) : (updRef o f s).hold = s.hold := rfl
@[simp] theorem updRef_meld (o : Nat) (f : RefRun → RefRun) (s : State) : (updRef o f s).meld = s.meld := rfl
@[simp] theorem updRef_meldBefore (o : Nat) (f : RefRun → RefRun) (s : State) : (updRef o f s).meldBefore = s.meldBefore := rfl
@[simp] theorem updRef_bound (o : Nat) (f : RefRun → RefRun) (s : State) : (updRef o f s).bound = s.bound := rfl
@[simp] theorem updRef_pair (o : Nat) (f : RefRun → RefRun) (s : State) : (updRef o f s).pair = s.pair := rfl
@[simp] theorem updRef_gnss (o : Nat) (f : RefRun → RefRun) (s : State) : (updRef o f s).gnss = s.gnss := rfl
@[simp] theorem updRef_outs (o : Nat) (f : RefRun → RefRun) (s : State) : (updRef o f s).outs = s.outs := rfl
@[simp] theorem updRef_tdc (o : Nat) (f : RefRun → RefRun) (s : State) : (updRef o f s).tdc = s.tdc := rfl
@[simp] theorem updRef_ports (o : Nat) (f : RefRun → RefRun) (s : State) : (updRef o f s).ports = s.ports := rfl
@[simp] theorem updRef_svc (o : Nat) (f : RefRun → RefRun) (s : State) : (updRef o f s).svc = s.svc := rfl
@[simp] theorem updRef_ptp (o : Nat) (f : RefRun → RefRun) (s : State) : (updRef o f s).ptp = s.ptp := rfl
@[simp] theorem updRef_ntp (o : Nat) (f : RefRun → RefRun) (s : State) : (updRef o f s).ntp = s.ntp := rfl
@[simp] theorem updRef_kitty (o : Nat) (f : RefRun → RefRun) (s : State) : (updRef o f s).kitty = s.kitty := rfl
@[simp] theorem updRef_fuse (o : Nat) (f : RefRun → RefRun) (s : State) : (updRef o f s).fuse = s.fuse := rfl
@[simp] theorem updRef_attest (o : Nat) (f : RefRun → RefRun) (s : State) : (updRef o f s).attest = s.attest := rfl
@[simp] theorem updRef_aud (o : Nat) (f : RefRun → RefRun) (s : State) : (updRef o f s).aud = s.aud := rfl
@[simp] theorem updRef_score (o : Nat) (f : RefRun → RefRun) (s : State) : (updRef o f s).score = s.score := rfl
@[simp] theorem updRef_flash (o : Nat) (f : RefRun → RefRun) (s : State) : (updRef o f s).flash = s.flash := rfl
@[simp] theorem updRef_hand (o : Nat) (f : RefRun → RefRun) (s : State) : (updRef o f s).hand = s.hand := rfl
@[simp] theorem updRef_perf (o : Nat) (f : RefRun → RefRun) (s : State) : (updRef o f s).perf = s.perf := rfl
@[simp] theorem updRef_shadow (o : Nat) (f : RefRun → RefRun) (s : State) : (updRef o f s).shadow = s.shadow := rfl
@[simp] theorem updRef_work (o : Nat) (f : RefRun → RefRun) (s : State) : (updRef o f s).work = s.work := rfl

@[simp] theorem updSvc_svc (f : SvcRun → SvcRun) (s : State) : (updSvc f s).svc = f s.svc := rfl
@[simp] theorem updSvc_pending (f : SvcRun → SvcRun) (s : State) : (updSvc f s).pending = s.pending := rfl
@[simp] theorem updSvc_now (f : SvcRun → SvcRun) (s : State) : (updSvc f s).now = s.now := rfl
@[simp] theorem updSvc_out (f : SvcRun → SvcRun) (s : State) : (updSvc f s).out = s.out := rfl
@[simp] theorem updSvc_free (f : SvcRun → SvcRun) (s : State) : (updSvc f s).free = s.free := rfl
@[simp] theorem updSvc_time (f : SvcRun → SvcRun) (s : State) : (updSvc f s).time = s.time := rfl
@[simp] theorem updSvc_incSum (f : SvcRun → SvcRun) (s : State) : (updSvc f s).incSum = s.incSum := rfl
@[simp] theorem updSvc_host (f : SvcRun → SvcRun) (s : State) : (updSvc f s).host = s.host := rfl
@[simp] theorem updSvc_boot (f : SvcRun → SvcRun) (s : State) : (updSvc f s).boot = s.boot := rfl
@[simp] theorem updSvc_root (f : SvcRun → SvcRun) (s : State) : (updSvc f s).root = s.root := rfl
@[simp] theorem updSvc_refs (f : SvcRun → SvcRun) (s : State) : (updSvc f s).refs = s.refs := rfl
@[simp] theorem updSvc_sels (f : SvcRun → SvcRun) (s : State) : (updSvc f s).sels = s.sels := rfl
@[simp] theorem updSvc_dplls (f : SvcRun → SvcRun) (s : State) : (updSvc f s).dplls = s.dplls := rfl
@[simp] theorem updSvc_hold (f : SvcRun → SvcRun) (s : State) : (updSvc f s).hold = s.hold := rfl
@[simp] theorem updSvc_meld (f : SvcRun → SvcRun) (s : State) : (updSvc f s).meld = s.meld := rfl
@[simp] theorem updSvc_meldBefore (f : SvcRun → SvcRun) (s : State) : (updSvc f s).meldBefore = s.meldBefore := rfl
@[simp] theorem updSvc_bound (f : SvcRun → SvcRun) (s : State) : (updSvc f s).bound = s.bound := rfl
@[simp] theorem updSvc_pair (f : SvcRun → SvcRun) (s : State) : (updSvc f s).pair = s.pair := rfl
@[simp] theorem updSvc_gnss (f : SvcRun → SvcRun) (s : State) : (updSvc f s).gnss = s.gnss := rfl
@[simp] theorem updSvc_outs (f : SvcRun → SvcRun) (s : State) : (updSvc f s).outs = s.outs := rfl
@[simp] theorem updSvc_tdc (f : SvcRun → SvcRun) (s : State) : (updSvc f s).tdc = s.tdc := rfl
@[simp] theorem updSvc_ports (f : SvcRun → SvcRun) (s : State) : (updSvc f s).ports = s.ports := rfl
@[simp] theorem updSvc_ptp (f : SvcRun → SvcRun) (s : State) : (updSvc f s).ptp = s.ptp := rfl
@[simp] theorem updSvc_ntp (f : SvcRun → SvcRun) (s : State) : (updSvc f s).ntp = s.ntp := rfl
@[simp] theorem updSvc_kitty (f : SvcRun → SvcRun) (s : State) : (updSvc f s).kitty = s.kitty := rfl
@[simp] theorem updSvc_fuse (f : SvcRun → SvcRun) (s : State) : (updSvc f s).fuse = s.fuse := rfl
@[simp] theorem updSvc_attest (f : SvcRun → SvcRun) (s : State) : (updSvc f s).attest = s.attest := rfl
@[simp] theorem updSvc_aud (f : SvcRun → SvcRun) (s : State) : (updSvc f s).aud = s.aud := rfl
@[simp] theorem updSvc_score (f : SvcRun → SvcRun) (s : State) : (updSvc f s).score = s.score := rfl
@[simp] theorem updSvc_flash (f : SvcRun → SvcRun) (s : State) : (updSvc f s).flash = s.flash := rfl
@[simp] theorem updSvc_hand (f : SvcRun → SvcRun) (s : State) : (updSvc f s).hand = s.hand := rfl
@[simp] theorem updSvc_perf (f : SvcRun → SvcRun) (s : State) : (updSvc f s).perf = s.perf := rfl
@[simp] theorem updSvc_shadow (f : SvcRun → SvcRun) (s : State) : (updSvc f s).shadow = s.shadow := rfl
@[simp] theorem updSvc_work (f : SvcRun → SvcRun) (s : State) : (updSvc f s).work = s.work := rfl

@[simp] theorem updJob_pending (j : Nat) (f : Job → Job) (s : State) : (updJob j f s).pending = s.pending := rfl
@[simp] theorem updJob_now (j : Nat) (f : Job → Job) (s : State) : (updJob j f s).now = s.now := rfl
@[simp] theorem updJob_out (j : Nat) (f : Job → Job) (s : State) : (updJob j f s).out = s.out := rfl
@[simp] theorem updJob_free (j : Nat) (f : Job → Job) (s : State) : (updJob j f s).free = s.free := rfl
@[simp] theorem updJob_time (j : Nat) (f : Job → Job) (s : State) : (updJob j f s).time = s.time := rfl
@[simp] theorem updJob_incSum (j : Nat) (f : Job → Job) (s : State) : (updJob j f s).incSum = s.incSum := rfl
@[simp] theorem updJob_host (j : Nat) (f : Job → Job) (s : State) : (updJob j f s).host = s.host := rfl
@[simp] theorem updJob_boot (j : Nat) (f : Job → Job) (s : State) : (updJob j f s).boot = s.boot := rfl
@[simp] theorem updJob_root (j : Nat) (f : Job → Job) (s : State) : (updJob j f s).root = s.root := rfl
@[simp] theorem updJob_refs (j : Nat) (f : Job → Job) (s : State) : (updJob j f s).refs = s.refs := rfl
@[simp] theorem updJob_sels (j : Nat) (f : Job → Job) (s : State) : (updJob j f s).sels = s.sels := rfl
@[simp] theorem updJob_dplls (j : Nat) (f : Job → Job) (s : State) : (updJob j f s).dplls = s.dplls := rfl
@[simp] theorem updJob_hold (j : Nat) (f : Job → Job) (s : State) : (updJob j f s).hold = s.hold := rfl
@[simp] theorem updJob_meld (j : Nat) (f : Job → Job) (s : State) : (updJob j f s).meld = s.meld := rfl
@[simp] theorem updJob_meldBefore (j : Nat) (f : Job → Job) (s : State) : (updJob j f s).meldBefore = s.meldBefore := rfl
@[simp] theorem updJob_bound (j : Nat) (f : Job → Job) (s : State) : (updJob j f s).bound = s.bound := rfl
@[simp] theorem updJob_pair (j : Nat) (f : Job → Job) (s : State) : (updJob j f s).pair = s.pair := rfl
@[simp] theorem updJob_gnss (j : Nat) (f : Job → Job) (s : State) : (updJob j f s).gnss = s.gnss := rfl
@[simp] theorem updJob_outs (j : Nat) (f : Job → Job) (s : State) : (updJob j f s).outs = s.outs := rfl
@[simp] theorem updJob_tdc (j : Nat) (f : Job → Job) (s : State) : (updJob j f s).tdc = s.tdc := rfl
@[simp] theorem updJob_ports (j : Nat) (f : Job → Job) (s : State) : (updJob j f s).ports = s.ports := rfl
@[simp] theorem updJob_ptp (j : Nat) (f : Job → Job) (s : State) : (updJob j f s).ptp = s.ptp := rfl
@[simp] theorem updJob_ntp (j : Nat) (f : Job → Job) (s : State) : (updJob j f s).ntp = s.ntp := rfl
@[simp] theorem updJob_kitty (j : Nat) (f : Job → Job) (s : State) : (updJob j f s).kitty = s.kitty := rfl
@[simp] theorem updJob_fuse (j : Nat) (f : Job → Job) (s : State) : (updJob j f s).fuse = s.fuse := rfl
@[simp] theorem updJob_attest (j : Nat) (f : Job → Job) (s : State) : (updJob j f s).attest = s.attest := rfl
@[simp] theorem updJob_aud (j : Nat) (f : Job → Job) (s : State) : (updJob j f s).aud = s.aud := rfl
@[simp] theorem updJob_score (j : Nat) (f : Job → Job) (s : State) : (updJob j f s).score = s.score := rfl
@[simp] theorem updJob_flash (j : Nat) (f : Job → Job) (s : State) : (updJob j f s).flash = s.flash := rfl
@[simp] theorem updJob_hand (j : Nat) (f : Job → Job) (s : State) : (updJob j f s).hand = s.hand := rfl
@[simp] theorem updJob_perf (j : Nat) (f : Job → Job) (s : State) : (updJob j f s).perf = s.perf := rfl
@[simp] theorem updJob_shadow (j : Nat) (f : Job → Job) (s : State) : (updJob j f s).shadow = s.shadow := rfl
@[simp] theorem updJob_work (j : Nat) (f : Job → Job) (s : State) : (updJob j f s).work = s.work := rfl

@[simp] theorem updThread_pending (h : Nat) (f : Thread → Thread) (s : State) : (updThread h f s).pending = s.pending := rfl
@[simp] theorem updThread_now (h : Nat) (f : Thread → Thread) (s : State) : (updThread h f s).now = s.now := rfl
@[simp] theorem updThread_out (h : Nat) (f : Thread → Thread) (s : State) : (updThread h f s).out = s.out := rfl
@[simp] theorem updThread_free (h : Nat) (f : Thread → Thread) (s : State) : (updThread h f s).free = s.free := rfl
@[simp] theorem updThread_time (h : Nat) (f : Thread → Thread) (s : State) : (updThread h f s).time = s.time := rfl
@[simp] theorem updThread_incSum (h : Nat) (f : Thread → Thread) (s : State) : (updThread h f s).incSum = s.incSum := rfl
@[simp] theorem updThread_host (h : Nat) (f : Thread → Thread) (s : State) : (updThread h f s).host = s.host := rfl
@[simp] theorem updThread_boot (h : Nat) (f : Thread → Thread) (s : State) : (updThread h f s).boot = s.boot := rfl
@[simp] theorem updThread_root (h : Nat) (f : Thread → Thread) (s : State) : (updThread h f s).root = s.root := rfl
@[simp] theorem updThread_refs (h : Nat) (f : Thread → Thread) (s : State) : (updThread h f s).refs = s.refs := rfl
@[simp] theorem updThread_sels (h : Nat) (f : Thread → Thread) (s : State) : (updThread h f s).sels = s.sels := rfl
@[simp] theorem updThread_dplls (h : Nat) (f : Thread → Thread) (s : State) : (updThread h f s).dplls = s.dplls := rfl
@[simp] theorem updThread_hold (h : Nat) (f : Thread → Thread) (s : State) : (updThread h f s).hold = s.hold := rfl
@[simp] theorem updThread_meld (h : Nat) (f : Thread → Thread) (s : State) : (updThread h f s).meld = s.meld := rfl
@[simp] theorem updThread_meldBefore (h : Nat) (f : Thread → Thread) (s : State) : (updThread h f s).meldBefore = s.meldBefore := rfl
@[simp] theorem updThread_bound (h : Nat) (f : Thread → Thread) (s : State) : (updThread h f s).bound = s.bound := rfl
@[simp] theorem updThread_pair (h : Nat) (f : Thread → Thread) (s : State) : (updThread h f s).pair = s.pair := rfl
@[simp] theorem updThread_gnss (h : Nat) (f : Thread → Thread) (s : State) : (updThread h f s).gnss = s.gnss := rfl
@[simp] theorem updThread_outs (h : Nat) (f : Thread → Thread) (s : State) : (updThread h f s).outs = s.outs := rfl
@[simp] theorem updThread_tdc (h : Nat) (f : Thread → Thread) (s : State) : (updThread h f s).tdc = s.tdc := rfl
@[simp] theorem updThread_ports (h : Nat) (f : Thread → Thread) (s : State) : (updThread h f s).ports = s.ports := rfl
@[simp] theorem updThread_ptp (h : Nat) (f : Thread → Thread) (s : State) : (updThread h f s).ptp = s.ptp := rfl
@[simp] theorem updThread_ntp (h : Nat) (f : Thread → Thread) (s : State) : (updThread h f s).ntp = s.ntp := rfl
@[simp] theorem updThread_kitty (h : Nat) (f : Thread → Thread) (s : State) : (updThread h f s).kitty = s.kitty := rfl
@[simp] theorem updThread_fuse (h : Nat) (f : Thread → Thread) (s : State) : (updThread h f s).fuse = s.fuse := rfl
@[simp] theorem updThread_attest (h : Nat) (f : Thread → Thread) (s : State) : (updThread h f s).attest = s.attest := rfl
@[simp] theorem updThread_aud (h : Nat) (f : Thread → Thread) (s : State) : (updThread h f s).aud = s.aud := rfl
@[simp] theorem updThread_score (h : Nat) (f : Thread → Thread) (s : State) : (updThread h f s).score = s.score := rfl
@[simp] theorem updThread_flash (h : Nat) (f : Thread → Thread) (s : State) : (updThread h f s).flash = s.flash := rfl
@[simp] theorem updThread_hand (h : Nat) (f : Thread → Thread) (s : State) : (updThread h f s).hand = s.hand := rfl
@[simp] theorem updThread_perf (h : Nat) (f : Thread → Thread) (s : State) : (updThread h f s).perf = s.perf := rfl
@[simp] theorem updThread_shadow (h : Nat) (f : Thread → Thread) (s : State) : (updThread h f s).shadow = s.shadow := rfl
@[simp] theorem updThread_work (h : Nat) (f : Thread → Thread) (s : State) : (updThread h f s).work = s.work := rfl

@[simp] theorem updChan_pending (c : Nat) (f : TdcChan → TdcChan) (s : State) : (updChan c f s).pending = s.pending := rfl
@[simp] theorem updChan_now (c : Nat) (f : TdcChan → TdcChan) (s : State) : (updChan c f s).now = s.now := rfl
@[simp] theorem updChan_out (c : Nat) (f : TdcChan → TdcChan) (s : State) : (updChan c f s).out = s.out := rfl
@[simp] theorem updChan_free (c : Nat) (f : TdcChan → TdcChan) (s : State) : (updChan c f s).free = s.free := rfl
@[simp] theorem updChan_time (c : Nat) (f : TdcChan → TdcChan) (s : State) : (updChan c f s).time = s.time := rfl
@[simp] theorem updChan_incSum (c : Nat) (f : TdcChan → TdcChan) (s : State) : (updChan c f s).incSum = s.incSum := rfl
@[simp] theorem updChan_host (c : Nat) (f : TdcChan → TdcChan) (s : State) : (updChan c f s).host = s.host := rfl
@[simp] theorem updChan_boot (c : Nat) (f : TdcChan → TdcChan) (s : State) : (updChan c f s).boot = s.boot := rfl
@[simp] theorem updChan_root (c : Nat) (f : TdcChan → TdcChan) (s : State) : (updChan c f s).root = s.root := rfl
@[simp] theorem updChan_refs (c : Nat) (f : TdcChan → TdcChan) (s : State) : (updChan c f s).refs = s.refs := rfl
@[simp] theorem updChan_sels (c : Nat) (f : TdcChan → TdcChan) (s : State) : (updChan c f s).sels = s.sels := rfl
@[simp] theorem updChan_dplls (c : Nat) (f : TdcChan → TdcChan) (s : State) : (updChan c f s).dplls = s.dplls := rfl
@[simp] theorem updChan_hold (c : Nat) (f : TdcChan → TdcChan) (s : State) : (updChan c f s).hold = s.hold := rfl
@[simp] theorem updChan_meld (c : Nat) (f : TdcChan → TdcChan) (s : State) : (updChan c f s).meld = s.meld := rfl
@[simp] theorem updChan_meldBefore (c : Nat) (f : TdcChan → TdcChan) (s : State) : (updChan c f s).meldBefore = s.meldBefore := rfl
@[simp] theorem updChan_bound (c : Nat) (f : TdcChan → TdcChan) (s : State) : (updChan c f s).bound = s.bound := rfl
@[simp] theorem updChan_pair (c : Nat) (f : TdcChan → TdcChan) (s : State) : (updChan c f s).pair = s.pair := rfl
@[simp] theorem updChan_gnss (c : Nat) (f : TdcChan → TdcChan) (s : State) : (updChan c f s).gnss = s.gnss := rfl
@[simp] theorem updChan_outs (c : Nat) (f : TdcChan → TdcChan) (s : State) : (updChan c f s).outs = s.outs := rfl
@[simp] theorem updChan_ports (c : Nat) (f : TdcChan → TdcChan) (s : State) : (updChan c f s).ports = s.ports := rfl
@[simp] theorem updChan_svc (c : Nat) (f : TdcChan → TdcChan) (s : State) : (updChan c f s).svc = s.svc := rfl
@[simp] theorem updChan_ptp (c : Nat) (f : TdcChan → TdcChan) (s : State) : (updChan c f s).ptp = s.ptp := rfl
@[simp] theorem updChan_ntp (c : Nat) (f : TdcChan → TdcChan) (s : State) : (updChan c f s).ntp = s.ntp := rfl
@[simp] theorem updChan_kitty (c : Nat) (f : TdcChan → TdcChan) (s : State) : (updChan c f s).kitty = s.kitty := rfl
@[simp] theorem updChan_fuse (c : Nat) (f : TdcChan → TdcChan) (s : State) : (updChan c f s).fuse = s.fuse := rfl
@[simp] theorem updChan_attest (c : Nat) (f : TdcChan → TdcChan) (s : State) : (updChan c f s).attest = s.attest := rfl
@[simp] theorem updChan_aud (c : Nat) (f : TdcChan → TdcChan) (s : State) : (updChan c f s).aud = s.aud := rfl
@[simp] theorem updChan_score (c : Nat) (f : TdcChan → TdcChan) (s : State) : (updChan c f s).score = s.score := rfl
@[simp] theorem updChan_flash (c : Nat) (f : TdcChan → TdcChan) (s : State) : (updChan c f s).flash = s.flash := rfl
@[simp] theorem updChan_hand (c : Nat) (f : TdcChan → TdcChan) (s : State) : (updChan c f s).hand = s.hand := rfl
@[simp] theorem updChan_perf (c : Nat) (f : TdcChan → TdcChan) (s : State) : (updChan c f s).perf = s.perf := rfl
@[simp] theorem updChan_shadow (c : Nat) (f : TdcChan → TdcChan) (s : State) : (updChan c f s).shadow = s.shadow := rfl
@[simp] theorem updChan_work (c : Nat) (f : TdcChan → TdcChan) (s : State) : (updChan c f s).work = s.work := rfl

end Sys2Proof.Machine
end

