-- ==== Sys2Proof/WellFormed.lean ====
section
/-! DEFINITION. Which commands are well formed: operands inside the ranges that the spec gives ports, rings, sources and packets. -/
namespace Sys2Proof

/-- A packet holds the parameters that its LENGTH gives, and comes from a source that exists (R492, R493). -/
def reqWf (q : Req) : Bool :=
  decide (q.params.length = 4 * min q.length.toNat 124) && (match q.src with | .ring c => decide (c < 32) | _ => true)

/-- The operands of a command lie in their ranges. -/
def Instr.wf (i : Instr) : Bool :=
  match i with
  | .sysIdentify q => reqWf q
  | .sysStatus q => reqWf q
  | .sysResetBlock q => reqWf q
  | .blockResetDone _ block _ => decide (1 ≤ block ∧ block ≤ 5)
  | .sysConfigCommit q => reqWf q
  | .sysConfigDigest q => reqWf q
  | .sysEcho q => reqWf q
  | .rootStatus q => reqWf q
  | .outConfigure q => reqWf q
  | .outEnable q => reqWf q
  | .outputStart n => decide (n < 16)
  | .outAlign q => reqWf q
  | .alignPulse n _ => decide (n < 16)
  | .alignTimeout n => decide (n < 16)
  | .alignDone n => decide (n < 16)
  | .outStatus q => reqWf q
  | .todoutConfigure q => reqWf q
  | .refConfigure q => reqWf q
  | .refStatus q => reqWf q
  | .refQualifyPolicy q => reqWf q
  | .selConfigure q => reqWf q
  | .selSelect q => reqWf q
  | .selStatus q => reqWf q
  | .selForceRestore q => reqWf q
  | .dpllConfigure q => reqWf q
  | .dpllStatus q => reqWf q
  | .timeRead q => reqWf q
  | .timeSet q => reqWf q
  | .timeStep q => reqWf q
  | .timeSlew q => reqWf q
  | .leapConfigure q => reqWf q
  | .holdModelSet q => reqWf q
  | .holdModelRead q => reqWf q
  | .jumpAccept q => reqWf q
  | .meldConfigure q => reqWf q
  | .meldClockSet q => reqWf q
  | .meldStatus q => reqWf q
  | .boundRead q => reqWf q
  | .boundPolicy q => reqWf q
  | .gnssConfigure q => reqWf q
  | .gnssAid q => reqWf q
  | .gnssStatus q => reqWf q
  | .gnssSurvey q => reqWf q
  | .gnssNavData q => reqWf q
  | .tdcConfigure q => reqWf q
  | .tdcArm q => reqWf q
  | .tdcArmStart c => decide (c < 8)
  | .tdcRead q => reqWf q
  | .tdcStats q => reqWf q
  | .portConfigure q => reqWf q
  | .portCalibrate q => reqWf q
  | .portFlowControl q => reqWf q
  | .portSynce q => reqWf q
  | .portStatus q => reqWf q
  | .svcConfigure q => reqWf q
  | .svcAdmission q => reqWf q
  | .svcStatus q => reqWf q
  | .ringConfigure q => reqWf q
  | .ringStatus q => reqWf q
  | .ptpInstanceCreate q => reqWf q
  | .ptpInstanceConfigure q => reqWf q
  | .ptpInstanceDelete q => reqWf q
  | .ptpPortBind q => reqWf q
  | .ptpStatus q => reqWf q
  | .ptpGrantQuery q => reqWf q
  | .ptpGrantRevoke q => reqWf q
  | .ptpSaLoad q => reqWf q
  | .ntpConfigure q => reqWf q
  | .ntpRatePolicy q => reqWf q
  | .ntpStatus q => reqWf q
  | .ntsKeyLoad q => reqWf q
  | .ntsKeyRotate q => reqWf q
  | .scheduledRotation inst => decide (inst < 16)
  | .ntsCookieMint q => reqWf q
  | .rcptConfigure q => reqWf q
  | .rcptStatus q => reqWf q
  | .pairConfigure q => reqWf q
  | .pairStatus q => reqWf q
  | .pairClaimSet q => reqWf q
  | .pairSwitch q => reqWf q
  | .pairResync q => reqWf q
  | .pairSelftestReport q => reqWf q
  | .keyWrite q => reqWf q
  | .keyErase q => reqWf q
  | .keyInfo q => reqWf q
  | .lcStatus q => reqWf q
  | .lcAdvance q => reqWf q
  | .attestQuote q => reqWf q
  | .attestMeasurements q => reqWf q
  | .audPortConfigure q => reqWf q
  | .audGroupConfigure q => reqWf q
  | .audGroupStart q => reqWf q
  | .audGroupStop q => reqWf q
  | .audStatus q => reqWf q
  | .recConfigure q => reqWf q
  | .recRead q => reqWf q
  | .recCommitNow q => reqWf q
  | .perfRead q => reqWf q
  | .perfFilterSet q => reqWf q
  | .perfWindowSet q => reqWf q
  | .badOpcode opcode q => decide (opcode < 65536) && reqWf q
  | .timeLatchLoRead _ _ => true
  | .resultStatusRead _ _ => true
  | .cmdSubmit _ _ => true
  | .hostLoadBlock _ _ => true
  | .irqCauseClear _ _ off _ => decide (off < 65536)
  | .ringCtrlWrite _ _ r _ => decide (r < 256)
  | .doorbellWrite _ _ off _ => decide (off < 65536)
  | .registerWrite _ _ off size value => decide (off < 65536) && decide (1 ≤ size ∧ size ≤ 512) && decide (value < 2 ^ (8 * size))
  | .msixUnmask _ _ _ => true
  | .cmdRingFetch c _ entry => decide (c < 32) && decide (entry.length = 512)
  | .queueTimeout _ => true
  | .rxRingDeliver r _ => decide (r < 96)
  | .txFetch r _ descs _ => decide (96 ≤ r ∧ r < 192) && descs.all (fun d => decide (d.length = 32))
  | .eventEntryWrite r _ => decide (224 ≤ r ∧ r < 256)
  | .dmaCompletionError r _ => decide (r < 256)
  | .ringIrqHoldoff r => decide (r < 256)
  | .pcieReset _ _ => true
  | .handBoundary _ _ => true
  | .refSample src _ _ => decide (src < 98)
  | .zdaSentence _ _ _ => true
  | .activityMiss src => decide (src < 98)
  | .freqUpdate src => decide (src < 98)
  | .qualTimeExpiry src => decide (src < 98)
  | .wtrExpiry src => decide (src < 98)
  | .splitTimer domain _ _ _ => decide (domain < 4)
  | .dpllLock domain => decide (domain < 4)
  | .freqStepEstimate domain => decide (domain < 4)
  | .steerSent _ => true
  | .steerAck _ _ => true
  | .meldUpdateDone _ => true
  | .outlierClearExpiry slot => decide (slot < 8)
  | .gnssEpoch _ _ => true
  | .gnssSample _ => true
  | .gnssClockFit _ block => decide (block.length = 16368)
  | .clkFault _ => true
  | .acquisitionDwell _ prn _ => decide (1 ≤ prn ∧ prn ≤ 32)
  | .channelLockLost _ prn => decide (1 ≤ prn ∧ prn ≤ 32)
  | .reacquireTimeout prn => decide (1 ≤ prn ∧ prn ≤ 32)
  | .navNew _ _ _ _ => true
  | .bpllLock _ _ => true
  | .lossOfLock _ _ => true
  | .excursion _ => true
  | .excursionEnd _ => true
  | .outputRisingEdge n => decide (n < 16)
  | .irigFrame n => decide (n < 16)
  | .placerCalLost n _ => decide (n < 16)
  | .tdcEdge inp _ _ => decide (inp < 9)
  | .tdcOrphan c => decide (c < 8)
  | .tdcGateEnd c => decide (c < 8)
  | .tdcCalLost inp _ => decide (inp < 9)
  | .tdcCalDone r => decide (r.skews.length = 9)
  | .frameRx port _ _ _ => decide (port < 16)
  | .admissionDecision _ => true
  | .trickJob h => decide (h < 64)
  | .cryptoLaneDone h => decide (h < 64)
  | .timedLaunch port => decide (port < 16)
  | .frameTx port _ => decide (port < 16)
  | .pauseEffect port => decide (port < 16)
  | .pauseExpiry port prio => decide (port < 16) && decide (prio < 8)
  | .pfcXoff port prio _ => decide (port < 16) && decide (prio < 8)
  | .pfcXoffRefresh port prio => decide (port < 16) && decide (prio < 8)
  | .pfcXon port prio _ => decide (port < 16) && decide (prio < 8)
  | .blockLock port _ _ _ => decide (port < 18)
  | .alignmentDone port _ _ _ _ => decide (port < 18)
  | .linkLoss port _ => decide (port < 18)
  | .calibrationEnd port _ _ _ _ _ => decide (port < 18)
  | .calLost port _ _ _ => decide (port < 18)
  | .synceSample port _ => decide (port < 16)
  | .esmcTimeout port => decide (port < 16)
  | .esmcTx port => decide (port < 16)
  | .esmcEventTx port _ => decide (port < 16)
  | .windowEnd port w => decide (port < 16) && decide (w < 4)
  | .engineFault e _ => decide (e < 16)
  | .scheduledPresent inst port _ _ => decide (inst < 64) && decide (port < 16)
  | .batchSigned _ => true
  | .announceTimeout inst port => decide (inst < 64) && decide (port < 16)
  | .followupTimeout inst port => decide (inst < 64) && decide (port < 16)
  | .syncTimeout inst => decide (inst < 64)
  | .pathDelayTimeout inst port => decide (inst < 64) && decide (port < 16)
  | .grantExpiry _ => true
  | .st2059Metadata inst => decide (inst < 64)
  | .upstreamRenew inst port _ _ => decide (inst < 64) && decide (port < 16)
  | .upstreamRetry inst port _ _ => decide (inst < 64) && decide (port < 16)
  | .claimFrameTx _ _ => true
  | .claimFrameRx _ claim => decide (claim < 256)
  | .claimQuiet _ => true
  | .selfFault _ cause _ => decide (1 ≤ cause ∧ cause ≤ 8)
  | .heartbeatRx lane _ _ _ => decide (lane < 2)
  | .snapshotTx _ => true
  | .snapshotApply _ _ => true
  | .copyVerified _ _ _ => true
  | .lockstepInputRx _ _ => true
  | .lockstepCompare _ digest => decide (digest.length = 32)
  | .mirrorRx opcode q => decide (opcode < 65536) && reqWf q
  | .mirrorReplyRx _ opcode tag status => decide (opcode < 65536) && decide (tag < 65536) && decide (status < 256)
  | .switchRequestRx _ _ => true
  | .compareCheck _ _ _ => true
  | .selftestRun item _ _ _ => decide (item < 7)
  | .persistDone _ _ => true
  | .kittyLoad _ => true
  | .audioFrameBoundary port => decide (port < 4)
  | .audioTxRead port => decide (port < 4)
  | .audioBufferHead port _ _ _ => decide (port < 4)
  | .audioRxFrame port _ _ => decide (port < 4)
  | .aes3Sample port _ => decide (port < 4)
  | .pageWritten _ => true
  | .pageWriteTimeout _ _ => true
  | .dailyCommit _ => true
  | .powerOn _ => true
  | .powerGoodRise _ => true
  | .powerGoodFall _ rails => decide (0 < rails ∧ rails < 128)
  | .resetNAssert _ _ => true
  | .resetEnd _ _ bootSrc _ => decide (bootSrc < 4)
  | .watchdogExpiry _ => true
  | .thermalShutdown _ _ => true
  | .thermalRelease _ _ => true
  | .thermalWarn _ _ => true
  | .fuseRead _ => true
  | .sramTest _ _ => true
  | .imageLoad _ _ _ => true
  | .keyDerive _ => true
  | .dealerStart _ _ => true
  | .configImageExec _ => true
  | .ready _ => true
  | .claimOpen _ => true
  | .linkTrainingStart _ => true
  | .noStampedEdge src => decide (src < 98)
  | .darsLockLost port _ => decide (port < 4)
  | .gspiWritesDone _ => true
  | .classChange _ => true
  | .boundAlert _ => true
  | .advanceDone _ _ _ => true
  | .quoteSigned _ => true
  | .powerRemoved _ => true
  | .thermalWarnClear _ _ => true
  | .pcieLinkUp _ width gen => ([1, 2, 4] : List Nat).contains width && decide (1 ≤ gen ∧ gen ≤ 4)
  | .scheduledStepApply => true
  | .slewDone => true
  | .leapApplied => true
  | .pairSwitchTimeout => true
  | .modelLearned => true
  | .steerPeriod => true
  | .steerNoack => true
  | .meldUpdate => true
  | .horizon => true
  | .surveySecond => true
  | .todSentence => true
  | .shedEnd => true
  | .batchClose => true
  | .claimAbsent => true
  | .claimInForce => true
  | .enableRise => true
  | .enableFall => true
  | .heartbeatTx => true
  | .heartbeatLost => true
  | .snapLate => true
  | .mirroredCommit => true
  | .persistWrite => true
  | .creditAccrue => true
  | .retentionRewrite => true
  | .hourlyCommit => true
  | .watchdogReset => true

end Sys2Proof
end

