-- ==== Sys2Proof/Tests/Slice0.lean ====
section
/-! SUPPORT. Tests: what well-formedness refuses, the spec's own examples, and for every statement a state and operands that meet its
conditions, clause by clause. -/
set_option Elab.async false
open Sys2Proof Sys2Proof.Machine Host
namespace Sys2Proof.Tests

/-- A chip that is READY, alone. -/
def rd : State := { boot := { inReset := false, stage := 9, cmdReady := true }, root := { locked := true } }

/-- A packet of the PCIe registers with these parameters. -/
def rq (p : Bytes) : Req := { time := 0, src := .pcieReg, tag := 0, length := BitVec.ofNat 16 (p.length / 4), flags := 0, reserved := 0, params := p }

/-- Fields of a layout, by size and value. -/
def pk (l : List (Nat × Nat)) : Bytes := l.flatMap fun e => leBytes e.1 e.2

/-- The same with a shadow set that no commit accepts: two members of one audio group on two domains. -/
def badShadow (s : State) : State := { s with shadow := { s.shadow with audGroups := [3, 0, 0, 0], aud := [{ mode := 1 }, { mode := 1, domain := 1 }, {}, {}] } }

/-- In pair mode. -/
def inPair (s : State) : State := { s with work := { s.work with pair := { s.work.pair with mode := 1 } }, shadow := { s.shadow with pair := { s.shadow.pair with mode := 1 } } }

/-! Well-formedness: a term that each check refuses. -/
/-- A packet whose parameters do not have the length that LENGTH gives. -/
def shortReq : Req := { rq [1#8, 2#8, 3#8, 4#8] with length := 2 }
/-- Packets: the length of the parameters, and the number of a command ring. -/
theorem test_wf_packets : (Instr.sysIdentify shortReq).wf = false ∧ (Instr.sysIdentify { rq [] with src := .ring 32 }).wf = false ∧
    (Instr.sysIdentify (rq [1#8, 2#8, 3#8, 4#8])).wf = true ∧ (Instr.sysIdentify { rq [] with src := .ring 31 }).wf = true := by decide
/-- Ports, lanes, outputs, channels and inputs. -/
theorem test_wf_ports :
    ([.outputStart 16, .tdcArmStart 8, .tdcEdge 9 0 { width := 0, rising := true }, .frameRx 16 0 true [], .pauseExpiry 16 0, .pauseExpiry 0 8, .blockLock 18 0 0 none, .linkLoss 18 0,
      .windowEnd 0 4, .windowEnd 16 0, .engineFault 16 0, .trickJob 64, .heartbeatRx 2 0 true [], .audioFrameBoundary 4, .selftestRun 7 0 true 0] : List Instr).all
      (fun i => !i.wf) = true := by decide
/-- Sources, domains, slots, instances and satellites. -/
theorem test_wf_sources :
    ([.freqUpdate 98, .dpllLock 4, .outlierClearExpiry 8, .scheduledRotation 16, .syncTimeout 64, .announceTimeout 64 0, .announceTimeout 0 16,
      .reacquireTimeout 0, .reacquireTimeout 33, .blockResetDone 0 0 0, .blockResetDone 0 6 0] : List Instr).all (fun i => !i.wf) = true := by decide
/-- Rings, their entries and descriptors. -/
theorem test_wf_rings :
    ([.ringIrqHoldoff 256, .cmdRingFetch 32 0 (List.replicate 512 0#8), .cmdRingFetch 0 0 [], .rxRingDeliver 96 0, .txFetch 95 0 [] [], .txFetch 192 0 [] [],
      .txFetch 96 0 [[0#8]] [], .eventEntryWrite 223 0, .eventEntryWrite 256 0] : List Instr).all (fun i => !i.wf) = true := by decide
/-- Register accesses, opcodes, claims, causes, statuses, straps and links. -/
theorem test_wf_values :
    ([.irqCauseClear .pcie 0 65536 0, .registerWrite .pcie 0 65536 4 0, .registerWrite .pcie 0 0 0 0, .registerWrite .pcie 0 0 513 0, .registerWrite .pcie 0 0 1 256,
      .badOpcode 65536 (rq []), .claimFrameRx 0 256, .selfFault 0 0 0, .selfFault 0 9 0, .lockstepCompare 0 [0#8], .mirrorReplyRx 0 65536 0 0,
      .mirrorReplyRx 0 0 65536 0, .mirrorReplyRx 0 0 0 256, .powerGoodFall 0 0, .powerGoodFall 0 128, .resetEnd 0 true 4 true, .pcieLinkUp 0 3 1,
      .pcieLinkUp 0 1 0, .pcieLinkUp 0 1 5] : List Instr).all (fun i => !i.wf) = true := by decide

/-! The spec's own examples. -/
/-- 42.7 ns, and the unbounded value (chapter 00, the formats). -/
theorem test_bound_format : boundBytes (some (42700 * 256)) = leBytes 8 0xA6CC ∧ boundBytes none = leBytes 8 0xFFFFFFFFFF := by decide +kernel
/-- Chapter 02, the host slew in free-run: SLEW_INC of 5.0 × 10⁻⁵. -/
theorem test_slew_inc : slewIncOf 922337203685478 = 22517998136 := by decide +kernel
/-- Chapter 04, 24 hours on rubidium: the counter's bound at six elapsed times. -/
theorem test_holdover_bounds :
    ([0, 3600, 21600, 86400, 86430, 86730] : List Nat).map
      (fun t => boundPs (some (11500 * 256 + growthOf 18446745 792281625143 7922817 (t * 10 ^ 9 * 2 ^ 48)))) =
    [11500, 16365, 38373, 141104, 141161, 141731] := by decide +kernel
/-- Chapter 05, one NTS response: the served bounds when locked to GNSS and on upstream PTP. -/
theorem test_served_bounds :
    boundPs (some (8000 * 256 + 2375 * 256 + wanderOf 9223372 7922817 102084710076282 400000000000 + 60 * 256 + 29803)) = 10565 ∧
    boundPs (some (40000 * 256 + 60 * 256 + 5000 * 256 + 1850 * 256 + wanderOf 36893488 7922817 102084710076282 40000000000 + 60 * 256 + 29803)) = 47091 := by
  decide +kernel
/-- Chapter 11: the clockAccuracy codes of the three states. -/
theorem test_accuracy_codes : ([10448, 46975, 141164] : List Nat).map (fun b => accCode (some (b * 256))) = [0x20, 0x21, 0x22] := by decide +kernel
/-- Chapter 06, a position-hold sample: 2σ of seven residuals, in ps. -/
theorem test_two_sigma :
    twoSigmaOf ([-18, 15, -40, -2, 31, -31, 3].map fun r => r * 65536 / 10) 3000 = 2268 := by decide +kernel
/-- Chapter 08, two 1PPS signals: MEAN and STDDEV of −37, 12, 0 and −5 ps. -/
theorem test_tdc_statistics :
    let b := ([-37, 12, 0, -5] : List Int).foldl (fun b v => blockAdd b v 0 false) {}
    blockMean b = -1920 ∧ blockSd b = 5356 := by decide +kernel
/-- Chapter 09: 150 quanta on a 25G port last 3,072 ns. -/
theorem test_pause_quanta : 150 * quantumPs 3 = 3072000 := by decide +kernel
/-- Chapter 12, a batch of 3,000: PATH_LEN of leaf 0 and of leaf 2,999. -/
theorem test_path_lengths :
    (treePath 3000 0 (List.replicate 3000 [])).length = 12 ∧ (treePath 3000 2999 (List.replicate 3000 [])).length = 9 := by decide +kernel
/-- Chapter 04: a correction of −1.2 × 10⁻¹² is sent as "ADJ -12" and CR LF. -/
theorem test_steering_command :
    (match exec .steerPeriod { rd with
        hold := { steerAt := some 9, learned := true }
        dplls := rd.dplls.set 0 { state := .locked }
        meld := { slots := [{ est := { freq := 22136094 } }] }
        work := { rd.work with hold := { pref := ascii "ADJ ", suffix := [13#8, 10#8], steerExp := 13, relative := true, steerMode := 1, steerMax := 1000 } } } with
      | .next t => t.out | _ => []) = [.serial "OSC_CTL_TX" (ascii "ADJ -12" ++ [13#8, 10#8])] := by decide +kernel
/-- Chapter 16, reading a result: DONE is read with READ_COUNT 1, then 2. -/
theorem test_result_status :
    (match exec (.resultStatusRead .spi 9) { rd with host := { rd.host with spi := { select := 7 }, slots := rd.host.slots.set 7 { tag := 0x0107 } } } with
      | .next t => t.out | _ => []) = [.readData .spi 0x00000100] ∧
    (match exec (.resultStatusRead .spi 9) { rd with host := { rd.host with spi := { select := 7 }, slots := rd.host.slots.set 7 { tag := 0x0107, readCount := 1 } } } with
      | .next t => t.out | _ => []) = [.readData .spi 0x00000200] := by decide +kernel
/-- Chapter 16: with four buffers of 2,048 bytes a frame of 9,000 bytes is dropped whole, and one of 1,500 takes one. -/
theorem test_ring_short :
    ([9000, 1500] : List Nat).map (fun n => match exec (.rxRingDeliver 5 9) { rd with
        host := { rd.host with linkWidth := 1, busMaster := true, rings := rd.host.rings.set 5 { enable := true, logSize := 4, db := 4, queue := [{ data := List.replicate n 0#8 }] } }
        work := { rd.work with rings := rd.work.rings.set 5 { use := 1, bufCode := 3 } } } with
      | .next t => ((ringOf t 5).head, (ringOf t 5).ringShort) | _ => (9, 9)) = [(0, 1), (1, 0)] := by decide +kernel
/-- FIPS 180-4, FIPS 197 and the check value of CRC-32: the algorithms that the spec names. -/
theorem test_algorithms :
    sha256 (ascii "abc") = beBytes 32 0xba7816bf8f01cfea414140de5dae2223b00361a396177a9cb410ff61f20015ad ∧
    aesBlock ((List.range 16).map (BitVec.ofNat 8)) ((List.range 16).map fun k => BitVec.ofNat 8 (17 * k)) = beBytes 16 0x69c4e0d86a7b0430d8cdb78070b4c55a ∧
    crc32 (ascii "123456789") = 0xCBF43926 := by decide +kernel
/-- On an empty queue one tick of 1.6 ns passes, and the counter takes RATE_NOM (R33, R35). -/
theorem test_empty_queue_ticks : (match step rd with | .next t => (t.now, t.time.counter.total) | _ => (0, 0)) = (1600, 0x000199999999999A) := by
  decide +kernel

/-! Witnesses of the statements. -/

namespace Startup

def mcWait : Wait := { key := .mirroredCommit, opcode := 0x0103, req := { rq [] with src := .partner } }

/-- States and operands that meet the conditions of `Obligations.StepRunsTheFrontCommand`, one for each of its clauses. -/
theorem test_StepRunsTheFrontCommand_met :
    (∃ (c : Instr) (rest : List Instr) (s : State), s.pending = c :: rest) ∧
    (∃ (s : State), s.pending = []) :=
  ⟨⟨.ready 0, [], { rd with pending := [.ready 0] }, by decide +kernel⟩,
    ⟨rd, by decide +kernel⟩⟩

/-- States and operands that meet the conditions of `Obligations.DealerAnswersEveryPacket`, one for each of its clauses. -/
theorem test_DealerAnswersEveryPacket_met :
    (∃ (op : Nat) (q : Req) (s : State), handlerOf op = none ∧ startsAt op q s = true) ∧
    (∃ (op : Nat) (q : Req) (s : State), 
      let x := begin_ q.time s
      accepting x = true ∧ headerBad q = true ∧ isMirrored q = false ∧ x.host.queue = [] ∧ slotFree q x = true ∧ (started op q s).host.pcie.go = false ∧ (started op q s).host.spi.go = false) ∧
    (∃ (op : Nat) (q : Req) (s : State), 
      let x := begin_ q.time s
      accepting x = true ∧ queued op q x.host.queue = none ∧ usesSlot q = true ∧ (nth x.host.slots (slotOf q)).pending = true) ∧
    (∃ (q : Req) (s : State), isMirrored q = false ∧ usesSlot q = true ∧ slotOf q < s.host.slots.length) ∧
    (∃ q : Req, ∃ s : State, ∃ k, isMirrored q = false ∧ usesSlot q = true ∧ slotOf q < s.host.slots.length ∧ k ≠ slotOf q) :=
  ⟨⟨0x7777, rq [], rd, by decide +kernel⟩,
    ⟨0x0105, { rq [] with reserved := 1 }, rd, by decide +kernel⟩,
    ⟨0x0105, rq [], { rd with host := { slots := List.replicate 256 { pending := true } } }, by decide +kernel⟩,
    ⟨{ rq [] with tag := 0xFFFF }, rd, by decide +kernel⟩,
    ⟨rq [], rd, 1, by decide +kernel⟩⟩

/-- States and operands that meet the conditions of `Obligations.SystemReportsComplete`, one for each of its clauses. -/
theorem test_SystemReportsComplete_met :
    (∃ (q : Req) (s : State), startsAt 0x0100 q s = true ∧ fits q 0 []) ∧
    (∃ (q : Req) (s : State), startsAt 0x0101 q s = true ∧ fits q 4 [inF 0 1 0 1, rsvF 1 3]) ∧
    (∃ (q : Req) (s : State), startsAt 0x0104 q s = true ∧ fits q 0 []) ∧
    (∃ (q : Req) (s : State), startsAt 0x0105 q s = true ∧ (begin_ q.time s).host.queue = []) :=
  ⟨⟨rq [], rd, by decide +kernel⟩,
    ⟨rq (pk [(4,1)]), { rd with boot := { rd.boot with faults := [{ cause := 5 }] } }, by decide +kernel⟩,
    ⟨rq [], badShadow rd, by decide +kernel⟩,
    ⟨rq (pk [(4,9),(4,7)]), { rd with now := 5 }, by decide +kernel⟩⟩

/-- States and operands that meet the conditions of `Obligations.ConfigurationIsCommitted`, one for each of its clauses. -/
theorem test_ConfigurationIsCommitted_met :
    (∃ (q : Req) (s : State), startsAt 0x0103 q s = true ∧ fits q 4 [inF 0 1 0 2, rsvF 1 3] ∧ fld q.params 0 1 = 2) ∧
    (∃ (q : Req) (s : State), 
      let x := started 0x0103 q s
      startsAt 0x0103 q s = true ∧ fits q 4 [inF 0 1 0 2, rsvF 1 3] ∧ fld q.params 0 1 = 1 ∧ commitFails x x.shadow = none) ∧
    (∃ q : Req, ∃ s : State, ∃ st, ∃ op, 
      let x := started 0x0103 q s
      startsAt 0x0103 q s = true ∧ fits q 4 [inF 0 1 0 2, rsvF 1 3] ∧ fld q.params 0 1 = 1 ∧ commitFails x x.shadow = some (st, op)) ∧
    (∃ (q : Req) (s : State), 
      let x := started 0x0103 q s
      let y := nextTick x
      startsAt 0x0103 q s = true ∧ fits q 4 [inF 0 1 0 2, rsvF 1 3] ∧ fld q.params 0 1 = 0 ∧ (x.work.pair.mode ≠ 1 ∨ q.src ≠ .partner) ∧ commitFails y x.shadow = none) ∧
    (∃ q : Req, ∃ s : State, ∃ st, ∃ op, 
      let x := started 0x0103 q s
      let y := nextTick x
      startsAt 0x0103 q s = true ∧ fits q 4 [inF 0 1 0 2, rsvF 1 3] ∧ fld q.params 0 1 = 0 ∧ (x.work.pair.mode ≠ 1 ∨ q.src ≠ .partner) ∧ commitFails y x.shadow = some (st, op)) ∧
    (∃ (q : Req) (s : State), 
      let x := started 0x0103 q s
      startsAt 0x0103 q s = true ∧ fits q 4 [inF 0 1 0 2, rsvF 1 3] ∧ fld q.params 0 1 = 0 ∧ x.work.pair.mode = 1 ∧ q.src = .partner) ∧
    (∃ s : State, ∃ t : Nat, ∃ w : Wait, ∃ st, ∃ op, 
      let y : State := handFrom (waitUntil (t + 100000000) { s with out := [] })
      let z : State := { y with pair := { y.pair with commitFrom := none } }
      running s = true ∧ s.pair.commitFrom = some t ∧ s.host.waits = [w] ∧ w.key = .mirroredCommit ∧ commitFails z z.shadow = some (st, op)) ∧
    (∃ (s : State) (t : Nat) (w : Wait), 
      let y : State := handFrom (waitUntil (t + 100000000) { s with out := [] })
      let z : State := { y with pair := { y.pair with commitFrom := none } }
      running s = true ∧ s.pair.commitFrom = some t ∧ s.host.waits = [w] ∧ w.key = .mirroredCommit ∧ commitFails z z.shadow = none) :=
  ⟨⟨rq (pk [(4,2)]), badShadow rd, by decide +kernel⟩,
    ⟨rq (pk [(4,1)]), rd, by decide +kernel⟩,
    ⟨rq (pk [(4,1)]), badShadow rd, 0x11, 0x0E01, by decide +kernel⟩,
    ⟨rq (pk [(4,0)]), { rd with shadow := { rd.shadow with rec_ := { enable := false } } }, by decide +kernel⟩,
    ⟨rq (pk [(4,0)]), badShadow rd, 0x11, 0x0E01, by decide +kernel⟩,
    ⟨{ rq (pk [(4,0)]) with src := .partner }, inPair rd, by decide +kernel⟩,
    ⟨{ badShadow (inPair rd) with pair := { commitFrom := some 5 }, host := { waits := [mcWait] } }, 5, mcWait, 0x11, 0x0E01, by decide +kernel⟩,
    ⟨{ inPair rd with pair := { commitFrom := some 5 }, host := { waits := [mcWait] } }, 5, mcWait, by decide +kernel⟩⟩

/-- States and operands that meet the conditions of `Obligations.BlocksAreReset`, one for each of its clauses. -/
theorem test_BlocksAreReset_met :
    (∃ (q : Req) (s : State), 
      let b := fld q.params 0 1
      let i := fld q.params 1 1
      let x := started 0x0102 q s
      startsAt 0x0102 q s = true ∧ fits q 4 [inF 0 1 1 5, inF 1 1 0 (blockIndexMax b), rsvF 2 2] ∧ blockRefused b i x = true) ∧
    (∃ (q : Req) (s : State), 
      let b := fld q.params 0 1
      let i := fld q.params 1 1
      let x := started 0x0102 q s
      startsAt 0x0102 q s = true ∧ fits q 4 [inF 0 1 1 5, inF 1 1 0 (blockIndexMax b), rsvF 2 2] ∧ blockRefused b i x = false) ∧
    (∃ (t : Nat) (b : Nat) (i : Nat) (s : State) (w : Wait), 
      let x := begin_ t s
      running x = true ∧ x.host.waits.find? (fun w => w.key == .blockReset b i) = some w ∧ isMirrored w.req = false ∧ blockSettled b i x = true) :=
  ⟨⟨rq (pk [(1,4),(1,3),(2,0)]), rd, by decide +kernel⟩,
    ⟨rq (pk [(1,2),(1,0),(2,0)]), rd, by decide +kernel⟩,
    ⟨0, 2, 0, { rd with host := { waits := [{ key := .blockReset 2 0, opcode := 0x0102, req := rq [] }] }, tdc := { rd.tdc with calibrating := false } }, { key := .blockReset 2 0, opcode := 0x0102, req := rq [] }, by decide +kernel⟩⟩

end Startup

namespace Rates

/-- States and operands that meet the conditions of `Obligations.FrequencyOfRateWord`, one for each of its clauses. -/
theorem test_FrequencyOfRateWord_met :
    (∃ (f : Int), 0 ≤ f + 2 ^ 64) :=
  ⟨18446744073709551616, by decide +kernel⟩

/-- States and operands that meet the conditions of `Obligations.TickAddsTheIncrement`, one for each of its clauses. -/
theorem test_TickAddsTheIncrement_met :
    (∃ (s : State), s.pending = []) :=
  ⟨{ rd with now := 1599, time := { slewing := true, slewRem := -7, slewInc := 3 } }, by decide +kernel⟩

/-- States and operands that meet the conditions of `Obligations.TimeIsReadFromOneTick`, one for each of its clauses. -/
theorem test_TimeIsReadFromOneTick_met :
    (∃ (q : Req) (s : State), startsAt 0x0410 q s = true ∧ fits q 0 []) ∧
    (∃ (i : Iface) (t : Nat) (s : State), 
      let x := begin_ t s
      answers x i = true) :=
  ⟨⟨rq [], { rd with time := { counter := { sec := 9, ns := 999999999, frac := 5 }, valid := true } }, by decide +kernel⟩,
    ⟨.spi, 3, { rd with time := { counter := { sec := 2^48 - 1, ns := 999999999, frac := 5 }, valid := true } }, by decide +kernel⟩⟩

/-- States and operands that meet the conditions of `Obligations.TimeIsSetAndStepped`, one for each of its clauses. -/
theorem test_TimeIsSetAndStepped_met :
    (∃ (q : Req) (s : State), 
      let x := started 0x0411 q s
      let p := q.params
      startsAt 0x0411 q s = true ∧ fits q 32 [tsF 0, tsF 12, boundF 24] ∧ isDummy x = false ∧ tracking (tdpll x).state = false ∧ tsOfField (fld p 12 12) = 0) ∧
    (∃ (q : Req) (s : State), 
      let x := started 0x0411 q s
      let p := q.params
      startsAt 0x0411 q s = true ∧ fits q 32 [tsF 0, tsF 12, boundF 24] ∧ isDummy x = false ∧ tracking (tdpll x).state = false ∧ curTs x < tsOfField (fld p 12 12) ∧ x.time.pend = none) ∧
    (∃ (q : Req) (s : State), 
      let x := started 0x0412 q s
      let y := nextTick x
      let p := q.params
      startsAt 0x0412 q s = true ∧ fits q 24 (stepFields q.params) ∧ isDummy x = false ∧ tracking (tdpll x).state = false ∧ tsOfField (fld p 8 12) = 0 ∧ (fld p 20 4).testBit 0 = false ∧ stepOutOfRange (fldI p 0 8) y = false) ∧
    (∃ q : Req, ∃ s : State, ∃ c, 
      let x := started 0x0412 q s
      let p := q.params
      startsAt 0x0412 q s = true ∧ fits q 24 (stepFields q.params) ∧ isDummy x = false ∧ tracking (tdpll x).state = false ∧ (fld p 20 4).testBit 0 = true ∧ x.time.pend = some c) ∧
    (∃ (q : Req) (s : State), 
      let x := started 0x0412 q s
      startsAt 0x0412 q s = true ∧ fits q 24 (stepFields q.params) ∧ isDummy x = false ∧ tracking (tdpll x).state = true) ∧
    (∃ (s : State) (off : Int) (at_ : Nat), 
      let y := moveToCounter (at_ * 2 ^ 32) { s with out := [] }
      running s = true ∧ s.time.pend = some { kind := .step off, applyAt := at_ } ∧ stepOutOfRange off y = false) :=
  ⟨⟨rq (pk [(12,5 * 2^48 + 7),(12,0),(8,3)]), rd, by decide +kernel⟩,
    ⟨rq (pk [(12,5 * 2^48 + 7),(12,7 * 2^48),(8,3)]), rd, by decide +kernel⟩,
    ⟨rq (pk [(8,2^64 - 5),(12,0),(4,0)]), { rd with time := { counter := { sec := 9 } } }, by decide +kernel⟩,
    ⟨rq (pk [(8,0),(12,0),(4,1)]), { rd with time := { pend := some { kind := .step 4, applyAt := 9 } } }, ({ kind := .step 4, applyAt := 9 } : PendChange), by decide +kernel⟩,
    ⟨rq (pk [(8,5),(12,0),(4,0)]), { rd with dplls := { state := .locked } :: List.replicate 3 {} }, by decide +kernel⟩,
    ⟨{ rd with time := { pend := some { kind := .step 4, applyAt := 65536 } } }, 4, 65536, by decide +kernel⟩⟩

/-- States and operands that meet the conditions of `Obligations.SlewsRunAndEnd`, one for each of its clauses. -/
theorem test_SlewsRunAndEnd_met :
    (∃ (q : Req) (s : State), 
      let x := started 0x0413 q s
      let p := q.params
      let old := if x.time.slewing then x.time.slewRem else 0
      startsAt 0x0413 q s = true ∧ fits q 20 (slewFields q.params) ∧ isDummy x = false ∧ tracking (tdpll x).state = false ∧ (fld p 16 4).testBit 0 = false ∧ -(2 ^ 95) ≤ old + fldI p 0 8 * 2 ^ 32 ∧ old + fldI p 0 8 * 2 ^ 32 ≤ (2 ^ 63 - 1) * 2 ^ 32) ∧
    (∃ (q : Req) (s : State), 
      let x := started 0x0413 q s
      let p := q.params
      startsAt 0x0413 q s = true ∧ fits q 20 (slewFields q.params) ∧ isDummy x = false ∧ tracking (tdpll x).state = false ∧ (fld p 16 4).testBit 0 = true) ∧
    (∃ (s : State), running s = true ∧ s.time.slewing = true) :=
  ⟨⟨rq (pk [(8,5),(8,40960),(4,0)]), rd, by decide +kernel⟩,
    ⟨rq (pk [(8,0),(8,0),(4,1)]), { rd with time := { slewing := true, slewRem := -7, slewInc := 3 } }, by decide +kernel⟩,
    ⟨{ rd with time := { slewing := true, slewRem := -7, slewInc := 3 } }, by decide +kernel⟩⟩

/-- States and operands that meet the conditions of `Obligations.LeapTable`, one for each of its clauses. -/
theorem test_LeapTable_met :
    (∃ (q : Req) (s : State), startsAt 0x0414 q s = true ∧ fitsN q 16 (leapFields q.params) (leapCount q.params) 16 leapEntryFields ∧ fld q.params 3 1 = 0) ∧
    (∃ (q : Req) (s : State), 
      let x := started 0x0414 q s
      startsAt 0x0414 q s = true ∧ fitsN q 16 (leapFields q.params) (leapCount q.params) 16 leapEntryFields ∧ fld q.params 3 1 = 1 ∧ leapsOk (fldI q.params 0 2) none x.time.future = true) ∧
    (∃ (s : State) (e : LeapEntry) (es : List LeapEntry), running s = true ∧ s.time.future = e :: es) :=
  ⟨⟨rq (pk [(2,0),(1,0),(1,0),(4,0),(2,0),(6,0)]), { rd with time := { future := [{ leapTai := 9, newOffset := 38 }] } }, by decide +kernel⟩,
    ⟨rq (pk [(2,36),(1,0),(1,1),(4,0),(2,0),(6,0)]), rd, by decide +kernel⟩,
    ⟨{ rd with time := { future := [{ leapTai := 9, newOffset := 38 }, { leapTai := 19, newOffset := 39 }] } }, { leapTai := 9, newOffset := 38 }, [{ leapTai := 19, newOffset := 39 }], by decide +kernel⟩⟩

end Rates

namespace Dealer

/-- Source 0 as given, configured and with its policy as given. -/
def sr (c : RefCfg) (p : RefPol) (r : RefRun) : State :=
  { rd with work := { rd.work with refs := c :: List.replicate 97 {}, pols := p :: List.replicate 97 {} }, refs := r :: List.replicate 97 {} }

/-- A slate of sources 0 and 1, both PULSE inputs that are qualified, for a selector as given; time is valid. -/
def sl (b0 b1 : Nat) (c : SelCfg) (x : SelRun) : State :=
  { rd with
    time := { valid := true }
    work := { rd.work with sels := List.replicate 4 { c with slate := [{ ord := 0, bid := b0 }, { ord := 1, bid := b1 }] } }
    refs := { state := .qualified, qualifiedAt := 5 } :: { state := .qualified } :: List.replicate 96 {}
    sels := List.replicate 4 x }

def refParams : Bytes := pk [(2,256),(1,1),(1,0),(1,1),(1,0),(1,255),(1,0),(4,10000000),(4,1),(4,1),(4,0),(8,2^64-9),(8,77)]

def polParams (basis : Nat) : Bytes := pk [(2,0x603),(1,3),(1,15),(1,14),(1,0),(1,basis),(1,0),(4,11),(4,8),(4,55),(4,44),(8,1),(8,2),(8,3),(8,2^40-1),(8,0)]

def zda : Bytes := ascii "$GPZDA,120000.5,01,02,2020,00,00*53" ++ [13#8, 10#8]

/-- States and operands that meet the conditions of `Obligations.ReferencesAreConfigured`, one for each of its clauses. -/
theorem test_ReferencesAreConfigured_met :
    (∃ (q : Req) (s : State) (o : Nat), 
      let x := started 0x0300 q s
      let p := q.params
      let c : RefCfg := { enable := fld p 2 1 == 1, mode := fld p 3 1, edge := fld p 4 1, inputMode := fld p 5 1, glitchNs := fld p 6 1, todLabel := fld p 7 1, freqNum := fld p 8 4, freqDen := fld p 12 4, divider := fld p 16 4, todBaud := fld p 20 4, compensation := fldI p 24 8, claimed := fld p 32 8 }
      let refs := x.shadow.refs.set o c
      let tods := (List.range 12).filter fun k => (nth refs k).enable && (nth refs k).mode == 3
      startsAt 0x0300 q s = true ∧ fits q 40 (refCfgFields q.params) ∧ ordOf (fld p 0 2) = some o ∧ tods.length ≤ 1) ∧
    (∃ (q : Req) (s : State) (o : Nat), 
      let x := started 0x0300 q s
      let p := q.params
      let c : RefCfg := { enable := fld p 2 1 == 1, mode := fld p 3 1, edge := fld p 4 1, inputMode := fld p 5 1, glitchNs := fld p 6 1, todLabel := fld p 7 1, freqNum := fld p 8 4, freqDen := fld p 12 4, divider := fld p 16 4, todBaud := fld p 20 4, compensation := fldI p 24 8, claimed := fld p 32 8 }
      let refs := x.shadow.refs.set o c
      let tods := (List.range 12).filter fun k => (nth refs k).enable && (nth refs k).mode == 3
      startsAt 0x0300 q s = true ∧ fits q 40 (refCfgFields q.params) ∧ ordOf (fld p 0 2) = some o ∧ 1 < tods.length) ∧
    (∃ (q : Req) (s : State) (o : Nat), 
      let x := started 0x0302 q s
      let p := q.params
      startsAt 0x0302 q s = true ∧ fits q 64 (refPolFields q.params) ∧ ordOf (fld p 0 2) = some o ∧ (fld p 6 1 ≠ 1 ∨ x.shadow.meld.enable = true)) ∧
    (∃ (q : Req) (s : State) (o : Nat), 
      let x := started 0x0302 q s
      let p := q.params
      startsAt 0x0302 q s = true ∧ fits q 64 (refPolFields q.params) ∧ ordOf (fld p 0 2) = some o ∧ fld p 6 1 = 1 ∧ x.shadow.meld.enable = false) ∧
    (∃ (q : Req) (s : State) (o : Nat) (r : RefRun), 
      let x := started 0x0301 q s
      startsAt 0x0301 q s = true ∧ fits q 4 [F 0 2 (fun v => v == 0xFFFF || (ordOf v).isSome), inF 2 2 0 1] ∧ fld q.params 0 2 ≠ 0xFFFF ∧ ordOf (fld q.params 0 2) = some o ∧ x.refs[o]? = some r) ∧
    (∃ (q : Req) (s : State), startsAt 0x0301 q s = true ∧ fits q 4 [F 0 2 (fun v => v == 0xFFFF || (ordOf v).isSome), inF 2 2 0 1] ∧ fld q.params 0 2 = 0xFFFF) :=
  ⟨⟨rq refParams, rd, 0, by decide +kernel⟩,
    ⟨rq (pk [(2,257),(1,1),(1,3),(1,1),(1,0),(1,255),(1,0),(4,1),(4,1),(4,1),(4,9600),(8,2^64-9),(8,77)]), { rd with shadow := { rd.shadow with refs := { enable := true, mode := 3 } :: List.replicate 97 {} } }, 1, by decide +kernel⟩,
    ⟨rq (polParams 0), rd, 97, by decide +kernel⟩,
    ⟨rq (polParams 1), rd, 97, by decide +kernel⟩,
    ⟨rq (pk [(2,256),(2,1)]), sr {} {} { cause := 3, events := 7, lastCause := 5, freq := -9 }, 0, { cause := 3, events := 7, lastCause := 5, freq := -9 }, by decide +kernel⟩,
    ⟨rq (pk [(2,0xFFFF),(2,1)]), sr {} {} { events := 7 }, by decide +kernel⟩⟩

/-- States and operands that meet the conditions of `Obligations.SelectorsAreCommanded`, one for each of its clauses. -/
theorem test_SelectorsAreCommanded_met :
    (∃ (q : Req) (s : State), 
      let x := started 0x0310 q s
      let p := q.params
      let d := fld p 0 1
      let n := min 32 (fld p 3 1)
      startsAt 0x0310 q s = true ∧ fitsN q 16 [inF 0 1 0 3, inF 1 1 0 3, timerF 2, inF 3 1 0 32, anyF 4 4, whenF (d == 0) 8 8 0 (2 ^ 63 - 1)] n 4 (fun k => [F (16 + 4 * k) 2 (fun v => match ordOf v with | none => false | some o => freshSource p k && classFits x.shadow d o), anyF (18 + 4 * k) 1, inF (19 + 4 * k) 1 0 1])) ∧
    (∃ (q : Req) (s : State), 
      let x := started 0x0311 q s
      let p := q.params
      let act := fld p 1 1
      startsAt 0x0311 q s = true ∧ fits q 4 [inF 0 1 0 3, inF 1 1 0 2, whenF (act == 0) 2 1 0 31, rsvF 3 1] ∧ isDummy x = true) ∧
    (∃ (q : Req) (s : State), 
      let x := started 0x0311 q s
      let p := q.params
      let d := fld p 0 1
      let act := fld p 1 1
      let k := fld p 2 1
      let sl := (nth x.work.sels d).slate
      let bad := act = 0 ∧ (sl.length ≤ k ∨ (nth sl k).bid = 0 ∨ (nth sl k).lockout = true)
      startsAt 0x0311 q s = true ∧ fits q 4 [inF 0 1 0 3, inF 1 1 0 2, whenF (act == 0) 2 1 0 31, rsvF 3 1] ∧ isDummy x = false ∧ bad) ∧
    (∃ (q : Req) (s : State) (r : SelRun), 
      let x := started 0x0311 q s
      let y := nextTick x
      let p := q.params
      let d := fld p 0 1
      let act := fld p 1 1
      let k := fld p 2 1
      let sl := (nth x.work.sels d).slate
      let bad := act = 0 ∧ (sl.length ≤ k ∨ (nth sl k).bid = 0 ∨ (nth sl k).lockout = true)
      startsAt 0x0311 q s = true ∧ fits q 4 [inF 0 1 0 3, inF 1 1 0 2, whenF (act == 0) 2 1 0 31, rsvF 3 1] ∧ isDummy x = false ∧ ¬ bad ∧ y.sels[d]? = some r) ∧
    (∃ (q : Req) (s : State), startsAt 0x0312 q s = true ∧ fits q 4 [inF 0 1 0 3, rsvF 1 3]) ∧
    (∃ (q : Req) (s : State) (o : Nat), 
      let x := started 0x0313 q s
      let y := nextTick x
      let r := refOf y o
      startsAt 0x0313 q s = true ∧ fits q 4 [srcF 0, rsvF 2 2] ∧ ordOf (fld q.params 0 2) = some o ∧ (r.state = .wtr ∨ r.state = .qualifying) ∧ r.timer.isSome = true) ∧
    (∃ (q : Req) (s : State) (o : Nat), 
      let x := started 0x0313 q s
      let y := nextTick x
      let r := refOf y o
      startsAt 0x0313 q s = true ∧ fits q 4 [srcF 0, rsvF 2 2] ∧ ordOf (fld q.params 0 2) = some o ∧ (¬ (r.state = .wtr ∨ r.state = .qualifying) ∨ r.timer = none)) :=
  ⟨⟨rq (pk [(1,1),(1,3),(1,14),(1,2),(4,5),(8,0),(2,0x200),(1,255),(1,1),(2,0x100),(1,0),(1,0)]), rd, by decide +kernel⟩,
    ⟨rq (pk [(1,0),(1,1),(1,0),(1,0)]), inPair rd, by decide +kernel⟩,
    ⟨rq (pk [(1,3),(1,0),(1,31),(1,0)]), rd, by decide +kernel⟩,
    ⟨rq (pk [(1,0),(1,0),(1,1),(1,0)]), sl 3 4 {} {}, {}, by decide +kernel⟩,
    ⟨rq (pk [(1,3),(3,0)]), sl 3 4 {} { mode := .manual, pick := some 1, switchCount := 5 }, by decide +kernel⟩,
    ⟨rq (pk [(2,256),(2,0)]), sr {} {} { state := .wtr, timer := some 9 }, 0, by decide +kernel⟩,
    ⟨rq (pk [(2,256),(2,0)]), sr {} {} { state := .qualifying }, 0, by decide +kernel⟩⟩

/-- States and operands that meet the conditions of `Obligations.SelectorChoice`, one for each of its clauses. -/
theorem test_SelectorChoice_met :
    (∃ (s : State) (d : Nat), 
      let r := nth s.sels d
      (r.mode = .none ∨ eligibles s d = [])) ∧
    (∃ s : State, ∃ d : Nat, ∃ k, choose s d = some k) ∧
    (∃ s : State, ∃ d : Nat, ∃ k, k ∈ eligibles s d) ∧
    (∃ s : State, ∃ d : Nat, ∃ k, k ∈ eligibles s d ∧ d = 0) ∧
    (∃ s : State, ∃ d : Nat, ∃ k, 
      let c := nth s.work.sels d
      k ∈ eligibles s d ∧ d = 0 ∧ classOfSrc s.work (nth c.slate k).ord = .phase) ∧
    (∃ s : State, ∃ d : Nat, ∃ k, 
      let r := nth s.sels d
      r.mode = .manual ∧ r.pick = some k ∧ k ∈ eligibles s d) ∧
    (∃ s : State, ∃ d : Nat, ∃ k, 
      let c := nth s.work.sels d
      let r := nth s.sels d
      r.mode = .automatic ∧ c.revertive = false ∧ r.selected = some k ∧ k ∈ eligibles s d) ∧
    (∃ (s : State) (d : Nat), 
      let c := nth s.work.sels d
      let r := nth s.sels d
      r.mode = .automatic ∧ c.revertive = true ∧ (∀ e, e ∈ c.slate → e.bid < 256) ∧ eligibles s d ≠ []) ∧
    (∃ s : State, ∃ d : Nat, ∃ k, ∃ j, 
      let c := nth s.work.sels d
      let r := nth s.sels d
      r.mode = .automatic ∧ c.revertive = true ∧ (∀ e, e ∈ c.slate → e.bid < 256) ∧ choose s d = some k ∧ j ∈ eligibles s d) ∧
    (∃ s : State, ∃ d : Nat, ∃ k, 
      let c := nth s.work.sels d
      let r := nth s.sels d
      r.mode = .automatic ∧ c.revertive = true ∧ (∀ e, e ∈ c.slate → e.bid < 256) ∧ r.selected = some k ∧ k ∈ eligibles s d ∧ (∀ j, j ∈ eligibles s d → (nth c.slate k).bid ≤ (nth c.slate j).bid)) :=
  ⟨⟨sl 3 4 {} { mode := .none }, 0, by decide +kernel⟩,
    ⟨sl 3 4 {} {}, 0, 0, by decide +kernel⟩,
    ⟨sl 3 4 {} {}, 0, 1, by decide +kernel⟩,
    ⟨sl 3 4 {} {}, 0, 1, by decide +kernel⟩,
    ⟨sl 3 4 {} {}, 0, 1, by decide +kernel⟩,
    ⟨sl 3 4 {} { mode := .manual, pick := some 1 }, 0, 1, by decide +kernel⟩,
    ⟨sl 3 4 { revertive := false } { selected := some 1 }, 2, 1, by decide +kernel⟩,
    ⟨sl 255 255 {} {}, 1, by decide +kernel⟩,
    ⟨sl 3 4 {} {}, 0, 0, 1, by decide +kernel⟩,
    ⟨sl 4 4 {} { selected := some 1 }, 0, 1, by decide +kernel⟩⟩

/-- States and operands that meet the conditions of `Obligations.ReferenceEvents`, one for each of its clauses. -/
theorem test_ReferenceEvents_met :
    (∃ (src : Nat) (t : Nat) (w : Nat) (o : Nat) (s : State) (r : RefRun), 
      let x := begin_ t s
      let c := nth x.work.refs o
      ordOf src = some o ∧ kindOf o = .refin ∧ running x = true ∧ x.refs[o]? = some r ∧ r.state ≠ .disabled ∧ c.mode = 0 ∧ c.glitchNs ≠ 0 ∧ w < c.glitchNs * 1000) ∧
    (∃ (src : Nat) (t : Nat) (w : Nat) (o : Nat) (s : State) (r : RefRun), 
      let x := begin_ t s
      let c := nth x.work.refs o
      let p := 1000000000000 * max 1 c.freqDen * 65536 / (max 1 c.freqNum * 1000)
      ordOf src = some o ∧ kindOf o = .refin ∧ running x = true ∧ x.refs[o]? = some r ∧ r.state ≠ .disabled ∧ c.mode = 0 ∧ (c.glitchNs = 0 ∨ c.glitchNs * 1000 ≤ w) ∧ 0 < p) ∧
    (∃ (t : Nat) (o : Nat) (ok : Bool) (b : Bytes) (s : State) (r : RefRun), 
      let x := begin_ t s
      running s = true ∧ todPin x = some o ∧ x.refs[o]? = some r ∧ (ok = false ∨ parseZda b = none ∨ r.pulsePs = none)) ∧
    (∃ t : Nat, ∃ o : Nat, ∃ ok : Bool, ∃ b : Bytes, ∃ s : State, ∃ r : RefRun, ∃ utc, ∃ p, 
      let x := begin_ t s
      running s = true ∧ todPin x = some o ∧ x.refs[o]? = some r ∧ ok = true ∧ parseZda b = some utc ∧ r.pulsePs = some p ∧ p + 10000000000 ≤ x.now ∧ x.now ≤ p + 900000000000 ∧ (nth x.work.refs o).todLabel = 1) ∧
    (∃ t : Nat, ∃ o : Nat, ∃ ok : Bool, ∃ b : Bytes, ∃ s : State, ∃ r : RefRun, ∃ utc, ∃ p, ∃ w, 
      let x := begin_ t s
      running s = true ∧ todPin x = some o ∧ x.refs[o]? = some r ∧ ok = true ∧ parseZda b = some utc ∧ r.pulsePs = some p ∧ p + 10000000000 ≤ x.now ∧ x.now ≤ p + 900000000000 ∧ (nth x.work.refs o).todLabel = 0 ∧ r.awaiting = some w) ∧
    (∃ (src : Nat) (o : Nat) (e : Nat) (s : State) (r : RefRun), 
      let pol := nth s.work.pols o
      running s = true ∧ ordOf src = some o ∧ kindOf o = .refin ∧ (nth s.work.refs o).mode ≠ 1 ∧ s.refs[o]? = some r ∧ r.state ≠ .disabled ∧ r.expected = some e ∧ r.misses + 1 < pol.losCount) ∧
    (∃ (src : Nat) (o : Nat) (e : Nat) (s : State) (r : RefRun), 
      let pol := nth s.work.pols o
      running s = true ∧ ordOf src = some o ∧ kindOf o = .refin ∧ (nth s.work.refs o).mode ≠ 1 ∧ s.refs[o]? = some r ∧ r.state ≠ .disabled ∧ r.expected = some e ∧ pol.losCount ≤ r.misses + 1) ∧
    (∃ (src : Nat) (o : Nat) (e : Nat) (s : State) (r : RefRun), running s = true ∧ ordOf src = some o ∧ classOfSrc s.work o = .freq ∧ s.refs[o]? = some r ∧ r.state ≠ .disabled ∧ r.expected = some e) ∧
    (∃ (src : Nat) (o : Nat) (s : State) (r : RefRun), running s = true ∧ ordOf src = some o ∧ s.refs[o]? = some r ∧ r.state ≠ .disabled ∧ r.hasSample = true ∧ r.winUpdates + 1 < 10) ∧
    (∃ (src : Nat) (o : Nat) (d : Nat) (s : State) (r : RefRun), running s = true ∧ ordOf src = some o ∧ s.refs[o]? = some r ∧ r.timer = some d) ∧
    (∃ (src : Nat) (o : Nat) (d : Nat) (s : State) (r : RefRun), running s = true ∧ ordOf src = some o ∧ s.refs[o]? = some r ∧ r.timer = some d ∧ r.state = .qualifying) ∧
    (∃ (src : Nat) (o : Nat) (d : Nat) (s : State) (r : RefRun), running s = true ∧ ordOf src = some o ∧ s.refs[o]? = some r ∧ r.timer = some d ∧ r.state = .wtr) ∧
    (∃ (d : Nat) (a : Nat) (b : Nat) (ph : Bool) (s : State) (p : SplitPair) (r : SelRun), 
      let is := fun (p : SplitPair) => p.a == a && p.b == b && p.byPhase == ph && !p.raised
      running s = true ∧ s.sels[d]? = some r ∧ r.splits.find? is = some p) :=
  ⟨⟨256, 5, 999, 0, sr { glitchNs := 1 } {} { state := .failed }, { state := .failed }, by decide +kernel⟩,
    ⟨256, 5, 1000, 0, sr { glitchNs := 1 } {} { state := .failed }, { state := .failed }, by decide +kernel⟩,
    ⟨0, 0, false, zda, sr { enable := true, mode := 3 } {} { pulsePs := some 0 }, { pulsePs := some 0 }, by decide +kernel⟩,
    ⟨900000000000, 0, true, zda, sr { enable := true, mode := 3, todLabel := 1 } {} { pulsePs := some 0 }, { pulsePs := some 0 }, utcCount 2020 2 1 12 0 0, 0, by decide +kernel⟩,
    ⟨10000000000, 0, true, zda, sr { enable := true, mode := 3 } {} { pulsePs := some 0, awaiting := some (TodPulse.mk 5 0 0 false), lastLabel := some 7 }, { pulsePs := some 0, awaiting := some (TodPulse.mk 5 0 0 false), lastLabel := some 7 }, utcCount 2020 2 1 12 0 0, 0, (TodPulse.mk 5 0 0 false), by decide +kernel⟩,
    ⟨256, 0, 77, sr {} {} { state := .qualified, expected := some 77, misses := 1 }, { state := .qualified, expected := some 77, misses := 1 }, by decide +kernel⟩,
    ⟨256, 0, 77, sr {} {} { state := .qualified, expected := some 77, misses := 2 }, { state := .qualified, expected := some 77, misses := 2 }, by decide +kernel⟩,
    ⟨256, 0, 77, sr { mode := 1 } {} { state := .qualified, expected := some 77 }, { state := .qualified, expected := some 77 }, by decide +kernel⟩,
    ⟨256, 0, sr {} {} { state := .qualified, hasSample := true, winUpdates := 8 }, { state := .qualified, hasSample := true, winUpdates := 8 }, by decide +kernel⟩,
    ⟨256, 0, 77, sr {} {} { state := .wtr, timer := some 77 }, { state := .wtr, timer := some 77 }, by decide +kernel⟩,
    ⟨256, 0, 77, sr {} {} { state := .qualifying, timer := some 77 }, { state := .qualifying, timer := some 77 }, by decide +kernel⟩,
    ⟨256, 0, 77, sr {} {} { state := .wtr, timer := some 77 }, { state := .wtr, timer := some 77 }, by decide +kernel⟩,
    ⟨0, 0, 1, true, sl 4 4 {} { splits := [{ a := 0, b := 1, byPhase := true, since := 7 }] }, { a := 0, b := 1, byPhase := true, since := 7 }, { splits := [{ a := 0, b := 1, byPhase := true, since := 7 }] }, by decide +kernel⟩⟩

end Dealer

namespace Time

def dpllParams (d fl : Nat) : Bytes := pk [(1,d),(1,fl),(1,3),(1,0),(1,14),(1,0),(2,512),(4,100),(4,0),(8,655360),(8,40960),(8,1844674407370955),(8,5),(4,6),(4,0),(8,3),(8,4),(8,2^40-1)]

def holdParams (clock : Nat) : Bytes := pk [(2,clock),(1,7),(1,0),(2,8760),(2,0),(8,1),(8,2),(8,2^64-1),(1,1),(1,15),(1,2),(1,168),(4,1200),(4,9),(1,12),(1,0),(1,1),(1,5),(12,2^95),(4,0),(8,33)]

/-- Loop d as given. -/
def dp (d : Nat) (r : DpllRun) : State := { rd with dplls := (List.replicate 4 {}).set d r }

/-- Loop 0 as given, with the holdover part as given and steering on. -/
def steer (c : HoldCfg) (h : HoldRun) : State :=
  { dp 0 { state := .locked } with hold := h, work := { rd.work with hold := { c with steerMode := 1, steerPeriod := 1, steerMax := 5, ack := [6#8] } } }

def frq : DpllRun := { state := .locked, estStart := some 5, lastEst := some (2^60), points := [{ epoch := 0, stamp := 0, err := 0 }, { epoch := 0, stamp := 9, err := 0 }] }

def withFreq (f : Int) (s : State) : State := { s with meld := { s.meld with slots := s.meld.slots.set 0 { est := { freq := f } } } }

/-- Loop d as given, which had candidate 0 and has none now. -/
def left (d : Nat) (r : DpllRun) : State := { dp d r with sels := List.replicate 4 { selected := some 0, switchCount := 4 } }

def inHist : DpllRun := { state := .locked, acqSince := some 0, rateHist := [(0, 450359962737051)] }

def ownSource (s : State) : State := { s with work := { s.work with dplls := List.replicate 4 { holdSource := 1 } } }

/-- States and operands that meet the conditions of `Obligations.LoopAndHoldoverCommands`, one for each of its clauses. -/
theorem test_LoopAndHoldoverCommands_met :
    (∃ (q : Req) (s : State), 
      let x := started 0x0400 q s
      let p := q.params
      let c : DpllCfg := { returnStep := (fld p 1 1).testBit 0, holdSource := b2n ((fld p 1 1).testBit 1), holdAvg := fld p 2 1, holdGuard := fld p 3 1, lockTime := fld p 4 1, damping := fld p 6 2, bw := fld p 8 4, acqBw := fld p 12 4, lockPhase := fld p 16 8, slewLimit := fld p 24 8, returnSlew := fld p 32 8, freqSlew := fld p 40 8, freqStepDetect := fld p 48 4, holdoverSpec := fld p 56 8, cat1 := fld p 64 8, cat2 := fld p 72 8 }
      let bad := (c.holdSource = 1 ∧ x.shadow.meld.enable = false) ∨ (c.holdSource = 0 ∧ x.shadow.hold.holdClock ≠ 0)
      startsAt 0x0400 q s = true ∧ fits q 80 (dpllFields q.params) ∧ ¬ bad) ∧
    (∃ (q : Req) (s : State), 
      let x := started 0x0400 q s
      let p := q.params
      let c : DpllCfg := { returnStep := (fld p 1 1).testBit 0, holdSource := b2n ((fld p 1 1).testBit 1), holdAvg := fld p 2 1, holdGuard := fld p 3 1, lockTime := fld p 4 1, damping := fld p 6 2, bw := fld p 8 4, acqBw := fld p 12 4, lockPhase := fld p 16 8, slewLimit := fld p 24 8, returnSlew := fld p 32 8, freqSlew := fld p 40 8, freqStepDetect := fld p 48 4, holdoverSpec := fld p 56 8, cat1 := fld p 64 8, cat2 := fld p 72 8 }
      let bad := (c.holdSource = 1 ∧ x.shadow.meld.enable = false) ∨ (c.holdSource = 0 ∧ x.shadow.hold.holdClock ≠ 0)
      startsAt 0x0400 q s = true ∧ fits q 80 (dpllFields q.params) ∧ bad) ∧
    (∃ (q : Req) (s : State), startsAt 0x0401 q s = true ∧ fits q 4 [inF 0 1 0 3, rsvF 1 3]) ∧
    (∃ (q : Req) (s : State), 
      let x := started 0x0420 q s
      let p := q.params
      let c : HoldCfg := { holdClock := fld p 0 2, atomic := (fld p 2 1).testBit 0, useLearned := (fld p 2 1).testBit 1, resetLearning := (fld p 2 1).testBit 2, learnHours := fld p 4 2, aSup := fld p 8 8, dSup := fld p 16 8, qSup := fld p 24 8, steerMode := fld p 32 1, steerExp := fld p 33 1, relative := (fld p 34 1).testBit 0, ackRequired := (fld p 34 1).testBit 1, steerPeriod := fld p 35 1, oscBaud := fld p 36 4, steerMax := fld p 40 4, steerTol := fld p 47 1, pref := slice p 48 (fld p 44 1), suffix := slice p 60 (fld p 45 1), ack := slice p 64 (fld p 46 1) }
      startsAt 0x0420 q s = true ∧ fits q 72 (holdFields q.params) ∧ meldSlotOf x.shadow c.holdClock ≠ none) ∧
    (∃ (q : Req) (s : State), 
      let x := started 0x0420 q s
      let p := q.params
      let c : HoldCfg := { holdClock := fld p 0 2, atomic := (fld p 2 1).testBit 0, useLearned := (fld p 2 1).testBit 1, resetLearning := (fld p 2 1).testBit 2, learnHours := fld p 4 2, aSup := fld p 8 8, dSup := fld p 16 8, qSup := fld p 24 8, steerMode := fld p 32 1, steerExp := fld p 33 1, relative := (fld p 34 1).testBit 0, ackRequired := (fld p 34 1).testBit 1, steerPeriod := fld p 35 1, oscBaud := fld p 36 4, steerMax := fld p 40 4, steerTol := fld p 47 1, pref := slice p 48 (fld p 44 1), suffix := slice p 60 (fld p 45 1), ack := slice p 64 (fld p 46 1) }
      startsAt 0x0420 q s = true ∧ fits q 72 (holdFields q.params) ∧ meldSlotOf x.shadow c.holdClock = none) ∧
    (∃ (q : Req) (s : State), startsAt 0x0421 q s = true ∧ fits q 0 []) ∧
    (∃ (q : Req) (s : State) (o : Nat), 
      let x := started 0x0422 q s
      startsAt 0x0422 q s = true ∧ fits q 4 [srcF 0, inF 2 1 0 1, rsvF 3 1] ∧ ordOf (fld q.params 0 2) = some o ∧ isDummy x = true) ∧
    (∃ (q : Req) (s : State) (o : Nat), 
      let x := started 0x0422 q s
      let y := nextTick x
      startsAt 0x0422 q s = true ∧ fits q 4 [srcF 0, inF 2 1 0 1, rsvF 3 1] ∧ ordOf (fld q.params 0 2) = some o ∧ isDummy x = false ∧ (refOf y o).state ≠ .suspect) ∧
    (∃ (q : Req) (s : State) (o : Nat), 
      let x := started 0x0422 q s
      let y := nextTick x
      startsAt 0x0422 q s = true ∧ fits q 4 [srcF 0, inF 2 1 0 1, rsvF 3 1] ∧ ordOf (fld q.params 0 2) = some o ∧ isDummy x = false ∧ (refOf y o).state = .suspect) :=
  ⟨⟨rq (dpllParams 0 1), rd, by decide +kernel⟩,
    ⟨rq (dpllParams 0 3), rd, by decide +kernel⟩,
    ⟨rq (pk [(1,3),(3,0)]), dp 3 { state := .locked, lockCount := 9, holdFreq := -3, phaseErr := -5 }, by decide +kernel⟩,
    ⟨rq (holdParams 0), rd, by decide +kernel⟩,
    ⟨rq (holdParams 256), rd, by decide +kernel⟩,
    ⟨rq [], { rd with hold := { learned := true, aLearned := 5, steerCount := 7 } }, by decide +kernel⟩,
    ⟨rq (pk [(2,256),(1,0),(1,0)]), inPair rd, 0, by decide +kernel⟩,
    ⟨rq (pk [(2,256),(1,0),(1,0)]), rd, 0, by decide +kernel⟩,
    ⟨rq (pk [(2,256),(1,1),(1,0)]), { rd with refs := { state := .suspect, phase := -9 } :: List.replicate 97 {} }, 0, by decide +kernel⟩⟩

/-- States and operands that meet the conditions of `Obligations.LoopsLockAndLearn`, one for each of its clauses. -/
theorem test_LoopsLockAndLearn_met :
    (∃ (d : Nat) (t0 : Nat) (s : State) (r : DpllRun), running s = true ∧ s.dplls[d]? = some r ∧ r.lockSince = some t0 ∧ (d = 0 → isDummy s = false) ∧ d < 4 ∧ (r.state = .acquiring ∨ (r.state = .returning ∧ r.returnSlewing = false))) ∧
    (∃ (s : State), running s = true ∧ isDummy s = true) ∧
    (∃ (d : Nat) (t0 : Nat) (o : Nat) (s : State) (r : DpllRun), running s = true ∧ s.dplls[d]? = some r ∧ r.estStart = some t0 ∧ (nth s.sels d).selectedOrd = some o ∧ tracking r.state = true ∧ (r.lastEst = none ∨ slopeOf r.points = none)) ∧
    (∃ d : Nat, ∃ t0 : Nat, ∃ o : Nat, ∃ s : State, ∃ r : DpllRun, ∃ e, ∃ p, running s = true ∧ s.dplls[d]? = some r ∧ r.estStart = some t0 ∧ (nth s.sels d).selectedOrd = some o ∧ tracking r.state = true ∧ slopeOf r.points = some e ∧ r.lastEst = some p ∧ (nth s.work.dplls d).freqStepDetect ≠ 0 ∧ (nth s.work.dplls d).freqStepDetect * 2 ^ 24 ≤ (e - p).natAbs) ∧
    (∃ (s : State) (t0 : Nat), running s = true ∧ s.hold.learnSince = some t0 ∧ s.hold.learned = false) ∧
    (∃ (s : State), running s = true) :=
  ⟨⟨0, 5, dp 0 { state := .acquiring, lockSince := some 5 }, { state := .acquiring, lockSince := some 5 }, by decide +kernel⟩,
    ⟨inPair rd, by decide +kernel⟩,
    ⟨0, 5, 0, { dp 0 { state := .locked, estStart := some 5 } with sels := List.replicate 4 { selectedOrd := some 0 } }, { state := .locked, estStart := some 5 }, by decide +kernel⟩,
    ⟨0, 5, 0, { dp 0 frq with sels := List.replicate 4 { selectedOrd := some 0 } }, frq, (0 : Int), (2^60 : Int), by decide +kernel⟩,
    ⟨{ dp 0 { state := .locked } with hold := { learnSince := some 7 } }, 7, by decide +kernel⟩,
    ⟨rd, by decide +kernel⟩⟩

/-- States and operands that meet the conditions of `Obligations.HoldoverBegins`, one for each of its clauses. -/
theorem test_HoldoverBegins_met :
    (∃ (k : Nat) (s : State) (r : DpllRun) (v : SelRun), isDummy s = false ∧ s.dplls[0]? = some r ∧ s.sels[0]? = some v ∧ v.selected = some k ∧ choose s 0 = none ∧ tracking r.state = true) ∧
    (∃ (k : Nat) (s : State) (r : DpllRun) (v : SelRun), isDummy s = false ∧ s.dplls[0]? = some r ∧ s.sels[0]? = some v ∧ v.selected = some k ∧ choose s 0 = none ∧ tracking r.state = true ∧ s.time.slewing = true ∧ s.time.slewOwner = .tdpll) ∧
    (∃ (k : Nat) (s : State) (r : DpllRun) (v : SelRun), 
      let c := nth s.work.dplls 0
      isDummy s = false ∧ s.dplls[0]? = some r ∧ s.sels[0]? = some v ∧ v.selected = some k ∧ choose s 0 = none ∧ tracking r.state = true ∧ c.holdSource ≠ 0) ∧
    (∃ k : Nat, ∃ s : State, ∃ r : DpllRun, ∃ v : SelRun, ∃ w, 
      let c := nth s.work.dplls 0
      isDummy s = false ∧ s.dplls[0]? = some r ∧ s.sels[0]? = some v ∧ v.selected = some k ∧ choose s 0 = none ∧ tracking r.state = true ∧ c.holdSource = 0 ∧ meanRate r.rateHist (max (r.acqSince.getD s.now) (s.now - holdGuardPs c.holdGuard - holdAvgPs c.holdAvg)) (s.now - holdGuardPs c.holdGuard) = some w ∧ rateMin ≤ w ∧ w ≤ rateMax) ∧
    (∃ (d : Nat) (k : Nat) (s : State) (r : DpllRun) (v : SelRun), 0 < d ∧ d < 4 ∧ isDummy s = false ∧ s.dplls[d]? = some r ∧ s.sels[d]? = some v ∧ v.selected = some k ∧ choose s d = none ∧ tracking r.state = true) ∧
    (∃ (d : Nat) (k : Nat) (s : State) (r : DpllRun) (v : SelRun), 0 < d ∧ d < 4 ∧ isDummy s = false ∧ s.dplls[d]? = some r ∧ s.sels[d]? = some v ∧ v.selected = some k ∧ choose s d = none ∧ tracking r.state = true ∧ r.everLocked = true) ∧
    (∃ (d : Nat) (k : Nat) (s : State) (r : DpllRun) (v : SelRun), 0 < d ∧ d < 4 ∧ isDummy s = false ∧ s.dplls[d]? = some r ∧ s.sels[d]? = some v ∧ v.selected = some k ∧ choose s d = none ∧ tracking r.state = true ∧ r.everLocked = false) ∧
    (∃ (d : Nat) (k : Nat) (s : State) (r : DpllRun) (v : SelRun), 0 < d ∧ d < 4 ∧ isDummy s = false ∧ s.dplls[d]? = some r ∧ s.sels[d]? = some v ∧ v.selected = some k ∧ choose s d = none ∧ tracking r.state = true ∧ r.everLocked = false ∧ s.time.fdomRate.length = 3) :=
  ⟨⟨0, left 0 { state := .acquiring }, { state := .acquiring }, { selected := some 0, switchCount := 4 }, by decide +kernel⟩,
    ⟨0, { left 0 { state := .returning } with time := { slewing := true, slewOwner := .tdpll, slewRem := 5 } }, { state := .returning }, { selected := some 0, switchCount := 4 }, by decide +kernel⟩,
    ⟨0, ownSource (left 0 inHist), inHist, { selected := some 0, switchCount := 4 }, by decide +kernel⟩,
    ⟨0, { left 0 inHist with now := 200 * 10 ^ 12 }, inHist, { selected := some 0, switchCount := 4 }, 450359962737051, by decide +kernel⟩,
    ⟨1, 0, left 1 { state := .acquiring }, { state := .acquiring }, { selected := some 0, switchCount := 4 }, by decide +kernel⟩,
    ⟨3, 0, left 3 { state := .locked, everLocked := true }, { state := .locked, everLocked := true }, { selected := some 0, switchCount := 4 }, by decide +kernel⟩,
    ⟨1, 0, left 1 { state := .acquiring }, { state := .acquiring }, { selected := some 0, switchCount := 4 }, by decide +kernel⟩,
    ⟨1, 0, { left 1 { state := .acquiring } with time := { fdomRate := [1, 2, 3] } }, { state := .acquiring }, { selected := some 0, switchCount := 4 }, by decide +kernel⟩⟩

/-- States and operands that meet the conditions of `Obligations.OscillatorIsSteered`, one for each of its clauses. -/
theorem test_OscillatorIsSteered_met :
    (∃ (s : State) (d : Nat), running s = true ∧ s.hold.steerAt = some d) ∧
    (∃ (s : State) (d : Nat), 
      let y := moveTo d { s with out := [] }
      let c := s.work.hold
      let v := steerValue y
      running s = true ∧ s.hold.steerAt = some d ∧ c.steerMode = 1 ∧ (tdpll s).state = .locked ∧ s.hold.learned = true ∧ isDummy s = false ∧ v ≠ 0 ∧ s.hold.steerSending = none) ∧
    (∃ (s : State) (d : Nat), 
      let y := moveTo d { s with out := [] }
      let c := s.work.hold
      let v := steerValue y
      running s = true ∧ s.hold.steerAt = some d ∧ (c.steerMode ≠ 1 ∨ (tdpll s).state ≠ .locked ∨ s.hold.learned = false ∨ isDummy s = true ∨ v = 0 ∨ s.hold.steerSending ≠ none)) ∧
    (∃ (t : Nat) (s : State) (step : Int) (k : Nat) (m : MeldMember), 
      let x := begin_ t s
      running s = true ∧ x.hold.steerSending = some step ∧ meldSlotOf x.work x.work.hold.holdClock = some k ∧ x.meld.slots[k]? = some m ∧ x.work.hold.ackRequired = true) ∧
    (∃ (t : Nat) (s : State) (step : Int) (k : Nat) (m : MeldMember), 
      let x := begin_ t s
      running s = true ∧ x.hold.steerSending = some step ∧ meldSlotOf x.work x.work.hold.holdClock = some k ∧ x.meld.slots[k]? = some m ∧ x.work.hold.ackRequired = false) ∧
    (∃ (t : Nat) (by_ : Nat) (b : Bytes) (s : State) (k : Nat) (m : MeldMember), 
      let x := begin_ t s
      running s = true ∧ x.hold.steerAckBy = some by_ ∧ x.now ≤ by_ ∧ meldSlotOf x.work x.work.hold.holdClock = some k ∧ x.meld.slots[k]? = some m ∧ b = x.work.hold.ack) ∧
    (∃ (t : Nat) (by_ : Nat) (b : Bytes) (s : State) (k : Nat) (m : MeldMember), 
      let x := begin_ t s
      running s = true ∧ x.hold.steerAckBy = some by_ ∧ x.now ≤ by_ ∧ meldSlotOf x.work x.work.hold.holdClock = some k ∧ x.meld.slots[k]? = some m ∧ b ≠ x.work.hold.ack) ∧
    (∃ (s : State) (d : Nat), running s = true ∧ s.hold.steerAckBy = some d) :=
  ⟨⟨steer {} { learned := true, steerAt := some 99 }, 99, by decide +kernel⟩,
    ⟨withFreq (3 * 2^64) (steer {} { learned := true, steerAt := some 99 }), 99, by decide +kernel⟩,
    ⟨withFreq (3 * 2^64) (steer {} { steerAt := some 99 }), 99, by decide +kernel⟩,
    ⟨0, steer { ackRequired := true } { steerSending := some (-4) }, -4, 0, {}, by decide +kernel⟩,
    ⟨0, steer {} { steerSending := some (-4) }, -4, 0, {}, by decide +kernel⟩,
    ⟨0, 7, [6#8], steer {} { steerAckBy := some 7 }, 0, {}, by decide +kernel⟩,
    ⟨7000, 7000, [], steer {} { steerAckBy := some 7000 }, 0, {}, by decide +kernel⟩,
    ⟨steer {} { steerAckBy := some 7000, learned := true }, 7000, by decide +kernel⟩⟩

end Time

namespace Sources

def slotParams (slot id fl : Nat) : Bytes := pk [(1,slot),(1,0),(2,id),(1,fl),(3,0),(8,if slot = 0 ∨ id = 0 then 0 else 2^63-1),(8,if id = 0 ∧ slot ≠ 0 then 0 else 5),(8,0),(8,0),(8,0),(8,0)]

/-- An enabled Meld with source 0 in slot 1. -/
def md (m : MeldRun) : State :=
  { rd with meld := m, work := { rd.work with meld := { enable := true }, meldSlots := rd.work.meldSlots.set 1 { sourceId := 256, ensemble := true, q1 := 5 } } }

/-- States and operands that meet the conditions of `Obligations.MeldAndBoundCommands`, one for each of its clauses. -/
theorem test_MeldAndBoundCommands_met :
    (∃ (q : Req) (s : State), 
      let x := started 0x0500 q s
      let p := q.params
      let needed := (∃ d, d ∈ x.shadow.dplls ∧ d.holdSource = 1) ∨ (∃ r, r ∈ x.shadow.pols ∧ r.monBasis = 1)
      startsAt 0x0500 q s = true ∧ fits q 16 [inF 0 1 0 1, inF 1 1 32 255, inF 2 2 1 65535, inF 4 1 1 255, inF 5 1 16 255, inF 6 1 16 255, timerF 7, rsvF 8 8] ∧ (fld p 0 1 = 1 ∨ ¬ needed)) ∧
    (∃ (q : Req) (s : State), 
      let x := started 0x0500 q s
      let p := q.params
      let needed := (∃ d, d ∈ x.shadow.dplls ∧ d.holdSource = 1) ∨ (∃ r, r ∈ x.shadow.pols ∧ r.monBasis = 1)
      startsAt 0x0500 q s = true ∧ fits q 16 [inF 0 1 0 1, inF 1 1 32 255, inF 2 2 1 65535, inF 4 1 1 255, inF 5 1 16 255, inF 6 1 16 255, timerF 7, rsvF 8 8] ∧ fld p 0 1 = 0 ∧ needed) ∧
    (∃ (q : Req) (s : State), 
      let x := started 0x0501 q s
      let p := q.params
      let slot := fld p 0 1
      let old := (nth x.shadow.meldSlots slot).sourceId
      let bad := slot ≠ 0 ∧ old ≠ 0 ∧ old = x.shadow.hold.holdClock ∧ fld p 2 2 ≠ old ∧ (tdpll x).state ≠ .holdover
      startsAt 0x0501 q s = true ∧ fits q 56 (meldSlotFields x.shadow p) ∧ ¬ bad) ∧
    (∃ (q : Req) (s : State), 
      let x := started 0x0501 q s
      let p := q.params
      let slot := fld p 0 1
      let old := (nth x.shadow.meldSlots slot).sourceId
      let bad := slot ≠ 0 ∧ old ≠ 0 ∧ old = x.shadow.hold.holdClock ∧ fld p 2 2 ≠ old ∧ (tdpll x).state ≠ .holdover
      startsAt 0x0501 q s = true ∧ fits q 56 (meldSlotFields x.shadow p) ∧ bad) ∧
    (∃ (q : Req) (s : State), startsAt 0x0502 q s = true ∧ fits q 0 []) ∧
    (∃ (q : Req) (s : State), startsAt 0x0510 q s = true ∧ fits q 4 [F 0 1 (fun v => decide (v < 16) || v == 0xFF), rsvF 1 3]) ∧
    (∃ (q : Req) (s : State), 
      let x := started 0x0511 q s
      let p := q.params
      startsAt 0x0511 q s = true ∧ fits q 32 (boundPolicyFields x.shadow p)) :=
  ⟨⟨rq (pk [(1,1),(1,255),(2,65535),(1,1),(1,16),(1,255),(1,14),(1,0),(7,0)]), rd, by decide +kernel⟩,
    ⟨rq (pk [(1,0),(1,255),(2,65535),(1,1),(1,16),(1,255),(1,14),(1,0),(7,0)]), { rd with shadow := { rd.shadow with pols := { monBasis := 1 } :: List.replicate 97 {} } }, by decide +kernel⟩,
    ⟨rq (slotParams 7 256 3), rd, by decide +kernel⟩,
    ⟨rq (slotParams 1 0 0), { rd with shadow := { rd.shadow with hold := { holdClock := 256 }, meldSlots := rd.shadow.meldSlots.set 1 { sourceId := 256 } } }, by decide +kernel⟩,
    ⟨rq [], md { lastVote := 2, lastVoteSource := 256, updateCount := 2^32 - 1 }, by decide +kernel⟩,
    ⟨rq (pk [(1,255),(3,0)]), { rd with bound := { dist := 5 } }, by decide +kernel⟩,
    ⟨rq (pk [(1,3),(1,255),(2,256),(1,0),(3,0),(8,2^40-1),(8,4),(8,6)]), rd, by decide +kernel⟩⟩

/-- States and operands that meet the conditions of `Obligations.MeldRuns`, one for each of its clauses. -/
theorem test_MeldRuns_met :
    (∃ (s : State), s.work.meld.enable = true ∧ running s = true ∧ s.meld.busy = none) ∧
    (∃ (t : Nat) (inst : Nat) (raw : Nat) (s : State), 
      let x := begin_ t s
      running s = true ∧ x.meld.busy = some (inst, raw)) ∧
    (∃ (k : Nat) (t0 : Nat) (o : Nat) (s : State) (m : MeldMember), running s = true ∧ s.meld.slots[k]? = some m ∧ m.outlier = true ∧ m.outlierSmall = some t0 ∧ ordOf (nth s.work.meldSlots k).sourceId = some o) ∧
    (∃ (s : State) (o : Int), running s = true ∧ s.hold.origin = some o ∧ originInForce s = true ∧ s.work.meld.enable = true ∧ s.hold.horizonPassed = false) :=
  ⟨⟨md { slots := {} :: { sum := 10, count := 3 } :: List.replicate 6 {} }, by decide +kernel⟩,
    ⟨0, 3, 4, md { busy := some (3, 4) }, by decide +kernel⟩,
    ⟨1, 5, 0, md { slots := {} :: { outlier := true, outlierSmall := some 5 } :: List.replicate 6 {} }, { outlier := true, outlierSmall := some 5 }, by decide +kernel⟩,
    ⟨{ md {} with hold := { origin := some 3 }, dplls := { state := .holdover } :: List.replicate 3 {} }, 3, by decide +kernel⟩⟩

end Sources

namespace Baseband

def nav30 (l : List (Nat × Nat)) : Bytes := (List.range 30).flatMap fun k => leBytes 4 ((getKey k l).getD 0)

def gnssParams (en : Nat) : Bytes := pk [(1,en),(1,7),(1,4),(1,45),(1,22),(1,255),(1,2),(1,2),(4,2^32-4000000),(2,8191),(2,0),(8,2^64-1),(8,5),(8,2^40-1),(8,7),(4,100),(4,0),(4,1),(4,2^32-1)]

def gn (g : GnssRun) : State := { rd with gnss := g }

def eph : Bytes := nav30 [(7, 9 * 65536), (12, 9 * 65536), (29, 9 * 65536)]

def sat1 : SatMeas := { prn := 3, residual := 5, los := (0, 0, 1), cn0 := 40, elevation := 20, azimuth := 0, doppler := 0, bitSync := true }

def bits (p : Nat) : List GnssBits := (List.range 4).map fun k => { edge := k * p, signI := true, magI := false, signQ := k == 1, magQ := true }

/-- States and operands that meet the conditions of `Obligations.BasebandCommands`, one for each of its clauses. -/
theorem test_BasebandCommands_met :
    (∃ (q : Req) (s : State), 
      let x := started 0x0600 q s
      let p := q.params
      let n := min 16 (fld p 6 1)
      startsAt 0x0600 q s = true ∧ fitsN q 56 gnssFields n 4 (fun k => [anyF (56 + 4 * k) 4]) ∧ (fld p 0 1 ≠ 1 ∨ getKey 4 x.boot.images ≠ none)) ∧
    (∃ (q : Req) (s : State), 
      let x := started 0x0600 q s
      let p := q.params
      let n := min 16 (fld p 6 1)
      startsAt 0x0600 q s = true ∧ fitsN q 56 gnssFields n 4 (fun k => [anyF (56 + 4 * k) 4]) ∧ fld p 0 1 = 1 ∧ getKey 4 x.boot.images = none) ∧
    (∃ (q : Req) (s : State), 
      let p := q.params
      let ty := fld p 0 1
      startsAt 0x0601 q s = true ∧ fits q (aidLen (fld q.params 0 1)) (aidAll q.params) ∧ ty = 1) ∧
    (∃ (q : Req) (s : State), 
      let x := started 0x0601 q s
      let p := q.params
      let ty := fld p 0 1
      startsAt 0x0601 q s = true ∧ fits q (aidLen (fld q.params 0 1)) (aidAll q.params) ∧ ty = 2 ∧ x.time.valid = false) ∧
    (∃ (q : Req) (s : State), 
      let x := started 0x0601 q s
      let p := q.params
      let ty := fld p 0 1
      startsAt 0x0601 q s = true ∧ fits q (aidLen (fld q.params 0 1)) (aidAll q.params) ∧ ty = 2 ∧ x.time.valid = true) ∧
    (∃ (q : Req) (s : State), 
      let p := q.params
      let ty := fld p 0 1
      let body := slice p 4 (aidLen ty - 4)
      startsAt 0x0601 q s = true ∧ fits q (aidLen (fld q.params 0 1)) (aidAll q.params) ∧ ty = 4 ∧ ephIodc body % 256 ≠ ephIode2 body) ∧
    (∃ (q : Req) (s : State), 
      let x := started 0x0601 q s
      let p := q.params
      let ty := fld p 0 1
      let key := 64 * ty + fld p 1 1
      startsAt 0x0601 q s = true ∧ fits q (aidLen (fld q.params 0 1)) (aidAll q.params) ∧ (ty = 3 ∨ ty = 5) ∧ hasBroadcast x key = false) ∧
    (∃ (q : Req) (s : State), 
      let x := started 0x0601 q s
      let p := q.params
      let ty := fld p 0 1
      let key := 64 * ty + fld p 1 1
      startsAt 0x0601 q s = true ∧ fits q (aidLen (fld q.params 0 1)) (aidAll q.params) ∧ (ty = 3 ∨ ty = 5) ∧ hasBroadcast x key = true) ∧
    (∃ (q : Req) (s : State), 
      let x := started 0x0601 q s
      let p := q.params
      let ty := fld p 0 1
      let key := 64 * ty + fld p 1 1
      let body := slice p 4 (aidLen ty - 4)
      startsAt 0x0601 q s = true ∧ fits q (aidLen (fld q.params 0 1)) (aidAll q.params) ∧ ty = 4 ∧ ephIodc body % 256 = ephIode2 body ∧ ephIodc body % 256 = ephIode3 body ∧ ephStale x body = false ∧ getKey key x.gnss.nav = none) ∧
    (∃ (q : Req) (s : State), startsAt 0x0603 q s = true ∧ fits q 40 (surveyFields q.params)) ∧
    (∃ (q : Req) (s : State), startsAt 0x0602 q s = true ∧ fits q 0 []) ∧
    (∃ (q : Req) (s : State), startsAt 0x0604 q s = true ∧ fits q 4 [inF 0 1 3 5, whenF (fld q.params 0 1 == 3 || fld q.params 0 1 == 4) 1 1 1 32, rsvF 2 2]) :=
  ⟨⟨rq (gnssParams 0), rd, by decide +kernel⟩,
    ⟨rq (gnssParams 1), rd, by decide +kernel⟩,
    ⟨rq (pk [(1,1),(1,0),(2,0),(4,1),(8,2),(8,3),(8,4)]), rd, by decide +kernel⟩,
    ⟨rq (pk [(1,2),(1,0),(2,0),(12,7 * 2^48),(8,5)]), rd, by decide +kernel⟩,
    ⟨rq (pk [(1,2),(1,0),(2,0),(12,7 * 2^48),(8,5)]), { rd with time := { valid := true } }, by decide +kernel⟩,
    ⟨rq (pk [(1,4),(1,32),(2,0)] ++ nav30 [(7, 65536)]), rd, by decide +kernel⟩,
    ⟨rq (pk [(1,3),(1,1),(2,0),(40,7)]), rd, by decide +kernel⟩,
    ⟨rq (pk [(1,5),(1,0),(2,0),(40,7)]), gn { nav := [(320, { words := [], broadcast := true })] }, by decide +kernel⟩,
    ⟨rq (pk [(1,4),(1,1),(2,0)] ++ eph), rd, by decide +kernel⟩,
    ⟨rq (pk [(1,0),(3,0),(2,65535),(2,65535),(4,1),(4,0),(24,0)]), rd, by decide +kernel⟩,
    ⟨rq [], rd, by decide +kernel⟩,
    ⟨rq (pk [(1,4),(1,32),(2,0)]), gn { nav := [(288, { words := eph })] }, by decide +kernel⟩⟩

/-- States and operands that meet the conditions of `Obligations.BasebandRuns`, one for each of its clauses. -/
theorem test_BasebandRuns_met :
    (∃ (s : State), s.gnss.state = .off ∧ s.gnss.change = none) ∧
    (∃ (meas : List SatMeas) (s : State), running s = true ∧ s.gnss.state = .acquire ∧ s.gnss.clkFault = false ∧ s.gnss.survey = none ∧ s.gnss.change = none ∧ s.gnss.setting.fixed = true ∧ s.gnss.aids = [] ∧ (∃ m, m ∈ meas ∧ satUsable (moveToCounter (epochTarget { s with out := [] }) { s with out := [] }) m = true)) ∧
    (∃ (s : State) (d : GnssDue), running s = true ∧ s.gnss.due = some d) ∧
    (∃ (t : Nat) (block : List GnssBits) (s : State), 
      let x := begin_ t s
      running s = true ∧ (takeBlock block x).2 = none) ∧
    (∃ (t : Nat) (block : List GnssBits) (off : Int) (s : State), 
      let x := begin_ t s
      running s = true ∧ (takeBlock block x).2 = some off ∧ off.natAbs ≤ 1844674407370955) ∧
    (∃ (t : Nat) (block : List GnssBits) (off : Int) (s : State), 
      let x := begin_ t s
      running s = true ∧ (takeBlock block x).2 = some off ∧ 1844674407370955 < off.natAbs ∧ x.gnss.clkFault = false) ∧
    (∃ (t : Nat) (s : State), 
      let x := begin_ t s
      running s = true ∧ x.gnss.clkFault = false) ∧
    (∃ (at_ : Int × Int) (s : State), running s = true ∧ s.gnss.posAid = none ∧ s.gnss.state ≠ .hold ∧ (at_.1 - s.work.gnss.ifFreq).natAbs ≤ 8151) ∧
    (∃ (t : Nat) (prn : Nat) (k : Nat) (at_ : Int × Int) (s : State), 
      let x := begin_ t s
      running s = true ∧ x.gnss.state ≠ .off ∧ x.gnss.clkFault = false ∧ x.gnss.gspiBusy = false ∧ 0 < prn ∧ prn ≤ 32 ∧ (∀ c, c ∈ x.gnss.channels → c.prn ≠ prn) ∧ freeChannel x.gnss.channels = some k ∧ inSearch x prn at_ = true) ∧
    (∃ (t : Nat) (prn : Nat) (s : State) (c : GnssChan), 
      let x := begin_ t s
      running s = true ∧ c ∈ x.gnss.channels ∧ c.prn = prn) ∧
    (∃ (prn : Nat) (s : State) (r : Nat × Nat), running s = true ∧ s.gnss.reacquire.find? (fun r => r.1 == prn) = some r) ∧
    (∃ (t : Nat) (kind : Nat) (s : State), 
      let x := begin_ t s
      running s = true ∧ x.gnss.state ≠ .off ∧ (kind = 3 ∨ kind = 4 ∨ kind = 5)) ∧
    (∃ (s : State), running s = true ∧ s.gnss.state = .survey ∧ s.gnss.secondDue = true) ∧
    (∃ (s : State), running s = true) :=
  ⟨⟨rd, by decide +kernel⟩,
    ⟨[sat1], gn { state := .acquire, setting := { fixed := true, pos := (1, 2, 3) }, channels := [{ prn := 3 }], nav := [(259, { words := eph })] }, by decide +kernel⟩,
    ⟨gn { due := some { stamp := 1, offset := 2, unc := 3, epoch := 4, ps := 5 } }, { stamp := 1, offset := 2, unc := 3, epoch := 4, ps := 5 }, by decide +kernel⟩,
    ⟨0, [], gn { clkFault := true }, by decide +kernel⟩,
    ⟨300000, bits 61095, -53588626648206, gn { clkFault := true }, by decide +kernel⟩,
    ⟨300000, bits 61195, -30198163365116324, gn { timingFix := true, state := .hold, channels := [{ prn := 3 }] }, by decide +kernel⟩,
    ⟨0, gn { timingFix := true, state := .hold, channels := [{ prn := 3 }] }, by decide +kernel⟩,
    ⟨(-8151, 5), rd, by decide +kernel⟩,
    ⟨0, 32, 1, (7, 9), gn { state := .acquire, channels := [{ prn := 3 }] }, by decide +kernel⟩,
    ⟨0, 3, gn { state := .acquire, channels := [{ prn := 3 }] }, { prn := 3 }, by decide +kernel⟩,
    ⟨3, gn { reacquire := [(4, 9), (3, 17)] }, (3, 17), by decide +kernel⟩,
    ⟨0, 5, gn { state := .acquire }, by decide +kernel⟩,
    ⟨gn { state := .survey, secondDue := true }, by decide +kernel⟩,
    ⟨gn { gspiBusy := true }, by decide +kernel⟩⟩

end Baseband

namespace Outputs

def outParams (n mode drv num den per w gate : Nat) : Bytes :=
  pk [(1,n),(1,mode),(1,0),(1,drv),(1,0),(1,0),(1,0),(1,gate),(4,num),(4,den),(8,per),(4,w),(1,0),(1,0),(2,0),(8,2^64-5),(8,0)]

/-- Output 3 as given. -/
def ou (o : OutRun) : State := { rd with outs := rd.outs.set 3 o }

def ppm : OutCfg := { mode := 2, period := 1000000000, width := 1000 }

def irig : OutCfg := { mode := 4 }

/-- States and operands that meet the conditions of `Obligations.RootRowsComplete`, one for each of its clauses. -/
theorem test_RootRowsComplete_met :
    (∃ (q : Req) (s : State), startsAt 0x0200 q s = true ∧ fits q 0 []) ∧
    (∃ (t : Nat) (f : Nat) (s : State) (code : Nat) (hz : Nat), 
      let x := begin_ t s
      [(0, 10000000), (1, 20000000), (2, 25000000), (3, 40000000), (4, 50000000)].contains (code, hz) = true ∧ 94 * hz ≤ 100 * f ∧ 100 * f ≤ 106 * hz ∧ x.boot.inReset = false ∧ x.boot.powerGood = true ∧ x.root.locked = false ∧ x.root.lost = false) ∧
    (∃ (t : Nat) (s : State), 
      let x := begin_ t s
      running x = true) ∧
    (∃ (t : Nat) (err : Nat) (s : State), 
      let x := begin_ t s
      running x = true ∧ x.root.excursion = false ∧ 150 < err ∧ err ≤ 1500) ∧
    (∃ (t : Nat) (s : State), 
      let x := begin_ t s
      running s = true ∧ x.root.excursion = true) ∧
    (∃ (i : Instr) (s : State), running s = false ∧ watchClocked i = false) :=
  ⟨⟨rq [], rd, by decide +kernel⟩,
    ⟨5, 9400000, { rd with root := {} }, 0, 10000000, by decide +kernel⟩,
    ⟨0, rd, by decide +kernel⟩,
    ⟨0, 151, rd, by decide +kernel⟩,
    ⟨0, { rd with root := { locked := true, excursion := true } }, by decide +kernel⟩,
    ⟨.freqUpdate 256, { rd with root := { locked := false, lost := true }, refs := { state := .qualified } :: List.replicate 97 {} }, by decide +kernel⟩⟩

/-- States and operands that meet the conditions of `Obligations.OutputConfigurationAndStatus`, one for each of its clauses. -/
theorem test_OutputConfigurationAndStatus_met :
    (∃ (q : Req) (s : State), startsAt 0x0210 q s = true ∧ fits q 48 (outFields q.params)) ∧
    (∃ (q : Req) (s : State), startsAt 0x0220 q s = true ∧ fits q 24 (todFields q.params)) ∧
    (∃ (q : Req) (s : State), startsAt 0x0213 q s = true ∧ fits q 4 [inF 0 1 0 15, rsvF 1 3]) :=
  ⟨⟨rq (outParams 15 2 1 0 0 2000000000 4 0), rd, by decide +kernel⟩,
    ⟨rq (pk [(1,1),(1,3),(2,0x5A41),(4,921600),(4,10),(2,900),(1,2),(1,0),(8,2^40-1)]), rd, by decide +kernel⟩,
    ⟨rq (pk [(1,3),(3,0)]), ou { state := .gated, periods := 7, offset := -9, cfg := ppm, lastD := -4 }, by decide +kernel⟩⟩

/-- States and operands that meet the conditions of `Obligations.OutputsRunAndAreGated`, one for each of its clauses. -/
theorem test_OutputsRunAndAreGated_met :
    (∃ (q : Req) (s : State), 
      let x := started 0x0211 q s
      startsAt 0x0211 q s = true ∧ fits q 16 (enableFields q.params) ∧ (fld q.params 2 1 ≠ 1 ∨ ∀ n, n < 16 → (fld q.params 0 2).testBit n = true → (nth x.outs n).cfg.mode ≠ 0)) ∧
    (∃ (n : Nat) (s : State) (o : OutRun), running s = true ∧ s.outs[n]? = some o ∧ o.state = .waiting ∧ o.cfg.mode = 4) ∧
    (∃ (n : Nat) (s : State) (o : OutRun), running s = true ∧ s.outs[n]? = some o ∧ (o.state = .running ∨ o.state = .gated) ∧ (o.cfg.mode = 1 ∨ o.cfg.mode = 2 ∨ o.cfg.mode = 3) ∧ o.stale = false ∧ o.cfg.gate = 0 ∧ o.prevRise = none) ∧
    (∃ (n : Nat) (s : State) (o : OutRun), running s = true ∧ s.outs[n]? = some o ∧ (o.state = .running ∨ o.state = .gated) ∧ (o.cfg.mode = 1 ∨ o.cfg.mode = 2 ∨ o.cfg.mode = 3) ∧ o.stale = false ∧ o.cfg.gate = 1 ∧ s.time.valid = false) ∧
    (∃ (n : Nat) (s : State) (o : OutRun), running s = true ∧ s.outs[n]? = some o ∧ (o.state = .running ∨ o.state = .gated) ∧ o.cfg.mode = 4 ∧ o.stale = false ∧ o.cfg.gate = 0 ∧ (∀ p, o.prevRise = some p → p + 500000001600 ≤ s.now ∧ o.fallAt + 1600 ≤ s.now)) ∧
    (∃ (n : Nat) (s : State) (o : OutRun), running s = true ∧ s.outs[n]? = some o ∧ (o.state = .running ∨ o.state = .gated) ∧ o.cfg.mode = 4 ∧ o.stale = false ∧ o.cfg.gate = 1 ∧ s.time.valid = false) ∧
    (∃ (s : State), running s = true ∧ s.work.tod.enable = true ∧ s.work.tod.gate = 0 ∧ s.work.tod.flags.testBit 0 = false) ∧
    (∃ (s : State), running s = true ∧ s.work.tod.enable = true ∧ s.work.tod.gate = 1 ∧ s.time.valid = false) :=
  ⟨⟨rq (pk [(2,0xFFFF),(1,0),(1,0),(12,0)]), rd, by decide +kernel⟩,
    ⟨3, ou { state := .waiting, startAt := 5, cfg := irig }, { state := .waiting, startAt := 5, cfg := irig }, by decide +kernel⟩,
    ⟨3, ou { state := .running, cfg := ppm }, { state := .running, cfg := ppm }, by decide +kernel⟩,
    ⟨3, ou { state := .running, cfg := { ppm with gate := 1 } }, ({ state := .running, cfg := { ppm with gate := 1 } } : OutRun), by decide +kernel⟩,
    ⟨3, ou { state := .running, cfg := irig }, { state := .running, cfg := irig }, by decide +kernel⟩,
    ⟨3, ou { state := .running, cfg := { irig with gate := 1 } }, ({ state := .running, cfg := { irig with gate := 1 } } : OutRun), by decide +kernel⟩,
    ⟨{ rd with work := { rd.work with tod := { enable := true } } }, by decide +kernel⟩,
    ⟨{ rd with work := { rd.work with tod := { enable := true, gate := 1 } } }, by decide +kernel⟩⟩

/-- States and operands that meet the conditions of `Obligations.OutputAlignment`, one for each of its clauses. -/
theorem test_OutputAlignment_met :
    (∃ (q : Req) (s : State) (o : OutRun) (ord : Nat), 
      let p := q.params
      let n := fld p 0 1
      let x := started 0x0212 q s
      startsAt 0x0212 q s = true ∧ fits q 28 (alignFields p) ∧ fld p 1 1 = 0 ∧ ordOf (fld p 2 2) = some ord ∧ x.outs[n]? = some o ∧ o.align = none ∧ (o.cfg.mode = 1 ∨ o.cfg.mode = 2 ∨ o.cfg.mode = 3) ∧ ((nth x.work.refs ord).mode = 0 ∨ (nth x.work.refs ord).mode = 3) ∧ (nth x.refs ord).state ≠ .disabled ∧ (nth x.refs ord).cause.testBit cActivity = false) ∧
    (∃ (q : Req) (s : State) (o : OutRun) (a : Align), 
      let p := q.params
      let n := fld p 0 1
      let x := started 0x0212 q s
      startsAt 0x0212 q s = true ∧ fits q 28 (alignFields p) ∧ fld p 1 1 = 1 ∧ x.outs[n]? = some o ∧ o.align = some a) ∧
    (∃ (n : Nat) (t : Nat) (s : State) (o : OutRun) (a : Align), 
      let x := begin_ t s
      running x = true ∧ x.outs[n]? = some o ∧ o.align = some a ∧ a.found = false ∧ x.time.lastStepTick ≠ some (x.now / 1600)) ∧
    (∃ (n : Nat) (s : State) (o : OutRun) (a : Align), running s = true ∧ s.outs[n]? = some o ∧ o.align = some a ∧ a.found = false) ∧
    (∃ (n : Nat) (s : State) (o : OutRun) (a : Align), running s = true ∧ s.outs[n]? = some o ∧ o.align = some a ∧ a.found = true ∧ a.remaining = 0) ∧
    (∃ (n : Nat) (t : Nat) (s : State) (o : OutRun), 
      let x := begin_ t s
      running s = true ∧ x.outs[n]? = some o ∧ o.placerOk = true) :=
  ⟨⟨rq (pk [(1,3),(1,0),(2,256),(1,1),(3,0),(8,5),(8,0),(4,60000)]), { ou { cfg := ppm } with refs := { state := .qualified } :: List.replicate 97 {} }, { cfg := ppm }, 0, by decide +kernel⟩,
    ⟨rq (pk [(1,3),(1,1),(2,0),(1,0),(3,0),(8,0),(8,0),(4,0)]), ou { align := some {} }, { align := some {} }, {}, by decide +kernel⟩,
    ⟨3, 0, ou { align := some {}, cfg := ppm }, { align := some {}, cfg := ppm }, {}, by decide +kernel⟩,
    ⟨3, ou { align := some { deadline := 77 } }, { align := some { deadline := 77 } }, { deadline := 77 }, by decide +kernel⟩,
    ⟨3, ou { align := some { found := true } }, { align := some { found := true } }, { found := true }, by decide +kernel⟩,
    ⟨3, 0, ou {}, {}, by decide +kernel⟩⟩

end Outputs

namespace Stops

def tdcParams (i mode : Nat) : Bytes := pk [(1,i),(1,1),(1,1),(1,mode),(1,0),(1,if mode = 1 then 4 else 0),(1,mode),(1,255),(4,mode * 10000000),(4,mode),(8,2^64-5)]

def armParams (mask act n : Nat) (at_ : Nat) : Bytes := pk [(1,mask),(1,act),(1,if act = 0 then 3 else 0),(1,0),(4,n),(12,at_),(4,0)]

/-- Channel c as given, with its input configured as given. -/
def td (c : Nat) (g : TdcCfg) (h : TdcChan) : State :=
  { rd with work := { rd.work with tdc := rd.work.tdc.set (c + 1) g }, tdc := { rd.tdc with chans := rd.tdc.chans.set c h } }

/-- States and operands that meet the conditions of `Obligations.TdcCommands`, one for each of its clauses. -/
theorem test_TdcCommands_met :
    (∃ (q : Req) (s : State), 
      let x := started 0x0700 q s
      let p := q.params
      let i := fld p 0 1
      startsAt 0x0700 q s = true ∧ fits q 24 (tdcFields x.shadow p) ∧ (i = 0 ∨ (chanOf x (i - 1)).owner = none)) ∧
    (∃ (q : Req) (s : State), 
      let x := started 0x0700 q s
      let p := q.params
      let i := fld p 0 1
      startsAt 0x0700 q s = true ∧ fits q 24 (tdcFields x.shadow p) ∧ i ≠ 0 ∧ (chanOf x (i - 1)).owner ≠ none) ∧
    (∃ (q : Req) (s : State), 
      let x := started 0x0701 q s
      let p := q.params
      let act := fld p 1 1
      let named : Nat → Bool := fun c => decide (c < 8) && bit (fld p 0 1) c
      startsAt 0x0701 q s = true ∧ fits q 24 (armFields q.params) ∧ act ≠ 2 ∧ (∃ c, c < 8 ∧ named c ∧ (chanOf x c).owner ≠ none)) ∧
    (∃ (q : Req) (s : State), 
      let x := started 0x0701 q s
      let p := q.params
      let act := fld p 1 1
      let named : Nat → Bool := fun c => decide (c < 8) && bit (fld p 0 1) c
      let at_ := tsOfField (fld p 8 12)
      startsAt 0x0701 q s = true ∧ fits q 24 (armFields q.params) ∧ act = 0 ∧ (∀ c, c < 8 → named c → (chanOf x c).owner = none ∧ (chanOf x c).state = .disarmed ∧ (nth x.work.tdc (c + 1)).enable = true) ∧ (at_ = 0 ∨ curTs x < at_)) ∧
    (∃ (q : Req) (s : State), 
      let x := started 0x0701 q s
      let p := q.params
      let act := fld p 1 1
      let named : Nat → Bool := fun c => decide (c < 8) && bit (fld p 0 1) c
      let at_ := tsOfField (fld p 8 12)
      startsAt 0x0701 q s = true ∧ fits q 24 (armFields q.params) ∧ act = 0 ∧ (∀ c, c < 8 → named c → (chanOf x c).owner = none) ∧ ((∃ c, c < 8 ∧ named c ∧ ((chanOf x c).state ≠ .disarmed ∨ (nth x.work.tdc (c + 1)).enable = false)) ∨ at_ ≠ 0 ∧ at_ ≤ curTs x)) ∧
    (∃ (q : Req) (s : State), 
      let x := started 0x0701 q s
      let p := q.params
      let act := fld p 1 1
      let named : Nat → Bool := fun c => decide (c < 8) && bit (fld p 0 1) c
      startsAt 0x0701 q s = true ∧ fits q 24 (armFields q.params) ∧ act = 1 ∧ (∀ c, c < 8 → named c → (chanOf x c).owner = none)) ∧
    (∃ (q : Req) (s : State), 
      let x := started 0x0701 q s
      let p := q.params
      let act := fld p 1 1
      startsAt 0x0701 q s = true ∧ fits q 24 (armFields q.params) ∧ act = 2 ∧ (∀ h, h ∈ x.tdc.chans → h.state = .disarmed)) ∧
    (∃ (q : Req) (s : State), 
      let x := started 0x0701 q s
      let p := q.params
      let act := fld p 1 1
      startsAt 0x0701 q s = true ∧ fits q 24 (armFields q.params) ∧ act = 2 ∧ (∃ h, h ∈ x.tdc.chans ∧ h.state ≠ .disarmed)) ∧
    (∃ (q : Req) (s : State) (h : TdcChan), 
      let x := started 0x0702 q s
      let c := fld q.params 0 1
      startsAt 0x0702 q s = true ∧ fits q 4 [inF 0 1 0 7, inF 1 1 1 32, rsvF 2 2] ∧ x.tdc.chans[c]? = some h ∧ h.owner ≠ none) ∧
    (∃ (q : Req) (s : State) (h : TdcChan), 
      let x := started 0x0702 q s
      let c := fld q.params 0 1
      startsAt 0x0702 q s = true ∧ fits q 4 [inF 0 1 0 7, inF 1 1 1 32, rsvF 2 2] ∧ x.tdc.chans[c]? = some h ∧ h.owner = none) ∧
    (∃ (q : Req) (s : State), startsAt 0x0703 q s = true ∧ fits q 4 [inF 0 1 0 7, inF 1 1 0 1, rsvF 2 2]) :=
  ⟨⟨rq (tdcParams 0 0), rd, by decide +kernel⟩,
    ⟨rq (tdcParams 8 1), td 7 {} { owner := some 3 }, by decide +kernel⟩,
    ⟨rq (armParams 128 0 5 0), td 7 { enable := true } { owner := some 3 }, by decide +kernel⟩,
    ⟨rq (armParams 128 0 16777216 0), td 7 { enable := true } {}, by decide +kernel⟩,
    ⟨rq (armParams 128 0 5 0), rd, by decide +kernel⟩,
    ⟨rq (armParams 129 1 0 0), td 7 { enable := true } { state := .armed, orphans := 4 }, by decide +kernel⟩,
    ⟨rq (armParams 0 2 0 0), rd, by decide +kernel⟩,
    ⟨rq (armParams 0 2 0 0), td 7 { enable := true } { state := .armed }, by decide +kernel⟩,
    ⟨rq (pk [(1,7),(1,32),(2,0)]), td 7 {} { owner := some 3 }, { owner := some 3 }, by decide +kernel⟩,
    ⟨rq (pk [(1,7),(1,1),(2,0)]), td 7 {} { buffer := [default, default], rawFull := true, dropped := 4 }, { buffer := [default, default], rawFull := true, dropped := 4 }, by decide +kernel⟩,
    ⟨rq (pk [(1,7),(1,1),(2,0)]), td 7 {} { state := .armed, overruns := 3 }, by decide +kernel⟩⟩

/-- States and operands that meet the conditions of `Obligations.TdcMeasures`, one for each of its clauses. -/
theorem test_TdcMeasures_met :
    (∃ (c : Nat) (t : Nat) (pulse : EdgePulse) (s : State) (h : TdcChan) (i : TdcInput), 
      let x := begin_ t s
      let g := nth x.work.tdc (c + 1)
      running x = true ∧ c < 8 ∧ x.tdc.chans[c]? = some h ∧ x.tdc.inputs[c + 1]? = some i ∧ h.owner = none ∧ g.enable = true ∧ g.mode = 0 ∧ (pulse.rising = true ↔ g.edge = 0) ∧ (∃ l ∈ i.lastPs, x.now < l + 100000)) ∧
    (∃ (c : Nat) (t : Nat) (pulse : EdgePulse) (s : State) (h : TdcChan) (i : TdcInput), 
      let x := begin_ t s
      let g := nth x.work.tdc (c + 1)
      let p : TdcStamp := { stamp := (stampNow x : Int) - i.skew - g.compensation, epoch := x.time.stepEpoch, uncal := !i.calOk }
      running x = true ∧ c < 8 ∧ x.tdc.chans[c]? = some h ∧ x.tdc.inputs[c + 1]? = some i ∧ h.owner = none ∧ g.enable = true ∧ g.mode = 0 ∧ (pulse.rising = true ↔ g.edge = 0) ∧ (∀ l ∈ i.lastPs, l + 100000 ≤ x.now) ∧ (g.glitchNs = 0 ∨ g.glitchNs * 1000 ≤ pulse.width) ∧ h.state = .armed ∧ h.armedFrom ≤ p.stamp ∧ h.starts = []) ∧
    (∃ (c : Nat) (t : Nat) (pulse : EdgePulse) (s : State) (h : TdcChan) (i : TdcInput) (a : TdcStamp) (v : Int), 
      let x := begin_ t s
      let g := nth x.work.tdc (c + 1)
      let p : TdcStamp := { stamp := (stampNow x : Int) - i.skew - g.compensation, epoch := x.time.stepEpoch, uncal := !i.calOk }
      running x = true ∧ c < 8 ∧ x.tdc.chans[c]? = some h ∧ x.tdc.inputs[c + 1]? = some i ∧ h.owner = none ∧ g.enable = true ∧ g.mode = 0 ∧ (pulse.rising = true ↔ g.edge = 0) ∧ (∀ l ∈ i.lastPs, l + 100000 ≤ x.now) ∧ (g.glitchNs = 0 ∨ g.glitchNs * 1000 ≤ pulse.width) ∧ h.state = .armed ∧ h.armedFrom ≤ p.stamp ∧ h.starts = [a] ∧ a.epoch = x.time.stepEpoch ∧ a.stamp ≤ p.stamp ∧ p.stamp - a.stamp < halfSec ∧ v = clampI (-500000000000) 499999999999 (roundDivI ((p.stamp - a.stamp) * 1000) 65536) ∧ h.raw = false ∧ h.block.count + 1 < h.n) ∧
    (∃ (c : Nat) (s : State) (h : TdcChan), running s = true ∧ s.tdc.chans[c]? = some h ∧ h.state = .waiting) ∧
    (∃ (c : Nat) (s : State) (h : TdcChan) (p : TdcStamp) (rest : List TdcStamp), running s = true ∧ s.tdc.chans[c]? = some h ∧ h.stops = p :: rest) ∧
    (∃ (c : Nat) (s : State) (h : TdcChan), running s = true ∧ s.tdc.chans[c]? = some h ∧ h.state = .armed ∧ (chanCfg s c).mode = 1 ∧ (chanCfg s c).basis = 0) ∧
    (∃ (inp : Nat) (t : Nat) (s : State) (i : TdcInput), 
      let x := begin_ t s
      running s = true ∧ x.tdc.inputs[inp]? = some i ∧ i.calOk = true) ∧
    (∃ (t : Nat) (s : State), 
      let x := begin_ t s
      running s = true ∧ x.tdc.calibrating = true) :=
  ⟨⟨7, 5, { width := 0, rising := true }, { td 7 { enable := true } {} with tdc := { rd.tdc with inputs := List.replicate 9 { lastPs := some 3 } } }, {}, { lastPs := some 3 }, by decide +kernel⟩,
    ⟨7, 5, { width := 1000, rising := false }, td 7 { enable := true, edge := 1 } { state := .armed }, { state := .armed }, {}, by decide +kernel⟩,
    ⟨7, 3000, { width := 1000, rising := true }, td 7 { enable := true, glitchNs := 1 } { state := .armed, n := 2, starts := [{ stamp := 65536 }] }, { state := .armed, n := 2, starts := [{ stamp := 65536 }] }, {}, { stamp := 65536 }, clampI (-500000000000) 499999999999 (roundDivI (((stampNow (begin_ 3000 rd) : Int) - 65536) * 1000) 65536), by decide +kernel⟩,
    ⟨7, td 7 { enable := true } { state := .waiting, startAt := 99 }, { state := .waiting, startAt := 99 }, by decide +kernel⟩,
    ⟨7, td 7 { enable := true } { state := .armed, stops := [{ stamp := 7 }] }, { state := .armed, stops := [{ stamp := 7 }] }, { stamp := 7 }, [], by decide +kernel⟩,
    ⟨7, td 7 { enable := true, mode := 1 } { state := .armed, gateEnd := 65536000000 }, { state := .armed, gateEnd := 65536000000 }, by decide +kernel⟩,
    ⟨8, 0, rd, {}, by decide +kernel⟩,
    ⟨0, { rd with tdc := { rd.tdc with calibrating := true } }, by decide +kernel⟩⟩

end Stops

namespace Ports

/-- Port 5 with this configuration, ESMC on, and this run-time part. -/
def po (c : PortCfg) (f : FlowCfg) (r : PortRun) : State :=
  { rd with ports := rd.ports.set 5 r, work := { rd.work with ports := rd.work.ports.set 5 c, flows := rd.work.flows.set 5 f, synces := rd.work.synces.set 5 { flags := 3 } } }

def p10 : PortCfg := { mode := 3, mac := 0x020000000005 }

/-- A Partner link lane 1 as given. -/
def la (l : LaneRun) : State := { rd with pair := { rd.pair with lanes := rd.pair.lanes.set 1 l } }

def portParams (n mode : Nat) : Bytes := pk [(1,n),(1,mode),(1,0),(1,127),(1,7),(1,0),(2,9216),(6,7),(2,0),(8,2^64-5),(8,5),(8,9)]

def flowParams : Bytes := pk [(1,15),(1,2),(1,255),(1,1),(1,2),(1,0),(2,65535),(4,4194304),(4,4194303),(4,1),(4,7),(4,1),(4,7),(4,1),(4,7),(4,1),(4,7),(4,1),(4,7),(4,1),(4,7),(4,1),(4,7)]

/-- States and operands that meet the conditions of `Obligations.PortCommands`, one for each of its clauses. -/
theorem test_PortCommands_met :
    (∃ (q : Req) (s : State), 
      let x := started 0x0800 q s
      let p := q.params
      let n := fld p 0 1
      let absent := n % 4 ≠ 0 ∧ (nth x.shadow.ports (n / 4 * 4)).mode = 4
      let taken := fld p 1 1 = 4 ∧ ((nth x.shadow.ports (n + 1)).mode ≠ 0 ∨ (nth x.shadow.ports (n + 2)).mode ≠ 0 ∨ (nth x.shadow.ports (n + 3)).mode ≠ 0)
      startsAt 0x0800 q s = true ∧ fits q 40 (portFields q.params) ∧ ¬ absent ∧ ¬ taken) ∧
    (∃ (q : Req) (s : State), 
      let x := started 0x0800 q s
      let p := q.params
      let n := fld p 0 1
      let absent := n % 4 ≠ 0 ∧ (nth x.shadow.ports (n / 4 * 4)).mode = 4
      let taken := fld p 1 1 = 4 ∧ ((nth x.shadow.ports (n + 1)).mode ≠ 0 ∨ (nth x.shadow.ports (n + 2)).mode ≠ 0 ∨ (nth x.shadow.ports (n + 3)).mode ≠ 0)
      startsAt 0x0800 q s = true ∧ fits q 40 (portFields q.params) ∧ (absent ∨ taken)) ∧
    (∃ (q : Req) (s : State) (r : PortRun), 
      let x := started 0x0802 q s
      let n := fld q.params 0 1
      startsAt 0x0802 q s = true ∧ fits q 4 [inF 0 1 0 15, rsvF 1 3] ∧ x.ports[n]? = some r ∧ r.state ≠ .disabled ∧ r.state ≠ .calibrating) ∧
    (∃ (q : Req) (s : State) (r : PortRun), 
      let x := started 0x0802 q s
      let n := fld q.params 0 1
      startsAt 0x0802 q s = true ∧ fits q 4 [inF 0 1 0 15, rsvF 1 3] ∧ x.ports[n]? = some r ∧ (r.state = .disabled ∨ r.state = .calibrating)) ∧
    (∃ (q : Req) (s : State), startsAt 0x0803 q s = true ∧ fitsN q 8 (flowFields q.params) 8 8 (flowEntryFields q.params)) ∧
    (∃ (q : Req) (s : State), startsAt 0x0804 q s = true ∧ fits q 16 [inF 0 1 0 15, inF 1 1 0 3, inF 2 1 0 15, rankF 3, rankF 4, rankF 5, rsvF 6 2, anyF 8 8]) ∧
    (∃ (q : Req) (s : State), 
      let n := fld q.params 0 1
      startsAt 0x0801 q s = true ∧ fits q 4 [F 0 1 (fun v => decide (v ≤ 15) || v == 0xFF), inF 1 1 0 3, rsvF 2 2] ∧ n ≠ 0xFF) ∧
    (∃ (q : Req) (s : State), 
      let n := fld q.params 0 1
      startsAt 0x0801 q s = true ∧ fits q 4 [F 0 1 (fun v => decide (v ≤ 15) || v == 0xFF), inF 1 1 0 3, rsvF 2 2] ∧ n = 0xFF) :=
  ⟨⟨rq (portParams 15 3), rd, by decide +kernel⟩,
    ⟨rq (portParams 13 1), { rd with shadow := { rd.shadow with ports := rd.shadow.ports.set 12 { mode := 4 } } }, by decide +kernel⟩,
    ⟨rq (pk [(1,5),(3,0)]), po p10 {} { state := .up, calendar := [(3, 4)] }, { state := .up, calendar := [(3, 4)] }, by decide +kernel⟩,
    ⟨rq (pk [(1,5),(3,0)]), po p10 {} { state := .calibrating }, { state := .calibrating }, by decide +kernel⟩,
    ⟨rq flowParams, rd, by decide +kernel⟩,
    ⟨rq (pk [(1,15),(1,3),(1,15),(1,1),(1,8),(1,15),(2,0),(8,77)]), rd, by decide +kernel⟩,
    ⟨rq (pk [(1,5),(1,0),(2,0)]), po p10 {} { state := .up, events := 5, rxQl := 4 }, by decide +kernel⟩,
    ⟨rq (pk [(1,255),(1,3),(2,0)]), po p10 {} { state := .up, events := 5, rxQl := 4 }, by decide +kernel⟩⟩

/-- States and operands that meet the conditions of `Obligations.PortStates`, one for each of its clauses. -/
theorem test_PortStates_met :
    (∃ (p : Nat) (t : Nat) (ok : Bool) (dLoop : Int) (dRx : Int) (s : State) (r : PortRun), 
      let x := begin_ t s
      let f := nth x.fuse.cal p
      let dTx := dLoop - dRx + f.routeTx
      let dRx' := dRx + f.routeRx
      let inRange := f.txMin ≤ dTx ∧ dTx ≤ f.txMax ∧ f.rxMin ≤ dRx' ∧ dRx' ≤ f.rxMax
      p < 16 ∧ running x = true ∧ x.ports[p]? = some r ∧ r.state = .calibrating ∧ ok = true ∧ inRange) ∧
    (∃ (p : Nat) (t : Nat) (ok : Bool) (dLoop : Int) (dRx : Int) (s : State) (r : PortRun), 
      let x := begin_ t s
      let f := nth x.fuse.cal p
      let dTx := dLoop - dRx + f.routeTx
      let dRx' := dRx + f.routeRx
      let inRange := f.txMin ≤ dTx ∧ dTx ≤ f.txMax ∧ f.rxMin ≤ dRx' ∧ dRx' ≤ f.rxMax
      p < 16 ∧ running x = true ∧ x.ports[p]? = some r ∧ r.state = .calibrating ∧ (ok = false ∨ ¬ inRange)) ∧
    (∃ (p : Nat) (t : Nat) (f : Int) (s : State) (r : PortRun), 
      let x := begin_ t s
      p < 16 ∧ running x = true ∧ x.ports[p]? = some r ∧ r.state = .down ∧ f.natAbs ≤ 3689348814741910 ∧ an37 (portCfg x p) = false) ∧
    (∃ (p : Nat) (t : Nat) (f : Int) (an : Option Bool) (s : State) (r : PortRun), 
      let x := begin_ t s
      p < 16 ∧ running x = true ∧ x.ports[p]? = some r ∧ r.state = .down ∧ f.natAbs ≤ 3689348814741910 ∧ an37 (portCfg x p) = true ∧ an = none) ∧
    (∃ p : Nat, ∃ t : Nat, ∃ f : Int, ∃ an : Option Bool, ∃ s : State, ∃ r : PortRun, ∃ b, 
      let x := begin_ t s
      p < 16 ∧ running x = true ∧ x.ports[p]? = some r ∧ r.state = .down ∧ f.natAbs ≤ 3689348814741910 ∧ an37 (portCfg x p) = true ∧ an = some b) ∧
    (∃ (p : Nat) (t : Nat) (s : State) (r : PortRun), 
      let x := begin_ t s
      p < 16 ∧ running x = true ∧ x.ports[p]? = some r ∧ r.state = .aligning) ∧
    (∃ (p : Nat) (t : Nat) (s : State) (r : PortRun), 
      let x := begin_ t s
      running s = true ∧ p < 16 ∧ x.ports[p]? = some r ∧ r.state = .aligning) ∧
    (∃ (p : Nat) (t : Nat) (s : State) (r : PortRun), 
      let x := begin_ t s
      running s = true ∧ p < 16 ∧ x.ports[p]? = some r ∧ r.state = .up) ∧
    (∃ (p : Nat) (t : Nat) (s : State) (r : PortRun), 
      let x := begin_ t s
      running s = true ∧ p < 16 ∧ x.ports[p]? = some r ∧ (r.state = .disabled ∨ r.state = .calibrating ∨ r.state = .down)) ∧
    (∃ (p : Nat) (t : Nat) (s : State) (r : PortRun), 
      let x := begin_ t s
      running s = true ∧ p < 16 ∧ x.ports[p]? = some r ∧ r.calOk = false) ∧
    (∃ (p : Nat) (t : Nat) (y : LaneReading) (fault : Bool) (s : State) (r : PortRun), 
      let x := begin_ t s
      running s = true ∧ p < 16 ∧ x.ports[p]? = some r ∧ r.calOk = true ∧ fault = false ∧ (y.temp - r.calTemp).natAbs ≤ 320) ∧
    (∃ (p : Nat) (t : Nat) (y : LaneReading) (fault : Bool) (s : State) (r : PortRun), 
      let x := begin_ t s
      running s = true ∧ p < 16 ∧ x.ports[p]? = some r ∧ r.calOk = true ∧ (fault = true ∨ 320 < (y.temp - r.calTemp).natAbs)) ∧
    (∃ n : Nat, ∃ t : Nat, ∃ s : State, ∃ l : LaneRun, ∃ dLoop, ∃ dRx, 
      let x := begin_ t s
      x.pair.lanes[n]? = some l ∧ running x = true ∧ l.state = .calibrating ∧ calInRange x (16 + n) (calDelays x (16 + n) dLoop dRx) = true) ∧
    (∃ (n : Nat) (t : Nat) (s : State) (l : LaneRun), 
      let x := begin_ t s
      x.pair.lanes[n]? = some l ∧ running x = true ∧ l.state = .down) ∧
    (∃ (n : Nat) (t : Nat) (s : State) (l : LaneRun), 
      let x := begin_ t s
      x.pair.lanes[n]? = some l ∧ running x = true ∧ l.state = .aligning) ∧
    (∃ (n : Nat) (t : Nat) (s : State) (l : LaneRun), 
      let x := begin_ t s
      x.pair.lanes[n]? = some l ∧ running x = true ∧ l.state = .up) ∧
    (∃ (n : Nat) (t : Nat) (s : State) (l : LaneRun), 
      let x := begin_ t s
      x.pair.lanes[n]? = some l ∧ running x = true) ∧
    (∃ (p : Nat) (t : Nat) (s : State) (r : PortRun) (f : RefRun), 
      let x := begin_ t s
      running x = true ∧ x.ports[p]? = some r ∧ (r.state = .aligning ∨ r.state = .up) ∧ x.refs[12 + p]? = some f ∧ f.state ≠ .disabled ∧ f.hasSample = true) ∧
    (∃ (p : Nat) (d : Nat) (s : State) (r : PortRun), running s = true ∧ s.ports[p]? = some r ∧ r.esmcBy = some d ∧ esmcRxOn s p = true) ∧
    (∃ (p : Nat) (s : State) (r : PortRun), 
      let y := moveTo r.esmcNext { s with out := [] }
      running s = true ∧ s.ports[p]? = some r ∧ r.state = .up ∧ esmcTxOn s p = true ∧ txEnabled y p = true ∧ esmcRoom y p = true) ∧
    (∃ (p : Nat) (t : Nat) (s : State) (r : PortRun), 
      let x := begin_ t s
      running s = true ∧ x.ports[p]? = some r ∧ esmcTxOn x p = true ∧ txEnabled x p = true ∧ esmcRoom x p = true ∧ (txQuality x p).1 ≠ r.txQl) :=
  ⟨⟨5, 9, true, 3, -4, po p10 {} { state := .calibrating }, { state := .calibrating }, by decide +kernel⟩,
    ⟨5, 9, false, 3, -4, po p10 {} { state := .calibrating }, { state := .calibrating }, by decide +kernel⟩,
    ⟨5, 9, 3689348814741910, po p10 {} { state := .down }, { state := .down }, by decide +kernel⟩,
    ⟨5, 9, 7, none, po { p10 with flags := 1, mode := 1 } {} { state := .down }, { state := .down }, by decide +kernel⟩,
    ⟨5, 9, 7, some true, po { p10 with flags := 1, mode := 1 } {} { state := .down }, { state := .down }, true, by decide +kernel⟩,
    ⟨5, 9, po p10 {} { state := .aligning }, { state := .aligning }, by decide +kernel⟩,
    ⟨5, 9, po p10 {} { state := .aligning }, { state := .aligning }, by decide +kernel⟩,
    ⟨5, 9, po p10 {} { state := .up, calendar := [(1, 2)] }, { state := .up, calendar := [(1, 2)] }, by decide +kernel⟩,
    ⟨5, 9, po p10 {} { state := .down }, { state := .down }, by decide +kernel⟩,
    ⟨5, 9, po p10 {} {}, {}, by decide +kernel⟩,
    ⟨5, 9, { temp := 320, dTx := 4, dRx := 5 }, false, po p10 {} { calOk := true, adj := (1, 2) }, { calOk := true, adj := (1, 2) }, by decide +kernel⟩,
    ⟨5, 9, { temp := -321, dTx := 4, dRx := 5 }, false, po p10 {} { calOk := true, state := .up }, { calOk := true, state := .up }, by decide +kernel⟩,
    ⟨1, 9, la { state := .calibrating }, { state := .calibrating }, 5, 6, by decide +kernel⟩,
    ⟨1, 9, la { state := .down }, { state := .down }, by decide +kernel⟩,
    ⟨1, 9, la { state := .aligning, dTx := 4 }, { state := .aligning, dTx := 4 }, by decide +kernel⟩,
    ⟨1, 9, la { state := .up, got := some (1, 2, 3, 4) }, { state := .up, got := some (1, 2, 3, 4) }, by decide +kernel⟩,
    ⟨1, 9, la { state := .up, calOk := true }, { state := .up, calOk := true }, by decide +kernel⟩,
    ⟨5, 9, { po p10 {} { state := .aligning } with refs := rd.refs.set 17 { state := .failed, hasSample := true } }, { state := .aligning }, { state := .failed, hasSample := true }, by decide +kernel⟩,
    ⟨5, 77, po p10 {} { esmcBy := some 77, rxQl := 4 }, { esmcBy := some 77, rxQl := 4 }, by decide +kernel⟩,
    ⟨5, po p10 {} { state := .up, esmcNext := 999 }, { state := .up, esmcNext := 999 }, by decide +kernel⟩,
    ⟨5, 9, po p10 {} { state := .up, txQl := 3 }, { state := .up, txQl := 3 }, by decide +kernel⟩⟩

/-- States and operands that meet the conditions of `Obligations.PauseAndWindows`, one for each of its clauses. -/
theorem test_PauseAndWindows_met :
    (∃ (p : Nat) (at_ : Nat) (k : Nat) (n : Nat) (s : State) (r : PortRun) (rest : List (Nat × List (Nat × Nat))), running s = true ∧ s.ports[p]? = some r ∧ r.pauses = (at_, [(k, n)]) :: rest ∧ k < r.pausedUntil.length ∧ 0 < n) ∧
    (∃ (p : Nat) (at_ : Nat) (k : Nat) (n : Nat) (s : State) (r : PortRun) (rest : List (Nat × List (Nat × Nat))), running s = true ∧ s.ports[p]? = some r ∧ r.pauses = (at_, [(k, n)]) :: rest ∧ k < r.pausedUntil.length ∧ n = 0) ∧
    (∃ (p : Nat) (k : Nat) (e : Nat) (w : Nat) (u : Nat) (s : State) (r : PortRun), running s = true ∧ s.ports[p]? = some r ∧ r.pausedUntil[k]? = some (some e) ∧ r.pausedSince[k]? = some w ∧ r.paused[k]? = some u) ∧
    (∃ (p : Nat) (k : Nat) (t : Nat) (s : State) (r : PortRun), 
      let x := begin_ t s
      let f := nth x.work.flows p
      running s = true ∧ x.ports[p]? = some r ∧ mayPause x p k = true ∧ r.xoff.testBit k = false ∧ f.xoff.getD k 0 ≤ r.occupancy.getD k 0 ∧ txEnabled x p = true) ∧
    (∃ (p : Nat) (k : Nat) (s : State) (r : PortRun), 
      let y := moveTo (r.refresh.getD k 0) { s with out := [] }
      running s = true ∧ s.ports[p]? = some r ∧ r.xoff.testBit k = true ∧ (nth s.work.flows p).xon.getD k 0 ≤ r.occupancy.getD k 0 ∧ txEnabled y p = true ∧ mayPause y p k = true) ∧
    (∃ (p : Nat) (k : Nat) (t : Nat) (s : State) (r : PortRun), 
      let x := begin_ t s
      running s = true ∧ x.ports[p]? = some r ∧ r.xoff.testBit k = true ∧ r.occupancy.getD k 0 < (nth x.work.flows p).xon.getD k 0 ∧ txEnabled x p = true ∧ mayPause x p k = true) ∧
    (∃ (p : Nat) (k : Nat) (s : State) (r : PortRun), 
      let y := moveTo (r.refresh.getD k 0) { s with out := [] }
      running s = true ∧ s.ports[p]? = some r ∧ r.xoff.testBit k = true ∧ mayPause y p k = false) ∧
    (∃ (p : Nat) (k : Nat) (t : Nat) (s : State) (r : PortRun), 
      let x := begin_ t s
      running s = true ∧ s.ports[p]? = some r ∧ r.xoff.testBit k = true ∧ mayPause x p k = false ∧ r.occupancy.getD k 0 < (nth x.work.flows p).xon.getD k 0) ∧
    (∃ (p : Nat) (w : Nat) (s : State) (r : PortRun) (v : Window), 
      let y := moveTo ((v.idx + 1) * windowLen s p w) { s with out := [] }
      running s = true ∧ s.ports[p]? = some r ∧ w < 4 ∧ r.windows[w]? = some v ∧ y.now / windowLen s p w = v.idx + 1) :=
  ⟨⟨5, 50, 7, 3, po p10 {} { pauses := [(50, [(7, 3)])] }, { pauses := [(50, [(7, 3)])] }, [], by decide +kernel⟩,
    ⟨5, 50, 7, 0, po p10 {} { pauses := [(50, [(7, 0)])], pausedUntil := List.replicate 8 (some 99) }, { pauses := [(50, [(7, 0)])], pausedUntil := List.replicate 8 (some 99) }, [], by decide +kernel⟩,
    ⟨5, 7, 99, 0, 0, po p10 {} { pausedUntil := List.replicate 8 (some 99) }, { pausedUntil := List.replicate 8 (some 99) }, by decide +kernel⟩,
    ⟨5, 7, 9, po p10 { rxMode := 2, txPfcMask := 128 } { state := .up }, { state := .up }, by decide +kernel⟩,
    ⟨5, 7, po p10 { rxMode := 2, txPfcMask := 128 } { state := .up, xoff := 128 }, { state := .up, xoff := 128 }, by decide +kernel⟩,
    ⟨5, 7, 9, po p10 { rxMode := 2, txPfcMask := 128, xon := [0,0,0,0,0,0,0,5] } { state := .up, xoff := 128 }, { state := .up, xoff := 128 }, by decide +kernel⟩,
    ⟨5, 7, po p10 { rxMode := 2 } { state := .up, xoff := 128 }, { state := .up, xoff := 128 }, by decide +kernel⟩,
    ⟨5, 7, 9, po p10 { rxMode := 2, xon := [0,0,0,0,0,0,0,5] } { state := .up, xoff := 128 }, { state := .up, xoff := 128 }, by decide +kernel⟩,
    ⟨5, 3, po p10 {} { windows := [{}, {}, {}, { idx := 4, count := 9, peak := 3 }] }, { windows := [{}, {}, {}, { idx := 4, count := 9, peak := 3 }] }, { idx := 4, count := 9, peak := 3 }, by decide +kernel⟩⟩

end Ports

namespace Packets

/-- Port 5 with this configuration, ESMC on, service open, and this run-time part. -/
def po (c : PortCfg) (f : FlowCfg) (r : PortRun) : State :=
  { rd with ports := rd.ports.set 5 r, pair := { rd.pair with opened := true }, work := { rd.work with ports := rd.work.ports.set 5 c, flows := rd.work.flows.set 5 f, synces := rd.work.synces.set 5 { flags := 3 } } }

def p10 : PortCfg := { mode := 3, mac := 0x020000000005 }

def upR : PortRun := { state := .up }

/-- A frame to an address, of a type, with a start of payload, padded to n bytes. -/
def fr (da ty : Nat) (pl : Bytes) (n : Nat) : Bytes :=
  let b := beBytes 6 da ++ beBytes 6 0x020000000009 ++ beBytes 2 ty ++ pl
  b ++ List.replicate (n - b.length) 0#8

def withRing (s : State) : State := { s with host := { s.host with rings := s.host.rings.set 7 { enable := true } }, work := { s.work with rings := s.work.rings.set 7 { use := 1, bufCode := 2, codeMask := 0xFF, portMask := 0xFFFF } } }

def esmcF : Bytes := fr 0x0180C2000002 0x8809 [0x0A, 0x00, 0x19, 0xA7, 0x00, 0x01, 0x10, 0,0,0, 1, 0, 4, 2] 60

def tf (t : TxTag) : TxFrame := { bytes := fr 0x020000000005 0x0800 [] 60, prio := 3, tag := t, launch := some 5000000, stamp := 9, launchForm := true }

/-- Service that is open on a port that is up, with this part. -/
def sv (r : SvcRun) : State := { po p10 {} upR with svc := r }

def jobA : Job := { req := { frame := esmcF, port := 5 }, thread := 6, c := 1000000, before := 400000, done := 100000, lane := some (.hmac, 3, 5000, 70000) }

def ptpS : State := let s := po p10 {} upR
  { s with work := { s.work with ptp := [(3, { logSync := -2 })], binds := [{ inst := 3, port := 5, flags := 2 }] }, ptp := { s.ptp with binds := [(53, { state := .master })] } }

def admP : Bytes := pk [(1,15),(1,0),(2,15),(4,100),(4,50),(2,1500),(2,1900),(2,3000),(2,0),(4,77),(8,0)]

/-- States and operands that meet the conditions of `Obligations.FramesInAndOut`, one for each of its clauses. -/
theorem test_FramesInAndOut_met :
    (∃ (p : Nat) (t : Nat) (f : Bytes) (s : State), 
      let x := begin_ t s
      let len := f.length + 4
      let c := portCfg x p
      (portOf x p).state = .up ∧ running x = true ∧ (len < 64 ∨ c.maxFrame < len)) ∧
    (∃ (p : Nat) (t : Nat) (ok : Bool) (f : Bytes) (s : State), 
      let x := begin_ t s
      let len := f.length + 4
      let c := portCfg x p
      (portOf x p).state = .up ∧ running x = true ∧ 64 ≤ len ∧ len ≤ c.maxFrame ∧ ok = false) ∧
    (∃ (p : Nat) (t : Nat) (ok : Bool) (f : Bytes) (s : State), 
      let x := begin_ t s
      let len := f.length + 4
      let c := portCfg x p
      (portOf x p).state = .up ∧ running x = true ∧ 64 ≤ len ∧ len ≤ c.maxFrame ∧ ok = true ∧ fldBE f 12 2 = 0x8808 ∧ fldBE f 14 2 = 1 ∧ (nth x.work.flows p).rxMode = 1) ∧
    (∃ (p : Nat) (t : Nat) (ok : Bool) (f : Bytes) (s : State), 
      let x := begin_ t s
      let len := f.length + 4
      let c := portCfg x p
      (portOf x p).state = .up ∧ running x = true ∧ 64 ≤ len ∧ len ≤ c.maxFrame ∧ ok = true ∧ fldBE f 12 2 = 0x8808 ∧ fldBE f 14 2 = 0x0101 ∧ (nth x.work.flows p).rxMode = 2) ∧
    (∃ (p : Nat) (t : Nat) (ok : Bool) (f : Bytes) (s : State), 
      let x := begin_ t s
      let len := f.length + 4
      let c := portCfg x p
      (portOf x p).state = .up ∧ running x = true ∧ 64 ≤ len ∧ len ≤ c.maxFrame ∧ ok = true ∧ fldBE f 12 2 ≠ 0x8808 ∧ promiscuous c = false ∧ fldBE f 0 6 ≠ c.mac ∧ isGroup (fldBE f 0 6) = false) ∧
    (∃ p : Nat, ∃ t : Nat, ∃ ok : Bool, ∃ f : Bytes, ∃ s : State, ∃ code, 
      let x := begin_ t s
      let len := f.length + 4
      let c := portCfg x p
      let y := countFrame p false (((x.now - len * byteTime c.mode : Nat) : Int) - delayPs c.rxDelay).toNat len x
      let z := portCount p 0 y
      (portOf x p).state = .up ∧ running x = true ∧ 64 ≤ len ∧ len ≤ c.maxFrame ∧ ok = true ∧ fldBE f 12 2 ≠ 0x8808 ∧ (promiscuous c = true ∨ fldBE f 0 6 = c.mac ∨ isGroup (fldBE f 0 6) = true) ∧ roughOf z p f = .clubs code ∧ (svcClosed x = false ∨ sharedLane c = false) ∧ x.work.svc.clubsRate = 0 ∧ ringFor x p code = none) ∧
    (∃ p : Nat, ∃ t : Nat, ∃ ok : Bool, ∃ f : Bytes, ∃ s : State, ∃ code, ∃ r, 
      let x := begin_ t s
      let len := f.length + 4
      let c := portCfg x p
      let y := countFrame p false (((x.now - len * byteTime c.mode : Nat) : Int) - delayPs c.rxDelay).toNat len x
      let z := portCount p 0 y
      (portOf x p).state = .up ∧ running x = true ∧ 64 ≤ len ∧ len ≤ c.maxFrame ∧ ok = true ∧ fldBE f 12 2 ≠ 0x8808 ∧ (promiscuous c = true ∨ fldBE f 0 6 = c.mac ∨ isGroup (fldBE f 0 6) = true) ∧ roughOf z p f = .clubs code ∧ (svcClosed x = false ∨ sharedLane c = false) ∧ x.work.svc.clubsRate = 0 ∧ ringFor x p code = some r ∧ canTake x .clubs (cellsOf len) = true) ∧
    (∃ (p : Nat) (t : Nat) (ok : Bool) (f : Bytes) (s : State), 
      let x := begin_ t s
      let len := f.length + 4
      let c := portCfg x p
      let y := countFrame p false (((x.now - len * byteTime c.mode : Nat) : Int) - delayPs c.rxDelay).toNat len x
      let z := portCount p 0 y
      (portOf x p).state = .up ∧ running x = true ∧ 64 ≤ len ∧ len ≤ c.maxFrame ∧ ok = true ∧ fldBE f 12 2 ≠ 0x8808 ∧ (promiscuous c = true ∨ fldBE f 0 6 = c.mac ∨ isGroup (fldBE f 0 6) = true) ∧ roughOf z p f = .esmc ∧ canTake x .hearts (cellsOf len) = true) ∧
    (∃ (p : Nat) (l : Nat) (s : State) (f : TxFrame) (rest : List TxFrame), 
      let y := moveTo l { s with out := [] }
      let onTime := y.now ≤ l ∧ (portOf y p).lineFree ≤ l ∧ txEnabled y p = true
      running s = true ∧ (portOf s p).timed = f :: rest ∧ f.launch = some l ∧ isPaused y p f.prio = false ∧ onTime ∧ isHost f = false ∧ f.bound = none ∧ f.insert = none) ∧
    (∃ (p : Nat) (l : Nat) (s : State) (f : TxFrame) (rest : List TxFrame), 
      let y := moveTo l { s with out := [] }
      running s = true ∧ (portOf s p).timed = f :: rest ∧ f.launch = some l ∧ isPaused y p f.prio = true ∧ isHost f = false) ∧
    (∃ p : Nat, ∃ l : Nat, ∃ s : State, ∃ f : TxFrame, ∃ rest : List TxFrame, ∃ k, ∃ o, ∃ i, 
      let y := moveTo l { s with out := [] }
      let onTime := y.now ≤ l ∧ (portOf y p).lineFree ≤ l ∧ txEnabled y p = true
      running s = true ∧ (portOf s p).timed = f :: rest ∧ f.launch = some l ∧ isPaused y p f.prio = false ∧ ¬ onTime ∧ f.tag = .response k o i) ∧
    (∃ (p : Nat) (l : Nat) (s : State) (f : TxFrame) (rest : List TxFrame), 
      let y := moveTo l { s with out := [] }
      let onTime := y.now ≤ l ∧ (portOf y p).lineFree ≤ l ∧ txEnabled y p = true
      running s = true ∧ (portOf s p).timed = f :: rest ∧ f.launch = some l ∧ isPaused y p f.prio = false ∧ onTime ∧ isHost f = false ∧ boundRisen (unqueue p f y) p f = true) ∧
    (∃ (p : Nat) (l : Nat) (s : State) (f : TxFrame) (rest : List TxFrame), 
      let y := moveTo l { s with out := [] }
      let onTime := y.now ≤ l ∧ (portOf y p).lineFree ≤ l ∧ txEnabled y p = true
      running s = true ∧ (portOf s p).timed = f :: rest ∧ f.launch = some l ∧ isHost f = true ∧ f.launchForm = false ∧ lateSendTrue (portCfg s p) = true ∧ (isPaused y p f.prio = true ∨ ¬ onTime)) ∧
    (∃ (p : Nat) (t : Nat) (s : State), 
      let x := begin_ t s
      running s = true ∧ nextUntimed x p = none) ∧
    (∃ (p : Nat) (t : Nat) (s : State) (f : TxFrame) (i : Nat), 
      let x := begin_ t s
      running s = true ∧ nextUntimed x p = some f ∧ txEnabled x p = true ∧ (portOf x p).timed = [] ∧ (portOf x p).calendar = [] ∧ f.insert = none ∧ f.tag = .engine i) :=
  ⟨⟨5, 9, fr 5 6 [] 50, po p10 {} upR, by decide +kernel⟩,
    ⟨5, 9, false, fr 5 6 [] 100, po p10 {} upR, by decide +kernel⟩,
    ⟨5, 9, true, fr 0x0180C2000001 0x8808 [0,1,0,9] 60, po p10 { rxMode := 1 } upR, by decide +kernel⟩,
    ⟨5, 9, true, fr 0x0180C2000001 0x8808 [1,1,0,255,0,9] 60, po p10 { rxMode := 2, rxPfcMask := 15 } upR, by decide +kernel⟩,
    ⟨5, 9, true, fr 0x020000000006 0x0800 [] 60, po p10 {} upR, by decide +kernel⟩,
    ⟨5, 9, true, fr 0x020000000005 0x9999 [] 60, po p10 {} upR, 0, by decide +kernel⟩,
    ⟨5, 9, true, fr 0x020000000005 0x9999 [] 60, withRing (po p10 {} upR), 0, 7, by decide +kernel⟩,
    ⟨5, 9, true, esmcF, po p10 {} upR, by decide +kernel⟩,
    ⟨5, 5000000, po p10 {} { upR with timed := [tf (.engine 3)] }, tf (.engine 3), [], by decide +kernel⟩,
    ⟨5, 5000000, po p10 {} { upR with timed := [tf (.engine 3)], pausedUntil := List.replicate 8 (some 99999999) }, tf (.engine 3), [], by decide +kernel⟩,
    ⟨5, 5000000, po p10 {} { upR with timed := [tf (.response .ntpPlain 5 0)], lineFree := 6000000 }, tf (.response .ntpPlain 5 0), [], Kind.ntpPlain, 5, 0, by decide +kernel⟩,
    ⟨5, 5000000, po p10 {} { upR with timed := [{ tf (.engine 3) with bound := some 1 }] }, { tf (.engine 3) with bound := some 1 }, [], by decide +kernel⟩,
    ⟨5, 5000000, po { p10 with flags := 64 } {} { upR with timed := [{ tf (.host 5 3 4 true) with launchForm := false }], lineFree := 6000000 }, { tf (.host 5 3 4 true) with launchForm := false }, [], by decide +kernel⟩,
    ⟨5, 9, po p10 {} upR, by decide +kernel⟩,
    ⟨5, 9, po p10 {} { upR with untimed := [{ tf (.engine 3) with launch := none }] }, { tf (.engine 3) with launch := none }, 3, by decide +kernel⟩⟩

/-- States and operands that meet the conditions of `Obligations.ServiceRuns`, one for each of its clauses. -/
theorem test_ServiceRuns_met :
    (∃ (q : Req) (s : State), startsAt 0x0900 q s = true ∧ fitsN q 48 (svcFields q.params) (svcEntries q.params) 24 (svcAddrFields q.params)) ∧
    (∃ (q : Req) (s : State), 
      let x := started 0x0901 q s
      let a := x.work.adm
      startsAt 0x0901 q s = true ∧ fits q 32 (admFields a q.params)) ∧
    (∃ (q : Req) (s : State), startsAt 0x0902 q s = true ∧ fits q 0 []) ∧
    (∃ (t : Nat) (s : State), 
      let x := begin_ t s
      running s = true ∧ x.svc.waiting = []) ∧
    (∃ (t : Nat) (s : State) (q : Request) (rest : List Request), 
      let x := begin_ t s
      running s = true ∧ x.svc.waiting = q :: rest ∧ svcClosed x = false) ∧
    (∃ (h : Nat) (j : Nat) (w : Nat) (s : State) (b : Job), running s = true ∧ (threadOf s h).running = some (j, w) ∧ getKey j s.svc.jobs = some b ∧ (b.lane = none ∨ b.laneCalled = true)) ∧
    (∃ h : Nat, ∃ j : Nat, ∃ w : Nat, ∃ s : State, ∃ b : Job, ∃ k, ∃ o, ∃ lat, ∃ f, running s = true ∧ (threadOf s h).running = some (j, w) ∧ getKey j s.svc.jobs = some b ∧ b.lane = some (.hmac, k, o, lat) ∧ b.laneCalled = false ∧ s.svc.hmacFree[k]? = some f) ∧
    (∃ (h : Nat) (j : Nat) (s : State) (th : Thread), running s = true ∧ s.svc.threads[h]? = some th ∧ th.holding = some j ∧ nextLaneDone s h = some j) ∧
    (∃ (i : Nat) (p : Nat) (mtype : Nat) (per : Nat) (phase : Nat) (base : Nat) (g : Option Nat) (s : State) (c : PtpCfg) (b : BindCfg), 
      let k := ((curTs s : Int) + 131072000 - phase) / (per : Int) + 1
      let at_ := (k * per + phase).toNat
      (portOf s p).state = .up ∧ running s = true ∧ 0 < per ∧ scheduleOf { s with out := [] } i p mtype g = some (per, phase, base) ∧ instCfg s i = some c ∧ bindCfg s i p = some b ∧ svcClosed s = false ∧ (scheduleOf (moveToCounter ((at_ - 131072000) * 2 ^ 32) { s with out := [] }) i p mtype g).isSome = true) ∧
    (∃ (s : State) (f : Nat), running s = true ∧ s.svc.shedding = true ∧ s.svc.freeSince = some f) ∧
    (∃ (e : Nat) (t : Nat) (s : State), 
      let x := begin_ t s
      running s = true ∧ e < 16 ∧ x.svc.faulty.testBit e = false) :=
  ⟨⟨rq (pk [(1,7),(1,5),(1,2),(1,0),(4,100),(4,200),(4,300),(4,400),(4,500),(4,600),(4,700),(4,800),(4,900),(4,1000),(4,0), (1,4),(1,0),(2,5),(4,0),(4,7),(12,0), (1,6),(1,0),(2,9),(4,0),(16,7777)]), rd, by decide +kernel⟩,
    ⟨rq admP, rd, by decide +kernel⟩,
    ⟨rq [], sv { shedding := true, cells := [1,2,3,4], txCells := 9 }, by decide +kernel⟩,
    ⟨9, rd, by decide +kernel⟩,
    ⟨9, sv { waiting := [{ frame := esmcF, port := 5, suit := .hearts }] }, { frame := esmcF, port := 5, suit := .hearts }, [], by decide +kernel⟩,
    ⟨6, 77, 5000, sv { jobs := [(77, { jobA with laneCalled := true })], threads := ({} : SvcRun).threads.set 6 { running := some (77, 5000) } }, { jobA with laneCalled := true }, by decide +kernel⟩,
    ⟨6, 77, 5000, sv { jobs := [(77, jobA)], threads := ({} : SvcRun).threads.set 6 { running := some (77, 5000) } }, jobA, 3, 5000, 70000, 0, by decide +kernel⟩,
    ⟨6, 77, sv { jobs := [(77, { jobA with laneCalled := true, laneDone := 9000 })], threads := ({} : SvcRun).threads.set 6 { holding := some 77 } }, { holding := some 77 }, by decide +kernel⟩,
    ⟨3, 5, 0, 250000000 * 65536, 0, 0, none, ptpS, { logSync := -2 }, { inst := 3, port := 5, flags := 2 }, by decide +kernel⟩,
    ⟨sv { shedding := true, freeSince := some 5 }, 5, by decide +kernel⟩,
    ⟨3, 9, sv { jobs := [(77, { jobA with thread := 13 }), (78, jobA)], threads := ({} : SvcRun).threads.set 13 { holding := some 77 } }, by decide +kernel⟩⟩

end Packets

namespace Ptp

/-- Instances 3 (configured c) and 7, in both sets; this binding of 3; its run-time part. -/
def pt (c : PtpCfg) (b : BindCfg) (r : BindRun) : State :=
  let f := fun (w : Cfg) => { w with ptp := [(3, c), (7, { domain := 9 })], binds := [b] }
  { rd with shadow := f rd.shadow, work := f rd.work, pair := { rd.pair with opened := true }, ports := rd.ports.set 5 { state := .up }, ptp := { rd.ptp with binds := [(16 * b.inst + b.port, r)] } }

def bd : BindCfg := { inst := 3, port := 5, transport := 1, flags := 2 }

def gr (k m : Nat) (i : Nat) : Nat × Grant := (k, { inst := i, port := 5, mtype := m, addr := 0x0A000001 + k, expiry := 1000 + k })

def pg (s : State) : State := { s with ptp := { s.ptp with grants := [gr 1 0 3, gr 2 11 3, gr 3 9 3, gr 4 0 7, gr 900 0 3] } }

def pa (s : State) (t : Bool) (p : Option (Nat × Announce)) : State := { s with ptp := { s.ptp with insts := s.ptp.insts.set 3 { tracking := t, parent := p, samples := 5, clockClassSent := 6 } } }

def instP : Bytes := pk [(1,3),(1,1),(1,2),(1,3),(1,254),(1,1),(1,253),(1,5),(1,3),(1,0),(1,0),(1,9),(2,77),(2,0),(6,12345),(2,0),(4,55),(4,300),(1,254),(1,0),(1,254),(1,0),(1,254),(1,0),(2,0),(8,1000),(2,0),(2,0),(4,0)]

def bindP (i n t nUp fl : Nat) : Bytes := pk ([(1,i),(1,n),(1,1),(1,t),(1,1),(1,fl),(1,9),(1,nUp),(4,0),(2,if nUp = 0 then 0 else 99),(1,0),(1,0),(1,0),(1,14),(6,0),(8,2^64-5)] ++ (List.range nUp).flatMap fun k => [(16,k+1),(1,7),(7,0)])

def up (g : Bool) (m : Nat) (s : State) : State := { s with ptp := { s.ptp with upGrants := [{ inst := 3, port := 5, upstream := 1, mtype := m, granted := g, renewAt := some 9000 }] } }

def bdU : BindCfg := { bd with flags := 8, upDuration := 99, upLogAnnounce := 1, upLogSync := -2, upLogDelay := -3, upstreams := [{ addr := 4, localPriority := 1 }, { addr := 5, localPriority := 2 }] }

def saP (k er alg slot kid : Nat) : Bytes := pk [(1,k),(1,er),(1,alg),(1,0),(1,if er = 1 then 0 else 7),(1,0),(2,slot),(4,kid),(4,0)]

/-- Slot 12 is full; association 5 is loaded; instance 3 uses association 6. -/
def sa : State := { rd with kitty := { rd.kitty with slots := [(12, { key := List.replicate 32 1#8 })] }, shadow := { rd.shadow with sas := [(5, { alg := 1, spp := 7, keyId := 99 }), (6, {})], ptp := [(3, { authMode := 1, txSa := 6 })] } }

/-- States and operands that meet the conditions of `Obligations.PtpCommands`, one for each of its clauses. -/
theorem test_PtpCommands_met :
    (∃ (q : Req) (s : State), 
      let x := started 0x0A00 q s
      let p := q.params
      let i := fld p 0 1
      startsAt 0x0A00 q s = true ∧ fits q 16 (createFields q.params) ∧ getKey i x.shadow.ptp = none) ∧
    (∃ (q : Req) (s : State), 
      let x := started 0x0A00 q s
      let p := q.params
      let i := fld p 0 1
      startsAt 0x0A00 q s = true ∧ fits q 16 (createFields q.params) ∧ getKey i x.shadow.ptp ≠ none) ∧
    (∃ (q : Req) (s : State) (c : PtpCfg), 
      let x := started 0x0A01 q s
      let p := q.params
      let i := fld p 0 1
      startsAt 0x0A01 q s = true ∧ getKey i x.shadow.ptp = some c ∧ fits q 56 (instFields x.shadow.sas c p)) ∧
    (∃ (q : Req) (s : State), 
      let x := started 0x0A01 q s
      let p := q.params
      let i := fld p 0 1
      startsAt 0x0A01 q s = true ∧ getKey i x.shadow.ptp = none ∧ fits q 56 [inF 0 1 0 63]) ∧
    (∃ (q : Req) (s : State), 
      let x := started 0x0A02 q s
      let i := fld q.params 0 1
      startsAt 0x0A02 q s = true ∧ fits q 4 [inF 0 1 0 63, inF 1 1 0 1, rsvF 2 2] ∧ getKey i x.shadow.ptp ≠ none) ∧
    (∃ (q : Req) (s : State), 
      let x := started 0x0A02 q s
      let i := fld q.params 0 1
      startsAt 0x0A02 q s = true ∧ fits q 4 [inF 0 1 0 63, inF 1 1 0 1, rsvF 2 2] ∧ getKey i x.shadow.ptp = none) ∧
    (∃ (q : Req) (s : State) (c : PtpCfg), 
      let x := started 0x0A03 q s
      let p := q.params
      let i := fld p 0 1
      let n := fld p 1 1
      let others : List BindCfg := otherBinds x.shadow i n
      let mine : List BindCfg := others.filter (fun b => b.inst == i)
      let clash : Prop := ∃ b, b ∈ others ∧ b.port = n ∧ b.transport = fld p 3 1 ∧ ∃ d ∈ getKey b.inst x.shadow.ptp, d.domain = c.domain
      let tooMany : Prop := c.role = 1 ∧ mine ≠ [] ∨ c.role = 2 ∧ 8 ≤ mine.length
      let full : Prop := 8 ≤ (others.filter (fun (b : BindCfg) => b.port == n)).length ∨ 256 ≤ others.length
      startsAt 0x0A03 q s = true ∧ getKey i x.shadow.ptp = some c ∧ fld p 2 1 = 1 ∧ fitsN q 32 (bindFields c p) (min 4 (fld p 7 1)) 24 (upstreamFields p) ∧ ¬ clash ∧ ¬ tooMany ∧ ¬ full) ∧
    (∃ (q : Req) (s : State) (c : PtpCfg), 
      let x := started 0x0A03 q s
      let p := q.params
      let i := fld p 0 1
      let n := fld p 1 1
      let others : List BindCfg := otherBinds x.shadow i n
      let mine : List BindCfg := others.filter (fun b => b.inst == i)
      let clash : Prop := ∃ b, b ∈ others ∧ b.port = n ∧ b.transport = fld p 3 1 ∧ ∃ d ∈ getKey b.inst x.shadow.ptp, d.domain = c.domain
      let tooMany : Prop := c.role = 1 ∧ mine ≠ [] ∨ c.role = 2 ∧ 8 ≤ mine.length
      startsAt 0x0A03 q s = true ∧ getKey i x.shadow.ptp = some c ∧ fld p 2 1 = 1 ∧ fitsN q 32 (bindFields c p) (min 4 (fld p 7 1)) 24 (upstreamFields p) ∧ (clash ∨ tooMany)) ∧
    (∃ (q : Req) (s : State) (c : PtpCfg), 
      let x := started 0x0A03 q s
      let p := q.params
      let i := fld p 0 1
      let n := fld p 1 1
      let others : List BindCfg := otherBinds x.shadow i n
      let mine : List BindCfg := others.filter (fun b => b.inst == i)
      let clash : Prop := ∃ b, b ∈ others ∧ b.port = n ∧ b.transport = fld p 3 1 ∧ ∃ d ∈ getKey b.inst x.shadow.ptp, d.domain = c.domain
      let tooMany : Prop := c.role = 1 ∧ mine ≠ [] ∨ c.role = 2 ∧ 8 ≤ mine.length
      let full : Prop := 8 ≤ (others.filter (fun (b : BindCfg) => b.port == n)).length ∨ 256 ≤ others.length
      startsAt 0x0A03 q s = true ∧ getKey i x.shadow.ptp = some c ∧ fld p 2 1 = 1 ∧ fitsN q 32 (bindFields c p) (min 4 (fld p 7 1)) 24 (upstreamFields p) ∧ ¬ clash ∧ ¬ tooMany ∧ full) ∧
    (∃ (q : Req) (s : State) (c : PtpCfg), 
      let x := started 0x0A03 q s
      let p := q.params
      let i := fld p 0 1
      let n := fld p 1 1
      startsAt 0x0A03 q s = true ∧ getKey i x.shadow.ptp = some c ∧ fld p 2 1 = 0 ∧ fits q 4 [inF 0 1 0 63, inF 1 1 0 15, inF 2 1 0 1] ∧ (∃ b, b ∈ x.shadow.binds ∧ b.inst = i ∧ b.port = n)) ∧
    (∃ (q : Req) (s : State) (c : PtpCfg), 
      let x := started 0x0A03 q s
      let p := q.params
      let i := fld p 0 1
      let n := fld p 1 1
      startsAt 0x0A03 q s = true ∧ getKey i x.shadow.ptp = some c ∧ fld p 2 1 = 0 ∧ fits q 4 [inF 0 1 0 63, inF 1 1 0 15, inF 2 1 0 1] ∧ (¬ ∃ b, b ∈ x.shadow.binds ∧ b.inst = i ∧ b.port = n)) ∧
    (∃ (q : Req) (s : State), startsAt 0x0A04 q s = true ∧ fits q 4 [inF 0 1 0 63, rsvF 1 3]) ∧
    (∃ (q : Req) (s : State), startsAt 0x0A10 q s = true ∧ fits q 24 (queryFields q.params)) ∧
    (∃ (q : Req) (s : State), 
      let x := started 0x0A11 q s
      startsAt 0x0A11 q s = true ∧ fits q 20 (revokeFields q.params) ∧ isDummy x = true) ∧
    (∃ (q : Req) (s : State), 
      let x := started 0x0A11 q s
      startsAt 0x0A11 q s = true ∧ fits q 20 (revokeFields q.params) ∧ isDummy x = false) ∧
    (∃ (q : Req) (s : State), 
      let x := started 0x0A20 q s
      let p := q.params
      let k := fld p 0 1
      let used : Prop := ∃ e, e ∈ x.shadow.ptp ∧ e.2.authMode ≠ 0 ∧ e.2.txSa = k
      startsAt 0x0A20 q s = true ∧ fits q 16 (saFields q.params) ∧ fld p 1 1 = 1 ∧ ¬ used) ∧
    (∃ (q : Req) (s : State), 
      let x := started 0x0A20 q s
      let p := q.params
      let k := fld p 0 1
      let used : Prop := ∃ e, e ∈ x.shadow.ptp ∧ e.2.authMode ≠ 0 ∧ e.2.txSa = k
      startsAt 0x0A20 q s = true ∧ fits q 16 (saFields q.params) ∧ fld p 1 1 = 1 ∧ used) ∧
    (∃ (q : Req) (s : State), 
      let x := started 0x0A20 q s
      let p := q.params
      startsAt 0x0A20 q s = true ∧ fits q 16 (saFields q.params) ∧ fld p 1 1 = 0 ∧ kittyKey x (fld p 6 2) = none) ∧
    (∃ (q : Req) (s : State), 
      let x := started 0x0A20 q s
      let p := q.params
      let k := fld p 0 1
      let twin : Prop := ∃ e, e ∈ x.shadow.sas ∧ e.1 ≠ k ∧ e.2.spp = fld p 4 1 ∧ e.2.keyId = fld p 8 4
      startsAt 0x0A20 q s = true ∧ fits q 16 (saFields q.params) ∧ fld p 1 1 = 0 ∧ kittyKey x (fld p 6 2) ≠ none ∧ twin) ∧
    (∃ (q : Req) (s : State), 
      let x := started 0x0A20 q s
      let p := q.params
      let k := fld p 0 1
      let twin : Prop := ∃ e, e ∈ x.shadow.sas ∧ e.1 ≠ k ∧ e.2.spp = fld p 4 1 ∧ e.2.keyId = fld p 8 4
      startsAt 0x0A20 q s = true ∧ fits q 16 (saFields q.params) ∧ fld p 1 1 = 0 ∧ kittyKey x (fld p 6 2) ≠ none ∧ ¬ twin) :=
  ⟨⟨rq (pk [(1,4),(1,2),(1,1),(1,24),(1,4),(3,0),(8,77)]), pt {} bd {}, by decide +kernel⟩,
    ⟨rq (pk [(1,3),(1,2),(1,1),(1,24),(1,4),(3,0),(8,77)]), pt {} bd {}, by decide +kernel⟩,
    ⟨rq instP, pt { profile := 0, role := 1, flags := 3 } bd {}, { profile := 0, role := 1, flags := 3 }, by decide +kernel⟩,
    ⟨rq (4 :: instP.tail), pt {} bd {}, by decide +kernel⟩,
    ⟨rq (pk [(1,3),(1,1),(2,0)]), pt {} bd {}, by decide +kernel⟩,
    ⟨rq (pk [(1,4),(1,1),(2,0)]), pt {} bd {}, by decide +kernel⟩,
    ⟨rq (bindP 3 6 1 0 2), pt { role := 2 } bd {}, { role := 2 }, by decide +kernel⟩,
    ⟨rq (bindP 3 6 1 0 2), pt { role := 1 } bd {}, { role := 1 }, by decide +kernel⟩,
    ⟨rq (bindP 3 5 1 0 2), (let s := pt { role := 2 } bd {}; { s with shadow := { s.shadow with binds := (List.range 8).map fun k => { inst := 10 + k, port := 5 } } }), { role := 2 }, by decide +kernel⟩,
    ⟨rq (pk [(1,3),(1,5),(1,0),(1,77)]), pt {} bd {}, {}, by decide +kernel⟩,
    ⟨rq (pk [(1,3),(1,6),(1,0),(1,77)]), pt {} bd {}, {}, by decide +kernel⟩,
    ⟨rq (pk [(1,3),(3,0)]), pg (pa (pt {} bd { state := .slave }) true none), by decide +kernel⟩,
    ⟨rq (pk [(1,3),(1,0),(1,0),(1,2),(4,2),(16,0)]), pg (pt {} bd {}), by decide +kernel⟩,
    ⟨rq (pk [(1,3),(1,1),(1,3),(1,0),(16,0)]), inPair (pg (pt {} bd {})), by decide +kernel⟩,
    ⟨rq (pk [(1,3),(1,1),(1,3),(1,0),(16,0)]), pg (pt {} bd {}), by decide +kernel⟩,
    ⟨rq (saP 5 1 0 0 0), sa, by decide +kernel⟩,
    ⟨rq (saP 6 1 0 0 0), sa, by decide +kernel⟩,
    ⟨rq (saP 6 0 1 13 0), sa, by decide +kernel⟩,
    ⟨rq (saP 9 0 1 12 99), sa, by decide +kernel⟩,
    ⟨rq (saP 9 0 1 12 98), sa, by decide +kernel⟩⟩

/-- States and operands that meet the conditions of `Obligations.PtpTimers`, one for each of its clauses. -/
theorem test_PtpTimers_met :
    (∃ (i : Nat) (p : Nat) (s : State) (c : PtpCfg) (b : BindCfg), running s = true ∧ instCfg s i = some c ∧ bindCfg s i p = some b ∧ ((bindRun s i p).state = .listening ∨ (bindRun s i p).state = .passive ∨ (bindRun s i p).state = .uncalibrated ∨ (bindRun s i p).state = .slave)) ∧
    (∃ (i : Nat) (p : Nat) (s : State) (w : SyncWait), running s = true ∧ (bindRun s i p).sync = some w) ∧
    (∃ (i : Nat) (p : Nat) (s : State) (a : Announce), running s = true ∧ (instRun s i).parent = some (p, a) ∧ (instRun s i).tracking = true) ∧
    (∃ (i : Nat) (p : Nat) (s : State), running s = true ∧ (bindRun s i p).delays ≠ []) ∧
    (∃ (k : Nat) (s : State) (g : Grant), running s = true ∧ getKey k s.ptp.grants = some g) ∧
    (∃ (i : Nat) (s : State) (c : PtpCfg), instCfg s i = some c ∧ c.profile = 5 ∧ running s = true ∧ bindsOf s i = []) ∧
    (∃ i : Nat, ∃ s : State, ∃ c : PtpCfg, ∃ b, instCfg s i = some c ∧ c.profile = 5 ∧ running s = true ∧ bindsOf s i = [b] ∧ (bindRun s i b.port).state = .master ∧ (portOf s b.port).state = .up ∧ svcClosed s = false) ∧
    (∃ (i : Nat) (p : Nat) (k : Nat) (m : Nat) (d : Nat) (s : State) (g : UpGrant) (b : BindCfg), running s = true ∧ upGrantOf s i p k m = some g ∧ g.renewAt = some d ∧ bindCfg s i p = some b ∧ g.granted = true) ∧
    (∃ (i : Nat) (p : Nat) (k : Nat) (m : Nat) (d : Nat) (s : State) (g : UpGrant) (b : BindCfg), running s = true ∧ upGrantOf s i p k m = some g ∧ g.renewAt = some d ∧ bindCfg s i p = some b ∧ g.granted = false) :=
  ⟨⟨3, 5, pa (pt {} bd { state := .slave }) true (some (5, {})), {}, bd, by decide +kernel⟩,
    ⟨3, 5, pt {} bd { sync := some { seq := 4, deadline := 9000 }, later := [{ seq := 5, deadline := 9900 }] }, { seq := 4, deadline := 9000 }, by decide +kernel⟩,
    ⟨3, 5, pa (pt {} bd { state := .slave, lastSync := some (7, 5, 0) }) true (some (5, {})), {}, by decide +kernel⟩,
    ⟨3, 5, pt {} bd { state := .slave, delays := [4, 5], delayAt := 8888 }, by decide +kernel⟩,
    ⟨3, pg (pt {} bd {}), (gr 3 9 3).2, by decide +kernel⟩,
    ⟨3, pt { profile := 5 } { bd with inst := 7 } {}, { profile := 5 }, by decide +kernel⟩,
    ⟨3, pt { profile := 5 } bd { state := .master }, { profile := 5 }, bd, by decide +kernel⟩,
    ⟨3, 5, 1, 11, 9000, up true 11 (pt {} bdU {}), { inst := 3, port := 5, upstream := 1, mtype := 11, granted := true, renewAt := some 9000 }, bdU, by decide +kernel⟩,
    ⟨3, 5, 1, 0, 9000, up false 0 (pt {} bdU {}), { inst := 3, port := 5, upstream := 1, mtype := 0, renewAt := some 9000 }, bdU, by decide +kernel⟩⟩

end Ptp

namespace Services

def cfgP (c d : Nat) : Bytes := pk [(1,3),(1,1),(1,5),(1,2),(1,3),(1,c),(1,d),(1,0),(2,9),(2,0),(4,77)]

def rateP (set n : Nat) : Bytes := if set = 0 then List.replicate 16 0#8 else pk ([(1,1),(1,2),(1,9),(1,64),(4,5),(2,6),(1,n),(1,0),(4,70)] ++ (List.range n).flatMap fun k => [(1,if k = 0 then 4 else 6),(1,9),(2,0),(16,if k = 0 then 7 else 2^120)])

/-- NTP instance 3 with this run-time part, its configuration as given; slot 12 of the Kitty is full. -/
def nt (c : NtpCfg) (r : NtpRun) : State :=
  { rd with kitty := { rd.kitty with slots := [(12, { key := List.replicate 32 1#8 })] }, work := { rd.work with ntp := rd.work.ntp.set 3 c }, ntp := { rd.ntp with insts := rd.ntp.insts.set 3 r } }

def symS (n : Nat) : State := let s := nt {} {}; { s with shadow := { s.shadow with symKeys := (List.range n).map fun k => (3 * 2 ^ 32 + 1 + k, {}) } }

def keyP (ty er slot id : Nat) : Bytes := pk [(1,ty),(1,3),(1,er),(1,0),(2,slot),(2,0),(4,id)]

def nx (s : State) (n : NextLoad) : State := { s with shadow := { s.shadow with ntsNext := s.shadow.ntsNext.set 3 n } }

def rotP (c : Nat) (ns : Nat) : Bytes := pk [(1,3),(1,c),(2,0),(2,0),(4,ns),(6,0)]

def r45 : NtpRun := { current := { epoch := 4 }, next := { epoch := 5, key := [1#8] } }

def mintP : Bytes := pk [(1,3),(1,8),(2,15),(4,0),(32,7),(32,9)]

def ba (n : Nat) : Batch := { id := 77, seed := List.replicate 32 1#8, first := 9, leaves := (List.range n).map fun k => { head := List.replicate 76 5#8, port := 5, prio := k, frame := List.replicate 120 9#8 } }

def bs (o : Option Batch) (c : List Batch) (st : PortState) : State := { rd with pair := { rd.pair with opened := true }, ports := rd.ports.set 5 { state := st }, work := { rd.work with ports := rd.work.ports.set 5 { mode := 3 }, rcpt := { enable := true } }, ntp := { rd.ntp with open_ := o, closed := c, pending := 9 } }

/-- States and operands that meet the conditions of `Obligations.TimeServiceCommands`, one for each of its clauses. -/
theorem test_TimeServiceCommands_met :
    (∃ (q : Req) (s : State), 
      let x := started 0x0B00 q s
      let p := q.params
      startsAt 0x0B00 q s = true ∧ fits q 16 (ntpCfgFields x p)) ∧
    (∃ (q : Req) (s : State), 
      let p := q.params
      let n := if fld p 0 1 = 1 then min 16 (fld p 10 1) else 0
      startsAt 0x0B01 q s = true ∧ fitsN q 16 (rateFields p) n 20 (exemptFields p)) ∧
    (∃ (q : Req) (s : State), startsAt 0x0B02 q s = true ∧ fits q 4 [inF 0 1 0 15, rsvF 1 3]) ∧
    (∃ (q : Req) (s : State), 
      let x := started 0x0B10 q s
      let p := q.params
      let slot := fld p 4 2
      startsAt 0x0B10 q s = true ∧ fits q 12 (keyLoadFields x p) ∧ fld p 2 1 = 0 ∧ kittyKey x slot = none) ∧
    (∃ (q : Req) (s : State), 
      let x := started 0x0B10 q s
      let p := q.params
      let slot := fld p 4 2
      startsAt 0x0B10 q s = true ∧ fits q 12 (keyLoadFields x p) ∧ fld p 2 1 = 0 ∧ kittyKey x slot ≠ none ∧ fld p 0 1 = 1 ∧ 1024 ≤ x.shadow.symKeys.length) ∧
    (∃ (q : Req) (s : State), 
      let x := started 0x0B10 q s
      let p := q.params
      let slot := fld p 4 2
      startsAt 0x0B10 q s = true ∧ fits q 12 (keyLoadFields x p) ∧ fld p 2 1 = 0 ∧ kittyKey x slot ≠ none ∧ fld p 0 1 = 1 ∧ x.shadow.symKeys.length < 1024) ∧
    (∃ (q : Req) (s : State), 
      let x := started 0x0B10 q s
      let p := q.params
      let slot := fld p 4 2
      startsAt 0x0B10 q s = true ∧ fits q 12 (keyLoadFields x p) ∧ fld p 2 1 = 0 ∧ kittyKey x slot ≠ none ∧ fld p 0 1 = 0) ∧
    (∃ (q : Req) (s : State), 
      let x := started 0x0B10 q s
      let p := q.params
      startsAt 0x0B10 q s = true ∧ fits q 12 (keyLoadFields x p) ∧ fld p 2 1 = 1 ∧ fld p 0 1 = 1) ∧
    (∃ (q : Req) (s : State), 
      let x := started 0x0B10 q s
      let p := q.params
      let i := fld p 1 1
      let id := fld p 8 4
      startsAt 0x0B10 q s = true ∧ fits q 12 (keyLoadFields x p) ∧ fld p 2 1 = 1 ∧ fld p 0 1 = 0 ∧ id = (ntpRun x i).current.epoch ∧ id ≠ 0) ∧
    (∃ (q : Req) (s : State), 
      let x := started 0x0B10 q s
      let p := q.params
      let i := fld p 1 1
      let id := fld p 8 4
      startsAt 0x0B10 q s = true ∧ fits q 12 (keyLoadFields x p) ∧ fld p 2 1 = 1 ∧ fld p 0 1 = 0 ∧ (id ≠ (ntpRun x i).current.epoch ∨ id = 0)) ∧
    (∃ (q : Req) (s : State) (r : NtpRun), 
      let x := started 0x0B11 q s
      let p := q.params
      let i := fld p 0 1
      startsAt 0x0B11 q s = true ∧ fits q 16 (rotateFields q.params) ∧ x.ntp.insts[i]? = some r ∧ isDummy x = true) ∧
    (∃ (q : Req) (s : State) (r : NtpRun), 
      let x := started 0x0B11 q s
      let p := q.params
      let i := fld p 0 1
      startsAt 0x0B11 q s = true ∧ fits q 16 (rotateFields q.params) ∧ x.ntp.insts[i]? = some r ∧ isDummy x = false ∧ fld p 1 1 = 1) ∧
    (∃ (q : Req) (s : State) (r : NtpRun), 
      let x := started 0x0B11 q s
      let p := q.params
      let i := fld p 0 1
      startsAt 0x0B11 q s = true ∧ fits q 16 (rotateFields q.params) ∧ x.ntp.insts[i]? = some r ∧ isDummy x = false ∧ fld p 1 1 = 0 ∧ r.next.epoch = 0) ∧
    (∃ (q : Req) (s : State) (r : NtpRun), 
      let x := started 0x0B11 q s
      let p := q.params
      let i := fld p 0 1
      let at_ := tsOfField (fld p 4 12)
      startsAt 0x0B11 q s = true ∧ fits q 16 (rotateFields q.params) ∧ x.ntp.insts[i]? = some r ∧ isDummy x = false ∧ fld p 1 1 = 0 ∧ r.next.epoch ≠ 0 ∧ at_ = 0) ∧
    (∃ (q : Req) (s : State) (r : NtpRun), 
      let x := started 0x0B11 q s
      let p := q.params
      let i := fld p 0 1
      let at_ := tsOfField (fld p 4 12)
      startsAt 0x0B11 q s = true ∧ fits q 16 (rotateFields q.params) ∧ x.ntp.insts[i]? = some r ∧ isDummy x = false ∧ fld p 1 1 = 0 ∧ r.next.epoch ≠ 0 ∧ at_ ≠ 0 ∧ (r.rotateAt ≠ none ∨ at_ ≤ curTs x)) ∧
    (∃ (q : Req) (s : State) (r : NtpRun), 
      let x := started 0x0B11 q s
      let p := q.params
      let i := fld p 0 1
      let at_ := tsOfField (fld p 4 12)
      startsAt 0x0B11 q s = true ∧ fits q 16 (rotateFields q.params) ∧ x.ntp.insts[i]? = some r ∧ isDummy x = false ∧ fld p 1 1 = 0 ∧ r.next.epoch ≠ 0 ∧ at_ ≠ 0 ∧ r.rotateAt = none ∧ curTs x < at_) ∧
    (∃ (q : Req) (s : State), 
      let x := started 0x0B12 q s
      let i := fld q.params 0 1
      let e := (ntpRun x i).current.epoch
      let able : Prop := (ntpCfg x i).flags.testBit 2 = true ∧ e ≠ 0
      startsAt 0x0B12 q s = true ∧ fits q 72 [inF 0 1 0 15, inF 1 1 1 8, inF 2 2 15 15, rsvF 4 4, anyF 8 32, anyF 40 32] ∧ ¬ able) ∧
    (∃ (q : Req) (s : State), 
      let x := started 0x0B12 q s
      let i := fld q.params 0 1
      let e := (ntpRun x i).current.epoch
      let able : Prop := (ntpCfg x i).flags.testBit 2 = true ∧ e ≠ 0
      startsAt 0x0B12 q s = true ∧ fits q 72 [inF 0 1 0 15, inF 1 1 1 8, inF 2 2 15 15, rsvF 4 4, anyF 8 32, anyF 40 32] ∧ able) ∧
    (∃ (q : Req) (s : State), 
      let x := started 0x0B20 q s
      let p := q.params
      startsAt 0x0B20 q s = true ∧ fits q 8 [inF 0 1 0 1, rsvF 1 1, F 2 2 (fun v => v != 0 && v != 123 && v != 319 && v != 320), inF 4 2 0 4095, rsvF 6 2] ∧ fld p 0 1 = 1 ∧ kittyKey x (fld p 4 2) = none) ∧
    (∃ (q : Req) (s : State), 
      let x := started 0x0B20 q s
      let p := q.params
      startsAt 0x0B20 q s = true ∧ fits q 8 [inF 0 1 0 1, rsvF 1 1, F 2 2 (fun v => v != 0 && v != 123 && v != 319 && v != 320), inF 4 2 0 4095, rsvF 6 2] ∧ (fld p 0 1 = 0 ∨ kittyKey x (fld p 4 2) ≠ none)) ∧
    (∃ (q : Req) (s : State), startsAt 0x0B21 q s = true ∧ fits q 0 []) :=
  ⟨⟨rq (cfgP 140 248), rd, by decide +kernel⟩,
    ⟨rq (rateP 1 2), (let s := rd; { s with work := { s.work with rate := { exempt := [{}, { v6 := true }] } } }), by decide +kernel⟩,
    ⟨rq (pk [(1,3),(3,0)]), nt { enable := true } { r45 with rotateAt := some 5, plain := 5, nts := 7 }, by decide +kernel⟩,
    ⟨rq (keyP 1 0 13 99), rd, by decide +kernel⟩,
    ⟨rq (keyP 1 0 12 0xFFFFFF00), symS 1024, by decide +kernel⟩,
    ⟨rq (keyP 1 0 12 0xFFFFFF00), symS 2, by decide +kernel⟩,
    ⟨rq (keyP 0 0 12 5), nx (nt {} r45) { epoch := 5 }, by decide +kernel⟩,
    ⟨rq (keyP 1 1 0 2), symS 4, by decide +kernel⟩,
    ⟨rq (keyP 0 1 0 4), nt {} r45, by decide +kernel⟩,
    ⟨rq (keyP 0 1 0 5), nt {} r45, by decide +kernel⟩,
    ⟨rq (rotP 0 0), inPair (nt {} r45), r45, by decide +kernel⟩,
    ⟨rq (rotP 1 0), nt {} { r45 with rotateAt := some 99 }, { r45 with rotateAt := some 99 }, by decide +kernel⟩,
    ⟨rq (rotP 0 0), nt {} {}, {}, by decide +kernel⟩,
    ⟨rq (rotP 0 0), nt {} r45, r45, by decide +kernel⟩,
    ⟨rq (rotP 0 90000), nt {} { r45 with rotateAt := some 99 }, { r45 with rotateAt := some 99 }, by decide +kernel⟩,
    ⟨rq (rotP 0 90000), nt {} r45, r45, by decide +kernel⟩,
    ⟨rq mintP, nt { flags := 4 } {}, by decide +kernel⟩,
    ⟨rq mintP, nt { flags := 4 } r45, by decide +kernel⟩,
    ⟨rq (pk [(1,1),(1,0),(2,999),(2,13),(2,0)]), nt {} {}, by decide +kernel⟩,
    ⟨rq (pk [(1,1),(1,0),(2,999),(2,12),(2,0)]), nt {} {}, by decide +kernel⟩,
    ⟨rq [], bs (some (ba 1)) [] .up, by decide +kernel⟩⟩

/-- States and operands that meet the conditions of `Obligations.RotationsAndBatches`, one for each of its clauses. -/
theorem test_RotationsAndBatches_met :
    (∃ (i : Nat) (a : Nat) (s : State) (r : NtpRun), running s = true ∧ s.ntp.insts[i]? = some r ∧ r.rotateAt = some a) ∧
    (∃ (s : State) (b : Batch), running s = true ∧ s.ntp.open_ = some b) ∧
    (∃ (t : Nat) (s : State), 
      let x := begin_ t s
      running s = true ∧ x.ntp.closed = []) ∧
    (∃ t : Nat, ∃ s : State, ∃ b, ∃ rest, 
      let x := begin_ t s
      running s = true ∧ x.ntp.closed = b :: rest) :=
  ⟨⟨3, 90000 * 65536, nt {} { r45 with rotateAt := some (90000 * 65536) }, { r45 with rotateAt := some (90000 * 65536) }, by decide +kernel⟩,
    ⟨bs (some (ba 3)) [ba 1] .up, ba 3, by decide +kernel⟩,
    ⟨9, rd, by decide +kernel⟩,
    ⟨9, bs none [ba 1] .up, ba 1, ([] : List Batch), by decide +kernel⟩⟩

end Services

namespace Pair

/-- The pair logic as given, in pair mode with this configuration. -/
def pr (c : PairCfg) (p : PairRun) : State :=
  { rd with pair := p, work := { rd.work with pair := { c with mode := 1 } }, shadow := { rd.shadow with pair := { c with mode := 1 } } }

/-- Single mode. -/
def si (p : PairRun) : State := { rd with pair := p }

def pairP (n : Nat) : Bytes := pk ([(1,1),(1,15),(1,3),(1,4),(2,300),(1,n),(1,0),(4,2000000),(4,0),(8,2^64-9),(8,5),(8,6),(8,7),(8,8)] ++ (List.range n).flatMap fun k => [(1,k),(1,k+3),(6,0),(8,2^64-k)])

def sharedOuts (s : State) : State := { s with shadow := { s.shadow with outs := List.replicate 16 { flags := 1, mode := 2, period := 10 } } }

def upLane : LaneRun := { state := .up, seq := 2 ^ 32 - 1 }

def lanes2 (p : PairRun) : PairRun := { p with lanes := [upLane, { upLane with seq := 7 }] }

def snap1 : Snapshot := { hand := 77, slewRem := 5, future := [{ leapTai := 5, newOffset := 38 }] }

def lk : PairRun := { sync := .lockstep, captured := some snap1, lockRun := 4 }

def mw : MirrorWait := { opcode := 0x0A11, tag := 9 }

def cmp (e : PairCfg) (r : CompareRun) : State := pr { e with entries := [{ channel := 1, output := 3, tap := 100 }] } { rows := [r] }

/-- States and operands that meet the conditions of `Obligations.PairCommands`, one for each of its clauses. -/
theorem test_PairCommands_met :
    (∃ (q : Req) (s : State), 
      let x := started 0x0C00 q s
      let p := q.params
      startsAt 0x0C00 q s = true ∧ fitsN q 56 (pairFields p) (min 8 (fld p 6 1)) 16 (pairEntryFields x.shadow p)) ∧
    (∃ (q : Req) (s : State), startsAt 0x0C01 q s = true ∧ fits q 0 []) ∧
    (∃ (q : Req) (s : State), 
      let x := started 0x0C02 q s
      startsAt 0x0C02 q s = true ∧ fits q 4 [inF 0 1 0 6, rsvF 1 3] ∧ x.pair.live = false) ∧
    (∃ (q : Req) (s : State), 
      let x := started 0x0C02 q s
      startsAt 0x0C02 q s = true ∧ fits q 4 [inF 0 1 0 6, rsvF 1 3] ∧ x.pair.live = true) ∧
    (∃ (q : Req) (s : State), 
      let x := started 0x0C03 q s
      startsAt 0x0C03 q s = true ∧ fits q 4 [inF 0 1 0 1, rsvF 1 3] ∧ isDummy x = true) ∧
    (∃ (q : Req) (s : State), 
      let x := started 0x0C03 q s
      let able : Prop := x.pair.heard = true ∧ (x.pair.partner.sync = 6 ∨ fld q.params 0 1 = 1)
      startsAt 0x0C03 q s = true ∧ fits q 4 [inF 0 1 0 1, rsvF 1 3] ∧ isDummy x = false ∧ ¬ able) ∧
    (∃ (q : Req) (s : State), 
      let x := started 0x0C03 q s
      let able : Prop := x.pair.heard = true ∧ (x.pair.partner.sync = 6 ∨ fld q.params 0 1 = 1)
      startsAt 0x0C03 q s = true ∧ fits q 4 [inF 0 1 0 1, rsvF 1 3] ∧ isDummy x = false ∧ able) ∧
    (∃ (s : State) (a : Nat), running s = true ∧ s.pair.switchAt = some a) ∧
    (∃ (q : Req) (s : State), 
      let x := started 0x0C04 q s
      let verify : Prop := fld q.params 0 1 = 1
      let synced : Prop := if isDummy x then x.pair.sync = .synced else x.pair.partner.sync = 6
      let able : Prop := x.work.pair.mode = 1 ∧ x.pair.heard = true ∧ (verify → synced)
      startsAt 0x0C04 q s = true ∧ fits q 4 [inF 0 1 0 1, rsvF 1 3] ∧ ¬ able) ∧
    (∃ (q : Req) (s : State), 
      let x := started 0x0C04 q s
      let verify : Prop := fld q.params 0 1 = 1
      let synced : Prop := if isDummy x then x.pair.sync = .synced else x.pair.partner.sync = 6
      let able : Prop := x.work.pair.mode = 1 ∧ x.pair.heard = true ∧ (verify → synced)
      startsAt 0x0C04 q s = true ∧ fits q 4 [inF 0 1 0 1, rsvF 1 3] ∧ able ∧ isDummy x = false) ∧
    (∃ (q : Req) (s : State), 
      let x := started 0x0C04 q s
      let verify : Prop := fld q.params 0 1 = 1
      let synced : Prop := if isDummy x then x.pair.sync = .synced else x.pair.partner.sync = 6
      let able : Prop := x.work.pair.mode = 1 ∧ x.pair.heard = true ∧ (verify → synced)
      startsAt 0x0C04 q s = true ∧ fits q 4 [inF 0 1 0 1, rsvF 1 3] ∧ able ∧ isDummy x = true ∧ verify) ∧
    (∃ (q : Req) (s : State), 
      let x := started 0x0C04 q s
      let verify : Prop := fld q.params 0 1 = 1
      let synced : Prop := if isDummy x then x.pair.sync = .synced else x.pair.partner.sync = 6
      let able : Prop := x.work.pair.mode = 1 ∧ x.pair.heard = true ∧ (verify → synced)
      startsAt 0x0C04 q s = true ∧ fits q 4 [inF 0 1 0 1, rsvF 1 3] ∧ able ∧ isDummy x = true ∧ ¬ verify) ∧
    (∃ (q : Req) (s : State), startsAt 0x0C05 q s = true ∧ fits q 0 []) :=
  ⟨⟨rq (pairP 2), sharedOuts rd, by decide +kernel⟩,
    ⟨rq [], pr { entries := [{}, {}] } { lanes2 { sync := .synced, force := 77, heard := true, mirrorOpcode := 513 } with rows := [{ checks := 5 }, {}] }, by decide +kernel⟩,
    ⟨rq (pk [(1,5),(3,0)]), si { force := 9 }, by decide +kernel⟩,
    ⟨rq (pk [(1,5),(3,0)]), si { force := 9, live := true }, by decide +kernel⟩,
    ⟨rq (pk [(1,1),(3,0)]), pr {} {}, by decide +kernel⟩,
    ⟨rq (pk [(1,1),(3,0)]), pr {} { enable := true }, by decide +kernel⟩,
    ⟨rq (pk [(1,1),(3,0)]), pr {} { enable := true, heard := true }, by decide +kernel⟩,
    ⟨si { switchAt := some 90 }, 90, by decide +kernel⟩,
    ⟨rq (pk [(1,1),(3,0)]), pr {} { heard := true }, by decide +kernel⟩,
    ⟨rq (pk [(1,0),(3,0)]), pr {} { heard := true, enable := true }, by decide +kernel⟩,
    ⟨rq (pk [(1,1),(3,0)]), pr {} { heard := true, sync := .synced, stopped := true, lockRun := 8 }, by decide +kernel⟩,
    ⟨rq (pk [(1,0),(3,0)]), pr {} { heard := true, sync := .alone, stopped := true, timeSet := true, joinCount := 5 }, by decide +kernel⟩,
    ⟨rq [], pr {} { tests := List.replicate 7 { result := 1, failures := 4 } }, by decide +kernel⟩⟩

/-- States and operands that meet the conditions of `Obligations.ClaimsAndEnable`, one for each of its clauses. -/
theorem test_ClaimsAndEnable_met :
    (∃ (t : Nat) (s : State), 
      let x := begin_ t s
      x.pair.live = false) ∧
    (∃ (t : Nat) (r : Option Nat) (s : State), 
      let x := begin_ t s
      let c := claimNow x
      x.pair.live = true ∧ r = some c) ∧
    (∃ (t : Nat) (r : Option Nat) (s : State), 
      let x := begin_ t s
      let c := claimNow x
      x.pair.live = true ∧ r ≠ some c ∧ x.pair.readFails = 0) ∧
    (∃ (t : Nat) (r : Option Nat) (s : State), 
      let x := begin_ t s
      let c := claimNow x
      x.pair.live = true ∧ r ≠ some c ∧ 1 ≤ x.pair.readFails) ∧
    (∃ (s : State), s.pair.quiet = false ∧ s.pair.absent = false) ∧
    (∃ (s : State) (c : Nat) (a : Nat), s.pair.rising = some (c, a)) ∧
    (∃ (s : State) (a : Nat), s.pair.edge = some (true, a)) ∧
    (∃ (s : State) (a : Nat), s.pair.edge = some (false, a)) ∧
    (∃ (t : Nat) (cause : Nat) (s : State), 
      let x := begin_ t s
      1 ≤ cause ∧ cause ≤ 6 ∧ x.boot.faults.length < 8) ∧
    (∃ (cause : Nat), cause = 8) ∧
    (∃ (cause : Nat), (cause = 0 ∨ 8 < cause)) :=
  ⟨⟨9, si {}, by decide +kernel⟩,
    ⟨9, some (claimNow (begin_ 9 (si { live := true }))), si { live := true }, by decide +kernel⟩,
    ⟨9, some 1, si { live := true }, by decide +kernel⟩,
    ⟨9, some 1, si { live := true, readFails := 1, enable := true }, by decide +kernel⟩,
    ⟨si { rxAt := 9, live := true }, by decide +kernel⟩,
    ⟨si { rising := some (5, 9), force := 3 }, 5, 9, by decide +kernel⟩,
    ⟨si { edge := some (true, 9), switchovers := 2 ^ 32 - 1 }, 9, by decide +kernel⟩,
    ⟨pr {} { edge := some (false, 9), enable := true, switchAt := some 4 }, 9, by decide +kernel⟩,
    ⟨9, 1, si { live := true, enable := true, force := 6 }, by decide +kernel⟩,
    ⟨8, by decide +kernel⟩,
    ⟨0, by decide +kernel⟩⟩

/-- States and operands that meet the conditions of `Obligations.PairSynchronises`, one for each of its clauses. -/
theorem test_PairSynchronises_met :
    (∃ (s : State), s.work.pair.mode = 1 ∧ running s = true ∧ (laneUp s 0 = true ∨ laneUp s 1 = true)) ∧
    (∃ (n : Nat) (t : Nat) (s : State), 
      let x := begin_ t s
      x.work.pair.mode = 1 ∧ running x = true ∧ laneUp x n = true) ∧
    (∃ (s : State), running s = true ∧ s.pair.heard = false) ∧
    (∃ (s : State), running s = true ∧ s.pair.heard = true) ∧
    (∃ t : Nat, ∃ s : State, ∃ c, 
      let x := begin_ t s
      running s = true ∧ x.pair.captured = some c ∧ x.work.pair.mode = 1 ∧ isDummy x = false ∧ x.pair.heard = true ∧ x.pair.snapSent = false) ∧
    (∃ (t : Nat) (s : State), 
      let x := begin_ t s
      running s = true ∧ (x.pair.captured = none ∨ x.work.pair.mode ≠ 1 ∨ isDummy x = true ∨ x.pair.heard = false ∨ x.pair.snapSent = true)) ∧
    (∃ (t : Nat) (s : State), 
      let x := begin_ t s
      running s = true ∧ takesSnapshots x = true ∧ x.pair.appliedAt ≠ x.pair.boundary ∧ x.now ≤ x.pair.boundary + 900000000) ∧
    (∃ (t : Nat) (s : State), 
      let x := begin_ t s
      running s = true ∧ (takesSnapshots x = false ∨ x.pair.appliedAt = x.pair.boundary ∨ x.pair.boundary + 900000000 < x.now)) ∧
    (∃ (s : State), running s = true ∧ takesSnapshots s = true ∧ s.pair.appliedAt ≠ s.pair.boundary) ∧
    (∃ (s : State), running s = true ∧ (takesSnapshots s = false ∨ s.pair.appliedAt = s.pair.boundary)) ∧
    (∃ (t : Nat) (s : State), 
      let x := begin_ t s
      running s = true ∧ isDummy x = true ∧ x.pair.sync = .copying) ∧
    (∃ (t : Nat) (s : State), 
      let x := begin_ t s
      running s = true ∧ (isDummy x = false ∨ x.pair.sync ≠ .copying)) ∧
    (∃ (t : Nat) (d : Bytes) (s : State), 
      let x := begin_ t s
      running s = true ∧ isDummy x = true ∧ x.pair.sync = .lockstep ∧ lockDigest x = some d ∧ x.pair.lockRun + 1 < x.work.pair.lockstepHands) ∧
    (∃ (t : Nat) (d : Bytes) (s : State), 
      let x := begin_ t s
      running s = true ∧ isDummy x = true ∧ x.pair.sync = .lockstep ∧ lockDigest x = some d ∧ x.work.pair.lockstepHands ≤ x.pair.lockRun + 1) ∧
    (∃ (t : Nat) (d : Bytes) (s : State), 
      let x := begin_ t s
      running s = true ∧ isDummy x = true ∧ x.pair.sync = .lockstep ∧ lockDigest x ≠ some d ∧ x.pair.lockFails < 2) ∧
    (∃ (t : Nat) (d : Bytes) (s : State), 
      let x := begin_ t s
      running s = true ∧ isDummy x = true ∧ x.pair.sync = .lockstep ∧ lockDigest x ≠ some d ∧ 2 ≤ x.pair.lockFails) ∧
    (∃ (t : Nat) (s : State), 
      let x := begin_ t s
      running s = true ∧ isDummy x = true ∧ x.pair.sync = .lockstep) ∧
    (∃ (t : Nat) (s : State), 
      let x := begin_ t s
      running s = true ∧ isDummy x = true ∧ x.pair.sync = .lockstep) ∧
    (∃ (t : Nat) (s : State), 
      let x := begin_ t s
      running s = true ∧ isDummy x = true ∧ x.pair.sync = .lockstep) ∧
    (∃ (t : Nat) (s : State), 
      let x := begin_ t s
      running s = true ∧ isDummy x = true ∧ x.pair.sync = .lockstep) ∧
    (∃ (t : Nat) (s : State), 
      let x := begin_ t s
      running s = true ∧ isDummy x = true ∧ x.pair.sync = .lockstep) ∧
    (∃ (t : Nat) (s : State), 
      let x := begin_ t s
      running s = true ∧ isDummy x = true ∧ x.pair.sync = .lockstep) ∧
    (∃ (t : Nat) (s : State), 
      let x := begin_ t s
      running s = true ∧ (isDummy x = false ∨ x.pair.sync ≠ .lockstep)) ∧
    (∃ (s : State), s.work.pair.mode ≠ 1) ∧
    (∃ (op : Nat) (q : Req) (s : State) (data : Bytes) (y : State), 
      let q' := { q with src := .partner }
      let x := started op q' s
      s.work.pair.mode = 1 ∧ startsAt op q' s = true ∧ meaningOf op (arrivalOf op q' s) q' x = .done data y ∧ y.host.pcie = x.host.pcie ∧ y.host.spi = x.host.spi) ∧
    (∃ op : Nat, ∃ q : Req, ∃ s : State, ∃ st, ∃ d, 
      let q' := { q with src := .partner }
      let x := started op q' s
      s.work.pair.mode = 1 ∧ startsAt op q' s = true ∧ meaningOf op (arrivalOf op q' s) q' x = .refuse st d) ∧
    (∃ (op : Nat) (q : Req) (s : State) (y : State), 
      let q' := { q with src := .partner }
      let x := started op q' s
      s.work.pair.mode = 1 ∧ startsAt op q' s = true ∧ meaningOf op (arrivalOf op q' s) q' x = .later y ∧ y.host.pcie = x.host.pcie ∧ y.host.spi = x.host.spi) ∧
    (∃ (t : Nat) (op : Nat) (tag : Nat) (s : State) (m : MirrorWait), 
      let x := begin_ t s
      running s = true ∧ x.pair.mirrors = [m] ∧ m.partner = none ∧ m.opcode = op ∧ m.tag = tag ∧ m.own = none) ∧
    (∃ t : Nat, ∃ op : Nat, ∃ tag : Nat, ∃ st : Nat, ∃ s : State, ∃ m : MirrorWait, ∃ o, 
      let x := begin_ t s
      running s = true ∧ x.pair.mirrors = [m] ∧ m.partner = none ∧ m.opcode = op ∧ m.tag = tag ∧ m.own = some o ∧ (o = st % 256 ∨ o = 0x21 ∨ st % 256 = 0x21)) ∧
    (∃ t : Nat, ∃ op : Nat, ∃ tag : Nat, ∃ st : Nat, ∃ s : State, ∃ m : MirrorWait, ∃ o, 
      let x := begin_ t s
      running s = true ∧ x.pair.mirrors = [m] ∧ m.partner = none ∧ m.opcode = op ∧ m.tag = tag ∧ m.own = some o ∧ o ≠ st % 256 ∧ o ≠ 0x21 ∧ st % 256 ≠ 0x21) ∧
    (∃ (t : Nat) (op : Nat) (tag : Nat) (s : State) (m : MirrorWait), 
      let x := begin_ t s
      running s = true ∧ x.pair.mirrors = [m] ∧ m.partner = none ∧ (m.opcode ≠ op ∨ m.tag ≠ tag)) ∧
    (∃ (t : Nat) (f : Bool) (s : State), 
      let x := begin_ t s
      let may : Prop := x.work.pair.flags.testBit 1 = true ∧ (x.pair.sync = .synced ∨ f = true) ∧ testsBad x = false ∧ x.pair.live = true
      running s = true ∧ isDummy x = true ∧ x.pair.edge = none ∧ may) ∧
    (∃ (t : Nat) (f : Bool) (s : State), 
      let x := begin_ t s
      let may : Prop := x.work.pair.flags.testBit 1 = true ∧ (x.pair.sync = .synced ∨ f = true) ∧ testsBad x = false ∧ x.pair.live = true
      running s = true ∧ isDummy x = true ∧ x.pair.edge = none ∧ ¬ may) ∧
    (∃ (t : Nat) (s : State), 
      let x := begin_ t s
      running s = true ∧ isDummy x = false) ∧
    (∃ (k : Nat) (t : Nat) (s : State) (e : CompareCfg) (r : CompareRun) (v : Int), 
      let x := begin_ t s
      let ok : Prop := (v - e.tap).natAbs ≤ x.work.pair.compareLimit
      running s = true ∧ x.work.pair.entries[k]? = some e ∧ x.pair.rows[k]? = some r ∧ isDummy x = true ∧ r.n < 63 ∧ ok ∧ 0 < x.work.pair.compareCount) ∧
    (∃ (k : Nat) (t : Nat) (s : State) (e : CompareCfg) (r : CompareRun) (v : Int), 
      let x := begin_ t s
      let ok : Prop := (v - e.tap).natAbs ≤ x.work.pair.compareLimit
      running s = true ∧ x.work.pair.entries[k]? = some e ∧ x.pair.rows[k]? = some r ∧ isDummy x = true ∧ r.n < 63 ∧ ¬ ok ∧ r.failRun + 1 ≠ x.work.pair.compareCount) ∧
    (∃ (k : Nat) (t : Nat) (s : State) (e : CompareCfg) (r : CompareRun) (v : Int), 
      let x := begin_ t s
      let ok : Prop := (v - e.tap).natAbs ≤ x.work.pair.compareLimit
      running s = true ∧ x.work.pair.entries[k]? = some e ∧ x.pair.rows[k]? = some r ∧ isDummy x = true ∧ r.n < 63 ∧ ¬ ok ∧ r.failRun + 1 = x.work.pair.compareCount ∧ x.pair.edge = none ∧ x.work.pair.flags.testBit 1 = true ∧ x.pair.sync = .synced ∧ testsBad x = false ∧ x.pair.live = true) ∧
    (∃ (k : Nat) (t : Nat) (s : State) (e : CompareCfg) (r : CompareRun), 
      let x := begin_ t s
      running s = true ∧ x.work.pair.entries[k]? = some e ∧ x.pair.rows[k]? = some r ∧ isDummy x = true ∧ r.n < 64 ∧ r.failRun + 1 ≠ x.work.pair.compareCount) ∧
    (∃ (i : Nat) (t : Nat) (s : State) (v : TestItem), 
      let x := begin_ t s
      running s = true ∧ (i = 2 ∨ i = 5) ∧ x.pair.tests[i]? = some v) :=
  ⟨⟨pr {} (lanes2 { hbNext := 77 }), by decide +kernel⟩,
    ⟨1, 9, pr {} (lanes2 { sync := .alone }), by decide +kernel⟩,
    ⟨pr {} { sync := .alone }, by decide +kernel⟩,
    ⟨pr {} { heard := true, sync := .paired }, by decide +kernel⟩,
    ⟨9, pr {} { enable := true, heard := true, captured := some snap1 }, snap1, by decide +kernel⟩,
    ⟨9, pr {} { enable := true, heard := true }, by decide +kernel⟩,
    ⟨9, pr {} { sync := .synced, boundary := 7, snapshotsApplied := 2 ^ 32 - 1 }, by decide +kernel⟩,
    ⟨9, pr {} { sync := .joining, boundary := 7 }, by decide +kernel⟩,
    ⟨pr {} { sync := .synced, boundary := 7 }, by decide +kernel⟩,
    ⟨pr {} { sync := .synced, boundary := 7, appliedAt := 7 }, by decide +kernel⟩,
    ⟨9, pr {} { sync := .copying, lockRun := 4 }, by decide +kernel⟩,
    ⟨9, pr {} { sync := .lockstep }, by decide +kernel⟩,
    ⟨9, Config.snapDigest (lockItems snap1), pr { lockstepHands := 5 } { lk with lockRun := 3 }, ⟨by decide +kernel, by decide +kernel, by decide +kernel, rfl, by decide +kernel⟩⟩,
    ⟨9, Config.snapDigest (lockItems snap1), pr { lockstepHands := 5 } { lk with lockRun := 4 }, ⟨by decide +kernel, by decide +kernel, by decide +kernel, rfl, by decide +kernel⟩⟩,
    ⟨9, [7#8], pr {} { lk with captured := none }, by decide +kernel⟩,
    ⟨9, [7#8], pr {} { lk with captured := none, lockFails := 2 }, by decide +kernel⟩,
    ⟨9, pr {} { sync := .lockstep }, by decide +kernel⟩,
    ⟨9, (let s := pr {} { sync := .lockstep }; { s with ptp := { s.ptp with grants := [(7, {})] } }), by decide +kernel⟩,
    ⟨9, pr {} { sync := .lockstep }, by decide +kernel⟩,
    ⟨9, (let s := pr {} { sync := .lockstep }; { s with ntp := { s.ntp with insts := s.ntp.insts.set 3 { next := { epoch := 5 } } } }), by decide +kernel⟩,
    ⟨9, pr {} { sync := .lockstep, partner := { selected := [0, 1, 2, 3] } }, by decide +kernel⟩,
    ⟨9, pr {} { sync := .lockstep }, by decide +kernel⟩,
    ⟨9, pr {} { sync := .synced }, by decide +kernel⟩,
    ⟨rd, by decide +kernel⟩,
    ⟨0x0C02, rq (pk [(1,5),(3,0)]), pr {} { force := 9 }, pk [(4, 9)], (let q' : Req := { rq (pk [(1,5),(3,0)]) with src := .partner }; let x := started 0x0C02 q' (pr {} { force := 9 }); { x with pair := { x.pair with pref := 5 } }), by decide +kernel⟩,
    ⟨0x0C03, rq (pk [(1,1),(3,0)]), pr {} {}, 0x21, 0, by decide +kernel⟩,
    ⟨0x0C02, rq (pk [(1,5),(3,0)]), pr {} { force := 9, live := true }, (let q' : Req := { rq (pk [(1,5),(3,0)]) with src := .partner }; let x := started 0x0C02 q' (pr {} { force := 9, live := true }); { x with pair := { x.pair with pref := 5 }, host := { x.host with waits := x.host.waits ++ [{ key := .claimSet, opcode := 0x0C02, req := q' }] } }), by decide +kernel⟩,
    ⟨9, 0x0A11, 9, si { mirrors := [mw] }, mw, by decide +kernel⟩,
    ⟨9, 0x0A11, 9, 256, si { mirrors := [{ mw with own := some 0 }] }, { mw with own := some 0 }, 0, by decide +kernel⟩,
    ⟨9, 0x0A11, 9, 300, si { mirrors := [{ mw with own := some 0 }] }, { mw with own := some 0 }, 0, by decide +kernel⟩,
    ⟨9, 0x0A12, 9, si { mirrors := [mw] }, mw, by decide +kernel⟩,
    ⟨9, false, pr {} { sync := .synced, live := true }, by decide +kernel⟩,
    ⟨9, false, pr { flags := 12 } { sync := .synced, live := true }, by decide +kernel⟩,
    ⟨9, pr {} { sync := .paired, enable := true, live := true }, by decide +kernel⟩,
    ⟨0, 9, cmp {} { n := 62, failRun := 2 }, { channel := 1, output := 3, tap := 100 }, { n := 62, failRun := 2 }, 65636, by decide +kernel⟩,
    ⟨0, 9, cmp {} { n := 2, failRun := 1 }, { channel := 1, output := 3, tap := 100 }, { n := 2, failRun := 1 }, -65437, by decide +kernel⟩,
    ⟨0, 9, (let s := cmp {} { n := 2, failRun := 2 }; { s with pair := { s.pair with live := true, sync := .synced } }), { channel := 1, output := 3, tap := 100 }, { n := 2, failRun := 2 }, -65437, by decide +kernel⟩,
    ⟨0, 9, cmp {} { n := 63, failRun := 0 }, { channel := 1, output := 3, tap := 100 }, { n := 63, failRun := 0 }, by decide +kernel⟩,
    ⟨2, 9, pr {} {}, {}, by decide +kernel⟩⟩

end Pair

namespace Keys

/-- A chip in this life-cycle state with three roots burned, with this Kitty. -/
def ki (lc : Nat) (k : KittyPart) : State :=
  { rd with attest := { rd.attest with lc := lc }, fuse := { rows := [8, 8, 0, 0], roots := List.replicate 3 { first := some (List.replicate 32 7#8) }, serial := 77 }, kitty := { k with loadDone := true } }

def unld (k : KittyPart) : State := let s := ki 2 k; { s with kitty := { s.kitty with loadDone := false } }

def full : KittyPart := { slots := [(12, { label := 5, key := List.replicate 32 1#8 })], writesTotal := 2 ^ 32 - 1, credit := 256 * creditPs, imageBank := some 0, nextSeq := 5 }

def wrP (n fl : Nat) : Bytes := pk [(2,n),(1,fl),(1,0),(2,9),(2,0),(32,2 ^ 255 + 5)]

def kimg : Bytes := List.replicate 40 6#8

def adP (t : Nat) : Bytes := pk [(1,t),(3,0),(4,confirmOf t)]

def adv (k : Nat) (r : List RootBank) : State :=
  let s := ki (k - 1) {}
  { s with fuse := { s.fuse with roots := r }, attest := { s.attest with advance := some k }, host := { s.host with waits := [{ key := .lcAdvance, opcode := 0x0D11, req := rq (adP k) }] } }

def quW : Wait := { key := .quote, opcode := 0x0D20, req := { rq (pk [(32,5)]) with tag := 9, flags := 1 }, data := List.replicate 688 5#8 }

/-- The header of an image of that chip, and its key. -/
def imgHead : Bytes := imageHead 0 7 99 1 16 (ki 2 {})

def imgKey : Bytes := kdf (List.replicate 32 7#8) "ISOTH-KITTY-WRAP" (serialBytes (ki 2 {}) ++ lcByte (ki 2 {}))

/-- An image with this text and its tag. -/
def tagged (c : Bytes) : Bytes := imgHead ++ (c ++ gcmTag imgKey (imageIv (fld imgHead 16 8) (fld imgHead 28 4)) imgHead c)

/-- A chip whose bank 0 holds that image. -/
def imaged : State := let s := unld {}; { s with flash := { s.flash with bank0 := tagged (List.replicate 139776 0#8) } }

theorem imgHead_length : imgHead.length = 64 := by decide +kernel

theorem block_length : (aesBlock imgKey (imageIv (fld imgHead 16 8) (fld imgHead 28 4) ++ [0#8, 0#8, 0#8, 1#8])).length = 16 := by decide +kernel

theorem tag_length (c : Bytes) : (gcmTag imgKey (imageIv (fld imgHead 16 8) (fld imgHead 28 4)) imgHead c).length = 16 := by
  unfold gcmTag xorBytes
  rw [List.length_zipWith, block_length]
  simp [beBytes, leBytes_length]

theorem head_fld (r : Bytes) (k n : Nat) (h : k + n ≤ 64) : fld (imgHead ++ r) k n = fld imgHead k n := by
  unfold fld slice
  have e : (imgHead.drop k ++ r).take n = (imgHead.drop k).take n :=
    List.take_append_of_le_length (by rw [List.length_drop, imgHead_length]; omega)
  rw [List.drop_append_of_le_length (by rw [imgHead_length]; omega), e]

/-- A tagged text of the right size is a valid image. -/
theorem tagged_valid (c : Bytes) (s : State) (hc : c.length = 139776) (h1 : s.attest.lc = 2) (h2 : s.fuse.serial = 77) :
    imageValid imgKey (tagged c) s = true := by
  have hl := imgHead_length
  have h64 : (tagged c).take 64 = imgHead := by
    unfold tagged; rw [← hl]; exact List.take_left
  have hs : slice (tagged c) 64 139776 = c := by
    unfold slice tagged
    rw [← hl, List.drop_left, ← hc, List.take_left, List.take_left]
  have hd : (tagged c).drop 139840 = gcmTag imgKey (imageIv (fld imgHead 16 8) (fld imgHead 28 4)) imgHead c := by
    unfold tagged
    rw [show (139840 : Nat) = imgHead.length + c.length by rw [hl, hc], ← List.drop_drop, List.drop_left, List.drop_left]
  have hn : (tagged c).length = 139856 := by
    unfold tagged; rw [List.length_append, List.length_append, hl, hc, tag_length]
  have h4 : (tagged c).take 4 = ascii "KITY" := by
    have : ((tagged c).take 64).take 4 = ascii "KITY" := by rw [h64]; decide +kernel
    rwa [List.take_take] at this
  unfold imageValid
  rw [h64, hs, hd, hn, h4, h1, h2]
  unfold tagged
  rw [head_fld _ 6 1 (by omega), head_fld _ 8 8 (by omega)]
  have e1 : fld imgHead 6 1 = 2 := by decide +kernel
  have e2 : fld imgHead 8 8 = 77 := by decide +kernel
  simp [e1, e2]

/-- States and operands that meet the conditions of `Obligations.KeysAndImages`, one for each of its clauses. -/
theorem test_KeysAndImages_met :
    (∃ (q : Req) (s : State), 
      let x := started 0x0D00 q s
      startsAt 0x0D00 q s = true ∧ fits q 40 [inF 0 2 0 4095, inF 2 1 0 3, rsvF 3 1, anyF 4 2, rsvF 6 2, anyF 8 32] ∧ x.kitty.loadDone = false) ∧
    (∃ (q : Req) (s : State), 
      let x := started 0x0D00 q s
      let p := q.params
      let per := (fld p 2 1).testBit 0
      let able : Prop := x.attest.advance = none ∧ x.attest.lc ≠ 4 ∧ (per = true → x.attest.lc ≠ 0)
      startsAt 0x0D00 q s = true ∧ fits q 40 [inF 0 2 0 4095, inF 2 1 0 3, rsvF 3 1, anyF 4 2, rsvF 6 2, anyF 8 32] ∧ x.kitty.loadDone = true ∧ ¬ able) ∧
    (∃ (q : Req) (s : State), 
      let x := started 0x0D00 q s
      let p := q.params
      let n := fld p 0 2
      let per := (fld p 2 1).testBit 0
      let able : Prop := x.attest.advance = none ∧ x.attest.lc ≠ 4 ∧ (per = true → x.attest.lc ≠ 0)
      startsAt 0x0D00 q s = true ∧ fits q 40 [inF 0 2 0 4095, inF 2 1 0 3, rsvF 3 1, anyF 4 2, rsvF 6 2, anyF 8 32] ∧ x.kitty.loadDone = true ∧ able ∧ getKey n x.kitty.slots ≠ none ∧ (fld p 2 1).testBit 1 = false) ∧
    (∃ (q : Req) (s : State), 
      let x := started 0x0D00 q s
      let p := q.params
      let n := fld p 0 2
      let per := (fld p 2 1).testBit 0
      let able : Prop := x.attest.advance = none ∧ x.attest.lc ≠ 4 ∧ (per = true → x.attest.lc ≠ 0)
      startsAt 0x0D00 q s = true ∧ fits q 40 [inF 0 2 0 4095, inF 2 1 0 3, rsvF 3 1, anyF 4 2, rsvF 6 2, anyF 8 32] ∧ x.kitty.loadDone = true ∧ able ∧ (getKey n x.kitty.slots = none ∨ (fld p 2 1).testBit 1 = true)) ∧
    (∃ (q : Req) (s : State), 
      let x := started 0x0D01 q s
      let p := q.params
      let per := (fld p 2 1).testBit 0
      let able : Prop := x.attest.advance = none ∧ x.attest.lc ≠ 4 ∧ (per = true → x.attest.lc ≠ 0)
      startsAt 0x0D01 q s = true ∧ fits q 4 (eraseFields q.params) ∧ x.kitty.loadDone = true ∧ ¬ able) ∧
    (∃ (q : Req) (s : State), 
      let x := started 0x0D01 q s
      let p := q.params
      let per := (fld p 2 1).testBit 0
      let able : Prop := x.attest.advance = none ∧ x.attest.lc ≠ 4 ∧ (per = true → x.attest.lc ≠ 0)
      startsAt 0x0D01 q s = true ∧ fits q 4 (eraseFields q.params) ∧ x.kitty.loadDone = true ∧ able) ∧
    (∃ (q : Req) (s : State), 
      let x := started 0x0D02 q s
      startsAt 0x0D02 q s = true ∧ fits q 4 [F 0 2 (fun v => decide (v ≤ 4095) || v == 0xFFFF), rsvF 2 2] ∧ x.kitty.loadDone = false) ∧
    (∃ (q : Req) (s : State), 
      let x := started 0x0D02 q s
      startsAt 0x0D02 q s = true ∧ fits q 4 [F 0 2 (fun v => decide (v ≤ 4095) || v == 0xFFFF), rsvF 2 2] ∧ x.kitty.loadDone = true) ∧
    (∃ (s : State) (f : Nat) (l : Nat), 
      let y := moveTo (min (l + 10000000000000) (f + 60000000000000)) { s with out := [] }
      s.kitty.persist = some (f, l) ∧ s.kitty.writing = none ∧ running s = true ∧ creditPs ≤ creditNow y ∧ wrapKey y ≠ none) ∧
    (∃ (s : State) (f : Nat) (l : Nat), 
      let y := moveTo (min (l + 10000000000000) (f + 60000000000000)) { s with out := [] }
      s.kitty.persist = some (f, l) ∧ s.kitty.writing = none ∧ running s = true ∧ creditNow y < creditPs ∧ s.kitty.deferred = false) ∧
    (∃ (t : Nat) (s : State) (w : KittyWrite), 
      let x := begin_ t s
      running s = true ∧ x.kitty.writing = some w ∧ w.waits = true) ∧
    (∃ (t : Nat) (s : State) (w : KittyWrite), 
      let x := begin_ t s
      running s = true ∧ x.kitty.writing = some w ∧ w.waits = false) ∧
    (∃ (t : Nat) (s : State) (w : KittyWrite), 
      let x := begin_ t s
      running s = true ∧ x.kitty.writing = some w ∧ w.waits = false) ∧
    (∃ (s : State), running s = true ∧ creditNow s < 256 * creditPs ∧ s.kitty.deferred = false) ∧
    (∃ (s : State), 
      let y := moveTo (s.now + (creditPs - creditNow s % creditPs)) { s with out := [] }
      running s = true ∧ creditNow s < 256 * creditPs ∧ s.kitty.deferred = true ∧ s.kitty.writing = none ∧ s.kitty.persist ≠ none ∧ creditPs ≤ creditNow y ∧ wrapKey y ≠ none) ∧
    (∃ (s : State) (b : Nat), 
      let y := moveTo (s.now + (s.kitty.imageOp + retentionPs - s.score.opPs)) { s with out := [] }
      running s = true ∧ s.kitty.imageBank = some b ∧ s.kitty.writing = none ∧ creditPs ≤ creditNow y ∧ wrapKey y ≠ none) ∧
    (∃ (t : Nat) (s : State), 
      let x := begin_ t s
      x.kitty.loadDone = false ∧ running x = true ∧ 7 ≤ x.boot.stage ∧ x.boot.stage ≠ 15 ∧ wrapKey x = none) ∧
    (∃ (t : Nat) (s : State), 
      let x := begin_ t s
      x.kitty.loadDone = false ∧ running x = true ∧ 7 ≤ x.boot.stage ∧ x.boot.stage ≠ 15 ∧ wrapKey x ≠ none ∧ x.flash.bank0.length < 64 ∧ x.flash.bank1.length < 64) ∧
    (∃ t : Nat, ∃ s : State, ∃ k, 
      let x := begin_ t s
      x.kitty.loadDone = false ∧ running x = true ∧ 7 ≤ x.boot.stage ∧ x.boot.stage ≠ 15 ∧ wrapKey x = some k ∧ imageValid k x.flash.bank0 x = true ∧ x.flash.bank1.length < 64) :=
  ⟨⟨rq (wrP 9 0), unld {}, by decide +kernel⟩,
    ⟨rq (wrP 9 0), ki 4 {}, by decide +kernel⟩,
    ⟨rq (wrP 12 0), ki 2 full, by decide +kernel⟩,
    ⟨rq (wrP 12 3), ki 2 full, by decide +kernel⟩,
    ⟨rq (pk [(2,12),(1,1),(1,0)]), ki 0 full, by decide +kernel⟩,
    ⟨rq (pk [(2,12),(1,0),(1,0)]), ki 2 full, by decide +kernel⟩,
    ⟨rq (pk [(2,12),(2,0)]), unld {}, by decide +kernel⟩,
    ⟨rq (pk [(2,12),(2,0)]), ki 2 { full with loaded := true, persist := some (0, 5) }, by decide +kernel⟩,
    ⟨ki 2 { full with persist := some (4, 5) }, 4, 5, by decide +kernel⟩,
    ⟨ki 2 { full with persist := some (4, 5), credit := 0 }, 4, 5, by decide +kernel⟩,
    ⟨9, ki 2 { full with writing := some { bank := 1, seq := 6, image := kimg, waits := true } }, { bank := 1, seq := 6, image := kimg, waits := true }, by decide +kernel⟩,
    ⟨9, ki 2 { full with writing := some { bank := 1, seq := 6, image := kimg } }, { bank := 1, seq := 6, image := kimg }, by decide +kernel⟩,
    ⟨9, ki 2 { full with writing := some { bank := 1, seq := 6, image := kimg } }, { bank := 1, seq := 6, image := kimg }, by decide +kernel⟩,
    ⟨ki 2 { full with credit := 255 * creditPs }, by decide +kernel⟩,
    ⟨ki 2 { full with credit := 0, deferred := true, persist := some (4, 5) }, by decide +kernel⟩,
    ⟨ki 2 full, 0, by decide +kernel⟩,
    ⟨9, { unld full with attest := { lc := 0 } }, by decide +kernel⟩,
    ⟨9, { unld full with flash := { rd.flash with bank0 := List.replicate 63 5#8 } }, by decide +kernel⟩,
    ⟨9, imaged, imgKey, ⟨by decide +kernel, by decide +kernel, by decide +kernel, by decide +kernel, rfl, tagged_valid _ _ List.length_replicate rfl rfl, by decide +kernel⟩⟩⟩

/-- States and operands that meet the conditions of `Obligations.LifeCycleAndQuotes`, one for each of its clauses. -/
theorem test_LifeCycleAndQuotes_met :
    (∃ (q : Req) (s : State), startsAt 0x0D10 q s = true ∧ fits q 0 []) ∧
    (∃ (q : Req) (s : State), 
      let x := started 0x0D11 q s
      let t := fld q.params 0 1
      let able : Prop := x.attest.advance = none ∧ x.attest.lc ≠ 4 ∧ (t = x.attest.lc + 1 ∨ t = 4)
      startsAt 0x0D11 q s = true ∧ fits q 8 (advanceFields q.params) ∧ ¬ able) ∧
    (∃ (q : Req) (s : State), 
      let x := started 0x0D11 q s
      let t := fld q.params 0 1
      let able : Prop := x.attest.advance = none ∧ x.attest.lc ≠ 4 ∧ (t = x.attest.lc + 1 ∨ t = 4)
      startsAt 0x0D11 q s = true ∧ fits q 8 (advanceFields q.params) ∧ able) ∧
    (∃ (t : Nat) (k : Nat) (s : State), 
      let x := begin_ t s
      x.attest.advance = some k ∧ waitsFor .lcAdvance x = true ∧ k = 4) ∧
    (∃ (t : Nat) (k : Nat) (a : Bool) (s : State) (r : RootBank), 
      let x := begin_ t s
      x.attest.advance = some k ∧ waitsFor .lcAdvance x = true ∧ 1 ≤ k ∧ k ≤ 3 ∧ x.fuse.roots[k - 1]? = some r ∧ bankRoot r = none ∧ r.abandoned = false ∧ a = true) ∧
    (∃ (t : Nat) (k : Nat) (a : Bool) (b : Bool) (s : State) (r : RootBank), 
      let x := begin_ t s
      x.attest.advance = some k ∧ waitsFor .lcAdvance x = true ∧ 1 ≤ k ∧ k ≤ 3 ∧ x.fuse.roots[k - 1]? = some r ∧ bankRoot r = none ∧ (a = false ∨ r.abandoned = true) ∧ b = true) ∧
    (∃ (t : Nat) (k : Nat) (a : Bool) (b : Bool) (s : State) (r : RootBank), 
      let x := begin_ t s
      x.attest.advance = some k ∧ waitsFor .lcAdvance x = true ∧ 1 ≤ k ∧ k ≤ 3 ∧ x.fuse.roots[k - 1]? = some r ∧ bankRoot r = none ∧ a = false ∧ b = false) ∧
    (∃ (q : Req) (s : State), 
      let x := started 0x0D20 q s
      let able : Prop := x.attest.lc ≠ 0 ∧ x.attest.lc ≠ 4 ∧ x.attest.advance = none
      startsAt 0x0D20 q s = true ∧ fits q 32 [anyF 0 32] ∧ ¬ able) ∧
    (∃ (q : Req) (s : State), 
      let x := started 0x0D20 q s
      let able : Prop := x.attest.lc ≠ 0 ∧ x.attest.lc ≠ 4 ∧ x.attest.advance = none
      startsAt 0x0D20 q s = true ∧ fits q 32 [anyF 0 32] ∧ able) ∧
    (∃ (t : Nat) (s : State) (w : Wait), 
      let x := begin_ t s
      running s = true ∧ x.host.waits = [w] ∧ w.key = .quote ∧ w.muted = false ∧ isMirrored w.req = false ∧ w.data.length = 688) ∧
    (∃ (q : Req) (s : State), 
      let p := q.params
      startsAt 0x0D21 q s = true ∧ fits q 52 (measureFields q.params) ∧ fld p 0 1 = 0) ∧
    (∃ q : Req, ∃ s : State, ∃ m, 
      let x := started 0x0D21 q s
      let p := q.params
      let r := fld p 1 1
      startsAt 0x0D21 q s = true ∧ fits q 52 (measureFields q.params) ∧ fld p 0 1 = 1 ∧ x.attest.mrs[r]? = some m) :=
  ⟨⟨rq [], ki 2 {}, by decide +kernel⟩,
    ⟨rq (adP 4), adv 3 [], by decide +kernel⟩,
    ⟨rq (adP 3), ki 2 full, by decide +kernel⟩,
    ⟨9, 4, adv 4 [{}, {}, {}], by decide +kernel⟩,
    ⟨9, 1, true, adv 1 [{}, {}, {}], {}, by decide +kernel⟩,
    ⟨9, 2, false, true, adv 2 [{}, {}, {}], {}, by decide +kernel⟩,
    ⟨9, 2, false, false, adv 2 [{}, {}, {}], {}, by decide +kernel⟩,
    ⟨rq (pk [(32,5)]), ki 0 {}, by decide +kernel⟩,
    ⟨rq (pk [(32,5)]), ki 2 {}, by decide +kernel⟩,
    ⟨9, (let s := ki 2 {}; { s with host := { s.host with waits := [quW] } }), quW, by decide +kernel⟩,
    ⟨rq (pk [(52,0)]), ki 2 {}, by decide +kernel⟩,
    ⟨rq (pk [(1,1),(1,7),(2,0),(48,5)]), ki 2 {}, List.replicate 48 0#8, by decide +kernel⟩⟩

end Keys

namespace Audio

/-- A TDM port at 48 kHz that transmits two slots from ring 96, and receives into ring 3. -/
def tdm : AudCfg := { mode := 1, flags := 0xC0, rate := 6, slots := 2, width := 24, txMask := 3, rxMask := 1, txRing := 0, rxRing := 3, bufFrames := 48, runIn := 4 }

def audParams : Bytes := pk [(1,0),(1,1),(1,0),(1,0x40),(1,6),(1,2),(1,24),(1,0),(2,3),(2,0),(1,0),(1,0xFF),(2,48),(2,4),(2,0),(2,0),(1,0),(1,0),(4,0),(4,0),(8,0),(24,0)]

/-- Port 0 in group 0; the group as given, the port as given. -/
def au (c : AudCfg) (g : GroupRun) (r : AudRun) : State :=
  { rd with work := { rd.work with audGroups := [1, 0, 0, 0], aud := c :: List.replicate 3 {} }, aud := { ports := r :: List.replicate 3 {}, groups := g :: List.replicate 3 {} } }

def aes : AudCfg := { mode := 3, flags := 0x80, rate := 6, slots := 2 }

/-- Ring 96 is enabled, with one descriptor. -/
def auTx (s : State) : State :=
  { s with host := { s.host with linkWidth := 1, busMaster := true, rings := s.host.rings.set 96 { enable := true, logSize := 4, db := 1 } } }

/-- States and operands that meet the conditions of `Obligations.AudioCommands`, one for each of its clauses. -/
theorem test_AudioCommands_met :
    (∃ q : Req, ∃ s : State, ∃ g, 
      let x := started 0x0E00 q s
      let p := q.params
      let n := fld p 0 1
      startsAt 0x0E00 q s = true ∧ fits q 64 (audFields x.shadow p) ∧ groupOfPort x.work n = some g ∧ (audGroup x g).running = true) ∧
    (∃ (q : Req) (s : State), 
      let x := started 0x0E00 q s
      let p := q.params
      let n := fld p 0 1
      startsAt 0x0E00 q s = true ∧ fits q 64 (audFields x.shadow p) ∧ (∀ g ∈ groupOfPort x.work n, (audGroup x g).running = false)) ∧
    (∃ (q : Req) (s : State), 
      let x := started 0x0E01 q s
      let p := q.params
      let g := fld p 0 1
      startsAt 0x0E01 q s = true ∧ fits q 4 (groupFields x.shadow p) ∧ (audGroup x g).running = true) ∧
    (∃ (q : Req) (s : State), 
      let x := started 0x0E01 q s
      let p := q.params
      let g := fld p 0 1
      startsAt 0x0E01 q s = true ∧ fits q 4 (groupFields x.shadow p) ∧ (audGroup x g).running = false) ∧
    (∃ (q : Req) (s : State), 
      let x := started 0x0E02 q s
      let g := fld q.params 0 1
      let ms := membersOf x.work g
      startsAt 0x0E02 q s = true ∧ fits q 16 [inF 0 1 0 3, rsvF 1 7, anyF 8 8] ∧ ((audGroup x g).running = true ∨ ms = [] ∨ (∃ p ∈ ms, (audCfg x p).mode = 0))) ∧
    (∃ (q : Req) (s : State), 
      let x := started 0x0E02 q s
      let g := fld q.params 0 1
      let idx := fld q.params 8 8
      let ms := membersOf x.work g
      let y := nextTick x
      let first := ms.foldl (fun (m : Int) p => max m (periodAhead y p + (audCfg y p).runIn)) 0
      startsAt 0x0E02 q s = true ∧ fits q 16 [inF 0 1 0 3, rsvF 1 7, anyF 8 8] ∧ (audGroup x g).running = false ∧ ms ≠ [] ∧ (∀ p ∈ ms, (audCfg x p).mode ≠ 0) ∧ idx ≠ 0 ∧ (idx : Int) < first) ∧
    (∃ (q : Req) (s : State), 
      let x := started 0x0E02 q s
      let g := fld q.params 0 1
      let idx := fld q.params 8 8
      let ms := membersOf x.work g
      let y := nextTick x
      let first := ms.foldl (fun (m : Int) p => max m (periodAhead y p + (audCfg y p).runIn)) 0
      startsAt 0x0E02 q s = true ∧ fits q 16 [inF 0 1 0 3, rsvF 1 7, anyF 8 8] ∧ (audGroup x g).running = false ∧ ms ≠ [] ∧ (∀ p ∈ ms, (audCfg x p).mode ≠ 0) ∧ (idx = 0 ∨ first ≤ idx)) ∧
    (∃ (q : Req) (s : State), 
      let x := started 0x0E03 q s
      let g := fld q.params 0 1
      startsAt 0x0E03 q s = true ∧ fits q 16 [inF 0 1 0 3, rsvF 1 7, anyF 8 8] ∧ (audGroup x g).running = false) ∧
    (∃ (q : Req) (s : State), 
      let x := started 0x0E03 q s
      let g := fld q.params 0 1
      let idx := fld q.params 8 8
      let y := nextTick x
      let first := ((membersOf y.work g).filter fun p => (audOf y p).active).foldl (fun (m : Int) p => max m (periodAhead y p)) 0
      startsAt 0x0E03 q s = true ∧ fits q 16 [inF 0 1 0 3, rsvF 1 7, anyF 8 8] ∧ (audGroup x g).running = true ∧ idx ≠ 0 ∧ (idx : Int) < first) ∧
    (∃ q : Req, ∃ s : State, ∃ r, 
      let x := started 0x0E03 q s
      let g := fld q.params 0 1
      let idx := fld q.params 8 8
      let y := nextTick x
      let first := ((membersOf y.work g).filter fun p => (audOf y p).active).foldl (fun (m : Int) p => max m (periodAhead y p)) 0
      startsAt 0x0E03 q s = true ∧ fits q 16 [inF 0 1 0 3, rsvF 1 7, anyF 8 8] ∧ x.aud.groups[g]? = some r ∧ r.running = true ∧ (idx = 0 ∨ first ≤ idx)) ∧
    (∃ (q : Req) (s : State) (r : AudRun), 
      let x := started 0x0E04 q s
      let p := fld q.params 0 1
      startsAt 0x0E04 q s = true ∧ fits q 4 [inF 0 1 0 3, inF 1 1 0 1, rsvF 2 2] ∧ x.aud.ports[p]? = some r) :=
  ⟨⟨rq audParams, au tdm { running := true } {}, 0, by decide +kernel⟩,
    ⟨rq audParams, au tdm {} {}, by decide +kernel⟩,
    ⟨rq (pk [(1,0),(1,1),(2,0)]), au tdm { running := true } {}, by decide +kernel⟩,
    ⟨rq (pk [(1,3),(1,8),(2,0)]), rd, by decide +kernel⟩,
    ⟨rq (pk [(8,3),(8,0)]), rd, by decide +kernel⟩,
    ⟨rq (pk [(8,0),(8,1)]), au tdm {} {}, by decide +kernel⟩,
    ⟨rq (pk [(8,0),(8,6)]), au tdm {} { underruns := 3 }, by decide +kernel⟩,
    ⟨rq (pk [(8,0),(8,0)]), au tdm {} {}, by decide +kernel⟩,
    ⟨rq (pk [(8,0),(8,1)]), au tdm { running := true } { active := true }, by decide +kernel⟩,
    ⟨rq (pk [(8,0),(8,0)]), au tdm { running := true } { active := true }, { running := true }, by decide +kernel⟩,
    ⟨rq (pk [(1,0),(1,1),(2,0)]), au tdm { running := true, start := 5 } { begun := true, index := 5, events := 3, underruns := 2, rxErrors := 9 }, { begun := true, index := 5, events := 3, underruns := 2, rxErrors := 9 }, by decide +kernel⟩⟩

/-- States and operands that meet the conditions of `Obligations.AudioFrames`, one for each of its clauses. -/
theorem test_AudioFrames_met :
    (∃ (p : Nat) (s : State) (r : AudRun), s.aud.ports[p]? = some r ∧ (running s = false ∨ r.active = false)) ∧
    (∃ (p : Nat) (g : Nat) (s : State) (r : AudRun), 
      let y := { s with out := [] }
      let c := audCfg s p
      let k := nextBoundary y p (((audGroup s g).start : Int) - c.runIn)
      let z := moveToDomain c.domain (boundaryAt c k) y
      s.aud.ports[p]? = some r ∧ running s = true ∧ r.active = true ∧ groupOfPort s.work p = some g ∧ halfPeriod c r (edgeWhen z c.domain (boundaryAt c k)) = true) ∧
    (∃ (p : Nat) (g : Nat) (s : State) (r : AudRun), 
      let y := { s with out := [] }
      let c := audCfg s p
      let k := nextBoundary y p (((audGroup s g).start : Int) - c.runIn)
      let z := moveToDomain c.domain (boundaryAt c k) y
      s.aud.ports[p]? = some r ∧ running s = true ∧ r.active = true ∧ groupOfPort s.work p = some g ∧ halfPeriod c r (edgeWhen z c.domain (boundaryAt c k)) = false ∧ ((audGroup s g).stop = none ∨ (∃ e ∈ (audGroup s g).stop, k < (e : Int)))) ∧
    (∃ (p : Nat) (g : Nat) (s : State) (r : AudRun) (e : Nat), 
      let y := { s with out := [] }
      let c := audCfg s p
      let k := nextBoundary y p (((audGroup s g).start : Int) - c.runIn)
      let z := moveToDomain c.domain (boundaryAt c k) y
      s.aud.ports[p]? = some r ∧ running s = true ∧ r.active = true ∧ groupOfPort s.work p = some g ∧ halfPeriod c r (edgeWhen z c.domain (boundaryAt c k)) = false ∧ (audGroup s g).stop = some e ∧ (e : Int) ≤ k) ∧
    (∃ (p : Nat) (s : State) (r : AudRun), 
      let y := { s with out := [] }
      let c := audCfg s p
      let k := (timeline y p).toNat
      s.aud.ports[p]? = some r ∧ running s = true ∧ r.active = true ∧ c.mode ≠ 4 ∧ audTx c = true ∧ r.readUpTo < k + 2) ∧
    (∃ (p : Nat) (s : State) (r : AudRun), 
      let y := { s with out := [] }
      let c := audCfg s p
      let k := (timeline y p).toNat
      s.aud.ports[p]? = some r ∧ running s = true ∧ r.active = true ∧ c.mode ≠ 4 ∧ audTx c = true ∧ k + 2 ≤ r.readUpTo) ∧
    (∃ (p : Nat) (t : Nat) (desc : Nat) (n : Nat) (s : State) (r : AudRun), 
      let x := begin_ t s
      let c := audCfg x p
      let ring := ringOf x n
      running s = true ∧ x.aud.ports[p]? = some r ∧ audTxRing c = some n ∧ n < x.host.rings.length ∧ dmaOn x = true ∧ ring.enable = true ∧ idxDist ring.db ring.fetched ≠ 0 ∧ desc = ring.fetched) ∧
    (∃ (p : Nat) (t : Nat) (s : State) (r : AudRun), 
      let x := begin_ t s
      let c := audCfg x p
      x.aud.ports[p]? = some r ∧ running x = true ∧ audRx c = true ∧ (c.mode = 1 ∨ c.mode = 2) ∧ pastRunIn x p = false) ∧
    (∃ (p : Nat) (t : Nat) (n : Nat) (s : State) (r : AudRun), 
      let x := begin_ t s
      let c := audCfg x p
      x.aud.ports[p]? = some r ∧ running x = true ∧ audRx c = true ∧ (c.mode = 1 ∨ c.mode = 2) ∧ pastRunIn x p = true ∧ r.fill = none ∧ audRxRing c = some n ∧ rxRoom x n = false) ∧
    (∃ p : Nat, ∃ t : Nat, ∃ s : State, ∃ r : AudRun, ∃ f, 
      let x := begin_ t s
      let c := audCfg x p
      x.aud.ports[p]? = some r ∧ running x = true ∧ audRx c = true ∧ (c.mode = 1 ∨ c.mode = 2) ∧ pastRunIn x p = true ∧ r.fill = some f ∧ f.records.length + 1 < c.bufFrames) ∧
    (∃ (p : Nat) (t : Nat) (s : State) (r : AudRun), 
      let x := begin_ t s
      let c := audCfg x p
      x.aud.ports[p]? = some r ∧ running x = true ∧ c.mode = 3 ∧ audRx c = true) ∧
    (∃ (p : Nat) (t : Nat) (s : State) (r : AudRun), 
      let x := begin_ t s
      let c := audCfg x p
      x.aud.ports[p]? = some r ∧ running x = true ∧ c.mode = 3 ∧ audRx c = true ∧ r.rxLocked = false) ∧
    (∃ (p : Nat) (t : Nat) (s : State) (r : AudRun), 
      let x := begin_ t s
      let c := audCfg x p
      x.aud.ports[p]? = some r ∧ running x = true ∧ c.mode = 3 ∧ audRx c = true ∧ r.rxLocked = true) :=
  ⟨⟨0, au tdm { running := true } {}, {}, by decide +kernel⟩,
    ⟨0, 0, au tdm { running := true } { active := true, begun := true, lastPs := 41666666 }, { active := true, begun := true, lastPs := 41666666 }, by decide +kernel⟩,
    ⟨0, 0, au tdm { running := true } { active := true }, { active := true }, by decide +kernel⟩,
    ⟨0, 0, au tdm { running := true, stop := some 0 } { active := true }, { active := true }, 0, by decide +kernel⟩,
    ⟨0, au tdm { running := true } { active := true }, { active := true }, by decide +kernel⟩,
    ⟨0, au tdm { running := true } { active := true, readUpTo := 2 }, { active := true, readUpTo := 2 }, by decide +kernel⟩,
    ⟨0, 0, 0, 96, auTx (au tdm {} {}), {}, by decide +kernel⟩,
    ⟨0, 0, au tdm {} {}, {}, by decide +kernel⟩,
    ⟨0, 0, 3, au tdm {} { begun := true }, { begun := true }, by decide +kernel⟩,
    ⟨0, 0, au tdm {} { begun := true, fill := some {} }, { begun := true, fill := some {} }, {}, by decide +kernel⟩,
    ⟨0, 0, au aes {} {}, {}, by decide +kernel⟩,
    ⟨0, 0, au aes {} { zRun := 2 }, { zRun := 2 }, by decide +kernel⟩,
    ⟨0, 0, au aes {} { zRun := 3, rxLocked := true }, { zRun := 3, rxLocked := true }, by decide +kernel⟩⟩

end Audio

namespace Rings

/-- Link up, bus master, with the host part changed so. -/
def ho (f : HostPart → HostPart) : State := { rd with host := f { rd.host with linkWidth := 4, linkGen := 3, busMaster := true } }

def cmdBytes (op tag : Nat) (p : Bytes) : Bytes := let b := pk [(2,op),(2,tag),(2,p.length / 4),(1,0),(1,0),(8,0)] ++ p; b ++ List.replicate (512 - b.length) 0#8

def slot1 (k : Nat) (r : Slot) (f : HostPart → HostPart) : State := ho fun h => f { h with slots := h.slots.set k r }

def ring1 (r : Nat) (g : Ring) : State := ho fun h => { h with rings := h.rings.set r g }

def blk (id k n : Nat) : Bytes := let b := pk [(1,id),(3,k),(4,n),(8,0)]; b ++ List.replicate (512 - b.length) 7#8

def ldS (f : BootPart → BootPart) (b : Bytes) : State := let s := ho fun h => { h with pcie := { h.pcie with cmdBuf := b } }; { s with boot := f { s.boot with cmdReady := false, stage := 5 } }

def ringP (r : Nat) (u : Nat) (l : List (Nat × Nat)) : Bytes := let b := pk ([(2,r),(1,u),(1,0)] ++ l); b ++ List.replicate (16 - b.length) 0#8

def rx (len code : Nat) : RxItem := { data := List.replicate len 5#8, code := code }

def desc (fl len : Nat) : Bytes := let b := pk [(8,0x1000),(4,len),(1,fl)]; b ++ List.replicate (32 - b.length) 0#8

def txS : State := let s := ring1 100 { enable := true, logSize := 6, db := 5 }
  { s with work := { s.work with rings := s.work.rings.set 100 { use := 1, priority := 6, port := 5 } }, ports := s.ports.set 5 { state := .up } }

def qd (op : Nat) (q : Req) : QEntry := { opcode := op, req := q, arrived := 5, arrivedPs := 7 }

def bo (s : State) (f : BootPart → BootPart) : State := { s with boot := f s.boot }

/-- States and operands that meet the conditions of `Obligations.RegisterWindow`, one for each of its clauses. -/
theorem test_RegisterWindow_met :
    (∃ (bus : Iface) (t : Nat) (s : State) (r : Slot), 
      let x := begin_ t s
      let k := (bankOf x bus).select.toNat
      answers x bus = true ∧ x.host.slots[k]? = some r ∧ r ≠ {}) ∧
    (∃ (bus : Iface) (t : Nat) (s : State), 
      let x := begin_ t s
      let p := packetOf (regSrc bus) (bankOf x bus).cmdBuf x.now
      answers x bus = true ∧ accepting x = true ∧ x.boot.stage ≠ 5 ∧ (bankOf x bus).go = false ∧ slotFree p.2 x = true ∧ x.host.queue.length < 256) ∧
    (∃ (bus : Iface) (t : Nat) (s : State), 
      let x := begin_ t s
      let p := packetOf (regSrc bus) (bankOf x bus).cmdBuf x.now
      answers x bus = true ∧ accepting x = true ∧ x.boot.stage ≠ 5 ∧ (bankOf x bus).go = false ∧ slotFree p.2 x = false) ∧
    (∃ (bus : Iface) (t : Nat) (s : State), 
      let x := begin_ t s
      let b := (bankOf x bus).cmdBuf
      answers x bus = true ∧ x.boot.stage = 5 ∧ fld b 0 1 ≠ 255 ∧ blockOk x.boot.loads b = true) ∧
    (∃ (bus : Iface) (t : Nat) (s : State), 
      let x := begin_ t s
      let b := (bankOf x bus).cmdBuf
      answers x bus = true ∧ x.boot.stage = 5 ∧ fld b 0 1 ≠ 255 ∧ blockOk x.boot.loads b = false) ∧
    (∃ (bus : Iface) (t : Nat) (n : Nat) (old : Word) (s : State), 
      let x := begin_ t s
      answers x bus = true ∧ n < 16 ∧ x.host.cause[n]? = some old) ∧
    (∃ (bus : Iface) (t : Nat) (n : Nat) (old : Word) (s : State), 
      let x := begin_ t s
      answers x bus = true ∧ n < 8 ∧ x.host.second[n]? = some old) ∧
    (∃ (bus : Iface) (t : Nat) (v : Nat) (s : State), 
      let x := begin_ t s
      answers x bus = true ∧ v < 2 ^ 32) ∧
    (∃ (bus : Iface) (t : Nat) (v : Nat) (s : State) (k : Nat) (old : Word), 
      let x := begin_ t s
      answers x bus = true ∧ v < 2 ^ 32 ∧ k < 8 ∧ x.host.secondEn[k]? = some old) ∧
    (∃ (t : Nat) (off : Nat) (size : Nat) (s : State), 
      let x := begin_ t s
      answers x .pcie = true ∧ ¬ (size = 4 ∧ off % 4 = 0) ∧ ¬ (size = 8 ∧ off % 8 = 0)) ∧
    (∃ (t : Nat) (s : State), 
      let x := begin_ t s
      answers x .pcie = true) ∧
    (∃ (bus : Iface) (t : Nat) (s : State), answers (begin_ t s) bus = false) :=
  ⟨⟨.pcie, 9, slot1 5 { status := 3, detail := 9, readCount := 255 } (fun h => { h with pcie := { h.pcie with select := 5 } }), { status := 3, detail := 9, readCount := 255 }, by decide +kernel⟩,
    ⟨.pcie, 9, ho fun h => { h with pcie := { h.pcie with cmdBuf := cmdBytes 0x0105 7 [1,2,3,4] } }, by decide +kernel⟩,
    ⟨.pcie, 9, slot1 7 { pending := true } (fun h => { h with pcie := { h.pcie with cmdBuf := cmdBytes 0x0105 7 [1,2,3,4] } }), by decide +kernel⟩,
    ⟨.pcie, 9, ldS id (blk 3 0 496), by decide +kernel⟩,
    ⟨.pcie, 9, ldS id (blk 3 1 5), by decide +kernel⟩,
    ⟨.pcie, 9, 15, 0xFF, ho fun h => { h with cause := h.cause.set 15 0xFF, setTick := 0, setBits := [32 * 15 + 4] }, by decide +kernel⟩,
    ⟨.spi, 9, 7, 0xFF, ho fun h => { h with second := h.second.set 7 0xFF, setTick := 0, setBits := [32 * 23 + 4] }, by decide +kernel⟩,
    ⟨.spi, 9, 0xFFFFFFFF, rd, by decide +kernel⟩,
    ⟨.pcie, 9, 0xFFFFFFFF, ho (fun h => { h with second := h.second.set 7 1 }), 7, 0, by decide +kernel⟩,
    ⟨9, 0x19, 4, ho id, by decide +kernel⟩,
    ⟨9, ho fun h => { h with msixPend := true, msixEn := true, cause := h.cause.set 1 1, enable := h.enable.set 1 1 }, by decide +kernel⟩,
    ⟨.pcie, 9, rd, by decide +kernel⟩⟩

/-- States and operands that meet the conditions of `Obligations.RingsAreControlled`, one for each of its clauses. -/
theorem test_RingsAreControlled_met :
    (∃ (q : Req) (s : State), 
      let x := started 0x0910 q s
      let p := q.params
      startsAt 0x0910 q s = true ∧ fits q 16 (ringFields (fld q.params 0 2)) ∧ (audioHolder x.shadow (fld p 0 2)).isSome = false) ∧
    (∃ (q : Req) (s : State), 
      let x := started 0x0910 q s
      let p := q.params
      startsAt 0x0910 q s = true ∧ fits q 16 (ringFields (fld q.params 0 2)) ∧ (audioHolder x.shadow (fld p 0 2)).isSome = true) ∧
    (∃ (q : Req) (s : State), startsAt 0x0911 q s = true ∧ fits q 4 [inF 0 2 0 255, rsvF 2 2]) ∧
    (∃ (bus : Iface) (t : Nat) (r : Nat) (v : Word) (s : State) (g : Ring), 
      let x := begin_ t s
      let l := v.toNat / 256 % 16
      answers x bus = true ∧ r < 256 ∧ x.host.rings[r]? = some g ∧ v.getLsbD 0 = true ∧ g.enable = false ∧ (if 192 ≤ r ∧ r < 224 then 2 ≤ l ∧ l ≤ 8 else 4 ≤ l ∧ l ≤ 15) ∧ (if r < 224 then g.secondDb = 0 ∧ g.db ≤ 2 ^ l else g.db = 0)) ∧
    (∃ (bus : Iface) (t : Nat) (r : Nat) (v : Word) (s : State) (g : Ring), 
      let x := begin_ t s
      let l := v.toNat / 256 % 16
      answers x bus = true ∧ r < 256 ∧ x.host.rings[r]? = some g ∧ v.getLsbD 0 = true ∧ g.enable = false ∧ (if 192 ≤ r ∧ r < 224 then ¬ (2 ≤ l ∧ l ≤ 8) else ¬ (4 ≤ l ∧ l ≤ 15))) ∧
    (∃ (bus : Iface) (t : Nat) (r : Nat) (v : Word) (s : State) (g : Ring), 
      let x := begin_ t s
      answers x bus = true ∧ r < 256 ∧ x.host.rings[r]? = some g ∧ v.getLsbD 0 = false) ∧
    (∃ (bus : Iface) (t : Nat) (r : Nat) (v : Word) (s : State) (g : Ring), 
      let x := begin_ t s
      let n := v.toNat % 65536
      answers x bus = true ∧ r < 256 ∧ x.host.rings[r]? = some g ∧ (g.enable = false ∨ tooMany r { g with db := n } = false)) ∧
    (∃ (bus : Iface) (t : Nat) (r : Nat) (v : Word) (s : State) (g : Ring), 
      let x := begin_ t s
      let n := v.toNat % 65536
      answers x bus = true ∧ r < 256 ∧ x.host.rings[r]? = some g ∧ 96 ≤ r ∧ r < 224 ∧ (g.enable = false ∨ tooMany r { g with secondDb := n } = false)) ∧
    (∃ (bus : Iface) (t : Nat) (r : Nat) (v : Word) (s : State) (g : Ring), 
      let x := begin_ t s
      let n := v.toNat % 65536
      answers x bus = true ∧ r < 256 ∧ x.host.rings[r]? = some g ∧ g.enable = true ∧ (if r < 224 then idxDist n g.head else idxDist g.head n) > 2 ^ g.logSize) :=
  ⟨⟨rq (ringP 5 1 [(1,12),(1,0),(1,0),(1,255),(2,65535)]), rd, by decide +kernel⟩,
    ⟨rq (ringP 5 1 []), (let s := rd; { s with shadow := { s.shadow with aud := [{ mode := 1, flags := 0x80, rxRing := 5 }, {}, {}, {}] } }), by decide +kernel⟩,
    ⟨rq (pk [(2,100),(2,0)]), ring1 100 { enable := true, head := 5, db := 6, items := 9, bytes := 77 }, by decide +kernel⟩,
    ⟨.pcie, 9, 5, 0xFFF00401, ring1 5 { db := 16, head := 4, fault := true }, { db := 16, head := 4, fault := true }, by decide +kernel⟩,
    ⟨.pcie, 9, 5, 0x301, ring1 5 {}, {}, by decide +kernel⟩,
    ⟨.pcie, 9, 5, 0xF00, ring1 5 { enable := true, head := 7, db := 9, queue := [rx 5 0] }, { enable := true, head := 7, db := 9, queue := [rx 5 0] }, by decide +kernel⟩,
    ⟨.pcie, 9, 5, 0xABCD0010, ring1 5 { enable := true, logSize := 4 }, { enable := true, logSize := 4 }, by decide +kernel⟩,
    ⟨.pcie, 9, 100, 0, ring1 100 { enable := true, logSize := 4, second := 64, secondDb := 60 }, { enable := true, logSize := 4, second := 64, secondDb := 60 }, by decide +kernel⟩,
    ⟨.pcie, 9, 5, 17, ring1 5 { enable := true, logSize := 4 }, { enable := true, logSize := 4 }, by decide +kernel⟩⟩

/-- States and operands that meet the conditions of `Obligations.RingsAreServed`, one for each of its clauses. -/
theorem test_RingsAreServed_met :
    (∃ (c : Nat) (t : Nat) (entry : Bytes) (s : State) (g : Ring), 
      let x := begin_ t s
      let p := packetOf (.ring c) entry x.now
      running s = true ∧ dmaOn x = true ∧ accepting x = true ∧ x.host.queue.length < 256 ∧ turnOf x = some c ∧ x.host.rings[192 + c]? = some g ∧ slotFree p.2 x = true) ∧
    (∃ (k : Nat) (s : State) (e : QEntry), running s = true ∧ s.host.queue[k]? = some e ∧ isUrgent e.req = false ∧ isMirrored e.req = false ∧ accepting s = true ∧ s.host.pcie.go = false ∧ s.host.spi.go = false) ∧
    (∃ (r : Nat) (t : Nat) (s : State) (g : Ring) (item : RxItem) (rest : List RxItem), 
      let x := begin_ t s
      let db := if item.code = 0x10 then g.db else dbThen x g
      let n := if item.code = 0x10 then 1 else ceilDiv item.data.length (256 * 2 ^ (nth x.work.rings r).bufCode)
      x.host.rings[r]? = some g ∧ g.queue = item :: rest ∧ dmaOn x = true ∧ g.enable = true ∧ n ≤ idxDist db g.head) ∧
    (∃ (r : Nat) (t : Nat) (s : State) (g : Ring) (item : RxItem) (rest : List RxItem), 
      let x := begin_ t s
      let db := if item.code = 0x10 then g.db else dbThen x g
      let n := if item.code = 0x10 then 1 else ceilDiv item.data.length (256 * 2 ^ (nth x.work.rings r).bufCode)
      x.host.rings[r]? = some g ∧ g.queue = item :: rest ∧ dmaOn x = true ∧ g.enable = true ∧ idxDist db g.head < n ∧ item.code ≠ 0x10) ∧
    (∃ (r : Nat) (t : Nat) (s : State) (g : Ring) (e : EventDue) (rest : List EventDue), 
      let x := begin_ t s
      running s = true ∧ x.host.rings[r]? = some g ∧ g.due = e :: rest ∧ dmaOn x = true ∧ g.enable = true ∧ idxDist g.head g.db < 2 ^ g.logSize) ∧
    (∃ (r : Nat) (t : Nat) (s : State) (g : Ring) (e : EventDue) (rest : List EventDue), 
      let x := begin_ t s
      running s = true ∧ x.host.rings[r]? = some g ∧ g.due = e :: rest ∧ dmaOn x = true ∧ g.enable = true ∧ 2 ^ g.logSize ≤ idxDist g.head g.db) ∧
    (∃ (r : Nat) (d : Nat) (s : State) (g : Ring), running s = true ∧ s.host.rings[r]? = some g ∧ g.holdUntil = some d ∧ r < 256) :=
  ⟨⟨3, 9, (cmdBytes 0x0105 7 [1,2,3,4]).take 512, ring1 195 { enable := true, logSize := 4, db := 1 }, { enable := true, logSize := 4, db := 1 }, by decide +kernel⟩,
    ⟨0, ho (fun h => { h with queue := [qd 0x0F01 (rq [1,2,3,4])] }), qd 0x0F01 (rq [1,2,3,4]), by decide +kernel⟩,
    ⟨5, 9, ring1 5 { enable := true, logSize := 4, db := 3, queue := [rx 700 0, rx 5 0] }, { enable := true, logSize := 4, db := 3, queue := [rx 700 0, rx 5 0] }, rx 700 0, [rx 5 0], by decide +kernel⟩,
    ⟨5, 9, ring1 5 { enable := true, logSize := 4, db := 2, queue := [rx 700 0, rx 5 0] }, { enable := true, logSize := 4, db := 2, queue := [rx 700 0, rx 5 0] }, rx 700 0, [rx 5 0], by decide +kernel⟩,
    ⟨230, 9, ring1 230 { enable := true, logSize := 4, head := 65535, db := 65530, seq := 7, due := [{ cls := 1, bitNo := 2, time := 3, epoch := 4, index := 5 }] }, { enable := true, logSize := 4, head := 65535, db := 65530, seq := 7, due := [{ cls := 1, bitNo := 2, time := 3, epoch := 4, index := 5 }] }, { cls := 1, bitNo := 2, time := 3, epoch := 4, index := 5 }, [], by decide +kernel⟩,
    ⟨230, 9, ring1 230 { enable := true, logSize := 4, head := 16, due := [{ cls := 1, bitNo := 2, time := 3, epoch := 4, index := 5 }] }, { enable := true, logSize := 4, head := 16, due := [{ cls := 1, bitNo := 2, time := 3, epoch := 4, index := 5 }] }, { cls := 1, bitNo := 2, time := 3, epoch := 4, index := 5 }, [], by decide +kernel⟩,
    ⟨230, 99, ring1 230 { enable := true, holdUntil := some 99 }, { enable := true, holdUntil := some 99 }, by decide +kernel⟩⟩

/-- States and operands that meet the conditions of `Obligations.TransferAndLink`, one for each of its clauses. -/
theorem test_TransferAndLink_met :
    (∃ (r : Nat) (t : Nat) (d : Bytes) (ds : List Bytes) (data : Bytes) (s : State) (g : Ring) (port : PortRun), 
      let x := begin_ t s
      let c := nth x.work.rings r
      let n := (d :: ds).length
      let cells := cellsOf (data.length + 4)
      running s = true ∧ dmaOn x = true ∧ 96 ≤ r ∧ r < 192 ∧ x.host.rings[r]? = some g ∧ g.enable = true ∧ c.use = 1 ∧ n ≤ idxDist g.db g.fetched ∧ chainOf (d :: ds) = .whole ∧ data.length = ((d :: ds).map fun y => fld y 8 4).foldl (· + ·) 0 ∧ txRejected (portCfg x c.port).maxFrame data.length d = false ∧ txRoom x cells = true ∧ (fld d 12 1).testBit 2 = false ∧ x.ports[c.port]? = some port) ∧
    (∃ (r : Nat) (t : Nat) (d : Bytes) (ds : List Bytes) (s : State) (g : Ring), 
      let x := begin_ t s
      let c := nth x.work.rings r
      let n := (d :: ds).length
      running s = true ∧ dmaOn x = true ∧ 96 ≤ r ∧ r < 192 ∧ x.host.rings[r]? = some g ∧ g.enable = true ∧ c.use = 1 ∧ n ≤ idxDist g.db g.fetched ∧ chainOf (d :: ds) = .broken) ∧
    (∃ (r : Nat) (t : Nat) (s : State) (g : Ring), 
      let x := begin_ t s
      running s = true ∧ dmaOn x = true ∧ x.host.rings[r]? = some g ∧ g.enable = true) ∧
    (∃ (t : Nat) (s : State), 
      let x := begin_ t s
      x.host.spi.go = false) ∧
    (∃ (t : Nat) (s : State), 
      let x := begin_ t s
      running x = true) ∧
    (∃ (t : Nat) (width : Nat) (gen : Nat) (s : State), 
      let x := begin_ t s
      running x = true ∧ x.boot.training = true ∧ (width = 1 ∨ width = 2 ∨ width = 4) ∧ 1 ≤ gen ∧ gen ≤ 4) :=
  ⟨⟨100, 9, desc 1 60, [desc 2 40], List.replicate 100 9#8, txS, { enable := true, logSize := 6, db := 5 }, { state := .up }, by decide +kernel⟩,
    ⟨100, 9, desc 2 60, [], txS, { enable := true, logSize := 6, db := 5 }, by decide +kernel⟩,
    ⟨5, 9, ring1 5 { enable := true }, { enable := true }, by decide +kernel⟩,
    ⟨9, ho fun h => { h with rings := (h.rings.set 5 { enable := true, db := 5 }).set 230 { enable := true, db := 7, due := [{ cls := 1, bitNo := 2, time := 3, epoch := 4, index := 5 }] }, queue := [qd 0x0105 { rq [] with src := .ring 3 }], waits := [{ key := .pairSwitch, opcode := 0x0C03, req := { rq [] with src := .ring 3 } }] }, by decide +kernel⟩,
    ⟨9, rd, by decide +kernel⟩,
    ⟨9, 4, 4, bo rd fun b => { b with training := true }, by decide +kernel⟩⟩

end Rings

namespace Scorecard

/-- A chip with a small flash and this Scorecard. -/
def sco (x : ScorePart) : State := { rd with score := { x with kind := .small } }

def wr : Writing := { page := { seq := 7, opEnd := 3 }, slot := 1023, start := 5 }

def pag : Page := { seq := 9, opStart := 1024, opEnd := 2048, powerCycle := 5, records := [{}, {}, {}] }

def hourPs1 : Nat := 1024 * opUnit

/-- States and operands that meet the conditions of `Obligations.ScorecardCommands`, one for each of its clauses. -/
theorem test_ScorecardCommands_met :
    (∃ (q : Req) (s : State), startsAt 0x0F00 q s = true ∧ fits q 4 [inF 0 1 0 1, inF 1 1 1 255, inF 2 2 1 3600]) ∧
    (∃ (q : Req) (s : State), 
      let x := started 0x0F02 q s
      startsAt 0x0F02 q s = true ∧ fits q 0 [] ∧ (x.score.writing ≠ none ∨ x.score.waiting ≠ [] ∨ scoreOn x = false)) ∧
    (∃ (q : Req) (s : State), 
      let x := started 0x0F02 q s
      startsAt 0x0F02 q s = true ∧ fits q 0 [] ∧ x.score.writing = none ∧ x.score.waiting = [] ∧ scoreOn x = true ∧ hourDue x = false ∧ x.score.credits = 0) ∧
    (∃ (q : Req) (s : State), 
      let x := started 0x0F02 q s
      startsAt 0x0F02 q s = true ∧ fits q 0 [] ∧ x.score.writing = none ∧ x.score.waiting = [] ∧ scoreOn x = true ∧ (hourDue x = true ∨ 0 < x.score.credits)) ∧
    (∃ (q : Req) (s : State), 
      let x := started 0x0F01 q s
      let area := fld q.params 0 1
      let seq := fld q.params 4 4
      let l := if area = 1 then x.flash.hourly else x.flash.daily
      startsAt 0x0F01 q s = true ∧ fits q 8 (recReadFields q.params) ∧ area ≠ 0 ∧ pageBySeq l seq = none) ∧
    (∃ q : Req, ∃ s : State, ∃ g, 
      let x := started 0x0F01 q s
      let area := fld q.params 0 1
      let seq := fld q.params 4 4
      let l := if area = 1 then x.flash.hourly else x.flash.daily
      startsAt 0x0F01 q s = true ∧ fits q 8 (recReadFields q.params) ∧ (area ≠ 0 ∧ pageBySeq l seq = some g ∨ area = 0 ∧ g = livePage false x)) ∧
    (∃ (q : Req) (s : State), startsAt 0x0F10 q s = true ∧ fits q 4 [anyF 0 2, inF 2 2 1 128]) ∧
    (∃ (q : Req) (s : State) (o : FilterCfg), 
      let x := started 0x0F11 q s
      let p := q.params
      startsAt 0x0F11 q s = true ∧ fits q 32 (filterFields q.params) ∧ x.shadow.filters[fld p 0 1]? = some o) ∧
    (∃ (q : Req) (s : State), startsAt 0x0F12 q s = true ∧ fits q 4 [F 0 1 (fun v => decide (v < 16) || v == 0xFF), inF 1 1 0 6, inF 2 1 0 6, rsvF 3 1]) :=
  ⟨⟨rq (pk [(1,1),(1,255),(2,3600)]), rd, by decide +kernel⟩,
    ⟨rq [], rd, by decide +kernel⟩,
    ⟨rq [], sco {}, by decide +kernel⟩,
    ⟨rq [], sco { credits := 1 }, by decide +kernel⟩,
    ⟨rq (pk [(1,1),(1,16),(2,0),(4,0)]), sco {}, by decide +kernel⟩,
    ⟨rq (pk [(1,0),(1,16),(2,0),(4,0)]), sco {}, livePage false (started 0x0F01 (rq (pk [(1,0),(1,16),(2,0),(4,0)])) (sco {})), by decide +kernel⟩,
    ⟨rq (pk [(2,0),(2,128)]), { rd with perf := [(0, 77), (33, 2^47)] }, by decide +kernel⟩,
    ⟨rq (pk [(1,31),(1,9),(1,1),(1,7),(1,0),(1,0),(2,0),(4,5),(4,0),(8,0),(8,0)]), rd, {}, by decide +kernel⟩,
    ⟨rq (pk [(1,255),(1,6),(1,0),(1,0)]), rd, by decide +kernel⟩⟩

/-- States and operands that meet the conditions of `Obligations.HandsAndPages`, one for each of its clauses. -/
theorem test_HandsAndPages_met :
    (∃ (s : State), running s = false) ∧
    (∃ (s : State), running s = true) ∧
    (∃ (s : State), running s = false) ∧
    (∃ (s : State), running s = true ∧ scoreOn s = false) ∧
    (∃ (s : State), running s = true ∧ scoreOn s = true) ∧
    (∃ (t : Nat) (s : State), 
      let x := begin_ t s
      running s = true ∧ x.score.writing = none) ∧
    (∃ t : Nat, ∃ s : State, ∃ w, 
      let x := begin_ t s
      running s = true ∧ x.score.writing = some w ∧ x.score.waiting = []) ∧
    (∃ (t : Nat) (s : State), 
      let x := begin_ t s
      running s = true ∧ x.score.writing = none) ∧
    (∃ t : Nat, ∃ s : State, ∃ w, 
      let x := begin_ t s
      running s = true ∧ x.score.writing = some w ∧ w.attempt = 1) ∧
    (∃ t : Nat, ∃ s : State, ∃ w, 
      let x := begin_ t s
      running s = true ∧ x.score.writing = some w ∧ w.attempt ≠ 1 ∧ x.score.waiting = []) ∧
    (∃ (t : Nat) (s : State), 
      let x := begin_ t s
      running s = true ∧ (x.score.dailyDue = false ∨ x.score.writing ≠ none ∨ kittyUses x = true ∨ scoreOn x = false)) ∧
    (∃ (t : Nat) (s : State), 
      let x := begin_ t s
      running s = true ∧ x.score.dailyDue = true ∧ x.score.writing = none ∧ kittyUses x = false ∧ scoreOn x = true) :=
  ⟨⟨{ rd with root := {} }, by decide +kernel⟩,
    ⟨{ rd with svc := { rd.svc with refusalHand := some 0 }, hand := { number := 0 } }, by decide +kernel⟩,
    ⟨{ rd with root := {} }, by decide +kernel⟩,
    ⟨{ rd with score := { opPs := 7 } }, by decide +kernel⟩,
    ⟨sco { opPs := 7, credits := 24 }, by decide +kernel⟩,
    ⟨0, rd, by decide +kernel⟩,
    ⟨0, { sco { writing := some wr } with host := { waits := [{ key := .recCommit, opcode := 0x0F02, req := rq [] }] } }, wr, by decide +kernel⟩,
    ⟨0, rd, by decide +kernel⟩,
    ⟨0, sco { writing := some wr }, wr, by decide +kernel⟩,
    ⟨0, sco { writing := some { wr with attempt := 2 } }, ({ wr with attempt := 2 } : Writing), by decide +kernel⟩,
    ⟨0, rd, by decide +kernel⟩,
    ⟨0, { sco { dailyDue := true, opPs := 24 * hourPs1 } with flash := { hourly := [(3, pag)] } }, by decide +kernel⟩⟩

end Scorecard

namespace Boot

/-- Startup stands at this stage. -/
def st (n : Nat) : State := { boot := { inReset := false, stage := n }, root := { locked := true } }

def bo (s : State) (f : BootPart → BootPart) : State := { s with boot := f s.boot }

def after (o : Host.Outcome State Fault Refusal) : State := match o with | .next t => t | _ => rd

/-- States and operands that meet the conditions of `Obligations.SuppliesAndReset`, one for each of its clauses. -/
theorem test_SuppliesAndReset_met :
    (∃ (t : Nat) (s : State), 
      let x := begin_ t s
      x.boot.vddio = true) ∧
    (∃ (t : Nat) (rails : Nat) (s : State), 
      let x := begin_ t s
      x.boot.powerGood = true ∧ rails % 128 ≠ 0) ∧
    (∃ (width : Nat), width < 60) ∧
    (∃ (width : Nat), 60 ≤ width ∧ width < 150) ∧
    (∃ (width : Nat), 150 ≤ width) ∧
    (∃ (t : Nat) (s : State), 
      let x := begin_ t s
      x.boot.inReset = true ∧ x.boot.powerGood = true ∧ x.boot.thermalHold = false ∧ x.boot.resetLow ≤ x.now) ∧
    (∃ (t : Nat) (s : State), 
      let x := begin_ t s
      x.boot.inReset = false ∧ x.root.lost = false) ∧
    (∃ (d : Nat) (s : State), s.boot.watchdogReset = some d) :=
  ⟨⟨9, bo rd fun b => { b with powerGood := false, inReset := true, stage := 0, cmdReady := false }, by decide +kernel⟩,
    ⟨9, 5, { rd with pair := { rd.pair with live := true } }, by decide +kernel⟩,
    ⟨59, by decide +kernel⟩,
    ⟨60, by decide +kernel⟩,
    ⟨150, by decide +kernel⟩,
    ⟨9, State.reset, by decide +kernel⟩,
    ⟨9, { rd with pair := { rd.pair with live := true } }, by decide +kernel⟩,
    ⟨99, bo rd (fun b => { b with watchdogReset := some 99 }), by decide +kernel⟩⟩

/-- States and operands that meet the conditions of `Obligations.ThermalEvents`, one for each of its clauses. -/
theorem test_ThermalEvents_met :
    (∃ (t : Nat) (temp : Int) (s : State), 
      let x := begin_ t s
      x.boot.vddio = true ∧ x.boot.thermalHold = false ∧ 1000 ≤ temp) ∧
    (∃ (temp : Int), temp ≤ 920) ∧
    (∃ (temp : Int), 920 < temp) ∧
    (∃ (t : Nat) (temp : Int) (s : State), 
      let x := begin_ t s
      running x = true ∧ x.boot.thermalWarn = false ∧ 840 ≤ temp) ∧
    (∃ (temp : Int), temp ≤ 800) :=
  ⟨⟨9, 1000, { rd with pair := { rd.pair with live := true } }, by decide +kernel⟩,
    ⟨920, by decide +kernel⟩,
    ⟨921, by decide +kernel⟩,
    ⟨9, 840, rd, by decide +kernel⟩,
    ⟨800, by decide +kernel⟩⟩

/-- States and operands that meet the conditions of `Obligations.BootStages`, one for each of its clauses. -/
theorem test_BootStages_met :
    (∃ (t : Nat) (s : State), 
      let x := begin_ t s
      running x = true ∧ x.boot.stage = 2) ∧
    (∃ (t : Nat) (s : State), 
      let x := begin_ t s
      running x = true ∧ x.boot.stage = 3) ∧
    (∃ (t : Nat) (s : State), 
      let x := begin_ t s
      running x = true ∧ x.boot.stage = 4) ∧
    (∃ (t : Nat) (s : State), 
      let x := begin_ t s
      running x = true ∧ x.boot.stage = 6) ∧
    (∃ (t : Nat) (s : State), 
      let x := begin_ t s
      running x = true ∧ x.boot.stage = 7) ∧
    (∃ (t : Nat) (s : State), 
      let x := begin_ t s
      running x = true ∧ x.boot.stage = 8 ∧ x.boot.configDone = true) ∧
    (∃ (t : Nat) (s : State), 
      let x := begin_ t s
      running x = true ∧ x.boot.stage = 8 ∧ x.boot.configDone = false) ∧
    (∃ (t : Nat) (s : State), 
      let x := begin_ t s
      running x = true ∧ x.boot.stage = 8 ∧ (x.boot.configDone = true ∨ getKey 5 x.boot.images = none) ∧ x.host.pcie.go = false ∧ x.host.spi.go = false) ∧
    (∃ (t : Nat) (s : State), 
      let x := begin_ t s
      running x = true ∧ x.boot.cmdReady = true ∧ x.kitty.loadDone = true ∧ x.boot.claimSpent = false) ∧
    (∃ (t : Nat) (s : State), 
      let x := begin_ t s
      x.boot.stage ≠ 2) ∧
    (∃ (t : Nat) (s : State), 
      let x := begin_ t s
      x.boot.stage ≠ 3) ∧
    (∃ (t : Nat) (s : State), 
      let x := begin_ t s
      x.boot.stage ≠ 6) ∧
    (∃ (t : Nat) (s : State), 
      let x := begin_ t s
      x.boot.stage ≠ 7) :=
  ⟨⟨9, { st 2 with fuse := { rows := [8, 3, 0, 0] } }, by decide +kernel⟩,
    ⟨9, st 3, by decide +kernel⟩,
    ⟨9, bo (st 4) (fun b => { b with bootSrc := 1 }), by decide +kernel⟩,
    ⟨9, { st 6 with attest := { lc := 2 } }, by decide +kernel⟩,
    ⟨9, bo (st 7) (fun b => { b with faults := [{}] }), by decide +kernel⟩,
    ⟨9, bo (st 8) (fun b => { b with configDone := true }), by decide +kernel⟩,
    ⟨9, st 8, by decide +kernel⟩,
    ⟨9, st 8, by decide +kernel⟩,
    ⟨9, { rd with kitty := { rd.kitty with loadDone := true } }, by decide +kernel⟩,
    ⟨9, st 3, by decide +kernel⟩,
    ⟨9, st 4, by decide +kernel⟩,
    ⟨9, st 8, by decide +kernel⟩,
    ⟨9, st 9, by decide +kernel⟩⟩

/-- States and operands that meet the conditions of `Obligations.EveryStepKeepsTheBootInvariant`, one for each of its clauses. -/
theorem test_EveryStepKeepsTheBootInvariant_met :
    (∃ (s : State) (t : State), bootOk s ∧ step s = .next t) :=
  ⟨{ rd with pending := [.powerRemoved 9] }, after (step { rd with pending := [.powerRemoved 9] }), ⟨by decide +kernel, rfl⟩⟩

/-- States and operands that meet the conditions of `Obligations.EventsWriteNoConfiguration`, one for each of its clauses. -/
theorem test_EventsWriteNoConfiguration_met :
    (∃ (c : Instr) (s : State) (t : State), mayConfigure c = false ∧ exec c s = .next t) :=
  ⟨.thermalWarn 9 840, rd, after (exec (.thermalWarn 9 840) rd), ⟨by decide +kernel, rfl⟩⟩

/-- States and operands that meet the conditions of `Obligations.NoCommandTouchesTheQueue`, one for each of its clauses. -/
theorem test_NoCommandTouchesTheQueue_met :
    (∃ (c : Instr) (s : State) (t : State), exec c s = .next t) :=
  ⟨.powerRemoved 9, { rd with pending := [.watchdogReset] }, after (exec (.powerRemoved 9) { rd with pending := [.watchdogReset] }), rfl⟩

end Boot

end Sys2Proof.Tests
end

section
/-! PROOFS. What a new choice of the selectors leaves alone: the instant, and the parts of boot, root and pair. -/
namespace Sys2Proof.Machine
open Sys2Proof Host

/-- What a new choice of the selectors leaves alone: the instant, and the parts of boot, root and pair. -/
def steady (s : State) : Nat × BootPart × RootPart × PairRun := (s.now, s.boot, s.root, s.pair)

/-- A state that is put together holds the parts it is put together from: with `steady_eta`, an update of any other part keeps these. -/
theorem steady_mk (x0) (x1) (x2) (x3) (x4) (x5) (x6) (x7) (x8) (x9) (x10) (x11) (x12) (x13) (x14) (x15) (x16) (x17) (x18) (x19) (x20) (x21) (x22) (x23) (x24) (x25) (x26) (x27) (x28) (x29) (x30) (x31) (x32) (x33) :
    steady (State.mk x0 x1 x2 x3 x4 x5 x6 x7 x8 x9 x10 x11 x12 x13 x14 x15 x16 x17 x18 x19 x20 x21 x22 x23 x24 x25 x26 x27 x28 x29 x30 x31 x32 x33) = (x1, x7, x8, x16) := Eq.trans rfl rfl
theorem steady_eta (s : State) : (s.now, s.boot, s.root, s.pair) = steady s := Eq.trans rfl rfl
@[simp] theorem steady_ite {c : Prop} [Decidable c] (a b : State) : steady (if c then a else b) = if c then steady a else steady b := by split <;> rfl
theorem steady_of_plain {s t : State} (h : plain t = plain s) : steady t = steady s := by
  simp only [steady, now_of_plain h, boot_of_plain h, root_of_plain h, pair_of_plain h]
theorem steady_foldl {α : Type} (g : State → α → State) (h : ∀ s x, steady (g s x) = steady s) (l : List α) (s : State) : steady (l.foldl g s) = steady s := by
  induction l generalizing s with
  | nil => rfl
  | cons a l ih => simp only [List.foldl_cons, ih, h]

@[simp] theorem steady_raise (c b : Nat) (s : State) : steady (raise c b s) = steady s := steady_of_plain (plain_raise c b s)
@[simp] theorem steady_raiseIdx (c b i : Nat) (s : State) : steady (raiseIdx c b i s) = steady s := steady_of_plain (plain_raiseIdx c b i s)
@[simp] theorem steady_occur (c : Nat) (d : Int) (s : State) : steady (occur c d s) = steady s := steady_of_plain (plain_occur c d s)
@[simp] theorem steady_bump (n : Nat) (s : State) : steady (bump n s) = steady s := steady_of_plain (plain_bump n s)
@[simp] theorem steady_forward (x : LockInput) (s : State) : steady (forward x s) = steady s := steady_of_plain (plain_forward x s)
@[simp] theorem steady_updRef (o : Nat) (f : RefRun → RefRun) (s : State) : steady (updRef o f s) = steady s := Eq.trans rfl rfl
@[simp] theorem steady_updDpll (d : Nat) (f : DpllRun → DpllRun) (s : State) : steady (updDpll d f s) = steady s := Eq.trans rfl rfl
@[simp] theorem steady_updChan (c : Nat) (f : TdcChan → TdcChan) (s : State) : steady (updChan c f s) = steady s := Eq.trans rfl rfl
@[simp] theorem steady_dropSlew (s : State) : steady (dropSlew s) = steady s := Eq.trans rfl rfl
@[simp] theorem steady_runSlew (o : SlewOwner) (r : Int) (l : Nat) (s : State) : steady (runSlew o r l s) = steady s := Eq.trans rfl rfl
@[simp] theorem steady_setOrigin (b : Option Nat) (s : State) : steady (setOrigin b s) = steady s := Eq.trans rfl rfl
@[simp] theorem steady_startTrackBound (o : Nat) (s : State) : steady (startTrackBound o s) = steady s := Eq.trans rfl rfl
@[simp] theorem steady_settleBound (s : State) : steady (settleBound s) = steady s :=
  (steady_of_plain (settleBound_frame s)).trans rfl
@[simp] theorem steady_setRate (d : Nat) (r : Int) (s : State) : steady (setRate d r s) = steady s := by
  simp only [setRate, steady_mk, steady_eta, steady_ite, ite_self, steady_raise, steady_bump, steady_updDpll]
@[simp] theorem steady_closeHand (s : State) : steady (closeHand s) = steady s := by
  simp only [closeHand, steady_mk, steady_eta, steady_ite, ite_self, steady_raise]
@[simp] theorem steady_afterStep (c : Counter) (s : State) : steady (afterStep c s) = steady s := by
  unfold afterStep
  rw [steady_raise]
  split
  · rw [steady_closeHand]; rfl
  · rfl
@[simp] theorem steady_stepCounter (j : Int) (s : State) : steady (stepCounter j s) = steady s := by
  simp only [stepCounter, steady_mk, steady_eta, steady_occur, steady_afterStep]
@[simp] theorem steady_loadCounter (ts : Nat) (s : State) : steady (loadCounter ts s) = steady s := by
  simp only [loadCounter, steady_mk, steady_eta, steady_ite, ite_self, steady_raise, steady_occur, steady_afterStep]
@[simp] theorem steady_cancelPending (s : State) : steady (cancelPending s) = steady s := by
  unfold cancelPending
  split
  · rfl
  · rw [steady_raise]; rfl
@[simp] theorem steady_disturb (a f : Nat) (s : State) : steady (disturb a f s) = steady s := by
  simp only [disturb, steady_mk, steady_eta, steady_ite, ite_self, steady_raise]
@[simp] theorem steady_enterTracking (d : Nat) (st : DpllState) (s : State) : steady (enterTracking d st s) = steady s := Eq.trans rfl rfl
@[simp] theorem steady_fEnter (d : Nat) (s : State) : steady (fEnter d s) = steady s := Eq.trans rfl rfl
@[simp] theorem steady_dpllSwitch (d : Nat) (h : HeldTerms) (s : State) : steady (dpllSwitch d h s) = steady s := by
  simp only [dpllSwitch, steady_mk, steady_eta, steady_ite, ite_self, steady_updDpll]
@[simp] theorem steady_pauseLearning (s : State) : steady (pauseLearning s) = steady s := by
  unfold pauseLearning
  split <;> rfl
@[simp] theorem steady_dpllNone (d : Nat) (b : Option Nat) (s : State) : steady (dpllNone d b s) = steady s := by
  simp only [dpllNone, steady_mk, steady_eta, steady_ite, ite_self, steady_raise, steady_setRate, steady_updDpll, steady_dropSlew,
    steady_pauseLearning, steady_setOrigin]
@[simp] theorem steady_tEnterBy (o : Nat) (u st : Bool) (s : State) : steady (tEnterBy o u st s) = steady s := by
  simp only [tEnterBy, steady_mk, steady_eta, steady_ite, ite_self, steady_raise, steady_dropSlew, steady_cancelPending, steady_stepCounter,
    steady_loadCounter, steady_startTrackBound, steady_enterTracking, steady_disturb, steady_runSlew]
@[simp] theorem steady_tEnter (o : Nat) (st : Bool) (s : State) : steady (tEnter o st s) = steady s := steady_tEnterBy _ _ _ _
@[simp] theorem steady_tAccept (o : Nat) (st : Bool) (s : State) : steady (tAccept o st s) = steady s := steady_tEnterBy _ _ _ _
@[simp] theorem steady_tTake (o : Nat) (s : State) : steady (tTake o s) = steady s := by
  unfold tTake
  split
  · rfl
  · split <;> simp only [steady_ite, ite_self, steady_tEnter, steady_tAccept]
@[simp] theorem steady_judge (o : Nat) (j : Int) (u : Nat) (s : State) : steady (judge o j u s) = steady s := by
  simp only [judge, withdrawFinding, startWtr, makeFinding, refEvent, steady_mk, steady_eta, steady_ite, ite_self, steady_raise, steady_raiseIdx,
    steady_updRef, steady_updDpll]
@[simp] theorem steady_switchTo (d : Nat) (k : Option Nat) (s : State) : steady (switchTo d k s) = steady s := by
  unfold switchTo
  dsimp only
  split <;> simp only [steady_mk, steady_eta, steady_ite, ite_self, steady_raise, steady_forward, steady_dpllNone, steady_dpllSwitch,
    steady_tTake, steady_fEnter]
@[simp] theorem steady_dummySel (d : Nat) (s : State) : steady (dummySel d s) = steady s := by
  unfold dummySel
  generalize (if following s.pair.sync then some partnerOrd else none) = o
  dsimp only
  split
  · rfl
  · cases o <;> simp only [steady_mk, steady_eta, steady_ite, ite_self, steady_dpllNone, steady_dpllSwitch]
@[simp] theorem steady_evalSel (fuel d : Nat) (s : State) : steady (evalSel fuel d s) = steady s := by
  induction fuel generalizing d s with
  | zero => rfl
  | succ fuel ih =>
    unfold evalSel
    dsimp only
    split
    · exact steady_dummySel d s
    · split
      · rfl
      · split <;> simp only [steady_ite, ite_self, ih, steady_judge, steady_switchTo]
@[simp] theorem steady_cleanSplits (s : State) : steady (cleanSplits s) = steady s := Eq.trans rfl rfl
@[simp] theorem steady_evalAll (s : State) : steady (evalAll s) = steady s := by
  unfold evalAll
  rw [steady_settleBound, steady_cleanSplits]
  exact steady_foldl _ (fun s d => steady_evalSel 40 d s) _ s

/-! ### Entry to JOINING -/

@[simp] theorem steady_freeAll (s : State) : steady (freeAll s) = steady s := by
  simp only [freeAll, steady_mk, steady_eta]
  exact steady_foldl _ (fun s d => steady_updDpll d _ s) _ s
@[simp] theorem steady_armNow (c : Nat) (f : Int) (s : State) : steady (armNow c f s) = steady s := by
  simp only [armNow, openGate, gateAt, steady_ite, steady_updChan, ite_self]
@[simp] theorem steady_ownChannels (s : State) : steady (ownChannels s) = steady s := by
  simp only [ownChannels, steady_mk, steady_eta]
  refine steady_foldl _ (fun s e => ?_) _ s
  simp only [disarmChan, steady_updChan, steady_armNow]
/-- Entry to JOINING leaves all of this alone but for the pair's own record of it (R402). -/
theorem steady_enterJoining (s : State) : steady (enterJoining s) =
    (s.now, s.boot, s.root, { s.pair with sync := .joining, joinCount := 0, timeSet := false, lockRun := 0, applied := none }) := by
  unfold enterJoining
  rw [steady_settleBound, steady_evalAll, steady_ownChannels, steady_freeAll]
  rfl
end Sys2Proof.Machine
end

section
/-! PROOFS. Supplies, device reset and the watchdog (R552 to R565). -/
namespace Sys2Proof.Machine
open Sys2Proof Host

/-! ### Device reset and self-faults -/

@[simp] theorem moveTo_out (ps : Nat) (s : State) : (moveTo ps s).out = s.out := by
  unfold moveTo; split
  · rfl
  · split <;> rfl
@[simp] theorem begin_out (ps : Nat) (s : State) : (begin_ ps s).out = [] := moveTo_out ps _

theorem dropClaim_boot (s : State) : (dropClaim s).boot = s.boot := (boot_of_plain (dropClaim_frame s)).trans rfl
theorem dropClaim_pending (s : State) : (dropClaim s).pending = s.pending := (pending_of_plain (dropClaim_frame s)).trans rfl
theorem dropClaim_fuse (s : State) : (dropClaim s).fuse = s.fuse := (fuse_of_plain (dropClaim_frame s)).trans rfl

/-- The supplies, the fault record and RESET_CAUSE outlive a device reset, every other record of boot does not (R555, R570). -/
theorem deviceReset_boot (cause : Nat) (s : State) : (deviceReset cause s).boot = {
    vddio := s.boot.vddio, powerGood := s.boot.powerGood, resetLow := s.boot.resetLow, thermalHold := s.boot.thermalHold
    perst := s.boot.perst, faults := s.boot.faults, faultOverflow := s.boot.faultOverflow, resetCause := cause } := by
  rw [← dropClaim_boot s]; rfl
theorem deviceReset_pending (cause : Nat) (s : State) : (deviceReset cause s).pending = s.pending := dropClaim_pending s
theorem deviceReset_fuse (cause : Nat) (s : State) : (deviceReset cause s).fuse = s.fuse := dropClaim_fuse s
theorem deviceReset_pair (cause : Nat) (s : State) : (deviceReset cause s).pair = {} := rfl
theorem deviceReset_work (cause : Nat) (s : State) : (deviceReset cause s).work = {} := rfl
/-- The pins stand as device reset has them (R565). -/
theorem deviceReset_pads (cause : Nat) (s : State) : (deviceReset cause s).out.getLast? =
    some (.pads [(.outputs, .highZ), (.lanes, .off), (.claimTx, .highZ), (.claimOwn, .highZ), (.intN, .highZ),
      (.bpllLock, .highZ), (.serial, .highZ), (.hostSpi, .highZ)]) := by
  simp only [deviceReset, setPads, emit, List.getLast?_append]
  rfl

/-- No root-derived clock runs without a locked root (R19). -/
theorem not_running_of_unlocked {s : State} (h : s.root.locked = false) : running s = false := by
  simp [running, h]

theorem recordFault_faults (c d : Nat) (s : State) (h : s.boot.faults.length < 8) :
    (recordFault c d s).boot.faults = s.boot.faults ++ [{
      ps := s.now, cause := c, claim := s.pair.force, powerCycle := s.score.powerCycle, opTime := opTime s, detail := d }] := by
  simp only [recordFault, if_pos h]
/-- What a self-fault that drops the claim leaves in the part of boot (R31, R384). -/
theorem selfFault_boot (c d : Nat) (s : State) (h : dropsClaim c = true) :
    (selfFault c d s).boot = { (recordFault c d s).boot with claimSpent := true } := by
  unfold selfFault
  rw [if_pos h, dropClaim_boot]
  split
  · simp only [raise_boot]
  · rfl
theorem selfFault_fuse (c d : Nat) (s : State) (h : dropsClaim c = true) : (selfFault c d s).fuse = s.fuse := by
  obtain ⟨-, -, -, -, -, hf⟩ := selfFault_drops c d s h
  exact (fuse_of_plain hf).trans rfl
theorem selfFault_now (c d : Nat) (s : State) (h : dropsClaim c = true) : (selfFault c d s).now = s.now := by
  obtain ⟨-, -, -, -, -, hf⟩ := selfFault_drops c d s h
  exact (now_of_plain hf).trans rfl
theorem selfFault_root (c d : Nat) (s : State) (h : dropsClaim c = true) : (selfFault c d s).root = s.root := by
  obtain ⟨-, -, -, -, -, hf⟩ := selfFault_drops c d s h
  exact (root_of_plain hf).trans rfl

/-! ### A dropped claim takes the enable with it -/

theorem enterJoining_fields (s : State) : (enterJoining s).now = s.now ∧ (enterJoining s).boot = s.boot ∧ (enterJoining s).root = s.root ∧
    (enterJoining s).pair = { s.pair with sync := .joining, joinCount := 0, timeSet := false, lockRun := 0, applied := none } := by
  have h := steady_enterJoining s
  simp only [steady, Prod.mk.injEq] at h
  exact h
theorem afterDrop_fields (b s : State) : (afterDrop b s).now = s.now ∧ (afterDrop b s).boot = s.boot ∧ (afterDrop b s).root = s.root ∧
    (afterDrop b s).pair.live = s.pair.live := by
  unfold afterDrop
  split
  · obtain ⟨hn, hb, hr, hp⟩ := enterJoining_fields s
    exact ⟨hn, hb, hr, by rw [hp]⟩
  · exact ⟨rfl, rfl, rfl, rfl⟩

/-! ### The rows of supplies and reset -/

/-- POWER_GOOD_FALL enters the rails into the fault record and resets the chip (R553, R570). -/
theorem powerGoodFall_resets (rails : Nat) (x : State) (hp : x.boot.powerGood = true) (hr : rails % 128 ≠ 0) :
    let t := powerGoodFall rails x
    running t = false ∧ t.boot.powerGood = false ∧ t.boot.inReset = true ∧ t.boot.stage = 0 ∧ t.boot.resetCause = 1 ∧
    t.pair.live = false ∧ t.work = ({} : Cfg) ∧ t.fuse = x.fuse ∧
    (x.boot.faults.length < 8 → t.boot.faults = x.boot.faults ++ [{
      ps := x.now, cause := 4, claim := x.pair.force, powerCycle := x.score.powerCycle, opTime := opTime x, detail := rails % 128 }]) := by
  have e : powerGoodFall rails x = updBoot (fun b => { b with powerGood := false }) (deviceReset 1 (selfFault 4 (rails % 128) x)) := by
    simp only [powerGoodFall, hp, hr, faultReset, Bool.not_true, Bool.false_or, decide_false, Bool.false_eq_true, if_false]
  intro t
  have hb : t.boot = { (deviceReset 1 (selfFault 4 (rails % 128) x)).boot with powerGood := false } := by simp only [t, e, updBoot]
  have hd : dropsClaim 4 = true := rfl
  simp only [hb, deviceReset_boot, selfFault_boot 4 _ _ hd]
  simp only [t, e, updBoot_pair, updBoot_work, updBoot_fuse, deviceReset_pair, deviceReset_work, deviceReset_fuse, selfFault_fuse 4 _ _ hd,
    not_running_of_unlocked (s := updBoot _ (deviceReset _ _)) rfl, true_and]
  exact recordFault_faults 4 _ x

/-- POWER_REMOVED leaves the reset state with neither supplies nor a fault record (R553). -/
theorem powerRemoved_resets (x : State) :
    let t := powerRemoved x
    running t = false ∧ t.boot.vddio = false ∧ t.boot.powerGood = false ∧ t.boot.faults = [] ∧
    t.boot.inReset = true ∧ t.pair.live = false ∧ t.work = ({} : Cfg) ∧ t.fuse = x.fuse ∧ t.pending = x.pending := by
  refine ⟨not_running_of_unlocked rfl, rfl, rfl, rfl, ?_, rfl, rfl, ?_, ?_⟩
  · simp only [powerRemoved, updBoot, deviceReset_boot]
  · exact deviceReset_fuse 0 _
  · exact deviceReset_pending 0 _

/-- The pins' stands out of device reset, by the loss-of-lock state and by whether the claim has opened (R565). -/
theorem padTable_running (s : State) (h : s.boot.inReset = false) : padTable s =
    [(.outputs, if s.root.lost then .highZ else if s.boot.claimSpent then .owned else .sharedHighZ),
     (.lanes, if s.root.lost then .off else if s.boot.claimSpent then .owned else .sharedIdle),
     (.claimTx, if s.root.lost || !s.boot.claimSpent then .low else .owned), (.claimOwn, if s.root.lost || !s.boot.claimSpent then .low else .owned),
     (.intN, if s.root.lost then .low else .owned), (.bpllLock, .owned),
     (.serial, if s.root.lost then .highZ else if s.boot.claimSpent then .owned else .idleHigh), (.hostSpi, if s.root.lost then .highZ else .owned)] := by
  simp only [padTable, List.map_cons, List.map_nil]
  delta padStand
  simp only [h]
  cases s.root.lost <;> cases s.boot.claimSpent <;> rfl
/-- RESET_END with its conditions met: boot begins, and the pins take their stand until the claim opens (R554, R558, R565). -/
theorem resetEnd_starts (pairId : Bool) (bootSrc : Nat) (quad : Bool) (x : State) (hr : x.boot.inReset = true)
    (hp : x.boot.powerGood = true) (ht : x.boot.thermalHold = false) (hl : x.boot.resetLow ≤ x.now) (ho : x.out = []) :
    resetEnd pairId bootSrc quad x = { x with
      boot := { x.boot with inReset := false, stage := 1, pairId := pairId, bootSrc := bootSrc % 4, spiQuad := quad, resetEnd := x.now }
      root := { x.root with detected := x.now }, pair := { x.pair with rxAt := x.now }
      out := [.pin "CLAIM_TX" 0, .pin "CLAIM_OWN" 0, .pin "BPLL_LOCK" 0, .pads [(.outputs, if x.root.lost then .highZ else if x.boot.claimSpent then .owned else .sharedHighZ),
        (.lanes, if x.root.lost then .off else if x.boot.claimSpent then .owned else .sharedIdle), (.claimTx, if x.root.lost || !x.boot.claimSpent then .low else .owned),
        (.claimOwn, if x.root.lost || !x.boot.claimSpent then .low else .owned), (.intN, if x.root.lost then .low else .owned), (.bpllLock, .owned),
        (.serial, if x.root.lost then .highZ else if x.boot.claimSpent then .owned else .idleHigh), (.hostSpi, if x.root.lost then .highZ else .owned)]] } := by
  have hn : ¬ x.now < x.boot.resetLow := by omega
  simp only [resetEnd, hr, hp, ht, hn, Bool.not_true, Bool.or_self, decide_false, Bool.false_eq_true, if_false, setPads, emit, updBoot, ho,
    List.nil_append, List.cons_append, padTable_running]

/-- WATCHDOG_EXPIRY outside device reset and the loss-of-lock state: a self-fault, and a reset 1 ms later (R556). -/
theorem watchdogExpiry_faults (x : State) (hr : x.boot.inReset = false) (hl : x.root.lost = false) :
    let t := watchdogExpiry x
    t.boot.watchdogReset = some (x.now + 1000000000) ∧ t.pair.live = false ∧ t.boot.claimSpent = true ∧
    (x.boot.faults.length < 8 → t.boot.faults.length = x.boot.faults.length + 1) := by
  have hd : dropsClaim 3 = true := rfl
  obtain ⟨hnow, hboot, hroot, hpair⟩ := afterDrop_fields x (selfFault 3 0 x)
  have e : watchdogExpiry x = updBoot (fun b => { b with watchdogReset := some (x.now + 1000000000) }) (afterDrop x (selfFault 3 0 x)) := by
    simp only [watchdogExpiry, hr, hroot, selfFault_root 3 0 x hd, hl, hnow, selfFault_now 3 0 x hd, msPs, Bool.false_eq_true,
      if_false]
  obtain ⟨-, hlive, -⟩ := selfFault_drops 3 0 x hd
  intro t
  have hb : t.boot = { (selfFault 3 0 x).boot with watchdogReset := some (x.now + 1000000000) } := by
    simp only [t, e, updBoot, hboot]
  have hp : t.pair.live = false := by simp only [t, e, updBoot_pair, hpair, hlive]
  simp only [hb, selfFault_boot 3 0 x hd]
  exact ⟨trivial, hp, trivial, fun h => by rw [recordFault_faults 3 0 x h, List.length_append]; rfl⟩

/-- Settles O54, row by row: what each row makes of the chip is the reset state or a self-fault, and those are said once above. -/
theorem suppliesAndReset : Obligations.SuppliesAndReset := by
  unfold Obligations.SuppliesAndReset
  refine ⟨fun t s => rfl, deviceReset_pads, ?_, ?_, ?_, ?_, ?_, ?_, ?_⟩
  · intro t s x hv
    exact congrArg Outcome.next (if_pos hv)
  · intro t rails s x hp hr
    exact ⟨_, rfl, powerGoodFall_resets rails x hp hr⟩
  · intro t s x
    exact ⟨_, rfl, powerRemoved_resets x⟩
  · intro t width s x y
    refine ⟨fun h => if_pos h, fun h1 h2 => ?_, fun h => ?_⟩
    · exact (if_neg (by omega)).trans (if_pos h2)
    · exact (if_neg (by omega)).trans (if_neg (by omega))
  · intro t bootSrc pairId quad s x hr hp ht hl
    exact congrArg Outcome.next (resetEnd_starts pairId bootSrc quad x hr hp ht hl (begin_out t s))
  · intro t s x hr hl
    obtain ⟨hw, hlive, hspent, hf⟩ := watchdogExpiry_faults x hr hl
    exact ⟨_, rfl, hw, hlive, hspent, kept_watchdogExpiry x, hf⟩
  · intro d s hd y z
    change Outcome.next (watchdogReset { s with out := [] }) = _
    simp only [watchdogReset, hd]
    rfl
end Sys2Proof.Machine
end

section
/-! PROOFS. The time that TIME_READ and the live-time latch report (R10, R60, R63). -/
namespace Sys2Proof.Machine
open Sys2Proof Host

/-! ### Fields of reply data -/

/-- A field at or past the end of the first part of the data lies in the rest. -/
theorem fld_append_right {a r : Bytes} {j n : Nat} (h : a.length ≤ j) : fld (a ++ r) j n = fld r (j - a.length) n := fld_skip rfl h
theorem ofSigned_lt (n : Nat) (v : Int) : ofSigned n v < 2 ^ n := by
  have h := Int.emod_lt_of_pos v (b := ((2 ^ n : Nat) : Int)) (by positivity)
  have h0 := Int.emod_nonneg v (b := ((2 ^ n : Nat) : Int)) (by positivity)
  unfold ofSigned
  omega
theorem fld_leInt_here (n : Nat) (v : Int) (r : Bytes) : fld (leInt n v ++ r) 0 n = ofSigned (8 * n) v := by
  have e : 256 ^ n = 2 ^ (8 * n) := by rw [Nat.pow_mul]
  exact (fld_le_here n _ r).trans (Nat.mod_eq_of_lt (e ▸ ofSigned_lt (8 * n) v))
theorem fld_zeros_here (n : Nat) (r : Bytes) : fld (zeros n ++ r) 0 n = 0 := by
  rw [fld_here (zeros_length n)]
  induction n with
  | zero => rfl
  | succ n ih => simpa [zeros, List.replicate_succ, fromLE] using ih
@[simp] theorem tsBytes_length (t : Nat) : (tsBytes t).length = 12 := by simp [tsBytes]
@[simp] theorem boundBytes_length (b : Option Nat) : (boundBytes b).length = 8 := leBytes_length 8 _
@[simp] theorem shownBound_length (c : Bool) (b : Option Nat) : (shownBound c b).length = 8 := by
  cases c <;> simp [shownBound]

/-- A bit of a field is the bit of the value that was put into it. -/
theorem testBit_field {n k : Nat} (v : Nat) (h : k < 8 * n) : (v % 256 ^ n).testBit k = v.testBit k := by
  have e : 256 ^ n = 2 ^ (8 * n) := by rw [Nat.pow_mul]
  rw [e, Nat.testBit_mod_two_pow]
  simp [h]
theorem testBit_packBits (l : List Bool) (k : Nat) : (packBits l).testBit k = l.getD k false := by
  induction l generalizing k with
  | nil => simp [packBits]
  | cons b l ih =>
    have e : packBits (b :: l) = Nat.bit b (packBits l) := by cases b <;> simp [packBits, b2n, Nat.bit, Nat.add_comm]
    rw [e]
    cases k with
    | zero => simp
    | succ k => simpa [Nat.testBit_bit_succ] using ih k

/-- The parts of a counter value in range, as the bytes of a Timestamp96 have them (R10). -/
theorem curTs_parts (x : State) (hn : x.time.counter.ns < 1000000000) (hf : x.time.counter.frac < 2 ^ 48) :
    curTs x % 65536 = x.time.counter.frac / 2 ^ 32 ∧ curTs x / 65536 % 1000000000 = x.time.counter.ns ∧
    curTs x / tsSec = x.time.counter.sec := by
  unfold curTs Counter.total tsSec
  revert hn hf
  generalize x.time.counter.ns = n, x.time.counter.frac = f, x.time.counter.sec = z
  intro hn hf
  omega

theorem timeReadReply_length (x : State) : (timeReadReply x).length = 80 := by simp [timeReadReply]

theorem timeReadReply_counter (x : State) (hs : x.time.counter.sec < 2 ^ 48) (hn : x.time.counter.ns < 1000000000)
    (hf : x.time.counter.frac < 2 ^ 48) :
    fld (timeReadReply x) 0 2 = x.time.counter.frac / 2 ^ 32 ∧ fld (timeReadReply x) 2 4 = x.time.counter.ns ∧
    fld (timeReadReply x) 6 6 = x.time.counter.sec := by
  obtain ⟨h0, h1, h2⟩ := curTs_parts x hn hf
  simp only [timeReadReply, tsBytes, List.append_assoc, fld_append_right, fld_le_here, leBytes_length, h0, h1, h2, Nat.reduceLeDiff,
    Nat.reduceSub]
  refine ⟨Nat.mod_eq_of_lt ?_, Nat.mod_eq_of_lt ?_, Nat.mod_eq_of_lt ?_⟩ <;> omega

theorem testBit_timeFlags (x : State) : (timeFlags x).testBit 0 = x.time.valid := testBit_packBits _ 0

theorem timeReadReply_fields (x : State) :
    (fld (timeReadReply x) 12 4).testBit 0 = x.time.valid ∧ fld (timeReadReply x) 16 8 = boundPs (counterBound x) % 2 ^ 64 ∧
    fld (timeReadReply x) 24 8 = x.time.rate % 2 ^ 64 ∧
    fld (timeReadReply x) 32 8 = (((x.time.rate : Int) * 40960 - 2 ^ 64) % 2 ^ 64).toNat ∧
    fld (timeReadReply x) 40 4 = x.time.stepEpoch % 2 ^ 32 ∧
    fld (timeReadReply x) 44 2 = (offsetInForce x.time x.time.counter.sec % 2 ^ 16).toNat := by
  simp only [timeReadReply, boundBytes, List.append_assoc, fld_append_right, fld_le_here, fld_leInt_here, tsBytes_length, leBytes_length,
    leInt_length, Nat.reduceLeDiff, Nat.reduceSub]
  refine ⟨?_, by norm_num, by norm_num, ?_, by norm_num, ?_⟩
  · rw [testBit_field _ (by decide), testBit_timeFlags]
  · norm_num [ofSigned, freqOfRate]
  · norm_num [ofSigned, offsetNow]

/-! ### The live-time latch -/

theorem bankOf_updBank (i : Iface) (f : IfBank → IfBank) (s : State) : bankOf (updBank i f s) i = f (bankOf s i) := by cases i <;> rfl
@[simp] theorem bankOf_emit (o : Output) (s : State) (i : Iface) : bankOf (emit o s) i = bankOf s i := by cases i <;> rfl

/-- A read of TIME_LATCH_LO on an interface that answers (R60). -/
theorem latchRead_answers {i : Iface} {t : Nat} {s : State} (h : answers (begin_ t s) i = true) :
    latchRead i t s = emit (.readData i (latchOf ((bankOf (begin_ t s) i).latch.count + 1) (begin_ t s)).lo)
      (updBank i (fun b => { b with latch := latchOf ((bankOf (begin_ t s) i).latch.count + 1) (begin_ t s) }) (begin_ t s)) := by
  simp only [latchRead, h, Bool.not_true, Bool.false_eq_true, if_false]

/-- Bit 0 of the word that TIME_LATCH_LO reads as tells whether time is valid (R60). -/
theorem latchOf_lo_valid (n : Word) (x : State) : (latchOf n x).lo.toNat % 2 = b2n x.time.valid := by
  have hf : timeFlags x % 2 = b2n x.time.valid := by
    rw [← testBit_timeFlags x, Nat.testBit_zero]
    rcases Nat.mod_two_eq_zero_or_one (timeFlags x) with h | h <;> simp [h, b2n]
  simp only [latchOf, BitVec.toNat_ofNat]
  omega

theorem latchOf_words (n : Word) (x : State) : (latchOf n x).ns.toNat = x.time.counter.ns % 2 ^ 32 ∧
    (latchOf n x).secLo.toNat = x.time.counter.sec % 2 ^ 32 ∧ (latchOf n x).boundLo.toNat = boundPs (counterBound x) % 2 ^ 32 :=
  ⟨BitVec.toNat_ofNat _ 32, BitVec.toNat_ofNat _ 32, BitVec.toNat_ofNat _ 32⟩

/-- Settles O10: the reply of TIME_READ field by field, and the values that the latch takes. -/
theorem timeIsReadFromOneTick : Obligations.TimeIsReadFromOneTick := by
  unfold Obligations.TimeIsReadFromOneTick
  refine ⟨?_, ?_⟩
  · intro q s hs hf x c
    exact ⟨timeReadReply x, runCmd_done hs (checked_of hf) rfl rfl, timeReadReply_length x, timeReadReply_counter x, timeReadReply_fields x⟩
  · intro i t s x ha
    obtain ⟨hn, hs, hb⟩ := latchOf_words ((bankOf x i).latch.count + 1) x
    refine ⟨_, rfl, (latchOf ((bankOf x i).latch.count + 1) x).lo, ?_⟩
    rw [latchRead_answers ha]
    simp only [bankOf_emit, bankOf_updBank]
    refine ⟨?_, latchOf_lo_valid _ x, rfl, hn, hs, rfl, hb, rfl⟩
    change (updBank i _ x).out ++ [_] = [_]
    rw [updBank_out, begin_out]
    rfl

end Sys2Proof.Machine
end

section
/-! PROOFS. The Meld's and the bound's commands (R164 to R168). -/
namespace Sys2Proof.Machine
open Sys2Proof Host

/-! ### MELD_CONFIGURE and MELD_CLOCK_SET -/

theorem refuseIf_true {c : Bool} {st d : Nat} {k : Answer} (h : c = true) : refuseIf c st d k = .refuse st d := by rw [h]; rfl

/-- A command that writes the shadow set unless a condition refuses it with BAD_STATE (R164, R165). -/
theorem runCmd_writesUnless {op : Nat} {q : Req} {s : State} {h : Handler} {c : Bool} {f : Cfg → Cfg} (hs : startsAt op q s = true)
    (hh : h q (started op q s) = refuseIf c stBadState 0 (writes f (started op q s))) :
    (c = false → cmdRow op h q s = done op q [] { started op q s with shadow := f (started op q s).shadow }) ∧
    (c = true → cmdRow op h q s = .next (reply op q 0x12 0 [] (started op q s))) := by
  refine ⟨fun hc => ?_, fun hc => ?_⟩
  · exact runCmd_done hs (hh.trans (refuseIf_not hc)) rfl rfl
  · exact congrArg Outcome.next (runCmd_refused hs (hh.trans (refuseIf_true hc)))

/-- The Meld of a shadow set serves some DPLL or some source, so that it may not be disabled (R165). -/
theorem meldNeeded_iff (c : Cfg) : ((c.dplls.any fun d => d.holdSource == 1) || (c.pols.any fun r => r.monBasis == 1)) = true ↔
    (∃ d, d ∈ c.dplls ∧ d.holdSource = 1) ∨ (∃ r, r ∈ c.pols ∧ r.monBasis = 1) := by
  simp

/-! ### The replies of MELD_STATUS and BOUND_READ -/

theorem meldStatusReply_fields (x : State) :
    fld (meldStatusReply x) 0 1 = b2n x.work.meld.enable ∧ fld (meldStatusReply x) 3 1 = x.meld.lastVote % 256 ∧
    fld (meldStatusReply x) 4 2 = x.meld.lastVoteSource % 65536 ∧ (fld (meldStatusReply x) 6 2).testBit 1 = x.hold.horizonPassed ∧
    fld (meldStatusReply x) 8 4 = x.meld.updateCount % 2 ^ 32 := by
  simp only [meldStatusReply, List.append_assoc, fld_append_right, fld_le_here, leBytes_length, Nat.reduceLeDiff, Nat.reduceSub]
  refine ⟨?_, by norm_num, by norm_num, ?_, by norm_num⟩
  · cases x.work.meld.enable <;> rfl
  · rw [testBit_field _ (by decide), testBit_packBits]
    rfl

theorem fld_shownBound_here (c : Bool) (b : Option Nat) (r : Bytes) :
    fld (shownBound c b ++ r) 0 8 = if c then boundPs b % 2 ^ 64 else 0 := by
  cases c
  · exact fld_zeros_here 8 r
  · simp only [shownBound, boundBytes, if_true, fld_le_here, Nat.reducePow]

theorem boundReadReply_length (port : Nat) (x : State) : (boundReadReply port x).length = 128 := by
  unfold boundReadReply
  simp only [List.length_append, tsBytes_length, boundBytes_length, shownBound_length, leBytes_length, zeros_length]

/-- The reply of BOUND_READ: a term of a mode that does not stand reads as 0 (R167). -/
theorem boundReadReply_fields (port : Nat) (x : State) :
    fld (boundReadReply port x) 12 1 = boundMode x % 256 ∧ fld (boundReadReply port x) 13 1 = port % 256 ∧
    fld (boundReadReply port x) 16 8 = boundPs (counterBound x) % 2 ^ 64 ∧
    fld (boundReadReply port x) 24 8 = (if boundMode x == 1 then boundPs (trackTerms x).unc % 2 ^ 64 else 0) ∧
    fld (boundReadReply port x) 72 8 = (if boundMode x == 1 then boundPs (some x.bound.dist) % 2 ^ 64 else 0) ∧
    fld (boundReadReply port x) 80 8 = (if boundMode x == 2 then boundPs x.hold.b0 % 2 ^ 64 else 0) ∧
    fld (boundReadReply port x) 88 8 = (if boundMode x == 2 then boundPs (some (growthAt x.now x)) % 2 ^ 64 else 0) := by
  unfold boundReadReply
  simp only [boundBytes, List.append_assoc, fld_append_right, fld_le_here, fld_shownBound_here, tsBytes_length, leBytes_length,
    shownBound_length, Nat.reduceLeDiff, Nat.reduceSub, Nat.reducePow, and_self]

theorem boundMode_le (x : State) : boundMode x ≤ 2 := by unfold boundMode; split <;> [skip; split] <;> omega
theorem boundMode_unbounded {x : State} (h : counterBound x = none) : boundMode x = 0 := by simp [boundMode, h]

/-! ### BOUND_POLICY -/

/-- What BOUND_POLICY makes of a shadow set (R168). -/
def boundPolicySet (p : Bytes) (c : Cfg) : Cfg :=
  let c := if bit (fld p 0 1) 0 then { c with bound := { nTrack := fld p 1 1, alertLevel := fld p 24 8 } } else c
  match bit (fld p 0 1) 1, ordOf (fld p 2 2) with
  | true, some o => { c with boundSrc := upd c.boundSrc o (fun _ =>
      { halfPath := fld p 4 1 == 1, asymAllow := fld p 8 8, extraUnc := fld p 16 8 }) }
  | _, _ => c

theorem hBoundPolicy_done {q : Req} {x : State} (hf : fits q 32 (boundPolicyFields x.shadow q.params)) :
    hBoundPolicy q x = .done (boundPolicyReply (fld q.params 2 2) x.work) (shadowed (boundPolicySet q.params) x) := by
  refine (checked_of hf).trans ?_
  split
  · rename_i h0
    have hb : ∀ k, bit (fld q.params 0 1) k = false := fun k => by rw [h0]; exact Nat.zero_testBit k
    simp only [shadowed, boundPolicySet, hb, Bool.false_eq_true, if_false]
  · rfl

/-- BOUND_POLICY writes the global settings and those of the source, and nothing else. -/
theorem boundPolicySet_frame (p : Bytes) (c : Cfg) :
    boundPolicySet p c = { c with bound := (boundPolicySet p c).bound, boundSrc := (boundPolicySet p c).boundSrc } := by
  unfold boundPolicySet
  split <;> dsimp only <;> split <;> rfl
theorem boundPolicySet_bound (p : Bytes) (c : Cfg) : (boundPolicySet p c).bound =
    if (fld p 0 1).testBit 0 then { nTrack := fld p 1 1, alertLevel := fld p 24 8 } else c.bound := by
  unfold boundPolicySet bit
  split <;> dsimp only <;> split <;> rfl
theorem boundPolicySet_src {p : Bytes} {c : Cfg} {o : Nat} {e : BoundSrcCfg} (ho : ordOf (fld p 2 2) = some o) (he : c.boundSrc[o]? = some e) :
    (boundPolicySet p c).boundSrc[o]? = some (if (fld p 0 1).testBit 1 then
      { halfPath := fld p 4 1 == 1, asymAllow := fld p 8 8, extraUnc := fld p 16 8 } else e) := by
  cases hg : (fld p 0 1).testBit 0 <;> cases hb : (fld p 0 1).testBit 1 <;>
    simp only [boundPolicySet, bit, ho, hg, hb, upd_get, he, Bool.false_eq_true, if_false, if_true, Option.map_some]

theorem boundPolicyReply_length (id : Nat) (c : Cfg) : (boundPolicyReply id c).length = 32 := by
  simp [boundPolicyReply]
theorem boundPolicyReply_fields (id : Nat) (c : Cfg) :
    fld (boundPolicyReply id c) 1 1 = c.bound.nTrack % 256 ∧ fld (boundPolicyReply id c) 2 2 = id % 65536 ∧
    fld (boundPolicyReply id c) 24 8 = c.bound.alertLevel % 2 ^ 64 := by
  simp only [boundPolicyReply, List.append_assoc, fld_append_right, fld_le_here, fld_le_all, leBytes_length, zeros_length, List.length_singleton,
    Nat.reduceLeDiff, Nat.reduceSub, Nat.reducePow, and_self]

/-- Settles O22, command by command: where each writes or refuses, and the fields of the replies. -/
theorem meldAndBoundCommands : Obligations.MeldAndBoundCommands := by
  unfold Obligations.MeldAndBoundCommands
  refine ⟨?_, ?_, ?_, ?_, ?_⟩
  · intro q s hs hf x p needed
    obtain ⟨hw, hr⟩ := runCmd_writesUnless (h := hMeldConfigure) hs (checked_of hf)
    have hn := meldNeeded_iff x.shadow
    refine ⟨fun h => hw ?_, fun h0 h1 => hr ?_⟩
    · rcases h with h | h
      · have e : (fld p 0 1 == 0) = false := by rw [h]; rfl
        exact (congrArg (· && _) e).trans (Bool.false_and _)
      · exact Bool.and_eq_false_imp.mpr fun _ => Bool.eq_false_iff.mpr (mt hn.mp h)
    · exact Bool.and_eq_true_iff.mpr ⟨beq_iff_eq.mpr h0, hn.mpr h1⟩
  · intro q s hs x p slot old bad c hf
    obtain ⟨hw, hr⟩ := runCmd_writesUnless (h := hMeldClockSet) hs (checked_of hf)
    have hb : (slot != 0 && old != 0 && old == x.shadow.hold.holdClock && (meldSlotCfgOf p).sourceId != old && (tdpll x).state != .holdover) = true ↔ bad := by
      simp [bad, meldSlotCfgOf, and_assoc]
    exact ⟨fun h => hw (Bool.eq_false_iff.mpr (mt hb.mp h)), fun h => hr (hb.mpr h)⟩
  · intro q s hs hf x
    exact ⟨meldStatusReply x, runCmd_done hs (checked_of hf) rfl rfl, meldStatusReply_fields x⟩
  · intro q s hs hf x
    obtain ⟨h12, h13, h16, h24, h72, h80, h88⟩ := boundReadReply_fields (fld q.params 0 1) x
    have hm : fld (boundReadReply (fld q.params 0 1) x) 12 1 = boundMode x := h12.trans (Nat.mod_eq_of_lt (by have := boundMode_le x; omega))
    refine ⟨boundReadReply (fld q.params 0 1) x, runCmd_done hs (checked_of hf) rfl rfl, boundReadReply_length _ x, hm, h13, h16, fun hn => ⟨?_, ?_⟩,
      fun h1 => ?_, fun h2 => ⟨?_, ?_⟩, fun h1 => ?_⟩
    · rw [h16, hn]; rfl
    · rw [hm, boundMode_unbounded hn]
    · simp only [h72, h1, beq_self_eq_true, if_true]
    · simp only [h80, beq_iff_eq, if_neg h2]
    · simp only [h88, beq_iff_eq, if_neg h2]
    · simp only [h24, beq_iff_eq, if_neg h1]
  · intro q s hs x p id hf
    obtain ⟨h1, h2, h24⟩ := boundPolicyReply_fields id x.work
    exact ⟨boundPolicyReply id x.work, boundPolicySet p x.shadow, runCmd_done hs (hBoundPolicy_done hf) rfl rfl, boundPolicyReply_length _ _, h1, h2, h24,
      boundPolicySet_frame p x.shadow, boundPolicySet_bound p x.shadow, fun o e ho he => boundPolicySet_src ho he⟩

end Sys2Proof.Machine
end

section
/-! PROOFS. The register window: reads, submissions, load blocks, cause clears and writes (R490 to R518, R561). -/
namespace Sys2Proof.Machine
open Sys2Proof Host

/-! ### The banks of the interfaces -/

theorem accessAt_answers {i : Iface} {t : Nat} {s : State} (f : State → State) (h : answers (begin_ t s) i = true) :
    accessAt i t f s = f (begin_ t s) := by
  simp only [accessAt, h, if_true]
theorem accessAt_silent {i : Iface} {t : Nat} {s : State} (f : State → State) (h : answers (begin_ t s) i = false) :
    accessAt i t f s = begin_ t s := by
  simp only [accessAt, h, Bool.false_eq_true, if_false]

@[simp] theorem updBank_slots (i : Iface) (f : IfBank → IfBank) (s : State) : (updBank i f s).host.slots = s.host.slots := by cases i <;> rfl
@[simp] theorem updBank_queue (i : Iface) (f : IfBank → IfBank) (s : State) : (updBank i f s).host.queue = s.host.queue := by cases i <;> rfl
@[simp] theorem updBank_cause (i : Iface) (f : IfBank → IfBank) (s : State) : (updBank i f s).host.cause = s.host.cause := by cases i <;> rfl
/-- What bookkeeping leaves alone, it leaves alone beside a change of a bank. -/
theorem base_updBank {s t : State} (h : base t = base s) (i : Iface) (f : IfBank → IfBank) : base (updBank i f t) = base (updBank i f s) := by
  have e : ∀ x : State, base (updBank i f x) = updBank i f (base x) := fun x => by cases i <;> rfl
  rw [e, e, h]
theorem base_msixIf (s : State) : base (if irqCond s.host then msixSend s else s) = base s := by
  rw [base_ite, base_msixSend, ite_self]

/-! ### RESULT_STATUS_READ -/

/-- A completed result counts its read up to 255 (R500). -/
def readCounted (r : Slot) : Slot := if r.pending then r else { r with readCount := min 255 (r.readCount + 1) }

theorem latchResult_of_slot {i : Iface} {x : State} {r : Slot} (hg : x.host.slots[(bankOf x i).select.toNat]? = some r) (hr : r ≠ {}) :
    latchResult i x = emit (.readData i (BitVec.ofNat 32 (resultWord (readCounted r))))
      (updBank i (fun b => { b with result := readCounted r }) (updSlot (bankOf x i).select.toNat (fun _ => readCounted r) x)) := by
  have e : (r.pending || r == ({} : Slot)) = r.pending := by rw [beq_eq_false_iff_ne.mpr hr, Bool.or_false]
  unfold latchResult
  dsimp only
  rw [nth_of_get hg, e]
  rfl

/-! ### CMD_SUBMIT -/

theorem ifaceOf_regSrc (i : Iface) : ifaceOf (regSrc i) = some i := by cases i <;> rfl

/-- The bank of a register path after the queue has answered a GO that software has not set again (R501). -/
theorem endGo_bank {i : Iface} {x : State} (v : BitVec 8) (h : (bankOf x i).goAgain = none) :
    bankOf (endGo i v x) i = { bankOf x i with go := false, goAgain := none, submitStatus := v } := by
  unfold endGo
  rw [bankOf_updBank, h]
  simp only [Option.none_beq_some, Bool.and_false]

theorem refuseSlot_regSrc {q : Req} {i : Iface} (op : Nat) (x : State) (h : q.src = regSrc i) :
    refuseSlot op q x = endGo i 0x20 (raise 0 11 x) := by
  unfold refuseSlot; dsimp only; rw [h]; cases i <;> rfl
theorem submit_regSrc {q : Req} {i : Iface} (op : Nat) {x : State} (h : q.src = regSrc i) (hf : slotFree q x = true) :
    submit op q x = endGo i 0 (acceptCmd op q x) := by
  unfold submit
  rw [hf, h, ifaceOf_regSrc]
  rfl

/-- The state that a write of 1 to GO leaves before the packet goes on to the queue (R501). -/
def goStands (i : Iface) (x : State) : State := updBank i (fun b => { b with go := true, goAgain := none }) x

theorem goStands_bank (i : Iface) (x : State) : bankOf (goStands i x) i = { bankOf x i with go := true, goAgain := none } := bankOf_updBank _ _ _
theorem slotFree_goStands (q : Req) (i : Iface) (x : State) : slotFree q (goStands i x) = slotFree q x := by
  simp only [slotFree, goStands, updBank_slots]
theorem accepting_goStands (i : Iface) (x : State) : accepting (goStands i x) = accepting x := by
  simp only [accepting, running, goStands, updBank_boot, updBank_root]

theorem acceptCmd_bank (op : Nat) (q : Req) (y : State) (i : Iface) : bankOf (acceptCmd op q y) i = bankOf y i := by
  unfold acceptCmd
  dsimp only
  split <;> cases i <;> rfl
theorem raise_bank (c b : Nat) (y : State) (i : Iface) : bankOf (raise c b y) i = bankOf y i := by
  have h := raise_hostBase c b y
  cases i
  · exact congrArg (·.pcie) h
  · exact congrArg (·.spi) h
theorem raise_queue (c b : Nat) (y : State) : (raise c b y).host.queue = y.host.queue := congrArg (·.queue) (raise_hostBase c b y)

/-- Whether the queue takes the packet of a register path or not, its GO falls (R501). -/
theorem submit_bank {q : Req} {i : Iface} (op : Nat) {y : State} (h : q.src = regSrc i) (hn : (bankOf y i).goAgain = none) :
    bankOf (submit op q y) i =
      { bankOf y i with go := false, goAgain := none, submitStatus := if slotFree q y = true then 0 else 0x20 } := by
  cases hf : slotFree q y
  · have e : submit op q y = endGo i 0x20 (raise 0 11 y) := by
      rw [← refuseSlot_regSrc op y h]
      simp only [submit, hf, Bool.not_false, if_true]
    rw [e, endGo_bank _ (by rw [raise_bank, hn]), raise_bank]
    rfl
  · rw [submit_regSrc op h hf, endGo_bank _ (by rw [acceptCmd_bank, hn]), acceptCmd_bank]
    rfl

theorem submit_accepts {q : Req} {i : Iface} (op : Nat) {x : State} (hf : slotFree q x = true) :
    (submit op q (goStands i x)).host.queue = x.host.queue ++ [{ opcode := op, req := q, arrived := curTs x, arrivedPs := x.now }] := by
  rw [submit_queue op q _ ((slotFree_goStands q i x).trans hf)]
  simp only [goStands, updBank_queue, curTs, updBank_time, updBank_now]
/-- A packet whose slot is pending stays out of the queue, and SLOT_BUSY is raised (R498). -/
theorem submit_refuses {q : Req} {i : Iface} (op : Nat) {x : State} (h : q.src = regSrc i) (hf : slotFree q x = false) :
    (submit op q (goStands i x)).host.queue = x.host.queue ∧ causeStands 0 11 (submit op q (goStands i x)) := by
  have e : submit op q (goStands i x) = endGo i 0x20 (raise 0 11 (goStands i x)) := by
    rw [← refuseSlot_regSrc op _ h]
    simp only [submit, slotFree_goStands, hf, Bool.not_false, if_true]
  rw [e]
  refine ⟨?_, ?_⟩
  · simp only [endGo, updBank_queue, raise_queue, goStands]
  · exact stands_of_cause (updBank_cause i _ _) (stands_raise_self 0 11 _ (by decide))

/-- CMD_SUBMIT of a chip that accepts commands hands the packet of CMD_BUF to the queue (R501). -/
theorem cmdSubmit_submits {i : Iface} {t : Nat} {s : State} (ha : answers (begin_ t s) i = true) (hc : accepting (begin_ t s) = true)
    (h5 : (begin_ t s).boot.stage ≠ 5) (hg : (bankOf (begin_ t s) i).go = false)
    (hl : slotFree (packetOf (regSrc i) (bankOf (begin_ t s) i).cmdBuf (begin_ t s).now).2 (begin_ t s) = true → (begin_ t s).host.queue.length < 256) :
    execCmdSubmit i t s = .next (submit (packetOf (regSrc i) (bankOf (begin_ t s) i).cmdBuf (begin_ t s).now).1
      (packetOf (regSrc i) (bankOf (begin_ t s) i).cmdBuf (begin_ t s).now).2 (goStands i (begin_ t s))) := by
  unfold execCmdSubmit
  rw [accessAt_answers _ ha]
  revert hc h5 hg hl
  generalize begin_ t s = x
  intro hc h5 hg hl
  have hb := goStands_bank i x
  have hq : ¬ (slotFree (packetOf (regSrc i) (bankOf x i).cmdBuf x.now).2 x && decide (x.host.queue.length ≥ 256)) = true := by
    simpa using hl
  have hgo := submit_bank (packetOf (regSrc i) (bankOf x i).cmdBuf x.now).1 (q := (packetOf (regSrc i) (bankOf x i).cmdBuf x.now).2)
    (y := goStands i x) rfl (by rw [hb])
  have e : trySubmit i (goStands i x) = submit (packetOf (regSrc i) (bankOf x i).cmdBuf x.now).1
      (packetOf (regSrc i) (bankOf x i).cmdBuf x.now).2 (goStands i x) := by
    have hnow : (goStands i x).now = x.now := updBank_now _ _ _
    have hque : (goStands i x).host.queue = x.host.queue := updBank_queue _ _ _
    unfold trySubmit
    simp only [hb, accepting_goStands, hc, hnow, hque, slotFree_goStands, if_neg hq, hgo, Bool.not_true, Bool.or_self, Bool.false_eq_true, if_false]
  rw [if_neg h5, ← e]
  have hw : writeWord i 0x3004 1 x = goWrite i x := by
    simp only [writeWord, hg]
    rfl
  rw [hw, goWrite, if_neg h5]
  rfl

/-! ### HOST_LOAD_BLOCK -/

/-- A load block that ends no load is added to its image where it is in order, and turned away where it is not (R561). -/
theorem loadBlock_of_image {i : Iface} {x : State} (h : fld (bankOf x i).cmdBuf 0 1 ≠ 255) :
    loadBlock i x = if blockOk x.boot.loads (bankOf x i).cmdBuf = true then
        updBank i (fun y => { y with submitStatus := 0#8 }) { x with boot := { x.boot with loads := addBlock (bankOf x i).cmdBuf x.boot.loads } }
      else updBank i (fun y => { y with submitStatus := 0x11#8 }) x := by
  unfold loadBlock
  dsimp only
  rw [if_neg h]
  rfl

/-! ### Writes of interrupt words -/

/-- A write from 0x2000 to 0x2FFF is one of an interrupt register; the message goes where the condition stays true (R515). -/
theorem writeWord_irq (i : Iface) {off : Nat} (v : Word) (x : State) (h1 : 0x2000 ≤ off) (h2 : off < 0x3000) :
    writeWord i off v x = if irqCond (irqWrite off v x).host then msixSend (irqWrite off v x) else irqWrite off v x := by
  unfold writeWord
  rw [if_neg (by omega), if_neg (by omega), if_neg (by omega), if_neg (by omega), if_neg (by omega), if_pos ⟨h1, h2⟩]
theorem irqWrite_cause {n : Nat} (v : Word) (x : State) (h : n < 16) :
    irqWrite (0x2010 + 8 * n) v x = { x with host := { x.host with cause := upd x.host.cause n (w1c (freshBits x n) v) } } := by
  have e : (0x2010 + 8 * n - 0x2010) / 8 = n := by omega
  unfold irqWrite
  dsimp only
  rw [if_neg (by omega), if_pos (by omega), if_pos (by omega), e]
theorem irqWrite_second {n : Nat} (v : Word) (x : State) (h : n < 8) :
    irqWrite (0x2100 + 4 * n) v x = { x with host := { x.host with second := upd x.host.second n (w1c (freshBits x (16 + n)) v) } } := by
  have e : (0x2100 + 4 * n - 0x2100) / 4 = n := by omega
  unfold irqWrite
  dsimp only
  rw [if_neg (by omega), if_neg (by omega), if_pos (by omega), e]
theorem irqWrite_secondEn {n : Nat} (v : Word) (x : State) (h : n < 8) :
    irqWrite (0x2140 + 4 * n) v x = { x with host := { x.host with secondEn := upd x.host.secondEn n (fun _ => v) } } := by
  have e : (0x2140 + 4 * n - 0x2140) / 4 = n := by omega
  unfold irqWrite
  dsimp only
  rw [if_neg (by omega), if_neg (by omega), if_neg (by omega), if_pos (by omega), e]

theorem second_msixSend (x : State) : (msixSend x).host.second = x.host.second := by
  unfold msixSend
  split
  · split <;> rfl
  · rfl
theorem cause_msixIf (x : State) : (if irqCond x.host then msixSend x else x).host.cause = x.host.cause := by
  split
  · exact length_msixSend x
  · rfl
theorem second_msixIf (x : State) : (if irqCond x.host then msixSend x else x).host.second = x.host.second := by
  split
  · exact second_msixSend x
  · rfl

/-- Hardware has set bit `b` of an interrupt word on this very tick (R7). -/
theorem getLsbD_freshBits (x : State) (word b : Nat) (h : b < 32) :
    (freshBits x word).getLsbD b = (decide (x.host.setTick = x.now / 1600) && x.host.setBits.contains (32 * word + b)) := by
  unfold freshBits
  by_cases ht : x.host.setTick = x.now / tickPs
  · have ht' : x.host.setTick = x.now / 1600 := ht
    rw [if_pos ht, BitVec.getLsbD_ofNat, testBit_packBits, decide_eq_true ht']
    simp [h]
  · have ht' : ¬ x.host.setTick = x.now / 1600 := ht
    simp [if_neg ht, ht']
/-- A W1C write clears the written bits but the fresh ones (R6, R7). -/
theorem getLsbD_w1c (fresh v old : Word) (b : Nat) (h : b < 32) :
    (w1c fresh v old).getLsbD b = (old.getLsbD b && !(v.getLsbD b && !fresh.getLsbD b)) := by
  simp [w1c, h]

/-- IRQ_CAUSE_CLEAR of a word of the first level (R6, R7, R516). -/
theorem writeWord_clears_cause {i : Iface} {n : Nat} {x : State} {old : Word} (v : Word) (hn : n < 16) (ho : x.host.cause[n]? = some old) :
    let t := writeWord i (0x2010 + 8 * n) v x
    t.host.cause = x.host.cause.set n (w1c (freshBits x n) v old) ∧ t.host.second = x.host.second ∧ base t = base x := by
  intro t
  have e : t = _ := (writeWord_irq i v x (by omega) (by omega)).trans (by rw [irqWrite_cause v x hn])
  rw [e, cause_msixIf, second_msixIf, base_msixIf, upd_of_get ho]
  exact ⟨rfl, rfl, base_host rfl⟩
/-- IRQ_CAUSE_CLEAR of a word of the second level (R6, R7, R518). -/
theorem writeWord_clears_second {i : Iface} {n : Nat} {x : State} {old : Word} (v : Word) (hn : n < 8) (ho : x.host.second[n]? = some old) :
    let t := writeWord i (0x2100 + 4 * n) v x
    t.host.second = x.host.second.set n (w1c (freshBits x (16 + n)) v old) ∧ t.host.cause = x.host.cause ∧ base t = base x := by
  intro t
  have e : t = _ := (writeWord_irq i v x (by omega) (by omega)).trans (by rw [irqWrite_second v x hn])
  rw [e, cause_msixIf, second_msixIf, base_msixIf, upd_of_get ho]
  exact ⟨rfl, rfl, base_host rfl⟩
/-- IRQ_CAUSE_CLEAR of a W1C register is the write of its word (R516 to R518). -/
theorem irqCauseClear_writes {i : Iface} {t off : Nat} {v : Word} {s : State} (ha : answers (begin_ t s) i = true) (ho : isCauseReg off = true) :
    exec (.irqCauseClear i t off v) s = .next (writeWord i off v (begin_ t s)) :=
  congrArg Outcome.next ((accessAt_answers _ ha).trans (if_pos ho))
theorem isCauseReg_cause {n : Nat} (h : n < 16) : isCauseReg (0x2010 + 8 * n) = true := by
  simp [isCauseReg]
  omega
theorem isCauseReg_second {n : Nat} (h : n < 8) : isCauseReg (0x2100 + 4 * n) = true := by
  simp [isCauseReg]
  omega

/-! ### REGISTER_WRITE and MSIX_UNMASK -/

/-- A write of one aligned word is that word's, by either interface (R487, R488). -/
theorem writeAccess_word (i : Iface) {off : Nat} (v : Nat) (x : State) (h1 : off % 4 = 0) (h2 : off < 65536) :
    writeAccess i off 4 v x = writeWord i off (BitVec.ofNat 32 v) x := by
  have e : off % 65536 = off := by omega
  have e4 : off / 4 * 4 = off := by omega
  cases i
  · simp [writeAccess, writeWords, h1, e, h2]
  · simp [writeAccess, writeWords, e, e4, h2]

/-- SCRATCH and RESULT_SELECT take the written word (R490, R500). -/
theorem writeWord_scratch (i : Iface) (v : Word) (x : State) : writeWord i 0x0018 v x = updBank i (fun b => { b with scratch := v }) x := rfl
theorem writeWord_select (i : Iface) (v : Word) (x : State) : writeWord i 0x3000 v x = updBank i (fun b => { b with select := v.setWidth 8 }) x := rfl

/-- REGISTER_WRITE of one aligned word (R487, R488). -/
theorem registerWrite_word {i : Iface} {t off : Nat} (v : Nat) {s : State} (ha : answers (begin_ t s) i = true) (h1 : off % 4 = 0) (h2 : off < 65536) :
    exec (.registerWrite i t off 4 v) s = .next (writeWord i off (BitVec.ofNat 32 v) (begin_ t s)) :=
  congrArg Outcome.next ((accessAt_answers _ ha).trans (writeAccess_word i v _ h1 h2))
/-- A PCIe access of another size raises ACCESS_ERROR (R487). -/
theorem registerWrite_badSize {t off size v : Nat} {s : State} (ha : answers (begin_ t s) .pcie = true) (h4 : ¬ (size = 4 ∧ off % 4 = 0))
    (h8 : ¬ (size = 8 ∧ off % 8 = 0)) : exec (.registerWrite .pcie t off size v) s = .next (raise 0 9 (begin_ t s)) :=
  congrArg Outcome.next ((accessAt_answers _ ha).trans (if_neg (not_or.mpr ⟨h4, h8⟩)))
theorem writeWord_secondEn_base (i : Iface) {n : Nat} {x : State} {old : Word} (v : Word) (hn : n < 8) (ho : x.host.secondEn[n]? = some old) :
    base (writeWord i (0x2140 + 4 * n) v x) = base { x with host := { x.host with secondEn := x.host.secondEn.set n v } } := by
  rw [writeWord_irq i v x (by omega) (by omega), base_msixIf, irqWrite_secondEn v x hn, upd_of_get ho]

theorem raise_accessError (x : State) : raise 0 9 x = setCause 0 9 0 x := rfl

theorem msixMask_base (vec func : Bool) (x : State) :
    base (msixMask vec func x) = base { x with host := { x.host with vecMask := vec, funcMask := func } } := by
  unfold msixMask
  dsimp only
  split
  · rfl
  · rw [base_ite, base_msixSend, ite_self]
    rfl

/-- The state that takes a pending message while nothing masks it (R515). -/
def unmasked (x : State) : State := { x with host := { x.host with vecMask := false, funcMask := false, msixPend := false } }

theorem msixMask_pending {x : State} (h : x.host.msixPend = true) :
    msixMask false false x = if irqCond x.host then msixSend (unmasked x) else unmasked x := by
  simp only [msixMask, h, Bool.or_self, Bool.not_true, Bool.false_eq_true, if_false]
  rfl
/-- A message that nothing masks goes at once (R515). -/
theorem msixSend_unmasked (x : State) :
    msixSend (unmasked x) = if x.host.msixEn then bump 39 (emit .msix (unmasked x)) else unmasked x := rfl
theorem msixMask_sends {x : State} (hp : x.host.msixPend = true) (ho : x.out = []) :
    (msixMask false false x).host.msixPend = false ∧
    (irqCond x.host = true → x.host.msixEn = true → (msixMask false false x).out = [.msix]) := by
  rw [msixMask_pending hp, msixSend_unmasked]
  refine ⟨?_, fun hi he => ?_⟩
  · split
    · split <;> rfl
    · rfl
  · rw [if_pos hi, if_pos he]
    change x.out ++ [_] = _
    rw [ho]
    rfl

/-- Settles O48, row by row: each row is the access it makes of a state whose interface answers. -/
theorem registerWindow : Obligations.RegisterWindow := by
  unfold Obligations.RegisterWindow
  refine ⟨?_, ?_, ?_, ?_, ?_, ?_, ?_, ?_⟩
  · intro bus t s r x k ha hr hne
    have e : accessAt bus t (latchResult bus) s = _ := (accessAt_answers _ ha).trans (latchResult_of_slot hr hne)
    refine ⟨_, BitVec.ofNat 32 (resultWord (readCounted r)), readCounted r, congrArg Outcome.next e, ?_, rfl, BitVec.toNat_ofNat _ 32, ?_, ?_, ?_⟩
    · change (updBank bus _ (updSlot _ _ x)).out ++ [_] = [_]
      rw [updBank_out, updSlot_out, begin_out]
      rfl
    · rw [bankOf_emit, bankOf_updBank]
    · exact (updBank_slots bus _ _).trans (upd_of_get hr)
    · exact (base_emit _ _).trans (base_updBank (base_updSlot _ _ _) bus _)
  · intro bus t s x p ha hc h5 hg
    have hk : kept (submit p.1 p.2 (goStands bus x)) = kept x := (kept_submit _ _ _).trans (kept_updBank _ _ _)
    have hb := submit_bank p.1 (q := p.2) (y := goStands bus x) rfl (by rw [goStands_bank])
    rw [slotFree_goStands] at hb
    refine ⟨fun hf hl => ?_, fun hf => ?_⟩
    · rw [if_pos hf] at hb
      exact ⟨_, cmdSubmit_submits ha hc h5 hg (fun _ => hl), submit_accepts p.1 hf, by rw [hb], by rw [hb]; rfl, hk⟩
    · obtain ⟨hq, hs⟩ := submit_refuses (i := bus) p.1 (q := p.2) rfl hf
      rw [hf, if_neg Bool.false_ne_true] at hb
      exact ⟨_, cmdSubmit_submits ha hc h5 hg (fun h => absurd (hf.symm.trans h) Bool.false_ne_true), hq, by rw [hb], by rw [hb]; rfl, hs, hk⟩
  · intro bus t s x b ha h5 hid
    have e : exec (.hostLoadBlock bus t) s = .next (loadBlock bus x) :=
      congrArg Outcome.next ((accessAt_answers _ ha).trans (if_pos h5))
    rw [e, loadBlock_of_image hid]
    exact ⟨fun h => by rw [if_pos h], fun h => by rw [if_neg (by rw [h]; exact Bool.false_ne_true)]⟩
  · intro bus t n v old s x ha
    refine ⟨fun hn ho => ?_, fun hn ho => ?_⟩
    · obtain ⟨hc, hs, hb⟩ := writeWord_clears_cause (i := bus) v hn ho
      exact ⟨_, _, irqCauseClear_writes ha (isCauseReg_cause hn), hc, hs, hb,
        fun b h => by rw [getLsbD_w1c _ _ _ _ h, getLsbD_freshBits _ _ _ h]⟩
    · obtain ⟨hs, hc, hb⟩ := writeWord_clears_second (i := bus) v hn ho
      exact ⟨_, _, irqCauseClear_writes ha (isCauseReg_second hn), hs, hc, hb,
        fun b h => by rw [getLsbD_w1c _ _ _ _ h, getLsbD_freshBits _ _ _ h]⟩
  · intro bus t v s x ha hv
    refine ⟨?_, ?_, fun k old hk ho => ⟨_, registerWrite_word v ha (by omega) (by omega), writeWord_secondEn_base bus _ hk ho⟩⟩
    · rw [registerWrite_word v ha (by decide) (by decide), writeWord_scratch]
    · have e : (BitVec.ofNat 32 v).setWidth 8 = BitVec.ofNat 8 v := BitVec.setWidth_ofNat_of_le (by decide) v
      rw [registerWrite_word v ha (by decide) (by decide), writeWord_select, e]
  · intro t off size v s x ha h4 h8
    exact ⟨_, registerWrite_badSize ha h4 h8, stands_raise_self 0 9 x (by decide), by rw [raise_accessError, base_setCause]⟩
  · intro t vec func s x ha
    refine ⟨_, congrArg Outcome.next (accessAt_answers _ ha), msixMask_base vec func x, ?_⟩
    rintro rfl rfl hp
    exact msixMask_sends hp (begin_out t s)
  · intro bus t off size v s h
    exact congrArg Outcome.next (accessAt_silent _ h)

end Sys2Proof.Machine
end
section
/-! PROOFS. The boot invariant, and the rows that write no configuration. -/
namespace Sys2Proof.Machine
open Sys2Proof Host

/-- A row that may not configure leaves alone all that `kept` holds. -/
theorem kept_of_event {c : Instr} {s t : State} (hm : mayConfigure c = false) (hx : exec c s = .next t) : kept t = kept s := by
  cases c
  case blockResetDone t block index => exact same_execBlockResetDone t block index s hx
  case outputStart n => exact same_execOutputStart n s hx
  case alignPulse n t => exact same_execAlignPulse n t s hx
  case alignTimeout n => exact same_execAlignTimeout n s hx
  case alignDone n => exact same_execAlignDone n s hx
  case tdcArmStart c => exact same_execTdcArmStart c s hx
  case scheduledRotation inst => exact same_execScheduledRotation inst s hx
  case timeLatchLoRead bus t => exact same_execTimeLatchLoRead bus t s hx
  case cmdRingFetch c t entry => exact same_execCmdRingFetch c t entry s hx
  case queueTimeout k => exact same_execQueueTimeout k s hx
  case rxRingDeliver r t => exact same_execRxRingDeliver r t s hx
  case txFetch r t descs data => exact same_execTxFetch r t descs data s hx
  case eventEntryWrite r t => exact same_execEventEntryWrite r t s hx
  case dmaCompletionError r t => exact same_execDmaCompletionError r t s hx
  case ringIrqHoldoff r => exact same_execRingIrqHoldoff r s hx
  case pcieReset t perst => exact same_execPcieReset t perst s hx
  case handBoundary temp rootPhase => exact same_execHandBoundary temp rootPhase s hx
  case refSample src t d => exact same_execRefSample src t d s hx
  case zdaSentence t framingOk sentence => exact same_execZdaSentence t framingOk sentence s hx
  case activityMiss src => exact same_execActivityMiss src s hx
  case freqUpdate src => exact same_execFreqUpdate src s hx
  case qualTimeExpiry src => exact same_execQualTimeExpiry src s hx
  case wtrExpiry src => exact same_execWtrExpiry src s hx
  case splitTimer domain a b byPhase => exact same_execSplitTimer domain a b byPhase s hx
  case dpllLock domain => exact same_execDpllLock domain s hx
  case freqStepEstimate domain => exact same_execFreqStepEstimate domain s hx
  case steerSent t => exact same_execSteerSent t s hx
  case steerAck t received => exact same_execSteerAck t received s hx
  case meldUpdateDone t => exact same_execMeldUpdateDone t s hx
  case outlierClearExpiry slot => exact same_execOutlierClearExpiry slot s hx
  case gnssEpoch meas fix => exact same_execGnssEpoch meas fix s hx
  case gnssSample t => exact same_execGnssSample t s hx
  case gnssClockFit t offset => exact same_execGnssClockFit t offset s hx
  case clkFault t => exact same_execClkFault t s hx
  case acquisitionDwell t prn found => exact same_execAcquisitionDwell t prn found s hx
  case channelLockLost t prn => exact same_execChannelLockLost t prn s hx
  case reacquireTimeout prn => exact same_execReacquireTimeout prn s hx
  case navNew t kind prn words => exact same_execNavNew t kind prn words s hx
  case lossOfLock t detail => exact same_execLossOfLock t detail s hx
  case excursion t => exact same_execExcursion t s hx
  case excursionEnd t => exact same_execExcursionEnd t s hx
  case outputRisingEdge n => exact same_execOutputRisingEdge n s hx
  case irigFrame n => exact same_execIrigFrame n s hx
  case placerCalLost n t => exact same_execPlacerCalLost n t s hx
  case tdcEdge inp t width => exact same_execTdcEdge inp t width s hx
  case tdcOrphan c => exact same_execTdcOrphan c s hx
  case tdcGateEnd c => exact same_execTdcGateEnd c s hx
  case tdcCalLost inp t => exact same_execTdcCalLost inp t s hx
  case tdcCalDone t => exact same_execTdcCalDone t s hx
  case frameRx port t fcsOk bytes => exact same_execFrameRx port t fcsOk bytes s hx
  case admissionDecision t => exact same_execAdmissionDecision t s hx
  case trickJob h => exact same_execTrickJob h s hx
  case cryptoLaneDone h => exact same_execCryptoLaneDone h s hx
  case timedLaunch port => exact same_execTimedLaunch port s hx
  case frameTx port t => exact same_execFrameTx port t s hx
  case pauseEffect port => exact same_execPauseEffect port s hx
  case pauseExpiry port prio => exact same_execPauseExpiry port prio s hx
  case pfcXoff port prio t => exact same_execPfcXoff port prio t s hx
  case pfcXoffRefresh port prio => exact same_execPfcXoffRefresh port prio s hx
  case pfcXon port prio t => exact same_execPfcXon port prio t s hx
  case blockLock port t rxFreq an => exact same_execBlockLock port t rxFreq an s hx
  case alignmentDone port t ok dTx dRx => exact same_execAlignmentDone port t ok dTx dRx s hx
  case linkLoss port t => exact same_execLinkLoss port t s hx
  case calibrationEnd port t passed temp dTx dRx => exact same_execCalibrationEnd port t passed temp dTx dRx s hx
  case calLost port t temp fault => exact same_execCalLost port t temp fault s hx
  case synceSample port t => exact same_execSynceSample port t s hx
  case esmcTimeout port => exact same_execEsmcTimeout port s hx
  case esmcTx port => exact same_execEsmcTx port s hx
  case esmcEventTx port t => exact same_execEsmcEventTx port t s hx
  case windowEnd port w => exact same_execWindowEnd port w s hx
  case engineFault e t => exact same_execEngineFault e t s hx
  case scheduledPresent inst port mtype grant => exact same_execScheduledPresent inst port mtype grant s hx
  case batchSigned t => exact same_execBatchSigned t s hx
  case announceTimeout inst port => exact same_execAnnounceTimeout inst port s hx
  case followupTimeout inst port => exact same_execFollowupTimeout inst port s hx
  case syncTimeout inst => exact same_execSyncTimeout inst s hx
  case pathDelayTimeout inst port => exact same_execPathDelayTimeout inst port s hx
  case grantExpiry k => exact same_execGrantExpiry k s hx
  case st2059Metadata inst => exact same_execSt2059Metadata inst s hx
  case upstreamRenew inst port up mtype => exact same_execUpstreamRenew inst port up mtype s hx
  case upstreamRetry inst port up mtype => exact same_execUpstreamRetry inst port up mtype s hx
  case claimFrameTx t readback => exact same_execClaimFrameTx t readback s hx
  case claimFrameRx t claim => exact same_execClaimFrameRx t claim s hx
  case claimQuiet t => exact same_execClaimQuiet t s hx
  case selfFault t cause detail => exact same_execSelfFault t cause detail s hx
  case heartbeatRx lane t fcsOk payload => exact same_execHeartbeatRx lane t fcsOk payload s hx
  case snapshotTx t => exact same_execSnapshotTx t s hx
  case snapshotApply t snap => exact same_execSnapshotApply t snap s hx
  case copyVerified t snap neighbours => exact same_execCopyVerified t snap neighbours s hx
  case lockstepCompare t digest => exact same_execLockstepCompare t digest s hx
  case mirrorReplyRx t opcode tag status => exact same_execMirrorReplyRx t opcode tag status s hx
  case switchRequestRx t force => exact same_execSwitchRequestRx t force s hx
  case compareCheck k t x => exact same_execCompareCheck k t x s hx
  case selftestRun item t passed detail => exact same_execSelftestRun item t passed detail s hx
  case persistDone t ok => exact same_execPersistDone t ok s hx
  case kittyLoad t => exact same_execKittyLoad t s hx
  case audioFrameBoundary port => exact same_execAudioFrameBoundary port s hx
  case audioTxRead port => exact same_execAudioTxRead port s hx
  case audioBufferHead port t desc data => exact same_execAudioBufferHead port t desc data s hx
  case audioRxFrame port t record => exact same_execAudioRxFrame port t record s hx
  case aes3Sample port t => exact same_execAes3Sample port t s hx
  case pageWritten t => exact same_execPageWritten t s hx
  case pageWriteTimeout t readback => exact same_execPageWriteTimeout t readback s hx
  case dailyCommit t => exact same_execDailyCommit t s hx
  case powerGoodRise t => exact same_execPowerGoodRise t s hx
  case watchdogExpiry t => exact same_execWatchdogExpiry t s hx
  case thermalRelease t temp => exact same_execThermalRelease t temp s hx
  case thermalWarn t temp => exact same_execThermalWarn t temp s hx
  case claimOpen t => exact same_execClaimOpen t s hx
  case linkTrainingStart t => exact same_execLinkTrainingStart t s hx
  case noStampedEdge src => exact same_execNoStampedEdge src s hx
  case darsLockLost port t => exact same_execDarsLockLost port t s hx
  case gspiWritesDone t => exact same_execGspiWritesDone t s hx
  case classChange t => exact same_execClassChange t s hx
  case boundAlert t => exact same_execBoundAlert t s hx
  case advanceDone t firstOk spareOk => exact same_execAdvanceDone t firstOk spareOk s hx
  case quoteSigned t => exact same_execQuoteSigned t s hx
  case thermalWarnClear t temp => exact same_execThermalWarnClear t temp s hx
  case pcieLinkUp t width gen => exact same_execPcieLinkUp t width gen s hx
  case scheduledStepApply => exact same_execScheduledStepApply s hx
  case slewDone => exact same_execSlewDone s hx
  case leapApplied => exact same_execLeapApplied s hx
  case pairSwitchTimeout => exact same_execPairSwitchTimeout s hx
  case modelLearned => exact same_execModelLearned s hx
  case steerPeriod => exact same_execSteerPeriod s hx
  case steerNoack => exact same_execSteerNoack s hx
  case meldUpdate => exact same_execMeldUpdate s hx
  case horizon => exact same_execHorizon s hx
  case surveySecond => exact same_execSurveySecond s hx
  case todSentence => exact same_execTodSentence s hx
  case shedEnd => exact same_execShedEnd s hx
  case batchClose => exact same_execBatchClose s hx
  case claimAbsent => exact same_execClaimAbsent s hx
  case claimInForce => exact same_execClaimInForce s hx
  case enableRise => exact same_execEnableRise s hx
  case enableFall => exact same_execEnableFall s hx
  case heartbeatTx => exact same_execHeartbeatTx s hx
  case heartbeatLost => exact same_execHeartbeatLost s hx
  case snapLate => exact same_execSnapLate s hx
  case persistWrite => exact same_execPersistWrite s hx
  case creditAccrue => exact same_execCreditAccrue s hx
  case retentionRewrite => exact same_execRetentionRewrite s hx
  case hourlyCommit => exact same_execHourlyCommit s hx
  -- the rows that may configure
  all_goals exact absurd hm Bool.noConfusion

/-- A row that may configure leaves the queue alone, and keeps the boot invariant. -/
theorem bootKept_of_configuring {c : Instr} {s t : State} (hm : mayConfigure c = true) (hx : exec c s = .next t) : bootKept s t := by
  cases c
  case sysIdentify q => exact row_execSysIdentify q s hx
  case sysStatus q => exact row_execSysStatus q s hx
  case sysResetBlock q => exact row_execSysResetBlock q s hx
  case sysConfigCommit q => exact row_execSysConfigCommit q s hx
  case sysConfigDigest q => exact row_execSysConfigDigest q s hx
  case sysEcho q => exact row_execSysEcho q s hx
  case rootStatus q => exact row_execRootStatus q s hx
  case outConfigure q => exact row_execOutConfigure q s hx
  case outEnable q => exact row_execOutEnable q s hx
  case outAlign q => exact row_execOutAlign q s hx
  case outStatus q => exact row_execOutStatus q s hx
  case todoutConfigure q => exact row_execTodoutConfigure q s hx
  case refConfigure q => exact row_execRefConfigure q s hx
  case refStatus q => exact row_execRefStatus q s hx
  case refQualifyPolicy q => exact row_execRefQualifyPolicy q s hx
  case selConfigure q => exact row_execSelConfigure q s hx
  case selSelect q => exact row_execSelSelect q s hx
  case selStatus q => exact row_execSelStatus q s hx
  case selForceRestore q => exact row_execSelForceRestore q s hx
  case dpllConfigure q => exact row_execDpllConfigure q s hx
  case dpllStatus q => exact row_execDpllStatus q s hx
  case timeRead q => exact row_execTimeRead q s hx
  case timeSet q => exact row_execTimeSet q s hx
  case timeStep q => exact row_execTimeStep q s hx
  case timeSlew q => exact row_execTimeSlew q s hx
  case leapConfigure q => exact row_execLeapConfigure q s hx
  case holdModelSet q => exact row_execHoldModelSet q s hx
  case holdModelRead q => exact row_execHoldModelRead q s hx
  case jumpAccept q => exact row_execJumpAccept q s hx
  case meldConfigure q => exact row_execMeldConfigure q s hx
  case meldClockSet q => exact row_execMeldClockSet q s hx
  case meldStatus q => exact row_execMeldStatus q s hx
  case boundRead q => exact row_execBoundRead q s hx
  case boundPolicy q => exact row_execBoundPolicy q s hx
  case gnssConfigure q => exact row_execGnssConfigure q s hx
  case gnssAid q => exact row_execGnssAid q s hx
  case gnssStatus q => exact row_execGnssStatus q s hx
  case gnssSurvey q => exact row_execGnssSurvey q s hx
  case gnssNavData q => exact row_execGnssNavData q s hx
  case tdcConfigure q => exact row_execTdcConfigure q s hx
  case tdcArm q => exact row_execTdcArm q s hx
  case tdcRead q => exact row_execTdcRead q s hx
  case tdcStats q => exact row_execTdcStats q s hx
  case portConfigure q => exact row_execPortConfigure q s hx
  case portCalibrate q => exact row_execPortCalibrate q s hx
  case portFlowControl q => exact row_execPortFlowControl q s hx
  case portSynce q => exact row_execPortSynce q s hx
  case portStatus q => exact row_execPortStatus q s hx
  case svcConfigure q => exact row_execSvcConfigure q s hx
  case svcAdmission q => exact row_execSvcAdmission q s hx
  case svcStatus q => exact row_execSvcStatus q s hx
  case ringConfigure q => exact row_execRingConfigure q s hx
  case ringStatus q => exact row_execRingStatus q s hx
  case ptpInstanceCreate q => exact row_execPtpInstanceCreate q s hx
  case ptpInstanceConfigure q => exact row_execPtpInstanceConfigure q s hx
  case ptpInstanceDelete q => exact row_execPtpInstanceDelete q s hx
  case ptpPortBind q => exact row_execPtpPortBind q s hx
  case ptpStatus q => exact row_execPtpStatus q s hx
  case ptpGrantQuery q => exact row_execPtpGrantQuery q s hx
  case ptpGrantRevoke q => exact row_execPtpGrantRevoke q s hx
  case ptpSaLoad q => exact row_execPtpSaLoad q s hx
  case ntpConfigure q => exact row_execNtpConfigure q s hx
  case ntpRatePolicy q => exact row_execNtpRatePolicy q s hx
  case ntpStatus q => exact row_execNtpStatus q s hx
  case ntsKeyLoad q => exact row_execNtsKeyLoad q s hx
  case ntsKeyRotate q => exact row_execNtsKeyRotate q s hx
  case ntsCookieMint q => exact row_execNtsCookieMint q s hx
  case rcptConfigure q => exact row_execRcptConfigure q s hx
  case rcptStatus q => exact row_execRcptStatus q s hx
  case pairConfigure q => exact row_execPairConfigure q s hx
  case pairStatus q => exact row_execPairStatus q s hx
  case pairClaimSet q => exact row_execPairClaimSet q s hx
  case pairSwitch q => exact row_execPairSwitch q s hx
  case pairResync q => exact row_execPairResync q s hx
  case pairSelftestReport q => exact row_execPairSelftestReport q s hx
  case keyWrite q => exact row_execKeyWrite q s hx
  case keyErase q => exact row_execKeyErase q s hx
  case keyInfo q => exact row_execKeyInfo q s hx
  case lcStatus q => exact row_execLcStatus q s hx
  case lcAdvance q => exact row_execLcAdvance q s hx
  case attestQuote q => exact row_execAttestQuote q s hx
  case attestMeasurements q => exact row_execAttestMeasurements q s hx
  case audPortConfigure q => exact row_execAudPortConfigure q s hx
  case audGroupConfigure q => exact row_execAudGroupConfigure q s hx
  case audGroupStart q => exact row_execAudGroupStart q s hx
  case audGroupStop q => exact row_execAudGroupStop q s hx
  case audStatus q => exact row_execAudStatus q s hx
  case recConfigure q => exact row_execRecConfigure q s hx
  case recRead q => exact row_execRecRead q s hx
  case recCommitNow q => exact row_execRecCommitNow q s hx
  case perfRead q => exact row_execPerfRead q s hx
  case perfFilterSet q => exact row_execPerfFilterSet q s hx
  case perfWindowSet q => exact row_execPerfWindowSet q s hx
  case badOpcode opcode q => exact row_execBadOpcode opcode q s hx
  case resultStatusRead bus t => exact row_execResultStatusRead bus t s hx
  case cmdSubmit bus t => exact row_execCmdSubmit bus t s hx
  case hostLoadBlock bus t => exact row_execHostLoadBlock bus t s hx
  case irqCauseClear bus t off value => exact row_execIrqCauseClear bus t off value s hx
  case ringCtrlWrite bus t r value => exact row_execRingCtrlWrite bus t r value s hx
  case doorbellWrite bus t off value => exact row_execDoorbellWrite bus t off value s hx
  case registerWrite bus t off size value => exact row_execRegisterWrite bus t off size value s hx
  case msixUnmask t vec func => exact row_execMsixUnmask t vec func s hx
  case bpllLock t freqHz => exact row_execBpllLock t freqHz s hx
  case lockstepInputRx t inp => exact row_execLockstepInputRx t inp s hx
  case mirrorRx opcode q => exact row_execMirrorRx opcode q s hx
  case powerOn t => exact row_execPowerOn t s hx
  case powerGoodFall t rails => exact row_execPowerGoodFall t rails s hx
  case resetNAssert t width => exact row_execResetNAssert t width s hx
  case resetEnd t pairId bootSrc quad => exact row_execResetEnd t pairId bootSrc quad s hx
  case thermalShutdown t temp => exact row_execThermalShutdown t temp s hx
  case fuseRead t => exact row_execFuseRead t s hx
  case sramTest t ok => exact row_execSramTest t ok s hx
  case imageLoad t a b => exact row_execImageLoad t a b s hx
  case keyDerive t => exact row_execKeyDerive t s hx
  case dealerStart t density => exact row_execDealerStart t density s hx
  case configImageExec t => exact row_execConfigImageExec t s hx
  case ready t => exact row_execReady t s hx
  case powerRemoved t => exact row_execPowerRemoved t s hx
  case mirroredCommit => exact row_execMirroredCommit s hx
  case watchdogReset => exact row_execWatchdogReset s hx
  -- the rows that may not configure
  all_goals exact absurd hm Bool.noConfusion

/-- Every row leaves the queue alone, and keeps the boot invariant. -/
theorem exec_bootKept {c : Instr} {s t : State} (hx : exec c s = .next t) : bootKept s t := by
  cases hm : mayConfigure c with
  | false => exact bk_kept (kept_of_event hm hx)
  | true => exact bootKept_of_configuring hm hx

/-- Settles O57: the state after reset, evaluated. -/
theorem bootInvariantAtReset : Obligations.BootInvariantAtReset := by
  unfold Obligations.BootInvariantAtReset
  decide

/-- Settles O58: a step is a tick, which moves no stage, or a row, which keeps the invariant. -/
theorem everyStepKeepsTheBootInvariant : Obligations.EveryStepKeepsTheBootInvariant := by
  unfold Obligations.EveryStepKeepsTheBootInvariant
  intro s t hs hx
  unfold step at hx
  split at hx
  · rw [← Outcome.next.inj hx]
    exact (bk_kept (kept_idle s)).2 hs
  · exact (exec_bootKept hx).2 hs

/-- Settles O59, row by row. -/
theorem eventsWriteNoConfiguration : Obligations.EventsWriteNoConfiguration := by
  unfold Obligations.EventsWriteNoConfiguration
  exact fun _ _ _ hm hx => kept_of_event hm hx

end Sys2Proof.Machine
end
section
/-! PROOFS. The state right after reset, and device reset (R513, R517, R555, R559, R573). -/
namespace Sys2Proof.Machine
open Sys2Proof Host

/-- Every entry of a list of equal entries is that entry: the reset values of the banks. -/
theorem forall_mem_replicate {α : Type} {P : α → Prop} (n : Nat) {a : α} (h : P a) : ∀ b ∈ List.replicate n a, P b :=
  fun _ hb => List.eq_of_mem_replicate hb ▸ h

theorem deviceReset_now (cause : Nat) (s : State) : (deviceReset cause s).now = s.now := (now_of_plain (dropClaim_frame s)).trans rfl
theorem deviceReset_lc (cause : Nat) (s : State) : (deviceReset cause s).attest.lc = lcOfRows s.fuse.rows :=
  congrArg (fun f : FusePart => lcOfRows f.rows) (dropClaim_fuse s)

/-- The state after reset: nothing waits, nothing runs, no cause stands (R19, R513, R517, R555). -/
theorem reset_values : State.reset.pending = [] ∧ State.reset.boot.inReset = true ∧ State.reset.boot.stage = 0 ∧ running State.reset = false ∧
    State.reset.time.counter.total = 0 ∧ State.reset.time.valid = false ∧
    (∀ w, w ∈ State.reset.host.cause → w = 0#32) ∧ (∀ w, w ∈ State.reset.host.enable → w = 0#32) ∧ State.reset.host.cause.length = 16 ∧
    (∀ g, g ∈ State.reset.host.rings → g.enable = false) ∧ State.reset.host.rings.length = 256 ∧
    (∀ x, x ∈ State.reset.host.slots → x.pending = false) ∧ State.reset.host.slots.length = 256 ∧
    State.reset.shadow = State.reset.work ∧ State.reset.pair.live = false :=
  ⟨rfl, rfl, rfl, rfl, rfl, rfl, forall_mem_replicate 16 rfl, forall_mem_replicate 16 rfl, List.length_replicate,
    forall_mem_replicate 256 rfl, List.length_replicate, forall_mem_replicate 256 rfl, List.length_replicate, rfl, rfl⟩

/-- Settles O2: the reset values as they stand, and device reset part by part. -/
theorem deviceResetLeavesResetValues : Obligations.DeviceResetLeavesResetValues := by
  unfold Obligations.DeviceResetLeavesResetValues
  refine ⟨reset_values, fun cause s => ?_⟩
  have hb := deviceReset_boot cause s
  refine ⟨deviceReset_pending cause s, deviceReset_now cause s, rfl, rfl, rfl, rfl, rfl, rfl, rfl, rfl, rfl, rfl, deviceReset_fuse cause s,
    deviceReset_lc cause s, ?_⟩
  simp only [hb, and_self]

end Sys2Proof.Machine
end
section
/-! PROOFS. The tick (R33, R39, R46). -/
namespace Sys2Proof.Machine
open Sys2Proof Host

/-- A counter holds every number below the end of its 48 bits of seconds (R32). -/
theorem total_counterOf {n : Nat} (h : n < 2 ^ 48 * 1000000000 * 2 ^ 48) : (counterOf n).total = n := by
  simp only [counterOf, Counter.total]
  omega

/-- The state that one tick of a running chip leaves. -/
def ticked (s : State) : State := { s with
  now := (s.now / 1600 + 1) * 1600, out := []
  time := tickTime 1 { s.time with course := courseOn s.now s.time }
  score := { s.score with opPs := s.score.opPs + ((s.now / 1600 + 1) * 1600 - s.now) }
  incSum := ((s.incSum : Int) + (1 * s.time.rate : Nat) + withSign s.time.slewRem (slewPart s.time 1)).toNat }

theorem idle_later (s : State) : ¬ (s.now / tickPs + 1) * tickPs ≤ s.now := by
  simp only [tickPs]
  omega
theorem idle_running {s : State} (h : running s = true) : idle s = ticked s := by
  have hn : (s.now / tickPs + 1) * tickPs / tickPs - s.now / tickPs = 1 := by
    simp only [tickPs]
    omega
  refine ((if_neg (idle_later s)).trans (if_pos h)).trans ?_
  dsimp only
  rw [hn]
  rfl
/-- While the root-derived clocks stand, only the model's clock moves (R19). -/
theorem idle_stopped {s : State} (h : running s = false) : idle s = { s with now := (s.now / 1600 + 1) * 1600, out := [] } :=
  (if_neg (idle_later s)).trans (if_neg (ne_true_of_eq_false h))

theorem slewPart_still {t : TimePart} (h : t.slewing = false) (n : Nat) : slewPart t n = 0 := by
  rw [slewPart, h, if_neg Bool.false_ne_true]
/-- A tick of a slew takes SLEW_INC while that much remains, then what remains (R46). -/
theorem slewPart_one {t : TimePart} (h : t.slewing = true) (h0 : 0 < t.slewInc) : slewPart t 1 = min t.slewInc t.slewRem.natAbs := by
  have hq : 1 ≤ t.slewRem.natAbs / t.slewInc ↔ t.slewInc ≤ t.slewRem.natAbs := Nat.one_le_div_iff h0
  rw [slewPart, if_pos h, if_neg (by omega)]
  by_cases hi : t.slewInc ≤ t.slewRem.natAbs
  · rw [if_pos (hq.mpr hi), Nat.min_eq_left hi, Nat.one_mul]
  · rw [if_neg (fun x => hi (hq.mp x)), Nat.min_eq_right (by omega)]
theorem withSign_neg {r : Int} (h : r < 0) (m : Nat) : withSign r m = -(m : Int) := if_pos h
theorem withSign_nonneg {r : Int} (h : 0 ≤ r) (m : Nat) : withSign r m = m := if_neg (by omega)
theorem withSign_zero (r : Int) : withSign r 0 = 0 := by
  unfold withSign
  split <;> rfl

/-- What one tick does to the counter and the slew, with `a` the part of the slew that it adds. -/
theorem tickTime_one (t : TimePart) (a : Int) (ha : withSign t.slewRem (slewPart t 1) = a) : tickTime 1 t = { t with
    counter := counterOf ((t.counter.total : Int) + t.rate + a).toNat, slewRem := t.slewRem - a
    fdomAcc := List.zipWith (fun acc r => acc + r) t.fdomAcc t.fdomRate } := by
  simp only [tickTime, ha, Nat.one_mul]

/-- The parts of the state that a tick moves. -/
theorem ticked_eq (s : State) (a : Int) (ha : withSign s.time.slewRem (slewPart s.time 1) = a) :
    (ticked s).time = { s.time with
      counter := counterOf ((s.time.counter.total : Int) + s.time.rate + a).toNat, slewRem := s.time.slewRem - a
      fdomAcc := List.zipWith (fun acc r => acc + r) s.time.fdomAcc s.time.fdomRate, course := courseOn s.now s.time } ∧
    (ticked s).incSum = ((s.incSum : Int) + s.time.rate + a).toNat := by
  refine ⟨tickTime_one { s.time with course := courseOn s.now s.time } a ha, ?_⟩
  simp only [ticked, ha, Nat.one_mul]

/-- Settles O9: an idle step is a tick; without a slew it adds RATE, with one also the slew's part with the sign of the remainder. -/
theorem tickAddsTheIncrement : Obligations.TickAddsTheIncrement := by
  unfold Obligations.TickAddsTheIncrement
  intro s hp
  have hs : step s = .next (idle s) := by
    unfold step
    rw [hp]
  refine ⟨idle s, hs, ?_⟩
  cases hr : running s with
  | false =>
    rw [idle_stopped hr]
    exact ⟨rfl, fun _ => rfl, fun h => absurd h Bool.false_ne_true⟩
  | true =>
    rw [idle_running hr]
    refine ⟨rfl, fun h => absurd h.symm Bool.false_ne_true, fun _ => ⟨rfl, ?_, ?_, fun hn => ?_, fun hy h0 hle => ?_⟩⟩
    · rw [(ticked_eq s _ rfl).1]
    · rw [(ticked_eq s _ rfl).1]
    · obtain ⟨ht, hi⟩ := ticked_eq s 0 (by rw [slewPart_still hn, withSign_zero])
      rw [ht, hi]
      refine ⟨Int.sub_zero _, by omega, fun hb => ?_⟩
      rw [total_counterOf (by omega)]
      omega
    · intro m
      have hm : slewPart s.time 1 = m := slewPart_one hy h0
      have hmi : m ≤ s.time.slewInc := Nat.min_le_left ..
      have hmr : m ≤ s.time.slewRem.natAbs := Nat.min_le_right ..
      clear_value m
      rcases Int.lt_or_le s.time.slewRem 0 with hneg | hpos
      · obtain ⟨ht, -⟩ := ticked_eq s (-(m : Int)) (by rw [hm, withSign_neg hneg])
        rw [ht]
        refine ⟨by dsimp only; omega, fun _ => ⟨by dsimp only; omega, fun hb => ?_⟩, fun h => by omega⟩
        rw [total_counterOf (by omega)]
        omega
      · obtain ⟨ht, -⟩ := ticked_eq s m (by rw [hm, withSign_nonneg hpos])
        rw [ht]
        refine ⟨by dsimp only; omega, fun h => by omega, fun _ => ⟨rfl, fun hb => ?_⟩⟩
        rw [total_counterOf (by omega)]
        omega

end Sys2Proof.Machine
end
section
/-! PROOFS. The rows of the clock root (R199 to R202). -/
namespace Sys2Proof.Machine
open Sys2Proof Host

/-- Refutes O26: the root's comparison row is not one of the watch domain, and moves the root of a chip whose clocks stand. The chip has
lost lock and its PLL has locked again (R202), so its root-derived clocks do not run; a detector error above 1.5 ns takes the lock away. -/
theorem not_rootRowsComplete : ¬ Obligations.RootRowsComplete := by
  unfold Obligations.RootRowsComplete
  rintro ⟨-, -, -, -, -, hStopped⟩
  let s : State := { boot := { inReset := false, powerGood := true, stage := 9, cmdReady := true }, root := { locked := true, lost := true } }
  obtain ⟨t, hx, ht⟩ := hStopped (.excursion { time := 0, errPs := 1501 }) s rfl rfl
  have hUnlocked : t.root.locked = false := by rw [← Outcome.next.inj hx]; rfl
  have hLocked : t.root.locked = true := by rw [ht]
  exact Bool.false_ne_true (hUnlocked.symm.trans hLocked)

end Sys2Proof.Machine
end
section
/-! PROOFS. What replies, causes and outputs leave behind: outputs of the step stay, causes that stand stay. -/
namespace Sys2Proof.Machine
open Sys2Proof Host

/-! ### Outputs and causes -/

/-- `t` comes after `s` on one step: what `s` has put out stays put out, and a cause that stands in `s` stands in `t`. -/
def follows (s t : State) : Prop := (∀ o ∈ s.out, o ∈ t.out) ∧ ∀ c b, causeStands c b s → causeStands c b t

theorem follows_refl (s : State) : follows s s := ⟨fun _ h => h, fun _ _ h => h⟩
theorem follows_trans {r s t : State} (h : follows s t) (g : follows r s) : follows r t :=
  ⟨fun o ho => h.1 o (g.1 o ho), fun c b hc => h.2 c b (g.2 c b hc)⟩
/-- A change of any part but the outputs and the causes. -/
theorem follows_same {r s t : State} (h : follows r s) (ho : t.out = s.out) (hc : t.host.cause = s.host.cause) : follows r t :=
  ⟨fun o hm => ho ▸ h.1 o hm, fun c b hs => stands_of_cause hc (h.2 c b hs)⟩
theorem follows_ite {c : Prop} [Decidable c] {r s t : State} (hs : follows r s) (ht : follows r t) : follows r (if c then s else t) := by
  split
  · exact hs
  · exact ht
theorem follows_foldl {α : Type} (f : State → α → State) (hf : ∀ s a, follows s (f s a)) (l : List α) {r s : State} (h : follows r s) :
    follows r (l.foldl f s) := by
  induction l generalizing s with
  | nil => exact h
  | cons a l ih => exact ih (follows_trans (hf s a) h)

theorem follows_emit (o : Output) {r s : State} (h : follows r s) : follows r (emit o s) :=
  ⟨fun p hp => List.mem_append_left _ (h.1 p hp), fun c b hs => stands_of_cause rfl (h.2 c b hs)⟩
theorem mem_emit (o : Output) (s : State) : o ∈ (emit o s).out := List.mem_append_right _ (List.mem_singleton.mpr rfl)
theorem follows_msixSend {r s : State} (h : follows r s) : follows r (msixSend s) := by
  unfold msixSend
  exact follows_ite (follows_ite (follows_same h rfl rfl) (follows_same (follows_emit .msix h) rfl rfl)) h
theorem out_eventDue (e : EventDue) (s : State) : (eventDue e s).out = s.out := by
  unfold eventDue
  generalize List.range 32 = l
  induction l generalizing s with
  | nil => rfl
  | cons a l ih =>
    rw [List.foldl_cons, ih]
    dsimp only
    split <;> rfl
theorem mem_irqEdge {o : Output} {s : State} (b : Bool) (h : o ∈ s.out) : o ∈ (irqEdge b s).out := by
  unfold irqEdge
  split
  · exact (follows_msixSend (follows_refl s)).1 o h
  · exact h
/-- A condition that occurs adds its cause, and the message of the interrupt to the outputs (R513, R515). -/
theorem follows_setCause (c b i : Nat) {r s : State} (h : follows r s) : follows r (setCause c b i s) := by
  refine ⟨fun o ho => ?_, fun c' b' hs => stands_setCause c b i (h.2 c' b' hs)⟩
  unfold setCause
  dsimp only
  split
  · exact h.1 o ho
  · refine mem_irqEdge _ ?_
    rw [out_eventDue]
    exact h.1 o ho
theorem follows_forward (x : LockInput) {r s : State} (h : follows r s) : follows r (forward x s) := by
  unfold forward
  exact follows_ite (follows_emit _ h) h
theorem openOcc_only (c : Nat) (d : Int) (s : State) : openOcc c d s = { s with score := (openOcc c d s).score } := by
  unfold openOcc
  dsimp only
  split
  · rfl
  · split <;> rfl
theorem follows_occur (c : Nat) (d : Int) {r s : State} (h : follows r s) : follows r (occur c d s) := by
  have hOpen : ∀ {x : State} (d : Int), follows r x → follows r (openOcc c d x) := fun {x} d hx => by
    rw [openOcc_only]
    exact follows_same hx rfl rfl
  have hy : follows r (if pairCode c then forward (.occurrence c d) s else s) := follows_ite (follows_forward _ h) h
  unfold occur
  revert hy
  generalize (if pairCode c then forward (.occurrence c d) s else s) = y
  intro hy
  dsimp only
  refine follows_ite h ?_
  split
  · refine follows_ite (hOpen _ hy) (follows_ite ?_ (follows_setCause _ _ _ ?_)) <;> exact follows_same hy rfl rfl
  · exact follows_ite (follows_same hy rfl rfl) (hOpen _ hy)
  · split
    · exact follows_ite (follows_same hy rfl rfl) (hOpen _ hy)
    · exact hOpen _ hy
  · exact hOpen _ hy
theorem follows_raiseIdx (c b i : Nat) {r s : State} (h : follows r s) : follows r (raiseIdx c b i s) := by
  unfold raiseIdx
  dsimp only
  split
  · exact follows_occur _ _ (follows_setCause c b i h)
  · exact follows_setCause c b i h
theorem follows_raise (c b : Nat) {r s : State} (h : follows r s) : follows r (raise c b s) := follows_raiseIdx c b 0 h

/-! ### Replies -/

theorem follows_updRing (k : Nat) (f : Ring → Ring) {r s : State} (h : follows r s) : follows r (updRing k f s) := follows_same h rfl rfl
theorem follows_ringEvent (k : Nat) {r s : State} (h : follows r s) : follows r (ringEvent k s) := by
  refine ⟨fun o ho => ?_, fun c b hs => stands_of_cause (cause_ringEvent k s) (h.2 c b hs)⟩
  have hm := h.1 o ho
  unfold ringEvent
  generalize secondOf k = p
  obtain ⟨w, i⟩ := p
  dsimp only
  split
  · split <;> exact hm
  · split
    · exact mem_irqEdge _ hm
    · split <;> exact hm
theorem follows_replyRingWrite (c : Nat) (e : Bytes) {r s : State} (h : follows r s) : follows r (replyRingWrite c e s) := by
  unfold replyRingWrite
  dsimp only
  exact follows_ite (follows_ringEvent _ (follows_same (follows_emit _ h) rfl rfl)) h
theorem follows_forwardCommand (op : Nat) (q : Req) {r s : State} (h : follows r s) : follows r (forwardCommand op q s) := by
  unfold forwardCommand
  split
  · exact h
  · exact h
  · exact follows_forward _ h
theorem follows_noteMirror (op : Nat) (q : Req) (st : Nat) {r s : State} (h : follows r s) : follows r (noteMirror op q st s) := by
  unfold noteMirror settleMirrors
  dsimp only
  refine follows_foldl _ (fun x m => ?_) _ (follows_same h rfl rfl)
  exact follows_ite (follows_refl x) (follows_raise 12 11 (follows_same (follows_refl x) rfl rfl))
theorem follows_replyWith (m : Bool) (op : Nat) (q : Req) (st d : Nat) (data : Bytes) {r s : State} (h : follows r s) :
    follows r (replyWith m op q st d data s) := by
  have h1 : follows r (if st = stBusyRetry then bump 34 (bump 33 s) else bump 33 s) := follows_ite (follows_same h rfl rfl) (follows_same h rfl rfl)
  unfold replyWith
  dsimp only
  revert h1
  generalize (if st = stBusyRetry then bump 34 (bump 33 s) else bump 33 s) = x
  intro h1
  have h2 : ∀ f, follows r (if usesSlot q then updSlot (slotOf q) f x else x) := fun f => follows_ite (follows_same h1 rfl rfl) h1
  have h3 : ∀ y, follows r y → follows r (if isMirrored q then noteMirror op q st y else forwardCommand op q y) :=
    fun y hy => follows_ite (follows_noteMirror _ _ _ hy) (follows_forwardCommand _ _ hy)
  have h4 := h3 _ (h2 fun _ => slotResult op q st d (data ++ zeros ((4 - data.length % 4) % 4)))
  split
  · exact follows_ite (follows_replyRingWrite _ _ (follows_updRing _ _ h4)) (follows_updRing _ _ h4)
  · exact follows_raise _ _ h4
  · exact follows_raise _ _ h4
  · exact follows_emit _ h4
  · exact h4
theorem follows_finishWait (k : WaitKey) (st d : Nat) (data : Bytes) {r s : State} (h : follows r s) : follows r (finishWait k st d data s) := by
  unfold finishWait
  split
  · exact h
  · exact follows_replyWith _ _ _ _ _ _ (follows_same h rfl rfl)

end Sys2Proof.Machine
end
section
/-! PROOFS. What replies leave alone. -/
namespace Sys2Proof.Machine
open Sys2Proof Host

/-- A pair's state with another record of mirrored commands (R406). -/
def mirrored (s : State) (l : List MirrorWait) (op tag st : Nat) : State :=
  { s with pair := { s.pair with mirrors := l, mirrorOpcode := op, mirrorTag := tag, mirrorStatus := st } }

/-- `t` is `s` but for bookkeeping and the pair's record of mirrored commands. -/
def repliedFrom (s t : State) : Prop := ∃ l op tag st, base t = base (mirrored s l op tag st)

theorem repliedFrom_base {s x t : State} (h : repliedFrom s x) (e : base t = base x) : repliedFrom s t :=
  let ⟨l, op, tag, st, hx⟩ := h
  ⟨l, op, tag, st, e.trans hx⟩
theorem repliedFrom_refl (s : State) : repliedFrom s s := ⟨s.pair.mirrors, s.pair.mirrorOpcode, s.pair.mirrorTag, s.pair.mirrorStatus, rfl⟩
theorem repliedFrom_mirrored {s x : State} (h : repliedFrom s x) (l : List MirrorWait) (op tag st : Nat) : repliedFrom s (mirrored x l op tag st) := by
  obtain ⟨l', op', tag', st', hx⟩ := h
  have e : ∀ y : State, base (mirrored y l op tag st) = mirrored (base y) l op tag st := fun _ => rfl
  exact ⟨l, op, tag, st, by rw [e, hx]; rfl⟩

theorem base_raise12 (b : Nat) (s : State) : base (raise 12 b s) = base s := base_setCause 12 b 0 s
theorem repliedFrom_noteMirror (op : Nat) (q : Req) (st : Nat) {s x : State} (h : repliedFrom s x) : repliedFrom s (noteMirror op q st x) := by
  have hSettle : ∀ (ms : List MirrorWait) (y : State), repliedFrom s y →
      repliedFrom s (ms.foldl (fun s m => if m.own = m.partner ∨ m.own = some stNotOwner ∨ m.partner = some stNotOwner then s
        else mirrorMismatch m.opcode m.tag (m.partner.getD 0xFF) s) y) := by
    intro ms
    induction ms with
    | nil => exact fun y hy => hy
    | cons m ms ih =>
      intro y hy
      refine ih _ ?_
      dsimp only
      split
      · exact hy
      · exact repliedFrom_base (repliedFrom_mirrored hy y.pair.mirrors m.opcode m.tag (m.partner.getD 0xFF)) (base_raise12 11 _)
  exact hSettle _ _ (repliedFrom_mirrored h _ x.pair.mirrorOpcode x.pair.mirrorTag x.pair.mirrorStatus)
/-- A reply changes result slots, rings, causes, counters, outputs, and the pair's record of mirrored commands. -/
theorem repliedFrom_replyWith (m : Bool) (op : Nat) (q : Req) (st d : Nat) (data : Bytes) (s : State) :
    repliedFrom s (replyWith m op q st d data s) := by
  have h1 : base (if st = stBusyRetry then bump 34 (bump 33 s) else bump 33 s) = base s := by split <;> rfl
  unfold replyWith
  dsimp only
  revert h1
  generalize (if st = stBusyRetry then bump 34 (bump 33 s) else bump 33 s) = x
  intro h1
  have h2 : ∀ f : Slot → Slot, repliedFrom s (if usesSlot q then updSlot (slotOf q) f x else x) := fun f => by
    split
    · exact repliedFrom_base (repliedFrom_refl s) ((base_updSlot _ _ _).trans h1)
    · exact repliedFrom_base (repliedFrom_refl s) h1
  have h3 : ∀ y, repliedFrom s y → repliedFrom s (if isMirrored q then noteMirror op q st y else forwardCommand op q y) := fun y hy => by
    split
    · exact repliedFrom_noteMirror _ _ _ hy
    · exact repliedFrom_base hy (base_forwardCommand _ _ _)
  have h4 := h3 _ (h2 fun _ => slotResult op q st d (data ++ zeros ((4 - data.length % 4) % 4)))
  split
  · split
    · exact repliedFrom_base h4 ((base_replyRingWrite _ _ _).trans (base_updRing _ _ _))
    · exact repliedFrom_base h4 (base_updRing _ _ _)
  · exact repliedFrom_base h4 (base_setCause 0 4 0 _)
  · exact repliedFrom_base h4 (base_setCause 0 4 0 _)
  · exact repliedFrom_base h4 (base_emit _ _)
  · exact h4

/-- The commands that still wait once the first of a kind is answered. -/
def answeredWaits (k : WaitKey) (l : List Wait) : List Wait :=
  match l.find? (fun w => w.key == k) with
  | none => l
  | some w => l.erase w

/-- An answer to a command that waits takes it off the list of those, and is a reply. -/
theorem repliedFrom_finishWait (k : WaitKey) (st d : Nat) (data : Bytes) (s : State) :
    repliedFrom { s with host := { s.host with waits := answeredWaits k s.host.waits } } (finishWait k st d data s) := by
  cases e : s.host.waits.find? (fun w => w.key == k) with
  | none =>
    simp only [finishWait, answeredWaits, e]
    exact repliedFrom_refl s
  | some w =>
    simp only [finishWait, answeredWaits, e]
    exact repliedFrom_replyWith _ _ _ _ _ _ _
theorem finishWait_none {k : WaitKey} {s : State} (st d : Nat) (data : Bytes) (h : ∀ v ∈ s.host.waits, v.key ≠ k) : finishWait k st d data s = s := by
  have e : s.host.waits.find? (fun w => w.key == k) = none := List.find?_eq_none.mpr fun v hv => by simpa using h v hv
  unfold finishWait
  rw [e]

/-! ### What a state that a reply has left still holds -/

/-- Whatever neither bookkeeping nor the record of mirrored commands bears on is as it was. -/
theorem of_replied {α : Type} (f : State → α) (hb : ∀ x, f (base x) = f x) (hm : ∀ x l op tag st, f (mirrored x l op tag st) = f x)
    {s t : State} (h : repliedFrom s t) : f t = f s := by
  obtain ⟨l, op, tag, st, e⟩ := h
  rw [← hb t, e, hb, hm]
theorem hostBase_of_replied {s t : State} (h : repliedFrom s t) : hostBase t.host = hostBase s.host :=
  of_replied (fun x => hostBase x.host) (fun _ => rfl) (fun _ _ _ _ _ => rfl) h
theorem score_of_replied {s t : State} (h : repliedFrom s t) : t.score = s.score :=
  of_replied (·.score) (fun _ => rfl) (fun _ _ _ _ _ => rfl) h
theorem flash_of_replied {s t : State} (h : repliedFrom s t) : t.flash = s.flash :=
  of_replied (·.flash) (fun _ => rfl) (fun _ _ _ _ _ => rfl) h
theorem kitty_of_replied {s t : State} (h : repliedFrom s t) : t.kitty = s.kitty :=
  of_replied (·.kitty) (fun _ => rfl) (fun _ _ _ _ _ => rfl) h
theorem now_of_replied {s t : State} (h : repliedFrom s t) : t.now = s.now :=
  of_replied (·.now) (fun _ => rfl) (fun _ _ _ _ _ => rfl) h
/-- The claim, the enable and the rest of the pair's state are as they were. -/
theorem pair_of_replied {s t : State} (h : repliedFrom s t) : ∃ l op tag st, t.pair = (mirrored s l op tag st).pair := by
  obtain ⟨l, op, tag, st, e⟩ := h
  have hp := congrArg State.pair e
  exact ⟨l, op, tag, st, hp⟩

end Sys2Proof.Machine
end
section
/-! PROOFS. The hand boundary and the Scorecard's pages (R27, R29, R536 to R539). -/
namespace Sys2Proof.Machine
open Sys2Proof Host

/-! ### The hand boundary -/

theorem plain_addRate (k : Nat) (s : State) : plain (addRate k s) = plain s := by
  unfold addRate
  dsimp only
  split <;> rfl
theorem plain_foldl {α : Type} (f : State → α → State) (hf : ∀ s a, plain (f s a) = plain s) (l : List α) (s : State) :
    plain (l.foldl f s) = plain s := by
  induction l generalizing s with
  | nil => rfl
  | cons a l ih => exact (ih _).trans (hf s a)
/-- The samples of a hand enter the Scorecard only (R534). -/
theorem plain_handSamples (temp ph : Int) (s : State) : plain (handSamples temp ph s) = plain s := by
  unfold handSamples
  dsimp only
  rw [plain_foldl _ fun x p => by rw [plain_ite, plain_addSample, ite_self], plain_foldl _ fun x k => plain_addRate k x]
  simp only [plain_ite, plain_addSample, ite_self]

theorem closeHand_hand (s : State) : (closeHand s).hand = { s.hand with number := (s.hand.number + 1) % 2 ^ 32 } := by
  unfold closeHand
  dsimp only
  split
  · rw [raise_hand]
  · rfl
/-- The hand that closes moves the hand number on; a hand with a refusal raises SERVICE_REFUSED (R27). -/
theorem closeHand_frame (s : State) : plain (closeHand s) = plain { s with hand := (closeHand s).hand } := by
  have e : ∀ x : State, plain x = plain s → ∀ h : HandPart, plain { x with hand := h } = plain { s with hand := h } := fun x hx h => by
    have e' : ∀ y : State, plain { y with hand := h } = { plain y with hand := h } := fun _ => rfl
    rw [e', e', hx]
  rw [closeHand_hand]
  unfold closeHand
  dsimp only
  split
  · rw [raise_hand]
    exact e _ (plain_raise _ _ _) _
  · rfl
theorem closeHand_refused {s : State} (h : s.svc.refusalHand = some s.hand.number) : causeStands 9 0 (closeHand s) := by
  unfold closeHand
  rw [if_pos h]
  exact stands_of_cause rfl (stands_raise_self 9 0 s (by decide))

theorem capture_alone {s : State} (h : s.work.pair.mode ≠ 1) : capture s = s := by
  unfold capture
  rw [if_pos (by simpa using h)]
/-- A chip of a pair captures the snapshot of the tick (R29, R404). -/
theorem capture_paired {s : State} (h : s.work.pair.mode = 1) : ∃ gs p o, capture s = { s with pair := p, perf := o } ∧
    p.boundary = s.now ∧ p.snapSent = false ∧ p.captured = some (snapshotWith gs { s with perf := o }) := by
  have hp : ∀ k : Nat, ∃ o, (if isDummy s then s else bumpBy (64 * 12 + 35) k s) = { s with perf := o } := fun k => by
    split <;> exact ⟨_, rfl⟩
  unfold capture
  rw [if_neg (by simp [h])]
  dsimp only
  obtain ⟨o, ho⟩ := hp _
  rw [ho]
  exact ⟨_, _, o, rfl, rfl, rfl, rfl⟩

theorem toBoundary_hand (s : State) : (toBoundary s).hand = s.hand := by unfold toBoundary; split <;> [rfl; exact moveTo_hand _ _]
theorem toBoundary_svc (s : State) : (toBoundary s).svc = s.svc := by unfold toBoundary; split <;> [rfl; exact moveTo_svc _ _]
theorem toBoundary_pair (s : State) : (toBoundary s).pair = s.pair := by unfold toBoundary; split <;> [rfl; exact moveTo_pair _ _]
theorem toBoundary_work (s : State) : (toBoundary s).work = s.work := by unfold toBoundary; split <;> [rfl; exact moveTo_work _ _]

/-- The state whose hand closes at a boundary: the samples are taken. -/
def sampled (temp ph : Int) (z : State) : State :=
  handSamples temp ph { z with boot := { z.boot with tempMax := temp }, hand := { z.hand with lastTick := some (z.now / tickPs) } }

theorem handBoundary_running {temp ph : Int} {y : State} (h : running y = true) :
    handBoundary temp ph y = capture (closeHand (sampled temp ph (toBoundary y))) := by
  unfold handBoundary sampled
  rw [if_neg (by simp [h])]

/-- What a closed hand leaves: all but the Scorecard as it was on the boundary, the hand number one on. -/
theorem closeHand_sampled (temp ph : Int) (z : State) : plain (closeHand (sampled temp ph z)) = plain { z with
    boot := { z.boot with tempMax := temp }, hand := { number := (z.hand.number + 1) % 2 ^ 32, lastTick := some (z.now / tickPs) } } := by
  have hs := plain_handSamples temp ph { z with boot := { z.boot with tempMax := temp }, hand := { z.hand with lastTick := some (z.now / tickPs) } }
  have hh := hand_of_plain hs
  have e : ∀ (y : State) (h : HandPart), plain { y with hand := h } = { plain y with hand := h } := fun _ _ => rfl
  rw [closeHand_frame, closeHand_hand, e]
  unfold sampled
  rw [hs, hh]
  rfl

/-! ### Pages -/

theorem base_raise15 (b : Nat) (s : State) : base (raise 15 b s) = base s := base_setCause 15 b 0 s
theorem raise15_score (b : Nat) (s : State) : (raise 15 b s).score = s.score := by
  have h := congrArg State.score (base_raise15 b s)
  exact h

/-- A page's snapshot as it waits, of the interval that an hour's commit ends (R535, R536). -/
def hourPage (s : State) : Writing := { page := livePage false s, start := s.now, forced := false }

theorem burnHourly_only (w : Writing) (k : FlashKind) (s : State) : ∃ b o, burnHourly w k s = { s with out := o } ∧ Output.flash "HOURLY" b ∈ o ∧ follows s (burnHourly w k s) :=
  ⟨_, _, rfl, mem_emit _ _, follows_emit _ (follows_emit _ (follows_refl s))⟩

theorem startPage_writing {s : State} {w : Writing} (h : s.score.writing = some w) : startPage s = s := by
  unfold startPage
  rw [h]
theorem startPage_kitty {s : State} (h : kittyUses s = true) : startPage s = s := by
  unfold startPage
  split
  · rw [if_pos h]
  · rfl
theorem startPage_empty {s : State} (h : s.score.waiting = []) : startPage s = s := by
  unfold startPage
  rw [h]
  split
  · rename_i e
    cases e
  · rfl
/-- The first page that waits goes into write where nothing uses the flash (R536). -/
theorem startPage_starts {s : State} {w : Writing} {ws : List Writing} (hw : s.score.writing = none) (hq : s.score.waiting = w :: ws) (hk : kittyUses s = false) :
    startPage s = burnHourly { w with slot := s.flash.hourlyHead % 1024, page := { w.page with written := opTime s } } s.score.kind
      { s with
        score := { s.score with writing := some { w with slot := s.flash.hourlyHead % 1024, page := { w.page with written := opTime s } }, waiting := ws }
        flash := { s.flash with hourly := delKey (s.flash.hourlyHead % 1024) s.flash.hourly } } := by
  unfold startPage
  rw [hw, hq]
  dsimp only
  rw [hk]
  rfl

theorem scoreOn_of {s t : State} (hw : t.work = s.work) (hk : t.score.kind = s.score.kind) : scoreOn t = scoreOn s := by
  simp only [scoreOn, hw, hk]
theorem kittyUses_of {s t : State} (h : t.kitty = s.kitty) : kittyUses t = kittyUses s := by
  simp only [kittyUses, h]
theorem kitty_of_base {s t : State} (h : base t = base s) : t.kitty = s.kitty := kitty_of_plain (plain_base h)
theorem flash_of_base {s t : State} (h : base t = base s) : t.flash = s.flash := flash_of_plain (plain_base h)
theorem score_of_base {s t : State} (h : base t = base s) : t.score = s.score := by
  have hs := congrArg State.score h
  exact hs

theorem startPage_score (s : State) : ∃ w l, (startPage s).score = { s.score with writing := w, waiting := l } := by
  unfold startPage
  split
  · split
    · exact ⟨s.score.writing, s.score.waiting, rfl⟩
    · exact ⟨_, _, rfl⟩
  · exact ⟨s.score.writing, s.score.waiting, rfl⟩

/-- An hour boundary has given its credit (R536). -/
def credited (s : State) : State := updScore (fun x => { x with credits := min 24 (x.credits + 1) }) s
/-- The snapshot of the interval has joined the pages that wait, and the accumulators are cleared (R536). -/
def snapped (s : State) : State := updScore (fun x => { x with
  waiting := x.waiting ++ [hourPage s], samples := x.samples.filter (fun e => !inPage s e.1), occs := x.occs.filter (fun r => !inPage s r.code)
  omitted := [], limited := false, opStart := opTime s, carry := [] }) s

theorem hourCommit_off {s : State} (h : scoreOn s = false) :
    hourCommit s = { s with score := { s.score with credits := min 24 (s.score.credits + 1), opStart := opTime s } } := by
  have e : scoreOn (updScore (fun x => { x with credits := min 24 (x.credits + 1) }) s) = false := h
  unfold hourCommit
  dsimp only
  rw [e]
  rfl
/-- Where the Scorecard accumulates, an hour's commit goes on from the snapshot that has joined the pages. -/
theorem hourCommit_on {s : State} (h : scoreOn s = true) : ∃ y, base y = base (snapped (credited s)) ∧
    hourCommit s = updScore (fun x => { x with dailyDue := x.dailyDue || opTime s % 24576 == 0 }) (startPage y) := by
  have e : scoreOn (credited s) = true := h
  refine ⟨if (livePage false (credited s)).omitted = 0 then snapped (credited s) else raise 15 4 (snapped (credited s)), ?_, ?_⟩
  · rw [base_ite, base_raise15, ite_self]
  · unfold hourCommit
    change (if (!scoreOn (credited s)) = true then _ else _) = _
    rw [e]
    rfl

/-- Settles the clause of HOURLY_COMMIT of O53 for the state on the hour boundary. -/
theorem hourCommit_commits {s : State} (h : scoreOn s = true) :
    let t := hourCommit s
    t.score.credits = min 24 (s.score.credits + 1) ∧ t.score.opStart = opTime s ∧ t.score.carry = [] ∧
    t.score.dailyDue = (s.score.dailyDue || opTime s % 24576 == 0) ∧
    (∀ w, s.score.writing = some w → t.score.writing = some w ∧ t.score.waiting = s.score.waiting ++ [hourPage (credited s)]) ∧
    (kittyUses s = true → s.score.writing = none → t.score.writing = none ∧ t.score.waiting = s.score.waiting ++ [hourPage (credited s)]) ∧
    (kittyUses s = false → s.score.writing = none → s.score.waiting = [] → ∃ v b, t.score.writing = some v ∧ t.score.waiting = [] ∧
      v.page.opStart = s.score.opStart ∧ v.page.opEnd = opTime s ∧ v.slot = s.flash.hourlyHead % 1024 ∧ .flash "HOURLY" b ∈ t.out) := by
  obtain ⟨y, hy, ht⟩ := hourCommit_on h
  have hs : y.score = (snapped (credited s)).score := score_of_base hy
  have hf : y.flash = s.flash := (flash_of_base hy).trans rfl
  have hk : kittyUses y = kittyUses s := kittyUses_of ((kitty_of_base hy).trans rfl)
  obtain ⟨w, l, hw⟩ := startPage_score y
  intro t
  have e : t = _ := ht
  clear_value t
  subst e
  refine ⟨?_, ?_, ?_, ?_, fun w h1 => ?_, fun h0 h1 => ?_, fun h0 h1 h2 => ?_⟩
  · exact (congrArg ScorePart.credits hw).trans (congrArg ScorePart.credits hs)
  · exact (congrArg ScorePart.opStart hw).trans (congrArg ScorePart.opStart hs)
  · exact (congrArg ScorePart.carry hw).trans (congrArg ScorePart.carry hs)
  · exact congrArg (· || opTime s % 24576 == 0) ((congrArg ScorePart.dailyDue hw).trans ((congrArg ScorePart.dailyDue hs).trans rfl))
  · have hwr : y.score.writing = some w := (congrArg ScorePart.writing hs).trans h1
    rw [startPage_writing hwr]
    exact ⟨hwr, congrArg ScorePart.waiting hs⟩
  · rw [startPage_kitty (hk.trans h0)]
    exact ⟨(congrArg ScorePart.writing hs).trans h1, congrArg ScorePart.waiting hs⟩
  · have hq : y.score.waiting = [hourPage (credited s)] := by
      rw [hs]
      change s.score.waiting ++ [_] = _
      rw [h2]
      rfl
    rw [startPage_starts ((congrArg ScorePart.writing hs).trans h1) hq (hk.trans h0), hf]
    obtain ⟨b, o, hb, hm, -⟩ := burnHourly_only _ _ _
    rw [hb]
    exact ⟨_, b, rfl, rfl, rfl, rfl, rfl, hm⟩

/-! ### A page read back, and a page that fails -/

theorem kittyTurn_of {s t : State} (hk : t.kitty = s.kitty) (hw : t.score.waiting = s.score.waiting) : kittyTurn t = kittyTurn s := by
  simp only [kittyTurn, hk, hw]
/-- After the last page that waits the flash goes to an image that waits, or stays free (R536). -/
theorem serveFlash_only {s : State} (h : s.score.waiting = []) : ∃ f k o, serveFlash s = { s with flash := f, kitty := k, out := o } ∧
    (∀ p ∈ s.out, p ∈ o) ∧ (kittyTurn s = false → f = s.flash) ∧
    (∀ w, kittyTurn s = true → s.kitty.writing = some w →
      kittyUses (serveFlash s) = true ∧ Output.flash "KITTY" w.image ∈ o ∧ flashBank (serveFlash s) w.bank = []) := by
  unfold serveFlash
  by_cases hk : kittyTurn s = true
  · rw [if_pos hk]
    cases hw : s.kitty.writing with
    | none => simp [kittyTurn, hw] at hk
    | some w =>
      have e : programImage s = burn "KITTY" (bankAddr w.bank) 40 w.image (setBank w.bank [] (updKitty (fun k => { k with writing := some { w with waits := false } }) s)) := by
        unfold programImage
        rw [hw]
      refine ⟨_, _, _, e, fun p hp => (follows_emit _ (follows_emit _ (follows_refl s))).1 p hp, fun hf => absurd (hk.symm.trans hf) (by decide), fun v _ hv => ?_⟩
      obtain rfl := Option.some.inj hv
      rw [e]
      refine ⟨rfl, mem_emit _ _, ?_⟩
      simp only [flashBank, burn, emit, setBank]
      split <;> rfl
  · rw [if_neg hk, startPage_empty h]
    exact ⟨_, _, _, rfl, fun p hp => hp, fun _ => rfl, fun w hw => absurd hw hk⟩

theorem finishWait_waits (k : WaitKey) (st d : Nat) (data : Bytes) (s : State) :
    (finishWait k st d data s).host.waits = answeredWaits k s.host.waits := by
  have h := congrArg HostPart.waits (hostBase_of_replied (repliedFrom_finishWait k st d data s))
  exact h
theorem answeredWaits_single {k : WaitKey} {v : Wait} (h : v.key = k) : answeredWaits k [v] = [] := by
  simp [answeredWaits, h]

/-- A page has left the flash: REC_COMMIT_NOW is answered where it waits, and an image that waits gets the flash (R536, R537). -/
theorem endPage {s : State} (st d : Nat) (data : Bytes) (hw : s.score.writing = none) (hq : s.score.waiting = []) :
    let t := serveFlash (finishWait .recCommit st d data s)
    follows s t ∧ t.score.writing = none ∧ (kittyTurn s = false → t.flash = s.flash) ∧
    (∀ k, kittyTurn s = true → s.kitty.writing = some k → kittyUses t = true ∧ Output.flash "KITTY" k.image ∈ t.out ∧ flashBank t k.bank = []) ∧
    (∀ v, s.host.waits = [v] → v.key = .recCommit → t.host.waits = []) ∧
    ((∀ v ∈ s.host.waits, v.key ≠ .recCommit) → plain t = plain { s with flash := t.flash, kitty := t.kitty }) := by
  have hr := repliedFrom_finishWait .recCommit st d data s
  have hs : (finishWait .recCommit st d data s).score = s.score := (score_of_replied hr).trans rfl
  have hk : (finishWait .recCommit st d data s).kitty = s.kitty := (kitty_of_replied hr).trans rfl
  have hf : (finishWait .recCommit st d data s).flash = s.flash := (flash_of_replied hr).trans rfl
  have hn := finishWait_waits .recCommit st d data s
  have hfol := follows_finishWait .recCommit st d data (follows_refl s)
  have hnone : (∀ v ∈ s.host.waits, v.key ≠ .recCommit) → finishWait .recCommit st d data s = s := finishWait_none st d data
  revert hs hk hf hn hfol hnone
  clear hr
  generalize finishWait .recCommit st d data s = y
  intro hs hk hf hn hfol hnone
  have hT : kittyTurn y = kittyTurn s := kittyTurn_of hk (by rw [hs])
  obtain ⟨f, k, o, e, ho, h0, h1⟩ := serveFlash_only (s := y) (by rw [hs, hq])
  rw [hT] at h0 h1
  rw [hk] at h1
  intro t
  have ht : t = { y with flash := f, kitty := k, out := o } := e
  have hU : serveFlash y = t := rfl
  rw [hU] at h1
  clear_value t
  subst ht
  refine ⟨follows_trans ⟨ho, fun c b hc => stands_of_cause rfl hc⟩ hfol, ?_, fun hfalse => (h0 hfalse).trans hf, fun w hturn hw => h1 w hturn hw, fun v hv hkey => ?_, fun hall => ?_⟩
  · exact (congrArg ScorePart.writing hs).trans hw
  · exact hn.trans (by rw [hv, answeredWaits_single hkey])
  · rw [hnone hall]
    rfl

/-- The hourly ring with a page put at its slot, and its head past the slot (R536). -/
def ringWith (slot : Nat) (p : Page) (f : FlashPart) : FlashPart :=
  { f with hourly := putKey slot p f.hourly, hourlyHead := (slot + 1) % 1024 }

theorem pageWritten_idle {s : State} (h : s.score.writing = none) : pageWritten s = s := by
  unfold pageWritten
  rw [h]
theorem pageWritten_ends {s : State} {w : Writing} (h : s.score.writing = some w) : pageWritten s =
    serveFlash (finishWait .recCommit stDone 0 (leBytes 4 w.page.seq ++ leBytes 4 w.page.opEnd)
      (raise 15 0 { s with score := { s.score with writing := none }, flash := ringWith w.slot w.page s.flash })) := by
  unfold pageWritten
  rw [h]
  rfl

/-- The instant at which a write is found failed: at once when its readback fails, else 10 s after its start (R537). -/
def failedAt (back : Bool) (w : Writing) (s : State) : State := if back then s else moveTo (w.start + 10000000000000) s

theorem failedAt_score (back : Bool) (w : Writing) (s : State) : ∃ n, (failedAt back w s).score = { s.score with opPs := n } := by
  unfold failedAt moveTo
  split
  · exact ⟨s.score.opPs, rfl⟩
  · split
    · exact ⟨s.score.opPs, rfl⟩
    · split
      · exact ⟨_, rfl⟩
      · exact ⟨s.score.opPs, rfl⟩

theorem pageFailed_idle {s : State} (back : Bool) (h : s.score.writing = none) : pageFailed back s = s := by
  unfold pageFailed
  rw [h]
/-- The second try of a page: at the next slot, with the time of the new write (R537). -/
def retried (w : Writing) (y : State) : Writing :=
  { w with page := { w.page with written := opTime y }, slot := (w.slot + 1) % 1024, attempt := 2, start := y.now }
theorem pageFailed_retries {s : State} {w : Writing} (back : Bool) (h : s.score.writing = some w) (ha : w.attempt = 1) :
    let y := failedAt back w s
    pageFailed back s = bump (64 * 15 + 35) (burnHourly (retried w y) y.score.kind { y with
      score := { y.score with writing := some (retried w y) }
      flash := { y.flash with
        hourly := delKey ((w.slot + 1) % 1024) (putKey w.slot { w.page with torn := true } y.flash.hourly), hourlyHead := (w.slot + 1) % 1024 } }) := by
  unfold pageFailed
  rw [h]
  dsimp only
  rw [if_pos ha]
  rfl
theorem pageFailed_loses {s : State} {w : Writing} (back : Bool) (h : s.score.writing = some w) (ha : w.attempt ≠ 1) :
    let y := failedAt back w s
    let z := raise 15 2 { y with score := { y.score with writing := none }, flash := ringWith w.slot { w.page with torn := true } y.flash }
    pageFailed back s = serveFlash (finishWait .recCommit stInternal (freeVal z) [] (useFree z)) := by
  unfold pageFailed
  rw [h]
  dsimp only
  rw [if_neg ha]
  rfl

/-! ### Daily pages -/

/-- `t` is `s` but for the daily ring of the flash and outputs that are added. -/
def dailyOnly (s t : State) : Prop :=
  ∃ l h o, t = { s with flash := { s.flash with daily := l, dailyHead := h }, out := o } ∧ ∀ q ∈ s.out, q ∈ o

theorem dailyOnly_refl (s : State) : dailyOnly s s := ⟨s.flash.daily, s.flash.dailyHead, s.out, rfl, fun _ h => h⟩
theorem dailyOnly_trans {r s t : State} (h : dailyOnly r s) (g : dailyOnly s t) : dailyOnly r t := by
  obtain ⟨_, _, _, rfl, ho⟩ := h
  obtain ⟨l, d, o, rfl, hp⟩ := g
  exact ⟨l, d, o, rfl, fun q hq => hp q (ho q hq)⟩
theorem dailyOnly_foldl {α : Type} (f : State → α → State) (hf : ∀ s a, dailyOnly s (f s a)) (l : List α) (s : State) : dailyOnly s (l.foldl f s) := by
  induction l generalizing s with
  | nil => exact dailyOnly_refl s
  | cons a l ih => exact dailyOnly_trans (hf s a) (ih _)
theorem dailyOnly_emit (o : Output) (s : State) : dailyOnly s (emit o s) :=
  ⟨s.flash.daily, s.flash.dailyHead, _, rfl, fun _ h => List.mem_append_left _ h⟩
theorem dailyOnly_ring (s : State) (l : List (Nat × Page)) (h : Nat) : dailyOnly s { s with flash := { s.flash with daily := l, dailyHead := h } } :=
  ⟨l, h, s.out, rfl, fun _ hq => hq⟩
theorem dailyOnly_writeDaily (p : Page) (s : State) : dailyOnly s (writeDaily p s) :=
  dailyOnly_trans (dailyOnly_ring s _ _) (dailyOnly_trans (dailyOnly_emit _ _) (dailyOnly_emit _ _))
theorem writeDaily_burns (p : Page) (s : State) : ∃ b, Output.flash "DAILY" b ∈ (writeDaily p s).out := ⟨_, mem_emit _ _⟩
theorem dailyOnly_eraseTail (s : State) : dailyOnly s (eraseTail s) :=
  dailyOnly_trans (dailyOnly_foldl _ (fun _ _ => dailyOnly_emit _ _) _ s) (dailyOnly_ring _ _ _)
theorem dailyOnly_relocateOld (s : State) : dailyOnly s (relocateOld s) :=
  dailyOnly_trans (dailyOnly_foldl _ (fun _ _ => dailyOnly_writeDaily _ _) _ s) (dailyOnly_eraseTail _)
theorem follows_daily {r s t : State} (h : dailyOnly s t) (g : follows r s) : follows r t := by
  obtain ⟨_, _, _, rfl, ho⟩ := h
  exact follows_trans ⟨ho, fun c b hc => stands_of_cause rfl hc⟩ g
theorem score_of_daily {s t : State} (h : dailyOnly s t) : t.score = s.score := by
  obtain ⟨_, _, _, rfl, -⟩ := h
  rfl
theorem hourly_of_daily {s t : State} (h : dailyOnly s t) : t.flash.hourly = s.flash.hourly := by
  obtain ⟨_, _, _, rfl, -⟩ := h
  rfl

theorem dayCommit_idle {s : State} (h : s.score.dailyDue = false ∨ s.score.writing ≠ none ∨ kittyUses s = true ∨ scoreOn s = false) : dayCommit s = s := by
  unfold dayCommit
  refine if_pos ?_
  rcases h with h | h | h | h
  · simp [h]
  · simp [Option.ne_none_iff_isSome.mp h]
  · simp [h]
  · simp [h]
/-- A due daily commit writes the page, raises its cause and relocates old pages (R538, R539). -/
theorem dayCommit_writes {s : State} (hd : s.score.dailyDue = true) (hw : s.score.writing = none) (hk : kittyUses s = false) (hs : scoreOn s = true) :
    let t := dayCommit s
    causeStands 15 1 t ∧ t.score = { s.score with dailyDue := false } ∧ t.flash.hourly = s.flash.hourly ∧ ∃ b, Output.flash "DAILY" b ∈ t.out := by
  have e : dayCommit s = relocateOld (raise 15 1 (writeDaily (dayPage s) (updScore (fun x => { x with dailyDue := false })
      (if (dayPage s).omitted = 0 then s else raise 15 4 s)))) := by
    unfold dayCommit
    exact if_neg (by simp [hd, hw, hk, hs])
  have hx : base (if (dayPage s).omitted = 0 then s else raise 15 4 s) = base s := by rw [base_ite, base_raise15, ite_self]
  intro t
  have ht : t = _ := e
  clear_value t
  subst ht
  revert hx
  generalize (if (dayPage s).omitted = 0 then s else raise 15 4 s) = x
  intro hx
  have hD := dailyOnly_relocateOld (raise 15 1 (writeDaily (dayPage s) (updScore (fun x => { x with dailyDue := false }) x)))
  have hW := dailyOnly_writeDaily (dayPage s) (updScore (fun x => { x with dailyDue := false }) x)
  obtain ⟨b, hb⟩ := writeDaily_burns (dayPage s) (updScore (fun x => { x with dailyDue := false }) x)
  have hF := follows_daily hD (follows_raise 15 1 (follows_refl _))
  refine ⟨?_, ?_, ?_, b, hF.1 _ hb⟩
  · exact (follows_daily hD (follows_refl _)).2 15 1 (stands_raise_self 15 1 _ (by decide))
  · rw [score_of_daily hD, raise15_score, score_of_daily hW]
    exact congrArg (fun v : ScorePart => { v with dailyDue := false }) (score_of_base hx)
  · rw [hourly_of_daily hD, raise_flash, hourly_of_daily hW]
    have hf : x.flash = s.flash := flash_of_base hx
    exact congrArg FlashPart.hourly hf

/-! ### The statement -/

theorem whileRunning_true {s : State} (h : running s = true) (f : State → State) : whileRunning f s = f s := by
  unfold whileRunning
  rw [h]
  rfl
theorem running_begin {t : Nat} {s : State} (h : running s = true) : running (begin_ t s) = true := (running_moveTo t _).trans h

/-- A hand that closes at the instant of `z`: the number goes on, a refusal raises its cause, and a chip of a pair captures (R27, R29). -/
theorem capture_closes (temp ph : Int) (z : State) :
    let t := capture (closeHand (sampled temp ph z))
    t.time = z.time ∧ t.now = z.now ∧ t.boot.tempMax = temp ∧ t.hand.number = (z.hand.number + 1) % 2 ^ 32 ∧ t.hand.lastTick = some (z.now / tickPs) ∧
    (z.svc.refusalHand = some z.hand.number → causeStands 9 0 t) ∧ (z.work.pair.mode ≠ 1 → t.pair.captured = z.pair.captured) ∧
    (z.work.pair.mode = 1 → t.pair.boundary = z.now ∧ t.pair.snapSent = false ∧
      ∃ c, t.pair.captured = some c ∧ c.hand = t.hand.number ∧ c.ps = z.now ∧ c.rate = z.time.rate) := by
  have href : z.svc.refusalHand = some z.hand.number → causeStands 9 0 (closeHand (sampled temp ph z)) := fun hr => by
    have hp := plain_handSamples temp ph { z with boot := { z.boot with tempMax := temp }, hand := { z.hand with lastTick := some (z.now / tickPs) } }
    refine closeHand_refused ?_
    unfold sampled
    rw [svc_of_plain hp, hand_of_plain hp]
    exact hr
  have hc := closeHand_sampled temp ph z
  revert href hc
  generalize closeHand (sampled temp ph z) = x
  intro href hc
  have hh := hand_of_plain hc
  have hw : x.work = z.work := (work_of_plain hc).trans rfl
  have htm : x.time = z.time := (time_of_plain hc).trans rfl
  have hnw : x.now = z.now := (now_of_plain hc).trans rfl
  have htp : x.boot.tempMax = temp := (congrArg BootPart.tempMax (boot_of_plain hc)).trans rfl
  have hnb : x.hand.number = (z.hand.number + 1) % 2 ^ 32 := (congrArg HandPart.number hh).trans rfl
  have hlt : x.hand.lastTick = some (z.now / tickPs) := (congrArg HandPart.lastTick hh).trans rfl
  by_cases hm : z.work.pair.mode = 1
  · obtain ⟨gs, p, o, e, hb, hn, hcap⟩ := capture_paired (s := x) (by rw [hw, hm])
    rw [e]
    refine ⟨htm, hnw, htp, hnb, hlt, fun hr => stands_of_cause rfl (href hr), fun hne => absurd hm hne, fun _ => ⟨hb.trans hnw, hn, _, hcap, rfl, hnw, ?_⟩⟩
    exact congrArg TimePart.rate htm
  · have hpr : x.pair = z.pair := (pair_of_plain hc).trans rfl
    rw [capture_alone (by rw [hw]; exact hm)]
    exact ⟨htm, hnw, htp, hnb, hlt, href, fun _ => congrArg PairRun.captured hpr, fun h1 => absurd h1 hm⟩
/-- The clause of HAND_BOUNDARY. -/
theorem handBoundary_closes {temp ph : Int} {s : State} (h : running s = true) :
    let z := toBoundary s
    let t := handBoundary temp ph s
    t.time = z.time ∧ t.now = z.now ∧ t.boot.tempMax = temp ∧ t.hand.number = (s.hand.number + 1) % 2 ^ 32 ∧ t.hand.lastTick = some (z.now / tickPs) ∧
    (s.svc.refusalHand = some s.hand.number → causeStands 9 0 t) ∧ (s.work.pair.mode ≠ 1 → t.pair.captured = s.pair.captured) ∧
    (s.work.pair.mode = 1 → t.pair.boundary = z.now ∧ t.pair.snapSent = false ∧
      ∃ c, t.pair.captured = some c ∧ c.hand = t.hand.number ∧ c.ps = z.now ∧ c.rate = z.time.rate) := by
  have hc := capture_closes temp ph (toBoundary s)
  rw [toBoundary_hand, toBoundary_svc, toBoundary_pair, toBoundary_work] at hc
  rw [handBoundary_running h]
  exact hc

/-- Before an hour's commit only time has passed, to the hour boundary (R536). -/
def atHour (s : State) : State := if hourDue s then s else moveTo (s.now + (hourPs - s.score.opPs % hourPs)) s

theorem atHour_only (s : State) : ∃ n v c k, atHour s = { s with now := n, time := v, score := { s.score with opPs := c }, incSum := k } := by
  unfold atHour moveTo
  split
  · exact ⟨s.now, s.time, s.score.opPs, s.incSum, rfl⟩
  · split
    · exact ⟨s.now, s.time, s.score.opPs, s.incSum, rfl⟩
    · split
      · exact ⟨_, _, _, _, rfl⟩
      · exact ⟨_, s.time, s.score.opPs, s.incSum, rfl⟩
theorem hourlyCommit_running {s : State} (h : running s = true) : hourlyCommit s = hourCommit (atHour s) := by
  unfold hourlyCommit atHour
  rw [h, if_neg (by decide)]
  split <;> rfl
theorem kept_atHour (s : State) : kept (atHour s) = kept s := by
  unfold atHour
  rw [kept_ite, kept_moveTo, ite_self]

/-- The clause of HOURLY_COMMIT where the Scorecard accumulates. -/
theorem hourlyCommit_commits {s : State} (hr : running s = true) (h : scoreOn s = true) :
    let z := atHour s
    let t := hourlyCommit s
    t.score.credits = min 24 (s.score.credits + 1) ∧ t.score.opStart = opTime z ∧ t.score.carry = [] ∧
    t.score.dailyDue = (s.score.dailyDue || opTime z % 24576 == 0) ∧
    (∀ w, s.score.writing = some w → t.score.writing = some w ∧
      ∃ v, t.score.waiting = s.score.waiting ++ [v] ∧ v.page.opStart = s.score.opStart ∧ v.page.opEnd = opTime z) ∧
    (kittyUses s = true → s.score.writing = none →
      ∃ v, t.score.writing = none ∧ t.score.waiting = s.score.waiting ++ [v] ∧ v.page.opStart = s.score.opStart ∧ v.page.opEnd = opTime z) ∧
    (kittyUses s = false → s.score.writing = none → s.score.waiting = [] →
      ∃ v b, t.score.writing = some v ∧ t.score.waiting = [] ∧ v.page.opStart = s.score.opStart ∧ v.page.opEnd = opTime z ∧
        v.slot = s.flash.hourlyHead % 1024 ∧ .flash "HOURLY" b ∈ t.out) := by
  intro z t
  obtain ⟨n, v, c, k, hz⟩ := atHour_only s
  have hs : z.score = { s.score with opPs := c } := congrArg State.score hz
  have hw : z.work = s.work := (congrArg State.work hz).trans rfl
  have hk : z.kitty = s.kitty := (congrArg State.kitty hz).trans rfl
  have hf : z.flash = s.flash := (congrArg State.flash hz).trans rfl
  have hon : scoreOn z = true := (scoreOn_of hw ((congrArg ScorePart.kind hs).trans rfl)).trans h
  have ht : t = hourCommit z := hourlyCommit_running hr
  have hv : (hourPage (credited z)).page.opStart = s.score.opStart := (congrArg ScorePart.opStart hs).trans rfl
  have he : (hourPage (credited z)).page.opEnd = opTime z := rfl
  obtain ⟨h1, h2, h3, h4, h5, h6, h7⟩ := hourCommit_commits hon
  rw [← ht] at h1 h2 h3 h4 h5 h6 h7
  simp only [hs] at h1 h4 h5 h6 h7
  rw [kittyUses_of hk] at h6 h7
  rw [hf] at h7
  refine ⟨h1, h2, h3, h4, fun w e => ?_, fun e0 e1 => ?_, fun e0 e1 e2 => h7 e0 e1 e2⟩
  · exact ⟨(h5 w e).1, _, (h5 w e).2, hv, he⟩
  · exact ⟨_, (h6 e0 e1).1, (h6 e0 e1).2, hv, he⟩
theorem hourlyCommit_off {s : State} (hr : running s = true) (h : scoreOn s = false) :
    hourlyCommit s = { atHour s with score := { (atHour s).score with credits := min 24 (s.score.credits + 1), opStart := opTime (atHour s) } } := by
  obtain ⟨n, v, c, k, hz⟩ := atHour_only s
  have hs : (atHour s).score = { s.score with opPs := c } := congrArg State.score hz
  have hw : (atHour s).work = s.work := (congrArg State.work hz).trans rfl
  rw [hourlyCommit_running hr, hourCommit_off ((scoreOn_of hw ((congrArg ScorePart.kind hs).trans rfl)).trans h), hs]
theorem hourlyCommit_stopped {s : State} (h : running s = false) : hourlyCommit s = s := by
  unfold hourlyCommit
  rw [h]
  rfl
theorem handBoundary_stopped {temp ph : Int} {s : State} (h : running s = false) : handBoundary temp ph s = s := by
  unfold handBoundary
  rw [h]
  rfl

theorem plain_flash_kitty {s t : State} (h : plain t = plain s) (f : FlashPart) (k : KittyPart) :
    plain { t with flash := f, kitty := k } = plain { s with flash := f, kitty := k } := by
  have e : ∀ x : State, plain { x with flash := f, kitty := k } = { plain x with flash := f, kitty := k } := fun _ => rfl
  rw [e, e, h]
theorem pageWritten_clause {x : State} {w : Writing} (hw : x.score.writing = some w) (hq : x.score.waiting = []) :
    let t := pageWritten x
    causeStands 15 0 t ∧ t.score.writing = none ∧
    (∀ k, kittyTurn x = true → x.kitty.writing = some k → kittyUses t = true ∧ Output.flash "KITTY" k.image ∈ t.out ∧ flashBank t k.bank = []) ∧
    (kittyTurn x = false → t.flash = ringWith w.slot w.page x.flash) ∧
    (∀ v, x.host.waits = [v] → v.key = .recCommit → t.host.waits = []) ∧
    ((∀ v ∈ x.host.waits, v.key ≠ .recCommit) → plain t = plain { x with flash := t.flash, kitty := t.kitty }) := by
  have hb : base (raise 15 0 { x with score := { x.score with writing := none }, flash := ringWith w.slot w.page x.flash }) =
      base { x with score := { x.score with writing := none }, flash := ringWith w.slot w.page x.flash } := base_raise15 0 _
  have hc := stands_raise_self 15 0 { x with score := { x.score with writing := none }, flash := ringWith w.slot w.page x.flash } (by decide)
  rw [pageWritten_ends hw]
  revert hb hc
  generalize raise 15 0 { x with score := { x.score with writing := none }, flash := ringWith w.slot w.page x.flash } = y
  intro hb hc
  have hs := score_of_base hb
  have hk : y.kitty = x.kitty := (kitty_of_base hb).trans rfl
  have hh : y.host.waits = x.host.waits := (congrArg (fun z : State => z.host.waits) hb).trans rfl
  have hT : kittyTurn y = kittyTurn x := kittyTurn_of hk ((congrArg ScorePart.waiting hs).trans rfl)
  obtain ⟨e1, e2, e3, e4, e5, e6⟩ := endPage (s := y) stDone 0 (leBytes 4 w.page.seq ++ leBytes 4 w.page.opEnd)
    (congrArg ScorePart.writing hs) ((congrArg ScorePart.waiting hs).trans hq)
  rw [hT] at e3 e4
  rw [hk] at e4
  rw [hh] at e5 e6
  refine ⟨e1.2 15 0 hc, e2, e4, fun h0 => (e3 h0).trans (flash_of_base hb), e5, fun hall => (e6 hall).trans ?_⟩
  exact plain_flash_kitty (plain_base hb) _ _

theorem pageFailed_retries_clause {x : State} {w : Writing} (back : Bool) (hw : x.score.writing = some w) (ha : w.attempt = 1) :
    let y := failedAt back w x
    let t := pageFailed back x
    let k := (w.slot + 1) % 1024
    (∃ b, Output.flash "HOURLY" b ∈ t.out) ∧
    plain t = plain { y with flash := { y.flash with hourly := delKey k (putKey w.slot { w.page with torn := true } y.flash.hourly), hourlyHead := k } } ∧
    t.score = { y.score with writing := some (retried w y) } := by
  intro y t k
  obtain ⟨b, o, hb, hm, -⟩ := burnHourly_only (retried w y) y.score.kind { y with
    score := { y.score with writing := some (retried w y) }
    flash := { y.flash with hourly := delKey k (putKey w.slot { w.page with torn := true } y.flash.hourly), hourlyHead := k } }
  have ht : t = _ := pageFailed_retries back hw ha
  rw [ht, hb]
  exact ⟨⟨b, hm⟩, rfl, rfl⟩
theorem pageFailed_loses_clause {x : State} {w : Writing} (back : Bool) (hw : x.score.writing = some w) (ha : w.attempt ≠ 1) (hq : x.score.waiting = []) :
    let y := failedAt back w x
    let t := pageFailed back x
    causeStands 15 2 t ∧ t.score.writing = none ∧ (kittyTurn y = false → t.flash = ringWith w.slot { w.page with torn := true } y.flash) := by
  intro y
  obtain ⟨n, hs⟩ := failedAt_score back w x
  have hb := base_raise15 2 { y with score := { y.score with writing := none }, flash := ringWith w.slot { w.page with torn := true } y.flash }
  have hc := stands_raise_self 15 2 { y with score := { y.score with writing := none }, flash := ringWith w.slot { w.page with torn := true } y.flash } (by decide)
  rw [pageFailed_loses back hw ha]
  revert hb hc
  change (base (raise 15 2 { y with score := { y.score with writing := none }, flash := ringWith w.slot { w.page with torn := true } y.flash }) = _ → _ → _)
  generalize raise 15 2 { y with score := { y.score with writing := none }, flash := ringWith w.slot { w.page with torn := true } y.flash } = z
  intro hb hc
  have hz := score_of_base hb
  have hzq : (useFree z).score.waiting = [] := (congrArg ScorePart.waiting hz).trans ((congrArg ScorePart.waiting hs).trans hq)
  have hT : kittyTurn (useFree z) = kittyTurn y := kittyTurn_of ((kitty_of_base hb).trans rfl) ((congrArg ScorePart.waiting hz).trans rfl)
  obtain ⟨e1, e2, e3, -⟩ := endPage (s := useFree z) stInternal (freeVal z) [] (congrArg ScorePart.writing hz) hzq
  rw [hT] at e3
  exact ⟨e1.2 15 2 (stands_of_cause rfl hc), e2, fun h0 => (e3 h0).trans (flash_of_base hb)⟩
theorem kept_failedAt (back : Bool) (w : Writing) (s : State) : kept (failedAt back w s) = kept s := by
  unfold failedAt
  rw [kept_ite, kept_moveTo, ite_self]

/-- Settles O53: each row goes on from the state on its instant, and what it does there is said by the lemma of its operation. -/
theorem handsAndPages : Obligations.HandsAndPages := by
  unfold Obligations.HandsAndPages
  refine ⟨fun temp ph s => ⟨fun h => ?_, fun h => ⟨_, rfl, ?_, handBoundary_closes h⟩⟩, fun s => ⟨fun h => ?_, fun h hs => ?_, fun h hs => ⟨_, rfl, ?_, ?_⟩⟩,
    fun t s h => ?_, fun t back s h => ?_, fun t s h => ?_⟩
  · exact congrArg Outcome.next (handBoundary_stopped h)
  · exact (kept_of_event (c := .handBoundary temp ph) rfl rfl).trans (kept_toBoundary { s with out := [] }).symm
  · exact congrArg Outcome.next (hourlyCommit_stopped h)
  · exact congrArg Outcome.next (hourlyCommit_off h hs)
  · exact (kept_of_event (c := .hourlyCommit) rfl rfl).trans (kept_atHour { s with out := [] }).symm
  · exact hourlyCommit_commits h hs
  · have hk : kept (whileRunning pageWritten (begin_ t s)) = kept (begin_ t s) :=
      (kept_of_event (c := .pageWritten t) rfl rfl).trans (kept_begin_ t s).symm
    have hx : exec (.pageWritten t) s = .next (whileRunning pageWritten (begin_ t s)) := rfl
    rw [whileRunning_true (running_begin h)] at hx hk
    rw [hx]
    intro x
    refine ⟨fun h0 => congrArg Outcome.next (pageWritten_idle h0), fun w hw hq => ⟨_, rfl, hk, ?_⟩⟩
    obtain ⟨e1, e2, e3, e4, e5, e6⟩ := pageWritten_clause hw hq
    exact ⟨e1, e2, e3, e4, e5, e6⟩
  · have hk : kept (whileRunning (pageFailed back) (begin_ t s)) = kept (begin_ t s) :=
      (kept_of_event (c := .pageWriteTimeout t back) rfl rfl).trans (kept_begin_ t s).symm
    have hx : exec (.pageWriteTimeout t back) s = .next (whileRunning (pageFailed back) (begin_ t s)) := rfl
    rw [whileRunning_true (running_begin h)] at hx hk
    rw [hx]
    intro x
    refine ⟨fun h0 => congrArg Outcome.next (pageFailed_idle back h0), fun w hw => ⟨fun ha => ?_, fun ha hq => ⟨_, rfl, ?_, pageFailed_loses_clause back hw ha hq⟩⟩⟩
    · obtain ⟨⟨b, hm⟩, hp, hs⟩ := pageFailed_retries_clause back hw ha
      exact ⟨_, b, rfl, hm, hp, hs⟩
    · exact hk.trans (kept_failedAt back w x).symm
  · have hk : kept (whileRunning dayCommit (begin_ t s)) = kept (begin_ t s) :=
      (kept_of_event (c := .dailyCommit t) rfl rfl).trans (kept_begin_ t s).symm
    have hx : exec (.dailyCommit t) s = .next (whileRunning dayCommit (begin_ t s)) := rfl
    rw [whileRunning_true (running_begin h)] at hx hk
    rw [hx]
    intro x
    refine ⟨fun h0 => congrArg Outcome.next (dayCommit_idle h0), fun hd hw hkt hs => ?_⟩
    obtain ⟨e1, e2, e3, b, hm⟩ := dayCommit_writes hd hw hkt hs
    exact ⟨_, b, rfl, hk, e1, e2, e3, hm⟩

end Sys2Proof.Machine
end
section
/-! PROOFS. What a change of role leaves alone: the instant, and the parts of boot, root and pair. -/
namespace Sys2Proof.Machine
open Sys2Proof Host

theorem steady_holdClockFails (o : Nat) (s : State) : steady (holdClockFails o s) = steady s := by
  simp only [holdClockFails, steady_mk, steady_eta, steady_ite, ite_self]
theorem steady_staleMember (o c : Nat) (s : State) : steady (staleMember o c s) = steady s := by
  unfold staleMember
  split <;> rfl
theorem steady_refEvent (o e : Nat) (c : Option Nat) (s : State) : steady (refEvent o e c s) = steady s := by
  unfold refEvent
  split <;> simp only [steady_raiseIdx, steady_updRef]
/-- The qualification of a source moves its reference, the holdover and the causes (R82). -/
theorem steady_applyCause (o c : Nat) (s : State) : steady (applyCause o c s) = steady s := by
  unfold applyCause
  dsimp only
  split <;> simp only [startWtr, steady_ite, steady_refEvent, steady_updRef, steady_staleMember, steady_holdClockFails, ite_self]
theorem steady_updPtp (f : PtpPart → PtpPart) (s : State) : steady (updPtp f s) = steady s := rfl
theorem steady_setBindState (i p : Nat) (st : PtpState) (s : State) : steady (setBindState i p st s) = steady s := by
  unfold setBindState
  rw [steady_ite, steady_raiseIdx, updBind, steady_updPtp, ite_self]
theorem steady_setCheck (o k : Nat) (b : Bool) (s : State) : steady (setCheck o k b s) = steady s := by
  unfold setCheck
  rw [steady_ite, steady_applyCause, ite_self]
theorem steady_ptpHealth (i : Nat) (ok : Bool) (s : State) : steady (ptpHealth i ok s) = steady s := by
  unfold ptpHealth
  dsimp only
  rw [steady_ite, steady_evalAll, steady_setCheck, steady_updRef, ite_self]
theorem steady_loseMaster (i p : Nat) (s : State) : steady (loseMaster i p s) = steady s :=
  (steady_raiseIdx 10 2 i _).trans (steady_ptpHealth i false _)
theorem steady_startBind (i p : Nat) (s : State) : steady (startBind i p s) = steady s := by
  unfold startBind
  split <;> simp only [steady_ite, steady_updPtp, steady_setBindState, updBind, ite_self]
/-- Slave-capable ports restart in their own part (R339). -/
theorem steady_restartSlaves (s : State) : steady (restartSlaves s) = steady s := by
  refine steady_foldl _ (fun x b => ?_) _ s
  split
  · dsimp only
    rw [steady_ite, steady_startBind, steady_setBindState, updBind, steady_updPtp]
    split
    · rfl
    · split
      · rw [steady_ite, steady_loseMaster, ite_self]
      · rfl
  · rfl
theorem steady_releaseChannels (s : State) : steady (releaseChannels s) = steady s := by
  unfold releaseChannels
  dsimp only
  rw [steady_ite, steady_raise, ite_self]
  refine steady_foldl _ (fun x c => ?_) _ s
  rw [steady_updChan, disarmChan, steady_updChan]
theorem steady_takeOver (b : Option Nat) (was : SyncState) (s : State) : steady (takeOver b was s) = steady s := by
  unfold takeOver
  split
  · exact steady_freeAll s
  · split
    · rfl
    · dsimp only
      simp only [steady_mk, steady_eta, steady_ite, steady_setRate, steady_updDpll, ite_self]

theorem pair_of_steady {s t : State} (h : steady t = steady s) : t.pair = s.pair := (Prod.mk.inj (Prod.mk.inj (Prod.mk.inj h).2).2).2
theorem steady_startSelectors (s : State) : steady (startSelectors s) = steady s := rfl
theorem steady_fillBuckets (s : State) : steady (fillBuckets s) = steady s := rfl

/-- A new Declarer's pair part: the enable is on, and the counts stay (R410). -/
theorem roleDeclarer_pair (s : State) : (roleDeclarer s).pair =
    { s.pair with enable := true, edge := none, sync := if s.pair.heard then .paired else .alone, captured := none } := by
  refine (pair_of_steady (s := updPair (fun p => { p with
    enable := true, edge := none, sync := if p.heard then .paired else .alone, captured := none }) s) ?_).trans rfl
  unfold roleDeclarer
  rw [steady_settleBound, steady_evalAll, steady_fillBuckets, steady_restartSlaves, steady_releaseChannels, steady_startSelectors, steady_takeOver]

end Sys2Proof.Machine
end
section
/-! PROOFS. A chip that joins as the Dummy keeps its outputs and its causes (R402, R407). -/
namespace Sys2Proof.Machine
open Sys2Proof Host

theorem follows_bump (n : Nat) {r s : State} (h : follows r s) : follows r (bump n s) := follows_same h rfl rfl
theorem follows_setRate (d : Nat) (v : Int) {r s : State} (h : follows r s) : follows r (setRate d v s) := by
  have hTime : follows r (if d = 0 then { s with time := { s.time with rate := (clampI (rateMin : Int) (rateMax : Int) v).toNat } }
      else { s with time := { s.time with fdomRate := s.time.fdomRate.set (d - 1) (clampI (rateMin : Int) (rateMax : Int) v).toNat } }) :=
    follows_ite (follows_same h rfl rfl) (follows_same h rfl rfl)
  exact follows_ite (follows_raise 4 12 (follows_bump _ (follows_same hTime rfl rfl))) (follows_bump _ (follows_same hTime rfl rfl))
theorem follows_pauseLearning {r s : State} (h : follows r s) : follows r (pauseLearning s) := by
  unfold pauseLearning
  split
  · exact h
  · exact follows_same h rfl rfl
theorem follows_dpllNone (d : Nat) (b : Option Nat) {r s : State} (h : follows r s) : follows r (dpllNone d b s) := by
  have hr : follows r (if (dpllCfg s d).holdSource = 0 then setRate d (holdRate d s) s else s) := follows_ite (follows_setRate d _ h) h
  unfold dpllNone
  dsimp only
  refine follows_ite h (follows_ite ?_ (follows_setRate d rateNom (follows_same h rfl rfl)))
  refine follows_ite (follows_raise 4 7 (follows_same (follows_pauseLearning ?_) rfl rfl)) (follows_raise 4 _ (follows_same hr rfl rfl))
  exact follows_ite (follows_same hr rfl rfl) (follows_same hr rfl rfl)
theorem follows_dpllSwitch (d : Nat) (t : HeldTerms) {r s : State} (h : follows r s) : follows r (dpllSwitch d t s) :=
  follows_ite (follows_same h rfl rfl) (follows_same h rfl rfl)
theorem follows_dummySel (d : Nat) {r s : State} (h : follows r s) : follows r (dummySel d s) := by
  unfold dummySel
  dsimp only
  refine follows_ite h ?_
  split
  · exact follows_dpllNone d _ (follows_same h rfl rfl)
  · exact follows_ite (follows_dpllSwitch d _ (follows_same h rfl rfl)) (follows_same h rfl rfl)

theorem work_of_kept {s t : State} (h : kept t = kept s) : t.work = s.work := congrArg (fun x => x.2.2) h
theorem isDummy_of {s t : State} (hk : kept t = kept s) (hp : steady t = steady s) : isDummy t = isDummy s := by
  simp only [isDummy, work_of_kept hk, pair_of_steady hp]
theorem isDummy_dummySel (d : Nat) (s : State) : isDummy (dummySel d s) = isDummy s := isDummy_of (kept_dummySel d s) (steady_dummySel d s)
theorem evalSel_dummy (n d : Nat) {s : State} (h : isDummy s = true) : evalSel (n + 1) d s = dummySel d s := by
  unfold evalSel
  rw [if_pos h]

/-- The selectors of a Dummy follow the pair's state alone. -/
theorem follows_evalSels (l : List Nat) {r s : State} (hd : isDummy s = true) (h : follows r s) : follows r (l.foldl (fun s d => evalSel 40 d s) s) := by
  induction l generalizing s with
  | nil => exact h
  | cons d l ih =>
    have e : evalSel 40 d s = dummySel d s := evalSel_dummy 39 d hd
    rw [List.foldl_cons, e]
    exact ih ((isDummy_dummySel d s).trans hd) (follows_dummySel d h)
theorem follows_settleBound {r s : State} (h : follows r s) : follows r (settleBound s) := by
  have h1 : follows r (if (counterBound s).isNone && !s.bound.wasUnbounded then raise 5 7 s else s) := follows_ite (follows_raise 5 7 h) h
  have h2 := follows_ite (c := (aboveAlert s && !s.bound.wasAbove) = true) (follows_raise 5 8 h1) h1
  exact follows_same (follows_ite (c := (classOf s != s.hold.clockClass) = true) (follows_raise 4 11 h2) h2) rfl rfl
theorem follows_evalAll {r s : State} (hd : isDummy s = true) (h : follows r s) : follows r (evalAll s) :=
  follows_settleBound (follows_same (follows_evalSels _ hd h) rfl rfl)

theorem follows_freeAll {r s : State} (h : follows r s) : follows r (freeAll s) := by
  unfold freeAll
  dsimp only
  generalize hy : List.foldl _ s _ = y
  have hf : follows r y := by
    rw [← hy]
    refine follows_foldl _ (fun x d => ?_) _ h
    exact follows_same (follows_refl x) rfl rfl
  exact follows_same hf rfl rfl
theorem follows_updChan (c : Nat) (f : TdcChan → TdcChan) {r s : State} (h : follows r s) : follows r (updChan c f s) := follows_same h rfl rfl
theorem follows_armNow (c : Nat) (f : Int) {r s : State} (h : follows r s) : follows r (armNow c f s) :=
  follows_ite (follows_updChan c _ (follows_updChan c _ h)) (follows_updChan c _ h)
theorem follows_ownChannels {r s : State} (h : follows r s) : follows r (ownChannels s) := by
  unfold ownChannels
  dsimp only
  generalize hy : List.foldl _ s _ = y
  have hf : follows r y := by
    rw [← hy]
    refine follows_foldl _ (fun x e => ?_) _ h
    exact follows_updChan _ _ (follows_armNow _ _ (follows_updChan _ _ (follows_updChan _ _ (follows_refl x))))
  exact follows_same hf rfl rfl
/-- Entry to JOINING of a chip in pair mode without the enable. -/
theorem follows_enterJoining {r s : State} (hm : s.work.pair.mode = 1) (he : s.pair.enable = false) (h : follows r s) : follows r (enterJoining s) := by
  have hd : isDummy s = true := by simp [isDummy, hm, he]
  let y := updPair (fun p => { p with sync := .joining, joinCount := 0, timeSet := false, lockRun := 0, applied := none }) s
  have hy : isDummy y = true := hd
  have hz : isDummy (ownChannels (freeAll (dropSlew y))) = isDummy y := isDummy_of
    ((kept_ownChannels _).trans ((kept_freeAll _).trans (kept_dropSlew _))) ((steady_ownChannels _).trans ((steady_freeAll _).trans (steady_dropSlew _)))
  exact follows_settleBound (follows_evalAll (hz.trans hy) (follows_ownChannels (follows_freeAll (follows_same h rfl rfl))))

end Sys2Proof.Machine
end
section
/-! PROOFS. Claims and the shared-output enable (R30, R31, R384 to R393, R415, R416). -/
namespace Sys2Proof.Machine
open Sys2Proof Host

/-! ### What a change of the pair's part does -/

/-- Whether the enable may be on is evaluated into its next edge only (R30, R391). -/
theorem settleEnable_only (d : Nat) (s : State) : ∃ e, settleEnable d s = updPair (fun p => { p with edge := e }) s := by
  unfold settleEnable updPair
  dsimp only
  split
  · exact ⟨none, rfl⟩
  · split
    · split
      · exact ⟨s.pair.edge, rfl⟩
      · exact ⟨_, rfl⟩
    · exact ⟨_, rfl⟩
/-- An enable that no longer stands as R30 has it falls at once, or rises after the delay (R391). -/
theorem settleEnable_edge (d : Nat) {s : State} {v : Bool} (hv : mayEnable s.pair = v) (he : s.pair.enable = !v) (hn : s.pair.edge = none) :
    (settleEnable d s).pair.edge = some (v, s.now + if v then d else 0) := by
  unfold settleEnable updPair
  dsimp only
  rw [hv, he, hn]
  cases v <;> rfl
theorem settleSeize_only (s : State) : ∃ b, settleSeize s = updPair (fun p => { p with seizing := b }) s := by
  unfold settleSeize
  dsimp only
  generalize (s.pair.seizing && _) = c
  cases c
  · exact ⟨s.pair.seizing, rfl⟩
  · exact ⟨false, rfl⟩

/-- A claim of the partner is in force when it is received; the enable is due where R30 asks for a change (R390, R391). -/
theorem takeClaim_forces (c : Nat) (q : Bool) (s : State) :
    let t := takeClaim c q s
    t = { s with pair := t.pair } ∧ t.pair.rx = some c ∧ t.pair.quiet = q ∧ t.pair.absent = false ∧ t.pair.rxAt = s.now ∧ t.pair.enable = s.pair.enable ∧
    (s.pair.live = true → c < s.pair.force → s.pair.enable = false → s.pair.edge = none → t.pair.edge = some (true, s.now + if q then 0 else 150000)) ∧
    (s.pair.force ≤ c → s.pair.enable = true → s.pair.edge = none → t.pair.edge = some (false, s.now)) := by
  intro t
  obtain ⟨b, hb⟩ := settleSeize_only (updPair (fun p => { p with rx := some c, quiet := q, absent := false, rxAt := s.now }) s)
  have ht : t = settleEnable (if q then 0 else 150000) (updPair (fun p => { p with rx := some c, quiet := q, absent := false, rxAt := s.now, seizing := b }) s) :=
    congrArg (settleEnable _) hb
  obtain ⟨e, he⟩ := settleEnable_only (if q then 0 else 150000) (updPair (fun p => { p with rx := some c, quiet := q, absent := false, rxAt := s.now, seizing := b }) s)
  have htp : t = _ := ht.trans he
  refine ⟨by rw [htp]; rfl, by rw [htp]; rfl, by rw [htp]; rfl, by rw [htp]; rfl, by rw [htp]; rfl, by rw [htp]; rfl, fun hl hc h0 hn => ?_, fun hc h1 hn => ?_⟩
  · rw [ht]
    exact settleEnable_edge _ (v := true) (by simp [mayEnable, updPair, hl, hc]) h0 hn
  · rw [ht]
    exact settleEnable_edge _ (v := false) (by simp [mayEnable, updPair, Nat.not_lt.mpr hc]) h1 hn

/-! ### Own claims -/

/-- An answer to a command that waits keeps the instant and the pair's state but for the record of mirrored commands. -/
theorem finishWait_leaves (k : WaitKey) (st d : Nat) (data : Bytes) (s : State) :
    (finishWait k st d data s).now = s.now ∧ ∃ l op tag z, (finishWait k st d data s).pair = (mirrored s l op tag z).pair := by
  have h := repliedFrom_finishWait k st d data s
  obtain ⟨l, op, tag, z, hp⟩ := pair_of_replied h
  exact ⟨(now_of_replied h).trans rfl, l, op, tag, z, hp.trans rfl⟩
theorem claimSetDone_leaves (s : State) :
    follows s (claimSetDone s) ∧ (claimSetDone s).now = s.now ∧ ∃ l op tag z, (claimSetDone s).pair = (mirrored s l op tag z).pair := by
  unfold claimSetDone
  split
  · obtain ⟨hn, hp⟩ := finishWait_leaves .claimSet stDone 0 (leBytes 1 s.pair.force ++ zeros 3) s
    exact ⟨follows_finishWait _ _ _ _ (follows_refl s), hn, hp⟩
  · exact ⟨follows_refl s, rfl, s.pair.mirrors, s.pair.mirrorOpcode, s.pair.mirrorTag, s.pair.mirrorStatus, rfl⟩

/-- A frame that has been sent: a claim that is not higher is in force, a higher one takes force 220 ns later (R391). -/
theorem claimSent_forces (c : Nat) (s : State) :
    let t := claimSent c s
    follows s t ∧ t.pair.readFails = s.pair.readFails ∧ t.pair.live = s.pair.live ∧ t.pair.sent = c ∧
    (c ≤ s.pair.force → t.pair.force = c ∧ t.pair.rising = none) ∧
    (s.pair.force < c → t.pair.force = s.pair.force ∧ t.pair.rising = some (c, s.now + 220000)) := by
  intro t
  let y : State := updPair (fun p =>
    let p := { p with sent := c }
    if c > p.force then { p with rising := some (c, s.now + 220000) } else { p with force := c, rising := none }) s
  obtain ⟨e, he⟩ := settleEnable_only 0 y
  obtain ⟨hf, -, l, op, tag, z, hp⟩ := claimSetDone_leaves (updPair (fun p => { p with edge := e }) y)
  have ht : t = claimSetDone (updPair (fun p => { p with edge := e }) y) := congrArg claimSetDone he
  rw [← ht] at hf hp
  have hy : y.pair = if c > s.pair.force then { s.pair with sent := c, rising := some (c, s.now + 220000) }
      else { s.pair with sent := c, force := c, rising := none } := rfl
  have hFol : follows s t := follows_trans hf (follows_same (follows_refl s) rfl rfl)
  by_cases hc : c > s.pair.force
  · rw [if_pos hc] at hy
    have hq : t.pair = _ := hp.trans (congrArg (fun p : PairRun => { p with edge := e, mirrors := l, mirrorOpcode := op, mirrorTag := tag, mirrorStatus := z }) hy)
    rw [hq]
    exact ⟨hFol, rfl, rfl, rfl, fun hle => absurd hc (Nat.not_lt.mpr hle), fun _ => ⟨rfl, rfl⟩⟩
  · rw [if_neg hc] at hy
    have hq : t.pair = _ := hp.trans (congrArg (fun p : PairRun => { p with edge := e, mirrors := l, mirrorOpcode := op, mirrorTag := tag, mirrorStatus := z }) hy)
    rw [hq]
    exact ⟨hFol, rfl, rfl, rfl, fun _ => ⟨rfl, rfl⟩, fun hlt => absurd hlt hc⟩

/-! ### Self-faults -/

theorem follows_dropClaim {r s : State} (h : follows r s) : follows r (dropClaim s) := by
  unfold dropClaim
  refine follows_ite h ?_
  have hp : follows r (emit (.pin "CLAIM_TX" 0) (emit (.pin "CLAIM_OWN" 0) s)) := follows_emit _ (follows_emit _ h)
  exact follows_ite (follows_occur _ _ (follows_same hp rfl rfl)) (follows_same hp rfl rfl)
/-- A claim that dropped in pair mode took the enable with it, so the chip joins as a Dummy (R407). -/
theorem follows_afterDrop (b : State) {r s : State} (h : follows r s) : follows r (afterDrop b s) := by
  unfold afterDrop
  split
  · rename_i hc
    simp only [Bool.and_eq_true, beq_iff_eq, Bool.not_eq_true'] at hc
    obtain ⟨⟨⟨-, he⟩, hm⟩, -⟩ := hc
    exact follows_enterJoining hm he h
  · exact h
theorem afterDrop_enable (b s : State) : (afterDrop b s).pair.enable = s.pair.enable := by
  unfold afterDrop
  split
  · obtain ⟨-, -, -, hp⟩ := enterJoining_fields s
    rw [hp]
  · rfl

/-- Readback failures drop the claim and raise their cause (R393). -/
theorem readbackFault_drops (c : Nat) {s : State} (hl : s.pair.live = true) :
    let t := afterDrop s (selfFault 5 c s)
    t.pair.live = false ∧ t.pair.enable = false ∧ t.boot.claimSpent = true ∧ causeStands 12 15 t := by
  intro t
  obtain ⟨hs, hd, he, -, -, -⟩ := selfFault_drops 5 c s rfl
  obtain ⟨-, hb, -, hv⟩ := afterDrop_fields s (selfFault 5 c s)
  have hc : follows (raise 12 15 (recordFault 5 c s)) t := follows_afterDrop s (follows_dropClaim (follows_same (follows_refl _) rfl rfl))
  exact ⟨hv.trans hd, (afterDrop_enable s _).trans (he hl), (congrArg BootPart.claimSpent hb).trans hs, hc.2 12 15 (stands_raise_self 12 15 _ (by decide))⟩

/-- Self-faults of causes 1 to 6 enter the record and drop the claim (R31, R570). -/
theorem selfFault_records {cause : Nat} (detail : Nat) {x : State} (h1 : 1 ≤ cause) (h6 : cause ≤ 6) (hn : x.boot.faults.length < 8) :
    let t := afterDrop x (selfFault cause detail x)
    (∃ e, t.boot.faults = x.boot.faults ++ [e] ∧ e.cause = cause ∧ e.detail = detail ∧ e.claim = x.pair.force) ∧
    t.boot.claimSpent = true ∧ t.pair.live = false ∧ (x.pair.live = true → t.pair.enable = false) := by
  intro t
  have hdc : dropsClaim cause = true := by simp [dropsClaim, h1, h6]
  obtain ⟨hs, hd, he, -, -, -⟩ := selfFault_drops cause detail x hdc
  obtain ⟨-, hb, -, hv⟩ := afterDrop_fields x (selfFault cause detail x)
  have hf : t.boot.faults = x.boot.faults ++ [{ ps := x.now, cause, claim := x.pair.force, powerCycle := x.score.powerCycle, opTime := opTime x, detail }] :=
    (congrArg BootPart.faults hb).trans ((congrArg BootPart.faults (selfFault_boot cause detail x hdc)).trans (recordFault_faults cause detail x hn))
  exact ⟨⟨_, hf, rfl, rfl, rfl⟩, (congrArg BootPart.claimSpent hb).trans hs, hv.trans hd, fun hl => (afterDrop_enable x _).trans (he hl)⟩

/-- An uncorrectable SRAM error leaves the claim, and stands as a failed SRAM test (R413). -/
theorem sramFault_fails (detail : Nat) (x : State) :
    let t := testRan 2 false 0 (afterDrop x (selfFault 8 detail x))
    t.pair.live = x.pair.live ∧ (2 < x.pair.tests.length → (nth t.pair.tests 2).result = 1) := by
  have ha : afterDrop x (selfFault 8 detail x) = recordFault 8 detail x := by
    unfold afterDrop
    exact if_neg (by cases h : x.pair.enable <;> simp [selfFault, dropsClaim, recordFault, h])
  have hp : ∀ y : State, (testRan 2 false 0 y).pair.live = y.pair.live ∧ (testRan 2 false 0 y).pair.tests =
      upd y.pair.tests 2 fun t => { t with result := 1, detail := 0, lastRun := (y.now - y.boot.resetEnd) / msPs, failures := (t.failures + 1) % 2 ^ 32 } := fun y => by
    unfold testRan
    dsimp only
    split
    · exact ⟨rfl, rfl⟩
    · rw [occur_pair, raise_pair]
      exact ⟨rfl, rfl⟩
  intro t
  have ht : t = testRan 2 false 0 (recordFault 8 detail x) := congrArg (testRan 2 false 0) ha
  rw [ht, (hp _).1, (hp _).2]
  refine ⟨rfl, fun hl => ?_⟩
  have hl' : 2 < (recordFault 8 detail x).pair.tests.length := hl
  simp only [nth, List.getD_eq_getElem?_getD, upd, List.getElem?_modify, List.getElem?_eq_getElem hl']
  rfl

/-! ### Edges of the enable -/

theorem follows_emitKeepers {r s : State} (h : follows r s) : follows r (emitKeepers s) := by
  unfold emitKeepers
  dsimp only
  refine follows_foldl _ (fun x p => ?_) _ (follows_foldl _ (fun x n => ?_) _ h)
  · exact follows_ite (follows_emit _ (follows_refl x)) (follows_refl x)
  · exact follows_ite (follows_emit _ (follows_refl x)) (follows_refl x)
theorem steady_emitKeepers (s : State) : steady (emitKeepers s) = steady s := by
  unfold emitKeepers
  dsimp only
  refine (steady_foldl _ (fun x p => ?_) _ _).trans (steady_foldl _ (fun x n => ?_) _ s)
  · rw [steady_ite, show ∀ o, steady (emit o x) = steady x from fun _ => rfl, ite_self]
  · rw [steady_ite, show ∀ o, steady (emit o x) = steady x from fun _ => rfl, ite_self]

/-- What every edge of the enable ends with: its cause, CLAIM_OWN driven, the keepers (R395, R415). -/
def edgeDone (rise : Bool) (cause pin : Nat) (s : State) : State :=
  emitKeepers (emit (.pin "CLAIM_OWN" pin) (raise 12 cause (noteEdge rise s)))

theorem edgeDone_leaves (rise : Bool) {cause : Nat} (pin : Nat) (hc : cause < 32) (s : State) :
    causeStands 12 cause (edgeDone rise cause pin s) ∧ Output.pin "CLAIM_OWN" pin ∈ (edgeDone rise cause pin s).out ∧
    (edgeDone rise cause pin s).pair = { s.pair with lastSwitch := curTs s } := by
  have hf : follows (emit (.pin "CLAIM_OWN" pin) (raise 12 cause (noteEdge rise s))) (edgeDone rise cause pin s) := follows_emitKeepers (follows_refl _)
  refine ⟨hf.2 12 cause (stands_of_cause rfl (stands_raise_self 12 cause _ hc)), hf.1 _ (mem_emit _ _), ?_⟩
  refine (pair_of_steady (steady_emitKeepers _)).trans ?_
  exact (raise_pair 12 cause (noteEdge rise s)).trans (occur_pair _ _ _)

/-- ENABLE_RISE: the enable is on, and counts as a switchover (R415). -/
theorem enableRise_opens {s : State} {a : Nat} (h : s.pair.edge = some (true, a)) :
    let t := enableRise s
    t.pair.enable = true ∧ t.pair.opened = true ∧ t.pair.switchovers = (s.pair.switchovers + 1) % 2 ^ 32 ∧ causeStands 12 0 t ∧
    Output.pin "CLAIM_OWN" 1 ∈ t.out := by
  intro t
  let y := moveTo a s
  let z := if isDummy y then roleDeclarer y else updPair (fun p => { p with enable := true, edge := none }) y
  have hy : y.pair = s.pair := moveTo_pair a s
  have ht : t = edgeDone true 0 1 (updPair (fun p => { p with switchovers := (p.switchovers + 1) % 2 ^ 32, dual := 0, opened := true }) (refreshQuotes y z)) := by
    show enableRise s = _
    unfold enableRise
    rw [h]
    rfl
  have hz : z.pair.enable = true ∧ z.pair.switchovers = s.pair.switchovers := by
    rw [← hy]
    by_cases hd : isDummy y = true
    · have e : z = roleDeclarer y := if_pos hd
      rw [e, roleDeclarer_pair]
      exact ⟨rfl, rfl⟩
    · have e : z = _ := if_neg hd
      rw [e]
      exact ⟨rfl, rfl⟩
  obtain ⟨hc, ho, hp⟩ := edgeDone_leaves true 1 (cause := 0) (by decide)
    (updPair (fun p => { p with switchovers := (p.switchovers + 1) % 2 ^ 32, dual := 0, opened := true }) (refreshQuotes y z))
  rw [ht, hp]
  exact ⟨hz.1, rfl, congrArg (fun n => (n + 1) % 2 ^ 32) hz.2, hc, ho⟩

/-- ENABLE_FALL: the enable is off, and a chip in pair mode joins (R416). -/
theorem enableFall_closes {s : State} {a : Nat} (h : s.pair.edge = some (false, a)) :
    let t := enableFall s
    t.pair.enable = false ∧ t.pair.switchAt = none ∧ causeStands 12 1 t ∧ Output.pin "CLAIM_OWN" 0 ∈ t.out ∧
    (s.work.pair.mode = 1 → t.pair.sync = .joining) := by
  intro t
  let y := moveTo a s
  let z := refreshQuotes y (updPair (fun p => { p with enable := false, edge := none, switchAt := none }) y)
  let w := edgeDone false 1 0 z
  let v := finishWait .pairSwitch stDone 0 (zeros 4) w
  have ht : t = if v.work.pair.mode == 1 then enterJoining v else v := by
    show enableFall s = _
    unfold enableFall
    rw [h]
    rfl
  obtain ⟨hc, ho, hp⟩ := edgeDone_leaves false 0 (cause := 1) (by decide) z
  obtain ⟨-, l, op, tag, st, hv⟩ := finishWait_leaves .pairSwitch stDone 0 (zeros 4) w
  have hwv : follows w v := follows_finishWait _ _ _ _ (follows_refl w)
  have he : v.pair.enable = false := (congrArg PairRun.enable hv).trans (congrArg PairRun.enable hp)
  have hs : v.pair.switchAt = none := (congrArg PairRun.switchAt hv).trans (congrArg PairRun.switchAt hp)
  have hk : v.work = s.work := work_of_kept ((kept_finishWait _ _ _ _ _).trans ((kept_emitKeepers _).trans
    ((kept_raise 12 1 _).trans ((kept_noteEdge _ _).trans ((kept_refreshQuotes _ _).trans ((kept_updPair _ _).trans (kept_moveTo a s)))))))
  by_cases hm : s.work.pair.mode = 1
  · have hmv : v.work.pair.mode = 1 := by rw [hk, hm]
    have e : t = enterJoining v := ht.trans (if_pos (by rw [hmv]; rfl))
    obtain ⟨-, -, -, hj⟩ := enterJoining_fields v
    have hf : follows w t := by
      rw [e]
      exact follows_enterJoining hmv he hwv
    refine ⟨?_, ?_, hf.2 12 1 hc, hf.1 _ ho, fun _ => ?_⟩ <;> rw [e, hj]
    · exact he
    · exact hs
  · have e : t = v := ht.trans (if_neg (by rw [hk]; simpa using hm))
    rw [e]
    exact ⟨he, hs, hwv.2 12 1 hc, hwv.1 _ ho, fun h1 => absurd h1 hm⟩

/-! ### The rows -/

theorem claimInForce_forces {s : State} {c a : Nat} (h : s.pair.rising = some (c, a)) :
    let t := claimInForce s
    t.pair.force = c ∧ t.pair.rising = none ∧ t.now = (moveTo a s).now := by
  intro t
  obtain ⟨b, hb⟩ := settleSeize_only (updPair (fun p => { p with force := c, rising := none }) (moveTo a s))
  obtain ⟨e, he⟩ := settleEnable_only 0 (settleSeize (updPair (fun p => { p with force := c, rising := none }) (moveTo a s)))
  have ht : t = claimSetDone (settleEnable 0 (settleSeize (updPair (fun p => { p with force := c, rising := none }) (moveTo a s)))) := by
    show claimInForce s = _
    unfold claimInForce
    rw [h]
  obtain ⟨-, hn, l, op, tag, st, hp⟩ := claimSetDone_leaves (settleEnable 0 (settleSeize (updPair (fun p => { p with force := c, rising := none }) (moveTo a s))))
  rw [ht, hn, hp, he, hb]
  exact ⟨rfl, rfl, rfl⟩

/-- A claim of the partner that is absent lets a live claim take the enable (R30, R390). -/
theorem absent_lets (y : State) :
    let t := settleEnable 0 (settleSeize (updPair (fun p => { p with absent := true, rx := none }) y))
    t = { y with pair := t.pair } ∧ t.pair.absent = true ∧ t.pair.rx = none ∧
    (y.pair.live = true → y.pair.enable = false → y.pair.edge = none → t.pair.edge = some (true, y.now)) := by
  intro t
  let z := updPair (fun p => { p with absent := true, rx := none }) y
  obtain ⟨b, hb⟩ := settleSeize_only z
  obtain ⟨e, he⟩ := settleEnable_only 0 (settleSeize z)
  have ht : t = settleEnable 0 (settleSeize z) := rfl
  have htp : t = _ := he.trans (congrArg (updPair (fun p => { p with edge := e })) hb)
  refine ⟨by rw [htp]; rfl, by rw [htp]; rfl, by rw [htp]; rfl, fun hl h0 hn => ?_⟩
  rw [ht, hb]
  exact settleEnable_edge 0 (v := true) (by simp [mayEnable, updPair, z, hl]) h0 hn
theorem claimAbsent_lets {s : State} (hq : s.pair.quiet = false) (ha : s.pair.absent = false) :
    let y := moveTo (s.pair.rxAt + 4000000) s
    let t := claimAbsent s
    t = { y with pair := t.pair } ∧ t.pair.absent = true ∧ t.pair.rx = none ∧
    (s.pair.live = true → s.pair.enable = false → s.pair.edge = none → t.pair.edge = some (true, y.now)) := by
  have h := absent_lets (moveTo (s.pair.rxAt + 4000000) s)
  rw [moveTo_pair] at h
  unfold claimAbsent
  rw [hq, ha]
  exact h

/-- A frame of a live claim goes out before it is read back (R393). -/
def frameSent (x : State) : State := emit (.claimLine (claimLine (claimNow x))) (emit (.claim (claimNow x)) x)

theorem claimFrameTx_live {t : Nat} {s : State} (r : Option Nat) (h : (begin_ t s).pair.live = true) :
    claimFrameTx t r s = if r == some (claimNow (begin_ t s)) then claimSent (claimNow (begin_ t s)) (updPair (fun p => { p with readFails := 0 }) (frameSent (begin_ t s)))
      else if (begin_ t s).pair.readFails + 1 ≥ 2 then afterDrop (frameSent (begin_ t s)) (selfFault 5 (claimNow (begin_ t s)) (frameSent (begin_ t s)))
      else claimSent (claimNow (begin_ t s)) (updPair (fun p => { p with readFails := p.readFails + 1 }) (frameSent (begin_ t s))) := by
  exact if_neg (by rw [h]; decide)

theorem kept_row {c : Instr} {t : Nat} {s y : State} (hm : mayConfigure c = false) (hx : exec c s = .next y) : kept y = kept (begin_ t s) :=
  (kept_of_event hm hx).trans (kept_begin_ t s).symm

/-- Settles O42: each row by the lemma of its operation. -/
theorem claimsAndEnable : Obligations.ClaimsAndEnable := by
  unfold Obligations.ClaimsAndEnable
  refine ⟨fun t r s => ?_, fun t c s => ?_, fun s hq ha => ⟨_, rfl, claimAbsent_lets (s := { s with out := [] }) hq ha⟩,
    fun s c a h => ⟨_, rfl, kept_of_event (c := .claimInForce) rfl rfl, claimInForce_forces (s := { s with out := [] }) h⟩,
    fun s a h => ⟨_, rfl, kept_of_event (c := .enableRise) rfl rfl, enableRise_opens (s := { s with out := [] }) h⟩,
    fun s a h => ⟨_, rfl, kept_of_event (c := .enableFall) rfl rfl, enableFall_closes (s := { s with out := [] }) h⟩, fun t cause detail s => ?_⟩
  · have hk : kept (claimFrameTx t r s) = kept (begin_ t s) := kept_row (c := .claimFrameTx t r) rfl rfl
    intro x c
    have hx : exec (.claimFrameTx t r) s = .next (claimFrameTx t r s) := rfl
    refine ⟨fun hl => ?_, fun hl hr => ?_, fun hl hr hf => ?_, fun hl hr hf => ?_⟩
    · rw [hx]
      exact congrArg Outcome.next (if_pos (by rw [hl]; rfl))
    · have e : claimFrameTx t r s = claimSent c (updPair (fun p => { p with readFails := 0 }) (frameSent x)) :=
        (claimFrameTx_live r hl).trans (if_pos (by rw [hr]; exact beq_self_eq_true _))
      obtain ⟨h1, h2, -, h4, h5, h6⟩ := claimSent_forces c (updPair (fun p => { p with readFails := 0 }) (frameSent x))
      rw [hx, e]
      exact ⟨_, rfl, e ▸ hk, h1.1 _ (List.mem_append_left _ (mem_emit _ _)), h2, h4, h5, h6⟩
    · have hrc : ¬ (r == some c) = true := by simpa using hr
      have e : claimFrameTx t r s = claimSent c (updPair (fun p => { p with readFails := p.readFails + 1 }) (frameSent x)) :=
        (claimFrameTx_live r hl).trans ((if_neg hrc).trans (if_neg (by rw [hf]; decide)))
      obtain ⟨-, h2, h3, -⟩ := claimSent_forces c (updPair (fun p => { p with readFails := p.readFails + 1 }) (frameSent x))
      rw [hx, e]
      exact ⟨_, rfl, e ▸ hk, h2.trans (congrArg (· + 1) hf), h3.trans hl⟩
    · have hrc : ¬ (r == some c) = true := by simpa using hr
      have e : claimFrameTx t r s = afterDrop (frameSent x) (selfFault 5 c (frameSent x)) :=
        (claimFrameTx_live r hl).trans ((if_neg hrc).trans (if_pos (Nat.succ_le_succ hf)))
      rw [hx, e]
      exact ⟨_, rfl, e ▸ hk, readbackFault_drops c hl⟩
  · intro x
    obtain ⟨h1, h2, h3, h4, h5, h6, h7, h8⟩ := takeClaim_forces (c % 256) false x
    obtain ⟨q1, q2, q3, q4, -, -, q7, -⟩ := takeClaim_forces 0 true x
    exact ⟨⟨_, rfl, h1, h2, h3, h4, h5, h6, h7, h8⟩, ⟨_, rfl, q1, q2, q3, q4, q7⟩⟩
  · have hk : kept (selfFaultRow t cause detail s) = kept (begin_ t s) := kept_row (c := .selfFault t cause detail) rfl rfl
    intro x
    have hx : exec (.selfFault t cause detail) s = .next (selfFaultRow t cause detail s) := rfl
    refine ⟨fun h1 h6 hn => ?_, fun h8 => ?_, fun h0 => ?_⟩
    · have e : selfFaultRow t cause detail s = afterDrop x (selfFault cause detail x) := by
        unfold selfFaultRow
        rw [if_neg (by omega), if_neg (by omega)]
        exact if_neg (by omega)
      obtain ⟨⟨v, e1, e2, e3, e4⟩, hrest⟩ := selfFault_records detail h1 h6 hn
      rw [hx, e]
      exact ⟨_, v, rfl, e ▸ hk, e1, e2, e3, e4, hrest⟩
    · subst h8
      have e : selfFaultRow t 8 detail s = testRan 2 false 0 (afterDrop x (selfFault 8 detail x)) := rfl
      rw [hx, e]
      exact ⟨_, rfl, e ▸ hk, sramFault_fails detail x⟩
    · rw [hx]
      exact congrArg Outcome.next (if_pos (h0.imp id id))

end Sys2Proof.Machine
end
section
/-! PROOFS. What counting, charging and freeing leave alone of the ports, the rings and the requests that wait. -/
namespace Sys2Proof.Machine
open Sys2Proof Host

/-! ### Lists whose entries change in a part that is not looked at -/

theorem map_upd_same {α β : Type} (g : α → β) {f : α → α} (hf : ∀ a, g (f a) = g a) (l : List α) (i : Nat) : (upd l i f).map g = l.map g := by
  refine List.ext_getElem? fun j => ?_
  rw [List.getElem?_map, List.getElem?_map, upd_get]
  split
  · rw [Option.map_map]
    exact congrArg (fun h => l[j]?.map h) (funext hf)
  · rfl
theorem nth_of_map {α β : Type} [Inhabited α] (g : α → β) {l m : List α} (h : l.map g = m.map g) (i : Nat) : g (nth l i) = g (nth m i) := by
  have hn : ∀ k : List α, g (nth k i) = (k.map g).getD i (g default) := fun k => by
    simp only [nth, List.getD_eq_getElem?_getD, List.getElem?_map, Option.getD_map]
  rw [hn, hn, h]
theorem nth_upd_self {α : Type} [Inhabited α] {l : List α} {i : Nat} (f : α → α) (h : i < l.length) : nth (upd l i f) i = f (nth l i) := by
  simp only [nth, List.getD_eq_getElem?_getD, upd_get, List.getElem?_eq_getElem h]
  rfl

/-! ### The frame -/

/-- A ring's enable and its frames that wait for the host (R507). -/
def ringView (g : Ring) : Bool × List RxItem := (g.enable, g.queue)
/-- A port without its windows and its occupancy (R269, R275). -/
def bare (r : PortRun) : PortRun := { r with windows := [], occupancy := [] }
def views (s : State) := s.host.rings.map ringView
/-- What counting, charging and freeing do not touch. -/
def wire (s : State) := (s.now, s.work, s.pair, s.svc.waiting, s.host.noRingDrops, s.ports.map bare, views s)

theorem wire_of_plain {s t : State} (h : plain t = plain s) (hv : views t = views s) : wire t = wire s := by
  have hd : t.host.noRingDrops = s.host.noRingDrops := by
    have hp := congrArg (fun x : State => x.host.noRingDrops) h
    exact hp
  simp only [wire, now_of_plain h, work_of_plain h, pair_of_plain h, svc_of_plain h, ports_of_plain h, hd, hv]
theorem views_eventDue (e : EventDue) (s : State) : views (eventDue e s) = views s := by
  unfold eventDue
  generalize List.range 32 = l
  induction l generalizing s with
  | nil => rfl
  | cons k l ih =>
    rw [List.foldl_cons, ih]
    dsimp only
    split
    · refine map_upd_same ringView (fun g => ?_) _ _
      rfl
    · rfl
theorem views_irqEdge (b : Bool) (s : State) : views (irqEdge b s) = views s := by
  unfold irqEdge msixSend
  split
  · split
    · split <;> rfl
    · rfl
  · rfl
theorem views_setCause (c b i : Nat) (s : State) : views (setCause c b i s) = views s := by
  unfold setCause
  dsimp only
  split
  · rfl
  · rw [views_irqEdge, views_eventDue]
    rfl
theorem views_openOcc (c : Nat) (d : Int) (s : State) : views (openOcc c d s) = views s := by
  rw [openOcc_only]
  rfl
theorem views_occur (c : Nat) (d : Int) (s : State) : views (occur c d s) = views s := by
  have hy : views (if pairCode c then forward (.occurrence c d) s else s) = views s := by
    unfold forward
    split
    · split <;> rfl
    · rfl
  unfold occur
  revert hy
  generalize (if pairCode c then forward (.occurrence c d) s else s) = y
  intro hy
  dsimp only
  split
  · rfl
  · rw [← hy]
    split
    · split
      · exact views_openOcc _ _ _
      · split
        · rfl
        · exact views_setCause _ _ _ _
    · split
      · rfl
      · exact views_openOcc _ _ _
    · split
      · split
        · rfl
        · exact views_openOcc _ _ _
      · exact views_openOcc _ _ _
    · exact views_openOcc _ _ _
theorem views_raise (c b : Nat) (s : State) : views (raise c b s) = views s := by
  unfold raise raiseIdx
  dsimp only
  split
  · rw [views_occur, views_setCause]
  · exact views_setCause _ _ _ _

/-! ### Counting -/

/-- `t` comes after `s` by counting, charging, freeing, causes and outputs alone. -/
def counted (s t : State) : Prop := follows s t ∧ wire t = wire s

theorem counted_refl (s : State) : counted s s := ⟨follows_refl s, rfl⟩
theorem counted_trans {r s t : State} (h : counted s t) (g : counted r s) : counted r t := ⟨follows_trans h.1 g.1, h.2.trans g.2⟩
theorem counted_same {r s t : State} (h : counted r s) (ho : t.out = s.out) (hc : t.host.cause = s.host.cause) (hw : wire t = wire s) : counted r t :=
  ⟨follows_same h.1 ho hc, hw.trans h.2⟩
theorem counted_ite {c : Prop} [Decidable c] {r s t : State} (hs : counted r s) (ht : counted r t) : counted r (if c then s else t) := by
  split
  · exact hs
  · exact ht
theorem counted_foldl {α : Type} (f : State → α → State) (hf : ∀ s a, counted s (f s a)) (l : List α) {r s : State} (h : counted r s) :
    counted r (l.foldl f s) := by
  induction l generalizing s with
  | nil => exact h
  | cons a l ih => exact ih (counted_trans (hf s a) h)
theorem counted_bumpBy (k n : Nat) {r s : State} (h : counted r s) : counted r (bumpBy k n s) := counted_same h rfl rfl rfl
theorem counted_bump (k : Nat) {r s : State} (h : counted r s) : counted r (bump k s) := counted_same h rfl rfl rfl
theorem counted_occur (c : Nat) (d : Int) {r s : State} (h : counted r s) : counted r (occur c d s) :=
  ⟨follows_occur c d h.1, (wire_of_plain (plain_occur c d s) (views_occur c d s)).trans h.2⟩
theorem counted_raise (c b : Nat) {r s : State} (h : counted r s) : counted r (raise c b s) :=
  ⟨follows_raise c b h.1, (wire_of_plain (plain_raise c b s) (views_raise c b s)).trans h.2⟩
theorem counted_noteRate (k : Nat) {r s : State} (h : counted r s) : counted r (noteRate k s) := by
  unfold noteRate
  exact counted_ite h (counted_same h rfl rfl rfl)
/-- A counter of a port counts, and with it what the Scorecard takes of it (R534, R541). -/
theorem counted_portCount (p j : Nat) {r s : State} (h : counted r s) : counted r (portCount p j s) := by
  have hb := counted_bump (1024 + 16 * p + j) h
  unfold portCount
  exact counted_ite (counted_occur _ _ hb) (counted_ite (counted_noteRate 0 hb) (counted_ite (counted_noteRate 1 hb) (counted_ite (counted_noteRate 2 hb) hb)))
theorem counted_suitCount (u : Suit) (k : Nat) {r s : State} (h : counted r s) : counted r (suitCount u k s) := counted_same h rfl rfl rfl
theorem counted_filterFrame (ty : Nat) (u : Suit) (p n : Nat) {r s : State} (h : counted r s) : counted r (filterFrame ty u p n s) := by
  refine counted_foldl _ (fun x f => ?_) _ h
  exact counted_ite (counted_bumpBy _ _ (counted_refl x)) (counted_refl x)
theorem wire_updPort (p : Nat) {f : PortRun → PortRun} (hf : ∀ r, bare (f r) = bare r) (s : State) : wire (updPort p f s) = wire s := by
  have hm := map_upd_same bare hf s.ports p
  simp only [wire, updPort, hm]
  rfl
/-- The windows of a direction count a frame (R275). -/
theorem counted_countFrame (p : Nat) (tx : Bool) (a n : Nat) {r s : State} (h : counted r s) : counted r (countFrame p tx a n s) := by
  have hl : ∀ w b {x : State}, counted r x → counted r (countLine p w a b x) := fun w b x hx =>
    counted_same hx rfl rfl (wire_updPort p (f := fun r => { r with windows := upd r.windows w (countWindow (a / windowLen x p w) b) }) (fun _ => rfl) x)
  exact hl _ _ (hl _ _ h)
theorem counted_shedCheck {r s : State} (h : counted r s) : counted r (shedCheck s) := by
  have hs : counted r (if sharedFree s < s.work.svc.shedFree && !s.svc.shedding then raise 9 4 { s with svc := { s.svc with shedding := true } } else s) :=
    counted_ite (counted_raise 9 4 (counted_same h rfl rfl rfl)) h
  exact counted_same hs rfl rfl rfl
theorem counted_takeCells (u : Suit) (n : Nat) {r s : State} (h : counted r s) : counted r (takeCells u n s) := counted_shedCheck (counted_same h rfl rfl rfl)
theorem counted_releaseFrame (f : TxFrame) {r s : State} (h : counted r s) : counted r (releaseFrame f s) := by
  unfold releaseFrame
  split
  · exact counted_shedCheck (counted_same h rfl rfl rfl)
  · exact counted_shedCheck (counted_same h rfl rfl rfl)
theorem counted_updNtp (f : NtpPart → NtpPart) {r s : State} (h : counted r s) : counted r (updNtp f s) := counted_same h rfl rfl rfl
theorem counted_receiptGone (k : Kind) {r s : State} (h : counted r s) : counted r (receiptGone k s) := by
  unfold receiptGone
  exact counted_ite (counted_same h rfl rfl rfl) h
theorem counted_noteTurn (k : Kind) (n : Nat) {r s : State} (h : counted r s) : counted r (noteTurn k n s) := by
  unfold noteTurn
  exact counted_ite (counted_same h rfl rfl rfl) (counted_ite h (counted_same h rfl rfl rfl))

/-! ### Messages that follow -/

theorem counted_sealMsg (c : PtpCfg) (p : Nat) (m : PtpMsg) {r s : State} (h : counted r s) : counted r (sealMsg c p m s).2 := by
  unfold sealMsg
  split
  · exact h
  · split
    · exact h
    · exact counted_ite h (counted_same h rfl rfl rfl)
theorem counted_buildFollowUp (p : Nat) (c : PtpCfg) (b : BindCfg) (g : Option Nat) (seq l : Nat) {r s : State} (h : counted r s) :
    counted r (buildFollowUp p c b g seq l s).2 := counted_sealMsg c p _ h
theorem counted_buildPdelayFu (p : Nat) (c : PtpCfg) (b : BindCfg) (v : PtpView) (l : Nat) {r s : State} (h : counted r s) :
    counted r (buildPdelayFu p c b v l s).2 := counted_sealMsg c p _ h

end Sys2Proof.Machine
end
section
/-! PROOFS. Frames that arrive (R25, R250, R251, R266, R267, R284, R299, R301, R507). -/
namespace Sys2Proof.Machine
open Sys2Proof Host

/-! ### A port, after counting -/

theorem lt_length_of_nth {α : Type} [Inhabited α] {l : List α} {i : Nat} (h : nth l i ≠ default) : i < l.length := by
  by_contra hi
  exact h (by simp [nth, List.getElem?_eq_none (Nat.le_of_not_lt hi)])
theorem port_lt_of_up {s : State} {p : Nat} (h : (portOf s p).state = .up) : p < s.ports.length := by
  refine lt_length_of_nth fun e => ?_
  have hd : (portOf s p).state = .disabled := congrArg PortRun.state e
  rw [h] at hd
  cases hd
theorem portOf_updPort {s : State} {p : Nat} (f : PortRun → PortRun) (h : p < s.ports.length) : portOf (updPort p f s) p = f (portOf s p) :=
  nth_upd_self f h

theorem ports_of_wire {s t : State} (h : wire t = wire s) : t.ports.map bare = s.ports.map bare := (Prod.mk.inj (Prod.mk.inj (Prod.mk.inj (Prod.mk.inj (Prod.mk.inj (Prod.mk.inj h).2).2).2).2).2).1
theorem views_of_wire {s t : State} (h : wire t = wire s) : views t = views s := (Prod.mk.inj (Prod.mk.inj (Prod.mk.inj (Prod.mk.inj (Prod.mk.inj (Prod.mk.inj h).2).2).2).2).2).2
theorem now_of_wire {s t : State} (h : wire t = wire s) : t.now = s.now := (Prod.mk.inj h).1
theorem work_of_wire {s t : State} (h : wire t = wire s) : t.work = s.work := (Prod.mk.inj (Prod.mk.inj h).2).1
theorem pair_of_wire {s t : State} (h : wire t = wire s) : t.pair = s.pair := (Prod.mk.inj (Prod.mk.inj (Prod.mk.inj h).2).2).1
theorem waiting_of_wire {s t : State} (h : wire t = wire s) : t.svc.waiting = s.svc.waiting := (Prod.mk.inj (Prod.mk.inj (Prod.mk.inj (Prod.mk.inj h).2).2).2).1
theorem drops_of_wire {s t : State} (h : wire t = wire s) : t.host.noRingDrops = s.host.noRingDrops :=
  (Prod.mk.inj (Prod.mk.inj (Prod.mk.inj (Prod.mk.inj (Prod.mk.inj h).2).2).2).2).1

theorem length_of_wire {s t : State} (h : wire t = wire s) : t.ports.length = s.ports.length := by
  have hm := congrArg List.length (ports_of_wire h)
  simpa using hm
theorem bare_of_wire {s t : State} (h : wire t = wire s) (p : Nat) : bare (portOf t p) = bare (portOf s p) := nth_of_map bare (ports_of_wire h) p
theorem pauses_of_wire {s t : State} (h : wire t = wire s) (p : Nat) : (portOf t p).pauses = (portOf s p).pauses := by
  have hb := congrArg PortRun.pauses (bare_of_wire h p)
  exact hb
theorem timed_of_wire {s t : State} (h : wire t = wire s) (p : Nat) : (portOf t p).timed = (portOf s p).timed := by
  have hb := congrArg PortRun.timed (bare_of_wire h p)
  exact hb
theorem untimed_of_wire {s t : State} (h : wire t = wire s) (p : Nat) : (portOf t p).untimed = (portOf s p).untimed := by
  have hb := congrArg PortRun.untimed (bare_of_wire h p)
  exact hb
theorem enable_of_wire {s t : State} (h : wire t = wire s) (r : Nat) : (ringOf t r).enable = (ringOf s r).enable :=
  congrArg Prod.fst (nth_of_map ringView (views_of_wire h) r)
theorem queue_of_wire {s t : State} (h : wire t = wire s) (r : Nat) : (ringOf t r).queue = (ringOf s r).queue :=
  congrArg Prod.snd (nth_of_map ringView (views_of_wire h) r)
theorem svcClosed_of_wire {s t : State} (h : wire t = wire s) : svcClosed t = svcClosed s := by
  simp only [svcClosed, isDummy, work_of_wire h, pair_of_wire h]
theorem ringFor_of_wire {s t : State} (h : wire t = wire s) (p code : Nat) : ringFor t p code = ringFor s p code := by
  unfold ringFor
  simp only [work_of_wire h, enable_of_wire h]

/-- The cells that are held. -/
def held (s : State) := (s.work.svc, s.svc.cells, s.svc.txCells)
theorem canTake_of_held {s t : State} (h : held t = held s) (u : Suit) (n : Nat) : canTake t u n = canTake s u n := by
  obtain ⟨hw, hc, hx⟩ := Prod.mk.inj h |>.imp_right Prod.mk.inj
  have hcap : sharedCap t u = sharedCap s u := by
    unfold sharedCap
    rw [hw]
  have hover : ∀ v m, suitOver t v m = suitOver s v m := fun v m => by simp only [suitOver, suitCells, hw, hc]
  have hfree : sharedFree t = sharedFree s := by simp only [sharedFree, hover, hw, hx]
  unfold canTake
  rw [hover, hover, hcap, hfree]
theorem chargeFrame_takes {u : Suit} {len : Nat} {s : State} (p prio : Nat) (h : canTake s u (cellsOf len) = true) :
    chargeFrame u p prio len s = some (addOccupancy p prio len (takeCells u (cellsOf len) s)) := if_pos h
theorem held_foldl {α : Type} (f : State → α → State) (hf : ∀ s a, held (f s a) = held s) (l : List α) (s : State) : held (l.foldl f s) = held s := by
  induction l generalizing s with
  | nil => rfl
  | cons a l ih => exact (ih _).trans (hf s a)
theorem held_filterFrame (ty : Nat) (u : Suit) (p n : Nat) (s : State) : held (filterFrame ty u p n s) = held s := by
  refine held_foldl _ (fun x f => ?_) _ s
  dsimp only
  split <;> rfl

/-! ### The order of the checks (R250, R251) -/

/-- A frame that a port which is up receives: length, FCS, MAC control, address, in that order. -/
theorem frameRx_up {p t : Nat} {s : State} (ok : Bool) (f : Bytes) (hu : (portOf (begin_ t s) p).state = .up) (hr : running (begin_ t s) = true) :
    let x := begin_ t s
    let len := f.length + 4
    let c := portCfg x p
    let y := countFrame p false (((x.now - len * byteTime c.mode : Nat) : Int) - delayPs c.rxDelay).toNat len x
    frameRx p t ok f s = if len < 64 ∨ len > c.maxFrame then portCount p 2 y
      else if !ok then portCount p 1 x
      else if fldBE f 12 2 = 0x8808 then macControl p f y
      else if promiscuous c || fldBE f 0 6 == c.mac || isGroup (fldBE f 0 6) then classify p t f (portCount p 0 y)
      else y :=
  if_neg (by rw [hu, hr]; decide)

/-- What a pause frame adds to its port: its effect 50 ns later (R267). -/
theorem dueAdded {x y : State} {p : Nat} (h : wire y = wire x) (hp : p < x.ports.length) (l : List (Nat × Nat)) :
    (portOf (updPort p (fun r => { r with pauses := r.pauses ++ [(y.now + 50000, l)] }) y) p).pauses = (portOf x p).pauses ++ [(x.now + 50000, l)] := by
  rw [portOf_updPort _ (by rw [length_of_wire h]; exact hp), now_of_wire h]
  exact congrArg (· ++ [(x.now + 50000, l)]) (pauses_of_wire h p)
theorem macControl_pause {x y : State} {p : Nat} {f : Bytes} (h : counted x y) (hp : p < x.ports.length) (ho : fldBE f 14 2 = 1) (hm : (nth x.work.flows p).rxMode = 1) :
    (portOf (macControl p f y) p).pauses = (portOf x p).pauses ++ [(x.now + 50000, (List.range 8).map fun k => (k, fldBE f 16 2))] := by
  have hz := counted_portCount p 4 h
  have e : macControl p f y = updPort p (fun r => { r with pauses := r.pauses ++ [((portCount p 4 y).now + 50000, (List.range 8).map fun k => (k, fldBE f 16 2))] }) (portCount p 4 y) := by
    unfold macControl
    rw [ho, work_of_wire h.2, hm]
    rfl
  rw [e]
  exact dueAdded hz.2 hp _
theorem macControl_pfc {x y : State} {p : Nat} {f : Bytes} (h : counted x y) (hp : p < x.ports.length) (ho : fldBE f 14 2 = 0x0101) (hm : (nth x.work.flows p).rxMode = 2) :
    (portOf (macControl p f y) p).pauses = (portOf x p).pauses ++
      [(x.now + 50000, (onesBelow 8 (fldBE f 16 2 &&& (nth x.work.flows p).rxPfcMask)).map fun k => (k, fldBE f (18 + 2 * k) 2))] := by
  have hz := counted_portCount p 4 h
  have e : macControl p f y = updPort p (fun r => { r with pauses := r.pauses ++
      [((portCount p 4 y).now + 50000, (onesBelow 8 (fldBE f 16 2 &&& (nth (portCount p 4 y).work.flows p).rxPfcMask)).map fun k => (k, fldBE f (18 + 2 * k) 2))] }) (portCount p 4 y) := by
    unfold macControl
    rw [ho, work_of_wire h.2, hm]
    rfl
  rw [e, work_of_wire hz.2]
  exact dueAdded hz.2 hp _

/-! ### Clubs frames (R299, R301, R507) -/

theorem ringFor_enable {s : State} {p code r : Nat} (h : ringFor s p code = some r) : (ringOf s r).enable = true := by
  have hr := List.find?_some h
  simp only [Bool.and_eq_true] at hr
  exact hr.1.1.1
theorem ring_lt_of_enable {s : State} {r : Nat} (h : (ringOf s r).enable = true) : r < s.host.rings.length := by
  refine lt_length_of_nth fun e => ?_
  have hd : (ringOf s r).enable = false := congrArg Ring.enable e
  rw [h] at hd
  cases hd
theorem classified_counted (u : Suit) (p n : Nat) (s : State) : counted s (filterFrame 5 u p n (suitCount u 0 s)) ∧ held (filterFrame 5 u p n (suitCount u 0 s)) = held s :=
  ⟨counted_filterFrame _ _ _ _ (counted_suitCount _ _ (counted_refl s)), held_filterFrame _ _ _ _ _⟩

/-- Without a bucket and without a ring, a Clubs frame is dropped (R507). -/
theorem takeClubs_drops {p prio code stamp : Nat} {f : Bytes} {s : State} (hc : s.work.svc.clubsRate = 0) (hr : ringFor s p code = none) :
    causeStands 0 10 (takeClubs p prio code f stamp s) ∧ (takeClubs p prio code f stamp s).host.noRingDrops = add48 s.host.noRingDrops 1 := by
  obtain ⟨hw, -⟩ := classified_counted .clubs p (f.length + 4) s
  unfold takeClubs
  revert hw
  generalize filterFrame 5 .clubs p (f.length + 4) (suitCount .clubs 0 s) = w
  intro hw
  dsimp only
  rw [work_of_wire hw.2, hc, if_neg (fun h => h.1 rfl), if_pos rfl, ringFor_of_wire hw.2, hr]
  have hz := counted_raise 0 10 (counted_bump 38 (counted_refl { w with host := { w.host with noRingDrops := add48 w.host.noRingDrops 1 } }))
  refine ⟨stands_raise_self 0 10 _ (by decide), (drops_of_wire hz.2).trans ?_⟩
  exact congrArg (fun n => add48 n 1) (drops_of_wire hw.2)
/-- Without a bucket, a Clubs frame for which there are cells goes to its ring (R299, R507). -/
theorem takeClubs_queues {p prio code stamp r : Nat} {f : Bytes} {s : State} (hc : s.work.svc.clubsRate = 0) (hr : ringFor s p code = some r)
    (ht : canTake s .clubs (cellsOf (f.length + 4)) = true) :
    ∃ e, (ringOf (takeClubs p prio code f stamp s) r).queue = (ringOf s r).queue ++ [e] ∧ e.data = f ∧ e.code = code ∧ e.port = p := by
  obtain ⟨hw, hh⟩ := classified_counted .clubs p (f.length + 4) s
  unfold takeClubs
  revert hw hh
  generalize filterFrame 5 .clubs p (f.length + 4) (suitCount .clubs 0 s) = w
  intro hw hh
  dsimp only
  rw [work_of_wire hw.2, hc, if_neg (fun h => h.1 rfl), if_pos rfl, ringFor_of_wire hw.2, hr]
  dsimp only
  rw [chargeFrame_takes _ _ ((canTake_of_held hh _ _).trans ht)]
  have hv : counted w (addOccupancy p prio (f.length + 4) (takeCells .clubs (cellsOf (f.length + 4)) w)) :=
    counted_same (counted_takeCells _ _ (counted_refl w)) rfl rfl (wire_updPort p (f := fun r => { r with occupancy := upd r.occupancy prio (· + (f.length + 4)) }) (fun _ => rfl) _)
  revert hv
  generalize addOccupancy p prio (f.length + 4) (takeCells .clubs (cellsOf (f.length + 4)) w) = v
  intro hv
  dsimp only
  have hx : wire v = wire s := hv.2.trans hw.2
  have hl : r < v.host.rings.length := ring_lt_of_enable ((enable_of_wire hx r).trans (ringFor_enable hr))
  let e : RxItem := { data := f, stamp, uncal := !(portOf v p).calOk, code, port := p, prio }
  have hz := counted_filterFrame 6 .clubs p (f.length + 4) (counted_suitCount .clubs 1 (counted_refl (updRing r (fun g => { g with queue := g.queue ++ [e] }) v)))
  have hq : (ringOf (updRing r (fun g => { g with queue := g.queue ++ [e] }) v) r).queue = (ringOf v r).queue ++ [e] :=
    congrArg Ring.queue (nth_upd_self (fun g : Ring => { g with queue := g.queue ++ [e] }) hl)
  exact ⟨e, (queue_of_wire hz.2 r).trans (hq.trans (congrArg (· ++ [e]) (queue_of_wire hx r))), rfl, rfl, rfl⟩

/-! ### Requests that wait (R290, R305) -/

theorem mem_insertBy {α : Type} (lt : α → α → Bool) (x : α) (l : List α) : x ∈ insertBy lt x l := by
  induction l with
  | nil => exact List.mem_singleton.mpr rfl
  | cons y ys ih =>
    unfold insertBy
    split
    · exact List.mem_cons_self
    · exact List.mem_cons_of_mem _ ih
theorem length_insertBy {α : Type} (lt : α → α → Bool) (x : α) (l : List α) : (insertBy lt x l).length = l.length + 1 := by
  induction l with
  | nil => rfl
  | cons y ys ih =>
    unfold insertBy
    split
    · rfl
    · exact congrArg (· + 1) ih
/-- A request for which there are cells waits for admission. -/
theorem takeRequest_waits {q : Request} {s : State} (ht : canTake s q.suit (cellsOf (q.frame.length + 4)) = true) :
    ∃ v ∈ (takeRequest q s).svc.waiting, (takeRequest q s).svc.waiting.length = s.svc.waiting.length + 1 ∧
      v.frame = q.frame ∧ v.port = q.port ∧ v.suit = q.suit ∧ v.tV = q.tV := by
  obtain ⟨hw, hh⟩ := classified_counted q.suit q.port (q.frame.length + 4) s
  unfold takeRequest classified
  revert hw hh
  generalize filterFrame 5 q.suit q.port (q.frame.length + 4) (suitCount q.suit 0 s) = w
  intro hw hh
  dsimp only
  rw [chargeFrame_takes _ _ ((canTake_of_held hh _ _).trans ht)]
  have hv : counted w (takeCells q.suit (cellsOf (q.frame.length + 4)) w) := counted_takeCells _ _ (counted_refl w)
  have hl : (addOccupancy q.port q.prio (q.frame.length + 4) (takeCells q.suit (cellsOf (q.frame.length + 4)) w)).svc.waiting = s.svc.waiting := by
    have hq := waiting_of_wire (hv.2.trans hw.2)
    exact hq
  refine ⟨_, mem_insertBy _ _ _, (length_insertBy _ _ _).trans (congrArg (fun l => List.length l + 1) hl), rfl, rfl, rfl, rfl⟩

/-- The clauses of FRAME_RX for a frame that the MAC passes on (R284). -/
theorem classify_clubs {p t code : Nat} {f : Bytes} {z : State} (h : roughOf z p f = .clubs code) (hd : svcClosed z = false ∨ sharedLane (portCfg z p) = false) :
    ∃ prio stamp, classify p t f z = takeClubs p prio code f stamp z := by
  have hc : (svcClosed z && sharedLane (portCfg z p)) = false := by
    rcases hd with h | h <;> simp [h]
  unfold classify
  dsimp only
  rw [h]
  exact ⟨_, _, if_neg (by rw [hc]; decide)⟩
theorem classify_esmc {p t : Nat} {f : Bytes} {z : State} (h : roughOf z p f = .esmc) :
    ∃ q : Request, classify p t f z = takeRequest q z ∧ q.frame = f ∧ q.port = p ∧ q.suit = .hearts ∧ q.tV = t := by
  unfold classify
  dsimp only
  rw [h]
  exact ⟨_, rfl, rfl, rfl, rfl, rfl⟩

/-- The row of FRAME_RX. -/
theorem frameRx_clauses (p t : Nat) (ok : Bool) (f : Bytes) (s : State) (hu : (portOf (begin_ t s) p).state = .up) (hr : running (begin_ t s) = true) :
    let x := begin_ t s
    let len := f.length + 4
    let c := portCfg x p
    let y := countFrame p false (((x.now - len * byteTime c.mode : Nat) : Int) - delayPs c.rxDelay).toNat len x
    let z := portCount p 0 y
    (len < 64 ∨ c.maxFrame < len → frameRx p t ok f s = portCount p 2 y) ∧
    (64 ≤ len → len ≤ c.maxFrame → ok = false → frameRx p t ok f s = portCount p 1 x) ∧
    (64 ≤ len → len ≤ c.maxFrame → ok = true → fldBE f 12 2 = 0x8808 → frameRx p t ok f s = macControl p f y) ∧
    (64 ≤ len → len ≤ c.maxFrame → ok = true → fldBE f 12 2 ≠ 0x8808 → promiscuous c = false → fldBE f 0 6 ≠ c.mac → isGroup (fldBE f 0 6) = false →
      frameRx p t ok f s = y) ∧
    (64 ≤ len → len ≤ c.maxFrame → ok = true → fldBE f 12 2 ≠ 0x8808 → promiscuous c = true ∨ fldBE f 0 6 = c.mac ∨ isGroup (fldBE f 0 6) = true →
      frameRx p t ok f s = classify p t f z) := by
  intro x len c y z
  have e : frameRx p t ok f s = _ := frameRx_up ok f hu hr
  have hlen : 64 ≤ len → len ≤ c.maxFrame → ¬ (len < 64 ∨ len > c.maxFrame) := fun h1 h2 => by omega
  refine ⟨fun h => e.trans (if_pos h), fun h1 h2 ho => ?_, fun h1 h2 ho hm => ?_, fun h1 h2 ho hm hp ha hg => ?_, fun h1 h2 ho hm ha => ?_⟩
  · exact e.trans ((if_neg (hlen h1 h2)).trans (if_pos (by rw [ho]; rfl)))
  · exact e.trans ((if_neg (hlen h1 h2)).trans ((if_neg (by rw [ho]; decide)).trans (if_pos hm)))
  · refine e.trans ((if_neg (hlen h1 h2)).trans ((if_neg (by rw [ho]; decide)).trans ((if_neg hm).trans (if_neg ?_))))
    rw [hp, hg, beq_false_of_ne ha]
    decide
  · refine e.trans ((if_neg (hlen h1 h2)).trans ((if_neg (by rw [ho]; decide)).trans ((if_neg hm).trans (if_pos ?_))))
    rcases ha with h | h | h
    · rw [h]
      rfl
    · rw [beq_iff_eq.mpr h, Bool.or_true]
      rfl
    · rw [h, Bool.or_true]

end Sys2Proof.Machine
end
section
/-! PROOFS. Frames that leave (R25, R254, R263, R277, R293). -/
namespace Sys2Proof.Machine
open Sys2Proof Host

/-! ### What follows an egress keeps the timed queues -/

/-- `t` comes after `s`, and the timed queues of the ports are as they were. -/
def egressed (s t : State) : Prop := follows s t ∧ t.ports.map (·.timed) = s.ports.map (·.timed)

theorem egressed_counted {r s t : State} (h : counted s t) (g : egressed r s) : egressed r t := by
  have hb := congrArg (List.map PortRun.timed) (ports_of_wire h.2)
  simp only [List.map_map] at hb
  exact ⟨follows_trans h.1 g.1, hb.trans g.2⟩
theorem egressed_updPort (p : Nat) {f : PortRun → PortRun} (hf : ∀ r, (f r).timed = r.timed) {r s : State} (h : egressed r s) : egressed r (updPort p f s) :=
  ⟨follows_same h.1 rfl rfl, (map_upd_same _ hf _ _).trans h.2⟩
/-- An engine message joins the untimed queue (R321). -/
theorem egressed_queueEngine (p : Nat) (b : Bytes) (i : Nat) (u : Suit) {r s : State} (h : egressed r s) : egressed r (queueEngine p b i u s) :=
  egressed_updPort p (f := fun r => { r with untimed := r.untimed ++ [_] }) (fun _ => rfl) (egressed_counted (counted_takeCells u _ (counted_refl s)) h)
theorem counted_answered (u : Suit) (p n d : Nat) (k : Kind) {r s : State} (h : counted r s) :
    counted r (noteTurn k d (filterFrame 8 u p n (portCount p 12 (suitCount u 10 s)))) :=
  counted_noteTurn k d (counted_filterFrame 8 u p n (counted_portCount p 12 (counted_suitCount u 10 h)))
theorem egressed_afterEgress {f : TxFrame} (p stamp plane : Nat) (hf : isHost f = false) {r s : State} (h : egressed r s) : egressed r (afterEgress p f stamp plane s) := by
  unfold afterEgress
  dsimp only
  split
  · refine egressed_counted (counted_ite (counted_bump _ (counted_receiptGone _ (counted_updNtp _ ?_))) ?_) h <;>
    exact counted_answered _ _ _ _ _ (counted_refl s)
  · split
    · exact egressed_queueEngine _ _ _ _ (egressed_counted (counted_buildFollowUp _ _ _ _ _ _ (counted_refl s)) h)
    · exact h
  · split
    · exact egressed_queueEngine _ _ _ _ (egressed_counted (counted_buildPdelayFu _ _ _ _ _ (counted_answered _ _ _ _ _ (counted_refl s))) h)
    · exact egressed_counted (counted_answered _ _ _ _ _ (counted_refl s)) h
  · exact egressed_counted (counted_same (counted_refl s) rfl rfl rfl) h
  · exact h
  · rename_i ht
    simp [isHost, ht] at hf

/-! ### A frame is sent -/

/-- The stamp of a frame that leaves now (R255, R263). -/
def stampSent (p : Nat) (f : TxFrame) (s : State) : Nat :=
  if f.launchForm && f.launch.isSome then f.stamp else ((stampNow s : Int) + (portCfg s p).txDelay).toNat
/-- A frame on the line: its output, the line taken, its cells released and its counters counted (R254, R263, R275, R299). -/
def onLine (p : Nat) (f : TxFrame) (s : State) : State :=
  let len := max 60 f.bytes.length + 4
  countFrame p true ((s.now : Int) + delayPs (portCfg s p).txDelay).toNat len (releaseFrame f (portCount p 3
    (emit (.frame p (stampSent p f s) (padFrame f.bytes)) (updPort p (fun r => { r with lineFree := s.now + (len + 12) * byteTime (portCfg s p).mode }) s))))

theorem sendFrame_plain {p : Nat} {f : TxFrame} {s : State} (h : f.insert = none) :
    sendFrame p f s = afterEgress p f (stampSent p f s) ((s.now : Int) + delayPs (portCfg s p).txDelay).toNat (onLine p f s) := by
  unfold sendFrame
  rw [h]
  rfl
theorem counted_onLine (p : Nat) (f : TxFrame) (s : State) :
    counted (emit (.frame p (stampSent p f s) (padFrame f.bytes)) (updPort p (fun r => { r with lineFree := s.now + (max 60 f.bytes.length + 4 + 12) * byteTime (portCfg s p).mode }) s)) (onLine p f s) :=
  counted_countFrame p true _ _ (counted_releaseFrame f (counted_portCount p 3 (counted_refl _)))
/-- A frame of an engine or of the service that carries no inserted stamp leaves as it stands. -/
theorem sendFrame_sends {p : Nat} {f : TxFrame} {s : State} (hi : f.insert = none) (hf : isHost f = false) :
    Output.frame p (stampSent p f s) (padFrame f.bytes) ∈ (sendFrame p f s).out ∧ (sendFrame p f s).ports.map (·.timed) = s.ports.map (·.timed) := by
  have hw := counted_onLine p f s
  have hs : egressed s (emit (.frame p (stampSent p f s) (padFrame f.bytes)) (updPort p (fun r => { r with lineFree := s.now + (max 60 f.bytes.length + 4 + 12) * byteTime (portCfg s p).mode }) s)) :=
    ⟨follows_emit _ (follows_same (follows_refl s) rfl rfl), (egressed_updPort p
      (f := fun r => { r with lineFree := s.now + (max 60 f.bytes.length + 4 + 12) * byteTime (portCfg s p).mode }) (fun _ => rfl) ⟨follows_refl s, rfl⟩).2⟩
  have ha := egressed_afterEgress p (stampSent p f s) ((s.now : Int) + delayPs (portCfg s p).txDelay).toNat hf (egressed_counted hw hs)
  have hl := egressed_afterEgress p (stampSent p f s) ((s.now : Int) + delayPs (portCfg s p).txDelay).toNat hf (s := onLine p f s) ⟨follows_refl _, rfl⟩
  rw [sendFrame_plain hi]
  exact ⟨hl.1.1 _ (hw.1.1 _ (mem_emit _ _)), ha.2⟩

/-! ### The head of the timed queue -/

theorem port_lt_of_timed {s : State} {p : Nat} {f : TxFrame} {rest : List TxFrame} (h : (portOf s p).timed = f :: rest) : p < s.ports.length := by
  refine lt_length_of_nth fun e => ?_
  have hd : (portOf s p).timed = [] := congrArg PortRun.timed e
  rw [h] at hd
  cases hd
/-- The head leaves its queue and its launch leaves the calendar. -/
theorem portOf_unqueue {s : State} {p : Nat} {f : TxFrame} {rest : List TxFrame} (h : (portOf s p).timed = f :: rest) :
    portOf (unqueue p f s) p = { portOf s p with timed := rest, calendar := (portOf s p).calendar.filter (fun e => some e.1 != f.launch) } := by
  refine (portOf_updPort _ (port_lt_of_timed h)).trans ?_
  rw [h]
  simp
/-- The head is late: its instant has passed, the line is not free, its span is taken, or the port does not send (R263, R277). -/
def launchLate (p l : Nat) (f : TxFrame) (s : State) : Bool :=
  decide (s.now > l) || decide ((portOf s p).lineFree > l) ||
    (isHost f && (portOf s p).calendar.any (fun e => decide ((lineSpan (portByte s p) e).1 < (lineSpan (portByte s p) (l, f.bytes.length + 4)).2 ∧
      (lineSpan (portByte s p) (l, f.bytes.length + 4)).1 < (lineSpan (portByte s p) e).2))) || !txEnabled s p
theorem timedLaunch_head {s : State} {p l : Nat} {f : TxFrame} {rest : List TxFrame} (h : (portOf s p).timed = f :: rest) (hl : f.launch = some l) :
    let u := unqueue p f (moveTo l s)
    timedLaunch p s = if isPaused u p f.prio || launchLate p l f u then (if isHost f then missHost p f u else missResponse p f (isPaused u p f.prio) u)
      else if boundRisen u p f then boundCancel p f u else sendFrame p f u := by
  unfold timedLaunch
  rw [h]
  dsimp only
  rw [hl]
  rfl

/-- The port and the instant of a head that has left its queue, as the launch sees them. -/
theorem unqueue_leaves {y : State} {p : Nat} {f : TxFrame} {rest : List TxFrame} (h : (portOf y p).timed = f :: rest) :
    let u := unqueue p f y
    isPaused u p f.prio = isPaused y p f.prio ∧ (portOf u p).lineFree = (portOf y p).lineFree ∧ txEnabled u p = txEnabled y p ∧
    (portOf u p).timed = rest ∧ (portOf u p).untimed = (portOf y p).untimed := by
  have hp := portOf_unqueue h
  intro u
  refine ⟨?_, (congrArg PortRun.lineFree hp).trans rfl, ?_, congrArg PortRun.timed hp, (congrArg PortRun.untimed hp).trans rfl⟩
  · exact (congrArg (fun r : PortRun => (r.pausedUntil.getD f.prio none).isSome) hp).trans rfl
  · exact (congrArg (fun r : PortRun => r.state == .up && !(sharedLane (portCfg y p) && svcClosed y)) hp).trans rfl
theorem launchLate_false {y : State} {p l : Nat} {f : TxFrame} {rest : List TxFrame} (h : (portOf y p).timed = f :: rest) (hf : isHost f = false)
    (ho : y.now ≤ l ∧ (portOf y p).lineFree ≤ l ∧ txEnabled y p = true) : launchLate p l f (unqueue p f y) = false := by
  obtain ⟨hn, hl, ht⟩ := ho
  obtain ⟨-, h2, h3, -⟩ := unqueue_leaves h
  have hn' : ¬ (unqueue p f y).now > l := Nat.not_lt.mpr hn
  have hl' : ¬ (portOf (unqueue p f y) p).lineFree > l := by rw [h2]; exact Nat.not_lt.mpr hl
  rw [launchLate, h3, ht, hf, decide_eq_false hn', decide_eq_false hl']
  rfl
theorem launchLate_true {y : State} {p l : Nat} {f : TxFrame} {rest : List TxFrame} (h : (portOf y p).timed = f :: rest)
    (ho : ¬ (y.now ≤ l ∧ (portOf y p).lineFree ≤ l ∧ txEnabled y p = true)) : launchLate p l f (unqueue p f y) = true := by
  obtain ⟨-, h2, h3, -⟩ := unqueue_leaves h
  have hn : (unqueue p f y).now = y.now := rfl
  by_contra hf
  simp only [launchLate, h2, h3, hn, Bool.not_eq_true, Bool.or_eq_false_iff, decide_eq_false_iff_not, gt_iff_lt, Nat.not_lt, Bool.not_eq_false'] at hf
  obtain ⟨⟨⟨h1, h4⟩, -⟩, h5⟩ := hf
  exact ho ⟨h1, h4, h5⟩

theorem counted_missResponse (p : Nat) {f : TxFrame} (b : Bool) {r s : State} (h : counted r s) : counted r (missResponse p f b s) := by
  have hx : counted r (releaseFrame f (portCount p (if b then 8 else 9) s)) := counted_releaseFrame f (counted_portCount p _ h)
  have hout : ∀ x : State, counted r x → counted r (match f.suit with | some u => suitCount u (if b then 11 else 14) x | none => x) := fun x hx => by
    split
    · exact counted_suitCount _ _ hx
    · exact hx
  unfold missResponse
  dsimp only
  split
  · exact counted_receiptGone _ (counted_ite (hout _ hx) (counted_raise 9 1 (hout _ hx)))
  · exact counted_ite (hout _ hx) (counted_raise 9 1 (hout _ hx))
  · exact hx
/-- A response that is late raises its cause (R295). -/
theorem missResponse_late {f : TxFrame} (p : Nat) (s : State) {k : Kind} {o i : Nat} (h : f.tag = .response k o i) : causeStands 9 1 (missResponse p f false s) := by
  unfold missResponse
  rw [h]
  exact (counted_receiptGone k (counted_refl _)).1.2 9 1 (stands_raise_self 9 1 _ (by decide))
theorem boundCancel_cancels (p : Nat) (f : TxFrame) (s : State) : counted s (boundCancel p f s) ∧ causeStands 9 3 (boundCancel p f s) := by
  have hr : counted s (raise 9 3 (releaseFrame f (portCount p 13 s))) := counted_raise 9 3 (counted_releaseFrame f (counted_portCount p 13 (counted_refl s)))
  have hc := stands_raise_self 9 3 (releaseFrame f (portCount p 13 s)) (by decide)
  unfold boundCancel
  revert hr hc
  generalize raise 9 3 (releaseFrame f (portCount p 13 s)) = x
  intro hr hc
  have hs : counted x (match f.suit with | some u => suitCount u 12 x | none => x) := by
    split
    · exact counted_suitCount _ _ (counted_refl x)
    · exact counted_refl x
  dsimp only
  split
  · have ht := counted_receiptGone .receipt (counted_updNtp (fun n => { n with boundCancels := add48 n.boundCancels 1 }) hs)
    exact ⟨counted_trans ht hr, ht.1.2 9 3 hc⟩
  · exact ⟨counted_trans hs hr, hs.1.2 9 3 hc⟩
theorem missHost_untimed {p : Nat} {f : TxFrame} {s : State} (hf : isHost f = true) (hl : lateSendTrue (portCfg s p) = true) (hn : f.launchForm = false) :
    missHost p f s = updPort p (fun x => { x with untimed := { f with launch := none, late := true } :: x.untimed }) s := by
  unfold missHost
  split
  · exact if_pos (by rw [hl, hn]; rfl)
  · rename_i hx
    cases ht : f.tag with
    | host r a b rep => exact absurd ht (hx r a b rep)
    | _ => simp [isHost, ht] at hf

/-! ### The rows -/

theorem boundRisen_none (s : State) (p : Nat) {f : TxFrame} (h : f.bound = none) : boundRisen s p f = false := by
  unfold boundRisen
  rw [h]

/-- The row of TIMED_LAUNCH, for the head of a timed queue. -/
theorem timedLaunch_clauses {s : State} {p l : Nat} {f : TxFrame} {rest : List TxFrame} (h : (portOf s p).timed = f :: rest) (hl : f.launch = some l) :
    let y := moveTo l s
    let t := timedLaunch p s
    let onTime := y.now ≤ l ∧ (portOf y p).lineFree ≤ l ∧ txEnabled y p = true
    (isPaused y p f.prio = false → onTime → isHost f = false → f.bound = none → f.insert = none →
      (portOf t p).timed = rest ∧ ∃ stamp, Output.frame p stamp (padFrame f.bytes) ∈ t.out ∧ (f.launchForm = true → stamp = f.stamp)) ∧
    (isPaused y p f.prio = true → isHost f = false → (portOf t p).timed = rest) ∧
    (∀ k o i, isPaused y p f.prio = false → ¬ onTime → f.tag = .response k o i → (portOf t p).timed = rest ∧ causeStands 9 1 t) ∧
    (isPaused y p f.prio = false → onTime → isHost f = false → boundRisen (unqueue p f y) p f = true → (portOf t p).timed = rest ∧ causeStands 9 3 t) ∧
    (isHost f = true → f.launchForm = false → lateSendTrue (portCfg s p) = true → isPaused y p f.prio = true ∨ ¬ onTime →
      (portOf t p).timed = rest ∧ (portOf t p).untimed = { f with launch := none, late := true } :: (portOf s p).untimed) := by
  intro y t onTime
  have hy : (portOf y p).timed = f :: rest := (congrArg (fun l => (nth l p).timed) (moveTo_ports l s)).trans h
  have hyu : (portOf y p).untimed = (portOf s p).untimed := congrArg (fun l => (nth l p).untimed) (moveTo_ports l s)
  have hlen : p < (unqueue p f y).ports.length := (port_lt_of_timed hy).trans_eq (upd_length _ _ _).symm
  obtain ⟨hp, -, -, ht, hu⟩ := unqueue_leaves hy
  have e : t = _ := timedLaunch_head h hl
  rw [show unqueue p f (moveTo l s) = unqueue p f y from rfl, hp] at e
  have hcounted : ∀ z, counted (unqueue p f y) z → (portOf z p).timed = rest := fun z hz => (timed_of_wire hz.2 p).trans ht
  refine ⟨fun h0 ho hh hb hi => ?_, fun h1 hh => ?_, fun k o i h0 ho hr => ?_, fun h0 ho hh hb => ?_, fun hh hn hs ho => ?_⟩
  · have et : t = sendFrame p f (unqueue p f y) := by
      rw [e, h0, launchLate_false hy hh ho, if_neg (by decide), boundRisen_none _ p hb, if_neg (by decide)]
    obtain ⟨hout, hports⟩ := sendFrame_sends (s := unqueue p f y) hi hh
    rw [et]
    refine ⟨(nth_of_map PortRun.timed hports p).trans ht, _, hout, fun hform => ?_⟩
    rw [stampSent, hform, hl]
    rfl
  · have et : t = missResponse p f true (unqueue p f y) := by
      rw [e, h1, hh]
      rfl
    rw [et]
    exact hcounted _ (counted_missResponse p true (counted_refl _))
  · have hh : isHost f = false := by rw [isHost, hr]
    have et : t = missResponse p f false (unqueue p f y) := by
      rw [e, h0, launchLate_true hy ho, hh]
      rfl
    rw [et]
    exact ⟨hcounted _ (counted_missResponse p false (counted_refl _)), missResponse_late p _ hr⟩
  · have et : t = boundCancel p f (unqueue p f y) := by
      rw [e, h0, launchLate_false hy hh ho, if_neg (by decide), if_pos hb]
    obtain ⟨hc, hs⟩ := boundCancel_cancels p f (unqueue p f y)
    rw [et]
    exact ⟨hcounted _ hc, hs⟩
  · have hm : (isPaused y p f.prio || launchLate p l f (unqueue p f y)) = true := by
      rcases ho with h1 | h1
      · rw [h1]
        rfl
      · rw [launchLate_true hy h1, Bool.or_true]
    have hs' : lateSendTrue (portCfg (unqueue p f y) p) = true := (congrArg (fun c : Cfg => lateSendTrue (nth c.ports p)) (moveTo_work l s)).trans hs
    have et : t = updPort p (fun x => { x with untimed := { f with launch := none, late := true } :: x.untimed }) (unqueue p f y) := by
      rw [e, hm, if_pos rfl, hh, if_pos rfl]
      exact missHost_untimed hh hs' hn
    rw [et, portOf_updPort _ hlen]
    exact ⟨ht, congrArg (List.cons { f with launch := none, late := true }) (hu.trans hyu)⟩

theorem le_moveTo (n : Nat) (s : State) : n ≤ (moveTo n s).now := by
  unfold moveTo
  split
  · assumption
  · split <;> exact Nat.le_refl n
theorem nextUntimed_none {s : State} {p : Nat} (h : (portOf s p).untimed = []) : nextUntimed s p = none := by
  unfold nextUntimed
  rw [h]
  rfl
/-- A frame starts at once on a port whose line has no launch to come (R263). -/
theorem untimedTx_starts {p t : Nat} {s : State} {f : TxFrame} (hn : nextUntimed (begin_ t s) p = some f) (hx : txEnabled (begin_ t s) p = true)
    (ht : (portOf (begin_ t s) p).timed = []) (hc : (portOf (begin_ t s) p).calendar = []) :
    untimedTx p t s = sendFrame p f (updPort p (fun r => { r with untimed := r.untimed.erase f })
      (moveTo (max (begin_ t s).now (portOf (begin_ t s) p).lineFree + 8 * portByte (begin_ t s) p) (begin_ t s))) := by
  unfold untimedTx committedSpans
  dsimp only
  rw [hn]
  dsimp only
  rw [hx, ht, hc]
  exact if_neg (by simp)
theorem sendFrame_engine {p i : Nat} {s : State} {f : TxFrame} (hi : f.insert = none) (hg : f.tag = .engine i) : sendFrame p f s = onLine p f s := by
  rw [sendFrame_plain hi]
  unfold afterEgress
  rw [hg]
theorem onLine_leaves {p : Nat} {s : State} (f : TxFrame) (hp : p < s.ports.length) :
    (portOf (onLine p f s) p).untimed = (portOf s p).untimed ∧ Output.frame p (stampSent p f s) (padFrame f.bytes) ∈ (onLine p f s).out ∧ (onLine p f s).now = s.now := by
  have hw := counted_onLine p f s
  have hl := congrArg PortRun.untimed (portOf_updPort (fun r => { r with lineFree := s.now + (max 60 f.bytes.length + 4 + 12) * byteTime (portCfg s p).mode }) hp)
  exact ⟨(untimed_of_wire hw.2 p).trans hl, hw.1.1 _ (mem_emit _ _), (now_of_wire hw.2).trans rfl⟩

theorem port_lt_of_untimed {s : State} {p : Nat} {f : TxFrame} (h : nextUntimed s p = some f) : p < s.ports.length := by
  refine lt_length_of_nth fun e => ?_
  have hu : (portOf s p).untimed = [] := congrArg PortRun.untimed e
  rw [nextUntimed_none hu] at h
  cases h
theorem erased_leaves {p n : Nat} {x : State} {f : TxFrame} (hp : p < x.ports.length) :
    let y := updPort p (fun r => { r with untimed := r.untimed.erase f }) (moveTo n x)
    p < y.ports.length ∧ (portOf y p).untimed = (portOf x p).untimed.erase f ∧ n ≤ y.now := by
  have hm : p < (moveTo n x).ports.length := by rw [moveTo_ports]; exact hp
  have hu := congrArg PortRun.untimed (portOf_updPort (fun r => { r with untimed := r.untimed.erase f }) hm)
  refine ⟨hm.trans_eq (upd_length _ _ _).symm, hu.trans ?_, le_moveTo n x⟩
  exact congrArg (fun l => (nth l p).untimed.erase f) (moveTo_ports n x)
/-- The row of FRAME_TX, for an engine's frame. -/
theorem untimedTx_sends {p t i : Nat} {s : State} {f : TxFrame} (hn : nextUntimed (begin_ t s) p = some f) (hx : txEnabled (begin_ t s) p = true)
    (ht : (portOf (begin_ t s) p).timed = []) (hc : (portOf (begin_ t s) p).calendar = []) (hi : f.insert = none) (hg : f.tag = .engine i) :
    let x := begin_ t s
    let z := untimedTx p t s
    (portOf z p).untimed = (portOf x p).untimed.erase f ∧ (∃ stamp, Output.frame p stamp (padFrame f.bytes) ∈ z.out) ∧
    max x.now (portOf x p).lineFree + 8 * portByte x p ≤ z.now := by
  obtain ⟨hp, hu, hm⟩ := erased_leaves (n := max (begin_ t s).now (portOf (begin_ t s) p).lineFree + 8 * portByte (begin_ t s) p) (f := f) (port_lt_of_untimed hn)
  obtain ⟨l1, l2, l3⟩ := onLine_leaves f hp
  rw [untimedTx_starts hn hx ht hc, sendFrame_engine hi hg]
  exact ⟨l1.trans hu, ⟨_, l2⟩, hm.trans_eq l3.symm⟩

/-- Settles O35: the checks of a received frame in their order, and what the head of each transmit queue does. -/
theorem framesInAndOut : Obligations.FramesInAndOut := by
  unfold Obligations.FramesInAndOut
  refine ⟨fun p t ok f s => ?_, fun p l s f rest hr h hl => ?_, fun p t s hr => ?_⟩
  · have hk : kept (frameRx p t ok f s) = kept (begin_ t s) := kept_row (c := .frameRx p t ok f) rfl rfl
    have hx : exec (.frameRx p t ok f) s = .next (frameRx p t ok f s) := rfl
    intro x len c y z hu hrun
    obtain ⟨c1, c2, c3, c4, c5⟩ := frameRx_clauses p t ok f s hu hrun
    have hp : p < x.ports.length := port_lt_of_up hu
    have hy : counted x y := counted_countFrame p false _ _ (counted_refl x)
    have hz : counted x z := counted_portCount p 0 hy
    rw [hx]
    refine ⟨fun h => congrArg Outcome.next (c1 h), fun h1 h2 ho => congrArg Outcome.next (c2 h1 h2 ho), fun h1 h2 ho hm h14 hmode => ?_,
      fun h1 h2 ho hm h14 hmode => ?_, fun h1 h2 ho hm hpr ha hg => congrArg Outcome.next (c4 h1 h2 ho hm hpr ha hg), fun h1 h2 ho hm ha => ?_⟩
    · exact ⟨_, rfl, hk, (congrArg (fun w => (portOf w p).pauses) (c3 h1 h2 ho hm)).trans (macControl_pause hy hp h14 hmode)⟩
    · exact ⟨_, rfl, hk, (congrArg (fun w => (portOf w p).pauses) (c3 h1 h2 ho hm)).trans (macControl_pfc hy hp h14 hmode)⟩
    · rw [c5 h1 h2 ho hm ha] at hk ⊢
      have hheld : held z = held x := rfl
      refine ⟨fun code hcode hd hrate => ?_, fun hesmc htake => ?_⟩
      · obtain ⟨prio, stamp, e⟩ := classify_clubs (t := t) hcode (by rw [svcClosed_of_wire hz.2]; exact hd)
        rw [e] at hk ⊢
        have hrz : z.work.svc.clubsRate = 0 := by rw [work_of_wire hz.2]; exact hrate
        refine ⟨fun hnone => ?_, fun r hsome htake => ?_⟩
        · obtain ⟨hc, hn⟩ := takeClubs_drops (prio := prio) (stamp := stamp) (f := f) hrz ((ringFor_of_wire hz.2 p code).trans hnone)
          exact ⟨_, rfl, hk, hc, hn.trans (congrArg (fun n => add48 n 1) (drops_of_wire hz.2))⟩
        · obtain ⟨v, hq, hv⟩ := takeClubs_queues (prio := prio) (stamp := stamp) (f := f) hrz ((ringFor_of_wire hz.2 p code).trans hsome)
            ((canTake_of_held hheld _ _).trans htake)
          exact ⟨_, v, rfl, hk, hq.trans (congrArg (· ++ [v]) (queue_of_wire hz.2 r)), hv⟩
      · obtain ⟨q, e, hf, hport, hsuit, htv⟩ := classify_esmc (t := t) hesmc
        rw [e] at hk ⊢
        obtain ⟨v, hmem, hlen, v1, v2, v3, v4⟩ := takeRequest_waits (q := q) (s := z) (by rw [hf, hsuit]; exact (canTake_of_held hheld _ _).trans htake)
        exact ⟨_, v, rfl, hk, hmem, hlen.trans (congrArg (fun l => List.length l + 1) (waiting_of_wire hz.2)), v1.trans hf, v2.trans hport, v3.trans hsuit, v4.trans htv⟩
  · have hk : kept (whileRunning (timedLaunch p) { s with out := [] }) = kept s := kept_of_event (c := .timedLaunch p) rfl rfl
    have hx : exec (.timedLaunch p) s = .next (whileRunning (timedLaunch p) { s with out := [] }) := rfl
    have hrun : running { s with out := [] } = true := hr
    rw [whileRunning_true hrun] at hx hk
    obtain ⟨h1, h2, h3, h4, h5⟩ := timedLaunch_clauses (s := { s with out := [] }) (p := p) h hl
    intro y onTime
    rw [hx]
    refine ⟨fun a0 a1 a2 a3 a4 => ?_, fun a0 a1 => ⟨_, rfl, hk, h2 a0 a1⟩, fun k o i a0 a1 a2 => ⟨_, rfl, hk, h3 k o i a0 a1 a2⟩,
      fun a0 a1 a2 a3 => ⟨_, rfl, hk, h4 a0 a1 a2 a3⟩, fun a0 a1 a2 a3 => ⟨_, rfl, hk, h5 a0 a1 a2 a3⟩⟩
    obtain ⟨ht, stamp, ho, hs⟩ := h1 a0 a1 a2 a3 a4
    exact ⟨_, stamp, rfl, hk, ht, ho, hs⟩
  · have hx : exec (.frameTx p t) s = .next (untimedTx p t s) := congrArg Outcome.next (if_pos hr)
    have hk : kept (untimedTx p t s) = kept (begin_ t s) := kept_row (c := .frameTx p t) rfl hx
    intro x
    rw [hx]
    refine ⟨fun hn => ?_, fun f i hn htx ht hc hi hg => ?_⟩
    · unfold untimedTx
      dsimp only
      rw [hn]
    · obtain ⟨e1, ⟨stamp, e2⟩, e3⟩ := untimedTx_sends hn htx ht hc hi hg
      exact ⟨_, stamp, rfl, hk, e1, e2, e3⟩

end Sys2Proof.Machine
end
section
/-! PROOFS. What a commit makes of the two configuration sets (R21, R522). -/
namespace Sys2Proof.Machine
open Sys2Proof Host

/-- The shadow set and the working set. -/
def sets (s : State) : Cfg × Cfg := (s.shadow, s.work)

theorem sets_of_kept {s t : State} (h : kept t = kept s) : sets t = sets s := congrArg Prod.snd h

theorem sets_holdCommit (old : Cfg) (floors : Nat × Nat × Nat) (s : State) : sets (holdCommit old floors s) = (clearReset s.shadow, clearReset s.work) := by
  have hk : ∀ (c k : Bool) (a b : HoldCfg), sets (if c then s else commitSteer a b (commitLearning a b (raiseFloors k floors s))) = sets s := fun c k a b => by
    refine sets_of_kept ?_
    rw [kept_ite, kept_commitSteer, kept_commitLearning, kept_raiseFloors, ite_self]
  have hc : ∀ x : State, sets x = sets s → sets (clearResets x) = (clearReset s.shadow, clearReset s.work) := fun x hx =>
    congrArg (fun p : Cfg × Cfg => (clearReset p.1, clearReset p.2)) hx
  unfold holdCommit
  exact (sets_of_kept (kept_noteLeft _ _)).trans (hc _ (hk _ _ _ _))
/-- A set without the list of the PTP instances that are gone. -/
def goneDone (c : Cfg) : Cfg := { c with ptpGone := [] }
/-- Instances and bindings end and start outside the configuration sets; the list of those that are gone is done. -/
theorem sets_ptpCommit (old : Cfg) (s : State) : sets (ptpCommit old s) = (goneDone s.shadow, goneDone s.work) := by
  have hu : ∀ (l : List (Nat × SaRun)) (y : State), kept (updPtp (fun n => { n with sas := l }) y) = kept y := fun l y => kept_updPtp _ _
  have h0 : sets { s with work := { s.work with ptpGone := [] }, shadow := { s.shadow with ptpGone := [] } } =
    (goneDone s.shadow, goneDone s.work) := rfl
  unfold ptpCommit
  rw [← h0]
  generalize ({ s with work := { s.work with ptpGone := [] }, shadow := { s.shadow with ptpGone := [] } } : State) = x
  refine sets_of_kept ((hu _ _).trans ((kept_foldl _ (fun y e => ?started) _ _).trans ((kept_foldl _ (fun y b => ?bound) _ _).trans
    ((kept_foldl _ (fun y b => ?unbound) _ _).trans (kept_foldl _ (fun y e => ?ended) _ _)))))
  case started =>
    rw [kept_ite, kept_ptpHealth, ite_self]
  case bound =>
    rw [kept_ite, kept_startBind, kept_updBind, ite_self]
  case unbound =>
    rw [kept_ite, kept_endBind, ite_self]
  case ended =>
    rw [kept_ite, kept_endInst, ite_self]
theorem sets_ntpCommit (old : Cfg) (s : State) : sets (ntpCommit old s) = (erasedDone s.shadow, erasedDone s.work) := by
  have hErased : ∀ x : State, sets x = sets s → sets { x with work := erasedDone x.work, shadow := erasedDone x.shadow } = (erasedDone s.shadow, erasedDone s.work) :=
    fun x hx => congrArg (fun p : Cfg × Cfg => (erasedDone p.1, erasedDone p.2)) hx
  have hReceipts : ∀ x : State, kept (let c := x.work.rcpt
      let y := if c.slot ≠ old.rcpt.slot ∨ (!c.enable && old.rcpt.enable) then closeBatch x else x
      if c.loads = old.rcpt.loads then y else updNtp (fun n => { n with seed := (keyCopy y c.slot).getD [] }) y) = kept x := fun x => by
    dsimp only
    rw [kept_ite, kept_updNtp, ite_self, kept_ite, kept_closeBatch, ite_self]
  unfold ntpCommit
  exact (sets_of_kept (hReceipts _)).trans (hErased _ (sets_of_kept ((kept_rateCommit old _).trans (kept_updNtp _ _))))

/-- A set whose requests for a single action have been carried out (R117, R133, R371). -/
def settled (c : Cfg) : Cfg := erasedDone (goneDone (clearReset c))

/-- A commit makes the shadow set the working set, in both places without its requests for a single action (R21, R522). -/
theorem sets_applyCommit (s : State) : sets (applyCommit s) = (settled s.shadow, settled s.shadow) := by
  have hb : ∀ {f : Cfg → Cfg} {y z : State} {c : Cfg}, sets z = (f y.shadow, f y.work) → sets y = (c, c) → sets z = (f c, f c) := fun {f _ _ _} hz hy =>
    hz.trans (congrArg (fun p : Cfg × Cfg => (f p.1, f p.2)) hy)
  have h0 : sets { s with work := s.shadow } = (s.shadow, s.shadow) := rfl
  have hh : ∀ (y : State) (h : HostPart), sets { y with host := h } = sets y := fun _ _ => rfl
  unfold applyCommit
  refine (hh _ _).trans ?_
  rw [sets_of_kept (kept_settleBound _), sets_of_kept (kept_evalAll _), sets_of_kept (kept_filterCommit _ _), sets_of_kept (kept_audCommit _ _), sets_of_kept (kept_pairCommit _ _)]
  refine hb (f := erasedDone) (sets_ntpCommit _ _) (hb (f := goneDone) (sets_ptpCommit _ _) ?_)
  rw [sets_of_kept (kept_svcCommit _ _), sets_of_kept (kept_portCommit _ _), sets_of_kept (kept_gnssCommit _ _), sets_of_kept (kept_outCommit _ _), sets_of_kept (kept_tdcCommit _ _)]
  refine hb (f := clearReset) (sets_holdCommit _ _ _) ?_
  rw [sets_of_kept (kept_meldCommit _ _)]
  refine (sets_of_kept (kept_foldl _ (fun y d => kept_selCommit s.work d y) _ _)).trans (Eq.trans ?_ h0)
  exact sets_of_kept (kept_foldl _ (fun y o => kept_refCommit s.work o y) _ _)

end Sys2Proof.Machine
end
section
/-! PROOFS. The register banks of the host interfaces stay as they are while a commit is made. -/
namespace Sys2Proof.Machine
open Sys2Proof Host

/-- The register banks of the two host interfaces. -/
def banks (s : State) := (s.host.pcie, s.host.spi)

/-- A state that is put together holds the parts it is put together from. -/
theorem banks_mk (x0) (x1) (x2) (x3) (x4) (x5) (x6) (x7) (x8) (x9) (x10) (x11) (x12) (x13) (x14) (x15) (x16) (x17) (x18) (x19) (x20) (x21) (x22) (x23) (x24) (x25) (x26) (x27) (x28) (x29) (x30) (x31) (x32) (x33) :
    banks (State.mk x0 x1 x2 x3 x4 x5 x6 x7 x8 x9 x10 x11 x12 x13 x14 x15 x16 x17 x18 x19 x20 x21 x22 x23 x24 x25 x26 x27 x28 x29 x30 x31 x32 x33) = (x6.pcie, x6.spi) := Eq.trans rfl rfl
theorem banks_eta (s : State) : (s.host.pcie, s.host.spi) = banks s := Eq.trans rfl rfl
theorem banks_ite {c : Prop} [Decidable c] (a b : State) : banks (if c then a else b) = if c then banks a else banks b := by split <;> rfl
theorem banks_of_base' {s t : State} (h : base t = base s) : banks t = banks s := Prod.ext (banks_of_base h).1 (banks_of_base h).2
theorem banks_of_plain {s t : State} (h : plain t = plain s) : banks t = banks s := by
  have hp := congrArg banks h
  exact hp
theorem banks_foldl {α : Type} (f : State → α → State) (hf : ∀ s a, banks (f s a) = banks s) (l : List α) (s : State) : banks (l.foldl f s) = banks s := by
  induction l generalizing s with
  | nil => rfl
  | cons a l ih => exact (ih _).trans (hf s a)

theorem banks_raise (c b : Nat) (s : State) : banks (raise c b s) = banks s := banks_of_plain (plain_raise c b s)
theorem banks_raiseIdx (c b i : Nat) (s : State) : banks (raiseIdx c b i s) = banks s := banks_of_plain (plain_raiseIdx c b i s)
theorem banks_occur (c : Nat) (d : Int) (s : State) : banks (occur c d s) = banks s := banks_of_plain (plain_occur c d s)
theorem banks_bump (n : Nat) (s : State) : banks (bump n s) = banks s := rfl
theorem banks_noteRate (k : Nat) (s : State) : banks (noteRate k s) = banks s := banks_of_plain (plain_noteRate k s)
theorem banks_forward (x : LockInput) (s : State) : banks (forward x s) = banks s := banks_of_plain (plain_forward x s)
theorem banks_emit (o : Output) (s : State) : banks (emit o s) = banks s := rfl
theorem banks_updRing (k : Nat) (f : Ring → Ring) (s : State) : banks (updRing k f s) = banks s := rfl
theorem banks_updPair (f : PairRun → PairRun) (s : State) : banks (updPair f s) = banks s := rfl
theorem banks_ringEvent (k : Nat) (s : State) : banks (ringEvent k s) = banks s := banks_of_base' (base_ringEvent k s)
theorem banks_finishWait (k : WaitKey) (st d : Nat) (data : Bytes) (s : State) : banks (finishWait k st d data s) = banks s :=
  (of_replied banks (fun _ => rfl) (fun _ _ _ _ _ => rfl) (repliedFrom_finishWait k st d data s)).trans rfl


/-! ### The counter, the loops and the selectors -/

theorem banks_settleBound (s : State) : banks (settleBound s) = banks s := by
  unfold settleBound
  dsimp only
  split <;> simp only [banks_mk, banks_eta, banks_ite, banks_raise, ite_self]
theorem banks_disturb (amount freq : Nat) (s : State) : banks (disturb amount freq s) = banks s := by
  simp only [disturb, banks_mk, banks_eta, banks_ite, banks_raise, ite_self]
theorem banks_restartWindow (s : State) : banks (restartWindow s) = banks s := rfl
theorem banks_setOrigin (b0 : Option Nat) (s : State) : banks (setOrigin b0 s) = banks s := by
  unfold setOrigin
  dsimp only
  split <;> simp only [banks_mk, banks_eta]
theorem banks_closeHand (s : State) : banks (closeHand s) = banks s := by
  simp only [closeHand, banks_mk, banks_eta, banks_ite, banks_raise, ite_self]
theorem banks_afterStep (before : Counter) (s : State) : banks (afterStep before s) = banks s := by
  unfold afterStep
  dsimp only
  split <;> simp only [banks_mk, banks_eta, banks_closeHand, banks_raise, banks_restartWindow]
theorem banks_stepCounter (off : Int) (s : State) : banks (stepCounter off s) = banks s := by
  simp only [stepCounter, banks_mk, banks_eta, banks_afterStep, banks_occur]
theorem banks_loadCounter (ts : Nat) (s : State) : banks (loadCounter ts s) = banks s := by
  simp only [loadCounter, banks_mk, banks_eta, banks_ite, banks_afterStep, banks_occur, banks_raise, ite_self]
theorem banks_dropSlew (s : State) : banks (dropSlew s) = banks s := rfl
theorem banks_runSlew (owner : SlewOwner) (rem : Int) (limit : Nat) (s : State) : banks (runSlew owner rem limit s) = banks s := rfl
theorem banks_cancelPending (s : State) : banks (cancelPending s) = banks s := by
  unfold cancelPending
  dsimp only
  split <;> simp only [banks_mk, banks_eta, banks_raise]
theorem banks_updDpll (d : Nat) (f : DpllRun → DpllRun) (s : State) : banks (updDpll d f s) = banks s := rfl
theorem banks_setRate (d : Nat) (r : Int) (s : State) : banks (setRate d r s) = banks s := by
  unfold setRate
  dsimp only
  split <;> simp only [banks_mk, banks_eta, banks_ite, banks_bump, banks_raise, banks_updDpll, ite_self]
theorem banks_pauseLearning (s : State) : banks (pauseLearning s) = banks s := by
  unfold pauseLearning
  dsimp only
  split <;> simp only [banks_mk, banks_eta]
theorem banks_restartLearning (s : State) : banks (restartLearning s) = banks s := rfl
theorem banks_dpllNone (d : Nat) (b : Option Nat) (s : State) : banks (dpllNone d b s) = banks s := by
  unfold dpllNone
  dsimp only
  split <;> simp only [banks_mk, banks_eta, banks_ite, banks_dropSlew, banks_pauseLearning, banks_raise, banks_setOrigin, banks_setRate, banks_updDpll, ite_self]
theorem banks_enterTracking (d : Nat) (st : DpllState) (s : State) : banks (enterTracking d st s) = banks s := by
  simp only [enterTracking, banks_updDpll]
theorem banks_startTrackBound (o : Nat) (s : State) : banks (startTrackBound o s) = banks s := by
  simp only [startTrackBound, banks_mk, banks_eta]
theorem banks_tEnterBy (o : Nat) (unb step : Bool) (s : State) : banks (tEnterBy o unb step s) = banks s := by
  unfold tEnterBy
  dsimp only
  split <;> simp only [banks_mk, banks_eta, banks_ite, banks_cancelPending, banks_disturb, banks_dropSlew, banks_enterTracking, banks_loadCounter, banks_raise, banks_runSlew, banks_startTrackBound, banks_stepCounter, ite_self]
theorem banks_tEnter (o : Nat) (step : Bool) (s : State) : banks (tEnter o step s) = banks s := by
  simp only [tEnter, banks_tEnterBy]
theorem banks_tAccept (o : Nat) (step : Bool) (s : State) : banks (tAccept o step s) = banks s := by
  simp only [tAccept, banks_mk, banks_eta, banks_tEnterBy]
theorem banks_fEnter (d : Nat) (s : State) : banks (fEnter d s) = banks s := by
  simp only [fEnter, banks_enterTracking, banks_updDpll]
theorem banks_dpllSwitch (d : Nat) (held : HeldTerms) (s : State) : banks (dpllSwitch d held s) = banks s := by
  simp only [dpllSwitch, banks_mk, banks_eta, banks_ite, banks_updDpll, ite_self]
theorem banks_updRef (o : Nat) (f : RefRun → RefRun) (s : State) : banks (updRef o f s) = banks s := rfl
theorem banks_refEvent (o ev : Nat) (cause : Option Nat) (s : State) : banks (refEvent o ev cause s) = banks s := by
  unfold refEvent
  dsimp only
  split <;> simp only [banks_raiseIdx, banks_updRef]
theorem banks_startWtr (o : Nat) (s : State) : banks (startWtr o s) = banks s := by
  simp only [startWtr, banks_updRef]
theorem banks_holdClockFails (o : Nat) (s : State) : banks (holdClockFails o s) = banks s := by
  simp only [holdClockFails, banks_mk, banks_eta, banks_ite, ite_self]
theorem banks_staleMember (o cause : Nat) (s : State) : banks (staleMember o cause s) = banks s := by
  unfold staleMember
  dsimp only
  split <;> simp only [banks_mk, banks_eta]
theorem banks_applyCause (o cause : Nat) (s : State) : banks (applyCause o cause s) = banks s := by
  unfold applyCause
  dsimp only
  split <;> simp only [banks_ite, banks_holdClockFails, banks_refEvent, banks_staleMember, banks_startWtr, banks_updRef, ite_self]
theorem banks_setCheck (o k : Nat) (fails : Bool) (s : State) : banks (setCheck o k fails s) = banks s := by
  simp only [setCheck, banks_ite, banks_applyCause, ite_self]
theorem banks_sourceSilent (o : Nat) (s : State) : banks (sourceSilent o s) = banks s := by
  simp only [sourceSilent, banks_ite, banks_applyCause, ite_self]
theorem banks_makeFinding (o : Nat) (j : Int) (u : Nat) (s : State) : banks (makeFinding o j u s) = banks s := by
  unfold makeFinding
  dsimp only
  split <;> simp only [banks_mk, banks_eta, banks_raise, banks_refEvent, banks_updDpll, banks_updRef]
theorem banks_withdrawFinding (o : Nat) (s : State) : banks (withdrawFinding o s) = banks s := by
  simp only [withdrawFinding, banks_startWtr]
theorem banks_judge (o : Nat) (j : Int) (u : Nat) (s : State) : banks (judge o j u s) = banks s := by
  simp only [judge, banks_ite, banks_makeFinding, banks_withdrawFinding, ite_self]
theorem banks_tTake (o : Nat) (s : State) : banks (tTake o s) = banks s := by
  unfold tTake
  split
  · rfl
  · split <;> simp only [banks_ite, banks_tAccept, banks_tEnter, ite_self]
theorem banks_switchTo (d : Nat) (k : Option Nat) (s : State) : banks (switchTo d k s) = banks s := by
  unfold switchTo
  dsimp only
  split <;> simp only [banks_mk, banks_eta, banks_ite, banks_dpllNone, banks_dpllSwitch, banks_fEnter, banks_forward, banks_raise, banks_tTake, ite_self]
theorem banks_dummySel (d : Nat) (s : State) : banks (dummySel d s) = banks s := by
  unfold dummySel
  dsimp only
  split <;> simp only [banks_mk, banks_eta, banks_ite, banks_dpllNone, banks_dpllSwitch, ite_self]
theorem banks_cleanSplits (s : State) : banks (cleanSplits s) = banks s := rfl
theorem banks_evalSel (n d : Nat) (s : State) : banks (evalSel n d s) = banks s := by
  induction n generalizing d s with
  | zero => rfl
  | succ n ih =>
    unfold evalSel
    dsimp only
    split
    · exact banks_dummySel d s
    · split
      · rfl
      · split <;> simp only [banks_ite, banks_judge, banks_switchTo, ih, ite_self]
theorem banks_evalAll (s : State) : banks (evalAll s) = banks s := by
  unfold evalAll
  rw [banks_settleBound, banks_cleanSplits]
  exact banks_foldl _ (fun s d => banks_evalSel 40 d s) _ s

/-! ### The baseband, outputs and stop channels -/

theorem banks_updGnss (f : GnssRun → GnssRun) (s : State) : banks (updGnss f s) = banks s := rfl
theorem banks_gnssCommit (old : GnssCfg) (s : State) : banks (gnssCommit old s) = banks s := by
  simp only [gnssCommit, banks_updGnss]
theorem banks_updChan (c : Nat) (f : TdcChan → TdcChan) (s : State) : banks (updChan c f s) = banks s := rfl
theorem banks_gateAt (c start : Nat) (edges : List (Nat × Int)) (uncal : Bool) (s : State) : banks (gateAt c start edges uncal s) = banks s := by
  simp only [gateAt, banks_updChan]
theorem banks_openGate (c : Nat) (s : State) : banks (openGate c s) = banks s := by
  simp only [openGate, banks_gateAt]
theorem banks_updOut (n : Nat) (f : OutRun → OutRun) (s : State) : banks (updOut n f s) = banks s := rfl
theorem banks_takeCfg (n : Nat) (s : State) : banks (takeCfg n s) = banks s := by
  simp only [takeCfg, banks_ite, banks_finishWait, banks_updOut, ite_self]
theorem banks_outCommit (old : List OutCfg) (s : State) : banks (outCommit old s) = banks s := by
  refine banks_foldl _ (fun x n => ?_) _ s
  simp only [banks_ite, banks_takeCfg, banks_updOut, ite_self]
theorem banks_armNow (c : Nat) (from_ : Int) (s : State) : banks (armNow c from_ s) = banks s := by
  simp only [armNow, banks_ite, banks_openGate, banks_updChan, ite_self]
theorem banks_disarmChan (c : Nat) (s : State) : banks (disarmChan c s) = banks s := by
  simp only [disarmChan, banks_updChan]
theorem banks_tdcCommit (old : List TdcCfg) (s : State) : banks (tdcCommit old s) = banks s := by
  refine banks_foldl _ (fun x c => ?_) _ s
  simp only [banks_ite, banks_disarmChan, banks_updChan, ite_self]

/-! ### The ports, their cells and their queues -/

theorem banks_updPort (p : Nat) (f : PortRun → PortRun) (s : State) : banks (updPort p f s) = banks s := rfl
theorem banks_portCount (p j : Nat) (s : State) : banks (portCount p j s) = banks s := by
  simp only [portCount, banks_ite, banks_bump, banks_noteRate, banks_occur, ite_self]
theorem banks_portEvent (p ev : Nat) (s : State) : banks (portEvent p ev s) = banks s := by
  simp only [portEvent, banks_raiseIdx, banks_updPort]
theorem banks_shedCheck (s : State) : banks (shedCheck s) = banks s := by
  simp only [shedCheck, banks_mk, banks_eta, banks_ite, banks_raise, ite_self]
theorem banks_takeCells (u : Suit) (n : Nat) (s : State) : banks (takeCells u n s) = banks s := by
  simp only [takeCells, banks_mk, banks_eta, banks_shedCheck]
theorem banks_freeCells (u : Suit) (n : Nat) (s : State) : banks (freeCells u n s) = banks s := by
  simp only [freeCells, banks_mk, banks_eta, banks_shedCheck]
theorem banks_suitCount (u : Suit) (k : Nat) (s : State) : banks (suitCount u k s) = banks s := rfl
theorem banks_freeTx (n : Nat) (s : State) : banks (freeTx n s) = banks s := by
  simp only [freeTx, banks_mk, banks_eta, banks_shedCheck]
theorem banks_releaseFrame (f : TxFrame) (s : State) : banks (releaseFrame f s) = banks s := by
  unfold releaseFrame
  split <;> simp only [banks_freeCells, banks_freeTx]
theorem banks_receiptGone (k : Kind) (s : State) : banks (receiptGone k s) = banks s := by
  simp only [receiptGone, banks_mk, banks_eta, banks_ite, ite_self]
theorem banks_tsqWrite (p r first : Nat) (late dropped : Bool) (stamp : Nat) (s : State) : banks (tsqWrite p r first late dropped stamp s) = banks s := by
  simp only [tsqWrite, banks_ite, banks_bump, banks_emit, banks_raise, banks_ringEvent, banks_updRing, ite_self]
theorem banks_hostDone (p r first last : Nat) (report late : Bool) (outcome stamp : Nat) (s : State) : banks (hostDone p r first last report late outcome stamp s) = banks s := by
  simp only [hostDone, banks_ite, banks_emit, banks_ringEvent, banks_tsqWrite, banks_updRing, ite_self]
theorem banks_linkDrop (p : Nat) (s : State) (f : TxFrame) : banks (linkDrop p s f) = banks s := by
  unfold linkDrop
  dsimp only
  split <;> simp only [banks_hostDone, banks_portCount, banks_receiptGone, banks_releaseFrame, banks_suitCount]
theorem banks_dropQueued (p : Nat) (s : State) : banks (dropQueued p s) = banks s := by
  unfold dropQueued
  rw [banks_updPort]
  exact banks_foldl _ (fun x f => banks_linkDrop p x f) _ s
theorem banks_leaveTo (p : Nat) (st : PortState) (s : State) : banks (leaveTo p st s) = banks s := by
  simp only [leaveTo, banks_ite, banks_dropQueued, banks_portEvent, banks_updPort, ite_self]
theorem banks_toCalibrating (p : Nat) (s : State) : banks (toCalibrating p s) = banks s := by
  simp only [toCalibrating, banks_dropQueued, banks_leaveTo, banks_updPort]
theorem banks_setRank (p rank : Nat) (s : State) : banks (setRank p rank s) = banks s := by
  unfold setRank
  dsimp only
  split <;> simp only [banks_evalAll, banks_portEvent, banks_setCheck, banks_updPort, banks_updRef]
theorem banks_enqueue (p : Nat) (f : TxFrame) (s : State) : banks (enqueue p f s) = banks s := by
  unfold enqueue
  split
  · exact banks_updPort _ _ _
  · dsimp only
    split
    · split <;> simp only [banks_hostDone, banks_portCount, banks_portEvent, banks_receiptGone, banks_releaseFrame]
    · exact banks_updPort _ _ _

/-! ### The services -/

theorem banks_updNtp (f : NtpPart → NtpPart) (s : State) : banks (updNtp f s) = banks s := rfl
theorem banks_settleBuckets (old : RateCfg) (s : State) : banks (settleBuckets old s) = banks s := by
  simp only [settleBuckets, banks_updNtp]
theorem banks_closeBatch (s : State) : banks (closeBatch s) = banks s := by
  unfold closeBatch
  split <;> simp only [banks_updNtp]
theorem banks_updPtp (f : PtpPart → PtpPart) (s : State) : banks (updPtp f s) = banks s := rfl
theorem banks_updInst (i : Nat) (f : PtpRun → PtpRun) (s : State) : banks (updInst i f s) = banks s := by
  simp only [updInst, banks_updPtp]
theorem banks_updBind (i p : Nat) (f : BindRun → BindRun) (s : State) : banks (updBind i p f s) = banks s := by
  simp only [updBind, banks_updPtp]
theorem banks_sealMsg (c : PtpCfg) (p : Nat) (m : PtpMsg) (s : State) : banks (sealMsg c p m s).2 = banks s := by
  unfold sealMsg
  split
  · rfl
  · split
    · rfl
    · dsimp only
      rw [banks_ite, banks_updPtp, ite_self]
theorem banks_setBindState (i p : Nat) (st : PtpState) (s : State) : banks (setBindState i p st s) = banks s := by
  simp only [setBindState, banks_ite, banks_raiseIdx, banks_updBind, ite_self]
theorem banks_ptpHealth (i : Nat) (ok : Bool) (s : State) : banks (ptpHealth i ok s) = banks s := by
  simp only [ptpHealth, banks_ite, banks_evalAll, banks_setCheck, banks_updRef, ite_self]
theorem banks_dropTracking (i p : Nat) (s : State) : banks (dropTracking i p s) = banks s := by
  simp only [dropTracking, banks_ptpHealth, banks_updBind, banks_updInst]
theorem banks_loseMaster (i p : Nat) (s : State) : banks (loseMaster i p s) = banks s := by
  simp only [loseMaster, banks_dropTracking, banks_raiseIdx, banks_updInst]
theorem banks_startBind (i p : Nat) (s : State) : banks (startBind i p s) = banks s := by
  unfold startBind
  dsimp only
  split <;> simp only [banks_ite, banks_setBindState, banks_updBind, banks_updPtp, ite_self]
theorem banks_forwardGrant (k : Nat) (s : State) : banks (forwardGrant k s) = banks s := by
  unfold forwardGrant
  dsimp only
  split <;> simp only [banks_forward]
theorem banks_freeNeighbours (s : State) : banks (freeNeighbours s) = banks s := by
  simp only [freeNeighbours, banks_updPtp]
theorem banks_dropGrant (k : Nat) (s : State) : banks (dropGrant k s) = banks s := by
  simp only [dropGrant, banks_forwardGrant, banks_freeNeighbours, banks_updPtp]
theorem banks_buildSignal (i p mac ip : Nat) (tags tlvs : Bytes) (c : PtpCfg) (b : BindCfg) (s : State) : banks (buildSignal i p mac ip tags tlvs c b s).2 = banks s := by
  simp only [buildSignal, banks_sealMsg]
theorem banks_toDisabled (p : Nat) (s : State) : banks (toDisabled p s) = banks s := by
  simp only [toDisabled, banks_dropQueued, banks_finishWait, banks_leaveTo, banks_updPort]
theorem banks_portCommit (old : Cfg) (s : State) : banks (portCommit old s) = banks s := by
  refine banks_foldl _ (fun x p => ?_) _ s
  simp only [banks_ite, banks_toDisabled, banks_toCalibrating, banks_setRank, banks_updRef, banks_updPort, ite_self]
theorem banks_updSvc (f : SvcRun → SvcRun) (s : State) : banks (updSvc f s) = banks s := rfl
theorem banks_queueEngine (p : Nat) (bytes : Bytes) (i : Nat) (u : Suit) (s : State) : banks (queueEngine p bytes i u s) = banks s := by
  simp only [queueEngine, banks_enqueue, banks_takeCells]
theorem banks_svcCommit (old : Cfg) (s : State) : banks (svcCommit old s) = banks s := by
  simp only [svcCommit, banks_ite, banks_shedCheck, banks_updSvc, ite_self]
theorem banks_signalAs (old : Cfg) (i p mac ip : Nat) (tags tlvs : Bytes) (c : PtpCfg) (b : BindCfg) (s : State) :
    banks (signalAs old i p mac ip tags tlvs c b s).2 = banks s :=
  (banks_buildSignal i p mac ip tags tlvs c b { s with work := old }).trans rfl
theorem banks_cancelNow (old : Cfg) (k : Nat) (s : State) : banks (cancelNow old k s) = banks s := by
  unfold cancelNow
  split
  · rfl
  · split
    · exact (banks_queueEngine _ _ _ _ _).trans (banks_signalAs _ _ _ _ _ _ _ _ _ _)
    · rfl
theorem banks_endInst (old : Cfg) (i : Nat) (cancel : Bool) (s : State) : banks (endInst old i cancel s) = banks s := by
  unfold endInst
  rw [banks_evalAll, banks_setCheck, banks_updRef, banks_updPtp]
  refine (banks_foldl _ (fun x k => banks_dropGrant k x) _ _).trans ?_
  rw [banks_ite, banks_foldl _ (fun x k => banks_cancelNow old k x), ite_self]
theorem banks_endBind (i p : Nat) (s : State) : banks (endBind i p s) = banks s := by
  have hg := banks_foldl _ (fun x k => banks_dropGrant k x) ((s.ptp.grants.filter (fun e => e.2.inst == i && e.2.port == p)).map (·.1)) s
  unfold endBind
  dsimp only
  rw [banks_updPtp]
  split
  · rw [banks_ite, banks_loseMaster, ite_self]
    exact hg
  · exact hg
theorem banks_rateCommit (old : Cfg) (s : State) : banks (rateCommit old s) = banks s := by
  simp only [rateCommit, banks_ite, banks_settleBuckets, ite_self]

/-! ### The pair, the Scorecard and the audio ports -/

theorem banks_ownChannels (s : State) : banks (ownChannels s) = banks s := by
  unfold ownChannels
  rw [banks_mk, banks_eta]
  refine banks_foldl _ (fun x e => ?_) _ s
  rw [banks_updChan, banks_armNow, banks_disarmChan, banks_updChan]
theorem banks_releaseChannels (s : State) : banks (releaseChannels s) = banks s := by
  unfold releaseChannels
  dsimp only
  rw [banks_ite, banks_raise, ite_self]
  refine banks_foldl _ (fun x c => ?_) _ s
  rw [banks_updChan, banks_disarmChan]
theorem banks_pairStart (s : State) : banks (pairStart s) = banks s := by
  simp only [pairStart, banks_ite, banks_ownChannels, banks_updPair, banks_updRef, ite_self]
theorem banks_pairStop (s : State) : banks (pairStop s) = banks s := by
  simp only [pairStop, banks_ite, banks_evalAll, banks_releaseChannels, banks_updPair, banks_updRef, ite_self]
theorem banks_pairCommit (old : PairCfg) (s : State) : banks (pairCommit old s) = banks s := by
  simp only [pairCommit, banks_ite, banks_ownChannels, banks_pairStart, banks_pairStop, banks_releaseChannels, banks_updPair, ite_self]
theorem banks_filterCommit (old : List FilterCfg) (s : State) : banks (filterCommit old s) = banks s := by
  refine banks_foldl _ (fun x f => ?_) _ s
  split <;> rfl
theorem banks_updAud (p : Nat) (f : AudRun → AudRun) (s : State) : banks (updAud p f s) = banks s := rfl
theorem banks_idlePort (p : Nat) (s : State) : banks (idlePort p s) = banks s := by
  simp only [idlePort, banks_ite, banks_emit, ite_self]
theorem banks_apHealth (p : Nat) (s : State) : banks (apHealth p s) = banks s := by
  simp only [apHealth, banks_ite, banks_setCheck, banks_sourceSilent, banks_updRef, ite_self]
theorem banks_resetReceiver (p : Nat) (s : State) : banks (resetReceiver p s) = banks s := by
  simp only [resetReceiver, banks_updAud]
theorem banks_audCommit (old : Cfg) (s : State) : banks (audCommit old s) = banks s := by
  refine banks_foldl _ (fun x p => ?_) _ s
  simp only [banks_apHealth, banks_ite, banks_resetReceiver, banks_idlePort, ite_self]

/-! ### References, selectors, the Meld and the holdover model -/

theorem banks_refCommit (old : Cfg) (o : Nat) (s : State) : banks (refCommit old o s) = banks s := by
  unfold refCommit
  dsimp only
  split <;> simp only [banks_ite, banks_staleMember, banks_updRef, ite_self]
theorem banks_selCommit (old : Cfg) (d : Nat) (s : State) : banks (selCommit old d s) = banks s := by
  simp only [selCommit, banks_mk, banks_eta, banks_ite, ite_self]
theorem banks_dropMember (old : Cfg) (k : Nat) (s : State) : banks (dropMember old k s) = banks s := by
  unfold dropMember
  dsimp only
  split <;> simp only [banks_mk, banks_eta, banks_ite, banks_setCheck, ite_self]
theorem banks_meldCommit (old : Cfg) (s : State) : banks (meldCommit old s) = banks s := by
  have hDrop : ∀ (l : List Nat) (x : State), banks (l.foldl (fun s k => dropMember old k s) x) = banks x :=
    banks_foldl _ fun x k => banks_dropMember old k x
  simp only [meldCommit, banks_mk, banks_eta, banks_ite, banks_restartLearning, hDrop, ite_self]
theorem banks_raiseFloors (keep : Bool) (floors : Nat × Nat × Nat) (s : State) : banks (raiseFloors keep floors s) = banks s := by
  simp only [raiseFloors, banks_mk, banks_eta, banks_ite, ite_self]
theorem banks_commitSteer (a b : HoldCfg) (s : State) : banks (commitSteer a b s) = banks s := by
  simp only [commitSteer, banks_mk, banks_eta, banks_ite, ite_self]
theorem banks_commitLearning (a b : HoldCfg) (s : State) : banks (commitLearning a b s) = banks s := by
  simp only [commitLearning, banks_ite, banks_restartLearning, ite_self]
theorem banks_noteLeft (left : Bool) (s : State) : banks (noteLeft left s) = banks s := by
  simp only [noteLeft, banks_mk, banks_eta, banks_ite, ite_self]

/-! ### The commit -/

theorem banks_holdCommit (old : Cfg) (floors : Nat × Nat × Nat) (s : State) : banks (holdCommit old floors s) = banks s := by
  have hc : ∀ x : State, banks (clearResets x) = banks x := fun _ => rfl
  unfold holdCommit
  dsimp only
  rw [banks_noteLeft, hc, banks_ite, banks_commitSteer, banks_commitLearning, banks_raiseFloors, ite_self]
theorem banks_ptpCommit (old : Cfg) (s : State) : banks (ptpCommit old s) = banks s := by
  unfold ptpCommit
  dsimp only
  rw [banks_updPtp]
  refine (banks_foldl _ (fun y e => ?started) _ _).trans ((banks_foldl _ (fun y b => ?bound) _ _).trans
    ((banks_foldl _ (fun y b => ?unbound) _ _).trans (banks_foldl _ (fun y e => ?ended) _ _)))
  case started =>
    rw [banks_ite, banks_ptpHealth, ite_self]
  case bound =>
    rw [banks_ite, banks_startBind, banks_updBind, ite_self]
  case unbound =>
    rw [banks_ite, banks_endBind, ite_self]
  case ended =>
    rw [banks_ite, banks_endInst, ite_self]
theorem banks_ntpCommit (old : Cfg) (s : State) : banks (ntpCommit old s) = banks s := by
  simp only [ntpCommit, banks_ite, banks_updNtp, banks_closeBatch, banks_mk, banks_eta, banks_rateCommit, ite_self]
/-- A commit leaves the register banks as they are. -/
theorem banks_applyCommit (s : State) : banks (applyCommit s) = banks s := by
  unfold applyCommit
  dsimp only
  rw [banks_mk, banks_eta, banks_settleBound, banks_evalAll, banks_filterCommit, banks_audCommit, banks_pairCommit, banks_ntpCommit, banks_ptpCommit, banks_svcCommit,
    banks_portCommit, banks_gnssCommit, banks_outCommit, banks_tdcCommit, banks_holdCommit, banks_meldCommit]
  refine (banks_foldl _ (fun y d => banks_selCommit s.work d y) _ _).trans ?_
  exact banks_foldl _ (fun y o => banks_refCommit s.work o y) _ _

end Sys2Proof.Machine
end
section
/-! PROOFS. SYS_CONFIG_COMMIT and MIRRORED_COMMIT (R21, R406, R522). -/
namespace Sys2Proof.Machine
open Sys2Proof Host

/-- The reply holds the count of commits from byte 12 on (R522). -/
theorem fld_commitReply (s : State) (t : Nat) : fld (commitReply s t) 12 4 = s.host.commitCount % 2 ^ 32 := by
  unfold commitReply
  rw [List.append_assoc, fld_append_right (by simp)]
  simp only [tsBytes_length, Nat.sub_self]
  exact fld_le_here 4 _ _

theorem applyCommit_committed (s : State) : (applyCommit s).host.committed = true := by
  unfold applyCommit
  rfl
theorem banks_nextTick (s : State) : banks (nextTick s) = banks s := congrArg (fun h : HostPart => (h.pcie, h.spi)) (moveTo_host _ s)
theorem nextTick_shadow (s : State) : (nextTick s).shadow = s.shadow := moveTo_shadow _ s

/-! ### What the handler answers -/

theorem commit_discards {q : Req} {s : State} (hf : fits q 4 [inF 0 1 0 2, rsvF 1 3]) (h : fld q.params 0 1 = 2) :
    hSysConfigCommit q s = .done (commitReply { s with shadow := s.work } 0) { s with shadow := s.work } := by
  unfold hSysConfigCommit
  dsimp only
  rw [checked_of hf, if_pos h]
theorem commit_checks {q : Req} {s : State} (hf : fits q 4 [inF 0 1 0 2, rsvF 1 3]) (h : fld q.params 0 1 = 1) :
    (commitFails s s.shadow = none → hSysConfigCommit q s = .done (commitReply s 0) s) ∧
    (∀ st op, commitFails s s.shadow = some (st, op) → hSysConfigCommit q s = .refuse st op) := by
  unfold hSysConfigCommit
  dsimp only
  rw [checked_of hf, if_neg (by rw [h]; decide), if_pos h]
  exact ⟨fun hn => by rw [hn], fun st op he => by rw [he]⟩
theorem commit_waits {q : Req} {s : State} (hf : fits q 4 [inF 0 1 0 2, rsvF 1 3]) (h : fld q.params 0 1 = 0) (hm : s.work.pair.mode = 1) (hp : q.src = .partner) :
    hSysConfigCommit q s = .later (addWait { key := .mirroredCommit, opcode := 0x0103, req := q }
      (updPair (fun p => { p with commitFrom := p.commitFrom.orElse fun _ => some s.now }) s)) := by
  unfold hSysConfigCommit
  dsimp only
  rw [checked_of hf, if_neg (by rw [h]; decide), if_neg (by rw [h]; decide), if_pos (by rw [hm, hp]; simp)]
theorem tryCommit_passes {s : State} (h : commitFails s s.shadow = none) : tryCommit s = .ok (applyCommit s) := by
  unfold tryCommit
  rw [h]
theorem tryCommit_fails {s : State} {e : Nat × Nat} (h : commitFails s s.shadow = some e) : tryCommit s = .error e := by
  unfold tryCommit
  rw [h]

theorem commit_tries {q : Req} {s : State} (hf : fits q 4 [inF 0 1 0 2, rsvF 1 3]) (h : fld q.params 0 1 = 0) (hi : isMirrored q = false)
    (hp : s.work.pair.mode ≠ 1 ∨ q.src ≠ .partner) :
    let y := nextTick s
    (commitFails y s.shadow = none → hSysConfigCommit q s = .done (commitReply (applyCommit y) (applyCommit y).host.lastCommit) (applyCommit y)) ∧
    (∀ st op, commitFails y s.shadow = some (st, op) → hSysConfigCommit q s = .refuse st op) := by
  have hnow : ¬ (s.work.pair.mode == 1 && (isMirrored q || q.src == .partner)) = true := by
    rw [hi]
    rcases hp with hm | hs
    · simp [hm]
    · simp [hs]
  intro y
  rw [← nextTick_shadow s]
  unfold hSysConfigCommit
  dsimp only
  rw [checked_of hf, if_neg (by rw [h]; decide), if_neg (by rw [h]; decide), if_neg hnow]
  exact ⟨fun hn => by rw [tryCommit_passes hn], fun st op he => by rw [tryCommit_fails he]⟩

/-- A commit that is carried out is answered from the state that it leaves, in which both sets are the shadow set, its single actions done. -/
theorem commit_done {q : Req} {s e : State} {t : Nat} (hs : startsAt 0x0103 q s = true)
    (hd : hSysConfigCommit q (started 0x0103 q s) = .done (commitReply e t) e) (hb : banks e = banks (started 0x0103 q s))
    {c : Cfg} (hsets : sets e = (settled c, settled c)) (hc : e.host.committed = true) :
    ∃ data e, (Outcome.next (runCmd 0x0103 hSysConfigCommit q s) : Outcome State Fault Refusal) = done 0x0103 q data e ∧ e.work = e.shadow ∧
      e.work.refs = c.refs ∧ e.work.sels = c.sels ∧ e.work.dplls = c.dplls ∧ e.work.meld = c.meld ∧
      e.work.gnss = c.gnss ∧ e.work.outs = c.outs ∧ e.work.tdc = c.tdc ∧ e.work.ports = c.ports ∧
      e.work.svc = c.svc ∧ e.work.ptp = c.ptp ∧ e.work.ntp = c.ntp ∧ e.work.pair = c.pair ∧
      e.work.rings = c.rings ∧ e.work.aud = c.aud ∧ e.work.rec_ = c.rec_ ∧
      e.host.committed = true ∧ fld data 12 4 = e.host.commitCount % 2 ^ 32 := by
  obtain ⟨hpcie, hspi⟩ := Prod.mk.inj hb
  obtain ⟨hsh, hwk⟩ := Prod.mk.inj hsets
  refine ⟨_, e, runCmd_done hs hd hpcie hspi, hwk.trans hsh.symm, ?_⟩
  rw [hwk]
  exact ⟨rfl, rfl, rfl, rfl, rfl, rfl, rfl, rfl, rfl, rfl, rfl, rfl, rfl, rfl, rfl, hc, fld_commitReply e t⟩

/-! ### A commit that waits for a hand -/

theorem waitUntil_host (t : Nat) (s : State) : (waitUntil t s).host = s.host := by
  unfold waitUntil
  split
  · exact moveTo_host t s
  · rfl
theorem handFrom_host (s : State) : (handFrom s).host = s.host := by
  unfold handFrom toBoundary
  split
  · rfl
  · split
    · rfl
    · exact moveTo_host _ s
/-- The commits that wait, on their hand boundary. -/
def commitsOn (y : State) : State := commitWaiting y.host.waits.length { y with pair := { y.pair with commitFrom := none } }
theorem mirroredCommit_running {s : State} {t : Nat} (hr : running s = true) (h : s.pair.commitFrom = some t) :
    mirroredCommit s = commitsOn (handFrom (waitUntil (t + 100000000) s)) := by
  unfold mirroredCommit
  rw [h]
  exact if_neg (by rw [hr]; decide)
/-- The one packet that waits is answered as its check says. -/
theorem commitWaiting_one {s : State} {w : Wait} (hw : s.host.waits = [w]) (hk : w.key = .mirroredCommit) :
    (∀ st op, commitFails s s.shadow = some (st, op) → commitWaiting 1 s = finishWait .mirroredCommit st op [] s) ∧
    (commitFails s s.shadow = none →
      commitWaiting 1 s = finishWait .mirroredCommit stDone 0 (commitReply (applyCommit s) (applyCommit s).host.lastCommit) (applyCommit s)) := by
  have hf : waitsFor .mirroredCommit s = true := by simp [waitsFor, hw, hk]
  unfold commitWaiting
  rw [if_neg (by rw [hf]; decide)]
  exact ⟨fun st op he => by rw [tryCommit_fails he]; rfl, fun hn => by rw [tryCommit_passes hn]; rfl⟩

/-- The boundary is found and the one packet that waits for it is answered there. -/
theorem commitsOn_one {y z : State} {w : Wait} (hz : z = { y with pair := { y.pair with commitFrom := none } }) (hw : y.host.waits = [w]) (hk : w.key = .mirroredCommit) :
    (∀ st op, commitFails z z.shadow = some (st, op) → commitsOn y = finishWait .mirroredCommit st op [] z) ∧
    (commitFails z z.shadow = none →
      commitsOn y = finishWait .mirroredCommit stDone 0 (commitReply (applyCommit z) (applyCommit z).host.lastCommit) (applyCommit z)) := by
  have hzw : z.host.waits = [w] := by rw [hz]; exact hw
  have hc : commitsOn y = commitWaiting 1 z := by rw [commitsOn, hw, ← hz]; rfl
  rw [hc]
  exact commitWaiting_one hzw hk

/-- MIRRORED_COMMIT lets time pass to the first boundary from 100 µs on and answers the one packet that waits there. -/
theorem mirroredCommit_answers {s y z : State} {t : Nat} {w : Wait} (hy : y = handFrom (waitUntil (t + 100000000) { s with out := [] }))
    (hz : z = { y with pair := { y.pair with commitFrom := none } }) (hr : running s = true) (hc : s.pair.commitFrom = some t)
    (hw : s.host.waits = [w]) (hk : w.key = .mirroredCommit) :
    (∀ st op, commitFails z z.shadow = some (st, op) → exec .mirroredCommit s = .next (finishWait .mirroredCommit st op [] z)) ∧
    (commitFails z z.shadow = none → ∃ e, exec .mirroredCommit s = .next (finishWait .mirroredCommit 0 0 (commitReply e e.host.lastCommit) e) ∧
      e = applyCommit z) := by
  have hyw : y.host.waits = [w] := by
    rw [hy, handFrom_host, waitUntil_host]
    exact hw
  have hx : exec .mirroredCommit s = .next (commitsOn y) := by
    rw [hy]
    exact congrArg Outcome.next (mirroredCommit_running (s := { s with out := [] }) hr hc)
  obtain ⟨hFails, hPasses⟩ := commitsOn_one hz hyw hk
  rw [hx]
  exact ⟨fun st op he => congrArg Outcome.next (hFails st op he), fun hn => ⟨applyCommit z, congrArg Outcome.next (hPasses hn), rfl⟩⟩

/-- Settles O5: the handler's answer for each of the three operations, and the sets that a commit leaves. -/
theorem configurationIsCommitted : Obligations.ConfigurationIsCommitted := by
  unfold Obligations.ConfigurationIsCommitted
  refine ⟨fun q s hs hf => ?_, fun s t w hr hc hw hk => ?_⟩
  · intro x y
    have hx : exec (.sysConfigCommit q) s = .next (runCmd 0x0103 hSysConfigCommit q s) := rfl
    have hy : y.shadow = x.shadow := nextTick_shadow x
    rw [hx]
    refine ⟨fun h => ?discard, fun h hn => ?passes, fun h st op he => ?fails, fun h hp => ⟨fun hn => ?commits, fun st op he => ?refused⟩, fun h hm hp => ?later⟩
    case discard =>
      exact ⟨_, runCmd_done hs (commit_discards hf h) rfl rfl, fld_commitReply _ 0⟩
    case passes =>
      exact ⟨_, runCmd_done hs ((commit_checks hf h).1 hn) rfl rfl, fld_commitReply x 0⟩
    case fails =>
      exact congrArg Outcome.next (runCmd_refused hs ((commit_checks hf h).2 st op he))
    case commits =>
      have hd := (commit_tries hf h (startsAt_mirror hs) hp).1 hn
      have hsets := sets_applyCommit y
      rw [hy] at hsets
      exact commit_done hs hd ((banks_applyCommit y).trans (banks_nextTick x)) hsets (applyCommit_committed y)
    case refused =>
      exact congrArg Outcome.next (runCmd_refused hs ((commit_tries hf h (startsAt_mirror hs) hp).2 st op he))
    case later =>
      exact congrArg Outcome.next (runCmd_later hs (commit_waits hf h hm hp) rfl rfl)
  · exact mirroredCommit_answers rfl rfl hr hc hw hk

end Sys2Proof.Machine
end
section
/-! PROOFS. Rate words and frequencies (R35, R36, R596). -/
namespace Sys2Proof.Machine
open Sys2Proof Host

/-- Of a value from 0 on, the rounded quotient lies within half a unit, and an exact half goes up (R596). -/
theorem roundDivI_nearest {a : Int} {b : Nat} (ha : 0 ≤ a) (hb : 0 < b) :
    2 * (b * roundDivI a b) ≤ 2 * a + b ∧ 2 * a < 2 * (b * roundDivI a b) + b := by
  obtain ⟨n, rfl⟩ := Int.eq_ofNat_of_zero_le ha
  have hmod := Nat.mod_lt (2 * n + b) (y := 2 * b) (by omega)
  have hdiv : 2 * (b * ((2 * n + b) / (2 * b))) + (2 * n + b) % (2 * b) = 2 * n + b := by
    rw [← Nat.mul_assoc]
    exact Nat.div_add_mod _ _
  rw [roundDivI, if_neg (by omega), roundDiv, Int.natAbs_natCast, ← Int.natCast_mul]
  omega

/-- Settles O8: FREQ is linear in the rate word, and the quotient of the way back is the nearest one. -/
theorem frequencyOfRateWord : Obligations.FrequencyOfRateWord := by
  unfold Obligations.FrequencyOfRateWord
  have hNearest : ∀ f : Int, 0 ≤ f + 2 ^ 64 → 40960 * rateOfFreq f ≤ f + 2 ^ 64 + 20480 ∧ f + 2 ^ 64 < 40960 * rateOfFreq f + 20480 := by
    intro f hf
    have h := roundDivI_nearest (b := 40960) hf (by decide)
    unfold rateOfFreq
    push_cast at h ⊢
    omega
  have hLinear : ∀ r : Nat, freqOfRate r = (r : Int) * 40960 - 2 ^ 64 := fun r => rfl
  refine ⟨hLinear, fun r => ?_, hNearest⟩
  have h := hNearest (freqOfRate r)
  rw [hLinear] at h ⊢
  omega

/-- Settles O7: the rounding by evaluation, and device reset puts the time part of the reset state in place (R35, R555). -/
theorem nominalRateAfterReset : Obligations.NominalRateAfterReset := by
  unfold Obligations.NominalRateAfterReset
  obtain ⟨-, hReset⟩ := deviceResetLeavesResetValues
  refine ⟨rfl, rfl, by decide, by decide, rfl, fun cause s => ?_⟩
  obtain ⟨-, -, -, htime, -⟩ := hReset cause s
  rw [htime]
  rfl

end Sys2Proof.Machine
end
section
/-! PROOFS. The leap table (R50 to R52, R68, R69). -/
namespace Sys2Proof.Machine
open Sys2Proof Host

/-- Each entry takes 16 bytes after the 16 of the head (R69). -/
theorem leapReply_length (x : State) : (leapReply x).length = 16 + 16 * x.time.future.length := by
  simp only [leapReply, List.length_append, List.length_flatMap, leInt_length, leBytes_length, zeros_length, List.map_const', List.sum_replicate]
  simp only [smul_eq_mul]
  omega

theorem leapReply_fields (x : State) :
    fld (leapReply x) 0 2 = (x.time.currentOffset % 2 ^ 16).toNat ∧ fld (leapReply x) 2 1 = b2n x.time.policyAuto ∧
    fld (leapReply x) 8 2 = x.time.future.length % 2 ^ 16 := by
  have hb : b2n x.time.policyAuto % 256 = b2n x.time.policyAuto := by cases x.time.policyAuto <;> rfl
  simp only [leapReply, List.append_assoc, fld_append_right, fld_le_here, fld_leInt_here, leBytes_length, leInt_length, Nat.reduceLeDiff,
    Nat.reduceSub]
  exact ⟨rfl, hb, rfl⟩

/-- With FLAGS 0 nothing is written (R68). -/
theorem hLeapConfigure_reads {q : Req} {x : State} (hf : fitsN q 16 (leapFields q.params) (leapCount q.params) 16 leapEntryFields)
    (h : fld q.params 3 1 = 0) : hLeapConfigure q x = .done (leapReply x) x := by
  unfold hLeapConfigure
  dsimp only
  rw [checkedN_of hf, h]
  simp only [bit, Nat.zero_testBit, Bool.false_and, Bool.or_false, Bool.false_eq_true, if_false, refuseIf_not]

/-- With SET_CURRENT alone CURRENT_OFFSET is written where the entries still follow from it (R51, R68). -/
theorem hLeapConfigure_setsCurrent {q : Req} {x : State} (hf : fitsN q 16 (leapFields q.params) (leapCount q.params) 16 leapEntryFields)
    (h : fld q.params 3 1 = 1) (hok : leapsOk (fldI q.params 0 2) none x.time.future = true) :
    let e : State := { x with time := { x.time with currentOffset := fldI q.params 0 2, utcConfirmed := true } }
    hLeapConfigure q x = .done (leapReply e) e := by
  unfold hLeapConfigure
  dsimp only
  have hbits : bit 1 0 = true ∧ bit 1 1 = false ∧ bit 1 2 = false ∧ bit 1 3 = false := by decide
  obtain ⟨h0, h1, h2, h3⟩ := hbits
  rw [checkedN_of hf, h]
  simp only [h0, h1, h2, h3, hok, Bool.false_eq_true, if_true, if_false, Bool.not_true, Bool.or_true, Bool.false_and, Bool.and_false, refuseIf_not]

/-- The offset in force where no future entry is left (R52). -/
theorem offsetInForce_past {t : TimePart} {p : PastLeap} (hf : t.future = []) (hp : t.past = some p) (sec : Nat) :
    offsetInForce t sec = if p.entry.leapTai ≤ sec then p.entry.newOffset else p.preceding := by
  unfold offsetInForce
  rw [hf, hp]
  rfl

/-- The state at the second of a leap, with the entry retained as the past one (R52). -/
def leapPassed (e : LeapEntry) (es : List LeapEntry) (s : State) : State :=
  let y := moveToCounter (e.leapTai * 1000000000 * 2 ^ 48) s
  { y with time := { y.time with currentOffset := e.newOffset, past := some { entry := e, preceding := y.time.currentOffset }, future := es } }

theorem applyLeap_cons {e : LeapEntry} {es : List LeapEntry} {s : State} (h : s.time.future = e :: es) :
    applyLeap s = occur 0x2B 2 (raise 4 4 (forwardLeap (leapPassed e es s))) := by
  unfold applyLeap
  rw [h]
  rfl

/-- The passage of a leap changes the time part alone, and raises LEAP_APPLIED. -/
theorem applyLeap_frame {e : LeapEntry} {es : List LeapEntry} {s : State} (h : s.time.future = e :: es) :
    plain (applyLeap s) = plain (leapPassed e es s) ∧ causeStands 4 4 (applyLeap s) := by
  rw [applyLeap_cons h]
  refine ⟨?_, stands_occur _ _ (stands_raise_self 4 4 _ (by decide))⟩
  rw [plain_occur, plain_raise, forwardLeap, plain_forward]

/-- While the model's clock moves the time part keeps all but the counter, the slew, the accumulators and the course. -/
theorem moveTo_time (ps : Nat) (s : State) : ∃ c r a l, (moveTo ps s).time = { s.time with counter := c, slewRem := r, fdomAcc := a, course := l } := by
  unfold moveTo
  split
  · exact ⟨_, _, _, _, rfl⟩
  · split <;> exact ⟨_, _, _, _, rfl⟩
theorem plain_moveTo (ps : Nat) (s : State) : plain (moveTo ps s) =
    plain { s with now := (moveTo ps s).now, time := (moveTo ps s).time, incSum := (moveTo ps s).incSum } := by
  obtain ⟨n, v, c, i, h⟩ := moveTo_only ps s
  rw [h]
  rfl

/-- Settles O13: the reply and the writes of LEAP_CONFIGURE, and the table after the first future entry has passed. -/
theorem leapTable : Obligations.LeapTable := by
  unfold Obligations.LeapTable
  refine ⟨fun q s hs hf => ⟨fun h => ?reads, fun h hok => ?sets⟩, fun s e es hr hfut => ?passes⟩
  case reads =>
    obtain ⟨hcur, hpol, hcount⟩ := leapReply_fields (started 0x0414 q s)
    exact ⟨_, runCmd_done hs (hLeapConfigure_reads hf h) rfl rfl, leapReply_length _, hcur, hpol, hcount⟩
  case sets => exact ⟨_, runCmd_done hs (hLeapConfigure_setsCurrent hf h hok) rfl rfl⟩
  case passes =>
    let s0 : State := { s with out := [] }
    obtain ⟨hplain, hcause⟩ := applyLeap_frame (s := s0) hfut
    obtain ⟨c, r, a, l, hmove⟩ := moveTo_time (tickAfter (ticksTo (e.leapTai * 1000000000 * 2 ^ 48) s0) s0) s0
    have htime : (applyLeap s0).time = { s.time with
        counter := c, slewRem := r, fdomAcc := a, course := l
        currentOffset := e.newOffset, past := some { entry := e, preceding := s.time.currentOffset }, future := es } := by
      rw [time_of_plain hplain, leapPassed, moveToCounter, hmove]
    refine ⟨_, congrArg Outcome.next (whileRunning_true (s := s0) hr applyLeap), ?_⟩
    refine ⟨by rw [htime], by rw [htime], by rw [htime], by rw [htime], hcause, fun hes sec => ?_, ?_⟩
    · rw [offsetInForce_past (by rw [htime]; exact hes) (by rw [htime])]
    · rw [hplain, time_of_plain hplain, now_of_plain hplain, incSum_of_plain hplain]
      exact congrArg (fun x : State => { x with time := (leapPassed e es s0).time }) (plain_moveTo _ s0)

end Sys2Proof.Machine
end
section
/-! PROOFS. A pending step that an earlier step has carried the counter to (R43), a slew by the host after one of the T-DPLL (R46, R106), and
a batch whose only request was discarded (R296, R303). -/
namespace Sys2Proof.Machine
open Sys2Proof Host

/-- Refutes O11: where a step has carried the counter past APPLY_AT on this tick, the pending step is applied on the tick after (R43), so the
counter has its increment as well as the offset. The statement counts from the present tick. The chip has stepped to 9 s on tick 0, and a
step of 4 units of 2⁻¹⁶ ns is pending for 1 ns. -/
theorem not_timeIsSetAndStepped : ¬ Obligations.TimeIsSetAndStepped := by
  unfold Obligations.TimeIsSetAndStepped
  rintro ⟨-, -, -, hScheduled⟩
  let s : State := {
    boot := { inReset := false, stage := 9, cmdReady := true }, root := { locked := true }
    time := { counter := { sec := 9 }, lastStepTick := some 0, stepEpoch := 1, pend := some { kind := .step 4, applyAt := 65536 } } }
  have hRange : stepOutOfRange 4 (moveToCounter (65536 * 2 ^ 32) { s with out := [] }) = false := by decide +kernel
  obtain ⟨t, hx, -, hTotal, -⟩ := hScheduled s 4 65536 rfl rfl hRange
  have hLate : (t.time.counter.total : Int) = 9000000000 * 2 ^ 48 + rateNom + 4 * 2 ^ 32 := by
    rw [← Outcome.next.inj hx]
    decide +kernel
  have hNow : (moveToCounter (65536 * 2 ^ 32) { s with out := [] }).time.counter.total = 9000000000 * 2 ^ 48 := by decide +kernel
  rw [hLate, hNow] at hTotal
  exact absurd hTotal (by decide)

/-- What a finished command leaves of the time part is what its effect left: the reply does not touch it. -/
theorem time_of_done {op : Nat} {q : Req} {data : Bytes} {e t : State} (hq : isMirrored q = false) (h : .next t = done op q data e) :
    t.time = e.time := by
  rw [Outcome.next.inj h]
  exact time_of_plain (plain_base (base_reply op q stDone 0 data e hq))

/-- Refutes O12: a slew by the host also drops the record of the latest slew of the T-DPLL (R106), which the statement keeps. The chip is in
holdover after a slew of the T-DPLL that ran out, and the host slews by 5 units of 2⁻¹⁶ ns at the lowest rate limit. -/
theorem not_slewsRunAndEnd : ¬ Obligations.SlewsRunAndEnd := by
  unfold Obligations.SlewsRunAndEnd
  rintro ⟨hSlew, -⟩
  let s : State := {
    boot := { inReset := false, stage := 9, cmdReady := true }, root := { locked := true }
    time := { valid := true, lastSlew := some (0, 7, 1) }, dplls := { state := .holdover } :: List.replicate 3 {} }
  let q : Req := {
    time := 0, src := .pcieReg, tag := 0, length := 5, flags := 0, reserved := 0
    params := leInt 8 5 ++ leBytes 8 40960 ++ zeros 4 }
  obtain ⟨hRuns, -⟩ := hSlew q s (by decide +kernel) (by decide +kernel) (by decide +kernel) (by decide +kernel)
  obtain ⟨data, e, hx, he, -⟩ := hRuns (by decide +kernel) (by decide +kernel) (by decide +kernel)
  have hDropped : (runCmd 0x0413 hTimeSlew q s).time.lastSlew = none := by decide +kernel
  have hKept : e.time.lastSlew = some (0, 7, 1) := by
    rw [he]
    decide +kernel
  rw [time_of_done (q := q) (t := runCmd 0x0413 hTimeSlew q s) (by decide) hx, hKept] at hDropped
  cases hDropped

/-- A request whose job was discarded gets no response (R303). -/
theorem sendReceipt_dropped {s : State} {x : Receipt × Bytes} (h : x.1.dropped = true) : sendReceipt s x = s := if_pos h

/-- A batch of one request that was discarded is signed, and its port's launches stay as they were. -/
theorem batchSigned_dropped {t : Nat} {s : State} {b : Batch} {r : Receipt} (hc : (begin_ t s).ntp.closed = [b]) (hb : b.leaves = [r])
    (hr : r.dropped = true) : (batchSigned t s).ports = s.ports := by
  unfold batchSigned
  dsimp only
  rw [hc]
  dsimp only
  rw [hb]
  have hDropped : ∀ (y : State) (l : List Bytes), (([r].zip l).foldl sendReceipt y) = y := by
    intro y l
    cases l with
    | nil => rfl
    | cons p l =>
      rw [List.zip_cons_cons, List.zip_nil_left]
      exact sendReceipt_dropped (x := (r, p)) hr
  rw [hDropped]
  exact begin_ports t s

/-- Refutes O40: a batch of one leaf whose request was discarded with a faulty Trick engine gets no response and reserves no launch
(R303), though its port is UP. -/
theorem not_rotationsAndBatches : ¬ Obligations.RotationsAndBatches := by
  unfold Obligations.RotationsAndBatches
  rintro ⟨-, -, hSigned⟩
  let r : Receipt := { port := 0, dropped := true }
  let b : Batch := { id := 1, leaves := [r] }
  let s : State := {
    boot := { inReset := false, stage := 9, cmdReady := true }, root := { locked := true }
    ports := { state := .up } :: List.replicate 15 {}, ntp := { closed := [b] } }
  obtain ⟨-, hOne⟩ := hSigned 0 s rfl
  obtain ⟨t, hx, -, -, -, -, -, hLaunch⟩ := hOne b [] rfl
  obtain ⟨e, he, -⟩ := hLaunch r rfl rfl
  have hPorts : t.ports = s.ports := by
    rw [← Outcome.next.inj hx]
    exact batchSigned_dropped (t := 0) (s := s) (b := b) rfl rfl rfl
  have hNone : (portOf t r.port).calendar = [] := by
    rw [portOf, hPorts]
    rfl
  rw [hNone] at he
  cases he

end Sys2Proof.Machine
end
section
/-! PROOFS. The choice of a selector among its eligible candidates (R86 to R88, R92). -/
namespace Sys2Proof.Machine
open Sys2Proof Host

/-! ### Eligible candidates -/

theorem mem_eligibles (s : State) (d k : Nat) : k ∈ eligibles s d ↔
    k < (nth s.work.sels d).slate.length ∧ eligible s d (nth (nth s.work.sels d).slate k) = true := by
  simp [eligibles]

/-- What makes a slate entry eligible: for the T-DPLL also its class (R71, R86, R92). -/
theorem eligible_facts {s : State} {d : Nat} {e : SlateEntry} (h : eligible s d e = true) :
    (refOf s e.ord).state = .qualified ∧ e.bid ≠ 0 ∧ e.lockout = false ∧ (d = 0 → classOfSrc s.work e.ord ≠ .freq) ∧
    (d = 0 → classOfSrc s.work e.ord = .phase → s.time.valid = true) := by
  simp only [eligible, Bool.and_eq_true, beq_iff_eq, bne_iff_ne, Bool.not_eq_true'] at h
  obtain ⟨⟨⟨⟨hstate, hbid⟩, hlock⟩, hclass⟩, -⟩ := h
  refine ⟨hstate, hbid, hlock, fun hd hc => ?_, fun hd hc => ?_⟩
  · rw [hc] at hclass
    simp [hd] at hclass
  · rw [hc] at hclass
    simpa [hd] using hclass

/-- A candidate, where there is one, is among some others. -/
def among (cur : Option Nat) (l : List Nat) : Bool :=
  match cur with
  | some k => l.contains k
  | none => false

theorem among_iff (cur : Option Nat) (l : List Nat) : among cur l = true ↔ ∃ k, cur = some k ∧ k ∈ l := by
  cases cur <;> simp [among]
theorem among_some {k : Nat} {l : List Nat} (h : k ∈ l) : among (some k) l = true := (among_iff _ _).mpr ⟨k, rfl, h⟩
/-- A candidate that is among some others is one of them. -/
theorem mem_of_among {cur : Option Nat} {l : List Nat} {k : Nat} (h : among cur l = true) (hk : cur = some k) : k ∈ l := by
  obtain ⟨j, hj, hmem⟩ := (among_iff cur l).mp h
  exact Option.some.inj (hj.symm.trans hk) ▸ hmem

/-! ### The least bid, and seniority -/

/-- The least bid of some candidates, as `choose` folds it (R88). -/
def leastBid (c : SelCfg) (el : List Nat) (b : Nat) : Nat := el.foldl (fun m k => min m (nth c.slate k).bid) b

theorem leastBid_le (c : SelCfg) (el : List Nat) (b : Nat) : leastBid c el b ≤ b ∧ ∀ k ∈ el, leastBid c el b ≤ (nth c.slate k).bid := by
  induction el generalizing b with
  | nil => exact ⟨le_rfl, fun k hk => absurd hk (List.not_mem_nil)⟩
  | cons j el ih =>
    obtain ⟨hb, hel⟩ := ih (min b (nth c.slate j).bid)
    refine ⟨hb.trans (min_le_left _ _), fun k hk => ?_⟩
    rcases List.mem_cons.mp hk with rfl | hk
    · exact hb.trans (min_le_right _ _)
    · exact hel k hk

/-- The least bid is the start of the fold, or that of a candidate. -/
theorem leastBid_attained (c : SelCfg) (el : List Nat) (b : Nat) : leastBid c el b = b ∨ ∃ k ∈ el, (nth c.slate k).bid = leastBid c el b := by
  induction el generalizing b with
  | nil => exact .inl rfl
  | cons j el ih =>
    rcases ih (min b (nth c.slate j).bid) with h | ⟨k, hk, h⟩
    · rcases min_choice b (nth c.slate j).bid with hm | hm
      · exact .inl (h.trans hm)
      · exact .inr ⟨j, List.mem_cons_self, (h.trans hm).symm⟩
    · exact .inr ⟨k, List.mem_cons_of_mem j hk, h⟩

/-- The eligible candidates of the least bid. -/
def tied (s : State) (d : Nat) : List Nat :=
  (eligibles s d).filter fun k => (nth (nth s.work.sels d).slate k).bid == leastBid (nth s.work.sels d) (eligibles s d) 256

theorem mem_tied (s : State) (d k : Nat) : k ∈ tied s d ↔
    k ∈ eligibles s d ∧ (nth (nth s.work.sels d).slate k).bid = leastBid (nth s.work.sels d) (eligibles s d) 256 := by
  simp [tied]

/-- The most senior of some candidates is one of them (R88). -/
theorem senior_mem {s : State} {sl : List SlateEntry} {l : List Nat} {m : Nat} (h : senior s sl l = some m) : m ∈ l := by
  induction l generalizing m with
  | nil => cases h
  | cons k l ih =>
    unfold senior at h
    split at h
    · exact Option.some.inj h ▸ List.mem_cons_self
    · rename_i j hj
      split at h
      · exact List.mem_cons_of_mem k (Option.some.inj h ▸ ih hj)
      · exact Option.some.inj h ▸ List.mem_cons_self
theorem senior_some (s : State) (sl : List SlateEntry) {l : List Nat} (h : l ≠ []) : ∃ m, senior s sl l = some m := by
  cases l with
  | nil => exact absurd rfl h
  | cons k l =>
    unfold senior
    split
    · exact ⟨k, rfl⟩
    · split <;> exact ⟨_, rfl⟩

/-! ### The choice, case by case -/

/-- The choice in the order of its rules: none, the manual pick, the candidate kept, the candidate of the least bid kept, the most senior
candidate of the least bid (R87, R88). -/
theorem choose_eq (s : State) (d : Nat) : choose s d =
    if ((nth s.sels d).mode == .none || (eligibles s d).isEmpty) = true then none
    else if ((nth s.sels d).mode == .manual && among (nth s.sels d).pick (eligibles s d)) = true then (nth s.sels d).pick
    else if (!(nth s.work.sels d).revertive && among (nth s.sels d).selected (eligibles s d)) = true then (nth s.sels d).selected
    else if among (nth s.sels d).selected (tied s d) = true then (nth s.sels d).selected
    else senior s (nth s.work.sels d).slate (tied s d) := rfl

theorem choose_none {s : State} {d : Nat} (h : (nth s.sels d).mode = .none ∨ eligibles s d = []) : choose s d = none := by
  rw [choose_eq, if_pos (by simpa using h)]

/-- An eligible pick of a manual selector is its choice (R87). -/
theorem choose_manual {s : State} {d k : Nat} (hm : (nth s.sels d).mode = .manual) (hp : (nth s.sels d).pick = some k) (hk : k ∈ eligibles s d) :
    choose s d = some k := by
  rw [choose_eq, if_neg (by simpa [hm] using List.ne_nil_of_mem hk), if_pos (by simp [hm, hp, among_some hk]), hp]

/-- A selector that is not revertive keeps its eligible candidate (R88). -/
theorem choose_keeps {s : State} {d k : Nat} (hm : (nth s.sels d).mode = .automatic) (hr : (nth s.work.sels d).revertive = false)
    (hs : (nth s.sels d).selected = some k) (hk : k ∈ eligibles s d) : choose s d = some k := by
  rw [choose_eq, if_neg (by simpa [hm] using List.ne_nil_of_mem hk), if_neg (by simp [hm]), if_pos (by simp [hr, hs, among_some hk]), hs]

/-- An automatic, revertive selector stays where its candidate has the least bid, and else takes the most senior of that bid (R88). -/
theorem choose_revertive {s : State} {d : Nat} (hm : (nth s.sels d).mode = .automatic) (hr : (nth s.work.sels d).revertive = true)
    (hne : eligibles s d ≠ []) :
    choose s d = if among (nth s.sels d).selected (tied s d) = true then (nth s.sels d).selected
      else senior s (nth s.work.sels d).slate (tied s d) := by
  rw [choose_eq, if_neg (by simpa [hm] using hne), if_neg (by simp [hm]), if_neg (by simp [hr])]

/-- Whatever the mode, the choice is an eligible candidate. -/
theorem choose_mem {s : State} {d k : Nat} (h : choose s d = some k) : k ∈ eligibles s d := by
  rw [choose_eq] at h
  split at h
  · cases h
  split at h
  · rename_i hpick
    exact mem_of_among (Bool.and_eq_true_iff.mp hpick).2 h
  split at h
  · rename_i hkeep
    exact mem_of_among (Bool.and_eq_true_iff.mp hkeep).2 h
  split at h
  · rename_i hstay
    exact List.mem_of_mem_filter (mem_of_among hstay h)
  · exact List.mem_of_mem_filter (senior_mem h)

/-- The choice of an automatic, revertive selector has the least bid. -/
theorem choose_tied {s : State} {d k : Nat} (hm : (nth s.sels d).mode = .automatic) (hr : (nth s.work.sels d).revertive = true)
    (h : choose s d = some k) : k ∈ tied s d := by
  rw [choose_revertive hm hr (List.ne_nil_of_mem (choose_mem h))] at h
  split at h
  · rename_i hstay
    exact mem_of_among hstay h
  · exact senior_mem h

/-- Bids are bytes, so the least one is that of a candidate. -/
theorem tied_ne_nil {s : State} {d : Nat} (hb : ∀ e ∈ (nth s.work.sels d).slate, e.bid < 256) (hne : eligibles s d ≠ []) : tied s d ≠ [] := by
  obtain ⟨k, hk⟩ := List.exists_mem_of_ne_nil _ hne
  obtain ⟨hlen, -⟩ := (mem_eligibles s d k).mp hk
  have hmem : nth (nth s.work.sels d).slate k ∈ (nth s.work.sels d).slate := by
    rw [nth_of_get (List.getElem?_eq_getElem hlen)]
    exact List.getElem_mem hlen
  have hlt : leastBid (nth s.work.sels d) (eligibles s d) 256 < 256 := ((leastBid_le _ _ 256).2 k hk).trans_lt (hb _ hmem)
  rcases leastBid_attained (nth s.work.sels d) (eligibles s d) 256 with h | ⟨j, hj, h⟩
  · omega
  · exact List.ne_nil_of_mem ((mem_tied s d j).mpr ⟨hj, h⟩)

/-- Settles O16, case by case of the selector's mode. -/
theorem selectorChoice : Obligations.SelectorChoice := by
  unfold Obligations.SelectorChoice
  intro s d c r
  refine ⟨choose_none, fun k => choose_mem, fun k hk => ?facts, fun k => choose_manual, fun k => choose_keeps, fun hm hr hb => ⟨?some, ?least, ?stays⟩⟩
  case facts =>
    obtain ⟨hlen, he⟩ := (mem_eligibles s d k).mp hk
    exact ⟨hlen, eligible_facts he⟩
  case some =>
    intro hne
    rw [choose_revertive hm hr hne]
    split
    · rename_i hstay
      obtain ⟨k, hk, -⟩ := (among_iff _ _).mp hstay
      exact ⟨k, hk⟩
    · exact senior_some s c.slate (tied_ne_nil hb hne)
  case least =>
    intro k j h hj
    rw [((mem_tied s d k).mp (choose_tied hm hr h)).2]
    exact (leastBid_le c (eligibles s d) 256).2 j hj
  case stays =>
    intro k hsel hk hmin
    obtain ⟨m, hmem⟩ := List.exists_mem_of_ne_nil _ (tied_ne_nil hb (List.ne_nil_of_mem hk))
    obtain ⟨hm', hbid⟩ := (mem_tied s d m).mp hmem
    have hleast := le_antisymm ((hmin m hm').trans_eq hbid) ((leastBid_le c (eligibles s d) 256).2 k hk)
    rw [choose_revertive hm hr (List.ne_nil_of_mem hk), hsel, if_pos (among_some ((mem_tied s d k).mpr ⟨hk, hleast⟩))]

end Sys2Proof.Machine
end
section
/-! PROOFS. The commands of references and selectors (R87, R93 to R100). -/
namespace Sys2Proof.Machine
open Sys2Proof Host

/-! ### Writes of the shadow set -/

/-- REF_CONFIGURE is refused with RESOURCE where two pins would be in PULSE_TOD mode (R75, R94). -/
theorem hRefConfigure_writes {q : Req} {x : State} {o : Nat} (hf : fits q 40 (refCfgFields q.params)) (ho : ordOf (fld q.params 0 2) = some o) :
    let refs := x.shadow.refs.set o (refCfgOf q.params)
    let tods := (List.range 12).filter fun k => (nth refs k).enable && (nth refs k).mode == 3
    (tods.length ≤ 1 → hRefConfigure q x = .done [] { x with shadow := { x.shadow with refs := refs } }) ∧
    (1 < tods.length → hRefConfigure q x = .refuse stResource 0) := by
  intro refs tods
  have hh : hRefConfigure q x = refuseIf (decide (tods.length > 1)) stResource 0 (.done [] { x with shadow := { x.shadow with refs := refs } }) := by
    refine (checked_of hf).trans ?_
    simp only [ho, Option.getD_some]
    rfl
  rw [hh]
  exact ⟨fun h => refuseIf_not (decide_eq_false (by omega)), fun h => refuseIf_true (decide_eq_true h)⟩

theorem hRefQualifyPolicy_writes {q : Req} {x : State} {o : Nat} (hf : fits q 64 (refPolFields q.params)) (ho : ordOf (fld q.params 0 2) = some o) :
    hRefQualifyPolicy q x = refuseIf (fld q.params 6 1 == 1 && !x.shadow.meld.enable) stBadState 0
      (writes (fun c => { c with pols := c.pols.set o (refPolOf q.params) }) x) := by
  refine (checked_of hf).trans ?_
  simp only [ho, Option.getD_some]

/-! ### REF_STATUS -/

theorem refStatusReply_length (x : State) (o : Nat) : (refStatusReply x o).length = 56 := by
  simp [refStatusReply]

theorem refStateCode_lt (st : RefState) : refStateCode st < 256 := by cases st <;> decide

theorem refStatusReply_fields (x : State) (o : Nat) :
    fld (refStatusReply x o) 0 2 = idOf o % 65536 ∧ fld (refStatusReply x o) 2 1 = refStateCode (refOf x o).state ∧
    fld (refStatusReply x o) 4 2 = (refOf x o).cause % 65536 ∧ fld (refStatusReply x o) 6 2 = (refOf x o).events % 65536 ∧
    fld (refStatusReply x o) 24 8 = (refOf x o).claimed % 2 ^ 64 ∧ fld (refStatusReply x o) 44 4 = (refOf x o).samples % 2 ^ 32 ∧
    fld (refStatusReply x o) 48 2 = (refOf x o).lastCause % 65536 := by
  have hst := Nat.mod_eq_of_lt (refStateCode_lt (refOf x o).state)
  simp only [refStatusReply, List.append_assoc, fld_append_right, fld_le_here, leBytes_length, leInt_length, Nat.reduceLeDiff,
    Nat.reduceSub, Nat.reducePow, true_and, and_true]
  exact hst

/-- REF_STATUS of one source clears its events where it is asked to (R96). -/
theorem hRefStatus_one {q : Req} {x : State} {o : Nat} {r : RefRun} (hf : fits q 4 [F 0 2 (fun v => v == 0xFFFF || (ordOf v).isSome), inF 2 2 0 1])
    (hall : fld q.params 0 2 ≠ 0xFFFF) (ho : ordOf (fld q.params 0 2) = some o) (hr : x.refs[o]? = some r) :
    hRefStatus q x = .done (refStatusReply x o)
      (if (fld q.params 2 2).testBit 0 then { x with refs := x.refs.set o { r with events := 0 } } else x) := by
  refine (checked_of hf).trans ?_
  simp only [hall, if_false, ho, Option.getD_some, updRef, upd_of_get hr, bit]

/-- REF_STATUS of 0xFFFF answers with a mask (R96). -/
theorem hRefStatus_all {q : Req} {x : State} (hf : fits q 4 [F 0 2 (fun v => v == 0xFFFF || (ordOf v).isSome), inF 2 2 0 1])
    (hall : fld q.params 0 2 = 0xFFFF) :
    hRefStatus q x = .done (leBytes 16 (packBits (x.refs.map fun r => r.events != 0)))
      (if (fld q.params 2 2).testBit 0 then { x with refs := x.refs.map fun r => { r with events := 0 } } else x) :=
  (checked_of hf).trans (if_pos hall)

theorem host_ite {c : Prop} [Decidable c] {s t : State} (h : t.host = s.host) : (if c then t else s).host = s.host := by
  split
  · exact h
  · rfl

/-- Settles O14, command by command: the handler's answer, and the fields of the status reply. -/
theorem referencesAreConfigured : Obligations.ReferencesAreConfigured := by
  unfold Obligations.ReferencesAreConfigured
  refine ⟨?configure, ?policy, fun q s hs hf => ⟨?one, ?all⟩⟩
  case configure =>
    intro q s o hs hf x p c refs tods ho
    obtain ⟨hw, hr⟩ := hRefConfigure_writes (x := x) hf ho
    exact ⟨fun h => runCmd_done hs (hw h) rfl rfl, fun h => congrArg Outcome.next (runCmd_refused hs (hr h))⟩
  case policy =>
    intro q s o hs hf x p c ho
    obtain ⟨hw, hr⟩ := runCmd_writesUnless hs (hRefQualifyPolicy_writes hf ho)
    refine ⟨fun h => hw ?_, fun h1 h2 => hr ?_⟩
    · rcases h with h | h
      · exact Bool.and_eq_false_imp.mpr fun h1 => absurd (beq_iff_eq.mp h1) h
      · exact (congrArg (fun b => _ && !b) h).trans (Bool.and_false _)
    · exact Bool.and_eq_true_iff.mpr ⟨beq_iff_eq.mpr h1, congrArg not h2⟩
  case one =>
    intro o r hall ho hr
    set x := started 0x0301 q s
    have hro : refOf x o = r := nth_of_get hr
    obtain ⟨h0, h2, hrest⟩ := refStatusReply_fields x o
    rw [hro] at h2 hrest
    have hhost := host_ite (c := (fld q.params 2 2).testBit 0 = true) (s := x) (t := { x with refs := x.refs.set o { r with events := 0 } }) rfl
    refine ⟨refStatusReply x o, runCmd_done hs (hRefStatus_one hf hall ho hr) (congrArg HostPart.pcie hhost) (congrArg HostPart.spi hhost),
      refStatusReply_length x o, h0, h2.trans ?_, hrest⟩
    cases r.state <;> rfl
  case all =>
    intro hall
    set x := started 0x0301 q s
    have hhost := host_ite (c := (fld q.params 2 2).testBit 0 = true) (s := x) (t := { x with refs := x.refs.map fun r => { r with events := 0 } }) rfl
    exact ⟨_, runCmd_done hs (hRefStatus_all hf hall) (congrArg HostPart.pcie hhost) (congrArg HostPart.spi hhost), leBytes_length 16 _⟩

/-! ### SEL_CONFIGURE and SEL_SELECT -/

/-- The selector of domain `d` with its mode and pick as SEL_SELECT sets them (R87, R98). -/
def selPicked (act k : Nat) (r : SelRun) : SelRun :=
  { r with mode := if act = 0 then .manual else if act = 1 then .automatic else .none, pick := if act = 0 then some k else none }

/-- The state after SEL_SELECT: on the next tick every selector has evaluated its choice (R98). -/
def selSelected (p : Bytes) (x : State) : State :=
  evalAll { nextTick x with sels := upd (nextTick x).sels (fld p 0 1) (selPicked (fld p 1 1) (fld p 2 1)) }

/-- A manual pick that is refused: no entry of the slate, of bid 0, or locked out (R87, R98). -/
def badPick (p : Bytes) (x : State) : Bool :=
  let sl := (nth x.work.sels (fld p 0 1)).slate
  fld p 1 1 == 0 && (decide (fld p 2 1 ≥ sl.length) || (nth sl (fld p 2 1)).bid == 0 || (nth sl (fld p 2 1)).lockout)

theorem badPick_iff (p : Bytes) (x : State) :
    let sl := (nth x.work.sels (fld p 0 1)).slate
    badPick p x = true ↔ fld p 1 1 = 0 ∧ (sl.length ≤ fld p 2 1 ∨ (nth sl (fld p 2 1)).bid = 0 ∨ (nth sl (fld p 2 1)).lockout = true) := by
  simp [badPick, or_assoc]

/-- The reply of SEL_SELECT: the candidate selected, and whether a manual pick is not it (R98). -/
def selSelectReply (p : Bytes) (e : State) : Bytes :=
  let sel := (nth e.sels (fld p 0 1)).selected
  optByte sel ++ leBytes 1 (b2n (fld p 1 1 == 0 && sel != some (fld p 2 1))) ++ zeros 2

theorem hSelSelect_eq {q : Req} {x : State} (hf : fits q 4 [inF 0 1 0 3, inF 1 1 0 2, whenF (fld q.params 1 1 == 0) 2 1 0 31, rsvF 3 1]) :
    hSelSelect q x = refuseIf (isDummy x) stNotOwner 0 (refuseIf (badPick q.params x) stBadParam 2
      (.done (selSelectReply q.params (selSelected q.params x)) (selSelected q.params x))) :=
  checked_of hf

theorem selSelectReply_fields (p : Bytes) (e : State) : (selSelectReply p e).length = 4 ∧
    fld (selSelectReply p e) 0 1 = ((nth e.sels (fld p 0 1)).selected.getD 0xFF) % 256 := by
  refine ⟨by simp [selSelectReply, optByte], ?_⟩
  rw [selSelectReply, List.append_assoc]
  exact fld_le_here 1 _ _

theorem banks_selSelected (p : Bytes) (x : State) : banks (selSelected p x) = banks x :=
  (banks_evalAll _).trans (banks_nextTick x)

/-! ### SEL_STATUS and SEL_FORCE_RESTORE -/

theorem selStatusReply_fields (x : State) (d : Nat) : fld (selStatusReply x d) 0 1 = d % 256 ∧
    fld (selStatusReply x d) 1 1 = selModeCode (nth x.sels d).mode ∧ fld (selStatusReply x d) 2 1 = ((nth x.sels d).selected.getD 0xFF) % 256 ∧
    fld (selStatusReply x d) 12 4 = (nth x.sels d).switchCount % 2 ^ 32 ∧ fld (selStatusReply x d) 28 1 = (nth x.work.sels d).slate.length % 256 := by
  have hmode : selModeCode (nth x.sels d).mode % 256 = selModeCode (nth x.sels d).mode := by cases (nth x.sels d).mode <;> rfl
  simp only [selStatusReply, optByte, List.append_assoc, fld_append_right, fld_le_here, leBytes_length, tsBytes_length, Nat.reduceLeDiff,
    Nat.reduceSub, Nat.reducePow, true_and, and_true]
  exact hmode

/-- The state after SEL_FORCE_RESTORE: on the next tick the source is qualified, its event latched, and every selector has evaluated (R100). -/
def restored (o : Nat) (x : State) : State := evalAll (refEvent o 5 none (toQualified o (nextTick x)))

/-- The QUAL_TIME or WTR timer of a source runs (R82, R100). -/
def timerRuns (o : Nat) (x : State) : Bool := ((refOf x o).state == .wtr || (refOf x o).state == .qualifying) && (refOf x o).timer.isSome

/-- SEL_FORCE_RESTORE qualifies a source whose QUAL_TIME or WTR timer runs (R100). -/
theorem hSelForceRestore_eq {q : Req} {x : State} {o : Nat} (hf : fits q 4 [srcF 0, rsvF 2 2]) (ho : ordOf (fld q.params 0 2) = some o) :
    hSelForceRestore q x = refuseIf (!timerRuns o (nextTick x)) stBadState 0 (.done [] (restored o x)) := by
  refine (checked_of hf).trans ?_
  simp only [ho, Option.getD_some, restored, timerRuns]

theorem banks_restored (o : Nat) (x : State) : banks (restored o x) = banks x := by
  rw [restored, banks_evalAll, banks_refEvent, toQualified, banks_refEvent, banks_updRef, banks_nextTick]

/-- Settles O15, command by command: what each handler answers, and the fields of the replies. -/
theorem selectorsAreCommanded : Obligations.SelectorsAreCommanded := by
  unfold Obligations.SelectorsAreCommanded
  refine ⟨?configure, ?select, ?status, ?restore⟩
  case configure =>
    intro q s hs x p d n hf c
    exact runCmd_done hs (checkedN_of hf) rfl rfl
  case select =>
    intro q s r hs x y p d act k sl bad hf
    have hbad : badPick p x = true ↔ bad := badPick_iff p x
    refine ⟨fun hd => ?_, fun hd hb => ?_, fun hd hb hr => ?_⟩
    · exact congrArg Outcome.next (runCmd_refused hs ((hSelSelect_eq hf).trans (refuseIf_true hd)))
    · exact congrArg Outcome.next (runCmd_refused hs ((hSelSelect_eq hf).trans ((refuseIf_not hd).trans (refuseIf_true (hbad.mpr hb)))))
    · have hnot : badPick p x = false := Bool.eq_false_iff.mpr (mt hbad.mp hb)
      have he : selSelected p x = evalAll { y with sels := y.sels.set d (selPicked act k r) } := by rw [selSelected, upd_of_get hr]
      obtain ⟨hpcie, hspi⟩ := Prod.mk.inj (banks_selSelected p x)
      obtain ⟨hlen, hsel⟩ := selSelectReply_fields p (selSelected p x)
      have hdone : hSelSelect q x = .done (selSelectReply p (selSelected p x)) (selSelected p x) :=
        (hSelSelect_eq hf).trans ((refuseIf_not hd).trans (refuseIf_not hnot))
      exact ⟨selSelectReply p (selSelected p x), selSelected p x, selPicked act k r, runCmd_done hs hdone hpcie hspi, he, hlen, rfl, hsel⟩
  case status =>
    intro q s hs hf x d r
    obtain ⟨h0, h1, hrest⟩ := selStatusReply_fields x d
    refine ⟨_, runCmd_done hs (checked_of hf) rfl rfl, h0, h1.trans ?_, hrest⟩
    cases r.mode <;> rfl
  case restore =>
    intro q s o hs hf ho x y r
    obtain ⟨hpcie, hspi⟩ := Prod.mk.inj (banks_restored o x)
    refine ⟨fun hst ht => ?_, fun h => ?_⟩
    · have htimed : timerRuns o y = true := by
        simp only [timerRuns, Bool.and_eq_true, Bool.or_eq_true, beq_iff_eq]
        exact ⟨hst, ht⟩
      have hdone : hSelForceRestore q x = .done [] (restored o x) :=
        (hSelForceRestore_eq hf ho).trans (refuseIf_not (congrArg not htimed))
      exact runCmd_done (e := restored o x) hs hdone hpcie hspi
    · have htimed : timerRuns o y = false := by
        rw [timerRuns, Bool.and_eq_false_iff]
        refine h.imp (fun hst => ?_) fun ht => Option.isSome_eq_false_iff.mpr (Option.isNone_iff_eq_none.mpr ht)
        simpa using hst
      have hrefused : hSelForceRestore q x = .refuse stBadState 0 :=
        (hSelForceRestore_eq hf ho).trans (refuseIf_true (congrArg not htimed))
      exact congrArg Outcome.next (runCmd_refused hs hrefused)

end Sys2Proof.Machine
end
section
/-! PROOFS. Entry to holdover when a selector loses its last candidate (R88, R105, R109, R112, R148). -/
namespace Sys2Proof.Machine
open Sys2Proof Host

/-! ### The choice is lost -/

/-- The record of a selector that has come to choose none; for the T-DPLL the candidate that JUMP_ACCEPT named is forgotten (R88, R122). -/
def noChoice (d : Nat) (s : State) : State :=
  { s with
    hold := if d = 0 then { s.hold with accepted := none } else s.hold
    sels := upd s.sels d (fun r => { r with
      selected := none, selectedOrd := none, switchCount := (r.switchCount + 1) % 2 ^ 32, lastSwitch := curTs s }) }

/-- The same, forwarded to a partner in LOCKSTEP, with SEL_NONE raised. -/
def choiceLost (d : Nat) (s : State) : State := raise 3 (8 + d) (forward (.selection d 0) (noChoice d s))

theorem plain_choiceLost (d : Nat) (s : State) : plain (choiceLost d s) = plain (noChoice d s) := by
  rw [choiceLost, plain_raise, plain_forward]

theorem switchTo_none (d : Nat) (s : State) : switchTo d none s = dpllNone d (counterBound s) (choiceLost d s) := by
  cases d <;> rfl

theorem evalSel_lost (n : Nat) {d : Nat} {s : State} {v : SelRun} {k : Nat} (hdummy : isDummy s = false) (hv : s.sels[d]? = some v)
    (hsel : v.selected = some k) (hnone : choose s d = none) : evalSel (n + 1) d s = dpllNone d (counterBound s) (choiceLost d s) := by
  have hne : ¬ (none = (nth s.sels d).selected ∧ none = (nth s.sels d).selectedOrd) := by
    rw [nth_of_get hv, hsel]
    rintro ⟨⟨⟩, -⟩
  unfold evalSel
  rw [hdummy, hnone]
  simp only [Bool.false_eq_true, if_false, Option.map_none, if_neg hne]
  exact switchTo_none d s

/-! ### Rate words -/

/-- A rate word that is asked for, held to its range (R37). -/
def rateWord (r : Int) : Nat := (clampI (rateMin : Int) (rateMax : Int) r).toNat

theorem rateWord_of_range {w : Nat} (h0 : rateMin ≤ w) (h1 : w ≤ rateMax) : rateWord w = w := by
  unfold rateWord clampI
  rw [if_neg (by omega), if_neg (by omega)]
  rfl

/-- The time part with a rate word applied to a domain (R37, R39). -/
def ratedTime (d v : Nat) (t : TimePart) : TimePart :=
  if d = 0 then { t with rate := v } else { t with fdomRate := t.fdomRate.set (d - 1) v }

theorem ratedTime_fdom {d : Nat} (hd : d ≠ 0) (v : Nat) (t : TimePart) :
    ratedTime d v t = { t with fdomRate := t.fdomRate.set (d - 1) v } := if_neg hd

theorem ratedTime_slew (d v : Nat) (t : TimePart) : (ratedTime d v t).slewing = t.slewing ∧ (ratedTime d v t).slewOwner = t.slewOwner := by
  unfold ratedTime
  split <;> exact ⟨rfl, rfl⟩

/-- A rate word is out of its range (R37). -/
def rateClamps (r : Int) : Bool := decide (r < (rateMin : Int)) || decide ((rateMax : Int) < r)

/-- A domain with a rate word applied, and the loop's record of it (R37, R109). -/
def rated (d : Nat) (r : Int) (s : State) : State :=
  bump (64 * 4 + 32) { s with
    time := ratedTime d (rateWord r) s.time
    dplls := upd s.dplls d (fun x => { x with rateClamped := rateClamps r, rateHist := (s.now, rateWord r) :: x.rateHist }) }

theorem setRate_eq (d : Nat) (r : Int) (s : State) : setRate d r s = if rateClamps r then raise 4 12 (rated d r s) else rated d r s := by
  cases d <;> rfl
theorem plain_setRate (d : Nat) (r : Int) (s : State) : plain (setRate d r s) = plain (rated d r s) := by
  rw [setRate_eq, plain_ite, plain_raise, ite_self]
theorem setRate_time (d : Nat) (r : Int) (s : State) : (setRate d r s).time = ratedTime d (rateWord r) s.time :=
  time_of_plain (plain_setRate d r s)
theorem setRate_dplls (d : Nat) (r : Int) (s : State) : (setRate d r s).dplls =
    upd s.dplls d (fun x => { x with rateClamped := rateClamps r, rateHist := (s.now, rateWord r) :: x.rateHist }) :=
  dplls_of_plain (plain_setRate d r s)
/-- A rate word that is applied changes the time part and the loops alone. -/
theorem setRate_frame (d : Nat) (r : Int) (s : State) : plain (setRate d r s) = plain { s with
    time := (setRate d r s).time, dplls := (setRate d r s).dplls } := by
  rw [setRate_time, setRate_dplls, plain_setRate]
  rfl
theorem stands_setRate {c b : Nat} {s : State} (d : Nat) (r : Int) (h : causeStands c b s) : causeStands c b (setRate d r s) := by
  rw [setRate_eq]
  split
  · exact stands_raise _ _ (stands_host rfl h)
  · exact stands_host rfl h

/-! ### Entry to holdover, step by step -/

/-- The rate word of a domain as it is held: the mean of its history where HOLD_SOURCE is 0 (R109). -/
def rateHeld (d : Nat) (s : State) : State := if (dpllCfg s d).holdSource = 0 then setRate d (holdRate d s) s else s

/-- The loop of a domain in HOLDOVER (R105, R109, R148). -/
def loopHeld (d : Nat) (s : State) : State :=
  let k := (meldSlotOf s.work s.work.hold.holdClock).getD 0
  updDpll d (fun x => { x with
    state := .holdover, holdFreq := freqOfRate (rateOf s d), lockSince := none, returnSlewing := false, buildPending := false
    holdPs := s.now, holdInc := s.incSum, predFreq := (nth (meldThen s).slots k).est.freq, predDrift := (nth (meldThen s).slots k).est.drift }) s

/-- A slew of the T-DPLL itself is discarded (R105). -/
def ownSlewDropped (s : State) : State := if s.time.slewing && s.time.slewOwner == .tdpll then dropSlew s else s

/-- The T-DPLL's own part of the entry: its slew, the learning and the origin (R105, R112, R117). -/
def originTaken (b : Option Nat) (s : State) : State :=
  let y := pauseLearning (ownSlewDropped s)
  setOrigin b { y with bound := { y.bound with held := none } }

theorem dpllNone_held {d : Nat} (b : Option Nat) {s : State} (ht : tracking (dpllOf s d).state = true) (h : d = 0 ∨ (dpllOf s d).everLocked = true) :
    dpllNone d b s = if d = 0 then raise 4 7 (originTaken b (loopHeld d (rateHeld d s))) else raise 4 (18 + d) (loopHeld d (rateHeld d s)) := by
  unfold dpllNone
  dsimp only
  rw [ht, if_neg (by decide), if_pos h]
  rfl

/-- A loop that was never locked goes to FREE_RUN with the nominal rate (R105). -/
theorem dpllNone_free {d : Nat} (b : Option Nat) {s : State} (ht : tracking (dpllOf s d).state = true) (hd : d ≠ 0)
    (h : (dpllOf s d).everLocked = false) :
    dpllNone d b s = setRate d rateNom (updDpll d (fun x => { x with state := .freeRun, lockSince := none }) s) := by
  unfold dpllNone
  dsimp only
  rw [ht, if_neg (by decide), if_neg (by simp [hd, h])]

theorem rateHeld_frame (d : Nat) (s : State) : plain (rateHeld d s) = plain { s with time := (rateHeld d s).time, dplls := (rateHeld d s).dplls } := by
  unfold rateHeld
  split
  · exact setRate_frame d _ s
  · rfl
theorem rateHeld_time (d : Nat) (s : State) : (rateHeld d s).time =
    if (dpllCfg s d).holdSource = 0 then ratedTime d (rateWord (holdRate d s)) s.time else s.time := by
  rw [← setRate_time, rateHeld]
  split <;> rfl
theorem length_rateHeld (d : Nat) (s : State) : (rateHeld d s).dplls.length = s.dplls.length := by
  unfold rateHeld
  split
  · rw [setRate_dplls, upd_length]
  · rfl
theorem stands_rateHeld {c b : Nat} {s : State} (d : Nat) (h : causeStands c b s) : causeStands c b (rateHeld d s) := by
  unfold rateHeld
  split
  · exact stands_setRate d _ h
  · exact h

theorem pauseLearning_only (s : State) : ∃ n l, pauseLearning s = { s with hold := { s.hold with learnedPs := n, learnSince := l } } := by
  unfold pauseLearning
  split <;> exact ⟨_, _, rfl⟩
theorem ownSlewDropped_frame (s : State) : ownSlewDropped s = { s with time := (ownSlewDropped s).time } := by
  unfold ownSlewDropped
  split <;> rfl
theorem ownSlewDropped_rate (s : State) : (ownSlewDropped s).time.rate = s.time.rate := by
  unfold ownSlewDropped
  split <;> rfl
theorem ownSlewDropped_slew {s : State} (h : s.time.slewing = true) (ho : s.time.slewOwner = .tdpll) :
    (ownSlewDropped s).time.slewing = false ∧ (ownSlewDropped s).time.slewRem = 0 := by
  rw [ownSlewDropped, if_pos (by rw [h, ho]; rfl)]
  exact ⟨rfl, rfl⟩

/-- The origin of holdover: the bound before, the present tick, and the model in force (R112, R120, R148). -/
theorem originTaken_facts (b : Option Nat) (s : State) :
    (originTaken b s).time = (ownSlewDropped s).time ∧ (originTaken b s).hold.b0 = b ∧ (originTaken b s).hold.origin = some s.incSum ∧
    (originTaken b s).hold.originLearned = s.hold.learned ∧ (originTaken b s).meld.frozenPs = s.now ∧
    originTaken b s = { s with
      time := (originTaken b s).time, hold := (originTaken b s).hold, meld := (originTaken b s).meld, bound := (originTaken b s).bound } := by
  obtain ⟨n, l, hp⟩ := pauseLearning_only (ownSlewDropped s)
  rw [ownSlewDropped_frame s] at hp
  unfold originTaken
  rw [ownSlewDropped_frame s, hp]
  exact ⟨rfl, rfl, rfl, rfl, rfl, rfl⟩

/-! ### Entry to holdover as a whole -/

/-- The T-DPLL in HOLDOVER, with T_HOLDOVER raised. -/
def tHeld (b : Option Nat) (s : State) : State := raise 4 7 (originTaken b (loopHeld 0 (rateHeld 0 s)))

/-- An F-DPLL in HOLDOVER, with F_HOLDOVER raised. -/
def fHeld (d : Nat) (s : State) : State := raise 4 (18 + d) (loopHeld d (rateHeld d s))

/-- An F-DPLL that was never locked, in FREE_RUN. -/
def fFreed (d : Nat) (s : State) : State := setRate d rateNom (updDpll d (fun x => { x with state := .freeRun, lockSince := none }) s)

/-- The loop that is held has the hold frequency of its rate word. -/
theorem loopHeld_loop {d : Nat} {s : State} (h : d < s.dplls.length) : (dpllOf (loopHeld d s) d).state = .holdover ∧
    (dpllOf (loopHeld d s) d).holdFreq = freqOfRate (rateOf s d) ∧ (dpllOf (loopHeld d s) d).lockSince = none := by
  unfold dpllOf loopHeld
  rw [updDpll_dplls, nth_upd_self _ h]
  exact ⟨rfl, rfl, rfl⟩

theorem tHeld_time (b : Option Nat) (s : State) : (tHeld b s).time = (ownSlewDropped (loopHeld 0 (rateHeld 0 s))).time := by
  obtain ⟨htime, -⟩ := originTaken_facts b (loopHeld 0 (rateHeld 0 s))
  rw [tHeld, raise_time, htime]
theorem tHeld_rate (b : Option Nat) (s : State) : (tHeld b s).time.rate = (rateHeld 0 s).time.rate := by
  rw [tHeld_time, ownSlewDropped_rate]
  rfl

theorem tHeld_loop (b : Option Nat) {s : State} (h : 0 < s.dplls.length) : (tdpll (tHeld b s)).state = .holdover ∧
    (tdpll (tHeld b s)).holdFreq = freqOfRate (tHeld b s).time.rate ∧ (tdpll (tHeld b s)).lockSince = none := by
  obtain ⟨-, -, -, -, -, hframe⟩ := originTaken_facts b (loopHeld 0 (rateHeld 0 s))
  have hloop : tdpll (tHeld b s) = dpllOf (loopHeld 0 (rateHeld 0 s)) 0 := by
    rw [tHeld, tdpll, raise_dplls, hframe]
    rfl
  rw [hloop, tHeld_rate]
  exact loopHeld_loop (by rw [length_rateHeld]; exact h)

theorem tHeld_origin (b : Option Nat) (s : State) : (tHeld b s).hold.b0 = b ∧ (tHeld b s).hold.origin = some s.incSum ∧
    (tHeld b s).hold.originLearned = s.hold.learned ∧ (tHeld b s).meld.frozenPs = s.now := by
  obtain ⟨-, hb, horigin, hlearned, hfrozen, -⟩ := originTaken_facts b (loopHeld 0 (rateHeld 0 s))
  have hframe := rateHeld_frame 0 s
  rw [tHeld, raise_hold, raise_meld]
  have hinc := incSum_of_plain hframe
  have hhold := hold_of_plain hframe
  have hnow := now_of_plain hframe
  exact ⟨hb, horigin.trans (congrArg (fun n : Nat => some (n : Int)) hinc), hlearned.trans (congrArg HoldRun.learned hhold), hfrozen.trans hnow⟩

/-- A slew of the T-DPLL itself ends with the entry (R105). -/
theorem tHeld_slew (b : Option Nat) {s : State} (h : s.time.slewing = true) (ho : s.time.slewOwner = .tdpll) :
    (tHeld b s).time.slewing = false ∧ (tHeld b s).time.slewRem = 0 := by
  have ht : (loopHeld 0 (rateHeld 0 s)).time.slewing = true ∧ (loopHeld 0 (rateHeld 0 s)).time.slewOwner = .tdpll := by
    have ht : (loopHeld 0 (rateHeld 0 s)).time = (rateHeld 0 s).time := rfl
    rw [ht, rateHeld_time]
    split
    · rw [(ratedTime_slew _ _ _).1, (ratedTime_slew _ _ _).2]
      exact ⟨h, ho⟩
    · exact ⟨h, ho⟩
  rw [tHeld_time]
  exact ownSlewDropped_slew ht.1 ht.2

theorem tHeld_frame (b : Option Nat) (s : State) : plain (tHeld b s) = plain { s with
    dplls := (tHeld b s).dplls, time := (tHeld b s).time, hold := (tHeld b s).hold, meld := (tHeld b s).meld, bound := (tHeld b s).bound } := by
  obtain ⟨-, -, -, -, -, hframe⟩ := originTaken_facts b (loopHeld 0 (rateHeld 0 s))
  have hloop : plain (tHeld b s) = plain { rateHeld 0 s with
      dplls := (tHeld b s).dplls, time := (tHeld b s).time, hold := (tHeld b s).hold, meld := (tHeld b s).meld, bound := (tHeld b s).bound } := by
    rw [tHeld, plain_raise, raise_dplls, raise_time, raise_hold, raise_meld, raise_bound, hframe]
    rfl
  rw [hloop]
  exact congrArg (fun y : State => { y with
    dplls := (tHeld b s).dplls, time := (tHeld b s).time, hold := (tHeld b s).hold, meld := (tHeld b s).meld, bound := (tHeld b s).bound })
    (rateHeld_frame 0 s)

theorem stands_tHeld {c n : Nat} {s : State} (b : Option Nat) (h : causeStands c n s) : causeStands c n (tHeld b s) := by
  obtain ⟨-, -, -, -, -, hframe⟩ := originTaken_facts b (loopHeld 0 (rateHeld 0 s))
  refine stands_raise _ _ (stands_host (s := rateHeld 0 s) ?_ (stands_rateHeld 0 h))
  rw [hframe]
  rfl

theorem fHeld_loop {d : Nat} {s : State} (h : d < s.dplls.length) : (dpllOf (fHeld d s) d).state = .holdover ∧
    (dpllOf (fHeld d s) d).holdFreq = freqOfRate (rateOf (fHeld d s) d) := by
  have hd : dpllOf (fHeld d s) d = dpllOf (loopHeld d (rateHeld d s)) d := by rw [fHeld, dpllOf, raise_dplls]; rfl
  have hr : rateOf (fHeld d s) d = rateOf (rateHeld d s) d := by rw [fHeld, rateOf, raise_time]; rfl
  obtain ⟨hstate, hfreq, -⟩ := loopHeld_loop (s := rateHeld d s) (d := d) (by rw [length_rateHeld]; exact h)
  rw [hd, hr]
  exact ⟨hstate, hfreq⟩

/-- The rate of an F-domain stands beside the rest of the time part. -/
theorem ratedTime_only {d : Nat} (hd : d ≠ 0) (v : Nat) (t : TimePart) : ratedTime d v t = { t with fdomRate := (ratedTime d v t).fdomRate } := by
  rw [ratedTime_fdom hd]

theorem fHeld_frame {d : Nat} (hd : d ≠ 0) (s : State) : plain (fHeld d s) = plain { s with
    dplls := (fHeld d s).dplls, time := { s.time with fdomRate := (fHeld d s).time.fdomRate } } := by
  have ht : (fHeld d s).time = (rateHeld d s).time := by rw [fHeld, raise_time]; rfl
  have hf : (rateHeld d s).time = { s.time with fdomRate := (rateHeld d s).time.fdomRate } := by
    rw [rateHeld_time]
    split
    · exact ratedTime_only hd _ _
    · rfl
  rw [ht, ← hf]
  have hloop : plain (fHeld d s) = plain { rateHeld d s with dplls := (fHeld d s).dplls, time := (rateHeld d s).time } := by
    rw [fHeld, plain_raise, raise_dplls]
    rfl
  rw [hloop]
  exact congrArg (fun y : State => { y with dplls := (fHeld d s).dplls, time := (rateHeld d s).time }) (rateHeld_frame d s)

theorem fFreed_frame {d : Nat} (hd : d ≠ 0) (s : State) : plain (fFreed d s) = plain { s with
    dplls := (fFreed d s).dplls, time := { s.time with fdomRate := (fFreed d s).time.fdomRate } } := by
  have ht : (fFreed d s).time = { s.time with fdomRate := (fFreed d s).time.fdomRate } := by
    rw [fFreed, setRate_time]
    exact ratedTime_only hd _ _
  rw [← ht, fFreed, setRate_frame]
  rfl

theorem fFreed_loop {d : Nat} {s : State} (h : d < s.dplls.length) : (dpllOf (fFreed d s) d).state = .freeRun := by
  unfold fFreed dpllOf
  rw [setRate_dplls, updDpll_dplls, nth_upd_self _ (by rw [upd_length]; exact h), nth_upd_self _ h]

/-- The nominal rate word of an F-domain in FREE_RUN (R35, R105). -/
theorem fFreed_rate {d : Nat} {s : State} (hd : d ≠ 0) (h : d - 1 < s.time.fdomRate.length) : rateOf (fFreed d s) d = rateNom := by
  have hnom : rateWord rateNom = rateNom := rateWord_of_range (by decide) (by decide)
  unfold rateOf fFreed
  rw [if_neg hd, setRate_time, hnom, ratedTime_fdom hd]
  change (s.time.fdomRate.set (d - 1) rateNom).getD (d - 1) rateNom = rateNom
  simp [List.getD, h]

/-! ### The statement -/

theorem lt_length_of_get {α : Type} {l : List α} {i : Nat} {a : α} (h : l[i]? = some a) : i < l.length := by
  obtain ⟨hi, -⟩ := List.getElem?_eq_some_iff.mp h
  exact hi

/-- The switch that the loss of the choice is counted as (R88, R99). -/
theorem noChoice_switch {d : Nat} {s : State} {v : SelRun} (hv : s.sels[d]? = some v) : (nth (noChoice d s).sels d).selected = none ∧
    (nth (noChoice d s).sels d).switchCount = (v.switchCount + 1) % 2 ^ 32 ∧ (nth (noChoice d s).sels d).lastSwitch = curTs s := by
  unfold noChoice
  dsimp only
  rw [nth_upd_self _ (lt_length_of_get hv), nth_of_get hv]
  exact ⟨rfl, rfl, rfl⟩

theorem choiceLost_loop {d : Nat} {s : State} {r : DpllRun} (hr : s.dplls[d]? = some r) : dpllOf (choiceLost d s) d = r := by
  rw [dpllOf, dplls_of_plain (plain_choiceLost d s)]
  exact nth_of_get hr

/-- The hold rate is the mean of the history over the window of HOLD_AVG that ends HOLD_GUARD ago, where there is one (R109). -/
theorem rateHeld_mean {s : State} {w : Nat} (hsrc : (nth s.work.dplls 0).holdSource = 0) (h0 : rateMin ≤ w) (h1 : w ≤ rateMax)
    (hmean : meanRate (tdpll s).rateHist (max ((tdpll s).acqSince.getD s.now)
      (s.now - holdGuardPs (nth s.work.dplls 0).holdGuard - holdAvgPs (nth s.work.dplls 0).holdAvg))
      (s.now - holdGuardPs (nth s.work.dplls 0).holdGuard) = some w) : (rateHeld 0 s).time.rate = w := by
  have hrate : holdRate 0 s = w := congrArg (fun m => m.getD (rateOf s 0)) hmean
  rw [rateHeld_time, if_pos (show (dpllCfg s 0).holdSource = 0 from hsrc), hrate, rateWord_of_range h0 h1]
  rfl

/-- The entry of the T-DPLL leaves the rest as the recorded choice left it. -/
theorem tHeld_lost_frame (b : Option Nat) (s : State) :
    let t := tHeld b (choiceLost 0 s)
    t.sels = (noChoice 0 s).sels ∧ plain t = plain { s with
      dplls := t.dplls, sels := t.sels, time := t.time, hold := t.hold, meld := t.meld, bound := t.bound } := by
  intro t
  have hframe : plain t = plain { choiceLost 0 s with dplls := t.dplls, time := t.time, hold := t.hold, meld := t.meld, bound := t.bound } :=
    tHeld_frame b (choiceLost 0 s)
  have hlost := sels_of_plain (plain_choiceLost 0 s)
  have hsels : t.sels = (noChoice 0 s).sels := Eq.trans (sels_of_plain hframe) hlost
  refine ⟨hsels, hframe.trans ?_⟩
  rw [hsels]
  exact congrArg (fun y : State => { y with dplls := t.dplls, time := t.time, hold := t.hold, meld := t.meld, bound := t.bound })
    (plain_choiceLost 0 s)

/-- The same of an F-DPLL, of which only its loop and its rate change. -/
theorem fLost_frame {d : Nat} (hd : d ≠ 0) {s t : State} (hframe : plain t = plain { choiceLost d s with
      dplls := t.dplls, time := { (choiceLost d s).time with fdomRate := t.time.fdomRate } }) :
    t.sels = (noChoice d s).sels ∧ plain t = plain { s with
      dplls := t.dplls, sels := t.sels, time := { s.time with fdomRate := t.time.fdomRate } } := by
  have hlost := sels_of_plain (plain_choiceLost d s)
  have hsels : t.sels = (noChoice d s).sels := Eq.trans (sels_of_plain hframe) hlost
  have htime := time_of_plain (plain_choiceLost d s)
  refine ⟨hsels, hframe.trans ?_⟩
  rw [hsels, htime]
  refine (congrArg (fun y : State => { y with dplls := t.dplls, time := { s.time with fdomRate := t.time.fdomRate } }) (plain_choiceLost d s)).trans ?_
  unfold noChoice
  rw [if_neg hd]
  rfl

/-- Settles O20: the switch is recorded, then the loop is held, or freed where it was never locked. -/
theorem holdoverBegins : Obligations.HoldoverBegins := by
  unfold Obligations.HoldoverBegins
  refine ⟨fun n k s r v => ?tdpll, fun n d k s r v => ?fdpll⟩
  case tdpll =>
    intro t c hdummy hr hv hsel hnone htrack
    have hx : dpllOf (choiceLost 0 s) 0 = r := choiceLost_loop hr
    have hplain := plain_choiceLost 0 s
    have hlen : 0 < (choiceLost 0 s).dplls.length := by
      rw [dplls_of_plain hplain]
      exact lt_length_of_get hr
    have ht : t = tHeld (counterBound s) (choiceLost 0 s) :=
      (evalSel_lost n hdummy hv hsel hnone).trans (dpllNone_held _ (by rw [hx]; exact htrack) (.inl rfl))
    obtain ⟨hstate, hfreq, hlock⟩ := tHeld_loop (counterBound s) hlen
    obtain ⟨hb0, horigin, hlearned, hfrozen⟩ := tHeld_origin (counterBound s) (choiceLost 0 s)
    obtain ⟨hsels, hframe⟩ := tHeld_lost_frame (counterBound s) s
    obtain ⟨hnosel, hcount, hlast⟩ := noChoice_switch hv
    have htime := time_of_plain hplain
    clear_value t
    subst ht
    refine ⟨hstate, hfreq, hlock, hb0, horigin.trans ?_, hlearned.trans ?_, hfrozen.trans ?_, fun hs ho => ?_, fun hsrc => ?_, fun hsrc w hmean h0 h1 => ?_,
      ?_, ?_, ?_, ?_, ?_, hframe⟩
    · rw [incSum_of_plain hplain]
      rfl
    · rw [hold_of_plain hplain]
      rfl
    · rw [now_of_plain hplain]
      rfl
    · exact tHeld_slew _ (by rw [htime]; exact hs) (by rw [htime]; exact ho)
    · rw [tHeld_rate, rateHeld_time, if_neg (by rw [dpllCfg, work_of_plain hplain]; exact hsrc), htime]
      rfl
    · rw [tHeld_rate]
      refine rateHeld_mean (by rw [work_of_plain hplain]; exact hsrc) h0 h1 ?_
      rw [show tdpll (choiceLost 0 s) = r from hx, work_of_plain hplain, now_of_plain hplain]
      exact hmean
    · rw [hsels]; exact hnosel
    · rw [hsels]; exact hcount
    · rw [hsels]; exact hlast
    · exact stands_tHeld _ (stands_raise_self 3 8 _ (by decide))
    · exact stands_raise_self 4 7 _ (by decide)
  case fdpll =>
    intro t h0 h4 hdummy hr hv hsel hnone htrack
    have hd : d ≠ 0 := by omega
    have hx : dpllOf (choiceLost d s) d = r := choiceLost_loop hr
    have hplain := plain_choiceLost d s
    have hlen : d < (choiceLost d s).dplls.length := by
      rw [dplls_of_plain hplain]
      exact lt_length_of_get hr
    have htr : tracking (dpllOf (choiceLost d s) d).state = true := by rw [hx]; exact htrack
    have hraised : causeStands 3 (8 + d) (choiceLost d s) := stands_raise_self 3 (8 + d) _ (by omega)
    obtain ⟨hnosel, hcount, -⟩ := noChoice_switch hv
    have ht : t = dpllNone d (counterBound s) (choiceLost d s) := evalSel_lost n hdummy hv hsel hnone
    clear_value t
    cases hever : r.everLocked with
    | true =>
      have he : t = fHeld d (choiceLost d s) := ht.trans ((dpllNone_held _ htr (.inr (by rw [hx]; exact hever))).trans (if_neg hd))
      obtain ⟨hstate, hfreq⟩ := fHeld_loop hlen
      subst he
      obtain ⟨hsels, hframe⟩ := fLost_frame hd (fHeld_frame hd (choiceLost d s))
      refine ⟨fun _ => ⟨hstate, hfreq, stands_raise_self 4 (18 + d) _ (by omega)⟩, fun h => Bool.noConfusion h, ?_, ?_, ?_, hframe⟩
      · rw [hsels]; exact hnosel
      · rw [hsels]; exact hcount
      · exact stands_raise _ _ (stands_host rfl (stands_rateHeld d hraised))
    | false =>
      have he : t = fFreed d (choiceLost d s) := ht.trans (dpllNone_free _ htr hd (by rw [hx]; exact hever))
      subst he
      obtain ⟨hsels, hframe⟩ := fLost_frame hd (fFreed_frame hd (choiceLost d s))
      refine ⟨fun h => Bool.noConfusion h, fun _ => ⟨fFreed_loop hlen, fun hthree => ?_⟩, ?_, ?_, ?_, hframe⟩
      · refine fFreed_rate hd ?_
        rw [time_of_plain hplain]
        change d - 1 < s.time.fdomRate.length
        omega
      · rw [hsels]; exact hnosel
      · rw [hsels]; exact hcount
      · exact stands_setRate d _ (stands_host rfl hraised)

end Sys2Proof.Machine
end
section
/-! PROOFS. Samples and sentences of the references: which sample reaches the monitor (R72 to R76). -/
namespace Sys2Proof.Machine
open Sys2Proof Host

/-! ### One source -/

theorem refOf_updRef {s : State} {o : Nat} (f : RefRun → RefRun) (h : o < s.refs.length) : refOf (updRef o f s) o = f (refOf s o) :=
  nth_upd_self f h
theorem updRef_of_get {s : State} {o : Nat} {r : RefRun} (f : RefRun → RefRun) (h : s.refs[o]? = some r) :
    updRef o f s = { s with refs := s.refs.set o (f r) } := by
  rw [updRef, upd_of_get h]
theorem refEvent_latched {s : State} {o ev : Nat} {r : RefRun} (h : s.refs[o]? = some r) :
    refEvent o ev none s = { s with refs := s.refs.set o { r with events := setBit r.events ev } } := updRef_of_get _ h

/-! ### A pulse of a REFIN in PULSE mode -/

/-- The nominal period of a pulse input in 2⁻¹⁶ ns (R73). -/
def pulsePeriod (c : RefCfg) : Nat := secPs * max 1 c.freqDen * 65536 / (max 1 c.freqNum * 1000)

/-- The nominal instant nearest to a stamp, for a period in the stamp's unit (R72). -/
def nearestInstant (p stamp : Nat) : Nat := (stamp + p / 2) / p * p

/-- The offset to the nearest instant is half a period at most, and an exact half counts as positive. -/
theorem nearestInstant_within {p : Nat} (hp : 0 < p) (stamp : Nat) :
    2 * ((nearestInstant p stamp : Int) - stamp) ≤ p ∧ -(p : Int) ≤ 2 * ((nearestInstant p stamp : Int) - stamp) + 1 := by
  have hdiv : p * ((stamp + p / 2) / p) + (stamp + p / 2) % p = stamp + p / 2 := Nat.div_add_mod _ _
  have hmod := Nat.mod_lt (stamp + p / 2) hp
  have hn : nearestInstant p stamp = p * ((stamp + p / 2) / p) := Nat.mul_comm _ _
  omega

/-- The sample of a pulse with its stamp (R72, R73). -/
def pulseSample (c : RefCfg) (stamp : Nat) : Sample :=
  { stamp, unc := c.claimed, stampUnc := 2560, period := secPs * max 1 c.freqDen / max 1 c.freqNum
    perNum := secPs * max 1 c.freqDen, perDen := max 1 c.freqNum, offset := (nearestInstant (pulsePeriod c) stamp : Int) - stamp }

/-- The compensated stamp of an event at a source (R38, R94). -/
def sourceStamp (c : RefCfg) (s : State) : Nat := ((stampNow s : Int) - c.compensation).toNat

/-- A pulse of an enabled pin in PULSE mode: too short a one only latches GLITCH, any other is delivered (R72, R96). -/
theorem refSample_pulse {src t w o : Nat} {s x : State} {c : RefCfg} (hx : begin_ t s = x) (hc : refCfg x o = c) (ho : ordOf src = some o)
    (hk : kindOf o = .refin) (hrun : running x = true) (hst : (refOf x o).state ≠ .disabled) (hm : c.mode = 0) :
    refSample src t (.pulse w) s = if c.glitchNs ≠ 0 ∧ w < c.glitchNs * 1000 then bump (64 * 3 + 34) (refEvent o 6 none x)
      else deliver o (pulseSample c (sourceStamp c x)) false (activityEvent o (secPs * max 1 c.freqDen) (max 1 c.freqNum) x) := by
  have hon : ¬ (!running x || (refOf x o).state == .disabled) = true := by
    rw [hrun]
    simpa using hst
  have hper : refinPeriod c = (secPs * max 1 c.freqDen, max 1 c.freqNum) := if_pos hm
  have hmode : ¬ (c.mode ≠ 0 ∧ c.mode ≠ 3) := fun h => h.1 hm
  unfold refSample
  dsimp only
  rw [hx, ho]
  dsimp only
  rw [if_neg hon, hc, hper, hk]
  dsimp only
  rw [if_neg hmode, if_pos hm]
  rfl

/-- The ACTIVITY check touches its own source alone (R599). -/
theorem activityEvent_frame (o n d : Nat) (s : State) : activityEvent o n d s = { s with refs := (activityEvent o n d s).refs } ∧
    ∀ k, k ≠ o → (activityEvent o n d s).refs[k]? = s.refs[k]? := by
  refine ⟨rfl, fun k hk => ?_⟩
  unfold activityEvent
  dsimp only
  rw [updRef_refs, upd_get, if_neg (Ne.symm hk)]

/-! ### A ZDA sentence -/

/-- The TAI second that a sentence gives a pulse: by the offset in force at the pulse, or by CURRENT_OFFSET while time was not valid (R52, R75). -/
def todLabelOf (p : TodPulse) (utc : Nat) (t : TimePart) : Nat :=
  ((utc : Int) + (if p.timeValid then offsetInForce t (p.stamp / tsSec) else t.currentOffset)).toNat

/-- The sample of a pulse with its label (R75). -/
def todSample (c : RefCfg) (p : TodPulse) (lab now : Nat) : Sample :=
  { stamp := p.stamp, offset := ((lab * tsSec : Nat) : Int) - p.stamp, unc := c.claimed, stampUnc := 2560, ep := some p.epoch, lag := now - p.ps
    counted := true }

/-- The TOD_LABEL check of a label: it does not follow the one before it by 1 s, or is more than half a second off (R76). -/
def todBad (last : Option Nat) (p : TodPulse) (lab epoch : Nat) : Bool :=
  (match last with | some a => a + 1 != lab | none => false) ||
    (p.timeValid && p.epoch == epoch && decide ((((lab * tsSec : Nat) : Int) - p.stamp).natAbs * 2 > tsSec))

theorem todBad_apart {l lab : Nat} (h : l + 1 ≠ lab) (p : TodPulse) (epoch : Nat) : todBad (some l) p lab epoch = true := by
  simp [todBad, h]

theorem todUse_eq (o : Nat) (p : TodPulse) (utc : Nat) (s : State) :
    let lab := todLabelOf p utc s.time
    todUse o p utc s = deliver o (todSample (refCfg s o) p lab s.now) (todBad (refOf s o).lastLabel p lab s.time.stepEpoch)
      (updRef o (fun r => { r with lastLabel := some lab }) s) := rfl

/-- While time was not valid at the pulse its label is by CURRENT_OFFSET. -/
theorem todLabelOf_untimed {p : TodPulse} (h : p.timeValid = false) (utc : Nat) (t : TimePart) :
    (todLabelOf p utc t : Int) = max 0 ((utc : Int) + t.currentOffset) := by
  rw [todLabelOf, h, max_comm]
  exact Int.toNat_eq_max _

/-- A sentence that cannot be used latches its event (R75, R96). -/
theorem zdaSentence_bad {t o : Nat} {ok : Bool} {b : Bytes} {s x : State} (hx : begin_ t s = x) (hp : todPin x = some o)
    (hbad : ok = false ∨ parseZda b = none ∨ (refOf x o).pulsePs = none) : zdaSentence t ok b s = refEvent o 7 none x := by
  unfold zdaSentence
  dsimp only
  rw [hx, hp]
  dsimp only
  rcases hbad with h | h | h
  · rw [h]
    rfl
  · rw [h, ite_self]
  · rw [h, Bool.and_false]
    rfl

/-- A good sentence is kept for the next pulse, or labels the one that waits (R75, R76). -/
theorem zdaSentence_good {t o utc p : Nat} {b : Bytes} {s x : State} (hx : begin_ t s = x) (hpin : todPin x = some o)
    (hb : parseZda b = some utc) (hp : (refOf x o).pulsePs = some p) (h0 : p + 10 * msPs ≤ x.now) (h1 : x.now ≤ p + 900 * msPs) :
    ((refCfg x o).todLabel = 1 → zdaSentence t true b s = updRef o (fun r => { r with pendUtc := some utc }) x) ∧
    (∀ w, (refCfg x o).todLabel = 0 → (refOf x o).awaiting = some w →
      zdaSentence t true b s = todUse o w utc (updRef o (fun r => { r with awaiting := none }) x)) := by
  have hin : decide (p + 10 * msPs ≤ x.now ∧ x.now ≤ p + 900 * msPs) = true := decide_eq_true ⟨h0, h1⟩
  unfold zdaSentence
  dsimp only
  rw [hx, hpin]
  dsimp only
  rw [hp]
  dsimp only
  rw [if_pos (Bool.and_eq_true_iff.mpr ⟨rfl, hin⟩), hb]
  refine ⟨fun hl => if_pos hl, fun w hl hw => ?_⟩
  have hne : (refCfg x o).todLabel ≠ 1 := by omega
  dsimp only
  rw [if_neg hne, hw]

end Sys2Proof.Machine
end
section
/-! PROOFS. Checks, timers and splits of the references (R78, R82, R83, R89, R90, R599). -/
namespace Sys2Proof.Machine
open Sys2Proof Host

/-! ### A standing check failure and the state that follows -/

theorem refs_holdClockFails (o : Nat) (s : State) : (holdClockFails o s).refs = s.refs := by
  unfold holdClockFails
  split <;> rfl
theorem refs_staleMember (o cause : Nat) (s : State) : (staleMember o cause s).refs = s.refs := by
  unfold staleMember
  split <;> rfl
theorem refEvent_refs (o ev : Nat) (cause : Option Nat) (s : State) :
    (refEvent o ev cause s).refs = upd s.refs o (fun r => { r with events := setBit r.events ev }) := by
  cases cause with
  | none => rfl
  | some b => exact refs_of_plain (plain_raiseIdx 3 b o _)
theorem refOf_refEvent {o : Nat} {s : State} (h : o < s.refs.length) (ev : Nat) (cause : Option Nat) :
    refOf (refEvent o ev cause s) o = { refOf s o with events := setBit (refOf s o).events ev } := by
  rw [refOf, refEvent_refs, nth_upd_self _ h]
  rfl

/-- The standing hard checks of a source, recorded, with what follows for HOLD_CLOCK and the Meld (R105, R116, R143). -/
def causeTaken (o cause : Nat) (s : State) : State :=
  staleMember o cause
    (if newlyFails (refOf s o).cause cause then holdClockFails o (updRef o (fun r => { r with cause := cause }) s)
     else updRef o (fun r => { r with cause := cause }) s)

theorem causeTaken_refs (o cause : Nat) (s : State) : (causeTaken o cause s).refs = upd s.refs o (fun r => { r with cause := cause }) := by
  rw [causeTaken, refs_staleMember]
  split
  · rw [refs_holdClockFails]; rfl
  · rfl

theorem length_causeTaken (o cause : Nat) (s : State) : (causeTaken o cause s).refs.length = s.refs.length := by
  rw [causeTaken_refs, upd_length]
theorem refOf_causeTaken {o : Nat} {s : State} (cause : Nat) (h : o < s.refs.length) :
    refOf (causeTaken o cause s) o = { refOf s o with cause := cause } := by
  rw [refOf, causeTaken_refs, nth_upd_self _ h]
  rfl

/-- The failures of a source and its expected instant, which the qualification state leaves alone. -/
def checksOf (r : RefRun) : Nat × Option Nat := (r.cause, r.expected)

/-- Whatever state follows, the failures stand as they were taken, and the expected instant stays (R82, R91). -/
theorem applyCause_checks {o : Nat} {s : State} (cause : Nat) (h : o < s.refs.length) :
    checksOf (refOf (applyCause o cause s) o) = (cause, (refOf s o).expected) := by
  have hlen : o < (causeTaken o cause s).refs.length := by rw [length_causeTaken]; exact h
  have htaken : checksOf (refOf (causeTaken o cause s) o) = (cause, (refOf s o).expected) := by rw [refOf_causeTaken cause h]; rfl
  have hupd : ∀ f : RefRun → RefRun, (∀ r, checksOf (f r) = checksOf r) →
      checksOf (refOf (updRef o f (causeTaken o cause s)) o) = (cause, (refOf s o).expected) := fun f hf => by
    rw [refOf_updRef f hlen, hf, htaken]
  have hevent : ∀ f : RefRun → RefRun, (∀ r, checksOf (f r) = checksOf r) →
      checksOf (refOf (refEvent o 1 (some 0) (updRef o f (causeTaken o cause s))) o) = (cause, (refOf s o).expected) := fun f hf => by
    rw [refOf_refEvent (by rw [updRef_refs, upd_length]; exact hlen)]
    exact hupd f hf
  unfold applyCause
  dsimp only
  rw [← causeTaken.eq_def]
  cases hst : (refOf s o).state with
  | disabled => exact htaken
  | qualified =>
    dsimp only
    split
    · exact htaken
    · exact hevent _ fun _ => rfl
  | qualifying =>
    dsimp only
    split
    · exact htaken
    · exact hupd _ fun _ => rfl
  | wtr =>
    dsimp only
    split
    · exact htaken
    · exact hupd _ fun _ => rfl
  | failed =>
    dsimp only
    split
    · exact htaken
    · split
      · exact hupd _ fun _ => rfl
      · exact hupd _ fun _ => rfl
  | suspect =>
    dsimp only
    split
    · exact hupd _ fun _ => rfl
    · exact htaken

/-- A source that is qualified and fails a check becomes FAILED, with DISQUALIFIED raised (R82, R93). -/
theorem applyCause_disqualifies {o cause : Nat} {s : State} (h : o < s.refs.length) (hq : (refOf s o).state = .qualified) (hc : cause ≠ 0) :
    (refOf (applyCause o cause s) o).state = .failed ∧ causeStands 3 0 (applyCause o cause s) := by
  have hx : applyCause o cause s =
      refEvent o 1 (some 0) (updRef o (fun r => { r with state := .failed, lastCause := cause, timer := none }) (causeTaken o cause s)) := by
    unfold applyCause
    dsimp only
    rw [← causeTaken.eq_def, hq]
    exact if_neg hc
  have hlen : o < (causeTaken o cause s).refs.length := by rw [length_causeTaken]; exact h
  rw [hx]
  refine ⟨?_, stands_raiseIdx_self 3 0 o _ (by decide)⟩
  rw [refOf_refEvent (by rw [updRef_refs, upd_length]; exact hlen), refOf_updRef _ hlen]

/-- A mask with a bit set has it set, and is not 0. -/
theorem testBit_setBit (w k : Nat) : (setBit w k).testBit k = true := by
  unfold setBit bit
  split
  · assumption
  · rename_i h
    have hk : w.testBit k = false := by simpa using h
    rw [Nat.add_comm, Nat.testBit_two_pow_add_eq, hk]
    rfl

/-- What a failed ACTIVITY check leaves: the check stands, no instant is expected, and a qualified source is disqualified (R78, R82). -/
theorem activityFails {o : Nat} {s : State} (h : o < s.refs.length) (hst : (refOf s o).state ≠ .disabled) (he : (refOf s o).expected = none) :
    let z := setCheck o cActivity true s
    (refOf z o).cause.testBit 0 = true ∧ (refOf z o).expected = none ∧
    ((refOf s o).state = .qualified → (refOf z o).state = .failed ∧ causeStands 3 0 z) := by
  have hz : setCheck o cActivity true s = applyCause o (setBit (refOf s o).cause 0) s := if_neg hst
  have hbit : (setBit (refOf s o).cause 0).testBit 0 = true := testBit_setBit _ 0
  have hne : setBit (refOf s o).cause 0 ≠ 0 := fun h0 => by
    rw [h0] at hbit
    exact Bool.noConfusion hbit
  obtain ⟨hcause, hexp⟩ := Prod.mk.inj (applyCause_checks (setBit (refOf s o).cause 0) h)
  intro z
  rw [show z = _ from hz]
  exact ⟨by rw [hcause]; exact hbit, hexp.trans he, fun hq => applyCause_disqualifies h hq hne⟩

/-! ### ACTIVITY_MISS and NO_STAMPED_EDGE -/

/-- The state in which an ACTIVITY check of a source fails: no instant is expected any more (R78, R599). -/
def silenced (o : Nat) (f : RefRun → RefRun) (s : State) : State := setCheck o cActivity true (updRef o f s)

theorem silenced_facts {o : Nat} {f : RefRun → RefRun} {s : State} {r : RefRun} (hr : s.refs[o]? = some r) (hst : r.state ≠ .disabled)
    (hf : (f r).state = r.state) (he : (f r).expected = none) :
    (refOf (silenced o f s) o).cause.testBit 0 = true ∧ (refOf (silenced o f s) o).expected = none ∧
    (r.state = .qualified → (refOf (silenced o f s) o).state = .failed ∧ causeStands 3 0 (silenced o f s)) := by
  have hlen := lt_length_of_get hr
  have hup : refOf (updRef o f s) o = f r := by rw [refOf_updRef f hlen, refOf, nth_of_get hr]
  have h := activityFails (s := updRef o f s) (by rw [updRef_refs, upd_length]; exact hlen) (by rw [hup, hf]; exact hst) (by rw [hup, he])
  rw [hup, hf] at h
  exact h
theorem kept_silenced (o : Nat) (f : RefRun → RefRun) (s : State) : kept (silenced o f s) = kept s := by
  rw [silenced, kept_setCheck, kept_updRef]

theorem activityMiss_at {src o e : Nat} {s : State} (ho : ordOf src = some o) (hk : kindOf o = .refin) (hm : (refCfg s o).mode ≠ 1)
    (hst : (refOf s o).state ≠ .disabled) (he : (refOf s o).expected = some e) :
    let y := moveTo (e + windowPs (refPol s o).pulseWindow) s
    activityMiss src s = if (refOf s o).misses + 1 ≥ (refPol s o).losCount then evalAll (silenced o (fun r => { r with expected := none, misses := 0 }) y)
      else updRef o (fun r => { r with
        expected := some (e + (refinPeriod (refCfg s o)).1 / (refinPeriod (refCfg s o)).2), misses := r.misses + 1 }) y := by
  have hon : (kindOf o == .refin && (refCfg s o).mode != 1 && (refOf s o).state != .disabled) = true := by
    rw [hk]
    simpa using ⟨hm, hst⟩
  unfold activityMiss
  rw [ho]
  dsimp only
  rw [he, hon]
  rfl

theorem noStampedEdge_at {src o e : Nat} {s : State} (ho : ordOf src = some o) (hc : classOfSrc s.work o = .freq)
    (hst : (refOf s o).state ≠ .disabled) (he : (refOf s o).expected = some e) :
    noStampedEdge src s = evalAll (silenced o (fun r => { r with expected := none }) (moveTo e s)) := by
  have hon : (classOfSrc s.work o == .freq && (refOf s o).state != .disabled) = true := by
    rw [hc]
    simpa using hst
  unfold noStampedEdge
  rw [ho]
  dsimp only
  rw [he, hon]
  rfl

/-! ### FREQ_UPDATE, QUAL_TIME_EXPIRY and WTR_EXPIRY -/

/-- Before the tenth update of a window the update is only counted, and marked with the sum of increments (R79, R598). -/
theorem freqUpdate_counts {src o : Nat} {s : State} {r : RefRun} (ho : ordOf src = some o) (hr : s.refs[o]? = some r) (hst : r.state ≠ .disabled)
    (hs : r.hasSample = true) (hn : r.winUpdates + 1 < 10) :
    let y := moveTo (r.winStart + (r.winUpdates + 1) * (winPs (nth s.work.pols o).freqWindow / 10)) s
    ∃ marks, freqUpdate src s = { y with refs := y.refs.set o { r with winUpdates := r.winUpdates + 1, marks := (y.now, y.incSum) :: marks } } := by
  have hro : refOf s o = r := nth_of_get hr
  have hon : ¬ (r.state == .disabled || !r.hasSample) = true := by
    rw [hs]
    simpa using hst
  unfold freqUpdate
  rw [ho]
  dsimp only
  rw [hro, if_neg hon, if_pos (by simp [hn])]
  exact ⟨_, updRef_of_get _ (by rw [moveTo_refs]; exact hr)⟩

/-- A source that enters QUALIFIED (R82, R84). -/
theorem toQualified_facts {o : Nat} {s : State} {r : RefRun} (hr : s.refs[o]? = some r) :
    causeStands 3 12 (toQualified o s) ∧ plain (toQualified o s) = plain { s with refs := s.refs.set o { r with
      state := .qualified, hasQualified := true, qualifiedAt := s.now, timer := none, finding := none, events := setBit r.events 0 } } := by
  refine ⟨stands_raiseIdx_self 3 12 o _ (by decide), ?_⟩
  have hlen := lt_length_of_get hr
  unfold toQualified refEvent
  dsimp only
  rw [plain_raiseIdx, updRef_of_get _ hr, updRef_of_get _ (List.getElem?_set_self hlen)]
  dsimp only
  rw [List.set_set]

theorem qualTimeExpiry_at {src o d : Nat} {s : State} (ho : ordOf src = some o) (hst : (refOf s o).state = .qualifying)
    (ht : (refOf s o).timer = some d) : qualTimeExpiry src s = evalAll (toQualified o (moveTo d s)) := by
  unfold qualTimeExpiry
  rw [ho]
  dsimp only
  rw [hst, ht]
theorem wtrExpiry_at {src o d : Nat} {s : State} (ho : ordOf src = some o) (hst : (refOf s o).state = .wtr)
    (ht : (refOf s o).timer = some d) : wtrExpiry src s = evalAll (toQualified o (moveTo d s)) := by
  unfold wtrExpiry
  rw [ho]
  dsimp only
  rw [hst, ht]

/-! ### SPLIT_TIMER -/

/-- The pair that a SPLIT_TIMER is for: two sources under comparison, not yet raised as split (R89). -/
def pairOf (a b : Nat) (ph : Bool) (p : SplitPair) : Bool := p.a == a && p.b == b && p.byPhase == ph && !p.raised

/-- The state with the pair marked as split, and SPLIT raised (R89). -/
def splitRaised (d a b : Nat) (ph : Bool) (s : State) : State :=
  raiseIdx 3 3 a { s with sels := upd s.sels d (fun r => { r with
    splits := r.splits.map fun q => if pairOf a b ph q then { q with raised := true } else q }) }

/-- With MELD_VOTE the Meld is asked for its vote on a split pair, where it has a member beside the two (R90). -/
def voteAsked (c : SelCfg) (a b : Nat) (ph : Bool) (base : Option PhaseBase) (z : State) : State :=
  let others := (List.range 8).filter fun k =>
    let id := (nth z.work.meldSlots k).sourceId
    (k == 0 || id != 0) && id != idOf a && id != idOf b
  if c.meldVote && z.work.meld.enable && !others.isEmpty && !isDummy z then
    { z with meld := { z.meld with vote := z.meld.vote ++ [{ p := idOf a, q := idOf b, byPhase := ph, at_ := z.now, base := base }] } }
  else z

theorem voteAsked_only (c : SelCfg) (a b : Nat) (ph : Bool) (base : Option PhaseBase) (z : State) : ∃ v,
    voteAsked c a b ph base z = { z with meld := { z.meld with vote := v } } ∧ (c.meldVote = false → v = z.meld.vote) := by
  unfold voteAsked
  dsimp only
  split
  · rename_i h
    simp only [Bool.and_eq_true] at h
    obtain ⟨⟨⟨hvote, -⟩, -⟩, -⟩ := h
    exact ⟨_, rfl, fun hno => Bool.noConfusion (hno.symm.trans hvote)⟩
  · exact ⟨z.meld.vote, rfl, fun _ => rfl⟩

/-- What SPLIT_TIMER makes of its pair (R89, R90). -/
theorem splitTimer_some {d a b : Nat} {ph : Bool} {s y : State} {p : SplitPair} (h : (nth s.sels d).splits.find? (pairOf a b ph) = some p)
    (hy : moveTo (p.since + timerSec (nth s.work.sels d).splitTime * secPs) s = y) :
    splitTimer d a b ph s = voteAsked (nth s.work.sels d) a b ph p.base (splitRaised d a b ph y) := by
  have hmatch : ∀ (x : Option SplitPair) (f : SplitPair → State), x = some p →
      (match x with | none => s | some p => f p) = f p := by
    rintro _ f rfl
    rfl
  unfold splitTimer
  refine (hmatch _ _ h).trans ?_
  unfold splitRaised voteAsked
  dsimp only
  rw [hy]
  rfl

end Sys2Proof.Machine
end
section
/-! PROOFS. The rows of the references' samples, sentences and timers, assembled (R72 to R90). -/
namespace Sys2Proof.Machine
open Sys2Proof Host

/-- A row that runs only while the chip runs. -/
theorem next_whileRunning {s : State} (h : running s = true) (f : State → State) :
    (.next (whileRunning f { s with out := [] }) : Outcome State Fault Refusal) = .next (f { s with out := [] }) :=
  congrArg Outcome.next (whileRunning_true (s := { s with out := [] }) h f)

/-- What marking a pair and asking the Meld leave: the pair is marked, SPLIT stands, and of the Meld only the vote may change (R89, R90). -/
theorem splitMarked_facts {d a b : Nat} {ph : Bool} {y : State} {r : SelRun} (c : SelCfg) (base : Option PhaseBase) (hr : y.sels[d]? = some r) :
    let t := voteAsked c a b ph base (splitRaised d a b ph y)
    causeStands 3 3 t ∧
    t.sels = y.sels.set d { r with splits := r.splits.map fun q => if pairOf a b ph q then { q with raised := true } else q } ∧
    (c.meldVote = false → t.meld = y.meld) ∧ plain t = plain { y with sels := t.sels, meld := { y.meld with vote := t.meld.vote } } := by
  intro t
  have hplain : plain (splitRaised d a b ph y) = plain { y with sels := y.sels.set d { r with
      splits := r.splits.map fun q => if pairOf a b ph q then { q with raised := true } else q } } := by
    rw [splitRaised, plain_raiseIdx, upd_of_get hr]
  have hstands : causeStands 3 3 (splitRaised d a b ph y) := stands_raiseIdx_self 3 3 a _ (by decide)
  have hmeld : (splitRaised d a b ph y).meld = y.meld := (meld_of_plain hplain).trans rfl
  have hsels := (sels_of_plain hplain).trans rfl
  obtain ⟨v, hv, hno⟩ := voteAsked_only c a b ph base (splitRaised d a b ph y)
  have ht : t = { splitRaised d a b ph y with meld := { (splitRaised d a b ph y).meld with vote := v } } := hv
  clear_value t
  subst ht
  refine ⟨stands_host rfl hstands, hsels, fun h => ?_, ?_⟩
  · rw [hno h]
    exact hmeld
  · have h := congrArg (fun z : State => { z with meld := { z.meld with vote := v } }) hplain
    refine h.trans ?_
    rw [hsels]
    rfl

/-- The row of FREQ_UPDATE before the tenth update of a window. -/
theorem freqUpdate_row {src o : Nat} {s : State} {r : RefRun} (hrun : running s = true) (ho : ordOf src = some o)
    (hr : s.refs[o]? = some r) (hst : r.state ≠ .disabled) (hs : r.hasSample = true) (hn : r.winUpdates + 1 < 10) :
    let win := winPs (nth s.work.pols o).freqWindow
    let y := moveTo (r.winStart + (r.winUpdates + 1) * (win / 10)) { s with out := [] }
    ∃ marks, exec (.freqUpdate src) s = .next { y with refs := y.refs.set o { r with
      winUpdates := r.winUpdates + 1, marks := (y.now, y.incSum) :: marks } } := by
  obtain ⟨marks, h⟩ := freqUpdate_counts (s := { s with out := [] }) ho hr hst hs hn
  exact ⟨marks, (next_whileRunning hrun (freqUpdate src)).trans (congrArg Outcome.next h)⟩

/-- The row of SPLIT_TIMER with its pair: the time it moves to is a parameter, so that no step computes it. -/
theorem splitTimer_row {d a b : Nat} {ph : Bool} {s y : State} {p : SplitPair} {r : SelRun}
    (hy : moveTo (p.since + timerSec (nth s.work.sels d).splitTime * secPs) { s with out := [] } = y) (hrun : running s = true)
    (hr : s.sels[d]? = some r) (hfind : r.splits.find? (pairOf a b ph) = some p) :
    ∃ t', exec (.splitTimer d a b ph) s = .next t' ∧ causeStands 3 3 t' ∧
      t'.sels = s.sels.set d { r with splits := r.splits.map fun q => if pairOf a b ph q then { q with raised := true } else q } ∧
      ((nth s.work.sels d).meldVote = false → t'.meld = s.meld) ∧
      plain t' = plain { y with sels := t'.sels, meld := { y.meld with vote := t'.meld.vote } } := by
  have hysels : y.sels = s.sels := by rw [← hy]; exact moveTo_sels _ _
  have hymeld : y.meld = s.meld := by rw [← hy]; exact moveTo_meld _ _
  have hp : (nth s.sels d).splits.find? (pairOf a b ph) = some p := by rw [nth_of_get hr]; exact hfind
  have hrow := (next_whileRunning hrun (splitTimer d a b ph)).trans
    (congrArg Outcome.next (splitTimer_some (s := { s with out := [] }) hp hy))
  obtain ⟨hstands, hsels, hmeld, hframe⟩ :=
    splitMarked_facts (a := a) (b := b) (ph := ph) (nth s.work.sels d) p.base (show y.sels[d]? = some r by rw [hysels, hr])
  rw [hysels] at hsels
  exact ⟨_, hrow, hstands, hsels, fun h => (hmeld h).trans hymeld, hframe⟩

/-- Settles O17, row by row: each row's equation on its case, with what the shared steps of a source leave. -/
theorem referenceEvents : Obligations.ReferenceEvents := by
  unfold Obligations.ReferenceEvents
  refine ⟨?pulse, ?zda, ?miss, ?noEdge, ?freq, ?expiry, ?split⟩
  case pulse =>
    intro src t w o s r x c p ho hk hrun hr hst hm
    have hro : refOf x o = r := nth_of_get hr
    have hrow := refSample_pulse (w := w) (show begin_ t s = x from rfl) (show refCfg x o = c from rfl) ho hk hrun (by rw [hro]; exact hst) hm
    refine ⟨fun hg hw => ?_, fun hw hp => ?_⟩
    · have he := hrow.trans (if_pos ⟨hg, hw⟩)
      exact ⟨_, congrArg Outcome.next he, by rw [plain_bump, refEvent_latched hr]⟩
    · have he := hrow.trans (if_neg (by omega))
      obtain ⟨hframe, hothers⟩ := activityEvent_frame o (secPs * max 1 c.freqDen) (max 1 c.freqNum) x
      obtain ⟨hhi, hlo⟩ := nearestInstant_within hp (sourceStamp c x)
      refine ⟨_, _, congrArg Outcome.next he, hframe, hothers, rfl, rfl, rfl, hhi, hlo, (sourceStamp c x + p / 2) / p, ?_⟩
      exact (Int.sub_add_cancel _ _).trans (Nat.cast_mul _ _)
  case zda =>
    intro t o ok b s r hrun x hpin hr
    have hro : refOf x o = r := nth_of_get hr
    have hrow : exec (.zdaSentence t ok b) s = .next (zdaSentence t ok b s) := congrArg Outcome.next (if_pos hrun)
    refine ⟨fun hbad => ?_, fun utc p hok hb hp h0 h1 => ?_⟩
    · rw [← hro] at hbad
      have he := (zdaSentence_bad (show begin_ t s = x from rfl) hpin hbad).trans (refEvent_latched hr)
      exact hrow.trans (congrArg Outcome.next he)
    · subst hok
      rw [← hro] at hp
      obtain ⟨hkept, hused⟩ := zdaSentence_good (show begin_ t s = x from rfl) hpin hb hp h0 h1
      refine ⟨fun hl => ?_, fun w hl hw => ?_⟩
      · exact hrow.trans (congrArg Outcome.next ((hkept hl).trans (updRef_of_get _ hr)))
      · have he := hused w hl (by rw [hro]; exact hw)
        have hlen := lt_length_of_get hr
        have hself : (x.refs.set o { r with awaiting := none })[o]? = some { r with awaiting := none } := List.getElem?_set_self hlen
        rw [updRef_of_get _ hr, todUse_eq, updRef_of_get _ hself, List.set_set, refOf, nth_of_get hself] at he
        refine ⟨_, _, _, hrow.trans (congrArg Outcome.next he), rfl, rfl, rfl, rfl, fun htv => todLabelOf_untimed htv utc _, fun l hlast hne => ?_⟩
        dsimp only
        rw [hlast]
        exact todBad_apart hne _ _
  case miss =>
    intro src o e s r hrun pol y ho hk hm hr hst he
    have hro : refOf s o = r := nth_of_get hr
    have hy : y.refs[o]? = some r := by rw [moveTo_refs]; exact hr
    have hrow := next_whileRunning hrun (activityMiss src)
    have hmiss := activityMiss_at (s := { s with out := [] }) ho hk hm (hro ▸ hst) (hro ▸ he)
    rw [show refOf { s with out := [] } o = r from hro] at hmiss
    refine ⟨fun hlt => ?_, fun hge => ?_⟩
    · have hcount := (hmiss.trans (if_neg (Nat.not_le.mpr hlt))).trans (updRef_of_get _ hy)
      exact ⟨_, hrow.trans (congrArg Outcome.next hcount), Nat.le_add_right _ _⟩
    · refine ⟨_, hrow.trans (congrArg Outcome.next (hmiss.trans (if_pos hge))), ?_⟩
      obtain ⟨hcause, hexp, hfailed⟩ := silenced_facts (f := fun r => { r with expected := none, misses := 0 }) hy hst rfl rfl
      exact ⟨hcause, hexp, hfailed, (kept_silenced _ _ _).trans ((kept_moveTo _ _).trans rfl)⟩
  case noEdge =>
    intro src o e s r hrun ho hc hr hst he
    have hro : refOf s o = r := nth_of_get hr
    have hy : (moveTo e { s with out := [] }).refs[o]? = some r := by rw [moveTo_refs]; exact hr
    have hrow := (next_whileRunning hrun (noStampedEdge src)).trans
      (congrArg Outcome.next (noStampedEdge_at (s := { s with out := [] }) ho hc (hro ▸ hst) (hro ▸ he)))
    refine ⟨_, hrow, ?_⟩
    obtain ⟨hcause, hexp, hfailed⟩ := silenced_facts (f := fun r => { r with expected := none }) hy hst rfl rfl
    exact ⟨hcause, hexp, hfailed, (kept_silenced _ _ _).trans ((kept_moveTo _ _).trans rfl)⟩
  case freq =>
    intro src o s r hrun win y ho hr hst hs hn
    exact freqUpdate_row hrun ho hr hst hs hn
  case expiry =>
    intro src o d s r hrun y ho hr ht z
    have hro : refOf s o = r := nth_of_get hr
    have hy : y.refs[o]? = some r := by rw [moveTo_refs]; exact hr
    refine ⟨fun hst => ?_, fun hst => ?_, toQualified_facts hy⟩
    · exact (next_whileRunning hrun (qualTimeExpiry src)).trans
        (congrArg Outcome.next (qualTimeExpiry_at (s := { s with out := [] }) ho (hro ▸ hst) (hro ▸ ht)))
    · exact (next_whileRunning hrun (wtrExpiry src)).trans
        (congrArg Outcome.next (wtrExpiry_at (s := { s with out := [] }) ho (hro ▸ hst) (hro ▸ ht)))
  case split =>
    intro d a b ph s p r hrun is y hr hfind
    exact splitTimer_row rfl hrun hr hfind

end Sys2Proof.Machine
end
section
/-! PROOFS. The commands of the DPLLs, of the holdover model and of accepted jumps (R122, R131 to R135). -/
namespace Sys2Proof.Machine
open Sys2Proof Host

/-! ### DPLL_STATUS and HOLD_MODEL_READ -/

theorem dpllStatusReply_length (x : State) (d : Nat) : (dpllStatusReply x d).length = 72 := by
  simp only [dpllStatusReply, optByte, List.length_append, leBytes_length, leInt_length, zeros_length]

theorem dpllStatusReply_fields (x : State) (d : Nat) :
    fld (dpllStatusReply x d) 0 1 = d % 256 ∧ fld (dpllStatusReply x d) 1 1 = dpllStateCode (dpllOf x d).state ∧
    fld (dpllStatusReply x d) 2 1 = ((nth x.sels d).selected.getD 0xFF) % 256 ∧
    fld (dpllStatusReply x d) 3 1 = (if d = 0 then classOf x else 0) % 256 ∧
    fld (dpllStatusReply x d) 40 4 = effNow x d % 2 ^ 32 ∧ fld (dpllStatusReply x d) 44 4 = (dpllOf x d).lockCount % 2 ^ 32 ∧
    fld (dpllStatusReply x d) 64 2 = (dpllOf x d).lastJumpSource % 2 ^ 16 := by
  have hcode : dpllStateCode (dpllOf x d).state % 256 = dpllStateCode (dpllOf x d).state := by cases (dpllOf x d).state <;> rfl
  simp only [dpllStatusReply, optByte, List.append_assoc, fld_append_right, fld_le_here, leBytes_length, leInt_length, Nat.reduceLeDiff,
    Nat.reduceSub, Nat.reducePow, true_and, and_true]
  exact hcode

/-- The flags of DPLL_STATUS: once locked, rate clamped, Dummy (R132). -/
theorem dpllStatusReply_flags (x : State) (d : Nat) :
    (fld (dpllStatusReply x d) 4 4).testBit 0 = (dpllOf x d).everLocked ∧ (fld (dpllStatusReply x d) 4 4).testBit 1 = (dpllOf x d).rateClamped ∧
    (fld (dpllStatusReply x d) 4 4).testBit 5 = isDummy x := by
  simp only [dpllStatusReply, optByte, List.append_assoc, fld_append_right, fld_le_here, leBytes_length, Nat.reduceLeDiff, Nat.reduceSub]
  refine ⟨?_, ?_, ?_⟩ <;> rw [testBit_field _ (by decide), testBit_packBits] <;> rfl

theorem holdReadReply_length (x : State) : (holdReadReply x).length = 104 := by
  simp only [holdReadReply, List.length_append, leBytes_length, leInt_length, boundBytes_length, zeros_length]

theorem holdReadReply_fields (x : State) :
    fld (holdReadReply x) 0 2 = x.work.hold.holdClock % 2 ^ 16 ∧ fld (holdReadReply x) 8 8 = aEff x % 2 ^ 64 ∧
    fld (holdReadReply x) 16 8 = dEff x % 2 ^ 64 ∧ fld (holdReadReply x) 24 8 = qEff x % 2 ^ 64 ∧
    fld (holdReadReply x) 96 4 = x.hold.steerCount % 2 ^ 32 ∧ fld (holdReadReply x) 100 4 = x.hold.steerNoack % 2 ^ 32 := by
  simp only [holdReadReply, List.append_assoc, fld_append_right, fld_le_here, fld_le_all, leBytes_length, leInt_length, boundBytes_length,
    zeros_length, Nat.reduceLeDiff, Nat.reduceSub, Nat.reducePow, and_self]

/-- The flags of HOLD_MODEL_READ: learned, oscillator faulty (R134). -/
theorem holdReadReply_flags (x : State) :
    (fld (holdReadReply x) 2 1).testBit 0 = x.hold.learned ∧ (fld (holdReadReply x) 2 1).testBit 3 = x.hold.oscFault := by
  simp only [holdReadReply, List.append_assoc, fld_append_right, fld_le_here, leBytes_length, Nat.reduceLeDiff, Nat.reduceSub]
  refine ⟨?_, ?_⟩ <;> rw [testBit_field _ (by decide), testBit_packBits] <;> rfl

/-! ### JUMP_ACCEPT -/

/-- A signed field in range reads back as the value that was put into it. -/
theorem fldI_leInt_here {n : Nat} {v : Int} (r : Bytes) (hn : 0 < 8 * n) (h0 : -(2 ^ (8 * n - 1) : Nat) ≤ v) (h1 : v < (2 ^ (8 * n - 1) : Nat)) :
    fldI (leInt n v ++ r) 0 n = v := by
  rw [fldI, fld_leInt_here, ← Nat.mod_eq_of_lt (ofSigned_lt (8 * n) v)]
  exact toSigned_ofSigned (8 * n) v hn h0 h1

theorem satOffset_of_range {o : Int} (h0 : -(2 ^ 63) ≤ o) (h1 : o < 2 ^ 63) : satOffset o = o := by
  unfold satOffset clampI
  rw [if_neg (by push_cast; omega), if_neg (by push_cast; omega)]

/-- The state after JUMP_ACCEPT has accepted a source: its findings are off, it is qualified, the T-DPLL takes it where it is the choice,
and every selector has evaluated (R122). -/
def jumpAccepted (o : Nat) (step : Bool) (y : State) : State :=
  evalAll (acceptChoice o step (toQualified o (updRef o (fun r => { r with cause := clrBit (clrBit r.cause cPhaseJump) cPhaseLimit }) y)))

/-- The reply of JUMP_ACCEPT from the state `y` before and the state `e` after: the jump, and whether the source is selected and
stepped to (R135). -/
def jumpAcceptReply (o : Nat) (step : Bool) (y e : State) : Bytes :=
  let sel := tSelected e == some o
  leInt 8 (satOffset (refOf y o).phase) ++ leBytes 1 (packBits [sel, sel && step && e.time.stepEpoch != y.time.stepEpoch]) ++ zeros 7

theorem hJumpAccept_eq {q : Req} {x : State} {o : Nat} (hf : fits q 4 [srcF 0, inF 2 1 0 1, rsvF 3 1]) (ho : ordOf (fld q.params 0 2) = some o) :
    let step := bit (fld q.params 2 1) 0
    hJumpAccept q x = refuseIf (isDummy x) stNotOwner 0 (refuseIf ((refOf (nextTick x) o).state != .suspect) stBadState 0
      (.done (jumpAcceptReply o step (nextTick x) (jumpAccepted o step (nextTick x))) (jumpAccepted o step (nextTick x)))) := by
  refine (checked_of hf).trans ?_
  simp only [ho, Option.getD_some, declarerOnly, jumpAcceptReply, jumpAccepted]

theorem jumpAcceptReply_length (o : Nat) (step : Bool) (y e : State) : (jumpAcceptReply o step y e).length = 16 := by
  simp only [jumpAcceptReply, List.length_append, leBytes_length, leInt_length, zeros_length]

theorem jumpAcceptReply_jump {o : Nat} {y : State} (step : Bool) (e : State) (h0 : -(2 ^ 63) ≤ (refOf y o).phase) (h1 : (refOf y o).phase < 2 ^ 63) :
    fldI (jumpAcceptReply o step y e) 0 8 = (refOf y o).phase := by
  rw [jumpAcceptReply, satOffset_of_range h0 h1, List.append_assoc]
  exact fldI_leInt_here _ (by decide) h0 h1

theorem jumpAcceptReply_selected (o : Nat) (step : Bool) (y e : State) :
    (fld (jumpAcceptReply o step y e) 8 1).testBit 0 = (tSelected e == some o) := by
  simp only [jumpAcceptReply, List.append_assoc, fld_append_right, fld_le_here, leInt_length, Nat.reduceLeDiff, Nat.reduceSub]
  rw [testBit_field _ (by decide), testBit_packBits]
  rfl

theorem banks_acceptChoice (o : Nat) (step : Bool) (s : State) : banks (acceptChoice o step s) = banks s := by
  unfold acceptChoice
  dsimp only
  split
  · rw [banks_ite, banks_tAccept]
    exact (ite_self _).trans (banks_raise _ _ _)
  · rfl

theorem banks_jumpAccepted (o : Nat) (step : Bool) (y : State) : banks (jumpAccepted o step y) = banks y := by
  rw [jumpAccepted, banks_evalAll, banks_acceptChoice, toQualified, banks_refEvent, banks_updRef, banks_updRef]

/-! ### The commands -/

/-- A command that starts at once and is done is answered DONE where it leaves the register banks as they are. -/
theorem runCmd_done_of_banks {op : Nat} {q : Req} {s e : State} {h : Handler} {data : Bytes} (hs : startsAt op q s = true)
    (hd : h q (started op q s) = .done data e) (hb : banks e = banks (started op q s)) :
    (Outcome.next (runCmd op h q s) : Outcome State Fault Refusal) = done op q data e :=
  runCmd_done hs hd (congrArg Prod.fst hb) (congrArg Prod.snd hb)

/-- Settles O18, command by command: what each handler writes, refuses or answers. -/
theorem loopAndHoldoverCommands : Obligations.LoopAndHoldoverCommands := by
  unfold Obligations.LoopAndHoldoverCommands
  refine ⟨?configure, ?status, ?modelSet, ?modelRead, ?accept⟩
  case configure =>
    intro q s hs hf x p c bad
    obtain ⟨hw, hr⟩ := runCmd_writesUnless (h := hDpllConfigure) hs (checked_of hf)
    have hbad : (c.holdSource == 1 && !x.shadow.meld.enable || c.holdSource == 0 && x.shadow.hold.holdClock != 0) = true ↔ bad := by
      simp [bad]
    exact ⟨fun h => hw (Bool.eq_false_iff.mpr (mt hbad.mp h)), fun h => hr (hbad.mpr h)⟩
  case status =>
    intro q s hs hf x d r
    obtain ⟨hdom, hcode, hsel, hclass, hrest⟩ := dpllStatusReply_fields x d
    obtain ⟨hlocked, hclamped, hdummy⟩ := dpllStatusReply_flags x d
    refine ⟨dpllStatusReply x d, runCmd_done hs (checked_of hf) rfl rfl, dpllStatusReply_length x d, hdom, hcode.trans ?_, hsel,
      fun h => ?_, fun h => ?_, hlocked, hclamped, hdummy, hrest⟩
    · show dpllStateCode r.state = _
      cases r.state <;> rfl
    · rw [hclass, if_pos h]
    · rw [hclass, if_neg h]
  case modelSet =>
    intro q s hs hf x p c
    obtain ⟨hw, hr⟩ := runCmd_writesUnless (h := hHoldModelSet) hs (checked_of hf)
    exact ⟨fun h => hw (Option.isNone_eq_false_iff.mpr (Option.isSome_iff_ne_none.mpr h)), fun h => hr (Option.isNone_iff_eq_none.mpr h)⟩
  case modelRead =>
    intro q s hs hf x
    obtain ⟨hclock, ha, hd, hq, hsent, hlost⟩ := holdReadReply_fields x
    obtain ⟨hlearned, hfault⟩ := holdReadReply_flags x
    exact ⟨holdReadReply x, runCmd_done hs (checked_of hf) rfl rfl, holdReadReply_length x, hclock, hlearned, hfault, ha, hd, hq, hsent, hlost⟩
  case accept =>
    intro q s o hs hf ho x y
    have hh := hJumpAccept_eq (x := x) hf ho
    refine ⟨fun hd => ?_, fun hd hst => ?_, fun hd hst => ?_⟩
    · exact congrArg Outcome.next (runCmd_refused hs (hh.trans (refuseIf_true hd)))
    · exact congrArg Outcome.next (runCmd_refused hs (hh.trans ((refuseIf_not hd).trans (refuseIf_true (bne_iff_ne.mpr hst)))))
    · have hsuspect : ((refOf y o).state != .suspect) = false := by rw [hst]; rfl
      have hdone := hh.trans ((refuseIf_not hd).trans (refuseIf_not hsuspect))
      have hbanks := (banks_jumpAccepted o (bit (fld q.params 2 1) 0) y).trans (banks_nextTick x)
      exact ⟨_, _, runCmd_done_of_banks hs hdone hbanks, jumpAcceptReply_length o _ y _, rfl, jumpAcceptReply_jump _ _,
        jumpAcceptReply_selected o _ y _⟩

end Sys2Proof.Machine
end
section
/-! PROOFS. Lock, frequency estimates, learning, and the class and alert of the bound (R104, R105, R113, R117, R123, R124, R158, R163). -/
namespace Sys2Proof.Machine
open Sys2Proof Host

/-! ### The block without its loops -/

/-- The block without its bookkeeping and without the DPLLs, the holdover part and the bound. -/
def offLoops (s : State) : State := plain { s with dplls := [], hold := {}, bound := {} }

theorem offLoops_of_plain {s t : State} (h : plain t = plain s) : offLoops t = offLoops s :=
  congrArg (fun x : State => { x with dplls := [], hold := {}, bound := {} }) h
/-- Blocks that agree without their loops agree in full once the loops are put in. -/
theorem plain_of_offLoops {s t : State} (h : offLoops t = offLoops s) :
    plain t = plain { s with dplls := t.dplls, hold := t.hold, bound := t.bound } :=
  congrArg (fun x : State => { x with dplls := t.dplls, hold := t.hold, bound := t.bound }) h
theorem offLoops_raise (c b : Nat) (s : State) : offLoops (raise c b s) = offLoops s := offLoops_of_plain (plain_raise c b s)
theorem offLoops_settleBound (s : State) : offLoops (settleBound s) = offLoops s :=
  (offLoops_of_plain (settleBound_frame s)).trans rfl
theorem settleBound_dplls (s : State) : (settleBound s).dplls = s.dplls :=
  (dplls_of_plain (settleBound_frame s)).trans rfl

/-! ### DPLL_LOCK -/

theorem clearParts_only (s : State) : ∃ b, clearParts s = { s with bound := b } ∧ b.excHold = s.bound.excHold := by
  unfold clearParts
  dsimp only
  split <;> split <;> exact ⟨_, rfl, rfl⟩

/-- Clearing the disturbances changes the bound alone, and leaves the excursion of the holdover column. -/
theorem clearDist_only (s : State) : ∃ b, clearDist s = { s with bound := b } ∧ b.excHold = s.bound.excHold := by
  unfold clearDist
  split
  · exact ⟨_, rfl, rfl⟩
  · split
    · exact ⟨_, rfl, rfl⟩
    · exact clearParts_only s

/-- A loop as it stands once LOCKED is entered (R104). -/
def lockedRun (r : DpllRun) : DpllRun := { r with state := .locked, everLocked := true, lockCount := (r.lockCount + 1) % 2 ^ 32 }

/-- The holdover part without the floors and findings that the T-DPLL's lock takes away; learning starts where the Meld runs
(R105, R113, R114, R116, R117). -/
def floorsGone (now : Nat) (meld : Bool) (h : HoldRun) : HoldRun :=
  { h with absent := false, clampStands := false, failedStands := false, leftStands := false, aFloor := 0, dFloor := 0, qFloor := 0
           learnSince := if meld then some now else none }

/-- What entering LOCKED does in the T-DPLL: a lock, the holdover findings gone, the bound without the holdover excursion. -/
theorem enterLocked_t (s : State) : ∃ b, b.excHold = false ∧ enterLocked 0 s =
    raise 4 6 { s with dplls := upd s.dplls 0 lockedRun, hold := floorsGone s.now s.work.meld.enable s.hold, bound := b } := by
  obtain ⟨b, hb, hexc⟩ := clearDist_only { s with
    dplls := upd s.dplls 0 lockedRun, hold := floorsGone s.now s.work.meld.enable s.hold, bound := { s.bound with excHold := false } }
  exact ⟨b, hexc, congrArg (raise 4 6) hb⟩

theorem enterLocked_f {d : Nat} (hd : d ≠ 0) (s : State) : enterLocked d s = raise 4 (15 + d) { s with dplls := upd s.dplls d lockedRun } :=
  if_neg hd

theorem enterLocked_dplls (d : Nat) (s : State) : (enterLocked d s).dplls = upd s.dplls d lockedRun := by
  by_cases hd : d = 0
  · subst hd
    obtain ⟨b, -, h⟩ := enterLocked_t s
    rw [h, raise_dplls]
  · rw [enterLocked_f hd, raise_dplls]

theorem offLoops_enterLocked (d : Nat) (s : State) : offLoops (enterLocked d s) = offLoops s := by
  by_cases hd : d = 0
  · subst hd
    obtain ⟨b, -, h⟩ := enterLocked_t s
    rw [h, offLoops_raise]
    rfl
  · rw [enterLocked_f hd, offLoops_raise]
    rfl

theorem stands_enterLocked {d : Nat} (hd : d < 4) (s : State) : causeStands 4 (if d = 0 then 6 else 15 + d) (enterLocked d s) := by
  by_cases h0 : d = 0
  · subst h0
    obtain ⟨b, -, h⟩ := enterLocked_t s
    rw [h]
    exact stands_raise_self 4 6 _ (by decide)
  · rw [enterLocked_f h0, if_neg h0]
    exact stands_raise_self 4 (15 + d) _ (by omega)

/-- A loop that acquires, or has returned, locks where its phase error has stayed within LOCK_PHASE for LOCK_TIME (R104, R105). -/
theorem dpllLock_locks {d t0 t : Nat} {s : State} (hdummy : d = 0 → isDummy s = false) (hsince : (dpllOf s d).lockSince = some t0)
    (hst : (dpllOf s d).state = .acquiring ∨ (dpllOf s d).state = .returning ∧ (dpllOf s d).returnSlewing = false)
    (ht : t0 + timerSec (dpllCfg s d).lockTime * secPs = t) : dpllLock d s = settleBound (enterLocked d (moveTo t s)) := by
  have hmine : ¬ (decide (d = 0) && isDummy s) = true := by
    rw [Bool.and_eq_true, decide_eq_true_eq]
    exact fun h => Bool.false_ne_true ((hdummy h.1).symm.trans h.2)
  have hlocks : ((dpllOf s d).state == .acquiring || ((dpllOf s d).state == .returning && !(dpllOf s d).returnSlewing)) = true := by
    simpa using hst
  unfold dpllLock
  dsimp only
  rw [if_neg hmine, hsince, hlocks, ← ht]

/-- What the lock of a loop changes, the cause that it raises, and what stays (R104, R105, R113, R114, R116). -/
theorem locked_facts {d : Nat} {y : State} {r : DpllRun} (hd : d < 4) (hr : y.dplls[d]? = some r) :
    let t' := settleBound (enterLocked d y)
    t'.dplls = y.dplls.set d (lockedRun r) ∧ causeStands 4 (if d = 0 then 6 else 15 + d) t' ∧
    (d = 0 → t'.hold.absent = false ∧ t'.hold.clampStands = false ∧ t'.hold.failedStands = false ∧ t'.hold.leftStands = false ∧
      t'.hold.aFloor = 0 ∧ t'.hold.dFloor = 0 ∧ t'.hold.qFloor = 0 ∧ t'.bound.excHold = false) ∧
    plain t' = plain { y with dplls := t'.dplls, hold := t'.hold, bound := t'.bound } := by
  refine ⟨?_, stands_settleBound (stands_enterLocked hd y), fun h0 => ?_,
    plain_of_offLoops ((offLoops_settleBound _).trans (offLoops_enterLocked d y))⟩
  · rw [settleBound_dplls, enterLocked_dplls, upd_of_get hr]
  · subst h0
    obtain ⟨b, hexc, he⟩ := enterLocked_t y
    have hhold : (enterLocked 0 y).hold = floorsGone y.now y.work.meld.enable y.hold := by rw [he, raise_hold]
    have hbound : (enterLocked 0 y).bound = b := by rw [he, raise_bound]
    rw [settleBound_hold, settleBound_bound, hhold, hbound]
    exact ⟨rfl, rfl, rfl, rfl, rfl, rfl, rfl, hexc⟩

/-! ### FREQ_STEP_ESTIMATE -/

/-- A domain whose estimate interval has ended at `t`: the next one starts there without points, and an estimate made is kept (R123). -/
def estimateTaken (d t : Nat) (y : State) : State :=
  updDpll d (fun x => { x with estStart := some t, points := [], lastEst := (slopeOf (dpllOf y d).points).or x.lastEst }) y

/-- The block with a frequency step of `dy` found over estimate intervals of `len` ps (R123, R158). -/
def stepFound (d dy len : Nat) (z : State) : State :=
  let s := occur 0x27 d (raise 4 13 z)
  disturb (ceilDiv (dy * (2 * len + 62500000000) * 256) (2 ^ 64)) dy (lateAlerts
    { s with hold := { s.hold with freqStepped := true, stepPs := some s.now } })

theorem estRuns_of_tracking {d : Nat} {s : State} (h : tracking (dpllOf s d).state = true) : estRuns d s = true := by
  simp only [estRuns, h, Bool.true_or]

theorem estSource_of_selected {d o : Nat} {s : State} (h : (nth s.sels d).selectedOrd = some o) : estSource d s = some o := by
  rw [estSource, h, Option.some_or]

section
variable {d t0 o t : Nat} {s : State} {r : DpllRun} (hr : dpllOf s d = r) (hstart : r.estStart = some t0)
  (hsel : (nth s.sels d).selectedOrd = some o) (htrack : tracking r.state = true) (ht : t0 + estLen (refOf s o).period = t)
include hr hstart hsel htrack ht

/-- No step is found where an estimate is missing. -/
theorem freqStepEstimate_single (hmiss : r.lastEst = none ∨ slopeOf r.points = none) :
    freqStepEstimate d s = settleBound (estimateTaken d t (moveTo t s)) := by
  have hy : dpllOf (moveTo t s) d = r := (congrArg (fun l => nth l d) (moveTo_dplls t s)).trans hr
  subst hr
  simp only [freqStepEstimate, estimateTaken, hstart, estSource_of_selected hsel, estRuns_of_tracking htrack, ht, hy]
  rcases hmiss with h | h
  · rw [h]
    cases slopeOf (dpllOf s d).points <;> rfl
  · rw [h]

/-- Two estimates that differ by FREQ_STEP_DETECT make a step. -/
theorem freqStepEstimate_step {e p : Int} (he : slopeOf r.points = some e) (hp : r.lastEst = some p) (hdet : (dpllCfg s d).freqStepDetect ≠ 0)
    (hge : (dpllCfg s d).freqStepDetect * 2 ^ 24 ≤ (e - p).natAbs) :
    freqStepEstimate d s = settleBound (stepFound d (e - p).natAbs (estLen (refOf s o).period) (estimateTaken d t (moveTo t s))) := by
  have hy : dpllOf (moveTo t s) d = r := (congrArg (fun l => nth l d) (moveTo_dplls t s)).trans hr
  have hcfg : ∀ f, dpllCfg (updDpll d f (moveTo t s)) d = dpllCfg s d := fun _ => congrArg (fun c : Cfg => nth c.dplls d) (moveTo_work t s)
  subst hr
  simp only [freqStepEstimate, estimateTaken, hstart, estSource_of_selected hsel, estRuns_of_tracking htrack, ht, hy, he, hp, hcfg]
  exact if_pos ⟨hdet, hge⟩

end

theorem estimateTaken_dplls {d : Nat} {y : State} {r : DpllRun} (t : Nat) (hr : y.dplls[d]? = some r) :
    (estimateTaken d t y).dplls = y.dplls.set d { r with estStart := some t, points := [], lastEst := (slopeOf r.points).or r.lastEst } := by
  have hy : dpllOf y d = r := nth_of_get hr
  rw [estimateTaken, hy]
  exact upd_of_get hr

/-- A JUMP_ALERT raised late changes B0 and causes alone (R119, R128). -/
theorem lateAlerts_only (s : State) : ∃ b, plain (lateAlerts s) = plain { s with hold := { s.hold with b0 := b } } := by
  unfold lateAlerts
  generalize (nth s.work.sels 0).slate = l
  induction l generalizing s with
  | nil => exact ⟨s.hold.b0, rfl⟩
  | cons e l ih =>
    rw [List.foldl_cons]
    dsimp only
    split
    · refine (ih _).imp fun b hb => hb.trans ?_
      rw [raise_hold]
      exact congrArg (fun x : State => { x with hold := { s.hold with b0 := b } }) (plain_raise 4 10 _)
    · exact ih s

theorem stands_lateAlerts {c b : Nat} {s : State} (h : causeStands c b s) : causeStands c b (lateAlerts s) := by
  unfold lateAlerts
  refine stands_foldl _ (fun x e hx => ?_) _ h
  dsimp only
  split
  · exact stands_raise 4 10 (stands_host rfl hx)
  · exact hx

theorem offLoops_disturb (a f : Nat) (s : State) : offLoops (disturb a f s) = offLoops s := by
  rw [disturb, offLoops_raise]
  split <;> rfl
theorem disturb_dplls (a f : Nat) (s : State) : (disturb a f s).dplls = s.dplls := by
  rw [disturb, raise_dplls]
  split <;> rfl
theorem disturb_freqStepped (a f : Nat) (s : State) : (disturb a f s).hold.freqStepped = s.hold.freqStepped := by
  rw [disturb, raise_hold]
  split <;> rfl
theorem stands_disturb {c b : Nat} {s : State} (a f : Nat) (h : causeStands c b s) : causeStands c b (disturb a f s) := by
  unfold disturb
  refine stands_raise 5 6 ?_
  split <;> exact stands_host rfl h
theorem stands_disturb_self (a f : Nat) (s : State) : causeStands 5 6 (disturb a f s) := stands_raise_self 5 6 _ (by decide)

/-- What a frequency step found changes, and the causes that stand then (R123, R158). -/
theorem stepFound_facts (d dy len : Nat) (z : State) :
    (stepFound d dy len z).dplls = z.dplls ∧ (stepFound d dy len z).hold.freqStepped = true ∧ offLoops (stepFound d dy len z) = offLoops z ∧
    causeStands 4 13 (stepFound d dy len z) ∧ causeStands 5 6 (stepFound d dy len z) := by
  have hraised : plain (occur 0x27 d (raise 4 13 z)) = plain z := (plain_occur _ _ _).trans (plain_raise _ _ _)
  have hstands : causeStands 4 13 (occur 0x27 d (raise 4 13 z)) := stands_occur _ _ (stands_raise_self 4 13 z (by decide))
  unfold stepFound
  revert hraised hstands
  generalize occur 0x27 d (raise 4 13 z) = u
  intro hraised hstands
  dsimp only
  obtain ⟨b, hb⟩ := lateAlerts_only { u with hold := { u.hold with freqStepped := true, stepPs := some u.now } }
  refine ⟨?_, ?_, ?_, ?_, ?_⟩
  · rw [disturb_dplls, dplls_of_plain hb]
    show u.dplls = z.dplls
    exact dplls_of_plain hraised
  · rw [disturb_freqStepped, hold_of_plain hb]
  · rw [offLoops_disturb, offLoops_of_plain hb]
    show offLoops u = offLoops z
    exact offLoops_of_plain hraised
  · exact stands_disturb _ _ (stands_lateAlerts (stands_host rfl hstands))
  · exact stands_disturb_self _ _ _

/-! ### MODEL_LEARNED, and the bound's class and alert -/

/-- The model is learned once LEARN_HOURS of locked time have run (R117). -/
theorem modelLearned_at {s : State} {t0 t : Nat} (hsince : s.hold.learnSince = some t0) (hnot : s.hold.learned = false)
    (ht : t0 + (s.work.hold.learnHours * 3600 * secPs - s.hold.learnedPs) = t) :
    modelLearned s = raise 4 15 (learnValues { moveTo t s with hold := { (moveTo t s).hold with learned := true, oscFault := false } }) := by
  simp only [modelLearned, hsince, hnot, ht]

/-- What MODEL_LEARNED changes: the learned values and the marks of the holdover part (R117). -/
theorem learned_frame (y : State) :
    let t' := raise 4 15 (learnValues { y with hold := { y.hold with learned := true, oscFault := false } })
    t'.hold = { y.hold with learned := true, oscFault := false, aLearned := t'.hold.aLearned, dLearned := t'.hold.dLearned, qLearned := t'.hold.qLearned } ∧
    plain t' = plain { y with hold := t'.hold } := by
  dsimp only
  rw [plain_raise, raise_hold]
  exact ⟨rfl, rfl⟩

/-- A class other than the one held raises CLASS_CHANGE as the bound settles (R124). -/
theorem stands_classChange {s : State} (h : classOf s ≠ s.hold.clockClass) : causeStands 4 11 (settleBound s) := by
  unfold settleBound
  dsimp only
  refine stands_host rfl ?_
  rw [if_pos (bne_iff_ne.mpr h)]
  exact stands_raise_self 4 11 _ (by decide)

/-- A bound that comes above ALERT_LEVEL raises BOUND_ALERT as it settles (R163). -/
theorem stands_boundAlert {s : State} (hwas : s.bound.wasAbove = false) (h : s.work.bound.alertLevel < boundPs (counterBound s)) :
    causeStands 5 8 (settleBound s) := by
  have habove : (aboveAlert s && !s.bound.wasAbove) = true := by
    rw [hwas, Bool.not_false, Bool.and_true]
    exact decide_eq_true h
  unfold settleBound
  dsimp only
  refine stands_host rfl ?_
  rw [if_pos habove]
  split
  · exact stands_raise 4 11 (stands_raise_self 5 8 _ (by decide))
  · exact stands_raise_self 5 8 _ (by decide)

/-! ### The rows -/

/-- The lock of a loop at the instant `t` at which its phase error has stayed within LOCK_PHASE for LOCK_TIME (R104, R105). -/
theorem dpllLock_row {d t0 t : Nat} {s : State} {r : DpllRun} (hrun : running s = true) (hr : s.dplls[d]? = some r) (hsince : r.lockSince = some t0)
    (hdummy : d = 0 → isDummy s = false) (hd : d < 4) (hst : r.state = .acquiring ∨ r.state = .returning ∧ r.returnSlewing = false)
    (ht : t0 + timerSec (nth s.work.dplls d).lockTime * secPs = t) :
    let y := moveTo t { s with out := [] }
    ∃ t', exec (.dpllLock d) s = .next t' ∧ t'.dplls = s.dplls.set d (lockedRun r) ∧ causeStands 4 (if d = 0 then 6 else 15 + d) t' ∧
      (d = 0 → t'.hold.absent = false ∧ t'.hold.clampStands = false ∧ t'.hold.failedStands = false ∧ t'.hold.leftStands = false ∧
        t'.hold.aFloor = 0 ∧ t'.hold.dFloor = 0 ∧ t'.hold.qFloor = 0 ∧ t'.bound.excHold = false) ∧
      plain t' = plain { y with dplls := t'.dplls, hold := t'.hold, bound := t'.bound } := by
  intro y
  have hro : dpllOf { s with out := [] } d = r := nth_of_get hr
  have hydplls : y.dplls = s.dplls := moveTo_dplls t _
  have hrow := (next_whileRunning hrun (dpllLock d)).trans
    (congrArg Outcome.next (dpllLock_locks (s := { s with out := [] }) hdummy (hro ▸ hsince) (hro ▸ hst) ht))
  obtain ⟨hdplls, hstands, hgone, hframe⟩ := locked_facts (y := y) hd (hydplls ▸ hr)
  exact ⟨_, hrow, hdplls.trans (congrArg (fun l => l.set d (lockedRun r)) hydplls), hstands, hgone, hframe⟩

/-- The model is learned at the instant `t` at which LEARN_HOURS of locked time have run (R117). -/
theorem modelLearned_row {t0 t : Nat} {s : State} (hrun : running s = true) (hsince : s.hold.learnSince = some t0) (hnot : s.hold.learned = false)
    (ht : t0 + (s.work.hold.learnHours * 3600 * secPs - s.hold.learnedPs) = t) :
    let y := moveTo t { s with out := [] }
    ∃ t', exec .modelLearned s = .next t' ∧ causeStands 4 15 t' ∧ t'.hold = { y.hold with
      learned := true, oscFault := false, aLearned := t'.hold.aLearned, dLearned := t'.hold.dLearned, qLearned := t'.hold.qLearned } ∧
      plain t' = plain { y with hold := t'.hold } := by
  intro y
  have hrow := (next_whileRunning hrun modelLearned).trans (congrArg Outcome.next (modelLearned_at (s := { s with out := [] }) hsince hnot ht))
  obtain ⟨hhold, hframe⟩ := learned_frame y
  exact ⟨_, hrow, stands_raise_self 4 15 _ (by decide), hhold, hframe⟩

/-- Settles O19, event by event: the step that each makes, its causes, and what stays. -/
theorem loopsLockAndLearn : Obligations.LoopsLockAndLearn := by
  unfold Obligations.LoopsLockAndLearn
  refine ⟨?lock, ?dummy, ?estimate, ?learned, ?grown⟩
  case lock =>
    intro d t0 s r hrun hr hsince hdummy hd hst
    exact dpllLock_row hrun hr hsince hdummy hd hst rfl
  case dummy =>
    intro s hrun hd
    exact (next_whileRunning hrun (dpllLock 0)).trans (congrArg Outcome.next (if_pos (hd : isDummy { s with out := [] } = true)))
  case estimate =>
    intro d t0 o s r hrun hr hstart hsel ht len y
    have hro : dpllOf { s with out := [] } d = r := nth_of_get hr
    have hy : y.dplls[d]? = some r := by rw [moveTo_dplls]; exact hr
    have htaken : (estimateTaken d (t0 + len) y).dplls = s.dplls.set d { r with
        estStart := some (t0 + len), points := [], lastEst := (slopeOf r.points).or r.lastEst } := by
      rw [estimateTaken_dplls _ hy, moveTo_dplls]
    have hrow := next_whileRunning hrun (freqStepEstimate d)
    refine ⟨fun hmiss => ?_, fun e p he hp hdet hge => ?_⟩
    · have hq := freqStepEstimate_single (s := { s with out := [] }) hro hstart hsel ht rfl hmiss
      refine ⟨_, hrow.trans (congrArg Outcome.next hq), (settleBound_dplls _).trans htaken, ?_⟩
      have hframe := settleBound_frame (estimateTaken d (t0 + len) y)
      rw [settleBound_hold, settleBound_bound, settleBound_dplls]
      exact hframe
    · have hq := freqStepEstimate_step (s := { s with out := [] }) hro hstart hsel ht rfl he hp hdet hge
      obtain ⟨hdplls, hstepped, hoff, hstep, hdist⟩ := stepFound_facts d (e - p).natAbs len (estimateTaken d (t0 + len) y)
      refine ⟨_, hrow.trans (congrArg Outcome.next hq), stands_settleBound hstep, ?_, fun _ => ⟨?_, stands_settleBound hdist⟩, ?_⟩
      · rw [settleBound_dplls]
        refine (hdplls.trans htaken).trans ?_
        rw [he, Option.some_or]
      · rw [settleBound_hold]
        exact hstepped
      · exact (plain_of_offLoops (s := y) ((offLoops_settleBound _).trans hoff)).trans rfl
  case learned =>
    intro s t0 hrun hsince hnot
    have hhours : s.work.hold.learnHours * 3600 * secPs = s.work.hold.learnHours * 3600000000000000 := Nat.mul_assoc _ _ _
    exact modelLearned_row hrun hsince hnot (congrArg (fun n => t0 + (n - s.hold.learnedPs)) hhours)
  case grown =>
    intro t s hrun x
    have hchange : exec (.classChange t) s = .next (settleBound x) := congrArg Outcome.next (if_pos hrun)
    have halert : exec (.boundAlert t) s = .next (settleBound x) := congrArg Outcome.next (whileRunning_true (running_begin hrun) settleBound)
    exact ⟨_, hchange, halert, settleBound_hold x, stands_classChange, stands_boundAlert, by
      rw [settleBound_hold, settleBound_bound]; exact settleBound_frame x⟩

end Sys2Proof.Machine
end
section
/-! PROOFS. Steering of the atomic oscillator (R125 to R127, R129, R144). -/
namespace Sys2Proof.Machine
open Sys2Proof Host

/-! ### STEER_PERIOD -/

theorem clampI_range {lo hi : Int} (h : lo ≤ hi) (v : Int) : lo ≤ clampI lo hi v ∧ clampI lo hi v ≤ hi := by
  unfold clampI
  split <;> [skip; split] <;> omega

/-- The correction is held to STEER_MAX (R126). -/
theorem steerValue_range (s : State) : -(s.work.hold.steerMax : Int) ≤ steerValue s ∧ steerValue s ≤ s.work.hold.steerMax :=
  clampI_range (by omega) _

/-- A steering command is sent at a period's end in this state (R126, R129). -/
abbrev steers (s : State) : Prop :=
  s.work.hold.steerMode = 1 ∧ (tdpll s).state = .locked ∧ s.hold.learned = true ∧ (!isDummy s) = true ∧ steerValue s ≠ 0 ∧
    s.hold.steerSending.isNone = true

/-- The state with a steering command on its way: the step it stands for, and the setting that it makes (R125, R126). -/
def steerCommanded (s : State) : State :=
  let c := s.work.hold
  let v := steerValue s
  emit (.serial "OSC_CTL_TX" (c.pref ++ signedDecimal (if c.relative then v else s.hold.steerSetting + v) ++ c.suffix))
    { s with hold := { s.hold with
      steerSending := some (roundDivI (v * (2 ^ 64 : Nat)) (10 ^ c.steerExp)), steerSetting := s.hold.steerSetting + v } }

/-- The state with the end of the next period set. -/
def periodSet (n : Nat) (y : State) : State := { y with hold := { y.hold with steerAt := some n } }

/-- The next period starts at the end of each; a command is sent where the oscillator is steered. -/
theorem steerPeriod_at {s y : State} {d n : Nat} (h : s.hold.steerAt = some d) (hy : moveTo d s = y)
    (hn : d + y.work.hold.steerPeriod * 3600 * secPs = n) :
    steerPeriod s = if steers (periodSet n y) then steerCommanded (periodSet n y) else periodSet n y := by
  subst hy
  subst hn
  simp only [steerPeriod, h]
  rfl

section
variable {s y : State} (hwork : y.work = s.work) (hhold : y.hold = s.hold)
include hwork hhold

theorem steers_iff (hdplls : y.dplls = s.dplls) (hpair : y.pair = s.pair) (n : Nat) :
    steers (periodSet n y) ↔ s.work.hold.steerMode = 1 ∧ (tdpll s).state = .locked ∧ s.hold.learned = true ∧ isDummy s = false ∧
      steerValue y ≠ 0 ∧ s.hold.steerSending = none := by
  have hdummy : isDummy (periodSet n y) = isDummy s := by
    show (y.work.pair.mode == 1 && !y.pair.enable) = _
    rw [hwork, hpair]
    rfl
  have hloop : tdpll (periodSet n y) = tdpll s := congrArg (nth · 0) hdplls
  unfold steers
  rw [hdummy, hloop, Bool.not_eq_true', Option.isNone_iff_eq_none]
  show y.work.hold.steerMode = 1 ∧ _ ∧ y.hold.learned = true ∧ _ ∧ steerValue y ≠ 0 ∧ y.hold.steerSending = none ↔ _
  rw [hwork, hhold]

/-- The command that is sent: the value in decimal between the configured bytes before and after it (R125). -/
theorem steerCommanded_eq (hout : y.out = []) (n : Nat) : ∃ step, steerCommanded (periodSet n y) = { y with
    hold := { y.hold with steerAt := some n, steerSending := some step, steerSetting := s.hold.steerSetting + steerValue y }
    out := [.serial "OSC_CTL_TX" (s.work.hold.pref ++ signedDecimal (if s.work.hold.relative then steerValue y else s.hold.steerSetting + steerValue y) ++
      s.work.hold.suffix)] } := by
  refine ⟨roundDivI (steerValue y * (2 ^ 64 : Nat)) (10 ^ y.work.hold.steerExp), ?_⟩
  rw [← hwork, ← hhold, steerCommanded, emit, show (periodSet n y).out = [] from hout]
  rfl

end

/-! ### STEER_SENT, STEER_ACK and STEER_NOACK -/

/-- The uncertainty that STEER_TOL gives a step covers its share of the step (R126). -/
theorem steerTolUnc_covers (s : State) (step : Int) : step.natAbs * s.work.hold.steerTol ≤ 256 * steerTolUnc s step := by
  unfold steerTolUnc ceilDiv
  omega

theorem meldSteer_at {s : State} {k : Nat} {m : MeldMember} (step : Int) (unc : Nat) (hk : meldSlotOf s.work s.work.hold.holdClock = some k)
    (hm : s.meld.slots[k]? = some m) : meldSteer step unc s =
      { s with meld := { s.meld with slots := s.meld.slots.set k { m with steer := m.steer + step, steerUnc := m.steerUnc + unc } } } := by
  simp only [meldSteer, hk, Option.getD_some, upd_of_get hm]

theorem meldSteer_only (step : Int) (unc : Nat) (s : State) : ∃ m, meldSteer step unc s = { s with meld := m } := ⟨_, rfl⟩

/-- The cut of a running update notes a step apart and leaves the members as they are. -/
theorem cutSteer_only (step : Int) (unc : Nat) (s : State) : ∃ c, cutSteer step unc s = { s with meld := { s.meld with steerCut := c } } := by
  unfold cutSteer
  split <;> exact ⟨_, rfl⟩

/-- The holdover part once the last stop bit of a steering command is sent (R126). -/
def commandSent (step : Int) (h : HoldRun) : HoldRun :=
  { h with steerSending := none, steerStep := step, steerCount := (h.steerCount + 1) % 2 ^ 32 }

/-- The state once a steering command is sent: counted, its step kept. -/
def steerCounted (step : Int) (x : State) : State := bump (64 * 4 + 33) { x with hold := commandSent step x.hold }

theorem plain_steerCounted (step : Int) (x : State) (m : MeldRun) :
    plain { steerCounted step x with meld := m } = plain { x with hold := commandSent step x.hold, meld := m } := rfl

/-- With ACK_REQUIRED the ACK is waited for, and without it the Meld takes the step at once (R126). -/
theorem steerSent_at {t : Nat} {s x : State} {step : Int} (hx : begin_ t s = x) (h : x.hold.steerSending = some step) :
    let z := steerCounted step x
    steerSent t s = if x.work.hold.ackRequired then { z with hold := { z.hold with steerAckBy := some (x.now + secPs) } }
      else cutSteer step (steerTolUnc z step) (meldSteer step (steerTolUnc z step) z) := by
  simp only [steerSent, hx, h]
  rfl

/-- An ACK in time with the right bytes ends the wait, and any other leaves it (R127). -/
theorem steerAck_at {t d : Nat} {b : Bytes} {s x : State} (hx : begin_ t s = x) (h : x.hold.steerAckBy = some d) (hd : x.now ≤ d) :
    steerAck t b s = if b = x.work.hold.ack then
      meldSteer x.hold.steerStep (steerTolUnc x x.hold.steerStep) { x with hold := { x.hold with steerAckBy := none } } else x := by
  simp only [steerAck, hx, h, hd, true_and]

/-- The holdover part where no ACK has come: the loss counted, the oscillator faulty (R127). -/
def ackMissed (h : HoldRun) : HoldRun :=
  { h with steerAckBy := none, steerNoack := (h.steerNoack + 1) % 2 ^ 32, oscFault := true }

/-- The state after no ACK has come: the Meld's uncertainty grows by the step, and learning restarts (R127, R144). -/
def ackLost (y : State) : State :=
  raise 4 14 (bump (64 * 4 + 34) (restartLearning (meldSteer 0 y.hold.steerStep.natAbs { y with hold := ackMissed y.hold })))

theorem steerNoack_at {s y : State} {d : Nat} (h : s.hold.steerAckBy = some d) (hy : moveTo d s = y) : steerNoack s = ackLost y := by
  simp only [steerNoack, h, hy]
  rfl

/-- A step that the Meld takes beside a running update changes the Meld alone, and there the one member and the cut. -/
theorem meldTakes_facts {z : State} {k : Nat} {m : MeldMember} (step : Int) (unc : Nat) (hk : meldSlotOf z.work z.work.hold.holdClock = some k)
    (hm : z.meld.slots[k]? = some m) :
    let t' := cutSteer step unc (meldSteer step unc z)
    plain t' = plain { z with meld := t'.meld } ∧
      t'.meld.slots = z.meld.slots.set k { m with steer := m.steer + step, steerUnc := m.steerUnc + unc } := by
  obtain ⟨c, hc⟩ := cutSteer_only step unc (meldSteer step unc z)
  intro t'
  rw [show t' = _ from hc, meldSteer_at step unc hk hm]
  exact ⟨rfl, rfl⟩

/-- What a steering command sent changes, by the time `a` at which its ACK would be late. -/
theorem steerSent_row {t k a : Nat} {s x : State} {step : Int} {m : MeldMember} (hrun : running s = true) (hx : begin_ t s = x)
    (hsend : x.hold.steerSending = some step) (hk : meldSlotOf x.work x.work.hold.holdClock = some k) (hm : x.meld.slots[k]? = some m)
    (ha : x.now + secPs = a) :
    (x.work.hold.ackRequired = true → ∃ t', exec (.steerSent t) s = .next t' ∧
      plain t' = plain { x with hold := { commandSent step x.hold with steerAckBy := some a } }) ∧
    (x.work.hold.ackRequired = false → ∃ t' u, exec (.steerSent t) s = .next t' ∧
      plain t' = plain { x with hold := commandSent step x.hold, meld := t'.meld } ∧
      t'.meld.slots = x.meld.slots.set k { m with steer := m.steer + step, steerUnc := m.steerUnc + u } ∧
      step.natAbs * x.work.hold.steerTol ≤ 256 * u) := by
  have hrow : exec (.steerSent t) s = .next (steerSent t s) := congrArg Outcome.next (if_pos hrun)
  have hat := steerSent_at hx hsend
  subst ha
  refine ⟨fun hack => ?_, fun hack => ?_⟩
  · exact ⟨_, hrow.trans (congrArg Outcome.next (hat.trans (if_pos hack))), rfl⟩
  · have hnot : ¬ x.work.hold.ackRequired = true := Bool.eq_false_iff.mp hack
    obtain ⟨hframe, hslots⟩ := meldTakes_facts (z := steerCounted step x) step (steerTolUnc (steerCounted step x) step) hk hm
    exact ⟨_, _, hrow.trans (congrArg Outcome.next (hat.trans (if_neg hnot))), hframe.trans (plain_steerCounted _ _ _), hslots,
      steerTolUnc_covers (steerCounted step x) step⟩

theorem ackLost_facts (y : State) :
    causeStands 4 14 (ackLost y) ∧ (ackLost y).hold.steerAckBy = none ∧ (ackLost y).hold.steerNoack = (y.hold.steerNoack + 1) % 2 ^ 32 ∧
    (ackLost y).hold.oscFault = true ∧ (ackLost y).hold.learned = false ∧ (ackLost y).hold.learnedPs = 0 ∧
    plain (ackLost y) = plain { y with hold := (ackLost y).hold, meld := (ackLost y).meld } := by
  refine ⟨stands_raise_self 4 14 _ (by decide), ?_⟩
  obtain ⟨m, hm⟩ := meldSteer_only 0 y.hold.steerStep.natAbs { y with hold := ackMissed y.hold }
  rw [ackLost, hm, plain_raise, raise_hold, raise_meld, plain_bump]
  exact ⟨rfl, rfl, rfl, rfl, rfl, rfl⟩

/-- Settles O21, event by event: the command that a period sends, and what the Meld takes of it. -/
theorem oscillatorIsSteered : Obligations.OscillatorIsSteered := by
  unfold Obligations.OscillatorIsSteered
  refine ⟨?period, ?sent, ?ack, ?noack⟩
  case period =>
    intro s d hrun hat y c next v
    have hwork : y.work = s.work := moveTo_work d _
    have hhold : y.hold = s.hold := moveTo_hold d _
    have hperiod : d + y.work.hold.steerPeriod * 3600 * secPs = d + c.steerPeriod * 3600000000000000 := by
      rw [hwork]
      exact congrArg (d + ·) (Nat.mul_assoc _ _ _)
    have hrow := (next_whileRunning hrun steerPeriod).trans (congrArg Outcome.next (steerPeriod_at (s := { s with out := [] }) hat rfl hperiod))
    have hsteers := steers_iff hwork hhold (moveTo_dplls d _) (moveTo_pair d _) (d + c.steerPeriod * 3600000000000000)
    have hmax : y.work.hold.steerMax = c.steerMax := congrArg (·.hold.steerMax) hwork
    refine ⟨hmax ▸ steerValue_range y, fun hm hl hlearned hd hv hidle => ?_, fun h => ?_⟩
    · obtain ⟨step, hsent⟩ := steerCommanded_eq hwork hhold (moveTo_out d _) (d + c.steerPeriod * 3600000000000000)
      rw [if_pos (hsteers.mpr ⟨hm, hl, hlearned, hd, hv, hidle⟩), hsent] at hrow
      exact ⟨step, hrow⟩
    · have hnot : ¬ steers (periodSet (d + c.steerPeriod * 3600000000000000) y) := by
        rw [hsteers]
        rintro ⟨hm, hl, hlearned, hd, hv, hidle⟩
        rcases h with h | h | h | h | h | h
        exacts [h hm, h hl, Bool.false_ne_true (h.symm.trans hlearned), Bool.false_ne_true (hd.symm.trans h), hv h, h hidle]
      rw [if_neg hnot] at hrow
      exact hrow
  case sent =>
    intro t s step k m hrun x hsend hk hm h
    exact steerSent_row hrun rfl hsend hk hm rfl
  case ack =>
    intro t d b s k m hrun x hwait hd hk hm
    have hrow : exec (.steerAck t b) s = .next (steerAck t b s) := congrArg Outcome.next (if_pos hrun)
    have hat := steerAck_at (b := b) (show begin_ t s = x from rfl) hwait hd
    refine ⟨fun hb => ?_, fun hb => ?_⟩
    · have htaken := meldSteer_at (s := { x with hold := { x.hold with steerAckBy := none } }) x.hold.steerStep
        (steerTolUnc x x.hold.steerStep) hk hm
      exact ⟨_, hrow.trans (congrArg Outcome.next ((hat.trans (if_pos hb)).trans htaken))⟩
    · exact hrow.trans (congrArg Outcome.next (hat.trans (if_neg hb)))
  case noack =>
    intro s d hrun hwait y
    have hhold : y.hold = s.hold := moveTo_hold d _
    have hrow : exec .steerNoack s = .next (ackLost y) :=
      (next_whileRunning hrun steerNoack).trans (congrArg Outcome.next (steerNoack_at (s := { s with out := [] }) hwait rfl))
    obtain ⟨hstands, hack, hcount, hrest⟩ := ackLost_facts y
    exact ⟨_, hrow, hstands, hack, hhold ▸ hcount, hrest⟩

end Sys2Proof.Machine
end
section
/-! PROOFS. What an evaluation of the selectors leaves alone (R88, R105, R119, R128, R148). -/
namespace Sys2Proof.Machine
open Sys2Proof Host

/-! ### The block without the choice -/

/-- The block without its bookkeeping and without what a new choice may change: the time part, the references, the selectors, the DPLLs,
the holdover part, the bound, the hand, and what an origin freezes of the Meld. -/
def offChoice (s : State) : State :=
  plain { s with
    time := {}, refs := [], sels := [], dplls := [], hold := {}, bound := {}, hand := {}
    meld := { s.meld with frozen := [], frozenCov := [], frozenPs := 0, frozenUsable := [], reinitHold := false } }

theorem offChoice_of_plain {s t : State} (h : plain t = plain s) : offChoice t = offChoice s :=
  congrArg (fun x : State => { x with
    time := {}, refs := [], sels := [], dplls := [], hold := {}, bound := {}, hand := {}
    meld := { x.meld with frozen := [], frozenCov := [], frozenPs := 0, frozenUsable := [], reinitHold := false } }) h
/-- A state put together from `s` and other values of the parts that a choice may change. (Here and below `Eq.trans rfl rfl` keeps `simp`
from using the equation by unfolding alone, which would leave a long comparison of states to the kernel.) -/
theorem offChoice_parts (s : State) (time) (refs) (sels) (dplls) (hold) (bound) (hand) : offChoice { s with
    time := time, refs := refs, sels := sels, dplls := dplls, hold := hold, bound := bound, hand := hand } = offChoice s := Eq.trans rfl rfl
theorem offChoice_members (s : State) : (offChoice s).meld.slots = s.meld.slots := rfl
theorem offChoice_ite {c : Prop} [Decidable c] (a b : State) : offChoice (if c then a else b) = if c then offChoice a else offChoice b :=
  apply_ite offChoice c a b
theorem offChoice_foldl {α : Type} (f : State → α → State) (hf : ∀ s a, offChoice (f s a) = offChoice s) (l : List α) (s : State) :
    offChoice (l.foldl f s) = offChoice s := by
  induction l generalizing s with
  | nil => rfl
  | cons a l ih => exact (ih _).trans (hf s a)

theorem offChoice_raise (c b : Nat) (s : State) : offChoice (raise c b s) = offChoice s := offChoice_of_plain (plain_raise c b s)
theorem offChoice_raiseIdx (c b i : Nat) (s : State) : offChoice (raiseIdx c b i s) = offChoice s := offChoice_of_plain (plain_raiseIdx c b i s)
theorem offChoice_occur (c : Nat) (d : Int) (s : State) : offChoice (occur c d s) = offChoice s := offChoice_of_plain (plain_occur c d s)
theorem offChoice_forward (x : LockInput) (s : State) : offChoice (forward x s) = offChoice s := offChoice_of_plain (plain_forward x s)
theorem offChoice_updRef (o : Nat) (f : RefRun → RefRun) (s : State) : offChoice (updRef o f s) = offChoice s := Eq.trans rfl rfl
theorem offChoice_updDpll (d : Nat) (f : DpllRun → DpllRun) (s : State) : offChoice (updDpll d f s) = offChoice s := Eq.trans rfl rfl

/-! ### The counter and the loops -/

theorem offChoice_settleBound (s : State) : offChoice (settleBound s) = offChoice s := (offChoice_of_plain (settleBound_frame s)).trans rfl
theorem offChoice_setRate (d : Nat) (r : Int) (s : State) : offChoice (setRate d r s) = offChoice s :=
  (offChoice_of_plain (setRate_frame d r s)).trans rfl
theorem offChoice_disturb (a f : Nat) (s : State) : offChoice (disturb a f s) = offChoice s := by
  simp only [disturb, offChoice_raise, offChoice_ite, offChoice_parts, ite_self]
theorem offChoice_closeHand (s : State) : offChoice (closeHand s) = offChoice s := by
  simp only [closeHand, offChoice_raise, offChoice_ite, offChoice_parts, ite_self]
theorem offChoice_afterStep (c : Counter) (s : State) : offChoice (afterStep c s) = offChoice s := by
  unfold afterStep
  rw [offChoice_raise]
  split
  · rw [offChoice_closeHand]; rfl
  · rfl
theorem offChoice_stepCounter (j : Int) (s : State) : offChoice (stepCounter j s) = offChoice s := by
  simp only [stepCounter, offChoice_occur, offChoice_afterStep, offChoice_parts]
theorem offChoice_loadCounter (ts : Nat) (s : State) : offChoice (loadCounter ts s) = offChoice s := by
  simp only [loadCounter, offChoice_raise, offChoice_occur, offChoice_afterStep, offChoice_ite, offChoice_parts, ite_self]
theorem offChoice_cancelPending (s : State) : offChoice (cancelPending s) = offChoice s := by
  unfold cancelPending
  split
  · rfl
  · rw [offChoice_raise]; rfl
theorem offChoice_dropSlew (s : State) : offChoice (dropSlew s) = offChoice s := Eq.trans rfl rfl
theorem offChoice_runSlew (w : SlewOwner) (r : Int) (l : Nat) (s : State) : offChoice (runSlew w r l s) = offChoice s := Eq.trans rfl rfl
theorem offChoice_enterTracking (d : Nat) (st : DpllState) (s : State) : offChoice (enterTracking d st s) = offChoice s := Eq.trans rfl rfl
theorem offChoice_startTrackBound (o : Nat) (s : State) : offChoice (startTrackBound o s) = offChoice s := Eq.trans rfl rfl
theorem offChoice_fEnter (d : Nat) (s : State) : offChoice (fEnter d s) = offChoice s := Eq.trans rfl rfl
theorem offChoice_setOrigin (b : Option Nat) (s : State) : offChoice (setOrigin b s) = offChoice s := Eq.trans rfl rfl
theorem offChoice_pauseLearning (s : State) : offChoice (pauseLearning s) = offChoice s := by
  obtain ⟨n, l, h⟩ := pauseLearning_only s
  rw [h]; rfl
theorem offChoice_dpllSwitch (d : Nat) (h : HeldTerms) (s : State) : offChoice (dpllSwitch d h s) = offChoice s := by
  simp only [dpllSwitch, offChoice_updDpll, offChoice_ite, offChoice_parts, ite_self]
theorem offChoice_dpllNone (d : Nat) (b : Option Nat) (s : State) : offChoice (dpllNone d b s) = offChoice s := by
  simp only [dpllNone, offChoice_raise, offChoice_setOrigin, offChoice_pauseLearning, offChoice_dropSlew, offChoice_updDpll,
    offChoice_setRate, offChoice_ite, offChoice_parts, ite_self]
theorem offChoice_tEnterBy (o : Nat) (unb step : Bool) (s : State) : offChoice (tEnterBy o unb step s) = offChoice s := by
  simp only [tEnterBy, offChoice_raise, offChoice_disturb, offChoice_startTrackBound, offChoice_enterTracking, offChoice_runSlew,
    offChoice_stepCounter, offChoice_loadCounter, offChoice_dropSlew, offChoice_cancelPending, offChoice_ite, offChoice_parts, ite_self]
theorem offChoice_tTake (o : Nat) (s : State) : offChoice (tTake o s) = offChoice s := by
  unfold tTake
  split
  · rfl
  · split <;> simp only [tEnter, tAccept, offChoice_tEnterBy, offChoice_ite, offChoice_parts, ite_self]

/-! ### The selectors -/

theorem offChoice_judge (o : Nat) (j : Int) (u : Nat) (s : State) : offChoice (judge o j u s) = offChoice s := by
  simp only [judge, withdrawFinding, startWtr, makeFinding, refEvent, offChoice_raise, offChoice_raiseIdx, offChoice_updDpll,
    offChoice_updRef, offChoice_ite, offChoice_parts, ite_self]
theorem offChoice_switchTo (d : Nat) (k : Option Nat) (s : State) : offChoice (switchTo d k s) = offChoice s := by
  unfold switchTo
  dsimp only
  split <;> simp only [offChoice_dpllNone, offChoice_dpllSwitch, offChoice_tTake, offChoice_fEnter, offChoice_raise, offChoice_forward,
    offChoice_ite, offChoice_parts, ite_self]
theorem offChoice_dummySel (d : Nat) (s : State) : offChoice (dummySel d s) = offChoice s := by
  unfold dummySel
  generalize (if following s.pair.sync then some partnerOrd else none) = o
  dsimp only
  split
  · rfl
  · cases o <;> simp only [offChoice_dpllNone, offChoice_dpllSwitch, offChoice_ite, offChoice_parts, ite_self]
theorem offChoice_evalSel (fuel d : Nat) (s : State) : offChoice (evalSel fuel d s) = offChoice s := by
  induction fuel generalizing d s with
  | zero => rfl
  | succ fuel ih =>
    unfold evalSel
    dsimp only
    split
    · exact offChoice_dummySel d s
    · split
      · rfl
      · split <;> simp only [ih, offChoice_switchTo, offChoice_judge, offChoice_ite, ite_self]
theorem offChoice_evalAll (s : State) : offChoice (evalAll s) = offChoice s := by
  rw [evalAll, offChoice_settleBound, cleanSplits, offChoice_parts]
  exact offChoice_foldl _ (fun x d => offChoice_evalSel 40 d x) _ s

/-- An evaluation of every selector leaves the members of the Meld as they are. -/
theorem evalAll_members (s : State) : (evalAll s).meld.slots = s.meld.slots := by
  rw [← offChoice_members, offChoice_evalAll, offChoice_members]

end Sys2Proof.Machine
end
section
/-! PROOFS. An outlier that clears while another check of its source fails (R143, R147). -/
namespace Sys2Proof.Machine
open Sys2Proof Host

/-- Refutes O23: OUTLIER_CLEAR_EXPIRY passes the MELD_OUTLIER check of the source, and where another hard check of it still fails, the
member is marked for re-initialisation (R143). The statement keeps that mark as it was. Source 0 is in slot 1 and named, with a
residual small since 0, its MELD_OUTLIER and SOURCE_HEALTH checks fail, and its member has no mark. -/
theorem not_meldRuns : ¬ Obligations.MeldRuns := by
  unfold Obligations.MeldRuns
  rintro ⟨-, -, hClear, -⟩
  let m : MeldMember := { outlier := true, outlierSmall := some 0 }
  let s : State := {
    boot := { inReset := false, stage := 9, cmdReady := true }, root := { locked := true }
    refs := { state := .failed, cause := setBit (setBit 0 cOutlier) cHealth } :: List.replicate 97 {}
    work := { meld := { enable := true }, meldSlots := {} :: { sourceId := 0x100 } :: List.replicate 6 {} }
    meld := { slots := {} :: m :: List.replicate 6 {} } }
  obtain ⟨z, hx, -, hMeld, -⟩ := hClear 1 0 0 s m rfl rfl rfl rfl (by decide +kernel)
  have hMarked : (nth (whileRunning (outlierClear 1) { s with out := [] }).meld.slots 1).stale = true := by decide +kernel
  have hUnmarked : (nth z.meld.slots 1).stale = false := by
    rw [hMeld, moveTo_meld]
    rfl
  have hSlots : (whileRunning (outlierClear 1) { s with out := [] }).meld.slots = z.meld.slots := by
    rw [Outcome.next.inj hx, evalAll_members]
  rw [hSlots, hUnmarked] at hMarked
  cases hMarked

end Sys2Proof.Machine
end
section
/-! PROOFS. SYS_RESET_BLOCK and BLOCK_RESET_DONE (R574). -/
namespace Sys2Proof.Machine
open Sys2Proof Host

/-! ### What dropping a port's frames leaves of the ports -/

/-- The states of the ports (R253). -/
def portStates (s : State) : List PortState := s.ports.map PortRun.state

theorem portState_of {s t : State} (h : portStates t = portStates s) (p : Nat) : (portOf t p).state = (portOf s p).state :=
  nth_of_map PortRun.state h p
theorem portStates_of_plain {s t : State} (h : plain t = plain s) : portStates t = portStates s :=
  congrArg (List.map PortRun.state) (ports_of_plain h)
theorem portStates_counted {s t : State} (h : counted s t) : portStates t = portStates s := by
  have hBare : t.ports.map bare = s.ports.map bare := congrArg (fun w => w.2.2.2.2.2.1) h.2
  have hState := congrArg (List.map PortRun.state) hBare
  rw [List.map_map, List.map_map] at hState
  exact hState
theorem portStates_updPort (p : Nat) {f : PortRun → PortRun} (hf : ∀ r, (f r).state = r.state) (s : State) :
    portStates (updPort p f s) = portStates s := map_upd_same PortRun.state hf s.ports p
theorem portState_updPort {p : Nat} {s : State} (f : PortRun → PortRun) (h : p < s.ports.length) :
    (portOf (updPort p f s) p).state = (f (portOf s p)).state := congrArg (·.state) (nth_upd_self f h)

theorem plain_tsqWrite (p r first : Nat) (late dropped : Bool) (stamp : Nat) (s : State) :
    plain (tsqWrite p r first late dropped stamp s) = plain s := by
  unfold tsqWrite
  dsimp only
  split
  · rfl
  · split
    · rw [plain_raise, plain_bump, plain_base (base_updRing _ _ _)]
    · rw [plain_base (base_ringEvent _ _), plain_base (base_updRing _ _ _), plain_emit]
/-- What the host is told of a frame is bookkeeping of its ring alone (R507). -/
theorem plain_hostDone (p r first last : Nat) (report late : Bool) (outcome stamp : Nat) (s : State) :
    plain (hostDone p r first last report late outcome stamp s) = plain s := by
  have hTsq : plain (if report then tsqWrite p r first late (decide (outcome ≥ 2)) stamp s else s) = plain s := by
    rw [plain_ite, plain_tsqWrite, ite_self]
  unfold hostDone
  revert hTsq
  generalize (if report then tsqWrite p r first late (decide (outcome ≥ 2)) stamp s else s) = x
  intro hTsq
  dsimp only
  have hLate : ∀ f : Ring → Ring, plain (if outcome = 2 then updRing r f x else x) = plain s := fun f => by
    rw [plain_ite, plain_base (base_updRing _ _ _), ite_self, hTsq]
  rw [plain_ite, plain_base (base_ringEvent _ _), plain_base (base_updRing _ _ _), plain_emit, hLate, ite_self]
theorem portStates_linkDrop (p : Nat) (s : State) (f : TxFrame) : portStates (linkDrop p s f) = portStates s := by
  have hFreed : counted s (releaseFrame f (portCount p 6 s)) := counted_releaseFrame f (counted_portCount p 6 (counted_refl s))
  unfold linkDrop
  dsimp only
  split
  · exact portStates_counted (counted_receiptGone _ (counted_suitCount _ 13 hFreed))
  · exact portStates_counted (counted_suitCount _ 13 hFreed)
  · exact (portStates_of_plain (plain_hostDone _ _ _ _ _ _ _ _ _)).trans (portStates_counted hFreed)
  · exact portStates_counted hFreed
theorem portStates_linkDrops (p : Nat) (l : List TxFrame) (s : State) : portStates (l.foldl (linkDrop p) s) = portStates s := by
  induction l generalizing s with
  | nil => rfl
  | cons f l ih => exact (ih _).trans (portStates_linkDrop p s f)
theorem portStates_dropQueued (p : Nat) (s : State) : portStates (dropQueued p s) = portStates s := by
  rw [dropQueued, portStates_updPort, portStates_linkDrops]
  exact fun _ => rfl
theorem portStates_portEvent (p ev : Nat) (s : State) : portStates (portEvent p ev s) = portStates s := by
  rw [portEvent, portStates_of_plain (plain_raiseIdx 8 _ p _), portStates_updPort]
  exact fun _ => rfl

/-- A port that leaves its state is in the state that it goes to (R253). -/
theorem portState_leaveTo {p : Nat} {s : State} (st : PortState) (h : p < s.ports.length) : (portOf (leaveTo p st s) p).state = st := by
  have hSet := portState_updPort (fun r => { r with state := st }) h
  unfold leaveTo
  dsimp only
  split
  · exact (portState_of ((portStates_portEvent p 1 _).trans (portStates_dropQueued p _)) p).trans hSet
  · exact hSet
theorem portState_toCalibrating {p : Nat} {s : State} (h : p < s.ports.length) : (portOf (toCalibrating p s) p).state = .calibrating := by
  have hStates : portStates (toCalibrating p s) = portStates (leaveTo p .calibrating s) := by
    rw [toCalibrating, portStates_updPort, portStates_dropQueued]
    exact fun _ => rfl
  rw [portState_of hStates, portState_leaveTo _ h]

/-! ### What the reset of each block does -/

/-- The lane is in the state that it goes to (R396). -/
theorem laneState_laneTo {n : Nat} {s : State} (st : PortState) (h : n < s.pair.lanes.length) : (laneOf (laneTo n st s) n).state = st := by
  have hPair : (laneTo n st s).pair.lanes = upd s.pair.lanes n (fun l => { l with state := st, got := if st == .up then l.got else none }) := by
    unfold laneTo
    dsimp only
    split
    · rw [raise_pair]
      rfl
    · rfl
  rw [laneOf, hPair, nth_upd_self _ h]

theorem groups_resetReceivers (l : List Nat) (s : State) : (l.foldl (fun s p => resetReceiver p s) s).aud.groups = s.aud.groups := by
  induction l generalizing s with
  | nil => rfl
  | cons p l ih => exact (ih _).trans rfl

theorem resetBlock_baseband (i : Nat) (s : State) : (resetBlock 1 i s).gnss.nav = [] ∧
    (resetBlock 1 i s).gnss.change = (if s.gnss.change = some .stop then some .stop else some .restart) := ⟨rfl, rfl⟩
theorem resetBlock_tdc (i : Nat) (s : State) : (resetBlock 2 i s).tdc.calibrating = true := rfl
theorem resetBlock_port {i : Nat} {s : State} (h : i < s.ports.length) : (portOf (resetBlock 3 i s) i).state = .calibrating := by
  have hTo : resetBlock 3 i s = if (portOf s i).state == .calibrating then s else toCalibrating i s := rfl
  rw [hTo]
  split
  · rename_i hcal
    exact beq_iff_eq.mp hcal
  · exact portState_toCalibrating h
/-- A group that is reset stops at a boundary to come (R574). -/
theorem resetBlock_group {i : Nat} {s : State} (h : i < s.aud.groups.length) : (audGroup (resetBlock 4 i s) i).stop = some (firstStop s i).toNat := by
  have hGroup : audGroup (updGroup i (fun x => { x with stop := some (firstStop s i).toNat }) s) i =
      { audGroup s i with stop := some (firstStop s i).toNat } := nth_upd_self _ h
  have hGroups : (resetBlock 4 i s).aud.groups = (updGroup i (fun x => { x with stop := some (firstStop s i).toNat }) s).aud.groups :=
    groups_resetReceivers _ _
  rw [audGroup, hGroups]
  exact congrArg GroupRun.stop hGroup
theorem resetBlock_lane {i : Nat} {s : State} (hOn : laneOn s.work.pair i = true) (h : i < s.pair.lanes.length) :
    (laneOf (resetBlock 5 i s) i).state = .calibrating := by
  have hTo : resetBlock 5 i s = laneTo i .calibrating s := if_pos hOn
  rw [hTo, laneState_laneTo _ h]

theorem banks_laneTo (n : Nat) (st : PortState) (s : State) : banks (laneTo n st s) = banks s := by
  simp only [laneTo, updLane, banks_ite, banks_raise, banks_updPair, ite_self]
/-- The reset of a block leaves the register banks of the host interfaces alone. -/
theorem banks_resetBlock (b i : Nat) (s : State) : banks (resetBlock b i s) = banks s := by
  unfold resetBlock
  split
  · rfl
  · rw [banks_mk, banks_eta]
    refine banks_foldl _ (fun x c => ?_) _ s
    rw [banks_updChan, banks_disarmChan]
  · rw [banks_ite, banks_toCalibrating, ite_self]
  · exact banks_foldl _ (fun x p => banks_resetReceiver p x) _ _
  · rw [banks_ite, banks_laneTo, ite_self]

/-! ### The command and its end -/

theorem hSysResetBlock_starts {q : Req} {s : State}
    (hf : fits q 4 [inF 0 1 1 5, inF 1 1 0 (blockIndexMax (fld q.params 0 1)), rsvF 2 2])
    (hr : blockRefused (fld q.params 0 1) (fld q.params 1 1) s = false) :
    hSysResetBlock q s = .later (addWait { key := .blockReset (fld q.params 0 1) (fld q.params 1 1), opcode := 0x0102, req := q }
      (resetBlock (fld q.params 0 1) (fld q.params 1 1) s)) := (checked_of hf).trans (refuseIf_not hr)
theorem hSysResetBlock_refused {q : Req} {s : State}
    (hf : fits q 4 [inF 0 1 1 5, inF 1 1 0 (blockIndexMax (fld q.params 0 1)), rsvF 2 2])
    (hr : blockRefused (fld q.params 0 1) (fld q.params 1 1) s = true) : hSysResetBlock q s = .refuse stBadState 0 :=
  (checked_of hf).trans (if_pos hr)

theorem waitsFor_addWait (w : Wait) (s : State) : waitsFor w.key (addWait w s) = true := by
  simp only [waitsFor, addWait, List.any_append, List.any_cons, beq_self_eq_true, Bool.true_or, Bool.or_true]

theorem portOf_addWait (w : Wait) (s : State) (p : Nat) : portOf (addWait w s) p = portOf s p := rfl
theorem audGroup_addWait (w : Wait) (s : State) (g : Nat) : audGroup (addWait w s) g = audGroup s g := rfl
theorem laneOf_addWait (w : Wait) (s : State) (n : Nat) : laneOf (addWait w s) n = laneOf s n := rfl

/-- A reply, written to its ring or not, changes result slots, rings, causes, counters and outputs only. -/
theorem base_replyWith {q : Req} (m : Bool) (op st d : Nat) (data : Bytes) (s : State) (h : isMirrored q = false) :
    base (replyWith m op q st d data s) = base s := by
  have hSame : base (replyWith m op q st d data s) = base (reply op q st d data s) := by
    unfold reply replyWith
    dsimp only
    split
    · rw [base_ite, base_ite, base_replyRingWrite, ite_self, ite_self]
    all_goals rfl
  exact hSame.trans (base_reply op q st d data s h)

/-- A block whose reset has completed answers the packet that waits, and raises BLOCK_RESET_DONE (R574). -/
theorem blockResetDone_at {b i : Nat} {x : State} {w : Wait} (hrun : running x = true)
    (hw : x.host.waits.find? (fun w => w.key == .blockReset b i) = some w) (hs : blockSettled b i x = true) :
    blockResetDone b i x = raise 1 5 (replyWith w.muted w.opcode w.req stDone 0 [] { x with host := { x.host with waits := x.host.waits.erase w } }) := by
  have hKey : (w.key == .blockReset b i) = true := List.find?_some (p := fun v : Wait => v.key == .blockReset b i) hw
  have hWaits : waitsFor (.blockReset b i) x = true := List.any_eq_true.mpr ⟨w, List.mem_of_find?_eq_some hw, hKey⟩
  rw [blockResetDone, hrun, hWaits, hs, finishWait, hw]
  rfl

/-- Settles O6: what the reset does is said block by block above, and the answer at its end is a reply. -/
theorem blocksAreReset : Obligations.BlocksAreReset := by
  unfold Obligations.BlocksAreReset
  refine ⟨?start, ?finish⟩
  case start =>
    intro q s hs b i x hf
    refine ⟨fun hr => ?_, fun hr => ?_⟩
    · exact congrArg Outcome.next (runCmd_refused hs (hSysResetBlock_refused hf hr))
    · have hbanks := banks_resetBlock b i x
      have hrow := runCmd_later hs (hSysResetBlock_starts hf hr) (congrArg Prod.fst hbanks) (congrArg Prod.snd hbanks)
      refine ⟨_, congrArg Outcome.next hrow, ?kept, waitsFor_addWait _ _, ?baseband, ?tdc, ?port, ?group, ?lane⟩
      case kept => exact (kept_addWait _ _).trans (kept_resetBlock b i x)
      case baseband =>
        intro hb
        rw [show fld q.params 0 1 = 1 from hb]
        exact (resetBlock_baseband i x).symm
      case tdc =>
        intro hb
        rw [show fld q.params 0 1 = 2 from hb]
        exact resetBlock_tdc i x
      case port =>
        intro hb hi
        rw [portOf_addWait, show fld q.params 0 1 = 3 from hb]
        exact resetBlock_port hi
      case group =>
        intro hb hi
        rw [audGroup_addWait, show fld q.params 0 1 = 4 from hb, resetBlock_group hi]
        exact Option.some_ne_none _
      case lane =>
        intro hb hi hOn
        rw [laneOf_addWait, show fld q.params 0 1 = 5 from hb]
        exact resetBlock_lane hOn hi
  case finish =>
    intro t b i s w x hrun hw hq hs
    have hrow := blockResetDone_at hrun hw hs
    have hPlain : plain (blockResetDone b i x) = plain { x with host := { x.host with waits := x.host.waits.erase w } } := by
      rw [hrow, plain_raise, plain_base (base_replyWith _ _ _ _ _ _ hq)]
    have hWaits : (blockResetDone b i x).host.waits = x.host.waits.erase w := congrArg (fun y : State => y.host.waits) hPlain
    refine ⟨_, rfl, ?_, hWaits, ?_⟩
    · exact hrow ▸ stands_raise_self 1 5 _ (by decide)
    · exact hWaits ▸ hPlain

end Sys2Proof.Machine
end
section
/-! PROOFS. A new choice of the selectors keeps the outputs of the step and the causes that stand (R88, R105, R119, R148). -/
namespace Sys2Proof.Machine
open Sys2Proof Host

/-! ### Steps of the counter -/

theorem follows_disturb (amount freq : Nat) {r s : State} (h : follows r s) : follows r (disturb amount freq s) :=
  follows_raise 5 6 (follows_ite (follows_same h rfl rfl) (follows_same h rfl rfl))
theorem follows_closeHand {r s : State} (h : follows r s) : follows r (closeHand s) := by
  have hRefused : follows r (if s.svc.refusalHand = some s.hand.number then raise 9 0 s else s) := follows_ite (follows_raise 9 0 h) h
  exact follows_same hRefused rfl rfl
theorem follows_afterStep (before : Counter) {r s : State} (h : follows r s) : follows r (afterStep before s) := by
  unfold afterStep
  dsimp only
  exact follows_raise 4 1 (follows_ite (follows_closeHand (follows_same h rfl rfl)) (follows_same h rfl rfl))
theorem follows_stepCounter (off : Int) {r s : State} (h : follows r s) : follows r (stepCounter off s) :=
  follows_occur _ _ (follows_afterStep _ (follows_same h rfl rfl))
theorem follows_loadCounter (ts : Nat) {r s : State} (h : follows r s) : follows r (loadCounter ts s) := by
  have hLoaded := follows_occur 0x2B 1 (follows_afterStep s.time.counter (s := { s with
    time := { s.time with counter := counterOf (ts * 2 ^ 32), valid := true } }) (follows_same h rfl rfl))
  exact follows_ite hLoaded (follows_raise 4 0 hLoaded)
theorem follows_cancelPending {r s : State} (h : follows r s) : follows r (cancelPending s) := by
  unfold cancelPending
  split
  · exact h
  · exact follows_raise 4 2 (follows_same h rfl rfl)

/-! ### Entry to tracking -/

theorem follows_startTrackBound (o : Nat) {r s : State} (h : follows r s) : follows r (startTrackBound o s) := follows_same h rfl rfl
theorem follows_enterTracking (d : Nat) (st : DpllState) {r s : State} (h : follows r s) : follows r (enterTracking d st s) :=
  follows_same h rfl rfl
theorem follows_runSlew (w : SlewOwner) (v : Int) (l : Nat) {r s : State} (h : follows r s) : follows r (runSlew w v l s) :=
  follows_same h rfl rfl
theorem follows_fEnter (d : Nat) {r s : State} (h : follows r s) : follows r (fEnter d s) := follows_same h rfl rfl
theorem follows_tEnterBy (o : Nat) (unb step : Bool) {r s : State} (h : follows r s) : follows r (tEnterBy o unb step s) := by
  have hFree : follows r (dropSlew (cancelPending s)) := follows_same (follows_cancelPending h) rfl rfl
  unfold tEnterBy
  dsimp only
  refine follows_ite h (follows_ite ?unbounded (follows_ite ?step ?slew))
  case unbounded =>
    refine follows_raise 5 6 (follows_same (follows_startTrackBound o (follows_enterTracking 0 .acquiring (follows_ite ?_ ?_))) rfl rfl)
    · exact follows_stepCounter _ (follows_same hFree rfl rfl)
    · exact follows_loadCounter _ (follows_same hFree rfl rfl)
  case step =>
    exact follows_disturb _ _ (follows_startTrackBound o (follows_enterTracking 0 .acquiring (follows_stepCounter _ (follows_same hFree rfl rfl))))
  case slew =>
    exact follows_raise 4 8 (follows_startTrackBound o (follows_enterTracking 0 .returning (follows_runSlew _ _ _ (follows_same hFree rfl rfl))))
theorem follows_tTake (o : Nat) {r s : State} (h : follows r s) : follows r (tTake o s) := by
  unfold tTake
  refine follows_ite h ?_
  split
  · exact follows_ite (follows_tEnterBy _ _ _ h) (follows_tEnterBy _ _ _ h)
  · exact follows_tEnterBy _ _ _ h

/-! ### The selectors -/

theorem follows_refEvent (o ev : Nat) (cause : Option Nat) {r s : State} (h : follows r s) : follows r (refEvent o ev cause s) := by
  cases cause with
  | none => exact follows_same h rfl rfl
  | some b => exact follows_raiseIdx 3 b o (follows_same h rfl rfl)
theorem follows_makeFinding (o : Nat) (j : Int) (u : Nat) {r s : State} (h : follows r s) : follows r (makeFinding o j u s) := by
  have hFound := follows_refEvent o 4 (some 2) (s := updRef o (fun r => { r with
    state := .suspect, timer := none, finding := some (if atomicAgree s then .jump else .jumpAlert), findingPs := s.now }) s)
    (follows_same h rfl rfl)
  exact follows_ite (follows_raise 4 9 (follows_same hFound rfl rfl)) (follows_raise 4 10 (follows_same hFound rfl rfl))
theorem follows_judge (o : Nat) (j : Int) (u : Nat) {r s : State} (h : follows r s) : follows r (judge o j u s) := by
  unfold judge
  dsimp only
  refine follows_ite h (follows_ite (follows_ite ?_ h) (follows_ite (follows_makeFinding o j u h) h))
  exact follows_same h rfl rfl
theorem follows_switchTo (d : Nat) (k : Option Nat) {r s : State} (h : follows r s) : follows r (switchTo d k s) := by
  have hTerms : follows r (if d = 0 then { s with hold := { s.hold with accepted := none } } else s) :=
    follows_ite (follows_same h rfl rfl) h
  unfold switchTo
  dsimp only
  split
  · exact follows_dpllNone d _ (follows_raise 3 _ (follows_forward _ (follows_same hTerms rfl rfl)))
  · refine follows_ite (follows_dpllSwitch d _ ?_) (follows_ite (follows_tTake _ ?_) (follows_fEnter d ?_))
    all_goals exact follows_raise 3 _ (follows_forward _ (follows_same hTerms rfl rfl))
theorem follows_evalSel (fuel d : Nat) {r s : State} (h : follows r s) : follows r (evalSel fuel d s) := by
  induction fuel generalizing d s with
  | zero => exact h
  | succ fuel ih =>
    unfold evalSel
    dsimp only
    refine follows_ite (follows_dummySel d h) (follows_ite h ?_)
    split
    · exact follows_ite (follows_ite (ih 0 (follows_judge _ _ _ h)) (follows_switchTo 0 _ (follows_judge _ _ _ h))) (follows_switchTo 0 _ h)
    · exact follows_switchTo _ _ h
theorem follows_cleanSplits {r s : State} (h : follows r s) : follows r (cleanSplits s) := follows_same h rfl rfl
/-- An evaluation of every selector keeps the outputs of the step and the causes that stand, whatever the chip's role. -/
theorem follows_newChoice {r s : State} (h : follows r s) : follows r (evalAll s) := by
  have hSels : follows r ((List.range 4).foldl (fun s d => evalSel 40 d s) s) :=
    follows_foldl _ (fun x d => follows_evalSel 40 d (follows_refl x)) _ h
  exact follows_settleBound (follows_cleanSplits hSels)
theorem offChoice_gnss (s : State) : (offChoice s).gnss = s.gnss := rfl
theorem gnss_evalAll (s : State) : (evalAll s).gnss = s.gnss := by
  rw [← offChoice_gnss, offChoice_evalAll, offChoice_gnss]

/-! ### A source that has no samples -/

theorem follows_causeTaken (o cause : Nat) {r s : State} (h : follows r s) : follows r (causeTaken o cause s) := by
  have hHeld : follows r (holdClockFails o (updRef o (fun r => { r with cause := cause }) s)) :=
    follows_ite (follows_same h rfl rfl) (follows_same h rfl rfl)
  have hNew : follows r (if newlyFails (refOf s o).cause cause then holdClockFails o (updRef o (fun r => { r with cause := cause }) s)
      else updRef o (fun r => { r with cause := cause }) s) := follows_ite hHeld (follows_same h rfl rfl)
  unfold causeTaken staleMember
  split
  · exact follows_same hNew rfl rfl
  · exact hNew
theorem gnss_causeTaken (o cause : Nat) (s : State) : (causeTaken o cause s).gnss = s.gnss := by
  have hHeld : (holdClockFails o (updRef o (fun r => { r with cause := cause }) s)).gnss = s.gnss := by
    unfold holdClockFails
    split <;> rfl
  have hNew : (if newlyFails (refOf s o).cause cause then holdClockFails o (updRef o (fun r => { r with cause := cause }) s)
      else updRef o (fun r => { r with cause := cause }) s).gnss = s.gnss := by
    split
    · exact hHeld
    · rfl
  unfold causeTaken staleMember
  split <;> exact hNew

/-- What a change of one source's failures comes to: the failures are taken, and the source's own record and its event follow. -/
theorem applyCause_cases (o cause : Nat) (s : State) : ∃ f, applyCause o cause s = causeTaken o cause s ∨
    applyCause o cause s = updRef o f (causeTaken o cause s) ∨
    applyCause o cause s = refEvent o 1 (some 0) (updRef o f (causeTaken o cause s)) := by
  unfold applyCause startWtr
  dsimp only
  rw [← causeTaken.eq_def]
  cases (refOf s o).state <;> dsimp only
  case disabled => exact ⟨id, .inl rfl⟩
  case qualified =>
    split
    · exact ⟨id, .inl rfl⟩
    · exact ⟨_, .inr (.inr rfl)⟩
  case failed =>
    split
    · exact ⟨id, .inl rfl⟩
    · split <;> exact ⟨_, .inr (.inl rfl)⟩
  case qualifying | wtr =>
    split
    · exact ⟨id, .inl rfl⟩
    · exact ⟨_, .inr (.inl rfl)⟩
  case suspect =>
    split
    · exact ⟨_, .inr (.inl rfl)⟩
    · exact ⟨id, .inl rfl⟩
theorem follows_applyCause (o cause : Nat) {r s : State} (h : follows r s) : follows r (applyCause o cause s) := by
  have hTaken := follows_causeTaken o cause h
  obtain ⟨f, e | e | e⟩ := applyCause_cases o cause s
  · exact e ▸ hTaken
  · exact e ▸ follows_same hTaken rfl rfl
  · exact e ▸ follows_refEvent o 1 (some 0) (follows_same hTaken rfl rfl)
theorem gnss_applyCause (o cause : Nat) (s : State) : (applyCause o cause s).gnss = s.gnss := by
  obtain ⟨f, e | e | e⟩ := applyCause_cases o cause s
  · rw [e, gnss_causeTaken]
  · rw [e, updRef_gnss, gnss_causeTaken]
  · rw [e, refEvent, gnss_of_plain (plain_raiseIdx 3 0 o _), updRef_gnss, updRef_gnss, gnss_causeTaken]
theorem follows_sourceSilent (o : Nat) {r s : State} (h : follows r s) : follows r (sourceSilent o s) :=
  follows_ite h (follows_applyCause o _ h)
theorem gnss_sourceSilent (o : Nat) (s : State) : (sourceSilent o s).gnss = s.gnss := by
  unfold sourceSilent
  split
  · rfl
  · exact gnss_applyCause o _ s

end Sys2Proof.Machine
end
section
/-! PROOFS. A survey command whose POS_UNC has no meaning (R190). -/
namespace Sys2Proof.Machine
open Sys2Proof Host

/-- What a finished command leaves of the baseband is what its effect left: the reply does not touch it. -/
theorem gnss_of_done {op : Nat} {q : Req} {data : Bytes} {e t : State} (hq : isMirrored q = false) (h : .next t = done op q data e) :
    t.gnss = e.gnss := by
  rw [Outcome.next.inj h]
  exact gnss_of_plain (plain_base (base_reply op q stDone 0 data e hq))

/-- Refutes O24: POS_UNC of GNSS_SURVEY has a meaning with MODE FIXED only (R190), so a command with MODE SURVEY leaves 0 in its place,
where the statement keeps the field of the packet. The command sets SURVEY with limits of 1 min and 1 mm, and 5 in POS_UNC. -/
theorem not_basebandCommands : ¬ Obligations.BasebandCommands := by
  unfold Obligations.BasebandCommands
  rintro ⟨-, -, hSurvey, -⟩
  let s : State := { boot := { inReset := false, stage := 9, cmdReady := true }, root := { locked := true } }
  let q : Req := {
    time := 0, src := .pcieReg, tag := 0, length := 10, flags := 0, reserved := 0
    params := leBytes 4 0 ++ leBytes 2 1 ++ leBytes 2 1 ++ leBytes 4 1 ++ leBytes 4 5 ++ zeros 24 }
  have hx := hSurvey q s (by decide +kernel) (by decide +kernel)
  have hGnss := gnss_of_done (q := q) (t := runCmd 0x0603 hGnssSurvey q s) (by decide) hx
  have hDropped : (runCmd 0x0603 hGnssSurvey q s).gnss.survey.map (·.posUnc) = some 0 := by decide +kernel
  have hField : fld q.params 12 4 = 5 := by decide +kernel
  rw [hGnss] at hDropped
  have hKept : fld q.params 12 4 = 0 := Option.some.inj hDropped
  exact absurd (hField.symm.trans hKept) (by decide)

end Sys2Proof.Machine
end
section
/-! PROOFS. What the baseband does of itself (R171 to R187). -/
namespace Sys2Proof.Machine
open Sys2Proof Host

/-! ### Lists with keys -/

theorem getKey_putKey_self {β : Type} (k : Nat) (v : β) (l : List (Nat × β)) : getKey k (putKey k v l) = some v := by
  induction l with
  | nil => exact if_pos rfl
  | cons a l ih =>
    unfold putKey
    split
    · exact if_pos rfl
    · split
      · exact if_pos rfl
      · rename_i hne
        exact (if_neg hne).trans ih

/-! ### Epochs and faults without a fix -/

/-- A row that begins at an instant and runs only while the chip runs. -/
theorem next_begin {t : Nat} {s : State} (h : running s = true) (f : State → State) :
    (.next (whileRunning f (begin_ t s)) : Outcome State Fault Refusal) = .next (f (begin_ t s)) :=
  congrArg Outcome.next (whileRunning_true (running_begin h) f)

theorem gnss_gnssUnhealthy (s : State) : (gnssUnhealthy s).gnss = s.gnss := by
  rw [gnssUnhealthy, gnss_evalAll, gnss_sourceSilent, updRef_gnss]
theorem follows_gnssUnhealthy {r s : State} (h : follows r s) : follows r (gnssUnhealthy s) :=
  follows_newChoice (follows_sourceSilent gnssOrd (follows_same h rfl rfl))
/-- An epoch without a timing fix leaves the rest of the baseband (R180). -/
theorem gnss_noFix (s : State) : (noFix s).gnss = { s.gnss with timingFix := false, hadFix := false, used := 0 } := by
  have hLost : (if s.gnss.hadFix then raise 6 3 (bump (64 * 6 + 33) s) else bump (64 * 6 + 33) s).gnss = s.gnss := by
    split
    · exact raise_gnss 6 3 _
    · rfl
  exact (gnss_gnssUnhealthy _).trans (congrArg (fun g : GnssRun => { g with timingFix := false, hadFix := false, used := 0 }) hLost)

/-- The baseband after the fault of its sample clock: out of OFF it has dropped its channels and acquires anew (R171, R179). -/
def clockLost (g : GnssRun) : GnssRun :=
  if g.state = .off then { g with clkFault := true, timingFix := false }
  else { g with clkFault := true, timingFix := false, state := .acquire, channels := [], reacquire := [], due := none }

theorem clockLost_facts (g : GnssRun) : (clockLost g).clkFault = true ∧ (clockLost g).timingFix = false ∧
    (clockLost g).clkOffset = g.clkOffset ∧ (clockLost g).block = g.block ∧
    (g.state ≠ .off → (clockLost g).state = .acquire ∧ (clockLost g).channels = [] ∧ (clockLost g).due = none) := by
  unfold clockLost
  split
  · rename_i hoff
    exact ⟨rfl, rfl, rfl, rfl, fun h => absurd hoff h⟩
  · exact ⟨rfl, rfl, rfl, rfl, fun _ => ⟨rfl, rfl, rfl⟩⟩

/-- A fault of the sample clock that does not stand yet is raised (R171). -/
theorem clkFault_raised {s : State} (h : s.gnss.clkFault = false) :
    (clkFault s).gnss = clockLost s.gnss ∧ causeStands 6 6 (clkFault s) := by
  have hRaised : causeStands 6 6 (updGnss (fun g => { g with clkFault := true, timingFix := false }) (raise 6 6 s)) :=
    stands_host rfl (stands_raise_self 6 6 s (by decide))
  unfold clkFault clockLost
  dsimp only
  rw [h, if_neg Bool.false_ne_true]
  simp only [updGnss_gnss, raise_gnss, beq_iff_eq]
  split
  · refine ⟨?_, (follows_gnssUnhealthy (follows_refl _)).2 6 6 hRaised⟩
    rw [gnss_gnssUnhealthy, updGnss_gnss, raise_gnss]
  · refine ⟨?_, (follows_gnssUnhealthy (follows_same (follows_refl _) rfl rfl)).2 6 6 hRaised⟩
    rw [gnss_gnssUnhealthy, dropChannels, updGnss_gnss, updGnss_gnss, updGnss_gnss, raise_gnss]

/-! ### A measurement epoch that finds the position given (R179) -/

theorem takeChange_none {s : State} (h : s.gnss.change = none) : takeChange s = s := by
  unfold takeChange
  rw [h]
theorem applySurvey_none {s : State} (h : s.gnss.survey = none) : applySurvey s = s := by
  unfold applySurvey
  rw [h]
theorem applyAids_nil {s : State} (h : s.gnss.aids = []) : applyAids s = updGnss (fun g => { g with aids := [] }) s := by
  unfold applyAids
  rw [h]
  rfl

/-- With no change of state, no survey command and no aid waiting, an epoch opens at its instant alone (R182). -/
theorem openEpoch_idle {s : State} (hc : s.gnss.change = none) (hs : s.gnss.survey = none) (ha : s.gnss.aids = []) :
    let y := moveToCounter (epochTarget s) s
    openEpoch s = { y with gnss := { s.gnss with aids := [], lastEpoch := curTs y } } := by
  intro y
  have hy : y.gnss = s.gnss := moveTo_gnss _ s
  have hOpen : openEpoch s = { y with gnss := { y.gnss with aids := [], lastEpoch := curTs y } } := by
    have hTaken : applySurvey (takeChange y) = y := by
      rw [takeChange_none (by rw [hy]; exact hc), applySurvey_none (by rw [hy]; exact hs)]
    rw [openEpoch, hTaken, applyAids_nil (by rw [hy]; exact ha)]
    rfl
  rw [hOpen, hy]

/-- Whether an ephemeris is stale depends on the time and the settings (R176). -/
theorem ephStale_same {s t : State} (ht : t.time = s.time) (hw : t.work = s.work) (w : Bytes) : ephStale t w = ephStale s w := by
  have hSec : gpsSec t = gpsSec s := congrArg (fun v : TimePart => v.counter.sec - 315964819) ht
  have hWeek : ∀ n, resolveWeek t n = resolveWeek s n := fun n => by rw [resolveWeek, resolveWeek, gpsWeek, gpsWeek, hSec, ht, hw]
  have hDistance : ∀ n toe, toeDistance t n toe = toeDistance s n toe := fun n toe => by
    unfold toeDistance
    rw [hSec]
  rw [ephStale, ephStale, hWeek, hDistance, ht]
/-- Whether a satellite can be used depends on the time, the settings, the words stored and the PRNs tracked (R178). -/
theorem satUsable_same {s t : State} (ht : t.time = s.time) (hw : t.work = s.work) (hn : t.gnss.nav = s.gnss.nav)
    (hp : t.gnss.channels.map (·.prn) = s.gnss.channels.map (·.prn)) (m : SatMeas) : satUsable t m = satUsable s m := by
  have hTracked : ∀ l : List GnssChan, (l.any fun c => c.prn == m.prn) = (l.map (·.prn)).any (· == m.prn) := fun l => by
    rw [List.any_map]
    rfl
  unfold satUsable
  dsimp only
  rw [hTracked, hTracked, hp, hw, hn]
  simp only [ephStale_same ht hw]

theorem prns_takeMeas (meas : List SatMeas) (s : State) : (takeMeas meas s).gnss.channels.map (·.prn) = s.gnss.channels.map (·.prn) := by
  have hOne : ∀ c, (measChan s meas c).prn = c.prn := fun c => by
    unfold measChan
    split <;> rfl
  rw [takeMeas, updGnss_gnss, List.map_map]
  exact List.map_congr_left fun c _ => hOne c

/-- The state at the first usable satellite with the position given: the position is held, and FIRST_FIX is raised (R179). -/
def firstFixed (s : State) : State := raise 6 1 (holdGiven (updGnss (fun g => { g with firstFix := true }) (noFix s)))

theorem firstFixed_gnss (s : State) : (firstFixed s).gnss = { s.gnss with
    timingFix := false, hadFix := false, used := 0, firstFix := true, state := .hold, heldPos := s.gnss.setting.pos
    heldUnc := s.gnss.setting.posUnc } := by
  rw [firstFixed, raise_gnss, holdGiven, updGnss_gnss, updGnss_gnss, gnss_noFix]
theorem solveEpoch_given {u : List SatMeas} {s : State} (fix : Option SatFix) (hst : s.gnss.state = .acquire)
    (hf : s.gnss.setting.fixed = true) (hu : u ≠ []) : (solveEpoch u fix s).2 = firstFixed s := by
  have hFixed : (noFix s).gnss.setting.fixed = true := by rw [gnss_noFix]; exact hf
  have hSome : ¬ u.isEmpty = true := fun h => hu (List.isEmpty_iff.mp h)
  unfold solveEpoch
  rw [hst]
  dsimp only
  rw [if_pos hFixed, if_neg hSome]
  rfl
theorem surveyEpoch_hold {s : State} (pos : Option Position) (h : s.gnss.state = .hold) : surveyEpoch pos s = s := by
  unfold surveyEpoch
  dsimp only
  rw [h]
  rfl

/-- An epoch of ACQUIRE with the position given and a usable satellite (R179). -/
theorem gnssEpoch_given {meas : List SatMeas} {s : State} (fix : Option SatFix) (hrun : running s = true) (hst : s.gnss.state = .acquire)
    (hk : s.gnss.clkFault = false) (hs : s.gnss.survey = none) (hc : s.gnss.change = none) (hf : s.gnss.setting.fixed = true)
    (ha : s.gnss.aids = []) (hu : ∃ m, m ∈ meas ∧ satUsable (moveToCounter (epochTarget s) s) m = true) :
    ∃ x, gnssEpoch meas fix s = firstFixed x ∧ x.gnss.setting = s.gnss.setting := by
  have hOpen := openEpoch_idle hc hs ha
  have hOpenGnss : (openEpoch s).gnss = { s.gnss with aids := [], lastEpoch := curTs (moveToCounter (epochTarget s) s) } := by rw [hOpen]
  have hUsable : meas.filter (satUsable (takeMeas meas (openEpoch s))) ≠ [] := by
    obtain ⟨m, hm, hsat⟩ := hu
    refine List.ne_nil_of_mem (List.mem_filter.mpr ⟨hm, ?_⟩)
    rw [← hsat, hOpen]
    refine satUsable_same ?_ ?_ ?_ ?_ m
    · rfl
    · rfl
    · exact (congrArg GnssRun.nav (moveTo_gnss _ s)).symm
    · exact (prns_takeMeas meas _).trans (congrArg (fun g => g.channels.map (·.prn)) (moveTo_gnss _ s)).symm
  have hRuns : ¬ ((s.gnss.state == .off && s.gnss.change.isNone) || !running s) = true := by
    rw [hst, hrun]
    exact Bool.false_ne_true
  have hAcquire : (takeMeas meas (openEpoch s)).gnss.state = .acquire := by rw [takeMeas, updGnss_gnss, hOpenGnss]; exact hst
  have hSetting : (takeMeas meas (openEpoch s)).gnss.setting = s.gnss.setting := by rw [takeMeas, updGnss_gnss, hOpenGnss]
  have hSolved := solveEpoch_given fix hAcquire (hSetting ▸ hf) hUsable
  refine ⟨takeMeas meas (openEpoch s), ?_, hSetting⟩
  have hOn : ¬ ((openEpoch s).gnss.state == .off) = true := by
    rw [hOpenGnss, hst]
    decide
  have hGood : ¬ (openEpoch s).gnss.clkFault = true := by
    rw [hOpenGnss]
    exact ne_true_of_eq_false hk
  unfold gnssEpoch
  dsimp only
  rw [if_neg hRuns, if_neg hOn, if_neg hGood, hSolved, surveyEpoch_hold _ (by rw [firstFixed_gnss])]

/-! ### Samples, and the sample clock -/

/-- The sample that an epoch's solution makes, when it is delivered at an instant (R182). -/
def dueSample (d : GnssDue) (per now : Nat) : Sample :=
  { stamp := d.stamp, offset := d.offset, unc := d.unc, period := per, perNum := per, perDen := 1, ep := some d.epoch, lag := now - d.ps }

/-- A solved sample is delivered; the leap news follow where the T-DPLL follows the GNSS source (R182, R185). -/
theorem gnssSample_due {t : Nat} {s y : State} {d : GnssDue} (hd : s.gnss.due = some d) (hy : moveTo t s = y) :
    let z := deliver gnssOrd (dueSample d (secPs / solPerSec y.work.gnss) y.now) false { y with
      refs := upd y.refs gnssOrd (fun r => { r with healthOk := true, misses := 0 }), gnss := { y.gnss with due := none } }
    gnssSample t s = if tSelected z == some gnssOrd && (refOf z gnssOrd).state == .qualified then takeLeapNews (gnssLeapNews z) z else z := by
  unfold gnssSample
  rw [hd]
  dsimp only
  rw [hy]
  rfl

theorem clockFit_none {t : Nat} {l : List GnssBits} {s x : State} (hx : begin_ t s = x) (h : (takeBlock l x).2 = none) :
    clockFit t l s = { x with gnss := { x.gnss with block := (takeBlock l x).1 } } := by
  unfold clockFit
  dsimp only
  rw [hx, h]
  rfl
theorem clockFit_some {t : Nat} {l : List GnssBits} {s x : State} {off : Int} (hx : begin_ t s = x) (h : (takeBlock l x).2 = some off) :
    clockFit t l s = checkClock off { x with gnss := { x.gnss with block := (takeBlock l x).1 } } := by
  unfold clockFit
  dsimp only
  rw [hx, h]
  rfl

/-! ### Acquisition and tracking -/

/-- Without a position to aid it, the search for a PRN covers 8,151 Hz on each side of IF_FREQ (R174). -/
theorem inSearch_unaided {s : State} {prn : Nat} {at_ : Int × Int} (hp : s.gnss.posAid = none) (hst : s.gnss.state ≠ .hold)
    (hat : (at_.1 - s.work.gnss.ifFreq).natAbs ≤ 8151) : inSearch s prn at_ = true := by
  have hPos : posAiding s = none := by
    rw [posAiding, if_neg (by simpa using hst), hp]
    rfl
  have hSearch : searchFor s prn = some { centre := s.work.gnss.ifFreq, span := 8151, code := none } := by
    unfold searchFor
    rw [hPos]
    cases timeAiding s <;> rfl
  rw [inSearch, hSearch]
  simp [hat]
theorem dwell_none (t prn : Nat) (s : State) : dwell t prn none s = begin_ t s := rfl
/-- A free channel is one of the 48, and holds no PRN (R177). -/
theorem freeChannel_facts {l : List GnssChan} {k : Nat} (h : freeChannel l = some k) : k < 48 ∧ ∀ c, c ∈ l → c.channel ≠ k := by
  have hFree := List.find?_some h
  refine ⟨List.mem_range.mp (List.mem_of_find?_eq_some h), fun c hc => ?_⟩
  simpa using List.all_eq_true.mp hFree c hc
theorem canAcquire_of {g : GnssRun} {prn : Nat} (hst : g.state ≠ .off) (hk : g.clkFault = false) (hb : g.gspiBusy = false) (h0 : 0 < prn)
    (h32 : prn ≤ 32) (hnew : ∀ c, c ∈ g.channels → c.prn ≠ prn) : canAcquire g prn = true := by
  have hNone : (g.channels.any fun c => c.prn == prn) = false := by simpa using hnew
  have hNonzero : prn ≠ 0 := Nat.pos_iff_ne_zero.mp h0
  simp [canAcquire, hst, hk, hb, hNonzero, h32, hNone]
theorem dwell_found {t prn k : Nat} {at_ : Int × Int} {s x : State} (hx : begin_ t s = x) (hk : freeChannel x.gnss.channels = some k)
    (hc : canAcquire x.gnss prn = true) (hs : inSearch x prn at_ = true) : dwell t prn (some at_) s = assignChannel prn k x := by
  unfold dwell
  dsimp only
  rw [hx, hk]
  exact if_pos (Bool.and_eq_true_iff.mpr ⟨hc, hs⟩)
theorem lockLost_tracked {t prn : Nat} {s x : State} {c : GnssChan} (hx : begin_ t s = x) (hc : c ∈ x.gnss.channels) (hp : c.prn = prn) :
    lockLost t prn s = { x with gnss := { x.gnss with
      channels := x.gnss.channels.filter (fun c => c.prn != prn), reacquire := x.gnss.reacquire ++ [(prn, x.now + 30000000000000)] } } := by
  have hAny : (x.gnss.channels.any fun c => c.prn == prn) = true := List.any_eq_true.mpr ⟨c, hc, beq_iff_eq.mpr hp⟩
  unfold lockLost
  dsimp only
  rw [hx, if_pos hAny]
  rfl
theorem reacquireTimeout_at {prn : Nat} {s : State} {r : Nat × Nat} (h : s.gnss.reacquire.find? (fun r => r.1 == prn) = some r) :
    reacquireTimeout prn s = updGnss (fun g => { g with reacquire := g.reacquire.filter (fun r => r.1 != prn) }) (moveTo r.2 s) := by
  unfold reacquireTimeout
  rw [h]

/-! ### Navigation words -/

/-- What is stored: the words under their key, and the week that an ephemeris resolves (R176, R184). -/
theorem storeNav_facts (key : Nat) (item : NavItem) (s : State) : getKey key (storeNav key item s).gnss.nav = some item ∧
    storeNav key item s = { s with gnss := { s.gnss with
      nav := (storeNav key item s).gnss.nav, week := (storeNav key item s).gnss.week
      weekFromCounter := (storeNav key item s).gnss.weekFromCounter } } := by
  unfold storeNav
  dsimp only
  split
  · exact ⟨getKey_putKey_self _ _ _, rfl⟩
  · exact ⟨getKey_putKey_self _ _ _, rfl⟩
/-- Words of a kind and a PRN are stored as broadcast, and new ones raise the event of their kind (R176, R185, R187). -/
theorem navNew_cases {t kind prn : Nat} (words : Bytes) {s x : State} (hx : begin_ t s = x) (hst : x.gnss.state ≠ .off)
    (hk : kind = 3 ∨ kind = 4 ∨ kind = 5) :
    let key := 64 * kind + (if kind = 5 then 0 else prn)
    let y := storeNav key { words := words, broadcast := true } x
    let b := if kind = 5 then 7 else 0
    navNew t kind prn words s = raise 6 b y ∨ navNew t kind prn words s = y ∧ getKey key x.gnss.nav ≠ none := by
  intro key y b
  have hOn : ¬ (x.gnss.state == .off) = true := by simpa using hst
  have hRow : navNew t kind prn words s =
      if ((getKey key x.gnss.nav).map fun n => (navData n.words, n.broadcast || kind == 5)) == some (navData words, true) then y
      else raise 6 b y := by
    unfold navNew
    dsimp only
    rw [hx, if_neg hOn]
    rcases hk with rfl | rfl | rfl <;> rfl
  rw [hRow]
  split
  · rename_i hSame
    refine .inr ⟨rfl, fun hNone => ?_⟩
    rw [hNone] at hSame
    cases hSame
  · exact .inl rfl

/-! ### The survey -/

/-- The accumulators after a counter second (R181). -/
def secondCounted (g : GnssRun) : GnssRun :=
  match g.lastPos with
  | none => { g with elapsed := g.elapsed + 1, secondDue := false }
  | some (x, y, z) => { g with
      elapsed := g.elapsed + 1, secondDue := false, accCount := g.accCount + 1
      accSum := (g.accSum.1 + x, g.accSum.2.1 + y, g.accSum.2.2 + z)
      accSquare := g.accSquare + (x * x + y * y + z * z).toNat }

theorem secondCounted_facts (g : GnssRun) : (secondCounted g).elapsed = g.elapsed + 1 ∧ (secondCounted g).secondDue = false ∧
    (g.lastPos = none → (secondCounted g).accCount = g.accCount) ∧ (g.lastPos ≠ none → (secondCounted g).accCount = g.accCount + 1) ∧
    (secondCounted g).state = g.state := by
  unfold secondCounted
  split
  · rename_i h
    exact ⟨rfl, rfl, fun _ => rfl, fun hne => absurd h hne, rfl⟩
  · rename_i h
    exact ⟨rfl, rfl, fun hnone => (Option.some_ne_none _ (h.symm.trans hnone)).elim, fun _ => rfl, rfl⟩

/-- A counter second counts its position, and ends the survey where it is complete: its mean is held, and SURVEY_DONE is raised (R181). -/
theorem surveySecond_cases {s : State} (hst : s.gnss.state = .survey) (hd : s.gnss.secondDue = true) :
    let g := secondCounted s.gnss
    surveySecond s = { s with gnss := g } ∨
    surveySecond s = raise 6 2 { s with gnss := { g with state := .hold, heldPos := surveyMean g, heldUnc := pUnc g } } := by
  intro g
  have hOn : ¬ (s.gnss.state != .survey || !s.gnss.secondDue) = true := by
    rw [hst, hd]
    decide
  have hRow : surveySecond s = if surveyDone g && g.survey.isNone then
      raise 6 2 { s with gnss := { g with state := .hold, heldPos := surveyMean g, heldUnc := pUnc g } } else { s with gnss := g } := by
    rw [surveySecond, if_neg hOn]
    rfl
  rw [hRow]
  split
  · exact .inr rfl
  · exact .inl rfl

/-! ### The rows -/

/-- Settles O25, row by row: each row's equation on its case, and what a source without samples and a new choice of the selectors leave. -/
theorem basebandRuns : Obligations.BasebandRuns := by
  unfold Obligations.BasebandRuns
  refine ⟨?epoch, ?sample, ?noLine, ?line, ?fault, ?unaided, ?found, ?lost, ?timeout, ?words, ?second, ?front⟩
  case epoch =>
    intro meas fix s
    refine ⟨fun hst hc => ?_, fun hrun hst hk hs hc hf ha hu => ?_⟩
    · refine congrArg Outcome.next (if_pos ?_)
      rw [hst, hc]
      rfl
    · obtain ⟨x, hx, hset⟩ := gnssEpoch_given (s := { s with out := [] }) fix hrun hst hk hs hc hf ha hu
      have hGnss := (congrArg State.gnss hx).trans (firstFixed_gnss x)
      refine ⟨_, rfl, by rw [hGnss], ?_, by rw [hGnss], ?_, kept_gnssEpoch meas fix { s with out := [] }⟩
      · rw [hGnss, hset]
      · exact hx ▸ stands_raise_self 6 1 _ (by decide)
  case sample =>
    intro t s d hrun hd y
    have hrow := (next_whileRunning hrun (gnssSample t)).trans
      (congrArg Outcome.next (gnssSample_due (s := { s with out := [] }) (y := y) hd rfl))
    refine ⟨_, dueSample d (secPs / solPerSec y.work.gnss) y.now, _, hrow, ?_, rfl, rfl, rfl, rfl, rfl, rfl, ?_⟩
    · exact (congrArg kept (gnssSample_due (s := { s with out := [] }) (y := y) hd rfl)).symm.trans (kept_gnssSample t _)
    · split
      · exact .inr rfl
      · exact .inl rfl
  case noLine =>
    intro t l s hrun x b h
    exact congrArg Outcome.next ((if_pos hrun).trans (clockFit_none rfl h))
  case line =>
    intro t l off s hrun x b h
    have hrow : exec (.gnssClockFit t l) s = .next (checkClock off { x with gnss := { x.gnss with block := b } }) :=
      congrArg Outcome.next ((if_pos hrun).trans (clockFit_some rfl h))
    refine ⟨fun hIn => ?_, fun hOut hk => ?_⟩
    · exact hrow.trans (congrArg Outcome.next (if_neg (Nat.not_lt.mpr hIn)))
    · obtain ⟨hGnss, hStands⟩ := clkFault_raised (s := { x with gnss := { x.gnss with block := b, clkOffset := off } }) hk
      obtain ⟨hFault, hFix, hOffset, hBlock, -⟩ := clockLost_facts { x.gnss with block := b, clkOffset := off }
      refine ⟨_, hrow.trans (congrArg Outcome.next (if_pos hOut)), ?_, ?_, ?_, ?_, hStands, kept_clkFault _⟩
      · exact hGnss ▸ hFault
      · exact hGnss ▸ hOffset
      · exact hGnss ▸ hBlock
      · exact hGnss ▸ hFix
  case fault =>
    intro t s hrun x hk
    obtain ⟨hGnss, hStands⟩ := clkFault_raised hk
    obtain ⟨hFault, hFix, -, -, hAnew⟩ := clockLost_facts x.gnss
    refine ⟨_, next_begin hrun clkFault, ?_, ?_, hStands, ?_, kept_clkFault x⟩
    · exact hGnss ▸ hFault
    · exact hGnss ▸ hFix
    · exact hGnss ▸ hAnew
  case unaided =>
    intro t prn at_ s hrun hp hst hat
    exact ⟨inSearch_unaided hp hst hat, congrArg Outcome.next ((if_pos hrun).trans (dwell_none t prn s))⟩
  case found =>
    intro t prn k at_ s hrun x hst hk hb h0 h32 hnew hfree hin
    obtain ⟨hlt, hheld⟩ := freeChannel_facts hfree
    have hrow : exec (.acquisitionDwell t prn (some at_)) s = .next (assignChannel prn k x) :=
      congrArg Outcome.next ((if_pos hrun).trans (dwell_found rfl hfree (canAcquire_of hst hk hb h0 h32 hnew) hin))
    exact ⟨_, hrow, hlt, hheld, mem_insertBy _ _ _, length_insertBy _ _ _, rfl⟩
  case lost =>
    intro t prn s c hrun x hc hp
    exact congrArg Outcome.next ((if_pos hrun).trans (lockLost_tracked rfl hc hp))
  case timeout =>
    intro prn s r hrun h y
    exact (next_whileRunning hrun (reacquireTimeout prn)).trans (congrArg Outcome.next (reacquireTimeout_at (s := { s with out := [] }) h))
  case words =>
    intro t kind prn words s hrun x key hst hk
    have hrow : exec (.navNew t kind prn words) s = .next (navNew t kind prn words s) := congrArg Outcome.next (if_pos hrun)
    obtain ⟨hStored, hOnly⟩ := storeNav_facts key { words := words, broadcast := true } x
    refine ⟨_, hrow, ?_⟩
    rcases navNew_cases words (show begin_ t s = x from rfl) hst hk with hRow | ⟨hRow, hKnown⟩
    · rw [hRow]
      refine ⟨by rw [raise_gnss]; exact hStored, fun _ => stands_raise_self 6 _ _ (by split <;> decide), ?_⟩
      rw [plain_raise, raise_gnss]
      exact congrArg plain hOnly
    · rw [hRow]
      exact ⟨hStored, fun hNone => absurd hNone hKnown, congrArg plain hOnly⟩
  case second =>
    intro s hrun hst hd
    obtain ⟨hElapsed, hDue, hUncounted, hCounted, hState⟩ := secondCounted_facts s.gnss
    refine ⟨_, next_whileRunning hrun surveySecond, ?_⟩
    rcases surveySecond_cases (s := { s with out := [] }) hst hd with hRow | hRow
    · rw [hRow]
      exact ⟨hElapsed, hDue, hUncounted, hCounted, .inl (hState.trans hst), rfl⟩
    · rw [hRow, raise_gnss, plain_raise]
      exact ⟨hElapsed, hDue, hUncounted, hCounted, .inr ⟨rfl, stands_raise_self 6 2 _ (by decide), rfl⟩, rfl⟩
  case front =>
    intro t s hrun x
    exact next_begin hrun _

end Sys2Proof.Machine
end
section
/-! PROOFS. The configuration of the outputs and of the serial time of day, and OUT_STATUS (R222, R225, R226). -/
namespace Sys2Proof.Machine
open Sys2Proof Host

/-- A command that only writes the shadow set is done, and its reply holds no data (R496, R522). -/
theorem runCmd_writes {op : Nat} {q : Req} {s : State} {h : Handler} {f : Cfg → Cfg} (hs : startsAt op q s = true)
    (hd : h q (started op q s) = writes f (started op q s)) :
    cmdRow op h q s = done op q [] { started op q s with shadow := f (started op q s).shadow } :=
  runCmd_done hs hd rfl rfl

theorem outStatusReply_length (x : State) (n : Nat) : (outStatusReply x n).length = 48 := by
  simp only [outStatusReply, List.length_append, leBytes_length, leInt_length, tsBytes_length, zeros_length]

/-- The fields of OUT_STATUS without a sign (R225). -/
theorem outStatusReply_fields (x : State) (n : Nat) :
    fld (outStatusReply x n) 0 1 = n % 256 ∧ fld (outStatusReply x n) 1 1 = outStateCode (outOf x n).state ∧
    fld (outStatusReply x n) 3 1 = (outOf x n).cfg.mode % 256 ∧ fld (outStatusReply x n) 4 4 = (outOf x n).periods % 2 ^ 32 := by
  have hCode : outStateCode (outOf x n).state % 256 = outStateCode (outOf x n).state := by cases (outOf x n).state <;> rfl
  simp only [outStatusReply, List.append_assoc, fld_append_right, fld_le_here, leBytes_length, Nat.reduceLeDiff, Nat.reduceSub,
    Nat.reducePow, hCode, and_self]

/-- The flags of OUT_STATUS: shared, placer calibrated, alignment in progress (R225). -/
theorem outStatusReply_flags (x : State) (n : Nat) :
    (fld (outStatusReply x n) 2 1).testBit 1 = (outOf x n).cfg.flags.testBit 0 ∧
    (fld (outStatusReply x n) 2 1).testBit 2 = (outOf x n).placerOk ∧
    (fld (outStatusReply x n) 2 1).testBit 3 = (outOf x n).align.isSome := by
  simp only [outStatusReply, List.append_assoc, fld_append_right, fld_le_here, leBytes_length, Nat.reduceLeDiff, Nat.reduceSub]
  refine ⟨?_, ?_, ?_⟩ <;> rw [testBit_field _ (by decide), testBit_packBits] <;> rfl

/-- OFFSET and LAST_ALIGN_D of OUT_STATUS, where they are in the range of their fields (R225). -/
theorem outStatusReply_offset {x : State} {n : Nat} (h0 : -(2 ^ 63) ≤ (outOf x n).offset) (h1 : (outOf x n).offset < 2 ^ 63) :
    fldI (outStatusReply x n) 8 8 = (outOf x n).offset := by
  rw [fldI]
  simp only [outStatusReply, List.append_assoc, fld_append_right, leBytes_length, Nat.reduceLeDiff, Nat.reduceSub]
  exact fldI_leInt_here _ (by decide) h0 h1
theorem outStatusReply_lastD {x : State} {n : Nat} (h0 : -(2 ^ 63) ≤ (outOf x n).lastD) (h1 : (outOf x n).lastD < 2 ^ 63) :
    fldI (outStatusReply x n) 24 8 = (outOf x n).lastD := by
  rw [fldI]
  simp only [outStatusReply, List.append_assoc, fld_append_right, leBytes_length, leInt_length, Nat.reduceLeDiff, Nat.reduceSub]
  exact fldI_leInt_here _ (by decide) h0 h1

/-- Settles O27, command by command: what each writes of the shadow set, and the fields of the status reply. -/
theorem outputConfigurationAndStatus : Obligations.OutputConfigurationAndStatus := by
  unfold Obligations.OutputConfigurationAndStatus
  refine ⟨?output, ?serial, ?status⟩
  case output =>
    intro q s hs hf
    exact (runCmd_writes (h := hOutConfigure) hs (checked_of hf) :)
  case serial =>
    intro q s hs hf
    exact (runCmd_writes (h := hTodoutConfigure) hs (checked_of hf) :)
  case status =>
    intro q s hs hf x o
    obtain ⟨hNumber, hState, hMode, hPeriods⟩ := outStatusReply_fields x (fld q.params 0 1)
    obtain ⟨hShared, hPlacer, hAlign⟩ := outStatusReply_flags x (fld q.params 0 1)
    exact ⟨outStatusReply x (fld q.params 0 1), runCmd_done_of_banks hs (checked_of hf) rfl, outStatusReply_length _ _, hNumber,
      hState, hShared, hPlacer, hAlign, hMode, hPeriods, outStatusReply_offset, outStatusReply_lastD⟩

end Sys2Proof.Machine
end
section
/-! PROOFS. An IRIG-B mark that one tick of a slew passes by half a second (R46, R209, R214). -/
namespace Sys2Proof.Machine
open Sys2Proof Host

/-- Refutes O28 in its clause on IRIG_FRAME: the statement leaves the rate of a slew open, which commands hold far below the rate of the
counter (R46). A slew of 1 s on one tick carries the counter from 1.5 s to 2.5 s, so the mark
at 2 s is placed half a second before that tick. That is less than half a period after the edge before, and the mark is suppressed (R209),
where the statement counts a period. -/
theorem not_outputsRunAndAreGated : ¬ Obligations.OutputsRunAndAreGated := by
  unfold Obligations.OutputsRunAndAreGated
  rintro ⟨-, -, -, hIrig, -⟩
  let o : OutRun := { state := .running, cfg := { mode := 4 }, prevRise := some 0 }
  let s : State := {
    now := 500000001600, root := { locked := true }, boot := { inReset := false }, outs := List.replicate 16 o
    time := { counter := { sec := 1, ns := 500000000 }, slewing := true, slewRem := unitSec, slewInc := unitSec } }
  have hApart : ∀ p, o.prevRise = some p → p + 500000001600 ≤ s.now ∧ o.fallAt + 1600 ≤ s.now := fun p hp => by
    cases hp
    decide
  obtain ⟨t', o', hx, -, ho', -, hCounted, -⟩ := (hIrig 3 s o (by decide +kernel) rfl (.inl rfl) rfl rfl).1 rfl hApart
  have hSuppressed : (irigFrame 3 { s with out := [] }).outs[3]?.map (·.periods) = some 0 := by decide +kernel
  have hRow : irigFrame 3 { s with out := [] } = t' := Outcome.next.inj hx
  rw [hRow, ho'] at hSuppressed
  have hZero : o'.periods = 0 := Option.some.inj hSuppressed
  exact absurd (hCounted.symm.trans hZero) (by decide)

end Sys2Proof.Machine
end
section
/-! PROOFS. What a reply leaves in the result slots (R498, R499). -/
namespace Sys2Proof.Machine
open Sys2Proof Host

/-! ### Causes, events and rings leave the result slots alone -/

theorem slots_irqEdge (b : Bool) (s : State) : (irqEdge b s).host.slots = s.host.slots := by
  unfold irqEdge msixSend
  repeat' split
  all_goals rfl
theorem slots_eventDue (e : EventDue) (s : State) : (eventDue e s).host.slots = s.host.slots := by
  unfold eventDue
  refine List.foldlRecOn (motive := fun x : State => x.host.slots = s.host.slots) _ _ rfl fun x hx k _ => ?_
  dsimp only
  split <;> exact hx
theorem slots_setCause (c b i : Nat) (s : State) : (setCause c b i s).host.slots = s.host.slots := by
  unfold setCause
  dsimp only
  split
  · rfl
  · rw [slots_irqEdge, slots_eventDue]
    rfl
theorem slots_openOcc (c : Nat) (d : Int) (s : State) : (openOcc c d s).host.slots = s.host.slots := by
  unfold openOcc
  dsimp only
  repeat' split
  all_goals rfl
theorem slots_occur (c : Nat) (d : Int) (s : State) : (occur c d s).host.slots = s.host.slots := by
  have hForward : (if pairCode c then forward (.occurrence c d) s else s).host.slots = s.host.slots := by
    split
    · rw [host_forward]
    · rfl
  unfold occur
  dsimp only
  split
  · rfl
  · rw [← hForward]
    generalize (if pairCode c then forward (.occurrence c d) s else s) = y
    split
    · split
      · exact slots_openOcc _ _ _
      · split
        · rfl
        · exact slots_setCause _ _ _ _
    · split
      · rfl
      · exact slots_openOcc _ _ _
    · split
      · split
        · rfl
        · exact slots_openOcc _ _ _
      · exact slots_openOcc _ _ _
    · exact slots_openOcc _ _ _
theorem slots_raise (c b : Nat) (s : State) : (raise c b s).host.slots = s.host.slots := by
  unfold raise raiseIdx
  dsimp only
  split
  · rw [slots_occur, slots_setCause]
  · exact slots_setCause _ _ _ _
theorem slots_setSecond (k i : Nat) (s : State) : (setSecond k i s).host.slots = s.host.slots := by
  unfold setSecond
  dsimp only
  rw [slots_irqEdge]
  rfl
theorem slots_ringEvent (r : Nat) (s : State) : (ringEvent r s).host.slots = s.host.slots := by
  unfold ringEvent
  generalize secondOf r = p
  obtain ⟨k, i⟩ := p
  dsimp only
  split
  · split <;> rfl
  · split
    · exact slots_setSecond _ _ _
    · split <;> rfl
theorem slots_replyRingWrite (c : Nat) (e : Bytes) (s : State) : (replyRingWrite c e s).host.slots = s.host.slots := by
  unfold replyRingWrite
  dsimp only
  split
  · rw [slots_ringEvent]
    rfl
  · rfl
theorem slots_noteMirror (op : Nat) (q : Req) (st : Nat) (s : State) : (noteMirror op q st s).host.slots = s.host.slots := by
  unfold noteMirror settleMirrors
  refine List.foldlRecOn (motive := fun x : State => x.host.slots = s.host.slots) _ _ rfl fun x hx m _ => ?_
  split
  · exact hx
  · exact (slots_raise 12 11 _).trans hx

/-! ### Replies -/

/-- The result slots after a reply: the command's own holds its result, where it uses one (R498, R499). -/
def repliedSlots (op : Nat) (q : Req) (st d : Nat) (data : Bytes) (l : List Slot) : List Slot :=
  if usesSlot q then upd l (slotOf q) fun _ => slotResult op q st d (data ++ zeros ((4 - data.length % 4) % 4)) else l

theorem slots_replyWith (m : Bool) (op : Nat) (q : Req) (st d : Nat) (data : Bytes) (s : State) :
    (replyWith m op q st d data s).host.slots = repliedSlots op q st d data s.host.slots := by
  have hBusy : (if st = stBusyRetry then bump 34 (bump 33 s) else bump 33 s).host.slots = s.host.slots := by split <;> rfl
  have hSlot : ∀ x : State, (if usesSlot q then updSlot (slotOf q) (fun _ =>
      slotResult op q st d (data ++ zeros ((4 - data.length % 4) % 4))) x else x).host.slots = repliedSlots op q st d data x.host.slots := by
    intro x
    unfold repliedSlots
    split <;> rfl
  have hNoted : ∀ y : State, (if isMirrored q then noteMirror op q st y else forwardCommand op q y).host.slots = y.host.slots := by
    intro y
    split
    · exact slots_noteMirror _ _ _ _
    · rw [host_forwardCommand]
  rw [← hBusy, ← hSlot]
  unfold replyWith
  dsimp only
  split
  · split
    · exact (slots_replyRingWrite _ _ _).trans (hNoted _)
    · exact hNoted _
  · exact (slots_raise 0 4 _).trans (hNoted _)
  · exact (slots_raise 0 4 _).trans (hNoted _)
  · exact hNoted _
  · exact hNoted _

theorem length_repliedSlots (op : Nat) (q : Req) (st d : Nat) (data : Bytes) (l : List Slot) :
    (repliedSlots op q st d data l).length = l.length := by
  unfold repliedSlots upd
  split
  · exact List.length_modify ..
  · rfl
theorem length_slots_finishWait (k : WaitKey) (st d : Nat) (data : Bytes) (s : State) :
    (finishWait k st d data s).host.slots.length = s.host.slots.length := by
  unfold finishWait
  split
  · rfl
  · rw [slots_replyWith]
    exact length_repliedSlots _ _ _ _ _ _

/-- The result slot of a command whose reply data are whole words (R499). -/
theorem slot_reply {op : Nat} {q : Req} {data : Bytes} {s : State} (st d : Nat) (hw : data.length % 4 = 0) (hu : usesSlot q = true)
    (hl : slotOf q < s.host.slots.length) :
    (reply op q st d data s).host.slots[slotOf q]? = some (slotResult op q st d data) := by
  have hPadded : data ++ zeros ((4 - data.length % 4) % 4) = data := by
    rw [hw]
    exact List.append_nil data
  rw [reply, slots_replyWith, repliedSlots, if_pos hu, upd_get, hPadded, if_pos rfl, List.getElem?_eq_getElem hl]
  rfl

end Sys2Proof.Machine
end
section
/-! PROOFS. The alignment of an output (R212, R213, R218, R224). -/
namespace Sys2Proof.Machine
open Sys2Proof Host

/-! ### One output of the list -/

theorem outOf_of_get {s : State} {n : Nat} {o : OutRun} (h : s.outs[n]? = some o) : outOf s n = o := nth_of_get h
theorem updOut_of_get {s : State} {n : Nat} {o : OutRun} (f : OutRun → OutRun) (h : s.outs[n]? = some o) :
    updOut n f s = { s with outs := s.outs.set n (f o) } :=
  congrArg (fun l => { s with outs := l }) (upd_of_get h)
theorem outs_nextTick (s : State) : (nextTick s).outs = s.outs := moveTo_outs _ s
theorem outs_finishWait (k : WaitKey) (st d : Nat) (data : Bytes) (s : State) : (finishWait k st d data s).outs = s.outs :=
  (of_replied (·.outs) (fun _ => rfl) (fun _ _ _ _ _ => rfl) (repliedFrom_finishWait k st d data s)).trans rfl

/-- The state once an output has no alignment in progress. -/
def alignEnded (n : Nat) (s : State) : State := updOut n (fun o => { o with align := none }) s

theorem alignEnded_of_get {s : State} {n : Nat} {o : OutRun} (h : s.outs[n]? = some o) :
    alignEnded n s = { s with outs := s.outs.set n { o with align := none } } := updOut_of_get _ h

/-! ### OUT_ALIGN -/

/-- The alignment that OUT_ALIGN begins on a tick: it waits for its pulse (R212, R224). -/
def alignOf (p : Bytes) (ord now : Nat) : Align :=
  { ord, alignOffset := fldI p 8 8, step := (fld p 4 1).testBit 0, slew := fld p 16 8, deadline := now + fld p 24 4 * 1000000000 }

/-- The source that OUT_ALIGN names is a REFIN where it passes the format checks (R224). -/
theorem kindOf_alignSource {q : Req} {ord : Nat} (hf : fits q 28 (alignFields q.params)) (ha : fld q.params 1 1 = 0)
    (ho : ordOf (fld q.params 2 2) = some ord) : kindOf ord = .refin := by
  have hSource := fits_ok hf (List.mem_of_getElem? (i := 2) rfl)
  simpa [F, ha, ho] using hSource

theorem hOutAlign_starts {q : Req} {x : State} {o : OutRun} {ord : Nat} (hf : fits q 28 (alignFields q.params)) (ha : fld q.params 1 1 = 0)
    (hord : ordOf (fld q.params 2 2) = some ord) (ho : x.outs[fld q.params 0 1]? = some o) (hIdle : o.align = none)
    (hMode : o.cfg.mode = 1 ∨ o.cfg.mode = 2 ∨ o.cfg.mode = 3) (hPulse : (nth x.work.refs ord).mode = 0 ∨ (nth x.work.refs ord).mode = 3)
    (hOn : (nth x.refs ord).state ≠ .disabled) (hActive : (nth x.refs ord).cause.testBit cActivity = false) :
    hOutAlign q x = .later (addWait { key := .outAlign (fld q.params 0 1), opcode := 0x0212, req := q }
      (updOut (fld q.params 0 1) (fun o => { o with align := some (alignOf q.params ord (nextTick x).now) }) (nextTick x))) := by
  have hAlign : ¬ (fld q.params 1 1 == 1) = true := by
    rw [ha]
    decide
  have hEdges : decide (o.cfg.mode = 0 ∨ o.cfg.mode = 4) = false := decide_eq_false (by omega)
  have hSource : (!pulseSource x.work ord || (refOf x ord).state == .disabled || bit (refOf x ord).cause cActivity) = false := by
    have hPulseMode : ((nth x.work.refs ord).mode == 0 || (nth x.work.refs ord).mode == 3) = true := by simpa only [Bool.or_eq_true, beq_iff_eq]
    rw [pulseSource, kindOf_alignSource hf ha hord, hPulseMode, refOf, beq_eq_false_iff_ne.mpr hOn, bit, hActive]
    rfl
  refine (checked_of hf).trans ?_
  dsimp only
  rw [if_neg hAlign, outOf_of_get ho, hord, Option.getD_some, hIdle, refuseIf_not (c := Option.isSome none) rfl, refuseIf_not hEdges,
    refuseIf_not hSource]
  rfl

theorem hOutAlign_cancels {q : Req} {x : State} {o : OutRun} {a : Align} (hf : fits q 28 (alignFields q.params)) (hc : fld q.params 1 1 = 1)
    (ho : x.outs[fld q.params 0 1]? = some o) (ha : o.align = some a) :
    hOutAlign q x = .done (alignReply a.remaining o.offset)
      (finishWait (.outAlign (fld q.params 0 1)) stBadState 0 [] (alignEnded (fld q.params 0 1) (nextTick x))) := by
  refine (checked_of hf).trans ?_
  dsimp only
  rw [if_pos (beq_iff_eq.mpr hc), outOf_of_get ho, ha]
  rfl

theorem alignReply_length (d offset : Int) : (alignReply d offset).length = 16 := by
  simp only [alignReply, List.length_append, leInt_length]

/-! ### The pulse, the timeout and the end -/

/-- The state once the pulse of an alignment has given `d` (R212). -/
def pulseFound (n : Nat) (a : Align) (d : Int) (s : State) : State :=
  updOut n (fun o => { o with lastD := d, align := some { a with found := true, remaining := -d } }) s

theorem alignPulse_finds {n t : Nat} {s x : State} {o : OutRun} {a : Align} (hx : begin_ t s = x) (hrun : running x = true)
    (ho : x.outs[n]? = some o) (ha : o.align = some a) (hf : a.found = false) (hs : x.time.lastStepTick ≠ some (x.now / 1600)) :
    ∃ d, alignPulse n t s = finishWait (.outAlign n) stDone 0 (alignReply d (o.offset - d)) (pulseFound n a d x) := by
  have hTakes : ¬ (a.found || !running x || x.time.lastStepTick == some (x.now / tickPs)) = true := by
    rw [hf, hrun, tickPs, beq_eq_false_iff_ne.mpr hs]
    decide
  unfold alignPulse
  dsimp only
  rw [hx, outOf_of_get ho, ha]
  dsimp only
  rw [if_neg hTakes]
  exact ⟨_, rfl⟩
theorem alignTimeout_ends {n : Nat} {s : State} {o : OutRun} {a : Align} (ho : s.outs[n]? = some o) (ha : o.align = some a)
    (hf : a.found = false) :
    alignTimeout n s = finishWait (.outAlign n) stBadState 0 [] (raise 2 3 (alignEnded n (moveTo a.deadline s))) := by
  unfold alignTimeout
  rw [outOf_of_get ho, ha]
  exact if_neg (ne_true_of_eq_false hf)
theorem alignDone_ends {n : Nat} {s : State} {o : OutRun} {a : Align} (ho : s.outs[n]? = some o) (ha : o.align = some a)
    (hf : a.found = true) (hr : a.remaining = 0) : alignDone n s = raise 2 2 (alignEnded n s) := by
  unfold alignDone
  rw [outOf_of_get ho, ha]
  exact if_pos (Bool.and_eq_true_iff.mpr ⟨hf, beq_iff_eq.mpr hr⟩)
theorem placerLost_ok {n : Nat} {s : State} {o : OutRun} (ho : s.outs[n]? = some o) (hok : o.placerOk = true) :
    placerLost n s = raise 2 4 { s with outs := s.outs.set n { o with placerOk := false } } := by
  unfold placerLost
  rw [outOf_of_get ho, if_pos hok, updOut_of_get _ ho]

/-! ### The rows -/

/-- Settles O29, row by row: each row's equation on its case, and what its reply leaves. -/
theorem outputAlignment : Obligations.OutputAlignment := by
  unfold Obligations.OutputAlignment
  refine ⟨?start, ?cancel, ?pulse, ?timeout, ?ended, ?placer⟩
  case start =>
    intro q s o ord hs p n x hf ha hord ho hIdle hMode hPulse hOn hActive
    have hOuts : (nextTick x).outs[n]? = some o := (congrArg (·[n]?) (outs_nextTick x)).trans ho
    have hHost : (nextTick x).host = x.host := moveTo_host _ x
    have hBanks := banks_nextTick x
    have hrow := runCmd_later (h := hOutAlign) hs (hOutAlign_starts hf ha hord ho hIdle hMode hPulse hOn hActive)
      (congrArg Prod.fst hBanks) (congrArg Prod.snd hBanks)
    rw [updOut_of_get _ hOuts] at hrow
    refine ⟨_, congrArg Outcome.next hrow, ?_, ?_, ?_⟩
    · exact congrArg (fun l : List OutRun => l.set n _) (outs_nextTick x)
    · exact congrArg (fun h : HostPart => h.waits ++ [{ key := .outAlign n, opcode := 0x0212, req := q }]) hHost
    · rw [addWait, hHost]
  case cancel =>
    intro q s o a hs p n x hf hc ho ha
    have hOuts : (nextTick x).outs[n]? = some o := (congrArg (·[n]?) (outs_nextTick x)).trans ho
    have hrow := runCmd_done_of_banks (h := hOutAlign) hs (hOutAlign_cancels hf hc ho ha)
      ((banks_finishWait _ _ _ _ _).trans ((banks_updOut _ _ _).trans (banks_nextTick x)))
    have hSlots : (finishWait (.outAlign n) stBadState 0 [] (alignEnded n (nextTick x))).host.slots.length = x.host.slots.length := by
      rw [length_slots_finishWait, alignEnded, updOut_host]
      exact congrArg (fun h : HostPart => h.slots.length) (moveTo_host _ x)
    refine ⟨_, hrow, ?_, ?_, fun hu hl => ⟨_, slot_reply stDone 0 ?_ hu (hSlots ▸ hl), rfl, rfl⟩⟩
    · rw [kept_reply, kept_finishWait, alignEnded, kept_updOut, kept_nextTick]
    · have hReply := outs_of_plain (plain_base (base_reply 0x0212 q stDone 0 (alignReply a.remaining o.offset)
        (finishWait (.outAlign n) stBadState 0 [] (alignEnded n (nextTick x))) (startsAt_mirror hs)))
      rw [hReply, outs_finishWait, alignEnded_of_get hOuts, outs_nextTick]
    · rw [alignReply_length]
  case pulse =>
    intro n t s o a x hrun ho ha hf hStep
    obtain ⟨d, hrow⟩ := alignPulse_finds rfl hrun ho ha hf hStep
    refine ⟨_, d, congrArg Outcome.next hrow, ?_, ?_⟩
    · rw [kept_finishWait, pulseFound, kept_updOut]
    · rw [outs_finishWait, pulseFound, updOut_of_get _ ho]
  case timeout =>
    intro n s o a hrun ho ha hf
    let y := moveTo a.deadline { s with out := [] }
    have hOuts : y.outs[n]? = some o := (congrArg (·[n]?) (moveTo_outs _ _)).trans ho
    have hrow := (next_whileRunning hrun (alignTimeout n)).trans
      (congrArg Outcome.next (alignTimeout_ends (s := { s with out := [] }) ho ha hf))
    refine ⟨_, hrow, ?_, ?_, ?_, stands_finishWait _ _ _ _ (stands_raise_self 2 3 _ (by decide))⟩
    · exact kept_of_event (c := .alignTimeout n) rfl hrow
    · rw [outs_finishWait, raise_outs, alignEnded_of_get hOuts, moveTo_outs]
    · rw [(finishWait_leaves _ _ _ _ _).1, raise_now]
      exact le_moveTo _ _
  case ended =>
    intro n s o a hrun ho ha hf hr
    have hrow := (next_whileRunning hrun (alignDone n)).trans
      (congrArg Outcome.next (alignDone_ends (s := { s with out := [] }) ho ha hf hr))
    refine ⟨_, hrow, stands_raise_self 2 2 _ (by decide), ?_⟩
    rw [plain_raise, alignEnded_of_get (s := { s with out := [] }) ho]
    rfl
  case placer =>
    intro n t s o hrun x ho hok
    refine ⟨_, (next_begin hrun (placerLost n)).trans (congrArg Outcome.next (placerLost_ok ho hok)), ?_, ?_⟩
    · exact stands_raise_self 2 4 _ (by decide)
    · exact plain_raise 2 4 _

end Sys2Proof.Machine
end
section
/-! PROOFS. One stop channel of the list, and the frame of a change of it (R233, R241). -/
namespace Sys2Proof.Machine
open Sys2Proof Host

theorem chanOf_of_get {s : State} {c : Nat} {h : TdcChan} (hc : s.tdc.chans[c]? = some h) : chanOf s c = h := nth_of_get hc
theorem chanOf_of_plain {s t : State} (c : Nat) (h : plain t = plain s) : chanOf t c = chanOf s c :=
  congrArg (fun d : TdcRun => nth d.chans c) (tdc_of_plain h)
theorem updChan_of_get {s : State} {c : Nat} {h : TdcChan} (f : TdcChan → TdcChan) (hc : s.tdc.chans[c]? = some h) :
    updChan c f s = { s with tdc := { s.tdc with chans := s.tdc.chans.set c (f h) } } :=
  congrArg (fun l => { s with tdc := { s.tdc with chans := l } }) (upd_of_get hc)
theorem chanOf_updChan {s : State} {c : Nat} {h : TdcChan} (f : TdcChan → TdcChan) (hc : s.tdc.chans[c]? = some h) :
    chanOf (updChan c f s) c = f h := by
  rw [chanOf, updChan, nth_upd_self f (lt_length_of_get hc), nth_of_get hc]
theorem updChan_updChan (c : Nat) (f g : TdcChan → TdcChan) (s : State) : updChan c f (updChan c g s) = updChan c (f ∘ g) s :=
  congrArg (fun l => { s with tdc := { s.tdc with chans := l } }) (List.modify_modify_eq g f c _)
theorem plain_updChan (c : Nat) (f : TdcChan → TdcChan) (s : State) : plain (updChan c f s) = updChan c f (plain s) := rfl
theorem updChan_after {c : Nat} {g : TdcChan → TdcChan} {y z : State} (f : TdcChan → TdcChan) (hz : plain z = plain (updChan c g y)) :
    plain (updChan c f z) = plain (updChan c (f ∘ g) y) :=
  (congrArg (updChan c f) hz).trans (congrArg plain (updChan_updChan c f g y))

/-- The configuration of a stop channel is given by its owner and the working set (R241). -/
theorem chanCfg_congr {s t : State} {c : Nat} (ho : (chanOf t c).owner = (chanOf s c).owner) (hw : t.work = s.work) :
    chanCfg t c = chanCfg s c := by
  unfold chanCfg
  rw [ho, hw]
theorem chanCfg_of_free {s : State} {c : Nat} (ho : (chanOf s c).owner = none) : chanCfg s c = nth s.work.tdc (c + 1) := by
  unfold chanCfg
  rw [ho]

/-- Where a state differs from another in one channel, it differs in the list of channels only. -/
theorem plain_chansOnly {c : Nat} {g : TdcChan → TdcChan} {t y : State} (h : plain t = plain (updChan c g y)) :
    plain t = plain { y with tdc := { y.tdc with chans := t.tdc.chans } } := by
  rw [tdc_of_plain h]
  exact h

end Sys2Proof.Machine
end
section
/-! PROOFS. The commands of the TDC (R233, R236, R239, R241, R244 to R247). -/
namespace Sys2Proof.Machine
open Sys2Proof Host

/-! ### The channels that a mask names -/

/-- The mask of TDC_ARM names a channel (R245). -/
def namedChan (w c : Nat) : Bool := decide (c < 8) && bit w c

theorem mem_named (w c : Nat) : c ∈ onesBelow 8 w ↔ namedChan w c = true := by
  rw [mem_onesBelow, namedChan, Bool.and_eq_true, decide_eq_true_iff, bit]
theorem any_named {w : Nat} {P : Nat → Bool} :
    (onesBelow 8 w).any P = true ↔ ∃ c, c < 8 ∧ namedChan w c = true ∧ P c = true := by
  rw [List.any_eq_true]
  refine exists_congr fun c => ?_
  have hBelow : c ∈ onesBelow 8 w → c < 8 := fun hc => ((mem_onesBelow 8 w c).mp hc).1
  rw [← mem_named]
  exact ⟨fun ⟨hn, hp⟩ => ⟨hBelow hn, hn, hp⟩, fun ⟨_, hn, hp⟩ => ⟨hn, hp⟩⟩
theorem none_named {w : Nat} {P : Nat → Bool} (h : ∀ c, c < 8 → namedChan w c = true → P c = false) :
    (onesBelow 8 w).any P = false := by
  refine Bool.eq_false_iff.mpr fun hAny => ?_
  obtain ⟨c, hc, hn, hp⟩ := any_named.mp hAny
  exact Bool.noConfusion ((h c hc hn).symm.trans hp)

/-! ### One channel after another -/

/-- Steps that each change one channel, to one that has `P` as long as the time part is `τ`: together they change the channels named, to
ones that have `P`, and nothing else. -/
theorem foldl_chans {P : TdcChan → Prop} {τ : TimePart} {f : State → Nat → State}
    (hf : ∀ z c, z.time = τ → ∃ g, f z c = updChan c g z ∧ ∀ h, P (g h)) (l : List Nat) (s : State) (hs : s.time = τ) :
    l.foldl f s = { s with tdc := { s.tdc with chans := (l.foldl f s).tdc.chans } } ∧
    (∀ c, c ∉ l → (l.foldl f s).tdc.chans[c]? = s.tdc.chans[c]?) ∧
    (∀ c h, c ∈ l → (l.foldl f s).tdc.chans[c]? = some h → P h) := by
  induction l generalizing s with
  | nil => exact ⟨rfl, fun _ _ => rfl, fun _ _ hc => absurd hc List.not_mem_nil⟩
  | cons d l ih =>
    obtain ⟨g, hg, hP⟩ := hf s d hs
    rw [List.foldl_cons, hg]
    obtain ⟨hOnly, hSame, hNamed⟩ := ih (updChan d g s) hs
    have hGet : ∀ c, (updChan d g s).tdc.chans[c]? = if d = c then s.tdc.chans[c]?.map g else s.tdc.chans[c]? := fun c => upd_get _ d c g
    refine ⟨hOnly, fun c hc => ?_, fun c h hc hh => ?_⟩
    · rw [List.mem_cons, not_or] at hc
      rw [hSame c hc.2, hGet, if_neg (Ne.symm hc.1)]
    · by_cases hl : c ∈ l
      · exact hNamed c h hl hh
      · obtain rfl := (List.mem_cons.mp hc).resolve_right hl
        rw [hSame c hl, hGet, if_pos rfl] at hh
        obtain ⟨k, -, rfl⟩ := Option.map_eq_some_iff.mp hh
        exact hP k

/-- A channel that TDC_ARM has armed at counter time `now`, or that waits for START_AT: its buffer, block and counters are clear
(R233, R236). -/
def armedAfresh (n : Nat) (continuous raw : Bool) (at_ now : Nat) (h : TdcChan) : Prop :=
  h.state = (if at_ = 0 then .armed else .waiting) ∧ h.startAt = at_ ∧ (at_ = 0 → h.armedFrom = now) ∧ h.n = n ∧ h.continuous = continuous ∧
  h.raw = raw ∧ h.buffer = [] ∧ h.block = {} ∧ h.blockCount = 0 ∧ h.dropped = 0 ∧ h.orphans = 0 ∧ h.stepDiscards = 0 ∧ h.overruns = 0

theorem armChan_afresh (c n : Nat) (continuous raw : Bool) (at_ : Nat) (s : State) : ∃ g,
    armChan c n continuous raw at_ s = updChan c g s ∧ ∀ h, armedAfresh n continuous raw at_ (curTs s) (g h) := by
  unfold armChan
  dsimp only
  split
  case isTrue hNow =>
    unfold armNow
    dsimp only
    split
    · rw [openGate, gateAt, updChan_updChan, updChan_updChan]
      exact ⟨_, rfl, fun h => ⟨(if_pos hNow).symm, rfl, fun _ => rfl, rfl, rfl, rfl, rfl, rfl, rfl, rfl, rfl, rfl, rfl⟩⟩
    · rw [updChan_updChan]
      exact ⟨_, rfl, fun h => ⟨(if_pos hNow).symm, rfl, fun _ => rfl, rfl, rfl, rfl, rfl, rfl, rfl, rfl, rfl, rfl, rfl⟩⟩
  case isFalse hLater =>
    exact ⟨_, rfl, fun h => ⟨(if_neg hLater).symm, rfl, fun h0 => absurd h0 hLater, rfl, rfl, rfl, rfl, rfl, rfl, rfl, rfl, rfl, rfl⟩⟩

theorem banks_armChan (c n : Nat) (continuous raw : Bool) (at_ : Nat) (s : State) : banks (armChan c n continuous raw at_ s) = banks s := by
  obtain ⟨g, hg, -⟩ := armChan_afresh c n continuous raw at_ s
  rw [hg, banks_updChan]

/-- A channel that is disarmed, with its block in progress discarded (R233). -/
def disarmedChan (h : TdcChan) : TdcChan := { h with state := .disarmed, starts := [], stops := [], block := {}, edges := [] }

theorem foldl_disarmChan (l : List Nat) (s : State) : l.foldl (fun s c => disarmChan c s) s =
    { s with tdc := { s.tdc with chans := l.foldl (fun k c => upd k c disarmedChan) s.tdc.chans } } := by
  induction l generalizing s with
  | nil => rfl
  | cons c l ih => exact ih (disarmChan c s)
theorem get_foldl_disarmChan {l : List Nat} (hl : l.Nodup) (s : State) (c : Nat) :
    (l.foldl (fun s c => disarmChan c s) s).tdc.chans[c]? = if c ∈ l then s.tdc.chans[c]?.map disarmedChan else s.tdc.chans[c]? := by
  rw [foldl_disarmChan]
  exact foldl_upd_get disarmedChan l hl _ c

/-! ### TDC_ARM -/

section
variable {q : Req} {x : State}

/-- A channel cannot be armed where it is not disarmed, or its input not enabled (R245). -/
theorem unfitToArm_iff {c : Nat} (ho : (chanOf x c).owner = none) :
    ((chanOf x c).state != .disarmed || !(chanCfg x c).enable) = true ↔
      (chanOf x c).state ≠ .disarmed ∨ (nth x.work.tdc (c + 1)).enable = false := by
  rw [chanCfg_of_free ho, Bool.or_eq_true, bne_iff_ne, Bool.not_eq_true']

variable (hf : fits q 24 (armFields q.params))
include hf

/-- TDC_ARM is refused with RESOURCE where a channel that it names is owned (R241, R245). -/
theorem hTdcArm_owned (ha : fld q.params 1 1 ≠ 2)
    (ho : ∃ c, c < 8 ∧ namedChan (fld q.params 0 1) c = true ∧ (chanOf x c).owner ≠ none) :
    hTdcArm q x = .refuse stResource 0 := by
  obtain ⟨c, hc, hn, hOwner⟩ := ho
  exact (checked_of hf).trans (refuseIf_true (Bool.and_eq_true_iff.mpr
    ⟨bne_iff_ne.mpr ha, any_named.mpr ⟨c, hc, hn, Option.isSome_iff_ne_none.mpr hOwner⟩⟩))

/-- Past the check of the owners, TDC_ARM does what ACTION says (R245). -/
theorem hTdcArm_free
    (ho : fld q.params 1 1 ≠ 2 → ∀ c, c < 8 → namedChan (fld q.params 0 1) c = true → (chanOf x c).owner = none) :
    let chans := onesBelow 8 (fld q.params 0 1)
    let at_ := tsOfField (fld q.params 8 12)
    hTdcArm q x =
      if fld q.params 1 1 = 2 then
        refuseIf (x.tdc.chans.any fun h => h.state != .disarmed) stBadState 0 (.done [] { x with tdc := { x.tdc with calibrating := true } })
      else if fld q.params 1 1 = 1 then .done [] (chans.foldl (fun s c => disarmChan c s) (nextTick x))
      else
        refuseIf (chans.any fun c => (chanOf x c).state != .disarmed || !(chanCfg x c).enable) stBadState 0
          (refuseIf (at_ != 0 && decide (at_ ≤ curTs x)) stBadState 0
            (.done [] (chans.foldl (fun s c => armChan c (fld q.params 4 4) (bit (fld q.params 2 1) 0) (bit (fld q.params 2 1) 1) at_ s)
              (nextTick x)))) := by
  intro chans at_
  refine (checked_of hf).trans (refuseIf_not ?_)
  by_cases ha : fld q.params 1 1 = 2
  · simp [ha]
  · refine Bool.and_eq_false_imp.mpr fun _ => none_named fun c hc hn => ?_
    rw [ho ha c hc hn]
    rfl

theorem hTdcArm_arms (ha : fld q.params 1 1 = 0)
    (hReady : ∀ c, c < 8 → namedChan (fld q.params 0 1) c = true →
      (chanOf x c).owner = none ∧ (chanOf x c).state = .disarmed ∧ (nth x.work.tdc (c + 1)).enable = true)
    (hAt : tsOfField (fld q.params 8 12) = 0 ∨ curTs x < tsOfField (fld q.params 8 12)) :
    hTdcArm q x = .done [] ((onesBelow 8 (fld q.params 0 1)).foldl (fun s c => armChan c (fld q.params 4 4) (bit (fld q.params 2 1) 0)
      (bit (fld q.params 2 1) 1) (tsOfField (fld q.params 8 12)) s) (nextTick x)) := by
  have hChans : ((onesBelow 8 (fld q.params 0 1)).any fun c => (chanOf x c).state != .disarmed || !(chanCfg x c).enable) = false :=
    none_named fun c hc hn => by
      obtain ⟨hOwner, hState, hEnable⟩ := hReady c hc hn
      rw [chanCfg_of_free hOwner, hState, hEnable]
      rfl
  have hStart : (tsOfField (fld q.params 8 12) != 0 && decide (tsOfField (fld q.params 8 12) ≤ curTs x)) = false := by
    rcases hAt with h0 | hLater
    · rw [h0]; rfl
    · rw [decide_eq_false (Nat.not_le.mpr hLater), Bool.and_false]
  rw [hTdcArm_free hf fun _ c hc hn => (hReady c hc hn).1]
  dsimp only
  rw [if_neg (by rw [ha]; decide), if_neg (by rw [ha]; decide), refuseIf_not hChans, refuseIf_not hStart]

theorem hTdcArm_badState (ha : fld q.params 1 1 = 0)
    (ho : ∀ c, c < 8 → namedChan (fld q.params 0 1) c = true → (chanOf x c).owner = none)
    (hBad : (∃ c, c < 8 ∧ namedChan (fld q.params 0 1) c = true ∧
        ((chanOf x c).state ≠ .disarmed ∨ (nth x.work.tdc (c + 1)).enable = false)) ∨
      tsOfField (fld q.params 8 12) ≠ 0 ∧ tsOfField (fld q.params 8 12) ≤ curTs x) :
    hTdcArm q x = .refuse stBadState 0 := by
  rw [hTdcArm_free hf fun _ => ho]
  dsimp only
  rw [if_neg (by rw [ha]; decide), if_neg (by rw [ha]; decide)]
  rcases hBad with ⟨c, hc, hn, hNot⟩ | ⟨h0, hPast⟩
  · exact refuseIf_true (any_named.mpr ⟨c, hc, hn, (unfitToArm_iff (ho c hc hn)).mpr hNot⟩)
  · rw [refuseIf_true (k := .done [] _) (Bool.and_eq_true_iff.mpr ⟨bne_iff_ne.mpr h0, decide_eq_true hPast⟩)]
    exact ite_self _

theorem hTdcArm_disarms (ha : fld q.params 1 1 = 1)
    (ho : ∀ c, c < 8 → namedChan (fld q.params 0 1) c = true → (chanOf x c).owner = none) :
    hTdcArm q x = .done [] ((onesBelow 8 (fld q.params 0 1)).foldl (fun s c => disarmChan c s) (nextTick x)) := by
  rw [hTdcArm_free hf fun _ => ho]
  exact (if_neg (by rw [ha]; decide)).trans (if_pos ha)

theorem hTdcArm_calibrates (ha : fld q.params 1 1 = 2) :
    hTdcArm q x = refuseIf (x.tdc.chans.any fun h => h.state != .disarmed) stBadState 0
      (.done [] { x with tdc := { x.tdc with calibrating := true } }) := by
  rw [hTdcArm_free hf fun h => absurd ha h]
  exact if_pos ha

end

theorem tdc_nextTick (s : State) : (nextTick s).tdc = s.tdc := moveTo_tdc _ s

/-! ### TDC_READ -/

/-- The reply of TDC_READ with up to `n` of the oldest results of a channel (R246). -/
def tdcReadReply (h : TdcChan) (n : Nat) : Bytes :=
  leBytes 1 (h.buffer.take n).length ++ leBytes 1 (packBits [!(h.buffer.drop n).isEmpty, h.rawFull]) ++ zeros 2 ++ leBytes 4 h.dropped ++
    (h.buffer.take n).flatMap fun e => leInt 8 e.value ++ tsBytes e.stamp.toNat ++ leBytes 1 (b2n e.uncal) ++ zeros 3

theorem isEmpty_take {α : Type} {n : Nat} (h : n ≠ 0) (l : List α) : (l.take n).isEmpty = l.isEmpty := by
  rw [Bool.eq_iff_iff, List.isEmpty_iff, List.isEmpty_iff, List.take_eq_nil_iff]
  exact or_iff_right h

theorem hTdcRead_of {q : Req} {x : State} {h : TdcChan} (hf : fits q 4 [inF 0 1 0 7, inF 1 1 1 32, rsvF 2 2])
    (hc : x.tdc.chans[fld q.params 0 1]? = some h) :
    hTdcRead q x = refuseIf h.owner.isSome stResource 0 (.done (tdcReadReply h (fld q.params 1 1))
      { x with tdc := { x.tdc with chans := x.tdc.chans.set (fld q.params 0 1) { h with
          buffer := h.buffer.drop (fld q.params 1 1), rawFull := h.rawFull && h.buffer.isEmpty } } }) := by
  have hCount : fld q.params 1 1 ≠ 0 := by
    have hRange := of_decide_eq_true (fits_ok hf (List.mem_of_getElem? (i := 1) rfl))
    exact Nat.one_le_iff_ne_zero.mp hRange.1
  refine (checked_of hf).trans ?_
  dsimp only
  rw [chanOf_of_get hc, updChan_of_get _ hc, isEmpty_take hCount]
  rfl

theorem tdcReadReply_length (h : TdcChan) (n : Nat) : (tdcReadReply h n).length = 8 + 24 * min n h.buffer.length := by
  simp only [tdcReadReply, List.length_append, leBytes_length, leInt_length, tsBytes_length, zeros_length, Nat.reduceAdd, List.length_flatMap,
    List.map_const', List.sum_replicate_nat, List.length_take]
  omega

theorem tdcReadReply_fields (h : TdcChan) (n : Nat) :
    fld (tdcReadReply h n) 0 1 = min n h.buffer.length % 256 ∧ fld (tdcReadReply h n) 4 4 = h.dropped % 2 ^ 32 := by
  simp only [tdcReadReply, List.append_assoc, fld_append_right, fld_le_here, leBytes_length, zeros_length, List.length_take, Nat.reduceLeDiff,
    Nat.reduceSub, Nat.reducePow, and_self]

/-- The flags of TDC_READ: more results stand, and RAW_FULL (R246). -/
theorem tdcReadReply_flags (h : TdcChan) (n : Nat) :
    (fld (tdcReadReply h n) 1 1).testBit 0 = decide (n < h.buffer.length) ∧ (fld (tdcReadReply h n) 1 1).testBit 1 = h.rawFull := by
  simp only [tdcReadReply, List.append_assoc, fld_append_right, fld_le_here, leBytes_length, Nat.reduceLeDiff, Nat.reduceSub]
  refine ⟨?_, ?_⟩
  · rw [testBit_field _ (by decide), testBit_packBits]
    show (!(h.buffer.drop n).isEmpty) = _
    rw [Bool.eq_iff_iff, Bool.not_eq_true', List.isEmpty_eq_false_iff, Ne, List.drop_eq_nil_iff, Nat.not_le, decide_eq_true_iff]
  · rw [testBit_field _ (by decide), testBit_packBits]
    rfl

/-! ### TDC_STATS -/

/-- The block that TDC_STATS reports: the one in progress, or the last one that was completed (R247). -/
def statsBlock (s : State) (c : Nat) (inProgress : Bool) : TdcBlock :=
  if inProgress then { (chanOf s c).block with mode := (chanCfg s c).mode } else (chanOf s c).last.getD { mode := (chanCfg s c).mode }

/-- But for its mode, the block is that of the channel. -/
theorem statsBlock_values (s : State) (c k : Nat) :
    let b := if k = 1 then (chanOf s c).block else (chanOf s c).last.getD {}
    (statsBlock s c (k == 1)).count = b.count ∧ (statsBlock s c (k == 1)).min = b.min ∧ (statsBlock s c (k == 1)).max = b.max := by
  unfold statsBlock
  by_cases hk : k = 1
  · simp [hk]
  · cases (chanOf s c).last <;> simp [hk]

theorem tdcStatsReply_length (s : State) (c : Nat) (k : Bool) : (tdcStatsReply s c k).length = 72 := by
  simp only [tdcStatsReply, List.length_append, leBytes_length, leInt_length, tsBytes_length]

theorem tdcStatsReply_fields (s : State) (c : Nat) (k : Bool) :
    let h := chanOf s c
    let b := statsBlock s c k
    fld (tdcStatsReply s c k) 0 1 = c % 256 ∧ fld (tdcStatsReply s c k) 1 1 = tdcStateCode s h ∧ fld (tdcStatsReply s c k) 4 4 = h.n % 2 ^ 32 ∧
    fld (tdcStatsReply s c k) 8 4 = b.count % 2 ^ 32 ∧ fld (tdcStatsReply s c k) 12 4 = h.blockCount % 2 ^ 32 ∧
    fld (tdcStatsReply s c k) 32 8 = (b.min % 2 ^ 64).toNat ∧ fld (tdcStatsReply s c k) 40 8 = (b.max % 2 ^ 64).toNat ∧
    fld (tdcStatsReply s c k) 60 4 = h.orphans % 2 ^ 32 ∧ fld (tdcStatsReply s c k) 64 4 = h.stepDiscards % 2 ^ 32 ∧
    fld (tdcStatsReply s c k) 68 4 = h.overruns % 2 ^ 32 := by
  intro h b
  have hCode : tdcStateCode s h % 256 = tdcStateCode s h := by
    unfold tdcStateCode
    cases h.state <;> cases s.tdc.calibrating <;> rfl
  have hSigned : ∀ v : Int, ofSigned (8 * 8) v = (v % 2 ^ 64).toNat := fun v => by norm_num [ofSigned]
  simp only [tdcStatsReply, List.append_assoc, fld_append_right, fld_le_here, fld_le_all, fld_leInt_here, leBytes_length, leInt_length,
    tsBytes_length, Nat.reduceLeDiff, Nat.reduceSub, Nat.reducePow, hSigned, true_and]
  exact ⟨hCode, rfl, rfl, rfl, rfl, rfl, rfl, rfl, rfl⟩

/-- The flags of TDC_STATS: owned, aborted (R247). -/
theorem tdcStatsReply_flags (s : State) (c : Nat) (k : Bool) :
    (fld (tdcStatsReply s c k) 3 1).testBit 1 = (chanOf s c).owner.isSome ∧ (fld (tdcStatsReply s c k) 3 1).testBit 3 = (chanOf s c).aborted := by
  simp only [tdcStatsReply, List.append_assoc, fld_append_right, fld_le_here, leBytes_length, Nat.reduceLeDiff, Nat.reduceSub]
  refine ⟨?_, ?_⟩ <;> rw [testBit_field _ (by decide), testBit_packBits] <;> rfl

/-! ### The commands -/

/-- TDC_CONFIGURE writes its entry of the shadow set unless the channel is owned (R241, R244). -/
theorem hTdcConfigure_of {q : Req} {x : State} (hf : fits q 24 (tdcFields x.shadow q.params)) :
    hTdcConfigure q x = refuseIf (decide (fld q.params 0 1 ≥ 1) && (chanOf x (fld q.params 0 1 - 1)).owner.isSome) stResource 0
      (writes (fun k => { k with tdc := k.tdc.set (fld q.params 0 1) (tdcCfgOf q.params) }) x) := checked_of hf

/-- Settles O30, command by command: what each handler answers or refuses, and the fields of its reply. -/
theorem tdcCommands : Obligations.TdcCommands := by
  unfold Obligations.TdcCommands
  refine ⟨?configure, ?arm, ?read, ?stats⟩
  case configure =>
    intro q s hs x p i hf c
    have hh := hTdcConfigure_of (x := x) hf
    refine ⟨fun h => (runCmd_writes (h := hTdcConfigure) hs (hh.trans (refuseIf_not ?_)) :), fun hi ho => ?_⟩
    · rcases h with h0 | hFree
      · rw [show fld q.params 0 1 = 0 from h0]; rfl
      · rw [hFree]; exact Bool.and_false _
    · exact congrArg Outcome.next (runCmd_refused hs (hh.trans (refuseIf_true (Bool.and_eq_true_iff.mpr
        ⟨decide_eq_true (Nat.one_le_iff_ne_zero.mpr hi), Option.isSome_iff_ne_none.mpr ho⟩))))
  case arm =>
    intro q s hs hf x p act named at_ y
    have hTdc : y.tdc = x.tdc := tdc_nextTick x
    refine ⟨fun ha ho => ?owned, fun ha hReady hAt => ?arms, fun ha ho hBad => ?badState, fun ha ho => ?disarms, fun ha hIdle => ?calibrates,
      fun ha hBusy => ?busy⟩
    case owned => exact congrArg Outcome.next (runCmd_refused hs (hTdcArm_owned hf ha ho))
    case arms =>
      obtain ⟨hOnly, hSame, hNamed⟩ := foldl_chans (τ := y.time) (fun z c hz => by
        obtain ⟨g, hg, hP⟩ := armChan_afresh c (fld p 4 4) (bit (fld p 2 1) 0) (bit (fld p 2 1) 1) at_ z
        have hNow : curTs z = curTs y := congrArg (fun t : TimePart => t.counter.total / 2 ^ 32) hz
        exact ⟨g, hg, fun h => hNow ▸ hP h⟩) (onesBelow 8 (fld p 0 1)) y rfl
      refine ⟨_, runCmd_done_of_banks hs (hTdcArm_arms hf ha hReady hAt) ?_, hOnly, fun c hc => ?_,
        fun c h hc => hNamed c h ((mem_named _ c).mpr hc)⟩
      · rw [banks_foldl _ (fun z c => banks_armChan c _ _ _ _ z), banks_nextTick]
      · rw [hSame c (mt (mem_named _ c).mp hc), hTdc]
    case badState => exact congrArg Outcome.next (runCmd_refused hs (hTdcArm_badState hf ha ho hBad))
    case disarms =>
      have hGet := get_foldl_disarmChan (onesBelow_nodup 8 (fld p 0 1)) y
      refine ⟨_, runCmd_done_of_banks hs (hTdcArm_disarms hf ha ho) ?_, by rw [foldl_disarmChan], fun c hc => ?_, fun c h hc hh => ?_⟩
      · rw [banks_foldl _ (fun z c => banks_disarmChan c z), banks_nextTick]
      · rw [hGet, if_neg (mt (mem_named _ c).mp hc), hTdc]
      · rw [hGet, if_pos ((mem_named _ c).mpr hc), hTdc, hh]
        rfl
    case calibrates =>
      refine runCmd_done_of_banks hs ((hTdcArm_calibrates hf ha).trans (refuseIf_not ?_)) rfl
      exact List.any_eq_false.mpr fun h hh => by rw [hIdle h hh]; decide
    case busy =>
      obtain ⟨h, hh, hState⟩ := hBusy
      refine congrArg Outcome.next (runCmd_refused hs ((hTdcArm_calibrates hf ha).trans (refuseIf_true ?_)))
      exact List.any_eq_true.mpr ⟨h, hh, bne_iff_ne.mpr hState⟩
  case read =>
    intro q s h hs hf x c n hc
    have hh := hTdcRead_of hf hc
    obtain ⟨hCount, hDropped⟩ := tdcReadReply_fields h n
    obtain ⟨hMore, hFull⟩ := tdcReadReply_flags h n
    refine ⟨fun ho => ?_, fun ho => ⟨tdcReadReply h n, ?_, tdcReadReply_length h n, hCount, hMore, hFull, hDropped⟩⟩
    · exact congrArg Outcome.next (runCmd_refused hs (hh.trans (refuseIf_true (Option.isSome_iff_ne_none.mpr ho))))
    · exact runCmd_done_of_banks hs (hh.trans (refuseIf_not (by rw [ho]; rfl))) rfl
  case stats =>
    intro q s hs hf x h b
    obtain ⟨hNumber, hState, hN, hCount, hBlocks, hMin, hMax, hCounters⟩ := tdcStatsReply_fields x (fld q.params 0 1) (fld q.params 1 1 == 1)
    obtain ⟨hOwned, hAborted⟩ := tdcStatsReply_flags x (fld q.params 0 1) (fld q.params 1 1 == 1)
    obtain ⟨bCount, bMin, bMax⟩ := statsBlock_values x (fld q.params 0 1) (fld q.params 1 1)
    rw [bCount] at hCount
    rw [bMin] at hMin
    rw [bMax] at hMax
    exact ⟨tdcStatsReply x _ _, runCmd_done_of_banks hs (checked_of hf) rfl, tdcStatsReply_length _ _ _, hNumber, hState, hOwned, hAborted, hN,
      hCount, hBlocks, hMin, hMax, hCounters⟩

end Sys2Proof.Machine
end
section
/-! PROOFS. How the TDC measures: edges, orphans, gates, arming on time and calibration (R227 to R239). -/
namespace Sys2Proof.Machine
open Sys2Proof Host

/-! ### Results, orphans and steps on one channel -/

/-- The channel with one more orphan, and with one more pair or gate that a step has spoilt (R229, R231). -/
def orphaned (h : TdcChan) : TdcChan := { h with orphans := (h.orphans + 1) % 2 ^ 32 }
def stepSpoilt (h : TdcChan) : TdcChan := { h with stepDiscards := (h.stepDiscards + 1) % 2 ^ 32 }

theorem plain_orphan (c : Nat) (s : State) : plain (orphan c s) = plain (updChan c orphaned s) := by
  rw [orphan, plain_raise, plain_bump]
  rfl
theorem stands_orphan (c : Nat) (s : State) : causeStands 7 3 (orphan c s) := stands_raise_self 7 3 _ (by decide)
theorem plain_stepDiscard (c : Nat) (s : State) : plain (stepDiscard c s) = plain (updChan c stepSpoilt s) := by
  rw [stepDiscard, plain_raise, plain_bump]
  rfl
theorem stands_stepDiscard (c : Nat) (s : State) : causeStands 7 4 (stepDiscard c s) := stands_raise_self 7 4 _ (by decide)

/-- A result enters the raw buffer of a channel that keeps raw results (R236). -/
def rawKept (c : Nat) (v stamp : Int) (uncal : Bool) (s : State) : State :=
  let h := chanOf s c
  if !h.raw then s
  else if h.buffer.length < 1024 then
    let s := updChan c (fun h => { h with buffer := h.buffer ++ [{ value := v, stamp, uncal }] }) s
    if h.buffer.length + 1 = 1024 then raise 7 1 (updChan c (fun h => { h with rawFull := true }) s) else s
  else bump (64 * 7 + 35) (updChan c (fun h => { h with dropped := (h.dropped + 1) % 2 ^ 32 }) s)

/-- A full block of a channel is latched (R233). -/
def blockLatched (c : Nat) (b : TdcBlock) (s : State) : State :=
  raise 7 0 (updChan c (fun h => { h with
    block := {}, last := some { b with mode := (chanCfg s c).mode }, blockCount := (h.blockCount + 1) % 2 ^ 32
    state := if h.continuous then h.state else .disarmed
    stops := if h.continuous then h.stops else [] }) s)

theorem addResult_eq (c : Nat) (v stamp : Int) (uncal : Bool) (s : State) :
    let b := blockAdd (chanOf s c).block v stamp uncal
    let z := rawKept c v stamp uncal (bump 480 s)
    addResult c v stamp uncal s = if b.count ≥ (chanOf s c).n then blockLatched c b z else updChan c (fun h => { h with block := b }) z := rfl

/-- The raw buffer takes a result without a change of the channel's owner. -/
theorem rawKept_onChan (c : Nat) (v stamp : Int) (uncal : Bool) (s : State) : ∃ g,
    plain (rawKept c v stamp uncal s) = plain (updChan c g s) ∧ ∀ h, (g h).owner = h.owner := by
  unfold rawKept
  dsimp only
  split
  · exact ⟨id, by rw [updChan, upd, List.modify_id], fun _ => rfl⟩
  · split
    · split
      · rw [plain_raise, updChan_updChan]
        exact ⟨_, rfl, fun _ => rfl⟩
      · exact ⟨_, rfl, fun _ => rfl⟩
    · rw [plain_bump]
      exact ⟨_, rfl, fun _ => rfl⟩

/-- A result changes its channel and not its owner; a block that it does not fill has one more result (R233, R234). -/
theorem addResult_onChan (c : Nat) (v stamp : Int) (uncal : Bool) (s : State) : ∃ g,
    plain (addResult c v stamp uncal s) = plain (updChan c g s) ∧ (∀ h, (g h).owner = h.owner) ∧
    ((chanOf s c).block.count + 1 < (chanOf s c).n → ∀ h, (g h).block = blockAdd (chanOf s c).block v stamp uncal) := by
  obtain ⟨g, hg, hOwner⟩ := rawKept_onChan c v stamp uncal (bump 480 s)
  have hz : plain (rawKept c v stamp uncal (bump 480 s)) = plain (updChan c g s) := by
    rw [hg, plain_updChan, plain_bump, plain_updChan]
  rw [addResult_eq]
  split
  case isTrue hFull =>
    rw [blockLatched, plain_raise, updChan_after _ hz]
    exact ⟨_, rfl, hOwner, fun hRoom => absurd hFull (Nat.not_le.mpr hRoom)⟩
  case isFalse hRoom =>
    rw [updChan_after _ hz]
    exact ⟨_, rfl, hOwner, fun _ _ => rfl⟩

/-- Where raw results are not kept, a result that does not fill the block enters the block and nothing else (R233, R234). -/
theorem addResult_enters {c : Nat} {v stamp : Int} {uncal : Bool} {s : State} (hRaw : (chanOf s c).raw = false)
    (hRoom : (chanOf s c).block.count + 1 < (chanOf s c).n) :
    plain (addResult c v stamp uncal s) =
      plain (updChan c (fun h => { h with block := blockAdd (chanOf s c).block v stamp uncal }) s) := by
  have hKept : rawKept c v stamp uncal (bump 480 s) = bump 480 s := if_pos (congrArg not hRaw)
  have hNotFull : ¬ (blockAdd (chanOf s c).block v stamp uncal).count ≥ (chanOf s c).n := Nat.not_le.mpr hRoom
  rw [addResult_eq, if_neg hNotFull, hKept, plain_updChan, plain_bump, plain_updChan]

/-! ### Edges of an INTERVAL channel -/

/-- An edge comes within 100 ns of the previous stamped edge of its input (R227). -/
def tooSoon (i : TdcInput) (now : Nat) : Bool := match i.lastPs with | some l => decide (now < l + 100000) | none => false

theorem tooSoon_iff {i : TdcInput} {now : Nat} : tooSoon i now = true ↔ ∃ l ∈ i.lastPs, now < l + 100000 := by
  unfold tooSoon
  cases i.lastPs <;> simp

/-- The state in which an input has stamped an edge at the present instant (R227). -/
def edgeStamped (inp : Nat) (s : State) : State :=
  { s with tdc := { s.tdc with inputs := upd s.tdc.inputs inp fun i => { i with lastPs := some s.now } } }

theorem edgeStamped_of_get {inp : Nat} {s : State} {i : TdcInput} (hi : s.tdc.inputs[inp]? = some i) :
    edgeStamped inp s = { s with tdc := { s.tdc with inputs := s.tdc.inputs.set inp { i with lastPs := some s.now } } } :=
  congrArg (fun l => { s with tdc := { s.tdc with inputs := l } }) (upd_of_get hi)

/-- The stamp of an edge on a stop input with its configuration, corrected by skew and COMPENSATION (R227, R238, R239). -/
def stopStamp (g : TdcCfg) (i : TdcInput) (s : State) : TdcStamp :=
  { stamp := (stampNow s : Int) - i.skew - g.compensation, epoch := s.time.stepEpoch, uncal := !i.calOk }

/-- An edge of the selected polarity on the stop input of an enabled INTERVAL channel without an owner (R227, R228). -/
theorem tdcEdge_stop {c t : Nat} {pulse : EdgePulse} {s x : State} {i : TdcInput} {g : TdcCfg} (hx : begin_ t s = x) (hrun : running x = true)
    (hc : c < 8) (hi : x.tdc.inputs[c + 1]? = some i) (ho : (chanOf x c).owner = none) (hg : nth x.work.tdc (c + 1) = g)
    (hOn : g.enable = true) (hMode : g.mode = 0) (hEdge : pulse.rising = true ↔ g.edge = 0) :
    tdcEdge (c + 1) t pulse s =
      if (tooSoon i x.now || (g.glitchNs != 0 && decide (pulse.width < g.glitchNs * 1000))) = true then raise 7 2 (overrun c x)
      else if (!takesPart (edgeStamped (c + 1) x) c (stopStamp g i x)) = true then edgeStamped (c + 1) x
      else takeStop c (stopStamp g i x) (edgeStamped (c + 1) x) := by
  have hCfg : chanCfg x c = g := (chanCfg_of_free ho).trans hg
  have hPolarity : (pulse.rising != (g.edge == 0)) = false := by
    rw [bne_eq_false_iff_eq, Bool.eq_iff_iff, beq_iff_eq]
    exact hEdge
  have hTakes : ¬ (!running x || decide (c + 1 > 8) || !(g.enable || (decide (c + 1 ≥ 1) && (chanOf x c).owner.isSome)) ||
      pulse.rising != (g.edge == 0)) = true := by
    rw [hrun, hOn, hPolarity, decide_eq_false (Nat.not_lt.mpr (Nat.succ_le_of_lt hc)), Bool.true_or]
    decide
  unfold tdcEdge
  dsimp only
  rw [hx, if_neg (Nat.succ_ne_zero c), Nat.add_sub_cancel, hCfg, if_neg hTakes, if_neg (Nat.succ_ne_zero c), nth_of_get hi]
  simp only [List.foldl_cons, List.foldl_nil, if_neg (Nat.succ_ne_zero c), if_pos hMode]
  rfl

/-- No start stands: a stop waits (R229). -/
theorem takeStop_waits {c : Nat} {p : TdcStamp} {s : State} (hs : (chanOf s c).starts = []) :
    takeStop c p s = updChan c (fun h => { h with stops := h.stops ++ [p] }) s := by
  unfold takeStop
  dsimp only
  rw [hs]
  rfl

/-- One start stands, less than half a second before a stop: they are a pair (R229). -/
theorem takeStop_pairs {c : Nat} {a p : TdcStamp} {s : State} (hs : (chanOf s c).starts = [a]) (hBefore : a.stamp ≤ p.stamp)
    (hNear : p.stamp - a.stamp < halfSec) : takeStop c p s = pairUp c p a s := by
  have hFound : startBefore [a] p.stamp = some a := List.find?_cons_of_pos (decide_eq_true hBefore)
  unfold takeStop
  dsimp only
  rw [hs, hFound]
  dsimp only
  rw [if_pos hNear]

/-- A pair with no step between its two edges gives a result (R230, R231). -/
theorem pairUp_sameEpoch {c : Nat} {a p : TdcStamp} {s : State} (he : a.epoch = p.epoch) :
    pairUp c p a s = addResult c (intervalOf p a) p.stamp (p.uncal || a.uncal) s :=
  if_neg (by rw [he]; simp)

/-! ### Waiting stops and gates -/

theorem tdc_moveToCounter (target : Nat) (s : State) : (moveToCounter target s).tdc = s.tdc := moveTo_tdc _ s
theorem tdcOrphan_next {c : Nat} {s : State} {p : TdcStamp} {rest : List TdcStamp} (hs : (chanOf s c).stops = p :: rest) :
    tdcOrphan c s = orphan c (updChan c (fun h => { h with stops := rest }) (moveToCounter ((p.stamp + halfSec).toNat * 2 ^ 32) s)) := by
  unfold tdcOrphan
  rw [hs]

/-- A gate opens on a channel: no other state changes, and the next edges are counted in it (R237). -/
theorem gateAt_onChan {c : Nat} {g : TdcChan → TdcChan} {y z : State} {h : TdcChan} (hz : plain z = plain (updChan c g y))
    (hc : y.tdc.chans[c]? = some h) (ho : (g h).owner = h.owner) (start : Nat) (edges : List (Nat × Int)) (uncal : Bool) :
    let t := gateAt c start edges uncal z
    plain t = plain { y with tdc := { y.tdc with chans := t.tdc.chans } } ∧
    chanOf t c = { g h with gateStart := start, gateEnd := start + gateLen (chanCfg y c).gate, gateEpoch := y.time.stepEpoch, edges := edges
                            gateUncal := uncal, late := [], lateUncal := false } := by
  have hChan : chanOf z c = g h := (chanOf_of_plain c hz).trans (chanOf_updChan g hc)
  have hCfg : chanCfg z c = chanCfg y c := chanCfg_congr (by rw [hChan, ho, chanOf_of_get hc]) ((work_of_plain hz).trans rfl)
  have hTime : z.time = y.time := (time_of_plain hz).trans rfl
  have hlen : c < z.tdc.chans.length := by
    rw [tdc_of_plain hz]
    exact lt_of_lt_of_eq (lt_length_of_get hc) (upd_length _ c g).symm
  intro t
  refine ⟨plain_chansOnly (updChan_after _ hz), ?_⟩
  rw [show chanOf t c = _ from nth_upd_self _ hlen, ← chanOf, hChan, hCfg, hTime]

/-- The first boundary of gates from now on is not before the present value, and less than a gate after it. -/
theorem ceilDiv_mul_bounds (a : Nat) {b : Nat} (hb : 0 < b) : a ≤ ceilDiv a b * b ∧ ceilDiv a b * b < a + b := by
  have hSplit := Nat.div_add_mod (a + b - 1) b
  have hRest := Nat.mod_lt (a + b - 1) hb
  rw [Nat.mul_comm] at hSplit
  unfold ceilDiv
  omega

/-- The end of a gate without a step counts an orphan, or gives a result (R237). -/
def gateResult (c : Nat) (s : State) : State :=
  if (chanOf s c).edges.length < 2 then orphan c s
  else addResult c (fitFreq (chanCfg s c) (chanOf s c).edges) (chanOf s c).gateEnd (chanOf s c).gateUncal s

theorem gateResult_onChan (c : Nat) (s : State) : ∃ g,
    plain (gateResult c s) = plain (updChan c g s) ∧ (∀ h, (g h).owner = h.owner) ∧
    ((chanOf s c).edges.length < 2 → g = orphaned ∧ causeStands 7 3 (gateResult c s)) ∧
    (2 ≤ (chanOf s c).edges.length → (chanOf s c).block.count + 1 < (chanOf s c).n → ∀ h, (g h).block =
      blockAdd (chanOf s c).block (fitFreq (chanCfg s c) (chanOf s c).edges) (chanOf s c).gateEnd (chanOf s c).gateUncal) := by
  unfold gateResult
  split
  case isTrue hFew =>
    exact ⟨orphaned, plain_orphan c s, fun _ => rfl, fun _ => ⟨rfl, stands_orphan c s⟩, fun h => absurd hFew (Nat.not_lt.mpr h)⟩
  case isFalse hMany =>
    obtain ⟨g, hg, hOwner, hBlock⟩ := addResult_onChan c (fitFreq (chanCfg s c) (chanOf s c).edges) (chanOf s c).gateEnd (chanOf s c).gateUncal s
    exact ⟨g, hg, hOwner, fun h => absurd h hMany, fun _ => hBlock⟩

theorem gateStepped_iff {s : State} {c : Nat} (hb : (chanCfg s c).basis = 0) :
    gateStepped s c = true ↔ (chanOf s c).gateEpoch ≠ s.time.stepEpoch := by
  rw [gateStepped, hb]
  exact bne_iff_ne

/-- The instant at which TDC_GATE_END acts: the end of the gate on the counter, or at once where the counter has stepped (R237). -/
def atGateEnd (c : Nat) (s : State) : State :=
  if (chanOf s c).gateEpoch = s.time.stepEpoch then moveToCounter ((chanOf s c).gateEnd * 2 ^ 32) s else s

theorem atGateEnd_keeps (c : Nat) (s : State) : (atGateEnd c s).tdc = s.tdc ∧ (atGateEnd c s).work = s.work ∧
    (atGateEnd c s).time.stepEpoch = s.time.stepEpoch := by
  unfold atGateEnd
  split
  · obtain ⟨k, r, a, l, hTime⟩ := moveTo_time (tickAfter (ticksTo ((chanOf s c).gateEnd * 2 ^ 32) s) s) s
    exact ⟨moveTo_tdc _ s, moveTo_work _ s, (congrArg TimePart.stepEpoch hTime :)⟩
  · exact ⟨rfl, rfl, rfl⟩

theorem tdcGateEnd_of {c : Nat} {s : State} (hs : (chanOf s c).state = .armed) (hm : (chanCfg s c).mode = 1) (hb : (chanCfg s c).basis = 0) :
    tdcGateEnd c s = gateEnds c (atGateEnd c s) := by
  have hOn : ¬ ((chanOf s c).state != .armed || (chanCfg s c).mode != 1) = true := by
    rw [hs, hm]
    decide
  unfold tdcGateEnd
  dsimp only
  rw [if_neg hOn, if_pos hb, atGateEnd]
  by_cases he : (chanOf s c).gateEpoch = s.time.stepEpoch
  · rw [if_pos he, if_neg (mt (gateStepped_iff hb).mp (not_not.mpr he))]
  · rw [if_neg he, if_pos ((gateStepped_iff hb).mpr he)]

/-- A gate that no step has spoilt ends, and the next one opens at its end with the edges that came after it (R237). -/
theorem gateEnds_result {c : Nat} {y : State} {h : TdcChan} (hc : y.tdc.chans[c]? = some h) (hb : (chanCfg y c).basis = 0)
    (he : h.gateEpoch = y.time.stepEpoch) :
    let t := gateEnds c y
    let k := chanOf t c
    k.gateStart = h.gateEnd ∧ k.gateEnd = k.gateStart + gateLen (chanCfg y c).gate ∧ k.edges = h.late ∧
    (h.edges.length < 2 → k.orphans = (h.orphans + 1) % 2 ^ 32 ∧ k.block = h.block ∧ causeStands 7 3 t) ∧
    (2 ≤ h.edges.length → h.block.count + 1 < h.n → k.block = blockAdd h.block (fitFreq (chanCfg y c) h.edges) h.gateEnd h.gateUncal) ∧
    plain t = plain { y with tdc := { y.tdc with chans := t.tdc.chans } } := by
  have hChan := chanOf_of_get hc
  have hEnds : gateEnds c y = gateAt c h.gateEnd h.late h.lateUncal (gateResult c y) := by
    rw [← hChan]
    exact if_neg (mt (gateStepped_iff hb).mp (not_not.mpr (hChan ▸ he)))
  obtain ⟨f, hf, hOwner, hFew, hMany⟩ := gateResult_onChan c y
  obtain ⟨hFrame, hNew⟩ := gateAt_onChan hf hc (hOwner h) h.gateEnd h.late h.lateUncal
  rw [hChan] at hFew hMany
  dsimp only
  rw [hEnds, hNew]
  refine ⟨rfl, rfl, rfl, fun hlt => ?_, fun hge hRoom => hMany hge hRoom h, hFrame⟩
  obtain ⟨rfl, hStands⟩ := hFew hlt
  exact ⟨rfl, rfl, stands_host rfl hStands⟩

/-- A gate that a step has spoilt is discarded, and the next one opens at the first boundary of the counter (R237). -/
theorem gateEnds_stepped {c : Nat} {y : State} {h : TdcChan} (hc : y.tdc.chans[c]? = some h) (hb : (chanCfg y c).basis = 0)
    (he : h.gateEpoch ≠ y.time.stepEpoch) :
    let t := gateEnds c y
    let k := chanOf t c
    let len := gateLen (chanCfg y c).gate
    k.gateStart = ceilDiv (curTs y) len * len ∧ k.gateEnd = k.gateStart + len ∧ k.edges = [] ∧
    k.stepDiscards = (h.stepDiscards + 1) % 2 ^ 32 ∧ k.block = h.block ∧ causeStands 7 4 t ∧
    plain t = plain { y with tdc := { y.tdc with chans := t.tdc.chans } } := by
  intro t k len
  have hz := plain_stepDiscard c y
  have hChan : chanOf (stepDiscard c y) c = stepSpoilt h := (chanOf_of_plain c hz).trans (chanOf_updChan stepSpoilt hc)
  have hCfg : chanCfg (stepDiscard c y) c = chanCfg y c :=
    chanCfg_congr (by rw [hChan, chanOf_of_get hc]; rfl) ((work_of_plain hz).trans rfl)
  have hNow : basisNow (stepDiscard c y) (chanCfg y c) = curTs y :=
    (if_pos hb).trans (congrArg (fun t : TimePart => t.counter.total / 2 ^ 32) ((time_of_plain hz).trans rfl))
  have hEnds : t = gateAt c (ceilDiv (curTs y) len * len) [] false (stepDiscard c y) := by
    refine (if_pos ((gateStepped_iff hb).mpr (chanOf_of_get hc ▸ he))).trans ?_
    rw [openGate, hCfg, hNow]
  obtain ⟨hFrame, hNew⟩ := gateAt_onChan hz hc rfl (ceilDiv (curTs y) len * len) [] false
  rw [show k = chanOf t c from rfl, hEnds, hNew]
  exact ⟨rfl, rfl, rfl, rfl, rfl, stands_host rfl (stands_stepDiscard c y), hFrame⟩

/-! ### Arming on time -/

/-- A channel starts to measure: it is armed from the instant given, and only a FREQUENCY channel opens a gate (R233, R237). -/
theorem armNow_facts {c : Nat} {y : State} {h : TdcChan} (from_ : Int) (hc : y.tdc.chans[c]? = some h) :
    (chanOf (armNow c from_ y) c).state = .armed ∧ (chanOf (armNow c from_ y) c).armedFrom = from_ ∧
    ((chanCfg y c).mode ≠ 1 →
      armNow c from_ y = { y with tdc := { y.tdc with chans := y.tdc.chans.set c { h with state := .armed, armedFrom := from_ } } }) := by
  let f : TdcChan → TdcChan := fun h => { h with state := .armed, armedFrom := from_ }
  have hChan := chanOf_updChan f hc
  have hCfg : chanCfg (updChan c f y) c = chanCfg y c := chanCfg_congr (by rw [hChan, chanOf_of_get hc]) rfl
  have hArm : armNow c from_ y = if (chanCfg y c).mode = 1 then openGate c (updChan c f y) else updChan c f y := by
    rw [← hCfg]
    rfl
  rw [hArm]
  split
  case isTrue hMode =>
    rw [openGate, (gateAt_onChan (g := f) (z := updChan c f y) rfl hc rfl _ [] false).2]
    exact ⟨rfl, rfl, fun hne => absurd hMode hne⟩
  case isFalse =>
    rw [hChan]
    exact ⟨rfl, rfl, fun _ => updChan_of_get f hc⟩

theorem tdcArmStart_waiting {c : Nat} {s : State} (hw : (chanOf s c).state = .waiting) :
    tdcArmStart c s = armNow c (chanOf s c).startAt (moveToCounter ((chanOf s c).startAt * 2 ^ 32) s) :=
  if_neg (by rw [hw]; decide)

/-! ### Calibration -/

/-- The calibration of an input that had it is lost (R238). -/
theorem tdcCalLost_of_get {inp : Nat} {s : State} {i : TdcInput} (hi : s.tdc.inputs[inp]? = some i) (hOk : i.calOk = true) :
    tdcCalLost inp s = raise 7 6 { s with tdc := { s.tdc with inputs := s.tdc.inputs.set inp { i with calOk := false } } } := by
  unfold tdcCalLost
  rw [nth_of_get hi, if_pos hOk, upd_of_get hi]
/-- The skew calibration that runs ends with the measured skews (R239). -/
theorem tdcCalDone_of {skews : List Int} {s : State} (hc : s.tdc.calibrating = true) : tdcCalDone skews s =
    raise 7 5 { s with tdc := { s.tdc with inputs := withSkews s.tdc.inputs skews, calibrating := false, calibrated := true } } := if_pos hc
theorem get_withSkews {l : List TdcInput} {n : Nat} {i : TdcInput} (skews : List Int) (h : l[n]? = some i) :
    (withSkews l skews)[n]? = some { i with skew := skews.getD n 0 } := by
  rw [withSkews, List.getElem?_map, List.getElem?_zipIdx, h]
  simp

/-! ### The rows -/

/-- Settles O31, row by row: each row's equation on its case, and what it leaves of the channel. -/
theorem tdcMeasures : Obligations.TdcMeasures := by
  unfold Obligations.TdcMeasures
  refine ⟨?edge, ?armStart, ?orphan, ?gateEnd, ?calLost, ?calDone⟩
  case edge =>
    intro c t pulse s h i x g p is with_ hrun hc hh hi ho hOn hMode hEdge
    have hChan : chanOf x c = h := chanOf_of_get hh
    have hrow := tdcEdge_stop (t := t) (s := s) (x := x) rfl hrun hc hi (by rw [hChan]; exact ho) (g := g) rfl hOn hMode hEdge
    refine ⟨fun hSoon => ?_, fun hApart hGlitch hArmed hFrom => ?_⟩
    · rw [if_pos (Bool.or_eq_true_iff.mpr (Or.inl (tooSoon_iff.mpr hSoon)))] at hrow
      refine ⟨_, congrArg Outcome.next hrow, stands_raise_self 7 2 _ (by decide), ?_⟩
      rw [plain_raise, overrun, updChan_of_get _ hh]
    · have hTaken : ¬ (tooSoon i x.now || (g.glitchNs != 0 && decide (pulse.width < g.glitchNs * 1000))) = true := by
        rw [Bool.or_eq_true, tooSoon_iff, Bool.and_eq_true, bne_iff_ne, decide_eq_true_iff]
        rintro (⟨l, hl, hSoon⟩ | ⟨hne, hShort⟩)
        · exact absurd hSoon (Nat.not_lt.mpr (hApart l hl))
        · omega
      let z := edgeStamped (c + 1) x
      have hzh : z.tdc.chans[c]? = some h := hh
      have hzChan : chanOf z c = h := hChan
      have hPart : ¬ (!takesPart z c p) = true := by
        rw [takesPart, hzChan, hArmed, decide_eq_true hFrom]
        decide
      have hz : z = { x with tdc := { x.tdc with inputs := is } } := edgeStamped_of_get hi
      replace hrow := hrow.trans ((if_neg hTaken).trans (if_neg hPart))
      refine ⟨fun hStarts => ?_, fun a v hStarts hEpoch hBefore hNear hv hRaw hRoom => ?_⟩
      · refine ⟨_, congrArg Outcome.next (hrow.trans (takeStop_waits (by rw [hzChan]; exact hStarts))), ?_⟩
        rw [updChan_of_get _ hzh, hz]
        rfl
      · have hPair : takeStop c p z = addResult c v p.stamp (p.uncal || a.uncal) z := by
          rw [takeStop_pairs (by rw [hzChan]; exact hStarts) hBefore hNear, pairUp_sameEpoch hEpoch, hv]
          rfl
        refine ⟨_, congrArg Outcome.next (hrow.trans hPair), ?_, rfl, rfl⟩
        rw [addResult_enters (by rw [hzChan]; exact hRaw) (by rw [hzChan]; exact hRoom), hzChan, updChan_of_get _ hzh, hz]
  case armStart =>
    intro c s h hrun hh hState y
    have hy : y.tdc.chans[c]? = some h := (congrArg (fun d : TdcRun => d.chans[c]?) (tdc_moveToCounter _ _)).trans hh
    have hChan : chanOf { s with out := [] } c = h := chanOf_of_get hh
    have hStart := tdcArmStart_waiting (c := c) (s := { s with out := [] }) (by rw [hChan]; exact hState)
    rw [hChan] at hStart
    have hCfg : chanCfg y c = chanCfg s c := chanCfg_congr (by rw [chanOf_of_get hy, chanOf_of_get hh]) (moveTo_work _ _)
    obtain ⟨hArmed, hFrom, hOnly⟩ := armNow_facts (h.startAt : Int) hy
    exact ⟨_, (next_whileRunning hrun (tdcArmStart c)).trans (congrArg Outcome.next hStart), hArmed, hFrom,
      fun hm => hOnly (by rw [hCfg]; exact hm)⟩
  case orphan =>
    intro c s h p rest hrun hh hStops y
    have hy : y.tdc.chans[c]? = some h := (congrArg (fun d : TdcRun => d.chans[c]?) (tdc_moveToCounter _ _)).trans hh
    have hChan : chanOf { s with out := [] } c = h := chanOf_of_get hh
    have hNext := tdcOrphan_next (c := c) (s := { s with out := [] }) (by rw [hChan]; exact hStops)
    refine ⟨_, (next_whileRunning hrun (tdcOrphan c)).trans (congrArg Outcome.next hNext), stands_orphan c _, ?_⟩
    rw [plain_orphan, updChan_updChan, updChan_of_get _ hy]
    rfl
  case gateEnd =>
    intro c s h hrun hh hArmed hMode hBasis g y
    have hChan : chanOf s c = h := chanOf_of_get hh
    have hy : atGateEnd c { s with out := [] } = y := by
      unfold atGateEnd
      rw [show chanOf { s with out := [] } c = h from hChan]
    have hrow := (next_whileRunning hrun (tdcGateEnd c)).trans
      (congrArg Outcome.next (tdcGateEnd_of (s := { s with out := [] }) (by rw [← hArmed, ← hChan]; rfl) hMode hBasis))
    rw [hy] at hrow
    obtain ⟨hTdc, hWork, hEpoch⟩ := atGateEnd_keeps c { s with out := [] }
    rw [hy] at hTdc hWork hEpoch
    have hyh : y.tdc.chans[c]? = some h := (congrArg (fun d : TdcRun => d.chans[c]?) hTdc).trans hh
    have hCfg : chanCfg y c = g := chanCfg_congr (by rw [chanOf_of_get hyh, hChan]) hWork
    refine ⟨_, hrow, ?_⟩
    by_cases he : h.gateEpoch = s.time.stepEpoch
    · obtain ⟨hFrom, hEnd, hLate, hFew, hMany, hFrame⟩ := gateEnds_result hyh (by rw [hCfg]; exact hBasis) (he.trans hEpoch.symm)
      rw [hCfg] at hEnd hMany
      exact ⟨⟨hEnd, fun _ => ⟨hFrom, hLate⟩, fun hne => absurd he hne, fun _ => hFew, fun _ => hMany⟩, hFrame⟩
    · obtain ⟨hFrom, hEnd, hEdges, hSteps, hBlock, hStands, hFrame⟩ :=
        gateEnds_stepped hyh (by rw [hCfg]; exact hBasis) (fun h0 => he (h0.trans hEpoch))
      rw [hCfg] at hFrom hEnd
      obtain ⟨hAfter, hBelow⟩ := ceilDiv_mul_bounds (curTs y) (b := gateLen g.gate) (by unfold gateLen; positivity)
      rw [← hFrom] at hAfter hBelow
      exact ⟨⟨hEnd, fun h0 => absurd h0 he, fun _ => ⟨hEdges, hAfter, hBelow, hSteps, hBlock, hStands⟩, fun h0 => absurd h0 he,
        fun h0 => absurd h0 he⟩, hFrame⟩
  case calLost =>
    intro inp t s i hrun x hi hOk
    exact ⟨_, (next_begin hrun (tdcCalLost inp)).trans (congrArg Outcome.next (tdcCalLost_of_get hi hOk)),
      stands_raise_self 7 6 _ (by decide), plain_raise 7 6 _⟩
  case calDone =>
    intro t skews s hrun x hCal
    refine ⟨_, (next_begin hrun (tdcCalDone skews)).trans (congrArg Outcome.next (tdcCalDone_of hCal)),
      stands_raise_self 7 5 _ (by decide), fun n i hi => ?_, ?_⟩
    · rw [raise_tdc]
      exact get_withSkews skews hi
    · rw [plain_raise, raise_tdc]

end Sys2Proof.Machine
end
section
/-! PROOFS. One port of the list, and steps that leave every port as it is (R253, R265). -/
namespace Sys2Proof.Machine
open Sys2Proof Host

/-! ### One port of the list -/

theorem portOf_of_get {s : State} {p : Nat} {r : PortRun} (h : s.ports[p]? = some r) : portOf s p = r := nth_of_get h
theorem portOf_of_ports {s t : State} (h : t.ports = s.ports) (p : Nat) : portOf t p = portOf s p := congrArg (fun l => nth l p) h
theorem updPort_of_get {s : State} {p : Nat} {r : PortRun} (f : PortRun → PortRun) (h : s.ports[p]? = some r) :
    updPort p f s = { s with ports := s.ports.set p (f r) } :=
  congrArg (fun l => { s with ports := l }) (upd_of_get h)
theorem ports_updPort_of_get {s : State} {p : Nat} {r : PortRun} (f : PortRun → PortRun) (h : s.ports[p]? = some r) :
    (updPort p f s).ports = s.ports.set p (f r) := upd_of_get h
theorem get_updPort {s : State} {p : Nat} {r : PortRun} (f : PortRun → PortRun) (h : s.ports[p]? = some r) :
    (updPort p f s).ports[p]? = some (f r) := by
  rw [updPort_ports, upd_get, if_pos rfl, h]
  rfl
theorem updPort_updPort (p : Nat) (f g : PortRun → PortRun) (s : State) : updPort p f (updPort p g s) = updPort p (f ∘ g) s :=
  congrArg (fun l => { s with ports := l }) (List.modify_modify_eq g f p _)
/-- A change of a port after steps that leave the ports alone is a change of the port as it was. -/
theorem ports_updPort_congr {s t : State} (h : t.ports = s.ports) (p : Nat) (f : PortRun → PortRun) :
    (updPort p f t).ports = (updPort p f s).ports := congrArg (fun l => upd l p f) h
theorem plain_updPort (p : Nat) (f : PortRun → PortRun) (s : State) : plain (updPort p f s) = updPort p f (plain s) := rfl

/-! ### Steps that leave every port as it is -/

/-- `t` comes after `s` on one step: its outputs and causes stay, and every port is as it was. -/
def portsStay (s t : State) : Prop := follows s t ∧ t.ports = s.ports

theorem portsStay_refl (s : State) : portsStay s s := ⟨follows_refl s, rfl⟩
theorem portsStay_trans {r s t : State} (h : portsStay s t) (g : portsStay r s) : portsStay r t :=
  ⟨follows_trans h.1 g.1, h.2.trans g.2⟩
theorem portsStay_same {r s t : State} (h : portsStay r s) (ho : t.out = s.out) (hc : t.host.cause = s.host.cause) (hp : t.ports = s.ports) :
    portsStay r t := ⟨follows_same h.1 ho hc, hp.trans h.2⟩
theorem portsStay_ite {c : Prop} [Decidable c] {r s t : State} (hs : portsStay r s) (ht : portsStay r t) : portsStay r (if c then s else t) := by
  split
  · exact hs
  · exact ht
theorem portsStay_foldl {α : Type} (f : State → α → State) (hf : ∀ s a, portsStay s (f s a)) (l : List α) {r s : State} (h : portsStay r s) :
    portsStay r (l.foldl f s) := by
  induction l generalizing s with
  | nil => exact h
  | cons a l ih => exact ih (portsStay_trans (hf s a) h)
theorem portsStay_emit (o : Output) {r s : State} (h : portsStay r s) : portsStay r (emit o s) := ⟨follows_emit o h.1, h.2⟩
theorem portsStay_raiseIdx (c b i : Nat) {r s : State} (h : portsStay r s) : portsStay r (raiseIdx c b i s) :=
  ⟨follows_raiseIdx c b i h.1, (raiseIdx_ports c b i s).trans h.2⟩
theorem portsStay_raise (c b : Nat) {r s : State} (h : portsStay r s) : portsStay r (raise c b s) := portsStay_raiseIdx c b 0 h
theorem portsStay_updRing (k : Nat) (f : Ring → Ring) {r s : State} (h : portsStay r s) : portsStay r (updRing k f s) :=
  portsStay_same h rfl rfl rfl
theorem portsStay_ringEvent (k : Nat) {r s : State} (h : portsStay r s) : portsStay r (ringEvent k s) :=
  ⟨follows_ringEvent k h.1, (ports_of_plain (plain_base (base_ringEvent k s))).trans h.2⟩

/-! ### Cells, and what the host is told of a frame -/

theorem plain_portCount (p j : Nat) (s : State) : plain (portCount p j s) = plain s := by
  simp only [portCount, plain_ite, plain_occur, plain_noteRate, plain_bump, ite_self]
theorem portsStay_portCount (p j : Nat) {r s : State} (h : portsStay r s) : portsStay r (portCount p j s) :=
  ⟨follows_trans (counted_portCount p j (counted_refl s)).1 h.1, (ports_of_plain (plain_portCount p j s)).trans h.2⟩
theorem portsStay_shedCheck {r s : State} (h : portsStay r s) : portsStay r (shedCheck s) := by
  have hShed : portsStay r (if sharedFree s < s.work.svc.shedFree && !s.svc.shedding then raise 9 4 { s with svc := { s.svc with shedding := true } } else s) :=
    portsStay_ite (portsStay_raise 9 4 (portsStay_same h rfl rfl rfl)) h
  exact portsStay_same hShed rfl rfl rfl
theorem portsStay_takeCells (u : Suit) (n : Nat) {r s : State} (h : portsStay r s) : portsStay r (takeCells u n s) :=
  portsStay_shedCheck (portsStay_same h rfl rfl rfl)
theorem portsStay_releaseFrame (f : TxFrame) {r s : State} (h : portsStay r s) : portsStay r (releaseFrame f s) := by
  unfold releaseFrame
  split
  · exact portsStay_shedCheck (portsStay_same h rfl rfl rfl)
  · exact portsStay_shedCheck (portsStay_same h rfl rfl rfl)
theorem portsStay_suitCount (u : Suit) (k : Nat) {r s : State} (h : portsStay r s) : portsStay r (suitCount u k s) := portsStay_same h rfl rfl rfl
theorem portsStay_receiptGone (k : Kind) {r s : State} (h : portsStay r s) : portsStay r (receiptGone k s) :=
  portsStay_ite (portsStay_same h rfl rfl rfl) h
theorem portsStay_tsqWrite (p k first : Nat) (late dropped : Bool) (stamp : Nat) {r s : State} (h : portsStay r s) :
    portsStay r (tsqWrite p k first late dropped stamp s) := by
  unfold tsqWrite
  dsimp only
  refine portsStay_ite h (portsStay_ite ?_ ?_)
  · exact portsStay_raise 0 6 (portsStay_same h rfl rfl rfl)
  · exact portsStay_ringEvent k (portsStay_updRing k _ (portsStay_emit _ h))
theorem portsStay_hostDone (p k first last : Nat) (report late : Bool) (outcome stamp : Nat) {r s : State} (h : portsStay r s) :
    portsStay r (hostDone p k first last report late outcome stamp s) := by
  have hTsq : portsStay r (if report then tsqWrite p k first late (decide (outcome ≥ 2)) stamp s else s) :=
    portsStay_ite (portsStay_tsqWrite _ _ _ _ _ _ h) h
  have hLate := portsStay_ite (c := outcome = 2) (portsStay_updRing k (fun g => { g with lateDrops := add48 g.lateDrops 1 }) hTsq) hTsq
  unfold hostDone
  exact portsStay_ite hLate (portsStay_ringEvent k (portsStay_updRing k _ (portsStay_emit _ hLate)))
/-- A frame that is discarded frees its cells, is counted, and is reported (R265, R295). -/
theorem portsStay_linkDrop (p : Nat) (f : TxFrame) {r s : State} (h : portsStay r s) : portsStay r (linkDrop p s f) := by
  have hFreed := portsStay_releaseFrame f (portsStay_portCount p 6 h)
  unfold linkDrop
  dsimp only
  split
  · exact portsStay_receiptGone _ (portsStay_suitCount _ 13 hFreed)
  · exact portsStay_suitCount _ 13 hFreed
  · exact portsStay_hostDone _ _ _ _ _ _ _ _ hFreed
  · exact hFreed

/-! ### Replies, the bound, advertisements and bindings -/

theorem portsStay_finishWait (k : WaitKey) (st d : Nat) (data : Bytes) {r s : State} (h : portsStay r s) : portsStay r (finishWait k st d data s) :=
  ⟨follows_finishWait k st d data h.1,
    ((of_replied (·.ports) (fun _ => rfl) (fun _ _ _ _ _ => rfl) (repliedFrom_finishWait k st d data s)).trans rfl).trans h.2⟩
theorem portsStay_settleBound {r s : State} (h : portsStay r s) : portsStay r (settleBound s) :=
  ⟨follows_settleBound h.1, ((ports_of_plain (settleBound_frame s)).trans rfl).trans h.2⟩
theorem portsStay_raiseStamps (p : Nat) {r s : State} (h : portsStay r s) : portsStay r (raiseStamps p s) := by
  unfold raiseStamps
  split
  · exact h
  · exact portsStay_same h rfl rfl rfl
theorem portsStay_advertise (p : Nat) {r s : State} (h : portsStay r s) : portsStay r (advertise p s) :=
  portsStay_ite (portsStay_emit _ h) h
theorem portsStay_setBindState (i p : Nat) (st : PtpState) {r s : State} (h : portsStay r s) : portsStay r (setBindState i p st s) :=
  portsStay_ite h (portsStay_raiseIdx 10 0 i (portsStay_same h rfl rfl rfl))
/-- The bindings of a port that start change the bindings alone (R311). -/
theorem portsStay_startBind (i p : Nat) {r s : State} (h : portsStay r s) : portsStay r (startBind i p s) := by
  unfold startBind
  split
  · have hSet : ∀ st, portsStay r (setBindState i p st (updBind i p (fun b => { b with announceAt := s.now }) s)) := fun st =>
      portsStay_setBindState i p st (portsStay_same h rfl rfl rfl)
    exact portsStay_ite h (portsStay_ite (portsStay_same (hSet _) rfl rfl rfl) (hSet _))
  · exact h
theorem portsStay_startPort (p : Nat) {r s : State} (h : portsStay r s) : portsStay r (startPort p s) :=
  portsStay_foldl (fun s (b : BindCfg) => startBind b.inst p s) (fun x b => portsStay_startBind b.inst p (portsStay_refl x)) _ h

/-! ### A check of a source, and a new choice of the selectors -/

theorem offChoice_ports (s : State) : (offChoice s).ports = s.ports := rfl
theorem ports_evalAll (s : State) : (evalAll s).ports = s.ports := by
  rw [← offChoice_ports, offChoice_evalAll, offChoice_ports]
theorem portsStay_evalAll {r s : State} (h : portsStay r s) : portsStay r (evalAll s) := ⟨follows_newChoice h.1, (ports_evalAll s).trans h.2⟩
theorem ports_causeTaken (o cause : Nat) (s : State) : (causeTaken o cause s).ports = s.ports := by
  have hHeld : (holdClockFails o (updRef o (fun r => { r with cause := cause }) s)).ports = s.ports := by
    unfold holdClockFails
    split <;> rfl
  have hNew : (if newlyFails (refOf s o).cause cause then holdClockFails o (updRef o (fun r => { r with cause := cause }) s)
      else updRef o (fun r => { r with cause := cause }) s).ports = s.ports := by
    split
    · exact hHeld
    · rfl
  unfold causeTaken staleMember
  split <;> exact hNew
theorem ports_applyCause (o cause : Nat) (s : State) : (applyCause o cause s).ports = s.ports := by
  obtain ⟨f, e | e | e⟩ := applyCause_cases o cause s
  · rw [e, ports_causeTaken]
  · rw [e, updRef_ports, ports_causeTaken]
  · rw [e, refEvent, ports_of_plain (plain_raiseIdx 3 0 o _), updRef_ports, updRef_ports, ports_causeTaken]
theorem portsStay_setCheck (o k : Nat) (fails : Bool) {r s : State} (h : portsStay r s) : portsStay r (setCheck o k fails s) :=
  portsStay_ite h ⟨follows_applyCause _ _ h.1, (ports_applyCause _ _ s).trans h.2⟩

end Sys2Proof.Machine
end
section
/-! PROOFS. Pause, priority flow control and bandwidth windows (R267 to R270, R275, R294). -/
namespace Sys2Proof.Machine
open Sys2Proof Host

/-! ### Received pause -/

theorem upd_const {α : Type} (l : List α) (i : Nat) (a : α) : upd l i (fun _ => a) = l.set i a := by
  refine List.ext_getElem? fun j => ?_
  rw [upd_get, List.getElem?_set']
  rfl
theorem isPaused_of_get {s : State} {p : Nat} {r : PortRun} (hp : s.ports[p]? = some r) (k : Nat) :
    isPaused s p k = (r.pausedUntil.getD k none).isSome := by rw [isPaused, portOf_of_get hp]

/-- A priority that is paused is released, and its paused time counted (R267, R268). -/
theorem releasePrio_paused {s : State} {p k : Nat} {r : PortRun} (hp : s.ports[p]? = some r) (hk : isPaused s p k = true) :
    releasePrio k s p = { s with ports := s.ports.set p { r with
      pausedUntil := r.pausedUntil.set k none, paused := upd r.paused k (· + (s.now - r.pausedSince.getD k 0)) } } := by
  rw [releasePrio, hk, if_neg (by decide), updPort_of_get _ hp, upd_const]
theorem releasePrio_free {s : State} {p k : Nat} (hk : isPaused s p k = false) : releasePrio k s p = s := by
  rw [releasePrio, hk, if_pos (by decide)]
/-- Paused or not before, a priority that is released is not paused. -/
theorem releasePrio_facts {s : State} {p k : Nat} {r : PortRun} (hp : s.ports[p]? = some r) (hk : k < r.pausedUntil.length) :
    releasePrio k s p = { s with ports := (releasePrio k s p).ports } ∧
    (portOf (releasePrio k s p) p).pausedUntil = r.pausedUntil.set k none ∧ (portOf (releasePrio k s p) p).pauses = r.pauses := by
  cases hPaused : isPaused s p k with
  | true =>
    have hPort := get_updPort (fun r => { r with
      pausedUntil := r.pausedUntil.set k none, paused := upd r.paused k (· + (s.now - r.pausedSince.getD k 0)) }) hp
    rw [ports_updPort_of_get _ hp] at hPort
    rw [releasePrio_paused hp hPaused, portOf_of_get hPort]
    exact ⟨rfl, rfl, rfl⟩
  | false =>
    have hNone : r.pausedUntil[k] = none := by
      rw [isPaused_of_get hp, List.getD_eq_getElem?_getD, List.getElem?_eq_getElem hk] at hPaused
      exact Option.not_isSome_iff_eq_none.mp (ne_true_of_eq_false hPaused)
    rw [releasePrio_free hPaused, portOf_of_get hp, ← hNone, List.set_getElem_self]
    exact ⟨rfl, rfl, rfl⟩

/-- A positive quanta count pauses the priority from now for that many quanta (R267). -/
theorem loadPause_pauses {s : State} {p k n : Nat} {r : PortRun} (hp : s.ports[p]? = some r) (hn : 0 < n) :
    loadPause p k n s = { s with ports := s.ports.set p { r with
      pausedUntil := r.pausedUntil.set k (some (s.now + n * quantumPs (portCfg s p).mode))
      pausedSince := if !isPaused s p k then upd r.pausedSince k (fun _ => s.now) else r.pausedSince } } := by
  rw [loadPause, if_neg (Nat.ne_of_gt hn), updPort_of_get _ hp, upd_const]
theorem loadPause_zero (p k : Nat) (s : State) : loadPause p k 0 s = releasePrio k s p := if_pos rfl

/-- The oldest pause received, for one priority, is taken off the list and loaded at its instant (R267). -/
theorem pauseEffect_loads {s : State} {p at_ k n : Nat} {r : PortRun} {rest : List (Nat × List (Nat × Nat))} (hp : s.ports[p]? = some r)
    (h : r.pauses = (at_, [(k, n)]) :: rest) :
    pauseEffect p s = loadPause p k n (updPort p (fun r => { r with pauses := rest }) (moveTo at_ s)) := by
  unfold pauseEffect
  rw [portOf_of_get hp, h]
  rfl
theorem pauseExpiry_releases {s : State} {p k e : Nat} {r : PortRun} (hp : s.ports[p]? = some r) (hk : r.pausedUntil[k]? = some (some e)) :
    pauseExpiry p k s = releasePrio k (moveTo e s) p := by
  unfold pauseExpiry
  rw [portOf_of_get hp, List.getD_eq_getElem?_getD, hk]
  rfl

/-! ### PFC frames -/

theorem countFrame_windows (p : Nat) (tx : Bool) (at_ len : Nat) (s : State) :
    ∃ g : List Window → List Window, countFrame p tx at_ len s = updPort p (fun r => { r with windows := g r.windows }) s := by
  let g (w : Nat) (l : List Window) : List Window := upd l w (countWindow (at_ / windowLen s p w) (len + 20))
  let first := if tx then 2 else 0
  exact ⟨g (first + 1) ∘ g first, updPort_updPort p (fun r => { r with windows := g (first + 1) r.windows })
    (fun r => { r with windows := g first r.windows }) s⟩

/-- A PFC frame goes out in a free span of the line; it enters the calendar, and the windows of its port count it (R269, R275, R294). -/
theorem sendPfc_facts {s : State} {p : Nat} {r : PortRun} (k n : Nat) (hp : s.ports[p]? = some r) (ht : txEnabled s p = true) :
    let t := sendPfc p k n s
    Output.pauseFrame p (pfcStart s p) (2 ^ k) n ∈ t.out ∧
    plain t = plain { s with ports := s.ports.set p { r with windows := (portOf t p).windows, calendar := pfcCalendar s p r } } := by
  obtain ⟨g, hg⟩ := countFrame_windows p true (((pfcStart s p + 8 * portByte s p : Nat) : Int) + delayPs (portCfg s p).txDelay).toNat 64
    (updPort p (fun r => { r with calendar := pfcCalendar s p r }) (portCount p 5 s))
  have hSend : sendPfc p k n s = emit (.pauseFrame p (pfcStart s p) (2 ^ k) n)
      (updPort p (fun r => { r with windows := g r.windows, calendar := pfcCalendar s p r }) (portCount p 5 s)) := by
    refine (if_neg (by rw [ht]; decide)).trans (congrArg (emit _) (hg.trans ?_))
    exact updPort_updPort p _ _ _
  have hPlain : plain (sendPfc p k n s) = plain { s with ports := s.ports.set p { r with windows := g r.windows, calendar := pfcCalendar s p r } } := by
    rw [hSend, plain_emit, plain_updPort, plain_portCount, ← plain_updPort, updPort_of_get _ hp]
  have hWindows : (portOf (sendPfc p k n s) p).windows = g r.windows := by
    have hGet := get_updPort (fun r => { r with windows := g r.windows, calendar := pfcCalendar s p r }) hp
    rw [ports_updPort_of_get _ hp] at hGet
    rw [portOf, ports_of_plain hPlain, nth_of_get hGet]
  dsimp only
  rw [hWindows]
  exact ⟨hSend ▸ mem_emit _ _, hPlain⟩

/-- What a PFC frame depends on is the same where a port's record of XOFF alone has changed. -/
theorem sendPfc_updPort {x : State} {p : Nat} {r : PortRun} (k n : Nat) (f : PortRun → PortRun)
    (hf : f r = { r with xoff := (f r).xoff, refresh := (f r).refresh }) (hp : x.ports[p]? = some r) (ht : txEnabled x p = true) :
    let t := sendPfc p k n (updPort p f x)
    Output.pauseFrame p (pfcStart x p) (2 ^ k) n ∈ t.out ∧
    plain t = plain { x with ports := x.ports.set p { f r with windows := (portOf t p).windows, calendar := pfcCalendar x p r } } := by
  have hPort := get_updPort f hp
  have hOf := portOf_of_get hPort
  have hTx : txEnabled (updPort p f x) p = true := by
    rw [← ht, txEnabled, txEnabled, hOf, portOf_of_get hp, hf]
    rfl
  have hStart : pfcStart (updPort p f x) p = pfcStart x p := by
    rw [pfcStart, pfcStart, committedSpans, committedSpans, hOf, portOf_of_get hp, hf]
    rfl
  have hCalendar : pfcCalendar (updPort p f x) p (f r) = pfcCalendar x p r := by
    rw [pfcCalendar, pfcCalendar, hStart, hf]
    rfl
  obtain ⟨hOut, hPlain⟩ := sendPfc_facts k n hPort hTx
  rw [hStart] at hOut
  rw [hCalendar, updPort_of_get f hp, List.set_set] at hPlain
  exact ⟨hOut, by rw [updPort_of_get f hp]; exact hPlain⟩

/-- Occupancy has reached XOFF on a priority that may be paused: an XOFF stands, and a PFC frame goes out (R269). -/
theorem pfcXoff_sends {s x : State} {p k t : Nat} {r : PortRun} (hx : x = begin_ t s) (hp : x.ports[p]? = some r) (hm : mayPause x p k = true)
    (hOff : r.xoff.testBit k = false) (hFull : (nth x.work.flows p).xoff.getD k 0 ≤ r.occupancy.getD k 0) (ht : txEnabled x p = true) :
    pfcXoff p k t s = sendPfc p k (nth x.work.flows p).quanta (updPort p (fun r => { r with
      xoff := setBit r.xoff k, refresh := upd r.refresh k (fun _ => refreshAt x p) }) x) := by
  subst hx
  unfold pfcXoff
  refine if_pos ?_
  rw [portOf_of_get hp, hm, bit, hOff, decide_eq_true hFull, ht]
  rfl
/-- A new XOFF goes out while occupancy stays at or above XON (R269). -/
theorem pfcRefresh_sends {s y : State} {p k : Nat} {r : PortRun} (hs : s.ports[p]? = some r) (hOn : r.xoff.testBit k = true)
    (hy : y = moveTo (r.refresh.getD k 0) s) (hFull : (nth y.work.flows p).xon.getD k 0 ≤ r.occupancy.getD k 0) (hm : mayPause y p k = true) :
    pfcRefresh p k s = sendPfc p k (nth y.work.flows p).quanta (updPort p (fun r => { r with refresh := upd r.refresh k (fun _ => refreshAt y p) }) y) := by
  have hyp : y.ports[p]? = some r := by rw [hy, moveTo_ports, hs]
  unfold pfcRefresh
  rw [portOf_of_get hs, bit, hOn, if_neg (by decide), ← hy]
  dsimp only
  rw [hm, if_neg (by decide), portOf_of_get hyp]
  exact if_pos hFull
/-- For a priority that may no longer be paused only the standing XOFF is cleared (R269, R270). -/
theorem pfcRefresh_clears {s y : State} {p k : Nat} {r : PortRun} (hs : s.ports[p]? = some r) (hOn : r.xoff.testBit k = true)
    (hy : y = moveTo (r.refresh.getD k 0) s) (hm : mayPause y p k = false) :
    pfcRefresh p k s = { y with ports := y.ports.set p { r with xoff := clrBit r.xoff k } } := by
  have hyp : y.ports[p]? = some r := by rw [hy, moveTo_ports, hs]
  unfold pfcRefresh
  rw [portOf_of_get hs, bit, hOn, if_neg (by decide), ← hy]
  dsimp only
  rw [hm, if_pos (by decide), updPort_of_get _ hyp]
/-- Occupancy has fallen below XON: the standing XOFF is cleared, with a PFC frame of 0 quanta where the priority may be paused (R269). -/
theorem pfcXon_clears {s x : State} {p k t : Nat} {r : PortRun} (hx : x = begin_ t s) (hp : x.ports[p]? = some r) (hOn : r.xoff.testBit k = true)
    (hLow : r.occupancy.getD k 0 < (nth x.work.flows p).xon.getD k 0) :
    pfcXon p k t s = if mayPause x p k then sendPfc p k 0 (updPort p (fun r => { r with xoff := clrBit r.xoff k }) x)
      else updPort p (fun r => { r with xoff := clrBit r.xoff k }) x := by
  subst hx
  unfold pfcXon
  refine if_pos ?_
  rw [portOf_of_get hp, bit, hOn, decide_eq_true hLow]
  rfl

/-! ### Windows -/

/-- A window that moves on to the next one latches its count as LAST, and raises PEAK to it (R275). -/
theorem rollWindow_next (v : Window) : rollWindow (v.idx + 1) v =
    { idx := v.idx + 1, count := 0, last := v.count, peak := max v.peak v.count, back := if v.count = 0 then v.back else (v.idx, v.count) } := by
  rw [rollWindow, if_neg (Nat.not_succ_le_self _), if_pos rfl]
theorem windowEnd_rolls {s y : State} {p w : Nat} {r : PortRun} {v : Window} (hs : s.ports[p]? = some r) (hw : w < 4) (hv : r.windows[w]? = some v)
    (hy : y = moveTo ((v.idx + 1) * windowLen s p w) s) (hEnd : y.now / windowLen s p w = v.idx + 1) :
    windowEnd p w s = { y with ports := y.ports.set p { r with windows := r.windows.set w (rollWindow (v.idx + 1) v) } } := by
  have hyp : y.ports[p]? = some r := by rw [hy, moveTo_ports, hs]
  unfold windowEnd
  rw [if_neg (Nat.not_le.mpr hw)]
  dsimp only
  rw [portOf_of_get hs, nth_of_get hv, ← hy, hEnd, updPort_of_get _ hyp, upd_of_get hv]

/-! ### The rows -/

/-- Settles O34, row by row: each row's equation on its case, and what a PFC frame leaves of its port. -/
theorem pauseAndWindows : Obligations.PauseAndWindows := by
  unfold Obligations.PauseAndWindows
  refine ⟨?effect, ?expiry, ?xoff, ?refresh, ?xon, ?cleared, ?window⟩
  case effect =>
    intro p at_ k n s r rest hrun hs hPauses hk y
    have hy : y.ports[p]? = some r := (congrArg (fun l => l[p]?) (moveTo_ports at_ _)).trans hs
    let z := updPort p (fun r => { r with pauses := rest }) y
    have hz : z.ports[p]? = some { r with pauses := rest } := get_updPort _ hy
    have hSet : z.ports = y.ports.set p { r with pauses := rest } := ports_updPort_of_get _ hy
    have hCfg : portCfg z p = portCfg s p := congrArg (fun c : Cfg => nth c.ports p) (moveTo_work at_ { s with out := [] })
    have hrow : exec (.pauseEffect p) s = .next (loadPause p k n z) :=
      (next_whileRunning hrun (pauseEffect p)).trans (congrArg Outcome.next (pauseEffect_loads (s := { s with out := [] }) hs hPauses))
    refine ⟨fun hn => ⟨_, hrow, ?_⟩, fun hn => ⟨_, hrow, ?_⟩⟩
    · have hLoad := loadPause_pauses (k := k) hz hn
      rw [hCfg, hSet, List.set_set, isPaused_of_get hz] at hLoad
      have hPort : portOf (loadPause p k n z) p = { r with
          pauses := rest
          pausedUntil := r.pausedUntil.set k (some (y.now + n * quantumPs (portCfg s p).mode))
          pausedSince := if !(r.pausedUntil.getD k none).isSome then upd r.pausedSince k (fun _ => y.now) else r.pausedSince } := by
        rw [hLoad]
        exact nth_of_get (List.getElem?_set_self (lt_length_of_get hy))
      refine ⟨by rw [hLoad]; rfl, by rw [hPort, hLoad]; rfl, fun hFree _ => ?_⟩
      rw [hPort, List.getD_eq_getElem?_getD, hFree]
      exact upd_const _ _ _
    · obtain ⟨hOnly, hUntil, hRest⟩ := releasePrio_facts hz hk
      rw [hn, loadPause_zero]
      exact ⟨hOnly, hUntil, hRest⟩
  case expiry =>
    intro p k e w u s r hrun hs hk hw hu y
    have hy : y.ports[p]? = some r := (congrArg (fun l => l[p]?) (moveTo_ports e _)).trans hs
    have hPaused : isPaused y p k = true := by rw [isPaused_of_get hy, List.getD_eq_getElem?_getD, hk]; rfl
    refine (next_whileRunning hrun (pauseExpiry p k)).trans (congrArg Outcome.next ?_)
    refine (pauseExpiry_releases (s := { s with out := [] }) hs hk).trans ((releasePrio_paused hy hPaused).trans ?_)
    rw [upd_of_get hu, List.getD_eq_getElem?_getD, hw]
    rfl
  case xoff =>
    intro p k t s r hrun x f hp hm hOff hFull ht
    have hrow : exec (.pfcXoff p k t) s = .next _ := congrArg Outcome.next ((if_pos hrun).trans (pfcXoff_sends rfl hp hm hOff hFull ht))
    exact ⟨_, hrow, sendPfc_updPort k _ _ rfl hp ht⟩
  case refresh =>
    intro p k s r hrun hs hOn hFull y f ht hm
    have hy : y.ports[p]? = some r := (congrArg (fun l => l[p]?) (moveTo_ports _ _)).trans hs
    have hFlows : (nth y.work.flows p).xon.getD k 0 ≤ r.occupancy.getD k 0 := by rw [moveTo_work]; exact hFull
    have hrow := (next_whileRunning hrun (pfcRefresh p k)).trans
      (congrArg Outcome.next (pfcRefresh_sends (s := { s with out := [] }) hs hOn rfl hFlows hm))
    exact ⟨_, hrow, sendPfc_updPort k _ _ rfl hy ht⟩
  case xon =>
    intro p k t s r hrun x hp hOn hLow ht hm
    have hrow : exec (.pfcXon p k t) s = .next _ :=
      congrArg Outcome.next ((if_pos hrun).trans ((pfcXon_clears rfl hp hOn hLow).trans (if_pos hm)))
    exact ⟨_, hrow, sendPfc_updPort k 0 _ rfl hp ht⟩
  case cleared =>
    intro p k t s r hrun hs hOn x y
    refine ⟨fun hm => ?_, fun hm hLow => ?_⟩
    · exact (next_whileRunning hrun (pfcRefresh p k)).trans
        (congrArg Outcome.next (pfcRefresh_clears (s := { s with out := [] }) hs hOn rfl hm))
    · have hx : x.ports[p]? = some r := (congrArg (fun l => l[p]?) (begin_ports t s)).trans hs
      refine congrArg Outcome.next ((if_pos hrun).trans ((pfcXon_clears rfl hx hOn hLow).trans ?_))
      rw [if_neg (by rw [hm]; decide)]
      exact updPort_of_get _ hx
  case window =>
    intro p w s r v hrun hs hw hv y hEnd
    have hRoll := windowEnd_rolls (s := { s with out := [] }) hs hw hv rfl hEnd
    rw [rollWindow_next] at hRoll
    exact (next_whileRunning hrun (windowEnd p w)).trans (congrArg Outcome.next hRoll)

end Sys2Proof.Machine
end
section
/-! PROOFS. A port that leaves its state or loses its calibration (R253, R258, R259, R265). -/
namespace Sys2Proof.Machine
open Sys2Proof Host

/-! ### Events, and queues that are emptied -/

theorem follows_updPort (p : Nat) (f : PortRun → PortRun) {r s : State} (h : follows r s) : follows r (updPort p f s) := follows_same h rfl rfl
theorem follows_portEvent (p ev : Nat) {r s : State} (h : follows r s) : follows r (portEvent p ev s) :=
  follows_raiseIdx 8 _ p (follows_updPort p _ h)
theorem portEvent_get {s : State} {p : Nat} {r : PortRun} (ev : Nat) (h : s.ports[p]? = some r) :
    (portEvent p ev s).ports = s.ports.set p { r with events := setBit r.events ev } :=
  (raiseIdx_ports 8 _ p _).trans (ports_updPort_of_get _ h)
theorem dropQueued_get {s : State} {p : Nat} {r : PortRun} (h : s.ports[p]? = some r) :
    follows s (dropQueued p s) ∧ (dropQueued p s).ports = s.ports.set p { r with timed := [], untimed := [], calendar := [] } := by
  obtain ⟨hFollows, hPorts⟩ := portsStay_foldl (linkDrop p) (fun x f => portsStay_linkDrop p f (portsStay_refl x))
    ((portOf s p).timed ++ (portOf s p).untimed) (portsStay_refl s)
  exact ⟨follows_updPort p _ hFollows, (ports_updPort_congr hPorts p _).trans (ports_updPort_of_get _ h)⟩
/-- With no frame queued nothing is discarded. -/
theorem dropQueued_idle {s : State} {p : Nat} {r : PortRun} (h : s.ports[p]? = some r) (ht : r.timed = []) (hu : r.untimed = []) :
    dropQueued p s = { s with ports := s.ports.set p { r with calendar := [] } } := by
  have hDrop : dropQueued p s = updPort p (fun r => { r with timed := [], untimed := [], calendar := [] }) s := by
    rw [dropQueued, portOf_of_get h, ht, hu]
    rfl
  have hSame : { r with timed := [], untimed := [], calendar := [] } = { r with calendar := [] } := by
    cases r
    cases ht
    cases hu
    rfl
  rw [hDrop, updPort_of_get _ h, hSame]

/-! ### Out of a state -/

theorem leaveTo_down {s : State} {p : Nat} {r : PortRun} (st : PortState) (h : s.ports[p]? = some r) (hUp : r.state ≠ .up) :
    leaveTo p st s = { s with ports := s.ports.set p { r with state := st } } := by
  unfold leaveTo
  rw [portOf_of_get h]
  exact (if_neg (mt beq_iff_eq.mp hUp)).trans (updPort_of_get _ h)
theorem leaveTo_up {s : State} {p : Nat} {r : PortRun} (st : PortState) (h : s.ports[p]? = some r) (hUp : r.state = .up) :
    leaveTo p st s = portEvent p 1 (dropQueued p (updPort p (fun r => { r with state := st }) s)) := by
  unfold leaveTo
  rw [portOf_of_get h]
  exact if_pos (beq_iff_eq.mpr hUp)

/-- A port that leaves its state for another has empty queues, and LINK_DOWN is raised where it was UP (R253, R265). -/
theorem left_get {s : State} {p : Nat} {r : PortRun} (st : PortState) (h : s.ports[p]? = some r) :
    let t := dropQueued p (leaveTo p st s)
    follows s t ∧ (∃ ev, t.ports = s.ports.set p { r with state := st, events := ev, timed := [], untimed := [], calendar := [] }) ∧
    (r.state = .up → causeStands 8 1 t) := by
  have hlen := lt_length_of_get h
  by_cases hUp : r.state = .up
  · have hSet := get_updPort (fun r => { r with state := st }) h
    obtain ⟨hDrop, hDropPorts⟩ := dropQueued_get hSet
    rw [ports_updPort_of_get _ h, List.set_set] at hDropPorts
    have hEvent := portEvent_get 1 ((congrArg (fun l => l[p]?) hDropPorts).trans (List.getElem?_set_self hlen))
    rw [hDropPorts, List.set_set] at hEvent
    obtain ⟨hAgain, hPorts⟩ := dropQueued_get ((congrArg (fun l => l[p]?) hEvent).trans (List.getElem?_set_self hlen))
    rw [hEvent, List.set_set] at hPorts
    dsimp only
    rw [leaveTo_up st h hUp]
    exact ⟨follows_trans hAgain (follows_portEvent p 1 (follows_trans hDrop (follows_updPort p _ (follows_refl s)))), ⟨_, hPorts⟩,
      fun _ => hAgain.2 8 1 (stands_raiseIdx_self 8 1 p _ (by decide))⟩
  · have hSet : ({ s with ports := s.ports.set p { r with state := st } } : State).ports[p]? = some { r with state := st } :=
      List.getElem?_set_self hlen
    obtain ⟨hDrop, hPorts⟩ := dropQueued_get hSet
    dsimp only
    rw [leaveTo_down st h hUp]
    exact ⟨follows_trans hDrop (follows_same (follows_refl s) rfl rfl), ⟨r.events, hPorts.trans (List.set_set ..)⟩, fun hu => absurd hu hUp⟩

/-- A port that goes to CALIBRATING has empty queues and its fixed delays alone (R253, R259). -/
theorem toCalibrating_get {s : State} {p : Nat} {r : PortRun} (h : s.ports[p]? = some r) :
    follows s (toCalibrating p s) ∧
    (∃ ev, (toCalibrating p s).ports[p]? = some { r with
      state := .calibrating, events := ev, timed := [], untimed := [], calendar := []
      dTx := r.dTx - r.vari.1, dRx := r.dRx - r.vari.2, vari := (0, 0) }) ∧
    (r.state = .up → causeStands 8 1 (toCalibrating p s)) := by
  obtain ⟨hFollows, ⟨ev, hPorts⟩, hStands⟩ := left_get .calibrating h
  have hGet := (congrArg (fun l => l[p]?) hPorts).trans (List.getElem?_set_self (lt_length_of_get h))
  exact ⟨follows_updPort p _ hFollows, ⟨ev, get_updPort _ hGet⟩, hStands⟩

/-! ### Calibration that is lost -/

/-- A port that loses its calibration raises PORT_CAL_LOST, and the bound follows; where it recalibrates by itself it goes to CALIBRATING
(R158, R253, R258). -/
theorem loseCal_facts {s : State} {p : Nat} {r : PortRun} (h : s.ports[p]? = some r) :
    let t := loseCal p s
    causeStands 8 3 t ∧ causeStands 5 6 t ∧ (portOf t p).calOk = false ∧ (portOf t p).temp = r.temp ∧
    (autoRecal (portCfg s p) = true → r.state ≠ .disabled → (portOf t p).state = .calibrating) := by
  let e := portEvent p 3 (updPort p (fun r => { r with calOk := false }) s)
  let z := raise 5 6 (raiseStamps p e)
  have hEvent := portEvent_get 3 (get_updPort (fun r => { r with calOk := false }) h)
  have hStays : portsStay e z := portsStay_raise 5 6 (portsStay_raiseStamps p (portsStay_refl e))
  have hz : z.ports[p]? = some { r with calOk := false, events := setBit r.events 3 } := by
    rw [hStays.2, hEvent]
    exact List.getElem?_set_self (by rw [updPort_ports, upd_length]; exact lt_length_of_get h)
  have hLost : causeStands 8 3 z := hStays.1.2 8 3 (stands_raiseIdx_self 8 3 p _ (by decide))
  have hBound : causeStands 5 6 z := stands_raise_self 5 6 _ (by decide)
  have hCfg : portCfg z p = portCfg s p := by
    have hKept : kept z = kept s := (kept_raise 5 6 _).trans ((kept_raiseStamps p e).trans ((kept_portEvent p 3 _).trans (kept_updPort p _ s)))
    rw [portCfg, work_of_kept hKept, portCfg]
  have hLose : loseCal p s = settleBound (if autoRecal (portCfg z p) && (portOf z p).state != .disabled then toCalibrating p z else z) := rfl
  have hSettle : ∀ y : State, portsStay y (settleBound y) := fun y => portsStay_settleBound (portsStay_refl y)
  dsimp only
  rw [hLose, hCfg, portOf_of_get hz]
  split
  case isTrue hAuto =>
    obtain ⟨hFollows, ⟨ev, hGet⟩, -⟩ := toCalibrating_get hz
    rw [portOf_of_ports (hSettle _).2, portOf_of_get hGet]
    exact ⟨(hSettle _).1.2 8 3 (hFollows.2 8 3 hLost), (hSettle _).1.2 5 6 (hFollows.2 5 6 hBound), rfl, rfl, fun _ _ => rfl⟩
  case isFalse hStay =>
    rw [portOf_of_ports (hSettle _).2, portOf_of_get hz]
    refine ⟨(hSettle _).1.2 8 3 hLost, (hSettle _).1.2 5 6 hBound, rfl, rfl, fun hAuto hOn => absurd ?_ hStay⟩
    rw [hAuto, Bool.true_and]
    exact bne_iff_ne.mpr hOn

end Sys2Proof.Machine
end
section
/-! PROOFS. The commands of the network ports (R248, R253, R279 to R283). -/
namespace Sys2Proof.Machine
open Sys2Proof Host

/-! ### PORT_CONFIGURE -/

theorem portAbsent_iff (c : Cfg) (n : Nat) : (!portExists c n) = true ↔ n % 4 ≠ 0 ∧ (nth c.ports (n / 4 * 4)).mode = 4 := by
  rw [portExists, Bool.not_eq_true', Bool.or_eq_false_iff, beq_eq_false_iff_ne, bne_eq_false_iff_eq]
/-- 100GBASE-R4 would take a port of its group that has a mode of its own (R248). -/
theorem portTaken_iff (c : Cfg) (n mode : Nat) : (mode == 4 && [1, 2, 3].any (fun k => (nth c.ports (n + k)).mode != 0)) = true ↔
    mode = 4 ∧ ((nth c.ports (n + 1)).mode ≠ 0 ∨ (nth c.ports (n + 2)).mode ≠ 0 ∨ (nth c.ports (n + 3)).mode ≠ 0) := by
  simp only [List.any_cons, List.any_nil, Bool.or_false, Bool.and_eq_true, Bool.or_eq_true, beq_iff_eq, bne_iff_ne]
theorem hPortConfigure_of {q : Req} {x : State} (hf : fits q 40 (portFields q.params)) :
    let n := fld q.params 0 1
    hPortConfigure q x = refuseIf (!portExists x.shadow n) stBadState 0
      (refuseIf (fld q.params 1 1 == 4 && [1, 2, 3].any (fun k => (nth x.shadow.ports (n + k)).mode != 0)) stBadState 0
        (writes (fun c => { c with ports := upd c.ports n fun _ => portCfgOf q.params }) x)) := checked_of hf

/-! ### PORT_CALIBRATE -/

theorem stands_addWait {c b : Nat} {s : State} (w : Wait) (h : causeStands c b s) : causeStands c b (addWait w s) :=
  stands_of_cause (s := s) rfl h
theorem mem_addWait (w : Wait) (s : State) : w ∈ (addWait w s).host.waits := List.mem_append_right _ (List.mem_singleton.mpr rfl)
/-- A port is not calibrated anew while it is disabled or calibrates (R280). -/
theorem hPortCalibrate_of {q : Req} {x : State} {r : PortRun} (hf : fits q 4 [inF 0 1 0 15, rsvF 1 3]) (hp : x.ports[fld q.params 0 1]? = some r) :
    hPortCalibrate q x = refuseIf (r.state == .disabled || r.state == .calibrating) stBadState 0
      (.later (addWait { key := .portCalibrate (fld q.params 0 1), opcode := 0x0802, req := q } (toCalibrating (fld q.params 0 1) x))) := by
  rw [← portOf_of_get hp]
  exact checked_of hf

/-! ### PORT_STATUS -/

theorem clearPort_only (fl p : Nat) (s : State) : clearPort fl p s = { s with ports := (clearPort fl p s).ports } := by
  unfold clearPort
  cases bit fl 0 <;> cases bit fl 1 <;> rfl
theorem banks_clearPort (fl p : Nat) (s : State) : banks (clearPort fl p s) = banks s := by
  rw [clearPort_only]
  rfl
theorem clearPort_none (p : Nat) (s : State) : clearPort 0 p s = s := rfl
theorem clearPort_events (p : Nat) (s : State) : clearPort 1 p s = { s with ports := upd s.ports p fun r => { r with events := 0 } } := rfl
theorem clearPorts_only (fl : Nat) (l : List Nat) (s : State) :
    l.foldl (fun s k => clearPort fl k s) s = { s with ports := (l.foldl (fun s k => clearPort fl k s) s).ports } := by
  induction l generalizing s with
  | nil => rfl
  | cons k l ih =>
    rw [List.foldl_cons, ih (clearPort fl k s), clearPort_only]
theorem clearPorts_none (l : List Nat) (s : State) : l.foldl (fun s k => clearPort 0 k s) s = s := by
  induction l with
  | nil => rfl
  | cons k l ih => exact ih

theorem portStatusReply_length (s : State) (p : Nat) : (portStatusReply s p).length = 272 := by
  unfold portStatusReply
  extract_lets c r cnt win
  have hCntLen : ∀ j, (cnt j).length = 8 := fun j => leBytes_length _ _
  have hWinLen : ∀ w, (win w).length = 16 := fun w => by simp only [win, List.length_append, leBytes_length]
  clear_value c r cnt win
  simp only [boundBytes, List.length_append, leBytes_length, leInt_length, zeros_length, hCntLen, hWinLen, List.length_flatMap,
    List.map_const', List.sum_replicate_nat, List.length_range]

/-- The fields of PORT_STATUS before the counters (R283). -/
theorem portStatusReply_fields (s : State) (p : Nat) :
    let data := portStatusReply s p
    fld data 0 1 = p % 256 ∧ fld data 1 1 = portStateCode (portOf s p).state ∧ fld data 2 1 = (portCfg s p).mode % 256 ∧
    fld data 6 2 = (portOf s p).events % 65536 ∧ fld data 8 1 = spadesMask s p % 256 ∧ fld data 9 1 = (portOf s p).xoff % 256 ∧
    fld data 11 1 = (portOf s p).rxQl % 256 ∧ fld data 16 8 = boundPs (portUnc s p) % 2 ^ 64 := by
  have hCode : portStateCode (portOf s p).state % 256 = portStateCode (portOf s p).state := by cases (portOf s p).state <;> rfl
  dsimp only
  unfold portStatusReply
  extract_lets c r cnt win
  clear_value cnt win
  simp only [boundBytes, List.append_assoc, fld_append_right, fld_le_here, leBytes_length, zeros_length, Nat.reduceLeDiff, Nat.reduceSub,
    Nat.reducePow, c, r, hCode, and_self]
/-- The counters and the windows of PORT_STATUS (R275, R283). -/
theorem portStatusReply_counts (s : State) (p : Nat) :
    let data := portStatusReply s p
    fld data 56 8 = portCounter s p 0 % 2 ^ 64 ∧ fld data 200 8 = (windowNow s p 0).last % 2 ^ 64 ∧ fld data 264 1 = (nth s.work.windows p).w0 % 256 := by
  dsimp only
  unfold portStatusReply
  extract_lets c r cnt win
  have hCnt : ∀ j rest, fld (cnt j ++ rest) 0 8 = portCounter s p j % 2 ^ 64 := fun j rest => fld_le_here 8 _ rest
  have hCntLen : ∀ j, (cnt j).length = 8 := fun j => leBytes_length _ _
  have hWin : ∀ w rest, fld (win w ++ rest) 0 8 = (windowNow s p w).last % 2 ^ 64 := fun w rest => by
    simp only [win, List.append_assoc, fld_le_here, Nat.reducePow]
  have hWinLen : ∀ w, (win w).length = 16 := fun w => by simp only [win, List.length_append, leBytes_length]
  clear_value cnt win
  simp only [boundBytes, List.append_assoc, fld_append_right, fld_le_here, leBytes_length, leInt_length, zeros_length, hCnt, hCntLen, hWin, hWinLen,
    List.length_flatMap, List.map_const', List.sum_replicate_nat, List.length_range, Nat.reduceLeDiff, Nat.reduceSub, Nat.reduceMul, Nat.reducePow,
    and_self]
/-- The flags of PORT_STATUS: calibrated, ever calibrated, sending (R283). -/
theorem portStatusReply_flags (s : State) (p : Nat) :
    let data := portStatusReply s p
    (fld data 4 2).testBit 0 = (portOf s p).calOk ∧ (fld data 4 2).testBit 1 = (portOf s p).everCal ∧ (fld data 4 2).testBit 5 = txEnabled s p := by
  dsimp only
  unfold portStatusReply
  extract_lets c r cnt win
  clear_value cnt win
  simp only [List.append_assoc, fld_append_right, fld_le_here, leBytes_length, Nat.reduceLeDiff, Nat.reduceSub]
  refine ⟨?_, ?_, ?_⟩ <;> rw [testBit_field _ (by decide), testBit_packBits] <;> rfl

/-- One bit for each port with events (R283). -/
theorem portEvents_bits (s : State) {k : Nat} (hk : k < 16) :
    (fld (leBytes 2 (packBits ((List.range 16).map fun k => (portOf s k).events != 0))) 0 2).testBit k = ((portOf s k).events != 0) := by
  rw [fld_le_all, testBit_field _ (by omega), testBit_packBits, List.getD_eq_getElem?_getD, List.getElem?_map, List.getElem?_range hk]
  rfl

/-- PORT_STATUS of one port gives its fields as they stand, and clears what is asked for after (R283). -/
theorem hPortStatus_one {q : Req} {x : State} (hf : fits q 4 [F 0 1 (fun v => decide (v ≤ 15) || v == 0xFF), inF 1 1 0 3, rsvF 2 2])
    (hn : fld q.params 0 1 ≠ 0xFF) :
    hPortStatus q x = .done (portStatusReply x (fld q.params 0 1)) (clearPort (fld q.params 1 1) (fld q.params 0 1) x) :=
  (checked_of hf).trans (if_neg hn)
theorem hPortStatus_all {q : Req} {x : State} (hf : fits q 4 [F 0 1 (fun v => decide (v ≤ 15) || v == 0xFF), inF 1 1 0 3, rsvF 2 2])
    (hn : fld q.params 0 1 = 0xFF) :
    hPortStatus q x = .done (leBytes 2 (packBits ((List.range 16).map fun k => (portOf x k).events != 0)))
      ((List.range 16).foldl (fun s k => clearPort (fld q.params 1 1) k s) x) :=
  (checked_of hf).trans (if_pos hn)

/-! ### The commands -/

/-- Settles O32, command by command: what each handler writes, answers or refuses, and the fields of its reply. -/
theorem portCommands : Obligations.PortCommands := by
  unfold Obligations.PortCommands
  refine ⟨?configure, ?calibrate, ?flow, ?synce, ?status⟩
  case configure =>
    intro q s hs hf x p n c absent taken
    have hh := hPortConfigure_of (x := x) hf
    refine ⟨fun hHere hFree => ?_, fun hBad => ?_⟩
    · have hExists := Bool.eq_false_iff.mpr (mt (portAbsent_iff x.shadow n).mp hHere)
      have hNone := Bool.eq_false_iff.mpr (mt (portTaken_iff x.shadow n (fld p 1 1)).mp hFree)
      exact (runCmd_writes (h := hPortConfigure) hs (hh.trans ((refuseIf_not hExists).trans (refuseIf_not hNone))) :)
    · refine congrArg Outcome.next (runCmd_refused hs (hh.trans ?_))
      rcases hBad with hAbsent | hTaken
      · exact refuseIf_true ((portAbsent_iff x.shadow n).mpr hAbsent)
      · rw [refuseIf_true (k := writes _ x) ((portTaken_iff x.shadow n (fld p 1 1)).mpr hTaken)]
        exact ite_self _
  case calibrate =>
    intro q s r hs hf x n hp
    have hh := hPortCalibrate_of hf hp
    refine ⟨fun hOn hIdle => ?_, fun hBad => ?_⟩
    · obtain ⟨-, ⟨ev, hGet⟩, hDown⟩ := toCalibrating_get hp
      have hFree : (r.state == .disabled || r.state == .calibrating) = false :=
        Bool.or_eq_false_iff.mpr ⟨beq_eq_false_iff_ne.mpr hOn, beq_eq_false_iff_ne.mpr hIdle⟩
      have hBanks := banks_toCalibrating n x
      have hrow := runCmd_later hs (hh.trans (refuseIf_not hFree)) (congrArg Prod.fst hBanks) (congrArg Prod.snd hBanks)
      refine ⟨_, congrArg Outcome.next hrow, (kept_addWait _ _).trans (kept_toCalibrating n x), ?_⟩
      rw [portOf_addWait, portOf_of_get hGet]
      exact ⟨rfl, rfl, rfl, rfl, fun hUp => stands_addWait _ (hDown hUp), mem_addWait _ _⟩
    · refine congrArg Outcome.next (runCmd_refused hs (hh.trans (refuseIf_true ?_)))
      rw [Bool.or_eq_true, beq_iff_eq, beq_iff_eq]
      exact hBad
  case flow =>
    intro q s hs hf
    exact (runCmd_writes (h := hPortFlowControl) hs (checkedN_of hf) :)
  case synce =>
    intro q s hs hf
    exact (runCmd_writes (h := hPortSynce) hs (checked_of hf) :)
  case status =>
    intro q s hs hf x n r c
    refine ⟨fun hn => ?one, fun hn => ?all⟩
    case one =>
      obtain ⟨hNumber, hState, hMode, hEvents, hSpades, hXoff, hQl, hUnc⟩ := portStatusReply_fields x n
      obtain ⟨hCount, hLast, hW0⟩ := portStatusReply_counts x n
      obtain ⟨hCal, hEver, hTx⟩ := portStatusReply_flags x n
      have hOnly := clearPort_only (fld q.params 1 1) n x
      have hrow := runCmd_done_of_banks hs (hPortStatus_one hf hn) (banks_clearPort _ _ _)
      refine ⟨portStatusReply x n, clearPort (fld q.params 1 1) n x, hrow, fun h0 => ?_, fun h1 => ?_, hOnly,
        portStatusReply_length x n, hNumber, hState, hMode, hCal, hEver, hTx, hEvents, hSpades, hXoff, hQl, hUnc, hCount, hLast, hW0⟩
      · rw [h0, clearPort_none]
      · rw [h1, clearPort_events]
    case all =>
      have hOnly := clearPorts_only (fld q.params 1 1) (List.range 16) x
      have hrow := runCmd_done_of_banks hs (hPortStatus_all hf hn) (banks_foldl _ (fun z k => banks_clearPort _ k z) _ x)
      refine ⟨_, _, hrow, hOnly, fun h0 => ?_, leBytes_length _ _,
        fun k hk => portEvents_bits x hk⟩
      rw [h0, clearPorts_none]

end Sys2Proof.Machine
end
section
/-! PROOFS. How ports come up, go down and lose their calibration (R249, R253 to R259, R265, R396). -/
namespace Sys2Proof.Machine
open Sys2Proof Host

/-! ### Full calibration -/

/-- The answer to a PORT_CALIBRATE that waits, and what follows in DOWN (R253, R266, R280). -/
def calAnswered (p : Nat) (data : Bytes) (s : State) : State :=
  advertise p (settleBound (finishWait (.portCalibrate p) stDone 0 data s))
theorem portsStay_calAnswered (p : Nat) (data : Bytes) (s : State) : portsStay s (calAnswered p data s) :=
  portsStay_advertise p (portsStay_settleBound (portsStay_finishWait _ _ _ data (portsStay_refl s)))

/-- A port whose full calibration has passed, with its two delays (R253, R256). -/
def calPassed (temp : Int) (d : Int × Int) (r : PortRun) : PortRun :=
  { r with state := .down, temp := temp, calOk := true, everCal := true, calTemp := temp, dTx := d.1, dRx := d.2, adj := (0, 0) }
/-- A port whose full calibration has failed (R257). -/
def calFailed (temp : Int) (r : PortRun) : PortRun := { r with state := .down, temp := temp, calOk := false }
/-- A port as its full calibration has ended: its state and its event, and the bound of its sources where it has no calibration any more
(R158, R253, R257). -/
def calEnded (p : Nat) (passed : Bool) (temp : Int) (d : Int × Int) (s : State) : State :=
  let y := updPort p (fun r => if passed then calPassed temp d r else calFailed temp r) s
  let z := if (portOf s p).calOk && !passed then raise 5 6 (raiseStamps p y) else y
  if passed then portEvent p 2 z else portEvent p 4 z

theorem calEnded_passed (p : Nat) (temp : Int) (d : Int × Int) (s : State) :
    calEnded p true temp d s = portEvent p 2 (updPort p (calPassed temp d) s) := by
  simp only [calEnded, Bool.not_true, Bool.and_false, Bool.false_eq_true, if_false, if_true]
theorem calEnded_get {p : Nat} {s : State} {r : PortRun} (temp : Int) (d : Int × Int) (h : s.ports[p]? = some r) :
    causeStands 8 2 (calEnded p true temp d s) ∧
    (calEnded p true temp d s).ports = s.ports.set p { calPassed temp d r with events := setBit r.events 2 } ∧
    causeStands 8 4 (calEnded p false temp d s) ∧
    (calEnded p false temp d s).ports = s.ports.set p { calFailed temp r with events := setBit r.events 4 } := by
  have hPassed := portEvent_get 2 (get_updPort (calPassed temp d) h)
  rw [ports_updPort_of_get _ h, List.set_set] at hPassed
  let y := updPort p (calFailed temp) s
  have hStays : portsStay y (if (portOf s p).calOk && !false then raise 5 6 (raiseStamps p y) else y) :=
    portsStay_ite (portsStay_raise 5 6 (portsStay_raiseStamps p (portsStay_refl y))) (portsStay_refl y)
  have hFailed := portEvent_get 4 ((congrArg (fun l => l[p]?) hStays.2).trans (get_updPort (calFailed temp) h))
  rw [hStays.2, ports_updPort_of_get _ h, List.set_set] at hFailed
  rw [calEnded_passed]
  exact ⟨stands_raiseIdx_self 8 2 p _ (by decide), hPassed, stands_raiseIdx_self 8 4 p _ (by decide), hFailed⟩

section
variable {s x : State} {p t : Nat} {r : PortRun} (hx : x = begin_ t s) (hrun : running x = true) (hp : x.ports[p]? = some r)
include hx hrun hp

theorem calibrationEnd_of (hs : r.state = .calibrating) (seen : Bool) (temp dLoop dRx : Int) :
    ∃ data, calibrationEnd p t seen temp dLoop dRx s =
      calAnswered p data (calEnded p (seen && calInRange x p (calDelays x p dLoop dRx)) temp (calDelays x p dLoop dRx) x) := by
  have hOn : ¬ ((portOf x p).state != .calibrating || !running x) = true := by
    rw [portOf_of_get hp, hs, hrun]
    decide
  subst hx
  exact ⟨_, if_neg hOn⟩

/-! ### Block lock and alignment -/

/-- A line in lock that Clause 37 does not hold back takes its port from DOWN to ALIGNING (R249, R253). -/
theorem blockLock_of (hs : r.state = .down) {f : Int} (hf : f.natAbs ≤ 3689348814741910) (an : Option Bool) :
    blockLock p t f an s = if an37 (portCfg x p) && an.isNone then x else updPort p (fun r => { r with
      state := .aligning, rxFreq := f, anDone := an37 (portCfg x p), partnerPause := an37 (portCfg x p) && an == some true }) x := by
  have hOn : ¬ ((portOf x p).state != .down || !running x || decide (f.natAbs > 3689348814741910)) = true := by
    rw [portOf_of_get hp, hs, hrun, decide_eq_false (Nat.not_lt.mpr hf)]
    decide
  subst hx
  exact if_neg hOn

/-- A port that is aligned, with the variable delays just measured in place of those before (R253, R258, R259). -/
def alignedRun (d : Int × Int) (by_ : Option Nat) (now : Nat) (r : PortRun) : PortRun :=
  { r with state := .up, learned := 0, dTx := r.dTx - r.vari.1 + d.1, dRx := r.dRx - r.vari.2 + d.2, vari := d, esmcBy := by_, esmcNext := now }
theorem alignmentDone_up (hs : r.state = .aligning) (dTx dRx : Int) :
    ∃ by_, alignmentDone p t true dTx dRx s = startPort p (portEvent p 0 (updPort p (alignedRun (dTx, dRx) by_ x.now) x)) := by
  have hOn : ¬ ((portOf x p).state != .aligning || !running x) = true := by
    rw [portOf_of_get hp, hs, hrun]
    decide
  refine ⟨if esmcRxOn x p then some (r.esmcBy.getD (x.now + 5 * secPs)) else none, ?_⟩
  subst hx
  refine (if_neg hOn).trans (congrArg (fun y => startPort p (portEvent p 0 y)) ?_)
  rw [updPort_of_get _ hp, updPort_of_get _ hp]
  rfl

end

/-! ### Loss of the link -/

/-- What a port in UP or ALIGNING does as its line is lost (R253, R265). -/
def linkLost (p : Nat) (s : State) : State :=
  advertise p (updPort p (fun r => { r with anDone := false, partnerPause := false }) (dropQueued p (leaveTo p .down s)))
theorem linkLoss_of {s x : State} {p t : Nat} {r : PortRun} (hx : x = begin_ t s) (hp : x.ports[p]? = some r) :
    linkLoss p t s = if r.state == .up || r.state == .aligning then linkLost p x else x := by
  subst hx
  rw [← portOf_of_get hp]
  rfl
/-- The port is in DOWN with empty queues, and LINK_DOWN is raised where it was UP (R253, R265). -/
theorem linkLost_facts {x : State} {p : Nat} {r : PortRun} (hp : x.ports[p]? = some r) :
    let k := portOf (linkLost p x) p
    k.state = .down ∧ k.timed = [] ∧ k.untimed = [] ∧ k.calendar = [] ∧ k.anDone = false ∧ (r.state = .up → causeStands 8 1 (linkLost p x)) := by
  obtain ⟨-, ⟨ev, hPorts⟩, hDown⟩ := left_get .down hp
  have hGet := (congrArg (fun l => l[p]?) hPorts).trans (List.getElem?_set_self (lt_length_of_get hp))
  obtain ⟨hStays, hSame⟩ := portsStay_advertise p (portsStay_refl (updPort p (fun r => { r with anDone := false, partnerPause := false })
    (dropQueued p (leaveTo p .down x))))
  have hPort : portOf (linkLost p x) p = _ := (portOf_of_ports hSame p).trans (portOf_of_get (get_updPort _ hGet))
  dsimp only
  rw [hPort]
  exact ⟨rfl, rfl, rfl, rfl, rfl, fun hUp => hStays.2 8 1 (stands_of_cause (s := dropQueued p (leaveTo p .down x)) rfl (hDown hUp))⟩
theorem advertise_only (p : Nat) (s : State) : advertise p s = { s with out := (advertise p s).out } := by
  unfold advertise
  split <;> rfl
/-- Without frames queued, only the port's own state changes on the way from ALIGNING to DOWN (R253). -/
theorem linkLost_idle {x : State} {p : Nat} {r : PortRun} (hp : x.ports[p]? = some r) (hs : r.state = .aligning) (ht : r.timed = [])
    (hu : r.untimed = []) : linkLost p x = { x with
      ports := x.ports.set p { r with state := .down, anDone := false, partnerPause := false, calendar := [] }, out := (linkLost p x).out } := by
  have hlen := lt_length_of_get hp
  have hDrop : dropQueued p (leaveTo p .down x) = { x with ports := x.ports.set p { r with state := .down, calendar := [] } } := by
    rw [leaveTo_down .down hp (by rw [hs]; decide), dropQueued_idle (r := { r with state := .down }) (List.getElem?_set_self hlen) ht hu, List.set_set]
  have hDown : updPort p (fun r => { r with anDone := false, partnerPause := false }) (dropQueued p (leaveTo p .down x)) =
      { x with ports := x.ports.set p { r with state := .down, anDone := false, partnerPause := false, calendar := [] } } := by
    rw [hDrop, updPort_of_get _ (List.getElem?_set_self hlen), List.set_set]
  exact (advertise_only p _).trans (congrArg (fun y : State => { y with out := (linkLost p x).out }) hDown)

/-! ### A reading of the lanes -/

/-- The port of a reading, its temperature kept: what `calLost` looks at. -/
def readTemp (p : Nat) (y : LaneReading) (x : State) : State := updPort p (fun r => { r with temp := y.temp }) x
theorem readTemp_get {x : State} {p : Nat} {r : PortRun} (y : LaneReading) (hp : x.ports[p]? = some r) :
    (readTemp p y x).ports[p]? = some { r with temp := y.temp } := get_updPort _ hp
theorem calLost_of {s x : State} {p t : Nat} {r : PortRun} (hx : x = begin_ t s) (hp : x.ports[p]? = some r) (y : LaneReading) (fault : Bool) :
    calLost p t y fault s = if !r.calOk then readTemp p y x
      else if fault || decide ((y.temp - r.calTemp).natAbs > 320) then loseCal p (readTemp p y x)
      else updPort p (fun r => { r with dTx := r.dTx - r.adj.1 + y.dTx, dRx := r.dRx - r.adj.2 + y.dRx, adj := (y.dTx, y.dRx) })
        (readTemp p y x) := by
  subst hx
  have hPort : portOf (updPort p (fun r => { r with temp := y.temp }) (begin_ t s)) p = { r with temp := y.temp } :=
    portOf_of_get (readTemp_get y hp)
  unfold calLost
  dsimp only
  rw [hPort]
  rfl
theorem calLost_uncalibrated {s x : State} {p t : Nat} {r : PortRun} (hx : x = begin_ t s) (hp : x.ports[p]? = some r) (y : LaneReading)
    (fault : Bool) (hNot : r.calOk = false) : calLost p t y fault s = { x with ports := x.ports.set p { r with temp := y.temp } } :=
  calc calLost p t y fault s = readTemp p y x := (calLost_of hx hp y fault).trans (if_pos (by rw [hNot]; decide))
    _ = _ := updPort_of_get _ hp
/-- The correction of the replica delay line takes the place of the one before (R396). -/
theorem calLost_corrects {s x : State} {p t : Nat} {r : PortRun} (hx : x = begin_ t s) (hp : x.ports[p]? = some r) {y : LaneReading}
    (hOk : r.calOk = true) (hNear : (y.temp - r.calTemp).natAbs ≤ 320) : calLost p t y false s =
    { x with ports := x.ports.set p { r with temp := y.temp, dTx := r.dTx - r.adj.1 + y.dTx, dRx := r.dRx - r.adj.2 + y.dRx, adj := (y.dTx, y.dRx) } } := by
  have hSound : ¬ (false || decide ((y.temp - r.calTemp).natAbs > 320)) = true := by
    rw [decide_eq_false (Nat.not_lt.mpr hNear)]
    decide
  refine (calLost_of hx hp y false).trans ((if_neg (by rw [hOk]; decide)).trans ((if_neg hSound).trans ?_))
  rw [readTemp, updPort_updPort, updPort_of_get _ hp]
  rfl
theorem calLost_loses {s x : State} {p t : Nat} {r : PortRun} (hx : x = begin_ t s) (hp : x.ports[p]? = some r) {y : LaneReading}
    {fault : Bool} (hOk : r.calOk = true) (hFar : fault = true ∨ 320 < (y.temp - r.calTemp).natAbs) :
    calLost p t y fault s = loseCal p (readTemp p y x) :=
  (calLost_of hx hp y fault).trans ((if_neg (by rw [hOk]; decide)).trans (if_pos (by rwa [Bool.or_eq_true, decide_eq_true_iff])))

end Sys2Proof.Machine
end
section
/-! PROOFS. The lanes of the Partner link, and quality levels (R271, R273, R274, R396). -/
namespace Sys2Proof.Machine
open Sys2Proof Host

/-! ### One lane of the list -/

theorem laneOf_of_get {s : State} {n : Nat} {l : LaneRun} (h : s.pair.lanes[n]? = some l) : laneOf s n = l := nth_of_get h
theorem updLane_of_get {s : State} {n : Nat} {l : LaneRun} (f : LaneRun → LaneRun) (h : s.pair.lanes[n]? = some l) :
    updLane n f s = { s with pair := { s.pair with lanes := s.pair.lanes.set n (f l) } } :=
  congrArg (fun k => { s with pair := { s.pair with lanes := k } }) (upd_of_get h)

section
variable {s : State} {n : Nat} {l : LaneRun} (h : s.pair.lanes[n]? = some l)
include h

theorem laneCalEnd_passes (hrun : running s = true) (hs : l.state = .calibrating) {temp dLoop dRx : Int}
    (hr : calInRange s (16 + n) (calDelays s (16 + n) dLoop dRx) = true) :
    laneCalEnd n true temp dLoop dRx s = { s with pair := { s.pair with lanes := s.pair.lanes.set n { l with
      state := .down, calOk := true, temp := temp, calTemp := temp, dTx := dLoop - dRx + (nth s.fuse.cal (16 + n)).routeTx
      dRx := dRx + (nth s.fuse.cal (16 + n)).routeRx, vari := (0, 0), adj := (0, 0) } } } := by
  have hOn : ¬ ((laneOf s n).state != .calibrating || !running s) = true := by
    rw [laneOf_of_get h, hs, hrun]
    decide
  have hPassed : (true && calInRange s (16 + n) (calDelays s (16 + n) dLoop dRx)) = true := hr
  refine (if_neg hOn).trans ?_
  rw [updLane_of_get _ h, if_pos hPassed]
  rfl
theorem laneLock_aligns (hrun : running s = true) (hs : l.state = .down) :
    laneLock n s = { s with pair := { s.pair with lanes := s.pair.lanes.set n { l with state := .aligning } } } := by
  have hOn : ¬ ((laneOf s n).state != .down || !running s) = true := by
    rw [laneOf_of_get h, hs, hrun]
    decide
  exact (if_neg hOn).trans (updLane_of_get _ h)
theorem laneAligned_up (hrun : running s = true) (hs : l.state = .aligning) (dTx dRx : Int) :
    laneAligned n true dTx dRx s = { s with pair := { s.pair with lanes := s.pair.lanes.set n { l with
      state := .up, dTx := l.dTx - l.vari.1 + dTx, dRx := l.dRx - l.vari.2 + dRx, vari := (dTx, dRx) } } } := by
  have hOn : ¬ ((laneOf s n).state != .aligning || !running s) = true := by
    rw [laneOf_of_get h, hs, hrun]
    decide
  refine (if_neg hOn).trans ((updLane_of_get _ h).trans ?_)
  rw [Bool.and_true]
  rfl
/-- A lane that carried traffic and loses its line raises LANE_DOWN (R396, R422). -/
theorem laneLoss_down (hs : l.state = .up) :
    laneLoss n s = raise 12 9 { s with pair := { s.pair with lanes := s.pair.lanes.set n { l with state := .down, got := none } } } := by
  have hUp : laneUp s n = true := by
    rw [laneUp, laneOf_of_get h, hs]
    rfl
  have hLoss : laneLoss n s = laneTo n .down s := if_pos (by rw [laneOf_of_get h, hs]; decide)
  have hTo : laneTo n .down s = raise 12 9 (updLane n (fun l => { l with state := .down, got := none }) s) := by
    unfold laneTo
    rw [hUp]
    rfl
  rw [hLoss, hTo, updLane_of_get _ h]
theorem laneCalLost_faults (y : LaneReading) :
    laneCalLost n y true s = { s with pair := { s.pair with lanes := s.pair.lanes.set n { l with temp := y.temp, calOk := false } } } := by
  refine (updLane_of_get _ h).trans ?_
  rw [Bool.true_or, Bool.not_true, Bool.and_false]
  rfl

end

/-! ### Samples and ranks received -/

/-- The sample of a SyncE source: its frequency alone, at the stamp of the divided clock's edge (R271). -/
def synceEdge (stamp : Nat) : Sample :=
  { stamp := stamp, offset := 0, unc := 0, stampUnc := 0, phaseOk := false, period := 2560000, perNum := 2560000, perDen := 1 }
theorem synceSample_delivers {s x : State} {p t : Nat} {r : PortRun} {f : RefRun} (hx : x = begin_ t s) (hrun : running x = true)
    (hp : x.ports[p]? = some r) (hs : r.state = .aligning ∨ r.state = .up) (hf : x.refs[12 + p]? = some f) (hOn : f.state ≠ .disabled) :
    synceSample p t s = deliver (12 + p) (synceEdge ((stampNow x : Int) - (refCfg x (12 + p)).compensation).toNat) false
      { x with refs := x.refs.set (12 + p) { f with expected := some (x.now + 10240000) } } := by
  have hTakes : ¬ (!running x || !((portOf x p).state == .aligning || (portOf x p).state == .up) || (refOf x (12 + p)).state == .disabled) = true := by
    rw [portOf_of_get hp, hrun, show refOf x (12 + p) = f from nth_of_get hf, beq_eq_false_iff_ne.mpr hOn]
    rcases hs with h | h <;> rw [h] <;> decide
  subst hx
  refine (if_neg hTakes).trans ?_
  rw [updRef_of_get _ hf]
  rfl

/-- A rank that is received reaches its port, and its source follows (R95, R273). -/
theorem setRank_get {s : State} {p : Nat} {r : PortRun} (rank : Nat) (h : s.ports[p]? = some r) :
    follows s (setRank p rank s) ∧ ∃ ev, (setRank p rank s).ports[p]? = some { r with rxQl := rank, events := ev } := by
  let y := updPort p (fun r => { r with rxQl := rank }) s
  let z := if (portOf s p).rxQl ≠ rank then portEvent p 6 y else y
  have hy : y.ports[p]? = some { r with rxQl := rank } := get_updPort _ h
  have hz : follows s z ∧ ∃ ev, z.ports[p]? = some { r with rxQl := rank, events := ev } := by
    have hFollows : follows s y := follows_updPort p _ (follows_refl s)
    by_cases hNew : (portOf s p).rxQl ≠ rank
    · rw [show z = portEvent p 6 y from if_pos hNew]
      refine ⟨follows_portEvent p 6 hFollows, setBit r.events 6, ?_⟩
      rw [portEvent_get 6 hy, List.getElem?_set_self (lt_length_of_get hy)]
    · rw [show z = y from if_neg hNew]
      exact ⟨hFollows, r.events, hy⟩
  obtain ⟨hFollows, ev, hGet⟩ := hz
  have hStays : portsStay z (setRank p rank s) := portsStay_evalAll (portsStay_setCheck _ _ _ (portsStay_same (portsStay_refl z) rfl rfl rfl))
  exact ⟨follows_trans hStays.1 hFollows, ev, (congrArg (fun l => l[p]?) hStays.2).trans hGet⟩

/-! ### ESMC PDUs -/

/-- What a port has received of quality levels (R273). -/
def qualityIn (r : PortRun) : Nat × Nat × Nat × Nat := (r.rxQl, r.esmcOrigin, r.esmcCounts)
/-- The quality that a port transmits does not change where no port's received quality does (R274). -/
theorem txQuality_updPort (k p : Nat) {f : PortRun → PortRun} (hf : ∀ r, qualityIn (f r) = qualityIn r) (s : State) :
    txQuality (updPort k f s) p = txQuality s p := by
  have hSame : ∀ i, qualityIn (nth (upd s.ports k f) i) = qualityIn (nth s.ports i) := fun i => nth_of_map qualityIn (map_upd_same qualityIn hf s.ports k) i
  have hRank : ∀ i, (nth (upd s.ports k f) i).rxQl = (nth s.ports i).rxQl := fun i => congrArg Prod.fst (hSame i)
  have hOrigin : ∀ i, (nth (upd s.ports k f) i).esmcOrigin = (nth s.ports i).esmcOrigin := fun i => congrArg (fun q => q.2.1) (hSame i)
  have hCounts : ∀ i, (nth (upd s.ports k f) i).esmcCounts = (nth s.ports i).esmcCounts := fun i => congrArg (fun q => q.2.2) (hSame i)
  simp only [txQuality, updPort_work, updPort_dplls, updPort_sels, updPort_ports, hRank, hOrigin, hCounts] <;> rfl
theorem esmcPdu_updPort (k p : Nat) {f : PortRun → PortRun} (hf : ∀ r, qualityIn (f r) = qualityIn r) (s : State) (event : Bool) :
    esmcPdu (updPort k f s) p event = esmcPdu s p event := by
  unfold esmcPdu
  rw [txQuality_updPort k p hf]
  rfl

/-- An ESMC PDU joins the untimed queue of its port (R274). -/
theorem sendEsmc_get {s : State} {p : Nat} {r : PortRun} (event : Bool) (h : s.ports[p]? = some r) :
    ∃ f sent, f.bytes = esmcPdu s p event ∧ (sendEsmc p event s).ports[p]? =
      some { r with untimed := r.untimed ++ [f], txQl := (txQuality s p).1, esmcSent := sent } := by
  have hSent := get_updPort (fun r => { r with
    txQl := (txQuality s p).1, esmcSent := s.now :: r.esmcSent.filter (fun x => decide (x + secPs > s.now)) }) h
  have hCells := portsStay_takeCells .hearts 1 (portsStay_refl (updPort p (fun r => { r with
    txQl := (txQuality s p).1, esmcSent := s.now :: r.esmcSent.filter (fun x => decide (x + secPs > s.now)) }) s))
  let f : TxFrame := { bytes := esmcPdu s p event, prio := (portCfg s p).defaultPrio, tag := .engine 64, suit := some .hearts, cells := 1 }
  exact ⟨f, _, rfl, get_updPort (fun r => { r with untimed := r.untimed ++ [f] }) ((congrArg (fun l => l[p]?) hCells.2).trans hSent)⟩

/-- The information PDU of a second goes out at its instant, and the next one is due a second later (R274). -/
theorem esmcTx_sends {s y : State} {p : Nat} {r : PortRun} (hs : s.ports[p]? = some r) (hUp : r.state = .up) (hOn : esmcTxOn s p = true)
    (hy : y = moveTo r.esmcNext s) (ht : txEnabled y p = true) (hRoom : esmcRoom y p = true) :
    esmcTx p s = sendEsmc p false (updPort p (fun r => { r with esmcNext := max y.now r.esmcNext + secPs }) y) := by
  have hyp : y.ports[p]? = some r := by rw [hy, moveTo_ports, hs]
  have hTakes : ¬ (!esmcTxOn s p || (portOf s p).state != .up) = true := by
    rw [hOn, portOf_of_get hs, hUp]
    decide
  have hPort := portOf_of_get (get_updPort (fun r => { r with esmcNext := max y.now r.esmcNext + secPs }) hyp)
  have hTx : txEnabled (updPort p (fun r => { r with esmcNext := max y.now r.esmcNext + secPs }) y) p = true := by
    rw [← ht, txEnabled, txEnabled, hPort, portOf_of_get hyp]
    rfl
  have hRoomLeft : esmcRoom (updPort p (fun r => { r with esmcNext := max y.now r.esmcNext + secPs }) y) p = true := by
    rw [← hRoom, esmcRoom, esmcRoom, hPort, portOf_of_get hyp]
    rfl
  unfold esmcTx
  rw [if_neg hTakes, portOf_of_get hs]
  dsimp only
  rw [← hy, hTx, hRoomLeft]
  rfl
theorem esmcTx_get {s y : State} {p : Nat} {r : PortRun} (hs : s.ports[p]? = some r) (hUp : r.state = .up) (hOn : esmcTxOn s p = true)
    (hy : y = moveTo r.esmcNext s) (ht : txEnabled y p = true) (hRoom : esmcRoom y p = true) :
    ∃ f sent, f.bytes = esmcPdu y p false ∧ (esmcTx p s).ports[p]? = some { r with
      untimed := r.untimed ++ [f], txQl := (txQuality y p).1, esmcSent := sent, esmcNext := max y.now r.esmcNext + secPs } := by
  have hyp : y.ports[p]? = some r := by rw [hy, moveTo_ports, hs]
  obtain ⟨f, sent, hBytes, hSent⟩ := sendEsmc_get false (get_updPort (fun r => { r with esmcNext := max y.now r.esmcNext + secPs }) hyp)
  rw [txQuality_updPort (f := fun r => { r with esmcNext := max y.now r.esmcNext + secPs }) p p fun _ => rfl] at hSent
  rw [esmcPdu_updPort (f := fun r => { r with esmcNext := max y.now r.esmcNext + secPs }) p p fun _ => rfl] at hBytes
  exact ⟨f, sent, hBytes, (congrArg (fun z : State => z.ports[p]?) (esmcTx_sends hs hUp hOn hy ht hRoom)).trans hSent⟩
/-- The event PDU goes out where the quality that the port transmits has changed (R274). -/
theorem esmcEventTx_sends {s x : State} {p t : Nat} {r : PortRun} (hx : x = begin_ t s) (hp : x.ports[p]? = some r) (hOn : esmcTxOn x p = true)
    (ht : txEnabled x p = true) (hRoom : esmcRoom x p = true) (hNew : (txQuality x p).1 ≠ r.txQl) :
    esmcEventTx p t s = sendEsmc p true x := by
  subst hx
  refine if_pos ?_
  rw [hOn, ht, hRoom, portOf_of_get hp, bne_iff_ne.mpr hNew]
  rfl

/-- Five seconds without a PDU: the rank is 15 (DNU), and the timeout is raised (R273). -/
theorem esmcTimeout_at {s : State} {p d : Nat} {r : PortRun} (hs : s.ports[p]? = some r) (hd : r.esmcBy = some d) (hOn : esmcRxOn s p = true) :
    esmcTimeout p s = setRank p 15 (updRef (12 + p) (fun r => { r with healthOk := false })
      (portEvent p 5 (updPort p (fun r => { r with esmcBy := none, esmcValid := false, extendedRx := false }) (moveTo d s)))) := by
  have hOnThen : esmcRxOn (moveTo d s) p = true := by rw [esmcRxOn, moveTo_work, ← esmcRxOn, hOn]
  unfold esmcTimeout
  rw [portOf_of_get hs, hd]
  dsimp only
  rw [hOnThen]
  rfl
theorem esmcTimeout_get {s : State} {p d : Nat} {r : PortRun} (hs : s.ports[p]? = some r) (hd : r.esmcBy = some d) (hOn : esmcRxOn s p = true) :
    kept (esmcTimeout p s) = kept s ∧ causeStands 8 5 (esmcTimeout p s) ∧ ∃ ev, (esmcTimeout p s).ports[p]? =
      some { r with esmcBy := none, esmcValid := false, extendedRx := false, rxQl := 15, events := ev } := by
  rw [esmcTimeout_at hs hd hOn]
  have hMoved : (moveTo d s).ports[p]? = some r := (congrArg (fun l => l[p]?) (moveTo_ports d s)).trans hs
  have hEnded := get_updPort (fun r => { r with esmcBy := none, esmcValid := false, extendedRx := false }) hMoved
  have hEvent := (congrArg (fun l => l[p]?) (portEvent_get 5 hEnded)).trans (List.getElem?_set_self (lt_length_of_get hEnded))
  obtain ⟨hFollows, ev, hRank⟩ := setRank_get (s := updRef (12 + p) (fun r => { r with healthOk := false }) (portEvent p 5 _)) 15 hEvent
  exact ⟨(kept_setRank p 15 _).trans ((kept_updRef _ _ _).trans ((kept_portEvent p 5 _).trans ((kept_updPort p _ _).trans (kept_moveTo d s)))),
    hFollows.2 8 5 (stands_raiseIdx_self 8 5 p _ (by decide)), ev, hRank⟩

end Sys2Proof.Machine
end
section
/-! PROOFS. The rows of the ports' states, of the Partner link's lanes and of quality levels, assembled (R249 to R274, R396). -/
namespace Sys2Proof.Machine
open Sys2Proof Host

theorem calInRange_iff (s : State) (k : Nat) (d : Int × Int) : calInRange s k d = true ↔
    (nth s.fuse.cal k).txMin ≤ d.1 ∧ d.1 ≤ (nth s.fuse.cal k).txMax ∧ (nth s.fuse.cal k).rxMin ≤ d.2 ∧ d.2 ≤ (nth s.fuse.cal k).rxMax := decide_eq_true_iff

/-- LINK_LOSS and CAL_LOST act while the chip runs, on a port or on a lane of the Partner link. -/
theorem next_onPort {s z a b : State} {p : Nat} (hrun : running s = true) (hp : p < 16) :
    (.next (if !running s then z else if p < 16 then a else b) : Outcome State Fault Refusal) = .next a := by
  rw [hrun, if_neg (by decide), if_pos hp]
theorem next_onLane {s z : State} {f : Nat → State} (hrun : running s = true) (n : Nat) (a : State) :
    (.next (if !running s then z else if 16 + n < 16 then a else f (16 + n - 16)) : Outcome State Fault Refusal) = .next (f n) := by
  rw [hrun, if_neg (by decide), if_neg (by omega), Nat.add_sub_cancel_left]
theorem next_portRow {a b : State} {p : Nat} (hp : p < 16) : (.next (if p < 16 then a else b) : Outcome State Fault Refusal) = .next a := by
  rw [if_pos hp]
theorem next_laneRow {f : Nat → State} (n : Nat) (a : State) :
    (.next (if 16 + n < 16 then a else f (16 + n - 16)) : Outcome State Fault Refusal) = .next (f n) := by
  rw [if_neg (by omega), Nat.add_sub_cancel_left]

/-- Settles O33, row by row: each row's equation on its case, and what it leaves of its port or lane. -/
theorem portStates_settled : Obligations.PortStates := by
  unfold Obligations.PortStates
  refine ⟨?calibration, ?lock, ?aligned, ?loss, ?calLost, ?lanes, ?sample, ?timeout, ?tx, ?eventTx⟩
  case calibration =>
    intro p t ok temp dLoop dRx s r x f dTx dRx' inRange hp hrun hGet hs
    obtain ⟨data, hEnd⟩ := calibrationEnd_of (t := t) (s := s) (x := x) rfl hrun hGet hs ok temp dLoop dRx
    have hrow : exec (.calibrationEnd p t ok temp dLoop dRx) s = .next (calibrationEnd p t ok temp dLoop dRx s) := next_portRow hp
    have hKept : kept (calibrationEnd p t ok temp dLoop dRx s) = kept x := (kept_calibrationEnd p t ok temp dLoop dRx s).trans (kept_begin_ t s).symm
    have hIn := calInRange_iff x p (calDelays x p dLoop dRx)
    obtain ⟨hPass, hPassPorts, hFail, hFailPorts⟩ := calEnded_get temp (calDelays x p dLoop dRx) hGet
    refine ⟨fun hOk hRange => ⟨_, hrow, hKept, ?_⟩, fun hNot => ⟨_, hrow, hKept, ?_⟩⟩
    · rw [hEnd, show (ok && calInRange x p (calDelays x p dLoop dRx)) = true from Bool.and_eq_true_iff.mpr ⟨hOk, hIn.mpr hRange⟩]
      obtain ⟨hStays, hPorts⟩ := portsStay_calAnswered p data (calEnded p true temp (calDelays x p dLoop dRx) x)
      exact ⟨hStays.2 8 2 hPass, hPorts.trans hPassPorts⟩
    · have hEnded : (ok && calInRange x p (calDelays x p dLoop dRx)) = false := by
        rw [Bool.and_eq_false_iff]
        exact hNot.imp_right fun h => Bool.eq_false_iff.mpr (mt hIn.mp h)
      rw [hEnd, hEnded]
      obtain ⟨hStays, hPorts⟩ := portsStay_calAnswered p data (calEnded p false temp (calDelays x p dLoop dRx) x)
      exact ⟨hStays.2 8 4 hFail, hPorts.trans hFailPorts⟩
  case lock =>
    intro p t f an s r x hp hrun hGet hs hf
    have hLock := blockLock_of (t := t) (s := s) (x := x) rfl hrun hGet hs hf
    have hrow : ∀ an, exec (.blockLock p t f an) s = .next (blockLock p t f an s) := fun an => next_portRow hp
    refine ⟨fun hOff => ?_, fun hOn hNone => ?_, fun b hOn hSome => ?_⟩
    · rw [hrow, hLock, hOff, Bool.false_and, if_neg (by decide), updPort_of_get _ hGet]
      rfl
    · rw [hrow, hLock, hOn, hNone]
      rfl
    · rw [hrow, hLock, hOn, hSome, Option.isNone_some, Bool.and_false, if_neg (by decide), updPort_of_get _ hGet]
      cases b <;> rfl
  case aligned =>
    intro p t dTx dRx s r x hp hrun hGet hs
    obtain ⟨by_, hUp⟩ := alignmentDone_up (t := t) (s := s) (x := x) rfl hrun hGet hs dTx dRx
    have hrow : exec (.alignmentDone p t true dTx dRx) s = .next (alignmentDone p t true dTx dRx s) := next_portRow hp
    obtain ⟨hStays, hPorts⟩ := portsStay_startPort p (portsStay_refl (portEvent p 0 (updPort p (alignedRun (dTx, dRx) by_ x.now) x)))
    have hAligned := get_updPort (alignedRun (dTx, dRx) by_ x.now) hGet
    have hPort : portOf (alignmentDone p t true dTx dRx s) p = { alignedRun (dTx, dRx) by_ x.now r with events := setBit r.events 0 } := by
      rw [hUp, portOf_of_ports hPorts, portOf, portEvent_get 0 hAligned]
      exact nth_of_get (List.getElem?_set_self (lt_length_of_get hAligned))
    refine ⟨_, hrow, (kept_alignmentDone p t true dTx dRx s).trans (kept_begin_ t s).symm, ?_, ?_⟩
    · rw [hUp]
      exact hStays.2 8 0 (stands_raiseIdx_self 8 0 p _ (by decide))
    · rw [hPort]
      exact ⟨rfl, rfl, rfl, rfl, rfl⟩
  case loss =>
    intro p t s r hrun x hp hGet
    have hLoss := linkLoss_of (t := t) (s := s) (x := x) rfl hGet
    have hrow : exec (.linkLoss p t) s = .next (linkLoss p t s) := next_onPort hrun hp
    have hKept : kept (linkLoss p t s) = kept x := (kept_linkLoss p t s).trans (kept_begin_ t s).symm
    obtain ⟨hDown, hTimed, hUntimed, hCalendar, hAn, hStands⟩ := linkLost_facts hGet
    refine ⟨fun hs => ⟨_, hrow, hKept, ?_⟩, fun hs => ⟨_, hrow, hKept, ?_⟩, fun hs => ?_⟩
    · rw [hLoss, hs, if_pos (by decide)]
      exact ⟨hDown, hTimed, hUntimed, hCalendar, hAn, linkLost_idle hGet hs⟩
    · rw [hLoss, hs, if_pos (by decide)]
      exact ⟨hStands hs, hDown, hTimed, hUntimed, hCalendar, hAn⟩
    · rw [hrow, hLoss, if_neg]
      rcases hs with h | h | h <;> rw [h] <;> decide
  case calLost =>
    intro p t y fault s r hrun x hp hGet
    have hrow : exec (.calLost p t y fault) s = .next (calLost p t y fault s) := next_onPort hrun hp
    refine ⟨fun hNot => ?_, fun hOk hSound hNear => ?_, fun hOk hFar => ?_⟩
    · exact hrow.trans (congrArg Outcome.next (calLost_uncalibrated rfl hGet y fault hNot))
    · subst hSound
      exact hrow.trans (congrArg Outcome.next (calLost_corrects rfl hGet hOk hNear))
    · obtain ⟨hStands, hBound, hNone, hTemp, hAuto⟩ := loseCal_facts (readTemp_get y hGet)
      refine ⟨_, hrow, (kept_calLost p t y fault s).trans (kept_begin_ t s).symm, ?_⟩
      rw [calLost_loses (x := x) rfl hGet hOk hFar]
      exact ⟨hStands, hBound, hNone, hTemp, hAuto⟩
  case lanes =>
    intro n t s l x with_ hGet hrun
    have hs : running s = true := (running_moveTo t { s with out := [] }).symm.trans hrun
    refine ⟨fun hState temp dLoop dRx hRange => ?_, fun hState f an => ?_, fun hState dTx dRx => ?_, fun hState => ?_, fun y => ?_⟩
    · exact (next_laneRow (f := fun k => laneCalEnd k true temp dLoop dRx x) n _).trans
        (congrArg Outcome.next (laneCalEnd_passes hGet hrun hState hRange))
    · exact (next_laneRow (f := fun k => laneLock k x) n _).trans (congrArg Outcome.next (laneLock_aligns hGet hrun hState))
    · exact (next_laneRow (f := fun k => laneAligned k true dTx dRx x) n _).trans
        (congrArg Outcome.next (laneAligned_up hGet hrun hState dTx dRx))
    · exact ⟨_, (next_onLane (f := fun k => laneLoss k x) hs n _).trans (congrArg Outcome.next (laneLoss_down hGet hState)),
        stands_raise_self 12 9 _ (by decide), plain_raise 12 9 _⟩
    · exact (next_onLane (f := fun k => laneCalLost k y true x) hs n _).trans (congrArg Outcome.next (laneCalLost_faults hGet y))
  case sample =>
    intro p t s r f x hrun hGet hs hf hOn _
    exact ⟨_, congrArg Outcome.next (synceSample_delivers (t := t) (s := s) (x := x) rfl hrun hGet hs hf hOn), rfl, rfl, rfl⟩
  case timeout =>
    intro p d s r hrun hGet hd hOn
    obtain ⟨hKept, hStands, ev, hPort⟩ := esmcTimeout_get (s := { s with out := [] }) hGet hd hOn
    refine ⟨_, next_whileRunning hrun (esmcTimeout p), hKept, hStands, ?_⟩
    rw [portOf_of_get hPort]
    exact ⟨rfl, rfl, rfl⟩
  case tx =>
    intro p s r hrun hGet hUp hOn y ht hRoom
    obtain ⟨f, sent, hBytes, hSent⟩ := esmcTx_get (s := { s with out := [] }) hGet hUp hOn rfl ht hRoom
    refine ⟨_, f, next_whileRunning hrun (esmcTx p), kept_esmcTx p _, ?_⟩
    rw [portOf_of_get hSent]
    exact ⟨rfl, hBytes, rfl, rfl⟩
  case eventTx =>
    intro p t s r hrun x hGet hOn ht hRoom hNew
    have hSends := esmcEventTx_sends (t := t) (s := s) (x := x) rfl hGet hOn ht hRoom hNew
    obtain ⟨f, sent, hBytes, hSent⟩ := sendEsmc_get true hGet
    refine ⟨_, f, congrArg Outcome.next ((if_pos hrun).trans hSends), kept_sendEsmc p true x, ?_⟩
    rw [portOf_of_get hSent]
    exact ⟨rfl, hBytes, rfl⟩

end Sys2Proof.Machine
end
section
/-! PROOFS. Transmit frames that are fetched, DMA errors, and the PCIe link (R298, R504, R509, R510, R519, R521, R557). -/
namespace Sys2Proof.Machine
open Sys2Proof Host

/-! ### Rings, but for the event entries that are due -/

/-- A ring without its event entries that are due: what a condition that occurs leaves of it (R506). -/
def undue (g : Ring) : Ring := { g with due := [] }
def undueRings (s : State) : List Ring := s.host.rings.map undue

theorem undueRings_eventDue (e : EventDue) (s : State) : undueRings (eventDue e s) = undueRings s := by
  unfold eventDue
  generalize List.range 32 = l
  induction l generalizing s with
  | nil => rfl
  | cons k l ih =>
    rw [List.foldl_cons, ih]
    dsimp only
    split
    · exact map_upd_same undue (f := fun g : Ring => { g with due := g.due ++ [e] }) (fun _ => rfl) _ _
    · rfl
theorem undueRings_irqEdge (b : Bool) (s : State) : undueRings (irqEdge b s) = undueRings s := by
  unfold irqEdge msixSend
  split
  · split
    · split <;> rfl
    · rfl
  · rfl
theorem undueRings_setCause (c b i : Nat) (s : State) : undueRings (setCause c b i s) = undueRings s := by
  unfold setCause
  dsimp only
  split
  · rfl
  · rw [undueRings_irqEdge, undueRings_eventDue]
    rfl
/-- A condition that is no occurrence of the Scorecard sets its cause, and that is all (R534). -/
theorem raise_plainCause {c b : Nat} {s : State} (h : causeOcc c b 0 (setCause c b 0 s) = none) : raise c b s = setCause c b 0 s := by
  unfold raise raiseIdx
  dsimp only
  rw [h]
theorem undueRings_shedCheck (s : State) : undueRings (shedCheck s) = undueRings s := by
  have hs : undueRings (if sharedFree s < s.work.svc.shedFree && !s.svc.shedding then raise 9 4 { s with svc := { s.svc with shedding := true } } else s) = undueRings s := by
    split
    · rw [raise_plainCause rfl]
      exact undueRings_setCause 9 4 0 _
    · rfl
  exact hs

/-- A ring of a state has a counterpart in one whose rings are the same but for what is due. -/
theorem ring_of_undue {s t : State} {r : Nat} {g : Ring} (h : undueRings t = undueRings s) (hGet : s.host.rings[r]? = some g) :
    ∃ g', t.host.rings[r]? = some g' ∧ undue g' = undue g := by
  have hMap : t.host.rings[r]?.map undue = some (undue g) := by
    rw [← List.getElem?_map]
    exact (congrArg (·[r]?) h).trans (by rw [undueRings, List.getElem?_map, hGet]; rfl)
  exact Option.map_eq_some_iff.mp hMap
theorem get_updRing {s : State} {r : Nat} {g : Ring} (f : Ring → Ring) (h : s.host.rings[r]? = some g) :
    (updRing r f s).host.rings[r]? = some (f g) := by
  have hAt : (updRing r f s).host.rings[r]? = (upd s.host.rings r f)[r]? := rfl
  rw [hAt, upd_get, if_pos rfl, h]
  rfl
theorem ringOf_of_get {s : State} {r : Nat} {g : Ring} (h : s.host.rings[r]? = some g) : ringOf s r = g := nth_of_get h

/-! ### Faults of a ring (R504) -/

/-- Ring `r` is disabled, and faults with a cause. -/
def faultedBy (r cause : Nat) (s : State) : Prop :=
  ∃ g, s.host.rings[r]? = some g ∧ g.enable = false ∧ g.fault = true ∧ g.faultCause = cause

theorem faultedBy_of_undue {s t : State} {r cause : Nat} (h : undueRings t = undueRings s) (hf : faultedBy r cause s) : faultedBy r cause t := by
  obtain ⟨g, hGet, hEnable, hFault, hCause⟩ := hf
  obtain ⟨g', hGet', hSame⟩ := ring_of_undue h hGet
  have hE := congrArg Ring.enable hSame
  have hF := congrArg Ring.fault hSame
  have hC := congrArg Ring.faultCause hSame
  exact ⟨g', hGet', hE.trans hEnable, hF.trans hFault, hC.trans hCause⟩
theorem faultedBy_updRing {s : State} {r cause : Nat} {f : Ring → Ring} (hf : ∀ g, ((f g).enable, (f g).fault, (f g).faultCause) = (g.enable, g.fault, g.faultCause))
    (h : faultedBy r cause s) : faultedBy r cause (updRing r f s) := by
  obtain ⟨g, hGet, hEnable, hFault, hCause⟩ := h
  have hSame := hf g
  simp only [Prod.mk.injEq] at hSame
  obtain ⟨hE, hF, hC⟩ := hSame
  exact ⟨f g, get_updRing f hGet, hE.trans hEnable, hF.trans hFault, hC.trans hCause⟩
theorem ringFault_setCause (r cause : Nat) (s : State) : ringFault r cause s =
    setCause 0 8 0 (updRing r (fun g => { g with enable := false, fault := true, faultCause := cause, due := [] }) s) := raise_plainCause rfl
theorem faultedBy_ringFault {s : State} {r : Nat} {g : Ring} (cause : Nat) (h : s.host.rings[r]? = some g) : faultedBy r cause (ringFault r cause s) := by
  rw [ringFault_setCause]
  exact faultedBy_of_undue (undueRings_setCause 0 8 0 _) ⟨_, get_updRing _ h, rfl, rfl, rfl⟩
theorem base_ringFault (r cause : Nat) (s : State) : base (ringFault r cause s) = base s := by
  rw [ringFault_setCause, base_setCause, base_updRing]
theorem stands_ringFault (r cause : Nat) (s : State) : causeStands 0 8 (ringFault r cause s) := stands_raise_self 0 8 _ (by decide)

/-- The frame that a receive ring loses: it stays faulted, and its causes stand (R504, R508). -/
theorem ringShort_faulted {s : State} {r cause : Nat} (e : RxItem) (h : faultedBy r cause s) :
    faultedBy r cause (ringShort r e s) ∧ follows s (ringShort r e s) := by
  have hRelease : undueRings (releaseItem e s) = undueRings s ∧ follows s (releaseItem e s) := by
    unfold releaseItem
    split
    · exact ⟨rfl, follows_refl s⟩
    · have hSub : follows s (subOccupancy e.port e.prio (e.data.length + 4) s) := follows_updPort _ _ (follows_refl s)
      exact ⟨undueRings_shedCheck _, follows_trans (counted_shedCheck (counted_refl _)).1 (follows_same hSub rfl rfl)⟩
  obtain ⟨hRings, hFollows⟩ := hRelease
  unfold ringShort
  split
  · exact ⟨h, follows_refl s⟩
  · have hCount : faultedBy r cause (updRing r (fun g => { g with ringShort := add48 g.ringShort 1 }) (releaseItem e s)) :=
      faultedBy_updRing (fun _ => rfl) (faultedBy_of_undue hRings h)
    refine ⟨?_, follows_raise 0 5 (follows_bump 35 (follows_updRing r _ hFollows))⟩
    rw [raise_plainCause rfl]
    exact faultedBy_of_undue (undueRings_setCause 0 5 0 _) hCount

/-- A failed transfer of a ring that runs faults it with cause 1 (R504). -/
theorem dmaError_faults {r t : Nat} {s x : State} {g : Ring} (hx : begin_ t s = x) (hDma : dmaOn x = true) (hGet : x.host.rings[r]? = some g)
    (hEnable : g.enable = true) : faultedBy r 1 (dmaError r t s) ∧ causeStands 0 8 (dmaError r t s) := by
  have hFault := faultedBy_ringFault 1 hGet
  have hStands := stands_ringFault r 1 x
  have hRuns : ¬ (!dmaOn x || !(ringOf x r).enable) = true := by rw [hDma, ringOf_of_get hGet, hEnable]; decide
  unfold dmaError
  rw [hx]
  dsimp only
  rw [if_neg hRuns]
  split
  next e rest _ =>
    split
    · obtain ⟨hShort, hFollows⟩ := ringShort_faulted (r := r) e (faultedBy_updRing (f := fun g => { g with queue := rest }) (fun _ => rfl) hFault)
      exact ⟨hShort, hFollows.2 0 8 (stands_of_cause rfl hStands)⟩
    · exact ⟨hFault, hStands⟩
  next => exact ⟨hFault, hStands⟩

/-! ### TX_FETCH (R298, R504, R509) -/

theorem txCells_shedCheck (s : State) : (shedCheck s).svc.txCells = s.svc.txCells := by
  unfold shedCheck
  dsimp only
  split
  · rw [raise_svc]
  · rfl
/-- A transmit ring that may fetch `n` descriptors: DMA runs, the ring is enabled and in use, and its doorbell is that far on (R504, R509). -/
structure MayFetch (x : State) (r n : Nat) (g : Ring) : Prop where
  dma : dmaOn x = true
  low : 96 ≤ r
  high : r < 192
  get : x.host.rings[r]? = some g
  enabled : g.enable = true
  used : (nth x.work.rings r).use = 1
  reach : n ≤ idxDist g.db g.fetched

theorem MayFetch.passes {x : State} {r n : Nat} {g : Ring} (h : MayFetch x r n g) :
    ¬ (!dmaOn x || !isTx r || !(ringOf x r).enable || (nth x.work.rings r).use != 1 || decide (idxDist (ringOf x r).db (ringOf x r).fetched < n)) = true := by
  have hTx : isTx r = true := decide_eq_true ⟨h.low, h.high⟩
  rw [ringOf_of_get h.get, h.dma, hTx, h.enabled, h.used, decide_eq_false (Nat.not_lt.mpr h.reach)]
  decide

theorem txFetch_broken {r t : Nat} {ds : List Bytes} {s x : State} {g : Ring} (hx : begin_ t s = x) (hMay : MayFetch x r ds.length g)
    (hChain : chainOf ds = .broken) (data : Bytes) : txFetch r t ds data s = ringFault r 2 x := by
  unfold txFetch
  rw [hx]
  dsimp only
  rw [if_neg hMay.passes, hChain]

/-- The ring has passed the descriptors of a frame and counted its bytes, and the host's frames hold its cells (R298, R509). -/
def frameTaken (x : State) (r n len cells : Nat) (insert : Bool) : State :=
  let took := updRing r (fun g => { g with fetched := (g.fetched + n) % 65536, bytes := add48 g.bytes len }) x
  let y := if insert then useFree took else took
  { y with svc := { y.svc with txCells := y.svc.txCells + cells } }

theorem frameTaken_fields (x : State) (r n len cells : Nat) (insert : Bool) :
    (frameTaken x r n len cells insert).ports = x.ports ∧ (frameTaken x r n len cells insert).svc.txCells = x.svc.txCells + cells ∧
    (frameTaken x r n len cells insert).host.rings = upd x.host.rings r (fun g => { g with fetched := (g.fetched + n) % 65536, bytes := add48 g.bytes len }) := by
  cases insert <;> exact ⟨rfl, rfl, rfl⟩

/-- A whole chain with its data, a frame that is not rejected and has room, and no launch time: the frame waits behind the others on its port. -/
theorem txFetch_whole {r t : Nat} {d : Bytes} {ds : List Bytes} {data : Bytes} {s x : State} {g : Ring} (hx : begin_ t s = x)
    (hMay : MayFetch x r (d :: ds).length g) (hChain : chainOf (d :: ds) = .whole)
    (hData : data.length = ((d :: ds).map fun y => fld y 8 4).foldl (· + ·) 0)
    (hTaken : txRejected (portCfg x (nth x.work.rings r).port).maxFrame data.length d = false) (hRoom : txRoom x (cellsOf (data.length + 4)) = true)
    (hNow : (fld d 12 1).testBit 2 = false) :
    let f := hostFrame x r (d :: ds).length (cellsOf (data.length + 4)) d data
    f.launch = none ∧ txFetch r t (d :: ds) data s = updPort (nth x.work.rings r).port (fun p => { p with untimed := p.untimed ++ [f] })
      (shedCheck (frameTaken x r (d :: ds).length data.length (cellsOf (data.length + 4)) (bit (dFlags d) 4))) := by
  intro f
  have hLaunch : f.launch = none := if_neg (by rw [show bit (dFlags d) 2 = false from hNow]; decide)
  refine ⟨hLaunch, ?_⟩
  unfold txFetch
  rw [hx]
  dsimp only
  rw [if_neg hMay.passes, hChain]
  dsimp only
  rw [if_neg (not_not.mpr hData), if_neg (by rw [hTaken]; decide), if_neg (by rw [hRoom]; decide)]
  unfold enqueue
  rw [show (hostFrame x r (d :: ds).length (cellsOf (data.length + 4)) d data).launch = none from hLaunch]
  rfl

/-- What the fetched frame leaves of the ring, the cells and the port. -/
theorem frameQueued_fields {x : State} {r n len cells p : Nat} {insert : Bool} {g : Ring} {port : PortRun} (f : TxFrame)
    (hGet : x.host.rings[r]? = some g) (hPort : x.ports[p]? = some port) :
    let y := updPort p (fun q => { q with untimed := q.untimed ++ [f] }) (shedCheck (frameTaken x r n len cells insert))
    (∃ g', y.host.rings[r]? = some g' ∧ g'.fetched = (g.fetched + n) % 65536 ∧ g'.bytes = (g.bytes + len) % 2 ^ 48 ∧ g'.head = g.head) ∧
    y.svc.txCells = x.svc.txCells + cells ∧ y.ports = x.ports.set p { port with untimed := port.untimed ++ [f] } := by
  intro y
  obtain ⟨hPorts, hCells, hRings⟩ := frameTaken_fields x r n len cells insert
  have hTook : (frameTaken x r n len cells insert).host.rings[r]? = some { g with fetched := (g.fetched + n) % 65536, bytes := add48 g.bytes len } := by
    rw [hRings, upd_get, if_pos rfl, hGet]
    rfl
  obtain ⟨g', hGet', hSame⟩ := ring_of_undue (undueRings_shedCheck (frameTaken x r n len cells insert)) hTook
  have hFetched := congrArg Ring.fetched hSame
  have hBytes := congrArg Ring.bytes hSame
  have hHead := congrArg Ring.head hSame
  have hStay : (shedCheck (frameTaken x r n len cells insert)).ports = x.ports := (portsStay_shedCheck (portsStay_refl _)).2.trans hPorts
  exact ⟨⟨g', hGet', hFetched, hBytes, hHead⟩, (txCells_shedCheck _).trans hCells,
    ports_updPort_of_get (s := shedCheck (frameTaken x r n len cells insert)) _ (by rw [hStay]; exact hPort) |>.trans (by rw [hStay])⟩

/-! ### The link (R519, R521, R557) -/

/-- Ring commands that are discarded leave their answers in their slots, and nothing else changes (R519). -/
theorem discardEntries_only (l : List QEntry) (s : State) : ∃ slots, l.foldl discardEntry s = { s with host := { s.host with slots := slots } } := by
  induction l generalizing s with
  | nil => exact ⟨_, rfl⟩
  | cons e l ih =>
    obtain ⟨slots, h⟩ := ih (discardEntry s e)
    exact ⟨slots, h⟩
/-- A reset of the PCIe interface, but for the slots of the commands that it discards. -/
theorem pcieReset_only (down : Bool) (x : State) : ∃ slots, pcieReset down x = { x with
    host := { x.host with
      slots := slots, pcie := {}, msixEn := false, msixPend := false, vecMask := true, funcMask := false, busMaster := false
      linkWidth := if down then 0 else x.host.linkWidth, linkGen := if down then 0 else x.host.linkGen
      rings := x.host.rings.map fun g => { g with enable := false, db := 0, secondDb := 0, dbBefore := none, due := [] }
      queue := x.host.queue.filter fun e => !fromRing e.req
      waits := x.host.waits.map fun w => if fromRing w.req then { w with muted := true } else w }
    boot := { x.boot with perst := x.boot.perst && !down, training := x.boot.training && !down } } := by
  obtain ⟨slots, h⟩ := discardEntries_only (x.host.queue.filter fun e => fromRing e.req) x
  refine ⟨slots, ?_⟩
  unfold pcieReset
  dsimp only
  rw [h]
theorem muted_of_reset {l : List Wait} {w : Wait} (h : w ∈ l.map fun w => if fromRing w.req then { w with muted := true } else w)
    (hRing : fromRing w.req = true) : w.muted = true := by
  obtain ⟨v, -, rfl⟩ := List.mem_map.mp h
  by_cases hv : fromRing v.req = true
  · rw [if_pos hv]
  · rw [if_neg hv] at hRing
    exact absurd hRing hv
/-- While the host's own interface asks for nothing, a reset of PCIe starts no command. -/
theorem execPcieReset_next {t : Nat} {s x : State} (hx : begin_ t s = x) (down : Bool) (hSpi : x.host.spi.go = false) :
    execPcieReset t down s = .next (pcieReset down x) := by
  obtain ⟨slots, h⟩ := pcieReset_only down x
  unfold execPcieReset
  rw [hx, acceptGo_off (by rw [h]) (by rw [h]; exact hSpi)]
theorem linkTraining_starts {t : Nat} {s x : State} (hx : begin_ t s = x) (hRun : running x = true) :
    linkTraining t s = { x with boot := { x.boot with training := true, perst := true } } := by
  have hGood : x.boot.powerGood = true := by
    unfold running at hRun
    simp only [Bool.and_eq_true] at hRun
    exact hRun.2
  unfold linkTraining
  rw [hx]
  dsimp only
  rw [if_pos (by rw [hRun, hGood]; rfl)]
theorem linkUp_comes {t width gen : Nat} {s x : State} (hx : begin_ t s = x) (hRun : running x = true) (hTrain : x.boot.training = true)
    (hWidth : width = 1 ∨ width = 2 ∨ width = 4) (hLow : 1 ≤ gen) (hHigh : gen ≤ 4) :
    linkUp t width gen s = { x with host := { x.host with linkWidth := width, linkGen := gen, busMaster := true } } := by
  have hLanes : ([1, 2, 4] : List Nat).contains width = true := by
    rcases hWidth with rfl | rfl | rfl <;> rfl
  unfold linkUp
  rw [hx]
  dsimp only
  rw [if_pos (by rw [hRun, hTrain, hLanes, decide_eq_true ⟨hLow, hHigh⟩]; rfl)]

/-! ### The statement -/

/-- A row of the rings does its work while the root-derived clocks run (R19). -/
theorem next_if_running {s : State} (h : running s = true) (a b : State) :
    (Outcome.next (if running s then a else b) : Outcome State Fault Refusal) = .next a := congrArg Outcome.next (if_pos h)

/-- Settles O51, row by row: the frame that is fetched, the fault of a ring, and the reset and the rise of the link. -/
theorem transferAndLink : Obligations.TransferAndLink := by
  refine ⟨?fetch, ?error, ?reset, ?training, ?up⟩
  case fetch =>
    intro r t d ds data s g port hRun x c n cells hDma hLow hHigh hGet hEnable hUse hReach
    have hMay : MayFetch x r n g := ⟨hDma, hLow, hHigh, hGet, hEnable, hUse, hReach⟩
    have hRow : exec (.txFetch r t (d :: ds) data) s = .next (txFetch r t (d :: ds) data s) := next_if_running hRun _ _
    refine ⟨fun hChain hData hTaken hRoom hNow hPort => ?_, fun hChain => ?_⟩
    · obtain ⟨hLaunch, hFetch⟩ := txFetch_whole rfl hMay hChain hData hTaken hRoom hNow
      obtain ⟨⟨g', hRing⟩, hCells, hPorts⟩ := frameQueued_fields (n := n) (len := data.length) (cells := cells) (insert := bit (dFlags d) 4)
        (hostFrame x r n cells d data) hGet hPort
      rw [← hFetch] at hRing hCells hPorts
      obtain ⟨hGet', hFetched, hBytes, hHead⟩ := hRing
      exact ⟨_, g', _, _, hRow, (kept_txFetch _ _ _ _ _).trans (kept_begin_ t s).symm, hGet', hFetched, hBytes, hHead, hCells, hPorts, rfl,
        rfl, rfl, hLaunch, rfl⟩
    · rw [hRow, txFetch_broken rfl hMay hChain]
      obtain ⟨g', hGet', hOff, hFault, hCause⟩ := faultedBy_ringFault 2 hGet
      exact ⟨_, g', rfl, base_ringFault r 2 x, hGet', hOff, hFault, hCause, stands_ringFault r 2 x⟩
  case error =>
    intro r t s g hRun x hDma hGet hEnable
    obtain ⟨⟨g', hGet', hOff, hFault, hCause⟩, hStands⟩ := dmaError_faults (t := t) (s := s) rfl hDma hGet hEnable
    exact ⟨_, g', next_if_running hRun _ _, (kept_dmaError r t s).trans (kept_begin_ t s).symm, hGet', hOff, hFault, hCause, hStands⟩
  case reset =>
    intro t down s x hSpi
    obtain ⟨slots, hReset⟩ := pcieReset_only down x
    refine ⟨pcieReset down x, execPcieReset_next rfl down hSpi, kept_pcieReset down x, ?_⟩
    rw [hReset]
    refine ⟨rfl, rfl, rfl, rfl, rfl, rfl, rfl, fun h => ?_, fun h => ?_, fun r g hGet => ?_, fun e he => ?_, fun w hw hRing => muted_of_reset hw hRing⟩
    · subst h; exact ⟨rfl, rfl⟩
    · subst h; exact ⟨rfl, rfl⟩
    · dsimp only
      rw [List.getElem?_map, hGet]
      rfl
    · have hNot := (List.mem_filter.mp he).2
      simpa using hNot
  case training =>
    intro t s x hRun
    exact congrArg Outcome.next (linkTraining_starts rfl hRun)
  case up =>
    intro t width gen s x hRun hTrain hWidth hLow hHigh
    exact congrArg Outcome.next (linkUp_comes rfl hRun hTrain hWidth hLow hHigh)

end Sys2Proof.Machine
end
section
/-! PROOFS. What leaves the packet service as it was: replies, causes, samples, the bound, and the parts of the PTP and NTP services. -/
namespace Sys2Proof.Machine
open Sys2Proof Host

theorem svc_of_offChoice {s t : State} (h : offChoice t = offChoice s) : t.svc = s.svc := by
  have e : (offChoice t).svc = (offChoice s).svc := by rw [h]
  exact e
@[simp] theorem svc_ite {c : Prop} [Decidable c] (a b : State) : (if c then a else b).svc = if c then a.svc else b.svc := apply_ite State.svc c a b
theorem svc_foldl {α : Type} (f : State → α → State) (hf : ∀ s a, (f s a).svc = s.svc) (l : List α) (s : State) : (l.foldl f s).svc = s.svc := by
  induction l generalizing s with
  | nil => rfl
  | cons a l ih => exact (ih _).trans (hf s a)

/-! ### Causes, rings and ports -/

@[simp] theorem bump_svc (n : Nat) (s : State) : (bump n s).svc = s.svc := rfl
@[simp] theorem ringEvent_svc (r : Nat) (s : State) : (ringEvent r s).svc = s.svc := svc_of_plain (plain_base (base_ringEvent r s))
@[simp] theorem forward_svc (x : LockInput) (s : State) : (forward x s).svc = s.svc := svc_of_plain (plain_forward x s)
@[simp] theorem settleBound_svc (s : State) : (settleBound s).svc = s.svc := svc_of_offChoice (offChoice_settleBound s)
@[simp] theorem evalAll_svc (s : State) : (evalAll s).svc = s.svc := svc_of_offChoice (offChoice_evalAll s)
@[simp] theorem setRate_svc (d : Nat) (r : Int) (s : State) : (setRate d r s).svc = s.svc := svc_of_offChoice (offChoice_setRate d r s)
@[simp] theorem tTake_svc (o : Nat) (s : State) : (tTake o s).svc = s.svc := svc_of_offChoice (offChoice_tTake o s)
@[simp] theorem judge_svc (o : Nat) (j : Int) (u : Nat) (s : State) : (judge o j u s).svc = s.svc := svc_of_offChoice (offChoice_judge o j u s)
@[simp] theorem portCount_svc (p j : Nat) (s : State) : (portCount p j s).svc = s.svc := svc_of_plain (plain_portCount p j s)
@[simp] theorem portEvent_svc (p e : Nat) (s : State) : (portEvent p e s).svc = s.svc := by rw [portEvent, raiseIdx_svc, updPort_svc]
@[simp] theorem filterFrame_svc (ty : Nat) (u : Suit) (p n : Nat) (s : State) : (filterFrame ty u p n s).svc = s.svc := by
  refine svc_foldl _ (fun x f => ?_) _ s
  dsimp only
  rw [svc_ite, bumpBy_svc, ite_self]
theorem onceInHand_svc (c b : Nat) (l : Option Nat) (s : State) : (onceInHand c b l s).2.svc = s.svc := by
  unfold onceInHand
  split
  · rfl
  · exact raise_svc c b s
@[simp] theorem tsqWrite_svc (p r first : Nat) (late dropped : Bool) (stamp : Nat) (s : State) : (tsqWrite p r first late dropped stamp s).svc = s.svc := by
  simp only [tsqWrite, svc_ite, raise_svc, bump_svc, ringEvent_svc, updRing_svc, emit_svc, ite_self]
@[simp] theorem hostDone_svc (p r first last : Nat) (report late : Bool) (outcome stamp : Nat) (s : State) :
    (hostDone p r first last report late outcome stamp s).svc = s.svc := by
  simp only [hostDone, svc_ite, tsqWrite_svc, ringEvent_svc, updRing_svc, emit_svc, ite_self]
@[simp] theorem receiptGone_svc (k : Kind) (s : State) : (receiptGone k s).svc = s.svc := by
  rw [receiptGone, svc_ite, ite_self]

/-! ### Samples of a source (R74, R105, R119) -/

@[simp] theorem refEvent_svc (o ev : Nat) (c : Option Nat) (s : State) : (refEvent o ev c s).svc = s.svc := by
  cases c with
  | none => rfl
  | some b => exact raiseIdx_svc 3 b o _
theorem causeTaken_svc (o cause : Nat) (s : State) : (causeTaken o cause s).svc = s.svc := by
  unfold causeTaken staleMember holdClockFails
  split <;> simp only [svc_ite, updRef_svc, ite_self]
@[simp] theorem applyCause_svc (o cause : Nat) (s : State) : (applyCause o cause s).svc = s.svc := by
  obtain ⟨f, h | h | h⟩ := applyCause_cases o cause s
  · rw [h, causeTaken_svc]
  · rw [h, updRef_svc, causeTaken_svc]
  · rw [h, refEvent_svc, updRef_svc, causeTaken_svc]
@[simp] theorem setCheck_svc (o k : Nat) (fails : Bool) (s : State) : (setCheck o k fails s).svc = s.svc := by
  rw [setCheck, svc_ite, applyCause_svc, ite_self]
@[simp] theorem meldTake_svc (o : Nat) (phase : Int) (s : State) : (meldTake o phase s).svc = s.svc := by
  unfold meldTake
  split
  · rfl
  · rw [svc_ite, ite_self]
@[simp] theorem loopSample_svc (d : Nat) (e : Int) (stamp period : Nat) (s : State) : (loopSample d e stamp period s).svc = s.svc := by
  simp only [loopSample, updDpll_svc, setRate_svc]
@[simp] theorem lockTrack_svc (d : Nat) (e : Int) (s : State) : (lockTrack d e s).svc = s.svc := rfl
@[simp] theorem estPoint_svc (d : Nat) (e : Int) (stamp : Nat) (s : State) : (estPoint d e stamp s).svc = s.svc := rfl
@[simp] theorem fSample_svc (d : Nat) (p : Sample) (s : State) : (fSample d p s).svc = s.svc := by
  simp only [fSample, estPoint_svc, lockTrack_svc, loopSample_svc, svc_ite, updDpll_svc, ite_self]
@[simp] theorem clearDist_svc (s : State) : (clearDist s).svc = s.svc := by
  simp only [clearDist, clearParts, svc_ite, ite_self]
@[simp] theorem startTrackBound_svc (o : Nat) (s : State) : (startTrackBound o s).svc = s.svc := svc_of_offChoice (offChoice_startTrackBound o s)
@[simp] theorem runSlew_svc (w : SlewOwner) (r : Int) (l : Nat) (s : State) : (runSlew w r l s).svc = s.svc := svc_of_offChoice (offChoice_runSlew w r l s)
@[simp] theorem tSample_svc (o : Nat) (p : Sample) (s : State) : (tSample o p s).svc = s.svc := by
  simp only [tSample, clearDist_svc, estPoint_svc, lockTrack_svc, loopSample_svc, svc_ite, startTrackBound_svc, updDpll_svc, runSlew_svc, ite_self]
@[simp] theorem originBound_svc (b : Option Nat) (w : Bool) (s : State) : (originBound b w s).svc = s.svc := by
  rw [originBound, svc_ite, ite_self]
@[simp] theorem splitUpdate_svc (d o : Nat) (byPhase : Bool) (s : State) : (splitUpdate d o byPhase s).svc = s.svc := by
  unfold splitUpdate
  dsimp only
  rw [svc_ite, svc_foldl, ite_self]
  intro x e
  rw [svc_ite, ite_self]
/-- A sample of a source bears on the references, the loops, the Meld and the bound, and not on the service. -/
@[simp] theorem deliver_svc (o : Nat) (p : Sample) (fail : Bool) (s : State) : (deliver o p fail s).svc = s.svc := by
  unfold deliver
  dsimp only
  rw [svc_ite, settleBound_svc, svc_foldl]
  case hf =>
    intro x d
    rw [svc_ite, fSample_svc, ite_self]
  simp only [svc_ite, tTake_svc, tSample_svc, splitUpdate_svc, originBound_svc, evalAll_svc, judge_svc, applyCause_svc, bump_svc, meldTake_svc,
    updRef_svc, ite_self]

/-! ### The PTP service (R316 to R336) -/

@[simp] theorem setBindState_svc (i p : Nat) (st : PtpState) (s : State) : (setBindState i p st s).svc = s.svc := by
  simp only [setBindState, svc_ite, raiseIdx_svc, updBind_svc, ite_self]
@[simp] theorem ptpHealth_svc (i : Nat) (ok : Bool) (s : State) : (ptpHealth i ok s).svc = s.svc := by
  simp only [ptpHealth, svc_ite, evalAll_svc, setCheck_svc, updRef_svc, ite_self]
@[simp] theorem dropTracking_svc (i p : Nat) (s : State) : (dropTracking i p s).svc = s.svc := by
  simp only [dropTracking, ptpHealth_svc, updBind_svc, updInst_svc]
@[simp] theorem addDelay_svc (i p : Nat) (d : Int) (s : State) : (addDelay i p d s).svc = s.svc := by
  simp only [addDelay, svc_ite, updBind_svc, ite_self]
@[simp] theorem ptpSample_svc (i p : Nat) (c : PtpCfg) (t1c : Int) (w : SyncWait) (unc : Nat × Bool) (s : State) : (ptpSample i p c t1c w unc s).svc = s.svc := by
  simp only [ptpSample, updInst_svc, deliver_svc, updRef_svc, svc_ite, raiseIdx_svc, setBindState_svc, updBind_svc, ite_self]
@[simp] theorem waitSync_svc (i p : Nat) (w : SyncWait) (s : State) : (waitSync i p w s).svc = s.svc := rfl
@[simp] theorem takeSync_svc (q : Request) (c : PtpCfg) (m : Bytes) (authed : Bool) (s : State) : (takeSync q c m authed s).svc = s.svc := by
  unfold takeSync
  dsimp only
  split
  · rfl
  · split
    · rfl
    · split
      · rw [ptpSample_svc, updBind_svc]
      · split <;> simp only [svc_ite, ptpSample_svc, waitSync_svc, updBind_svc, ite_self]
@[simp] theorem takeFollowUp_svc (q : Request) (c : PtpCfg) (m : Bytes) (authed : Bool) (s : State) : (takeFollowUp q c m authed s).svc = s.svc := by
  unfold takeFollowUp
  dsimp only
  split
  · rfl
  · split
    · rfl
    · split <;> simp only [ptpSample_svc, updBind_svc]
@[simp] theorem takeDelayResp_svc (q : Request) (c : PtpCfg) (m : Bytes) (s : State) : (takeDelayResp q c m s).svc = s.svc := by
  unfold takeDelayResp
  split
  · simp only [svc_ite, addDelay_svc, updBind_svc, ite_self]
  · rfl
@[simp] theorem takePdelayResp_svc (q : Request) (c : PtpCfg) (m : Bytes) (s : State) : (takePdelayResp q c m s).svc = s.svc := by
  unfold takePdelayResp
  split
  · simp only [svc_ite, addDelay_svc, updBind_svc, ite_self]
  · rfl
@[simp] theorem takePdelayFu_svc (q : Request) (c : PtpCfg) (m : Bytes) (s : State) : (takePdelayFu q c m s).svc = s.svc := by
  unfold takePdelayFu
  split
  · simp only [svc_ite, addDelay_svc, updBind_svc, ite_self]
  · rfl
@[simp] theorem trackAnnounce_svc (i p : Nat) (c : PtpCfg) (s : State) : (trackAnnounce i p c s).svc = s.svc := by
  simp only [trackAnnounce, svc_ite, raiseIdx_svc, ptpHealth_svc, updInst_svc, ite_self]
@[simp] theorem takeOffset_svc (o : Int) (s : State) : (takeOffset o s).svc = s.svc := by
  rw [takeOffset, svc_ite, raise_svc, ite_self]
@[simp] theorem takeLeap_svc (sec : Nat) (off : Int) (src : LeapSource) (s : State) : (takeLeap sec off src s).svc = s.svc := by
  simp only [takeLeap, forwardLeap, svc_ite, raise_svc, forward_svc, ite_self]
@[simp] theorem takeLeapNews_svc (n : LeapNews) (s : State) : (takeLeapNews n s).svc = s.svc := by
  have hOffset : (match n.offset with | some o => takeOffset o s | none => s).svc = s.svc := by
    cases n.offset with
    | none => rfl
    | some o => exact takeOffset_svc o s
  unfold takeLeapNews
  dsimp only
  split
  · rfl
  · split
    · exact (takeLeap_svc _ _ _ _).trans hOffset
    · exact hOffset
theorem authDiscard_svc (i p : Nat) (s : State) : (authDiscard i p s).svc = s.svc := onceInHand_svc 10 7 _ _

/-! ### Grants (R328 to R332) -/

@[simp] theorem forwardGrant_svc (k : Nat) (s : State) : (forwardGrant k s).svc = s.svc := by
  unfold forwardGrant
  dsimp only
  rw [forward_svc]
  split
  · exact forward_svc _ s
  · rfl
@[simp] theorem freeNeighbours_svc (s : State) : (freeNeighbours s).svc = s.svc := rfl
@[simp] theorem dropGrant_svc (k : Nat) (s : State) : (dropGrant k s).svc = s.svc := by
  simp only [dropGrant, forwardGrant_svc, freeNeighbours_svc, updPtp_svc]
@[simp] theorem freshPhase_svc (s : State) (log : Int) (mtype : Nat) : (freshPhase s log mtype).2.2.svc = s.svc := by
  unfold freshPhase
  split <;> rfl
@[simp] theorem denyGrant_svc (i p mtype log : Nat) (full : Bool) (s : State) : (denyGrant i p mtype log full s).2.svc = s.svc := by
  simp only [denyGrant, svc_ite, raise_svc, updBind_svc, ite_self]
@[simp] theorem takeGrant_svc (q : Request) (b : BindCfg) (v : PtpView) (t : Bytes) (s : State) : (takeGrant q b v t s).svc = s.svc := by
  unfold takeGrant
  split
  · rfl
  · simp only [svc_ite, raiseIdx_svc, updPtp_svc, ite_self]
theorem grantRequest_svc (q : Request) (c : PtpCfg) (b : BindCfg) (v : PtpView) (t : Bytes) (s : State) : (grantRequest q c b v t s).2.svc = s.svc := by
  unfold grantRequest
  dsimp only
  split
  · exact denyGrant_svc _ _ _ _ _ s
  split
  · exact denyGrant_svc _ _ _ _ _ s
  split
  · exact denyGrant_svc _ _ _ _ _ s
  split
  · exact denyGrant_svc _ _ _ _ _ s
  split
  · simp only [forwardGrant_svc, freeNeighbours_svc, updPtp_svc]
    split <;> simp only [freshPhase_svc, svc_ite, updPtp_svc, ite_self]
  · simp only [bump_svc, forwardGrant_svc, updPtp_svc, freshPhase_svc, svc_ite, ite_self]
theorem signalTlv_svc (q : Request) (c : PtpCfg) (b : BindCfg) (v : PtpView) (t : Nat × Nat × Bytes) (s : State) : (signalTlv q c b v t s).2.svc = s.svc := by
  have hCancel : ∀ (g : Option (Nat × Grant)), (match g with | some (k, _) => dropGrant k s | none => s).svc = s.svc := fun g => by
    cases g with
    | none => rfl
    | some e => exact dropGrant_svc e.1 s
  unfold signalTlv
  dsimp only
  split
  · exact grantRequest_svc q c b v t.2.2 s
  · simp only [svc_ite, takeGrant_svc, ite_self]
  · split
    · exact hCancel _
    · exact hCancel _
  · split
    · simp only [svc_ite, dropGrant_svc, ite_self]
    · rfl
  · rfl

/-! ### Messages that are built (R313, R321, R335) -/

@[simp] theorem sealMsg_svc (c : PtpCfg) (p : Nat) (m : PtpMsg) (s : State) : (sealMsg c p m s).2.svc = s.svc := by
  unfold sealMsg
  split
  · rfl
  · split
    · rfl
    · simp only [svc_ite, updPtp_svc, ite_self]
theorem buildSync_svc (i p : Nat) (c : PtpCfg) (b : BindCfg) (g : Option Nat) (seq l lps : Nat) (s : State) :
    (buildSync i p c b g seq l lps s).2.svc = s.svc := sealMsg_svc c p _ s
theorem buildAnnounce_svc (i p : Nat) (c : PtpCfg) (b : BindCfg) (g : Option Nat) (seq lps : Nat) (s : State) :
    (buildAnnounce i p c b g seq lps s).2.svc = s.svc := sealMsg_svc c p _ s
theorem buildDelayReq_svc (i p : Nat) (c : PtpCfg) (b : BindCfg) (seq l : Nat) (s : State) : (buildDelayReq i p c b seq l s).2.svc = s.svc := by
  refine (sealMsg_svc c p _ _).trans ?_
  split
  · split <;> rfl
  · rfl
theorem buildSignal_svc (i p mac ip : Nat) (tags tlvs : Bytes) (c : PtpCfg) (b : BindCfg) (s : State) :
    (buildSignal i p mac ip tags tlvs c b s).2.svc = s.svc := sealMsg_svc c p _ s
theorem buildDelayResp_svc (q : Request) (origin : Nat) (c : PtpCfg) (b : BindCfg) (v : PtpView) (s : State) :
    (buildDelayResp q origin c b v s).2.svc = s.svc := by
  unfold buildDelayResp
  dsimp only
  rw [bump_svc]
  split
  · simp only [svc_ite, forwardGrant_svc, updPtp_svc, sealMsg_svc, ite_self]
  · exact sealMsg_svc c q.port _ s
theorem buildPdelayResp_svc (q : Request) (origin l : Nat) (c : PtpCfg) (b : BindCfg) (v : PtpView) (s : State) :
    (buildPdelayResp q origin l c b v s).2.svc = s.svc := sealMsg_svc c q.port _ s
theorem signalTlvs_svc (q : Request) (c : PtpCfg) (b : BindCfg) (v : PtpView) (l : List (Nat × Nat × Bytes)) (a : Bytes × State) :
    (l.foldl (fun (a : Bytes × State) t => let (x, s) := signalTlv q c b v t a.2; (a.1 ++ x, s)) a).2.svc = a.2.svc := by
  induction l generalizing a with
  | nil => rfl
  | cons t l ih => exact (ih _).trans (signalTlv_svc q c b v t a.2)
theorem buildSignalResp_svc (q : Request) (origin : Nat) (c : PtpCfg) (b : BindCfg) (v : PtpView) (s : State) :
    (buildSignalResp q origin c b v s).2.svc = s.svc := by
  have hTlvs := signalTlvs_svc q c b v (tlvsOf v.msg) ([], s)
  unfold buildSignalResp
  dsimp only
  split
  · rfl
  · split
    · exact hTlvs
    · exact (sealMsg_svc c q.port _ _).trans hTlvs

/-! ### NTP responses (R353 to R360) -/

@[simp] theorem noteNak_svc (s : State) : (noteNak s).svc = s.svc := onceInHand_svc 11 2 _ s
@[simp] theorem noteNtpAuth_svc (s : State) : (noteNtpAuth s).svc = s.svc := onceInHand_svc 11 1 _ s
theorem mintFields_svc (n i : Nat) (a b : Bytes) (s : State) : (mintFields n i a b s).2.svc = s.svc := by
  induction n generalizing s with
  | zero => rfl
  | succ n ih => exact ih (mintCookie i a b s).2
theorem ntsPayload_svc (i : Nat) (keys : List NtsKey) (header u : Bytes) (s : State) : (ntsPayload i keys header u s).2.svc = s.svc := by
  unfold ntsPayload
  dsimp only
  split
  · rfl
  · split
    · rfl
    · exact mintFields_svc _ _ _ _ s
theorem ntpPayload_svc (q : Request) (u : Bytes) (l lps : Nat) (s : State) : (ntpPayload q u l lps s).2.2.svc = s.svc := by
  have hNts := fun header => ntsPayload_svc q.inst q.keys header u s
  unfold ntpPayload
  dsimp only
  split
  · split <;> rfl
  · split
    · split
      · rfl
      · rw [noteNtpAuth_svc, bump_svc, updNtpRun_svc]
    · rw [noteNtpAuth_svc, bump_svc, updNtpRun_svc]
  · split
    next h => exact (congrArg (fun r => r.2.svc) h).symm.trans (hNts _)
    next h =>
      rw [noteNtpAuth_svc, noteNak_svc, bump_svc, updNtpRun_svc]
      exact (congrArg (fun r => r.2.svc) h).symm.trans (hNts _)
  · rfl

end Sys2Proof.Machine
end
section
/-! PROOFS. What charging, freeing and queueing leave of the packet service, and the jobs that a finished job leaves (R288, R299). -/
namespace Sys2Proof.Machine
open Sys2Proof Host

/-! ### The service without its cells and counts -/

/-- The packet service without what charging, freeing and counting change: its cells, its counters, and the marks of a hand. -/
def desk (v : SvcRun) : SvcRun := { v with
  cells := [], txCells := 0, shedding := false, freeSince := none, shedHand := none, refusalHand := none, maxTurn2 := 0, maxTurn4 := 0, counters := [] }

theorem jobs_of_desk {v w : SvcRun} (h : desk w = desk v) : w.jobs = v.jobs := by
  have e : (desk w).jobs = (desk v).jobs := by rw [h]
  exact e
theorem desk_ite {c : Prop} [Decidable c] (v w : SvcRun) : desk (if c then v else w) = if c then desk v else desk w := apply_ite desk c v w

theorem desk_shedCheck (s : State) : desk (shedCheck s).svc = desk s.svc := by
  have hShed : desk (if sharedFree s < s.work.svc.shedFree && !s.svc.shedding then raise 9 4 { s with svc := { s.svc with shedding := true } } else s).svc = desk s.svc := by
    simp only [svc_ite, raise_svc, desk_ite]
    exact ite_self _
  exact hShed
theorem desk_takeCells (u : Suit) (n : Nat) (s : State) : desk (takeCells u n s).svc = desk s.svc := desk_shedCheck _
theorem desk_freeCells (u : Suit) (n : Nat) (s : State) : desk (freeCells u n s).svc = desk s.svc := desk_shedCheck _
theorem desk_suitCount (u : Suit) (k : Nat) (s : State) : desk (suitCount u k s).svc = desk s.svc := rfl
theorem desk_releaseFrame (f : TxFrame) (s : State) : desk (releaseFrame f s).svc = desk s.svc := by
  unfold releaseFrame
  split
  · exact desk_freeCells _ _ s
  · exact desk_shedCheck _
theorem desk_releaseRequest (q : Request) (s : State) : desk (releaseRequest q s).svc = desk s.svc := by
  have hFreed : desk (if q.cells = 0 then s else freeCells q.suit q.cells s).svc = desk s.svc := by
    rw [svc_ite, desk_ite, desk_freeCells, ite_self]
  unfold releaseRequest
  dsimp only
  split
  · exact hFreed
  · exact hFreed
theorem desk_releaseSlot (j : Job) (s : State) : desk (releaseSlot j s).svc = desk s.svc := by
  simp only [releaseSlot, svc_ite, updPort_svc, desk_ite, desk_freeCells, ite_self]
/-- A frame that is queued, or discarded beyond the horizon of its port (R263, R264). -/
theorem desk_enqueue (p : Nat) (f : TxFrame) (s : State) : desk (enqueue p f s).svc = desk s.svc := by
  have hDropped := (desk_releaseFrame f (portEvent p 8 (portCount p 7 s))).trans (congrArg desk ((portEvent_svc p 8 _).trans (portCount_svc p 7 s)))
  unfold enqueue
  split
  · rfl
  · split
    · dsimp only
      split
      · rw [hostDone_svc, hDropped]
      · rw [receiptGone_svc, hDropped]
      · exact hDropped
    · rfl
theorem desk_queueBuilt (j : Job) (b : Built) (half : Nat) (s : State) : desk (queueBuilt j b half s).svc = desk s.svc := desk_enqueue _ _ s
theorem desk_refusalHand (h : Option Nat) (s : State) : desk (updSvc (fun v => { v with refusalHand := h }) s).svc = desk s.svc := rfl
theorem desk_countRefusal (q : Request) (k : Nat) (s : State) : desk (countRefusal q k s).svc = desk s.svc := by
  have hCounted : desk (filterFrame 7 q.suit q.port (q.frame.length + 4) (portCount q.port 11 (suitCount q.suit k s))).svc = desk s.svc := by
    rw [filterFrame_svc, portCount_svc, desk_suitCount]
  exact (desk_refusalHand _ _).trans hCounted
theorem desk_refuseReq (q : Request) (k : Nat) (s : State) : desk (refuseReq q k s).svc = desk s.svc := by
  simp only [refuseReq, scheduleSkip, svc_ite, bump_svc, raise_svc, desk_releaseRequest, desk_countRefusal, ite_self]

/-! ### A new parent, and the messages that follow (R316, R326, R333) -/

theorem jobs_ite {c : Prop} [Decidable c] (v w : SvcRun) : (if c then v else w).jobs = if c then v.jobs else w.jobs := apply_ite SvcRun.jobs c v w
theorem jobs_presentSignal (i p mac ip : Nat) (tags tlvs : Bytes) (s : State) : (presentSignal i p mac ip tags tlvs s).svc.jobs = s.svc.jobs := rfl
theorem jobs_askUpstream (i p k mtype : Nat) (s : State) : (askUpstream i p k mtype s).svc.jobs = s.svc.jobs := by
  unfold askUpstream
  split <;> rfl
theorem jobs_foldl {α : Type} (f : State → α → State) (hf : ∀ s a, (f s a).svc.jobs = s.svc.jobs) (l : List α) (s : State) :
    (l.foldl f s).svc.jobs = s.svc.jobs := by
  induction l generalizing s with
  | nil => rfl
  | cons a l ih => exact (ih _).trans (hf s a)
theorem jobs_cancelFormer (i p : Nat) (b : BindCfg) (x : State) (g : UpGrant) : (if g.granted then
    presentSignal i p (upstreamMac x).1 (nth b.upstreams g.upstream).addr [] (cancelTlv g.mtype) (upstreamMac x).2 else x).svc.jobs = x.svc.jobs := by
  split <;> rfl
theorem jobs_clientParent (i p : Nat) (addr : Option Nat) (s : State) : (clientParent i p addr s).svc.jobs = s.svc.jobs := by
  unfold clientParent
  split
  · rfl
  next b _ =>
    dsimp only
    split
    · rfl
    · split
      · rw [updPtp_svc, jobs_foldl _ (jobs_cancelFormer i p b)]
      · split
        · rw [updPtp_svc, jobs_foldl _ (jobs_cancelFormer i p b)]
        · rw [jobs_askUpstream, jobs_askUpstream, updPtp_svc, updPtp_svc, jobs_foldl _ (jobs_cancelFormer i p b)]
theorem jobs_takeParent (i : Nat) (new : Option (Nat × Announce)) (s : State) : (takeParent i new s).svc.jobs = s.svc.jobs := by
  unfold takeParent
  split
  · rfl
  · simp only [jobs_clientParent, setBindState_svc, raiseIdx_svc, updInst_svc]
  · simp only [svc_ite, jobs_clientParent, raiseIdx_svc, dropTracking_svc, updInst_svc, ite_self]
  · simp only [svc_ite, jobs_ite, jobs_clientParent, setBindState_svc, raiseIdx_svc, dropTracking_svc, updInst_svc, ite_self]
theorem jobs_runBmca (i : Nat) (expired : Option Nat) (s : State) : (runBmca i expired s).svc.jobs = s.svc.jobs := by
  unfold runBmca
  split
  · rfl
  · dsimp only
    split
    · rfl
    · split
      · simp only [svc_ite, setBindState_svc, ite_self, jobs_takeParent]
        rw [svc_foldl]
        intro x e
        split <;> simp only [svc_ite, setBindState_svc, ite_self]
      · rw [jobs_takeParent, svc_foldl]
        intro x e
        split <;> simp only [svc_ite, setBindState_svc, ite_self]
theorem jobs_takeAnnounce (q : Request) (c : PtpCfg) (m : Bytes) (src : Nat) (s : State) : (takeAnnounce q c m src s).svc.jobs = s.svc.jobs := by
  unfold takeAnnounce
  dsimp only
  split
  · rfl
  · split
    · rfl
    · split
      · simp only [svc_ite, takeLeapNews_svc, evalAll_svc, setCheck_svc, trackAnnounce_svc, updRef_svc, ite_self, jobs_runBmca, updBind_svc]
      · rw [jobs_runBmca, updBind_svc]

/-! ### A job that completes (R288, R320, R321) -/

theorem setRank_svc (p rank : Nat) (s : State) : (setRank p rank s).svc = s.svc := by
  simp only [setRank, evalAll_svc, setCheck_svc, updRef_svc, svc_ite, portEvent_svc, updPort_svc, ite_self]
theorem esmcJob_svc (q : Request) (s : State) : (esmcJob q s).svc = s.svc := setRank_svc _ _ _
theorem jobs_releaseSlot (j : Job) (s : State) : (releaseSlot j s).svc.jobs = s.svc.jobs := jobs_of_desk (desk_releaseSlot j s)
/-- A response that is built from `s` and queued leaves the jobs of `s`. -/
theorem jobs_queueBuilt {s y : State} (h : y.svc = s.svc) (j : Job) (b : Built) (half : Nat) : (queueBuilt j b half y).svc.jobs = s.svc.jobs :=
  (jobs_of_desk (desk_queueBuilt j b half y)).trans (congrArg SvcRun.jobs h)
theorem jobs_ntpJob (j : Job) (s : State) : (ntpJob j s).svc.jobs = s.svc.jobs := by
  unfold ntpJob
  dsimp only
  split
  · exact jobs_queueBuilt (ntpPayload_svc _ _ _ _ s) _ _ _
  · exact jobs_releaseSlot j s
theorem jobs_scheduledJob (j : Job) (s : State) : (scheduledJob j s).svc.jobs = s.svc.jobs := by
  unfold scheduledJob
  dsimp only
  split
  · split
    · split
      · exact jobs_releaseSlot j s
      · split
        · exact jobs_queueBuilt (buildSync_svc _ _ _ _ _ _ _ _ s) _ _ _
        · split
          · exact jobs_queueBuilt (buildAnnounce_svc _ _ _ _ _ _ _ s) _ _ _
          · exact jobs_queueBuilt (buildDelayReq_svc _ _ _ _ _ _ s) _ _ _
    · exact jobs_releaseSlot j s
  · split
    · exact jobs_queueBuilt (buildSignal_svc _ _ _ _ _ _ _ _ s) _ _ _
    · exact jobs_releaseSlot j s
  · exact jobs_releaseSlot j s
theorem jobs_ptpJob (j : Job) (s : State) : (ptpJob j s).svc.jobs = s.svc.jobs := by
  have hFree := jobs_releaseSlot j s
  unfold ptpJob
  dsimp only
  split
  · split
    · rw [authDiscard_svc, hFree]
    · split
      · split
        · exact hFree
        · exact jobs_queueBuilt (buildDelayResp_svc _ _ _ _ _ s) _ _ _
      · split
        · exact hFree
        · exact jobs_queueBuilt (buildPdelayResp_svc _ _ _ _ _ _ s) _ _ _
      · have hSignal := buildSignalResp_svc j.req j.origin
        split
        next hBuilt =>
          have hSame : _ = s.svc := (congrArg (fun r => r.2.svc) hBuilt).symm.trans (hSignal _ _ _ s)
          split
          · exact (jobs_releaseSlot j _).trans (congrArg SvcRun.jobs hSame)
          · exact jobs_queueBuilt hSame _ _ _
        next hNone =>
          have hSame : _ = s.svc := (congrArg (fun r => r.2.svc) hNone).symm.trans (hSignal _ _ _ s)
          exact (jobs_releaseSlot j _).trans (congrArg SvcRun.jobs hSame)
      · split <;> simp only [svc_ite, jobs_ite, takeSync_svc, takeFollowUp_svc, takeDelayResp_svc, takePdelayResp_svc, takePdelayFu_svc, jobs_takeAnnounce, ite_self]
  · exact hFree
/-- What a completed job does leaves the jobs of the threads as they are. -/
theorem jobs_finishJob (j : Job) (s : State) : (finishJob j s).svc.jobs = s.svc.jobs := by
  unfold finishJob
  split
  · exact jobs_scheduledJob j s
  · rfl
  · split
    · rw [esmcJob_svc]
    · exact jobs_ptpJob j s
  · exact jobs_ptpJob j s
  · exact jobs_ptpJob j s
  · exact jobs_ptpJob j s
  · exact jobs_ntpJob j s

end Sys2Proof.Machine
end

section
/-! PROOFS. Threads, lanes and jobs (R288 to R297, R303). -/
namespace Sys2Proof.Machine
open Sys2Proof Host

/-! ### Lists with keys -/

theorem getKey_delKey {β : Type} (j k : Nat) (l : List (Nat × β)) : getKey j (delKey k l) = if j = k then none else getKey j l := by
  induction l with
  | nil => exact (ite_self _).symm
  | cons a l ih =>
    unfold delKey at ih ⊢
    by_cases ha : a.1 = k
    · rw [List.filter_cons_of_neg (by simp [ha]), ih]
      split
      · rfl
      next hj => exact (if_neg (fun e => hj (e.trans ha))).symm
    · rw [List.filter_cons_of_pos (by simp [ha])]
      unfold getKey
      split
      next hj => rw [if_neg (fun e => ha (hj.symm.trans e))]
      · exact ih
theorem getKey_map_self {β : Type} (j : Nat) (f : β → β) (l : List (Nat × β)) :
    getKey j (l.map fun e => if e.1 = j then (e.1, f e.2) else e) = (getKey j l).map f := by
  induction l with
  | nil => rfl
  | cons a l ih =>
    rw [List.map_cons]
    by_cases ha : a.1 = j
    · rw [if_pos ha]
      unfold getKey
      rw [if_pos ha.symm, if_pos ha.symm]
      rfl
    · rw [if_neg ha]
      unfold getKey
      rw [if_neg (Ne.symm ha), if_neg (Ne.symm ha)]
      exact ih

/-! ### Threads -/

theorem threadOf_of_get {s : State} {h : Nat} {t : Thread} (hGet : s.svc.threads[h]? = some t) : threadOf s h = t := nth_of_get hGet
theorem threads_of_desk {v w : SvcRun} (h : desk w = desk v) : w.threads = v.threads := by
  have e : (desk w).threads = (desk v).threads := by rw [h]
  exact e
/-- The packet service without its threads as well: requests, jobs and lanes. -/
def rolls (v : SvcRun) : SvcRun := { desk v with threads := [] }
theorem rolls_of_desk {v w : SvcRun} (h : desk w = desk v) : rolls w = rolls v := congrArg (fun d : SvcRun => { d with threads := [] }) h
theorem rolls_ite {c : Prop} [Decidable c] (v w : SvcRun) : rolls (if c then v else w) = if c then rolls v else rolls w := apply_ite rolls c v w
theorem rolls_suitCount (u : Suit) (k : Nat) (s : State) : rolls (suitCount u k s).svc = rolls s.svc := rfl
theorem rolls_takeCells (u : Suit) (n : Nat) (s : State) : rolls (takeCells u n s).svc = rolls s.svc := rolls_of_desk (desk_takeCells u n s)
theorem fields_of_rolls {v w : SvcRun} (h : rolls w = rolls v) :
    w.waiting = v.waiting ∧ w.jobs = v.jobs ∧ w.nextId = v.nextId ∧ w.hmacFree = v.hmacFree := by
  have hWaiting := congrArg SvcRun.waiting h
  have hJobs := congrArg SvcRun.jobs h
  have hNext := congrArg SvcRun.nextId h
  have hHmac := congrArg SvcRun.hmacFree h
  exact ⟨hWaiting, hJobs, hNext, hHmac⟩

/-- A job that starts changes its thread, and frees its request's cells the first time (R299). -/
theorem desk_startJob (h j : Nat) (s : State) : desk (startJob h j s).svc = desk (updThread h (fun t => { t with
    running := some (j, s.now), p := t.p.erase j, d := t.d.erase j, ready := t.ready.erase j, holding := if t.holding = some j then none else t.holding }) s).svc := by
  unfold startJob
  dsimp only
  rw [svc_ite, desk_ite, desk_releaseRequest, ite_self]
theorem rolls_startJob (h j : Nat) (s : State) : rolls (startJob h j s).svc = rolls s.svc := (rolls_of_desk (desk_startJob h j s)).trans rfl
/-- A free thread that takes work leaves requests, jobs and lanes alone (R288). -/
theorem rolls_dispatch (h : Nat) (s : State) : rolls (dispatch h s).svc = rolls s.svc := by
  unfold dispatch
  dsimp only
  split
  · rfl
  · split
    · exact rolls_startJob h _ s
    · exact rolls_startJob h _ s
    · exact rolls_startJob h _ s
    · rfl

/-! ### Admission (R290) -/

theorem addReceipt_svc (q : Request) (nonce : Bytes) (s : State) : (addReceipt q nonce s).svc = s.svc := by
  have hClose : ∀ x : State, (closeBatch x).svc = x.svc := fun x => by
    unfold closeBatch
    split <;> rfl
  have hOpen : ∀ o : Option Batch, (match o with | some o => if s.now ≥ o.first + 8 * msPs then closeBatch s else s | none => s).svc = s.svc := fun o => by
    cases o with
    | none => rfl
    | some o => rw [svc_ite, hClose, ite_self]
  simp only [addReceipt, svc_ite, hClose, updNtp_svc, ite_self]
  exact hOpen _
/-- An admitted request becomes a job of its thread, with its launch and its lane (R290). -/
theorem commitJob_takes (q : Request) (h : Nat) (lane : Option (LaneType × Nat × Nat × Nat)) (launch : Nat) (s : State) :
    ∃ b : Job, rolls (commitJob q h lane launch s).svc = rolls { s.svc with jobs := putKey s.svc.nextId b s.svc.jobs, nextId := s.svc.nextId + 1 } ∧
      b.thread = h ∧ b.launch = launch ∧ b.lane = lane ∧ b.c = reqC q ∧ b.req.frame = q.frame := by
  unfold commitJob
  dsimp only
  refine ⟨?job, (rolls_dispatch h _).trans ?roll, ?thread, ?launch, ?lane, ?cost, ?frame⟩
  case roll =>
    simp only [svc_ite, addReceipt_svc, updPort_svc, filterFrame_svc, portCount_svc, rolls_suitCount, rolls_ite, rolls_takeCells, ite_self]
    rfl
  all_goals rfl

end Sys2Proof.Machine
end

section
/-! PROOFS. The commands and the events of the packet service (R288, R290, R297, R300, R303, R307 to R309). -/
namespace Sys2Proof.Machine
open Sys2Proof Host

/-! ### SVC_CONFIGURE, SVC_ADMISSION and SVC_STATUS (R307 to R309) -/

/-- The groups of buffers and of Clubs that the flags name; the mirror is always written (R307). -/
theorem svcApply_svc (p : Bytes) (c : Cfg) :
    let buf := (fld p 0 1).testBit 0
    let clubs := (fld p 0 1).testBit 2
    (svcApply p c).svc =
      { resSpades := if buf then fld p 4 4 else c.svc.resSpades, resHearts := if buf then fld p 8 4 else c.svc.resHearts,
        resDiamonds := if buf then fld p 12 4 else c.svc.resDiamonds, resClubs := if buf then fld p 16 4 else c.svc.resClubs,
        resTx := if buf then fld p 20 4 else c.svc.resTx, capDiamonds := if buf then fld p 24 4 else c.svc.capDiamonds,
        capClubs := if buf then fld p 28 4 else c.svc.capClubs, shedFree := if buf then fld p 32 4 else c.svc.shedFree,
        clubsRate := if clubs then fld p 36 4 else c.svc.clubsRate, clubsBurst := if clubs then fld p 40 4 else c.svc.clubsBurst,
        mirrorClubs := (fld p 0 1).testBit 3 } := by
  unfold svcApply bit
  cases (fld p 0 1).testBit 0
  · cases (fld p 0 1).testBit 2 <;> rfl
  · cases (fld p 0 1).testBit 2 <;> rfl
/-- The addresses of one port, where the flags name them (R307). -/
theorem svcApply_addrs (p : Bytes) (c : Cfg) : (svcApply p c).svcAddrs = if (fld p 0 1).testBit 1 = true then
    upd c.svcAddrs (fld p 1 1) (fun _ => (List.range (min 8 (fld p 2 1))).map (svcAddrAt p)) else c.svcAddrs := by
  unfold svcApply svcEntries bit
  cases (fld p 0 1).testBit 1 <;> rfl
theorem svcApply_rest (p : Bytes) (c : Cfg) : svcApply p c = { c with svc := (svcApply p c).svc, svcAddrs := (svcApply p c).svcAddrs } := rfl

theorem admReply_length (a : AdmCfg) : (admReply a).length = 32 := by
  simp only [admReply, List.length_append, leBytes_length, zeros_length]
theorem admReply_fields (a : AdmCfg) :
    fld (admReply a) 2 2 = a.engineMask % 65536 ∧ fld (admReply a) 4 4 = a.spadesReserve % 2 ^ 32 ∧ fld (admReply a) 8 4 = a.heartsReserve % 2 ^ 32 ∧
    fld (admReply a) 12 2 = a.targetPtp % 65536 ∧ fld (admReply a) 14 2 = a.targetNtp % 65536 ∧ fld (admReply a) 16 2 = a.targetNts % 65536 ∧
    fld (admReply a) 20 4 = a.rcptMax % 2 ^ 32 := by
  simp only [admReply, List.append_assoc, fld_append_right, fld_le_here, leBytes_length, zeros_length, Nat.reduceLeDiff, Nat.reduceSub,
    Nat.reducePow, and_self]

theorem svcStatusReply_fields (x : State) :
    fld (svcStatusReply x) 4 4 = sharedFree x % 2 ^ 32 ∧ fld (svcStatusReply x) 8 4 = suitCells x .spades % 2 ^ 32 ∧
    fld (svcStatusReply x) 24 4 = x.svc.txCells % 2 ^ 32 ∧ fld (svcStatusReply x) 28 4 = x.ntp.pending % 2 ^ 32 := by
  simp only [svcStatusReply, suits, List.flatMap_cons, List.flatMap_nil, List.append_assoc, List.nil_append, fld_append_right, fld_le_here, leBytes_length,
    zeros_length, Nat.reduceLeDiff, Nat.reduceSub, Nat.reducePow, and_self]
theorem svcStatusReply_shedding (x : State) : (fld (svcStatusReply x) 0 1).testBit 0 = x.svc.shedding := by
  simp only [svcStatusReply, List.append_assoc, fld_le_here]
  rw [testBit_field _ (by decide), testBit_packBits]
  rfl

/-! ### ADMISSION_DECISION (R290) -/

theorem admissionDecision_none {t : Nat} {s : State} (hNone : (begin_ t s).svc.waiting = []) : admissionDecision t s = begin_ t s := by
  unfold admissionDecision
  dsimp only
  rw [hNone]
/-- The first waiting request leaves the list, and the decision is its verdict. -/
theorem admissionDecision_first {t : Nat} {s : State} {q : Request} {rest : List Request} (hFirst : (begin_ t s).svc.waiting = q :: rest)
    (hOpen : svcClosed (begin_ t s) = false) :
    admissionDecision t s = match decideReq (updSvc (fun v => { v with waiting := rest }) (begin_ t s)) q with
      | .refuse k => refuseReq q k (updSvc (fun v => { v with waiting := rest }) (begin_ t s))
      | .take h lane l => commitJob q h lane l (updSvc (fun v => { v with waiting := rest }) (begin_ t s)) := by
  have hStill : svcClosed (updSvc (fun v => { v with waiting := rest }) (begin_ t s)) = false := hOpen
  unfold admissionDecision
  dsimp only
  rw [hFirst]
  dsimp only
  rw [hStill]
  rfl
theorem waiting_of_desk {v w : SvcRun} (h : desk w = desk v) : w.waiting = v.waiting := by
  have e : (desk w).waiting = (desk v).waiting := by rw [h]
  exact e

/-! ### TRICK_JOB and CRYPTO_LANE_DONE (R288, R297) -/

theorem jobOf_of_get {s : State} {j : Nat} {b : Job} (h : getKey j s.svc.jobs = some b) : jobOf s j = b := by
  rw [jobOf, h]
  rfl
theorem jobs_dispatch (h : Nat) (s : State) : (dispatch h s).svc.jobs = s.svc.jobs := by
  obtain ⟨-, hJobs, -⟩ := fields_of_rolls (rolls_dispatch h s)
  exact hJobs
theorem hmacFree_dispatch (h : Nat) (s : State) : (dispatch h s).svc.hmacFree = s.svc.hmacFree := by
  obtain ⟨-, -, -, hHmac⟩ := fields_of_rolls (rolls_dispatch h s)
  exact hHmac
/-- A stretch that calls no lane ends its job (R288). -/
theorem endStretch_ends {h j w : Nat} {s : State} {b : Job} (hThread : (threadOf s h).running = some (j, w))
    (hJob : getKey j s.svc.jobs = some b) (hNoCall : b.lane = none ∨ b.laneCalled = true) : getKey j (endStretch h s).svc.jobs = none := by
  have hLast : (b.lane.isSome && !b.laneCalled) = false := by
    obtain hLane | hCalled := hNoCall
    · rw [hLane]
      rfl
    · rw [hCalled]
      exact Bool.and_false _
  unfold endStretch
  rw [hThread]
  dsimp only
  rw [jobOf_of_get hJob, hLast]
  dsimp only
  refine (congrArg (getKey j) ((jobs_dispatch h _).trans (jobs_finishJob _ _))).trans ?_
  exact (getKey_delKey j j _).trans (if_pos rfl)

theorem jobs_updThread (h : Nat) (f : Thread → Thread) (s : State) : (updThread h f s).svc.jobs = s.svc.jobs := rfl
theorem hmacFree_updThread (h : Nat) (f : Thread → Thread) (s : State) : (updThread h f s).svc.hmacFree = s.svc.hmacFree := rfl
theorem getKey_updJob (j : Nat) (f : Job → Job) (s : State) : getKey j (updJob j f s).svc.jobs = (getKey j s.svc.jobs).map f := getKey_map_self j f _
theorem hmacFree_updJob (j : Nat) (f : Job → Job) (s : State) : (updJob j f s).svc.hmacFree = s.svc.hmacFree := rfl
/-- A stretch before a call of an HMAC lane: the lane is taken from when it is free, and the job waits for its result (R297). -/
theorem endStretch_callsHmac {h j w k o lat f : Nat} {s : State} {b : Job} (hThread : (threadOf s h).running = some (j, w))
    (hJob : getKey j s.svc.jobs = some b) (hLane : b.lane = some (.hmac, k, o, lat)) (hCalled : b.laneCalled = false) (hFree : s.svc.hmacFree[k]? = some f) :
    let now := (moveTo (w + (b.before - b.done)) s).now
    (∃ c, getKey j (endStretch h s).svc.jobs = some c ∧ c.laneCalled = true ∧ c.done = b.before ∧ c.laneDone = max now f + lat) ∧
      (endStretch h s).svc.hmacFree = s.svc.hmacFree.set k (max now f + o) := by
  intro now
  have hCall : (b.lane.isSome && !b.laneCalled) = true := by rw [hLane, hCalled]; rfl
  have hFreeAt : s.svc.hmacFree.getD k 0 = f := by rw [List.getD_eq_getElem?_getD, hFree]; rfl
  unfold endStretch
  rw [hThread]
  dsimp only
  rw [jobOf_of_get hJob, hCall, hLane]
  dsimp only
  rw [jobs_dispatch, hmacFree_dispatch]
  have hAfter : (moveTo (w + (b.before - b.done)) s).svc = s.svc := moveTo_svc _ s
  simp only [if_true, jobs_updThread, getKey_updJob, hmacFree_updThread, hmacFree_updJob, updThread_now, updJob_now, updSvc_svc, hAfter, hJob,
    Option.map_some, hFreeAt, upd_of_get hFree]
  exact ⟨⟨_, rfl, rfl, rfl, rfl⟩, rfl⟩
/-- A job that a thread holds goes on when its lane returns (R297). -/
theorem laneReturn_holding {h j : Nat} {s : State} {th : Thread} (hThread : s.svc.threads[h]? = some th) (hHolds : th.holding = some j)
    (hNext : nextLaneDone s h = some j) :
    let y := moveTo (jobOf s j).laneDone s
    (threadOf (laneReturn h s) h).running = some (j, y.now) ∧ (threadOf (laneReturn h s) h).holding = none := by
  intro y
  have hSame : y.svc = s.svc := moveTo_svc _ s
  have hGet : y.svc.threads[h]? = some th := by rw [hSame]; exact hThread
  have hStart : laneReturn h s = startJob h j y := by
    unfold laneReturn
    rw [hNext]
    exact if_pos ((congrArg Thread.holding (threadOf_of_get hGet)).trans hHolds)
  have hThreads := threads_of_desk (desk_startJob h j y)
  have hRuns : threadOf (startJob h j y) h = { th with
      running := some (j, y.now), p := th.p.erase j, d := th.d.erase j, ready := th.ready.erase j, holding := none } := by
    refine threadOf_of_get ?_
    rw [hThreads]
    refine (upd_get _ h h _).trans ?_
    rw [if_pos rfl, hGet, Option.map_some, if_pos hHolds]
  rw [hStart, hRuns]
  exact ⟨rfl, rfl⟩

/-! ### SCHEDULED_PRESENT (R288) -/

/-- The next instant of a schedule of period `per` and phase `phase` after the instant `c` lies within one period. -/
theorem next_instant {per phase n : Nat} {c : Int} (hPer : 0 < per) (hNow : (n : Int) = c) :
    let at_ := (((c - phase) / (per : Int) + 1) * per + phase).toNat
    n < at_ ∧ at_ ≤ n + per ∧ ((at_ : Int) - phase) % per = 0 := by
  intro at_
  have hSplit := Int.ediv_mul_add_emod (c - phase) per
  have hLow := Int.emod_nonneg (c - phase) (b := (per : Int)) (by omega)
  have hHigh := Int.emod_lt_of_pos (c - phase) (b := (per : Int)) (by omega)
  have hCast : (at_ : Int) = ((c - phase) / (per : Int) + 1) * per + phase := by
    refine Int.toNat_of_nonneg ?_
    rw [Int.add_mul]
    omega
  refine ⟨?_, ?_, ?_⟩
  · rw [Int.add_mul] at hCast
    omega
  · rw [Int.add_mul] at hCast
    omega
  · rw [hCast, Int.add_sub_cancel]
    exact Int.mul_emod_left _ _
theorem svcClosed_moveTo (ps : Nat) (s : State) : svcClosed (moveTo ps s) = svcClosed s := by
  rw [svcClosed, isDummy, moveTo_work, moveTo_pair]
  rfl

theorem awaitAdmission_waits (q : Request) (s : State) : { q with id := s.svc.nextId } ∈ (awaitAdmission q s).svc.waiting ∧
    (awaitAdmission q s).svc.waiting.length = s.svc.waiting.length + 1 := ⟨mem_insertBy _ _ _, length_insertBy _ _ _⟩
/-- A schedule that still runs at its next instant puts it before admission (R288). -/
theorem scheduledPresent_awaits {i p mtype per phase base : Nat} {g : Option Nat} {s : State} {c : PtpCfg} {b : BindCfg}
    (hUp : (portOf s p).state = .up) (hRun : running s = true) (hSchedule : scheduleOf s i p mtype g = some (per, phase, base))
    (hInst : instCfg s i = some c) (hBind : bindCfg s i p = some b) (hOpen : svcClosed s = false) :
    let at_ := ((((curTs s : Int) + 131072000 - phase) / (per : Int) + 1) * per + phase).toNat
    let y := moveToCounter ((at_ - 131072000) * 2 ^ 32) s
    (scheduleOf y i p mtype g).isSome = true →
    ∃ q seq, q ∈ (scheduledPresent i p mtype g s).svc.waiting ∧ (scheduledPresent i p mtype g s).svc.waiting.length = s.svc.waiting.length + 1 ∧
      q.kind = .ptpScheduled ∧ q.port = p ∧ q.work = .scheduled i p mtype g at_ seq := by
  intro at_ y hStill
  have hReady : ((portOf s p).state != .up || !running s) = false := by rw [hUp, hRun]; rfl
  have hRuns : ¬ (scheduleOf y i p mtype g).isNone = true := by
    rw [← Option.not_isSome, hStill]
    decide
  have hOpenStill : ¬ svcClosed y = true := by
    rw [show svcClosed y = svcClosed s from svcClosed_moveTo _ s, hOpen]
    decide
  have hPresent : ∃ q seq, scheduledPresent i p mtype g s = awaitAdmission q y ∧ q.kind = .ptpScheduled ∧ q.port = p ∧
      q.work = .scheduled i p mtype g at_ seq := by
    unfold scheduledPresent
    rw [hReady, hSchedule, hInst, hBind]
    exact ⟨_, _, (if_neg hRuns).trans (if_neg hOpenStill), rfl, rfl, rfl⟩
  obtain ⟨q, seq, hAwaits, hKind, hPort, hWork⟩ := hPresent
  obtain ⟨hMem, hLength⟩ := awaitAdmission_waits q y
  have hBefore : y.svc = s.svc := moveTo_svc _ s
  rw [← hAwaits, hBefore] at hLength
  rw [← hAwaits] at hMem
  exact ⟨_, seq, hMem, hLength, hKind, hPort, hWork⟩

/-! ### ENGINE_FAULT (R303) -/

theorem dropReceipt_svc (q : Request) (s : State) : (dropReceipt q s).svc = s.svc := receiptGone_svc .receipt _
theorem jobs_releaseRequest (q : Request) (s : State) : (releaseRequest q s).svc.jobs = s.svc.jobs := jobs_of_desk (desk_releaseRequest q s)
theorem jobs_faultDrop (s : State) (j : Nat) : (faultDrop s j).svc.jobs = delKey j s.svc.jobs := by
  unfold faultDrop
  refine congrArg (delKey j) ?_
  simp only [svc_ite, raise_svc, dropReceipt_svc, bump_svc, ite_self]
  refine (jobs_of_desk (desk_suitCount _ _ _)).trans ((jobs_releaseSlot _ _).trans ?_)
  simp only [svc_ite, jobs_ite, jobs_releaseRequest, ite_self]
theorem getKey_foldl_faultDrop {j : Nat} {js : List Nat} (hMem : j ∈ js) (s : State) : getKey j (js.foldl faultDrop s).svc.jobs = none := by
  have hJobs : ∀ (l : List Nat) (x : State), (l.foldl faultDrop x).svc.jobs = l.foldl (fun m k => delKey k m) x.svc.jobs := by
    intro l
    induction l with
    | nil => exact fun x => rfl
    | cons k l ih => exact fun x => (ih _).trans (congrArg (l.foldl _) (jobs_faultDrop x k))
  have hGone : ∀ (l : List Nat) (m : List (Nat × Job)), getKey j (l.foldl (fun m k => delKey k m) m) = if j ∈ l then none else getKey j m := by
    intro l
    induction l with
    | nil => exact fun m => (if_neg List.not_mem_nil).symm
    | cons k l ih =>
      intro m
      rw [List.foldl_cons, ih, getKey_delKey]
      by_cases hHead : j = k
      · rw [if_pos hHead, ite_self, if_pos (hHead ▸ List.mem_cons_self)]
      · simp only [hHead, if_false, List.mem_cons, false_or]
  rw [hJobs, hGone, if_pos hMem]
/-- Threads that are made anew are idle. -/
theorem nth_reset {is : List Nat} (hNodup : is.Nodup) {i : Nat} (hMem : i ∈ is) (l : List Thread) :
    nth (is.foldl (fun l i => upd l i fun _ => {}) l) i = {} := by
  simp only [nth, List.getD_eq_getElem?_getD, foldl_upd_get _ is hNodup, if_pos hMem]
  cases l[i]? <;> rfl

/-- What an engine's fault takes off the service: the jobs of its threads, and what its threads held. -/
def dropEngine (e : Nat) (x : State) : State :=
  ([0, 1, 2, 3] : List Nat).foldl (fun s t => updThread (4 * e + t) (fun _ => {}) s)
    (((x.svc.jobs.filter (fun j => j.2.thread / 4 == e)).map (·.1)).foldl faultDrop x)
theorem getKey_dropEngine {e j : Nat} {b : Job} {x : State} (hMem : (j, b) ∈ x.svc.jobs) (hHome : b.thread / 4 = e) :
    getKey j (dropEngine e x).svc.jobs = none := by
  have hListed : j ∈ (x.svc.jobs.filter (fun j => j.2.thread / 4 == e)).map (·.1) :=
    List.mem_map.mpr ⟨(j, b), List.mem_filter.mpr ⟨hMem, beq_iff_eq.mpr hHome⟩, rfl⟩
  have hGone := getKey_foldl_faultDrop hListed x
  unfold dropEngine
  generalize ((x.svc.jobs.filter (fun j => j.2.thread / 4 == e)).map (·.1)).foldl faultDrop x = y at hGone ⊢
  exact hGone
theorem threadOf_dropEngine {k : Nat} (e : Nat) (x : State) (hThread : k < 4) : threadOf (dropEngine e x) (4 * e + k) = {} := by
  unfold dropEngine
  generalize ((x.svc.jobs.filter (fun j => j.2.thread / 4 == e)).map (·.1)).foldl faultDrop x = y
  have hNodup : ([0, 1, 2, 3].map (4 * e + ·)).Nodup := List.Nodup.map (add_right_injective (4 * e)) (by decide)
  exact nth_reset hNodup (List.mem_map.mpr ⟨k, by simp; omega, rfl⟩) y.svc.threads
/-- An engine that was well is declared faulty, with its cause and its record. -/
theorem engineFault_well {e t : Nat} {s : State} (hEngine : e < 16) (hWell : (begin_ t s).svc.faulty.testBit e = false) :
    engineFault e t s = selfFault 7 e (raiseIdx 9 2 e (updSvc (fun v => { v with faulty := setBit v.faulty e }) (dropEngine e (begin_ t s)))) := by
  have hGoes : (decide (e ≥ 16) || bit (begin_ t s).svc.faulty e) = false := by
    rw [decide_eq_false (by omega), bit, hWell]
    rfl
  unfold engineFault
  dsimp only
  rw [hGoes]
  rfl
theorem engineFault_svc {e t : Nat} {s : State} (hEngine : e < 16) (hWell : (begin_ t s).svc.faulty.testBit e = false) :
    (engineFault e t s).svc = { (dropEngine e (begin_ t s)).svc with faulty := setBit (dropEngine e (begin_ t s)).svc.faulty e } := by
  rw [engineFault_well hEngine hWell, show ∀ x, (selfFault 7 e x).svc = x.svc from fun _ => rfl, raiseIdx_svc]
  rfl
theorem stands_engineFault {e t : Nat} {s : State} (hEngine : e < 16) (hWell : (begin_ t s).svc.faulty.testBit e = false) :
    causeStands 9 2 (engineFault e t s) := by
  rw [engineFault_well hEngine hWell]
  exact stands_host rfl (stands_raiseIdx_self 9 2 e _ (by decide))

/-- Settles O36, row by row: the commands of the service, its decisions and jobs, the schedules, the end of shedding and the fault of an engine. -/
theorem serviceRuns : Obligations.ServiceRuns := by
  refine ⟨?configure, ?admission, ?status, ?decision, ?trick, ?lane, ?scheduled, ?shed, ?fault⟩
  case configure =>
    intro q s hStarts hFits x p buf clubs l
    have hRun : exec (.svcConfigure q) s = done 0x0900 q [] { x with shadow := svcApply p x.shadow } := runCmd_writes hStarts (checkedN_of hFits)
    refine ⟨(svcApply p x.shadow).svc, ?_, svcApply_svc p x.shadow⟩
    rw [hRun, svcApply_rest, svcApply_addrs]
  case admission =>
    intro q s hStarts x a hFits
    refine ⟨admReply a, ?_, admReply_length a, admReply_fields a⟩
    split
    next hRead => exact runCmd_done hStarts ((checked_of hFits).trans (if_pos hRead)) rfl rfl
    next hWrite => exact runCmd_done hStarts ((checked_of hFits).trans (if_neg hWrite)) rfl rfl
  case status =>
    intro q s hStarts hFits x
    exact ⟨svcStatusReply x, runCmd_done hStarts (checked_of hFits) rfl rfl, svcStatusReply_shedding x, svcStatusReply_fields x⟩
  case decision =>
    intro t s q rest hRun x y
    have hNext : exec (.admissionDecision t) s = .next (admissionDecision t s) := next_if_running hRun _ _
    refine ⟨fun hNone => hNext.trans (congrArg Outcome.next (admissionDecision_none hNone)), fun hFirst hOpen => ?_⟩
    have hKept : kept (admissionDecision t s) = kept x := (kept_admissionDecision t s).trans (kept_begin_ t s).symm
    have hVerdict := admissionDecision_first hFirst hOpen
    refine ⟨_, hNext, hKept, ?_⟩
    rw [hVerdict, show updSvc (fun v => { v with waiting := rest }) (begin_ t s) = y from rfl]
    cases decideReq y q with
    | refuse k =>
      have hDesk := desk_refuseReq q k y
      have hWaiting := waiting_of_desk hDesk
      have hJobs := jobs_of_desk hDesk
      exact ⟨hWaiting, fun _ _ => hJobs, fun _ _ _ hTake => Verdict.noConfusion hTake⟩
    | take h lane l =>
      obtain ⟨b, hRolls, hHome, hLaunch, hLane, hCost, hFrame⟩ := commitJob_takes q h lane l y
      obtain ⟨hWaiting, hJobs, hId, -⟩ := fields_of_rolls hRolls
      refine ⟨hWaiting, fun _ hRefuse => Verdict.noConfusion hRefuse, fun h' lane' l' hTake => ?_⟩
      cases hTake
      exact ⟨b, (congrArg (getKey _) hJobs).trans (getKey_putKey_self _ b _), hHome, hLaunch, hLane, hCost, hFrame, hId⟩
  case trick =>
    intro h j w s b hRun hThread hJob
    have hNext : exec (.trickJob h) s = .next (endStretch h { s with out := [] }) := next_whileRunning hRun (endStretch h)
    have hKept : kept (endStretch h { s with out := [] }) = kept s := kept_endStretch h _
    refine ⟨fun hNoCall => ⟨_, hNext, hKept, endStretch_ends hThread hJob hNoCall⟩, fun k o lat f hLane hCalled hFree => ?_⟩
    obtain ⟨⟨c, hGet, hMarked, hDone, hReturn⟩, hHmac⟩ := endStretch_callsHmac (s := { s with out := [] }) hThread hJob hLane hCalled hFree
    exact ⟨_, c, hNext, hKept, hGet, hMarked, hDone, hReturn, hHmac⟩
  case lane =>
    intro h j s th hRun hThread hHolds hLane y
    exact ⟨_, next_whileRunning hRun (laneReturn h), kept_laneReturn h _, laneReturn_holding (s := { s with out := [] }) hThread hHolds hLane⟩
  case scheduled =>
    intro i p mtype per phase base g s c b hUp hRun hPer hSchedule hInst hBind hOpen k at_ hStill
    have hNext : exec (.scheduledPresent i p mtype g) s = .next (scheduledPresent i p mtype g { s with out := [] }) := rfl
    have hKept : kept (scheduledPresent i p mtype g { s with out := [] }) = kept s := kept_scheduledPresent i p mtype g _
    obtain ⟨q, seq, hMem, hLength, hKind, hPort, hWork⟩ :=
      scheduledPresent_awaits (s := { s with out := [] }) hUp hRun hSchedule hInst hBind hOpen hStill
    have hInstant := next_instant (phase := phase) hPer (Int.natCast_add (curTs s) 131072000)
    exact ⟨_, q, seq, hNext, hKept, hMem, hLength, hKind, hPort, hWork, hInstant⟩
  case shed =>
    intro s f hRun hShed hSince y
    have hEnd : shedEnd { s with out := [] } = raise 9 5 (updSvc (fun v => { v with shedding := false, freeSince := none }) y) := by
      unfold shedEnd
      dsimp only
      rw [hShed, hSince]
      rfl
    have hNext : exec .shedEnd s = .next (shedEnd { s with out := [] }) := next_whileRunning hRun shedEnd
    refine ⟨_, hNext.trans (congrArg Outcome.next hEnd), stands_raise_self 9 5 _ (by decide), plain_raise 9 5 _⟩
  case fault =>
    intro e t s hRun x hEngine hWell
    have hNext : exec (.engineFault e t) s = .next (engineFault e t s) := next_if_running hRun _ _
    have hKept : kept (engineFault e t s) = kept x := (kept_engineFault e t s).trans (kept_begin_ t s).symm
    have hSvc := engineFault_svc hEngine hWell
    refine ⟨_, hNext, stands_engineFault hEngine hWell, ?_, congrArg (fun k => (k.2.1, k.2.2, k.1.1)) hKept, fun k hThread => ?_,
      fun j b hMem hHome => ?_⟩
    · exact (congrArg (fun v : SvcRun => v.faulty.testBit e) hSvc).trans (testBit_setBit (dropEngine e x).svc.faulty e)
    · exact (congrArg (fun v : SvcRun => nth v.threads (4 * e + k)) hSvc).trans (threadOf_dropEngine e x hThread)
    · exact (congrArg (fun v : SvcRun => getKey j v.jobs) hSvc).trans (getKey_dropEngine (e := e) (x := x) hMem hHome)

end Sys2Proof.Machine
end

section
/-! PROOFS. The queue of commands, and the thermal events (R33, R496, R555, R557, R570). -/
namespace Sys2Proof.Machine
open Sys2Proof Host

/-- Settles O1: the two cases of `step`, and the table that spells no word. -/
theorem stepRunsTheFrontCommand : Obligations.StepRunsTheFrontCommand := by
  unfold Obligations.StepRunsTheFrontCommand
  refine ⟨fun c rest s hFront => ?_, fun s hEmpty => ?_, fun nbits w s => ⟨rfl, rfl⟩⟩
  · unfold step
    rw [hFront]
  · unfold step
    rw [hEmpty]

/-- Settles O60: every row keeps the queue, as it keeps the boot invariant. -/
theorem noCommandTouchesTheQueue : Obligations.NoCommandTouchesTheQueue := by
  unfold Obligations.NoCommandTouchesTheQueue
  intro c s t hx
  obtain ⟨hPending, -⟩ := exec_bootKept hx
  exact hPending

/-! ### Temperature -/

/-- THERMAL_SHUTDOWN with VDDIO and no hold standing is a self-fault and a device reset with a hold (R557, R570). -/
theorem thermalShutdown_resets {temp : Int} {x : State} (hSupply : x.boot.vddio = true) (hFree : x.boot.thermalHold = false) (hHot : 1000 ≤ temp) :
    let t := thermalShutdown temp x
    t.boot.thermalHold = true ∧ t.boot.inReset = true ∧ t.boot.resetCause = 4 ∧ t.pair.live = false ∧ running t = false ∧
    t.work = ({} : Cfg) ∧ t.fuse = x.fuse := by
  have hResets : thermalShutdown temp x = updBoot (fun b => { b with thermalHold := true }) (deviceReset 4 (selfFault 6 temp.toNat x)) := by
    have hCold : ¬ temp < 1000 := by omega
    simp only [thermalShutdown, hSupply, hFree, hCold, faultReset, Bool.not_true, Bool.or_self, decide_false, Bool.false_eq_true, if_false]
  intro t
  have hBoot : t.boot = { (deviceReset 4 (selfFault 6 temp.toNat x)).boot with thermalHold := true } := by simp only [t, hResets, updBoot]
  have hFuse : t.fuse = x.fuse := by
    simp only [t, hResets, updBoot_fuse, deviceReset_fuse]
    exact selfFault_fuse 6 _ x rfl
  rw [hBoot, deviceReset_boot]
  refine ⟨rfl, rfl, rfl, ?_, ?_, ?_, hFuse⟩
  · simp only [t, hResets, updBoot_pair, deviceReset_pair]
  · simp only [t, hResets, not_running_of_unlocked (s := updBoot _ (deviceReset _ _)) rfl]
  · simp only [t, hResets, updBoot_work, deviceReset_work]

/-- Settles O55, row by row. -/
theorem thermalEvents : Obligations.ThermalEvents := by
  unfold Obligations.ThermalEvents
  refine ⟨?shutdown, ?release, ?warn, ?clear⟩
  case shutdown =>
    intro t temp s x hSupply hFree hHot
    exact ⟨_, rfl, thermalShutdown_resets hSupply hFree hHot⟩
  case release =>
    intro t temp s x
    exact ⟨fun hCool => congrArg Outcome.next (if_pos hCool), fun hHot => congrArg Outcome.next (if_neg (by omega))⟩
  case warn =>
    intro t temp s x hRun hNone hWarm
    have hWarns : thermalWarn temp x = raise 1 4 (updBoot (fun b => { b with thermalWarn := true, tempMax := temp }) x) := by
      have hCold : ¬ temp < 840 := by omega
      simp only [thermalWarn, hRun, hNone, hCold, Bool.not_true, Bool.or_self, decide_false, Bool.false_eq_true, if_false]
    exact ⟨_, congrArg Outcome.next hWarns, stands_raise_self 1 4 _ (by decide), plain_raise 1 4 _⟩
  case clear =>
    intro t temp s x hCool
    exact congrArg Outcome.next (if_pos hCool)

end Sys2Proof.Machine
end

section
/-! PROOFS. Packets that the Dealer turns away, and the reply in its slot (R492 to R499, R528). -/
namespace Sys2Proof.Machine
open Sys2Proof Host

/-! ### A packet with a bad header -/

/-- A packet that finds the queue empty and its slot free is accepted and starts at once (R496, R498). -/
theorem runCmdAt_emptyQueue {op : Nat} {q : Req} {s : State} (h : Nat → Handler) (hAccepts : accepting (begin_ q.time s) = true)
    (hEmpty : (begin_ q.time s).host.queue = []) (hFree : slotFree q (begin_ q.time s) = true) :
    runCmdAt op h q s = acceptGo (startCmd op h (curTs (begin_ q.time s)) q (started op q s)).2 := by
  unfold runCmdAt started
  revert hAccepts hEmpty hFree
  generalize begin_ q.time s = x
  intro hAccepts hEmpty hFree
  have hNew : queued op q x.host.queue = none := by
    rw [hEmpty]
    rfl
  have hRoom : ¬ x.host.queue.length ≥ 256 := by
    rw [hEmpty]
    decide
  have hSubmitted : (submit op q x).host.queue = [{ opcode := op, req := q, arrived := curTs x, arrivedPs := x.now }] := by
    rw [submit_queue op q x hFree, hEmpty]
    rfl
  simp only [hAccepts, hNew, hFree, hRoom, hSubmitted, queued_one, nextEntry_one, startEntry, List.erase_cons_head, Bool.not_true,
    Bool.false_eq_true, if_false, if_true, Option.isSome_none]

/-- The header check comes before the opcode's meaning, whatever that is (R494). -/
theorem startCmd_badHeader {op : Nat} {q : Req} (h : Nat → Handler) (arrived : Nat) (x : State) (hBad : headerBad q = true)
    (hOwn : isMirrored q = false) : (startCmd op h arrived q x).2 = reply op q 0x11 0xFFFF [] x := by
  unfold startCmd
  rw [hBad, forwardMirror_off x hOwn]
  rfl

/-- Where nothing waits in the register banks, a reply lets nothing else in. -/
theorem acceptGo_reply {op : Nat} {q : Req} {x : State} (st d : Nat) (data : Bytes) (hOwn : isMirrored q = false)
    (hPcie : x.host.pcie.go = false) (hSpi : x.host.spi.go = false) : acceptGo (reply op q st d data x) = reply op q st d data x := by
  obtain ⟨hSamePcie, hSameSpi⟩ := banks_of_base (base_reply op q st d data x hOwn)
  refine acceptGo_off ?_ ?_
  · rw [hSamePcie, hPcie]
  · rw [hSameSpi, hSpi]

/-! ### A packet whose slot is pending -/

/-- The state with these register banks. -/
def withBanks (a b : IfBank) (s : State) : State := { s with host := { s.host with pcie := a, spi := b } }

theorem plain_withBanks {s t : State} (h : plain t = plain s) (a b : IfBank) : plain (withBanks a b t) = plain (withBanks a b s) := by
  have hInner : ∀ x : State, plain (withBanks a b x) = withBanks a b (plain x) := fun _ => rfl
  rw [hInner, hInner, h]
/-- A row that changes register banks alone, and bookkeeping. -/
theorem plain_banksOnly {s t y : State} (hBanks : t = withBanks t.host.pcie t.host.spi y) (h : plain y = plain s) :
    plain t = plain (withBanks t.host.pcie t.host.spi s) := by
  have hSame := plain_withBanks h t.host.pcie t.host.spi
  rw [← hBanks] at hSame
  exact hSame

theorem endGo_banksOnly (i : Iface) (v : BitVec 8) (y : State) :
    endGo i v y = withBanks (endGo i v y).host.pcie (endGo i v y).host.spi y := by cases i <;> rfl

/-- A submission whose slot is pending raises SLOT_BUSY, is answered where it came from, and touches no slot and no queue (R498, R501, R505). -/
theorem refuseSlot_refuses (op : Nat) (q : Req) (x : State) :
    let t := refuseSlot op q x
    causeStands 0 11 t ∧ t.host.queue = x.host.queue ∧ t.host.slots = x.host.slots ∧
    plain t = plain (withBanks t.host.pcie t.host.spi x) := by
  have hStands := stands_raise_self 0 11 x (by decide)
  have hQueue := raise_queue 0 11 x
  have hSlots := slots_raise 0 11 x
  have hPlain := plain_raise 0 11 x
  have hSame : ∀ y : State, y = withBanks y.host.pcie y.host.spi y := fun _ => rfl
  unfold refuseSlot
  revert hStands hQueue hSlots hPlain
  generalize raise 0 11 x = y
  intro hStands hQueue hSlots hPlain
  dsimp only
  split
  next c _ =>
    have hEntry := base_replyRingWrite c (replyHeader op q 0 stResource 0 (sourceByte q.src)) y
    refine ⟨stands_of_cause (cause_replyRingWrite c _ y) hStands, ?_, ?_, ?_⟩
    · exact (congrArg (fun z : State => z.host.queue) hEntry).trans hQueue
    · rw [slots_replyRingWrite, hSlots]
    · exact plain_banksOnly (hSame _) ((plain_base hEntry).trans hPlain)
  · exact ⟨stands_of_cause rfl hStands, hQueue, hSlots, plain_banksOnly (endGo_banksOnly .pcie 0x20 y) hPlain⟩
  · exact ⟨stands_of_cause rfl hStands, hQueue, hSlots, plain_banksOnly (endGo_banksOnly .spi 0x20 y) hPlain⟩
  · exact ⟨hStands, hQueue, hSlots, plain_banksOnly (hSame y) hPlain⟩

/-- A packet that does not wait and whose slot is pending is refused (R498). -/
theorem runCmdAt_slotBusy {op : Nat} {q : Req} {s : State} (h : Nat → Handler) (hAccepts : accepting (begin_ q.time s) = true)
    (hNew : queued op q (begin_ q.time s).host.queue = none) (hBusy : slotFree q (begin_ q.time s) = false) :
    runCmdAt op h q s = refuseSlot op q (begin_ q.time s) := by
  unfold runCmdAt
  simp only [hAccepts, hNew, hBusy, Bool.not_true, Bool.not_false, Bool.false_eq_true, if_false, if_true]

/-! ### The reply in its slot -/

/-- Reply data are filled up to whole words (R499). -/
theorem length_padded (data : Bytes) : (data ++ zeros ((4 - data.length % 4) % 4)).length = (data.length + 3) / 4 * 4 := by
  rw [List.length_append, zeros_length]
  omega
theorem nth_slots_reply {op : Nat} {q : Req} {s : State} (st d : Nat) (data : Bytes) (hUses : usesSlot q = true)
    (hSlot : slotOf q < s.host.slots.length) :
    nth (reply op q st d data s).host.slots (slotOf q) = slotResult op q st d (data ++ zeros ((4 - data.length % 4) % 4)) := by
  rw [reply, slots_replyWith, repliedSlots, if_pos hUses]
  exact nth_upd_self _ hSlot
theorem slots_reply_other {op : Nat} {q : Req} {s : State} (st d : Nat) (data : Bytes) {k : Nat} (hOther : k ≠ slotOf q) :
    (reply op q st d data s).host.slots[k]? = s.host.slots[k]? := by
  rw [reply, slots_replyWith, repliedSlots]
  split
  · rw [upd_get, if_neg (Ne.symm hOther)]
  · rfl

/-- Settles O3: each way of turning a packet away, and the fields of the slot after a reply. -/
theorem dealerAnswersEveryPacket : Obligations.DealerAnswersEveryPacket := by
  unfold Obligations.DealerAnswersEveryPacket
  refine ⟨?badOpcode, ?badHeader, ?slotBusy, ?reply⟩
  case badOpcode =>
    intro op q s hUnknown hStarts
    have hRow : execBadOpcode op q s = .next (runCmd op hBadOpcode q s) := by
      unfold execBadOpcode
      rw [hUnknown]
      rfl
    exact hRow.trans (congrArg Outcome.next (runCmd_refused hStarts rfl))
  case badHeader =>
    intro op h q s x hAccepts hBad hOwn hEmpty hFree hPcie hSpi
    rw [runCmdAt_emptyQueue h hAccepts hEmpty hFree, startCmd_badHeader h _ _ hBad hOwn]
    exact acceptGo_reply _ _ _ hOwn hPcie hSpi
  case slotBusy =>
    intro op h q s x hAccepts hNew hUses hPending
    have hBusy : slotFree q x = false := by
      rw [slotFree, hUses, hPending]
      rfl
    intro t
    have hRefused : t = refuseSlot op q x := runCmdAt_slotBusy h hAccepts hNew hBusy
    rw [hRefused]
    exact refuseSlot_refuses op q x
  case reply =>
    intro op q st d data s hOwn hUses hSlot t r
    have hResult : r = slotResult op q st d (data ++ zeros ((4 - data.length % 4) % 4)) := nth_slots_reply st d data hUses hSlot
    rw [hResult]
    exact ⟨rfl, rfl, rfl, rfl, rfl, rfl, List.take_left, length_padded data, rfl, fun k hOther => slots_reply_other st d data hOther,
      base_reply op q st d data s hOwn⟩

end Sys2Proof.Machine
end

section
/-! PROOFS. SYS_IDENTIFY, SYS_STATUS, SYS_CONFIG_DIGEST and SYS_ECHO (R491, R521, R523, R524, R573). -/
namespace Sys2Proof.Machine
open Sys2Proof Host

/-! ### The replies -/

theorem beBytes_length (n v : Nat) : (beBytes n v).length = n := (List.length_reverse ..).trans (leBytes_length n v)
theorem identifyReply_length (x : State) : (identifyReply x).length = 48 := by
  simp only [identifyReply, List.length_append, leBytes_length, beBytes_length, zeros_length]
theorem identifyReply_fields (x : State) :
    let data := identifyReply x
    fld data 0 2 = 0x9624 ∧ fld data 2 1 = 0xA0 ∧ fld data 3 1 = x.attest.lc % 256 ∧ fld data 12 1 = strapBits x % 256 ∧
    fld data 24 4 = x.boot.romVersion % 2 ^ 32 ∧ fld data 28 4 = x.boot.dealerVersion % 2 ^ 32 ∧
    fld data 40 1 = (x.host.linkWidth + 16 * x.host.linkGen) % 256 := by
  simp only [identifyReply, List.append_assoc, fld_append_right, fld_le_here, leBytes_length, beBytes_length, zeros_length, Nat.reduceLeDiff,
    Nat.reduceSub, Nat.reducePow, Nat.reduceMod, and_self]

theorem faultRow_length (e : FaultEntry) : (faultRow e).length = 16 := by
  simp only [faultRow, List.length_append, leBytes_length, zeros_length]
theorem sysStatusReply_length (x : State) : (sysStatusReply x).length = 64 + 16 * x.boot.faults.length := by
  unfold sysStatusReply
  simp only [List.length_append, leBytes_length, leInt_length, zeros_length, List.length_flatMap, faultRow_length,
    List.map_const', List.sum_replicate_nat, List.length_range]
  omega
theorem sysStatusReply_fields (x : State) :
    let data := sysStatusReply x
    fld data 0 1 = x.boot.stage % 256 ∧ fld data 1 1 = x.attest.lc % 256 ∧ fld data 4 1 = x.boot.resetCause % 256 ∧
    fld data 5 1 = x.boot.faults.length % 256 ∧ fld data 8 4 = x.boot.bootTime % 2 ^ 32 := by
  unfold sysStatusReply
  simp only [List.append_assoc, fld_append_right, fld_le_here, leBytes_length, Nat.reduceLeDiff, Nat.reduceSub, Nat.reducePow,
    and_self]
/-- The flags of SYS_STATUS: CMD_READY, the claim, the shared-output enable, the time's validity (R573). -/
theorem sysStatusReply_flags (x : State) :
    let flags := fld (sysStatusReply x) 2 2
    flags.testBit 0 = x.boot.cmdReady ∧ flags.testBit 1 = x.pair.live ∧ flags.testBit 2 = x.pair.enable ∧ flags.testBit 4 = x.time.valid := by
  unfold sysStatusReply
  simp only [List.append_assoc, fld_append_right, fld_le_here, leBytes_length, Nat.reduceLeDiff, Nat.reduceSub, statusFlags]
  refine ⟨?_, ?_, ?_, ?_⟩ <;> rw [testBit_field _ (by decide), testBit_packBits] <;> rfl

theorem digestReply_fields (x : State) :
    let data := digestReply x
    let n := x.host.digest.length
    data.take n = x.host.digest ∧ fld data n 4 = x.host.commitCount % 2 ^ 32 ∧ fld data (n + 4) 1 = (if x.shadow = x.work then 0 else 1) := by
  have hDiffers : b2n (x.shadow != x.work) % 256 = if x.shadow = x.work then 0 else 1 := by
    by_cases hSame : x.shadow = x.work <;> simp [hSame, b2n]
  simp only [digestReply, List.append_assoc, fld_append_right, Nat.le_add_right, Nat.le_refl, Nat.sub_self, Nat.add_sub_cancel_left, fld_le_here,
    leBytes_length, List.take_left, Nat.reducePow, hDiffers, and_self]

/-! ### SYS_ECHO -/

theorem acceptCmd_time (op : Nat) (q : Req) (s : State) : (acceptCmd op q s).time = s.time := by
  unfold acceptCmd
  split <;> rfl
theorem refuseSlot_plain (op : Nat) (q : Req) (s : State) :
    plain (refuseSlot op q s) = plain (withBanks (refuseSlot op q s).host.pcie (refuseSlot op q s).host.spi s) := by
  obtain ⟨-, -, -, hPlain⟩ := refuseSlot_refuses op q s
  exact hPlain
theorem submit_time (op : Nat) (q : Req) (s : State) : (submit op q s).time = s.time := by
  unfold submit
  split
  · exact (time_of_plain (refuseSlot_plain op q s)).trans rfl
  · dsimp only
    split
    · rw [endGo, updBank_time, acceptCmd_time]
    · exact acceptCmd_time op q s
/-- A command executes at the counter of its start (R496, R524). -/
theorem curTs_started (op : Nat) (q : Req) (s : State) : curTs (started op q s) = curTs (begin_ q.time s) := by
  have hTime : (if (queued op q (begin_ q.time s).host.queue).isSome then begin_ q.time s else submit op q (begin_ q.time s)).time =
      (begin_ q.time s).time := by
    split
    · rfl
    · exact submit_time op q _
  exact congrArg (fun t : TimePart => t.counter.total / 2 ^ 32) hTime
/-- A packet that finds the queue empty arrives as it starts (R496). -/
theorem arrivalOf_emptyQueue {op : Nat} {q : Req} {s : State} (hEmpty : (begin_ q.time s).host.queue = []) :
    arrivalOf op q s = curTs (started op q s) := by
  rw [curTs_started, arrivalOf, hEmpty]
  rfl

theorem slice_append_right {a r : Bytes} {j n : Nat} (h : a.length ≤ j) : slice (a ++ r) j n = slice r (j - a.length) n := by
  simp only [slice, List.drop_append, List.drop_eq_nil_of_le h, List.nil_append]
theorem slice_here {a r : Bytes} {n : Nat} (h : a.length = n) : slice (a ++ r) 0 n = a := by
  subst h
  simp [slice]

/-- Settles O4, command by command: the handler's answer, and the fields of the reply. -/
theorem systemReportsComplete : Obligations.SystemReportsComplete := by
  unfold Obligations.SystemReportsComplete
  refine ⟨?identify, ?status, ?digest, ?echo⟩
  case identify =>
    intro q s hStarts hFits x
    exact ⟨identifyReply x, runCmd_done hStarts (checked_of hFits) rfl rfl, identifyReply_length x, identifyReply_fields x⟩
  case status =>
    intro q s hStarts hFits x
    obtain ⟨hStage, hLife, hCause, hCount, hBoot⟩ := sysStatusReply_fields x
    obtain ⟨hReady, hLive, hEnable, hValid⟩ := sysStatusReply_flags x
    refine ⟨sysStatusReply x, ?_, sysStatusReply_length x, hStage, hLife, hReady, hLive, hEnable, hValid, hCause, hCount, hBoot⟩
    split
    next hClear => exact runCmd_done hStarts ((checked_of hFits).trans (congrArg (Answer.done _) (if_pos hClear))) rfl rfl
    next hKeep => exact runCmd_done hStarts ((checked_of hFits).trans (congrArg (Answer.done _) (if_neg hKeep))) rfl rfl
  case digest =>
    intro q s hStarts hFits x
    exact ⟨digestReply x, runCmd_done hStarts (checked_of hFits) rfl rfl, digestReply_fields x⟩
  case echo =>
    intro q s hStarts hEmpty x
    have hRow : exec (.sysEcho q) s = done 0x0105 q (tsBytes (arrivalOf 0x0105 q s) ++ tsBytes (curTs x) ++ zeros 8 ++
        slice q.params 0 (4 * q.length.toNat)) x := runCmdAt_done hStarts rfl rfl rfl
    rw [arrivalOf_emptyQueue hEmpty] at hRow
    refine ⟨_, hRow, ?_, ?_, ?_⟩
    · rw [List.append_assoc, List.append_assoc]
      exact List.take_left' (tsBytes_length _)
    · rw [List.append_assoc, List.append_assoc, slice_append_right (Nat.le_of_eq (tsBytes_length _)), tsBytes_length]
      exact slice_here (tsBytes_length _)
    · exact List.drop_left' (by simp only [List.length_append, tsBytes_length, zeros_length])

end Sys2Proof.Machine
end

section
/-! PROOFS. The stages of boot (R433, R437, R501, R529, R559 to R563). -/
namespace Sys2Proof.Machine
open Sys2Proof Host

/-! ### Stages -/

theorem atStage_here {n : Nat} {x : State} (f : State → State) (hRun : running x = true) (hStage : x.boot.stage = n) : atStage n f x = f x := by
  rw [atStage, hRun, hStage, beq_self_eq_true]
  rfl
theorem atStage_other {n : Nat} {x : State} (f : State → State) (hStage : x.boot.stage ≠ n) : atStage n f x = x := by
  rw [atStage, beq_eq_false_iff_ne.mpr hStage, Bool.and_false]
  rfl

/-! ### IMAGE_LOAD -/

/-- `t` is `s` but for the part of boot, the measurement registers and bookkeeping. -/
def bootsOnly (s t : State) : Prop := plain t = plain { s with boot := t.boot, attest := { s.attest with mrs := t.attest.mrs } }

theorem bootsOnly_trans {s t u : State} (h : bootsOnly s t) (g : bootsOnly t u) : bootsOnly s u := by
  have hInner : ∀ (x : State) (b : BootPart) (a : AttestPart), plain { x with boot := b, attest := a } = { plain x with boot := b, attest := a } :=
    fun _ _ _ => rfl
  have hAttest : t.attest = { s.attest with mrs := t.attest.mrs } := attest_of_plain h
  unfold bootsOnly at h g ⊢
  rw [g, hInner, h, hAttest]
  rfl
theorem bootsOnly_updBoot (f : BootPart → BootPart) (s : State) : bootsOnly s (updBoot f s) := rfl
theorem bootsOnly_extend (k : Nat) (d : Bytes) (s : State) : bootsOnly s (extend k d s) := rfl
theorem bootsOnly_raise (c b : Nat) (s : State) : bootsOnly s (raise c b s) := by
  unfold bootsOnly
  rw [raise_boot, raise_attest]
  exact plain_raise c b s

/-- Measuring images touches the measurement registers alone (R437). -/
theorem measureImages_only (l : List (Nat × Bytes)) (s : State) :
    measureImages l s = { s with attest := { s.attest with mrs := (measureImages l s).attest.mrs } } := by
  unfold measureImages
  refine List.foldlRecOn (motive := fun x : State => x = { s with attest := { s.attest with mrs := x.attest.mrs } }) _ _ rfl fun x hx id _ => ?_
  dsimp only
  split
  · unfold extend updAttest
    rw [hx]
  · exact hx
theorem takeImages_only (l : List (Nat × Bytes)) (s : State) : takeImages l s =
    { s with boot := { s.boot with images := l, loads := [], stage := 6 }, attest := { s.attest with mrs := (measureImages l s).attest.mrs } } := by
  unfold takeImages updBoot
  rw [measureImages_only]
theorem bootsOnly_takeImages (l : List (Nat × Bytes)) (s : State) : bootsOnly s (takeImages l s) := by
  rw [takeImages_only]
  rfl

section
variable {a b : Bytes} {x : State}

/-- The ROM has measured itself, and notes which copy it takes. -/
def copyChosen (useB : Bool) (x : State) : State := updBoot (fun y => { y with copyB := useB }) (extend 0 Config.romDigest x)

theorem imageLoad_hostBoot (hSource : x.boot.bootSrc = 2) :
    imageLoad a b x = updBoot (fun y => { y with stage := 5 }) (extend 0 Config.romDigest x) := if_pos hSource
theorem imageLoad_noBoot (hSource : x.boot.bootSrc = 3) :
    imageLoad a b x = updBoot (fun y => { y with stage := 15 }) (extend 0 Config.romDigest x) :=
  (if_neg (show ¬ x.boot.bootSrc = 2 by omega)).trans (if_pos hSource)
/-- Copy B is taken where it alone is valid, or is the newer of two valid ones (R560). -/
theorem imageLoad_flashBoot (hHost : x.boot.bootSrc ≠ 2) (hNone : x.boot.bootSrc ≠ 3) :
    let useB := copyValid b && (!copyValid a || decide (fld b 8 4 > fld a 8 4))
    imageLoad a b x = if copyValid a || copyValid b then
        if useB then raise 1 3 (takeImages (copyImages (if useB then b else a)) (copyChosen useB x))
        else takeImages (copyImages (if useB then b else a)) (copyChosen useB x)
      else if x.boot.bootSrc = 1 then updBoot (fun y => { y with stage := 5 }) (extend 0 Config.romDigest x)
      else updBoot (fun y => { y with stage := 15 }) (extend 0 Config.romDigest x) :=
  (if_neg hHost).trans (if_neg hNone)

theorem bootsOnly_imageLoad : bootsOnly x (imageLoad a b x) := by
  have hMeasured := bootsOnly_extend 0 Config.romDigest x
  have hTaken : ∀ useB l, bootsOnly x (takeImages l (copyChosen useB x)) := fun useB l =>
    bootsOnly_trans (bootsOnly_trans hMeasured (bootsOnly_updBoot _ _)) (bootsOnly_takeImages l _)
  by_cases hHost : x.boot.bootSrc = 2
  · rw [imageLoad_hostBoot hHost]
    exact bootsOnly_trans hMeasured (bootsOnly_updBoot _ _)
  · by_cases hNone : x.boot.bootSrc = 3
    · rw [imageLoad_noBoot hNone]
      exact bootsOnly_trans hMeasured (bootsOnly_updBoot _ _)
    · rw [imageLoad_flashBoot hHost hNone]
      split
      · split
        · exact bootsOnly_trans (hTaken _ _) (bootsOnly_raise 1 3 _)
        · exact hTaken _ _
      · split
        · exact bootsOnly_trans hMeasured (bootsOnly_updBoot _ _)
        · exact bootsOnly_trans hMeasured (bootsOnly_updBoot _ _)
end

/-! ### KEY_DERIVE -/

/-- The derivation of keys writes keys alone (R435, R436). -/
theorem deriveKeys_only (s : State) : deriveKeys s = { s with attest := (deriveKeys s).attest } ∧
    (deriveKeys s).attest.lc = s.attest.lc ∧ (deriveKeys s).attest.mrs = s.attest.mrs := by
  unfold deriveKeys
  split
  · exact ⟨rfl, rfl, rfl⟩
  · exact ⟨rfl, rfl, rfl⟩
theorem keyDerive_only (x : State) :
    let t := keyDerive x
    t = { x with boot := { x.boot with stage := 7 }, attest := t.attest } ∧ t.attest.lc = x.attest.lc ∧
    ∀ k, k ≠ 5 → t.attest.mrs[k]? = x.attest.mrs[k]? := by
  unfold keyDerive
  obtain ⟨hOnly, hLife, hRegisters⟩ := deriveKeys_only (extend 5 (sha384 (Config.bootText (strapBits x) x.attest.lc (bootImage x 5))) x)
  generalize deriveKeys _ = y at hOnly hLife hRegisters ⊢
  refine ⟨?_, hLife, fun k hOther => ?_⟩
  · rw [hOnly]
    rfl
  · change y.attest.mrs[k]? = _
    rw [hRegisters]
    exact (upd_get _ _ _ _).trans (if_neg (Ne.symm hOther))

/-! ### DEALER_START -/

/-- The block without the flash and bookkeeping. -/
def offFlash (s : State) : State := plain { s with flash := {} }

theorem offFlash_of_plain {s t : State} (h : plain t = plain s) : offFlash t = offFlash s := by
  have hInner : ∀ x : State, offFlash x = { plain x with flash := {} } := fun _ => rfl
  rw [hInner, hInner, h]
theorem plain_of_offFlash {s t : State} (h : offFlash t = offFlash s) : plain t = plain { s with flash := t.flash } := by
  have hBack : ∀ (x : State) (f : FlashPart), plain { x with flash := f } = { offFlash x with flash := f } := fun _ _ => rfl
  rw [hBack s, ← h]
  rfl
theorem offFlash_raise (c b : Nat) (s : State) : offFlash (raise c b s) = offFlash s := offFlash_of_plain (plain_raise c b s)
theorem offFlash_ledgers (s : State) (p : ScorePart) (f : FlashPart) : offFlash { s with score := p, flash := f } = offFlash s := rfl
theorem offFlash_burn (what : String) (addr sectors : Nat) (b : Bytes) (s : State) : offFlash (burn what addr sectors b s) = offFlash s := rfl
theorem offFlash_startPage (s : State) : offFlash (startPage s) = offFlash s := by
  unfold startPage
  split
  · split
    · rfl
    · exact offFlash_burn _ _ _ _ _
  · rfl
theorem offFlash_commitPage (forced : Bool) (s : State) : offFlash (commitPage forced s) = offFlash s := by
  unfold commitPage
  dsimp only
  rw [offFlash_startPage]
  split
  · rfl
  · exact offFlash_raise 15 4 _
/-- The Scorecard opens on its own part and on the flash (R529 to R532). -/
theorem offFlash_scoreBoot (density : Nat) (s : State) : offFlash (scoreBoot density s) = offFlash s := by
  unfold scoreBoot
  extract_lets k _ _ opened torn valid _ cleaned dhead _ placed _ _
  have hOpened : offFlash opened = offFlash s := rfl
  have hCleaned : offFlash cleaned = offFlash opened := by
    unfold cleaned
    split
    · exact offFlash_raise 15 5 _
    · rfl
  have hPlaced : offFlash placed = offFlash s := hCleaned.trans hOpened
  clear_value opened placed
  split
  · exact (offFlash_raise 15 6 _).trans hOpened
  · split
    · exact (offFlash_commitPage false _).trans hPlaced
    · dsimp only
      split
      · exact (offFlash_commitPage false _).trans ((offFlash_ledgers placed _ _).trans hPlaced)
      · exact (offFlash_burn _ _ _ _ _).trans ((offFlash_ledgers placed _ _).trans hPlaced)

/-- The engines start, with their versions. -/
def enginesStarted (x : State) : State := updBoot (fun b => { b with
  stage := 8, romVersion := Config.versionOf 0 Config.romDigest % 2 ^ 32
  dealerVersion := imageVersion x 2, trickVersion := imageVersion x 3, gnssVersion := imageVersion x 4 }) x

theorem boot_of_offFlash {s t : State} (h : offFlash t = offFlash s) : t.boot = s.boot := by
  have hBoot := congrArg State.boot h
  exact hBoot
/-- The last reset and the faults on record become occurrences, and faults raise FAULT_RECORD (R534, R570). -/
theorem dealerStart_enters (density : Nat) (x : State) : ∃ y, offFlash y = offFlash (enginesStarted x) ∧
    dealerStart density x = if x.boot.faults.isEmpty then y else raise 1 2 y := by
  have hOpen := offFlash_scoreBoot density (enginesStarted x)
  unfold dealerStart
  extract_lets started opened reset entered
  have hReset : offFlash reset = offFlash (enginesStarted x) := by
    refine Eq.trans ?_ hOpen
    unfold reset
    split
    · exact offFlash_of_plain (plain_occur _ _ _)
    · rfl
  have hEntered : offFlash entered = offFlash (enginesStarted x) := by
    refine Eq.trans (offFlash_of_plain ?_) hReset
    exact plain_foldl _ (fun z e => plain_occur _ _ z) _ _
  have hFaults : entered.boot.faults = x.boot.faults := by
    rw [boot_of_offFlash hEntered]
    rfl
  exact ⟨entered, hEntered, by rw [hFaults]⟩
theorem dealerStart_starts (density : Nat) (x : State) :
    let t := dealerStart density x
    t.boot.stage = 8 ∧ plain t = plain { x with boot := t.boot, flash := t.flash } ∧ (x.boot.faults ≠ [] → causeStands 1 2 t) := by
  obtain ⟨y, hEntered, hStart⟩ := dealerStart_enters density x
  have hSame : offFlash (dealerStart density x) = offFlash (enginesStarted x) := by
    rw [hStart]
    split
    · exact hEntered
    · exact (offFlash_raise 1 2 y).trans hEntered
  have hBoot := boot_of_offFlash hSame
  refine ⟨by rw [hBoot]; rfl, ?_, fun hFaulty => ?_⟩
  · rw [hBoot]
    exact plain_of_offFlash hSame
  · rw [hStart, if_neg (by simpa using hFaulty)]
    exact stands_raise_self 1 2 y (by decide)

/-! ### READY -/

theorem acceptGo_raise {c b : Nat} {y : State} (hPcie : y.host.pcie.go = false) (hSpi : y.host.spi.go = false) :
    acceptGo (raise c b y) = raise c b y := by
  have hBanks := banks_raise c b y
  refine acceptGo_off ?_ ?_
  · exact (congrArg (fun p : IfBank × IfBank => p.1.go) hBanks).trans hPcie
  · exact (congrArg (fun p : IfBank × IfBank => p.2.go) hBanks).trans hSpi
/-- READY follows the boot configuration image, where there is one (R559, R562). -/
theorem ready_readies {x : State} (hImage : x.boot.configDone = true ∨ getKey 5 x.boot.images = none) (hPcie : x.host.pcie.go = false)
    (hSpi : x.host.spi.go = false) : ready x = raise 1 0 (updBoot (fun b => { b with
      stage := 9, cmdReady := true, bootTime := (x.now - b.resetEnd) / 1000000 }) x) := by
  have hExecuted : ¬ (!x.boot.configDone && (getKey 5 x.boot.images).isSome) = true := by
    rcases hImage with hDone | hAbsent
    · simp only [hDone, Bool.not_true, Bool.false_and, Bool.false_eq_true, not_false_eq_true]
    · simp only [hAbsent, Option.isSome_none, Bool.and_false, Bool.false_eq_true, not_false_eq_true]
  exact (if_neg hExecuted).trans (acceptGo_raise hPcie hSpi)

/-! ### CONFIG_IMAGE_EXEC -/

theorem configImage_again {x : State} (hDone : x.boot.configDone = true) : configImage x = x := if_pos hDone
theorem configImage_executes {x : State} (hNew : x.boot.configDone = false) :
    (configImage x).boot.configDone = true ∧
    (getKey 5 x.boot.images = none → configImage x = { x with boot := { x.boot with configDone := true } }) := by
  have hNotDone : ¬ x.boot.configDone = true := by
    rw [hNew]
    decide
  unfold configImage
  rw [if_neg hNotDone]
  refine ⟨rfl, fun hAbsent => ?_⟩
  have hEmpty : bootImage x 5 = [] := by
    rw [bootImage, hAbsent]
    rfl
  rw [hEmpty]
  rfl

/-! ### The rows -/

/-- Settles O56, stage by stage. -/
theorem bootStages : Obligations.BootStages := by
  unfold Obligations.BootStages
  refine ⟨?fuses, ?sram, ?image, ?keys, ?dealer, ?config, ?ready, ?claim, ?others⟩
  case fuses =>
    intro t s x hRun hStage
    exact ⟨_, congrArg Outcome.next (atStage_here fuseRead hRun hStage), rfl⟩
  case sram =>
    intro t ok s x hRun hStage
    exact congrArg Outcome.next (atStage_here _ hRun hStage)
  case image =>
    intro t a b s x hRun hStage
    refine ⟨_, congrArg Outcome.next (atStage_here (imageLoad a b) hRun hStage), bootsOnly_imageLoad, fun hHost => ?_, fun hNone => ?_,
      fun hHost hNone hA hB => ?_, fun hHost hNone hA hB => ?_, fun hHost hNone hA hB => ?_⟩
    · rw [imageLoad_hostBoot hHost]
      rfl
    · rw [imageLoad_noBoot hNone]
      rfl
    · have hTakes : imageLoad a b x = takeImages (copyImages a) (copyChosen false x) := by
        rw [imageLoad_flashBoot hHost hNone, hA, hB]
        rfl
      rw [hTakes, takeImages_only]
      exact ⟨rfl, rfl, rfl⟩
    · have hTakes : imageLoad a b x = raise 1 3 (takeImages (copyImages b) (copyChosen true x)) := by
        rw [imageLoad_flashBoot hHost hNone, hA, hB]
        rfl
      rw [hTakes]
      have hStands := stands_raise_self 1 3 (takeImages (copyImages b) (copyChosen true x)) (by decide)
      rw [raise_boot, takeImages_only] at *
      exact ⟨rfl, rfl, rfl, hStands⟩
    · rw [imageLoad_flashBoot hHost hNone, hA, hB]
      simp only [Bool.or_self, Bool.false_eq_true, if_false]
      split <;> rfl
  case keys =>
    intro t s x hRun hStage
    exact ⟨_, congrArg Outcome.next (atStage_here keyDerive hRun hStage), keyDerive_only x⟩
  case dealer =>
    intro t density s x hRun hStage
    exact ⟨_, congrArg Outcome.next (atStage_here (dealerStart density) hRun hStage), dealerStart_starts density x⟩
  case config =>
    intro t s x hRun hStage
    have hRow : exec (.configImageExec t) s = .next (configImage x) := congrArg Outcome.next (atStage_here configImage hRun hStage)
    refine ⟨fun hDone => ?_, fun hNew => ⟨_, hRow, configImage_executes hNew⟩⟩
    rw [hRow, configImage_again hDone]
  case ready =>
    intro t s x hRun hStage hImage hPcie hSpi
    have hReady := ready_readies hImage hPcie hSpi
    refine ⟨_, congrArg Outcome.next ((atStage_here ready hRun hStage).trans hReady), stands_raise_self 1 0 _ (by decide), plain_raise 1 0 _⟩
  case claim =>
    intro t s x hRun hReady hLoaded hUnspent
    have hOut : x.out = [] := begin_out t s
    have hOpens : claimOpen x = setPads (updBoot (fun b => { b with claimSpent := true }) (updPair (fun p => { p with
        live := true, enable := false, force := 0, sent := 0 }) x)) := by
      simp only [claimOpen, hRun, hReady, hLoaded, hUnspent, Bool.not_true, Bool.or_self, Bool.false_eq_true, if_false]
    refine (congrArg Outcome.next hOpens : exec (.claimOpen t) s = _).trans ?_
    rw [setPads, emit, updBoot_out, updPair_out, hOut]
    rfl
  case others =>
    intro t density ok s x
    exact ⟨fun h => congrArg Outcome.next (atStage_other _ h), fun h => congrArg Outcome.next (atStage_other _ h),
      fun h => congrArg Outcome.next (atStage_other _ h), fun h => congrArg Outcome.next (atStage_other _ h)⟩

end Sys2Proof.Machine
end

section
/-! PROOFS. Rows of equal length in reply data. -/
namespace Sys2Proof.Machine
open Sys2Proof Host

theorem fld_drop (bs : Bytes) (i j n : Nat) : fld bs (i + j) n = fld (bs.drop i) j n := by
  simp only [fld, slice, List.drop_drop]
/-- A field within the first part of the data. -/
theorem fld_append_left {a r : Bytes} {j n : Nat} (h : j + n ≤ a.length) : fld (a ++ r) j n = fld a j n := by
  have hLong : (a.drop j).length ≥ n := by
    rw [List.length_drop]
    omega
  have hInside : ∀ t : Bytes, ((a.drop j ++ t).take n ++ zeros n).take n = (a.drop j).take n := fun t => by
    rw [List.take_append_of_le_length hLong, List.take_append_of_le_length (by rw [List.length_take]; omega), List.take_take, Nat.min_self]
  have hAlone := hInside []
  rw [List.append_nil] at hAlone
  rw [fld, fld, slice, slice, List.drop_append_of_le_length (by omega), hInside, hAlone]
theorem drop_flatMap {α : Type} {f : α → Bytes} {k : Nat} (hRow : ∀ a, (f a).length = k) {l : List α} {i : Nat} {a : α} (hGet : l[i]? = some a) :
    ∃ r, (l.flatMap f).drop (k * i) = f a ++ r := by
  induction l generalizing i with
  | nil => cases hGet
  | cons b l ih =>
    cases i with
    | zero => exact ⟨l.flatMap f, by rw [← Option.some.inj hGet]; rfl⟩
    | succ i =>
      obtain ⟨r, hr⟩ := ih hGet
      refine ⟨r, ?_⟩
      have hPast : k * (i + 1) = (f b).length + k * i := by rw [hRow, Nat.mul_succ, Nat.add_comm]
      rw [List.flatMap_cons, hPast, List.drop_append, List.drop_eq_nil_of_le (Nat.le_add_right _ _), Nat.add_sub_cancel_left]
      exact hr
/-- A field of one row. -/
theorem fld_flatMap {α : Type} {f : α → Bytes} {k : Nat} (hRow : ∀ a, (f a).length = k) {l : List α} {i : Nat} {a : α} (hGet : l[i]? = some a)
    {j n : Nat} (hInside : j + n ≤ k) : fld (l.flatMap f) (k * i + j) n = fld (f a) j n := by
  obtain ⟨r, hr⟩ := drop_flatMap hRow hGet
  rw [fld_drop, hr, fld_append_left (by rw [hRow]; exact hInside)]
theorem length_flatMap_rows {α : Type} {f : α → Bytes} {k : Nat} (hRow : ∀ a, (f a).length = k) (l : List α) : (l.flatMap f).length = k * l.length := by
  simp only [List.length_flatMap, hRow, List.map_const', List.sum_replicate_nat, Nat.mul_comm]

end Sys2Proof.Machine
end
section
/-! PROOFS. The commands of the Scorecard and of the performance counters (R531 to R551). -/
namespace Sys2Proof.Machine
open Sys2Proof Host

/-! ### REC_COMMIT_NOW -/

theorem runCmd_later_of_banks {op : Nat} {q : Req} {s e : State} {h : Handler} (hStarts : startsAt op q s = true)
    (hLater : h q (started op q s) = .later e) (hBanks : banks e = banks (started op q s)) : runCmd op h q s = e :=
  runCmd_later hStarts hLater (congrArg Prod.fst hBanks) (congrArg Prod.snd hBanks)

/-- A page's snapshot as it waits (R535, R536). -/
def pageNow (forced : Bool) (s : State) : Writing := { page := livePage forced s, start := s.now, forced }
/-- The snapshot has joined the pages that wait, and the accumulators are cleared (R536). -/
def pageTaken (forced : Bool) (s : State) : State := updScore (fun x => { x with
  waiting := x.waiting ++ [pageNow forced s], samples := x.samples.filter (fun e => !inPage s e.1), occs := x.occs.filter (fun r => !inPage s r.code)
  omitted := [], limited := false, opStart := opTime s, carry := [] }) s
theorem commitPage_goes (forced : Bool) (s : State) : ∃ y, base y = base (pageTaken forced s) ∧ commitPage forced s = startPage y := by
  refine ⟨if (livePage forced s).omitted = 0 then pageTaken forced s else raise 15 4 (pageTaken forced s), ?_, rfl⟩
  rw [base_ite, base_raise15, ite_self]

theorem startPage_host (s : State) : (startPage s).host = s.host := by
  unfold startPage
  split
  · split <;> rfl
  · rfl
/-- A commit leaves the host part alone but for bookkeeping. -/
theorem commitPage_hostBase (forced : Bool) (s : State) : hostBase (commitPage forced s).host = hostBase s.host := by
  obtain ⟨y, hBase, hGoes⟩ := commitPage_goes forced s
  rw [hGoes, startPage_host]
  have hHost := congrArg State.host hBase
  exact hHost
theorem hourCommit_pages {s : State} (hOn : scoreOn s = true) : hourCommit s =
    updScore (fun x => { x with dailyDue := x.dailyDue || opTime s % 24576 == 0 }) (commitPage false (credited s)) := by
  have hStill : scoreOn (credited s) = true := hOn
  unfold hourCommit
  change (if (!scoreOn (credited s)) = true then _ else _) = _
  rw [hStill]
  rfl

/-- A commit of a chip with no page in write and none waiting: the page is written, or waits behind an image write (R536). -/
theorem commitPage_first (forced : Bool) {s : State} (hIdle : s.score.writing = none) (hNone : s.score.waiting = []) :
    let t := commitPage forced s
    ∃ v : Writing, (kittyUses s = true → t.score.writing = none ∧ t.score.waiting = [v]) ∧
      (kittyUses s = false → t.score.writing = some v ∧ t.score.waiting = [] ∧ v.slot = s.flash.hourlyHead % 1024 ∧ ∃ b, .flash "HOURLY" b ∈ t.out) ∧
      v.page.opStart = s.score.opStart ∧ v.page.opEnd = opTime s ∧ v.forced = forced ∧
      t.score.opStart = opTime s ∧ t.score.carry = [] ∧ t.score.credits = s.score.credits := by
  obtain ⟨y, hBase, hGoes⟩ := commitPage_goes forced s
  have hScore : y.score = (pageTaken forced s).score := score_of_base hBase
  have hFlash : y.flash = s.flash := (flash_of_base hBase).trans rfl
  have hKitty : kittyUses y = kittyUses s := kittyUses_of ((kitty_of_base hBase).trans rfl)
  have hWriting : y.score.writing = none := by
    rw [hScore]
    exact hIdle
  have hWaiting : y.score.waiting = [pageNow forced s] := by
    rw [hScore]
    change s.score.waiting ++ [_] = _
    rw [hNone]
    rfl
  obtain ⟨w, l, hOther⟩ := startPage_score y
  have hRest : (startPage y).score.opStart = opTime s ∧ (startPage y).score.carry = [] ∧ (startPage y).score.credits = s.score.credits := by
    rw [hOther, hScore]
    exact ⟨rfl, rfl, rfl⟩
  intro t
  have ht : t = startPage y := hGoes
  clear_value t
  subst ht
  cases hUses : kittyUses s with
  | true =>
    rw [startPage_kitty (hKitty.trans hUses)] at hRest ⊢
    exact ⟨pageNow forced s, fun _ => ⟨hWriting, hWaiting⟩, fun h => absurd h (by decide), rfl, rfl, rfl, hRest⟩
  | false =>
    rw [startPage_starts hWriting hWaiting (hKitty.trans hUses), hFlash] at hRest ⊢
    obtain ⟨b, o, hBurns, hMem, -⟩ := burnHourly_only { pageNow forced s with
      slot := s.flash.hourlyHead % 1024, page := { (pageNow forced s).page with written := opTime y } } y.score.kind
      { y with
        score := { y.score with writing := some { pageNow forced s with
          slot := s.flash.hourlyHead % 1024, page := { (pageNow forced s).page with written := opTime y } }, waiting := [] }
        flash := { s.flash with hourly := delKey (s.flash.hourlyHead % 1024) s.flash.hourly } }
    rw [hBurns] at hRest ⊢
    exact ⟨_, fun h => absurd h (by decide), fun _ => ⟨rfl, rfl, rfl, b, hMem⟩, rfl, rfl, rfl, hRest⟩

/-- A commit outside the hour takes a credit (R538). -/
def creditSpent (s : State) : State := updScore (fun x => { x with credits := x.credits - 1 }) s
theorem hRecCommitNow_of {q : Req} {x : State} (hFits : fits q 0 []) :
    hRecCommitNow q x = refuseIf (x.score.writing.isSome || !x.score.waiting.isEmpty || !scoreOn x) stBadState 0
      (if hourDue x then .later (hourCommit (addWait { key := .recCommit, opcode := 0x0F02, req := q } x))
        else refuseIf (x.score.credits == 0) stResource 0 (.later (commitPage true (creditSpent (addWait { key := .recCommit, opcode := 0x0F02, req := q } x))))) := checked_of hFits

/-- Where a Scorecard accumulates and no page is in write: refused without a credit, else the commit of the hour or one of its own (R548). -/
theorem hRecCommitNow_able {q : Req} {x : State} (hFits : fits q 0 []) (hIdle : x.score.writing = none) (hNone : x.score.waiting = [])
    (hOn : scoreOn x = true) :
    let w : Wait := { key := .recCommit, opcode := 0x0F02, req := q }
    (hourDue x = false → x.score.credits = 0 → hRecCommitNow q x = .refuse 0x20 0) ∧
    (hourDue x = true ∨ 0 < x.score.credits → ∃ t v, hRecCommitNow q x = .later t ∧ banks t = banks x ∧ t.host.waits = x.host.waits ++ [w] ∧ kept t = kept x ∧
      (kittyUses x = true → t.score.writing = none ∧ t.score.waiting = [v]) ∧
      (kittyUses x = false → t.score.writing = some v ∧ t.score.waiting = [] ∧ v.slot = x.flash.hourlyHead % 1024 ∧ ∃ b, .flash "HOURLY" b ∈ t.out) ∧
      v.page.opStart = x.score.opStart ∧ v.page.opEnd = opTime x ∧ v.forced = !hourDue x ∧
      t.score.opStart = opTime x ∧ t.score.carry = [] ∧
      t.score.credits = if hourDue x then min 24 (x.score.credits + 1) else x.score.credits - 1) := by
  intro w
  have hHandler := hRecCommitNow_of (x := x) hFits
  have hFree : (x.score.writing.isSome || !x.score.waiting.isEmpty || !scoreOn x) = false := by
    rw [hIdle, hNone, hOn]
    rfl
  replace hHandler := hHandler.trans (refuseIf_not hFree)
  refine ⟨fun hNotDue hSpent => ?_, fun hAble => ?_⟩
  · rw [hNotDue, hSpent] at hHandler
    exact hHandler
  · cases hDue : hourDue x with
    | true =>
      rw [hDue] at hHandler
      have hOnStill : scoreOn (addWait w x) = true := hOn
      have hPages := hourCommit_pages hOnStill
      have hHost := commitPage_hostBase false (credited (addWait w x))
      have hBanks := congrArg (fun h : HostPart => (h.pcie, h.spi)) hHost
      have hWaits := congrArg HostPart.waits hHost
      obtain ⟨v, hBehind, hWrites, hRest⟩ := commitPage_first false (s := credited (addWait w x)) hIdle hNone
      refine ⟨hourCommit (addWait w x), v, hHandler, ?_⟩
      rw [hPages]
      exact ⟨hBanks, hWaits, (kept_commitPage _ _).trans (kept_addWait w x), hBehind, hWrites, hRest⟩
    | false =>
      have hCredit : (x.score.credits == 0) = false := by
        rcases hAble with hHour | hLeft
        · rw [hDue] at hHour
          cases hHour
        · exact beq_eq_false_iff_ne.mpr (by omega)
      rw [hDue, hCredit] at hHandler
      have hHost := commitPage_hostBase true (creditSpent (addWait w x))
      have hBanks := congrArg (fun h : HostPart => (h.pcie, h.spi)) hHost
      have hWaits := congrArg HostPart.waits hHost
      obtain ⟨v, hBehind, hWrites, hRest⟩ := commitPage_first true
        (s := creditSpent (addWait w x)) hIdle hNone
      exact ⟨_, v, hHandler, hBanks, hWaits, (kept_commitPage _ _).trans (kept_addWait w x), hBehind, hWrites, hRest⟩

/-! ### REC_READ -/

theorem headerBytes_length (p : Page) (crc : Nat) : (headerBytes p crc).length = 64 := by
  have hMagic : (ascii (if p.daily then "SCD1" else "SCH1")).length = 4 := by
    cases p.daily <;> rfl
  simp only [headerBytes, List.length_append, hMagic, leBytes_length, tsBytes_length, zeros_length]
theorem recBytes_length {r : Rec} (hHist : r.hist.length = 7) : (recBytes r).length = 64 := by
  simp only [recBytes, List.length_append, leBytes_length, leInt_length, List.length_flatMap, List.map_const', List.sum_replicate_nat, hHist]
theorem pageReply_length (p : Page) (crc max first : Nat) :
    64 ≤ (pageReply p crc max first).length ∧
    ((∀ r ∈ p.records, r.hist.length = 7) → (pageReply p crc max first).length = 64 + 64 * min max (p.records.length - first)) := by
  rw [pageReply, List.length_append, headerBytes_length]
  refine ⟨Nat.le_add_right _ _, fun hHist => ?_⟩
  have hRows : ∀ r ∈ (p.records.drop first).take max, (recBytes r).length = 64 := fun r hr =>
    recBytes_length (hHist r (List.mem_of_mem_drop (List.mem_of_mem_take hr)))
  rw [List.length_flatMap, List.map_congr_left hRows, List.map_const', List.sum_replicate_nat, List.length_take, List.length_drop, Nat.mul_comm]
/-- The header of a page (R531, R547). -/
theorem pageReply_fields (p : Page) (crc max first : Nat) :
    let data := pageReply p crc max first
    fld data 0 4 = (if p.daily then 0x31444353 else 0x31484353) ∧ fld data 4 4 = p.seq % 2 ^ 32 ∧ fld data 8 4 = p.opStart % 2 ^ 32 ∧
    fld data 12 4 = p.opEnd % 2 ^ 32 ∧ fld data 16 3 = p.powerCycle % 2 ^ 24 ∧ fld data 19 1 = p.flags % 256 ∧
    fld data 32 2 = p.records.length % 65536 ∧ fld data 34 2 = p.omitted % 65536 ∧ fld data 36 4 = p.carryIn % 2 ^ 32 ∧
    fld data 40 4 = p.written % 2 ^ 32 := by
  have hMagic : (ascii (if p.daily then "SCD1" else "SCH1")).length = 4 ∧
      ∀ r : Bytes, fld (ascii (if p.daily then "SCD1" else "SCH1") ++ r) 0 4 = if p.daily then 0x31444353 else 0x31484353 := by
    cases p.daily <;> exact ⟨rfl, fun r => fld_here rfl⟩
  obtain ⟨hLen, hHere⟩ := hMagic
  dsimp only
  unfold pageReply headerBytes
  generalize ascii (if p.daily then "SCD1" else "SCH1") = magic at hLen hHere ⊢
  simp only [List.append_assoc, fld_append_right, fld_le_here, hHere, hLen, leBytes_length, tsBytes_length, Nat.reduceLeDiff, Nat.reduceSub,
    Nat.reducePow, and_self]

/-! ### PERF_READ -/

theorem perfEntry_length (x : State) (k n : Nat) : (perfEntry x k n).length = 8 := leBytes_length 8 _
/-- The reply of PERF_READ (R549). -/
def perfReply (b n : Nat) (x : State) : Bytes :=
  leBytes 2 b ++ leBytes 2 n ++ tsBytes (curTs x) ++ (List.range n).flatMap fun k => perfEntry x k (b + k)
theorem perfReply_fields (b n : Nat) (x : State) :
    (perfReply b n x).length = 16 + 8 * n ∧ fld (perfReply b n x) 0 2 = b % 65536 ∧ fld (perfReply b n x) 2 2 = n % 65536 := by
  refine ⟨?_, ?_, ?_⟩
  · simp only [perfReply, List.length_append, leBytes_length, tsBytes_length, length_flatMap_rows (fun k => perfEntry_length x k (b + k)),
      List.length_range]
  · simp only [perfReply, List.append_assoc, fld_le_here, Nat.reducePow]
  · simp only [perfReply, List.append_assoc, fld_append_right, fld_le_here, leBytes_length, Nat.reduceLeDiff, Nat.reduceSub, Nat.reducePow]
theorem perfReply_entry {b n i : Nat} (x : State) (hi : i < n) :
    fld (perfReply b n x) (16 + 8 * i) 8 = (if perfExists (b + i) then 2 ^ 63 + perfValue x i (b + i) else 0) % 2 ^ 64 := by
  have hHead : (leBytes 2 b ++ leBytes 2 n ++ tsBytes (curTs x)).length = 16 := by
    simp only [List.length_append, leBytes_length, tsBytes_length]
  have hRow := fld_flatMap (fun k => perfEntry_length x k (b + k)) (List.getElem?_range hi) (j := 0) (n := 8) (by decide)
  rw [perfReply, fld_append_right (by rw [hHead]; exact Nat.le_add_right _ _), hHead, Nat.add_sub_cancel_left]
  refine hRow.trans ?_
  simp only [perfEntry, fld_le_all, Nat.reducePow]

/-! ### The commands -/

/-- Settles O52, command by command: what each writes, answers or refuses, and the fields of the replies. -/
theorem scorecardCommands : Obligations.ScorecardCommands := by
  unfold Obligations.ScorecardCommands
  refine ⟨?configure, ?commit, ?read, ?perf, ?filter, ?window⟩
  case configure =>
    intro q s hStarts hFits x p
    exact (runCmd_writes (h := hRecConfigure) hStarts (checked_of hFits) :)
  case commit =>
    intro q s hStarts hFits x w
    have hHandler := hRecCommitNow_of (x := x) hFits
    refine ⟨fun hBad => ?refused, fun hIdle hNone hOn => ?able⟩
    case refused =>
      refine congrArg Outcome.next (runCmd_refused hStarts (hHandler.trans (refuseIf_true ?_)))
      rcases hBad with hWriting | hWaiting | hOff
      · rw [Option.isSome_iff_ne_none.mpr hWriting]
        rfl
      · simp only [List.isEmpty_eq_false_iff.mpr hWaiting, Bool.not_false, Bool.or_true, Bool.true_or]
      · rw [hOff]
        exact Bool.or_true _
    case able =>
      obtain ⟨hSpent, hCommits⟩ := hRecCommitNow_able hFits hIdle hNone hOn
      refine ⟨fun hNotDue hNoCredit => congrArg Outcome.next (runCmd_refused hStarts (hSpent hNotDue hNoCredit)), fun hAble => ?_⟩
      obtain ⟨y, v, hLater, hBanks, hWaits, hKept, hRest⟩ := hCommits hAble
      exact ⟨y, v, congrArg Outcome.next (runCmd_later_of_banks hStarts hLater hBanks), hKept, hWaits, hRest⟩
  case read =>
    intro q s hStarts x area seq l hFits
    refine ⟨fun hArea hNone => ?_, fun g hPage => ?_⟩
    · refine congrArg Outcome.next (runCmd_refused hStarts ((checked_of hFits).trans ((if_neg hArea).trans ?_)))
      rw [show pageBySeq (if fld q.params 0 1 = 1 then _ else _) (fld q.params 4 4) = none from hNone]
      rfl
    · obtain ⟨crc, hReads⟩ : ∃ crc, hRecRead q x = .done (pageReply g crc (fld q.params 1 1) (fld q.params 2 2)) x := by
        rcases hPage with ⟨hArea, hGet⟩ | ⟨hArea, hLive⟩
        · refine ⟨pageCrc g x.score.kind, (checked_of hFits).trans ((if_neg hArea).trans ?_)⟩
          rw [show pageBySeq (if fld q.params 0 1 = 1 then _ else _) (fld q.params 4 4) = some g from hGet]
        · refine ⟨0, (checked_of hFits).trans ((if_pos hArea).trans ?_)⟩
          rw [hLive]
      obtain ⟨hLong, hLength⟩ := pageReply_length g crc (fld q.params 1 1) (fld q.params 2 2)
      obtain ⟨hMagic, hRest⟩ := pageReply_fields g crc (fld q.params 1 1) (fld q.params 2 2)
      exact ⟨_, runCmd_done hStarts hReads rfl rfl, hLong, hMagic, hLength, hRest⟩
  case perf =>
    intro q s hStarts hFits x b n
    obtain ⟨hLength, hFirst, hCount⟩ := perfReply_fields b n x
    refine ⟨perfReply b n x, runCmd_done hStarts (checked_of hFits) rfl rfl, hLength, hFirst, hCount, fun i hi => ?_⟩
    rw [perfReply_entry x hi]
    refine ⟨fun hAbsent => ?_, fun hHere hOpen => ?_, fun hHere hBeyond hInner => ?_⟩
    · rw [hAbsent]
      rfl
    · have hCounted : (decide (1280 ≤ b + i) && innerFilter x (b + i - 1280)) = false := by
        rcases hOpen with hBelow | hOuter
        · rw [decide_eq_false (by omega)]
          rfl
        · rw [hOuter]
          exact Bool.and_false _
      rw [hHere, perfValue, hCounted]
      rfl
    · have hValue : perfValue x i (b + i) = Config.freeNat (x.free + i) % 2 ^ 48 := by
        rw [perfValue, hInner, decide_eq_true hBeyond]
        rfl
      rw [hHere, hValue, if_pos rfl]
      generalize Config.freeNat (x.free + i) = v
      omega
  case filter =>
    intro q s o hStarts hFits x p hGet f
    have hRow := runCmd_writes (h := hPerfFilterSet) hStarts (checked_of hFits)
    rw [upd_of_get hGet] at hRow
    exact hRow
  case window =>
    intro q s hStarts hFits x p
    have hRow := runCmd_writes (h := hPerfWindowSet) hStarts (checked_of hFits)
    refine ⟨_, hRow, ?_, fun n w hGet => ?_⟩
    · rw [List.length_map, List.length_zipIdx]
    · rw [List.getElem?_map, List.getElem?_zipIdx, hGet]
      simp only [Option.map_some, Nat.zero_add, p]

end Sys2Proof.Machine
end

section
/-! PROOFS. The registers of the rings, and the commands that configure and report them (R503, R504, R512, R525, R526). -/
namespace Sys2Proof.Machine
open Sys2Proof Host

/-! ### RING_CONFIGURE and RING_STATUS -/

theorem ringStatusReply_length (x : State) (r : Nat) : (ringStatusReply x r).length = 72 := by
  simp only [ringStatusReply, List.length_append, leBytes_length, zeros_length]
theorem ringStatusReply_fields (x : State) (r : Nat) :
    let data := ringStatusReply x r
    let g := nth x.host.rings r
    fld data 0 2 = r % 65536 ∧ fld data 3 1 = b2n g.enable + 2 * b2n g.fault ∧ fld data 4 2 = g.head % 65536 ∧ fld data 6 2 = g.db % 65536 ∧
    fld data 8 2 = g.second % 65536 ∧ fld data 10 2 = g.secondDb % 65536 ∧ fld data 12 1 = g.faultCause % 256 ∧
    fld data 16 8 = g.items % 2 ^ 64 ∧ fld data 24 8 = g.bytes % 2 ^ 64 := by
  have hFlags : ∀ a b : Bool, packBits [a, b] % 256 = b2n a + 2 * b2n b := by decide
  simp only [ringStatusReply, ringOf, List.append_assoc, fld_append_right, fld_le_here, leBytes_length, zeros_length, Nat.reduceLeDiff,
    Nat.reduceSub, Nat.reducePow, hFlags, and_self]

/-! ### Writes of the registers of a ring -/

theorem writeWord_ringCtrl (i : Iface) {r : Nat} (v : Word) (s : State) (hr : r < 256) : writeWord i (0x1008 + 16 * r) v s = ringCtrl r v.toNat s := by
  have hRing : (0x1008 + 16 * r - 0x1000) / 16 = r := by omega
  have hThird : (0x1008 + 16 * r) % 16 / 4 = 2 := by omega
  rw [writeWord, if_neg (by omega), if_neg (by omega), if_neg (by omega), if_neg (by omega), if_pos (by omega), hRing, hThird]
  rfl
theorem writeWord_doorbell (i : Iface) {r : Nat} (v : Word) (s : State) (hr : r < 256) :
    writeWord i (0x0100 + 4 * r) v s = doorbell r v.toNat false s := by
  have hRing : (0x0100 + 4 * r - 0x0100) / 4 = r := by omega
  rw [writeWord, if_neg (by omega), if_pos (by omega), hRing]
/-- TSQ_DB and REPLY_DB: the second doorbells of transmit and command rings (R503). -/
theorem writeWord_secondDoorbell (i : Iface) {r : Nat} (v : Word) (s : State) (hLow : 96 ≤ r) (hHigh : r < 224) :
    writeWord i (0x0500 + 4 * (r - 96)) v s = doorbell r v.toNat true s := by
  by_cases hTx : r < 192
  · have hRing : 96 + (0x0500 + 4 * (r - 96) - 0x0500) / 4 = r := by omega
    rw [writeWord, if_neg (by omega), if_neg (by omega), if_pos (by omega), hRing]
  · have hRing : 192 + (0x0500 + 4 * (r - 96) - 0x0680) / 4 = r := by omega
    rw [writeWord, if_neg (by omega), if_neg (by omega), if_neg (by omega), if_pos (by omega), hRing]

/-! ### RING_CTRL -/

theorem logOk_iff (r l : Nat) : logOk r l = true ↔ if 192 ≤ r ∧ r < 224 then 2 ≤ l ∧ l ≤ 8 else 4 ≤ l ∧ l ≤ 15 := by
  unfold logOk isCmd
  simp only [decide_eq_true_eq]
  split <;> exact decide_eq_true_iff
theorem logOk_false {r l : Nat} (hLog : if 192 ≤ r ∧ r < 224 then ¬ (2 ≤ l ∧ l ≤ 8) else ¬ (4 ≤ l ∧ l ≤ 15)) : logOk r l = false := by
  unfold logOk isCmd
  simp only [decide_eq_true_eq]
  split at hLog
  case isTrue hCmd => exact (if_pos hCmd).trans (decide_eq_false hLog)
  case isFalse hCmd => exact (if_neg hCmd).trans (decide_eq_false hLog)
/-- With indices of 0 and no more entries posted than the ring holds, a ring starts without a fault (R504). -/
theorem enableFault_none {r : Nat} {g : Ring} (hLog : logOk r g.logSize = true) (hRing : r < 256) (hHead : g.head = 0) (hSecond : g.second = 0)
    (hHost : if r < 224 then g.secondDb = 0 ∧ g.db ≤ 2 ^ g.logSize else g.db = 0) : enableFault r g = none := by
  have hZero : idxDist 0 0 = 0 := rfl
  have hPosted : ∀ n, idxDist n 0 ≤ n := fun n => by
    unfold idxDist
    omega
  have hFits : consumerDb r g = 0 ∧ tooMany r g = false := by
    unfold consumerDb tooMany isEvt ringSize
    by_cases hEvt : r < 224
    · rw [if_pos hEvt] at hHost
      obtain ⟨hSecondDb, hDb⟩ := hHost
      have hNotEvt : decide (224 ≤ r ∧ r < 256) = false := decide_eq_false (by omega)
      have hRoom := (hPosted g.db).trans hDb
      simp only [hNotEvt, Bool.false_eq_true, if_false, hSecondDb, hHead, hSecond, hZero, gt_iff_lt, Nat.not_lt.mpr hRoom, Nat.not_lt_zero,
        decide_false, Bool.and_false, Bool.or_self, and_self]
    · rw [if_neg hEvt] at hHost
      have hIsEvt : decide (224 ≤ r ∧ r < 256) = true := decide_eq_true (by omega)
      simp only [hIsEvt, if_true, hHost, hHead, hZero, gt_iff_lt, Nat.not_lt_zero, decide_false, and_self]
  obtain ⟨hConsumer, hMany⟩ := hFits
  unfold enableFault
  rw [hLog, hConsumer, hMany]
  rfl
theorem enableFault_logSize {r : Nat} {g : Ring} (hLog : logOk r g.logSize = false) : enableFault r g = some 5 := by
  unfold enableFault
  rw [hLog]
  rfl

/-- A ring as a write with ENABLE starts it (R503, R504). -/
def ringStarted (v : Nat) (g : Ring) : Ring := { g with
  enable := true, head := 0, second := 0, fetched := 0, ended := [], seq := 0, logSize := v / 256 % 16, holdoff := v / 2 ^ 20 % 4096 }
/-- The state with the ring started, before a fault at its enable. -/
def ringOpened (r v : Nat) (x : State) : State :=
  updRing r (fun g => { g with enable := true, head := 0, second := 0, fetched := 0, ended := [], seq := 0 })
    (dropStale r (updRing r (fun g => { g with holdoff := v / 2 ^ 20 % 4096, logSize := v / 256 % 16 }) x))

section
variable {r v : Nat} {x : State} {g : Ring} (hGet : x.host.rings[r]? = some g)
include hGet

theorem ringOpened_rings : (ringOpened r v x).host.rings = x.host.rings.set r (ringStarted v g) := by
  have hFirst : (updRing r (fun g => { g with holdoff := v / 2 ^ 20 % 4096, logSize := v / 256 % 16 }) x).host.rings[r]? =
      some { g with holdoff := v / 2 ^ 20 % 4096, logSize := v / 256 % 16 } := get_updRing _ hGet
  refine (upd_of_get (l := (dropStale r _).host.rings) hFirst).trans ?_
  change (upd x.host.rings r _).set r _ = _
  rw [upd_of_get hGet, List.set_set]
  rfl
theorem ringOpened_get : (ringOpened r v x).host.rings[r]? = some (ringStarted v g) := by
  have hInRange : r < x.host.rings.length := (List.getElem?_eq_some_iff.mp hGet).1
  rw [ringOpened_rings hGet, List.getElem?_set_self hInRange]
/-- A stopped ring is enabled, or faults at once (R504). -/
theorem ringCtrl_enables (hOff : g.enable = false) (hBit : v.testBit 0 = true) : ringCtrl r v x =
    match enableFault r (ringStarted v g) with
    | some c => ringFault r c (ringOpened r v x)
    | none => ringOpened r v x := by
  rw [← ringOf_of_get (ringOpened_get (v := v) hGet)]
  unfold ringCtrl
  rw [ringOf_of_get hGet, hOff, bit, hBit]
  rfl
theorem ringCtrl_disables (hBit : v.testBit 0 = false) : ∃ g', (ringCtrl r v x).host.rings = x.host.rings.set r g' ∧
    g'.enable = false ∧ g'.fault = false ∧ g'.due = [] ∧ g'.head = g.head ∧ g'.db = g.db ∧ base (ringCtrl r v x) = base x := by
  have hStops : ringCtrl r v x = ringDisable r (updRing r (fun y => { y with
      holdoff := v / 2 ^ 20 % 4096, logSize := if g.enable then y.logSize else v / 256 % 16 }) x) := by
    unfold ringCtrl
    rw [ringOf_of_get hGet, bit, hBit]
    rfl
  rw [hStops]
  refine ⟨{ g with
    holdoff := v / 2 ^ 20 % 4096, logSize := if g.enable then g.logSize else v / 256 % 16,
    enable := false, fault := false, due := [] }, ?_, rfl, rfl, rfl, rfl, rfl, (base_updRing r _ _).trans (base_updRing r _ x)⟩
  refine (upd_of_get (get_updRing _ hGet)).trans ?_
  change (upd x.host.rings r _).set r _ = _
  rw [upd_of_get hGet, List.set_set]
end

theorem base_ringOpened (r v : Nat) (x : State) :
    base (ringOpened r v x) = base { x with ports := (ringOpened r v x).ports, aud := (ringOpened r v x).aud } := by
  exact (base_updRing r _ _).trans rfl

/-! ### Doorbells -/

theorem doorbell_quiet {r n : Nat} {second : Bool} {x : State} {g : Ring} (hGet : x.host.rings[r]? = some g) :
    let z : Ring := if second then { g with secondDb := n % 65536 } else { g with db := n % 65536, dbBefore := some (x.now / tickPs, dbThen x g) }
    (g.enable = false ∨ tooMany r z = false → doorbell r n second x = { x with host := { x.host with rings := x.host.rings.set r z } }) ∧
    (g.enable = true → tooMany r z = true → ∃ y, doorbell r n second x = ringFault r 3 y ∧ y.host.rings[r]? = some z ∧ base y = base x) := by
  intro z
  have hWrite := get_updRing (fun y => if second then { y with secondDb := n % 65536 } else
    { y with db := n % 65536, dbBefore := some (x.now / tickPs, dbThen x y) }) hGet
  have hEnable : z.enable = g.enable := by
    unfold z
    split <;> rfl
  have hGoes : doorbell r n second x = if g.enable && tooMany r z then
      ringFault r 3 (updRing r (fun y => if second then { y with secondDb := n % 65536 } else
        { y with db := n % 65536, dbBefore := some (x.now / tickPs, dbThen x y) }) x)
      else updRing r (fun y => if second then { y with secondDb := n % 65536 } else
        { y with db := n % 65536, dbBefore := some (x.now / tickPs, dbThen x y) }) x := by
    unfold doorbell
    dsimp only
    rw [ringOf_of_get hWrite]
    change (if z.enable && tooMany r z then _ else _) = _
    rw [hEnable]
  rw [hGoes]
  refine ⟨fun hQuiet => ?_, fun hOn hMany => ⟨_, if_pos (by rw [hOn, hMany]; rfl), hWrite, base_updRing r _ x⟩⟩
  · rw [if_neg]
    · rw [updRing, upd_of_get hGet]
    · rcases hQuiet with hOff | hFew
      · rw [hOff]
        exact Bool.false_ne_true
      · rw [hFew, Bool.and_false]
        exact Bool.false_ne_true
/-- RING_DB beyond what the ring holds (R504, R512). -/
theorem tooMany_of_db {r n : Nat} {g : Ring} (hRing : r < 256) (hDb : g.db = n)
    (hFar : (if r < 224 then idxDist n g.head else idxDist g.head n) > 2 ^ g.logSize) : tooMany r g = true := by
  unfold tooMany isEvt ringSize
  rw [hDb]
  by_cases hEvt : r < 224
  · rw [if_pos hEvt] at hFar
    rw [decide_eq_false (show ¬ (224 ≤ r ∧ r < 256) by omega), decide_eq_true hFar]
    rfl
  · rw [if_neg hEvt] at hFar
    rw [decide_eq_true (show 224 ≤ r ∧ r < 256 by omega), if_pos rfl, decide_eq_true hFar]

/-! ### The rows -/

theorem ringCtrlWrite_writes {i : Iface} {t r : Nat} {v : Word} {s : State} (hAnswers : answers (begin_ t s) i = true) (hRing : r < 256) :
    exec (.ringCtrlWrite i t r v) s = .next (ringCtrl r v.toNat (begin_ t s)) := by
  refine congrArg Outcome.next ((accessAt_answers _ hAnswers).trans ?_)
  rw [if_pos hRing, writeWord_ringCtrl i v _ hRing]
theorem doorbellWrite_writes {i : Iface} {t off : Nat} {v : Word} {s : State} (hAnswers : answers (begin_ t s) i = true)
    (hOff : 0x0100 ≤ off ∧ off < 0x0700 ∧ off % 4 = 0) :
    exec (.doorbellWrite i t off v) s = .next (writeWord i off v (begin_ t s)) := by
  refine congrArg Outcome.next ((accessAt_answers _ hAnswers).trans ?_)
  rw [if_pos hOff]

/-- Settles O49: the commands by their handlers, and the writes by what the ring's registers do. -/
theorem ringsAreControlled : Obligations.RingsAreControlled := by
  unfold Obligations.RingsAreControlled
  refine ⟨?configure, ?status, ?ctrl, ?doorbell⟩
  case configure =>
    intro q s hStarts hFits x p c
    obtain ⟨hWrites, hRefuses⟩ := runCmd_writesUnless (h := hRingConfigure) hStarts (checked_of hFits)
    exact ⟨hWrites, hRefuses⟩
  case status =>
    intro q s hStarts hFits x r g
    exact ⟨ringStatusReply x r, runCmd_done hStarts (checked_of hFits) rfl rfl, ringStatusReply_length x r, ringStatusReply_fields x r⟩
  case ctrl =>
    intro i t r v s g x l hAnswers hRing hGet
    have hRow := ringCtrlWrite_writes (v := v) hAnswers hRing
    refine ⟨fun hBit hOff => ⟨fun hLog hHost => ?_, fun hLog => ?_⟩, fun hBit => ?_⟩
    · have hStarts : ringCtrl r v.toNat x = ringOpened r v.toNat x := by
        rw [ringCtrl_enables hGet hOff hBit,
          enableFault_none (g := ringStarted v.toNat g) ((logOk_iff r l).mpr hLog) hRing rfl rfl hHost]
      rw [hStarts] at hRow
      exact ⟨_, _, hRow, ringOpened_rings hGet, rfl, base_ringOpened r v.toNat x⟩
    · have hBad : logOk r l = false := logOk_false hLog
      have hFaults : ringCtrl r v.toNat x = ringFault r 5 (ringOpened r v.toNat x) := by
        rw [ringCtrl_enables hGet hOff hBit, enableFault_logSize (g := ringStarted v.toNat g) hBad]
      rw [hFaults] at hRow
      obtain ⟨g', hGet', hStopped, hFault, hCause⟩ := faultedBy_ringFault 5 (ringOpened_get (v := v.toNat) hGet)
      exact ⟨_, g', hRow, hGet', hStopped, hFault, hCause, stands_ringFault r 5 _⟩
    · obtain ⟨g', hStopped⟩ := ringCtrl_disables hGet hBit
      exact ⟨_, g', hRow, hStopped⟩
  case doorbell =>
    intro i t r v s g x hAnswers hRing hGet n
    refine ⟨fun hQuiet => ?_, fun hLow hHigh hQuiet => ?_, fun hOn hFar => ?_⟩
    · have hRow := doorbellWrite_writes (v := v) hAnswers (off := 0x0100 + 4 * r) (by omega)
      obtain ⟨hQuietly, -⟩ := doorbell_quiet (n := v.toNat) (second := false) hGet
      rw [writeWord_doorbell i v _ hRing, hQuietly hQuiet] at hRow
      exact ⟨_, hRow, rfl⟩
    · have hRow := doorbellWrite_writes (v := v) hAnswers (off := 0x0500 + 4 * (r - 96)) (by omega)
      obtain ⟨hQuietly, -⟩ := doorbell_quiet (n := v.toNat) (second := true) hGet
      rw [writeWord_secondDoorbell i v _ hLow hHigh, hQuietly hQuiet] at hRow
      exact hRow
    · have hRow := doorbellWrite_writes (v := v) hAnswers (off := 0x0100 + 4 * r) (by omega)
      obtain ⟨-, hFaults⟩ := doorbell_quiet (n := v.toNat) (second := false) hGet
      obtain ⟨y, hFault, hRang, hBase⟩ := hFaults hOn (tooMany_of_db hRing rfl hFar)
      rw [writeWord_doorbell i v _ hRing, hFault] at hRow
      obtain ⟨g', hGet', hStopped, hFaulty, hCause⟩ := faultedBy_ringFault 3 hRang
      exact ⟨_, g', hRow, hGet', hStopped, hFaulty, hCause, stands_ringFault r 3 y, (base_ringFault r 3 y).trans hBase⟩

end Sys2Proof.Machine
end

section
/-! PROOFS. Commands are fetched and give way, and entries are delivered to the host (R496 to R498, R505 to R508, R518). -/
namespace Sys2Proof.Machine
open Sys2Proof Host

/-! ### The rings, and what a ring's event makes of them -/

theorem rings_irqEdge (b : Bool) (s : State) : (irqEdge b s).host.rings = s.host.rings := by
  unfold irqEdge msixSend
  split
  · split
    · split <;> rfl
    · rfl
  · rfl
theorem rings_setSecond (k i : Nat) (s : State) : (setSecond k i s).host.rings = s.host.rings := by
  unfold setSecond
  dsimp only
  rw [rings_irqEdge]
  rfl
theorem second_irqEdge (b : Bool) (s : State) : (irqEdge b s).host.second = s.host.second := by
  unfold irqEdge msixSend
  split
  · split
    · split <;> rfl
    · rfl
  · rfl
/-- The second-level bit that is set stands, where the state holds its word (R518). -/
theorem stands_setSecond {k i : Nat} {s : State} (hBit : i < 32) (hWord : k < s.host.second.length) :
    ((setSecond k i s).host.second.getD k 0).getLsbD i = true := by
  have hSet : (setSecond k i s).host.second = upd s.host.second k (· ||| BitVec.ofNat 32 (2 ^ i)) := by
    unfold setSecond
    dsimp only
    rw [second_irqEdge]
    rfl
  rw [hSet, List.getD_eq_getElem?_getD, upd_get, if_pos rfl, List.getElem?_eq_getElem hWord]
  change (s.host.second[k] ||| BitVec.ofNat 32 (2 ^ i)).getLsbD i = true
  rw [BitVec.getLsbD_or, BitVec.getLsbD_ofNat, Nat.testBit_two_pow_self, decide_eq_true hBit]
  exact Bool.or_true _
theorem secondOf_bit {r : Nat} (hRing : r < 256) : (secondOf r).2 < 32 := by
  unfold secondOf
  split
  · exact Nat.mod_lt r (by decide)
  · split <;> dsimp only <;> omega

/-- An event of a ring may start its holdoff, and leaves the rest of it (R518). -/
theorem ringEvent_get {r : Nat} {s : State} {g : Ring} (hGet : s.host.rings[r]? = some g) :
    ∃ h, (ringEvent r s).host.rings[r]? = some { g with holdUntil := h } := by
  unfold ringEvent
  dsimp only
  split
  · split <;> exact ⟨_, hGet⟩
  · split
    · exact ⟨_, (congrArg (·[r]?) (rings_setSecond _ _ s)).trans hGet⟩
    · split
      · exact ⟨_, hGet⟩
      · exact ⟨_, get_updRing _ hGet⟩

/-- What was put out first in a step stays first. -/
theorem head_emit {s : State} {o p : Output} (h : s.out.head? = some p) : (emit o s).out.head? = some p := by
  unfold emit
  rw [List.head?_append, h]
  rfl
theorem head_irqEdge {s : State} {p : Output} (b : Bool) (h : s.out.head? = some p) : (irqEdge b s).out.head? = some p := by
  unfold irqEdge msixSend
  split
  · split
    · split
      · exact h
      · exact head_emit h
    · exact h
  · exact h
theorem head_ringEvent {s : State} {p : Output} (r : Nat) (h : s.out.head? = some p) : (ringEvent r s).out.head? = some p := by
  unfold ringEvent
  dsimp only
  split
  · split <;> exact h
  · split
    · exact head_irqEdge _ h
    · split <;> exact h

/-! ### CMD_RING_FETCH and QUEUE_TIMEOUT (R496, R497, R505) -/

theorem rings_endGo (i : Iface) (v : BitVec 8) (s : State) : (endGo i v s).host.rings = s.host.rings ∧
    (endGo i v s).host.nextRing = s.host.nextRing := by cases i <;> exact ⟨rfl, rfl⟩
theorem rings_acceptCmd (op : Nat) (q : Req) (s : State) : (acceptCmd op q s).host.rings = s.host.rings ∧
    (acceptCmd op q s).host.nextRing = s.host.nextRing := by
  unfold acceptCmd
  by_cases hSlot : usesSlot q = true <;> simp [hSlot, bump, bumpBy, updSlot]
/-- A packet that is accepted leaves the rings and their turn. -/
theorem rings_submit {q : Req} {s : State} (op : Nat) (hFree : slotFree q s = true) : (submit op q s).host.rings = s.host.rings ∧
    (submit op q s).host.nextRing = s.host.nextRing := by
  obtain ⟨hRings, hNext⟩ := rings_acceptCmd op q s
  unfold submit
  rw [hFree]
  cases ifaceOf q.src with
  | none => exact ⟨hRings, hNext⟩
  | some i =>
    obtain ⟨hGoRings, hGoNext⟩ := rings_endGo i 0 (acceptCmd op q s)
    exact ⟨hGoRings.trans hRings, hGoNext.trans hNext⟩

theorem cmdRingFetch_takes {c t : Nat} {entry : Bytes} {s x : State} {g : Ring} (hx : begin_ t s = x) (hDma : dmaOn x = true)
    (hAccepting : accepting x = true) (hRoom : x.host.queue.length < 256) (hTurn : turnOf x = some c)
    (hGet : x.host.rings[192 + c]? = some g) (hFree : slotFree (packetOf (.ring c) entry x.now).2 x = true) :
    let p := packetOf (.ring c) entry x.now
    let y := cmdRingFetch c t entry s
    y.host.queue = x.host.queue ++ [{ opcode := p.1, req := p.2, arrived := curTs x, arrivedPs := x.now }] ∧
    y.host.rings = x.host.rings.set (192 + c) { g with head := (g.head + 1) % 65536 } ∧ y.host.nextRing = (c + 1) % 32 := by
  intro p y
  let w := updRing (192 + c) (fun g => { g with head := (g.head + 1) % 65536 }) x
  let z : State := { w with host := { w.host with nextRing := (c + 1) % 32 } }
  have hFetch : y = submit p.1 p.2 z := by
    have hGoes : ¬ (!dmaOn x || !accepting x || decide (x.host.queue.length ≥ 256) || turnOf x != some c) = true := by
      rw [hDma, hAccepting, hTurn, decide_eq_false (Nat.not_le.mpr hRoom), bne_self_eq_false]
      exact Bool.false_ne_true
    have hSplit : y = if (!dmaOn x || !accepting x || decide (x.host.queue.length ≥ 256) || turnOf x != some c) = true then x else submit p.1 p.2 z := by
      subst hx
      rfl
    exact hSplit.trans (if_neg hGoes)
  have hFree' : slotFree p.2 z = true := hFree
  obtain ⟨hRings, hNext⟩ := rings_submit p.1 hFree'
  rw [hFetch]
  exact ⟨submit_queue p.1 p.2 z hFree', hRings.trans (upd_of_get hGet), hNext⟩

theorem queueTimeout_gives {k : Nat} {s : State} {e : QEntry} (hGet : s.host.queue[k]? = some e) (hUrgent : isUrgent e.req = false)
    (hOwn : isMirrored e.req = false) (hAccepting : accepting s = true) (hPcie : s.host.pcie.go = false) (hSpi : s.host.spi.go = false) :
    let y := moveTo (e.arrivedPs + (if e.opcode = 0x0F01 ∨ e.opcode = 0x0F10 then 10000000000 else 100000000000)) s
    queueTimeout k s = reply e.opcode e.req 0x02 (Config.freeNat y.free % 65535 + 1) []
      { y with free := y.free + 1, host := { y.host with queue := y.host.queue.erase e } } := by
  intro y
  have hLimit : queueLimit e.opcode = if e.opcode = 0x0F01 ∨ e.opcode = 0x0F10 then 10000000000 else 100000000000 := rfl
  have hGoes : ¬ (isUrgent e.req || !accepting s) = true := by
    rw [hUrgent, hAccepting]
    exact Bool.false_ne_true
  unfold queueTimeout
  rw [hGet]
  dsimp only
  rw [if_neg hGoes, hLimit]
  refine acceptGo_reply 0x02 _ [] hOwn ?_ ?_
  · exact (congrArg (fun h : HostPart => h.pcie.go) (moveTo_host _ s)).trans hPcie
  · exact (congrArg (fun h : HostPart => h.spi.go) (moveTo_host _ s)).trans hSpi

/-! ### RX_RING_DELIVER (R507, R508) -/

theorem undueRings_releaseItem (e : RxItem) (s : State) : undueRings (releaseItem e s) = undueRings s := by
  unfold releaseItem
  split
  · rfl
  · exact undueRings_shedCheck _
theorem releaseItem_get {r : Nat} {e : RxItem} {s : State} {g : Ring} (hGet : s.host.rings[r]? = some g) :
    ∃ g', (releaseItem e s).host.rings[r]? = some g' ∧ undue g' = undue g := ring_of_undue (undueRings_releaseItem e s) hGet

/-- A frame without descriptors enough is dropped, and counted (R508). -/
theorem ringShort_counts {r : Nat} {e : RxItem} {s : State} {g : Ring} (hGet : s.host.rings[r]? = some g) (hFrame : e.code ≠ 0x10) :
    ∃ g', (ringShort r e s).host.rings[r]? = some g' ∧ undue g' = undue { g with ringShort := add48 g.ringShort 1 } ∧
      causeStands 0 5 (ringShort r e s) := by
  obtain ⟨g', hGet', hSame⟩ := releaseItem_get (e := e) hGet
  let z := bump 35 (updRing r (fun g => { g with ringShort := add48 g.ringShort 1 }) (releaseItem e s))
  have hCount : z.host.rings[r]? = some { g' with ringShort := add48 g'.ringShort 1 } := get_updRing _ hGet'
  have hShort : ringShort r e s = setCause 0 5 0 z := (if_neg hFrame).trans (raise_plainCause rfl)
  obtain ⟨g'', hGet'', hSame'⟩ := ring_of_undue (undueRings_setCause 0 5 0 z) hCount
  refine ⟨g'', (congrArg (fun y : State => y.host.rings[r]?) hShort).trans hGet'', ?_, ?_⟩
  · exact hSame'.trans (congrArg (fun g : Ring => { g with ringShort := add48 g.ringShort 1 }) hSame)
  · rw [ringShort, if_neg hFrame]
    exact stands_raise_self 0 5 _ (by decide)

theorem rings_emits {α : Type} (f : α → Output) (l : List α) (s : State) :
    (l.foldl (fun s k => emit (f k) s) s).host.rings = s.host.rings := by
  induction l generalizing s with
  | nil => rfl
  | cons a l ih => rw [List.foldl_cons, ih]; rfl

section
variable {r t : Nat} {s x : State} {g : Ring} {e : RxItem} {rest : List RxItem}

/-- Buffer bytes of a descriptor, and the index by which descriptors are reserved (R480, R508, R520). -/
def rxSize (x : State) (r : Nat) (e : RxItem) : Nat := if e.code = 0x10 then max 1 e.data.length else bufSize (nth x.work.rings r)
def rxIndex (x : State) (g : Ring) (e : RxItem) : Nat := if e.code = 0x10 then g.db else dbThen x g

/-- The head of a delivery queue meets its descriptors, or their lack (R508). -/
theorem rxDeliver_head (hx : begin_ t s = x) (hGet : x.host.rings[r]? = some g) (hQueue : g.queue = e :: rest) (hDma : dmaOn x = true)
    (hEnable : g.enable = true) :
    let y := updRing r (fun g => { g with queue := rest }) x
    let n := descsFor e (rxSize x r e)
    rxDeliver r t s = if idxDist (rxIndex x g e) g.head < n then ringShort r e y else
      ringEvent r (updRing r (fun g => { g with head := (g.head + n) % 65536, items := add48 g.items 1, bytes := add48 g.bytes e.data.length })
        (releaseItem e ((List.range n).reverse.foldl (fun s k =>
          emit (.rxWrite r ((g.head + k) % 65536) (rxDesc e (rxSize x r e) n k) ((e.data.drop (k * rxSize x r e)).take (rxSize x r e))) s) y))) := by
  intro y n
  have hRuns : running x = true := by
    unfold dmaOn at hDma
    simp only [Bool.and_eq_true] at hDma
    obtain ⟨⟨hRunning, -⟩, -⟩ := hDma
    exact hRunning
  have hRang : ringOf y r = { g with queue := rest } := ringOf_of_get (get_updRing _ hGet)
  have hGoes : ¬ (!running x || (ringOf x r).enable && !dmaOn x) = true := by
    rw [hRuns, hDma, Bool.not_true, Bool.and_false]
    exact Bool.false_ne_true
  unfold rxDeliver
  rw [hx]
  dsimp only
  rw [ringOf_of_get hGet, hQueue]
  dsimp only
  rw [← ringOf_of_get hGet, if_neg hGoes]
  change (if !(ringOf y r).enable || decide (idxDist (if e.code = 0x10 then (ringOf y r).db else dbThen y (ringOf y r)) (ringOf y r).head < n) then _ else _) = _
  rw [hRang]
  change (if !g.enable || decide (idxDist (rxIndex x g e) g.head < n) then _ else _) = _
  rw [hEnable, Bool.not_true, Bool.false_or]
  simp only [decide_eq_true_eq, ringOf_of_get hGet]
  rfl

theorem descsFor_rxSize (x : State) (r : Nat) (e : RxItem) :
    descsFor e (rxSize x r e) = if e.code = 0x10 then 1 else ceilDiv e.data.length (256 * 2 ^ (nth x.work.rings r).bufCode) := by
  unfold descsFor rxSize
  split <;> rfl

theorem rxDeliver_delivers (hx : begin_ t s = x) (hGet : x.host.rings[r]? = some g) (hQueue : g.queue = e :: rest) (hDma : dmaOn x = true)
    (hEnable : g.enable = true) (hEnough : descsFor e (rxSize x r e) ≤ idxDist (rxIndex x g e) g.head) :
    ∃ g' h, (rxDeliver r t s).host.rings[r]? = some { g' with holdUntil := h } ∧ undue g' = undue { g with
      queue := rest, head := (g.head + descsFor e (rxSize x r e)) % 65536, items := add48 g.items 1, bytes := add48 g.bytes e.data.length } := by
  have hTaken := get_updRing (fun g => { g with queue := rest }) hGet
  have hRow := rxDeliver_head hx hGet hQueue hDma hEnable
  dsimp only at hRow
  rw [if_neg (Nat.not_lt.mpr hEnough)] at hRow
  rw [hRow]
  obtain ⟨g', hGet', hSame⟩ := releaseItem_get (e := e) ((congrArg (·[r]?) (rings_emits (fun k => .rxWrite r ((g.head + k) % 65536)
    (rxDesc e (rxSize x r e) (descsFor e (rxSize x r e)) k) ((e.data.drop (k * rxSize x r e)).take (rxSize x r e)))
    (List.range (descsFor e (rxSize x r e))).reverse (updRing r (fun g => { g with queue := rest }) x))).trans hTaken)
  obtain ⟨h, hEvent⟩ := ringEvent_get (get_updRing (fun g => { g with
    head := (g.head + descsFor e (rxSize x r e)) % 65536, items := add48 g.items 1, bytes := add48 g.bytes e.data.length }) hGet')
  refine ⟨_, h, hEvent, ?_⟩
  exact congrArg (fun g : Ring => { g with
    head := (g.head + descsFor e (rxSize x r e)) % 65536, items := add48 g.items 1, bytes := add48 g.bytes e.data.length }) hSame
theorem rxDeliver_drops (hx : begin_ t s = x) (hGet : x.host.rings[r]? = some g) (hQueue : g.queue = e :: rest) (hDma : dmaOn x = true)
    (hEnable : g.enable = true) (hFew : idxDist (rxIndex x g e) g.head < descsFor e (rxSize x r e)) (hFrame : e.code ≠ 0x10) :
    ∃ g', (rxDeliver r t s).host.rings[r]? = some g' ∧ undue g' = undue { g with queue := rest, ringShort := add48 g.ringShort 1 } ∧
      causeStands 0 5 (rxDeliver r t s) := by
  have hRow := rxDeliver_head hx hGet hQueue hDma hEnable
  dsimp only at hRow
  rw [if_pos hFew] at hRow
  rw [hRow]
  exact ringShort_counts (get_updRing (fun g => { g with queue := rest }) hGet) hFrame
end

/-! ### EVENT_ENTRY_WRITE and RING_IRQ_HOLDOFF (R506, R518) -/

theorem eventBytes_fields (g : Ring) (e : EventDue) : fld (eventBytes g e) 0 4 = g.seq % 2 ^ 32 ∧ fld (eventBytes g e) 4 1 = e.cls % 256 ∧
    fld (eventBytes g e) 5 1 = e.bitNo % 256 ∧ fld (eventBytes g e) 24 2 = e.index % 65536 := by
  unfold eventBytes
  simp only [List.append_assoc, fld_append_right, fld_le_here, leBytes_length, tsBytes_length, zeros_length, Nat.reduceLeDiff, Nat.reduceSub,
    Nat.reducePow, and_self]

section
variable {r t : Nat} {s x : State} {g : Ring} {e : EventDue} {rest : List EventDue}

/-- The oldest entry that is due meets room on its ring, or a full ring (R506). -/
theorem eventWrite_oldest (hx : begin_ t s = x) (hGet : x.host.rings[r]? = some g) (hDue : g.due = e :: rest) (hDma : dmaOn x = true)
    (hEnable : g.enable = true) :
    let y := updRing r (fun g => { g with due := rest }) x
    eventWrite r t s = if ringSize g ≤ idxDist g.head g.db then
      raise 0 7 (bump 37 (updRing r (fun g => { g with eventsLost := add48 g.eventsLost 1, lostBefore := true }) y))
    else ringEvent r (updRing r (fun g => { g with
        head := (g.head + 1) % 65536, seq := (g.seq + 1) % 2 ^ 32, items := add48 g.items 1, lostBefore := false })
        (emit (.eventEntry r g.head (eventBytes g e)) y)) := by
  intro y
  have hGoes : ¬ (!dmaOn x || !g.enable) = true := by
    rw [hDma, hEnable]
    exact Bool.false_ne_true
  unfold eventWrite
  rw [hx]
  dsimp only
  rw [ringOf_of_get hGet, if_neg hGoes, hDue]

theorem eventWrite_writes (hx : begin_ t s = x) (hGet : x.host.rings[r]? = some g) (hDue : g.due = e :: rest) (hDma : dmaOn x = true)
    (hEnable : g.enable = true) (hRoom : idxDist g.head g.db < ringSize g) :
    (∃ h, (eventWrite r t s).host.rings[r]? = some { g with
      due := rest, head := (g.head + 1) % 65536, seq := (g.seq + 1) % 2 ^ 32, items := add48 g.items 1, lostBefore := false, holdUntil := h }) ∧
    (eventWrite r t s).out.head? = some (.eventEntry r g.head (eventBytes g e)) ∧ base (eventWrite r t s) = base x := by
  have hRow := eventWrite_oldest hx hGet hDue hDma hEnable
  dsimp only at hRow
  rw [if_neg (Nat.not_le.mpr hRoom)] at hRow
  rw [hRow]
  let y := emit (.eventEntry r g.head (eventBytes g e)) (updRing r (fun g => { g with due := rest }) x)
  have hTaken : y.host.rings[r]? = some { g with due := rest } := get_updRing _ hGet
  obtain ⟨h, hEvent⟩ := ringEvent_get (get_updRing (fun g => { g with
    head := (g.head + 1) % 65536, seq := (g.seq + 1) % 2 ^ 32, items := add48 g.items 1, lostBefore := false }) hTaken)
  refine ⟨⟨h, hEvent⟩, head_ringEvent r ?_, ?_⟩
  · have hNothing : x.out = [] := by rw [← hx, begin_out]
    change (x.out ++ [_]).head? = _
    rw [hNothing]
    rfl
  · rw [base_ringEvent, base_updRing]
    exact base_updRing r _ x

theorem eventWrite_loses (hx : begin_ t s = x) (hGet : x.host.rings[r]? = some g) (hDue : g.due = e :: rest) (hDma : dmaOn x = true)
    (hEnable : g.enable = true) (hFull : ringSize g ≤ idxDist g.head g.db) :
    (∃ g', (eventWrite r t s).host.rings[r]? = some g' ∧ undue g' = undue { g with eventsLost := add48 g.eventsLost 1, lostBefore := true }) ∧
    causeStands 0 7 (eventWrite r t s) ∧ base (eventWrite r t s) = base x := by
  have hRow := eventWrite_oldest hx hGet hDue hDma hEnable
  dsimp only at hRow
  rw [if_pos hFull] at hRow
  rw [hRow]
  let z := bump 37 (updRing r (fun g => { g with eventsLost := add48 g.eventsLost 1, lostBefore := true })
    (updRing r (fun g => { g with due := rest }) x))
  have hLost : z.host.rings[r]? = some { g with due := rest, eventsLost := add48 g.eventsLost 1, lostBefore := true } :=
    get_updRing _ (get_updRing (fun g => { g with due := rest }) hGet)
  refine ⟨?_, stands_raise_self 0 7 _ (by decide), ?_⟩
  · rw [raise_plainCause rfl]
    obtain ⟨g', hGet', hSame⟩ := ring_of_undue (undueRings_setCause 0 7 0 z) hLost
    exact ⟨g', hGet', hSame.trans rfl⟩
  · rw [raise_plainCause rfl, base_setCause]
    exact (base_bumpBy 37 1 _).trans ((base_updRing r _ _).trans (base_updRing r _ x))
end

/-- Settles O50: each row by what it makes of its ring, and of the queue. -/
theorem ringsAreServed : Obligations.RingsAreServed := by
  unfold Obligations.RingsAreServed
  refine ⟨?fetch, ?timeout, ?deliver, ?event, ?holdoff⟩
  case fetch =>
    intro c t entry s g hRuns x p hDma hAccepting hRoom hTurn hGet hFree
    have hRow : exec (.cmdRingFetch c t entry) s = .next (cmdRingFetch c t entry s) := next_if_running hRuns _ _
    obtain ⟨hQueue, hRings, hNext⟩ := cmdRingFetch_takes (entry := entry) (s := s) (t := t) rfl hDma hAccepting hRoom hTurn hGet hFree
    exact ⟨_, hRow, hQueue, hRings, hNext, kept_row rfl hRow⟩
  case timeout =>
    intro k s e hRuns hGet hUrgent hOwn hAccepting hPcie hSpi y
    have hRow : exec (.queueTimeout k) s = .next (queueTimeout k { s with out := [] }) := next_whileRunning hRuns _
    rw [hRow]
    exact congrArg Outcome.next (queueTimeout_gives (s := { s with out := [] }) hGet hUrgent hOwn hAccepting hPcie hSpi)
  case deliver =>
    intro r t s g item rest x hGet hQueue hDma hEnable db n
    have hRow : exec (.rxRingDeliver r t) s = .next (rxDeliver r t s) := rfl
    have hDescs : descsFor item (rxSize x r item) = n := descsFor_rxSize x r item
    refine ⟨fun hEnough => ?_, fun hFew hFrame => ?_⟩
    · obtain ⟨g', h, hGet', hSame⟩ := rxDeliver_delivers (t := t) (s := s) rfl hGet hQueue hDma hEnable (hDescs.trans_le hEnough)
      refine ⟨_, _, hRow, kept_row rfl hRow, hGet', congrArg Ring.queue hSame, ?_, congrArg Ring.items hSame, congrArg Ring.bytes hSame⟩
      rw [← hDescs]
      exact congrArg Ring.head hSame
    · obtain ⟨g', hGet', hSame, hStands⟩ := rxDeliver_drops (t := t) (s := s) rfl hGet hQueue hDma hEnable (hFew.trans_eq hDescs.symm) hFrame
      have hHead := congrArg Ring.head hSame
      have hItems := congrArg Ring.items hSame
      exact ⟨_, g', hRow, kept_row rfl hRow, hGet', congrArg Ring.queue hSame, hHead, hItems,
        congrArg Ring.ringShort hSame, hStands⟩
  case event =>
    intro r t s g e rest hRuns x hGet hDue hDma hEnable
    have hRow : exec (.eventEntryWrite r t) s = .next (eventWrite r t s) := next_if_running hRuns _ _
    refine ⟨fun hRoom => ?_, fun hFull => ?_⟩
    · obtain ⟨⟨h, hGet'⟩, hOut, hBase⟩ := eventWrite_writes (t := t) (s := s) rfl hGet hDue hDma hEnable hRoom
      exact ⟨_, _, _, hRow, hBase, hGet', rfl, rfl, rfl, rfl, rfl, hOut, eventBytes_fields g e⟩
    · obtain ⟨⟨g', hGet', hSame⟩, hStands, hBase⟩ := eventWrite_loses (t := t) (s := s) rfl hGet hDue hDma hEnable hFull
      have hHead := congrArg Ring.head hSame
      exact ⟨_, g', hRow, hBase, hGet', hHead, congrArg Ring.eventsLost hSame, congrArg Ring.lostBefore hSame, hStands⟩
  case holdoff =>
    intro r d s g hRuns hGet hHold hRing y
    have hRow : exec (.ringIrqHoldoff r) s = .next (holdoffEnd r { s with out := [] }) := next_whileRunning hRuns _
    have hEnds : holdoffEnd r { s with out := [] } = setSecond (secondOf r).1 (secondOf r).2 (updRing r (fun g => { g with holdUntil := none }) y) := by
      unfold holdoffEnd
      rw [ringOf_of_get (s := { s with out := [] }) hGet, hHold]
    rw [hEnds] at hRow
    refine ⟨_, hRow, ?_, fun k i hPlace hWord => ?_, ?_⟩
    · refine (rings_setSecond _ _ _).trans ?_
      have hSame : y.host.rings = s.host.rings := congrArg HostPart.rings (moveTo_host d _)
      exact (congrArg (fun l => upd l r fun g => { g with holdUntil := none }) hSame).trans (upd_of_get hGet)
    · have hBit := secondOf_bit hRing
      rw [hPlace] at hBit ⊢
      exact stands_setSecond hBit hWord
    · rw [base_setSecond, base_updRing]

end Sys2Proof.Machine
end

section
/-! PROOFS. The PTP commands (R342 to R349). -/
namespace Sys2Proof.Machine
open Sys2Proof Host

/-- Refutes O37: the statement demands BAD_STATE of a PTP_INSTANCE_CONFIGURE of a number not in use whose INSTANCE field alone is in range,
where the check of the other fields, which comes first (R494), answers BAD_PARAM. All parameters of the packet are 0, of which the
priority is out of range. -/
theorem not_ptpCommands : ¬ Obligations.PtpCommands := by
  unfold Obligations.PtpCommands
  rintro ⟨-, hConfigure, -⟩
  let s : State := { boot := { inReset := false, stage := 9, cmdReady := true }, root := { locked := true } }
  let q : Req := { time := 0, src := .pcieReg, tag := 0, length := 14, flags := 0, reserved := 0, params := zeros 56 }
  obtain ⟨-, hAbsent⟩ := hConfigure q s {} (by decide +kernel)
  have hBadState := Outcome.next.inj (hAbsent (by decide +kernel) (by decide +kernel))
  have hAnswered : ((runCmd 0x0A01 hPtpConfigure q s).host.slots.map Slot.status).head? = some 0x11 := by decide +kernel
  have hDemanded : ((reply 0x0A01 q 0x12 0 [] (started 0x0A01 q s)).host.slots.map Slot.status).head? = some 0x12 := by decide +kernel
  rw [hBadState, hDemanded] at hAnswered
  exact absurd hAnswered (by decide)

end Sys2Proof.Machine
end

section
/-! PROOFS. What the choice of a PTP master leaves alone (R316, R325, R326). -/
namespace Sys2Proof.Machine
open Sys2Proof Host

/-! ### The PTP part under a new choice of the selectors -/

theorem offChoice_ptp (s : State) : (offChoice s).ptp = s.ptp := rfl
theorem ptp_evalAll (s : State) : (evalAll s).ptp = s.ptp := by
  rw [← offChoice_ptp, offChoice_evalAll, offChoice_ptp]
theorem ptp_causeTaken (o cause : Nat) (s : State) : (causeTaken o cause s).ptp = s.ptp := by
  have hHeld : (holdClockFails o (updRef o (fun r => { r with cause := cause }) s)).ptp = s.ptp := by
    unfold holdClockFails
    split <;> rfl
  have hNew : (if newlyFails (refOf s o).cause cause then holdClockFails o (updRef o (fun r => { r with cause := cause }) s)
      else updRef o (fun r => { r with cause := cause }) s).ptp = s.ptp := by
    split
    · exact hHeld
    · rfl
  unfold causeTaken staleMember
  split <;> exact hNew
theorem ptp_applyCause (o cause : Nat) (s : State) : (applyCause o cause s).ptp = s.ptp := by
  obtain ⟨f, h | h | h⟩ := applyCause_cases o cause s
  · rw [h, ptp_causeTaken]
  · rw [h, updRef_ptp, ptp_causeTaken]
  · rw [h, refEvent, raiseIdx_ptp, updRef_ptp, updRef_ptp, ptp_causeTaken]
theorem ptp_setCheck (o k : Nat) (fails : Bool) (s : State) : (setCheck o k fails s).ptp = s.ptp := by
  unfold setCheck
  split
  · rfl
  · exact ptp_applyCause _ _ s
theorem follows_setCheck (o k : Nat) (fails : Bool) (s : State) : follows s (setCheck o k fails s) :=
  follows_ite (follows_refl s) (follows_applyCause o _ (follows_refl s))

/-! ### Instances and bindings after a write -/

theorem getKey_putKey {β : Type} (j k : Nat) (v : β) (l : List (Nat × β)) : getKey j (putKey k v l) = if j = k then some v else getKey j l := by
  by_cases hSame : j = k
  · rw [if_pos hSame, hSame, getKey_putKey_self]
  · rw [if_neg hSame]
    induction l with
    | nil => exact if_neg hSame
    | cons a l ih =>
      unfold putKey
      split
      · exact if_neg hSame
      · split
        next hHere => exact (if_neg hSame).trans (if_neg (hHere ▸ hSame)).symm
        next => simp only [getKey, ih]

theorem bindRun_updBind (i p j n : Nat) (f : BindRun → BindRun) (s : State) :
    bindRun (updBind i p f s) j n = if 16 * j + n = 16 * i + p then f (bindRun s i p) else bindRun s j n := by
  unfold bindRun updBind
  rw [updPtp_ptp, getKey_putKey]
  split <;> rfl
theorem bindRun_updBind_self (i p : Nat) (f : BindRun → BindRun) (s : State) : bindRun (updBind i p f s) i p = f (bindRun s i p) := by
  rw [bindRun_updBind, if_pos rfl]

/-! ### Causes, tracking and the counts of timeouts -/

/-- From `s` to `t` causes that stand stay, no PTP service starts to track, and no count of receipt timeouts changes. -/
structure BmcaKeeps (s t : State) : Prop where
  follows : follows s t
  tracking : ∀ i, (instRun s i).tracking = false → (instRun t i).tracking = false
  timeouts : ∀ i p, (bindRun t i p).announceTimeouts = (bindRun s i p).announceTimeouts

theorem bmcaKeeps_refl (s : State) : BmcaKeeps s s := ⟨follows_refl s, fun _ h => h, fun _ _ => rfl⟩
theorem bmcaKeeps_trans {r s t : State} (h : BmcaKeeps r s) (g : BmcaKeeps s t) : BmcaKeeps r t :=
  ⟨follows_trans g.follows h.follows, fun i hOff => g.tracking i (h.tracking i hOff), fun i p => (g.timeouts i p).trans (h.timeouts i p)⟩
/-- A change of anything but the instances and the bindings. -/
theorem bmcaKeeps_parts {s t : State} (hf : follows s t) (hInsts : t.ptp.insts = s.ptp.insts) (hBinds : t.ptp.binds = s.ptp.binds) : BmcaKeeps s t := by
  refine ⟨hf, fun i hOff => ?_, fun i p => ?_⟩
  · rw [instRun, hInsts]
    exact hOff
  · rw [bindRun, hBinds]
    rfl
theorem bmcaKeeps_same {s t : State} (hf : follows s t) (hPtp : t.ptp = s.ptp) : BmcaKeeps s t :=
  bmcaKeeps_parts hf (congrArg PtpPart.insts hPtp) (congrArg PtpPart.binds hPtp)
theorem bmcaKeeps_ite {c : Prop} [Decidable c] {r s t : State} (hs : BmcaKeeps r s) (ht : BmcaKeeps r t) : BmcaKeeps r (if c then s else t) := by
  split
  · exact hs
  · exact ht
theorem bmcaKeeps_foldl {α : Type} (f : State → α → State) (hf : ∀ s a, BmcaKeeps s (f s a)) (l : List α) {r s : State} (h : BmcaKeeps r s) :
    BmcaKeeps r (l.foldl f s) := by
  induction l generalizing s with
  | nil => exact h
  | cons a l ih => exact ih (bmcaKeeps_trans h (hf s a))
theorem bmcaKeeps_raiseIdx (c b i : Nat) {r s : State} (h : BmcaKeeps r s) : BmcaKeeps r (raiseIdx c b i s) :=
  bmcaKeeps_trans h (bmcaKeeps_same (follows_raiseIdx c b i (follows_refl s)) (raiseIdx_ptp c b i s))
theorem bmcaKeeps_updBind (i p : Nat) {f : BindRun → BindRun} (hf : ∀ b, (f b).announceTimeouts = b.announceTimeouts) {r s : State} (h : BmcaKeeps r s) :
    BmcaKeeps r (updBind i p f s) := by
  refine bmcaKeeps_trans h ⟨follows_same (follows_refl s) rfl rfl, fun j hOff => hOff, fun j n => ?_⟩
  rw [bindRun_updBind]
  split
  next hKey => rw [hf, bindRun, bindRun, hKey]
  next => rfl
theorem bmcaKeeps_updInst (i : Nat) {f : PtpRun → PtpRun} (hf : ∀ r, r.tracking = false → (f r).tracking = false) {r s : State} (h : BmcaKeeps r s) :
    BmcaKeeps r (updInst i f s) := by
  refine bmcaKeeps_trans h ⟨follows_same (follows_refl s) rfl rfl, fun j hOff => ?_, fun j n => rfl⟩
  unfold instRun nth at hOff ⊢
  unfold updInst
  rw [updPtp_ptp, List.getD_eq_getElem?_getD, upd_get]
  rw [List.getD_eq_getElem?_getD] at hOff
  split
  · cases hAt : s.ptp.insts[j]? with
    | none => rfl
    | some r =>
      rw [hAt] at hOff
      exact hf r hOff
  · exact hOff

theorem bmcaKeeps_setBindState (i p : Nat) (st : PtpState) {r s : State} (h : BmcaKeeps r s) : BmcaKeeps r (setBindState i p st s) := by
  unfold setBindState
  exact bmcaKeeps_ite h (bmcaKeeps_raiseIdx 10 0 i (bmcaKeeps_updBind i p (fun _ => by rfl) h))
theorem bmcaKeeps_updRef (o : Nat) (f : RefRun → RefRun) {r s : State} (h : BmcaKeeps r s) : BmcaKeeps r (updRef o f s) :=
  bmcaKeeps_trans h (bmcaKeeps_same (follows_same (follows_refl s) rfl rfl) rfl)
theorem bmcaKeeps_setCheck (o k : Nat) (fails : Bool) {r s : State} (h : BmcaKeeps r s) : BmcaKeeps r (setCheck o k fails s) :=
  bmcaKeeps_trans h (bmcaKeeps_same (follows_setCheck o k fails s) (ptp_setCheck o k fails s))
theorem bmcaKeeps_evalAll {r s : State} (h : BmcaKeeps r s) : BmcaKeeps r (evalAll s) :=
  bmcaKeeps_trans h (bmcaKeeps_same (follows_newChoice (follows_refl s)) (ptp_evalAll s))
theorem bmcaKeeps_ptpHealth (i : Nat) (ok : Bool) {r s : State} (h : BmcaKeeps r s) : BmcaKeeps r (ptpHealth i ok s) := by
  unfold ptpHealth
  exact bmcaKeeps_ite (bmcaKeeps_updRef _ _ h) (bmcaKeeps_evalAll (bmcaKeeps_setCheck _ _ _ (bmcaKeeps_updRef _ _ h)))
theorem bmcaKeeps_dropTracking (i p : Nat) {r s : State} (h : BmcaKeeps r s) : BmcaKeeps r (dropTracking i p s) := by
  unfold dropTracking
  exact bmcaKeeps_ptpHealth i false (bmcaKeeps_updBind i p (fun _ => by rfl) (bmcaKeeps_updInst i (fun _ _ => by rfl) h))
theorem bmcaKeeps_loseMaster (i p : Nat) {r s : State} (h : BmcaKeeps r s) : BmcaKeeps r (loseMaster i p s) := by
  unfold loseMaster
  exact bmcaKeeps_raiseIdx 10 2 i (bmcaKeeps_dropTracking i p (bmcaKeeps_updInst i (fun _ hOff => by exact hOff) h))

theorem tracking_updInst_off {i : Nat} {f : PtpRun → PtpRun} (hf : ∀ r, (f r).tracking = false) (s : State) :
    (instRun (updInst i f s) i).tracking = false := by
  unfold instRun nth updInst
  rw [updPtp_ptp, List.getD_eq_getElem?_getD, upd_get, if_pos rfl]
  cases s.ptp.insts[i]? with
  | none => rfl
  | some r => exact hf r
/-- What loses its master does not track, and the loss is raised (R326). -/
theorem loseMaster_loses (i p : Nat) (s : State) : (instRun (loseMaster i p s) i).tracking = false ∧ causeStands 10 2 (loseMaster i p s) := by
  have hOff := tracking_updInst_off (i := i) (f := fun r => { r with tracking := false }) (fun _ => rfl) (updInst i (fun r => { r with parent := none }) s)
  unfold loseMaster dropTracking
  exact ⟨(bmcaKeeps_raiseIdx 10 2 i (bmcaKeeps_ptpHealth i false (bmcaKeeps_updBind i p (fun _ => by rfl) (bmcaKeeps_refl _)))).tracking i hOff,
    stands_raiseIdx_self 10 2 i _ (by decide)⟩

theorem bmcaKeeps_presentSignal (i p mac ip : Nat) (tags tlvs : Bytes) {r s : State} (h : BmcaKeeps r s) : BmcaKeeps r (presentSignal i p mac ip tags tlvs s) :=
  bmcaKeeps_trans h (bmcaKeeps_same (follows_same (follows_refl s) rfl rfl) rfl)
theorem bmcaKeeps_useFree {r s : State} (h : BmcaKeeps r s) : BmcaKeeps r (useFree s) :=
  bmcaKeeps_trans h (bmcaKeeps_same (follows_same (follows_refl s) rfl rfl) rfl)
/-- A change of the PTP part that leaves its instances and bindings. -/
theorem bmcaKeeps_updPtp {f : PtpPart → PtpPart} (hf : ∀ n, (f n).insts = n.insts ∧ (f n).binds = n.binds) {r s : State} (h : BmcaKeeps r s) :
    BmcaKeeps r (updPtp f s) := by
  obtain ⟨hInsts, hBinds⟩ := hf s.ptp
  exact bmcaKeeps_trans h (bmcaKeeps_parts (follows_same (follows_refl s) rfl rfl) hInsts hBinds)
theorem bmcaKeeps_askUpstream (i p k m : Nat) {r s : State} (h : BmcaKeeps r s) : BmcaKeeps r (askUpstream i p k m s) := by
  unfold askUpstream
  split
  · exact h
  · exact bmcaKeeps_presentSignal i p _ _ _ _ (bmcaKeeps_updPtp (fun _ => by exact ⟨rfl, rfl⟩) (bmcaKeeps_useFree h))
theorem bmcaKeeps_cancelFormer (i p : Nat) (b : BindCfg) (s : State) (g : UpGrant) : BmcaKeeps s (if g.granted then
    presentSignal i p (upstreamMac s).1 (nth b.upstreams g.upstream).addr [] (cancelTlv g.mtype) (upstreamMac s).2 else s) :=
  bmcaKeeps_ite (bmcaKeeps_presentSignal i p _ _ _ _ (bmcaKeeps_useFree (bmcaKeeps_refl s))) (bmcaKeeps_refl s)
theorem bmcaKeeps_clientParent (i p : Nat) (addr : Option Nat) {r s : State} (h : BmcaKeeps r s) : BmcaKeeps r (clientParent i p addr s) := by
  unfold clientParent
  split
  · exact h
  next b _ =>
    dsimp only
    split
    · exact h
    · split
      · exact bmcaKeeps_updPtp (fun _ => by exact ⟨rfl, rfl⟩) (bmcaKeeps_foldl _ (bmcaKeeps_cancelFormer i p b) _ h)
      · split
        · exact bmcaKeeps_updPtp (fun _ => by exact ⟨rfl, rfl⟩) (bmcaKeeps_foldl _ (bmcaKeeps_cancelFormer i p b) _ h)
        · exact bmcaKeeps_askUpstream i p _ _ (bmcaKeeps_askUpstream i p _ _ (bmcaKeeps_updPtp (fun _ => by exact ⟨rfl, rfl⟩)
            (bmcaKeeps_updPtp (fun _ => by exact ⟨rfl, rfl⟩) (bmcaKeeps_foldl _ (bmcaKeeps_cancelFormer i p b) _ h))))

theorem bmcaKeeps_newParent (i : Nat) (a : Option (Nat × Announce)) {r s : State} (h : BmcaKeeps r s) :
    BmcaKeeps r (updInst i (fun r => { r with parent := a }) s) := bmcaKeeps_updInst i (fun _ hOff => by exact hOff) h
theorem bmcaKeeps_takeParent (i : Nat) (new : Option (Nat × Announce)) {r s : State} (h : BmcaKeeps r s) : BmcaKeeps r (takeParent i new s) := by
  unfold takeParent
  split
  · exact h
  · exact bmcaKeeps_clientParent i _ _ (bmcaKeeps_setBindState i _ _ (bmcaKeeps_raiseIdx 10 1 i (bmcaKeeps_newParent i _ h)))
  · have hLeft := fun p => bmcaKeeps_clientParent i p none (bmcaKeeps_dropTracking i p (bmcaKeeps_newParent i none h))
    exact bmcaKeeps_ite (bmcaKeeps_raiseIdx 10 2 i (hLeft _)) (hLeft _)
  · refine bmcaKeeps_ite (bmcaKeeps_newParent i _ h) (bmcaKeeps_clientParent i _ _ (bmcaKeeps_setBindState i _ _ ?_))
    have hMoved := fun p a => bmcaKeeps_raiseIdx 10 1 i (bmcaKeeps_dropTracking i p (bmcaKeeps_newParent i a h))
    exact bmcaKeeps_ite (bmcaKeeps_clientParent i _ none (bmcaKeeps_dropTracking i _ (hMoved _ _))) (hMoved _ _)

theorem bmcaKeeps_runBmca (i : Nat) (expired : Option Nat) {r s : State} (h : BmcaKeeps r s) : BmcaKeeps r (runBmca i expired s) := by
  unfold runBmca
  split
  · exact h
  · dsimp only
    split
    · exact h
    · have hDecided : ∀ (pick : BindCfg → PtpState) (slave : Option BindCfg), BmcaKeeps r ((bindsOf s i).foldl (fun s b =>
          match pick b with
          | .slave => if slave = some b then s else setBindState i b.port .passive s
          | st => setBindState i b.port st s) s) := by
        refine fun pick slave => bmcaKeeps_foldl _ (fun x b => ?_) _ h
        split
        · exact bmcaKeeps_ite (bmcaKeeps_refl x) (bmcaKeeps_setBindState i _ _ (bmcaKeeps_refl x))
        · exact bmcaKeeps_setBindState i _ _ (bmcaKeeps_refl x)
      split
      · have hTaken := fun new pick slave => bmcaKeeps_takeParent i new (hDecided pick slave)
        exact bmcaKeeps_ite (hTaken _ _ _) (bmcaKeeps_setBindState i _ _ (hTaken _ _ _))
      · exact bmcaKeeps_takeParent i _ (hDecided _ _)

end Sys2Proof.Machine
end

section
/-! PROOFS. The timers of PTP (R316, R322 to R326, R331, R333). -/
namespace Sys2Proof.Machine
open Sys2Proof Host

/-! ### Receipt timeouts (R316, R325, R326) -/

/-- A binding in a state that waits for Announces. -/
def awaitsAnnounce (st : PtpState) : Bool := st == .listening || st == .passive || st == .uncalibrated || st == .slave

theorem awaitsAnnounce_of {st : PtpState} (h : st = .listening ∨ st = .passive ∨ st = .uncalibrated ∨ st = .slave) : awaitsAnnounce st = true := by
  rcases h with h | h | h | h <;> rw [h] <;> decide

/-- A binding whose receipt timeout starts again. -/
def awaitAgain (i p : Nat) (c : PtpCfg) (s : State) : State :=
  updBind i p (fun b => { b with announceAt := (moveTo (announceDeadline s i p c) s).now }) (moveTo (announceDeadline s i p c) s)
/-- The binding forgets the foreign master that has gone silent, and counts. -/
def forgetMaster (i p : Nat) (a : Announce) (s : State) : State :=
  updBind i p (fun b => { b with
    foreign := b.foreign.filter (fun f => f.ann.source != a.source), announceTimeouts := (b.announceTimeouts + 1) % 2 ^ 32 }) s
theorem insts_awaitAgain (i p : Nat) (c : PtpCfg) (s : State) : (awaitAgain i p c s).ptp.insts = s.ptp.insts := by
  rw [awaitAgain, updBind, updPtp_ptp, moveTo_ptp]

theorem announceTimeout_parent {i p : Nat} {s : State} {c : PtpCfg} {b : BindCfg} {a : Announce} (hInst : instCfg s i = some c)
    (hBind : bindCfg s i p = some b) (hAwaits : awaitsAnnounce (bindRun s i p).state = true) (hParent : (instRun s i).parent = some (p, a)) :
    announceTimeout i p s = runBmca i (some p) (clientParent i p none (loseMaster i p (forgetMaster i p a (awaitAgain i p c s)))) := by
  have hStill : (instRun (awaitAgain i p c s) i).parent = some (p, a) := by
    rw [instRun, insts_awaitAgain]
    exact hParent
  unfold awaitsAnnounce at hAwaits
  unfold awaitAgain at hStill
  unfold announceTimeout
  rw [hInst, hBind]
  dsimp only
  rw [hAwaits, if_neg (by decide), hStill]
  exact if_pos rfl
theorem announceTimeout_orphan {i p : Nat} {s : State} {c : PtpCfg} {b : BindCfg} (hInst : instCfg s i = some c)
    (hBind : bindCfg s i p = some b) (hAwaits : awaitsAnnounce (bindRun s i p).state = true) (hParent : (instRun s i).parent = none) :
    announceTimeout i p s = runBmca i (some p) (awaitAgain i p c s) := by
  have hStill : (instRun (awaitAgain i p c s) i).parent = none := by
    rw [instRun, insts_awaitAgain]
    exact hParent
  unfold awaitsAnnounce at hAwaits
  unfold awaitAgain at hStill
  unfold announceTimeout
  rw [hInst, hBind]
  dsimp only
  rw [hAwaits, if_neg (by decide), hStill]
  rfl

theorem timeouts_awaitAgain (i p : Nat) (c : PtpCfg) (s : State) :
    (bindRun (awaitAgain i p c s) i p).announceTimeouts = (bindRun s i p).announceTimeouts := by
  rw [awaitAgain, bindRun_updBind_self, bindRun, moveTo_ptp]
  rfl

theorem announceTimeout_loses {i p : Nat} {s : State} {c : PtpCfg} {b : BindCfg} {a : Announce} (hInst : instCfg s i = some c)
    (hBind : bindCfg s i p = some b) (hAwaits : awaitsAnnounce (bindRun s i p).state = true) (hParent : (instRun s i).parent = some (p, a)) :
    causeStands 10 2 (announceTimeout i p s) ∧
    (bindRun (announceTimeout i p s) i p).announceTimeouts = ((bindRun s i p).announceTimeouts + 1) % 2 ^ 32 ∧
    (instRun (announceTimeout i p s) i).tracking = false := by
  rw [announceTimeout_parent hInst hBind hAwaits hParent]
  obtain ⟨hOff, hStands⟩ := loseMaster_loses i p (forgetMaster i p a (awaitAgain i p c s))
  have hLater := bmcaKeeps_runBmca i (some p) (bmcaKeeps_clientParent i p none (bmcaKeeps_refl (loseMaster i p (forgetMaster i p a (awaitAgain i p c s)))))
  have hLost := bmcaKeeps_loseMaster i p (bmcaKeeps_refl (forgetMaster i p a (awaitAgain i p c s)))
  refine ⟨hLater.follows.2 10 2 hStands, ?_, hLater.tracking i hOff⟩
  rw [hLater.timeouts, hLost.timeouts, forgetMaster, bindRun_updBind_self, timeouts_awaitAgain]
theorem announceTimeout_keepsCount {i p : Nat} {s : State} {c : PtpCfg} {b : BindCfg} (hInst : instCfg s i = some c)
    (hBind : bindCfg s i p = some b) (hAwaits : awaitsAnnounce (bindRun s i p).state = true) (hParent : (instRun s i).parent = none) :
    (bindRun (announceTimeout i p s) i p).announceTimeouts = (bindRun s i p).announceTimeouts := by
  rw [announceTimeout_orphan hInst hBind hAwaits hParent, (bmcaKeeps_runBmca i (some p) (bmcaKeeps_refl _)).timeouts, timeouts_awaitAgain]

theorem syncTimeout_loses {i p : Nat} {s : State} {a : Announce} (hParent : (instRun s i).parent = some (p, a)) (hTracks : (instRun s i).tracking = true) :
    causeStands 10 2 (syncTimeout i s) ∧ (instRun (syncTimeout i s) i).tracking = false := by
  have hGoes : syncTimeout i s =
      runBmca i (some p) (loseMaster i p (moveTo ((instRun s i).sampleAt + 3 * logPs (bindRun s i p).syncLog) s)) := by
    unfold syncTimeout
    rw [hParent]
    dsimp only
    rw [hTracks]
    rfl
  obtain ⟨hOff, hStands⟩ := loseMaster_loses i p (moveTo ((instRun s i).sampleAt + 3 * logPs (bindRun s i p).syncLog) s)
  have hLater := bmcaKeeps_runBmca i (some p) (bmcaKeeps_refl (loseMaster i p (moveTo ((instRun s i).sampleAt + 3 * logPs (bindRun s i p).syncLog) s)))
  rw [hGoes]
  exact ⟨hLater.follows.2 10 2 hStands, hLater.tracking i hOff⟩

/-! ### FOLLOWUP_TIMEOUT, PATH_DELAY_TIMEOUT and GRANT_EXPIRY (R323, R324, R331) -/

theorem updBind_moveTo (i p ps : Nat) (f : BindRun → BindRun) (s : State) :
    updBind i p f (moveTo ps s) = { moveTo ps s with ptp := { (moveTo ps s).ptp with
      binds := putKey (16 * i + p) (f (bindRun s i p)) (moveTo ps s).ptp.binds } } := by
  unfold updBind updPtp bindRun
  rw [moveTo_ptp]
theorem followupTimeout_forgets {i p : Nat} {s : State} {w : SyncWait} (hSync : (bindRun s i p).sync = some w) :
    plain (followupTimeout i p s) = plain { moveTo w.deadline s with ptp := { (moveTo w.deadline s).ptp with
      binds := putKey (16 * i + p) { bindRun s i p with
        sync := (bindRun s i p).later.head?, later := (bindRun s i p).later.tail
        followupTimeouts := ((bindRun s i p).followupTimeouts + 1) % 2 ^ 32 } (moveTo w.deadline s).ptp.binds } } := by
  unfold followupTimeout
  rw [hSync]
  dsimp only
  rw [updBind_moveTo]
  exact plain_base (base_bumpBy _ 1 _)
theorem pathDelayTimeout_empties {i p : Nat} {s : State} (hDelays : (bindRun s i p).delays ≠ []) :
    let y := moveTo ((bindRun s i p).delayAt + 16 * logPs (delayLogOf s i p)) s
    pathDelayTimeout i p s = { y with ptp := { y.ptp with binds := putKey (16 * i + p) { bindRun s i p with delays := [], asCapable := false } y.ptp.binds } } := by
  intro y
  have hSome : ¬ (bindRun s i p).delays.isEmpty = true := fun hEmpty => hDelays (List.isEmpty_iff.mp hEmpty)
  unfold pathDelayTimeout
  dsimp only
  rw [if_neg hSome, updBind_moveTo]

theorem plain_forwardGrant (k : Nat) (s : State) : plain (forwardGrant k s) = plain s := by
  unfold forwardGrant
  dsimp only
  split <;> simp only [plain_forward]
/-- A grant that ends takes along the neighbours that no grant names (R328, R331). -/
theorem plain_dropGrant (k : Nat) (s : State) : ∃ l, plain (dropGrant k s) = plain { s with ptp := { s.ptp with grants := delKey k s.ptp.grants, neighbours := l } } :=
  ⟨_, plain_forwardGrant k _⟩
theorem grantExpiry_ends {k : Nat} {s y : State} {g : Grant} (hGet : getKey k s.ptp.grants = some g) (hy : moveTo (g.expiry * 1000000000) s = y) :
    (grantExpiry k s).ptp.grants = delKey k s.ptp.grants ∧
    plain (grantExpiry k s) = plain { y with ptp := { y.ptp with grants := (grantExpiry k s).ptp.grants, neighbours := (grantExpiry k s).ptp.neighbours } } := by
  have hEnds : grantExpiry k s = bump (64 * 10 + 36) (dropGrant k y) := by
    unfold grantExpiry
    rw [hGet]
    dsimp only
    rw [show msPs = 1000000000 from rfl, hy]
  obtain ⟨l, hDropped⟩ := plain_dropGrant k y
  have hPlain : plain (grantExpiry k s) = plain { y with ptp := { y.ptp with grants := delKey k y.ptp.grants, neighbours := l } } := by
    rw [hEnds]
    exact (plain_base (base_bumpBy _ 1 _)).trans hDropped
  have hGrants : (grantExpiry k s).ptp.grants = delKey k y.ptp.grants := congrArg PtpPart.grants (ptp_of_plain hPlain)
  have hNeighbours : (grantExpiry k s).ptp.neighbours = l := congrArg PtpPart.neighbours (ptp_of_plain hPlain)
  refine ⟨?_, ?_⟩
  · rw [hGrants, ← hy, moveTo_ptp]
  · rw [hGrants, hNeighbours]
    exact hPlain

/-! ### ST2059_METADATA (R322) -/

theorem ports_sealMsg (c : PtpCfg) (p : Nat) (m : PtpMsg) (s : State) : (sealMsg c p m s).2.ports = s.ports := by
  unfold sealMsg
  split
  · rfl
  · split
    · rfl
    · dsimp only
      split <;> rfl
theorem ports_buildMetadata (p : Nat) (c : PtpCfg) (b : BindCfg) (seq : Nat) (s : State) : (buildMetadata p c b seq s).2.ports = s.ports :=
  ports_sealMsg c p _ s
/-- An engine's message joins the frames of its port that go as the line is free (R321). -/
theorem queueEngine_joins {p i : Nat} {u : Suit} {bytes : Bytes} {s : State} (hUp : (portOf s p).state = .up) :
    ∃ f, (portOf (queueEngine p bytes i u s) p).untimed = (portOf s p).untimed ++ [f] ∧ f.tag = .engine i := by
  have hTaken : (takeCells u (cellsOf (bytes.length + 4)) s).ports = s.ports := (portsStay_takeCells u _ (portsStay_refl s)).2
  have hPort : p < (takeCells u (cellsOf (bytes.length + 4)) s).ports.length := by
    rw [hTaken]
    exact port_lt_of_up hUp
  refine ⟨{ bytes, prio := (portCfg s p).defaultPrio, tag := .engine i, suit := some u, cells := cellsOf (bytes.length + 4) }, ?_, rfl⟩
  unfold queueEngine enqueue
  dsimp only
  rw [portOf_updPort _ hPort, portOf, hTaken]
  rfl

/-- What ST2059_METADATA does for a binding. -/
def metadataOn (i : Nat) (c : PtpCfg) (s : State) (b : BindCfg) : State :=
  if (bindRun s i b.port).state == .master && (portOf s b.port).state == .up && !svcClosed s then
    queueEngine b.port (buildMetadata b.port c b (s.time.counter.sec % 65536) s).1 i .hearts (buildMetadata b.port c b (s.time.counter.sec % 65536) s).2
  else s
theorem st2059Metadata_runs {i n : Nat} {c : PtpCfg} {s : State} (hInst : instCfg s i = some c) (hProfile : c.profile = 5) (hRuns : running s = true)
    (hNow : s.time.counter.total = n) :
    st2059Metadata i s = (bindsOf s i).foldl (metadataOn i c)
      (moveToCounter (((n / 2 ^ 48 + 500000000) / 1000000000 * 1000000000 + 500000000) * 2 ^ 48) s) := by
  have hWork : ∀ t, bindsOf (moveToCounter t s) i = bindsOf s i := fun t => by
    unfold bindsOf moveToCounter
    rw [moveTo_work]
  have hGoes : ¬ (c.profile ≠ 5 ∨ !running s) := by
    rw [hProfile, hRuns]
    decide
  unfold st2059Metadata
  rw [hInst]
  dsimp only
  rw [if_neg hGoes, hWork, hNow]
  rfl
theorem metadataOn_queues {i : Nat} {c : PtpCfg} {s : State} {b : BindCfg} (hMaster : (bindRun s i b.port).state = .master)
    (hUp : (portOf s b.port).state = .up) (hOpen : svcClosed s = false) :
    ∃ f, (portOf (metadataOn i c s b) b.port).untimed = (portOf s b.port).untimed ++ [f] ∧ f.tag = .engine i := by
  have hPorts := ports_buildMetadata b.port c b (s.time.counter.sec % 65536) s
  have hSame : portOf (buildMetadata b.port c b (s.time.counter.sec % 65536) s).2 b.port = portOf s b.port := by rw [portOf, hPorts, portOf]
  obtain ⟨f, hJoins, hTag⟩ := queueEngine_joins (i := i) (u := .hearts) (bytes := (buildMetadata b.port c b (s.time.counter.sec % 65536) s).1)
    (s := (buildMetadata b.port c b (s.time.counter.sec % 65536) s).2) ((congrArg PortRun.state hSame).trans hUp)
  refine ⟨f, ?_, hTag⟩
  rw [metadataOn, hMaster, hUp, hOpen, if_pos (by decide), hJoins, hSame]

/-! ### UPSTREAM_RENEW and UPSTREAM_RETRY (R333) -/

theorem upstreamDue_asks {i p k m d : Nat} {s : State} {g : UpGrant} {b : BindCfg} (hGrant : upGrantOf s i p k m = some g) (hDue : g.renewAt = some d)
    (hBind : bindCfg s i p = some b) :
    let log := if m = 11 then b.upLogAnnounce else if m = 0 then b.upLogSync else b.upLogDelay
    ∃ q mac, (upstreamDue g.granted i p k m s).svc.waiting = s.svc.waiting ++ [q] ∧
      q.work = .signal i p mac (nth b.upstreams k).addr [] ∧ q.frame = requestTlv m log b.upDuration := by
  intro log
  have hBind' : bindCfg (moveTo d s) i p = some b := by
    unfold bindCfg
    rw [moveTo_work]
    exact hBind
  have hSvc : (moveTo d s).svc = s.svc := moveTo_svc d s
  unfold upstreamDue
  rw [hGrant]
  dsimp only
  rw [hDue]
  dsimp only
  rw [if_pos rfl]
  unfold askUpstream
  rw [hBind']
  exact ⟨_, _, congrArg (fun v : SvcRun => v.waiting ++ [_]) hSvc, rfl, rfl⟩

/-- Settles O38, timer by timer. -/
theorem ptpTimers : Obligations.PtpTimers := by
  unfold Obligations.PtpTimers
  refine ⟨?announce, ?followup, ?sync, ?delay, ?expiry, ?metadata, ?upstream⟩
  case announce =>
    intro i p s c b a hRuns hInst hBind hState
    have hRow : exec (.announceTimeout i p) s = .next (announceTimeout i p { s with out := [] }) := next_whileRunning hRuns _
    refine ⟨_, hRow, kept_of_event rfl hRow, fun hParent => ?_, fun hParent => ?_⟩
    · exact announceTimeout_loses (s := { s with out := [] }) hInst hBind (awaitsAnnounce_of hState) hParent
    · exact announceTimeout_keepsCount (s := { s with out := [] }) hInst hBind (awaitsAnnounce_of hState) hParent
  case followup =>
    intro i p s w hRuns hSync y r
    have hRow : exec (.followupTimeout i p) s = .next (followupTimeout i p { s with out := [] }) := next_whileRunning hRuns _
    exact ⟨_, hRow, followupTimeout_forgets (s := { s with out := [] }) hSync⟩
  case sync =>
    intro i p s a hRuns hParent hTracks
    have hRow : exec (.syncTimeout i) s = .next (syncTimeout i { s with out := [] }) := next_whileRunning hRuns _
    exact ⟨_, hRow, kept_of_event rfl hRow, syncTimeout_loses (s := { s with out := [] }) hParent hTracks⟩
  case delay =>
    intro i p s hRuns hDelays y
    have hRow : exec (.pathDelayTimeout i p) s = .next (pathDelayTimeout i p { s with out := [] }) := next_whileRunning hRuns _
    exact hRow.trans (congrArg Outcome.next (pathDelayTimeout_empties (s := { s with out := [] }) hDelays))
  case expiry =>
    intro k s g hRuns hGet y
    have hRow : exec (.grantExpiry k) s = .next (grantExpiry k { s with out := [] }) := next_whileRunning hRuns _
    obtain ⟨hGrants, hPlain⟩ := grantExpiry_ends (s := { s with out := [] }) (y := y) hGet rfl
    refine ⟨_, hRow, ?_, fun j hOther => ?_, hPlain⟩
    · rw [hGrants, getKey_delKey, if_pos rfl]
    · rw [hGrants, getKey_delKey, if_neg hOther]
  case metadata =>
    intro i s c hInst hProfile hRuns target y
    have hRow : exec (.st2059Metadata i) s = .next (st2059Metadata i { s with out := [] }) := rfl
    have hBinds : st2059Metadata i { s with out := [] } = (bindsOf s i).foldl (metadataOn i c) y :=
      st2059Metadata_runs (s := { s with out := [] }) hInst hProfile hRuns rfl
    refine ⟨fun hNone => ?_, fun b hOne hMaster hUp hOpen => ?_⟩
    · rw [hRow, hBinds, hNone]
      rfl
    · have hMaster' : (bindRun y i b.port).state = .master := by
        rw [bindRun, show y.ptp = s.ptp from moveTo_ptp _ _]
        exact hMaster
      have hPort : portOf y b.port = portOf s b.port := congrArg (fun l => nth l b.port) (moveTo_ports _ _ : y.ports = s.ports)
      have hOpen' : svcClosed y = false := by
        rw [svcClosed, isDummy, show y.work = s.work from moveTo_work _ _, show y.pair = s.pair from moveTo_pair _ _]
        exact hOpen
      obtain ⟨f, hJoins, hTag⟩ := metadataOn_queues (c := c) hMaster' ((congrArg PortRun.state hPort).trans hUp) hOpen'
      have hDone : st2059Metadata i { s with out := [] } = metadataOn i c y b := by
        rw [hBinds, hOne]
        rfl
      refine ⟨_, f, hRow, kept_of_event rfl hRow, ?_, hTag⟩
      rw [hDone, hJoins, hPort]
  case upstream =>
    intro i p k m d s g b hRuns hGrant hDue hBind log
    refine ⟨fun hGranted => ?_, fun hRefused => ?_⟩
    · have hRow : exec (.upstreamRenew i p k m) s = .next (upstreamDue true i p k m { s with out := [] }) := next_whileRunning hRuns _
      obtain ⟨q, mac, hWaits, hWork, hFrame⟩ := upstreamDue_asks (s := { s with out := [] }) hGrant hDue hBind
      rw [hGranted] at hWaits
      exact ⟨_, q, mac, hRow, kept_of_event rfl hRow, hWaits, hWork, hFrame⟩
    · have hRow : exec (.upstreamRetry i p k m) s = .next (upstreamDue false i p k m { s with out := [] }) := next_whileRunning hRuns _
      obtain ⟨q, mac, hWaits, hWork, hFrame⟩ := upstreamDue_asks (s := { s with out := [] }) hGrant hDue hBind
      rw [hRefused] at hWaits
      exact ⟨_, q, mac, hRow, kept_of_event rfl hRow, hWaits, hWork, hFrame⟩

end Sys2Proof.Machine
end

section
/-! PROOFS. The commands of NTP, NTS and receipts (R350, R354, R359, R361, R375 to R382). -/
namespace Sys2Proof.Machine
open Sys2Proof Host

/-! ### Network-order fields -/

theorem fldBE_be_here (n v : Nat) (r : Bytes) : fldBE (beBytes n v ++ r) 0 n = v % 256 ^ n := by
  unfold fldBE
  rw [slice_here (beBytes_length n v), fromBE, beBytes, List.reverse_reverse, fromLE_leBytes]

/-! ### NTP_CONFIGURE, NTP_RATE_POLICY and NTP_STATUS (R375 to R377) -/

theorem exemptBytes_length (e : Exempt) : (leBytes 1 (if e.v6 then 6 else 4) ++ leBytes 1 e.len ++ zeros 2 ++
    (if e.v6 then beBytes 16 e.addr else beBytes 4 e.addr ++ zeros 12)).length = 20 := by
  cases e.v6 <;> simp [beBytes_length]
theorem rateReply_length (r : RateCfg) : (rateReply r).length = 16 + 20 * r.exempt.length := by
  unfold rateReply
  rw [List.length_append, length_flatMap_rows exemptBytes_length]
  simp
theorem rateReply_fields (r : RateCfg) : fld (rateReply r) 1 1 = r.action % 256 ∧ fld (rateReply r) 2 1 = r.kodPoll % 256 ∧
    fld (rateReply r) 4 4 = r.rate % 2 ^ 32 ∧ fld (rateReply r) 8 2 = r.burst % 65536 ∧ fld (rateReply r) 10 1 = r.exempt.length % 256 ∧
    fld (rateReply r) 12 4 = r.kodInterval % 2 ^ 32 := by
  unfold rateReply
  simp only [List.append_assoc, fld_append_right, fld_le_here, leBytes_length, List.length_singleton, Nat.reduceLeDiff, Nat.reduceSub,
    Nat.reducePow, and_self]
theorem ratePolicy_answers {q : Req} {x : State} (hFits : fitsN q 16 (rateFields q.params) (if fld q.params 0 1 = 1 then min 16 (fld q.params 10 1) else 0)
    20 (exemptFields q.params)) :
    hNtpRatePolicy q x = .done (rateReply x.work.rate) (if fld q.params 0 1 = 1 then { x with shadow := { x.shadow with
      rate := { action := fld q.params 1 1, kodPoll := fld q.params 2 1, ipv6Prefix := fld q.params 3 1, rate := fld q.params 4 4, burst := fld q.params 8 2,
                kodInterval := fld q.params 12 4, exempt := (List.range (if fld q.params 0 1 = 1 then min 16 (fld q.params 10 1) else 0)).map (exemptAt q.params) } } }
      else x) := by
  have hSet : (fld q.params 0 1 == 1) = decide (fld q.params 0 1 = 1) := rfl
  unfold hNtpRatePolicy
  simp only [hSet, decide_eq_true_eq]
  rw [checkedN_of hFits]
  split <;> rfl

theorem ntpStatusReply_length (i : Nat) (x : State) : (ntpStatusReply i x).length = 96 := by simp [ntpStatusReply, beBytes_length]
theorem ntpStatusReply_fields (i : Nat) (x : State) : fld (ntpStatusReply i x) 0 1 = i % 256 ∧ (fld (ntpStatusReply i x) 1 1).testBit 0 = (ntpCfg x i).enable ∧
    (fld (ntpStatusReply i x) 1 1).testBit 3 = (ntpRun x i).rotateAt.isSome ∧ fld (ntpStatusReply i x) 12 4 = (ntpRun x i).previous.epoch % 2 ^ 32 ∧
    fld (ntpStatusReply i x) 16 4 = (ntpRun x i).current.epoch % 2 ^ 32 ∧ fld (ntpStatusReply i x) 20 4 = (ntpRun x i).next.epoch % 2 ^ 32 ∧
    fld (ntpStatusReply i x) 24 8 = (ntpRun x i).plain % 2 ^ 64 ∧ fld (ntpStatusReply i x) 32 8 = (ntpRun x i).symmetric % 2 ^ 64 ∧
    fld (ntpStatusReply i x) 40 8 = (ntpRun x i).nts % 2 ^ 64 ∧ fld (ntpStatusReply i x) 72 8 = (ntpRun x i).notServed % 2 ^ 64 ∧
    fld (ntpStatusReply i x) 80 8 = x.ntp.rateDrops % 2 ^ 64 ∧ fld (ntpStatusReply i x) 88 8 = x.ntp.malformed % 2 ^ 64 := by
  unfold ntpStatusReply
  dsimp only
  simp only [List.append_assoc, fld_append_right, fld_le_here, fld_le_all, leBytes_length, beBytes_length, Nat.reduceLeDiff, Nat.reduceSub]
  refine ⟨by norm_num, ?_, ?_, by norm_num, by norm_num, by norm_num, by norm_num, by norm_num, by norm_num, by norm_num, by norm_num, by norm_num⟩
  · rw [testBit_field _ (by decide), testBit_packBits]
    rfl
  · rw [testBit_field _ (by decide), testBit_packBits]
    rfl

/-! ### NTS_KEY_LOAD (R361, R378) -/

/-- The symmetric key that NTS_KEY_LOAD loads. -/
def symmetricLoad (q : Req) (x : State) : KeyLoad :=
  { slot := fld q.params 4 2
    loads := 1 + (match getKey (fld q.params 1 1 * 2 ^ 32 + fld q.params 8 4) x.work.symKeys with | some e => e.loads | none => 0) }

section
variable {q : Req} {x : State} (hFits : fits q 12 (keyLoadFields x q.params))
include hFits

/-- A load: the slot must be full, and there is room for 1,024 symmetric keys. -/
theorem keyLoad_loads (hLoad : fld q.params 2 1 = 0) : hNtsKeyLoad q x = refuseIf (kittyKey x (fld q.params 4 2)).isNone stBadState 0
    (refuseIf (fld q.params 0 1 == 1 && decide (x.shadow.symKeys.length ≥ 1024)) stResource 0
      (if fld q.params 0 1 == 1 then
        writes (fun c => { c with symKeys := putKey (fld q.params 1 1 * 2 ^ 32 + fld q.params 8 4) (symmetricLoad q x) c.symKeys }) x
      else writes (updNext (fld q.params 1 1) (fun n => { n with epoch := fld q.params 8 4, slot := fld q.params 4 2, loads := n.loads + 1 })) x)) := by
  refine (checked_of hFits).trans ?_
  rw [hLoad]
  rfl
/-- An erasure: the server key in use stays. -/
theorem keyLoad_erases (hErase : fld q.params 2 1 = 1) : hNtsKeyLoad q x =
    refuseIf (!(fld q.params 0 1 == 1) && fld q.params 8 4 == (ntpRun x (fld q.params 1 1)).current.epoch && (ntpRun x (fld q.params 1 1)).current.epoch != 0) stBadState 0
      (if fld q.params 0 1 == 1 then writes (fun c => { c with symKeys := delKey (fld q.params 1 1 * 2 ^ 32 + fld q.params 8 4) c.symKeys }) x
      else writes (updNext (fld q.params 1 1) (fun n =>
        if fld q.params 8 4 != 0 && shadowNext x (fld q.params 1 1) == fld q.params 8 4 then
          { n with epoch := 0, slot := 0, loads := n.loads + 1, erased := n.erased ++ [fld q.params 8 4] }
        else { n with erased := n.erased ++ [fld q.params 8 4] })) x) := by
  refine (checked_of hFits).trans ?_
  rw [hErase]
  rfl

theorem keyLoad_emptySlot (hLoad : fld q.params 2 1 = 0) (hEmpty : kittyKey x (fld q.params 4 2) = none) :
    hNtsKeyLoad q x = .refuse 0x12 0 := by
  rw [keyLoad_loads hFits hLoad, hEmpty]
  rfl
theorem keyLoad_symmetric (hLoad : fld q.params 2 1 = 0) (hFull : kittyKey x (fld q.params 4 2) ≠ none) (hSym : fld q.params 0 1 = 1) :
    hNtsKeyLoad q x = refuseIf (decide (x.shadow.symKeys.length ≥ 1024)) 0x20 0
      (writes (fun c => { c with symKeys := putKey (fld q.params 1 1 * 2 ^ 32 + fld q.params 8 4) (symmetricLoad q x) c.symKeys }) x) := by
  rw [keyLoad_loads hFits hLoad, refuseIf_not (Option.isNone_eq_false_iff.mpr (Option.isSome_iff_ne_none.mpr hFull)), hSym]
  rfl
theorem keyLoad_server (hLoad : fld q.params 2 1 = 0) (hFull : kittyKey x (fld q.params 4 2) ≠ none) (hServer : fld q.params 0 1 = 0) :
    hNtsKeyLoad q x = writes (updNext (fld q.params 1 1) (fun n => { n with epoch := fld q.params 8 4, slot := fld q.params 4 2, loads := n.loads + 1 })) x := by
  rw [keyLoad_loads hFits hLoad, refuseIf_not (Option.isNone_eq_false_iff.mpr (Option.isSome_iff_ne_none.mpr hFull)), hServer]
  rfl
theorem keyErase_symmetric (hErase : fld q.params 2 1 = 1) (hSym : fld q.params 0 1 = 1) :
    hNtsKeyLoad q x = writes (fun c => { c with symKeys := delKey (fld q.params 1 1 * 2 ^ 32 + fld q.params 8 4) c.symKeys }) x := by
  rw [keyLoad_erases hFits hErase, hSym]
  rfl
theorem keyErase_current (hErase : fld q.params 2 1 = 1) (hServer : fld q.params 0 1 = 0)
    (hCurrent : fld q.params 8 4 = (ntpRun x (fld q.params 1 1)).current.epoch) (hUsed : fld q.params 8 4 ≠ 0) :
    hNtsKeyLoad q x = .refuse 0x12 0 := by
  rw [keyLoad_erases hFits hErase, hServer, ← hCurrent, beq_self_eq_true, bne_iff_ne.mpr hUsed]
  rfl
theorem keyErase_server (hErase : fld q.params 2 1 = 1) (hServer : fld q.params 0 1 = 0)
    (hOther : fld q.params 8 4 ≠ (ntpRun x (fld q.params 1 1)).current.epoch ∨ fld q.params 8 4 = 0) :
    hNtsKeyLoad q x = writes (updNext (fld q.params 1 1) (fun n =>
      if fld q.params 8 4 != 0 && shadowNext x (fld q.params 1 1) == fld q.params 8 4 then
        { n with epoch := 0, slot := 0, loads := n.loads + 1, erased := n.erased ++ [fld q.params 8 4] }
      else { n with erased := n.erased ++ [fld q.params 8 4] })) x := by
  rw [keyLoad_erases hFits hErase, refuseIf_not, hServer]
  · rfl
  · by_cases hSame : fld q.params 8 4 = (ntpRun x (fld q.params 1 1)).current.epoch
    · have hNone : (ntpRun x (fld q.params 1 1)).current.epoch = 0 := hSame ▸ hOther.resolve_left (fun h => h hSame)
      rw [hNone]
      exact Bool.and_false _
    · rw [beq_eq_false_iff_ne.mpr hSame, Bool.and_false, Bool.false_and]
end

/-- What an erasure makes of the NEXT entries of the shadow set: the identifier joins the erased ones, and a NEXT of that epoch is gone. -/
theorem erased_entries {l : List NextLoad} {i id next : Nat} :
    let m := upd l i (fun n => if id != 0 && next == id then { n with epoch := 0, slot := 0, loads := n.loads + 1, erased := n.erased ++ [id] }
      else { n with erased := n.erased ++ [id] })
    (∀ j, j ≠ i → m[j]? = l[j]?) ∧ ∀ n, l[i]? = some n → ∃ e, m[i]? = some e ∧ e.erased = n.erased ++ [id] ∧
      (id ≠ 0 → next = id → e.epoch = 0) ∧ (next ≠ id → e.epoch = n.epoch) := by
  intro m
  refine ⟨fun j hOther => (upd_get ..).trans (if_neg (Ne.symm hOther)), fun n hGet => ?_⟩
  have hHere : m[i]? = some (if id != 0 && next == id then { n with epoch := 0, slot := 0, loads := n.loads + 1, erased := n.erased ++ [id] }
      else { n with erased := n.erased ++ [id] }) := by
    refine (upd_get ..).trans ?_
    rw [if_pos rfl, hGet]
    rfl
  refine ⟨_, hHere, ?_, fun hUsed hNext => ?_, fun hOther => ?_⟩
  · split <;> rfl
  · rw [hNext, bne_iff_ne.mpr hUsed, beq_self_eq_true]
    rfl
  · rw [beq_eq_false_iff_ne.mpr hOther, Bool.and_false]
    rfl

/-! ### NTS_KEY_ROTATE (R362, R379) -/

theorem rotateReply_length (a b c d : Nat) : (rotateReply a b c d).length = 16 := by simp [rotateReply]
theorem rotateReply_fields (a b c d : Nat) : fld (rotateReply a b c d) 0 4 = a % 2 ^ 32 ∧ fld (rotateReply a b c d) 4 4 = b % 2 ^ 32 ∧
    fld (rotateReply a b c d) 12 1 = d % 256 := by
  unfold rotateReply
  simp only [List.append_assoc, fld_append_right, fld_le_here, leBytes_length, Nat.reduceLeDiff, Nat.reduceSub, Nat.reducePow, and_self]

theorem updNtpRun_set {x : State} {i : Nat} {r : NtpRun} (f : NtpRun → NtpRun) (hGet : x.ntp.insts[i]? = some r) :
    updNtpRun i f x = { x with ntp := { x.ntp with insts := x.ntp.insts.set i (f r) } } := by
  unfold updNtpRun updNtp
  dsimp only
  rw [upd_of_get hGet]
theorem plain_rotate {i : Nat} {x : State} {r : NtpRun} (hGet : x.ntp.insts[i]? = some r) :
    plain (rotate i x) = plain { x with ntp := { x.ntp with insts := x.ntp.insts.set i { r with previous := r.current, current := r.next, next := {} } } } := by
  unfold rotate
  rw [plain_raiseIdx, plain_forward, updNtpRun_set _ hGet]
theorem stands_rotate (i : Nat) (x : State) : causeStands 11 3 (rotate i x) := by
  unfold rotate
  exact stands_raiseIdx_self 11 3 i _ (by decide)
theorem ntpRun_rotate {i : Nat} {x : State} {r : NtpRun} (hGet : x.ntp.insts[i]? = some r) :
    ntpRun (rotate i x) i = { r with previous := r.current, current := r.next, next := {} } := by
  have hSame := ntp_of_plain (plain_rotate hGet)
  have hInRange : i < x.ntp.insts.length := (List.getElem?_eq_some_iff.mp hGet).1
  rw [ntpRun, hSame]
  exact nth_of_get (List.getElem?_set_self hInRange)
theorem banks_rotate (i : Nat) (x : State) : banks (rotate i x) = banks x := by
  unfold rotate
  rw [banks_raiseIdx, banks_forward]
  rfl

section
variable {q : Req} {x : State} {r : NtpRun} (hFits : fits q 16 (rotateFields q.params))
include hFits

theorem keyRotate_dummy (hDummy : isDummy x = true) : hNtsKeyRotate q x = .refuse 0x21 0 :=
  (checked_of hFits).trans (refuseIf_true hDummy)
theorem keyRotate_declarer (hDeclarer : isDummy x = false) (hGet : x.ntp.insts[fld q.params 0 1]? = some r) : hNtsKeyRotate q x =
    if fld q.params 1 1 == 1 then
      .done (rotateReply r.previous.epoch r.current.epoch r.next.epoch (if r.rotateAt.isSome then 2 else 0)) (updNtpRun (fld q.params 0 1) (fun r => { r with rotateAt := none }) x)
    else refuseIf (r.next.epoch == 0) stBadState 0
      (if tsOfField (fld q.params 4 12) = 0 then
        .done (rotateReply (ntpRun (rotate (fld q.params 0 1) (nextTick x)) (fld q.params 0 1)).previous.epoch
          (ntpRun (rotate (fld q.params 0 1) (nextTick x)) (fld q.params 0 1)).current.epoch
          (ntpRun (rotate (fld q.params 0 1) (nextTick x)) (fld q.params 0 1)).next.epoch 0) (rotate (fld q.params 0 1) (nextTick x))
      else refuseIf (r.rotateAt.isSome || decide (tsOfField (fld q.params 4 12) ≤ curTs x)) stBadState 0
        (.done (rotateReply r.current.epoch r.next.epoch 0 1) (updNtpRun (fld q.params 0 1) (fun r => { r with rotateAt := some (tsOfField (fld q.params 4 12)) }) x))) := by
  have hRun : ntpRun x (fld q.params 0 1) = r := nth_of_get hGet
  refine (checked_of hFits).trans ((refuseIf_not hDeclarer).trans ?_)
  rw [hRun]
theorem keyRotate_pending (hDeclarer : isDummy x = false) (hGet : x.ntp.insts[fld q.params 0 1]? = some r) (hRotate : fld q.params 1 1 = 0) :
    (r.next.epoch = 0 → hNtsKeyRotate q x = .refuse 0x12 0) ∧
    (r.next.epoch ≠ 0 → tsOfField (fld q.params 4 12) = 0 → hNtsKeyRotate q x =
      .done (rotateReply r.current.epoch r.next.epoch 0 0) (rotate (fld q.params 0 1) (nextTick x))) ∧
    (r.next.epoch ≠ 0 → tsOfField (fld q.params 4 12) ≠ 0 → r.rotateAt ≠ none ∨ tsOfField (fld q.params 4 12) ≤ curTs x → hNtsKeyRotate q x = .refuse 0x12 0) ∧
    (r.next.epoch ≠ 0 → tsOfField (fld q.params 4 12) ≠ 0 → r.rotateAt = none → curTs x < tsOfField (fld q.params 4 12) → hNtsKeyRotate q x =
      .done (rotateReply r.current.epoch r.next.epoch 0 1) (updNtpRun (fld q.params 0 1) (fun r => { r with rotateAt := some (tsOfField (fld q.params 4 12)) }) x)) := by
  have hGoes := keyRotate_declarer hFits hDeclarer hGet
  rw [hRotate, if_neg (by decide)] at hGoes
  refine ⟨fun hNone => ?_, fun hNext hNow => ?_, fun hNext hLater hBad => ?_, fun hNext hLater hIdle hAhead => ?_⟩
  · rw [hGoes, hNone]
    rfl
  all_goals rw [refuseIf_not (beq_eq_false_iff_ne.mpr hNext)] at hGoes
  · have hNextGet : (nextTick x).ntp.insts[fld q.params 0 1]? = some r :=
      (congrArg (fun n : NtpPart => n.insts[fld q.params 0 1]?) (moveTo_ntp (tickAfter 1 x) x)).trans hGet
    rw [hGoes, if_pos hNow, ntpRun_rotate hNextGet]
  · rw [hGoes, if_neg hLater]
    refine refuseIf_true ?_
    rcases hBad with hPending | hPast
    · rw [Option.isSome_iff_ne_none.mpr hPending, Bool.true_or]
    · rw [decide_eq_true hPast, Bool.or_true]
  · rw [hGoes, if_neg hLater, refuseIf_not]
    rw [hIdle, decide_eq_false (Nat.not_le.mpr hAhead)]
    rfl
end

/-! ### NTS_COOKIE_MINT and receipts (R359, R380 to R382) -/

theorem mintCookies_only (n i : Nat) (a b : Bytes) (x : State) : (mintCookies n i a b x).2 = { x with free := (mintCookies n i a b x).2.free } := by
  induction n generalizing x with
  | zero => rfl
  | succ n ih => exact ih (useFree x)
theorem rcptStatusReply_fields (x : State) : (fld (rcptStatusReply x) 0 1).testBit 0 = x.work.rcpt.enable ∧
    (fld (rcptStatusReply x) 0 1).testBit 2 = x.ntp.open_.isSome ∧ fld (rcptStatusReply x) 2 2 = x.work.rcpt.udpPort % 65536 ∧
    fld (rcptStatusReply x) 4 4 = x.ntp.pending % 2 ^ 32 := by
  unfold rcptStatusReply
  dsimp only
  simp only [List.append_assoc, fld_append_right, fld_le_here, leBytes_length, List.length_singleton, Nat.reduceLeDiff, Nat.reduceSub]
  refine ⟨?_, ?_, by norm_num, by norm_num⟩
  · rw [testBit_field _ (by decide), testBit_packBits]
    rfl
  · rw [testBit_field _ (by decide), testBit_packBits]
    rfl

/-- A cookie is minted while NTS is on and there is a CURRENT key (R380). -/
theorem cookieMint_of {q : Req} {x : State}
    (hFits : fits q 72 [inF 0 1 0 15, inF 1 1 1 8, inF 2 2 15 15, rsvF 4 4, anyF 8 32, anyF 40 32]) :
    hNtsCookieMint q x = refuseIf (!(ntpCfg x (fld q.params 0 1)).flags.testBit 2 || (ntpRun x (fld q.params 0 1)).current.epoch == 0) 0x12 0
      (.done (beBytes 4 (fld q.params 0 1 * 2 ^ 28 + (ntpRun x (fld q.params 0 1)).current.epoch) ++ leBytes 1 (fld q.params 1 1) ++ zeros 3 ++
        (mintCookies (fld q.params 1 1) (fld q.params 0 1) (slice q.params 8 32) (slice q.params 40 32) (nextTick x)).1)
        (mintCookies (fld q.params 1 1) (fld q.params 0 1) (slice q.params 8 32) (slice q.params 40 32) (nextTick x)).2) := checked_of hFits
theorem rcptConfigure_of {q : Req} {x : State}
    (hFits : fits q 8 [inF 0 1 0 1, rsvF 1 1, F 2 2 (fun v => v != 0 && v != 123 && v != 319 && v != 320), inF 4 2 0 4095, rsvF 6 2]) :
    hRcptConfigure q x = refuseIf (fld q.params 0 1 == 1 && (kittyKey x (fld q.params 4 2)).isNone) stBadState 0
      (writes (fun c => { c with rcpt := { enable := fld q.params 0 1 == 1, udpPort := fld q.params 2 2, slot := fld q.params 4 2, loads := c.rcpt.loads + 1 } }) x) :=
  checked_of hFits

/-- Settles O39, command by command. -/
theorem timeServiceCommands : Obligations.TimeServiceCommands := by
  unfold Obligations.TimeServiceCommands
  refine ⟨?configure, ?rate, ?status, ?load, ?rotate, ?mint, ?rcpt, ?rcptStatus⟩
  case configure =>
    intro q s hStarts x p hFits c
    exact (runCmd_writes (h := hNtpConfigure) hStarts (checked_of hFits) :)
  case rate =>
    intro q s hStarts x p n hFits c r
    have hRow := runCmd_done_of_banks hStarts (ratePolicy_answers hFits) (by split <;> rfl)
    exact ⟨rateReply r, hRow, rateReply_length r, rateReply_fields r⟩
  case status =>
    intro q s hStarts hFits x i r
    exact ⟨ntpStatusReply i x, runCmd_done hStarts (checked_of hFits) rfl rfl, ntpStatusReply_length i x, ntpStatusReply_fields i x⟩
  case load =>
    intro q s hStarts x p i id k slot hFits
    refine ⟨fun hLoad hEmpty => ?_, fun hLoad hFull hSym hMany => ?_, fun hLoad hFull hSym hFew => ?_, fun hLoad hFull hServer => ?_,
      fun hErase hSym => ?_, fun hErase hServer hCurrent hUsed => ?_, fun hErase hServer hOther => ?_⟩
    · exact congrArg Outcome.next (runCmd_refused hStarts (keyLoad_emptySlot hFits hLoad hEmpty))
    · exact congrArg Outcome.next (runCmd_refused hStarts ((keyLoad_symmetric hFits hLoad hFull hSym).trans (refuseIf_true (decide_eq_true hMany))))
    · have hRow := runCmd_writes hStarts ((keyLoad_symmetric hFits hLoad hFull hSym).trans (refuseIf_not (decide_eq_false (Nat.not_le.mpr hFew))))
      exact ⟨_, hRow⟩
    · exact (runCmd_writes hStarts (keyLoad_server hFits hLoad hFull hServer) :)
    · exact (runCmd_writes hStarts (keyErase_symmetric hFits hErase hSym) :)
    · exact congrArg Outcome.next (runCmd_refused hStarts (keyErase_current hFits hErase hServer hCurrent hUsed))
    · have hRow := runCmd_writes hStarts (keyErase_server hFits hErase hServer hOther)
      exact ⟨_, hRow, erased_entries⟩
  case rotate =>
    intro q s r hStarts hFits x p i at_ hGet
    refine ⟨fun hDummy => ?_, fun hDeclarer hCancel => ?_, fun hDeclarer hRotate hNone => ?_, fun hDeclarer hRotate hNext hNow => ?_,
      fun hDeclarer hRotate hNext hLater hBad => ?_, fun hDeclarer hRotate hNext hLater hIdle hAhead => ?_⟩
    · exact congrArg Outcome.next (runCmd_refused hStarts (keyRotate_dummy hFits hDummy))
    · have hGoes := keyRotate_declarer hFits hDeclarer hGet
      rw [hCancel, if_pos (by decide), updNtpRun_set _ hGet] at hGoes
      have hRow := runCmd_done hStarts hGoes rfl rfl
      obtain ⟨-, hCurrent, -⟩ := rotateReply_fields r.previous.epoch r.current.epoch r.next.epoch (if r.rotateAt.isSome then 2 else 0)
      exact ⟨_, hRow, rotateReply_length _ _ _ _, hCurrent⟩
    all_goals obtain ⟨hAbsent, hAtOnce, hRefused, hKept⟩ := keyRotate_pending hFits hDeclarer hGet hRotate
    · exact congrArg Outcome.next (runCmd_refused hStarts (hAbsent hNone))
    · intro y
      have hRow := runCmd_done_of_banks hStarts (hAtOnce hNext hNow) ((banks_rotate i _).trans (banks_nextTick x))
      have hNextGet : y.ntp.insts[i]? = some r := (congrArg (fun n : NtpPart => n.insts[i]?) (moveTo_ntp (tickAfter 1 x) x)).trans hGet
      obtain ⟨hPrevious, hCurrent, -⟩ := rotateReply_fields r.current.epoch r.next.epoch 0 0
      exact ⟨_, _, hRow, stands_rotate i y, rotateReply_length _ _ _ _, hPrevious, hCurrent, plain_rotate hNextGet⟩
    · exact congrArg Outcome.next (runCmd_refused hStarts (hRefused hNext hLater hBad))
    · have hGoes := hKept hNext hLater hIdle hAhead
      rw [updNtpRun_set _ hGet] at hGoes
      have hRow := runCmd_done hStarts hGoes rfl rfl
      exact ⟨_, hRow, rotateReply_fields r.current.epoch r.next.epoch 0 1⟩
  case mint =>
    intro q s hStarts hFits x i e able
    refine ⟨fun hUnable => ?_, fun hAble => ?_⟩
    · refine congrArg Outcome.next (runCmd_refused hStarts ((cookieMint_of hFits).trans (refuseIf_true ?_)))
      by_cases hOn : (ntpCfg x i).flags.testBit 2 = true
      · have hNone : e = 0 := Classical.byContradiction fun hKey => hUnable ⟨hOn, hKey⟩
        rw [beq_iff_eq.mpr hNone, Bool.or_true]
      · rw [Bool.eq_false_iff.mpr hOn]
        rfl
    · obtain ⟨hOn, hKey⟩ := hAble
      have hGoes : hNtsCookieMint q x = _ := (cookieMint_of hFits).trans (refuseIf_not (by rw [hOn, beq_eq_false_iff_ne.mpr hKey]; rfl))
      have hOnly := mintCookies_only (fld q.params 1 1) i (slice q.params 8 32) (slice q.params 40 32) (nextTick x)
      have hRow := runCmd_done_of_banks hStarts hGoes (by rw [hOnly]; exact banks_nextTick x)
      refine ⟨_, _, hRow, hOnly, ?_, ?_⟩
      · rw [List.append_assoc, List.append_assoc]
        exact fldBE_be_here 4 _ _
      · rw [List.append_assoc, List.append_assoc, fld_append_right (by rw [beBytes_length]), beBytes_length]
        exact fld_le_here 1 _ _
  case rcpt =>
    intro q s hStarts hFits x p
    refine ⟨fun hOn hEmpty => ?_, fun hFree => ?_⟩
    · refine congrArg Outcome.next (runCmd_refused hStarts ((rcptConfigure_of hFits).trans (refuseIf_true ?_)))
      rw [hOn, hEmpty]
      rfl
    · have hAllowed : (fld p 0 1 == 1 && (kittyKey x (fld p 4 2)).isNone) = false := by
        rcases hFree with hOff | hFull
        · rw [hOff]
          rfl
        · rw [Option.isNone_eq_false_iff.mpr (Option.isSome_iff_ne_none.mpr hFull), Bool.and_false]
      have hRow := runCmd_writes hStarts ((rcptConfigure_of hFits).trans (refuseIf_not hAllowed))
      exact ⟨_, hRow⟩
  case rcptStatus =>
    intro q s hStarts hFits x
    exact ⟨rcptStatusReply x, runCmd_done hStarts (checked_of hFits) rfl rfl, rcptStatusReply_fields x⟩

end Sys2Proof.Machine
end

section
/-! PROOFS. The commands of the pair (R406, R407, R413, R423 to R428). -/
namespace Sys2Proof.Machine
open Sys2Proof Host

/-! ### Reports (R424, R428) -/

theorem pairRow_length (x : State) (k : Nat) : (pairRow x k).length = 24 := by simp [pairRow]
theorem followTerm_length (x : State) : (if isDummy x && following x.pair.sync then boundBytes (some (alignTermAt x.now x)) else zeros 8).length = 8 := by
  split
  · exact boundBytes_length _
  · exact zeros_length 8
theorem pairStatusReply_length (x : State) : (pairStatusReply x).length = 80 + 24 * x.work.pair.entries.length := by
  unfold pairStatusReply
  have hTerm := followTerm_length x
  dsimp only
  generalize (if isDummy x && following x.pair.sync then boundBytes (some (alignTermAt x.now x)) else zeros 8) = term at hTerm
  rw [List.length_append, length_flatMap_rows (pairRow_length x), List.length_range]
  simp [hTerm]
theorem syncCode_small (y : SyncState) : syncCode y < 256 := by cases y <;> decide

/-- What follows the bound of PAIR_STATUS stands behind 8 bytes of it. -/
theorem pairStatusReply_fields (x : State) : fld (pairStatusReply x) 0 1 = (if isDummy x then 1 else 0) ∧ fld (pairStatusReply x) 1 1 = syncCode x.pair.sync ∧
    fld (pairStatusReply x) 2 1 = x.pair.force % 256 ∧ (fld (pairStatusReply x) 6 2).testBit 0 = x.pair.enable ∧
    (fld (pairStatusReply x) 6 2).testBit 1 = x.pair.seizing ∧ (fld (pairStatusReply x) 6 2).testBit 5 = x.pair.heard ∧
    fld (pairStatusReply x) 9 1 = x.pair.lastFinding % 256 ∧ fld (pairStatusReply x) 12 4 = x.pair.switchovers % 2 ^ 32 ∧
    fld (pairStatusReply x) 28 4 = x.pair.mismatches % 2 ^ 32 ∧ fld (pairStatusReply x) 56 4 = x.pair.snapshotsApplied % 2 ^ 32 ∧
    fld (pairStatusReply x) 68 4 = x.pair.hbMissed % 2 ^ 32 ∧ fld (pairStatusReply x) 72 2 = x.pair.mirrorOpcode % 65536 := by
  unfold pairStatusReply
  have hTerm := followTerm_length x
  dsimp only
  generalize (if isDummy x && following x.pair.sync then boundBytes (some (alignTermAt x.now x)) else zeros 8) = term at hTerm
  simp only [List.append_assoc, fld_append_right, fld_le_here, hTerm, leBytes_length, leInt_length, tsBytes_length, zeros_length, Nat.reduceLeDiff, Nat.reduceSub]
  refine ⟨?_, Nat.mod_eq_of_lt (syncCode_small _), by norm_num, ?_, ?_, ?_, by norm_num, by norm_num, by norm_num, by norm_num, by norm_num, by norm_num⟩
  · cases isDummy x <;> rfl
  all_goals rw [testBit_field _ (by decide), testBit_packBits]; rfl

theorem testRow_length (x : State) (k : Nat) : (testRow x k).length = 16 := by simp [testRow]
theorem testRow_fields (x : State) (k : Nat) : fld (testRow x k) 0 1 = k % 256 ∧
    fld (testRow x k) 1 1 = (if testRole k x then (nth x.pair.tests k).result else 2) % 256 ∧ fld (testRow x k) 4 4 = (nth x.pair.tests k).failures % 2 ^ 32 := by
  unfold testRow
  simp only [List.append_assoc, fld_append_right, fld_le_here, leBytes_length, Nat.reduceLeDiff, Nat.reduceSub, Nat.reducePow, and_self]
theorem selftestReply_row (x : State) {k : Nat} (hItem : k < 7) : let data := (List.range 7).flatMap (testRow x)
    fld data (16 * k) 1 = k ∧ fld data (16 * k + 1) 1 = (if testRole k x then (nth x.pair.tests k).result else 2) % 256 ∧
    fld data (16 * k + 4) 4 = (nth x.pair.tests k).failures % 2 ^ 32 := by
  intro data
  have hGet : (List.range 7)[k]? = some k := List.getElem?_range hItem
  obtain ⟨hNumber, hResult, hFailures⟩ := testRow_fields x k
  refine ⟨?_, ?_, ?_⟩
  · rw [← Nat.add_zero (16 * k), fld_flatMap (testRow_length x) hGet (by decide), hNumber]
    exact Nat.mod_eq_of_lt (by omega)
  · rw [fld_flatMap (testRow_length x) hGet (by decide), hResult]
  · rw [fld_flatMap (testRow_length x) hGet (by decide), hFailures]

/-! ### PAIR_SWITCH and its timeout (R414, R426) -/

theorem pairSwitch_of {q : Req} {x : State} (hFits : fits q 4 [inF 0 1 0 1, rsvF 1 3]) : hPairSwitch q x =
    declarerOnly x (refuseIf (!x.pair.heard || (x.pair.partner.sync != 6 && !(fld q.params 0 1 == 1))) stBadState 0
      (.later (addWait { key := .pairSwitch, opcode := 0x0C03, req := q }
        (emit (.link none "SWITCH_REQUEST" [BitVec.ofNat 8 (b2n (fld q.params 0 1 == 1))]) (updPair (fun p => { p with switchAt := some x.now }) x))))) :=
  checked_of hFits
/-- The partner can take over: it is heard, and synchronised unless the switch is forced (R426). -/
theorem pairSwitch_refusal (heard : Bool) (sync force : Nat) :
    (!heard || (sync != 6 && !(force == 1))) = false ↔ heard = true ∧ (sync = 6 ∨ force = 1) := by
  simp [Bool.and_eq_false_imp]
  tauto

theorem pairSwitchTimeout_ends {s z : State} {a : Nat} (hAsked : s.pair.switchAt = some a) (hz : moveTo (a + 10000000000) s = z) :
    (pairSwitchTimeout s).pair.switchAt = none ∧ (pairSwitchTimeout s).now = z.now ∧
    ∀ w, s.host.waits = [w] → w.key = .pairSwitch → (pairSwitchTimeout s).host.waits = [] := by
  let y := updPair (fun p => { p with switchAt := none }) z
  have hEnds : pairSwitchTimeout s = finishWait .pairSwitch stDone 0 ([2#8] ++ zeros 3) y := by
    unfold pairSwitchTimeout
    rw [hAsked]
    dsimp only
    rw [show 10 * msPs = 10000000000 from rfl, hz]
  have hReplied := repliedFrom_finishWait .pairSwitch stDone 0 ([2#8] ++ zeros 3) y
  rw [hEnds]
  refine ⟨?_, ?_, fun w hOne hKey => ?_⟩
  · exact of_replied (·.pair.switchAt) (fun _ => rfl) (fun _ _ _ _ _ => rfl) hReplied
  · exact (of_replied (·.now) (fun _ => rfl) (fun _ _ _ _ _ => rfl) hReplied).trans rfl
  · have hWaits : y.host.waits = [w] := by
      rw [updPair_host, ← hz, moveTo_host]
      exact hOne
    rw [finishWait_waits, hWaits, answeredWaits_single hKey]

/-! ### PAIR_RESYNC (R407, R427) -/

theorem banks_enterJoining (s : State) : banks (enterJoining s) = banks s := by
  have hFree : ∀ x : State, banks (freeAll x) = banks x := fun x => by
    unfold freeAll
    rw [banks_mk, banks_eta]
    exact banks_foldl _ (fun y d => banks_updDpll d _ y) _ x
  unfold enterJoining
  rw [banks_settleBound, banks_evalAll, banks_ownChannels, hFree, banks_dropSlew]
  rfl

/-- The chip that is asked to synchronise again is where VERIFY can start: a synchronised Dummy, or a Declarer with a synchronised partner (R427). -/
def verifies (x : State) : Bool := if isDummy x then x.pair.sync == .synced else x.pair.partner.sync == 6

theorem verifies_iff (x : State) : verifies x = true ↔ if isDummy x then x.pair.sync = .synced else x.pair.partner.sync = 6 := by
  unfold verifies
  cases isDummy x <;> simp
theorem pairResync_of {q : Req} {x : State} (hFits : fits q 4 [inF 0 1 0 1, rsvF 1 3]) (hOwn : isMirrored q = false) : hPairResync q x =
    refuseIf (x.work.pair.mode != 1 || !x.pair.heard || (fld q.params 0 1 == 1 && !verifies x)) stBadState 0
      (if !isDummy x then
        .done [] (emit (.link none "MIRROR" (leBytes 2 0x0C04 ++ leBytes 2 q.tag.toNat ++ leBytes 2 1 ++ leBytes 1 q.flags.toNat ++ q.params)) x)
      else .done [] (if fld q.params 0 1 == 1 then { x with pair := { x.pair with stopped := false, lockFails := 0, sync := .lockstep, lockRun := 0 } }
        else enterJoining (nextTick (updPair (fun p => { p with stopped := false, lockFails := 0 }) x)))) := by
  refine (checked_of hFits).trans ?_
  rw [hOwn]
  rfl
theorem pairResync_refusal (x : State) (v : Nat) : (x.work.pair.mode != 1 || !x.pair.heard || (v == 1 && !verifies x)) = false ↔
    x.work.pair.mode = 1 ∧ x.pair.heard = true ∧ (v = 1 → if isDummy x then x.pair.sync = .synced else x.pair.partner.sync = 6) := by
  rw [← verifies_iff]
  simp [and_assoc]

/-- Settles O41, command by command. -/
theorem pairCommands : Obligations.PairCommands := by
  unfold Obligations.PairCommands
  refine ⟨?configure, ?status, ?claim, ?switch, ?timeout, ?resync, ?tests⟩
  case configure =>
    intro q s hStarts x p hFits es c
    exact (runCmd_writes (h := hPairConfigure) hStarts (checkedN_of hFits) :)
  case status =>
    intro q s hStarts hFits x
    have hRow := runCmd_done (h := hPairStatus) hStarts (checked_of hFits) rfl rfl
    refine ⟨pairStatusReply x, hRow, pairStatusReply_length x, ?_⟩
    obtain ⟨hRole, hSync, hRest⟩ := pairStatusReply_fields x
    refine ⟨hRole, ?_, hRest⟩
    rw [hSync]
    cases x.pair.sync <;> rfl
  case claim =>
    intro q s hStarts hFits x
    have hGoes : hPairClaimSet q x = if x.pair.live then
        .later (addWait { key := .claimSet, opcode := 0x0C02, req := q } (updPair (fun p => { p with pref := fld q.params 0 1 }) x))
      else .done (leBytes 1 x.pair.force ++ zeros 3) (updPair (fun p => { p with pref := fld q.params 0 1 }) x) := checked_of hFits
    refine ⟨fun hIdle => ?_, fun hLive => ?_⟩
    · rw [hIdle, if_neg Bool.false_ne_true] at hGoes
      have hRow := runCmd_done hStarts hGoes rfl rfl
      exact ⟨_, hRow, by simp, fld_le_here 1 _ _⟩
    · rw [hLive, if_pos rfl] at hGoes
      exact congrArg Outcome.next (runCmd_later hStarts hGoes rfl rfl)
  case switch =>
    intro q s hStarts hFits x able
    have hGoes := pairSwitch_of (x := x) hFits
    refine ⟨fun hDummy => ?_, fun hDeclarer hUnable => ?_, fun hDeclarer hAble => ?_⟩
    · exact congrArg Outcome.next (runCmd_refused hStarts (hGoes.trans (refuseIf_true hDummy)))
    · have hRefuses : (!x.pair.heard || (x.pair.partner.sync != 6 && !(fld q.params 0 1 == 1))) = true :=
        Bool.eq_true_of_not_eq_false fun hOff => hUnable ((pairSwitch_refusal _ _ _).mp hOff)
      exact congrArg Outcome.next (runCmd_refused hStarts (hGoes.trans ((refuseIf_not hDeclarer).trans (refuseIf_true hRefuses))))
    · have hRow := runCmd_later hStarts (hGoes.trans ((refuseIf_not hDeclarer).trans (refuseIf_not ((pairSwitch_refusal _ _ _).mpr hAble)))) rfl rfl
      refine ⟨_, congrArg Outcome.next hRow, rfl, rfl, rfl, ?_⟩
      have hByte : b2n (fld q.params 0 1 == 1) = if fld q.params 0 1 = 1 then 1 else 0 := by
        by_cases hForce : fld q.params 0 1 = 1 <;> simp [b2n, hForce]
      rw [← hByte]
      exact List.mem_append_right _ (List.mem_singleton.mpr rfl)
  case timeout =>
    intro s a hRuns hAsked
    have hRow : exec .pairSwitchTimeout s = .next (pairSwitchTimeout { s with out := [] }) := next_whileRunning hRuns _
    exact ⟨_, hRow, kept_of_event rfl hRow, pairSwitchTimeout_ends (s := { s with out := [] }) (z := moveTo (a + 10000000000) { s with out := [] }) hAsked rfl⟩
  case resync =>
    intro q s hStarts hFits x verify synced able
    have hGoes := pairResync_of (x := x) hFits (startsAt_mirror hStarts)
    refine ⟨fun hUnable => ?_, fun hAble hDeclarer => ?_, fun hAble hDummy hVerify => ?_, fun hAble hDummy hAnew => ?_⟩
    · have hRefuses : (x.work.pair.mode != 1 || !x.pair.heard || (fld q.params 0 1 == 1 && !verifies x)) = true :=
        Bool.eq_true_of_not_eq_false fun hOff => hUnable ((pairResync_refusal x _).mp hOff)
      exact congrArg Outcome.next (runCmd_refused hStarts (hGoes.trans (refuseIf_true hRefuses)))
    all_goals rw [refuseIf_not ((pairResync_refusal x _).mpr hAble)] at hGoes
    · rw [hDeclarer, if_pos (by decide)] at hGoes
      exact ⟨_, runCmd_done hStarts hGoes rfl rfl⟩
    · rw [hDummy, if_neg (by decide), if_pos (beq_iff_eq.mpr hVerify)] at hGoes
      exact runCmd_done hStarts hGoes rfl rfl
    · rw [hDummy, if_neg (by decide), if_neg (fun hSame => hAnew (beq_iff_eq.mp hSame))] at hGoes
      have hRow := runCmd_done_of_banks hStarts hGoes ((banks_enterJoining _).trans (banks_nextTick _))
      have hPair : (enterJoining (nextTick (updPair (fun p => { p with stopped := false, lockFails := 0 }) x))).pair =
          { (nextTick (updPair (fun p => { p with stopped := false, lockFails := 0 }) x)).pair with sync := .joining, joinCount := 0, timeSet := false, lockRun := 0, applied := none } :=
        (enterJoining_fields _).2.2.2
      have hStill : (nextTick (updPair (fun p => { p with stopped := false, lockFails := 0 }) x)).pair = { x.pair with stopped := false, lockFails := 0 } := moveTo_pair _ _
      rw [hStill] at hPair
      refine ⟨_, hRow, ?_, congrArg PairRun.sync hPair, congrArg PairRun.stopped hPair, congrArg PairRun.timeSet hPair, congrArg PairRun.joinCount hPair⟩
      exact (kept_enterJoining _).trans ((kept_nextTick _).trans (kept_updPair _ x))
  case tests =>
    intro q s hStarts hFits x
    have hRow := runCmd_done (h := hPairSelftestReport) hStarts (checked_of hFits) rfl rfl
    exact ⟨_, hRow, length_flatMap_rows (testRow_length x) _, fun k hItem => selftestReply_row x hItem⟩

end Sys2Proof.Machine
end

section
/-! PROOFS. Key slots, their image and its writes (R439 to R447, R454 to R456). -/
namespace Sys2Proof.Machine
open Sys2Proof Host

theorem base_raise13 (b : Nat) (s : State) : base (raise 13 b s) = base s := base_setCause 13 b 0 s
theorem raise13_score (b : Nat) (s : State) : (raise 13 b s).score = s.score := score_of_base (base_raise13 b s)
theorem nextTick_kitty (s : State) : (nextTick s).kitty = s.kitty := moveTo_kitty _ s
/-- The passing of time leaves the pages in write and waiting alone. -/
theorem moveTo_writing (ps : Nat) (s : State) : (moveTo ps s).score.writing = s.score.writing := by
  unfold moveTo
  split
  · rfl
  · split <;> rfl

/-! ### KEY_WRITE and KEY_ERASE (R454, R455) -/

/-- Until the load a key command is put off with a hint (R447). -/
theorem kittyReady_before {s : State} {k : Answer} (h : s.kitty.loadDone = false) :
    ∃ d, 1 ≤ d ∧ d ≤ 65535 ∧ kittyReady s k = .refuseWith 0x02 d { s with free := s.free + 1 } := by
  refine ⟨1 + freeVal s % 65535, by omega, by omega, ?_⟩
  unfold kittyReady
  rw [h]
  rfl
theorem kittyReady_after {s : State} {k : Answer} (h : s.kitty.loadDone = true) : kittyReady s k = k := by
  unfold kittyReady
  rw [h]
  rfl
theorem keyAllowed_iff (per : Bool) (s : State) : (s.attest.advance.isSome || s.attest.lc == 4 || (per && s.attest.lc == 0)) = false ↔
    s.attest.advance = none ∧ s.attest.lc ≠ 4 ∧ (per = true → s.attest.lc ≠ 0) := by
  simp [and_assoc]
theorem keyAllowed_not {per : Bool} {s : State} {k : Answer} (h : ¬ (s.attest.advance = none ∧ s.attest.lc ≠ 4 ∧ (per = true → s.attest.lc ≠ 0))) :
    keyAllowed per s k = .refuse 0x13 s.attest.lc :=
  refuseIf_true (Bool.eq_true_of_not_eq_false fun hOff => h ((keyAllowed_iff per s).mp hOff))
theorem keyAllowed_of {per : Bool} {s : State} {k : Answer} (h : s.attest.advance = none ∧ s.attest.lc ≠ 4 ∧ (per = true → s.attest.lc ≠ 0)) :
    keyAllowed per s k = k := refuseIf_not ((keyAllowed_iff per s).mpr h)
theorem noMirror_of {q : Req} {k : Answer} (h : isMirrored q = false) : noMirror q k = k := refuseIf_not h

theorem hKeyWrite_of {q : Req} {x : State} (hFits : fits q 40 [inF 0 2 0 4095, inF 2 1 0 3, rsvF 3 1, anyF 4 2, rsvF 6 2, anyF 8 32])
    (hOwn : isMirrored q = false) :
    let p := q.params
    let y := countWrite ((fld p 2 1).testBit 0) (putKey (fld p 0 2) { label := fld p 4 2, key := slice p 8 32 } (nextTick x).kitty.slots) (bump 864 (nextTick x))
    hKeyWrite q x = kittyReady x (keyAllowed ((fld p 2 1).testBit 0) x (refuseIf ((getKey (fld p 0 2) x.kitty.slots).isSome && !(fld p 2 1).testBit 1) 0x12 0
      (.done (kcv (slice p 8 32) ++ leBytes 4 y.kitty.writesTotal) y))) :=
  (checked_of hFits).trans (noMirror_of hOwn)
theorem hKeyErase_of {q : Req} {x : State} (hFits : fits q 4 (eraseFields q.params)) (hOwn : isMirrored q = false) :
    let p := q.params
    let y := countWrite ((fld p 2 1).testBit 0) (if (fld p 2 1).testBit 1 = true then [] else delKey (fld p 0 2) (nextTick x).kitty.slots) (bump 865 (nextTick x))
    hKeyErase q x = kittyReady x (keyAllowed ((fld p 2 1).testBit 0) x (.done (zeros 4 ++ leBytes 4 y.kitty.writesTotal) y)) :=
  (checked_of hFits).trans (noMirror_of hOwn)

/-- The key part after a write or an erase of the next tick (R442, R444, R452). -/
def keysWritten (per : Bool) (l : List (Nat × KittySlot)) (x : State) : KittyPart :=
  { (nextTick x).kitty with
    slots := l, writesTotal := (x.kitty.writesTotal + 1) % 2 ^ 32, writesReset := (x.kitty.writesReset + 1) % 2 ^ 32
    before := some ((nextTick x).now, slotsThen (nextTick x))
    persist := if per then some (x.kitty.persist.elim (nextTick x).now (·.1), (nextTick x).now) else x.kitty.persist }
theorem countWrite_kitty (per : Bool) (l : List (Nat × KittySlot)) (n : Nat) (x : State) :
    (countWrite per l (bump n (nextTick x))).kitty = keysWritten per l x := by
  unfold countWrite keysWritten
  rw [updKitty_kitty, noteRate_kitty, ← nextTick_kitty x]
  rfl
theorem plain_updKitty (f : KittyPart → KittyPart) (s : State) : plain (updKitty f s) = updKitty f (plain s) := rfl
theorem countWrite_plain (per : Bool) (l : List (Nat × KittySlot)) (n : Nat) (x : State) :
    plain (countWrite per l (bump n (nextTick x))) = plain { nextTick x with kitty := keysWritten per l x } := by
  unfold countWrite keysWritten
  rw [plain_updKitty, plain_noteRate, ← nextTick_kitty x]
  rfl
theorem banks_countWrite (per : Bool) (l : List (Nat × KittySlot)) (n : Nat) (x : State) :
    banks (countWrite per l (bump n (nextTick x))) = banks x :=
  (banks_noteRate 3 _).trans (banks_nextTick x)

/-! ### KEY_INFO (R456) -/

theorem keyInfoReply_fields (n : Nat) (x : State) :
    fld (keyInfoReply n x) 0 2 = n % 65536 ∧
    fld (keyInfoReply n x) 2 1 = (if n ≠ 0xFFFF ∧ getKey n x.kitty.slots ≠ none then 1 else 0) ∧
    (fld (keyInfoReply n x) 3 1).testBit 0 = x.kitty.loaded ∧ (fld (keyInfoReply n x) 3 1).testBit 1 = x.kitty.persist.isSome ∧
    (∀ e, n ≠ 0xFFFF → getKey n x.kitty.slots = some e → fld (keyInfoReply n x) 4 2 = e.label % 65536) ∧
    fld (keyInfoReply n x) 6 2 = x.kitty.slots.length % 65536 := by
  unfold keyInfoReply
  dsimp only
  simp only [List.append_assoc, fld_append_right, fld_le_here, leBytes_length, Nat.reduceLeDiff, Nat.reduceSub]
  refine ⟨by norm_num, ?_, ?_, ?_, ?_, by norm_num⟩
  · by_cases hAll : n = 0xFFFF
    · simp [hAll, b2n]
    · cases getKey n x.kitty.slots <;> simp [hAll, b2n]
  · exact (testBit_field (n := 1) _ (by decide)).trans (testBit_packBits _ 0)
  · exact (testBit_field (n := 1) _ (by decide)).trans (testBit_packBits _ 1)
  · intro e hOne hSlot
    simp [hOne, hSlot]

/-! ### Image writes (R443 to R446) -/

/-- The bank that the next image takes (R444). -/
def nextBank (s : State) : Nat := match s.kitty.imageBank with | some b => 1 - b | none => 0

/-- An image write has started, but for the persistence that it leaves (R443 to R445, R536). -/
structure ImageStarted (s t : State) (w : KittyWrite) : Prop where
  writing : t.kitty.writing = some w
  bank : w.bank = nextBank s
  seq : w.seq = s.kitty.nextSeq
  waits : w.waits = s.score.writing.isSome
  nextSeq : t.kitty.nextSeq = s.kitty.nextSeq + 1
  deferred : t.kitty.deferred = false
  credit : t.kitty.credit = creditNow s - creditPs
  burns : s.score.writing = none → flashBank t (nextBank s) = [] ∧ Output.flash "KITTY" w.image ∈ t.out
  leaves : s.score.writing ≠ none → t.flash = s.flash

theorem flashBank_setBank (b : Nat) (img : Bytes) (s : State) : flashBank (setBank b img s) b = img := by
  unfold flashBank setBank
  by_cases hFirst : b = 0
  · rw [if_pos hFirst, if_pos hFirst]
  · rw [if_neg hFirst, if_neg hFirst]
/-- The bank of the write in progress is erased, and the image goes to it. -/
theorem programImage_burns {s : State} {w : KittyWrite} (h : s.kitty.writing = some w) :
    (programImage s).kitty = { s.kitty with writing := some { w with waits := false } } ∧ flashBank (programImage s) w.bank = [] ∧
      Output.flash "KITTY" w.image ∈ (programImage s).out := by
  have hBurns : programImage s =
      burn "KITTY" (bankAddr w.bank) 40 w.image (setBank w.bank [] (updKitty (fun k => { k with writing := some { w with waits := false } }) s)) := by
    unfold programImage
    rw [h]
  rw [hBurns]
  exact ⟨rfl, flashBank_setBank _ _ _, mem_emit _ _⟩
theorem startImage_starts {body : Bytes} {s : State} (hKey : wrapKey s ≠ none) :
    ∃ w, ImageStarted s (startImage body s) w ∧ (startImage body s).kitty.persist = none := by
  obtain ⟨key, hSome⟩ := Option.ne_none_iff_exists'.mp hKey
  unfold startImage
  rw [hSome]
  dsimp only
  generalize hz : updKitty _ (useFree s) = z
  obtain ⟨w, hWriting, hBank, hSeq, hWaits, hNext, hPersist, hDeferred, hCredit, hFlash⟩ : ∃ w, z.kitty.writing = some w ∧ w.bank = nextBank s ∧
      w.seq = s.kitty.nextSeq ∧ w.waits = s.score.writing.isSome ∧ z.kitty.nextSeq = s.kitty.nextSeq + 1 ∧ z.kitty.persist = none ∧
      z.kitty.deferred = false ∧ z.kitty.credit = creditNow s - creditPs ∧ z.flash = s.flash := by
    subst hz
    exact ⟨_, rfl, rfl, rfl, rfl, rfl, rfl, rfl, rfl, rfl⟩
  cases hPage : s.score.writing with
  | none =>
    rw [Option.isSome_none, if_neg Bool.false_ne_true]
    obtain ⟨hPart, hErased, hOut⟩ := programImage_burns hWriting
    rw [hBank] at hErased
    refine ⟨{ w with waits := false }, ⟨?_, hBank, hSeq, ?_, ?_, ?_, ?_, fun _ => ⟨hErased, hOut⟩, fun hSome => absurd hPage hSome⟩, ?_⟩
    · rw [hPart]
    · rw [hPage]
      rfl
    all_goals rw [hPart]
    · exact hNext
    · exact hDeferred
    · exact hCredit
    · exact hPersist
  | some v =>
    rw [Option.isSome_some, if_pos rfl]
    exact ⟨w, ⟨hWriting, hBank, hSeq, hWaits, hNext, hDeferred, hCredit, fun hNone => absurd (hPage.symm.trans hNone) (Option.some_ne_none v), fun _ => hFlash⟩, hPersist⟩
/-- With a credit a write that is due starts. -/
theorem dueImage_starts {body : Bytes} {s : State} (hCredit : creditPs ≤ creditNow s) (hKey : wrapKey s ≠ none) :
    ∃ w, ImageStarted s (dueImage body s) w ∧ (dueImage body s).kitty.persist = none := by
  have hGoes : dueImage body s = startImage body s := if_pos hCredit
  rw [hGoes]
  exact startImage_starts hKey

/-! ### PERSIST_WRITE (R444, R445) -/

theorem dueKitty_starts {s : State} {f l : Nat} (hAsked : s.kitty.persist = some (f, l)) (hCredit : creditPs ≤ creditNow s) (hKey : wrapKey s ≠ none) :
    ∃ w, ImageStarted s (dueKitty s) w ∧ (dueKitty s).kitty.persist = if l = s.now then some (l, l) else none := by
  obtain ⟨w, hStarts, hNone⟩ := dueImage_starts (body := imageBody (slotsThen s)) hCredit hKey
  refine ⟨w, ?_⟩
  unfold dueKitty
  rw [hAsked]
  dsimp only
  rw [hStarts.writing, Option.isSome_some, Bool.and_true]
  by_cases hLate : l = s.now
  · rw [decide_eq_true hLate, if_pos rfl, if_pos hLate, hLate]
    exact ⟨{ hStarts with }, rfl⟩
  · rw [decide_eq_false hLate, if_neg Bool.false_ne_true, if_neg hLate]
    exact ⟨hStarts, hNone⟩
theorem dueKitty_defers {s : State} (hCredit : creditNow s < creditPs) (hDeferred : s.kitty.deferred = false) (hIdle : s.kitty.writing = none) :
    dueKitty s = raise 13 4 (updKitty (fun k => { k with deferred := true }) s) := by
  have hDue : dueImage (imageBody (slotsThen s)) s = raise 13 4 (updKitty (fun k => { k with deferred := true }) s) := by
    unfold dueImage
    rw [if_neg (by omega), hDeferred, if_neg Bool.false_ne_true]
  have hStill : (raise 13 4 (updKitty (fun k => { k with deferred := true }) s)).kitty.writing = none := by
    rw [raise_kitty]
    exact hIdle
  unfold dueKitty
  dsimp only
  rw [hDue, hStill, Option.isSome_none, Bool.and_false, if_neg Bool.false_ne_true]
theorem persistWrite_due {s z : State} {f l : Nat} (hAsked : s.kitty.persist = some (f, l)) (hIdle : s.kitty.writing = none) (hRuns : running s = true)
    (hz : moveTo (min (l + 10000000000000) (f + 60000000000000)) s = z) : persistWrite s = dueKitty z := by
  unfold persistWrite
  rw [hAsked, hIdle, hRuns]
  dsimp only
  rw [show 10 * secPs = 10000000000000 by norm_num [secPs], show 60 * secPs = 60000000000000 by norm_num [secPs], hz, Option.isSome_none, if_neg (by decide)]

/-! ### PERSIST_DONE (R444, R536) -/

theorem startPage_kittyPart (s : State) : (startPage s).kitty = s.kitty := by
  unfold startPage
  split
  · split <;> rfl
  · rfl
theorem startPage_bank (b : Nat) (s : State) : flashBank (startPage s) b = flashBank s b := by
  unfold startPage
  split
  · split <;> rfl
  · rfl
/-- An image write that has the flash ends: what the readback found is noted, and the next page may follow. -/
def imageRead (w : KittyWrite) (s : State) : State :=
  raise 13 2 (setBank w.bank w.image (updKitty (fun k => { k with writing := none, imageSeq := w.seq, imageBank := some w.bank, imageOp := s.score.opPs }) s))
def imageBad (s : State) : State := raise 13 3 (updKitty (fun k => { k with writing := none, persist := some (k.persist.elim (s.now, s.now) id) }) s)
theorem persistDone_waits {t : Nat} {ok : Bool} {s : State} {w : KittyWrite} (hWriting : (begin_ t s).kitty.writing = some w) (hWaits : w.waits = true) :
    persistDone t ok s = begin_ t s := by
  unfold persistDone
  dsimp only
  rw [hWriting]
  dsimp only
  rw [hWaits, if_pos rfl]
theorem persistDone_ends {t : Nat} {ok : Bool} {s : State} {w : KittyWrite} (hWriting : (begin_ t s).kitty.writing = some w) (hWaits : w.waits = false) :
    persistDone t ok s = startPage (if ok then imageRead w (begin_ t s) else imageBad (begin_ t s)) := by
  unfold persistDone
  dsimp only
  rw [hWriting]
  dsimp only
  rw [hWaits, if_neg Bool.false_ne_true]
  rfl

/-! ### CREDIT_ACCRUE and RETENTION_REWRITE (R445, R446) -/

theorem creditNow_of {s t : State} (hKitty : t.kitty = s.kitty) (hScore : t.score = s.score) : creditNow t = creditNow s := by
  unfold creditNow
  rw [hKitty, hScore]
section
variable {s y : State} {n c : Nat} (hRuns : running s = true) (hNow : s.now = n) (hCredit : creditNow s = c) (hFull : c < 256 * creditPs)
  (hy : moveTo (n + (creditPs - c % creditPs)) s = y)
include hRuns hNow hCredit hFull hy

theorem creditAccrue_free (hDeferred : s.kitty.deferred = false) : creditAccrue s = y := by
  have hKitty : y.kitty = s.kitty := by
    rw [← hy, moveTo_kitty]
  unfold creditAccrue
  rw [hCredit, hNow, if_neg (by simp [hRuns]; omega), hy]
  dsimp only
  rw [hKitty, hDeferred, Bool.not_false, Bool.true_or, if_pos rfl]
theorem creditAccrue_starts (hDeferred : s.kitty.deferred = true) (hIdle : s.kitty.writing = none) (hAsked : s.kitty.persist ≠ none) :
    creditAccrue s = dueKitty y := by
  have hKitty : y.kitty = s.kitty := by
    rw [← hy, moveTo_kitty]
  unfold creditAccrue
  rw [hCredit, hNow, if_neg (by simp [hRuns]; omega), hy]
  dsimp only
  rw [hKitty, hDeferred, hIdle, Bool.not_true, Option.isSome_none, Bool.or_false, if_neg Bool.false_ne_true, Option.isSome_iff_ne_none.mpr hAsked, if_pos rfl]

end
theorem retentionRewrite_due {s y : State} {b n i o : Nat} (hRuns : running s = true) (hImage : s.kitty.imageBank = some b) (hIdle : s.kitty.writing = none)
    (hNow : s.now = n) (hOp : s.kitty.imageOp = i) (hPs : s.score.opPs = o) (hy : moveTo (n + (i + retentionPs - o)) s = y) (hKey : wrapKey y ≠ none) :
    ∃ body, retentionRewrite s = updKitty (fun k => { k with persist := s.kitty.persist }) (dueImage body y) := by
  have hKitty : y.kitty = s.kitty := by
    rw [← hy, moveTo_kitty]
  obtain ⟨key, hSome⟩ := Option.ne_none_iff_exists'.mp hKey
  have hText : newestText y = some (imageText key (flashBank y b)) := by
    unfold newestText
    rw [hKitty, hImage, hSome]
  refine ⟨imageText key (flashBank y b), ?_⟩
  unfold retentionRewrite
  rw [hRuns, hImage, hIdle, hNow, hOp, hPs, if_neg (show ¬(!true || (some b).isNone || (none : Option KittyWrite).isSome) = true from Bool.false_ne_true), hy]
  dsimp only
  rw [hText, hKitty]

end Sys2Proof.Machine
end

section
/-! PROOFS. The load of the Kitty and the rows of keys (R443 to R447, R454 to R456). -/
namespace Sys2Proof.Machine
open Sys2Proof Host

/-! ### KITTY_LOAD (R445, R447) -/

/-- The key part as a load begins (R445, R447). -/
def loadEmpty (s : State) : State := updKitty (fun k => { k with
  loadDone := true, slots := [], writesTotal := 0, credit := 256 * creditPs, creditAt := s.score.opPs, nextSeq := max 1 k.nextSeq }) s
/-- The banks that hold at least an image's head. -/
def bankHeads (s : State) : List Nat := ([0, 1] : List Nat).filter fun b => decide ((flashBank s b).length ≥ 64)

theorem bankHeads_none {s : State} (hFirst : s.flash.bank0.length < 64) (hSecond : s.flash.bank1.length < 64) : bankHeads s = [] := by
  simp [bankHeads, flashBank, hFirst, hSecond]
theorem bankHeads_first {s : State} (hFirst : 64 ≤ s.flash.bank0.length) (hSecond : s.flash.bank1.length < 64) : bankHeads s = [0] := by
  simp [bankHeads, flashBank, hFirst, Nat.not_le.mpr hSecond]
theorem length_of_imageValid {key img : Bytes} {s : State} (h : imageValid key img s = true) : img.length = 139856 := by
  unfold imageValid at h
  simp only [Bool.and_eq_true, beq_iff_eq] at h
  exact h.1.1.1.1

section
variable {t : Nat} {s x : State} (hBegin : begin_ t s = x) (hWaits : x.kitty.loadDone = false) (hRuns : running x = true) (hStage : 7 ≤ x.boot.stage)
  (hHalt : x.boot.stage ≠ 15)
include hBegin hWaits hRuns hStage hHalt

theorem kittyLoad_noKey (hKey : wrapKey x = none) : kittyLoad t s = loadEmpty x := by
  unfold kittyLoad
  rw [hBegin]
  dsimp only
  rw [hWaits, hRuns, hKey, if_neg (by simp; omega)]
  rfl
theorem kittyLoad_noImage (hKey : wrapKey x ≠ none) (hHeads : bankHeads x = []) : ∃ n a b, kittyLoad t s =
    raise 13 1 (updKitty (fun k => { k with nextSeq := n, erases0 := a, erases1 := b }) (loadEmpty x)) := by
  obtain ⟨key, hSome⟩ := Option.ne_none_iff_exists'.mp hKey
  unfold kittyLoad
  rw [hBegin]
  dsimp only
  unfold bankHeads at hHeads
  rw [hWaits, hRuns, hSome, if_neg (by simp; omega), hHeads]
  exact ⟨_, _, _, rfl⟩
theorem kittyLoad_firstBank {key : Bytes} (hKey : wrapKey x = some key) (hHeads : bankHeads x = [0]) (hValid : imageValid key x.flash.bank0 x = true) :
    ∃ n a b c, kittyLoad t s = raise 13 0 (updKitty (fun k => { k with
      loaded := true, slots := slotsOf (imageText key x.flash.bank0), writesTotal := fld x.flash.bank0 24 4, imageSeq := fld x.flash.bank0 16 8, imageBank := some 0
      credit := c, imageOp := x.score.opPs })
      (updKitty (fun k => { k with nextSeq := n, erases0 := a, erases1 := b }) (loadEmpty x))) := by
  unfold kittyLoad
  rw [hBegin]
  dsimp only
  unfold bankHeads at hHeads
  have hOk : ([0] : List Nat).filter (fun b => imageValid key (flashBank x b) x) = [0] := by
    simp [flashBank, hValid]
  rw [hWaits, hRuns, hKey, if_neg (by simp; omega), hHeads]
  dsimp only
  rw [hOk]
  exact ⟨_, _, _, _, rfl⟩

end

/-! ### The rows -/

/-- A command that starts at once and is refused with a hint leaves what the handler leaves, and the reply. -/
theorem runCmd_refusedWith {op : Nat} {q : Req} {s e : State} {h : Handler} {st d : Nat} (hStarts : startsAt op q s = true)
    (hRefuses : h q (started op q s) = .refuseWith st d e) (hBanks : banks e = banks (started op q s)) : runCmd op h q s = reply op q st d [] e := by
  have hStart := runCmdAt_starts (fun _ => h) hStarts
  obtain ⟨hPcie, hSpi⟩ := banks_of_base (base_reply op q st d [] e (startsAt_mirror hStarts))
  unfold runCmd
  rw [hStart]
  unfold startCmd
  simp only [forwardMirror_off _ (startsAt_mirror hStarts), startsAt_header hStarts, hRefuses, Bool.false_eq_true, if_false]
  rw [acceptGo_off]
  · rw [hPcie, show e.host.pcie = _ from congrArg Prod.fst hBanks]
    exact startsAt_pcie hStarts
  · rw [hSpi, show e.host.spi = _ from congrArg Prod.snd hBanks]
    exact startsAt_spi hStarts

theorem keyWrite_row {q : Req} {s : State} (hStarts : startsAt 0x0D00 q s = true)
    (hFits : fits q 40 [inF 0 2 0 4095, inF 2 1 0 3, rsvF 3 1, anyF 4 2, rsvF 6 2, anyF 8 32]) :
    let x := started 0x0D00 q s
    let p := q.params
    let n := fld p 0 2
    let per := (fld p 2 1).testBit 0
    let able : Prop := x.attest.advance = none ∧ x.attest.lc ≠ 4 ∧ (per = true → x.attest.lc ≠ 0)
    (x.kitty.loadDone = false → ∃ d, 1 ≤ d ∧ d ≤ 65535 ∧ exec (.keyWrite q) s = .next (reply 0x0D00 q 0x02 d [] { x with free := x.free + 1 })) ∧
    (x.kitty.loadDone = true → ¬ able → exec (.keyWrite q) s = .next (reply 0x0D00 q 0x13 x.attest.lc [] x)) ∧
    (x.kitty.loadDone = true → able → getKey n x.kitty.slots ≠ none → (fld p 2 1).testBit 1 = false → exec (.keyWrite q) s = .next (reply 0x0D00 q 0x12 0 [] x)) ∧
    (x.kitty.loadDone = true → able → getKey n x.kitty.slots = none ∨ (fld p 2 1).testBit 1 = true →
      ∃ t', exec (.keyWrite q) s = done 0x0D00 q (kcv (slice p 8 32) ++ leBytes 4 ((x.kitty.writesTotal + 1) % 2 ^ 32)) t' ∧
        plain t' = plain { nextTick x with kitty := keysWritten per (putKey n { label := fld p 4 2, key := slice p 8 32 } (nextTick x).kitty.slots) x }) := by
  intro x p n per able
  have hGoes := hKeyWrite_of (x := x) hFits (startsAt_mirror hStarts)
  dsimp only at hGoes
  rw [countWrite_kitty] at hGoes
  refine ⟨fun hBefore => ?_, fun hLoaded hUnable => ?_, fun hLoaded hAble hFull hKeep => ?_, fun hLoaded hAble hFree => ?_⟩
  · obtain ⟨d, hLow, hHigh, hHint⟩ := kittyReady_before hBefore
    exact ⟨d, hLow, hHigh, congrArg Outcome.next (runCmd_refusedWith hStarts (hGoes.trans hHint) rfl)⟩
  all_goals rw [kittyReady_after hLoaded] at hGoes
  · exact congrArg Outcome.next (runCmd_refused hStarts (hGoes.trans (keyAllowed_not hUnable)))
  all_goals rw [keyAllowed_of hAble] at hGoes
  · refine congrArg Outcome.next (runCmd_refused hStarts (hGoes.trans (refuseIf_true ?_)))
    rw [Option.isSome_iff_ne_none.mpr hFull, hKeep]
    rfl
  · have hOpen : ((getKey n x.kitty.slots).isSome && !(fld p 2 1).testBit 1) = false := by
      rcases hFree with hNone | hOver
      · rw [hNone]
        rfl
      · rw [hOver, Bool.not_true, Bool.and_false]
    exact ⟨_, runCmd_done_of_banks hStarts (hGoes.trans (refuseIf_not hOpen)) (banks_countWrite _ _ _ x), countWrite_plain _ _ _ x⟩

theorem keyErase_row {q : Req} {s : State} (hStarts : startsAt 0x0D01 q s = true) (hFits : fits q 4 (eraseFields q.params)) :
    let x := started 0x0D01 q s
    let p := q.params
    let per := (fld p 2 1).testBit 0
    let able : Prop := x.attest.advance = none ∧ x.attest.lc ≠ 4 ∧ (per = true → x.attest.lc ≠ 0)
    (x.kitty.loadDone = true → ¬ able → exec (.keyErase q) s = .next (reply 0x0D01 q 0x13 x.attest.lc [] x)) ∧
    (x.kitty.loadDone = true → able → ∃ t', exec (.keyErase q) s = done 0x0D01 q (zeros 4 ++ leBytes 4 ((x.kitty.writesTotal + 1) % 2 ^ 32)) t' ∧
      plain t' = plain { nextTick x with kitty := keysWritten per (if (fld p 2 1).testBit 1 = true then [] else delKey (fld p 0 2) (nextTick x).kitty.slots) x }) := by
  intro x p per able
  have hGoes := hKeyErase_of (x := x) hFits (startsAt_mirror hStarts)
  dsimp only at hGoes
  rw [countWrite_kitty] at hGoes
  refine ⟨fun hLoaded hUnable => ?_, fun hLoaded hAble => ?_⟩
  all_goals rw [kittyReady_after hLoaded] at hGoes
  · exact congrArg Outcome.next (runCmd_refused hStarts (hGoes.trans (keyAllowed_not hUnable)))
  · rw [keyAllowed_of hAble] at hGoes
    exact ⟨_, runCmd_done_of_banks hStarts hGoes (banks_countWrite _ _ _ x), countWrite_plain _ _ _ x⟩

theorem keyInfo_row {q : Req} {s : State} (hStarts : startsAt 0x0D02 q s = true)
    (hFits : fits q 4 [F 0 2 (fun v => decide (v ≤ 4095) || v == 0xFFFF), rsvF 2 2]) :
    let x := started 0x0D02 q s
    let n := fld q.params 0 2
    (x.kitty.loadDone = false → ∃ d, 1 ≤ d ∧ d ≤ 65535 ∧ exec (.keyInfo q) s = .next (reply 0x0D02 q 0x02 d [] { x with free := x.free + 1 })) ∧
    (x.kitty.loadDone = true → exec (.keyInfo q) s = done 0x0D02 q (keyInfoReply n x) x) := by
  intro x n
  have hGoes : hKeyInfo q x = kittyReady x (.done (keyInfoReply n x) x) := checked_of hFits
  refine ⟨fun hBefore => ?_, fun hLoaded => ?_⟩
  · obtain ⟨d, hLow, hHigh, hHint⟩ := kittyReady_before hBefore
    exact ⟨d, hLow, hHigh, congrArg Outcome.next (runCmd_refusedWith hStarts (hGoes.trans hHint) rfl)⟩
  · exact runCmd_done hStarts (hGoes.trans (kittyReady_after hLoaded)) rfl rfl

theorem persistWrite_row {s : State} {f l : Nat} (hAsked : s.kitty.persist = some (f, l)) (hIdle : s.kitty.writing = none) (hRuns : running s = true)
    {y : State} (hy : moveTo (min (l + 10000000000000) (f + 60000000000000)) { s with out := [] } = y) :
    (creditPs ≤ creditNow y → wrapKey y ≠ none → ∃ t' w, exec .persistWrite s = .next t' ∧ kept t' = kept s ∧ t'.kitty.writing = some w ∧ w.bank = nextBank s ∧ w.seq = s.kitty.nextSeq ∧
      t'.kitty.nextSeq = s.kitty.nextSeq + 1 ∧ t'.kitty.persist = (if l = y.now then some (l, l) else none) ∧ t'.kitty.credit = creditNow y - creditPs ∧ w.waits = s.score.writing.isSome ∧
      (s.score.writing = none → flashBank t' (nextBank s) = [] ∧ Output.flash "KITTY" w.image ∈ t'.out) ∧ (s.score.writing ≠ none → t'.flash = s.flash)) ∧
    (creditNow y < creditPs → s.kitty.deferred = false → ∃ t', exec .persistWrite s = .next t' ∧ causeStands 13 4 t' ∧ plain t' = plain { y with kitty := { y.kitty with deferred := true } }) := by
  have hGoes : exec .persistWrite s = .next (dueKitty y) := congrArg Outcome.next (persistWrite_due (s := { s with out := [] }) hAsked hIdle hRuns hy)
  have hKitty : y.kitty = s.kitty := by
    rw [← hy, moveTo_kitty]
  have hPage : y.score.writing = s.score.writing := by
    rw [← hy, moveTo_writing]
  have hFlash : y.flash = s.flash := by
    rw [← hy, moveTo_flash]
  have hBank : nextBank y = nextBank s := by
    unfold nextBank
    rw [hKitty]
  have hStill : y.kitty.persist = some (f, l) := (congrArg KittyPart.persist hKitty).trans hAsked
  refine ⟨fun hCredit hKey => ?_, fun hCredit hDeferred => ?_⟩
  · obtain ⟨w, hWrite, hPersist⟩ := dueKitty_starts hStill hCredit hKey
    obtain ⟨hWriting, hTo, hSeq, hWaits, hNext, -, hSpent, hBurns, hLeaves⟩ := hWrite
    rw [hPage] at hWaits hBurns hLeaves
    rw [hBank] at hTo hBurns
    rw [hKitty] at hSeq hNext
    rw [hFlash] at hLeaves
    exact ⟨_, w, hGoes, kept_of_event rfl hGoes, hWriting, hTo, hSeq, hNext, hPersist, hSpent, hWaits, hBurns, hLeaves⟩
  · have hDefers := dueKitty_defers hCredit ((congrArg KittyPart.deferred hKitty).trans hDeferred) ((congrArg KittyPart.writing hKitty).trans hIdle)
    exact ⟨_, hGoes.trans (congrArg Outcome.next hDefers), stands_raise_self 13 4 _ (by decide), plain_raise _ _ _⟩

theorem persistDone_row {t : Nat} {s : State} {w : KittyWrite} (hRuns : running s = true) (hWriting : (begin_ t s).kitty.writing = some w) :
    let x := begin_ t s
    (w.waits = true → ∀ ok, exec (.persistDone t ok) s = .next x) ∧
    (w.waits = false → ∃ t', exec (.persistDone t true) s = .next t' ∧ kept t' = kept x ∧ causeStands 13 2 t' ∧ t'.kitty.writing = none ∧ t'.kitty.imageSeq = w.seq ∧ t'.kitty.imageBank = some w.bank ∧
      flashBank t' w.bank = w.image) ∧
    (w.waits = false → ∃ t', exec (.persistDone t false) s = .next t' ∧ causeStands 13 3 t' ∧ kept t' = kept x ∧
      t'.kitty = { x.kitty with writing := none, persist := some (x.kitty.persist.elim (x.now, x.now) id) } ∧
      (x.score.waiting = [] → plain t' = plain { x with kitty := t'.kitty })) := by
  intro x
  have hGoes : ∀ ok, exec (.persistDone t ok) s = .next (persistDone t ok s) := fun ok => congrArg Outcome.next (if_pos hRuns)
  refine ⟨fun hWaits ok => (hGoes ok).trans (congrArg Outcome.next (persistDone_waits hWriting hWaits)), fun hFlash => ?_, fun hFlash => ?_⟩
  · have hRow := (hGoes true).trans (congrArg Outcome.next (persistDone_ends hWriting hFlash))
    rw [if_pos rfl] at hRow
    refine ⟨_, hRow, kept_row rfl hRow, stands_host (startPage_host _) (stands_raise_self 13 2 _ (by decide)), ?_, ?_, ?_, ?_⟩
    · rw [startPage_kittyPart, imageRead, raise_kitty]
      rfl
    · rw [startPage_kittyPart, imageRead, raise_kitty]
      rfl
    · rw [startPage_kittyPart, imageRead, raise_kitty]
      rfl
    · rw [startPage_bank]
      unfold flashBank
      rw [imageRead, raise_flash]
      exact flashBank_setBank _ _ _
  · have hRow := (hGoes false).trans (congrArg Outcome.next (persistDone_ends hWriting hFlash))
    rw [if_neg Bool.false_ne_true] at hRow
    have hPart : (startPage (imageBad x)).kitty = { x.kitty with writing := none, persist := some (x.kitty.persist.elim (x.now, x.now) id) } := by
      rw [startPage_kittyPart, imageBad, raise_kitty]
      rfl
    refine ⟨_, hRow, stands_host (startPage_host _) (stands_raise_self 13 3 _ (by decide)), kept_row rfl hRow, hPart, fun hNone => ?_⟩
    have hEmpty : (imageBad x).score.waiting = [] := by
      rw [imageBad, raise13_score]
      exact hNone
    rw [hPart, startPage_empty hEmpty]
    exact plain_raise _ _ _

theorem kittyLoad_row {t : Nat} {s x : State} (hBegin : begin_ t s = x) (hWaits : x.kitty.loadDone = false) (hRuns : running x = true)
    (hStage : 7 ≤ x.boot.stage) (hHalt : x.boot.stage ≠ 15) :
    (wrapKey x = none → exec (.kittyLoad t) s = .next (loadEmpty x)) ∧
    (wrapKey x ≠ none → x.flash.bank0.length < 64 → x.flash.bank1.length < 64 → ∃ t', exec (.kittyLoad t) s = .next t' ∧ kept t' = kept x ∧ causeStands 13 1 t' ∧ t'.kitty.loadDone = true ∧
      t'.kitty.slots = [] ∧ t'.kitty.loaded = x.kitty.loaded) ∧
    (∀ k, wrapKey x = some k → imageValid k x.flash.bank0 x = true → x.flash.bank1.length < 64 → ∃ t', exec (.kittyLoad t) s = .next t' ∧ kept t' = kept x ∧ causeStands 13 0 t' ∧
      t'.kitty.loaded = true ∧ t'.kitty.slots = slotsOf (imageText k x.flash.bank0) ∧ t'.kitty.imageBank = some 0 ∧ t'.kitty.imageSeq = fld x.flash.bank0 16 8) := by
  have hKept : ∀ {z : State}, exec (.kittyLoad t) s = .next z → kept z = kept x := fun hRow => by
    rw [← hBegin]
    exact kept_row rfl hRow
  refine ⟨fun hNone => ?_, fun hKey hFirst hSecond => ?_, fun k hKey hValid hSecond => ?_⟩
  · exact congrArg Outcome.next (kittyLoad_noKey hBegin hWaits hRuns hStage hHalt hNone)
  · obtain ⟨n, a, b, hLoads⟩ := kittyLoad_noImage hBegin hWaits hRuns hStage hHalt hKey (bankHeads_none hFirst hSecond)
    have hRow : exec (.kittyLoad t) s = _ := congrArg Outcome.next hLoads
    refine ⟨_, hRow, hKept hRow, stands_raise_self 13 1 _ (by decide), ?_⟩
    rw [raise_kitty]
    exact ⟨rfl, rfl, rfl⟩
  · have hLong := length_of_imageValid hValid
    obtain ⟨n, a, b, c, hLoads⟩ := kittyLoad_firstBank hBegin hWaits hRuns hStage hHalt hKey (bankHeads_first (by omega) hSecond) hValid
    have hRow : exec (.kittyLoad t) s = _ := congrArg Outcome.next hLoads
    refine ⟨_, hRow, hKept hRow, stands_raise_self 13 0 _ (by decide), ?_⟩
    simp only [raise_kitty, updKitty_kitty, and_self]

theorem retentionRewrite_row {s y : State} {b : Nat} (hRuns : running s = true) (hImage : s.kitty.imageBank = some b) (hIdle : s.kitty.writing = none)
    (hy : moveTo (s.now + (s.kitty.imageOp + retentionPs - s.score.opPs)) { s with out := [] } = y) (hCredit : creditPs ≤ creditNow y) (hKey : wrapKey y ≠ none) :
    ∃ t', exec .retentionRewrite s = .next t' ∧ kept t' = kept s ∧ t'.kitty.writing.isSome = true ∧ t'.kitty.persist = s.kitty.persist := by
  obtain ⟨body, hGoes⟩ := retentionRewrite_due (s := { s with out := [] }) hRuns hImage hIdle rfl rfl rfl hy hKey
  have hRow : exec .retentionRewrite s = _ := congrArg Outcome.next hGoes
  obtain ⟨w, hWrite, -⟩ := dueImage_starts (body := body) hCredit hKey
  refine ⟨_, hRow, kept_of_event rfl hRow, ?_, rfl⟩
  rw [updKitty_kitty]
  exact Option.isSome_of_eq_some hWrite.writing

/-- Settles O44, row by row. -/
theorem keysAndImages : Obligations.KeysAndImages := by
  unfold Obligations.KeysAndImages
  refine ⟨?write, ?erase, ?info, ?persist, ?done, ?accrue, ?retention, ?load⟩
  case write =>
    intro q s hStarts hFits x p n per able y per'
    exact keyWrite_row hStarts hFits
  case erase =>
    intro q s hStarts hFits x p per able y per' l
    have hRow := keyErase_row hStarts hFits
    dsimp only at hRow
    rw [nextTick_kitty] at hRow
    exact hRow
  case info =>
    intro q s hStarts hFits x n
    obtain ⟨hBefore, hAfter⟩ := keyInfo_row hStarts hFits
    exact ⟨hBefore, fun hLoaded => ⟨_, hAfter hLoaded, keyInfoReply_fields _ _⟩⟩
  case persist =>
    intro s f l hAsked hIdle hRuns y bank
    exact persistWrite_row hAsked hIdle hRuns (y := y) rfl
  case done =>
    intro t s w hRuns x hWriting
    exact persistDone_row hRuns hWriting
  case accrue =>
    intro s hRuns hFull y
    refine ⟨fun hDeferred => ?_, fun hDeferred hIdle hAsked hCredit hKey => ?_⟩
    · exact congrArg Outcome.next (creditAccrue_free (s := { s with out := [] }) (y := y) (n := s.now) hRuns rfl (creditNow_of rfl rfl) hFull rfl hDeferred)
    · have hRow : exec .creditAccrue s = .next (dueKitty y) :=
        congrArg Outcome.next (creditAccrue_starts (s := { s with out := [] }) (y := y) (n := s.now) hRuns rfl (creditNow_of rfl rfl) hFull rfl hDeferred hIdle hAsked)
      obtain ⟨⟨f, l⟩, hSome⟩ := Option.ne_none_iff_exists'.mp hAsked
      have hStill : y.kitty.persist = some (f, l) := (congrArg KittyPart.persist (moveTo_kitty _ _)).trans hSome
      obtain ⟨w, hWrite, -⟩ := dueKitty_starts hStill hCredit hKey
      exact ⟨_, hRow, kept_of_event rfl hRow, Option.isSome_of_eq_some hWrite.writing, hWrite.deferred⟩
  case retention =>
    intro s b hRuns hImage hIdle y hCredit hKey
    exact retentionRewrite_row hRuns hImage hIdle (y := y) rfl hCredit hKey
  case load =>
    intro t s x hWaits hRuns hStage hHalt
    exact kittyLoad_row (x := x) rfl hWaits hRuns hStage hHalt

end Sys2Proof.Machine
end

section
/-! PROOFS. Life cycle, quotes and measurements (R429 to R432, R448 to R451, R457 to R460). -/
namespace Sys2Proof.Machine
open Sys2Proof Host

theorem nextTick_attest (s : State) : (nextTick s).attest = s.attest := moveTo_attest _ s

theorem banks_addWait (w : Wait) (s : State) : banks (addWait w s) = banks s := rfl

/-! ### LC_STATUS (R457) -/

theorem lcStatusReply_fields (x : State) : fld (lcStatusReply x) 0 1 = x.attest.lc % 256 ∧ (fld (lcStatusReply x) 1 1).testBit 0 = x.attest.advance.isSome ∧
    (fld (lcStatusReply x) 1 1).testBit 1 = debugOpen x ∧ fld (lcStatusReply x) 2 1 = x.attest.advance.getD 0xFF % 256 ∧
    fld (lcStatusReply x) 3 1 = rootsBurned x % 256 := by
  unfold lcStatusReply
  dsimp only
  simp only [List.append_assoc, fld_append_right, fld_le_here, leBytes_length, Nat.reduceLeDiff, Nat.reduceSub]
  exact ⟨by norm_num, (testBit_field (n := 1) _ (by decide)).trans (testBit_packBits _ 0),
    (testBit_field (n := 1) _ (by decide)).trans (testBit_packBits _ 1), by norm_num, by norm_num⟩

/-! ### LC_ADVANCE and its end (R431, R432, R458) -/

/-- A chip that takes the next tick's zeroising and waits for the advance (R431). -/
def advanceBegun (q : Req) (x : State) : State :=
  addWait { key := .lcAdvance, opcode := 0x0D11, req := q } (updAttest (fun a => { a with advance := some (fld q.params 0 1) }) (zeroise (nextTick x)))
theorem hLcAdvance_of {q : Req} {x : State} (hFits : fits q 8 (advanceFields q.params)) (hOwn : isMirrored q = false) : hLcAdvance q x =
    refuseIf (x.attest.advance.isSome || x.attest.lc == 4 || (fld q.params 0 1 != x.attest.lc + 1 && fld q.params 0 1 != 4)) stBadState 0
      (.later (advanceBegun q x)) := (checked_of hFits).trans (noMirror_of hOwn)
theorem lcAdvance_refusal (x : State) (t : Nat) : (x.attest.advance.isSome || x.attest.lc == 4 || (t != x.attest.lc + 1 && t != 4)) = false ↔
    x.attest.advance = none ∧ x.attest.lc ≠ 4 ∧ (t = x.attest.lc + 1 ∨ t = 4) := by
  simp [and_assoc, or_iff_not_imp_left]
theorem kept_advanceBegun (q : Req) (x : State) : kept (advanceBegun q x) = kept x := by
  unfold advanceBegun
  rw [kept_addWait]
  exact (kept_zeroise _).trans (kept_nextTick x)
theorem banks_zeroise (s : State) : banks (zeroise s) = banks s := rfl
theorem banks_advanceBegun (q : Req) (x : State) : banks (advanceBegun q x) = banks x := by
  unfold advanceBegun
  rw [banks_addWait]
  exact (banks_zeroise _).trans (banks_nextTick x)
theorem nextTick_host (s : State) : (nextTick s).host = s.host := moveTo_host _ s
theorem zeroise_host (s : State) : (zeroise s).host = s.host := rfl
theorem zeroise_attest (s : State) : (zeroise s).attest = s.attest := rfl
theorem advanceBegun_attest (q : Req) (x : State) : (advanceBegun q x).attest = { x.attest with advance := some (fld q.params 0 1) } := by
  have hPart : (advanceBegun q x).attest = { (zeroise (nextTick x)).attest with advance := some (fld q.params 0 1) } := rfl
  rw [hPart, zeroise_attest, nextTick_attest]
theorem advanceBegun_waits (q : Req) (x : State) : (advanceBegun q x).host.waits = x.host.waits ++ [{ key := .lcAdvance, opcode := 0x0D11, req := q }] := by
  have hPart : (advanceBegun q x).host.waits = (zeroise (nextTick x)).host.waits ++ [{ key := .lcAdvance, opcode := 0x0D11, req := q }] := rfl
  rw [hPart, zeroise_host, nextTick_host]
/-- No key of a consumer is left (R431). -/
theorem zeroise_keys (s : State) : (∀ r, r ∈ (zeroise s).ntp.insts → r.previous = {} ∧ r.current = {} ∧ r.next = {}) ∧ (∀ e, e ∈ (zeroise s).ptp.sas → e.2.key = []) := by
  refine ⟨fun r hMem => ?_, fun e hMem => ?_⟩
  · obtain ⟨v, -, rfl⟩ := List.mem_map.mp hMem
    exact ⟨rfl, rfl, rfl⟩
  · obtain ⟨v, -, rfl⟩ := List.mem_map.mp hMem
    rfl

/-- What the end of an advance that burns the state row leaves: the row, its cause and the reply. -/
theorem advanceReply_burns (t pos : Nat) (s : State) : causeStands 13 5 (advanceReply t pos s) ∧
    (advanceReply t pos s).fuse = { s.fuse with rows := s.fuse.rows.set (t - 1) 0xFF } := by
  unfold advanceReply
  dsimp only
  refine ⟨stands_finishWait _ _ _ _ (stands_occur _ _ (stands_raise_self 13 5 _ (by decide))), ?_⟩
  have hReplied := of_replied (·.fuse) (fun _ => rfl) (fun _ _ _ _ _ => rfl)
    (repliedFrom_finishWait .lcAdvance stDone 0 (leBytes 1 pos ++ zeros 3)
      (occur 0x2F t (raise 13 5 { s with fuse := { s.fuse with rows := s.fuse.rows.set (t - 1) 0xFF } })))
  refine hReplied.trans ?_
  dsimp only
  rw [occur_fuse, raise_fuse]
theorem setRoot_fuse {t : Nat} {f : RootBank → RootBank} {s : State} {r : RootBank} (h : s.fuse.roots[t - 1]? = some r) :
    (setRoot t f (useFree s)).fuse = { s.fuse with roots := s.fuse.roots.set (t - 1) (f r) } := by
  have hRoots : upd s.fuse.roots (t - 1) f = s.fuse.roots.set (t - 1) (f r) := upd_of_get h
  rw [← hRoots]
  rfl

section
variable {t k : Nat} {a b : Bool} {s : State} (hAdvance : (begin_ t s).attest.advance = some k) (hWaits : waitsFor .lcAdvance (begin_ t s) = true)
include hAdvance hWaits

theorem advanceDone_scrap (hScrap : k = 4) : advanceDone t a b s = advanceReply 4 0xFF (begin_ t s) := by
  unfold advanceDone
  dsimp only
  rw [hAdvance, hWaits]
  exact if_pos hScrap

/-- The root that an advance draws. -/
def drawnRoot (x : State) : Bytes := beBytes 32 (freeVal x % 2 ^ 256)
/-- An advance to a state whose root is not burned yet: its first position, or the spare where that fails. -/
theorem advanceDone_burns {r : RootBank} (hNext : k ≤ 3) (hBank : (begin_ t s).fuse.roots[k - 1]? = some r) (hBlank : bankRoot r = none) : advanceDone t a b s =
    let x := begin_ t s
    if a && !r.abandoned then advanceReply k 0 (setRoot k (fun b => { b with first := some (drawnRoot x) }) (useFree x))
    else if b then advanceReply k 1 (setRoot k (fun b => { b with abandoned := true, spare := some (drawnRoot x) }) (useFree x))
    else finishWait .lcAdvance stInternal (freeVal x % 65536) [] (setRoot k (fun b => { b with abandoned := true }) (useFree x)) := by
  unfold advanceDone
  dsimp only
  rw [hAdvance, hWaits]
  dsimp only
  rw [if_neg (by omega), nth_of_get hBank, hBlank]
  rfl

end

theorem advanceDone_row {t k : Nat} {a b : Bool} {s : State} {r : RootBank} (hAdvance : (begin_ t s).attest.advance = some k)
    (hWaits : waitsFor .lcAdvance (begin_ t s) = true) (hNext : k ≤ 3) (hBank : (begin_ t s).fuse.roots[k - 1]? = some r) (hBlank : bankRoot r = none) :
    let x := begin_ t s
    (r.abandoned = false → a = true → ∃ t' root, exec (.advanceDone t a b) s = .next t' ∧ kept t' = kept x ∧ causeStands 13 5 t' ∧
      t'.fuse = { x.fuse with rows := x.fuse.rows.set (k - 1) 0xFF, roots := x.fuse.roots.set (k - 1) { r with first := some root } } ∧ root.length = 32) ∧
    (a = false ∨ r.abandoned = true → b = true → ∃ t' root, exec (.advanceDone t a b) s = .next t' ∧ kept t' = kept x ∧ causeStands 13 5 t' ∧
      t'.fuse = { x.fuse with rows := x.fuse.rows.set (k - 1) 0xFF, roots := x.fuse.roots.set (k - 1) { r with abandoned := true, spare := some root } }) ∧
    (a = false → b = false → ∃ t', exec (.advanceDone t a b) s = .next t' ∧ kept t' = kept x ∧
      t'.fuse = { x.fuse with roots := x.fuse.roots.set (k - 1) { r with abandoned := true } }) := by
  intro x
  have hRow : exec (.advanceDone t a b) s = _ := congrArg Outcome.next (advanceDone_burns (a := a) (b := b) hAdvance hWaits hNext hBank hBlank)
  dsimp only at hRow
  refine ⟨fun hWhole hFirst => ?_, fun hFails hSpare => ?_, fun hFails hNone => ?_⟩
  · rw [if_pos (by rw [hFirst, hWhole]; rfl)] at hRow
    obtain ⟨hCause, hFuse⟩ := advanceReply_burns k 0 (setRoot k (fun b => { b with first := some (drawnRoot x) }) (useFree x))
    rw [setRoot_fuse hBank] at hFuse
    exact ⟨_, drawnRoot x, hRow, kept_row rfl hRow, hCause, hFuse, beBytes_length _ _⟩
  · have hOff : (a && !r.abandoned) = false := by
      rcases hFails with hFirst | hGone
      · rw [hFirst, Bool.false_and]
      · rw [hGone, Bool.not_true, Bool.and_false]
    rw [hOff, if_neg Bool.false_ne_true, if_pos hSpare] at hRow
    obtain ⟨hCause, hFuse⟩ := advanceReply_burns k 1 (setRoot k (fun b => { b with abandoned := true, spare := some (drawnRoot x) }) (useFree x))
    rw [setRoot_fuse hBank] at hFuse
    exact ⟨_, drawnRoot x, hRow, kept_row rfl hRow, hCause, hFuse⟩
  · rw [if_neg (by rw [hFails]; exact Bool.false_ne_true), if_neg (by rw [hNone]; exact Bool.false_ne_true)] at hRow
    refine ⟨_, hRow, kept_row rfl hRow, ?_⟩
    exact (of_replied (·.fuse) (fun _ => rfl) (fun _ _ _ _ _ => rfl) (repliedFrom_finishWait _ _ _ _ _)).trans (setRoot_fuse hBank)

/-! ### Quotes (R448 to R451, R459) -/

theorem edEncode_length (a : EdPoint) : (edEncode a).length = 32 := leBytes_length 32 _
theorem edSign_length (seed m : Bytes) : (edSign seed m).length = 64 := by
  unfold edSign
  dsimp only
  rw [List.length_append, edEncode_length, leBytes_length]
theorem quoteSign_length (body : Bytes) (s : State) : (quoteSign body s).length = 64 := edSign_length _ _

theorem attestQuote_refusal (x : State) : (x.attest.lc == 0 || x.attest.lc == 4 || x.attest.advance.isSome) = false ↔
    x.attest.lc ≠ 0 ∧ x.attest.lc ≠ 4 ∧ x.attest.advance = none := by
  simp [and_assoc]
/-- The end of a wait of which it is the only one: the reply to its packet. -/
theorem finishWait_only {key : WaitKey} {s : State} {w : Wait} (hOne : s.host.waits = [w]) (hKey : w.key = key) (hLoud : w.muted = false) (st d : Nat) (data : Bytes) :
    finishWait key st d data s = reply w.opcode w.req st d data { s with host := { s.host with waits := [] } } := by
  have hFound : s.host.waits.find? (fun v => v.key == key) = some w := by
    rw [hOne, List.find?_cons_of_pos (by rw [hKey]; exact beq_self_eq_true key)]
  unfold finishWait
  rw [hFound]
  dsimp only
  rw [hOne, hLoud, List.erase_cons_head]
  rfl
theorem quoteSigned_row {t : Nat} {s : State} {w : Wait} (hRuns : running s = true) (hOne : (begin_ t s).host.waits = [w]) (hKey : w.key = .quote) (hLoud : w.muted = false)
    (hLong : w.data.length = 688) :
    let x := begin_ t s
    ∃ t', exec (.quoteSigned t) s = .next t' ∧ kept t' = kept x ∧ t'.host.waits = [] ∧ (usesSlot w.req = true → slotOf w.req < x.host.slots.length →
      ∃ r, t'.host.slots[slotOf w.req]? = some r ∧ r.status = 0 ∧ r.data = w.data ++ quoteSign w.data x) := by
  intro x
  have hFound : x.host.waits.find? (fun v => v.key == .quote) = some w := by
    rw [hOne, List.find?_cons_of_pos (by rw [hKey]; rfl)]
  have hGoes : quoteSigned t s = finishWait .quote stDone 0 (w.data ++ quoteSign w.data x) (bump (64 * 13 + 34) x) := by
    unfold quoteSigned
    dsimp only
    rw [show begin_ t s = x from rfl, hFound]
  have hRow : exec (.quoteSigned t) s = .next (quoteSigned t s) := congrArg Outcome.next (if_pos hRuns)
  rw [hGoes] at hRow
  have hData : (w.data ++ quoteSign w.data x).length % 4 = 0 := by
    rw [List.length_append, hLong, quoteSign_length]
  refine ⟨_, hRow, kept_row rfl hRow, ?_, fun hUses hSlot => ?_⟩
  · have hStill : (bump (64 * 13 + 34) x).host.waits = [w] := hOne
    rw [finishWait_waits, hStill, answeredWaits_single hKey]
  · rw [finishWait_only (s := bump (64 * 13 + 34) x) hOne hKey hLoud]
    exact ⟨_, slot_reply stDone 0 hData hUses hSlot, rfl, rfl⟩

/-! ### ATTEST_MEASUREMENTS (R437, R460) -/

/-- The register and its count after an extension at the next tick (R437, R460). -/
def extended (r : Nat) (d : Bytes) (x : State) : State :=
  raise 13 6 (updAttest (fun a => if r = 6 then { a with mr6Count := (a.mr6Count + 1) % 2 ^ 32 } else { a with mr7Count := (a.mr7Count + 1) % 2 ^ 32 })
    (refreshQuotes (nextTick x) (extend r d (nextTick x))))
theorem hAttestMeasurements_reads {q : Req} {x : State} (hFits : fits q 52 (measureFields q.params)) (hRead : fld q.params 0 1 = 0) :
    hAttestMeasurements q x = .done (measurementsReply x) x := by
  refine (checked_of hFits).trans ?_
  rw [hRead]
  rfl
theorem hAttestMeasurements_extends {q : Req} {x : State} (hFits : fits q 52 (measureFields q.params)) (hExtend : fld q.params 0 1 = 1) :
    hAttestMeasurements q x = .done (measurementsReply (extended (fld q.params 1 1) (slice q.params 4 48) x)) (extended (fld q.params 1 1) (slice q.params 4 48) x) := by
  refine (checked_of hFits).trans ?_
  rw [hExtend]
  rfl
theorem extended_attest (r : Nat) (d : Bytes) {x : State} {m : Bytes} (hRegister : x.attest.mrs[r]? = some m) :
    (extended r d x).attest = if r = 6 then { x.attest with mrs := x.attest.mrs.set r (sha384 (m ++ d)), mr6Count := (x.attest.mr6Count + 1) % 2 ^ 32 }
      else { x.attest with mrs := x.attest.mrs.set r (sha384 (m ++ d)), mr7Count := (x.attest.mr7Count + 1) % 2 ^ 32 } := by
  have hSet : upd (nextTick x).attest.mrs r (fun m => sha384 (m ++ d)) = x.attest.mrs.set r (sha384 (m ++ d)) := by
    rw [nextTick_attest]
    exact upd_of_get hRegister
  unfold extended
  rw [raise_attest, ← hSet, ← nextTick_attest x]
  rfl
theorem banks_extended (r : Nat) (d : Bytes) (x : State) : banks (extended r d x) = banks x := (banks_raise 13 6 _).trans (banks_nextTick x)
theorem kept_extended (r : Nat) (d : Bytes) (x : State) : kept (extended r d x) = kept x := by
  unfold extended
  rw [kept_raise, kept_updAttest _ _ (by split <;> rfl), kept_refreshQuotes, kept_extend, kept_nextTick]

/-- Settles O45, row by row. -/
theorem lifeCycleAndQuotes : Obligations.LifeCycleAndQuotes := by
  unfold Obligations.LifeCycleAndQuotes
  refine ⟨?status, ?advance, ?done, ?quote, ?signed, ?measure⟩
  case status =>
    intro q s hStarts hFits x
    exact ⟨_, runCmd_done (h := hLcStatus) hStarts (checked_of hFits) rfl rfl, lcStatusReply_fields x⟩
  case advance =>
    intro q s hStarts hFits x t able
    have hGoes := hLcAdvance_of (x := x) hFits (startsAt_mirror hStarts)
    refine ⟨fun hUnable => ?_, fun hAble => ?_⟩
    · exact congrArg Outcome.next (runCmd_refused hStarts (hGoes.trans (refuseIf_true
        (Bool.eq_true_of_not_eq_false fun hOff => hUnable ((lcAdvance_refusal x t).mp hOff)))))
    · have hRow := runCmd_later_of_banks hStarts (hGoes.trans (refuseIf_not ((lcAdvance_refusal x t).mpr hAble))) (banks_advanceBegun q x)
      obtain ⟨hInsts, hSas⟩ := zeroise_keys (nextTick x)
      refine ⟨_, congrArg Outcome.next hRow, kept_advanceBegun q x, advanceBegun_attest q x, rfl, rfl, rfl, rfl, hInsts, hSas, advanceBegun_waits q x⟩
  case done =>
    intro t k a b s r x hAdvance hWaits
    refine ⟨fun hScrap => ?_, fun _ hNext hBank hBlank hWhole hFirst => ?_, fun _ hNext hBank hBlank hFails hSpare => ?_, fun _ hNext hBank hBlank hFails hNone => ?_⟩
    · have hRow : exec (.advanceDone t a b) s = _ := congrArg Outcome.next (advanceDone_scrap hAdvance hWaits hScrap)
      exact ⟨_, hRow, kept_row rfl hRow, advanceReply_burns 4 0xFF x⟩
    · exact (advanceDone_row hAdvance hWaits hNext hBank hBlank).1 hWhole hFirst
    · exact (advanceDone_row hAdvance hWaits hNext hBank hBlank).2.1 hFails hSpare
    · exact (advanceDone_row hAdvance hWaits hNext hBank hBlank).2.2 hFails hNone
  case quote =>
    intro q s hStarts hFits x able y
    have hGoes : hAttestQuote q x = refuseIf (x.attest.lc == 0 || x.attest.lc == 4 || x.attest.advance.isSome) stLifecycle x.attest.lc
        (.later (addWait { key := .quote, opcode := 0x0D20, req := q, data := quoteBody (slice q.params 0 32) y } y)) := checked_of hFits
    refine ⟨fun hUnable => ?_, fun hAble => ?_⟩
    · exact congrArg Outcome.next (runCmd_refused hStarts (hGoes.trans (refuseIf_true
        (Bool.eq_true_of_not_eq_false fun hOff => hUnable ((attestQuote_refusal x).mp hOff)))))
    · exact congrArg Outcome.next (runCmd_later_of_banks hStarts (hGoes.trans (refuseIf_not ((attestQuote_refusal x).mpr hAble)))
        ((banks_addWait _ y).trans (banks_nextTick x)))
  case signed =>
    intro t s w hRuns x hOne hKey hLoud hOwn hLong
    exact quoteSigned_row hRuns hOne hKey hLoud hLong
  case measure =>
    intro q s hStarts hFits x p r
    refine ⟨fun hRead => ?_, fun m hExtend hRegister => ?_⟩
    · exact runCmd_done hStarts (hAttestMeasurements_reads (x := x) hFits hRead) rfl rfl
    · have hAttest := extended_attest r (slice p 4 48) hRegister
      refine ⟨_, _, runCmd_done_of_banks hStarts (hAttestMeasurements_extends (x := x) hFits hExtend) (banks_extended _ _ _), kept_extended r _ x,
        stands_raise_self 13 6 _ (by decide), ?_, fun hSix => ?_, fun hSeven => ?_, rfl⟩
      all_goals rw [hAttest]
      · split <;> rfl
      · rw [if_pos hSix]
      · rw [if_neg (by omega)]

end Sys2Proof.Machine
end

section
/-! PROOFS. The commands of the audio ports and groups (R473, R474, R480 to R485). -/
namespace Sys2Proof.Machine
open Sys2Proof Host

/-! ### AUD_PORT_CONFIGURE and AUD_GROUP_CONFIGURE (R482, R483) -/

theorem audPortConfigure_row {q : Req} {s : State} (hStarts : startsAt 0x0E00 q s = true) :
    let x := started 0x0E00 q s
    let n := fld q.params 0 1
    fits q 64 (audFields x.shadow q.params) →
    (∀ g, groupOfPort x.work n = some g → (audGroup x g).running = true → exec (.audPortConfigure q) s = .next (reply 0x0E00 q 0x12 0 [] x)) ∧
    ((∀ g ∈ groupOfPort x.work n, (audGroup x g).running = false) →
      exec (.audPortConfigure q) s = done 0x0E00 q [] { x with shadow := { x.shadow with aud := x.shadow.aud.set n (audCfgOf q.params) } }) := by
  intro x n hFits
  obtain ⟨hWrites, hRefused⟩ := runCmd_writesUnless (h := hAudPortConfigure) hStarts (checked_of hFits)
  refine ⟨fun g hGroup hRun => hRefused ?_, fun hStill => hWrites ?_⟩
  · change portRuns x n = true
    unfold portRuns
    rw [hGroup]
    exact hRun
  · change portRuns x n = false
    unfold portRuns
    cases hGroup : groupOfPort x.work n with
    | none => rfl
    | some g => exact hStill g hGroup

/-! ### AUD_GROUP_START (R473, R484) -/

theorem nextTick_aud (s : State) : (nextTick s).aud = s.aud := moveTo_aud _ s
theorem nextTick_work (s : State) : (nextTick s).work = s.work := moveTo_work _ s
theorem groupReply_length (s : State) (p k : Nat) : (groupReply s p k).length = 24 := by
  unfold groupReply
  dsimp only
  split <;> simp
theorem groupReply_index (s : State) (p k : Nat) : fld (groupReply s p k) 0 8 = k % 2 ^ 64 := by
  unfold groupReply
  dsimp only
  rw [List.append_assoc]
  exact (fld_le_here 8 _ _).trans (by norm_num)

/-- A port has started over with its group, and keeps its queue, its latched events and its counters (R473). -/
structure Armed (r t : AudRun) : Prop where
  active : t.active = true
  begun : t.begun = false
  index : t.index = 0
  sched : t.sched = []
  fill : t.fill = none
  queue : t.queue = r.queue
  events : t.events = r.events
  underruns : t.underruns = r.underruns
  lateFrames : t.lateFrames = r.lateFrames
  overruns : t.overruns = r.overruns
  rxErrors : t.rxErrors = r.rxErrors

def armAll (ms : List Nat) (s : State) : State := ms.foldl (fun s p => armPort p s) s

theorem armPort_port (m p : Nat) (s : State) : (m ≠ p → (armPort m s).aud.ports[p]? = s.aud.ports[p]?) ∧
    (m = p → ∀ r, s.aud.ports[p]? = some r → ∃ t, (armPort m s).aud.ports[p]? = some t ∧ Armed r t) := by
  refine ⟨fun hOther => ?_, fun hSame r hPort => ?_⟩
  · exact (upd_get _ _ _ _).trans (if_neg hOther)
  · refine ⟨_, (upd_get _ _ _ _).trans ((if_pos hSame).trans (congrArg (Option.map _) hPort)), ?_⟩
    exact ⟨rfl, rfl, rfl, rfl, rfl, rfl, rfl, rfl, rfl, rfl, rfl⟩
/-- Starting over once more changes nothing of this. -/
theorem Armed.trans {r t u : AudRun} (h : Armed r t) (k : Armed t u) : Armed r u :=
  { k with
    queue := k.queue.trans h.queue, events := k.events.trans h.events, underruns := k.underruns.trans h.underruns
    lateFrames := k.lateFrames.trans h.lateFrames, overruns := k.overruns.trans h.overruns, rxErrors := k.rxErrors.trans h.rxErrors }
theorem armAll_other {ms : List Nat} {p : Nat} (hNot : p ∉ ms) (s : State) : (armAll ms s).aud.ports[p]? = s.aud.ports[p]? := by
  induction ms generalizing s with
  | nil => rfl
  | cons m ms ih =>
    obtain ⟨hHead, hTail⟩ := not_or.mp (fun h => hNot (List.mem_cons.mpr h))
    exact (ih hTail (armPort m s)).trans ((armPort_port m p s).1 (Ne.symm hHead))
theorem armAll_port {ms : List Nat} {p : Nat} (hMem : p ∈ ms) {s : State} {r : AudRun} (hPort : s.aud.ports[p]? = some r) :
    ∃ t, (armAll ms s).aud.ports[p]? = some t ∧ Armed r t := by
  induction ms generalizing s r with
  | nil => cases hMem
  | cons m ms ih =>
    change ∃ t, (armAll ms (armPort m s)).aud.ports[p]? = some t ∧ _
    by_cases hHead : m = p
    · obtain ⟨t, hArmed, hOnce⟩ := (armPort_port m p s).2 hHead r hPort
      by_cases hTail : p ∈ ms
      · obtain ⟨u, hAgain, hTwice⟩ := ih hTail hArmed
        exact ⟨u, hAgain, hOnce.trans hTwice⟩
      · exact ⟨t, (armAll_other hTail _).trans hArmed, hOnce⟩
    · obtain hSame | hTail := List.mem_cons.mp hMem
      · exact absurd hSame.symm hHead
      · exact ih hTail (((armPort_port m p s).1 hHead).trans hPort)
theorem armAll_only (ms : List Nat) (s : State) : ∃ l, armAll ms s = { s with aud := { s.aud with ports := l } } := by
  induction ms generalizing s with
  | nil => exact ⟨s.aud.ports, rfl⟩
  | cons m ms ih =>
    obtain ⟨l, hRest⟩ := ih (armPort m s)
    exact ⟨l, hRest⟩

/-- The first index that a group may start from (R473). -/
def firstStart (y : State) (ms : List Nat) : Int := ms.foldl (fun (m : Int) p => max m (periodAhead y p + (audCfg y p).runIn)) 0
/-- The members start over and the group runs from an index. -/
def groupStarted (g k : Nat) (ms : List Nat) (y : State) : State := updGroup g (fun _ => { running := true, start := k }) (armAll ms y)
theorem hAudGroupStart_of {q : Req} {x : State} (hFits : fits q 16 [inF 0 1 0 3, rsvF 1 7, anyF 8 8]) :
    let g := fld q.params 0 1
    let idx := fld q.params 8 8
    let ms := membersOf x.work g
    let first := firstStart (nextTick x) ms
    let k := if idx = 0 then first.toNat else idx
    hAudGroupStart q x = refuseIf ((audGroup x g).running || ms.isEmpty || ms.any (fun p => (audCfg x p).mode == 0)) stBadState 0
      (refuseIf (idx != 0 && decide ((idx : Int) < first)) stBadState 0
        (.done (groupReply (groupStarted g k ms (nextTick x)) (ms.headD 0) k) (groupStarted g k ms (nextTick x)))) := checked_of hFits
theorem groupStart_refusal (b : Bool) (ms : List Nat) (x : State) : (b || ms.isEmpty || ms.any (fun p => (audCfg x p).mode == 0)) = true ↔
    b = true ∨ ms = [] ∨ ∃ p ∈ ms, (audCfg x p).mode = 0 := by
  simp [or_assoc]
/-- An index is asked for that lies before the first possible one. -/
theorem tooEarly_iff (idx : Nat) (first : Int) : (idx != 0 && decide ((idx : Int) < first)) = true ↔ idx ≠ 0 ∧ (idx : Int) < first := by
  simp

theorem audGroupStart_row {q : Req} {s : State} (hStarts : startsAt 0x0E02 q s = true) (hFits : fits q 16 [inF 0 1 0 3, rsvF 1 7, anyF 8 8]) :
    let x := started 0x0E02 q s
    let g := fld q.params 0 1
    let idx := fld q.params 8 8
    let ms := membersOf x.work g
    let y := nextTick x
    let first := firstStart y ms
    let k := if idx = 0 then first.toNat else idx
    ((audGroup x g).running = true ∨ ms = [] ∨ (∃ p ∈ ms, (audCfg x p).mode = 0) → exec (.audGroupStart q) s = .next (reply 0x0E02 q 0x12 0 [] x)) ∧
    ((audGroup x g).running = false → ms ≠ [] → (∀ p ∈ ms, (audCfg x p).mode ≠ 0) → idx ≠ 0 → (idx : Int) < first →
      exec (.audGroupStart q) s = .next (reply 0x0E02 q 0x12 0 [] x)) ∧
    ((audGroup x g).running = false → ms ≠ [] → (∀ p ∈ ms, (audCfg x p).mode ≠ 0) → idx = 0 ∨ first ≤ idx →
      ∃ a data, exec (.audGroupStart q) s = done 0x0E02 q data { y with aud := a } ∧ data.length = 24 ∧ fld data 0 8 = k % 2 ^ 64 ∧
        (∀ r, x.aud.groups[g]? = some r → a.groups = x.aud.groups.set g { running := true, start := k }) ∧
        (∀ p, p ∉ ms → a.ports[p]? = x.aud.ports[p]?) ∧
        (∀ p r, p ∈ ms → x.aud.ports[p]? = some r → ∃ t, a.ports[p]? = some t ∧ Armed r t)) := by
  intro x g idx ms y first k
  have hGoes := hAudGroupStart_of (x := x) hFits
  dsimp only at hGoes
  have hOpen : (audGroup x g).running = false → ms ≠ [] → (∀ p ∈ ms, (audCfg x p).mode ≠ 0) →
      ((audGroup x g).running || ms.isEmpty || ms.any (fun p => (audCfg x p).mode == 0)) = false := fun hStopped hSome hModes =>
    Bool.eq_false_iff.mpr fun hOn => by
      obtain hRuns | hEmpty | ⟨p, hMem, hOff⟩ := (groupStart_refusal _ _ x).mp hOn
      · exact absurd hRuns (by rw [hStopped]; exact Bool.false_ne_true)
      · exact hSome hEmpty
      · exact hModes p hMem hOff
  refine ⟨fun hUnable => ?_, fun hStopped hSome hModes hAsked hEarly => ?_, fun hStopped hSome hModes hInTime => ?_⟩
  · exact congrArg Outcome.next (runCmd_refused hStarts (hGoes.trans (refuseIf_true ((groupStart_refusal _ _ x).mpr hUnable))))
  all_goals rw [refuseIf_not (hOpen hStopped hSome hModes)] at hGoes
  · exact congrArg Outcome.next (runCmd_refused hStarts (hGoes.trans (refuseIf_true ((tooEarly_iff idx first).mpr ⟨hAsked, hEarly⟩))))
  · have hNotEarly : (idx != 0 && decide ((idx : Int) < first)) = false := Bool.eq_false_iff.mpr fun hOn => by
      obtain ⟨hAsked, hEarly⟩ := (tooEarly_iff idx first).mp hOn
      obtain hFirst | hLate := hInTime
      · exact hAsked hFirst
      · omega
    replace hGoes := hGoes.trans (refuseIf_not hNotEarly)
    obtain ⟨l, hArms⟩ := armAll_only ms y
    have hOnly : groupStarted g k ms y = { y with aud := (groupStarted g k ms y).aud } := by
      unfold groupStarted
      rw [hArms]
      rfl
    have hBanks : banks (groupStarted g k ms y) = banks x := by
      rw [hOnly]
      exact banks_nextTick x
    have hRow := runCmd_done_of_banks hStarts hGoes hBanks
    have hPorts : (groupStarted g k ms y).aud.ports = (armAll ms y).aud.ports := rfl
    have hGroups : (groupStarted g k ms y).aud.groups = upd x.aud.groups g fun _ => { running := true, start := k } := by
      unfold groupStarted
      rw [hArms, ← nextTick_aud x]
      rfl
    have hRow' : exec (.audGroupStart q) s = done 0x0E02 q (groupReply (groupStarted g k ms y) (ms.headD 0) k) { y with aud := (groupStarted g k ms y).aud } := by
      rw [← hOnly]
      exact hRow
    refine ⟨_, _, hRow', groupReply_length _ _ _, groupReply_index _ _ _, fun r hGroup => ?_, fun p hNot => ?_, fun p r hMem hPort => ?_⟩
    · exact hGroups.trans (upd_of_get hGroup)
    · rw [hPorts, armAll_other hNot, nextTick_aud]
    · rw [hPorts]
      exact armAll_port hMem (by rw [nextTick_aud]; exact hPort)

/-! ### AUD_GROUP_STOP (R474, R484) -/

theorem hAudGroupStop_of {q : Req} {x : State} (hFits : fits q 16 [inF 0 1 0 3, rsvF 1 7, anyF 8 8]) :
    let g := fld q.params 0 1
    let idx := fld q.params 8 8
    let y := nextTick x
    let first := firstStop y g
    let k := if idx = 0 then first.toNat else idx
    let t := updGroup g (fun e => { e with stop := some k }) y
    hAudGroupStop q x = refuseIf (!(audGroup x g).running) stBadState 0 (refuseIf (idx != 0 && decide ((idx : Int) < first)) stBadState 0
      (.done (groupReply t (((membersOf y.work g).filter fun p => (audOf y p).active).headD 0) k) t)) := checked_of hFits
theorem audGroupStop_row {q : Req} {s : State} (hStarts : startsAt 0x0E03 q s = true) (hFits : fits q 16 [inF 0 1 0 3, rsvF 1 7, anyF 8 8]) :
    let x := started 0x0E03 q s
    let g := fld q.params 0 1
    let idx := fld q.params 8 8
    let y := nextTick x
    let first := firstStop y g
    let k := if idx = 0 then first.toNat else idx
    ((audGroup x g).running = false → exec (.audGroupStop q) s = .next (reply 0x0E03 q 0x12 0 [] x)) ∧
    ((audGroup x g).running = true → idx ≠ 0 → (idx : Int) < first → exec (.audGroupStop q) s = .next (reply 0x0E03 q 0x12 0 [] x)) ∧
    (∀ r, x.aud.groups[g]? = some r → r.running = true → idx = 0 ∨ first ≤ idx →
      ∃ data, exec (.audGroupStop q) s = done 0x0E03 q data { y with aud := { y.aud with groups := x.aud.groups.set g { r with stop := some k } } } ∧
        data.length = 24 ∧ fld data 0 8 = k % 2 ^ 64) := by
  intro x g idx y first k
  have hGoes := hAudGroupStop_of (x := x) hFits
  dsimp only at hGoes
  refine ⟨fun hStopped => ?_, fun hRuns hAsked hEarly => ?_, fun r hGroup hRuns hInTime => ?_⟩
  · exact congrArg Outcome.next (runCmd_refused hStarts (hGoes.trans (refuseIf_true (by rw [hStopped]; rfl))))
  · rw [refuseIf_not (by rw [hRuns]; rfl)] at hGoes
    exact congrArg Outcome.next (runCmd_refused hStarts (hGoes.trans (refuseIf_true ((tooEarly_iff idx first).mpr ⟨hAsked, hEarly⟩))))
  · have hGroupIs : audGroup x g = r := nth_of_get hGroup
    have hNotEarly : (idx != 0 && decide ((idx : Int) < first)) = false := Bool.eq_false_iff.mpr fun hOn => by
      obtain ⟨hAsked, hEarly⟩ := (tooEarly_iff idx first).mp hOn
      obtain hFirst | hLate := hInTime
      · exact hAsked hFirst
      · omega
    rw [refuseIf_not (by rw [hGroupIs, hRuns]; rfl)] at hGoes
    replace hGoes := hGoes.trans (refuseIf_not hNotEarly)
    have hRow := runCmd_done_of_banks hStarts hGoes (banks_nextTick x)
    have hSet : updGroup g (fun e => { e with stop := some k }) y = { y with aud := { y.aud with groups := x.aud.groups.set g { r with stop := some k } } } := by
      have hUpd := upd_of_get (f := fun e : GroupRun => { e with stop := some k }) hGroup
      rw [← hUpd, ← nextTick_aud x]
      rfl
    refine ⟨_, hSet ▸ hRow, groupReply_length _ _ _, groupReply_index _ _ _⟩

/-! ### AUD_STATUS (R485) -/

theorem audStatusReply_fields (x : State) (p : Nat) {r : AudRun} (hPort : x.aud.ports[p]? = some r) :
    (audStatusReply x p).length = 88 ∧ fld (audStatusReply x p) 0 1 = p % 256 ∧ fld (audStatusReply x p) 1 1 = audStateCode x p % 256 ∧
    fld (audStatusReply x p) 2 1 = ((groupOfPort x.work p).getD 0xFF) % 256 ∧ (fld (audStatusReply x p) 3 1).testBit 1 = r.rxLocked ∧
    (fld (audStatusReply x p) 3 1).testBit 2 = r.inUnder ∧ fld (audStatusReply x p) 4 2 = r.events % 65536 ∧
    fld (audStatusReply x p) 8 8 = (if r.begun then r.index else 0) % 2 ^ 64 ∧ fld (audStatusReply x p) 16 8 = r.underruns % 2 ^ 64 ∧
    fld (audStatusReply x p) 24 8 = r.lateFrames % 2 ^ 64 ∧ fld (audStatusReply x p) 32 8 = r.horizonDrops % 2 ^ 64 ∧
    fld (audStatusReply x p) 40 8 = r.overruns % 2 ^ 64 ∧ fld (audStatusReply x p) 48 8 = r.stopDiscards % 2 ^ 64 ∧
    fld (audStatusReply x p) 56 8 = r.rxErrors % 2 ^ 64 := by
  have hRun : audOf x p = r := nth_of_get hPort
  unfold audStatusReply
  dsimp only
  rw [hRun]
  simp only [List.append_assoc, fld_append_right, fld_le_here, leBytes_length, leInt_length, tsBytes_length, zeros_length, List.length_append,
    Nat.reduceLeDiff, Nat.reduceSub, Nat.reducePow, Nat.reduceAdd, and_true, true_and]
  exact ⟨(testBit_field (n := 1) _ (by decide)).trans (testBit_packBits _ 1), (testBit_field (n := 1) _ (by decide)).trans (testBit_packBits _ 2)⟩
theorem audStateCode_of {x : State} {p : Nat} {r : AudRun} (hPort : x.aud.ports[p]? = some r) :
    ((audCfg x p).mode = 0 → audStateCode x p = 0) ∧ ((audCfg x p).mode ≠ 0 → r.begun = false → audStateCode x p = 1) ∧
    (∀ g, groupOfPort x.work p = some g → (audCfg x p).mode ≠ 0 → r.begun = true → audStateCode x p = if r.index < (audGroup x g).start then 2 else 3) := by
  have hRun : audOf x p = r := nth_of_get hPort
  unfold audStateCode
  dsimp only
  rw [hRun]
  refine ⟨fun hOff => if_pos hOff, fun hOn hIdle => ?_, fun g hGroup hOn hBegun => ?_⟩
  · rw [if_neg hOn, hIdle]
    rfl
  · rw [if_neg hOn, hBegun, hGroup]
    rfl
theorem audStatus_row {q : Req} {s : State} {r : AudRun} (hStarts : startsAt 0x0E04 q s = true) (hFits : fits q 4 [inF 0 1 0 3, inF 1 1 0 1, rsvF 2 2]) :
    let x := started 0x0E04 q s
    let p := fld q.params 0 1
    x.aud.ports[p]? = some r → exec (.audStatus q) s = done 0x0E04 q (audStatusReply x p)
      (if fld q.params 1 1 = 1 then { x with aud := { x.aud with ports := x.aud.ports.set p { r with events := 0 } } } else x) := by
  intro x p hPort
  have hGoes : hAudStatus q x = .done (audStatusReply x p) (if fld q.params 1 1 = 1 then updAud p (fun a => { a with events := 0 }) x else x) := checked_of hFits
  have hSet : updAud p (fun a => { a with events := 0 }) x = { x with aud := { x.aud with ports := x.aud.ports.set p { r with events := 0 } } } := by
    have hUpd := upd_of_get (f := fun a : AudRun => { a with events := 0 }) hPort
    rw [← hUpd]
    rfl
  rw [← hSet]
  exact runCmd_done_of_banks hStarts hGoes (by split <;> rfl)

/-- Settles O46, command by command. -/
theorem audioCommands : Obligations.AudioCommands := by
  unfold Obligations.AudioCommands
  refine ⟨?port, ?group, ?start, ?stop, ?status⟩
  case port =>
    intro q s hStarts x p n hFits c
    exact audPortConfigure_row hStarts hFits
  case group =>
    intro q s hStarts x p g hFits
    obtain ⟨hWrites, hRefused⟩ := runCmd_writesUnless (h := hAudGroupConfigure) hStarts (checked_of hFits)
    exact ⟨hRefused, hWrites⟩
  case start =>
    intro q s hStarts hFits x g idx ms y first k
    obtain ⟨hUnable, hEarly, hGoes⟩ := audGroupStart_row hStarts hFits
    refine ⟨hUnable, hEarly, fun hStopped hSome hModes hInTime => ?_⟩
    obtain ⟨a, data, hRow, hLong, hIndex, hGroups, hOthers, hMembers⟩ := hGoes hStopped hSome hModes hInTime
    refine ⟨a, data, hRow, hLong, hIndex, hGroups, hOthers, fun p r hMem hPort => ?_⟩
    obtain ⟨t, hArmed, hActive, hBegun, hZero, hSched, hFill, hQueue, hEvents, hUnder, hLate, hOver, hErrors⟩ := hMembers p r hMem hPort
    exact ⟨t, hArmed, hActive, hBegun, hZero, hSched, hFill, hQueue, hEvents, hUnder, hLate, hOver, hErrors⟩
  case stop =>
    intro q s hStarts hFits x g idx y first k
    exact audGroupStop_row hStarts hFits
  case status =>
    intro q s r hStarts hFits x p hPort
    obtain ⟨hLong, hNumber, hState, hGroup, hRest⟩ := audStatusReply_fields x p hPort
    obtain ⟨hOff, hIdle, hBegun⟩ := audStateCode_of hPort
    refine ⟨_, audStatus_row hStarts hFits hPort, hLong, hNumber, fun hMode => ?_, fun hMode hNot => ?_, fun g hOf hMode hDoes => ?_, hGroup, hRest⟩
    all_goals rw [hState]
    · rw [hOff hMode]
    · rw [hIdle hMode hNot]
    · rw [hBegun g hOf hMode hDoes]
      split <;> rfl

end Sys2Proof.Machine
end

section
/-! PROOFS. What finished buffers, samples of a source and a choice of the selectors leave of the audio part and of the pair (R78, R88, R470, R509). -/
namespace Sys2Proof.Machine
open Sys2Proof Host

/-- The audio part and the pair, which the sources and the selectors only reach through their causes. -/
def sides (s : State) : AudPart × PairRun := (s.aud, s.pair)
/-- The audio part and the pair are as they were, and the outputs of the step and the causes that stood are still there. -/
def sideStays (r s : State) : Prop := follows r s ∧ sides s = sides r
theorem sideStays_aud {r s : State} (h : sideStays r s) : s.aud = r.aud := congrArg Prod.fst h.2
theorem sideStays_pair {r s : State} (h : sideStays r s) : s.pair = r.pair := congrArg Prod.snd h.2
theorem sides_of_plain {s t : State} (h : plain t = plain s) : sides t = sides s := Prod.ext (aud_of_plain h) (pair_of_plain h)

theorem sideStays_refl (s : State) : sideStays s s := ⟨follows_refl s, rfl⟩
theorem sideStays_trans {r s t : State} (h : sideStays s t) (k : sideStays r s) : sideStays r t := ⟨follows_trans h.1 k.1, h.2.trans k.2⟩
/-- A change of any part but the outputs, the causes, the audio part and the pair. -/
theorem sideStays_same {r s t : State} (h : sideStays r s) (hOut : t.out = s.out) (hCause : t.host.cause = s.host.cause) (hSides : sides t = sides s) : sideStays r t :=
  ⟨follows_same h.1 hOut hCause, hSides.trans h.2⟩
theorem sideStays_ite {c : Prop} [Decidable c] {r s t : State} (hs : sideStays r s) (ht : sideStays r t) : sideStays r (if c then s else t) := by
  split
  · exact hs
  · exact ht
theorem sideStays_foldl {α : Type} (f : State → α → State) (hStep : ∀ s a, sideStays s (f s a)) (l : List α) {r s : State} (h : sideStays r s) :
    sideStays r (l.foldl f s) := by
  induction l generalizing s with
  | nil => exact h
  | cons a l ih => exact ih (sideStays_trans (hStep s a) h)
theorem sideStays_emit (o : Output) {r s : State} (h : sideStays r s) : sideStays r (emit o s) := ⟨follows_emit o h.1, h.2⟩
theorem sideStays_raiseIdx (c b i : Nat) {r s : State} (h : sideStays r s) : sideStays r (raiseIdx c b i s) :=
  ⟨follows_raiseIdx c b i h.1, (sides_of_plain (plain_raiseIdx c b i s)).trans h.2⟩

/-! ### A buffer that is finished (R509) -/

theorem follows_hostDone {p n first last stamp : Nat} {late : Bool} (s : State) : follows s (hostDone p n first last false late 0 stamp s) := by
  have hSent : follows s (emit (.txStatus n last (0x80 + 0)) s) := follows_emit _ (follows_refl s)
  exact follows_ite (follows_refl s) (follows_ringEvent n (follows_same hSent rfl rfl))
theorem sideStays_bufferDone (p desc : Nat) {r s : State} (h : sideStays r s) : sideStays r (bufferDone p desc s) := by
  refine sideStays_trans ?_ h
  unfold bufferDone
  split
  · exact ⟨follows_hostDone s, sides_of_plain (plain_hostDone _ _ _ _ _ _ _ _ s)⟩
  · exact sideStays_refl s
theorem sideStays_buffersDone (p : Nat) (l : List AudBuf) {r s : State} (h : sideStays r s) : sideStays r (l.foldl (fun s b => bufferDone p b.desc s) s) :=
  sideStays_foldl _ (fun x b => sideStays_bufferDone p b.desc (sideStays_refl x)) l h

/-! ### The choice of the selectors (R88, R119) -/

theorem sides_of_offChoice {s t : State} (h : offChoice t = offChoice s) : sides t = sides s := by
  have hSides := congrArg sides h
  exact hSides
theorem sideStays_evalAll {r s : State} (h : sideStays r s) : sideStays r (evalAll s) := ⟨follows_newChoice h.1, (sides_of_offChoice (offChoice_evalAll s)).trans h.2⟩
theorem sideStays_judge (o : Nat) (j : Int) (u : Nat) {r s : State} (h : sideStays r s) : sideStays r (judge o j u s) :=
  ⟨follows_judge o j u h.1, (sides_of_offChoice (offChoice_judge o j u s)).trans h.2⟩
theorem sideStays_tTake (o : Nat) {r s : State} (h : sideStays r s) : sideStays r (tTake o s) :=
  ⟨follows_tTake o h.1, (sides_of_offChoice (offChoice_tTake o s)).trans h.2⟩
theorem sideStays_settleBound {r s : State} (h : sideStays r s) : sideStays r (settleBound s) :=
  ⟨follows_settleBound h.1, (sides_of_offChoice (offChoice_settleBound s)).trans h.2⟩
theorem sideStays_setRate (d : Nat) (v : Int) {r s : State} (h : sideStays r s) : sideStays r (setRate d v s) :=
  ⟨follows_setRate d v h.1, (sides_of_offChoice (offChoice_setRate d v s)).trans h.2⟩
theorem sideStays_applyCause (o cause : Nat) {r s : State} (h : sideStays r s) : sideStays r (applyCause o cause s) := by
  have hHeld : sides (holdClockFails o (updRef o (fun r => { r with cause := cause }) s)) = sides s := by
    unfold holdClockFails
    split <;> rfl
  have hTaken : sides (causeTaken o cause s) = sides s := by
    have hNew : sides (if newlyFails (refOf s o).cause cause then holdClockFails o (updRef o (fun r => { r with cause := cause }) s)
        else updRef o (fun r => { r with cause := cause }) s) = sides s := by
      split
      · exact hHeld
      · rfl
    unfold causeTaken staleMember
    split <;> exact hNew
  refine ⟨follows_applyCause o cause h.1, Eq.trans ?_ h.2⟩
  obtain ⟨f, hGoes | hGoes | hGoes⟩ := applyCause_cases o cause s
  · rw [hGoes, hTaken]
  · rw [hGoes]
    exact hTaken
  · rw [hGoes]
    exact (sides_of_plain (plain_raiseIdx _ _ _ _)).trans hTaken
theorem sideStays_setCheck (o k : Nat) (fails : Bool) {r s : State} (h : sideStays r s) : sideStays r (setCheck o k fails s) :=
  sideStays_ite h (sideStays_applyCause o _ h)
theorem sideStays_sourceSilent (o : Nat) {r s : State} (h : sideStays r s) : sideStays r (sourceSilent o s) :=
  sideStays_ite h (sideStays_applyCause o _ h)
theorem sideStays_updRef (o : Nat) (f : RefRun → RefRun) {r s : State} (h : sideStays r s) : sideStays r (updRef o f s) := sideStays_same h rfl rfl rfl
/-- What a port reports of its source's health stays out of the audio part and of the pair (R470). -/
theorem sideStays_apHealth (p : Nat) {r s : State} (h : sideStays r s) : sideStays r (apHealth p s) := by
  unfold apHealth
  exact sideStays_ite (sideStays_setCheck _ _ _ (sideStays_updRef _ _ h)) (sideStays_sourceSilent _ (sideStays_updRef _ _ h))

/-! ### A sample (R24, R82, R106, R601) -/

theorem sideStays_updDpll (d : Nat) (f : DpllRun → DpllRun) {r s : State} (h : sideStays r s) : sideStays r (updDpll d f s) := sideStays_same h rfl rfl rfl
theorem sideStays_loopSample (d : Nat) (e : Int) (stamp period : Nat) {r s : State} (h : sideStays r s) : sideStays r (loopSample d e stamp period s) := by
  unfold loopSample
  lift_lets
  extract_lets
  exact sideStays_updDpll d _ (sideStays_setRate d _ h)
theorem sideStays_fSample (d : Nat) (p : Sample) {r s : State} (h : sideStays r s) : sideStays r (fSample d p s) := by
  unfold fSample
  exact sideStays_updDpll d _ (sideStays_updDpll d _ (sideStays_loopSample d _ _ _ (sideStays_ite (sideStays_updDpll d _ h) h)))
theorem sideStays_clearParts {r s : State} (h : sideStays r s) : sideStays r (clearParts s) := by
  unfold clearParts
  lift_lets
  extract_lets gone left bound cleared
  have hCleared : sideStays r cleared := sideStays_ite h (sideStays_same h rfl rfl rfl)
  exact sideStays_ite (sideStays_same hCleared rfl rfl rfl) hCleared
theorem sideStays_clearDist {r s : State} (h : sideStays r s) : sideStays r (clearDist s) :=
  sideStays_ite h (sideStays_ite (sideStays_same h rfl rfl rfl) (sideStays_clearParts h))
theorem sideStays_tSample (o : Nat) (p : Sample) {r s : State} (h : sideStays r s) : sideStays r (tSample o p s) := by
  have hBuilt : ∀ {x : State} (f : DpllRun → DpllRun) (v : Int) (l : Nat), sideStays r x → sideStays r (startTrackBound o (updDpll 0 f (runSlew .tdpll v l x))) :=
    fun f v l hx => sideStays_same hx rfl rfl rfl
  unfold tSample
  lift_lets
  extract_lets time dated run build built rem err looped pointed bound
  have hDated : sideStays r dated := sideStays_same h rfl rfl rfl
  have hLooped : sideStays r looped := sideStays_loopSample 0 _ _ _ (sideStays_ite (hBuilt _ _ _ hDated) hDated)
  have hPointed : sideStays r pointed := sideStays_updDpll 0 _ (sideStays_updDpll 0 _ hLooped)
  exact sideStays_clearDist (sideStays_same hPointed rfl rfl rfl)
theorem sideStays_meldTake (o : Nat) (phase : Int) {r s : State} (h : sideStays r s) : sideStays r (meldTake o phase s) := by
  unfold meldTake
  split
  · exact h
  · exact sideStays_ite (sideStays_same h rfl rfl rfl) h
theorem sideStays_splitUpdate (d o : Nat) (byPhase : Bool) {r s : State} (h : sideStays r s) : sideStays r (splitUpdate d o byPhase s) := by
  unfold splitUpdate
  dsimp only
  refine sideStays_ite h (sideStays_foldl _ (fun x e => ?_) _ h)
  exact sideStays_ite (sideStays_refl x) (sideStays_same (sideStays_refl x) rfl rfl rfl)
theorem sideStays_originBound (before : Option Nat) (was : Bool) {r s : State} (h : sideStays r s) : sideStays r (originBound before was s) :=
  sideStays_ite (sideStays_same h rfl rfl rfl) h

/-- A sample that reaches its source's monitor leaves the audio part and the pair alone. -/
theorem sideStays_deliver (o : Nat) (p : Sample) (todFail : Bool) {r s : State} (h : sideStays r s) : sideStays r (deliver o p todFail s) := by
  unfold deliver
  lift_lets
  extract_lets run before pol cls at_ ep fresh count nom sample rawPhase measured timed jump limit unc cause noted taken counted wasTracking
    caused judged wasSel chosen compared follow pass entered looped
  have hNoted : sideStays r noted := sideStays_same h rfl rfl rfl
  have hTaken : sideStays r taken := sideStays_ite (sideStays_meldTake o rawPhase hNoted) hNoted
  have hCounted : sideStays r counted := sideStays_same hTaken rfl rfl rfl
  have hCaused : sideStays r caused := sideStays_applyCause o cause hCounted
  have hJudged : sideStays r judged := sideStays_ite (sideStays_judge o _ _ hCaused) hCaused
  have hChosen : sideStays r chosen := sideStays_originBound before wasTracking (sideStays_evalAll hJudged)
  have hCompared : sideStays r compared := sideStays_splitUpdate 0 o true hChosen
  have hEntered : sideStays r entered := sideStays_ite (sideStays_tTake o hCompared) (sideStays_ite (sideStays_tSample o sample hCompared) hCompared)
  have hLooped : sideStays r looped := sideStays_foldl _ (fun x d => sideStays_ite (sideStays_fSample d sample (sideStays_refl x)) (sideStays_refl x)) _ hEntered
  exact sideStays_ite h (sideStays_settleBound hLooped)

end Sys2Proof.Machine
end

section
/-! PROOFS. Frames at the pins, and the stop of a port (R463, R473 to R475). -/
namespace Sys2Proof.Machine
open Sys2Proof Host

/-! ### Ports and groups after a write -/

theorem updAud_port {p : Nat} {s : State} {b : AudRun} (f : AudRun → AudRun) (h : s.aud.ports[p]? = some b) : (updAud p f s).aud.ports[p]? = some (f b) :=
  (upd_get _ _ _ _).trans ((if_pos rfl).trans (congrArg (Option.map f) h))
theorem updAud_otherPort {p m : Nat} (f : AudRun → AudRun) (s : State) (h : m ≠ p) : (updAud p f s).aud.ports[m]? = s.aud.ports[m]? :=
  (upd_get _ _ _ _).trans (if_neg (Ne.symm h))
theorem audEvent_port {p e : Nat} {s : State} {b : AudRun} (h : s.aud.ports[p]? = some b) : (audEvent p e s).aud.ports[p]? = some { b with events := setBit b.events e } := by
  rw [audEvent, raiseIdx_aud]
  exact updAud_port _ h
theorem audEvent_groups (p e : Nat) (s : State) : (audEvent p e s).aud.groups = s.aud.groups := by
  rw [audEvent, raiseIdx_aud]
  rfl
theorem follows_updAud (p : Nat) (f : AudRun → AudRun) {r s : State} (h : follows r s) : follows r (updAud p f s) := follows_same h rfl rfl
theorem follows_audEvent (p e : Nat) {r s : State} (h : follows r s) : follows r (audEvent p e s) := follows_raiseIdx 14 e p (follows_updAud p _ h)
theorem stands_audEvent (p e : Nat) (s : State) (h : e < 32) : causeStands 14 e (audEvent p e s) := stands_raiseIdx_self 14 e p _ h

/-! ### A frame at the pins (R463, R473, R475) -/

/-- The first frame from the start index on: it latches its event, and the group's first raises GROUP_STARTED (R473). -/
def playBegins (g p : Nat) (first started : Bool) (s : State) : State :=
  if !first then s
  else
    let s := updAud p (fun a => { a with events := setBit a.events 0 }) s
    if started then s else audEvent p 0 (updGroup g (fun x => { x with started := true }) s)
/-- A frame without a record is an underrun, and the first of a row raises its cause (R475). -/
def playShort (p : Nat) (short before : Bool) (s : State) : State :=
  if !short then s
  else
    let s := bump (64 * 14 + 32) (updAud p (fun a => { a with underruns := add48 a.underruns 1 }) s)
    if before then s else audEvent p 2 s
/-- The frame at the pins that the port drives. -/
def playPins (p k : Nat) (data : Option Bytes) (s₀ s : State) : State :=
  let c := audCfg s₀ p
  if audDriven s p && (c.mode != 4 || audTx c) then
    let s := if c.mode = 1 ∨ c.mode = 2 then emit (frameClocks p k c) s else s
    emit (.audio p k (frameBytes s c k (data.getD (zeroRecord c)))) s else s
def playData (g p k : Nat) (s : State) : Option Bytes :=
  if audTx (audCfg s p) && decide (k ≥ (audGroup s g).start) then (getKey k (audOf s p).sched).getD none else none
def playIsShort (g p k : Nat) (s : State) : Bool :=
  audTx (audCfg s p) && (audCfg s p).mode != 4 && decide (k ≥ (audGroup s g).start) && (playData g p k s).isNone
def playIsFirst (g p k : Nat) (s : State) : Bool :=
  decide (k ≥ (audGroup s g).start) && (!(audOf s p).begun || decide ((audOf s p).index < (audGroup s g).start))
/-- All of a frame but the buffers that it finishes, and the index that the port takes. -/
def playedPins (g p k : Nat) (s : State) : State :=
  playPins p k (playData g p k s) s (playShort p (playIsShort g p k s) (audOf s p).inUnder (playBegins g p (playIsFirst g p k s) (audGroup s g).started s))

theorem playFrame_steps (g p k : Nat) (s : State) : ∃ at_ st, playFrame g p k s = finishPlayed p k (updAud p (fun a => { a with
    begun := true, index := k, inUnder := playIsShort g p k s, lastPs := at_, stampAt := st, sched := a.sched.filter fun e => decide (e.1 > k) })
      (playedPins g p k s)) := ⟨_, _, rfl⟩

theorem playBegins_facts {g p : Nat} {first started : Bool} {s : State} {r : AudRun} (h : s.aud.ports[p]? = some r) :
    ∃ e, (playBegins g p first started s).aud.ports[p]? = some { r with events := e } ∧ follows s (playBegins g p first started s) ∧
      (first = true → started = false → g < s.aud.groups.length →
        (audGroup (playBegins g p first started s) g).started = true ∧ causeStands 14 0 (playBegins g p first started s)) := by
  unfold playBegins
  cases first with
  | false => exact ⟨r.events, h, follows_refl s, fun hFirst => absurd hFirst Bool.false_ne_true⟩
  | true =>
    have hLatched := updAud_port (fun a => { a with events := setBit a.events 0 }) h
    have hFollows := follows_updAud p (fun a => { a with events := setBit a.events 0 }) (follows_refl s)
    have hGroups : (updAud p (fun a => { a with events := setBit a.events 0 }) s).aud.groups = s.aud.groups := rfl
    rw [Bool.not_true, if_neg Bool.false_ne_true]
    dsimp only
    generalize updAud p (fun a => { a with events := setBit a.events 0 }) s = z at hLatched hFollows hGroups ⊢
    cases started with
    | true => exact ⟨_, hLatched, hFollows, fun _ hNew => absurd hNew.symm Bool.false_ne_true⟩
    | false =>
      rw [if_neg Bool.false_ne_true]
      have hEvent := audEvent_port (e := 0) (s := updGroup g (fun x => { x with started := true }) z) hLatched
      refine ⟨_, hEvent, follows_audEvent p 0 (follows_same hFollows rfl rfl), fun _ _ hGroup => ⟨?_, stands_audEvent p 0 _ (by decide)⟩⟩
      unfold audGroup
      rw [audEvent_groups]
      have hRuns := nth_upd_self (fun x : GroupRun => { x with started := true }) (hGroups ▸ hGroup : g < z.aud.groups.length)
      exact (congrArg GroupRun.started hRuns).trans rfl
theorem playShort_facts {p : Nat} {short before : Bool} {s : State} {b : AudRun} (h : s.aud.ports[p]? = some b) :
    ∃ e u, (playShort p short before s).aud.ports[p]? = some { b with events := e, underruns := u } ∧ follows s (playShort p short before s) ∧
      (playShort p short before s).aud.groups = s.aud.groups ∧
      (short = true → u = add48 b.underruns 1 ∧ (before = false → causeStands 14 2 (playShort p short before s))) := by
  unfold playShort
  cases short with
  | false => exact ⟨b.events, b.underruns, h, follows_refl s, rfl, fun hShort => absurd hShort Bool.false_ne_true⟩
  | true =>
    have hCounted : (bump (64 * 14 + 32) (updAud p (fun a => { a with underruns := add48 a.underruns 1 }) s)).aud.ports[p]? = some { b with underruns := add48 b.underruns 1 } :=
      updAud_port (fun a => { a with underruns := add48 a.underruns 1 }) h
    have hFollows : follows s (bump (64 * 14 + 32) (updAud p (fun a => { a with underruns := add48 a.underruns 1 }) s)) := follows_same (follows_refl s) rfl rfl
    have hGroups : (bump (64 * 14 + 32) (updAud p (fun a => { a with underruns := add48 a.underruns 1 }) s)).aud.groups = s.aud.groups := rfl
    rw [Bool.not_true, if_neg Bool.false_ne_true]
    dsimp only
    generalize bump (64 * 14 + 32) (updAud p (fun a => { a with underruns := add48 a.underruns 1 }) s) = z at hCounted hFollows hGroups ⊢
    cases before with
    | true => exact ⟨b.events, _, hCounted, hFollows, hGroups, fun _ => ⟨rfl, fun hNew => absurd hNew.symm Bool.false_ne_true⟩⟩
    | false =>
      rw [if_neg Bool.false_ne_true]
      have hEvent := audEvent_port (e := 2) hCounted
      exact ⟨_, _, hEvent, follows_audEvent p 2 hFollows, (audEvent_groups p 2 z).trans hGroups, fun _ => ⟨rfl, fun _ => stands_audEvent p 2 _ (by decide)⟩⟩
theorem sideStays_playPins (p k : Nat) (data : Option Bytes) (s₀ : State) {r s : State} (h : sideStays r s) : sideStays r (playPins p k data s₀ s) := by
  unfold playPins
  dsimp only
  exact sideStays_ite (sideStays_emit _ (sideStays_ite (sideStays_emit _ h) h)) h
theorem finishPlayed_facts {p : Nat} (k : Nat) {s : State} {b : AudRun} (h : s.aud.ports[p]? = some b) :
    (∃ q, (finishPlayed p k s).aud.ports[p]? = some { b with queue := q }) ∧ follows s (finishPlayed p k s) ∧ (finishPlayed p k s).aud.groups = s.aud.groups := by
  have hDone : sideStays (updAud p (fun a => { a with queue := a.queue.filter fun b => !decide (b.index + b.records.length ≤ k + 1) }) s) (finishPlayed p k s) :=
    sideStays_buffersDone p _ (sideStays_refl _)
  have hPort := updAud_port (fun a => { a with queue := a.queue.filter fun b => !decide (b.index + b.records.length ≤ k + 1) }) h
  refine ⟨⟨_, (congrArg (·.ports[p]?) (sideStays_aud hDone)).trans hPort⟩, follows_trans hDone.1 (follows_updAud p _ (follows_refl s)), congrArg (·.groups) (sideStays_aud hDone)⟩

/-- What a frame leaves of its port and its group. -/
theorem playFrame_plays {g p k : Nat} {s : State} {r : AudRun} (h : s.aud.ports[p]? = some r) :
    ∃ b, (playFrame g p k s).aud.ports[p]? = some b ∧ b.active = r.active ∧ b.begun = true ∧ b.index = k ∧ b.inUnder = playIsShort g p k s ∧
      (playIsShort g p k s = true → b.underruns = add48 r.underruns 1 ∧ (r.inUnder = false → causeStands 14 2 (playFrame g p k s))) ∧
      (playIsFirst g p k s = true → (audGroup s g).started = false → g < s.aud.groups.length →
        (audGroup (playFrame g p k s) g).started = true ∧ causeStands 14 0 (playFrame g p k s)) := by
  have hRun : audOf s p = r := nth_of_get h
  obtain ⟨at_, st, hSteps⟩ := playFrame_steps g p k s
  obtain ⟨e, hBegun, hFirst, hStarts⟩ := playBegins_facts (g := g) (first := playIsFirst g p k s) (started := (audGroup s g).started) h
  obtain ⟨e', u, hCounted, hShort, hGroups, hUnder⟩ := playShort_facts (short := playIsShort g p k s) (before := (audOf s p).inUnder) hBegun
  have hPins : sideStays (playShort p (playIsShort g p k s) (audOf s p).inUnder (playBegins g p (playIsFirst g p k s) (audGroup s g).started s)) (playedPins g p k s) :=
    sideStays_playPins p k _ s (sideStays_refl _)
  have hPort : (playedPins g p k s).aud.ports[p]? = some { r with events := e', underruns := u } := (congrArg (·.ports[p]?) (sideStays_aud hPins)).trans hCounted
  obtain ⟨⟨q, hDone⟩, hFollows, hStill⟩ := finishPlayed_facts k (updAud_port (fun a => { a with
    begun := true, index := k, inUnder := playIsShort g p k s, lastPs := at_, stampAt := st, sched := a.sched.filter fun e => decide (e.1 > k) }) hPort)
  rw [← hSteps] at hDone hFollows hStill
  replace hFollows := follows_trans hFollows (follows_updAud p _ hPins.1)
  have hSame : (playFrame g p k s).aud.groups = (playBegins g p (playIsFirst g p k s) (audGroup s g).started s).aud.groups :=
    hStill.trans ((congrArg (·.groups) (sideStays_aud hPins)).trans hGroups)
  refine ⟨_, hDone, rfl, rfl, rfl, rfl, fun hIs => ⟨(hUnder hIs).1, fun hNew => hFollows.2 _ _ ((hUnder hIs).2 (hRun ▸ hNew))⟩, fun hIs hNot hGroup => ?_⟩
  obtain ⟨hOn, hCause⟩ := hStarts hIs hNot hGroup
  refine ⟨?_, (follows_trans hFollows hShort).2 _ _ hCause⟩
  unfold audGroup at hOn ⊢
  rw [hSame]
  exact hOn

/-! ### The stop of a port (R474) -/

/-- A receive buffer that is delivered leaves of its port only the buffer to fill. -/
theorem deliverFill_port {p : Nat} {s : State} {b : AudRun} (h : s.aud.ports[p]? = some b) : (deliverFill p s).aud.ports[p]? = some { b with fill := none } := by
  unfold deliverFill
  split
  · exact updAud_port (s := updRing _ _ s) _ h
  · exact updAud_port _ h
theorem deliverFill_rest (p : Nat) (s : State) : (∀ m, m ≠ p → (deliverFill p s).aud.ports[m]? = s.aud.ports[m]?) ∧ (deliverFill p s).aud.groups = s.aud.groups := by
  unfold deliverFill
  split
  · exact ⟨fun m hOther => updAud_otherPort _ (updRing _ _ s) hOther, rfl⟩
  · exact ⟨fun m hOther => updAud_otherPort _ s hOther, rfl⟩
theorem idlePort_aud (p : Nat) (s : State) : (idlePort p s).aud = s.aud := by
  unfold idlePort
  dsimp only
  split <;> rfl
theorem stopPort_stops {p : Nat} {s : State} {r : AudRun} (h : s.aud.ports[p]? = some r) :
    (∃ b, (stopPort p s).aud.ports[p]? = some b ∧ b.active = false ∧ b.begun = false ∧ b.queue = [] ∧ b.stopDiscards = add48 r.stopDiscards r.queue.length) ∧
    (∀ m, m ≠ p → (stopPort p s).aud.ports[m]? = s.aud.ports[m]?) ∧ (stopPort p s).aud.groups = s.aud.groups := by
  have hRun : audOf s p = r := nth_of_get h
  unfold stopPort
  lift_lets
  extract_lets q done
  have hDone : sideStays s done := sideStays_buffersDone p q (sideStays_refl s)
  have hPort : done.aud.ports[p]? = some r := (congrArg (·.ports[p]?) (sideStays_aud hDone)).trans h
  have hQueue : q = r.queue := congrArg AudRun.queue hRun
  rw [idlePort_aud]
  obtain ⟨hOthers, hGroups⟩ := deliverFill_rest p (updAud p (fun a => { a with
    active := false, begun := false, sched := [], queue := [], inUnder := false, stopDiscards := add48 a.stopDiscards q.length }) done)
  refine ⟨⟨_, deliverFill_port (updAud_port _ hPort), rfl, rfl, rfl, ?_⟩, fun m hOther => ?_, ?_⟩
  · rw [hQueue]
  · exact (hOthers m hOther).trans ((updAud_otherPort _ done hOther).trans (congrArg (·.ports[m]?) (sideStays_aud hDone)))
  · exact hGroups.trans (congrArg (·.groups) (sideStays_aud hDone))

/-- The last port of a group that stops ends the group (R474). -/
theorem settleGroup_settles {g p : Nat} {s : State} {b : AudRun} (h : s.aud.ports[p]? = some b) :
    (∃ e, (settleGroup g p s).aud.ports[p]? = some { b with events := e }) ∧
    ((audGroup s g).running = true → (∀ m ∈ membersOf s.work g, (audOf s m).active = false) → causeStands 14 1 (settleGroup g p s)) := by
  unfold settleGroup
  refine ⟨?_, fun hRuns hAll => ?_⟩
  · split
    · exact ⟨_, audEvent_port (s := updGroup g _ s) h⟩
    · exact ⟨_, updAud_port _ h⟩
  · have hEnds : ((audGroup s g).running && (membersOf s.work g).all fun m => !(audOf s m).active) = true := by
      rw [hRuns, Bool.true_and, List.all_eq_true]
      intro m hMem
      rw [hAll m hMem]
      rfl
    rw [if_pos hEnds]
    exact stands_audEvent p 1 _ (by decide)
theorem stopped_row {g p : Nat} {s : State} {r : AudRun} (h : s.aud.ports[p]? = some r) :
    ∃ b, (settleGroup g p (stopPort p s)).aud.ports[p]? = some b ∧ b.active = false ∧ b.begun = false ∧ b.queue = [] ∧
      b.stopDiscards = add48 r.stopDiscards r.queue.length ∧
      ((audGroup s g).running = true → (∀ m ∈ membersOf s.work g, m ≠ p → (audOf s m).active = false) → causeStands 14 1 (settleGroup g p (stopPort p s))) := by
  obtain ⟨⟨b, hPort, hActive, hBegun, hQueue, hDiscards⟩, hOthers, hGroups⟩ := stopPort_stops h
  obtain ⟨⟨e, hSettled⟩, hCause⟩ := settleGroup_settles (g := g) hPort
  refine ⟨_, hSettled, hActive, hBegun, hQueue, hDiscards, fun hRuns hAll => hCause ?_ fun m hMem => ?_⟩
  · unfold audGroup at hRuns ⊢
    rw [hGroups]
    exact hRuns
  · by_cases hSelf : m = p
    · rw [hSelf, show audOf (stopPort p s) p = b from nth_of_get hPort]
      exact hActive
    · have hWork : (stopPort p s).work = s.work := congrArg (·.2.2) (kept_stopPort p s)
      rw [hWork] at hMem
      have hSame : audOf (stopPort p s) m = audOf s m := congrArg (Option.getD · default) (hOthers m hSelf)
      rw [hSame]
      exact hAll m hMem hSelf

/-! ### AUDIO_FRAME_BOUNDARY (R463, R474, R478) -/

theorem moveToDomain_aud (d : Nat) (target : Int) (s : State) : (moveToDomain d target s).aud = s.aud := by
  unfold moveToDomain moveToCounter
  split <;> exact moveTo_aud _ s
theorem moveToDomain_work (d : Nat) (target : Int) (s : State) : (moveToDomain d target s).work = s.work := congrArg (·.2.2) (kept_moveToDomain d target s)

section
variable {p g : Nat} {s z : State} {k : Int} (hRuns : running s = true) (hActive : (audOf s p).active = true) (hGroup : groupOfPort s.work p = some g)
  (hk : nextBoundary s p (((audGroup s g).start : Int) - (audCfg s p).runIn) = k)
  (hz : moveToDomain (audCfg s p).domain (boundaryAt (audCfg s p) k) s = z)
include hRuns hActive hGroup hk hz

theorem frameBoundary_half (hHalf : halfPeriod (audCfg s p) (audOf z p) (edgeWhen z (audCfg s p).domain (boundaryAt (audCfg s p) k)) = true) :
    frameBoundary p s = z := by
  unfold frameBoundary
  rw [hRuns, hActive, if_neg (by decide), hGroup]
  dsimp only
  rw [hk, hz, if_pos hHalf]
theorem frameBoundary_stops {e : Nat} (hWhole : halfPeriod (audCfg s p) (audOf z p) (edgeWhen z (audCfg s p).domain (boundaryAt (audCfg s p) k)) = false)
    (hStop : (audGroup s g).stop = some e) (hPast : (e : Int) ≤ k) : frameBoundary p s = settleGroup g p (stopPort p z) := by
  unfold frameBoundary
  rw [hRuns, hActive, if_neg (by decide), hGroup]
  dsimp only
  rw [hk, hz, hWhole, if_neg Bool.false_ne_true, hStop]
  dsimp only
  rw [if_pos hPast]
theorem frameBoundary_plays (hWhole : halfPeriod (audCfg s p) (audOf z p) (edgeWhen z (audCfg s p).domain (boundaryAt (audCfg s p) k)) = false)
    (hStop : (audGroup s g).stop = none ∨ (∃ e ∈ (audGroup s g).stop, k < (e : Int))) : frameBoundary p s = playFrame g p k.toNat z := by
  unfold frameBoundary
  rw [hRuns, hActive, if_neg (by decide), hGroup]
  dsimp only
  rw [hk, hz, hWhole, if_neg Bool.false_ne_true]
  obtain hNone | ⟨e, hSome, hAhead⟩ := hStop
  · rw [hNone]
  · rw [Option.mem_def.mp hSome]
    dsimp only
    rw [if_neg (by omega)]

end

end Sys2Proof.Machine
end

section
/-! PROOFS. Reads ahead, buffers and receivers of the audio ports (R466 to R470, R475 to R477, R480). -/
namespace Sys2Proof.Machine
open Sys2Proof Host

theorem updAud_of_get {p : Nat} {s : State} {r : AudRun} (f : AudRun → AudRun) (h : s.aud.ports[p]? = some r) :
    updAud p f s = { s with aud := { s.aud with ports := s.aud.ports.set p (f r) } } := by
  have hSet := upd_of_get (f := f) h
  rw [← hSet]
  rfl

/-! ### AUDIO_TX_READ (R475) -/

theorem txRead_reads {p k : Nat} {s : State} {r : AudRun} (h : s.aud.ports[p]? = some r) (hRuns : running s = true) (hActive : r.active = true)
    (hMode : (audCfg s p).mode ≠ 4) (hTx : audTx (audCfg s p) = true) (hk : (timeline s p).toNat = k) :
    (r.readUpTo < k + 2 → txRead p s = readRecord p (k + 2) s) ∧
    (k + 2 ≤ r.readUpTo → txRead p s = readRecord p (k + 3) (moveToDomain (audCfg s p).domain (boundaryAt (audCfg s p) (k + 1)) s)) := by
  have hRun : audOf s p = r := nth_of_get h
  have hGoes : txRead p s = if r.readUpTo < k + 2 then readRecord p (k + 2) s
      else readRecord p (k + 3) (moveToDomain (audCfg s p).domain (boundaryAt (audCfg s p) (k + 1)) s) := by
    unfold txRead
    dsimp only
    rw [hRun, hRuns, hActive, hTx, if_neg (by simp [hMode]), hk]
  exact ⟨fun hBehind => hGoes.trans (if_pos hBehind), fun hAhead => hGoes.trans (if_neg (by omega))⟩

/-! ### The index of the next descriptor of a ring (R509) -/

/-- A ring has fetched its descriptors up to an index. -/
def fetchedTo (n v : Nat) (s : State) : Prop := ∃ g, s.host.rings[n]? = some g ∧ g.fetched = v

theorem fetchedTo_same {n v : Nat} {s t : State} (h : fetchedTo n v s) (hRings : t.host.rings = s.host.rings) : fetchedTo n v t := by
  unfold fetchedTo
  rw [hRings]
  exact h
theorem fetchedTo_updRing {n v : Nat} {s : State} (k : Nat) {f : Ring → Ring} (hf : ∀ g, (f g).fetched = g.fetched) (h : fetchedTo n v s) : fetchedTo n v (updRing k f s) := by
  obtain ⟨g, hGet, hFetched⟩ := h
  have hAt : (updRing k f s).host.rings[n]? = if k = n then s.host.rings[n]?.map f else s.host.rings[n]? := upd_get _ _ _ _
  rw [hGet] at hAt
  by_cases hSame : k = n
  · exact ⟨f g, hAt.trans (if_pos hSame), (hf g).trans hFetched⟩
  · exact ⟨g, hAt.trans (if_neg hSame), hFetched⟩
theorem fetchedTo_undue {n v : Nat} {s t : State} (h : fetchedTo n v s) (hUndue : undueRings t = undueRings s) : fetchedTo n v t := by
  obtain ⟨g, hGet, hFetched⟩ := h
  obtain ⟨g', hGet', hSame⟩ := ring_of_undue hUndue hGet
  have hField := congrArg Ring.fetched hSame
  exact ⟨g', hGet', hField.trans hFetched⟩
theorem fetchedTo_ringEvent {n v : Nat} {s : State} (k : Nat) (h : fetchedTo n v s) : fetchedTo n v (ringEvent k s) := by
  have hSecond : ∀ i j, fetchedTo n v (setSecond i j s) := fun i j => fetchedTo_same h (rings_setSecond i j s)
  unfold ringEvent
  dsimp only
  split
  · split
    · exact fetchedTo_same h rfl
    · exact h
  · split
    · exact hSecond _ _
    · split
      · exact h
      · exact fetchedTo_updRing k (fun _ => rfl) h
theorem passEnded_fetched (n : Nat) (g : Ring) : (passEnded n g).fetched = g.fetched := by
  induction n generalizing g with
  | zero => rfl
  | succ n ih =>
    unfold passEnded
    split
    · rfl
    · exact ih _
/-- A frame that is told of without a timestamp entry, played or discarded in its time (R509, R511). -/
theorem hostDone_quiet (p n first last stamp : Nat) (late : Bool) (s : State) : hostDone p n first last false late 0 stamp s =
    if !(ringOf s n).enable || first ≥ 65536 then s
    else ringEvent n (updRing n (fun g => passEnded 65536 { g with ended := g.ended ++ [(first, last)], items := add48 g.items 1 })
      (emit (.txStatus n last (0x80 + 0)) s)) := rfl
theorem fetchedTo_bufferDone {n v : Nat} {s : State} (p desc : Nat) (h : fetchedTo n v s) : fetchedTo n v (bufferDone p desc s) := by
  unfold bufferDone
  split
  · rw [hostDone_quiet]
    split
    · exact h
    · exact fetchedTo_ringEvent _ (fetchedTo_updRing _ (fun g => passEnded_fetched 65536 _) (fetchedTo_same h rfl))
  · exact h
/-- A port event is bookkeeping of the event rings. -/
theorem raiseIdx14 (b i : Nat) (s : State) : raiseIdx 14 b i s = setCause 14 b i s := by
  unfold raiseIdx causeOcc
  simp
theorem fetchedTo_audEvent {n v : Nat} {s : State} (p e : Nat) (h : fetchedTo n v s) : fetchedTo n v (audEvent p e s) := by
  unfold audEvent
  rw [raiseIdx14]
  exact fetchedTo_undue (fetchedTo_same (t := updAud p _ s) h rfl) (undueRings_setCause 14 e p _)

/-! ### AUDIO_BUFFER_HEAD (R466, R476, R480) -/

/-- A transmit buffer has been fetched from its ring. -/
def bufferFetched (n : Nat) (data : Bytes) (s : State) : State :=
  updRing n (fun g => { g with fetched := (g.fetched + 1) % 65536, bytes := add48 g.bytes data.length }) s
/-- Frames whose reads have passed are counted as late (R476). -/
def framesLate (p late : Nat) (s : State) : State :=
  if late = 0 then s else audEvent p 3 (bumpBy (64 * 14 + 33) late (updAud p (fun a => { a with lateFrames := add48 a.lateFrames late }) s))
theorem bufferFetched_fetched {n : Nat} {s : State} (data : Bytes) (h : n < s.host.rings.length) :
    fetchedTo n (((ringOf s n).fetched + 1) % 65536) (bufferFetched n data s) := by
  have hGet : s.host.rings[n]? = some (ringOf s n) := by
    rw [List.getElem?_eq_getElem h, show ringOf s n = s.host.rings[n] from nth_of_get (List.getElem?_eq_getElem h)]
  exact ⟨_, get_updRing _ hGet, rfl⟩

section
variable {p n desc : Nat} {data : Bytes} {x : State} {r : AudRun} (hPort : x.aud.ports[p]? = some r) (hRing : audTxRing (audCfg x p) = some n)
  (hDma : dmaOn x = true) (hOn : (ringOf x n).enable = true) (hAhead : idxDist (ringOf x n).db (ringOf x n).fetched ≠ 0) (hDesc : desc = (ringOf x n).fetched)
include hRing hDma hOn hAhead hDesc

theorem takeBuffer_malformed (hBad : parseBuffer (audCfg x p) data = none) : takeBuffer p desc data x = bufferDone p desc (bufferFetched n data x) := by
  unfold takeBuffer
  dsimp only
  rw [hRing]
  dsimp only
  rw [hDma, hOn, if_neg (by simp [hAhead, hDesc]), hBad]
  rfl
theorem takeBuffer_parses {first : Nat} {recs : List Bytes} (hGood : parseBuffer (audCfg x p) data = some (first, recs)) :
    let y := bufferFetched n data x
    let k := (timeline x p).toNat
    let late := min recs.length (readPassed (audOf x p) x.now k + 1 - first)
    takeBuffer p desc data x = if first > k + fsOf (audCfg x p).rate then
        bufferDone p desc (audEvent p 8 (updAud p (fun a => { a with horizonDrops := add48 a.horizonDrops 1 }) y))
      else if late = recs.length then bufferDone p desc (framesLate p late y)
      else rereadRecord p (updAud p (fun a => { a with queue := a.queue ++ [{ desc, index := first + late, records := recs.drop late }] }) (framesLate p late y)) := by
  unfold takeBuffer
  dsimp only
  rw [hRing]
  dsimp only
  rw [hDma, hOn, if_neg (by simp [hAhead, hDesc]), hGood]
  rfl

end

theorem rereadRecord_host (p : Nat) (s : State) : (rereadRecord p s).host = s.host := by
  unfold rereadRecord
  dsimp only
  split <;> rfl
/-- A record that is read again leaves the queue and the counters. -/
theorem rereadRecord_port {p : Nat} {s : State} {b : AudRun} (h : s.aud.ports[p]? = some b) :
    ∃ c, (rereadRecord p s).aud.ports[p]? = some c ∧ c.queue = b.queue ∧ c.lateFrames = b.lateFrames := by
  unfold rereadRecord
  dsimp only
  split
  · exact ⟨_, updAud_port _ h, rfl, rfl⟩
  · exact ⟨b, h, rfl, rfl⟩
theorem framesLate_late {p late : Nat} {s : State} {b : AudRun} (h : s.aud.ports[p]? = some b) (hSome : late ≠ 0) :
    ∃ e, (framesLate p late s).aud.ports[p]? = some { b with lateFrames := add48 b.lateFrames late, events := e } ∧ causeStands 14 3 (framesLate p late s) := by
  have hCounted : (bumpBy (64 * 14 + 33) late (updAud p (fun a => { a with lateFrames := add48 a.lateFrames late }) s)).aud.ports[p]? =
      some { b with lateFrames := add48 b.lateFrames late } := updAud_port (fun a => { a with lateFrames := add48 a.lateFrames late }) h
  have hEvent := audEvent_port (e := 3) hCounted
  have hGoes : framesLate p late s = audEvent p 3 _ := if_neg hSome
  rw [hGoes]
  exact ⟨_, hEvent, stands_audEvent p 3 _ (by decide)⟩

section
variable {p n desc : Nat} {data : Bytes} {x : State} {r : AudRun} (hPort : x.aud.ports[p]? = some r) (hRing : audTxRing (audCfg x p) = some n)
  (hDma : dmaOn x = true) (hOn : (ringOf x n).enable = true) (hAhead : idxDist (ringOf x n).db (ringOf x n).fetched ≠ 0) (hDesc : desc = (ringOf x n).fetched)
include hPort hRing hDma hOn hAhead hDesc

omit hPort in
theorem takeBuffer_fetches (hLength : n < x.host.rings.length) : (ringOf (takeBuffer p desc data x) n).fetched = ((ringOf x n).fetched + 1) % 65536 := by
  have hFetched := bufferFetched_fetched data hLength
  have hLate : ∀ late, fetchedTo n (((ringOf x n).fetched + 1) % 65536) (framesLate p late (bufferFetched n data x)) := fun late => by
    unfold framesLate
    split
    · exact hFetched
    · exact fetchedTo_audEvent p 3 (fetchedTo_same hFetched rfl)
  have hTaken : fetchedTo n (((ringOf x n).fetched + 1) % 65536) (takeBuffer p desc data x) := by
    cases hParse : parseBuffer (audCfg x p) data with
    | none =>
      rw [takeBuffer_malformed hRing hDma hOn hAhead hDesc hParse]
      exact fetchedTo_bufferDone p desc hFetched
    | some buf =>
      have hGoes := takeBuffer_parses (first := buf.1) (recs := buf.2) hRing hDma hOn hAhead hDesc hParse
      dsimp only at hGoes
      rw [hGoes]
      split
      · exact fetchedTo_bufferDone p desc (fetchedTo_audEvent p 8 (fetchedTo_same hFetched rfl))
      · split
        · exact fetchedTo_bufferDone p desc (hLate _)
        · exact fetchedTo_same (fetchedTo_same (t := updAud p _ _) (hLate _) rfl) (congrArg HostPart.rings (rereadRecord_host p _))
  obtain ⟨g, hGet, hIndex⟩ := hTaken
  rw [ringOf_of_get hGet, hIndex]

/-- A buffer that begins beyond the horizon is dropped (R476). -/
theorem takeBuffer_far {first : Nat} {recs : List Bytes} (hGood : parseBuffer (audCfg x p) data = some (first, recs))
    (hFar : (timeline x p).toNat + fsOf (audCfg x p).rate < first) : let t := takeBuffer p desc data x
    (nth t.aud.ports p).horizonDrops = add48 r.horizonDrops 1 ∧ (nth t.aud.ports p).queue = r.queue ∧ causeStands 14 8 t := by
  have hGoes := takeBuffer_parses hRing hDma hOn hAhead hDesc hGood
  dsimp only at hGoes ⊢
  rw [if_pos hFar] at hGoes
  rw [hGoes]
  have hStill : (bufferFetched n data x).aud.ports[p]? = some r := hPort
  have hEvent := audEvent_port (e := 8) (updAud_port (fun a => { a with horizonDrops := add48 a.horizonDrops 1 }) hStill)
  have hDone := sideStays_bufferDone p desc (sideStays_refl (audEvent p 8 (updAud p (fun a => { a with horizonDrops := add48 a.horizonDrops 1 }) (bufferFetched n data x))))
  rw [sideStays_aud hDone, nth_of_get hEvent]
  exact ⟨rfl, rfl, hDone.1.2 _ _ (stands_audEvent p 8 _ (by decide))⟩
/-- A buffer whose frames have not been read joins the queue (R475, R476). -/
theorem takeBuffer_timely {first : Nat} {recs : List Bytes} (hGood : parseBuffer (audCfg x p) data = some (first, recs))
    (hTimely : readPassed r x.now (timeline x p).toNat < first) (hNear : first ≤ (timeline x p).toNat + fsOf (audCfg x p).rate) (hSome : recs ≠ []) :
    let t := takeBuffer p desc data x
    (nth t.aud.ports p).queue = r.queue ++ [{ desc := desc, index := first, records := recs }] ∧ (nth t.aud.ports p).lateFrames = r.lateFrames := by
  have hGoes := takeBuffer_parses hRing hDma hOn hAhead hDesc hGood
  have hNone : min recs.length (readPassed r x.now (timeline x p).toNat + 1 - first) = 0 := by omega
  have hLength : ¬ 0 = recs.length := fun hZero => hSome (List.length_eq_zero_iff.mp hZero.symm)
  dsimp only at hGoes ⊢
  rw [show audOf x p = r from nth_of_get hPort, hNone, if_neg (by omega), if_neg hLength] at hGoes
  rw [hGoes]
  have hStill : (framesLate p 0 (bufferFetched n data x)).aud.ports[p]? = some r := hPort
  obtain ⟨c, hRead, hQueue, hLate⟩ := rereadRecord_port (updAud_port (fun a => { a with queue := a.queue ++ [{ desc, index := first + 0, records := recs.drop 0 }] }) hStill)
  rw [nth_of_get hRead, hQueue, hLate]
  exact ⟨rfl, rfl⟩
/-- A buffer whose frames have all been read is late altogether (R476). -/
theorem takeBuffer_late {first : Nat} {recs : List Bytes} (hGood : parseBuffer (audCfg x p) data = some (first, recs))
    (hNear : first ≤ (timeline x p).toNat + fsOf (audCfg x p).rate)
    (hAll : recs.length ≤ readPassed r x.now (timeline x p).toNat + 1 - first) (hSome : recs ≠ []) :
    let t := takeBuffer p desc data x
    (nth t.aud.ports p).queue = r.queue ∧ (nth t.aud.ports p).lateFrames = add48 r.lateFrames recs.length ∧ causeStands 14 3 t := by
  have hGoes := takeBuffer_parses hRing hDma hOn hAhead hDesc hGood
  have hEvery : min recs.length (readPassed r x.now (timeline x p).toNat + 1 - first) = recs.length := by omega
  have hLength : recs.length ≠ 0 := fun hZero => hSome (List.length_eq_zero_iff.mp hZero)
  dsimp only at hGoes ⊢
  rw [show audOf x p = r from nth_of_get hPort, hEvery, if_neg (by omega), if_pos rfl] at hGoes
  rw [hGoes]
  have hStill : (bufferFetched n data x).aud.ports[p]? = some r := hPort
  obtain ⟨e, hLate, hCause⟩ := framesLate_late hStill hLength
  have hDone := sideStays_bufferDone p desc (sideStays_refl (framesLate p recs.length (bufferFetched n data x)))
  rw [sideStays_aud hDone, nth_of_get hLate]
  exact ⟨rfl, rfl, hDone.1.2 _ _ hCause⟩
omit hPort in
theorem takeBuffer_bad (hBad : parseBuffer (audCfg x p) data = none) : (takeBuffer p desc data x).aud = x.aud := by
  rw [takeBuffer_malformed hRing hDma hOn hAhead hDesc hBad]
  exact sideStays_aud (sideStays_bufferDone p desc (sideStays_refl _))

end

/-! ### AUDIO_RX_FRAME (R466, R477) -/

section
variable {p : Nat} {w : Bytes} {x : State} {r : AudRun} (hPort : x.aud.ports[p]? = some r) (hRuns : running x = true) (hRx : audRx (audCfg x p) = true)
  (hMode : (audCfg x p).mode = 1 ∨ (audCfg x p).mode = 2)
include hRuns hRx hMode

theorem rxFrame_pcm : rxFrame p (some w) x = if pastRunIn x p then storeRecord p (audOf x p).index (audOf x p).stampAt (pickSlots (audCfg x p) w) x else x := by
  unfold rxFrame
  dsimp only
  obtain hIs | hIs := hMode
  all_goals
    rw [hRuns, hRx, hIs, if_neg (by decide)]
    rfl
include hPort
theorem rxFrame_overrun {n : Nat} (hPast : pastRunIn x p = true) (hFill : r.fill = none) (hRing : audRxRing (audCfg x p) = some n) (hRoom : rxRoom x n = false) :
    (r.inOver = false → causeStands 14 4 (rxFrame p (some w) x)) ∧
    plain (rxFrame p (some w) x) = plain { x with aud := { x.aud with ports := x.aud.ports.set p { r with
      overruns := add48 r.overruns 1, gap := true, inOver := true, events := if r.inOver then r.events else setBit r.events 4 } } } := by
  have hRun : audOf x p = r := nth_of_get hPort
  have hCounted := updAud_of_get (fun a => { a with overruns := add48 a.overruns 1, gap := true, inOver := true }) hPort
  have hGoes : rxFrame p (some w) x = if r.inOver then bump (64 * 14 + 34) (updAud p (fun a => { a with overruns := add48 a.overruns 1, gap := true, inOver := true }) x)
      else audEvent p 4 (bump (64 * 14 + 34) (updAud p (fun a => { a with overruns := add48 a.overruns 1, gap := true, inOver := true }) x)) := by
    rw [rxFrame_pcm hRuns hRx hMode, if_pos hPast]
    unfold storeRecord
    dsimp only
    rw [hRun, hFill, hRing]
    dsimp only
    rw [hRoom, if_neg Bool.false_ne_true, hRun, hFill]
  rw [hGoes]
  cases hOver : r.inOver with
  | true =>
    rw [if_pos rfl, hCounted]
    exact ⟨fun hNew => absurd hNew.symm Bool.false_ne_true, rfl⟩
  | false =>
    rw [if_neg Bool.false_ne_true]
    refine ⟨fun _ => stands_audEvent p 4 _ (by decide), ?_⟩
    have hTwice : updAud p (fun a => { a with events := setBit a.events 4 }) (updAud p (fun a => { a with overruns := add48 a.overruns 1, gap := true, inOver := true }) x) =
        { x with aud := { x.aud with ports := x.aud.ports.set p { r with overruns := add48 r.overruns 1, gap := true, inOver := true, events := setBit r.events 4 } } } := by
      rw [updAud_of_get _ (updAud_port _ hPort), hCounted]
      dsimp only
      rw [List.set_set]
    have hPlain := congrArg plain hTwice
    exact (plain_raiseIdx 14 4 p _).trans hPlain
theorem rxFrame_stored {f : AudFill} (hPast : pastRunIn x p = true) (hFill : r.fill = some f) (hRoom : f.records.length + 1 < (audCfg x p).bufFrames) :
    rxFrame p (some w) x = { x with aud := { x.aud with ports := x.aud.ports.set p { r with fill := some { f with records := f.records ++ [pickSlots (audCfg x p) w] } } } } := by
  have hRun : audOf x p = r := nth_of_get hPort
  rw [rxFrame_pcm hRuns hRx hMode, if_pos hPast]
  unfold storeRecord
  dsimp only
  rw [hRun, hFill]
  dsimp only
  rw [hRun, hFill]
  dsimp only
  rw [if_neg (by omega), updAud_of_get _ hPort]

end

/-! ### AES3_SAMPLE and DARS_LOCK_LOST (R469, R470) -/

section
variable {p : Nat} {x : State} {r : AudRun} (hPort : x.aud.ports[p]? = some r) (hRuns : running x = true) (hMode : (audCfg x p).mode = 3) (hRx : audRx (audCfg x p) = true)
include hPort hRuns hMode hRx

/-- The port after a Z preamble (R469). -/
def zTaken (p : Nat) (x : State) : State :=
  updAud p (fun a => { a with zRun := min 3 (a.zRun + 1), rxLocked := a.rxLocked || decide (a.zRun + 1 ≥ 3) })
    (rxStamp p 192 (fsOf (audCfg x p).rate) (decide ((audOf x p).zRun ≠ 0)) (stampNow x) x)
omit hRuns hMode hRx in
theorem zTaken_port : ∃ b, (zTaken p x).aud.ports[p]? = some b ∧ b.zRun = min 3 (r.zRun + 1) ∧ b.lastRx = stampNow x ∧ b.rxLocked = (r.rxLocked || decide (r.zRun + 1 ≥ 3)) :=
  ⟨_, updAud_port _ (updAud_port _ hPort), rfl, rfl, rfl⟩
/-- After a Z preamble the port may report its lock, and its source may take a sample. -/
theorem aesSample_samples : ∃ y, sideStays (if !r.rxLocked && decide (r.zRun + 1 ≥ 3) then audEvent p 5 (apHealth p (zTaken p x)) else zTaken p x) y ∧ aesSample p x = y := by
  have hRun : audOf x p = r := nth_of_get hPort
  obtain ⟨b, hTaken, -, -, hLocked⟩ := zTaken_port hPort
  refine ⟨_, ?_, rfl⟩
  unfold aesSample
  lift_lets
  extract_lets c st fs was stamped taken reported o stamp per expects
  have hWas : (!was && (audOf taken p).rxLocked) = (!r.rxLocked && decide (r.zRun + 1 ≥ 3)) := by
    have hNow : (audOf taken p).rxLocked = (r.rxLocked || decide (r.zRun + 1 ≥ 3)) := (congrArg AudRun.rxLocked (nth_of_get hTaken)).trans hLocked
    rw [hNow, show was = r.rxLocked from congrArg AudRun.rxLocked hRun]
    cases r.rxLocked <;> rfl
  have hReported : reported = if !r.rxLocked && decide (r.zRun + 1 ≥ 3) then audEvent p 5 (apHealth p (zTaken p x)) else zTaken p x := by
    rw [← hWas]
    rfl
  rw [← hReported, if_neg (by simp [hRuns, c, hMode, hRx])]
  exact sideStays_ite (sideStays_refl _) (sideStays_deliver _ _ _ (sideStays_same (sideStays_refl _) rfl rfl rfl))
theorem aesSample_row : ∃ b, (aesSample p x).aud.ports[p]? = some b ∧ b.zRun = min 3 (r.zRun + 1) ∧ b.lastRx = stampNow x ∧
    (b.rxLocked = true ↔ r.rxLocked = true ∨ 3 ≤ r.zRun + 1) ∧ (r.rxLocked = false → 3 ≤ r.zRun + 1 → causeStands 14 5 (aesSample p x)) := by
  obtain ⟨y, hStays, hGoes⟩ := aesSample_samples hPort hRuns hMode hRx
  obtain ⟨b, hTaken, hCount, hStamp, hLocked⟩ := zTaken_port hPort
  have hLock : b.rxLocked = true ↔ r.rxLocked = true ∨ 3 ≤ r.zRun + 1 := by
    rw [hLocked, Bool.or_eq_true, decide_eq_true_eq]
  rw [hGoes]
  cases hNew : (!r.rxLocked && decide (r.zRun + 1 ≥ 3)) with
  | true =>
    rw [hNew, if_pos rfl] at hStays
    have hHealth : (apHealth p (zTaken p x)).aud.ports[p]? = some b := (congrArg (·.ports[p]?) (sideStays_aud (sideStays_apHealth p (sideStays_refl (zTaken p x))))).trans hTaken
    have hAfter := (congrArg (·.ports[p]?) (sideStays_aud hStays)).trans (audEvent_port hHealth)
    refine ⟨_, hAfter, hCount, hStamp, hLock, fun _ _ => hStays.1.2 _ _ (stands_audEvent p 5 _ (by decide))⟩
  | false =>
    rw [hNew, if_neg Bool.false_ne_true] at hStays
    refine ⟨b, (congrArg (·.ports[p]?) (sideStays_aud hStays)).trans hTaken, hCount, hStamp, hLock, fun hOff hThird => ?_⟩
    rw [hOff, decide_eq_true hThird] at hNew
    exact absurd hNew (by decide)
/-- The port after a preamble that is missing in lock (R470). -/
def aesUnlocked (p : Nat) (x : State) : State := updAud p (fun a => { a with
  zRun := 0, rxLocked := false, gap := true, fill := a.fill.map fun f => { f with flags := setBit f.flags 1 } }) x
omit hRuns hMode hRx in
theorem aesUnlocked_port : ∃ b, (aesUnlocked p x).aud.ports[p]? = some b ∧ b.zRun = 0 ∧ b.rxLocked = false ∧ b.gap = true :=
  ⟨_, updAud_port _ hPort, rfl, rfl, rfl⟩
theorem aesLost_row : (r.rxLocked = false → aesLost p x = { x with aud := { x.aud with ports := x.aud.ports.set p { r with zRun := 0 } } }) ∧
    (r.rxLocked = true → causeStands 14 6 (aesLost p x) ∧ ∃ b, (aesLost p x).aud.ports[p]? = some b ∧ b.zRun = 0 ∧ b.rxLocked = false ∧ b.gap = true) := by
  have hRun : audOf x p = r := nth_of_get hPort
  have hGoes : aesLost p x = if !r.rxLocked then updAud p (fun a => { a with zRun := 0 }) x
      else evalAll (apHealth p (audEvent p 6 (aesUnlocked p x))) := by
    unfold aesLost
    dsimp only
    rw [hRun, if_neg (by simp [hRuns, hMode, hRx])]
    rfl
  refine ⟨fun hOff => ?_, fun hOn => ?_⟩
  · rw [hGoes, if_pos (by rw [hOff]; rfl)]
    exact updAud_of_get (fun a => { a with zRun := 0 }) hPort
  · rw [hGoes, hOn, if_neg (by decide)]
    have hStays : sideStays (audEvent p 6 (aesUnlocked p x)) (evalAll (apHealth p (audEvent p 6 (aesUnlocked p x)))) :=
      sideStays_evalAll (sideStays_apHealth p (sideStays_refl _))
    obtain ⟨b, hLost, hCount, hUnlocked, hGap⟩ := aesUnlocked_port hPort
    have hAfter := (congrArg (·.ports[p]?) (sideStays_aud hStays)).trans (audEvent_port (e := 6) hLost)
    exact ⟨hStays.1.2 _ _ (stands_audEvent p 6 _ (by decide)), _, hAfter, hCount, hUnlocked, hGap⟩

end

/-! ### The rows -/

theorem frameBoundary_row {p g : Nat} {s : State} {r : AudRun} (hPort : s.aud.ports[p]? = some r) (hRuns : running s = true) (hActive : r.active = true)
    (hGroup : groupOfPort s.work p = some g) :
    let y := { s with out := [] }
    let c := audCfg s p
    let k := nextBoundary y p (((audGroup s g).start : Int) - c.runIn)
    let z := moveToDomain c.domain (boundaryAt c k) y
    (halfPeriod c r (edgeWhen z c.domain (boundaryAt c k)) = true → exec (.audioFrameBoundary p) s = .next z) ∧
    (halfPeriod c r (edgeWhen z c.domain (boundaryAt c k)) = false →
      ((audGroup s g).stop = none ∨ (∃ e ∈ (audGroup s g).stop, k < (e : Int)) →
        ∃ t' b, exec (.audioFrameBoundary p) s = .next t' ∧ kept t' = kept z ∧ t'.aud.ports[p]? = some b ∧ b.active = true ∧ b.begun = true ∧ b.index = k.toNat ∧
          (audTx c = true → c.mode ≠ 4 → (audGroup s g).start ≤ k.toNat → (getKey k.toNat r.sched).getD none = none →
            b.inUnder = true ∧ b.underruns = add48 r.underruns 1 ∧ (r.inUnder = false → causeStands 14 2 t')) ∧
          ((audGroup s g).start ≤ k.toNat → r.begun = false → (audGroup s g).started = false → g < s.aud.groups.length →
            (audGroup t' g).started = true ∧ causeStands 14 0 t')) ∧
      (∀ e : Nat, (audGroup s g).stop = some e → (e : Int) ≤ k →
        ∃ t' b, exec (.audioFrameBoundary p) s = .next t' ∧ kept t' = kept z ∧ t'.aud.ports[p]? = some b ∧ b.active = false ∧ b.begun = false ∧ b.queue = [] ∧
          b.stopDiscards = add48 r.stopDiscards r.queue.length ∧
          ((audGroup s g).running = true → (∀ m ∈ membersOf s.work g, m ≠ p → (audOf s m).active = false) → causeStands 14 1 t'))) := by
  intro y c k z
  have hRow : exec (.audioFrameBoundary p) s = .next (frameBoundary p y) := rfl
  have hAud : z.aud = s.aud := moveToDomain_aud _ _ y
  have hWork : z.work = s.work := moveToDomain_work _ _ y
  have hStill : z.aud.ports[p]? = some r := (congrArg (·.ports[p]?) hAud).trans hPort
  have hRun : audOf z p = r := nth_of_get hStill
  have hOn : (audOf y p).active = true := (congrArg AudRun.active (nth_of_get hPort)).trans hActive
  have hGroups : audGroup z g = audGroup s g := congrArg (fun a : AudPart => nth a.groups g) hAud
  have hCfg : audCfg z p = c := congrArg (fun w : Cfg => nth w.aud p) hWork
  have hKept : kept z = kept s := (kept_moveToDomain _ _ y).trans rfl
  refine ⟨fun hHalf => ?_, fun hWhole => ⟨fun hAhead => ?_, fun e hStop hPast => ?_⟩⟩
  · rw [← hRun] at hHalf
    exact hRow.trans (congrArg Outcome.next (frameBoundary_half (s := y) hRuns hOn hGroup rfl rfl hHalf))
  all_goals rw [← hRun] at hWhole
  · have hGoes := hRow.trans (congrArg Outcome.next (frameBoundary_plays (s := y) (k := k) (z := z) hRuns hOn hGroup rfl rfl hWhole hAhead))
    obtain ⟨b, hPlayed, hBActive, hBegun, hIndex, hUnder, hShort, hFirst⟩ := playFrame_plays (g := g) (k := k.toNat) hStill
    refine ⟨_, b, hGoes, (kept_of_event rfl hGoes).trans hKept.symm, hPlayed, hBActive.trans hActive, hBegun, hIndex, fun hTx hMode hPast hNone => ?_, fun hPast hNew hNot hLength => ?_⟩
    · have hIs : playIsShort g p k.toNat z = true := by
        unfold playIsShort playData
        rw [hCfg, hGroups, hRun, hTx, decide_eq_true hPast, hNone]
        simpa using hMode
      obtain ⟨hCount, hCause⟩ := hShort hIs
      exact ⟨hUnder.trans hIs, hCount, hCause⟩
    · have hIs : playIsFirst g p k.toNat z = true := by
        unfold playIsFirst
        rw [hGroups, hRun, hNew, decide_eq_true hPast]
        rfl
      exact hFirst hIs (by rw [hGroups]; exact hNot) (by rw [hAud]; exact hLength)
  · have hGoes := hRow.trans (congrArg Outcome.next (frameBoundary_stops (s := y) (k := k) (z := z) hRuns hOn hGroup rfl rfl hWhole hStop hPast))
    obtain ⟨b, hStopped, hBActive, hBegun, hQueue, hDiscards, hCause⟩ := stopped_row (g := g) hStill
    refine ⟨_, b, hGoes, (kept_of_event rfl hGoes).trans hKept.symm, hStopped, hBActive, hBegun, hQueue, hDiscards, fun hGroupRuns hAll => hCause (by rw [hGroups]; exact hGroupRuns) fun m hMem hOther => ?_⟩
    rw [hWork] at hMem
    have hSame : audOf z m = audOf s m := congrArg (fun a : AudPart => nth a.ports m) hAud
    rw [hSame]
    exact hAll m hMem hOther

/-- Settles O47, row by row. -/
theorem audioFrames : Obligations.AudioFrames := by
  unfold Obligations.AudioFrames
  refine ⟨?boundary, ?read, ?buffer, ?frame, ?receiver⟩
  case boundary =>
    intro p g s r y hPort
    refine ⟨fun hIdle => ?_, fun hRuns hActive hGroup => frameBoundary_row hPort hRuns hActive hGroup⟩
    have hRun : audOf y p = r := nth_of_get hPort
    have hGoes : frameBoundary p y = y := by
      unfold frameBoundary
      rw [hRun, if_pos]
      obtain hOut | hOff := hIdle
      · rw [show running y = false from hOut]
        rfl
      · rw [hOff, Bool.not_false, Bool.or_true]
    exact congrArg Outcome.next hGoes
  case read =>
    intro p s r y c k hPort hRuns hActive hMode hTx
    obtain ⟨hBehind, hAhead⟩ := txRead_reads (s := y) hPort hRuns hActive hMode hTx (k := k) rfl
    refine ⟨fun hLess => ?_, fun hMore => ?_⟩
    · exact congrArg Outcome.next ((hBehind hLess).trans (updAud_of_get _ hPort))
    · intro z
      have hStill : z.aud.ports[p]? = some r := (congrArg (·.ports[p]?) (moveToDomain_aud _ _ y)).trans hPort
      exact congrArg Outcome.next ((hAhead hMore).trans (updAud_of_get _ hStill))
  case buffer =>
    intro p t desc n data s r hRuns x c ring hPort hRing hLength hDma hOn hAhead hDesc
    have hRow : exec (.audioBufferHead p t desc data) s = .next (takeBuffer p desc data x) := next_begin hRuns _
    refine ⟨_, hRow, kept_row rfl hRow, takeBuffer_fetches hRing hDma hOn hAhead hDesc hLength, fun first recs hGood => ⟨?_, ?_, ?_⟩, takeBuffer_bad hRing hDma hOn hAhead hDesc⟩
    · exact takeBuffer_far hPort hRing hDma hOn hAhead hDesc hGood
    · exact takeBuffer_timely hPort hRing hDma hOn hAhead hDesc hGood
    · exact fun _ hNear hAll hSome => takeBuffer_late hPort hRing hDma hOn hAhead hDesc hGood hNear hAll hSome
  case frame =>
    intro p t n w s r x c hPort hRuns hRx hMode
    refine ⟨fun hEarly => ?_, fun hPast hFill hRing hRoom => ?_, fun f hPast hFill hRoom => ?_⟩
    · have hGoes := rxFrame_pcm (w := w) hRuns hRx hMode
      rw [hEarly, if_neg Bool.false_ne_true] at hGoes
      exact congrArg Outcome.next hGoes
    · exact ⟨_, rfl, rxFrame_overrun hPort hRuns hRx hMode hPast hFill hRing hRoom⟩
    · exact congrArg Outcome.next (rxFrame_stored hPort hRuns hRx hMode hPast hFill hRoom)
  case receiver =>
    intro p t s r x c hPort hRuns hMode hRx
    have hSample : exec (.aes3Sample p t) s = .next (aesSample p x) := rfl
    have hLoss : exec (.darsLockLost p t) s = .next (aesLost p x) := rfl
    obtain ⟨b, hTaken, hRest⟩ := aesSample_row hPort hRuns hMode hRx
    obtain ⟨hUnlocked, hLocked⟩ := aesLost_row hPort hRuns hMode hRx
    refine ⟨⟨_, b, hSample, kept_row rfl hSample, hTaken, hRest⟩, fun hOff => hLoss.trans (congrArg Outcome.next (hUnlocked hOff)), fun hOn => ?_⟩
    obtain ⟨hCause, b', hPorts, hFields⟩ := hLocked hOn
    exact ⟨_, b', hLoss, kept_row rfl hLoss, hCause, hPorts, hFields⟩

end Sys2Proof.Machine
end

section
/-! PROOFS. Heartbeats: sent on each lane, taken from the partner, and lost (R397 to R402, R406, R407, R414). -/
namespace Sys2Proof.Machine
open Sys2Proof Host

/-! ### Steps that keep a part of the pair's state -/

/-- What `f` shows of the pair is as it was, and the outputs of the step and the causes that stood are still there. -/
def pairKeeps {α : Type} (f : PairRun → α) (r s : State) : Prop := follows r s ∧ f s.pair = f r.pair

section
variable {α : Type} {f : PairRun → α} {r s t : State}
theorem pairKeeps_refl (f : PairRun → α) (s : State) : pairKeeps f s s := ⟨follows_refl s, rfl⟩
theorem pairKeeps_trans (h : pairKeeps f s t) (k : pairKeeps f r s) : pairKeeps f r t := ⟨follows_trans h.1 k.1, h.2.trans k.2⟩
theorem pairKeeps_same (h : pairKeeps f r s) (hOut : t.out = s.out) (hCause : t.host.cause = s.host.cause) (hPair : f t.pair = f s.pair) : pairKeeps f r t :=
  ⟨follows_same h.1 hOut hCause, hPair.trans h.2⟩
theorem pairKeeps_ite {c : Prop} [Decidable c] (hs : pairKeeps f r s) (ht : pairKeeps f r t) : pairKeeps f r (if c then s else t) := by
  split
  · exact hs
  · exact ht
theorem pairKeeps_foldl {β : Type} (g : State → β → State) (hStep : ∀ x a, pairKeeps f x (g x a)) (l : List β) (h : pairKeeps f r s) :
    pairKeeps f r (l.foldl g s) := by
  induction l generalizing s with
  | nil => exact h
  | cons a l ih => exact ih (pairKeeps_trans (hStep s a) h)
/-- A step that leaves the whole pair alone. -/
theorem pairKeeps_of_side (hStep : sideStays s t) (h : pairKeeps f r s) : pairKeeps f r t :=
  pairKeeps_trans ⟨hStep.1, congrArg f (sideStays_pair hStep)⟩ h
theorem pairKeeps_raise (c b : Nat) (h : pairKeeps f r s) : pairKeeps f r (raise c b s) := pairKeeps_of_side (sideStays_raiseIdx c b 0 (sideStays_refl s)) h
theorem pairKeeps_settleBound (h : pairKeeps f r s) : pairKeeps f r (settleBound s) := pairKeeps_of_side (sideStays_settleBound (sideStays_refl s)) h
end

/-! ### HEARTBEAT_TX (R397, R398) -/

/-- The heartbeat of one lane, which a lane that is not UP does not send. -/
def sendHeartbeat (s : State) (n : Nat) : State :=
  if laneUp s n then
    let s := emit (.link (some n) "HEARTBEAT" (heartbeat n s)) s
    bump (64 * 12 + 32) (updLane n (fun l => { l with
      sent := ((l.seq, stampNow s, s.time.stepEpoch) :: l.sent).take 64, seq := (l.seq + 1) % 2 ^ 32 }) s)
  else s

theorem heartbeat_seq (n : Nat) (s : State) : fld (heartbeat n s) 4 4 = (laneOf s n).seq % 2 ^ 32 := by
  unfold heartbeat
  dsimp only
  simp only [List.append_assoc]
  simp only [fld_append_right, leBytes_length, Nat.reduceSub, Nat.reduceLeDiff]
  exact fld_le_here _ _ _
theorem sendHeartbeat_out (n : Nat) (s : State) : ∀ o ∈ s.out, o ∈ (sendHeartbeat s n).out := by
  intro o hOut
  unfold sendHeartbeat
  split
  · exact List.mem_append_left _ hOut
  · exact hOut
theorem sendHeartbeat_hbNext (n : Nat) (s : State) : (sendHeartbeat s n).pair.hbNext = s.pair.hbNext := by
  unfold sendHeartbeat
  split <;> rfl
theorem sendHeartbeat_otherLane {m n : Nat} (h : n ≠ m) (s : State) : (sendHeartbeat s n).pair.lanes[m]? = s.pair.lanes[m]? := by
  unfold sendHeartbeat
  split
  · exact (upd_get _ n m _).trans (if_neg h)
  · rfl
theorem sendHeartbeat_up {n : Nat} {s : State} {l : LaneRun} (hLane : s.pair.lanes[n]? = some l) (hUp : l.state = .up) :
    (∃ l', (sendHeartbeat s n).pair.lanes[n]? = some l' ∧ l'.seq = (l.seq + 1) % 2 ^ 32) ∧
    ∃ b, Output.link (some n) "HEARTBEAT" b ∈ (sendHeartbeat s n).out ∧ fld b 4 4 = l.seq % 2 ^ 32 := by
  have hIs : laneOf s n = l := nth_of_get hLane
  have hGoes : laneUp s n = true := by
    rw [laneUp, hIs, hUp]
    rfl
  unfold sendHeartbeat
  rw [if_pos hGoes]
  refine ⟨⟨_, (upd_get _ n n _).trans ((if_pos rfl).trans (congrArg (Option.map _) hLane)), rfl⟩,
    heartbeat n s, List.mem_append_right _ (List.mem_singleton_self _), ?_⟩
  rw [heartbeat_seq, hIs]

/-- In pair mode with a lane UP the time of the next heartbeat is set, and each lane in turn sends. -/
theorem heartbeatTx_sends {x : State} (hMode : x.work.pair.mode = 1) (hRun : running x = true) (hUp : laneUp x 0 = true ∨ laneUp x 1 = true) :
    heartbeatTx x = sendHeartbeat (sendHeartbeat (updPair (fun p => { p with hbNext := (moveTo x.pair.hbNext x).now + 1000000 }) (moveTo x.pair.hbNext x)) 0) 1 := by
  have hGoes : (x.work.pair.mode != 1 || !running x || !(laneUp x 0 || laneUp x 1)) = false := by
    rcases hUp with hUp | hUp <;> simp [hMode, hRun, hUp]
  unfold heartbeatTx
  rw [if_neg (by rw [hGoes]; decide)]
  rfl

/-- HEARTBEAT_TX sends one heartbeat on each lane that is UP, with the lane's sequence number, and the next is due 1 µs later. -/
theorem heartbeatTx_row {s : State} (hMode : s.work.pair.mode = 1) (hRun : running s = true) (hUp : laneUp s 0 = true ∨ laneUp s 1 = true) :
    ∃ t', exec .heartbeatTx s = .next t' ∧ kept t' = kept s ∧ t'.pair.hbNext = (moveTo s.pair.hbNext { s with out := [] }).now + 1000000 ∧
      ∀ n l, n < 2 → s.pair.lanes[n]? = some l → l.state = .up →
        (laneOf t' n).seq = (l.seq + 1) % 2 ^ 32 ∧ ∃ b, Output.link (some n) "HEARTBEAT" b ∈ t'.out ∧ fld b 4 4 = l.seq % 2 ^ 32 := by
  have hSends := heartbeatTx_sends (x := { s with out := [] }) hMode hRun hUp
  revert hSends
  generalize hDue : updPair (fun p => { p with hbNext := (moveTo s.pair.hbNext { s with out := [] }).now + 1000000 })
    (moveTo s.pair.hbNext { s with out := [] }) = due
  intro hSends
  have hNext : due.pair.hbNext = (moveTo s.pair.hbNext { s with out := [] }).now + 1000000 := by
    rw [← hDue]
    rfl
  have hLanes : due.pair.lanes = s.pair.lanes := by
    rw [← hDue]
    exact congrArg (·.lanes) (moveTo_pair _ _)
  have hRow : exec .heartbeatTx s = .next (sendHeartbeat (sendHeartbeat due 0) 1) := congrArg Outcome.next hSends
  refine ⟨_, hRow, kept_of_event rfl hRow, ?_, fun n l hn hLane hIsUp => ?_⟩
  · rw [sendHeartbeat_hbNext, sendHeartbeat_hbNext, hNext]
  · rw [← hLanes] at hLane
    match n, hn with
    | 0, _ =>
      obtain ⟨⟨l', hSent, hSeq⟩, b, hOut, hBytes⟩ := sendHeartbeat_up hLane hIsUp
      have hAfter : (sendHeartbeat (sendHeartbeat due 0) 1).pair.lanes[0]? = some l' := (sendHeartbeat_otherLane (by decide) _).trans hSent
      exact ⟨(congrArg (·.seq) (nth_of_get hAfter)).trans hSeq, b, sendHeartbeat_out 1 _ _ hOut, hBytes⟩
    | 1, _ =>
      have hStill : (sendHeartbeat due 0).pair.lanes[1]? = some l := (sendHeartbeat_otherLane (by decide) _).trans hLane
      obtain ⟨⟨l', hSent, hSeq⟩, b, hOut, hBytes⟩ := sendHeartbeat_up hStill hIsUp
      exact ⟨(congrArg (·.seq) (nth_of_get hSent)).trans hSeq, b, hOut, hBytes⟩

/-! ### What a sample of the partner leaves (R400 to R402) -/

theorem sideStays_enterTracking (d : Nat) (st : DpllState) {r s : State} (h : sideStays r s) : sideStays r (enterTracking d st s) := sideStays_updDpll d _ h
theorem sideStays_enterLocked (d : Nat) {r s : State} (h : sideStays r s) : sideStays r (enterLocked d s) := by
  unfold enterLocked
  dsimp only
  exact sideStays_ite (sideStays_raiseIdx _ _ _ (sideStays_clearDist (sideStays_same h rfl rfl rfl))) (sideStays_raiseIdx _ _ _ (sideStays_updDpll d _ h))
theorem sideStays_stepCounter (off : Int) {r s : State} (h : sideStays r s) : sideStays r (stepCounter off s) :=
  ⟨follows_stepCounter off h.1, (sides_of_offChoice (offChoice_stepCounter off s)).trans h.2⟩
theorem sideStays_nextTick {r s : State} (h : sideStays r s) : sideStays r (nextTick s) :=
  sideStays_same h (moveTo_out _ s) (congrArg (·.cause) (moveTo_host _ s)) (Prod.ext (moveTo_aud _ s) (moveTo_pair _ s))
theorem sideStays_fFollow (b : Bytes) {r s : State} (h : sideStays r s) : sideStays r (fFollow b s) := by
  unfold fFollow
  dsimp only
  refine sideStays_foldl _ (fun x d => sideStays_ite ?_ (sideStays_refl x)) _ h
  exact sideStays_updDpll d _ (sideStays_updDpll d _ (sideStays_loopSample d _ _ _ (sideStays_refl x)))

/-- What a heartbeat says of the partner, and that the partner is heard. -/
def hearing (p : PairRun) : Bool × HbView := (p.heard, p.partner)

section
variable {r s : State}
/-- A change of the pair's state alone, outside what it hears. -/
theorem hears_updPair (f : PairRun → PairRun) (hKeeps : ∀ p, hearing (f p) = hearing p) (h : pairKeeps hearing r s) : pairKeeps hearing r (updPair f s) :=
  pairKeeps_same h rfl rfl (hKeeps s.pair)
theorem hears_testRan (item : Nat) (ok : Bool) (detail : Nat) (h : pairKeeps hearing r s) : pairKeeps hearing r (testRan item ok detail s) := by
  have hRan := hears_updPair (fun p => { p with tests := upd p.tests item fun t =>
    { t with result := if ok then 0 else 1, detail := if ok then 0 else detail, lastRun := (s.now - s.boot.resetEnd) / msPs
             failures := if ok then t.failures else (t.failures + 1) % 2 ^ 32 } }) (fun _ => rfl) h
  exact pairKeeps_ite hRan (pairKeeps_trans ⟨follows_occur _ _ (follows_refl _), congrArg hearing (occur_pair _ _ _)⟩ (pairKeeps_raise 12 8 hRan))
theorem hears_firstLoad (b : Bytes) (h : pairKeeps hearing r s) : pairKeeps hearing r (firstLoad b s) := by
  unfold firstLoad
  lift_lets
  extract_lets lag src loaded timed
  have hTimed : pairKeeps hearing r timed := pairKeeps_same h rfl rfl rfl
  exact pairKeeps_of_side (sideStays_updRef 93 _ (sideStays_foldl _ (fun x d => sideStays_enterTracking d _ (sideStays_refl x)) _ (sideStays_refl timed))) hTimed
theorem hears_joinCheck (theta : Int) (h : pairKeeps hearing r s) : pairKeeps hearing r (joinCheck theta s) := by
  unfold joinCheck
  lift_lets
  extract_lets within counted locked
  have hCounted : pairKeeps hearing r counted := hears_updPair _ (fun _ => rfl) h
  have hLocked : pairKeeps hearing r locked := pairKeeps_of_side
    (sideStays_ite (sideStays_settleBound (sideStays_enterLocked 0 (sideStays_refl counted))) (sideStays_refl counted)) hCounted
  exact pairKeeps_ite hCounted (pairKeeps_ite (hears_updPair _ (fun _ => rfl) hLocked) hLocked)
theorem hears_partnerSample (n : Nat) (b : Bytes) (theta delay : Int) (h : pairKeeps hearing r s) :
    pairKeeps hearing r (partnerSample n b theta delay s) := by
  unfold partnerSample
  lift_lets
  extract_lets noted was taken followed joined
  have hNoted : pairKeeps hearing r noted := hears_updPair _ (fun _ => rfl) h
  have hTaken : pairKeeps hearing r taken := pairKeeps_of_side (sideStays_deliver _ _ _ (sideStays_refl noted)) hNoted
  have hFollowed : pairKeeps hearing r followed :=
    pairKeeps_ite (pairKeeps_ite (hears_firstLoad b hTaken) hTaken) (pairKeeps_of_side (sideStays_fFollow b (sideStays_refl taken)) hTaken)
  have hJoined : pairKeeps hearing r joined := pairKeeps_ite (hears_joinCheck theta hFollowed) hFollowed
  exact pairKeeps_ite hTaken (pairKeeps_ite (hears_testRan _ _ _ hJoined) hJoined)
theorem hears_epochSet (epoch : Nat) (h : pairKeeps hearing r s) : pairKeeps hearing r { s with time := { s.time with stepEpoch := epoch } } :=
  pairKeeps_same h rfl rfl rfl
theorem hears_followEpoch (b : Bytes) (h : pairKeeps hearing r s) : pairKeeps hearing r (followEpoch b s) := by
  have hStepped : pairKeeps hearing r (stepCounter (fldI b 40 8) (nextTick s)) :=
    pairKeeps_of_side (sideStays_stepCounter _ (sideStays_nextTick (sideStays_refl s))) h
  unfold followEpoch
  exact pairKeeps_ite h (pairKeeps_settleBound (hears_epochSet _ hStepped))

/-! ### What else a heartbeat does (R394, R399, R407, R419) -/

theorem hears_enterJoining (hDummy : isDummy s = true) (h : pairKeeps hearing r s) : pairKeeps hearing r (enterJoining s) := by
  simp only [isDummy, Bool.and_eq_true, beq_iff_eq, Bool.not_eq_true'] at hDummy
  obtain ⟨-, -, -, hPair⟩ := enterJoining_fields s
  have hHears : hearing (enterJoining s).pair = hearing s.pair := (congrArg hearing hPair).trans rfl
  exact pairKeeps_trans ⟨follows_enterJoining hDummy.1 hDummy.2 (follows_refl s), hHears⟩ h
theorem hears_afterDrop (before : State) (h : pairKeeps hearing r s) : pairKeeps hearing r (afterDrop before s) := by
  unfold afterDrop
  split
  next hDrops =>
    simp only [Bool.and_eq_true, beq_iff_eq, Bool.not_eq_true'] at hDrops
    obtain ⟨⟨⟨-, hEnable⟩, hMode⟩, -⟩ := hDrops
    exact hears_enterJoining (by simp [isDummy, hMode, hEnable]) h
  · exact h
theorem hearing_dropClaim (s : State) : hearing (dropClaim s).pair = hearing s.pair := by
  unfold dropClaim noteEdge
  split
  · rfl
  · dsimp only
    split
    · exact (congrArg hearing (occur_pair _ _ _)).trans rfl
    · rfl
theorem hears_dropClaim (h : pairKeeps hearing r s) : pairKeeps hearing r (dropClaim s) :=
  pairKeeps_trans ⟨follows_dropClaim (follows_refl s), hearing_dropClaim s⟩ h
theorem hears_checkStrap (v : HbView) (h : pairKeeps hearing r s) : pairKeeps hearing r (checkStrap v s) := by
  unfold checkStrap
  exact pairKeeps_ite (pairKeeps_raise _ _ (hears_updPair _ (fun _ => rfl) h)) (hears_updPair _ (fun _ => rfl) h)
theorem hears_leaveAlone (h : pairKeeps hearing r s) : pairKeeps hearing r (leaveAlone s) := by
  unfold leaveAlone
  split
  · exact h
  · split
    · exact hears_updPair _ (fun _ => rfl) h
    next hDummy =>
      have hIs : isDummy s = true := by simpa using hDummy
      exact pairKeeps_ite (hears_enterJoining hIs h) h
theorem hears_bulkCopy (v : HbView) (h : pairKeeps hearing r s) : pairKeeps hearing r (bulkCopy v s) :=
  pairKeeps_ite (pairKeeps_of_side (sideStays_emit _ (sideStays_emit _ (sideStays_refl s))) h) h
theorem hears_takeAck (hand : Nat) (h : pairKeeps hearing r s) : pairKeeps hearing r (takeAck hand s) := by
  unfold takeAck
  split
  · exact h
  · exact hears_updPair _ (fun _ => rfl) h
/-- The claim that yields to a partner that drives against it (R419). -/
theorem hears_yield (h : pairKeeps hearing r s) :
    pairKeeps hearing r (updPair (fun p => { p with dual := 0, yielded := true }) (raise 12 12 (dropClaim s))) :=
  hears_updPair _ (fun _ => rfl) (pairKeeps_raise 12 12 (hears_dropClaim h))
theorem hears_dualDrive (v : HbView) (h : pairKeeps hearing r s) : pairKeeps hearing r (dualDrive v s) := by
  have hYields := hears_afterDrop s (hears_yield h)
  unfold dualDrive
  exact pairKeeps_ite (pairKeeps_ite (hears_updPair _ (fun _ => rfl) h) h)
    (pairKeeps_ite (pairKeeps_ite hYields (hears_updPair _ (fun _ => rfl) h)) (hears_updPair _ (fun _ => rfl) h))
theorem hears_bumpBy (n k : Nat) (h : pairKeeps hearing r s) : pairKeeps hearing r (bumpBy n k s) := pairKeeps_same h rfl rfl rfl
theorem hears_missed (gap : Nat) (h : pairKeeps hearing r s) : pairKeeps hearing r
    (if gap = 0 ∨ gap ≥ 2 ^ 31 then s else bumpBy (64 * 12 + 33) gap (updPair (fun p => { p with hbMissed := (p.hbMissed + gap) % 2 ^ 32 }) s)) :=
  pairKeeps_ite h (hears_bumpBy _ _ (hears_updPair _ (fun _ => rfl) h))
theorem hears_noteMissed (n q : Nat) (h : pairKeeps hearing r s) : pairKeeps hearing r (noteMissed n q s) := by
  unfold noteMissed
  split
  · exact h
  · exact hears_missed _ h
end

/-! ### HEARTBEAT_RX (R399, R404) -/

/-- The partner is heard from now on, with its cause where it was not before (R399). -/
theorem hearPartner_hears (s : State) : (hearPartner s).pair.heard = true ∧ (s.pair.heard = false → causeStands 12 3 (hearPartner s)) := by
  unfold hearPartner
  dsimp only
  split
  next hWas => exact ⟨rfl, fun hNot => absurd hWas (by simp [hNot])⟩
  next => exact ⟨congrArg (·.heard) (raise_pair _ _ _), fun _ => stands_raise_self 12 3 _ (by decide)⟩

/-- What a good heartbeat does to a chip that hears its lane. -/
def heartbeatTaken (n : Nat) (h : Bytes) (s : State) : State :=
  let v := hbViewOf h
  let s := noteMissed n (fld h 4 4) s
  let off := linkOffsets n h s
  let s := updLane n (fun l => { l with got := some (fld h 4 4, stampNow s, s.time.stepEpoch, v.stepEpoch) }) s
  let s := bulkCopy v (leaveAlone (checkStrap v (hearPartner s)))
  let s := dualDrive v (takeAck v.snapAck (updPair (fun p => { p with partner := v }) s))
  let s := match off with | some (theta, d) => partnerSample n h theta d s | none => s
  followEpoch h s

theorem heartbeatRx_deaf {n t : Nat} {ok : Bool} {h : Bytes} {s : State} (hBad : ok = false) : heartbeatRx n t ok h s = begin_ t s := by
  unfold heartbeatRx
  dsimp only
  rw [if_pos (by simp [hBad])]
theorem heartbeatRx_good {n t : Nat} {h : Bytes} {s : State} (hMode : (begin_ t s).work.pair.mode = 1) (hRun : running (begin_ t s) = true)
    (hUp : laneUp (begin_ t s) n = true) : heartbeatRx n t true h s = heartbeatTaken n h (begin_ t s) := by
  unfold heartbeatRx
  revert hMode hRun hUp
  generalize begin_ t s = x
  intro hMode hRun hUp
  dsimp only
  rw [if_neg (by simp [hMode, hRun, hUp])]
  rfl
theorem heartbeatTaken_hears (n : Nat) (h : Bytes) (s : State) :
    let t := heartbeatTaken n h s
    t.pair.heard = true ∧ t.pair.partner = hbViewOf h ∧ (s.pair.heard = false → causeStands 12 3 t) := by
  unfold heartbeatTaken
  lift_lets
  extract_lets v missed off got told seen sampled
  have hHeard := hearPartner_hears got
  have hMissed : pairKeeps hearing s missed := hears_noteMissed n _ (pairKeeps_refl hearing s)
  have hWas : got.pair.heard = s.pair.heard := congrArg Prod.fst hMissed.2
  have hTold : pairKeeps hearing (hearPartner got) told := hears_bulkCopy v (hears_leaveAlone (hears_checkStrap v (pairKeeps_refl hearing _)))
  have hSeen : pairKeeps hearing (updPair (fun p => { p with partner := v }) told) seen := hears_dualDrive v (hears_takeAck _ (pairKeeps_refl hearing _))
  have hSampled : pairKeeps hearing seen sampled := by
    have hEither : ∀ o : Option (Int × Int), pairKeeps hearing seen (match o with | some (theta, d) => partnerSample n h theta d seen | none => seen) := by
      intro o
      cases o with
      | none => exact pairKeeps_refl hearing seen
      | some e => exact hears_partnerSample n h _ _ (pairKeeps_refl hearing seen)
    exact hEither off
  have hEnd := pairKeeps_trans (hears_followEpoch h hSampled) hSeen
  have hEndHears : hearing (followEpoch h sampled).pair = (told.pair.heard, v) := hEnd.2
  have hToldHears : told.pair.heard = true := (congrArg Prod.fst hTold.2).trans hHeard.1
  refine ⟨(congrArg Prod.fst hEndHears).trans hToldHears, congrArg Prod.snd hEndHears, fun hNot => ?_⟩
  exact hEnd.1.2 _ _ (hTold.1.2 _ _ (hHeard.2 (hWas.trans hNot)))

theorem heartbeatRx_row (n t : Nat) (h : Bytes) (s : State) : let x := begin_ t s
    exec (.heartbeatRx n t false h) s = .next x ∧
    (x.work.pair.mode = 1 → running x = true → laneUp x n = true → ∃ t', exec (.heartbeatRx n t true h) s = .next t' ∧ kept t' = kept x ∧ t'.pair.heard = true ∧
      t'.pair.partner = hbViewOf h ∧ (x.pair.heard = false → causeStands 12 3 t')) := by
  intro x
  refine ⟨congrArg Outcome.next (heartbeatRx_deaf rfl), fun hMode hRun hUp => ?_⟩
  have hRow : exec (.heartbeatRx n t true h) s = .next (heartbeatTaken n h x) := congrArg Outcome.next (heartbeatRx_good hMode hRun hUp)
  exact ⟨_, hRow, kept_row rfl hRow, heartbeatTaken_hears n h x⟩

/-! ### HEARTBEAT_LOST (R399, R406, R407, R414) -/

/-- That the partner is heard, and the synchronisation. -/
def listening (p : PairRun) : Bool × SyncState := (p.heard, p.sync)

theorem listens_trySeize (finding : Nat) (force : Bool) {r s : State} (h : pairKeeps listening r s) : pairKeeps listening r (trySeize finding force s) := by
  unfold trySeize
  lift_lets
  extract_lets p noted
  have hNoted : pairKeeps listening r noted := pairKeeps_same h rfl rfl rfl
  exact pairKeeps_ite h (pairKeeps_ite (pairKeeps_raise 12 6 (pairKeeps_same hNoted rfl rfl rfl)) (pairKeeps_raise 12 7 hNoted))
theorem listens_mirrorMismatch (op tag st : Nat) {r s : State} (h : pairKeeps listening r s) : pairKeeps listening r (mirrorMismatch op tag st s) :=
  pairKeeps_raise 12 11 (pairKeeps_same h rfl rfl rfl)

/-- What the loss of the partner does at the instant at which it is noticed. -/
def partnerLapses (s : State) : State :=
  let s := raise 12 2 (updPair (fun p => { p with heard := false }) s)
  let s := sourceSilent 93 (updRef 93 (fun r => { r with healthOk := false }) s)
  let late := s.pair.mirrors.filter (fun m => m.partner.isNone)
  let s := late.foldl (fun s m => mirrorMismatch m.opcode m.tag 0xFF s) (updPair (fun p => { p with mirrors := p.mirrors.filter (fun m => m.partner.isSome) }) s)
  let s := if isDummy s then trySeize 2 false s else s
  let s := if s.pair.sync == .paired || (following s.pair.sync && !s.pair.seizing) then updPair (fun p => { p with sync := .alone }) s else s
  settleBound (evalAll s)

theorem heartbeatLost_heard {s : State} (hHeard : s.pair.heard = true) :
    heartbeatLost s = partnerLapses (moveTo (s.pair.heardAt + 8000000) s) := by
  unfold heartbeatLost
  rw [if_neg (by simp [hHeard])]
  rfl
theorem partnerLapses_ends (s : State) : (partnerLapses s).pair.heard = false ∧ causeStands 12 2 (partnerLapses s) ∧
    (s.pair.sync = .paired → (partnerLapses s).pair.sync = .alone) := by
  unfold partnerLapses
  lift_lets
  extract_lets lost silent late told seized alone
  have hLost : causeStands 12 2 lost := stands_raise_self 12 2 _ (by decide)
  have hLostPair : listening lost.pair = (false, s.pair.sync) := (congrArg listening (raise_pair _ _ _)).trans rfl
  have hSilent : pairKeeps listening lost silent := pairKeeps_of_side (sideStays_sourceSilent 93 (sideStays_updRef 93 _ (sideStays_refl lost))) (pairKeeps_refl _ lost)
  have hTold : pairKeeps listening lost told :=
    pairKeeps_foldl _ (fun x m => listens_mirrorMismatch _ _ _ (pairKeeps_refl _ x)) _ (pairKeeps_same hSilent rfl rfl rfl)
  have hSeized : pairKeeps listening lost seized := pairKeeps_ite (listens_trySeize 2 false hTold) hTold
  have hSeizedPair : listening seized.pair = (false, s.pair.sync) := hSeized.2.trans hLostPair
  have hAlone : alone = updPair (fun p => { p with sync := .alone }) seized ∨ alone = seized := ite_eq_or_eq _ _ _
  have hLeft : seized.pair.sync = .paired → alone = updPair (fun p => { p with sync := .alone }) seized := fun hPaired => if_pos (by rw [hPaired]; rfl)
  clear_value alone seized lost
  have hEnd : sideStays alone (settleBound (evalAll alone)) := sideStays_settleBound (sideStays_evalAll (sideStays_refl alone))
  have hSeizedNot : seized.pair.heard = false := congrArg Prod.fst hSeizedPair
  have hAloneStays : follows lost alone ∧ alone.pair.heard = false := by
    rcases hAlone with rfl | rfl
    · exact ⟨follows_same hSeized.1 rfl rfl, hSeizedNot⟩
    · exact ⟨hSeized.1, hSeizedNot⟩
  refine ⟨(congrArg (·.heard) (sideStays_pair hEnd)).trans hAloneStays.2, hEnd.1.2 _ _ (hAloneStays.1.2 _ _ hLost), fun hPaired => ?_⟩
  have hGoes := hLeft ((congrArg Prod.snd hSeizedPair).trans hPaired)
  exact (congrArg (·.sync) (sideStays_pair hEnd)).trans (congrArg (·.pair.sync) hGoes)

/-- HEARTBEAT_LOST of a partner that is heard ends that with its cause; PAIRED becomes ALONE. -/
theorem heartbeatLost_row {s : State} (hRun : running s = true) :
    (s.pair.heard = false → exec .heartbeatLost s = .next { s with out := [] }) ∧
    (s.pair.heard = true → ∃ t', exec .heartbeatLost s = .next t' ∧ kept t' = kept s ∧ t'.pair.heard = false ∧ causeStands 12 2 t' ∧
      (s.pair.sync = .paired → t'.pair.sync = .alone)) := by
  have hGoes : exec .heartbeatLost s = .next (heartbeatLost { s with out := [] }) := next_whileRunning hRun heartbeatLost
  refine ⟨fun hNot => ?_, fun hHeard => ?_⟩
  · rw [hGoes]
    unfold heartbeatLost
    rw [if_pos (by simp [hNot])]
  · have hLapses := heartbeatLost_heard (s := { s with out := [] }) hHeard
    have hRow : exec .heartbeatLost s = .next (partnerLapses (moveTo (s.pair.heardAt + 8000000) { s with out := [] })) := hGoes.trans (congrArg Outcome.next hLapses)
    obtain ⟨hNot, hStands, hAlone⟩ := partnerLapses_ends (moveTo (s.pair.heardAt + 8000000) { s with out := [] })
    refine ⟨_, hRow, kept_of_event rfl hRow, hNot, hStands, fun hPaired => hAlone ?_⟩
    have hMoved := moveTo_pair (s.pair.heardAt + 8000000) { s with out := [] }
    exact (congrArg (·.sync) hMoved).trans hPaired

end Sys2Proof.Machine
end

section
/-! PROOFS. Snapshots: sent, applied and late, and the full copy (R29, R48, R404, R407). -/
namespace Sys2Proof.Machine
open Sys2Proof Host

/-! ### SNAPSHOT_TX -/

theorem snapshotTx_sends {t : Nat} {s x : State} {c : Snapshot} (hBegin : begin_ t s = x) (hTaken : x.pair.captured = some c)
    (hMode : x.work.pair.mode = 1) (hDummy : isDummy x = false) (hHeard : x.pair.heard = true) (hSent : x.pair.snapSent = false) :
    ∃ f : PairRun → List (Nat × List (Nat × Option Grant)), snapshotTx t s = emit (.snapshot c) (updPair (fun p => { p with snapSent := true, sentGrants := f p }) x) := by
  have hGoes : (x.work.pair.mode == 1 && !isDummy x && x.pair.heard && !x.pair.snapSent) = true := by simp [hMode, hDummy, hHeard, hSent]
  unfold snapshotTx
  rw [hBegin]
  dsimp only
  rw [hTaken, hGoes]
  dsimp only
  exact ⟨fun p => (p.sentGrants ++ [(c.hand, c.grants)]).drop (p.sentGrants.length - 1023), rfl⟩
theorem snapshotTx_silent {t : Nat} {s x : State} (hBegin : begin_ t s = x)
    (hNot : x.pair.captured = none ∨ x.work.pair.mode ≠ 1 ∨ isDummy x = true ∨ x.pair.heard = false ∨ x.pair.snapSent = true) : snapshotTx t s = x := by
  unfold snapshotTx
  rw [hBegin]
  dsimp only
  cases hTaken : x.pair.captured with
  | none => rfl
  | some c =>
    have hStops : (x.work.pair.mode == 1 && !isDummy x && x.pair.heard && !x.pair.snapSent) = false := by
      rcases hNot with hNot | hNot | hNot | hNot | hNot
      · exact absurd (hTaken.symm.trans hNot) (Option.some_ne_none c)
      all_goals simp [hNot]
    rw [hStops]

theorem snapshotTx_row {t : Nat} {s x : State} (hRun : running s = true) (hBegin : begin_ t s = x) :
    (∀ c, x.pair.captured = some c → x.work.pair.mode = 1 → isDummy x = false → x.pair.heard = true → x.pair.snapSent = false →
      ∃ t', exec (.snapshotTx t) s = .next t' ∧ t' = { x with pair := t'.pair, out := x.out ++ [.snapshot c] } ∧
        t'.pair = { x.pair with snapSent := true, sentGrants := t'.pair.sentGrants }) ∧
    (x.pair.captured = none ∨ x.work.pair.mode ≠ 1 ∨ isDummy x = true ∨ x.pair.heard = false ∨ x.pair.snapSent = true → exec (.snapshotTx t) s = .next x) := by
  have hExec : exec (.snapshotTx t) s = .next (snapshotTx t s) := congrArg Outcome.next (if_pos hRun)
  refine ⟨fun c hTaken hMode hDummy hHeard hSent => ?_, fun hNot => hExec.trans (congrArg Outcome.next (snapshotTx_silent hBegin hNot))⟩
  obtain ⟨f, hSends⟩ := snapshotTx_sends hBegin hTaken hMode hDummy hHeard hSent
  exact ⟨_, hExec.trans (congrArg Outcome.next hSends), rfl, rfl⟩

/-! ### What a snapshot's items leave of the pair and of the time part (R48, R404) -/

/-- The leap table, the pending change and the slew of a snapshot in place of those of a time part. -/
def snapTime (c : Snapshot) (t : TimePart) : TimePart :=
  { t with
    future := c.future, past := c.past, currentOffset := c.currentOffset, smearStart := c.smearStart, pend := c.pend
    slewing := c.slewing, slewOwner := c.slewOwner, slewRem := c.slewRem, slewInc := c.slewInc }

theorem sideStays_takeOutliers (m : MeldRun) {r s : State} (h : sideStays r s) : sideStays r (takeOutliers m s) := by
  unfold takeOutliers
  refine sideStays_foldl _ (fun x k => ?_) _ h
  split
  · exact sideStays_ite (sideStays_refl x) (sideStays_setCheck _ _ _ (sideStays_refl x))
  · exact sideStays_refl x
theorem sideStays_takeEpochs (c : Snapshot) {r s : State} (h : sideStays r s) : sideStays r (takeEpochs c s) := by
  unfold takeEpochs
  dsimp only
  exact sideStays_ite (sideStays_raiseIdx _ _ _ (sideStays_same h rfl rfl rfl)) (sideStays_same h rfl rfl rfl)
theorem sideStays_takeScore (c : Snapshot) {r s : State} (h : sideStays r s) : sideStays r (takeScore c s) := sideStays_same h rfl rfl rfl
theorem sideStays_takeTime (c : Snapshot) {r s : State} (h : sideStays r s) : sideStays r (takeTime c s) := sideStays_same h rfl rfl rfl
theorem takeTime_time (c : Snapshot) (s : State) : (takeTime c s).time = snapTime c s.time := rfl
theorem settleBound_time (s : State) : (settleBound s).time = s.time := (time_of_plain (settleBound_frame s)).trans rfl

/-- A snapshot's items, once they are applied: what it confirms, and its leap table, pending change and slew. -/
theorem applyItems_takes (c : Snapshot) (s : State) :
    (∃ a, (applyItems c s).pair = { s.pair with applied := a, appliedAt := s.pair.boundary, appliedInc := s.pair.boundaryInc, snapAck := c.hand }) ∧
    ∃ b, (applyItems c s).time = snapTime c b := by
  unfold applyItems
  lift_lets
  extract_lets bound c' m outliers ptp listed timed noted
  clear_value m c'
  have hOutliers : sideStays s outliers := sideStays_takeOutliers m (sideStays_same (sideStays_refl s) rfl rfl rfl)
  have hListed : sideStays s listed := sideStays_same hOutliers rfl rfl rfl
  have hEpochs : sideStays s (takeEpochs c (freeNeighbours listed)) := sideStays_takeEpochs c (sideStays_same hListed rfl rfl rfl)
  have hTimed : sideStays s timed := sideStays_takeTime c (sideStays_takeScore c hEpochs)
  have hTime : ∃ b, timed.time = snapTime c b := ⟨_, takeTime_time c _⟩
  clear_value timed
  have hNoted : noted.pair = { timed.pair with applied := some c', appliedAt := timed.pair.boundary, appliedInc := timed.pair.boundaryInc, snapAck := c.hand } := rfl
  have hNotedTime : noted.time = timed.time := rfl
  clear_value noted
  rw [sideStays_pair hTimed] at hNoted
  obtain ⟨b, hTime⟩ := hTime
  exact ⟨⟨some c', (sideStays_pair (sideStays_settleBound (sideStays_refl noted))).trans hNoted⟩, b, (settleBound_time noted).trans (hNotedTime.trans hTime)⟩

/-! ### SNAPSHOT_APPLY -/

theorem snapshotApply_takes {t : Nat} {c : Snapshot} {s x : State} (hBegin : begin_ t s = x) (hRun : running x = true)
    (hTakes : takesSnapshots x = true) (hNew : x.pair.appliedAt ≠ x.pair.boundary) (hEarly : x.now ≤ x.pair.boundary + 900000000) :
    snapshotApply t c s = bump (64 * 12 + 34) (updPair (fun p => { p with snapshotsApplied := (p.snapshotsApplied + 1) % 2 ^ 32 })
      (applyItems c (nextTick x))) := by
  have hGoes : (!running x || !takesSnapshots x || x.pair.appliedAt == x.pair.boundary || decide (x.now > x.pair.boundary + 900000000)) = false := by
    simp only [hRun, hTakes, beq_eq_false_iff_ne.mpr hNew, decide_eq_false (Nat.not_lt.mpr hEarly)]
    rfl
  unfold snapshotApply
  rw [hBegin]
  dsimp only
  rw [if_neg (by rw [hGoes]; decide)]
theorem snapshotApply_ignored {t : Nat} {c : Snapshot} {s x : State} (hBegin : begin_ t s = x)
    (hNot : takesSnapshots x = false ∨ x.pair.appliedAt = x.pair.boundary ∨ x.pair.boundary + 900000000 < x.now) : snapshotApply t c s = x := by
  unfold snapshotApply
  rw [hBegin]
  dsimp only
  refine if_pos ?_
  rcases hNot with hNot | hNot | hNot
  · simp [hNot]
  · simp [hNot]
  · simp [decide_eq_true hNot]

theorem snapshotApply_row {t : Nat} {c : Snapshot} {s x : State} (hRun : running s = true) (hBegin : begin_ t s = x) :
    (takesSnapshots x = true → x.pair.appliedAt ≠ x.pair.boundary → x.now ≤ x.pair.boundary + 900000000 →
      ∃ t', exec (.snapshotApply t c) s = .next t' ∧ kept t' = kept x ∧ t'.pair.snapAck = c.hand ∧ t'.pair.appliedAt = x.pair.boundary ∧
        t'.pair.snapshotsApplied = (x.pair.snapshotsApplied + 1) % 2 ^ 32 ∧ t'.time.future = c.future ∧ t'.time.past = c.past ∧
        t'.time.currentOffset = c.currentOffset ∧ t'.time.smearStart = c.smearStart ∧ t'.time.pend = c.pend ∧ t'.time.slewing = c.slewing ∧
        t'.time.slewOwner = c.slewOwner ∧ t'.time.slewRem = c.slewRem ∧ t'.time.slewInc = c.slewInc) ∧
    (takesSnapshots x = false ∨ x.pair.appliedAt = x.pair.boundary ∨ x.pair.boundary + 900000000 < x.now → exec (.snapshotApply t c) s = .next x) := by
  have hRunX : running x = true := hBegin ▸ running_begin hRun
  refine ⟨fun hTakes hNew hEarly => ?_, fun hNot => congrArg Outcome.next (snapshotApply_ignored hBegin hNot)⟩
  have hRow : exec (.snapshotApply t c) s = .next _ := congrArg Outcome.next (snapshotApply_takes (c := c) hBegin hRunX hTakes hNew hEarly)
  obtain ⟨⟨a, hPair⟩, b, hTime⟩ := applyItems_takes c (nextTick x)
  have hTick : (nextTick x).pair = x.pair := moveTo_pair _ x
  rw [hTick] at hPair
  revert hRow hPair hTime
  generalize applyItems c (nextTick x) = y
  intro hRow hPair hTime
  have hKept := kept_row (t := t) rfl hRow
  rw [hBegin] at hKept
  have hEndPair : (bump (64 * 12 + 34) (updPair (fun p => { p with snapshotsApplied := (p.snapshotsApplied + 1) % 2 ^ 32 }) y)).pair =
      { y.pair with snapshotsApplied := (y.pair.snapshotsApplied + 1) % 2 ^ 32 } := rfl
  have hEndTime : (bump (64 * 12 + 34) (updPair (fun p => { p with snapshotsApplied := (p.snapshotsApplied + 1) % 2 ^ 32 }) y)).time = y.time := rfl
  rw [hTime] at hEndTime
  rw [hPair] at hEndPair
  refine ⟨_, hRow, hKept, ?_⟩
  rw [hEndPair, hEndTime]
  exact ⟨rfl, rfl, rfl, rfl, rfl, rfl, rfl, rfl, rfl, rfl, rfl, rfl⟩

/-! ### SNAP_LATE -/

theorem snapLate_row {s y : State} (hRun : running s = true) (hLate : moveTo (s.pair.boundary + 900000000) { s with out := [] } = y) :
    (takesSnapshots s = true → s.pair.appliedAt ≠ s.pair.boundary → ∃ t', exec .snapLate s = .next t' ∧ causeStands 12 10 t' ∧
        plain t' = plain { y with pair := { y.pair with appliedAt := y.pair.boundary, snapLate := (y.pair.snapLate + 1) % 2 ^ 32 } }) ∧
    (takesSnapshots s = false ∨ s.pair.appliedAt = s.pair.boundary → exec .snapLate s = .next { s with out := [] }) := by
  have hExec : exec .snapLate s = .next (snapshotLate { s with out := [] }) := next_whileRunning hRun snapshotLate
  refine ⟨fun hTakes hNew => ?_, fun hNot => ?_⟩
  · have hIs : snapshotLate { s with out := [] } =
        raise 12 10 (updPair (fun p => { p with appliedAt := p.boundary, snapLate := (p.snapLate + 1) % 2 ^ 32 }) y) := by
      rw [← hLate]
      have hGoes : (!takesSnapshots s || s.pair.appliedAt == s.pair.boundary) = false := by
        simp only [hTakes, beq_eq_false_iff_ne.mpr hNew]
        rfl
      exact if_neg (by rw [show (!takesSnapshots { s with out := [] } || s.pair.appliedAt == s.pair.boundary) = false from hGoes]; decide)
    refine ⟨_, hExec.trans (congrArg Outcome.next hIs), stands_raise_self 12 10 _ (by decide), ?_⟩
    rw [plain_raise]
    rfl
  · have hIs : snapshotLate { s with out := [] } = { s with out := [] } := by
      refine if_pos ?_
      have hStops : (!takesSnapshots s || s.pair.appliedAt == s.pair.boundary) = true := by
        rcases hNot with hNot | hNot <;> simp [hNot]
      exact hStops
    exact hExec.trans (congrArg Outcome.next hIs)

/-! ### COPY_VERIFIED -/

theorem copyVerified_row {t : Nat} {c : Snapshot} {nb : List (Nat × Neighbour)} {s x : State} (hRun : running s = true) (hBegin : begin_ t s = x) :
    (isDummy x = true → x.pair.sync = .copying →
      ∃ t', exec (.copyVerified t c nb) s = .next t' ∧ kept t' = kept x ∧ t'.pair.sync = .lockstep ∧ t'.pair.lockRun = 0 ∧
        t'.pair.snapAck = c.hand ∧ t'.time.future = c.future ∧ t'.time.past = c.past ∧ t'.time.currentOffset = c.currentOffset ∧
        t'.time.pend = c.pend ∧ t'.time.slewing = c.slewing ∧ t'.time.slewRem = c.slewRem) ∧
    (isDummy x = false ∨ x.pair.sync ≠ .copying → exec (.copyVerified t c nb) s = .next x) := by
  have hRunX : running x = true := hBegin ▸ running_begin hRun
  refine ⟨fun hDummy hCopying => ?_, fun hNot => ?_⟩
  · have hIs : copyVerified t c nb s = updPair (fun p => { p with sync := .lockstep, lockRun := 0 })
        (applyItems c { x with ptp := { x.ptp with grants := [], neighbours := nb } }) := by
      unfold copyVerified
      rw [hBegin]
      dsimp only
      rw [if_neg (by simp [hRunX, hDummy, hCopying])]
    have hRow : exec (.copyVerified t c nb) s = .next _ := congrArg Outcome.next hIs
    obtain ⟨⟨a, hPair⟩, b, hTime⟩ := applyItems_takes c { x with ptp := { x.ptp with grants := [], neighbours := nb } }
    revert hRow hPair hTime
    generalize applyItems c { x with ptp := { x.ptp with grants := [], neighbours := nb } } = y
    intro hRow hPair hTime
    have hKept := kept_row (t := t) rfl hRow
    rw [hBegin] at hKept
    have hEndPair : (updPair (fun p => { p with sync := .lockstep, lockRun := 0 }) y).pair = { y.pair with sync := .lockstep, lockRun := 0 } := rfl
    have hEndTime : (updPair (fun p => { p with sync := .lockstep, lockRun := 0 }) y).time = y.time := rfl
    rw [hTime] at hEndTime
    rw [hPair] at hEndPair
    refine ⟨_, hRow, hKept, ?_⟩
    rw [hEndPair, hEndTime]
    exact ⟨rfl, rfl, rfl, rfl, rfl, rfl, rfl, rfl, rfl⟩
  · have hIs : copyVerified t c nb s = x := by
      unfold copyVerified
      rw [hBegin]
      dsimp only
      refine if_pos ?_
      rcases hNot with hNot | hNot <;> simp [hNot]
    exact congrArg Outcome.next hIs

end Sys2Proof.Machine
end

section
/-! PROOFS. LOCKSTEP compared, mirrored commands answered, findings and self-tests (R406, R407, R411 to R414). -/
namespace Sys2Proof.Machine
open Sys2Proof Host

/-! ### LOCKSTEP_COMPARE (R407, R408) -/

/-- A hand whose digests are equal. -/
def handMatched (s : State) : State := updPair (fun p => { p with lockRun := p.lockRun + 1, lockFails := 0 }) s
/-- A hand whose digests differ. -/
def handDiffers (s : State) : State :=
  bump (64 * 12 + 36) (updPair (fun p => { p with lockRun := 0, lockFails := p.lockFails + 1, mismatches := (p.mismatches + 1) % 2 ^ 32 }) s)
/-- The third hand in a row that differs. -/
def lockstepFails (s : State) : State := raise 12 5 (updPair (fun p => { p with stopped := true, lockFails := 0 }) s)

section
variable {t : Nat} {d : Bytes} {s x : State}
theorem lockstepCompare_matches (hBegin : begin_ t s = x) (hDummy : isDummy x = true) (hLock : x.pair.sync = .lockstep) (hSame : lockDigest x = some d) :
    lockstepCompare t d s = if x.pair.lockRun + 1 ≥ x.work.pair.lockstepHands
      then raise 12 4 (updPair (fun p => { p with sync := .synced }) (handMatched x)) else handMatched x := by
  unfold lockstepCompare
  rw [hBegin]
  dsimp only
  rw [if_neg (by simp [hDummy, hLock]), if_pos hSame]
  rfl
theorem lockstepCompare_differs (hBegin : begin_ t s = x) (hDummy : isDummy x = true) (hLock : x.pair.sync = .lockstep) (hDiffer : lockDigest x ≠ some d) :
    lockstepCompare t d s = if x.pair.lockFails + 1 ≥ 3 then enterJoining (lockstepFails (handDiffers x))
      else updPair (fun p => { p with sync := .copying }) (handDiffers x) := by
  unfold lockstepCompare
  rw [hBegin]
  dsimp only
  rw [if_neg (by simp [hDummy, hLock]), if_neg hDiffer]
  rfl

theorem lockstepFails_joins (hDummy : isDummy x = true) :
    causeStands 12 5 (enterJoining (lockstepFails (handDiffers x))) ∧ (enterJoining (lockstepFails (handDiffers x))).pair.sync = .joining ∧
    (enterJoining (lockstepFails (handDiffers x))).pair.stopped = true ∧ (enterJoining (lockstepFails (handDiffers x))).pair.lockFails = 0 ∧
    (enterJoining (lockstepFails (handDiffers x))).pair.mismatches = (x.pair.mismatches + 1) % 2 ^ 32 := by
  have hPair : (lockstepFails (handDiffers x)).pair =
      { x.pair with lockRun := 0, mismatches := (x.pair.mismatches + 1) % 2 ^ 32, stopped := true, lockFails := 0 } := (raise_pair _ _ _).trans rfl
  have hWork : (lockstepFails (handDiffers x)).work = x.work := (work_of_plain (plain_raise _ _ _)).trans rfl
  have hStands : causeStands 12 5 (lockstepFails (handDiffers x)) := stands_raise_self 12 5 _ (by decide)
  generalize lockstepFails (handDiffers x) = y at hPair hWork hStands
  simp only [isDummy, Bool.and_eq_true, beq_iff_eq, Bool.not_eq_true'] at hDummy
  have hFollows := follows_enterJoining ((congrArg (·.pair.mode) hWork).trans hDummy.1) ((congrArg (·.enable) hPair).trans hDummy.2) (follows_refl y)
  obtain ⟨-, -, -, hJoins⟩ := enterJoining_fields y
  refine ⟨hFollows.2 _ _ hStands, ?_⟩
  rw [hJoins, hPair]
  exact ⟨rfl, rfl, rfl, rfl⟩

theorem lockstepCompare_row (hRun : running s = true) (hBegin : begin_ t s = x) (hDummy : isDummy x = true) (hLock : x.pair.sync = .lockstep) :
    (lockDigest x = some d → x.pair.lockRun + 1 < x.work.pair.lockstepHands →
      exec (.lockstepCompare t d) s = .next { x with pair := { x.pair with lockRun := x.pair.lockRun + 1, lockFails := 0 } }) ∧
    (lockDigest x = some d → x.work.pair.lockstepHands ≤ x.pair.lockRun + 1 → ∃ t', exec (.lockstepCompare t d) s = .next t' ∧ causeStands 12 4 t' ∧
      plain t' = plain { x with pair := { x.pair with lockRun := x.pair.lockRun + 1, lockFails := 0, sync := .synced } }) ∧
    (lockDigest x ≠ some d → x.pair.lockFails < 2 → ∃ t', exec (.lockstepCompare t d) s = .next t' ∧
      plain t' = plain { x with pair := { x.pair with lockRun := 0, lockFails := x.pair.lockFails + 1, mismatches := (x.pair.mismatches + 1) % 2 ^ 32, sync := .copying } }) ∧
    (lockDigest x ≠ some d → 2 ≤ x.pair.lockFails → ∃ t', exec (.lockstepCompare t d) s = .next t' ∧ kept t' = kept x ∧ causeStands 12 5 t' ∧
      t'.pair.sync = .joining ∧ t'.pair.stopped = true ∧ t'.pair.lockFails = 0 ∧ t'.pair.mismatches = (x.pair.mismatches + 1) % 2 ^ 32) := by
  have hExec : exec (.lockstepCompare t d) s = .next (lockstepCompare t d s) := congrArg Outcome.next (if_pos hRun)
  refine ⟨fun hSame hFew => ?_, fun hSame hEnough => ?_, fun hDiffer hFew => ?_, fun hDiffer hThird => ?_⟩
  · rw [lockstepCompare_matches hBegin hDummy hLock hSame, if_neg (Nat.not_le.mpr hFew)] at hExec
    exact hExec
  · rw [lockstepCompare_matches hBegin hDummy hLock hSame, if_pos hEnough] at hExec
    refine ⟨_, hExec, stands_raise_self 12 4 _ (by decide), ?_⟩
    rw [plain_raise]
    rfl
  · rw [lockstepCompare_differs hBegin hDummy hLock hDiffer, if_neg (by omega)] at hExec
    exact ⟨_, hExec, rfl⟩
  · rw [lockstepCompare_differs hBegin hDummy hLock hDiffer, if_pos (by omega)] at hExec
    have hKept := kept_row (t := t) rfl hExec
    rw [hBegin] at hKept
    exact ⟨_, hExec, hKept, lockstepFails_joins hDummy⟩
end

/-! ### MIRROR_REPLY_RX (R406) -/

section
variable {t op tag st : Nat} {s x : State} {m : MirrorWait}
/-- The partner's status is kept where it is the only command that waits, and compared where the own one is known. -/
theorem mirrorReplyRx_hit (hBegin : begin_ t s = x) (hOne : x.pair.mirrors = [m]) (hNone : m.partner = none) (hOp : m.opcode = op) (hTag : m.tag = tag) :
    mirrorReplyRx t op tag st s = settleMirrors { x with pair := { x.pair with mirrors := [{ m with partner := some (st % 256) }] } } := by
  have hFound : [m].findIdx? (fun m : MirrorWait => m.opcode == op && m.tag == tag && m.partner.isNone) = some 0 := by
    simp [List.findIdx?_cons, hOp, hTag, hNone]
  unfold mirrorReplyRx
  rw [hBegin]
  dsimp only
  rw [hOne, hFound]
  have hNoted : upd x.pair.mirrors 0 (fun m => { m with partner := some (st % 256) }) = [{ m with partner := some (st % 256) }] := by
    rw [hOne]
    rfl
  exact congrArg (fun l => settleMirrors { x with pair := { x.pair with mirrors := l } }) hNoted
theorem mirrorReplyRx_miss (hBegin : begin_ t s = x) (hOne : x.pair.mirrors = [m]) (hOther : m.opcode ≠ op ∨ m.tag ≠ tag) : mirrorReplyRx t op tag st s = x := by
  have hFound : [m].findIdx? (fun m : MirrorWait => m.opcode == op && m.tag == tag && m.partner.isNone) = none := by
    rcases hOther with hOther | hOther <;> simp [List.findIdx?_cons, hOther]
  unfold mirrorReplyRx
  rw [hBegin]
  dsimp only
  rw [hOne, hFound]

/-- Both statuses of a mirrored command are known. -/
def bothKnown (m : MirrorWait) : Bool := m.own.isSome && m.partner.isSome
/-- A command that waits for one status more keeps waiting. -/
theorem settleMirrors_waits (hOne : x.pair.mirrors = [m]) (hWaits : bothKnown m = false) : settleMirrors x = x := by
  have hReady : x.pair.mirrors.filter bothKnown = [] := by simp [hOne, hWaits]
  have hLeft : x.pair.mirrors.filter (fun m => !bothKnown m) = x.pair.mirrors := by simp [hOne, hWaits]
  have hIs : settleMirrors x = (x.pair.mirrors.filter bothKnown).foldl (fun s m =>
      if m.own = m.partner ∨ m.own = some stNotOwner ∨ m.partner = some stNotOwner then s
      else mirrorMismatch m.opcode m.tag (m.partner.getD 0xFF) s)
      { x with pair := { x.pair with mirrors := x.pair.mirrors.filter (fun m => !bothKnown m) } } := rfl
  rw [hIs, hReady, hLeft]
  rfl
/-- A command whose statuses are both known is settled: a mismatch where they differ and neither is NOT_OWNER. -/
theorem settleMirrors_settles {a b : Nat} (hOne : x.pair.mirrors = [m]) (hOwn : m.own = some a) (hPartner : m.partner = some b) :
    settleMirrors x = if a = b ∨ a = 0x21 ∨ b = 0x21 then { x with pair := { x.pair with mirrors := [] } }
      else mirrorMismatch m.opcode m.tag b { x with pair := { x.pair with mirrors := [] } } := by
  have hBoth : bothKnown m = true := by simp [bothKnown, hOwn, hPartner]
  have hReady : x.pair.mirrors.filter bothKnown = [m] := by simp [hOne, hBoth]
  have hLeft : x.pair.mirrors.filter (fun m => !bothKnown m) = [] := by simp [hOne, hBoth]
  have hIs : settleMirrors x = (x.pair.mirrors.filter bothKnown).foldl (fun s m =>
      if m.own = m.partner ∨ m.own = some stNotOwner ∨ m.partner = some stNotOwner then s
      else mirrorMismatch m.opcode m.tag (m.partner.getD 0xFF) s)
      { x with pair := { x.pair with mirrors := x.pair.mirrors.filter (fun m => !bothKnown m) } } := rfl
  rw [hIs, hReady, hLeft, List.foldl_cons, List.foldl_nil, hOwn, hPartner]
  simp only [Option.some.injEq, Option.getD_some, stNotOwner]
end

theorem mirrorReplyRx_row {t op tag st : Nat} {s x : State} {m : MirrorWait} (hRun : running s = true) (hBegin : begin_ t s = x)
    (hOne : x.pair.mirrors = [m]) (hNone : m.partner = none) :
    (m.opcode = op → m.tag = tag → m.own = none → exec (.mirrorReplyRx t op tag st) s = .next { x with pair := { x.pair with mirrors := [{ m with partner := some (st % 256) }] } }) ∧
    (∀ o, m.opcode = op → m.tag = tag → m.own = some o → o = st % 256 ∨ o = 0x21 ∨ st % 256 = 0x21 → exec (.mirrorReplyRx t op tag st) s = .next { x with pair := { x.pair with mirrors := [] } }) ∧
    (∀ o, m.opcode = op → m.tag = tag → m.own = some o → o ≠ st % 256 → o ≠ 0x21 → st % 256 ≠ 0x21 → ∃ t', exec (.mirrorReplyRx t op tag st) s = .next t' ∧ causeStands 12 11 t' ∧
      plain t' = plain { x with pair := { x.pair with mirrors := [], mirrorOpcode := op, mirrorTag := tag, mirrorStatus := st % 256 } }) ∧
    (m.opcode ≠ op ∨ m.tag ≠ tag → exec (.mirrorReplyRx t op tag st) s = .next x) := by
  have hExec : exec (.mirrorReplyRx t op tag st) s = .next (mirrorReplyRx t op tag st s) := congrArg Outcome.next (if_pos hRun)
  refine ⟨fun hOp hTag hOwn => ?_, fun o hOp hTag hOwn hAgrees => ?_, fun o hOp hTag hOwn hDiffer hNotOwn hNotPartner => ?_,
    fun hOther => hExec.trans (congrArg Outcome.next (mirrorReplyRx_miss hBegin hOne hOther))⟩
  · rw [mirrorReplyRx_hit hBegin hOne hNone hOp hTag, settleMirrors_waits rfl (by simp [bothKnown, hOwn])] at hExec
    exact hExec
  · rw [mirrorReplyRx_hit hBegin hOne hNone hOp hTag, settleMirrors_settles (m := { m with partner := some (st % 256) }) rfl hOwn rfl, if_pos hAgrees] at hExec
    exact hExec
  · rw [mirrorReplyRx_hit hBegin hOne hNone hOp hTag, settleMirrors_settles (m := { m with partner := some (st % 256) }) rfl hOwn rfl, if_neg (by simp [hDiffer, hNotOwn, hNotPartner])] at hExec
    refine ⟨_, hExec, stands_raise_self 12 11 _ (by decide), ?_⟩
    unfold mirrorMismatch
    rw [plain_raise, hOp, hTag]
    rfl

/-! ### Findings (R411, R412, R414) -/

/-- What a Dummy needs to seize on a finding (R387, R414). -/
def maySeize (force : Bool) (x : State) : Prop :=
  x.work.pair.flags.testBit 1 = true ∧ (x.pair.sync = .synced ∨ force = true) ∧ testsBad x = false ∧ x.pair.live = true

section
variable {k : Nat} {force : Bool} {x : State}
theorem trySeize_declarer (hNot : isDummy x = false) : trySeize k force x = x := by
  unfold trySeize
  dsimp only
  rw [if_pos (by simp [hNot])]
theorem trySeize_noted (hDummy : isDummy x = true) (hEdge : x.pair.edge = none) :
    trySeize k force x = if bit x.work.pair.flags 1 && (x.pair.sync == .synced || force) && !testsBad (updPair (fun p => { p with lastFinding := k }) x) && x.pair.live
      then raise 12 6 (updPair (fun p => { p with seizing := true }) (updPair (fun p => { p with lastFinding := k }) x))
      else raise 12 7 (updPair (fun p => { p with lastFinding := k }) x) := by
  unfold trySeize
  dsimp only
  rw [if_neg (by simp [hDummy, hEdge])]
  rfl
theorem trySeize_seizes (hDummy : isDummy x = true) (hEdge : x.pair.edge = none) (hMay : maySeize force x) :
    trySeize k force x = raise 12 6 { x with pair := { x.pair with lastFinding := k, seizing := true } } := by
  obtain ⟨hPermitted, hSynced, hTests, hLive⟩ := hMay
  have hWell : testsBad (updPair (fun p => { p with lastFinding := k }) x) = false := hTests
  rw [trySeize_noted hDummy hEdge, if_pos (by rcases hSynced with hSynced | hSynced <;> simp [bit, hPermitted, hSynced, hWell, hLive])]
  rfl
theorem trySeize_notes (hDummy : isDummy x = true) (hEdge : x.pair.edge = none) (hNot : ¬ maySeize force x) :
    trySeize k force x = raise 12 7 { x with pair := { x.pair with lastFinding := k } } := by
  have hStops : ¬ (bit x.work.pair.flags 1 && (x.pair.sync == .synced || force) && !testsBad (updPair (fun p => { p with lastFinding := k }) x) && x.pair.live) = true := by
    intro hAll
    simp only [bit, Bool.and_eq_true, Bool.or_eq_true, beq_iff_eq, Bool.not_eq_true'] at hAll
    obtain ⟨⟨⟨hPermitted, hSynced⟩, hTests⟩, hLive⟩ := hAll
    exact hNot ⟨hPermitted, hSynced, hTests, hLive⟩
  rw [trySeize_noted hDummy hEdge, if_neg hStops]
  rfl
end

theorem switchRequestRx_row {t : Nat} {f : Bool} {s x : State} (hRun : running s = true) (hBegin : begin_ t s = x) :
    (isDummy x = true → x.pair.edge = none → maySeize f x → ∃ t', exec (.switchRequestRx t f) s = .next t' ∧ causeStands 12 6 t' ∧
      plain t' = plain { x with pair := { x.pair with lastFinding := 3, seizing := true } }) ∧
    (isDummy x = true → x.pair.edge = none → ¬ maySeize f x → ∃ t', exec (.switchRequestRx t f) s = .next t' ∧ causeStands 12 7 t' ∧
      plain t' = plain { x with pair := { x.pair with lastFinding := 3 } }) ∧
    (isDummy x = false → exec (.switchRequestRx t f) s = .next x) := by
  have hExec : exec (.switchRequestRx t f) s = .next (trySeize 3 f x) :=
    congrArg Outcome.next ((if_pos hRun).trans (congrArg (trySeize 3 f) hBegin))
  refine ⟨fun hDummy hEdge hMay => ?_, fun hDummy hEdge hNot => ?_, fun hDeclarer => hExec.trans (congrArg Outcome.next (trySeize_declarer hDeclarer))⟩
  · rw [trySeize_seizes hDummy hEdge hMay] at hExec
    exact ⟨_, hExec, stands_raise_self 12 6 _ (by decide), plain_raise _ _ _⟩
  · rw [trySeize_notes hDummy hEdge hNot] at hExec
    exact ⟨_, hExec, stands_raise_self 12 7 _ (by decide), plain_raise _ _ _⟩

end Sys2Proof.Machine
end

section
/-! PROOFS. Comparisons, self-tests, LOCKSTEP inputs and mirrored commands of the pair (R406, R408, R411 to R413). -/
namespace Sys2Proof.Machine
open Sys2Proof Host

/-! ### COMPARE_CHECK (R411, R412) -/

/-- The entry with one check more: its difference where a stop paired, and whether it failed. -/
def checkedRun (d : Option Int) (bad : Bool) (r : CompareRun) : CompareRun :=
  { r with
    failRun := if bad then r.failRun + 1 else 0, checks := (r.checks + 1) % 2 ^ 32, lastDiff := d.getD r.lastDiff
    sum := r.sum + d.getD 0, n := if d.isSome then r.n + 1 else r.n }

/-- The state with an entry's run in place of the one it has. -/
def withRow (k : Nat) (r : CompareRun) (x : State) : State := { x with pair := { x.pair with rows := x.pair.rows.set k r } }

/-- A check fails where no stop pairs, or where its interval is out of COMPARE_LIMIT. -/
def compareFails (limit : Nat) : Option Int → Bool
  | some d => decide (d.natAbs > limit)
  | none => true

section
variable {k t : Nat} {s x : State} {e : CompareCfg} {r : CompareRun}

theorem updPair_row (hRow : x.pair.rows[k]? = some r) (f : CompareRun → CompareRun) :
    updPair (fun p => { p with rows := upd p.rows k f }) x = withRow k (f r) x :=
  congrArg (fun l => { x with pair := { x.pair with rows := l } }) (upd_of_get hRow)
theorem withRow_get (hRow : x.pair.rows[k]? = some r) (z : CompareRun) : nth (withRow k z x).pair.rows k = z :=
  nth_of_get (List.getElem?_set_self (List.getElem?_eq_some_iff.mp hRow).1)
/-- A check is noted in its entry's run; the run that reaches COMPARE_COUNT is a finding, and a full run makes a trim. -/
theorem compareCheck_checks (v : Option Int) (hBegin : begin_ t s = x) (hRun : running x = true) (hEntry : x.work.pair.entries[k]? = some e)
    (hRow : x.pair.rows[k]? = some r) (hDummy : isDummy x = true) {z : CompareRun}
    (hChecked : checkedRun (v.map (· - e.tap)) (compareFails x.work.pair.compareLimit (v.map (· - e.tap))) r = z) :
    compareCheck k t v s = trimUpdate k e (if z.failRun = x.work.pair.compareCount then trySeize 1 false (withRow k z x) else withRow k z x) := by
  have hBoth : (isDummy x && running x) = true := by rw [hDummy, hRun]; rfl
  unfold compareCheck
  rw [hBegin]
  dsimp only
  rw [hEntry, hBoth]
  dsimp only
  rw [updPair_row hRow, withRow_get hRow]
  subst hChecked
  cases v <;> rfl
/-- Fewer than 64 results make no trim. -/
theorem trimUpdate_few (hFew : (nth x.pair.rows k).n < 64) : trimUpdate k e x = x := by
  unfold trimUpdate
  dsimp only
  rw [if_pos hFew]

/-- A check that does not reach COMPARE_COUNT, of fewer than 64 results, is noted and nothing else. -/
theorem compareCheck_noted (v : Option Int) (hBegin : begin_ t s = x) (hRun : running x = true) (hEntry : x.work.pair.entries[k]? = some e)
    (hRow : x.pair.rows[k]? = some r) (hDummy : isDummy x = true) {z : CompareRun}
    (hChecked : checkedRun (v.map (· - e.tap)) (compareFails x.work.pair.compareLimit (v.map (· - e.tap))) r = z)
    (hCount : z.failRun ≠ x.work.pair.compareCount) (hFew : z.n < 64) : exec (.compareCheck k t v) s = .next (withRow k z x) := by
  refine congrArg Outcome.next ?_
  rw [compareCheck_checks v hBegin hRun hEntry hRow hDummy hChecked, if_neg hCount]
  exact trimUpdate_few (by rw [withRow_get hRow]; exact hFew)
/-- The failure that reaches COMPARE_COUNT is a finding, on which a Dummy that may seize does. -/
theorem compareCheck_seizes (v : Option Int) (hBegin : begin_ t s = x) (hRun : running x = true) (hEntry : x.work.pair.entries[k]? = some e)
    (hRow : x.pair.rows[k]? = some r) (hDummy : isDummy x = true) {z : CompareRun}
    (hChecked : checkedRun (v.map (· - e.tap)) (compareFails x.work.pair.compareLimit (v.map (· - e.tap))) r = z)
    (hCount : z.failRun = x.work.pair.compareCount) (hFew : z.n < 64) (hEdge : x.pair.edge = none) (hMay : maySeize false x) :
    exec (.compareCheck k t v) s = .next (raise 12 6 { withRow k z x with pair := { (withRow k z x).pair with lastFinding := 1, seizing := true } }) := by
  refine congrArg Outcome.next ?_
  rw [compareCheck_checks v hBegin hRun hEntry hRow hDummy hChecked, if_pos hCount, trySeize_seizes (x := withRow k z x) hDummy hEdge hMay]
  refine trimUpdate_few ?_
  rw [raise_pair]
  have hStill : (nth (withRow k z x).pair.rows k).n < 64 := by
    rw [withRow_get hRow]
    exact hFew
  exact hStill

theorem compareCheck_row (hRun : running s = true) (hBegin : begin_ t s = x) (hEntry : x.work.pair.entries[k]? = some e)
    (hRow : x.pair.rows[k]? = some r) (hDummy : isDummy x = true) :
    let row : CompareRun → State := fun r => { x with pair := { x.pair with rows := x.pair.rows.set k r } }
    (∀ v : Int, r.n < 63 →
      let ok : Prop := (v - e.tap).natAbs ≤ x.work.pair.compareLimit
      let z : CompareRun := { r with checks := (r.checks + 1) % 2 ^ 32, lastDiff := v - e.tap, sum := r.sum + (v - e.tap), n := r.n + 1 }
      (ok → 0 < x.work.pair.compareCount → exec (.compareCheck k t (some v)) s = .next (row { z with failRun := 0 })) ∧
      (¬ ok → r.failRun + 1 ≠ x.work.pair.compareCount → exec (.compareCheck k t (some v)) s = .next (row { z with failRun := r.failRun + 1 })) ∧
      (¬ ok → r.failRun + 1 = x.work.pair.compareCount → x.pair.edge = none → x.work.pair.flags.testBit 1 = true → x.pair.sync = .synced → testsBad x = false → x.pair.live = true →
        ∃ t', exec (.compareCheck k t (some v)) s = .next t' ∧ causeStands 12 6 t' ∧
          plain t' = plain { row { z with failRun := r.failRun + 1 } with pair := { (row { z with failRun := r.failRun + 1 }).pair with lastFinding := 1, seizing := true } })) ∧
    (r.n < 64 → r.failRun + 1 ≠ x.work.pair.compareCount →
      exec (.compareCheck k t none) s = .next (row { r with failRun := r.failRun + 1, checks := (r.checks + 1) % 2 ^ 32 })) := by
  intro row
  have hRunX : running x = true := hBegin ▸ running_begin hRun
  refine ⟨fun v hFew => ?_, fun hFew hCount => ?_⟩
  · intro ok z
    have hIn : ok → checkedRun (some (v - e.tap)) (compareFails x.work.pair.compareLimit (some (v - e.tap))) r = { z with failRun := 0 } := by
      intro hOk
      have hPasses : compareFails x.work.pair.compareLimit (some (v - e.tap)) = false := decide_eq_false (Nat.not_lt.mpr hOk)
      rw [hPasses]
      rfl
    have hOut : ¬ ok → checkedRun (some (v - e.tap)) (compareFails x.work.pair.compareLimit (some (v - e.tap))) r = { z with failRun := r.failRun + 1 } := by
      intro hNot
      have hFails : compareFails x.work.pair.compareLimit (some (v - e.tap)) = true := decide_eq_true (Nat.lt_of_not_le hNot)
      rw [hFails]
      rfl
    have hFull : r.n + 1 < 64 := Nat.succ_lt_succ hFew
    refine ⟨fun hOk hPos => ?_, fun hNot hCount => ?_, fun hNot hCount hEdge hFlag hSync hTests hLive => ?_⟩
    · exact compareCheck_noted (some v) hBegin hRunX hEntry hRow hDummy (hIn hOk) (Nat.ne_of_lt hPos) hFull
    · exact compareCheck_noted (some v) hBegin hRunX hEntry hRow hDummy (hOut hNot) hCount hFull
    · have hGoes := compareCheck_seizes (some v) hBegin hRunX hEntry hRow hDummy (hOut hNot) hCount hFull hEdge ⟨hFlag, .inl hSync, hTests, hLive⟩
      exact ⟨_, hGoes, stands_raise_self 12 6 _ (by decide), plain_raise _ _ _⟩
  · refine compareCheck_noted none hBegin hRunX hEntry hRow hDummy ?_ hCount hFew
    unfold checkedRun compareFails
    simp
end

/-! ### SELFTEST_RUN (R413) -/

section
variable {i t d : Nat} {s x : State} {v : TestItem}

/-- The items 2 and 5 run in either role, and their outcome is the one that the row gives. -/
theorem selftestRun_runs (ok : Bool) (hBegin : begin_ t s = x) (hRun : running x = true) (hItem : i = 2 ∨ i = 5) :
    selftestRun i t ok d s = testRan i ok 0 x := by
  unfold selftestRun
  rw [hBegin]
  rcases hItem with rfl | rfl
  · dsimp only
    rw [if_neg (by simp [hRun, testRole])]
    rfl
  · dsimp only
    rw [if_neg (by simp [hRun, testRole])]
    rfl

theorem updPair_tests (hTest : x.pair.tests[i]? = some v) (f : TestItem → TestItem) :
    updPair (fun p => { p with tests := upd p.tests i f }) x = { x with pair := { x.pair with tests := x.pair.tests.set i (f v) } } :=
  congrArg (fun l => { x with pair := { x.pair with tests := l } }) (upd_of_get hTest)
theorem testRan_passes (hTest : x.pair.tests[i]? = some v) : testRan i true d x =
    { x with pair := { x.pair with tests := x.pair.tests.set i { v with result := 0, detail := 0, lastRun := (x.now - x.boot.resetEnd) / 1000000000 } } } := by
  unfold testRan
  rw [updPair_tests hTest]
  rfl
theorem testRan_fails (hTest : x.pair.tests[i]? = some v) :
    (v.result ≠ 1 → causeStands 12 8 (testRan i false 0 x)) ∧
    (testRan i false 0 x).pair = { x.pair with tests := x.pair.tests.set i { v with result := 1, detail := 0, lastRun := (x.now - x.boot.resetEnd) / 1000000000, failures := (v.failures + 1) % 2 ^ 32 } } := by
  unfold testRan
  rw [updPair_tests hTest, nth_of_get hTest]
  dsimp only
  by_cases hStood : v.result = 1
  · rw [if_pos (by simp [hStood])]
    exact ⟨fun hNew => absurd hStood hNew, rfl⟩
  · rw [if_neg (by simp [hStood])]
    exact ⟨fun _ => stands_occur _ _ (stands_raise_self 12 8 _ (by decide)), (occur_pair _ _ _).trans (raise_pair _ _ _)⟩
theorem selftestRun_row (hRun : running s = true) (hBegin : begin_ t s = x) (hItem : i = 2 ∨ i = 5) (hTest : x.pair.tests[i]? = some v) :
    exec (.selftestRun i t true d) s = .next { x with pair := { x.pair with tests := x.pair.tests.set i { v with result := 0, detail := 0, lastRun := (x.now - x.boot.resetEnd) / 1000000000 } } } ∧
    ∃ t', exec (.selftestRun i t false d) s = .next t' ∧ (v.result ≠ 1 → causeStands 12 8 t') ∧
      t'.pair = { x.pair with tests := x.pair.tests.set i { v with result := 1, detail := 0, lastRun := (x.now - x.boot.resetEnd) / 1000000000, failures := (v.failures + 1) % 2 ^ 32 } } := by
  have hRunX : running x = true := hBegin ▸ running_begin hRun
  refine ⟨congrArg Outcome.next ((selftestRun_runs true hBegin hRunX hItem).trans (testRan_passes hTest)), _,
    congrArg Outcome.next (selftestRun_runs false hBegin hRunX hItem), testRan_fails hTest⟩
end

/-! ### LOCKSTEP_INPUT_RX (R408) -/

/-- What a command of the Declarer leaves of a Dummy: its items, on the instant of the Dummy's own clock. -/
def takeItems (t x : State) : State :=
  let b := moveTo t.now x
  { b with
    time := { b.time with
      future := t.time.future, past := t.time.past, currentOffset := t.time.currentOffset, smearStart := t.time.smearStart
      pend := t.time.pend, slewing := t.time.slewing, slewOwner := t.time.slewOwner, slewRem := t.time.slewRem, slewInc := t.time.slewInc }
    sels := t.sels.zipIdx.map fun (r, d) => { nth b.sels d with mode := r.mode, pick := r.pick }
    hold := t.hold, ntp := t.ntp, ptp := { b.ptp with grants := t.ptp.grants }, score := t.score }

theorem moveTo_rate (ps : Nat) (s : State) : (moveTo ps s).time.rate = s.time.rate := by
  obtain ⟨c, r, a, l, hTime⟩ := moveTo_time ps s
  rw [hTime]
theorem takeItems_keeps (t x : State) : (takeItems t x).pair = x.pair ∧ (takeItems t x).outs = x.outs ∧ (takeItems t x).time.rate = x.time.rate :=
  ⟨moveTo_pair t.now x, moveTo_outs t.now x, moveTo_rate t.now x⟩
/-- A command of the Declarer is taken for its items alone, or not at all. -/
theorem lockCommand_takes (op tag : Nat) (p : Bytes) (x : State) : lockCommand op tag p x = x ∨ ∃ t, lockCommand op tag p x = takeItems t x := by
  unfold lockCommand
  split
  · exact .inl rfl
  · dsimp only
    split
    case h_1 t _ => exact .inr ⟨t, rfl⟩
    case h_2 t _ => exact .inr ⟨t, rfl⟩
    case h_3 t _ => exact .inr ⟨t, rfl⟩
    case h_4 => exact .inl rfl
theorem lockCommand_keeps (op tag : Nat) (p : Bytes) (x : State) :
    (lockCommand op tag p x).pair = x.pair ∧ (lockCommand op tag p x).outs = x.outs ∧ (lockCommand op tag p x).time.rate = x.time.rate ∧
    (lockCommands.contains op = false → lockCommand op tag p x = x) := by
  have hOther : lockCommands.contains op = false → lockCommand op tag p x = x := fun hNot => if_pos (by rw [hNot]; rfl)
  rcases lockCommand_takes op tag p x with hSame | ⟨t, hTakes⟩
  · rw [hSame]
    exact ⟨rfl, rfl, rfl, fun _ => rfl⟩
  · obtain ⟨hPair, hOuts, hRate⟩ := takeItems_keeps t x
    exact ⟨(congrArg (·.pair) hTakes).trans hPair, (congrArg (·.outs) hTakes).trans hOuts, (congrArg (·.time.rate) hTakes).trans hRate, hOther⟩
theorem rotate_current {i : Nat} {x : State} (hIn : i < x.ntp.insts.length) : (ntpRun (rotate i x) i).current = (ntpRun x i).next := by
  have hGet : x.ntp.insts[i]? = some (x.ntp.insts[i]) := List.getElem?_eq_getElem hIn
  rw [ntpRun_rotate hGet, ntpRun, nth_of_get hGet]

theorem lockstepInputRx_row {t : Nat} {s x : State} (hRun : running s = true) (hBegin : begin_ t s = x) :
    (isDummy x = true → x.pair.sync = .lockstep →
      (∀ k g, exec (.lockstepInputRx t (.grant k (some g))) s = .next { x with ptp := { x.ptp with grants := putKey k g x.ptp.grants } }) ∧
      (∀ k, exec (.lockstepInputRx t (.grant k none)) s = .next { x with ptp := { x.ptp with grants := delKey k x.ptp.grants } }) ∧
      (∀ f p o, exec (.lockstepInputRx t (.leap f p o)) s = .next { x with time := { x.time with future := f, past := p, currentOffset := o } }) ∧
      (∀ i, ∃ t', exec (.lockstepInputRx t (.rotation i)) s = .next t' ∧ causeStands 11 3 t' ∧ (i < x.ntp.insts.length → (ntpRun t' i).current = (ntpRun x i).next)) ∧
      (∀ d src, ∃ t', exec (.lockstepInputRx t (.selection d src)) s = .next t' ∧ t' = { x with pair := { x.pair with partner := t'.pair.partner } } ∧
        (d < x.pair.partner.selected.length → t'.pair.partner.selected[d]? = some src)) ∧
      (∀ op tag p, ∃ t', exec (.lockstepInputRx t (.command op tag p)) s = .next t' ∧ t'.pair = x.pair ∧ t'.outs = x.outs ∧ t'.time.rate = x.time.rate ∧
        (lockCommands.contains op = false → t' = x))) ∧
    (isDummy x = false ∨ x.pair.sync ≠ .lockstep → ∀ i, exec (.lockstepInputRx t i) s = .next x) := by
  have hRunX : running x = true := hBegin ▸ running_begin hRun
  have hExec : ∀ i, exec (.lockstepInputRx t i) s = .next (if running x && isDummy x && x.pair.sync == .lockstep then lockInput i x else x) := by
    intro i
    rw [← hBegin]
    rfl
  refine ⟨fun hDummy hLock => ?_, fun hNot i => ?_⟩
  · have hTaken : ∀ i, exec (.lockstepInputRx t i) s = .next (lockInput i x) := fun i => (hExec i).trans (congrArg Outcome.next (if_pos (by simp [hRunX, hDummy, hLock])))
    refine ⟨fun k g => hTaken _, fun k => hTaken _, fun f p o => hTaken _, fun i => ?_, fun d src => ?_, fun op tag p => ?_⟩
    · exact ⟨_, hTaken _, stands_rotate i x, rotate_current⟩
    · refine ⟨_, hTaken _, rfl, fun hIn => ?_⟩
      exact (upd_get _ d d _).trans ((if_pos rfl).trans (congrArg (Option.map _) (List.getElem?_eq_getElem hIn)))
    · exact ⟨_, hTaken _, lockCommand_keeps op tag p x⟩
  · refine (hExec i).trans (congrArg Outcome.next (if_neg ?_))
    rcases hNot with hNot | hNot <;> simp [hNot]

/-! ### MIRROR_RX (R406) -/

section
variable {op : Nat} {q : Req} {s e : State} {h : Nat → Handler}
/-- A command that starts at once and is refused is answered with its status. -/
theorem runCmdAt_refused {st d : Nat} (hStarts : startsAt op q s = true) (hMeans : h (arrivalOf op q s) q (started op q s) = .refuse st d) :
    runCmdAt op h q s = reply op q st d [] (started op q s) := by
  have hBanks := banks_of_base (base_reply op q st d [] (started op q s) (startsAt_mirror hStarts))
  rw [runCmdAt_starts h hStarts]
  unfold startCmd
  simp only [forwardMirror_off _ (startsAt_mirror hStarts), startsAt_header hStarts, hMeans, Bool.false_eq_true, if_false]
  exact acceptGo_off (hBanks.1 ▸ startsAt_pcie hStarts) (hBanks.2 ▸ startsAt_spi hStarts)
/-- A command whose reply follows a hardware action leaves its state. -/
theorem runCmdAt_later (hStarts : startsAt op q s = true) (hMeans : h (arrivalOf op q s) q (started op q s) = .later e)
    (hPcie : e.host.pcie = (started op q s).host.pcie) (hSpi : e.host.spi = (started op q s).host.spi) : runCmdAt op h q s = e := by
  rw [runCmdAt_starts h hStarts]
  unfold startCmd
  simp only [forwardMirror_off _ (startsAt_mirror hStarts), startsAt_header hStarts, hMeans, Bool.false_eq_true, if_false]
  exact acceptGo_off (hPcie ▸ startsAt_pcie hStarts) (hSpi ▸ startsAt_spi hStarts)
end

theorem mirrorRx_row {op : Nat} {q q' : Req} {s x : State} (hPartner : { q with src := .partner } = q') (hStarted : started op q' s = x) :
    (s.work.pair.mode ≠ 1 → exec (.mirrorRx op q) s = .next (begin_ q.time s)) ∧
    (s.work.pair.mode = 1 → startsAt op q' s = true →
      (∀ (data : Bytes) (y : State), meaningOf op (arrivalOf op q' s) q' x = .done data y → y.host.pcie = x.host.pcie → y.host.spi = x.host.spi → exec (.mirrorRx op q) s = done op q' data y) ∧
      (∀ st d, meaningOf op (arrivalOf op q' s) q' x = .refuse st d → exec (.mirrorRx op q) s = .next (reply op q' st d [] x)) ∧
      (∀ y : State, meaningOf op (arrivalOf op q' s) q' x = .later y → y.host.pcie = x.host.pcie → y.host.spi = x.host.spi → exec (.mirrorRx op q) s = .next y)) := by
  refine ⟨fun hNot => congrArg Outcome.next (if_pos (by simp [hNot])), fun hMode hStarts => ?_⟩
  have hRuns : exec (.mirrorRx op q) s = .next (runCmdAt op (meaningOf op) q' s) := by
    rw [← hPartner]
    exact congrArg Outcome.next (if_neg (by simp [hMode]))
  refine ⟨fun data y hMeans hPcie hSpi => ?_, fun st d hMeans => ?_, fun y hMeans hPcie hSpi => ?_⟩
  all_goals subst hStarted
  · exact hRuns.trans (runCmdAt_done hStarts hMeans hPcie hSpi)
  · exact hRuns.trans (congrArg Outcome.next (runCmdAt_refused hStarts hMeans))
  · exact hRuns.trans (congrArg Outcome.next (runCmdAt_later hStarts hMeans hPcie hSpi))

/-! ### The obligation -/

/-- Settles O43, row by row: each heartbeat, snapshot, copy, comparison, input, mirrored command, finding and self-test by its own lemma. -/
theorem pairSynchronises : Obligations.PairSynchronises := by
  unfold Obligations.PairSynchronises
  exact ⟨fun _ hMode hRun hUp => heartbeatTx_row hMode hRun hUp,
    fun n t h s => heartbeatRx_row n t h s,
    fun _ hRun => heartbeatLost_row hRun,
    fun _ _ hRun => snapshotTx_row hRun rfl,
    fun _ _ _ hRun => snapshotApply_row hRun rfl,
    fun _ hRun => ⟨(snapLate_row hRun rfl).1, (snapLate_row hRun rfl).2⟩,
    fun _ _ _ _ hRun => copyVerified_row hRun rfl,
    fun _ _ _ hRun hDummy hLock => lockstepCompare_row hRun rfl hDummy hLock,
    fun _ _ hRun => lockstepInputRx_row hRun rfl,
    fun _ _ _ => mirrorRx_row rfl rfl,
    fun _ _ _ _ _ _ hRun hOne hNone => mirrorReplyRx_row hRun rfl hOne hNone,
    fun _ _ _ hRun => switchRequestRx_row hRun rfl,
    fun _ _ _ _ _ hRun hEntry hRow hDummy => compareCheck_row hRun rfl hEntry hRow hDummy,
    fun _ _ _ _ _ hRun hItem hTest => selftestRun_row hRun rfl hItem hTest⟩

end Sys2Proof.Machine
end
